-- ==== Sys2Proof/Word.lean ====
section
/-!
DEFINITION. The word types of the model and the plainest arithmetic on them (R7, R8, R32).
-/

namespace Sys2Proof

/-- One byte, as the dictionary, the segments and the memories carry it. -/
abbrev Byte := BitVec 8

/-- A 32-bit register word (R9). -/
abbrev Word := BitVec 32

/-- A string of bytes: a STR or DOMAIN value, a segment's payload, a frame. -/
abbrev Bytes := List Byte

/-- `n` truncated to `w` bits: what a counter or field of width `w` keeps. -/
def trunc (w n : Nat) : Nat := n % 2 ^ w

/-- Bits [hi:lo] of a number, as R8 writes a bit range. -/
def bits (hi lo n : Nat) : Nat := n / 2 ^ lo % 2 ^ (hi + 1 - lo)

/-- Bit `i` of a number. -/
def bit (i n : Nat) : Bool := n / 2 ^ i % 2 == 1

/-- `n` with bit `i` set. -/
def setBit (i n : Nat) : Nat := n ||| 2 ^ i

/-- `n` with bit `i` cleared. -/
def clearBit (i n : Nat) : Nat := if bit i n then n - 2 ^ i else n

/-- A Bool as the 0 or 1 that a BOOL entry or a one-bit field holds (R32). -/
def b2n (b : Bool) : Nat := if b then 1 else 0

end Sys2Proof
end

