-- ==== Sys2Proof/Messages.lean ====
section
/-!
DEFINITION. What travels on the cable, as data: cells, training blocks and control blocks (chapters 03
and 04). The same types stand in the commands, for what arrives, and in the hub's output, for what it sends.
A block is given by its fields; `crcOk` says whether its check value matched (R76, R115, R122).
-/

namespace Sys2Proof

/-- Where a dictionary access comes from (R36): Keeper firmware itself, the host mailbox, ODAP from a
client source address on a CAN port, or the SYSTEM tunnel from a hub known by the port of arrival and
its ORIGIN_DEPTH, with the request's REQ_ID. -/
inductive Path where
  | keeper
  | mailbox
  | odap (port : Fin 6) (client : Byte)
  | system (port : Fin 3) (originDepth : Byte) (reqId : BitVec 16)
  deriving DecidableEq, Repr

/-- The paths that can take the hold of R544. -/
inductive HoldOwner where
  | host | keeper | memory
  deriving DecidableEq, Repr

/-- A CAN frame as the tunnel carries it (R349). -/
structure CanFrame where
  id : Nat
  extended : Bool
  fd : Bool
  brs : Bool
  esi : Bool
  data : Bytes
  deriving DecidableEq, Repr

/-- What the PCI configuration space holds (R418): the values of the header, the capabilities of the list and of the extended list in their
order, the Device Serial Number, and No_Soft_Reset. -/
inductive ConfigField where
  | vendorId | deviceId | revision | classCode | subsystemVendor | subsystem | serial | noSoftReset
  | capability (place : Fin 3)
  | extended (place : Fin 2)
  deriving DecidableEq, Repr

/-- What a register write reaches (R9, R420): words from an address up by a path, with the byte enables of the first [3:0] and the
last word [7:4]; Bus Master Enable, or the MSI-X control bits Enable and Function Mask, of the PCI configuration header. The table has no
row of its own for a configuration request that reads, for a level of PCIE_PERST_N, nor for a correctable error: they come here (R418, R441,
log 73). -/
inductive RegTarget where
  | words (owner : HoldOwner) (addr : BitVec 32) (be : Byte) (data : Bytes) (poisoned : Bool)
  | busMaster (on : Bool)
  | msixControl (enable functionMask : Bool)
  | configRead (f : ConfigField)
  | perst (high : Bool)
  | correctable
  deriving DecidableEq, Repr

/-- A cell of R109 with its payload of LEN bytes. -/
structure Cell where
  index : Nat
  ctype : Nat
  tseq : Nat
  len : Nat
  sos : Bool
  eos : Bool
  yellow : Bool
  payload : Bytes
  deriving DecidableEq, Repr

/-- The fields of a training block (R76). -/
structure TrainingBlock where
  leader : Bool
  rxReady : Bool
  unusable : Bool
  go : Bool
  rate : Fin 4
  lane : Fin 4
  reqKind : Fin 4
  preset : Fin 8
  reqToggle : Bool
  preReq : Fin 4
  postReq : Fin 4
  ackToggle : Bool
  preStatus : Fin 4
  postStatus : Fin 4
  pre : Fin 16
  post : Fin 32
  portId : Byte
  serialLow : BitVec 48
  deriving DecidableEq, Repr

/-- The acknowledgement fields of a tally or IDLE block (R117). -/
structure Ack where
  nak : Bool
  ackSeq : BitVec 16
  deriving DecidableEq, Repr

/-- Where a control block that travels on a whole link arrived: the link, and whether its CRC-16 holds (R122). -/
structure BlockRx where
  port : Fin 3
  crcOk : Bool
  deriving DecidableEq, Repr

/-- A control block of a lane: IDLE (R122), or one with a type code that R121 does not list. -/
inductive IdleBlock where
  | idle (ack : Ack)
  | unknown (code : Byte)
  deriving DecidableEq, Repr

/-- The tunnel whose job a command acts on (R141): a context, or the SYSTEM tunnel of a link. -/
inductive JobTunnel where
  | ctx (i : Byte)
  | system (link : Fin 3)
  deriving DecidableEq, Repr

/-- Where a mooring message arrived: the connector, and whether the CRC-16 of its frame or block holds (R481, R482). -/
structure MoorRx where
  conn : Fin 2
  crcOk : Bool
  deriving DecidableEq, Repr

/-- A LINK_INIT block (R132): its flags and the fields of the page it carries. -/
inductive InitPage where
  | page0 (activeMode : Byte) (hopDepth : Byte) (chainCount : Byte) (reason : Byte) (sfCount : Word)
      (rxNext : BitVec 16)
  | page1 (serial : BitVec 64)
  deriving DecidableEq, Repr

/-- The flags of a LINK_INIT block and its page. -/
structure LinkInit where
  accept : Bool
  refuse : Bool
  resume : Bool
  page : InitPage
  deriving DecidableEq, Repr

/-- A fog signal (R126). -/
structure FogSignal where
  cause : Byte
  origin : BitVec 48
  seq : Byte
  originDepth : Byte
  detail : BitVec 16
  deriving DecidableEq, Repr

/-- A SYSTEM-tunnel request or response (R53). -/
structure SysMsg where
  reqId : BitVec 16
  /-- 0x01 read, 0x02 write, 0x81 and 0x82 their responses. -/
  op : Byte
  hopsLeft : Nat
  index : BitVec 16
  sub : Byte
  direction : Nat
  originDepth : Byte
  status : Word
  data : Bytes
  deriving DecidableEq, Repr

/-- The tunnel control messages of R158, with their fields beyond byte 7. -/
inductive TunOp where
  | openReq (kind cls direction : Nat) (isSealed : Bool) (maxSeg farBind : Nat) (rates : List (Nat × Nat))
  | openAck
  | openConfirm
  | closeReq (cellsSent : Nat)
  | closeAck (cellsSent : Nat)
  | teardown (cause : Nat)
  | modifyReq (cls maxSeg : Nat)
  | modifyAck
  deriving DecidableEq, Repr

/-- A tunnel control message: the routing fields of R53 and the common fields of R157. -/
structure TunMsg where
  /-- REQ_ID of R53; the spec gives it no value in these messages. -/
  reqId : BitVec 16
  hopsLeft : Nat
  originDepth : Byte
  direction : Nat
  status : Nat
  openerHandle : BitVec 16
  responderHandle : BitVec 16
  hopIndex : Byte
  totalHops : Nat
  peerIndex : Byte
  refuserDepth : Byte
  op : TunOp
  deriving DecidableEq, Repr

/-- What a mirror record says of a tunnel context (R450): the fields the STANDBY keeps. -/
structure CtxImage where
  gen : Nat
  role : Nat
  state : Nat
  kind : Nat
  cls : Nat
  direction : Nat
  isSealed : Bool
  maxSeg : Nat
  localBind : Nat
  farBind : Nat
  farTarget : Nat
  farHandle : Nat
  openerHandle : Nat
  responderHandle : Nat
  hopsOpener : Nat
  hopsResponder : Nat
  totalHops : Nat
  farIndex : Nat
  drainLimit : Nat
  openTimeout : Nat
  autoReopen : Bool
  tag : Nat
  faultCause : Nat
  faultStatus : Nat
  deriving DecidableEq, Repr

/-- One change record of the mirror (R450). Its layout belongs to the firmware release; here it is given by its content. -/
inductive MirrorRec where
  | context (index : Nat) (image : Option CtxImage)
  | value (key : Nat) (v : Nat)
  | daymark (slot : Nat) (image : Option (Nat × Bytes × Bool × Nat × Nat))
  | lamp (lamp : Nat) (level : Bool)
  /-- The full copy starts, and ends. -/
  | copyStart
  | copyDone
  deriving DecidableEq, Repr

end Sys2Proof
end

