-- ==== Sys2Proof/Syntax.lean ====
section
/-!
DEFINITION. The commands the block takes: one constructor for each row of spec/opcode_table.json, in its order, with the
operands that the row's rules give it. A row that is itself a command of the dictionary (R57, R58) carries the path its
COMMAND write comes by, the channel, the tag and the argument bytes from byte 4 on.
-/

namespace Sys2Proof

/-- A command: one row of the table, whole and indivisible. -/
inductive Instr where
  /-- POWER_ON_RESET (R570): PORST_N rises or VDD_AON browns out: the straps are sampled, fuses are latched and the boot ROM starts. -/
  | powerOnReset (strap : Fin 8) (brownOut : Bool)
  /-- KEEPER_START (R572): Keeper firmware starts and brings the hub up in the fixed domain order. -/
  | keeperStart
  /-- MODE_CONFIRM (R16): A write of the strap code to OD 0x2000.03 confirms the mode; any other value is refused. -/
  | modeConfirm (req : Path) (v : Byte)
  /-- FOG_DEADLINE_EXPIRY (R27): FOG_DEADLINE expires with no usable link, and the hub enters FOGHORN. -/
  | fogDeadlineExpiry
  /-- FOG_RETRY (R28): FOG_RETRY_PERIOD elapses, so a retrain starts automatically. -/
  | fogRetry
  /-- FOGHORN_RETRAIN_FAIL (R28): The deadline of a retrain expires: the domains go off again and the hub stays in FOGHORN. -/
  | foghornRetrainFail
  /-- MODE_FOG (R65): Command: enter FOGHORN with cause 3. -/
  | modeFog (req : Path) (c : Fin 8) (tag : BitVec 16) (args : Bytes)
  /-- MODE_RESUME (R65): Command: start a retrain out of FOGHORN. -/
  | modeResume (req : Path) (c : Fin 8) (tag : BitVec 16) (args : Bytes)
  /-- NOP (R65): Command: completes at once. -/
  | nop (req : Path) (c : Fin 8) (tag : BitVec 16) (args : Bytes)
  /-- CONFIG_SAVE (R65): Command: write every RW entry to the stored configuration in QSPI flash. -/
  | configSave (req : Path) (c : Fin 8) (tag : BitVec 16) (args : Bytes)
  /-- CONFIG_ERASE (R65): Command: erase the stored configuration. -/
  | configErase (req : Path) (c : Fin 8) (tag : BitVec 16) (args : Bytes)
  /-- CONFIG_FLASH_DONE (R65): The QSPI erase, program and read-back of CONFIG_SAVE or CONFIG_ERASE complete, and the command ends. -/
  | configFlashDone (ok : Bool)
  /-- OD_READ (R33): Keeper serves a dictionary read in arrival order, after checks 1, 2 and 4. -/
  | odRead (own : Option (BitVec 16 × Byte))
  /-- OD_WRITE (R33): Keeper serves a dictionary write through the seven ordered checks. -/
  | odWrite (own : Option (BitVec 16 × Byte × Bytes))
  /-- RESULT_READ (R61): A read of RESULT is refused while the channel is running or idle, and returns the result when it is done. -/
  | resultRead (path : Path) (c : Fin 8)
  /-- INITIATE_DOWNLOAD (R47): An ODAP initiate-download frame opens an expedited or segmented write. -/
  | initiateDownload (n : Fin 6) (client : Byte) (fd : Bool) (b : Bytes)
  /-- DOWNLOAD_SEGMENT (R48): An ODAP download segment is checked for toggle and size and acknowledged. -/
  | downloadSegment (n : Fin 6) (client : Byte) (fd : Bool) (b : Bytes)
  /-- INITIATE_UPLOAD (R47): An ODAP initiate-upload frame starts a read. -/
  | initiateUpload (n : Fin 6) (client : Byte) (fd : Bool) (b : Bytes)
  /-- UPLOAD_SEGMENT_REQUEST (R48): An ODAP segment request returns the next upload segment. -/
  | uploadSegmentRequest (n : Fin 6) (client : Byte) (fd : Bool) (b : Bytes)
  /-- ODAP_ABORT (R49): An abort frame from the client ends its transfer. -/
  | odapAbort (n : Fin 6) (client : Byte) (fd : Bool) (b : Bytes)
  /-- ODAP_RESERVED_FRAME (R45): A frame of the reserved kind is answered with PROTOCOL, detail 1. -/
  | odapReservedFrame (n : Fin 6) (client : Byte) (fd : Bool) (b : Bytes)
  /-- ODAP_TIMEOUT (R49): ODAP_TIMEOUT elapses between two frames of a transfer, which is aborted with TIMEOUT. -/
  | odapTimeout (n : Fin 6) (client : Byte)
  /-- MBX_READ (R51): START written with OP read starts a mailbox read, unless BUSY or a stale DONE blocks it. -/
  | mbxRead (done evtEn : Bool)
  /-- MBX_WRITE (R51): START written with OP write starts a mailbox write, unless BUSY or a stale DONE blocks it. -/
  | mbxWrite (done evtEn : Bool)
  /-- MBX_COMPLETE (R51): A mailbox access completes: the data, MBX_STATUS, BUSY and DONE are updated in order. -/
  | mbxComplete
  /-- SYSTEM_REQUEST (R55): A SYSTEM-tunnel request is relayed with HOPS_LEFT decremented, answered, or refused with NO_ROUTE or NO_RESOURCE. -/
  | systemRequest (p : Fin 3) (m : SysMsg)
  /-- SYSTEM_RESPONSE (R55): A SYSTEM-tunnel response is returned along its route, or discarded when it is late. -/
  | systemResponse (p : Fin 3) (m : SysMsg)
  /-- REMOTE_TIMEOUT (R55): No response arrives within REMOTE_TIMEOUT, and the request is aborted. -/
  | remoteTimeout (reqId : BitVec 16)
  /-- SIGNAL_DETECT (R77): Signal is detected on a lane, which starts the round timer or restarts training after silence. -/
  | signalDetect (l : Fin 5) (silent : Bool)
  /-- TRAINING_BLOCK (R76): A valid training block is received and acted on: coefficient requests, RX_READY, GO and leader checks. -/
  | trainingBlock (l : Fin 5) (b : TrainingBlock) (crcOk : Bool)
  /-- BLOCK_ALIGNMENT (R80): The receiver locks and finds block alignment, inverting polarity if needed. -/
  | blockAlignment (l : Fin 5) (inverted : Bool)
  /-- EQUALISATION_DONE (R80): Fine equalisation ends, and the lane sets RX_READY or UNUSABLE. -/
  | equalisationDone (l : Fin 5) (ctle : Fin 16) (dfe : List Int) (width : Fin 64) (height : Fin 1024)
  /-- COEFF_REQUEST_RETRY (R82): A coefficient request is unanswered for 1 ms and is repeated, or the lane becomes UNUSABLE. -/
  | coeffRequestRetry (l : Fin 5)
  /-- TRAIN_LIMIT_EXPIRY (R78): The round timer reaches TRAIN_LIMIT: the round ends and the lanes idle before the next rate, or the port fails. -/
  | trainLimitExpiry (p : Fin 3)
  /-- ROUND_GAP_END (R78): The 100 µs of electrical idle end, and the next round begins. -/
  | roundGapEnd (p : Fin 3)
  /-- LOSS_OF_SIGNAL (R88): The loss-of-signal detector asserts on a lane. -/
  | lossOfSignal (l : Fin 5)
  /-- LOSS_OF_LOCK (R89): The loss-of-lock detector asserts on a lane. -/
  | lossOfLock (l : Fin 5)
  /-- ERROR_LIMIT_BREACH (R90): A 1 ms window ends with more invalid sync headers than LANE_ERR_LIMIT. -/
  | errorLimitBreach (l : Fin 5) (count : BitVec 32)
  /-- LANE_DROP_BLOCK (R98): A valid lane-drop block drops one lane, or with STEP at 1 puts the port into STEPPING. -/
  | laneDropBlock (l : Fin 5) (step : Bool) (rateNext : Fin 4) (crcOk : Bool)
  /-- EYE_MARGIN_LOW (R84): The eye height stays below half of EYE_MIN for 10 ms. -/
  | eyeMarginLow (l : Fin 5) (height : Fin 1024)
  /-- QUIET_ENTRY (R92): A transmitter has been idle for QUIET_IDLE, sends four Quiet-entry blocks and goes idle. -/
  | quietEntry (l : Fin 5)
  /-- QUIET_ENTRY_BLOCK (R92): A received Quiet-entry block makes the receiver Quiet. -/
  | quietEntryBlock (l : Fin 5) (crcOk : Bool)
  /-- QUIET_EXIT (R93): A block is queued for a Quiet lane, so the transmitter drives the line and sends exit blocks. -/
  | quietExit (l : Fin 5)
  /-- QUIET_EXIT_BLOCK (R93): The receiver leaves Quiet on an exit block or on a valid block at the held alignment. -/
  | quietExitBlock (l : Fin 5) (crcOk : Bool)
  /-- QUIET_FAULT (R93): Alignment is not regained within 2 µs of signal detect, and the lane fails. -/
  | quietFault (l : Fin 5)
  /-- LANE_REJOIN_ATTEMPT (R96): One second after a drop or a failed attempt, the leader retrains the dropped lane alone. -/
  | laneRejoinAttempt (l : Fin 5)
  /-- REJOIN_HOLD_EXPIRY (R96): The lane has run clean for REJOIN_HOLD, and the leader sets GO. -/
  | rejoinHoldExpiry (l : Fin 5)
  /-- LINK_HOLD_EXPIRY (R98): LINK_HOLD ends without GO, and the stepping port goes to FAILED. -/
  | linkHoldExpiry (p : Fin 3)
  /-- PORT_RETRY (R86): PORT_RETRY_PERIOD elapses on a seated FAILED port, which starts training again. -/
  | portRetry (p : Fin 3)
  /-- PORT_RETRAIN (R106): Command: retrain the port from 12.5 Gbaud. -/
  | portRetrain (req : Path) (c : Fin 8) (tag : BitVec 16) (args : Bytes)
  /-- PORT_RATE_STEP (R106): Command: step the port to the next lower rate. -/
  | portRateStep (req : Path) (c : Fin 8) (tag : BitVec 16) (args : Bytes)
  /-- LANE_DROP (R106): Command: drop a lane under R95. -/
  | laneDrop (req : Path) (c : Fin 8) (tag : BitVec 16) (args : Bytes)
  /-- LANE_REJOIN (R106): Command: start a retrain attempt of a dropped lane at once. -/
  | laneRejoin (req : Path) (c : Fin 8) (tag : BitVec 16) (args : Bytes)
  /-- GEN_EN (R101): A write of GEN_EN in BENCH turns the pattern generator on or off, taking the lane out of service or returning it to DROPPED. -/
  | genEn (n : Fin 5) (v : Bool)
  /-- CHK_EN (R101): A write of CHK_EN in BENCH turns the pattern checker on or off. -/
  | chkEn (n : Fin 5) (v : Bool)
  /-- PAT_INJECT_SINGLE (R102): A write of SINGLE inverts the next transmitted bit. -/
  | patInjectSingle (n : Fin 5)
  /-- PAT_INJECT_BURST (R102): A write of BURST inverts the next BURST_LEN + 1 bits. -/
  | patInjectBurst (n : Fin 5)
  /-- PAT_ERRCNT_READ (R100): A read of PAT_ERRCNT returns the error count and clears it together with CHK_SAT. -/
  | patErrcntRead (n : Fin 5) (received : List Bool)
  /-- TALLY (R116): A tally closes a group, which is judged good or bad and then delivered, held or discarded; its ACK_SEQ and NAK are acted on. -/
  | tally (l : Fin 5) (cells : List Cell) (seq : BitVec 16) (ack : Ack) (crcOk framed : Bool)
  /-- IDLE (R122): An IDLE block is received, and its ACK_SEQ and NAK are acted on. -/
  | idle (l : Fin 5) (block : IdleBlock) (crcOk : Bool)
  /-- GROUP_CLOSE (R114): No cell has been sent for GROUP_CLOSE block times, so the open group is closed with a tally. -/
  | groupClose (l : Fin 5)
  /-- REPLAY_TIMEOUT (R119): ACK_SEQ has not advanced for REPLAY_TIMEOUT, so the oldest group is replayed; exhaustion drops the lane. -/
  | replayTimeout (p : Fin 3)
  /-- ACK_DUE (R120): 16 groups or 8 µs of unacknowledged deliveries force ACK_SEQ to be sent, waking lane 0 if needed. -/
  | ackDue (p : Fin 3)
  /-- CREDIT (R125): A CREDIT block updates LIMIT_c; the first one, with INIT, starts SENT_c. -/
  | credit (p : Fin 3) (init : Bool) (limits : BitVec 96) (crcOk : Bool)
  /-- CREDIT_SEND (R125): Every 512 block times, each lane in service that is not Quiet sends a CREDIT block. -/
  | creditSend (p : Fin 3)
  /-- SUPERFRAME_START (R128): Block 0 of a superframe: the BEACON block is sent and the per-superframe duties run. -/
  | superframeStart
  /-- BEACON (R129): A BEACON block aligns the superframe, adopts the count (raising SF_SLIP on mismatch) and carries a point. -/
  | beacon (p : Fin 3) (sf : Word) (sample : Bool) (valid : Fin 8) (ground : Word) (shaft0 shaft1 : BitVec 18) (crcOk : Bool) (lapse : Word)
  /-- FOG_SIGNAL (R126): A new fog signal is raised as FOG_RECEIVED and forwarded on the other links; a duplicate is discarded. -/
  | fogSignal (p : Fin 3) (f : FogSignal) (crcOk : Bool)
  /-- FOG_SIGNAL_REPEAT (R126): The next of three copies of a fog signal is sent 64 block times after the previous one. -/
  | fogSignalRepeat (p : Fin 3)
  /-- LINK_INIT (R134): A LINK_INIT page is received: the checks of R21 run, and ACCEPT, REFUSE, RESUME or a restart is acted on. -/
  | linkInit (p : Fin 3) (b : LinkInit) (crcOk : Bool)
  /-- LINK_INIT_PAGE_SEND (R134): Every 64 block times in INIT, the next LINK_INIT page is sent. -/
  | linkInitPageSend (p : Fin 3)
  /-- INIT_TIMEOUT (R133): The upstream end has spent 10 ms in INIT, so the link goes DOWN and the port retrains. -/
  | initTimeout (p : Fin 3)
  /-- FOG_SEND (R140): Command: originate a fog signal with a firmware cause. -/
  | fogSend (req : Path) (c : Fin 8) (tag : BitVec 16) (args : Bytes)
  /-- TUNNEL_CREATE (R173): Command: allocate an opener context in CLOSED. -/
  | tunnelCreate (req : Path) (c : Fin 8) (tag : BitVec 16) (args : Bytes)
  /-- TUNNEL_OPEN (R160): Command: open the tunnel by the handshake. -/
  | tunnelOpen (req : Path) (c : Fin 8) (tag : BitVec 16) (args : Bytes)
  /-- TUNNEL_CLOSE (R164): Command: close by draining, or move a FAULTED context to CLOSED. -/
  | tunnelClose (req : Path) (c : Fin 8) (tag : BitVec 16) (args : Bytes)
  /-- TUNNEL_DESTROY (R167): Command: free the context, sending TEARDOWN when needed. -/
  | tunnelDestroy (req : Path) (c : Fin 8) (tag : BitVec 16) (args : Bytes)
  /-- TUNNEL_MODIFY (R171): Command: change local fields, or CLASS and MAX_SEG along the route. -/
  | tunnelModify (req : Path) (c : Fin 8) (tag : BitVec 16) (args : Bytes)
  /-- OPEN_REQ (R161): A relay or responder checks an OPEN_REQ, allocates a context and forwards or answers it. -/
  | openReq (p : Fin 3) (m : TunMsg)
  /-- OPEN_ACK (R160): An OPEN_ACK is recorded by relays and opens, or faults, the opener. -/
  | openAck (p : Fin 3) (m : TunMsg)
  /-- OPEN_CONFIRM (R160): An OPEN_CONFIRM moves relays and the responder to OPEN. -/
  | openConfirm (p : Fin 3) (m : TunMsg)
  /-- CLOSE_REQ (R164): A CLOSE_REQ moves the context to DRAINING, or counts as the ACK when the closes cross. -/
  | closeReq (p : Fin 3) (m : TunMsg)
  /-- CLOSE_ACK (R164): A CLOSE_ACK gives the far CELLS_SENT for the drain. -/
  | closeAck (p : Fin 3) (m : TunMsg)
  /-- TEARDOWN (R167): A TEARDOWN removes the queued cells, faults or frees the context, and is forwarded by relays. -/
  | teardown (p : Fin 3) (m : TunMsg)
  /-- MODIFY_REQ (R171): A MODIFY_REQ is applied at each hub and passed on; the responder answers it. -/
  | modifyReq (p : Fin 3) (m : TunMsg)
  /-- MODIFY_ACK (R171): A MODIFY_ACK ends TUNNEL_MODIFY at the opener. -/
  | modifyAck (p : Fin 3) (m : TunMsg)
  /-- OPEN_TIMEOUT (R163): OPEN_TIMEOUT expires in OPENING or while awaiting MODIFY_ACK: the context faults with cause 2 and TEARDOWN is sent. -/
  | openTimeout (ctx : Byte)
  /-- DRAIN_COMPLETE (R164): All far cells have been received and all sent cells acknowledged, so the end leaves DRAINING. -/
  | drainComplete (ctx : Byte)
  /-- DRAIN_LIMIT_EXPIRY (R166): DRAIN_LIMIT expires: queued cells are discarded and TEARDOWN is sent with cause 4. -/
  | drainLimitExpiry (ctx : Byte)
  /-- RESP_FAULT_HOLD_EXPIRY (R169): RESP_FAULT_HOLD expires, and a faulted responder context is freed. -/
  | respFaultHoldExpiry (ctx : Byte)
  /-- TUNNEL_REOPEN (R170): After REOPEN_DELAY, with the route open and no switch pending, an AUTO_REOPEN opener reopens. -/
  | tunnelReopen (ctx : Byte)
  /-- JOB_DISPATCH (R216): A segment waiting for space and a slot is dispatched to a Tender with a ticket and its TSEQ range. -/
  | jobDispatch (ctx : JobTunnel) (encap : Bool)
  /-- JOB_START (R215): An idle Tender starts its oldest PENDING job, pinned jobs first. -/
  | jobStart (t : Fin 32)
  /-- JOB_DONE (R214): A Tender finishes encapsulation or decapsulation of a segment, and the job becomes DONE. -/
  | jobDone (t : Fin 32)
  /-- JOB_COMMIT (R217): The job whose ticket equals COMMIT is metered and queued, or checked and delivered, and its slot is freed. -/
  | jobCommit (ctx : JobTunnel) (encap : Bool)
  /-- METER_RELEASE (R186): Tp of a held red segment fills to B, and the meter decides again. -/
  | meterRelease (ctx : Byte)
  /-- STEAL (R218): A Tender idle for STEAL_LOCAL or STEAL_REMOTE cycles steals the youngest unpinned PENDING job of a victim. -/
  | steal (t : Fin 32) (remote : Bool)
  /-- TENDER_FAULT (R224): A parity, trap or staging ECC fault fences the Tender, and its jobs are returned and redispatched. -/
  | tenderFault (t : Fin 32) (cause : Fin 5)
  /-- TENDER_WATCHDOG (R224): A job has run for WATCHDOG cycles, and its Tender is fenced. -/
  | tenderWatchdog (t : Fin 32)
  /-- TENDER_FENCE (R238): Command: fence a Tender. -/
  | tenderFence (req : Path) (c : Fin 8) (tag : BitVec 16) (args : Bytes)
  /-- TENDER_RESTORE (R226): Command: check a fenced Tender and return it to service. -/
  | tenderRestore (req : Path) (c : Fin 8) (tag : BitVec 16) (args : Bytes) (ok : Bool)
  /-- ENGINE_BARRIER (R228): Command: arm a barrier and end when it completes. -/
  | engineBarrier (req : Path) (c : Fin 8) (tag : BitVec 16) (args : Bytes)
  /-- ENG_BARRIER_ARM (R228): A write of ARM in ENG_BARRIER arms a barrier on the register counter. -/
  | engBarrierArm
  /-- BARRIER_COMPLETE (R228): The last pre-barrier job commits, and the barrier completes 3 cycles later. -/
  | barrierComplete (which : Fin 4)
  /-- ENGINE_RELOAD (R238): Command: check, fence and load a new Tender image. -/
  | engineReload (req : Path) (c : Fin 8) (tag : BitVec 16) (args : Bytes)
  /-- ENGINE_FENCE_RAISE (R229): Command ENGINE_FENCE with ACTION 1: raise an engine fence that holds dispatch. -/
  | engineFenceRaise (req : Path) (c : Fin 8) (tag : BitVec 16)
  /-- ENGINE_FENCE_LIFT (R229): Command ENGINE_FENCE with ACTION 0: lift the engine fence. -/
  | engineFenceLift (req : Path) (c : Fin 8) (tag : BitVec 16)
  /-- FENCE_EXPIRED (R229): ENGINE_FENCE_LIMIT expires, and the hub lifts the fence. -/
  | fenceExpired
  /-- BLIND_WINDOW_END (R189): A STARTUP, SWAP or RETRAIN colour-blind window ends at the boundary BLIND_HOLD superframes after its start. -/
  | blindWindowEnd (w : Fin 5)
  /-- PLAN_SWITCH (R209): Command at the root: initiate a plan switch at N + LEAD. -/
  | planSwitch (req : Path) (c : Fin 8) (tag : BitVec 16) (args : Bytes)
  /-- METER_COLOUR_CLEAR (R209): Command METER_COLOUR with ACTION 0: clear FORCE. -/
  | meterColourClear (req : Path) (c : Fin 8) (tag : BitVec 16)
  /-- METER_COLOUR_SET (R209): Command METER_COLOUR with ACTION 1: force colour-blind service. -/
  | meterColourSet (req : Path) (c : Fin 8) (tag : BitVec 16)
  /-- METER_COLOUR_END (R189): Command METER_COLOUR with ACTION 2: end the STARTUP, SWAP and RETRAIN windows. -/
  | meterColourEnd (req : Path) (c : Fin 8) (tag : BitVec 16)
  /-- ANNOUNCE (R201): An ANNOUNCE block arms a switch at a hub and is forwarded downstream; the hub sends an ACK. -/
  | announce (rx : BlockRx) (active next : Fin 8) (seq : Byte) (eff : Word) (origin : BitVec 48)
  /-- ANNOUNCE_REPEAT (R201): The root sends the next ANNOUNCE copy 64 block times later. -/
  | announceRepeat
  /-- STATUS_BLOCK (R201): A STATUS block arms an unseen switch or corrects a mismatched active plan. -/
  | statusBlock (rx : BlockRx) (active next : Fin 8) (pending : Bool) (seq : Byte) (eff : Word) (origin : BitVec 48)
  /-- ACK_BLOCK (R201): An ACK block is forwarded upstream, and counted at the root. -/
  | ackBlock (rx : BlockRx) (active next : Fin 8) (seq : Byte) (eff : Word) (origin : BitVec 48)
  /-- COUNT_BLOCK (R201): A COUNT block updates HUBS or CHAIN_COUNT. -/
  | countBlock (rx : BlockRx) (hubs : Fin 16)
  /-- PLAN_SWITCHED (R202): The count reaches EFFECTIVE_SF: the new meters, quanta and demotions take effect. -/
  | planSwitched
  /-- PFC_FRAME (R250): A received PFC frame pauses or resumes the mapped ETH egress queues. -/
  | pfcFrame (n : Fin 8) (mask : Byte) (times : List (BitVec 16))
  /-- PFC_REFRESH (R250): Half of PFC_QUANTA elapses during a hold, so the PFC frame is resent. -/
  | pfcRefresh (n : Fin 8)
  /-- PFC_PAUSE_EXPIRY (R250): The pause time of a received PFC frame runs out. -/
  | pfcPauseExpiry (n p : Fin 8)
  /-- PFC_STUCK (R250): An egress queue stays paused for PFC_STUCK_TIME. -/
  | pfcStuck (n : Fin 8)
  /-- MIRROR_FRAME_CLOSE (R258): A mirror frame of cell copies is closed 1 µs after its first cell. -/
  | mirrorFrameClose (m : Fin 4)
  /-- SWEEP_COMPLETE (R263): A descriptor sweep ends and allocation resumes. -/
  | sweepComplete
  /-- SCRUB_PASS (R264): Each SCRUB_PERIOD, the scrubber reads and corrects every word. -/
  | scrubPass
  /-- CLS_WRITE (R271): Command: check and write classification entries. -/
  | clsWrite (req : Path) (c : Fin 8) (tag : BitVec 16) (args : Bytes)
  /-- CLS_CLEAR (R270): Command: clear classification entries. -/
  | clsClear (req : Path) (c : Fin 8) (tag : BitVec 16) (args : Bytes)
  /-- CLS_READ (R270): Command: return classification entries. -/
  | clsRead (req : Path) (c : Fin 8) (tag : BitVec 16) (args : Bytes)
  /-- ECC_INJECT (R271): Command: store the next word of a region with inverted bits. -/
  | eccInject (req : Path) (c : Fin 8) (tag : BitVec 16) (args : Bytes)
  /-- SCRUB_NOW (R264): Command: run one scrub pass at once. -/
  | scrubNow (req : Path) (c : Fin 8) (tag : BitVec 16) (args : Bytes)
  /-- ENCODER_EDGE (R279): An accepted encoder edge updates the count, X and V, and the reversal and fault logic. -/
  | encoderEdge (n : Fin 8) (a b z : Bool) (lapse : Word)
  /-- BCN_STANDSTILL (R280): No edge arrives for STANDSTILL_TIME, so V becomes 0. -/
  | bcnStandstill (b : Fin 3)
  /-- BEARING_SEGMENT_START (R289): A(F) arrives: a new segment begins, or is held over, or the bearing is LOST or VALID again. -/
  | bearingSegmentStart
  /-- DELAY_PROBE_REQUEST (R292): A probe request is answered with TURN and OFFSET. -/
  | delayProbeRequest (rx : BlockRx) (seq : Fin 16)
  /-- DELAY_PROBE_RESPONSE (R293): A probe response gives a delay value, which is filtered into LINK_DELAY or rejected. -/
  | delayProbeResponse (rx : BlockRx) (seq : Fin 16) (upLocked : Bool) (turn offset lapse : Word)
  /-- TIMEBASE_LOCK (R294): The conditions of R294 hold and the CLOCK correction is complete, so the timebase enters LOCKED. -/
  | timebaseLock
  /-- BEARING_RESTORE (R306): Command: clear the input faults of a LOST bearing and rejoin it. -/
  | bearingRestore (req : Path) (c : Fin 8) (tag : BitVec 16) (args : Bytes)
  /-- BEACON_CAPTURE (R306): Command: capture bearings and counts at CLOCK AT. -/
  | beaconCapture (req : Path) (c : Fin 8) (tag : BitVec 16) (args : Bytes)
  /-- BEACON_CAPTURE_FIRE (R306): CLOCK reaches AT, and the values are captured. -/
  | beaconCaptureFire
  /-- PROBE_NOW (R306): Command: run one delay-probe exchange. -/
  | probeNow (req : Path) (c : Fin 8) (tag : BitVec 16) (args : Bytes)
  /-- PROBE_NOW_TIMEOUT (R306): No response arrives within 4 superframes, and PROBE_NOW fails. -/
  | probeNowTimeout (p : Fin 3)
  /-- CLOCK_LO_READ (R304): A read of CLOCK_LO latches CLOCK_HI and the bearing registers. -/
  | clockLoRead
  /-- DAYMARK_POST (R316): Command: check and insert 1 to 7 daymark entries. -/
  | daymarkPost (req : Path) (c : Fin 8) (tag : BitVec 16) (args : Bytes)
  /-- DAYMARK_CANCEL (R323): Command: cancel daymarks by handle. -/
  | daymarkCancel (req : Path) (c : Fin 8) (tag : BitVec 16) (args : Bytes)
  /-- DAYMARK_READ (R334): Command: return a queued daymark entry. -/
  | daymarkRead (req : Path) (c : Fin 8) (tag : BitVec 16) (args : Bytes)
  /-- DM_POST_GO (R332): A write of GO posts the entry in DM_POST0 to DM_POST7. -/
  | dmPostGo
  /-- LAMPCMD_POST (R314): A LAMPCMD POST message inserts its entries and a POST_REPLY is sent. -/
  | lampcmdPost
  /-- LAMPCMD_CANCEL (R323): A LAMPCMD CANCEL message frees daymarks, and a CANCEL_REPLY is sent. -/
  | lampcmdCancel
  /-- DAYMARK_FIRED (R317): The bearing crosses a daymark's target, and its action is carried out. -/
  | daymarkFired
  /-- PULSE_TIME_END (R320): The width of a PULSE_TIME pulse elapses, and the Lamp is cleared. -/
  | pulseTimeEnd (l : Fin 24)
  /-- PULSE_BEARING_END (R320): The forward crossing of TARGET + width clears the Lamp and frees the slot. -/
  | pulseBearingEnd
  /-- PULSE_TIMEOUT (R320): PULSE_TIMEOUT expires after a leading edge, and the Lamp is cleared. -/
  | pulseTimeout
  /-- LAMP_EDGE (R324): A queued edge is placed on its Lamp at its action instant. -/
  | lampEdge (l : Fin 24)
  /-- LAMP_CALIBRATION (R324): The Lamp delay line is recalibrated every 1 ms; a failure raises LAMP_CAL_FAULT. -/
  | lampCalibration (ok : Bool)
  /-- FIRED_MESSAGE_SEND (R322): Fired records gathered for up to 10 µs are sent in a FIRED message. -/
  | firedMessageSend
  /-- LAMP_SET_NOW (R334): Command: drive the levels of ACTIVE Lamps at once. -/
  | lampSetNow (req : Path) (c : Fin 8) (tag : BitVec 16) (args : Bytes)
  /-- LAMP_RELEASE (R329): Command LAMP_CONTROL with ACTION 0: release Lamps from SAFE. -/
  | lampRelease (req : Path) (c : Fin 8) (tag : BitVec 16) (mask : Word)
  /-- LAMP_SAFE (R327): Command LAMP_CONTROL with ACTION 1: drive Lamps to SAFE. -/
  | lampSafe (req : Path) (c : Fin 8) (tag : BitVec 16) (mask : Word)
  /-- LAMP_SAFE_CHAIN (R328): Command LAMP_CONTROL with ACTION 2: drive Lamps to SAFE and originate SAFE_REQUEST. -/
  | lampSafeChain (req : Path) (c : Fin 8) (tag : BitVec 16) (mask : Word)
  /-- ETH_FRAME_RX (R337): An Ethernet frame is received, checked, classified and staged, or discarded. -/
  | ethFrameRx (n : Fin 8) (frame : Bytes) (fcsOk : Bool)
  /-- ETH_FRAME_TX (R339): A segment goes out on an ETH port after tag handling, padding and FCS. -/
  | ethFrameTx (n : Fin 8)
  /-- ETH_LINK_CHANGE (R341): An ETH link or speed changes, which changes the egress nominal rate. -/
  | ethLinkChange (n : Fin 8) (link : Fin 5)
  /-- ETH_TS_READ (R364): Command: remove egress timestamps from the FIFO. -/
  | ethTsRead (req : Path) (c : Fin 8) (tag : BitVec 16) (args : Bytes)
  /-- CAN_FRAME_RX (R350): A CAN frame is received and offered to ODAP and ISO 11783 handling and to classification. -/
  | canFrameRx (n : Fin 6) (f : CanFrame) (remote : Bool)
  /-- CAN_FRAME_TX (R351): A transmit slot's frame is sent, and the queue's next frame enters the slot. -/
  | canFrameTx (n : Fin 6)
  /-- CAN_BUS_OFF (R348): The transmit error count exceeds 255 and the port goes bus-off. -/
  | canBusOff (n : Fin 6)
  /-- BUS_OFF_RECOVERY (R348): Recovery after bus-off completes and the port is error active. -/
  | busOffRecovery (n : Fin 6)
  /-- CAN_RESTART (R364): Command: start bus-off recovery. -/
  | canRestart (req : Path) (c : Fin 8) (tag : BitVec 16) (args : Bytes)
  /-- ADDRESS_CLAIMED (R352): A received Address Claimed frame from a lower NAME makes the hub move address or give it up. -/
  | addressClaimed (n : Fin 6) (src : Byte) (name : BitVec 64)
  /-- ADDRESS_CLAIM_REQUEST (R352): A Request for PGN 60928 is answered with the hub's claim. -/
  | addressClaimRequest (n : Fin 6)
  /-- ADDRESS_USABLE (R352): 250 ms pass after a claim without contention, and the address becomes usable. -/
  | addressUsable (n : Fin 6)
  /-- ADDRESS_RECLAIM (R364): Command: claim PREFERRED_ADDRESS afresh. -/
  | addressReclaim (req : Path) (c : Fin 8) (tag : BitVec 16) (args : Bytes)
  /-- EMMC_INIT (R355): ENABLE becoming 1 starts eMMC initialisation, with fallback to lower modes. -/
  | emmcInit (req : Path)
  /-- EMMC_INIT_DONE (R355): Initialisation ends: ready, degraded, or failed. -/
  | emmcInitDone (found : Option (Fin 4 × Fin 9)) (parts : List Word)
  /-- EMMC_REINIT (R364): Command: reinitialise the eMMC device. -/
  | emmcReinit (req : Path) (c : Fin 8) (tag : BitVec 16) (args : Bytes)
  /-- BLOCK_READ (R358): A READ request segment is queued for the device. -/
  | blockRead (ctx : Byte)
  /-- BLOCK_WRITE (R358): A WRITE request segment is queued, awaiting its data. -/
  | blockWrite (ctx : Byte)
  /-- BLOCK_FLUSH (R357): A FLUSH request segment is queued. -/
  | blockFlush (ctx : Byte)
  /-- BLOCK_TRIM (R357): A TRIM request segment is queued. -/
  | blockTrim (ctx : Byte)
  /-- BLOCK_INFO (R357): An INFO request is answered with the region data. -/
  | blockInfo (ctx : Byte)
  /-- BLOCK_DATA (R358): A DATA segment of a WRITE is checked for sequence and written. -/
  | blockData (ctx : Byte)
  /-- EMMC_COMMAND_DONE (R359): A device command completes, is retried, or ends the request with its status. -/
  | emmcCommandDone (res : Fin 3) (r1 : Word) (data : Bytes)
  /-- UART_RX_SEGMENT (R362): A UART receive segment closes at 256 bytes or after GAP idle character times. -/
  | uartRxSegment (n : Fin 6) (data : Bytes)
  /-- SER_SEGMENT (R362): A segment from the tunnel is sent, or run as an SPI or I2C transaction. -/
  | serSegment (n : Fin 6)
  /-- SER_TRANSACTION_DONE (R362): An SPI or I2C transaction ends and its reply segment is formed. -/
  | serTransactionDone (n : Fin 6) (status : Fin 5) (data : Bytes)
  /-- CSI_FRAME_START (R367): A CSI frame start opens a frame, ending any open frame as BAD. -/
  | csiFrameStart (n : Fin 2) (vc : Fin 4)
  /-- CSI_LONG_PACKET (R368): A long packet is checked and classified, and its data is cut into VIDEO segments, skipping or cutting frames. -/
  | csiLongPacket (n : Fin 2) (vc : Fin 4) (dt : Fin 64) (hdr : Fin 3) (data : Bytes) (crcOk : Bool)
  /-- CSI_FRAME_END (R369): A frame end closes the frame with its EOF segment. -/
  | csiFrameEnd (n : Fin 2) (vc : Fin 4)
  /-- DSI_FRAME_START (R381): At a line boundary after VFP_MIN, a ready frame starts, or at VFP_MAX a repeat or a stall frame. -/
  | dsiFrameStart
  /-- DSI_LINE (R379): A scan-out line is fetched and sent; an empty buffer gives FILL_COLOUR. -/
  | dsiLine (fill : Fin 33) (empty : Option (BitVec 11))
  /-- SHOW_SLOT_WRITE (R373): A write of SHOW_SLOT abandons the frame being written and switches slots. -/
  | showSlotWrite (req : Path) (slot : Fin 4)
  /-- DSI_PACKET (R388): Command: send a DSI packet in low-power mode. -/
  | dsiPacket (req : Path) (c : Fin 8) (tag : BitVec 16) (args : Bytes)
  /-- HSIC_CONNECT (R394): The conditions of R394 begin or stop holding, and the hub signals connect or disconnect. -/
  | hsicConnect (n : Fin 2)
  /-- FUNCTION_CONNECT (R395): The function's conditions hold, at least 100 ms after a disconnect, and it connects. -/
  | functionConnect (n : Fin 2) (f : Fin 4)
  /-- SETUP (R400): A SETUP arrives, ending any unfinished control transfer of the same target. -/
  | setup (n : Fin 2) (k : Fin 5) (setup : BitVec 64)
  /-- SET_ADDRESS (R398): Request: the address takes effect after the status stage. -/
  | setAddress (n : Fin 2) (k : Fin 5)
  /-- SET_CONFIGURATION (R405): Request: configure, reset toggles and discard queued data. -/
  | setConfiguration (n : Fin 2) (k : Fin 5)
  /-- SET_INTERFACE (R405): Request: change an alternate setting and reset its toggles. -/
  | setInterface (n : Fin 2) (k : Fin 5)
  /-- GET_DESCRIPTOR (R398): Request: return a descriptor, or stall, or pass the request on. -/
  | getDescriptor (n : Fin 2) (k : Fin 5)
  /-- GET_STATUS (R398): Request: return status in hardware. -/
  | getStatus (n : Fin 2) (k : Fin 5)
  /-- GET_CONFIGURATION (R398): Request: return the configuration value. -/
  | getConfiguration (n : Fin 2) (k : Fin 5)
  /-- GET_INTERFACE (R398): Request: return an interface's alternate setting. -/
  | getInterface (n : Fin 2) (k : Fin 5)
  /-- SET_FEATURE_ENDPOINT_HALT (R406): Request: halt an endpoint. -/
  | setFeatureEndpointHalt (n : Fin 2) (k : Fin 5)
  /-- CLEAR_FEATURE_ENDPOINT_HALT (R405): Request: clear a halt and reset the toggle to DATA0. -/
  | clearFeatureEndpointHalt (n : Fin 2) (k : Fin 5)
  /-- SET_FEATURE_REMOTE_WAKEUP (R398): Request: set or clear DEVICE_REMOTE_WAKEUP. -/
  | setFeatureRemoteWakeup (n : Fin 2) (k : Fin 5)
  /-- SET_FEATURE_TEST_MODE (R390): Request: enter a test mode in BENCH, or stall outside it. -/
  | setFeatureTestMode (n : Fin 2) (k : Fin 5)
  /-- SET_FEATURE_PORT_RESET (R393): Hub request: reset the function of a downstream port. -/
  | setFeaturePortReset (n : Fin 2)
  /-- PORT_RESET_DONE (R393): 10 ms after a port reset, PORT_ENABLE, PORT_HIGH_SPEED and C_PORT_RESET are set. -/
  | portResetDone (n : Fin 2) (f : Fin 4)
  /-- PORT_POWER (R393): Hub request: set or clear PORT_POWER; clearing it resets the function. -/
  | portPower (n : Fin 2)
  /-- SET_FEATURE_PORT_SUSPEND (R409): Hub request: selectively suspend a function. -/
  | setFeaturePortSuspend (n : Fin 2)
  /-- CLEAR_FEATURE_PORT_SUSPEND (R409): Hub request: end a selective suspend, yielding any pending wake. -/
  | clearFeaturePortSuspend (n : Fin 2)
  /-- TT_REQUEST (R392): CLEAR_TT_BUFFER, RESET_TT, GET_TT_STATE or STOP_TT is accepted without effect. -/
  | ttRequest (n : Fin 2)
  /-- CONTROL_REQUEST (R399): A class, vendor or unhandled request is passed to the endpoint-0 tunnel or to Keeper. -/
  | controlRequest (n : Fin 2) (k : Fin 5) (data : Bytes)
  /-- CONTROL_REPLY (R399): A REPLY segment completes or stalls the pending control transfer. -/
  | controlReply (n : Fin 2) (f : Fin 4) (own : Option Bytes)
  /-- CTRL_TIMEOUT (R399): No REPLY arrives within CTRL_TIMEOUT, and the transfer is stalled. -/
  | ctrlTimeout (n : Fin 2) (f : Fin 4)
  /-- OUT_PACKET (R402): An OUT packet is ACKed and gathered into a segment, or NAKed, or discarded as a duplicate. -/
  | outPacket (n : Fin 2) (f : Fin 4) (ep : Fin 16) (toggle : Bool) (data : Bytes)
  /-- PING (R402): A PING is answered with ACK or NAK. -/
  | ping (n : Fin 2) (f : Fin 4) (ep : Fin 16)
  /-- IN_TOKEN (R403): An IN token is answered with data, a NAK or a STALL. -/
  | inToken (n : Fin 2) (k : Fin 5) (ep : Fin 16) (acked : Bool)
  /-- USB_BUS_RESET (R408): A reset on the HSIC port resets the hub and every function. -/
  | usbBusReset (n : Fin 2)
  /-- USB_SUSPEND (R409): 3 ms without bus activity suspend the hub and its functions. -/
  | usbSuspend (n : Fin 2)
  /-- HOST_RESUME (R409): Host resume signalling ends a global suspend, and any pending wake yields. -/
  | hostResume (n : Fin 2)
  /-- RESUME_READY (R409): The function is ready 20 ms after resume, and C_PORT_SUSPEND is set. -/
  | resumeReady (n : Fin 2) (f : Fin 4)
  /-- REMOTE_WAKE (R410): A pending, enabled wake is signalled, no sooner than 5 ms after suspend. -/
  | remoteWake (n : Fin 2) (f : Fin 4)
  /-- USB_WAKE (R415): Command: make a wake pending for a function. -/
  | usbWake (req : Path) (c : Fin 8) (tag : BitVec 16) (args : Bytes)
  /-- USB_EP_HALT (R415): Command: halt an endpoint. -/
  | usbEpHalt (req : Path) (c : Fin 8) (tag : BitVec 16) (args : Bytes)
  /-- USB_RECONNECT (R415): Command: disconnect and reconnect a function. -/
  | usbReconnect (req : Path) (c : Fin 8) (tag : BitVec 16) (args : Bytes)
  /-- HOST_BRIDGE_RESET (R421): FLR, hot reset, PERST, link loss or return from D3hot resets the host bridge and loses HOST bindings. -/
  | hostBridgeReset
  /-- PCIE_LINK_CHANGE (R419): The negotiated speed or width changes the nominal rate of egress 11. -/
  | pcieLinkChange (speed : Fin 4) (width : Fin 3)
  /-- BAR2_WRITE (R426): A host write to a window is cut into WRITE pieces. -/
  | bar2Write (addr : BitVec 26) (be : Byte) (data : Bytes) (poisoned : Bool)
  /-- BAR2_READ (R428): A host read to a window is cut into READ pieces or served from the prefetch buffer. -/
  | bar2Read (addr : BitVec 26) (be : Byte) (len : BitVec 13)
  /-- ATOMIC_OP (R431): An AtomicOp takes the semaphore and sends LOCK and READ. -/
  | atomicOp (bar2 : Bool) (addr : BitVec 26) (op : Fin 3) (size : Fin 17) (operand compare : BitVec 64)
  /-- READ_DATA (R428): READ_DATA returns a piece for completion, an AtomicOp or the prefetch buffer. -/
  | readData (w : Fin 16)
  /-- LOCK_ACK (R431): LOCK_ACK lets an AtomicOp compute its new value and send WRITE and UNLOCK. -/
  | lockAck (w : Fin 16)
  /-- WIN_READ_LIMIT_EXPIRY (R428): A window request is not complete within WIN_READ_LIMIT and is completed per ERROR_MODE. -/
  | winReadLimitExpiry (w : Fin 16)
  /-- PF_AGE_EXPIRY (R433): PF_AGE passes since the oldest prefetch piece, and the buffer is emptied. -/
  | pfAgeExpiry (w : Fin 16)
  /-- MEMORY_WRITE (R427): The MEMORY end carries out a WRITE piece. -/
  | memoryWrite (ctx : Byte)
  /-- MEMORY_READ (R427): The MEMORY end carries out a READ piece and answers with READ_DATA. -/
  | memoryRead (ctx : Byte)
  /-- LOCK (R432): A LOCK takes the AREA 1 lock or waits for it. -/
  | lock (ctx : Byte)
  /-- UNLOCK (R432): An UNLOCK releases the AREA 1 lock. -/
  | unlock (ctx : Byte)
  /-- MEM_LOCK_EXPIRED (R432): LOCK_LIMIT passes without UNLOCK, and the lock is released. -/
  | memLockExpired
  /-- WINDOW_ENABLE (R422): A write of ENABLE in WIN_CTRL enables the window, or sets CFG_ERR. -/
  | windowEnable (w : Fin 16) (v : Word)
  /-- TX_TAIL_WRITE (R437): A write of TX_TAIL starts descriptor and segment reads for the TX ring. -/
  | txTailWrite (q : Fin 32) (v : Word)
  /-- RX_TAIL_WRITE (R438): A write of RX_TAIL posts RX buffers. -/
  | rxTailWrite (q : Fin 32) (v : Word)
  /-- DMA_COMPLETION (R437): A DMA read completes; segments enter the tunnel, or a fault stops the queue. -/
  | dmaCompletion (q : Fin 32) (ok : Bool) (data : Bytes)
  /-- MOD_TIME_EXPIRY (R438): MOD_TIME ends, and a pending queue interrupt is signalled. -/
  | modTimeExpiry (q : Fin 32)
  /-- ROLE_ANNOUNCE (R449): A ROLE_ANNOUNCE gives the epoch and HEARS, possibly demoting a root or moving a BUOY. -/
  | roleAnnounce (p : Fin 3) (epoch : Word) (role : Byte) (hears : Bool) (strap : Byte) (serial primary : BitVec 64)
  /-- SWAP_PREPARE (R454): A receiver enters the swap, or refuses it. -/
  | swapPrepare (p : Fin 3) (epoch : Word) (kind : Byte)
  /-- SWAP_HOLD_DRAINED (R455): In a commanded swap, the held tunnels' cells are all acknowledged, so SWAP_READY is sent. -/
  | swapHoldDrained
  /-- SWAP_READY (R454): The candidate records a SWAP_READY and makes its commit decision once all are held. -/
  | swapReady (p : Fin 3) (epoch : Word)
  /-- SWAP_REFUSE (R454): A refusal makes the candidate send SWAP_ABORT. -/
  | swapRefuse (p : Fin 3) (epoch : Word)
  /-- SWAP_COMMIT (R454): A receiver holds SWAP_COMMIT and arms the commit point. -/
  | swapCommit (p : Fin 3) (epoch sf : Word)
  /-- SWAP_ABORT (R454): A receiver abandons the swap. -/
  | swapAbort (p : Fin 3) (epoch : Word)
  /-- SWAP_PREP_LIMIT_EXPIRY (R454): SWAP_PREP_LIMIT passes without every answer or commit, and the swap is abandoned. -/
  | swapPrepLimitExpiry
  /-- COMMIT_POINT (R457): Block 0 of COMMIT_SF: roles, contexts, tunnels, daymarks and Lamps change over. -/
  | commitPoint
  /-- MIRROR (R451): A MIRROR record updates the STANDBY's shadow state. -/
  | mirror (seq : BitVec 16) (r : MirrorRec)
  /-- MIRROR_ACK (R451): A MIRROR_ACK makes a change in step and ends its command. -/
  | mirrorAck (seq : BitVec 16)
  /-- MIRROR_TIMEOUT (R451): No acknowledgement arrives within 1 ms, and the mirror goes stale. -/
  | mirrorTimeout
  /-- PAIR_LOSS (R456): PAIR_LOSS superframes pass without block 0, which clears HEARS or starts a failover or PAIR_SPLIT. -/
  | pairLoss (p : Fin 3)
  /-- PAIR_CLAIMED (R463): The silence timer expires, and the root claims the primary role. -/
  | pairClaimed
  /-- PAIR_SWAP (R467): Command: start a commanded role swap. -/
  | pairSwap (req : Path) (c : Fin 8) (tag : BitVec 16) (args : Bytes)
  /-- PAIR_RESYNC (R467): Command: send a full mirror copy. -/
  | pairResync (req : Path) (c : Fin 8) (tag : BitVec 16) (args : Bytes)
  /-- SEAT_CONFIRM (R474): A seating input stays low for 20 ms and is confirmed. -/
  | seatConfirm (ctx : Fin 2)
  /-- SEAT_RELEASE (R474): A seating input is sampled high twice and released; the stage is killed and ports go WAITING. -/
  | seatRelease (ctx : Fin 2)
  /-- SEATING_START (R476): Every seating input of an unseated stage is sampled low, which starts the debounce. -/
  | seatingStart
  /-- CHECK_PASS (R476): The cable is dead and a feed has been good for FEED_SETTLE, so the stage ramps. -/
  | checkPass (good : Fin 4)
  /-- CHECK_TIMEOUT (R476): The cable is not discharged within DISCH_LIMIT, or no feed is good within 1 s, and the stage trips. -/
  | checkTimeout (backfeed : Bool)
  /-- RAMP_DONE (R476): The cable is within ±5 % of the target for 1 ms; the stage is POWERED and CAPS are sent. -/
  | rampDone
  /-- RAMP_TIMEOUT (R476): The cable is not within ±5 % 20 ms after GATE_CTL reached the target, and the stage trips. -/
  | rampTimeout
  /-- FAST_TRIP (R487): The fast comparator fires, and the stage is killed within 1 µs. -/
  | fastTrip
  /-- CURVE_TRIP (R488): A breaker-curve count reaches T_k, and the stage trips. -/
  | curveTrip (k : Fin 16)
  /-- VOLTAGE_TRIP (R489): An overvoltage or undervoltage condition trips the stage. -/
  | voltageTrip
  /-- TRANSITION_TIMEOUT (R476): The cable is not within ±5 % 60 ms after the transition began, and the stage trips. -/
  | transitionTimeout
  /-- RETRY_TIMER_EXPIRY (R476): The retry timer expires, and a tripped or seated stage goes to CHECK. -/
  | retryTimerExpiry
  /-- LOCKOUT_CLEAR_EXPIRY (R476): An unseated stage in lockout has been unseated for LOCKOUT_CLEAR, and the lockout ends. -/
  | lockoutClearExpiry
  /-- GOOD (R483): A GOOD acknowledges a mooring message. -/
  | good (rx : MoorRx) (id ack : Fin 16)
  /-- CAPS (R484): A sink answers CAPS with a REQUEST. -/
  | caps (rx : MoorRx) (id : Fin 16) (mask : Fin 16) (vendor : Bool)
  /-- GET_CAPS (R484): A supply answers GET_CAPS with CAPS. -/
  | getCaps (rx : MoorRx) (id : Fin 16)
  /-- REQUEST (R484): A supply answers a REQUEST with ACCEPT or REJECT. -/
  | request (rx : MoorRx) (id : Fin 16) (profile : Byte) (current : BitVec 16)
  /-- ACCEPT (R484): An ACCEPT changes the contract, or starts a transition. -/
  | accept (rx : MoorRx) (id : Fin 16) (profile : Byte)
  /-- REJECT (R484): A REJECT leaves the contract in force. -/
  | reject (rx : MoorRx) (id : Fin 16) (reason : Byte)
  /-- PS_READY (R484): A PS_READY puts the new contract in force at the sink. -/
  | psReady (rx : MoorRx) (id : Fin 16) (profile : Byte)
  /-- HARD_RESET (R486): A HARD_RESET returns the connector to profile 0 by way of a dead cable. -/
  | hardReset (rx : MoorRx) (id : Fin 16)
  /-- VDM_DISCOVER_MODES (R492): A DISCOVER_MODES VDM is answered with the supported modes. -/
  | vdmDiscoverModes (rx : MoorRx) (id : Fin 16) (response : Bool) (mode : Byte) (data : Bytes)
  /-- VDM_ENTER (R492): An ENTER VDM enters LIMP, RELAY-CHAIN or PAIR-HOMED. -/
  | vdmEnter (rx : MoorRx) (id : Fin 16) (response : Bool) (mode : Byte) (data : Bytes)
  /-- VDM_EXIT (R492): An EXIT VDM leaves a mode. -/
  | vdmExit (rx : MoorRx) (id : Fin 16) (response : Bool) (mode : Byte) (data : Bytes)
  /-- VDM_ATTENTION (R492): An ATTENTION VDM is received, for instance with FOG_CAUSE in LIMP. -/
  | vdmAttention (rx : MoorRx) (id : Fin 16) (mode : Byte) (data : Bytes)
  /-- MOOR_VDM (R492): A VDM under THIRD_SVID is passed to firmware. -/
  | moorVdm (rx : MoorRx) (id : Fin 16) (svid : BitVec 16) (command mode : Byte) (data : Bytes)
  /-- MOORING_MSG_RETRY (R483): A message unanswered for 2 ms is sent again, or after three sends is lost. -/
  | mooringMsgRetry (c : Fin 2)
  /-- CAPS_REPEAT (R484): CAPS_PERIOD elapses without a REQUEST, and CAPS is sent again. -/
  | capsRepeat (c : Fin 2)
  /-- PS_READY_TIMEOUT (R484): A sink holds no PS_READY in time after ACCEPT, and sends HARD_RESET. -/
  | psReadyTimeout (c : Fin 2)
  /-- TRANSITION_START (R485): 5 ms after ACCEPT, MOOR_VSET starts slewing to the new voltage. -/
  | transitionStart
  /-- TRANSITION_DONE (R485): The cable stays within ±5 % for 1 ms, and PS_READY is sent. -/
  | transitionDone
  /-- LIMP_ATTENTION (R492): In LIMP, an ATTENTION with FOG_CAUSE is sent every 1 s. -/
  | limpAttention
  /-- MOOR_FEED_SWITCH (R490): The selected feed has not been good for 100 µs and the other is, so break-before-make begins. -/
  | moorFeedSwitch (good : Fin 4)
  /-- FEED_BBM_END (R490): FEED_BBM elapses, and the other FEED_SEL is raised. -/
  | feedBbmEnd
  /-- FEED_RETURN (R490): The preferred feed has been good for 100 ms, and the hub returns to it. -/
  | feedReturn
  /-- MOOR_RENEGOTIATE (R499): Command: send CAPS on a connector. -/
  | moorRenegotiate (req : Path) (c : Fin 8) (tag : BitVec 16) (args : Bytes)
  /-- MOOR_REQUEST (R499): Command at a sink: request a profile. -/
  | moorRequest (req : Path) (c : Fin 8) (tag : BitVec 16) (args : Bytes)
  /-- MOOR_HARD_RESET (R499): Command: send HARD_RESET on a connector. -/
  | moorHardReset (req : Path) (c : Fin 8) (tag : BitVec 16) (args : Bytes)
  /-- MOOR_RESUME (R499): Command: end a lockout and go to CHECK. -/
  | moorResume (req : Path) (c : Fin 8) (tag : BitVec 16) (args : Bytes)
  /-- MOOR_SEND_VDM (R499): Command: send a VDM and return its response. -/
  | moorSendVdm (req : Path) (c : Fin 8) (tag : BitVec 16) (args : Bytes)
  /-- MOOR_HOLD_OFF (R499): Command MOOR_HOLD_OFF with 1: kill the stage and hold it in CHECK. -/
  | moorHoldOff (req : Path) (c : Fin 8) (tag : BitVec 16)
  /-- MOOR_HOLD_RELEASE (R499): Command MOOR_HOLD_OFF with 0: let CHECK proceed. -/
  | moorHoldRelease (req : Path) (c : Fin 8) (tag : BitVec 16)
  /-- KEY_OFFER (R515): A KEY_OFFER is verified and answered with KEY_ANSWER or KEY_REFUSE. -/
  | keyOffer (p : Fin 3) (m : SysMsg)
  /-- KEY_ANSWER (R516): A KEY_ANSWER is verified and the pair keys are derived. -/
  | keyAnswer (p : Fin 3) (m : SysMsg)
  /-- KEY_REFUSE (R515): A KEY_REFUSE makes TUNNEL_OPEN fail. -/
  | keyRefuse (p : Fin 3) (m : SysMsg)
  /-- REMASK (R510): Every 1 ms, the key masks are renewed and slot checks are tested. -/
  | remask
  /-- TRNG_STARTUP (R514): The TRNG start-up test passes and seeds the DRBG, or fails after 100 ms. -/
  | trngStartup (ok : Bool)
  /-- TRNG_HEALTH_FAIL (R514): A health test fails in service, and DRBG output is withheld. -/
  | trngHealthFail
  /-- KEY_DERIVE (R527): Command: derive a key into a user slot. -/
  | keyDerive (req : Path) (c : Fin 8) (tag : BitVec 16) (args : Bytes)
  /-- KEY_GENERATE (R527): Command: generate a key pair into a slot. -/
  | keyGenerate (req : Path) (c : Fin 8) (tag : BitVec 16) (args : Bytes)
  /-- KEY_LOAD_PUBLIC (R527): Command: load an IMAGE public key. -/
  | keyLoadPublic (req : Path) (c : Fin 8) (tag : BitVec 16) (args : Bytes)
  /-- KEY_ERASE (R527): Command: empty a user slot. -/
  | keyErase (req : Path) (c : Fin 8) (tag : BitVec 16) (args : Bytes)
  /-- ATTEST (R519): Command: return a signed attestation report. -/
  | attest (req : Path) (c : Fin 8) (tag : BitVec 16) (args : Bytes)
  /-- FUSE_PROGRAM (R504): Command in BENCH: blow a fuse field and verify it. -/
  | fuseProgram (req : Path) (c : Fin 8) (tag : BitVec 16) (args : Bytes) (ok : Bool)
  /-- PAIR_REKEY (R527): Command: discard the pair keys of a target. -/
  | pairRekey (req : Path) (c : Fin 8) (tag : BitVec 16) (args : Bytes)
  /-- SIGN (R527): Command: sign a digest with a user ATTEST slot. -/
  | sign (req : Path) (c : Fin 8) (tag : BitVec 16) (args : Bytes)
  /-- CRC_DATA_WRITE (R524): A write of CRC_DATA feeds 1, 2 or 4 bytes to a check channel. -/
  | crcDataWrite (c : Fin 16) (size : Fin 9) (v : Word)
  /-- CRC_START (R525): A write of START loads INIT into VALUE. -/
  | crcStart (c : Fin 16)
  /-- CH_FEED (R524): A write of CH_FEED feeds its bytes to a check channel. -/
  | chFeed (req : Path) (c : Fin 16) (data : Bytes)
  /-- CH_START (R526): A write of CH_START loads INIT. -/
  | chStart (req : Path) (c : Fin 16) (v : Bool)
  /-- EVENT_FIRE (R531): An event source fires, and a detail is queued or merged. -/
  | eventFire (src : Byte) (data : Bytes)
  /-- EVENT_TAKE (R532): A ring chooses its winner and writes the record, pushing the source when it has no AUTO_EOI. -/
  | eventTake (r : Fin 4) (ok : Bool)
  /-- EOI (R533): A write of EVR_EOI pops the stack, or sets EOI_MISMATCH. -/
  | eoi (r : Fin 4) (src : Byte)
  /-- PENDING_WRITE (R542): A write of PENDING queues a software detail or discards details. -/
  | pendingWrite (o : HoldOwner) (w : Fin 8) (v : Word)
  /-- MASK_READ (R542): A read of MASK returns after earlier records have been written. -/
  | maskRead (w : Fin 8)
  /-- HOLD_REQUEST (R544): A write of EVT_HOLD with REQUEST at 1 takes the hold on a word. -/
  | holdRequest (o : HoldOwner) (w : Fin 8)
  /-- HOLD_RELEASE (R544): A write of REQUEST at 0 by the holder releases the hold. -/
  | holdRelease (o : HoldOwner)
  /-- HOLD_EXPIRED (R544): A hold held for 10 µs is released by the hub. -/
  | holdExpired
  /-- EVR_RD_WRITE (R538): A write of EVR_RD frees records and may signal MSI-X again. -/
  | evrRdWrite (r : Fin 4) (v : BitVec 12)
  /-- RING_ENABLE (R537): A write of ENABLE resets the ring pointers, PHASE and stack, or stops the ring. -/
  | ringEnable (r : Fin 4) (v : Bool)
  /-- WAKE_LATCH_SET (R540): An edge on a wake line sets a latch, which brings back domains and fires its source. -/
  | wakeLatchSet (k : Fin 16) (rising : Bool)
  /-- EVENT_RAISE (R547): Command: queue a soft event detail. -/
  | eventRaise (req : Path) (c : Fin 8) (tag : BitVec 16) (args : Bytes)
  /-- DOMAIN_ON (R549): Command DOMAIN_SET with target on: power and clock a domain and apply its entries. -/
  | domainOn (req : Path) (c : Fin 8) (tag : BitVec 16) (d force : Byte)
  /-- DOMAIN_RETENTION (R551): Command DOMAIN_SET with target retention: run the handshake and stop clocks. -/
  | domainRetention (req : Path) (c : Fin 8) (tag : BitVec 16) (d force : Byte)
  /-- DOMAIN_OFF (R551): Command DOMAIN_SET with target off: run the handshake and remove power. -/
  | domainOff (req : Path) (c : Fin 8) (tag : BitVec 16) (d force : Byte)
  /-- DOMAIN_GRANT (R551): The last delaying block grants, and pads are held and the domain leaves on. -/
  | domainGrant (d : Fin 18)
  /-- DELAY_LIMIT_EXPIRY (R553): DELAY_LIMIT expires before all grants, and the request fails. -/
  | delayLimitExpiry (d : Fin 18)
  /-- PAD_RELEASE (R555): Command: release the pad holds of the named domains. -/
  | padRelease (req : Path) (c : Fin 8) (tag : BitVec 16) (args : Bytes)
  /-- PAD_HOLD_WRITE (R555): A write of 1 in PAD_HOLD releases a domain's pads. -/
  | padHoldWrite (v : Word)
  /-- DROOP_SLOW (R560): VDD_CORE falls below 0.760 V, and the core clock halves. -/
  | droopSlow
  /-- DROOP_CLEAR (R560): VDD_CORE stays at or above 0.772 V for 20 µs, and the clocks return. -/
  | droopClear
  /-- DROOP_LONG (R560): A slow-down lasts DROOP_LONG_LIMIT. -/
  | droopLong
  /-- BROWN_OUT (R561): VDD_CORE or VDD_AON below 0.720 V for 1 µs starts a hub or power-on reset. -/
  | brownOut (aon : Bool)
  /-- SYSRST (R564): SYSRST_N low for 1 µs starts a hub reset. -/
  | sysrst
  /-- XTAL_FAULT (R564): No crystal edge for 1 µs holds the hub in reset until the crystal has run for 10 ms. -/
  | xtalFault
  /-- WDT_KICK (R567): A write of 0xA5 to WDT_KICK restarts the watchdog. -/
  | wdtKick (key : Byte)
  /-- WDT_WARNING (R567): Half of WDT_PERIOD passes without a kick. -/
  | wdtWarning
  /-- WDT_EXPIRY (R567): WDT_PERIOD passes without a kick, and a hub reset starts with cause 5. -/
  | wdtExpiry
  /-- HUB_RESET (R578): Command with SCOPE 0: reset this hub 1 ms later. -/
  | hubReset (req : Path) (c : Fin 8) (tag : BitVec 16)
  /-- CHAIN_RESET (R568): Command HUB_RESET with SCOPE 1: send the chain-reset fog signal, then reset. -/
  | chainReset (req : Path) (c : Fin 8) (tag : BitVec 16)
  /-- FLASH_ERASE (R578): Command: erase a QSPI sector. -/
  | flashErase (req : Path) (c : Fin 8) (tag : BitVec 16) (args : Bytes)
  /-- FLASH_PROGRAM (R578): Command: program QSPI bytes and return the CRC of the read-back. -/
  | flashProgram (req : Path) (c : Fin 8) (tag : BitVec 16) (args : Bytes)
  /-- FREQ_LOCKED (R563): The SYSREF error stays below 0.01 ppm for 1 ms, and SYSREF locks. -/
  | freqLocked (ppb : Int)
  /-- SELECT_WRITE (R582): A write of SELECT zeroes a counter and changes what it counts. -/
  | selectWrite (req : Path) (n : Fin 96) (v : Word)
  /-- CMP_LIMIT (R583): A comparator count first reaches LIMIT. -/
  | cmpLimit (k : Fin 32)
  /-- CMP_CONFIG_WRITE (R583): A write of OCC, INSTANCE or N zeroes the comparator count. -/
  | cmpConfigWrite (req : Path) (k : Fin 32) (which : Fin 3) (v : Word)
  /-- CNT_LO_READ (R584): A read of CNT_LO latches CNT_HI. -/
  | cntLoRead (n : Fin 384)
  /-- SNAP_CLOCK_LO_READ (R591): A read of SNAP_CLOCK_LO, or of a bank entry's LO, latches its HI. -/
  | snapClockLoRead (b : Fin 4) (e : Option (Fin 64))
  /-- CNT_SNAPSHOT (R592): Command: capture a snapshot bank at AT. -/
  | cntSnapshot (req : Path) (c : Fin 8) (tag : BitVec 16) (args : Bytes)
  /-- SNAPSHOT_CAPTURE (R585): At AT, or at a CAPTURE daymark, the listed counters are copied in one cycle. -/
  | snapshotCapture (b : Fin 4)
  /-- OBS_ENABLE_WRITE (R586): A write of OBS_ENABLE drives the OBS balls, or is refused when locked. -/
  | obsEnableWrite (req : Option Path) (v : Bool)
  /-- OBS_GROUP_WRITE (R586): A write of OBS_GROUP changes the observed group. -/
  | obsGroupWrite (req : Option Path) (v : Byte)
  /-- DEBUG_CHALLENGE (R587): Command: return a debug NONCE. -/
  | debugChallenge (req : Path) (c : Fin 8) (tag : BitVec 16) (args : Bytes)
  /-- DEBUG_UNLOCK (R587): Command: verify a signed unlock and unlock debug. -/
  | debugUnlock (req : Path) (c : Fin 8) (tag : BitVec 16) (args : Bytes)
  /-- NONCE_EXPIRY (R587): A debug NONCE expires after 60 s. -/
  | nonceExpiry
  /-- LOOPBACK_WRITE (R588): A write of LOOPBACK in BENCH sets or clears a lane or port loopback. -/
  | loopbackWrite (req : Path) (q : Fin 25) (v : Byte)
  /-- BYPASS (R589): JTAG instruction: bypass register. -/
  | bypass
  /-- IDCODE (R589): JTAG instruction: read IDCODE. -/
  | idcode
  /-- SAMPLE_PRELOAD (R589): JTAG instruction: sample or preload the boundary. -/
  | samplePreload (bits : Bytes)
  /-- EXTEST (R589): JTAG instruction: drive the boundary, under compliance only. -/
  | extest
  /-- EXTEST_PULSE (R589): JTAG 1149.6 pulse test, under compliance only. -/
  | extestPulse
  /-- EXTEST_TRAIN (R589): JTAG 1149.6 train test, under compliance only. -/
  | extestTrain
  /-- CLAMP (R589): JTAG instruction: clamp outputs, under compliance only. -/
  | clamp
  /-- HIGHZ (R589): JTAG instruction: float outputs, under compliance only. -/
  | highz
  /-- REGISTER_WRITE (R9): A write to a register with no row of its own acts by its field types. -/
  | registerWrite (t : RegTarget)
  /-- CELL_SLOT (R182): At each cell slot of an egress, the committed or excess round chooses an eligible queue by deficit round robin and sends its head cell, or sends none. -/
  | cellSlot (e : Fin 32) (k : Fin 2)
  /-- FOLLOWER_STEP (R78): A follower that has detected signal in the round sees loss of signal on every lane for 50 µs and steps to the next lower rate. -/
  | followerStep (p : Fin 3)
  /-- CHECKER_LOCK (R100): The pattern checker gains lock after 128 (or 160) correct bits, or loses it on 16 errors in 256 bits and searches again, changing CHK_LOCK. -/
  | checkerLock (n : Fin 5) (before after : List Bool)
  /-- PLL_UNLOCK (R579): A PLL loses lock, which sets PLL_UNLOCK in PWR_FLAGS and raises the event PLL_UNLOCK. -/
  | pllUnlock (k : Fin 9)
  /-- VDD_CORE_RESTORED (R601): VDD_CORE returns to 0.720 V or above after a core brown-out, and the hub boots from step 2 of R570. -/
  | vddCoreRestored
  /-- CRYSTAL_RETURN (R564): The crystal has run for 10 ms after a cause 8 reset, so the reset ends, boot begins and XTAL_FAULT is raised at RESET_DONE. -/
  | crystalReturn
  /-- RSTOUT_RELEASE (R566): RSTOUT_DELAY passes from the start of the boot ROM, and RSTOUT_N is released. -/
  | rstoutRelease
  /-- PORST_N_ASSERTED (R564): PORST_N is driven low, so the whole hub is held in power-on reset and the mode confirmation ends. -/
  | porstNAsserted
  /-- TRNG_TESTS_PASS (R514): After an in-service failure the TRNG health tests pass again, so DRBG output and re-masking resume. -/
  | trngTestsPass
  /-- ECC_ENGINE_DONE (R512): An ECDSA, ECDH or key-generation operation of the ECC engine completes, its command or exchange continues, and the next queued operation starts. -/
  | eccEngineDone
  /-- FLASH_OPERATION_DONE (R578): The QSPI erase or program of FLASH_ERASE or FLASH_PROGRAM completes, and the command ends with its result. -/
  | flashOperationDone (ok : Bool)
  /-- DOMAIN_POWER_UP_DONE (R549): A domain coming back from off or retention reaches on, with its entries applied, and the next domain waiting for inrush may start. -/
  | domainPowerUpDone (d : Fin 18)
  /-- COMPLETION_TIMEOUT (R439): A DMA read of a host queue has no completion within the completion timeout, so the queue faults. -/
  | completionTimeout (q : Fin 32)
  /-- EMMC_DEVICE_TIMEOUT (R359): An eMMC device command does not answer in time; it is retried, or the request ends with OPERATION_FAILED detail 0x11 and reinitialisation starts. -/
  | emmcDeviceTimeout
  /-- CAN_BUS_ERROR (R348): The controller detects a bus or transmit error, which changes TEC and REC and may make the port error passive, and retransmits automatically. -/
  | canBusError (n : Fin 6) (tx heavy : Bool)
  /-- CTS_N_CHANGE (R363): CTS_N of a UART with FLOW at 1 changes level, which stops or resumes transmission. -/
  | ctsNChange (n : Fin 6) (level : Bool)
  /-- USB_RECONNECT_TIMEOUT (R415): 1 s passes after USB_RECONNECT without the function connecting, and the command ends with OPERATION_FAILED detail 1. -/
  | usbReconnectTimeout (n : Fin 2) (f : Fin 4)
  deriving DecidableEq, Repr

end Sys2Proof
end

