-- ==== Sys2Proof/Config.lean ====
section
/-!
DEFINITION. What a device or an implementation fixes, and the free values: every constant here is
opaque, so that no proof can see what it is. Logs 3, 4, 5 and 7.
-/

namespace Sys2Proof

/-- SERIAL, a constant of each device (R39); 64 bits. -/
opaque Config.serial : Nat

/-- The MAC address default of ETHn, a constant of each device (R345). -/
opaque Config.macAddr : Nat → Nat

/-- VERSION of the Keeper firmware image in QSPI (R39): what FIRMWARE_VERSION reads once it runs. -/
opaque Config.firmwareVersion : Nat

/-- The Keeper services that firmware registers: SERVICE_s of R42. -/
opaque Config.serviceMask : Nat → Nat

/-- The n-th random number the TRNG or DRBG gives (R142, R505, R514): a free value. -/
opaque Config.random : Nat → Nat

/-- A value that the spec does not state, the n-th one drawn: a free value. -/
opaque Config.unstated : Nat → Nat

/-- SHA-256 of a byte string (R231, R519): the named standard, uninterpreted. -/
opaque Config.sha256 : Bytes → Bytes

/-- The HMAC-SHA-256 of the named standard, uninterpreted. -/
opaque Config.hmac : Nat → Bytes → Bytes

/-- ECDSA over P-256, uninterpreted, with the deterministic nonce of RFC 6979: private key and digest to the signature r then s. -/
opaque Config.ecdsaSign : Nat → Bytes → Bytes

/-- Whether a signature verifies: public key x then y, digest, signature r then s. -/
opaque Config.ecdsaVerify : Bytes → Bytes → Bytes → Bool

/-- The public point of a private key, x then y. -/
opaque Config.publicOf : Nat → Bytes

/-- The ECDH shared secret of a private key and a far public point. -/
opaque Config.ecdh : Nat → Bytes → Nat

/-- The built-in vendor image key k, x then y (R506), a constant of each device. -/
opaque Config.vendorKey : Nat → Bytes

/-- Whether 64 bytes are a point of the curve P-256. -/
opaque Config.onCurve : Bytes → Bool

/-- AES-256-GCM seal: key, nonce, associated data, plain text to cipher text and 16-byte tag. -/
opaque Config.seal : Nat → Bytes → Bytes → Bytes → Bytes

/-- AES-256-GCM open: key, nonce, associated data, cipher text with tag to the plain text, or none. -/
opaque Config.unseal : Nat → Bytes → Bytes → Bytes → Option Bytes

/-- A mirror record and an acknowledgement as bytes: their layout belongs to the firmware release (R449, log 74). -/
opaque Config.mirrorData : Nat → MirrorRec → Bytes
opaque Config.mirrorAckData : Nat → Bytes

/-- The entries and values that a stored configuration holds: its layout in the flash belongs to the firmware release (R569, log 88). -/
opaque Config.storedEntries : Bytes → List (Nat × Bytes)

end Sys2Proof
end

