-- ==== Sys2Proof/Machine/State/Base.lean ====
section
/-!
DEFINITION. The plain data the state is built from: tables with a default value in one canonical
form, dictionary entries and rows, and the kinds of access path (R10, R31 to R36).
-/

namespace Sys2Proof.Machine

/-- A table from numbers to values, as a list of cells in rising key order; a key that is not listed
holds the table's default value, which every read and write names. -/
structure Tab (α : Type) where
  cells : List (Nat × α)
  deriving DecidableEq, Repr

/-- An entry of the dictionary or a register: its key and the value it holds when nothing is stored. -/
structure Entry where
  key : Nat
  dflt : Nat
  deriving DecidableEq, Repr

/-- The entry types of R10 and R32. -/
inductive OdType where
  | bool | u8 | u16 | u32 | u64 | i32 | i64 | str | domain
  deriving DecidableEq, Repr

/-- The access codes of R10. -/
inductive OdAccess where
  | rw | ro | wo | const
  deriving DecidableEq, Repr

/-- One row of the dictionary's maps: the first key it covers, the strides and counts of its
parameters, its type, its access code and the intervals a written value may lie in (for STR and
DOMAIN, the lengths). -/
structure OdRow where
  base : Nat
  dims : List (Nat × Nat)
  ty : OdType
  acc : OdAccess
  range : List (Int × Int)
  deriving DecidableEq, Repr

end Sys2Proof.Machine
end

