-- ==== Sys2Proof/Machine/OdMap.lean ====
section
/-!
DEFINITION. The object dictionary of the hub as the maps of the chapters list it: one constant per
entry (its key, index * 256 + subindex, and its default) and one row per entry or family of entries
(key, parameter strides and counts, type, access, range), rules R31, R32, R38 and the maps.
-/

namespace Sys2Proof.Machine

/-- Default of STAGE_QUOTA_IN of local ingress i, in KiB (R266, the table of the defaults). -/
def stageQuotaInDefault (i : Nat) : Nat := 
  if i < 11 then 32 else if i = 11 then 128 else if i < 14 then 64 else if i < 16 then 32 else if i = 16 then 64
  else if i < 29 then 4 else if i = 29 then 32 else if i = 30 then 8 else 64

/-- Default of STAGE_QUOTA_OUT of local ingress i, in KiB (R266). -/
def stageQuotaOutDefault (i : Nat) : Nat := 
  if i = 12 ∨ i = 13 then 0 else stageQuotaInDefault i

/-- Default of breaker-curve current I_k, in per mille (R488). -/
def curveIDefault (k : Nat) : Nat := 
  [1050, 1100, 1200, 1300, 1400, 1500, 1750, 2000, 2250, 2500, 2750, 3000, 3500, 4000, 4500, 5000].getD k 0

/-- Default of breaker-curve time T_k, in microseconds (R488). -/
def curveTDefault (k : Nat) : Nat := 
  [60000000, 20000000, 8000000, 4000000, 2000000, 1000000, 500000, 200000, 100000, 50000, 20000, 10000,
    5000, 2000, 1000, 200].getD k 0

/-- Default priority of each event source, sixteen to a row; 0 for a reserved source (R529, R579, R593). -/
def evtPriorityDefault (s : Nat) : Nat :=
  ([8, 8, 8, 4, 0, 0, 0, 0, 14, 14, 14, 14, 14, 0, 0, 0,
    6, 6, 6, 10, 6, 6, 6, 6, 8, 8, 12, 8, 8, 8, 12, 0,
    7, 7, 10, 7, 7, 0, 0, 0, 7, 7, 7, 7, 0, 0, 0, 0,
    9, 9, 9, 12, 9, 9, 9, 4, 8, 8, 8, 8, 8, 8, 8, 15,
    9, 9, 9, 9, 13, 9, 9, 9, 9, 9, 9, 9, 0, 0, 0, 0,
    5, 5, 13, 5, 5, 0, 0, 0, 6, 6, 6, 6, 6, 6, 6, 0,
    5, 5, 5, 5, 5, 0, 0, 0, 5, 5, 5, 5, 5, 5, 5, 0,
    6, 6, 6, 6, 6, 6, 0, 0, 12, 12, 12, 12, 12, 12, 12, 0,
    11, 11, 15, 15, 11, 11, 11, 0, 14, 14, 10, 10, 10, 10, 10, 0,
    4, 6, 8, 9, 4, 12, 6, 11, 14, 15, 14, 10, 5, 0, 0, 0,
    0, 0, 0, 0, 0, 0, 0, 0, 0, 0, 0, 0, 0, 0, 0, 0,
    3, 3, 3, 3, 3, 0, 0, 0, 0, 0, 0, 0, 0, 0, 0, 0,
    0, 0, 0, 0, 0, 0, 0, 0, 0, 0, 0, 0, 0, 0, 0, 0,
    1, 1, 1, 1, 1, 1, 1, 1, 1, 1, 1, 1, 1, 1, 1, 1,
    1, 1, 1, 1, 1, 1, 1, 1, 1, 1, 1, 1, 1, 1, 1, 1,
    14, 14, 14, 14, 14, 14, 14, 14, 14, 14, 14, 14, 14, 14, 14, 14] : List Nat).getD s 0

/-- Source 0x00 TOPOLOGY_FAULT (R529). -/
abbrev Ev.topologyFault : Nat := 0x00

/-- Source 0x01 LINK_FAILED (R529). -/
abbrev Ev.linkFailed : Nat := 0x01

/-- Source 0x02 CONFIG_SKIP (R529). -/
abbrev Ev.configSkip : Nat := 0x02

/-- Source 0x03 MBX_DONE (R529). -/
abbrev Ev.mbxDone : Nat := 0x03

/-- Source 0x08 EVT_RING_FULL (R529). -/
abbrev Ev.evtRingFull : Nat := 0x08

/-- Source 0x09 EVT_RING_FAULT (R529). -/
abbrev Ev.evtRingFault : Nat := 0x09

/-- Source 0x0A EVT_DETAIL_LOST (R529). -/
abbrev Ev.evtDetailLost : Nat := 0x0A

/-- Source 0x0B EVT_EOI_MISMATCH (R529). -/
abbrev Ev.evtEoiMismatch : Nat := 0x0B

/-- Source 0x0C EVT_HOLD_EXPIRED (R529). -/
abbrev Ev.evtHoldExpired : Nat := 0x0C

/-- Source 0x10 LEADER_CONFLICT (R529). -/
abbrev Ev.leaderConflict : Nat := 0x10

/-- Source 0x11 LANE_PAIRING_FAULT (R529). -/
abbrev Ev.lanePairingFault : Nat := 0x11

/-- Source 0x12 EYE_MARGIN_LOW (R529). -/
abbrev Ev.eyeMarginLow : Nat := 0x12

/-- Source 0x13 PORT_FAILED (R529). -/
abbrev Ev.portFailed : Nat := 0x13

/-- Source 0x14 QUIET_FAULT (R529). -/
abbrev Ev.quietFault : Nat := 0x14

/-- Source 0x15 LANE_DROPPED (R529). -/
abbrev Ev.laneDropped : Nat := 0x15

/-- Source 0x16 LANE_REJOINED (R529). -/
abbrev Ev.laneRejoined : Nat := 0x16

/-- Source 0x17 PORT_RATE_CHANGED (R529). -/
abbrev Ev.portRateChanged : Nat := 0x17

/-- Source 0x18 CELL_FAULT (R529). -/
abbrev Ev.cellFault : Nat := 0x18

/-- Source 0x19 REPLAY_EXHAUSTED (R529). -/
abbrev Ev.replayExhausted : Nat := 0x19

/-- Source 0x1A FOG_RECEIVED (R529). -/
abbrev Ev.fogReceived : Nat := 0x1A

/-- Source 0x1B SF_SLIP (R529). -/
abbrev Ev.sfSlip : Nat := 0x1B

/-- Source 0x1C LINK_UP (R529). -/
abbrev Ev.linkUp : Nat := 0x1C

/-- Source 0x1D LINK_HELD (R529). -/
abbrev Ev.linkHeld : Nat := 0x1D

/-- Source 0x1E LINK_DOWN (R529). -/
abbrev Ev.linkDown : Nat := 0x1E

/-- Source 0x20 TUNNEL_OPENED (R529). -/
abbrev Ev.tunnelOpened : Nat := 0x20

/-- Source 0x21 TUNNEL_CLOSED (R529). -/
abbrev Ev.tunnelClosed : Nat := 0x21

/-- Source 0x22 TUNNEL_FAULTED (R529). -/
abbrev Ev.tunnelFaulted : Nat := 0x22

/-- Source 0x23 TUNNEL_SEQ_FAULT (R529). -/
abbrev Ev.tunnelSeqFault : Nat := 0x23

/-- Source 0x24 TUNNEL_REOPEN (R529). -/
abbrev Ev.tunnelReopen : Nat := 0x24

/-- Source 0x28 PLAN_SWITCHED (R529). -/
abbrev Ev.planSwitched : Nat := 0x28

/-- Source 0x29 PLAN_LATE (R529). -/
abbrev Ev.planLate : Nat := 0x29

/-- Source 0x2A ADMISSION_SHED (R529). -/
abbrev Ev.admissionShed : Nat := 0x2A

/-- Source 0x2B ADMISSION_RESTORED (R529). -/
abbrev Ev.admissionRestored : Nat := 0x2B

/-- Source 0x30 TENDER_FENCED (R529). -/
abbrev Ev.tenderFenced : Nat := 0x30

/-- Source 0x31 PIN_MOVED (R529). -/
abbrev Ev.pinMoved : Nat := 0x31

/-- Source 0x32 ENGINE_SHORT (R529). -/
abbrev Ev.engineShort : Nat := 0x32

/-- Source 0x33 JOB_POISON (R529). -/
abbrev Ev.jobPoison : Nat := 0x33

/-- Source 0x34 FENCE_EXPIRED (R529). -/
abbrev Ev.fenceExpired : Nat := 0x34

/-- Source 0x35 RELOADED (R529). -/
abbrev Ev.reloaded : Nat := 0x35

/-- Source 0x36 MC_INVALID (R529). -/
abbrev Ev.mcInvalid : Nat := 0x36

/-- Source 0x37 BARRIER_DONE (R529). -/
abbrev Ev.barrierDone : Nat := 0x37

/-- Source 0x38 POOL_LOW (R529). -/
abbrev Ev.poolLow : Nat := 0x38

/-- Source 0x39 PFC_STUCK (R529). -/
abbrev Ev.pfcStuck : Nat := 0x39

/-- Source 0x3A CLS_STALE (R529). -/
abbrev Ev.clsStale : Nat := 0x3A

/-- Source 0x3B CLS_ECC (R529). -/
abbrev Ev.clsEcc : Nat := 0x3B

/-- Source 0x3C MIRROR_SKIP (R529). -/
abbrev Ev.mirrorSkip : Nat := 0x3C

/-- Source 0x3D MIRROR_SESSION_STALE (R529). -/
abbrev Ev.mirrorSessionStale : Nat := 0x3D

/-- Source 0x3E ECC_CE_LIMIT (R529). -/
abbrev Ev.eccCeLimit : Nat := 0x3E

/-- Source 0x3F ECC_UNCORRECTABLE (R529). -/
abbrev Ev.eccUncorrectable : Nat := 0x3F

/-- Source 0x40 BCN_REVERSAL (R529). -/
abbrev Ev.bcnReversal : Nat := 0x40

/-- Source 0x41 BCN_STANDSTILL (R529). -/
abbrev Ev.bcnStandstill : Nat := 0x41

/-- Source 0x42 ENC_FAULT (R529). -/
abbrev Ev.encFault : Nat := 0x42

/-- Source 0x43 GROUND_SOURCE_SWITCH (R529). -/
abbrev Ev.groundSourceSwitch : Nat := 0x43

/-- Source 0x44 BEARING_LOST (R529). -/
abbrev Ev.bearingLost : Nat := 0x44

/-- Source 0x45 BCN_HOLDOVER (R529). -/
abbrev Ev.bcnHoldover : Nat := 0x45

/-- Source 0x46 BCN_LOCKED (R529). -/
abbrev Ev.bcnLocked : Nat := 0x46

/-- Source 0x47 BCN_RESYNC (R529). -/
abbrev Ev.bcnResync : Nat := 0x47

/-- Source 0x48 CLOCK_STEP (R529). -/
abbrev Ev.clockStep : Nat := 0x48

/-- Source 0x49 PROBE_REJECT (R529). -/
abbrev Ev.probeReject : Nat := 0x49

/-- Source 0x4A SHADOW_DIVERGE (R529). -/
abbrev Ev.shadowDiverge : Nat := 0x4A

/-- Source 0x4B Z_STEP (R529). -/
abbrev Ev.zStep : Nat := 0x4B

/-- Source 0x50 DAYMARK_FIRED (R529). -/
abbrev Ev.daymarkFired : Nat := 0x50

/-- Source 0x51 DM_POST_DONE (R529). -/
abbrev Ev.dmPostDone : Nat := 0x51

/-- Source 0x52 LAMP_SAFE_ENTERED (R529). -/
abbrev Ev.lampSafeEntered : Nat := 0x52

/-- Source 0x53 LAMP_RELEASED (R529). -/
abbrev Ev.lampReleased : Nat := 0x53

/-- Source 0x54 LAMP_CAL_FAULT (R529). -/
abbrev Ev.lampCalFault : Nat := 0x54

/-- Source 0x58 ETH_LINK_CHANGE (R529). -/
abbrev Ev.ethLinkChange : Nat := 0x58

/-- Source 0x59 ETH_OVERRUN (R529). -/
abbrev Ev.ethOverrun : Nat := 0x59

/-- Source 0x5A CAN_BUS_OFF (R529). -/
abbrev Ev.canBusOff : Nat := 0x5A

/-- Source 0x5B CAN_ADDRESS_LOST (R529). -/
abbrev Ev.canAddressLost : Nat := 0x5B

/-- Source 0x5C EMMC_READY (R529). -/
abbrev Ev.emmcReady : Nat := 0x5C

/-- Source 0x5D EMMC_DEGRADED (R529). -/
abbrev Ev.emmcDegraded : Nat := 0x5D

/-- Source 0x5E EMMC_FAILED (R529). -/
abbrev Ev.emmcFailed : Nat := 0x5E

/-- Source 0x60 VIDEO_STALL (R529). -/
abbrev Ev.videoStall : Nat := 0x60

/-- Source 0x61 VIDEO_RESUMED (R529). -/
abbrev Ev.videoResumed : Nat := 0x61

/-- Source 0x62 DSI_UNDERRUN (R529). -/
abbrev Ev.dsiUnderrun : Nat := 0x62

/-- Source 0x63 VIDEO_FORMAT (R529). -/
abbrev Ev.videoFormat : Nat := 0x63

/-- Source 0x64 CSI_ERROR (R529). -/
abbrev Ev.csiError : Nat := 0x64

/-- Source 0x68 USB_BUS_RESET (R529). -/
abbrev Ev.usbBusReset : Nat := 0x68

/-- Source 0x69 USB_CTRL_ABORTED (R529). -/
abbrev Ev.usbCtrlAborted : Nat := 0x69

/-- Source 0x6A USB_CTRL_TIMEOUT (R529). -/
abbrev Ev.usbCtrlTimeout : Nat := 0x6A

/-- Source 0x6B USB_SUSPEND (R529). -/
abbrev Ev.usbSuspend : Nat := 0x6B

/-- Source 0x6C USB_RESUME (R529). -/
abbrev Ev.usbResume : Nat := 0x6C

/-- Source 0x6D USB_FUNC_DISCONNECT (R529). -/
abbrev Ev.usbFuncDisconnect : Nat := 0x6D

/-- Source 0x6E USB_CONFIGURED (R529). -/
abbrev Ev.usbConfigured : Nat := 0x6E

/-- Source 0x70 PCIE_LINK_CHANGE (R529). -/
abbrev Ev.pcieLinkChange : Nat := 0x70

/-- Source 0x71 WINDOW_FAULT (R529). -/
abbrev Ev.windowFault : Nat := 0x71

/-- Source 0x72 PREFETCH_LOST (R529). -/
abbrev Ev.prefetchLost : Nat := 0x72

/-- Source 0x73 MEM_LOCK_EXPIRED (R529). -/
abbrev Ev.memLockExpired : Nat := 0x73

/-- Source 0x74 MEM_ACCESS_FAULT (R529). -/
abbrev Ev.memAccessFault : Nat := 0x74

/-- Source 0x75 HOSTQ_FAULT (R529). -/
abbrev Ev.hostqFault : Nat := 0x75

/-- Source 0x78 PAIR_SWAPPED (R529). -/
abbrev Ev.pairSwapped : Nat := 0x78

/-- Source 0x79 PAIR_SWAP_ABORTED (R529). -/
abbrev Ev.pairSwapAborted : Nat := 0x79

/-- Source 0x7A PAIR_CLAIMED (R529). -/
abbrev Ev.pairClaimed : Nat := 0x7A

/-- Source 0x7B PAIR_DEMOTED (R529). -/
abbrev Ev.pairDemoted : Nat := 0x7B

/-- Source 0x7C PAIR_SPLIT (R529). -/
abbrev Ev.pairSplit : Nat := 0x7C

/-- Source 0x7D MIRROR_STALE (R529). -/
abbrev Ev.mirrorStale : Nat := 0x7D

/-- Source 0x7E MIRROR_IN_STEP (R529). -/
abbrev Ev.mirrorInStep : Nat := 0x7E

/-- Source 0x80 MOOR_SEATED (R529). -/
abbrev Ev.moorSeated : Nat := 0x80

/-- Source 0x81 MOOR_UNSEATED (R529). -/
abbrev Ev.moorUnseated : Nat := 0x81

/-- Source 0x82 MOOR_TRIP (R529). -/
abbrev Ev.moorTrip : Nat := 0x82

/-- Source 0x83 MOOR_LOCKOUT (R529). -/
abbrev Ev.moorLockout : Nat := 0x83

/-- Source 0x84 MOOR_CONTRACT (R529). -/
abbrev Ev.moorContract : Nat := 0x84

/-- Source 0x85 MOOR_FEED_SWITCH (R529). -/
abbrev Ev.moorFeedSwitch : Nat := 0x85

/-- Source 0x86 MOOR_VDM (R529). -/
abbrev Ev.moorVdm : Nat := 0x86

/-- Source 0x88 KEY_SLOT_BAD (R529). -/
abbrev Ev.keySlotBad : Nat := 0x88

/-- Source 0x89 TRNG_FAULT (R529). -/
abbrev Ev.trngFault : Nat := 0x89

/-- Source 0x8A SEAL_FAIL (R529). -/
abbrev Ev.sealFail : Nat := 0x8A

/-- Source 0x8B KEY_AGREE_FAIL (R529). -/
abbrev Ev.keyAgreeFail : Nat := 0x8B

/-- Source 0x8C SAFETY_CRC (R529). -/
abbrev Ev.safetyCrc : Nat := 0x8C

/-- Source 0x8D SAFETY_ALIVE (R529). -/
abbrev Ev.safetyAlive : Nat := 0x8D

/-- Source 0x8E FUSE_RECORD_VOID (R529). -/
abbrev Ev.fuseRecordVoid : Nat := 0x8E

/-- Source 0x90 DOMAIN_CHANGED (R529). -/
abbrev Ev.domainChanged : Nat := 0x90

/-- Source 0x91 DOMAIN_REFUSED (R529). -/
abbrev Ev.domainRefused : Nat := 0x91

/-- Source 0x92 DOMAIN_FORCED (R529). -/
abbrev Ev.domainForced : Nat := 0x92

/-- Source 0x93 DROOP_SLOW (R529). -/
abbrev Ev.droopSlow : Nat := 0x93

/-- Source 0x94 DROOP_CLEAR (R529). -/
abbrev Ev.droopClear : Nat := 0x94

/-- Source 0x95 DROOP_LONG (R529). -/
abbrev Ev.droopLong : Nat := 0x95

/-- Source 0x96 FREQ_LOCKED (R529). -/
abbrev Ev.freqLocked : Nat := 0x96

/-- Source 0x97 FREQ_HOLDOVER (R529). -/
abbrev Ev.freqHoldover : Nat := 0x97

/-- Source 0x98 PLL_UNLOCK (R529). -/
abbrev Ev.pllUnlock : Nat := 0x98

/-- Source 0x99 XTAL_FAULT (R529). -/
abbrev Ev.xtalFault : Nat := 0x99

/-- Source 0x9A WDT_WARNING (R529). -/
abbrev Ev.wdtWarning : Nat := 0x9A

/-- Source 0x9B BOOT_FALLBACK (R529). -/
abbrev Ev.bootFallback : Nat := 0x9B

/-- Source 0x9C RESET_DONE (R529). -/
abbrev Ev.resetDone : Nat := 0x9C

/-- Source 0xB0 CMP_LIMIT (R529). -/
abbrev Ev.cmpLimit : Nat := 0xB0

/-- Source 0xB1 SNAPSHOT_DONE (R529). -/
abbrev Ev.snapshotDone : Nat := 0xB1

/-- Source 0xB2 DEBUG_UNLOCKED (R529). -/
abbrev Ev.debugUnlocked : Nat := 0xB2

/-- Source 0xB3 DEBUG_UNLOCK_FAILED (R529). -/
abbrev Ev.debugUnlockFailed : Nat := 0xB3

/-- Source 0xB4 OBS_CHANGED (R529). -/
abbrev Ev.obsChanged : Nat := 0xB4

/-- A number that no row of R529, R579 or R593 lists is reserved and never fires. -/
def evtReserved (s : Nat) : Bool := evtPriorityDefault s == 0

/-- Default of EVT_CFG of source s: the priority of R529, RING 0, AUTO_EOI 1 (R530). -/
def evtCfgDefault (s : Nat) : Nat := 64 + evtPriorityDefault s


/-- OD 0x2000.01 STRAP_MODE (R16). -/
def Od.modeStrapMode : Entry := ⟨0x200001, 0⟩

/-- OD 0x2000.02 ACTIVE_MODE (R16). -/
def Od.modeActiveMode : Entry := ⟨0x200002, 0⟩

/-- OD 0x2000.03 MODE_CONFIRM (R16). -/
def Od.modeModeConfirm : Entry := ⟨0x200003, 255⟩

/-- OD 0x2000.04 FOG_CAUSE (R16). -/
def Od.modeFogCause : Entry := ⟨0x200004, 0⟩

/-- OD 0x2000.05 FOG_DEADLINE (R16). -/
def Od.modeFogDeadline : Entry := ⟨0x200005, 1500⟩

/-- OD 0x2000.06 FOG_RETRY_PERIOD (R16). -/
def Od.modeFogRetryPeriod : Entry := ⟨0x200006, 5000⟩

/-- OD 0x2000.07 HOP_DEPTH (R16). -/
def Od.modeHopDepth : Entry := ⟨0x200007, 0⟩

/-- OD 0x2000.08 PAIR_CONFIG (R16). -/
def Od.modePairConfig : Entry := ⟨0x200008, 0⟩

/-- OD 0x2000.09 CHAIN_COUNT (R16). -/
def Od.modeChainCount : Entry := ⟨0x200009, 0⟩

/-- OD 0x1000.01 VENDOR_ID (R39). -/
def Od.idVendorId : Entry := ⟨0x100001, 5524566⟩

/-- OD 0x1000.02 PRODUCT_CODE (R39). -/
def Od.idProductCode : Entry := ⟨0x100002, 25600⟩

/-- OD 0x1000.03 SILICON_REV (R39). -/
def Od.idSiliconRev : Entry := ⟨0x100003, 176⟩

/-- OD 0x1000.04 SERIAL (R39). -/
def Od.idSerial : Entry := ⟨0x100004, Config.serial⟩

/-- OD 0x1000.05 FIRMWARE_VERSION (R39). -/
def Od.idFirmwareVersion : Entry := ⟨0x100005, 0⟩

/-- OD 0x1000.06 DEVICE_NAME (R39). -/
def Od.idDeviceName : Entry := ⟨0x100006, 0⟩

/-- OD 0x1000.07 ISO11783_NAME (R39). -/
def Od.idIso11783Name : Entry := ⟨0x100007, 0⟩

/-- OD 0x1000.08 CLAIMED_ADDRESS (R39). -/
def Od.idClaimedAddress : Entry := ⟨0x100008, 0⟩

/-- OD 0x1010.01 ODAP_PORTS (R40). -/
def Od.odapOdapPorts : Entry := ⟨0x101001, 1⟩

/-- OD 0x1010.02 ODAP_FD_FRAMES (R40). -/
def Od.odapOdapFdFrames : Entry := ⟨0x101002, 0⟩

/-- OD 0x1010.03 ODAP_TIMEOUT (R40). -/
def Od.odapOdapTimeout : Entry := ⟨0x101003, 1000⟩

/-- OD 0x1010.04 ODAP_WRITE_ENABLE (R40). -/
def Od.odapOdapWriteEnable : Entry := ⟨0x101004, 1⟩

/-- OD 0x1010.05 ODAP_PRIORITY (R40). -/
def Od.odapOdapPriority : Entry := ⟨0x101005, 6⟩

/-- OD 0x1012.01 REMOTE_ENABLE (R40). -/
def Od.remoteRemoteEnable : Entry := ⟨0x101201, 1⟩

/-- OD 0x1012.02 REMOTE_TIMEOUT (R40). -/
def Od.remoteRemoteTimeout : Entry := ⟨0x101202, 100⟩

/-- OD 0x1020.01 to 0x1020.FF SERVICE_s (R42). -/
def Od.svcServiceS (s : Nat) : Entry := ⟨0x102001 + 1 * s, 0⟩

/-- OD 0x5000+c.01 COMMAND (R57). -/
def Od.cmdCommand (c : Nat) : Entry := ⟨0x500001 + 256 * c, 0⟩

/-- OD 0x5080+c.01 RESULT (R57). -/
def Od.cmdResult (c : Nat) : Entry := ⟨0x508001 + 256 * c, 0⟩

/-- OD 0x5080+c.02 RESULT_TAG (R57). -/
def Od.cmdResultTag (c : Nat) : Entry := ⟨0x508002 + 256 * c, 0⟩

/-- OD 0x5080+c.03 CHANNEL_STATE (R57). -/
def Od.cmdChannelState (c : Nat) : Entry := ⟨0x508003 + 256 * c, 0⟩

/-- OD 0x3000+p.01 PORT_ENABLE (R103). -/
def Od.portPortEnable (p : Nat) : Entry := ⟨0x300001 + 256 * p, 1⟩

/-- OD 0x3000+p.02 RATE_FLOOR (R103). -/
def Od.portRateFloor (p : Nat) : Entry := ⟨0x300002 + 256 * p, 2⟩

/-- OD 0x3000+p.03 TRAIN_LIMIT (R103). -/
def Od.portTrainLimit (p : Nat) : Entry := ⟨0x300003 + 256 * p, 400⟩

/-- OD 0x3000+p.04 ONE_LANE_ACCEPT (R103). -/
def Od.portOneLaneAccept (p : Nat) : Entry := ⟨0x300004 + 256 * p, 1⟩

/-- OD 0x3000+p.05 TX_PRESET_INIT (R103). -/
def Od.portTxPresetInit (p : Nat) : Entry := ⟨0x300005 + 256 * p, 3⟩

/-- OD 0x3000+p.06 QUIET_ENABLE (R103). -/
def Od.portQuietEnable (p : Nat) : Entry := ⟨0x300006 + 256 * p, 0⟩

/-- OD 0x3000+p.07 QUIET_IDLE (R103). -/
def Od.portQuietIdle (p : Nat) : Entry := ⟨0x300007 + 256 * p, 10⟩

/-- OD 0x3000+p.08 LANE_ERR_LIMIT (R103). -/
def Od.portLaneErrLimit (p : Nat) : Entry := ⟨0x300008 + 256 * p, 64⟩

/-- OD 0x3000+p.09 LINK_HOLD (R103). -/
def Od.portLinkHold (p : Nat) : Entry := ⟨0x300009 + 256 * p, 250⟩

/-- OD 0x3000+p.0A LEAD_OVERRIDE (R103). -/
def Od.portLeadOverride (p : Nat) : Entry := ⟨0x30000A + 256 * p, 0⟩

/-- OD 0x3000+p.0B PORT_RETRY_PERIOD (R103). -/
def Od.portPortRetryPeriod (p : Nat) : Entry := ⟨0x30000B + 256 * p, 5000⟩

/-- OD 0x3000+p.0C REJOIN_HOLD (R103). -/
def Od.portRejoinHold (p : Nat) : Entry := ⟨0x30000C + 256 * p, 100⟩

/-- OD 0x3000+p.0D LOS_ASSERT (R103). -/
def Od.portLosAssert (p : Nat) : Entry := ⟨0x30000D + 256 * p, 65⟩

/-- OD 0x3000+p.0E LOS_HYST (R103). -/
def Od.portLosHyst (p : Nat) : Entry := ⟨0x30000E + 256 * p, 15⟩

/-- OD 0x3000+p.0F EYE_MIN (R103). -/
def Od.portEyeMin (p : Nat) : Entry := ⟨0x30000F + 256 * p, 40⟩

/-- OD 0x3000+p.10 PORT_STATE (R103). -/
def Od.portPortState (p : Nat) : Entry := ⟨0x300010 + 256 * p, 0⟩

/-- OD 0x3000+p.11 PORT_RATE (R103). -/
def Od.portPortRate (p : Nat) : Entry := ⟨0x300011 + 256 * p, 0⟩

/-- OD 0x3000+p.12 LANES_ACTIVE (R103). -/
def Od.portLanesActive (p : Nat) : Entry := ⟨0x300012 + 256 * p, 0⟩

/-- OD 0x3000+p.13 PORT_PAYLOAD (R103). -/
def Od.portPortPayload (p : Nat) : Entry := ⟨0x300013 + 256 * p, 0⟩

/-- OD 0x3000+p.14 PORT_GUARANTEED (R103). -/
def Od.portPortGuaranteed (p : Nat) : Entry := ⟨0x300014 + 256 * p, 0⟩

/-- OD 0x3000+p.15 LAST_FAIL (R103). -/
def Od.portLastFail (p : Nat) : Entry := ⟨0x300015 + 256 * p, 0⟩

/-- OD 0x3000+p.16 IS_LEADER (R103). -/
def Od.portIsLeader (p : Nat) : Entry := ⟨0x300016 + 256 * p, 0⟩

/-- OD 0x3010+n.01 LANE_STATE (R105). -/
def Od.laneLaneState (n : Nat) : Entry := ⟨0x301001 + 256 * n, 0⟩

/-- OD 0x3010+n.02 LANE_EQ (R105). -/
def Od.laneLaneEq (n : Nat) : Entry := ⟨0x301002 + 256 * n, 0⟩

/-- OD 0x3010+n.03 LANE_EYE (R105). -/
def Od.laneLaneEye (n : Nat) : Entry := ⟨0x301003 + 256 * n, 0⟩

/-- OD 0x3020+p.01 LINK_STATE (R138). -/
def Od.linkLinkState (p : Nat) : Entry := ⟨0x302001 + 256 * p, 0⟩

/-- OD 0x3020+p.02 FAR_MODE (R138). -/
def Od.linkFarMode (p : Nat) : Entry := ⟨0x302002 + 256 * p, 0⟩

/-- OD 0x3020+p.03 FAR_HOP_DEPTH (R138). -/
def Od.linkFarHopDepth (p : Nat) : Entry := ⟨0x302003 + 256 * p, 0⟩

/-- OD 0x3020+p.04 FAR_SERIAL (R138). -/
def Od.linkFarSerial (p : Nat) : Entry := ⟨0x302004 + 256 * p, 0⟩

/-- OD 0x3020+p.05 REPLAY_TIMEOUT (R138). -/
def Od.linkReplayTimeout (p : Nat) : Entry := ⟨0x302005 + 256 * p, 20⟩

/-- OD 0x3020+p.06 REPLAY_LIMIT (R138). -/
def Od.linkReplayLimit (p : Nat) : Entry := ⟨0x302006 + 256 * p, 4⟩

/-- OD 0x3020+p.07 GROUP_CLOSE (R138). -/
def Od.linkGroupClose (p : Nat) : Entry := ⟨0x302007 + 256 * p, 4⟩

/-- OD 0x3020+p.08 WIDEN_THRESHOLD (R138). -/
def Od.linkWidenThreshold (p : Nat) : Entry := ⟨0x302008 + 256 * p, 32⟩

/-- OD 0x3020+p.09 SF_COUNT (R138). -/
def Od.linkSfCount (p : Nat) : Entry := ⟨0x302009 + 256 * p, 0⟩

/-- OD 0x3020+p.0A LAST_DOWN (R138). -/
def Od.linkLastDown (p : Nat) : Entry := ⟨0x30200A + 256 * p, 0⟩

/-- OD 0x3020+p.0B REFUSE_REASON (R138). -/
def Od.linkRefuseReason (p : Nat) : Entry := ⟨0x30200B + 256 * p, 0⟩

/-- OD 0x3020+p.0C TX_NEXT (R138). -/
def Od.linkTxNext (p : Nat) : Entry := ⟨0x30200C + 256 * p, 0⟩

/-- OD 0x3020+p.0D RX_NEXT (R138). -/
def Od.linkRxNext (p : Nat) : Entry := ⟨0x30200D + 256 * p, 0⟩

/-- OD 0x3400+i.01 HANDLE (R175). -/
def Od.tunHandle (i : Nat) : Entry := ⟨0x340001 + 256 * i, 0⟩

/-- OD 0x3400+i.02 STATE (R175). -/
def Od.tunState (i : Nat) : Entry := ⟨0x340002 + 256 * i, 0⟩

/-- OD 0x3400+i.03 ROLE (R175). -/
def Od.tunRole (i : Nat) : Entry := ⟨0x340003 + 256 * i, 0⟩

/-- OD 0x3400+i.04 KIND (R175). -/
def Od.tunKind (i : Nat) : Entry := ⟨0x340004 + 256 * i, 0⟩

/-- OD 0x3400+i.05 CLASS (R175). -/
def Od.tunClass (i : Nat) : Entry := ⟨0x340005 + 256 * i, 0⟩

/-- OD 0x3400+i.06 DIRECTION (R175). -/
def Od.tunDirection (i : Nat) : Entry := ⟨0x340006 + 256 * i, 0⟩

/-- OD 0x3400+i.07 SEALED (R175). -/
def Od.tunSealed (i : Nat) : Entry := ⟨0x340007 + 256 * i, 0⟩

/-- OD 0x3400+i.08 MAX_SEG (R175). -/
def Od.tunMaxSeg (i : Nat) : Entry := ⟨0x340008 + 256 * i, 0⟩

/-- OD 0x3400+i.09 LOCAL_BIND (R175). -/
def Od.tunLocalBind (i : Nat) : Entry := ⟨0x340009 + 256 * i, 0⟩

/-- OD 0x3400+i.0A FAR_TARGET (R175). -/
def Od.tunFarTarget (i : Nat) : Entry := ⟨0x34000A + 256 * i, 0⟩

/-- OD 0x3400+i.0B FAR_HANDLE (R175). -/
def Od.tunFarHandle (i : Nat) : Entry := ⟨0x34000B + 256 * i, 0⟩

/-- OD 0x3400+i.0C PORT_A (R175). -/
def Od.tunPortA (i : Nat) : Entry := ⟨0x34000C + 256 * i, 0⟩

/-- OD 0x3400+i.0D INDEX_A (R175). -/
def Od.tunIndexA (i : Nat) : Entry := ⟨0x34000D + 256 * i, 0⟩

/-- OD 0x3400+i.0E PORT_B (R175). -/
def Od.tunPortB (i : Nat) : Entry := ⟨0x34000E + 256 * i, 0⟩

/-- OD 0x3400+i.0F INDEX_B (R175). -/
def Od.tunIndexB (i : Nat) : Entry := ⟨0x34000F + 256 * i, 0⟩

/-- OD 0x3400+i.10 FAULT_CAUSE (R175). -/
def Od.tunFaultCause (i : Nat) : Entry := ⟨0x340010 + 256 * i, 0⟩

/-- OD 0x3400+i.11 FAULT_STATUS (R175). -/
def Od.tunFaultStatus (i : Nat) : Entry := ⟨0x340011 + 256 * i, 0⟩

/-- OD 0x3400+i.12 DRAIN_LIMIT (R175). -/
def Od.tunDrainLimit (i : Nat) : Entry := ⟨0x340012 + 256 * i, 0⟩

/-- OD 0x3400+i.13 OPEN_TIMEOUT (R175). -/
def Od.tunOpenTimeout (i : Nat) : Entry := ⟨0x340013 + 256 * i, 0⟩

/-- OD 0x3400+i.14 AUTO_REOPEN (R175). -/
def Od.tunAutoReopen (i : Nat) : Entry := ⟨0x340014 + 256 * i, 0⟩

/-- OD 0x3400+i.15 TAG (R175). -/
def Od.tunTag (i : Nat) : Entry := ⟨0x340015 + 256 * i, 0⟩

/-- OD 0x3400+i.16 SEG_TX (R175). -/
def Od.tunSegTx (i : Nat) : Entry := ⟨0x340016 + 256 * i, 0⟩

/-- OD 0x3400+i.17 SEG_RX (R175). -/
def Od.tunSegRx (i : Nat) : Entry := ⟨0x340017 + 256 * i, 0⟩

/-- OD 0x3400+i.18 BYTES_TX (R175). -/
def Od.tunBytesTx (i : Nat) : Entry := ⟨0x340018 + 256 * i, 0⟩

/-- OD 0x3400+i.19 BYTES_RX (R175). -/
def Od.tunBytesRx (i : Nat) : Entry := ⟨0x340019 + 256 * i, 0⟩

/-- OD 0x3400+i.1A SEG_DISCARD (R175). -/
def Od.tunSegDiscard (i : Nat) : Entry := ⟨0x34001A + 256 * i, 0⟩

/-- OD 0x3400+i.1B TSEQ_FAULTS (R175). -/
def Od.tunTseqFaults (i : Nat) : Entry := ⟨0x34001B + 256 * i, 0⟩

/-- OD 0x3400+i.1C INGRESS_DISCARD (R175). -/
def Od.tunIngressDiscard (i : Nat) : Entry := ⟨0x34001C + 256 * i, 0⟩

/-- OD 0x3400+i.1D DRAIN_DISCARD (R175). -/
def Od.tunDrainDiscard (i : Nat) : Entry := ⟨0x34001D + 256 * i, 0⟩

/-- OD 0x3400+i.1E OPEN_COUNT (R175). -/
def Od.tunOpenCount (i : Nat) : Entry := ⟨0x34001E + 256 * i, 0⟩

/-- OD 0x3400+i.1F LAST_CHANGE (R175). -/
def Od.tunLastChange (i : Nat) : Entry := ⟨0x34001F + 256 * i, 0⟩

/-- OD 0x3400.20 SYS_STATE_CPA (R176). -/
def Od.tunSysStateCpa : Entry := ⟨0x340020, 0⟩

/-- OD 0x3400.21 SYS_STATE_CPB (R176). -/
def Od.tunSysStateCpb : Entry := ⟨0x340021, 0⟩

/-- OD 0x3400.22 SYS_STATE_PLK (R176). -/
def Od.tunSysStatePlk : Entry := ⟨0x340022, 0⟩

/-- OD 0x3400.23 RESP_FAULT_HOLD (R176). -/
def Od.tunRespFaultHold : Entry := ⟨0x340023, 1000⟩

/-- OD 0x3400.24 REOPEN_DELAY (R176). -/
def Od.tunReopenDelay : Entry := ⟨0x340024, 100⟩

/-- OD 0x3400.25 CONTEXTS_FREE (R176). -/
def Od.tunContextsFree : Entry := ⟨0x340025, 0⟩

/-- OD 0x3400.26 TRANSIT_LIMIT (R176). -/
def Od.tunTransitLimit : Entry := ⟨0x340026, 128⟩

/-- OD 0x3400.27 RESP_DRAIN_LIMIT (R176). -/
def Od.tunRespDrainLimit : Entry := ⟨0x340027, 1000⟩

/-- OD 0x3400.28 RESP_OPEN_TIMEOUT (R176). -/
def Od.tunRespOpenTimeout : Entry := ⟨0x340028, 5000⟩

/-- OD 0x3800.01 ACTIVE_PLAN (R205). -/
def Od.planActivePlan : Entry := ⟨0x380001, 0⟩

/-- OD 0x3800.02 PENDING_PLAN (R205). -/
def Od.planPendingPlan : Entry := ⟨0x380002, 0⟩

/-- OD 0x3800.03 EFFECTIVE_SF (R205). -/
def Od.planEffectiveSf : Entry := ⟨0x380003, 0⟩

/-- OD 0x3800.04 PLAN_LEAD (R205). -/
def Od.planPlanLead : Entry := ⟨0x380004, 4⟩

/-- OD 0x3800.05 SWITCH_SEQ (R205). -/
def Od.planSwitchSeq : Entry := ⟨0x380005, 0⟩

/-- OD 0x3800.06 LAST_SWITCH_SF (R205). -/
def Od.planLastSwitchSf : Entry := ⟨0x380006, 0⟩

/-- OD 0x3800.07 LAST_ACKS (R205). -/
def Od.planLastAcks : Entry := ⟨0x380007, 0⟩

/-- OD 0x3800.08 BOOT_PLAN (R205). -/
def Od.planBootPlan : Entry := ⟨0x380008, 0⟩

/-- OD 0x3801.01 BLIND_HOLD (R205). -/
def Od.planBlindHold : Entry := ⟨0x380101, 2400⟩

/-- OD 0x3801.02 BLIND_REASONS (R205). -/
def Od.planBlindReasons : Entry := ⟨0x380102, 0⟩

/-- OD 0x3801.03 COLOUR_FORCE (R205). -/
def Od.planColourForce : Entry := ⟨0x380103, 0⟩

/-- OD 0x3801.04 RETRAIN_BLIND (R205). -/
def Od.planRetrainBlind : Entry := ⟨0x380104, 0⟩

/-- OD 0x3802.01 RESP_PIR_HEADROOM (R205). -/
def Od.planRespPirHeadroom : Entry := ⟨0x380201, 325000⟩

/-- OD 0x3802.02 RESP_CBS (R205). -/
def Od.planRespCbs : Entry := ⟨0x380202, 16384⟩

/-- OD 0x3802.03 RESP_PBS (R205). -/
def Od.planRespPbs : Entry := ⟨0x380203, 65536⟩

/-- OD 0x3808.ii COLOUR_MODE (R205). -/
def Od.planColourMode (i : Nat) : Entry := ⟨0x380800 + i, 0⟩

/-- OD 0x3809.ii SHED_MASK (R205). -/
def Od.planShedMask (i : Nat) : Entry := ⟨0x380900 + i, 0⟩

/-- OD 0x3810+k.ii CIR_SEND (R206). -/
def Od.planCirSend (k i : Nat) : Entry := ⟨0x381000 + 256 * k + i, 0⟩

/-- OD 0x3818+k.ii CIR_RECV (R206). -/
def Od.planCirRecv (k i : Nat) : Entry := ⟨0x381800 + 256 * k + i, 0⟩

/-- OD 0x3820+k.ii PIR_SEND (R206). -/
def Od.planPirSend (k i : Nat) : Entry := ⟨0x382000 + 256 * k + i, 325000⟩

/-- OD 0x3828+k.ii CBS_SEND (R206). -/
def Od.planCbsSend (k i : Nat) : Entry := ⟨0x382800 + 256 * k + i, 16384⟩

/-- OD 0x3830+k.ii PBS_SEND (R206). -/
def Od.planPbsSend (k i : Nat) : Entry := ⟨0x383000 + 256 * k + i, 65536⟩

/-- OD 0x3840+e.(8k+c+1) QUANTUM (R206). -/
def Od.egrQuantum (e c : Nat) : Entry := ⟨0x384001 + 256 * e + 1 * c, (if c % 8 = 0 then 256 else 64)⟩

/-- OD 0x3860+e.01 NOMINAL (R207). -/
def Od.egrNominal (e : Nat) : Entry := ⟨0x386001 + 256 * e, 0⟩

/-- OD 0x3860+e.02 GUARANTEED (R207). -/
def Od.egrGuaranteed (e : Nat) : Entry := ⟨0x386002 + 256 * e, 0⟩

/-- OD 0x3860+e.03 SHED_TUNNELS (R207). -/
def Od.egrShedTunnels (e : Nat) : Entry := ⟨0x386003 + 256 * e, 0⟩

/-- OD 0x3860+e.10 to 0x3860+e.17 COMMITTED_k (R207). -/
def Od.egrCommittedK (e k : Nat) : Entry := ⟨0x386010 + 256 * e + 1 * k, 0⟩

/-- OD 0x2400.01 IN_SERVICE (R234). -/
def Od.engInService : Entry := ⟨0x240001, 0⟩

/-- OD 0x2400.02 FENCED_MASK (R234). -/
def Od.engFencedMask : Entry := ⟨0x240002, 0⟩

/-- OD 0x2400.03 PIN_A (R234). -/
def Od.engPinA : Entry := ⟨0x240003, 0⟩

/-- OD 0x2400.04 PIN_B (R234). -/
def Od.engPinB : Entry := ⟨0x240004, 8⟩

/-- OD 0x2400.05 PIN_EXCLUSIVE (R234). -/
def Od.engPinExclusive : Entry := ⟨0x240005, 0⟩

/-- OD 0x2400.06 STEAL_LOCAL (R234). -/
def Od.engStealLocal : Entry := ⟨0x240006, 16⟩

/-- OD 0x2400.07 STEAL_REMOTE (R234). -/
def Od.engStealRemote : Entry := ⟨0x240007, 256⟩

/-- OD 0x2400.08 STEAL_ENABLE (R234). -/
def Od.engStealEnable : Entry := ⟨0x240008, 3⟩

/-- OD 0x2400.09 WATCHDOG (R234). -/
def Od.engWatchdog : Entry := ⟨0x240009, 16384⟩

/-- OD 0x2400.0A ENGINE_FLOOR (R234). -/
def Od.engEngineFloor : Entry := ⟨0x24000A, 24⟩

/-- OD 0x2400.0B MC_VERSION (R234). -/
def Od.engMcVersion : Entry := ⟨0x24000B, 0⟩

/-- OD 0x2400.0C MC_MEASURE (R234). -/
def Od.engMcMeasure : Entry := ⟨0x24000C, 0⟩

/-- OD 0x2400.0D ENGINE_STATE (R234). -/
def Od.engEngineState : Entry := ⟨0x24000D, 0⟩

/-- OD 0x2400.0E PIN_IN_USE (R234). -/
def Od.engPinInUse : Entry := ⟨0x24000E, 0⟩

/-- OD 0x2400.0F ENGINE_FENCE_LIMIT (R234). -/
def Od.engEngineFenceLimit : Entry := ⟨0x24000F, 10⟩

/-- OD 0x2410+t.01 STATE (R235). -/
def Od.tndState (t : Nat) : Entry := ⟨0x241001 + 256 * t, 0⟩

/-- OD 0x2410+t.02 ROLE (R235). -/
def Od.tndRole (t : Nat) : Entry := ⟨0x241002 + 256 * t, 0⟩

/-- OD 0x2410+t.03 PENDING (R235). -/
def Od.tndPending (t : Nat) : Entry := ⟨0x241003 + 256 * t, 0⟩

/-- OD 0x2410+t.04 WAITING (R235). -/
def Od.tndWaiting (t : Nat) : Entry := ⟨0x241004 + 256 * t, 0⟩

/-- OD 0x2410+t.05 HOMES (R235). -/
def Od.tndHomes (t : Nat) : Entry := ⟨0x241005 + 256 * t, 0⟩

/-- OD 0x2410+t.06 FENCE_CAUSE (R235). -/
def Od.tndFenceCause (t : Nat) : Entry := ⟨0x241006 + 256 * t, 0⟩

/-- OD 0x2410+t.07 JOBS (R235). -/
def Od.tndJobs (t : Nat) : Entry := ⟨0x241007 + 256 * t, 0⟩

/-- OD 0x2410+t.08 STOLEN_IN (R235). -/
def Od.tndStolenIn (t : Nat) : Entry := ⟨0x241008 + 256 * t, 0⟩

/-- OD 0x2410+t.09 STOLEN_OUT (R235). -/
def Od.tndStolenOut (t : Nat) : Entry := ⟨0x241009 + 256 * t, 0⟩

/-- OD 0x2410+t.0A FENCE_HANDLE (R235). -/
def Od.tndFenceHandle (t : Nat) : Entry := ⟨0x24100A + 256 * t, 0⟩

/-- OD 0x2600.01 LOCAL_C0_RESERVE (R265). -/
def Od.swLocalC0Reserve : Entry := ⟨0x260001, 2048⟩

/-- OD 0x2600.02 MIRROR_POOL (R265). -/
def Od.swMirrorPool : Entry := ⟨0x260002, 4096⟩

/-- OD 0x2600.03 POOL_LOW (R265). -/
def Od.swPoolLow : Entry := ⟨0x260003, 2048⟩

/-- OD 0x2600.04 SHARED_SIZE (R265). -/
def Od.swSharedSize : Entry := ⟨0x260004, 0⟩

/-- OD 0x2600.05 SHARED_FREE (R265). -/
def Od.swSharedFree : Entry := ⟨0x260005, 0⟩

/-- OD 0x2600.06 PFC_STUCK_TIME (R265). -/
def Od.swPfcStuckTime : Entry := ⟨0x260006, 100⟩

/-- OD 0x2610+p.(c+1) LINK_ALLOT (R265). -/
def Od.swLinkAllot (p c : Nat) : Entry := ⟨0x261001 + 256 * p + 1 * c, (if c = 0 then 256 else 1024)⟩

/-- OD 0x2640+i.(c+1) LOCAL_XOFF (R266). -/
def Od.ingLocalXoff (i c : Nat) : Entry := ⟨0x264301 + 256 * (i - 3) + 1 * c, 8192⟩

/-- OD 0x2640+i.09 STAGE_QUOTA_IN (R266). -/
def Od.ingStageQuotaIn (i : Nat) : Entry := ⟨0x264309 + 256 * (i - 3), (stageQuotaInDefault i)⟩

/-- OD 0x2640+i.0A STAGE_QUOTA_OUT (R266). -/
def Od.ingStageQuotaOut (i : Nat) : Entry := ⟨0x26430A + 256 * (i - 3), (stageQuotaOutDefault i)⟩

/-- OD 0x2640+i.0B PFC_ENABLE (R266). -/
def Od.ingPfcEnable (i : Nat) : Entry := ⟨0x26430B + 256 * (i - 3), 0⟩

/-- OD 0x2640+i.0C PFC_MAP (R266). -/
def Od.ingPfcMap (i : Nat) : Entry := ⟨0x26430C + 256 * (i - 3), 9241421688590303745⟩

/-- OD 0x2640+i.0D PFC_QUANTA (R266). -/
def Od.ingPfcQuanta (i : Nat) : Entry := ⟨0x26430D + 256 * (i - 3), 65535⟩

/-- OD 0x2670+s.01 ENABLE (R267). -/
def Od.mirEnable (s : Nat) : Entry := ⟨0x267001 + 256 * s, 0⟩

/-- OD 0x2670+s.02 SOURCE_KIND (R267). -/
def Od.mirSourceKind (s : Nat) : Entry := ⟨0x267002 + 256 * s, 0⟩

/-- OD 0x2670+s.03 SOURCE (R267). -/
def Od.mirSource (s : Nat) : Entry := ⟨0x267003 + 256 * s, 3⟩

/-- OD 0x2670+s.04 DEST (R267). -/
def Od.mirDest (s : Nat) : Entry := ⟨0x267004 + 256 * s, 268435456⟩

/-- OD 0x2670+s.05 DEST_MAC (R267). -/
def Od.mirDestMac (s : Nat) : Entry := ⟨0x267005 + 256 * s, 0⟩

/-- OD 0x2670+s.06 SNAP_LEN (R267). -/
def Od.mirSnapLen (s : Nat) : Entry := ⟨0x267006 + 256 * s, 128⟩

/-- OD 0x2670+s.07 FORMAT (R267). -/
def Od.mirFormat (s : Nat) : Entry := ⟨0x267007 + 256 * s, 0⟩

/-- OD 0x2670+s.08 COPIES (R267). -/
def Od.mirCopies (s : Nat) : Entry := ⟨0x267008 + 256 * s, 0⟩

/-- OD 0x2670+s.09 SKIPPED (R267). -/
def Od.mirSkipped (s : Nat) : Entry := ⟨0x267009 + 256 * s, 0⟩

/-- OD 0x2660.01 SCRUB_PERIOD (R268). -/
def Od.eccScrubPeriod : Entry := ⟨0x266001, 1000⟩

/-- OD 0x2660.02 CE_LIMIT (R268). -/
def Od.eccCeLimit : Entry := ⟨0x266002, 100⟩

/-- OD 0x2660.03 LAST_UE_ADDR (R268). -/
def Od.eccLastUeAddr : Entry := ⟨0x266003, 0⟩

/-- OD 0x2660.04 LAST_UE_REGION (R268). -/
def Od.eccLastUeRegion : Entry := ⟨0x266004, 0⟩

/-- OD 0x2660.05 UE_COUNT (R268). -/
def Od.eccUeCount : Entry := ⟨0x266005, 0⟩

/-- OD 0x2660.06 CE_COUNT (R268). -/
def Od.eccCeCount : Entry := ⟨0x266006, 0⟩

/-- OD 0x4000.01 BASE_UNIT (R299). -/
def Od.bcnBaseUnit : Entry := ⟨0x400001, 1000⟩

/-- OD 0x4000.02 BASE_UNIT_IN_USE (R299). -/
def Od.bcnBaseUnitInUse : Entry := ⟨0x400002, 0⟩

/-- OD 0x4000.03 MAX_HOLDOVER (R299). -/
def Od.bcnMaxHoldover : Entry := ⟨0x400003, 8⟩

/-- OD 0x4000.04 TIMEBASE_STATE (R299). -/
def Od.bcnTimebaseState : Entry := ⟨0x400004, 0⟩

/-- OD 0x4000.05 CLOCK_NOW (R299). -/
def Od.bcnClockNow : Entry := ⟨0x400005, 0⟩

/-- OD 0x4000.06 SF_EPOCH (R299). -/
def Od.bcnSfEpoch : Entry := ⟨0x400006, 0⟩

/-- OD 0x4000.07 OFFSET (R299). -/
def Od.bcnOffset : Entry := ⟨0x400007, 0⟩

/-- OD 0x4000.08 LAST_STEP (R299). -/
def Od.bcnLastStep : Entry := ⟨0x400008, 0⟩

/-- OD 0x4008+b.01 STATE (R300). -/
def Od.brgState (b : Nat) : Entry := ⟨0x400801 + 256 * b, 0⟩

/-- OD 0x4008+b.02 VALUE (R300). -/
def Od.brgValue (b : Nat) : Entry := ⟨0x400802 + 256 * b, 0⟩

/-- OD 0x4008+b.03 RATE (R300). -/
def Od.brgRate (b : Nat) : Entry := ⟨0x400803 + 256 * b, 0⟩

/-- OD 0x4008+b.04 DIRECTION (R300). -/
def Od.brgDirection (b : Nat) : Entry := ⟨0x400804 + 256 * b, 0⟩

/-- OD 0x4008+b.05 LOCAL_VALUE (R300). -/
def Od.brgLocalValue (b : Nat) : Entry := ⟨0x400805 + 256 * b, 0⟩

/-- OD 0x4008+b.06 INPUT_IN_USE (R300). -/
def Od.brgInputInUse (b : Nat) : Entry := ⟨0x400806 + 256 * b, 0⟩

/-- OD 0x4010+b.01 PRIMARY (R301). -/
def Od.srcPrimary (b : Nat) : Entry := ⟨0x401001 + 256 * b, 255⟩

/-- OD 0x4010+b.02 SECONDARY (R301). -/
def Od.srcSecondary (b : Nat) : Entry := ⟨0x401002 + 256 * b, 255⟩

/-- OD 0x4010+b.03 RATE_EDGES (R301). -/
def Od.srcRateEdges (b : Nat) : Entry := ⟨0x401003 + 256 * b, 32⟩

/-- OD 0x4010+b.04 RATE_MAX_TIME (R301). -/
def Od.srcRateMaxTime (b : Nat) : Entry := ⟨0x401004 + 256 * b, 100⟩

/-- OD 0x4010+b.05 STANDSTILL_TIME (R301). -/
def Od.srcStandstillTime (b : Nat) : Entry := ⟨0x401005 + 256 * b, 200⟩

/-- OD 0x4010+b.06 REVERSE_HYST (R301). -/
def Od.srcReverseHyst (b : Nat) : Entry := ⟨0x401006 + 256 * b, 2⟩

/-- OD 0x4010+b.07 STALL_DISTANCE (R301). -/
def Od.srcStallDistance (b : Nat) : Entry := ⟨0x401007 + 256 * b, 100000⟩

/-- OD 0x4020+n.01 MODE (R302). -/
def Od.encMode (n : Nat) : Entry := ⟨0x402001 + 256 * n, 0⟩

/-- OD 0x4020+n.02 INVERT (R302). -/
def Od.encInvert (n : Nat) : Entry := ⟨0x402002 + 256 * n, 0⟩

/-- OD 0x4020+n.03 FILTER (R302). -/
def Od.encFilter (n : Nat) : Entry := ⟨0x402003 + 256 * n, 7⟩

/-- OD 0x4020+n.04 SCALE (R302). -/
def Od.encScale (n : Nat) : Entry := ⟨0x402004 + 256 * n, 2147483648000⟩

/-- OD 0x4020+n.05 QERR_LIMIT (R302). -/
def Od.encQerrLimit (n : Nat) : Entry := ⟨0x402005 + 256 * n, 16⟩

/-- OD 0x4020+n.06 CPR (R302). -/
def Od.encCpr (n : Nat) : Entry := ⟨0x402006 + 256 * n, 4096⟩

/-- OD 0x4020+n.07 Z_MODE (R302). -/
def Od.encZMode (n : Nat) : Entry := ⟨0x402007 + 256 * n, 0⟩

/-- OD 0x4020+n.08 Z_COUNT (R302). -/
def Od.encZCount (n : Nat) : Entry := ⟨0x402008 + 256 * n, 0⟩

/-- OD 0x4020+n.09 Z_TOL (R302). -/
def Od.encZTol (n : Nat) : Entry := ⟨0x402009 + 256 * n, 2⟩

/-- OD 0x4020+n.0A QERR (R302). -/
def Od.encQerr (n : Nat) : Entry := ⟨0x40200A + 256 * n, 0⟩

/-- OD 0x4020+n.0B COUNT (R302). -/
def Od.encCount (n : Nat) : Entry := ⟨0x40200B + 256 * n, 0⟩

/-- OD 0x4020+n.0C INPUT_STATE (R302). -/
def Od.encInputState (n : Nat) : Entry := ⟨0x40200C + 256 * n, 0⟩

/-- OD 0x4020+n.0D FAULT_CAUSE (R302). -/
def Od.encFaultCause (n : Nat) : Entry := ⟨0x40200D + 256 * n, 0⟩

/-- OD 0x4030+p.01 LINK_DELAY (R303). -/
def Od.prbLinkDelay (p : Nat) : Entry := ⟨0x403001 + 256 * p, 0⟩

/-- OD 0x4030+p.02 PROBE_PERIOD (R303). -/
def Od.prbProbePeriod (p : Nat) : Entry := ⟨0x403002 + 256 * p, 16⟩

/-- OD 0x4030+p.03 PROBE_AVG (R303). -/
def Od.prbProbeAvg (p : Nat) : Entry := ⟨0x403003 + 256 * p, 16⟩

/-- OD 0x4030+p.04 ASYM_TRIM (R303). -/
def Od.prbAsymTrim (p : Nat) : Entry := ⟨0x403004 + 256 * p, 0⟩

/-- OD 0x4030+p.05 PROBES_REJECTED (R303). -/
def Od.prbProbesRejected (p : Nat) : Entry := ⟨0x403005 + 256 * p, 0⟩

/-- OD 0x4030+p.06 LAST_RTT (R303). -/
def Od.prbLastRtt (p : Nat) : Entry := ⟨0x403006 + 256 * p, 0⟩

/-- OD 0x4040.01 SAMPLE_FULL (R303). -/
def Od.bcnSampleFull : Entry := ⟨0x404001, 0⟩

/-- OD 0x4040.02 SHADOW_TOL (R303). -/
def Od.bcnShadowTol : Entry := ⟨0x404002, 1000⟩

/-- OD 0x4040.03 SHADOW_DIFF (R303). -/
def Od.bcnShadowDiff : Entry := ⟨0x404003, 0⟩

/-- OD 0x4050.01 DM_FREE (R330). -/
def Od.dmDmFree : Entry := ⟨0x405001, 0⟩

/-- OD 0x4050.02 to 0x4050.05 DM_QUEUED_b (R330). -/
def Od.dmDmQueuedB (b : Nat) : Entry := ⟨0x405002 + 1 * b, 0⟩

/-- OD 0x4050.06 SETUP_TIME (R330). -/
def Od.dmSetupTime : Entry := ⟨0x405006, 500⟩

/-- OD 0x4050.07 DM_LATE_FIRED (R330). -/
def Od.dmDmLateFired : Entry := ⟨0x405007, 0⟩

/-- OD 0x4050.08 DM_LATE_DISCARDED (R330). -/
def Od.dmDmLateDiscarded : Entry := ⟨0x405008, 0⟩

/-- OD 0x4100+l.01 ENABLE (R331). -/
def Od.lampEnable (l : Nat) : Entry := ⟨0x410001 + 256 * l, 0⟩

/-- OD 0x4100+l.02 POLARITY (R331). -/
def Od.lampPolarity (l : Nat) : Entry := ⟨0x410002 + 256 * l, 0⟩

/-- OD 0x4100+l.03 SAFE_LEVEL (R331). -/
def Od.lampSafeLevel (l : Nat) : Entry := ⟨0x410003 + 256 * l, 2⟩

/-- OD 0x4100+l.04 SAFE_ON (R331). -/
def Od.lampSafeOn (l : Nat) : Entry := ⟨0x410004 + 256 * l, 7⟩

/-- OD 0x4100+l.05 FOG_MASK (R331). -/
def Od.lampFogMask (l : Nat) : Entry := ⟨0x410005 + 256 * l, 9⟩

/-- OD 0x4100+l.06 GUARD_BEARING (R331). -/
def Od.lampGuardBearing (l : Nat) : Entry := ⟨0x410006 + 256 * l, 0⟩

/-- OD 0x4100+l.07 OFFSET (R331). -/
def Od.lampOffset (l : Nat) : Entry := ⟨0x410007 + 256 * l, 0⟩

/-- OD 0x4100+l.08 PULSE_TIMEOUT (R331). -/
def Od.lampPulseTimeout (l : Nat) : Entry := ⟨0x410008 + 256 * l, 0⟩

/-- OD 0x4100+l.09 AUTO_RELEASE (R331). -/
def Od.lampAutoRelease (l : Nat) : Entry := ⟨0x410009 + 256 * l, 0⟩

/-- OD 0x4100+l.0A FOG_OUT (R331). -/
def Od.lampFogOut (l : Nat) : Entry := ⟨0x41000A + 256 * l, 0⟩

/-- OD 0x4100+l.0B STATE (R331). -/
def Od.lampState (l : Nat) : Entry := ⟨0x41000B + 256 * l, 0⟩

/-- OD 0x4100+l.0C LEVEL (R331). -/
def Od.lampLevel (l : Nat) : Entry := ⟨0x41000C + 256 * l, 0⟩

/-- OD 0x4100+l.0D SAFE_CAUSE (R331). -/
def Od.lampSafeCause (l : Nat) : Entry := ⟨0x41000D + 256 * l, 0⟩

/-- OD 0x4100+l.0E EDGES (R331). -/
def Od.lampEdges (l : Nat) : Entry := ⟨0x41000E + 256 * l, 0⟩

/-- OD 0x4400+n.01 ENABLE (R345). -/
def Od.ethEnable (n : Nat) : Entry := ⟨0x440001 + 256 * n, 0⟩

/-- OD 0x4400+n.02 MAC_MODE (R345). -/
def Od.ethMacMode (n : Nat) : Entry := ⟨0x440002 + 256 * n, 0⟩

/-- OD 0x4400+n.03 AUTONEG (R345). -/
def Od.ethAutoneg (n : Nat) : Entry := ⟨0x440003 + 256 * n, 1⟩

/-- OD 0x4400+n.04 MAX_FRAME (R345). -/
def Od.ethMaxFrame (n : Nat) : Entry := ⟨0x440004 + 256 * n, 1522⟩

/-- OD 0x4400+n.05 MAC_ADDR (R345). -/
def Od.ethMacAddr (n : Nat) : Entry := ⟨0x440005 + 256 * n, (Config.macAddr n)⟩

/-- OD 0x4400+n.06 DEI_YELLOW (R345). -/
def Od.ethDeiYellow (n : Nat) : Entry := ⟨0x440006 + 256 * n, 0⟩

/-- OD 0x4400+n.07 TS_INGRESS_TRIM (R345). -/
def Od.ethTsIngressTrim (n : Nat) : Entry := ⟨0x440007 + 256 * n, 0⟩

/-- OD 0x4400+n.08 TS_EGRESS_TRIM (R345). -/
def Od.ethTsEgressTrim (n : Nat) : Entry := ⟨0x440008 + 256 * n, 0⟩

/-- OD 0x4400+n.09 LINK (R345). -/
def Od.ethLink (n : Nat) : Entry := ⟨0x440009 + 256 * n, 0⟩

/-- OD 0x4400+n.0A TS_LEVEL (R345). -/
def Od.ethTsLevel (n : Nat) : Entry := ⟨0x44000A + 256 * n, 0⟩

/-- OD 0x4400+n.0B RX_OVERRUN (R345). -/
def Od.ethRxOverrun (n : Nat) : Entry := ⟨0x44000B + 256 * n, 0⟩

/-- OD 0x4400+n.0C CLS_MISS (R345). -/
def Od.ethClsMiss (n : Nat) : Entry := ⟨0x44000C + 256 * n, 0⟩

/-- OD 0x4400+n.0D LINK_DOWN_DISCARD (R345). -/
def Od.ethLinkDownDiscard (n : Nat) : Entry := ⟨0x44000D + 256 * n, 0⟩

/-- OD 0x4400+n.0E TS_LOST (R345). -/
def Od.ethTsLost (n : Nat) : Entry := ⟨0x44000E + 256 * n, 0⟩

/-- OD 0x4420+n.01 ENABLE (R353). -/
def Od.canEnable (n : Nat) : Entry := ⟨0x442001 + 256 * n, (if n = 0 then 1 else 0)⟩

/-- OD 0x4420+n.02 NOMINAL_RATE (R353). -/
def Od.canNominalRate (n : Nat) : Entry := ⟨0x442002 + 256 * n, 250000⟩

/-- OD 0x4420+n.03 NOMINAL_SP (R353). -/
def Od.canNominalSp (n : Nat) : Entry := ⟨0x442003 + 256 * n, 875⟩

/-- OD 0x4420+n.04 FD_ENABLE (R353). -/
def Od.canFdEnable (n : Nat) : Entry := ⟨0x442004 + 256 * n, 0⟩

/-- OD 0x4420+n.05 DATA_RATE (R353). -/
def Od.canDataRate (n : Nat) : Entry := ⟨0x442005 + 256 * n, 2000000⟩

/-- OD 0x4420+n.06 DATA_SP (R353). -/
def Od.canDataSp (n : Nat) : Entry := ⟨0x442006 + 256 * n, 750⟩

/-- OD 0x4420+n.07 LISTEN_ONLY (R353). -/
def Od.canListenOnly (n : Nat) : Entry := ⟨0x442007 + 256 * n, 0⟩

/-- OD 0x4420+n.08 AUTO_RECOVER (R353). -/
def Od.canAutoRecover (n : Nat) : Entry := ⟨0x442008 + 256 * n, 1⟩

/-- OD 0x4420+n.09 CLAIM_ENABLE (R353). -/
def Od.canClaimEnable (n : Nat) : Entry := ⟨0x442009 + 256 * n, (if n = 0 then 1 else 0)⟩

/-- OD 0x4420+n.0A PREFERRED_ADDRESS (R353). -/
def Od.canPreferredAddress (n : Nat) : Entry := ⟨0x44200A + 256 * n, 128⟩

/-- OD 0x4420+n.0B CLAIMED (R353). -/
def Od.canClaimed (n : Nat) : Entry := ⟨0x44200B + 256 * n, 0⟩

/-- OD 0x4420+n.0C BUS_STATE (R353). -/
def Od.canBusState (n : Nat) : Entry := ⟨0x44200C + 256 * n, 0⟩

/-- OD 0x4420+n.0D TEC (R353). -/
def Od.canTec (n : Nat) : Entry := ⟨0x44200D + 256 * n, 0⟩

/-- OD 0x4420+n.0E REC (R353). -/
def Od.canRec (n : Nat) : Entry := ⟨0x44200E + 256 * n, 0⟩

/-- OD 0x4420+n.0F RX_OVERRUN (R353). -/
def Od.canRxOverrun (n : Nat) : Entry := ⟨0x44200F + 256 * n, 0⟩

/-- OD 0x4420+n.10 CLS_MISS (R353). -/
def Od.canClsMiss (n : Nat) : Entry := ⟨0x442010 + 256 * n, 0⟩

/-- OD 0x4420+n.11 TX_DISCARD (R353). -/
def Od.canTxDiscard (n : Nat) : Entry := ⟨0x442011 + 256 * n, 0⟩

/-- OD 0x4420+n.12 FORMAT_DISCARD (R353). -/
def Od.canFormatDiscard (n : Nat) : Entry := ⟨0x442012 + 256 * n, 0⟩

/-- OD 0x4430.01 NAME_TEMPLATE (R353). -/
def Od.canNameTemplate : Entry := ⟨0x443001, 9223372036854775808⟩

/-- OD 0x4440.01 ENABLE (R361). -/
def Od.emmcEnable : Entry := ⟨0x444001, 0⟩

/-- OD 0x4440.02 BUS_MODE (R361). -/
def Od.emmcBusMode : Entry := ⟨0x444002, 3⟩

/-- OD 0x4440.03 BUS_WIDTH (R361). -/
def Od.emmcBusWidth : Entry := ⟨0x444003, 8⟩

/-- OD 0x4440.04 CACHE (R361). -/
def Od.emmcCache : Entry := ⟨0x444004, 1⟩

/-- OD 0x4440.05 STATE (R361). -/
def Od.emmcState : Entry := ⟨0x444005, 0⟩

/-- OD 0x4440.06 MODE_IN_USE (R361). -/
def Od.emmcModeInUse : Entry := ⟨0x444006, 0⟩

/-- OD 0x4440.07 USER_BLOCKS (R361). -/
def Od.emmcUserBlocks : Entry := ⟨0x444007, 0⟩

/-- OD 0x4440.08 LAST_ERROR (R361). -/
def Od.emmcLastError : Entry := ⟨0x444008, 0⟩

/-- OD 0x4448+r.01 PARTITION (R361). -/
def Od.regionPartition (r : Nat) : Entry := ⟨0x444801 + 256 * r, 0⟩

/-- OD 0x4448+r.02 BASE_LBA (R361). -/
def Od.regionBaseLba (r : Nat) : Entry := ⟨0x444802 + 256 * r, 0⟩

/-- OD 0x4448+r.03 BLOCKS (R361). -/
def Od.regionBlocks (r : Nat) : Entry := ⟨0x444803 + 256 * r, 0⟩

/-- OD 0x4448+r.04 WRITABLE (R361). -/
def Od.regionWritable (r : Nat) : Entry := ⟨0x444804 + 256 * r, 0⟩

/-- OD 0x4460+n.01 ENABLE (R363). -/
def Od.serEnable (n : Nat) : Entry := ⟨0x446001 + 256 * n, 0⟩

/-- OD 0x4460+n.02 MODE (R363). -/
def Od.serMode (n : Nat) : Entry := ⟨0x446002 + 256 * n, 0⟩

/-- OD 0x4460+n.03 RATE (R363). -/
def Od.serRate (n : Nat) : Entry := ⟨0x446003 + 256 * n, 115200⟩

/-- OD 0x4460+n.04 FORMAT (R363). -/
def Od.serFormat (n : Nat) : Entry := ⟨0x446004 + 256 * n, 0⟩

/-- OD 0x4460+n.05 FLOW (R363). -/
def Od.serFlow (n : Nat) : Entry := ⟨0x446005 + 256 * n, 0⟩

/-- OD 0x4460+n.06 GAP (R363). -/
def Od.serGap (n : Nat) : Entry := ⟨0x446006 + 256 * n, 2⟩

/-- OD 0x4460+n.07 RX_OVERRUN (R363). -/
def Od.serRxOverrun (n : Nat) : Entry := ⟨0x446007 + 256 * n, 0⟩

/-- OD 0x4480+n.01 ENABLE (R384). -/
def Od.csiEnable (n : Nat) : Entry := ⟨0x448001 + 256 * n, 0⟩

/-- OD 0x4480+n.02 LANES (R384). -/
def Od.csiLanes (n : Nat) : Entry := ⟨0x448002 + 256 * n, 4⟩

/-- OD 0x4480+n.03 HS_SETTLE (R384). -/
def Od.csiHsSettle (n : Nat) : Entry := ⟨0x448003 + 256 * n, 0⟩

/-- OD 0x4480+n.04 FRAMES_IN (R384). -/
def Od.csiFramesIn (n : Nat) : Entry := ⟨0x448004 + 256 * n, 0⟩

/-- OD 0x4480+n.05 FRAMES_SKIPPED (R384). -/
def Od.csiFramesSkipped (n : Nat) : Entry := ⟨0x448005 + 256 * n, 0⟩

/-- OD 0x4480+n.06 FRAMES_CUT (R384). -/
def Od.csiFramesCut (n : Nat) : Entry := ⟨0x448006 + 256 * n, 0⟩

/-- OD 0x4480+n.07 CRC_ERRORS (R384). -/
def Od.csiCrcErrors (n : Nat) : Entry := ⟨0x448007 + 256 * n, 0⟩

/-- OD 0x4480+n.08 HEADER_ERRORS (R384). -/
def Od.csiHeaderErrors (n : Nat) : Entry := ⟨0x448008 + 256 * n, 0⟩

/-- OD 0x4480+n.09 UNSUPPORTED_DT (R384). -/
def Od.csiUnsupportedDt (n : Nat) : Entry := ⟨0x448009 + 256 * n, 0⟩

/-- OD 0x4480+n.0A CLS_MISS (R384). -/
def Od.csiClsMiss (n : Nat) : Entry := ⟨0x44800A + 256 * n, 0⟩

/-- OD 0x4498.01 LAYOUT (R385). -/
def Od.fsLayout : Entry := ⟨0x449801, 0⟩

/-- OD 0x4498.02 RING_LEAD (R385). -/
def Od.fsRingLead : Entry := ⟨0x449802, 64⟩

/-- OD 0x4498.03 FS_ECC_FILLS (R385). -/
def Od.fsFsEccFills : Entry := ⟨0x449803, 0⟩

/-- OD 0x4490.01 ENABLE (R386). -/
def Od.dsiEnable : Entry := ⟨0x449001, 0⟩

/-- OD 0x4490.02 LANES (R386). -/
def Od.dsiLanes : Entry := ⟨0x449002, 4⟩

/-- OD 0x4490.03 LANE_RATE (R386). -/
def Od.dsiLaneRate : Entry := ⟨0x449003, 1000⟩

/-- OD 0x4490.04 PIXEL_CLOCK (R386). -/
def Od.dsiPixelClock : Entry := ⟨0x449004, 72000⟩

/-- OD 0x4490.05 HACTIVE (R386). -/
def Od.dsiHactive : Entry := ⟨0x449005, 1280⟩

/-- OD 0x4490.06 HSYNC (R386). -/
def Od.dsiHsync : Entry := ⟨0x449006, 32⟩

/-- OD 0x4490.07 HBP (R386). -/
def Od.dsiHbp : Entry := ⟨0x449007, 80⟩

/-- OD 0x4490.08 HFP (R386). -/
def Od.dsiHfp : Entry := ⟨0x449008, 48⟩

/-- OD 0x4490.09 VACTIVE (R386). -/
def Od.dsiVactive : Entry := ⟨0x449009, 800⟩

/-- OD 0x4490.0A VSYNC (R386). -/
def Od.dsiVsync : Entry := ⟨0x44900A, 6⟩

/-- OD 0x4490.0B VBP (R386). -/
def Od.dsiVbp : Entry := ⟨0x44900B, 14⟩

/-- OD 0x4490.0C VFP_MIN (R386). -/
def Od.dsiVfpMin : Entry := ⟨0x44900C, 3⟩

/-- OD 0x4490.0D VFP_MAX (R386). -/
def Od.dsiVfpMax : Entry := ⟨0x44900D, 2500⟩

/-- OD 0x4490.0E FILL_COLOUR (R386). -/
def Od.dsiFillColour : Entry := ⟨0x44900E, 0⟩

/-- OD 0x4490.0F STALL_FRAMES (R386). -/
def Od.dsiStallFrames : Entry := ⟨0x44900F, 3⟩

/-- OD 0x4490.10 STALL_ACTION (R386). -/
def Od.dsiStallAction : Entry := ⟨0x449010, 1⟩

/-- OD 0x4490.11 SHOW_SLOT (R386). -/
def Od.dsiShowSlot : Entry := ⟨0x449011, 0⟩

/-- OD 0x4490.12 WM_1 (R386). -/
def Od.dsiWm1 : Entry := ⟨0x449012, 24⟩

/-- OD 0x4490.13 WM_2 (R386). -/
def Od.dsiWm2 : Entry := ⟨0x449013, 16⟩

/-- OD 0x4490.14 WM_3 (R386). -/
def Od.dsiWm3 : Entry := ⟨0x449014, 8⟩

/-- OD 0x4490.15 FRAMES_SHOWN (R386). -/
def Od.dsiFramesShown : Entry := ⟨0x449015, 0⟩

/-- OD 0x4490.16 FRAMES_REPEATED (R386). -/
def Od.dsiFramesRepeated : Entry := ⟨0x449016, 0⟩

/-- OD 0x4490.17 FRAMES_REPLACED (R386). -/
def Od.dsiFramesReplaced : Entry := ⟨0x449017, 0⟩

/-- OD 0x4490.18 FRAMES_BAD (R386). -/
def Od.dsiFramesBad : Entry := ⟨0x449018, 0⟩

/-- OD 0x4490.19 UNDERRUNS (R386). -/
def Od.dsiUnderruns : Entry := ⟨0x449019, 0⟩

/-- OD 0x4490.1A TORN_LINES (R386). -/
def Od.dsiTornLines : Entry := ⟨0x44901A, 0⟩

/-- OD 0x4490.1B STATE (R386). -/
def Od.dsiState : Entry := ⟨0x44901B, 0⟩

/-- OD 0x4491.01 ENABLE of DSI1 (R386). -/
def Od.dsi1Enable : Entry := ⟨0x449101, 0⟩

/-- OD 0x4491.02 STATE of DSI1 (R386). -/
def Od.dsi1State : Entry := ⟨0x449102, 0⟩

/-- OD 0x44A0+n.01 ENABLE (R412). -/
def Od.hsicEnable (n : Nat) : Entry := ⟨0x44A001 + 256 * n, 0⟩

/-- OD 0x44A0+n.02 HUB_VID (R412). -/
def Od.hsicHubVid (n : Nat) : Entry := ⟨0x44A002 + 256 * n, 0⟩

/-- OD 0x44A0+n.03 HUB_PID (R412). -/
def Od.hsicHubPid (n : Nat) : Entry := ⟨0x44A003 + 256 * n, 25600⟩

/-- OD 0x44A0+n.04 HUB_BCD (R412). -/
def Od.hsicHubBcd (n : Nat) : Entry := ⟨0x44A004 + 256 * n, 256⟩

/-- OD 0x44A0+n.05 MANUFACTURER (R412). -/
def Od.hsicManufacturer (n : Nat) : Entry := ⟨0x44A005 + 256 * n, 0⟩

/-- OD 0x44A0+n.06 PRODUCT (R412). -/
def Od.hsicProduct (n : Nat) : Entry := ⟨0x44A006 + 256 * n, 0⟩

/-- OD 0x44A0+n.07 CTRL_TIMEOUT (R412). -/
def Od.hsicCtrlTimeout (n : Nat) : Entry := ⟨0x44A007 + 256 * n, 4500⟩

/-- OD 0x44A0+n.08 HUB_STATE (R412). -/
def Od.hsicHubState (n : Nat) : Entry := ⟨0x44A008 + 256 * n, 0⟩

/-- OD 0x44A0+n.09 HUB_ADDRESS (R412). -/
def Od.hsicHubAddress (n : Nat) : Entry := ⟨0x44A009 + 256 * n, 0⟩

/-- OD 0x44A0+n.0A BUS_RESETS (R412). -/
def Od.hsicBusResets (n : Nat) : Entry := ⟨0x44A00A + 256 * n, 0⟩

/-- OD 0x44A0+n.0B CTRL_ABORTS (R412). -/
def Od.hsicCtrlAborts (n : Nat) : Entry := ⟨0x44A00B + 256 * n, 0⟩

/-- OD 0x44A0+n.0C WAKE_COLLISIONS (R412). -/
def Od.hsicWakeCollisions (n : Nat) : Entry := ⟨0x44A00C + 256 * n, 0⟩

/-- OD 0x44A0+n.0D CTRL_TIMEOUTS (R412). -/
def Od.hsicCtrlTimeouts (n : Nat) : Entry := ⟨0x44A00D + 256 * n, 0⟩

/-- OD 0x44A0+n.0E CLS_MISS (R412). -/
def Od.hsicClsMiss (n : Nat) : Entry := ⟨0x44A00E + 256 * n, 0⟩

/-- OD 0x44A8+4n+f.01 ENABLE (R413). -/
def Od.fnEnable (f : Nat) : Entry := ⟨0x44A801 + 256 * f, 0⟩

/-- OD 0x44A8+4n+f.02 CONNECT_GATE (R413). -/
def Od.fnConnectGate (f : Nat) : Entry := ⟨0x44A802 + 256 * f, 1⟩

/-- OD 0x44A8+4n+f.03 DEV_DESC (R413). -/
def Od.fnDevDesc (f : Nat) : Entry := ⟨0x44A803 + 256 * f, 0⟩

/-- OD 0x44A8+4n+f.04 CONF_DESC (R413). -/
def Od.fnConfDesc (f : Nat) : Entry := ⟨0x44A804 + 256 * f, 0⟩

/-- OD 0x44A8+4n+f.05 WAKE_MASK (R413). -/
def Od.fnWakeMask (f : Nat) : Entry := ⟨0x44A805 + 256 * f, 0⟩

/-- OD 0x44A8+4n+f.06 STATE (R413). -/
def Od.fnState (f : Nat) : Entry := ⟨0x44A806 + 256 * f, 0⟩

/-- OD 0x44A8+4n+f.07 ADDRESS (R413). -/
def Od.fnAddress (f : Nat) : Entry := ⟨0x44A807 + 256 * f, 0⟩

/-- OD 0x44A8+4n+f.08 CONFIGURATION (R413). -/
def Od.fnConfiguration (f : Nat) : Entry := ⟨0x44A808 + 256 * f, 0⟩

/-- OD 0x44A8+4n+f.09 ALT_SETTINGS (R413). -/
def Od.fnAltSettings (f : Nat) : Entry := ⟨0x44A809 + 256 * f, 0⟩

/-- OD 0x44A8+4n+f.0A EP_MAP (R413). -/
def Od.fnEpMap (f : Nat) : Entry := ⟨0x44A80A + 256 * f, 0⟩

/-- OD 0x44A8+4n+f.0B EP_DISCARD (R413). -/
def Od.fnEpDiscard (f : Nat) : Entry := ⟨0x44A80B + 256 * f, 0⟩

/-- OD 0x44A8+4n+f.0C IN_FORMAT (R413). -/
def Od.fnInFormat (f : Nat) : Entry := ⟨0x44A80C + 256 * f, 0⟩

/-- OD 0x44A8+4n+f.10 to 0x44A8+4n+f.1F STRING_i (R413). -/
def Od.fnStringI (f c : Nat) : Entry := ⟨0x44A810 + 256 * f + 1 * c, 0⟩

/-- OD 0x44C0.01 SUBSYS_VID (R442). -/
def Od.hostSubsysVid : Entry := ⟨0x44C001, 0⟩

/-- OD 0x44C0.02 SUBSYS_ID (R442). -/
def Od.hostSubsysId : Entry := ⟨0x44C002, 0⟩

/-- OD 0x44C0.03 MAX_SPEED (R442). -/
def Od.hostMaxSpeed : Entry := ⟨0x44C003, 3⟩

/-- OD 0x44C0.04 MAX_WIDTH (R442). -/
def Od.hostMaxWidth : Entry := ⟨0x44C004, 2⟩

/-- OD 0x44C0.05 LINK (R442). -/
def Od.hostLink : Entry := ⟨0x44C005, 0⟩

/-- OD 0x44C0.06 WIN_READ_LIMIT (R442). -/
def Od.hostWinReadLimit : Entry := ⟨0x44C006, 5000⟩

/-- OD 0x44C0.07 LOCK_LIMIT (R442). -/
def Od.hostLockLimit : Entry := ⟨0x44C007, 200⟩

/-- OD 0x44C0.08 LOCK_HOLDER (R442). -/
def Od.hostLockHolder : Entry := ⟨0x44C008, 0⟩

/-- OD 0x44C0.09 UNMAPPED (R442). -/
def Od.hostUnmapped : Entry := ⟨0x44C009, 0⟩

/-- OD 0x44C0.0A POISONED (R442). -/
def Od.hostPoisoned : Entry := ⟨0x44C00A, 0⟩

/-- OD 0x44C0.0B READ_EXPIRED (R442). -/
def Od.hostReadExpired : Entry := ⟨0x44C00B, 0⟩

/-- OD 0x44C0.0C WIN_DISCARD (R442). -/
def Od.hostWinDiscard : Entry := ⟨0x44C00C, 0⟩

/-- OD 0x44C0.0D PF_UNUSED (R442). -/
def Od.hostPfUnused : Entry := ⟨0x44C00D, 0⟩

/-- OD 0x44C0.0E PF_LOST (R442). -/
def Od.hostPfLost : Entry := ⟨0x44C00E, 0⟩

/-- OD 0x44C0.0F MEM_REFUSED (R442). -/
def Od.hostMemRefused : Entry := ⟨0x44C00F, 0⟩

/-- OD 0x44C0.10 LOCK_EXPIRED (R442). -/
def Od.hostLockExpired : Entry := ⟨0x44C010, 0⟩

/-- OD 0x44C0.11 TX_ERRORS (R442). -/
def Od.hostTxErrors : Entry := ⟨0x44C011, 0⟩

/-- OD 0x44C0.12 RX_TOO_SMALL (R442). -/
def Od.hostRxTooSmall : Entry := ⟨0x44C012, 0⟩

/-- OD 0x2200.01 PAIR_ENABLE (R466). -/
def Od.pairPairEnable : Entry := ⟨0x220001, 0⟩

/-- OD 0x2200.02 PAIR_STATE (R466). -/
def Od.pairPairState : Entry := ⟨0x220002, 0⟩

/-- OD 0x2200.03 ROLE_EPOCH (R466). -/
def Od.pairRoleEpoch : Entry := ⟨0x220003, 0⟩

/-- OD 0x2200.04 PARTNER_SERIAL (R466). -/
def Od.pairPartnerSerial : Entry := ⟨0x220004, 0⟩

/-- OD 0x2200.05 PRIMARY_PORT (R466). -/
def Od.pairPrimaryPort : Entry := ⟨0x220005, 0⟩

/-- OD 0x2200.06 PAIR_SILENCE (R466). -/
def Od.pairPairSilence : Entry := ⟨0x220006, 50⟩

/-- OD 0x2200.07 PAIR_LOSS (R466). -/
def Od.pairPairLoss : Entry := ⟨0x220007, 4⟩

/-- OD 0x2200.08 SWAP_PREP_LIMIT (R466). -/
def Od.pairSwapPrepLimit : Entry := ⟨0x220008, 2⟩

/-- OD 0x2200.09 SWAP_LEAD (R466). -/
def Od.pairSwapLead : Entry := ⟨0x220009, 2⟩

/-- OD 0x2200.0A MIRROR_LAG (R466). -/
def Od.pairMirrorLag : Entry := ⟨0x22000A, 0⟩

/-- OD 0x2200.0B LAST_SWAP_CAUSE (R466). -/
def Od.pairLastSwapCause : Entry := ⟨0x22000B, 0⟩

/-- OD 0x2200.0C LAST_COMMIT_SF (R466). -/
def Od.pairLastCommitSf : Entry := ⟨0x22000C, 0⟩

/-- OD 0x2200.0D SWAPS (R466). -/
def Od.pairSwaps : Entry := ⟨0x22000D, 0⟩

/-- OD 0x2200.0E SWAP_DISCARD (R466). -/
def Od.pairSwapDiscard : Entry := ⟨0x22000E, 0⟩

/-- OD 0x2200.0F DM_SWAP_DROPPED (R466). -/
def Od.pairDmSwapDropped : Entry := ⟨0x22000F, 0⟩

/-- OD 0x4800.01 SEAT_WIRING (R497). -/
def Od.moorSeatWiring : Entry := ⟨0x480001, 0⟩

/-- OD 0x4800.02 GATE_SLOPE (R497). -/
def Od.moorGateSlope : Entry := ⟨0x480002, 1000⟩

/-- OD 0x4800.03 RETRY_TIME (R497). -/
def Od.moorRetryTime : Entry := ⟨0x480003, 1000⟩

/-- OD 0x4800.04 TRIP_LIMIT (R497). -/
def Od.moorTripLimit : Entry := ⟨0x480004, 3⟩

/-- OD 0x4800.05 TRIP_WINDOW (R497). -/
def Od.moorTripWindow : Entry := ⟨0x480005, 60⟩

/-- OD 0x4800.06 LOCKOUT_CLEAR (R497). -/
def Od.moorLockoutClear : Entry := ⟨0x480006, 10⟩

/-- OD 0x4800.07 FEED_PRIORITY (R497). -/
def Od.moorFeedPriority : Entry := ⟨0x480007, 0⟩

/-- OD 0x4800.08 FEED_BBM (R497). -/
def Od.moorFeedBbm : Entry := ⟨0x480008, 20⟩

/-- OD 0x4800.09 FEED_SETTLE (R497). -/
def Od.moorFeedSettle : Entry := ⟨0x480009, 2⟩

/-- OD 0x4800.0A SUPPLY_PROFILES (R497). -/
def Od.moorSupplyProfiles : Entry := ⟨0x48000A, 1⟩

/-- OD 0x4800.0B SINK_WANT (R497). -/
def Od.moorSinkWant : Entry := ⟨0x48000B, 0⟩

/-- OD 0x4800.0C SINK_CURRENT (R497). -/
def Od.moorSinkCurrent : Entry := ⟨0x48000C, 200⟩

/-- OD 0x4800.0D SINK_ACCEPT (R497). -/
def Od.moorSinkAccept : Entry := ⟨0x48000D, 1⟩

/-- OD 0x4800.0E ISENSE_FS (R497). -/
def Od.moorIsenseFs : Entry := ⟨0x48000E, 64000⟩

/-- OD 0x4800.0F FAST_TRIP (R497). -/
def Od.moorFastTrip : Entry := ⟨0x48000F, 6000⟩

/-- OD 0x4800.10 DISCH_LIMIT (R497). -/
def Od.moorDischLimit : Entry := ⟨0x480010, 500⟩

/-- OD 0x4800.11 CAPS_PERIOD (R497). -/
def Od.moorCapsPeriod : Entry := ⟨0x480011, 50⟩

/-- OD 0x4800.12 CAPS_COUNT (R497). -/
def Od.moorCapsCount : Entry := ⟨0x480012, 50⟩

/-- OD 0x4800.13 DOWN_ALLOWANCE (R497). -/
def Od.moorDownAllowance : Entry := ⟨0x480013, 200⟩

/-- OD 0x4800.14 THIRD_SVID (R497). -/
def Od.moorThirdSvid : Entry := ⟨0x480014, 0⟩

/-- OD 0x4801.01 MOOR_STATUS (R498). -/
def Od.moorMoorStatus : Entry := ⟨0x480101, 0⟩

/-- OD 0x4801.02 MOOR_FLAGS (R498). -/
def Od.moorMoorFlags : Entry := ⟨0x480102, 0⟩

/-- OD 0x4801.03 to 0x4801.06 VSENSE_0 to VSENSE_3 (R498). -/
def Od.moorVsense0 (k : Nat) : Entry := ⟨0x480103 + 1 * k, 0⟩

/-- OD 0x4801.07 CURRENT (R498). -/
def Od.moorCurrent : Entry := ⟨0x480107, 0⟩

/-- OD 0x4801.08 I_PROF (R498). -/
def Od.moorIProf : Entry := ⟨0x480108, 0⟩

/-- OD 0x4801.09 TRIPS (R498). -/
def Od.moorTrips : Entry := ⟨0x480109, 0⟩

/-- OD 0x4801.0A LAST_TRIP (R498). -/
def Od.moorLastTrip : Entry := ⟨0x48010A, 0⟩

/-- OD 0x4801.0B LINE_ERRORS (R498). -/
def Od.moorLineErrors : Entry := ⟨0x48010B, 0⟩

/-- OD 0x4801.0C RETRY_LEFT (R498). -/
def Od.moorRetryLeft : Entry := ⟨0x48010C, 0⟩

/-- OD 0x4802.(2k+1) I_k (R498). -/
def Od.moorIK (k : Nat) : Entry := ⟨0x480201 + 2 * k, (curveIDefault k)⟩

/-- OD 0x4802.(2k+2) T_k (R498). -/
def Od.moorTK (k : Nat) : Entry := ⟨0x480202 + 2 * k, (curveTDefault k)⟩

/-- OD 0x4C00.01 LIFECYCLE (R526). -/
def Od.keyLifecycle : Entry := ⟨0x4C0001, 0⟩

/-- OD 0x4C00.02 TENDER_EPOCH (R526). -/
def Od.keyTenderEpoch : Entry := ⟨0x4C0002, 0⟩

/-- OD 0x4C00.03 KEEPER_EPOCH (R526). -/
def Od.keyKeeperEpoch : Entry := ⟨0x4C0003, 0⟩

/-- OD 0x4C00.04 VENDOR_REVOKE (R526). -/
def Od.keyVendorRevoke : Entry := ⟨0x4C0004, 0⟩

/-- OD 0x4C00.05 DEBUG_LOCK (R526). -/
def Od.keyDebugLock : Entry := ⟨0x4C0005, 0⟩

/-- OD 0x4C00.06 VENDOR_KEY (R526). -/
def Od.keyVendorKey : Entry := ⟨0x4C0006, 0⟩

/-- OD 0x4C00.07 TRNG_STATE (R526). -/
def Od.keyTrngState : Entry := ⟨0x4C0007, 0⟩

/-- OD 0x4C00.08 ATTEST_PUBKEY (R526). -/
def Od.keyAttestPubkey : Entry := ⟨0x4C0008, 0⟩

/-- OD 0x4C01.(r+1) LOCK_RECORD (R526). -/
def Od.keyLockRecord (k : Nat) : Entry := ⟨0x4C0101 + 1 * k, 0⟩

/-- OD 0x4C08.(k+1) TRUSTED_KEYS (R526). -/
def Od.keyTrustedKeys (k : Nat) : Entry := ⟨0x4C0801 + 1 * k, 0⟩

/-- OD 0x4C09.(k+1) PAIR_KEY (R526). -/
def Od.keyPairKey (k : Nat) : Entry := ⟨0x4C0901 + 1 * k, 0⟩

/-- OD 0x4C40+k.01 PROF_POLY (R526). -/
def Od.profProfPoly (k : Nat) : Entry := ⟨0x4C4001 + 256 * k, 79764919⟩

/-- OD 0x4C40+k.02 PROF_INIT (R526). -/
def Od.profProfInit (k : Nat) : Entry := ⟨0x4C4002 + 256 * k, 4294967295⟩

/-- OD 0x4C40+k.03 PROF_WIDTH (R526). -/
def Od.profProfWidth (k : Nat) : Entry := ⟨0x4C4003 + 256 * k, 32⟩

/-- OD 0x4C40+k.04 PROF_FLAGS (R526). -/
def Od.profProfFlags (k : Nat) : Entry := ⟨0x4C4004 + 256 * k, 7⟩

/-- OD 0x4C4F.01 SAFETY_DEFAULT (R526). -/
def Od.safSafetyDefault : Entry := ⟨0x4C4F01, 313⟩

/-- OD 0x4C50.ii SAFETY_CFG (R526). -/
def Od.safSafetyCfg (i : Nat) : Entry := ⟨0x4C5000 + i, 313⟩

/-- OD 0x4C51.ii TX_RUNNING (R526). -/
def Od.safTxRunning (i : Nat) : Entry := ⟨0x4C5100 + i, 0⟩

/-- OD 0x4C52.ii RX_RUNNING (R526). -/
def Od.safRxRunning (i : Nat) : Entry := ⟨0x4C5200 + i, 0⟩

/-- OD 0x4C53.ii ALIVE_STATE (R526). -/
def Od.safAliveState (i : Nat) : Entry := ⟨0x4C5300 + i, 0⟩

/-- OD 0x4C54.ii CRC_FAILS (R526). -/
def Od.safCrcFails (i : Nat) : Entry := ⟨0x4C5400 + i, 0⟩

/-- OD 0x4C55.ii ALIVE_REPEATS (R526). -/
def Od.safAliveRepeats (i : Nat) : Entry := ⟨0x4C5500 + i, 0⟩

/-- OD 0x4C56.ii ALIVE_LOST (R526). -/
def Od.safAliveLost (i : Nat) : Entry := ⟨0x4C5600 + i, 0⟩

/-- OD 0x4C57.ii ALIVE_JUMPS (R526). -/
def Od.safAliveJumps (i : Nat) : Entry := ⟨0x4C5700 + i, 0⟩

/-- OD 0x4C58.ii SEAL_FAILS (R526). -/
def Od.safSealFails (i : Nat) : Entry := ⟨0x4C5800 + i, 0⟩

/-- OD 0x4C60+c.01 CH_CFG (R526). -/
def Od.chanChCfg (c : Nat) : Entry := ⟨0x4C6001 + 256 * c, 32⟩

/-- OD 0x4C60+c.02 CH_POLY (R526). -/
def Od.chanChPoly (c : Nat) : Entry := ⟨0x4C6002 + 256 * c, 0⟩

/-- OD 0x4C60+c.03 CH_INIT (R526). -/
def Od.chanChInit (c : Nat) : Entry := ⟨0x4C6003 + 256 * c, 0⟩

/-- OD 0x4C60+c.04 CH_VALUE (R526). -/
def Od.chanChValue (c : Nat) : Entry := ⟨0x4C6004 + 256 * c, 0⟩

/-- OD 0x4C60+c.05 CH_RESULT (R526). -/
def Od.chanChResult (c : Nat) : Entry := ⟨0x4C6005 + 256 * c, 0⟩

/-- OD 0x4C60+c.06 CH_FEED (R526). -/
def Od.chanChFeed (c : Nat) : Entry := ⟨0x4C6006 + 256 * c, 0⟩

/-- OD 0x4C60+c.07 CH_START (R526). -/
def Od.chanChStart (c : Nat) : Entry := ⟨0x4C6007 + 256 * c, 0⟩

/-- OD 0x4C80+s.01 SLOT_STATE (R526). -/
def Od.slotSlotState (s : Nat) : Entry := ⟨0x4C8001 + 256 * s, 0⟩

/-- OD 0x4C80+s.02 SLOT_USAGE (R526). -/
def Od.slotSlotUsage (s : Nat) : Entry := ⟨0x4C8002 + 256 * s, 0⟩

/-- OD 0x4C80+s.03 USES_LEFT (R526). -/
def Od.slotUsesLeft (s : Nat) : Entry := ⟨0x4C8003 + 256 * s, 0⟩

/-- OD 0x4C80+s.04 EXPIRE (R526). -/
def Od.slotExpire (s : Nat) : Entry := ⟨0x4C8004 + 256 * s, 0⟩

/-- OD 0x4C80+s.05 PUBLIC (R526). -/
def Od.slotPublic (s : Nat) : Entry := ⟨0x4C8005 + 256 * s, 0⟩

/-- OD 0x7000.01 DETAIL_FREE (R545). -/
def Od.evtDetailFree : Entry := ⟨0x700001, 0⟩

/-- OD 0x7000.02 DETAIL_LIMIT (R545). -/
def Od.evtDetailLimit : Entry := ⟨0x700002, 16⟩

/-- OD 0x7000.03 EVT_DISCARDED (R545). -/
def Od.evtEvtDiscarded : Entry := ⟨0x700003, 0⟩

/-- OD 0x7000.04 HOLD_IGNORED_COUNT (R545). -/
def Od.evtHoldIgnoredCount : Entry := ⟨0x700004, 0⟩

/-- OD 0x7010.(s+1), s = 0–127; 0x7011.(s−127), s = 128–255 EVT_CFG (R545). -/
def Od.evtEvtCfg (a b : Nat) : Entry := ⟨0x701001 + 256 * a + 1 * b, (evtCfgDefault (128 * a + b))⟩

/-- OD 0x7020.(w+1) MASK_WORD (R545). -/
def Od.evtMaskWord (w : Nat) : Entry := ⟨0x702001 + 1 * w, 0⟩

/-- OD 0x7021.(w+1) PENDING_WORD (R545). -/
def Od.evtPendingWord (w : Nat) : Entry := ⟨0x702101 + 1 * w, 0⟩

/-- OD 0x7022.(w+1) ACTIVE_WORD (R545). -/
def Od.evtActiveWord (w : Nat) : Entry := ⟨0x702201 + 1 * w, 0⟩

/-- OD 0x7030+r.01 RING_CTRL (R545). -/
def Od.ringRingCtrl (r : Nat) : Entry := ⟨0x703001 + 256 * r, 0⟩

/-- OD 0x7030+r.02 RING_BASE (R545). -/
def Od.ringRingBase (r : Nat) : Entry := ⟨0x703002 + 256 * r, 0⟩

/-- OD 0x7030+r.03 RING_WR (R545). -/
def Od.ringRingWr (r : Nat) : Entry := ⟨0x703003 + 256 * r, 0⟩

/-- OD 0x7030+r.04 RING_RD (R545). -/
def Od.ringRingRd (r : Nat) : Entry := ⟨0x703004 + 256 * r, 0⟩

/-- OD 0x7030+r.05 RING_RUN (R545). -/
def Od.ringRingRun (r : Nat) : Entry := ⟨0x703005 + 256 * r, 0⟩

/-- OD 0x7040.01 WAKE_EN (R545). -/
def Od.wakeWakeEn : Entry := ⟨0x704001, 0⟩

/-- OD 0x7040.02 WAKE_EDGE (R545). -/
def Od.wakeWakeEdge : Entry := ⟨0x704002, 0⟩

/-- OD 0x7040.03 WAKE_LATCH (R545). -/
def Od.wakeWakeLatch : Entry := ⟨0x704003, 0⟩

/-- OD 0x2800.01 RESET_CAUSE (R574). -/
def Od.rstResetCause : Entry := ⟨0x280001, 0⟩

/-- OD 0x2800.02 RESET_COUNT (R574). -/
def Od.rstResetCount : Entry := ⟨0x280002, 0⟩

/-- OD 0x2800.03 WDT_PERIOD (R574). -/
def Od.rstWdtPeriod : Entry := ⟨0x280003, 1000⟩

/-- OD 0x2800.04 RESET_FOG_CAUSE (R574). -/
def Od.rstResetFogCause : Entry := ⟨0x280004, 254⟩

/-- OD 0x2800.05 RSTOUT_DELAY (R574). -/
def Od.rstRstoutDelay : Entry := ⟨0x280005, 10⟩

/-- OD 0x2800.06 DOMAIN_BOOT (R574). -/
def Od.rstDomainBoot : Entry := ⟨0x280006, 262143⟩

/-- OD 0x2800.07 BOOT_ENTRY (R574). -/
def Od.rstBootEntry : Entry := ⟨0x280007, 0⟩

/-- OD 0x2800.08 CORE_CLOCK (R574). -/
def Od.rstCoreClock : Entry := ⟨0x280008, 0⟩

/-- OD 0x2800.09 CLOCK_CAP (R574). -/
def Od.rstClockCap : Entry := ⟨0x280009, 0⟩

/-- OD 0x2800.0A DROOP_COUNT (R574). -/
def Od.rstDroopCount : Entry := ⟨0x28000A, 0⟩

/-- OD 0x2800.0B DROOP_LONG_LIMIT (R574). -/
def Od.rstDroopLongLimit : Entry := ⟨0x28000B, 100⟩

/-- OD 0x2810+d.01 STATE (R575). -/
def Od.domState (d : Nat) : Entry := ⟨0x281001 + 256 * d, 0⟩

/-- OD 0x2810+d.02 DELAY_LIMIT (R575). -/
def Od.domDelayLimit (d : Nat) : Entry := ⟨0x281002 + 256 * d, 100⟩

/-- OD 0x2810+d.03 PADS_HELD (R575). -/
def Od.domPadsHeld (d : Nat) : Entry := ⟨0x281003 + 256 * d, 0⟩

/-- OD 0x2810+d.04 LAST_REFUSAL (R575). -/
def Od.domLastRefusal (d : Nat) : Entry := ⟨0x281004 + 256 * d, 0⟩

/-- OD 0x2810+d.05 ENTRIES (R575). -/
def Od.domEntries (d : Nat) : Entry := ⟨0x281005 + 256 * d, 0⟩

/-- OD 0x2830.01 FREQ_STATE (R576). -/
def Od.freqFreqState : Entry := ⟨0x283001, 0⟩

/-- OD 0x2830.02 FREQ_OFFSET (R576). -/
def Od.freqFreqOffset : Entry := ⟨0x283002, 0⟩

/-- OD 0x2830.03 FREQ_SLEW (R576). -/
def Od.freqFreqSlew : Entry := ⟨0x283003, 10000⟩

/-- OD 0x2830.04 PLL_LOCKED (R576). -/
def Od.freqPllLocked : Entry := ⟨0x283004, 0⟩

/-- OD 0x6000+floor(n/128).((n mod 128)+1) COUNT (R590). -/
def Od.cntCount (a b : Nat) : Entry := ⟨0x600001 + 256 * a + 1 * b, 0⟩

/-- OD 0x6010.(n − 255), n = 256–351 SELECT (R590). -/
def Od.cntSelect (n : Nat) : Entry := ⟨0x601001 + 1 * n, 0⟩

/-- OD 0x6020+k.01 OCC (R590). -/
def Od.cmpOcc (k : Nat) : Entry := ⟨0x602001 + 256 * k, 0⟩

/-- OD 0x6020+k.02 INSTANCE (R590). -/
def Od.cmpInstance (k : Nat) : Entry := ⟨0x602002 + 256 * k, 0⟩

/-- OD 0x6020+k.03 N (R590). -/
def Od.cmpN (k : Nat) : Entry := ⟨0x602003 + 256 * k, 0⟩

/-- OD 0x6020+k.04 LIMIT (R590). -/
def Od.cmpLimit (k : Nat) : Entry := ⟨0x602004 + 256 * k, 0⟩

/-- OD 0x6030+b.01 SNAP_LIST (R590). -/
def Od.snapSnapList (b : Nat) : Entry := ⟨0x603001 + 256 * b, 0⟩

/-- OD 0x6030+b.02 SNAP_SEQ (R590). -/
def Od.snapSnapSeq (b : Nat) : Entry := ⟨0x603002 + 256 * b, 0⟩

/-- OD 0x6030+b.03 SNAP_CLOCK (R590). -/
def Od.snapSnapClock (b : Nat) : Entry := ⟨0x603003 + 256 * b, 0⟩

/-- OD 0x6030+b.04 SNAP_VALUES (R590). -/
def Od.snapSnapValues (b : Nat) : Entry := ⟨0x603004 + 256 * b, 0⟩

/-- OD 0x6040.01 OBS_ENABLE (R590). -/
def Od.obsObsEnable : Entry := ⟨0x604001, 0⟩

/-- OD 0x6040.02 OBS_GROUP (R590). -/
def Od.obsObsGroup : Entry := ⟨0x604002, 0⟩

/-- OD 0x6040.03 DEBUG_STATE (R590). -/
def Od.obsDebugState : Entry := ⟨0x604003, 0⟩

/-- OD 0x6041.(q+1) LOOPBACK (R590). -/
def Od.obsLoopback (q : Nat) : Entry := ⟨0x604101 + 1 * q, 0⟩


/-- The entries of the map of chapter 01. -/
def odRows01 : List OdRow := [
  ⟨0x200001, [], .u8, .ro, [(0, 255)]⟩,
  ⟨0x200002, [], .u8, .ro, [(0, 255)]⟩,
  ⟨0x200003, [], .u8, .rw, [(0, 255)]⟩,
  ⟨0x200004, [], .u8, .ro, [(0, 255)]⟩,
  ⟨0x200005, [], .u32, .rw, [(200, 10000)]⟩,
  ⟨0x200006, [], .u32, .rw, [(0, 0), (1000, 600000)]⟩,
  ⟨0x200007, [], .u8, .ro, [(0, 255)]⟩,
  ⟨0x200008, [], .bool, .ro, [(0, 1)]⟩,
  ⟨0x200009, [], .u8, .ro, [(0, 255)]⟩]

/-- The entries of the map of chapter 02. -/
def odRows02 : List OdRow := [
  ⟨0x100001, [], .u32, .const, [(0, 4294967295)]⟩,
  ⟨0x100002, [], .u32, .const, [(0, 4294967295)]⟩,
  ⟨0x100003, [], .u8, .const, [(0, 255)]⟩,
  ⟨0x100004, [], .u64, .const, [(0, 18446744073709551615)]⟩,
  ⟨0x100005, [], .u32, .ro, [(0, 4294967295)]⟩,
  ⟨0x100006, [], .str, .const, [(0, 1024)]⟩,
  ⟨0x100007, [], .u64, .ro, [(0, 18446744073709551615)]⟩,
  ⟨0x100008, [], .u8, .ro, [(0, 255)]⟩,
  ⟨0x101001, [], .u8, .rw, [(0, 63)]⟩,
  ⟨0x101002, [], .u8, .rw, [(0, 63)]⟩,
  ⟨0x101003, [], .u16, .rw, [(100, 10000)]⟩,
  ⟨0x101004, [], .bool, .rw, [(0, 1)]⟩,
  ⟨0x101005, [], .u8, .rw, [(0, 7)]⟩,
  ⟨0x101201, [], .bool, .rw, [(0, 1)]⟩,
  ⟨0x101202, [], .u16, .rw, [(10, 5000)]⟩,
  ⟨0x102001, [(1, 255)], .u16, .ro, [(0, 65535)]⟩,
  ⟨0x500001, [(256, 8)], .domain, .wo, [(4, 256)]⟩,
  ⟨0x508001, [(256, 8)], .domain, .ro, [(0, 1024)]⟩,
  ⟨0x508002, [(256, 8)], .u16, .ro, [(0, 65535)]⟩,
  ⟨0x508003, [(256, 8)], .u8, .ro, [(0, 255)]⟩]

/-- The entries of the map of chapter 03. -/
def odRows03 : List OdRow := [
  ⟨0x300001, [(256, 3)], .bool, .rw, [(0, 1)]⟩,
  ⟨0x300002, [(256, 3)], .u8, .rw, [(0, 2)]⟩,
  ⟨0x300003, [(256, 3)], .u16, .rw, [(50, 2000)]⟩,
  ⟨0x300004, [(256, 3)], .bool, .rw, [(0, 1)]⟩,
  ⟨0x300005, [(256, 3)], .u8, .rw, [(0, 7)]⟩,
  ⟨0x300006, [(256, 3)], .u8, .rw, [(0, 3)]⟩,
  ⟨0x300007, [(256, 3)], .u16, .rw, [(1, 1000)]⟩,
  ⟨0x300008, [(256, 3)], .u16, .rw, [(1, 65535)]⟩,
  ⟨0x300009, [(256, 3)], .u16, .rw, [(50, 2000)]⟩,
  ⟨0x30000A, [(256, 3)], .u8, .rw, [(0, 2)]⟩,
  ⟨0x30000B, [(256, 3)], .u32, .rw, [(0, 0), (1000, 600000)]⟩,
  ⟨0x30000C, [(256, 3)], .u16, .rw, [(10, 10000)]⟩,
  ⟨0x30000D, [(256, 3)], .u8, .rw, [(40, 150)]⟩,
  ⟨0x30000E, [(256, 3)], .u8, .rw, [(5, 40)]⟩,
  ⟨0x30000F, [(256, 3)], .u8, .rw, [(20, 120)]⟩,
  ⟨0x300010, [(256, 3)], .u8, .ro, [(0, 255)]⟩,
  ⟨0x300011, [(256, 3)], .u8, .ro, [(0, 255)]⟩,
  ⟨0x300012, [(256, 3)], .u8, .ro, [(0, 255)]⟩,
  ⟨0x300013, [(256, 3)], .u32, .ro, [(0, 4294967295)]⟩,
  ⟨0x300014, [(256, 3)], .u32, .ro, [(0, 4294967295)]⟩,
  ⟨0x300015, [(256, 3)], .u8, .ro, [(0, 255)]⟩,
  ⟨0x300016, [(256, 3)], .bool, .ro, [(0, 1)]⟩,
  ⟨0x301001, [(256, 5)], .u8, .ro, [(0, 255)]⟩,
  ⟨0x301002, [(256, 5)], .u32, .ro, [(0, 4294967295)]⟩,
  ⟨0x301003, [(256, 5)], .u32, .ro, [(0, 4294967295)]⟩]

/-- The entries of the map of chapter 04. -/
def odRows04 : List OdRow := [
  ⟨0x302001, [(256, 3)], .u8, .ro, [(0, 255)]⟩,
  ⟨0x302002, [(256, 3)], .u8, .ro, [(0, 255)]⟩,
  ⟨0x302003, [(256, 3)], .u8, .ro, [(0, 255)]⟩,
  ⟨0x302004, [(256, 3)], .u64, .ro, [(0, 18446744073709551615)]⟩,
  ⟨0x302005, [(256, 3)], .u16, .rw, [(12, 1000)]⟩,
  ⟨0x302006, [(256, 3)], .u8, .rw, [(1, 16)]⟩,
  ⟨0x302007, [(256, 3)], .u8, .rw, [(1, 64)]⟩,
  ⟨0x302008, [(256, 3)], .u16, .rw, [(4, 512)]⟩,
  ⟨0x302009, [(256, 3)], .u32, .ro, [(0, 4294967295)]⟩,
  ⟨0x30200A, [(256, 3)], .u8, .ro, [(0, 255)]⟩,
  ⟨0x30200B, [(256, 3)], .u8, .ro, [(0, 255)]⟩,
  ⟨0x30200C, [(256, 3)], .u16, .ro, [(0, 65535)]⟩,
  ⟨0x30200D, [(256, 3)], .u16, .ro, [(0, 65535)]⟩]

/-- The entries of the map of chapter 05. -/
def odRows05 : List OdRow := [
  ⟨0x340001, [(256, 256)], .u16, .ro, [(0, 65535)]⟩,
  ⟨0x340002, [(256, 256)], .u8, .ro, [(0, 255)]⟩,
  ⟨0x340003, [(256, 256)], .u8, .ro, [(0, 255)]⟩,
  ⟨0x340004, [(256, 256)], .u8, .ro, [(0, 255)]⟩,
  ⟨0x340005, [(256, 256)], .u8, .ro, [(0, 255)]⟩,
  ⟨0x340006, [(256, 256)], .u8, .ro, [(0, 255)]⟩,
  ⟨0x340007, [(256, 256)], .bool, .ro, [(0, 1)]⟩,
  ⟨0x340008, [(256, 256)], .u16, .ro, [(0, 65535)]⟩,
  ⟨0x340009, [(256, 256)], .u32, .ro, [(0, 4294967295)]⟩,
  ⟨0x34000A, [(256, 256)], .u8, .ro, [(0, 255)]⟩,
  ⟨0x34000B, [(256, 256)], .u16, .ro, [(0, 65535)]⟩,
  ⟨0x34000C, [(256, 256)], .u8, .ro, [(0, 255)]⟩,
  ⟨0x34000D, [(256, 256)], .u8, .ro, [(0, 255)]⟩,
  ⟨0x34000E, [(256, 256)], .u8, .ro, [(0, 255)]⟩,
  ⟨0x34000F, [(256, 256)], .u8, .ro, [(0, 255)]⟩,
  ⟨0x340010, [(256, 256)], .u8, .ro, [(0, 255)]⟩,
  ⟨0x340011, [(256, 256)], .u32, .ro, [(0, 4294967295)]⟩,
  ⟨0x340012, [(256, 256)], .u16, .ro, [(0, 65535)]⟩,
  ⟨0x340013, [(256, 256)], .u16, .ro, [(0, 65535)]⟩,
  ⟨0x340014, [(256, 256)], .bool, .ro, [(0, 1)]⟩,
  ⟨0x340015, [(256, 256)], .u32, .ro, [(0, 4294967295)]⟩,
  ⟨0x340016, [(256, 256)], .u64, .ro, [(0, 18446744073709551615)]⟩,
  ⟨0x340017, [(256, 256)], .u64, .ro, [(0, 18446744073709551615)]⟩,
  ⟨0x340018, [(256, 256)], .u64, .ro, [(0, 18446744073709551615)]⟩,
  ⟨0x340019, [(256, 256)], .u64, .ro, [(0, 18446744073709551615)]⟩,
  ⟨0x34001A, [(256, 256)], .u32, .ro, [(0, 4294967295)]⟩,
  ⟨0x34001B, [(256, 256)], .u32, .ro, [(0, 4294967295)]⟩,
  ⟨0x34001C, [(256, 256)], .u32, .ro, [(0, 4294967295)]⟩,
  ⟨0x34001D, [(256, 256)], .u32, .ro, [(0, 4294967295)]⟩,
  ⟨0x34001E, [(256, 256)], .u32, .ro, [(0, 4294967295)]⟩,
  ⟨0x34001F, [(256, 256)], .u32, .ro, [(0, 4294967295)]⟩,
  ⟨0x340020, [], .u8, .ro, [(0, 255)]⟩,
  ⟨0x340021, [], .u8, .ro, [(0, 255)]⟩,
  ⟨0x340022, [], .u8, .ro, [(0, 255)]⟩,
  ⟨0x340023, [], .u16, .rw, [(0, 60000)]⟩,
  ⟨0x340024, [], .u16, .rw, [(10, 10000)]⟩,
  ⟨0x340025, [], .u16, .ro, [(0, 65535)]⟩,
  ⟨0x340026, [], .u16, .rw, [(0, 255)]⟩,
  ⟨0x340027, [], .u16, .rw, [(1, 10000)]⟩,
  ⟨0x340028, [], .u16, .rw, [(10, 5000)]⟩]

/-- The entries of the map of chapter 06. -/
def odRows06 : List OdRow := [
  ⟨0x380001, [], .u8, .ro, [(0, 255)]⟩,
  ⟨0x380002, [], .u8, .ro, [(0, 255)]⟩,
  ⟨0x380003, [], .u32, .ro, [(0, 4294967295)]⟩,
  ⟨0x380004, [], .u8, .rw, [(2, 64)]⟩,
  ⟨0x380005, [], .u8, .ro, [(0, 255)]⟩,
  ⟨0x380006, [], .u32, .ro, [(0, 4294967295)]⟩,
  ⟨0x380007, [], .u8, .ro, [(0, 255)]⟩,
  ⟨0x380008, [], .u8, .rw, [(0, 7)]⟩,
  ⟨0x380101, [], .u16, .rw, [(0, 65535)]⟩,
  ⟨0x380102, [], .u8, .ro, [(0, 255)]⟩,
  ⟨0x380103, [], .bool, .ro, [(0, 1)]⟩,
  ⟨0x380104, [], .u8, .ro, [(0, 255)]⟩,
  ⟨0x380201, [], .u32, .rw, [(0, 325000)]⟩,
  ⟨0x380202, [], .u32, .rw, [(0, 1048576)]⟩,
  ⟨0x380203, [], .u32, .rw, [(2072, 1048576)]⟩,
  ⟨0x380801, [(1, 255)], .u8, .rw, [(0, 2)]⟩,
  ⟨0x380901, [(1, 255)], .u32, .ro, [(0, 4294967295)]⟩,
  ⟨0x381001, [(256, 8), (1, 255)], .u32, .rw, [(0, 162500)]⟩,
  ⟨0x381801, [(256, 8), (1, 255)], .u32, .rw, [(0, 162500)]⟩,
  ⟨0x382001, [(256, 8), (1, 255)], .u32, .rw, [(0, 325000)]⟩,
  ⟨0x382801, [(256, 8), (1, 255)], .u32, .rw, [(0, 1048576)]⟩,
  ⟨0x383001, [(256, 8), (1, 255)], .u32, .rw, [(2072, 1048576)]⟩,
  ⟨0x384001, [(256, 32), (1, 64)], .u16, .rw, [(1, 4095)]⟩,
  ⟨0x386001, [(256, 32)], .u32, .ro, [(0, 4294967295)]⟩,
  ⟨0x386002, [(256, 32)], .u32, .ro, [(0, 4294967295)]⟩,
  ⟨0x386003, [(256, 32)], .u8, .ro, [(0, 255)]⟩,
  ⟨0x386010, [(256, 32), (1, 8)], .u32, .ro, [(0, 4294967295)]⟩]

/-- The entries of the map of chapter 07. -/
def odRows07 : List OdRow := [
  ⟨0x240001, [], .u8, .ro, [(0, 255)]⟩,
  ⟨0x240002, [], .u32, .ro, [(0, 4294967295)]⟩,
  ⟨0x240003, [], .u8, .rw, [(0, 31)]⟩,
  ⟨0x240004, [], .u8, .rw, [(0, 31)]⟩,
  ⟨0x240005, [], .bool, .rw, [(0, 1)]⟩,
  ⟨0x240006, [], .u16, .rw, [(4, 1024)]⟩,
  ⟨0x240007, [], .u16, .rw, [(16, 65535)]⟩,
  ⟨0x240008, [], .u8, .rw, [(0, 3)]⟩,
  ⟨0x240009, [], .u32, .rw, [(2048, 1048576)]⟩,
  ⟨0x24000A, [], .u8, .rw, [(1, 32)]⟩,
  ⟨0x24000B, [], .u32, .ro, [(0, 4294967295)]⟩,
  ⟨0x24000C, [], .domain, .ro, [(0, 1024)]⟩,
  ⟨0x24000D, [], .u8, .ro, [(0, 255)]⟩,
  ⟨0x24000E, [], .u16, .ro, [(0, 65535)]⟩,
  ⟨0x24000F, [], .u16, .rw, [(1, 1000)]⟩,
  ⟨0x241001, [(256, 32)], .u8, .ro, [(0, 255)]⟩,
  ⟨0x241002, [(256, 32)], .u8, .ro, [(0, 255)]⟩,
  ⟨0x241003, [(256, 32)], .u8, .ro, [(0, 255)]⟩,
  ⟨0x241004, [(256, 32)], .u8, .ro, [(0, 255)]⟩,
  ⟨0x241005, [(256, 32)], .u16, .ro, [(0, 65535)]⟩,
  ⟨0x241006, [(256, 32)], .u8, .ro, [(0, 255)]⟩,
  ⟨0x241007, [(256, 32)], .u64, .ro, [(0, 18446744073709551615)]⟩,
  ⟨0x241008, [(256, 32)], .u32, .ro, [(0, 4294967295)]⟩,
  ⟨0x241009, [(256, 32)], .u32, .ro, [(0, 4294967295)]⟩,
  ⟨0x24100A, [(256, 32)], .u16, .ro, [(0, 65535)]⟩]

/-- The entries of the map of chapter 08. -/
def odRows08 : List OdRow := [
  ⟨0x260001, [], .u32, .rw, [(256, 8192)]⟩,
  ⟨0x260002, [], .u32, .rw, [(0, 16384)]⟩,
  ⟨0x260003, [], .u32, .rw, [(512, 16384)]⟩,
  ⟨0x260004, [], .u32, .ro, [(0, 4294967295)]⟩,
  ⟨0x260005, [], .u32, .ro, [(0, 4294967295)]⟩,
  ⟨0x260006, [], .u16, .rw, [(10, 10000)]⟩,
  ⟨0x261001, [(256, 3), (1, 8)], .u16, .rw, [(16, 2047)]⟩,
  ⟨0x264301, [(256, 29), (1, 8)], .u32, .rw, [(64, 65536)]⟩,
  ⟨0x264309, [(256, 29)], .u16, .rw, [(4, 512)]⟩,
  ⟨0x26430A, [(256, 29)], .u16, .rw, [(4, 512)]⟩,
  ⟨0x26430B, [(256, 8)], .bool, .rw, [(0, 1)]⟩,
  ⟨0x26430C, [(256, 8)], .u64, .rw, [(0, 18446744073709551615)]⟩,
  ⟨0x26430D, [(256, 8)], .u16, .rw, [(256, 65535)]⟩,
  ⟨0x267001, [(256, 4)], .bool, .rw, [(0, 1)]⟩,
  ⟨0x267002, [(256, 4)], .u8, .rw, [(0, 5)]⟩,
  ⟨0x267003, [(256, 4)], .u16, .rw, [(0, 65535)]⟩,
  ⟨0x267004, [(256, 4)], .u32, .rw, [(0, 4294967295)]⟩,
  ⟨0x267005, [(256, 4)], .u64, .rw, [(0, 281474976710655)]⟩,
  ⟨0x267006, [(256, 4)], .u16, .rw, [(64, 2048)]⟩,
  ⟨0x267007, [(256, 4)], .u8, .rw, [(0, 1)]⟩,
  ⟨0x267008, [(256, 4)], .u64, .ro, [(0, 18446744073709551615)]⟩,
  ⟨0x267009, [(256, 4)], .u32, .ro, [(0, 4294967295)]⟩,
  ⟨0x266001, [], .u32, .rw, [(10, 60000)]⟩,
  ⟨0x266002, [], .u32, .rw, [(1, 1000000)]⟩,
  ⟨0x266003, [], .u32, .ro, [(0, 4294967295)]⟩,
  ⟨0x266004, [], .u8, .ro, [(0, 255)]⟩,
  ⟨0x266005, [], .u32, .ro, [(0, 4294967295)]⟩,
  ⟨0x266006, [], .u32, .ro, [(0, 4294967295)]⟩]

/-- The entries of the map of chapter 09. -/
def odRows09 : List OdRow := [
  ⟨0x400001, [], .u32, .rw, [(1, 1000000)]⟩,
  ⟨0x400002, [], .u32, .ro, [(0, 4294967295)]⟩,
  ⟨0x400003, [], .u8, .rw, [(1, 64)]⟩,
  ⟨0x400004, [], .u8, .ro, [(0, 255)]⟩,
  ⟨0x400005, [], .u64, .ro, [(0, 18446744073709551615)]⟩,
  ⟨0x400006, [], .u32, .ro, [(0, 4294967295)]⟩,
  ⟨0x400007, [], .u32, .ro, [(0, 4294967295)]⟩,
  ⟨0x400008, [], .i64, .ro, [(-9223372036854775808, 9223372036854775807)]⟩,
  ⟨0x400801, [(256, 4)], .u8, .ro, [(0, 255)]⟩,
  ⟨0x400802, [(256, 4)], .i64, .ro, [(-9223372036854775808, 9223372036854775807)]⟩,
  ⟨0x400803, [(256, 4)], .i64, .ro, [(-9223372036854775808, 9223372036854775807)]⟩,
  ⟨0x400804, [(256, 4)], .u8, .ro, [(0, 255)]⟩,
  ⟨0x400805, [(256, 4)], .i64, .ro, [(-9223372036854775808, 9223372036854775807)]⟩,
  ⟨0x400806, [(256, 4)], .u8, .ro, [(0, 255)]⟩,
  ⟨0x401001, [(256, 3)], .u8, .rw, [(0, 7), (255, 255)]⟩,
  ⟨0x401002, [(256, 3)], .u8, .rw, [(0, 7), (255, 255)]⟩,
  ⟨0x401003, [(256, 3)], .u16, .rw, [(1, 256)]⟩,
  ⟨0x401004, [(256, 3)], .u16, .rw, [(1, 10000)]⟩,
  ⟨0x401005, [(256, 3)], .u16, .rw, [(1, 10000)]⟩,
  ⟨0x401006, [(256, 3)], .u8, .rw, [(0, 255)]⟩,
  ⟨0x401007, [(256, 3)], .u32, .rw, [(1, 10000000)]⟩,
  ⟨0x402001, [(256, 8)], .u8, .rw, [(0, 3)]⟩,
  ⟨0x402002, [(256, 8)], .bool, .rw, [(0, 1)]⟩,
  ⟨0x402003, [(256, 8)], .u8, .rw, [(0, 23)]⟩,
  ⟨0x402004, [(256, 8)], .u64, .rw, [(1, 281474976710655)]⟩,
  ⟨0x402005, [(256, 8)], .u16, .rw, [(1, 65535)]⟩,
  ⟨0x402006, [(256, 8)], .u32, .rw, [(4, 16777216)]⟩,
  ⟨0x402007, [(256, 8)], .u8, .rw, [(0, 2)]⟩,
  ⟨0x402008, [(256, 8)], .u32, .rw, [(0, 4294967295)]⟩,
  ⟨0x402009, [(256, 8)], .u16, .rw, [(0, 65535)]⟩,
  ⟨0x40200A, [(256, 8)], .u32, .ro, [(0, 4294967295)]⟩,
  ⟨0x40200B, [(256, 8)], .i64, .ro, [(-9223372036854775808, 9223372036854775807)]⟩,
  ⟨0x40200C, [(256, 8)], .u8, .ro, [(0, 255)]⟩,
  ⟨0x40200D, [(256, 8)], .u8, .ro, [(0, 255)]⟩,
  ⟨0x403001, [(256, 3)], .u32, .ro, [(0, 4294967295)]⟩,
  ⟨0x403002, [(256, 3)], .u8, .rw, [(1, 64)]⟩,
  ⟨0x403003, [(256, 3)], .u8, .rw, [(4, 64)]⟩,
  ⟨0x403004, [(256, 3)], .i32, .rw, [(-10000, 10000)]⟩,
  ⟨0x403005, [(256, 3)], .u32, .ro, [(0, 4294967295)]⟩,
  ⟨0x403006, [(256, 3)], .u32, .ro, [(0, 4294967295)]⟩,
  ⟨0x404001, [], .domain, .ro, [(0, 1024)]⟩,
  ⟨0x404002, [], .u32, .rw, [(1, 1000000)]⟩,
  ⟨0x404003, [], .i64, .ro, [(-9223372036854775808, 9223372036854775807)]⟩]

/-- The entries of the map of chapter 10. -/
def odRows10 : List OdRow := [
  ⟨0x405001, [], .u16, .ro, [(0, 65535)]⟩,
  ⟨0x405002, [(1, 4)], .u16, .ro, [(0, 65535)]⟩,
  ⟨0x405006, [], .u16, .const, [(0, 65535)]⟩,
  ⟨0x405007, [], .u32, .ro, [(0, 4294967295)]⟩,
  ⟨0x405008, [], .u32, .ro, [(0, 4294967295)]⟩,
  ⟨0x410001, [(256, 24)], .bool, .rw, [(0, 1)]⟩,
  ⟨0x410002, [(256, 24)], .bool, .rw, [(0, 1)]⟩,
  ⟨0x410003, [(256, 24)], .u8, .rw, [(0, 3)]⟩,
  ⟨0x410004, [(256, 24)], .u8, .rw, [(0, 15)]⟩,
  ⟨0x410005, [(256, 24)], .u8, .rw, [(0, 31)]⟩,
  ⟨0x410006, [(256, 24)], .u8, .rw, [(0, 3), (255, 255)]⟩,
  ⟨0x410007, [(256, 24)], .i32, .rw, [(-10000, 10000)]⟩,
  ⟨0x410008, [(256, 24)], .u32, .rw, [(0, 600000)]⟩,
  ⟨0x410009, [(256, 24)], .bool, .rw, [(0, 1)]⟩,
  ⟨0x41000A, [(256, 24)], .bool, .rw, [(0, 1)]⟩,
  ⟨0x41000B, [(256, 24)], .u8, .ro, [(0, 255)]⟩,
  ⟨0x41000C, [(256, 24)], .bool, .ro, [(0, 1)]⟩,
  ⟨0x41000D, [(256, 24)], .u8, .ro, [(0, 255)]⟩,
  ⟨0x41000E, [(256, 24)], .u64, .ro, [(0, 18446744073709551615)]⟩]

/-- The entries of the map of chapter 11. -/
def odRows11 : List OdRow := [
  ⟨0x440001, [(256, 8)], .bool, .rw, [(0, 1)]⟩,
  ⟨0x440002, [(256, 8)], .u8, .rw, [(0, 2)]⟩,
  ⟨0x440003, [(256, 8)], .bool, .rw, [(0, 1)]⟩,
  ⟨0x440004, [(256, 8)], .u16, .rw, [(64, 2000)]⟩,
  ⟨0x440005, [(256, 8)], .u64, .rw, [(0, 18446744073709551615)]⟩,
  ⟨0x440006, [(256, 8)], .bool, .rw, [(0, 1)]⟩,
  ⟨0x440007, [(256, 8)], .i32, .rw, [(-10000, 10000)]⟩,
  ⟨0x440008, [(256, 8)], .i32, .rw, [(-10000, 10000)]⟩,
  ⟨0x440009, [(256, 8)], .u8, .ro, [(0, 255)]⟩,
  ⟨0x44000A, [(256, 8)], .u8, .ro, [(0, 255)]⟩,
  ⟨0x44000B, [(256, 8)], .u32, .ro, [(0, 4294967295)]⟩,
  ⟨0x44000C, [(256, 8)], .u32, .ro, [(0, 4294967295)]⟩,
  ⟨0x44000D, [(256, 8)], .u32, .ro, [(0, 4294967295)]⟩,
  ⟨0x44000E, [(256, 8)], .u32, .ro, [(0, 4294967295)]⟩,
  ⟨0x442001, [(256, 6)], .bool, .rw, [(0, 1)]⟩,
  ⟨0x442002, [(256, 6)], .u32, .rw, [(125000, 1000000)]⟩,
  ⟨0x442003, [(256, 6)], .u16, .rw, [(500, 900)]⟩,
  ⟨0x442004, [(256, 6)], .bool, .rw, [(0, 1)]⟩,
  ⟨0x442005, [(256, 6)], .u32, .rw, [(500000, 5000000)]⟩,
  ⟨0x442006, [(256, 6)], .u16, .rw, [(500, 900)]⟩,
  ⟨0x442007, [(256, 6)], .bool, .rw, [(0, 1)]⟩,
  ⟨0x442008, [(256, 6)], .bool, .rw, [(0, 1)]⟩,
  ⟨0x442009, [(256, 6)], .bool, .rw, [(0, 1)]⟩,
  ⟨0x44200A, [(256, 6)], .u8, .rw, [(0, 253)]⟩,
  ⟨0x44200B, [(256, 6)], .u8, .ro, [(0, 255)]⟩,
  ⟨0x44200C, [(256, 6)], .u8, .ro, [(0, 255)]⟩,
  ⟨0x44200D, [(256, 6)], .u8, .ro, [(0, 255)]⟩,
  ⟨0x44200E, [(256, 6)], .u8, .ro, [(0, 255)]⟩,
  ⟨0x44200F, [(256, 6)], .u32, .ro, [(0, 4294967295)]⟩,
  ⟨0x442010, [(256, 6)], .u32, .ro, [(0, 4294967295)]⟩,
  ⟨0x442011, [(256, 6)], .u32, .ro, [(0, 4294967295)]⟩,
  ⟨0x442012, [(256, 6)], .u32, .ro, [(0, 4294967295)]⟩,
  ⟨0x443001, [], .u64, .rw, [(0, 18446744073709551615)]⟩,
  ⟨0x444001, [], .bool, .rw, [(0, 1)]⟩,
  ⟨0x444002, [], .u8, .rw, [(0, 3)]⟩,
  ⟨0x444003, [], .u8, .rw, [(1, 1), (4, 4), (8, 8)]⟩,
  ⟨0x444004, [], .bool, .rw, [(0, 1)]⟩,
  ⟨0x444005, [], .u8, .ro, [(0, 255)]⟩,
  ⟨0x444006, [], .u16, .ro, [(0, 65535)]⟩,
  ⟨0x444007, [], .u32, .ro, [(0, 4294967295)]⟩,
  ⟨0x444008, [], .u32, .ro, [(0, 4294967295)]⟩,
  ⟨0x444801, [(256, 8)], .u8, .rw, [(0, 2), (4, 7)]⟩,
  ⟨0x444802, [(256, 8)], .u32, .rw, [(0, 4294967295)]⟩,
  ⟨0x444803, [(256, 8)], .u32, .rw, [(0, 4294967295)]⟩,
  ⟨0x444804, [(256, 8)], .bool, .rw, [(0, 1)]⟩,
  ⟨0x446001, [(256, 6)], .bool, .rw, [(0, 1)]⟩,
  ⟨0x446002, [(256, 6)], .u8, .rw, [(0, 2)]⟩,
  ⟨0x446003, [(256, 6)], .u32, .rw, [(0, 4294967295)]⟩,
  ⟨0x446004, [(256, 6)], .u8, .rw, [(0, 7)]⟩,
  ⟨0x446005, [(256, 6)], .bool, .rw, [(0, 1)]⟩,
  ⟨0x446006, [(256, 6)], .u8, .rw, [(1, 255)]⟩,
  ⟨0x446007, [(256, 6)], .u32, .ro, [(0, 4294967295)]⟩]

/-- The entries of the map of chapter 12. -/
def odRows12 : List OdRow := [
  ⟨0x448001, [(256, 2)], .bool, .rw, [(0, 1)]⟩,
  ⟨0x448002, [(256, 2)], .u8, .rw, [(1, 2), (4, 4)]⟩,
  ⟨0x448003, [(256, 2)], .u8, .rw, [(0, 255)]⟩,
  ⟨0x448004, [(256, 2)], .u32, .ro, [(0, 4294967295)]⟩,
  ⟨0x448005, [(256, 2)], .u32, .ro, [(0, 4294967295)]⟩,
  ⟨0x448006, [(256, 2)], .u32, .ro, [(0, 4294967295)]⟩,
  ⟨0x448007, [(256, 2)], .u32, .ro, [(0, 4294967295)]⟩,
  ⟨0x448008, [(256, 2)], .u32, .ro, [(0, 4294967295)]⟩,
  ⟨0x448009, [(256, 2)], .u32, .ro, [(0, 4294967295)]⟩,
  ⟨0x44800A, [(256, 2)], .u32, .ro, [(0, 4294967295)]⟩,
  ⟨0x449801, [], .u8, .rw, [(0, 1)]⟩,
  ⟨0x449802, [], .u16, .rw, [(1, 1200)]⟩,
  ⟨0x449803, [], .u32, .ro, [(0, 4294967295)]⟩,
  ⟨0x449001, [], .bool, .rw, [(0, 1)]⟩,
  ⟨0x449002, [], .u8, .rw, [(1, 4)]⟩,
  ⟨0x449003, [], .u16, .rw, [(80, 1500)]⟩,
  ⟨0x449004, [], .u32, .rw, [(10000, 250000)]⟩,
  ⟨0x449005, [], .u16, .rw, [(320, 1920)]⟩,
  ⟨0x449006, [], .u16, .rw, [(1, 255)]⟩,
  ⟨0x449007, [], .u16, .rw, [(1, 1023)]⟩,
  ⟨0x449008, [], .u16, .rw, [(1, 1023)]⟩,
  ⟨0x449009, [], .u16, .rw, [(240, 1200)]⟩,
  ⟨0x44900A, [], .u8, .rw, [(1, 63)]⟩,
  ⟨0x44900B, [], .u16, .rw, [(1, 255)]⟩,
  ⟨0x44900C, [], .u16, .rw, [(1, 255)]⟩,
  ⟨0x44900D, [], .u16, .rw, [(0, 16383)]⟩,
  ⟨0x44900E, [], .u32, .rw, [(0, 16777215)]⟩,
  ⟨0x44900F, [], .u8, .rw, [(0, 255)]⟩,
  ⟨0x449010, [], .u8, .rw, [(0, 1)]⟩,
  ⟨0x449011, [], .u8, .rw, [(0, 3)]⟩,
  ⟨0x449012, [], .u8, .rw, [(2, 31)]⟩,
  ⟨0x449013, [], .u8, .rw, [(1, 30)]⟩,
  ⟨0x449014, [], .u8, .rw, [(0, 29)]⟩,
  ⟨0x449015, [], .u64, .ro, [(0, 18446744073709551615)]⟩,
  ⟨0x449016, [], .u32, .ro, [(0, 4294967295)]⟩,
  ⟨0x449017, [], .u32, .ro, [(0, 4294967295)]⟩,
  ⟨0x449018, [], .u32, .ro, [(0, 4294967295)]⟩,
  ⟨0x449019, [], .u32, .ro, [(0, 4294967295)]⟩,
  ⟨0x44901A, [], .u32, .ro, [(0, 4294967295)]⟩,
  ⟨0x44901B, [], .u8, .ro, [(0, 255)]⟩,
  ⟨0x449101, [], .bool, .rw, [(0, 1)]⟩,
  ⟨0x449102, [], .u8, .ro, [(0, 255)]⟩]

/-- The entries of the map of chapter 13. -/
def odRows13 : List OdRow := [
  ⟨0x44A001, [(256, 2)], .bool, .rw, [(0, 1)]⟩,
  ⟨0x44A002, [(256, 2)], .u16, .rw, [(0, 65535)]⟩,
  ⟨0x44A003, [(256, 2)], .u16, .rw, [(0, 65535)]⟩,
  ⟨0x44A004, [(256, 2)], .u16, .rw, [(0, 65535)]⟩,
  ⟨0x44A005, [(256, 2)], .str, .rw, [(0, 126)]⟩,
  ⟨0x44A006, [(256, 2)], .str, .rw, [(0, 126)]⟩,
  ⟨0x44A007, [(256, 2)], .u16, .rw, [(100, 4900)]⟩,
  ⟨0x44A008, [(256, 2)], .u8, .ro, [(0, 255)]⟩,
  ⟨0x44A009, [(256, 2)], .u8, .ro, [(0, 255)]⟩,
  ⟨0x44A00A, [(256, 2)], .u32, .ro, [(0, 4294967295)]⟩,
  ⟨0x44A00B, [(256, 2)], .u32, .ro, [(0, 4294967295)]⟩,
  ⟨0x44A00C, [(256, 2)], .u32, .ro, [(0, 4294967295)]⟩,
  ⟨0x44A00D, [(256, 2)], .u32, .ro, [(0, 4294967295)]⟩,
  ⟨0x44A00E, [(256, 2)], .u32, .ro, [(0, 4294967295)]⟩,
  ⟨0x44A801, [(256, 8)], .bool, .rw, [(0, 1)]⟩,
  ⟨0x44A802, [(256, 8)], .bool, .rw, [(0, 1)]⟩,
  ⟨0x44A803, [(256, 8)], .domain, .rw, [(0, 0), (18, 18)]⟩,
  ⟨0x44A804, [(256, 8)], .domain, .rw, [(0, 0), (9, 1024)]⟩,
  ⟨0x44A805, [(256, 8)], .u16, .rw, [(0, 65535)]⟩,
  ⟨0x44A806, [(256, 8)], .u8, .ro, [(0, 255)]⟩,
  ⟨0x44A807, [(256, 8)], .u8, .ro, [(0, 255)]⟩,
  ⟨0x44A808, [(256, 8)], .u8, .ro, [(0, 255)]⟩,
  ⟨0x44A809, [(256, 8)], .u32, .ro, [(0, 4294967295)]⟩,
  ⟨0x44A80A, [(256, 8)], .domain, .ro, [(0, 1024)]⟩,
  ⟨0x44A80B, [(256, 8)], .u32, .ro, [(0, 4294967295)]⟩,
  ⟨0x44A80C, [(256, 8)], .u32, .ro, [(0, 4294967295)]⟩,
  ⟨0x44A810, [(256, 8), (1, 16)], .domain, .rw, [(0, 0), (2, 255)]⟩]

/-- The entries of the map of chapter 14. -/
def odRows14 : List OdRow := [
  ⟨0x44C001, [], .u16, .rw, [(0, 65535)]⟩,
  ⟨0x44C002, [], .u16, .rw, [(0, 65535)]⟩,
  ⟨0x44C003, [], .u8, .rw, [(1, 3)]⟩,
  ⟨0x44C004, [], .u8, .rw, [(1, 2)]⟩,
  ⟨0x44C005, [], .u8, .ro, [(0, 255)]⟩,
  ⟨0x44C006, [], .u16, .rw, [(100, 40000)]⟩,
  ⟨0x44C007, [], .u16, .rw, [(10, 10000)]⟩,
  ⟨0x44C008, [], .u16, .ro, [(0, 65535)]⟩,
  ⟨0x44C009, [], .u32, .ro, [(0, 4294967295)]⟩,
  ⟨0x44C00A, [], .u32, .ro, [(0, 4294967295)]⟩,
  ⟨0x44C00B, [], .u32, .ro, [(0, 4294967295)]⟩,
  ⟨0x44C00C, [], .u32, .ro, [(0, 4294967295)]⟩,
  ⟨0x44C00D, [], .u32, .ro, [(0, 4294967295)]⟩,
  ⟨0x44C00E, [], .u32, .ro, [(0, 4294967295)]⟩,
  ⟨0x44C00F, [], .u32, .ro, [(0, 4294967295)]⟩,
  ⟨0x44C010, [], .u32, .ro, [(0, 4294967295)]⟩,
  ⟨0x44C011, [], .u32, .ro, [(0, 4294967295)]⟩,
  ⟨0x44C012, [], .u32, .ro, [(0, 4294967295)]⟩]

/-- The entries of the map of chapter 15. -/
def odRows15 : List OdRow := [
  ⟨0x220001, [], .bool, .rw, [(0, 1)]⟩,
  ⟨0x220002, [], .u8, .ro, [(0, 255)]⟩,
  ⟨0x220003, [], .u32, .ro, [(0, 4294967295)]⟩,
  ⟨0x220004, [], .u64, .ro, [(0, 18446744073709551615)]⟩,
  ⟨0x220005, [], .u8, .ro, [(0, 255)]⟩,
  ⟨0x220006, [], .u16, .rw, [(10, 1000)]⟩,
  ⟨0x220007, [], .u8, .rw, [(2, 16)]⟩,
  ⟨0x220008, [], .u16, .rw, [(1, 100)]⟩,
  ⟨0x220009, [], .u8, .const, [(0, 255)]⟩,
  ⟨0x22000A, [], .u16, .ro, [(0, 65535)]⟩,
  ⟨0x22000B, [], .u8, .ro, [(0, 255)]⟩,
  ⟨0x22000C, [], .u32, .ro, [(0, 4294967295)]⟩,
  ⟨0x22000D, [], .u32, .ro, [(0, 4294967295)]⟩,
  ⟨0x22000E, [], .u32, .ro, [(0, 4294967295)]⟩,
  ⟨0x22000F, [], .u32, .ro, [(0, 4294967295)]⟩]

/-- The entries of the map of chapter 16. -/
def odRows16 : List OdRow := [
  ⟨0x480001, [], .u8, .rw, [(0, 1)]⟩,
  ⟨0x480002, [], .u16, .rw, [(100, 5000)]⟩,
  ⟨0x480003, [], .u16, .rw, [(100, 60000)]⟩,
  ⟨0x480004, [], .u8, .rw, [(1, 255)]⟩,
  ⟨0x480005, [], .u16, .rw, [(1, 3600)]⟩,
  ⟨0x480006, [], .u16, .rw, [(0, 600)]⟩,
  ⟨0x480007, [], .u8, .rw, [(0, 3)]⟩,
  ⟨0x480008, [], .u16, .rw, [(5, 1000)]⟩,
  ⟨0x480009, [], .u16, .rw, [(1, 100)]⟩,
  ⟨0x48000A, [], .u8, .rw, [(1, 15)]⟩,
  ⟨0x48000B, [], .u8, .rw, [(0, 3)]⟩,
  ⟨0x48000C, [], .u16, .rw, [(1, 1000)]⟩,
  ⟨0x48000D, [], .u8, .rw, [(1, 7)]⟩,
  ⟨0x48000E, [], .u32, .rw, [(8000, 128000)]⟩,
  ⟨0x48000F, [], .u16, .rw, [(1500, 12000)]⟩,
  ⟨0x480010, [], .u16, .rw, [(50, 5000)]⟩,
  ⟨0x480011, [], .u16, .rw, [(10, 1000)]⟩,
  ⟨0x480012, [], .u8, .rw, [(1, 255)]⟩,
  ⟨0x480013, [], .u16, .rw, [(0, 1000)]⟩,
  ⟨0x480014, [], .u16, .rw, [(0, 65535)]⟩,
  ⟨0x480101, [], .u32, .ro, [(0, 4294967295)]⟩,
  ⟨0x480102, [], .u32, .rw, [(0, 4294967295)]⟩,
  ⟨0x480103, [(1, 4)], .u16, .ro, [(0, 65535)]⟩,
  ⟨0x480107, [], .u32, .ro, [(0, 4294967295)]⟩,
  ⟨0x480108, [], .u16, .ro, [(0, 65535)]⟩,
  ⟨0x480109, [], .u32, .ro, [(0, 4294967295)]⟩,
  ⟨0x48010A, [], .u16, .ro, [(0, 65535)]⟩,
  ⟨0x48010B, [], .u32, .ro, [(0, 4294967295)]⟩,
  ⟨0x48010C, [], .u16, .ro, [(0, 65535)]⟩,
  ⟨0x480201, [(2, 16)], .u16, .rw, [(1000, 20000)]⟩,
  ⟨0x480202, [(2, 16)], .u32, .rw, [(1, 4000000000)]⟩]

/-- The entries of the map of chapter 17. -/
def odRows17 : List OdRow := [
  ⟨0x4C0001, [], .u8, .ro, [(0, 255)]⟩,
  ⟨0x4C0002, [], .u8, .ro, [(0, 255)]⟩,
  ⟨0x4C0003, [], .u8, .ro, [(0, 255)]⟩,
  ⟨0x4C0004, [], .u8, .ro, [(0, 255)]⟩,
  ⟨0x4C0005, [], .bool, .ro, [(0, 1)]⟩,
  ⟨0x4C0006, [], .u8, .ro, [(0, 255)]⟩,
  ⟨0x4C0007, [], .u8, .ro, [(0, 255)]⟩,
  ⟨0x4C0008, [], .domain, .ro, [(0, 1024)]⟩,
  ⟨0x4C0101, [(1, 16)], .u64, .ro, [(0, 18446744073709551615)]⟩,
  ⟨0x4C0801, [(1, 8)], .domain, .rw, [(0, 0), (32, 32)]⟩,
  ⟨0x4C0901, [(1, 8)], .u16, .ro, [(0, 65535)]⟩,
  ⟨0x4C4001, [(256, 8)], .u64, .rw, [(0, 18446744073709551615)]⟩,
  ⟨0x4C4002, [(256, 8)], .u64, .rw, [(0, 18446744073709551615)]⟩,
  ⟨0x4C4003, [(256, 8)], .u8, .rw, [(8, 64)]⟩,
  ⟨0x4C4004, [(256, 8)], .u8, .rw, [(0, 7)]⟩,
  ⟨0x4C4F01, [], .u32, .rw, [(0, 65535)]⟩,
  ⟨0x4C5001, [(1, 255)], .u32, .rw, [(0, 65535)]⟩,
  ⟨0x4C5101, [(1, 255)], .u64, .rw, [(0, 18446744073709551615)]⟩,
  ⟨0x4C5201, [(1, 255)], .u64, .rw, [(0, 18446744073709551615)]⟩,
  ⟨0x4C5301, [(1, 255)], .u16, .rw, [(0, 65535)]⟩,
  ⟨0x4C5401, [(1, 255)], .u32, .ro, [(0, 4294967295)]⟩,
  ⟨0x4C5501, [(1, 255)], .u32, .ro, [(0, 4294967295)]⟩,
  ⟨0x4C5601, [(1, 255)], .u32, .ro, [(0, 4294967295)]⟩,
  ⟨0x4C5701, [(1, 255)], .u32, .ro, [(0, 4294967295)]⟩,
  ⟨0x4C5801, [(1, 255)], .u32, .ro, [(0, 4294967295)]⟩,
  ⟨0x4C6001, [(256, 16)], .u32, .rw, [(0, 4294967295)]⟩,
  ⟨0x4C6002, [(256, 16)], .u64, .rw, [(0, 18446744073709551615)]⟩,
  ⟨0x4C6003, [(256, 16)], .u64, .rw, [(0, 18446744073709551615)]⟩,
  ⟨0x4C6004, [(256, 16)], .u64, .rw, [(0, 18446744073709551615)]⟩,
  ⟨0x4C6005, [(256, 16)], .u64, .ro, [(0, 18446744073709551615)]⟩,
  ⟨0x4C6006, [(256, 16)], .domain, .wo, [(1, 1024)]⟩,
  ⟨0x4C6007, [(256, 16)], .bool, .wo, [(0, 1)]⟩,
  ⟨0x4C8001, [(256, 64)], .u8, .ro, [(0, 255)]⟩,
  ⟨0x4C8002, [(256, 64)], .u8, .ro, [(0, 255)]⟩,
  ⟨0x4C8003, [(256, 64)], .u32, .ro, [(0, 4294967295)]⟩,
  ⟨0x4C8004, [(256, 64)], .bool, .ro, [(0, 1)]⟩,
  ⟨0x4C8005, [(256, 64)], .domain, .ro, [(0, 1024)]⟩]

/-- The entries of the map of chapter 18. -/
def odRows18 : List OdRow := [
  ⟨0x700001, [], .u16, .ro, [(0, 65535)]⟩,
  ⟨0x700002, [], .u8, .rw, [(1, 64)]⟩,
  ⟨0x700003, [], .u32, .ro, [(0, 4294967295)]⟩,
  ⟨0x700004, [], .u32, .ro, [(0, 4294967295)]⟩,
  ⟨0x701001, [(256, 2), (1, 128)], .u8, .rw, [(0, 127)]⟩,
  ⟨0x702001, [(1, 8)], .u32, .rw, [(0, 4294967295)]⟩,
  ⟨0x702101, [(1, 8)], .u32, .rw, [(0, 4294967295)]⟩,
  ⟨0x702201, [(1, 8)], .u32, .ro, [(0, 4294967295)]⟩,
  ⟨0x703001, [(256, 4)], .u32, .rw, [(0, 4294967295)]⟩,
  ⟨0x703002, [(256, 4)], .u64, .rw, [(0, 18446744073709551615)]⟩,
  ⟨0x703003, [(256, 4)], .u16, .ro, [(0, 65535)]⟩,
  ⟨0x703004, [(256, 4)], .u16, .rw, [(0, 4095)]⟩,
  ⟨0x703005, [(256, 4)], .u16, .ro, [(0, 65535)]⟩,
  ⟨0x704001, [], .u16, .rw, [(0, 65535)]⟩,
  ⟨0x704002, [], .u32, .rw, [(0, 4294967295)]⟩,
  ⟨0x704003, [], .u16, .ro, [(0, 65535)]⟩]

/-- The entries of the map of chapter 19. -/
def odRows19 : List OdRow := [
  ⟨0x280001, [], .u8, .ro, [(0, 255)]⟩,
  ⟨0x280002, [], .u32, .ro, [(0, 4294967295)]⟩,
  ⟨0x280003, [], .u16, .rw, [(100, 60000)]⟩,
  ⟨0x280004, [], .u8, .rw, [(0, 0), (128, 255)]⟩,
  ⟨0x280005, [], .u16, .rw, [(1, 1000)]⟩,
  ⟨0x280006, [], .u32, .rw, [(0, 262143)]⟩,
  ⟨0x280007, [], .u8, .ro, [(0, 255)]⟩,
  ⟨0x280008, [], .u8, .ro, [(0, 255)]⟩,
  ⟨0x280009, [], .bool, .rw, [(0, 1)]⟩,
  ⟨0x28000A, [], .u32, .ro, [(0, 4294967295)]⟩,
  ⟨0x28000B, [], .u16, .rw, [(1, 10000)]⟩,
  ⟨0x281001, [(256, 18)], .u8, .ro, [(0, 255)]⟩,
  ⟨0x281002, [(256, 18)], .u16, .rw, [(1, 10000)]⟩,
  ⟨0x281003, [(256, 18)], .bool, .ro, [(0, 1)]⟩,
  ⟨0x281004, [(256, 18)], .u8, .ro, [(0, 255)]⟩,
  ⟨0x281005, [(256, 18)], .u32, .ro, [(0, 4294967295)]⟩,
  ⟨0x283001, [], .u8, .ro, [(0, 255)]⟩,
  ⟨0x283002, [], .i32, .ro, [(-2147483648, 2147483647)]⟩,
  ⟨0x283003, [], .u16, .rw, [(100, 10000)]⟩,
  ⟨0x283004, [], .u16, .ro, [(0, 65535)]⟩]

/-- The entries of the map of chapter 20. -/
def odRows20 : List OdRow := [
  ⟨0x600001, [(256, 3), (1, 128)], .u64, .ro, [(0, 18446744073709551615)]⟩,
  ⟨0x601001, [(1, 96)], .u32, .rw, [(0, 4294967295)]⟩,
  ⟨0x602001, [(256, 32)], .u8, .rw, [(0, 11)]⟩,
  ⟨0x602002, [(256, 32)], .u16, .rw, [(0, 65535)]⟩,
  ⟨0x602003, [(256, 32)], .u32, .rw, [(0, 4294967295)]⟩,
  ⟨0x602004, [(256, 32)], .u64, .rw, [(0, 18446744073709551615)]⟩,
  ⟨0x603001, [(256, 4)], .domain, .rw, [(0, 128)]⟩,
  ⟨0x603002, [(256, 4)], .u32, .ro, [(0, 4294967295)]⟩,
  ⟨0x603003, [(256, 4)], .u64, .ro, [(0, 18446744073709551615)]⟩,
  ⟨0x603004, [(256, 4)], .domain, .ro, [(0, 1024)]⟩,
  ⟨0x604001, [], .bool, .rw, [(0, 1)]⟩,
  ⟨0x604002, [], .u8, .rw, [(0, 63)]⟩,
  ⟨0x604003, [], .u8, .ro, [(0, 255)]⟩,
  ⟨0x604101, [(1, 25)], .u8, .rw, [(0, 255)]⟩]

/-- Every entry the maps list (R38): a key no row covers does not exist. -/
def odRows : List OdRow :=
  odRows01 ++ odRows02 ++ odRows03 ++ odRows04 ++ odRows05 ++ odRows06 ++ odRows07 ++ odRows08 ++ odRows09 ++ odRows10 ++ odRows11 ++ odRows12 ++ odRows13 ++ odRows14 ++ odRows15 ++ odRows16 ++ odRows17 ++ odRows18 ++ odRows19 ++ odRows20

end Sys2Proof.Machine
end

