-- ==== Sys2Proof/Machine/State/Control.lean ====
section
/-!
DEFINITION. State of the operating modes (chapter 01), of the dictionary's access paths and command
channels (chapter 02) and of the event unit (chapter 18).
-/

namespace Sys2Proof.Machine

/-- The modes of R13, with the code 7 of R17 for strap fault. -/
inductive Mode where
  | bench | lighthouse | standby | lightship | buoy | foghorn | strapFault
  deriving DecidableEq, Repr

/-- Who asked for a retrain out of FOGHORN (R28): the retry timer, or a command channel. -/
inductive RetrainBy where
  | timer
  | command (channel : Nat)
  deriving DecidableEq, Repr

/-- Mode state: straps, confirmation, FOGHORN and the deadline of R27. -/
structure ModeSt where
  /-- MODE[2:0] as sampled when PORST_N rose (R13). -/
  strap : BitVec 3
  /-- The mode in force (R17). -/
  active : Mode
  /-- The strapped mode has been confirmed; held until PORST_N (R16). -/
  confirmed : Bool
  /-- Cause of entry to FOGHORN, 0 outside it (R17). -/
  fogCause : Nat
  /-- The mode held before entry to FOGHORN, to which a retrain returns (R28). -/
  before : Mode
  /-- FOG_DEADLINE is running (R27). -/
  deadlineRunning : Bool
  /-- The time of FOG_RETRY_PERIOD is running (R28). -/
  retryRunning : Bool
  /-- A retrain is running (R28). -/
  retrain : Option RetrainBy
  /-- PAIR_CONFIG (R17). -/
  pairConfig : Bool
  /-- A watched connector was released in FOGHORN: the next full seating starts from the strapped mode (R29). -/
  reseat : Bool
  /-- FAULT_N is driven low (R30). -/
  faultN : Bool
  deriving DecidableEq, Repr

/-- CHANNEL_STATE of R57. -/
inductive ChState where
  | idle | running | done
  deriving DecidableEq, Repr

/-- One command channel (R57, R60): its state, the tag and code of its last accepted command, the
COMMAND bytes of that command and the RESULT of a done one. -/
structure Channel where
  state : ChState
  tag : Nat
  code : Nat
  command : Bytes
  result : Bytes
  deriving DecidableEq, Repr

/-- A dictionary access that has reached Keeper (R36): `write` is `none` for a read. -/
structure Access where
  path : Path
  index : Nat
  sub : Nat
  write : Option Bytes
  /-- Served: a mirrored write whose answer waits for MIRROR_ACK (R451). -/
  served : Bool
  /-- The access acts and its response is not sent: its ODAP client has begun another transfer (R49), or the host has reset the
  mailbox (R52). -/
  silent : Bool
  deriving DecidableEq, Repr

/-- Where the mailbox's running access stands (R37, R51). -/
inductive MbxPhase where
  /-- No access runs. -/
  | idle
  /-- At Keeper of this hub, to be served at MBX_COMPLETE. -/
  | localAccess
  /-- Sent to, or waiting to be sent to, another hub, with this REQ_ID. -/
  | remote (reqId : Nat)
  /-- The outcome is known and is written at MBX_COMPLETE. -/
  | outcome (status : Nat) (data : Bytes)
  deriving DecidableEq, Repr

/-- The host mailbox of R50: the stored register fields, MBX_DATA, and the running access. -/
structure Mailbox where
  op : Nat
  doneEvtEn : Bool
  done : Bool
  target : Nat
  index : Nat
  sub : Nat
  len : Nat
  status : Nat
  data : Bytes
  phase : MbxPhase
  deriving DecidableEq, Repr

/-- An open ODAP transfer of a client on a CAN port (R36, R47). -/
structure OdapTransfer where
  port : Fin 6
  client : Byte
  index : Nat
  sub : Nat
  download : Bool
  size : Nat
  data : Bytes
  toggle : Bool
  /-- Its data comes in segments (R47). -/
  segmented : Bool
  /-- All data of a download has arrived and Keeper has not yet answered (R49). -/
  complete : Bool
  deriving DecidableEq, Repr

/-- A SYSTEM-tunnel request of this hub (R53 to R55): outstanding once sent, waiting before (R37). -/
structure SysRequest where
  reqId : Nat
  target : Nat
  byMailbox : Bool
  index : Nat
  sub : Nat
  write : Option Bytes
  sent : Bool
  deriving DecidableEq, Repr

/-- A request relayed through this hub, so that its response finds the way back (R55). -/
structure SysRelay where
  reqId : Nat
  originDepth : Nat
  fromPort : Nat
  toPort : Nat
  deriving DecidableEq, Repr

/-- A command passed to another hub over the SYSTEM tunnel (R107, R467): its channel, the TARGET, the REQ_ID under way, and
whether COMMAND has been written and RESULT is being read. -/
structure RemoteCmd where
  channel : Nat
  target : Nat
  reqId : Nat
  wrote : Bool
  deriving DecidableEq, Repr

/-- The flash operation that runs (R65, R578), and the channel whose command waits for it. -/
inductive FlashOp where
  | configSave | configErase | flashErase | flashProgram
  deriving DecidableEq, Repr

/-- State of the dictionary's paths and the command channels (chapter 02). -/
structure CtlSt where
  channels : Tab Channel
  mailbox : Mailbox
  /-- Accesses that wait for Keeper, in order of arrival (R36). -/
  keeperQ : List Access
  transfers : List OdapTransfer
  requests : List SysRequest
  relays : List SysRelay
  nextReqId : Nat
  remote : List RemoteCmd
  /-- Proprietary A frames that do not follow the ODAP section (R43). -/
  odapIgnored : Nat
  /-- Late responses discarded (R55). -/
  lateResponses : Nat
  /-- The stored configuration in QSPI flash: key and value bytes, ascending; `none` when void (R65). -/
  stored : Option (List (Nat × Bytes))
  /-- CONFIG_SAVE or CONFIG_ERASE has put `stored` in place of what the configuration entry of the directory holds (R65, R569). -/
  configWritten : Bool
  /-- CONFIG_MEASURE: SHA-256 of the stored configuration as applied (R519); none was with []. -/
  configMeasure : Bytes
  /-- CONFIG_SAVE or CONFIG_ERASE running on a channel. -/
  configOp : Option (FlashOp × Nat)
  deriving DecidableEq, Repr

/-- One queued detail of an event source (R531, R535). -/
structure Detail where
  source : Nat
  clock : Nat
  data : Bytes
  soft : Bool
  wake : Bool
  lost : Bool
  count : Nat
  deriving DecidableEq, Repr

/-- One event ring (R533, R537 to R539); the stack has its top first. -/
structure Ring where
  base : Nat
  size : Nat
  notify : Nat
  inHost : Bool
  vector : Nat
  enable : Bool
  full : Bool
  fault : Bool
  wr : Nat
  rd : Nat
  phase : Bool
  stack : List (Nat × Nat)
  /-- Sources whose active state has just ended (R534). -/
  ended : List Nat
  deriving DecidableEq, Repr

/-- The hold of R544: its owner, its word, and how many details each source held when it began (a PENDING
write acts on those only). -/
structure Hold where
  owner : HoldOwner
  word : Nat
  before : Tab Nat
  deriving DecidableEq, Repr

/-- The event unit (chapter 18). Masks, EVT_CFG, WAKE_EN and WAKE_EDGE are dictionary entries. -/
structure EvtSt where
  /-- Queued details of every source, oldest first: the pool of R535. -/
  details : List Detail
  /-- Firings that found the pool empty while their source held no detail (R535). -/
  waiting : List Detail
  rings : Tab Ring
  hold : Option Hold
  /-- The wake latches (R540). -/
  wakeLatch : BitVec 16
  /-- EVT_N is high (R538). -/
  evtN : Bool
  /-- Keeper's event interrupt stands (R538). -/
  keeperIrq : Bool
  deriving DecidableEq, Repr

/-- Reset value of `Channel` (logs 2 and 3 where the spec gives none). -/
def Channel.init : Channel :=
  { state := .idle, tag := 0, code := 0, command := [], result := [] }

/-- Reset value of `Mailbox` (logs 2 and 3 where the spec gives none). -/
def Mailbox.init : Mailbox :=
  { op := 0, doneEvtEn := false, done := false, target := 0, index := 0, sub := 0, len := 0, status := 0,
    data := [], phase := .idle }

/-- Reset value of `Ring` (logs 2 and 3 where the spec gives none). -/
def Ring.init : Ring :=
  { base := 0, size := 0, notify := 0, inHost := false, vector := 0, enable := false, full := false,
    fault := false, wr := 0, rd := 0, phase := true, stack := [], ended := [] }

/-- Reset value of `ModeSt` (logs 2 and 3 where the spec gives none). -/
def ModeSt.init : ModeSt :=
  { strap := 0, active := .bench, confirmed := false, fogCause := 0, before := .bench,
    deadlineRunning := false, retryRunning := false, retrain := none, pairConfig := false, reseat := false,
    faultN := false }

/-- Reset value of `CtlSt` (logs 2 and 3 where the spec gives none). -/
def CtlSt.init : CtlSt :=
  { channels := ⟨[]⟩, mailbox := Mailbox.init, keeperQ := [], transfers := [], requests := [],
    relays := [], nextReqId := 0, remote := [], odapIgnored := 0, lateResponses := 0, stored := none, configWritten := false,
    configMeasure := [], configOp := none }

/-- Reset value of `EvtSt` (logs 2 and 3 where the spec gives none). -/
def EvtSt.init : EvtSt :=
  { details := [], waiting := [], rings := ⟨[]⟩, hold := none, wakeLatch := 0, evtN := true,
    keeperIrq := false }

end Sys2Proof.Machine
end

