-- ==== Sys2Proof/Machine/State/Ports.lean ====
section
/-!
DEFINITION. State of the local ports: Ethernet, CAN FD, eMMC and serial ports (chapter 11), camera input and
display scan-out (chapter 12), the USB function hubs (chapter 13) and the host bridge (chapter 14).
-/

namespace Sys2Proof.Machine

/-- A segment delivered to a local binding, waiting at its port (R156, R246): its context, class, binding, colour, bytes. -/
structure OutSeg where
  ctx : Nat
  cls : Nat
  bind : Nat
  yellow : Bool
  data : Bytes
  deriving DecidableEq, Repr

/-- An Ethernet port (R336 to R345). -/
structure EthSt where
  /-- LINK: 0 down, 1 10, 2 100, 3 1,000, 4 2,500 Mbit/s. -/
  link : Nat
  /-- Egress timestamps, oldest first: entries of 16 bytes (R344). -/
  ts : List Bytes
  /-- CLOCK at the last ETH_OVERRUN (R341). -/
  overrunAt : Option Nat
  /-- EGRESS_OVERSIZE (R339). -/
  oversize : Nat
  deriving DecidableEq, Repr

/-- BUS_STATE of a CAN port (R348). -/
inductive CanBus where
  | stopped | active | passive | busOff
  deriving DecidableEq, Repr

/-- A CAN port (R346 to R353). -/
structure CanSt where
  bus : CanBus
  tec : Nat
  rec_ : Nat
  claimed : Option Nat
  /-- The address under claim whose 250 ms run (R352). -/
  claiming : Option Nat
  /-- Addresses that received claims hold, each with the NAME of its claim (R352). -/
  taken : List (Nat × Nat)
  /-- The hub holds no address and seeks none any more: Cannot Claim Address was sent (R352). -/
  cannotClaim : Bool
  /-- Transmit slots and the frames behind them, oldest first: queue number, 0 the hub's own, otherwise a context. -/
  slots : List (Nat × CanFrame)
  queue : List (Nat × CanFrame)
  /-- Recovery after bus-off runs, and the CAN_RESTART and ADDRESS_RECLAIM channels (R348, R364). -/
  recovering : Bool
  command : Option Nat
  reclaim : Option Nat
  /-- Remote frames received and Commanded Address messages ignored (R346, R352). -/
  remoteFrames : Nat
  commandedIgnored : Nat
  deriving DecidableEq, Repr

/-- STATE of the eMMC host (R355). -/
inductive EmmcState where
  | off | initialising | ready | failed
  deriving DecidableEq, Repr

/-- A BLOCK request (R357, R358): its OP, REQ_TAG, LBA and BLOCKS, FUA; blocks completed and received, the next SEQ. -/
structure BlockReq where
  ctx : Nat
  op : Nat
  tag : Nat
  fua : Bool
  lba : Nat
  blocks : Nat
  done : Nat
  got : Nat
  seq : Nat
  /-- Data of a WRITE received and not yet written. -/
  data : Bytes
  deriving DecidableEq, Repr

/-- The eMMC host (R354 to R361). -/
structure EmmcSt where
  state : EmmcState
  modeInUse : Nat
  widthInUse : Nat
  /-- Blocks of partitions 0 to 7, as the device gave them. -/
  parts : List Nat
  lastError : Nat
  lastR1 : Nat
  requests : List BlockReq
  /-- The context whose first request runs on the device, the blocks of the device command, its retries; a request that has
  lost its tunnel finishes without a response (R360). -/
  running : Option Nat
  chunk : Nat
  retries : Nat
  orphan : Bool
  lastServed : Nat
  /-- Contexts whose last WRITE was refused or faulty: its remaining data segments are discarded (R358). -/
  dropping : List Nat
  /-- EMMC_REINIT commands that wait for the initialisation. -/
  commands : List Nat
  deriving DecidableEq, Repr

/-- A serial port (R362, R363). -/
structure SerSt where
  /-- CTS_N is high: a UART with FLOW stops sending. -/
  ctsHigh : Bool
  /-- An SPI or I2C transaction runs: its context, the I2C flag, the length to read, the bytes of its segment. -/
  busy : Option (Nat × Nat)
  deriving DecidableEq, Repr

/-- Ethernet, CAN, storage and serial ports (chapter 11), and the segments waiting at every local egress. -/
structure IoSt where
  outQ : Tab (List OutSeg)
  eth : Tab EthSt
  can : Tab CanSt
  emmc : EmmcSt
  ser : Tab SerSt
  deriving DecidableEq, Repr

/-- A stream of a camera (R368): its virtual channel and data type, the context it follows (none for a miss), its frame
number, the length of its first line, and the frame's progress. -/
structure CsiStream where
  vc : Nat
  dt : Nat
  ctx : Option Nat
  frame : Nat
  lineLen : Nat
  /-- The frame is skipped, or cut (R371). -/
  dropped : Bool
  /-- Bytes gathered for the next segment, the OFFSET of its first byte, whether a segment has been sent. -/
  gathered : Bytes
  offset : Nat
  started : Bool
  deriving DecidableEq, Repr

/-- A CSI port (R366 to R371): open frames by virtual channel with CLOCK at their start in ns, streams, frame numbers by
context. -/
structure CsiSt where
  frames : List (Nat × Nat)
  /-- Virtual channels whose open frame is BAD. -/
  badVcs : List Nat
  streams : List CsiStream
  frameNos : Tab Nat
  errorAt : Option Nat
  deriving DecidableEq, Repr

/-- STATE of DSI0 (R382). -/
inductive DsiState where
  | off | running | stalled
  deriving DecidableEq, Repr

/-- The frame that the DSI end is writing (R373): the OFFSET due next, its DT, its FRAME number; in RING, it has been ready. -/
structure WriteFrame where
  next : Nat
  dt : Nat
  frame : Nat
  lead : Bool
  deriving DecidableEq, Repr

/-- The entries of DSI0 that take effect at a frame start, as in force (R383). -/
structure DsiSet where
  slot : Nat
  colour : Nat
  stallFrames : Nat
  stallAction : Nat
  wm1 : Nat
  wm2 : Nat
  wm3 : Nat
  deriving DecidableEq, Repr

/-- Video: cameras, frame store and scan-out (chapter 12). -/
structure VidSt where
  csi : Tab CsiSt
  dsi : DsiState
  inForce : DsiSet
  writing : Option WriteFrame
  formatAt : Option Nat
  /-- DOUBLE: the buffer being scanned, a ready frame in the back buffer; RING: the ready frame (R374, R375). -/
  front : Nat
  ready : Option WriteFrame
  /-- DT and FRAME of the frame being sent; none before the first. -/
  shown : Option WriteFrame
  /-- Line being sent, from 0 at VSYNC; front-porch lines sent; what is being sent is FILL_COLOUR throughout. -/
  line : Nat
  porch : Nat
  filling : Bool
  repeats : Nat
  /-- RING: lines of the new frame written, lines of the present frame read. -/
  ringRead : Nat
  /-- Fill of the line buffer in eighths of a line (R379). -/
  fill : Nat
  underrunAt : Option Nat
  /-- DSI_PACKET waiting for the next front porch: bytes, outputs still to send, outputs that sent, channel (R388). -/
  packets : List (Bytes × Nat × Nat × Nat)
  deriving DecidableEq, Repr

/-- Device states of a hub or function (R393, R408). -/
inductive UsbState where
  | off | disconnected | powered | default | addressed | configured
  deriving DecidableEq, Repr

/-- A control transfer in progress (R398 to R400): its setup bytes; it waits for a REPLY of CTRL_SEQ. -/
structure CtrlXfer where
  setup : Bytes
  waiting : Bool
  deriving DecidableEq, Repr

/-- An IN segment queued at its endpoint (R403): what is left to send, whether a zero-length packet follows, the bytes of
staging it holds, and the packet sent and not acknowledged. -/
structure InSeg where
  ep : Nat
  ctx : Nat
  left : Bytes
  zlp : Bool
  staged : Nat
  unacked : Option Bytes
  deriving DecidableEq, Repr

/-- A USB device on the bus: the presented hub or a function with its downstream port (chapter 13). -/
structure UsbDev where
  state : UsbState
  suspended : Bool
  address : Nat
  configuration : Nat
  /-- Alternate settings by interface; toggles (1 DATA1) and halts by endpoint address (R405, R406). -/
  alts : Tab Nat
  toggles : Tab Nat
  halts : Tab Nat
  rwake : Bool
  wakePending : Bool
  wakeCommands : List Nat
  ctrl : Option CtrlXfer
  ctrlSeq : Nat
  testMode : Nat
  inQueue : List InSeg
  /-- Bytes gathered from OUT packets, by endpoint (R402). -/
  outOpen : Tab Bytes
  /-- Downstream port: power, enable, reset running, change bits C_PORT_CONNECTION 0, C_PORT_SUSPEND 2, C_PORT_RESET 4. -/
  portPower : Bool
  portEnable : Bool
  portReset : Bool
  resuming : Bool
  change : Nat
  /-- CLOCK of the last disconnect (R395), and the USB_RECONNECT channels. -/
  disconnectedAt : Option Nat
  reconnects : List Nat
  deriving DecidableEq, Repr

/-- USB function hubs (chapter 13): key of `devs` 5 * port for the hub, 5 * port + 1 + f for function f. CLOCK at which
global suspend began, per port, plus 1; late replies discarded. -/
structure UsbSt where
  devs : Tab UsbDev
  suspendedAt : Tab Nat
  lateReplies : Nat
  deriving DecidableEq, Repr

/-- A READ piece of a window (R426, R428): tag, far address, length, byte enables, sent, its data once arrived. -/
structure Piece where
  tag : Nat
  addr : Nat
  len : Nat
  be : Nat
  sent : Bool
  data : Option Bytes
  deriving DecidableEq, Repr

/-- A host request to a window that waits (R428 to R431): BAR2 address, byte enables (first DW [3:0], last [7:4]), data or
length; of an AtomicOp its operation (0 FetchAdd, 1 Swap, 2 CAS), its bytes and operands. -/
inductive HostReq where
  | write (addr be : Nat) (data : Bytes)
  | read (addr be len : Nat)
  | atomic (addr op size operand compare : Nat)
  deriving DecidableEq, Repr

/-- A window request in progress (R428, R431): the BAR2 address of the next byte to complete, the bytes left, an AtomicOp's
operation and operands, its LOCK_ACK arrived, the pieces not yet completed. -/
structure WinReq where
  addr : Nat
  left : Nat
  atomic : Option (Nat × Nat × Nat)
  ackTag : Nat
  acked : Bool
  pieces : List Piece
  deriving DecidableEq, Repr

/-- A prefetched piece held (R433): far address, data left, SIDE_EFFECT. -/
structure PfPiece where
  addr : Nat
  data : Bytes
  side : Bool
  deriving DecidableEq, Repr

/-- A window's running state (R422 to R434). -/
structure WinSt where
  nextTag : Nat
  requests : List WinReq
  /-- Reads and AtomicOps behind an AtomicOp or a write that waits, oldest first (R429). -/
  waiting : List HostReq
  /-- Prefetched pieces held and outstanding, and outstanding ones whose answers are to be discarded. -/
  held : List PfPiece
  outstanding : List Piece
  ignored : List Piece
  deriving DecidableEq, Repr

/-- A DMA read of a host queue: of descriptors of the RX or TX ring from a ring place, or of a TX segment. -/
structure DmaRead where
  rx : Bool
  descriptors : Bool
  at_ : Nat
  count : Nat
  deriving DecidableEq, Repr

/-- A descriptor as read: address, length, flags and cookie (R436). -/
structure QDesc where
  at_ : Nat
  addr : Nat
  len : Nat
  flags : Nat
  cookie : Nat
  deriving DecidableEq, Repr

/-- A host queue (R436 to R439). Its control registers are stored words. -/
structure HostQ where
  txHead : Nat
  rxHead : Nat
  /-- TX descriptors read and not yet sent, RX descriptors read and not yet filled. -/
  tx : List QDesc
  rx : List QDesc
  /-- Ring place up to which TX and RX descriptors have been read. -/
  txRead : Nat
  rxRead : Nat
  reading : List DmaRead
  fault : Bool
  /-- MOD_TIME runs since the last message; an interrupt is pending (R438). -/
  modTimer : Bool
  irqPending : Bool
  deriving DecidableEq, Repr

/-- A posted write of the host that waits (R430): to BAR2 or BAR0, address, byte enables, data. -/
structure Posted where
  bar2 : Bool
  addr : Nat
  be : Nat
  data : Bytes
  deriving DecidableEq, Repr

/-- The PCI Express host bridge (chapter 14). -/
structure HbSt where
  speed : Nat
  width : Nat
  busMaster : Bool
  wins : Tab WinSt
  queues : Tab HostQ
  /-- AREA 1 lock: the context that holds it; contexts whose requests are discarded up to their UNLOCK (R432). -/
  lockHolder : Option Nat
  lockSkip : List Nat
  memFaultAt : Option Nat
  /-- MSI-X table: address and data words by 4 * vector + word, whose word 3 bit 0 is the vector's mask (reset 1); pending
  bits; Function Mask and Enable of the capability. -/
  msixTable : Tab Nat
  msixPending : Nat
  msixEnable : Bool
  msixFunctionMask : Bool
  /-- CLOCK at which PCIE_PERST_N last rose (R418). -/
  perstRose : Nat
  /-- Posted writes that wait, oldest first (R430). -/
  posted : List Posted
  /-- MAX_SPEED, MAX_WIDTH and the subsystem IDs (vendor, ID) as the last assertion of PCIE_PERST_N took them (R442). -/
  maxSpeed : Nat
  maxWidth : Nat
  subsys : Nat × Nat
  deriving DecidableEq, Repr

/-- Reset value of `EthSt` (logs 2 and 3 where the spec gives none). -/
def EthSt.init : EthSt :=
  { link := 0, ts := [], overrunAt := none, oversize := 0 }

/-- Reset value of `CanSt` (logs 2 and 3 where the spec gives none). -/
def CanSt.init : CanSt :=
  { bus := .stopped, tec := 0, rec_ := 0, claimed := none, claiming := none, taken := [],
    cannotClaim := false, slots := [], queue := [], recovering := false, command := none, reclaim := none,
    remoteFrames := 0, commandedIgnored := 0 }

/-- Reset value of `EmmcSt` (logs 2 and 3 where the spec gives none). -/
def EmmcSt.init : EmmcSt :=
  { state := .off, modeInUse := 0, widthInUse := 0, parts := [], lastError := 0, lastR1 := 0,
    requests := [], running := none, chunk := 0, retries := 0, orphan := false, lastServed := 0, dropping := [],
    commands := [] }

/-- Reset value of `SerSt` (logs 2 and 3 where the spec gives none). -/
def SerSt.init : SerSt :=
  { ctsHigh := false, busy := none }

/-- Reset value of `IoSt` (logs 2 and 3 where the spec gives none). -/
def IoSt.init : IoSt :=
  { outQ := ⟨[]⟩, eth := ⟨[]⟩, can := ⟨[]⟩, emmc := EmmcSt.init, ser := ⟨[]⟩ }

/-- Reset value of `CsiSt` (logs 2 and 3 where the spec gives none). -/
def CsiSt.init : CsiSt :=
  { frames := [], badVcs := [], streams := [], frameNos := ⟨[]⟩, errorAt := none }

/-- Reset value of `DsiSet` (logs 2 and 3 where the spec gives none). -/
def DsiSet.init : DsiSet :=
  { slot := 0, colour := 0, stallFrames := 3, stallAction := 1, wm1 := 24, wm2 := 16, wm3 := 8 }

/-- Reset value of `VidSt` (logs 2 and 3 where the spec gives none). -/
def VidSt.init : VidSt :=
  { csi := ⟨[]⟩, dsi := .off, inForce := DsiSet.init, writing := none, formatAt := none, front := 0,
    ready := none, shown := none, line := 0, porch := 0, filling := false, repeats := 0, ringRead := 0,
    fill := 0, underrunAt := none, packets := [] }

/-- Reset value of `UsbDev` (logs 2 and 3 where the spec gives none). -/
def UsbDev.init : UsbDev :=
  { state := .off, suspended := false, address := 0, configuration := 0, alts := ⟨[]⟩, toggles := ⟨[]⟩,
    halts := ⟨[]⟩, rwake := false, wakePending := false, wakeCommands := [], ctrl := none, ctrlSeq := 0,
    testMode := 0, inQueue := [], outOpen := ⟨[]⟩, portPower := false, portEnable := false,
    portReset := false, resuming := false, change := 0, disconnectedAt := none, reconnects := [] }

/-- Reset value of `UsbSt` (logs 2 and 3 where the spec gives none). -/
def UsbSt.init : UsbSt :=
  { devs := ⟨[]⟩, suspendedAt := ⟨[]⟩, lateReplies := 0 }

/-- Reset value of `WinSt` (logs 2 and 3 where the spec gives none). -/
def WinSt.init : WinSt :=
  { nextTag := 0, requests := [], waiting := [], held := [], outstanding := [], ignored := [] }

/-- Reset value of `HostQ` (logs 2 and 3 where the spec gives none). -/
def HostQ.init : HostQ :=
  { txHead := 0, rxHead := 0, tx := [], rx := [], txRead := 0, rxRead := 0, reading := [], fault := false,
    modTimer := false, irqPending := false }

/-- Reset value of `HbSt` (logs 2 and 3 where the spec gives none). -/
def HbSt.init : HbSt :=
  { speed := 0, width := 0, busMaster := false, wins := ⟨[]⟩, queues := ⟨[]⟩, lockHolder := none,
    lockSkip := [], memFaultAt := none, msixTable := ⟨[]⟩, msixPending := 0, msixEnable := false,
    msixFunctionMask := false, perstRose := 0, posted := [], maxSpeed := 3, maxWidth := 2, subsys := (0, 0) }

end Sys2Proof.Machine
end

