-- ==== Sys2Proof/Machine/State/Position.lean ====
section
/-!
DEFINITION. State of the Beacon (chapter 09) and of the daymarks and Lamps (chapter 10).
-/

namespace Sys2Proof.Machine

/-- INPUT_STATE of an encoder input (R303). -/
inductive InputState where
  | off | running | faulted
  deriving DecidableEq, Repr

/-- An encoder input (R273 to R278, R282). -/
structure EncSt where
  state : InputState
  faultCause : Nat
  levelA : Bool
  levelB : Bool
  levelZ : Bool
  count : Int
  qerr : Nat
  /-- CLOCK of the quadrature errors of the last ms, newest first (R275). -/
  qerrTimes : List Nat
  /-- Count c within the revolution, REV and consecutive misses of Z (R278). -/
  shaft : Nat
  rev : Int
  zMiss : Nat
  /-- Direction of the last counted edge: 1, -1, 0 none. -/
  dir : Int
  deriving DecidableEq, Repr

/-- Bearing states of R289. -/
inductive BearingState where
  | off | acquiring | valid | holdover | lost
  deriving DecidableEq, Repr

/-- A bearing (R276 to R289): 0 GROUND, 1 SHAFT0, 2 SHAFT1. Positions of the estimator are in 1/65536 LSB. -/
structure BearingSt where
  state : BearingState
  inputInUse : Option Nat
  /-- Position of the encoder, and X, its instant and the movement per count at the last edge (R279). -/
  pos : Int
  xe : Int
  te : Nat
  step : Nat
  /-- V as position per 0.1 ns: numerator and denominator (R279). -/
  vNum : Int
  vDen : Nat
  /-- Last direction of travel, 0 none yet; at standstill (R280, R281). -/
  dir : Int
  still : Bool
  /-- Counts against the direction of travel (R281). -/
  against : Nat
  /-- Instants of the edges since the last standstill or confirmed reversal, newest first (R279). -/
  edges : List Nat
  /-- A reversal has been confirmed since the last point (R284); X has resumed since the last point (R283). -/
  flip : Bool
  resumed : Bool
  join : Int
  /-- The secondary input's count when the primary last counted (R282). -/
  stallFrom : Int
  /-- The segment in force: its start and end points (R285). -/
  from_ : Int
  to_ : Int
  /-- Points: superframe, value, and whether its VALID bit is 1; newest first (R284, R288). -/
  points : List (Nat × Int × Bool)
  /-- Missing points in a row, values outside the window in a row (R288, R289). -/
  missing : Nat
  outside : Nat
  /-- Accepted points in a row; LOST by missing points and not by a VALID bit (R289). -/
  accepted : Nat
  lostByMissing : Bool
  /-- A STANDBY's own points (R297). -/
  shadow : List (Nat × Int)
  deriving DecidableEq, Repr

/-- Timebase states (R291, R294). -/
inductive TimebaseState where
  | free | acquiring | locked | holdover
  deriving DecidableEq, Repr

/-- Delay measurement of a link (R292, R293). -/
structure ProbeSt where
  /-- The request outstanding: its sequence and its t1, and the channel of a PROBE_NOW command. -/
  out : Option (Nat × Nat)
  command : Option Nat
  /-- PROBE_NOW commands that wait for it to end (R306). -/
  commands : List Nat
  seq : Nat
  /-- The last accepted values in 10 ps units, newest first; the values rejected in a row. -/
  values : List Int
  rejects : List Int
  lastRtt : Nat
  /-- OFFSET that the upstream hub last reported, and UP_LOCKED. -/
  farOffset : Nat
  upLocked : Bool
  deriving DecidableEq, Repr

/-- A BEACON_CAPTURE command that waits for its instant (R306). -/
structure Capture where
  at_ : Nat
  channel : Nat
  deriving DecidableEq, Repr

/-- The Beacon (chapter 09). -/
structure BcnSt where
  sfEpoch : Nat
  encs : Tab EncSt
  bearings : Tab BearingSt
  baseUnitInUse : Nat
  /-- BASE_UNIT of the boot after power-on has been fixed (R299). -/
  baseFixed : Bool
  timebase : TimebaseState
  /-- The segment in force starts at superframe `seg` of CLOCK: it is A(seg - 2) (R284, R285). -/
  seg : Nat
  probes : Tab ProbeSt
  /-- Probes accepted since ACQUIRING was entered; SAMPLE_FULL has been read since (R294). -/
  acceptedRun : Nat
  sampleFull : Bool
  /-- The error of CLOCK measured at the last block 0 while ACQUIRING, in 0.1 ns (R294). -/
  correction : Option Int
  /-- The units of 0.1 ns for which CLOCK still runs at half rate (R294). -/
  slew : Nat
  /-- The error that the servo adds over a superframe, in 0.1 ns, and the units of that superframe that have passed (R294). -/
  servo : Int
  servoRun : Nat
  /-- The span of CLOCK that the last forward step passed (R319). -/
  stepFrom : Nat
  stepTo : Nat
  lastStep : Int
  /-- Block 0 of the superframe has been decoded on the primary upstream link; superframes without it in a row (R291). -/
  decoded : Bool
  undecoded : Nat
  /-- Superframes that the timebase has spent in HOLDOVER (R291). -/
  heldFor : Nat
  /-- VALID bits and low bits of the point that the BEACON block decoded carries, as sent on (R287); none with SAMPLE 0. -/
  sample : Option (Nat × Nat × Nat × Nat)
  /-- CLOCK_HI and the BEARING registers as the last read of CLOCK_LO latched them (R304). -/
  latchedHi : Nat
  latchedBearing : Tab Nat
  /-- S of a root after a swap: the OFFSET this hub held when it took over (R459). -/
  offsetHeld : Nat
  /-- Shadow difference now and at the last entry to LOCKED (R297). -/
  shadowDiff : Int
  shadowRef : Int
  captures : List Capture
  /-- BEARING_RESTORE commands that run: bearing, CLOCK of their end, channel (R306). -/
  restores : List (Nat × Nat × Nat)
  deriving DecidableEq, Repr

/-- A daymark slot (R310): its entry, the order of posting, whether it has fired its leading edge, the context that
posted it. -/
structure Daymark where
  slot : Nat
  gen : Nat
  entry : Bytes
  trailing : Bool
  /-- CLOCK at which PULSE_TIMEOUT expires (R320). -/
  timeoutAt : Option Nat
  /-- Handle of the LAMPCMD tunnel that posted it. -/
  source : Option Nat
  order : Nat
  shadow : Bool
  /-- CLOCK from which a crossing counts: the insertion, or the leading edge (R317). -/
  since : Nat
  /-- The record flags of the Lamp edge that has been queued ahead of the crossing awaited, for a Lamp with a negative OFFSET (R325); the
  instant of the leading edge as placed (R320, R324). -/
  early : Option Nat
  edgeAt : Option Nat
  deriving DecidableEq, Repr

/-- Lamp states of R326. -/
inductive LampState where
  | off | active | safe
  deriving DecidableEq, Repr

/-- A Lamp (R324 to R329). -/
structure LampSt where
  state : LampState
  level : Bool
  /-- What the ball shows: 0 low, 1 high, 2 high impedance (R326, R331). -/
  ball : Nat
  safeCause : Nat
  /-- Triggers that have acted since the Lamp was last ACTIVE, one bit per cause, and the tunnels of cause 4 (R329). -/
  triggers : Nat
  safeTunnels : List Nat
  /-- Queued edges: instant in 0.1 ns and logical level, in the order in which they are placed (R324). -/
  edges : List (Nat × Bool)
  lastEdge : Option Nat
  edgeCount : Nat
  /-- Instants at which PULSE_TIME pulses end (R320). -/
  pulseEnds : List Nat
  /-- POLARITY in force since the last entry to ACTIVE (R331). -/
  polarity : Bool
  /-- Handles of the LAMPCMD tunnels that have posted a daymark naming the Lamp (R327). -/
  posters : List Nat
  /-- At a STANDBY, the level last mirrored for the Lamp (R450, R460). -/
  mirrored : Bool
  deriving DecidableEq, Repr

/-- Daymarks and Lamps (chapter 10). -/
structure DmSt where
  slots : List Daymark
  /-- GEN of each slot's last handle (R310). -/
  gens : Tab Nat
  nextOrder : Nat
  /-- Calibration of the delay line has failed (R324). -/
  calFault : Bool
  lamps : Tab LampSt
  /-- Fired records gathered for a tunnel and not yet sent: (handle, record) (R322). -/
  fired : List (Nat × Bytes)
  /-- Records and LAMPCMD messages counted and not sent (R314, R322). -/
  unsent : Nat
  badMessages : Nat
  /-- Tunnel actions started by daymarks: channel number from 8 up, the record to complete, its tunnel (R321). -/
  actions : List (Nat × Bytes × Option Nat)
  /-- DM_POST window: BUSY, DONE, DONE_EVT_EN, STATUS; DM_POST0 to 7 are registers (R332). -/
  postDone : Bool
  postEvtEn : Bool
  postStatus : Nat
  postOutcome : Nat
  postHandle : Nat
  deriving DecidableEq, Repr

/-- Reset value of `EncSt` (logs 2 and 3 where the spec gives none). -/
def EncSt.init : EncSt :=
  { state := .off, faultCause := 0, levelA := false, levelB := false, levelZ := false, count := 0,
    qerr := 0, qerrTimes := [], shaft := 0, rev := 0, zMiss := 0, dir := 0 }

/-- Reset value of `BearingSt` (logs 2 and 3 where the spec gives none). -/
def BearingSt.init : BearingSt :=
  { state := .off, inputInUse := none, pos := 0, xe := 0, te := 0, step := 0, vNum := 0, vDen := 1,
    dir := 0, still := true, against := 0, edges := [], flip := false, resumed := false, join := 0,
    stallFrom := 0, from_ := 0, to_ := 0, points := [], missing := 0, outside := 0, accepted := 0,
    lostByMissing := false, shadow := [] }

/-- Reset value of `ProbeSt` (logs 2 and 3 where the spec gives none). -/
def ProbeSt.init : ProbeSt :=
  { out := none, command := none, commands := [], seq := 0, values := [], rejects := [], lastRtt := 0, farOffset := 0,
    upLocked := false }

/-- Reset value of `BcnSt` (logs 2 and 3 where the spec gives none). -/
def BcnSt.init : BcnSt :=
  { sfEpoch := 0, encs := ⟨[]⟩, bearings := ⟨[]⟩, baseUnitInUse := 1000, baseFixed := false,
    timebase := .free, seg := 2, probes := ⟨[]⟩, acceptedRun := 0, sampleFull := false, correction := none,
    slew := 0, servo := 0, servoRun := 0, stepFrom := 0, stepTo := 0, lastStep := 0, decoded := false, undecoded := 0, heldFor := 0,
    sample := none, latchedHi := 0, latchedBearing := ⟨[]⟩, offsetHeld := 0, shadowDiff := 0,
    shadowRef := 0, captures := [], restores := [] }

/-- Reset value of `LampSt` (logs 2 and 3 where the spec gives none). -/
def LampSt.init : LampSt :=
  { state := .off, level := false, ball := 2, safeCause := 255, triggers := 0, safeTunnels := [],
    edges := [], lastEdge := none, edgeCount := 0, pulseEnds := [], polarity := false, posters := [],
    mirrored := false }

/-- Reset value of `DmSt` (logs 2 and 3 where the spec gives none). -/
def DmSt.init : DmSt :=
  { slots := [], gens := ⟨[]⟩, nextOrder := 0, calFault := false, lamps := ⟨[]⟩, fired := [], unsent := 0,
    badMessages := 0, actions := [], postDone := false, postEvtEn := false, postStatus := 0,
    postOutcome := 0, postHandle := 0 }

end Sys2Proof.Machine
end

