-- ==== Sys2Proof/Machine/State/System.lean ====
section
/-!
DEFINITION. State of the redundant pair (chapter 15), of the mooring (chapter 16), of the keys and check units
(chapter 17), of power, clocks and reset (chapter 19) and of the counters, observation and test (chapter 20).
-/

namespace Sys2Proof.Machine

/-- PAIR_STATE of R466. -/
inductive PairState where
  | none_ | joining | primary | standby | stale | swapping | buoy
  deriving DecidableEq, Repr

/-- What ends once a mirror record is acknowledged (R451): a command, or a dictionary write. -/
inductive MirrorEnd where
  | command (channel status : Nat) (data : Bytes)
  | write (path : Path)
  deriving DecidableEq, Repr

/-- A swap in progress (R454 to R457). -/
structure Swap where
  /-- Started by a command (true) or by loss of the primary (false). -/
  commanded : Bool
  /-- This hub is the candidate that collects answers. -/
  candidate : Bool
  epoch : Nat
  /-- Ports whose answer is awaited, and those that answered; at a receiver, the port SWAP_PREPARE came by. -/
  awaited : List Nat
  ready : List Nat
  port : Nat
  commitSf : Option Nat
  command : Option Nat
  drained : Bool
  deriving DecidableEq, Repr

/-- The redundant pair (chapter 15). -/
structure PairSt where
  state : PairState
  epoch : Nat
  heardMax : Nat
  partnerSerial : Nat
  /-- SERIAL of the primary this hub follows; 0 none (R449). -/
  primarySerial : Nat
  primaryPort : Option Nat
  swap : Option Swap
  inStep : Bool
  /-- Records sent and unacknowledged, oldest first: the sequence and what waits for it (R451). -/
  unacked : List (Nat × List MirrorEnd)
  mirrorSeq : Nat
  /-- A full copy runs: how many records it has sent, and the channel of its PAIR_RESYNC (R451, R467). -/
  resync : Option Nat
  resyncCommand : Option Nat
  /-- A BUOY's own HEARS; per port, 1 + HEARS as last announced, and a HEARS of 0 since block 0 was last decoded (R449, R456). -/
  ownHears : Bool
  hears : Tab Nat
  lostBy : Tab Nat
  silenceTimer : Bool
  prepTimer : Bool
  lastCause : Nat
  lastCommitSf : Nat
  swaps : Nat
  discard : Nat
  dmDropped : Nat
  /-- Moved tunnels, 256 * old port + INDEX, with the superframe in which the discard of their old cells ends (R458). -/
  moved : List (Nat × Nat)
  /-- The primary took over with a stale mirror; indexes that drew a TEARDOWN in this superframe (R458). -/
  staleTaken : Bool
  torn : List Nat
  /-- A BUOY turns to this port at its next superframe boundary (R465). -/
  turnTo : Option Nat
  /-- PAIR_SPLIT has been raised since block 0 was last decoded (R456). -/
  split : Bool
  deriving DecidableEq, Repr

/-- Stage states of R476. -/
inductive StageState where
  | off | unseated | seating | check | ramp | powered | transition | tripped | lockout
  deriving DecidableEq, Repr

/-- A mooring message that waits for its GOOD, or its turn (R483): TYPE, MSG_ID, data, how often it was sent, the channel
whose command it carries. -/
structure MoorMsg where
  kind : Nat
  id : Nat
  data : Bytes
  sends : Nat
  command : Option Nat
  deriving DecidableEq, Repr

/-- A mooring connector (R479 to R486, R492). -/
structure ConnSt where
  /-- The contract in force: profile, and operating current in 10 mA (R478). -/
  profile : Nat
  current : Nat
  /-- Messages of this hub, oldest first; the first one is on its way. -/
  outMsgs : List MoorMsg
  msgId : Nat
  rxId : Option Nat
  /-- CAPS sent without a REQUEST, and CAPS_PERIOD running (R484). -/
  capsCount : Nat
  capsTimer : Bool
  /-- At a sink: the profile and current asked for, ACCEPT received, the channel of MOOR_REQUEST. -/
  asked : Option (Nat × Nat)
  awaitPs : Bool
  request : Option Nat
  /-- Profile mask of the supply's last CAPS, and vendor messages supported (R483). -/
  farCaps : Option Nat
  vendor : Bool
  /-- Modes entered by VDM: bit 0 LIMP, 1 RELAY-CHAIN, 2 PAIR-HOMED (R492). -/
  modes : Nat
  /-- The VDM whose response is awaited: COMMAND and MODE; the channel of its MOOR_SEND_VDM. -/
  vdmOut : Option (Nat × Nat)
  vdm : Option Nat
  deriving DecidableEq, Repr

/-- The mooring block (chapter 16). -/
structure MoorSt where
  stage : StageState
  lockout : Bool
  retryTimer : Bool
  /-- Seating inputs 0 A and 1 B: low at the last sample, confirmed (R474). -/
  seatLow : Tab Nat
  seatConfirmed : Tab Nat
  /-- SEAT_WIRING in force, once it is fixed (R497). -/
  wiring : Option Nat
  trips : Nat
  /-- CLOCK of the trips in TRIP_WINDOW, newest first (R476). -/
  tripTimes : List Nat
  lastTrip : Nat
  /-- GATE_KILL_N is low; GATE_CTL is raised; MOOR_VSET in V; MOOR_DISCH is high. -/
  killed : Bool
  gate : Bool
  vset : Nat
  disch : Bool
  /-- The FEED_SEL that is high, the feeds found good, and the feed that FEED_BBM leads to (R490, R491). -/
  feed : Option Nat
  feedGood : Nat
  bbm : Option Nat
  /-- The breaker counts that have reached their time (R488). -/
  curve : Tab Nat
  conns : Tab ConnSt
  /-- The transition under way: connector, profile, current, slewing started (R485). -/
  transition : Option (Nat × Nat × Nat × Bool)
  /-- A downstream request that waits for the upstream contract (R493). -/
  downReq : Option (Nat × Nat)
  lineErrors : Nat
  holdOff : Bool
  /-- LOCKOUT_CLEAR is running (R476). -/
  unseatedTimer : Bool
  deriving DecidableEq, Repr

/-- SLOT_STATE (R505). -/
inductive SlotState where
  | empty | valid | bad
  deriving DecidableEq, Repr

/-- A key slot (R505 to R511); the key is held masked with its mask beside it (R509). -/
structure Slot where
  state : SlotState
  usage : Nat
  usesLeft : Nat
  expire : Bool
  masked : Nat
  mask : Nat
  check : Nat
  publicKey : Bytes
  deriving DecidableEq, Repr

/-- A pair-key record (R515, R516): the target, 0 for a record kept only for tunnels that still seal under it (R518), the two
slots, and the tunnel keys, each masked with its mask beside it (R510). -/
structure PairKey where
  target : Nat
  txSlot : Nat
  rxSlot : Nat
  txKey : Nat
  txMask : Nat
  rxKey : Nat
  rxMask : Nat
  txSalt : Nat
  rxSalt : Nat
  txCounter : Nat
  deriving DecidableEq, Repr

/-- A key exchange in progress at the opener (R515): the tunnel that waits for it and its target, and once the offer has been
made its REQ_ID, its ephemeral private key and its DATA. A tunnel that waits for another one's exchange holds no offer. -/
structure Exchange where
  target : Nat
  ctx : Nat
  reqId : Nat
  ephemeral : Nat
  offer : Bytes
  deriving DecidableEq, Repr

/-- TRNG_STATE (R514). -/
inductive TrngState where
  | startup | running | failed
  deriving DecidableEq, Repr

/-- An operation of the ECC engine (R512), with the key it started with (R508). -/
inductive EccOp where
  | sign (key : Nat) (digest : Bytes)
  | attest (key : Nat) (nonce : Bytes)
  | generate (slot usage : Nat) (uses : Nat) (expire : Bool)
  /-- KEY_DERIVE that found the block at work: what it writes, where. -/
  | derive_ (slot usage uses key : Nat) (expire : Bool) (publicKey : Bytes)
  | debug (publicKey nonce signature : Bytes)
  /-- Make the KEY_OFFER for a tunnel; answer an offer that came by a port; verify an answer and derive the pair key. -/
  | offer (ctx : Nat)
  | reply (port : Nat) (msg : SysMsg)
  | agree (ctx : Nat) (data : Bytes)
  deriving DecidableEq, Repr

/-- A running check channel (R524 to R526). -/
structure CrcChan where
  cfg : Nat
  poly : Nat
  initial : Nat
  value : Nat
  deriving DecidableEq, Repr

/-- Keys, attestation and check units (chapter 17). -/
structure SecSt where
  /-- The fuse array: blown bits (R502, R503), and the copy latched at power-on. -/
  fuses : Tab Nat
  latched : Tab Nat
  slots : Tab Slot
  pairKeys : Tab PairKey
  exchange : List Exchange
  trng : TrngState
  /-- The start-up test of the TRNG has passed since the last reset (R514). -/
  startedUp : Bool
  /-- The ECC engine: operations with their channels, oldest first (R512). -/
  ecc : List (EccOp × Option Nat)
  chans : Tab CrcChan
  deriving DecidableEq, Repr

/-- Domain states of R549, R574. -/
inductive DomState where
  | on | retention | off | transition
  deriving DecidableEq, Repr

/-- A power domain (R548 to R555). -/
structure DomSt where
  state : DomState
  /-- The request in its handshake, with FORCE, and its channel (R551). -/
  target : Option DomState
  force : Bool
  command : Option Nat
  /-- On its way to on from off: entries are applied (R549). -/
  cold : Bool
  padsHeld : Bool
  lastRefusal : Nat
  entries : Nat
  deriving DecidableEq, Repr

/-- FREQ_STATE of R563. -/
inductive FreqState where
  | local_ | acquiring | locked | holdover | held
  deriving DecidableEq, Repr

/-- Where boot stands (R570 to R572). -/
inductive BootPhase where
  | porst | held | rom | romStay | keeper
  deriving DecidableEq, Repr

/-- Power, clocks, reset and start-up (chapter 19). -/
structure PwrSt where
  domains : Tab DomSt
  /-- Domains that wait for inrush, oldest first (R549). -/
  powerUps : List Nat
  /-- The core clock is halved, by CLOCK_CAP or a droop; a droop slow-down is in force, since when, and DROOP_LONG_LIMIT runs
  (R560). -/
  slow : Bool
  droop : Bool
  slowSince : Nat
  droopTimer : Bool
  lastReturn : Option Nat
  droopCount : Nat
  freq : FreqState
  freqOffset : Int
  pllLocked : Nat
  resetCause : Nat
  resetCount : Nat
  bootEntry : Nat
  /-- KEEPER_MEASURE: SHA-256 of the running Keeper image (R519); none runs with []. -/
  keeperMeasure : Bytes
  bootPhase : BootPhase
  /-- The image run is not the one of the highest VERSION (R570). -/
  fallback : Bool
  /-- Half of WDT_PERIOD has passed since the last kick (R567). -/
  wdtHalf : Bool
  rstoutN : Bool
  /-- The crystal is stopped (R564). -/
  xtalStopped : Bool
  /-- VDD_CORE is below 0.720 V: the hub is held in reset (R601). -/
  coreLow : Bool
  /-- A chain reset starts once the copies of its fog signal have been sent (R568). -/
  chainReset : Bool
  /-- The QSPI flash: bytes by offset; 0xFF where unlisted. -/
  flash : Tab Nat
  /-- FLASH_ERASE (0) or FLASH_PROGRAM (1) under way: offset, channel, data (R578). -/
  flashOps : List (Nat × Nat × Nat × Bytes)
  deriving DecidableEq, Repr

/-- A snapshot bank (R585). -/
structure SnapBank where
  seq : Nat
  clock : Nat
  values : List Nat
  pendingAt : Option Nat
  command : Option Nat
  latchedHi : Nat
  /-- HI of each entry as the last read of its LO latched it (R591). -/
  entryHi : Tab Nat
  deriving DecidableEq, Repr

/-- JTAG instructions of R589 in force. -/
inductive Jtag where
  | bypass | idcode | samplePreload | extest | extestPulse | extestTrain | clamp | highz
  deriving DecidableEq, Repr

/-- Counters, observation and test (chapter 20). Counts, SELECT and comparator settings are dictionary entries. -/
structure ObsSt where
  cntHi : Tab Nat
  banks : Tab SnapBank
  /-- Comparators that have reached LIMIT since it was written (R583). -/
  reached : Tab Nat
  unlocked : Bool
  nonce : Option Bytes
  /-- CLOCK of the last failed unlock (R587). -/
  failedAt : Option Nat
  jtag : Jtag
  /-- The boundary register, as preloaded or sampled (R589). -/
  boundary : Bytes
  deriving DecidableEq, Repr

/-- Reset value of `PairSt` (logs 2 and 3 where the spec gives none). -/
def PairSt.init : PairSt :=
  { state := .none_, epoch := 0, heardMax := 0, partnerSerial := 0, primarySerial := 0,
    primaryPort := none, swap := none, inStep := false, unacked := [], mirrorSeq := 0, resync := none,
    resyncCommand := none, ownHears := false, hears := ⟨[]⟩, lostBy := ⟨[]⟩, silenceTimer := false,
    prepTimer := false, lastCause := 0, lastCommitSf := 0, swaps := 0, discard := 0, dmDropped := 0,
    moved := [], staleTaken := false, torn := [], turnTo := none, split := false }

/-- Reset value of `ConnSt` (logs 2 and 3 where the spec gives none). -/
def ConnSt.init : ConnSt :=
  { profile := 0, current := 0, outMsgs := [], msgId := 0, rxId := none, capsCount := 0,
    capsTimer := false, asked := none, awaitPs := false, request := none, farCaps := none, vendor := false,
    modes := 0, vdmOut := none, vdm := none }

/-- Reset value of `MoorSt` (logs 2 and 3 where the spec gives none). -/
def MoorSt.init : MoorSt :=
  { stage := .off, lockout := false, retryTimer := false, seatLow := ⟨[]⟩, seatConfirmed := ⟨[]⟩,
    wiring := none, trips := 0, tripTimes := [], lastTrip := 0, killed := true, gate := false, vset := 0,
    disch := false, feed := none, feedGood := 0, bbm := none, curve := ⟨[]⟩, conns := ⟨[]⟩,
    transition := none, downReq := none, lineErrors := 0, holdOff := false, unseatedTimer := false }

/-- Reset value of `Slot` (logs 2 and 3 where the spec gives none). -/
def Slot.init : Slot :=
  { state := .empty, usage := 0, usesLeft := 0, expire := false, masked := 0, mask := 0, check := 0,
    publicKey := [] }

/-- Reset value of `PairKey` (logs 2 and 3 where the spec gives none). -/
def PairKey.init : PairKey :=
  { target := 0, txSlot := 0, rxSlot := 0, txKey := 0, txMask := 0, rxKey := 0, rxMask := 0, txSalt := 0,
    rxSalt := 0, txCounter := 0 }

/-- Reset value of `CrcChan` (logs 2 and 3 where the spec gives none). -/
def CrcChan.init : CrcChan :=
  { cfg := 32, poly := 0, initial := 0, value := 0 }

/-- Reset value of `SecSt` (logs 2 and 3 where the spec gives none). -/
def SecSt.init : SecSt :=
  { fuses := ⟨[]⟩, latched := ⟨[]⟩, slots := ⟨[]⟩, pairKeys := ⟨[]⟩, exchange := [], trng := .startup,
    startedUp := false, ecc := [], chans := ⟨[]⟩ }

/-- Reset value of `DomSt` (logs 2 and 3 where the spec gives none). -/
def DomSt.init : DomSt :=
  { state := .off, target := none, force := false, command := none, cold := false, padsHeld := false,
    lastRefusal := 0, entries := 0 }

/-- Reset value of `PwrSt` (logs 2 and 3 where the spec gives none). -/
def PwrSt.init : PwrSt :=
  { domains := ⟨[]⟩, powerUps := [], slow := false, droop := false, slowSince := 0, droopTimer := false,
    lastReturn := none, droopCount := 0, freq := .local_, freqOffset := 0, pllLocked := 0, resetCause := 1,
    resetCount := 0, bootEntry := 0, keeperMeasure := [], bootPhase := .porst, fallback := false,
    wdtHalf := false, rstoutN := false, xtalStopped := false, coreLow := false, chainReset := false,
    flash := ⟨[]⟩, flashOps := [] }

/-- Reset value of `SnapBank` (logs 2 and 3 where the spec gives none). -/
def SnapBank.init : SnapBank :=
  { seq := 0, clock := 0, values := [], pendingAt := none, command := none, latchedHi := 0,
    entryHi := ⟨[]⟩ }

/-- Reset value of `ObsSt` (logs 2 and 3 where the spec gives none). -/
def ObsSt.init : ObsSt :=
  { cntHi := ⟨[]⟩, banks := ⟨[]⟩, reached := ⟨[]⟩, unlocked := false, nonce := none, failedAt := none,
    jtag := .bypass, boundary := [] }

end Sys2Proof.Machine
end

