-- ==== Sys2Proof/Machine/State/Links.lean ====
section
/-!
DEFINITION. State of the coupling lanes and the pair link (chapter 03) and of the Abanda link transport
(chapter 04). Ports and links are numbered 0 CPA, 1 CPB, 2 PLK; lanes 0, 1 belong to CPA, 2, 3 to CPB, 4 to PLK.
-/

namespace Sys2Proof.Machine

/-- The port states of R86. -/
inductive PortState where
  | off | waiting | training | linked | stepping | failed
  deriving DecidableEq, Repr

/-- The lane states of R87. -/
inductive LaneState where
  | idle | locking | equalising | ready | inService | dropped | unusable | pattern
  deriving DecidableEq, Repr

/-- A coupling port or the pair link (chapter 03). -/
structure PortSt where
  state : PortState
  /-- Rate code of the round or of service: 0 12.5, 1 6.25, 2 3.125 Gbaud (R68). -/
  rate : Nat
  /-- The hub leads the port (R75). -/
  leader : Bool
  /-- TRAIN_LIMIT of the round is running (R77, R78). -/
  roundTimer : Bool
  /-- Signal was detected on a lane in this round (R78). -/
  signalSeen : Bool
  /-- The 100 µs of electrical idle between rounds run (R78). -/
  inGap : Bool
  /-- LINK_HOLD is running (R98). -/
  holdTimer : Bool
  /-- In the first round of a training (R77); counts as STEPPING until LINKED (R78, R135, R195). -/
  firstRound : Bool
  stepped : Bool
  /-- RATE_FLOOR, TX_PRESET_INIT and LEAD_OVERRIDE as the last entry to TRAINING or STEPPING found them (R104). -/
  floorInForce : Nat
  presetInForce : Nat
  leadInForce : Nat
  /-- A LEADER or pairing fault that ended the present training's last round, as LAST_FAIL codes it; 0 none. -/
  roundFail : Nat
  /-- PORT_RETRY_PERIOD is running (R86). -/
  retryTimer : Bool
  /-- LAST_FAIL (R104). -/
  lastFail : Nat
  /-- The rate at which the port was last LINKED, for PORT_RATE_CHANGED; 3 none. -/
  lastRate : Nat
  /-- The command channel whose PORT_RETRAIN or PORT_RATE_STEP runs (R107). -/
  command : Option Nat
  deriving DecidableEq, Repr

/-- A pattern checker while it runs (R100): the last bits received, newest first, as far as the pattern needs them; how many
consecutive bits were right, or at each alignment of the user pattern matched; and, locked, where the user pattern stands and which of the
last 256 bits were in error, newest first. -/
structure Checker where
  window : List Bool
  run : Nat
  phase : Nat
  recent : List Bool
  deriving DecidableEq, Repr

/-- A checker that has seen no bit. -/
def Checker.init : Checker := { window := [], run := 0, phase := 0, recent := [] }

/-- One lane (chapter 03): state, detectors, equalisation and the training hand-shake. -/
structure LaneSt where
  state : LaneState
  /-- Logical and physical lane numbers differ (R80). -/
  swap : Bool
  polInv : Bool
  rxQuiet : Bool
  txQuiet : Bool
  los : Bool
  lol : Bool
  /-- Block alignment is held. -/
  aligned : Bool
  txMain : Nat
  txPost : Nat
  txPre : Nat
  ctle : Nat
  dfe : List Int
  eyeWidth : Nat
  eyeHeight : Nat
  /-- RX_READY and UNUSABLE of this receiver, and of the far one (R80, R81). -/
  rxReady : Bool
  ownUnusable : Bool
  farReady : Bool
  farUnusable : Bool
  /-- LANE of the last valid training block received (R80). -/
  farLane : Option Nat
  /-- The coefficient request outstanding toward the far transmitter, and how often it was repeated (R82). -/
  request : Option (Nat × Nat)
  reqToggle : Bool
  ackToggle : Bool
  /-- PRE_STATUS and POST_STATUS of the last far request acted on (R82). -/
  preStatus : Nat
  postStatus : Nat
  /-- Coefficient requests made in the round (R82). -/
  requests : Nat
  retries : Nat
  /-- GO blocks received on this lane (R83). -/
  goReceived : Nat
  /-- GO is being sent on this lane (R83). -/
  goSent : Bool
  /-- A retrain attempt of a dropped lane runs (R96), and the channel of its LANE_REJOIN command. -/
  rejoining : Bool
  rejoinCommand : Option Nat
  /-- REJOIN_HOLD is running (R96). -/
  rejoinHold : Bool
  /-- The one second to the next attempt is running (R96). -/
  rejoinTimer : Bool
  /-- PAT_INJECT asked for errors not yet sent: bits to invert (R102), and CLOCK once the last of them is sent. -/
  inject : Nat
  injectEnd : Nat
  /-- PAT_ERRCNT, CHK_SAT and CHK_LOCK (R100). -/
  errCount : Nat
  chkSat : Bool
  chkLock : Bool
  /-- What the pattern checker holds of the bits received (R100). -/
  checker : Checker
  /-- Lane-layer blocks ignored for a CRC that failed (R74). -/
  blockCrc : Nat
  deriving DecidableEq, Repr

/-- Coupling lanes and the pair link (chapter 03). -/
structure LanesSt where
  ports : Tab PortSt
  lanes : Tab LaneSt
  deriving DecidableEq, Repr

/-- The link states of R133. -/
inductive LinkState where
  | down | init | running | held | refused
  deriving DecidableEq, Repr

/-- A word of the switch buffer with its descriptor (R242): the context (256 + p for the SYSTEM tunnel of link p), the class, the account
it is charged to (none for a cell that names no tunnel), the cell, and the damaged bits of the word and of the descriptor (R261). The next
word of its queue is the next entry of the list that it stands in. -/
structure BufCell where
  ctx : Nat
  cls : Nat
  account : Option Nat
  cell : Cell
  damage : Nat
  descDamage : Nat
  deriving DecidableEq, Repr

/-- A group of cells: its sequence, the lane of its last transmission, its cells, how often it was replayed in a
row (R114, R118, R119). -/
structure Group where
  seq : Nat
  lane : Nat
  cells : List BufCell
  replays : Nat
  deriving DecidableEq, Repr

/-- The link transport of a port (chapter 04). -/
structure LinkSt where
  state : LinkState
  /-- Pages received from the far end in INIT (R134). -/
  farMode : Option Nat
  farDepth : Nat
  farChain : Nat
  farSerial : Option (BitVec 64)
  /-- Which page is sent next (R134). -/
  nextPage : Nat
  /-- This end sent ACCEPT, received ACCEPT, received the INIT credit (R134). -/
  acceptSent : Bool
  acceptRcvd : Bool
  initCredit : Bool
  /-- INIT_TIMEOUT is running at the upstream end (R133). -/
  initTimer : Bool
  lastDown : Nat
  refuseReason : Nat
  /-- TX_NEXT, RX_NEXT and the last ACK_SEQ received (R114, R116, R117). -/
  txNext : Nat
  rxNext : Nat
  acked : Nat
  /-- The replay buffer, oldest first (R118), and the groups of it that wait to be resent. -/
  replay : List Group
  resend : List Nat
  /-- The open group of each lane (R114). -/
  openGroups : List Group
  /-- Good groups ahead of RX_NEXT (R116). -/
  heldGroups : List Group
  /-- A NAK is due, and the receiver discards every group but RX_NEXT (R117). -/
  nakDue : Bool
  awaiting : Bool
  /-- CLOCK at which the NAK for the present RX_NEXT was last sent (R117). -/
  nakAt : Option Nat
  /-- Groups delivered and not acknowledged yet (R120). -/
  unacked : Nat
  /-- SENT_c and LIMIT_c of the transmitter, per class (R125). -/
  sent : Tab Nat
  limit : Tab Nat
  /-- Cells freed per class and the LIMIT_c last sent, of the receiver (R125). -/
  freed : Tab Nat
  limitSent : Tab Nat
  /-- The next CREDIT block has INIT set (R125). -/
  creditInit : Bool
  /-- A superframe start is the next block 0, and the alignment is held (R129). -/
  aligned : Bool
  /-- Lanes that start carrying traffic at the next superframe boundary (R131). -/
  joining : List Nat
  /-- The hub's own STATE of the SYSTEM tunnel on this link (R141, R176). -/
  sysOpen : Bool
  /-- Control blocks ignored for CRC and for an unknown type (R121, R122). -/
  ctrlCrc : Nat
  ctrlUnknown : Nat
  /-- DELAY_PROBE and MOORING_RELAY blocks sent in this superframe, and those deferred to the next, with their lanes (R124). -/
  paced : Nat
  deferred : List (Nat × Bytes)
  /-- Page 1 of LINK_INIT with RESUME has come with the far SERIAL as it was (R133). -/
  serialSeen : Bool
  deriving DecidableEq, Repr

/-- A fog signal on its way out: the links still to send it on, and the copies left (R126). -/
structure FogCopy where
  fog : FogSignal
  link : Nat
  copies : Nat
  deriving DecidableEq, Repr

/-- All links (chapter 04). -/
structure LinksSt where
  links : Tab LinkSt
  /-- The superframe count (R129), one for the hub. -/
  sf : Nat
  /-- FOG_SEQ of the next own fog signal (R126). -/
  fogSeq : Nat
  /-- The last 16 (ORIGIN, FOG_SEQ) pairs seen, newest first (R126). -/
  fogSeen : List (BitVec 48 × Byte)
  fogCopies : List FogCopy
  /-- Reserved fog signals discarded (R126). -/
  fogReserved : Nat
  /-- HOP_DEPTH (R17). -/
  hopDepth : Nat
  /-- CHAIN_COUNT (R17). -/
  chainCount : Nat
  /-- An upstream hub refused the link since FOG_DEADLINE started (R21): cause 4 at its expiry (R27). -/
  turnedAway : Bool
  deriving DecidableEq, Repr

/-- Reset value of `PortSt` (logs 2 and 3 where the spec gives none). -/
def PortSt.init : PortSt :=
  { state := .off, rate := 0, leader := false, roundTimer := false, signalSeen := false, inGap := false,
    holdTimer := false, firstRound := false, stepped := false, floorInForce := 0, presetInForce := 0,
    leadInForce := 0, roundFail := 0, retryTimer := false, lastFail := 0, lastRate := 3, command := none }

/-- Reset value of `LaneSt` (logs 2 and 3 where the spec gives none). -/
def LaneSt.init : LaneSt :=
  { state := .idle, swap := false, polInv := false, rxQuiet := false, txQuiet := false, los := true,
    lol := false, aligned := false, txMain := 45, txPost := 18, txPre := 0, ctle := 0, dfe := [],
    eyeWidth := 0, eyeHeight := 0, rxReady := false, ownUnusable := false, farReady := false,
    farUnusable := false, farLane := none, request := none, reqToggle := false, ackToggle := false,
    preStatus := 0, postStatus := 0, requests := 0, retries := 0, goReceived := 0, goSent := false,
    rejoining := false, rejoinCommand := none, rejoinHold := false, rejoinTimer := false, inject := 0, injectEnd := 0, blockCrc := 0, checker := Checker.init,
    errCount := 0, chkSat := false, chkLock := false }

/-- Reset value of `LanesSt` (logs 2 and 3 where the spec gives none). -/
def LanesSt.init : LanesSt :=
  { ports := ⟨[]⟩, lanes := ⟨[]⟩ }

/-- Reset value of `LinkSt` (logs 2 and 3 where the spec gives none). -/
def LinkSt.init : LinkSt :=
  { state := .down, farMode := none, farDepth := 0, farChain := 0, farSerial := none, nextPage := 0,
    acceptSent := false, acceptRcvd := false, initCredit := false, initTimer := false, lastDown := 0,
    refuseReason := 0, txNext := 0, rxNext := 0, acked := 0xFFFF, replay := [], resend := [], openGroups := [],
    heldGroups := [], nakDue := false, awaiting := false, nakAt := none, unacked := 0, sent := ⟨[]⟩,
    limit := ⟨[]⟩, freed := ⟨[]⟩, limitSent := ⟨[]⟩, creditInit := false, aligned := false, joining := [],
    sysOpen := false, ctrlCrc := 0, ctrlUnknown := 0, paced := 0, deferred := [], serialSeen := false }

/-- Reset value of `LinksSt` (logs 2 and 3 where the spec gives none). -/
def LinksSt.init : LinksSt :=
  { links := ⟨[]⟩, sf := 0, fogSeq := 0, fogSeen := [], fogCopies := [], fogReserved := 0, hopDepth := 0,
    chainCount := 1, turnedAway := false }

end Sys2Proof.Machine
end

