-- ==== Sys2Proof/Machine/State/Tunnels.lean ====
section
/-!
DEFINITION. State of the tunnels (chapter 05), of the allotment plans and meters (chapter 06), of the Tenders
(chapter 07) and of the switch core (chapter 08).
-/

namespace Sys2Proof.Machine

/-- Tunnel states of R155 and R175; `free` is code 0xFF. -/
inductive TunState where
  | closed | opening | open | draining | faulted | free
  deriving DecidableEq, Repr

/-- Roles of a context (R141). -/
inductive TunRole where
  | opener | responder | transit
  deriving DecidableEq, Repr

/-- Something that a queue, a Tender or a binding carries: a whole segment's bytes. -/
structure Segment where
  data : Bytes
  yellow : Bool
  deriving DecidableEq, Repr

/-- A tunnel context (R141 to R175). The record entries of R175 are views of it. -/
structure Ctx where
  state : TunState
  role : TunRole
  kind : Nat
  cls : Nat
  /-- DIRECTION as seen from this end: 0 both, 1 send only, 2 receive only (R175). -/
  direction : Nat
  isSealed : Bool
  maxSeg : Nat
  /-- The larger MAX_SEG a receiver still accepts until MODIFY_ACK has passed (R171). -/
  maxSegOld : Nat
  localBind : Nat
  farBind : Nat
  farTarget : Nat
  farHandle : Nat
  /-- The opener's handle, as messages carry it (R157). -/
  openerHandle : Nat
  responderHandle : Nat
  /-- Ports toward the ends: A toward the far end or upstream, B downstream of a transit (R175). -/
  portA : Nat
  indexA : Nat
  portB : Nat
  indexB : Nat
  /-- HOP_INDEX recorded for the neighbour on the opener's side and on the responder's side (R159). -/
  peerOpener : Nat
  peerResponder : Nat
  /-- Port toward the opener of a responder or transit, and toward the responder. -/
  towardOpener : Nat
  towardResponder : Nat
  /-- Hop distances to the opener and to the responder, and TOTAL_HOPS (R157, R159). -/
  hopsOpener : Nat
  hopsResponder : Nat
  totalHops : Nat
  faultCause : Nat
  faultStatus : Nat
  drainLimit : Nat
  openTimeout : Nat
  autoReopen : Bool
  tag : Nat
  segTx : Nat
  segRx : Nat
  bytesTx : Nat
  bytesRx : Nat
  segDiscard : Nat
  tseqFaults : Nat
  ingressDiscard : Nat
  drainDiscard : Nat
  openCount : Nat
  lastChange : Nat
  /-- OPEN_TIMEOUT running for OPENING or for MODIFY_ACK (R160, R171); DRAIN_LIMIT running (R164). -/
  openTimer : Bool
  drainTimer : Bool
  /-- RESP_FAULT_HOLD running (R169); REOPEN_DELAY running (R170). -/
  holdTimer : Bool
  reopenTimer : Bool
  /-- A MODIFY_ACK is awaited (R171). -/
  modifying : Bool
  /-- The command channel whose TUNNEL_OPEN, TUNNEL_CLOSE or TUNNEL_MODIFY runs on it (R62). -/
  command : Option Nat
  /-- Cells handed to the link and received since OPEN; CELLS_SENT of the far end once known (R158, R164). -/
  cellsSent : Nat
  cellsRcvd : Nat
  farSent : Option Nat
  /-- Transit: cells forwarded down and up since OPEN, and the CELLS_SENT each closing message gave (R164). -/
  fwdDown : Nat
  fwdUp : Nat
  sentDown : Option Nat
  sentUp : Option Nat
  /-- This end has sent its CLOSE_REQ or CLOSE_ACK; the message it owes is the CLOSE_ACK (R164). -/
  closeSent : Bool
  closeReply : Bool
  /-- TSEQ of the next cell to send, and the one expected (R152, R154). -/
  txTseq : Nat
  rxTseq : Nat
  /-- The cells gathered for the next decapsulation job, and the TSEQ of those discarded at gathering since the last job (R153, R214). -/
  rxOpen : List BufCell
  rxSkipped : List Nat
  /-- RATES of R158, per plan: toward the responder and toward the opener. -/
  rates : List (Nat × Nat)
  /-- Consecutive sealed-segment discards, and the last COUNTER accepted since OPEN (R517). -/
  sealFails : Nat
  sealLast : Option Nat
  /-- LAST of the alive check has been forgotten (R522). -/
  aliveFresh : Bool
  /-- Shadow context of a STANDBY (R450). -/
  shadow : Bool
  /-- A class change waits until no cell is queued in the old class (R171). -/
  newClass : Option Nat
  /-- The pair-key record of a SEALED tunnel plus 1; 0 none (R516). -/
  sealKey : Nat
  deriving DecidableEq, Repr

/-- Tunnel state of the hub (chapter 05). -/
structure TunSt where
  /-- Allocated contexts; a free one is not listed. -/
  ctxs : Tab Ctx
  /-- GEN of each context's last handle; 0 for the value that the last reset loaded, number `genBase` + index of those drawn (R142). -/
  gens : Tab Nat
  genBase : Nat
  /-- Upstream maps: key 256 * port + far index, value local context index, 0 none (R150). -/
  upMap : Tab Nat
  /-- TUNNEL_FAULTED bits of R177, W1C, one per context. -/
  faulted : Tab Nat
  /-- Tunnel messages that matched no context (R159). -/
  unmatched : Nat
  deriving DecidableEq, Repr

/-- The token buckets of a context's meter (R184 to R186), in units of 1/1,250,000 byte, so that a rate unit fills one per
0.1 ns; and the CLOCK of the last fill. -/
structure Meter where
  tc : Nat
  tp : Nat
  last : Nat
  deriving DecidableEq, Repr

/-- Queues and rounds of one egress (R181 to R183). -/
structure Egress where
  /-- Queued cells, in order of arrival. -/
  queue : List BufCell
  /-- Key 8 * round + class, round 0 committed, 1 excess: the deficit in cells, and the context served last plus 1. -/
  deficit : Tab Nat
  lastCtx : Tab Nat
  /-- Class in hand of each round. -/
  current : Tab Nat
  deriving DecidableEq, Repr

/-- Colour-blind windows, plan switching, meters and admission (chapter 06). -/
structure PlanSt where
  activePlan : Nat
  /-- The switch armed: plan, EFFECTIVE_SF, SWITCH_SEQ (R201). -/
  pending : Option (Nat × Nat × Nat)
  /-- Further switches armed behind it, in order, in the same form (R201). -/
  armedNext : List (Nat × Nat × Nat)
  /-- The armed switch is past its EFFECTIVE_SF and applies at the next boundary (R203): the superframe in which that was found. -/
  late : Option Nat
  /-- SWITCH_SEQ and EFFECTIVE_SF of the last switch armed, and the root's ORIGIN as the last STATUS or ANNOUNCE gave it (R201). -/
  lastArmed : Option (Nat × Nat)
  rootOrigin : Nat
  /-- SWITCH_SEQ, LAST_SWITCH_SF, LAST_ACKS (R205). -/
  switchSeq : Nat
  lastSwitchSf : Nat
  lastAcks : Nat
  /-- Origins that acknowledged the switch in progress (R201). -/
  acks : List (BitVec 48)
  /-- ANNOUNCE copies left to send at the root (R201). -/
  announceLeft : Nat
  /-- The channel of a PLAN_SWITCH command that runs, and those of METER_COLOUR commands that end at the boundary. -/
  command : Option Nat
  colourCommands : List (Nat × Nat)
  /-- STARTUP is open, and the superframe boundary its BLIND_HOLD counts from once it counts (R189). -/
  startup : Bool
  startupFrom : Option Nat
  /-- The first boundary at or after the start of the windows SWAP and RETRAIN per port (plus 1; 0 closed); FORCE (R189). -/
  swapWindow : Option Nat
  retrain : Tab Nat
  force : Bool
  /-- BLIND_REASONS and RETRAIN_BLIND in force since the last superframe boundary (R190). -/
  reasonsInForce : Nat
  retrainInForce : Nat
  /-- Values still in force of entries of the active plan and of COLOUR_MODE written since the boundary (R190, R197). -/
  deferred : List (Nat × Nat)
  /-- HUBS of the last COUNT block of each link (R201). -/
  hubs : Tab Nat
  meters : Tab Meter
  egresses : Tab Egress
  /-- Nominal rate of each egress in kbit/s, as it last changed (R179, R195). -/
  nominal : Tab Nat
  /-- Egresses whose G has risen since the last superframe boundary (R194). -/
  risen : List Nat
  /-- Demoted contexts in order of demotion, key 8 * egress + plan (R193). -/
  demoted : Tab (List Nat)
  /-- Counted contexts, in the order in which they passed the admission check (R193). -/
  admitted : List Nat
  deriving DecidableEq, Repr

/-- States of a job slot (R214). -/
inductive JobState where
  | pending | running | done | held
  deriving DecidableEq, Repr

/-- One Tender job (R213, R216): a segment of a context in one direction, its ticket and its TSEQ range. -/
structure Job where
  /-- 256 + p for the SYSTEM tunnel of link p. -/
  ctx : Nat
  /-- CLASS in which it was taken into staging, or is charged as cells. -/
  cls : Nat
  handle : Nat
  /-- Encapsulation, from a local binding toward the link. -/
  encap : Bool
  ticket : Nat
  tseq : Nat
  cells : List BufCell
  /-- TSEQ of the cells discarded at gathering before its own (R154, R214). -/
  skipped : List Nat
  /-- Words charged at dispatch for the cells of an encapsulation. -/
  words : Nat
  seg : Segment
  /-- Ingress whose input quota and shared-pool account an encapsulation takes; the egress whose output quota a decapsulation takes, 32
  for none. -/
  ingress : Nat
  state : JobState
  pinned : Bool
  /-- Fences with cause 1 to 4 at which the job has been running (R225). -/
  fences : Nat
  /-- RUNNING when its tunnel went: discarded when it ends (R227). -/
  poisoned : Bool
  /-- Damaged bits of its staging word (R261). -/
  damage : Nat
  deriving DecidableEq, Repr

/-- A microcode image that has passed R231: VERSION, the SHA-256 measurement of its body, and the body (R230). -/
structure Image where
  version : Nat
  measure : Bytes
  body : Bytes
  deriving DecidableEq, Repr

/-- The microcode store of a cluster (R211): its contents from word 0, and the measurement that they give. -/
structure Store where
  body : Bytes
  measure : Bytes
  deriving DecidableEq, Repr

/-- What the barrier counter of ENGINE_BARRIER and Keeper is armed for (R228): the command of a channel, an engine fence, a reload. -/
inductive BarrierUse where
  | command (c : Nat)
  | fence
  | reload
  deriving DecidableEq, Repr

/-- A Tender (chapter 07). -/
structure Tender where
  jobs : List Job
  /-- Its 4 KiB of local data RAM, by address (R211): microcode's own, 0 after the clearing of R226. -/
  ram : Tab Nat
  fenced : Bool
  fenceCause : Nat
  fenceHandle : Nat
  jobsRun : Nat
  stolenIn : Nat
  stolenOut : Nat
  deriving DecidableEq, Repr

/-- A barrier counter of R228: how many jobs it still waits for, how many it waited for, when it was armed. -/
structure Barrier where
  waiting : List (Nat × Bool × Nat)
  jobs : Nat
  armedAt : Nat
  deriving DecidableEq, Repr

/-- Tender engines (chapter 07). -/
structure EngSt where
  tenders : Tab Tender
  /-- Key 2 * context + direction: home Tender plus 1, tickets issued, tickets committed (R215 to R217). -/
  home : Tab Nat
  issue : Tab Nat
  commit : Tab Nat
  /-- Segments waiting for space and a slot, oldest first (R216). -/
  waiting : List Job
  /-- Segments whose producers wait until the input quota has room, in order (R248). -/
  atProducer : List Job
  /-- PIN_A, PIN_B and PIN_EXCLUSIVE in use (R220, R234). -/
  pinA : Nat
  pinB : Nat
  exclusive : Bool
  /-- The engine fence: raised, in force (its limit runs), the command that raises it (R229). -/
  fenceRaised : Bool
  fenceTimer : Bool
  fenceCommand : Option Nat
  /-- The channel of an ENGINE_RELOAD that runs, and the image it has checked (R238). -/
  reloading : Option Nat
  reloadImage : Option Image
  /-- The barrier counter of the register, and that of ENGINE_BARRIER and Keeper with what it is armed for and what waits for it (R228). -/
  regBarrier : Option Barrier
  regDone : Bool
  keepBarrier : Option Barrier
  keepUses : List BarrierUse
  /-- VERSION and measurement of the loaded image, the verified image kept for reload, and the clusters' stores (R211, R230 to R233). -/
  mcVersion : Nat
  mcMeasure : Bytes
  verified : Option Image
  stores : Tab Store
  short : Bool
  deriving DecidableEq, Repr

/-- The conditions that hold a local ingress in a class (R247): the ingress limit and the class staging. -/
structure HoldSet where
  xoff : Bool
  staging : Bool
  deriving DecidableEq, Repr

/-- A classification entry of R251. -/
structure ClsEntry where
  valid : Bool
  bytes : Bytes
  deriving DecidableEq, Repr

/-- A mirror session's running state (R256 to R259): a copy has been skipped since the last one; the cell copies of the
open frame, whether one is YELLOW, and the time of the first. -/
structure MirrorSt where
  skipRun : Bool
  cells : Bytes
  count : Nat
  yellow : Bool
  deriving DecidableEq, Repr

/-- A mirror copy in a ninth queue (R257): the DEST it was made for, its session, its frame, the words it takes of MIRROR_POOL, and the
copies it carries. -/
structure MirrorCopy where
  dest : Nat
  session : Nat
  frame : Bytes
  words : Nat
  copies : Nat
  deriving DecidableEq, Repr

/-- Switch core and buffers (chapter 08). -/
structure SwSt where
  /-- Cells held per account of R244, by account number. -/
  accounts : Tab Nat
  /-- LINK_ALLOT in force per port and class, key 8 * p + c (R244). -/
  allotInForce : Tab Nat
  /-- Holds per ingress and class, key 8 * i + c, and the quota-full hold per ingress (R247). -/
  holds : Tab HoldSet
  quotaFull : Tab Nat
  poolLow : Bool
  /-- Bytes used of the staging quotas per ingress, and of the input quota per class, key 8 * i + c (R246, R247). -/
  stageIn : Tab Nat
  stageOut : Tab Nat
  stageClass : Tab Nat
  /-- Priorities paused by received PFC frames, per ETH port, and those this hub has paused (R250). -/
  paused : Tab Nat
  pfcSent : Tab Nat
  /-- PFC frames ignored with PFC_ENABLE at 0, and PAUSE frames (R250), per port. -/
  pfcIgnored : Tab Nat
  cls : Tab ClsEntry
  mirrors : Tab MirrorSt
  /-- The ninth queues, oldest first (R257). -/
  mirrorQ : List MirrorCopy
  /-- Cells of the switch buffer whose stored word is damaged, and the other injections armed: region and bits (R271). -/
  inject : List (Nat × Nat)
  /-- Damaged words: region, address or word number, bits (R261). -/
  damaged : List (Nat × Nat × Nat)
  ceThisSecond : Nat
  ceSecond : Nat
  sweep : Bool
  ueAddr : Nat
  ueInfo : Nat
  deriving DecidableEq, Repr

/-- Reset value of `Ctx` (logs 2 and 3 where the spec gives none). -/
def Ctx.init : Ctx :=
  { state := .free, role := .opener, kind := 0, cls := 0, direction := 0, isSealed := false, maxSeg := 0,
    maxSegOld := 0, localBind := 0, farBind := 0, farTarget := 0, farHandle := 0, openerHandle := 0,
    responderHandle := 0, portA := 0, indexA := 0, portB := 0, indexB := 0, peerOpener := 0,
    peerResponder := 0, towardOpener := 0, towardResponder := 0, hopsOpener := 0, hopsResponder := 0,
    totalHops := 0, faultCause := 0, faultStatus := 0, drainLimit := 0, openTimeout := 0,
    autoReopen := false, tag := 0, segTx := 0, segRx := 0, bytesTx := 0, bytesRx := 0, segDiscard := 0,
    tseqFaults := 0, ingressDiscard := 0, drainDiscard := 0, openCount := 0, lastChange := 0,
    openTimer := false, drainTimer := false, holdTimer := false, reopenTimer := false, modifying := false,
    command := none, cellsSent := 0, cellsRcvd := 0, farSent := none, fwdDown := 0, fwdUp := 0,
    sentDown := none, sentUp := none, closeSent := false, closeReply := false, txTseq := 0, rxTseq := 0,
    rxOpen := [], rxSkipped := [], rates := [], sealFails := 0, sealLast := none, aliveFresh := true, shadow := false,
    newClass := none, sealKey := 0 }

/-- Reset value of `TunSt` (logs 2 and 3 where the spec gives none). -/
def TunSt.init : TunSt :=
  { ctxs := ⟨[]⟩, gens := ⟨[]⟩, genBase := 0, upMap := ⟨[]⟩, faulted := ⟨[]⟩, unmatched := 0 }

/-- Reset value of `Meter` (logs 2 and 3 where the spec gives none). -/
def Meter.init : Meter :=
  { tc := 0, tp := 0, last := 0 }

/-- Reset value of `Egress` (logs 2 and 3 where the spec gives none). -/
def Egress.init : Egress :=
  { queue := [], deficit := ⟨[]⟩, lastCtx := ⟨[]⟩, current := ⟨[]⟩ }

/-- Reset value of `PlanSt` (logs 2 and 3 where the spec gives none). -/
def PlanSt.init : PlanSt :=
  { activePlan := 0, pending := none, armedNext := [], late := none, lastArmed := none, rootOrigin := 0, switchSeq := 0,
    lastSwitchSf := 0, lastAcks := 0, acks := [], announceLeft := 0, command := none, colourCommands := [],
    startup := true, startupFrom := none, swapWindow := none, retrain := ⟨[]⟩, force := false,
    reasonsInForce := 1, retrainInForce := 0, deferred := [], hubs := ⟨[]⟩, meters := ⟨[]⟩,
    egresses := ⟨[]⟩, nominal := ⟨[]⟩, risen := [], demoted := ⟨[]⟩, admitted := [] }

/-- A store that nothing has been written to. -/
def Store.init : Store := { body := [], measure := [] }

/-- Reset value of `Tender` (logs 2 and 3 where the spec gives none). -/
def Tender.init : Tender :=
  { jobs := [], ram := ⟨[]⟩, fenced := false, fenceCause := 0, fenceHandle := 0, jobsRun := 0, stolenIn := 0,
    stolenOut := 0 }

/-- Reset value of `EngSt` (logs 2 and 3 where the spec gives none). -/
def EngSt.init : EngSt :=
  { tenders := ⟨[]⟩, home := ⟨[]⟩, issue := ⟨[]⟩, commit := ⟨[]⟩, waiting := [], atProducer := [], pinA := 0, pinB := 8,
    exclusive := false, fenceRaised := false, fenceTimer := false, fenceCommand := none,
    reloading := none, reloadImage := none, regBarrier := none, regDone := false, keepBarrier := none, keepUses := [],
    mcVersion := 0, mcMeasure := [], verified := none, stores := ⟨[]⟩, short := false }

/-- Reset value of `HoldSet` (logs 2 and 3 where the spec gives none). -/
def HoldSet.init : HoldSet :=
  { xoff := false, staging := false }

/-- Reset value of `ClsEntry` (logs 2 and 3 where the spec gives none). -/
def ClsEntry.init : ClsEntry :=
  { valid := false, bytes := [] }

/-- Reset value of `MirrorSt` (logs 2 and 3 where the spec gives none). -/
def MirrorSt.init : MirrorSt :=
  { skipRun := false, cells := [], count := 0, yellow := false }

/-- Reset value of `SwSt` (logs 2 and 3 where the spec gives none). -/
def SwSt.init : SwSt :=
  { accounts := ⟨[]⟩, allotInForce := ⟨[]⟩, holds := ⟨[]⟩, quotaFull := ⟨[]⟩, poolLow := false,
    stageIn := ⟨[]⟩, stageOut := ⟨[]⟩, stageClass := ⟨[]⟩, paused := ⟨[]⟩, pfcSent := ⟨[]⟩,
    pfcIgnored := ⟨[]⟩, cls := ⟨[]⟩, mirrors := ⟨[]⟩, mirrorQ := [], inject := [], damaged := [],
    ceThisSecond := 0, ceSecond := 0, sweep := false, ueAddr := 0, ueInfo := 15 }

end Sys2Proof.Machine
end

