-- ==== Sys2Proof/Machine/State.lean ====
section
/-!
DEFINITION. The state of the block: every piece of state the spec gives the hub, the queue of waiting commands, and the
state at reset (log 1). What the hub sends, answers and signals is kept in `out`, newest first (log 6).
-/

namespace Sys2Proof.Machine

/-- Reasons to stop with a fault. No meaning of this model raises one: the spec gives every command an effect. -/
inductive Fault where
  /-- Raised by no meaning; kept so that the type is not empty. Safe: it only stops. -/
  | noSuchAccess
  deriving DecidableEq, Repr

/-- Reasons to refuse a command. -/
inductive Refusal where
  /-- Raised by a dispatch arm whose command has no meaning yet. Safe: it only stops. -/
  | notModelled (mnemonic : String)
  deriving DecidableEq, Repr

/-- Pins and lines that the hub drives, where a rule says that it drives them. -/
inductive Line where
  | rstoutN | faultN | evtN | keeperIrq | gateKillN | gateCtl | moorVset | moorDisch | feedSel (feed : Nat)
  | lamp (lamp : Nat) | obs | canTx (port : Nat) | rts (port : Nat) | hsic (port : Nat)
  deriving DecidableEq, Repr

/-- What the hub gives to the outside, as the rules name it. -/
inductive Out where
  /-- A dictionary access ends: its path, abort code (0 success) and data read. -/
  | answer (path : Path) (status : Nat) (data : Bytes)
  /-- A CAN frame leaves on a port, ODAP responses included. -/
  | can (port : Nat) (frame : CanFrame)
  /-- A lane-layer block leaves some times over: its sixteen bytes (R73, R74, R76). -/
  | laneBlock (lane : Nat) (data : Bytes) (times : Nat)
  /-- The generator of a lane starts or stops to send the pattern that PATTERN names, raw (R99, R101); the next bits that a lane sends are
  inverted (R102). -/
  | pattern (lane : Nat) (on : Bool) (sel : Nat)
  | inverted (lane : Nat) (count : Nat)
  /-- A control block of the link transport leaves on a lane of a link: its sixteen bytes (R121, R122). -/
  | block (link : Nat) (lane : Nat) (data : Bytes)
  /-- A group leaves on a lane of a link: its cells, then the sixteen bytes of its tally (R114, R115). -/
  | group (link : Nat) (lane : Nat) (cells : List Cell) (tally : Bytes)
  | sys (link : Nat) (msg : SysMsg)
  | tun (link : Nat) (msg : TunMsg)
  /-- A pair, key or other message of the SYSTEM tunnel, by its OP code and DATA. -/
  | sysData (link : Nat) (op : Nat) (data : Bytes)
  /-- A mirror record leaves on PLK, or the acknowledgement of one. -/
  | mirror (seq : Nat) (record : MirrorRec)
  | mirrorAck (seq : Nat)
  /-- A segment is delivered to a local binding: binding and bytes. -/
  | deliver (binding : Nat) (data : Bytes)
  /-- A frame or transfer leaves a local port, by its port code of R148. -/
  | frame (port : Nat) (data : Bytes)
  /-- A USB handshake or data packet: device key, endpoint address, 0 ACK 1 NAK 2 STALL 3 NYET 4 data, data. -/
  | usb (dev : Nat) (ep : Nat) (what : Nat) (data : Bytes)
  /-- A PCI Express completion or request of the hub: 0 memory read request, 1 memory write, 2 completion with data, 3 Unsupported Request,
  4 Completer Abort, 5 Configuration Request Retry Status. -/
  | pcie (kind : Nat) (addr : Nat) (data : Bytes)
  /-- A register read returns a value. -/
  | value (v : Nat)
  | msix (vector : Nat)
  | line (l : Line) (level : Nat)
  /-- A frame leaves on MOOR_LINE: SOF, LEN, the message and its CRC-16 (R481). -/
  | moorLine (data : Bytes)
  /-- A command to the eMMC device, a display, a flash or a serial device, by its port code. -/
  | device (port : Nat) (fields : List Nat) (data : Bytes)
  deriving DecidableEq, Repr

/-- The hub: all its state but the queue of commands. -/
structure Hub where
  /-- CLOCK in units of 0.1 ns (R290). -/
  clock : Nat
  /-- How many free values have been drawn: the model's own field (log 5). -/
  draws : Nat
  /-- What the hub gave to the outside, newest first: the model's own field (log 6). -/
  out : List Out
  /-- Stored values of dictionary entries of a fixed size (R31, R32). -/
  od : Tab Nat
  /-- Stored values of STR and DOMAIN entries. -/
  blob : Tab Bytes
  /-- Stored register words that are no dictionary entries, by address (R9). -/
  regs : Tab Nat
  /-- The 12 MiB of SRAM (R240), in canonical form. -/
  mem : List Host.Cell
  /-- Keeper RAM, where event rings may lie (R537), by address. -/
  kram : Tab Nat
  mode : ModeSt
  ctl : CtlSt
  evt : EvtSt
  lanes : LanesSt
  links : LinksSt
  tun : TunSt
  plan : PlanSt
  eng : EngSt
  sw : SwSt
  bcn : BcnSt
  dm : DmSt
  io : IoSt
  vid : VidSt
  usb : UsbSt
  hb : HbSt
  pair : PairSt
  moor : MoorSt
  sec : SecSt
  pwr : PwrSt
  obs : ObsSt
  deriving DecidableEq, Repr

/-- The state of the block: the hub and the queue of commands that wait, first in, first out. -/
structure State where
  hub : Hub
  pending : List Instr
  deriving DecidableEq, Repr

/-- The hub at power-on reset, PORST_N still low (log 1): every entry and register at its reset value. -/
def Hub.init : Hub :=
  { clock := 0, draws := 256, out := [], od := ⟨[]⟩, blob := ⟨[]⟩, regs := ⟨[]⟩, mem := [], kram := ⟨[]⟩,
    mode := ModeSt.init, ctl := CtlSt.init, evt := EvtSt.init, lanes := LanesSt.init, links := LinksSt.init,
    tun := TunSt.init, plan := PlanSt.init, eng := EngSt.init, sw := SwSt.init, bcn := BcnSt.init, dm := DmSt.init,
    io := IoSt.init, vid := VidSt.init, usb := UsbSt.init, hb := HbSt.init, pair := PairSt.init,
    moor := MoorSt.init, sec := SecSt.init, pwr := PwrSt.init, obs := ObsSt.init }

/-- The state right after reset: no command waits. -/
def State.reset : State := { hub := Hub.init, pending := [] }

end Sys2Proof.Machine
end

