-- ==== Sys2Proof/Machine/Ops.lean ====
section
/-!
DEFINITION. The named operations over the state: tables, memory, dictionary values, register words, outputs, free values.
-/

namespace Sys2Proof.Machine

/-! ### Tables in canonical form -/

/-- The value listed first for a key, or the default. -/
def cellsGet {α : Type} (d : α) : List (Nat × α) → Nat → α
  | [], _ => d
  | (k', v) :: t, k => if k' = k then v else cellsGet d t k

/-- The cells without a key. -/
def cellsErase {α : Type} : List (Nat × α) → Nat → List (Nat × α)
  | [], _ => []
  | (k', v) :: t, k => if k' = k then cellsErase t k else (k', v) :: cellsErase t k

/-- A cell put at its place in rising order. -/
def cellsInsert {α : Type} : List (Nat × α) → Nat → α → List (Nat × α)
  | [], k, v => [(k, v)]
  | (k', v') :: t, k, v => if k < k' then (k, v) :: (k', v') :: t else (k', v') :: cellsInsert t k v

/-- The cells with a key set to a value; a default value is not listed. -/
def cellsSet {α : Type} [DecidableEq α] (d : α) (t : List (Nat × α)) (k : Nat) (v : α) : List (Nat × α) :=
  if v = d then cellsErase t k else cellsInsert (cellsErase t k) k v

/-- Canonical form: keys strictly rising, and no cell holds the default. -/
def cellsWf {α : Type} [DecidableEq α] (d : α) : List (Nat × α) → Bool
  | [] => true
  | (k, v) :: t => decide (v ≠ d) && t.all (fun c => k < c.1) && cellsWf d t

/-- Read a table whose unlisted keys hold `d`. -/
def Tab.get {α : Type} (d : α) (t : Tab α) (k : Nat) : α := cellsGet d t.cells k

/-- Write a table whose unlisted keys hold `d`. -/
def Tab.set {α : Type} [DecidableEq α] (d : α) (t : Tab α) (k : Nat) (v : α) : Tab α := ⟨cellsSet d t.cells k v⟩

/-- Change one value of a table. -/
def Tab.upd {α : Type} [DecidableEq α] (d : α) (t : Tab α) (k : Nat) (f : α → α) : Tab α := t.set d k (f (t.get d k))

/-- The canonical form of a table. -/
def Tab.wf {α : Type} [DecidableEq α] (d : α) (t : Tab α) : Bool := cellsWf d t.cells

/-! ### Memory (R240): 12 MiB of SRAM from 0x2000_0000; an unlisted byte reads 0 (log 9) -/

/-- The first address of an SRAM region and its number of 256-bit words (R240): 0 the switch buffer, 1 the frame store, 2 staging. -/
def sramBase (region : Nat) : Nat := if region = 0 then 0x20000000 else if region = 1 then 0x20400000 else 0x20A00000
def sramWords (region : Nat) : Nat := if region = 0 then 131072 else if region = 1 then 196608 else 65536

/-- Whether an address lies in the SRAM of R240. -/
def inSram (a : Nat) : Bool := [0, 1, 2].any (fun r => decide (sramBase r ≤ a) && decide (a < sramBase r + 32 * sramWords r))

/-- One byte of the SRAM. -/
def Hub.memRead (h : Hub) (a : Nat) : Byte := cellsGet 0 h.mem a

/-- Write one byte of the SRAM. -/
def Hub.memWrite (h : Hub) (a : Nat) (b : Byte) : Hub := { h with mem := cellsSet 0 h.mem a b }

/-- Write bytes from an address up. -/
def Hub.memWriteBytes (h : Hub) (a : Nat) : Bytes → Hub
  | [] => h
  | b :: t => Hub.memWriteBytes (h.memWrite a b) (a + 1) t

/-- Read `n` bytes from an address up. -/
def Hub.memReadBytes (h : Hub) (a : Nat) : Nat → Bytes
  | 0 => []
  | n + 1 => h.memRead a :: Hub.memReadBytes h (a + 1) n

/-- The canonical form of the memory. -/
abbrev Memory.wf (m : List Host.Cell) : Bool := cellsWf (0 : Byte) m

/-! ### Dictionary values, registers, outputs, free values -/

/-- The stored value of a dictionary entry. -/
def Hub.val (h : Hub) (e : Entry) : Nat := h.od.get e.dflt e.key

/-- Store the value of a dictionary entry. -/
def Hub.put (h : Hub) (e : Entry) (v : Nat) : Hub := { h with od := h.od.set e.dflt e.key v }

/-- Add to a dictionary count of `w` bits, which wraps. -/
def Hub.bump (h : Hub) (e : Entry) (w : Nat) (n : Nat) : Hub := h.put e (trunc w (h.val e + n))

/-- The stored value of a STR or DOMAIN entry. -/
def Hub.blobVal (h : Hub) (e : Entry) : Bytes := h.blob.get [] e.key

/-- Store the value of a STR or DOMAIN entry. -/
def Hub.putBlob (h : Hub) (e : Entry) (v : Bytes) : Hub := { h with blob := h.blob.set [] e.key v }

/-- The stored word of a register. -/
def Hub.reg (h : Hub) (e : Entry) : Nat := h.regs.get e.dflt e.key

/-- Store a register word. -/
def Hub.putReg (h : Hub) (e : Entry) (v : Nat) : Hub := { h with regs := h.regs.set e.dflt e.key v }

/-- Set a flag of a W1C register (R9). -/
def Hub.flag (h : Hub) (e : Entry) (bit : Nat) : Hub := h.putReg e (setBit bit (h.reg e))

/-- The hub gives something to the outside (log 6). -/
def Hub.emit (h : Hub) (o : Out) : Hub := { h with out := o :: h.out }

/-- Draw a free random number (log 5): the hub with the draw counted, and the number. -/
def Hub.draw (h : Hub) : Hub × Nat := ({ h with draws := h.draws + 1 }, Config.random h.draws)

/-- CLOCK in ns (R300). -/
def Hub.ns (h : Hub) : Nat := h.clock / 10

/-! ### Numbers and bytes (R8, R32) -/

/-- How far a is ahead of b, modulo 2^w. -/
def gap (w a b : Nat) : Nat := (((a : Int) - (b : Int)) % 2 ^ w).toNat

/-- `n` little-endian bytes of a number. -/
def leBytes : Nat → Nat → Bytes
  | 0, _ => []
  | n + 1, v => BitVec.ofNat 8 v :: leBytes n (v / 256)

/-- The number that little-endian bytes hold. -/
def leNat : Bytes → Nat
  | [] => 0
  | b :: t => b.toNat + 256 * leNat t

/-- `n` bytes of a string from an offset, as a little-endian number. -/
def field (b : Bytes) (off n : Nat) : Nat := leNat ((b.drop off).take n)

/-- The signed value of a `w`-bit number. -/
def toSigned (w n : Nat) : Int := if n < 2 ^ (w - 1) then (n : Int) else (n : Int) - 2 ^ w

/-- A signed value as a `w`-bit number. -/
def ofSigned (w : Nat) (i : Int) : Nat := (i % 2 ^ w).toNat

/-- A U8, U16, U32 or U64 item of an event's data (R531). -/
def u8 (n : Nat) : Bytes := leBytes 1 n
/-- A U16 item. -/
def u16 (n : Nat) : Bytes := leBytes 2 n
/-- A U32 item. -/
def u32 (n : Nat) : Bytes := leBytes 4 n
/-- A U64 item. -/
def u64 (n : Nat) : Bytes := leBytes 8 n

end Sys2Proof.Machine
end

