-- ==== Sys2Proof/Machine/Flags.lean ====
section
/-!
DEFINITION. Computed checks: the CRC of R520, which every check value of the hub is an instance of, and the alive counter
of R522.
-/

namespace Sys2Proof.Machine

/-- The parameters of a CRC (R520). -/
structure CrcParam where
  width : Nat
  poly : Nat
  initial : Nat
  refin : Bool
  refout : Bool
  xorout : Bool
  deriving DecidableEq, Repr

/-- The low w bits of a number in reverse order. -/
def reflect : Nat → Nat → Nat
  | 0, _ => 0
  | w + 1, v => v % 2 * 2 ^ w + reflect w (v / 2)

/-- Bits i - 1 to 0 of a byte are fed, the highest first (R520). -/
def CrcParam.feedBits (p : CrcParam) (d : Nat) : Nat → Nat → Nat
  | 0, value => value
  | i + 1, value =>
    let shifted := value * 2 % 2 ^ p.width
    p.feedBits d i (if bit (p.width - 1) value != bit i d then shifted ^^^ p.poly % 2 ^ p.width else shifted)

/-- Feed one byte (R520). -/
def CrcParam.feed (p : CrcParam) (value : Nat) (b : Byte) : Nat :=
  p.feedBits (if p.refin then reflect 8 b.toNat else b.toNat) 8 value

/-- Feed bytes in order. -/
def CrcParam.feedAll (p : CrcParam) : Nat → Bytes → Nat
  | value, [] => value
  | value, b :: t => p.feedAll (p.feed value b) t

/-- The result for a register value (R520). -/
def CrcParam.result (p : CrcParam) (value : Nat) : Nat :=
  let r := if p.refout then reflect p.width value else value
  if p.xorout then r ^^^ (2 ^ p.width - 1) else r

/-- INIT within the width. -/
def CrcParam.start (p : CrcParam) : Nat := p.initial % 2 ^ p.width

/-- The CRC of a byte string. -/
def CrcParam.of (p : CrcParam) (b : Bytes) : Nat := p.result (p.feedAll p.start b)

/-- The CRC-16 of R76. -/
def crc16 : CrcParam := ⟨16, 0x1021, 0xFFFF, false, false, false⟩
/-- The CRC-32 of R115. -/
def crc32 : CrcParam := ⟨32, 0x04C11DB7, 0xFFFFFFFF, true, true, true⟩

/-- The outcome of the alive check (R522). -/
inductive AliveOutcome where
  | accepted (lost : Nat)
  | repeated
  | jumped
  deriving DecidableEq, Repr

/-- R522 for a counter of range `m`: the first message after a restart is accepted whatever its ALIVE. -/
def aliveCheck (m gap last alive : Nat) (fresh : Bool) : AliveOutcome :=
  let d := (alive + m - last % m) % m
  if fresh then .accepted 0 else if d = 0 then .repeated else if d ≤ gap + 1 then .accepted (d - 1) else .jumped

end Sys2Proof.Machine
end

