-- ==== Sys2Proof/Machine/RegMap.lean ====
section
/-!
DEFINITION. The register words that the model stores by address: flag registers of type W1C and plain RW registers. Every
other register field is a view of the state the chapter's types hold.
-/

namespace Sys2Proof.Machine

/-- LANE_CFG of lane n (R108). -/
def Rg.laneCfg (n : Nat) : Entry := ⟨0x10000 + 256 * n + 0x14, 0⟩
/-- LANE_FLAGS of lane n. -/
def Rg.laneFlags (n : Nat) : Entry := ⟨0x10000 + 256 * n + 0x18, 0⟩
/-- PAT_CTRL of lane n: PATTERN resets to 0b011. -/
def Rg.patCtrl (n : Nat) : Entry := ⟨0x10000 + 256 * n + 0x20, 3⟩
/-- PAT_USER0 to PAT_USER2 of lane n. -/
def Rg.patUser (n k : Nat) : Entry := ⟨0x10000 + 256 * n + 0x24 + 4 * k, 0⟩
/-- LINK_FLAGS of link p (R139). -/
def Rg.linkFlags (p : Nat) : Entry := ⟨0x11000 + 256 * p + 0x08, 0⟩
/-- PLAN_FLAGS (R208). -/
def Rg.planFlags : Entry := ⟨0x13008, 0⟩
/-- ENG_FLAGS (R236). -/
def Rg.engFlags : Entry := ⟨0x14008, 0⟩
/-- DONE_EVT_EN of ENG_BARRIER (R236). -/
def Rg.engBarrier : Entry := ⟨0x1400C, 0⟩
/-- SW_FLAGS (R269). -/
def Rg.swFlags : Entry := ⟨0x15008, 0⟩
/-- BCN_FLAGS (R304). -/
def Rg.bcnFlags : Entry := ⟨0x16004, 0⟩
/-- DM_FLAGS (R332). -/
def Rg.dmFlags : Entry := ⟨0x17004, 0⟩
/-- DM_POST0 to DM_POST7 (R332). -/
def Rg.dmPost (k : Nat) : Entry := ⟨0x17020 + 4 * k, 0⟩
/-- VID_FLAGS (R387). -/
def Rg.vidFlags : Entry := ⟨0x18004, 0⟩
/-- USB_FLAGS (R414). -/
def Rg.usbFlags : Entry := ⟨0x19008, 0⟩
/-- HB_FLAGS (R443). -/
def Rg.hbFlags : Entry := ⟨0x1A004, 0⟩
/-- WIN_MAPw, WIN_FARw, WIN_CTRLw and WIN_STATUSw, k = 0 to 3 (R443). -/
def Rg.win (w k : Nat) : Entry := ⟨0x1A100 + 16 * w + 4 * k, 0⟩
/-- Register at offset o of host queue q (R443). -/
def Rg.queue (q o : Nat) : Entry := ⟨0x1B000 + 64 * q + o, 0⟩
/-- EVT_FLAGS (R546). -/
def Rg.evtFlags : Entry := ⟨0x20064, 0⟩
/-- PWR_FLAGS, at its Keeper address (R577). -/
def Rg.pwrFlags : Entry := ⟨0x32000018, 0⟩

/-- A register word or family of them: first address, stride, count, the bits that are RW and those that are W1C. -/
structure RegRow where
  base : Nat
  stride : Nat
  count : Nat
  rw : Nat
  w1c : Nat
  deriving DecidableEq, Repr

/-- The stored registers whose write is no more than their field types (R9). -/
def regRows : List RegRow := [
  ⟨0x10014, 256, 5, 0x3, 0⟩, ⟨0x10018, 256, 5, 0, 0x7F⟩, ⟨0x10020, 256, 5, 0x3F07, 0⟩,
  ⟨0x10024, 256, 5, 0xFFFFFFFF, 0⟩, ⟨0x10028, 256, 5, 0xFFFFFFFF, 0⟩, ⟨0x1002C, 256, 5, 0xFFFF, 0⟩,
  ⟨0x11008, 256, 3, 0, 0xFF⟩, ⟨0x13008, 4, 1, 0, 0x1F⟩, ⟨0x14008, 4, 1, 0, 0x7F⟩, ⟨0x1400C, 4, 1, 0x8, 0⟩,
  ⟨0x15008, 4, 1, 0, 0xFF⟩, ⟨0x16004, 4, 1, 0, 0x7FF⟩, ⟨0x17004, 4, 1, 0, 0xFF⟩, ⟨0x17020, 4, 8, 0xFFFFFFFF, 0⟩,
  ⟨0x18004, 4, 1, 0, 0x1FF⟩, ⟨0x19008, 4, 1, 0, 0xFFFFFFFF⟩, ⟨0x1A004, 4, 1, 0, 0x3F⟩,
  ⟨0x20064, 4, 1, 0, 0x3F⟩, ⟨0x32000018, 4, 1, 0, 0x3F⟩]

/-- The row that covers an address. -/
def regRow? (a : Nat) : Option RegRow :=
  regRows.find? (fun r => decide (r.base ≤ a) && decide ((a - r.base) % r.stride = 0) && decide ((a - r.base) / r.stride < r.count))

/-- The value a stored word keeps after a write: RW bits take the value, a 1 clears a W1C bit, all others stay (R9). -/
def regMerge (rw w1c old v : Nat) : Nat :=
  ((old ^^^ (old &&& rw)) ^^^ ((old ^^^ (old &&& rw)) &&& (v &&& w1c))) ||| (v &&& rw)

end Sys2Proof.Machine
end

