-- ==== Sys2Proof/Machine/Roles.lean ====
section
/-!
DEFINITION. Abort codes (R66, R67), the domains, the roles of the ports, the links and the routes of SYSTEM messages (R5, R18, R53 to R55).
-/

namespace Sys2Proof.Machine

/-- Abort codes of R66. -/
abbrev Abort := Nat

/-- STATE, naming a state of R67. -/
def abState (s : Nat) : Abort := 0x06080000 + s
/-- BAD_ARGUMENT at a byte offset in COMMAND. -/
def abArg (off : Nat) : Abort := 0x060A0000 + off
/-- INVALID_VALUE with its detail. -/
def abValue (d : Nat) : Abort := 0x06040000 + d
/-- OPERATION_FAILED with its detail. -/
def abFailed (d : Nat) : Abort := 0x06120000 + d
/-- PROTOCOL with its detail. -/
def abProtocol (d : Nat) : Abort := 0x060C0000 + d
abbrev abNoObject : Abort := 0x06010000
abbrev abNoSub : Abort := 0x06010001
abbrev abReadOnly : Abort := 0x06020000
abbrev abWriteOnly : Abort := 0x06020001
abbrev abLength : Abort := 0x06030000
abbrev abLocked : Abort := 0x06050000
abbrev abDenied : Abort := 0x06060000
abbrev abBusy : Abort := 0x06070000
abbrev abUnknown : Abort := 0x06090000
abbrev abTimeout : Abort := 0x060B0000
abbrev abRemoteTimeout : Abort := 0x060B0001
abbrev abNoRoute : Abort := 0x060D0000
abbrev abNoResource : Abort := 0x060E0000
abbrev abAdmission : Abort := 0x060F0000
abbrev abStale : Abort := 0x06100000
abbrev abCancelled : Abort := 0x06110000

/-- The states of R67. -/
abbrev stUnconfirmed : Nat := 1
abbrev stRetraining : Nat := 2
abbrev stStrapFault : Nat := 3
abbrev stChannelBusy : Nat := 4
abbrev stChannelIdle : Nat := 5
abbrev stFoghorn : Nat := 6
abbrev stBench : Nat := 7
abbrev stNotRoot : Nat := 8
abbrev stSwap : Nat := 9
abbrev stPlanSwitch : Nat := 0xA
abbrev stNotFoghorn : Nat := 0xB
abbrev stFoghornStrapped : Nat := 0xC
abbrev stConfigBusy : Nat := 0xD
abbrev stLinkDown : Nat := 0x20
abbrev stLaneTraining : Nat := 0x21
abbrev stMoorTransition : Nat := 0x30
abbrev stNotSeated : Nat := 0x31
abbrev stDebugLocked : Nat := 0x40
abbrev stSlotBad : Nat := 0x41

abbrev stTunnelClosed : Nat := 0x10
abbrev stTunnelOpening : Nat := 0x11
abbrev stTunnelOpen : Nat := 0x12
abbrev stTunnelDraining : Nat := 0x13
abbrev stTunnelFaulted : Nat := 0x14
/-- HARDWARE_FAULT, its detail the event source. -/
def abHardware (src : Nat) : Abort := 0x06130000 + src

/-! ### Domains (R548) -/

/-- A domain at power-on reset: AON and KEEPER are on, every other one is off (R577). -/
def DomSt.start (d : Nat) : DomSt := { DomSt.init with state := if d < 2 then .on else .off }

/-- Domain d. -/
def Hub.domain (h : Hub) (d : Nat) : DomSt := h.pwr.domains.get (DomSt.start d) d

/-- Replace domain d. -/
def Hub.setDomain (h : Hub) (d : Nat) (x : DomSt) : Hub := { h with pwr := { h.pwr with domains := h.pwr.domains.set (DomSt.start d) d x } }

/-- Domain d is on. -/
def Hub.domOn (h : Hub) (d : Nat) : Bool := decide ((h.domain d).state = .on)

/-! ### Roles (R5, R18, R28, R448) -/

/-- The mode whose port roles hold: the one held before FOGHORN while a retrain runs (R28). -/
def Hub.role (h : Hub) : Mode :=
  if h.mode.active = .foghorn ∧ h.mode.retrain ≠ none then h.mode.before else h.mode.active

/-- The hub is a root (R20). -/
def Hub.isRoot (h : Hub) : Bool := decide (h.role = .lighthouse) || decide (h.role = .standby)

/-- The mode uses port p (R18). -/
def Hub.portUsed (h : Hub) (p : Nat) : Bool :=
  match h.role with
  | .bench | .standby => true
  | .lighthouse => decide (p = 0) || h.mode.pairConfig
  | .lightship | .buoy => decide (p < 2)
  | _ => false

/-- The mode lets domain d be on (R18, R22, R23, R30, R550). -/
def Hub.domAllowed (h : Hub) (d : Nat) : Bool :=
  if d < 2 then true
  else if h.mode.active = .strapFault then decide (d ∉ [7, 8, 9, 10, 12, 13, 14, 15])
  else if h.mode.active = .foghorn then
    h.mode.retrain.isSome && (decide (d < 7) || (decide (d < 10) && h.portUsed (d - 7)))
  else if 7 ≤ d ∧ d < 10 then h.portUsed (d - 7)
  else true

/-- Domain d begins its return to on, from off behind the others that wait (R549, R553). -/
def Hub.powerQueue (h : Hub) (d : Nat) : Hub :=
  let x := h.domain d
  if h.domAllowed d ∧ (x.state = .off ∨ x.state = .retention) then
    let h1 := h.setDomain d { x with state := .transition, cold := decide (x.state = .off) }
    if x.state = .off then { h1 with pwr := { h1.pwr with powerUps := h1.pwr.powerUps ++ [d] } } else h1
  else h

/-- The domains in the order of R572; CRYPTO and HOST, which the boot ROM turns on, first (R570). -/
def bootOrder : List Nat := [16, 11, 2, 3, 4, 5, 6, 17, 7, 8, 9, 10, 12, 13, 14, 15]

/-- The domains whose bit is set in DOMAIN_BOOT and that the mode permits begin their return to on (R572). -/
def Hub.powerBoot (h : Hub) : Hub :=
  bootOrder.foldl (fun h d => if bit d (h.val Od.rstDomainBoot) then h.powerQueue d else h) h

/-- Port p faces upstream (R18). -/
def Hub.facesUp (h : Hub) (p : Nat) : Bool :=
  (decide (h.role = .lightship) && decide (p = 0)) || (decide (h.role = .buoy) && decide (p < 2))

/-- The hub is a BUOY of a pair: a dual-homed one, which uses DUAL (R20, R473). -/
def Hub.pairBuoy (h : Hub) : Bool := decide (h.role = .buoy) && decide (h.moor.wiring = some 1)

/-- The primary upstream port (R54, R448). -/
def Hub.upPort (h : Hub) : Option Nat :=
  match h.role with
  | .lightship => some 0
  | .buoy => if h.pairBuoy then h.pair.primaryPort else some 0
  | _ => none

/-- DIRECTION of a message that leaves by port p (R53). -/
def Hub.directionOf (h : Hub) (p : Nat) : Nat := if h.facesUp p then 4 else p + 1

/-- Link p. -/
def Hub.link (h : Hub) (p : Nat) : LinkSt := h.links.links.get LinkSt.init p

/-- Replace link p. -/
def Hub.setLink (h : Hub) (p : Nat) (x : LinkSt) : Hub := { h with links := { h.links with links := h.links.links.set LinkSt.init p x } }

/-- Change link p. -/
def Hub.updLink (h : Hub) (p : Nat) (f : LinkSt → LinkSt) : Hub := h.setLink p (f (h.link p))

/-- The context of the SYSTEM tunnel of link p: it is part of context 0, and the model keeps its sequences and statistics as number 256 + p
(R141, R175). -/
abbrev sysCtx (p : Nat) : Nat := 256 + p

/-- The SYSTEM tunnel of link p is OPEN (R141): the link is RUNNING or held. -/
def Hub.sysOpen (h : Hub) (p : Nat) : Bool := (h.link p).sysOpen

/-- The first port and the DIRECTION and hops of a TARGET (R54): `none` where the code is no target. -/
def Hub.route (h : Hub) (target : Nat) : Option (Option Nat × Nat × Nat) :=
  let n := target % 16
  if target / 16 = 1 ∧ 0 < n ∧ n < 8 then some (some 0, 1, n)
  else if target / 16 = 2 ∧ 0 < n ∧ n < 8 then some (some 1, 2, n)
  else if target = 0x30 then some (some 2, 3, 1)
  else if target / 16 = 4 ∧ 0 < n ∧ n < 8 then some (h.upPort, 4, n)
  else none

/-- The onward port of a message with a DIRECTION (R54, R55). -/
def Hub.onward (h : Hub) (direction : Nat) : Option Nat :=
  if direction = 1 ∨ direction = 2 then some 1 else if direction = 4 then h.upPort else none

end Sys2Proof.Machine
end

