-- ==== Sys2Proof/Machine/LaneBase.lean ====
section
/-!
DEFINITION. Ports and lanes by number, the bytes of the blocks that a lane carries (R74, R76, R109, R115, R122, R125, R126, R132,
R200, R286, R292, R482) and of the messages of a SYSTEM tunnel (R53, R157, R158), and the lane that a control block of the link transport leaves on, which wakes it from Quiet (R93, R130).
-/

namespace Sys2Proof.Machine

/-! ### Ports and lanes -/

/-- Coupling port or pair link p. -/
def Hub.port (h : Hub) (p : Nat) : PortSt := h.lanes.ports.get PortSt.init p

/-- Replace port p. -/
def Hub.setPort (h : Hub) (p : Nat) (x : PortSt) : Hub := { h with lanes := { h.lanes with ports := h.lanes.ports.set PortSt.init p x } }

/-- Change port p. -/
def Hub.updPort (h : Hub) (p : Nat) (f : PortSt → PortSt) : Hub := h.setPort p (f (h.port p))

/-- Lane n. -/
def Hub.lane (h : Hub) (n : Nat) : LaneSt := h.lanes.lanes.get LaneSt.init n

/-- Replace lane n. -/
def Hub.setLane (h : Hub) (n : Nat) (x : LaneSt) : Hub := { h with lanes := { h.lanes with lanes := h.lanes.lanes.set LaneSt.init n x } }

/-- Change lane n. -/
def Hub.updLane (h : Hub) (n : Nat) (f : LaneSt → LaneSt) : Hub := h.setLane n (f (h.lane n))

/-- Lanes of a port, by physical number. -/
def portLanes (p : Nat) : List Nat := if p = 0 then [0, 1] else if p = 1 then [2, 3] else [4]

/-- The port of a lane. -/
def lanePort (n : Nat) : Nat := if n < 2 then 0 else if n < 4 then 1 else 2

/-- Physical number of a lane within its port. -/
def lanePhys (n : Nat) : Nat := if n < 4 then n % 2 else 0

/-- Logical number of a lane (R80). -/
def Hub.laneLogical (h : Hub) (n : Nat) : Nat := if (h.lane n).swap then 1 - lanePhys n else lanePhys n

/-- The lane of a port with a logical number. -/
def Hub.laneOf (h : Hub) (p k : Nat) : Option Nat := (portLanes p).find? (fun n => decide (h.laneLogical n = k))

/-- Lanes of a port that are in service. -/
def Hub.lanesIn (h : Hub) (p : Nat) : List Nat := (portLanes p).filter (fun n => decide ((h.lane n).state = .inService))

/-- Lanes of a port in service, logical lane 0 first. -/
def Hub.lanesUp (h : Hub) (p : Nat) : List Nat :=
  (h.lanesIn p).filter (fun n => decide (h.laneLogical n = 0)) ++ (h.lanesIn p).filter (fun n => decide (h.laneLogical n ≠ 0))

/-! ### Blocks as bytes -/

/-- The sixteen bytes of a control block: TYPE, the bytes from 1 up, zeros, and the CRC-16 of R76 in bytes 14 and 15 (R74, R122). -/
def ctrlBlock (ty : Nat) (body : Bytes) : Bytes :=
  let b := (u8 ty ++ body ++ List.replicate 14 0).take 14
  b ++ u16 (crc16.of b)

/-- The training block (R76). -/
def trainingBytes (b : TrainingBlock) : Bytes :=
  ctrlBlock 0xF0
    (u8 (128 * b2n b.leader + 64 * b2n b.rxReady + 32 * b2n b.unusable + 16 * b2n b.go + 4 * b.rate.val + b.lane.val) ++
      u8 (64 * b.reqKind.val + 8 * b.preset.val + 4 * b2n b.reqToggle) ++ u8 (4 * b.preReq.val + b.postReq.val) ++
      u8 (128 * b2n b.ackToggle + 4 * b.preStatus.val + b.postStatus.val) ++ u8 b.pre.val ++ u8 b.post.val ++ [b.portId] ++
      leBytes 6 b.serialLow.toNat)

/-- IDLE (R122). -/
def idleBytes (a : Ack) : Bytes := ctrlBlock 0x10 (u8 (128 * b2n a.nak) ++ [0, 0] ++ u16 a.ackSeq.toNat)

/-- The thirty-two bytes of a cell (R109). -/
def cellBytes (c : Cell) : Bytes :=
  u32 (2 ^ 24 * c.index + 2 ^ 20 * c.ctype + 256 * c.tseq + 8 * c.len + 4 * b2n c.sos + 2 * b2n c.eos + b2n c.yellow) ++
    (c.payload.take c.len ++ List.replicate 28 0).take 28

/-- The tally of a group (R115). -/
def tallyBytes (cells : List Cell) (seq : Nat) (a : Ack) : Bytes :=
  let b := u8 0x20 ++ u8 (128 * b2n a.nak + cells.length) ++ u16 seq ++ u16 a.ackSeq.toNat ++ List.replicate 6 0
  b ++ u32 (crc32.of (cells.flatMap cellBytes ++ b))

/-- CREDIT (R125): INIT and LIMIT of the eight classes. -/
def creditBytes (init : Bool) (limits : List Nat) : Bytes :=
  ctrlBlock 0x30 (u8 (b2n init) ++ leBytes 12 (limits.foldr (fun l n => l % 4096 + 4096 * n) 0))

/-- BEACON (R128, R286): the count, and the VALID bits and low bits of the point it carries. -/
def beaconBytes (sf : Nat) : Option (Nat × Nat × Nat × Nat) → Bytes
  | some (v, g, a, b) =>
    ctrlBlock 0x40 (u8 (1 + 2 * (v % 8) + 16 * (b / 2 ^ 14 % 16)) ++ u32 sf ++ u32 g ++ u32 (a % 2 ^ 18 + 2 ^ 18 * (b % 2 ^ 14)))
  | none => ctrlBlock 0x40 (u8 0 ++ u32 sf)

/-- PLAN_SWITCH (R200): KIND, ACTIVE, NEXT, PENDING, HUBS, SWITCH_SEQ, EFFECTIVE_SF, ORIGIN. -/
def planBytes (kind active next pending hubs seq eff origin : Nat) : Bytes :=
  ctrlBlock 0x50 (u8 (64 * kind + 8 * active + next) ++ u8 (pending + 16 * hubs) ++ u8 seq ++ u32 eff ++ leBytes 6 origin)

/-- FOG_SIGNAL (R126). -/
def fogBytes (f : FogSignal) : Bytes :=
  ctrlBlock 0x60 ([f.cause] ++ leBytes 6 f.origin.toNat ++ [f.seq] ++ [f.originDepth] ++ u16 f.detail.toNat)

/-- DELAY_PROBE (R292): RESP, UP_LOCKED, PROBE_SEQ, TURN, OFFSET. -/
def probeBytes (resp upLocked : Bool) (seq turn offset : Nat) : Bytes :=
  ctrlBlock 0x70 (u8 (128 * b2n resp + 64 * b2n upLocked + seq % 16) ++ u32 turn ++ u32 offset)

/-- MOORING_RELAY (R482): LEN and the message. -/
def relayBytes (msg : Bytes) : Bytes := ctrlBlock 0x80 (u8 msg.length ++ msg)

/-- LINK_INIT (R132). -/
def linkInitBytes (b : LinkInit) : Bytes :=
  let flags (page : Nat) : Bytes := u8 (128 * b2n b.accept + 64 * b2n b.refuse + 32 * b2n b.resume + page)
  match b.page with
  | .page0 mode depth chain reason sf rx =>
    ctrlBlock 0x90 (flags 0 ++ [mode] ++ [depth] ++ [chain] ++ [reason] ++ u32 sf.toNat ++ u16 rx.toNat)
  | .page1 serial => ctrlBlock 0x90 (flags 1 ++ u64 serial.toNat)

/-! ### SYSTEM-tunnel messages as bytes (R53, R157, R158) -/

/-- A request, a response or another message of a SYSTEM tunnel (R53). -/
def sysBytes (m : SysMsg) : Bytes :=
  u16 m.reqId.toNat ++ [m.op] ++ u8 m.hopsLeft ++ u16 m.index.toNat ++ [m.sub] ++ u8 m.direction ++ u16 m.data.length ++
    [m.originDepth, 0] ++ u32 m.status.toNat ++ m.data

/-- OP of a tunnel control message (R158). -/
def tunCode : TunOp → Byte
  | .openReq _ _ _ _ _ _ _ => 0x20 | .openAck => 0x21 | .openConfirm => 0x22 | .closeReq _ => 0x23 | .closeAck _ => 0x24
  | .teardown _ => 0x25 | .modifyReq _ _ => 0x26 | .modifyAck => 0x27

/-- DATA of a tunnel control message from byte 8 on (R158). -/
def tunFields : TunOp → Bytes
  | .openReq kind cls direction isSealed maxSeg farBind rates =>
    u8 kind ++ u8 cls ++ u8 direction ++ u8 (b2n isSealed) ++ u16 maxSeg ++ u16 0 ++ u32 farBind ++
      ((List.range 8).flatMap (fun k => u32 (rates.getD k (0, 0)).1 ++ u32 (rates.getD k (0, 0)).2))
  | .closeReq n => u32 n
  | .closeAck n => u32 n
  | .teardown cause => u8 cause
  | .modifyReq cls maxSeg => u8 cls ++ u8 0 ++ u16 maxSeg
  | _ => []

/-- A tunnel control message as a SYSTEM-tunnel segment (R157): INDEX and SUB 0, the common fields in DATA bytes 0 to 7. -/
def tunMessage (m : TunMsg) : SysMsg :=
  { reqId := m.reqId, op := tunCode m.op, hopsLeft := m.hopsLeft, index := 0, sub := 0, direction := m.direction,
    originDepth := m.originDepth, status := BitVec.ofNat 32 m.status
    data := u16 m.openerHandle.toNat ++ u16 m.responderHandle.toNat ++ [m.hopIndex] ++ u8 m.totalHops ++ [m.peerIndex, m.refuserDepth] ++
      tunFields m.op }

/-- A message of the SYSTEM tunnel of link p is one segment in class 0, offered to its encapsulation on PIN_A. It takes no staging quota
(log 68). -/
def Hub.sysPut (h : Hub) (p : Nat) (d : Bytes) : Hub :=
  let j : Job := { ctx := sysCtx p, cls := 0, handle := 0, encap := true, ticket := 0, tseq := 0, cells := [], skipped := [],
                   words := 0, seg := ⟨d, false⟩, ingress := 29, state := .pending, pinned := true, fences := 0, poisoned := false, damage := 0 }
  { h with eng := { h.eng with waiting := h.eng.waiting ++ [j] } }

/-- A request, a response or a key message leaves by link p, where its SYSTEM tunnel is OPEN. -/
def Hub.sysOut (h : Hub) (p : Nat) (m : SysMsg) : Hub := if h.sysOpen p then (h.emit (.sys p m)).sysPut p (sysBytes m) else h

/-! ### Lane-layer blocks and Quiet (R74, R93) -/

/-- A lane-layer block of R74, sent some times over. -/
def Hub.laneBlocks (h : Hub) (n code option_ times : Nat) : Hub :=
  h.emit (.laneBlock n (ctrlBlock code (u8 (h.laneLogical n) ++ u8 option_)) times)

/-- A Quiet transmitter leaves Quiet: Quiet-exit blocks for 998.4 ns (R93). -/
def Hub.wakeLane (h : Hub) (n : Nat) : Hub :=
  if (h.lane n).txQuiet then (h.updLane n (fun x => { x with txQuiet := false })).laneBlocks n 0xF2 0 (96 / 2 ^ (h.port (lanePort n)).rate) else h

/-- A valid block is received on a lane whose receiver is Quiet and detects signal: it leaves Quiet (R93). -/
def Hub.rxWake (h : Hub) (n : Nat) : Hub :=
  if (h.lane n).rxQuiet ∧ !(h.lane n).los then h.updLane n (fun x => { x with rxQuiet := false }) else h

/-- A valid control block is received on link p. The rows do not name its lane: where every receiver of the link is Quiet it is the
first one in service, which the far end wakes (log 65). -/
def Hub.rxWakeOn (h : Hub) (p : Nat) : Hub :=
  if (h.lanesUp p).all (fun n => (h.lane n).rxQuiet) then (match h.lanesUp p with
    | n :: _ => h.rxWake n
    | [] => h) else h

/-- A control block whose CRC-16 fails is ignored and counted (R122). -/
def Hub.checked (h : Hub) (p : Nat) (crcOk : Bool) (f : Hub → Hub) : Hub :=
  if crcOk then f h else (h.updLink p (fun x => { x with ctrlCrc := x.ctrlCrc + 1 })).flag (Rg.linkFlags p) 6

/-- A control block on link p, by a row that does not name its lane: a valid one brings a Quiet receiver out of Quiet. -/
def Hub.heard (h : Hub) (p : Nat) (crcOk : Bool) (f : Hub → Hub) : Hub := h.checked p crcOk (fun h => f (h.rxWakeOn p))

/-! ### Control blocks sent (R93, R123, R130, R131) -/

/-- The lane that a control block of link p leaves on: one that is awake and not waiting for a superframe boundary, logical lane 0
before lane 1; where all are Quiet, logical lane 0. -/
def Hub.ctrlLane (h : Hub) (p : Nat) : Nat :=
  let up := (h.lanesUp p).filter (fun n => decide (n ∉ (h.link p).joining))
  (up.filter (fun n => !(h.lane n).txQuiet) ++ up ++ h.lanesUp p ++ portLanes p).headD 4

/-- The lane for blocks that travel on logical lane 0 (R201, R292): another one only where that lane carries no traffic. -/
def Hub.zeroLane (h : Hub) (p : Nat) : Nat :=
  (((h.lanesUp p).filter (fun n => decide (h.laneLogical n = 0) && decide (n ∉ (h.link p).joining))) ++ [h.ctrlLane p]).headD 4

/-- A control block leaves on a lane of link p, which leaves Quiet for it (R93). -/
def Hub.blockOn (h : Hub) (p n : Nat) (b : Bytes) : Hub := (h.wakeLane n).emit (.block p n b)

/-- A control block leaves on link p. -/
def Hub.blockOut (h : Hub) (p : Nat) (b : Bytes) : Hub := h.blockOn p (h.ctrlLane p) b

/-- DELAY_PROBE and MOORING_RELAY blocks that a link may send in a superframe (R124): of one block in 256 block times, what block 0 and the
CREDIT blocks of R125 leave (log 66). -/
def Hub.paceLimit (h : Hub) (p : Nat) : Nat := 8 / 2 ^ (h.port p).rate - 1

/-- A DELAY_PROBE or MOORING_RELAY block leaves on a lane of link p, or is deferred to the next superframe (R124). -/
def Hub.pacedOut (h : Hub) (p n : Nat) (b : Bytes) : Hub :=
  if (h.link p).paced < h.paceLimit p then (h.updLink p (fun x => { x with paced := x.paced + 1 })).blockOn p n b
  else h.updLink p (fun x => { x with deferred := x.deferred ++ [(n, b)] })

end Sys2Proof.Machine
end

