-- ==== Sys2Proof/Machine/Paths.lean ====
section
/-!
DEFINITION. CAN frames of the hub itself, and the answers that go back on each path (R36 to R56).
-/

namespace Sys2Proof.Machine

/-! ### CAN frames of the hub itself (R43, R351) -/

/-- CAN port n. -/
def Hub.can (h : Hub) (n : Nat) : CanSt := h.io.can.get CanSt.init n

/-- Replace CAN port n. -/
def Hub.setCan (h : Hub) (n : Nat) (x : CanSt) : Hub := { h with io := { h.io with can := h.io.can.set CanSt.init n x } }

/-- The first frame behind the slots whose queue has no frame in a slot (R351), and the others. -/
def canNext (slots : List (Nat × CanFrame)) : List (Nat × CanFrame) → Option (Nat × CanFrame) × List (Nat × CanFrame)
  | [] => (none, [])
  | x :: t => if slots.all (fun y => decide (y.1 ≠ x.1)) then (some x, t) else
    let r := canNext slots t
    (r.1, x :: r.2)

/-- Free transmit slots take the head frames of queues that have none in a slot, at most n of them (R351). -/
def CanSt.fill (x : CanSt) : Nat → CanSt
  | 0 => x
  | n + 1 =>
    if 8 ≤ x.slots.length then x
    else match canNext x.slots x.queue with
      | (some f, rest) => CanSt.fill { x with slots := x.slots ++ [f], queue := rest } n
      | (none, _) => x

/-- A frame joins a queue of CAN port n; queue 0 is the hub's own (R351). -/
def Hub.canQueue (h : Hub) (n queue : Nat) (f : CanFrame) : Hub :=
  let x := h.can n
  h.setCan n ({ x with queue := x.queue ++ [(queue, f)] }.fill 8)

/-- CLAIMED of CAN port n: 254 where no address is usable (R352). -/
def Hub.claimed (h : Hub) (n : Nat) : Nat := ((h.can n).claimed).getD 254

/-- The identifier of an ISO 11783 message: priority, PDU format, destination or extension, source. -/
def isoId (prio pf ps src : Nat) : Nat := prio * 2 ^ 26 + pf * 2 ^ 16 + ps * 256 + src

/-- The port uses the FD form of ODAP (R44). -/
def Hub.odapFd (h : Hub) (n : Nat) : Bool := bit n (h.val Od.odapOdapFdFrames)

/-- An ODAP response goes out (R43, R44): none where the hub has no address on the port. No setting of a port configures bit-rate
switching, so every FD answer uses it (log 55). -/
def Hub.odapSend (h : Hub) (n client : Nat) (data : Bytes) : Hub :=
  let size := if h.odapFd n then 64 else 8
  if h.claimed n = 254 then h
  else h.canQueue n 0
    { id := isoId (h.val Od.odapOdapPriority) 0xEF client (h.claimed n), extended := true, fd := h.odapFd n,
      brs := h.odapFd n, esi := false, data := (data ++ List.replicate size 0xFF).take size }

/-- An abort or initiate frame of the hub (R46): specifier kind, index, subindex, and either data or a number that
stands where the size would; none of them where nothing is carried. -/
def odapInitiate (fd : Bool) (kind index sub : Nat) (data : Option Bytes) (num : Option Nat) : Bytes :=
  let head := fun (low : Nat) => u8 (kind * 32 + low) ++ u16 index ++ u8 sub
  match data with
  | some d => if fd then head 8 ++ u8 d.length ++ d else head (8 + d.length) ++ d
  | none => head 0 ++ (if fd then [0] else []) ++ (match num with
    | some n => u32 n
    | none => [])

/-- The open transfer of a client. -/
def Hub.transfer? (h : Hub) (n client : Nat) : Option OdapTransfer :=
  h.ctl.transfers.find? (fun t => decide (t.port.val = n) && decide (t.client.toNat = client))

/-- The transfer of a client is no longer open. -/
def Hub.dropTransfer (h : Hub) (n client : Nat) : Hub :=
  let keep := h.ctl.transfers.filter (fun t => !(decide (t.port.val = n) && decide (t.client.toNat = client)))
  { h with ctl := { h.ctl with transfers := keep } }

/-- The transfer of a client as it now stands. -/
def Hub.putTransfer (h : Hub) (t : OdapTransfer) : Hub :=
  let h1 := h.dropTransfer t.port.val t.client.toNat
  { h1 with ctl := { h1.ctl with transfers := h1.ctl.transfers ++ [t] } }

/-- An abort frame ends a transfer (R48, R49). -/
def Hub.odapAbort (h : Hub) (n client index sub : Nat) (code : Abort) : Hub :=
  (h.dropTransfer n client).odapSend n client (odapInitiate (h.odapFd n) 4 index sub none (some code))

/-- An access of an open transfer has its outcome (R47, R49). A value of no bytes, which the classic form's count of 1 to 4 cannot
give, is answered as a segmented one of size 0 (log 55). -/
def Hub.odapAnswer (h : Hub) (t : OdapTransfer) (status : Abort) (data : Bytes) : Hub :=
  let n := t.port.val
  let c := t.client.toNat
  let fd := h.odapFd n
  if status ≠ 0 then h.odapAbort n c t.index t.sub status
  else if t.download then
    if t.segmented then (h.dropTransfer n c).odapSend n c (u8 (6 * 32 + 16 * b2n t.toggle))
    else (h.dropTransfer n c).odapSend n c (odapInitiate fd 5 t.index t.sub none none)
  else if (fd && decide (data.length ≤ 59)) || (decide (0 < data.length) && decide (data.length ≤ 4)) then
    (h.dropTransfer n c).odapSend n c (odapInitiate fd 5 t.index t.sub (some data) none)
  else
    (h.putTransfer { t with segmented := true, size := data.length, data := data, toggle := false, complete := false }).odapSend n c
      (odapInitiate fd 5 t.index t.sub none (some data.length))

/-! ### The answer to an access (R43, R51, R53) -/

/-- The response of the hub to a SYSTEM request goes back by the port it came from (R53, R55). Its HOPS_LEFT is the distance back to
the originating hub and its DIRECTION that of the port it leaves by; R53 states neither for a response (log 56). -/
def Hub.sysRespond (h : Hub) (p : Nat) (originDepth : Byte) (reqId : BitVec 16) (op : Byte) (index : BitVec 16) (sub : Byte)
    (status : Abort) (data : Bytes) : Hub :=
  let hops := if p = 2 then 1 else max 1 (max h.links.hopDepth originDepth.toNat - min h.links.hopDepth originDepth.toNat)
  h.sysOut p
    { reqId := reqId, op := op ||| 0x80, hopsLeft := hops, index := index, sub := sub,
      direction := h.directionOf p, originDepth := originDepth, status := BitVec.ofNat 32 status, data := data }

/-- The outcome of a dictionary access goes back on its path. The access served stands at the head of Keeper's queue; an
ODAP answer goes to the client's open transfer, unless another one has taken its place (R49); a SYSTEM answer becomes a
response, the mailbox keeps it for MBX_COMPLETE. -/
def Hub.answer (h : Hub) (path : Path) (status : Abort) (data : Bytes) : Hub :=
  let h1 := h.emit (.answer path status data)
  match path with
  | .keeper => h1
  | .mailbox =>
    if h1.ctl.mailbox.phase = .localAccess ∧ (h1.ctl.keeperQ.find? (fun a => decide (a.path = path))).all (fun a => !a.silent) then
      { h1 with ctl := { h1.ctl with mailbox := { h1.ctl.mailbox with phase := .outcome status data } } }
    else h1
  | .odap n c => match h1.transfer? n.val c.toNat, h1.ctl.keeperQ.find? (fun a => decide (a.path = path)) with
    | some t, some a => if a.silent then h1 else h1.odapAnswer t status data
    | some t, none => h1.odapAnswer t status data
    | none, _ => h1
  | .system p depth reqId => match h1.ctl.keeperQ.find? (fun a => decide (a.path = path)) with
    | some a => h1.sysRespond p.val depth reqId (if a.write = none then 1 else 2) (BitVec.ofNat 16 a.index)
        (BitVec.ofNat 8 a.sub) status data
    | none => h1

/-- A random number, where the TRNG lets the DRBG give one (R514). -/
def Hub.drawOk (h : Hub) : Bool := decide (h.sec.trng = .running)

/-- The abort code of an operation that needs a random value while none is given (R514). -/
def abRandom : Abort := abHardware Ev.trngFault

end Sys2Proof.Machine
end

