-- ==== Sys2Proof/Machine/Events.lean ====
section
/-!
DEFINITION. Counting and firing of events (chapters 18 and 20): the operations that every other family uses, and the event
unit's own.
-/

namespace Sys2Proof.Machine

/-! ### Counters (R580 to R583) -/

/-- COUNT entry of counter n. -/
def cntEntry (n : Nat) : Entry := Od.cntCount (n / 128) (n % 128)

/-- Counter n counts k more; 48 bits, wrapping (R580). -/
def Hub.count (h : Hub) (n k : Nat) : Hub := h.bump (cntEntry n) 48 k

/-- Add k to the counters whose SELECT cells, given as a list, name the item. -/
def countSelected (want k : Nat) : List (Nat × Nat) → Hub → Hub
  | [], h => h
  | (key, v) :: t, h =>
    countSelected want k t (if key / 256 = 0x6010 ∧ v = want ∧ 0 < key % 256 then h.count (255 + key % 256) k else h)

/-- k happenings of ITEM and INSTANCE are added to every counter that selects them (R582). -/
def Hub.tally (h : Hub) (item inst k : Nat) : Hub := countSelected (inst * 65536 + item) k h.od.cells h

/-! ### Firing (R531, R535) -/

/-- How many details a source holds. -/
def EvtSt.held (e : EvtSt) (src : Nat) : Nat := (e.details.filter (fun d => d.source = src)).length

/-- The newest detail of a source takes a new firing (R535). -/
def mergeNewest (src clk : Nat) (data : Bytes) : List Detail → List Detail
  | [] => []
  | d :: t =>
    if d.source = src ∧ (t.all (fun x => x.source ≠ src)) then
      { d with data := data, clock := clk, count := min 255 (d.count + 1), lost := true } :: t
    else d :: mergeNewest src clk data t

/-- Queue one detail, or merge it, or let it wait for a free entry; says whether a detail was lost (R535). -/
def Hub.queueDetail (h : Hub) (src : Nat) (data : Bytes) (soft wake : Bool) : Hub × Bool :=
  let clk := trunc 32 h.ns
  let d : Detail := { source := src, clock := clk, data := data.take 56, soft := soft, wake := wake, lost := false, count := 1 }
  if h.evt.held src < h.val Od.evtDetailLimit ∧ h.evt.details.length < 1024 then
    ({ h with evt := { h.evt with details := h.evt.details ++ [d] } }, false)
  else if h.evt.held src = 0 then
    ({ h with evt := { h.evt with waiting := h.evt.waiting ++ [d] } }, false)
  else ({ h with evt := { h.evt with details := mergeNewest src clk (data.take 56) h.evt.details } }, true)

/-- A source in AON other than the changes of the domains themselves (R548): Beacon and encoder inputs, mooring block, key
store, power manager, wake latches. -/
def aonSource (src : Nat) : Bool :=
  decide (src / 16 = 4) || decide (src / 16 = 8) || (decide (0x93 ≤ src) && decide (src ≤ 0x9C)) || decide (0xF0 ≤ src)

/-- A source fires: its counter counts, and a detail is queued (R530, R531, R535). A reserved source never fires. A source in AON
returns a KEEPER domain in retention to on (R558). -/
def Hub.fireWith (h0 : Hub) (src : Nat) (data : Bytes) (soft wake : Bool) : Hub :=
  let h := if aonSource src ∧ (h0.domain 1).state = .retention ∧ !soft then
      (((h0.setDomain 1 { h0.domain 1 with state := .on }).tally 0x0F01 1 1).count Ev.domainChanged 1).queueDetail Ev.domainChanged (u8 1 ++ u8 0) false false |>.1
    else h0
  if evtReserved src then h
  else
    let q := (h.count src 1).queueDetail src data soft wake
    if q.2 then
      let h2 := q.1.flag Rg.evtFlags 2
      ((h2.count Ev.evtDetailLost 1).queueDetail Ev.evtDetailLost (u16 src) false false).1
    else q.1

/-- An event fires with the data its owner gives. -/
def Hub.fire (h : Hub) (src : Nat) (data : Bytes) : Hub := h.fireWith src data false false

/-- MSI-X vector v is signalled (R439, R440): masked, or with Bus Master Enable at 0, it is pending. -/
def Hub.msix (h : Hub) (v : Nat) : Hub :=
  let masked := bit 0 (h.hb.msixTable.get 1 (4 * v + 3))
  let b := h.hb
  if !b.busMaster || !b.msixEnable || b.msixFunctionMask || masked then { h with hb := { b with msixPending := setBit v b.msixPending } }
  else h.emit (.msix v)

/-! ### Command channels (R57 to R62) -/

/-- The state of channel c. -/
def Hub.chan (h : Hub) (c : Nat) : Channel := h.ctl.channels.get Channel.init c

/-- Replace the state of channel c. -/
def Hub.setChan (h : Hub) (c : Nat) (x : Channel) : Hub :=
  { h with ctl := { h.ctl with channels := h.ctl.channels.set Channel.init c x } }

/-- R60, when a command is accepted: the previous result goes, the new tag stands, the channel runs. -/
def Hub.accept (h : Hub) (c code tag : Nat) (command : Bytes) : Hub :=
  h.setChan c { state := .running, tag := tag, code := code, command := command, result := [] }

/-- R60, when the command of a running channel ends: RESULT is written, then the channel is done. -/
def Hub.finish (h : Hub) (c status : Nat) (data : Bytes) : Hub :=
  let x := h.chan c
  if x.state = .running then
    h.setChan c { x with state := .done, result := u16 x.tag ++ u16 x.code ++ u32 status ++ data }
  else h

/-- End the command of a channel, where there is one. -/
def Hub.finishOpt (h : Hub) (c : Option Nat) (status : Nat) (data : Bytes) : Hub :=
  match c with
  | some c => h.finish c status data
  | none => h

/-- PORST_N is low: the whole hub is held in power-on reset (R564). -/
def Hub.inPorst (h : Hub) : Bool := decide (h.pwr.bootPhase = .porst)

/-- Keeper runs, from its firmware or from the boot ROM it stayed in, and serves accesses (R36, R549, R571). -/
def Hub.keeperUp (h : Hub) : Bool := (decide (h.pwr.bootPhase = .keeper) || decide (h.pwr.bootPhase = .romStay)) && h.domOn 1

/-! ### Keeper serves accesses one at a time (R36) -/

/-- Step 4 of R33 for a read and for a write (R41). -/
def Hub.pathDenied (h : Hub) (path : Path) (write : Bool) : Bool :=
  match path with
  | .system _ _ _ => decide (h.val Od.remoteRemoteEnable = 0)
  | .odap _ _ => write && decide (h.val Od.odapOdapWriteEnable = 0)
  | _ => false

/-- The access of a path to an entry: a write of `b`, or a read. -/
def accessOf (path : Path) (key : Nat) (b : Option Bytes) : Access := ⟨path, key / 256, key % 256, b, false, false⟩

/-- An access stands last in Keeper's queue. -/
def Hub.keeperJoin (h : Hub) (a : Access) : Hub := { h with ctl := { h.ctl with keeperQ := h.ctl.keeperQ ++ [a] } }

/-- An access joins Keeper's queue. -/
def Hub.keeperTake (h : Hub) (path : Path) (index sub : Nat) (write : Option Bytes) : Hub :=
  h.keeperJoin ⟨path, index, sub, write, false, false⟩

/-- An access leaves Keeper's queue. -/
def Hub.keeperLeave (h : Hub) (a : Access) : Hub := { h with ctl := { h.ctl with keeperQ := h.ctl.keeperQ.erase a } }

/-- An initiate frame from a client whose transfer is still open drops it: complete downloads act without a response (R49). -/
def Hub.odapReplace (h : Hub) (n client : Nat) : Hub :=
  match h.transfer? n client with
  | none => h
  | some t =>
    let h1 := h.dropTransfer n client
    let path : Path := .odap t.port t.client
    let q := h1.ctl.keeperQ.filterMap (fun a =>
      if a.path ≠ path ∨ a.silent then some a
      else if a.write.isSome then some { a with silent := true } else none)
    { h1 with ctl := { h1.ctl with keeperQ := q } }

/-- An access that a row brings whole joins Keeper's queue; Keeper serves it at once where none stands before it, and in its turn
otherwise (R36). On ODAP it takes the place of its client's open transfer (R37). -/
def Hub.turn (h : Hub) (a : Access) (serve : Hub → Hub) : Hub :=
  if h.keeperUp then
    let h0 := match a.path with
      | .odap n c => h.odapReplace n.val c.toNat
      | _ => h
    if h0.ctl.keeperQ = [] then (serve (h0.keeperJoin a)).keeperLeave a else h0.keeperJoin a
  else h

/-- What is refused of a command before its arguments are looked at: strap fault refuses every code on every path but Keeper's own
(R30), a path that may not write gives ACCESS_DENIED (R41), and the boot ROM knows four codes (R571). -/
def Hub.codeRefused (h : Hub) (req : Path) (code : Nat) : Option Abort :=
  if h.mode.active = .strapFault ∧ req ≠ .keeper then some (abState stStrapFault)
  else if h.pathDenied req true then some abDenied
  else if h.pwr.bootPhase = .romStay ∧ code ∉ [0x0100, 0x0112, 0x0113, 0x0114] then some abUnknown
  else none

/-- A command whose code is refused, or that finds no Keeper to serve it, goes no further. -/
def Hub.withCode (h : Hub) (req : Path) (code : Nat) (go : Hub) : Hub :=
  if h.keeperUp then
    match h.codeRefused req code with
    | some a => h.answer req a []
    | none => go
  else h

/-- Steps 5 and 6 of R33 for COMMAND, of which bytes 0 to 3 are the code and the tag: a DOMAIN value holds at most 1,024 bytes, and
COMMAND at most 256 (R57). -/
def lengthOr (args : Bytes) (arg : Option Abort) : Option Abort :=
  if 1020 < args.length then some abLength else if 252 < args.length then some (abValue 1) else arg

/-- The checks of R59 after the code is known, in order: the arguments (`arg`: the abort code of the first faulty one), the
channel, the state (`st`: the state that prevents the command); then R60 and the command's effect. -/
def Hub.issue (h : Hub) (req : Path) (c code tag : Nat) (args : Bytes) (arg : Option Abort) (st : Option Nat)
    (start : Hub → Hub) : Hub :=
  h.withCode req code (match lengthOr args arg with
    | some a => h.answer req a []
    | none =>
      if (h.chan c).state = .running then h.answer req (abState stChannelBusy) []
      else match st with
        | some s => h.answer req (abState s) []
        | none => start ((h.accept c code tag args).answer req 0 []))

/-- The length check of a command's arguments: the byte offset of the first missing or surplus byte (log 10). -/
def argLen (args : Bytes) (n : Nat) : Bool × Abort := (decide (args.length ≠ n), abArg (4 + min args.length n))

/-- The states that hold, in the order of R59: the first one is named. -/
def firstState : List (Bool × Nat) → Option Nat
  | [] => none
  | (b, s) :: t => if b then some s else firstState t

/-- The first check that fails, in order. -/
def firstAbort : List (Bool × Abort) → Option Abort
  | [] => none
  | (bad, a) :: t => if bad then some a else firstAbort t

/-- Records a ring holds: 16 times a power of two (R537). -/
def Ring.records (x : Ring) : Nat := 16 * 2 ^ x.size

/-- Records written and not yet consumed. -/
def Ring.used (x : Ring) : Nat := (x.wr + x.records - x.rd % x.records) % x.records

/-- The ring is not empty. -/
def Ring.nonEmpty (x : Ring) : Bool := x.used ≠ 0

/-- A ring with the given NOTIFY is not empty (R538). -/
def Hub.ringNotifies (h : Hub) (n : Nat) : Bool := h.evt.rings.cells.any (fun c => decide (c.2.notify = n) && c.2.nonEmpty)

/-- FAULT_N is low: strap fault (R30), a stay in the boot ROM (R571) or a stopped crystal (R564). -/
def Hub.faultLow (h : Hub) : Bool :=
  decide (h.mode.active = .strapFault) || decide (h.pwr.bootPhase = .romStay) || h.pwr.xtalStopped

/-- A line that changed its level shows it. -/
def lineChange (l : Line) (was is : Bool) (out : List Out) : List Out :=
  if was = is then out else .line l (if is then 1 else 0) :: out

/-- The lines whose levels the hub's state alone decides take them: EVT_N is low exactly while a ring with NOTIFY 2 is not empty,
Keeper's interrupt stands exactly while one with NOTIFY 3 is not (R538), FAULT_N is low exactly while a rule holds it so. -/
def Hub.settle (h : Hub) : Hub :=
  { h with
    out := lineChange .evtN h.evt.evtN (!h.ringNotifies 2) (lineChange .keeperIrq h.evt.keeperIrq (h.ringNotifies 3)
      (lineChange .faultN (!h.mode.faultN) (!h.faultLow) h.out))
    mode := { h.mode with faultN := h.faultLow }
    evt := { h.evt with evtN := !h.ringNotifies 2, keeperIrq := h.ringNotifies 3 } }

/-- A meaning over the hub alone: the queue stays as the step left it, and the lines take their levels. -/
def onPins (f : Hub → Hub) (s : State) : Host.Outcome State Fault Refusal := .next { s with hub := (f s.hub).settle }

/-- A meaning that has no effect while PORST_N is low (R564). -/
def onHub (f : Hub → Hub) (s : State) : Host.Outcome State Fault Refusal :=
  if s.hub.inPorst then .next s else onPins f s

/-- A row that is a command of the dictionary: a write of COMMAND of channel c by a path, in Keeper's order (R36, R58). -/
def onCommand (code : Nat) (req : Path) (c tag : Nat) (args : Bytes) (f : Hub → Hub) (s : State) : Host.Outcome State Fault Refusal :=
  onHub (fun h => h.turn (accessOf req (Od.cmdCommand c).key (some (u16 code ++ u16 tag ++ args))) f) s

end Sys2Proof.Machine
end

