-- ==== Sys2Proof/Machine/Fabric.lean ====
section
/-!
DEFINITION. What every chapter may send along the chain: fog signals (R126), SYSTEM requests of this hub (R37, R53 to R55),
and free values that the spec leaves open.
-/

namespace Sys2Proof.Machine

/-- A value that the spec does not state (log 13). -/
def Hub.open_ (h : Hub) (w : Nat) : Hub × Nat := ({ h with draws := h.draws + 1 }, trunc w (Config.unstated h.draws))

/-- A fuse field as latched at the last PORST_N (R502, R504), by its number of R527; lock record r is field 8 + r. -/
def Hub.fuse (h : Hub) (k : Nat) : Nat := h.sec.latched.get 0 k

/-- The state of link p is RUNNING. -/
def Hub.running (h : Hub) (p : Nat) : Bool := decide ((h.link p).state = .running)

/-- Ports whose link is RUNNING. -/
def Hub.runningPorts (h : Hub) : List Nat := [0, 1, 2].filter h.running

/-- A fog signal goes out by the given ports: the first of three copies at once (R126). -/
def Hub.fogSend (h : Hub) (f : FogSignal) : List Nat → Hub
  | [] => h
  | p :: t =>
    let h1 := h.blockOut p (fogBytes f)
    Hub.fogSend { h1 with links := { h1.links with fogCopies := h1.links.fogCopies ++ [⟨f, p, 2⟩] } } f t

/-- A pair (ORIGIN, FOG_SEQ) is among the last 16 seen (R126). -/
def Hub.fogSee (h : Hub) (f : FogSignal) : Hub :=
  { h with links := { h.links with fogSeen := ((f.origin, f.seq) :: h.links.fogSeen).take 16 } }

/-- The hub originates a fog signal on every link in RUNNING (R126); its own signals count as seen (log 12). -/
def Hub.fogOriginate (h : Hub) (cause detail : Nat) : Hub :=
  let f : FogSignal := ⟨BitVec.ofNat 8 cause, BitVec.ofNat 48 Config.serial, BitVec.ofNat 8 h.links.fogSeq,
    BitVec.ofNat 8 h.links.hopDepth, BitVec.ofNat 16 detail⟩
  let h1 := { h with links := { h.links with fogSeq := (h.links.fogSeq + 1) % 256 } }
  (h1.fogSee f).fogSend f h1.runningPorts

/-- LOOPBACK q acts: only in BENCH (R588). -/
def Hub.loopOn (h : Hub) (q : Nat) : Bool := decide (h.mode.active = .bench) && decide (h.val (Od.obsLoopback q) ≠ 0)

/-! ### Messages of the SYSTEM tunnels (R53, R220) -/

/-- A pair message or a mirror record leaves by link p (R449): to the neighbour, INDEX and SUB 0. R449 gives its REQ_ID no
value (log 26). -/
def Hub.pairPut (h : Hub) (p : Nat) (op : Byte) (data : Bytes) : Hub :=
  let r := h.open_ 16
  r.1.sysPut p (sysBytes
    { reqId := BitVec.ofNat 16 r.2, op := op, hopsLeft := 1, index := 0, sub := 0, direction := h.directionOf p,
      originDepth := BitVec.ofNat 8 h.links.hopDepth, status := 0, data := data })

/-! ### SYSTEM requests of this hub -/

/-- Requests toward a target that have been sent (R37). -/
def CtlSt.sentTo (c : CtlSt) (target : Nat) : Nat := (c.requests.filter (fun r => decide (r.target = target) && r.sent)).length

/-- A request leaves (R53). -/
def Hub.sysLeave (h : Hub) (r : SysRequest) (p direction hops : Nat) : Hub :=
  let data := r.write.getD []
  h.sysOut p
    { reqId := BitVec.ofNat 16 r.reqId, op := if r.write = none then 1 else 2, hopsLeft := hops,
      index := BitVec.ofNat 16 r.index, sub := BitVec.ofNat 8 r.sub, direction := direction,
      originDepth := BitVec.ofNat 8 h.links.hopDepth, status := 0, data := data }

/-- The port, DIRECTION and hops toward a TARGET, where its SYSTEM tunnel is OPEN (R54, R55). -/
def Hub.sysPort (h : Hub) (target : Nat) : Option (Nat × Nat × Nat) :=
  match h.route target with
  | some (some p, direction, hops) => if h.sysOpen p then some (p, direction, hops) else none
  | _ => none

/-- A request of this hub leaves (R53): it is outstanding from now on. -/
def Hub.sysSend (h : Hub) (r : SysRequest) (p direction hops : Nat) : Hub :=
  ({ h with ctl := { h.ctl with requests := h.ctl.requests.map (fun x => if x.reqId = r.reqId then { x with sent := true } else x) } } : Hub).sysLeave
    r p direction hops

/-- Begin a request toward a TARGET of R54: the abort code where it ends at once (R54, R55). It waits behind those that wait
already, and while eight are outstanding (R37). -/
def Hub.sysAsk (h : Hub) (target : Nat) (byMailbox : Bool) (index sub : Nat) (write : Option Bytes) : Hub × Option Abort :=
  if (h.route target).isNone then (h, some (abProtocol 6))
  else match h.sysPort target with
    | none => (h, some abNoRoute)
    | some (p, direction, hops) =>
      let r : SysRequest := { reqId := h.ctl.nextReqId, target := target, byMailbox := byMailbox, index := index, sub := sub,
                              write := write, sent := false }
      let h1 := { h with ctl := { h.ctl with requests := h.ctl.requests ++ [r], nextReqId := (h.ctl.nextReqId + 1) % 65536 } }
      let wait := decide (8 ≤ h.ctl.sentTo target) || h.ctl.requests.any (fun x => decide (x.target = target) && !x.sent)
      (if wait then h1 else h1.sysSend r p direction hops, none)

/-- A fired record is delivered: as an event, and to the tunnel it came through (R322). -/
def Hub.deliverRecord (h : Hub) (record : Bytes) (source : Option Nat) : Hub :=
  let h1 := h.fire Ev.daymarkFired record
  match source with
  | some hd => { h1 with dm := { h1.dm with fired := h1.dm.fired ++ [(hd, record)] } }
  | none => h1

/-- The command that a daymark started has ended: its second record, with COMPLETION and the status (R321). -/
def Hub.completeAction (h : Hub) (c status : Nat) : Hub :=
  match h.dm.actions.find? (fun a => decide (a.1 = c)) with
  | some (_, record, source) =>
    let h1 := { h with dm := { h.dm with actions := h.dm.actions.filter (fun a => decide (a.1 ≠ c)) } }
    h1.deliverRecord (record.take 2 ++ u8 0x80 ++ (record.drop 3).take 13 ++ u32 status ++ u32 0) source
  | none => h

/-- The command of a channel ends; a number from 8 up is a daymark's action (R321). -/
def Hub.done (h : Hub) (c status : Nat) (data : Bytes) : Hub :=
  if c < 8 then h.finish c status data else h.completeAction c status

/-- End the command of a channel, where there is one. -/
def Hub.doneOpt (h : Hub) (c : Option Nat) (status : Nat) (data : Bytes) : Hub :=
  match c with
  | some c => h.done c status data
  | none => h

/-! ### The mirror toward a STANDBY (R450, R451) -/

/-- A full copy or change records go to the STANDBY: PLK is RUNNING at a primary with a STANDBY beyond it. -/
def Hub.mirroring (h : Hub) : Bool :=
  decide (h.mode.active = .lighthouse) && h.running 2 && decide ((h.link 2).farMode = some 2)

/-- What waited for an acknowledgement ends. -/
def Hub.runEnd (h : Hub) : MirrorEnd → Hub
  | .command c status data => h.done c status data
  | .write path =>
    let h1 := h.answer path 0 []
    { h1 with ctl := { h1.ctl with keeperQ := h1.ctl.keeperQ.filter (fun a => !(decide (a.path = path) && a.served)) } }

/-- A change record is sent (R450). -/
def Hub.mirrorNote (h : Hub) (r : MirrorRec) : Hub :=
  if !h.mirroring || (!h.pair.inStep && h.pair.resync.isNone) then h
  else
    let q := h.pair.mirrorSeq
    let h1 := { h with pair := { h.pair with mirrorSeq := (q + 1) % 65536, unacked := h.pair.unacked ++ [(q, [])] } }
    ((h1.emit (.mirror q r)).pairPut 2 0x36 ((Config.mirrorData q r).take 1024)).tally 0x0C02 0 1

/-- The last unacknowledged record has one more end waiting for it. -/
def attachEnd (e : MirrorEnd) : List (Nat × List MirrorEnd) → List (Nat × List MirrorEnd)
  | [] => []
  | [(q, l)] => [(q, l ++ [e])]
  | x :: t => x :: attachEnd e t

/-- A command or write that changed mirrored state ends: once its records are acknowledged while the mirror is in step,
otherwise at once (R451). -/
def Hub.endMirrored (h : Hub) (e : MirrorEnd) : Hub :=
  if h.mirroring && h.pair.inStep && decide (h.pair.unacked ≠ []) then
    { h with pair := { h.pair with unacked := attachEnd e h.pair.unacked } }
  else h.runEnd e

/-- A command on mirrored state ends, where there is one. -/
def Hub.doneMirrored (h : Hub) (c : Option Nat) (status : Nat) (data : Bytes) : Hub :=
  match c with
  | some c => h.endMirrored (.command c status data)
  | none => h

/-- The hub is a STANDBY (R452), or a swap is in progress at it (R453). -/
def Hub.standby (h : Hub) : Bool := decide (h.mode.active = .standby)
def Hub.swapping (h : Hub) : Bool := h.pair.swap.isSome
/-- The hub is in FOGHORN. -/
def Hub.inFog (h : Hub) : Bool := decide (h.mode.active = .foghorn)

end Sys2Proof.Machine
end

