-- ==== Sys2Proof/Machine/Observability.lean ====
section
/-!
DEFINITION. Counters, comparators, snapshots, observation, the debug state and JTAG (chapter 20); LOOPBACK, which acts on the
lanes and ports, stands in Machine/Service.lean.
-/

namespace Sys2Proof.Machine

/-! ### SELECT and the comparators (R582, R583) -/

/-- The ITEM codes of R582 from and to, and the INSTANCE values of each. -/
def selectRanges : List (Nat × Nat × (Nat → Bool)) := [
  (0x0101, 0x0105, fun n => decide (n < 5)), (0x0201, 0x0208, fun n => decide (n < 3)), (0x0301, 0x0303, fun _ => true),
  (0x0304, 0x0304, fun n => decide (n < 32)), (0x0401, 0x0404, fun n => decide (n < 32) || decide (n = 0xFFFF)),
  (0x0501, 0x0501, fun n => decide (n < 0x800) && decide (3 ≤ n % 256) && decide (n % 256 < 32)),
  (0x0502, 0x0504, fun n => decide (n < 8)), (0x0505, 0x0506, fun n => decide (3 ≤ n) && decide (n < 32)),
  (0x0507, 0x0508, fun n => decide (n < 6)), (0x0601, 0x0602, fun n => decide (n < 8)), (0x0603, 0x0604, fun n => decide (n < 3)),
  (0x0605, 0x0605, fun n => decide (n < 3)), (0x0701, 0x0704, fun n => decide (n < 4)), (0x0705, 0x0706, fun n => decide (n < 24)),
  (0x0801, 0x0803, fun n => decide (egressOfCode n < 32)), (0x0804, 0x0805, fun n => decide (n = 0)),
  (0x0901, 0x0903, fun n => decide (n = 0x40) || decide (n = 0x41) || (decide (n / 256 = 0x48) && decide (n % 256 < 4))),
  (0x0A01, 0x0A04, fun n => decide (n < 0x800)), (0x0B01, 0x0B03, fun n => decide (n = 0)), (0x0B04, 0x0B04, fun n => decide (n < 16)),
  (0x0B05, 0x0B06, fun n => decide (n < 32)), (0x0B07, 0x0B07, fun n => decide (n = 0)), (0x0C01, 0x0C04, fun n => decide (n = 0)),
  (0x0D01, 0x0D03, fun n => decide (n < 2)), (0x0D04, 0x0D04, fun n => decide (1 ≤ n) && decide (n ≤ 6)),
  (0x0E01, 0x0E02, fun _ => true), (0x0E03, 0x0E03, fun n => decide (n = 0)), (0x0E04, 0x0E07, fun _ => true),
  (0x0E08, 0x0E08, fun n => decide (n = 0)), (0x0F01, 0x0F01, fun n => decide (n < 18)), (0x0F02, 0x0F03, fun n => decide (n = 0))]
where
  /-- A port code of R148 names a local port. -/
  egressOfCode (n : Nat) : Nat :=
    if (0x10 ≤ n ∧ n ≤ 0x17) ∨ (0x20 ≤ n ∧ n ≤ 0x25) ∨ n = 0x30 ∨ n = 0x40 ∨ n = 0x41 ∨ n = 0x48 ∨ n = 0x49 ∨ n = 0x50 ∨ n = 0x51 ∨
      n = 0x60 ∨ n = 0x61 ∨ (0x70 ≤ n ∧ n ≤ 0x75) ∨ n = 0x80 ∨ n = 0x90 ∨ n = 0xA0 then 0 else 32

/-- A SELECT value that R582 accepts. -/
def selectOk (v : Nat) : Bool :=
  decide (v = 0) || selectRanges.any (fun r => decide (r.1 ≤ v % 65536) && decide (v % 65536 ≤ r.2.1) && r.2.2 (v / 65536))

/-- A write of SELECT of counter 256 + n (R582). -/
def Hub.selectWrite (h : Hub) (n v : Nat) : Hub :=
  if selectOk v then (h.put (Od.cntSelect n) v).put (cntEntry (256 + n)) 0 else h

/-- An INSTANCE that R583 gives an occupancy. -/
def occInstance (occ n : Nat) : Bool :=
  if occ = 2 then decide (n < 0x800) && decide (n % 256 < 3) else if occ = 3 then decide (n < 3)
  else if occ = 5 then decide (3 ≤ n) && decide (n < 32) else if occ = 6 then decide (n < 32) else if occ = 7 then true else decide (n = 0)

/-- A write of OCC, INSTANCE or N of comparator k, which = 0, 1, 2 (R583). -/
def Hub.cmpWrite (h : Hub) (k which v : Nat) : Hub :=
  let ok : Bool := if which = 0 then decide (v ≤ 11) else if which = 1 then decide (v < 65536) && occInstance (h.val (Od.cmpOcc k)) v else true
  let e := if which = 0 then Od.cmpOcc k else if which = 1 then Od.cmpInstance k else Od.cmpN k
  if ok then (h.put e v).put (cntEntry (352 + k)) 0 else h

/-- Comparator k reaches LIMIT (R583). -/
def Hub.cmpLimit (h : Hub) (k : Nat) : Hub :=
  let lim := h.val (Od.cmpLimit k)
  if lim = 0 ∨ h.obs.reached.get 0 k = 1 then h
  else
    let h1 := h.put (cntEntry (352 + k)) (max lim (h.val (cntEntry (352 + k))))
    { h1 with obs := { h1.obs with reached := h1.obs.reached.set 0 k 1 } }.fire Ev.cmpLimit (u8 k)

/-! ### Snapshots (R584, R585) -/

/-- Snapshot bank b. -/
def Hub.bank (h : Hub) (b : Nat) : SnapBank := h.obs.banks.get SnapBank.init b

/-- Replace snapshot bank b. -/
def Hub.setBank (h : Hub) (b : Nat) (x : SnapBank) : Hub := { h with obs := { h.obs with banks := h.obs.banks.set SnapBank.init b x } }

/-- The numbers that U16 items of a string give. -/
def u16List : Bytes → List Nat
  | a :: b :: t => (a.toNat + 256 * b.toNat) :: u16List t
  | _ => []

/-- The AT of the command that waits on a bank has come (R585). -/
def Hub.snapDue (h : Hub) (x : SnapBank) : Bool := match x.pendingAt with
  | some t => decide (t ≤ h.clock)
  | none => false

/-- A command whose AT has come ends at the capture of bank b; a daymark that captures before AT leaves it waiting (log 14). -/
def Hub.snapEnds (h : Hub) (b : Nat) : Hub :=
  let x := h.bank b
  if h.snapDue x then
    (h.setBank b { x with pendingAt := none, command := none }).finishOpt x.command 0 (u32 x.seq ++ u64 (x.clock / 10))
  else h

/-- The core cycle in which an instant of CLOCK lies: 1.25 ns, or 2.5 ns while the core is slowed. -/
def Hub.cycleAt (h : Hub) (t : Nat) : Nat := if h.pwr.slow then t / 25 else 2 * t / 25

/-- A capture into bank b (R585): one in a core cycle. -/
def Hub.snapCapture (h : Hub) (b : Nat) : Hub :=
  let x := h.bank b
  if x.seq ≠ 0 ∧ h.cycleAt x.clock = h.cycleAt h.clock then h.snapEnds b
  else
    let seq := trunc 32 (x.seq + 1)
    let vals := (u16List (h.blobVal (Od.snapSnapList b))).map (fun n => h.val (cntEntry n))
    ((h.setBank b { x with seq := seq, clock := h.clock, values := vals }).fire Ev.snapshotDone (u8 b ++ u32 seq)).snapEnds b

/-- The argument checks of CNT_SNAPSHOT (R592). -/
def Hub.snapshotArgs (h : Hub) (args : Bytes) : Option Abort :=
  let at_ := field args 4 8
  firstAbort [argLen args 12,
    (decide (3 < field args 0 1) || (h.bank (field args 0 1)).pendingAt.isSome, abArg 4),
    (decide (field args 1 3 ≠ 0), abArg 5),
    (decide (at_ ≠ 0) && (decide (at_ < h.ns + 1000) || decide (h.ns + 10000000000 < at_)), abArg 8)]

/-- CNT_SNAPSHOT, code 0x0C10. -/
def Hub.cmdCntSnapshot (h : Hub) (req : Path) (c tag : Nat) (args : Bytes) : Hub :=
  h.issue req c 0x0C10 tag args (h.snapshotArgs args) none
    (fun h =>
      let b := field args 0 1
      let at_ := field args 4 8
      let h1 := h.setBank b { h.bank b with pendingAt := some (10 * at_), command := some c }
      if at_ ≠ 0 then h1 else h1.snapCapture b)

/-! ### Observation and debug (R586, R587) -/

/-- The debug state is UNLOCKED (R587). -/
def Hub.debugUnlocked (h : Hub) : Bool := decide (h.fuse 6 = 0) || h.obs.unlocked

/-- OBS_ENABLE returns to 0 (R586). -/
def Hub.obsOff (h : Hub) : Hub := if h.val Od.obsObsEnable = 0 then h else (h.put Od.obsObsEnable 0).emit (.line .obs 2)

/-- A write of OBS_ENABLE (R586). -/
def Hub.obsEnable (h : Hub) (v : Bool) : Hub :=
  if !v then h.obsOff
  else if h.mode.active = .bench ∨ h.debugUnlocked then (h.put Od.obsObsEnable 1).emit (.line .obs 1) else h

/-- A write of OBS_GROUP (R586): a change raises OBS_CHANGED. -/
def Hub.obsGroup (h : Hub) (v : Nat) : Hub :=
  if 63 < v ∨ v = h.val Od.obsObsGroup then h
  else (h.put Od.obsObsGroup v).fire Ev.obsChanged (u8 v ++ u8 (h.val Od.obsObsEnable))

/-- Within 1 s of a failed unlock (R587). -/
def Hub.debugHeld (h : Hub) : Bool := match h.obs.failedAt with
  | some t => decide (h.clock < t + 10000000000)
  | none => false

/-- DEBUG_CHALLENGE, code 0x0C11 (R587). -/
def Hub.cmdDebugChallenge (h : Hub) (req : Path) (c tag : Nat) (args : Bytes) : Hub :=
  h.issue req c 0x0C11 tag args (firstAbort [argLen args 0])
    (firstState [(h.debugUnlocked || h.debugHeld, stDebugLocked)])
    (fun h =>
      if !h.drawOk then h.finish c abRandom []
      else
        let d := h.draw
        let n := leBytes 32 d.2
        { d.1 with obs := { d.1.obs with nonce := some n } }.finish c 0 n)

/-- DEBUG_UNLOCK, code 0x0C12 (R587): the attempt uses the nonce up, and its check waits for the ECC engine (R512). -/
def Hub.cmdDebugUnlock (h : Hub) (req : Path) (c tag : Nat) (args : Bytes) : Hub :=
  h.issue req c 0x0C12 tag args (firstAbort [argLen args 128]) (firstState [(h.obs.nonce.isNone, stDebugLocked)])
    (fun h =>
      { h with obs := { h.obs with nonce := none },
               sec := { h.sec with ecc := h.sec.ecc ++ [(.debug (args.take 64) (h.obs.nonce.getD []) (args.drop 64), some c)] } })

/-- The string that a debug unlock signs. -/
def debugMessage (nonce : Bytes) : Bytes := "HX64-DBG".toUTF8.toList.map (·.toBitVec) ++ nonce ++ u64 Config.serial

/-- The ECC engine has checked a debug unlock (R587): DEBUG_KEY_HASH holds the hash with byte 0 in its bits [7:0]. -/
def Hub.debugVerdict (h : Hub) (c : Nat) (publicKey nonce signature : Bytes) : Hub :=
  if (h.fuse 7 ≠ 0 ∨ h.mode.active = .bench) ∧ h.fuse 7 = leNat (Config.sha256 publicKey) ∧ Config.ecdsaVerify publicKey (Config.sha256 (debugMessage nonce)) signature then
    ({ h with obs := { h.obs with unlocked := true } }.fire Ev.debugUnlocked []).finish c 0 (u8 1)
  else ({ h with obs := { h.obs with failedAt := some h.clock } }.fire Ev.debugUnlockFailed []).finish c (abFailed 1) []

/-! ### Meanings -/

/-- CMP_LIMIT (R583). -/
def execCmpLimit (k : Fin 32) (s : State) := onHub (fun h => h.cmpLimit k) s

/-- CNT_LO_READ (R584): bits [31:0], and CNT_HI latched. -/
def execCntLoRead (n : Fin 384) (s : State) :=
  onHub (fun h =>
    let v := h.val (cntEntry n)
    { h with obs := { h.obs with cntHi := h.obs.cntHi.set 0 n (v / 2 ^ 32) } }.emit (.value (trunc 32 v))) s

/-- SNAP_CLOCK_LO_READ (R591): of SNAP_CLOCK_LO, or of the LO of entry e of the bank. -/
def execSnapClockLoRead (b : Fin 4) (e : Option (Fin 64)) (s : State) :=
  onHub (fun h =>
    let x := h.bank b
    match e with
    | none => (h.setBank b { x with latchedHi := x.clock / 10 / 2 ^ 32 }).emit (.value (trunc 32 (x.clock / 10)))
    | some e =>
      let v := x.values.getD e 0
      (h.setBank b { x with entryHi := x.entryHi.set 0 e (v / 2 ^ 32) }).emit (.value (trunc 32 v))) s

/-- CNT_SNAPSHOT as its own row. -/
def execCntSnapshot (req : Path) (c : Fin 8) (tag : BitVec 16) (args : Bytes) (s : State) :=
  onCommand 0x0C10 req c tag.toNat args (fun h => h.cmdCntSnapshot req c tag.toNat args) s

/-- SNAPSHOT_CAPTURE (R585): CLOCK reaches the AT of the command that waits on the bank. -/
def execSnapshotCapture (b : Fin 4) (s : State) :=
  onHub (fun h => match (h.bank b).pendingAt with
    | some t =>
      let h1 := { h with clock := max h.clock t }
      h1.snapCapture b
    | none => h) s

/-- DEBUG_CHALLENGE as its own row. -/
def execDebugChallenge (req : Path) (c : Fin 8) (tag : BitVec 16) (args : Bytes) (s : State) :=
  onCommand 0x0C11 req c tag.toNat args (fun h => h.cmdDebugChallenge req c tag.toNat args) s

/-- DEBUG_UNLOCK as its own row. -/
def execDebugUnlock (req : Path) (c : Fin 8) (tag : BitVec 16) (args : Bytes) (s : State) :=
  onCommand 0x0C12 req c tag.toNat args (fun h => h.cmdDebugUnlock req c tag.toNat args) s

/-- NONCE_EXPIRY (R587): 60 s. -/
def execNonceExpiry (s : State) := onHub (fun h => { h with obs := { h.obs with nonce := none } }) s

/-- A JTAG instruction is in force; one that needs the compliance condition acts as BYPASS without it (R589). -/
def Hub.jtagLoad (h : Hub) (i : Jtag) (compliance : Bool) : Hub :=
  { h with obs := { h.obs with jtag := if compliance ∧ h.mode.strap ≠ 0 then .bypass else i } }

/-- BYPASS (R589). -/
def execBypass (s : State) := onPins (fun h => h.jtagLoad .bypass false) s
/-- IDCODE (R589): the identification is shifted out. -/
def execIdcode (s : State) := onPins (fun h => (h.jtagLoad .idcode false).emit (.value 0x16400A7F)) s
/-- SAMPLE_PRELOAD (R589): the boundary register takes the bits shifted in. -/
def execSamplePreload (bits : Bytes) (s : State) :=
  onPins (fun h =>
    let h1 := h.jtagLoad .samplePreload false
    { h1 with obs := { h1.obs with boundary := bits } }) s
/-- EXTEST (R589). -/
def execExtest (s : State) := onPins (fun h => h.jtagLoad .extest true) s
/-- EXTEST_PULSE (R589). -/
def execExtestPulse (s : State) := onPins (fun h => h.jtagLoad .extestPulse true) s
/-- EXTEST_TRAIN (R589). -/
def execExtestTrain (s : State) := onPins (fun h => h.jtagLoad .extestTrain true) s
/-- CLAMP (R589). -/
def execClamp (s : State) := onPins (fun h => h.jtagLoad .clamp true) s
/-- HIGHZ (R589). -/
def execHighz (s : State) := onPins (fun h => h.jtagLoad .highz true) s

end Sys2Proof.Machine
end

