-- ==== Sys2Proof/Machine/Bandwidth.lean ====
section
/-!
DEFINITION. Egress capacity, admission, demotion, meters and colour (chapter 06): the operations the tunnels, the Tenders and
the switch core use.
-/

namespace Sys2Proof.Machine

/-- Context i. -/
def Hub.ctx (h : Hub) (i : Nat) : Ctx := h.tun.ctxs.get Ctx.init i

/-- Replace context i. -/
def Hub.setCtx (h : Hub) (i : Nat) (x : Ctx) : Hub := { h with tun := { h.tun with ctxs := h.tun.ctxs.set Ctx.init i x } }

/-- Change context i. -/
def Hub.updCtx (h : Hub) (i : Nat) (f : Ctx → Ctx) : Hub := h.setCtx i (f (h.ctx i))

/-- The contexts that are listed, allocated or freed since. -/
def Hub.ctxList (h : Hub) : List (Nat × Ctx) := h.tun.ctxs.cells.filter (fun c => decide (c.1 < 256))

/-- GEN of context i (R142): as its last allocation left it, otherwise the value that the reset loaded. -/
def Hub.gen (h : Hub) (i : Nat) : Nat :=
  let g := h.tun.gens.get 0 i
  if g = 0 then Config.random (h.tun.genBase + i) % 255 + 1 else g

/-- The handle of context i (R142); 0x0000 for context 0, which the SYSTEM tunnels share. -/
def Hub.handle (h : Hub) (i : Nat) : Nat := if i = 0 ∨ 256 ≤ i then 0 else 256 * h.gen i + i

/-- The egress of a port code of R148 (R179): 32 where the code has none. -/
def egressOfPort (code : Nat) : Nat :=
  if 0x10 ≤ code ∧ code ≤ 0x17 then code - 0x10 + 3
  else if code = 0x60 ∨ code = 0x61 then 11
  else if code = 0x48 ∨ code = 0x49 then code - 0x48 + 12
  else if code = 0x50 ∨ code = 0x51 then code - 0x50 + 14
  else if code = 0x30 then 16
  else if 0x20 ≤ code ∧ code ≤ 0x25 then code - 0x20 + 17
  else if 0x70 ≤ code ∧ code ≤ 0x75 then code - 0x70 + 23
  else if code = 0x90 then 29 else if code = 0x80 then 30 else if code = 0xA0 then 31 else 32

/-- The ingress of a port code (R266): as the egress, with CSI in the place of DSI. -/
def ingressOfPort (code : Nat) : Nat :=
  if code = 0x40 ∨ code = 0x41 then code - 0x40 + 12 else egressOfPort code

/-- The port code of a binding (R148). -/
def portCode (bind : Nat) : Nat := bind / 2 ^ 24
/-- The selector of a binding (R148). -/
def selector (bind : Nat) : Nat := bind % 2 ^ 24

/-- Nominal rate of an egress before any change, in kbit/s (R179): the fixed and configured ones. -/
def nominalDefault (e : Nat) : Nat :=
  if e = 29 then 400000 else if e = 30 then 64000 else if e = 31 then 6400000
  else if 17 ≤ e ∧ e ≤ 22 then 250 else if 23 ≤ e ∧ e ≤ 28 then 115 else if e = 16 then 1600000 else 0

/-- Nominal rate of egress e in kbit/s. -/
def Hub.nominal (h : Hub) (e : Nat) : Nat := h.plan.nominal.get (nominalDefault e) e

/-- Guaranteed capacity G of egress e in units of 64 kbit/s (R179). -/
def Hub.guaranteed (h : Hub) (e : Nat) : Nat := h.nominal e / 128

/-- OPENING, OPEN or DRAINING. -/
def Ctx.upState (x : Ctx) : Bool :=
  match x.state with
  | .opening => true
  | .open => true
  | .draining => true
  | _ => false

/-- Context i is counted on its egresses: from the moment it passes the admission check until it leaves OPENING, OPEN or DRAINING (R191).
A shadow context of a STANDBY has passed none. -/
def Hub.counted (h : Hub) (i : Nat) : Bool := decide (i ∈ h.plan.admitted)

/-- The committed rate that context i counts on egress e in plan k (R191, R196). -/
def Hub.committedOf (h : Hub) (e k i : Nat) (x : Ctx) : Nat :=
  let send := h.val (Od.planCirSend k i)
  let recv := h.val (Od.planCirRecv k i)
  if x.role = .transit then
    (if x.portB = e then send else 0) + (if x.portA = e then recv else 0)
  else
    (if x.portA = e ∧ x.direction ≠ 2 then send else 0) +
      (if egressOfPort (portCode x.localBind) = e ∧ x.direction ≠ 1 then recv else 0)

/-- The 160 units of a link's SYSTEM tunnel (R191). -/
def systemUnits (e : Nat) : Nat := if e < 3 then 160 else 0

/-- Committed sum of plan k on egress e over the counted contexts that a test picks, without the SYSTEM tunnel. -/
def Hub.sumOver (h : Hub) (e k : Nat) (pick : Nat → Ctx → Bool) : List (Nat × Ctx) → Nat
  | [] => 0
  | (i, x) :: t => (if h.counted i && pick i x then h.committedOf e k i x else 0) + Hub.sumOver h e k pick t

/-- COMMITTED_k of egress e (R192, R207). -/
def Hub.committed (h : Hub) (e k : Nat) : Nat := systemUnits e + h.sumOver e k (fun _ _ => true) h.ctxList

/-- Contexts demoted on egress e in plan k, in order of demotion. -/
def Hub.demotedOn (h : Hub) (e k : Nat) : List Nat := h.plan.demoted.get [] (8 * e + k)

/-- Committed sum of the contexts not demoted (R193). -/
def Hub.committedKept (h : Hub) (e k : Nat) : Nat :=
  systemUnits e + h.sumOver e k (fun i _ => decide (i ∉ h.demotedOn e k)) h.ctxList

/-- The admission check of R192 for context i, as its record and plan entries stand, on egress e and plans k - 1 down to 0. -/
def Hub.admitPlans (h : Hub) (e i : Nat) (x : Ctx) : Nat → Bool
  | 0 => true
  | k + 1 =>
    Hub.admitPlans h e i x k &&
      decide (systemUnits e + h.sumOver e k (fun j _ => decide (j ≠ i)) h.ctxList + h.committedOf e k i x ≤ h.guaranteed e) &&
      (decide (3 ≤ e) || decide (systemUnits e + h.sumOver e k (fun j y => decide (j ≠ i) && decide (y.cls = 0)) h.ctxList +
        (if x.cls = 0 then h.committedOf e k i x else 0) ≤ 20312))

/-- The egresses on which a context is counted (R191). -/
def Ctx.egresses (x : Ctx) : List Nat :=
  if x.role = .transit then [x.portA, x.portB] else [x.portA, egressOfPort (portCode x.localBind)]

/-- Context i passes the admission check on every egress its directions use (R161, R192). -/
def Hub.admits (h : Hub) (i : Nat) (x : Ctx) : Bool := x.egresses.all (fun e => decide (32 ≤ e) || h.admitPlans e i x 8)

/-- Context i has passed the admission check: it is the most recent one (R193). -/
def Hub.admitted (h : Hub) (i : Nat) : Hub :=
  { h with plan := { h.plan with admitted := h.plan.admitted.filter (fun j => j ≠ i) ++ [i] } }

/-- Context i is no longer counted: it is neither admitted nor demoted any more (R191, R194). -/
def Hub.unadmit (h : Hub) (i : Nat) : Hub :=
  let d := (h.plan.demoted.cells.map (fun c => (c.1, c.2.filter (fun j => j ≠ i)))).filter (fun c => c.2 ≠ [])
  { h with plan := { h.plan with admitted := h.plan.admitted.filter (fun j => j ≠ i), demoted := ⟨d⟩ } }

/-- Among contexts in order of admission, the one to demote next: of those counted on the egress, highest class first, latest admitted
first, never class 0 (R193). -/
def Hub.nextDemoted (h : Hub) (e k : Nat) : List Nat → Option Nat
  | [] => none
  | i :: t =>
    let x := h.ctx i
    let ok := decide (e ∈ x.egresses) && decide (0 < x.cls) && decide (i ∉ h.demotedOn e k)
    match Hub.nextDemoted h e k t with
    | none => if ok then some i else none
    | some j => if ok && decide ((h.ctx j).cls < x.cls) then some i else some j

/-- Demote context i on egress e in plan k; the active plan's demotions are events (R193). -/
def Hub.demote (h : Hub) (e k i : Nat) : Hub :=
  let h1 := { h with plan := { h.plan with demoted := h.plan.demoted.set [] (8 * e + k) (h.demotedOn e k ++ [i]) } }
  if k = h.plan.activePlan then (h1.flag Rg.planFlags 3).fire Ev.admissionShed (u16 (h.handle i) ++ u16 e ++ u8 k) else h1

/-- Demote contexts until the committed rates of the others fit, at most n of them (R193). -/
def Hub.shedPlan (h : Hub) (e k : Nat) : Nat → Hub
  | 0 => h
  | n + 1 =>
    if h.committedKept e k ≤ h.guaranteed e then h
    else match h.nextDemoted e k h.plan.admitted with
      | none => h
      | some i => Hub.shedPlan (h.demote e k i) e k n

/-- The re-check of egress e for plans k - 1 down to 0 after G(e) fell (R193). -/
def Hub.shed (h : Hub) (e : Nat) : Nat → Hub
  | 0 => h
  | k + 1 => Hub.shedPlan (Hub.shed h e k) e k 256

/-- Reinstate in reverse order of demotion for as long as each fits, at most n contexts (R194). -/
def Hub.restorePlan (h : Hub) (e k : Nat) : Nat → Hub
  | 0 => h
  | n + 1 =>
    match (h.demotedOn e k).reverse with
    | [] => h
    | i :: rest =>
      let h1 := { h with plan := { h.plan with demoted := h.plan.demoted.set [] (8 * e + k) rest.reverse } }
      if h1.committedKept e k ≤ h1.guaranteed e then
        Hub.restorePlan (if k = h.plan.activePlan then
          (h1.flag Rg.planFlags 4).fire Ev.admissionRestored (u16 (h.handle i) ++ u16 e ++ u8 k) else h1) e k n
      else h

/-- R194 for the plans k - 1 down to 0 of egress e. -/
def Hub.restoreEgress (h : Hub) (e : Nat) : Nat → Hub
  | 0 => h
  | k + 1 => Hub.restorePlan (Hub.restoreEgress h e k) e k 256

/-- R194 at a superframe boundary, for the egresses whose G has risen since the last one. -/
def Hub.restoreRisen (h : Hub) : Hub :=
  ((List.range 32).filter (fun e => decide (e ∈ h.plan.risen))).foldl (fun h e => h.restoreEgress e 8)
    { h with plan := { h.plan with risen := [] } }

/-- The nominal rate of egress e changes: a fall of G is re-checked at once (R193); a rise acts at the next superframe
boundary (R194). -/
def Hub.setNominal (h : Hub) (e kbit : Nat) : Hub :=
  let h1 := { h with plan := { h.plan with nominal := h.plan.nominal.set (nominalDefault e) e kbit } }
  if h1.guaranteed e < h.guaranteed e then h1.shed e 8
  else if h.guaranteed e < h1.guaranteed e then { h1 with plan := { h1.plan with risen := h1.plan.risen ++ [e] } } else h1

/-! ### Values in force (R190, R197) -/

/-- The value in force of an entry whose writes wait for the superframe boundary. -/
def Hub.inForce (h : Hub) (e : Entry) : Nat :=
  match h.plan.deferred.find? (fun c => c.1 = e.key) with
  | some c => c.2
  | none => h.val e

/-! ### Meters (R184 to R190) -/

/-- B, the charge of a segment of L bytes (R184). -/
def charge (l : Nat) : Nat := 28 * ((l + 27) / 28)

/-- One byte in the units of a bucket: a rate unit of 8,000 bytes/s fills one bucket unit in 0.1 ns. -/
def bucketByte : Nat := 1250000

/-- The colour of a segment (R185). -/
inductive Colour where
  | green | yellow | red
  deriving DecidableEq, Repr

/-- The decision of R185 with given rates, on buckets brought up to date. -/
def Meter.decide (m : Meter) (now cir pir cbs pbs b : Nat) (aware preYellow : Bool) : Meter × Colour :=
  let tc := min (cbs * bucketByte) (m.tc + cir * (now - m.last))
  let tp := min (pbs * bucketByte) (m.tp + pir * (now - m.last))
  let c := b * bucketByte
  if aware && preYellow then
    if c ≤ tp then (⟨tc, tp - c, now⟩, .yellow) else (⟨tc, tp, now⟩, .red)
  else if tp < c then (⟨tc, tp, now⟩, .red)
  else if c ≤ tc then (⟨tc - c, tp - c, now⟩, .green)
  else (⟨tc, tp - c, now⟩, .yellow)

/-- A meter of context i is colour-aware (R188, R189): the mode, COLOUR_MODE in force, the hub reasons in force. -/
def Hub.colourAware (h : Hub) (i : Nat) : Bool :=
  if h.mode.active = .bench then false
  else
    let m := h.inForce (Od.planColourMode i)
    if m = 1 then true else if m = 2 then false
    else decide (h.plan.reasonsInForce % 16 = 0) && !bit ((h.ctx i).portA) h.plan.retrainInForce

/-- The meter of context i. -/
def Hub.meter (h : Hub) (i : Nat) : Meter := h.plan.meters.get Meter.init i

/-- The meter decision for a segment of l bytes of context i (R185); a SYSTEM tunnel is not metered, and is green (R184). -/
def Hub.meterSegment (h : Hub) (i l : Nat) (preYellow : Bool) : Hub × Colour :=
  if 256 ≤ i then (h, .green) else
  let k := h.plan.activePlan
  let r := (h.meter i).decide h.clock (h.inForce (Od.planCirSend k i)) (h.inForce (Od.planPirSend k i))
    (h.inForce (Od.planCbsSend k i)) (h.inForce (Od.planPbsSend k i)) (charge l) (h.colourAware i) preYellow
  ({ h with plan := { h.plan with meters := h.plan.meters.set Meter.init i r.1 } }, r.2)

/-- Both buckets start full at each entry to OPEN (R185). -/
def Hub.fillMeter (h : Hub) (i : Nat) : Hub :=
  let k := h.plan.activePlan
  let m : Meter := ⟨h.inForce (Od.planCbsSend k i) * bucketByte, h.inForce (Od.planPbsSend k i) * bucketByte, h.clock⟩
  { h with plan := { h.plan with meters := h.plan.meters.set Meter.init i m } }

/-- The plan entries of an opener at allocation, plans k - 1 down to 0 (R196). -/
def Hub.openerPlan (h : Hub) (i : Nat) : Nat → Hub
  | 0 => h
  | k + 1 => (((((Hub.openerPlan h i k).put (Od.planCirSend k i) 0).put (Od.planCirRecv k i) 0).put
      (Od.planPirSend k i) 325000).put (Od.planCbsSend k i) 16384).put (Od.planPbsSend k i) 65536

/-- The plan entries of a responder or transit from RATES; `send` and `recv` say which directions count (R191, R196). -/
def Hub.takeRates (h : Hub) (i : Nat) (responder send recv : Bool) : Nat → List (Nat × Nat) → Hub
  | _, [] => h
  | k, (s, r) :: t =>
    let cs := if send then s else 0
    let h1 := (h.put (Od.planCirSend k i) cs).put (Od.planCirRecv k i) (if recv then r else 0)
    let h2 := if responder then
        ((h1.put (Od.planPirSend k i) (min 325000 (cs + h.val Od.planRespPirHeadroom))).put
          (Od.planCbsSend k i) (h.val Od.planRespCbs)).put (Od.planPbsSend k i) (h.val Od.planRespPbs)
      else h1
    Hub.takeRates h2 i responder send recv (k + 1) t

/-- RATES of an opener: CIR_SEND and CIR_RECV of every plan (R158, R196). -/
def Hub.rates (h : Hub) (i : Nat) : Nat → List (Nat × Nat)
  | 0 => []
  | k + 1 => Hub.rates h i k ++ [(h.val (Od.planCirSend k i), h.val (Od.planCirRecv k i))]

end Sys2Proof.Machine
end

