-- ==== Sys2Proof/Machine/Bearing.lean ====
section
/-!
DEFINITION. The bearings: encoder counting, the local estimate at the source, points and the distributed bearing
(R273 to R289), and the states of the timebase as bearings see them (R291).
-/

namespace Sys2Proof.Machine

/-- A superframe in units of 0.1 ns (R127, R290). -/
abbrev sfUnits : Nat := 425984

/-- Bearing b, 0 to 2. -/
def Hub.bearing (h : Hub) (b : Nat) : BearingSt := h.bcn.bearings.get BearingSt.init b

/-- Replace bearing b. -/
def Hub.setBearing (h : Hub) (b : Nat) (x : BearingSt) : Hub :=
  { h with bcn := { h.bcn with bearings := h.bcn.bearings.set BearingSt.init b x } }

/-- Encoder input n. -/
def Hub.encoder (h : Hub) (n : Nat) : EncSt := h.bcn.encs.get EncSt.init n

/-- Replace encoder input n. -/
def Hub.setEncoder (h : Hub) (n : Nat) (x : EncSt) : Hub :=
  { h with bcn := { h.bcn with encs := h.bcn.encs.set EncSt.init n x } }

/-- The hub is the source of the Beacon (R18, R297). -/
def Hub.isSource (h : Hub) : Bool := match h.mode.active with
  | .lighthouse | .foghorn | .bench => true
  | _ => false

/-- The port whose Beacon the hub follows (R18). -/
def Hub.followPort (h : Hub) : Option Nat :=
  if h.isSource then none else if h.mode.active = .standby then some 2 else h.upPort

/-- The port whose superframe count the hub adopts (R129): by the role it holds, which a retrain out of FOGHORN restores. -/
def Hub.countPort (h : Hub) : Option Nat := if h.role = .standby then some 2 else h.upPort

/-- STATE of the CLOCK bearing (R291): VALID at the LIGHTHOUSE, else after the timebase. -/
def Hub.clockState (h : Hub) : BearingState :=
  if h.mode.active = .lighthouse then .valid
  else match h.bcn.timebase with
    | .locked => .valid
    | .holdover => .holdover
    | _ => .acquiring

/-- STATE of a bearing (R289, R291, R300). -/
def Hub.bearingState (h : Hub) (b : Nat) : BearingState :=
  if b = 3 then h.clockState
  else if !h.isSource && (decide (h.bcn.timebase = .free) || decide (h.bcn.timebase = .acquiring)) then .acquiring
  else (h.bearing b).state

/-- The code of a bearing state (R300). -/
def BearingState.code : BearingState → Nat
  | .off => 0 | .acquiring => 1 | .valid => 2 | .holdover => 3 | .lost => 4

/-- The distributed bearing b at a CLOCK instant, over the segment in force (R285). -/
def Hub.bearingAt (h : Hub) (b clk : Nat) : Int :=
  let x := h.bearing b
  x.from_ + Int.tdiv ((x.to_ - x.from_) * (min sfUnits (clk - h.bcn.seg * sfUnits) : Nat)) sfUnits

/-- The value of a bearing now; CLOCK in ns (R285, R300). -/
def Hub.bearingNow (h : Hub) (b : Nat) : Int := if b = 3 then (h.ns : Int) else h.bearingAt b h.clock

/-- The first instant in the segment in force at which b reaches a target (R285, R317). -/
def Hub.crossing (h : Hub) (b : Nat) (target : Int) : Option Nat :=
  let x := h.bearing b
  if x.to_ ≤ x.from_ ∨ x.to_ < target then none
  else some (h.bcn.seg * sfUnits + (((target - x.from_) * sfUnits + (x.to_ - x.from_ - 1)) / (x.to_ - x.from_)).toNat)

/-! ### The estimate (R279 to R281) -/

/-- V(t): V lowered to s / (t - te) once t - te exceeds s / V (R280). -/
def BearingSt.rate (x : BearingSt) (t : Nat) : Int × Nat :=
  if x.vNum.natAbs * (t - x.te) ≤ x.step * x.vDen then (x.vNum, x.vDen)
  else (if x.vNum < 0 then -(x.step : Int) else (x.step : Int), max 1 (t - x.te))

/-- X(t) in 1/65536 LSB, at most one LSB short of the next edge (R280). -/
def BearingSt.at_ (x : BearingSt) (t : Nat) : Int :=
  let m : Nat := min (x.vNum.natAbs * (t - x.te) / x.vDen) (x.step - 65536)
  if x.vNum < 0 then x.xe - (m : Int) else x.xe + (m : Int)

/-- The window of R279: the number N of count intervals and the instant of its far edge. -/
def rateWindow (maxN : Nat) (maxT : Nat) (four : Bool) (te : Nat) (edges : List Nat) : Nat × Nat :=
  let ok := (edges.drop 1).takeWhile (fun e => decide (te - e ≤ maxT))
  let n := min maxN ok.length
  let m := if four && decide (4 ≤ n) then n - n % 4 else n
  (m, ok.getD (m - 1) te)

/-- The estimator takes an edge in the direction of travel (R279). -/
def BearingSt.edge (x : BearingSt) (d : Int) (step te maxN maxT : Nat) (four : Bool) : BearingSt :=
  let edges := (te :: x.edges).take 257
  let w := rateWindow maxN maxT four te edges
  let y := { x with xe := x.pos, te := te, step := step, dir := d, still := false, against := 0, edges := edges }
  if w.1 = 0 then { y with vNum := 0, vDen := 1 }
  else { y with vNum := d * (step * w.1 : Nat), vDen := max 1 (te - w.2) }

/-- A count moves the bearing by one step (R279, R281): the bearing after, and whether a reversal was confirmed. -/
def BearingSt.count (x : BearingSt) (d : Int) (pos : Int) (step te maxN maxT hyst : Nat) (four : Bool) : BearingSt × Bool :=
  let y := { x with pos := pos }
  if x.dir = 0 ∨ (x.dir = d ∧ x.against = 0) then (y.edge d step te maxN maxT four, false)
  else if x.dir = d then ({ y with against := x.against - 1 }, false)
  else if hyst ≤ x.against + 1 then
    (({ y with edges := [], flip := true }).edge d step te maxN maxT four, true)
  else ({ y with against := x.against + 1, vNum := 0, vDen := 1 }, false)

/-! ### Inputs and sources (R275, R278, R282, R283) -/

/-- The bearing that an input feeds now. -/
def Hub.feeds (h : Hub) (n : Nat) : Option Nat := [0, 1, 2].find? (fun b => decide ((h.bearing b).inputInUse = some n))

/-- The bearing that names an input as its source. -/
def Hub.namedBy (h : Hub) (n : Nat) : Option Nat :=
  [0, 1, 2].find? (fun b => decide (h.val (Od.srcPrimary b) = n) || (decide (b = 0) && decide (h.val (Od.srcSecondary 0) = n)))

/-- The running input that a bearing should use: PRIMARY, for GROUND else SECONDARY (R283). -/
def Hub.wantedInput (h : Hub) (b : Nat) : Option Nat :=
  let ok (n : Nat) : Bool := decide (n < 8) && decide ((h.encoder n).state = .running)
  if ok (h.val (Od.srcPrimary b)) then some (h.val (Od.srcPrimary b))
  else if b = 0 ∧ ok (h.val (Od.srcSecondary 0)) then some (h.val (Od.srcSecondary 0)) else none

/-- The local estimate runs at sources and at a STANDBY (R297, R301). -/
def Hub.estimates (h : Hub) : Bool := h.isSource || decide (h.mode.active = .standby)

/-- A bearing becomes LOST at the root: X held, V 0 (R283). -/
def Hub.loseSource (h : Hub) (b : Nat) : Hub :=
  let x := h.bearing b
  let held := x.at_ h.clock
  ((h.setBearing b { x with pos := held, xe := held, te := h.clock, vNum := 0, vDen := 1, against := 0, edges := [] }).flag
    Rg.bcnFlags 5).fire Ev.bearingLost (u8 b)

/-- The input in use of a bearing follows the running inputs (R283): X and V carry on, and every change is said. A hub that is no source and
no STANDBY uses none (R301). -/
def Hub.resource (h : Hub) (b : Nat) : Hub :=
  let x := h.bearing b
  let w := if h.estimates then h.wantedInput b else none
  if w = x.inputInUse then h
  else
    let h1 := if h.estimates && w.isNone then h.loseSource b else h
    let y := { h1.bearing b with
      inputInUse := w, stallFrom := (h.encoder (h.val (Od.srcSecondary 0))).count,
      resumed := x.resumed || (w.isSome && x.inputInUse.isNone) }
    ((h1.setBearing b y).flag Rg.bcnFlags 3).fire Ev.groundSourceSwitch (u8 b)

/-- The inputs in use of the three bearings are looked at. -/
def Hub.resources (h : Hub) : Hub := ((h.resource 0).resource 1).resource 2

/-- BEARING_RESTORE commands whose 10 ms have passed without a fault end (R306). -/
def Hub.restoreEnds (h : Hub) : Hub :=
  let due := h.bcn.restores.filter (fun r => decide (r.2.1 ≤ h.clock))
  if due = [] then h
  else
    let h1 : Hub := { h with bcn := { h.bcn with restores := h.bcn.restores.filter (fun r => decide (h.clock < r.2.1)) } }
    due.foldl (fun h r => h.done r.2.2 0 (u8 (h.bearingState r.1).code)) h1

/-- BEARING_RESTORE commands of bearing b end: one of its inputs has faulted again within 10 ms (R306). -/
def Hub.restoreFails (h : Hub) (b : Nat) : Hub :=
  let mine := h.bcn.restores.filter (fun r => decide (r.1 = b))
  let h1 : Hub := { h with bcn := { h.bcn with restores := h.bcn.restores.filter (fun r => decide (r.1 ≠ b)) } }
  mine.foldl (fun h r => h.done r.2.2 (abFailed 1) []) h1

/-- An input faults (R282): it stops feeding its bearing. -/
def Hub.encFault (h : Hub) (n cause : Nat) : Hub :=
  let x := h.encoder n
  if x.state ≠ .running then h
  else
    let h0 := h.restoreEnds
    let h1 := ((h0.setEncoder n { x with state := .faulted, faultCause := cause }).flag Rg.bcnFlags 2).fire Ev.encFault (u8 n)
    match h.namedBy n with
    | none => h1
    | some b => (h1.resource b).restoreFails b

/-- Movement of a shaft or ground bearing per count, in 1/65536 LSB (R278). -/
def Hub.stepOf (h : Hub) (b n : Nat) : Nat :=
  if b = 0 then h.val (Od.encScale n) else 2 ^ 40 / max 1 (h.val (Od.encCpr n))

/-- The position that the count of a shaft input assigns, in 1/65536 LSB (R278). -/
def Hub.shaftPos (h : Hub) (n : Nat) : Int :=
  let x := h.encoder n
  (x.rev * 2 ^ 24 + (x.shaft * 2 ^ 24 / max 1 (h.val (Od.encCpr n)) : Nat)) * 65536

/-- c and REV of a shaft input take a count (R278). -/
def EncSt.turn (x : EncSt) (cpr : Nat) (d : Int) : EncSt :=
  if 0 < d then (if x.shaft + 1 < cpr then { x with shaft := x.shaft + 1 } else { x with shaft := 0, rev := x.rev + 1 })
  else if 0 < x.shaft then { x with shaft := x.shaft - 1 } else { x with shaft := cpr - 1, rev := x.rev - 1 }

/-- A count of the GROUND secondary input while the primary feeds the bearing: the STALL fault of R282. -/
def Hub.stallCheck (h : Hub) (n : Nat) : Hub :=
  let x := h.bearing 0
  let p := h.val (Od.srcPrimary 0)
  if n = h.val (Od.srcSecondary 0) ∧ x.inputInUse = some p ∧
      h.val (Od.srcStallDistance 0) * 2 ^ 32 ≤ ((h.encoder n).count - x.stallFrom).natAbs * h.val (Od.encScale n) then
    h.encFault p 2
  else h

/-- One count of an input reaches its bearing (R278 to R281): a shaft moves by `turned`, what the count has moved the input's angle and REV. -/
def Hub.bearingCount (h : Hub) (n : Nat) (d turned : Int) (te : Nat) : Hub :=
  match h.feeds n with
  | none => h.stallCheck n
  | some b =>
    if !h.estimates then h
    else
      let x := h.bearing b
      let step := h.stepOf b n
      let pos := x.pos + (if b = 0 then d * step else turned)
      let r := x.count d pos step te (h.val (Od.srcRateEdges b)) (h.val (Od.srcRateMaxTime b) * 10000000)
        (h.val (Od.srcReverseHyst b)) (decide (h.val (Od.encMode n) = 1))
      let y := if b = 0 then { r.1 with stallFrom := (h.encoder (h.val (Od.srcSecondary 0))).count } else r.1
      let h1 := h.setBearing b y
      if r.2 then (h1.flag Rg.bcnFlags 0).fire Ev.bcnReversal (u8 b) else h1

/-- What an accepted state of an input's levels means (R273, R275): a count of +1 or -1 before INVERT, 0 for none, and
whether it is a quadrature error. -/
def decodeEdge (mode : Nat) (x : EncSt) (a b : Bool) : Int × Bool :=
  if mode = 1 then
    if x.levelA ≠ a ∧ x.levelB ≠ b then (0, true)
    else if x.levelA ≠ a then (if a = b then -1 else 1, false)
    else if x.levelB ≠ b then (if a = b then 1 else -1, false)
    else (0, false)
  else if mode = 2 then (if !x.levelA && a then (if b then 1 else -1) else 0, false)
  else if mode = 3 then (if !x.levelA && a then 1 else 0, false)
  else (0, false)

/-- A rising edge of Z met in the forward direction (R278): a correction moves the bearing by itself alone. -/
def Hub.zEdge (h : Hub) (n : Nat) : Hub :=
  let x := h.encoder n
  let m := h.val (Od.encZMode n)
  let want := h.val (Od.encZCount n)
  let cpr := max 1 (h.val (Od.encCpr n))
  let diff := min ((x.shaft + cpr - want % cpr) % cpr) ((want % cpr + cpr - x.shaft) % cpr)
  if m = 0 ∨ x.state ≠ .running then h
  else if h.val (Od.encZTol n) < diff then
    let h1 := h.setEncoder n { x with zMiss := x.zMiss + 1 }
    if 4 ≤ x.zMiss + 1 then h1.encFault n 3 else h1
  else
    let h1 := h.setEncoder n { x with zMiss := 0, shaft := if m = 2 then want else x.shaft,
                                      rev := if m = 2 ∧ x.shaft + diff = want + cpr then x.rev + 1
                                             else if m = 2 ∧ want + diff = x.shaft + cpr then x.rev - 1 else x.rev }
    if m = 2 ∧ diff ≠ 0 then
      let h2 := (h1.flag Rg.bcnFlags 9).fire Ev.zStep (u8 n)
      match h.feeds n with
      | some b =>
        let y := h2.bearing b
        let moved := h2.shaftPos n - h.shaftPos n
        if h.estimates then h2.setBearing b { y with pos := y.pos + moved, xe := y.xe + moved } else h2
      | none => h2
    else h1

/-- Encoder levels have been accepted (R273 to R282): the edge's timestamp lies FILTER samples and 1 ns back. -/
def Hub.encoderEdge (h : Hub) (n : Nat) (a b z : Bool) : Hub :=
  let x := h.encoder n
  let te := h.clock - (20 * h.val (Od.encFilter n) + 10)
  let mode := h.val (Od.encMode n)
  let r := decodeEdge mode x a b
  let d : Int := if h.val (Od.encInvert n) = 1 then -r.1 else r.1
  let zRise := !x.levelZ && z
  let y := { x with levelA := a, levelB := b, levelZ := z }
  let h1 := h.setEncoder n y
  if x.state = .off then h1
  else
    let h2 := if r.2 then
        let times := (h.clock :: x.qerrTimes).filter (fun t => decide (h.clock - t < 10000000))
        let h3 := (h1.setEncoder n { y with qerr := trunc 32 (x.qerr + 1), qerrTimes := times }).tally 0x0602 n 1
        if h.val (Od.encQerrLimit n) < times.length then h3.encFault n 1 else h3
      else if d = 0 then h1
      else
        let w := if h.namedBy n = some 1 ∨ h.namedBy n = some 2 then y.turn (max 1 (h.val (Od.encCpr n))) d else y
        let h3 := (h1.setEncoder n { w with count := y.count + d, dir := d }).tally 0x0601 n 1
        if x.state = .running then h3.bearingCount n d (h3.shaftPos n - h1.shaftPos n) te else h3
    if zRise && decide ((h2.encoder n).dir = 1) && (decide (h.namedBy n = some 1) || decide (h.namedBy n = some 2)) then h2.zEdge n
    else h2

/-- MODE of an input is written: it runs or is off (R273, R302); a fault stays (R282). -/
def Hub.encModeSet (h : Hub) (n mode : Nat) : Hub :=
  let x := h.encoder n
  let st : InputState := if x.state = .faulted then .faulted else if mode = 0 then .off else .running
  (h.setEncoder n { x with state := st }).resources

/-! ### Points (R284, R288) -/

/-- The value of the point of a superframe, where it is held. -/
def pointOf (f : Nat) (l : List (Nat × Int × Bool)) : Option (Int × Bool) := (l.find? (fun p => decide (p.1 = f))).map (·.2)

/-- The rule of direction of R284 between the point before and a new value. -/
def directed (dir : Int) (prev p : Int) : Int := if 0 < dir then max p prev else if dir < 0 then min p prev else p

/-- The root forms Q(F + 1) of bearing b at block 0 of F (R284), with the join of R283. -/
def Hub.formPoint (h : Hub) (f b : Nat) : Hub :=
  let x := h.bearing b
  let prev := pointOf f x.points
  match x.inputInUse with
  | none => h.setBearing b { x with points := ((f + 1, (prev.map (·.1)).getD (x.xe / 65536), false) :: x.points).take 4 }
  | some _ =>
    let v := x.rate h.clock
    let p0 := x.at_ h.clock + v.1 * (3 * sfUnits : Nat) / (v.2 : Int)
    let j := match prev with
      | some q => if x.resumed then q.1 * 65536 - p0 else x.join
      | none => x.join
    let p := (p0 + j) / 65536
    let q := match prev with
      | some pr => if x.flip then p else directed x.dir pr.1 p
      | none => p
    h.setBearing b { x with join := j, resumed := false, flip := false, points := ((f + 1, q, true) :: x.points).take 4 }

/-- Full value of a point from its low bits (R288): the value of `w` low bits nearest the prediction. -/
def nearest (w : Nat) (low : Nat) (pred : Int) : Int :=
  let d := (((low : Int) - pred) % 2 ^ w)
  if d < 2 ^ (w - 1) then pred + d else pred + d - 2 ^ w

/-- The prediction of Q(F) from the points held (R288). -/
def predict (f : Nat) (l : List (Nat × Int × Bool)) : Option Int :=
  match pointOf (f - 1) l with
  | none => none
  | some a => match pointOf (f - 2) l with
    | none => some a.1
    | some b => some (2 * a.1 - b.1)

/-- A follower takes the low bits of Q(F) of bearing b (R288): the hub, and whether SAMPLE_FULL must be read again. -/
def Hub.takePoint (h : Hub) (f b low : Nat) (valid : Bool) : Hub × Bool :=
  let x := h.bearing b
  match predict f x.points with
  | none => (h, false)
  | some pred =>
    let v := nearest (if b = 0 then 32 else 18) low pred
    if (v - pred).natAbs ≤ (if b = 0 then 2 ^ 30 else 2 ^ 16) then
      (h.setBearing b { x with points := ((f, v, valid) :: x.points).take 4, outside := 0 }, false)
    else
      (((h.setBearing b { x with outside := x.outside + 1 }).flag Rg.bcnFlags 10).fire Ev.bcnResync (u8 b), decide (2 ≤ x.outside + 1))

/-- SAMPLE_FULL as it reads here (R288). -/
def Hub.sampleFullBytes (h : Hub) : Bytes :=
  let last (b : Nat) : Nat × Int × Bool := (h.bearing b).points.headD (0, 0, false)
  let f := (last 0).1
  u64 f ++ leBytes 8 (ofSigned 64 (last 0).2.1) ++ leBytes 8 (ofSigned 64 (last 1).2.1) ++ leBytes 8 (ofSigned 64 (last 2).2.1) ++
    u8 (b2n (last 0).2.2 + 2 * b2n (last 1).2.2 + 4 * b2n (last 2).2.2) ++ [0, 0, 0] ++ u32 h.bcn.baseUnitInUse

/-- The full superframe number (R290). -/
def Hub.sfFull (h : Hub) : Nat := h.bcn.sfEpoch * 2 ^ 32 + h.links.sf

/-- A follower learns SF_EPOCH from a full superframe number of the hub above (R288, R290): its own is the one nearest to it with its own
count (log 81). A correction of CLOCK that was measured with another is measured again. -/
def Hub.learnEpoch (h : Hub) (f : Nat) : Hub :=
  let e := (nearest 32 h.links.sf f / 2 ^ 32).toNat
  if e = h.bcn.sfEpoch then h else { h with bcn := { h.bcn with sfEpoch := e, correction := none } }

/-- A follower has read SAMPLE_FULL of the hub above (R288). -/
def Hub.takeSampleFull (h : Hub) (data : Bytes) : Hub :=
  if data.length ≠ 40 then h
  else
    let f := field data 0 8
    let q (b : Nat) : Nat × Int × Bool := (f, toSigned 64 (field data (8 + 8 * b) 8), bit b (field data 32 1))
    let put (b : Nat) (h : Hub) : Hub := h.setBearing b { h.bearing b with points := [q b], outside := 0 }
    let h1 := (put 2 (put 1 (put 0 h))).learnEpoch f
    { h1 with bcn := { h1.bcn with sampleFull := true, baseUnitInUse := field data 36 4 } }

end Sys2Proof.Machine
end

