-- ==== Sys2Proof/Machine/Lamps.lean ====
section
/-!
DEFINITION. Lamps: edges, pulses, safe states and release (R324 to R329), and the daymark queue as a table (R310, R311).
-/

namespace Sys2Proof.Machine

/-- Lamp l. -/
def Hub.lamp (h : Hub) (l : Nat) : LampSt := h.dm.lamps.get LampSt.init l

/-- Replace Lamp l. -/
def Hub.setLamp (h : Hub) (l : Nat) (x : LampSt) : Hub := { h with dm := { h.dm with lamps := h.dm.lamps.set LampSt.init l x } }

/-- The numbers of the Lamps (chapter 10). -/
def lampNumbers : List Nat := List.range 24

/-- What the ball of a Lamp shows: 0 low, 1 high, 2 high impedance (R324, R326, R331). -/
def Hub.lampBall (h : Hub) (l : Nat) (x : LampSt) : Nat :=
  match x.state with
  | .off => 2
  | .active => b2n (x.level != x.polarity)
  | .safe => if h.val (Od.lampSafeLevel l) = 3 then x.ball else h.val (Od.lampSafeLevel l)

/-- Replace Lamp l and drive its ball, unless the pads of the LAMP domain are held (R555); a level that changes is mirrored
(R450). -/
def Hub.driveLamp (h : Hub) (l : Nat) (x : LampSt) : Hub :=
  let ball := if (h.domain 17).padsHeld then x.ball else h.lampBall l x
  let h0 := h.setLamp l { x with ball := ball }
  let h1 := if (h.lamp l).level = x.level then h0 else h0.mirrorNote (.lamp l x.level)
  if ball = x.ball then h1 else h1.emit (.line (.lamp l) ball)

/-- The level that a Lamp holds at an instant, by the edges that it has queued. -/
def LampSt.levelAt (x : LampSt) (t : Nat) : Bool := match (x.edges.filter (fun e => decide (e.1 ≤ t))).getLast? with
  | some e => e.2
  | none => x.level

/-- The edge before an instant: the last that is queued up to it, or the last that was placed. -/
def LampSt.edgeBefore (x : LampSt) (t : Nat) : Option Nat := match (x.edges.filter (fun e => decide (e.1 ≤ t))).getLast? with
  | some e => some e.1
  | none => x.lastEdge

/-- An instant moved to 8 ns after an edge (R324). -/
def spacedFrom (prev : Option Nat) (t : Nat) : Nat := match prev with
  | some p => max t (p + 80)
  | none => t

/-- Where an edge to a level that is due at an instant is placed (R324): at least 8 ns after the edge before it and, without the delay line, on
the 1.25 ns grid; where the Lamp holds the level by then, there is no edge. -/
def LampSt.edgePlace (x : LampSt) (grid level : Bool) (due : Nat) : Nat :=
  if level = x.levelAt due then due
  else
    let spaced := spacedFrom (x.edgeBefore due) due
    if grid then ((2 * spaced + 24) / 25 * 25 + 1) / 2 else spaced

/-- A level is due on a Lamp at an instant of CLOCK (R324): the hub, where the edge is placed, and whether it was squeezed. A level that the
Lamp already holds by then makes no edge. Edges are queued by instant (log 82). -/
def Hub.lampEdge (h : Hub) (l : Nat) (level : Bool) (at_ : Nat) : Hub × Nat × Bool :=
  let x := h.lamp l
  let due := max at_ h.clock
  let placed := x.edgePlace h.dm.calFault level due
  if x.state ≠ .active ∨ level = x.levelAt due then (h, due, false)
  else
    let squeezed := decide (due < spacedFrom (x.edgeBefore due) due) || decide (64 ≤ x.edges.length)
    let h1 := h.setLamp l { x with edges := x.edges.filter (fun e => decide (e.1 ≤ placed)) ++ [(placed, level)] ++
                                            x.edges.filter (fun e => decide (placed < e.1)) }
    if squeezed then ((h1.flag Rg.dmFlags 4).tally 0x0706 l 1, placed, true) else (h1, placed, false)

/-- The first queued edge of a Lamp is placed at its instant (R324); where edges queued after it have made it no change, it makes no edge. -/
def Hub.placeEdge (h : Hub) (l : Nat) : Hub :=
  let x := h.lamp l
  match x.edges with
  | [] => h
  | (t, v) :: rest =>
    let u := spacedFrom x.lastEdge t
    if v = x.level then ({ h with clock := max h.clock t } : Hub).setLamp l { x with edges := rest }
    else
      let h1 := { h with clock := max h.clock u }
      ((h1.driveLamp l { x with level := v, edges := rest, lastEdge := some u, edgeCount := trunc 64 (x.edgeCount + 1) }).tally 0x0705 l 1)

/-! ### Safe states (R327 to R329) -/

/-- The SAFE_ON bit of a trigger, where it has one (R327). -/
def safeBit (cause : Nat) : Option Nat :=
  if cause = 1 then some 0 else if cause = 2 then some 1 else if cause = 3 then some 2 else if cause = 4 then some 3 else none

/-- A trigger acts on a Lamp (R327): an ACTIVE one enters SAFE; FOG_OUT originates LAMP_SAFE (R328). -/
def Hub.lampTrigger (h : Hub) (l cause : Nat) (tunnel : List Nat) : Hub :=
  let x := h.lamp l
  let on := match safeBit cause with
    | some b => bit b (h.val (Od.lampSafeOn l))
    | none => true
  if !on then h
  else if x.state = .safe then
    h.setLamp l { x with triggers := setBit cause x.triggers, safeTunnels := tunnel ++ x.safeTunnels }
  else if x.state = .off then h
  else
    let y := { x with state := .safe, edges := [], pulseEnds := [], safeCause := cause, triggers := setBit cause 0, safeTunnels := tunnel }
    let h1 := ((h.driveLamp l y).flag Rg.dmFlags 3).fire Ev.lampSafeEntered (u8 l ++ u8 cause)
    if h.val (Od.lampFogOut l) = 1 ∧ (cause = 1 ∨ cause = 2 ∨ cause = 4 ∨ cause = 5) then h1.fogOriginate 0x30 (l + 256 * cause) else h1

/-- A trigger acts on the Lamps of a list that a test picks. -/
def Hub.lampsTrigger (h : Hub) (cause : Nat) (tunnel : List Nat) (pick : Nat → Bool) : List Nat → Hub
  | [] => h
  | l :: t => Hub.lampsTrigger (if pick l then h.lampTrigger l cause tunnel else h) cause tunnel pick t

/-- FOG_MASK bit of a fog cause (R327). -/
def fogBit (cause : Nat) : Option Nat :=
  if cause = 1 then some 0 else if cause / 16 = 1 then some 1 else if cause / 16 = 2 then some 2
  else if cause / 16 = 3 then some 3 else if 0x80 ≤ cause then some 4 else none

/-- A fog signal has been received (R327, cause 3). -/
def Hub.lampsFog (h : Hub) (cause : Nat) : Hub :=
  match fogBit cause with
  | some b => h.lampsTrigger 3 [] (fun l => bit b (h.val (Od.lampFogMask l))) lampNumbers
  | none => h

/-- The primary upstream link has gone DOWN (R327, cause 1); no effect at a root. -/
def Hub.lampsLinkDown (h : Hub) (p : Nat) : Hub :=
  if h.upPort = some p then h.lampsTrigger 1 [] (fun _ => true) lampNumbers else h

/-- A bearing has left VALID and HOLDOVER (R327, cause 2). -/
def Hub.lampsGuard (h : Hub) (b : Nat) : Hub :=
  h.lampsTrigger 2 [] (fun l => decide (h.val (Od.lampGuardBearing l) = b)) lampNumbers

/-- A LAMPCMD tunnel has entered FAULTED (R327, cause 4). -/
def Hub.lampsTunnel (h : Hub) (handle : Nat) : Hub :=
  h.lampsTrigger 4 [handle] (fun l => decide (handle ∈ (h.lamp l).posters)) lampNumbers

/-- Entry to FOGHORN or strap fault (R25, R30, R327 cause 6). -/
def Hub.lampsDark (h : Hub) : Hub := h.lampsTrigger 6 [] (fun _ => true) lampNumbers

/-- Whether a handle names a live context that is OPEN. -/
def Hub.handleOpen (h : Hub) (hd : Nat) : Bool :=
  decide (h.handle (hd % 256) = hd) && decide ((h.ctx (hd % 256)).state = .open)

/-- A trigger of a Lamp still holds (R329). -/
def Hub.lampHolds (h : Hub) (l : Nat) : Bool :=
  let x := h.lamp l
  let g := h.val (Od.lampGuardBearing l)
  (bit 1 x.triggers && (match h.upPort with
    | some p => !h.running p
    | none => false)) ||
  (bit 2 x.triggers && decide (g ≠ 0xFF) && decide (h.bearingState g ≠ .valid)) ||
  (bit 4 x.triggers && x.safeTunnels.any (fun hd => !h.handleOpen hd)) ||
  (bit 6 x.triggers && (decide (h.mode.active = .foghorn) || decide (h.mode.active = .strapFault)))

/-- A Lamp leaves SAFE: ACTIVE at level 0 (R329, R331). -/
def Hub.lampRelease (h : Hub) (l : Nat) : Hub :=
  let x := h.lamp l
  let y := { x with state := .active, level := false, safeCause := 0xFF, triggers := 0, safeTunnels := [],
                    polarity := decide (h.val (Od.lampPolarity l) = 1) }
  (h.driveLamp l y).fire Ev.lampReleased (u8 l ++ u8 x.safeCause)

/-- LAMP_RELEASE of a Lamp (R329). -/
def Hub.lampTryRelease (h : Hub) (l : Nat) : Hub :=
  if (h.lamp l).state = .safe ∧ !h.lampHolds l then h.lampRelease l else h

/-- AUTO_RELEASE (R329) of the Lamps of a list. -/
def Hub.lampsAuto (h : Hub) : List Nat → Hub
  | [] => h
  | l :: t =>
    let g := h.val (Od.lampGuardBearing l)
    Hub.lampsAuto (if (h.lamp l).state = .safe ∧ (h.lamp l).safeCause ≠ 0 ∧ h.val (Od.lampAutoRelease l) = 1 ∧ !h.lampHolds l ∧
      (g = 0xFF ∨ h.bearingState g = .valid) then h.lampRelease l else h) t

/-- AUTO_RELEASE of every Lamp. -/
def Hub.lampsAutoAll (h : Hub) : Hub := h.lampsAuto lampNumbers

/-- ENABLE of a Lamp is written (R326, R331). -/
def Hub.lampEnable (h : Hub) (l : Nat) (v : Bool) : Hub :=
  let x := h.lamp l
  if v ∧ x.state = .off then h.driveLamp l { x with state := .safe, safeCause := 0, triggers := 0, safeTunnels := [] }
  else if !v ∧ x.state ≠ .off then
    h.driveLamp l { x with state := .off, safeCause := 0xFF, edges := [], pulseEnds := [], level := false, triggers := 0, safeTunnels := [] }
  else h

/-! ### Daymark slots (R310, R311) -/

/-- The daymark of a live handle. -/
def Hub.daymark? (h : Hub) (hd : Nat) : Option Daymark :=
  h.dm.slots.find? (fun d => decide (d.slot = hd % 1024) && decide (d.gen = hd / 1024) && !d.shadow)

/-- The handle of a daymark. -/
def Daymark.handle (d : Daymark) : Nat := 1024 * d.gen + d.slot

/-- A slot is freed. -/
def Hub.freeSlot (h : Hub) (slot : Nat) : Hub := { h with dm := { h.dm with slots := h.dm.slots.filter (fun d => decide (d.slot ≠ slot)) } }

/-- The queue is emptied (R25, R312). -/
def Hub.clearDaymarks (h : Hub) : Hub := { h with dm := { h.dm with slots := [] } }

/-- A daymark's entry, its fields (R308). -/
abbrev Daymark.bearing (d : Daymark) : Nat := field d.entry 16 1
abbrev Daymark.action (d : Daymark) : Nat := field d.entry 17 1
abbrev Daymark.flags (d : Daymark) : Nat := field d.entry 18 1
abbrev Daymark.lamp (d : Daymark) : Nat := field d.entry 19 1
abbrev Daymark.arg (d : Daymark) : Nat := field d.entry 8 8
abbrev Daymark.arg2 (d : Daymark) : Nat := field d.entry 24 4
abbrev Daymark.tag (d : Daymark) : Bytes := (d.entry.drop 20).take 4

/-- TARGET: a bearing word, or CLOCK in ns. -/
def Daymark.target (d : Daymark) : Int := if d.bearing = 3 then (field d.entry 0 8 : Int) else toSigned 64 (field d.entry 0 8)

/-- A fired record (R322). -/
def Daymark.record (d : Daymark) (flags instant status : Nat) : Bytes :=
  u16 d.handle ++ u8 flags ++ u8 d.action ++ d.tag ++ u64 (instant / 10) ++ u32 status ++ u32 0

/-- A record is delivered when R322 says so. -/
def Hub.reportDaymark (h : Hub) (d : Daymark) (flags instant status : Nat) : Hub :=
  if d.action = 7 ∨ bit 1 d.flags ∨ bit 2 d.flags ∨ bit 0 flags ∨ bit 2 flags ∨ bit 4 flags ∨ bit 6 flags ∨ bit 7 flags then
    h.deliverRecord (d.record flags instant status) d.source
  else h

end Sys2Proof.Machine
end

