-- ==== Sys2Proof/Machine/Switch.lean ====
section
/-!
DEFINITION. The switch core's space and holds (R241 to R250), classification (R251 to R255), mirror copies (R256 to R259)
and the record of ECC errors (R261 to R264).
-/

namespace Sys2Proof.Machine

/-! ### Handles (R143) -/

/-- The context of a live handle; the SYSTEM tunnel has none here. -/
def Hub.live? (h : Hub) (hd : Nat) : Option Nat :=
  let i := hd % 256
  if i ≠ 0 ∧ hd < 65536 ∧ (h.ctx i).state ≠ .free ∧ !(h.ctx i).shadow ∧ h.handle i = hd then some i else none

/-! ### Accounts (R244, R245) -/

/-- Account of the link allotment of port p and class c. -/
abbrev acAllot (p c : Nat) : Nat := 8 * p + c
/-- Account of the replay buffer of link p. -/
abbrev acReplay (p : Nat) : Nat := 32 + p
/-- Account of local class 0. -/
abbrev acLocal0 : Nat := 40
/-- Account of the mirror copies. -/
abbrev acMirror : Nat := 48
/-- Account of ingress i and class c in the shared pool. -/
abbrev acShared (i c : Nat) : Nat := 64 + 8 * i + c

/-- Cells charged to an account. -/
def Hub.acct (h : Hub) (a : Nat) : Nat := h.sw.accounts.get 0 a

/-- Set the cells charged to an account. -/
def Hub.setAcct (h : Hub) (a n : Nat) : Hub := { h with sw := { h.sw with accounts := h.sw.accounts.set 0 a n } }

/-- Charge cells to an account. -/
def Hub.charge (h : Hub) (a n : Nat) : Hub := h.setAcct a (h.acct a + n)

/-- Cells freed of a link allotment give credit to the far transmitter (R125). -/
def Hub.credited (h : Hub) (a n : Nat) : Hub :=
  if a < 24 then h.updLink (a / 8) (fun x => { x with freed := x.freed.set 0 (a % 8) ((x.freed.get 0 (a % 8) + n) % 4096) }) else h

/-- Free cells of an account. -/
def Hub.uncharge (h : Hub) (a n : Nat) : Hub := (h.setAcct a (h.acct a - n)).credited a n

/-- LINK_ALLOT in force of port p and class c (R244). -/
def Hub.allot (h : Hub) (p c : Nat) : Nat := h.sw.allotInForce.get (if c = 0 then 256 else 1024) (8 * p + c)

/-- The sum of a value over the ports and classes of the link allotments. -/
def sumAllot (f : Nat → Nat → Nat) : Nat :=
  ((List.range 24).map (fun k => f (k / 8) (k % 8))).sum

/-- The shared pool that given allotments leave (R245). -/
def poolOf (f : Nat → Nat → Nat) (c0 mirror : Nat) : Nat := 131072 - 1536 - sumAllot f - c0 - mirror

/-- SHARED_SIZE (R245). -/
def Hub.sharedSize (h : Hub) : Nat := poolOf h.allot (h.val Od.swLocalC0Reserve) (h.val Od.swMirrorPool)

/-- Cells used of the shared pool. -/
def Hub.sharedUsed (h : Hub) : Nat := ((h.sw.accounts.cells.filter (fun c => decide (64 ≤ c.1))).map (·.2)).sum

/-- SHARED_FREE. -/
def Hub.sharedFree (h : Hub) : Nat := h.sharedSize - h.sharedUsed

/-! ### Holds (R247) -/

/-- Charge of a segment in staging (R241). -/
def stageCharge (l : Nat) : Nat := 32 * ((l + 31) / 32)

/-- Ingress i is held in class c; during a sweep every ingress is (R263, log 75). -/
def Hub.held (h : Hub) (i c : Nat) : Bool :=
  let x := h.sw.holds.get HoldSet.init (8 * i + c)
  h.sw.sweep || x.xoff || x.staging || decide (h.sw.quotaFull.get 0 i = 1) || (h.sw.poolLow && decide (0 < c))

/-- STAGE_QUOTA_IN of an ingress in bytes. -/
def Hub.quotaIn (h : Hub) (i : Nat) : Nat := 1024 * h.val (Od.ingStageQuotaIn i)

/-- STAGE_QUOTA_OUT of an egress in bytes. -/
def Hub.quotaOut (h : Hub) (i : Nat) : Nat := 1024 * h.val (Od.ingStageQuotaOut i)

/-- A condition with a held and a release level. -/
def latch (now hold release : Bool) : Bool := hold || (now && !release)

/-- PFC_MAP byte of a class (R266). -/
def Hub.pfcMap (h : Hub) (i c : Nat) : Nat := h.val (Od.ingPfcMap i) / 2 ^ (8 * c) % 256

/-- The priorities that the held classes of an ETH ingress map (R250). -/
def Hub.pfcWanted (h : Hub) (i : Nat) : Nat :=
  (List.range 8).foldl (fun m c => if h.held i c then m ||| h.pfcMap i c else m) 0

/-- A big-endian number of n bytes. -/
def beBytes (n v : Nat) : Bytes := (leBytes n v).reverse

/-- A PFC frame (R250): each named priority with its time. -/
def Hub.pfcFrame (h : Hub) (i mask xoff : Nat) : Bytes :=
  beBytes 6 0x0180C2000001 ++ beBytes 6 (h.val (Od.ethMacAddr (i - 3))) ++ beBytes 2 0x8808 ++ beBytes 2 0x0101 ++
    [0, BitVec.ofNat 8 mask] ++
    ((List.range 8).map (fun p => beBytes 2 (if bit p xoff then h.val (Od.ingPfcQuanta i) else 0))).flatten

/-- Send PFC for the change of held classes of an ETH ingress since `before` (R250): a class newly held, or a priority that no held class
maps any more. -/
def Hub.pfcUpdate (before after : Hub) (i : Nat) : Hub :=
  if i < 3 ∨ 10 < i ∨ after.val (Od.ingPfcEnable i) = 0 then after
  else
    let want := after.pfcWanted i
    let was := after.sw.pfcSent.get 0 i
    let fresh := (List.range 8).any (fun c => after.held i c && !before.held i c && decide (after.pfcMap i c ≠ 0))
    if want = was ∧ !fresh then after
    else
      let h1 := { after with sw := { after.sw with pfcSent := after.sw.pfcSent.set 0 i want } }
      (h1.emit (.frame (0x10 + (i - 3)) (h1.pfcFrame i (want ||| was) want))).tally 0x0502 (i - 3) 1

/-- RTS_N of a UART with FLOW at 1 follows the hold of its ingress (R363). -/
def Hub.rtsUpdate (before after : Hub) (i : Nat) : Hub :=
  let any (h : Hub) : Bool := (List.range 8).any (h.held i)
  if 23 ≤ i ∧ i ≤ 28 ∧ after.val (Od.serMode (i - 23)) = 0 ∧ after.val (Od.serFlow (i - 23)) = 1 ∧ any before ≠ any after ∧ !(after.domain 15).padsHeld then
    after.emit (.line (.rts (i - 23)) (b2n (any after)))
  else after

/-- Count the classes of an ingress that a change has newly held (R582, item 0x0501). -/
def Hub.tallyHolds (before after0 : Hub) (i : Nat) : Hub :=
  let after := before.rtsUpdate after0 i
  (List.range 8).foldl (fun h c => if after.held i c && !before.held i c then h.tally 0x0501 (i + 256 * c) 1 else h) after

/-- The conditions of ingress i in class c are judged again (R247). -/
def Hub.recheck (h : Hub) (i c : Nat) : Hub :=
  if i < 3 then h
  else
    let x := h.sw.holds.get HoldSet.init (8 * i + c)
    let used := h.acct (acShared i c)
    let lim := h.val (Od.ingLocalXoff i c)
    let q := h.quotaIn i
    let w := h.sw.stageClass.get 0 (8 * i + c)
    let free := q - h.sw.stageIn.get 0 i
    let y : HoldSet := ⟨latch x.xoff (decide (lim ≤ used)) (decide (8 * used ≤ 7 * lim)),
      latch x.staging (decide (q ≤ 2 * w)) (decide (8 * w ≤ 3 * q))⟩
    let f := latch (decide (h.sw.quotaFull.get 0 i = 1)) (decide (free < 2112)) (decide (4224 ≤ free))
    let sw := h.sw
    let h1 := { h with sw := { sw with holds := sw.holds.set HoldSet.init (8 * i + c) y, quotaFull := sw.quotaFull.set 0 i (b2n f) } }
    h.pfcUpdate (h.tallyHolds h1 i) i

/-- POOL_LOW is judged again (R247); all local ingresses follow. -/
def Hub.recheckPool (h : Hub) : Hub :=
  let low := latch h.sw.poolLow (decide (h.sharedFree < h.val Od.swPoolLow)) (decide (h.val Od.swPoolLow + 1024 ≤ h.sharedFree))
  if low = h.sw.poolLow then h
  else
    let h1 := { h with sw := { h.sw with poolLow := low } }
    let h2 := (List.range 29).foldl (fun a k => h.pfcUpdate (h.tallyHolds a (k + 3)) (k + 3)) h1
    if low then (h2.flag Rg.swFlags 0).fire Ev.poolLow [] else h2

/-- A segment enters or leaves the input quota of an ingress in a class (R241). -/
def Hub.stageInBy (h : Hub) (i c l : Nat) (enter : Bool) : Hub :=
  let n := stageCharge l
  let sw := h.sw
  let u (t : Tab Nat) (k : Nat) : Tab Nat := t.set 0 k (if enter then t.get 0 k + n else t.get 0 k - n)
  ({ h with sw := { sw with stageIn := u sw.stageIn i, stageClass := u sw.stageClass (8 * i + c) } }).recheck i c

/-- A segment enters or leaves the output quota of an egress. -/
def Hub.stageOutBy (h : Hub) (e l : Nat) (enter : Bool) : Hub :=
  let n := stageCharge l
  let t := h.sw.stageOut
  { h with sw := { h.sw with stageOut := t.set 0 e (if enter then t.get 0 e + n else t.get 0 e - n) } }

/-- The input quota of an ingress has room for a segment. -/
def Hub.stageRoom (h : Hub) (i l : Nat) : Bool := decide (h.sw.stageIn.get 0 i + stageCharge l ≤ h.quotaIn i)

/-- The account that an encapsulation job charges (R244). -/
def encapAccount (i c : Nat) : Nat := if c = 0 then acLocal0 else acShared i c

/-- The switch buffer takes the n cells of an encapsulation job (R246): of class 1 to 7, only where ingress and class are not held, by
whatever condition of R247 (log 69). -/
def Hub.encapRoom (h : Hub) (i c n : Nat) : Bool :=
  !h.sw.sweep && (if c = 0 then decide (h.acct acLocal0 + n ≤ h.val Od.swLocalC0Reserve) else decide (n ≤ h.sharedFree) && !h.held i c)

/-- The holds that an account stands behind are judged again (R247): those of the shared pool. -/
def Hub.acctJudge (h : Hub) (a : Nat) : Hub := if 64 ≤ a then (h.recheck ((a - 64) / 8) (a % 8)).recheckPool else h

/-- Words are charged to an account, or freed from it. -/
def Hub.acctBy (h : Hub) (a n : Nat) (enter : Bool) : Hub := (if enter then h.charge a n else h.uncharge a n).acctJudge a

/-! ### ECC (R261 to R264) -/

/-- A word of a region is written: an armed injection damages it, otherwise it is sound (R271). -/
def Hub.eccWrite (h : Hub) (region addr : Nat) : Hub :=
  let clean := h.sw.damaged.filter (fun d => !(decide (d.1 = region) && decide (d.2.1 = addr)))
  match h.sw.inject.find? (fun x => decide (x.1 = region)) with
  | some x => { h with sw := { h.sw with inject := h.sw.inject.filter (fun y => decide (y.1 ≠ region)), damaged := clean ++ [(region, addr, x.2)] } }
  | none => if clean = h.sw.damaged then h else { h with sw := { h.sw with damaged := clean } }

/-- The injection armed for a region goes into the word written next (R271): the hub, and the bits it damages. -/
def Hub.takeInject (h : Hub) (region : Nat) : Hub × Nat :=
  match h.sw.inject.find? (fun x => decide (x.1 = region)) with
  | some x => ({ h with sw := { h.sw with inject := h.sw.inject.filter (fun y => decide (y.1 ≠ region)) } }, x.2)
  | none => (h, 0)

/-- The address of a word that the hub's own allocation places (R240): of the switch buffer, of the port quotas in staging, or the word
number in the descriptor memory. No rule states which word is taken: it is free. -/
def Hub.wordAddr (h : Hub) (region : Nat) : Hub × Nat :=
  let u := h.open_ 32
  (u.1, if region = 4 then u.2 % sramWords 0
    else if region = 2 then 0x20A20000 + 32 * (u.2 % 61440) else sramBase region + 32 * (u.2 % sramWords region))

/-- A corrected word is counted (R262). -/
def Hub.eccCorrected (h : Hub) (region : Nat) : Hub :=
  let sec := h.clock / 10000000000
  let n := if sec = h.sw.ceSecond then h.sw.ceThisSecond + 1 else 1
  let h1 := (({ h with sw := { h.sw with ceThisSecond := n, ceSecond := sec } }).bump Od.eccCeCount 32 1).tally 0x0507 region 1
  if n = h.val Od.eccCeLimit + 1 then (h1.flag Rg.swFlags 5).fire Ev.eccCeLimit [] else h1

/-- An uncorrectable word is recorded (R263): who read it, its region and its address. -/
def Hub.eccBad (h : Hub) (reader region addr : Nat) : Hub :=
  let h1 := { h with sw := { h.sw with ueAddr := addr, ueInfo := 256 * reader + region } }
  ((((h1.bump Od.eccUeCount 32 1).tally 0x0508 region 1).flag Rg.swFlags 6).fire Ev.eccUncorrectable (u32 addr ++ u8 region ++ u8 reader))

/-- A word is read (R262, R263): the hub, and whether it is uncorrectable. A word corrected while in use is sound again. -/
def Hub.eccRead (h : Hub) (reader region addr : Nat) : Hub × Bool :=
  match h.sw.damaged.find? (fun d => decide (d.1 = region) && decide (d.2.1 = addr)) with
  | none => (h, false)
  | some d =>
    let h1 := { h with sw := { h.sw with damaged := h.sw.damaged.filter (fun x => decide (x ≠ d)) } }
    if d.2.2 ≤ 2 then (h1.eccCorrected region, false) else (h.eccBad reader region addr, true)

/-- A word of the switch buffer or of staging is freed with damaged bits: it stays as it is until the scrubber reads it (R264, log 70). -/
def Hub.freeDamaged (h : Hub) (region addr n : Nat) : Hub :=
  if n = 0 then h else { h with sw := { h.sw with damaged := h.sw.damaged ++ [(region, addr, n)] } }

/-- The words of cells are free (R244): each leaves the account that its descriptor names. -/
def Hub.freeWords (h : Hub) (l : List BufCell) : Hub :=
  l.foldl (fun h c =>
    let h1 := match c.account with
      | some a => h.acctBy a 1 false
      | none => h
    if c.damage = 0 then h1
    else
      let a := h1.wordAddr 0
      a.1.freeDamaged 0 a.2 c.damage) h

/-! ### Classification (R251 to R254) -/

/-- Fields of an entry. -/
def ClsEntry.word (e : ClsEntry) (k : Nat) : Nat := field e.bytes (4 * k) 4
abbrev ClsEntry.keyType (e : ClsEntry) : Nat := bits 30 28 (e.word 0)
abbrev ClsEntry.port (e : ClsEntry) : Nat := bits 23 16 (e.word 0)
abbrev ClsEntry.handle (e : ClsEntry) : Nat := bits 15 0 (e.word 0)

/-- What is looked up (R252). -/
inductive LookupKey where
  | eth (mac : Nat) (vid : Option Nat)
  | can (id : Nat) (ide fd : Bool)
  | csi (vc dt : Nat)
  | usb (function endpoint : Nat)
  deriving DecidableEq, Repr

/-- An entry matches a key at a step of its order (R252, R253). -/
def ClsEntry.matches_ (e : ClsEntry) (step : Nat) : LookupKey → Bool
  | .eth mac vid =>
    let v := bits 11 0 (e.word 3)
    let tag := match vid with
      | some x => if bit 12 (e.word 3) then decide (v = x) else decide (x = 0)
      | none => !bit 12 (e.word 3)
    if step = 0 then decide (e.keyType = 0) && decide (bits 15 0 (e.word 1) * 2 ^ 32 + e.word 2 = mac) && tag
    else if step = 1 then decide (e.keyType = 1) && tag else decide (e.keyType = 2)
  | .can id ide fd =>
    decide (step = 0) && decide (e.keyType = 3) && decide (bits 28 0 (e.word 1) ≤ id) && decide (id ≤ bits 28 0 (e.word 2)) &&
      decide (bits 29 29 (e.word 2) = b2n ide) &&
      decide (bits 31 30 (e.word 2) = 0 ∨ (bits 31 30 (e.word 2) = 1 ∧ !fd) ∨ (bits 31 30 (e.word 2) = 2 ∧ fd))
  | .csi vc dt =>
    decide (e.keyType = 4) && decide (bits 3 0 (e.word 1) = vc) &&
      (if step = 0 then !bit 10 (e.word 1) && decide (bits 9 4 (e.word 1) = dt) else bit 10 (e.word 1))
  | .usb f ep => decide (step = 0) && decide (e.keyType = 5) && decide (bits 1 0 (e.word 1) = f) && decide (bits 5 2 (e.word 1) = ep)

/-- The first entry of a step that matches. -/
def clsFind (port step : Nat) (k : LookupKey) : List (Nat × ClsEntry) → Option (Nat × ClsEntry)
  | [] => none
  | (n, e) :: t => if e.valid && decide (e.port = port) && e.matches_ step k then some (n, e) else clsFind port step k t

/-- The winner over the steps in order. -/
def clsWinner (port : Nat) (k : LookupKey) (t : List (Nat × ClsEntry)) : Option (Nat × ClsEntry) :=
  match clsFind port 0 k t with
  | some x => some x
  | none => match clsFind port 1 k t with
    | some x => some x
    | none => clsFind port 2 k t

/-- Replace a classification entry. -/
def Hub.setCls (h : Hub) (n : Nat) (e : ClsEntry) : Hub := { h with sw := { h.sw with cls := h.sw.cls.set ClsEntry.init n e } }

/-- A lookup reads a damaged entry (R263): a corrected one serves; of an uncorrectable one VALID is cleared. -/
def Hub.clsReadOne (h : Hub) (n : Nat) : Hub :=
  let r := h.eccRead 4 5 n
  if r.2 then ((r.1.setCls n { r.1.sw.cls.get ClsEntry.init n with valid := false }).flag Rg.swFlags 2).fire Ev.clsEcc (u16 n) else r.1

/-- The damaged entries among those that a lookup at a port reads. -/
def Hub.clsReadDamaged (h : Hub) (port : Nat) : Hub :=
  ((h.sw.damaged.filter (fun d => decide (d.1 = 5) && (h.sw.cls.get ClsEntry.init d.2.1).valid &&
    decide ((h.sw.cls.get ClsEntry.init d.2.1).port = port))).map (fun d => d.2.1)).foldl Hub.clsReadOne h

/-- A segment is looked up at a port code (R253, R254): the context it goes to, none for a miss. A stale winner is cleared. -/
def Hub.lookup (h : Hub) (port : Nat) (k : LookupKey) : Hub × Option Nat :=
  let i := ingressOfPort port
  let h1 := (h.tally 0x0505 i 1).clsReadDamaged port
  match clsWinner port k h1.sw.cls.cells with
  | none => (h1.tally 0x0506 i 1, none)
  | some (n, e) =>
    match h1.live? e.handle with
    | some c => (h1, some c)
    | none =>
      ((((h1.setCls n { e with valid := false }).flag Rg.swFlags 1).fire Ev.clsStale (u16 n)).tally 0x0506 i 1, none)

/-- CLASS of an entry as the hub fills it (R255). -/
def clsBytes (raw : Bytes) (cls : Nat) : Bytes :=
  let w1 := field raw 4 4
  raw.take 4 ++ u32 (w1 % 2 ^ 29 + cls * 2 ^ 29) ++ raw.drop 8

/-- A class change rewrites CLASS in the entries that name a handle (R255). -/
def Hub.clsReclass (h : Hub) (hd cls : Nat) : List (Nat × ClsEntry) → Hub
  | [] => h
  | (n, e) :: t =>
    Hub.clsReclass (if e.valid && decide (e.handle = hd) then h.setCls n { e with bytes := clsBytes e.bytes cls } else h) hd cls t

/-! ### Mirror sessions (R256 to R259) -/

/-- Mirror session s. -/
def Hub.mirror (h : Hub) (s : Nat) : MirrorSt := h.sw.mirrors.get MirrorSt.init s

/-- Replace mirror session s. -/
def Hub.setMirror (h : Hub) (s : Nat) (x : MirrorSt) : Hub :=
  { h with sw := { h.sw with mirrors := h.sw.mirrors.set MirrorSt.init s x } }

/-- The mirror header of R258. -/
def Hub.mirrorHeader (h : Hub) (s flags cells orig : Nat) : Bytes :=
  u8 s ++ u8 (h.val (Od.mirSourceKind s)) ++ u16 (h.val (Od.mirSource s)) ++ u8 flags ++ u8 cells ++ u16 orig ++
    u32 h.links.sf ++ u32 (trunc 32 h.ns)

/-- The frame of an ETH segment (R338): without FLAGS, the port and the timestamp. -/
def ethFrameOf (d : Bytes) : Bytes := (d.take (d.length - (if bit 0 (field d 0 1) then 8 else 0))).drop 2

/-- Words of MIRROR_POOL that a wrapped frame of n bytes after its mirror header takes. -/
def mirrorWords (n : Nat) : Nat := (30 + n + 31) / 32

/-- A copy that session s does not make is counted (R257). -/
def Hub.mirrorSkip (h : Hub) (s : Nat) : Hub :=
  let x := h.mirror s
  let h1 := ((h.setMirror s { x with skipRun := true }).bump (Od.mirSkipped s) 32 1).flag Rg.swFlags 3
  if x.skipRun then h1 else h1.fire Ev.mirrorSkip (u8 s)

/-- MIRROR_POOL has room for n words; none is allocated during a sweep (R257, R263). -/
def Hub.mirrorRoom (h : Hub) (n : Nat) : Bool := decide (h.acct acMirror + n ≤ h.val Od.swMirrorPool) && !h.sw.sweep

/-- Bytes after the mirror header that a frame toward the session's destination can carry. -/
def Hub.mirrorMax (h : Hub) (s : Nat) : Nat :=
  let port := portCode (h.val (Od.mirDest s))
  (if 0x10 ≤ port ∧ port ≤ 0x17 then h.val (Od.ethMaxFrame (port - 0x10)) - 4 else 2048) - 30

/-- A wrapped copy (R258): `cells` of a cell frame, 0 for a segment; `skip` is SKIP_BEFORE; at most `max` bytes of the copy. -/
def Hub.mirrorFrame (h : Hub) (s : Nat) (body : Bytes) (yellow skip : Bool) (cells max : Nat) : Bytes :=
  let port := portCode (h.val (Od.mirDest s))
  let src := if 0x10 ≤ port ∧ port ≤ 0x17 then h.val (Od.ethMacAddr (port - 0x10)) else 0
  let flags := b2n yellow + 2 * b2n (decide (max < body.length)) + 4 * b2n (decide (cells ≠ 0)) + 8 * b2n skip
  beBytes 6 (h.val (Od.mirDestMac s)) ++ beBytes 6 src ++ beBytes 2 0x88B5 ++ h.mirrorHeader s flags cells body.length ++ body.take max

/-- A frame of copies joins the ninth queue of its destination. -/
def Hub.mirrorPut (h : Hub) (s : Nat) (frame : Bytes) (words copies : Nat) : Hub :=
  let h1 := h.setMirror s { h.mirror s with skipRun := false }
  { h1 with sw := { h1.sw with mirrorQ := h1.sw.mirrorQ ++ [⟨h.val (Od.mirDest s), s, frame, words, copies⟩] } }

/-- A copy of a segment joins the ninth queue of its destination, or is skipped (R257, R258). -/
def Hub.mirrorCopy (h : Hub) (s kind : Nat) (body : Bytes) (yellow : Bool) : Hub :=
  let frame := if h.val (Od.mirFormat s) = 1 then (if kind = 1 then ethFrameOf body else body)
    else h.mirrorFrame s body yellow (h.mirror s).skipRun 0 (min (h.mirrorMax s) (h.val (Od.mirSnapLen s)))
  let words := (frame.length + 31) / 32
  if h.mirrorRoom words then (h.charge acMirror words).mirrorPut s frame words 1 else h.mirrorSkip s

/-- Session s copies the given source kind and source; one whose handle is stale is disabled (R259). -/
def Hub.mirrorTakes (h : Hub) (s kind source : Nat) : Bool :=
  decide (h.val (Od.mirEnable s) = 1) && decide (h.val (Od.mirSourceKind s) = kind) && decide (h.val (Od.mirSource s) = source)

/-- Segments and frames are copied at their point (R256). -/
def Hub.mirrorSegment (h : Hub) (kind source : Nat) (data : Bytes) (yellow : Bool) : Hub :=
  [0, 1, 2, 3].foldl (fun h s => if h.mirrorTakes s kind source then h.mirrorCopy s kind data yellow else h) h

/-- The open frame of cell copies is closed (R258): its words are those that its cells have taken. -/
def Hub.mirrorClose (h : Hub) (s : Nat) : Hub :=
  let x := h.mirror s
  if x.count = 0 then h
  else
    let frame := h.mirrorFrame s x.cells x.yellow x.skipRun x.count (h.mirrorMax s)
    (h.setMirror s { x with cells := [], count := 0, yellow := false }).mirrorPut s frame (mirrorWords (32 * x.count)) x.count

/-- Cells of a link are copied at their point, up to 40 per frame; each takes its words at once (R244, R256 to R258). -/
def Hub.mirrorCell (h : Hub) (kind link : Nat) (c : Cell) : Hub :=
  [0, 1, 2, 3].foldl (fun h s =>
    if h.mirrorTakes s kind link then
      let x := h.mirror s
      let n := mirrorWords (32 * (x.count + 1)) - (if x.count = 0 then 0 else mirrorWords (32 * x.count))
      if !h.mirrorRoom n then h.mirrorSkip s
      else
        let h1 := (h.charge acMirror n).setMirror s { x with cells := x.cells ++ cellBytes c, count := x.count + 1, yellow := x.yellow || c.yellow }
        if 40 ≤ x.count + 1 then h1.mirrorClose s else h1
    else h) h

/-- A freed handle: sessions that copy it are disabled (R259). -/
def Hub.mirrorStale (h : Hub) (hd : Nat) : Hub :=
  [0, 1, 2, 3].foldl (fun h s =>
    if h.mirrorTakes s 4 hd || h.mirrorTakes s 5 hd then
      ((h.put (Od.mirEnable s) 0).flag Rg.swFlags 4).fire Ev.mirrorSessionStale (u8 s)
    else h) h

end Sys2Proof.Machine
end

