-- ==== Sys2Proof/Machine/Tenders.lean ====
section
/-!
DEFINITION. Tenders: homes, slots, dispatch, start, steal, discard, pins, barriers (R211 to R229). Commit and faults, which
reach the tunnels, stand in Machine/Engine.lean.
-/

namespace Sys2Proof.Machine

/-- Tender t. -/
def Hub.tender (h : Hub) (t : Nat) : Tender := h.eng.tenders.get Tender.init t

/-- Replace Tender t. -/
def Hub.setTender (h : Hub) (t : Nat) (x : Tender) : Hub := { h with eng := { h.eng with tenders := h.eng.tenders.set Tender.init t x } }

/-- Tender t is in service: not fenced, its cluster's domain on (R236). -/
def Hub.inService (h : Hub) (t : Nat) : Bool := !(h.tender t).fenced && h.domOn (3 + t / 8)

/-- The Tenders in service. -/
def Hub.serviceList (h : Hub) : List Nat := (List.range 32).filter h.inService

/-- Tender t is PIN_A or PIN_B in use. -/
def Hub.isPin (h : Hub) (t : Nat) : Bool := decide (t = h.eng.pinA) || decide (t = h.eng.pinB)

/-- The cluster of Tender t has been asked to leave the on state (R233). -/
def Hub.clusterLeaves (h : Hub) (t : Nat) : Bool := match (h.domain (3 + t / 8)).target with
  | some .on => false
  | some _ => true
  | none => false

/-- Tender t takes general jobs (R216, R220, R233). -/
def Hub.takesGeneral (h : Hub) (t : Nat) : Bool := h.inService t && !(h.eng.exclusive && h.isPin t) && !h.clusterLeaves t

/-- The key of a tunnel direction: encapsulation is the even one. -/
def dirKey (i : Nat) (encap : Bool) : Nat := 2 * i + b2n (!encap)

/-- Homes that a Tender holds. -/
def Hub.homesOf (h : Hub) (t : Nat) : Nat := (h.eng.home.cells.filter (fun c => decide (c.2 = t + 1))).length

/-- The least of a list by a measure, the first on ties. -/
def leastBy (m : Nat → Nat) : List Nat → Option Nat
  | [] => none
  | t :: rest => match leastBy m rest with
    | none => some t
    | some u => if m u < m t then some u else some t

/-- A direction gets a home (R216), other than a given Tender. -/
def Hub.giveHome (h : Hub) (key : Nat) (but : Nat) : Hub :=
  let l := (List.range 32).filter (fun t => h.takesGeneral t && decide (t ≠ but))
  let v := match leastBy h.homesOf l with
    | some t => t + 1
    | none => 0
  { h with eng := { h.eng with home := h.eng.home.set 0 key v } }

/-- The kinds pinned to PIN_A and PIN_B (R220). -/
def pinnedKind (k : Nat) : Bool := decide (k = 0) || decide (k = 7) || decide (k = 9)

/-- Entry to OPENING of an endpoint (R216, R217), or of a SYSTEM tunnel, which has no home: homes, and tickets from 0. -/
def Hub.startDirections (h : Hub) (i : Nat) : Hub :=
  let e := h.eng
  let h1 := { h with eng := { e with issue := (e.issue.set 0 (2 * i) 0).set 0 (2 * i + 1) 0,
                                     commit := (e.commit.set 0 (2 * i) 0).set 0 (2 * i + 1) 0 } }
  if 256 ≤ i then h1 else (h1.giveHome (2 * i) 32).giveHome (2 * i + 1) 32

/-- The homes of a context end with it. -/
def Hub.dropHomes (h : Hub) (i : Nat) : Hub :=
  { h with eng := { h.eng with home := (h.eng.home.set 0 (2 * i) 0).set 0 (2 * i + 1) 0 } }

/-- The directions homed on a Tender get new homes (R224, R233). -/
def Hub.rehome (h : Hub) (t : Nat) : Hub :=
  (h.eng.home.cells.filter (fun c => decide (c.2 = t + 1))).foldl (fun h c => h.giveHome c.1 t) h

/-- SHORT is judged again (R213). -/
def Hub.judgeShort (h : Hub) : Hub :=
  let s := decide (((List.range 32).filter h.takesGeneral).length < h.val Od.engEngineFloor)
  let h1 := { h with eng := { h.eng with short := s } }
  if s && !h.eng.short then (h1.flag Rg.engFlags 2).fire Ev.engineShort [] else h1

/-- A queue has a FREE slot for a job (R215, R220): one of its 64; at a pinned Tender 16 of them are for pinned jobs, 48 for general ones. -/
def Hub.slotFree (h : Hub) (t : Nat) (pinned : Bool) : Bool :=
  let l := (h.tender t).jobs
  let own := decide ((l.filter (fun j => decide (j.pinned = pinned))).length < if pinned then 16 else 48)
  decide (l.length < 64) && (own || !h.isPin t)

/-- PENDING jobs of a queue. -/
def Hub.pendingOf (h : Hub) (t : Nat) : Nat := ((h.tender t).jobs.filter (fun j => decide (j.state = .pending))).length

/-- The Tender to which a job goes (R216, R220). -/
def Hub.targetOf (h : Hub) (j : Job) : Option Nat :=
  if j.pinned then
    let t := if j.encap then h.eng.pinA else h.eng.pinB
    if h.inService t && h.slotFree t true then some t else none
  else
    let v := h.eng.home.get 0 (dirKey j.ctx j.encap)
    if v = 0 then none
    else
      let t := v - 1
      if h.takesGeneral t && h.slotFree t false then some t
      else leastBy h.pendingOf ((List.range 8).map (fun k => t / 8 * 8 + k) |>.filter (fun u => h.takesGeneral u && h.slotFree u false))

/-- A job joins a queue as PENDING. -/
def Hub.enqueueJob (h : Hub) (t : Nat) (j : Job) : Hub :=
  let x := h.tender t
  h.setTender t { x with jobs := x.jobs ++ [{ j with state := .pending }] }

/-! ### Segments of a context (R152, R516, R521) -/

/-- SAFETY_CFG of a context. -/
def Hub.safetyCfg (h : Hub) (i : Nat) : Nat := h.val (Od.safSafetyCfg i)

/-- The CRC profile of a SAFETY context (R526). -/
def Hub.profile (h : Hub) (i : Nat) : CrcParam :=
  let k := bits 2 0 (h.safetyCfg i)
  let f := h.val (Od.profProfFlags k)
  ⟨h.val (Od.profProfWidth k), h.val (Od.profProfPoly k), h.val (Od.profProfInit k), bit 0 f, bit 1 f, bit 2 f⟩

/-- Bytes that INSERT adds (R521). -/
def Hub.safetyExtra (h : Hub) (i : Nat) : Nat :=
  if (h.ctx i).kind = 7 ∧ bit 3 (h.safetyCfg i) then 1 + ((h.profile i).width + 7) / 8 else 0

/-- Length of a segment on the link: what INSERT and sealing add (R516, R521). -/
def Hub.wireLen (h : Hub) (i l : Nat) : Nat := l + h.safetyExtra i + (if (h.ctx i).isSealed then 24 else 0)

/-- Cells of a segment of l bytes (R152). -/
def cellCount (l : Nat) : Nat := (l + 27) / 28

/-! ### Dispatch (R216, R217, R246) -/

/-- The oldest waiting segment of a direction, and the others. -/
def takeWaiting (i : Nat) (encap : Bool) : List Job → Option Job × List Job
  | [] => (none, [])
  | j :: t => if j.ctx = i ∧ j.encap = encap then (some j, t) else
    let r := takeWaiting i encap t
    (r.1, j :: r.2)

/-- Some slot of a direction is HELD (R186). -/
def Hub.heldJob (h : Hub) (i : Nat) : Bool :=
  (List.range 32).any (fun t => (h.tender t).jobs.any (fun j => decide (j.ctx = i) && j.encap && decide (j.state = .held)))

/-- The egress whose output quota a decapsulation takes (R246). -/
def Hub.bindEgress (h : Hub) (i : Nat) : Nat := egressOfPort (portCode (h.ctx i).localBind)

/-- A commanded swap in progress holds the ingress of a tunnel (R455): at a root every one, at a BUOY those of the primary. -/
def Hub.swapHold (h : Hub) (i : Nat) : Bool :=
  match h.pair.swap with
  | some w => w.commanded && !w.candidate && decide (i < 256) &&
      (decide (h.mode.active ≠ .buoy) || decide (h.pair.primaryPort = some (h.ctx i).portA))
  | none => false

/-- Bits per pixel of a CSI-2 data type of R366; 0 for any other. -/
def dtBits (dt : Nat) : Nat := if dt = 0x2A then 8 else if dt = 0x2B then 10 else if dt = 0x1E then 16 else if dt = 0x24 then 24 else 0

/-- Bytes of a line and of a frame of a data type (R372). -/
def Hub.lineBytes (h : Hub) (dt : Nat) : Nat := h.val Od.dsiHactive * dtBits dt / 8
def Hub.frameBytes (h : Hub) (dt : Nat) : Nat := h.val Od.dsiHactive * h.val Od.dsiVactive * dtBits dt / 8

/-- Some job of a direction is on a Tender. -/
def Hub.jobUnderWay (h : Hub) (i : Nat) (encap : Bool) : Bool :=
  (List.range 32).any (fun t => (h.tender t).jobs.any (fun j => decide (j.ctx = i) && decide (j.encap = encap)))

/-- The frame store has room for a VIDEO segment of context i (R246, R375): in RING, a line of a new frame waits until scan-out
has read that line of the frame it shows. -/
def Hub.frameRoom (h : Hub) (i : Nat) (d : Bytes) : Bool :=
  let v := h.vid
  let sof := bit 0 (field d 0 1)
  let last := (field d 4 4 + (d.length - (if sof then 16 else 8)) - 1) / h.lineBytes (field d 1 1)
  let lead := match v.writing with
    | some w => w.lead && !sof
    | none => false
  if h.val Od.fsLayout = 0 ∨ selector (h.ctx i).localBind % 4 ≠ h.val Od.dsiShowSlot then true
  else (v.ready.isNone || lead) && ((lead && v.ready.isNone) || v.shown.isNone || decide (last < v.ringRead)) &&
    (!sof || !h.jobUnderWay i false)

/-- Delivery to a binding takes no output quota: the frame store, the completion buffer of a window (R246, R430), and the SYSTEM tunnels
(log 68). -/
def Hub.quotaless (h : Hub) (i : Nat) : Bool :=
  decide (256 ≤ i) || decide (h.bindEgress i = 12) || decide (portCode (h.ctx i).localBind = 0x60)

/-- The egress whose output quota a decapsulation of context i takes; 32 for none. -/
def Hub.quotaEgress (h : Hub) (i : Nat) : Nat := if h.quotaless i then 32 else h.bindEgress i

/-- The next job of a direction may be dispatched: the tunnel's state, the engine fence, space, and the holds of the red
meter (R186), a class change (R171) and a swap (R455). -/
def Hub.mayDispatch (h : Hub) (j : Job) : Bool :=
  let x := h.ctx j.ctx
  let up := decide (x.state = .open) || decide (x.state = .draining) || (!j.encap && decide (x.state = .opening))
  let fence := (h.eng.fenceRaised && !j.pinned) || h.eng.reloading.isSome
  let e := h.quotaEgress j.ctx
  up && !fence && (if j.encap then h.encapRoom j.ingress x.cls (cellCount (h.wireLen j.ctx j.seg.data.length)) && !h.heldJob j.ctx &&
      x.newClass.isNone && !h.swapHold j.ctx
    else if e = 32 then (decide (h.bindEgress j.ctx ≠ 12) || h.frameRoom j.ctx j.seg.data)
    else decide (h.sw.stageOut.get 0 e + stageCharge j.seg.data.length ≤ h.quotaOut e))

/-- Count a segment discarded in the tunnel record (R153, R521). -/
def Hub.segDiscard (h : Hub) (i : Nat) : Hub := h.updCtx i (fun x => { x with segDiscard := trunc 32 (x.segDiscard + 1) })

/-- A segment leaves staging and the input quota that it takes; a message of a SYSTEM tunnel takes none (log 68). -/
def Hub.stageLeave (h : Hub) (j : Job) : Hub :=
  let h1 := if 256 ≤ j.ctx then h else h.stageInBy j.ingress j.cls j.seg.data.length false
  if j.damage = 0 then h1
  else
    let a := h1.wordAddr 2
    a.1.freeDamaged 2 a.2 j.damage

/-- An encapsulation is dispatched in the class that its tunnel has now: its words are charged, and its TSEQ range is taken. -/
def Hub.dispatchEncap (h : Hub) (t : Nat) (j : Job) : Hub :=
  let i := j.ctx
  let x := h.ctx i
  let l := j.seg.data.length
  let n := cellCount (h.wireLen i l)
  let h1 := if j.cls = x.cls then h else (h.stageInBy j.ingress j.cls l false).stageInBy j.ingress x.cls l true
  ((h1.acctBy (encapAccount j.ingress x.cls) n true).updCtx i (fun y => { y with txTseq := (y.txTseq + n) % 4096 })).enqueueJob t
    { j with cls := x.cls, tseq := x.txTseq, handle := h.handle i, words := n }

/-- A decapsulation is dispatched: it takes the output quota of its binding. -/
def Hub.dispatchDecap (h : Hub) (t : Nat) (j : Job) : Hub :=
  let e := h.quotaEgress j.ctx
  (if e = 32 then h else h.stageOutBy e j.seg.data.length true).enqueueJob t { j with ingress := e, handle := h.handle j.ctx }

/-- The oldest waiting segment of a direction is dispatched with a ticket; where it cannot be, it goes on waiting (R216, R217, R246). A
segment that INSERT would take beyond MAX_SEG is discarded (R521). -/
def Hub.dispatch (h : Hub) (i : Nat) (encap : Bool) : Hub :=
  match takeWaiting i encap h.eng.waiting with
  | (none, _) => h
  | (some j, rest) =>
    let l := j.seg.data.length
    let gone := { h with eng := { h.eng with waiting := rest } }
    if encap ∧ (h.ctx i).maxSeg < l + h.safetyExtra i then (gone.stageLeave j).segDiscard i
    else match h.targetOf j with
      | none => h
      | some t =>
        if !h.mayDispatch j then h
        else
          let k := dirKey i encap
          let ticket := h.eng.issue.get 0 k
          let g := { gone with eng := { gone.eng with issue := gone.eng.issue.set 0 k (trunc 16 (ticket + 1)) } }
          if encap then g.dispatchEncap t { j with ticket := ticket } else g.dispatchDecap t { j with ticket := ticket }

/-! ### A Tender's work (R214, R215, R220) -/

/-- The oldest PENDING job, pinned ones first: its place in the queue. -/
def nextJob (l : List Job) : Option Nat :=
  match l.findIdx? (fun j => decide (j.state = .pending) && j.pinned) with
  | some k => some k
  | none => l.findIdx? (fun j => decide (j.state = .pending))

/-- Change the job at a place. -/
def setJob (l : List Job) (k : Nat) (f : Job → Job) : List Job := l.mapIdx (fun n j => if n = k then f j else j)

/-- The Tender is running a job. -/
def Tender.busy (x : Tender) : Bool := x.jobs.any (fun j => decide (j.state = .running))

/-- An idle Tender starts a job (R215). -/
def Hub.startJob (h : Hub) (t : Nat) : Hub :=
  let x := h.tender t
  if x.busy || !h.inService t then h
  else match nextJob x.jobs with
    | some k => h.setTender t { x with jobs := setJob x.jobs k (fun j => { j with state := .running }) }
    | none => h

/-! ### Discard (R227) and barriers (R228) -/

/-- A job leaves the counters of the barriers. -/
def Barrier.drop (b : Barrier) (j : Job) : Barrier :=
  { b with waiting := b.waiting.filter (fun w => decide (w ≠ (j.ctx, j.encap, j.ticket))) }

/-- A job has been committed or discarded: the barriers count it off (R228). -/
def Hub.barrierOff (h : Hub) (j : Job) : Hub :=
  let e := h.eng
  { h with eng := { e with regBarrier := e.regBarrier.map (·.drop j), keepBarrier := e.keepBarrier.map (·.drop j) } }

/-- The space of a job is freed: of an encapsulation its staging, and unless it is committed its words; of a decapsulation the words of its
cells, and unless it is committed its output quota (R244, R246). -/
def Hub.freeJob (h : Hub) (j : Job) (committed : Bool) : Hub :=
  if j.encap then
    let h1 := h.stageLeave j
    if committed then h1 else h1.acctBy (encapAccount j.ingress j.cls) j.words false
  else
    let h1 := h.freeWords j.cells
    if committed ∨ 32 ≤ j.ingress then h1 else h1.stageOutBy j.ingress j.seg.data.length false

/-- A discarded segment is counted in DRAIN_DISCARD of its tunnel's record, where that still stands (R225, R227). -/
def Hub.drainCount (h : Hub) (j : Job) : Hub :=
  if h.handle j.ctx = j.handle ∧ (h.ctx j.ctx).state ≠ .free then
    h.updCtx j.ctx (fun x => { x with drainDiscard := trunc 32 (x.drainDiscard + 1) })
  else h

/-- A dispatched job is discarded (R225, R227). -/
def Hub.discardJob (h : Hub) (j : Job) : Hub := ((h.freeJob j false).barrierOff j).drainCount j

/-- The jobs of a context on a Tender are discarded (R227); one that is RUNNING ends first. -/
def Hub.discardOn (h : Hub) (i t : Nat) : Hub :=
  let x := h.tender t
  let goes (j : Job) : Bool := decide (j.ctx = i) && decide (j.state ≠ .running)
  let keep := (x.jobs.filter (fun j => !goes j)).map (fun j => if j.ctx = i then { j with poisoned := true } else j)
  if x.jobs.all (fun j => decide (j.ctx ≠ i)) then h
  else (x.jobs.filter goes).foldl Hub.discardJob (h.setTender t { x with jobs := keep })

/-- The running job of a Tender ends (R214): DONE, or discarded where its tunnel has gone meanwhile (R227). -/
def Hub.finishJob (h : Hub) (t : Nat) : Hub :=
  let x := h.tender t
  match x.jobs.find? (fun j => decide (j.state = .running)) with
  | none => h
  | some j =>
    let y : Tender := { x with jobsRun := trunc 64 (x.jobsRun + 1) }
    if j.poisoned then (h.setTender t { y with jobs := x.jobs.erase j }).discardJob j
    else h.setTender t { y with jobs := x.jobs.map (fun k => if k.state = .running then { k with state := .done } else k) }

/-- The jobs and waiting segments of a context are discarded: each segment is counted in DRAIN_DISCARD (R227). -/
def Hub.discardJobs (h : Hub) (i : Nat) : Hub :=
  let h1 := (List.range 32).foldl (fun h t => h.discardOn i t) h
  let h2 := { h1 with eng := { h1.eng with waiting := h1.eng.waiting.filter (fun j => decide (j.ctx ≠ i)) } }
  (h1.eng.waiting.filter (fun j => decide (j.ctx = i))).foldl (fun h j => (if j.encap then h.stageLeave j else h.freeWords j.cells).drainCount j) h2

/-- The outstanding jobs: dispatched and neither committed nor discarded (R228). -/
def Hub.outstanding (h : Hub) : List (Nat × Bool × Nat) :=
  ((List.range 32).map (fun t => (h.tender t).jobs.map (fun j => (j.ctx, j.encap, j.ticket)))).flatten

/-- A barrier armed now. -/
def Hub.newBarrier (h : Hub) : Barrier := ⟨h.outstanding, h.outstanding.length, h.clock⟩

/-- The barrier counter of ENGINE_BARRIER and Keeper gets one more use; it is armed at once unless another use has it (R228, log 71). -/
def Hub.keepUse (h : Hub) (u : BarrierUse) : Hub :=
  { h with eng := { h.eng with keepUses := h.eng.keepUses ++ [u]
                               keepBarrier := if h.eng.keepUses = [] then some h.newBarrier else h.eng.keepBarrier } }

/-- The uses that a test does not pick end; the counter is armed for the next one that waits. -/
def Hub.keepDrop (h : Hub) (keep : BarrierUse → Bool) : Hub :=
  let l := h.eng.keepUses.filter keep
  let b := if l.head? = h.eng.keepUses.head? then h.eng.keepBarrier else if l = [] then none else some h.newBarrier
  { h with eng := { h.eng with keepUses := l, keepBarrier := b } }

/-! ### Stealing (R218, R219) -/

/-- Unpinned PENDING jobs of a queue. -/
def Hub.stealable (h : Hub) (t : Nat) : Nat :=
  ((h.tender t).jobs.filter (fun j => decide (j.state = .pending) && !j.pinned)).length

/-- The victim among Tenders in order of preference: most PENDING jobs, at least 2 unpinned ones. -/
def Hub.victim (h : Hub) (l : List Nat) : Option Nat :=
  leastBy (fun t => 64 - h.pendingOf t) (l.filter (fun t => decide (2 ≤ h.stealable t)))

/-- The order in which the other clusters are searched (R218). -/
def otherClusters (t : Nat) : List Nat :=
  [1, 2, 3].flatMap (fun d => (List.range 8).map (fun k => ((t / 8 + d) % 4) * 8 + k))

/-- An idle Tender steals the youngest unpinned PENDING job of a victim (R218), within its cluster or across clusters. -/
def Hub.steal (h : Hub) (t : Nat) (remote : Bool) : Hub :=
  let x := h.tender t
  let idle := h.inService t && decide (h.pendingOf t = 0) && !x.busy && !h.isPin t && h.slotFree t false && !h.eng.fenceRaised && h.eng.reloading.isNone
  let own := (List.range 8).map (fun k => t / 8 * 8 + k) |>.filter (fun u => decide (u ≠ t))
  let local_ := h.victim own
  let v := if !remote then (if bit 0 (h.val Od.engStealEnable) then local_ else none)
    else if !bit 1 (h.val Od.engStealEnable) then none
    else if bit 0 (h.val Od.engStealEnable) ∧ local_ ≠ none then local_ else h.victim (otherClusters t)
  if !idle then h
  else match v with
    | none => h
    | some u =>
      let y := h.tender u
      match y.jobs.reverse.find? (fun j => decide (j.state = .pending) && !j.pinned) with
      | none => h
      | some j =>
        let same := decide (u / 8 = t / 8)
        let h1 := h.setTender u { y with jobs := y.jobs.filter (fun k => decide (k ≠ j)), stolenOut := trunc 32 (y.stolenOut + 1) }
        let h2 := h1.setTender t { x with jobs := x.jobs ++ [{ j with state := .running }], stolenIn := trunc 32 (x.stolenIn + 1) }
        let item := if same then 0x0401 else 0x0402
        (h2.tally item t 1).tally item 0xFFFF 1

/-! ### Offering a segment (R156, R214, R241) -/

/-- Ingress i takes a segment of l bytes now (R248): its quota has room, and no earlier segment waits at its producer. -/
def Hub.takesNow (h : Hub) (i l : Nat) : Bool := h.stageRoom i l && h.eng.atProducer.all (fun j => decide (j.ingress ≠ i))

/-- Context i takes segments from its local binding (R156). -/
def Ctx.takesIn (x : Ctx) : Bool := (decide (x.state = .open) || decide (x.state = .opening)) && decide (x.direction ≠ 2)

/-- The producer at the local binding of context i waits with its segment of l bytes (R248): its ingress is held in the class, or has no
room. -/
def Hub.producerWaits (h : Hub) (i l : Nat) : Bool :=
  let x := h.ctx i
  let ing := ingressOfPort (portCode x.localBind)
  x.takesIn && (h.held ing x.cls || !h.takesNow ing l)

/-- A segment is discarded at ingress, and counted (R156). -/
def Hub.ingressDiscard (h : Hub) (i : Nat) : Hub := h.updCtx i (fun y => { y with ingressDiscard := trunc 32 (y.ingressDiscard + 1) })

/-- A segment is written to staging (R241, R256, R271); the frames of ETH and CAN ports have been copied before their classification. -/
def Hub.stageSegment (h : Hub) (j : Job) : Hub :=
  let d := j.seg.data
  let i := j.ingress
  let h1 := if (3 ≤ i ∧ i ≤ 10) ∨ (17 ≤ i ∧ i ≤ 22) then h else h.mirrorSegment 0 i d j.seg.yellow
  let w := h1.takeInject 2
  ({ w.1 with eng := { w.1.eng with waiting := w.1.eng.waiting ++ [{ j with cls := (h.ctx j.ctx).cls, damage := w.2 }] } } : Hub).stageInBy i (h.ctx j.ctx).cls d.length true

/-- A segment from a local binding is offered to its tunnel: taken into staging, kept at the producer until the quota has room (log 78),
or discarded at ingress. -/
def Hub.offer (h : Hub) (i : Nat) (seg : Segment) : Hub :=
  let x := h.ctx i
  let ing := ingressOfPort (portCode x.localBind)
  if !x.takesIn ∨ seg.data.length = 0 then h.ingressDiscard i
  else
    let j : Job := { ctx := i, cls := x.cls, handle := h.handle i, encap := true, ticket := 0, tseq := 0, cells := [], skipped := [], words := 0,
                     seg := seg, ingress := ing, state := .pending, pinned := pinnedKind x.kind, fences := 0, poisoned := false, damage := 0 }
    if h.takesNow ing seg.data.length then h.stageSegment j else { h with eng := { h.eng with atProducer := h.eng.atProducer ++ [j] } }

/-- The first segment that waits at the producers of ingress i is taken once there is room; where its tunnel takes no more it is discarded, and
with a tunnel that is gone it goes too (R156, R248). -/
def Hub.producerGo (h : Hub) (i : Nat) : Hub :=
  match h.eng.atProducer.find? (fun j => decide (j.ingress = i)) with
  | none => h
  | some j =>
    let h1 : Hub := { h with eng := { h.eng with atProducer := h.eng.atProducer.erase j } }
    if h.handle j.ctx ≠ j.handle ∨ (h.ctx j.ctx).state = .free then h1
    else if !(h.ctx j.ctx).takesIn then h1.ingressDiscard j.ctx
    else if h.stageRoom i j.seg.data.length then h1.stageSegment j else h

/-- The producers that wait are looked at. -/
def Hub.producersGo (h : Hub) : Hub := if h.eng.atProducer = [] then h else (List.range 32).foldl Hub.producerGo h

end Sys2Proof.Machine
end

