-- ==== Sys2Proof/Machine/PortBase.lean ====
section
/-!
DEFINITION. The local ports as the tunnels see them: segments waiting at a port, which bindings are valid (R148, R149, R342,
R349, R356, R362, R383, R401, R423, R435), and what a port does when a tunnel leaves OPEN (R360, R395, R432, R433).
-/

namespace Sys2Proof.Machine

/-! ### Segments waiting at an egress (R246) -/

/-- The segments waiting at local egress e, oldest first. -/
def Hub.outQ (h : Hub) (e : Nat) : List OutSeg := h.io.outQ.get [] e

/-- Replace the segments waiting at egress e. -/
def Hub.setOutQ (h : Hub) (e : Nat) (l : List OutSeg) : Hub := { h with io := { h.io with outQ := h.io.outQ.set [] e l } }

/-- A segment waits at egress e. -/
def Hub.pushOut (h : Hub) (e : Nat) (x : OutSeg) : Hub := h.setOutQ e (h.outQ e ++ [x])

/-- A segment leaves egress e and its output quota. -/
def Hub.dropOut (h : Hub) (e : Nat) (x : OutSeg) : Hub := (h.setOutQ e ((h.outQ e).erase x)).stageOutBy e x.data.length false

/-- The oldest segment of a context at egress e. -/
def Hub.headOf (h : Hub) (e i : Nat) : Option OutSeg := (h.outQ e).find? (fun x => decide (x.ctx = i))

/-- A tunnel in OPENING, OPEN or DRAINING. -/
def Ctx.busy (x : Ctx) : Bool := x.upState && !x.shadow

/-- An end's segments of a tunnel that binds a value, other than context `but`: the first in OPENING, OPEN or DRAINING. -/
def Hub.boundBy (h : Hub) (but : Nat) (pick : Nat → Bool) : Option Nat :=
  (h.ctxList.find? (fun c => decide (c.1 ≠ but) && c.2.busy && decide (c.2.role ≠ .transit) && pick c.2.localBind)).map (·.1)

/-! ### USB descriptors (R396) -/

/-- An endpoint descriptor with the interface and alternate setting it stands under. -/
structure EpDesc where
  iface : Nat
  alt : Nat
  addr : Nat
  attr : Nat
  maxPkt : Nat
  deriving DecidableEq, Repr

/-- Interfaces (number, setting, string index) and endpoints of a configuration descriptor, read from its parts in order;
`none` for a malformed one. The first argument bounds the number of parts. -/
def confParse : Nat → Nat → Nat → Bytes → Option (List (Nat × Nat × Nat) × List EpDesc)
  | _, _, _, [] => some ([], [])
  | 0, _, _, _ :: _ => none
  | n + 1, i, a, b =>
    let len := field b 0 1
    let ty := field b 1 1
    if len < 2 ∨ b.length < len then none
    else if ty = 4 then
      if len < 9 then none
      else match confParse n (field b 2 1) (field b 3 1) (b.drop len) with
        | some (is, es) => some ((field b 2 1, field b 3 1, field b 8 1) :: is, es)
        | none => none
    else if ty = 5 then
      if len < 7 then none
      else match confParse n i a (b.drop len) with
        | some (is, es) => some (is, ⟨i, a, field b 2 1, field b 3 1, field b 4 2⟩ :: es)
        | none => none
    else confParse n i a (b.drop len)

/-- The endpoints of a configuration descriptor. -/
def confEndpoints (b : Bytes) : List EpDesc := match confParse b.length 0 0 b with
  | some (_, es) => es
  | none => []

/-- The interfaces of a configuration descriptor. -/
def confIfaces (b : Bytes) : List (Nat × Nat × Nat) := match confParse b.length 0 0 b with
  | some (is, _) => is
  | none => []

/-- Index of function f of HSIC port n in the function entries. -/
abbrev fnIx (n f : Nat) : Nat := 4 * n + f

/-- The configuration descriptor of a function. -/
def Hub.confDesc (h : Hub) (n f : Nat) : Bytes := h.blobVal (Od.fnConfDesc (fnIx n f))

/-- The checks of R396 on ENABLE of function f of port n. -/
def Hub.fnDescOk (h : Hub) (n f : Nat) : Bool :=
  let d := h.blobVal (Od.fnDevDesc (fnIx n f))
  let c := h.confDesc n f
  let str (i : Nat) : Bytes := h.blobVal (Od.fnStringI (fnIx n f) i)
  match confParse c.length 0 0 c with
  | none => false
  | some (is, es) =>
    let named := ([field d 14 1, field d 15 1, field d 16 1, field c 6 1] ++ is.map (fun x => x.2.2)).filter (fun i => decide (i ≠ 0))
    let ifs := (is.map (·.1)).eraseDups
    decide (d.length = 18) && decide (field d 1 1 = 1) && decide (field d 2 2 = 0x0200) && decide (field d 7 1 = 64) &&
      decide (field d 17 1 = 1) && decide (9 ≤ c.length) && decide (field c 2 2 = c.length) && decide (field c 5 1 = 1) &&
      decide (1 ≤ ifs.length) && decide (ifs.length ≤ 8) &&
      ifs.all (fun k => decide (((is.filter (fun x => decide (x.1 = k))).map (fun x => x.2.1)).eraseDups.length ≤ 4)) &&
      es.all (fun e => decide (1 ≤ e.addr % 16) && decide (e.addr % 128 < 16) &&
        ((decide (e.attr % 4 = 2) && decide (e.maxPkt = 512)) ||
         (decide (e.attr % 4 = 3) && decide (1 ≤ e.maxPkt) && decide (e.maxPkt ≤ 1024))) &&
        es.all (fun g => decide (g.addr ≠ e.addr) || (decide (g.attr = e.attr) && decide (g.maxPkt = e.maxPkt)))) &&
      decide (((es.map (·.addr)).eraseDups).length ≤ 6) &&
      named.all (fun i => decide (i < 16) && decide (str i ≠ [])) && (decide (named = []) || decide (str 0 ≠ []))

/-! ### Valid bindings (R148) -/

/-- Kinds and ends of R146: the two sets of port codes. -/
def isEth (c : Nat) : Bool := decide (0x10 ≤ c) && decide (c ≤ 0x17)
def isCan (c : Nat) : Bool := decide (0x20 ≤ c) && decide (c ≤ 0x25)
def isSer (c : Nat) : Bool := decide (0x70 ≤ c) && decide (c ≤ 0x75)
def isCsi (c : Nat) : Bool := decide (c = 0x40) || decide (c = 0x41)
def isDsi (c : Nat) : Bool := decide (c = 0x48) || decide (c = 0x49)
def isHsic (c : Nat) : Bool := decide (c = 0x50) || decide (c = 0x51)
/-- HOSTQ or KEEPER. -/
def isHk (c : Nat) : Bool := decide (c = 0x61) || decide (c = 0x90)

/-- The port codes at one end and at the other of a kind (R146). -/
def kindEnds (k : Nat) : (Nat → Bool) × (Nat → Bool) :=
  if k = 1 then (isCsi, isDsi)
  else if k = 2 then (fun c => isEth c || decide (c = 0x61), fun c => isEth c || decide (c = 0x61))
  else if k = 3 then (isCan, isCan)
  else if k = 4 then (fun c => decide (c = 0x30), isHk)
  else if k = 5 then (isHsic, fun c => isHk c || isSer c)
  else if k = 6 then (fun c => decide (c = 0x60), fun c => decide (c = 0xA0))
  else if k = 7 then (isHk, isHk)
  else if k = 8 then (isSer, fun c => isSer c || isHk c)
  else if k = 9 then (fun c => decide (c = 0x80), isHk)
  else (fun _ => false, fun _ => false)

/-- R146 admits a pair of port codes, in either order. -/
def endsOk (k a b : Nat) : Bool :=
  let e := kindEnds k
  (e.1 a && e.2 b) || (e.1 b && e.2 a)

/-- R146 admits a port code at some end. -/
def endOk (k a : Nat) : Bool := (kindEnds k).1 a || (kindEnds k).2 a

/-- The mode runs the port of a code (R19, R22, R30). -/
def Hub.portRuns (h : Hub) (c : Nat) : Bool :=
  match h.mode.active with
  | .foghorn => isCan c || decide (c = 0x90)
  | .strapFault => decide (c = 0x20) || decide (c = 0x60) || decide (c = 0x61)
  | _ => true

/-- The kinds that Keeper service s accepts (R42, R149); a hub that stays in the boot ROM has none. -/
def Hub.service (h : Hub) (s : Nat) : Nat := if h.pwr.bootPhase = .keeper ∧ 0 < s ∧ s < 256 then Config.serviceMask s else 0

/-- A binding is valid under R148 and its port's chapter, for a tunnel of a kind and MAX_SEG that is context `but`. -/
def Hub.bindOk (h : Hub) (but kind bind maxSeg : Nat) : Bool :=
  let c := portCode bind
  let s := selector bind
  endOk kind c && h.portRuns c &&
    (if isEth c then decide (s / 2 ^ 19 = 0) && decide (h.val (Od.ethEnable (c - 0x10)) = 1) &&
        decide (h.val (Od.ethMaxFrame (c - 0x10)) + 6 ≤ maxSeg)
    else if isCan c then decide (s = 0) && decide (h.val (Od.canEnable (c - 0x20)) = 1) && decide (72 ≤ maxSeg)
    else if c = 0x30 then
      decide (s < 8) && decide (h.val Od.emmcEnable = 1) && decide (h.io.emmc.state = .ready) && decide (1540 ≤ maxSeg) &&
        decide (0 < h.val (Od.regionBlocks s)) &&
        decide (h.val (Od.regionBaseLba s) + h.val (Od.regionBlocks s) ≤ h.io.emmc.parts.getD (h.val (Od.regionPartition s)) 0)
    else if isCsi c then decide (s = 0) && decide (h.val (Od.csiEnable (c - 0x40)) = 1) && decide (512 ≤ maxSeg)
    else if c = 0x48 then
      decide (s < 4) && decide (h.val Od.dsiEnable = 1) && decide (512 ≤ maxSeg) &&
        (h.boundBy but (fun b => decide (b = bind))).isNone
    else if isHsic c then
      let n := c - 0x50
      let f := s % 4
      let ep := s / 4 % 16
      let dir := s / 64 % 4
      let es := confEndpoints (h.confDesc n f)
      let has (a : Nat) : Bool := es.any (fun e => decide (e.addr = a))
      let pkt := (es.filter (fun e => decide (e.addr % 16 = ep))).foldl (fun m e => max m e.maxPkt) 0
      decide (s < 256) && decide (dir ≠ 0) && decide (h.val (Od.hsicEnable n) = 1) && decide (h.val (Od.fnEnable (fnIx n f)) = 1) &&
        (if ep = 0 then decide (dir = 3) && decide (1040 ≤ maxSeg)
         else decide (pkt + 4 ≤ maxSeg) && (decide (dir = 2) || has ep) && (decide (dir = 1) || has (ep + 0x80))) &&
        (h.boundBy but (fun b => decide (portCode b = c) && decide (b % 64 = bind % 64) && decide (b / 64 % 4 &&& dir ≠ 0))).isNone
    else if c = 0x60 then
      decide (s < 16) && bit 0 (h.reg (Rg.win s 2)) && decide (272 ≤ maxSeg) && (h.boundBy but (fun b => decide (b = bind))).isNone
    else if c = 0x61 then
      decide (s < 32) && bit 0 (h.reg (Rg.queue s 0x10)) && (h.boundBy but (fun b => decide (b = bind))).isNone &&
        (decide (kind ≠ 4) || decide (1540 ≤ maxSeg))
    else if isSer c then
      let n := c - 0x70
      decide (h.val (Od.serEnable n) = 1) && decide (258 ≤ maxSeg) &&
        (if h.val (Od.serMode n) = 2 then decide (s < 128) && (h.boundBy but (fun b => decide (b = bind))).isNone
         else decide (s = 0) && (h.boundBy but (fun b => decide (portCode b = c))).isNone)
    else if c = 0x80 then decide (s = 0)
    else if c = 0x90 then decide (s / 256 = 0) && bit kind (h.service s) && (decide (kind ≠ 4) || decide (1540 ≤ maxSeg))
    else if c = 0xA0 then decide (s / 2 ^ 20 < 2) && decide (s % 2 ^ 19 = 0) && decide (272 ≤ maxSeg)
    else false)

/-! ### Function connection (R395) -/

/-- USB device k: 5 * port for the hub, 5 * port + 1 + f for function f. -/
def Hub.dev (h : Hub) (k : Nat) : UsbDev := h.usb.devs.get UsbDev.init k

/-- Replace USB device k. -/
def Hub.setDev (h : Hub) (k : Nat) (x : UsbDev) : Hub := { h with usb := { h.usb with devs := h.usb.devs.set UsbDev.init k x } }

/-- Key of function f of port n. -/
abbrev fnKey (n f : Nat) : Nat := 5 * n + 1 + f

/-- The context bound to an endpoint of a function, in a given direction (R401, R404). -/
def Hub.epCtx (h : Hub) (n f ep : Nat) (inward : Bool) : Option Nat :=
  h.boundBy 0 (fun b => decide (portCode b = 0x50 + n) && decide (b % 4 = f) && decide (b / 4 % 16 = ep) &&
    bit (if inward then 1 else 0) (b / 64 % 4))

/-- The conditions of R395 hold for function f of port n. -/
def Hub.fnMayConnect (h : Hub) (n f : Nat) : Bool :=
  decide ((h.dev (5 * n)).state = .configured) && (h.dev (fnKey n f)).portPower && decide (h.val (Od.fnEnable (fnIx n f)) = 1) &&
    (decide (h.val (Od.fnConnectGate (fnIx n f)) = 0) || (confEndpoints (h.confDesc n f)).all (fun e =>
      match h.epCtx n f (e.addr % 16) (decide (128 ≤ e.addr)) with
      | some i => decide ((h.ctx i).state = .open)
      | none => false))

/-- A function disconnects (R395): PORT_CONNECTION clears, C_PORT_CONNECTION is set; a wake that was pending ends with it. -/
def Hub.fnDisconnect (h : Hub) (n f : Nat) : Hub :=
  let x := h.dev (fnKey n f)
  if x.state = .disconnected ∨ x.state = .off then h
  else
    let y := { x with state := .disconnected, suspended := false, portEnable := false, portReset := false, resuming := false, address := 0,
                      configuration := 0, ctrl := none, wakePending := false, wakeCommands := [], change := setBit 0 x.change,
                      disconnectedAt := some h.clock }
    let h1 := ((h.setDev (fnKey n f) y).flag Rg.usbFlags (8 * n + 6)).fire Ev.usbFuncDisconnect (u8 n ++ u8 f)
    x.wakeCommands.foldl (fun h c => h.done c 0 (u8 2)) h1

/-- Functions whose conditions no longer hold disconnect (R395). -/
def Hub.usbJudge (h : Hub) : Hub :=
  (List.range 8).foldl (fun h k =>
    let x := h.dev (fnKey (k / 4) (k % 4))
    if x.state ≠ .disconnected ∧ x.state ≠ .off ∧ !h.fnMayConnect (k / 4) (k % 4) then h.fnDisconnect (k / 4) (k % 4) else h) h

/-! ### Prefetch (R433, R434) -/

/-- Window w. -/
def Hub.win (h : Hub) (w : Nat) : WinSt := h.hb.wins.get WinSt.init w

/-- Replace window w. -/
def Hub.setWin (h : Hub) (w : Nat) (x : WinSt) : Hub := { h with hb := { h.hb with wins := h.hb.wins.set WinSt.init w x } }

/-- BAR2 offset of a far address of window w (R422). -/
def Hub.winBar2 (h : Hub) (w far : Nat) : Nat :=
  bits 13 0 (h.reg (Rg.win w 0)) * 4096 + (far - bits 31 12 (h.reg (Rg.win w 1)) * 4096)

/-- A discarded prefetch piece is counted (R434). -/
def Hub.pfDiscard (h : Hub) (w : Nat) (p : PfPiece) : Hub :=
  if p.side then
    ((h.bump Od.hostPfLost 32 1).flag Rg.hbFlags 4).fire Ev.prefetchLost (u8 w ++ u32 (h.winBar2 w p.addr) ++ u32 p.addr)
  else h.bump Od.hostPfUnused 32 1

/-- The prefetch buffer of window w is emptied; pieces outstanding are discarded on arrival (R433). -/
def Hub.pfEmpty (h : Hub) (w : Nat) : Hub :=
  let x := h.win w
  x.held.foldl (fun h p => h.pfDiscard w p) (h.setWin w { x with held := [], outstanding := [], ignored := x.ignored ++ x.outstanding })

/-! ### A tunnel leaves OPEN -/

/-- The eMMC end of a BLOCK tunnel that leaves OPEN (R360): its requests go; the one on the device finishes there. -/
def Hub.blockLeave (h : Hub) (i : Nat) : Hub :=
  let x := h.io.emmc
  let keep := x.requests.filter (fun r => decide (r.ctx ≠ i))
  let run := if x.running = some i then x.requests.find? (fun r => decide (r.ctx = i)) else none
  let y := match run with
    | some r => { x with requests := r :: keep, orphan := true }
    | none => { x with requests := keep }
  let h1 := { h with io := { h.io with emmc := { y with dropping := y.dropping.filter (fun j => decide (j ≠ i)) } } }
  ((h1.outQ 16).filter (fun s => decide (s.ctx = i))).foldl (fun h s => h.dropOut 16 s) h1

/-- What the local port does when its tunnel leaves OPEN. -/
def Hub.portLeave (h : Hub) (i : Nat) : Hub :=
  let b := (h.ctx i).localBind
  let c := portCode b
  if c = 0x30 then h.blockLeave i
  else if c = 0x60 then h.pfEmpty (selector b)
  else if c = 0xA0 then
    { h with hb := { h.hb with lockHolder := if h.hb.lockHolder = some i then none else h.hb.lockHolder
                               lockSkip := h.hb.lockSkip.filter (fun j => decide (j ≠ i)) } }
  else if isHsic c then h.usbJudge
  else h

end Sys2Proof.Machine
end

