-- ==== Sys2Proof/Machine/KeyBase.lean ====
section
/-!
DEFINITION. Key slots, the key derivation function, pair keys and the messages of the key agreement (R505 to R518): what the
tunnels need of them. The commands of the chapter stand in Machine/Keys.lean.
-/

namespace Sys2Proof.Machine

/-- The bytes of an ASCII string. -/
def ascii (s : String) : Bytes := s.toList.map (fun c => BitVec.ofNat 8 c.toNat)

/-- Blocks n - 1 down to 0 of the counter-mode function of R513, in order. -/
def kdfBlocks (k : Nat) (label context : Bytes) (l : Nat) : Nat → Bytes
  | 0 => []
  | n + 1 => kdfBlocks k label context l n ++ Config.hmac k (beBytes 4 (n + 1) ++ label ++ [0] ++ context ++ beBytes 4 l)

/-- KDF of R513: the first l bits, as bytes. -/
def kdf (k : Nat) (label context : Bytes) (l : Nat) : Bytes := (kdfBlocks k label context l ((l + 255) / 256)).take (l / 8)

/-- The order n of P-256. -/
def p256Order : Nat := 0xFFFFFFFF00000000FFFFFFFFFFFFFFFFBCE6FAADA7179E84F3B9CAC2FC632551

/-- A value reduced into the range 1 to n - 1 of P-256 (R527). -/
def toScalar (v : Nat) : Nat := v % (p256Order - 1) + 1

/-! ### Slots (R505 to R511) -/

/-- Slot n. -/
def Hub.slot (h : Hub) (n : Nat) : Slot := h.sec.slots.get Slot.init n

/-- Replace slot n. -/
def Hub.setSlot (h : Hub) (n : Nat) (x : Slot) : Hub := { h with sec := { h.sec with slots := h.sec.slots.set Slot.init n x } }

/-- The unmasked key (R510). -/
def Slot.key (x : Slot) : Nat := x.masked ^^^ x.mask

/-- The check of a slot (R509). -/
def Hub.slotCheck (h : Hub) (n key usage : Nat) (expire : Bool) : Nat :=
  let ik := leNat (kdf (h.fuse 0) (ascii "HX64 SLOTCHECK") [] 256)
  trunc 32 (leNat (Config.hmac ik (leBytes 32 key ++ u8 usage ++ u8 (b2n expire) ++ u8 n)))

/-- Write a slot: the key goes in under a fresh mask of the DRBG (R509, R510). -/
def Hub.writeSlot (h : Hub) (n usage uses key : Nat) (expire : Bool) (publicKey : Bytes) : Hub :=
  let d := h.draw
  let m := trunc 256 d.2
  d.1.setSlot n { state := .valid, usage := usage, usesLeft := uses, expire := expire, masked := key ^^^ m, mask := m,
                  check := h.slotCheck n key usage expire, publicKey := publicKey }

/-- A slot may be rewritten (R508). -/
def Hub.slotWritable (h : Hub) (n : Nat) : Bool := decide ((h.slot n).state ≠ .valid)

/-- The slots whose attributes go together: those of an IMAGE key, an even slot and the one after it (R505), or the slot alone. -/
def Hub.slotHalves (h : Hub) (n : Nat) : List Nat := if (h.slot n).usage = 3 then [n / 2 * 2, n / 2 * 2 + 1] else [n]

/-- The checks of R507 on a use of slot n for a USAGE; `off` is the offset of the slot number in COMMAND. -/
def Hub.useSlot (h : Hub) (n usage off : Nat) : Hub × Option Abort :=
  let x := h.slot n
  match x.state with
  | .bad => (h, some (abState stSlotBad))
  | .empty => (h, some (abArg off))
  | .valid =>
    if x.usage ≠ usage then (h, some abDenied)
    else if x.usesLeft = 0 then (h, some abDenied)
    else if x.check ≠ h.slotCheck n x.key x.usage x.expire then
      ((h.slotHalves n).foldl (fun h k => h.setSlot k { h.slot k with state := .bad }) h, some (abState stSlotBad))
    else if x.usesLeft = 0xFFFFFFFF then (h, none)
    else (h.setSlot n { x with usesLeft := x.usesLeft - 1 }, none)

/-! ### Pair keys (R514 to R518) -/

/-- Pair-key record k. -/
def Hub.pairKey (h : Hub) (k : Nat) : PairKey := h.sec.pairKeys.get PairKey.init k

/-- Replace pair-key record k. -/
def Hub.setPairKey (h : Hub) (k : Nat) (x : PairKey) : Hub :=
  { h with sec := { h.sec with pairKeys := h.sec.pairKeys.set PairKey.init k x } }

/-- The pair key for a target (R515). -/
def Hub.pairFor (h : Hub) (target : Nat) : Option Nat :=
  (List.range 8).find? (fun k => decide (0 < target) && decide ((h.pairKey k).target = target))

/-- The pair slots that can be written (R506, R508). -/
def Hub.freePairSlots (h : Hub) : List Nat := ((List.range 16).map (· + 4)).filter h.slotWritable

/-- Contexts that seal under pair-key record k. -/
def Hub.sealUsers (h : Hub) (k : Nat) : List Nat := (h.ctxList.filter (fun c => c.2.busy && decide (c.2.sealKey = k + 1))).map (·.1)

/-- Records past 7 that no tunnel seals under any more are gone. -/
def Hub.prunePairs (h : Hub) : Hub :=
  { h with sec := { h.sec with pairKeys := ⟨h.sec.pairKeys.cells.filter (fun c => decide (c.1 < 8) || decide (h.sealUsers c.1 ≠ []))⟩ } }

/-- A pair key is discarded: its slots are empty; tunnels that are OPEN keep sealing under it (R518). -/
def Hub.discardPair (h : Hub) (k : Nat) : Hub :=
  let x := h.pairKey k
  if x.target = 0 then h
  else
    let users := h.sealUsers k
    let h1 := ((h.setSlot x.txSlot Slot.init).setSlot x.rxSlot Slot.init).setPairKey k PairKey.init
    if users = [] then h1.prunePairs
    else match (List.range 512).find? (fun m => decide (8 ≤ m) && decide ((h.sealUsers m) = [])) with
      | some m => users.foldl (fun h i => h.updCtx i (fun c => { c with sealKey := m + 1 })) (h1.setPairKey m { x with target := 0 })
      | none => h1

/-- Pair keys of a target, or of every one that a test picks, are discarded. -/
def Hub.discardPairs (h : Hub) (pick : Nat → Bool) : Hub :=
  (List.range 8).foldl (fun h k => if pick (h.pairKey k).target then h.discardPair k else h) h

/-- The pair keys whose route begins at port p (R518). -/
def Hub.discardPairsOn (h : Hub) (p : Nat) : Hub :=
  h.discardPairs (fun t => match h.route t with
    | some (some q, _, _) => decide (q = p)
    | _ => false)

/-- Put a derived pair key in force (R516): two slots and a record. `out` is 576 bits; the hub is the offerer or the answerer. -/
def Hub.installPair (h : Hub) (target : Nat) (offerer : Bool) (out : Bytes) : Hub :=
  let h0 := h.discardPairs (fun t => decide (t = target))
  let toAns := leNat (out.take 32)
  let toOff := leNat ((out.drop 32).take 32)
  let sAns := leNat ((out.drop 64).take 4)
  let sOff := leNat ((out.drop 68).take 4)
  let tx := if offerer then toAns else toOff
  let rx := if offerer then toOff else toAns
  match h0.freePairSlots, (List.range 8).find? (fun k => decide ((h0.pairKey k).target = 0)) with
  | a :: b :: _, some k =>
    let h1 := (h0.writeSlot a 1 0xFFFFFFFF tx true []).writeSlot b 1 0xFFFFFFFF rx true []
    let d := h1.draw
    let e := d.1.draw
    (e.1.tally 0x0E03 0 1).setPairKey k
      { target := target, txSlot := a, rxSlot := b, txKey := tx ^^^ trunc 256 d.2, txMask := trunc 256 d.2,
        rxKey := rx ^^^ trunc 256 e.2, rxMask := trunc 256 e.2, txSalt := if offerer then sAns else sOff,
        rxSalt := if offerer then sOff else sAns, txCounter := 0 }
  | _, _ => h0

/-! ### The messages of the agreement (R515, R516) -/

/-- ATTEST_PUBKEY. -/
def Hub.attestPub (h : Hub) : Bytes := Config.publicOf (h.slot 2).key

/-- The parts of an offer or answer that its signature covers. -/
def keySigned (data : Bytes) : Bytes := data.take 144 ++ data.drop 208

/-- An offer or answer: ephemeral public key, ATTEST_PUBKEY, NONCE, signature, SERIAL. `tail` is what an answer also signs. -/
def Hub.keyData (h : Hub) (ephemeral : Nat) (nonce tail : Bytes) : Bytes :=
  let body := Config.publicOf ephemeral ++ h.attestPub ++ nonce
  let serial := u64 Config.serial
  body ++ Config.ecdsaSign (h.slot 2).key (Config.sha256 (ascii "HX64-KA" ++ body ++ serial ++ tail)) ++ serial

/-- Some TRUSTED_KEYS entry is set. -/
def Hub.trusted (h : Hub) : List Bytes := ((List.range 8).map (fun k => h.blobVal (Od.keyTrustedKeys k))).filter (· ≠ [])

/-- An offer or answer passes the checks of R515. -/
def Hub.keyOk (h : Hub) (data tail : Bytes) : Bool :=
  let att := (data.drop 64).take 64
  Config.onCurve (data.take 64) && Config.onCurve att &&
    Config.ecdsaVerify att (Config.sha256 (ascii "HX64-KA" ++ keySigned data ++ tail)) ((data.drop 144).take 64) &&
    (decide (h.trusted = []) || decide (Config.sha256 att ∈ h.trusted))

/-- The 576 bits of R516 from the ECDH result and the two messages. -/
def pairOut (private_ : Nat) (far offer answer : Bytes) : Bytes :=
  kdf (Config.ecdh private_ (far.take 64)) (ascii "HX64 PAIR")
    ((offer.drop 128).take 16 ++ (answer.drop 128).take 16 ++ offer.drop 208 ++ answer.drop 208) 576

/-- The TARGET code of the hub at the other end of a message (R54): its port of arrival and the depths. -/
def Hub.targetFrom (h : Hub) (p hops : Nat) : Nat :=
  if p = 2 then 0x30 else if h.facesUp p then 0x40 + hops else 0x10 * (p + 1) + hops

/-- The hops between this hub and one of a given depth. -/
def Hub.hopsTo (h : Hub) (depth : Nat) : Nat := max 1 (max h.links.hopDepth depth - min h.links.hopDepth depth)

end Sys2Proof.Machine
end

