-- ==== Sys2Proof/Machine/TunnelBase.lean ====
section
/-!
DEFINITION. Tunnel contexts (R141 to R175): allocation, routing fields, control messages, entry to each state, discard of
queued cells, faults, and what a link that goes DOWN does to tunnels. The rows stand in Machine/Tunnels.lean.
-/

namespace Sys2Proof.Machine

/-! ### Codes and events -/

/-- STATE of R175. -/
def TunState.code : TunState → Nat
  | .closed => 0 | .opening => 1 | .open => 2 | .draining => 3 | .faulted => 4 | .free => 0xFF

/-- ROLE of R175. -/
def TunRole.code : TunRole → Nat
  | .opener => 0 | .responder => 1 | .transit => 2

/-- The state of R67 that a context's state is named by. -/
def TunState.named : TunState → Nat
  | .closed => stTunnelClosed | .opening => stTunnelOpening | .open => stTunnelOpen | .draining => stTunnelDraining
  | .faulted => stTunnelFaulted | .free => stTunnelClosed

/-- ROLE of context i (R175): 3 for a SYSTEM tunnel. -/
def Hub.roleCode (h : Hub) (i : Nat) : Nat := if 256 ≤ i then 3 else (h.ctx i).role.code

/-- An event of R155 and R178: handle, role, new state, FAULT_CAUSE. -/
def Hub.tunEvent (h : Hub) (src i : Nat) (st : TunState) : Hub :=
  h.fire src (u16 (h.handle i) ++ u8 (h.roleCode i) ++ u8 st.code ++ u8 (h.ctx i).faultCause)

/-- The record of a context as the mirror carries it (R450). -/
def Hub.ctxImage (h : Hub) (i : Nat) : Option CtxImage :=
  let x := h.ctx i
  if x.state = .free then none
  else some
    { gen := h.gen i, role := x.role.code, state := x.state.code, kind := x.kind, cls := x.cls, direction := x.direction,
      isSealed := x.isSealed, maxSeg := x.maxSeg, localBind := x.localBind, farBind := x.farBind, farTarget := x.farTarget,
      farHandle := x.farHandle, openerHandle := x.openerHandle, responderHandle := x.responderHandle, hopsOpener := x.hopsOpener,
      hopsResponder := x.hopsResponder, totalHops := x.totalHops,
      farIndex := if x.role = .opener then x.peerResponder else x.peerOpener, drainLimit := x.drainLimit,
      openTimeout := x.openTimeout, autoReopen := x.autoReopen, tag := x.tag, faultCause := x.faultCause, faultStatus := x.faultStatus }

/-- A context has changed: the mirror is told (R450). -/
def Hub.mirrorCtx (h : Hub) (i : Nat) : Hub := h.mirrorNote (.context i (h.ctxImage i))

/-- A context enters a state (R175). -/
def Hub.setTunState (h : Hub) (i : Nat) (st : TunState) : Hub :=
  ((h.updCtx i (fun x => { x with state := st, lastChange := h.links.sf })).eccWrite 3 i).eccWrite 3 i

/-! ### Allocation (R142, R145) -/

/-- A handle names an allocated context with its GEN (R143). -/
def Hub.cmdLive (h : Hub) (hd : Nat) : Bool :=
  decide (hd % 256 ≠ 0) && decide ((h.ctx (hd % 256)).state ≠ .free) && decide (h.handle (hd % 256) = hd)

/-- The lowest free index. -/
def Hub.freeIndex (h : Hub) : Option Nat := (List.range 256).find? (fun i => decide (0 < i) && decide ((h.ctx i).state = .free))

/-- Transit contexts allocated. -/
def Hub.transits (h : Hub) : Nat := (h.ctxList.filter (fun c => decide (c.2.role = .transit) && decide (c.2.state ≠ .free))).length

/-- GEN of context i advances by 1, 0 skipped (R142). -/
def Hub.advanceGen (h : Hub) (i : Nat) : Hub :=
  let g := h.gen i
  { h with tun := { h.tun with gens := h.tun.gens.set 0 i (if g = 255 then 1 else g + 1) } }

/-- Writes of a context's plan entries that wait for the boundary are replaced at allocation (R196). -/
def Hub.dropDeferred (h : Hub) (i : Nat) : Hub :=
  let keys := (List.range 8).flatMap (fun k => [(Od.planCirSend k i).key, (Od.planCirRecv k i).key, (Od.planPirSend k i).key,
    (Od.planCbsSend k i).key, (Od.planPbsSend k i).key])
  { h with plan := { h.plan with deferred := h.plan.deferred.filter (fun c => decide (c.1 ∉ keys)) } }

/-! ### Ports and indexes (R54, R150, R159) -/

/-- Port p is an upstream port for R150: at the far end of its link is the upstream end. -/
def Hub.mapPort (h : Hub) (p : Nat) : Bool := h.facesUp p || (decide (p = 2) && decide (h.role = .standby))

/-- INDEX used on port p by context i whose neighbour there has the index `far`. -/
def Hub.linkIndex (h : Hub) (p i far : Nat) : Nat := if h.mapPort p then far else i

/-- The upstream map of port p takes a far index, where p is an upstream port. -/
def Hub.writeMap (h : Hub) (p far i : Nat) : Hub :=
  if h.mapPort p then { h with tun := { h.tun with upMap := h.tun.upMap.set 0 (256 * p + far) i } } else h

/-- The map entries of context i are cleared. -/
def Hub.clearMap (h : Hub) (i : Nat) : Hub :=
  { h with tun := { h.tun with upMap := ⟨h.tun.upMap.cells.filter (fun c => decide (c.2 ≠ i))⟩ } }

/-- The context of a cell with an INDEX on port p (R150). -/
def Hub.cellCtx (h : Hub) (p index : Nat) : Nat := if h.mapPort p then h.tun.upMap.get 0 (256 * p + index) else index

/-- The first port of a TARGET's route; 0xFF where it has none. -/
def Hub.targetPort (h : Hub) (target : Nat) : Nat := match h.route target with
  | some (some p, _, _) => p
  | _ => 0xFF

/-- The hops of a TARGET (R54). -/
def targetHops (target : Nat) : Nat := if target = 0x30 then 1 else target % 8

/-! ### Control messages (R157 to R159) -/

/-- A message of context i, toward the responder or the opener. -/
def Hub.tunMsg (h : Hub) (i : Nat) (toResp : Bool) (reqId : Nat) (op : TunOp) : TunMsg :=
  let x := h.ctx i
  let p := if toResp then x.towardResponder else x.towardOpener
  { reqId := BitVec.ofNat 16 reqId, hopsLeft := if toResp then x.hopsResponder else x.hopsOpener, originDepth := BitVec.ofNat 8 h.links.hopDepth,
    direction := h.directionOf p, status := 0, openerHandle := BitVec.ofNat 16 x.openerHandle,
    responderHandle := BitVec.ofNat 16 x.responderHandle, hopIndex := BitVec.ofNat 8 i, totalHops := x.totalHops,
    peerIndex := BitVec.ofNat 8 (if toResp then x.peerResponder else x.peerOpener), refuserDepth := 0, op := op }

/-- A message goes out by a port whose SYSTEM tunnel is OPEN. -/
def Hub.tunOut (h : Hub) (p : Nat) (m : TunMsg) : Hub :=
  if p < 3 ∧ h.sysOpen p then (h.emit (.tun p m)).sysPut p (sysBytes (tunMessage m)) else h

/-- Context i sends a message toward the responder or the opener. No rule gives its REQ_ID a value: it is free (log 26). -/
def Hub.tunSend (h : Hub) (i : Nat) (toResp : Bool) (op : TunOp) : Hub :=
  let x := h.ctx i
  let r := h.open_ 16
  r.1.tunOut (if toResp then x.towardResponder else x.towardOpener) (h.tunMsg i toResp r.2 op)

/-- An endpoint sends a message to the other end. -/
def Hub.tunToFar (h : Hub) (i : Nat) (op : TunOp) : Hub := h.tunSend i (decide ((h.ctx i).role = .opener)) op

/-- A relay forwards a message of its context i (R159): its own HOP_INDEX and the PEER_INDEX it has recorded. -/
def Hub.tunForward (h : Hub) (i : Nat) (toResp : Bool) (m : TunMsg) : Hub :=
  let x := h.ctx i
  h.tunOut (if toResp then x.towardResponder else x.towardOpener)
    { m with hopsLeft := m.hopsLeft - 1, hopIndex := BitVec.ofNat 8 i,
             peerIndex := BitVec.ofNat 8 (if toResp then x.peerResponder else x.peerOpener) }

/-- The ports on which a context holds its tunnel. -/
def Ctx.ports (x : Ctx) : List Nat := match x.role with
  | .opener => [x.towardResponder]
  | .responder => [x.towardOpener]
  | .transit => [x.towardOpener, x.towardResponder]

/-- The context that a message from port p belongs to (R159). -/
def Hub.tunFind (h : Hub) (p : Nat) (m : TunMsg) : Option Nat :=
  let ok (x : Ctx) : Bool := x.busy && decide (p ∈ x.ports)
  if m.peerIndex ≠ 0 then
    let x := h.ctx m.peerIndex.toNat
    if ok x ∧ x.openerHandle = m.openerHandle.toNat then some m.peerIndex.toNat else none
  else (h.ctxList.find? (fun c => ok c.2 && decide (c.2.role ≠ .opener) && decide (c.2.towardOpener = p) &&
    decide (c.2.peerOpener = m.hopIndex.toNat))).map (·.1)

/-- A message that matches no context in a state that can take it (R159). -/
def Hub.tunUnmatched (h : Hub) : Hub := { h with tun := { h.tun with unmatched := h.tun.unmatched + 1 } }

/-! ### Queued cells (R166, R167, R244) -/

/-- Egress queue e. -/
def Hub.egress (h : Hub) (e : Nat) : Egress := h.plan.egresses.get Egress.init e

/-- Replace egress queue e. -/
def Hub.setEgress (h : Hub) (e : Nat) (x : Egress) : Hub :=
  { h with plan := { h.plan with egresses := h.plan.egresses.set Egress.init e x } }

/-- The cells of context i queued at egress e. -/
def Hub.queuedAt (h : Hub) (i e : Nat) : Nat := ((h.egress e).queue.filter (fun c => decide (c.ctx = i))).length

/-- Cells of context i queued at the hub, the cells gathered for a segment among them. -/
def Hub.queuedCells (h : Hub) (i : Nat) : Nat := ((List.range 32).map (h.queuedAt i)).sum + (h.ctx i).rxOpen.length

/-- The cells of context i at egress e are removed. -/
def Hub.removeCells (h : Hub) (i e : Nat) : Hub :=
  let x := h.egress e
  let mine := x.queue.filter (fun c => decide (c.ctx = i))
  if mine = [] then h else (h.setEgress e { x with queue := x.queue.filter (fun c => decide (c.ctx ≠ i)) }).freeWords mine

/-- The tunnel's cells queued at the hub and its jobs are discarded and counted in DRAIN_DISCARD (R165 to R167, R227): the hub,
and how many. -/
def Hub.purge (h : Hub) (i : Nat) : Hub × Nat :=
  let before := (h.ctx i).drainDiscard
  let n := h.queuedCells i
  let h1 := (List.range 32).foldl (fun h e => h.removeCells i e) h
  let h2 := ((h1.freeWords (h1.ctx i).rxOpen).updCtx i (fun x => { x with rxOpen := [], rxSkipped := [] })).discardJobs i
  let h3 := h2.updCtx i (fun x => { x with drainDiscard := trunc 32 (x.drainDiscard + n) })
  (h3, gap 32 (h3.ctx i).drainDiscard before)

/-- No cell or job of context i is under way at this hub. -/
def Hub.idleTunnel (h : Hub) (i : Nat) : Bool :=
  decide (h.queuedCells i = 0) && h.eng.waiting.all (fun j => decide (j.ctx ≠ i)) &&
    (List.range 32).all (fun t => (h.tender t).jobs.all (fun j => decide (j.ctx ≠ i)))

/-- What the endpoint has still to hand to its link: waiting segments, encapsulations, cells queued at its link (R164). -/
def Hub.sendIdle (h : Hub) (i : Nat) : Bool :=
  decide (h.queuedAt i (h.ctx i).portA = 0) && h.eng.waiting.all (fun j => decide (j.ctx ≠ i) || !j.encap) &&
    (List.range 32).all (fun t => (h.tender t).jobs.all (fun j => decide (j.ctx ≠ i) || !j.encap))

/-! ### Leaving and entering states (R155) -/

/-- A context is freed: map entries, homes, admission; its handle goes stale (R150, R191, R259). -/
def Hub.freeCtx (h : Hub) (i : Nat) : Hub :=
  let x := h.ctx i
  let h1 := if x.state = .closed then h else h.tunEvent Ev.tunnelClosed i .free
  let h2 := ((h1.clearMap i).unadmit i).dropHomes i
  let hd := h2.handle i
  let h3 := { h2 with sec := { h2.sec with exchange := h2.sec.exchange.filter (fun e => decide (e.ctx ≠ i)) } }
  ((((h3.setCtx i Ctx.init).eccWrite 3 i).prunePairs).mirrorStale hd).mirrorCtx i

/-- An opener enters CLOSED. -/
def Hub.enterClosed (h : Hub) (i : Nat) : Hub :=
  let h1 := ((h.updCtx i (fun x =>
    { x with
      openTimer := false, drainTimer := false, reopenTimer := false, modifying := false,
      closeSent := false, closeReply := false, farSent := none, newClass := none, sealKey := 0 })).setTunState i .closed)
  (((h1.unadmit i).dropHomes i).prunePairs.tunEvent Ev.tunnelClosed i .closed).mirrorCtx i

/-- The end of the drain (R155): CLOSED at an opener, freed at a responder. -/
def Hub.leaveDraining (h : Hub) (i : Nat) : Hub := if (h.ctx i).role = .opener then h.enterClosed i else h.freeCtx i

/-- The command that runs on a context ends. -/
def Hub.endTunCommand (h : Hub) (c : Option Nat) (status : Nat) (data : Bytes) : Hub := h.doneMirrored c status data

/-- Result data of TUNNEL_OPEN (R173). -/
def openData (farHandle port depth : Nat) : Bytes := u16 farHandle ++ u8 port ++ u8 depth

/-- Entry to FAULTED, from whatever state (R155, R168 to R170): the tunnel's cells go, a transit and a responder that was
OPENING are freed, timers start, and the command that ran ends with a status. -/
def Hub.enterFault (h : Hub) (i cause faultStatus status : Nat) (data : Bytes) : Hub :=
  let x := h.ctx i
  let h1 := (h.purge i).1
  let h2 := h1.updCtx i (fun y =>
    { y with
      faultCause := cause, faultStatus := faultStatus, openTimer := false, drainTimer := false,
      modifying := false, closeSent := false, closeReply := false, farSent := none, newClass := none, command := none,
      holdTimer := decide (y.role = .responder), reopenTimer := decide (y.role = .opener) && y.autoReopen && (decide (cause = 2) || decide (cause = 3)) })
  let h3 := { h2 with tun := { h2.tun with faulted := h2.tun.faulted.set 0 i 1 } }
  let h4 := (h3.setTunState i .faulted).unadmit i
  let h5 := ((h4.dropHomes i).prunePairs.tunEvent Ev.tunnelFaulted i .faulted).mirrorCtx i
  let h6 := if x.state = .open ∨ x.state = .draining then h5.portLeave i else h5
  let h7 := if x.kind = 9 ∧ x.role ≠ .transit then h6.lampsTunnel (h.handle i) else h6
  let h8 := h7.endTunCommand x.command status data
  if x.role = .transit ∨ (x.role = .responder ∧ x.state = .opening) then h8.freeCtx i else h8

/-- The status with which a command ends that a fault of the tunnel cuts short (R171, R173). -/
def Ctx.cutStatus (x : Ctx) : Nat := if x.modifying then abFailed 1 else abFailed 4

/-- Result data of the command that a fault cuts short. -/
def Ctx.cutData (x : Ctx) : Bytes := if x.state = .opening then openData 0 x.portA 0 else []

/-- A context faults here and tells the far end with TEARDOWN (R168); a transit tells both ends. A SYSTEM tunnel does not fault (R263). -/
def Hub.faultSend (h : Hub) (i cause : Nat) : Hub :=
  if 256 ≤ i then h else
  let x := h.ctx i
  let h1 := if !x.busy then h
    else if x.role = .transit then (h.tunSend i true (.teardown cause)).tunSend i false (.teardown cause)
    else h.tunToFar i (.teardown cause)
  h1.enterFault i cause 0 x.cutStatus x.cutData

/-- The context table's word of context i is read (R263): an allocated context whose word is uncorrectable faults with cause 6. -/
def Hub.ctxRead (h : Hub) (reader i : Nat) : Hub × Bool :=
  let r := h.eccRead reader 3 i
  if r.2 ∧ (h.ctx i).state ≠ .free then (r.1.faultSend i 6, true) else r

/-- The local bindings that a test picks are lost (R155, R168): their tunnels fault with cause 5. -/
def Hub.loseBindings (h : Hub) (pick : Nat → Bool) : Hub :=
  (h.ctxList.filter (fun c => c.2.busy && decide (c.2.role ≠ .transit) && pick c.2.localBind)).foldl (fun h c => h.faultSend c.1 5) h

/-- A link goes DOWN (R168): tunnels on it fault with cause 3; a relay tells the end it can still reach. -/
def Hub.tunLinkDown (h : Hub) (p : Nat) : Hub :=
  (h.ctxList.filter (fun c => c.2.busy && decide (p ∈ c.2.ports))).foldl (fun h c =>
    let x := h.ctx c.1
    let h1 := if x.role ≠ .transit then h
      else
        let other := if x.towardOpener = p then x.towardResponder else x.towardOpener
        if h.running other then h.tunSend c.1 (decide (x.towardOpener = p)) (.teardown 3) else h
    h1.enterFault c.1 3 0 x.cutStatus x.cutData) h

/-- A key slot goes BAD (R508, R511), an IMAGE key with both its slots (R505): a pair key that uses it is discarded, and the tunnels under
it fault with cause 6. -/
def Hub.slotBad (h : Hub) (n : Nat) : Hub :=
  let h1 := ((h.slotHalves n).foldl (fun h k => h.setSlot k { h.slot k with state := .bad }) h).fire Ev.keySlotBad (u8 n)
  match (List.range 8).find? (fun k => decide ((h.pairKey k).target ≠ 0) && (decide ((h.pairKey k).txSlot = n) || decide ((h.pairKey k).rxSlot = n))) with
  | some k =>
    let users := h1.sealUsers k
    let h2 := h1.discardPair k
    users.foldl (fun h i => h.faultSend i 6) (h2.setSlot n { h.slot n with state := .bad })
  | none => h1

/-- Entry to OPENING of an endpoint: counts, sequences and checks start afresh (R152, R164, R217, R517). -/
def Hub.startTunnel (h : Hub) (i : Nat) : Hub :=
  let h1 := h.updCtx i (fun x =>
    { x with
      cellsSent := 0, cellsRcvd := 0, farSent := none, fwdDown := 0, fwdUp := 0, sentDown := none,
      sentUp := none, closeSent := false, closeReply := false, txTseq := 0, rxTseq := 0, rxOpen := [], rxSkipped := [], sealFails := 0, sealLast := none,
      newClass := none, modifying := false, faultCause := 0, faultStatus := 0, holdTimer := false, reopenTimer := false, openTimer := true })
  h1.setTunState i .opening

/-- The SYSTEM tunnel of link p opens with the link (R134, R141): sequences and tickets start from 0; its statistics go on (R175). -/
def Hub.systemOpen (h : Hub) (p : Nat) : Hub :=
  let i := sysCtx p
  let x := h.ctx i
  let h1 := (h.updLink p (fun y => { y with sysOpen := true })).setCtx i { x with
    state := .open, localBind := 0x90000000, maxSeg := 1040, maxSegOld := 1040, portA := p, indexA := 0, towardResponder := p,
    cellsSent := 0, cellsRcvd := 0, txTseq := 0, rxTseq := 0, rxOpen := [], rxSkipped := [], openCount := trunc 32 (x.openCount + 1),
    lastChange := h.links.sf }
  h1.startDirections i

/-- The SYSTEM tunnel of link p closes with the link (R136, R141): its cells and jobs go. -/
def Hub.systemClose (h : Hub) (p : Nat) : Hub :=
  let i := sysCtx p
  if !h.sysOpen p then h
  else
    (((h.purge i).1.updLink p (fun y => { y with sysOpen := false })).updCtx i
      (fun x => { x with state := .closed, lastChange := h.links.sf })).dropHomes i

/-- The restart of a SAFETY tunnel (R522). -/
def Hub.safetyRestart (h : Hub) (i : Nat) : Hub :=
  let s := (h.profile i).start
  (((h.put (Od.safTxRunning i) s).put (Od.safRxRunning i) s).put (Od.safAliveState i) (h.val (Od.safAliveState i) / 256 * 256)).updCtx i
    (fun x => { x with aliveFresh := true })

/-- The camera's frame number of a tunnel starts at 0 (R368). -/
def Hub.csiRestart (h : Hub) (i : Nat) : Hub :=
  let n := portCode (h.ctx i).localBind - 0x40
  if isCsi (portCode (h.ctx i).localBind) then
    let x := h.vid.csi.get CsiSt.init n
    { h with vid := { h.vid with csi := h.vid.csi.set CsiSt.init n { x with frameNos := x.frameNos.set 0 i 0 } } }
  else h

/-- Entry to OPEN (R155, R185, R368, R522). -/
def Hub.enterOpen (h : Hub) (i : Nat) : Hub :=
  let x := h.ctx i
  let h1 := (h.updCtx i (fun y => { y with openTimer := false, openCount := trunc 32 (y.openCount + 1) })).setTunState i .open
  let h2 := if x.role = .transit then h1 else h1.fillMeter i
  let h3 := if x.kind = 7 ∧ x.role ≠ .transit then h2.safetyRestart i else if x.kind = 1 ∧ x.role ≠ .transit then h2.csiRestart i else h2
  (h3.tunEvent Ev.tunnelOpened i .open).mirrorCtx i

/-- Entry to DRAINING (R164). -/
def Hub.enterDraining (h : Hub) (i : Nat) : Hub :=
  let x := h.ctx i
  let h1 := (h.updCtx i (fun y => { y with drainTimer := decide (y.role ≠ .transit), openTimer := false, modifying := false })).setTunState i .draining
  let h2 := if x.modifying then (h1.updCtx i (fun y => { y with command := none })).endTunCommand x.command (abFailed 1) [] else h1
  (h2.mirrorCtx i).portLeave i

/-- A DRAINING end that has handed over all it had taken sends its CLOSE_REQ or CLOSE_ACK (R164). -/
def Hub.drainProgress (h : Hub) (i : Nat) : Hub :=
  let x := h.ctx i
  if x.state = .draining ∧ x.role ≠ .transit ∧ !x.shadow ∧ !x.closeSent ∧ h.sendIdle i then
    (h.updCtx i (fun y => { y with closeSent := true })).tunToFar i (if x.closeReply then .closeAck x.cellsSent else .closeReq x.cellsSent)
  else h

/-- A transit that has seen both closing messages and forwarded what they gave is freed (R164, step 5). -/
def Hub.transitDrained (h : Hub) (i : Nat) : Hub :=
  let x := h.ctx i
  if x.role = .transit ∧ x.state = .draining ∧ x.sentDown = some x.fwdDown ∧ x.sentUp = some x.fwdUp then h.freeCtx i else h

/-- Cells that the hub has handed to its link and that are not acknowledged (R117): some of context i. -/
def Hub.unackedCells (h : Hub) (i : Nat) : Bool :=
  let l := h.link (h.ctx i).portA
  (l.replay ++ l.openGroups).any (fun g => g.cells.any (fun c => decide (c.ctx = i)))

/-- The drain of an end is complete (R164, step 4). -/
def Hub.drained (h : Hub) (i : Nat) : Bool :=
  let x := h.ctx i
  decide (x.state = .draining) && decide (x.role ≠ .transit) && !x.shadow && x.closeSent && decide (x.farSent = some (trunc 32 x.cellsRcvd)) &&
    h.idleTunnel i && !h.unackedCells i

/-- CLASS of a context, a change that still waits included. -/
def Ctx.clsNow (x : Ctx) : Nat := x.newClass.getD x.cls

/-- A class change takes effect once no cell of the tunnel is queued in the old class on a link here (R171). -/
def Hub.settleClass (h : Hub) (i : Nat) : Hub :=
  let x := h.ctx i
  match x.newClass with
  | none => h
  | some c =>
    if [0, 1, 2].all (fun e => (h.egress e).queue.all (fun q => decide (q.ctx ≠ i) || decide (q.cls = c))) then
      ((h.updCtx i (fun y => { y with cls := c, newClass := none })).clsReclass (h.handle i) c h.sw.cls.cells).mirrorCtx i
    else h

/-- CLASS and MAX_SEG of MODIFY_REQ apply at a hub (R171). -/
def Hub.applyModify (h : Hub) (i cls maxSeg : Nat) : Hub :=
  (h.updCtx i (fun x => { x with maxSeg := maxSeg, maxSegOld := max x.maxSegOld (max x.maxSeg maxSeg),
                                 newClass := if cls = x.cls then none else some cls })).settleClass i

end Sys2Proof.Machine
end

