-- ==== Sys2Proof/Machine/SwitchRows.lean ====
section
/-!
DEFINITION. The rows of chapter 08: priority flow control, mirror frames, the sweep and the scrubber, and the classification and
ECC commands (R250, R258, R263, R264, R270, R271).
-/

namespace Sys2Proof.Machine

/-! ### Priority flow control (R250) -/

/-- A PFC frame arrives on ETH port n: the enabled priorities and their times. -/
def Hub.pfcReceive (h : Hub) (n mask : Nat) (times : List Nat) : Hub :=
  let h1 := h.tally 0x0503 n 1
  if h.val (Od.ingPfcEnable (n + 3)) = 0 then
    { h1 with sw := { h1.sw with pfcIgnored := h1.sw.pfcIgnored.set 0 n (h1.sw.pfcIgnored.get 0 n + 1) } }
  else
    let now := (List.range 8).foldl (fun m p => if bit p mask then (if times.getD p 0 = 0 then clearBit p m else setBit p m) else m)
      (h1.sw.paused.get 0 n)
    { h1 with sw := { h1.sw with paused := h1.sw.paused.set 0 n now } }

/-- A PAUSE frame arrives: counted, not honoured. -/
def Hub.pauseReceive (h : Hub) (n : Nat) : Hub := h.tally 0x0504 n 1

/-- Class c of egress e is paused by a received PFC frame. -/
def Hub.classPaused (h : Hub) (e c : Nat) : Bool :=
  decide (3 ≤ e) && decide (e ≤ 10) && decide (h.pfcMap e c &&& h.sw.paused.get 0 (e - 3) ≠ 0)

/-- The paused priorities of ETH port n that pause an egress queue: those that some class maps. -/
def Hub.pausing (h : Hub) (n : Nat) : Nat :=
  (List.range 8).foldl (fun m c => m ||| (h.pfcMap (n + 3) c &&& h.sw.paused.get 0 n)) 0

/-- The refresh of a hold's PFC frame. -/
def Hub.pfcRefresh (h : Hub) (n : Nat) : Hub :=
  let was := h.sw.pfcSent.get 0 (n + 3)
  if was = 0 ∨ h.val (Od.ingPfcEnable (n + 3)) = 0 then h
  else (h.emit (.frame (0x10 + n) (h.pfcFrame (n + 3) was was))).tally 0x0502 n 1

/-! ### The scrubber (R264) -/

/-- A damaged word known by its number or address is occupied: an entry in force, an allocated context, context 0; every word of the frame
store holds pixels, and the listed words of the other regions are free. -/
def Hub.wordUsed (h : Hub) (region addr : Nat) : Bool :=
  if region = 5 then (h.sw.cls.get ClsEntry.init addr).valid
  else if region = 3 then decide (addr = 0) || decide ((h.ctx addr).state ≠ .free) else decide (region = 1)

/-- The scrubber reads a damaged word known by its number or address: the hub, words corrected, words uncorrectable. A free one is rewritten. -/
def Hub.scrubWord (r : Hub × Nat × Nat) (d : Nat × Nat × Nat) : Hub × Nat × Nat :=
  let gone := fun (h : Hub) => { h with sw := { h.sw with damaged := h.sw.damaged.filter (fun x => decide (x ≠ d)) } }
  if d.2.2 ≤ 2 then ((gone r.1).eccCorrected d.1, r.2.1 + 1, r.2.2)
  else
    let h1 := r.1.eccBad 0 d.1 d.2.1
    (if h1.wordUsed d.1 d.2.1 then h1 else gone h1, r.2.1, r.2.2 + 1)

/-- The scrubber reads an occupied word that carries its damaged bits with it. -/
def Hub.scrubHeld (region : Nat) (r : Hub × Nat × Nat) (n : Nat) : Hub × Nat × Nat :=
  if n = 0 then r
  else if n ≤ 2 then (r.1.eccCorrected region, r.2.1 + 1, r.2.2)
  else
    let a := r.1.wordAddr region
    (a.1.eccBad 0 region a.2, r.2.1, r.2.2 + 1)

/-- The damaged bits that stay in an occupied word after a scrub. -/
def scrubBits (n : Nat) : Nat := if n ≤ 2 then 0 else n

/-- A buffered cell, a group and a job after a scrub. -/
def BufCell.scrubbed (c : BufCell) : BufCell := { c with damage := scrubBits c.damage, descDamage := scrubBits c.descDamage }
def Group.scrubbed (g : Group) : Group := { g with cells := g.cells.map BufCell.scrubbed }
def Job.scrubbed (j : Job) : Job := { j with cells := j.cells.map BufCell.scrubbed, damage := scrubBits j.damage }

/-- The jobs of the hub, dispatched or waiting: each holds a segment in staging. -/
def Hub.allJobs (h : Hub) : List Job := h.eng.waiting ++ (h.eng.tenders.cells.map (fun t => t.2.jobs)).flatten

/-- The occupied words of the switch buffer that hold cells: queued, gathered, or held by a link. -/
def Hub.allCells (h : Hub) : List BufCell :=
  (h.plan.egresses.cells.map (fun e => e.2.queue)).flatten ++ (h.tun.ctxs.cells.map (fun c => c.2.rxOpen)).flatten ++
    (h.allJobs.map (·.cells)).flatten ++
    (h.links.links.cells.map (fun l => (l.2.replay ++ l.2.openGroups ++ l.2.heldGroups).flatMap (·.cells))).flatten

/-- Every occupied word after a scrub. -/
def Hub.scrubState (h : Hub) : Hub :=
  let each {α : Type} (f : α → α) (t : Tab α) : Tab α := ⟨t.cells.map (fun c => (c.1, f c.2))⟩
  { h with
    plan := { h.plan with egresses := each (fun e => { e with queue := e.queue.map BufCell.scrubbed }) h.plan.egresses }
    tun := { h.tun with ctxs := each (fun x => { x with rxOpen := x.rxOpen.map BufCell.scrubbed }) h.tun.ctxs }
    eng := { h.eng with waiting := h.eng.waiting.map Job.scrubbed
                        tenders := each (fun t => { t with jobs := t.jobs.map Job.scrubbed }) h.eng.tenders }
    links := { h.links with links := each (fun l => { l with
      replay := l.replay.map Group.scrubbed, openGroups := l.openGroups.map Group.scrubbed, heldGroups := l.heldGroups.map Group.scrubbed }) h.links.links } }

/-- Every word is read once: the hub, corrected, uncorrectable (R264). -/
def Hub.scrub (h : Hub) : Hub × Nat × Nat :=
  let r1 := h.sw.damaged.foldl Hub.scrubWord (h, 0, 0)
  let r2 := (h.allCells.map (·.damage)).foldl (Hub.scrubHeld 0) r1
  let r3 := (h.allCells.map (·.descDamage)).foldl (Hub.scrubHeld 4) r2
  let r4 := (h.allJobs.map (·.damage)).foldl (Hub.scrubHeld 2) r3
  (r4.1.scrubState, r4.2)

/-! ### The classification and ECC commands (R270, R271) -/

/-- A KEY_TYPE suits a port code (R252). -/
def keySuits (t port : Nat) : Bool :=
  if t ≤ 2 then isEth port else if t = 3 then isCan port else if t = 4 then isCsi port else if t = 5 then isHsic port else false

/-- The checks on entry k of a CLS_WRITE but that of its handle's life: the first that fails. -/
def Hub.clsEntryBad (h : Hub) (args : Bytes) (k : Nat) : Option Abort :=
  let off := 8 + 16 * k
  let raw := (args.drop (off - 4)).take 16
  let e : ClsEntry := ⟨true, raw⟩
  let x := h.ctx (e.handle % 256)
  let live := h.cmdLive e.handle
  if !bit 31 (e.word 0) then none
  else firstAbort [(!keySuits e.keyType e.port, abArg (off + 3)),
    (live && (decide (x.role = .transit) || decide (portCode x.localBind ≠ e.port)), abArg off),
    (decide (e.keyType = 3) && decide (bits 28 0 (e.word 2) < bits 28 0 (e.word 1)), abArg (off + 4))]

/-- The checks of a CLS_WRITE (R271): every entry is checked before any is written. -/
def Hub.clsWriteArgs (h : Hub) (args : Bytes) : Option Abort :=
  let n := field args 2 1
  let entries := List.range n
  let base := firstAbort [(decide (args.length < 4), abArg (4 + args.length)), (decide (8192 < field args 0 2 + n), abArg 4),
    (decide (n = 0 ∨ 15 < n), abArg 6), (decide (field args 3 1 ≠ 0), abArg 7), argLen args (4 + 16 * n)]
  match base with
  | some a => some a
  | none => match entries.findSome? (h.clsEntryBad args) with
    | some a => some a
    | none => if entries.any (fun k => bit 31 (field args (4 + 16 * k) 4) && !h.cmdLive (field args (4 + 16 * k) 2)) then some abStale else none

/-- Entry k of a CLS_WRITE is written (R255, R271). -/
def Hub.clsPut (h : Hub) (args : Bytes) (k : Nat) : Hub :=
  let n := field args 0 2 + k
  let raw := (args.drop (4 + 16 * k)).take 16
  let e : ClsEntry := if bit 31 (field raw 0 4) then ⟨true, clsBytes raw (h.ctx (field raw 0 1)).clsNow⟩ else ClsEntry.init
  (h.setCls n e).eccWrite 5 n

/-- CLS_WRITE, code 0x0600. -/
def Hub.cmdClsWrite (h : Hub) (req : Path) (c tag : Nat) (args : Bytes) : Hub :=
  h.issue req c 0x0600 tag args (h.clsWriteArgs args) (firstState [(h.inFog, stFoghorn)])
    (fun h => ((List.range (field args 2 1)).foldl (fun h k => h.clsPut args k) h).finish c 0 (u16 (field args 2 1)))

/-- The valid entries among those from `first` on, n of them. -/
def Hub.clsValidIn (h : Hub) (first n : Nat) : List Nat :=
  (h.sw.cls.cells.filter (fun x => decide (first ≤ x.1) && decide (x.1 < first + n) && x.2.valid)).map (·.1)

/-- CLS_CLEAR, code 0x0601. -/
def Hub.cmdClsClear (h : Hub) (req : Path) (c tag : Nat) (args : Bytes) : Hub :=
  let first := field args 0 2
  let n := field args 2 2
  h.issue req c 0x0601 tag args
    (firstAbort [argLen args 4, (decide (8192 < first + n), abArg 4), (decide (n = 0 ∨ 8192 < n), abArg 6)])
    (firstState [(h.inFog, stFoghorn)])
    (fun h =>
      let l := h.clsValidIn first n
      (l.foldl (fun h k => (h.setCls k ClsEntry.init).eccWrite 5 k) h).finish c 0 (u16 l.length))

/-- An entry as CLS_READ returns it. -/
def ClsEntry.image (e : ClsEntry) : Bytes :=
  let b := (e.bytes ++ leBytes 16 0).take 16
  u32 ((if e.valid then 2 ^ 31 else 0) + field b 0 4 % 2 ^ 31) ++ b.drop 4

/-- CLS_READ, code 0x0602; an uncorrectable word ends it with HARDWARE_FAULT (R263). -/
def Hub.cmdClsRead (h : Hub) (req : Path) (c tag : Nat) (args : Bytes) : Hub :=
  let first := field args 0 2
  let n := field args 2 1
  h.issue req c 0x0602 tag args
    (firstAbort [argLen args 3, (decide (8192 < first + n), abArg 4), (decide (n = 0 ∨ 15 < n), abArg 6)])
    (firstState [(h.inFog, stFoghorn)])
    (fun h =>
      let r := (List.range n).foldl (fun (r : Hub × Bool) k =>
        let x := r.1.eccRead 5 5 (first + k)
        (x.1, r.2 || x.2)) (h, false)
      if r.2 then r.1.finish c (abHardware Ev.eccUncorrectable) []
      else r.1.finish c 0 ((List.range n).map (fun k => (r.1.sw.cls.get ClsEntry.init (first + k)).image)).flatten)

/-- ECC_INJECT, code 0x0603. -/
def Hub.cmdEccInject (h : Hub) (req : Path) (c tag : Nat) (args : Bytes) : Hub :=
  let region := field args 0 1
  let n := field args 1 1
  h.issue req c 0x0603 tag args
    (firstAbort [argLen args 2, (decide (5 < region), abArg 4), (decide (n = 0 ∨ 3 < n), abArg 5)])
    (firstState [(decide (h.mode.active ≠ .bench) && !h.debugUnlocked, stDebugLocked)])
    (fun h =>
      let h1 : Hub := { h with sw := { h.sw with inject := h.sw.inject.filter (fun x => decide (x.1 ≠ region)) ++ [(region, n)] } }
      h1.finish c 0 [])

/-- SCRUB_NOW, code 0x0604. -/
def Hub.cmdScrubNow (h : Hub) (req : Path) (c tag : Nat) (args : Bytes) : Hub :=
  h.issue req c 0x0604 tag args (firstAbort [argLen args 0]) (firstState [(h.inFog, stFoghorn)])
    (fun h =>
      let r := h.scrub
      r.1.finish c 0 (u32 r.2.1 ++ u32 r.2.2))

/-! ### Meanings -/

/-- PFC_FRAME (R250). -/
def execPfcFrame (n : Fin 8) (mask : Byte) (times : List (BitVec 16)) (s : State) :=
  onHub (fun h => h.pfcReceive n mask.toNat (times.map (·.toNat))) s
/-- PFC_REFRESH (R250). -/
def execPfcRefresh (n : Fin 8) (s : State) := onHub (fun h => h.pfcRefresh n) s
/-- PFC_PAUSE_EXPIRY (R250): the pause of a priority runs out. -/
def execPfcPauseExpiry (n p : Fin 8) (s : State) :=
  onHub (fun h => { h with sw := { h.sw with paused := h.sw.paused.set 0 n (clearBit p (h.sw.paused.get 0 n)) } }) s
/-- PFC_STUCK (R250): raised while an egress queue is paused, with the priorities that pause one; nothing is discarded. -/
def execPfcStuck (n : Fin 8) (s : State) :=
  onHub (fun h =>
    let m := h.pausing n
    if m = 0 then h else (h.flag Rg.swFlags 7).fire Ev.pfcStuck (u8 n ++ u8 m)) s
/-- MIRROR_FRAME_CLOSE (R258). -/
def execMirrorFrameClose (m : Fin 4) (s : State) := onHub (fun h => h.mirrorClose m) s
/-- SWEEP_COMPLETE (R263): allocation resumes. -/
def execSweepComplete (s : State) := onHub (fun h => { h with sw := { h.sw with sweep := false } }) s
/-- SCRUB_PASS (R264). -/
def execScrubPass (s : State) := onHub (fun h => h.scrub.1) s
/-- CLS_WRITE as its own row. -/
def execClsWrite (req : Path) (c : Fin 8) (tag : BitVec 16) (args : Bytes) (s : State) :=
  onCommand 0x0600 req c tag.toNat args (fun h => h.cmdClsWrite req c tag.toNat args) s
/-- CLS_CLEAR as its own row. -/
def execClsClear (req : Path) (c : Fin 8) (tag : BitVec 16) (args : Bytes) (s : State) :=
  onCommand 0x0601 req c tag.toNat args (fun h => h.cmdClsClear req c tag.toNat args) s
/-- CLS_READ as its own row. -/
def execClsRead (req : Path) (c : Fin 8) (tag : BitVec 16) (args : Bytes) (s : State) :=
  onCommand 0x0602 req c tag.toNat args (fun h => h.cmdClsRead req c tag.toNat args) s
/-- ECC_INJECT as its own row. -/
def execEccInject (req : Path) (c : Fin 8) (tag : BitVec 16) (args : Bytes) (s : State) :=
  onCommand 0x0603 req c tag.toNat args (fun h => h.cmdEccInject req c tag.toNat args) s
/-- SCRUB_NOW as its own row. -/
def execScrubNow (req : Path) (c : Fin 8) (tag : BitVec 16) (args : Bytes) (s : State) :=
  onCommand 0x0604 req c tag.toNat args (fun h => h.cmdScrubNow req c tag.toNat args) s

end Sys2Proof.Machine
end

