-- ==== Sys2Proof/Machine/Network.lean ====
section
/-!
DEFINITION. Ethernet and CAN FD ports, and the ISO 11783 address claim (R336 to R353, R364). Frames from a CAN bus, which
dictionary clients use too, are taken in Machine/Service.lean.
-/

namespace Sys2Proof.Machine

/-- A segment is kept at egress e for its port and takes its output quota (R246). -/
def Hub.keepOut (h : Hub) (e : Nat) (x : OutSeg) : Hub := (h.pushOut e x).stageOutBy e x.data.length true

/-- A big-endian number of n bytes of a string. -/
def beField (b : Bytes) (off n : Nat) : Nat := leNat ((b.drop off).take n).reverse

/-! ### Ethernet (R336 to R344) -/

/-- Ethernet port n. -/
def Hub.eth (h : Hub) (n : Nat) : EthSt := h.io.eth.get EthSt.init n

/-- Replace Ethernet port n. -/
def Hub.setEth (h : Hub) (n : Nat) (x : EthSt) : Hub := { h with io := { h.io with eth := h.io.eth.set EthSt.init n x } }

/-- An ETH port runs: ENABLE 1, its domain on. -/
def Hub.ethRuns (h : Hub) (n : Nat) : Bool := decide (h.val (Od.ethEnable n) = 1) && h.domOn 10

/-- A frame carries an 802.1Q tag outermost (R339). -/
def ethTagged (f : Bytes) : Bool := decide (beField f 12 2 = 0x8100)

/-- CLOCK in ns at a timestamp point with a trim in 100 ps units (R343). -/
def Hub.stamp (h : Hub) (trim : Nat) : Nat := (((h.clock : Int) + toSigned 32 trim) / 10).toNat

/-- An arriving frame that the input quota cannot take (R341). -/
def Hub.ethOverrun (h : Hub) (n : Nat) : Hub :=
  let h1 := (h.bump (Od.ethRxOverrun n) 32 1).tally 0x0803 (0x10 + n) 1
  let x := h.eth n
  match x.overrunAt with
  | some t => if h.clock < t + 10000000000 then h1 else (h1.setEth n { x with overrunAt := some h.clock }).fire Ev.ethOverrun (u8 n)
  | none => (h1.setEth n { x with overrunAt := some h.clock }).fire Ev.ethOverrun (u8 n)

/-- A frame arrives on ETH port n, from its destination MAC to the end of its payload (R337 to R341). -/
def Hub.ethFrameRx (h : Hub) (n : Nat) (f : Bytes) (fcsOk : Bool) : Hub :=
  let p := 0x10 + n
  if !h.ethRuns n ∨ (h.eth n).link = 0 then h
  else
    let h0 := h.tally 0x0801 p 1
    if !fcsOk ∨ f.length + 4 < 64 ∨ h.val (Od.ethMaxFrame n) < f.length + 4 then h0.tally 0x0803 p 1
    else if beField f 0 6 = 0x0180C2000001 ∧ beField f 12 2 = 0x8808 then
      if beField f 14 2 = 0x0101 then h0.pfcReceive n (beField f 16 2) ((List.range 8).map (fun k => beField f (18 + 2 * k) 2))
      else h0.pauseReceive n
    else if !h0.stageRoom (n + 3) (f.length + 2) then h0.ethOverrun n
    else
      let dei := ethTagged f && bit 12 (beField f 14 2)
      let yellow := decide (h.val (Od.ethDeiYellow n) = 1) && dei
      let h1 := h0.mirrorSegment 0 (n + 3) f yellow
      match h1.lookup p (.eth (beField f 0 6) (if ethTagged f then some (beField f 14 2 % 4096) else none)) with
      | (h2, none) => (h2.bump (Od.ethClsMiss n) 32 1).tally 0x0803 p 1
      | (h2, some i) =>
        let ts := bit 18 (selector (h2.ctx i).localBind)
        let seg := u8 (b2n ts) ++ u8 n ++ f ++ (if ts then u64 (h2.stamp (h2.val (Od.ethTsIngressTrim n))) else [])
        if !h2.stageRoom (n + 3) seg.length then h2.ethOverrun n else h2.offer i ⟨seg, yellow⟩

/-- TAG_MODE of an ETH binding applied to a frame (R339). -/
def tagFrame (sel : Nat) (f : Bytes) : Bytes :=
  let tag := beBytes 2 0x8100 ++ beBytes 2 (bits 14 12 sel * 8192 + bits 15 15 sel * 4096 + bits 11 0 sel)
  let bare := if ethTagged f then f.take 12 ++ f.drop 16 else f
  match bits 17 16 sel with
  | 0 => f
  | 1 => bare
  | 2 => f.take 12 ++ tag ++ f.drop 12
  | _ => bare.take 12 ++ tag ++ bare.drop 12

/-- The PTP message that a frame carries, where it is an event message: messageType, sequenceId, domainNumber (R344). -/
def ptpEvent (f : Bytes) : Option (Nat × Nat × Nat) :=
  let o := if ethTagged f then 16 else 12
  let ty := beField f o 2
  let b := f.drop (o + 2)
  let at_ : Option Nat :=
    if ty = 0x88F7 then some 0
    else if ty = 0x0800 ∧ field b 0 1 = 0x45 ∧ field b 9 1 = 17 ∧ beField b 22 2 = 319 then some 28
    else if ty = 0x86DD ∧ field b 6 1 = 17 ∧ beField b 42 2 = 319 then some 48 else none
  match at_ with
  | some k => if field b k 1 % 16 ≤ 3 then some (field b k 1 % 16, beField b (k + 30) 2, field b (k + 4) 1) else none
  | none => none

/-- An egress timestamp enters the FIFO (R344). -/
def Hub.ethStamp (h : Hub) (n : Nat) (m : Nat × Nat × Nat) : Hub :=
  let x := h.eth n
  let e := u64 (h.stamp (h.val (Od.ethTsEgressTrim n))) ++ u8 n ++ u8 m.1 ++ u16 m.2.1 ++ u8 m.2.2 ++ [0, 0, 0]
  if 16 ≤ x.ts.length then (h.setEth n { x with ts := x.ts.drop 1 ++ [e] }).bump (Od.ethTsLost n) 32 1
  else h.setEth n { x with ts := x.ts ++ [e] }

/-- The oldest segment of ETH port n goes out (R339). -/
def Hub.ethFrameTx (h : Hub) (n : Nat) : Hub :=
  match h.outQ (n + 3) with
  | [] => h
  | s :: _ =>
    let h1 := h.dropOut (n + 3) s
    let body := s.data.drop 2
    let bare := if bit 0 (field s.data 0 1) then body.take (body.length - 8) else body
    let tagged := tagFrame (selector s.bind) bare
    let f := tagged ++ List.replicate (60 - tagged.length) 0
    if h.val (Od.ethMaxFrame n) < f.length + 4 then
      let x := h1.eth n
      (h1.setEth n { x with oversize := x.oversize + 1 }).tally 0x0803 (0x10 + n) 1
    else
      let h2 := (if h.loopOn (5 + n) then h1.ethFrameRx n f true else h1.emit (.frame (0x10 + n) (f ++ leBytes 4 (crc32.of f)))).tally 0x0802
        (0x10 + n) 1
      match ptpEvent f with
      | some m => h2.ethStamp n m
      | none => h2

/-- Speed in kbit/s of a LINK value (R336, R345). -/
def ethSpeed (link : Nat) : Nat :=
  if link = 1 then 10000 else if link = 2 then 100000 else if link = 3 then 1000000 else if link = 4 then 2500000 else 0

/-- Frames that stand at a port whose link is down are discarded (R341). -/
def Hub.ethDrop (h : Hub) (n : Nat) : Hub :=
  (h.outQ (n + 3)).foldl (fun h s => ((h.dropOut (n + 3) s).bump (Od.ethLinkDownDiscard n) 32 1).tally 0x0803 (0x10 + n) 1) h

/-- The link of ETH port n takes a new LINK value (R341). -/
def Hub.ethLink (h : Hub) (n link : Nat) : Hub :=
  let x := h.eth n
  if link = x.link then h
  else
    let h1 := ((h.setEth n { x with link := link }).setNominal (n + 3) (ethSpeed link)).fire Ev.ethLinkChange (u8 n ++ u8 link)
    if link = 0 then h1.ethDrop n else h1

/-- A segment reaches an ETH port (R341). -/
def Hub.ethDeliver (h : Hub) (n : Nat) (s : OutSeg) : Hub :=
  if (h.eth n).link = 0 then (h.bump (Od.ethLinkDownDiscard n) 32 1).tally 0x0803 (0x10 + n) 1 else h.keepOut (n + 3) s

/-- ETH_TS_READ, code 0x0800 (R364). -/
def Hub.cmdEthTsRead (h : Hub) (req : Path) (c tag : Nat) (args : Bytes) : Hub :=
  let n := field args 0 1
  h.issue req c 0x0800 tag args
    (firstAbort [argLen args 2, (decide (7 < n), abArg 4), (decide (field args 1 1 = 0 ∨ 15 < field args 1 1), abArg 5)])
    (firstState [(h.inFog, stFoghorn)])
    (fun h =>
      let x := h.eth n
      let l := x.ts.take (field args 1 1)
      (h.setEth n { x with ts := x.ts.drop (field args 1 1) }).finish c 0 (u8 l.length ++ l.flatten))

/-! ### CAN FD (R346 to R351) -/

/-- CAN port n runs: ENABLE 1; in FOGHORN CAN0 always does (R353). -/
def Hub.canRuns (h : Hub) (n : Nat) : Bool := decide (h.val (Od.canEnable n) = 1) || (h.inFog && decide (n = 0))

/-- CLAIM_ENABLE of CAN port n as it acts (R353). -/
def Hub.claimOn (h : Hub) (n : Nat) : Bool := decide (h.val (Od.canClaimEnable n) = 1) || (h.inFog && decide (n = 0))

/-- BUS_STATE (R353). -/
def CanBus.code : CanBus → Nat
  | .stopped => 0 | .active => 1 | .passive => 2 | .busOff => 3

/-- Error active or passive by the error counts (ISO 11898-1, R348). -/
def CanSt.judge (x : CanSt) : CanSt :=
  match x.bus with
  | .active | .passive => { x with bus := if 128 ≤ x.tec ∨ 128 ≤ x.rec_ then .passive else .active }
  | _ => x

/-- A CAN port becomes bus-off (R348). -/
def Hub.canBusOff (h : Hub) (n : Nat) : Hub :=
  let x := h.can n
  if x.bus = .stopped ∨ x.bus = .busOff then h
  else
    (h.setCan n { x with bus := .busOff, tec := 255, recovering := decide (h.val (Od.canAutoRecover n) = 1) }).fire Ev.canBusOff (u8 n)

/-- A bus error: of a frame being sent or received; `heavy` adds 8 (ISO 11898-1, R348). -/
def Hub.canBusError (h : Hub) (n : Nat) (tx heavy : Bool) : Hub :=
  let x := h.can n
  let k := if tx ∨ heavy then 8 else 1
  if x.bus = .stopped ∨ x.bus = .busOff then h
  else if tx ∧ 255 < x.tec + k then h.canBusOff n
  else h.setCan n (if tx then { x with tec := x.tec + k } else { x with rec_ := min 255 (x.rec_ + k) }).judge

/-- The lengths of FD frames (R349). -/
def fdLength (l : Nat) : Bool := decide (l ≤ 8) || decide (l ∈ [12, 16, 20, 24, 32, 48, 64])

/-- A CAN segment's frame (R349); `none` where LENGTH does not suit FDF. -/
def canParse (b : Bytes) : Option CanFrame :=
  let w := field b 0 4
  let l := bits 6 0 (field b 4 1)
  let fd := bit 30 w
  if b.length < 8 + l ∨ (fd ∧ !fdLength l) ∨ (!fd ∧ 8 < l) then none
  else some { id := if bit 29 w then bits 28 0 w else bits 10 0 w, extended := bit 29 w, fd := fd, brs := bit 31 w,
              esi := bit 7 (field b 4 1), data := (b.drop 8).take l }

/-- The segment of a frame (R349). -/
def canSegment (f : CanFrame) : Bytes :=
  u32 (f.id + b2n f.extended * 2 ^ 29 + b2n f.fd * 2 ^ 30 + b2n f.brs * 2 ^ 31) ++ u8 (f.data.length + 128 * b2n f.esi) ++ [0, 0, 0] ++ f.data

/-- A segment of context i reaches CAN port n (R348, R351). -/
def Hub.canDeliver (h : Hub) (n i : Nat) (b : Bytes) : Hub :=
  match canParse b with
  | none => (h.bump (Od.canFormatDiscard n) 32 1).tally 0x0803 (0x20 + n) 1
  | some f =>
    if f.fd ∧ h.val (Od.canFdEnable n) = 0 then (h.bump (Od.canFormatDiscard n) 32 1).tally 0x0803 (0x20 + n) 1
    else if (h.can n).bus = .busOff ∨ h.val (Od.canListenOnly n) = 1 then (h.bump (Od.canTxDiscard n) 32 1).tally 0x0803 (0x20 + n) 1
    else (h.canQueue n i f).stageOutBy (17 + n) (8 + f.data.length) true

/-- A received frame goes through classification (R350). -/
def Hub.canClassify (h : Hub) (n : Nat) (f : CanFrame) : Hub :=
  let p := 0x20 + n
  let seg := canSegment f
  if !h.stageRoom (17 + n) seg.length then (h.bump (Od.canRxOverrun n) 32 1).tally 0x0803 p 1
  else match (h.mirrorSegment 0 (17 + n) seg false).lookup p (.can f.id f.extended f.fd) with
    | (h1, none) => (h1.bump (Od.canClsMiss n) 32 1).tally 0x0803 p 1
    | (h1, some i) => h1.offer i ⟨seg, false⟩

/-- A frame has been received without error (ISO 11898-1, R348): REC falls; above 127 it is set anew, to a value the standard
leaves open from 119 to 127. -/
def Hub.canReceived (h : Hub) (n : Nat) : Hub :=
  let x := h.can n
  if 127 < x.rec_ then
    let v := h.open_ 32
    v.1.setCan n { x with rec_ := 119 + v.2 % 9 }.judge
  else h.setCan n { x with rec_ := x.rec_ - 1 }.judge

/-- Order of identifiers on the bus: base identifier, then a base frame before an extended one, then the extension. -/
def canRank (f : CanFrame) : Nat := if f.extended then f.id / 2 ^ 18 * 2 ^ 19 + 2 ^ 18 + f.id % 2 ^ 18 else f.id * 2 ^ 19

/-- The slot that wins the bus. -/
def canWinner : List (Nat × CanFrame) → Option (Nat × CanFrame)
  | [] => none
  | x :: t => match canWinner t with
    | none => some x
    | some y => if canRank y.2 < canRank x.2 then some y else some x

/-- The winning slot's frame is sent (R351). -/
def Hub.canFrameTx (h : Hub) (n : Nat) : Hub :=
  let x := h.can n
  if x.bus ≠ .active ∧ x.bus ≠ .passive then h
  else if h.val (Od.canListenOnly n) = 1 then h
  else match canWinner x.slots with
    | none => h
    | some s =>
      let y := { x with slots := x.slots.erase s, tec := x.tec - 1 }
      let h0 := h.setCan n ((y.fill 8).judge)
      let h1 := (if h.loopOn (13 + n) then h0 else h0.emit (.can n s.2)).tally 0x0802 (0x20 + n) 1
      if s.1 = 0 then h1 else h1.stageOutBy (17 + n) (8 + s.2.data.length) false

/-- Recovery after bus-off completes (R348, R364). -/
def Hub.canRecovered (h : Hub) (n : Nat) : Hub :=
  let x := h.can n
  if x.bus = .busOff ∧ x.recovering then
    (h.setCan n { x with bus := .active, tec := 0, rec_ := 0, recovering := false, command := none }).doneOpt x.command 0 (u8 1)
  else h

/-- A CAN port starts on the bus: error active, both counts at 0 (ISO 11898-1). -/
def CanSt.started (x : CanSt) : CanSt := { x with bus := .active, tec := 0, rec_ := 0, recovering := false }

/-- The frames of a CAN port go: it is stopped, and a CAN_RESTART that waits ends with BUS_STATE as it is (log 82). -/
def Hub.canStop (h : Hub) (n : Nat) : Hub :=
  let x := h.can n
  let mine := (x.slots ++ x.queue).filter (fun s => decide (s.1 ≠ 0))
  (mine.foldl (fun h s => h.stageOutBy (17 + n) (8 + s.2.data.length) false)
    (h.setCan n { x with slots := [], queue := [], bus := .stopped, recovering := false, command := none })).doneOpt x.command 0 (u8 0)

/-- CAN_RESTART, code 0x0801 (R364). -/
def Hub.cmdCanRestart (h : Hub) (req : Path) (c tag : Nat) (args : Bytes) : Hub :=
  let n := field args 0 1
  h.issue req c 0x0801 tag args (firstAbort [argLen args 1, (decide (5 < n), abArg 4)])
    (firstState [(!h.canRuns n || (h.can n).command.isSome, stLinkDown)])
    (fun h =>
      let x := h.can n
      if x.bus ≠ .busOff then h.finish c 0 (u8 x.bus.code)
      else h.setCan n { x with recovering := true, command := some c })

/-! ### ISO 11783 address claim (R352) -/

/-- NAME (R352). -/
def Hub.isoName (h : Hub) : Nat := h.val Od.canNameTemplate / 2 ^ 21 * 2 ^ 21 + Config.serial % 2 ^ 21

/-- Address Claimed, or with 254 Cannot Claim Address, leaves. -/
def Hub.sendClaim (h : Hub) (n src : Nat) : Hub :=
  h.canQueue n 0 { id := isoId 6 0xEE 0xFF src, extended := true, fd := false, brs := false, esi := false, data := u64 h.isoName }

/-- The hub claims an address on CAN port n; the 250 ms start. -/
def Hub.claimAddress (h : Hub) (n a : Nat) : Hub :=
  let x := h.can n
  (h.setCan n { x with claimed := none, claiming := some a, cannotClaim := false }).sendClaim n a

/-- The first claim of a port (R352): PREFERRED_ADDRESS, where CLAIM_ENABLE is 1 and the port runs. -/
def Hub.claimStart (h : Hub) (n : Nat) : Hub :=
  if h.claimOn n && h.canRuns n then h.claimAddress n (h.val (Od.canPreferredAddress n)) else h

/-- The lowest address from 128 to 247 that no received claim holds. -/
def freeAddress (taken : List Nat) : Option Nat := ((List.range 120).map (· + 128)).find? (fun a => decide (a ∉ taken))

/-- The addresses that received claims hold, after a claim by a NAME: of one that cannot claim, source address 254, none (R352). -/
def claimsHeld (src name : Nat) (taken : List (Nat × Nat)) : List (Nat × Nat) :=
  let others := taken.filter (fun x => decide (x.2 ≠ name))
  if src < 254 then (src, name) :: others else others

/-- The address of port n is lost: its ODAP transfers end without an abort frame (R352). -/
def Hub.addressLost (h : Hub) (n : Nat) : Hub :=
  let keep := h.ctl.transfers.filter (fun t => decide (t.port.val ≠ n))
  let h1 : Hub := { h with
    ctl := { h.ctl with
      transfers := keep
      keeperQ := h.ctl.keeperQ.map (fun a => match a.path with
        | .odap m _ => if m.val = n then { a with silent := true } else a
        | _ => a) } }
  h1.fire Ev.canAddressLost (u8 n)

/-- The address claimed next, once another claim has taken one: none where NAME is not self-configurable. -/
def Hub.claimNext (h : Hub) (taken : List Nat) : Option Nat :=
  if bit 63 (h.val Od.canNameTemplate) then freeAddress taken else none

/-- An Address Claimed message arrives (R352). -/
def Hub.addressClaimed (h : Hub) (n src name : Nat) : Hub :=
  let x := h.can n
  let h0 := h.setCan n { x with taken := claimsHeld src name x.taken }
  if (x.claimed = some src ∨ x.claiming = some src) ∧ name < h.isoName then
    let h1 := if x.claimed = some src then h0.addressLost n else h0
    let y := h1.can n
    let h2 := (h1.setCan n { y with reclaim := none }).doneOpt y.reclaim 0 (u8 254)
    match h.claimNext (y.taken.map (·.1)) with
    | some a => h2.claimAddress n a
    | none => (h2.setCan n { h2.can n with claimed := none, claiming := none, cannotClaim := true }).sendClaim n 254
  else h0

/-- A Request for PGN 60928 arrives (R352). -/
def Hub.claimRequest (h : Hub) (n : Nat) : Hub :=
  let x := h.can n
  match x.claimed, x.claiming with
  | some a, _ => h.sendClaim n a
  | none, some a => h.sendClaim n a
  | none, none => if x.cannotClaim then h.sendClaim n 254 else h

/-- 250 ms have passed without contention (R352). -/
def Hub.addressUsable (h : Hub) (n : Nat) : Hub :=
  let x := h.can n
  match x.claiming with
  | some a => (h.setCan n { x with claimed := some a, claiming := none, reclaim := none }).doneOpt x.reclaim 0 (u8 a)
  | none => h

/-- ADDRESS_RECLAIM, code 0x0803 (R364). -/
def Hub.cmdAddressReclaim (h : Hub) (req : Path) (c tag : Nat) (args : Bytes) : Hub :=
  let n := field args 0 1
  h.issue req c 0x0803 tag args (firstAbort [argLen args 1, (decide (5 < n), abArg 4)])
    (firstState [(!h.claimOn n || (h.can n).reclaim.isSome, stLinkDown)])
    (fun h =>
      let h1 := h.claimAddress n (h.val (Od.canPreferredAddress n))
      h1.setCan n { h1.can n with reclaim := some c })

/-! ### Meanings -/

/-- ETH_FRAME_RX (R337). -/
def execEthFrameRx (n : Fin 8) (frame : Bytes) (fcsOk : Bool) (s : State) := onHub (fun h => h.ethFrameRx n frame fcsOk) s
/-- ETH_FRAME_TX (R339). -/
def execEthFrameTx (n : Fin 8) (s : State) := onHub (fun h => h.ethFrameTx n) s
/-- ETH_LINK_CHANGE (R341): of a port that runs. -/
def execEthLinkChange (n : Fin 8) (link : Fin 5) (s : State) :=
  onHub (fun h => if h.ethRuns n then h.ethLink n link else h) s
/-- ETH_TS_READ as its own row. -/
def execEthTsRead (req : Path) (c : Fin 8) (tag : BitVec 16) (args : Bytes) (s : State) :=
  onCommand 0x0800 req c tag.toNat args (fun h => h.cmdEthTsRead req c tag.toNat args) s
/-- CAN_BUS_OFF (R348). -/
def execCanBusOff (n : Fin 6) (s : State) := onHub (fun h => h.canBusOff n) s
/-- CAN_BUS_ERROR (R348). -/
def execCanBusError (n : Fin 6) (tx heavy : Bool) (s : State) := onHub (fun h => h.canBusError n tx heavy) s
/-- BUS_OFF_RECOVERY (R348). -/
def execBusOffRecovery (n : Fin 6) (s : State) := onHub (fun h => h.canRecovered n) s
/-- CAN_RESTART as its own row. -/
def execCanRestart (req : Path) (c : Fin 8) (tag : BitVec 16) (args : Bytes) (s : State) :=
  onCommand 0x0801 req c tag.toNat args (fun h => h.cmdCanRestart req c tag.toNat args) s
/-- ADDRESS_CLAIMED (R352). -/
def execAddressClaimed (n : Fin 6) (src : Byte) (name : BitVec 64) (s : State) :=
  onHub (fun h => h.addressClaimed n src.toNat name.toNat) s
/-- ADDRESS_CLAIM_REQUEST (R352). -/
def execAddressClaimRequest (n : Fin 6) (s : State) := onHub (fun h => h.claimRequest n) s
/-- ADDRESS_USABLE (R352). -/
def execAddressUsable (n : Fin 6) (s : State) := onHub (fun h => h.addressUsable n) s
/-- ADDRESS_RECLAIM as its own row. -/
def execAddressReclaim (req : Path) (c : Fin 8) (tag : BitVec 16) (args : Bytes) (s : State) :=
  onCommand 0x0803 req c tag.toNat args (fun h => h.cmdAddressReclaim req c tag.toNat args) s

end Sys2Proof.Machine
end

