-- ==== Sys2Proof/Machine/Storage.lean ====
section
/-!
DEFINITION. The eMMC host and the serial ports (R354 to R364).
-/

namespace Sys2Proof.Machine

/-! ### Initialisation (R354, R355) -/

/-- Replace the eMMC host's state. -/
def Hub.setEmmc (h : Hub) (x : EmmcSt) : Hub := { h with io := { h.io with emmc := x } }

/-- Bus clock of a BUS_MODE in kHz, doubled for DDR (R354). -/
def emmcClock (mode : Nat) : Nat := if mode = 0 then 26000 else if mode = 1 then 52000 else if mode = 2 then 104000 else 200000

/-- R354 allows a width for a BUS_MODE. -/
def emmcWidthOk (mode width : Nat) : Bool := decide (width = 4) || decide (width = 8) || (decide (width = 1) && decide (mode < 2))

/-- A RESPONSE or DATA segment toward the requester of context i (R357). -/
def Hub.blockOffer (h : Hub) (i : Nat) (seg : Bytes) : Hub := if (h.ctx i).state = .free then h else h.offer i ⟨seg, false⟩

/-- The RESPONSE of a request (R357). -/
def Hub.blockRespond (h : Hub) (i op tag status done : Nat) (more : Bytes) : Hub :=
  h.blockOffer i (u8 (op + 0x80) ++ u8 0 ++ u16 tag ++ u32 status ++ u32 done ++ u32 h.io.emmc.lastR1 ++ more)

/-- The device is idle: what ran on it has gone. -/
def Hub.emmcIdle (h : Hub) : Hub :=
  let x := h.io.emmc
  h.setEmmc { x with running := none, chunk := 0, retries := 0, orphan := false, lastServed := x.running.getD x.lastServed }

/-- The first request of a context. -/
def EmmcSt.first (x : EmmcSt) (i : Nat) : Option BlockReq := x.requests.find? (fun r => decide (r.ctx = i))

/-- The first request of a context as it now stands; `none` removes it. -/
def updFirst (i : Nat) (f : BlockReq → Option BlockReq) : List BlockReq → List BlockReq
  | [] => []
  | r :: t => if r.ctx = i then (match f r with
      | some q => q :: t
      | none => t) else r :: updFirst i f t

/-- Change the first request of a context. -/
def Hub.updReq (h : Hub) (i : Nat) (f : BlockReq → Option BlockReq) : Hub :=
  h.setEmmc { h.io.emmc with requests := updFirst i f h.io.emmc.requests }

/-- What the RESPONSE of INFO adds of a region (R357). -/
def Hub.blockInfo (h : Hub) (g : Nat) : Bytes :=
  u32 (h.val (Od.regionBlocks g)) ++ u8 (h.val (Od.regionWritable g)) ++ u8 h.io.emmc.modeInUse ++ u8 h.io.emmc.widthInUse ++ u8 0

/-- The running request of context i ends with a status (R359); one that has lost its tunnel gives no response (R360). -/
def Hub.emmcEnd (h : Hub) (i status : Nat) : Hub :=
  match h.io.emmc.first i with
  | none => h.emmcIdle
  | some r =>
    let h1 := (h.updReq i (fun _ => none))
    (if h.io.emmc.orphan then h1 else h1.blockRespond i r.op r.tag status r.done
      (if r.op = 5 then h1.blockInfo (selector (h.ctx i).localBind % 8) else [])).emmcIdle

/-- Initialisation begins (R355): the request in progress ends. -/
def Hub.emmcStart (h : Hub) : Hub :=
  let h1 := match h.io.emmc.running with
    | some i => h.emmcEnd i (abFailed 0x11)
    | none => h
  (h1.setEmmc { h1.io.emmc with state := .initialising }).emit
    (.device 0x30 [0, h.val Od.emmcBusMode, h.val Od.emmcBusWidth, h.val Od.emmcCache] [])

/-- ENABLE of the EMMC port becomes 1 (R355), or 0: STATE off, its bindings are lost. -/
def Hub.emmcEnable (h : Hub) (on : Bool) : Hub :=
  let was := decide (h.val Od.emmcEnable = 1)
  let h1 := h.put Od.emmcEnable (b2n on)
  if on && !was then (if h.domOn 15 then h1.emmcStart else h1)
  else if !on && was then
    let h2 := h1.loseBindings (fun b => decide (portCode b = 0x30))
    h2.setEmmc { EmmcSt.init with commands := h2.io.emmc.commands }
  else h1

/-! ### Requests on the device (R358, R359) -/

/-- The context whose turn it is: the next one above the last served that has a request, else the least (R358). -/
def EmmcSt.turn (x : EmmcSt) : Option Nat :=
  let l := x.requests.map (·.ctx)
  match leastBy id (l.filter (fun i => decide (x.lastServed < i))) with
  | some i => some i
  | none => leastBy id l

/-- The status with which a request ends before it reaches the device (R359). -/
def Hub.blockBad (h : Hub) (r : BlockReq) : Option Abort :=
  let g := selector (h.ctx r.ctx).localBind % 8
  if r.op = 3 ∨ r.op = 5 then none
  else firstAbort [(decide (h.val (Od.regionBlocks g) < r.lba + r.blocks), abValue 1),
    (decide (r.op ≠ 1) && decide (h.val (Od.regionWritable g) = 0), abDenied)]

/-- A device command of n blocks for the running request leaves (R358): of a READ only while the input quota has room. -/
def Hub.emmcIssue (h : Hub) (r : BlockReq) : Hub :=
  let x := h.io.emmc
  let g := selector (h.ctx r.ctx).localBind % 8
  let n := if r.op = 1 then min 3 (r.blocks - r.done) else if r.op = 2 then min 3 (r.data.length / 512) else r.blocks
  let go := if r.op = 1 then h.takesNow 16 (4 + 512 * n) else if r.op = 2 then decide (0 < n) else true
  if go then
    ((h.setEmmc { x with chunk := n + 1, retries := 0 }).emit
      (.device 0x30 [r.op, h.val (Od.regionPartition g), h.val (Od.regionBaseLba g) + r.lba + r.done, n, b2n r.fua]
        (if r.op = 2 then r.data.take (512 * n) else []))).tally 0x0804 0 1
  else h

/-- The request runs on: complete, or its next device command. `chunk` is one more than the blocks under way, 0 with none. -/
def Hub.emmcNext (h : Hub) (i : Nat) : Hub :=
  match h.io.emmc.first i with
  | none => h.emmcIdle
  | some r =>
    if h.io.emmc.orphan then h.emmcEnd i 0
    else if r.op = 5 ∨ ((r.op = 1 ∨ r.op = 2) ∧ r.done = r.blocks) then h.emmcEnd i 0
    else h.emmcIssue r

/-- The device takes requests in turn until one runs on it; the first argument bounds the requests that end at once. -/
def Hub.emmcPump (h : Hub) : Nat → Hub
  | 0 => h
  | n + 1 =>
    let x := h.io.emmc
    if x.state ≠ .ready ∨ x.chunk ≠ 0 then h
    else match x.running with
      | some i =>
        let h1 := h.emmcNext i
        if h1.io.emmc.running = none then h1.emmcPump n else h1
      | none => match x.turn with
        | none => h
        | some i =>
          let h1 := h.setEmmc { x with running := some i }
          match x.first i with
          | none => h
          | some r => match h.blockBad r with
            | some a => (h1.emmcEnd i a).emmcPump n
            | none =>
              let h2 := h1.emmcNext i
              if h2.io.emmc.running = none then h2.emmcPump n else h2

/-- The requests are looked at: more than once for each of them. -/
def Hub.emmcRun (h : Hub) : Hub := h.emmcPump (2 * h.io.emmc.requests.length + 2)

/-- Initialisation ends (R355): the mode and width that work and the partitions, or none. -/
def Hub.emmcDone (h : Hub) (found : Option (Nat × Nat)) (parts : List Nat) : Hub :=
  let x := h.io.emmc
  if x.state ≠ .initialising then h
  else match found with
    | some (mode, width) =>
      let h1 := (h.setEmmc { x with state := .ready, modeInUse := mode, widthInUse := width, parts := parts, commands := [] }).setNominal 16
        (emmcClock mode * width)
      let h2 := if mode = h.val Od.emmcBusMode ∧ width = h.val Od.emmcBusWidth then h1 else h1.fire Ev.emmcDegraded (u8 0)
      let h3 := h2.fire Ev.emmcReady (u8 0)
      (x.commands.foldl (fun h c => h.done c 0 (u8 2 ++ u16 (mode + 256 * width))) h3).emmcRun
    | none =>
      let h1 := ((h.setEmmc { x with state := .failed, commands := [] }).fire Ev.emmcFailed (u8 0)).loseBindings
        (fun b => decide (portCode b = 0x30))
      x.commands.foldl (fun h c => h.done c (abFailed 1) []) h1

/-- EMMC_REINIT, code 0x0802 (R364). -/
def Hub.cmdEmmcReinit (h : Hub) (req : Path) (c tag : Nat) (args : Bytes) : Hub :=
  h.issue req c 0x0802 tag args (firstAbort [argLen args 1, (decide (field args 0 1 ≠ 0), abArg 4)])
    (firstState [(decide (h.val Od.emmcEnable = 0), stLinkDown), (h.inFog, stFoghorn)])
    (fun h => (h.setEmmc { h.io.emmc with commands := h.io.emmc.commands ++ [c] }).emmcStart)

/-! ### Requests that arrive (R357, R358) -/

/-- The WRITE of a context that still lacks data. -/
def Hub.openWrite (h : Hub) (i : Nat) : Option BlockReq :=
  h.io.emmc.requests.find? (fun r => decide (r.ctx = i) && decide (r.op = 2) && decide (r.got < r.blocks))

/-- Whether further data segments of context i are discarded (R358). -/
def Hub.blockDrop (h : Hub) (i : Nat) (on : Bool) : Hub :=
  let x := h.io.emmc
  let others := x.dropping.filter (fun j => decide (j ≠ i))
  h.setEmmc { x with dropping := if on then i :: others else others }

/-- A WRITE with faulty data segments ends with BAD_ARGUMENT, detail 1 (R358); on the device it finishes without more. -/
def Hub.writeFault (h : Hub) (r : BlockReq) : Hub :=
  let x := h.io.emmc
  let h1 := (h.blockRespond r.ctx 2 r.tag (abArg 1) r.done []).blockDrop r.ctx true
  if x.running = some r.ctx ∧ x.first r.ctx = some r then
    if x.chunk = 0 then (h1.updReq r.ctx (fun _ => none)).emmcIdle
    else (h1.updReq r.ctx (fun q => some { q with blocks := q.got })).setEmmc
      { (h1.updReq r.ctx (fun q => some { q with blocks := q.got })).io.emmc with orphan := true }
  else h1.setEmmc { h1.io.emmc with requests := h1.io.emmc.requests.erase r }

/-- Segment x of context i at egress 16 leaves its staging. -/
def Hub.blockTake (h : Hub) (x : OutSeg) : Hub := h.dropOut 16 x

/-- The request that a request segment's bytes spell (R357). -/
def blockOf (i op : Nat) (d : Bytes) : BlockReq :=
  { ctx := i, op := op, tag := field d 2 2, fua := decide (op = 2) && bit 0 (field d 1 1), lba := field d 8 4,
    blocks := if op = 3 ∨ op = 5 then 0 else field d 12 4, done := 0, got := 0, seq := 0, data := [] }

/-- The request segment at the head of context i's segments is taken, where it is of an OP (R357, R358); an unknown OP is
answered by whichever row takes it. -/
def Hub.blockRequest (h : Hub) (i op : Nat) : Hub :=
  match h.headOf 16 i with
  | none => h
  | some s =>
    let o := field s.data 0 1
    let known := o ∈ [1, 2, 3, 4, 5, 0x10]
    if known ∧ o ≠ op then h
    else
      let h0 := h.blockTake s
      let h1 := match h0.openWrite i with
        | some r => h0.writeFault r
        | none => h0
      let tag := field s.data 2 2
      if !known then (h1.blockRespond i (o % 128) tag (abArg 0) 0 []).emmcRun
      else if 16 ≤ (h1.io.emmc.requests.filter (fun r => decide (r.ctx = i))).length then
        (h1.blockRespond i op tag abNoResource 0 []).blockDrop i true
      else
        let h2 := h1.blockDrop i false
        (h2.setEmmc { h2.io.emmc with requests := h2.io.emmc.requests ++ [blockOf i op s.data] }).emmcRun

/-- Replace a request. -/
def replaceReq (r q : BlockReq) : List BlockReq → List BlockReq
  | [] => []
  | x :: t => if x = r then q :: t else x :: replaceReq r q t

/-- The DATA segment at the head of context i's segments is taken (R357, R358). -/
def Hub.blockData (h : Hub) (i : Nat) : Hub :=
  match h.headOf 16 i with
  | none => h
  | some s =>
    if field s.data 0 1 ≠ 0x10 then h
    else
      let h1 := h.blockTake s
      let d := s.data.drop 4
      let n := d.length / 512
      match h1.openWrite i with
      | some r =>
        if d.length ∉ [512, 1024, 1536] ∨ field s.data 1 1 ≠ r.seq ∨ r.blocks < r.got + n then (h1.writeFault r).emmcRun
        else
          let q := { r with got := r.got + n, seq := (r.seq + 1) % 256, data := r.data ++ d }
          (h1.setEmmc { h1.io.emmc with requests := replaceReq r q h1.io.emmc.requests }).emmcRun
      | none =>
        match h1.io.emmc.requests.reverse.find? (fun r => decide (r.ctx = i)) with
        | some r => if r.op = 2 ∧ i ∉ h.io.emmc.dropping then (h1.writeFault r).emmcRun else h1
        | none => h1

/-! ### The device answers (R359) -/

/-- A device command has succeeded. -/
def Hub.emmcOk (h : Hub) (i n : Nat) (r : BlockReq) (data : Bytes) : Hub :=
  let h0 := h.setEmmc { h.io.emmc with chunk := 0, retries := 0 }
  if r.op = 1 then
    let h1 := h0.updReq i (fun q => some { q with done := q.done + n, seq := (q.seq + 1) % 256 })
    ((if h.io.emmc.orphan then h1 else h1.blockOffer i (u8 0x10 ++ u8 r.seq ++ u16 r.tag ++ data.take (512 * n))).emmcNext i)
  else if r.op = 2 then (h0.updReq i (fun q => some { q with done := q.done + n, data := q.data.drop (512 * n) })).emmcNext i
  else (h0.updReq i (fun q => some { q with done := q.blocks })).emmcEnd i 0

/-- A device command is tried again, at most three times (R355, R359). -/
def Hub.emmcRetry (h : Hub) (r : BlockReq) (n : Nat) : Hub :=
  let x := h.io.emmc
  let g := selector (h.ctx r.ctx).localBind % 8
  (((h.setEmmc { x with retries := x.retries + 1 }).emit
    (.device 0x30 [r.op, h.val (Od.regionPartition g), h.val (Od.regionBaseLba g) + r.lba + r.done, n, b2n r.fua]
      (if r.op = 2 then r.data.take (512 * n) else []))).tally 0x0804 0 1).tally 0x0805 0 1

/-- The device command under way ends: 0 done, 1 data CRC error, 2 error bits in R1 (R359). -/
def Hub.emmcCommandDone (h : Hub) (res : Nat) (r1 : Nat) (data : Bytes) : Hub :=
  let x := h.io.emmc
  match x.running, x.running.bind x.first with
  | some i, some r =>
    if x.chunk = 0 then h.emmcRun
    else
      let n := x.chunk - 1
      let h1 := h.setEmmc { x with lastR1 := r1, lastError := if res = 0 then x.lastError else r1 }
      if res = 0 then (h1.emmcOk i n r data).emmcRun
      else if res = 2 then (h1.emmcEnd i (abFailed 0x12)).emmcRun
      else if x.retries < 3 then h1.emmcRetry r n
      else (h1.emmcEnd i (abFailed 0x10)).emmcRun
  | _, _ => h.emmcRun

/-- The device does not answer in time (R355, R359). -/
def Hub.emmcTimeout (h : Hub) : Hub :=
  let x := h.io.emmc
  match x.running, x.running.bind x.first with
  | some _, some r =>
    if x.chunk = 0 then h
    else if x.retries < 3 then h.emmcRetry r (x.chunk - 1)
    else h.emmcStart
  | _, _ => h

/-! ### Serial ports (R362, R363) -/

/-- Serial port n. -/
def Hub.ser (h : Hub) (n : Nat) : SerSt := h.io.ser.get SerSt.init n

/-- Replace serial port n. -/
def Hub.setSer (h : Hub) (n : Nat) (x : SerSt) : Hub := { h with io := { h.io with ser := h.io.ser.set SerSt.init n x } }

/-- Serial port n runs. -/
def Hub.serRuns (h : Hub) (n : Nat) : Bool := decide (h.val (Od.serEnable n) = 1) && h.domOn 15

/-- A UART receive segment of 1 to 256 bytes has closed (R362, R363). -/
def Hub.uartRx (h : Hub) (n : Nat) (data : Bytes) : Hub :=
  let d := data.take 256
  if !h.serRuns n ∨ h.val (Od.serMode n) ≠ 0 ∨ d = [] then h
  else if h.val (Od.serFlow n) = 0 ∧ !h.stageRoom (23 + n) d.length then h.bump (Od.serRxOverrun n) 32 d.length
  else match h.boundBy 0 (fun b => decide (portCode b = 0x70 + n)) with
    | some i => h.offer i ⟨d, false⟩
    | none => h

/-- An SPI or I2C transaction has ended: its reply goes into the tunnel (R362). -/
def Hub.serDone (h : Hub) (n status : Nat) (data : Bytes) : Hub :=
  let x := h.ser n
  match x.busy with
  | none => h
  | some (i, l) =>
    let h1 := h.setSer n { x with busy := none }
    let d := if h.val (Od.serMode n) = 2 then u8 status ++ data.take l else data.take l
    if portCode (h.ctx i).localBind = 0x70 + n ∧ (h.ctx i).state ≠ .free ∧ (h.ctx i).role ≠ .transit then
      h1.offer i ⟨d, false⟩
    else h1

/-- Bytes in pieces of at most n. -/
def chunks (n : Nat) : Nat → Bytes → List Bytes
  | 0, _ => []
  | k + 1, d => if d = [] then [] else d.take n :: chunks n k (d.drop n)

/-- The oldest segment at serial port n is sent, or run as a transaction (R362, R363). -/
def Hub.serSegment (h : Hub) (n : Nat) : Hub :=
  let x := h.ser n
  let mode := h.val (Od.serMode n)
  match h.outQ (23 + n) with
  | [] => h
  | s :: _ =>
    if !h.serRuns n then h
    else if mode = 0 then
      if h.val (Od.serFlow n) = 1 ∧ x.ctsHigh then h
      else if h.loopOn (19 + n) then (chunks 256 s.data.length s.data).foldl (fun h d => h.uartRx n d) (h.dropOut (23 + n) s)
      else (h.dropOut (23 + n) s).emit (.frame (0x70 + n) s.data)
    else if x.busy.isSome then h
    else if mode = 1 ∧ h.loopOn (19 + n) then
      ((h.dropOut (23 + n) s).setSer n { x with busy := some (s.ctx, s.data.length) }).serDone n 0 s.data
    else if mode = 1 then
      ((h.dropOut (23 + n) s).setSer n { x with busy := some (s.ctx, s.data.length) }).emit (.device (0x70 + n) [1] s.data)
    else
      ((h.dropOut (23 + n) s).setSer n { x with busy := some (s.ctx, field s.data 1 1) }).emit
        (.device (0x70 + n) [2, selector s.bind % 128, field s.data 0 1, field s.data 1 1] ((s.data.drop 2).take (field s.data 0 1)))

/-! ### Meanings -/

/-- EMMC_INIT_DONE (R355). -/
def execEmmcInitDone (found : Option (Fin 4 × Fin 9)) (parts : List Word) (s : State) :=
  onHub (fun h => h.emmcDone (found.map (fun x => (x.1.val, x.2.val))) (parts.map BitVec.toNat)) s
/-- EMMC_REINIT as its own row. -/
def execEmmcReinit (req : Path) (c : Fin 8) (tag : BitVec 16) (args : Bytes) (s : State) :=
  onCommand 0x0802 req c tag.toNat args (fun h => h.cmdEmmcReinit req c tag.toNat args) s
/-- BLOCK_READ (R358). -/
def execBlockRead (i : Byte) (s : State) := onHub (fun h => h.blockRequest i.toNat 1) s
/-- BLOCK_WRITE (R358). -/
def execBlockWrite (i : Byte) (s : State) := onHub (fun h => h.blockRequest i.toNat 2) s
/-- BLOCK_FLUSH (R357). -/
def execBlockFlush (i : Byte) (s : State) := onHub (fun h => h.blockRequest i.toNat 3) s
/-- BLOCK_TRIM (R357). -/
def execBlockTrim (i : Byte) (s : State) := onHub (fun h => h.blockRequest i.toNat 4) s
/-- BLOCK_INFO (R357). -/
def execBlockInfo (i : Byte) (s : State) := onHub (fun h => h.blockRequest i.toNat 5) s
/-- BLOCK_DATA (R358). -/
def execBlockData (i : Byte) (s : State) := onHub (fun h => h.blockData i.toNat) s
/-- EMMC_COMMAND_DONE (R359). -/
def execEmmcCommandDone (res : Fin 3) (r1 : Word) (data : Bytes) (s : State) :=
  onHub (fun h => h.emmcCommandDone res r1.toNat data) s
/-- EMMC_DEVICE_TIMEOUT (R359). -/
def execEmmcDeviceTimeout (s : State) := onHub Hub.emmcTimeout s
/-- UART_RX_SEGMENT (R362). -/
def execUartRxSegment (n : Fin 6) (data : Bytes) (s : State) := onHub (fun h => h.uartRx n data) s
/-- SER_SEGMENT (R362). -/
def execSerSegment (n : Fin 6) (s : State) := onHub (fun h => h.serSegment n) s
/-- SER_TRANSACTION_DONE (R362). -/
def execSerTransactionDone (n : Fin 6) (status : Fin 5) (data : Bytes) (s : State) := onHub (fun h => h.serDone n status data) s
/-- CTS_N_CHANGE (R363). -/
def execCtsNChange (n : Fin 6) (level : Bool) (s : State) := onHub (fun h => h.setSer n { h.ser n with ctsHigh := level }) s

end Sys2Proof.Machine
end

