-- ==== Sys2Proof/Machine/Video.lean ====
section
/-!
DEFINITION. Camera input, the frame store and display scan-out (R366 to R388).
-/

namespace Sys2Proof.Machine

/-- A segment from a local port goes into tunnel i, where that tunnel still binds the port. -/
def Hub.offerTo (h : Hub) (i port : Nat) (data : Bytes) (yellow : Bool) : Hub :=
  let x := h.ctx i
  if x.state ≠ .free ∧ x.role ≠ .transit ∧ portCode x.localBind = port then
    h.offer i ⟨data, yellow⟩
  else h

/-- The ingress direction of tunnel i is held behind a red segment or for want of a Tender slot (R186, R216). -/
def Hub.directionHeld (h : Hub) (i : Nat) : Bool :=
  h.heldJob i || (h.eng.waiting.any (fun j => decide (j.ctx = i) && j.encap && (h.targetOf j).isNone))

/-! ### Cameras (R366 to R371) -/

/-- CSI port n. -/
def Hub.csi (h : Hub) (n : Nat) : CsiSt := h.vid.csi.get CsiSt.init n

/-- Replace CSI port n. -/
def Hub.setCsi (h : Hub) (n : Nat) (x : CsiSt) : Hub := { h with vid := { h.vid with csi := h.vid.csi.set CsiSt.init n x } }

/-- CSI port n runs. -/
def Hub.csiRuns (h : Hub) (n : Nat) : Bool := decide (h.val (Od.csiEnable n) = 1) && h.domOn 14

/-- A packet fault at a CSI port (R367): the flag, and the event at most once per second. -/
def Hub.csiFault (h : Hub) (n : Nat) : Hub :=
  let h1 := h.flag Rg.vidFlags (6 + n)
  let x := h1.csi n
  match x.errorAt with
  | some t => if h.clock < t + 10000000000 then h1 else (h1.setCsi n { x with errorAt := some h.clock }).fire Ev.csiError (u8 n)
  | none => (h1.setCsi n { x with errorAt := some h.clock }).fire Ev.csiError (u8 n)

/-- A VIDEO segment of a stream (R369). -/
def videoSegment (x : CsiStream) (start : Nat) (bad eof : Bool) (pixels : Bytes) : Bytes :=
  u8 (b2n (!x.started) + 2 * b2n eof + 4 * b2n bad) ++ u8 x.dt ++ u16 x.frame ++ u32 x.offset ++ (if x.started then [] else u64 start) ++ pixels

/-- Pixel bytes that the next segment of a stream holds. -/
def CsiStream.room (x : CsiStream) (maxSeg : Nat) : Nat := maxSeg - (if x.started then 8 else 16)

/-- A segment with the first n gathered bytes of a stream goes out, or the frame is skipped or cut (R371). -/
def Hub.csiSend (h : Hub) (n i : Nat) (x : CsiStream) (start : Nat) (bad eof : Bool) (k : Nat) : Hub × CsiStream :=
  let seg := videoSegment x start bad eof (x.gathered.take k)
  let room := h.stageRoom (12 + n) seg.length
  if !x.started ∧ (!room ∨ h.held (12 + n) (h.ctx i).cls ∨ h.directionHeld i) then
    (h.bump (Od.csiFramesSkipped n) 32 1, { x with dropped := true, gathered := [] })
  else if !room then (h.bump (Od.csiFramesCut n) 32 1, { x with dropped := true, gathered := [] })
  else
    let h1 := h.offerTo i (0x40 + n) seg false
    (if eof then (h1.bump (Od.csiFramesIn n) 32 1).tally 0x0901 (0x40 + n) 1 else h1,
      { x with gathered := x.gathered.drop k, offset := x.offset + k, started := true })

/-- Full segments go out while more bytes have been gathered than one holds (R370); the first argument bounds them. -/
def Hub.csiCut (h : Hub) (n i : Nat) (start : Nat) (bad : Bool) : Nat → CsiStream → Hub × CsiStream
  | 0, x => (h, x)
  | f + 1, x =>
    let k := x.room (h.ctx i).maxSeg
    if x.dropped ∨ k = 0 ∨ x.gathered.length ≤ k then (h, x)
    else
      let r := h.csiSend n i x start bad false k
      Hub.csiCut r.1 n i start bad f r.2

/-- The stream of a virtual channel and data type ends: its EOF segment goes out (R369, R371). -/
def Hub.csiStreamEnd (h : Hub) (n start : Nat) (bad : Bool) (x : CsiStream) : Hub :=
  match x.ctx with
  | some i => if x.dropped then h else (h.csiSend n i x start bad true x.gathered.length).1
  | none => h

/-- The open frame of a virtual channel ends (R367 to R369). -/
def Hub.csiEnd (h : Hub) (n vc : Nat) (bad : Bool) : Hub :=
  let x := h.csi n
  match x.frames.find? (fun f => decide (f.1 = vc)) with
  | none => h
  | some (_, start) =>
    let mine := x.streams.filter (fun s => decide (s.vc = vc))
    let y : CsiSt := { x with frames := x.frames.filter (fun f => decide (f.1 ≠ vc)), badVcs := x.badVcs.filter (fun v => decide (v ≠ vc)),
                              streams := x.streams.filter (fun s => decide (s.vc ≠ vc)) }
    mine.foldl (fun h s => h.csiStreamEnd n start (bad || decide (vc ∈ x.badVcs)) s) (h.setCsi n y)

/-- A frame start (R367, R368). -/
def Hub.csiStart (h : Hub) (n vc : Nat) : Hub :=
  if !h.csiRuns n then h
  else
    let open_ := (h.csi n).frames.any (fun f => decide (f.1 = vc))
    let h1 := if open_ then (h.csiEnd n vc true).csiFault n else h
    let x := h1.csi n
    h1.setCsi n { x with frames := x.frames ++ [(vc, h.ns)] }

/-- The open frame of a virtual channel is BAD from now on. -/
def Hub.csiBad (h : Hub) (n vc : Nat) : Hub :=
  let x := h.csi n
  h.setCsi n { x with badVcs := if vc ∈ x.badVcs then x.badVcs else vc :: x.badVcs }

/-- The first long packet of a stream is classified (R368): the stream as it begins. -/
def Hub.csiOpen (h : Hub) (n vc dt len : Nat) : Hub × CsiStream :=
  let s : CsiStream := { vc := vc, dt := dt, ctx := none, frame := 0, lineLen := len, dropped := false, gathered := [], offset := 0,
                         started := false }
  match h.lookup (0x40 + n) (.csi vc dt) with
  | (h1, none) => (h1.bump (Od.csiClsMiss n) 32 1, s)
  | (h1, some i) =>
    let x := h1.csi n
    (h1.setCsi n { x with frameNos := x.frameNos.set 0 i ((x.frameNos.get 0 i + 1) % 65536) },
      { s with ctx := some i, frame := x.frameNos.get 0 i })

/-- A long packet: header 0 good, 1 corrected, 2 beyond correction (R366 to R371). -/
def Hub.csiLong (h : Hub) (n vc dt hdr : Nat) (data : Bytes) (crcOk : Bool) : Hub :=
  if !h.csiRuns n then h
  else if hdr = 2 then (h.bump (Od.csiHeaderErrors n) 32 1).csiFault n
  else if dtBits dt = 0 then h.bump (Od.csiUnsupportedDt n) 32 1
  else match (h.csi n).frames.find? (fun f => decide (f.1 = vc)) with
    | none => (h.bump (Od.csiCrcErrors n) 32 1).csiFault n
    | some (_, start) =>
      let h1 := if crcOk then h else ((h.bump (Od.csiCrcErrors n) 32 1).csiBad n vc).csiFault n
      let r := match (h1.csi n).streams.find? (fun s => decide (s.vc = vc) && decide (s.dt = dt)) with
        | some s => (h1, s)
        | none => h1.csiOpen n vc dt data.length
      let h2 := if r.2.lineLen = data.length then r.1 else (r.1.csiBad n vc).csiFault n
      let s := r.2
      let bad := decide (vc ∈ (h2.csi n).badVcs)
      let q := match s.ctx with
        | some i => if s.dropped then (h2, s) else h2.csiCut n i start bad data.length { s with gathered := s.gathered ++ data }
        | none => (h2, s)
      let x := q.1.csi n
      let h3 := q.1.setCsi n { x with streams := x.streams.filter (fun t => !(decide (t.vc = vc) && decide (t.dt = dt))) ++ [q.2] }
      (h3.tally 0x0902 (0x40 + n) 1).tally 0x0903 (0x40 + n) data.length

/-- A frame end (R369). -/
def Hub.csiFrameEnd (h : Hub) (n vc : Nat) : Hub := if h.csiRuns n then h.csiEnd n vc false else h

/-- A CSI port stops: its bindings are lost (R383). -/
def Hub.csiStop (h : Hub) (n : Nat) : Hub :=
  let h1 := h.loseBindings (fun b => decide (portCode b = 0x40 + n))
  h1.setCsi n { h1.csi n with frames := [], badVcs := [], streams := [] }

/-! ### The frame store (R372 to R376) -/

/-- Base of a buffer (R372). -/
def bufferBase (layout buffer : Nat) : Nat := if layout = 0 ∧ buffer = 1 then 0x20700000 else 0x20400000

/-- The largest frame of a layout (R372). -/
def bufferSize (layout : Nat) : Nat := if layout = 0 then 3145728 else 4194304

/-- A frame-store word found uncorrectable (R376). -/
def Hub.fsEcc (h : Hub) : Hub := (h.bump Od.fsFsEccFills 32 1).flag Rg.vidFlags 8

/-- A segment write merges into the word at an address (R376): what the segment does not supply becomes 0 in a damaged word. -/
def Hub.fsMerge (h : Hub) (a : Nat) (whole : Bool) : Hub :=
  let r := if whole then (h, false) else h.eccRead 3 1 a
  let h1 := if r.2 then (r.1.memWriteBytes a (List.replicate 32 0)).fsEcc else r.1
  h1.eccWrite 1 a

/-- Bytes are written into the frame store from an address up. -/
def Hub.fsWrite (h : Hub) (a : Nat) (d : Bytes) : Hub :=
  if d = [] then h
  else
    let first := a / 32
    let last := (a + d.length - 1) / 32
    let h1 := (List.range (last + 1 - first)).foldl (fun h k =>
      let w := 32 * (first + k)
      h.fsMerge w (decide (a ≤ w) && decide (w + 32 ≤ a + d.length))) h
    h1.memWriteBytes a d

/-- The frame being written is discarded (R373). -/
def Hub.frameBad (h : Hub) : Hub :=
  let h1 := ({ h with vid := { h.vid with writing := none } }.bump Od.dsiFramesBad 32 1).flag Rg.vidFlags 3
  let again := match h.vid.formatAt with
    | some t => decide (t + 10000000000 ≤ h.clock)
    | none => true
  if again then ({ h1 with vid := { h1.vid with formatAt := some h.clock } }).fire Ev.videoFormat (u8 0) else h1

/-- The rest of a segment is checked and written into frame w (R373 to R375). -/
def Hub.frameSegment (h : Hub) (w : WriteFrame) (flags dt off : Nat) (pixels : Bytes) (slot : Nat) : Hub :=
  let layout := h.val Od.fsLayout
  let size := h.frameBytes w.dt
  let fin := off + pixels.length
  if bit 2 flags ∨ off ≠ w.next ∨ dt ≠ w.dt ∨ size < fin ∨ bufferSize layout < fin ∨ (bit 1 flags ∧ fin ≠ size) ∨ size = 0 then h.frameBad
  else
    let h1 := h.fsWrite (bufferBase layout (1 - h.vid.front) + off) pixels
    let inst := 0x4800 + slot
    let lines := fin / h.lineBytes dt - off / h.lineBytes dt
    let h2 := ((h1.tally 0x0902 inst lines).tally 0x0903 inst pixels.length)
    let h3 := if bit 1 flags then h2.tally 0x0901 inst 1 else h2
    let v := h3.vid
    let now := { w with next := fin }
    if layout = 0 then
      { h3 with vid := if bit 1 flags then { v with writing := none, ready := some now } else { v with writing := some now } }
    else
      let lead := !w.lead && (bit 1 flags || decide (h.val Od.fsRingLead ≤ fin / h.lineBytes dt))
      let then_ := { now with lead := w.lead || lead }
      { h3 with vid := { v with writing := if bit 1 flags then none else some then_, ready := if lead then some then_ else v.ready } }

/-- A VIDEO segment reaches DSI0 (R373, R374): of the tunnel in SHOW_SLOT it is written, of another one dropped. -/
def Hub.dsiDeliver (h : Hub) (bind : Nat) (d : Bytes) : Hub :=
  let slot := selector bind % 4
  let flags := field d 0 1
  let dt := field d 1 1
  let off := field d 4 4
  if slot ≠ h.val Od.dsiShowSlot then h
  else if bit 0 flags then
    let h1 := if h.vid.writing.isSome then h.frameBad else h
    let h2 := if h.val Od.fsLayout = 0 ∧ h1.vid.ready.isSome then
        ({ h1 with vid := { h1.vid with ready := none } }).bump Od.dsiFramesReplaced 32 1 else h1
    h2.frameSegment { next := 0, dt := dt, frame := field d 2 2, lead := false } flags dt off (d.drop 16) slot
  else match h.vid.writing with
    | some w => h.frameSegment w flags dt off (d.drop 8) slot
    | none => h

/-- SHOW_SLOT is written (R373). -/
def Hub.showSlot (h : Hub) (slot : Nat) : Hub :=
  let h1 := h.put Od.dsiShowSlot slot
  { h1 with vid := { h1.vid with writing := none, ready := if h.val Od.fsLayout = 0 then none else h1.vid.ready } }

/-! ### Scan-out (R377 to R382) -/

/-- Lines of a frame before its front porch (R378). -/
def Hub.frameLines (h : Hub) : Nat := h.val Od.dsiVsync + h.val Od.dsiVbp + h.val Od.dsiVactive

/-- Byte k of FILL_COLOUR in output component order (R386). -/
def fillByte (colour k : Nat) : Byte := BitVec.ofNat 8 (colour / 256 ^ k)

/-- A pixel value shown three times, or FILL_COLOUR (R377). -/
def grey (colour : Nat) : Option Byte → Bytes
  | some b => [b, b, b]
  | none => [fillByte colour 0, fillByte colour 1, fillByte colour 2]

/-- The bytes of a line as DSI sends them, from frame-store bytes of which `none` are filled, the first at place n (R376, R377). -/
def outLine (dt colour : Nat) : Nat → List (Option Byte) → Bytes
  | _, [] => []
  | n, b :: t =>
    (if dt = 0x2A then grey colour b
     else if dt = 0x2B then (if n % 5 = 4 then [] else grey colour b)
     else match b with
       | some v => [v]
       | none => [if dt = 0x1E then fillByte colour (if n % 4 = 3 then 1 else n % 4) else fillByte colour (n % 3)]) ++ outLine dt colour (n + 1) t

/-- The words of the frame store from an address that scan-out reads: a damaged one is filled and rewritten with zeros (R376). -/
def Hub.scanWords (h : Hub) : Nat → Nat → Hub × List Nat
  | _, 0 => (h, [])
  | w, n + 1 =>
    let r := h.eccRead 3 1 w
    let h1 := if r.2 then ((r.1.memWriteBytes w (List.replicate 32 0)).eccWrite 1 w).fsEcc else r.1
    let q := Hub.scanWords h1 (w + 32) n
    (q.1, if r.2 then w :: q.2 else q.2)

/-- A line goes out on DSI0, and on DSI1 when it runs (R380). -/
def Hub.sendLine (h : Hub) (d : Bytes) : Hub :=
  let h1 := h.emit (.frame 0x48 d)
  if h.val Od.dsi1Enable = 1 then h1.emit (.frame 0x49 d) else h1

/-- Active line k is fetched and sent; the buffer ran empty at a pixel, if it did (R375, R379). -/
def Hub.scanLine (h : Hub) (k : Nat) (empty : Option Nat) : Hub :=
  let v := h.vid
  let f := v.inForce
  let dt := match v.shown with
    | some w => w.dt
    | none => 0x24
  let bytes := h.lineBytes dt
  if v.filling then h.sendLine (outLine dt f.colour 0 (List.replicate bytes none))
  else
    let base := bufferBase (h.val Od.fsLayout) v.front + k * bytes
    let first := base / 32
    let r := h.scanWords (32 * first) ((base + bytes + 31) / 32 - first)
    let cut := match empty with
      | some p => p * dtBits dt / 8
      | none => bytes
    let raw := (h.memReadBytes base bytes).mapIdx (fun n b => if cut ≤ n ∨ 32 * ((base + n) / 32) ∈ r.2 then none else some b)
    let torn := decide (h.val Od.fsLayout = 1) && (match v.writing, v.shown with
      | some w, some s => w.lead && decide (w.frame = s.frame) && v.ready.isNone && decide (w.next < (k + 1) * bytes)
      | _, _ => false)
    let h1 := if torn then (r.1.bump Od.dsiTornLines 32 1).flag Rg.vidFlags 4 else r.1
    let h2 := h1.sendLine (outLine dt f.colour 0 raw)
    let h3 : Hub := { h2 with vid := { h2.vid with ringRead := k + 1 } }
    if empty.isNone then h3
    else
      let h4 := (h3.bump Od.dsiUnderruns 32 1).flag Rg.vidFlags 2
      let again := match v.underrunAt with
        | some t => decide (t + 10000000000 ≤ h.clock)
        | none => true
      if again then ({ h4 with vid := { h4.vid with underrunAt := some h.clock } }).fire Ev.dsiUnderrun (u8 0) else h4

/-- The packets that wait for a front porch are sent on the outputs that run (R388). -/
def Hub.porchPackets (h : Hub) : Hub :=
  let l := h.vid.packets
  l.foldl (fun h p =>
    let send (o : Nat) (h : Hub) : Hub := if bit o p.2.1 then h.emit (.device (0x48 + o) [field p.1 1 1, field p.1 2 1] (p.1.drop 4)) else h
    (send 1 (send 0 h)).finish p.2.2.2 0 (u8 (p.2.1 ||| p.2.2.1))) { h with vid := { h.vid with packets := [] } }

/-- One line of DSI0's timing passes (R378 to R381). -/
def Hub.dsiLine (h : Hub) (fill : Nat) (empty : Option Nat) : Hub :=
  let v := h.vid
  if v.dsi = .off then h
  else
    let h0 : Hub := { h with vid := { v with fill := fill } }
    let total := h.frameLines
    let blank := h.val Od.dsiVsync + h.val Od.dsiVbp
    if v.line < total then
      let h1 : Hub := if blank ≤ v.line then h0.scanLine (v.line - blank) empty else h0
      { h1 with vid := { h1.vid with line := v.line + 1, porch := 0 } }
    else
      let h1 : Hub := { h0 with vid := { h0.vid with porch := v.porch + 1 } }
      if v.porch = 0 then h1.porchPackets else h1

/-- The context in OPEN bound to the slot on show. -/
def Hub.shownCtx (h : Hub) : Option Nat :=
  (h.ctxList.find? (fun c => decide (c.2.state = .open) && !c.2.shadow && decide (c.2.role ≠ .transit) &&
    decide (c.2.localBind = 0x48 * 2 ^ 24 + h.val Od.dsiShowSlot))).map (·.1)

/-- The entries that take effect at a frame start are in force (R383). -/
def Hub.latchDsi (h : Hub) : Hub :=
  { h with vid := { h.vid with inForce := ⟨h.val Od.dsiShowSlot, h.val Od.dsiFillColour, h.val Od.dsiStallFrames, h.val Od.dsiStallAction,
      h.val Od.dsiWm1, h.val Od.dsiWm2, h.val Od.dsiWm3⟩ } }

/-- Event data of VIDEO_STALL and VIDEO_RESUMED (R389): the port and the handle of the slot on show. -/
def Hub.stallData (h : Hub) : Bytes :=
  u8 0 ++ u16 (match (h.ctxList.find? (fun c => c.2.busy && decide (c.2.localBind = 0x48 * 2 ^ 24 + h.val Od.dsiShowSlot))) with
    | some c => h.handle c.1
    | none => 0)

/-- A new frame is shown from here (R374, R375, R382). -/
def Hub.showNew (h : Hub) (w : WriteFrame) : Hub :=
  let v := h.vid
  let was := v.dsi
  let h1 : Hub := { h with vid := { v with shown := some w, ready := none, repeats := 0, filling := false, line := 0, porch := 0, ringRead := 0, dsi := .running,
                                           front := if h.val Od.fsLayout = 0 then 1 - v.front else v.front } }
  let h2 := h1.bump Od.dsiFramesShown 64 1
  if was = .stalled then (h2.flag Rg.vidFlags 1).fire Ev.videoResumed h2.stallData else h2

/-- No new frame: the frame is sent again, or filled under a stall (R381, R382). -/
def Hub.showAgain (h : Hub) (live : Bool) : Hub :=
  let v := h.vid
  let f := v.inForce
  let was := decide (v.dsi = .stalled)
  let n := if was ∧ f.stallAction = 1 then v.repeats else min 65535 (v.repeats + 1)
  let enter := !was && (!live || (decide (0 < f.stallFrames) && decide (f.stallFrames ≤ n)))
  let fill := (was || enter) && decide (f.stallAction = 1)
  let h1 : Hub := { h with vid := { v with repeats := n, filling := fill, line := 0, porch := 0,
                                           ringRead := if fill then h.val Od.dsiVactive else 0,
                                           ready := if live then v.ready else none,
                                           dsi := if was || enter then .stalled else .running } }
  let h2 := if fill then h1 else (h1.bump Od.dsiFramesRepeated 32 1).flag Rg.vidFlags 5
  if enter then (h2.flag Rg.vidFlags 0).fire Ev.videoStall h2.stallData else h2

/-- A line boundary at which a frame may start (R381). -/
def Hub.dsiFrameStart (h : Hub) : Hub :=
  let v := h.vid
  let live := h.shownCtx.isSome
  let ready := if live then v.ready else none
  if v.dsi = .off ∨ v.line < h.frameLines ∨ v.porch < h.val Od.dsiVfpMin then h
  else match ready with
    | some w => h.latchDsi.showNew w
    | none =>
      if v.porch < h.val Od.dsiVfpMax then h
      else match v.writing with
        | some w =>
          if h.val Od.fsLayout = 1 ∧ live ∧ 0 < w.next ∧ !w.lead then
            let h1 := h.latchDsi
            ({ h1 with vid := { h1.vid with writing := some { w with lead := true } } }).showNew { w with lead := true }
          else h.latchDsi.showAgain live
        | none => h.latchDsi.showAgain live

/-- ENABLE of DSI0 (R378, R380, R383): the timing runs from a front porch on; or it stops and its bindings are lost. -/
def Hub.dsiEnable (h : Hub) (on : Bool) : Hub :=
  let was := decide (h.vid.dsi ≠ .off)
  let h1 := h.put Od.dsiEnable (b2n on)
  if on && !was && h.domOn 13 then
    let h2 := h1.latchDsi
    ({ h2 with vid := { h2.vid with dsi := .running, line := h2.frameLines, porch := 0, writing := none, ready := none, shown := none,
                                    repeats := 0, filling := false, ringRead := 0 } }).setNominal 12
      (h.val Od.dsiLanes * h.val Od.dsiLaneRate * 1000)
  else if !on && was then
    let h2 := (h1.loseBindings (fun b => decide (portCode b = 0x48))).porchPackets
    ({ h2 with vid := { h2.vid with dsi := .off, writing := none, ready := none, shown := none } }).setNominal 12 0
  else h1

/-- LENGTH that a DSI data type asks for (R388); `none` where it may be any. -/
def dsiLength (dt : Nat) : Option (Option Nat) :=
  if dt = 0x03 ∨ dt = 0x05 then some (some 0) else if dt = 0x13 ∨ dt = 0x15 then some (some 1) else if dt = 0x23 then some (some 2)
  else if dt = 0x29 ∨ dt = 0x39 then some none else none

/-- DSI_PACKET, code 0x0810 (R388). -/
def Hub.cmdDsiPacket (h : Hub) (req : Path) (c tag : Nat) (args : Bytes) : Hub :=
  let outs := field args 0 1
  let n := field args 3 1
  let badLen := match dsiLength (field args 1 1) with
    | some (some k) => decide (n ≠ k)
    | _ => decide (64 < n)
  h.issue req c 0x0810 tag args
    (firstAbort [(decide (args.length < 4), abArg (4 + args.length)), (decide (outs = 0 ∨ 3 < outs), abArg 4),
      ((dsiLength (field args 1 1)).isNone, abArg 5), (decide (3 < field args 2 1), abArg 6), (badLen, abArg 7), argLen args (4 + n)])
    (firstState [(h.inFog, stFoghorn), (!h.domOn 13, stLinkDown)])
    (fun h =>
      let runs (o : Nat) : Bool := decide (h.vid.dsi ≠ .off) && (decide (o = 0) || decide (h.val Od.dsi1Enable = 1))
      let send (o : Nat) (h : Hub) : Hub :=
        if bit o outs ∧ !runs o then h.emit (.device (0x48 + o) [field args 1 1, field args 2 1] (args.drop 4)) else h
      let now := (if bit 0 outs ∧ !runs 0 then 1 else 0) + (if bit 1 outs ∧ !runs 1 then 2 else 0)
      let h1 := send 1 (send 0 h)
      if now = outs then h1.finish c 0 (u8 outs)
      else { h1 with vid := { h1.vid with packets := h1.vid.packets ++ [(args, outs - now, now, c)] } })

/-! ### Meanings -/

/-- CSI_FRAME_START (R367). -/
def execCsiFrameStart (n : Fin 2) (vc : Fin 4) (s : State) := onHub (fun h => h.csiStart n vc) s
/-- CSI_LONG_PACKET (R368). -/
def execCsiLongPacket (n : Fin 2) (vc : Fin 4) (dt : Fin 64) (hdr : Fin 3) (data : Bytes) (crcOk : Bool) (s : State) :=
  onHub (fun h => h.csiLong n vc dt hdr data crcOk) s
/-- CSI_FRAME_END (R369). -/
def execCsiFrameEnd (n : Fin 2) (vc : Fin 4) (s : State) := onHub (fun h => h.csiFrameEnd n vc) s
/-- DSI_FRAME_START (R381). -/
def execDsiFrameStart (s : State) := onHub Hub.dsiFrameStart s
/-- DSI_LINE (R379). -/
def execDsiLine (fill : Fin 33) (empty : Option (BitVec 11)) (s : State) := onHub (fun h => h.dsiLine fill (empty.map BitVec.toNat)) s

/-- DSI_PACKET as its own row. -/
def execDsiPacket (req : Path) (c : Fin 8) (tag : BitVec 16) (args : Bytes) (s : State) :=
  onCommand 0x0810 req c tag.toNat args (fun h => h.cmdDsiPacket req c tag.toNat args) s

end Sys2Proof.Machine
end

