-- ==== Sys2Proof/Machine/Usb.lean ====
section
/-!
DEFINITION. The USB function hubs (R390 to R415). A device is given by its key of R393: 5 * port for the hub, 5 * port + 1 + f for
function f.
-/

namespace Sys2Proof.Machine

/-! ### Descriptors and endpoints (R391, R396, R404) -/

/-- An STR value as a string descriptor (R412). -/
def strDesc (s : Bytes) : Bytes := u8 (2 + 2 * s.length) ++ u8 3 ++ s.flatMap (fun b => [b, 0])

/-- An upper-case hexadecimal digit. -/
def hexDigit (d : Nat) : Byte := BitVec.ofNat 8 (if d < 10 then 0x30 + d else 0x37 + d)

/-- SERIAL as 16 hexadecimal digits (R391). -/
def serialText : Bytes := (List.range 16).map (fun k => hexDigit (Config.serial / 16 ^ (15 - k) % 16))

/-- The hub's device, configuration and hub descriptors (R391). -/
def Hub.hubDevDesc (h : Hub) (n : Nat) : Bytes :=
  u8 18 ++ u8 1 ++ u16 0x0200 ++ u8 9 ++ u8 0 ++ u8 1 ++ u8 64 ++ u16 (h.val (Od.hsicHubVid n)) ++ u16 (h.val (Od.hsicHubPid n)) ++
    u16 (h.val (Od.hsicHubBcd n)) ++ u8 1 ++ u8 2 ++ u8 3 ++ u8 1
def hubConfDesc : Bytes :=
  u8 9 ++ u8 2 ++ u16 25 ++ u8 1 ++ u8 1 ++ u8 0 ++ u8 0xE0 ++ u8 0 ++ u8 9 ++ u8 4 ++ u8 0 ++ u8 0 ++ u8 1 ++ u8 9 ++ u8 0 ++ u8 0 ++ u8 0 ++
    u8 7 ++ u8 5 ++ u8 0x81 ++ u8 3 ++ u16 1 ++ u8 12
def hubHubDesc : Bytes := u8 9 ++ u8 0x29 ++ u8 4 ++ u16 0x0015 ++ u8 1 ++ u8 0 ++ u8 0x1E ++ u8 0xFF

/-- The endpoint of an address in the configuration of function f of port n, in the present settings (R404). -/
def Hub.activeEp (h : Hub) (n f addr : Nat) : Option EpDesc :=
  let x := h.dev (fnKey n f)
  if x.state ≠ .configured then none
  else (confEndpoints (h.confDesc n f)).find? (fun e => decide (e.addr = addr) && decide (x.alts.get 0 e.iface = e.alt))

/-- The hub of port n, or function f behind it, is suspended (R409). -/
def Hub.usbAsleep (h : Hub) (k : Nat) : Bool := (h.dev k).suspended || (h.dev (5 * (k / 5))).suspended

/-- Suspended, or not yet ready after it (R409). -/
def Hub.usbSuspended (h : Hub) (k : Nat) : Bool := h.usbAsleep k || (h.dev k).resuming

/-- Tokens reach a device (R393): a hub on the bus that is not suspended, a function whose port is enabled. -/
def Hub.reaches (h : Hub) (k : Nat) : Bool :=
  let hub := h.dev (5 * (k / 5))
  decide (hub.state = .default ∨ hub.state = .addressed ∨ hub.state = .configured) && !h.usbSuspended k &&
    (decide (k % 5 = 0) || ((h.dev k).portEnable && decide ((h.dev k).state ≠ .disconnected) && decide ((h.dev k).state ≠ .off)))

/-- A handshake or packet goes to the host, and is counted (R582): 0 ACK, 1 NAK, 2 STALL, 3 NYET, 4 data. -/
def Hub.usbSay (h : Hub) (k ep what : Nat) (data : Bytes) : Hub :=
  let h1 := h.emit (.usb k ep what data)
  if k % 5 = 0 then h1
  else
    let inst := ep + 256 * (k % 5 - 1) + 1024 * (k / 5)
    if what = 1 then h1.tally 0x0A02 inst 1 else if what = 3 then h1.tally 0x0A03 inst 1 else if what = 2 then h1.tally 0x0A04 inst 1 else h1

/-- Data queued at endpoints of function f is discarded and counted (R405, R408). -/
def Hub.fnDiscard (h : Hub) (n f : Nat) (pick : Nat → Bool) : Hub :=
  let k := fnKey n f
  let x := h.dev k
  let gone := x.inQueue.filter (fun s => pick (s.ep + 0x80))
  let outs := x.outOpen.cells.filter (fun c => pick c.1)
  let h1 := h.setDev k { x with inQueue := x.inQueue.filter (fun s => !pick (s.ep + 0x80)),
                                outOpen := ⟨x.outOpen.cells.filter (fun c => !pick c.1)⟩ }
  (gone.foldl (fun h s => h.stageOutBy (14 + n) s.staged false) h1).bump (Od.fnEpDiscard (fnIx n f)) 32 (gone.length + outs.length)

/-- Toggles of endpoints go to DATA0. -/
def UsbDev.toData0 (x : UsbDev) (pick : Nat → Bool) : UsbDev := { x with toggles := ⟨x.toggles.cells.filter (fun c => !pick c.1)⟩ }

/-! ### Reset (R407, R408) -/

/-- Steps 1 to 4 of R408 for one device: whether a control transfer was cut. A pending wake ends, DEVICE_REMOTE_WAKEUP being disabled (log 82). -/
def Hub.usbResetDev (h : Hub) (k : Nat) : Hub × Bool :=
  let n := k / 5
  let x := h.dev k
  let live := decide (x.state ≠ .off) && decide (x.state ≠ .disconnected)
  let y := { x with ctrl := none, address := 0, configuration := 0, alts := ⟨[]⟩, toggles := ⟨[]⟩, halts := ⟨[]⟩, rwake := false,
                    suspended := false, resuming := false, wakePending := false, wakeCommands := [], testMode := 0,
                    state := if live then .default else x.state }
  let h1 := x.wakeCommands.foldl (fun h c => h.done c 0 (u8 2)) (h.setDev k y)
  let h2 := if k % 5 = 0 then h1 else h1.fnDiscard n (k % 5 - 1) (fun _ => true)
  match x.ctrl with
  | some c =>
    (((h2.bump (Od.hsicCtrlAborts n) 32 1).flag Rg.usbFlags (8 * n + 1)).fire Ev.usbCtrlAborted
      (u8 n ++ u8 (if k % 5 = 0 then 0xFF else k % 5 - 1) ++ c.setup.take 2), true)
  | none => (h2, false)

/-- A reset reaches devices (R408). -/
def Hub.usbReset (h : Hub) (n : Nat) (l : List Nat) (data : Bytes) : Hub :=
  let r := l.foldl (fun (r : Hub × Bool) k => let q := r.1.usbResetDev k; (q.1, r.2 || q.2)) (h.bump (Od.hsicBusResets n) 32 1, false)
  if r.2 then r.1 else (r.1.flag Rg.usbFlags (8 * n)).fire Ev.usbBusReset data

/-- A reset on HSIC port n (R407): every downstream port is unpowered. -/
def Hub.busReset (h : Hub) (n : Nat) : Hub :=
  if (h.dev (5 * n)).state = .off ∨ (h.dev (5 * n)).state = .disconnected then h
  else
    let h1 := h.usbReset n ((List.range 5).map (fun j => 5 * n + j)) (u8 n)
    let h2 := (List.range 4).foldl (fun h f => h.setDev (fnKey n f) { h.dev (fnKey n f) with portPower := false, portEnable := false, portReset := false }) h1
    ({ h2 with usb := { h2.usb with suspendedAt := h2.usb.suspendedAt.set 0 n 0 } }).usbJudge

/-! ### Connecting (R394, R395) -/

/-- The conditions of R394 hold. -/
def Hub.hsicMay (h : Hub) (n : Nat) : Bool :=
  decide (h.val (Od.hsicEnable n) = 1) && h.domOn 12 && decide (h.val (Od.hsicHubVid n) ≠ 0) && h.mode.confirmed &&
    decide (h.pwr.bootPhase = .keeper)

/-- The line of HSIC port n is driven, unless the pads of its domain are held (R555). -/
def Hub.hsicLine (h : Hub) (n level : Nat) : Hub := if (h.domain 12).padsHeld then h else h.emit (.line (.hsic n) level)

/-- The hub signals connect or disconnect as R394's conditions hold or not. -/
def Hub.hsicJudge (h : Hub) (n : Nat) : Hub :=
  let x := h.dev (5 * n)
  let on := decide (x.state ≠ .off) && decide (x.state ≠ .disconnected)
  if h.hsicMay n then
    if on then h else ((h.setDev (5 * n) { UsbDev.init with state := .default }).hsicLine n 1).setNominal (14 + n) 480000
  else
    let st : UsbState := if h.val (Od.hsicEnable n) = 1 then .disconnected else .off
    if on then
      let h1 := (h.setDev (5 * n) { UsbDev.init with state := st }).hsicLine n 0
      let h2 := (List.range 4).foldl (fun h f => h.setDev (fnKey n f) { h.dev (fnKey n f) with portPower := false }) h1
      (({ h2 with usb := { h2.usb with suspendedAt := h2.usb.suspendedAt.set 0 n 0 } }).usbJudge).setNominal (14 + n) 0
    else h.setDev (5 * n) { x with state := st }

/-- ENABLE of HSIC port n is written (R401): at 0 its bindings are lost. -/
def Hub.hsicSet (h : Hub) (n : Nat) (on : Bool) : Hub :=
  let h1 := h.put (Od.hsicEnable n) (b2n on)
  (if on then h1 else h1.loseBindings (fun b => decide (portCode b = 0x50 + n))).hsicJudge n

/-- ENABLE of a function is written (R396, R401). -/
def Hub.fnSet (h : Hub) (n f : Nat) (on : Bool) : Hub :=
  let h1 := h.put (Od.fnEnable (fnIx n f)) (b2n on)
  (if on then h1 else h1.loseBindings (fun b => decide (portCode b = 0x50 + n) && decide (b % 4 = f))).usbJudge

/-- A function connects (R395), 100 ms after a disconnect at the earliest. -/
def Hub.fnConnect (h : Hub) (n f : Nat) : Hub :=
  let k := fnKey n f
  let x := h.dev k
  if (x.state = .disconnected ∨ x.state = .off) ∧ h.fnMayConnect n f then
    let t := match x.disconnectedAt with
      | some d => max h.clock (d + 1000000000)
      | none => h.clock
    let h1 := ({ h with clock := t }).setDev k { x with state := .powered, change := setBit 0 x.change, reconnects := [] }
    x.reconnects.foldl (fun h c => h.done c 0 (u8 1)) h1
  else h

/-! ### Control transfers (R398 to R400) -/

/-- What a setup asks for. -/
inductive CtrlReq where
  | setAddress | setConfiguration | setInterface | getDescriptor | getStatus | getConfiguration | getInterface | setHalt | clearHalt
  | remoteWakeup | testMode | portReset | portPower | setPortSuspend | clearPortSuspend | tt | other
  deriving DecidableEq, Repr

/-- The request of a setup to the hub (`hub`) or to a function (R391 to R393, R398). -/
def ctrlReq (hub : Bool) (b : Bytes) : CtrlReq :=
  let bm := field b 0 1
  let rq := field b 1 1
  let v := field b 2 2
  if bm = 0x00 ∧ rq = 5 then .setAddress
  else if bm = 0x00 ∧ rq = 9 then .setConfiguration
  else if bm = 0x01 ∧ rq = 11 then .setInterface
  else if bm = 0x80 ∧ rq = 6 then .getDescriptor
  else if (bm = 0x80 ∨ bm = 0x81 ∨ bm = 0x82) ∧ rq = 0 then .getStatus
  else if bm = 0x80 ∧ rq = 8 then .getConfiguration
  else if bm = 0x81 ∧ rq = 10 then .getInterface
  else if bm = 0x02 ∧ rq = 3 ∧ v = 0 then .setHalt
  else if bm = 0x02 ∧ rq = 1 ∧ v = 0 then .clearHalt
  else if bm = 0x00 ∧ (rq = 3 ∨ rq = 1) ∧ v = 1 then .remoteWakeup
  else if bm = 0x00 ∧ rq = 3 ∧ v = 2 then .testMode
  else if !hub then .other
  else if bm = 0xA0 ∧ rq = 6 then .getDescriptor
  else if (bm = 0xA0 ∨ bm = 0xA3) ∧ rq = 0 then .getStatus
  else if bm = 0x23 ∧ rq = 3 ∧ v = 4 then .portReset
  else if bm = 0x23 ∧ (rq = 3 ∨ rq = 1) ∧ v = 8 then .portPower
  else if bm = 0x23 ∧ rq = 3 ∧ v = 2 then .setPortSuspend
  else if bm = 0x23 ∧ rq = 1 ∧ v = 2 then .clearPortSuspend
  else if (bm = 0x23 ∨ bm = 0xA3) ∧ 8 ≤ rq ∧ rq ≤ 11 then .tt
  else .other

/-- The pending setup of device k, where it asks for r and no reply is awaited. -/
def Hub.setupFor (h : Hub) (k : Nat) (r : CtrlReq) : Option Bytes :=
  match (h.dev k).ctrl with
  | some c => if !c.waiting ∧ ctrlReq (decide (k % 5 = 0)) c.setup = r then some c.setup else none
  | none => none

/-- The transfer of device k is complete: its data stage, and the status stage. -/
def Hub.ctrlDone (h : Hub) (k : Nat) (data : Bytes) : Hub :=
  let h1 := h.setDev k { h.dev k with ctrl := none }
  if data = [] then h1.usbSay k 0 0 [] else h1.usbSay k 0 4 data

/-- The transfer of device k is stalled. -/
def Hub.ctrlStall (h : Hub) (k : Nat) : Hub := (h.setDev k { h.dev k with ctrl := none }).usbSay k 0 2 []

/-- The transfer's IN data, at most wLength bytes. -/
def Hub.ctrlData (h : Hub) (k : Nat) (setup data : Bytes) : Hub := h.ctrlDone k (data.take (field setup 6 2))

/-- A SETUP reaches device k (R400): it is acknowledged, and an unfinished transfer ends. -/
def Hub.usbSetup (h : Hub) (k : Nat) (setup : Bytes) : Hub :=
  if h.reaches k then (h.setDev k { h.dev k with ctrl := some ⟨setup.take 8, false⟩ }).usbSay k 0 0 [] else h

/-- Act on the pending setup of a request; another one is left alone. -/
def Hub.onSetup (h : Hub) (k : Nat) (r : CtrlReq) (f : Bytes → Hub) : Hub :=
  match h.setupFor k r with
  | some b => f b
  | none => h

/-- SET_ADDRESS, once its status stage is complete (R398). -/
def Hub.setAddress (h : Hub) (k : Nat) : Hub :=
  h.onSetup k .setAddress (fun b =>
    let x := h.dev k
    let a := field b 2 1 % 128
    let st := if x.state = .configured then .configured else if a = 0 then .default else .addressed
    (h.setDev k { x with address := a, state := st }).ctrlDone k [])

/-- SET_CONFIGURATION (R398, R405). -/
def Hub.setConfiguration (h : Hub) (k : Nat) : Hub :=
  h.onSetup k .setConfiguration (fun b =>
    let n := k / 5
    let x := h.dev k
    let v := field b 2 2
    if 1 < v ∨ (x.state ≠ .addressed ∧ x.state ≠ .configured) then h.ctrlStall k
    else
      let h1 := h.setDev k { x.toData0 (fun _ => true) with configuration := v, alts := ⟨[]⟩, state := if v = 1 then .configured else .addressed }
      let h2 := if k % 5 = 0 then h1 else h1.fnDiscard n (k % 5 - 1) (fun _ => true)
      let h3 := if v = 1 then h2.fire Ev.usbConfigured (u8 n ++ (if k % 5 = 0 then [] else u8 (k % 5 - 1))) else h2
      h3.usbJudge.ctrlDone k [])

/-- SET_INTERFACE (R398, R405). -/
def Hub.setInterface (h : Hub) (k : Nat) : Hub :=
  h.onSetup k .setInterface (fun b =>
    let n := k / 5
    let f := k % 5 - 1
    let x := h.dev k
    let i := field b 4 2
    let a := field b 2 2
    if x.state ≠ .configured then h.ctrlStall k
    else if k % 5 = 0 then (if i = 0 ∧ a = 0 then h.ctrlDone k [] else h.ctrlStall k)
    else if !(confIfaces (h.confDesc n f)).any (fun d => decide (d.1 = i) && decide (d.2.1 = a)) then h.ctrlStall k
    else
      let old := x.alts.get 0 i
      let mine (addr : Nat) : Bool := (confEndpoints (h.confDesc n f)).any (fun e =>
        decide (e.addr = addr) && decide (e.iface = i) && (decide (e.alt = old) || decide (e.alt = a)))
      ((h.setDev k { x.toData0 mine with alts := x.alts.set 0 i a }).fnDiscard n f mine).ctrlDone k [])

/-- The request that a function does not answer in hardware goes to its endpoint-0 tunnel or to Keeper (R399, R400). -/
def Hub.ctrlPass (h : Hub) (k : Nat) (setup data : Bytes) : Hub :=
  let n := k / 5
  let f := k % 5 - 1
  let x := h.dev k
  let out := !bit 7 (field setup 0 1)
  if out ∧ 1024 < field setup 6 2 then h.ctrlStall k
  else
    let seq := (x.ctrlSeq + 1) % 65536
    let seg := u8 1 ++ u8 f ++ u16 seq ++ [0, 0, 0, 0] ++ setup ++ (if out then data.take (field setup 6 2) else [])
    let h1 := h.setDev k { x with ctrlSeq := seq, ctrl := some ⟨setup, true⟩ }
    match h.epCtx n f 0 true with
    | some i => if (h.ctx i).state = .open then h1.offerTo i (0x50 + n) seg false else h1.emit (.deliver (0x90 * 2 ^ 24) seg)
    | none => h1.emit (.deliver (0x90 * 2 ^ 24) seg)

/-- GET_DESCRIPTOR (R391, R398). -/
def Hub.getDescriptor (h : Hub) (k : Nat) : Hub :=
  h.onSetup k .getDescriptor (fun b =>
    let n := k / 5
    let f := k % 5 - 1
    let ty := field b 3 1
    let ix := field b 2 1
    let text (e : Entry) : Bytes := strDesc (h.blobVal e)
    if k % 5 = 0 then
      if ty = 1 then h.ctrlData k b (h.hubDevDesc n)
      else if ty = 2 ∧ ix = 0 then h.ctrlData k b hubConfDesc
      else if ty = 0x29 then h.ctrlData k b hubHubDesc
      else if ty = 3 then
        if ix = 0 then
          let v := h.open_ 16
          v.1.ctrlData k b (u8 4 ++ u8 3 ++ u16 v.2)
        else if ix = 1 then h.ctrlData k b (text (Od.hsicManufacturer n))
        else if ix = 2 then h.ctrlData k b (text (Od.hsicProduct n))
        else if ix = 3 then h.ctrlData k b (strDesc serialText)
        else h.ctrlStall k
      else h.ctrlStall k
    else if ty = 1 then h.ctrlData k b (h.blobVal (Od.fnDevDesc (fnIx n f)))
    else if ty = 2 then (if ix = 0 then h.ctrlData k b (h.confDesc n f) else h.ctrlStall k)
    else if ty = 3 then
      let s := if ix < 16 then h.blobVal (Od.fnStringI (fnIx n f) ix) else []
      if s = [] then h.ctrlStall k else h.ctrlData k b s
    else if ty = 6 ∨ ty = 7 then h.ctrlStall k
    else h.ctrlPass k b [])

/-- Port status and change of downstream port f + 1 (R393). -/
def Hub.portStatus (h : Hub) (n f : Nat) : Bytes :=
  let x := h.dev (fnKey n f)
  let conn := decide (x.state ≠ .off) && decide (x.state ≠ .disconnected)
  u16 (b2n conn + 2 * b2n x.portEnable + 4 * b2n (x.suspended || x.resuming) + 16 * b2n x.portReset + 256 * b2n x.portPower + 1024 * b2n x.portEnable) ++ u16 x.change

/-- GET_STATUS (R393, R398). -/
def Hub.getStatus (h : Hub) (k : Nat) : Hub :=
  h.onSetup k .getStatus (fun b =>
    let n := k / 5
    let f := k % 5 - 1
    let x := h.dev k
    let bm := field b 0 1
    let ix := field b 4 2
    if bm = 0xA0 then h.ctrlData k b [0, 0, 0, 0]
    else if bm = 0xA3 then (if 1 ≤ ix ∧ ix ≤ 4 then h.ctrlData k b (h.portStatus n (ix - 1)) else h.ctrlStall k)
    else if bm = 0x80 then
      let self := if k % 5 = 0 then true else bit 6 (field (h.confDesc n f) 7 1)
      h.ctrlData k b (u16 (b2n self + 2 * b2n x.rwake))
    else if bm = 0x81 then h.ctrlData k b [0, 0]
    else if ix % 128 = 0 ∨ (k % 5 = 0 ∧ ix = 0x81) ∨ (k % 5 ≠ 0 ∧ (h.activeEp n f ix).isSome) then
      h.ctrlData k b (u16 (x.halts.get 0 ix))
    else h.ctrlStall k)

/-- GET_CONFIGURATION (R398). -/
def Hub.getConfiguration (h : Hub) (k : Nat) : Hub := h.onSetup k .getConfiguration (fun b => h.ctrlData k b (u8 (h.dev k).configuration))

/-- GET_INTERFACE (R398). -/
def Hub.getInterface (h : Hub) (k : Nat) : Hub :=
  h.onSetup k .getInterface (fun b =>
    let i := field b 4 2
    let known := if k % 5 = 0 then decide (i = 0) else (confIfaces (h.confDesc (k / 5) (k % 5 - 1))).any (fun d => decide (d.1 = i))
    if (h.dev k).state = .configured ∧ known then h.ctrlData k b (u8 ((h.dev k).alts.get 0 i)) else h.ctrlStall k)

/-- An endpoint that a halt may name. -/
def Hub.haltable (h : Hub) (k addr : Nat) : Bool :=
  if k % 5 = 0 then decide (addr = 0x81) && decide ((h.dev k).state = .configured) else (h.activeEp (k / 5) (k % 5 - 1) addr).isSome

/-- SET_FEATURE(ENDPOINT_HALT) (R406). -/
def Hub.setHalt (h : Hub) (k : Nat) : Hub :=
  h.onSetup k .setHalt (fun b =>
    let a := field b 4 2
    if h.haltable k a then (h.setDev k { h.dev k with halts := (h.dev k).halts.set 0 a 1 }).ctrlDone k [] else h.ctrlStall k)

/-- CLEAR_FEATURE(ENDPOINT_HALT) (R405): the toggle returns to DATA0, whether or not the endpoint was halted. -/
def Hub.clearHalt (h : Hub) (k : Nat) : Hub :=
  h.onSetup k .clearHalt (fun b =>
    let a := field b 4 2
    if h.haltable k a then
      let x := h.dev k
      (h.setDev k { x with halts := x.halts.set 0 a 0, toggles := x.toggles.set 0 a 0 }).ctrlDone k []
    else h.ctrlStall k)

/-- SET_FEATURE or CLEAR_FEATURE(DEVICE_REMOTE_WAKEUP) (R398). -/
def Hub.remoteWakeup (h : Hub) (k : Nat) : Hub :=
  h.onSetup k .remoteWakeup (fun b => (h.setDev k { h.dev k with rwake := decide (field b 1 1 = 3) }).ctrlDone k [])

/-- SET_FEATURE(TEST_MODE) (R390). -/
def Hub.setTestMode (h : Hub) (k : Nat) : Hub :=
  h.onSetup k .testMode (fun b =>
    if k % 5 = 0 ∧ h.mode.active = .bench then
      ((h.setDev k { h.dev k with testMode := field b 5 1 }).ctrlDone k []).emit (.device (0x50 + k / 5) [field b 5 1] [])
    else h.ctrlStall k)

/-! ### Requests on downstream ports (R392, R393, R409) -/

/-- The function that a port request of hub n names. -/
def portOf (b : Bytes) : Option Nat := if 1 ≤ field b 4 1 ∧ field b 4 1 ≤ 4 then some (field b 4 1 - 1) else none

/-- Act on the function of a port request; a port that does not exist stalls it. -/
def Hub.onPort (h : Hub) (n : Nat) (r : CtrlReq) (f : Bytes → Nat → Hub) : Hub :=
  h.onSetup (5 * n) r (fun b => match portOf b with
    | some p => (f b p).ctrlDone (5 * n) []
    | none => h.ctrlStall (5 * n))

/-- SET_FEATURE(PORT_RESET). -/
def Hub.portResetReq (h : Hub) (n : Nat) : Hub :=
  h.onPort n .portReset (fun _ f =>
    let h1 := h.usbReset n [fnKey n f] (u8 n ++ u8 f)
    h1.setDev (fnKey n f) { h1.dev (fnKey n f) with portEnable := false, portReset := true })

/-- 10 ms after a port reset. -/
def Hub.portResetDone (h : Hub) (n f : Nat) : Hub :=
  let x := h.dev (fnKey n f)
  if x.portReset then
    h.setDev (fnKey n f) { x with portReset := false, portEnable := decide (x.state ≠ .off) && decide (x.state ≠ .disconnected), change := setBit 4 x.change }
  else h

/-- SET_FEATURE or CLEAR_FEATURE(PORT_POWER). -/
def Hub.portPowerReq (h : Hub) (n : Nat) : Hub :=
  h.onPort n .portPower (fun b f =>
    let k := fnKey n f
    if field b 1 1 = 3 then h.setDev k { h.dev k with portPower := true }
    else
      let h1 := h.usbReset n [k] (u8 n ++ u8 f)
      (h1.setDev k { h1.dev k with portPower := false, portEnable := false, portReset := false }).usbJudge)

/-- SET_FEATURE(PORT_SUSPEND). -/
def Hub.portSuspendReq (h : Hub) (n : Nat) : Hub :=
  h.onPort n .setPortSuspend (fun _ f =>
    let x := h.dev (fnKey n f)
    if x.portEnable then h.setDev (fnKey n f) { x with suspended := true } else h)

/-- A wake of function f is enabled (R410): DEVICE_REMOTE_WAKEUP and bmAttributes bit 5. -/
def Hub.wakeEnabled (h : Hub) (n f : Nat) : Bool :=
  (h.dev (fnKey n f)).rwake && bit 5 (field (h.confDesc n f) 7 1) && (!(h.dev (5 * n)).suspended || (h.dev (5 * n)).rwake)

/-- A pending wake of function f that could be driven (R411). -/
def Hub.wakeReady (h : Hub) (n f : Nat) : Bool := (h.dev (fnKey n f)).wakePending && h.wakeEnabled n f

/-- A resume by the host has met a pending wake (R411). -/
def Hub.wakeCollide (h : Hub) (n : Nat) (met : Bool) : Hub :=
  if met then (h.bump (Od.hsicWakeCollisions n) 32 1).flag Rg.usbFlags (8 * n + 4) else h

/-- The host resumes a function: a pending wake is cleared, and its commands end, yielded or not enabled (R410, R411). -/
def Hub.fnResume (h : Hub) (n f : Nat) : Hub :=
  let k := fnKey n f
  let x := h.dev k
  x.wakeCommands.foldl (fun g c => g.done c 0 (u8 (if h.wakeReady n f then 1 else 2)))
    (h.setDev k { x with suspended := false, resuming := true, wakePending := false, wakeCommands := [] })

/-- CLEAR_FEATURE(PORT_SUSPEND). -/
def Hub.portResumeReq (h : Hub) (n : Nat) : Hub :=
  h.onPort n .clearPortSuspend (fun _ f => if (h.dev (fnKey n f)).suspended then (h.fnResume n f).wakeCollide n (h.wakeReady n f) else h)

/-- CLEAR_TT_BUFFER, RESET_TT, GET_TT_STATE and STOP_TT have no effect (R392). -/
def Hub.ttReq (h : Hub) (n : Nat) : Hub := h.onSetup (5 * n) .tt (fun _ => h.ctrlDone (5 * n) [])

/-- CLEAR_FEATURE of a port of the hub: a change bit, or PORT_ENABLE. -/
def Hub.portClear (h : Hub) (n : Nat) (b : Bytes) : Hub :=
  let v := field b 2 2
  match portOf b with
  | some f =>
    let x := h.dev (fnKey n f)
    if v = 1 then (h.setDev (fnKey n f) { x with portEnable := false }).ctrlDone (5 * n) []
    else if 16 ≤ v ∧ v ≤ 20 then (h.setDev (fnKey n f) { x with change := clearBit (v - 16) x.change }).ctrlDone (5 * n) []
    else h.ctrlStall (5 * n)
  | none => h.ctrlStall (5 * n)

/-- A class, vendor or unhandled request (R398 to R400). -/
def Hub.controlRequest (h : Hub) (k : Nat) (data : Bytes) : Hub :=
  h.onSetup k .other (fun b =>
    if k % 5 = 0 then (if field b 0 1 = 0x23 ∧ field b 1 1 = 1 then h.portClear (k / 5) b else h.ctrlStall k)
    else if bits 6 5 (field b 0 1) = 0 ∧ field b 0 2 ≠ 0x0681 then h.ctrlStall k
    else h.ctrlPass k b data)

/-- A REPLY reaches function f of port n (R399): the oldest one its endpoint-0 tunnel has delivered, or one of Keeper firmware. -/
def Hub.controlReply (h : Hub) (n f : Nat) (own : Option Bytes) : Hub :=
  let k := fnKey n f
  let src := (h.outQ (14 + n)).find? (fun s => decide (s.bind % 4 = f) && decide (s.bind / 4 % 16 = 0))
  let got := match own, src with
    | some d, _ => some (h, d)
    | none, some s => some (h.dropOut (14 + n) s, s.data)
    | none, none => none
  match got with
  | none => h
  | some (h0, d) =>
    match (h0.dev k).ctrl with
    | some c =>
      if c.waiting ∧ field d 0 1 = 0x81 ∧ field d 1 1 = f ∧ field d 2 2 = (h0.dev k).ctrlSeq then
        if field d 4 1 = 1 then h0.ctrlStall k
        else if bit 7 (field c.setup 0 1) then
          let body := d.drop 16
          let h1 := if field c.setup 6 2 < body.length then h0.bump (Od.fnInFormat (fnIx n f)) 32 1 else h0
          h1.ctrlData k c.setup body
        else h0.ctrlDone k []
      else { h0 with usb := { h0.usb with lateReplies := h0.usb.lateReplies + 1 } }
    | none => { h0 with usb := { h0.usb with lateReplies := h0.usb.lateReplies + 1 } }

/-- CTRL_TIMEOUT passes without a REPLY (R399). -/
def Hub.ctrlTimeout (h : Hub) (n f : Nat) : Hub :=
  match (h.dev (fnKey n f)).ctrl with
  | some c =>
    if c.waiting then
      ((((h.ctrlStall (fnKey n f)).bump (Od.hsicCtrlTimeouts n) 32 1).flag Rg.usbFlags (8 * n + 5)).fire Ev.usbCtrlTimeout (u8 n ++ u8 f))
    else h
  | none => h

/-! ### Data (R401 to R406) -/

/-- An OUT endpoint could take a packet (R402): the quota has 1,056 free bytes and its tunnel is not held. -/
def Hub.outRoom (h : Hub) (n i : Nat) : Bool :=
  decide (h.sw.stageIn.get 0 (14 + n) + 1056 ≤ h.quotaIn (14 + n)) && !h.held (14 + n) (h.ctx i).cls && !h.directionHeld i

/-- A gathered OUT segment goes to its tunnel (R402). -/
def Hub.outClose (h : Hub) (n f ep : Nat) (fin : Bool) (data : Bytes) : Hub :=
  let seg := u8 (b2n fin) ++ [0, 0, 0] ++ data
  match h.lookup (0x50 + n) (.usb f ep) with
  | (h1, none) => (h1.bump (Od.hsicClsMiss n) 32 1).flag Rg.usbFlags (8 * n + 7)
  | (h1, some i) => h1.offerTo i (0x50 + n) seg false

/-- An OUT packet reaches an endpoint of function f (R402, R404 to R406). -/
def Hub.outPacket (h : Hub) (n f ep : Nat) (toggle : Bool) (data : Bytes) : Hub :=
  let k := fnKey n f
  let x := h.dev k
  if !h.reaches k ∨ ep = 0 then h
  else match h.activeEp n f ep with
    | none => h.usbSay k ep 2 []
    | some e =>
      let want := x.toggles.get 0 ep
      let inst := ep + 256 * f + 1024 * n
      if e.maxPkt < data.length then h
      else if x.halts.get 0 ep = 1 then h.usbSay k ep 2 []
      else if b2n toggle ≠ want then h.usbSay k ep 0 []
      else
        let y := { x with toggles := x.toggles.set 0 ep (1 - want) }
        match h.epCtx n f ep false with
        | none => (((h.setDev k y).bump (Od.fnEpDiscard (fnIx n f)) 32 1).tally 0x0A01 inst 1).usbSay k ep 0 []
        | some i =>
          if !h.outRoom n i then h.usbSay k ep 1 []
          else
            let all := x.outOpen.get [] ep ++ data
            let most := ((h.ctx i).maxSeg - 4) / e.maxPkt * e.maxPkt
            let fin := decide (data.length < e.maxPkt)
            let h1 := if fin ∨ most ≤ all.length then (h.setDev k { y with outOpen := y.outOpen.set [] ep [] }).outClose n f ep fin all
              else h.setDev k { y with outOpen := y.outOpen.set [] ep all }
            (h1.tally 0x0A01 inst 1).usbSay k ep (if e.attr % 4 = 2 ∧ !h1.outRoom n i then 3 else 0) []

/-- A PING reaches an OUT endpoint (R402). -/
def Hub.usbPing (h : Hub) (n f ep : Nat) : Hub :=
  let k := fnKey n f
  if !h.reaches k ∨ ep = 0 then h
  else match h.activeEp n f ep with
    | none => h.usbSay k ep 2 []
    | some _ =>
      if (h.dev k).halts.get 0 ep = 1 then h.usbSay k ep 2 []
      else match h.epCtx n f ep false with
        | none => h.usbSay k ep 0 []
        | some i => h.usbSay k ep (if h.outRoom n i then 0 else 1) []

/-- Change the first queued segment of an endpoint; `none` removes it. -/
def updIn (ep : Nat) (f : InSeg → Option InSeg) : List InSeg → List InSeg
  | [] => []
  | s :: t => if s.ep = ep then (match f s with
      | some q => q :: t
      | none => t) else s :: updIn ep f t

/-- An IN token to the hub's status-change endpoint (R391, R410). -/
def Hub.hubIn (h : Hub) (n : Nat) (acked : Bool) : Hub :=
  let x := h.dev (5 * n)
  let map := (List.range 4).foldl (fun m f => if (h.dev (fnKey n f)).change ≠ 0 then setBit (f + 1) m else m) 0
  if x.state ≠ .configured ∨ x.halts.get 0 0x81 = 1 then h.usbSay (5 * n) 0x81 2 []
  else if map = 0 then h.usbSay (5 * n) 0x81 1 []
  else
    let t := x.toggles.get 0 0x81
    (if acked then h.setDev (5 * n) { x with toggles := x.toggles.set 0 0x81 (1 - t) } else h).usbSay (5 * n) 0x81 4 (u8 map)

/-- An IN token reaches an endpoint (R403 to R406); `acked`: the host acknowledges the packet it gets. -/
def Hub.inToken (h : Hub) (n k ep : Nat) (acked : Bool) : Hub :=
  let d := 5 * n + k
  let f := k - 1
  let addr := ep + 0x80
  let x := h.dev d
  if !h.reaches d ∨ ep = 0 then h
  else if k = 0 then (if ep = 1 then h.hubIn n acked else h.usbSay d addr 2 [])
  else match h.activeEp n f addr with
    | none => h.usbSay d addr 2 []
    | some e =>
      if x.halts.get 0 addr = 1 then h.usbSay d addr 2 []
      else match x.inQueue.find? (fun s => decide (s.ep = ep)) with
        | none => h.usbSay d addr 1 []
        | some s =>
          let p := s.left.take e.maxPkt
          let rest := s.left.drop e.maxPkt
          let h1 := h.usbSay d addr 4 p
          if !acked then h1.setDev d { h1.dev d with inQueue := updIn ep (fun q => some { q with unacked := some p }) x.inQueue }
          else
            let last := decide (rest = []) && !(s.zlp && decide (s.left ≠ []))
            let y := { h1.dev d with toggles := x.toggles.set 0 addr (1 - x.toggles.get 0 addr),
                                     inQueue := updIn ep (fun q => if last then none else some { q with left := rest, unacked := none }) x.inQueue }
            let h2 := (h1.setDev d y).tally 0x0A01 (addr + 256 * f + 1024 * n) 1
            if last then h2.stageOutBy (14 + n) s.staged false else h2

/-- A segment of context i reaches an endpoint of HSIC port n (R399, R403, R404, R410). -/
def Hub.usbDeliver (h : Hub) (n : Nat) (s : OutSeg) : Hub :=
  let f := s.bind % 4
  let ep := s.bind / 4 % 16
  let k := fnKey n f
  if ep = 0 then h.keepOut (14 + n) s
  else match h.activeEp n f (ep + 0x80) with
    | none => h.bump (Od.fnEpDiscard (fnIx n f)) 32 1
    | some e =>
      let body := s.data.drop 4
      let fin := bit 0 (field s.data 0 1)
      let whole := decide (body.length % e.maxPkt = 0)
      let h1 := if !fin ∧ !whole then h.bump (Od.fnInFormat (fnIx n f)) 32 1 else h
      let x := h1.dev k
      let pend := x.wakePending || (h1.usbAsleep k && bit ep (h1.val (Od.fnWakeMask (fnIx n f))))
      let h2 := h1.setDev k { x with wakePending := pend }
      if body = [] ∧ !fin then h2
      else
        let y := h2.dev k
        (h2.setDev k { y with inQueue := y.inQueue ++ [⟨ep, s.ctx, body, fin && whole, s.data.length, none⟩] }).stageOutBy (14 + n) s.data.length true

/-! ### Suspend, resume, wake (R409 to R411) -/

/-- 3 ms without bus activity. -/
def Hub.usbSuspend (h : Hub) (n : Nat) : Hub :=
  let x := h.dev (5 * n)
  if x.state = .off ∨ x.state = .disconnected ∨ x.suspended then h
  else
    let h1 := h.setDev (5 * n) { x with suspended := true }
    (({ h1 with usb := { h1.usb with suspendedAt := h1.usb.suspendedAt.set 0 n (h1.clock + 1) } }).flag Rg.usbFlags (8 * n + 2)).fire Ev.usbSuspend (u8 n)

/-- A global suspend ends: the functions not suspended by themselves are ready 20 ms later. -/
def Hub.usbResume (h : Hub) (n : Nat) : Hub :=
  let h1 := h.setDev (5 * n) { h.dev (5 * n) with suspended := false }
  let h2 : Hub := { h1 with usb := { h1.usb with suspendedAt := h1.usb.suspendedAt.set 0 n 0 } }
  let h3 := (List.range 4).foldl (fun h f =>
    let x := h.dev (fnKey n f)
    if x.state = .off ∨ x.state = .disconnected ∨ x.suspended then h else h.setDev (fnKey n f) { x with resuming := true }) h2
  (h3.flag Rg.usbFlags (8 * n + 3)).fire Ev.usbResume (u8 n)

/-- Host resume signalling (R409, R411). -/
def Hub.hostResume (h : Hub) (n : Nat) : Hub :=
  if !(h.dev (5 * n)).suspended then h
  else
    let h1 := (List.range 4).foldl (fun h f =>
      let x := h.dev (fnKey n f)
      if x.wakePending ∧ !x.suspended then h.fnResume n f else h) h
    (h1.wakeCollide n ((List.range 4).any (fun f => h.wakeReady n f && !(h.dev (fnKey n f)).suspended))).usbResume n

/-- 20 ms after a resume (R409). -/
def Hub.resumeReady (h : Hub) (n f : Nat) : Hub :=
  let x := h.dev (fnKey n f)
  if x.resuming then h.setDev (fnKey n f) { x with resuming := false, change := setBit 2 x.change } else h

/-- A pending, enabled wake is signalled (R410): in global suspend no sooner than 5 ms after it began. -/
def Hub.remoteWake (h : Hub) (n f : Nat) : Hub :=
  let k := fnKey n f
  let x := h.dev k
  if !h.wakeReady n f ∨ !h.usbAsleep k ∨ x.state = .off ∨ x.state = .disconnected then h
  else
    let h1 := h.setDev k { x with wakePending := false, wakeCommands := [], suspended := false, resuming := true }
    let h2 := if (h.dev (5 * n)).suspended then
        (({ h1 with clock := max h1.clock (h1.usb.suspendedAt.get 0 n - 1 + 50000000) }).emit (.line (.hsic n) 2)).usbResume n
      else h1
    x.wakeCommands.foldl (fun h c => h.done c 0 (u8 0)) h2

/-! ### Commands (R415) -/

/-- The port and function bytes of a command: the checks on them. -/
def usbArgs (args : Bytes) (len : Nat) : List (Bool × Abort) :=
  [argLen args len, (decide (1 < field args 0 1), abArg 4), (decide (3 < field args 1 1), abArg 5)]

/-- USB_WAKE, code 0x0820. -/
def Hub.cmdUsbWake (h : Hub) (req : Path) (c tag : Nat) (args : Bytes) : Hub :=
  let n := field args 0 1
  let f := field args 1 1
  let x := h.dev (fnKey n f)
  h.issue req c 0x0820 tag args (firstAbort (usbArgs args 2))
    (firstState [(h.inFog, stFoghorn), (decide (x.state = .off ∨ x.state = .disconnected), stLinkDown)])
    (fun h =>
      if !h.usbAsleep (fnKey n f) then h.finish c 0 (u8 0)
      else if h.wakeEnabled n f then h.setDev (fnKey n f) { x with wakePending := true, wakeCommands := x.wakeCommands ++ [c] }
      else (h.setDev (fnKey n f) { x with wakePending := true }).finish c 0 (u8 2))

/-- USB_EP_HALT, code 0x0821. -/
def Hub.cmdUsbEpHalt (h : Hub) (req : Path) (c tag : Nat) (args : Bytes) : Hub :=
  let n := field args 0 1
  let f := field args 1 1
  let a := field args 2 1
  let x := h.dev (fnKey n f)
  h.issue req c 0x0821 tag args
    (firstAbort (usbArgs args 3 ++ [(decide (x.state = .configured) && (h.activeEp n f a).isNone, abArg 6)]))
    (firstState [(h.inFog, stFoghorn), (decide (x.state ≠ .configured), stLinkDown)])
    (fun h => (h.setDev (fnKey n f) { x with halts := x.halts.set 0 a 1 }).finish c 0 [])

/-- USB_RECONNECT, code 0x0822. -/
def Hub.cmdUsbReconnect (h : Hub) (req : Path) (c tag : Nat) (args : Bytes) : Hub :=
  let n := field args 0 1
  let f := field args 1 1
  h.issue req c 0x0822 tag args (firstAbort (usbArgs args 2))
    (firstState [(h.inFog, stFoghorn), (decide (h.val (Od.fnEnable (fnIx n f)) = 0), stLinkDown)])
    (fun h =>
      let h1 := h.fnDisconnect n f
      h1.setDev (fnKey n f) { h1.dev (fnKey n f) with reconnects := (h1.dev (fnKey n f)).reconnects ++ [c] })

/-- 1 s after USB_RECONNECT (R415). -/
def Hub.reconnectTimeout (h : Hub) (n f : Nat) : Hub :=
  let x := h.dev (fnKey n f)
  x.reconnects.foldl (fun h c => h.done c (abFailed 1) []) (h.setDev (fnKey n f) { x with reconnects := [] })

/-! ### Meanings -/

/-- HSIC_CONNECT (R394). -/
def execHsicConnect (n : Fin 2) (s : State) := onHub (fun h => h.hsicJudge n) s
/-- FUNCTION_CONNECT (R395). -/
def execFunctionConnect (n : Fin 2) (f : Fin 4) (s : State) := onHub (fun h => h.fnConnect n f) s
/-- SETUP (R400). -/
def execSetup (n : Fin 2) (k : Fin 5) (setup : BitVec 64) (s : State) := onHub (fun h => h.usbSetup (5 * n + k) (leBytes 8 setup.toNat)) s
/-- SET_ADDRESS (R398). -/
def execSetAddress (n : Fin 2) (k : Fin 5) (s : State) := onHub (fun h => h.setAddress (5 * n + k)) s
/-- SET_CONFIGURATION (R405). -/
def execSetConfiguration (n : Fin 2) (k : Fin 5) (s : State) := onHub (fun h => h.setConfiguration (5 * n + k)) s
/-- SET_INTERFACE (R405). -/
def execSetInterface (n : Fin 2) (k : Fin 5) (s : State) := onHub (fun h => h.setInterface (5 * n + k)) s
/-- GET_DESCRIPTOR (R398). -/
def execGetDescriptor (n : Fin 2) (k : Fin 5) (s : State) := onHub (fun h => h.getDescriptor (5 * n + k)) s
/-- GET_STATUS (R398). -/
def execGetStatus (n : Fin 2) (k : Fin 5) (s : State) := onHub (fun h => h.getStatus (5 * n + k)) s
/-- GET_CONFIGURATION (R398). -/
def execGetConfiguration (n : Fin 2) (k : Fin 5) (s : State) := onHub (fun h => h.getConfiguration (5 * n + k)) s
/-- GET_INTERFACE (R398). -/
def execGetInterface (n : Fin 2) (k : Fin 5) (s : State) := onHub (fun h => h.getInterface (5 * n + k)) s
/-- SET_FEATURE_ENDPOINT_HALT (R406). -/
def execSetFeatureEndpointHalt (n : Fin 2) (k : Fin 5) (s : State) := onHub (fun h => h.setHalt (5 * n + k)) s
/-- CLEAR_FEATURE_ENDPOINT_HALT (R405). -/
def execClearFeatureEndpointHalt (n : Fin 2) (k : Fin 5) (s : State) := onHub (fun h => h.clearHalt (5 * n + k)) s
/-- SET_FEATURE_REMOTE_WAKEUP (R398). -/
def execSetFeatureRemoteWakeup (n : Fin 2) (k : Fin 5) (s : State) := onHub (fun h => h.remoteWakeup (5 * n + k)) s
/-- SET_FEATURE_TEST_MODE (R390). -/
def execSetFeatureTestMode (n : Fin 2) (k : Fin 5) (s : State) := onHub (fun h => h.setTestMode (5 * n + k)) s
/-- SET_FEATURE_PORT_RESET (R393). -/
def execSetFeaturePortReset (n : Fin 2) (s : State) := onHub (fun h => h.portResetReq n) s
/-- PORT_RESET_DONE (R393). -/
def execPortResetDone (n : Fin 2) (f : Fin 4) (s : State) := onHub (fun h => h.portResetDone n f) s
/-- PORT_POWER (R393). -/
def execPortPower (n : Fin 2) (s : State) := onHub (fun h => h.portPowerReq n) s
/-- SET_FEATURE_PORT_SUSPEND (R409). -/
def execSetFeaturePortSuspend (n : Fin 2) (s : State) := onHub (fun h => h.portSuspendReq n) s
/-- CLEAR_FEATURE_PORT_SUSPEND (R409). -/
def execClearFeaturePortSuspend (n : Fin 2) (s : State) := onHub (fun h => h.portResumeReq n) s
/-- TT_REQUEST (R392). -/
def execTtRequest (n : Fin 2) (s : State) := onHub (fun h => h.ttReq n) s
/-- CONTROL_REQUEST (R399). -/
def execControlRequest (n : Fin 2) (k : Fin 5) (data : Bytes) (s : State) := onHub (fun h => h.controlRequest (5 * n + k) data) s
/-- CONTROL_REPLY (R399). -/
def execControlReply (n : Fin 2) (f : Fin 4) (own : Option Bytes) (s : State) := onHub (fun h => h.controlReply n f own) s
/-- CTRL_TIMEOUT (R399). -/
def execCtrlTimeout (n : Fin 2) (f : Fin 4) (s : State) := onHub (fun h => h.ctrlTimeout n f) s
/-- OUT_PACKET (R402). -/
def execOutPacket (n : Fin 2) (f : Fin 4) (ep : Fin 16) (toggle : Bool) (data : Bytes) (s : State) :=
  onHub (fun h => h.outPacket n f ep toggle data) s
/-- PING (R402). -/
def execPing (n : Fin 2) (f : Fin 4) (ep : Fin 16) (s : State) := onHub (fun h => h.usbPing n f ep) s
/-- IN_TOKEN (R403). -/
def execInToken (n : Fin 2) (k : Fin 5) (ep : Fin 16) (acked : Bool) (s : State) := onHub (fun h => h.inToken n k ep acked) s
/-- USB_BUS_RESET (R408). -/
def execUsbBusReset (n : Fin 2) (s : State) := onHub (fun h => h.busReset n) s
/-- USB_SUSPEND (R409). -/
def execUsbSuspend (n : Fin 2) (s : State) := onHub (fun h => h.usbSuspend n) s
/-- HOST_RESUME (R409). -/
def execHostResume (n : Fin 2) (s : State) := onHub (fun h => h.hostResume n) s
/-- RESUME_READY (R409). -/
def execResumeReady (n : Fin 2) (f : Fin 4) (s : State) := onHub (fun h => h.resumeReady n f) s
/-- REMOTE_WAKE (R410). -/
def execRemoteWake (n : Fin 2) (f : Fin 4) (s : State) := onHub (fun h => h.remoteWake n f) s
/-- USB_WAKE as its own row. -/
def execUsbWake (req : Path) (c : Fin 8) (tag : BitVec 16) (args : Bytes) (s : State) := onCommand 0x0820 req c tag.toNat args (fun h => h.cmdUsbWake req c tag.toNat args) s
/-- USB_EP_HALT as its own row. -/
def execUsbEpHalt (req : Path) (c : Fin 8) (tag : BitVec 16) (args : Bytes) (s : State) := onCommand 0x0821 req c tag.toNat args (fun h => h.cmdUsbEpHalt req c tag.toNat args) s
/-- USB_RECONNECT as its own row. -/
def execUsbReconnect (req : Path) (c : Fin 8) (tag : BitVec 16) (args : Bytes) (s : State) :=
  onCommand 0x0822 req c tag.toNat args (fun h => h.cmdUsbReconnect req c tag.toNat args) s
/-- USB_RECONNECT_TIMEOUT (R415). -/
def execUsbReconnectTimeout (n : Fin 2) (f : Fin 4) (s : State) := onHub (fun h => h.reconnectTimeout n f) s

end Sys2Proof.Machine
end

