-- ==== Sys2Proof/Machine/HostBridge.lean ====
section
/-!
DEFINITION. The PCI Express host bridge: windows, AtomicOps, prefetch, the lock of the MEMORY end, host queues (R417 to R441).
MEMORY_READ and MEMORY_WRITE, which reach registers, stand in Machine/Service.lean.
-/

namespace Sys2Proof.Machine

/-! ### Windows (R422, R423) -/

/-- Fields of WIN_MAP, WIN_FAR and WIN_CTRL of window w. -/
def Hub.winBase (h : Hub) (w : Nat) : Nat := bits 13 0 (h.reg (Rg.win w 0))
def Hub.winPages (h : Hub) (w : Nat) : Nat := 2 ^ bits 31 28 (h.reg (Rg.win w 0))
def Hub.winFar (h : Hub) (w : Nat) : Nat := 4096 * bits 31 12 (h.reg (Rg.win w 1))
def Hub.winOn (h : Hub) (w : Nat) : Bool := bit 0 (h.reg (Rg.win w 2))

/-- The enabled window that covers a BAR2 offset. -/
def Hub.winAt (h : Hub) (a : Nat) : Option Nat :=
  (List.range 16).find? (fun w => h.winOn w && decide (h.winBase w ≤ a / 4096) && decide (a / 4096 < h.winBase w + h.winPages w))

/-- The far address of a BAR2 offset in window w. -/
def Hub.winTo (h : Hub) (w a : Nat) : Nat := h.winFar w + (a - 4096 * h.winBase w)

/-- The context in OPEN that binds window w. -/
def Hub.winCtx (h : Hub) (w : Nat) : Option Nat :=
  (h.ctxList.find? (fun c => decide (c.2.state = .open) && !c.2.shadow && decide (c.2.role ≠ .transit) &&
    decide (c.2.localBind = 0x60 * 2 ^ 24 + w))).map (·.1)

/-- WIN_CTRL is written (R422, R423). -/
def Hub.winCtrl (h : Hub) (w v : Nat) : Hub :=
  let was := h.winOn w
  let b := h.winBase w
  let n := h.winPages w
  let ok := decide (b % n = 0) && decide (b + n ≤ 16384) &&
    (List.range 16).all (fun u => decide (u = w) || !h.winOn u || decide (b + n ≤ h.winBase u) || decide (h.winBase u + h.winPages u ≤ b))
  let now := bit 0 v && (was || ok)
  let h1 := h.putReg (Rg.win w 2) (v % 32 / 2 * 2 + b2n now)
  let h2 := if bit 0 v && !now then h1.putReg (Rg.win w 3) 2 else h1
  if was && !now then (h2.loseBindings (fun x => decide (x = 0x60 * 2 ^ 24 + w))).pfEmpty w else h2

/-! ### Pieces (R425, R426) -/

/-- A WINDOW segment (R425). -/
def winSegment (op flags tag far len be status : Nat) (data : Bytes) : Bytes :=
  u8 op ++ u8 flags ++ u16 tag ++ u32 far ++ u16 len ++ u8 be ++ u8 0 ++ u32 status ++ data

/-- Byte enables of one piece: `first` and `last` say whether the request begins or ends with it. -/
def pieceBe (be len : Nat) (first last : Bool) : Nat :=
  let lo := if first then be % 16 else 15
  let hi := if last then be / 16 else 15
  if len = 4 then (if first then lo else if last then hi else 15) else lo + 16 * hi

/-- The pieces of a request from a far address: address, length, byte enables (R426). The first argument bounds their number. -/
def cutPieces (be : Nat) : Nat → Nat → Nat → Bool → List (Nat × Nat × Nat)
  | 0, _, _, _ => []
  | n + 1, far, len, first =>
    if len = 0 then []
    else
      let k := min len (256 - far % 256)
      (far, k, pieceBe (if first ∧ len = 4 then be % 16 else be) k first (decide (k = len))) :: cutPieces be n (far + k) (len - k) false

/-- The pieces of a request of up to 4 KiB. -/
def pieces (far len be : Nat) : List (Nat × Nat × Nat) := cutPieces be 17 far len true

/-- A WINDOW segment goes into the window's tunnel. -/
def Hub.winSend (h : Hub) (w i : Nat) (seg : Bytes) : Hub := (h.offerTo i 0x60 seg false).tally 0x0B04 w 1

/-- A tag of window w. -/
def Hub.winTag (h : Hub) (w : Nat) : Hub × Nat :=
  let x := h.win w
  (h.setWin w { x with nextTag := (x.nextTag + 1) % 65536 }, x.nextTag)

/-- READ pieces of window w sent and not answered. -/
def WinSt.reading (x : WinSt) : Nat :=
  ((x.requests.map (fun r => (r.pieces.filter (fun p => p.sent && p.data.isNone)).length)).sum) + x.outstanding.length + x.ignored.length

/-! ### Completions (R428, R431) -/

/-- A completion with data goes to the host. -/
def Hub.complete (h : Hub) (addr : Nat) (data : Bytes) : Hub := if data = [] then h else h.emit (.pcie 2 addr data)

/-- The rest of a request is completed as ERROR_MODE gives: all ones, or Completer Abort (R428). -/
def Hub.winAbort (h : Hub) (w addr left : Nat) : Hub :=
  if bit 4 (h.reg (Rg.win w 2)) then h.emit (.pcie 4 addr []) else h.emit (.pcie 2 addr (List.replicate left 0xFF))

/-- A window request has failed (R428, R431, R441). -/
def Hub.winFault (h : Hub) (w : Nat) (data : Bytes) : Hub := (h.flag Rg.hbFlags 0).fire Ev.windowFault (u8 w ++ data)

/-- A BAR2 request that no enabled window covers, or that is not supported (R441). -/
def Hub.unmapped (h : Hub) : Hub := (h.bump Od.hostUnmapped 32 1).flag Rg.hbFlags 1

/-- The pieces at the front of a read that have arrived are completed, in address order. -/
def completePieces (h : Hub) : Nat → Nat → List Piece → Hub × Nat × Nat × List Piece
  | addr, left, [] => (h, addr, left, [])
  | addr, left, p :: t => match p.data with
    | some d => completePieces (h.complete addr d) (addr + p.len) (left - p.len) t
    | none => (h, addr, left, p :: t)

/-- A piece of window w not sent yet is sent, where 8 are not outstanding (R428); the first argument bounds the number. -/
def sendPieces (w i : Nat) : Nat → Hub → Hub
  | 0, h => h
  | n + 1, h =>
    let x := h.win w
    if 8 ≤ x.reading then h
    else match x.requests.findSome? (fun r => r.pieces.find? (fun p => !p.sent)) with
      | none => h
      | some p =>
        let mark (l : List Piece) : List Piece := l.map (fun q => if q.tag = p.tag then { q with sent := true } else q)
        let h1 := h.setWin w { x with requests := x.requests.map (fun r => { r with pieces := mark r.pieces }) }
        sendPieces w i n (h1.winSend w i (winSegment 2 0 p.tag p.addr p.len p.be 0 []))

/-- Pieces with tags of window w. -/
def tagPieces (w : Nat) : List (Nat × Nat × Nat) → Hub → Hub × List Piece
  | [], h => (h, [])
  | (a, l, be) :: t, h =>
    let r := h.winTag w
    let q := tagPieces w t r.1
    (q.1, ⟨r.2, a, l, be, false, none⟩ :: q.2)

/-! ### Prefetch (R433) -/

/-- The bytes of a request that the buffer's first pieces hold, and what stays. -/
def takeHeld : Nat → List PfPiece → Bytes × List PfPiece
  | _, [] => ([], [])
  | 0, l => ([], l)
  | n + 1, p :: t =>
    if n + 1 < p.data.length then (p.data.take (n + 1), { p with addr := p.addr + (n + 1), data := p.data.drop (n + 1) } :: t)
    else
      let r := takeHeld (n + 1 - p.data.length) t
      (p.data ++ r.1, r.2)

/-- Prefetch pieces are issued from a far address on, as far as 8 outstanding pieces allow. -/
def sendPrefetch (w i : Nat) : List (Nat × Nat × Nat) → Hub → Hub
  | [], h => h
  | (a, l, _) :: t, h =>
    if 8 ≤ (h.win w).reading then h
    else
      let r := h.winTag w
      let x := r.1.win w
      let h1 := r.1.setWin w { x with outstanding := x.outstanding ++ [⟨r.2, a, l, if l = 4 then 15 else 255, true, none⟩] }
      sendPrefetch w i t (h1.winSend w i (winSegment 2 1 r.2 a l (if l = 4 then 15 else 255) 0 []))

/-- After a read that ends at far address e (R433): what is held or on its way from e on is not fetched again. -/
def Hub.prefetch (h : Hub) (w i e : Nat) : Hub :=
  let c := h.reg (Rg.win w 2)
  let x := h.win w
  let depth := if bits 3 2 c = 0 then 256 else if bits 3 2 c = 1 then 512 else 1024
  let have_ := (x.held.map (fun p => p.data.length)).sum + (x.outstanding.map (·.len)).sum
  if bit 1 c then sendPrefetch w i (pieces (e + have_) (depth - have_) 255) h else h

/-! ### Requests of the host (R426, R428, R431) -/

/-- The window's semaphore is taken (R431). -/
def WinSt.semaphore (x : WinSt) : Bool := x.requests.any (fun r => r.atomic.isSome)

/-- A write to window w waits (R429, R430). -/
def Hub.writeWaits (h : Hub) (w : Nat) : Bool := h.hb.posted.any (fun p => p.bar2 && decide (h.winAt p.addr = some w))

/-- A request of the host to window w is carried out; `none` while it must wait (R429, R430). -/
def Hub.winTry (h : Hub) (w : Nat) (r : HostReq) : Option Hub :=
  match h.winCtx w with
  | none => match r with
    | .write _ _ _ => some (h.bump Od.hostWinDiscard 32 1)
    | .read a _ l => some (h.winAbort w a l)
    | .atomic a _ size _ _ => some (h.winAbort w a size)
  | some i =>
    if (h.win w).semaphore then none
    else match r with
      | .write a be d =>
        let ps := pieces (h.winTo w a) d.length be
        let need := (ps.map (fun p => stageCharge (16 + p.2.1))).sum
        if h.quotaIn 11 < h.sw.stageIn.get 0 11 + need ∨ h.eng.atProducer.any (fun j => decide (j.ingress = 11)) then none
        else
          let h1 := h.pfEmpty w
          some (ps.foldl (fun h p =>
            let t := h.winTag w
            t.1.winSend w i (winSegment 1 0 t.2 p.1 p.2.1 p.2.2 0 ((d.drop (p.1 - h.winTo w a)).take p.2.1))) h1)
      | .read a be l => if h.writeWaits w then none else
        let far := h.winTo w a
        let x := h.win w
        let hit := match x.held with
          | p :: _ => decide (p.addr = far)
          | [] => false
        let h1 := if hit then h else if x.held = [] ∧ x.outstanding = [] then h else h.pfEmpty w
        let got := if hit then takeHeld l x.held else ([], (h1.win w).held)
        let h2 := (h1.setWin w { h1.win w with held := got.2 }).complete a got.1
        let n := got.1.length
        let h3 := if n = l then h2
          else
            let t := tagPieces w (pieces (far + n) (l - n) be) h2
            let y := t.1.win w
            sendPieces w i 8 (t.1.setWin w { y with requests := y.requests ++ [⟨a + n, l - n, none, 0, false, t.2⟩] })
        some (h3.prefetch w i (far + l))
      | .atomic a op size x y => if h.writeWaits w then none else
        let far := h.winTo w a
        let t := (h.pfEmpty w).winTag w
        let u := t.1.winTag w
        let z := u.1.win w
        let p : Piece := ⟨u.2, far, size, if size = 4 then 15 else 255, true, none⟩
        let h1 := u.1.setWin w { z with requests := z.requests ++ [⟨a, size, some (op, x, y), t.2, false, [p]⟩] }
        some ((h1.winSend w i (winSegment 3 0 t.2 far 0 0 0 [])).winSend w i (winSegment 2 0 u.2 far size p.be 0 []))

/-- Requests that wait at window w are carried out in order, as far as they can be. -/
def winPump (w : Nat) : Nat → Hub → Hub
  | 0, h => h
  | n + 1, h => match (h.win w).waiting with
    | [] => h
    | r :: t => match h.winTry w r with
      | some h1 => winPump w n (h1.setWin w { h1.win w with waiting := t })
      | none => h

/-- The waiting requests of window w are looked at. -/
def Hub.winRun (h : Hub) (w : Nat) : Hub := winPump w (h.win w).waiting.length h

/-- A request arrives at window w: behind those that wait, or at once. -/
def Hub.winRequest (h : Hub) (w : Nat) (r : HostReq) : Hub := (h.setWin w { h.win w with waiting := (h.win w).waiting ++ [r] }).winRun w

/-- A posted write joins those that wait (R430). -/
def Hub.postWait (h : Hub) (p : Posted) : Hub := { h with hb := { h.hb with posted := h.hb.posted ++ [p] } }

/-- A write to BAR2 is carried out; `none` while it must wait (R428, R430, R441). -/
def Hub.bar2Try (h : Hub) (a be : Nat) (data : Bytes) : Option Hub :=
  match h.winAt a with
  | none => some h.unmapped
  | some w => h.winTry w (.write a be data)

/-- A host write to BAR2 (R426, R428, R430, R441). -/
def Hub.bar2Write (h : Hub) (a be : Nat) (data : Bytes) (poisoned : Bool) : Hub :=
  let h0 := h.tally 0x0B01 0 1
  if poisoned then (h0.bump Od.hostPoisoned 32 1).flag Rg.hbFlags 3
  else if h.hb.posted ≠ [] then h0.postWait ⟨true, a, be, data⟩
  else (h0.bar2Try a be data).getD (h0.postWait ⟨true, a, be, data⟩)

/-- A host read of BAR2. -/
def Hub.bar2Read (h : Hub) (a be l : Nat) : Hub :=
  let h0 := h.tally 0x0B02 0 1
  match h0.winAt a with
  | none => h0.unmapped.emit (.pcie 3 a [])
  | some w => h0.winRequest w (.read a be l)

/-- An AtomicOp: size 4 or 8 bytes to BAR2; any other is an Unsupported Request (R431, R441). -/
def Hub.atomicOp (h : Hub) (bar2 : Bool) (a op size x y : Nat) : Hub :=
  let h0 := h.tally 0x0B02 0 1
  if !bar2 ∨ (size ≠ 4 ∧ size ≠ 8) then h0.emit (.pcie 3 a [])
  else match h0.winAt a with
    | none => h0.unmapped.emit (.pcie 3 a [])
    | some w => h0.winRequest w (.atomic a op size x y)

/-! ### Answers of the MEMORY end (R428, R431) -/

/-- The request of window w that has a piece of a tag. -/
def WinSt.owner (x : WinSt) (tag : Nat) : Option WinReq := x.requests.find? (fun r => r.pieces.any (fun p => decide (p.tag = tag)))

/-- Replace a request of window w, or remove it. -/
def Hub.updWinReq (h : Hub) (w : Nat) (r : WinReq) (q : Option WinReq) : Hub :=
  let x := h.win w
  h.setWin w { x with requests := x.requests.flatMap (fun y => if y = r then q.toList else [y]) }

/-- A request ends without its data: the rest as ERROR_MODE gives; an AtomicOp sends UNLOCK (R428, R431). -/
def Hub.winFail (h : Hub) (w : Nat) (r : WinReq) (data : Bytes) : Hub :=
  let h1 := h.updWinReq w r none
  let h2 := match r.atomic, h.winCtx w with
    | some _, some i => h1.winSend w i (winSegment 4 0 r.ackTag (h.winTo w r.addr) 0 0 0 [])
    | _, _ => h1
  ((h2.winAbort w r.addr r.left).winFault w data).winRun w

/-- The value an AtomicOp stores; `none` for a CAS whose comparison fails. -/
def atomicValue (op size old x y : Nat) : Option Nat :=
  let m := 2 ^ (8 * size)
  if op = 0 then some ((old + x) % m) else if op = 1 then some (x % m) else if old = y % m then some (x % m) else none

/-- An AtomicOp whose LOCK_ACK and READ_DATA have arrived completes (R431). -/
def Hub.atomicGo (h : Hub) (w : Nat) (r : WinReq) : Hub :=
  match r.atomic, r.pieces.head?.bind (·.data), h.winCtx w with
  | some (op, x, y), some d, some i =>
    if !r.acked then h
    else
      let far := h.winTo w r.addr
      let h1 := h.updWinReq w r none
      let h2 := match atomicValue op r.left (leNat d) x y with
        | some v =>
          let t := h1.winTag w
          t.1.winSend w i (winSegment 1 0 t.2 far r.left (if r.left = 4 then 15 else 255) 0 (leBytes r.left v))
        | none => h1
      ((h2.winSend w i (winSegment 4 0 r.ackTag far 0 0 0 [])).complete r.addr d).winRun w
  | _, _, _ => h

/-- The oldest segment that waits at window w. -/
def Hub.winHead (h : Hub) (w : Nat) : Option OutSeg := (h.outQ 11).find? (fun s => decide (s.bind = 0x60 * 2 ^ 24 + w))

/-- It leaves the completion buffer. -/
def Hub.winTake (h : Hub) (s : OutSeg) : Hub := h.setOutQ 11 ((h.outQ 11).erase s)

/-- A READ_DATA is taken (R428, R431, R433). -/
def Hub.readData (h : Hub) (w : Nat) : Hub :=
  match h.winHead w with
  | none => h
  | some s =>
    let d := s.data
    if field d 0 1 ≠ 0x82 then h
    else
      let h0 := h.winTake s
      let x := h0.win w
      let tag := field d 2 2
      let status := field d 12 4
      let body := (d.drop 16).take (field d 8 2)
      let side := bit 1 (field d 1 1)
      match x.owner tag with
      | some r =>
        if status ≠ 0 then h0.winFail w r (u32 status)
        else
          let q := { r with pieces := r.pieces.map (fun p => if p.tag = tag then { p with data := some body } else p) }
          let h1 := h0.updWinReq w r (some q)
          if r.atomic.isSome then h1.atomicGo w q
          else
            let c := completePieces h1 q.addr q.left q.pieces
            let h2 := c.1.updWinReq w q (if c.2.2.2 = [] then none else some { q with addr := c.2.1, left := c.2.2.1, pieces := c.2.2.2 })
            match h2.winCtx w with
            | some i => sendPieces w i 8 h2
            | none => h2
      | none =>
        let here (l : List Piece) : Option Piece := l.find? (fun p => decide (p.tag = tag))
        let rid (l : List Piece) : List Piece := l.filter (fun p => decide (p.tag ≠ tag))
        match here x.outstanding, here x.ignored with
        | some p, _ =>
          let h1 := h0.setWin w { x with outstanding := rid x.outstanding, held := if status = 0 then x.held ++ [⟨p.addr, body, side⟩] else x.held }
          if status = 0 then h1 else h1.pfDiscard w ⟨p.addr, body, side⟩
        | none, some p => (h0.setWin w { x with ignored := rid x.ignored }).pfDiscard w ⟨p.addr, body, side⟩
        | none, none => h0

/-- A LOCK_ACK is taken (R431). -/
def Hub.lockAck (h : Hub) (w : Nat) : Hub :=
  match h.winHead w with
  | none => h
  | some s =>
    let d := s.data
    if field d 0 1 ≠ 0x83 then h
    else
      let h0 := h.winTake s
      match (h0.win w).requests.find? (fun r => r.atomic.isSome && decide (r.ackTag = field d 2 2)) with
      | none => h0
      | some r =>
        if field d 12 4 ≠ 0 then h0.winFail w r (u32 (field d 12 4))
        else (h0.updWinReq w r (some { r with acked := true })).atomicGo w { r with acked := true }

/-- WIN_READ_LIMIT passes for the oldest read or AtomicOp of window w (R428). -/
def Hub.readExpired (h : Hub) (w : Nat) : Hub :=
  let count (h : Hub) : Hub := (h.bump Od.hostReadExpired 32 1).flag Rg.hbFlags 2
  match (h.win w).requests with
  | r :: _ => (count h).winFail w r []
  | [] =>
    let l := (h.win w).waiting
    let drop (r : HostReq) : Hub := (count h).setWin w { h.win w with waiting := l.erase r }
    match l.head? with
    | some (.read a be n) => ((drop (.read a be n)).winAbort w a n).winFault w []
    | some (.atomic a o z x y) => ((drop (.atomic a o z x y)).winAbort w a z).winFault w []
    | _ => h

/-- PF_AGE has passed since the oldest piece held arrived (R433). -/
def Hub.pfAged (h : Hub) (w : Nat) : Hub := if (h.win w).held = [] then h else h.pfEmpty w

/-! ### The lock of the MEMORY end (R427, R432) -/

/-- The oldest request of context i at the MEMORY end, taken; one that is to be discarded up to its UNLOCK goes (R432). -/
def Hub.memHead (h : Hub) (i : Nat) : Option OutSeg := h.headOf 31 i

/-- AREA of a MEMORY binding (R423). -/
def Hub.areaOf (h : Hub) (i : Nat) : Nat := selector (h.ctx i).localBind / 2 ^ 20

/-- Requests of context i are discarded up to and including its UNLOCK: the one given is. -/
def Hub.memSkip (h : Hub) (i : Nat) (s : OutSeg) : Hub :=
  let h1 := h.dropOut 31 s
  if field s.data 0 1 = 4 then { h1 with hb := { h1.hb with lockSkip := h1.hb.lockSkip.filter (fun j => decide (j ≠ i)) } } else h1

/-- An answer goes back into tunnel i. -/
def Hub.memAnswer (h : Hub) (i op flags tag far len status : Nat) (data : Bytes) : Hub :=
  h.offerTo i 0xA0 (winSegment op flags tag far len 0 status data) false

/-- A LOCK is served (R432), once its answer has room (R248). -/
def Hub.memLock (h : Hub) (i : Nat) : Hub :=
  match h.memHead i with
  | none => h
  | some s =>
    let d := s.data
    if i ∈ h.hb.lockSkip then h.memSkip i s
    else if field d 0 1 ≠ 3 ∨ h.producerWaits i 16 then h
    else if h.areaOf i ≠ 1 then (h.dropOut 31 s).memAnswer i 0x83 0 (field d 2 2) (field d 4 4) 0 abDenied []
    else if h.hb.lockHolder.isSome then h
    else ({ h.dropOut 31 s with hb := { h.hb with lockHolder := some i } }).memAnswer i 0x83 0 (field d 2 2) (field d 4 4) 0 0 []

/-- An UNLOCK is served (R432). -/
def Hub.memUnlock (h : Hub) (i : Nat) : Hub :=
  match h.memHead i with
  | none => h
  | some s =>
    if i ∈ h.hb.lockSkip then h.memSkip i s
    else if field s.data 0 1 ≠ 4 then h
    else
      let h1 := h.dropOut 31 s
      if h1.hb.lockHolder = some i then { h1 with hb := { h1.hb with lockHolder := none } } else h1

/-- LOCK_LIMIT passes without UNLOCK (R432). -/
def Hub.memLockExpired (h : Hub) : Hub :=
  match h.hb.lockHolder with
  | none => h
  | some i =>
    let h1 : Hub := { h with hb := { h.hb with lockHolder := none, lockSkip := i :: h.hb.lockSkip } }
    (h1.bump Od.hostLockExpired 32 1).fire Ev.memLockExpired (u16 (h.handle i))

/-! ### Host queues (R435 to R439) -/

/-- Host queue q. -/
def Hub.hostQ (h : Hub) (q : Nat) : HostQ := h.hb.queues.get HostQ.init q

/-- Replace host queue q. -/
def Hub.setHostQ (h : Hub) (q : Nat) (x : HostQ) : Hub := { h with hb := { h.hb with queues := h.hb.queues.set HostQ.init q x } }

/-- Fields of a queue's registers: control, ring sizes, bases, tails. -/
def Hub.qCtrl (h : Hub) (q : Nat) : Nat := h.reg (Rg.queue q 0x10)
def Hub.qSize (h : Hub) (q : Nat) (rx : Bool) : Nat := 16 * 2 ^ (if rx then bits 15 12 (h.qCtrl q) else bits 11 8 (h.qCtrl q))
def Hub.qBase (h : Hub) (q : Nat) (rx : Bool) : Nat :=
  let o := if rx then 8 else 0
  h.reg (Rg.queue q o) / 64 * 64 + h.reg (Rg.queue q (o + 4)) * 2 ^ 32
def Hub.qTail (h : Hub) (q : Nat) (rx : Bool) : Nat := h.reg (Rg.queue q (if rx then 0x1C else 0x14)) % h.qSize q rx

/-- The queue runs: enabled, no fault, HOST on, Bus Master Enable 1 (R439). -/
def Hub.qRuns (h : Hub) (q : Nat) : Bool := bit 0 (h.qCtrl q) && !(h.hostQ q).fault && h.domOn 11 && h.hb.busMaster

/-- The context in OPEN bound to queue q. -/
def Hub.qCtx (h : Hub) (q : Nat) : Option Nat :=
  (h.ctxList.find? (fun c => decide (c.2.state = .open) && !c.2.shadow && decide (c.2.role ≠ .transit) &&
    decide (c.2.localBind = 0x61 * 2 ^ 24 + q))).map (·.1)

/-- An interrupt of queue q (R438): at most one message per MOD_TIME. -/
def Hub.qIrq (h : Hub) (q : Nat) : Hub :=
  let x := h.hostQ q
  let v := bits 20 16 (h.qCtrl q)
  if x.modTimer then h.setHostQ q { x with irqPending := true }
  else if bits 31 24 (h.qCtrl q) = 0 then h.msix v
  else (h.setHostQ q { x with modTimer := true }).msix v

/-- A descriptor is written back. -/
def Hub.qWriteBack (h : Hub) (q : Nat) (rx : Bool) (d : QDesc) (len flags : Nat) : Hub :=
  let h1 := (h.emit (.pcie 1 (h.qBase q rx + 16 * d.at_) (u64 d.addr ++ u16 len ++ u8 flags ++ u8 0 ++ u32 d.cookie))).tally 0x0B06 q 1
  let x := h1.hostQ q
  let next := (d.at_ + 1) % h.qSize q rx
  let h2 := h1.setHostQ q (if rx then { x with rxHead := next, rx := x.rx.drop 1 } else { x with txHead := next, tx := x.tx.drop 1 })
  if bit (if rx then 2 else 1) (h.qCtrl q) then h2.qIrq q else h2

/-- Descriptors of a ring are read, up to 8 at a time (R437). -/
def Hub.qFetch (h : Hub) (q : Nat) (rx : Bool) : Hub :=
  let x := h.hostQ q
  let at_ := if rx then x.rxRead else x.txRead
  let size := h.qSize q rx
  let n := min 8 (min (size - at_) ((h.qTail q rx + size - at_) % size))
  let idle := (if rx then x.rx else x.tx).isEmpty && x.reading.all (fun r => decide (r.rx ≠ rx))
  if !h.qRuns q ∨ !idle ∨ n = 0 then h
  else
    ((h.setHostQ q { x with reading := x.reading ++ [⟨rx, true, at_, n⟩] }).emit (.pcie 0 (h.qBase q rx + 16 * at_) (u16 (16 * n)))).tally 0x0B05 q 1

/-- The data of the next TX segment is read, or a descriptor out of range is written back (R437). The first argument bounds them. -/
def qTransmit (q : Nat) : Nat → Hub → Hub
  | 0, h => h
  | n + 1, h =>
    let x := h.hostQ q
    match x.tx, h.qCtx q with
    | d :: _, some i =>
      let m := (h.ctx i).maxSeg
      if !h.qRuns q ∨ x.reading.any (fun r => !r.descriptors) then h
      else if d.len = 0 ∨ m < d.len then qTransmit q n ((h.qWriteBack q false d d.len (d.flags % 4 / 2 * 2 + 5)).bump Od.hostTxErrors 32 1)
      else if h.held 11 (h.ctx i).cls ∨ h.directionHeld i ∨ !h.stageRoom 11 m then h
      else
        ((h.setHostQ q { x with reading := x.reading ++ [⟨false, false, d.at_, d.len⟩] }).emit (.pcie 0 d.addr (u16 d.len))).tally 0x0B05 q 1
    | _, _ => h

/-- Segments that wait for queue q go to posted buffers, oldest first (R438). The first argument bounds them. -/
def qReceive (q : Nat) : Nat → Hub → Hub
  | 0, h => h
  | n + 1, h =>
    let x := h.hostQ q
    match x.rx, (h.outQ 11).find? (fun s => decide (s.bind = 0x61 * 2 ^ 24 + q)) with
    | d :: _, some s =>
      if !h.qRuns q then h
      else
        let h0 := h.dropOut 11 s
        if d.len < s.data.length then qReceive q n ((h0.qWriteBack q true d 0 5).bump Od.hostRxTooSmall 32 1)
        else
          let h1 := (h0.emit (.pcie 1 d.addr s.data)).tally 0x0B06 q 1
          qReceive q n (h1.qWriteBack q true d s.data.length (1 + 2 * b2n s.yellow))
    | _, _ => h

/-- Queue q does what it can. -/
def Hub.qRun (h : Hub) (q : Nat) : Hub :=
  qTransmit q 9 (((qReceive q (h.hostQ q).rx.length h).qFetch q true).qFetch q false)

/-- A segment reaches host queue q (R438). -/
def Hub.hostqDeliver (h : Hub) (q : Nat) (s : OutSeg) : Hub := (h.keepOut 11 s).qRun q

/-- Segments that still wait for a binding that is gone are dropped. -/
def Hub.dropBound (h : Hub) (bind : Nat) : Hub := ((h.outQ 11).filter (fun s => decide (s.bind = bind))).foldl (fun h s => h.dropOut 11 s) h

/-- A fault of queue q (R439), with the host address. -/
def Hub.qFault (h : Hub) (q addr : Nat) : Hub :=
  let x := h.hostQ q
  let h1 := h.setHostQ q { x with fault := true, reading := [], tx := [], rx := [], txRead := x.txHead, rxRead := x.rxHead }
  let h2 := (h1.loseBindings (fun b => decide (b = 0x61 * 2 ^ 24 + q))).dropBound (0x61 * 2 ^ 24 + q)
  (h2.flag Rg.hbFlags 5).fire Ev.hostqFault (u8 q ++ u64 addr)

/-- Host address of a DMA read. -/
def Hub.readAddr (h : Hub) (q : Nat) (r : DmaRead) : Nat :=
  if r.descriptors then h.qBase q r.rx + 16 * r.at_
  else match (h.hostQ q).tx with
    | d :: _ => d.addr
    | [] => 0

/-- n descriptors of 16 bytes (R436). -/
def parseDescs (at_ : Nat) : Nat → Bytes → List QDesc
  | 0, _ => []
  | n + 1, b => ⟨at_, field b 0 8, field b 8 2, field b 10 1, field b 12 4⟩ :: parseDescs (at_ + 1) n (b.drop 16)

/-- The oldest DMA read of queue q completes, with data or with an error (R437, R439). -/
def Hub.dmaDone (h : Hub) (q : Nat) (ok : Bool) (data : Bytes) : Hub :=
  let x := h.hostQ q
  match x.reading with
  | [] => h
  | r :: t =>
    let h0 := h.tally 0x0B03 0 1
    if !ok then h0.qFault q (h.readAddr q r)
    else if r.descriptors then
      let l := parseDescs r.at_ r.count data
      let next := (r.at_ + r.count) % h.qSize q r.rx
      (h0.setHostQ q (if r.rx then { x with reading := t, rx := x.rx ++ l, rxRead := next } else { x with reading := t, tx := x.tx ++ l, txRead := next })).qRun q
    else match x.tx with
      | [] => h0.setHostQ q { x with reading := t }
      | d :: _ =>
        let h1 := h0.setHostQ q { x with reading := t }
        let h2 := match h1.qCtx q with
          | some i => h1.offerTo i 0x61 (data.take d.len) (bit 1 d.flags)
          | none => h1
        (h2.qWriteBack q false d d.len (d.flags % 4 / 2 * 2 + 1)).qRun q

/-- The oldest DMA read of queue q has no completion in time (R439). -/
def Hub.dmaTimeout (h : Hub) (q : Nat) : Hub :=
  match (h.hostQ q).reading with
  | [] => h
  | r :: _ => h.qFault q (h.readAddr q r)

/-- TX_TAIL or RX_TAIL of queue q is written (R437, R438): modulo the ring size. -/
def Hub.qTailWrite (h : Hub) (q : Nat) (rx : Bool) (v : Nat) : Hub :=
  (h.putReg (Rg.queue q (if rx then 0x1C else 0x14)) (v % 4096 % h.qSize q rx)).qRun q

/-- Q_CTRL of queue q is written (R435, R439, R443). -/
def Hub.qCtrlWrite (h : Hub) (q v : Nat) : Hub :=
  let was := bit 0 (h.qCtrl q)
  let sizes := if was then bits 15 8 (h.qCtrl q) else bits 15 8 v
  let h1 := h.putReg (Rg.queue q 0x10) (bits 31 24 v * 2 ^ 24 + bits 20 16 v * 2 ^ 16 + sizes * 256 + v % 8)
  if bit 0 v then h1.qRun q
  else
    let x := h1.hostQ q
    let h2 := h1.setHostQ q { x with fault := false, reading := [], tx := [], rx := [], txRead := x.txHead, rxRead := x.rxHead }
    if was then (h2.loseBindings (fun b => decide (b = 0x61 * 2 ^ 24 + q))).dropBound (0x61 * 2 ^ 24 + q) else h2

/-- MOD_TIME of queue q ends (R438). -/
def Hub.modExpired (h : Hub) (q : Nat) : Hub :=
  let x := h.hostQ q
  if x.irqPending then (h.setHostQ q { x with modTimer := decide (bits 31 24 (h.qCtrl q) ≠ 0), irqPending := false }).msix (bits 20 16 (h.qCtrl q))
  else h.setHostQ q { x with modTimer := false }

/-- Vectors that wait and may be signalled now are (R440). -/
def Hub.msixPump (h : Hub) : Hub :=
  (List.range 32).foldl (fun h v =>
    if bit v h.hb.msixPending then ({ h with hb := { h.hb with msixPending := clearBit v h.hb.msixPending } }).msix v else h) h

/-- Bus Master Enable is written: what waited goes on (R439). -/
def Hub.setBme (h : Hub) (on : Bool) : Hub :=
  let h1 : Hub := { h with hb := { h.hb with busMaster := on } }
  if on then (List.range 32).foldl (fun h q => h.qRun q) h1.msixPump else h1

/-! ### Reset and link (R419, R421) -/

/-- A reset of the host bridge (R421); the mailbox loses the outcome of its access and takes its reset values (R52). -/
def Hub.hostReset (h : Hub) : Hub :=
  let h1 := h.loseBindings (fun b => decide (portCode b = 0x60 ∨ portCode b = 0x61))
  let h2 := (h1.outQ 11).foldl (fun h s => if portCode s.bind = 0x61 then h.dropOut 11 s else h.winTake s) h1
  let regs : Tab Nat := ⟨h2.regs.cells.filter (fun c => !(decide (0x1A000 ≤ c.1) && decide (c.1 < 0x1B800)))⟩
  { h2 with
    regs := regs
    hb := { HbSt.init with speed := h2.hb.speed, width := h2.hb.width, lockHolder := h2.hb.lockHolder, lockSkip := h2.hb.lockSkip,
                           memFaultAt := h2.hb.memFaultAt, perstRose := h2.hb.perstRose, maxSpeed := h2.hb.maxSpeed,
                           maxWidth := h2.hb.maxWidth, subsys := h2.hb.subsys }
    ctl := { h2.ctl with
      mailbox := Mailbox.init
      keeperQ := h2.ctl.keeperQ.map (fun a => if a.path = .mailbox then { a with silent := true } else a) } }

/-- What takes effect at an assertion of PCIE_PERST_N, and as the stored configuration is applied, is taken (R418, R442). -/
def Hub.hostLatch (h : Hub) : Hub :=
  { h with hb := { h.hb with maxSpeed := h.val Od.hostMaxSpeed, maxWidth := h.val Od.hostMaxWidth,
                             subsys := (h.val Od.hostSubsysVid, h.val Od.hostSubsysId) } }

/-- PCIE_PERST_N takes a level: low, the bridge is reset (R418, R421, R442). -/
def Hub.perst (h : Hub) (high : Bool) : Hub :=
  if high then { h with hb := { h.hb with perstRose := h.clock } } else h.hostLatch.hostReset

/-! ### The configuration space (R418) -/

/-- The capability list: the capability IDs of Power Management, MSI-X and PCI Express, in that order. -/
def capabilityIds : List Nat := [0x01, 0x11, 0x10]

/-- The extended list: the capability IDs of AER and Device Serial Number. -/
def extendedIds : List Nat := [0x0001, 0x0003]

/-- What a field of the configuration space reads; the Vendor ID is that of chapter 21. -/
def Hub.configValue (h : Hub) : ConfigField → Nat
  | .vendorId => 0x1FA9
  | .deviceId => 0x6400
  | .revision => 0xB0
  | .classCode => 0x0B4000
  | .subsystemVendor => h.hb.subsys.1
  | .subsystem => h.hb.subsys.2
  | .serial => Config.serial
  | .noSoftReset => 0
  | .capability k => capabilityIds.getD k.val 0
  | .extended k => extendedIds.getD k.val 0

/-- Configuration requests are answered with Configuration Request Retry Status: Keeper has not yet applied the stored configuration, and
PCIE_PERST_N has risen less than 1 s ago. -/
def Hub.configRetry (h : Hub) : Bool := decide (h.pwr.bootPhase ≠ .keeper) && decide (h.clock < h.hb.perstRose + 10000000000)

/-- A configuration request reads a field. -/
def Hub.configRead (h : Hub) (f : ConfigField) : Hub :=
  if h.configRetry then h.emit (.pcie 5 0 []) else h.emit (.value (h.configValue f))

/-- The nominal rate of egress 11 in kbit/s (R419). -/
def pcieRate (speed width : Nat) : Nat := if speed = 0 ∨ width = 0 then 0 else 1600000 * 2 ^ (speed - 1) * width

/-- The negotiated speed or width changes (R419), within MAX_SPEED and MAX_WIDTH; loss of the link resets the bridge (R421). -/
def Hub.pcieLink (h : Hub) (speed0 width0 : Nat) : Hub :=
  let speed := min speed0 h.hb.maxSpeed
  let width := min width0 h.hb.maxWidth
  if speed = h.hb.speed ∧ width = h.hb.width then h
  else
    let h1 : Hub := { h with hb := { h.hb with speed := speed, width := if speed = 0 then 0 else width } }
    let h2 := (h1.setNominal 11 (pcieRate speed width)).fire Ev.pcieLinkChange []
    if speed = 0 then h2.hostReset else h2

/-! ### Meanings -/

/-- HOST_BRIDGE_RESET (R421). -/
def execHostBridgeReset (s : State) := onHub Hub.hostReset s
/-- PCIE_LINK_CHANGE (R419). -/
def execPcieLinkChange (speed : Fin 4) (width : Fin 3) (s : State) := onHub (fun h => h.pcieLink speed width) s
/-- BAR2_WRITE (R426). -/
def execBar2Write (addr : BitVec 26) (be : Byte) (data : Bytes) (poisoned : Bool) (s : State) :=
  onHub (fun h => h.bar2Write addr.toNat be.toNat data poisoned) s
/-- BAR2_READ (R428). -/
def execBar2Read (addr : BitVec 26) (be : Byte) (len : BitVec 13) (s : State) := onHub (fun h => h.bar2Read addr.toNat be.toNat len.toNat) s
/-- ATOMIC_OP (R431). -/
def execAtomicOp (bar2 : Bool) (addr : BitVec 26) (op : Fin 3) (size : Fin 17) (operand compare : BitVec 64) (s : State) :=
  onHub (fun h => h.atomicOp bar2 addr.toNat op size operand.toNat compare.toNat) s
/-- READ_DATA (R428). -/
def execReadData (w : Fin 16) (s : State) := onHub (fun h => h.readData w) s
/-- LOCK_ACK (R431). -/
def execLockAck (w : Fin 16) (s : State) := onHub (fun h => h.lockAck w) s
/-- WIN_READ_LIMIT_EXPIRY (R428). -/
def execWinReadLimitExpiry (w : Fin 16) (s : State) := onHub (fun h => h.readExpired w) s
/-- PF_AGE_EXPIRY (R433). -/
def execPfAgeExpiry (w : Fin 16) (s : State) := onHub (fun h => h.pfAged w) s
/-- LOCK (R432). -/
def execLock (i : Byte) (s : State) := onHub (fun h => h.memLock i.toNat) s
/-- UNLOCK (R432). -/
def execUnlock (i : Byte) (s : State) := onHub (fun h => h.memUnlock i.toNat) s
/-- MEM_LOCK_EXPIRED (R432). -/
def execMemLockExpired (s : State) := onHub Hub.memLockExpired s
/-- WINDOW_ENABLE (R422): a write of WIN_CTRL. -/
def execWindowEnable (w : Fin 16) (v : Word) (s : State) := onHub (fun h => h.winCtrl w v.toNat) s
/-- TX_TAIL_WRITE (R437). -/
def execTxTailWrite (q : Fin 32) (v : Word) (s : State) := onHub (fun h => h.qTailWrite q false v.toNat) s
/-- RX_TAIL_WRITE (R438). -/
def execRxTailWrite (q : Fin 32) (v : Word) (s : State) := onHub (fun h => h.qTailWrite q true v.toNat) s
/-- DMA_COMPLETION (R437). -/
def execDmaCompletion (q : Fin 32) (ok : Bool) (data : Bytes) (s : State) := onHub (fun h => h.dmaDone q ok data) s
/-- MOD_TIME_EXPIRY (R438). -/
def execModTimeExpiry (q : Fin 32) (s : State) := onHub (fun h => h.modExpired q) s
/-- COMPLETION_TIMEOUT (R439). -/
def execCompletionTimeout (q : Fin 32) (s : State) := onHub (fun h => h.dmaTimeout q) s

end Sys2Proof.Machine
end

