-- ==== Sys2Proof/Machine/OdFind.lean ====
section
/-!
DEFINITION. Entries by their key: the row of the dictionary that covers a key, and its default (R10, R33, R38).
-/

namespace Sys2Proof.Machine

/-- The indices that an offset spells under strides and counts, largest stride first; none where it falls on no entry. -/
def dimsIndex : List (Nat × Nat) → Nat → Option (List Nat)
  | [], off => if off = 0 then some [] else none
  | (stride, count) :: t, off =>
    let i := min (off / stride) (count - 1)
    (dimsIndex t (off - i * stride)).map (fun l => i :: l)

/-- The indices of a key under a base, strides and counts. -/
def keyIndex (base : Nat) (dims : List (Nat × Nat)) (key : Nat) : Option (List Nat) :=
  if base ≤ key then dimsIndex dims (key - base) else none

/-- The row of the dictionary that covers a key (R38). -/
def odRow? (key : Nat) : Option OdRow := odRows.find? (fun r => (keyIndex r.base r.dims key).isSome)

/-- A family of entries whose default is not 0: first key, strides and counts, and the default for the indices. -/
structure OdDefault where
  base : Nat
  dims : List (Nat × Nat)
  value : Nat → Nat → Nat

/-- Defaults other than 0, part 1. -/
def odDefaults0 : List OdDefault := [
  ⟨0x200003, [], fun _ _ => 255⟩,
  ⟨0x200005, [], fun _ _ => 1500⟩,
  ⟨0x200006, [], fun _ _ => 5000⟩,
  ⟨0x100001, [], fun _ _ => 5524566⟩,
  ⟨0x100002, [], fun _ _ => 25600⟩,
  ⟨0x100003, [], fun _ _ => 176⟩,
  ⟨0x100004, [], fun _ _ => Config.serial⟩,
  ⟨0x101001, [], fun _ _ => 1⟩,
  ⟨0x101003, [], fun _ _ => 1000⟩,
  ⟨0x101004, [], fun _ _ => 1⟩,
  ⟨0x101005, [], fun _ _ => 6⟩,
  ⟨0x101201, [], fun _ _ => 1⟩,
  ⟨0x101202, [], fun _ _ => 100⟩,
  ⟨0x300001, [(256, 3)], fun _ _ => 1⟩,
  ⟨0x300002, [(256, 3)], fun _ _ => 2⟩,
  ⟨0x300003, [(256, 3)], fun _ _ => 400⟩,
  ⟨0x300004, [(256, 3)], fun _ _ => 1⟩,
  ⟨0x300005, [(256, 3)], fun _ _ => 3⟩,
  ⟨0x300007, [(256, 3)], fun _ _ => 10⟩,
  ⟨0x300008, [(256, 3)], fun _ _ => 64⟩,
  ⟨0x300009, [(256, 3)], fun _ _ => 250⟩,
  ⟨0x30000B, [(256, 3)], fun _ _ => 5000⟩,
  ⟨0x30000C, [(256, 3)], fun _ _ => 100⟩,
  ⟨0x30000D, [(256, 3)], fun _ _ => 65⟩,
  ⟨0x30000E, [(256, 3)], fun _ _ => 15⟩,
  ⟨0x30000F, [(256, 3)], fun _ _ => 40⟩,
  ⟨0x302005, [(256, 3)], fun _ _ => 20⟩,
  ⟨0x302006, [(256, 3)], fun _ _ => 4⟩,
  ⟨0x302007, [(256, 3)], fun _ _ => 4⟩,
  ⟨0x302008, [(256, 3)], fun _ _ => 32⟩,
  ⟨0x340023, [], fun _ _ => 1000⟩,
  ⟨0x340024, [], fun _ _ => 100⟩,
  ⟨0x340026, [], fun _ _ => 128⟩,
  ⟨0x340027, [], fun _ _ => 1000⟩,
  ⟨0x340028, [], fun _ _ => 5000⟩,
  ⟨0x380004, [], fun _ _ => 4⟩,
  ⟨0x380101, [], fun _ _ => 2400⟩,
  ⟨0x380201, [], fun _ _ => 325000⟩,
  ⟨0x380202, [], fun _ _ => 16384⟩,
  ⟨0x380203, [], fun _ _ => 65536⟩]

/-- Defaults other than 0, part 2. -/
def odDefaults1 : List OdDefault := [
  ⟨0x382001, [(256, 8), (1, 255)], fun _ _ => 325000⟩,
  ⟨0x382801, [(256, 8), (1, 255)], fun _ _ => 16384⟩,
  ⟨0x383001, [(256, 8), (1, 255)], fun _ _ => 65536⟩,
  ⟨0x384001, [(256, 32), (1, 64)], fun _ b => (if b % 8 = 0 then 256 else 64)⟩,
  ⟨0x240004, [], fun _ _ => 8⟩,
  ⟨0x240006, [], fun _ _ => 16⟩,
  ⟨0x240007, [], fun _ _ => 256⟩,
  ⟨0x240008, [], fun _ _ => 3⟩,
  ⟨0x240009, [], fun _ _ => 16384⟩,
  ⟨0x24000A, [], fun _ _ => 24⟩,
  ⟨0x24000F, [], fun _ _ => 10⟩,
  ⟨0x260001, [], fun _ _ => 2048⟩,
  ⟨0x260002, [], fun _ _ => 4096⟩,
  ⟨0x260003, [], fun _ _ => 2048⟩,
  ⟨0x260006, [], fun _ _ => 100⟩,
  ⟨0x261001, [(256, 3), (1, 8)], fun _ b => (if b = 0 then 256 else 1024)⟩,
  ⟨0x264301, [(256, 29), (1, 8)], fun _ _ => 8192⟩,
  ⟨0x264309, [(256, 29)], fun a _ => (stageQuotaInDefault (a + 3))⟩,
  ⟨0x26430A, [(256, 29)], fun a _ => (stageQuotaOutDefault (a + 3))⟩,
  ⟨0x26430C, [(256, 8)], fun _ _ => 9241421688590303745⟩,
  ⟨0x26430D, [(256, 8)], fun _ _ => 65535⟩,
  ⟨0x267003, [(256, 4)], fun _ _ => 3⟩,
  ⟨0x267004, [(256, 4)], fun _ _ => 268435456⟩,
  ⟨0x267006, [(256, 4)], fun _ _ => 128⟩,
  ⟨0x266001, [], fun _ _ => 1000⟩,
  ⟨0x266002, [], fun _ _ => 100⟩,
  ⟨0x400001, [], fun _ _ => 1000⟩,
  ⟨0x400003, [], fun _ _ => 8⟩,
  ⟨0x401001, [(256, 3)], fun _ _ => 255⟩,
  ⟨0x401002, [(256, 3)], fun _ _ => 255⟩,
  ⟨0x401003, [(256, 3)], fun _ _ => 32⟩,
  ⟨0x401004, [(256, 3)], fun _ _ => 100⟩,
  ⟨0x401005, [(256, 3)], fun _ _ => 200⟩,
  ⟨0x401006, [(256, 3)], fun _ _ => 2⟩,
  ⟨0x401007, [(256, 3)], fun _ _ => 100000⟩,
  ⟨0x402003, [(256, 8)], fun _ _ => 7⟩,
  ⟨0x402004, [(256, 8)], fun _ _ => 2147483648000⟩,
  ⟨0x402005, [(256, 8)], fun _ _ => 16⟩,
  ⟨0x402006, [(256, 8)], fun _ _ => 4096⟩,
  ⟨0x402009, [(256, 8)], fun _ _ => 2⟩]

/-- Defaults other than 0, part 3. -/
def odDefaults2 : List OdDefault := [
  ⟨0x403002, [(256, 3)], fun _ _ => 16⟩,
  ⟨0x403003, [(256, 3)], fun _ _ => 16⟩,
  ⟨0x404002, [], fun _ _ => 1000⟩,
  ⟨0x405006, [], fun _ _ => 500⟩,
  ⟨0x410003, [(256, 24)], fun _ _ => 2⟩,
  ⟨0x410004, [(256, 24)], fun _ _ => 7⟩,
  ⟨0x410005, [(256, 24)], fun _ _ => 9⟩,
  ⟨0x440003, [(256, 8)], fun _ _ => 1⟩,
  ⟨0x440004, [(256, 8)], fun _ _ => 1522⟩,
  ⟨0x440005, [(256, 8)], fun a _ => (Config.macAddr a)⟩,
  ⟨0x442001, [(256, 6)], fun a _ => (if a = 0 then 1 else 0)⟩,
  ⟨0x442002, [(256, 6)], fun _ _ => 250000⟩,
  ⟨0x442003, [(256, 6)], fun _ _ => 875⟩,
  ⟨0x442005, [(256, 6)], fun _ _ => 2000000⟩,
  ⟨0x442006, [(256, 6)], fun _ _ => 750⟩,
  ⟨0x442008, [(256, 6)], fun _ _ => 1⟩,
  ⟨0x442009, [(256, 6)], fun a _ => (if a = 0 then 1 else 0)⟩,
  ⟨0x44200A, [(256, 6)], fun _ _ => 128⟩,
  ⟨0x443001, [], fun _ _ => 9223372036854775808⟩,
  ⟨0x444002, [], fun _ _ => 3⟩,
  ⟨0x444003, [], fun _ _ => 8⟩,
  ⟨0x444004, [], fun _ _ => 1⟩,
  ⟨0x446003, [(256, 6)], fun _ _ => 115200⟩,
  ⟨0x446006, [(256, 6)], fun _ _ => 2⟩,
  ⟨0x448002, [(256, 2)], fun _ _ => 4⟩,
  ⟨0x449802, [], fun _ _ => 64⟩,
  ⟨0x449002, [], fun _ _ => 4⟩,
  ⟨0x449003, [], fun _ _ => 1000⟩,
  ⟨0x449004, [], fun _ _ => 72000⟩,
  ⟨0x449005, [], fun _ _ => 1280⟩,
  ⟨0x449006, [], fun _ _ => 32⟩,
  ⟨0x449007, [], fun _ _ => 80⟩,
  ⟨0x449008, [], fun _ _ => 48⟩,
  ⟨0x449009, [], fun _ _ => 800⟩,
  ⟨0x44900A, [], fun _ _ => 6⟩,
  ⟨0x44900B, [], fun _ _ => 14⟩,
  ⟨0x44900C, [], fun _ _ => 3⟩,
  ⟨0x44900D, [], fun _ _ => 2500⟩,
  ⟨0x44900F, [], fun _ _ => 3⟩,
  ⟨0x449010, [], fun _ _ => 1⟩]

/-- Defaults other than 0, part 4. -/
def odDefaults3 : List OdDefault := [
  ⟨0x449012, [], fun _ _ => 24⟩,
  ⟨0x449013, [], fun _ _ => 16⟩,
  ⟨0x449014, [], fun _ _ => 8⟩,
  ⟨0x44A003, [(256, 2)], fun _ _ => 25600⟩,
  ⟨0x44A004, [(256, 2)], fun _ _ => 256⟩,
  ⟨0x44A007, [(256, 2)], fun _ _ => 4500⟩,
  ⟨0x44A802, [(256, 8)], fun _ _ => 1⟩,
  ⟨0x44C003, [], fun _ _ => 3⟩,
  ⟨0x44C004, [], fun _ _ => 2⟩,
  ⟨0x44C006, [], fun _ _ => 5000⟩,
  ⟨0x44C007, [], fun _ _ => 200⟩,
  ⟨0x220006, [], fun _ _ => 50⟩,
  ⟨0x220007, [], fun _ _ => 4⟩,
  ⟨0x220008, [], fun _ _ => 2⟩,
  ⟨0x220009, [], fun _ _ => 2⟩,
  ⟨0x480002, [], fun _ _ => 1000⟩,
  ⟨0x480003, [], fun _ _ => 1000⟩,
  ⟨0x480004, [], fun _ _ => 3⟩,
  ⟨0x480005, [], fun _ _ => 60⟩,
  ⟨0x480006, [], fun _ _ => 10⟩,
  ⟨0x480008, [], fun _ _ => 20⟩,
  ⟨0x480009, [], fun _ _ => 2⟩,
  ⟨0x48000A, [], fun _ _ => 1⟩,
  ⟨0x48000C, [], fun _ _ => 200⟩,
  ⟨0x48000D, [], fun _ _ => 1⟩,
  ⟨0x48000E, [], fun _ _ => 64000⟩,
  ⟨0x48000F, [], fun _ _ => 6000⟩,
  ⟨0x480010, [], fun _ _ => 500⟩,
  ⟨0x480011, [], fun _ _ => 50⟩,
  ⟨0x480012, [], fun _ _ => 50⟩,
  ⟨0x480013, [], fun _ _ => 200⟩,
  ⟨0x480201, [(2, 16)], fun a _ => (curveIDefault a)⟩,
  ⟨0x480202, [(2, 16)], fun a _ => (curveTDefault a)⟩,
  ⟨0x4C4001, [(256, 8)], fun _ _ => 79764919⟩,
  ⟨0x4C4002, [(256, 8)], fun _ _ => 4294967295⟩,
  ⟨0x4C4003, [(256, 8)], fun _ _ => 32⟩,
  ⟨0x4C4004, [(256, 8)], fun _ _ => 7⟩,
  ⟨0x4C4F01, [], fun _ _ => 313⟩,
  ⟨0x4C5001, [(1, 255)], fun _ _ => 313⟩,
  ⟨0x4C6001, [(256, 16)], fun _ _ => 32⟩]

/-- Defaults other than 0, part 5. -/
def odDefaults4 : List OdDefault := [
  ⟨0x700002, [], fun _ _ => 16⟩,
  ⟨0x701001, [(256, 2), (1, 128)], fun a b => (evtCfgDefault (128 * a + b))⟩,
  ⟨0x280003, [], fun _ _ => 1000⟩,
  ⟨0x280004, [], fun _ _ => 254⟩,
  ⟨0x280005, [], fun _ _ => 10⟩,
  ⟨0x280006, [], fun _ _ => 262143⟩,
  ⟨0x28000B, [], fun _ _ => 100⟩,
  ⟨0x281002, [(256, 18)], fun _ _ => 100⟩,
  ⟨0x283003, [], fun _ _ => 10000⟩]

/-- The default of the first family that covers a key, 0 where none does. -/
def findDefault (key : Nat) : List OdDefault → Nat
  | [] => 0
  | d :: t => match keyIndex d.base d.dims key with
    | some l => d.value (l.getD 0 0) (l.getD 1 0)
    | none => findDefault key t

/-- The entry of a key, with its default. -/
def odEntry (key : Nat) : Entry := ⟨key, findDefault key (odDefaults0 ++ odDefaults1 ++ odDefaults2 ++ odDefaults3 ++ odDefaults4)⟩

end Sys2Proof.Machine
end

