-- ==== Sys2Proof/Machine/Plans.lean ====
section
/-!
DEFINITION. Plan switching, colour-blind windows and the chain's plan blocks (R188 to R210).
-/

namespace Sys2Proof.Machine

/-! ### Counts and links -/

/-- Superframe count a is ahead of b, modulo 2^32 (R202). -/
def sfAhead (a b : Nat) : Bool :=
  let d := gap 32 a b
  decide (0 < d) && decide (d < 2 ^ 31)

/-- n superframes or more have passed at count `now` since count `from_`. -/
def sfPassed (from_ now n : Nat) : Bool :=
  let d := gap 32 now from_
  decide (d < 2 ^ 31) && decide (n ≤ d)

/-- This hub is the upstream end of link p: PLK at the LIGHTHOUSE has the STANDBY at its downstream end (R18, R201). -/
def Hub.upEnd (h : Hub) (p : Nat) : Bool := if p = 2 then decide (h.role = .lighthouse) else !h.facesUp p

/-- Downstream links in RUNNING. -/
def Hub.downLinks (h : Hub) : List Nat := h.runningPorts.filter h.upEnd

/-- The low 48 bits of SERIAL: ORIGIN of this hub (R126, R200). -/
def ownOrigin : Nat := Config.serial % 2 ^ 48

/-- ORIGIN of the root, as this hub's STATUS and ANNOUNCE carry it. -/
def Hub.planOrigin (h : Hub) : Nat := if h.followPort.isNone then ownOrigin else h.plan.rootOrigin

/-- KIND of a PLAN_SWITCH block (R200). -/
abbrev pkStatus : Nat := 0
abbrev pkAnnounce : Nat := 1
abbrev pkAck : Nat := 2
abbrev pkCount : Nat := 3

/-- A PLAN_SWITCH block with the hub's plan state (R200). -/
def Hub.planBlockOf (h : Hub) (kind origin : Nat) : Bytes :=
  match h.plan.pending with
  | some (next, eff, seq) => planBytes kind h.plan.activePlan next 1 0 seq eff origin
  | none => planBytes kind h.plan.activePlan 0 0 0 h.plan.switchSeq 0 origin

/-- A PLAN_SWITCH block goes out by each of some links, STATUS and COUNT on logical lane 0. -/
def Hub.planSend (h : Hub) (block : Bytes) (zero : Bool) : List Nat → Hub
  | [] => h
  | p :: t => Hub.planSend (h.blockOn p (if zero then h.zeroLane p else h.ctrlLane p) block) block zero t

/-- STATUS on every downstream link in RUNNING (R201). -/
def Hub.sendStatus (h : Hub) : Hub := h.planSend (h.planBlockOf pkStatus h.planOrigin) true h.downLinks

/-! ### HUBS and CHAIN_COUNT (R17, R201) -/

/-- The hubs that the downstream links report. -/
def Hub.hubsBelow (h : Hub) : Nat := ((h.downLinks.filter (fun p => decide (p < 2))).map (fun p => h.plan.hubs.get 0 p)).sum

/-- COUNT on every upstream link in RUNNING. -/
def Hub.sendCount (h : Hub) : Hub :=
  if h.isRoot then h else h.planSend (planBytes pkCount 0 0 0 (1 + h.hubsBelow) 0 0 ownOrigin) true (h.runningPorts.filter h.facesUp)

/-- HUBS and CHAIN_COUNT after a change; `before` is the hub before it. -/
def Hub.countJudge (h before : Hub) : Hub :=
  let h1 := { h with links := { h.links with chainCount := if h.isRoot then 1 + b2n (h.running 2) + h.hubsBelow else 1 } }
  if h1.hubsBelow = before.hubsBelow then h1 else h1.sendCount

/-- A COUNT block arrives on port p. -/
def Hub.countBlock (h : Hub) (p hubs : Nat) : Hub :=
  if p < 2 ∧ h.upEnd p ∧ h.running p then
    let h1 := { h with plan := { h.plan with hubs := h.plan.hubs.set 0 p hubs } }
    h1.countJudge h
  else h

/-! ### Arming (R201, R203) -/

/-- Flag and event of a switch found late (R203). -/
def Hub.planLate (h : Hub) : Hub :=
  let h1 : Hub := { h with plan := { h.plan with late := some h.links.sf } }
  (h1.flag Rg.planFlags 1).fire Ev.planLate []

/-- A hub arms a switch; where EFFECTIVE_SF is not ahead of its count, late (R203). -/
def Hub.planArm (h : Hub) (plan eff seq : Nat) : Hub :=
  let h1 : Hub := { h with plan := { h.plan with pending := some (plan, eff, seq), switchSeq := seq, lastArmed := some (seq, eff), late := none } }
  if sfAhead eff h.links.sf then h1 else h1.planLate

/-- The hub arms a switch that it has not armed yet: at once, or behind the one that is armed (R201). -/
def Hub.planQueue (h : Hub) (plan eff seq : Nat) : Hub :=
  if h.plan.pending.isNone then h.planArm plan eff seq
  else { h with plan := { h.plan with armedNext := h.plan.armedNext ++ [(plan, eff, seq)], lastArmed := some (seq, eff) } }

/-- The next switch that waits behind the one that took effect. -/
def Hub.planNext (h : Hub) : Hub :=
  match h.plan.armedNext with
  | (plan, eff, seq) :: t =>
    let last := h.plan.lastArmed
    let h1 := ({ h with plan := { h.plan with armedNext := t } } : Hub).planArm plan eff seq
    { h1 with plan := { h1.plan with lastArmed := last } }
  | [] => h

/-- A switch with this EFFECTIVE_SF and SWITCH_SEQ is armed at the hub. -/
def Hub.isArmed (h : Hub) (eff seq : Nat) : Bool := (h.plan.pending.toList ++ h.plan.armedNext).any (fun w => decide (w.2 = (eff, seq)))

/-- The hub adopts another count; an armed switch that it passes over is late (R203). `old` is the count before. -/
def Hub.planSlip (h : Hub) (old : Nat) : Hub :=
  match h.plan.pending with
  | some (_, eff, _) =>
    if h.plan.late.isNone && sfAhead eff old && sfAhead h.links.sf eff then h.planLate else h
  | none => h

/-- ACK of a switch just armed, to the port that the hub takes plan state from (R201). -/
def Hub.planAck (h : Hub) (plan eff seq : Nat) : Hub :=
  match h.followPort with
  | some p => h.planSend (planBytes pkAck h.plan.activePlan plan 1 0 seq eff ownOrigin) false ([p].filter h.running)
  | none => h

/-- A STATUS or ANNOUNCE block arrives on port p (R201). -/
def Hub.planBlock (h : Hub) (p kind active next pending seq eff origin : Nat) : Hub :=
  if h.followPort ≠ some p then h
  else
    let h1 : Hub := { h with plan := { h.plan with rootOrigin := origin } }
    if pending = 1 then
      let fresh := !h1.isArmed eff seq && decide (h1.plan.lastArmed ≠ some (seq, eff))
      let h2 := if fresh then (h1.planQueue next eff seq).planAck next eff seq else h1
      if kind = pkAnnounce ∧ h2.isArmed eff seq then h2.planSend (planBytes pkAnnounce active next 1 0 seq eff origin) false h2.downLinks else h2
    else if kind = pkStatus ∧ h1.plan.pending.isNone then
      if active ≠ h1.plan.activePlan then (h1.planArm active ((h.links.sf + 1) % 2 ^ 32) seq).planAck active ((h.links.sf + 1) % 2 ^ 32) seq
      else { h1 with plan := { h1.plan with switchSeq := seq } }
    else h1

/-- An ACK block arrives on port p (R201): counted at the root, otherwise forwarded. -/
def Hub.ackBlock (h : Hub) (p : Nat) (active next seq eff origin : Nat) : Hub :=
  if !h.upEnd p then h
  else match h.followPort with
  | some q => h.planSend (planBytes pkAck active next 1 0 seq eff origin) false ([q].filter h.running)
  | none => match h.plan.pending with
    | some (_, e, q) =>
      let o := BitVec.ofNat 48 origin
      if q = seq ∧ sfAhead e h.links.sf ∧ o ∉ h.plan.acks then { h with plan := { h.plan with acks := h.plan.acks ++ [o] } } else h
    | none => h

/-! ### The switch takes effect (R198, R202) -/

/-- A meter takes the sizes of the new plan, filled up to now under the old one (R198). -/
def Hub.switchMeter (h : Hub) (k old i : Nat) (m : Meter) : Meter :=
  let tc := min (h.inForce (Od.planCbsSend old i) * bucketByte) (m.tc + h.inForce (Od.planCirSend old i) * (h.clock - m.last))
  let tp := min (h.inForce (Od.planPbsSend old i) * bucketByte) (m.tp + h.inForce (Od.planPirSend old i) * (h.clock - m.last))
  ⟨min tc (h.val (Od.planCbsSend k i) * bucketByte), min tp (h.val (Od.planPbsSend k i) * bucketByte), h.clock⟩

/-- The demotions of the new plan come into force on one egress: events for each difference (R198). -/
def Hub.switchDemotions (h : Hub) (old new e : Nat) : Hub :=
  let was := h.demotedOn e old
  let now := h.demotedOn e new
  let say (ev bit : Nat) (h : Hub) (i : Nat) : Hub := (h.flag Rg.planFlags bit).fire ev (u16 (h.handle i) ++ u16 e ++ u8 new)
  let h1 := (now.filter (fun i => decide (i ∉ was))).foldl (say Ev.admissionShed 3) h
  (was.filter (fun i => decide (i ∉ now))).foldl (say Ev.admissionRestored 4) h1

/-- The active plan changes at a superframe boundary (R198). -/
def Hub.planEnter (h : Hub) (new : Nat) : Hub :=
  let old := h.plan.activePlan
  let meters := h.plan.meters.cells.map (fun c => (c.1, h.switchMeter new old c.1 c.2))
  let h1 : Hub := { h with plan := { h.plan with activePlan := new, meters := ⟨meters.filter (fun c => decide (c.2 ≠ Meter.init))⟩, deferred := [] } }
  if new = old then h1 else (List.range 32).foldl (fun h e => h.switchDemotions old new e) h1

/-- A pending switch takes effect (R202, R203, R209): at block 0 of EFFECTIVE_SF, or late at the next boundary. -/
def Hub.planSwitched (h : Hub) : Hub :=
  match h.plan.pending with
  | none => h
  | some (new, eff, _) =>
    let due := match h.plan.late with
      | some sf => decide (sf ≠ h.links.sf)
      | none => !sfAhead eff h.links.sf
    if !due then h
    else
      let old := h.plan.activePlan
      let h1 := (h.planEnter new).flag Rg.planFlags 0
      let acks := h.plan.acks.length
      let bench := decide (h.mode.active = .bench)
      let short := !bench && decide (acks < h.links.chainCount - 1)
      let p := h1.plan
      let heard := if h.plan.command.isSome then acks else h.plan.lastAcks
      let h2 : Hub :=
        { h1 with plan := { p with pending := none, late := none, lastSwitchSf := h.links.sf, announceLeft := 0, acks := [], command := none, lastAcks := heard } }
      let h3 := (h2.fire Ev.planSwitched (u8 old ++ u8 new ++ u32 h.links.sf)).planNext
      match h.plan.command with
      | none => h3
      | some c =>
        let h4 := if short then h3.flag Rg.planFlags 2 else h3
        h4.done c (if short then abFailed 1 else 0) (u8 new ++ u32 eff ++ u8 acks)

/-! ### PLAN_SWITCH (R199, R204, R209) -/

/-- The states that refuse PLAN_SWITCH. -/
def Hub.planStates (h : Hub) : Option Nat :=
  firstState [(h.inFog, stFoghorn), (decide (h.mode.active ≠ .lighthouse) && decide (h.mode.active ≠ .bench), stNotRoot),
    (h.swapping, stSwap), (h.plan.pending.isSome, stPlanSwitch)]

/-- PLAN_SWITCH acts: the switch is armed at N + LEAD and announced. -/
def Hub.planStart (h : Hub) (plan lead c : Nat) : Hub :=
  if plan = h.plan.activePlan then h.done c 0 (u8 plan ++ u32 h.links.sf ++ u8 0)
  else
    let eff := (h.links.sf + (if lead = 0 then h.val Od.planPlanLead else lead)) % 2 ^ 32
    let h1 := h.planArm plan eff ((h.plan.switchSeq + 1) % 256)
    let bench := decide (h.mode.active = .bench)
    let h2 : Hub := { h1 with plan := { h1.plan with command := some c, acks := [], announceLeft := if bench then 0 else 2 } }
    if bench then h2 else h2.planSend (h2.planBlockOf pkAnnounce ownOrigin) false h2.downLinks

/-- PLAN_SWITCH, code 0x0400. -/
def Hub.cmdPlanSwitch (h : Hub) (req : Path) (c tag : Nat) (args : Bytes) : Hub :=
  let plan := field args 0 1
  let lead := field args 1 1
  h.issue req c 0x0400 tag args
    (firstAbort [argLen args 2, (decide (7 < plan), abArg 4), (decide (lead = 1 ∨ 64 < lead), abArg 5)]) h.planStates
    (fun h => h.planStart plan lead c)

/-- The next ANNOUNCE copy, 64 block times after the last (R201). -/
def Hub.announceRepeat (h : Hub) : Hub :=
  if h.plan.announceLeft = 0 then h
  else
    let h1 : Hub := { h with plan := { h.plan with announceLeft := h.plan.announceLeft - 1 } }
    h1.planSend (h1.planBlockOf pkAnnounce ownOrigin) false h1.downLinks

/-! ### Colour (R189, R190) -/

/-- Every open STARTUP, SWAP and RETRAIN window ends. -/
def Hub.windowsEnd (h : Hub) : Hub :=
  { h with plan := { h.plan with startup := false, startupFrom := none, swapWindow := none, retrain := ⟨[]⟩ } }

/-- BLIND_REASONS of the windows as they stand (R205). -/
def Hub.blindReasons (h : Hub) : Nat :=
  let p := h.plan
  b2n p.startup + 2 * b2n (decide (h.mode.active = .bench)) + 4 * b2n p.swapWindow.isSome + 8 * b2n p.force + 16 * b2n (decide (p.retrain.cells ≠ []))

/-- RETRAIN_BLIND of the windows as they stand. -/
def Hub.retrainBlind (h : Hub) : Nat :=
  let r := h.plan.retrain
  b2n (decide (r.get 0 0 ≠ 0)) + 2 * b2n (decide (r.get 0 1 ≠ 0)) + 4 * b2n (decide (r.get 0 2 ≠ 0))

/-- The colour changes that a boundary brings into force. -/
def Hub.colourInForce (h : Hub) : Hub := { h with plan := { h.plan with reasonsInForce := h.blindReasons, retrainInForce := h.retrainBlind } }

/-- One METER_COLOUR command acts and ends at the boundary. -/
def Hub.colourCommand (h : Hub) (x : Nat × Nat) : Hub :=
  let h1 : Hub := if x.2 = 2 then h.windowsEnd else { h with plan := { h.plan with force := decide (x.2 = 1) } }
  h1.done x.1 0 []

/-- What a superframe boundary does to colour, deferred entries and reinstated tunnels (R190, R194, R197). -/
def Hub.planBoundary (h : Hub) : Hub :=
  let h1 := h.plan.colourCommands.foldl Hub.colourCommand { h with plan := { h.plan with colourCommands := [] } }
  let h2 : Hub := { h1 with plan := { h1.plan with deferred := [] } }
  h2.colourInForce.restoreRisen

/-- METER_COLOUR, code 0x0401. -/
def Hub.cmdMeterColour (h : Hub) (req : Path) (c tag : Nat) (args : Bytes) : Hub :=
  let a := field args 0 1
  h.issue req c 0x0401 tag args (firstAbort [argLen args 1, (decide (2 < a), abArg 4)])
    (firstState [(decide (h.mode.active = .bench), stBench)])
    (fun h => { h with plan := { h.plan with colourCommands := h.plan.colourCommands ++ [(c, a)] } })

/-- The first superframe boundary after now. -/
def Hub.nextSf (h : Hub) : Nat := (h.links.sf + 1) % 2 ^ 32

/-- A RETRAIN window opens or restarts on port p (R189). -/
def Hub.retrainWindow (h : Hub) (p : Nat) : Hub := { h with plan := { h.plan with retrain := h.plan.retrain.set 0 p (h.nextSf + 1) } }

/-- STARTUP starts to count (R189). -/
def Hub.startupCounts (h : Hub) : Hub := if h.plan.startup then { h with plan := { h.plan with startupFrom := some h.nextSf } } else h

/-- The end of a window at a boundary: 0 STARTUP, 1 SWAP, 2 + p RETRAIN of port p (R189). -/
def Hub.blindEnd (h : Hub) (w : Nat) : Hub :=
  let gone (from_ : Nat) : Bool := sfPassed from_ h.links.sf (h.val Od.planBlindHold)
  let p := h.plan
  if w = 0 then
    match p.startupFrom with
    | some f => if p.startup ∧ gone f then ({ h with plan := { p with startup := false, startupFrom := none } } : Hub).colourInForce else h
    | none => h
  else if w = 1 then
    match p.swapWindow with
    | some f => if gone f then ({ h with plan := { p with swapWindow := none } } : Hub).colourInForce else h
    | none => h
  else
    let f := p.retrain.get 0 (w - 2)
    if f ≠ 0 ∧ gone (f - 1) then ({ h with plan := { p with retrain := p.retrain.set 0 (w - 2) 0 } } : Hub).colourInForce else h

/-! ### Meanings -/

/-- BLIND_WINDOW_END of a window (R189). -/
def execBlindWindowEnd (w : Fin 5) (s : State) := onHub (fun h => h.blindEnd w) s
/-- PLAN_SWITCH as its own row. -/
def execPlanSwitch (req : Path) (c : Fin 8) (tag : BitVec 16) (args : Bytes) (s : State) :=
  onCommand 0x0400 req c tag.toNat args (fun h => h.cmdPlanSwitch req c tag.toNat args) s
/-- METER_COLOUR with ACTION 0 (R209). -/
def execMeterColourClear (req : Path) (c : Fin 8) (tag : BitVec 16) (s : State) :=
  onCommand 0x0401 req c tag.toNat (u8 0) (fun h => h.cmdMeterColour req c tag.toNat (u8 0)) s
/-- METER_COLOUR with ACTION 1. -/
def execMeterColourSet (req : Path) (c : Fin 8) (tag : BitVec 16) (s : State) :=
  onCommand 0x0401 req c tag.toNat (u8 1) (fun h => h.cmdMeterColour req c tag.toNat (u8 1)) s
/-- METER_COLOUR with ACTION 2. -/
def execMeterColourEnd (req : Path) (c : Fin 8) (tag : BitVec 16) (s : State) :=
  onCommand 0x0401 req c tag.toNat (u8 2) (fun h => h.cmdMeterColour req c tag.toNat (u8 2)) s
/-- An ANNOUNCE block (R201). -/
def execAnnounce (rx : BlockRx) (active next : Fin 8) (seq : Byte) (eff : Word) (origin : BitVec 48) (s : State) :=
  onHub (fun h => h.heard rx.port rx.crcOk (fun h => h.planBlock rx.port pkAnnounce active next 1 seq.toNat eff.toNat origin.toNat)) s
/-- ANNOUNCE_REPEAT (R201). -/
def execAnnounceRepeat (s : State) := onHub Hub.announceRepeat s
/-- A STATUS block (R201). -/
def execStatusBlock (rx : BlockRx) (active next : Fin 8) (pending : Bool) (seq : Byte) (eff : Word) (origin : BitVec 48) (s : State) :=
  onHub (fun h => h.heard rx.port rx.crcOk (fun h => h.planBlock rx.port pkStatus active next (b2n pending) seq.toNat eff.toNat origin.toNat)) s
/-- An ACK block (R201). -/
def execAckBlock (rx : BlockRx) (active next : Fin 8) (seq : Byte) (eff : Word) (origin : BitVec 48) (s : State) :=
  onHub (fun h => h.heard rx.port rx.crcOk (fun h => h.ackBlock rx.port active next seq.toNat eff.toNat origin.toNat)) s
/-- A COUNT block (R201). -/
def execCountBlock (rx : BlockRx) (hubs : Fin 16) (s : State) :=
  onHub (fun h => h.heard rx.port rx.crcOk (fun h => h.countBlock rx.port hubs)) s
/-- PLAN_SWITCHED (R202). -/
def execPlanSwitched (s : State) := onHub Hub.planSwitched s

end Sys2Proof.Machine
end

