-- ==== Sys2Proof/Machine/Engine.lean ====
section
/-!
DEFINITION. The commit stage with sealing, the SAFETY path and delivery (R153, R154, R186, R217, R516 to R522), Tender faults
and fences, barriers, and microcode images (R224 to R233, R237, R238).
-/

namespace Sys2Proof.Machine

/-! ### Sealing (R516, R517) -/

/-- The nonce of a sealed segment. -/
def sealNonce (salt counter : Nat) : Bytes := leBytes 4 salt ++ beBytes 8 counter

/-- The additional data of a sealed segment; `toResp` for one toward the responder. -/
def Ctx.sealAad (x : Ctx) (toResp : Bool) (counter : Nat) : Bytes :=
  u16 x.openerHandle ++ u16 x.responderHandle ++ u8 (if toResp then 1 else 2) ++ u64 counter

/-- A segment of context i is sealed: COUNTER of its key advances (R516). -/
def Hub.sealSegment (h : Hub) (i : Nat) (d : Bytes) : Hub × Bytes :=
  let x := h.ctx i
  let k := x.sealKey - 1
  let r := h.pairKey k
  let n := r.txCounter
  let out := u64 n ++ Config.seal (r.txKey ^^^ r.txMask) (sealNonce r.txSalt n) (x.sealAad (decide (x.role = .opener)) n) d
  ((h.setPairKey k { r with txCounter := n + 1 }).tally 0x0E01 (h.handle i) 1, out)

/-- A sealed segment is discarded (R517): after eight in a row the tunnel faults. -/
def Hub.sealFailed (h : Hub) (i : Nat) : Hub :=
  let n := (h.ctx i).sealFails + 1
  let h1 := (h.bump (Od.safSealFails i) 32 1).updCtx i (fun x => { x with sealFails := n })
  if 8 ≤ n then (h1.faultSend i 6).fire Ev.sealFail (u16 (h.handle i)) else h1

/-- A sealed segment is opened (R517), or discarded. -/
def Hub.unsealSegment (h : Hub) (i : Nat) (d : Bytes) : Hub × Option Bytes :=
  let x := h.ctx i
  let r := h.pairKey (x.sealKey - 1)
  let n := field d 0 8
  let above : Bool := match x.sealLast with
    | some l => decide (l < n)
    | none => true
  let plain := Config.unseal (r.rxKey ^^^ r.rxMask) (sealNonce r.rxSalt n) (x.sealAad (decide (x.role ≠ .opener)) n) (d.drop 8)
  match plain with
  | some p => if above then ((h.updCtx i (fun y => { y with sealFails := 0, sealLast := some n })).tally 0x0E02 (h.handle i) 1, some p)
    else (h.sealFailed i, none)
  | none => (h.sealFailed i, none)

/-! ### The SAFETY path (R521, R522) -/

/-- Bytes of the CRC of a profile. -/
def CrcParam.bytes (p : CrcParam) : Nat := (p.width + 7) / 8

/-- Range of the alive counter of a context. -/
def Hub.aliveRange (h : Hub) (i : Nat) : Nat := if bit 7 (h.safetyCfg i) then 256 else 16

/-- The register value a direction's CRC starts from; `running` is TX_RUNNING or RX_RUNNING (R522). -/
def Hub.safetyStart (h : Hub) (i : Nat) (running : Entry) : Nat := if bit 6 (h.safetyCfg i) then h.val running else (h.profile i).start

/-- INSERT at the sender (R521). -/
def Hub.safetyInsert (h : Hub) (i : Nat) (d : Bytes) : Hub × Bytes :=
  if (h.ctx i).kind ≠ 7 ∨ !bit 3 (h.safetyCfg i) then (h, d)
  else
    let p := h.profile i
    let s := h.val (Od.safAliveState i)
    let alive := s % 256 % h.aliveRange i
    let body := d ++ u8 alive
    let v := p.feedAll (h.safetyStart i (Od.safTxRunning i)) body
    let h1 := (h.put (Od.safTxRunning i) v).put (Od.safAliveState i) (s / 256 * 256 + (alive + 1) % h.aliveRange i)
    (h1, body ++ leBytes p.bytes (p.result v))

/-- A SAFETY event: the handle and d (R528). -/
def Hub.safetyEvent (h : Hub) (ev i d : Nat) : Hub := h.fire ev (u16 (h.handle i) ++ u8 d)

/-- ALIVE and the CRC are removed where STRIP is 1. -/
def Hub.safetyStrip (h : Hub) (i : Nat) (d : Bytes) : Bytes :=
  if bit 5 (h.safetyCfg i) then d.take (d.length - (1 + (h.profile i).bytes)) else d

/-- CHECK and STRIP at the receiver (R521, R522): `none` where the message is discarded. -/
def Hub.safetyCheck (h : Hub) (i : Nat) (d : Bytes) : Hub × Option Bytes :=
  if (h.ctx i).kind ≠ 7 then (h, some d)
  else if !bit 4 (h.safetyCfg i) then (h, some (h.safetyStrip i d))
  else
    let p := h.profile i
    let n := p.bytes
    let hd := h.handle i
    let m := h.aliveRange i
    let s := h.val (Od.safAliveState i)
    let last := s / 256 % 256
    let body := d.take (d.length - n)
    let alive := field body (body.length - 1) 1 % m
    let diff := (alive + m - last % m) % m
    let v := p.feedAll (h.safetyStart i (Od.safRxRunning i)) body
    if d.length < 1 + n ∨ leNat (d.drop (d.length - n)) ≠ p.result v then
      ((((h.bump (Od.safCrcFails i) 32 1).tally 0x0E05 hd 1).safetyEvent Ev.safetyCrc i diff), none)
    else
      let h1 := h.put (Od.safRxRunning i) v
      let took (h : Hub) : Hub := (h.put (Od.safAliveState i) (s % 256 + 256 * alive)).updCtx i (fun x => { x with aliveFresh := false })
      match aliveCheck m (bits 15 8 (h.safetyCfg i)) last alive (h.ctx i).aliveFresh with
      | .accepted lost =>
        let h2 := ((took h1).bump (Od.safAliveLost i) 32 lost).tally 0x0E04 hd 1
        (if 0 < lost then h2.safetyEvent Ev.safetyAlive i diff else h2, some (h.safetyStrip i d))
      | .repeated => (((h1.bump (Od.safAliveRepeats i) 32 1).tally 0x0E06 hd 1).safetyEvent Ev.safetyAlive i diff, none)
      | .jumped => ((((took h1).bump (Od.safAliveJumps i) 32 1).tally 0x0E07 hd 1).safetyEvent Ev.safetyAlive i diff, none)

/-! ### Delivery to a binding -/

/-- The segment is handed to the port of its binding. -/
def Hub.portDeliver (h : Hub) (e : Nat) (s : OutSeg) : Hub :=
  let c := portCode s.bind
  if isEth c then h.ethDeliver (c - 0x10) s
  else if isCan c then h.canDeliver (c - 0x20) s.ctx s.data
  else if isDsi c then h.dsiDeliver s.bind s.data
  else if isHsic c then h.usbDeliver (c - 0x50) s
  else if c = 0x60 then h.pushOut e s
  else if c = 0x61 then h.hostqDeliver (selector s.bind) s
  else if c = 0x90 then h
  else h.keepOut e s

/-- A segment of context i is delivered to its local binding (R217). A staging word that an injection damages is read by the
port at once (R263): beyond correction the segment is discarded, and the tunnel faults. -/
def Hub.deliver (h : Hub) (i : Nat) (d : Bytes) (yellow : Bool) : Hub :=
  let x := h.ctx i
  let e := h.bindEgress i
  let n : OutSeg := ⟨i, x.cls, x.localBind, yellow, d⟩
  let inj := if e = 12 then (h, 0) else h.takeInject 2
  if 2 < inj.2 then
    let a := inj.1.wordAddr 2
    (((a.1.freeDamaged 2 a.2 inj.2).eccBad 3 2 a.2).segDiscard i).faultSend i 6
  else
    let h0 := if inj.2 = 0 then inj.1 else inj.1.eccCorrected 2
    let h1 := h0.updCtx i (fun y => { y with segRx := trunc 64 (y.segRx + 1), bytesRx := trunc 64 (y.bytesRx + d.length) })
    let h2 := ((h1.mirrorSegment 5 (h.handle i) d yellow).mirrorSegment 1 e d yellow).emit (.deliver x.localBind d)
    h2.portDeliver e n

/-! ### Decapsulation commit (R153, R154, R217) -/

/-- The largest segment the context accepts on the link. -/
def Ctx.rxLimit (x : Ctx) : Nat := max x.maxSeg x.maxSegOld + (if x.isSealed then 24 else 0)

/-- The sequence check of R154 on a TSEQ received in its turn: the hub, and whether it is another one than was expected. -/
def Hub.seqCheck (h : Hub) (i tseq : Nat) : Hub × Bool :=
  let x := h.ctx i
  let h1 := h.updCtx i (fun y => { y with rxTseq := (tseq + 1) % 4096 })
  if tseq = x.rxTseq then (h1, false)
  else ((h1.updCtx i (fun y => { y with tseqFaults := trunc 32 (y.tseqFaults + 1) })).tunEvent Ev.tunnelSeqFault i x.state, true)

/-- One cell of a job (R153, R154): the hub, and the segment as far as it is rebuilt. A sequence fault within the segment discards it, and
each later cell then stands without a segment. -/
def Hub.takeCell (i : Nat) (r : Hub × Option Bytes) (b : BufCell) : Hub × Option Bytes :=
  let c := b.cell
  let s := r.1.seqCheck i c.tseq
  let h := if s.2 && r.2.isSome then s.1.segDiscard i else s.1
  if c.sos then (h, some (c.payload.take c.len))
  else match if s.2 then none else r.2 with
    | some d => (h, some (d ++ c.payload.take c.len))
    | none => (h.segDiscard i, none)

/-- R154 in the order of arrival: the cells discarded at gathering, then those of the job, and the segment they give. -/
def Hub.takeCells (h : Hub) (i : Nat) (skipped : List Nat) (cells : List BufCell) : Hub × Option Bytes :=
  cells.foldl (Hub.takeCell i) (skipped.foldl (fun h t => (h.seqCheck i t).1) h, none)

/-- Decapsulation: the checks of the sequence, of the seal and of the SAFETY path, then delivery. A message of a SYSTEM tunnel is counted
here; what it does is its own row. -/
def Hub.commitDecap (h : Hub) (i : Nat) (j : Job) : Hub :=
  match h.takeCells i j.skipped j.cells with
  | (h1, none) => h1
  | (h1, some s) =>
    if 256 ≤ i then
      (h1.updCtx i (fun y => { y with segRx := trunc 64 (y.segRx + 1), bytesRx := trunc 64 (y.bytesRx + s.length) }))
    else
    let opened : Hub × Option Bytes := if (h1.ctx i).isSealed then h1.unsealSegment i s else (h1, some s)
    match opened with
    | (h2, none) => h2
    | (h2, some d) => match h2.safetyCheck i d with
      | (h3, none) => h3
      | (h3, some out) => h3.deliver i out j.seg.yellow

/-! ### Encapsulation commit (R152, R185, R217) -/

/-- The cells of a segment, the first at a TSEQ (R110, R152). The first argument bounds their number. -/
def cutCells (x : Ctx) (yellow : Bool) : Nat → Nat → Bool → Bytes → List Cell
  | 0, _, _, _ => []
  | n + 1, tseq, first, d =>
    let fin := decide (d.length ≤ 28)
    { index := x.indexA, ctype := if x.isSealed then 2 else 1, tseq := tseq % 4096, len := min 28 d.length, sos := first, eos := fin, yellow := yellow,
      payload := d.take 28 } :: (if fin then [] else cutCells x yellow n (tseq + 1) false (d.drop 28))

/-- Logical lane 1 of a link wakes once the queued cells exceed WIDEN_THRESHOLD (R130). -/
def Hub.widen (h : Hub) (e : Nat) : Hub :=
  if e < 3 ∧ h.val (Od.linkWidenThreshold e) < (h.egress e).queue.length then
    ((h.lanesIn e).filter (fun n => decide (h.laneLogical n = 1))).foldl (fun h n => h.wakeLane n) h
  else h

/-- A cell is written into the switch buffer, charged to an account, with its descriptor; an armed injection damages either (R242, R244,
R271). -/
def Hub.writeCell (h : Hub) (i cls : Nat) (account : Option Nat) (c : Cell) : Hub × BufCell :=
  let a := h.takeInject 0
  let b := a.1.takeInject 4
  (b.1, ⟨i, cls, account, c, a.2, b.2⟩)

/-! ### A request for a domain that fails (R552 to R554) -/

/-- STATE of R575. -/
def DomState.code : DomState → Nat
  | .on => 0 | .retention => 1 | .off => 2 | .transition => 3

/-- Result data of DOMAIN_SET (R578). -/
def Hub.domResult (h : Hub) (d : Nat) : Bytes := u8 (h.domain d).state.code ++ u8 (h.domain d).lastRefusal

/-- A request for domain d has failed (R552 to R554): 1 a block refused, 2 DELAY_LIMIT, 3 a wake or traffic. -/
def Hub.domStays (h : Hub) (d why : Nat) : Hub :=
  let h1 := h.setDomain d { h.domain d with target := none, force := false, command := none, lastRefusal := why }
  (h1.flag Rg.pwrFlags 2).fire Ev.domainRefused (u8 d ++ u8 why)

/-- Traffic for link p ends a request for its domain that is in its handshake (R554). -/
def Hub.linkTraffic (h : Hub) (p : Nat) : Hub :=
  let x := h.domain (p + 7)
  if p < 3 ∧ x.target.isSome then
    let h1 := h.domStays (p + 7) 3
    h1.doneOpt x.command (abFailed 3) (h1.domResult (p + 7))
  else h

/-- A buffered cell joins an egress queue. -/
def Hub.queueCell (h : Hub) (e : Nat) (b : BufCell) : Hub :=
  let x := h.egress e
  ((h.setEgress e { x with queue := x.queue ++ [b] }).widen e).linkTraffic e

/-- A segment metered green or yellow is cut and queued on its link (R217): the words charged at dispatch are those of its cells. -/
def Hub.commitEncap (h : Hub) (i : Nat) (j : Job) (yellow : Bool) : Hub :=
  let ins := h.safetyInsert i j.seg.data
  let sealed : Hub × Bytes := if (ins.1.ctx i).isSealed then ins.1.sealSegment i ins.2 else ins
  let x := h.ctx i
  let cells := cutCells x yellow (sealed.2.length + 1) j.tseq true sealed.2
  let h1 := (sealed.1.tally (if yellow then 0x0302 else 0x0301) (h.handle i) 1).mirrorSegment 4 (h.handle i) sealed.2 yellow
  cells.foldl (fun h c =>
    let w := h.writeCell i x.cls (some (encapAccount j.ingress j.cls)) c
    w.1.queueCell x.portA w.2) h1

/-! ### The commit stage -/

/-- The job of a direction in a state with the next ticket, and its Tender. -/
def Hub.nextTicket (h : Hub) (i : Nat) (encap : Bool) (st : JobState) : Option (Nat × Job) :=
  let k := h.eng.commit.get 0 (dirKey i encap)
  (List.range 32).findSome? (fun t => ((h.tender t).jobs.find? (fun j =>
    decide (j.ctx = i) && decide (j.encap = encap) && decide (j.state = st) && !j.poisoned && decide (j.ticket = k))).map (fun j => (t, j)))

/-- The slot of a job is freed, and COMMIT advances (R217). -/
def Hub.freeTicket (h : Hub) (t : Nat) (j : Job) : Hub :=
  let x := h.tender t
  let k := dirKey j.ctx j.encap
  let h1 := h.setTender t { x with jobs := x.jobs.erase j }
  { h1 with eng := { h1.eng with commit := h1.eng.commit.set 0 k (trunc 16 (h1.eng.commit.get 0 k + 1)) } }

/-- What may follow a commit: a drain, a class change. -/
def Hub.afterCommit (h : Hub) (i : Nat) : Hub := (h.drainProgress i).settleClass i

/-- The meter has decided for a job in turn: red holds it, otherwise it is queued and its slot freed. -/
def Hub.commitMetered (h : Hub) (t : Nat) (j : Job) : Hub :=
  let i := j.ctx
  let m := h.meterSegment i (h.wireLen i j.seg.data.length) j.seg.yellow
  match m.2 with
  | .red =>
    if j.state = .held then m.1
    else
      let x := m.1.tender t
      (m.1.setTender t { x with jobs := x.jobs.map (fun k => if k = j then { k with state := .held } else k) }).tally 0x0303 (h.handle i) 1
  | c => ((((m.1.freeTicket t j).freeJob j true).barrierOff j).commitEncap i j (decide (c = .yellow))).afterCommit i

/-- JOB_COMMIT of a direction (R217, R227). -/
def Hub.jobCommit (h : Hub) (i : Nat) (encap : Bool) : Hub :=
  match h.nextTicket i encap .done with
  | none => h
  | some (t, j) =>
    if j.handle ≠ h.handle i ∨ (h.ctx i).state = .free then (h.freeTicket t j).discardJob j
    else if encap then h.commitMetered t j
    else ((((h.freeTicket t j).freeJob j false).barrierOff j).commitDecap i j).afterCommit i

/-- Tp of a held segment has filled to its charge, and the meter decides again (R186). CLOCK is then at least at that instant. -/
def Hub.meterRelease (h : Hub) (i : Nat) : Hub :=
  match h.nextTicket i true .held with
  | none => h
  | some (t, j) =>
    let pir := h.inForce (Od.planPirSend h.plan.activePlan i)
    let m := h.meter i
    let need := Sys2Proof.Machine.charge (h.wireLen i j.seg.data.length) * bucketByte - m.tp
    if pir = 0 then h
    else ({ h with clock := max h.clock (m.last + (need + pir - 1) / pir) } : Hub).commitMetered t j

/-! ### Fences (R223 to R225) -/

/-- Returned jobs in ticket order, counted from COMMIT of their direction (R224). -/
def insertTicket (key : Job → Nat) (j : Job) : List Job → List Job
  | [] => [j]
  | k :: t => if key j < key k then j :: k :: t else k :: insertTicket key j t

/-- A job's place in the order of its direction. -/
def Hub.ticketOrder (h : Hub) (j : Job) : Nat := gap 16 j.ticket (h.eng.commit.get 0 (dirKey j.ctx j.encap))

/-- One returned job leaves fenced Tender t for its direction's home or the pinned Tender; without room it stays (R224). -/
def Hub.redispatch (h : Hub) (t : Nat) (j : Job) : Hub :=
  match h.targetOf j with
  | none => h
  | some u =>
    let x := h.tender t
    (h.setTender t { x with jobs := x.jobs.erase j }).enqueueJob u j

/-- Every returned job of fenced Tender t is dispatched in ticket order. -/
def Hub.redispatchAll (h : Hub) (t : Nat) : Hub :=
  (((h.tender t).jobs.filter (fun j => decide (j.state = .pending))).foldr (insertTicket h.ticketOrder) []).foldl
    (fun h j => h.redispatch t j) h

/-- A returned job of a direction that found no room at the fence: its Tender and the job. -/
def Hub.returned (h : Hub) (i : Nat) (encap : Bool) : Option (Nat × Job) :=
  ((List.range 32).filter (fun t => (h.tender t).fenced)).findSome? (fun t =>
    (((h.tender t).jobs.filter (fun j => decide (j.state = .pending) && decide (j.ctx = i) && decide (j.encap = encap))).foldr
      (insertTicket h.ticketOrder) []).head?.map (fun j => (t, j)))

/-- PIN_A and PIN_B are named afresh where one is fenced (R223). -/
def Hub.movePins (h : Hub) : Hub :=
  let a := h.eng.pinA
  let b := h.eng.pinB
  let now : Nat × Nat := match (h.tender a).fenced, (h.tender b).fenced with
    | false, false => (a, b)
    | false, true => (a, a)
    | true, false => (b, b)
    | true, true => match h.serviceList with
      | [] => (a, b)
      | t :: rest => (t, (rest.find? (fun u => decide (u / 8 ≠ t / 8))).getD (rest.headD t))
  if now = (a, b) then h
  else
    let h1 : Hub := { h with eng := { h.eng with pinA := now.1, pinB := now.2 } }
    let h2 := (h1.flag Rg.engFlags 1).fire Ev.pinMoved (u8 now.1 ++ u8 now.2)
    if h.eng.exclusive then (h2.rehome now.1).rehome now.2 else h2

/-- A job that cannot be processed is discarded, and its tunnel faults (R225). -/
def Hub.poison (h : Hub) (t : Nat) (j : Job) : Hub :=
  let x := h.tender t
  let k := dirKey j.ctx j.encap
  let h1 := (h.setTender t { x with jobs := x.jobs.erase j }).discardJob j
  let h2 : Hub := { h1 with eng := { h1.eng with commit := if h.eng.commit.get 0 k = j.ticket then h1.eng.commit.set 0 k (trunc 16 (j.ticket + 1)) else h1.eng.commit } }
  ((h2.faultSend j.ctx 6).flag Rg.engFlags 3).fire Ev.jobPoison (u16 j.handle)

/-- A Tender is fenced (R224, R225); a job whose tunnel has gone ends with it (R227). -/
def Hub.fence (h : Hub) (t cause : Nat) : Hub :=
  let x := h.tender t
  if x.fenced then h
  else
    let run := x.jobs.find? (fun j => decide (j.state = .running))
    let hd := match run with
      | some j => j.handle
      | none => 0
    let back (j : Job) : Job := if j.state = .held then j
      else { j with state := .pending, fences := j.fences + b2n (decide (j.state = .running) && decide (cause ≤ 4)) }
    let stay := x.jobs.filter (fun j => !j.poisoned)
    let n := (stay.filter (fun j => decide (j.state ≠ .held))).length
    let h1 := (x.jobs.filter (·.poisoned)).foldl Hub.discardJob
      (h.setTender t { x with jobs := stay.map back, fenced := true, fenceCause := cause, fenceHandle := hd })
    let h2 := ((h1.tally 0x0403 t n).tally 0x0403 0xFFFF n).flag Rg.engFlags 0
    let h3 := ((h2.fire Ev.tenderFenced (u8 t ++ u8 cause ++ u16 hd)).movePins).rehome t
    let h4 := match run with
      | some j => if !j.poisoned ∧ (cause = 4 ∨ (cause ≤ 4 ∧ 1 ≤ j.fences)) then h3.poison t (back j) else h3
      | none => h3
    (h4.redispatchAll t).judgeShort

/-- The running job of a Tender reads its segment in staging: a damaged word is corrected, or fences the Tender (R263). -/
def Hub.readStaging (h : Hub) (t : Nat) : Hub :=
  let x := h.tender t
  match x.jobs.find? (fun j => decide (j.state = .running) && decide (j.damage ≠ 0)) with
  | none => h
  | some j =>
    let h1 := h.setTender t { x with jobs := x.jobs.map (fun k => if k = j then { k with damage := 0 } else k) }
    if j.damage ≤ 2 then h1.eccCorrected 2
    else
      let a := h1.wordAddr 2
      ((a.1.freeDamaged 2 a.2 j.damage).eccBad 2 2 a.2).fence t 4

/-- JOB_START of a Tender (R215). -/
def Hub.jobStart (h : Hub) (t : Nat) : Hub := (h.startJob t).readStaging t

/-- STEAL of a Tender (R218): it runs the job that it takes. -/
def Hub.stealRun (h : Hub) (t : Nat) (remote : Bool) : Hub := (h.steal t remote).readStaging t

/-- A fault of a running Tender: only one in service can have it. -/
def Hub.tenderFault (h : Hub) (t cause : Nat) : Hub := if h.inService t then h.fence t cause else h

/-! ### TENDER_FENCE (R237, R238) -/

/-- U8 Tenders in service. -/
def Hub.serviceData (h : Hub) : Bytes := u8 h.serviceList.length

/-- TENDER_FENCE, code 0x0500. -/
def Hub.cmdTenderFence (h : Hub) (req : Path) (c tag : Nat) (args : Bytes) : Hub :=
  let t := field args 0 1
  h.issue req c 0x0500 tag args
    (firstAbort [argLen args 1, (decide (31 < t) || (h.inService t && decide (h.serviceList.length ≤ 2)), abArg 4)])
    (firstState [(h.inFog, stFoghorn)])
    (fun h =>
      let h1 := h.fence t 5
      h1.finish c 0 h1.serviceData)

/-- Directions without a home get one, once a Tender can be one (R216). -/
def Hub.homeless (h : Hub) : Hub :=
  (h.ctxList.filter (fun x => x.2.busy && decide (x.2.role ≠ .transit))).foldl (fun h x =>
    [2 * x.1, 2 * x.1 + 1].foldl (fun h k => if h.eng.home.get 0 k = 0 then h.giveHome k 32 else h) h) h

/-- The microcode store of a cluster (R211). -/
def Hub.store (h : Hub) (k : Nat) : Store := h.eng.stores.get Store.init k

/-- An image is loaded into the store of a cluster from word 0 (R230); no image clears it. -/
def Hub.loadStore (h : Hub) (k : Nat) (m : Option Image) : Hub :=
  let v : Store := match m with
    | some i => ⟨i.body, i.measure⟩
    | none => Store.init
  { h with eng := { h.eng with stores := h.eng.stores.set Store.init k v } }

/-! ### Barriers and the engine fence (R228, R229, R238) -/

/-- n cycles of the core clock in units of 0.1 ns, rounded up (R212). -/
def Hub.cycles (h : Hub) (n : Nat) : Nat := if h.pwr.slow then 25 * n else (25 * n + 1) / 2

/-- Whole core cycles in a span of CLOCK. -/
def Hub.cyclesIn (h : Hub) (u : Nat) : Nat := if h.pwr.slow then u / 25 else 2 * u / 25

/-- ENGINE_BARRIER, code 0x0502. -/
def Hub.cmdEngineBarrier (h : Hub) (req : Path) (c tag : Nat) (args : Bytes) : Hub :=
  h.issue req c 0x0502 tag args (firstAbort [argLen args 0])
    (firstState [(h.inFog, stFoghorn), (h.eng.keepUses.any (fun u => decide (u ≠ .fence) && decide (u ≠ .reload)), stChannelBusy)])
    (fun h => h.keepUse (.command c))

/-- ARM of ENG_BARRIER (R228, R236); DONE stays until it is cleared by a 1. -/
def Hub.armBarrier (h : Hub) : Hub :=
  if h.eng.regBarrier.isSome then h else { h with eng := { h.eng with regBarrier := some h.newBarrier } }

/-- ENGINE_FENCE with ACTION 1. -/
def Hub.fenceRaise (h : Hub) (c : Nat) : Hub :=
  if h.eng.fenceRaised ∨ h.eng.reloading.isSome then h.finish c 0 []
  else ({ h with eng := { h.eng with fenceRaised := true, fenceTimer := false, fenceCommand := some c } } : Hub).keepUse .fence

/-- The engine fence is lifted; a command that still raises it ends with a status. -/
def Hub.fenceDown (h : Hub) (status : Nat) : Hub :=
  let h1 : Hub := { h with eng := { h.eng with fenceRaised := false, fenceTimer := false, fenceCommand := none } }
  (h1.keepDrop (fun u => decide (u ≠ .fence))).doneOpt h.eng.fenceCommand status []

/-- ENGINE_FENCE, code 0x0504. -/
def Hub.cmdEngineFence (h : Hub) (req : Path) (c tag : Nat) (args : Bytes) : Hub :=
  let a := field args 0 1
  h.issue req c 0x0504 tag args (firstAbort [argLen args 1, (decide (1 < a), abArg 4)]) (firstState [(h.inFog, stFoghorn)])
    (fun h => if a = 1 then h.fenceRaise c else (if h.eng.fenceRaised then h.fenceDown abCancelled else h).finish c 0 [])

/-- ENGINE_FENCE_LIMIT expires (R229). -/
def Hub.fenceExpired (h : Hub) : Hub :=
  if h.eng.fenceRaised ∧ h.eng.fenceTimer then ((h.fenceDown 0).flag Rg.engFlags 4).fire Ev.fenceExpired [] else h

/-! ### Microcode (R230 to R232, R238) -/

/-- n bytes of the QSPI flash. -/
def Hub.flashBytes (h : Hub) (off : Nat) : Nat → Bytes
  | 0 => []
  | n + 1 => BitVec.ofNat 8 (h.pwr.flash.get 0xFF off) :: Hub.flashBytes h (off + 1) n

/-- The number of 1s among the low n bits: a thermometer field (R502). -/
def ones : Nat → Nat → Nat
  | 0, _ => 0
  | n + 1, v => v % 2 + ones n (v / 2)

/-- R231: the image, or the detail of the first check that fails. -/
def Hub.imageCheck (h : Hub) (off : Nat) : Hub × Except Nat Image :=
  let head := h.flashBytes off 64
  let len := field head 8 4
  let ver := field head 4 4
  if head.take 4 ≠ ascii "TMC1" ∨ len < 4 ∨ 65536 < len ∨ len % 4 ≠ 0 then (h, .error 3)
  else
    let image := h.flashBytes off (64 + len)
    let hash := Config.sha256 (image.drop 64)
    let inj := h.takeInject 2
    if 2 < inj.2 then (inj.1.eccBad 5 2 (sramBase 2), .error 3)
    else
      let h0 := if inj.2 = 0 then inj.1 else inj.1.eccCorrected 2
      if hash ≠ (head.drop 16).take 32 then (h0, .error 3)
      else match h0.useSlot 0 3 0 with
        | (h1, some _) => (h1, .error 4)
        | (h1, none) =>
          if !Config.ecdsaVerify (h1.slot 0).publicKey (Config.sha256 image) (h1.flashBytes (off + 64 + len) 64) then (h1, .error 4)
          else if ver / 2 ^ 24 < ones 64 (h1.fuse 3) then (h1, .error 5)
          else (h1, .ok ⟨ver, hash, image.drop 64⟩)

/-- An accepted image is in force (R234, R238): every cluster store that is on is written, MC_VERSION and MC_MEASURE are its own, the pins as
configured unless one is fenced, homes afresh. -/
def Hub.imageIn (h : Hub) (m : Image) : Hub :=
  let h0 := ((List.range 4).filter (fun k => h.domOn (3 + k))).foldl (fun h k => h.loadStore k (some m)) h
  let h1 : Hub := { h0 with
    eng := { h0.eng with
      mcVersion := m.version, mcMeasure := m.measure, verified := some m, home := ⟨[]⟩
      pinA := h.val Od.engPinA, pinB := h.val Od.engPinB, exclusive := decide (h.val Od.engPinExclusive = 1) } }
  (h1.movePins.homeless).judgeShort

/-- ENGINE_RELOAD acts: the check, then a fence that also holds pinned jobs. -/
def Hub.reloadStart (h : Hub) (c off : Nat) : Hub :=
  match h.imageCheck off with
  | (h1, .ok m) => ({ h1 with eng := { h1.eng with reloading := some c, reloadImage := some m } } : Hub).keepUse .reload
  | (h1, .error d) => h1.finish c (abFailed d) []

/-- ENGINE_RELOAD, code 0x0503. -/
def Hub.cmdEngineReload (h : Hub) (req : Path) (c tag : Nat) (args : Bytes) : Hub :=
  h.issue req c 0x0503 tag args (firstAbort [argLen args 4])
    (firstState [(h.inFog, stFoghorn), (h.swapping, stSwap), (h.plan.pending.isSome, stPlanSwitch), (h.eng.reloading.isSome, stChannelBusy)])
    (fun h => h.reloadStart c (field args 0 4))

/-- The barrier of the reload has completed: the stores are written, the fence lifted, the command ends. -/
def Hub.reloadEnd (h : Hub) : Hub :=
  let h1 : Hub := match h.eng.reloadImage with
    | some m => h.imageIn m
    | none => h
  let h2 : Hub := { h1 with eng := { h1.eng with reloading := none, reloadImage := none } }
  ((h2.flag Rg.engFlags 5).fire Ev.reloaded []).doneOpt h.eng.reloading 0 (u32 h2.eng.mcVersion)

/-- The barrier of Keeper's counter has completed: what it was armed for goes on, and the next use is armed. -/
def Hub.keepDone (h : Hub) (b : Barrier) (u : BarrierUse) : Hub :=
  let h1 := h.keepDrop (fun v => decide (v ≠ u))
  match u with
  | .command c => h1.finish c 0 (u32 b.jobs ++ u32 (h.cyclesIn (h.clock - b.armedAt)))
  | .fence => ({ h1 with eng := { h1.eng with fenceTimer := true, fenceCommand := none } } : Hub).doneOpt h.eng.fenceCommand 0 []
  | .reload => h1.reloadEnd

/-- The number of a use of Keeper's counter in BARRIER_COMPLETE. -/
def BarrierUse.number : BarrierUse → Nat
  | .command _ => 1 | .fence => 2 | .reload => 3

/-- A barrier that waits for nothing completes (R228): 0 the register's; 1 the command's, 2 the engine fence's, 3 the reload's, where
Keeper's counter is armed for it. CLOCK is then at least 5 cycles past its arming. -/
def Hub.barrierComplete (h : Hub) (which : Nat) : Hub :=
  let at_ (b : Barrier) : Hub := { h with clock := max h.clock (b.armedAt + h.cycles 5) }
  if which = 0 then
    match h.eng.regBarrier with
    | some b =>
      if b.waiting ≠ [] then h
      else
        let h1 : Hub := { at_ b with eng := { h.eng with regBarrier := none, regDone := true } }
        if bit 3 (h1.reg Rg.engBarrier) then h1.fire Ev.barrierDone [] else h1
    | none => h
  else match h.eng.keepBarrier, h.eng.keepUses with
    | some b, u :: _ => if b.waiting ≠ [] ∨ u.number ≠ which then h else (at_ b).keepDone b u
    | _, _ => h

/-! ### Meanings -/

/-- The number of the tunnel that a command names. -/
def tunnelNumber : JobTunnel → Nat
  | .ctx i => i.toNat
  | .system p => sysCtx p

/-- JOB_START (R215). -/
def execJobStart (t : Fin 32) (s : State) := onHub (fun h => h.jobStart t) s
/-- JOB_DONE (R214). -/
def execJobDone (t : Fin 32) (s : State) := onHub (fun h => h.finishJob t) s
/-- JOB_COMMIT (R217). -/
def execJobCommit (i : JobTunnel) (encap : Bool) (s : State) := onHub (fun h => h.jobCommit (tunnelNumber i) encap) s
/-- METER_RELEASE (R186). -/
def execMeterRelease (i : Byte) (s : State) := onHub (fun h => h.meterRelease i.toNat) s
/-- STEAL (R218). -/
def execSteal (t : Fin 32) (remote : Bool) (s : State) := onHub (fun h => h.stealRun t remote) s
/-- TENDER_FAULT with its cause (R224). -/
def execTenderFault (t : Fin 32) (cause : Fin 5) (s : State) := onHub (fun h => h.tenderFault t cause) s
/-- TENDER_WATCHDOG (R224). -/
def execTenderWatchdog (t : Fin 32) (s : State) := onHub (fun h => if (h.tender t).busy then h.tenderFault t 2 else h) s
/-- TENDER_FENCE as its own row. -/
def execTenderFence (req : Path) (c : Fin 8) (tag : BitVec 16) (args : Bytes) (s : State) :=
  onCommand 0x0500 req c tag.toNat args (fun h => h.cmdTenderFence req c tag.toNat args) s
/-- ENGINE_BARRIER as its own row. -/
def execEngineBarrier (req : Path) (c : Fin 8) (tag : BitVec 16) (args : Bytes) (s : State) :=
  onCommand 0x0502 req c tag.toNat args (fun h => h.cmdEngineBarrier req c tag.toNat args) s
/-- ENG_BARRIER_ARM (R228). -/
def execEngBarrierArm (s : State) := onHub Hub.armBarrier s
/-- BARRIER_COMPLETE (R228). -/
def execBarrierComplete (which : Fin 4) (s : State) := onHub (fun h => h.barrierComplete which) s
/-- ENGINE_RELOAD as its own row. -/
def execEngineReload (req : Path) (c : Fin 8) (tag : BitVec 16) (args : Bytes) (s : State) :=
  onCommand 0x0503 req c tag.toNat args (fun h => h.cmdEngineReload req c tag.toNat args) s
/-- ENGINE_FENCE with ACTION 1. -/
def execEngineFenceRaise (req : Path) (c : Fin 8) (tag : BitVec 16) (s : State) :=
  onCommand 0x0504 req c tag.toNat (u8 1) (fun h => h.cmdEngineFence req c tag.toNat (u8 1)) s
/-- ENGINE_FENCE with ACTION 0. -/
def execEngineFenceLift (req : Path) (c : Fin 8) (tag : BitVec 16) (s : State) :=
  onCommand 0x0504 req c tag.toNat (u8 0) (fun h => h.cmdEngineFence req c tag.toNat (u8 0)) s
/-- FENCE_EXPIRED (R229). -/
def execFenceExpired (s : State) := onHub Hub.fenceExpired s

end Sys2Proof.Machine
end

