-- ==== Sys2Proof/Machine/Mooring.lean ====
section
/-!
DEFINITION. The mooring (chapter 16): sides, stages, trips, feeds, and the negotiation on the mooring line (R470 to R501). The
seating rows, which reach the ports, stand in Machine/Modes.lean.
-/

namespace Sys2Proof.Machine

/-! ### Sides, connectors, seating (R470, R473, R475) -/

/-- The role that fixes the mooring side: a hub that fell to FOGHORN keeps the one before (R22, R461). -/
def Hub.moorRole (h : Hub) : Mode := if h.inFog ∧ h.mode.fogCause ≠ 1 then h.mode.before else h.mode.active

/-- The hub is on the supply side (R470). -/
def Hub.moorSupply (h : Hub) : Bool := decide (h.moorRole = .lighthouse) || decide (h.moorRole = .standby)

/-- SEAT_WIRING in force is DUAL; a LIGHTSHIP always uses it (R473). -/
def Hub.moorDual (h : Hub) : Bool := decide (h.moorRole = .lightship) || decide (h.moor.wiring = some 1)

/-- A BUOY is dual-homed where it uses DUAL, as R473 demands of it and of no other BUOY. -/
def Hub.dualHomed (h : Hub) : Bool := decide (h.moorRole = .buoy) && h.moorDual

/-- The hub is the supply of connector c. -/
def Hub.supplies (h : Hub) (c : Nat) : Bool := h.moorSupply || (decide (h.moorRole = .lightship) && decide (c = 1))

/-- Input i is confirmed. -/
def Hub.seatIn (h : Hub) (i : Nat) : Bool := decide (h.moor.seatConfirmed.get 0 i = 1)

/-- Connector c is seated; in SINGLE the CPA connector carries every coupling port (R473). -/
def Hub.connSeated (h : Hub) (c : Nat) : Bool := if h.moorDual then h.seatIn c else h.seatIn 0 && h.seatIn 1

/-- The connectors that the stage feeds (R470). -/
def Hub.stageConns (h : Hub) : List Nat :=
  if h.moorSupply then (if h.moorDual then [0, 1] else [0]) else if h.moorRole = .lightship then [1] else []

/-- The seating inputs that the stage watches (R475). -/
def Hub.stageInputs (h : Hub) : List Nat := if h.moorSupply then [0, 1] else if h.moorRole = .lightship then [1] else []

/-- The stage is seated (R475). -/
def Hub.stageSeated (h : Hub) : Bool := decide (h.stageInputs ≠ []) && h.stageInputs.all h.seatIn

/-- Connector c. -/
def Hub.conn (h : Hub) (c : Nat) : ConnSt := h.moor.conns.get ConnSt.init c

/-- Replace connector c. -/
def Hub.setConn (h : Hub) (c : Nat) (x : ConnSt) : Hub := { h with moor := { h.moor with conns := h.moor.conns.set ConnSt.init c x } }

/-- Change connector c. -/
def Hub.updConn (h : Hub) (c : Nat) (f : ConnSt → ConnSt) : Hub := h.setConn c (f (h.conn c))

/-- Volts of a profile (R478). -/
def profileVolts (p : Nat) : Nat := if p = 2 then 24 else if p = 3 then 48 else 12
/-- Current of a profile in 10 mA (R478). -/
def profileCurrent (p : Nat) : Nat := if p = 0 then 200 else if p = 3 then 1000 else 800

/-- STATE of R498. -/
def StageState.code : StageState → Nat
  | .off => 0 | .unseated => 1 | .seating => 2 | .check => 3 | .ramp => 4 | .powered => 5 | .transition => 6 | .tripped => 7
  | .lockout => 8

/-- I_PROF in 10 mA (R479, R485). -/
def Hub.iProf (h : Hub) : Nat :=
  let now := (h.stageConns.map (fun c => profileCurrent (h.conn c).profile)).sum
  match h.moor.transition with
  | some (c, p, _, _) => min now (now - profileCurrent (h.conn c).profile + profileCurrent p)
  | none => now

/-- Set a flag of MOOR_FLAGS (R498). -/
def Hub.moorFlag (h : Hub) (b : Nat) : Hub := h.put Od.moorMoorFlags (setBit b (h.val Od.moorMoorFlags))

/-- An event of R501: connector, STATE, profile in force, and more. -/
def Hub.moorEvent (h : Hub) (ev c : Nat) (more : Bytes) : Hub :=
  h.fire ev (u8 c ++ u8 h.moor.stage.code ++ u8 (h.conn c).profile ++ more)

/-- The first connector of the stage. -/
def Hub.stageConn (h : Hub) : Nat := h.stageConns.headD 0

/-! ### Messages (R481 to R483) -/

/-- TYPE of R483. -/
abbrev mtGood : Nat := 0x01
abbrev mtCaps : Nat := 0x10
abbrev mtGetCaps : Nat := 0x11
abbrev mtRequest : Nat := 0x12
abbrev mtAccept : Nat := 0x13
abbrev mtReject : Nat := 0x14
abbrev mtPsReady : Nat := 0x15
abbrev mtHardReset : Nat := 0x16
abbrev mtVdm : Nat := 0x20

/-- A message of connector c as bytes (R483): TYPE, then MSG_ID with SIDE, then the data. -/
def Hub.moorBytes (h : Hub) (c kind id : Nat) (data : Bytes) : Bytes := u8 kind ++ u8 (id % 16 + 16 * b2n (!h.supplies c)) ++ data

/-- A frame of MOOR_LINE (R481): SOF, LEN, the message and the CRC-16 over LEN and the message. -/
def moorLineBytes (msg : Bytes) : Bytes := u8 0xA5 ++ u8 msg.length ++ msg ++ u16 (crc16.of (u8 msg.length ++ msg))

/-- A message goes out for connector c: in a MOORING_RELAY block where its link is RUNNING, on MOOR_LINE for CPA, otherwise nowhere
(R482). -/
def Hub.moorFrame (h : Hub) (c kind id : Nat) (data : Bytes) : Hub :=
  let msg := h.moorBytes c kind id data
  if h.running c then (h.pacedOut c (h.ctrlLane c) (relayBytes msg)).tally 0x0D01 c 1
  else if c = 0 then (h.emit (.moorLine (moorLineBytes msg))).tally 0x0D01 c 1 else h

/-- A message arrives for connector c. One whose CRC-16 fails is ignored and counted: as a control block where it came by the link
(R122), in LINE_ERRORS where it came on MOOR_LINE, where a frame with a LEN out of range counts too (R481). -/
def Hub.moorHeard (h : Hub) (c : Nat) (crcOk : Bool) (f : Hub → Hub) : Hub :=
  if h.running c then h.heard c crcOk f else if crcOk then f h else h.bump Od.moorLineErrors 32 1

/-- The first message of connector c is sent once more. -/
def Hub.moorTransmit (h : Hub) (c : Nat) : Hub :=
  match (h.conn c).outMsgs with
  | [] => h
  | m :: t => (h.updConn c (fun x => { x with outMsgs := { m with sends := m.sends + 1 } :: t })).moorFrame c m.kind m.id m.data

/-- A new message of connector c waits its turn; the first one goes out at once. -/
def Hub.moorSend (h : Hub) (c kind : Nat) (data : Bytes) (command : Option Nat) : Hub :=
  let x := h.conn c
  let h1 := h.setConn c { x with msgId := (x.msgId + 1) % 16, outMsgs := x.outMsgs ++ [⟨kind, x.msgId, data, 0, command⟩] }
  if x.outMsgs = [] then h1.moorTransmit c else h1

/-- GOOD for a message of the far end. -/
def Hub.moorGood (h : Hub) (c id : Nat) : Hub :=
  let x := h.conn c
  (h.setConn c { x with msgId := (x.msgId + 1) % 16 }).moorFrame c mtGood x.msgId (u8 id)

/-- A message arrives for connector c and is acted on, unless it is a repeat, or this is a sink whose connector is not seated
(R483, R484). -/
def Hub.moorTake (h : Hub) (c id : Nat) (act : Hub → Hub) : Hub :=
  if !h.supplies c && !h.connSeated c then h
  else
    let h1 := h.moorGood c id
    if (h.conn c).rxId = some id then h1 else act (h1.updConn c (fun x => { x with rxId := some id }))

/-! ### Offers and contracts (R478, R479, R484) -/

/-- The profiles that a LIGHTSHIP may pass on (R492): those of its supply at the voltages in SINK_ACCEPT. -/
def Hub.relayOffer (h : Hub) : Nat :=
  match (h.conn 0).farCaps with
  | none => 1
  | some m =>
    let a := h.val Od.moorSinkAccept
    let ok (p : Nat) : Bool := bit p m && bit (if p < 2 then 0 else p - 1) a
    1 ||| ([1, 2, 3].foldl (fun s p => if ok p then s ||| 2 ^ p else s) 0)

/-- The profile mask offered on connector c (R479, R492). -/
def Hub.offered (h : Hub) (c : Nat) : Nat :=
  let other := h.stageConns.any (fun d => decide (d ≠ c) && decide (profileVolts (h.conn d).profile ≠ profileVolts (h.conn c).profile))
  if !h.mode.confirmed || h.inFog || other || bit 0 (h.conn c).modes then 1
  else if h.moorRole = .lightship then h.relayOffer else h.val Od.moorSupplyProfiles ||| 1

/-- CAPS on connector c. -/
def Hub.sendCaps (h : Hub) (c : Nat) : Hub := h.moorSend c mtCaps (u8 (h.offered c) ++ u8 1) none

/-- CAPS starts on connector c of a powered stage: repeated every CAPS_PERIOD until a REQUEST (R484). -/
def Hub.startCaps (h : Hub) (c : Nat) : Hub :=
  if h.moor.stage = .powered ∧ c ∈ h.stageConns ∧ !bit 0 (h.conn c).modes then
    (h.updConn c (fun x => { x with capsCount := 1, capsTimer := true })).sendCaps c
  else h

/-- Connectors whose offer has changed get CAPS (R484). -/
def Hub.offerChanged (h before : Hub) : Hub :=
  h.stageConns.foldl (fun g c => if h.offered c ≠ before.offered c then g.startCaps c else g) h

/-- A contract comes into force on connector c (R478, R501). -/
def Hub.contract (h : Hub) (c profile current : Nat) : Hub :=
  let x := h.conn c
  if x.profile = profile ∧ x.current = current then h
  else
    let h1 := ((h.setConn c { x with profile := profile, current := current }).moorFlag 11).moorEvent Ev.moorContract c []
    h1.offerChanged h

/-- A connector loses its contract, with what was being negotiated (R486, R494). -/
def Hub.dropContract (h : Hub) (c : Nat) : Hub :=
  let x := h.conn c
  let h1 := h.setConn c { x with profile := 0, current := 0, capsTimer := false, capsCount := 0, asked := none, awaitPs := false, request := none }
  h1.doneOpt x.request (abFailed 1) []

/-! ### The stage (R476, R477, R489, R494) -/

/-- The stage is killed (R494). MOOR_DISCH goes high where the stage was carrying. -/
def Hub.killStage (h : Hub) : Hub :=
  let m := h.moor
  let h1 : Hub := { h with moor := { m with killed := true, gate := false, vset := 12, disch := m.disch || m.gate, transition := none, downReq := none } }
  let h2 := ((h1.emit (.line .gateKillN 0)).emit (.line .gateCtl 0)).emit (.line .moorVset 12)
  let h3 := if m.gate then h2.emit (.line .moorDisch 1) else h2
  h.stageConns.foldl Hub.dropContract h3

/-- The stage enters a state. -/
def Hub.setStage (h : Hub) (s : StageState) : Hub := { h with moor := { h.moor with stage := s } }

/-- A FEED_SEL goes high, or both go low (R490). -/
def Hub.selectFeed (h : Hub) (f : Option Nat) : Hub :=
  let h1 : Hub := match h.moor.feed with
    | some g => if f = some g then h else h.emit (.line (.feedSel g) 0)
    | none => h
  let h2 : Hub := { h1 with moor := { h1.moor with feed := f } }
  match f with
  | some g => h2.emit (.line (.feedSel g) 1)
  | none => h2

/-- The preferred feed (R490), or at a dual-homed BUOY the cable toward its primary upstream port (R491). -/
def Hub.preferredFeed (h : Hub) : Nat :=
  if h.dualHomed then (h.upPort.getD 0) else h.val Od.moorFeedPriority % 2

/-- The feed may be used (R490). -/
def Hub.feedAllowed (h : Hub) (f : Nat) : Bool :=
  h.dualHomed || decide (h.val Od.moorFeedPriority < 2) || decide (f = h.val Od.moorFeedPriority - 2)

/-- Entry to CHECK: counts of the curve are cleared, a feed is selected (R476, R488). -/
def Hub.toCheck (h : Hub) : Hub :=
  let h1 : Hub := { h with moor := { h.moor with stage := .check, curve := ⟨[]⟩ } }
  if h.moorSupply && h.moor.feed.isNone && h.moor.bbm.isNone then h1.selectFeed (some h.preferredFeed) else h1

/-- A seated stage leaves SEATING (R476). -/
def Hub.seatingDone (h : Hub) : Hub :=
  if h.moor.stage ≠ .seating ∨ !h.stageSeated then h
  else if h.moor.lockout then h.setStage .lockout
  else if h.moor.retryTimer then h else h.toCheck

/-- The stage locks out when TRIP_LIMIT trips fall within TRIP_WINDOW (R476). -/
def Hub.lockOut (h : Hub) : Hub :=
  if h.moor.tripTimes.length < h.val Od.moorTripLimit then h
  else
    let h1 : Hub := { h with moor := { h.moor with stage := .lockout, lockout := true } }
    ((h1.moorFlag 5).moorEvent Ev.moorLockout h1.stageConn []).fogOriginate 0x12 0

/-- A trip (R489), with its cause and, for the curve, its point. -/
def Hub.trip (h : Hub) (cause point : Nat) : Hub :=
  let h1 := h.killStage.setStage .tripped
  let last := cause + 256 * point
  let m := h1.moor
  let times := (h1.clock :: m.tripTimes).filter (fun t => decide (h1.clock - t ≤ h1.val Od.moorTripWindow * 10000000000))
  let h2 : Hub := { h1 with moor := { m with trips := trunc 32 (m.trips + 1), lastTrip := last, retryTimer := true, tripTimes := times } }
  let h3 := if cause = 2 then h2.moorFlag 2 else if cause = 1 then h2.moorFlag 3 else if cause = 3 then h2.moorFlag 4
    else if cause = 5 then h2.moorFlag 7 else h2
  let h4 := ((h3.tally 0x0D04 cause 1).moorEvent Ev.moorTrip h.stageConn (u16 last)).fogOriginate 0x10 last
  (if cause = 6 then h4.fogOriginate 0x13 0 else h4).lockOut

/-- The stage carries: RAMP, POWERED or TRANSITION. -/
def Hub.stageLive (h : Hub) : Bool :=
  decide (h.moor.stage = .ramp) || decide (h.moor.stage = .powered) || decide (h.moor.stage = .transition)

/-- The stage trips in a state in which it carries (R487 to R489). -/
def Hub.liveTrip (h : Hub) (cause point : Nat) : Hub := if h.stageLive then h.trip cause point else h

/-- CHECK passes (R476): the cable is dead, the selected feed is good, and at a LIGHTSHIP RELAY-CHAIN is entered. -/
def Hub.checkPass (h : Hub) (good : Nat) : Hub :=
  let feedOk : Bool := !h.moorSupply || (match h.moor.feed with
    | some f => bit f good
    | none => false)
  if h.moor.stage ≠ .check ∨ h.moor.holdOff ∨ !feedOk ∨ (h.moorRole = .lightship ∧ !bit 1 (h.conn 0).modes) then h
  else
    let v := if h.moorRole = .lightship then profileVolts (h.conn 0).profile else 12
    let h1 : Hub := { h with moor := { h.moor with stage := .ramp, killed := false, gate := true, vset := v, disch := false, feedGood := good } }
    let h2 := if h.moor.disch then h1.emit (.line .moorDisch 0) else h1
    ((h2.emit (.line .moorVset v)).emit (.line .gateKillN 1)).emit (.line .gateCtl 1)

/-- The stage is POWERED (R476): every contract begins at profile 0, and CAPS are sent (R479, R484). -/
def Hub.rampDone (h : Hub) : Hub :=
  if h.moor.stage ≠ .ramp then h
  else
    let h1 := h.stageConns.foldl (fun g c => g.contract c 0 200) (h.setStage .powered)
    h1.stageConns.foldl Hub.startCaps h1

/-- HARD_RESET at the supply (R486). -/
def Hub.stageHardReset (h : Hub) : Hub :=
  if h.moor.stage = .powered ∨ h.moor.stage = .transition then h.killStage.toCheck else h

/-- HARD_RESET takes effect on a connector (R486): at a sink it restarts from profile 0. -/
def Hub.hardReset (h : Hub) (c : Nat) : Hub := if h.supplies c then h.stageHardReset else h.dropContract c

/-- The retry timer expires (R476). -/
def Hub.retryExpired (h : Hub) : Hub :=
  if !h.moor.retryTimer then h
  else
    let h1 : Hub := { h with moor := { h.moor with retryTimer := false } }
    if h1.moor.stage = .tripped then h1.toCheck else h1.seatingDone

/-- A stage unseated for LOCKOUT_CLEAR is no longer in lockout (R476). -/
def Hub.lockoutCleared (h : Hub) : Hub :=
  if h.moor.stage = .unseated ∧ h.moor.unseatedTimer ∧ 0 < h.val Od.moorLockoutClear then
    { h with moor := { h.moor with lockout := false, unseatedTimer := false } }
  else h

/-! ### Negotiation at the supply (R484, R485, R493) -/

/-- A REJECT with its reason. -/
def Hub.reject (h : Hub) (c reason : Nat) : Hub := h.moorSend c mtReject (u8 reason) none

/-- A request is accepted (R484): at the voltage in force the contract changes at once, otherwise a transition begins. -/
def Hub.acceptRequest (h : Hub) (c profile current : Nat) : Hub :=
  let h1 := h.moorSend c mtAccept (u8 profile) none
  if profileVolts profile = profileVolts (h.conn c).profile then (h1.contract c profile current).moorSend c mtPsReady (u8 profile) none
  else { h1 with moor := { h1.moor with stage := .transition, transition := some (c, profile, current, false) } }

/-- A REQUEST at a sink's own supply: this hub asks for a profile and current (R484). -/
def Hub.sendRequest (h : Hub) (c profile current : Nat) (command : Option Nat) : Hub :=
  (h.updConn c (fun x => { x with asked := some (profile, current), awaitPs := false, request := command })).moorSend c mtRequest
    (u8 profile ++ u16 current) none

/-- What a LIGHTSHIP draws itself and for its downstream contract (R492). -/
def Hub.chainCurrent (h : Hub) (profile down : Nat) : Nat :=
  min (profileCurrent profile) (h.val Od.moorSinkCurrent + down)

/-- A REQUEST arrives at the supply (R484, R493). -/
def Hub.takeRequest (h : Hub) (c profile current : Nat) : Hub :=
  let h1 := h.updConn c (fun x => { x with capsTimer := false, capsCount := 0 })
  if !h.supplies c ∨ (h.moor.stage ≠ .powered ∧ h.moor.stage ≠ .transition) then h1
  else if h.moor.stage = .transition ∨ h.moor.downReq.isSome then h1.reject c 3
  else if 3 < profile ∨ !bit profile (h.offered c) then h1.reject c 1
  else if profileCurrent profile < current then h1.reject c 2
  else if h.moorRole ≠ .lightship then h1.acceptRequest c profile current
  else
    let up := h.conn 0
    if profileVolts profile = profileVolts up.profile ∧ h.val Od.moorSinkCurrent + current ≤ up.current then h1.acceptRequest c profile current
    else if profileCurrent profile < h.val Od.moorSinkCurrent + current then h1.reject c 2
    else
      let h2 : Hub := { h1 with moor := { h1.moor with downReq := some (profile, current) } }
      h2.sendRequest 0 profile (h.val Od.moorSinkCurrent + current) none

/-- MOOR_VSET starts slewing to the new voltage (R485). -/
def Hub.transitionStart (h : Hub) : Hub :=
  match h.moor.transition with
  | some (c, p, a, false) =>
    let v := profileVolts p
    ({ h with moor := { h.moor with transition := some (c, p, a, true), vset := v } } : Hub).emit (.line .moorVset v)
  | _ => h

/-- PS_READY ends the transition (R485); at a LIGHTSHIP once its own supply has sent its PS_READY (R493). Every connector of the
stage is then at the new voltage. -/
def Hub.transitionDone (h : Hub) : Hub :=
  match h.moor.transition with
  | some (c, p, a, slewing) =>
    let ready := if h.moorRole = .lightship then !(h.conn 0).awaitPs && (h.conn 0).asked.isNone else slewing
    if h.moor.stage ≠ .transition ∨ !ready then h
    else
      let h1 : Hub := { h with moor := { h.moor with stage := .powered, transition := none } }
      let h2 := (h1.contract c p a).moorSend c mtPsReady (u8 p) none
      h2.stageConns.foldl (fun g d => if decide (d ≠ c) && decide (profileVolts (g.conn d).profile ≠ profileVolts p) then g.contract d 0 200 else g) h2
  | none => h

/-- A CAPS_PERIOD has passed without a REQUEST (R484). -/
def Hub.capsRepeat (h : Hub) (c : Nat) : Hub :=
  let x := h.conn c
  if !x.capsTimer ∨ h.moor.stage ≠ .powered ∨ bit 0 x.modes then h
  else if h.val Od.moorCapsCount ≤ x.capsCount then h.setConn c { x with capsTimer := false }
  else (h.setConn c { x with capsCount := x.capsCount + 1 }).sendCaps c

/-! ### Negotiation at the sink (R484, R492, R493) -/

/-- A VDM of the hub itself under Talviord's SVID: COMMAND, MODE and mode data. -/
def Hub.ownVdm (h : Hub) (c command mode : Nat) (data : Bytes) : Hub :=
  let h1 := if command = 4 then h else h.updConn c (fun x => { x with vdmOut := some (command, mode), vdm := none })
  h1.moorSend c mtVdm (u16 0x544C ++ u8 command ++ u8 mode ++ (data ++ List.replicate 6 0).take 6) none

/-- Break-before-make leads to a feed (R490, R491). -/
def Hub.feedTo (h : Hub) (f : Nat) : Hub :=
  let h1 := h.selectFeed none
  (({ h1 with moor := { h1.moor with bbm := some f } } : Hub).moorFlag 6).moorEvent Ev.moorFeedSwitch h.stageConn []

/-- What the sink asks for on connector c, with the mask its supply offers (R479, R484). -/
def Hub.wanted (h : Hub) (c mask : Nat) : Nat × Nat :=
  let w := h.val Od.moorSinkWant
  let p := if h.mode.confirmed ∧ !h.inFog ∧ bit w mask then w else 0
  let down := if h.moorRole = .lightship ∧ bit 1 (h.conn c).modes then (h.conn 1).current else 0
  (p, if p = 0 then min 200 (h.val Od.moorSinkCurrent + down) else h.chainCurrent p down)

/-- The mode a sink enters toward its supply: RELAY-CHAIN at a LIGHTSHIP, PAIR-HOMED at a dual-homed BUOY (R492). -/
def Hub.sinkMode (h : Hub) : Option (Nat × Bytes) :=
  if h.moorRole = .lightship then some (2, u16 (h.val Od.moorDownAllowance)) else if h.dualHomed then some (3, []) else none

/-- A sink answers CAPS (R484). A PAIR-HOMED BUOY changes voltage one cable at a time (R493): the cable that carries its feed
keeps its profile until the other one has changed. -/
def Hub.takeCaps (h : Hub) (c mask : Nat) (vendor : Bool) : Hub :=
  if h.supplies c then h
  else
    let before := h
    let x := h.conn c
    let h1 := h.setConn c { x with farCaps := some mask, vendor := vendor }
    let w := h1.wanted c mask
    let o := h1.conn (1 - c)
    let waits := h.dualHomed && bit 2 x.modes && decide (h.moor.feed = some c) && h.connSeated (1 - c) && o.farCaps.isSome &&
      decide (profileVolts w.1 ≠ profileVolts x.profile) && decide (o.profile ≠ w.1)
    let h2 := if waits then
        let g := h1.sendRequest c x.profile (max 1 x.current) none
        if h.preferredFeed ≠ c then g.feedTo h.preferredFeed else g
      else h1.sendRequest c w.1 w.2 none
    let h3 : Hub := match h.sinkMode with
      | some (m, d) => if vendor && !bit (m - 1) x.modes && x.vdmOut.isNone then h2.ownVdm c 2 m d else h2
      | none => h2
    if h.moorRole = .lightship then h3.offerChanged before else h3

/-- ACCEPT at a sink (R484); a LIGHTSHIP then accepts what waits downstream (R493). -/
def Hub.takeAccept (h : Hub) (c : Nat) : Hub :=
  if (h.conn c).asked.isNone then h
  else
    let h1 := h.updConn c (fun x => { x with awaitPs := true })
    match h.moor.downReq with
    | some (p, a) => ({ h1 with moor := { h1.moor with downReq := none } } : Hub).acceptRequest 1 p a
    | none => h1

/-- REJECT at a sink: the contract in force stays (R484). What waits downstream is rejected. -/
def Hub.takeReject (h : Hub) (c : Nat) : Hub :=
  let x := h.conn c
  let h1 := (h.setConn c { x with asked := none, awaitPs := false, request := none }).doneOpt x.request (abFailed 1) []
  match h.moor.downReq with
  | some _ => if c = 0 then ({ h1 with moor := { h1.moor with downReq := none } } : Hub).reject 1 1 else h1
  | none => h1

/-- PS_READY at a sink: the contract is in force (R484). A PAIR-HOMED BUOY moves its feed to the cable that has changed (R493). -/
def Hub.takePsReady (h : Hub) (c : Nat) : Hub :=
  let x := h.conn c
  match x.asked with
  | some (p, a) =>
    if !x.awaitPs then h
    else
      let h1 := (h.setConn c { x with asked := none, awaitPs := false, request := none }).contract c p a
      let h2 := h1.doneOpt x.request 0 (u8 p)
      if h.dualHomed && bit 2 x.modes && decide (profileVolts p ≠ profileVolts x.profile) && h.moor.feed.isSome && decide (h.moor.feed ≠ some c)
      then h2.feedTo c else h2
  | none => h

/-- No PS_READY in time: HARD_RESET (R484). -/
def Hub.psReadyTimeout (h : Hub) (c : Nat) : Hub :=
  if (h.conn c).awaitPs then (h.hardReset c).moorSend c mtHardReset [] none else h

/-- GET_CAPS on a sink connector that has a supply, once the reason for profile 0 ends (R484). -/
def Hub.askCaps (h : Hub) (c : Nat) : Hub :=
  if !h.supplies c ∧ h.connSeated c ∧ (h.conn c).farCaps.isSome then h.moorSend c mtGetCaps [] none else h

/-- The profiles are negotiated again: sinks ask, supplies offer (R28, R484, R493). -/
def Hub.renegotiate (h before : Hub) : Hub := ((h.askCaps 0).askCaps 1).offerChanged before

/-! ### Message ends (R483) -/

/-- The first message of connector c is done with; the next one goes out. -/
def Hub.moorPop (h : Hub) (c : Nat) : Hub :=
  (h.updConn c (fun x => { x with outMsgs := x.outMsgs.drop 1 })).moorTransmit c

/-- GOOD for the message under way. ATTENTION ends its command with it. -/
def Hub.takeGood (h : Hub) (c ack : Nat) : Hub :=
  match (h.conn c).outMsgs with
  | [] => h
  | m :: _ =>
    if m.id ≠ ack ∨ m.sends = 0 then h
    else (h.moorPop c).doneOpt (if m.kind = mtVdm ∧ field m.data 2 1 = 4 then m.command else none) 0 []

/-- 2 ms without GOOD: the message goes out again, and is lost after its third send (R483). -/
def Hub.moorRetry (h : Hub) (c : Nat) : Hub :=
  match (h.conn c).outMsgs with
  | [] => h
  | m :: _ =>
    if m.sends < 3 then (h.moorTransmit c).tally 0x0D02 c 1
    else
      let h1 := ((h.moorPop c).moorFlag 8).tally 0x0D03 c 1
      let h2 := if m.kind = mtVdm then (h1.updConn c (fun x => { x with vdmOut := none, vdm := none })).doneOpt m.command (abFailed 1) [] else h1
      if m.kind = mtCaps then h2 else if m.kind = mtRequest then h2.takeReject c else h2.hardReset c

/-! ### Vendor messages (R492) -/

/-- A response to a VDM: 0 ACK, 1 NAK, 2 BUSY. -/
def Hub.vdmAnswer (h : Hub) (c svid command mode status : Nat) (data : Bytes) : Hub :=
  let _ := mode
  h.moorSend c mtVdm (u16 svid ++ u8 (command + 128) ++ u8 status ++ (data ++ List.replicate 6 0).take 6) none

/-- Bit of a mode in MODES; 8 for no mode of Talviord. -/
def modeBit (mode : Nat) : Nat := if mode = 1 then 0 else if mode = 2 then 1 else if mode = 3 then 2 else 8

/-- A mode is entered or left on a connector. -/
def Hub.setMode (h : Hub) (c mode : Nat) (on : Bool) : Hub :=
  h.updConn c (fun x => { x with modes := if on then setBit (modeBit mode) x.modes else x.modes &&& (7 ^^^ 2 ^ modeBit mode) })

/-- A response to this hub's VDM: the modes change on ACK, and its command ends with the 10 bytes of the response. -/
def Hub.vdmResponse (h : Hub) (c svid command status : Nat) (data : Bytes) : Hub :=
  let x := h.conn c
  match x.vdmOut with
  | none => h
  | some (cmd, mode) =>
    if cmd ≠ command then h
    else
      let h1 := h.setConn c { x with vdmOut := none, vdm := none }
      let h2 := if svid = 0x544C ∧ status = 0 ∧ modeBit mode < 3 ∧ (cmd = 2 ∨ cmd = 3) then h1.setMode c mode (decide (cmd = 2)) else h1
      h2.doneOpt x.vdm 0 (u16 svid ++ u8 (command + 128) ++ u8 status ++ (data ++ List.replicate 6 0).take 6)

/-- A DISCOVER_MODES, ENTER or EXIT of the far end under Talviord's SVID; `command` 1, 2 or 3. -/
def Hub.vdmRequest (h : Hub) (c command mode : Nat) : Hub :=
  if command = 1 then h.vdmAnswer c 0x544C 1 0 0 [1, 2, 3]
  else if modeBit mode = 8 ∨ !h.supplies c then h.vdmAnswer c 0x544C command mode 1 []
  else
    let h1 := (h.setMode c mode (decide (command = 2))).vdmAnswer c 0x544C command mode 0 []
    if mode = 1 ∧ command = 2 then h1.updConn c (fun x => { x with capsTimer := false }) else h1.offerChanged h

/-- A VDM under another SVID (R492): THIRD_SVID goes to firmware, any other is answered with NAK. -/
def Hub.vdmOther (h : Hub) (c svid command mode : Nat) (data : Bytes) : Hub :=
  let resp := decide (128 ≤ command)
  let h1 := if resp then h.vdmResponse c svid (command - 128) mode data else h
  if svid = h.val Od.moorThirdSvid ∧ svid ≠ 0 then
    (h1.moorFlag 10).moorEvent Ev.moorVdm c (u16 svid ++ u8 command ++ u8 mode ++ data.take 6)
  else if resp ∨ command = 4 then h1 else h1.vdmAnswer c svid command mode 1 []

/-- In LIMP, the hub in FOGHORN sends ATTENTION with FOG_CAUSE (R492). -/
def Hub.limpAttention (h : Hub) : Hub :=
  if h.inFog && bit 0 (h.conn 0).modes then h.ownVdm 0 4 1 (u8 h.mode.fogCause) else h

/-! ### FOGHORN (R22, R492, R493) -/

/-- A stage goes to profile 0: at 12 V the contracts change at once, at another voltage by a transition (R493). -/
def Hub.stageDefault (h : Hub) : Hub :=
  match h.stageConns.find? (fun c => decide (0 < (h.conn c).profile)) with
  | some c => if h.moor.stage = .powered then
        (if profileVolts (h.conn c).profile = 12 then h.stageConns.foldl (fun g d => (g.contract d 0 200).moorSend d mtPsReady (u8 0) none) h
        else { h with moor := { h.moor with stage := .transition, transition := some (c, 0, 200, false), downReq := none } })
      else h
  | none => h

/-- The mooring on entry to FOGHORN: a supply goes to profile 0, a sink requests it; then LIMP is entered toward the far end. The
second connector of a dual-homed BUOY has no path for a request once its link is down, and stays at profile 0 from then on (R482);
a LIGHTSHIP requests profile 0 and takes its downstream contract there too (R22). -/
def Hub.moorFog (h : Hub) : Hub :=
  let a := if h.moorSupply then h
    else if h.connSeated 0 ∧ (h.conn 0).farCaps.isSome then h.sendRequest 0 0 (min 200 (h.val Od.moorSinkCurrent)) none else h
  let h1 := (if h.dualHomed then a.contract 1 0 (min 200 (h.conn 1).current) else a).stageDefault
  if !h.moorSupply ∧ h.connSeated 0 ∧ (h.conn 0).vendor then h1.ownVdm 0 2 1 [] else h1

/-- The mooring once FOGHORN has ended: LIMP is left, profiles are negotiated again (R28, R492). -/
def Hub.moorFogEnd (h before : Hub) : Hub :=
  let h1 := if bit 0 (h.conn 0).modes ∧ !h.moorSupply then (h.setMode 0 1 false).ownVdm 0 3 1 [] else h
  h1.renegotiate before

/-! ### Feeds (R490, R491) -/

/-- The selected feed has not been good for 100 µs; `good` says which feeds are (R490, R491). -/
def Hub.feedLost (h : Hub) (good : Nat) : Hub :=
  let h1 : Hub := { h with moor := { h.moor with feedGood := good } }
  let h2 := if good = 0 ∧ h.moorSupply ∧ h.moor.feedGood ≠ 0 then h1.fogOriginate 0x13 0 else h1
  match h.moor.feed with
  | some f => if !bit f good && bit (1 - f) good && h.feedAllowed (1 - f) then h2.feedTo (1 - f) else h2
  | none => if h.dualHomed && h.moor.bbm.isNone then
      (if bit h.preferredFeed good then h2.selectFeed (some h.preferredFeed)
      else if bit (1 - h.preferredFeed) good then h2.selectFeed (some (1 - h.preferredFeed)) else h2)
    else h2

/-- FEED_BBM has elapsed: the other FEED_SEL is raised. A PAIR-HOMED BUOY then asks for its profile on the cable it has left
(R493). -/
def Hub.bbmEnd (h : Hub) : Hub :=
  match h.moor.bbm with
  | none => h
  | some f =>
    let h1 := ({ h with moor := { h.moor with bbm := none } } : Hub).selectFeed (some f)
    let o := h.conn (1 - f)
    match o.farCaps with
    | some m => if h.dualHomed && bit 2 o.modes && h.connSeated (1 - f) && decide ((h.wanted (1 - f) m).1 ≠ o.profile) then
          h1.sendRequest (1 - f) (h.wanted (1 - f) m).1 (h.wanted (1 - f) m).2 none
        else h1
    | none => h1

/-- The preferred feed has been good for 100 ms: the hub returns to it (R490). -/
def Hub.feedReturn (h : Hub) : Hub :=
  let p := h.preferredFeed
  let h1 : Hub := { h with moor := { h.moor with feedGood := setBit p h.moor.feedGood } }
  match h.moor.feed with
  | some f => if f ≠ p then h1.feedTo p else h1
  | none => h1

/-! ### Commands (R499) -/

/-- Byte 4 names connector 0 or 1. -/
def moorConnArg (args : Bytes) : Bool × Abort := (decide (1 < field args 0 1), abArg 4)

/-- MOOR_RENEGOTIATE, code 0x0A00: CAPS at a supply; at a sink GET_CAPS. -/
def Hub.cmdMoorRenegotiate (h : Hub) (req : Path) (c tag : Nat) (args : Bytes) : Hub :=
  let k := field args 0 1
  h.issue req c 0x0A00 tag args (firstAbort [argLen args 1, moorConnArg args])
    (firstState [(!h.connSeated k, stNotSeated), (decide (h.moor.stage = .transition), stMoorTransition)])
    (fun h => (if h.supplies k then h.startCaps k else h.moorSend k mtGetCaps [] none).done c 0 (u8 (h.conn k).profile))

/-- MOOR_REQUEST, code 0x0A01, on the connector of the hub's supply. A profile above 0 is not requested in FOGHORN or before the mode
is confirmed (R22, R479): the command then ends as on a REJECT (log 63). -/
def Hub.cmdMoorRequest (h : Hub) (req : Path) (c tag : Nat) (args : Bytes) : Hub :=
  let k := if h.dualHomed then h.preferredFeed else 0
  let p := field args 0 1
  let a := field args 1 2
  h.issue req c 0x0A01 tag args
    (firstAbort [argLen args 3, (decide (3 < p), abArg 4), (decide (a = 0 ∨ profileCurrent p < a), abArg 5)])
    (firstState [(h.moorSupply, stLinkDown), (!h.connSeated k, stNotSeated),
      (decide (h.moor.stage = .transition) || (h.conn k).awaitPs, stMoorTransition)])
    (fun h => if decide (0 < p) && (h.inFog || !h.mode.confirmed) then h.done c (abFailed 1) [] else h.sendRequest k p a (some c))

/-- MOOR_HARD_RESET, code 0x0A02. -/
def Hub.cmdMoorHardReset (h : Hub) (req : Path) (c tag : Nat) (args : Bytes) : Hub :=
  let k := field args 0 1
  h.issue req c 0x0A02 tag args (firstAbort [argLen args 1, moorConnArg args]) (firstState [(!h.connSeated k, stNotSeated)])
    (fun h => ((h.hardReset k).moorSend k mtHardReset [] none).done c 0 [])

/-- MOOR_RESUME, code 0x0A03. -/
def Hub.cmdMoorResume (h : Hub) (req : Path) (c tag : Nat) (args : Bytes) : Hub :=
  h.issue req c 0x0A03 tag args (firstAbort [argLen args 0])
    (firstState [(decide (h.moor.stage = .unseated) || decide (h.moor.stage = .off), stNotSeated),
      (decide (h.moor.stage ≠ .lockout), stMoorTransition)])
    (fun h =>
      let h1 := ({ h with moor := { h.moor with lockout := false, tripTimes := [] } } : Hub).toCheck
      h1.done c 0 (u8 h1.moor.stage.code))

/-- MOOR_SEND_VDM, code 0x0A04: it ends with the response, ATTENTION with its GOOD. -/
def Hub.cmdMoorSendVdm (h : Hub) (req : Path) (c tag : Nat) (args : Bytes) : Hub :=
  let k := field args 0 1
  let cmd := field args 3 1
  h.issue req c 0x0A04 tag args (firstAbort [argLen args 11, moorConnArg args]) (firstState [(!h.connSeated k, stNotSeated)])
    (fun h =>
      let h1 := if cmd = 4 then h else h.updConn k (fun x => { x with vdmOut := some (cmd, field args 4 1), vdm := some c })
      h1.moorSend k mtVdm (args.drop 1) (some c))

/-- MOOR_HOLD_OFF, code 0x0A05. -/
def Hub.cmdMoorHoldOff (h : Hub) (req : Path) (c tag : Nat) (args : Bytes) : Hub :=
  let v := field args 0 1
  h.issue req c 0x0A05 tag args (firstAbort [argLen args 1, (decide (1 < v), abArg 4)]) none
    (fun h =>
      let h1 : Hub := { h with moor := { h.moor with holdOff := decide (v = 1) } }
      let h2 := if v = 1 ∧ h1.stageLive then h1.killStage.toCheck else h1
      h2.done c 0 (u8 h2.moor.stage.code))

/-! ### Meanings -/

/-- CHECK_PASS (R476), with the feeds that are good. -/
def execCheckPass (good : Fin 4) (s : State) := onHub (fun h => h.checkPass good) s
/-- CHECK_TIMEOUT (R476): cause 5 where the cable is not discharged, otherwise 6. A held stage does not trip (R499). -/
def execCheckTimeout (backfeed : Bool) (s : State) :=
  onHub (fun h => if h.moor.stage = .check ∧ !h.moor.holdOff then h.trip (if backfeed then 5 else 6) 0 else h) s
/-- RAMP_DONE (R476). -/
def execRampDone (s : State) := onHub Hub.rampDone s
/-- RAMP_TIMEOUT (R476). -/
def execRampTimeout (s : State) := onHub (fun h => if h.moor.stage = .ramp then h.trip 4 0 else h) s
/-- FAST_TRIP (R487). -/
def execFastTrip (s : State) := onHub (fun h => h.liveTrip 2 0) s
/-- CURVE_TRIP at a point (R488). -/
def execCurveTrip (k : Fin 16) (s : State) :=
  onHub (fun h => if h.stageLive then ({ h with moor := { h.moor with curve := h.moor.curve.set 0 k (h.val (Od.moorTK k)) } } : Hub).trip 1 k else h) s
/-- VOLTAGE_TRIP (R489). -/
def execVoltageTrip (s : State) := onHub (fun h => h.liveTrip 3 0) s
/-- TRANSITION_TIMEOUT (R476, R489). -/
def execTransitionTimeout (s : State) := onHub (fun h => if h.moor.stage = .transition then h.trip 3 0 else h) s
/-- RETRY_TIMER_EXPIRY (R476). -/
def execRetryTimerExpiry (s : State) := onHub Hub.retryExpired s
/-- LOCKOUT_CLEAR_EXPIRY (R476). -/
def execLockoutClearExpiry (s : State) := onHub Hub.lockoutCleared s
/-- GOOD (R483). -/
def execGood (rx : MoorRx) (id ack : Fin 16) (s : State) :=
  let _ := id
  onHub (fun h => h.moorHeard rx.conn rx.crcOk (fun h => h.takeGood rx.conn ack)) s
/-- CAPS (R484). -/
def execCaps (rx : MoorRx) (id : Fin 16) (mask : Fin 16) (vendor : Bool) (s : State) :=
  onHub (fun h => h.moorHeard rx.conn rx.crcOk (fun h => h.moorTake rx.conn id (fun h => h.takeCaps rx.conn (mask.val ||| 1) vendor))) s
/-- GET_CAPS (R484). -/
def execGetCaps (rx : MoorRx) (id : Fin 16) (s : State) :=
  onHub (fun h => h.moorHeard rx.conn rx.crcOk (fun h => h.moorTake rx.conn id (fun h => h.startCaps rx.conn))) s
/-- REQUEST (R484). -/
def execRequest (rx : MoorRx) (id : Fin 16) (profile : Byte) (current : BitVec 16) (s : State) :=
  onHub (fun h => h.moorHeard rx.conn rx.crcOk (fun h => h.moorTake rx.conn id (fun h => h.takeRequest rx.conn profile.toNat current.toNat))) s
/-- ACCEPT (R484). -/
def execAccept (rx : MoorRx) (id : Fin 16) (profile : Byte) (s : State) :=
  let _ := profile
  onHub (fun h => h.moorHeard rx.conn rx.crcOk (fun h => h.moorTake rx.conn id (fun h => if h.supplies rx.conn then h else h.takeAccept rx.conn))) s
/-- REJECT (R484). -/
def execReject (rx : MoorRx) (id : Fin 16) (reason : Byte) (s : State) :=
  let _ := reason
  onHub (fun h => h.moorHeard rx.conn rx.crcOk (fun h => h.moorTake rx.conn id (fun h => if h.supplies rx.conn then h else h.takeReject rx.conn))) s
/-- PS_READY (R484). -/
def execPsReady (rx : MoorRx) (id : Fin 16) (profile : Byte) (s : State) :=
  let _ := profile
  onHub (fun h => h.moorHeard rx.conn rx.crcOk (fun h => h.moorTake rx.conn id (fun h => if h.supplies rx.conn then h else h.takePsReady rx.conn))) s
/-- HARD_RESET (R486). -/
def execHardReset (rx : MoorRx) (id : Fin 16) (s : State) :=
  onHub (fun h => h.moorHeard rx.conn rx.crcOk (fun h => h.moorTake rx.conn id (fun h => h.hardReset rx.conn))) s
/-- VDM DISCOVER_MODES, or its response (R492). -/
def execVdmDiscoverModes (rx : MoorRx) (id : Fin 16) (response : Bool) (mode : Byte) (data : Bytes) (s : State) :=
  onHub (fun h => h.moorHeard rx.conn rx.crcOk (fun h => h.moorTake rx.conn id (fun h => if response then h.vdmResponse rx.conn 0x544C 1 mode.toNat data else h.vdmRequest rx.conn 1 mode.toNat))) s
/-- VDM ENTER, or its response (R492). -/
def execVdmEnter (rx : MoorRx) (id : Fin 16) (response : Bool) (mode : Byte) (data : Bytes) (s : State) :=
  onHub (fun h => h.moorHeard rx.conn rx.crcOk (fun h => h.moorTake rx.conn id (fun h => if response then h.vdmResponse rx.conn 0x544C 2 mode.toNat data else h.vdmRequest rx.conn 2 mode.toNat))) s
/-- VDM EXIT, or its response (R492). -/
def execVdmExit (rx : MoorRx) (id : Fin 16) (response : Bool) (mode : Byte) (data : Bytes) (s : State) :=
  onHub (fun h => h.moorHeard rx.conn rx.crcOk (fun h => h.moorTake rx.conn id (fun h => if response then h.vdmResponse rx.conn 0x544C 3 mode.toNat data else h.vdmRequest rx.conn 3 mode.toNat))) s
/-- VDM ATTENTION (R492): it is answered by GOOD alone. -/
def execVdmAttention (rx : MoorRx) (id : Fin 16) (mode : Byte) (data : Bytes) (s : State) :=
  let _ := (mode, data)
  onHub (fun h => h.moorHeard rx.conn rx.crcOk (fun h => h.moorTake rx.conn id (fun h => h))) s
/-- A VDM under an SVID other than Talviord's (R492). -/
def execMoorVdm (rx : MoorRx) (id : Fin 16) (svid : BitVec 16) (command mode : Byte) (data : Bytes) (s : State) :=
  onHub (fun h => h.moorHeard rx.conn rx.crcOk (fun h => h.moorTake rx.conn id (fun h => h.vdmOther rx.conn svid.toNat command.toNat mode.toNat data))) s
/-- MOORING_MSG_RETRY (R483). -/
def execMooringMsgRetry (c : Fin 2) (s : State) := onHub (fun h => h.moorRetry c) s
/-- CAPS_REPEAT (R484). -/
def execCapsRepeat (c : Fin 2) (s : State) := onHub (fun h => h.capsRepeat c) s
/-- PS_READY_TIMEOUT (R484). -/
def execPsReadyTimeout (c : Fin 2) (s : State) := onHub (fun h => h.psReadyTimeout c) s
/-- TRANSITION_START (R485). -/
def execTransitionStart (s : State) := onHub Hub.transitionStart s
/-- TRANSITION_DONE (R485). -/
def execTransitionDone (s : State) := onHub Hub.transitionDone s
/-- LIMP_ATTENTION (R492). -/
def execLimpAttention (s : State) := onHub Hub.limpAttention s
/-- MOOR_FEED_SWITCH (R490), with the feeds that are good. -/
def execMoorFeedSwitch (good : Fin 4) (s : State) := onHub (fun h => h.feedLost good) s
/-- FEED_BBM_END (R490). -/
def execFeedBbmEnd (s : State) := onHub Hub.bbmEnd s
/-- FEED_RETURN (R490). -/
def execFeedReturn (s : State) := onHub Hub.feedReturn s
/-- MOOR_RENEGOTIATE as its own row. -/
def execMoorRenegotiate (req : Path) (c : Fin 8) (tag : BitVec 16) (args : Bytes) (s : State) :=
  onCommand 0x0A00 req c tag.toNat args (fun h => h.cmdMoorRenegotiate req c tag.toNat args) s
/-- MOOR_REQUEST as its own row. -/
def execMoorRequest (req : Path) (c : Fin 8) (tag : BitVec 16) (args : Bytes) (s : State) :=
  onCommand 0x0A01 req c tag.toNat args (fun h => h.cmdMoorRequest req c tag.toNat args) s
/-- MOOR_HARD_RESET as its own row. -/
def execMoorHardReset (req : Path) (c : Fin 8) (tag : BitVec 16) (args : Bytes) (s : State) :=
  onCommand 0x0A02 req c tag.toNat args (fun h => h.cmdMoorHardReset req c tag.toNat args) s
/-- MOOR_RESUME as its own row. -/
def execMoorResume (req : Path) (c : Fin 8) (tag : BitVec 16) (args : Bytes) (s : State) :=
  onCommand 0x0A03 req c tag.toNat args (fun h => h.cmdMoorResume req c tag.toNat args) s
/-- MOOR_SEND_VDM as its own row. -/
def execMoorSendVdm (req : Path) (c : Fin 8) (tag : BitVec 16) (args : Bytes) (s : State) :=
  onCommand 0x0A04 req c tag.toNat args (fun h => h.cmdMoorSendVdm req c tag.toNat args) s
/-- MOOR_HOLD_OFF with 1 (R499). -/
def execMoorHoldOff (req : Path) (c : Fin 8) (tag : BitVec 16) (s : State) := onCommand 0x0A05 req c tag.toNat (u8 1) (fun h => h.cmdMoorHoldOff req c tag.toNat (u8 1)) s
/-- MOOR_HOLD_OFF with 0. -/
def execMoorHoldRelease (req : Path) (c : Fin 8) (tag : BitVec 16) (s : State) := onCommand 0x0A05 req c tag.toNat (u8 0) (fun h => h.cmdMoorHoldOff req c tag.toNat (u8 0)) s

end Sys2Proof.Machine
end

