-- ==== Sys2Proof/Machine/Timebase.lean ====
section
/-!
DEFINITION. The timebase of a follower, the delay probes, the segments of the distributed bearings, and the Beacon's
commands (R279 to R306).
-/

namespace Sys2Proof.Machine

/-! ### CLOCK (R290, R294) -/

/-- What the servo has added to CLOCK once k units of its superframe have passed (R294, log 35). -/
def BcnSt.slewed (x : BcnSt) (k : Nat) : Int := x.servo * (k : Int) / (sfUnits : Nat)

/-- n units of 0.1 ns pass. While a backward correction is being absorbed CLOCK runs at half rate: `slew` counts the units that this still
takes. In LOCKED the servo adds its error over the superframe. -/
def Hub.pass (h : Hub) (n : Nat) : Hub :=
  let b := h.bcn
  let s := b.slew
  let k := min s n
  let r := min sfUnits (b.servoRun + n)
  let extra := b.slewed r - b.slewed b.servoRun
  { h with clock := ((h.clock + ((s + 1) / 2 - (s - k + 1) / 2) + (n - k) : Nat) + extra).toNat, bcn := { b with slew := s - k, servoRun := r } }

/-- CLOCK reaches an instant, where it has not passed it: so much of a correction is absorbed, and of the servo's error added, meanwhile. -/
def Hub.reach (h : Hub) (t : Nat) : Hub :=
  let b := h.bcn
  let n := t - h.clock
  let run := ((n : Int) * (sfUnits : Nat) / ((sfUnits : Nat) + b.servo)).toNat
  { h with clock := max h.clock t, bcn := { b with slew := b.slew - 2 * n, servoRun := min sfUnits (b.servoRun + run) } }

/-! ### Delay probes (R292, R293, R296) -/

/-- Delay measurement of link p. -/
def Hub.probe (h : Hub) (p : Nat) : ProbeSt := h.bcn.probes.get ProbeSt.init p

/-- Replace the delay measurement of link p. -/
def Hub.setProbe (h : Hub) (p : Nat) (x : ProbeSt) : Hub := { h with bcn := { h.bcn with probes := h.bcn.probes.set ProbeSt.init p x } }

/-- Units of 10 ps as units of 100 ps, rounded; a negative delay reads 0. -/
def tenths (v : Int) : Nat := ((v + 5) / 10).toNat

/-- The mean of the accepted values in 10 ps units. -/
def ProbeSt.mean (x : ProbeSt) : Int := x.values.foldl (fun a b => a + b) 0 / (max 1 x.values.length : Nat)

/-- LINK_DELAY of link p in 100 ps units, 0 when unmeasured (R293, R303). -/
def Hub.linkDelay (h : Hub) (p : Nat) : Nat := tenths (h.probe p).mean

/-- S: what the upstream hub reports plus LINK_DELAY; a source has its own, 0 unless it took over in a swap (R291, R459). -/
def Hub.offsetS (h : Hub) : Nat :=
  match h.followPort with
  | some p => (h.probe p).farOffset + h.linkDelay p
  | none => h.bcn.offsetHeld

/-- A probe request leaves on link p (R292). One that would exceed the pace of R124 is not formed: it waits for the next superframe,
where it is due again, and departs, with its timestamp, then. -/
def Hub.probeSend (h : Hub) (p : Nat) : Hub :=
  let x := h.probe p
  let q := (x.seq + 1) % 16
  if !h.running p || !decide ((h.link p).paced < h.paceLimit p) then h
  else
    (h.setProbe p { x with out := some (q, h.clock), seq := q }).pacedOut p (h.zeroLane p) (probeBytes false false q 0 0)

/-- A request of link p is due in this superframe (R293, R306). -/
def Hub.probeDue (h : Hub) (p : Nat) : Bool :=
  let periodic := decide (h.links.sf % max 1 (h.val (Od.prbProbePeriod p)) = 0)
  ((h.probe p).command.isSome && (h.probe p).out.isNone) ||
  (decide (h.followPort = some p) && (decide (h.bcn.timebase = .acquiring) || periodic)) ||
  (h.pairBuoy && decide (p < 2) && periodic)

/-- Probes of a superframe. -/
def Hub.probesRun (h : Hub) : Hub := [0, 1, 2].foldl (fun h p => if h.probeDue p then h.probeSend p else h) h

/-- A delay value of link p enters the filter (R293). -/
def Hub.probeValue (h : Hub) (p : Nat) (v : Int) : Hub :=
  let x := h.probe p
  if x.values ≠ [] ∧ 200 < (v - x.mean).natAbs then
    let rejects := v :: x.rejects
    let y : ProbeSt := if 4 ≤ rejects.length then { x with values := rejects, rejects := [] } else { x with rejects := rejects }
    (((h.setProbe p y).bump (Od.prbProbesRejected p) 32 1).flag Rg.bcnFlags 7).fire Ev.probeReject (u8 p)
  else
    let h1 := h.setProbe p { x with values := (v :: x.values).take (h.val (Od.prbProbeAvg p)), rejects := [] }
    if h.followPort = some p ∧ h.bcn.timebase = .acquiring then
      { h1 with bcn := { h1.bcn with acceptedRun := h1.bcn.acceptedRun + 1 } } else h1

/-- The exchange of the next PROBE_NOW that waits for link p begins (R306). -/
def Hub.probeNext (h : Hub) (p : Nat) : Hub :=
  let x := h.probe p
  match x.command, x.commands with
  | none, c :: rest => (h.setProbe p { x with out := none, command := some c, commands := rest }).probeSend p
  | _, _ => h

/-- A response arrives (R292, R293): t4 is now. -/
def Hub.probeResponse (h : Hub) (p seq : Nat) (upLocked : Bool) (turn offset : Nat) : Hub :=
  let x := h.probe p
  match x.out with
  | none => h
  | some (q, t1) =>
    if q ≠ seq then h
    else
      let rtt : Int := ((h.clock - t1 : Nat) : Int) - turn
      let v := 5 * rtt + toSigned 32 (h.val (Od.prbAsymTrim p))
      let y := { x with out := none, command := none, lastRtt := ofSigned 32 rtt, farOffset := offset, upLocked := upLocked }
      let h1 := ((h.setProbe p y).tally 0x0605 p 1).probeValue p v
      (h1.doneOpt x.command 0 (u32 (ofSigned 32 rtt) ++ u32 (tenths v))).probeNext p

/-- A request arrives and is answered (R292): TURN is as the hardware finds it. -/
def Hub.probeRequest (h : Hub) (p seq : Nat) : Hub :=
  let o := h.open_ 32
  let locked := h.isRoot || decide (h.bcn.timebase = .locked)
  if h.running p then o.1.pacedOut p (h.zeroLane p) (probeBytes true locked seq o.2 (if h.upEnd p then h.offsetS else 0)) else h

/-- The PROBE_NOW under way on link p fails (R306): no value enters the filter. -/
def Hub.probeFail (h : Hub) (p : Nat) : Hub :=
  let x := h.probe p
  match x.command with
  | some c => ((h.setProbe p { x with out := none, command := none }).done c (abFailed 1) []).probeNext p
  | none => h

/-- Every PROBE_NOW of link p fails: the link has left RUNNING (R306). -/
def Hub.probesFail (h : Hub) (p : Nat) : Hub :=
  let x := h.probe p
  let l := x.command.toList ++ x.commands
  if l = [] then h
  else l.foldl (fun h c => h.done c (abFailed 1) []) (h.setProbe p { x with out := none, command := none, commands := [] })

/-! ### Timebase states (R291) -/

/-- VALID or HOLDOVER. -/
def BearingState.good (s : BearingState) : Bool := decide (s = .valid) || decide (s = .holdover)

/-- Lamps follow what has become of the bearings (R327, R329); `before` is the hub before the change. -/
def Hub.bearingsMoved (h before : Hub) : Hub :=
  let lost := [0, 1, 2, 3].filter (fun b => (before.bearingState b).good && !(h.bearingState b).good)
  let won := [0, 1, 2, 3].any (fun b => decide (h.bearingState b = .valid) && decide (before.bearingState b ≠ .valid))
  let h1 := lost.foldl (fun h b => h.lampsGuard b) h
  if won then h1.lampsAutoAll else h1

/-- SAMPLE_FULL is read from the hub one hop upstream, unless a read is under way (R288). -/
def Hub.askSample (h : Hub) : Hub :=
  if h.ctl.requests.any (fun r => decide (r.index = 0x4040) && !r.byMailbox) then h
  else match h.followPort with
  | some p => (h.sysAsk (if p = 2 then 0x30 else 0x41) false 0x4040 1 none).1
  | none => h

/-- ACQUIRING begins (R291, R294). -/
def Hub.acquire (h : Hub) : Hub :=
  let h1 : Hub := { h with bcn := { h.bcn with timebase := .acquiring, acceptedRun := 0, sampleFull := false, correction := none, slew := 0, servo := 0 } }
  h1.bearingsMoved h

/-- The link of port p has entered RUNNING (R291, R296). -/
def Hub.followUp (h : Hub) (p : Nat) : Hub :=
  let x := h.probe p
  let h1 := h.setProbe p { x with out := none, values := [], rejects := [] }
  if h.followPort = some p then h1.acquire.askSample else h1

/-- The link of port p has left RUNNING; `down` when it went DOWN (R291, R306). -/
def Hub.followDown (h : Hub) (p : Nat) (down : Bool) : Hub :=
  let h1 := h.probesFail p
  if down && decide (h.followPort = some p) && (decide (h.bcn.timebase = .locked) || decide (h.bcn.timebase = .holdover)) then h1.acquire
  else h1

/-- The timebase of a hub whose primary upstream port is now p (R293): it stays LOCKED with the other port's S. -/
def Hub.followTurn (h : Hub) (p : Nat) : Hub :=
  if h.bcn.timebase = .free ∧ h.running p then h.acquire.askSample else h

/-- CLOCK is corrected by e, and CLOCK_STEP says so (R294): forward it steps; backward it runs at half rate until e is absorbed, which takes
twice as long. -/
def Hub.correctClock (h : Hub) (p : Nat) (e : Int) : Hub :=
  if e = 0 then h
  else
    let b := { h.bcn with lastStep := Int.tdiv e 10 }
    let h1 : Hub :=
      if 0 < e then { h with clock := h.clock + e.toNat, bcn := { b with stepFrom := h.clock, stepTo := h.clock + e.toNat } }
      else { h with bcn := { b with slew := 2 * e.natAbs } }
    (h1.flag Rg.bcnFlags 6).fire Ev.clockStep (u8 p ++ u64 (ofSigned 64 (Int.tdiv e 10)))

/-- The timebase enters LOCKED (R291, R297). -/
def Hub.enterLocked (h : Hub) (p : Nat) : Hub :=
  let h1 : Hub := { h with bcn := { h.bcn with timebase := .locked, undecoded := 0, shadowRef := h.bcn.shadowDiff } }
  (h1.fire Ev.bcnLocked (u8 p)).bearingsMoved h

/-- The conditions of R294 hold but for the correction, which is made; once it is complete the timebase is LOCKED. A backward one takes its
time: it is complete when nothing is left to absorb. -/
def Hub.timebaseLock (h : Hub) : Hub :=
  match h.followPort, h.bcn.correction with
  | some p, some e =>
    if h.bcn.timebase = .acquiring ∧ 4 ≤ h.bcn.acceptedRun ∧ (h.probe p).upLocked ∧ h.bcn.sampleFull ∧ h.bcn.slew = 0 then
      let h1 := h.correctClock p e
      if e < 0 then { h1 with bcn := { h1.bcn with correction := some 0 } }
      else ({ h1 with bcn := { h1.bcn with correction := none } } : Hub).enterLocked p
    else h
  | _, _ => h

/-- The timebase leaves LOCKED for HOLDOVER (R291). -/
def Hub.enterHoldover (h : Hub) : Hub :=
  let h1 : Hub := { h with bcn := { h.bcn with timebase := .holdover, heldFor := 0 } }
  ((h1.flag Rg.bcnFlags 4).fire Ev.bcnHoldover (u8 3)).bearingsMoved h

/-! ### Segments (R285, R289) -/

/-- The sign of a movement. -/
def sign (i : Int) : Int := if 0 < i then 1 else if i < 0 then -1 else 0

/-- What a bearing becomes at A(F) where the next point Q(F + 1) is held, or not (R289): the bearing, and 1 when it
moved to HOLDOVER, 2 when it became LOST. -/
def BearingSt.segment (x : BearingSt) (f maxHold : Nat) : BearingSt × Nat :=
  let valid : Option Bool := (pointOf f x.points).map (·.2)
  let lostBit : Bool := decide (valid = some false)
  match pointOf (f + 1) x.points with
  | some (q, _) =>
    let held := decide (x.state = .lost) && x.lostByMissing && decide (x.accepted = 0)
    let to_ := if held then x.to_ else q
    let start := if x.state = .off then ((pointOf f x.points).map (·.1)).getD q else x.to_
    let st : BearingState :=
      if lostBit then (if x.state = .off then .off else .lost)
      else match x.state with
        | .off => if valid = some true then .valid else .off
        | .holdover => if 2 ≤ x.accepted then .valid else .holdover
        | .lost => if x.lostByMissing then (if 2 ≤ x.accepted then .valid else .lost) else (if valid = some true then .valid else .lost)
        | s => s
    ({ x with
        from_ := start, to_ := to_, state := st, missing := 0, accepted := x.accepted + 1,
        lostByMissing := decide (st = .lost) && !lostBit && x.lostByMissing,
        dir := if to_ = start then x.dir else sign (to_ - start) },
      if st = .lost ∧ x.state ≠ .lost then 2 else 0)
  | none =>
    let missing := x.missing + 1
    let guess := (predict (f + 1) x.points).map (fun q => match pointOf f x.points with
      | some p => directed x.dir p.1 q
      | none => q)
    let tooMany := decide (maxHold < missing)
    let st : BearingState :=
      if x.state = .off then .off
      else if lostBit || tooMany then .lost
      else if x.state = .lost then .lost
      else .holdover
    let to_ := if st = .holdover then guess.getD x.to_ else x.to_
    let points := match guess with
      | some q => ((f + 1, q, valid.getD true) :: x.points).take 4
      | none => x.points
    ({ x with
        from_ := x.to_, to_ := to_, state := st, missing := missing, accepted := 0, points := points,
        lostByMissing := decide (st = .lost) && !lostBit && (tooMany || x.lostByMissing) },
      if st = .lost ∧ x.state ≠ .lost then 2 else if st = .holdover ∧ x.state ≠ .holdover then 1 else 0)

/-- Bearing b begins its segment (R289). The direction of a source is that of its estimate. -/
def Hub.segmentStart (h : Hub) (f b : Nat) : Hub :=
  let x := h.bearing b
  let r := x.segment f (h.val Od.bcnMaxHoldover)
  let y : BearingSt := if h.estimates then { r.1 with dir := x.dir } else r.1
  let h1 := h.setBearing b y
  let h2 := if (pointOf (f + 1) x.points).isNone ∧ !h.isSource then h1.tally 0x0603 b 1 else h1
  if r.2 = 1 then ((h2.flag Rg.bcnFlags 4).tally 0x0604 b 1).fire Ev.bcnHoldover (u8 b)
  else if r.2 = 2 ∧ !h.isSource then (h2.flag Rg.bcnFlags 5).fire Ev.bearingLost (u8 b)
  else h2

/-- A new segment begins at A(F) on CLOCK (R285, R289). -/
def Hub.segmentNext (h : Hub) : Hub :=
  let s := max (h.bcn.seg + 1) (h.clock / sfUnits)
  let h1 := h.reach (s * sfUnits)
  let h2 : Hub := { h1 with bcn := { h1.bcn with seg := s } }
  ([0, 1, 2].foldl (fun h b => h.segmentStart (s - 2) b) h2).bearingsMoved h

/-! ### The source's own bearings -/

/-- No edge for STANDSTILL_TIME (R280): V is 0, so X is that of the last edge, and the direction is standstill. -/
def Hub.standstill (h : Hub) (b : Nat) : Hub :=
  let x := h.bearing b
  if !h.estimates || x.inputInUse.isNone || x.still then h
  else
    ((h.setBearing b { x with vNum := 0, vDen := 1, still := true, edges := [] }).flag Rg.bcnFlags 1).fire
      Ev.bcnStandstill (u8 b)

/-- The bearing has sources and none of them runs (R283). -/
def Hub.sourceLost (h : Hub) (b : Nat) : Bool :=
  (h.wantedInput b).isNone && (decide (h.val (Od.srcPrimary b) < 8) || (decide (b = 0) && decide (h.val (Od.srcSecondary 0) < 8)))

/-- The fault of an input is cleared. -/
def Hub.encClear (h : Hub) (n : Nat) : Hub :=
  let x := h.encoder n
  if n < 8 ∧ x.state = .faulted then
    h.setEncoder n { x with state := if h.val (Od.encMode n) = 0 then .off else .running, faultCause := 0, zMiss := 0, qerrTimes := [] }
  else h

/-- BEARING_RESTORE acts (R283, R306). -/
def Hub.restoreStart (h : Hub) (b c : Nat) : Hub :=
  if !h.sourceLost b then h.done c 0 (u8 (h.bearingState b).code)
  else
    let h1 := h.encClear (h.val (Od.srcPrimary b))
    let h2 := (if b = 0 then h1.encClear (h.val (Od.srcSecondary 0)) else h1).resource b
    { h2 with bcn := { h2.bcn with restores := h2.bcn.restores ++ [(b, h2.clock + 100000000, c)] } }

/-- The direction of bearing b (R280, R281, R300): of its estimate, standstill without a source; at a follower that of log 36. -/
def Hub.bearingDir (h : Hub) (b : Nat) : Int :=
  let x := h.bearing b
  if h.estimates && (x.still || x.inputInUse.isNone) then 0 else x.dir

/-- LOCAL_VALUE of bearing b (R300). -/
def Hub.localValue (h : Hub) (b : Nat) : Nat := if h.estimates then ofSigned 64 ((h.bearing b).at_ h.clock / 65536) else 0

/-- TIMEBASE_STATE (R299). -/
def TimebaseState.code : TimebaseState → Nat
  | .free => 0 | .acquiring => 1 | .locked => 2 | .holdover => 3

/-- The result of BEACON_CAPTURE (R305). -/
def Hub.captureData (h : Hub) (at_ : Nat) : Bytes :=
  u64 at_ ++ u8 h.bcn.timebase.code ++ ([0, 1, 2].map (fun b => BitVec.ofNat 8 (h.bearingState b).code)) ++
    ([0, 1, 2].map (fun b => u64 (ofSigned 64 (h.bearingNow b)))).flatten ++
    ([0, 1, 2].map (fun b => u64 (h.localValue b))).flatten ++
    ((List.range 8).map (fun n => u64 (ofSigned 64 (h.encoder n).count))).flatten

/-- The capture with the earliest instant. -/
def firstCapture : List Capture → Option Capture
  | [] => none
  | a :: t => match firstCapture t with
    | some b => if b.at_ < a.at_ then some b else some a
    | none => some a

/-- CLOCK reaches the AT of the earliest capture (R306). -/
def Hub.captureFire (h : Hub) : Hub :=
  match firstCapture h.bcn.captures with
  | none => h
  | some x =>
    let h1 := h.reach (x.at_ * 10)
    let h2 : Hub := { h1 with bcn := { h1.bcn with captures := h1.bcn.captures.filter (fun y => decide (y.channel ≠ x.channel)) } }
    h2.done x.channel 0 (h2.captureData x.at_)

/-! ### Commands -/

/-- BEARING_RESTORE, code 0x0700 (R305). -/
def Hub.cmdBearingRestore (h : Hub) (req : Path) (c tag : Nat) (args : Bytes) : Hub :=
  h.issue req c 0x0700 tag args (firstAbort [argLen args 1, (decide (2 < field args 0 1), abArg 4)])
    (firstState [(!h.isSource, stNotRoot)]) (fun h => h.restoreStart (field args 0 1) c)

/-- BEACON_CAPTURE, code 0x0701 (R305, R306). -/
def Hub.cmdBeaconCapture (h : Hub) (req : Path) (c tag : Nat) (args : Bytes) : Hub :=
  let at_ := field args 0 8
  h.issue req c 0x0701 tag args
    (firstAbort [argLen args 8, (decide (at_ * 10 < h.clock + 10000) || decide (h.clock + 100000000000 < at_ * 10), abArg 4)]) none
    (fun h => { h with bcn := { h.bcn with captures := h.bcn.captures ++ [⟨at_, c⟩] } })

/-- PROBE_NOW, code 0x0702 (R305, R306). -/
def Hub.cmdProbeNow (h : Hub) (req : Path) (c tag : Nat) (args : Bytes) : Hub :=
  let p := field args 0 1
  h.issue req c 0x0702 tag args (firstAbort [argLen args 1, (decide (2 < p), abArg 4)]) (firstState [(!h.running p, stLinkDown)])
    (fun h => (h.setProbe p { h.probe p with commands := (h.probe p).commands ++ [c] }).probeNext p)

/-! ### Meanings -/

/-- ENCODER_EDGE (R273 to R282): levels accepted `lapse` units of 0.1 ns after the command before. -/
def execEncoderEdge (n : Fin 8) (a b z : Bool) (lapse : Word) (s : State) :=
  onHub (fun h => (h.pass lapse.toNat).encoderEdge n.val a b z) s

/-- BCN_STANDSTILL (R280). -/
def execBcnStandstill (b : Fin 3) (s : State) := onHub (fun h => h.standstill b.val) s

/-- BEARING_SEGMENT_START (R285, R289). -/
def execBearingSegmentStart (s : State) := onHub (fun h => h.segmentNext) s

/-- DELAY_PROBE_REQUEST (R292). -/
def execDelayProbeRequest (rx : BlockRx) (seq : Fin 16) (s : State) :=
  onHub (fun h => h.heard rx.port rx.crcOk (fun h => h.probeRequest rx.port seq.val)) s

/-- DELAY_PROBE_RESPONSE (R293): it arrives `lapse` units of 0.1 ns after the command before. -/
def execDelayProbeResponse (rx : BlockRx) (seq : Fin 16) (upLocked : Bool) (turn offset lapse : Word) (s : State) :=
  onHub (fun h => (h.pass lapse.toNat).heard rx.port rx.crcOk (fun h => h.probeResponse rx.port seq.val upLocked turn.toNat offset.toNat)) s

/-- TIMEBASE_LOCK (R294). -/
def execTimebaseLock (s : State) := onHub (fun h => h.timebaseLock) s

/-- BEARING_RESTORE (R306). -/
def execBearingRestore (req : Path) (c : Fin 8) (tag : BitVec 16) (args : Bytes) (s : State) :=
  onCommand 0x0700 req c.val tag.toNat args (fun h => h.cmdBearingRestore req c.val tag.toNat args) s

/-- BEACON_CAPTURE (R306). -/
def execBeaconCapture (req : Path) (c : Fin 8) (tag : BitVec 16) (args : Bytes) (s : State) :=
  onCommand 0x0701 req c.val tag.toNat args (fun h => h.cmdBeaconCapture req c.val tag.toNat args) s

/-- BEACON_CAPTURE_FIRE (R306). -/
def execBeaconCaptureFire (s : State) := onHub (fun h => h.captureFire) s

/-- PROBE_NOW (R306). -/
def execProbeNow (req : Path) (c : Fin 8) (tag : BitVec 16) (args : Bytes) (s : State) :=
  onCommand 0x0702 req c.val tag.toNat args (fun h => h.cmdProbeNow req c.val tag.toNat args) s

/-- PROBE_NOW_TIMEOUT (R306). -/
def execProbeNowTimeout (p : Fin 3) (s : State) := onHub (fun h => h.probeFail p.val) s

/-- CLOCK_LO_READ (R304): CLOCK_HI and the BEARING registers are latched at the same instant. -/
def execClockLoRead (s : State) :=
  onHub (fun h =>
    let put (b : Nat) (t : Tab Nat) : Tab Nat := t.set 0 b (ofSigned 64 (h.bearingNow b))
    let h1 : Hub := { h with bcn := { h.bcn with latchedHi := h.ns / 2 ^ 32 % 2 ^ 32, latchedBearing := put 2 (put 1 (put 0 h.bcn.latchedBearing)) } }
    h1.emit (.value (trunc 32 h.ns))) s

end Sys2Proof.Machine
end

