-- ==== Sys2Proof/Machine/PairBase.lean ====
section
/-!
DEFINITION. What every chapter needs of the redundant pair: pair messages, the mirror as a whole, the primary upstream port
of a BUOY, and a swap that loses a hub, is decided or is abandoned (R446 to R456).
-/

namespace Sys2Proof.Machine

/-- The code of a mode (R13, R17). -/
def Mode.code : Mode → Nat
  | .bench => 0 | .lighthouse => 1 | .standby => 2 | .lightship => 3 | .buoy => 4 | .foghorn => 5 | .strapFault => 7

/-- A root or a BUOY of a pair (R445). -/
def Hub.pairMember (h : Hub) : Bool := h.mode.pairConfig || h.pairBuoy

/-- PAIR_STATE (R466). -/
def Hub.pairCode (h : Hub) : Nat :=
  if h.pairBuoy then 6
  else if !h.mode.pairConfig then 0
  else if h.swapping then 5
  else if h.mode.active = .lighthouse then 2
  else if h.pair.state = .joining then 1
  else if h.pair.inStep then 3 else 4

/-- An event of R469: the epoch and LAST_SWAP_CAUSE. -/
def Hub.pairEvent (h : Hub) (src : Nat) : Hub := h.fire src (u32 h.pair.epoch ++ u8 h.pair.lastCause)

/-! ### Messages (R449) -/

/-- DATA of a pair message. -/
def Hub.pairData (h : Hub) (epoch sf kind : Nat) : Bytes :=
  let flags := b2n (h.pairBuoy && h.pair.ownHears) + 2 * b2n (decide (h.mode.active = .standby) && h.pair.inStep)
  u32 epoch ++ u32 sf ++ u8 kind ++ u8 h.mode.active.code ++ u8 flags ++ u8 h.mode.strap.toNat ++ u64 Config.serial ++
    u64 h.pair.primarySerial

/-- A pair message goes out by a port whose SYSTEM tunnel is OPEN. -/
def Hub.pairSend (h : Hub) (p op epoch sf kind : Nat) : Hub :=
  let d := h.pairData epoch sf kind
  if h.sysOpen p then ((h.emit (.sysData p op d)).pairPut p (BitVec.ofNat 8 op) d).tally 0x0C01 0 1 else h

/-- ROLE_ANNOUNCE on one port. -/
def Hub.announce (h : Hub) (p : Nat) : Hub := if h.pairMember then h.pairSend p 0x30 h.pair.epoch 0 0 else h

/-- ROLE_ANNOUNCE on every link. -/
def Hub.announceAll (h : Hub) : Hub := [0, 1, 2].foldl (fun h p => h.announce p) h

/-- HEARS of a BUOY changes (R449, R456). -/
def Hub.setHears (h : Hub) (v : Bool) : Hub :=
  if h.pairBuoy ∧ h.pair.ownHears ≠ v then ({ h with pair := { h.pair with ownHears := v } } : Hub).announceAll else h

/-! ### The mirror (R450, R451) -/

/-- The mirror is no longer in step, or a copy is cut short: what waited ends as it would without a mirror. -/
def Hub.mirrorLost (h : Hub) : Hub :=
  if !h.pair.inStep && h.pair.resync.isNone then h
  else
    let ends := h.pair.unacked.flatMap (·.2)
    let c := h.pair.resyncCommand
    let h1 : Hub := { h with pair := { h.pair with inStep := false, resync := none, resyncCommand := none, unacked := [] } }
    ((ends.foldl (fun h e => h.runEnd e) h1).doneOpt c (abFailed 1) []).pairEvent Ev.mirrorStale

/-- What the mirror says of a daymark (R450). -/
def Daymark.image (d : Daymark) : Nat × Bytes × Bool × Nat × Nat :=
  (d.gen, d.entry, d.trailing, d.order, match d.source with
    | some s => s + 1
    | none => 0)

/-- The entries that are mirrored (R450). -/
def mirroredKey (key : Nat) : Bool :=
  let i := key / 256
  (decide (0x3400 ≤ i) && decide (i ≤ 0x34FF)) || (decide (0x3800 ≤ i) && decide (i ≤ 0x38FF)) || (decide (0x4000 ≤ i) && decide (i ≤ 0x4040))

/-- The records of a full copy (R451). -/
def Hub.copyRecords (h : Hub) : List MirrorRec :=
  [.copyStart] ++ h.ctxList.map (fun c => .context c.1 (h.ctxImage c.1)) ++
    (h.od.cells.filter (fun c => mirroredKey c.1)).map (fun c => .value c.1 c.2) ++
    h.dm.slots.map (fun d => .daymark d.slot (some d.image)) ++
    (List.range 24).map (fun l => .lamp l (h.lamp l).level) ++ [.copyDone]

/-- A full copy starts (R451, R467). -/
def Hub.fullCopy (h : Hub) (command : Option Nat) : Hub :=
  if !h.mirroring then h
  else
    let l := h.copyRecords
    let h1 : Hub := { h with pair := { h.pair with resync := some l.length, resyncCommand := command } }
    (l.foldl (fun h r => h.mirrorNote r) h1).tally 0x0C03 0 1

/-! ### The primary upstream port of a BUOY (R448) -/

/-- While no epoch has been heard, the port whose far hub is LIGHTHOUSE becomes the primary upstream port. -/
def Hub.choosePrimary (h : Hub) (p : Nat) : Hub :=
  if h.pairBuoy ∧ p < 2 ∧ h.pair.primaryPort = none ∧ (h.link p).farMode = some 1 then
    { h with pair := { h.pair with primaryPort := some p } }
  else h

/-! ### A swap in progress (R454) -/

/-- The swap is over at this hub; holds are lifted. -/
def Hub.swapClear (h : Hub) : Hub := { h with pair := { h.pair with swap := none, prepTimer := false } }

/-- The candidate sends a message to every hub that takes part. -/
def Hub.swapTell (h : Hub) (ports : List Nat) (op epoch sf kind : Nat) : Hub :=
  ports.foldl (fun h p => if h.running p then h.pairSend p op epoch sf kind else h) h

/-- The swap is abandoned, unless it is decided (R454): a candidate says so with SWAP_ABORT. -/
def Hub.swapAbandon (h : Hub) (status : Nat) : Hub :=
  match h.pair.swap with
  | none => h
  | some w =>
    if w.commitSf.isSome then h
    else
      let h1 := if w.candidate then h.swapTell (w.awaited ++ w.ready) 0x35 w.epoch 0 (if w.commanded then 1 else 2) else h
      (h1.swapClear.doneOpt w.command status []).pairEvent Ev.pairSwapAborted

/-- The commit decision, once every answer is held (R454). -/
def Hub.swapDecide (h : Hub) : Hub :=
  match h.pair.swap with
  | some w =>
    if w.candidate ∧ w.awaited = [] ∧ w.commitSf = none then
      let sf := (h.links.sf + h.val Od.pairSwapLead) % 2 ^ 32
      let h1 : Hub := { h with pair := { h.pair with swap := some { w with commitSf := some sf }, prepTimer := false } }
      h1.swapTell w.ready 0x34 w.epoch sf (if w.commanded then 1 else 2)
    else h
  | none => h

/-- A link has left RUNNING: its hub is no longer awaited (R454). -/
def Hub.swapLose (h : Hub) (p : Nat) : Hub :=
  match h.pair.swap with
  | some w =>
    if w.candidate ∧ w.commitSf = none ∧ p ∈ w.awaited ++ w.ready then
      let h1 : Hub := { h with pair := { h.pair with swap := some { w with awaited := w.awaited.filter (fun q => decide (q ≠ p)), ready := w.ready.filter (fun q => decide (q ≠ p)) } } }
      h1.swapDecide
    else h
  | none => h

end Sys2Proof.Machine
end

