-- ==== Sys2Proof/Machine/EventUnit.lean ====
section
/-!
DEFINITION. The event unit (chapter 18): rings, records, end of interrupt, PENDING and MASK, the hold, and EVENT_RAISE.
-/

namespace Sys2Proof.Machine

/-- Ring r. -/
def Hub.ring (h : Hub) (r : Nat) : Ring := h.evt.rings.get Ring.init r

/-- Replace ring r. -/
def Hub.setRing (h : Hub) (r : Nat) (x : Ring) : Hub := { h with evt := { h.evt with rings := h.evt.rings.set Ring.init r x } }

/-- The running priority of a ring (R533). -/
def Ring.running (x : Ring) : Nat := match x.stack with
  | [] => 0
  | (_, p) :: _ => p

/-- EVT_CFG of a source (R530): its dictionary entry. -/
def Hub.evtCfg (h : Hub) (s : Nat) : Nat := h.val (Od.evtEvtCfg (s / 128) (s % 128))

/-- PRIORITY of a source. -/
def Hub.evtPriority (h : Hub) (s : Nat) : Nat := bits 3 0 (h.evtCfg s)

/-- The source is on a stack (R533). -/
def Hub.evtActive (h : Hub) (s : Nat) : Bool := h.evt.rings.cells.any (fun c => c.2.stack.any (fun e => e.1 = s))

/-- The source is masked, or of a word under a hold (R542, R544). -/
def Hub.evtBlocked (h : Hub) (s : Nat) : Bool :=
  bit (s % 32) (h.val (Od.evtMaskWord (s / 32))) || (match h.evt.hold with
    | some x => decide (x.word = s / 32)
    | none => false)

/-- The source may be chosen on ring r (R532, R533). -/
def Hub.evtEligible (h : Hub) (r s : Nat) : Bool :=
  decide (0 < h.evt.held s) && decide (bits 5 4 (h.evtCfg s) = r) && !h.evtBlocked s && !h.evtActive s &&
    decide ((h.ring r).running < h.evtPriority s) && (bit 6 (h.evtCfg s) || decide ((h.ring r).stack.length < 8))

/-- Whether source a goes before source b on a ring: priority, then an active state just ended, then the number (R532). -/
def Hub.evtBefore (h : Hub) (r a b : Nat) : Bool :=
  let pa := h.evtPriority a
  let pb := h.evtPriority b
  let ea := decide (a ∈ (h.ring r).ended)
  let eb := decide (b ∈ (h.ring r).ended)
  decide (pb < pa) || (decide (pa = pb) && ((ea && !eb) || (decide (ea = eb) && decide (a < b))))

/-- The winner among the sources that hold details. -/
def Hub.evtWinner (h : Hub) (r : Nat) : List Detail → Option Nat
  | [] => none
  | d :: t =>
    match Hub.evtWinner h r t with
    | none => if h.evtEligible r d.source then some d.source else none
    | some w => if h.evtEligible r d.source && h.evtBefore r d.source w then some d.source else some w

/-- Extension records of a detail (R536). -/
def Detail.ext (d : Detail) : Nat := (d.data.length - 8 + 15) / 16

/-- The head record of a detail, 16 bytes (R536). -/
def Detail.record (d : Detail) (prio : Nat) (phase : Bool) : Bytes :=
  u8 d.source ++ u8 (prio + 16 * d.ext + 64 * b2n d.lost + 128 * b2n phase) ++ u8 (b2n d.soft + 2 * b2n d.wake) ++
    u8 d.count ++ u32 d.clock ++ (d.data ++ leBytes 8 0).take 8

/-- The extension records of a detail, 16 bytes each, without a header (R536). -/
def Detail.extRecords (d : Detail) : Bytes := (d.data.drop 8 ++ leBytes 16 0).take (16 * d.ext)

/-- The first detail of a source, and the others. -/
def takeOldest (s : Nat) : List Detail → Option Detail × List Detail
  | [] => (none, [])
  | d :: t => if d.source = s then (some d, t) else
    let r := takeOldest s t
    (r.1, d :: r.2)

/-- A pool entry is free: the oldest waiting firing takes it, ahead of every other (R535). -/
def EvtSt.freed (e : EvtSt) : EvtSt :=
  match e.waiting with
  | [] => e
  | d :: t => if e.details.length < 1024 then { e with details := e.details ++ [d], waiting := t } else e

/-- Keeper RAM: 256 KiB from Keeper address 0x1000_0000 (R1, R569). -/
def inKram (a : Nat) : Bool := decide (0x10000000 ≤ a) && decide (a < 0x10040000)

/-- Bytes written to Keeper RAM from an address up; there is nothing beyond its end. -/
def Hub.kramWrite (h : Hub) (a : Nat) : Bytes → Hub
  | [] => h
  | b :: t => Hub.kramWrite (if inKram a then { h with kram := h.kram.set 0 a b.toNat } else h) (a + 1) t

/-- The ring's next `n` records can be written: those of a ring in host memory where the host bridge issues them (`ok`), those of
a ring in Keeper RAM where they lie within it; a record outside it is taken as one that cannot be issued (log 53). -/
def Ring.reaches (x : Ring) (n : Nat) (ok : Bool) : Bool :=
  if x.inHost then ok else (List.range n).all (fun k => inKram (x.base + 16 * ((x.wr + k) % x.records)))

/-- Write records into a ring, one after another round its end: to Keeper RAM, or as posted writes to the host. -/
def Hub.ringWrite (h : Hub) (r : Nat) : Nat → Bytes → Hub
  | 0, _ => h
  | n + 1, b =>
    let x := h.ring r
    let a := x.base + 16 * x.wr
    let h1 := if x.inHost then h.emit (.pcie 1 a (b.take 16)) else h.kramWrite a (b.take 16)
    let wr := (x.wr + 1) % x.records
    Hub.ringWrite (h1.setRing r { x with wr := wr, phase := if wr = 0 then !x.phase else x.phase }) r n (b.drop 16)

/-- The domain of a ring's memory lets it run: KEEPER on, or HOST on with Bus Master Enable, outside FOGHORN (R539). -/
def Hub.ringRuns (h : Hub) (x : Ring) : Bool :=
  x.enable && !x.fault && (if x.inHost then h.domOn 11 && h.hb.busMaster && decide (h.mode.active ≠ .foghorn)
    else h.domOn 1)

/-- The winner's oldest detail is taken and written as records (R532, R533, R536 to R538, R541). A ring that has no room raises
EVT_RING_FULL as it becomes FULL (log 11). `ok` is false when a record
write to the host cannot be issued (R539). -/
def Hub.eventTake (h : Hub) (r : Nat) (ok : Bool) : Hub :=
  let x := h.ring r
  if !h.ringRuns x then h else
  match h.evtWinner r h.evt.details with
  | none => h.setRing r { x with ended := [] }
  | some s =>
    match takeOldest s h.evt.details with
    | (none, _) => h
    | (some d, rest) =>
      if x.records - 1 - x.used < 1 + d.ext then
        if x.full then h else ((h.setRing r { x with full := true }).flag Rg.evtFlags 0).fire Ev.evtRingFull []
      else if !x.reaches (1 + d.ext) ok then
        ((h.setRing r { x with fault := true }).flag Rg.evtFlags 1).fire Ev.evtRingFault (u8 r)
      else
        let p := h.evtPriority s
        let h1 := { h with evt := { h.evt with details := rest } }
        let h2 := { h1 with evt := h1.evt.freed }
        let h3 := h2.ringWrite r (1 + d.ext) (d.record p x.phase ++ d.extRecords)
        let y := h3.ring r
        let h4 := h3.setRing r { y with ended := [], stack := if bit 6 (h.evtCfg s) then y.stack else (s, p) :: y.stack }
        let h5 := if 0xF0 ≤ s then
            { h4 with evt := { h4.evt with wakeLatch := h4.evt.wakeLatch &&& ~~~(BitVec.ofNat 16 (2 ^ (s - 0xF0))) } } else h4
        if x.notify = 1 ∧ !x.nonEmpty then h5.msix x.vector else h5

/-- A write of EVR_EOI (R533). -/
def Hub.eventEoi (h : Hub) (r s : Nat) : Hub :=
  let x := h.ring r
  match x.stack with
  | (top, _) :: rest =>
    if top = s then h.setRing r { x with stack := rest, ended := s :: x.ended }
    else (h.flag Rg.evtFlags 3).fire Ev.evtEoiMismatch []
  | [] => (h.flag Rg.evtFlags 3).fire Ev.evtEoiMismatch []

/-- The path is shut out of a word by another path's hold (R544). -/
def Hub.holdBlocks (h : Hub) (o : HoldOwner) (w : Nat) : Bool :=
  match h.evt.hold with
  | some x => decide (x.word = w) && decide (x.owner ≠ o)
  | none => false

/-- A write that a hold shuts out is ignored and counted (R544). -/
def Hub.holdIgnored (h : Hub) : Hub := (h.bump Od.evtHoldIgnoredCount 32 1).flag Rg.evtFlags 5

/-- The first n details of a source go; the others stay. -/
def dropDetails (s : Nat) : Nat → List Detail → List Detail
  | _, [] => []
  | n, d :: t => if d.source = s ∧ 0 < n then dropDetails s (n - 1) t else d :: dropDetails s n t

/-- The details of a source that a PENDING write sees: all, or those queued before the hold of its word (R544). -/
def Hub.pendingSeen (h : Hub) (s : Nat) : Nat :=
  match h.evt.hold with
  | some x => if x.word = s / 32 then min (x.before.get 0 s) (h.evt.held s) else h.evt.held s
  | none => h.evt.held s

/-- One bit of a PENDING write (R542). -/
def Hub.pendingBit (h : Hub) (s : Nat) (v : Bool) : Hub :=
  if evtReserved s then h
  else
    let n := h.pendingSeen s
    if v ∧ h.evt.held s = 0 then h.fireWith s [] true false
    else if !v ∧ 0 < n then
      let h1 := { h with evt := { h.evt with details := dropDetails s n h.evt.details } }
      ({ h1 with evt := h1.evt.freed }).bump Od.evtEvtDiscarded 32 n
    else h

/-- The bits of a PENDING write from bit i - 1 down. -/
def Hub.pendingBits (h : Hub) (w v : Nat) : Nat → Hub
  | 0 => h
  | i + 1 => (Hub.pendingBits h w v i).pendingBit (32 * w + i) (bit i v)

/-- A write of a PENDING word by a path (R542, R544). -/
def Hub.pendingWrite (h : Hub) (o : HoldOwner) (w v : Nat) : Hub :=
  if h.holdBlocks o w then h.holdIgnored else h.pendingBits w v 32

/-- A write of a MASK word by a path (R542, R544). -/
def Hub.maskWrite (h : Hub) (o : HoldOwner) (w v : Nat) : Hub :=
  if h.holdBlocks o w then h.holdIgnored else h.put (Od.evtMaskWord w) v

/-- The counts of the details of a word's sources, as the hold keeps them. -/
def heldCounts (e : EvtSt) (w : Nat) : Nat → Tab Nat
  | 0 => ⟨[]⟩
  | i + 1 => (heldCounts e w i).set 0 (32 * w + i) (e.held (32 * w + i))

/-- A path takes the hold of a word, where no path has one (R544). -/
def Hub.holdTake (h : Hub) (o : HoldOwner) (w : Nat) : Hub :=
  if h.evt.hold.isSome then h
  else { h with evt := { h.evt with hold := some { owner := o, word := w, before := heldCounts h.evt w 32 } } }

/-- GRANT as a path reads it after asking for the hold of word w. -/
def Hub.holdGrant (h : Hub) (o : HoldOwner) (w : Nat) : Nat := match h.evt.hold with
  | some x => b2n (decide (x.owner = o) && decide (x.word = w))
  | none => 0

/-- A request of the hold (R544): granted when no path has it. The value read back is GRANT. -/
def Hub.holdRequest (h : Hub) (o : HoldOwner) (w : Nat) : Hub :=
  let h1 := h.holdTake o w
  h1.emit (.value (h1.holdGrant o w))

/-- A path lets its hold go (R544). -/
def Hub.holdLeave (h : Hub) (o : HoldOwner) : Hub := match h.evt.hold with
  | some x => if x.owner = o then { h with evt := { h.evt with hold := none } } else h
  | none => h

/-- A ring is enabled or stopped (R537, R539). -/
def Hub.ringEnable (h : Hub) (r : Nat) (v : Bool) : Hub :=
  let x := h.ring r
  if v then h.setRing r { x with enable := true, wr := 0, rd := 0, phase := true, stack := [], ended := [], full := false }
  else h.setRing r { x with enable := false, fault := false }

/-- A write of EVR_RD (R538): taken modulo the ring size; MSI-X again while records stay; FULL ends (log 11). -/
def Hub.ringRd (h : Hub) (r v : Nat) : Hub :=
  let x := h.ring r
  let y := { x with rd := v % x.records, full := false }
  let h1 := h.setRing r y
  if y.notify = 1 ∧ y.nonEmpty then h1.msix y.vector else h1

/-! ### Meanings -/

/-- EVENT_FIRE (R531). -/
def execEventFire (src : Byte) (data : Bytes) (s : State) := onHub (fun h => h.fire src.toNat data) s

/-- EVENT_TAKE (R532). -/
def execEventTake (r : Fin 4) (ok : Bool) (s : State) := onHub (fun h => h.eventTake r ok) s

/-- EOI (R533). -/
def execEoi (r : Fin 4) (src : Byte) (s : State) := onHub (fun h => h.eventEoi r src.toNat) s

/-- PENDING_WRITE (R542). -/
def execPendingWrite (o : HoldOwner) (w : Fin 8) (v : Word) (s : State) := onHub (fun h => h.pendingWrite o w v.toNat) s

/-- MASK_READ (R542): every record taken before is written, so the value comes at once. -/
def execMaskRead (w : Fin 8) (s : State) := onHub (fun h => h.emit (.value (h.val (Od.evtMaskWord w)))) s

/-- HOLD_REQUEST (R544). -/
def execHoldRequest (o : HoldOwner) (w : Fin 8) (s : State) := onHub (fun h => h.holdRequest o w) s

/-- HOLD_RELEASE (R544): by the holder only. -/
def execHoldRelease (o : HoldOwner) (s : State) :=
  onHub (fun h => h.holdLeave o) s

/-- HOLD_EXPIRED (R544). -/
def execHoldExpired (s : State) :=
  onHub (fun h => match h.evt.hold with
    | some _ => (({ h with evt := { h.evt with hold := none } }).flag Rg.evtFlags 4).fire Ev.evtHoldExpired []
    | none => h) s

/-- EVR_RD_WRITE (R538). -/
def execEvrRdWrite (r : Fin 4) (v : BitVec 12) (s : State) := onHub (fun h => h.ringRd r v.toNat) s

/-- RING_ENABLE (R537). -/
def execRingEnable (r : Fin 4) (v : Bool) (s : State) := onHub (fun h => h.ringEnable r v) s

/-- The argument checks of EVENT_RAISE (R547). -/
def eventRaiseArgs (args : Bytes) : Option Abort :=
  firstAbort [argLen args 12, (decide (field args 0 1 < 0xD0 ∨ 0xEF < field args 0 1), abArg 4),
    (decide (field args 1 3 ≠ 0), abArg 5)]

/-- EVENT_RAISE, code 0x0C00 (R547). -/
def Hub.cmdEventRaise (h : Hub) (req : Path) (c tag : Nat) (args : Bytes) : Hub :=
  h.issue req c 0x0C00 tag args (eventRaiseArgs args) none
    (fun h => (h.fireWith (field args 0 1) (args.drop 4) true false).finish c 0 [])

/-- EVENT_RAISE as its own row. -/
def execEventRaise (req : Path) (c : Fin 8) (tag : BitVec 16) (args : Bytes) (s : State) :=
  onCommand 0x0C00 req c tag.toNat args (fun h => h.cmdEventRaise req c tag.toNat args) s

end Sys2Proof.Machine
end

