-- ==== Sys2Proof/Machine/LinkBase.lean ====
section
/-!
DEFINITION. The link states of R133: bring-up, entry to RUNNING, HELD and DOWN, and what each does to the rest of the hub
(R21, R28, R132 to R136, R141).
-/

namespace Sys2Proof.Machine

/-! ### Credits (R125) -/

/-- LIMIT_c of the receiver: cells freed plus the allotment, modulo 4,096. -/
def Hub.limitOf (h : Hub) (p c : Nat) : Nat := ((h.link p).freed.get 0 c + h.allot p c) % 4096

/-- A CREDIT block leaves on a lane. -/
def Hub.creditSend (h : Hub) (p n : Nat) (init : Bool) : Hub :=
  let sent : Tab Nat := (List.range 8).foldl (fun t c => t.set 0 c (h.limitOf p c)) ⟨[]⟩
  (h.updLink p (fun x => { x with limitSent := sent })).blockOn p n (creditBytes init ((List.range 8).map (h.limitOf p)))

/-- Some LIMIT_c has advanced by 64 or more since it was last sent (R125). -/
def Hub.creditDue (h : Hub) (p : Nat) : Bool :=
  (List.range 8).any (fun c => decide (64 ≤ gap 12 (h.limitOf p c) ((h.link p).limitSent.get 0 c)))

/-! ### Groups (R117, R118) -/

/-- How far a group sequence lies beyond the last one acknowledged. -/
def LinkSt.beyond (x : LinkSt) (seq : Nat) : Nat := gap 16 seq x.acked

/-- A group at its place in sequence order. -/
def insertGroup (key : Group → Nat) (g : Group) : List Group → List Group
  | [] => [g]
  | k :: t => if key g < key k then g :: k :: t else k :: insertGroup key g t

/-- A closed group stands in the replay buffer. -/
def LinkSt.keepGroup (x : LinkSt) (g : Group) : LinkSt := { x with replay := insertGroup (fun k => x.beyond k.seq) g x.replay }

/-- A NAK falls due, unless one for the same RX_NEXT was sent within REPLAY_TIMEOUT (R117). Groups are discarded only once it has been
sent. -/
def Hub.nakRaise (h : Hub) (p : Nat) : Hub :=
  let recent : Bool := match (h.link p).nakAt with
    | some t => decide (h.clock < t + 10000 * h.val (Od.linkReplayTimeout p))
    | none => false
  if recent then h else h.updLink p (fun x => { x with nakDue := true })

/-! ### Entry to RUNNING, HELD and DOWN -/

/-- A retrain out of FOGHORN has succeeded (R28). -/
def Hub.retrainDone (h : Hub) : Hub :=
  match h.mode.retrain with
  | none => h
  | some by_ =>
    let h1 : Hub := { h with
      mode := { h.mode with active := h.mode.before, retrain := none, fogCause := 0, retryRunning := false, deadlineRunning := false }
      links := { h.links with turnedAway := false } }
    let h2 := (h1.moorFogEnd h).powerBoot.resources
    match by_ with
    | .command c => h2.done c 0 (u8 h2.mode.active.code)
    | .timer => h2

/-- The condition of R27 holds: an upstream port, or at a root a downstream port, has an OPEN SYSTEM tunnel. -/
def Hub.usableLink (h : Hub) : Bool :=
  if h.isRoot then [0, 1].any (fun p => h.sysOpen p) else [0, 1].any (fun p => h.facesUp p && h.sysOpen p)

/-- A link has been told to start its numbers afresh. -/
def LinkSt.fresh (x : LinkSt) : LinkSt :=
  { x with txNext := 0, rxNext := 0, acked := 0xFFFF, replay := [], resend := [], openGroups := [], heldGroups := [],
           nakDue := false, awaiting := false, nakAt := none, unacked := 0, aligned := false, serialSeen := false }

/-- LINK_ALLOT of a port comes into force (R244). -/
def Hub.takeAllot (h : Hub) (p : Nat) : Hub :=
  let t := (List.range 8).foldl (fun (t : Tab Nat) c => t.set (if c = 0 then 256 else 1024) (8 * p + c) (h.val (Od.swLinkAllot p c))) h.sw.allotInForce
  ({ h with sw := { h.sw with allotInForce := t } } : Hub).recheckPool

/-- The SYSTEM tunnel of a RUNNING link opens once Tenders run (R134, R232), and what waits for it goes on (R28, R449). -/
def Hub.systemUp (h : Hub) (p : Nat) : Hub :=
  let h1 := if h.running p ∧ !h.sysOpen p ∧ h.serviceList ≠ [] then (h.systemOpen p).announce p else h
  if h1.mode.retrain.isSome ∧ h1.usableLink then h1.retrainDone else h1

/-- A link enters RUNNING (R133): event, SYSTEM tunnel, and what waits for it. -/
def Hub.linkUp (h : Hub) (p : Nat) : Hub :=
  let h1 := (h.updLink p (fun x => { x with state := .running, initTimer := false, acceptSent := false, acceptRcvd := false, serialSeen := false, paced := 0, deferred := [] })).fire
    Ev.linkUp (u8 p)
  let h2 := ((h1.choosePrimary p).countJudge h).followUp p
  let h3 := if h2.facesUp p then h2.sendCount else h2
  let h4 := h3.systemUp p
  if p = 2 ∧ h4.mirroring ∧ !h4.pair.inStep ∧ h4.pair.resync = none then h4.fullCopy none else h4

/-- The copies of fog signals still to leave on link p go: the link has left RUNNING (R126). -/
def Hub.fogCancel (h : Hub) (p : Nat) : Hub :=
  { h with links := { h.links with fogCopies := h.links.fogCopies.filter (fun c => decide (c.link ≠ p)) } }

/-- A link enters HELD (R133, R135); it stops counting for HUBS at once (R201). -/
def Hub.linkHold (h : Hub) (p : Nat) : Hub :=
  let h1 := (h.updLink p (fun x =>
    { x.openGroups.foldl LinkSt.keepGroup x with
      state := .held, acceptSent := false, acceptRcvd := false, serialSeen := false, resend := [], openGroups := [], deferred := [] })).fire
    Ev.linkHeld (u8 p)
  let h2 := (((h1.fogCancel p).countJudge h).followDown p false).swapLose p
  if p = 2 then h2.mirrorLost else h2

/-- Cells that a link holds and that go with it (R136). -/
def Hub.linkCells (h : Hub) (p : Nat) : Nat :=
  let x := h.link p
  ((x.replay ++ x.openGroups ++ x.heldGroups).map (fun g => g.cells.length)).sum + (h.egress p).queue.length

/-- INIT begins on a link (R133, R134). -/
def Hub.linkInit (h : Hub) (p : Nat) : Hub :=
  h.updLink p (fun x =>
    { x with
      state := .init, farMode := none, farDepth := 0xFF, farChain := 0, farSerial := none, nextPage := 0,
      acceptSent := false, acceptRcvd := false, initCredit := false, creditInit := true, refuseReason := 0, aligned := false,
      initTimer := (h.port p).leader })

/-- A link enters DOWN (R133, R136), with LAST_DOWN. -/
def Hub.linkDrop (h : Hub) (p cause : Nat) : Hub :=
  let x := h.link p
  if x.state = .down then h
  else
    let was := decide (x.state = .running) || decide (x.state = .held)
    let n := h.linkCells p
    let h1 := h.updLink p (fun y => { y.fresh with state := .down, lastDown := cause, initTimer := false, initCredit := false, deferred := [] })
    let h2 : Hub := { h1 with plan := { h1.plan with hubs := h1.plan.hubs.set 0 p 0 } }
    let h3 := ((h2.fogCancel p).fire Ev.linkDown (u8 cause)).countJudge h
    if !was then h3
    else
      let words := (x.replay ++ x.openGroups ++ x.heldGroups).flatMap (·.cells)
      let h4 := (((((h3.freeWords words).systemClose p).tally 0x0206 p n).tunLinkDown p).discardPairsOn p).lampsLinkDown p
      let h5 := h4.fogOriginate 0x01 p
      let h6 := (h5.followDown p true).swapLose p
      let h7 := if p = 2 then h6.mirrorLost else h6
      if h7.pairBuoy ∧ h7.pair.primaryPort = some p then { h7 with pair := { h7.pair with primaryPort := none, primarySerial := 0 } } else h7

/-- A link that is DOWN while its port is LINKED starts INIT at once (R133). -/
def Hub.linkAgain (h : Hub) (p : Nat) : Hub :=
  if (h.port p).state = .linked ∧ (h.link p).state = .down then h.linkInit p else h

/-- A link goes DOWN (R133): at a LIGHTSHIP the CPB link follows the CPA link; a link whose port stays LINKED starts again,
other than after the INIT timeout. -/
def Hub.linkDown (h : Hub) (p cause : Nat) : Hub :=
  let h1 := h.linkDrop p cause
  let h2 := if p = 0 ∧ h1.role = .lightship then (h1.linkDrop 1 4).linkAgain 1 else h1
  if cause = 2 then h2 else h2.linkAgain p

/-- The context table's word of a tunnel is read (R263): where that of context 0, which the SYSTEM tunnels share, is uncorrectable, every link
goes DOWN and is brought up again. No cause of LAST_DOWN is stated for it: that value is free. -/
def Hub.tunnelRead (h : Hub) (reader i : Nat) : Hub × Bool :=
  if i ≠ 0 ∧ i < 256 then h.ctxRead reader i
  else
    let r := h.eccRead reader 3 0
    let u := (r.1.eccWrite 3 0).open_ 8
    (if r.2 then [0, 1, 2].foldl (fun h p => h.linkAgain p) ([0, 1, 2].foldl (fun h p => h.linkDrop p (u.2 % 5)) u.1) else r.1, r.2)

/-! ### Bring-up (R21, R132, R134) -/

/-- A LIGHTSHIP's CPB link waits in INIT for its CPA link (R134). -/
def Hub.initWaits (h : Hub) (p : Nat) : Bool := decide (h.role = .lightship) && decide (p = 1) && !h.running 0

/-- The pairing of R20 and R134 for a far mode. -/
def Hub.pairingOk (h : Hub) (p far : Nat) : Bool :=
  match h.role with
  | .lighthouse => if p = 2 then decide (far = 2) else if h.mode.pairConfig then decide (far = 4) else decide (p = 0) && (decide (far = 3) || decide (far = 4))
  | .standby => if p = 2 then decide (far = 1) else decide (far = 4)
  | .lightship => decide (p = 1) && (decide (far = 3) || decide (far = 4))
  | .bench => decide (far = 0)
  | _ => false

/-- REFUSE_REASON of the checks of R21; 0 where the link is accepted. -/
def Hub.initReason (h : Hub) (p far : Nat) : Nat :=
  if (h.role = .bench) ≠ (far = 0) then 4
  else if !h.pairingOk p far then 1
  else if p ≠ 2 ∧ 7 ≤ h.links.hopDepth then 2
  else if h.isRoot ∧ 8 ≤ h.links.chainCount then 3 else 0

/-- Page 0 of this hub. -/
def Hub.initPage0 (h : Hub) (p : Nat) (accept refuse resume : Bool) (reason : Nat) : LinkInit :=
  { accept := accept, refuse := refuse, resume := resume,
    page := .page0 (BitVec.ofNat 8 h.role.code) (BitVec.ofNat 8 h.links.hopDepth) (BitVec.ofNat 8 (if h.isRoot then h.links.chainCount else 0))
      (BitVec.ofNat 8 reason) (BitVec.ofNat 32 (if (h.port p).leader then h.links.sf else 0)) (BitVec.ofNat 16 (h.link p).rxNext) }

/-- ACCEPT and INIT credits have been exchanged: the link reaches RUNNING (R133, R134). -/
def Hub.initDone (h : Hub) (p : Nat) : Hub :=
  let x := h.link p
  if x.state = .init ∧ x.acceptSent ∧ x.acceptRcvd ∧ x.initCredit then (h.updLink p LinkSt.fresh).linkUp p else h

/-- ACCEPT and the INIT credits go out (R134); the allotment comes into force. -/
def Hub.initAccept (h : Hub) (p : Nat) : Hub :=
  let h1 := (h.updLink p (fun x => { x with acceptSent := true, freed := ⟨[]⟩, creditInit := false })).takeAllot p
  ((h1.blockOut p (linkInitBytes (h1.initPage0 p true false false 0))).creditSend p (h1.ctrlLane p) true).initDone p

/-- The upstream end applies R21 once it holds both pages (R134). -/
def Hub.initCheck (h : Hub) (p : Nat) : Hub :=
  let x := h.link p
  match x.farMode, x.farSerial with
  | some far, some _ =>
    if x.state ≠ .init ∨ !(h.port p).leader ∨ x.acceptSent ∨ h.initWaits p then h
    else
      let r := h.initReason p far
      if r = 0 then h.initAccept p
      else
        let h1 := h.updLink p (fun y => { y with state := .refused, refuseReason := r, initTimer := false })
        ((h1.blockOut p (linkInitBytes (h1.initPage0 p false true false r))).fire Ev.topologyFault (u8 p ++ u8 far)).fogOriginate 0x02 p
  | _, _ => h

/-- After a LIGHTSHIP's CPA link has reached RUNNING, its CPB link goes on with INIT (R134). -/
def Hub.linkReady (h : Hub) (p : Nat) : Hub :=
  if p = 0 ∧ h.role = .lightship ∧ h.running 0 then h.initCheck 1 else h

/-- The superframe count is taken from the upstream end at bring-up, in silence (R129), in a retrain out of FOGHORN too. -/
def Hub.adoptCount (h : Hub) (p sf : Nat) : Hub :=
  if h.countPort = some p then
    let h1 : Hub := { h with links := { h.links with sf := sf } }
    h1.planSlip h.links.sf
  else h

/-- ACCEPT arrives at the downstream end (R134). -/
def Hub.initAccepted (h : Hub) (p depth sf : Nat) : Hub :=
  let h1 := (h.updLink p (fun x => { x with acceptRcvd := true })).choosePrimary p
  let h2 : Hub := if p = 2 then h1 else { h1 with links := { h1.links with hopDepth := depth + 1 } }
  (h2.adoptCount p sf).initAccept p

/-- The groups below the far RX_NEXT leave the replay buffer, the others are resent (R135). -/
def LinkSt.resume (x : LinkSt) (farNext : Nat) : LinkSt :=
  let ahead (q : Nat) : Bool := decide (gap 16 q farNext < 32768)
  let keep := x.replay.filter (fun g => ahead g.seq)
  { x with replay := keep, resend := keep.map (·.seq), acked := gap 16 farNext 1 }

/-- RX_NEXT lies within the transmitter's replay buffer, or just beyond it (R133). -/
def LinkSt.resumable (x : LinkSt) (farNext : Nat) : Bool :=
  decide (farNext = x.txNext) || x.replay.any (fun g => decide (g.seq = farNext))

/-- Both pages of LINK_INIT with RESUME have been exchanged in both directions: the link runs again (R133, R135). -/
def Hub.resumeDone (h : Hub) (p : Nat) : Hub :=
  let x := h.link p
  if x.state = .held ∧ x.acceptSent ∧ x.acceptRcvd ∧ x.serialSeen then (h.linkUp p).linkReady p else h

/-- Page 0 in INIT (R134). -/
def Hub.initPage0Rx (h : Hub) (p : Nat) (b : LinkInit) (mode depth chain reason sf : Nat) : Hub :=
  let h1 := h.updLink p (fun x => { x with farMode := some mode, farDepth := depth, farChain := chain })
  let h2 : Hub := if p = 2 ∧ mode = 1 ∧ h1.pair.state = .joining then { h1 with pair := { h1.pair with state := .stale } } else h1
  if b.refuse then
    let h3 := h2.updLink p (fun x => { x with state := .refused, refuseReason := reason, initTimer := false })
    { h3 with links := { h3.links with turnedAway := h3.links.turnedAway || h3.facesUp p } }
  else if b.accept then
    if (h2.port p).leader then (h2.updLink p (fun x => { x with acceptRcvd := true })).initDone p |>.linkReady p
    else (h2.initAccepted p depth sf).linkReady p
  else h2.initCheck p

/-- A LINK_INIT block arrives (R132 to R135). -/
def Hub.linkInitRx (h : Hub) (p : Nat) (b : LinkInit) : Hub :=
  let x := h.link p
  match b.page with
  | .page1 serial =>
    if x.state = .init then (h.updLink p (fun y => { y with farSerial := some serial })).initCheck p
    else if !b.resume ∨ (x.state ≠ .held ∧ x.state ≠ .running) then h
    else if x.farSerial ≠ some serial then h.linkDown p 3
    else (h.updLink p (fun y => { y with serialSeen := true })).resumeDone p
  | .page0 mode depth chain reason sf rxNext =>
    let m := mode.toNat
    if x.state = .init then h.initPage0Rx p b m depth.toNat chain.toNat reason.toNat sf.toNat
    else if x.state = .held ∧ b.resume then
      if x.resumable rxNext.toNat then
        let freed := ((x.replay.filter (fun g => decide (32768 ≤ gap 16 g.seq rxNext.toNat))).map (fun g => g.cells.length)).sum
        let h1 := (h.uncharge (acReplay p) freed).updLink p (fun y => { y.resume rxNext.toNat with acceptRcvd := true, farMode := some m })
        h1.resumeDone p
      else h.linkDown p 3
    else if (x.state = .held ∨ x.state = .running) ∧ !b.resume then
      (h.linkDown p 3).initPage0Rx p b m depth.toNat chain.toNat reason.toNat sf.toNat
    else if x.state = .refused ∧ p = 2 ∧ m = 1 ∧ h.pair.state = .joining then { h with pair := { h.pair with state := .stale } }
    else h

/-- The next page goes out: in INIT pages 0 and 1 in turn until both far pages are held, in HELD the pages with RESUME. -/
def Hub.linkPageSend (h : Hub) (p : Nat) : Hub :=
  let x := h.link p
  let page1 (resume : Bool) : LinkInit := ⟨false, false, resume, .page1 (BitVec.ofNat 64 Config.serial)⟩
  let turn := h.updLink p (fun y => { y with nextPage := 1 - y.nextPage })
  if (h.port p).state ≠ .linked then h
  else if x.state = .init ∧ (x.farMode.isNone ∨ x.farSerial.isNone) then
    turn.blockOut p (linkInitBytes (if x.nextPage = 1 then page1 false else h.initPage0 p false false false 0))
  else if x.state = .held then
    if x.nextPage = 1 then ((turn.updLink p (fun y => { y with acceptSent := true })).blockOut p (linkInitBytes (page1 true))).resumeDone p
    else turn.blockOut p (linkInitBytes (h.initPage0 p false false true 0))
  else h

/-! ### What the port's state does to the link (R133) -/

/-- The port enters LINKED. -/
def Hub.linkPortLinked (h : Hub) (p : Nat) : Hub :=
  if (h.link p).state = .down then h.linkInit p
  else h.updLink p (fun x => { x with nextPage := 0, acceptSent := false, acceptRcvd := false, serialSeen := false })

/-- The port enters STEPPING. -/
def Hub.linkPortStepping (h : Hub) (p : Nat) : Hub :=
  match (h.link p).state with
  | .running => h.linkHold p
  | .init | .refused => h.linkDown p 1
  | _ => h

/-- The port enters FAILED, WAITING or OFF. -/
def Hub.linkPortGone (h : Hub) (p : Nat) : Hub := if (h.link p).state = .down then h else h.linkDown p 1

end Sys2Proof.Machine
end

