-- ==== Sys2Proof/Machine/Lanes.lean ====
section
/-!
DEFINITION. Coupling lanes and the pair link (chapter 03): training, lane states, drop and rejoin, rate steps, Quiet, the
pattern test and the commands; and what lane 0's lock does to the frequency (R563).
-/

namespace Sys2Proof.Machine

/-! ### Lanes and ports -/

/-- LANES_ACTIVE (R103). -/
def Hub.lanesMask (h : Hub) (p : Nat) : Nat := ((h.lanesIn p).map (fun n => 2 ^ h.laneLogical n)).sum

/-- Payload rate of a port in Mbit/s (R97). -/
def payloadOf (rate lanes : Nat) : Nat := 10400 * lanes / 2 ^ rate

/-- The port is in training: TRAINING or STEPPING. -/
def PortSt.trains (x : PortSt) : Bool := decide (x.state = .training) || decide (x.state = .stepping)

/-- Port p may leave OFF: domain, PORT_ENABLE and mode (R86, R103). -/
def Hub.portAllowed (h : Hub) (p : Nat) : Bool := h.portUsed p && h.domOn (7 + p) && decide (h.val (Od.portPortEnable p) = 1)

/-- Both seating pins of the port's connector are confirmed; PLK needs its domain alone (R86). -/
def Hub.portSeated (h : Hub) (p : Nat) : Bool := if p = 2 then true else h.connSeated p

/-- The conditions under which a port trains (R86, R232, R514): the Tenders run (log 76). -/
def Hub.trainReady (h : Hub) (p : Nat) : Bool :=
  h.portAllowed p && h.portSeated p && h.eng.verified.isSome && decide (h.serviceList ≠ []) && h.sec.startedUp

/-- The leader at entry to TRAINING or STEPPING (R75); on PLK two hubs of one mode settle it by SERIAL. -/
def Hub.leaderAt (h : Hub) (p : Nat) : Bool :=
  if h.role = .bench then
    (if h.val (Od.portLeadOverride p) = 1 then true else if h.val (Od.portLeadOverride p) = 2 then false else decide (p ≠ 0))
  else if p = 2 then decide (h.role = .lighthouse) else !h.facesUp p

/-! ### Frequency (R563) -/

/-- The lane that SYSREF tracks: logical lane 0 of the port whose Beacon the hub follows. -/
def Hub.trackLane (h : Hub) : Option Nat := match h.followPort with
  | some p => h.laneOf p 0
  | none => none

/-- The track source has lost lock, or is another one now. -/
def Hub.freqLost (h : Hub) : Hub :=
  if h.pwr.freq = .acquiring ∨ h.pwr.freq = .locked then
    (({ h with pwr := { h.pwr with freq := .holdover } } : Hub).flag Rg.pwrFlags 3).fire Ev.freqHoldover (u8 3)
  else h

/-- SYSREF of a hub that becomes LIGHTHOUSE (R563): held at a commit point where it has tracked; at a claim it goes to the crystal. -/
def PwrSt.mastered (x : PwrSt) (commit : Bool) : PwrSt :=
  if commit ∧ (x.freq = .locked ∨ x.freq = .holdover ∨ x.freq = .held) then { x with freq := .held }
  else { x with freq := .local_, freqOffset := 0 }

/-- A lane has lost lock. -/
def Hub.freqLaneLost (h : Hub) (n : Nat) : Hub := if h.trackLane = some n then h.freqLost else h

/-- A lane has locked. -/
def Hub.freqLaneFound (h : Hub) (n : Nat) : Hub :=
  if h.trackLane = some n ∧ (h.pwr.freq = .local_ ∨ h.pwr.freq = .holdover) then { h with pwr := { h.pwr with freq := .acquiring } } else h

/-! ### Training blocks sent (R76) -/

/-- The presets of R81: PRE and POST. -/
def presetOf (k : Nat) : Nat × Nat :=
  [(0, 0), (0, 6), (0, 12), (0, 18), (4, 12), (6, 18), (8, 8), (10, 24)].getD k (0, 18)

/-- The training block that a lane sends now. Its LANE is the number of the transmitter, which the receiver maps (R80, log 64). -/
def Hub.trainingBlock (h : Hub) (n : Nat) : TrainingBlock :=
  let x := h.lane n
  let p := lanePort n
  let req := (x.request.map (·.1)).getD 0
  { leader := (h.port p).leader, rxReady := x.rxReady, unusable := x.ownUnusable, go := x.goSent,
    rate := Fin.ofNat 4 (h.port p).rate, lane := Fin.ofNat 4 (lanePhys n), reqKind := if x.request.isSome then 1 else 0, preset := 0,
    reqToggle := x.reqToggle, preReq := Fin.ofNat 4 (req / 4), postReq := Fin.ofNat 4 req, ackToggle := x.ackToggle,
    preStatus := Fin.ofNat 4 x.preStatus, postStatus := Fin.ofNat 4 x.postStatus, pre := Fin.ofNat 16 x.txPre, post := Fin.ofNat 32 x.txPost,
    portId := BitVec.ofNat 8 (p + 1), serialLow := if p = 2 then BitVec.ofNat 48 Config.serial else 0 }

/-- A lane sends its training block. -/
def Hub.laneSend (h : Hub) (n : Nat) : Hub := h.emit (.laneBlock n (trainingBytes (h.trainingBlock n)) 1)

/-- Four lane-drop blocks on a lane (R95, R98). -/
def Hub.dropBlocks (h : Hub) (n : Nat) (step : Bool) (rateNext : Nat) : Hub :=
  (h.wakeLane n).laneBlocks n 0xF3 (128 * b2n step + rateNext) 4

/-- A lane-layer block is ignored, as its CRC has failed: it is counted (R74). -/
def Hub.laneCrcBad (h : Hub) (n : Nat) : Hub := (h.updLane n (fun x => { x with blockCrc := x.blockCrc + 1 })).flag (Rg.laneFlags n) 5

/-- A signed value of w bits that the spec does not state, drawn free. -/
def Hub.openSigned (h : Hub) (w : Nat) : Hub × Int := let o := h.open_ w; (o.1, toSigned w o.2)

/-- What a lane in service has adapted to since it was last looked at (R83, R84): the DFE unless DFE_FREEZE is set, the CTLE where
CTLE_READAPT is set. The settings found are free (log 13). -/
def Hub.laneAdapt (h : Hub) (n : Nat) : Hub :=
  let cfg := h.reg (Rg.laneCfg n)
  if (h.lane n).state ≠ .inService then h
  else
    let taps : Hub × List Int := [7, 6, 6, 6, 6, 6, 6, 6].foldl (fun r w => ((r.1.openSigned w).1, r.2 ++ [(r.1.openSigned w).2])) (h, [])
    let h1 := if bit 0 cfg then h else taps.1.updLane n (fun x => { x with dfe := taps.2 })
    if bit 1 cfg then ((h1.open_ 4).1).updLane n (fun x => { x with ctle := (h1.open_ 4).2 }) else h1

/-! ### Rounds (R77 to R79) -/

/-- A lane begins the steps of R80 afresh. -/
def LaneSt.begin_ (x : LaneSt) (preset : Nat) (belowFloor : Bool) : LaneSt :=
  { x with
    state := if belowFloor then .unusable else .locking, rxQuiet := false, txQuiet := false, aligned := false,
    txPre := (presetOf preset).1, txPost := (presetOf preset).2, txMain := 63 - (presetOf preset).1 - (presetOf preset).2,
    rxReady := false, ownUnusable := belowFloor, farReady := false, farUnusable := false, farLane := none, request := none,
    reqToggle := false, ackToggle := false, preStatus := 0, postStatus := 0, requests := 0, retries := 0, goReceived := 0,
    goSent := false, rejoining := false, rejoinCommand := none, rejoinHold := false, rejoinTimer := false }

/-- A lane is out of use: transmitter in electrical idle. -/
def LaneSt.rest (x : LaneSt) (st : LaneState) : LaneSt :=
  { x with
    state := if x.state = .pattern then .pattern else st, rxQuiet := false, txQuiet := false, rxReady := false, ownUnusable := false,
    farReady := false, farUnusable := false, request := none, goReceived := 0, goSent := false, rejoining := false,
    rejoinCommand := none, rejoinHold := false, rejoinTimer := false }

/-- Every lane of a port. -/
def Hub.forLanes (h : Hub) (p : Nat) (f : Hub → Nat → Hub) : Hub := (portLanes p).foldl f h

/-- A round begins at the port's rate on every lane (R77, R79); a lane in the pattern test stays there. -/
def Hub.startRound (h : Hub) (p : Nat) : Hub :=
  let x := h.port p
  let h1 := h.setPort p { x with inGap := false, signalSeen := false, roundFail := 0, roundTimer := !x.firstRound }
  h1.forLanes p (fun h n => if (h.lane n).state = .pattern then h
    else (h.updLane n (fun y => y.begin_ x.presetInForce (decide (x.floorInForce < x.rate)))).laneSend n)

/-- Signal is there on some lane. -/
def Hub.portSignal (h : Hub) (p : Nat) : Bool := (portLanes p).any (fun n => !(h.lane n).los)

/-- The first round's timer starts once there is signal (R77). -/
def Hub.roundSignal (h : Hub) (p : Nat) : Hub :=
  let x := h.port p
  if x.trains ∧ !x.inGap ∧ h.portSignal p then h.setPort p { x with signalSeen := true, roundTimer := true, firstRound := false } else h

/-- The entries of R104 come into force, and with them the role, as the port enters TRAINING or STEPPING. -/
def Hub.latchEntries (h : Hub) (p : Nat) : Hub :=
  h.updPort p (fun x =>
    { x with
      leader := h.leaderAt p, floorInForce := h.val (Od.portRateFloor p), presetInForce := h.val (Od.portTxPresetInit p),
      leadInForce := h.val (Od.portLeadOverride p) })

/-- Training begins at 12.5 Gbaud (R77); `stepped` where the port still counts as STEPPING (R78). A restart within TRAINING is no entry
to it (R104). -/
def Hub.trainingBegin (h : Hub) (p : Nat) (stepped : Bool) (command : Option Nat) : Hub :=
  let h0 := if (h.port p).state = .training then h else h.latchEntries p
  let h1 := h0.updPort p (fun x =>
    { x with state := .training, rate := 0, firstRound := true, stepped := stepped, holdTimer := false, retryTimer := false, command := command })
  (h1.startRound p).roundSignal p

/-- The nominal rate of a port's egress follows its rate and lanes (R97, R179). -/
def Hub.portNominal (h : Hub) (p : Nat) : Hub := h.setNominal p (1000 * payloadOf (h.port p).rate (h.lanesIn p).length)

/-- The port is out of use: FAILED, WAITING or OFF (R86, R133). -/
def Hub.portRest (h : Hub) (p : Nat) (st : PortState) (status : Nat) : Hub :=
  let x := h.port p
  let h1 := h.setPort p { x with state := st, roundTimer := false, inGap := false, holdTimer := false, firstRound := false, stepped := false,
                                 retryTimer := false, command := none }
  let h2 := (h1.forLanes p (fun h n => (h.laneAdapt n).updLane n (fun y => y.rest .idle))).linkPortGone p
  (h2.setNominal p 0).doneOpt x.command status []

/-- The port goes to FAILED (R86, R107). -/
def Hub.portFail (h : Hub) (p cause : Nat) : Hub :=
  let h1 := h.portRest p .failed (abFailed 2)
  (h1.updPort p (fun x => { x with lastFail := cause, retryTimer := true })).fire Ev.portFailed (u8 cause)

/-- LAST_FAIL when the last round has ended without success (R103). -/
def PortSt.failCause (x : PortSt) : Nat := if x.roundFail ≠ 0 then x.roundFail else if x.floorInForce < x.rate then 3 else 1

/-- A round has failed (R78): the leader idles for 100 µs before the next one, the follower steps at once. In STEPPING no round follows
once LINK_HOLD has ended (R98). -/
def Hub.roundFails (h : Hub) (p : Nat) : Hub :=
  let x := h.port p
  if !x.trains ∨ x.inGap then h
  else if x.state = .stepping ∧ !x.holdTimer then h.portFail p 2
  else if 2 ≤ x.rate then h.portFail p x.failCause
  else
    let h1 := h.setPort p { x with rate := x.rate + 1, firstRound := false, roundTimer := false }
    if x.leader then
      (h1.updPort p (fun y => { y with inGap := true })).forLanes p (fun h n => h.updLane n (fun y => y.rest .idle))
    else h1.startRound p

/-- A round fails for a fault seen in its training blocks (R75, R80). -/
def Hub.roundFault (h : Hub) (p cause ev : Nat) : Hub :=
  ((h.updPort p (fun x => { x with roundFail := cause })).fire ev (u8 p)).roundFails p

/-! ### STEPPING (R98) -/

/-- The port enters STEPPING; its first round runs at `rate` after 100 µs of idle, with its round timer from the start: the wait for
signal of R77 is that of the first round of TRAINING (log 58). -/
def Hub.stepInto (h : Hub) (p rate : Nat) : Hub :=
  let h1 := (h.latchEntries p).updPort p (fun x =>
    { x with
      state := .stepping, rate := min rate 2, inGap := true, roundTimer := false, firstRound := false, stepped := true, holdTimer := true })
  (h1.forLanes p (fun h n => (h.laneAdapt n).updLane n (fun y => y.rest .idle))).linkPortStepping p

/-- An end enters STEPPING on its own account: it tells the far end first (R98). -/
def Hub.stepOwn (h : Hub) (p rate : Nat) (command : Option Nat) : Hub :=
  let h1 := (h.lanesIn p).foldl (fun h n => h.dropBlocks n true rate) h
  (h1.updPort p (fun x => { x with command := command })).stepInto p rate

/-! ### Drop (R95) -/

/-- What a dropped lane does to the link: a NAK falls due, and what the lane had in flight is resent (R117). -/
def Hub.linkLaneDrop (h : Hub) (p n : Nat) : Hub :=
  let h0 := h.updLink p (fun x => { x with joining := x.joining.filter (fun m => decide (m ≠ n)) })
  if !h0.running p then h0
  else (h0.nakRaise p).updLink p (fun x =>
    let open_ := x.openGroups.filter (fun g => decide (g.lane = n))
    { open_.foldl LinkSt.keepGroup x with
      openGroups := x.openGroups.filter (fun g => decide (g.lane ≠ n)),
      resend := x.resend ++ open_.map (·.seq) })

/-- A lane in service is dropped (R95): `own` where this hub sends the lane-drop blocks. -/
def Hub.dropLane (h : Hub) (n : Nat) (own : Bool) : Hub :=
  let p := lanePort n
  if (h.lane n).state ≠ .inService ∨ (h.port p).state ≠ .linked then h
  else
    let last := decide ((h.lanesIn p).length ≤ 1)
    let next := min ((h.port p).rate + 1) 2
    let h0 := h.laneAdapt n
    let h1 := if own then h0.dropBlocks n last (if last then next else 0) else h0
    let h2 := h1.updLane n (fun x => { x.rest .dropped with rejoinTimer := (h.port p).leader && !last })
    let h3 := (((h2.flag (Rg.laneFlags n) 3).tally 0x0105 n 1).fire Ev.laneDropped (u8 n)).linkLaneDrop p n
    if last then h3.stepInto p next else h3.portNominal p

/-- A retrain attempt of a dropped lane has failed (R96). -/
def Hub.rejoinFail (h : Hub) (n : Nat) : Hub :=
  if (h.lane n).rejoining then h.updLane n (fun x => { x.rest .dropped with rejoinTimer := (h.port (lanePort n)).leader }) else h

/-- A lane failure (R91). -/
def Hub.laneFails (h : Hub) (n : Nat) : Hub :=
  if (h.lane n).state = .inService ∧ !(h.lane n).rxQuiet then h.dropLane n true else h

/-! ### End of training (R83) -/

/-- The lane is usable in the round (R83). -/
def LaneSt.usable (x : LaneSt) : Bool := x.rxReady && x.farReady && !x.ownUnusable && !x.farUnusable

/-- The lane is handed to the link transport. -/
def Hub.laneIn (h : Hub) (n : Nat) : Hub := h.updLane n (fun x => { x.rest .inService with farLane := x.farLane })

/-- Training has ended: GO lanes go into service, the others are DROPPED, the port is LINKED (R83, R98). -/
def Hub.trainingEnd (h : Hub) (p : Nat) : Hub :=
  let x := h.port p
  let h1 := h.forLanes p (fun h n => if (h.lane n).goSent then h.laneIn n
    else h.updLane n (fun y => { y.rest .dropped with rejoinTimer := x.leader && decide (y.state ≠ .pattern) }))
  let h2 := (h1.updLink p (fun y => { y with joining := [] })).setPort p
    { x with
      state := .linked, roundTimer := false, holdTimer := false, firstRound := false, stepped := false, inGap := false,
      retryTimer := false, lastRate := x.rate, command := none }
  let result := u8 x.rate ++ u8 (h2.lanesIn p).length
  let h3 := h2.portNominal p
  let h4 := if x.stepped then (h3.fire Ev.portRateChanged result).retrainWindow p else h3
  (h4.linkPortLinked p).doneOpt x.command 0 result

/-- A retrained lane is back in service (R96, R131). -/
def Hub.rejoinEnd (h : Hub) (n : Nat) : Hub :=
  let p := lanePort n
  let h1 := ((h.laneIn n).fire Ev.laneRejoined (u8 n)).portNominal p
  h1.updLink p (fun x => { x with joining := x.joining ++ [n] })

/-- GO has been exchanged 16 times on every lane that carries it (R83). -/
def Hub.goCheck (h : Hub) (p n : Nat) : Hub :=
  let done_ (m : Nat) : Bool := decide (16 ≤ (h.lane m).goReceived)
  if (h.port p).trains then
    let l := (portLanes p).filter (fun m => (h.lane m).goSent)
    if l ≠ [] ∧ l.all done_ then h.trainingEnd p else h
  else if (h.lane n).rejoining ∧ (h.lane n).goSent ∧ done_ n then h.rejoinEnd n else h

/-- The leader sets GO once every lane is usable; a retrained lane first runs clean for REJOIN_HOLD (R83, R96). -/
def Hub.goSet (h : Hub) (p n : Nat) : Hub :=
  if !(h.port p).leader then h
  else if (h.port p).trains then
    if (portLanes p).all (fun m => (h.lane m).usable) then h.forLanes p (fun h m => h.updLane m (fun x => { x with goSent := true })) else h
  else if (h.lane n).rejoining ∧ (h.lane n).usable ∧ !(h.lane n).rejoinHold ∧ !(h.lane n).goSent then
    h.updLane n (fun x => { x with rejoinHold := true })
  else h

/-! ### A training block arrives (R76, R80, R82) -/

/-- One cursor takes a request: the value, and its status (R82). `room` says whether an increment keeps R81. -/
def stepCursor (req v limit : Nat) (room : Bool) : Nat × Nat :=
  if req = 1 then (if v < limit ∧ room then (v + 1, 1) else (v, 3))
  else if req = 2 then (if 0 < v then (v - 1, 1) else (v, 2))
  else (v, 0)

/-- A far coefficient or preset request is applied (R81, R82). -/
def LaneSt.apply (x : LaneSt) (b : TrainingBlock) : LaneSt :=
  if b.reqKind.val = 0 ∨ b.reqKind.val = 3 ∨ b.reqToggle = x.ackToggle then x
  else
    let r : (Nat × Nat) × (Nat × Nat) :=
      if b.reqKind.val = 2 then (((presetOf b.preset.val).1, 1), ((presetOf b.preset.val).2, 1))
      else
        let pre := stepCursor b.preReq.val x.txPre 15 (decide (24 < 63 - x.txPre - x.txPost))
        (pre, stepCursor b.postReq.val x.txPost 24 (decide (24 < 63 - pre.1 - x.txPost)))
    { x with ackToggle := b.reqToggle, txPre := r.1.1, preStatus := r.1.2, txPost := r.2.1, postStatus := r.2.2, txMain := 63 - r.1.1 - r.2.1 }

/-- A receiver makes a new request while it equalises (R82): what it asks for is the receiver's own affair. -/
def Hub.newRequest (h : Hub) (n : Nat) : Hub :=
  let x := h.lane n
  if x.state = .equalising ∧ x.request = none ∧ x.requests < 4096 then
    let o := h.open_ 8
    o.1.setLane n { x with request := some (4 * (o.2 % 3) + o.2 / 3 % 3, 0), reqToggle := !x.reqToggle, requests := x.requests + 1 }
  else h

/-- The leader of PLK is settled between two hubs of one mode (R75): the lower SERIAL leads. -/
def Hub.settleLeader (h : Hub) (b : TrainingBlock) : Hub :=
  let mine := Config.serial % 2 ^ 48
  let x := h.port 2
  if b.leader ∧ x.leader then (if b.serialLow.toNat < mine then h.setPort 2 { x with leader := false } else h)
  else if !b.leader ∧ !x.leader ∧ mine < b.serialLow.toNat then h.setPort 2 { x with leader := true }
  else h

/-- What a valid block does to its lane: mapping, far readiness, requests, GO (R80 to R83). -/
def Hub.trainingTake (h : Hub) (n : Nat) (b : TrainingBlock) : Hub :=
  let p := lanePort n
  let x := h.lane n
  let y := { x.apply b with
    swap := if x.farLane.isNone ∧ p < 2 then decide (b.lane.val ≠ lanePhys n) else x.swap,
    farLane := some b.lane.val, farReady := b.rxReady, farUnusable := b.unusable,
    request := if b.ackToggle = x.reqToggle then none else x.request,
    goReceived := if b.go then x.goReceived + 1 else 0, goSent := x.goSent || (b.go && !(h.port p).leader) }
  let h1 := h.setLane n y
  if x.rejoining ∧ x.usable ∧ !y.usable then h1.rejoinFail n
  else (((h1.newRequest n).goSet p n).laneSend n).goCheck p n

/-- Both lanes of a port report the same LANE (R80). -/
def Hub.pairingClash (h : Hub) (n : Nat) (b : TrainingBlock) : Bool :=
  decide (lanePort n < 2) && (portLanes (lanePort n)).any (fun m => decide (m ≠ n) && decide ((h.lane m).farLane = some b.lane.val))

/-- A training block is received on a lane (R75 to R85). -/
def Hub.trainingRx (h : Hub) (n : Nat) (b : TrainingBlock) (crcOk : Bool) : Hub :=
  let p := lanePort n
  let x := h.port p
  let st := (h.lane n).state
  if !crcOk then (h.laneCrcBad n).tally 0x0104 n 1
  else if x.trains then
    if x.inGap ∨ st = .pattern ∨ st = .locking ∨ st = .idle then h
    else
      let h1 := if p = 2 ∧ h.role ≠ .bench then h.settleLeader b else h
      if b.leader ∧ (h1.port p).leader ∧ (p < 2 ∨ h.role = .bench) then h1.roundFault p 4 Ev.leaderConflict
      else if h1.pairingClash n b then h1.roundFault p 5 Ev.lanePairingFault
      else h1.trainingTake n b
  else if x.state = .linked then
    if st = .inService then h.stepInto p b.rate.val
    else if st = .dropped then
      (if x.leader then h else (h.updLane n (fun y => { y.begin_ x.presetInForce false with rejoining := true })).laneSend n)
    else if (h.lane n).rejoining ∧ st ≠ .locking then h.trainingTake n b
    else h
  else h

/-! ### Detectors and receivers (R80, R84, R88 to R90) -/

/-- The far end has started again (R78, R86). -/
def Hub.signalAgain (h : Hub) (p : Nat) : Hub :=
  let x := h.port p
  if x.trains ∧ 0 < x.rate then h.trainingBegin p (decide (x.state = .stepping) || x.stepped) x.command
  else if x.state = .failed ∧ h.val (Od.portPortRetryPeriod p) ≠ 0 ∧ h.trainReady p then h.trainingBegin p false none
  else h.roundSignal p

/-- Signal is detected on a lane (R77, R78); `silent` where every lane of the port had been without signal for 1 ms. -/
def Hub.signalDetect (h : Hub) (n : Nat) (silent : Bool) : Hub :=
  let p := lanePort n
  let h1 := h.updLane n (fun x => { x with los := false })
  if silent ∧ !h.portSignal p then h1.signalAgain p else h1.roundSignal p

/-- The receiver of a lane has lost what it had: in training it begins with locking again. -/
def LaneSt.unlock (x : LaneSt) : LaneSt :=
  if x.rxQuiet then x
  else { x with aligned := false, state := if x.state = .equalising ∨ x.state = .ready then .locking else x.state,
                rxReady := false, goReceived := 0 }

/-- Loss of signal (R88, R91); a lane under retraining that is usable is no longer clean (R96). -/
def Hub.lossOfSignal (h : Hub) (n : Nat) : Hub :=
  let x := h.lane n
  let h1 := ((h.setLane n { x.unlock with los := true }).tally 0x0101 n 1)
  let h2 := if x.rxQuiet then h1 else h1.freqLaneLost n
  if x.rejoining ∧ x.usable then h2.rejoinFail n
  else if x.state = .inService ∧ !x.rxQuiet then (h2.flag (Rg.laneFlags n) 0).laneFails n else h2

/-- Loss of lock (R89, R91); LOL_SEEN is set in a Quiet receiver too (R108). -/
def Hub.lossOfLock (h : Hub) (n : Nat) : Hub :=
  let x := h.lane n
  let h1 := ((h.setLane n { x.unlock with lol := true }).tally 0x0102 n 1)
  let h2 := if x.rxQuiet then h1 else h1.freqLaneLost n
  if x.rejoining ∧ x.usable then h2.rejoinFail n
  else if x.state = .inService then (h2.flag (Rg.laneFlags n) 1).laneFails n else h2

/-- The receiver locks and finds block alignment (R80, R89). -/
def Hub.blockAlignment (h : Hub) (n : Nat) (inverted : Bool) : Hub :=
  let h1 := h.updLane n (fun x =>
    { x with lol := false, aligned := true, polInv := x.polInv != inverted, state := if x.state = .locking then .equalising else x.state })
  (h1.newRequest n).freqLaneFound n

/-- Fine equalisation ends (R79, R80): the eye decides. -/
def Hub.equalised (h : Hub) (n ctle : Nat) (dfe : List Int) (width height : Nat) : Hub :=
  let x := h.lane n
  let p := lanePort n
  if x.state ≠ .equalising then h
  else
    let ok := decide (h.val (Od.portEyeMin p) ≤ height)
    let h1 := h.setLane n { x with ctle := ctle, dfe := dfe, eyeWidth := width, eyeHeight := height, request := none,
                                   state := if ok then .ready else .unusable, rxReady := ok, ownUnusable := !ok }
    (h1.goSet p n).laneSend n

/-- A coefficient request is unanswered for 1 ms (R82). -/
def Hub.requestRetry (h : Hub) (n : Nat) : Hub :=
  let x := h.lane n
  match x.request with
  | some (k, r) =>
    if 8 ≤ r then (h.setLane n { x with request := none, state := .unusable, rxReady := false, ownUnusable := true }).laneSend n
    else (h.setLane n { x with request := some (k, r + 1), retries := x.retries + 1 }).laneSend n
  | none => h

/-- GO is being sent on some lane of the port. -/
def Hub.portGoes (h : Hub) (p : Nat) : Bool := (portLanes p).any (fun n => (h.lane n).goSent)

/-- The end of a round's time (R83): the leader that finds one lane of a coupling port usable sets GO there, where ONE_LANE_ACCEPT allows
it; otherwise `fails`. -/
def Hub.roundOver (h : Hub) (p : Nat) (fails : Hub → Hub) : Hub :=
  match (portLanes p).filter (fun n => (h.lane n).usable) with
  | [n] => if (h.port p).leader ∧ p < 2 ∧ h.val (Od.portOneLaneAccept p) = 1 ∧ !h.portGoes p then
      ((h.updLane n (fun y => { y with goSent := true })).laneSend n).goCheck p n else fails h
  | _ => fails h

/-- The round timer expires (R78, R83), or the attempt of a dropped lane does (R96). -/
def Hub.trainLimit (h : Hub) (p : Nat) : Hub :=
  let x := h.port p
  if x.trains ∧ x.roundTimer then h.roundOver p (fun h => h.roundFails p)
  else if x.state = .linked then
    h.forLanes p (fun h n => if (h.lane n).rejoining ∧ !(h.lane n).usable then h.rejoinFail n else h)
  else h

/-- The 100 µs of idle end (R78, R98). -/
def Hub.roundGapEnd (h : Hub) (p : Nat) : Hub := if (h.port p).inGap then (h.startRound p).roundSignal p else h

/-- A follower has seen loss of signal on every lane for 50 µs (R78). -/
def Hub.followerStep (h : Hub) (p : Nat) : Hub :=
  let x := h.port p
  if x.trains ∧ !x.leader ∧ x.signalSeen ∧ !h.portSignal p then h.roundFails p else h

/-! ### Quiet (R92 to R94, R130) -/

/-- Something waits to be sent on link p: queued cells, groups open or to resend. -/
def Hub.linkBusy (h : Hub) (p : Nat) : Bool :=
  decide ((h.egress p).queue ≠ []) || decide ((h.link p).openGroups ≠ []) || decide ((h.link p).resend ≠ []) || (h.link p).nakDue ||
    decide (0 < (h.link p).unacked)

/-- The link transport permits Quiet on a lane (R130). Block 0 of R128 leaves within its own step, so it is never due here. -/
def Hub.quietOk (h : Hub) (n : Nat) : Bool :=
  let p := lanePort n
  if h.laneLogical n = 1 then
    (match h.laneOf p 0 with
      | some m => decide ((h.lane m).state = .inService) && !(h.lane m).txQuiet
      | none => false) && decide ((h.egress p).queue.length ≤ h.val (Od.linkWidenThreshold p))
  else
    (portLanes p).all (fun m => decide (m = n) || (h.lane m).txQuiet || decide ((h.lane m).state ≠ .inService)) && !h.linkBusy p && !h.creditDue p

/-- A transmitter enters Quiet (R92). -/
def Hub.quietEntry (h : Hub) (n : Nat) : Hub :=
  let x := h.lane n
  if x.state = .inService ∧ !x.txQuiet ∧ bit (h.laneLogical n) (h.val (Od.portQuietEnable (lanePort n))) ∧ h.quietOk n then
    (h.laneBlocks n 0xF1 0 4).updLane n (fun y => { y with txQuiet := true })
  else h

/-- Alignment is not regained within 2 µs of signal detect (R93). -/
def Hub.quietFault (h : Hub) (n : Nat) : Hub :=
  if (h.lane n).state = .inService ∧ (h.lane n).rxQuiet then
    (((h.updLane n (fun x => { x with rxQuiet := false, aligned := false })).flag (Rg.laneFlags n) 4).fire Ev.quietFault (u8 n)).laneFails n
  else h

/-- A lane-drop block arrives (R91, R95, R98): its lane is dropped, and with STEP the port steps. In a port that is STEPPING already, a
block with STEP changes nothing, RATE_NEXT included (log 57). -/
def Hub.laneDropRx (h : Hub) (n : Nat) (step : Bool) (rateNext : Nat) (crcOk : Bool) : Hub :=
  let p := lanePort n
  if !crcOk then h.laneCrcBad n
  else if (h.port p).state ≠ .linked then h
  else if step then
    if (h.lane n).state = .inService then
      (((h.flag (Rg.laneFlags n) 3).tally 0x0105 n 1).fire Ev.laneDropped (u8 n)).stepInto p rateNext
    else h.stepInto p rateNext
  else (h.rxWake n).dropLane n false

/-! ### Rejoin (R96) -/

/-- The leader starts a retrain attempt of a dropped lane. -/
def Hub.rejoinStart (h : Hub) (n : Nat) : Hub :=
  let x := h.port (lanePort n)
  if x.state = .linked ∧ x.leader ∧ (h.lane n).state = .dropped then
    (h.updLane n (fun y => { y.begin_ x.presetInForce false with rejoining := true })).laneSend n
  else h

/-- The lane has run clean for REJOIN_HOLD: the leader sets GO. -/
def Hub.rejoinHoldEnd (h : Hub) (n : Nat) : Hub :=
  let x := h.lane n
  if x.rejoining ∧ x.rejoinHold ∧ x.usable then
    ((h.setLane n { x with rejoinHold := false, goSent := true }).laneSend n).goCheck (lanePort n) n
  else h

/-! ### Ports and their surroundings (R86) -/

/-- A port follows its domain, its enable, its seating and what training needs. -/
def Hub.portJudge (h : Hub) (p : Nat) : Hub :=
  let st := (h.port p).state
  if !h.portAllowed p then (if st = .off then h else h.portRest p .off (abFailed 3))
  else
    let h1 := if st = .off then h.updPort p (fun x => { x with state := .waiting }) else h
    let h2 := if !h1.portSeated p ∧ (h1.port p).state ≠ .waiting then h1.portRest p .waiting (abFailed 3) else h1
    if (h2.port p).state = .waiting ∧ h2.trainReady p then h2.trainingBegin p false none else h2

/-- Every port is judged. -/
def Hub.portsJudge (h : Hub) : Hub := [0, 1, 2].foldl (fun h p => h.portJudge p) h

/-- A port is retrained as PORT_RETRAIN does (R106): from LINKED through STEPPING, from FAILED through TRAINING. Where a FAILED port may
not train, the command ends with OPERATION_FAILED, detail 2 (log 61). -/
def Hub.portRetrain (h : Hub) (p : Nat) (command : Option Nat) : Hub :=
  match (h.port p).state with
  | .linked => h.stepOwn p 0 command
  | .failed => if h.trainReady p then h.trainingBegin p false command else h.doneOpt command (abFailed 2) []
  | _ => h

/-- LINK_HOLD ends and cuts the round short (R98): a GO under way goes on, one usable lane may still be accepted, otherwise the port
fails. -/
def Hub.linkHoldEnd (h : Hub) (p : Nat) : Hub :=
  if (h.port p).state ≠ .stepping ∨ !(h.port p).holdTimer then h
  else
    let h1 := h.updPort p (fun x => { x with holdTimer := false })
    if h1.portGoes p then h1 else h1.roundOver p (fun h => h.portFail p 2)

/-- PORT_RETRY_PERIOD elapses on a seated port in FAILED (R86). -/
def Hub.portRetry (h : Hub) (p : Nat) : Hub :=
  if (h.port p).state = .failed ∧ (h.port p).retryTimer ∧ h.val (Od.portPortRetryPeriod p) ≠ 0 ∧ h.trainReady p then h.trainingBegin p false none
  else h

/-! ### Pattern test (R99 to R102) -/

/-- The two terms of a PRBS polynomial of R99, by PATTERN. -/
def prbsTaps (sel : Nat) : Nat × Nat :=
  if sel = 0 then (7, 6) else if sel = 1 then (15, 14) else if sel = 2 then (23, 18) else (31, 28)

/-- PATTERN of lane n. -/
def Hub.patternSel (h : Hub) (n : Nat) : Nat := bits 2 0 (h.reg (Rg.patCtrl n))

/-- Bit k of the user pattern of lane n, which is sent repeatedly from bit 0 (R99). -/
def Hub.userBit (h : Hub) (n k : Nat) : Bool := bit (k % 80 % 32) (h.reg (Rg.patUser n (k % 80 / 32)))

/-- The bit of a PRBS that follows some bits, newest first (R99). -/
def prbsNext (sel : Nat) (sent : List Bool) : Bool := sent.getD ((prbsTaps sel).1 - 1) false != sent.getD ((prbsTaps sel).2 - 1) false

/-- The bit that the generator of lane n sends after the bits sent since it was turned on, newest first (R99). -/
def Hub.patternNext (h : Hub) (n : Nat) (sent : List Bool) : Bool :=
  if h.patternSel n = 4 then h.userBit n sent.length else prbsNext (h.patternSel n) sent

/-- Bit errors that the checker counts while it is locked (R100). -/
def LaneSt.addErrors (x : LaneSt) (k : Nat) : LaneSt :=
  if x.chkLock then { x with errCount := min 0xFFFFFFFF (x.errCount + k), chkSat := x.chkSat || decide (0xFFFFFFFF ≤ x.errCount + k) } else x

/-- A locked checker takes a bit (R100): against the pattern as it runs on; 16 errors in any 256 bits lose lock. -/
def Hub.checkLocked (h : Hub) (n : Nat) (x : LaneSt) (b : Bool) : LaneSt :=
  let c := x.checker
  let want := if h.patternSel n = 4 then h.userBit n c.phase else prbsNext (h.patternSel n) c.window
  let recent := ((b != want) :: c.recent).take 256
  let y := if b = want then x else x.addErrors 1
  if 16 ≤ recent.count true then { y with chkLock := false, checker := Checker.init }
  else { y with checker := { c with window := (want :: c.window).take 31, phase := (c.phase + 1) % 80, recent := recent } }

/-- A checker in search takes a bit (R100): it locks after 128 bits that follow the polynomial, a line that never changes aside (log 77), or after
160 that match the user pattern at some alignment. -/
def Hub.checkSearch (h : Hub) (n : Nat) (x : LaneSt) (b : Bool) : LaneSt :=
  let c := x.checker
  let sel := h.patternSel n
  if sel = 4 then
    let w := (b :: c.window).take 160
    let fits (a : Nat) : Bool := (List.range 160).all (fun k => decide (w[k]? = some (h.userBit n (a + 159 - k))))
    match (List.range 80).find? fits with
    | some a => { x with chkLock := true, checker := { Checker.init with phase := (a + 160) % 80 } }
    | none => { x with checker := { c with window := w } }
  else
    let run := if (prbsTaps sel).1 ≤ c.window.length ∧ b = prbsNext sel c.window then c.run + 1 else 0
    let w := (b :: c.window).take 31
    if 128 ≤ run ∧ w.any id then { x with chkLock := true, checker := { Checker.init with window := w } }
    else { x with checker := { c with window := w, run := run } }

/-- The checker of lane n takes the bits received, in order, while CHK_EN is 1 (R100). -/
def Hub.checkBits (h : Hub) (n : Nat) (received : List Bool) : Hub :=
  if bit 4 (h.reg (Rg.patCtrl n)) then
    h.setLane n (received.foldl (fun x b => if x.chkLock then h.checkLocked n x b else h.checkSearch n x b) (h.lane n))
  else h

/-- A lane enters or leaves the pattern test as GEN_EN and CHK_EN say (R101). CHK_LOCK stays as it is while the lane stays in the test
with CHK_EN at 0 (log 62). -/
def Hub.patternJudge (h : Hub) (n : Nat) : Hub :=
  let on := decide (bits 4 3 (h.reg (Rg.patCtrl n)) ≠ 0) || h.loopOn n
  let st := (h.lane n).state
  if on ∧ st ≠ .pattern then (h.dropLane n true).updLane n (fun x => { x.rest .idle with state := .pattern })
  else if !on ∧ st = .pattern then
    h.updLane n (fun x => { x with state := .dropped, chkLock := false, checker := Checker.init, rejoinTimer := (h.port (lanePort n)).leader })
  else h

/-- GEN_EN (bit 3) or CHK_EN (bit 4) of PAT_CTRL is written; outside BENCH it is ignored (R101). -/
def Hub.patternEnable (h : Hub) (n b : Nat) (v : Bool) : Hub :=
  if h.mode.active ≠ .bench then h
  else
    let w := h.reg (Rg.patCtrl n)
    let h1 := (h.putReg (Rg.patCtrl n) (if v then setBit b w else clearBit b w)).patternJudge n
    if b = 3 ∧ bit 3 w ≠ v then h1.emit (.pattern n v (h1.patternSel n)) else h1

/-- Units of 0.1 ns, rounded up, that some bits take at the rate of a port (R68). -/
def bitTime (rate count : Nat) : Nat := (8 * count * 2 ^ rate + 9) / 10

/-- PAT_INJECT asks for bit errors (R102): on the generator's pattern, or on a lane in service. It is pending until its last bit has been
sent. -/
def Hub.patternInject (h : Hub) (n count : Nat) : Hub :=
  let x := h.lane n
  if h.mode.active = .bench ∧ (x.inject = 0 ∨ x.injectEnd ≤ h.clock) ∧ (bit 3 (h.reg (Rg.patCtrl n)) ∨ x.state = .inService) then
    (h.setLane n { x with inject := count, injectEnd := h.clock + bitTime (h.port (lanePort n)).rate count }).emit (.inverted n count)
  else h

/-! ### Commands (R106, R107) -/

/-- The TARGET of the hub beyond port p. -/
def Hub.farTarget (h : Hub) (p : Nat) : Nat := if p = 2 then 0x30 else if h.upPort = some p then 0x41 else 16 * (p + 1) + 1

/-- The command of channel c is passed to another hub, on the channel that R57 gives to requests from other hubs. -/
def Hub.passOn (h : Hub) (c target : Nat) : Hub :=
  let x := h.chan c
  let r := h.sysAsk target false 0x5003 1 (some (u16 x.code ++ u16 x.tag ++ x.command))
  match r.2 with
  | some a => h.done c a []
  | none => { r.1 with ctl := { r.1.ctl with remote := r.1.ctl.remote ++ [⟨c, target, h.ctl.nextReqId, false⟩] } }

/-- A follower passes a port's command to the leader where its SYSTEM tunnel is OPEN (R107). -/
def Hub.atLeader (h : Hub) (p c : Nat) (f : Hub → Hub) : Hub := if !(h.port p).leader && h.sysOpen p then h.passOn c (h.farTarget p) else f h

/-- The refusals that TRAINING, STEPPING, OFF and WAITING bring. -/
def Hub.portStates (h : Hub) (p : Nat) (alsoFailed : Bool) : List (Bool × Nat) :=
  let st := (h.port p).state
  [(decide (st = .off) || decide (st = .waiting) || (alsoFailed && decide (st = .failed)), stLinkDown), ((h.port p).trains, stLaneTraining)]

/-- PORT_RETRAIN, code 0x0200. -/
def Hub.cmdPortRetrain (h : Hub) (req : Path) (c tag : Nat) (args : Bytes) : Hub :=
  let p := field args 0 1
  h.issue req c 0x0200 tag args (firstAbort [argLen args 1, (decide (2 < p), abArg 4)]) (firstState (h.portStates p false))
    (fun h => h.atLeader p c (fun h => h.portRetrain p (some c)))

/-- PORT_RATE_STEP, code 0x0201. -/
def Hub.cmdPortRateStep (h : Hub) (req : Path) (c tag : Nat) (args : Bytes) : Hub :=
  let p := field args 0 1
  h.issue req c 0x0201 tag args (firstAbort [argLen args 1, (decide (2 < p), abArg 4)]) (firstState (h.portStates p true))
    (fun h => h.atLeader p c (fun h =>
      if 2 ≤ (h.port p).rate ∨ h.val (Od.portRateFloor p) ≤ (h.port p).rate then h.done c (abFailed 1) []
      else h.stepOwn p ((h.port p).rate + 1) (some c)))

/-- The argument checks of LANE_DROP and LANE_REJOIN. PLK has lane 0 alone: lane 1 is a bad argument there (log 60). -/
def laneArgs (args : Bytes) : List (Bool × Abort) :=
  [argLen args 2, (decide (2 < field args 0 1), abArg 4), (decide (1 < field args 1 1) || (decide (field args 0 1 = 2) && decide (0 < field args 1 1)), abArg 5)]

/-- LANE_DROP, code 0x0202. -/
def Hub.cmdLaneDrop (h : Hub) (req : Path) (c tag : Nat) (args : Bytes) : Hub :=
  let p := field args 0 1
  let n := h.laneOf p (field args 1 1)
  h.issue req c 0x0202 tag args
    (firstAbort (laneArgs args ++ [(decide (n.isSome) && decide (h.lanesIn p = n.toList), abArg 5)]))
    (firstState [(decide ((h.port p).state ≠ .linked), stLinkDown)])
    (fun h => h.atLeader p c (fun h => (match n with
      | some m => h.dropLane m true
      | none => h).done c 0 []))

/-- LANE_REJOIN, code 0x0203. -/
def Hub.cmdLaneRejoin (h : Hub) (req : Path) (c tag : Nat) (args : Bytes) : Hub :=
  let p := field args 0 1
  let n := h.laneOf p (field args 1 1)
  let runs := match n with
    | some m => (h.lane m).rejoining
    | none => false
  h.issue req c 0x0203 tag args (firstAbort (laneArgs args))
    (firstState [(decide ((h.port p).state ≠ .linked) || (!(h.port p).leader && !h.sysOpen p), stLinkDown), (runs, stLaneTraining)])
    (fun h => h.atLeader p c (fun h => (match n with
      | some m => h.rejoinStart m
      | none => h).done c 0 []))

/-! ### Meanings -/

/-- SIGNAL_DETECT (R77, R78). -/
def execSignalDetect (l : Fin 5) (silent : Bool) (s : State) := onHub (fun h => h.signalDetect l.val silent) s

/-- TRAINING_BLOCK (R76). -/
def execTrainingBlock (l : Fin 5) (b : TrainingBlock) (crcOk : Bool) (s : State) := onHub (fun h => h.trainingRx l.val b crcOk) s

/-- BLOCK_ALIGNMENT (R80). -/
def execBlockAlignment (l : Fin 5) (inverted : Bool) (s : State) := onHub (fun h => h.blockAlignment l.val inverted) s

/-- EQUALISATION_DONE (R80). -/
def execEqualisationDone (l : Fin 5) (ctle : Fin 16) (dfe : List Int) (width : Fin 64) (height : Fin 1024) (s : State) :=
  onHub (fun h => h.equalised l.val ctle.val dfe width.val height.val) s

/-- COEFF_REQUEST_RETRY (R82). -/
def execCoeffRequestRetry (l : Fin 5) (s : State) := onHub (fun h => h.requestRetry l.val) s

/-- TRAIN_LIMIT_EXPIRY (R78). -/
def execTrainLimitExpiry (p : Fin 3) (s : State) := onHub (fun h => h.trainLimit p.val) s

/-- ROUND_GAP_END (R78). -/
def execRoundGapEnd (p : Fin 3) (s : State) := onHub (fun h => h.roundGapEnd p.val) s

/-- LOSS_OF_SIGNAL (R88). -/
def execLossOfSignal (l : Fin 5) (s : State) := onHub (fun h => h.lossOfSignal l.val) s

/-- LOSS_OF_LOCK (R89). -/
def execLossOfLock (l : Fin 5) (s : State) := onHub (fun h => h.lossOfLock l.val) s

/-- ERROR_LIMIT_BREACH (R90): the count of the window. -/
def execErrorLimitBreach (l : Fin 5) (count : BitVec 32) (s : State) :=
  onHub (fun h =>
    let h1 := h.tally 0x0103 l.val count.toNat
    if (h.lane l.val).state = .inService ∧ !(h.lane l.val).rxQuiet ∧ h.val (Od.portLaneErrLimit (lanePort l.val)) < count.toNat then
      (h1.flag (Rg.laneFlags l.val) 2).laneFails l.val
    else if (h.lane l.val).rejoinHold then h1.rejoinFail l.val else h1) s

/-- LANE_DROP_BLOCK (R98). -/
def execLaneDropBlock (l : Fin 5) (step : Bool) (rateNext : Fin 4) (crcOk : Bool) (s : State) :=
  onHub (fun h => h.laneDropRx l.val step rateNext.val crcOk) s

/-- EYE_MARGIN_LOW (R84). -/
def execEyeMarginLow (l : Fin 5) (height : Fin 1024) (s : State) :=
  onHub (fun h =>
    let h1 := h.updLane l.val (fun x => { x with eyeHeight := height.val })
    if (h.lane l.val).state = .inService ∧ 2 * height.val < h.val (Od.portEyeMin (lanePort l.val)) then
      (h1.flag (Rg.laneFlags l.val) 6).fire Ev.eyeMarginLow (u8 l.val)
    else h1) s

/-- QUIET_ENTRY (R92). -/
def execQuietEntry (l : Fin 5) (s : State) := onHub (fun h => h.quietEntry l.val) s

/-- QUIET_ENTRY_BLOCK (R92). -/
def execQuietEntryBlock (l : Fin 5) (crcOk : Bool) (s : State) :=
  onHub (fun h =>
    if !crcOk then h.laneCrcBad l.val
    else if (h.lane l.val).state = .inService then h.updLane l.val (fun x => { x with rxQuiet := true }) else h) s

/-- QUIET_EXIT (R93). -/
def execQuietExit (l : Fin 5) (s : State) := onHub (fun h => h.wakeLane l.val) s

/-- QUIET_EXIT_BLOCK (R93). -/
def execQuietExitBlock (l : Fin 5) (crcOk : Bool) (s : State) :=
  onHub (fun h => if !crcOk then h.laneCrcBad l.val else h.updLane l.val (fun x => { x with rxQuiet := false })) s

/-- QUIET_FAULT (R93). -/
def execQuietFault (l : Fin 5) (s : State) := onHub (fun h => h.quietFault l.val) s

/-- LANE_REJOIN_ATTEMPT (R96). -/
def execLaneRejoinAttempt (l : Fin 5) (s : State) := onHub (fun h => if (h.lane l.val).rejoinTimer then h.rejoinStart l.val else h) s

/-- REJOIN_HOLD_EXPIRY (R96). -/
def execRejoinHoldExpiry (l : Fin 5) (s : State) := onHub (fun h => h.rejoinHoldEnd l.val) s

/-- LINK_HOLD_EXPIRY (R98). -/
def execLinkHoldExpiry (p : Fin 3) (s : State) := onHub (fun h => h.linkHoldEnd p.val) s

/-- PORT_RETRY (R86). -/
def execPortRetry (p : Fin 3) (s : State) := onHub (fun h => h.portRetry p.val) s

/-- FOLLOWER_STEP (R78). -/
def execFollowerStep (p : Fin 3) (s : State) := onHub (fun h => h.followerStep p.val) s

/-- PORT_RETRAIN (R106). -/
def execPortRetrain (req : Path) (c : Fin 8) (tag : BitVec 16) (args : Bytes) (s : State) :=
  onCommand 0x0200 req c.val tag.toNat args (fun h => h.cmdPortRetrain req c.val tag.toNat args) s

/-- PORT_RATE_STEP (R106). -/
def execPortRateStep (req : Path) (c : Fin 8) (tag : BitVec 16) (args : Bytes) (s : State) :=
  onCommand 0x0201 req c.val tag.toNat args (fun h => h.cmdPortRateStep req c.val tag.toNat args) s

/-- LANE_DROP (R106). -/
def execLaneDrop (req : Path) (c : Fin 8) (tag : BitVec 16) (args : Bytes) (s : State) :=
  onCommand 0x0202 req c.val tag.toNat args (fun h => h.cmdLaneDrop req c.val tag.toNat args) s

/-- LANE_REJOIN (R106). -/
def execLaneRejoin (req : Path) (c : Fin 8) (tag : BitVec 16) (args : Bytes) (s : State) :=
  onCommand 0x0203 req c.val tag.toNat args (fun h => h.cmdLaneRejoin req c.val tag.toNat args) s

/-- GEN_EN (R101). -/
def execGenEn (n : Fin 5) (v : Bool) (s : State) := onHub (fun h => h.patternEnable n.val 3 v) s

/-- CHK_EN (R101). -/
def execChkEn (n : Fin 5) (v : Bool) (s : State) := onHub (fun h => h.patternEnable n.val 4 v) s

/-- PAT_INJECT_SINGLE (R102). -/
def execPatInjectSingle (n : Fin 5) (s : State) := onHub (fun h => h.patternInject n.val 1) s

/-- PAT_INJECT_BURST (R102). -/
def execPatInjectBurst (n : Fin 5) (s : State) := onHub (fun h => h.patternInject n.val (bits 13 8 (h.reg (Rg.patCtrl n.val)) + 1)) s

/-- PAT_ERRCNT_READ (R100), after the bits received since the command before. -/
def execPatErrcntRead (n : Fin 5) (received : List Bool) (s : State) :=
  onHub (fun h =>
    let h1 := h.checkBits n received
    (h1.updLane n (fun x => { x with errCount := 0, chkSat := false })).emit (.value (h1.lane n).errCount)) s

/-- CHECKER_LOCK (R100): the bits received since the command before, up to the change of lock and after it. -/
def execCheckerLock (n : Fin 5) (before after : List Bool) (s : State) := onHub (fun h => h.checkBits n (before ++ after)) s

end Sys2Proof.Machine
end

