-- ==== Sys2Proof/Machine/Links.lean ====
section
/-!
DEFINITION. The link transport (chapter 04): groups and tallies, acknowledgement and replay, credits, fog signals, cells
received, and the cell slots of every egress (R109 to R126, R181 to R183). Superframes stand in Machine/Superframe.lean.
-/

namespace Sys2Proof.Machine

/-! ### Sending groups (R114, R117, R118) -/

/-- Lanes of a link on which cells may leave: in service, not Quiet, not waiting for a superframe boundary (R130, R131), by
logical number. -/
def Hub.txLanes (h : Hub) (p : Nat) : List Nat :=
  let l := (h.lanesIn p).filter (fun n => !(h.lane n).txQuiet && decide (n ∉ (h.link p).joining))
  l.filter (fun n => decide (h.laneLogical n = 0)) ++ l.filter (fun n => decide (h.laneLogical n ≠ 0))

/-- The acknowledgement that the next tally or IDLE block carries (R117); sending it settles what is due. -/
def Hub.takeAck (h : Hub) (p : Nat) : Hub × Ack :=
  let x := h.link p
  let h1 := h.updLink p (fun y => { y with nakDue := false, unacked := 0, awaiting := y.awaiting || y.nakDue, nakAt := if y.nakDue then some h.clock else y.nakAt })
  (if x.nakDue then h1.flag (Rg.linkFlags p) 0 else h1, ⟨x.nakDue, BitVec.ofNat 16 (gap 16 x.rxNext 1)⟩)

/-- An IDLE block leaves (R122): where every lane is Quiet, logical lane 0 wakes for it (R120). -/
def Hub.idleSend (h : Hub) (p : Nat) : Hub :=
  let r := h.takeAck p
  r.1.blockOut p (idleBytes r.2)

/-- The acknowledgement leaves now: a link that has no group open sends IDLE blocks. -/
def Hub.ackFlush (h : Hub) (p : Nat) : Hub :=
  if (h.link p).nakDue ∧ (h.link p).openGroups = [] ∧ h.txLanes p ≠ [] then h.idleSend p else h

/-- A group leaves on a lane with its tally; the lane leaves Quiet for it (R93). -/
def Hub.groupOut (h : Hub) (p : Nat) (g : Group) : Hub :=
  let r := (h.wakeLane g.lane).takeAck p
  let cells := g.cells.map (·.cell)
  r.1.emit (.group p g.lane cells (tallyBytes cells g.seq r.2))

/-- The open group of a lane is closed with its tally (R114) and stands in the replay buffer. -/
def Hub.groupClose (h : Hub) (p n : Nat) : Hub :=
  match (h.link p).openGroups.find? (fun g => decide (g.lane = n)) with
  | none => h
  | some g =>
    let h1 := h.updLink p (fun x => { x.keepGroup g with openGroups := x.openGroups.filter (fun k => decide (k.lane ≠ n)) })
    (h1.groupOut p g).tally 0x0201 p 1

/-- What a link sends at replay in the place of a cell that it cannot read (R263): TYPE 0x0, LEN 0. -/
def BufCell.blank (b : BufCell) : BufCell :=
  { b with cell := { b.cell with index := 0, ctype := 0, tseq := 0, len := 0, sos := false, eos := false, yellow := false, payload := [] }, damage := 0 }

/-- The words of a group are read at replay (R262, R263): each is sound, corrected, or replaced, and its tunnel faults. -/
def Hub.replayRead (h : Hub) (g : Group) : Hub × Group :=
  let one (r : Hub × List BufCell) (b : BufCell) : Hub × List BufCell :=
    if b.damage = 0 then (r.1, r.2 ++ [b])
    else if b.damage ≤ 2 then (r.1.eccCorrected 0, r.2 ++ [{ b with damage := 0 }])
    else
      let a := r.1.wordAddr 0
      (((if 256 ≤ b.ctx then a.1.segDiscard b.ctx else a.1).eccBad 1 0 a.2).faultSend b.ctx 6, r.2 ++ [b.blank])
  let r := g.cells.foldl one (h, [])
  (r.1, { g with cells := r.2 })

/-- A group is sent again; it stays in the replay buffer as it was sent. -/
def Hub.replayGroup (h : Hub) (p : Nat) (g : Group) : Hub :=
  let r := h.replayRead g
  let h1 := r.1.updLink p (fun y => { y with replay := y.replay.map (fun k => if k.seq = g.seq then r.2 else k) })
  (h1.groupOut p r.2).tally 0x0202 p 1

/-- The groups due are resent in sequence order, on the lanes in turn (R118). -/
def Hub.resendRun (h : Hub) (p : Nat) : Hub :=
  let x := h.link p
  let lanes := h.txLanes p
  if x.resend = [] ∨ lanes = [] ∨ x.state ≠ .running then h
  else
    let due := (x.replay.filter (fun g => decide (g.seq ∈ x.resend))).mapIdx (fun k g => { g with lane := lanes.getD (k % lanes.length) 0, replays := g.replays + 1 })
    due.foldl (fun h g => h.replayGroup p g) (h.updLink p (fun y => { y with resend := [] }))

/-- A group that is due once more after REPLAY_LIMIT replays: its last lane is dropped, and its replays count afresh (R119). -/
def Hub.exhaust (h : Hub) (p : Nat) (g : Group) : Hub :=
  let h1 := h.updLink p (fun x => { x with replay := x.replay.map (fun k => if k.seq = g.seq then { k with replays := 0 } else k) })
  ((h1.flag (Rg.linkFlags p) 3).fire Ev.replayExhausted (u8 p)).dropLane g.lane true

/-- Every buffered group is replayed (R118, R119): open groups are closed first. -/
def Hub.replayAll (h : Hub) (p : Nat) : Hub :=
  let h1 := (portLanes p).foldl (fun h n => h.groupClose p n) h
  let h2 := h1.updLink p (fun x => { x with resend := x.replay.map (·.seq) })
  let worn := (h2.link p).replay.filter (fun g => decide (h2.val (Od.linkReplayLimit p) ≤ g.replays))
  (worn.foldl (fun h g => h.exhaust p g) h2).resendRun p

/-- ACK_SEQ and NAK of a valid tally or IDLE block are acted on (R117, R118). -/
def Hub.ackRx (h : Hub) (p : Nat) (a : Ack) : Hub :=
  let x := h.link p
  let q := a.ackSeq.toNat
  if x.state ≠ .running then h
  else
    let gone (g : Group) : Bool := decide (gap 16 q g.seq < 32768)
    let n := ((x.replay.filter gone).map (fun g => g.cells.length)).sum
    let h1 := (h.uncharge (acReplay p) n).updLink p (fun y =>
      { y with
        acked := q, replay := y.replay.filter (fun g => !gone g),
        resend := y.resend.filter (fun s => decide (32768 ≤ gap 16 q s)) })
    if a.nak then (h1.flag (Rg.linkFlags p) 1).replayAll p else h1

/-! ### Cells received (R111, R137, R150, R458) -/

/-- A slot of a class on an ingress is freed without ever having been charged (R125). -/
def Hub.creditFree (h : Hub) (p c n : Nat) : Hub :=
  h.updLink p (fun x => { x with freed := x.freed.set 0 c ((x.freed.get 0 c + n) % 4096) })

/-- The class in which the slot of a discarded cell is freed that no account holds: the spec states none for an INDEX that names no
context (log 13). -/
def Hub.cellFree (h : Hub) (p : Nat) (b : BufCell) : Hub :=
  match b.account with
  | some _ => h.freeWords [b]
  | none =>
    let k := h.open_ 3
    k.1.creditFree p k.2 1

/-- A cell is discarded under R111: its slot is free at once. -/
def Hub.cellFault (h : Hub) (p : Nat) (b : BufCell) : Hub :=
  (((h.cellFree p b).flag (Rg.linkFlags p) 4).tally 0x0205 p 1).fire Ev.cellFault (u8 p ++ u8 b.cell.index)

/-- At a primary whose mirror was stale, a cell for an index it does not hold draws a TEARDOWN, once per superframe (R458). -/
def Hub.staleTear (h : Hub) (p index : Nat) : Hub :=
  let key := 256 * p + index
  if !h.pair.staleTaken || h.mapPort p || decide (key ∈ h.pair.torn) then h
  else
    let r := h.open_ 16
    let m : TunMsg :=
      { reqId := BitVec.ofNat 16 r.2, hopsLeft := 1, originDepth := BitVec.ofNat 8 h.links.hopDepth, direction := h.directionOf p, status := 0,
        openerHandle := 0, responderHandle := 0, hopIndex := BitVec.ofNat 8 index, totalHops := 1, peerIndex := 0, refuserDepth := 0,
        op := .teardown 3 }
    { r.1 with pair := { r.1.pair with torn := key :: r.1.pair.torn } }.tunOut p m

/-- The context that a cell's INDEX names on a port: the tunnel is in OPENING, OPEN or DRAINING there. -/
def Hub.cellTunnel (h : Hub) (p index : Nat) : Option Nat :=
  let i := h.cellCtx p index
  let x := h.ctx i
  if i ≠ 0 ∧ x.busy ∧ p ∈ x.ports then some i else none

/-- A DRAINING hub has had every cell that the far CELLS_SENT gives (R156, R164): one more is discarded as R111 says (log 67). -/
def Hub.cellsDone (h : Hub) (p i : Nat) : Bool :=
  let x := h.ctx i
  let waiting (q : Nat) : Nat := h.queuedAt i q
  decide (x.state = .draining) &&
    (if x.role ≠ .transit then decide (x.farSent = some (trunc 32 x.cellsRcvd))
     else if p = x.towardOpener then decide (x.sentDown = some (trunc 32 (x.fwdDown + waiting x.towardResponder)))
     else decide (x.sentUp = some (trunc 32 (x.fwdUp + waiting x.towardOpener))))

/-- The context that a received cell belongs to: the SYSTEM tunnel of the link, or the one its INDEX names (R150). -/
def Hub.cellOwner (h : Hub) (p : Nat) (c : Cell) : Nat := if c.index = 0 then sysCtx p else h.cellCtx p c.index

/-- A received cell is written into the switch buffer (R242, R244): charged to the link allotment in its context's class. -/
def Hub.receiveCell (h : Hub) (p : Nat) (c : Cell) : Hub × BufCell :=
  let i := h.cellOwner p c
  let x := h.ctx i
  if c.index = 0 ∨ (i ≠ 0 ∧ x.state ≠ .free) then
    let w := h.writeCell i x.cls (some (acAllot p x.cls)) c
    (w.1.charge (acAllot p x.cls) 1, w.2)
  else h.writeCell i 0 none c

/-- A delivered cell of a tunnel joins its next queue: at a relay the other link's, at an endpoint its binding's. During a change of class it
stands behind the tunnel's cells of the old one (R171). -/
def Hub.cellRoute (h : Hub) (p i : Nat) (b : BufCell) : Hub :=
  let x := h.ctx i
  let b1 := { b with ctx := i, cls := x.clsNow }
  if x.role = .transit then
    let q := if x.portA = p then x.portB else x.portA
    h.queueCell q { b1 with cell := { b.cell with index := if x.portA = p then x.indexB else x.indexA } }
  else (h.updCtx i (fun y => { y with cellsRcvd := y.cellsRcvd + 1 })).queueCell (h.bindEgress i) b1

/-- A cell of a delivered group reaches the switch core (R111, R116, R458). -/
def Hub.cellIn (h : Hub) (p : Nat) (b : BufCell) : Hub :=
  let c := b.cell
  let h1 := (h.tally 0x0208 p 1).mirrorCell 2 p c
  if (c.ctype ≠ 1 ∧ c.ctype ≠ 2) ∨ 28 < c.len then h1.cellFault p b
  else if c.index = 0 then
    let h2 := (h1.tunnelRead 1 (sysCtx p)).1
    if h2.sysOpen p then h2.cellRoute p (sysCtx p) b else h2.cellFree p b
  else if h1.pair.moved.any (fun m => decide (m.1 = 256 * p + c.index)) then
    (({ h1 with pair := { h1.pair with discard := trunc 32 (h1.pair.discard + 1) } } : Hub).cellFree p b).tally 0x0C04 0 1
  else
    let h2 := (h1.tunnelRead 1 (h1.cellCtx p c.index)).1
    match h2.cellTunnel p c.index with
    | some i => if h2.cellsDone p i then h2.cellFault p b else h2.cellRoute p i b
    | none => (h2.cellFault p b).staleTear p c.index

/-- A good group with sequence RX_NEXT is delivered (R116); the sixteenth that is not acknowledged is acknowledged now (R120). -/
def Hub.groupDeliver (h : Hub) (p : Nat) (cells : List BufCell) : Hub :=
  let h1 := h.updLink p (fun x => { x with rxNext := (x.rxNext + 1) % 65536, awaiting := false, nakAt := none, unacked := x.unacked + 1 })
  let h2 := cells.foldl (fun h c => h.cellIn p c) h1
  if 16 ≤ (h2.link p).unacked then h2.idleSend p else h2

/-- The cells of a good group are written into the switch buffer. -/
def Hub.receiveCells (h : Hub) (p : Nat) (cells : List Cell) : Hub × List BufCell :=
  cells.foldl (fun r c =>
    let w := r.1.receiveCell p c
    (w.1, r.2 ++ [w.2])) (h, [])

/-- Held groups that have become due are delivered, at most n of them. -/
def Hub.heldDeliver (h : Hub) (p : Nat) : Nat → Hub
  | 0 => h
  | n + 1 =>
    match (h.link p).heldGroups.find? (fun g => decide (g.seq = (h.link p).rxNext)) with
    | none => h
    | some g =>
      Hub.heldDeliver ((h.updLink p (fun x => { x with heldGroups := x.heldGroups.filter (fun k => decide (k.seq ≠ g.seq)) })).groupDeliver p g.cells) p n

/-- A group has ended with its tally (R116, R117). -/
def Hub.groupRx (h : Hub) (p n : Nat) (cells : List Cell) (seq : Nat) (good : Bool) : Hub :=
  let x := h.link p
  let d := gap 16 seq x.rxNext
  if x.state ≠ .running then h
  else if !good then ((if x.awaiting then h.tally 0x0204 p 1 else h).nakRaise p).ackFlush p
  else if d = 0 then
    let r := (h.linkTraffic p).receiveCells p cells
    (r.1.groupDeliver p r.2).heldDeliver p 3
  else if 32768 ≤ d then h.tally 0x0203 p 1
  else if x.awaiting then ((h.tally 0x0204 p 1).nakRaise p).ackFlush p
  else if 3 < d then (h.nakRaise p).ackFlush p
  else if x.heldGroups.any (fun g => decide (g.seq = seq)) then h.tally 0x0203 p 1
  else
    let r := h.receiveCells p cells
    r.1.updLink p (fun y => { y with heldGroups := y.heldGroups ++ [⟨seq, n, r.2, 0⟩] })

/-! ### Credits (R125) -/

/-- LIMIT of class c in the 96-bit field of a CREDIT block. -/
def creditField (f : BitVec 96) (c : Nat) : Nat := f.toNat / 2 ^ (12 * c) % 4096

/-- A CREDIT block arrives. -/
def Hub.creditRx (h : Hub) (p : Nat) (init : Bool) (f : BitVec 96) : Hub :=
  let x := h.link p
  if x.state = .init then
    if !init then h
    else
      let lim : Tab Nat := (List.range 8).foldl (fun t c => t.set 0 c (creditField f c)) ⟨[]⟩
      ((h.updLink p (fun y => { y with initCredit := true, sent := ⟨[]⟩, limit := lim })).initDone p).linkReady p
  else if x.state = .running then
    let lim := (List.range 8).foldl (fun (t : Tab Nat) c =>
      let ahead := gap 12 (creditField f c) (t.get 0 c)
      if 1 ≤ ahead ∧ ahead ≤ 2047 then t.set 0 c (creditField f c) else t) x.limit
    h.updLink p (fun y => { y with limit := lim })
  else h

/-- CREDIT_SEND: one block on each lane in service that is not Quiet and carries more than IDLE blocks (R131); a direction wholly Quiet
wakes logical lane 0 when credit is due. During a sweep none is given (R263). -/
def Hub.creditTurn (h : Hub) (p : Nat) : Hub :=
  if !h.running p ∨ h.sw.sweep then h
  else
    let awake := (h.lanesIn p).filter (fun n => !(h.lane n).txQuiet)
    if awake = [] then (if h.creditDue p ∧ h.lanesIn p ≠ [] then h.creditSend p (h.ctrlLane p) false else h)
    else (awake.filter (fun n => decide (n ∉ (h.link p).joining))).foldl (fun h n => h.creditSend p n false) h

/-! ### Fog signals (R126, R518, R568) -/

/-- A CAUSE that R126 allots. -/
def fogAllotted (cause : Nat) : Bool :=
  decide (cause = 1) || decide (cause = 2) || (decide (0x10 ≤ cause) && decide (cause ≤ 0x3F)) || decide (0x80 ≤ cause)

/-- A chain reset that this hub acts on (R568). -/
def Hub.resetsChain (h : Hub) (p : Nat) (f : FogSignal) : Bool :=
  decide (h.val Od.rstResetFogCause ≠ 0) && decide (f.cause.toNat = h.val Od.rstResetFogCause) && decide (h.upPort = some p) &&
    decide (f.originDepth.toNat < h.links.hopDepth)

/-- A fog signal arrives. -/
def Hub.fogRx (h : Hub) (p : Nat) (f : FogSignal) : Hub :=
  if !fogAllotted f.cause.toNat then { h with links := { h.links with fogReserved := h.links.fogReserved + 1 } }
  else if (f.origin, f.seq) ∈ h.links.fogSeen then h
  else
    let h1 := ((h.fogSee f).flag (Rg.linkFlags p) 7).fire Ev.fogReceived (u8 p ++ u8 f.cause.toNat)
    let h2 := (h1.fogSend f (h1.runningPorts.filter (fun q => decide (q ≠ p)))).lampsFog f.cause.toNat
    let h3 := if f.cause = 1 then h2.discardPairs (fun _ => true) else h2
    if h3.resetsChain p f then { h3 with pwr := { h3.pwr with chainReset := true } } else h3

/-- The next copy of a fog signal leaves on link p; none is left once the link has left RUNNING. -/
def Hub.fogRepeat (h : Hub) (p : Nat) : Hub :=
  match h.links.fogCopies.find? (fun c => decide (c.link = p)) with
  | none => h
  | some c =>
    let rest := h.links.fogCopies.erase c
    let next := if c.copies ≤ 1 then rest else rest ++ [{ c with copies := c.copies - 1 }]
    ({ h with links := { h.links with fogCopies := next } } : Hub).blockOut p (fogBytes c.fog)

/-- FOG_SEND, code 0x0210 (R140). -/
def Hub.cmdFogSend (h : Hub) (req : Path) (c tag : Nat) (args : Bytes) : Hub :=
  h.issue req c 0x0210 tag args (firstAbort [(decide (args.length < 1), abArg 4), (decide (field args 0 1 < 0x80), abArg 4), argLen args 3])
    (firstState [(decide (h.runningPorts = []), stLinkDown)])
    (fun h => (h.fogOriginate (field args 0 1) (field args 1 2)).finish c 0 (u8 h.runningPorts.length))

/-! ### Cell slots (R181 to R183) -/

/-- The head cell of each tunnel queue of an egress. -/
def queueHeads : List BufCell → List BufCell
  | [] => []
  | q :: t => q :: (queueHeads t).filter (fun x => decide (x.ctx ≠ q.ctx))

/-- The queue without the first cell of context i. -/
def dropHead (i : Nat) : List BufCell → List BufCell
  | [] => []
  | q :: t => if q.ctx = i then t else q :: dropHead i t

/-- A class has credit on a link (R125). -/
def Hub.hasCredit (h : Hub) (p c : Nat) : Bool :=
  let d := gap 12 ((h.link p).limit.get 0 c) ((h.link p).sent.get 0 c)
  decide (1 ≤ d) && decide (d ≤ 2047)

/-- The lane with logical number k of link p can take a cell: a group is open on it, or the replay buffer is not full (R118). -/
def Hub.slotLane (h : Hub) (p k : Nat) : Option Nat :=
  let x := h.link p
  (h.txLanes p).find? (fun n => decide (h.laneLogical n = k) && h.running p &&
    (x.openGroups.any (fun g => decide (g.lane = n)) || decide (x.replay.length + x.openGroups.length < 32)))

/-- A queue with a head cell is eligible in a round of egress e: 0 committed, 1 excess (R182). -/
def Hub.eligible (h : Hub) (e round : Nat) (q : BufCell) : Bool :=
  (if e < 3 then h.hasCredit e q.cls else !h.classPaused e q.cls) &&
    (decide (round = 1) || (!q.cell.yellow && decide (q.ctx ∉ h.demotedOn e h.plan.activePlan)))

/-- Heads of a class that are eligible in a round. -/
def Hub.eligibleIn (h : Hub) (e round c : Nat) : List BufCell :=
  (queueHeads (h.egress e).queue).filter (fun q => decide (q.cls = c) && h.eligible e round q)

/-- Quantum of class c on egress e in the active plan. -/
def Hub.quantum (h : Hub) (e c : Nat) : Nat := h.inForce (Od.egrQuantum e (8 * h.plan.activePlan + c))

/-- The queue served next after the one served last, in cyclic order of contexts. -/
def nextAfter (last : Nat) (l : List BufCell) : Option BufCell :=
  let least (l : List BufCell) : Option BufCell := l.foldl (fun b q => match b with
    | some x => if q.ctx < x.ctx then some q else some x
    | none => some q) none
  match least (l.filter (fun q => decide (last ≤ q.ctx))) with
  | some q => some q
  | none => least l

/-- R183 from class c on: the egress as the round leaves it, and the head to send. The first argument bounds the classes
that are looked at. -/
def Hub.serve (h : Hub) (e round : Nat) : Nat → Nat → Egress → Egress × Option BufCell
  | 0, _, x => (x, none)
  | n + 1, c, x =>
    let key := 8 * round + c
    let l := h.eligibleIn e round c
    match if 1 ≤ x.deficit.get 0 key then nextAfter (x.lastCtx.get 0 key) l else none with
    | some q =>
      ({ x with
         deficit := x.deficit.set 0 key (x.deficit.get 0 key - 1), lastCtx := x.lastCtx.set 0 key (q.ctx + 1),
         current := x.current.set 0 round c }, some q)
    | none =>
      let d1 := if l = [] then x.deficit.set 0 key 0 else x.deficit
      let c1 := (c + 1) % 8
      let key1 := 8 * round + c1
      Hub.serve h e round n c1 { x with deficit := d1.set 0 key1 (d1.get 0 key1 + h.quantum e c1) }

/-- Some queue of egress e is eligible in a round. -/
def Hub.anyEligible (h : Hub) (e round : Nat) : Bool := (queueHeads (h.egress e).queue).any (h.eligible e round)

/-- The cell that egress e sends in this slot, and its round (R182): the hub, the head, whether it is the excess round. -/
def Hub.chooseCell (h : Hub) (e : Nat) : Hub × Option BufCell × Bool :=
  let go (round : Nat) : Hub × Option BufCell × Bool :=
    let x := h.egress e
    let r := h.serve e round 24 (x.current.get 0 round) x
    (h.setEgress e r.1, r.2, decide (round = 1))
  if h.anyEligible e 0 then go 0 else if h.anyEligible e 1 then go 1 else (h, none, false)

/-- The head cell of context i leaves egress e. -/
def Hub.popHead (h : Hub) (e i : Nat) : Hub :=
  let x := h.egress e
  h.setEgress e { x with queue := dropHead i x.queue }

/-- The queue of context i without the cells up to the end of the segment in hand; a SYSTEM segment that lost a cell goes whole (R263). -/
def dropToEos (i : Nat) : List BufCell → List BufCell
  | [] => []
  | q :: t => if q.ctx ≠ i then q :: dropToEos i t else if q.cell.eos then t else dropToEos i t

/-- A cell cannot be read at its turn: its word is free, and what is left of a SYSTEM segment that a link was sending goes with it. -/
def Hub.loseCell (h : Hub) (reader e : Nat) (b : BufCell) : Hub :=
  let x := h.egress e
  let q := if 256 ≤ b.ctx ∧ reader = 1 then dropToEos b.ctx x.queue else dropHead b.ctx x.queue
  let gone := x.queue.filter (fun c => decide (c.ctx = b.ctx))
  let kept := (q.filter (fun c => decide (c.ctx = b.ctx))).length
  (h.setEgress e { x with queue := q }).freeWords ((gone.take (gone.length - kept)).map (fun c => { c with damage := if c = b then 0 else c.damage }))

/-- The damage of a cell found at its reading (R262, R263), by a link (1) or by gathering (2): the hub, and whether the cell is lost. Of a
segment that is gathered, and of any SYSTEM segment, SEG_DISCARD counts the loss. -/
def Hub.readCell (h : Hub) (reader e : Nat) (b : BufCell) : Hub × Bool :=
  let lost (region : Nat) : Hub :=
    let a := (h.loseCell reader e b).wordAddr region
    let h1 := (if region = 0 then a.1.freeDamaged 0 a.2 b.damage else a.1).eccBad reader region a.2
    (if reader = 2 ∨ 256 ≤ b.ctx then h1.segDiscard b.ctx else h1).faultSend b.ctx 6
  if 2 < b.descDamage then
    let h1 := lost 4
    ({ h1 with sw := { h1.sw with sweep := true } }, true)
  else if 2 < b.damage then (lost 0, true)
  else
    let h1 := if b.descDamage = 0 then h else h.eccCorrected 4
    (if b.damage = 0 then h1 else h1.eccCorrected 0, false)

/-- What may follow once cells of context i have left. -/
def Hub.afterCells (h : Hub) (i : Nat) : Hub := ((h.drainProgress i).transitDrained i).settleClass i

/-- Counts of a context whose cell has been sent on link p (R158, R164, R175). -/
def Ctx.sentOn (x : Ctx) (p : Nat) (c : Cell) : Ctx :=
  let y := if x.role ≠ .transit then { x with cellsSent := trunc 32 (x.cellsSent + 1) }
    else if p = x.towardResponder then { x with fwdDown := trunc 32 (x.fwdDown + 1) } else { x with fwdUp := trunc 32 (x.fwdUp + 1) }
  if x.role = .transit ∧ p ≠ x.portA then { y with segRx := trunc 64 (x.segRx + b2n c.eos), bytesRx := trunc 64 (x.bytesRx + c.len) }
  else { y with segTx := trunc 64 (x.segTx + b2n c.eos), bytesTx := trunc 64 (x.bytesTx + c.len) }

/-- A cell joins the open group of a lane, or starts one (R114); the 16th closes it. -/
def Hub.groupCell (h : Hub) (p n : Nat) (c : BufCell) : Hub :=
  let x := h.link p
  match x.openGroups.find? (fun g => decide (g.lane = n)) with
  | some g =>
    let h1 := h.updLink p (fun y => { y with openGroups := y.openGroups.map (fun k => if k.lane = n then { k with cells := k.cells ++ [c] } else k) })
    if 16 ≤ g.cells.length + 1 then h1.groupClose p n else h1
  | none => h.updLink p (fun y => { y with openGroups := y.openGroups ++ [⟨y.txNext, n, [c], 0⟩], txNext := (y.txNext + 1) % 65536 })

/-- A cell is sent for the first time on lane n of link p: its charge moves to the replay account (R125, R244). -/
def Hub.cellSend (h : Hub) (p n : Nat) (b : BufCell) : Hub :=
  let k := b.cls
  let sound : BufCell := { b with damage := 0, descDamage := 0 }
  let h1 := (((h.popHead p b.ctx).freeWords [sound]).charge (acReplay p) 1).updLink p (fun x => { x with sent := x.sent.set 0 k ((x.sent.get 0 k + 1) % 4096) })
  let h2 := ((h1.updCtx b.ctx (fun x => x.sentOn p b.cell)).tally 0x0207 p 1).mirrorCell 3 p b.cell
  (h2.groupCell p n { sound with account := some (acReplay p) }).afterCells b.ctx

/-- A decapsulation job of the cells of a whole segment waits for dispatch (R214). -/
def Hub.gathered (h : Hub) (i : Nat) (cells : List BufCell) : Hub :=
  let x := h.ctx i
  let j : Job := { ctx := i, cls := x.cls, handle := h.handle i, encap := false, ticket := 0, tseq := 0, cells := cells, skipped := x.rxSkipped,
                   words := 0, seg := ⟨cells.flatMap (fun c => c.cell.payload.take c.cell.len), cells.any (·.cell.yellow)⟩, ingress := 32,
                   state := .pending, pinned := pinnedKind x.kind, fences := 0, poisoned := false, damage := 0 }
  let h1 := h.updCtx i (fun y => { y with rxOpen := [], rxSkipped := [] })
  { h1 with eng := { h1.eng with waiting := h1.eng.waiting ++ [j] } }

/-- Cells are discarded at gathering, one discard counted (R153): commit still checks their TSEQ in its turn (R154). -/
def Hub.gatherDiscard (h : Hub) (i : Nat) (cells : List BufCell) : Hub :=
  ((h.freeWords cells).updCtx i (fun y => { y with rxOpen := [], rxSkipped := y.rxSkipped ++ cells.map (·.cell.tseq) })).segDiscard i

/-- A cell is gathered at egress e, with the checks of R153 on SOS, EOS, LEN and MAX_SEG (R214): the segment it ends becomes a job. -/
def Hub.gatherCell (h : Hub) (e : Nat) (b0 : BufCell) : Hub :=
  let i := b0.ctx
  let b : BufCell := { b0 with damage := 0, descDamage := 0 }
  let c := b.cell
  let h0 := h.popHead e i
  let before := (h0.ctx i).rxOpen
  if (h0.ctx i).direction = 1 then
    -- DIRECTION excludes the cell alone: what is open stays
    ((h0.freeWords [b]).updCtx i (fun y => { y with rxSkipped := y.rxSkipped ++ [c.tseq] })).segDiscard i
  else
    let h1 := if c.sos ∧ before ≠ [] then h0.gatherDiscard i before else h0
    let cells := (if c.sos then [] else before) ++ [b]
    let total := (cells.map (·.cell.len)).sum
    if !c.sos ∧ before = [] then h1.gatherDiscard i [b]
    else if (!c.eos ∧ c.len ≠ 28) ∨ (h1.ctx i).rxLimit < total ∨ (c.eos ∧ total = 0) then h1.gatherDiscard i cells
    else if c.eos then h1.gathered i cells
    else h1.updCtx i (fun y => { y with rxOpen := cells })

/-- The oldest mirror copy of egress e leaves by its DEST, no queue being eligible; toward HOSTQ it waits for the output quota (R246, R257). -/
def Hub.copySend (h : Hub) (e : Nat) : Hub :=
  match h.sw.mirrorQ.find? (fun m => decide (egressOfPort (portCode m.dest) = e)) with
  | none => h
  | some m =>
    let hostq := decide (portCode m.dest = 0x61)
    if hostq && decide (h.quotaOut e < h.sw.stageOut.get 0 e + stageCharge m.frame.length) then h
    else
      let h1 : Hub := { h with sw := { h.sw with mirrorQ := h.sw.mirrorQ.erase m } }
      let h2 := (h1.uncharge acMirror m.words).bump (Od.mirCopies m.session) 64 m.copies
      if hostq then h2.hostqDeliver (selector m.dest) ⟨0, 7, m.dest, false, m.frame⟩
      else (h2.emit (.frame (portCode m.dest) m.frame)).tally 0x0802 (portCode m.dest) 1

/-- CELL_SLOT: a cell slot of egress e; `k` is the logical lane whose slot it is on a link. -/
def Hub.cellSlot (h : Hub) (e k : Nat) : Hub :=
  if e < 3 then
    if (h.link e).resend ≠ [] then h.resendRun e
    else match h.slotLane e k with
      | none => h
      | some n =>
        match h.chooseCell e with
        | (h1, some q, excess) =>
          let r := h1.readCell 1 e q
          if r.2 then r.1
          else
            let h2 := r.1.cellSend e n q
            if excess then h2.tally 0x0304 e 1 else h2
        | (h1, none, _) => h1
  else match h.chooseCell e with
    | (h1, some q, excess) =>
      let r := h1.readCell 2 e q
      if r.2 then r.1
      else
        let h2 := r.1.gatherCell e q
        (if excess then h2.tally 0x0304 e 1 else h2).afterCells q.ctx
    | (h1, none, _) => h1.copySend e

/-! ### Dispatch, and Tenders that come into service (R216, R226, R232) -/

/-- JOB_DISPATCH of a direction: a returned job first, otherwise the oldest segment waiting (R216, R224). -/
def Hub.jobDispatch (h0 : Hub) (i : Nat) (encap : Bool) : Hub :=
  let h := (h0.tunnelRead 2 i).1
  match h.returned i encap with
  | some (t, j) => h.redispatch t j
  | none =>
    let h1 := h.dispatch i encap
    if portCode (h.ctx i).localBind = 0x30 ∧ encap then h1.emmcRun else h1

/-- Tenders have come into service: directions get homes, the SYSTEM tunnels of RUNNING links open, and ports may train (R216, R232). -/
def Hub.tendersUp (h : Hub) : Hub :=
  ([0, 1, 2].foldl (fun h p => h.systemUp p) (h.movePins.homeless.judgeShort)).portsJudge

/-- The checks of R226: the local data RAM as cleared (`ok` says how that check ends), and the cluster's store against the measurement of the
loaded image. -/
def Hub.restoreOk (h : Hub) (t : Nat) (ok : Bool) : Bool := ok && decide ((h.store (t / 8)).measure = h.eng.mcMeasure)

/-- TENDER_RESTORE, code 0x0501; `ok` says whether the memories pass their checks. -/
def Hub.cmdTenderRestore (h : Hub) (req : Path) (c tag : Nat) (args : Bytes) (ok : Bool) : Hub :=
  let t := field args 0 1
  h.issue req c 0x0501 tag args (firstAbort [argLen args 1, (decide (31 < t), abArg 4)]) (firstState [(h.inFog, stFoghorn)])
    (fun h =>
      let x := h.tender t
      let clear : Tender := { x with ram := ⟨[]⟩ }
      if !x.fenced then h.finish c 0 h.serviceData
      else if !h.domOn (3 + t / 8) then h.finish c (abFailed 2) []
      else if !h.restoreOk t ok then (h.setTender t clear).finish c (abFailed 1) []
      else
        let h1 := (h.setTender t { clear with fenced := false, fenceCause := 0 }).tendersUp
        h1.finish c 0 h1.serviceData)

/-! ### Meanings -/

/-- JOB_DISPATCH (R216). -/
def execJobDispatch (i : JobTunnel) (encap : Bool) (s : State) := onHub (fun h => h.jobDispatch (tunnelNumber i) encap) s
/-- TENDER_RESTORE as its own row. -/
def execTenderRestore (req : Path) (c : Fin 8) (tag : BitVec 16) (args : Bytes) (ok : Bool) (s : State) :=
  onCommand 0x0501 req c tag.toNat args (fun h => h.cmdTenderRestore req c tag.toNat args ok) s

/-- TALLY (R116): the group's cells on its lane, GROUP_SEQ, the acknowledgement; whether the CRC-32 matched, and whether
blocks and their number were right. -/
def execTally (l : Fin 5) (cells : List Cell) (seq : BitVec 16) (ack : Ack) (crcOk framed : Bool) (s : State) :=
  onHub (fun h =>
    let p := lanePort l.val
    let h1 := if crcOk then (h.rxWake l.val).ackRx p ack else h
    h1.groupRx p l.val cells seq.toNat (crcOk && framed)) s

/-- IDLE (R122), or a control block with another type code that R121 does not list: that one is ignored and counted. -/
def execIdle (l : Fin 5) (block : IdleBlock) (crcOk : Bool) (s : State) :=
  onHub (fun h =>
    let p := lanePort l.val
    h.checked p crcOk (fun h0 =>
      let h := h0.rxWake l.val
      match block with
      | .idle ack => h.ackRx p ack
      | .unknown _ => h.updLink p (fun x => { x with ctrlUnknown := x.ctrlUnknown + 1 }))) s

/-- GROUP_CLOSE (R114) of the open group of a lane. -/
def execGroupClose (l : Fin 5) (s : State) := onHub (fun h => h.groupClose (lanePort l.val) l.val) s

/-- REPLAY_TIMEOUT (R119). -/
def execReplayTimeout (p : Fin 3) (s : State) :=
  onHub (fun h => if h.running p ∧ (h.link p).replay ≠ [] then (h.flag (Rg.linkFlags p) 2).replayAll p else h) s

/-- ACK_DUE (R120). -/
def execAckDue (p : Fin 3) (s : State) :=
  onHub (fun h =>
    if !h.running p ∨ ((h.link p).unacked = 0 ∧ !(h.link p).nakDue) then h else h.idleSend p) s

/-- CREDIT (R125): INIT and the 96-bit LIMIT field. -/
def execCredit (p : Fin 3) (init : Bool) (limits : BitVec 96) (crcOk : Bool) (s : State) :=
  onHub (fun h => h.heard p crcOk (fun h => h.creditRx p init limits)) s

/-- CREDIT_SEND (R125). -/
def execCreditSend (p : Fin 3) (s : State) := onHub (fun h => h.creditTurn p) s

/-- LINK_INIT (R134); a resume that has been exchanged replays what the far end lacks (R135). -/
def execLinkInit (p : Fin 3) (b : LinkInit) (crcOk : Bool) (s : State) :=
  onHub (fun h => h.heard p crcOk (fun h => (h.linkInitRx p b).resendRun p)) s

/-- LINK_INIT_PAGE_SEND (R134). -/
def execLinkInitPageSend (p : Fin 3) (s : State) := onHub (fun h => (h.linkPageSend p).resendRun p) s

/-- INIT_TIMEOUT (R133): at the upstream end, then the leader retrains the port. -/
def execInitTimeout (p : Fin 3) (s : State) :=
  onHub (fun h => if (h.link p).state = .init ∧ (h.port p).leader ∧ !h.initWaits p then (h.linkDown p 2).portRetrain p none else h) s

/-- FOG_SEND as its own row. -/
def execFogSend (req : Path) (c : Fin 8) (tag : BitVec 16) (args : Bytes) (s : State) :=
  onCommand 0x0210 req c tag.toNat args (fun h => h.cmdFogSend req c tag.toNat args) s

/-- CELL_SLOT (R182). -/
def execCellSlot (e : Fin 32) (k : Fin 2) (s : State) := onHub (fun h => h.cellSlot e.val k.val) s

end Sys2Proof.Machine
end

