-- ==== Sys2Proof/Machine/Power.lean ====
section
/-!
DEFINITION. Power domains and their handshake, pad holds, wake latches, supply droop, PLLs, the watchdog's kick and warning,
and the flash commands (R540, R548 to R563, R567, R578).
-/

namespace Sys2Proof.Machine

/-! ### States of a domain (R548 to R550) -/

/-- Change domain d. -/
def Hub.updDomain (h : Hub) (d : Nat) (f : DomSt → DomSt) : Hub := h.setDomain d (f (h.domain d))

/-- Port codes of the local ports of a domain. -/
def domPort (d code : Nat) : Bool :=
  match d with
  | 10 => decide (code / 16 = 1)
  | 11 => decide (code = 0x60) || decide (code = 0x61)
  | 12 => decide (code = 0x50) || decide (code = 0x51)
  | 13 => decide (code = 0x48) || decide (code = 0x49)
  | 14 => decide (code = 0x40) || decide (code = 0x41)
  | 15 => decide (code = 0x30) || decide (code / 16 = 7)
  | _ => false

/-- Tunnels in OPENING, OPEN or DRAINING that bind a port of domain d. -/
def Hub.domBound (h : Hub) (d : Nat) : Bool :=
  h.ctxList.any (fun c => c.2.busy && decide (c.2.role ≠ .transit) && domPort d (portCode c.2.localBind))

/-- PLL_LOCK bits of the PLLs that stop with domain d (R557, R562, R577). -/
def Hub.domPll (h : Hub) (d : Nat) : Option Nat :=
  if d = 0 then some 1 else if 7 ≤ d ∧ d < 10 then some (d - 4) else if d = 10 then some 6
  else if d = 13 then (if h.domOn 14 then none else some 7) else if d = 14 then (if h.domOn 13 then none else some 7)
  else if d = 11 then some 8 else none

/-- A PLL has lock or not. -/
def Hub.setPll (h : Hub) (k : Option Nat) (v : Bool) : Hub :=
  match k with
  | none => h
  | some b => { h with pwr := { h.pwr with pllLocked := if v then setBit b h.pwr.pllLocked else h.pwr.pllLocked &&& (0x1FF - 2 ^ b) } }

/-- A domain is in a new state: it is counted and raised (R575, R579, R582). -/
def Hub.domChanged (h : Hub) (d : Nat) (st : DomState) : Hub :=
  ((h.updDomain d (fun x => { x with state := st })).tally 0x0F01 d 1).fire Ev.domainChanged (u8 d ++ u8 st.code)

/-! ### What leaving does (R552) -/

/-- What SWITCH holds is lost with its power: contexts, the classification table, buffers and queues. -/
def Hub.switchLost (h : Hub) : Hub :=
  let h1 := h.ctxList.foldl (fun h c => ((h.purge c.1).1).freeCtx c.1) h
  { h1 with
    mem := []
    sw := { SwSt.init with allotInForce := h1.sw.allotInForce }
    eng := { h1.eng with waiting := [] }
    plan := { h1.plan with egresses := ⟨[]⟩, meters := ⟨[]⟩ }
    vid := { h1.vid with writing := none, ready := none, shown := none } }

/-- The jobs of a cluster are discarded. -/
def Hub.clusterDiscard (h : Hub) (k : Nat) : Hub :=
  (List.range 8).foldl (fun h n =>
    let t := 8 * k + n
    let l := (h.tender t).jobs
    l.foldl Hub.discardJob (h.setTender t { h.tender t with jobs := [] })) h

/-- A cluster has left: no home or job stays on it (R233). Without power its Tenders lose their memories; a fenced one stays fenced until
TENDER_RESTORE or a reset (R226), and the counts stay. -/
def Hub.clusterStop (h : Hub) (k : Nat) (t : DomState) : Hub :=
  let h1 := (List.range 8).foldl (fun h n => h.rehome (8 * k + n)) (h.clusterDiscard k)
  let lost (h : Hub) : Hub := (List.range 8).foldl (fun h n => h.setTender (8 * k + n) { h.tender (8 * k + n) with ram := ⟨[]⟩ }) (h.loadStore k none)
  (if t = .off then lost h1 else h1).judgeShort

/-- A cluster is on again (R233): after off its store is reloaded from the verified image, and its Tenders take part. -/
def Hub.clusterStart (h : Hub) (k : Nat) (cold : Bool) : Hub := (if cold then h.loadStore k h.eng.verified else h).tendersUp

/-- DSI and its frame store stop; ENABLE stays as it was written. -/
def Hub.dsiHalt (h : Hub) : Hub := (h.dsiEnable false).put Od.dsiEnable (h.val Od.dsiEnable)

/-- The eMMC host stops; ENABLE stays as it was written. -/
def Hub.emmcHalt (h : Hub) : Hub := (h.emmcEnable false).put Od.emmcEnable (h.val Od.emmcEnable)

/-- The ECC engine and the TRNG are without power: commands that wait end with CANCELLED, the start-up test runs afresh. -/
def Hub.cryptoLost (h : Hub) : Hub :=
  let l := h.sec.ecc
  let h1 : Hub := { h with sec := { h.sec with ecc := [], trng := .startup } }
  l.foldl (fun h e => h.doneOpt e.2 abCancelled []) h1

/-- The daymark queue is emptied; without power the Lamps lose their state, and their balls stay as the pads hold them. -/
def Hub.lampStop (h : Hub) (t : DomState) : Hub :=
  let h1 := h.clearDaymarks
  if t = .off then lampNumbers.foldl (fun h l => h.setLamp l { LampSt.init with ball := (h.lamp l).ball }) h1 else h1

/-- The effects of leaving on (R552); without power the domain's state is lost (R549). -/
def Hub.domStop (h : Hub) (d : Nat) (t : DomState) : Hub :=
  let h1 := h.loseBindings (fun b => domPort d (portCode b))
  if d = 2 then (if t = .off then h1.switchLost else h1)
  else if d < 2 then h1
  else if d < 7 then h1.clusterStop (d - 3) t
  else if d < 10 then h1.portsJudge
  else if d = 10 then (List.range 8).foldl (fun h n => h.ethLink n 0) h1
  else if d = 11 then (h1.pcieLink 0 0).hostReset
  else if d = 12 then (h1.hsicJudge 0).hsicJudge 1
  else if d = 13 then h1.dsiHalt
  else if d = 14 then (h1.csiStop 0).csiStop 1
  else if d = 15 then (List.range 6).foldl (fun h n => h.setSer n { h.ser n with busy := none }) h1.emmcHalt
  else if d = 16 then (if t = .off then h1.cryptoLost else h1)
  else h1.lampStop t

/-- Step 4 of R551: the pads are held, then the domain leaves on. -/
def Hub.domLeave (h : Hub) (d : Nat) (t : DomState) : Hub :=
  let x := h.domain d
  let h1 := h.setDomain d { x with state := t, target := none, force := false, cold := false, padsHeld := true, entries := x.entries + 1 }
  let h2 : Hub := { h1 with pwr := { h1.pwr with powerUps := h1.pwr.powerUps.filter (fun e => decide (e ≠ d)) } }
  ((h2.setPll (h2.domPll d) false).domStop d t).domChanged d t

/-! ### The Tender image (R231, R232) -/

/-- Directory entry e: TYPE, OFFSET, LENGTH and CRC; TYPE 0 without a directory. -/
def Hub.dirEntry (h : Hub) (e : Nat) : Nat × Nat × Nat × Nat :=
  if h.flashBytes 0 4 ≠ ascii "HXDR" then (0, 0, 0, 0)
  else
    let b := h.flashBytes (16 + 16 * e) 16
    (field b 0 1, field b 4 4, field b 8 4, field b 12 4)

/-- The first Tender entry that passes the checks, in the order given. -/
def Hub.imageFirst (h : Hub) : List Nat → Hub × Option Image
  | [] => (h, none)
  | e :: t => match h.imageCheck (h.dirEntry e).2.1 with
    | (h1, .ok m) => (h1, some m)
    | (h1, .error _) => h1.imageFirst t

/-- The Tender image is loaded, or MC_INVALID is raised; the pins take their settings. Without SWITCH there is no staging SRAM to check an image
in, so that none passes (log 72). -/
def Hub.imageStart (h : Hub) : Hub :=
  let h0 : Hub := { h with eng := { h.eng with pinA := h.val Od.engPinA, pinB := h.val Od.engPinB, exclusive := decide (h.val Od.engPinExclusive = 1) } }
  match h0.imageFirst ((List.range 16).filter (fun e => decide ((h0.dirEntry e).1 = 2) && h0.domOn 2)) with
  | (h1, some m) => h1.imageIn m
  | (h1, none) => (h1.flag Rg.engFlags 6).fire Ev.mcInvalid []

/-! ### What returning does (R549, R556) -/

/-- The entries of a domain are applied to it, and its units start. -/
def Hub.domStart (h : Hub) (d : Nat) (cold : Bool) : Hub :=
  if d < 2 then h
  else if d = 2 then (if h.eng.verified.isNone ∧ h.pwr.bootPhase = .keeper then h.imageStart.tendersUp else h)
  else if d < 7 then h.clusterStart (d - 3) cold
  else if d < 10 then h.portsJudge
  else if d = 12 then (h.hsicJudge 0).hsicJudge 1
  else if d = 13 then (if h.val Od.dsiEnable = 1 then h.dsiEnable true else h)
  else if d = 15 then (if h.val Od.emmcEnable = 1 then h.emmcStart else h)
  else if d = 17 ∧ cold then lampNumbers.foldl (fun h l => if h.val (Od.lampEnable l) = 1 then h.lampEnable l true else h) h
  else h

/-- A domain reaches on. -/
def Hub.domUp (h : Hub) (d : Nat) : Hub :=
  let x := h.domain d
  let pll := h.domPll d
  let h1 := h.setDomain d { x with state := .on, target := none, force := false, command := none, cold := false }
  let h2 : Hub := { h1 with pwr := { h1.pwr with powerUps := h1.pwr.powerUps.filter (fun e => decide (e ≠ d)) } }
  let h3 := ((h2.setPll pll true).domChanged d .on).domStart d x.cold
  h3.doneOpt x.command 0 (h3.domResult d ++ if d = 0 then u16 h.evt.wakeLatch.toNat else [])

/-- DOMAIN_POWER_UP_DONE: those that wait for inrush come one at a time (R553). -/
def Hub.powerUpDone (h : Hub) (d : Nat) : Hub :=
  if (h.domain d).state = .transition ∧ (d ∉ h.pwr.powerUps ∨ h.pwr.powerUps.head? = some d) then h.domUp d else h

/-! ### The handshake (R551 to R554) -/

/-- Every encoder input is in MODE 0, no mooring stage runs and every other domain is off (R557). -/
def Hub.aonMayRest (h : Hub) : Bool :=
  (List.range 16).all (fun k => decide ((h.domain (k + 2)).state = .off)) &&
    decide (h.moor.stage ∉ [.ramp, .powered, .transition]) && [0, 1, 2, 3].all (fun n => decide (h.val (Od.encMode n) = 0))

/-- A block of domain d refuses to leave on (R233, R552). -/
def Hub.domRefuses (h : Hub) (d : Nat) (t : DomState) : Bool :=
  if d = 0 then !h.aonMayRest
  else if d = 1 then decide (t = .retention) && (List.range 15).any (fun k => decide ((h.domain (k + 2)).state = .on) || decide ((h.domain (k + 2)).state = .transition))
  else if d = 2 then h.ctxList.any (fun c => decide (c.2.state ≠ .free)) || [0, 1, 2].any (fun p => decide ((h.link p).state ≠ .down))
  else if d < 7 then (List.range 8).any (fun n => h.isPin (8 * (d - 3) + n))
  else if d < 10 then h.ctxList.any (fun c => c.2.busy && decide (d - 7 ∈ c.2.ports))
  else if d < 16 then h.domBound d
  else if d = 16 then h.ctxList.any (fun c => c.2.isSealed && decide (c.2.state = .open)) || (List.range 8).any (fun k => decide ((h.pairKey k).target ≠ 0))
  else lampNumbers.any (fun l => decide ((h.lamp l).state = .active))

/-- A command runs on a channel other than the one given. -/
def Hub.commandRuns (h : Hub) (but : Option Nat) : Bool :=
  (List.range 8).any (fun c => decide (some c ≠ but) && decide ((h.chan c).state = .running))

/-- A block of domain d delays (R233, R552); the access that brought the request itself has been answered. Frames, packets and lines are whole commands here, so none is in progress between
two of them. -/
def Hub.domDelays (h : Hub) (d : Nat) : Bool :=
  if d < 2 then h.ctl.keeperQ.any (fun a => (h.domain d).command.all (fun c => decide (256 * a.index + a.sub ≠ (Od.cmdCommand c).key))) ||
    h.commandRuns (h.domain d).command
  else if d = 2 then h.sw.sweep
  else if d < 7 then (List.range 8).any (fun n => decide ((h.tender (8 * (d - 3) + n)).jobs ≠ []))
  else if d < 10 then decide ((h.link (d - 7)).replay ≠ [])
  else if d = 15 then decide (h.io.emmc.chunk ≠ 0) || (List.range 6).any (fun n => (h.ser n).busy.isSome)
  else if d = 16 then decide (h.sec.ecc ≠ [])
  else if d = 17 then lampNumbers.any (fun l => decide ((h.lamp l).edges ≠ []))
  else false

/-- A request for domain d fails (R552 to R554, R578), and its command ends. -/
def Hub.domFail (h : Hub) (d why : Nat) : Hub :=
  let h2 := h.domStays d why
  let h3 := if 3 ≤ d ∧ d < 7 then h2.homeless.judgeShort else h2
  h3.doneOpt (h.domain d).command (abFailed why) (h3.domResult d)

/-- Every block has granted: the domain leaves, AON after KEEPER (R551, R557). The command of AON's retention runs on until a wake. -/
def Hub.domGo (h : Hub) (d : Nat) (t : DomState) : Hub :=
  let c := (h.domain d).command
  if d = 0 then
    let h1 := (h.domLeave 1 t).domLeave 0 t
    h1.updDomain 0 (fun x => { x with command := c })
  else
    let h1 := (h.updDomain d (fun x => { x with command := none })).domLeave d t
    h1.doneOpt c 0 (h1.domResult d)

/-- A request in its handshake is judged: a refusal or a delay, or the grant of every block. FORCE goes on despite both, other
than the refusals that R553 excepts. -/
def Hub.domJudge (h : Hub) (d : Nat) : Hub :=
  let x := h.domain d
  match x.target with
  | some t =>
    let hard := decide (d < 2) || (decide (3 ≤ d) && decide (d < 7))
    let no := h.domRefuses d t
    let wait := h.domDelays d
    if no ∧ (!x.force ∨ hard) then h.domFail d 1
    else if wait ∧ !x.force then h
    else
      let h1 := if no ∨ wait then h.fire Ev.domainForced (u8 d) else h
      let h2 := if d = 17 ∧ (no ∨ wait) then h1.lampsDark else h1
      h2.domGo d t
  | none => h

/-- A new request replaces the one still in its handshake, or on its way to on (R554). -/
def Hub.domReplace (h : Hub) (d : Nat) : Hub :=
  let x := h.domain d
  if x.target.isNone ∧ x.state ≠ .transition then h
  else
    let back : DomState := if x.state = .transition then (if x.cold then .off else .retention) else x.state
    let h1 := h.setDomain d { x with state := back, target := none, force := false, command := none, cold := false }
    let h2 : Hub := { h1 with pwr := { h1.pwr with powerUps := h1.pwr.powerUps.filter (fun e => decide (e ≠ d)) } }
    h2.doneOpt x.command abCancelled []

/-- A request for domain d (R549, R551): a domain already in the state asked for, or one off that is asked for retention, stays. -/
def Hub.domRequest (h0 : Hub) (d : Nat) (t : DomState) (force : Bool) (c : Option Nat) : Hub :=
  let h := h0.domReplace d
  let x := h.domain d
  let stay := h.doneOpt c 0 (h.domResult d)
  if x.state = t then stay
  else if t = .on then
    let h1 := h.setDomain d { x with state := .transition, command := c, cold := decide (x.state = .off) }
    if x.state = .off then { h1 with pwr := { h1.pwr with powerUps := h1.pwr.powerUps ++ [d] } } else h1
  else if x.state = .off then stay
  else if x.state = .retention then
    let h1 := (h.domStop d .off).domChanged d .off
    h1.doneOpt c 0 (h1.domResult d)
  else
    let h1 := h.setDomain d { x with target := some t, force := force, command := c }
    let h2 := if 3 ≤ d ∧ d < 7 ∧ !h1.domRefuses d t then ((List.range 8).foldl (fun h n => h.rehome (8 * (d - 3) + n)) h1).judgeShort else h1
    h2.domJudge d

/-- The domain that byte 4 of DOMAIN_SET names is turned off by the mode: the refusal of a request for on (R550, R578). -/
def Hub.domDenied (h : Hub) (d t : Nat) : Bool := decide (t = 0) && decide (d < 18) && !h.domAllowed d

/-- The argument checks of DOMAIN_SET (R578). -/
def Hub.domArgs (h : Hub) (req : Path) (args : Bytes) : Option Abort :=
  let d := field args 0 1
  let t := field args 1 1
  firstAbort [argLen args 3, (decide (17 < d), abArg 4), (decide (2 < t), abArg 5), (decide (1 < field args 2 1), abArg 6),
    (decide (d = 0) && (decide (t ≠ 1) || decide (req ≠ .keeper)), abArg 5), (decide (d = 1) && decide (t = 2), abArg 5),
    (h.domDenied d t && !h.inFog, abArg 5)]

/-- It is the mode that refuses a DOMAIN_SET, every check before that having passed: LAST_REFUSAL 4 (R575). -/
def Hub.modeRefuses (h : Hub) (req : Path) (c : Nat) (args : Bytes) : Bool :=
  let d := field args 0 1
  let t := field args 1 1
  h.domDenied d t && decide (args.length = 3) && decide (0 < d) && decide (field args 2 1 ≤ 1) && (h.codeRefused req 0x0110).isNone &&
    (!h.inFog || decide ((h.chan c).state ≠ .running))

/-- DOMAIN_SET, code 0x0110. -/
def Hub.cmdDomainSet (h0 : Hub) (req : Path) (c tag : Nat) (args : Bytes) : Hub :=
  let d := field args 0 1
  let t : DomState := if field args 1 1 = 0 then .on else if field args 1 1 = 1 then .retention else .off
  let h := if h0.modeRefuses req c args then h0.updDomain d (fun x => { x with lastRefusal := 4 }) else h0
  h.issue req c 0x0110 tag args (h.domArgs req args) (firstState [(h.domDenied d (field args 1 1), stFoghorn)])
    (fun h => h.domRequest d t (decide (field args 2 1 = 1)) (some c))

/-- DELAY_LIMIT of a domain expires (R553). -/
def Hub.delayExpired (h : Hub) (d : Nat) : Hub := if (h.domain d).target.isSome then h.domFail d 2 else h

/-! ### Pad holds (R555) -/

/-- The pads of domain d go back to their blocks, which drive what their state gives. -/
def Hub.padRelease (h : Hub) (d : Nat) : Hub :=
  let h1 := h.updDomain d (fun x => { x with padsHeld := false })
  if d = 17 then lampNumbers.foldl (fun h l => h.driveLamp l (h.lamp l)) h1
  else if d = 12 then [0, 1].foldl (fun h n => h.emit (.line (.hsic n) (b2n (decide ((h.dev (5 * n)).state ≠ .off) && decide ((h.dev (5 * n)).state ≠ .disconnected))))) h1
  else if d = 15 then (List.range 6).foldl (fun h n => if h.val (Od.serMode n) = 0 ∧ h.val (Od.serFlow n) = 1 then
      h.emit (.line (.rts n) (b2n ((List.range 8).any (h.held (n + 23))))) else h) h1
  else h1

/-- The domains of a mask whose pads can be released: held, and on. -/
def Hub.padsFree (h : Hub) (mask : Nat) : List Nat :=
  (List.range 18).filter (fun d => bit d mask && (h.domain d).padsHeld && h.domOn d)

/-- The pads that a mask names are released. -/
def Hub.padsRelease (h : Hub) (mask : Nat) : Hub := (h.padsFree mask).foldl Hub.padRelease h

/-- PAD_RELEASE, code 0x0111. -/
def Hub.cmdPadRelease (h : Hub) (req : Path) (c tag : Nat) (args : Bytes) : Hub :=
  h.issue req c 0x0111 tag args (firstAbort [argLen args 4]) none
    (fun h =>
      let m := field args 0 4
      (h.padsRelease m).done c 0 (u32 ((h.padsFree m).map (fun d => 2 ^ d)).sum))

/-! ### Wake (R540, R557 to R559) -/

/-- The domains that a latch brings back (R559). -/
def wakeDomains (k : Nat) : List Nat :=
  [0, 1] ++ (if k = 9 ∨ k = 10 then [12] else if k = 11 then [11] else if 12 ≤ k ∧ k < 15 then [2, 3, 4, 5, 6, k - 5] else [])

/-- A wake for a domain: one in its handshake stays on (R554), one that has left returns where the mode permits it. -/
def Hub.wakeDomain (h : Hub) (d : Nat) : Hub :=
  if (h.domain d).target.isSome then h.domFail d 3
  else if d < 2 then (if h.domOn d then h else h.domUp d)
  else h.powerQueue d

/-- WAKE_LATCH_SET: an edge on the line of latch k (R540, R541). -/
def Hub.wakeEdge (h : Hub) (k : Nat) (rising : Bool) : Hub :=
  let sel := h.val Od.wakeWakeEdge / 4 ^ k % 4
  let assertion := decide (k ∈ [9, 10, 12, 13, 14])
  let hit := if assertion then rising else decide (sel = 2) || decide (sel = b2n rising)
  if !hit ∨ !bit k (h.val Od.wakeWakeEn) ∨ h.evt.wakeLatch.getLsbD k then h
  else
    let h1 : Hub := { h with evt := { h.evt with wakeLatch := h.evt.wakeLatch ||| BitVec.ofNat 16 (2 ^ k) } }
    ((wakeDomains k).foldl Hub.wakeDomain h1).fireWith (0xF0 + k) [] false true

/-! ### Droop, PLLs, frequency, watchdog (R560 to R563, R567) -/

/-- The supply falls below 0.760 V: a trip, counted in a slow-down too, whose interval of 20 µs it restarts. -/
def Hub.droopTrip (h : Hub) : Hub :=
  let p := h.pwr
  let h0 : Hub := { h with pwr := { p with droopCount := trunc 32 (p.droopCount + 1) } }
  let h1 : Hub := if p.droop then h0
    else { h0 with pwr := { h0.pwr with slow := true, droop := true, slowSince := h.clock, droopTimer := true } }
  let h2 := h1.flag Rg.pwrFlags 0
  match p.lastReturn with
  | some t => if h.clock < t + 10000000 then h2 else h2.fire Ev.droopSlow (u32 h2.pwr.droopCount)
  | none => h2.fire Ev.droopSlow (u32 h2.pwr.droopCount)

/-- Time at 400 MHz is counted, in whole microseconds (R582). -/
def Hub.slowCounted (h : Hub) (since : Nat) : Hub := h.tally 0x0F02 0 ((h.clock - since) / 10000)

/-- The supply has stayed at or above 0.772 V for 20 µs. -/
def Hub.droopReturn (h : Hub) : Hub :=
  let p := h.pwr
  if !p.droop then h
  else
    let h1 : Hub := { h with pwr := { p with slow := decide (h.val Od.rstClockCap = 1), droop := false, droopTimer := false, lastReturn := some h.clock } }
    (h1.slowCounted p.slowSince).fire Ev.droopClear (u32 ((h.clock - p.slowSince) / 10000))

/-- A slow-down has lasted DROOP_LONG_LIMIT. -/
def Hub.droopLong (h : Hub) : Hub :=
  let p := h.pwr
  if !p.droop ∨ !p.droopTimer then h
  else
    let t := max h.clock (p.slowSince + h.val Od.rstDroopLongLimit * 10000000)
    let h1 : Hub := { h with clock := t, pwr := { p with droopTimer := false } }
    (h1.flag Rg.pwrFlags 1).fire Ev.droopLong []

/-- CLOCK_CAP is written (R560, R574). -/
def Hub.clockCap (h : Hub) (v : Bool) : Hub :=
  let h1 := h.put Od.rstClockCap (b2n v)
  { h1 with pwr := { h1.pwr with slow := v || h1.pwr.droop } }

/-- A PLL loses lock (R579). -/
def Hub.pllUnlock (h : Hub) (k : Nat) : Hub :=
  let h1 := h.setPll (some k) false
  (h1.flag Rg.pwrFlags 4).fire Ev.pllUnlock (u16 h1.pwr.pllLocked)

/-- The error has stayed below 0.01 ppm for 1 ms: SYSREF locks, at an offset held within ±150 ppm (R563). -/
def Hub.freqLocks (h : Hub) (ppb : Int) : Hub :=
  if h.pwr.freq ≠ .acquiring then h
  else if 150000 < ppb ∨ ppb < -150000 then
    let v : Int := if ppb < 0 then -150000 else 150000
    let h1 : Hub := { h with pwr := { h.pwr with freqOffset := v } }
    (h1.flag Rg.pwrFlags 3).fire Ev.freqHoldover (u8 1)
  else
    let h1 : Hub := { h with pwr := { h.pwr with freq := .locked, freqOffset := ppb } }
    h1.fire Ev.freqLocked (u32 (ofSigned 32 ppb))

/-- A write of WDT_KICK (R567). -/
def Hub.wdtKick (h : Hub) (key : Nat) : Hub := if key = 0xA5 then { h with pwr := { h.pwr with wdtHalf := false } } else h

/-- Half of WDT_PERIOD has passed without a kick. -/
def Hub.wdtWarning (h : Hub) : Hub :=
  if h.pwr.wdtHalf ∨ (h.pwr.bootPhase ≠ .keeper ∧ h.pwr.bootPhase ≠ .rom ∧ h.pwr.bootPhase ≠ .romStay) then h
  else
    let h1 : Hub := { h with pwr := { h.pwr with wdtHalf := true } }
    (h1.flag Rg.pwrFlags 5).fire Ev.wdtWarning []

/-! ### Flash (R569, R578) -/

/-- Bytes of the flash from an offset are changed. -/
def Hub.flashPut (h : Hub) (off : Nat) : Bytes → Hub
  | [] => h
  | b :: t => Hub.flashPut { h with pwr := { h.pwr with flash := h.pwr.flash.set 0xFF off b.toNat } } (off + 1) t

/-- A sector of 4 KiB is erased. -/
def Hub.flashErase (h : Hub) (off : Nat) : Hub :=
  { h with pwr := { h.pwr with flash := ⟨h.pwr.flash.cells.filter (fun c => !(decide (off ≤ c.1) && decide (c.1 < off + 4096)))⟩ } }

/-- CONFIG_SAVE or CONFIG_ERASE runs: CONFIG_BUSY (R65, R578). -/
def Hub.configBusy (h : Hub) : Bool := h.ctl.configOp.isSome

/-- The regions of the flash that decide which stored configuration is found: the directory, and its configuration entries (R569). -/
def Hub.configRegions (h : Hub) : List (Nat × Nat) :=
  (0, 272) :: ((List.range 16).map h.dirEntry).filterMap (fun d => if d.1 = 3 then some (d.2.1, d.2.2.1) else none)

/-- Bytes of the flash from an offset are to change: where they are of these regions, what the flash holds decides from then on (log 88). -/
def Hub.configTouched (h : Hub) (off n : Nat) : Hub :=
  if h.configRegions.any (fun r => decide (r.1 < off + n) && decide (off < r.1 + r.2)) then
    { h with ctl := { h.ctl with stored := none, configWritten := false } }
  else h

/-- The stored configuration: what CONFIG_SAVE or CONFIG_ERASE has left, else the first configuration entry of the directory whose CRC
holds (R569), in ascending order. -/
def Hub.storedConfig (h : Hub) : Option (List (Nat × Bytes)) :=
  if h.ctl.stored.isSome ∨ h.ctl.configWritten then h.ctl.stored
  else (((List.range 16).map h.dirEntry).find? (fun d => decide (d.1 = 3) && decide (crc32.of (h.flashBytes d.2.1 d.2.2.1) = d.2.2.2))).map
    (fun d => (Config.storedEntries (h.flashBytes d.2.1 d.2.2.1)).foldl (fun l c => cellsInsert l c.1 c.2) [])

/-- A flash operation of FLASH_ERASE or FLASH_PROGRAM waits behind those under way. -/
def Hub.flashTake (h : Hub) (op : Nat × Nat × Nat × Bytes) : Hub := { h with pwr := { h.pwr with flashOps := h.pwr.flashOps ++ [op] } }

/-- FLASH_ERASE, code 0x0113. -/
def Hub.cmdFlashErase (h : Hub) (req : Path) (c tag : Nat) (args : Bytes) : Hub :=
  h.issue req c 0x0113 tag args (firstAbort [argLen args 4, (decide (field args 0 4 % 4096 ≠ 0), abArg 4)])
    (firstState [(h.configBusy, stConfigBusy)])
    (fun h => h.flashTake (0, field args 0 4, c, []))

/-- FLASH_PROGRAM, code 0x0114. -/
def Hub.cmdFlashProgram (h : Hub) (req : Path) (c tag : Nat) (args : Bytes) : Hub :=
  let n := field args 4 2
  let bad := firstAbort [(decide (args.length < 6), abArg (4 + args.length)), (decide (n = 0) || decide (240 < n), abArg 8), argLen args (6 + n)]
  h.issue req c 0x0114 tag args bad (firstState [(h.configBusy, stConfigBusy)])
    (fun h => h.flashTake (1, field args 0 4, c, args.drop 6))

/-- The oldest erase or program of a flash command completes (R578); a program turns 1s of the flash into 0s. -/
def Hub.flashDone (h : Hub) (ok : Bool) : Hub :=
  match h.pwr.flashOps with
  | [] => h
  | (kind, off, c, data) :: rest =>
    let h1 : Hub := { h with pwr := { h.pwr with flashOps := rest } }
    if !ok then h1.done c (abFailed 1) []
    else if kind = 0 then ((h1.configTouched off 4096).flashErase off).done c 0 []
    else
      let h2 := (h1.configTouched off data.length).flashPut off (List.zipWith (fun a b => a &&& b) (h1.flashBytes off data.length) data)
      h2.done c 0 (u32 (crc32.of (h2.flashBytes off data.length)))

/-! ### Meanings -/

/-- DOMAIN_ON: DOMAIN_SET with target on (R549). -/
def execDomainOn (req : Path) (c : Fin 8) (tag : BitVec 16) (d force : Byte) (s : State) :=
  onCommand 0x0110 req c tag.toNat [d, 0, force] (fun h => h.cmdDomainSet req c tag.toNat [d, 0, force]) s
/-- DOMAIN_RETENTION: DOMAIN_SET with target retention (R551). -/
def execDomainRetention (req : Path) (c : Fin 8) (tag : BitVec 16) (d force : Byte) (s : State) :=
  onCommand 0x0110 req c tag.toNat [d, 1, force] (fun h => h.cmdDomainSet req c tag.toNat [d, 1, force]) s
/-- DOMAIN_OFF: DOMAIN_SET with target off (R551). -/
def execDomainOff (req : Path) (c : Fin 8) (tag : BitVec 16) (d force : Byte) (s : State) :=
  onCommand 0x0110 req c tag.toNat [d, 2, force] (fun h => h.cmdDomainSet req c tag.toNat [d, 2, force]) s
/-- DOMAIN_GRANT: a delaying block answers again (R551). -/
def execDomainGrant (d : Fin 18) (s : State) := onHub (fun h => h.domJudge d) s
/-- DELAY_LIMIT_EXPIRY (R553). -/
def execDelayLimitExpiry (d : Fin 18) (s : State) := onHub (fun h => h.delayExpired d) s
/-- PAD_RELEASE as its own row. -/
def execPadRelease (req : Path) (c : Fin 8) (tag : BitVec 16) (args : Bytes) (s : State) :=
  onCommand 0x0111 req c tag.toNat args (fun h => h.cmdPadRelease req c tag.toNat args) s
/-- PAD_HOLD_WRITE (R555). -/
def execPadHoldWrite (v : Word) (s : State) := onHub (fun h => h.padsRelease v.toNat) s
/-- DROOP_SLOW (R560). -/
def execDroopSlow (s : State) := onHub Hub.droopTrip s
/-- DROOP_CLEAR (R560). -/
def execDroopClear (s : State) := onHub Hub.droopReturn s
/-- DROOP_LONG (R560). -/
def execDroopLong (s : State) := onHub Hub.droopLong s
/-- WDT_KICK (R567). -/
def execWdtKick (key : Byte) (s : State) := onHub (fun h => h.wdtKick key.toNat) s
/-- WDT_WARNING (R567). -/
def execWdtWarning (s : State) := onHub Hub.wdtWarning s
/-- FLASH_ERASE as its own row. -/
def execFlashErase (req : Path) (c : Fin 8) (tag : BitVec 16) (args : Bytes) (s : State) :=
  onCommand 0x0113 req c tag.toNat args (fun h => h.cmdFlashErase req c tag.toNat args) s
/-- FLASH_PROGRAM as its own row. -/
def execFlashProgram (req : Path) (c : Fin 8) (tag : BitVec 16) (args : Bytes) (s : State) :=
  onCommand 0x0114 req c tag.toNat args (fun h => h.cmdFlashProgram req c tag.toNat args) s
/-- FLASH_OPERATION_DONE (R578). -/
def execFlashOperationDone (ok : Bool) (s : State) := onHub (fun h => h.flashDone ok) s
/-- FREQ_LOCKED (R563), with the offset from the crystal in ppb. -/
def execFreqLocked (ppb : Int) (s : State) := onHub (fun h => h.freqLocks ppb) s
/-- PLL_UNLOCK (R579). -/
def execPllUnlock (k : Fin 9) (s : State) := onHub (fun h => h.pllUnlock k) s
/-- DOMAIN_POWER_UP_DONE (R549). -/
def execDomainPowerUpDone (d : Fin 18) (s : State) := onHub (fun h => h.powerUpDone d) s
/-- WAKE_LATCH_SET (R540). -/
def execWakeLatchSet (k : Fin 16) (rising : Bool) (s : State) := onHub (fun h => h.wakeEdge k rising) s

end Sys2Proof.Machine
end

