-- ==== Sys2Proof/Machine/Modes.lean ====
section
/-!
DEFINITION. The operating modes after reset: confirmation, entry to FOGHORN, retrain, and the seating of the connectors
(R13 to R30, R65, R474 to R476).
-/

namespace Sys2Proof.Machine

/-! ### Commands that end with CANCELLED (R62, R63) -/

/-- Connectors, banks and domains forget the channels of their commands. -/
def Hub.forgetParts (h : Hub) : Hub :=
  let moor := [0, 1].foldl (fun (h : Hub) c => h.updConn c (fun x =>
    { x with request := none, vdm := none, outMsgs := x.outMsgs.map (fun m => { m with command := none }) })) h
  let banks := (List.range 4).foldl (fun (h : Hub) b => h.setBank b { h.bank b with command := none, pendingAt := none }) moor
  (List.range 18).foldl (fun (h : Hub) d => h.updDomain d (fun x => { x with command := none })) banks

/-- Units forget the channels of their commands; a flash operation runs on for no channel. -/
def Hub.forgetUnits (h : Hub) : Hub :=
  { h with
    plan := { h.plan with command := none, colourCommands := [] }
    eng := { (h.keepDrop (fun u => decide (u = .fence))).eng with fenceCommand := none, reloading := none, reloadImage := none }
    bcn := { h.bcn with
      probes := [0, 1, 2].foldl (fun (t : Tab ProbeSt) p => t.upd ProbeSt.init p (fun x => { x with command := none })) h.bcn.probes
      captures := []
      restores := [] }
    sec := { h.sec with ecc := h.sec.ecc.map (fun e => (e.1, none)) }
    pair := { h.pair with resyncCommand := none }
    ctl := { h.ctl with remote := [], configOp := h.ctl.configOp.map (fun o => (o.1, 255)) }
    pwr := { h.pwr with flashOps := h.pwr.flashOps.map (fun o => (o.1, o.2.1, 255, o.2.2.2)) } }

/-- All of them forget the channels of their commands. -/
def Hub.forgetCommands (h : Hub) : Hub := h.forgetParts.forgetUnits

/-- Every running command but that of one channel ends with CANCELLED. -/
def Hub.cancelCommands (h : Hub) (but : Option Nat) : Hub :=
  ((List.range 8).foldl (fun h c => if some c = but then h else h.finish c abCancelled []) h).forgetCommands

/-! ### Entry to FOGHORN (R22 to R25) -/

/-- Domain d is brought to retention or off, whatever it does; one that is off stays off. -/
def Hub.domDrop (h0 : Hub) (d : Nat) (t : DomState) : Hub :=
  let h := h0.domReplace d
  let st := (h.domain d).state
  if st = t ∨ st = .off then h
  else if st = .on then h.domLeave d t
  else if t = .off then (h.domStop d .off).domChanged d .off else h

/-- Every coupling port goes OFF. -/
def Hub.portsOff (h : Hub) : Hub :=
  [0, 1, 2].foldl (fun h p => if (h.port p).state = .off then h else h.portRest p .off (abFailed 3)) h

/-- The domains as FOGHORN leaves them: TND0 to TND3 off and SWITCH in retention, every other one but AON and KEEPER off. -/
def Hub.fogDomains (h : Hub) : Hub :=
  let h1 := ([3, 4, 5, 6].foldl (fun h d => h.domDrop d .off) h).domDrop 2 .retention
  [17, 10, 12, 13, 14, 15, 16, 11, 7, 8, 9].foldl (fun h d => h.domDrop d .off) h1

/-- Responder and transit contexts are freed; every tunnel queue is emptied, and what it held is counted (R23). -/
def Hub.fogTunnels (h : Hub) : Hub :=
  let h1 := h.ctxList.foldl (fun h c => if c.2.role = .opener then (h.purge c.1).1 else ((h.purge c.1).1).freeCtx c.1) h
  let h2 := h1.keepDrop (fun u => decide (u ≠ .fence))
  { h2 with eng := { h2.eng with waiting := [], fenceRaised := false, fenceTimer := false } }

/-- The connectors that R27 watches. -/
def Hub.watched (h : Hub) : List Nat :=
  match h.moorRole with
  | .lighthouse => if h.moorDual ∧ h.mode.pairConfig then [0, 1] else [0]
  | .standby => if h.moorDual then [0, 1] else [0]
  | .lightship => [0]
  | .buoy => if h.dualHomed then [0, 1] else [0]
  | _ => []

/-- A watched connector is seated. -/
def Hub.watchedSeated (h : Hub) : Bool := h.watched.any h.connSeated

/-- The time since entry to FOGHORN, or since the last failed retrain, runs (R28). -/
def Hub.fogRetryStart (h : Hub) : Hub := { h with mode := { h.mode with retryRunning := true } }

/-- The hub enters FOGHORN with a cause; the command of one channel runs on (R22 to R25, R63). -/
def Hub.enterFog (h0 : Hub) (cause : Nat) (but : Option Nat) : Hub :=
  let h := (h0.lampsDark.cancelCommands but).portsOff.freqLost
  let h1 : Hub := { h with
    mode := { h.mode with
      active := .foghorn, before := h.mode.active, fogCause := cause, deadlineRunning := false, retrain := none, reseat := false }
    links := { h.links with turnedAway := false } }
  (((h1.swapClear.fogTunnels.fogDomains.obsOff.clearDaymarks).moorFog).fogRetryStart).resources

/-- The condition under which FOG_DEADLINE leads to FOGHORN does not hold: at a root that stays, LINK_FAILED for each failed port (R27). -/
def Hub.linksFailed (h : Hub) : Hub :=
  [0, 1].foldl (fun h p => if h.portUsed p ∧ h.portSeated p ∧ !h.sysOpen p then h.fire Ev.linkFailed (u8 p) else h) h

/-- A mode from which the hub may fall to FOGHORN (R26). -/
def Hub.operative (h : Hub) : Bool := h.isRoot || decide (h.mode.active = .lightship) || decide (h.mode.active = .buoy)

/-- FOG_DEADLINE starts (R27). -/
def Hub.deadlineStart (h : Hub) : Hub :=
  if h.operative ∧ !h.mode.deadlineRunning then
    { h with mode := { h.mode with deadlineRunning := true }, links := { h.links with turnedAway := false } }
  else h

/-- FOG_DEADLINE expires outside FOGHORN (R27). -/
def Hub.deadlineExpired (h : Hub) : Hub :=
  if !h.mode.deadlineRunning ∨ h.mode.retrain.isSome ∨ h.inFog then h
  else
    let h1 : Hub := { h with mode := { h.mode with deadlineRunning := false } }
    if h1.usableLink then (if h1.isRoot then h1.linksFailed else h1)
    else h1.enterFog (if h.links.turnedAway then 4 else 2) none

/-! ### Retrain (R28) -/

/-- A retrain starts: SWITCH, then TND0 to TND3, then the link domains. -/
def Hub.retrainStart (h : Hub) (by_ : RetrainBy) : Hub :=
  let h1 : Hub := { h with
    mode := { h.mode with retrain := some by_, deadlineRunning := true, retryRunning := false }
    links := { h.links with turnedAway := false } }
  [2, 3, 4, 5, 6, 7, 8, 9].foldl (fun h d => h.powerQueue d) h1

/-- FOG_RETRY_PERIOD has elapsed: a retrain starts where the period is not 0 and the cable has stayed seated. -/
def Hub.fogRetry (h : Hub) : Hub :=
  if h.inFog ∧ h.mode.retryRunning ∧ h.mode.retrain = none ∧ h.mode.fogCause ≠ 1 ∧ h.val Od.modeFogRetryPeriod ≠ 0 ∧ h.watchedSeated then
    h.retrainStart .timer
  else h

/-- A retrain ends without success: the ports and domains are as FOGHORN leaves them again. -/
def Hub.retrainStop (h : Hub) (status : Nat) : Hub :=
  match h.mode.retrain with
  | none => h
  | some by_ =>
    let h1 := h.portsOff
    let h2 : Hub := { h1 with
      mode := { h1.mode with retrain := none, deadlineRunning := false }, links := { h1.links with turnedAway := false } }
    let h3 := h2.fogTunnels.fogDomains
    match by_ with
    | .command c => h3.done c status []
    | .timer => h3

/-- The deadline of a retrain expires. -/
def Hub.retrainFail (h : Hub) : Hub :=
  if h.inFog ∧ h.mode.retrain.isSome then (h.retrainStop (abFailed 0)).fogRetryStart else h

/-- MODE_FOG, code 0x0101 (R65); strap fault is left by PORST_N alone (R26, R30). -/
def Hub.cmdModeFog (h : Hub) (req : Path) (c tag : Nat) (args : Bytes) : Hub :=
  h.issue req c 0x0101 tag args (firstAbort [argLen args 0])
    (firstState [(decide (h.mode.active = .strapFault), stStrapFault), (h.inFog, stFoghorn), (decide (h.mode.active = .bench), stBench),
      (h.swapping, stSwap)])
    (fun h => (h.enterFog 3 (some c)).done c 0 [])

/-- MODE_RESUME, code 0x0102 (R65). -/
def Hub.cmdModeResume (h : Hub) (req : Path) (c tag : Nat) (args : Bytes) : Hub :=
  h.issue req c 0x0102 tag args (firstAbort [argLen args 0])
    (firstState [(h.mode.retrain.isSome, stRetraining), (!h.inFog, stNotFoghorn), (decide (h.mode.fogCause = 1), stFoghornStrapped)])
    (fun h => h.retrainStart (.command c))

/-- NOP, code 0x0100 (R65). -/
def Hub.cmdNop (h : Hub) (req : Path) (c tag : Nat) (args : Bytes) : Hub :=
  h.issue req c 0x0100 tag args (firstAbort [argLen args 0]) none (fun h => h.done c 0 [])

/-! ### Confirmation (R15, R16) -/

/-- The mode that a strap code names (R13). -/
def strapMode (strap : Nat) : Mode :=
  match strap with
  | 0 => .bench | 1 => .lighthouse | 2 => .standby | 3 => .lightship | 4 => .buoy | 5 => .foghorn | _ => .strapFault

/-- The mode is confirmed: what the provisional mode held back goes on (R15, R189, R479). -/
def Hub.confirm (h : Hub) : Hub :=
  if h.mode.confirmed then h
  else
    let h1 : Hub := { h with mode := { h.mode with confirmed := true } }
    (((h1.startupCounts.renegotiate h).hsicJudge 0).hsicJudge 1)

/-- A write of MODE_CONFIRM: the check of R16 beyond the range of the entry. -/
def Hub.confirmBad (h : Hub) (v : Nat) : Option Abort := if v = h.mode.strap.toNat ∧ v < 6 then none else some (abValue 3)

/-! ### Seating (R29, R473 to R476) -/

/-- What was negotiated on a connector goes with its seating. -/
def Hub.connLost (h : Hub) (c : Nat) : Hub :=
  let x := h.conn c
  let ends := [x.request, x.vdm] ++ x.outMsgs.map (·.command)
  ends.foldl (fun h e => h.doneOpt e (abFailed 1) []) (h.setConn c { ConnSt.init with msgId := x.msgId })

/-- The connector of a seating input (R473). -/
def Hub.inputConn (h : Hub) (i : Nat) : Nat := if h.moorDual then i else 0

/-- After a release in FOGHORN of a watched connector, the next full seating starts from the strapped mode (R29). -/
def Hub.seatedAfresh (h : Hub) : Hub :=
  if h.inFog ∧ h.mode.reseat ∧ h.watchedSeated then
    let h1 : Hub := { h with
      mode := { h.mode with active := strapMode h.mode.strap.toNat, fogCause := 0, retrain := none, retryRunning := false, reseat := false } }
    (h1.moorFogEnd h).powerBoot
  else h

/-- A seating input has stayed low for 20 ms. The first watched connector to be fully seated starts FOG_DEADLINE (R27). -/
def Hub.seatConfirm (h : Hub) (i : Nat) : Hub :=
  if h.seatIn i then h
  else
    let before := h.watched.filter h.connSeated
    let h1 : Hub := { h with moor := { h.moor with seatLow := h.moor.seatLow.set 0 i 1, seatConfirmed := h.moor.seatConfirmed.set 0 i 1 } }
    let h2 := ((h1.moorFlag 0).moorEvent Ev.moorSeated (h.inputConn i) []).seatingDone
    let fresh := h2.watched.any (fun c => h2.connSeated c && decide (c ∉ before))
    let h3 := if fresh then h2.seatedAfresh else h2
    (if fresh ∧ !h3.inFog ∧ (before = [] ∨ h.inFog) then h3.deadlineStart else h3).portsJudge

/-- The stage drops to UNSEATED (R476): killed, other than from SEATING. -/
def Hub.stageUnseat (h : Hub) (i : Nat) : Hub :=
  let st := h.moor.stage
  if i ∉ h.stageInputs ∨ st = .off ∨ st = .unseated then h
  else
    let h1 := if st = .seating then h else h.killStage
    { h1 with moor := { h1.moor with stage := .unseated, unseatedTimer := true } }

/-- A seating input has been sampled high twice (R474): the release acts at once. -/
def Hub.seatRelease (h : Hub) (i : Nat) : Hub :=
  if h.moor.seatLow.get 0 i = 0 ∧ !h.seatIn i then h
  else
    let c := h.inputConn i
    let seated := h.connSeated c
    let watched := decide (c ∈ h.watched) && seated
    let powered := if h.supplies c then decide (c ∈ h.stageConns) && (decide (h.moor.stage = .powered) || decide (h.moor.stage = .transition))
      else decide (0 < (h.conn c).current)
    let h1 : Hub := { h with moor := { h.moor with seatLow := h.moor.seatLow.set 0 i 0, seatConfirmed := h.moor.seatConfirmed.set 0 i 0 } }
    let h2 := if h.dualHomed ∧ h.moor.feed = some i then h1.selectFeed none else h1
    let h3 := ((h2.stageUnseat i).moorFlag 1).moorEvent Ev.moorUnseated c []
    let h4 := if seated then (if powered then (h3.connLost c).fogOriginate 0x11 (2 ^ c) else h3.connLost c) else h3
    let h5 := if watched ∧ !h4.watchedSeated ∧ !h4.inFog then { h4 with mode := { h4.mode with deadlineRunning := false } } else h4
    let h6 := if watched ∧ h.inFog ∧ h.mode.fogCause ≠ 1 then
        let g := h5.retrainStop (abFailed 0)
        { g with mode := { g.mode with retryRunning := false, reseat := true } }
      else h5
    h6.portsJudge

/-- Every seating input that an unseated stage watches is sampled low (R476). -/
def Hub.seatingStart (h : Hub) : Hub :=
  if h.moor.stage ≠ .unseated ∨ h.stageInputs = [] then h
  else
    let low := h.stageInputs.foldl (fun (t : Tab Nat) i => t.set 0 i 1) h.moor.seatLow
    ({ h with moor := { h.moor with stage := .seating, seatLow := low, unseatedTimer := false } } : Hub).seatingDone

/-! ### Meanings -/

/-- FOG_DEADLINE_EXPIRY (R27). -/
def execFogDeadlineExpiry (s : State) := onHub Hub.deadlineExpired s
/-- FOG_RETRY (R28). -/
def execFogRetry (s : State) := onHub Hub.fogRetry s
/-- FOGHORN_RETRAIN_FAIL (R28). -/
def execFoghornRetrainFail (s : State) := onHub Hub.retrainFail s
/-- MODE_FOG as its own row. -/
def execModeFog (req : Path) (c : Fin 8) (tag : BitVec 16) (args : Bytes) (s : State) := onCommand 0x0101 req c tag.toNat args (fun h => h.cmdModeFog req c tag.toNat args) s
/-- MODE_RESUME as its own row. -/
def execModeResume (req : Path) (c : Fin 8) (tag : BitVec 16) (args : Bytes) (s : State) := onCommand 0x0102 req c tag.toNat args (fun h => h.cmdModeResume req c tag.toNat args) s
/-- NOP as its own row. -/
def execNop (req : Path) (c : Fin 8) (tag : BitVec 16) (args : Bytes) (s : State) := onCommand 0x0100 req c tag.toNat args (fun h => h.cmdNop req c tag.toNat args) s
/-- SEAT_CONFIRM (R474). -/
def execSeatConfirm (i : Fin 2) (s : State) := onHub (fun h => h.seatConfirm i) s
/-- SEAT_RELEASE (R474). -/
def execSeatRelease (i : Fin 2) (s : State) := onHub (fun h => h.seatRelease i) s
/-- SEATING_START (R476). -/
def execSeatingStart (s : State) := onHub Hub.seatingStart s

end Sys2Proof.Machine
end

