-- ==== Sys2Proof/Machine/Views.lean ====
section
/-!
DEFINITION. What a read of a dictionary entry gives (R10, R31, R32): the stored value, or for the entries that report the
state of the hub their view of it, chapter by chapter.
-/

namespace Sys2Proof.Machine

/-! ### Which entries exist (R31, R38) -/

/-- The highest subindex that a row of the maps holds at an index. -/
def OdRow.high (r : OdRow) (ix : Nat) : Option Nat :=
  let big := r.dims.filter (fun d => decide (256 ≤ d.1))
  let small := r.dims.filter (fun d => decide (d.1 < 256))
  if (keyIndex r.base big (256 * ix + r.base % 256)).isSome then some (r.base % 256 + (small.map (fun d => d.1 * (d.2 - 1))).sum) else none

/-- An entry that its row's family covers and its rule leaves out: the other status entries of CLOCK (R300), SECONDARY and
STALL_DISTANCE of the shafts (R301). -/
def odMissing (key : Nat) : Bool :=
  (decide (key / 256 = 0x400B) && decide (2 < key % 256)) ||
    ((decide (key / 256 = 0x4011) || decide (key / 256 = 0x4012)) && (decide (key % 256 = 2) || decide (key % 256 = 7)))

/-- The highest subindex of an index; `none` where the index does not exist. -/
def odHigh (ix : Nat) : Option Nat :=
  if ix = 0x400B then some 2 else if ix = 0x4011 ∨ ix = 0x4012 then some 6
  else odRows.foldl (fun a r => match r.high ix with
    | some s => some (max s (a.getD 0))
    | none => a) none

/-- An entry of an RW family that its rule makes CONST: STAGE_QUOTA_OUT of ingresses 12 and 13 (R266). -/
def odConst (key : Nat) : Bool := decide (key = 0x264C0A) || decide (key = 0x264D0A)

/-- The row of an entry that exists. -/
def odRowOf (key : Nat) : Option OdRow := if odMissing key then none else odRow? key

/-! ### Views (one function a chapter): the number that an entry shows, `none` where it shows its stored value -/

/-- The number of an entry in a block of n indexes. -/
def within (ix base n : Nat) : Option Nat := if base ≤ ix ∧ ix < base + n then some (ix - base) else none

/-- STATE of a port (R103). -/
def PortState.code : PortState → Nat
  | .off => 0 | .waiting => 1 | .training => 2 | .linked => 3 | .stepping => 4 | .failed => 5

/-- STATE of a lane (R87). -/
def LaneState.code : LaneState → Nat
  | .idle => 0 | .locking => 1 | .equalising => 2 | .ready => 3 | .inService => 4 | .dropped => 5 | .unusable => 6 | .pattern => 7

/-- STATE of a link (R138). -/
def LinkState.code : LinkState → Nat
  | .down => 0 | .init => 1 | .running => 2 | .held => 3 | .refused => 4

/-- The payload rate of port p in Mbit/s (R97): 0 unless LINKED. -/
def Hub.payload (h : Hub) (p : Nat) : Nat :=
  if (h.port p).state = .linked then payloadOf (h.port p).rate (h.lanesIn p).length else 0

/-- Modes and identity (R17, R39, R42, R60). -/
def Hub.viewMode (h : Hub) (ix sub : Nat) : Option Nat :=
  if ix = 0x2000 then match sub with
    | 1 => some h.mode.strap.toNat
    | 2 => some h.mode.active.code
    | 3 => some (if h.mode.confirmed then h.mode.strap.toNat else 0xFF)
    | 4 => some h.mode.fogCause
    | 7 => some h.links.hopDepth
    | 8 => some (b2n h.mode.pairConfig)
    | 9 => some h.links.chainCount
    | _ => none
  else if ix = 0x1000 then match sub with
    | 5 => some (if h.pwr.bootPhase = .keeper then Config.firmwareVersion else 0)
    | 7 => some h.isoName
    | 8 => some (h.claimed 0)
    | _ => none
  else if ix = 0x1020 then some (h.service sub)
  else match within ix 0x5080 8 with
  | some c => match sub with
    | 2 => some (h.chan c).tag
    | 3 => some (match (h.chan c).state with
      | .idle => 0 | .running => 1 | .done => 2)
    | _ => none
  | none => none

/-- Ports, lanes and links (R103, R105, R138). -/
def Hub.viewLink (h : Hub) (ix sub : Nat) : Option Nat :=
  match within ix 0x3000 3, within ix 0x3010 5, within ix 0x3020 3 with
  | some p, _, _ =>
    let x := h.port p
    match sub with
    | 0x10 => some x.state.code
    | 0x11 => some (if x.state = .linked then x.rate else 3)
    | 0x12 => some (h.lanesMask p)
    | 0x13 => some (h.payload p)
    | 0x14 => some (h.payload p / 2)
    | 0x15 => some x.lastFail
    | 0x16 => some (b2n x.leader)
    | _ => none
  | _, some n, _ =>
    let x := h.lane n
    match sub with
    | 1 => some x.state.code
    | 2 => some (x.txMain * 2 ^ 24 + x.txPost * 2 ^ 16 + x.txPre * 2 ^ 8 + x.ctle)
    | 3 => some (x.eyeWidth * 2 ^ 16 + x.eyeHeight)
    | _ => none
  | _, _, some p =>
    let x := h.link p
    match sub with
    | 1 => some x.state.code
    | 2 => some (x.farMode.getD 0xFF)
    | 3 => some (if x.farMode.isSome then x.farDepth else 0xFF)
    | 4 => some (match x.farSerial with
      | some s => s.toNat
      | none => 0)
    | 9 => some h.links.sf
    | 0xA => some x.lastDown
    | 0xB => some x.refuseReason
    | 0xC => some x.txNext
    | 0xD => some x.rxNext
    | _ => none
  | _, _, _ => none

/-- A statistic of context 0: the sum over the hub's links (R175). -/
def Hub.systemSum (h : Hub) (f : Ctx → Nat) : Nat := ([0, 1, 2].map (fun p => f (h.ctx (sysCtx p)))).sum

/-- LAST_CHANGE of context 0: that of the SYSTEM tunnel which changed last. -/
def Hub.systemChange (h : Hub) : Nat :=
  let x (p : Nat) : Ctx := h.ctx (sysCtx p)
  match leastBy (fun p => gap 32 h.links.sf (x p).lastChange) ([0, 1, 2].filter (fun p => decide ((x p).openCount ≠ 0))) with
  | some p => (x p).lastChange
  | none => 0

/-- The record of context 0 (R175): OPEN while the SYSTEM tunnel of a link is (log 80). -/
def Hub.viewSystem (h : Hub) (sub : Nat) : Option Nat :=
  match sub with
  | 2 => some (if h.sysOpen 0 || h.sysOpen 1 || h.sysOpen 2 then 2 else 0)
  | 3 => some 3
  | 0x16 => some (trunc 64 (h.systemSum (·.segTx)))
  | 0x17 => some (trunc 64 (h.systemSum (·.segRx)))
  | 0x18 => some (trunc 64 (h.systemSum (·.bytesTx)))
  | 0x19 => some (trunc 64 (h.systemSum (·.bytesRx)))
  | 0x1A => some (trunc 32 (h.systemSum (·.segDiscard)))
  | 0x1B => some (trunc 32 (h.systemSum (·.tseqFaults)))
  | 0x1C => some (trunc 32 (h.systemSum (·.ingressDiscard)))
  | 0x1D => some (trunc 32 (h.systemSum (·.drainDiscard)))
  | 0x1E => some (trunc 32 (h.systemSum (·.openCount)))
  | 0x1F => some h.systemChange
  | _ => if sub < 0x20 then some 0 else none

/-- The record of context i (R175). -/
def Hub.viewCtx (h : Hub) (i sub : Nat) : Option Nat :=
  let x := h.ctx i
  if i = 0 then h.viewSystem sub
  else if x.state = .free then some (if sub = 1 then h.handle i else if sub = 2 ∨ sub = 3 then 0xFF else 0)
  else match sub with
    | 1 => some (h.handle i)
    | 2 => some x.state.code
    | 3 => some x.role.code
    | 4 => some x.kind
    | 5 => some x.cls
    | 6 => some x.direction
    | 7 => some (b2n x.isSealed)
    | 8 => some x.maxSeg
    | 9 => some x.localBind
    | 0xA => some x.farTarget
    | 0xB => some x.farHandle
    | 0xC => some x.portA
    | 0xD => some x.indexA
    | 0xE => some x.portB
    | 0xF => some x.indexB
    | 0x10 => some x.faultCause
    | 0x11 => some x.faultStatus
    | 0x12 => some x.drainLimit
    | 0x13 => some x.openTimeout
    | 0x14 => some (b2n x.autoReopen)
    | 0x15 => some x.tag
    | 0x16 => some x.segTx
    | 0x17 => some x.segRx
    | 0x18 => some x.bytesTx
    | 0x19 => some x.bytesRx
    | 0x1A => some x.segDiscard
    | 0x1B => some x.tseqFaults
    | 0x1C => some x.ingressDiscard
    | 0x1D => some x.drainDiscard
    | 0x1E => some x.openCount
    | 0x1F => some x.lastChange
    | _ => none

/-- Tunnel records and the further entries of index 0x3400 (R175, R176). -/
def Hub.viewTunnel (h : Hub) (ix sub : Nat) : Option Nat :=
  match within ix 0x3400 256 with
  | none => none
  | some i =>
    if i = 0 ∧ 0x20 ≤ sub then match sub with
      | 0x20 => some (if h.sysOpen 0 then 2 else 0)
      | 0x21 => some (if h.sysOpen 1 then 2 else 0)
      | 0x22 => some (if h.sysOpen 2 then 2 else 0)
      | 0x25 => some ((List.range 256).filter (fun i => decide (0 < i) && decide ((h.ctx i).state = .free))).length
      | _ => none
    else h.viewCtx i sub

/-- Plans and egresses (R205, R207). -/
def Hub.viewPlan (h : Hub) (ix sub : Nat) : Option Nat :=
  let x := h.plan
  if ix = 0x3800 then match sub with
    | 1 => some x.activePlan
    | 2 => some (match x.pending with
      | some q => q.1
      | none => 0xFF)
    | 3 => some (match x.pending with
      | some q => q.2.1
      | none => 0)
    | 5 => some x.switchSeq
    | 6 => some x.lastSwitchSf
    | 7 => some x.lastAcks
    | _ => none
  else if ix = 0x3801 then match sub with
    | 2 => some h.blindReasons
    | 3 => some (b2n x.force)
    | 4 => some h.retrainBlind
    | _ => none
  else if ix = 0x3809 then
    some (((List.range 32).filter (fun e => decide (sub ∈ h.demotedOn e x.activePlan))).map (fun e => 2 ^ e)).sum
  else match within ix 0x3860 32 with
  | some e => match sub with
    | 1 => some (h.nominal e / 1000)
    | 2 => some (h.guaranteed e)
    | 3 => some (h.demotedOn e x.activePlan).length
    | _ => if 0x10 ≤ sub ∧ sub < 0x18 then some (h.committed e (sub - 0x10)) else none
  | none => none

/-- STATE and ROLE of Tender t (R235). -/
def Hub.tenderView (h : Hub) (t sub : Nat) : Option Nat :=
  let x := h.tender t
  match sub with
  | 1 => some (if !h.domOn (3 + t / 8) then 3 else if x.fenced then 2 else if x.busy then 1 else 0)
  | 2 => some (if h.domOn (3 + t / 8) then b2n (decide (t = h.eng.pinA)) + 2 * b2n (decide (t = h.eng.pinB)) else 0)
  | 3 => some (x.jobs.filter (fun j => decide (j.state = .pending))).length
  | 4 => some (x.jobs.filter (fun j => decide (j.state = .done) || decide (j.state = .held))).length
  | 5 => some (h.homesOf t)
  | 6 => some x.fenceCause
  | 7 => some x.jobsRun
  | 8 => some x.stolenIn
  | 9 => some x.stolenOut
  | 0xA => some x.fenceHandle
  | _ => none

/-- The engine, the Tenders, the switch buffer (R234, R235, R265, R268). -/
def Hub.viewEngine (h : Hub) (ix sub : Nat) : Option Nat :=
  if ix = 0x2400 then match sub with
    | 1 => some h.serviceList.length
    | 2 => some (((List.range 32).filter (fun t => (h.tender t).fenced)).map (fun t => 2 ^ t)).sum
    | 0xB => some h.eng.mcVersion
    | 0xD => some (if h.eng.reloading.isSome then 2 else if h.eng.verified.isNone then 3 else if h.eng.fenceRaised then 1 else 0)
    | 0xE => some (h.eng.pinA + 256 * h.eng.pinB)
    | _ => none
  else if ix = 0x2600 then (if sub = 4 then some h.sharedSize else if sub = 5 then some h.sharedFree else none)
  else if ix = 0x2660 then
    (if sub = 3 then some h.sw.ueAddr else if sub = 4 then some (if h.sw.ueInfo % 16 = 15 then 0xFF else h.sw.ueInfo % 16) else none)
  else match within ix 0x2410 32 with
  | some t => h.tenderView t sub
  | none => none

/-- LSB per second of bearing b over the segment in force (R300). -/
def Hub.bearingRate (h : Hub) (b : Nat) : Int := ((h.bearing b).to_ - (h.bearing b).from_) * 10000000000 / (sfUnits : Nat)

/-- Input state and its code (R303). -/
def InputState.code : InputState → Nat
  | .off => 0 | .running => 1 | .faulted => 2

/-- The Beacon, the encoder inputs and the probes (R299, R300, R302, R305). -/
def Hub.viewBeacon (h : Hub) (ix sub : Nat) : Option Nat :=
  let x := h.bcn
  if ix = 0x4000 then match sub with
    | 2 => some x.baseUnitInUse
    | 4 => some x.timebase.code
    | 5 => some (h.ns % 2 ^ 64)
    | 6 => some x.sfEpoch
    | 7 => some h.offsetS
    | 8 => some (ofSigned 64 x.lastStep)
    | _ => none
  else if ix = 0x4040 ∧ sub = 3 then some (ofSigned 64 x.shadowDiff)
  else match within ix 0x4008 4, within ix 0x4020 8, within ix 0x4030 3 with
  | some b, _, _ => match sub with
    | 1 => some (h.bearingState b).code
    | 2 => some (ofSigned 64 (h.bearingNow b))
    | 3 => some (ofSigned 64 (h.bearingRate b))
    | 4 => some (if h.bearingDir b = 0 then 0 else if 0 < h.bearingDir b then 1 else 2)
    | 5 => some (h.localValue b)
    | 6 => some ((h.bearing b).inputInUse.getD 0xFF)
    | _ => none
  | _, some n, _ =>
    let y := h.encoder n
    match sub with
    | 0xA => some y.qerr
    | 0xB => some (ofSigned 64 y.count)
    | 0xC => some y.state.code
    | 0xD => some y.faultCause
    | _ => none
  | _, _, some p => if sub = 1 then some (h.linkDelay p) else if sub = 6 then some (h.probe p).lastRtt else none
  | _, _, _ => none

/-- Lamp state and its code (R331). -/
def LampState.code : LampState → Nat
  | .off => 0 | .active => 1 | .safe => 2

/-- Daymarks and Lamps (R330, R331). -/
def Hub.viewLamp (h : Hub) (ix sub : Nat) : Option Nat :=
  if ix = 0x4050 then
    (if sub = 1 then some (1024 - h.dm.slots.length)
    else if 2 ≤ sub ∧ sub ≤ 5 then some (h.dm.slots.filter (fun d => decide (d.bearing = sub - 2))).length
    else none)
  else match within ix 0x4100 24 with
  | some l => match sub with
    | 0xB => some (h.lamp l).state.code
    | 0xC => some (b2n (h.lamp l).level)
    | 0xD => some (h.lamp l).safeCause
    | 0xE => some (h.lamp l).edgeCount
    | _ => none
  | none => none

/-- STATE of the eMMC host and of DSI0 (R361, R386). -/
def EmmcState.code : EmmcState → Nat
  | .off => 0 | .initialising => 1 | .ready => 2 | .failed => 3

/-- STATE of DSI0 (R386). -/
def DsiState.code : DsiState → Nat
  | .off => 0 | .running => 1 | .stalled => 2

/-- STATE of a USB hub (R412) or function (R413): 5 while suspended. -/
def Hub.usbCode (h : Hub) (k : Nat) (hub : Bool) : Nat :=
  let s := (h.dev k).state
  let on : Bool := decide (s ≠ .off) && decide (s ≠ .disconnected)
  if on && h.usbSuspended k then 5
  else match s with
    | .off => 0
    | .disconnected => if hub then 1 else 0
    | .powered => 1
    | .default => 2
    | .addressed => 3
    | .configured => 4

/-- Ethernet, CAN, eMMC, displays, USB and the host bridge (R345, R353, R361, R386, R412, R413, R442). -/
def Hub.viewPorts (h : Hub) (ix sub : Nat) : Option Nat :=
  match within ix 0x4400 8, within ix 0x4420 6, within ix 0x44A0 2, within ix 0x44A8 8 with
  | some n, _, _, _ => if sub = 9 then some (h.eth n).link else if sub = 0xA then some (h.eth n).ts.length else none
  | _, some n, _, _ => match sub with
    | 0xB => some (h.claimed n)
    | 0xC => some (h.can n).bus.code
    | 0xD => some (min 255 (h.can n).tec)
    | 0xE => some (min 255 (h.can n).rec_)
    | _ => none
  | _, _, some n, _ => if sub = 8 then some (h.usbCode (5 * n) true) else if sub = 9 then some (h.dev (5 * n)).address else none
  | _, _, _, some f =>
    let k := fnKey (f / 4) (f % 4)
    match sub with
    | 6 => some (h.usbCode k false)
    | 7 => some (h.dev k).address
    | 8 => some (h.dev k).configuration
    | 9 => some ((List.range 8).map (fun i => (h.dev k).alts.get 0 i % 16 * 16 ^ i)).sum
    | _ => none
  | _, _, _, _ =>
    let x := h.io.emmc
    if ix = 0x4440 then match sub with
      | 5 => some x.state.code
      | 6 => some (x.modeInUse + 256 * x.widthInUse)
      | 7 => some (x.parts.getD 0 0)
      | 8 => some x.lastError
      | _ => none
    else if ix = 0x4490 then (if sub = 0x1B then some h.vid.dsi.code else none)
    else if ix = 0x4491 then
      (if sub = 2 then some (if h.val Od.dsi1Enable = 1 then h.vid.dsi.code else 0) else none)
    else if ix = 0x44C0 then
      (if sub = 5 then some (h.hb.speed + 16 * h.hb.width)
      else if sub = 8 then some (match h.hb.lockHolder with
        | some i => h.handle i
        | none => 0)
      else none)
    else none

/-- The pair (R466). -/
def Hub.viewPair (h : Hub) (ix sub : Nat) : Option Nat :=
  let x := h.pair
  if ix ≠ 0x2200 then none
  else match sub with
    | 2 => some h.pairCode
    | 3 => some x.epoch
    | 4 => some x.partnerSerial
    | 5 => some (if h.isRoot then 0xFF else x.primaryPort.getD 0xFF)
    | 0xA => some (min 65535 x.unacked.length)
    | 0xB => some x.lastCause
    | 0xC => some x.lastCommitSf
    | 0xD => some x.swaps
    | 0xE => some x.discard
    | 0xF => some x.dmDropped
    | _ => none

/-- SINK_STATE of the connector toward the supply (R498): a sink with a contract above profile 0 has state 3, one that has
asked 2, one that awaits PS_READY 4, one that is only seated 1. -/
def Hub.sinkState (h : Hub) : Nat :=
  let x := h.conn 0
  if h.supplies 0 ∨ !h.connSeated 0 then 0
  else if x.awaitPs then 4
  else if x.asked.isSome then 2
  else if 0 < x.profile then 3 else 1

/-- MOOR_STATUS (R498); LINE_BUSY is the sense of a line that the model does not hold. -/
def Hub.moorStatus (h : Hub) (lineBusy : Bool) : Nat :=
  let m := h.moor
  m.stage.code + 2 ^ 4 * h.sinkState + 2 ^ 8 * ((h.conn 0).profile % 4) + 2 ^ 10 * b2n lineBusy + 2 ^ 11 * b2n (h.seatIn 0) +
    2 ^ 12 * b2n (h.seatIn 1) + 2 ^ 13 * b2n (!m.killed) + 2 ^ 14 * b2n m.disch +
    2 ^ 15 * (match m.feed with
      | some 0 => 1
      | some _ => 2
      | none => 0) +
    2 ^ 17 * (m.feedGood % 4) + 2 ^ 19 * (((h.conn 0).modes ||| (h.conn 1).modes) % 8) + 2 ^ 22 * b2n (!h.moorSupply) + 2 ^ 23 * b2n m.retryTimer

/-- RETRY_LEFT in ms (R498): what the retry timer has still to run since the last trip. -/
def Hub.retryLeft (h : Hub) : Nat :=
  if h.moor.retryTimer then (h.val Od.moorRetryTime * 10000000 - (h.clock - h.moor.tripTimes.headD h.clock)) / 10000000 else 0

/-- The mooring (R498), but for its analog senses. -/
def Hub.viewMooring (h : Hub) (ix sub : Nat) : Option Nat :=
  if ix ≠ 0x4801 then none
  else match sub with
    | 8 => some h.iProf
    | 9 => some h.moor.trips
    | 0xA => some h.moor.lastTrip
    | 0xB => some h.moor.lineErrors
    | 0xC => some h.retryLeft
    | _ => none

/-- The vendor key in slots 0 and 1 (R506, R519): the lowest-numbered one not revoked. -/
def Hub.vendorKey (h : Hub) : Nat := ((List.range 4).find? (fun k => !bit k (h.fuse 5))).getD 0xFF

/-- The CRC parameters of a profile or check channel (R520, R525, R526). -/
def crcOf (cfg poly initial : Nat) : CrcParam :=
  let w := if 8 ≤ cfg % 128 ∧ cfg % 128 ≤ 64 then cfg % 128 else 32
  { width := w, poly := poly % 2 ^ w, initial := initial % 2 ^ w, refin := bit 8 cfg, refout := bit 9 cfg, xorout := bit 10 cfg }

/-- Check channel c. -/
def Hub.crcChan (h : Hub) (c : Nat) : CrcChan := h.sec.chans.get CrcChan.init c

/-- Replace check channel c. -/
def Hub.setCrcChan (h : Hub) (c : Nat) (x : CrcChan) : Hub := { h with sec := { h.sec with chans := h.sec.chans.set CrcChan.init c x } }

/-- The parameters of a check channel. -/
def CrcChan.param (x : CrcChan) : CrcParam := crcOf x.cfg x.poly x.initial

/-- STATE of a slot and of the TRNG (R526). -/
def SlotState.code : SlotState → Nat
  | .empty => 0 | .valid => 1 | .bad => 2

/-- Keys and check units (R526). -/
def Hub.viewKeys (h : Hub) (ix sub : Nat) : Option Nat :=
  if ix = 0x4C00 then match sub with
    | 1 => some (h.fuse 2)
    | 2 => some (ones 64 (h.fuse 3))
    | 3 => some (ones 64 (h.fuse 4))
    | 4 => some (h.fuse 5)
    | 5 => some (h.fuse 6)
    | 6 => some h.vendorKey
    | 7 => some (match h.sec.trng with
      | .startup => 0 | .running => 1 | .failed => 2)
    | _ => none
  else if ix = 0x4C01 then some (h.fuse (7 + sub))
  else if ix = 0x4C09 then
    let x := h.pairKey (sub - 1)
    some (if x.target = 0 then 0 else x.target + 256 * x.txSlot)
  else match within ix 0x4C40 8, within ix 0x4C60 16, within ix 0x4C80 64 with
  | some k, _, _ =>
    let w := h.val (Od.profProfWidth k)
    if sub = 1 then some (h.val (Od.profProfPoly k) % 2 ^ w) else if sub = 2 then some (h.val (Od.profProfInit k) % 2 ^ w) else none
  | _, some c, _ =>
    let x := h.crcChan c
    match sub with
    | 1 => some x.cfg
    | 2 => some x.param.poly
    | 3 => some x.param.initial
    | 4 => some x.value
    | 5 => some (x.param.result x.value)
    | _ => none
  | _, _, some n =>
    let x := h.slot n
    match sub with
    | 1 => some x.state.code
    | 2 => some (if x.state = .empty then 0 else x.usage)
    | 3 => some x.usesLeft
    | 4 => some (b2n x.expire)
    | _ => none
  | _, _, _ => none

/-- A word of bits of the event sources. -/
def srcWord (w : Nat) (f : Nat → Bool) : Nat := (((List.range 32).filter (fun j => f (32 * w + j))).map (fun j => 2 ^ j)).sum

/-- EVR_CTRL of a ring (R546). -/
def Ring.ctrl (x : Ring) : Nat :=
  b2n x.enable + 4 * b2n x.fault + 8 * b2n x.full + 16 * b2n x.inHost + 2 ^ 8 * x.notify + 2 ^ 12 * x.size + 2 ^ 16 * x.vector

/-- EVR_RUN of a ring (R546). -/
def Ring.run (x : Ring) : Nat :=
  x.running + 16 * x.stack.length + 256 * (match x.stack with
    | e :: _ => e.1
    | [] => 0)

/-- The event unit (R545). -/
def Hub.viewEvents (h : Hub) (ix sub : Nat) : Option Nat :=
  if ix = 0x7000 then (if sub = 1 then some (1024 - h.evt.details.length) else none)
  else if ix = 0x7021 then some (srcWord (sub - 1) (fun s => decide (0 < h.evt.held s)))
  else if ix = 0x7022 then some (srcWord (sub - 1) h.evtActive)
  else if ix = 0x7040 then (if sub = 3 then some h.evt.wakeLatch.toNat else none)
  else match within ix 0x7030 4 with
  | some r =>
    let x := h.ring r
    match sub with
    | 1 => some x.ctrl
    | 2 => some x.base
    | 3 => some x.wr
    | 4 => some x.rd
    | 5 => some x.run
    | _ => none
  | none => none

/-- State of the frequency tracking (R576). -/
def FreqState.code : FreqState → Nat
  | .local_ => 0 | .acquiring => 1 | .locked => 2 | .holdover => 3 | .held => 4

/-- Power, clocks and reset (R574 to R576). -/
def Hub.viewPower (h : Hub) (ix sub : Nat) : Option Nat :=
  let x := h.pwr
  if ix = 0x2800 then match sub with
    | 1 => some x.resetCause
    | 2 => some x.resetCount
    | 7 => some x.bootEntry
    | 8 => some (b2n x.slow)
    | 0xA => some x.droopCount
    | _ => none
  else if ix = 0x2830 then match sub with
    | 1 => some x.freq.code
    | 2 => some (ofSigned 32 x.freqOffset)
    | 4 => some x.pllLocked
    | _ => none
  else match within ix 0x2810 18 with
  | some d =>
    let y := h.domain d
    match sub with
    | 1 => some y.state.code
    | 3 => some (b2n y.padsHeld)
    | 4 => some y.lastRefusal
    | 5 => some y.entries
    | _ => none
  | none => none

/-- Snapshot banks and the debug state (R590). -/
def Hub.viewCounters (h : Hub) (ix sub : Nat) : Option Nat :=
  match within ix 0x6030 4 with
  | some b => if sub = 2 then some (h.bank b).seq else if sub = 3 then some ((h.bank b).clock / 10) else none
  | none =>
    if ix = 0x6040 ∧ sub = 3 then some (b2n h.debugUnlocked)
    else if ix = 0x6041 ∧ h.mode.active ≠ .bench then some 0 else none

/-- The first view that gives a number. -/
def firstView : List (Option Nat) → Option Nat
  | [] => none
  | some v :: _ => some v
  | none :: t => firstView t

/-- The number that an entry of a fixed size holds, the stored one where no view stands before it. -/
def Hub.number (h : Hub) (key : Nat) : Nat :=
  let ix := key / 256
  let sub := key % 256
  (firstView [h.viewMode ix sub, h.viewLink ix sub, h.viewTunnel ix sub, h.viewPlan ix sub, h.viewEngine ix sub, h.viewBeacon ix sub,
    h.viewLamp ix sub, h.viewPorts ix sub, h.viewPair ix sub, h.viewMooring ix sub, h.viewKeys ix sub, h.viewEvents ix sub,
    h.viewPower ix sub, h.viewCounters ix sub]).getD (h.val (odEntry key))

/-- EP_MAP of a function (R413). -/
def Hub.epMap (h : Hub) (n f : Nat) : Bytes :=
  (List.range 16).flatMap (fun ep => [false, true].flatMap (fun inward => u16 (match h.epCtx n f ep inward with
    | some i => h.handle i
    | none => 0)))

/-- The bytes that a STR or DOMAIN entry holds. -/
def Hub.octets (h : Hub) (key : Nat) : Bytes :=
  let ix := key / 256
  let sub := key % 256
  if key = 0x100006 then ascii "EHX-6400"
  else if key = 0x24000C then h.eng.mcMeasure
  else if key = 0x404001 then h.sampleFullBytes
  else if key = 0x4C0008 then (if (h.slot 2).state = .valid then h.attestPub else [])
  else match within ix 0x44A8 8, within ix 0x4C80 64, within ix 0x6030 4, within ix 0x5080 8 with
  | some f, _, _, _ => if sub = 0xA then h.epMap (f / 4) (f % 4) else h.blobVal (odEntry key)
  | _, some n, _, _ => (h.slot n).publicKey
  | _, _, some b, _ => if sub = 4 then (h.bank b).values.flatMap u64 else h.blobVal (odEntry key)
  | _, _, _, some c => (h.chan c).result
  | _, _, _, _ => h.blobVal (odEntry key)

/-- Bytes of a type of a fixed size; `none` for STR and DOMAIN (R32). -/
def OdType.size : OdType → Option Nat
  | .bool | .u8 => some 1
  | .u16 => some 2
  | .u32 | .i32 => some 4
  | .u64 | .i64 => some 8
  | .str | .domain => none

/-- What a read of an entry of a row gives. The analog senses of the mooring, and LINE_BUSY with them, are free values. -/
def Hub.odValue (h : Hub) (r : OdRow) (key : Nat) : Hub × Bytes :=
  match r.ty.size with
  | none => (h, h.octets key)
  | some n =>
    if key = 0x480101 then
      let v := h.open_ 1
      (v.1, leBytes n (h.moorStatus (bit 0 v.2)))
    else if 0x480103 ≤ key ∧ key ≤ 0x480107 then
      let v := h.open_ (8 * n)
      (v.1, leBytes n v.2)
    else (h, leBytes n (h.number key))

end Sys2Proof.Machine
end

