-- ==== Sys2Proof/Machine/EntryWrites.lean ====
section
/-!
DEFINITION. Writes of dictionary entries: the checks of length, range and state (steps 5 to 7 of R33), and what a write does
beyond storing its value.
-/

namespace Sys2Proof.Machine

/-! ### Length and range (R32, R33 steps 5 and 6) -/

/-- `none` where one of the intervals holds a value; otherwise INVALID_VALUE with its detail (R66). -/
def rangeBad (l : List (Int × Int)) (v : Int) : Option Abort :=
  if l.any (fun x => decide (x.1 ≤ v) && decide (v ≤ x.2)) then none
  else if l.all (fun x => decide (x.2 < v)) then some (abValue 1)
  else if l.all (fun x => decide (v < x.1)) then some (abValue 2)
  else some (abValue 3)

/-- The length and the range that a row gives its entry. -/
def OdRow.bad (r : OdRow) (b : Bytes) : Option Abort :=
  match r.ty.size with
  | some n =>
    if b.length ≠ n then some abLength
    else match r.ty with
      | .i32 => rangeBad r.range (toSigned 32 (leNat b))
      | .i64 => rangeBad r.range (toSigned 64 (leNat b))
      | _ => rangeBad r.range (leNat b : Nat)
  | none =>
    if 1024 < b.length then some abLength
    else match rangeBad r.range b.length with
      | some a => some a
      | none => if r.ty = .str ∧ b.any (fun c => decide (c.toNat < 0x20) || decide (0x7E < c.toNat)) then some (abValue 3) else none

/-- The value of an entry as it stands after a write of `v` to a key. -/
def Hub.after (h : Hub) (key v : Nat) (e : Entry) : Nat := if e.key = key then v else h.val e

/-- A refusal with a detail of INVALID_VALUE under a condition. -/
def badIf (c : Bool) (detail : Nat) : Option Abort := if c then some (abValue detail) else none

/-- The engine (R234): PIN_A and PIN_B differ, STEAL_REMOTE is not below STEAL_LOCAL. -/
def Hub.badEngine (h : Hub) (key v : Nat) : Option Abort :=
  let g := h.after key v
  if key = Od.engPinA.key ∨ key = Od.engPinB.key then badIf (decide (g Od.engPinA = g Od.engPinB)) 3
  else if key = Od.engStealLocal.key then badIf (decide (h.val Od.engStealRemote < v)) 1
  else if key = Od.engStealRemote.key then badIf (decide (v < h.val Od.engStealLocal)) 2
  else none

/-- The shared pool keeps 16,384 cells (R245), with the allotments as stored and as in force. -/
def Hub.poolBad (h : Hub) (key v : Nat) : Bool :=
  let g := h.after key v
  let small := fun f => decide (poolOf f (g Od.swLocalC0Reserve) (g Od.swMirrorPool) < 16384)
  small (fun p c => g (Od.swLinkAllot p c)) || small h.allot

/-- The bytes of staging quota of all local ports, in KiB, after a write (R241). -/
def Hub.quotaSum (h : Hub) (key v : Nat) : Nat :=
  ((List.range 29).map (fun k => h.after key v (Od.ingStageQuotaIn (k + 3)) + h.after key v (Od.ingStageQuotaOut (k + 3)))).sum

/-- Accounts and quotas of the switch (R241, R245, R265, R266). -/
def Hub.badSwitch (h : Hub) (key v : Nat) : Option Abort :=
  let ix := key / 256
  let sub := key % 256
  if key = Od.swLocalC0Reserve.key ∨ key = Od.swMirrorPool.key then badIf (h.poolBad key v) 1
  else match within ix 0x2610 3, within ix 0x2643 29 with
  | some _, _ => if 1 < sub ∧ v < 32 then some (abValue 2) else badIf (h.poolBad key v) 1
  | _, some _ => if sub = 9 ∨ sub = 0xA then badIf (decide (1920 < h.quotaSum key v)) 1 else none
  | _, _ => none

/-- A binding of an ETH port or a host queue that a mirror session may copy to (R257). -/
def mirrorDest (bind : Nat) : Bool :=
  (isEth (portCode bind) && decide (selector bind = 0)) || (decide (portCode bind = 0x61) && decide (selector bind < 32))

/-- A SOURCE that suits a SOURCE_KIND (R267). -/
def Hub.mirrorSource (h : Hub) (kind source : Nat) : Bool :=
  if kind < 2 then decide (3 ≤ source) && decide (source < 32)
  else if kind < 4 then decide (source < 3)
  else (h.live? source).isSome

/-- Mirror sessions (R257 to R259, R267). -/
def Hub.badMirror (h : Hub) (key v : Nat) : Option Abort :=
  match within (key / 256) 0x2670 4 with
  | none => none
  | some s =>
    let g := h.after key v
    let sub := key % 256
    let copies (u d : Nat) : Bool :=
      decide (g (Od.mirEnable u) = 1) &&
        ((decide (g (Od.mirSourceKind u) = 0) && decide (g (Od.mirSource u) = ingressOfPort (portCode d))) ||
         (decide (g (Od.mirSourceKind u) = 1) && decide (g (Od.mirSource u) = egressOfPort (portCode d))))
    let loop := [0, 1, 2, 3].any (fun u => [0, 1, 2, 3].any (fun t => copies u (g (Od.mirDest t))))
    let raw := decide (g (Od.mirFormat s) = 1) &&
      !(decide (g (Od.mirSourceKind s) < 2) && decide (3 ≤ g (Od.mirSource s)) && decide (g (Od.mirSource s) ≤ 10) &&
        isEth (portCode (g (Od.mirDest s))))
    badIf ((decide (sub = 3) && !h.mirrorSource (h.val (Od.mirSourceKind s)) v) || (decide (sub = 4) && !mirrorDest v) ||
      (decide (sub ≤ 4) && loop) || (decide (sub ∈ [2, 3, 4, 7]) && raw)) 3

/-- Sources of the bearings and the Z count (R301, R302). -/
def Hub.badBeacon (h : Hub) (key v : Nat) : Option Abort :=
  let named := [Od.srcPrimary 0, Od.srcSecondary 0, Od.srcPrimary 1, Od.srcPrimary 2]
  if named.any (fun e => decide (e.key = key)) then
    badIf (decide (v < 8) && named.any (fun e => decide (e.key ≠ key) && decide (h.val e = v))) 3
  else match within (key / 256) 0x4020 8 with
  | some n => if key = (Od.encZCount n).key then badIf (decide (h.val (Od.encCpr n) ≤ v)) 1 else none
  | none => none

/-- A rate that a divisor of the 80 MHz CAN clock meets within 0.5 % (R347). -/
def canRateOk (rate : Nat) : Bool :=
  let ok (d : Nat) : Bool := decide (200 * (max 80000000 (rate * d) - min 80000000 (rate * d)) ≤ rate * d)
  ok (80000000 / rate) || ok (80000000 / rate + 1)

/-- The rates of a serial port by its MODE (R362). -/
def serRates (mode : Nat) : List (Int × Int) :=
  if mode = 0 then [(1200, 12000000)] else if mode = 1 then [(100000, 50000000)]
  else [(100000, 100000), (400000, 400000), (1000000, 1000000)]

/-- CAN, eMMC and serial ports (R347, R354, R362). -/
def Hub.badPorts (h : Hub) (key v : Nat) : Option Abort :=
  let ix := key / 256
  let sub := key % 256
  if key = Od.emmcBusWidth.key then badIf (!emmcWidthOk (h.val Od.emmcBusMode) v) 3
  else match within ix 0x4420 6, within ix 0x4460 6 with
  | some _, _ => if sub = 2 ∨ sub = 5 then badIf (!canRateOk v) 3 else none
  | _, some n =>
    let mode := h.val (Od.serMode n)
    if sub = 3 then rangeBad (serRates mode) v
    else if sub = 4 ∧ mode = 0 then badIf (decide (v % 4 = 3)) 3
    else if sub = 4 ∧ mode = 1 then badIf (decide (3 < v)) 1
    else none
  | _, _ => none

/-- DSI0 (R378, R379, R386). -/
def Hub.badDisplay (h : Hub) (key v : Nat) : Option Abort :=
  let g := h.after key v
  if key = Od.dsiEnable.key then
    badIf (decide (v = 1) && decide (9000 * (g Od.dsiHactive + g Od.dsiHsync + g Od.dsiHbp + g Od.dsiHfp) * (g Od.dsiLanes * g Od.dsiLaneRate) <
      10 * ((g Od.dsiHactive * 3 + 12) * 8) * g Od.dsiPixelClock)) 3
  else if key = Od.dsiVfpMax.key then badIf (decide (v < g Od.dsiVfpMin)) 2
  else if key ∈ [Od.dsiWm1.key, Od.dsiWm2.key, Od.dsiWm3.key] then
    badIf (!(decide (g Od.dsiWm2 < g Od.dsiWm1) && decide (g Od.dsiWm3 < g Od.dsiWm2))) 3
  else none

/-- USB functions (R396, R413). -/
def Hub.badUsb (h : Hub) (key v : Nat) (b : Bytes) : Option Abort :=
  match within (key / 256) 0x44A8 8 with
  | none => none
  | some f =>
    if key % 256 = 1 then badIf (decide (v = 1) && !h.fnDescOk (f / 4) (f % 4)) 3
    else if 0x10 ≤ key % 256 then badIf (decide (b ≠ []) && !(decide (field b 0 1 = b.length) && decide (field b 1 1 = 3))) 3
    else none

/-- The curve of the breaker and its fast trip (R488, R497). -/
def Hub.badMooring (h : Hub) (key v : Nat) : Option Abort :=
  let g := h.after key v
  if key = Od.moorFastTrip.key ∨ key = Od.moorIsenseFs.key then badIf (decide (g Od.moorIsenseFs < g Od.moorFastTrip * 10)) 3
  else if key / 256 = 0x4802 then
    badIf (!(List.range 15).all (fun k => decide (g (Od.moorIK k) < g (Od.moorIK (k + 1))) && decide (g (Od.moorTK (k + 1)) < g (Od.moorTK k)))) 3
  else none

/-- The GAP of a SAFETY_CFG word is less than half its counter's range, and the context is of that kind (R522, R526). -/
def Hub.badSafety (h : Hub) (key v : Nat) : Option Abort :=
  if key / 256 = 0x4C50 ∨ key = Od.safSafetyDefault.key then
    if (if bit 7 v then 128 else 8) ≤ bits 15 8 v then some (abValue 1)
    else badIf (decide (key / 256 = 0x4C50) && decide ((h.ctx (key % 256)).state ≠ .free) && decide ((h.ctx (key % 256)).kind ≠ 7)) 3
  else none

/-- The rate order of a plan (R197). -/
def Hub.badPlan (h : Hub) (key v : Nat) : Option Abort :=
  let i := key % 256
  match within (key / 256) 0x3810 8, within (key / 256) 0x3820 8 with
  | some k, _ => badIf (decide (h.val (Od.planPirSend k i) < v)) 1
  | _, some k => badIf (decide (v < h.val (Od.planCirSend k i))) 2
  | _, _ => none

/-- Rings and counters (R537, R582, R583, R588, R590). -/
def Hub.badCounters (h : Hub) (key v : Nat) (b : Bytes) : Option Abort :=
  let ix := key / 256
  let sub := key % 256
  if ix = 0x6010 then badIf (!selectOk v) 3
  else if ix = 0x6041 then badIf (decide ((if sub ≤ 5 then 2 else 1) < v)) 1
  else match within ix 0x7030 4, within ix 0x6020 32, within ix 0x6030 4 with
  | some r, _, _ =>
    if sub = 1 then badIf (decide (8 < bits 15 12 v)) 3
    else if sub = 2 then badIf (decide (v % (16 * 2 ^ (h.ring r).size) ≠ 0)) 3 else none
  | _, some k, _ => if sub = 2 then badIf (!occInstance (h.val (Od.cmpOcc k)) v) 3 else none
  | _, _, some _ => if sub = 1 then badIf (decide (b.length % 2 = 1) || (u16List b).any (fun n => decide (383 < n))) 3 else none
  | _, _, _ => none

/-- Step 6 of R33 beyond the intervals of the maps. -/
def Hub.valueBad (h : Hub) (key v : Nat) (b : Bytes) : Option Abort :=
  if key = Od.modeModeConfirm.key then h.confirmBad v
  else firstView [h.badEngine key v, h.badSwitch key v, h.badMirror key v, h.badBeacon key v, h.badPorts key v, h.badDisplay key v,
    h.badUsb key v b, h.badMooring key v, h.badSafety key v, h.badPlan key v, h.badCounters key v b]

/-! ### The present state (R33 step 7) -/

/-- The plan whose meters or quanta an entry holds (R206). -/
def planOfKey (key : Nat) : Option Nat :=
  let ix := key / 256
  if 0x3810 ≤ ix ∧ ix < 0x3838 then some (ix % 8)
  else if 0x3840 ≤ ix ∧ ix < 0x3860 then some ((key % 256 - 1) / 8) else none

/-- A port or unit that runs holds its settings: the write is refused with LINK_DOWN. -/
def Hub.portLocks (h : Hub) (key : Nat) : Bool :=
  let ix := key / 256
  let sub := key % 256
  (match within ix 0x2670 4 with
    | some s => decide (sub ∈ [2, 3, 4]) && decide (h.val (Od.mirEnable s) = 1) && decide (h.val (Od.mirSourceKind s) < 4)
    | none => false) ||
  (match within ix 0x4400 8 with
    | some n => decide (2 ≤ sub) && decide (sub ≤ 4) && decide (h.val (Od.ethEnable n) = 1)
    | none => false) ||
  (match within ix 0x4420 6 with
    | some n => decide (2 ≤ sub) && decide (sub ≤ 6) && decide (h.val (Od.canEnable n) = 1)
    | none => false) ||
  (match within ix 0x4480 2 with
    | some n => decide (2 ≤ sub) && decide (h.val (Od.csiEnable n) = 1)
    | none => false) ||
  (decide (h.val Od.dsiEnable = 1) && (decide (ix = 0x4498) ||
    (decide (ix = 0x4490) && decide (sub ∉ [1, 0xE, 0xF, 0x10, 0x11, 0x12, 0x13, 0x14])))) ||
  (match within ix 0x44A0 2 with
    | some n => decide (2 ≤ sub) && decide (sub ≤ 6) && decide (h.val (Od.hsicEnable n) = 1)
    | none => false) ||
  (match within ix 0x44A8 8 with
    | some f => decide (sub ∈ [3, 4] ∨ 0x10 ≤ sub) && decide (h.val (Od.fnEnable f) = 1)
    | none => false)

/-- The tunnel state that forbids a write, by its state of R67. -/
def Hub.tunnelLocks (h : Hub) (key : Nat) : Option Nat :=
  let ix := key / 256
  let sub := key % 256
  let x := h.ctx sub
  if 0x3810 ≤ ix ∧ ix < 0x3820 then
    (if x.state = .free ∨ (x.role = .opener ∧ (x.state = .closed ∨ x.state = .faulted)) then none else some x.state.named)
  else if 0x3820 ≤ ix ∧ ix < 0x3838 then (if x.state ≠ .free ∧ x.role = .transit then some x.state.named else none)
  else if ix = 0x4C50 then
    (if x.state = .free ∨ x.state = .closed ∨ (x.role = .responder ∧ x.state = .opening) then none else some x.state.named)
  else match within ix 0x2670 4, within ix 0x4448 8 with
  | some s, _ =>
    if sub ∈ [2, 3, 4] ∧ h.val (Od.mirEnable s) = 1 ∧ 4 ≤ h.val (Od.mirSourceKind s) then some stTunnelOpen else none
  | _, some r =>
    if h.ctxList.any (fun c => decide (c.2.state = .open) && decide (portCode c.2.localBind = 0x30) && decide (selector c.2.localBind = r)) then
      some stTunnelOpen else none
  | _, _ => none

/-- The first state of R59 that forbids a write. -/
def Hub.writeState (h : Hub) (key v : Nat) : Option Nat :=
  firstView [
    if h.standby && mirroredKey key then some stNotRoot else none,
    match h.plan.pending, planOfKey key with
      | some q, some k => if k = q.1 ∨ k = h.plan.activePlan then some stPlanSwitch else none
      | _, _ => none,
    if h.portLocks key then some stLinkDown else none,
    h.tunnelLocks key,
    if key = Od.obsObsEnable.key ∧ v = 1 ∧ h.mode.active ≠ .bench ∧ !h.debugUnlocked then some stDebugLocked else none]

/-- Steps 5 to 7 of R33 for an entry of a row. -/
def Hub.odRefuse (h : Hub) (r : OdRow) (key : Nat) (b : Bytes) : Option Abort :=
  match r.bad b with
  | some a => some a
  | none => match h.valueBad key (leNat b) b with
    | some a => some a
    | none => (h.writeState key (leNat b)).map abState

/-! ### What a write does -/

/-- An entry of the active plan, or a COLOUR_MODE, keeps its old value in force up to the next superframe boundary (R190, R197). -/
def Hub.putDeferred (h : Hub) (e : Entry) (v : Nat) (defer : Bool) : Hub :=
  let h1 : Hub :=
    if defer ∧ !h.plan.deferred.any (fun c => decide (c.1 = e.key)) then
      { h with plan := { h.plan with deferred := h.plan.deferred ++ [(e.key, h.val e)] } }
    else h
  h1.put e v

/-- EVR_CTRL of ring r (R537, R546): SIZE is ignored while ENABLE is 1, and where it is above 8. -/
def Hub.ringCtrlWrite (h : Hub) (r v : Nat) : Hub :=
  let x := h.ring r
  let size := if x.enable ∨ 8 < bits 15 12 v then x.size else bits 15 12 v
  let y := { x with vector := bits 20 16 v, size := size, notify := bits 9 8 v, inHost := bit 4 v }
  let h1 := h.setRing r y
  if x.enable = bit 0 v then h1 else h1.ringEnable r (bit 0 v)

/-- EVR_BASE of ring r, ignored while ENABLE is 1 (R546). -/
def Hub.ringBaseWrite (h : Hub) (r v : Nat) : Hub := if (h.ring r).enable then h else h.setRing r { h.ring r with base := v }

/-- LOOPBACK q (R588): acts and is stored only in BENCH. -/
def Hub.loopback (h : Hub) (q v : Nat) : Hub :=
  if h.mode.active ≠ .bench then h
  else
    let h1 := h.put (Od.obsLoopback q) v
    if q < 5 then h1.patternJudge q
    else
      let port := if q < 13 then 0x10 + (q - 5) else if q < 19 then 0x20 + (q - 13) else 0x70 + (q - 19)
      if v = 0 then h1 else h1.loseBindings (fun b => decide (portCode b = port))

/-- Modes, the engine, power and the switch (R16, R234, R265, R266, R574). -/
def Hub.putCore (h : Hub) (e : Entry) (ix sub v : Nat) : Option Hub :=
  if e.key = Od.modeModeConfirm.key then some h.confirm
  else if e.key = Od.engEngineFloor.key then some (h.put e v).judgeShort
  else if e.key = Od.rstDomainBoot.key then some (h.put e (v ||| 3))
  else if e.key = Od.pairPairEnable.key then
    some { h.put e v with pwr := if v = 0 ∧ h.pwr.freq = .held then h.pwr.mastered false else h.pwr }
  else if e.key = Od.rstClockCap.key then some (h.clockCap (decide (v = 1)))
  else if ix = 0x2600 then some (h.put e v).recheckPool
  else match within ix 0x2643 29 with
  | some k =>
    let h1 := h.put e v
    some (if sub ≤ 8 then h1.recheck (k + 3) (sub - 1)
      else if sub ≤ 0xA then (List.range 8).foldl (fun h c => h.recheck (k + 3) c) h1
      else if sub ≤ 0xC then h1.pfcUpdate h1 (k + 3) else h1)
  | none => none

/-- Ports and lanes, plans, the Beacon and the Lamps (R103, R190, R197, R301, R302, R331). A lane whose QUIET_ENABLE bit is cleared while
its transmitter is Quiet leaves Quiet at once (log 59). -/
def Hub.putLinks (h : Hub) (e : Entry) (ix sub v : Nat) : Option Hub :=
  if ix = 0x3808 then some (h.putDeferred e v true)
  else match planOfKey e.key with
  | some k => some (h.putDeferred e v (decide (k = h.plan.activePlan)))
  | none => match within ix 0x3000 3, within ix 0x4010 3, within ix 0x4020 8, within ix 0x4100 24 with
    | some p, _, _, _ =>
      let h1 := h.put e v
      some (if sub = 1 then h1.portJudge p
        else if sub = 6 then (portLanes p).foldl (fun h n => if bit (h.laneLogical n) v then h else h.wakeLane n) h1
        else h1)
    | _, some b, _, _ => some (if sub ≤ 2 then (h.put e v).resource b else h.put e v)
    | _, _, some n, _ => some (if sub = 1 then (h.put e v).encModeSet n v else h.put e v)
    | _, _, _, some l =>
      let h1 := h.put e v
      some (if sub = 1 then h1.lampEnable l (decide (v = 1))
        else if sub = 3 then h1.driveLamp l (h1.lamp l)
        else if sub = 6 ∨ sub = 9 then h1.lampsAutoAll else h1)
    | _, _, _, _ => none

/-- The nominal rate of a CAN egress: the data-phase rate (R179, R347). -/
def Hub.canNominal (h : Hub) (n : Nat) : Hub :=
  h.setNominal (17 + n) ((if h.val (Od.canFdEnable n) = 1 then h.val (Od.canDataRate n) else h.val (Od.canNominalRate n)) / 1000)

/-- Ethernet, CAN, storage and serial ports (R339, R348, R352, R355, R363). -/
def Hub.putNetwork (h : Hub) (e : Entry) (ix sub v : Nat) : Option Hub :=
  if e.key = Od.emmcEnable.key then some (h.emmcEnable (decide (v = 1)))
  else match within ix 0x4400 8, within ix 0x4420 6, within ix 0x4460 6 with
  | some n, _, _ =>
    let h1 := h.put e v
    some (if sub = 1 ∧ v = 0 then (h1.loseBindings (fun b => decide (portCode b = 0x10 + n))).ethLink n 0 else h1)
  | _, some n, _ =>
    let was := h.val e
    let h1 := h.put e v
    some (if sub = 1 ∧ v ≠ was then
        (if v = 1 then (h1.setCan n (h1.can n).started).claimStart n
        else if h1.canRuns n then h1
        else (h1.loseBindings (fun b => decide (portCode b = 0x20 + n))).canStop n)
      else if sub = 2 ∨ sub = 4 ∨ sub = 5 then h1.canNominal n
      else if sub = 9 ∧ v = 1 ∧ was = 0 then h1.claimStart n else h1)
  | _, _, some n =>
    let was := h.val e
    let h1 := h.put e v
    some (if (sub = 1 ∧ v = 0) ∨ (sub = 2 ∧ v ≠ was) then h1.loseBindings (fun b => decide (portCode b = 0x70 + n))
      else if sub = 3 then h1.setNominal (23 + n) (min 50000 (v / 1000)) else h1)
  | _, _, _ => none

/-- Video and USB (R380, R383, R384, R393, R396). -/
def Hub.putMedia (h : Hub) (e : Entry) (ix sub v : Nat) : Option Hub :=
  if e.key = Od.dsiEnable.key then
    some ((h.dsiEnable (decide (v = 1))).setNominal 12 (if v = 1 then h.val Od.dsiLanes * h.val Od.dsiLaneRate * 1000 else 0))
  else if e.key = Od.dsiShowSlot.key then some (h.showSlot v)
  else match within ix 0x4480 2, within ix 0x44A0 2, within ix 0x44A8 8 with
  | some n, _, _ => some (if sub = 1 ∧ v = 0 then (h.put e v).csiStop n else h.put e v)
  | _, some n, _ =>
    some (if sub = 1 then h.hsicSet n (decide (v = 1)) else if sub = 2 then (h.put e v).hsicJudge n else h.put e v)
  | _, _, some f => some (if sub = 1 then h.fnSet (f / 4) (f % 4) (decide (v = 1)) else if sub = 2 then (h.put e v).usbJudge else h.put e v)
  | _, _, _ => none

/-- Mooring, ALIVE_STATE and check channels (R497, R498, R523 to R526). A write of ALIVE_STATE gives LAST, which the next message of the
direction is held to (log 86). -/
def Hub.putMooring (h : Hub) (e : Entry) (ix sub v : Nat) : Option Hub :=
  if ix = 0x4C53 then some ((h.put e v).updCtx sub (fun x => { x with aliveFresh := false }))
  else if e.key = Od.moorMoorFlags.key then some (h.put e (h.val e ^^^ (h.val e &&& v)))
  else if ix = 0x4800 then some ((h.put e (if sub = 0xA then v ||| 1 else v)).offerChanged h)
  else match within ix 0x4C60 16 with
  | some c =>
    let x := h.crcChan c
    some (h.setCrcChan c (match sub with
      | 1 => { x with cfg := v &&& 0x77F }
      | 2 => { x with poly := v }
      | 3 => { x with initial := v }
      | 4 => { x with value := v % 2 ^ x.param.width }
      | _ => if v = 1 then { x with value := x.param.start } else x))
  | none => none

/-- Events, counters, comparators and observation (R542, R545, R583, R586, R588). -/
def Hub.putEvents (h : Hub) (e : Entry) (ix sub v : Nat) : Option Hub :=
  if ix = 0x7020 then some (h.maskWrite .keeper (sub - 1) v)
  else if ix = 0x7021 then some (h.pendingWrite .keeper (sub - 1) v)
  else if ix = 0x6010 then some (h.selectWrite (sub - 1) v)
  else if ix = 0x6040 then some (if sub = 1 then h.obsEnable (decide (v = 1)) else h.obsGroup v)
  else if ix = 0x6041 then some (h.loopback (sub - 1) v)
  else match within ix 0x7030 4, within ix 0x6020 32 with
  | some r, _ => some (if sub = 1 then h.ringCtrlWrite r v else if sub = 2 then h.ringBaseWrite r v else h.ringRd r v)
  | _, some k =>
    some (if sub ≤ 3 then h.cmpWrite k (sub - 1) v
      else
        let h1 := h.put e v
        { h1 with obs := { h1.obs with reached := h1.obs.reached.set 0 k 0 } })
  | _, _ => none

/-- The first of several outcomes. -/
def firstHub : List (Option Hub) → Option Hub
  | [] => none
  | some h :: _ => some h
  | none :: t => firstHub t

/-- A write that has passed its checks takes effect: a fixed-size value, or the bytes of a STR or DOMAIN entry. -/
def Hub.odPut (h : Hub) (r : OdRow) (key : Nat) (b : Bytes) : Hub :=
  let e := odEntry key
  match r.ty.size with
  | none => match within (key / 256) 0x4C60 16 with
    | some c =>
      let x := h.crcChan c
      h.setCrcChan c { x with value := x.param.feedAll x.value b }
    | none => h.putBlob e b
  | some _ =>
    let v := leNat b
    let ix := key / 256
    let sub := key % 256
    (firstHub [h.putCore e ix sub v, h.putLinks e ix sub v, h.putNetwork e ix sub v, h.putMedia e ix sub v, h.putMooring e ix sub v,
      h.putEvents e ix sub v]).getD (h.put e v)

/-- Mirrored entries are noted to the STANDBY as they change (R450). -/
def Hub.odNoted (h : Hub) (key v : Nat) : Hub := if mirroredKey key then h.mirrorNote (.value key v) else h

/-- A record of the mirror with the value of an entry (R450). -/
def Hub.odMirrored (h : Hub) (key v : Nat) : Hub :=
  match odRowOf key with
  | some r => match r.ty.size with
    | some n => if r.acc = .rw then h.odPut r key (leBytes n v) else h
    | none => h
  | none => h

end Sys2Proof.Machine
end

