-- ==== Sys2Proof/Machine/Pair.lean ====
section
/-!
DEFINITION. The redundant pair (chapter 15): announcements, the swap in its two phases, the commit point at each kind of hub,
demotion, the claim, and the mirror record by record.
-/

namespace Sys2Proof.Machine

/-! ### Contexts and Lamps that change sides (R457, R460, R465) -/

/-- SWAP_DISCARD counts n more cells (R457, R458, R466). -/
def Hub.swapDiscard (h : Hub) (n : Nat) : Hub :=
  if n = 0 then h else ({ h with pair := { h.pair with discard := trunc 32 (h.pair.discard + n) } } : Hub).tally 0x0C04 0 n

/-- A live context becomes a shadow: its queued cells are discarded (R457, R465). -/
def Hub.toShadow (h : Hub) (i : Nat) : Hub :=
  let x := h.ctx i
  let n := h.queuedCells i
  let h1 := (h.purge i).1.updCtx i (fun y =>
    { y with
      shadow := true, drainDiscard := x.drainDiscard, openTimer := false, drainTimer := false, holdTimer := false, reopenTimer := false,
      modifying := false, newClass := none, closeSent := false, closeReply := false, farSent := none, command := none })
  let h2 := (((h1.swapDiscard n).unadmit i).dropHomes i).prunePairs
  let h3 := if x.state = .open ∨ x.state = .draining then h2.portLeave i else h2
  h3.endTunCommand x.command (abFailed 4) []

/-- Every ACTIVE Lamp is driven to a logical level; its queued edges go (R460). -/
def Hub.lampsLevel (h : Hub) (level : LampSt → Bool) : Hub :=
  lampNumbers.foldl (fun h l =>
    let x := h.lamp l
    if x.state = .active then h.driveLamp l { x with level := level x, edges := [], pulseEnds := [] } else h) h

/-- The direction of PLK follows the roles: the LIGHTHOUSE leads (R75, R128, R457). -/
def Hub.plkRoles (h : Hub) (primary : Bool) : Hub :=
  (h.updPort 2 (fun x => { x with leader := primary })).updLink 2 (fun x => { x with farMode := some (if primary then 2 else 1) })

/-- A root turns STANDBY: contexts and daymarks become shadows, Lamps are cleared, the hub follows the Beacon over PLK (R457,
R460, R465). -/
def Hub.becomeStandby (h : Hub) (epoch : Nat) (sf : Option Nat) : Hub :=
  let ends := h.pair.unacked.flatMap (·.2)
  let h1 := ((h.ctxList.filter (fun c => !c.2.shadow)).foldl (fun h c => h.toShadow c.1) h).lampsLevel (fun _ => false)
  let h2 : Hub := { h1 with
    dm := { h1.dm with slots := h1.dm.slots.map (fun d => { d with shadow := true }) },
    mode := { h1.mode with active := .standby },
    plan := { h1.plan with swapWindow := if sf.isSome then sf else h1.plan.swapWindow },
    pair := { h1.pair with epoch := epoch, state := .standby, unacked := [], resync := none, staleTaken := false } }
  let h3 := (ends.foldl (fun h e => h.runEnd e) h2).plkRoles false
  let h4 := match h3.laneOf 2 0 with
    | some n => if h3.running 2 then (h3.freqLaneFound n).acquire.askSample else h3
    | none => h3
  let h5 : Hub := if h4.running 2 then h4 else { h4 with bcn := { h4.bcn with timebase := .free } }
  h5.bearingsMoved h

/-- A context of the mirror becomes live, or is freed (R457, R458, R185, R522); a binding that is not valid here faults it. -/
def Hub.shadowLive (h : Hub) (i : Nat) : Hub :=
  let x := h.ctx i
  if x.state = .open then
    let h1 := (h.updCtx i (fun y => { y with shadow := false, txTseq := 0, rxTseq := 0, rxOpen := [], cellsSent := 0, cellsRcvd := 0 })).startDirections i
    let h2 := h1.fillMeter i
    let h3 := if x.kind = 7 then h2.safetyRestart i else h2
    if h3.bindOk i x.kind x.localBind x.maxSeg then h3.admitted i else h3.faultSend i 5
  else (h.setCtx i Ctx.init).clearMap i

/-- When PULSE_TIMEOUT of a Lamp expires that starts now; 0 is none (R320, R331). -/
def Hub.pulseLimit (h : Hub) (l : Nat) : Option Nat :=
  let ms := h.val (Od.lampPulseTimeout l)
  if ms = 0 then none else some (h.clock + 10000000 * ms)

/-- A daymark of the mirror becomes live (R460, R320). -/
def Hub.daymarkLive (h : Hub) (d : Daymark) : Hub :=
  let now := h.bearingNow d.bearing
  let put (x : Daymark) : Hub := { h with dm := { h.dm with slots := h.dm.slots.map (fun y => if y.slot = d.slot then x else y) } }
  let drop : Hub :=
    let h1 : Hub := { h.freeSlot d.slot with pair := { h.pair with dmDropped := trunc 32 (h.pair.dmDropped + 1) } }
    h1.reportDaymark d (setBit 2 0) h.clock 0
  let trail : Daymark := { d with shadow := false, since := h.clock, trailing := true, timeoutAt := h.pulseLimit d.lamp }
  if d.action = 4 then
    if d.target + d.arg ≤ now then drop else if d.trailing ∨ d.target ≤ now then put trail else put { d with shadow := false, since := h.clock }
  else if d.target ≤ now then drop
  else put { d with shadow := false, since := h.clock }

/-- What the root takes over with the Beacon of bearing b at block 0 of superframe f (R459): Q(f), J, and Q(f + 1). -/
def Hub.takeBearing (h : Hub) (f b : Nat) : Hub :=
  let x := h.bearing b
  let pts := if (pointOf f x.points).isSome then x.points else ((f, x.to_ + (x.to_ - x.from_), decide (x.state ≠ .lost)) :: x.points).take 4
  let diff := if b = 0 then h.bcn.shadowDiff
    else match x.shadow.find? (fun s => (pointOf s.1 x.points).isSome) with
      | some s => s.2 - ((pointOf s.1 x.points).map (·.1)).getD 0
      | none => 0
  (h.setBearing b { x with points := pts, join := - diff * 65536, resumed := false, flip := false }).formPoint f b

/-- The STANDBY becomes the primary at its commit point or by its claim: LIGHTHOUSE, Beacon source, everything of the mirror live
(R457 to R461, R463). -/
def Hub.becomePrimary (h : Hub) (epoch cause : Nat) (commit : Option Nat) : Hub :=
  let offset := if commit.isSome then h.offsetS else 0
  let inStep := decide (cause = 1) && h.running 2
  let h1 : Hub := { h with
    mode := { h.mode with active := .lighthouse },
    bcn := { h.bcn with timebase := .free, offsetHeld := offset, slew := 0, servo := 0, correction := none },
    plan := { h.plan with swapWindow := if commit.isSome then commit else h.plan.swapWindow },
    pwr := h.pwr.mastered commit.isSome,
    pair := { h.pair with
      epoch := epoch, state := .primary, primarySerial := Config.serial, lastCause := cause, silenceTimer := false,
      staleTaken := commit.isSome && !h.pair.inStep, inStep := inStep && h.pair.inStep } }
  let h2 := (h1.ctxList.filter (fun c => c.2.shadow)).foldl (fun h c => h.shadowLive c.1) h1
  let h3 := (List.range 32).foldl (fun h e => h.shed e 8) h2
  let h4 := (h3.dm.slots.filter (fun d => d.shadow)).foldl (fun h d => h.daymarkLive d) h3
  let h5 := (h4.lampsLevel (fun x => x.mirrored)).plkRoles true
  let f := h5.bcn.sfEpoch * 2 ^ 32 + h5.links.sf
  let h6 := [0, 1, 2].foldl (fun h b => if commit.isSome then h.takeBearing f b else h) h5
  h6.bearingsMoved h

/-! ### A BUOY moves its tunnels (R458, R465) -/

/-- A TSEQ shifted by d. -/
def shiftSeq (d t : Nat) : Nat := (t + d) % 4096

/-- Buffered cells with their TSEQ shifted. -/
def shiftCells (d : Nat) (l : List BufCell) : List BufCell := l.map (fun c => { c with cell := { c.cell with tseq := shiftSeq d c.cell.tseq } })

/-- A job with its TSEQ range shifted. -/
def Job.shifted (d : Nat) (j : Job) : Job :=
  { j with tseq := shiftSeq d j.tseq, cells := shiftCells d j.cells, skipped := j.skipped.map (shiftSeq d) }

/-- The cells up to the last end of a segment, and the rest, which belongs to an open segment. -/
def splitEos (l : List BufCell) : List BufCell × List BufCell :=
  let rest := (l.reverse.takeWhile (fun c => !c.cell.eos)).reverse
  (l.take (l.length - rest.length), rest)

/-- The jobs of context i in a direction with a change to them, wherever they stand. -/
def Hub.mapJobs (h : Hub) (i : Nat) (encap : Bool) (f : Job → Job) : Hub :=
  let g (j : Job) : Job := if j.ctx = i ∧ j.encap = encap then f j else j
  let h1 := (List.range 32).foldl (fun (h : Hub) t =>
    if (h.tender t).jobs = [] then h else h.setTender t { h.tender t with jobs := (h.tender t).jobs.map g }) h
  { h1 with eng := { h1.eng with waiting := h1.eng.waiting.map g } }

/-- The jobs of context i in a direction, in the order in which they commit. -/
def Hub.jobsInOrder (h : Hub) (i : Nat) (encap : Bool) : List Job :=
  let out := ((List.range 32).flatMap (fun t => (h.tender t).jobs)).filter (fun j => decide (j.ctx = i) && decide (j.encap = encap))
  out.foldl (fun l j => insertTicket h.ticketOrder j l) []

/-- The receiving side of a moved tunnel: segments complete here stay, TSEQ restarts at 0, an open segment is discarded. A cell that stays
keeps its word and its account. -/
def Hub.moveRx (h : Hub) (i : Nat) : Hub :=
  let x := h.ctx i
  let e := h.bindEgress i
  let queued := if 3 ≤ e then (h.egress e).queue.filter (fun c => decide (c.ctx = i)) else []
  let s := splitEos (x.rxOpen ++ queued)
  let jobs := h.jobsInOrder i false ++ h.eng.waiting.filter (fun j => decide (j.ctx = i) && !j.encap)
  let seqs := jobs.flatMap (fun j => j.skipped ++ j.cells.map (·.cell.tseq)) ++ x.rxSkipped ++ s.1.map (·.cell.tseq)
  let next := match seqs.getLast? with
    | some t => t + 1
    | none => x.rxTseq
  let d := 4096 - next % 4096
  let g := x.rxOpen.length
  let h1 := (h.mapJobs i false (Job.shifted d)).updCtx i (fun y =>
    { y with rxTseq := shiftSeq d y.rxTseq, rxSkipped := y.rxSkipped.map (shiftSeq d), rxOpen := shiftCells d (s.1.take g),
             segDiscard := if s.2 = [] then y.segDiscard else trunc 32 (y.segDiscard + 1) })
  let h2 := if queued = [] then h1
    else h1.setEgress e { h1.egress e with queue := (h1.egress e).queue.filter (fun c => decide (c.ctx ≠ i)) ++ shiftCells d (s.1.drop g) }
  h2.freeWords s.2

/-- The sending side of a moved tunnel: cells not yet handed to the link go to the new egress, their TSEQ counted from 0. -/
def Hub.moveTx (h : Hub) (o q i : Nat) : Hub :=
  let x := h.ctx i
  let mine := (h.egress o).queue.filter (fun c => decide (c.ctx = i))
  let base := match mine with
    | c :: _ => c.cell.tseq
    | [] => match h.jobsInOrder i true with
      | j :: _ => j.tseq
      | [] => x.txTseq
  let d := 4096 - base % 4096
  let h1 := h.mapJobs i true (Job.shifted d)
  let h2 := h1.setEgress o { h1.egress o with queue := (h1.egress o).queue.filter (fun c => decide (c.ctx ≠ i)) }
  let h3 := h2.setEgress q { h2.egress q with queue := (h2.egress q).queue ++ shiftCells d mine }
  h3.updCtx i (fun y => { y with txTseq := shiftSeq d y.txTseq })

/-- One tunnel of a BUOY moves from port o to port q (R458). -/
def Hub.moveTunnel (h : Hub) (o q i : Nat) : Hub :=
  let x := h.ctx i
  if x.state ≠ .open then h.enterFault i 3 0 x.cutStatus x.cutData
  else
    let k := x.indexA
    let h1 := (h.moveTx o q i).moveRx i
    let v := h1.tun.upMap.get 0 (256 * o + k)
    let h2 : Hub := { h1 with
      tun := { h1.tun with upMap := (h1.tun.upMap.set 0 (256 * o + k) 0).set 0 (256 * q + k) v },
      pair := { h1.pair with moved := h1.pair.moved ++ [(256 * o + k, (h1.links.sf + 2) % 2 ^ 32)] } }
    let h3 := h2.updCtx i (fun y =>
      { y with portA := q, cellsSent := 0, cellsRcvd := 0, towardOpener := if y.towardOpener = o then q else y.towardOpener,
               towardResponder := if y.towardResponder = o then q else y.towardResponder })
    if x.kind = 7 then h3.safetyRestart i else h3

/-- A BUOY turns to the primary behind port q (R458, R465): tunnels move, the primary upstream port and the feed follow. -/
def Hub.buoyTurn (h : Hub) (q epoch : Nat) (sf : Option Nat) : Hub :=
  let h1 : Hub := match h.pair.primaryPort with
    | some o => if o = q then h else (h.ctxList.filter (fun (c : Nat × Ctx) => c.2.busy && decide (c.2.portA = o))).foldl (fun (h : Hub) c => h.moveTunnel o q c.1) h
    | none => h
  let h2 : Hub := { h1 with
    plan := { h1.plan with swapWindow := if sf.isSome then sf else h1.plan.swapWindow },
    pair := { h1.pair with
      epoch := epoch, primaryPort := some q, turnTo := none,
      primarySerial := match (h1.link q).farSerial with
        | some s => s.toNat
        | none => 0 } }
  let h3 := (h2.updLink q (fun x => { x with farMode := some 1 })).updLink (1 - q) (fun x => { x with farMode := x.farMode.map (fun m => if m = 1 then 2 else m) })
  let f := h3.preferredFeed
  let h4 := if h3.dualHomed ∧ bit f h3.moor.feedGood ∧ h3.moor.feed.isSome ∧ h3.moor.feed ≠ some f then h3.feedTo f else h3
  (h4.followTurn q).setHears (decide (h.bcn.undecoded = 0) && decide (h.pair.primaryPort = some q))

/-! ### Announcements, demotion, failover (R446 to R449, R456, R465) -/

/-- R465: a root in LIGHTHOUSE hears a higher-ranking primary. -/
def Hub.demoteRoot (h : Hub) (epoch serial : Nat) : Hub :=
  let h1 := (h.swapAbandon (abFailed 2)).becomeStandby epoch none
  let h2 : Hub := { h1 with pair := { h1.pair with inStep := false, state := .stale, lastCause := 4, primarySerial := serial } }
  h2.pairEvent Ev.pairDemoted

/-- R447: a primary with this epoch, strap and serial ranks above this root. -/
def Hub.outranked (h : Hub) (epoch strap serial : Nat) : Bool :=
  let own := h.mode.strap.toNat
  decide (h.pair.epoch < epoch) || (decide (epoch = h.pair.epoch) &&
    ((decide (strap = 1) && decide (own ≠ 1)) || (decide (strap = own) && decide (serial < Config.serial))))

/-- A primary is heard (R446, R463): its epoch and serial are adopted, and silence is over. -/
def Hub.heardPrimary (h : Hub) (epoch serial : Nat) : Hub :=
  { h with pair := { h.pair with
      epoch := max h.pair.epoch epoch, primarySerial := serial, silenceTimer := false,
      state := if h.pair.state = .joining then .stale else h.pair.state } }

/-- The candidate starts a swap (R454). -/
def Hub.swapStart (h : Hub) (commanded : Bool) (command : Option Nat) : Hub :=
  let ports := [2, 0, 1].filter h.running
  let e := h.pair.epoch + 1
  let w : Swap := ⟨commanded, true, e, ports, [], 2, none, command, true⟩
  let h1 : Hub := { h with pair := { h.pair with swap := some w, prepTimer := true } }
  (h1.swapTell ports 0x31 e 0 (if commanded then 1 else 2)).swapDecide

/-- The links to BUOYs of the pair in RUNNING. -/
def Hub.buoyLinks (h : Hub) : List Nat := [0, 1].filter (fun p => h.running p && decide ((h.link p).farMode = some 4))

/-- PLK is silent (R456). -/
def Hub.plkSilent (h : Hub) : Bool := !h.running 2 || decide (h.val Od.pairPairLoss ≤ h.bcn.undecoded)

/-- The STANDBY fails over once the conditions of R456 hold. -/
def Hub.failoverCheck (h : Hub) : Hub :=
  let l := h.buoyLinks
  if h.standby ∧ h.pairMember ∧ !h.swapping ∧ h.plkSilent ∧ l ≠ [] ∧ l.all (fun p => h.pair.lostBy.get 0 p = 1) then
    (h.fogOriginate 0x21 0).swapStart false none
  else h

/-- ROLE_ANNOUNCE arrives (R446 to R449, R456, R463, R465). -/
def Hub.roleAnnounce (h : Hub) (p epoch role : Nat) (hears : Bool) (strap serial primary : Nat) : Hub :=
  if !h.pairMember || !h.sysOpen p then h
  else
    let h1 := h.updLink p (fun x => { x with farMode := some role })
    let h2 : Hub := { h1 with pair := { h1.pair with
      heardMax := max h1.pair.heardMax epoch, partnerSerial := if h1.isRoot ∧ p = 2 then serial else h1.pair.partnerSerial } }
    if h2.pairBuoy then
      if role ≠ 1 then h2
      else if h2.pair.primaryPort = some p ∨ (h2.pair.primaryPort = none ∧ h2.pair.epoch ≤ epoch) then
        let was := h2.pair.primaryPort
        let h3 := (({ h2 with pair := { h2.pair with primaryPort := some p } } : Hub).heardPrimary epoch serial)
        if was = none then h3.followTurn p else h3
      else if h2.pair.epoch < epoch then
        let h3 : Hub := { h2 with pair := { h2.pair with turnTo := some p } }
        h3
      else h2
    else if role = 4 then
      let h3 : Hub := { h2 with pair := { h2.pair with
        hears := h2.pair.hears.set 0 p (1 + b2n hears), lostBy := h2.pair.lostBy.set 0 p (b2n (!hears)) } }
      let h4 := if hears ∧ primary ≠ 0 ∧ primary ≠ Config.serial ∧ h3.standby then
          ({ h3 with pair := { h3.pair with silenceTimer := false, state := if h3.pair.state = .joining then .stale else h3.pair.state } } : Hub)
        else h3
      h4.failoverCheck
    else if role = 1 then
      if h2.mode.active = .lighthouse then (if h2.outranked epoch strap serial then h2.demoteRoot epoch serial else h2)
      else h2.heardPrimary epoch serial
    else h2

/-- No block 0 for PAIR_LOSS superframes (R456): at a BUOY HEARS clears; a STANDBY fails over, or raises PAIR_SPLIT. -/
def Hub.pairLoss (h : Hub) (p : Nat) : Hub :=
  if h.pairBuoy then
    if h.pair.primaryPort = some p ∧ h.val Od.pairPairLoss ≤ h.bcn.undecoded then h.setHears false else h
  else if h.standby ∧ p = 2 ∧ h.pairMember ∧ !h.swapping then
    let h1 := h.failoverCheck
    if h1.swapping then h1
    else if h1.plkSilent ∧ h1.val Od.pairPairLoss < h1.bcn.undecoded ∧ !h1.pair.split ∧ h1.buoyLinks.any (fun q => h1.pair.hears.get 0 q = 2) then
      (({ h1 with pair := { h1.pair with split := true } } : Hub).pairEvent Ev.pairSplit).fogOriginate 0x22 0
    else h1
  else h

/-! ### The phases of a swap (R454, R455) -/

/-- Every cell of the tunnels held for the swap has left toward the old path and is acknowledged (R455). -/
def Hub.swapDrained (h : Hub) : Bool :=
  h.ctxList.all (fun c => !(c.2.busy && decide (c.2.role ≠ .transit) && h.swapHold c.1) ||
    (!h.unackedCells c.1 && decide (h.queuedAt c.1 c.2.portA = 0)))

/-- A receiver in a commanded swap answers once it has drained (R455). -/
def Hub.holdDrained (h : Hub) : Hub :=
  match h.pair.swap with
  | some w =>
    if !w.candidate ∧ !w.drained ∧ w.commitSf.isNone ∧ h.swapDrained then
      ({ h with pair := { h.pair with swap := some { w with drained := true } } } : Hub).pairSend w.port 0x32 w.epoch 0 1
    else h
  | none => h

/-- SWAP_PREPARE arrives (R454, R455, R456). -/
def Hub.swapPrepare (h : Hub) (p epoch kind : Nat) : Hub :=
  if !h.pairMember || !h.sysOpen p then h
  else if epoch ≤ h.pair.epoch ∨ h.swapping then h.pairSend p 0x33 h.pair.epoch 0 kind
  else
    let w : Swap := ⟨decide (kind = 1), false, epoch, [], [], p, none, none, decide (kind ≠ 1)⟩
    let h1 : Hub := { h with pair := { h.pair with swap := some w, prepTimer := true } }
    if kind = 1 then h1.holdDrained else h1.pairSend p 0x32 epoch 0 kind

/-- SWAP_READY arrives at the candidate (R454). -/
def Hub.swapReady (h : Hub) (p epoch : Nat) : Hub :=
  match h.pair.swap with
  | some w =>
    if w.candidate ∧ w.epoch = epoch ∧ p ∈ w.awaited then
      ({ h with pair := { h.pair with swap := some { w with awaited := w.awaited.filter (fun q => decide (q ≠ p)), ready := w.ready ++ [p] } } } : Hub).swapDecide
    else h
  | none => h

/-- SWAP_REFUSE arrives at the candidate (R454, R467). -/
def Hub.swapRefuse (h : Hub) (p epoch : Nat) : Hub :=
  let h1 : Hub := { h with pair := { h.pair with heardMax := max h.pair.heardMax epoch } }
  match h1.pair.swap with
  | some w => if w.candidate ∧ p ∈ w.awaited ++ w.ready then h1.swapAbandon (abFailed 3) else h1
  | none => h1

/-- A message of the candidate reaches the swap it belongs to. -/
def Hub.inSwap (h : Hub) (p epoch : Nat) : Bool := match h.pair.swap with
  | some w => !w.candidate && decide (w.port = p) && decide (w.epoch = epoch)
  | none => false

/-- SWAP_COMMIT arrives (R454). -/
def Hub.swapCommit (h : Hub) (p epoch sf : Nat) : Hub :=
  if h.inSwap p epoch then
    { h with pair := { h.pair with swap := h.pair.swap.map (fun w => { w with commitSf := some sf }), prepTimer := false } }
  else h

/-- Block 0 of superframe COMMIT_SF (R454, R457 to R461). -/
def Hub.commitPoint (h : Hub) : Hub :=
  match h.pair.swap with
  | some w =>
    if w.commitSf ≠ some h.links.sf then h
    else
      let h0 := h.swapClear
      let cause := if w.commanded then 1 else 2
      let count (g : Hub) : Hub := { g with
        pair := { g.pair with swaps := trunc 32 (g.pair.swaps + 1), lastCommitSf := h.links.sf, lastCause := cause } }
      if w.candidate then
        let h1 := (count (h0.becomePrimary w.epoch (if w.commanded then 1 else 2) (some h.links.sf))).announceAll
        (((h1.fogOriginate 0x20 (trunc 16 w.epoch)).pairEvent Ev.pairSwapped)).doneOpt w.command 0 (u32 w.epoch ++ u32 h.links.sf)
      else if h0.pairBuoy then (count (h0.buoyTurn w.port w.epoch (some h.links.sf))).announceAll
      else
        let h1 := count (h0.becomeStandby w.epoch (some h.links.sf))
        ({ h1 with pair := { h1.pair with primarySerial := h1.pair.partnerSerial } } : Hub).announceAll
  | none => h

/-- R463: the silence timer expires in silence. -/
def Hub.claim (h : Hub) : Hub :=
  if !h.pair.silenceTimer || decide (h.pair.state ≠ .joining) || !h.standby then h
  else
    let e := 1 + max h.pair.epoch h.pair.heardMax
    let h1 := (h.becomePrimary e 3 none).planEnter (h.val Od.planBootPlan)
    let h2 := if (h1.link 2).state = .init ∨ (h1.link 2).state = .refused then h1.portRetrain 2 none else h1
    ((h2.announceAll).pairEvent Ev.pairClaimed).fogOriginate 0x20 (trunc 16 e)

/-! ### The mirror (R450, R451) -/

/-- A shadow context as its mirror record gives it (R450): ports and maps are this hub's own. -/
def Hub.shadowOf (h : Hub) (i : Nat) (m : CtxImage) : Ctx :=
  let p := (h.targetPort m.farTarget)
  let role : TunRole := if m.role = 0 then .opener else if m.role = 1 then .responder else .transit
  let state : TunState := match m.state with
    | 0 => .closed | 1 => .opening | 2 => .open | 3 => .draining | 4 => .faulted | _ => .free
  { h.ctx i with
    state := state, role := role, kind := m.kind, cls := m.cls, direction := m.direction, isSealed := m.isSealed, maxSeg := m.maxSeg,
    maxSegOld := m.maxSeg, localBind := m.localBind, farBind := m.farBind, farTarget := m.farTarget, farHandle := m.farHandle,
    openerHandle := m.openerHandle, responderHandle := m.responderHandle, hopsOpener := m.hopsOpener, hopsResponder := m.hopsResponder,
    totalHops := m.totalHops, portA := p, indexA := i, portB := 0xFF, indexB := 0xFF,
    peerOpener := if role = .responder then m.farIndex else 0, peerResponder := if role = .opener then m.farIndex else 0,
    towardOpener := p, towardResponder := p, drainLimit := m.drainLimit, openTimeout := m.openTimeout, autoReopen := m.autoReopen,
    tag := m.tag, faultCause := m.faultCause, faultStatus := m.faultStatus, shadow := true }

/-- The STANDBY drops what it holds of the mirror, for a full copy (R451). -/
def Hub.mirrorClear (h : Hub) : Hub :=
  { h with
    tun := { h.tun with ctxs := ⟨h.tun.ctxs.cells.filter (fun c => !c.2.shadow)⟩ },
    dm := { h.dm with slots := h.dm.slots.filter (fun d => !d.shadow) },
    od := ⟨h.od.cells.filter (fun c => !mirroredKey c.1)⟩,
    pair := { h.pair with inStep := false } }

/-- A mirror record is applied at the STANDBY (R450, R451). -/
def Hub.mirrorTake (h : Hub) (r : MirrorRec) : Hub :=
  match r with
  | .context i none => if (h.ctx i).shadow then h.setCtx i Ctx.init else h
  | .context i (some m) =>
    let h1 := h.setCtx i (h.shadowOf i m)
    { h1 with tun := { h1.tun with gens := h1.tun.gens.set 0 i m.gen } }
  | .value key v => h.odMirrored key v
  | .daymark slot none => h.freeSlot slot
  | .daymark slot (some m) =>
    let d : Daymark := ⟨slot, m.1, m.2.1, m.2.2.1, none, if m.2.2.2.2 = 0 then none else some (m.2.2.2.2 - 1), m.2.2.2.1, true, 0, none, none⟩
    let h1 := h.freeSlot slot
    { h1 with dm := { h1.dm with
        slots := h1.dm.slots ++ [d], gens := h1.dm.gens.set 0 slot m.1, nextOrder := max h1.dm.nextOrder (m.2.2.2.1 + 1) } }
  | .lamp l level => h.setLamp l { h.lamp l with mirrored := level }
  | .copyStart => h.mirrorClear
  | .copyDone =>
    let h1 := (List.range 8).foldl (fun h n => h.encModeSet n (h.val (Od.encMode n))) h
    ({ h1 with pair := { h1.pair with inStep := true } } : Hub).pairEvent Ev.mirrorInStep

/-- MIRROR arrives over PLK (R449, R450). -/
def Hub.mirrorRx (h : Hub) (seq : Nat) (r : MirrorRec) : Hub :=
  if h.standby ∧ h.pairMember ∧ h.sysOpen 2 then (((h.mirrorTake r).tally 0x0C01 0 1).emit (.mirrorAck seq)).pairPut 2 0x37 ((Config.mirrorAckData seq).take 1024) else h

/-- MIRROR_ACK arrives: every record up to it is acknowledged (R451). -/
def Hub.mirrorAcked (h : Hub) (seq : Nat) : Hub :=
  if h.pair.unacked.any (fun u => u.1 = seq) then
    let before := h.pair.unacked.takeWhile (fun u => decide (u.1 ≠ seq))
    let rest := h.pair.unacked.drop (before.length + 1)
    let ends := (h.pair.unacked.take (before.length + 1)).flatMap (·.2)
    let h1 := ends.foldl (fun h e => h.runEnd e) ({ h with pair := { h.pair with unacked := rest } } : Hub)
    match rest, h1.pair.resync with
    | [], some n =>
      let c := h1.pair.resyncCommand
      let h2 : Hub := { h1 with pair := { h1.pair with inStep := true, resync := none, resyncCommand := none } }
      (h2.pairEvent Ev.mirrorInStep).doneOpt c 0 (u32 n)
    | _, _ => h1
  else h

/-! ### Commands (R467) -/

/-- PAIR_SWAP (R467). -/
def Hub.cmdPairSwap (h : Hub) (req : Path) (c tag : Nat) (args : Bytes) : Hub :=
  h.issue req c 0x0900 tag args (firstAbort [argLen args 0])
    (firstState [(!h.mode.confirmed, stUnconfirmed), (h.inFog, stFoghorn), (!h.mode.pairConfig, stNotRoot), (h.swapping, stSwap), (!h.running 2, stLinkDown)])
    (fun h => if !h.standby then h.passOn c 0x30 else if !h.pair.inStep then h.done c (abFailed 1) [] else h.swapStart true (some c))

/-- PAIR_RESYNC (R467). -/
def Hub.cmdPairResync (h : Hub) (req : Path) (c tag : Nat) (args : Bytes) : Hub :=
  h.issue req c 0x0901 tag args (firstAbort [argLen args 0])
    (firstState [(!h.mode.pairConfig, stNotRoot), (h.swapping, stSwap), (!h.running 2, stLinkDown)])
    (fun h => if h.standby then h.passOn c 0x30 else h.fullCopy (some c))

/-! ### Meanings -/

/-- ROLE_ANNOUNCE (R449). -/
def execRoleAnnounce (p : Fin 3) (epoch : Word) (role : Byte) (hears : Bool) (strap : Byte) (serial primary : BitVec 64) (s : State) :=
  onHub (fun h => h.roleAnnounce p.val epoch.toNat role.toNat hears strap.toNat serial.toNat primary.toNat) s

/-- SWAP_PREPARE (R454). -/
def execSwapPrepare (p : Fin 3) (epoch : Word) (kind : Byte) (s : State) := onHub (fun h => h.swapPrepare p.val epoch.toNat kind.toNat) s

/-- The holds of a commanded swap have drained (R455). -/
def execSwapHoldDrained (s : State) := onHub Hub.holdDrained s

/-- SWAP_READY (R454). -/
def execSwapReady (p : Fin 3) (epoch : Word) (s : State) := onHub (fun h => h.swapReady p.val epoch.toNat) s

/-- SWAP_REFUSE (R454). -/
def execSwapRefuse (p : Fin 3) (epoch : Word) (s : State) := onHub (fun h => h.swapRefuse p.val epoch.toNat) s

/-- SWAP_COMMIT (R454). -/
def execSwapCommit (p : Fin 3) (epoch sf : Word) (s : State) := onHub (fun h => h.swapCommit p.val epoch.toNat sf.toNat) s

/-- SWAP_ABORT (R454). -/
def execSwapAbort (p : Fin 3) (epoch : Word) (s : State) :=
  onHub (fun h => if h.inSwap p.val epoch.toNat then h.swapAbandon (abFailed 2) else h) s

/-- SWAP_PREP_LIMIT has passed (R454). -/
def execSwapPrepLimitExpiry (s : State) := onHub (fun h => if h.pair.prepTimer then h.swapAbandon (abFailed 2) else h) s

/-- The commit point (R457 to R461). -/
def execCommitPoint (s : State) := onHub Hub.commitPoint s

/-- A mirror record arrives (R450). -/
def execMirror (seq : BitVec 16) (r : MirrorRec) (s : State) := onHub (fun h => h.mirrorRx seq.toNat r) s

/-- MIRROR_ACK arrives (R451). -/
def execMirrorAck (seq : BitVec 16) (s : State) := onHub (fun h => h.mirrorAcked seq.toNat) s

/-- No acknowledgement within 1 ms (R451). -/
def execMirrorTimeout (s : State) := onHub (fun h => if h.pair.unacked = [] then h else h.mirrorLost) s

/-- PAIR_LOSS consecutive superframes without block 0 (R456). -/
def execPairLoss (p : Fin 3) (s : State) := onHub (fun h => h.pairLoss p.val) s

/-- The silence timer has expired (R463). -/
def execPairClaimed (s : State) := onHub Hub.claim s

/-- PAIR_SWAP (R467). -/
def execPairSwap (req : Path) (c : Fin 8) (tag : BitVec 16) (args : Bytes) (s : State) := onCommand 0x0900 req c.val tag.toNat args (fun h => h.cmdPairSwap req c.val tag.toNat args) s

/-- PAIR_RESYNC (R467). -/
def execPairResync (req : Path) (c : Fin 8) (tag : BitVec 16) (args : Bytes) (s : State) := onCommand 0x0901 req c.val tag.toNat args (fun h => h.cmdPairResync req c.val tag.toNat args) s

end Sys2Proof.Machine
end

