-- ==== Sys2Proof/Machine/Superframe.lean ====
section
/-!
DEFINITION. The superframe: its start at this hub with the duties of each superframe, and the BEACON block that arrives
(R127 to R131, R284 to R297).
-/

namespace Sys2Proof.Machine

/-! ### The BEACON block sent (R128, R286, R287) -/

/-- The point of the LIGHTHOUSE for the superframe that starts: VALID bits and low bits. -/
def Hub.ownSample (h : Hub) : Option (Nat × Nat × Nat × Nat) :=
  if h.mode.active ≠ .lighthouse then none
  else
    let f := h.sfFull
    match pointOf f (h.bearing 0).points, pointOf f (h.bearing 1).points, pointOf f (h.bearing 2).points with
    | some g, some a, some b => some (b2n g.2 + 2 * b2n a.2 + 4 * b2n b.2, ofSigned 32 g.1, ofSigned 18 a.1, ofSigned 18 b.1)
    | _, _, _ => none

/-- The BEACON block goes out on a link (R128, R286): on every lane that is not Quiet, and always on logical lane 0 downstream; only
downstream it carries a point. -/
def Hub.beaconSend (h : Hub) (sample : Option (Nat × Nat × Nat × Nat)) (p : Nat) : Hub :=
  let down := h.upEnd p
  let lanes := (h.lanesUp p).filter (fun n => !(h.lane n).txQuiet || (down && decide (h.laneLogical n = 0)))
  lanes.foldl (fun h n => h.blockOn p n (beaconBytes h.links.sf (if down then sample else none))) h

/-- BEACON blocks on every running link, and STATUS after them (R128, R201, R287). -/
def Hub.beaconsOut (h : Hub) : Hub :=
  let sample := if h.isSource then h.ownSample else h.bcn.sample
  (h.runningPorts.foldl (fun h p => h.beaconSend sample p) h).sendStatus

/-- The blocks that R124 deferred to this superframe leave, as far as it allows; the others wait on. -/
def Hub.deferredOut (h : Hub) (p : Nat) : Hub :=
  let x := h.link p
  if !h.running p then h
  else
    let k := h.paceLimit p
    (x.deferred.take k).foldl (fun h b => h.blockOn p b.1 b.2)
      (h.updLink p (fun y => { y with paced := (x.deferred.take k).length, deferred := x.deferred.drop k }))

/-! ### Points (R284, R297) -/

/-- A STANDBY's shadow point of bearing b (R297). -/
def Hub.shadowPoint (h : Hub) (f b : Nat) : Hub :=
  let x := h.bearing b
  let v := x.rate h.clock
  let p := (x.at_ h.clock + v.1 * (3 * sfUnits : Nat) / (v.2 : Int)) / 65536
  h.setBearing b { x with shadow := ((f + 1, p) :: x.shadow).take 4 }

/-- The points a source forms, and the shadow points of a STANDBY. -/
def Hub.pointsForm (h : Hub) : Hub :=
  let f := h.sfFull
  if h.isSource then [0, 1, 2].foldl (fun h b => h.formPoint f b) h
  else if h.standby then [0, 1, 2].foldl (fun h b => h.shadowPoint f b) h
  else h

/-! ### The timebase at a superframe start (R291) -/

/-- A follower's superframe starts: what a missing block 0, or a long HOLDOVER, does. -/
def Hub.sfFollow (h : Hub) (p : Nat) : Hub :=
  let h1 := h.followTurn p
  let h2 : Hub := if h1.bcn.decoded then h1 else { h1 with bcn := { h1.bcn with undecoded := h1.bcn.undecoded + 1 } }
  if h2.bcn.timebase = .locked ∧ !h2.bcn.decoded then h2.enterHoldover
  else if h2.bcn.timebase = .holdover then
    let n := h2.bcn.heldFor + 1
    let h3 : Hub := { h2 with bcn := { h2.bcn with heldFor := n, timebase := if h2.val Od.bcnMaxHoldover ≤ n then .free else .holdover } }
    h3.bearingsMoved h2
  else if h2.bcn.timebase = .acquiring ∧ !h2.bcn.sampleFull then h2.askSample
  else h2

/-- CLOCK at a superframe start that no block 0 has timed (R290, R291). -/
def Hub.sfReach (h : Hub) : Hub :=
  if h.isSource || (!h.bcn.decoded && (decide (h.bcn.timebase = .locked) || decide (h.bcn.timebase = .holdover))) then
    h.reach (h.sfFull * sfUnits + h.offsetS)
  else h

/-- What ends or falls due with a superframe at the pair (R458, R465). -/
def Hub.sfPair (h : Hub) : Hub :=
  let h1 : Hub := { h with pair := { h.pair with moved := h.pair.moved.filter (fun m => sfAhead m.2 h.links.sf), torn := [] } }
  match h1.pair.turnTo with
  | some q => if h1.running q then h1.buoyTurn q h1.pair.heardMax none else { h1 with pair := { h1.pair with turnTo := none } }
  | none => h1

/-- Block 0 of a superframe (R127 to R131, R190, R194, R201, R284, R287, R291, R293). -/
def Hub.superframeStart (h : Hub) : Hub :=
  let sf := (h.links.sf + 1) % 2 ^ 32
  let h1 : Hub := { h with
    links := { h.links with sf := sf },
    bcn := { h.bcn with sfEpoch := if sf = 0 then (h.bcn.sfEpoch + 1) % 2 ^ 32 else h.bcn.sfEpoch } }
  let h2 := h1.sfReach
  let h3 := match h2.followPort with
    | some p => h2.sfFollow p
    | none => h2
  let h4 := ([0, 1, 2].foldl (fun (h : Hub) p => if (h.link p).joining = [] then h else h.updLink p (fun x => { x with joining := [] })) h3).sfPair
  let h5 := ((h4.beaconsOut.runningPorts.foldl Hub.deferredOut h4.beaconsOut).pointsForm).planBoundary
  let h6 := if sf % 64 = 0 then h5.sendCount else h5
  let h7 := h6.probesRun
  { h7 with bcn := { h7.bcn with decoded := false, sample := none } }

/-! ### The BEACON block received (R128, R129, R286 to R289, R291, R294) -/

/-- The error of CLOCK at block 0 of superframe F that has just been decoded (R294): T_F + S - CLOCK, in 0.1 ns. -/
def Hub.servoError (h : Hub) (full : Nat) : Int := ((full * sfUnits + h.offsetS : Nat) : Int) - (h.clock : Int)

/-- The servo at block 0 (R291, R294). -/
def Hub.servo (h : Hub) (p : Nat) (e : Int) : Hub :=
  match h.bcn.timebase with
  | .locked =>
    if 500 < e.natAbs then h.acquire.askSample else { h with bcn := { h.bcn with servo := e, servoRun := 0 } }
  | .holdover => if e.natAbs ≤ 500 then h.enterLocked p else h
  | .acquiring => if h.bcn.slew = 0 then { h with bcn := { h.bcn with correction := some e } } else h
  | .free => h

/-- The shadow difference of a STANDBY (R297). -/
def Hub.shadowJudge (h : Hub) (f : Nat) : Hub :=
  let x := h.bearing 0
  match x.shadow.find? (fun s => decide (s.1 = f)), pointOf f x.points with
  | some s, some q =>
    let d := s.2 - q.1
    let tol := 65536 * h.val Od.bcnShadowTol
    let h1 : Hub := { h with bcn := { h.bcn with shadowDiff := d } }
    if h.bcn.timebase = .locked ∧ tol < (d - h.bcn.shadowRef).natAbs ∧ (h.bcn.shadowDiff - h.bcn.shadowRef).natAbs ≤ tol then
      (h1.flag Rg.bcnFlags 8).fire Ev.shadowDiverge (u8 0)
    else h1
  | _, _ => h

/-- The point of a BEACON block is taken for each bearing (R288). -/
def Hub.pointsTake (h : Hub) (f : Nat) : Option (Nat × Nat × Nat × Nat) → Hub
  | none => h
  | some (v, g, a, b) =>
    let r0 := h.takePoint f 0 g (bit 0 v)
    let r1 := r0.1.takePoint f 1 a (bit 1 v)
    let r2 := r1.1.takePoint f 2 b (bit 2 v)
    let h1 := if r0.2 || r1.2 || r2.2 then r2.1.askSample else r2.1
    if h1.standby then h1.shadowJudge f else h1

/-- A valid BEACON block arrives on link p (R129): the first one of a superframe on the primary upstream link counts. -/
def Hub.beaconRx (h0 : Hub) (p sf : Nat) (sample : Option (Nat × Nat × Nat × Nat)) : Hub :=
  let h := h0.updLink p (fun x => { x with aligned := true })
  if h.followPort ≠ some p ∨ h.bcn.decoded then
    if h.followPort.isNone ∧ h.countPort = some p ∧ sf ≠ (h.links.sf + 1) % 2 ^ 32 then
      ((({ h with links := { h.links with sf := gap 32 sf 1 } } : Hub).planSlip h.links.sf).flag (Rg.linkFlags p) 5).fire Ev.sfSlip (u8 p)
    else h
  else
    let want := (h.links.sf + 1) % 2 ^ 32
    let h1 : Hub := { h with
      bcn := { h.bcn with decoded := true, undecoded := 0, sample := sample },
      pair := { h.pair with lostBy := ⟨[]⟩, split := false } }
    let h2 := if sf = want then h1
      else
        let g : Hub := { h1 with
          links := { h1.links with sf := gap 32 sf 1 }, bcn := { h1.bcn with sfEpoch := ((nearest 32 sf (h.sfFull + 1) - 1) / 2 ^ 32).toNat } }
        let g1 := ((g.planSlip h.links.sf).flag (Rg.linkFlags p) 5).fire Ev.sfSlip (u8 p)
        if g1.bcn.timebase = .locked then g1.acquire.askSample else g1
    let full := h2.sfFull + 1
    let h3 := h2.servo p (h2.servoError full)
    let h4 := h3.pointsTake full sample
    h4.setHears true

/-! ### Meanings -/

/-- SUPERFRAME_START (R128). -/
def execSuperframeStart (s : State) := onHub Hub.superframeStart s

/-- BEACON (R129): it is decoded `lapse` units of 0.1 ns after the command before. -/
def execBeacon (p : Fin 3) (sf : Word) (sample : Bool) (valid : Fin 8) (ground : Word) (shaft0 shaft1 : BitVec 18) (crcOk : Bool)
    (lapse : Word) (s : State) :=
  onHub (fun h => (h.pass lapse.toNat).heard p crcOk (fun h =>
    h.beaconRx p sf.toNat (if sample then some (valid.val, ground.toNat, shaft0.toNat, shaft1.toNat) else none))) s

end Sys2Proof.Machine
end

