-- ==== Sys2Proof/Machine/Tunnels.lean ====
section
/-!
DEFINITION. The tunnel commands and messages (R160 to R174), the timers of chapter 05, and the key agreement at both ends
(R515, R516).
-/

namespace Sys2Proof.Machine

/-! ### Opening at the opener (R160, R515) -/

/-- The opening ends at step 1 of R160, or the key agreement fails: FAULTED with cause 1. -/
def Hub.openFail (h : Hub) (i status faultStatus : Nat) : Hub :=
  h.enterFault i 1 faultStatus status (openData 0 (h.ctx i).portA 0)

/-- Steps 2 on: OPENING, and OPEN_REQ toward the responder. -/
def Hub.openSend (h : Hub) (i : Nat) : Hub :=
  let x := h.ctx i
  let key := if x.isSealed then match h.pairFor x.farTarget with
      | some k => k + 1
      | none => 0
    else 0
  let h1 := (h.startTunnel i).updCtx i (fun y =>
    { y with
      openerHandle := h.handle i, responderHandle := 0, farHandle := 0, peerResponder := 0, sealKey := key,
      indexA := h.linkIndex y.portA i 0 })
  let h2 := h1.startDirections i
  (h2.tunSend i true (.openReq x.kind x.cls x.direction x.isSealed x.maxSeg x.farBind (h.rates i 8))).mirrorCtx i

/-- TUNNEL_OPEN starts (R160): step 1, and for a SEALED tunnel the agreement of R515, during which it is counted (R191). -/
def Hub.openStart (h : Hub) (i : Nat) (c : Option Nat) : Hub :=
  let x := h.ctx i
  let p := h.targetPort x.farTarget
  let n := targetHops x.farTarget
  let h0 := h.updCtx i (fun y =>
    { y with
      command := c, portA := p, towardResponder := p, hopsOpener := 0, hopsResponder := n, totalHops := n, reopenTimer := false })
  if !h0.bindOk i x.kind x.localBind x.maxSeg then h0.openFail i (abFailed 3) (abFailed 3)
  else if !h0.admits i (h0.ctx i) then h0.openFail i abAdmission abAdmission
  else
  let h1 := h0.admitted i
  if x.isSealed && (h1.pairFor x.farTarget).isNone then
    let busy := h1.sec.exchange.any (fun e => decide (e.target = x.farTarget))
    let h2 := h1.updCtx i (fun y => { y with openTimer := true })
    { h2 with
      sec := { h2.sec with
        exchange := h2.sec.exchange ++ [{ target := x.farTarget, ctx := i, reqId := 0, ephemeral := 0, offer := [] }],
        ecc := if busy then h2.sec.ecc else h2.sec.ecc ++ [(.offer i, none)] } }
  else h1.openSend i

/-- The agreement with a target has failed (R515): every tunnel that waits for it faults, and KEY_AGREE_FAIL is raised. -/
def Hub.agreeFail (h : Hub) (target code : Nat) : Hub :=
  let waits := h.sec.exchange.filter (fun e => decide (e.target = target))
  let h1 := { h with sec := { h.sec with exchange := h.sec.exchange.filter (fun e => decide (e.target ≠ target)) } }
  waits.foldl (fun h e => h.openFail e.ctx (abFailed 0x20) code) (h1.fire Ev.keyAgreeFail (u8 target ++ u32 code))

/-- The pair key of a target has been agreed: the tunnels that wait for it go on with step 2. -/
def Hub.agreeDone (h : Hub) (target : Nat) : Hub :=
  let waits := h.sec.exchange.filter (fun e => decide (e.target = target))
  let h1 := { h with sec := { h.sec with exchange := h.sec.exchange.filter (fun e => decide (e.target ≠ target)) } }
  waits.foldl (fun h e => h.openSend e.ctx) h1

/-! ### Commands (R173, R174) -/

/-- The HANDLE argument: 0x0000 and a transit are faulty (R173), a stale one comes last. -/
def Hub.handleArg (h : Hub) (hd : Nat) (between : List (Bool × Abort)) : List (Bool × Abort) :=
  [(decide (hd = 0) || (h.cmdLive hd && decide ((h.ctx (hd % 256)).role = .transit)), abArg 4)] ++ between ++ [(!h.cmdLive hd, abStale)]

/-- CLASS that a kind takes (R147). -/
def classOk (kind cls : Nat) : Bool := if kind = 7 then decide (cls = 0) else decide (1 ≤ cls) && decide (cls ≤ 7)

/-- A binding is valid under R148 and R149 for a kind: its port runs, the kind permits it, a service accepts it. -/
def Hub.bindNamed (h : Hub) (kind bind : Nat) : Bool :=
  let c := portCode bind
  endOk kind c && h.portRuns c && (decide (c ≠ 0x90) || (decide (selector bind / 256 = 0) && bit kind (h.service (selector bind))))

/-- The argument checks of TUNNEL_CREATE. -/
def Hub.createArgs (h : Hub) (a : Bytes) : Option Abort :=
  let kind := field a 0 1
  let dir := field a 2 1
  let flags := field a 3 1
  let target := field a 4 1
  let seg := field a 6 2
  let bind := field a 8 4
  let c := portCode bind
  firstAbort [argLen a 24, (decide (kind = 0 ∨ 9 < kind), abArg 4), (!classOk kind (field a 1 1), abArg 5),
    (decide (2 < dir ∨ (kind = 1 ∧ dir = 0)) || (decide (kind = 1) && ((isCsi c && decide (dir ≠ 1)) || (isDsi c && decide (dir ≠ 2)))), abArg 6),
    (decide (3 < flags), abArg 7),
    ((h.route target).isNone || (decide (target = 0x30) && decide (h.mode.active = .lighthouse)), abArg 8),
    (decide (field a 5 1 ≠ 0), abArg 9), (decide (seg < 28 ∨ (if bit 0 flags then 2024 else 2048) < seg), abArg 10),
    (!h.bindNamed kind bind, abArg 12), (!endsOk kind c (portCode (field a 12 4)), abArg 16),
    (decide (field a 16 2 = 0 ∨ 10000 < field a 16 2), abArg 20), (decide (field a 18 2 < 10 ∨ 5000 < field a 18 2), abArg 22)]

/-- A context is allocated as an opener in CLOSED (R155, R175, R196). -/
def Hub.createCtx (h : Hub) (i : Nat) (a : Bytes) : Hub :=
  let h1 := h.advanceGen i
  let target := field a 4 1
  let p := h.targetPort target
  let x : Ctx := { Ctx.init with
    state := .closed, role := .opener, kind := field a 0 1, cls := field a 1 1, direction := field a 2 1,
    isSealed := bit 0 (field a 3 1), autoReopen := bit 1 (field a 3 1), farTarget := target, maxSeg := field a 6 2,
    maxSegOld := field a 6 2, localBind := field a 8 4, farBind := field a 12 4, drainLimit := field a 16 2,
    openTimeout := field a 18 2, tag := field a 20 4, openerHandle := h1.handle i, portA := p, indexA := h1.linkIndex p i 0,
    portB := 0xFF, indexB := 0xFF, towardResponder := p, hopsResponder := targetHops target, totalHops := targetHops target,
    lastChange := h.links.sf }
  (((h1.setCtx i x).dropDeferred i).openerPlan i 8).mirrorCtx i

/-- FOGHORN keeps the tunnels as they stood: SWITCH is not on (R23). -/
def Hub.fogKeeps (h : Hub) : Bool := h.inFog && !h.domOn 2

/-- TUNNEL_CREATE, code 0x0300. -/
def Hub.cmdTunnelCreate (h : Hub) (req : Path) (c tag : Nat) (args : Bytes) : Hub :=
  h.issue req c 0x0300 tag args (h.createArgs args) (firstState [(h.fogKeeps, stFoghorn), (h.standby, stNotRoot)])
    (fun h => match h.freeIndex with
      | none => h.finish c abNoResource []
      | some i =>
        let h1 := h.createCtx i args
        h1.doneMirrored (some c) 0 (u16 (h1.handle i)))

/-- A swap is in progress at a root (R453). -/
def Hub.rootSwap (h : Hub) : Bool := h.swapping && h.isRoot

/-- The states that refuse TUNNEL_OPEN (R62, R173, R452, R453). -/
def Hub.openStates (h : Hub) (i : Nat) : Option Nat :=
  let x := h.ctx i
  firstState [(!h.mode.confirmed, stUnconfirmed), (h.inFog, stFoghorn), (h.standby, stNotRoot), (h.rootSwap, stSwap),
    (h.plan.pending.isSome, stPlanSwitch), (!h.running (h.targetPort x.farTarget), stLinkDown),
    (decide (x.state ≠ .closed ∧ x.state ≠ .faulted) || decide (x.role ≠ .opener) || x.command.isSome, x.state.named)]

/-- TUNNEL_OPEN, code 0x0301. -/
def Hub.cmdTunnelOpen (h : Hub) (req : Path) (c tag : Nat) (args : Bytes) : Hub :=
  let hd := field args 0 2
  h.issue req c 0x0301 tag args (firstAbort (argLen args 2 :: h.handleArg hd [])) (h.openStates (hd % 256))
    (fun h => h.openStart (hd % 256) (some c))

/-- The states that refuse TUNNEL_CLOSE. -/
def Hub.closeStates (h : Hub) (i : Nat) : Option Nat :=
  let x := h.ctx i
  firstState [(h.fogKeeps, stFoghorn), (h.standby, stNotRoot), (h.rootSwap, stSwap),
    (decide (x.state ≠ .open ∧ x.state ≠ .faulted) || (decide (x.state = .faulted) && x.command.isSome), x.state.named)]

/-- TUNNEL_CLOSE starts (R164): from OPEN by draining, from FAULTED at once. -/
def Hub.closeStart (h : Hub) (i : Nat) (c : Option Nat) : Hub :=
  if (h.ctx i).state = .faulted then (h.leaveDraining i).doneMirrored c 0 (u32 0)
  else ((h.enterDraining i).updCtx i (fun x => { x with command := c })).drainProgress i

/-- TUNNEL_CLOSE, code 0x0302. -/
def Hub.cmdTunnelClose (h : Hub) (req : Path) (c tag : Nat) (args : Bytes) : Hub :=
  let hd := field args 0 2
  h.issue req c 0x0302 tag args (firstAbort (argLen args 2 :: h.handleArg hd [])) (h.closeStates (hd % 256))
    (fun h => h.closeStart (hd % 256) (some c))

/-- TUNNEL_DESTROY acts (R167): the queued cells go, TEARDOWN with cause 4, the context is freed; a command that ran on it ends
with CANCELLED (R62). The second part is the number of cells discarded. -/
def Hub.destroyCtx (h : Hub) (i : Nat) : Hub × Nat :=
  let x := h.ctx i
  if !x.busy then ((h.freeCtx i).endTunCommand x.command abCancelled [], 0)
  else
    let r := h.purge i
    let h1 := r.1.tunToFar i (.teardown 4)
    let h2 := if x.state = .open ∨ x.state = .draining then h1.portLeave i else h1
    ((h2.freeCtx i).endTunCommand x.command abCancelled [], r.2)

/-- TUNNEL_DESTROY, code 0x0303. -/
def Hub.cmdTunnelDestroy (h : Hub) (req : Path) (c tag : Nat) (args : Bytes) : Hub :=
  let hd := field args 0 2
  h.issue req c 0x0303 tag args (firstAbort (argLen args 2 :: h.handleArg hd []))
    (firstState [(h.fogKeeps, stFoghorn), (h.standby, stNotRoot)])
    (fun h =>
      let r := h.destroyCtx (hd % 256)
      r.1.doneMirrored (some c) 0 (u32 r.2))

/-- The argument checks of TUNNEL_MODIFY between the handle and its staleness (R174). -/
def Hub.modifyArgs (h : Hub) (a : Bytes) : List (Bool × Abort) :=
  let x := h.ctx (field a 0 2 % 256)
  let live := h.cmdLive (field a 0 2)
  let cls := field a 2 1
  let seg := field a 4 2
  let lim := field a 6 2
  let resp := live && decide (x.role = .responder)
  [(decide (cls ≠ 0xFF) && (decide (7 < cls) || (live && !classOk x.kind cls) || (resp && decide (cls ≠ x.clsNow))), abArg 6),
   (decide (1 < field a 3 1 ∧ field a 3 1 ≠ 0xFF), abArg 7),
   (decide (seg ≠ 0) && (decide (seg < 28 ∨ 2048 < seg) || (live && x.isSealed && decide (2024 < seg)) || (resp && decide (seg ≠ x.maxSeg))), abArg 8),
   (decide (10000 < lim), abArg 10)]

/-- TUNNEL_MODIFY acts (R171). -/
def Hub.modifyStart (h : Hub) (i : Nat) (a : Bytes) (c : Nat) : Hub :=
  let x := h.ctx i
  let cls := if field a 2 1 = 0xFF then x.clsNow else field a 2 1
  let seg := if field a 4 2 = 0 then x.maxSeg else field a 4 2
  let h1 := h.updCtx i (fun y =>
    { y with
      autoReopen := if field a 3 1 = 0xFF then y.autoReopen else decide (field a 3 1 = 1),
      drainLimit := if field a 6 2 = 0 then y.drainLimit else field a 6 2, tag := field a 8 4 })
  if cls = x.clsNow ∧ seg = x.maxSeg then (h1.mirrorCtx i).doneMirrored (some c) 0 []
  else if x.state = .closed then
    let h2 := (h1.updCtx i (fun y => { y with cls := cls, maxSeg := seg, maxSegOld := seg })).clsReclass (h.handle i) cls h.sw.cls.cells
    (h2.mirrorCtx i).doneMirrored (some c) 0 []
  else
    let h2 := h1.updCtx i (fun y => { y with modifying := true, openTimer := true, command := some c })
    ((h2.applyModify i cls seg).tunSend i true (.modifyReq cls seg)).mirrorCtx i

/-- TUNNEL_MODIFY, code 0x0304. -/
def Hub.cmdTunnelModify (h : Hub) (req : Path) (c tag : Nat) (args : Bytes) : Hub :=
  let hd := field args 0 2
  let x := h.ctx (hd % 256)
  h.issue req c 0x0304 tag args (firstAbort (argLen args 12 :: h.handleArg hd (h.modifyArgs args)))
    (firstState [(h.fogKeeps, stFoghorn), (h.standby, stNotRoot), (h.rootSwap, stSwap),
      (decide (x.state ≠ .open ∧ x.state ≠ .closed) || x.command.isSome, x.state.named)])
    (fun h => h.modifyStart (hd % 256) args c)

/-! ### OPEN_REQ (R161, R162) -/

/-- The fields of OPEN_REQ (R158). -/
structure OpenReq where
  kind : Nat
  cls : Nat
  direction : Nat
  isSealed : Bool
  maxSeg : Nat
  farBind : Nat
  rates : List (Nat × Nat)
  deriving DecidableEq, Repr

/-- The hub refuses an opening: OPEN_ACK with a STATUS toward the opener (R162). -/
def Hub.openRefuse (h : Hub) (p : Nat) (m : TunMsg) (status : Nat) : Hub :=
  h.tunOut p
    { m with
      hopsLeft := m.totalHops + 1 - m.hopsLeft, originDepth := BitVec.ofNat 8 h.links.hopDepth, direction := h.directionOf p,
      status := status, responderHandle := 0, hopIndex := 0, peerIndex := m.hopIndex,
      refuserDepth := BitVec.ofNat 8 h.links.hopDepth, op := .openAck }

/-- The first of checks 1 to 4 of R161 that fails. -/
def Hub.openChecks (h : Hub) (relay : Bool) : Option Abort :=
  firstAbort [(!relay && decide (h.val Od.remoteRemoteEnable = 0), abDenied), (!h.mode.confirmed, abState stUnconfirmed),
    (h.standby, abState stNotRoot), (h.plan.pending.isSome, abState stPlanSwitch),
    (h.freeIndex.isNone || (relay && decide (h.val Od.tunTransitLimit ≤ h.transits)), abNoResource)]

/-- The transit context of a relay for a request from port p that goes on by port o (R160). -/
def Hub.relayCtx (h : Hub) (p o i : Nat) (m : TunMsg) (q : OpenReq) : Ctx :=
  let down := h.mapPort p
  let far := m.hopIndex.toNat
  { Ctx.init with
    state := .opening, role := .transit, kind := q.kind, cls := q.cls, direction := q.direction, isSealed := q.isSealed,
    maxSeg := q.maxSeg, maxSegOld := q.maxSeg, openTimeout := h.val Od.tunRespOpenTimeout, openerHandle := m.openerHandle.toNat,
    portA := if down then p else o, indexA := if down then far else 0, portB := if down then o else p, indexB := i,
    towardOpener := p, towardResponder := o, peerOpener := far, hopsOpener := m.totalHops + 1 - m.hopsLeft,
    hopsResponder := m.hopsLeft - 1, totalHops := m.totalHops }

/-- The hub with the transit context and its RATES in place (R191, R196). -/
def Hub.relayPlace (h : Hub) (p i : Nat) (x : Ctx) (q : OpenReq) : Hub :=
  let toResp := decide (q.direction ≠ 2)
  let toOp := decide (q.direction ≠ 1)
  let h1 := ((h.advanceGen i).setCtx i x).dropDeferred i
  if h.mapPort p then h1.takeRates i false toResp toOp 0 q.rates
  else h1.takeRates i false toOp toResp 0 (q.rates.map (fun r => (r.2, r.1)))

/-- A relay allocates a transit context and forwards the request, or refuses it (R160, R161). -/
def Hub.openRelay (h : Hub) (p : Nat) (m : TunMsg) (q : OpenReq) : Hub :=
  match h.openChecks true, h.freeIndex, h.onward m.direction with
  | some a, _, _ => h.openRefuse p m a
  | none, none, _ => h.openRefuse p m abNoResource
  | none, some _, none => h.openRefuse p m abNoRoute
  | none, some i, some o =>
    if !h.sysOpen o then h.openRefuse p m abNoRoute
    else
      let x := h.relayCtx p o i m q
      let h2 := h.relayPlace p i x q
      if !h2.admits i x then h.openRefuse p m abAdmission
      else
        let h3 := (((h2.startTunnel i).admitted i).writeMap p m.hopIndex.toNat i).mirrorCtx i
        h3.tunForward i true m

/-- The responder's context for a request from port p (R160, R516). -/
def Hub.answerCtx (h : Hub) (p i : Nat) (m : TunMsg) (q : OpenReq) : Ctx :=
  let far := m.hopIndex.toNat
  let target := h.targetFrom p m.totalHops
  { Ctx.init with
    state := .opening, role := .responder, kind := q.kind, cls := q.cls,
    direction := if q.direction = 1 then 2 else if q.direction = 2 then 1 else 0, isSealed := q.isSealed,
    maxSeg := q.maxSeg, maxSegOld := q.maxSeg, localBind := q.farBind, farTarget := target, farHandle := m.openerHandle.toNat,
    openerHandle := m.openerHandle.toNat, portA := p, indexA := h.linkIndex p i far, portB := 0xFF, indexB := 0xFF,
    towardOpener := p, peerOpener := far, hopsOpener := m.totalHops, totalHops := m.totalHops,
    drainLimit := h.val Od.tunRespDrainLimit, openTimeout := h.val Od.tunRespOpenTimeout,
    sealKey := match q.isSealed, h.pairFor target with
      | true, some k => k + 1
      | _, _ => 0 }

/-- The hub with the responder's context and its RATES in place (R191, R196). -/
def Hub.answerPlace (h : Hub) (i : Nat) (x : Ctx) (q : OpenReq) : Hub :=
  (((h.advanceGen i).setCtx i x).dropDeferred i).takeRates i true (decide (q.direction ≠ 1)) (decide (q.direction ≠ 2)) 0
    (q.rates.map (fun r => (r.2, r.1)))

/-- The responder allocates its context and answers, or refuses (R160, R161, R518). -/
def Hub.openAnswer (h : Hub) (p : Nat) (m : TunMsg) (q : OpenReq) : Hub :=
  match h.openChecks false, h.freeIndex with
  | some a, _ => h.openRefuse p m a
  | none, none => h.openRefuse p m abNoResource
  | none, some i =>
    let x := h.answerCtx p i m q
    if !h.bindOk i q.kind q.farBind q.maxSeg then h.openRefuse p m (abFailed 3)
    else if q.isSealed && (h.pairFor (h.targetFrom p m.totalHops)).isNone then h.openRefuse p m (abFailed 0x20)
    else
      let h2 := h.answerPlace i x q
      if !h2.admits i x then h.openRefuse p m abAdmission
      else
        let h3 := (h2.startTunnel i).updCtx i (fun y => { y with responderHandle := h2.handle i })
        let h4 := ((h3.startDirections i).admitted i).writeMap p m.hopIndex.toNat i
        let h5 := if q.kind = 7 then h4.put (Od.safSafetyCfg i) (h.val Od.safSafetyDefault) else h4
        (h5.tunSend i false .openAck).mirrorCtx i

/-- OPEN_REQ arrives (R161). -/
def Hub.openReq (h : Hub) (p : Nat) (m : TunMsg) : Hub :=
  match m.op with
  | .openReq kind cls direction sealed_ maxSeg farBind rates =>
    let q : OpenReq := ⟨kind, cls, direction, sealed_, maxSeg, farBind, rates⟩
    if 1 < m.hopsLeft then h.openRelay p m q else h.openAnswer p m q
  | _ => h.tunUnmatched

/-- The pair key that an opener holds and its responder does not is discarded (R518). -/
def Hub.pairStale (h : Hub) (status target : Nat) : Hub :=
  if status = abFailed 0x20 then h.discardPairs (fun t => decide (t = target)) else h

/-- OPEN_ACK arrives (R160, R162). -/
def Hub.openAck (h : Hub) (p : Nat) (m : TunMsg) : Hub :=
  match h.tunFind p m with
  | none => h.tunUnmatched
  | some i =>
    let x := h.ctx i
    let far := m.hopIndex.toNat
    if x.state ≠ .opening ∨ p ≠ x.towardResponder then h.tunUnmatched
    else if x.role = .transit then
      if m.status ≠ 0 then (h.tunForward i false m).freeCtx i
      else
        let h1 := (h.updCtx i (fun y =>
          { y with
            peerResponder := far, responderHandle := m.responderHandle.toNat,
            indexA := if h.mapPort p then far else y.indexA })).writeMap p far i
        h1.tunForward i false m
    else if x.role ≠ .opener then h.tunUnmatched
    else if m.status ≠ 0 then
      (h.pairStale m.status x.farTarget).enterFault i 1 m.status m.status (openData 0 x.portA m.refuserDepth.toNat)
    else
      let h1 := h.updCtx i (fun y =>
        { y with
          peerResponder := far, responderHandle := m.responderHandle.toNat, farHandle := m.responderHandle.toNat, command := none,
          indexA := h.linkIndex p i far })
      let h2 := ((h1.writeMap p far i).enterOpen i).tunSend i true .openConfirm
      h2.doneMirrored x.command 0 (openData m.responderHandle.toNat x.portA 0)

/-- OPEN_CONFIRM arrives (R160). -/
def Hub.openConfirm (h : Hub) (p : Nat) (m : TunMsg) : Hub :=
  match h.tunFind p m with
  | none => h.tunUnmatched
  | some i =>
    let x := h.ctx i
    if x.state ≠ .opening ∨ p ≠ x.towardOpener ∨ x.role = .opener then h.tunUnmatched
    else
      let h1 := h.enterOpen i
      if x.role = .transit then h1.tunForward i true m else h1

/-- CLOSE_REQ or CLOSE_ACK arrives with its CELLS_SENT (R164, R165). -/
def Hub.closeMsg (h : Hub) (p : Nat) (m : TunMsg) (sent : Nat) (isReq : Bool) : Hub :=
  match h.tunFind p m with
  | none => h.tunUnmatched
  | some i =>
    let x := h.ctx i
    if x.state ≠ .open ∧ x.state ≠ .draining then h.tunUnmatched
    else if x.role = .transit then
      let down := decide (p = x.towardOpener)
      let h1 := if x.state = .open then h.enterDraining i else h
      let h2 := h1.updCtx i (fun y => if down then { y with sentDown := some sent } else { y with sentUp := some sent })
      (h2.tunForward i down m).transitDrained i
    else if x.state = .draining then h.updCtx i (fun y => { y with farSent := some sent })
    else if !isReq then h.tunUnmatched
    else ((h.enterDraining i).updCtx i (fun y => { y with farSent := some sent, closeReply := true })).drainProgress i

/-- TEARDOWN arrives (R155, R165, R167). -/
def Hub.teardown (h : Hub) (p : Nat) (m : TunMsg) (cause : Nat) : Hub :=
  match h.tunFind p m with
  | none => h.tunUnmatched
  | some i =>
    let x := h.ctx i
    if x.role = .transit then
      let h1 := (h.purge i).1
      (h1.tunForward i (decide (p = x.towardOpener)) m).enterFault i cause 0 0 []
    else if x.state = .draining then
      let r := h.purge i
      let h1 := (r.1.updCtx i (fun y => { y with command := none })).leaveDraining i
      h1.doneMirrored x.command (if r.2 = 0 then 0 else abFailed 2) (u32 r.2)
    else h.enterFault i cause 0 x.cutStatus x.cutData

/-- MODIFY_REQ arrives (R171). -/
def Hub.modifyReq (h : Hub) (p : Nat) (m : TunMsg) (cls maxSeg : Nat) : Hub :=
  match h.tunFind p m with
  | none => h.tunUnmatched
  | some i =>
    let x := h.ctx i
    if x.state ≠ .open ∨ x.role = .opener ∨ p ≠ x.towardOpener then h.tunUnmatched
    else
      let h1 := (h.applyModify i cls maxSeg).mirrorCtx i
      if x.role = .transit then h1.tunForward i true m
      else (h1.updCtx i (fun y => { y with maxSegOld := maxSeg })).tunSend i false .modifyAck

/-- MODIFY_ACK arrives (R171). -/
def Hub.modifyAck (h : Hub) (p : Nat) (m : TunMsg) : Hub :=
  match h.tunFind p m with
  | none => h.tunUnmatched
  | some i =>
    let x := h.ctx i
    if x.state ≠ .open ∨ x.role = .responder ∨ p ≠ x.towardResponder then h.tunUnmatched
    else
      let h1 := h.updCtx i (fun y => { y with maxSegOld := y.maxSeg })
      if x.role = .transit then h1.tunForward i false m
      else if !x.modifying then h.tunUnmatched
      else (h1.updCtx i (fun y => { y with modifying := false, openTimer := false, command := none })).doneMirrored x.command 0 []

/-! ### Timers -/

/-- OPEN_TIMEOUT of context i expires (R155, R163, R171, R515). -/
def Hub.openTimeout (h : Hub) (i : Nat) : Hub :=
  let x := h.ctx i
  if !x.openTimer then h
  else if h.sec.exchange.any (fun e => decide (e.ctx = i)) then
    let h1 := { h with sec := { h.sec with exchange := h.sec.exchange.filter (fun e => decide (e.ctx ≠ i)) } }
    (h1.fire Ev.keyAgreeFail (u8 x.farTarget ++ u32 (abFailed 0x20))).openFail i (abFailed 0x20) (abFailed 0x20)
  else if x.state = .opening then
    if x.role = .opener then (h.tunSend i true (.teardown 2)).enterFault i 2 0 abRemoteTimeout (openData 0 x.portA 0)
    else (h.purge i).1.freeCtx i
  else if x.state = .open ∧ x.modifying then (h.tunSend i true (.teardown 2)).enterFault i 2 0 abRemoteTimeout []
  else h

/-- DRAIN_COMPLETE of an end (R164). -/
def Hub.drainComplete (h : Hub) (i : Nat) : Hub :=
  if h.drained i then
    ((h.updCtx i (fun y => { y with command := none })).leaveDraining i).doneMirrored (h.ctx i).command 0 (u32 0)
  else h

/-- DRAIN_LIMIT of an end expires (R166). -/
def Hub.drainLimit (h : Hub) (i : Nat) : Hub :=
  let x := h.ctx i
  if x.state ≠ .draining ∨ !x.drainTimer then h
  else
    let r := h.purge i
    let h1 := r.1.tunToFar i (.teardown 4)
    ((h1.updCtx i (fun y => { y with command := none })).leaveDraining i).doneMirrored x.command (abFailed 1) (u32 r.2)

/-- An opener whose reopen is due reopens (R170). -/
def Hub.tunnelReopen (h : Hub) (i : Nat) : Hub :=
  let x := h.ctx i
  if x.state = .faulted ∧ x.role = .opener ∧ x.reopenTimer ∧ !x.shadow ∧ x.command.isNone ∧ h.plan.pending.isNone ∧ !h.inFog ∧
      h.sysOpen (h.targetPort x.farTarget) then
    (h.tunEvent Ev.tunnelReopen i .faulted).openStart i none
  else h

/-! ### The key agreement (R515, R516) -/

/-- The ECC engine has made the offer of a tunnel: it leaves toward the far hub. -/
def Hub.offerMade (h : Hub) (i : Nat) : Hub :=
  let target := (h.ctx i).farTarget
  if !h.sec.exchange.any (fun e => decide (e.ctx = i)) then h
  else if !h.drawOk then h.agreeFail target abRandom
  else match h.useSlot 2 2 0 with
    | (h0, some a) => h0.agreeFail target a
    | (h0, none) =>
      let d := h0.draw
      let e := d.1.draw
      let eph := toScalar d.2
      let data := e.1.keyData eph (leBytes 16 e.2) []
      let id := e.1.ctl.nextReqId
      let h1 := { e.1 with
        ctl := { e.1.ctl with nextReqId := (id + 1) % 65536 },
        sec := { e.1.sec with exchange := e.1.sec.exchange.map (fun x =>
          if x.ctx = i then { x with reqId := id, ephemeral := eph, offer := data } else x) } }
      match h.route target with
      | some (some p, direction, hops) =>
        h1.sysOut p
          { reqId := BitVec.ofNat 16 id, op := 0x40, hopsLeft := hops, index := 0, sub := 0, direction := direction,
            originDepth := BitVec.ofNat 8 h.links.hopDepth, status := 0, data := data }
      | _ => h1

/-- The answer to an offer that came by port p: KEY_ANSWER or KEY_REFUSE. -/
def Hub.keyReply (h : Hub) (p : Nat) (m : SysMsg) (op : Byte) (data : Bytes) : Hub :=
  h.sysOut p
    { reqId := m.reqId, op := op, hopsLeft := if p = 2 then 1 else h.hopsTo m.originDepth.toNat, index := 0, sub := 0,
      direction := h.directionOf p, originDepth := m.originDepth, status := 0, data := data }

/-- The ECC engine has done its part for an offer: it is refused or answered, and the pair key is derived. -/
def Hub.offerAnswered (h : Hub) (p : Nat) (m : SysMsg) : Hub :=
  let target := h.targetFrom p (if p = 2 then 1 else h.hopsTo m.originDepth.toNat)
  let room := decide (2 ≤ (h.freePairSlots).length) || (h.pairFor target).isSome
  if m.data.length ≠ 216 ∨ !h.keyOk m.data [] then h.keyReply p m 0x42 (u32 abDenied)
  else if !room then h.keyReply p m 0x42 (u32 abNoResource)
  else if !h.drawOk then h.keyReply p m 0x42 (u32 abRandom)
  else match h.useSlot 2 2 0 with
    | (h0, some a) => h0.keyReply p m 0x42 (u32 a)
    | (h0, none) =>
      let d := h0.draw
      let e := d.1.draw
      let eph := toScalar d.2
      let data := e.1.keyData eph (leBytes 16 e.2) (keySigned m.data)
      (e.1.installPair target false (pairOut eph m.data m.data data)).keyReply p m 0x41 data

/-- The ECC engine has verified an answer: the pair key is derived, or the agreement fails. -/
def Hub.answerTaken (h : Hub) (i : Nat) (data : Bytes) : Hub :=
  match h.sec.exchange.find? (fun e => decide (e.ctx = i)) with
  | none => h
  | some e =>
    if data.length ≠ 216 ∨ !h.keyOk data (keySigned e.offer) then h.agreeFail e.target abDenied
    else if (h.freePairSlots).length < 2 ∧ (h.pairFor e.target).isNone then h.agreeFail e.target abNoResource
    else if !h.drawOk then h.agreeFail e.target abRandom
    else (h.installPair e.target true (pairOut e.ephemeral data e.offer data)).agreeDone e.target

/-- A key message with hops left is relayed; an offer that can go no further is refused with NO_ROUTE (R55). -/
def Hub.keyRelay (h : Hub) (p : Nat) (m : SysMsg) : Hub :=
  let stop := if m.op = 0x40 then h.keyReply p m 0x42 (u32 abNoRoute) else h
  match h.onward m.direction with
  | some o => if h.sysOpen o then h.sysOut o { m with hopsLeft := m.hopsLeft - 1 } else stop
  | none => stop

/-- The exchange that a reply answers, by its REQ_ID. -/
def Hub.exchangeOf (h : Hub) (m : SysMsg) : Option Exchange :=
  h.sec.exchange.find? (fun e => decide (e.offer ≠ []) && decide (e.reqId = m.reqId.toNat))

/-- An operation joins the ECC engine's queue (R512). -/
def Hub.eccQueue (h : Hub) (op : EccOp) (c : Option Nat) : Hub := { h with sec := { h.sec with ecc := h.sec.ecc ++ [(op, c)] } }

/-! ### Meanings -/

/-- TUNNEL_CREATE as its own row. -/
def execTunnelCreate (req : Path) (c : Fin 8) (tag : BitVec 16) (args : Bytes) (s : State) :=
  onCommand 0x0300 req c tag.toNat args (fun h => h.cmdTunnelCreate req c tag.toNat args) s
/-- TUNNEL_OPEN as its own row. -/
def execTunnelOpen (req : Path) (c : Fin 8) (tag : BitVec 16) (args : Bytes) (s : State) :=
  onCommand 0x0301 req c tag.toNat args (fun h => h.cmdTunnelOpen req c tag.toNat args) s
/-- TUNNEL_CLOSE as its own row. -/
def execTunnelClose (req : Path) (c : Fin 8) (tag : BitVec 16) (args : Bytes) (s : State) :=
  onCommand 0x0302 req c tag.toNat args (fun h => h.cmdTunnelClose req c tag.toNat args) s
/-- TUNNEL_DESTROY as its own row. -/
def execTunnelDestroy (req : Path) (c : Fin 8) (tag : BitVec 16) (args : Bytes) (s : State) :=
  onCommand 0x0303 req c tag.toNat args (fun h => h.cmdTunnelDestroy req c tag.toNat args) s
/-- TUNNEL_MODIFY as its own row. -/
def execTunnelModify (req : Path) (c : Fin 8) (tag : BitVec 16) (args : Bytes) (s : State) :=
  onCommand 0x0304 req c tag.toNat args (fun h => h.cmdTunnelModify req c tag.toNat args) s

/-- OPEN_REQ (R161). -/
def execOpenReq (p : Fin 3) (m : TunMsg) (s : State) := onHub (fun h => h.openReq p m) s
/-- OPEN_ACK (R160). -/
def execOpenAck (p : Fin 3) (m : TunMsg) (s : State) := onHub (fun h => h.openAck p m) s
/-- OPEN_CONFIRM (R160). -/
def execOpenConfirm (p : Fin 3) (m : TunMsg) (s : State) := onHub (fun h => h.openConfirm p m) s
/-- CLOSE_REQ (R164). -/
def execCloseReq (p : Fin 3) (m : TunMsg) (s : State) :=
  onHub (fun h => match m.op with
    | .closeReq n => h.closeMsg p m n true
    | _ => h.tunUnmatched) s
/-- CLOSE_ACK (R164). -/
def execCloseAck (p : Fin 3) (m : TunMsg) (s : State) :=
  onHub (fun h => match m.op with
    | .closeAck n => h.closeMsg p m n false
    | _ => h.tunUnmatched) s
/-- TEARDOWN (R167). -/
def execTeardown (p : Fin 3) (m : TunMsg) (s : State) :=
  onHub (fun h => match m.op with
    | .teardown cause => h.teardown p m cause
    | _ => h.tunUnmatched) s
/-- MODIFY_REQ (R171). -/
def execModifyReq (p : Fin 3) (m : TunMsg) (s : State) :=
  onHub (fun h => match m.op with
    | .modifyReq cls seg => h.modifyReq p m cls seg
    | _ => h.tunUnmatched) s
/-- MODIFY_ACK (R171). -/
def execModifyAck (p : Fin 3) (m : TunMsg) (s : State) := onHub (fun h => h.modifyAck p m) s
/-- OPEN_TIMEOUT (R163). -/
def execOpenTimeout (i : Byte) (s : State) := onHub (fun h => h.openTimeout i.toNat) s
/-- DRAIN_COMPLETE (R164). -/
def execDrainComplete (i : Byte) (s : State) := onHub (fun h => h.drainComplete i.toNat) s
/-- DRAIN_LIMIT_EXPIRY (R166). -/
def execDrainLimitExpiry (i : Byte) (s : State) := onHub (fun h => h.drainLimit i.toNat) s
/-- RESP_FAULT_HOLD_EXPIRY (R169). -/
def execRespFaultHoldExpiry (i : Byte) (s : State) :=
  onHub (fun h => if (h.ctx i.toNat).state = .faulted ∧ (h.ctx i.toNat).holdTimer then h.freeCtx i.toNat else h) s
/-- TUNNEL_REOPEN (R170). -/
def execTunnelReopen (i : Byte) (s : State) := onHub (fun h => h.tunnelReopen i.toNat) s

/-- KEY_OFFER (R515): relayed, or verified by the ECC engine. -/
def execKeyOffer (p : Fin 3) (m : SysMsg) (s : State) :=
  onHub (fun h => if 1 < m.hopsLeft then h.keyRelay p m else h.eccQueue (.reply p m) none) s
/-- KEY_ANSWER (R516): relayed, or verified by the ECC engine. -/
def execKeyAnswer (p : Fin 3) (m : SysMsg) (s : State) :=
  onHub (fun h => if 1 < m.hopsLeft then h.keyRelay p m
    else match h.exchangeOf m with
      | some e => if h.targetPort e.target = p then h.eccQueue (.agree e.ctx m.data) none else h.tunUnmatched
      | none => h.tunUnmatched) s
/-- KEY_REFUSE (R515). -/
def execKeyRefuse (p : Fin 3) (m : SysMsg) (s : State) :=
  onHub (fun h => if 1 < m.hopsLeft then h.keyRelay p m
    else match h.exchangeOf m with
      | some e => if h.targetPort e.target = p then h.agreeFail e.target (field m.data 0 4) else h.tunUnmatched
      | none => h.tunUnmatched) s

end Sys2Proof.Machine
end

