-- ==== Sys2Proof/Machine/Daymarks.lean ====
section
/-!
DEFINITION. Daymarks: posting, crossing and firing, cancelling, the messages of a LAMPCMD tunnel, and the commands of the
Lamps (chapter 10).
-/

namespace Sys2Proof.Machine

/-! ### Slots (R310, R311, R450) -/

/-- What the mirror is told of a slot. -/
def Hub.noteSlot (h : Hub) (slot : Nat) : Hub :=
  h.mirrorNote (.daymark slot ((h.dm.slots.find? (fun d => decide (d.slot = slot))).map Daymark.image))

/-- A slot is freed, and the mirror told so. -/
def Hub.releaseSlot (h : Hub) (slot : Nat) : Hub := (h.freeSlot slot).noteSlot slot

/-- The lowest free slot. -/
def Hub.slotFor (h : Hub) : Option Nat := (List.range 1024).find? (fun n => h.dm.slots.all (fun d => decide (d.slot ≠ n)))

/-- A slot is allocated for an entry (R310, R311): GEN advances from a random start. -/
def Hub.allocDaymark (h : Hub) (slot : Nat) (e : Bytes) (source : Option Nat) : Hub × Daymark :=
  let g := h.dm.gens.get 0 slot
  let r := if g = 0 then (h.draw.1, h.draw.2 % 63 + 1) else (h, g)
  let n := if r.2 = 63 then 1 else r.2 + 1
  let h1 := r.1
  let d : Daymark := ⟨slot, n, e, false, none, source, h1.dm.nextOrder, false, h1.clock, none, none⟩
  ({ h1 with dm := { h1.dm with slots := h1.dm.slots ++ [d], gens := h1.dm.gens.set 0 slot n, nextOrder := h1.dm.nextOrder + 1 } }, d)

/-! ### Crossings (R317 to R320) -/

/-- The target whose crossing is awaited: TARGET, or TARGET + width of a leading edge that has fired. -/
def Daymark.awaited (d : Daymark) : Int := if d.trailing then d.target + d.arg else d.target

/-- The first unit of CLOCK at which bearing b reaches a target: in the segment in force, or in the next one where its points
are held. -/
def Hub.crossingKnown (h : Hub) (b : Nat) (target : Int) : Option Nat :=
  let x := h.bearing b
  if b = 3 then some (if (h.bcn.stepFrom : Int) < 10 * target ∧ 10 * target ≤ h.bcn.stepTo then h.bcn.stepTo else (10 * target).toNat)
  else match (if x.from_ ≤ target then h.crossing b target else none) with
  | some c => some c
  | none => match pointOf h.bcn.seg x.points with
    | some q =>
      if x.to_ < target ∧ target ≤ q.1 then
        some ((h.bcn.seg + 1) * sfUnits + (((target - x.to_) * sfUnits + (q.1 - x.to_ - 1)) / (q.1 - x.to_)).toNat)
      else none
    | none => none

/-- OFFSET of the Lamp of a Lamp action, in 0.1 ns. -/
def Hub.lampOffset (h : Hub) (d : Daymark) : Int := if d.action ≤ 4 then 10 * toSigned 32 (h.val (Od.lampOffset d.lamp)) else 0

/-- The crossing is late (R319): the bearing is neither VALID nor in HOLDOVER, or a step of CLOCK passed the target. -/
def Hub.crossingLate (h : Hub) (d : Daymark) : Bool :=
  let st := h.bearingState d.bearing
  !st.good || (decide (d.bearing = 3) && decide ((h.bcn.stepFrom : Int) < 10 * d.awaited ∧ 10 * d.awaited ≤ h.bcn.stepTo))

/-- An edge of the daymark's Lamp lies ahead of the crossing (R317, R325) and has not been queued: OFFSET is negative. -/
def Hub.dmEarly (h : Hub) (d : Daymark) : Bool := decide (h.lampOffset d < 0) && d.early.isNone && !h.crossingLate d

/-- What a daymark does next (R317): its crossing, the instant of CLOCK at which it acts, and whether that only queues an edge ahead of the
crossing; it fires at the crossing, in the segment in force. -/
def Hub.dmDue (h : Hub) (d : Daymark) : Option (Nat × Nat × Bool) :=
  let ahead := h.dmEarly d
  let c := if d.bearing = 3 ∨ ahead then h.crossingKnown d.bearing d.awaited
    else if (h.bearing d.bearing).from_ ≤ d.awaited then h.crossing d.bearing d.awaited else none
  match c with
  | some c => if d.shadow ∨ c ≤ d.since then none else some (c, if ahead then ((c : Int) + h.lampOffset d).toNat else c, ahead)
  | none => none

/-- a acts before b: earlier instant, then ascending target, then order of insertion (R318). -/
def dmBefore (a b : Daymark × Nat × Nat × Bool) : Bool :=
  decide (a.2.2.1 < b.2.2.1) || (decide (a.2.2.1 = b.2.2.1) &&
    (decide (a.1.awaited < b.1.awaited) || (decide (a.1.awaited = b.1.awaited) && decide (a.1.order < b.1.order))))

/-- The first daymark due, of those with or without a leading edge behind them: the daymark, its crossing, when and how it acts. -/
def Hub.dmFirst (h : Hub) (trailing : Bool) : List Daymark → Option (Daymark × Nat × Nat × Bool)
  | [] => none
  | d :: t =>
    let best := Hub.dmFirst h trailing t
    match h.dmDue d with
    | some c =>
      if d.trailing ≠ trailing then best
      else match best with
        | some b => if dmBefore b (d, c) then some b else some (d, c)
        | none => some (d, c)
    | none => best

/-! ### Actions (R309, R321) -/

/-- What an action other than a Lamp action does: the hub, and the abort code of an action that failed. `rec` is the fired record
that a completion repeats. -/
def Hub.dmAct (h : Hub) (d : Daymark) (record : Bytes) : Hub × Abort :=
  let hd := d.arg2 % 65536
  let c := 8 + d.slot
  let source := d.source
  let start (h : Hub) : Hub := { h with dm := { h.dm with actions := h.dm.actions.filter (fun a => decide (a.1 ≠ c)) ++ [(c, record, source)] } }
  if d.action = 5 then
    match h.planStates with
    | some st => (h, abState st)
    | none => (h.planStart (d.arg2 % 8) (d.arg2 / 256 % 256) 4096, 0)
  else if d.action = 6 then (h.snapCapture (d.arg2 % 4), 0)
  else if d.action = 8 ∨ d.action = 9 then
    if !h.cmdLive hd then (h, abStale)
    else
      match (if d.action = 8 then h.openStates (hd % 256) else h.closeStates (hd % 256)) with
      | some st => (h, abState st)
      | none =>
        let h1 := start h
        (if d.action = 8 then h1.openStart (hd % 256) (some c) else h1.closeStart (hd % 256) (some c), 0)
  else (h, 0)

/-- The Lamp of a daymark takes an edge due at an instant: the hub, SUPPRESSED and SQUEEZED of the record, and the instant at which the edge
is placed (R321, R324). -/
def Hub.dmEdge (h : Hub) (d : Daymark) (level : Bool) (due : Nat) : Hub × Nat × Nat :=
  let l := d.lamp
  if (h.lamp l).state ≠ .active then (h.tally 0x0704 d.bearing 1, 4, due)
  else
    let r := h.lampEdge l level due
    (r.1, 8 * b2n r.2.2, r.2.1)

/-- The leading edge of a daymark (R309, R320): a PULSE_TIME pulse ends its width after the edge as placed. -/
def Hub.dmLead (h : Hub) (d : Daymark) (due : Nat) : Hub × Nat × Nat :=
  let r := h.dmEdge d (decide (d.action ≠ 2)) due
  let x := r.1.lamp d.lamp
  (if d.action = 3 ∧ !bit 2 r.2.1 then r.1.setLamp d.lamp { x with pulseEnds := x.pulseEnds ++ [r.2.2 + 10 * d.arg] } else r.1, r.2)

/-- A daymark as it now stands in its slot. -/
def Hub.putDaymark (h : Hub) (d : Daymark) : Hub :=
  { h with dm := { h.dm with slots := h.dm.slots.map (fun y => if y.slot = d.slot then d else y) } }

/-- The edge of a Lamp with a negative OFFSET is queued ahead of the crossing (R317, R325). -/
def Hub.dmAhead (h : Hub) (d : Daymark) (due : Nat) : Hub :=
  if d.trailing then
    let r := h.dmEdge d false due
    r.1.putDaymark { d with early := some r.2.1 }
  else
    let r := h.dmLead d due
    r.1.putDaymark { d with early := some r.2.1, edgeAt := some r.2.2 }

/-- A daymark fires its leading edge (R317, R320, R321): `flags` already holds LATE or HOLDOVER, `edge` is the action instant. -/
def Hub.dmFire (h : Hub) (d : Daymark) (instant edge flags : Nat) : Hub :=
  let h0 := h.tally 0x0702 d.bearing 1
  if d.action ≤ 4 then
    let r : Hub × Nat × Nat := match d.early with
      | some f => (h0, f, d.edgeAt.getD edge)
      | none => h0.dmLead d edge
    let h2 := if d.action = 4 ∧ !bit 2 r.2.1 then
        (r.1.putDaymark { d with
          trailing := true, since := instant, early := none, edgeAt := some r.2.2,
          timeoutAt := (h.pulseLimit d.lamp).map (fun t => t - h.clock + r.2.2) }).noteSlot d.slot
      else r.1.releaseSlot d.slot
    h2.reportDaymark d (flags ||| r.2.1) instant 0
  else
    let r := (h0.releaseSlot d.slot).dmAct d (d.record flags instant 0)
    let h1 := if r.2 = 0 then r.1 else r.1.flag Rg.dmFlags 2
    h1.reportDaymark d (if r.2 = 0 then flags else setBit 4 flags) instant r.2

/-- A late daymark is discarded (R316, R319). -/
def Hub.dmDiscardLate (h : Hub) : Hub := (h.bump Od.dmDmLateDiscarded 32 1).flag Rg.dmFlags 1

/-- A late daymark fires (R316, R319). -/
def Hub.dmLate (h : Hub) : Hub := (h.bump Od.dmDmLateFired 32 1).flag Rg.dmFlags 0

/-- LATE and HOLDOVER of a record. -/
def Hub.crossingFlags (h : Hub) (d : Daymark) : Nat :=
  b2n (h.crossingLate d) + 2 * b2n (decide (h.bearingState d.bearing = .holdover))

/-- The next crossing of a leading edge, or the edge that is queued ahead of it (R317 to R319). -/
def Hub.dmCross (h : Hub) : Hub :=
  match h.dmFirst false h.dm.slots with
  | none => h
  | some (d, c, t, ahead) =>
    let h1 := h.reach t
    if ahead then h1.dmAhead d t
    else if h1.crossingLate d ∧ bit 0 d.flags then h1.dmDiscardLate.releaseSlot d.slot
    else
      let h2 := if h1.crossingLate d then h1.dmLate else h1
      h2.dmFire d c ((c : Int) + h.lampOffset d).toNat (h1.crossingFlags d)

/-- The next trailing crossing of a PULSE_BEARING daymark, or the edge that is queued ahead of it (R320, R321). -/
def Hub.dmTrail (h : Hub) : Hub :=
  match h.dmFirst true h.dm.slots with
  | none => h
  | some (d, c, t, ahead) =>
    let h1 := h.reach t
    if ahead then h1.dmAhead d t
    else
      let r : Hub × Nat × Nat := match d.early with
        | some f => (h1, f, c)
        | none => h1.dmEdge d false ((c : Int) + h.lampOffset d).toNat
      (r.1.releaseSlot d.slot).reportDaymark d (setBit 5 (h1.crossingFlags d) ||| r.2.1) c 0

/-- The daymark whose PULSE_TIMEOUT expires first. -/
def firstTimeout : List Daymark → Option (Daymark × Nat)
  | [] => none
  | d :: t => match d.timeoutAt, firstTimeout t with
    | some a, some b => if b.2 < a then some b else some (d, a)
    | some a, none => some (d, a)
    | none, r => r

/-- PULSE_TIMEOUT of a Lamp expires after a leading edge (R320). -/
def Hub.dmTimeout (h : Hub) : Hub :=
  match firstTimeout (h.dm.slots.filter (fun d => !d.shadow && d.trailing)) with
  | none => h
  | some (d, t) =>
    let h1 := (h.reach t).flag Rg.dmFlags 5
    let r := h1.lampEdge d.lamp false t
    (r.1.releaseSlot d.slot).reportDaymark d (setBit 6 (8 * b2n r.2.2)) t 0

/-- The width of the first PULSE_TIME pulse of a Lamp has passed (R320). -/
def Hub.pulseEnd (h : Hub) (l : Nat) : Hub :=
  let x := h.lamp l
  match x.pulseEnds.min? with
  | none => h
  | some t =>
    let h1 := (h.reach t).setLamp l { x with pulseEnds := x.pulseEnds.erase t }
    (h1.lampEdge l false t).1

/-! ### Posting (R313 to R316) -/

/-- ARG lies within R309. -/
def argBad (action arg : Nat) : Bool :=
  if action = 3 then decide (arg < 8 ∨ 10000000000 < arg) else if action = 4 then decide (arg = 0) else decide (arg ≠ 0)

/-- ARG2 lies within R309. -/
def arg2Bad (action v : Nat) : Bool :=
  if action ≤ 4 then decide (v ≠ 0)
  else if action = 5 then
    let lead := v / 256 % 256
    decide (v % 256 / 8 ≠ 0) || decide (v / 65536 ≠ 0) || decide (lead = 1 ∨ 64 < lead)
  else if action = 6 then decide (v / 4 ≠ 0)
  else if action = 8 ∨ action = 9 then decide (v / 65536 ≠ 0)
  else false

/-- The reserved bits of FLAGS and the reserved bytes of an entry (R308), which no check of R316 names, are 0 (log 38). -/
def dmReserved (e : Bytes) : Option Abort := firstAbort [(decide (field e 18 1 / 8 ≠ 0), abArg 18), (decide (field e 28 4 ≠ 0), abArg 28)]

/-- The checks of an entry before a slot is sought (R316), in order. -/
def Hub.dmCheck (h : Hub) (e : Bytes) : Option Abort :=
  let b := field e 16 1
  let action := field e 17 1
  let l := field e 19 1
  let v := field e 24 4
  let hd := v % 65536
  let tunnel := decide (action = 8 ∨ action = 9)
  firstAbort [
    (decide (3 < b) || decide (h.bearingState b = .off), abArg 16),
    (decide (action = 0 ∨ 9 < action) || (decide (action = 4) && decide (b = 3)), abArg 17),
    (decide (action ≤ 4) && (decide (23 < l) || decide (h.val (Od.lampEnable l) ≠ 1)), abArg 19),
    (argBad action (field e 8 8), abArg 8),
    (arg2Bad action v, abArg 24),
    (decide (action = 5) && decide (h.mode.active ≠ .lighthouse) && decide (h.mode.active ≠ .bench), abState stNotRoot),
    (tunnel && !h.cmdLive hd, abStale),
    (tunnel && decide ((h.ctx (hd % 256)).role ≠ .opener), abArg 24),
    (decide (h.bearingState b = .acquiring), abState stLinkDown)]

/-- An entry is checked and inserted (R313 to R316): the hub, the handle, OUTCOME and the abort code. -/
def Hub.dmPost (h : Hub) (e : Bytes) (source : Option Nat) : Hub × Nat × Nat × Abort :=
  match h.dmCheck e with
  | some a => (h, 0, 3, a)
  | none => match h.slotFor with
    | none => (h.flag Rg.dmFlags 6, 0, 3, abNoResource)
    | some slot =>
      if let some a := dmReserved e then (h, 0, 3, a) else
      let d0 : Daymark := ⟨slot, 0, e, false, none, source, 0, false, 0, none, none⟩
      let known := (h.crossingKnown d0.bearing d0.target).map (fun c => decide ((c : Int) + h.lampOffset d0 < h.clock + 5000))
      let late := decide (d0.target ≤ h.bearingNow d0.bearing) || known.getD false
      if late ∧ bit 0 d0.flags then (h.dmDiscardLate, 0, 2, 0)
      else
        let r := h.allocDaymark slot e source
        let post := match source, decide (d0.action ≤ 4) with
          | some hd, true =>
            if hd ∈ (r.1.lamp d0.lamp).posters then r.1
            else r.1.setLamp d0.lamp { r.1.lamp d0.lamp with posters := hd :: (r.1.lamp d0.lamp).posters }
          | _, _ => r.1
        let h1 := (post.noteSlot slot).tally 0x0701 d0.bearing 1
        if late then (h1.dmLate.dmFire r.2 h.clock (h.clock + 5000) (1 + 2 * b2n (decide (h.bearingState d0.bearing = .holdover))), 0, 1, 0) else (h1, r.2.handle, 0, 0)

/-- An outcome item (R315). -/
def dmItem (handle outcome : Nat) (a : Abort) : Bytes := u16 handle ++ u8 outcome ++ u8 0 ++ u32 a

/-- Entries are posted one at a time, in order (R313): the hub and the outcome items. -/
def Hub.dmPostAll (h : Hub) (source : Option Nat) (entries : Bytes) : Nat → Hub × Bytes
  | 0 => (h, [])
  | n + 1 =>
    let r := Hub.dmPostAll h source entries n
    let x := r.1.dmPost ((entries.drop (32 * n)).take 32) source
    (x.1, r.2 ++ dmItem x.2.1 x.2.2.1 x.2.2.2)

/-! ### Cancelling (R323) -/

/-- An action instant of the daymark falls less than SETUP_TIME ahead (R323): that of the crossing awaited, or a leading edge that has been
placed and is still to come. -/
def Hub.dmTooLate (h : Hub) (d : Daymark) : Bool :=
  d.edgeAt.any (fun t => decide (h.clock < t ∧ t < h.clock + 5000)) ||
  match h.crossingKnown d.bearing d.awaited with
  | some c => decide (d.since < c) && decide ((c : Int) + h.lampOffset d < h.clock + 5000)
  | none => false

/-- A handle is cancelled (R323): the hub, OUTCOME and the abort code. A leading edge that has been queued and is still to come goes; after it,
the Lamp is cleared. -/
def Hub.dmCancel (h : Hub) (hd : Nat) : Hub × Nat × Abort :=
  match h.daymark? hd with
  | none => (h, 3, abStale)
  | some d =>
    if h.dmTooLate d then (h, 1, 0)
    else
      let h1 := (h.releaseSlot d.slot).tally 0x0703 d.bearing 1
      let x := h1.lamp d.lamp
      let coming := d.edgeAt.any (fun t => decide (h.clock < t))
      (if coming then h1.setLamp d.lamp { x with edges := x.edges.filter (fun e => decide (some e.1 ≠ d.edgeAt)) }
        else if d.trailing then (h1.lampEdge d.lamp false h1.clock).1 else h1, 0, 0)

/-- Handles are cancelled in order: the hub and the outcome items. -/
def Hub.dmCancelAll (h : Hub) (handles : Bytes) : Nat → Hub × Bytes
  | 0 => (h, [])
  | n + 1 =>
    let r := Hub.dmCancelAll h handles n
    let hd := field handles (2 * n) 2
    let x := r.1.dmCancel hd
    (x.1, r.2 ++ dmItem (if x.2.1 = 0 then hd else 0) x.2.1 x.2.2)

/-! ### LAMPCMD messages (R314, R322) -/

/-- A message goes back in a LAMPCMD tunnel; with no way back it is discarded and counted. -/
def Hub.lampReply (h : Hub) (i n : Nat) (m : Bytes) : Hub :=
  let x := h.ctx i
  if x.direction = 2 ∨ x.shadow ∨ (x.state ≠ .open ∧ x.state ≠ .opening) then { h with dm := { h.dm with unsent := h.dm.unsent + n } }
  else h.offer i ⟨m, false⟩

/-- The oldest segment at the LAMP binding is taken, where it carries the message: `msg` 1 POST, 2 CANCEL. A message that is unknown,
or whose length does not match COUNT, is discarded and counted (R314). The message waits where its answer has no room (R248). -/
def Hub.lampMessage (h : Hub) (msg : Nat) : Hub :=
  match h.outQ 30 with
  | [] => h
  | s :: _ =>
    let m := field s.data 0 1
    let n := field s.data 1 1
    let body := s.data.drop 8
    let size := if m = 1 then 32 else 2
    let bad := decide (s.data.length ≠ 8 + size * n) || decide (n = 0) || (decide (m = 1) && decide (63 < n))
    if ((m = 1 ∨ m = 2) ∧ m ≠ msg) ∨ (!bad && h.producerWaits s.ctx (8 + 8 * n)) then h
    else
      let h1 := h.dropOut 30 s
      if bad ∨ m ≠ msg then { h1 with dm := { h1.dm with badMessages := h1.dm.badMessages + 1 } }
      else
        let r := if m = 1 then h1.dmPostAll (some (h1.handle s.ctx)) body n else h1.dmCancelAll body n
        r.1.lampReply s.ctx 1 (u8 (m + 0x80) ++ u8 n ++ (s.data.drop 2).take 2 ++ u32 0 ++ r.2)

/-- The records gathered for the tunnel that has waited longest go out in one FIRED message (R322), once it has room (R248). -/
def Hub.firedSend (h : Hub) : Hub :=
  match h.dm.fired with
  | [] => h
  | (hd, _) :: _ =>
    let mine := (h.dm.fired.filter (fun r => decide (r.1 = hd))).take 80
    let rest := h.dm.fired.filter (fun r => decide (r.1 ≠ hd)) ++ (h.dm.fired.filter (fun r => decide (r.1 = hd))).drop 80
    let h1 : Hub := { h with dm := { h.dm with fired := rest } }
    let n := mine.length
    if h1.cmdLive hd && h1.producerWaits (hd % 256) (8 + (mine.flatMap (·.2)).length) then h
    else if h1.cmdLive hd then h1.lampReply (hd % 256) n (u8 0x83 ++ u8 n ++ u16 0 ++ u32 0 ++ mine.flatMap (·.2))
    else { h1 with dm := { h1.dm with unsent := h1.dm.unsent + n } }

/-! ### The post window and the commands (R332 to R334) -/

/-- The states that refuse daymarks at all (R312, R333, R452, R453). -/
def Hub.dmStates (h : Hub) : Option Nat := firstState [(h.inFog, stFoghorn), (h.standby, stNotRoot), (h.rootSwap, stSwap)]

/-- GO is written: the entry in DM_POST0 to DM_POST7 is handled (R332). -/
def Hub.dmGo (h : Hub) : Hub :=
  let e := ((List.range 8).map (fun k => u32 (h.reg (Rg.dmPost k)))).flatten
  let r := match h.dmStates with
    | some st => (h, 0, 3, abState st)
    | none => h.dmPost e none
  let h1 : Hub := { r.1 with dm := { r.1.dm with postDone := true, postStatus := r.2.2.2, postOutcome := r.2.2.1, postHandle := r.2.1 } }
  if h1.dm.postEvtEn then h1.fire Ev.dmPostDone [] else h1

/-- DAYMARK_POST, code 0x0703. -/
def Hub.cmdDaymarkPost (h : Hub) (req : Path) (c tag : Nat) (args : Bytes) : Hub :=
  let n := field args 0 1
  h.issue req c 0x0703 tag args
    (firstAbort [(decide (n = 0 ∨ 7 < n), abArg 4), argLen args (4 + 32 * n), (decide (field args 1 3 ≠ 0), abArg 5)]) h.dmStates
    (fun h =>
      let r := h.dmPostAll none (args.drop 4) n
      r.1.endMirrored (.command c 0 r.2))

/-- DAYMARK_CANCEL, code 0x0704. -/
def Hub.cmdDaymarkCancel (h : Hub) (req : Path) (c tag : Nat) (args : Bytes) : Hub :=
  let n := field args 0 1
  h.issue req c 0x0704 tag args
    (firstAbort [(decide (n = 0 ∨ 31 < n), abArg 4), argLen args (4 + 2 * n), (decide (field args 1 3 ≠ 0), abArg 5)]) h.dmStates
    (fun h =>
      let r := h.dmCancelAll (args.drop 4) n
      r.1.endMirrored (.command c 0 r.2))

/-- DAYMARK_READ, code 0x0705. -/
def Hub.cmdDaymarkRead (h : Hub) (req : Path) (c tag : Nat) (args : Bytes) : Hub :=
  let hd := field args 0 2
  h.issue req c 0x0705 tag args (firstAbort [argLen args 2, ((h.daymark? hd).isNone, abStale)]) none
    (fun h => match h.daymark? hd with
      | some d => h.done c 0 (d.entry ++ u8 (b2n d.trailing))
      | none => h)

/-- The Lamps of a mask. -/
def maskLamps (m : Nat) : List Nat := lampNumbers.filter (fun l => bit l m)

/-- LAMP_SET_NOW, code 0x0706. -/
def Hub.cmdLampSetNow (h : Hub) (req : Path) (c tag : Nat) (args : Bytes) : Hub :=
  let mask := field args 0 4
  let levels := field args 4 4
  h.issue req c 0x0706 tag args
    (firstAbort [argLen args 8, (decide (2 ^ 24 ≤ mask) || decide (2 ^ 24 ≤ levels), abArg 4)])
    (firstState [(h.inFog, stFoghorn), (h.standby, stNotRoot)])
    (fun h =>
      let moved := (maskLamps mask).filter (fun l => decide ((h.lamp l).state = .active) && decide ((h.lamp l).levelAt h.clock ≠ bit l levels))
      let h1 := moved.foldl (fun h l => (h.lampEdge l (bit l levels) h.clock).1) h
      h1.endMirrored (.command c 0 (u32 (moved.foldl (fun m l => setBit l m) 0))))

/-- The mask of the Lamps in SAFE. -/
def Hub.safeMask (h : Hub) : Nat := lampNumbers.foldl (fun m l => if (h.lamp l).state = .safe then setBit l m else m) 0

/-- LAMP_CONTROL, code 0x0707: release, safe, or safe along the chain (R327 to R329). -/
def Hub.cmdLampControl (h : Hub) (req : Path) (c tag : Nat) (args : Bytes) : Hub :=
  let mask := field args 0 4
  let action := field args 4 1
  h.issue req c 0x0707 tag args
    (firstAbort [argLen args 5, (decide (2 ^ 24 ≤ mask), abArg 4), (decide (2 < action), abArg 8)]) none
    (fun h =>
      let h1 := (maskLamps mask).foldl (fun h l => if action = 0 then h.lampTryRelease l else h.lampTrigger l 5 []) h
      let h2 := if action = 2 then h1.fogOriginate 0x31 0 else h1
      h2.done c 0 (u32 h2.safeMask))

/-- The delay line is recalibrated (R324). -/
def Hub.lampCalibration (h : Hub) (ok : Bool) : Hub :=
  if ok then { h with dm := { h.dm with calFault := false } }
  else (({ h with dm := { h.dm with calFault := true } } : Hub).flag Rg.dmFlags 7).fire Ev.lampCalFault []

/-! ### Meanings -/

/-- DAYMARK_POST (R313 to R316, R333). -/
def execDaymarkPost (req : Path) (c : Fin 8) (tag : BitVec 16) (args : Bytes) (s : State) :=
  onCommand 0x0703 req c.val tag.toNat args (fun h => h.cmdDaymarkPost req c.val tag.toNat args) s

/-- DAYMARK_CANCEL (R323, R333). -/
def execDaymarkCancel (req : Path) (c : Fin 8) (tag : BitVec 16) (args : Bytes) (s : State) :=
  onCommand 0x0704 req c.val tag.toNat args (fun h => h.cmdDaymarkCancel req c.val tag.toNat args) s

/-- DAYMARK_READ (R333, R334). -/
def execDaymarkRead (req : Path) (c : Fin 8) (tag : BitVec 16) (args : Bytes) (s : State) :=
  onCommand 0x0705 req c.val tag.toNat args (fun h => h.cmdDaymarkRead req c.val tag.toNat args) s

/-- DM_POST_CTRL is written with GO (R332). -/
def execDmPostGo (s : State) := onHub Hub.dmGo s

/-- A LAMPCMD POST message is taken up (R314). -/
def execLampcmdPost (s : State) := onHub (fun h => h.lampMessage 1) s

/-- A LAMPCMD CANCEL message is taken up (R314, R323). -/
def execLampcmdCancel (s : State) := onHub (fun h => h.lampMessage 2) s

/-- DAYMARK_FIRED (R317 to R321). -/
def execDaymarkFired (s : State) := onHub Hub.dmCross s

/-- PULSE_TIME_END (R320). -/
def execPulseTimeEnd (l : Fin 24) (s : State) := onHub (fun h => h.pulseEnd l.val) s

/-- PULSE_BEARING_END (R320). -/
def execPulseBearingEnd (s : State) := onHub Hub.dmTrail s

/-- PULSE_TIMEOUT (R320). -/
def execPulseTimeout (s : State) := onHub Hub.dmTimeout s

/-- LAMP_EDGE (R324). -/
def execLampEdge (l : Fin 24) (s : State) := onHub (fun h => h.placeEdge l.val) s

/-- LAMP_CALIBRATION (R324). -/
def execLampCalibration (ok : Bool) (s : State) := onHub (fun h => h.lampCalibration ok) s

/-- FIRED_MESSAGE_SEND (R322). -/
def execFiredMessageSend (s : State) := onHub Hub.firedSend s

/-- LAMP_SET_NOW (R333, R334). -/
def execLampSetNow (req : Path) (c : Fin 8) (tag : BitVec 16) (args : Bytes) (s : State) :=
  onCommand 0x0706 req c.val tag.toNat args (fun h => h.cmdLampSetNow req c.val tag.toNat args) s

/-- LAMP_RELEASE: LAMP_CONTROL with ACTION 0 (R329). -/
def execLampRelease (req : Path) (c : Fin 8) (tag : BitVec 16) (mask : Word) (s : State) :=
  onCommand 0x0707 req c.val tag.toNat (u32 mask.toNat ++ u8 0) (fun h => h.cmdLampControl req c.val tag.toNat (u32 mask.toNat ++ u8 0)) s

/-- LAMP_SAFE: LAMP_CONTROL with ACTION 1 (R327). -/
def execLampSafe (req : Path) (c : Fin 8) (tag : BitVec 16) (mask : Word) (s : State) :=
  onCommand 0x0707 req c.val tag.toNat (u32 mask.toNat ++ u8 1) (fun h => h.cmdLampControl req c.val tag.toNat (u32 mask.toNat ++ u8 1)) s

/-- LAMP_SAFE_CHAIN: LAMP_CONTROL with ACTION 2 (R328). -/
def execLampSafeChain (req : Path) (c : Fin 8) (tag : BitVec 16) (mask : Word) (s : State) :=
  onCommand 0x0707 req c.val tag.toNat (u32 mask.toNat ++ u8 2) (fun h => h.cmdLampControl req c.val tag.toNat (u32 mask.toNat ++ u8 2)) s

end Sys2Proof.Machine
end

