-- ==== Sys2Proof/Machine/Keys.lean ====
section
/-!
DEFINITION. Keys, attestation, fuses and check channels (chapter 17): re-masking, the TRNG, the commands, and the ECC engine.
-/

namespace Sys2Proof.Machine

/-! ### Masks and the TRNG (R509, R510, R514) -/

/-- Slot n is tested and masked afresh (R509, R510). -/
def Hub.remaskSlot (h : Hub) (n : Nat) : Hub :=
  let x := h.slot n
  if x.state ≠ .valid then h
  else if x.check ≠ h.slotCheck n x.key x.usage x.expire then h.slotBad n
  else
    let d := h.draw
    let m := trunc 256 d.2
    d.1.setSlot n { x with masked := x.key ^^^ m, mask := m }

/-- The tunnel keys of pair record k are masked afresh (R510). -/
def Hub.remaskPair (h : Hub) (k : Nat) : Hub :=
  let x := h.pairKey k
  let d := h.draw
  let e := d.1.draw
  e.1.setPairKey k
    { x with txKey := x.txKey ^^^ x.txMask ^^^ trunc 256 d.2, txMask := trunc 256 d.2,
             rxKey := x.rxKey ^^^ x.rxMask ^^^ trunc 256 e.2, rxMask := trunc 256 e.2 }

/-- Every 1 ms the masks are renewed, unless DRBG output is withheld (R510, R514). -/
def Hub.remask (h : Hub) : Hub :=
  if !h.drawOk || !h.domOn 16 then h
  else
    let h1 := (List.range 64).foldl (fun h n => h.remaskSlot n) h
    ((h1.sec.pairKeys.cells.map (·.1)).foldl (fun h k => h.remaskPair k) h1).tally 0x0E08 0 1

/-- The start-up test of the TRNG ends (R514): the DRBG is seeded, and ports may leave WAITING. -/
def Hub.trngStartup (h : Hub) (ok : Bool) : Hub :=
  if h.sec.trng ≠ .startup then h
  else if ok then
    let h1 : Hub := { h with sec := { h.sec with trng := .running } }
    let h2 : Hub := { h1 with sec := { h1.sec with startedUp := true } }
    h2.portsJudge
  else ({ h with sec := { h.sec with trng := .failed } } : Hub).fire Ev.trngFault []

/-- A health test fails in service (R514). -/
def Hub.trngFails (h : Hub) : Hub :=
  if h.sec.trng = .running then ({ h with sec := { h.sec with trng := .failed } } : Hub).fire Ev.trngFault [] else h

/-- The tests pass again (R514). -/
def Hub.trngAgain (h : Hub) : Hub :=
  if h.sec.trng = .failed ∧ h.sec.startedUp then { h with sec := { h.sec with trng := .running } } else h

/-! ### Commands (R506 to R508, R527) -/

/-- A command that uses a key slot: after the checks of R59, those of R507; then R60 and the command's effect. -/
def Hub.issueUse (h : Hub) (req : Path) (c code tag : Nat) (args : Bytes) (arg : Option Abort) (st : Option Nat)
    (use : Hub → Hub × Option Abort) (start : Hub → Hub) : Hub :=
  h.withCode req code (match lengthOr args arg with
    | some a => h.answer req a []
    | none =>
      if (h.chan c).state = .running then h.answer req (abState stChannelBusy) []
      else match st with
        | some s => h.answer req (abState s) []
        | none =>
          let u := use h
          match u.2 with
          | some a => u.1.answer req a []
          | none => start ((u.1.accept c code tag args).answer req 0 []))

/-- A user slot (R506). -/
def userSlot (n : Nat) : Bool := decide (20 ≤ n) && decide (n ≤ 63)

/-- The states that refuse a command that writes slots (R508, R527). -/
def Hub.slotStates (h : Hub) (slots : List Nat) : Option Nat :=
  firstState [(h.inFog, stFoghorn), (slots.any (fun n => !h.slotWritable n), stSlotBad)]

/-- The argument checks of KEY_DERIVE (R527). -/
def deriveArgs (a : Bytes) : Option Abort :=
  let usage := field a 2 1
  let label := field a 8 1
  let context := field a 9 1
  firstAbort [(decide (a.length < 10), abArg (4 + a.length)), (!userSlot (field a 0 1), abArg 4),
    (!(userSlot (field a 1 1) || decide (field a 1 1 = 3)), abArg 5),
    (decide (usage ≠ 1 ∧ usage ≠ 2 ∧ usage ≠ 4), abArg 6), (decide (1 < field a 3 1), abArg 7), (decide (field a 4 4 = 0), abArg 8),
    (decide (label = 0 ∨ 32 < label), abArg 12), (decide (64 < context), abArg 13), argLen a (10 + label + context)]

/-- A derived key goes into its slot, and KEY_DERIVE ends. -/
def Hub.derived (h : Hub) (n usage uses key : Nat) (expire : Bool) (pub : Bytes) (c : Option Nat) : Hub :=
  if !h.slotWritable n then h.doneOpt c (abState stSlotBad) []
  else if !h.drawOk then h.doneOpt c abRandom []
  else (h.writeSlot n usage uses key expire pub).doneOpt c 0 (u8 n ++ pub)

/-- KEY_DERIVE, code 0x0B00: it waits its turn where the block is at work (R512). -/
def Hub.cmdKeyDerive (h : Hub) (req : Path) (c tag : Nat) (args : Bytes) : Hub :=
  let n := field args 0 1
  let src := field args 1 1
  let usage := field args 2 1
  let k := field args 8 1
  h.issueUse req c 0x0B00 tag args (deriveArgs args) (h.slotStates [n]) (fun h => h.useSlot src 4 5)
    (fun h =>
      let v := leNat (kdf (h.slot src).key ((args.drop 10).take k) (args.drop (10 + k)) 256)
      let key := if usage = 2 then toScalar v else v
      let pub := if usage = 2 then Config.publicOf key else []
      let uses := field args 4 4
      let expire := decide (field args 3 1 = 1)
      if h.sec.ecc = [] then h.derived n usage uses key expire pub (some c) else h.eccQueue (.derive_ n usage uses key expire pub) (some c))

/-- KEY_GENERATE, code 0x0B01. -/
def Hub.cmdKeyGenerate (h : Hub) (req : Path) (c tag : Nat) (args : Bytes) : Hub :=
  let n := field args 0 1
  let usage := field args 1 1
  h.issue req c 0x0B01 tag args
    (firstAbort [argLen args 8, (!userSlot n, abArg 4), (decide (usage ≠ 2 ∧ usage ≠ 5), abArg 5), (decide (1 < field args 2 1), abArg 6),
      (decide (field args 3 1 ≠ 0), abArg 7), (decide (field args 4 4 = 0), abArg 8)]) (h.slotStates [n])
    (fun h => h.eccQueue (.generate n usage (field args 4 4) (decide (field args 2 1 = 1))) (some c))

/-- KEY_LOAD_PUBLIC, code 0x0B02. -/
def Hub.cmdKeyLoadPublic (h : Hub) (req : Path) (c tag : Nat) (args : Bytes) : Hub :=
  let n := field args 0 1
  let pub := args.drop 8
  h.issue req c 0x0B02 tag args
    (firstAbort [argLen args 72, (!userSlot n || decide (n % 2 = 1), abArg 4), (decide (1 < field args 1 1), abArg 5),
      (decide (field args 2 2 ≠ 0), abArg 6), (decide (field args 4 4 = 0), abArg 8), (!Config.onCurve pub, abArg 12)])
    (h.slotStates [n, n + 1])
    (fun h =>
      if !h.drawOk then h.done c abRandom []
      else
        let e := decide (field args 1 1 = 1)
        let u := field args 4 4
        ((h.writeSlot n 3 u (leNat (pub.take 32)) e pub).writeSlot (n + 1) 3 u (leNat (pub.drop 32)) e pub).done c 0 [])

/-- KEY_ERASE, code 0x0B03: of an IMAGE key, both slots. -/
def Hub.cmdKeyErase (h : Hub) (req : Path) (c tag : Nat) (args : Bytes) : Hub :=
  let n := field args 0 1
  h.issue req c 0x0B03 tag args (firstAbort [argLen args 1, (!userSlot n, abArg 4)]) none
    (fun h => ((h.slotHalves n).foldl (fun h k => h.setSlot k Slot.init) h).done c 0 [])

/-- ATTEST, code 0x0B04. -/
def Hub.cmdAttest (h : Hub) (req : Path) (c tag : Nat) (args : Bytes) : Hub :=
  h.issueUse req c 0x0B04 tag args (firstAbort [argLen args 32]) (firstState [(decide (h.sec.trng ≠ .running), stLinkDown)])
    (fun h => h.useSlot 2 2 4) (fun h => h.eccQueue (.attest (h.slot 2).key args) (some c))

/-- The size in bytes of the value that FUSE_PROGRAM takes for a field (R502). -/
def fuseSize (k : Nat) : Nat := [0, 8, 1, 8, 8, 1, 1, 32, 8].getD k 0

/-- The largest value of a field. -/
def fuseMax (k : Nat) : Nat := if k = 2 then 3 else if k = 5 then 15 else if k = 6 then 1 else 2 ^ (8 * fuseSize k) - 1

/-- The argument checks of FUSE_PROGRAM (R504, R527). -/
def Hub.fuseArgs (h : Hub) (a : Bytes) : Option Abort :=
  let k := field a 0 1
  firstAbort [(decide (a.length < 4), abArg (4 + a.length)), (decide (8 < k) || decide (k = 1), abArg 4),
    (decide (k = 0) && bit 0 (h.sec.fuses.get 0 2), abArg 4), (decide ((if k = 8 then 15 else 0) < field a 1 1), abArg 5),
    (decide (field a 2 2 ≠ 0), abArg 6), argLen a (4 + fuseSize k), (decide (fuseMax k < leNat (a.drop 4)), abArg 8),
    (bit 1 (h.fuse 2) && !(decide (3 ≤ k) && decide (k ≤ 6)), abLocked)]

/-- Bits of a field are blown and read back (R502, R504): with `ok` every one asked for, else some of them, which the spec leaves
open. -/
def Hub.fuseBlow (h : Hub) (k v : Nat) (ok : Bool) : Hub × Nat :=
  let o := if ok then (h, v) else h.open_ 256
  let old := h.sec.fuses.get 0 k
  let new := old ||| (if ok then v else v &&& o.2)
  ({ o.1 with sec := { o.1.sec with fuses := o.1.sec.fuses.set 0 k new } }, ones 256 new - ones 256 old)

/-- FUSE_PROGRAM, code 0x0B05: `ok` says whether every bit read back. -/
def Hub.cmdFuseProgram (h : Hub) (req : Path) (c tag : Nat) (args : Bytes) (ok : Bool) : Hub :=
  let k := field args 0 1
  h.issue req c 0x0B05 tag args (h.fuseArgs args) (firstState [(decide (h.mode.active ≠ .bench), stDebugLocked)])
    (fun h =>
      if k = 0 ∧ !h.drawOk then h.done c abRandom []
      else
        let d := if k = 0 then h.draw else (h, leNat (args.drop 4))
        let r := d.1.fuseBlow (if k = 8 then 8 + field args 1 1 else k) (trunc 256 d.2) ok
        let s := if k = 0 then r.1.fuseBlow 2 1 ok else (r.1, 0)
        if ok then s.1.done c 0 (u16 (r.2 + s.2)) else s.1.done c (abFailed 1) [])

/-- PAIR_REKEY, code 0x0B06 (R518). -/
def Hub.cmdPairRekey (h : Hub) (req : Path) (c tag : Nat) (args : Bytes) : Hub :=
  let t := field args 0 1
  h.issue req c 0x0B06 tag args (firstAbort [argLen args 1, ((h.route t).isNone, abArg 4)]) (firstState [(h.inFog, stFoghorn)])
    (fun h =>
      let n := ((List.range 8).filter (fun k => decide (t ≠ 0) && decide ((h.pairKey k).target = t))).length
      (h.discardPairs (fun x => decide (x = t))).done c 0 (u8 n))

/-- SIGN, code 0x0B07. -/
def Hub.cmdSign (h : Hub) (req : Path) (c tag : Nat) (args : Bytes) : Hub :=
  let n := field args 0 1
  h.issueUse req c 0x0B07 tag args (firstAbort [argLen args 33, (!userSlot n, abArg 4)]) (firstState [(h.inFog, stFoghorn)])
    (fun h => h.useSlot n 2 4) (fun h => h.eccQueue (.sign (h.slot n).key (args.drop 1)) (some c))

/-! ### The ECC engine (R512) and the report of ATTEST (R519) -/

/-- The bytes of an entry as a read gives them. -/
def Hub.view (h : Hub) (key : Nat) : Bytes := match odRowOf key with
  | some r => (h.odValue r key).2
  | none => []

/-- A hash of 32 bytes; zeros where there is none. -/
def hash32 (b : Bytes) : Bytes := (b ++ leBytes 32 0).take 32

/-- LOCK_MASK (R519). -/
def Hub.lockMask (h : Hub) : Nat := (List.range 16).foldl (fun m r => if bit 24 (h.fuse (8 + r)) then setBit r m else m) 0

/-- Bytes 0 to 175 of the report (R519). -/
def Hub.reportBody (h : Hub) (nonce : Bytes) : Bytes :=
  ascii "HXAT" ++ u16 1 ++ h.view 0x100003 ++ h.view 0x200002 ++ u64 Config.serial ++ h.view 0x100002 ++ u16 h.lockMask ++
    u8 (h.fuse 2) ++ u8 (h.fuse 6 % 2 + 2 * b2n h.debugUnlocked + 4 * b2n (decide (h.mode.active = .bench))) ++
    u8 (ones 64 (h.fuse 3)) ++ u8 (ones 64 (h.fuse 4)) ++ u8 h.vendorKey ++ u8 0 ++ h.view 0x100005 ++ u32 h.eng.mcVersion ++
    hash32 h.pwr.keeperMeasure ++ hash32 h.eng.mcMeasure ++ hash32 h.ctl.configMeasure ++ nonce ++ u64 h.ns ++ u32 h.pair.epoch

/-- An operation of the ECC engine ends. -/
def Hub.eccEnd (h : Hub) (op : EccOp) (c : Option Nat) : Hub :=
  match op with
  | .sign key digest => h.doneOpt c 0 (Config.ecdsaSign key digest)
  | .attest key nonce =>
    let body := h.reportBody nonce
    h.doneOpt c 0 (body ++ Config.ecdsaSign key (Config.sha256 body))
  | .generate n usage uses expire =>
    if !h.slotWritable n then h.doneOpt c (abState stSlotBad) []
    else if !h.drawOk then h.doneOpt c abRandom []
    else
      let d := h.draw
      let key := toScalar d.2
      (d.1.writeSlot n usage uses key expire (Config.publicOf key)).doneOpt c 0 (Config.publicOf key)
  | .derive_ n usage uses key expire pub => h.derived n usage uses key expire pub c
  | .debug publicKey nonce signature => match c with
    | some c => h.debugVerdict c publicKey nonce signature
    | none => h
  | .offer i => h.offerMade i
  | .reply p m => h.offerAnswered p m
  | .agree i data => h.answerTaken i data

/-- The oldest operation of the ECC engine completes (R512). -/
def Hub.eccDone (h : Hub) : Hub :=
  match h.sec.ecc with
  | [] => h
  | (op, c) :: rest => if !h.domOn 16 then h else ({ h with sec := { h.sec with ecc := rest } } : Hub).eccEnd op c

/-! ### Check channels (R524 to R526) -/

/-- Bytes are fed to check channel c (R524). -/
def Hub.crcFeed (h : Hub) (c : Nat) (b : Bytes) : Hub :=
  let x := h.crcChan c
  h.setCrcChan c { x with value := x.param.feedAll x.value b }

/-- INIT is loaded into the register of check channel c (R524). -/
def Hub.crcStart (h : Hub) (c : Nat) : Hub :=
  let x := h.crcChan c
  h.setCrcChan c { x with value := x.param.start }

/-! ### Meanings -/

/-- REMASK (R510). -/
def execRemask (s : State) := onHub Hub.remask s

/-- TRNG_STARTUP (R514): the start-up test passes, or has not passed within 100 ms. -/
def execTrngStartup (ok : Bool) (s : State) := onHub (fun h => h.trngStartup ok) s

/-- TRNG_HEALTH_FAIL (R514). -/
def execTrngHealthFail (s : State) := onHub Hub.trngFails s

/-- TRNG_TESTS_PASS (R514). -/
def execTrngTestsPass (s : State) := onHub Hub.trngAgain s

/-- KEY_DERIVE (R527). -/
def execKeyDerive (req : Path) (c : Fin 8) (tag : BitVec 16) (args : Bytes) (s : State) := onCommand 0x0B00 req c.val tag.toNat args (fun h => h.cmdKeyDerive req c.val tag.toNat args) s

/-- KEY_GENERATE (R527). -/
def execKeyGenerate (req : Path) (c : Fin 8) (tag : BitVec 16) (args : Bytes) (s : State) :=
  onCommand 0x0B01 req c.val tag.toNat args (fun h => h.cmdKeyGenerate req c.val tag.toNat args) s

/-- KEY_LOAD_PUBLIC (R527). -/
def execKeyLoadPublic (req : Path) (c : Fin 8) (tag : BitVec 16) (args : Bytes) (s : State) :=
  onCommand 0x0B02 req c.val tag.toNat args (fun h => h.cmdKeyLoadPublic req c.val tag.toNat args) s

/-- KEY_ERASE (R508, R527). -/
def execKeyErase (req : Path) (c : Fin 8) (tag : BitVec 16) (args : Bytes) (s : State) := onCommand 0x0B03 req c.val tag.toNat args (fun h => h.cmdKeyErase req c.val tag.toNat args) s

/-- ATTEST (R519, R527). -/
def execAttest (req : Path) (c : Fin 8) (tag : BitVec 16) (args : Bytes) (s : State) := onCommand 0x0B04 req c.val tag.toNat args (fun h => h.cmdAttest req c.val tag.toNat args) s

/-- FUSE_PROGRAM (R504, R527): `ok` says whether every programmed bit reads back. -/
def execFuseProgram (req : Path) (c : Fin 8) (tag : BitVec 16) (args : Bytes) (ok : Bool) (s : State) :=
  onCommand 0x0B05 req c.val tag.toNat args (fun h => h.cmdFuseProgram req c.val tag.toNat args ok) s

/-- PAIR_REKEY (R518, R527). -/
def execPairRekey (req : Path) (c : Fin 8) (tag : BitVec 16) (args : Bytes) (s : State) := onCommand 0x0B06 req c.val tag.toNat args (fun h => h.cmdPairRekey req c.val tag.toNat args) s

/-- SIGN (R527). -/
def execSign (req : Path) (c : Fin 8) (tag : BitVec 16) (args : Bytes) (s : State) := onCommand 0x0B07 req c.val tag.toNat args (fun h => h.cmdSign req c.val tag.toNat args) s

/-- CRC_DATA_WRITE (R524, R525): a byte, half-word or word feeds 1, 2 or 4 bytes; other sizes are ignored. -/
def execCrcDataWrite (c : Fin 16) (size : Fin 9) (v : Word) (s : State) :=
  onHub (fun h => if size.val = 1 ∨ size.val = 2 ∨ size.val = 4 then h.crcFeed c.val (leBytes size.val v.toNat) else h) s

/-- CRC_START (R525). -/
def execCrcStart (c : Fin 16) (s : State) := onHub (fun h => h.crcStart c.val) s

/-- ECC_ENGINE_DONE (R512). -/
def execEccEngineDone (s : State) := onHub Hub.eccDone s

end Sys2Proof.Machine
end

