-- ==== Sys2Proof/Machine/Reset.lean ====
section
/-!
DEFINITION. Resets and the boot ROM (R26, R30, R503, R506, R514, R561, R564 to R571, R578, R601), and the fog signals that
carry a chain reset.
-/

namespace Sys2Proof.Machine

/-! ### Lock records (R503) -/

/-- The entry that lock record r names, and its VALUE; none while VALID is 0. -/
def Hub.lockRecord (h : Hub) (r : Nat) : Option (Nat × Nat) :=
  let w := h.fuse (8 + r)
  if bit 24 w then some (256 * (w % 65536) + w / 65536 % 256, w / 2 ^ 32) else none

/-- The bytes of an entry that a lock record may fix; none where it has no effect (R503). -/
def lockSize (key : Nat) : Option Nat :=
  match odRowOf key with
  | some r => if r.acc = .rw ∧ r.ty ∈ [.bool, .u8, .u16, .u32, .i32] then r.ty.size else none
  | none => none

/-- An entry is under a configuration lock (step 3 of R33). -/
def Hub.locked (h : Hub) (key : Nat) : Bool :=
  (List.range 16).any (fun r => match h.lockRecord r with
    | some (k, _) => decide (k = key) && (lockSize k).isSome
    | none => false)

/-- VALUE stands in place of the Default; a record that has no effect raises FUSE_RECORD_VOID. -/
def Hub.lockDefault (h : Hub) (r : Nat) : Hub :=
  match h.lockRecord r with
  | some (key, v) => match lockSize key with
    | some n => h.put (odEntry key) (trunc (8 * n) v)
    | none => h.fire Ev.fuseRecordVoid []
  | none => h

/-! ### The directory and the Keeper images (R569, R570) -/



/-- VERSION of the Keeper image that entry e names. -/
def Hub.keeperVersion (h : Hub) (e : Nat) : Nat := field (h.flashBytes (h.dirEntry e).2.1 8) 4 4

/-- Entries ordered by VERSION, the highest first; of equal ones the lower entry first. -/
def insertEntry (ver : Nat → Nat) (e : Nat) : List Nat → List Nat
  | [] => [e]
  | x :: t => if ver x < ver e then e :: x :: t else x :: insertEntry ver e t

/-- The Keeper entries as the boot ROM tries them. -/
def Hub.keeperEntries (h : Hub) : List Nat :=
  ((List.range 16).filter (fun e => decide ((h.dirEntry e).1 = 1))).foldl (fun l e => insertEntry h.keeperVersion e l) []

/-- The checks of R569 on the image of entry e: the SHA-256 of its body where it is accepted. -/
def Hub.keeperCheck (h : Hub) (e : Nat) : Hub × Option Bytes :=
  let d := h.dirEntry e
  let head := h.flashBytes d.2.1 64
  let len := field head 8 4
  if head.take 4 ≠ ascii "KFW1" ∨ len < 4 ∨ 196608 < len ∨ len % 4 ≠ 0 then (h, none)
  else
    let image := h.flashBytes d.2.1 (64 + len)
    let hash := Config.sha256 (image.drop 64)
    if crc32.of (h.flashBytes d.2.1 d.2.2.1) ≠ d.2.2.2 ∨ hash ≠ (head.drop 16).take 32 then (h, none)
    else match h.useSlot 0 3 0 with
      | (h1, some _) => (h1, none)
      | (h1, none) =>
        if Config.ecdsaVerify (h1.slot 0).publicKey (Config.sha256 image) (h1.flashBytes (d.2.1 + 64 + len) 64) ∧
            ones 64 (h1.fuse 4) ≤ field head 4 4 / 2 ^ 24 then (h1, some hash)
        else (h1, none)

/-- The first image accepted, in the order given: its entry and measurement. -/
def Hub.keeperPick (h : Hub) : List Nat → Hub × Option (Nat × Bytes)
  | [] => (h, none)
  | e :: t => match h.keeperCheck e with
    | (h1, some m) => (h1, some (e, m))
    | (h1, none) => h1.keeperPick t

/-- CAN port n starts and claims its address (R352). -/
def Hub.canUp (h : Hub) (n : Nat) : Hub := if h.canRuns n then (h.setCan n (h.can n).started).claimStart n else h

/-- The hub stays in the boot ROM (R571). -/
def Hub.romStays (h : Hub) : Hub :=
  ({ h with pwr := { h.pwr with bootPhase := .romStay, keeperMeasure := [] } } : Hub).canUp 0

/-- Slots 0 to 3 are filled (R506): the vendor key, the attestation key and the root derivation key. -/
def Hub.romSlots (h : Hub) : Hub :=
  let k := h.vendorKey
  let v := Config.vendorKey k
  let h1 := if k = 0xFF then h
    else (h.writeSlot 0 3 0xFFFFFFFF (leNat (v.take 32)) true v).writeSlot 1 3 0xFFFFFFFF (leNat (v.drop 32)) true v
  let a := toScalar (leNat (kdf (h.fuse 0) (ascii "HX64 ATTEST") [] 256))
  let r := leNat (kdf (h.fuse 0) (ascii "HX64 ROOT") [] 256)
  (h1.writeSlot 2 2 0xFFFFFFFF a true (Config.publicOf a)).writeSlot 3 4 0xFFFFFFFF r true []

/-- Steps 2 and 3 of R570: the boot ROM runs, and picks the Keeper image, whose body goes to Keeper RAM (R569). The SYSREF, AON
and CORE PLLs have lock, as the core runs. -/
def Hub.bootRom (h : Hub) : Hub :=
  let h1 := (List.range 16).foldl Hub.lockDefault
    ({ h with pwr := { h.pwr with bootPhase := .rom, pllLocked := h.pwr.pllLocked ||| 7 } } : Hub)
  let h2 := h1.domUp 16
  let h3 := (if h2.mode.strap = 5 then h2 else h2.domUp 11).romSlots.tally 0x0F03 0 1
  let l := h3.keeperEntries
  match h3.keeperPick l with
  | (h4, some (e, m)) =>
    let at_ := (h4.dirEntry e).2.1
    let h5 := h4.kramWrite 0x10000000 (h4.flashBytes (at_ + 64) (field (h4.flashBytes at_ 64) 8 4))
    { h5 with pwr := { h5.pwr with bootEntry := e, keeperMeasure := m, fallback := l.any (fun x => decide (h4.keeperVersion e < h4.keeperVersion x)) } }
  | (h4, none) => h4.romStays

/-- Boot begins once VDD_CORE and the crystal are good (R564, R601). -/
def Hub.bootWhenGood (h : Hub) : Hub := if h.pwr.coreLow || h.pwr.xtalStopped then h else h.bootRom

/-! ### Hub reset (R565, R566) -/

/-- The dictionary values that a hub reset keeps: settings of the Beacon and of the mooring block, which stay in force until the
stored configuration is applied, the wake-latch settings, WDT_PERIOD, RESET_FOG_CAUSE and RSTOUT_DELAY. -/
def keptKey (key : Nat) : Bool :=
  let ix := key / 256
  ((decide (0x4000 ≤ ix) && decide (ix < 0x4050)) || decide (ix = 0x4800) || decide (ix = 0x4802) ||
    decide (key ∈ [0x704001, 0x704002, 0x280003, 0x280004, 0x280005])) &&
  match odRowOf key with
  | some r => decide (r.acc = .rw)
  | none => false

/-- Whether a flash operation that a reset cuts short has acted is not stated (log 13): the stored configuration may be void,
an erase or a program may have been carried out. -/
def Hub.flashCut (h : Hub) : Hub :=
  let a := if h.ctl.configOp.isSome then
      let v := h.open_ 1
      (if v.2 = 1 then { v.1 with ctl := { v.1.ctl with stored := none, configWritten := true } } else v.1)
    else h
  match a.pwr.flashOps with
  | [] => a
  | (kind, off, _, data) :: _ =>
    let v := a.open_ 1
    if v.2 = 0 then v.1
    else if kind = 0 then (v.1.configTouched off 4096).flashErase off
    else (v.1.configTouched off data.length).flashPut off (List.zipWith (fun x y => x &&& y) (v.1.flashBytes off data.length) data)

/-- What a hub reset leaves: what R565 keeps, and everything else at its power-on value. -/
def Hub.afterReset (h0 : Hub) (cause : Nat) : Hub :=
  let h := h0.forgetCommands.flashCut
  let count := trunc 32 (h.pwr.resetCount + 1)
  let encs : Tab EncSt := ⟨h.bcn.encs.cells.map (fun c => (c.1, { c.2 with
    state := if c.2.state = .faulted then .running else c.2.state, faultCause := 0, zMiss := 0, qerrTimes := [] }))⟩
  let bearings : Tab BearingSt := ⟨h.bcn.bearings.cells.map (fun c => (c.1, { c.2 with resumed := true, shadow := [] }))⟩
  { Hub.init with
    clock := h.clock, draws := h.draws + 256, out := h.out
    tun := { TunSt.init with genBase := h.draws }
    od := ⟨h.od.cells.filter (fun c => keptKey c.1)⟩
    mode := { ModeSt.init with
      strap := h.mode.strap, active := strapMode h.mode.strap.toNat, confirmed := h.mode.confirmed
      faultN := h.mode.faultN
      fogCause := if h.mode.strap = 5 then 1 else 0 }
    ctl := { CtlSt.init with stored := h.ctl.stored, configWritten := h.ctl.configWritten }
    evt := { EvtSt.init with evtN := h.evt.evtN, keeperIrq := h.evt.keeperIrq }
    links := { LinksSt.init with sf := h.links.sf }
    bcn := { BcnSt.init with
      sfEpoch := h.bcn.sfEpoch, encs := encs, bearings := bearings, baseUnitInUse := h.bcn.baseUnitInUse
      baseFixed := h.bcn.baseFixed, seg := h.bcn.seg }
    moor := h.moor
    sec := { SecSt.init with
      fuses := h.sec.fuses, latched := h.sec.latched
      slots := ⟨h.sec.slots.cells.filter (fun c => !c.2.expire)⟩ }
    pwr := { PwrSt.init with
      resetCause := cause, resetCount := count, bootPhase := .held, droopCount := h.pwr.droopCount, flash := h.pwr.flash
      coreLow := h.pwr.coreLow, xtalStopped := h.pwr.xtalStopped }
    obs := { ObsSt.init with jtag := h.obs.jtag, boundary := h.obs.boundary } }

/-- RSTOUT_N goes low and the Lamp balls go to high impedance (R566). -/
def Hub.resetLines (h was : Hub) : Hub :=
  let h1 := h.emit (.line .rstoutN 0)
  (lampNumbers.filter (fun l => decide ((was.lamp l).state ≠ .off))).foldl (fun h l => h.emit (.line (.lamp l) 2)) h1

/-- A hub reset with its cause: boot begins at step 2 of R570 as soon as it may. -/
def Hub.hubReset (h : Hub) (cause : Nat) : Hub :=
  if h.inPorst then h else ((h.afterReset cause).resetLines h).bootWhenGood

/-! ### Power-on reset (R561, R564, R570) -/

/-- The whole hub is held in power-on reset: nothing is kept but what lies in fuses and flash. -/
def Hub.powerOff (h0 : Hub) : Hub :=
  let h := h0.forgetCommands.flashCut
  let h1 : Hub := { Hub.init with
    draws := h.draws + 256, out := h.out
    tun := { TunSt.init with genBase := h.draws }
    mode := { ModeSt.init with faultN := h.mode.faultN }
    evt := { EvtSt.init with evtN := h.evt.evtN, keeperIrq := h.evt.keeperIrq }
    ctl := { CtlSt.init with stored := h.ctl.stored, configWritten := h.ctl.configWritten }
    sec := { SecSt.init with fuses := h.sec.fuses, latched := h.sec.latched }
    pwr := { PwrSt.init with flash := h.pwr.flash }
    obs := { ObsSt.init with jtag := h.obs.jtag, boundary := h.obs.boundary } }
  if h0.inPorst then h1 else (((h1.resetLines h0).emit (.line .gateKillN 0)).emit (.line .gateCtl 0)).emit (.line .moorDisch 0)

/-- Step 1 of R570: the straps are sampled and the fuses latched, CLOCK starts at 0; then the boot ROM. -/
def Hub.powerOn (h0 : Hub) (strap : Nat) (cause : Nat) : Hub :=
  let h := h0.powerOff
  let h1 : Hub := { h with
    mode := { h.mode with strap := BitVec.ofNat 3 strap, active := strapMode strap, fogCause := if strap = 5 then 1 else 0 }
    sec := { h.sec with latched := h.sec.fuses }
    pwr := { h.pwr with resetCause := cause, bootPhase := .held } }
  h1.bootRom

/-! ### HUB_RESET and chain resets (R568, R578) -/

/-- 1 ms passes. -/
def Hub.afterMs (h : Hub) : Hub := { h with clock := h.clock + 10000000 }

/-- A chain reset has been decided and its last copy has been sent: the hub resets with cause 7. -/
def Hub.chainJudge (h : Hub) : Hub := if h.pwr.chainReset ∧ h.links.fogCopies = [] then h.hubReset 7 else h

/-- The chain-reset fog signal leaves on every link in RUNNING; the reset follows its third copy. -/
def Hub.chainStart (h : Hub) : Hub :=
  let h1 := h.fogOriginate (h.val Od.rstResetFogCause) 0
  ({ h1 with pwr := { h1.pwr with chainReset := true } } : Hub).chainJudge

/-- HUB_RESET, code 0x0112: answered first; no result is written. -/
def Hub.cmdHubReset (h : Hub) (req : Path) (c tag : Nat) (args : Bytes) : Hub :=
  let scope := field args 0 1
  h.issue req c 0x0112 tag args
    (firstAbort [argLen args 1, (decide (1 < scope) || (decide (scope = 1) && decide (h.val Od.rstResetFogCause = 0)), abArg 4)]) none
    (fun h => if scope = 1 then h.afterMs.chainStart else h.afterMs.hubReset 6)

/-! ### Meanings -/

/-- FOG_SIGNAL (R126): a chain reset that finds no link to copy it to acts at once. -/
def execFogSignal (p : Fin 3) (f : FogSignal) (crcOk : Bool) (s : State) := onHub (fun h => (h.heard p crcOk (fun h => h.fogRx p f)).chainJudge) s
/-- FOG_SIGNAL_REPEAT (R126, R568). -/
def execFogSignalRepeat (p : Fin 3) (s : State) := onHub (fun h => (h.fogRepeat p).chainJudge) s
/-- POWER_ON_RESET (R570). -/
def execPowerOnReset (strap : Fin 8) (brownOut : Bool) (s : State) :=
  onPins (fun h => h.powerOn strap.val (if brownOut then 2 else 1)) s
/-- PORST_N_ASSERTED (R564). -/
def execPorstNAsserted (s : State) := onPins Hub.powerOff s
/-- BROWN_OUT of VDD_CORE or of VDD_AON (R561): the power-on reset of the latter goes on with POWER_ON_RESET. -/
def execBrownOut (aon : Bool) (s : State) :=
  onHub (fun h => if aon then h.powerOff else ({ h with pwr := { h.pwr with coreLow := true } } : Hub).hubReset 4) s
/-- VDD_CORE_RESTORED (R601). -/
def execVddCoreRestored (s : State) :=
  onHub (fun h => if h.pwr.coreLow then
    let h1 : Hub := { h with pwr := { h.pwr with coreLow := false } }
    (if h.pwr.bootPhase = .held then h1.bootWhenGood else h1) else h) s
/-- SYSRST (R564). -/
def execSysrst (s : State) := onHub (fun h => h.hubReset 3) s
/-- XTAL_FAULT (R564): AON kills every mooring stage and drives FAULT_N low; the hub is held in reset. -/
def execXtalFault (s : State) :=
  onHub (fun h => if h.pwr.xtalStopped then h else
    let h1 : Hub := { h with pwr := { h.pwr with xtalStopped := true } }
    (if h1.stageConns = [] then h1 else h1.killStage).hubReset 8) s
/-- CRYSTAL_RETURN (R564): XTAL_FAULT is raised at RESET_DONE. -/
def execCrystalReturn (s : State) :=
  onHub (fun h => if h.pwr.xtalStopped then
    let h1 : Hub := { h with pwr := { h.pwr with xtalStopped := false } }
    (if h.pwr.bootPhase = .held then h1.bootWhenGood else h1) else h) s
/-- WDT_EXPIRY (R567). -/
def execWdtExpiry (s : State) :=
  onHub (fun h => if h.pwr.bootPhase = .held then h else h.hubReset 5) s
/-- HUB_RESET with SCOPE 0 (R578). -/
def execHubReset (req : Path) (c : Fin 8) (tag : BitVec 16) (s : State) := onCommand 0x0112 req c tag.toNat [0] (fun h => h.cmdHubReset req c tag.toNat [0]) s
/-- CHAIN_RESET: HUB_RESET with SCOPE 1 (R568). -/
def execChainReset (req : Path) (c : Fin 8) (tag : BitVec 16) (s : State) := onCommand 0x0112 req c tag.toNat [1] (fun h => h.cmdHubReset req c tag.toNat [1]) s
/-- RSTOUT_RELEASE (R566): from the boot ROM on. -/
def execRstoutRelease (s : State) :=
  onHub (fun h => if h.pwr.bootPhase = .held ∨ h.pwr.rstoutN then h
    else ({ h with pwr := { h.pwr with rstoutN := true } } : Hub).emit (.line .rstoutN 1)) s

end Sys2Proof.Machine
end

