-- ==== Sys2Proof/Machine/Commands.lean ====
section
/-!
DEFINITION. The commands by their codes (R58, R59, R64), and the stored configuration (R34, R65).
-/

namespace Sys2Proof.Machine

/-! ### The stored configuration (R34, R65) -/

/-- Keys of a row with its parameters, from a first key. -/
def rowKeys (key : Nat) : List (Nat × Nat) → List Nat
  | [] => [key]
  | d :: t => (List.range d.2).flatMap (fun i => rowKeys (key + d.1 * i) t)

/-- The RW entries outside 0x5000 to 0x6FFF. -/
def savedKeys : List Nat :=
  (odRows.filter (fun r => decide (r.acc = .rw) && !(decide (0x500000 ≤ r.base) && decide (r.base < 0x700000)))).flatMap
    (fun r => (rowKeys r.base r.dims).filter (fun k => !odMissing k && !odConst k))

/-- The values of the RW entries in ascending order. -/
def Hub.configNow (h : Hub) : List (Nat × Bytes) :=
  savedKeys.foldl (fun l k => match odRowOf k with
    | some r => cellsInsert l k (h.odValue r k).2
    | none => l) []

/-- CONFIG_SAVE, code 0x0103, and CONFIG_ERASE, code 0x0104 (R65): the flash works. -/
def Hub.cmdConfig (h : Hub) (op : FlashOp) (code : Nat) (req : Path) (c tag : Nat) (args : Bytes) : Hub :=
  h.issue req c code tag args (firstAbort [argLen args 0]) (firstState [(h.configBusy, stConfigBusy)])
    (fun h => { h with ctl := { h.ctl with configOp := some (op, c) } })

/-- The flash has finished, with or without success. CONFIG_SAVE stores the values as they stand at this moment, which R65 leaves
open (log 54). -/
def Hub.configDone (h : Hub) (ok : Bool) : Hub :=
  match h.ctl.configOp with
  | none => h
  | some (op, c) =>
    let h1 : Hub := { h with ctl := { h.ctl with configOp := none, stored := none, configWritten := true } }
    if !ok then h1.done c (abFailed 1) []
    else if op = .configSave then
      let l := h.configNow
      ({ h1 with ctl := { h1.ctl with stored := some l } } : Hub).done c 0 (u32 l.length)
    else h1.done c 0 []

/-! ### The codes (R64) -/

/-- What a command does: hub, path, channel, tag and arguments. -/
abbrev Command := Hub → Path → Nat → Nat → Bytes → Hub

/-- Commands whose outcome depends on the silicon take it as a free value (log 13). -/
def Hub.luck (h : Hub) : Hub × Bool := ((h.open_ 1).1, decide ((h.open_ 1).2 = 1))

/-- The commands of the hub by code. -/
def commands : List (Nat × Command) := [
  (0x0100, Hub.cmdNop), (0x0101, Hub.cmdModeFog), (0x0102, Hub.cmdModeResume),
  (0x0103, fun h => h.cmdConfig .configSave 0x0103), (0x0104, fun h => h.cmdConfig .configErase 0x0104),
  (0x0110, Hub.cmdDomainSet), (0x0111, Hub.cmdPadRelease), (0x0112, Hub.cmdHubReset), (0x0113, Hub.cmdFlashErase),
  (0x0114, Hub.cmdFlashProgram), (0x0200, Hub.cmdPortRetrain), (0x0201, Hub.cmdPortRateStep), (0x0202, Hub.cmdLaneDrop),
  (0x0203, Hub.cmdLaneRejoin), (0x0210, Hub.cmdFogSend), (0x0300, Hub.cmdTunnelCreate), (0x0301, Hub.cmdTunnelOpen),
  (0x0302, Hub.cmdTunnelClose), (0x0303, Hub.cmdTunnelDestroy), (0x0304, Hub.cmdTunnelModify), (0x0400, Hub.cmdPlanSwitch),
  (0x0401, Hub.cmdMeterColour), (0x0500, Hub.cmdTenderFence),
  (0x0501, fun h req c tag args => h.luck.1.cmdTenderRestore req c tag args h.luck.2),
  (0x0502, Hub.cmdEngineBarrier), (0x0503, Hub.cmdEngineReload), (0x0504, Hub.cmdEngineFence), (0x0600, Hub.cmdClsWrite),
  (0x0601, Hub.cmdClsClear), (0x0602, Hub.cmdClsRead), (0x0603, Hub.cmdEccInject), (0x0604, Hub.cmdScrubNow)]

/-- The commands from code 0x0700 up. -/
def commandsUpper : List (Nat × Command) := [
  (0x0700, Hub.cmdBearingRestore), (0x0701, Hub.cmdBeaconCapture), (0x0702, Hub.cmdProbeNow), (0x0703, Hub.cmdDaymarkPost),
  (0x0704, Hub.cmdDaymarkCancel), (0x0705, Hub.cmdDaymarkRead), (0x0706, Hub.cmdLampSetNow), (0x0707, Hub.cmdLampControl),
  (0x0800, Hub.cmdEthTsRead), (0x0801, Hub.cmdCanRestart), (0x0802, Hub.cmdEmmcReinit), (0x0803, Hub.cmdAddressReclaim),
  (0x0810, Hub.cmdDsiPacket), (0x0820, Hub.cmdUsbWake), (0x0821, Hub.cmdUsbEpHalt), (0x0822, Hub.cmdUsbReconnect),
  (0x0900, Hub.cmdPairSwap), (0x0901, Hub.cmdPairResync), (0x0A00, Hub.cmdMoorRenegotiate), (0x0A01, Hub.cmdMoorRequest),
  (0x0A02, Hub.cmdMoorHardReset), (0x0A03, Hub.cmdMoorResume), (0x0A04, Hub.cmdMoorSendVdm), (0x0A05, Hub.cmdMoorHoldOff),
  (0x0B00, Hub.cmdKeyDerive), (0x0B01, Hub.cmdKeyGenerate), (0x0B02, Hub.cmdKeyLoadPublic), (0x0B03, Hub.cmdKeyErase),
  (0x0B04, Hub.cmdAttest), (0x0B05, fun h req c tag args => h.luck.1.cmdFuseProgram req c tag args h.luck.2),
  (0x0B06, Hub.cmdPairRekey), (0x0B07, Hub.cmdSign), (0x0C00, Hub.cmdEventRaise), (0x0C10, Hub.cmdCntSnapshot),
  (0x0C11, Hub.cmdDebugChallenge), (0x0C12, Hub.cmdDebugUnlock)]

/-- A write of COMMAND of channel c that has passed the checks of R33 (R58, R59). -/
def Hub.command (h : Hub) (req : Path) (c : Nat) (b : Bytes) : Hub :=
  match (commands ++ commandsUpper).find? (fun x => decide (x.1 = field b 0 2)) with
  | some x => x.2 h req c (field b 2 2) (b.drop 4)
  | none => h.withCode req (field b 0 2) (h.answer req abUnknown [])

/-! ### Meanings -/

/-- CONFIG_SAVE (R65). -/
def execConfigSave (req : Path) (c : Fin 8) (tag : BitVec 16) (args : Bytes) (s : State) :=
  onCommand 0x0103 req c.val tag.toNat args (fun h => h.cmdConfig .configSave 0x0103 req c.val tag.toNat args) s
/-- CONFIG_ERASE (R65). -/
def execConfigErase (req : Path) (c : Fin 8) (tag : BitVec 16) (args : Bytes) (s : State) :=
  onCommand 0x0104 req c.val tag.toNat args (fun h => h.cmdConfig .configErase 0x0104 req c.val tag.toNat args) s
/-- CONFIG_FLASH_DONE (R65). -/
def execConfigFlashDone (ok : Bool) (s : State) := onHub (fun h => h.configDone ok) s

end Sys2Proof.Machine
end

