-- ==== Sys2Proof/Machine/Service.lean ====
section
/-!
DEFINITION. The dictionary as Keeper serves it (R30 to R41, R57 to R61), and the paths that reach it: ODAP (R43 to R49), the host
mailbox (R50 to R52) and the SYSTEM tunnel (R53 to R56).
-/

namespace Sys2Proof.Machine

/-! ### The checks of R33 -/

/-- The identity objects (R39). -/
def identityKey (key : Nat) : Bool := decide (key / 256 = 0x1000) || decide (key = 0x200001) || decide (key = 0x200002)

/-- The entries that a hub in the boot ROM holds (R571). -/
def romKey (key : Nat) : Bool :=
  let ix := key / 256
  identityKey key || decide (ix = 0x2800) || (decide (0x5000 ≤ ix) && decide (ix < 0x5008)) || (decide (0x5080 ≤ ix) && decide (ix < 0x5088))

/-- Step 1 of R33, and the state that refuses every other access in strap fault (R30). -/
def Hub.odExists (h : Hub) (path : Path) (key : Nat) : Option Abort :=
  if h.pwr.bootPhase = .romStay ∧ !romKey key then some abNoObject
  else match odHigh (key / 256) with
    | none => some abNoObject
    | some _ =>
      if key % 256 ≠ 0 ∧ (odRowOf key).isNone then some abNoSub
      else if h.mode.active = .strapFault ∧ path ≠ .keeper ∧ !identityKey key then some (abState stStrapFault)
      else none

/-- A refusal of a read with the hub as the read leaves it. -/
def refuse (h : Hub) (a : Abort) : Hub × Abort × Bytes := (h, a, [])

/-- What a read of an entry gives beyond the checks of R33: RESULT (R61), SAMPLE_FULL (R300), LANE_EQ as the lane has adapted (R83, R84), and the tunnel records, whose words
may be damaged (R263). -/
def Hub.odFetch (h : Hub) (r : OdRow) (key : Nat) : Hub × Abort × Bytes :=
  let ix := key / 256
  match within ix 0x5080 8 with
  | some c =>
    if key % 256 = 1 then match (h.chan c).state with
      | .running => refuse h abBusy
      | .idle => refuse h (abState stChannelIdle)
      | .done => (h, 0, (h.chan c).result)
    else (h, 0, (h.odValue r key).2)
  | none =>
    if key = 0x404001 ∧ h.followPort.isSome ∧ h.bcn.timebase ≠ .locked then refuse h (abState stLinkDown)
    else
      let d := match within ix 0x3400 256 with
        | some i => h.ctxRead 5 i
        | none => (h, false)
      if d.2 then refuse d.1 (abHardware Ev.eccUncorrectable)
      else
        let g := match within ix 0x3010 5 with
          | some n => if key % 256 = 2 then d.1.laneAdapt n else d.1
          | none => d.1
        let v := g.odValue r key
        (v.1, 0, v.2)

/-- A read in the order of steps 1, 2 and 4 (R33). -/
def Hub.odRead (h : Hub) (path : Path) (key : Nat) : Hub × Abort × Bytes :=
  match h.odExists path key with
  | some a => refuse h a
  | none => match odRowOf key with
    | none => if h.pathDenied path false then refuse h abDenied else (h, 0, u8 ((odHigh (key / 256)).getD 0))
    | some r =>
      if r.acc = .wo then refuse h abWriteOnly
      else if h.pathDenied path false then refuse h abDenied
      else h.odFetch r key

/-- An entry that takes no write: RO, CONST, the subindexes 0, and STAGE_QUOTA_OUT of ingresses 12 and 13 (R266). -/
def odReadOnly (key : Nat) : Bool :=
  match odRowOf key with
  | some r => decide (r.acc = .ro) || decide (r.acc = .const) || odConst key
  | none => true

/-- The seven checks on a write, in order (R33). -/
def Hub.odWriteBad (h : Hub) (path : Path) (key : Nat) (b : Bytes) : Option Abort :=
  match h.odExists path key with
  | some a => some a
  | none =>
    if odReadOnly key then some abReadOnly
    else if h.locked key then some abLocked
    else if h.pathDenied path true then some abDenied
    else match odRowOf key with
      | some r => h.odRefuse r key b
      | none => none

/-- A write that has passed the checks takes effect, and the mirror is told (R450). -/
def Hub.odApply (h : Hub) (key : Nat) (b : Bytes) : Hub :=
  match odRowOf key with
  | some r => (h.odPut r key b).odNoted key (leNat b)
  | none => h

/-! ### Keeper serves accesses one at a time (R36) -/

/-- The mirror holds the answer of a mirrored write until its record is acknowledged (R451). -/
def Hub.mirrorHolds (h : Hub) (key : Nat) : Bool := mirroredKey key && h.mirroring && h.pair.inStep && decide (h.pair.unacked ≠ [])

/-- A read is served. -/
def Hub.serveRead (h : Hub) (a : Access) : Hub :=
  let r := h.odRead a.path (256 * a.index + a.sub)
  (r.1.answer a.path r.2.1 r.2.2).keeperLeave a

/-- A write is served; Keeper waits behind one whose answer the mirror holds. -/
def Hub.serveWrite (h : Hub) (a : Access) (b : Bytes) : Hub :=
  let key := 256 * a.index + a.sub
  match h.odWriteBad a.path key b with
  | some x => (h.answer a.path x []).keeperLeave a
  | none =>
    match within a.index 0x5000 8 with
    | some c => (h.command a.path c b).keeperLeave a
    | none =>
      let h1 := h.odApply key b
      if h1.mirrorHolds key then
        let q := h1.ctl.keeperQ.map (fun x => if x = a then { x with served := true } else x)
        ({ h1 with ctl := { h1.ctl with keeperQ := q } } : Hub).endMirrored (.write a.path)
      else (h1.answer a.path 0 []).keeperLeave a

/-- The access at the head of Keeper's queue that awaits service. -/
def Hub.keeperHead (h : Hub) : Option Access :=
  if h.keeperUp then match h.ctl.keeperQ with
    | a :: _ => if a.served then none else some a
    | [] => none
  else none

/-- Keeper serves a read, where one stands at the head. -/
def Hub.keeperRead (h : Hub) : Hub :=
  match h.keeperHead with
  | some a => if a.write = none then h.serveRead a else h
  | none => h

/-- Keeper serves a write, where one stands at the head. -/
def Hub.keeperWrite (h : Hub) : Hub :=
  match h.keeperHead with
  | some a => match a.write with
    | some b => h.serveWrite a b
    | none => h
  | none => h

/-- A write of an entry by a path: the rows of single entries. -/
def Hub.odWriteBy (h : Hub) (path : Path) (key : Nat) (b : Bytes) : Hub :=
  h.turn (accessOf path key (some b)) (fun h => h.serveWrite (accessOf path key (some b)) b)

/-- A read of an entry by a path. -/
def Hub.odReadBy (h : Hub) (path : Path) (key : Nat) : Hub :=
  h.turn (accessOf path key none) (fun h => h.serveRead (accessOf path key none))

/-! ### ODAP (R43 to R49) -/

/-- The hub accepts ODAP requests on CAN port n (R41, R43). -/
def Hub.odapOn (h : Hub) (n : Nat) : Bool :=
  (bit n (h.val Od.odapOdapPorts) || (decide (n = 0) && h.inFog)) && decide (h.claimed n ≠ 254) && h.keeperUp

/-- A Proprietary A frame that does not follow the section is ignored and counted (R43). -/
def Hub.odapIgnore (h : Hub) : Hub := { h with ctl := { h.ctl with odapIgnored := h.ctl.odapIgnored + 1 } }

/-- An initiate frame's expedited data (R46): none where it is not expedited or gives no valid number of bytes. -/
def odapExpedited (fd : Bool) (b : Bytes) : Option Bytes :=
  let s := field b 0 1
  if !bit 3 s then none
  else if fd then (if field b 4 1 ≤ 59 then some ((b.drop 5).take (field b 4 1)) else none)
  else if 1 ≤ s % 8 ∧ s % 8 ≤ 4 then some ((b.drop 4).take (s % 8)) else none

/-- An initiate frame of a form that R46 does not give: bit 4 set, a data length out of range, or field [2:0] of the FD form. -/
def odapMalformed (fd : Bool) (b : Bytes) : Bool :=
  let s := field b 0 1
  bit 4 s || (bit 3 s && (odapExpedited fd b).isNone) || (fd && decide (s % 8 ≠ 0))

/-- Initiate download (R47): expedited data goes to Keeper, a size opens a segmented transfer. -/
def Hub.odapDownload (h0 : Hub) (n : Fin 6) (client : Byte) (b : Bytes) : Hub :=
  let fd := h0.odapFd n
  if odapMalformed fd b then h0.odapIgnore
  else
    let h := h0.odapReplace n client.toNat
    let ix := field b 1 2
    let sub := field b 3 1
    let t : OdapTransfer := ⟨n, client, ix, sub, true, 0, [], false, false, false⟩
    match odapExpedited fd b with
    | some d => (h.putTransfer { t with size := d.length, data := d, complete := true }).keeperTake (.odap n client) ix sub (some d)
    | none =>
      let size := field b (if fd then 5 else 4) 4
      (h.putTransfer { t with size := size, segmented := true }).odapSend n client.toNat (odapInitiate fd 5 ix sub none none)

/-- The hub aborts the open transfer of a client over a frame: a download whose data have all arrived acts all the same, and its
outcome answers nothing later (R48, R49). Where no transfer is open, index and subindex of the abort are 0 (log 55). -/
def Hub.odapFail (h : Hub) (n : Fin 6) (client : Byte) (code : Abort) : Hub :=
  match h.transfer? n client.toNat with
  | some t => (h.odapReplace n client.toNat).odapAbort n client.toNat t.index t.sub code
  | none => h.odapAbort n client.toNat 0 0 code

/-- A download segment (R48): toggle, then size and final flag; each is acknowledged, the last one with the outcome. A frame whose
field [2:0] is not 0 does not follow the section (R43). A segment of a transfer that takes none ends it (log 55). -/
def Hub.odapSegment (h : Hub) (n : Fin 6) (client : Byte) (b : Bytes) : Hub :=
  let s := field b 0 1
  let final := bit 3 s
  if s % 8 ≠ 0 then h.odapIgnore
  else match h.transfer? n client.toNat with
  | none => h.odapFail n client (abProtocol 4)
  | some t =>
    if !t.download || !t.segmented || t.complete then h.odapFail n client (abProtocol 4)
    else if bit 4 s ≠ t.toggle then h.odapFail n client (abProtocol 2)
    else
      let room := if h.odapFd n then 63 else 7
      let left := t.size - t.data.length
      if final ≠ decide (left ≤ room) then h.odapFail n client (abProtocol 3)
      else
        let data := t.data ++ (b.drop 1).take (min left room)
        if final then
          (h.putTransfer { t with data := data, complete := true }).keeperTake (.odap n client) t.index t.sub (some data)
        else
          (h.putTransfer { t with data := data, toggle := !t.toggle }).odapSend n client.toNat (u8 (6 * 32 + 16 * b2n t.toggle))

/-- An initiate frame that carries no data, of a form that R46 does not give: bit 4 set, or field [2:0] of the FD form. -/
def odapHeadBad (fd : Bool) (b : Bytes) : Bool := bit 4 (field b 0 1) || (fd && decide (field b 0 1 % 8 ≠ 0))

/-- Initiate upload (R47): the read goes to Keeper. -/
def Hub.odapUpload (h0 : Hub) (n : Fin 6) (client : Byte) (b : Bytes) : Hub :=
  if odapHeadBad (h0.odapFd n) b then h0.odapIgnore
  else
    let h := h0.odapReplace n client.toNat
    let ix := field b 1 2
    let sub := field b 3 1
    (h.putTransfer ⟨n, client, ix, sub, false, 0, [], false, false, false⟩).keeperTake (.odap n client) ix sub none

/-- An upload segment request (R48): the next part of the value as it stood when the transfer was initiated. -/
def Hub.odapSegmentRequest (h : Hub) (n : Fin 6) (client : Byte) (b : Bytes) : Hub :=
  let s := field b 0 1
  if s % 8 ≠ 0 then h.odapIgnore
  else match h.transfer? n client.toNat with
  | none => h.odapFail n client (abProtocol 4)
  | some t =>
    if t.download || !t.segmented then h.odapFail n client (abProtocol 4)
    else if bit 4 s ≠ t.toggle then h.odapFail n client (abProtocol 2)
    else
      let room := if h.odapFd n then 63 else 7
      let final := decide (t.data.length ≤ room)
      let reply := u8 (6 * 32 + 16 * b2n t.toggle + 8 * b2n final) ++ t.data.take room
      let h1 := if final then h.dropTransfer n client.toNat else h.putTransfer { t with data := t.data.drop room, toggle := !t.toggle }
      h1.odapSend n client.toNat reply

/-- The client aborts: its transfer ends, and nothing is answered (R49). A download whose data have all arrived stays with Keeper.
An abort frame carries E at 0 (R46). -/
def Hub.odapClientAbort (h : Hub) (n : Fin 6) (client : Byte) (b : Bytes) : Hub :=
  if odapHeadBad (h.odapFd n) b || bit 3 (field b 0 1) then h.odapIgnore else h.odapReplace n client.toNat

/-- A frame of the reserved kind (R45): its abort ends the client's open transfer, as every abort does (log 55). -/
def Hub.odapReserved (h : Hub) (n : Fin 6) (client : Byte) : Hub := h.odapFail n client (abProtocol 1)

/-- The ODAP frame of a client on CAN port n, its data field as received: ignored where R43 or R44 says so. -/
def Hub.odapFrame (h : Hub) (n : Fin 6) (client : Byte) (fd : Bool) (b : Bytes) : Hub :=
  if !h.odapOn n.val || fd ≠ h.odapFd n.val || b.length ≠ (if fd then 64 else 8) then h.odapIgnore
  else match field b 0 1 / 32 with
    | 0 => h.odapSegment n client b
    | 1 => h.odapDownload n client b
    | 2 => h.odapUpload n client b
    | 3 => h.odapSegmentRequest n client b
    | 4 => h.odapClientAbort n client b
    | 7 => h.odapReserved n client
    | _ => h.odapIgnore

/-- A frame of one kind: the row's specifier kind stands in the frame. -/
def withKind (kind : Nat) (b : Bytes) : Bytes := u8 (kind * 32 + field b 0 1 % 32) ++ b.drop 1

/-- ODAP_TIMEOUT elapses between two frames of a transfer (R49). -/
def Hub.odapTimeout (h : Hub) (n : Fin 6) (client : Byte) : Hub := match h.transfer? n client.toNat with
  | some t => if t.segmented && !t.complete then h.odapAbort n client.toNat t.index t.sub abTimeout else h
  | none => h

/-! ### The host mailbox (R50 to R52) -/

/-- BUSY. -/
def Mailbox.busy (m : Mailbox) : Bool := decide (m.phase ≠ .idle)

/-- START is taken up (R50, R54). -/
def Hub.mbxStart (h : Hub) : Hub :=
  let m := h.ctl.mailbox
  let phase (h : Hub) (p : MbxPhase) : Hub := { h with ctl := { h.ctl with mailbox := { h.ctl.mailbox with phase := p } } }
  let write := if m.op = 1 then some (m.data.take m.len ++ List.replicate (m.len - m.data.length) 0) else none
  if 2 ≤ m.op then phase h (.outcome (abProtocol 5) [])
  else if 1024 < m.len then phase h (.outcome abLength [])
  else if m.target = 0 then (phase h .localAccess).keeperTake .mailbox m.index m.sub write
  else match h.sysAsk m.target true m.index m.sub write with
    | (h1, some a) => phase h1 (.outcome a [])
    | (h1, none) => phase h1 (.remote h.ctl.nextReqId)

/-- A write of MBX_CTRL: the W1C of DONE acts first, then START is judged (R51). -/
def Hub.mbxCtrl (h : Hub) (v : Nat) : Hub :=
  if !h.domOn 11 then h
  else
    let m := h.ctl.mailbox
    let op := if m.busy then m.op else bits 5 4 v
    let m1 : Mailbox := { m with op := op, doneEvtEn := bit 3 v, done := m.done && !bit 2 v }
    let h1 : Hub := { h with ctl := { h.ctl with mailbox := m1 } }
    if bit 0 v ∧ !m1.busy ∧ !m1.done then h1.mbxStart else h1

/-- The running access completes: data, status, then BUSY and DONE, in that order (R51). -/
def Hub.mbxComplete (h : Hub) : Hub :=
  let m := h.ctl.mailbox
  match m.phase with
  | .outcome status data =>
    let read := decide (m.op = 0) && decide (status = 0)
    let m1 : Mailbox := { m with
      len := if read then data.length else m.len, data := if read then data ++ m.data.drop data.length else m.data
      status := status, done := true, phase := .idle }
    let h1 : Hub := { h with ctl := { h.ctl with mailbox := m1 } }
    if m.doneEvtEn then h1.fire Ev.mbxDone [] else h1
  | _ => h

/-! ### SYSTEM-tunnel requests (R53 to R56) -/

/-- The requests of one originating hub that are outstanding here (R36, R37). -/
def Hub.fromOrigin (h : Hub) (p : Fin 3) (depth : Byte) : Nat :=
  (h.ctl.keeperQ.filter (fun a => match a.path with
    | .system q d _ => decide (q = p) && decide (d = depth)
    | _ => false)).length

/-- A response by the hub to a request that it does not serve. -/
def Hub.sysRefuse (h : Hub) (p : Fin 3) (m : SysMsg) (a : Abort) : Hub := h.sysRespond p.val m.originDepth m.reqId m.op m.index m.sub a []

/-- A request arrives on link p: it is relayed, answered, or refused (R37, R55). -/
def Hub.sysRequest (h : Hub) (p : Fin 3) (m : SysMsg) : Hub :=
  if !h.sysOpen p.val then h
  else if 1 < m.hopsLeft then
    match h.onward m.direction with
    | some q =>
      if h.sysOpen q then
        let r : SysRelay := ⟨m.reqId.toNat, m.originDepth.toNat, p.val, q⟩
        ({ h with ctl := { h.ctl with relays := h.ctl.relays ++ [r] } } : Hub).sysOut q { m with hopsLeft := m.hopsLeft - 1 }
      else h.sysRefuse p m abNoRoute
    | none => h.sysRefuse p m abNoRoute
  else if 8 ≤ h.fromOrigin p m.originDepth then h.sysRefuse p m abNoResource
  else h.keeperTake (.system p m.originDepth m.reqId) m.index.toNat m.sub.toNat (if m.op = 2 then some m.data else none)

/-- A command passed to another hub goes on (R107, R467): its COMMAND has been written, then its RESULT is read until it is done. -/
def Hub.remoteStep (h : Hub) (r : RemoteCmd) (write : Bool) (status : Nat) (data : Bytes) : Hub :=
  let out : Hub := { h with ctl := { h.ctl with remote := h.ctl.remote.filter (fun x => decide (x ≠ r)) } }
  let again : Hub := match out.sysAsk r.target false 0x5083 1 none with
    | (h1, none) => { h1 with ctl := { h1.ctl with remote := h1.ctl.remote ++ [⟨r.channel, r.target, out.ctl.nextReqId, true⟩] } }
    | (h1, some a) => h1.done r.channel a []
  if write then (if status = 0 then again else out.done r.channel status [])
  else if status = abBusy then again
  else if status ≠ 0 then out.done r.channel status []
  else out.done r.channel (field data 4 4) (data.drop 8)

/-- A request of this hub has its outcome. -/
def Hub.requestOut (h : Hub) (r : SysRequest) (status : Nat) (data : Bytes) : Hub :=
  let h1 : Hub := { h with ctl := { h.ctl with requests := h.ctl.requests.filter (fun x => decide (x.reqId ≠ r.reqId)) } }
  if r.byMailbox then
    (if h1.ctl.mailbox.phase = .remote r.reqId then
      { h1 with ctl := { h1.ctl with mailbox := { h1.ctl.mailbox with phase := .outcome status data } } } else h1)
  else match h1.ctl.remote.find? (fun c => decide (c.reqId = r.reqId)) with
    | some c => h1.remoteStep c r.write.isSome status data
    | none => if r.index = 0x4040 ∧ status = 0 then h1.takeSampleFull data else h1

/-- The requests that wait for a target leave in order while fewer than eight are outstanding (R37); one that finds no OPEN SYSTEM
tunnel on its way ends with NO_ROUTE (R55). -/
def Hub.sysPump (target : Nat) : Nat → Hub → Hub
  | 0, h => h
  | n + 1, h =>
    if 8 ≤ h.ctl.sentTo target then h
    else match h.ctl.requests.find? (fun r => decide (r.target = target) && !r.sent) with
      | none => h
      | some r => Hub.sysPump target n (match h.sysPort target with
        | some (p, direction, hops) => h.sysSend r p direction hops
        | none => h.requestOut r abNoRoute [])

/-- A request of this hub ends with its outcome, and those waiting for its target follow (R37). -/
def Hub.requestEnds (h : Hub) (r : SysRequest) (status : Nat) (data : Bytes) : Hub :=
  Hub.sysPump r.target h.ctl.requests.length (h.requestOut r status data)

/-- A response arrives on link p: to the request of this hub, or back along the route (R55); otherwise it is late. -/
def Hub.sysResponse (h : Hub) (p : Fin 3) (m : SysMsg) : Hub :=
  if !h.sysOpen p.val then h
  else match h.ctl.relays.find? (fun r => decide (r.reqId = m.reqId.toNat) && decide (r.originDepth = m.originDepth.toNat) && decide (r.toPort = p.val)) with
    | some r =>
      let h1 : Hub := { h with ctl := { h.ctl with relays := h.ctl.relays.erase r } }
      h1.sysOut r.fromPort { m with hopsLeft := m.hopsLeft - 1, direction := h1.directionOf r.fromPort }
    | none => match h.ctl.requests.find? (fun r => decide (r.reqId = m.reqId.toNat) && r.sent) with
      | some r => h.requestEnds r m.status.toNat m.data
      | none => { h with ctl := { h.ctl with lateResponses := h.ctl.lateResponses + 1 } }

/-- REMOTE_TIMEOUT passes for a request that has been sent. -/
def Hub.remoteTimeout (h : Hub) (reqId : Nat) : Hub :=
  match h.ctl.requests.find? (fun r => decide (r.reqId = reqId) && r.sent) with
  | some r => h.requestEnds r abRemoteTimeout []
  | none => h

/-! ### Meanings -/

/-- OD_READ (R33): an access of Keeper firmware itself joins the queue; the read at the head of the queue is served. -/
def execOdRead (own : Option (BitVec 16 × Byte)) (s : State) :=
  onHub (fun h => match own with
    | some e => (h.keeperTake .keeper e.1.toNat e.2.toNat none).keeperRead
    | none => h.keeperRead) s
/-- OD_WRITE (R33). -/
def execOdWrite (own : Option (BitVec 16 × Byte × Bytes)) (s : State) :=
  onHub (fun h => match own with
    | some e => (h.keeperTake .keeper e.1.toNat e.2.1.toNat (some e.2.2)).keeperWrite
    | none => h.keeperWrite) s
/-- RESULT_READ (R61). -/
def execResultRead (path : Path) (c : Fin 8) (s : State) := onHub (fun h => h.odReadBy path (Od.cmdResult c).key) s
/-- INITIATE_DOWNLOAD (R47). -/
def execInitiateDownload (n : Fin 6) (client : Byte) (fd : Bool) (b : Bytes) (s : State) :=
  onHub (fun h => h.odapFrame n client fd (withKind 1 b)) s
/-- DOWNLOAD_SEGMENT (R48). -/
def execDownloadSegment (n : Fin 6) (client : Byte) (fd : Bool) (b : Bytes) (s : State) :=
  onHub (fun h => h.odapFrame n client fd (withKind 0 b)) s
/-- INITIATE_UPLOAD (R47). -/
def execInitiateUpload (n : Fin 6) (client : Byte) (fd : Bool) (b : Bytes) (s : State) :=
  onHub (fun h => h.odapFrame n client fd (withKind 2 b)) s
/-- UPLOAD_SEGMENT_REQUEST (R48). -/
def execUploadSegmentRequest (n : Fin 6) (client : Byte) (fd : Bool) (b : Bytes) (s : State) :=
  onHub (fun h => h.odapFrame n client fd (withKind 3 b)) s
/-- ODAP_ABORT (R49). -/
def execOdapAbort (n : Fin 6) (client : Byte) (fd : Bool) (b : Bytes) (s : State) :=
  onHub (fun h => h.odapFrame n client fd (withKind 4 b)) s
/-- ODAP_RESERVED_FRAME (R45). -/
def execOdapReservedFrame (n : Fin 6) (client : Byte) (fd : Bool) (b : Bytes) (s : State) :=
  onHub (fun h => h.odapFrame n client fd (withKind 7 b)) s
/-- ODAP_TIMEOUT (R49). -/
def execOdapTimeout (n : Fin 6) (client : Byte) (s : State) := onHub (fun h => h.odapTimeout n client) s
/-- MBX_READ (R51): MBX_CTRL is written with START and OP read, DONE and DONE_EVT_EN as given. -/
def execMbxRead (done evtEn : Bool) (s : State) := onHub (fun h => h.mbxCtrl (1 + 4 * b2n done + 8 * b2n evtEn)) s
/-- MBX_WRITE (R51). -/
def execMbxWrite (done evtEn : Bool) (s : State) := onHub (fun h => h.mbxCtrl (17 + 4 * b2n done + 8 * b2n evtEn)) s
/-- MBX_COMPLETE (R51). -/
def execMbxComplete (s : State) := onHub Hub.mbxComplete s
/-- SYSTEM_REQUEST (R55). -/
def execSystemRequest (p : Fin 3) (m : SysMsg) (s : State) := onHub (fun h => h.sysRequest p m) s
/-- SYSTEM_RESPONSE (R55). -/
def execSystemResponse (p : Fin 3) (m : SysMsg) (s : State) := onHub (fun h => h.sysResponse p m) s
/-- REMOTE_TIMEOUT (R55). -/
def execRemoteTimeout (reqId : BitVec 16) (s : State) := onHub (fun h => h.remoteTimeout reqId.toNat) s
/-- MODE_CONFIRM (R16): a write of OD 0x2000.03. -/
def execModeConfirm (req : Path) (v : Byte) (s : State) := onHub (fun h => h.odWriteBy req Od.modeModeConfirm.key (u8 v.toNat)) s
/-- EMMC_INIT (R355): a write of 1 to ENABLE. -/
def execEmmcInit (req : Path) (s : State) := onHub (fun h => h.odWriteBy req Od.emmcEnable.key (u8 1)) s
/-- SHOW_SLOT_WRITE (R373). -/
def execShowSlotWrite (req : Path) (slot : Fin 4) (s : State) := onHub (fun h => h.odWriteBy req Od.dsiShowSlot.key (u8 slot.val)) s
/-- CH_FEED (R524, R526). -/
def execChFeed (req : Path) (c : Fin 16) (data : Bytes) (s : State) := onHub (fun h => h.odWriteBy req (0x4C6006 + 256 * c.val) data) s
/-- CH_START (R526). -/
def execChStart (req : Path) (c : Fin 16) (v : Bool) (s : State) := onHub (fun h => h.odWriteBy req (0x4C6007 + 256 * c.val) (u8 (b2n v))) s
/-- SELECT_WRITE (R582). -/
def execSelectWrite (req : Path) (n : Fin 96) (v : Word) (s : State) := onHub (fun h => h.odWriteBy req (Od.cntSelect n).key (u32 v.toNat)) s
/-- CMP_CONFIG_WRITE (R583): OCC, INSTANCE or N. -/
def execCmpConfigWrite (req : Path) (k : Fin 32) (which : Fin 3) (v : Word) (s : State) :=
  onHub (fun h =>
    let e := if which = 0 then Od.cmpOcc k else if which = 1 then Od.cmpInstance k else Od.cmpN k
    let n := match odRowOf e.key with
      | some r => r.ty.size.getD 4
      | none => 4
    h.odWriteBy req e.key (leBytes n v.toNat)) s
/-- OBS_ENABLE_WRITE (R586): by a path, or in OBS_CTRL. -/
def execObsEnableWrite (req : Option Path) (v : Bool) (s : State) :=
  onHub (fun h => match req with
    | some p => h.odWriteBy p Od.obsObsEnable.key (u8 (b2n v))
    | none => h.obsEnable v) s
/-- OBS_GROUP_WRITE (R586). -/
def execObsGroupWrite (req : Option Path) (v : Byte) (s : State) :=
  onHub (fun h => match req with
    | some p => h.odWriteBy p Od.obsObsGroup.key (u8 v.toNat)
    | none => h.obsGroup v.toNat) s

end Sys2Proof.Machine
end

