-- ==== Sys2Proof/Machine/CanBus.lean ====
section
/-!
DEFINITION. Frames from a CAN bus and their two consumers (R24, R43, R44, R346, R350 to R352).
-/

namespace Sys2Proof.Machine

/-- What the hub itself does with an extended frame: ISO 11783 address claim (R352) and ODAP (R43). -/
def Hub.canOwn (h : Hub) (n : Fin 6) (f : CanFrame) : Hub :=
  let src := f.id % 256
  let ps := f.id / 2 ^ 8 % 256
  let pf := f.id / 2 ^ 16 % 256
  let x := h.can n.val
  let mine := decide (h.claimed n.val ≠ 254) && decide (ps = h.claimed n.val)
  if !f.extended ∨ f.id / 2 ^ 24 % 4 ≠ 0 then h
  else if pf = 0xEF then (if mine then h.odapFrame n (BitVec.ofNat 8 src) f.fd f.data else h)
  else if pf = 0xEE ∧ f.data.length = 8 then h.addressClaimed n.val src (leNat f.data)
  else if pf = 0xEA ∧ field f.data 0 3 = 0xEE00 ∧ (mine ∨ ps = 0xFF) then h.claimRequest n.val
  else if (pf = 0xFE ∧ ps = 0xD8) ∨ (pf = 0xEC ∧ field f.data 0 1 = 32 ∧ field f.data 5 3 = 0xFED8) then
    h.setCan n.val { x with commandedIgnored := x.commandedIgnored + 1 }
  else h

/-- A frame without error is received on CAN port n: both consumers are offered it (R350). -/
def Hub.canFrameRx (h : Hub) (n : Fin 6) (f : CanFrame) : Hub :=
  (((h.tally 0x0801 (0x20 + n.val) 1).canReceived n.val).canOwn n f).canClassify n.val f

/-- A remote frame is counted and discarded (R346). -/
def Hub.canRemote (h : Hub) (n : Nat) : Hub :=
  let h1 := (h.tally 0x0801 (0x20 + n) 1).canReceived n
  h1.setCan n { h1.can n with remoteFrames := (h1.can n).remoteFrames + 1 }

/-- The controller takes part on the bus. -/
def Hub.canOnBus (h : Hub) (n : Nat) : Bool := h.canRuns n && decide ((h.can n).bus = .active ∨ (h.can n).bus = .passive)

/-- The winner of the bus leaves; in loopback it returns as a received frame (R589). -/
def Hub.canSend (h : Hub) (n : Fin 6) : Hub :=
  let h1 := h.canFrameTx n.val
  if h.canOnBus n.val && h.loopOn (13 + n.val) && decide (h.val (Od.canListenOnly n.val) = 0) then
    match canWinner (h.can n.val).slots with
    | some s => h1.canFrameRx n s.2
    | none => h1
  else h1

/-! ### Meanings -/

/-- CAN_FRAME_RX (R350). -/
def execCanFrameRx (n : Fin 6) (f : CanFrame) (remote : Bool) (s : State) :=
  onHub (fun h => if h.canOnBus n.val then (if remote then h.canRemote n.val else h.canFrameRx n f) else h) s
/-- CAN_FRAME_TX (R351). -/
def execCanFrameTx (n : Fin 6) (s : State) := onHub (fun h => h.canSend n) s

end Sys2Proof.Machine
end

