-- ==== Sys2Proof/Machine/Registers.lean ====
section
/-!
DEFINITION. The registers (R9, R420): what a read of each one returns, what a write does, and the MEMORY end that reaches them
from another hub (R424, R427).
-/

namespace Sys2Proof.Machine

/-! ### Words and addresses -/

/-- A word made of fields, each by its lowest bit and its value. -/
def packed (l : List (Nat × Nat)) : Nat := (l.map (fun f => f.2 * 2 ^ f.1)).sum

/-- The bits below n for which a condition holds. -/
def bitWord (n : Nat) (f : Nat → Bool) : Nat := (((List.range n).filter f).map (fun j => 2 ^ j)).sum

/-- The block of a family that an address lies in, and the offset in it. -/
def regIn (a base stride count : Nat) : Option (Nat × Nat) :=
  if base ≤ a ∧ a < base + stride * count then some ((a - base) / stride, (a - base) % stride) else none

/-- The bits of a word that byte enables let through. -/
def laneMask (be : Nat) : Nat := packed ((List.range 4).map (fun i => (8 * i, if bit i be then 0xFF else 0)))

/-- Bits under a mask from a value, the others from the word that stands. -/
def merged (m old v : Nat) : Nat := (old ^^^ (old &&& m)) ||| (v &&& m)

/-! ### What a read returns, block by block -/

/-- Lane n (R108). -/
def Hub.laneReg (h : Hub) (n o : Nat) : Nat :=
  let x := h.lane n
  let tap (k w : Nat) : Nat := ofSigned w (x.dfe.getD k 0)
  match o with
  | 0x00 => packed [(0, x.state.code), (4, (h.port (lanePort n)).rate), (6, b2n x.los), (7, b2n x.lol), (8, b2n x.txQuiet),
      (9, b2n x.rxQuiet), (10, b2n x.polInv), (11, b2n x.swap), (12, b2n (h.port (lanePort n)).leader)]
  | 0x04 => packed [(0, x.ctle), (8, x.txPre), (16, x.txPost), (24, x.txMain)]
  | 0x08 => packed [(0, tap 0 7), (8, tap 1 6), (16, tap 2 6), (24, tap 3 6)]
  | 0x0C => packed [(0, tap 4 6), (8, tap 5 6), (16, tap 6 6), (24, tap 7 6)]
  | 0x10 => packed [(0, x.eyeHeight), (16, x.eyeWidth)]
  | 0x14 => h.reg (Rg.laneCfg n)
  | 0x18 => h.reg (Rg.laneFlags n)
  | 0x20 => h.reg (Rg.patCtrl n) + packed [(16, b2n x.chkLock), (17, b2n x.chkSat)]
  | 0x24 => h.reg (Rg.patUser n 0)
  | 0x28 => h.reg (Rg.patUser n 1)
  | 0x2C => h.reg (Rg.patUser n 2)
  | 0x30 => x.errCount
  | _ => 0

/-- Link p (R139). -/
def Hub.linkReg (h : Hub) (p o : Nat) : Nat :=
  let x := h.link p
  match o with
  | 0x00 => packed [(0, x.state.code), (5, x.replay.length), (16, h.number ((0x3020 + p) * 256 + 3)), (24, h.number ((0x3020 + p) * 256 + 2))]
  | 0x04 => trunc 32 h.links.sf
  | 0x08 => h.reg (Rg.linkFlags p)
  | 0x0C => packed [(0, x.txNext), (16, x.acked)]
  | 0x10 => x.rxNext
  | _ => 0

/-- TUNNEL_STATEk and TUNNEL_FAULTEDk (R177). -/
def Hub.tunnelReg (h : Hub) (o : Nat) : Nat :=
  if o < 0x80 then packed ((List.range 8).map (fun j => (4 * j, h.number ((0x3400 + (2 * o + j)) * 256 + 2) % 16)))
  else if 0x100 ≤ o ∧ o < 0x120 then bitWord 32 (fun j => decide (h.tun.faulted.get 0 (8 * (o - 0x100) + j) = 1))
  else 0

/-- The plan registers (R208). -/
def Hub.planReg (h : Hub) (o : Nat) : Nat :=
  let x := h.plan
  match o with
  | 0x00 => packed [(0, x.activePlan), (4, match x.pending with
      | some q => q.1
      | none => 0), (7, b2n x.pending.isSome), (8, h.blindReasons), (24, x.switchSeq)]
  | 0x04 => h.number 0x380003
  | 0x08 => h.reg Rg.planFlags
  | 0x0C => bitWord 32 (fun e => decide (h.demotedOn e x.activePlan ≠ []))
  | _ => 0

/-- The engine registers (R236). -/
def Hub.engReg (h : Hub) (o : Nat) : Nat :=
  let x := h.eng
  match o with
  | 0x00 => packed [(0, h.serviceList.length), (8, x.pinA), (16, x.pinB), (24, h.number 0x24000D), (26, b2n x.short)]
  | 0x04 => h.number 0x240002
  | 0x08 => h.reg Rg.engFlags
  | 0x0C => packed [(1, b2n x.regBarrier.isSome), (2, b2n x.regDone), (16, match x.regBarrier with
      | some b => b.waiting.length
      | none => 0)] + h.reg Rg.engBarrier
  | _ => match regIn o 0x100 4 32 with
    | some (t, _) =>
      let v (sub : Nat) : Nat := (h.tenderView t sub).getD 0
      packed [(0, v 3), (8, v 4), (16, v 1), (18, v 2), (20, v 6)]
    | none => 0

/-- The switch registers (R269). -/
def Hub.swReg (h : Hub) (o : Nat) : Nat :=
  match o with
  | 0x00 => h.sharedFree
  | 0x04 => bitWord 32 (fun i => (List.range 8).any (fun c => h.held i c))
  | 0x08 => h.reg Rg.swFlags
  | 0x0C => h.sw.ueAddr
  | 0x10 => h.sw.ueInfo
  | _ => 0

/-- The Beacon registers (R304). -/
def Hub.bcnReg (h : Hub) (o : Nat) : Nat :=
  match o with
  | 0x00 => packed ((24, h.bcn.timebase.code) :: (List.range 3).flatMap (fun b =>
      [(8 * b, (h.bearingState b).code), (8 * b + 3, h.number ((0x4008 + b) * 256 + 4))]))
  | 0x04 => h.reg Rg.bcnFlags
  | 0x08 => trunc 32 h.ns
  | 0x0C => h.bcn.latchedHi
  | _ => match regIn o 0x10 8 3, regIn o 0x30 4 8 with
    | some (b, k), _ => h.bcn.latchedBearing.get 0 b / 2 ^ (8 * k) % 2 ^ 32
    | _, some (n, _) =>
      let x := h.encoder n
      packed [(0, b2n (decide (x.dir = 1))), (1, b2n x.levelA), (2, b2n x.levelB), (3, b2n x.levelZ), (4, x.faultCause), (6, x.state.code),
        (16, x.qerr % 65536)]
    | _, _ => 0

/-- The daymark and Lamp registers (R332). -/
def Hub.dmReg (h : Hub) (o : Nat) : Nat :=
  match o with
  | 0x00 => 1024 - h.dm.slots.length
  | 0x04 => h.reg Rg.dmFlags
  | 0x08 => bitWord 24 (fun l => (h.lamp l).level)
  | 0x0C => bitWord 24 (fun l => decide ((h.lamp l).state = .safe))
  | 0x40 => packed [(2, b2n h.dm.postDone), (3, b2n h.dm.postEvtEn), (8, h.dm.postOutcome), (16, h.dm.postHandle)]
  | 0x44 => h.dm.postStatus
  | _ => match regIn o 0x20 4 8 with
    | some (k, _) => h.reg (Rg.dmPost k)
    | none => 0

/-- The fetch urgency (R379). -/
def Hub.urgency (h : Hub) : Nat :=
  let v := h.vid
  if v.dsi = .off then 0
  else if v.fill ≤ v.inForce.wm3 then 3
  else if v.fill ≤ v.inForce.wm2 then 2
  else if v.fill ≤ v.inForce.wm1 then 1 else 0

/-- The video registers (R387), but for CSI_STATUS. -/
def Hub.vidReg (h : Hub) (o : Nat) : Nat :=
  let v := h.vid
  let double := decide (h.val Od.fsLayout = 0)
  match o with
  | 0x00 => packed [(0, h.number 0x44901B), (2, h.number 0x449102), (4, h.val Od.fsLayout), (6, if double then v.front else 0),
      (7, b2n (double && v.ready.isSome)), (8, v.inForce.slot), (10, h.urgency), (17, v.line)]
  | 0x04 => h.reg Rg.vidFlags
  | 0x08 => packed [(0, min 65535 v.repeats), (16, match v.shown with
      | some w => w.frame
      | none => 0)]
  | _ => 0

/-- The USB registers (R414). -/
def Hub.usbReg (h : Hub) (o : Nat) : Nat :=
  if o = 8 then h.reg Rg.usbFlags
  else match regIn o 0 4 2 with
  | some (n, _) =>
    packed ((0, h.usbCode (5 * n) true) :: (24, (h.dev (5 * n)).address) ::
      (List.range 4).map (fun f => (8 + 4 * f, h.usbCode (fnKey n f) false)))
  | none => 0

/-- The handle of a binding tunnel, 0 with none. -/
def Hub.handleOf (h : Hub) : Option Nat → Nat
  | some i => h.handle i
  | none => 0

/-- The host-bridge registers (R443), by their BAR0 offset. -/
def Hub.hostReg (h : Hub) (a : Nat) : Nat :=
  if a = 0x1A000 then packed [(0, h.hb.speed), (4, h.hb.width), (8, b2n h.hb.busMaster)]
  else if a = 0x1A004 then h.reg Rg.hbFlags
  else match regIn a 0x1A100 16 16, regIn a 0x1B000 64 32 with
  | some (w, o), _ =>
    if o = 8 then h.reg (Rg.win w 2) + 65536 * h.handleOf (h.winCtx w)
    else if o = 12 then h.reg (Rg.win w 3) + packed [(0, b2n (h.winCtx w).isSome), (2, b2n (h.win w).semaphore), (8, (h.win w).reading)]
    else h.reg (Rg.win w (o / 4))
  | _, some (q, o) =>
    let x := h.hostQ q
    if o = 0x18 then x.txHead
    else if o = 0x20 then x.rxHead
    else if o = 0x24 then packed [(0, b2n (h.qCtx q).isSome), (1, b2n x.fault), (16, h.handleOf (h.qCtx q))]
    else if o < 0x20 then h.reg (Rg.queue q o) else 0
  | _, _ => 0

/-- The mailbox (R50), by its BAR0 offset. -/
def Hub.mbxReg (h : Hub) (a : Nat) : Nat :=
  let m := h.ctl.mailbox
  if a = 0x400 then packed [(1, b2n m.busy), (2, b2n m.done), (3, b2n m.doneEvtEn), (4, m.op)]
  else if a = 0x404 then packed [(0, m.sub), (8, m.index), (24, m.target)]
  else if a = 0x408 then m.len
  else if a = 0x40C then m.status
  else if 0x800 ≤ a then field m.data (a - 0x800) 4 else 0

/-- Code of the path that holds the hold (R546). -/
def ownerCode : HoldOwner → Nat
  | .host => 1 | .keeper => 2 | .memory => 3

/-- EVT_HOLD as path o reads it (R544, R546). -/
def Hub.holdReg (h : Hub) (o : HoldOwner) : Nat := match h.evt.hold with
  | some x => packed [(0, x.word), (28, ownerCode x.owner), (30, b2n (decide (x.owner = o))), (31, b2n (decide (x.owner = o)))]
  | none => 0

/-- The event registers (R546), by offset. -/
def Hub.evtReg (h : Hub) (o : HoldOwner) (a : Nat) : Nat :=
  if a < 0x20 then h.number (0x702101 + a / 4)
  else if a < 0x40 then h.number (0x702001 + (a - 0x20) / 4)
  else if a < 0x60 then h.number (0x702201 + (a - 0x40) / 4)
  else if a = 0x60 then h.holdReg o
  else if a = 0x64 then h.reg Rg.evtFlags
  else if a = 0x68 then h.val Od.wakeWakeEn
  else if a = 0x6C then h.evt.wakeLatch.toNat
  else if a = 0x70 then h.val Od.wakeWakeEdge
  else match regIn a 0x100 0x20 4, regIn a 0x400 4 256 with
  | some (r, k), _ =>
    let x := h.ring r
    match k with
    | 0x00 => x.base % 2 ^ 32
    | 0x04 => x.base / 2 ^ 32
    | 0x08 => x.ctrl
    | 0x0C => x.wr
    | 0x10 => x.rd
    | 0x14 => x.run
    | _ => 0
  | _, some (s, _) => h.evtCfg s
  | _, _ => 0

/-- The counter registers (R591), by BAR0 offset. -/
def Hub.cntReg (h : Hub) (a : Nat) : Nat :=
  if a = 0x23900 then packed [(0, h.val Od.obsObsGroup), (7, h.val Od.obsObsEnable), (8, b2n h.debugUnlocked)]
  else match regIn a 0x21000 8 384, regIn a 0x23800 16 4, regIn a 0x24000 0x200 4 with
  | some (n, o), _, _ => if o = 0 then trunc 32 (h.val (cntEntry n)) else h.obs.cntHi.get 0 n
  | _, some (b, o), _ =>
    let x := h.bank b
    match o with
    | 0 => trunc 32 x.seq
    | 4 => trunc 32 (x.clock / 10)
    | 8 => x.latchedHi
    | _ => 0
  | _, _, some (b, o) =>
    let x := h.bank b
    if o % 8 = 0 then trunc 32 (x.values.getD (o / 8) 0) else x.entryHi.get 0 (o / 8)
  | _, _, _ => 0

/-- The MSI-X table and its pending-bit array (R440). -/
def Hub.msixReg (h : Hub) (a : Nat) : Nat :=
  match regIn a 0x3E000 4 128 with
  | some (k, _) => h.hb.msixTable.get (if k % 4 = 3 then 1 else 0) k
  | none => if a = 0x3F000 then h.hb.msixPending else 0

/-- The check channels (R525) and the power registers (R577), by Keeper address. -/
def Hub.keeperReg (h : Hub) (a : Nat) : Nat :=
  match regIn a 0x30000000 0x40 16 with
  | some (c, o) =>
    let x := h.crcChan c
    let r := x.param.result x.value
    match o with
    | 0x00 => x.cfg
    | 0x08 => x.param.poly % 2 ^ 32
    | 0x0C => x.param.poly / 2 ^ 32
    | 0x10 => x.param.initial % 2 ^ 32
    | 0x14 => x.param.initial / 2 ^ 32
    | 0x18 => x.value % 2 ^ 32
    | 0x1C => x.value / 2 ^ 32
    | 0x20 => r % 2 ^ 32
    | 0x24 => r / 2 ^ 32
    | _ => 0
  | none =>
    let state (d : Nat) : Nat := (h.domain d).state.code
    if a = 0x32000000 then packed ((List.range 16).map (fun d => (2 * d, state d)))
    else if a = 0x32000004 then packed [(0, state 16), (2, state 17)]
    else if a = 0x32000008 then bitWord 18 (fun d => (h.domain d).padsHeld)
    else if a = 0x3200000C then packed [(0, h.pwr.freq.code), (3, b2n h.pwr.slow), (4, h.val Od.rstClockCap), (8, h.pwr.pllLocked)]
    else if a = 0x32000010 then packed [(0, h.pwr.resetCause), (16, h.pwr.resetCount % 65536)]
    else if a = 0x32000018 then h.reg Rg.pwrFlags else 0

/-- The word at an address as path o reads it, without the effects of the read. -/
def Hub.regView (h : Hub) (o : HoldOwner) (a : Nat) : Nat :=
  if a < 0x10000 then (if 0x400 ≤ a ∧ a < 0xC00 then h.mbxReg a else 0)
  else if a < 0x11000 then (match regIn a 0x10000 256 5 with
    | some (n, k) => h.laneReg n k
    | none => 0)
  else if a < 0x12000 then (match regIn a 0x11000 256 3 with
    | some (p, k) => h.linkReg p k
    | none => 0)
  else if a < 0x13000 then h.tunnelReg (a - 0x12000)
  else if a < 0x14000 then h.planReg (a - 0x13000)
  else if a < 0x15000 then h.engReg (a - 0x14000)
  else if a < 0x16000 then h.swReg (a - 0x15000)
  else if a < 0x17000 then h.bcnReg (a - 0x16000)
  else if a < 0x18000 then h.dmReg (a - 0x17000)
  else if a < 0x19000 then h.vidReg (a - 0x18000)
  else if a < 0x1A000 then h.usbReg (a - 0x19000)
  else if a < 0x20000 then h.hostReg a
  else if a < 0x21000 then h.evtReg o (a - 0x20000)
  else if a < 0x3E000 then h.cntReg a
  else if a < 0x40000 then h.msixReg a
  else if 0x31000000 ≤ a ∧ a < 0x31001000 then h.evtReg o (a - 0x31000000)
  else h.keeperReg a

/-! ### What a read does -/

/-- CLOCK_LO is read: the others are latched (R304). -/
def Hub.clockLatch (h : Hub) : Hub :=
  let put (b : Nat) (t : Tab Nat) : Tab Nat := t.set 0 b (ofSigned 64 (h.bearingNow b))
  { h with bcn := { h.bcn with latchedHi := h.ns / 2 ^ 32 % 2 ^ 32, latchedBearing := put 2 (put 1 (put 0 h.bcn.latchedBearing)) } }

/-- A word is read by path o: the hub after it, the value, and whether a field of type RC or CLOCK_LO was touched (R427). -/
def Hub.regFetch (h : Hub) (o : HoldOwner) (a : Nat) : Hub × Nat × Bool :=
  let v := h.regView o a
  match regIn a 0x10000 256 5, regIn a 0x21000 8 384, regIn a 0x23800 16 4, regIn a 0x24000 0x200 4 with
  | some (n, k), _, _, _ =>
    if k = 0x30 then
      let x := h.lane n
      let fresh := if bit 4 (h.reg (Rg.patCtrl n)) ∧ x.chkLock then h.open_ 32 else (h, 0)
      let y := x.addErrors fresh.2
      (fresh.1.setLane n { y with errCount := 0, chkSat := false }, y.errCount, true)
    else if k = 4 ∨ k = 8 ∨ k = 0xC then ((h.laneAdapt n), (h.laneAdapt n).laneReg n k, false)
    else (h, v, false)
  | _, some (n, k), _, _ =>
    (if k = 0 then { h with obs := { h.obs with cntHi := h.obs.cntHi.set 0 n (h.val (cntEntry n) / 2 ^ 32) } } else h, v, false)
  | _, _, some (b, k), _ => (if k = 4 then h.setBank b { h.bank b with latchedHi := (h.bank b).clock / 10 / 2 ^ 32 } else h, v, false)
  | _, _, _, some (b, k) =>
    let x := h.bank b
    (if k % 8 = 0 then h.setBank b { x with entryHi := x.entryHi.set 0 (k / 8) (x.values.getD (k / 8) 0 / 2 ^ 32) } else h, v, false)
  | _, _, _, _ =>
    if a = 0x16008 then (h.clockLatch, v, true)
    else if a = 0x1800C then
      let s := h.open_ 2
      let frame (n : Nat) : Nat := b2n (decide ((h.csi n).frames ≠ []))
      (s.1, packed [(0, frame 0), (1, s.2 % 2), (8, frame 1), (9, s.2 / 2)], false)
    else (h, v, false)

/-! ### What a write does, block by block

`x` is the word with the bytes written taken from the write and the others as they stand; `w` holds the bits written, with 0
in the bytes that are not. -/

/-- PAT_CTRL and PAT_INJECT (R101, R102, R108). -/
def Hub.lanePut (h : Hub) (n o x w : Nat) : Hub :=
  if o = 0x20 then
    let was := h.reg (Rg.patCtrl n)
    let h1 := h.putReg (Rg.patCtrl n) (merged 0x3F07 was x)
    let h2 := if bit 3 x = bit 3 was then h1 else h1.patternEnable n 3 (bit 3 x)
    if bit 4 x = bit 4 was then h2 else h2.patternEnable n 4 (bit 4 x)
  else if o = 0x34 then
    if bit 1 w then h.patternInject n (bits 13 8 (h.reg (Rg.patCtrl n)) + 1)
    else if bit 0 w then h.patternInject n 1 else h
  else h

/-- TUNNEL_FAULTEDk (R177). -/
def Hub.faultedPut (h : Hub) (k w : Nat) : Hub :=
  let f := (List.range 32).foldl (fun (t : Tab Nat) j => if bit j w then t.set 0 (32 * k + j) 0 else t) h.tun.faulted
  { h with tun := { h.tun with faulted := f } }

/-- ENG_BARRIER (R236): the W1C of DONE, then ARM. -/
def Hub.barrierPut (h : Hub) (x w : Nat) : Hub :=
  let h1 := h.putReg Rg.engBarrier (x &&& 8)
  let h2 : Hub := if bit 2 w then { h1 with eng := { h1.eng with regDone := false } } else h1
  if bit 0 w then h2.armBarrier else h2

/-- DM_POST_CTRL (R332): the W1C of DONE, then GO. -/
def Hub.postPut (h : Hub) (x w : Nat) : Hub :=
  let h1 : Hub := { h with dm := { h.dm with postEvtEn := bit 3 x, postDone := h.dm.postDone && !bit 2 w } }
  if bit 0 w then h1.dmGo else h1

/-- WIN_MAP, WIN_FAR, WIN_CTRL and WIN_STATUS of window w (R422, R443). -/
def Hub.winPut (h : Hub) (win k x w : Nat) : Hub :=
  if k = 2 then h.winCtrl win x
  else if k = 3 then h.putReg (Rg.win win 3) (h.reg (Rg.win win 3) ^^^ (h.reg (Rg.win win 3) &&& (w &&& 2)))
  else if h.winOn win then h
  else h.putReg (Rg.win win k) (x &&& (if k = 0 then 0xF0003FFF else 0xFFFFF000))

/-- Registers of host queue q (R443): bases are fixed while ENABLE is 1. -/
def Hub.queuePut (h : Hub) (q o x : Nat) : Hub :=
  if o = 0x10 then h.qCtrlWrite q x
  else if o = 0x14 then h.qTailWrite q false x
  else if o = 0x1C then h.qTailWrite q true x
  else if o ∉ [0, 4, 8, 12] ∨ bit 0 (h.qCtrl q) then h
  else h.putReg (Rg.queue q o) (if o = 0 ∨ o = 8 then x / 64 * 64 else x)

/-- The mailbox (R50, R51). -/
def Hub.mbxPut (h : Hub) (a x w : Nat) : Hub :=
  let m := h.ctl.mailbox
  let store (m : Mailbox) : Hub := { h with ctl := { h.ctl with mailbox := m } }
  if a = 0x400 then h.mbxCtrl ((x &&& 0x38) ||| (w &&& 5))
  else if m.busy then h
  else if a = 0x404 then store { m with sub := x % 256, index := bits 23 8 x, target := bits 31 24 x }
  else if a = 0x408 then store { m with len := x % 2048 }
  else if 0x800 ≤ a then
    store { m with data := (m.data ++ List.replicate (a - 0x800 - m.data.length) 0).take (a - 0x800) ++ u32 x ++ m.data.drop (a - 0x800 + 4) }
  else h

/-- The MSI-X table (R440): a vector that is let through again is signalled. -/
def Hub.msixPut (h : Hub) (k x : Nat) : Hub :=
  let v := if k % 4 = 3 then x % 2 else if k % 4 = 0 then x / 4 * 4 else x
  ({ h with hb := { h.hb with msixTable := h.hb.msixTable.set (if k % 4 = 3 then 1 else 0) k v } } : Hub).msixPump

/-- The event registers, by offset, written by path o (R533, R537 to R546). -/
def Hub.evtPut (h : Hub) (o : HoldOwner) (a x w m : Nat) : Hub :=
  if a < 0x20 then h.pendingWrite o (a / 4) x
  else if a < 0x40 then h.maskWrite o ((a - 0x20) / 4) x
  else if a = 0x60 then (if bit 31 x then h.holdTake o (x % 8) else h.holdLeave o)
  else if a = 0x68 then h.put Od.wakeWakeEn (x % 65536)
  else if a = 0x6C then { h with evt := { h.evt with wakeLatch := h.evt.wakeLatch &&& ~~~(BitVec.ofNat 16 w) } }
  else if a = 0x70 then h.put Od.wakeWakeEdge x
  else match regIn a 0x100 0x20 4, regIn a 0x400 4 256 with
  | some (r, k), _ => match k with
    | 0x00 => h.ringBaseWrite r ((h.ring r).base / 2 ^ 32 * 2 ^ 32 + x)
    | 0x04 => h.ringBaseWrite r ((h.ring r).base % 2 ^ 32 + x * 2 ^ 32)
    | 0x08 => h.ringCtrlWrite r x
    | 0x10 => h.ringRd r (x % 4096)
    | 0x18 => if bit 0 m then h.eventEoi r (w % 256) else h
    | _ => h
  | _, some (s, _) => h.put (Od.evtEvtCfg (s / 128) (s % 128)) (x % 128)
  | _, _ => h

/-- OBS_CTRL (R586, R591). -/
def Hub.obsPut (h : Hub) (x : Nat) : Hub :=
  let h1 := h.obsGroup (x % 64)
  if decide (h.val Od.obsObsEnable = 1) = bit 7 x then h1 else h1.obsEnable (bit 7 x)

/-- The registers of check channel c (R525); DATA feeds as many bytes as are written, 1, 2 or 4. -/
def Hub.crcPut (h : Hub) (c o x w be : Nat) : Hub :=
  let y := h.crcChan c
  let lo (v : Nat) : Nat := v / 2 ^ 32 * 2 ^ 32 + x
  let hi (v : Nat) : Nat := v % 2 ^ 32 + x * 2 ^ 32
  match o with
  | 0x00 => h.setCrcChan c { y with cfg := x &&& 0x77F }
  | 0x08 => h.setCrcChan c { y with poly := lo y.poly }
  | 0x0C => h.setCrcChan c { y with poly := hi y.poly }
  | 0x10 => h.setCrcChan c { y with initial := lo y.initial }
  | 0x14 => h.setCrcChan c { y with initial := hi y.initial }
  | 0x18 => h.setCrcChan c { y with value := lo y.value % 2 ^ y.param.width }
  | 0x1C => h.setCrcChan c { y with value := hi y.value % 2 ^ y.param.width }
  | 0x28 => if be ∈ [1, 2, 4, 8, 3, 12, 15] then h.crcFeed c (((List.range 4).filter (fun k => bit k be)).map (fun k => BitVec.ofNat 8 (w / 256 ^ k))) else h
  | 0x2C => if bit 0 w then h.crcStart c else h
  | _ => h

/-- Registers that Keeper alone reaches (R525, R577). -/
def Hub.keeperPut (h : Hub) (a x w be : Nat) : Hub :=
  match regIn a 0x30000000 0x40 16 with
  | some (c, o) => h.crcPut c o x w be
  | none =>
    if a = 0x32000008 then h.padsRelease w
    else if a = 0x32000014 then (if bit 0 be then h.wdtKick (w % 256) else h) else h

/-- A word of BAR0 is written: blocks whose writes do more than their field types. -/
def Hub.barPut (h : Hub) (o : HoldOwner) (a x w m : Nat) : Hub :=
  if a < 0x10000 then (if 0x400 ≤ a ∧ a < 0xC00 then h.mbxPut a x w else h)
  else if a < 0x11000 then (match regIn a 0x10000 256 5 with
    | some (n, k) => h.lanePut n k x w
    | none => h)
  else if 0x12100 ≤ a ∧ a < 0x12120 then h.faultedPut ((a - 0x12100) / 4) w
  else if a = 0x1400C then h.barrierPut x w
  else if a = 0x17040 then h.postPut x w
  else if 0x20000 ≤ a ∧ a < 0x21000 then h.evtPut o (a - 0x20000) x w m
  else if a = 0x23900 then h.obsPut x
  else match regIn a 0x1A100 16 16, regIn a 0x1B000 64 32, regIn a 0x3E000 4 128 with
  | some (win, k), _, _ => h.winPut win (k / 4) x w
  | _, some (q, k), _ => h.queuePut q k x
  | _, _, some (k, _) => h.msixPut k x
  | _, _, _ => h

/-- A stored register takes a write by its field types (R9). -/
def Hub.storedPut (h : Hub) (a v m : Nat) : Hub :=
  match regRow? a with
  | some r =>
    let e : Entry := ⟨a, 0⟩
    let h1 := match regIn a 0x10000 256 5 with
      | some (n, 0x14) => h.laneAdapt n
      | _ => h
    h1.putReg e (regMerge (r.rw &&& m) r.w1c (h.reg e) (v &&& m))
  | none => h

/-- The address as it stands in BAR0, where path o reaches a register there (R420, R424, R525, R546, R577). -/
def regReach (o : HoldOwner) (a : Nat) : Option Nat :=
  match o with
  | .host => if a < 0x40000 then some a else none
  | .memory =>
    if (0x10000 ≤ a ∧ a < 0x1A000) ∨ (0x20000 ≤ a ∧ a < 0x3E000) then some a else none
  | .keeper =>
    if 0x31000000 ≤ a ∧ a < 0x31001000 then some (a - 0x31000000 + 0x20000)
    else if (0x30000000 ≤ a ∧ a < 0x30000400) ∨ (0x32000000 ≤ a ∧ a < 0x32000020) then some a else none

/-- Registers of BAR0 whose write is no more than their field types: PAT_CTRL and ENG_BARRIER have handlers of their own. -/
def regStored (a : Nat) : Bool := (regRow? a).isSome && decide (a ≠ 0x1400C) && (regIn a 0x10020 256 5).all (fun k => decide (k.2 ≠ 0))

/-- A word is written by path o with byte enables (R9, R420). -/
def Hub.regWrite (h : Hub) (o : HoldOwner) (addr be v : Nat) : Hub :=
  match regReach o addr with
  | none => h
  | some a =>
    let m := laneMask be
    if be % 16 = 0 then h
    else if regStored a then h.storedPut a v m
    else
      let x := merged m (h.regView o a) v
      if a < 0x40000 then h.barPut o a x (v &&& m) m else h.keeperPut a x (v &&& m) be

/-- The words of a string of bytes from an address up: address, byte enables, value. -/
def wordsOf (a be : Nat) (b : Bytes) : List (Nat × Nat × Nat) :=
  let n := b.length / 4
  (List.range n).map (fun k => (a + 4 * k, if k = 0 then be % 16 else if k + 1 = n then be / 16 else 15, field b (4 * k) 4))

/-- Words are written in ascending address. -/
def Hub.regWrites (h : Hub) (o : HoldOwner) (l : List (Nat × Nat × Nat)) : Hub := l.foldl (fun h x => h.regWrite o x.1 x.2.1 x.2.2) h

/-- The lengths of BAR0 requests (R420): one DW; two in the MSI-X table; up to 256 bytes in MBX_DATA. -/
def barLength (a n : Nat) : Bool :=
  decide (a % 4 = 0) && (decide (n = 4) || (decide (n = 8) && decide (0x3E000 ≤ a) && decide (a + 8 ≤ 0x3E200)) ||
    (decide (n % 4 = 0) && decide (0 < n) && decide (n ≤ 256) && decide (0x800 ≤ a) && decide (a + n ≤ 0xC00)))

/-- A BAR0 write of the host is carried out (R420): of another length, it is discarded. -/
def Hub.bar0Write (h : Hub) (a be : Nat) (d : Bytes) : Hub := if barLength a d.length then h.regWrites .host (wordsOf a be d) else h

/-- Posted writes that wait are carried out in order, as far as they can be (R430). The first argument bounds them. -/
def postedPump : Nat → Hub → Hub
  | 0, h => h
  | n + 1, h => match h.hb.posted with
    | [] => h
    | p :: t =>
      let rest (g : Hub) : Hub := { g with hb := { g.hb with posted := t } }
      if p.bar2 then
        match h.bar2Try p.addr p.be p.data with
        | some g => postedPump n (rest g)
        | none => h
      else postedPump n ((rest h).bar0Write p.addr p.be p.data)

/-- Window w goes on with the requests that wait at it. -/
def Hub.winGo (h : Hub) (w : Nat) : Hub := if (h.win w).waiting = [] then h else h.winRun w

/-- Host queue q goes on. -/
def Hub.queueGo (h : Hub) (q : Nat) : Hub := if h.qRuns q then h.qRun q else h

/-- What waits at the host bridge and at the eMMC host for room goes on (R358, R430, R437, log 8). -/
def Hub.hostGo (h : Hub) : Hub :=
  let h1 := if h.domOn 11 then (List.range 32).foldl Hub.queueGo ((List.range 16).foldl Hub.winGo (postedPump h.hb.posted.length h)) else h
  if h1.io.emmc.requests = [] then h1 else h1.emmcRun

/-- A register write reaches the hub (R9, R420, R430, R441). -/
def Hub.regTarget (h : Hub) : RegTarget → Hub
  | .words .host a be d poisoned =>
    if !h.domOn 11 then h
    else
      let h0 := h.tally 0x0B01 0 1
      if poisoned then (h0.bump Od.hostPoisoned 32 1).flag Rg.hbFlags 3
      else if h.hb.posted ≠ [] then h0.postWait ⟨false, a.toNat, be.toNat, d⟩
      else h0.bar0Write a.toNat be.toNat d
  | .words .memory a be d _ => if a.toNat % 4 = 0 then h.regWrites .memory (wordsOf a.toNat be.toNat d) else h
  | .words .keeper a be d _ =>
    if h.pwr.bootPhase = .held ∨ a.toNat % 4 ≠ 0 then h else h.regWrites .keeper (wordsOf a.toNat be.toNat d)
  | .busMaster on => if h.domOn 11 then h.setBme on else h
  | .msixControl en fm =>
    if h.domOn 11 then ({ h with hb := { h.hb with msixEnable := en, msixFunctionMask := fm } } : Hub).msixPump else h
  | .configRead f => if h.domOn 11 then h.configRead f else h
  | .perst high => h.perst high
  | .correctable => if h.domOn 11 then h.tally 0x0B07 0 1 else h

/-! ### The MEMORY end (R427) -/

/-- A faulty WRITE is discarded and counted; the event comes at most once a second. -/
def Hub.memRefused (h : Hub) (i : Nat) : Hub :=
  let h1 := h.bump Od.hostMemRefused 32 1
  let again := match h.hb.memFaultAt with
    | some t => decide (t + 10000000000 ≤ h.clock)
    | none => true
  if again then ({ h1 with hb := { h1.hb with memFaultAt := some h.clock } } : Hub).fire Ev.memAccessFault (u16 (h.handle i)) else h1

/-- Bytes of an area (R424). -/
def areaSize (area : Nat) : Nat := if area = 0 then 0x40000 else 0x600000

/-- What is wrong with a piece: malformed, beyond the area, or not allowed. -/
def Hub.memFault (h : Hub) (i : Nat) (d : Bytes) : Option Abort :=
  let op := field d 0 1
  let far := field d 4 4
  let len := field d 8 2
  let be := field d 10 1
  let beOk := if len = 4 then decide (be / 16 = 0) else decide (be % 16 ≠ 0) && decide (be / 16 ≠ 0)
  if (op ≠ 1 ∧ op ≠ 2) ∨ far % 4 ≠ 0 ∨ len < 4 ∨ 256 < len ∨ len % 4 ≠ 0 ∨ !beOk ∨ (op = 1 ∧ d.length ≠ 16 + len) ∨ d.length < 16 then
    some (abArg 1)
  else if areaSize (h.areaOf i) < far + len then some (abValue 1)
  else if op = 1 ∧ !bit 19 (h.ctx i).localBind then some abDenied
  else none

/-- The first word of the frame store that a far address lies in, and the words that a piece covers. -/
def fsWords (far len : Nat) : List Nat :=
  let a := 0x20400000 + far
  (List.range ((a + len - 1) / 32 + 1 - a / 32)).map (fun k => 32 * (a / 32 + k))

/-- Enabled bytes of words are written to the frame store, word by word (R376, R427). -/
def Hub.fsPut (h : Hub) (far be : Nat) (data : Bytes) : Hub :=
  let a := 0x20400000 + far
  let whole := decide (be = 255)
  let h1 := (fsWords far data.length).foldl (fun h w =>
    h.fsMerge w (whole && decide (a ≤ w) && decide (w + 32 ≤ a + data.length))) h
  (wordsOf a be data).foldl (fun h x =>
    (List.range 4).foldl (fun h j => if bit j x.2.1 then h.memWrite (x.1 + j) (BitVec.ofNat 8 (x.2.2 / 256 ^ j)) else h) h) h1

/-- A word of the frame store is read for a MEMORY binding: a damaged one that cannot be corrected stays damaged, and what it
gives is not stated (log 13). -/
def Hub.fsFetch (h : Hub) (w : Nat) : Hub × Bytes :=
  let was := h.sw.damaged
  let r := h.eccRead 3 1 w
  if r.2 then
    let v := r.1.open_ 256
    ({ v.1 with sw := { v.1.sw with damaged := was } }, leBytes 32 v.2)
  else (r.1, r.1.memReadBytes w 32)

/-- Words of the frame store in order. -/
def Hub.fsRead (h : Hub) : List Nat → Hub × Bytes
  | [] => (h, [])
  | w :: t =>
    let r := h.fsFetch w
    let q := r.1.fsRead t
    (q.1, r.2 ++ q.2)

/-- Registers are read word by word: a word with no byte enabled is not touched. -/
def Hub.regFetches (h : Hub) : List (Nat × Nat × Nat) → Hub × Bytes × Bool
  | [] => (h, [], false)
  | x :: t =>
    let r : Hub × Nat × Bool := match regReach .memory x.1 with
      | some a => if x.2.1 = 0 then (h, 0, false) else h.regFetch .memory a
      | none => (h, 0, false)
    let q := r.1.regFetches t
    (q.1, u32 (r.2.1 &&& laneMask x.2.1) ++ q.2.1, r.2.2 || q.2.2)

/-- Another tunnel holds the lock of AREA 1 (R432). -/
def Hub.memWaits (h : Hub) (i : Nat) : Bool := decide (h.areaOf i = 1) && h.hb.lockHolder.any (fun j => decide (j ≠ i))

/-- The oldest request of context i is a WRITE, or of no known OP: it is carried out. -/
def Hub.memServeWrite (h : Hub) (i : Nat) : Hub :=
  match h.memHead i with
  | none => h
  | some s =>
    let d := s.data
    if i ∈ h.hb.lockSkip then h.memSkip i s
    else if field d 0 1 ∈ [2, 3, 4] ∨ h.memWaits i then h
    else
      let h1 := h.dropOut 31 s
      if (h.memFault i d).isSome then h1.memRefused i
      else if h.areaOf i = 0 then h1.regWrites .memory (wordsOf (field d 4 4) (field d 10 1) (d.drop 16))
      else h1.fsPut (field d 4 4) (if field d 8 2 = 4 then field d 10 1 % 16 * 17 else field d 10 1) (d.drop 16)

/-- The oldest request of context i is a READ: it is answered, once the answer has room (R248). -/
def Hub.memServeRead (h : Hub) (i : Nat) : Hub :=
  match h.memHead i with
  | none => h
  | some s =>
    let d := s.data
    let far := field d 4 4
    let len := field d 8 2
    if i ∈ h.hb.lockSkip then h.memSkip i s
    else if field d 0 1 ≠ 2 ∨ h.memWaits i ∨ h.producerWaits i (16 + (if (h.memFault i d).isSome then 0 else len)) then h
    else
      let h1 := h.dropOut 31 s
      match h.memFault i d with
      | some a => h1.memAnswer i 0x82 0 (field d 2 2) far 0 a []
      | none =>
        if h.areaOf i = 0 then
          let r := h1.regFetches (wordsOf far (field d 10 1) (List.replicate len 0))
          r.1.memAnswer i 0x82 (2 * b2n r.2.2) (field d 2 2) far len 0 r.2.1
        else
          let r := h1.fsRead (fsWords far len)
          r.1.memAnswer i 0x82 0 (field d 2 2) far len 0 ((r.2.drop (far % 32)).take len)

/-! ### Meanings -/

/-- REGISTER_WRITE (R9). -/
def execRegisterWrite (t : RegTarget) (s : State) := onHub (fun h => h.regTarget t) s
/-- MEMORY_WRITE (R427). -/
def execMemoryWrite (i : Byte) (s : State) := onHub (fun h => h.memServeWrite i.toNat) s
/-- MEMORY_READ (R427). -/
def execMemoryRead (i : Byte) (s : State) := onHub (fun h => h.memServeRead i.toNat) s
/-- LOOPBACK_WRITE (R588). -/
def execLoopbackWrite (req : Path) (q : Fin 25) (v : Byte) (s : State) :=
  onHub (fun h => h.odWriteBy req (Od.obsLoopback q).key (u8 v.toNat)) s

end Sys2Proof.Machine
end

