-- ==== Sys2Proof/Machine/Boot.lean ====
section
/-!
DEFINITION. Keeper firmware starts (R572): the stored configuration (R34, R503), what it fixes, the Tender image (R231, R232), and
the domains in their order.
-/

namespace Sys2Proof.Machine

/-! ### The configuration (R34, R503, R565) -/

/-- Settings of the Beacon and the mooring that a hub reset has kept in force up to now. -/
def settingKey (key : Nat) : Bool := keptKey key && decide (key / 256 ∉ [0x2800, 0x7040])

/-- The default of an entry: the VALUE of a lock record in its place (R503). -/
def Hub.defaultOf (h : Hub) (key : Nat) : Nat :=
  match (List.range 16).findSome? (fun r => match h.lockRecord r with
    | some (k, v) => if k = key then (lockSize key).map (fun n => trunc (8 * n) v) else none
    | none => none) with
  | some v => v
  | none => (odEntry key).dflt

/-- An entry takes a number. -/
def Hub.odNumber (h : Hub) (key v : Nat) : Hub :=
  match odRowOf key with
  | some r => h.odPut r key (leBytes (r.ty.size.getD 0) v)
  | none => h

/-- The entries that lock records fix take their values. -/
def Hub.locksApply (h : Hub) : Hub :=
  (List.range 16).foldl (fun h r => match h.lockRecord r with
    | some (key, _) => if (lockSize key).isSome then h.odNumber key (h.defaultOf key) else h
    | none => h) h

/-- Kept settings that the stored configuration does not give go back to their defaults. -/
def Hub.settingsBack (h : Hub) (stored : List (Nat × Bytes)) : Hub :=
  ((h.od.cells.map (·.1)).filter (fun k => settingKey k && stored.all (fun c => decide (c.1 ≠ k)))).foldl
    (fun h k => h.odNumber k (h.defaultOf k)) h

/-- A stored value passes through the checks of R33; one that fails is skipped. A setting that is in force already stays as it is. -/
def Hub.applyEntry (h : Hub) (c : Nat × Bytes) : Hub :=
  match h.odWriteBad .keeper c.1 c.2 with
  | some _ => h.fire Ev.configSkip (u16 (c.1 / 256) ++ u8 (c.1 % 256))
  | none => match odRowOf c.1 with
    | some r => if settingKey c.1 ∧ (h.odValue r c.1).2 = c.2 then h else h.odApply c.1 c.2
    | none => h

/-- The stored configuration is applied, and measured (R34, R519): none in strap fault. -/
def Hub.configApply (h : Hub) : Hub :=
  let stored := if h.mode.active = .strapFault then none else h.storedConfig
  let l := stored.getD []
  let h1 := l.foldl Hub.applyEntry (h.locksApply.settingsBack l)
  if stored.isSome then
    let v := h1.open_ 256
    { v.1 with ctl := { v.1.ctl with configMeasure := leBytes 32 v.2 } }
  else h1

/-! ### What the configuration fixes -/

/-- A root of a pair starts in STANDBY and runs the silence timer (R445, R463). -/
def Hub.pairStart (h : Hub) : Hub :=
  if h.mode.strap = 2 ∨ (h.mode.strap = 1 ∧ h.val Od.pairPairEnable = 1) then
    { h with
      mode := { h.mode with active := .standby, pairConfig := true }
      pair := { h.pair with state := .joining, silenceTimer := true } }
  else h

/-- The mooring stages leave OFF, with the SEAT_WIRING of the boot after power-on (R476, R497). -/
def Hub.mooringStart (h : Hub) : Hub :=
  if h.moor.stage = .off ∧ h.mode.active ≠ .bench ∧ h.mode.active ≠ .strapFault then
    { h with moor := { h.moor with stage := .unseated, wiring := some (h.moor.wiring.getD (h.val Od.moorSeatWiring)) } }
  else h

/-- BASE_UNIT of the boot after power-on (R299). -/
def Hub.baseStart (h : Hub) : Hub :=
  if h.bcn.baseFixed then h
  else { h with bcn := { h.bcn with baseFixed := true, baseUnitInUse := h.val Od.bcnBaseUnit } }

/-- What follows the configuration (R15, R27, R189, R199, R352, R462). -/
def Hub.configured (h : Hub) : Hub :=
  let h1 := h.pairStart.mooringStart.baseStart
  let h2 := if h1.mode.active = .lighthouse then h1.planEnter (h1.val Od.planBootPlan) else h1
  let h3 := if h2.mode.confirmed then h2.startupCounts else h2
  let h4 := if h3.watchedSeated then h3.deadlineStart else h3
  let ports := if h4.mode.active = .strapFault then [0] else List.range 6
  ports.foldl (fun h n => h.canUp n) h4.resources.hostLatch

/-! ### The order of R572 -/

/-- A domain that DOMAIN_BOOT and the mode allow is turned on. -/
def Hub.domBoot (h : Hub) (d : Nat) : Hub :=
  if bit d (h.val Od.rstDomainBoot) ∧ h.domAllowed d ∧ !h.domOn d then h.domUp d else h

/-- The domains of a list in order. -/
def Hub.domsBoot (h : Hub) (l : List Nat) : Hub := l.foldl Hub.domBoot h

/-- Keeper firmware starts, and brings the hub up. -/
def Hub.keeperStart (h : Hub) : Hub :=
  if h.pwr.bootPhase ≠ .rom then h
  else
    let h0 : Hub := { h with pwr := { h.pwr with bootPhase := .keeper } }
    let h1 := if h0.pwr.fallback then h0.fire Ev.bootFallback (u8 h0.pwr.bootEntry) else h0
    let h2 := (h1.configApply).configured
    let h3 := if h2.inFog then h2.domDrop 16 .off else h2
    let h4 := h3.domsBoot [2, 3, 4, 5, 6]
    -- SWITCH has loaded the image as it came on (R232)
    let h6 := ((if h4.domOn 2 then h4 else h4.imageStart).domsBoot [17, 7, 8, 9, 10, 12, 13, 14, 15]).portsJudge
    let h7 := if h6.pwr.resetCause = 8 then h6.fire Ev.xtalFault [] else h6
    h7.fire Ev.resetDone (u8 h7.pwr.resetCause)

/-! ### Meanings -/

/-- KEEPER_START (R572): the image that the boot ROM has accepted runs. -/
def execKeeperStart (s : State) := onHub Hub.keeperStart s

end Sys2Proof.Machine
end

