-- ==== Sys2Proof/Machine/Dispatch.lean ====
section
/-!
DEFINITION. What each command does: one arm for each constructor, each a direct call of its meaning.
-/

namespace Sys2Proof.Machine

/-- The effect of a command on everything but the queue. -/
def exec (i : Instr) (s : State) : Host.Outcome State Fault Refusal :=
  match i with
  | .powerOnReset strap brownOut => Sys2Proof.Machine.execPowerOnReset strap brownOut s
  | .keeperStart => Sys2Proof.Machine.execKeeperStart s
  | .modeConfirm req v => Sys2Proof.Machine.execModeConfirm req v s
  | .fogDeadlineExpiry => Sys2Proof.Machine.execFogDeadlineExpiry s
  | .fogRetry => Sys2Proof.Machine.execFogRetry s
  | .foghornRetrainFail => Sys2Proof.Machine.execFoghornRetrainFail s
  | .modeFog req c tag args => Sys2Proof.Machine.execModeFog req c tag args s
  | .modeResume req c tag args => Sys2Proof.Machine.execModeResume req c tag args s
  | .nop req c tag args => Sys2Proof.Machine.execNop req c tag args s
  | .configSave req c tag args => Sys2Proof.Machine.execConfigSave req c tag args s
  | .configErase req c tag args => Sys2Proof.Machine.execConfigErase req c tag args s
  | .configFlashDone ok => Sys2Proof.Machine.execConfigFlashDone ok s
  | .odRead own => Sys2Proof.Machine.execOdRead own s
  | .odWrite own => Sys2Proof.Machine.execOdWrite own s
  | .resultRead path c => Sys2Proof.Machine.execResultRead path c s
  | .initiateDownload n client fd b => Sys2Proof.Machine.execInitiateDownload n client fd b s
  | .downloadSegment n client fd b => Sys2Proof.Machine.execDownloadSegment n client fd b s
  | .initiateUpload n client fd b => Sys2Proof.Machine.execInitiateUpload n client fd b s
  | .uploadSegmentRequest n client fd b => Sys2Proof.Machine.execUploadSegmentRequest n client fd b s
  | .odapAbort n client fd b => Sys2Proof.Machine.execOdapAbort n client fd b s
  | .odapReservedFrame n client fd b => Sys2Proof.Machine.execOdapReservedFrame n client fd b s
  | .odapTimeout n client => Sys2Proof.Machine.execOdapTimeout n client s
  | .mbxRead done evtEn => Sys2Proof.Machine.execMbxRead done evtEn s
  | .mbxWrite done evtEn => Sys2Proof.Machine.execMbxWrite done evtEn s
  | .mbxComplete => Sys2Proof.Machine.execMbxComplete s
  | .systemRequest p m => Sys2Proof.Machine.execSystemRequest p m s
  | .systemResponse p m => Sys2Proof.Machine.execSystemResponse p m s
  | .remoteTimeout reqId => Sys2Proof.Machine.execRemoteTimeout reqId s
  | .signalDetect l silent => Sys2Proof.Machine.execSignalDetect l silent s
  | .trainingBlock l b crcOk => Sys2Proof.Machine.execTrainingBlock l b crcOk s
  | .blockAlignment l inverted => Sys2Proof.Machine.execBlockAlignment l inverted s
  | .equalisationDone l ctle dfe width height => Sys2Proof.Machine.execEqualisationDone l ctle dfe width height s
  | .coeffRequestRetry l => Sys2Proof.Machine.execCoeffRequestRetry l s
  | .trainLimitExpiry p => Sys2Proof.Machine.execTrainLimitExpiry p s
  | .roundGapEnd p => Sys2Proof.Machine.execRoundGapEnd p s
  | .lossOfSignal l => Sys2Proof.Machine.execLossOfSignal l s
  | .lossOfLock l => Sys2Proof.Machine.execLossOfLock l s
  | .errorLimitBreach l count => Sys2Proof.Machine.execErrorLimitBreach l count s
  | .laneDropBlock l step rateNext crcOk => Sys2Proof.Machine.execLaneDropBlock l step rateNext crcOk s
  | .eyeMarginLow l height => Sys2Proof.Machine.execEyeMarginLow l height s
  | .quietEntry l => Sys2Proof.Machine.execQuietEntry l s
  | .quietEntryBlock l crcOk => Sys2Proof.Machine.execQuietEntryBlock l crcOk s
  | .quietExit l => Sys2Proof.Machine.execQuietExit l s
  | .quietExitBlock l crcOk => Sys2Proof.Machine.execQuietExitBlock l crcOk s
  | .quietFault l => Sys2Proof.Machine.execQuietFault l s
  | .laneRejoinAttempt l => Sys2Proof.Machine.execLaneRejoinAttempt l s
  | .rejoinHoldExpiry l => Sys2Proof.Machine.execRejoinHoldExpiry l s
  | .linkHoldExpiry p => Sys2Proof.Machine.execLinkHoldExpiry p s
  | .portRetry p => Sys2Proof.Machine.execPortRetry p s
  | .portRetrain req c tag args => Sys2Proof.Machine.execPortRetrain req c tag args s
  | .portRateStep req c tag args => Sys2Proof.Machine.execPortRateStep req c tag args s
  | .laneDrop req c tag args => Sys2Proof.Machine.execLaneDrop req c tag args s
  | .laneRejoin req c tag args => Sys2Proof.Machine.execLaneRejoin req c tag args s
  | .genEn n v => Sys2Proof.Machine.execGenEn n v s
  | .chkEn n v => Sys2Proof.Machine.execChkEn n v s
  | .patInjectSingle n => Sys2Proof.Machine.execPatInjectSingle n s
  | .patInjectBurst n => Sys2Proof.Machine.execPatInjectBurst n s
  | .patErrcntRead n received => Sys2Proof.Machine.execPatErrcntRead n received s
  | .tally l cells seq ack crcOk framed => Sys2Proof.Machine.execTally l cells seq ack crcOk framed s
  | .idle l block crcOk => Sys2Proof.Machine.execIdle l block crcOk s
  | .groupClose l => Sys2Proof.Machine.execGroupClose l s
  | .replayTimeout p => Sys2Proof.Machine.execReplayTimeout p s
  | .ackDue p => Sys2Proof.Machine.execAckDue p s
  | .credit p init limits crcOk => Sys2Proof.Machine.execCredit p init limits crcOk s
  | .creditSend p => Sys2Proof.Machine.execCreditSend p s
  | .superframeStart => Sys2Proof.Machine.execSuperframeStart s
  | .beacon p sf sample valid ground shaft0 shaft1 crcOk lapse => Sys2Proof.Machine.execBeacon p sf sample valid ground shaft0 shaft1 crcOk lapse s
  | .fogSignal p f crcOk => Sys2Proof.Machine.execFogSignal p f crcOk s
  | .fogSignalRepeat p => Sys2Proof.Machine.execFogSignalRepeat p s
  | .linkInit p b crcOk => Sys2Proof.Machine.execLinkInit p b crcOk s
  | .linkInitPageSend p => Sys2Proof.Machine.execLinkInitPageSend p s
  | .initTimeout p => Sys2Proof.Machine.execInitTimeout p s
  | .fogSend req c tag args => Sys2Proof.Machine.execFogSend req c tag args s
  | .tunnelCreate req c tag args => Sys2Proof.Machine.execTunnelCreate req c tag args s
  | .tunnelOpen req c tag args => Sys2Proof.Machine.execTunnelOpen req c tag args s
  | .tunnelClose req c tag args => Sys2Proof.Machine.execTunnelClose req c tag args s
  | .tunnelDestroy req c tag args => Sys2Proof.Machine.execTunnelDestroy req c tag args s
  | .tunnelModify req c tag args => Sys2Proof.Machine.execTunnelModify req c tag args s
  | .openReq p m => Sys2Proof.Machine.execOpenReq p m s
  | .openAck p m => Sys2Proof.Machine.execOpenAck p m s
  | .openConfirm p m => Sys2Proof.Machine.execOpenConfirm p m s
  | .closeReq p m => Sys2Proof.Machine.execCloseReq p m s
  | .closeAck p m => Sys2Proof.Machine.execCloseAck p m s
  | .teardown p m => Sys2Proof.Machine.execTeardown p m s
  | .modifyReq p m => Sys2Proof.Machine.execModifyReq p m s
  | .modifyAck p m => Sys2Proof.Machine.execModifyAck p m s
  | .openTimeout ctx => Sys2Proof.Machine.execOpenTimeout ctx s
  | .drainComplete ctx => Sys2Proof.Machine.execDrainComplete ctx s
  | .drainLimitExpiry ctx => Sys2Proof.Machine.execDrainLimitExpiry ctx s
  | .respFaultHoldExpiry ctx => Sys2Proof.Machine.execRespFaultHoldExpiry ctx s
  | .tunnelReopen ctx => Sys2Proof.Machine.execTunnelReopen ctx s
  | .jobDispatch ctx encap => Sys2Proof.Machine.execJobDispatch ctx encap s
  | .jobStart t => Sys2Proof.Machine.execJobStart t s
  | .jobDone t => Sys2Proof.Machine.execJobDone t s
  | .jobCommit ctx encap => Sys2Proof.Machine.execJobCommit ctx encap s
  | .meterRelease ctx => Sys2Proof.Machine.execMeterRelease ctx s
  | .steal t remote => Sys2Proof.Machine.execSteal t remote s
  | .tenderFault t cause => Sys2Proof.Machine.execTenderFault t cause s
  | .tenderWatchdog t => Sys2Proof.Machine.execTenderWatchdog t s
  | .tenderFence req c tag args => Sys2Proof.Machine.execTenderFence req c tag args s
  | .tenderRestore req c tag args ok => Sys2Proof.Machine.execTenderRestore req c tag args ok s
  | .engineBarrier req c tag args => Sys2Proof.Machine.execEngineBarrier req c tag args s
  | .engBarrierArm => Sys2Proof.Machine.execEngBarrierArm s
  | .barrierComplete which => Sys2Proof.Machine.execBarrierComplete which s
  | .engineReload req c tag args => Sys2Proof.Machine.execEngineReload req c tag args s
  | .engineFenceRaise req c tag => Sys2Proof.Machine.execEngineFenceRaise req c tag s
  | .engineFenceLift req c tag => Sys2Proof.Machine.execEngineFenceLift req c tag s
  | .fenceExpired => Sys2Proof.Machine.execFenceExpired s
  | .blindWindowEnd w => Sys2Proof.Machine.execBlindWindowEnd w s
  | .planSwitch req c tag args => Sys2Proof.Machine.execPlanSwitch req c tag args s
  | .meterColourClear req c tag => Sys2Proof.Machine.execMeterColourClear req c tag s
  | .meterColourSet req c tag => Sys2Proof.Machine.execMeterColourSet req c tag s
  | .meterColourEnd req c tag => Sys2Proof.Machine.execMeterColourEnd req c tag s
  | .announce rx active next seq eff origin => Sys2Proof.Machine.execAnnounce rx active next seq eff origin s
  | .announceRepeat => Sys2Proof.Machine.execAnnounceRepeat s
  | .statusBlock rx active next pending seq eff origin => Sys2Proof.Machine.execStatusBlock rx active next pending seq eff origin s
  | .ackBlock rx active next seq eff origin => Sys2Proof.Machine.execAckBlock rx active next seq eff origin s
  | .countBlock rx hubs => Sys2Proof.Machine.execCountBlock rx hubs s
  | .planSwitched => Sys2Proof.Machine.execPlanSwitched s
  | .pfcFrame n mask times => Sys2Proof.Machine.execPfcFrame n mask times s
  | .pfcRefresh n => Sys2Proof.Machine.execPfcRefresh n s
  | .pfcPauseExpiry n p => Sys2Proof.Machine.execPfcPauseExpiry n p s
  | .pfcStuck n => Sys2Proof.Machine.execPfcStuck n s
  | .mirrorFrameClose m => Sys2Proof.Machine.execMirrorFrameClose m s
  | .sweepComplete => Sys2Proof.Machine.execSweepComplete s
  | .scrubPass => Sys2Proof.Machine.execScrubPass s
  | .clsWrite req c tag args => Sys2Proof.Machine.execClsWrite req c tag args s
  | .clsClear req c tag args => Sys2Proof.Machine.execClsClear req c tag args s
  | .clsRead req c tag args => Sys2Proof.Machine.execClsRead req c tag args s
  | .eccInject req c tag args => Sys2Proof.Machine.execEccInject req c tag args s
  | .scrubNow req c tag args => Sys2Proof.Machine.execScrubNow req c tag args s
  | .encoderEdge n a b z lapse => Sys2Proof.Machine.execEncoderEdge n a b z lapse s
  | .bcnStandstill b => Sys2Proof.Machine.execBcnStandstill b s
  | .bearingSegmentStart => Sys2Proof.Machine.execBearingSegmentStart s
  | .delayProbeRequest rx seq => Sys2Proof.Machine.execDelayProbeRequest rx seq s
  | .delayProbeResponse rx seq upLocked turn offset lapse => Sys2Proof.Machine.execDelayProbeResponse rx seq upLocked turn offset lapse s
  | .timebaseLock => Sys2Proof.Machine.execTimebaseLock s
  | .bearingRestore req c tag args => Sys2Proof.Machine.execBearingRestore req c tag args s
  | .beaconCapture req c tag args => Sys2Proof.Machine.execBeaconCapture req c tag args s
  | .beaconCaptureFire => Sys2Proof.Machine.execBeaconCaptureFire s
  | .probeNow req c tag args => Sys2Proof.Machine.execProbeNow req c tag args s
  | .probeNowTimeout p => Sys2Proof.Machine.execProbeNowTimeout p s
  | .clockLoRead => Sys2Proof.Machine.execClockLoRead s
  | .daymarkPost req c tag args => Sys2Proof.Machine.execDaymarkPost req c tag args s
  | .daymarkCancel req c tag args => Sys2Proof.Machine.execDaymarkCancel req c tag args s
  | .daymarkRead req c tag args => Sys2Proof.Machine.execDaymarkRead req c tag args s
  | .dmPostGo => Sys2Proof.Machine.execDmPostGo s
  | .lampcmdPost => Sys2Proof.Machine.execLampcmdPost s
  | .lampcmdCancel => Sys2Proof.Machine.execLampcmdCancel s
  | .daymarkFired => Sys2Proof.Machine.execDaymarkFired s
  | .pulseTimeEnd l => Sys2Proof.Machine.execPulseTimeEnd l s
  | .pulseBearingEnd => Sys2Proof.Machine.execPulseBearingEnd s
  | .pulseTimeout => Sys2Proof.Machine.execPulseTimeout s
  | .lampEdge l => Sys2Proof.Machine.execLampEdge l s
  | .lampCalibration ok => Sys2Proof.Machine.execLampCalibration ok s
  | .firedMessageSend => Sys2Proof.Machine.execFiredMessageSend s
  | .lampSetNow req c tag args => Sys2Proof.Machine.execLampSetNow req c tag args s
  | .lampRelease req c tag mask => Sys2Proof.Machine.execLampRelease req c tag mask s
  | .lampSafe req c tag mask => Sys2Proof.Machine.execLampSafe req c tag mask s
  | .lampSafeChain req c tag mask => Sys2Proof.Machine.execLampSafeChain req c tag mask s
  | .ethFrameRx n frame fcsOk => Sys2Proof.Machine.execEthFrameRx n frame fcsOk s
  | .ethFrameTx n => Sys2Proof.Machine.execEthFrameTx n s
  | .ethLinkChange n link => Sys2Proof.Machine.execEthLinkChange n link s
  | .ethTsRead req c tag args => Sys2Proof.Machine.execEthTsRead req c tag args s
  | .canFrameRx n f remote => Sys2Proof.Machine.execCanFrameRx n f remote s
  | .canFrameTx n => Sys2Proof.Machine.execCanFrameTx n s
  | .canBusOff n => Sys2Proof.Machine.execCanBusOff n s
  | .busOffRecovery n => Sys2Proof.Machine.execBusOffRecovery n s
  | .canRestart req c tag args => Sys2Proof.Machine.execCanRestart req c tag args s
  | .addressClaimed n src name => Sys2Proof.Machine.execAddressClaimed n src name s
  | .addressClaimRequest n => Sys2Proof.Machine.execAddressClaimRequest n s
  | .addressUsable n => Sys2Proof.Machine.execAddressUsable n s
  | .addressReclaim req c tag args => Sys2Proof.Machine.execAddressReclaim req c tag args s
  | .emmcInit req => Sys2Proof.Machine.execEmmcInit req s
  | .emmcInitDone found parts => Sys2Proof.Machine.execEmmcInitDone found parts s
  | .emmcReinit req c tag args => Sys2Proof.Machine.execEmmcReinit req c tag args s
  | .blockRead ctx => Sys2Proof.Machine.execBlockRead ctx s
  | .blockWrite ctx => Sys2Proof.Machine.execBlockWrite ctx s
  | .blockFlush ctx => Sys2Proof.Machine.execBlockFlush ctx s
  | .blockTrim ctx => Sys2Proof.Machine.execBlockTrim ctx s
  | .blockInfo ctx => Sys2Proof.Machine.execBlockInfo ctx s
  | .blockData ctx => Sys2Proof.Machine.execBlockData ctx s
  | .emmcCommandDone res r1 data => Sys2Proof.Machine.execEmmcCommandDone res r1 data s
  | .uartRxSegment n data => Sys2Proof.Machine.execUartRxSegment n data s
  | .serSegment n => Sys2Proof.Machine.execSerSegment n s
  | .serTransactionDone n status data => Sys2Proof.Machine.execSerTransactionDone n status data s
  | .csiFrameStart n vc => Sys2Proof.Machine.execCsiFrameStart n vc s
  | .csiLongPacket n vc dt hdr data crcOk => Sys2Proof.Machine.execCsiLongPacket n vc dt hdr data crcOk s
  | .csiFrameEnd n vc => Sys2Proof.Machine.execCsiFrameEnd n vc s
  | .dsiFrameStart => Sys2Proof.Machine.execDsiFrameStart s
  | .dsiLine fill empty => Sys2Proof.Machine.execDsiLine fill empty s
  | .showSlotWrite req slot => Sys2Proof.Machine.execShowSlotWrite req slot s
  | .dsiPacket req c tag args => Sys2Proof.Machine.execDsiPacket req c tag args s
  | .hsicConnect n => Sys2Proof.Machine.execHsicConnect n s
  | .functionConnect n f => Sys2Proof.Machine.execFunctionConnect n f s
  | .setup n k setup => Sys2Proof.Machine.execSetup n k setup s
  | .setAddress n k => Sys2Proof.Machine.execSetAddress n k s
  | .setConfiguration n k => Sys2Proof.Machine.execSetConfiguration n k s
  | .setInterface n k => Sys2Proof.Machine.execSetInterface n k s
  | .getDescriptor n k => Sys2Proof.Machine.execGetDescriptor n k s
  | .getStatus n k => Sys2Proof.Machine.execGetStatus n k s
  | .getConfiguration n k => Sys2Proof.Machine.execGetConfiguration n k s
  | .getInterface n k => Sys2Proof.Machine.execGetInterface n k s
  | .setFeatureEndpointHalt n k => Sys2Proof.Machine.execSetFeatureEndpointHalt n k s
  | .clearFeatureEndpointHalt n k => Sys2Proof.Machine.execClearFeatureEndpointHalt n k s
  | .setFeatureRemoteWakeup n k => Sys2Proof.Machine.execSetFeatureRemoteWakeup n k s
  | .setFeatureTestMode n k => Sys2Proof.Machine.execSetFeatureTestMode n k s
  | .setFeaturePortReset n => Sys2Proof.Machine.execSetFeaturePortReset n s
  | .portResetDone n f => Sys2Proof.Machine.execPortResetDone n f s
  | .portPower n => Sys2Proof.Machine.execPortPower n s
  | .setFeaturePortSuspend n => Sys2Proof.Machine.execSetFeaturePortSuspend n s
  | .clearFeaturePortSuspend n => Sys2Proof.Machine.execClearFeaturePortSuspend n s
  | .ttRequest n => Sys2Proof.Machine.execTtRequest n s
  | .controlRequest n k data => Sys2Proof.Machine.execControlRequest n k data s
  | .controlReply n f own => Sys2Proof.Machine.execControlReply n f own s
  | .ctrlTimeout n f => Sys2Proof.Machine.execCtrlTimeout n f s
  | .outPacket n f ep toggle data => Sys2Proof.Machine.execOutPacket n f ep toggle data s
  | .ping n f ep => Sys2Proof.Machine.execPing n f ep s
  | .inToken n k ep acked => Sys2Proof.Machine.execInToken n k ep acked s
  | .usbBusReset n => Sys2Proof.Machine.execUsbBusReset n s
  | .usbSuspend n => Sys2Proof.Machine.execUsbSuspend n s
  | .hostResume n => Sys2Proof.Machine.execHostResume n s
  | .resumeReady n f => Sys2Proof.Machine.execResumeReady n f s
  | .remoteWake n f => Sys2Proof.Machine.execRemoteWake n f s
  | .usbWake req c tag args => Sys2Proof.Machine.execUsbWake req c tag args s
  | .usbEpHalt req c tag args => Sys2Proof.Machine.execUsbEpHalt req c tag args s
  | .usbReconnect req c tag args => Sys2Proof.Machine.execUsbReconnect req c tag args s
  | .hostBridgeReset => Sys2Proof.Machine.execHostBridgeReset s
  | .pcieLinkChange speed width => Sys2Proof.Machine.execPcieLinkChange speed width s
  | .bar2Write addr be data poisoned => Sys2Proof.Machine.execBar2Write addr be data poisoned s
  | .bar2Read addr be len => Sys2Proof.Machine.execBar2Read addr be len s
  | .atomicOp bar2 addr op size operand compare => Sys2Proof.Machine.execAtomicOp bar2 addr op size operand compare s
  | .readData w => Sys2Proof.Machine.execReadData w s
  | .lockAck w => Sys2Proof.Machine.execLockAck w s
  | .winReadLimitExpiry w => Sys2Proof.Machine.execWinReadLimitExpiry w s
  | .pfAgeExpiry w => Sys2Proof.Machine.execPfAgeExpiry w s
  | .memoryWrite ctx => Sys2Proof.Machine.execMemoryWrite ctx s
  | .memoryRead ctx => Sys2Proof.Machine.execMemoryRead ctx s
  | .lock ctx => Sys2Proof.Machine.execLock ctx s
  | .unlock ctx => Sys2Proof.Machine.execUnlock ctx s
  | .memLockExpired => Sys2Proof.Machine.execMemLockExpired s
  | .windowEnable w v => Sys2Proof.Machine.execWindowEnable w v s
  | .txTailWrite q v => Sys2Proof.Machine.execTxTailWrite q v s
  | .rxTailWrite q v => Sys2Proof.Machine.execRxTailWrite q v s
  | .dmaCompletion q ok data => Sys2Proof.Machine.execDmaCompletion q ok data s
  | .modTimeExpiry q => Sys2Proof.Machine.execModTimeExpiry q s
  | .roleAnnounce p epoch role hears strap serial primary => Sys2Proof.Machine.execRoleAnnounce p epoch role hears strap serial primary s
  | .swapPrepare p epoch kind => Sys2Proof.Machine.execSwapPrepare p epoch kind s
  | .swapHoldDrained => Sys2Proof.Machine.execSwapHoldDrained s
  | .swapReady p epoch => Sys2Proof.Machine.execSwapReady p epoch s
  | .swapRefuse p epoch => Sys2Proof.Machine.execSwapRefuse p epoch s
  | .swapCommit p epoch sf => Sys2Proof.Machine.execSwapCommit p epoch sf s
  | .swapAbort p epoch => Sys2Proof.Machine.execSwapAbort p epoch s
  | .swapPrepLimitExpiry => Sys2Proof.Machine.execSwapPrepLimitExpiry s
  | .commitPoint => Sys2Proof.Machine.execCommitPoint s
  | .mirror seq r => Sys2Proof.Machine.execMirror seq r s
  | .mirrorAck seq => Sys2Proof.Machine.execMirrorAck seq s
  | .mirrorTimeout => Sys2Proof.Machine.execMirrorTimeout s
  | .pairLoss p => Sys2Proof.Machine.execPairLoss p s
  | .pairClaimed => Sys2Proof.Machine.execPairClaimed s
  | .pairSwap req c tag args => Sys2Proof.Machine.execPairSwap req c tag args s
  | .pairResync req c tag args => Sys2Proof.Machine.execPairResync req c tag args s
  | .seatConfirm ctx => Sys2Proof.Machine.execSeatConfirm ctx s
  | .seatRelease ctx => Sys2Proof.Machine.execSeatRelease ctx s
  | .seatingStart => Sys2Proof.Machine.execSeatingStart s
  | .checkPass good => Sys2Proof.Machine.execCheckPass good s
  | .checkTimeout backfeed => Sys2Proof.Machine.execCheckTimeout backfeed s
  | .rampDone => Sys2Proof.Machine.execRampDone s
  | .rampTimeout => Sys2Proof.Machine.execRampTimeout s
  | .fastTrip => Sys2Proof.Machine.execFastTrip s
  | .curveTrip k => Sys2Proof.Machine.execCurveTrip k s
  | .voltageTrip => Sys2Proof.Machine.execVoltageTrip s
  | .transitionTimeout => Sys2Proof.Machine.execTransitionTimeout s
  | .retryTimerExpiry => Sys2Proof.Machine.execRetryTimerExpiry s
  | .lockoutClearExpiry => Sys2Proof.Machine.execLockoutClearExpiry s
  | .good rx id ack => Sys2Proof.Machine.execGood rx id ack s
  | .caps rx id mask vendor => Sys2Proof.Machine.execCaps rx id mask vendor s
  | .getCaps rx id => Sys2Proof.Machine.execGetCaps rx id s
  | .request rx id profile current => Sys2Proof.Machine.execRequest rx id profile current s
  | .accept rx id profile => Sys2Proof.Machine.execAccept rx id profile s
  | .reject rx id reason => Sys2Proof.Machine.execReject rx id reason s
  | .psReady rx id profile => Sys2Proof.Machine.execPsReady rx id profile s
  | .hardReset rx id => Sys2Proof.Machine.execHardReset rx id s
  | .vdmDiscoverModes rx id response mode data => Sys2Proof.Machine.execVdmDiscoverModes rx id response mode data s
  | .vdmEnter rx id response mode data => Sys2Proof.Machine.execVdmEnter rx id response mode data s
  | .vdmExit rx id response mode data => Sys2Proof.Machine.execVdmExit rx id response mode data s
  | .vdmAttention rx id mode data => Sys2Proof.Machine.execVdmAttention rx id mode data s
  | .moorVdm rx id svid command mode data => Sys2Proof.Machine.execMoorVdm rx id svid command mode data s
  | .mooringMsgRetry c => Sys2Proof.Machine.execMooringMsgRetry c s
  | .capsRepeat c => Sys2Proof.Machine.execCapsRepeat c s
  | .psReadyTimeout c => Sys2Proof.Machine.execPsReadyTimeout c s
  | .transitionStart => Sys2Proof.Machine.execTransitionStart s
  | .transitionDone => Sys2Proof.Machine.execTransitionDone s
  | .limpAttention => Sys2Proof.Machine.execLimpAttention s
  | .moorFeedSwitch good => Sys2Proof.Machine.execMoorFeedSwitch good s
  | .feedBbmEnd => Sys2Proof.Machine.execFeedBbmEnd s
  | .feedReturn => Sys2Proof.Machine.execFeedReturn s
  | .moorRenegotiate req c tag args => Sys2Proof.Machine.execMoorRenegotiate req c tag args s
  | .moorRequest req c tag args => Sys2Proof.Machine.execMoorRequest req c tag args s
  | .moorHardReset req c tag args => Sys2Proof.Machine.execMoorHardReset req c tag args s
  | .moorResume req c tag args => Sys2Proof.Machine.execMoorResume req c tag args s
  | .moorSendVdm req c tag args => Sys2Proof.Machine.execMoorSendVdm req c tag args s
  | .moorHoldOff req c tag => Sys2Proof.Machine.execMoorHoldOff req c tag s
  | .moorHoldRelease req c tag => Sys2Proof.Machine.execMoorHoldRelease req c tag s
  | .keyOffer p m => Sys2Proof.Machine.execKeyOffer p m s
  | .keyAnswer p m => Sys2Proof.Machine.execKeyAnswer p m s
  | .keyRefuse p m => Sys2Proof.Machine.execKeyRefuse p m s
  | .remask => Sys2Proof.Machine.execRemask s
  | .trngStartup ok => Sys2Proof.Machine.execTrngStartup ok s
  | .trngHealthFail => Sys2Proof.Machine.execTrngHealthFail s
  | .keyDerive req c tag args => Sys2Proof.Machine.execKeyDerive req c tag args s
  | .keyGenerate req c tag args => Sys2Proof.Machine.execKeyGenerate req c tag args s
  | .keyLoadPublic req c tag args => Sys2Proof.Machine.execKeyLoadPublic req c tag args s
  | .keyErase req c tag args => Sys2Proof.Machine.execKeyErase req c tag args s
  | .attest req c tag args => Sys2Proof.Machine.execAttest req c tag args s
  | .fuseProgram req c tag args ok => Sys2Proof.Machine.execFuseProgram req c tag args ok s
  | .pairRekey req c tag args => Sys2Proof.Machine.execPairRekey req c tag args s
  | .sign req c tag args => Sys2Proof.Machine.execSign req c tag args s
  | .crcDataWrite c size v => Sys2Proof.Machine.execCrcDataWrite c size v s
  | .crcStart c => Sys2Proof.Machine.execCrcStart c s
  | .chFeed req c data => Sys2Proof.Machine.execChFeed req c data s
  | .chStart req c v => Sys2Proof.Machine.execChStart req c v s
  | .eventFire src data => Sys2Proof.Machine.execEventFire src data s
  | .eventTake r ok => Sys2Proof.Machine.execEventTake r ok s
  | .eoi r src => Sys2Proof.Machine.execEoi r src s
  | .pendingWrite o w v => Sys2Proof.Machine.execPendingWrite o w v s
  | .maskRead w => Sys2Proof.Machine.execMaskRead w s
  | .holdRequest o w => Sys2Proof.Machine.execHoldRequest o w s
  | .holdRelease o => Sys2Proof.Machine.execHoldRelease o s
  | .holdExpired => Sys2Proof.Machine.execHoldExpired s
  | .evrRdWrite r v => Sys2Proof.Machine.execEvrRdWrite r v s
  | .ringEnable r v => Sys2Proof.Machine.execRingEnable r v s
  | .wakeLatchSet k rising => Sys2Proof.Machine.execWakeLatchSet k rising s
  | .eventRaise req c tag args => Sys2Proof.Machine.execEventRaise req c tag args s
  | .domainOn req c tag d force => Sys2Proof.Machine.execDomainOn req c tag d force s
  | .domainRetention req c tag d force => Sys2Proof.Machine.execDomainRetention req c tag d force s
  | .domainOff req c tag d force => Sys2Proof.Machine.execDomainOff req c tag d force s
  | .domainGrant d => Sys2Proof.Machine.execDomainGrant d s
  | .delayLimitExpiry d => Sys2Proof.Machine.execDelayLimitExpiry d s
  | .padRelease req c tag args => Sys2Proof.Machine.execPadRelease req c tag args s
  | .padHoldWrite v => Sys2Proof.Machine.execPadHoldWrite v s
  | .droopSlow => Sys2Proof.Machine.execDroopSlow s
  | .droopClear => Sys2Proof.Machine.execDroopClear s
  | .droopLong => Sys2Proof.Machine.execDroopLong s
  | .brownOut aon => Sys2Proof.Machine.execBrownOut aon s
  | .sysrst => Sys2Proof.Machine.execSysrst s
  | .xtalFault => Sys2Proof.Machine.execXtalFault s
  | .wdtKick key => Sys2Proof.Machine.execWdtKick key s
  | .wdtWarning => Sys2Proof.Machine.execWdtWarning s
  | .wdtExpiry => Sys2Proof.Machine.execWdtExpiry s
  | .hubReset req c tag => Sys2Proof.Machine.execHubReset req c tag s
  | .chainReset req c tag => Sys2Proof.Machine.execChainReset req c tag s
  | .flashErase req c tag args => Sys2Proof.Machine.execFlashErase req c tag args s
  | .flashProgram req c tag args => Sys2Proof.Machine.execFlashProgram req c tag args s
  | .freqLocked ppb => Sys2Proof.Machine.execFreqLocked ppb s
  | .selectWrite req n v => Sys2Proof.Machine.execSelectWrite req n v s
  | .cmpLimit k => Sys2Proof.Machine.execCmpLimit k s
  | .cmpConfigWrite req k which v => Sys2Proof.Machine.execCmpConfigWrite req k which v s
  | .cntLoRead n => Sys2Proof.Machine.execCntLoRead n s
  | .snapClockLoRead b e => Sys2Proof.Machine.execSnapClockLoRead b e s
  | .cntSnapshot req c tag args => Sys2Proof.Machine.execCntSnapshot req c tag args s
  | .snapshotCapture b => Sys2Proof.Machine.execSnapshotCapture b s
  | .obsEnableWrite req v => Sys2Proof.Machine.execObsEnableWrite req v s
  | .obsGroupWrite req v => Sys2Proof.Machine.execObsGroupWrite req v s
  | .debugChallenge req c tag args => Sys2Proof.Machine.execDebugChallenge req c tag args s
  | .debugUnlock req c tag args => Sys2Proof.Machine.execDebugUnlock req c tag args s
  | .nonceExpiry => Sys2Proof.Machine.execNonceExpiry s
  | .loopbackWrite req q v => Sys2Proof.Machine.execLoopbackWrite req q v s
  | .bypass => Sys2Proof.Machine.execBypass s
  | .idcode => Sys2Proof.Machine.execIdcode s
  | .samplePreload bits => Sys2Proof.Machine.execSamplePreload bits s
  | .extest => Sys2Proof.Machine.execExtest s
  | .extestPulse => Sys2Proof.Machine.execExtestPulse s
  | .extestTrain => Sys2Proof.Machine.execExtestTrain s
  | .clamp => Sys2Proof.Machine.execClamp s
  | .highz => Sys2Proof.Machine.execHighz s
  | .registerWrite t => Sys2Proof.Machine.execRegisterWrite t s
  | .cellSlot e k => Sys2Proof.Machine.execCellSlot e k s
  | .followerStep p => Sys2Proof.Machine.execFollowerStep p s
  | .checkerLock n before after => Sys2Proof.Machine.execCheckerLock n before after s
  | .pllUnlock k => Sys2Proof.Machine.execPllUnlock k s
  | .vddCoreRestored => Sys2Proof.Machine.execVddCoreRestored s
  | .crystalReturn => Sys2Proof.Machine.execCrystalReturn s
  | .rstoutRelease => Sys2Proof.Machine.execRstoutRelease s
  | .porstNAsserted => Sys2Proof.Machine.execPorstNAsserted s
  | .trngTestsPass => Sys2Proof.Machine.execTrngTestsPass s
  | .eccEngineDone => Sys2Proof.Machine.execEccEngineDone s
  | .flashOperationDone ok => Sys2Proof.Machine.execFlashOperationDone ok s
  | .domainPowerUpDone d => Sys2Proof.Machine.execDomainPowerUpDone d s
  | .completionTimeout q => Sys2Proof.Machine.execCompletionTimeout q s
  | .emmcDeviceTimeout => Sys2Proof.Machine.execEmmcDeviceTimeout s
  | .canBusError n tx heavy => Sys2Proof.Machine.execCanBusError n tx heavy s
  | .ctsNChange n level => Sys2Proof.Machine.execCtsNChange n level s
  | .usbReconnectTimeout n f => Sys2Proof.Machine.execUsbReconnectTimeout n f s

end Sys2Proof.Machine
end

