-- ==== Sys2Proof/Machine/Tick.lean ====
section
/-!
DEFINITION. What time alone does, as the block idles (log 8): CLOCK, the comparators of R583, and what waits for an instant.
-/

namespace Sys2Proof.Machine

/-- The occupancy that OCC and INSTANCE name (R583). -/
def Hub.occupancy (h : Hub) (occ n : Nat) : Nat :=
  match occ with
  | 1 => h.sharedUsed
  | 2 => h.acct (acAllot (n % 256) (n / 256))
  | 3 => h.acct (acReplay n)
  | 4 => h.acct acLocal0
  | 5 => h.sw.stageIn.get 0 n
  | 6 => ((h.tender n).jobs.filter (fun j => decide (j.state = .pending))).length
  | 7 => match h.live? n with
    | some i => ([2 * i, 2 * i + 1].map (fun k => gap 16 (h.eng.issue.get 0 k) (h.eng.commit.get 0 k))).sum
    | none => 0
  | 8 => h.evt.details.length
  | 9 => h.dm.slots.length
  | 10 => h.vid.fill
  | 11 => h.acct acMirror
  | _ => 0

/-- Comparator k samples in a core cycle: it adds 1, or 2 at 400 MHz, where the occupancy exceeds N. -/
def Hub.cmpSample (h : Hub) (k : Nat) : Hub :=
  let occ := h.val (Od.cmpOcc k)
  if occ = 0 ∨ h.occupancy occ (h.val (Od.cmpInstance k)) ≤ h.val (Od.cmpN k) then h
  else
    let h1 := h.bump (cntEntry (352 + k)) 48 (if h.pwr.slow then 2 else 1)
    if h1.val (Od.cmpLimit k) ≤ h1.val (cntEntry (352 + k)) then h1.cmpLimit k else h1

/-- Tender t has a segment that waits to commit (R217): DONE, and its ticket is not COMMIT. -/
def Hub.waitsCommit (h : Hub) (t : Nat) : Bool :=
  (h.tender t).jobs.any (fun j => decide (j.state = .done) && decide (j.ticket ≠ h.eng.commit.get 0 (dirKey j.ctx j.encap)))

/-- A core cycle in which tickets wait to commit is counted (R239, R582 item 0x0404): for each Tender, and once for the hub
(log 79). -/
def Hub.ticketCycle (h : Hub) : Hub :=
  let l := (List.range 32).filter h.waitsCommit
  if l = [] then h else (l.foldl (fun h t => h.tally 0x0404 t 1) h).tally 0x0404 0xFFFF 1

/-- A core cycle begins: the comparators sample, and waiting tickets are counted. -/
def Hub.coreCycle (h : Hub) : Hub := ((List.range 32).foldl Hub.cmpSample h).ticketCycle

/-- CLOCK stands still: the hub is held in power-on reset, or its crystal is stopped (R564). -/
def Hub.still (h : Hub) : Bool := h.inPorst || h.pwr.xtalStopped

/-- The least step of CLOCK passes: 0.1 ns, or 40 ns in AON retention (R290, R557). -/
def Hub.tick (h : Hub) : Hub :=
  if h.still then h
  else if (h.domain 0).state = .retention then h.pass 400
  else
    let h1 := h.pass 1
    let h2 := if h.cycleAt h.clock = h.cycleAt h1.clock then h1 else h1.coreCycle
    let h3 := (List.range 5).foldl (fun (h : Hub) n => if (h.lane n).inject = 0 ∨ h.clock < (h.lane n).injectEnd then h else h.setLane n { h.lane n with inject := 0 }) h2
    h3.producersGo.hostGo.restoreEnds.chainJudge

end Sys2Proof.Machine
end

