-- ==== Sys2Proof/WellFormed.lean ====
section
/-!
DEFINITION. Commands whose operands the spec's formats can carry. The meanings are total on every command; the statements and
the tests use these checks.
-/

namespace Sys2Proof

/-- A cell of R109: INDEX 8 bits, TYPE 4 bits, TSEQ 12 bits, LEN 5 bits, and LEN bytes of payload, at most the 28 there are. -/
def Cell.wf (c : Cell) : Bool :=
  decide (c.index < 256) && decide (c.ctype < 16) && decide (c.tseq < 4096) && decide (c.len < 32) && decide (c.payload.length = min c.len 28)

/-- The lengths of a CAN data field, classic or FD (R349). -/
def canLength (fd : Bool) (l : Nat) : Bool := decide (l ≤ 8) || (fd && decide (l ∈ [12, 16, 20, 24, 32, 48, 64]))

/-- A CAN frame (R349): its identifier has 11 or 29 bits. -/
def CanFrame.wf (f : CanFrame) : Bool := decide (f.id < (if f.extended then 2 ^ 29 else 2 ^ 11)) && canLength f.fd f.data.length

/-- The taps of LANE_DFE0 and LANE_DFE1 (R108). -/
def dfeWf (l : List Int) : Bool :=
  decide (l.length = 8) && (l.take 1).all (fun t => decide (-64 ≤ t) && decide (t ≤ 63)) &&
    (l.drop 1).all (fun t => decide (-32 ≤ t) && decide (t ≤ 31))

/-- A request to BAR2: whole DWs, at most `most` bytes, within 4 KiB (R417, R426). -/
def bar2Wf (addr len most : Nat) : Bool :=
  decide (addr % 4 = 0) && decide (len % 4 = 0) && decide (0 < len) && decide (len ≤ most) && decide (addr % 4096 + len ≤ 4096)

/-- The operands of a command are such as the spec's formats carry. -/
def Instr.wf : Instr → Bool
  | .tally _ cells _ _ _ _ => decide (1 ≤ cells.length) && decide (cells.length ≤ 16) && cells.all Cell.wf
  | .trainingBlock _ b _ => decide (b.rate.val ≠ 3)
  | .laneDropBlock _ _ rateNext _ => decide (rateNext.val ≠ 3)
  | .equalisationDone _ _ dfe _ _ => dfeWf dfe
  | .idle _ (.unknown code) _ => decide (code.toNat ∉ [0x10, 0x20, 0x30, 0x40, 0x50, 0x60, 0x70, 0x80, 0x90, 0xF0, 0xF1, 0xF2, 0xF3])
  | .vdmDiscoverModes _ _ _ _ data => decide (data.length ≤ 6)
  | .vdmEnter _ _ _ _ data => decide (data.length ≤ 6)
  | .vdmExit _ _ _ _ data => decide (data.length ≤ 6)
  | .vdmAttention _ _ _ data => decide (data.length ≤ 6)
  | .moorVdm _ _ _ _ _ data => decide (data.length ≤ 6)
  | .countBlock _ hubs => decide (1 ≤ hubs.val) && decide (hubs.val ≤ 8)
  | .tenderFault _ cause => decide (cause.val ∈ [1, 3, 4])
  | .pfcFrame _ _ times => decide (times.length = 8)
  | .ethFrameRx _ frame _ => decide (14 ≤ frame.length)
  | .canFrameRx _ f _ => f.wf
  | .initiateDownload _ _ fd b => decide (b.length = if fd then 64 else 8)
  | .downloadSegment _ _ fd b => decide (b.length = if fd then 64 else 8)
  | .initiateUpload _ _ fd b => decide (b.length = if fd then 64 else 8)
  | .uploadSegmentRequest _ _ fd b => decide (b.length = if fd then 64 else 8)
  | .odapAbort _ _ fd b => decide (b.length = if fd then 64 else 8)
  | .odapReservedFrame _ _ fd b => decide (b.length = if fd then 64 else 8)
  | .emmcInitDone (some (_, width)) parts => decide (width.val ∈ [1, 4, 8]) && decide (parts.length ≤ 8)
  | .uartRxSegment _ data => decide (1 ≤ data.length) && decide (data.length ≤ 256)
  | .outPacket _ _ ep _ data => decide (ep.val ≠ 0) && decide (data.length ≤ 512)
  | .ping _ _ ep => decide (ep.val ≠ 0)
  | .bar2Write addr _ data _ => bar2Wf addr.toNat data.length 256
  | .bar2Read addr _ len => bar2Wf addr.toNat len.toNat 4096
  | .atomicOp _ addr _ size _ _ => decide (size.val ∈ [4, 8, 16]) && decide (addr.toNat % size.val = 0)
  | .registerWrite (.words _ addr _ data _) => decide (addr.toNat % 4 = 0) && decide (data.length % 4 = 0) && decide (0 < data.length)
  | _ => true

end Sys2Proof
end

