-- ==== Sys2Proof/Safety.lean ====
section
/-!
DEFINITION. The terms in which the statements speak: a command that completes, the access that the hub serves, the lines that stand
as the rules say, and the frame of a command.
-/

namespace Sys2Proof.Machine

/-- PORST_N is high: the hub is not held in power-on reset (R564). -/
abbrev Hub.live (h : Hub) : Prop := h.inPorst = false

/-- The command runs at `s` and ends with the hub as `P` says; the queue stays as it was. -/
def Completes (c : Instr) (s : State) (P : Hub → Prop) : Prop := ∃ h, exec c s = .next { s with hub := h } ∧ P h

/-- Keeper takes the command of a code from a path on a channel: it runs, no strap fault and no stay in the boot ROM refuses the
code (R30, R571), and no command runs on the channel (R59). -/
abbrev Hub.takes (h : Hub) (req : Path) (c code : Nat) : Prop :=
  h.live ∧ h.keeperUp = true ∧ h.ctl.keeperQ = [] ∧ h.codeRefused req code = none ∧ (h.chan c).state ≠ .running

/-- Channel c has ended the command with a status and the bytes that follow it in RESULT (R60). -/
def Hub.ended (h : Hub) (c code tag status : Nat) (data : Bytes) : Prop :=
  (h.chan c).state = .done ∧ (h.chan c).tag = tag ∧ (h.chan c).code = code ∧
    (h.chan c).result = u16 tag ++ u16 code ++ u32 status ++ data

/-- Channel c runs the command (R60). -/
abbrev Hub.busyWith (h : Hub) (c code tag : Nat) : Prop :=
  (h.chan c).state = .running ∧ (h.chan c).tag = tag ∧ (h.chan c).code = code

/-- The hub has given `x` to the outside since it stood as `h0` (log 6). -/
def Hub.gave (h h0 : Hub) (x : Out) : Prop := ∃ l m, h.out = l ++ x :: (m ++ h0.out)

/-- A control block with these sixteen bytes has left on some lane of link p since the hub stood as `h0` (R121, R122). -/
def Hub.sentBlock (h h0 : Hub) (p : Nat) (b : Bytes) : Prop := ∃ n, h.gave h0 (.block p n b)

/-- The word at an address of a region can be read: it is sound, or correctable (R262). -/
abbrev Hub.wordSound (h : Hub) (region addr : Nat) : Prop := ∀ d ∈ h.sw.damaged, d.1 = region → d.2.1 = addr → d.2.2 ≤ 2

/-- The acknowledgement that link p sends next (R117): NAK where one is due, and RX_NEXT less 1. -/
abbrev Hub.ackNow (h : Hub) (p : Nat) : Ack := ⟨(h.link p).nakDue, BitVec.ofNat 16 (gap 16 (h.link p).rxNext 1)⟩

/-- The mooring stage has tripped since it stood as in `h0` (R489, R494): its gate is shut, the trip counts, the retry timer runs. -/
def Hub.trippedFrom (h h0 : Hub) (last : Nat) : Prop :=
  h.moor.gate = false ∧ h.moor.killed = true ∧ h.moor.trips = trunc 32 (h0.moor.trips + 1) ∧ h.moor.lastTrip = last ∧
    h.moor.retryTimer = true ∧ (h.moor.stage = .tripped ∨ h.moor.stage = .lockout)

/-- A mooring message with these contents is the newest that waits on connector c (R483). -/
def Hub.moorQueued (h : Hub) (c kind : Nat) (data : Bytes) : Prop :=
  ∃ l m, (h.conn c).outMsgs = l ++ [m] ∧ m.kind = kind ∧ m.data = data

/-- A mooring message of connector c has left since the hub stood as `h0` (R481, R482): on a running link as a MOORING_RELAY block, or
deferred to the next superframe where R124 lets no more leave in this one; otherwise, for CPA, as a frame on MOOR_LINE. -/
def Hub.moorGave (h h0 : Hub) (c kind id : Nat) (data : Bytes) : Prop :=
  if h0.running c = true then
    (if (h0.link c).paced < h0.paceLimit c then h.sentBlock h0 c (relayBytes (h0.moorBytes c kind id data))
      else ∃ x ∈ (h.link c).deferred, x.2 = relayBytes (h0.moorBytes c kind id data))
  else c = 0 → h.gave h0 (.moorLine (moorLineBytes (h0.moorBytes c kind id data)))

/-- The lines whose levels the hub's state alone decides stand as the rules say: EVT_N is high exactly while no ring with NOTIFY 2
holds a record, Keeper's event interrupt stands exactly while a ring with NOTIFY 3 holds one (R538), and FAULT_N is low exactly in
strap fault (R30), in a stay in the boot ROM (R571) and while the crystal is stopped (R564). -/
abbrev Hub.linesStand (h : Hub) : Prop :=
  (h.evt.evtN = true ↔ ∀ c ∈ h.evt.rings.cells, c.2.notify = 2 → c.2.used = 0) ∧
  (h.evt.keeperIrq = true ↔ ∃ c ∈ h.evt.rings.cells, c.2.notify = 3 ∧ c.2.used ≠ 0) ∧
  (h.mode.faultN = true ↔ h.mode.active = .strapFault ∨ h.pwr.bootPhase = .romStay ∨ h.pwr.xtalStopped = true)

/-- The event source holds a detail with these data: queued, or waiting for a free entry of the pool (R531, R535). -/
abbrev Hub.raised (h : Hub) (src : Nat) (data : Bytes) : Prop :=
  ∃ d ∈ h.evt.details ++ h.evt.waiting, d.source = src ∧ d.data = data.take 56

/-- An ODAP frame to a client with these data waits at CAN port n or in one of its transmit slots (R44, R46, R351). -/
abbrev Hub.odapSent (h : Hub) (n client : Nat) (data : Bytes) : Prop :=
  ∃ x ∈ (h.can n).slots ++ (h.can n).queue, x.1 = 0 ∧ x.2.id / 256 % 256 = client ∧
    x.2.data = (data ++ List.replicate 64 0xFF).take (if h.odapFd n then 64 else 8)

/-- Tunnel i takes segments from its local binding: it is OPEN or OPENING, and its direction is not the other one (R156). -/
abbrev Hub.takesIn (h : Hub) (i : Nat) : Prop :=
  ((h.ctx i).state = .open ∨ (h.ctx i).state = .opening) ∧ (h.ctx i).direction ≠ 2

/-- A segment offered to tunnel i waits for its Tender (R156, R214), or at its producer until its ingress takes it (R248). -/
abbrev Hub.segOffered (h : Hub) (i : Nat) (data : Bytes) (yellow : Bool) : Prop :=
  ∃ j ∈ h.eng.waiting ++ h.eng.atProducer, j.ctx = i ∧ j.encap = true ∧ j.seg = ⟨data, yellow⟩

/-- No mirror session copies the segments of ingress i, and no word that a lookup reads is damaged (R256, R263). -/
abbrev Hub.plainIn (h : Hub) (i : Nat) : Prop := (∀ s ∈ [0, 1, 2, 3], h.mirrorTakes s 0 i = false) ∧ h.sw.damaged = []

/-- A frame about the hub's claim from source address `src` waits at CAN port n or in one of its transmit slots (R351, R352). -/
abbrev Hub.claimSent (h : Hub) (n src : Nat) : Prop :=
  ∃ x ∈ (h.can n).slots ++ (h.can n).queue, x.1 = 0 ∧ x.2.id = isoId 6 0xEE 0xFF src ∧ x.2.data = u64 h.isoName

/-- Device k completes a control transfer: its data stage where there are data, or the status stage (R398). -/
abbrev Hub.usbAnswered (h h0 : Hub) (k : Nat) (data : Bytes) : Prop := h.gave h0 (if data = [] then .usb k 0 0 [] else .usb k 0 4 data)

/-- Tunnel i ends here at a local port of a code and takes segments from it (R156, R154). -/
abbrev Hub.endsAt (h : Hub) (i port : Nat) : Prop :=
  h.takesIn i ∧ (h.ctx i).role ≠ .transit ∧ portCode (h.ctx i).localBind = port

/-! ### Frames -/

/-- The kinds of state of the hub, one for each field of `Hub`; the three levels that the hub's state alone decides (EVT_N, Keeper's event
interrupt, FAULT_N) are a kind of their own. -/
inductive Part where
  | clock | draws | out | od | blob | regs | mem | kram | mode | ctl | evt | lines | lanes | links | tun | plan | eng | sw | bcn | dm | io | vid
  | usb | hb | pair | moor | sec | pwr | obs
  deriving DecidableEq, Repr

/-- Two hubs have the same state of a kind. -/
def Hub.agrees (a b : Hub) : Part → Prop
  | .clock => a.clock = b.clock
  | .draws => a.draws = b.draws
  | .out => a.out = b.out
  | .od => a.od = b.od
  | .blob => a.blob = b.blob
  | .regs => a.regs = b.regs
  | .mem => a.mem = b.mem
  | .kram => a.kram = b.kram
  | .mode => ({ a.mode with faultN := false } : ModeSt) = { b.mode with faultN := false }
  | .ctl => a.ctl = b.ctl
  | .evt => ({ a.evt with evtN := false, keeperIrq := false } : EvtSt) = { b.evt with evtN := false, keeperIrq := false }
  | .lines => a.evt.evtN = b.evt.evtN ∧ a.evt.keeperIrq = b.evt.keeperIrq ∧ a.mode.faultN = b.mode.faultN
  | .lanes => a.lanes = b.lanes
  | .links => a.links = b.links
  | .tun => a.tun = b.tun
  | .plan => a.plan = b.plan
  | .eng => a.eng = b.eng
  | .sw => a.sw = b.sw
  | .bcn => a.bcn = b.bcn
  | .dm => a.dm = b.dm
  | .io => a.io = b.io
  | .vid => a.vid = b.vid
  | .usb => a.usb = b.usb
  | .hb => a.hb = b.hb
  | .pair => a.pair = b.pair
  | .moor => a.moor = b.moor
  | .sec => a.sec = b.sec
  | .pwr => a.pwr = b.pwr
  | .obs => a.obs = b.obs

/-- Nothing differs but what the list names. -/
def Hub.keeps (a b : Hub) (l : List Part) : Prop := ∀ p, p ∉ l → a.agrees b p

/-- The frame of a command: whenever it answers a next state, the queue is as it was, and so is all of the hub's state but the kinds
that the list names. -/
def Touches (c : Instr) (l : List Part) : Prop := ∀ s t, exec c s = .next t → t.pending = s.pending ∧ t.hub.keeps s.hub l

/-- What a command spares: whenever it answers a next state, the queue is as it was, and so is each kind of the hub's state that the list
names. -/
def Spares (c : Instr) (l : List Part) : Prop := ∀ s t, exec c s = .next t → t.pending = s.pending ∧ ∀ p ∈ l, t.hub.agrees s.hub p

end Sys2Proof.Machine
end

