-- ==== Sys2Proof/Certificates/Slice0/Obligations.lean ====
section
/-!
DEFINITION. The statements about the hub, one definition each. A statement of the form `Completes c s P` says that command c answers a
next state at s whose hub satisfies P and whose queue is as it was.
-/

open Sys2Proof Sys2Proof.Machine

/-- A step runs the command at the front of the queue, with the queue's rest. For every command c, every rest of a queue and
every state: a step at the state with c at the front of the queue is exec of c at that state with the queue's rest. The queue
of waiting commands is the model's own (log 6). -/
def Obligations.FrontCommandRunsWithTheQueuesRest : Prop :=
  ∀ (c : Instr) (rest : List Instr) (s : State), step { s with pending := c :: rest } = exec c { s with pending := rest }

/-- On an empty queue only time passes: CLOCK advances, or stands still in power-on reset and with the crystal stopped. The
model's choice for an empty queue (log 8): the step answers a next state with the queue still empty. Held in power-on reset
or with the crystal stopped, CLOCK, the dictionary, the registers and the SRAM stay. Otherwise, with no correction of CLOCK
being absorbed or added (R294) and no chain reset under way, CLOCK advances by 0.1 ns, and by 40 ns while domain AON is in
retention. -/
def Obligations.IdleStepLetsTimePass : Prop :=
  (∀ s : State, s.pending = [] → ∃ h, step s = .next { s with hub := h }) ∧
  (∀ s : State, s.pending = [] → (s.hub.inPorst = true ∨ s.hub.pwr.xtalStopped = true) →
    ∃ h, step s = .next { s with hub := h } ∧ h.clock = s.hub.clock ∧ h.od = s.hub.od ∧ h.regs = s.hub.regs ∧ h.mem = s.hub.mem) ∧
  (∀ s : State, s.pending = [] → s.hub.live → s.hub.pwr.xtalStopped = false → s.hub.bcn.slew = 0 →
    (s.hub.bcn.servo = 0 ∨ s.hub.bcn.servoRun = sfUnits) → s.hub.pwr.chainReset = false →
    ∃ h, step s = .next { s with hub := h } ∧
      h.clock = s.hub.clock + (if (s.hub.domain 0).state = .retention then 400 else 1))

/-- Every command answers a next state, and the queue stays as it was. For every command of the table and every state, exec
answers a next state whose queue is the queue it was given: no command ends in a fault or a refusal. While PORST_N is low,
every command but the power-on reset, PORST_N itself and the JTAG instructions leaves the hub as it was. -/
def Obligations.EveryCommandAnswersAndKeepsTheQueue : Prop :=
  (∀ (c : Instr) (s : State), ∃ h, exec c s = .next { s with hub := h }) ∧
  (∀ (c : Instr) (s : State), s.hub.inPorst = true →
    (∀ strap b, c ≠ .powerOnReset strap b) → c ≠ .porstNAsserted →
    c ∉ [.bypass, .idcode, .extest, .extestPulse, .extestTrain, .clamp, .highz] → (∀ b, c ≠ .samplePreload b) →
    exec c s = .next s)

/-- At reset the lines that the hub's state decides stand as the rules say. In the state at reset, EVT_N, Keeper's event
interrupt and FAULT_N stand as linesStand says: the model takes the hub as held in power-on reset (log 1). -/
def Obligations.TheLinesStandAtReset : Prop :=
  State.reset.hub.linesStand

/-- Every step keeps EVT_N, Keeper's event interrupt and FAULT_N standing as the rules say. From every state in which the three
lines stand as R538, R30, R571 and R564 say, whatever command is at the front of the queue or with none, a step that answers
a next state gives a state in which they stand so. EVT_N is high exactly while no ring with NOTIFY 2 holds a record; Keeper's
event interrupt stands exactly while a ring with NOTIFY 3 holds one; FAULT_N is low exactly in strap fault, in a stay in the
boot ROM or while the crystal is stopped, as the model reads these rules (log 1). -/
def Obligations.EveryStepKeepsTheLinesStanding : Prop :=
  ∀ (s t : State), s.hub.linesStand → step s = .next t → t.hub.linesStand

/-- What reset leaves. At reset no command waits, PORST_N is low and CLOCK is 0, every dictionary entry and register word holds
its default, every counter is 0, every byte of the SRAM reads 0 (log 9, the model's choice), every channel is IDLE, every
context is free, every ring is disabled with an empty stack, no hold, no NONCE and no stored configuration exist, and JTAG is
in BYPASS (values the rules do not state: log 2). -/
def Obligations.ResetLeavesEveryTableAtItsDefault : Prop :=
  State.reset.pending = [] ∧ State.reset.hub.inPorst = true ∧ State.reset.hub.clock = 0 ∧
  (∀ e : Entry, State.reset.hub.val e = e.dflt ∧ State.reset.hub.reg e = e.dflt) ∧
  (∀ n, State.reset.hub.val (cntEntry n) = 0) ∧ (∀ a, State.reset.hub.memRead a = 0) ∧
  (∀ c, (State.reset.hub.chan c).state = .idle) ∧ (∀ i, (State.reset.hub.ctx i).state = .free) ∧
  (∀ r, (State.reset.hub.ring r).enable = false ∧ (State.reset.hub.ring r).stack = []) ∧
  State.reset.hub.evt.hold = none ∧ State.reset.hub.obs.nonce = none ∧ State.reset.hub.obs.jtag = .bypass ∧ State.reset.hub.ctl.stored = none

/-- A window request is cut into pieces that cover it in order and cross no boundary of 256 bytes. For every far address and
every length up to 4 KiB: the pieces cover exactly the request's bytes, in ascending order and each byte once; each piece
holds at least one byte, lies within one block of 256 bytes, and none but the last ends short of its block's end. -/
def Obligations.WindowRequestsAreCutAtBlocksOf256Bytes : Prop :=
  ∀ (far len be : Nat), len ≤ 4096 →
    (pieces far len be).flatMap (fun p => List.range' p.1 p.2.1) = List.range' far len ∧
    (∀ p ∈ pieces far len be, 0 < p.2.1 ∧ p.1 / 256 = (p.1 + p.2.1 - 1) / 256) ∧
    (∀ p ∈ pieces far len be, (p.1 + p.2.1) % 256 = 0 ∨ p.1 + p.2.1 = far + len)

/-- Writes into the frame store and power-on resets keep the memory in canonical form, which it has at reset. The memory lists
addresses strictly rising and no byte equal to what an unlisted address reads as (log 9). It does at reset; a MEMORY write of
AREA 1 that answers a next state keeps the form, in every state and for every tunnel; so do PORST_N and a power-on reset,
from every state. -/
def Obligations.MemoryCommandsKeepTheCanonicalForm : Prop :=
  Memory.wf State.reset.hub.mem = true ∧
  (∀ (i : Byte) (s t : State), s.hub.areaOf i.toNat = 1 → Memory.wf s.hub.mem = true → exec (.memoryWrite i) s = .next t →
    Memory.wf t.hub.mem = true) ∧
  (∀ s t : State, exec .porstNAsserted s = .next t → Memory.wf t.hub.mem = true) ∧
  (∀ (strap : Fin 8) (b : Bool) (s t : State), exec (.powerOnReset strap b) s = .next t → Memory.wf t.hub.mem = true)

/-- What confirmation, FOG_DEADLINE, FOG_RETRY, a failed retrain, MODE_FOG, MODE_RESUME and NOP leave. MODE_CONFIRM with the
strap's code, by a path that may write the entry and with nothing waiting at Keeper, confirms the mode, keeps the active mode
and answers 0 (R16). FOG_DEADLINE, while it runs, outside FOGHORN and with no retrain: with a usable link the active mode and
FOG_CAUSE stay; without one the hub is in FOGHORN from the mode it had, with FOG_CAUSE 4 where an upstream hub turned it away
since the deadline started and 2 otherwise; the deadline ends in both cases (R27). FOG_RETRY, with its timer running,
FOG_RETRY_PERIOD not 0, a watched connector seated and FOG_CAUSE not 1, starts a retrain and FOG_DEADLINE while FOGHORN stays
(R28). A retrain that fails ends; FOGHORN and FOG_CAUSE stay. MODE_FOG outside FOGHORN, BENCH, strap fault and a swap enters
FOGHORN with FOG_CAUSE 3; its channel is DONE (R26). MODE_RESUME in FOGHORN with FOG_CAUSE not 1 starts a retrain and
FOG_DEADLINE and runs on. NOP ends with status 0 and no data; mode and dictionary stay. Each command says that its acceptance
is answered with 0. -/
def Obligations.ModeCommandsFollowTheModeRules : Prop :=
  (∀ (s : State) (req : Path) (v : Byte), s.hub.live → s.hub.keeperUp = true → s.hub.ctl.keeperQ = [] → s.hub.pwr.bootPhase ≠
    .romStay → s.hub.mode.active ≠ .strapFault → s.hub.locked Od.modeModeConfirm.key = false → s.hub.pathDenied req true = false
    → v.toNat = s.hub.mode.strap.toNat → v.toNat < 6 → Completes (.modeConfirm req v) s (fun h => h.mode.confirmed = true ∧
    h.mode.active = s.hub.mode.active ∧ h.gave s.hub (.answer req 0 []))) ∧
  (∀ (s : State), s.hub.live → s.hub.mode.deadlineRunning = true → s.hub.mode.retrain = none → s.hub.mode.active ≠ .foghorn →
    s.hub.usableLink = false → Completes (.fogDeadlineExpiry) s (fun h => h.mode.active = .foghorn ∧ h.mode.before =
    s.hub.mode.active ∧ h.mode.fogCause = (if s.hub.links.turnedAway then 4 else 2) ∧ h.mode.deadlineRunning = false)) ∧
  (∀ (s : State), s.hub.live → s.hub.mode.deadlineRunning = true → s.hub.mode.retrain = none → s.hub.mode.active ≠ .foghorn →
    s.hub.usableLink = true → Completes (.fogDeadlineExpiry) s (fun h => h.mode.active = s.hub.mode.active ∧ h.mode.fogCause =
    s.hub.mode.fogCause ∧ h.mode.deadlineRunning = false)) ∧
  (∀ (s : State), s.hub.live → s.hub.mode.active = .foghorn → s.hub.mode.retryRunning = true → s.hub.mode.retrain = none →
    s.hub.mode.fogCause ≠ 1 → s.hub.val Od.modeFogRetryPeriod ≠ 0 → s.hub.watchedSeated = true → Completes (.fogRetry) s (fun h
    => h.mode.retrain = some .timer ∧ h.mode.active = .foghorn ∧ h.mode.deadlineRunning = true ∧ h.mode.retryRunning = false)) ∧
  (∀ (s : State) (r : RetrainBy), s.hub.live → s.hub.mode.active = .foghorn → s.hub.mode.retrain = some r → Completes
    (.foghornRetrainFail) s (fun h => h.mode.retrain = none ∧ h.mode.active = .foghorn ∧ h.mode.fogCause = s.hub.mode.fogCause ∧
    h.mode.deadlineRunning = false)) ∧
  (∀ (s : State) (req : Path) (c : Fin 8) (tag : BitVec 16), s.hub.takes req c 0x0101 → s.hub.mode.active ≠ .foghorn →
    s.hub.mode.active ≠ .bench → s.hub.pair.swap = none → s.hub.mode.active ≠ .strapFault → Completes (.modeFog req c tag []) s
    (fun h => h.mode.active = .foghorn ∧ h.mode.before = s.hub.mode.active ∧ h.mode.fogCause = 3 ∧ (h.chan c).state = .done ∧
    h.gave s.hub (.answer req 0 []))) ∧
  (∀ (s : State) (req : Path) (c : Fin 8) (tag : BitVec 16), s.hub.takes req c 0x0102 → s.hub.mode.active = .foghorn →
    s.hub.mode.retrain = none → s.hub.mode.fogCause ≠ 1 → Completes (.modeResume req c tag []) s (fun h => h.mode.retrain = some
    (.command c) ∧ h.mode.deadlineRunning = true ∧ h.mode.active = .foghorn ∧ h.busyWith c 0x0102 tag.toNat ∧ h.gave s.hub
    (.answer req 0 []))) ∧
  (∀ (s : State) (req : Path) (c : Fin 8) (tag : BitVec 16), s.hub.takes req c 0x0100 → Completes (.nop req c tag []) s (fun h
    => h.ended c 0x0100 tag.toNat 0 [] ∧ h.gave s.hub (.answer req 0 []) ∧ h.mode.active = s.hub.mode.active ∧ h.od = s.hub.od))

/-- What power-on reset, hub resets by cause, Keeper's start, the crystal, VDD_CORE, PORST_N and RSTOUT_N leave. POWER_ON_RESET,
from every state: the strap is sampled, the active mode is the one it names, unconfirmed; CLOCK is 0; the reset cause is 1,
or 2 after a brown-out of VDD_AON; the boot ROM runs. KEEPER_START out of the boot ROM: Keeper runs, strap and reset cause
stay, RESET_DONE is raised with the cause. SYSRST (cause 3): counted; confirmation, strap, mooring stage and CLOCK stay;
RSTOUT_N goes low. A brown-out of VDD_CORE (cause 4) holds the hub; confirmation and mooring stage stay. A brown-out of
VDD_AON and PORST_N low hold the hub in power-on reset, unconfirmed; the fuses stay. VDD_CORE's return, or the crystal's,
takes a held hub to the boot ROM where the other is good, the cause staying. XTAL_FAULT: cause 8, held, FAULT_N low,
confirmation kept. WDT_EXPIRY (cause 5) and HUB_RESET (cause 6) are counted and keep confirmation and mooring stage;
HUB_RESET is answered first and acts when 1 ms has passed. CHAIN_RESET with RESET_FOG_CAUSE not 0: where a link runs it is
answered and the reset waits for its fog signal; where none runs and no copy is left it is answered and acts with cause 7.
RSTOUT_RELEASE raises RSTOUT_N in a hub that is not held. -/
def Obligations.ResetsKeepWhatTheirRulesKeep : Prop :=
  (∀ (s : State) (strap : Fin 8) (brownOut : Bool), Completes (.powerOnReset strap brownOut) s (fun h => h.mode.strap =
    BitVec.ofNat 3 strap.val ∧ h.mode.active = strapMode strap.val ∧ h.mode.confirmed = false ∧ h.clock = 0 ∧ h.pwr.resetCause =
    (if brownOut then 2 else 1) ∧ (h.pwr.bootPhase = .rom ∨ h.pwr.bootPhase = .romStay))) ∧
  (∀ (s : State), s.hub.live → s.hub.pwr.bootPhase = .rom → Completes (.keeperStart) s (fun h => h.pwr.bootPhase = .keeper ∧
    h.mode.strap = s.hub.mode.strap ∧ h.pwr.resetCause = s.hub.pwr.resetCause ∧ h.raised Ev.resetDone (u8 s.hub.pwr.resetCause))) ∧
  (∀ (s : State), s.hub.live → Completes (.sysrst) s (fun h => h.pwr.resetCause = 3 ∧ h.pwr.resetCount = trunc 32
    (s.hub.pwr.resetCount + 1) ∧ h.mode.confirmed = s.hub.mode.confirmed ∧ h.mode.strap = s.hub.mode.strap ∧ h.moor.stage =
    s.hub.moor.stage ∧ h.clock = s.hub.clock ∧ h.gave s.hub (.line .rstoutN 0))) ∧
  (∀ (s : State), s.hub.live → Completes (.brownOut false) s (fun h => h.pwr.resetCause = 4 ∧ h.pwr.coreLow = true ∧
    h.pwr.bootPhase = .held ∧ h.mode.confirmed = s.hub.mode.confirmed ∧ h.moor.stage = s.hub.moor.stage)) ∧
  (∀ (s : State), s.hub.live → Completes (.brownOut true) s (fun h => h.pwr.bootPhase = .porst ∧ h.mode.confirmed = false ∧
    h.sec.fuses = s.hub.sec.fuses)) ∧
  (∀ (s : State), Completes (.porstNAsserted) s (fun h => h.pwr.bootPhase = .porst ∧ h.mode.confirmed = false ∧ h.sec.fuses =
    s.hub.sec.fuses)) ∧
  (∀ (s : State), s.hub.live → s.hub.pwr.coreLow = true → s.hub.pwr.xtalStopped = false → s.hub.pwr.bootPhase = .held →
    Completes (.vddCoreRestored) s (fun h => h.pwr.coreLow = false ∧ (h.pwr.bootPhase = .rom ∨ h.pwr.bootPhase = .romStay) ∧
    h.pwr.resetCause = s.hub.pwr.resetCause)) ∧
  (∀ (s : State), s.hub.live → s.hub.pwr.xtalStopped = false → Completes (.xtalFault) s (fun h => h.pwr.xtalStopped = true ∧
    h.pwr.resetCause = 8 ∧ h.pwr.bootPhase = .held ∧ h.mode.faultN = true ∧ h.mode.confirmed = s.hub.mode.confirmed)) ∧
  (∀ (s : State), s.hub.live → s.hub.pwr.xtalStopped = true → s.hub.pwr.coreLow = false → s.hub.pwr.bootPhase = .held →
    Completes (.crystalReturn) s (fun h => h.pwr.xtalStopped = false ∧ (h.pwr.bootPhase = .rom ∨ h.pwr.bootPhase = .romStay) ∧
    h.pwr.resetCause = s.hub.pwr.resetCause)) ∧
  (∀ (s : State), s.hub.live → s.hub.pwr.bootPhase ≠ .held → Completes (.wdtExpiry) s (fun h => h.pwr.resetCause = 5 ∧
    h.pwr.resetCount = trunc 32 (s.hub.pwr.resetCount + 1) ∧ h.mode.confirmed = s.hub.mode.confirmed ∧ h.moor.stage =
    s.hub.moor.stage)) ∧
  (∀ (s : State) (req : Path) (c : Fin 8) (tag : BitVec 16), s.hub.takes req c 0x0112 → Completes (.hubReset req c tag) s (fun h
    => h.gave s.hub (.answer req 0 []) ∧ h.pwr.resetCause = 6 ∧ h.pwr.resetCount = trunc 32 (s.hub.pwr.resetCount + 1) ∧
    h.mode.confirmed = s.hub.mode.confirmed ∧ h.moor.stage = s.hub.moor.stage ∧ h.clock = s.hub.clock + 10000000)) ∧
  (∀ (s : State) (req : Path) (c : Fin 8) (tag : BitVec 16), s.hub.takes req c 0x0112 → s.hub.val Od.rstResetFogCause ≠ 0 →
    s.hub.runningPorts ≠ [] → Completes (.chainReset req c tag) s (fun h => h.gave s.hub (.answer req 0 []) ∧ h.pwr.chainReset =
    true ∧ h.links.fogSeq = (s.hub.links.fogSeq + 1) % 256 ∧ h.pwr.resetCount = s.hub.pwr.resetCount)) ∧
  (∀ (s : State) (req : Path) (c : Fin 8) (tag : BitVec 16), s.hub.takes req c 0x0112 → s.hub.val Od.rstResetFogCause ≠ 0 →
    s.hub.runningPorts = [] → s.hub.links.fogCopies = [] → Completes (.chainReset req c tag) s (fun h => h.gave s.hub (.answer
    req 0 []) ∧ h.pwr.resetCause = 7 ∧ h.pwr.resetCount = trunc 32 (s.hub.pwr.resetCount + 1))) ∧
  (∀ (s : State), s.hub.live → s.hub.pwr.bootPhase ≠ .held → s.hub.pwr.rstoutN = false → Completes (.rstoutRelease) s (fun h =>
    h.pwr.rstoutN = true ∧ h.gave s.hub (.line .rstoutN 1)))

/-- What domain requests, the handshake, pad holds, droop, the watchdog, the flash, SYSREF, PLLs and wake edges leave. A request
for on of a domain 2 to 17 that is off starts its transition, queues it for inrush and runs on. A request for retention, or
for off of a domain 2 to 17, of a domain that is on, which no block refuses or delays, takes it there and ends, but that of
AON's retention runs on. A grant takes a requested domain to its target; DELAY_LIMIT ends the request with reason 2 and sets
its flag. The end of power-up makes the domain on. PAD_RELEASE and PAD_HOLD release the named pads that may be released.
DROOP_SLOW slows the core, counts and flags, in a slow-down counts and flags alone; DROOP_CLEAR ends it, CLOCK_CAP deciding
the rate, with its length in us; DROOP_LONG_LIMIT flags and raises. WDT_KICK with 0xA5 restarts the watchdog; half a period
flags and raises. FLASH_ERASE and FLASH_PROGRAM wait at the flash behind what runs there; at the end of the first operation
an erased sector reads 0xFF, programmed bytes are the AND of old and new, and a failed one leaves the flash and ends with
OPERATION_FAILED detail 1. SYSREF's frequency locks within 150 ppm; beyond it the limit is held and flagged. PLL_UNLOCK
clears the lock bit, flags and raises. A wake edge that WAKE_EN and WAKE_EDGE select sets its latch and raises its source. -/
def Obligations.DomainsAndClocksFollowTheirRules : Prop :=
  (∀ (s : State) (req : Path) (c : Fin 8) (tag : BitVec 16) (d force : Byte), s.hub.takes req c 0x0110 → 2 ≤ d.toNat → d.toNat <
    18 → force.toNat ≤ 1 → s.hub.domAllowed d.toNat = true → (s.hub.domain d.toNat).state = .off → (s.hub.domain d.toNat).target
    = none → Completes (.domainOn req c tag d force) s (fun h => (h.domain d.toNat).state = .transition ∧ h.pwr.powerUps =
    s.hub.pwr.powerUps ++ [d.toNat] ∧ h.busyWith c 0x0110 tag.toNat ∧ h.gave s.hub (.answer req 0 []))) ∧
  (∀ (s : State) (req : Path) (c : Fin 8) (tag : BitVec 16) (d force : Byte), s.hub.takes req c 0x0110 → d.toNat < 18 → (d.toNat
    = 0 → req = .keeper) → (d.toNat < 2 → (s.hub.domain d.toNat).command = none) → force.toNat ≤ 1 → (s.hub.domain d.toNat).state
    = .on → (s.hub.domain d.toNat).target = none → s.hub.domRefuses d.toNat .retention = false → s.hub.domDelays d.toNat = false
    → Completes (.domainRetention req c tag d force) s (fun h => ((h.domain d.toNat).state = .retention ∧ (d.toNat ≠ 0 → (h.chan
    c).state = .done) ∧ h.gave s.hub (.answer req 0 [])))) ∧
  (∀ (s : State) (req : Path) (c : Fin 8) (tag : BitVec 16) (d force : Byte), s.hub.takes req c 0x0110 → 2 ≤ d.toNat → d.toNat <
    18 → force.toNat ≤ 1 → (s.hub.domain d.toNat).state = .on → (s.hub.domain d.toNat).target = none → s.hub.domRefuses d.toNat
    .off = false → s.hub.domDelays d.toNat = false → Completes (.domainOff req c tag d force) s (fun h => (h.domain
    d.toNat).state = .off ∧ (h.chan c).state = .done ∧ h.gave s.hub (.answer req 0 []))) ∧
  (∀ (s : State) (d : Fin 18) (t : DomState), s.hub.live → (s.hub.domain d).target = some t → s.hub.domRefuses d t = false →
    s.hub.domDelays d = false → (∀ c ∈ (s.hub.domain d).command, c < 8) → Completes (.domainGrant d) s (fun h => (h.domain
    d).state = t)) ∧
  (∀ (s : State) (d : Fin 18) (t : DomState), s.hub.live → (s.hub.domain d).target = some t → Completes (.delayLimitExpiry d) s
    (fun h => (h.domain d).target = none ∧ (h.domain d).lastRefusal = 2 ∧ bit 2 (h.reg Rg.pwrFlags) = true)) ∧
  (∀ (s : State) (d : Fin 18), s.hub.live → (s.hub.domain d).state = .transition → d.val ∉ s.hub.pwr.powerUps ∨
    s.hub.pwr.powerUps.head? = some d.val → Completes (.domainPowerUpDone d) s (fun h => (h.domain d).state = .on)) ∧
  (∀ (s : State) (req : Path) (c : Fin 8) (tag : BitVec 16) (args : Bytes), s.hub.takes req c 0x0111 → args.length = 4 →
    Completes (.padRelease req c tag args) s (fun h => (h.ended c 0x0111 tag.toNat 0 (u32 ((s.hub.padsFree (field args 0 4)).map
    (fun d => 2 ^ d)).sum) ∧ ∀ d ∈ s.hub.padsFree (field args 0 4), (h.domain d).padsHeld = false))) ∧
  (∀ (s : State) (v : Word), s.hub.live → Completes (.padHoldWrite v) s (fun h => (∀ d ∈ s.hub.padsFree v.toNat, (h.domain
    d).padsHeld = false))) ∧
  (∀ (s : State), s.hub.live → s.hub.pwr.droop = false → Completes (.droopSlow) s (fun h => h.pwr.slow = true ∧ h.pwr.droop =
    true ∧ h.pwr.droopTimer = true ∧ h.pwr.slowSince = s.hub.clock ∧ h.pwr.droopCount = trunc 32 (s.hub.pwr.droopCount + 1) ∧ bit
    0 (h.reg Rg.pwrFlags) = true)) ∧
  (∀ (s : State), s.hub.live → s.hub.pwr.droop = true → Completes (.droopClear) s (fun h => h.pwr.droop = false ∧
    h.pwr.droopTimer = false ∧ h.pwr.slow = decide (s.hub.val Od.rstClockCap = 1) ∧ h.raised Ev.droopClear (u32 ((s.hub.clock -
    s.hub.pwr.slowSince) / 10000)))) ∧
  (∀ (s : State), s.hub.live → s.hub.pwr.droop = true → Completes (.droopSlow) s (fun h => h.pwr.droopCount = trunc 32
    (s.hub.pwr.droopCount + 1) ∧ h.pwr.slow = s.hub.pwr.slow ∧ h.pwr.droop = true ∧ h.pwr.slowSince = s.hub.pwr.slowSince ∧
    h.pwr.droopTimer = s.hub.pwr.droopTimer ∧ bit 0 (h.reg Rg.pwrFlags) = true)) ∧
  (∀ (s : State), s.hub.live → s.hub.pwr.droop = true → s.hub.pwr.droopTimer = true → Completes (.droopLong) s (fun h =>
    h.pwr.droopTimer = false ∧ h.pwr.droop = true ∧ bit 1 (h.reg Rg.pwrFlags) = true ∧ h.raised Ev.droopLong [])) ∧
  (∀ (s : State), s.hub.live → Completes (.wdtKick 0xA5) s (fun h => h.pwr.wdtHalf = false ∧ h.pwr.resetCount =
    s.hub.pwr.resetCount)) ∧
  (∀ (s : State), s.hub.live → s.hub.pwr.wdtHalf = false → s.hub.pwr.bootPhase = .keeper ∨ s.hub.pwr.bootPhase = .rom ∨
    s.hub.pwr.bootPhase = .romStay → Completes (.wdtWarning) s (fun h => h.pwr.wdtHalf = true ∧ bit 5 (h.reg Rg.pwrFlags) = true
    ∧ h.raised Ev.wdtWarning [])) ∧
  (∀ (s : State) (req : Path) (c : Fin 8) (tag : BitVec 16) (args : Bytes), s.hub.takes req c 0x0113 → args.length = 4 → field
    args 0 4 % 4096 = 0 → s.hub.configBusy = false → Completes (.flashErase req c tag args) s (fun h => h.pwr.flashOps =
    s.hub.pwr.flashOps ++ [(0, field args 0 4, c.val, [])] ∧ h.busyWith c 0x0113 tag.toNat ∧ h.gave s.hub (.answer req 0 []))) ∧
  (∀ (s : State) (req : Path) (c : Fin 8) (tag : BitVec 16) (args : Bytes), s.hub.takes req c 0x0114 → args.length = 6 + field
    args 4 2 → 1 ≤ field args 4 2 → field args 4 2 ≤ 240 → s.hub.configBusy = false → Completes (.flashProgram req c tag args) s
    (fun h => h.pwr.flashOps = s.hub.pwr.flashOps ++ [(1, field args 0 4, c.val, args.drop 6)] ∧ h.busyWith c 0x0114 tag.toNat ∧
    h.gave s.hub (.answer req 0 []))) ∧
  (∀ (s : State) (off : Nat) (c : Fin 8) (l : List (Nat × Nat × Nat × Bytes)), s.hub.live → s.hub.pwr.flashOps = (0, off, c.val,
    []) :: l → Completes (.flashOperationDone true) s (fun h => (h.pwr.flashOps = l ∧ (∀ i < 4096, h.flashBytes (off + i) 1 =
    [0xFF]) ∧ (h.chan c).state = (if (s.hub.chan c).state = .idle then .idle else .done)))) ∧
  (∀ (s : State) (off : Nat) (c : Fin 8) (data : Bytes) (l : List (Nat × Nat × Nat × Bytes)), s.hub.live → s.hub.pwr.flashOps =
    (1, off, c.val, data) :: l → Completes (.flashOperationDone true) s (fun h => h.pwr.flashOps = l ∧ h.flashBytes off
    data.length = List.zipWith (fun a b => a &&& b) (s.hub.flashBytes off data.length) data)) ∧
  (∀ (s : State) (off : Nat) (c : Fin 8) (kind : Nat) (data : Bytes) (l : List (Nat × Nat × Nat × Bytes)), s.hub.live →
    s.hub.pwr.flashOps = (kind, off, c.val, data) :: l → (s.hub.chan c).state = .running → Completes (.flashOperationDone false)
    s (fun h => h.pwr.flashOps = l ∧ h.pwr.flash = s.hub.pwr.flash ∧ h.ended c (s.hub.chan c).code (s.hub.chan c).tag (abFailed
    1) [])) ∧
  (∀ (s : State) (ppb : Int), s.hub.live → s.hub.pwr.freq = .acquiring → -150000 ≤ ppb → ppb ≤ 150000 → Completes (.freqLocked
    ppb) s (fun h => h.pwr.freq = .locked ∧ h.pwr.freqOffset = ppb)) ∧
  (∀ (s : State) (ppb : Int), s.hub.live → s.hub.pwr.freq = .acquiring → ppb < -150000 ∨ 150000 < ppb → Completes (.freqLocked
    ppb) s (fun h => h.pwr.freq = .acquiring ∧ h.pwr.freqOffset = (if ppb < 0 then -150000 else 150000) ∧ bit 3 (h.reg
    Rg.pwrFlags) = true)) ∧
  (∀ (s : State) (k : Fin 9), s.hub.live → Completes (.pllUnlock k) s (fun h => bit k h.pwr.pllLocked = false ∧ bit 4 (h.reg
    Rg.pwrFlags) = true ∧ h.raised Ev.pllUnlock (u16 h.pwr.pllLocked))) ∧
  (∀ (s : State) (k : Fin 16) (rising : Bool), s.hub.live → (if k.val ∈ [9, 10, 12, 13, 14] then rising = true else s.hub.val
    Od.wakeWakeEdge / 4 ^ k.val % 4 = 2 ∨ s.hub.val Od.wakeWakeEdge / 4 ^ k.val % 4 = b2n rising) → bit k (s.hub.val
    Od.wakeWakeEn) = true → s.hub.evt.wakeLatch.getLsbD k = false → Completes (.wakeLatchSet k rising) s (fun h =>
    h.evt.wakeLatch.getLsbD k = true ∧ h.raised (0xF0 + k.val) []))

/-- A read of RESULT is refused while the channel runs or is idle, and gives the result when it is done (R61). For every path
that may read, with nothing waiting at Keeper: a read of RESULT of a running channel is answered with BUSY, of an idle one
with STATE naming CHANNEL_IDLE, of a done one with its result; the channel stays as it was, so every further read gives the
same. Keeper's reads of RESULT_TAG and CHANNEL_STATE are answered with the tag and the state in any state of the channel. -/
def Obligations.ResultReadsByChannelState : Prop :=
  (∀ (s : State) (path : Path) (c : Fin 8), s.hub.live → s.hub.keeperUp = true → (s.hub.mode.active = .strapFault → path =
    .keeper) → s.hub.pathDenied path false = false → s.hub.ctl.keeperQ = [] → Completes (.resultRead path c) s (fun h => (h.chan
    c = s.hub.chan c ∧ ((s.hub.chan c).state = .running → h.gave s.hub (.answer path abBusy [])) ∧ ((s.hub.chan c).state = .idle
    → h.gave s.hub (.answer path (abState stChannelIdle) []))) ∧ (((s.hub.chan c).state = .done → h.gave s.hub (.answer path 0
    (s.hub.chan c).result))))) ∧
  (∀ (s : State) (c : Fin 8), s.hub.live → s.hub.keeperUp = true → s.hub.ctl.keeperQ = [] → Completes (.odRead (some
    (BitVec.ofNat 16 (0x5080 + c.val), 2))) s (fun h => h.gave s.hub (.answer .keeper 0 (u16 (s.hub.chan c).tag)) ∧ h.chan c =
    s.hub.chan c)) ∧
  (∀ (s : State) (c : Fin 8), s.hub.live → s.hub.keeperUp = true → s.hub.ctl.keeperQ = [] → Completes (.odRead (some
    (BitVec.ofNat 16 (0x5080 + c.val), 3))) s (fun h => (h.gave s.hub (.answer .keeper 0 (u8 (if (s.hub.chan c).state = .idle
    then 0 else if (s.hub.chan c).state = .running then 1 else 2))) ∧ h.chan c = s.hub.chan c)))

/-- Named reads and writes of the dictionary are answered as R33 orders, a waiting access is served first, the configuration is
saved. With nothing waiting and FOG_DEADLINE (0x2000.05, U32, 200 to 10,000) not locked, Keeper's write of it stores a value
in range and answers 0, refuses one above the range with INVALID_VALUE detail 1 and one below it with detail 2, and a length
other than 4 with LENGTH; refused, no entry changes. A write of 0x2000.02, which is RO, is refused with READ_ONLY. A read of
an index that no object has is refused with NO_OBJECT. Of the accesses that wait, the first is served: a write that a check
refuses is answered with that check's code, leaves the queue and changes no entry; the mailbox's read of FOG_DEADLINE is
answered with its value. CONFIG_SAVE and CONFIG_ERASE with no flash work for the configuration under way start it and run on.
When it is done, the stored configuration is the values of the RW entries as they then stand (that moment is the model's
choice, log 54) and RESULT gives its length, or it is void; a flash that fails leaves it void and ends the command with
OPERATION_FAILED detail 1. -/
def Obligations.DictionaryAccessesAreCheckedAndServedInOrder : Prop :=
  (∀ (s : State) (v : Word), s.hub.live → s.hub.keeperUp = true → s.hub.pwr.bootPhase ≠ .romStay → s.hub.ctl.keeperQ = [] →
    s.hub.locked Od.modeFogDeadline.key = false → 200 ≤ v.toNat → v.toNat ≤ 10000 → Completes (.odWrite (some (0x2000, 5, u32
    v.toNat))) s (fun h => h.val Od.modeFogDeadline = v.toNat ∧ h.ctl.keeperQ = [] ∧ h.gave s.hub (.answer .keeper 0 []))) ∧
  (∀ (s : State) (v : Word), s.hub.live → s.hub.keeperUp = true → s.hub.pwr.bootPhase ≠ .romStay → s.hub.ctl.keeperQ = [] →
    s.hub.locked Od.modeFogDeadline.key = false → v.toNat < 200 ∨ 10000 < v.toNat → Completes (.odWrite (some (0x2000, 5, u32
    v.toNat))) s (fun h => h.od = s.hub.od ∧ h.ctl.keeperQ = [] ∧ h.gave s.hub (.answer .keeper (abValue (if v.toNat < 200 then 2
    else 1)) []))) ∧
  (∀ (s : State) (b : Bytes), s.hub.live → s.hub.keeperUp = true → s.hub.pwr.bootPhase ≠ .romStay → s.hub.ctl.keeperQ = [] →
    s.hub.locked Od.modeFogDeadline.key = false → b.length ≠ 4 → Completes (.odWrite (some (0x2000, 5, b))) s (fun h => h.od =
    s.hub.od ∧ h.gave s.hub (.answer .keeper abLength []))) ∧
  (∀ (s : State) (b : Bytes), s.hub.live → s.hub.keeperUp = true → s.hub.pwr.bootPhase ≠ .romStay → s.hub.ctl.keeperQ = [] →
    Completes (.odWrite (some (0x2000, 2, b))) s (fun h => h.od = s.hub.od ∧ h.mode.active = s.hub.mode.active ∧ h.gave s.hub
    (.answer .keeper abReadOnly []))) ∧
  (∀ (s : State) (index : BitVec 16) (sub : Byte), s.hub.live → s.hub.keeperUp = true → s.hub.ctl.keeperQ = [] → odHigh
    index.toNat = none → Completes (.odRead (some (index, sub))) s (fun h => h.gave s.hub (.answer .keeper abNoObject []) ∧
    h.ctl.keeperQ = [] ∧ h.od = s.hub.od)) ∧
  (∀ (s : State) (a : Access) (t : List Access) (b : Bytes) (code : Abort), s.hub.live → s.hub.keeperUp = true →
    s.hub.ctl.keeperQ = a :: t → a.served = false → a.write = some b → s.hub.odWriteBad a.path (256 * a.index + a.sub) b = some
    code → Completes (.odWrite none) s (fun h => h.gave s.hub (.answer a.path code []) ∧ h.ctl.keeperQ = t ∧ h.od = s.hub.od ∧
    h.blob = s.hub.blob)) ∧
  (∀ (s : State) (a : Access) (t : List Access), s.hub.live → s.hub.keeperUp = true → s.hub.pwr.bootPhase = .keeper →
    s.hub.ctl.keeperQ = a :: t → a.served = false → a.write = none → a.path = .mailbox → a.index = 0x2000 → a.sub = 5 →
    s.hub.mode.active ≠ .strapFault → Completes (.odRead none) s (fun h => h.gave s.hub (.answer .mailbox 0 (u32 (s.hub.val
    Od.modeFogDeadline))) ∧ h.ctl.keeperQ = t)) ∧
  (∀ (s : State) (req : Path) (c : Fin 8) (tag : BitVec 16), s.hub.takes req c 0x0103 → s.hub.configBusy = false → Completes
    (.configSave req c tag []) s (fun h => h.ctl.configOp = some (.configSave, c.val) ∧ h.busyWith c 0x0103 tag.toNat ∧ h.gave
    s.hub (.answer req 0 []))) ∧
  (∀ (s : State) (req : Path) (c : Fin 8) (tag : BitVec 16), s.hub.takes req c 0x0104 → s.hub.configBusy = false → Completes
    (.configErase req c tag []) s (fun h => h.ctl.configOp = some (.configErase, c.val) ∧ h.busyWith c 0x0104 tag.toNat ∧ h.gave
    s.hub (.answer req 0 []))) ∧
  (∀ (s : State) (c : Fin 8), s.hub.live → s.hub.ctl.configOp = some (.configSave, c.val) → (s.hub.chan c).state = .running →
    Completes (.configFlashDone true) s (fun h => h.ctl.configOp = none ∧ h.ctl.stored = some s.hub.configNow ∧ h.ended c
    (s.hub.chan c).code (s.hub.chan c).tag 0 (u32 s.hub.configNow.length))) ∧
  (∀ (s : State) (c : Fin 8), s.hub.live → s.hub.ctl.configOp = some (.configErase, c.val) → (s.hub.chan c).state = .running →
    Completes (.configFlashDone true) s (fun h => h.ctl.configOp = none ∧ h.ctl.stored = none ∧ h.ended c (s.hub.chan c).code
    (s.hub.chan c).tag 0 [])) ∧
  (∀ (s : State) (c : Fin 8) (op : FlashOp), s.hub.live → s.hub.ctl.configOp = some (op, c.val) → (s.hub.chan c).state =
    .running → Completes (.configFlashDone false) s (fun h => h.ctl.configOp = none ∧ h.ctl.stored = none ∧ h.ended c (s.hub.chan
    c).code (s.hub.chan c).tag (abFailed 1) []))

/-- What ODAP frames, the mailbox and SYSTEM-tunnel requests do to transfers, Keeper's queue and their answers. On a CAN port
that takes ODAP, frames of the form in use. INITIATE_DOWNLOAD, expedited: the transfer opens complete and its write joins
Keeper's queue; segmented: it opens and is acknowledged. DOWNLOAD_SEGMENT with the right toggle, not final: its bytes are
kept, the toggle turns, it is acknowledged; final: the write joins Keeper's queue; a wrong toggle ends the transfer with
abort PROTOCOL detail 2; a frame that R43 or R48 shuts out is counted and nothing else changes. INITIATE_UPLOAD: the transfer
opens and its read joins Keeper's queue. UPLOAD_SEGMENT_REQUEST: the next part is sent, the transfer ends with the last.
ODAP_ABORT: no transfer of the client is open, nothing is sent. A reserved frame and ODAP_TIMEOUT end an open transfer with
an abort for its index and subindex (that a reserved frame ends it is log 55's choice). START of the mailbox with DONE clear
or cleared, domain HOST on, LEN fitting and TARGET this hub: the access joins Keeper's queue. MBX_COMPLETE writes STATUS,
DONE and a read's data, and raises MBX_DONE where enabled. SYSTEM_REQUEST with hops left goes on with one fewer by the port
of its direction, remembered for the response; without such a port it is answered with NO_ROUTE (the response's other fields:
log 56); at its last hop it joins Keeper's queue. A response to the mailbox's request gives its outcome; one that matches
nothing is counted; REMOTE_TIMEOUT gives the outcome REMOTE_TIMEOUT. -/
def Obligations.OdapAndTheMailboxCarryAccesses : Prop :=
  (∀ (s : State) (n : Fin 6) (client : Byte) (fd : Bool) (b d : Bytes), s.hub.live → s.hub.odapOn n = true → fd = s.hub.odapFd n
    → (b.length = if fd then 64 else 8) → odapMalformed fd (withKind 1 b) = false → odapExpedited fd (withKind 1 b) = some d →
    Completes (.initiateDownload n client fd b) s (fun h => h.transfer? n client.toNat = some ⟨n, client, field b 1 2, field b 3
    1, true, d.length, d, false, false, true⟩ ∧ h.ctl.keeperQ.getLast? = some ⟨.odap n client, field b 1 2, field b 3 1, some d,
    false, false⟩)) ∧
  (∀ (s : State) (n : Fin 6) (client : Byte) (fd : Bool) (b : Bytes), s.hub.live → s.hub.odapOn n = true → fd = s.hub.odapFd n →
    (b.length = if fd then 64 else 8) → odapMalformed fd (withKind 1 b) = false → odapExpedited fd (withKind 1 b) = none →
    Completes (.initiateDownload n client fd b) s (fun h => h.transfer? n client.toNat = some ⟨n, client, field b 1 2, field b 3
    1, true, field b (if fd then 5 else 4) 4, [], false, true, false⟩ ∧ h.odapSent n client.toNat (odapInitiate fd 5 (field b 1
    2) (field b 3 1) none none))) ∧
  (∀ (s : State) (n : Fin 6) (client : Byte) (fd : Bool) (b : Bytes) (t : OdapTransfer), s.hub.live → s.hub.odapOn n = true → fd
    = s.hub.odapFd n → (b.length = if fd then 64 else 8) → s.hub.transfer? n client.toNat = some t → t.download = true →
    t.segmented = true → t.complete = false → bit 4 (field (withKind 0 b) 0 1) = t.toggle → bit 3 (field (withKind 0 b) 0 1) =
    false → (if fd then 63 else 7) < t.size - t.data.length → field (withKind 0 b) 0 1 % 8 = 0 → Completes (.downloadSegment n
    client fd b) s (fun h => h.transfer? n client.toNat = some
    { t with data := t.data ++ (b.drop 1).take (if fd then 63 else 7), toggle := !t.toggle } ∧ h.odapSent n client.toNat (u8 (6 *
    32 + 16 * b2n t.toggle)))) ∧
  (∀ (s : State) (n : Fin 6) (client : Byte) (fd : Bool) (b : Bytes) (t : OdapTransfer), s.hub.live → s.hub.odapOn n = true → fd
    = s.hub.odapFd n → (b.length = if fd then 64 else 8) → s.hub.transfer? n client.toNat = some t → t.download = true →
    t.segmented = true → t.complete = false → bit 4 (field (withKind 0 b) 0 1) = t.toggle → bit 3 (field (withKind 0 b) 0 1) =
    true → t.size - t.data.length ≤ (if fd then 63 else 7) → field (withKind 0 b) 0 1 % 8 = 0 → Completes (.downloadSegment n
    client fd b) s (fun h => h.ctl.keeperQ = s.hub.ctl.keeperQ ++ [⟨.odap n client, t.index, t.sub, some (t.data ++ (b.drop
    1).take (t.size - t.data.length)), false, false⟩])) ∧
  (∀ (s : State) (n : Fin 6) (client : Byte) (fd : Bool) (b : Bytes) (t : OdapTransfer), s.hub.live → s.hub.odapOn n = true → fd
    = s.hub.odapFd n → (b.length = if fd then 64 else 8) → s.hub.transfer? n client.toNat = some t → t.download = true →
    t.segmented = true → t.complete = false → bit 4 (field (withKind 0 b) 0 1) ≠ t.toggle → field (withKind 0 b) 0 1 % 8 = 0 →
    Completes (.downloadSegment n client fd b) s (fun h => h.transfer? n client.toNat = none ∧ h.odapSent n client.toNat
    (odapInitiate fd 4 t.index t.sub none (some (abProtocol 2))))) ∧
  (∀ (s : State) (n : Fin 6) (client : Byte) (fd : Bool) (b : Bytes), s.hub.live → s.hub.odapOn n = false ∨ fd ≠ s.hub.odapFd n
    ∨ b.length ≠ (if fd then 64 else 8) ∨ field (withKind 0 b) 0 1 % 8 ≠ 0 → Completes (.downloadSegment n client fd b) s (fun h
    => h.ctl = { s.hub.ctl with odapIgnored := s.hub.ctl.odapIgnored + 1 } ∧ h.io = s.hub.io ∧ h.od = s.hub.od)) ∧
  (∀ (s : State) (n : Fin 6) (client : Byte) (fd : Bool) (b : Bytes), s.hub.live → s.hub.odapOn n = true → fd = s.hub.odapFd n →
    (b.length = if fd then 64 else 8) → odapHeadBad fd (withKind 2 b) = false → Completes (.initiateUpload n client fd b) s (fun
    h => h.transfer? n client.toNat = some ⟨n, client, field b 1 2, field b 3 1, false, 0, [], false, false, false⟩ ∧
    h.ctl.keeperQ.getLast? = some ⟨.odap n client, field b 1 2, field b 3 1, none, false, false⟩)) ∧
  (∀ (s : State) (n : Fin 6) (client : Byte) (fd : Bool) (b : Bytes) (t : OdapTransfer), s.hub.live → s.hub.odapOn n = true → fd
    = s.hub.odapFd n → (b.length = if fd then 64 else 8) → s.hub.transfer? n client.toNat = some t → t.download = false →
    t.segmented = true → bit 4 (field (withKind 3 b) 0 1) = t.toggle → field (withKind 3 b) 0 1 % 8 = 0 → Completes
    (.uploadSegmentRequest n client fd b) s (fun h => (h.odapSent n client.toNat (u8 (6 * 32 + 16 * b2n t.toggle + 8 * b2n
    (decide (t.data.length ≤ if fd then 63 else 7))) ++ t.data.take (if fd then 63 else 7))) ∧ (h.transfer? n client.toNat = if
    t.data.length ≤ (if fd then 63 else 7) then none else some
    { t with data := t.data.drop (if fd then 63 else 7), toggle := !t.toggle }))) ∧
  (∀ (s : State) (n : Fin 6) (client : Byte) (fd : Bool) (b : Bytes), s.hub.live → s.hub.odapOn n = true → fd = s.hub.odapFd n →
    (b.length = if fd then 64 else 8) → odapHeadBad fd (withKind 4 b) = false → bit 3 (field (withKind 4 b) 0 1) = false →
    Completes (.odapAbort n client fd b) s (fun h => h.transfer? n client.toNat = none ∧ h.io = s.hub.io ∧ h.od = s.hub.od)) ∧
  (∀ (s : State) (n : Fin 6) (client : Byte) (fd : Bool) (b : Bytes) (t : OdapTransfer), s.hub.live → s.hub.odapOn n = true → fd
    = s.hub.odapFd n → (b.length = if fd then 64 else 8) → s.hub.transfer? n client.toNat = some t → Completes
    (.odapReservedFrame n client fd b) s (fun h => h.transfer? n client.toNat = none ∧ h.odapSent n client.toNat (odapInitiate fd
    4 t.index t.sub none (some (abProtocol 1))))) ∧
  (∀ (s : State) (n : Fin 6) (client : Byte) (t : OdapTransfer), s.hub.live → s.hub.claimed n ≠ 254 → s.hub.transfer? n
    client.toNat = some t → t.segmented = true → t.complete = false → Completes (.odapTimeout n client) s (fun h => h.transfer? n
    client.toNat = none ∧ h.odapSent n client.toNat (odapInitiate (s.hub.odapFd n) 4 t.index t.sub none (some abTimeout)))) ∧
  (∀ (s : State) (done evtEn : Bool), s.hub.live → s.hub.domOn 11 = true → s.hub.ctl.mailbox.phase = .idle →
    s.hub.ctl.mailbox.done = false ∨ done = true → s.hub.ctl.mailbox.len ≤ 1024 → s.hub.ctl.mailbox.target = 0 → Completes
    (.mbxRead done evtEn) s (fun h => h.ctl.mailbox.phase = .localAccess ∧ h.ctl.mailbox.done = false ∧ h.ctl.mailbox.doneEvtEn =
    evtEn ∧ h.ctl.keeperQ = s.hub.ctl.keeperQ ++ [⟨.mailbox, s.hub.ctl.mailbox.index, s.hub.ctl.mailbox.sub, none, false,
    false⟩])) ∧
  (∀ (s : State) (done evtEn : Bool), s.hub.live → s.hub.domOn 11 = true → s.hub.ctl.mailbox.phase = .idle →
    s.hub.ctl.mailbox.done = false ∨ done = true → s.hub.ctl.mailbox.len ≤ s.hub.ctl.mailbox.data.length → s.hub.ctl.mailbox.len
    ≤ 1024 → s.hub.ctl.mailbox.target = 0 → Completes (.mbxWrite done evtEn) s (fun h => h.ctl.mailbox.phase = .localAccess ∧
    h.ctl.mailbox.done = false ∧ h.ctl.mailbox.doneEvtEn = evtEn ∧ h.ctl.keeperQ = s.hub.ctl.keeperQ ++ [⟨.mailbox,
    s.hub.ctl.mailbox.index, s.hub.ctl.mailbox.sub, some (s.hub.ctl.mailbox.data.take s.hub.ctl.mailbox.len), false, false⟩])) ∧
  (∀ (s : State) (status : Nat) (data : Bytes), s.hub.live → s.hub.ctl.mailbox.phase = .outcome status data → Completes
    (.mbxComplete) s (fun h => (h.ctl.mailbox.phase = .idle ∧ h.ctl.mailbox.done = true ∧ h.ctl.mailbox.status = status ∧
    (s.hub.ctl.mailbox.doneEvtEn = true → h.raised Ev.mbxDone [])) ∧ ((s.hub.ctl.mailbox.op = 0 → status = 0 → h.ctl.mailbox.len
    = data.length ∧ h.ctl.mailbox.data.take data.length = data)))) ∧
  (∀ (s : State) (p : Fin 3) (m : SysMsg) (q : Nat), s.hub.live → s.hub.sysOpen p = true → 1 < m.hopsLeft → s.hub.onward
    m.direction = some q → s.hub.sysOpen q = true → q ≠ p.val → Completes (.systemRequest p m) s (fun h => h.gave s.hub (.sys q
    { m with hopsLeft := m.hopsLeft - 1 }) ∧ ⟨m.reqId.toNat, m.originDepth.toNat, p.val, q⟩ ∈ h.ctl.relays)) ∧
  (∀ (s : State) (p : Fin 3) (m : SysMsg), s.hub.live → s.hub.sysOpen p = true → 1 < m.hopsLeft → s.hub.onward m.direction =
    none → Completes (.systemRequest p m) s (fun h => (∃ r, h.gave s.hub (.sys p r) ∧ r.reqId = m.reqId ∧ r.status.toNat =
    abNoRoute))) ∧
  (∀ (s : State) (p : Fin 3) (m : SysMsg), s.hub.live → s.hub.sysOpen p = true → m.hopsLeft ≤ 1 → s.hub.fromOrigin p
    m.originDepth < 8 → Completes (.systemRequest p m) s (fun h => (h.ctl.keeperQ = s.hub.ctl.keeperQ ++ [⟨.system p
    m.originDepth m.reqId, m.index.toNat, m.sub.toNat, if m.op = 2 then some m.data else none, false, false⟩]))) ∧
  (∀ (s : State) (p : Fin 3) (m : SysMsg) (r : SysRequest), s.hub.live → s.hub.sysOpen p = true → s.hub.ctl.relays = [] →
    s.hub.ctl.requests.find? (fun r => decide (r.reqId = m.reqId.toNat) && r.sent) = some r → r.byMailbox = true →
    s.hub.ctl.mailbox.phase = .remote r.reqId → Completes (.systemResponse p m) s (fun h => (h.ctl.mailbox.phase = .outcome
    m.status.toNat m.data ∧ ∀ x ∈ h.ctl.requests, x.reqId ≠ r.reqId))) ∧
  (∀ (s : State) (p : Fin 3) (m : SysMsg), s.hub.live → s.hub.sysOpen p = true → s.hub.ctl.relays = [] → s.hub.ctl.requests = []
    → Completes (.systemResponse p m) s (fun h => h.ctl.lateResponses = s.hub.ctl.lateResponses + 1 ∧ h.ctl.mailbox =
    s.hub.ctl.mailbox)) ∧
  (∀ (s : State) (reqId : BitVec 16) (r : SysRequest), s.hub.live → s.hub.ctl.requests.find? (fun r => decide (r.reqId =
    reqId.toNat) && r.sent) = some r → r.byMailbox = true → s.hub.ctl.mailbox.phase = .remote r.reqId → Completes (.remoteTimeout
    reqId) s (fun h => (h.ctl.mailbox.phase = .outcome abRemoteTimeout [] ∧ ∀ x ∈ h.ctl.requests, x.reqId ≠ r.reqId)))

/-- What signal, alignment, equalisation, training blocks, the round timer and the gap do to a lane and its port in training.
Clause by clause: a signal detected on a port in training, outside the gap, clears loss of signal and runs the round timer.
Alignment takes a LOCKING lane to EQUALISING and turns the polarity where the receiver inverted. Equalisation makes the lane
READY with RX_READY, the taps and the eye found, where the eye's height reaches EYE_MIN, and otherwise UNUSABLE; a training
block with the lane's fields leaves. A coefficient request unanswered for its time is repeated, and after the eighth
repetition makes the lane UNUSABLE. A training block with a wrong CRC is counted, sets CTRL_CRC and changes nothing else of
the lane and no port. A good one without GO, on a coupling lane in training that raises no LEADER or pairing fault, notes the
far LANE, answers a request by its toggle and is answered by a training block. The 16th GO block on PLK, outside BENCH, links
it with its lane in service. The end of the gap takes every lane outside the pattern test to LOCKING, or to UNUSABLE below
RATE_FLOOR. TRAIN_LIMIT with no usable lane takes a leader to the next rate through the gap, and fails the port at the last
rate. A follower whose signal has gone takes the next rate. -/
def Obligations.TrainingStepsMoveALaneAndItsPort : Prop :=
  (∀ (s : State) (l : Fin 5), s.hub.live → (s.hub.port (lanePort l)).trains = true → (s.hub.port (lanePort l)).inGap = false →
    Completes (.signalDetect l false) s (fun h => (h.lane l).los = false ∧ (h.port (lanePort l)).signalSeen = true ∧ (h.port
    (lanePort l)).roundTimer = true)) ∧
  (∀ (s : State) (l : Fin 5) (inv : Bool), s.hub.live → (s.hub.lane l).state = .locking → Completes (.blockAlignment l inv) s
    (fun h => (h.lane l).state = .equalising ∧ (h.lane l).aligned = true ∧ (h.lane l).lol = false ∧ (h.lane l).polInv =
    ((s.hub.lane l).polInv != inv))) ∧
  (∀ (s : State) (l : Fin 5) (ctle : Fin 16) (dfe : List Int) (width : Fin 64) (height : Fin 1024), s.hub.live → (s.hub.lane
    l).state = .equalising → s.hub.val (Od.portEyeMin (lanePort l)) ≤ height.val → Completes (.equalisationDone l ctle dfe width
    height) s (fun h => (h.lane l).state = .ready ∧ (h.lane l).rxReady = true ∧ (h.lane l).ownUnusable = false ∧ (h.lane l).ctle
    = ctle.val ∧ (h.lane l).dfe = dfe ∧ (h.lane l).eyeWidth = width.val ∧ (h.lane l).eyeHeight = height.val ∧ h.gave s.hub
    (.laneBlock l (trainingBytes (h.trainingBlock l)) 1))) ∧
  (∀ (s : State) (l : Fin 5) (ctle : Fin 16) (dfe : List Int) (width : Fin 64) (height : Fin 1024), s.hub.live → (s.hub.lane
    l).state = .equalising → height.val < s.hub.val (Od.portEyeMin (lanePort l)) → Completes (.equalisationDone l ctle dfe width
    height) s (fun h => (h.lane l).state = .unusable ∧ (h.lane l).rxReady = false ∧ (h.lane l).ownUnusable = true ∧ h.gave s.hub
    (.laneBlock l (trainingBytes (h.trainingBlock l)) 1))) ∧
  (∀ (s : State) (l : Fin 5) (k r : Nat), s.hub.live → (s.hub.lane l).request = some (k, r) → r < 8 → Completes
    (.coeffRequestRetry l) s (fun h => (h.lane l).request = some (k, r + 1) ∧ (h.lane l).retries = (s.hub.lane l).retries + 1 ∧
    (h.lane l).state = (s.hub.lane l).state)) ∧
  (∀ (s : State) (l : Fin 5) (k r : Nat), s.hub.live → (s.hub.lane l).request = some (k, r) → 8 ≤ r → Completes
    (.coeffRequestRetry l) s (fun h => (h.lane l).request = none ∧ (h.lane l).state = .unusable ∧ (h.lane l).ownUnusable = true ∧
    (h.lane l).rxReady = false)) ∧
  (∀ (s : State) (l : Fin 5) (b : TrainingBlock), s.hub.live → Completes (.trainingBlock l b false) s (fun h => bit 5 (h.reg
    (Rg.laneFlags l)) = true ∧ h.lane l = { s.hub.lane l with blockCrc := (s.hub.lane l).blockCrc + 1 } ∧ h.lanes.ports =
    s.hub.lanes.ports)) ∧
  (∀ (s : State) (l : Fin 5) (b : TrainingBlock), s.hub.live → l.val < 4 → (s.hub.port (lanePort l)).trains = true → (s.hub.port
    (lanePort l)).inGap = false → (s.hub.lane l).state ∈ [.equalising, .ready, .unusable] → (s.hub.lane l).rejoining = false →
    b.leader = false ∨ (s.hub.port (lanePort l)).leader = false → s.hub.pairingClash l b = false → b.go = false → (∀ n ∈
    portLanes (lanePort l), (s.hub.lane n).goReceived < 16) → Completes (.trainingBlock l b true) s (fun h => ((h.lane l).farLane
    = some b.lane.val ∧ (b.reqKind = 1 ∨ b.reqKind = 2 → (h.lane l).ackToggle = b.reqToggle) ∧ h.gave s.hub (.laneBlock l
    (trainingBytes (h.trainingBlock l)) 1)))) ∧
  (∀ (s : State) (b : TrainingBlock), s.hub.live → s.hub.role ≠ .bench → (s.hub.port 2).trains = true → (s.hub.port 2).inGap =
    false → (s.hub.lane 4).state = .ready → (s.hub.lane 4).goSent = true → (s.hub.lane 4).goReceived = 15 → b.go = true →
    (s.hub.lane 4).rejoining = false → Completes (.trainingBlock 4 b true) s (fun h => (h.port 2).state = .linked ∧ (h.lane
    4).state = .inService ∧ (h.port 2).roundTimer = false)) ∧
  (∀ (s : State) (p : Fin 3), s.hub.live → (s.hub.port p).inGap = true → Completes (.roundGapEnd p) s (fun h => ((h.port
    p).inGap = false ∧ ∀ n ∈ portLanes p, (s.hub.lane n).state ≠ .pattern → (h.lane n).state = if (s.hub.port p).floorInForce <
    (s.hub.port p).rate then .unusable else .locking))) ∧
  (∀ (s : State) (p : Fin 3), s.hub.live → (s.hub.port p).trains = true → (s.hub.port p).roundTimer = true → (s.hub.port
    p).inGap = false → (s.hub.port p).leader = true → (s.hub.port p).rate < 2 → (∀ n ∈ portLanes p, (s.hub.lane n).usable =
    false) → Completes (.trainLimitExpiry p) s (fun h => (h.port p).rate = (s.hub.port p).rate + 1 ∧ (h.port p).inGap = true ∧
    (h.port p).roundTimer = false ∧ (h.port p).state = (s.hub.port p).state)) ∧
  (∀ (s : State) (p : Fin 3), s.hub.live → (s.hub.port p).trains = true → (s.hub.port p).roundTimer = true → (s.hub.port
    p).inGap = false → 2 ≤ (s.hub.port p).rate → (∀ n ∈ portLanes p, (s.hub.lane n).usable = false) → Completes
    (.trainLimitExpiry p) s (fun h => (h.port p).state = .failed ∧ (h.port p).lastFail = (s.hub.port p).failCause ∧ (h.port
    p).roundTimer = false)) ∧
  (∀ (s : State) (p : Fin 3), s.hub.live → (s.hub.port p).trains = true → (s.hub.port p).leader = false → (s.hub.port
    p).signalSeen = true → s.hub.portSignal p = false → (s.hub.port p).inGap = false → (s.hub.port p).rate < 2 → Completes
    (.followerStep p) s (fun h => (h.port p).rate = (s.hub.port p).rate + 1 ∧ (h.port p).state = (s.hub.port p).state ∧ (h.port
    p).inGap = false))

/-- A lane failure drops a lane in service where another is left, sets its flags, and the last lane's takes the port to STEPPING.
On a LINKED port with at least two lanes in service, a lane in service whose receiver is not Quiet is DROPPED by loss of
signal, by loss of lock, and by more invalid headers than LANE_ERR_LIMIT; the detector's own flag and LANE_DROPPED of
LANE_FLAGS are set. A lane-drop block with STEP 0 and a good CRC drops its lane and sets LANE_DROPPED; one with STEP 1 puts a
LINKED port into STEPPING at RATE_NEXT behind the gap, LINK_HOLD running. Loss of signal on the last lane in service puts the
port into STEPPING at the next rate, LINK_HOLD running. A receiver that leaves Quiet without alignment sets QUIET_FAULT and
its lane is DROPPED. An eye below half of EYE_MIN on a lane in service is noted and sets EYE_LOW; the lane stays in service. -/
def Obligations.LaneFailuresDropALaneInService : Prop :=
  (∀ (s : State) (l : Fin 5), s.hub.live → (s.hub.port (lanePort l)).state = .linked → (s.hub.lane l).state = .inService →
    (s.hub.lane l).rxQuiet = false → 2 ≤ (s.hub.lanesIn (lanePort l)).length → Completes (.lossOfSignal l) s (fun h => (h.lane
    l).state = .dropped ∧ (h.lane l).los = true ∧ bit 0 (h.reg (Rg.laneFlags l)) = true ∧ bit 3 (h.reg (Rg.laneFlags l)) = true)) ∧
  (∀ (s : State) (l : Fin 5), s.hub.live → (s.hub.port (lanePort l)).state = .linked → (s.hub.lane l).state = .inService →
    (s.hub.lane l).rxQuiet = false → 2 ≤ (s.hub.lanesIn (lanePort l)).length → Completes (.lossOfLock l) s (fun h => (h.lane
    l).state = .dropped ∧ (h.lane l).lol = true ∧ bit 1 (h.reg (Rg.laneFlags l)) = true ∧ bit 3 (h.reg (Rg.laneFlags l)) = true)) ∧
  (∀ (s : State) (l : Fin 5) (count : BitVec 32), s.hub.live → (s.hub.port (lanePort l)).state = .linked → (s.hub.lane l).state
    = .inService → (s.hub.lane l).rxQuiet = false → 2 ≤ (s.hub.lanesIn (lanePort l)).length → s.hub.val (Od.portLaneErrLimit
    (lanePort l)) < count.toNat → Completes (.errorLimitBreach l count) s (fun h => (h.lane l).state = .dropped ∧ bit 2 (h.reg
    (Rg.laneFlags l)) = true ∧ bit 3 (h.reg (Rg.laneFlags l)) = true)) ∧
  (∀ (s : State) (l : Fin 5) (r : Fin 4), s.hub.live → (s.hub.port (lanePort l)).state = .linked → (s.hub.lane l).state =
    .inService → 2 ≤ (s.hub.lanesIn (lanePort l)).length → Completes (.laneDropBlock l false r true) s (fun h => (h.lane l).state
    = .dropped ∧ bit 3 (h.reg (Rg.laneFlags l)) = true ∧ (h.port (lanePort l)).state = .linked)) ∧
  (∀ (s : State) (l : Fin 5) (r : Fin 4), s.hub.live → (s.hub.port (lanePort l)).state = .linked → Completes (.laneDropBlock l
    true r true) s (fun h => (h.port (lanePort l)).state = .stepping ∧ (h.port (lanePort l)).rate = min r.val 2 ∧ (h.port
    (lanePort l)).inGap = true ∧ (h.port (lanePort l)).holdTimer = true)) ∧
  (∀ (s : State) (l : Fin 5), s.hub.live → (s.hub.port (lanePort l)).state = .linked → (s.hub.lane l).state = .inService →
    (s.hub.lane l).rxQuiet = false → (s.hub.lanesIn (lanePort l)).length = 1 → Completes (.lossOfSignal l) s (fun h => (h.port
    (lanePort l)).state = .stepping ∧ (h.port (lanePort l)).rate = min ((s.hub.port (lanePort l)).rate + 1) 2 ∧ (h.port (lanePort
    l)).holdTimer = true)) ∧
  (∀ (s : State) (l : Fin 5), s.hub.live → (s.hub.port (lanePort l)).state = .linked → (s.hub.lane l).state = .inService →
    (s.hub.lane l).rxQuiet = true → 2 ≤ (s.hub.lanesIn (lanePort l)).length → Completes (.quietFault l) s (fun h => (h.lane
    l).state = .dropped ∧ bit 4 (h.reg (Rg.laneFlags l)) = true)) ∧
  (∀ (s : State) (l : Fin 5) (height : Fin 1024), s.hub.live → (s.hub.lane l).state = .inService → 2 * height.val < s.hub.val
    (Od.portEyeMin (lanePort l)) → Completes (.eyeMarginLow l height) s (fun h => (h.lane l).eyeHeight = height.val ∧ (h.lane
    l).state = .inService ∧ bit 6 (h.reg (Rg.laneFlags l)) = true))

/-- What Quiet entry and exit, the retrain of a dropped lane, the port timers and the port commands leave. A transmitter in
service that QUIET_ENABLE and R92 let go Quiet sends 4 Quiet-entry blocks and is Quiet; a good Quiet-entry block makes the
receiver of a lane in service Quiet; a Quiet transmitter sends 96, 48 or 24 exit blocks by its rate and is not Quiet; a good
exit block ends the receiver's Quiet. One second after a drop the leader of a LINKED port takes the lane to LOCKING and sends
a training block; a usable lane that has run clean for REJOIN_HOLD is given GO. A FAILED port whose retry timer runs,
PORT_RETRY_PERIOD not 0, and that may train trains at 12.5 Gbaud; LINK_HOLD's end on a STEPPING port with no GO and no usable
lane fails it with LAST_FAIL 2. On a LINKED port the hub leads, PORT_RETRAIN steps it to 12.5 Gbaud and PORT_RATE_STEP to the
next rate RATE_FLOOR allows, each answered and running on; LANE_DROP drops one of two lanes in service and ends; LANE_REJOIN
of a dropped lane takes it to LOCKING and ends. -/
def Obligations.QuietRejoinAndPortCommands : Prop :=
  (∀ (s : State) (l : Fin 5), s.hub.live → (s.hub.lane l).state = .inService → (s.hub.lane l).txQuiet = false → bit
    (s.hub.laneLogical l) (s.hub.val (Od.portQuietEnable (lanePort l))) = true → s.hub.quietOk l = true → Completes (.quietEntry
    l) s (fun h => (h.lane l).txQuiet = true ∧ (h.lane l).state = .inService ∧ h.gave s.hub (.laneBlock l (ctrlBlock 0xF1 (u8
    (s.hub.laneLogical l) ++ u8 0)) 4))) ∧
  (∀ (s : State) (l : Fin 5), s.hub.live → (s.hub.lane l).state = .inService → Completes (.quietEntryBlock l true) s (fun h =>
    (h.lane l).rxQuiet = true ∧ (h.lane l).state = .inService)) ∧
  (∀ (s : State) (l : Fin 5), s.hub.live → (s.hub.lane l).txQuiet = true → Completes (.quietExit l) s (fun h => (h.lane
    l).txQuiet = false ∧ h.gave s.hub (.laneBlock l (ctrlBlock 0xF2 (u8 (s.hub.laneLogical l) ++ u8 0)) (96 / 2 ^ (s.hub.port
    (lanePort l)).rate)))) ∧
  (∀ (s : State) (l : Fin 5), s.hub.live → Completes (.quietExitBlock l true) s (fun h => (h.lane l).rxQuiet = false)) ∧
  (∀ (s : State) (l : Fin 5), s.hub.live → (s.hub.port (lanePort l)).state = .linked → (s.hub.port (lanePort l)).leader = true →
    (s.hub.lane l).state = .dropped → (s.hub.lane l).rejoinTimer = true → Completes (.laneRejoinAttempt l) s (fun h => (h.lane
    l).state = .locking ∧ (h.lane l).rejoining = true ∧ h.gave s.hub (.laneBlock l (trainingBytes (h.trainingBlock l)) 1))) ∧
  (∀ (s : State) (l : Fin 5), s.hub.live → (s.hub.port (lanePort l)).state = .linked → (s.hub.lane l).rejoining = true →
    (s.hub.lane l).rejoinHold = true → (s.hub.lane l).usable = true → (s.hub.lane l).goReceived < 16 → Completes
    (.rejoinHoldExpiry l) s (fun h => (h.lane l).goSent = true ∧ (h.lane l).rejoinHold = false ∧ (h.lane l).rejoining = true)) ∧
  (∀ (s : State) (p : Fin 3), s.hub.live → (s.hub.port p).state = .failed → (s.hub.port p).retryTimer = true → s.hub.val
    (Od.portPortRetryPeriod p) ≠ 0 → s.hub.trainReady p = true → Completes (.portRetry p) s (fun h => (h.port p).state =
    .training ∧ (h.port p).rate = 0 ∧ (h.port p).retryTimer = false)) ∧
  (∀ (s : State) (p : Fin 3), s.hub.live → (s.hub.port p).state = .stepping → (s.hub.port p).holdTimer = true → s.hub.portGoes p
    = false → (∀ n ∈ portLanes p, (s.hub.lane n).usable = false) → Completes (.linkHoldExpiry p) s (fun h => (h.port p).state =
    .failed ∧ (h.port p).lastFail = 2 ∧ (h.port p).holdTimer = false)) ∧
  (∀ (s : State) (req : Path) (c : Fin 8) (tag : BitVec 16) (p : Fin 3), s.hub.takes req c 0x0200 → (s.hub.port p).state =
    .linked → (s.hub.port p).leader = true → Completes (.portRetrain req c tag [BitVec.ofNat 8 p]) s (fun h => h.gave s.hub
    (.answer req 0 []) ∧ (h.port p).state = .stepping ∧ (h.port p).rate = 0 ∧ (h.port p).command = some c.val)) ∧
  (∀ (s : State) (req : Path) (c : Fin 8) (tag : BitVec 16) (p : Fin 3), s.hub.takes req c 0x0201 → (s.hub.port p).state =
    .linked → (s.hub.port p).leader = true → (s.hub.port p).rate < 2 → (s.hub.port p).rate < s.hub.val (Od.portRateFloor p) →
    Completes (.portRateStep req c tag [BitVec.ofNat 8 p]) s (fun h => h.gave s.hub (.answer req 0 []) ∧ (h.port p).state =
    .stepping ∧ (h.port p).rate = (s.hub.port p).rate + 1 ∧ (h.port p).command = some c.val)) ∧
  (∀ (s : State) (req : Path) (c : Fin 8) (tag : BitVec 16) (p : Fin 2) (k : Fin 2) (n : Nat), s.hub.takes req c 0x0202 →
    (s.hub.port p).state = .linked → (s.hub.port p).leader = true → s.hub.laneOf p k = some n → (s.hub.lane n).state = .inService
    → (s.hub.lanesIn p).length = 2 → Completes (.laneDrop req c tag [BitVec.ofNat 8 p, BitVec.ofNat 8 k]) s (fun h => h.gave
    s.hub (.answer req 0 []) ∧ (h.lane n).state = .dropped ∧ (h.chan c).state = .done)) ∧
  (∀ (s : State) (req : Path) (c : Fin 8) (tag : BitVec 16) (p : Fin 2) (k : Fin 2) (n : Nat), s.hub.takes req c 0x0203 →
    (s.hub.port p).state = .linked → (s.hub.port p).leader = true → s.hub.laneOf p k = some n → (s.hub.lane n).state = .dropped →
    (s.hub.lane n).rejoining = false → Completes (.laneRejoin req c tag [BitVec.ofNat 8 p, BitVec.ofNat 8 k]) s (fun h => h.ended
    c 0x0203 tag.toNat 0 [] ∧ (h.lane n).state = .locking ∧ (h.lane n).rejoining = true))

/-- The pattern generator, checker and error injection act in BENCH and are ignored outside it; PAT_ERRCNT clears on read. In
BENCH, GEN_EN and CHK_EN set their bit of PAT_CTRL and take the lane into the pattern test; GEN_EN cleared with CHK_EN clear
and no loopback takes it to DROPPED with CHK_LOCK 0. SINGLE inverts one bit and BURST BURST_LEN + 1, where none is being
inverted and the generator runs or the lane is in service. Outside BENCH GEN_EN and CHK_EN change no lane and no register;
outside BENCH, or while an injection runs, BURST changes none and gives nothing out. A read of PAT_ERRCNT gives the count,
which the bits received since then have raised where the checker runs, and clears it with CHK_SAT; with CHK_EN 0 CHK_LOCK
stays as it is (log 62's choice). The checker of a PRBS pattern locks at the 128th right bit in a row, its window not being
constant (the model's choice), and loses lock at the 16th error among the last 256 bits, each error counted up to 2^32 - 1. -/
def Obligations.PatternTestActsInBenchOnly : Prop :=
  (∀ (s : State) (n : Fin 5), s.hub.live → s.hub.mode.active = .bench → Completes (.genEn n true) s (fun h => (h.lane n).state =
    .pattern ∧ bit 3 (h.reg (Rg.patCtrl n)) = true)) ∧
  (∀ (s : State) (n : Fin 5), s.hub.live → s.hub.mode.active = .bench → Completes (.chkEn n true) s (fun h => (h.lane n).state =
    .pattern ∧ bit 4 (h.reg (Rg.patCtrl n)) = true)) ∧
  (∀ (s : State) (n : Fin 5), s.hub.live → s.hub.mode.active = .bench → (s.hub.lane n).state = .pattern → bit 4 (s.hub.reg
    (Rg.patCtrl n)) = false → s.hub.loopOn n = false → Completes (.genEn n false) s (fun h => (h.lane n).state = .dropped ∧ bit 3
    (h.reg (Rg.patCtrl n)) = false ∧ (h.lane n).chkLock = false)) ∧
  (∀ (s : State) (n : Fin 5) (v : Bool), s.hub.live → s.hub.mode.active ≠ .bench → Completes (.genEn n v) s (fun h => h.lanes =
    s.hub.lanes ∧ h.regs = s.hub.regs)) ∧
  (∀ (s : State) (n : Fin 5) (v : Bool), s.hub.live → s.hub.mode.active ≠ .bench → Completes (.chkEn n v) s (fun h => h.lanes =
    s.hub.lanes ∧ h.regs = s.hub.regs)) ∧
  (∀ (s : State) (n : Fin 5), s.hub.live → s.hub.mode.active = .bench → (s.hub.lane n).inject = 0 ∨ (s.hub.lane n).injectEnd ≤
    s.hub.clock → bit 3 (s.hub.reg (Rg.patCtrl n)) = true ∨ (s.hub.lane n).state = .inService → Completes (.patInjectSingle n) s
    (fun h => (h.lane n).inject = 1 ∧ (h.lane n).injectEnd = s.hub.clock + bitTime (s.hub.port (lanePort n)).rate 1 ∧ h.regs =
    s.hub.regs ∧ h.gave s.hub (.inverted n 1))) ∧
  (∀ (s : State) (n : Fin 5), s.hub.live → s.hub.mode.active = .bench → (s.hub.lane n).inject = 0 ∨ (s.hub.lane n).injectEnd ≤
    s.hub.clock → bit 3 (s.hub.reg (Rg.patCtrl n)) = true ∨ (s.hub.lane n).state = .inService → Completes (.patInjectBurst n) s
    (fun h => (h.lane n).inject = bits 13 8 (s.hub.reg (Rg.patCtrl n)) + 1 ∧ h.regs = s.hub.regs ∧ h.gave s.hub (.inverted n
    (bits 13 8 (s.hub.reg (Rg.patCtrl n)) + 1)))) ∧
  (∀ (s : State) (n : Fin 5), s.hub.live → s.hub.mode.active ≠ .bench ∨ ((s.hub.lane n).inject ≠ 0 ∧ s.hub.clock < (s.hub.lane
    n).injectEnd) → s.hub.linesStand → Completes (.patInjectBurst n) s (fun h => h.lanes = s.hub.lanes ∧ h.regs = s.hub.regs ∧
    h.out = s.hub.out)) ∧
  (∀ (s : State) (n : Fin 5) (received : List Bool), s.hub.live → Completes (.patErrcntRead n received) s (fun h => h.gave s.hub
    (.value ((s.hub.checkBits n received).lane n).errCount) ∧ (h.lane n).errCount = 0 ∧ (h.lane n).chkSat = false ∧ (h.lane
    n).chkLock = ((s.hub.checkBits n received).lane n).chkLock)) ∧
  (∀ (s : State) (n : Fin 5) (received : List Bool), s.hub.live → bit 4 (s.hub.reg (Rg.patCtrl n)) = false → Completes
    (.patErrcntRead n received) s (fun h => h.gave s.hub (.value (s.hub.lane n).errCount) ∧ (h.lane n).errCount = 0 ∧ (h.lane
    n).chkLock = (s.hub.lane n).chkLock)) ∧
  (∀ (s : State) (n : Fin 5) (b : Bool), s.hub.live → bit 4 (s.hub.reg (Rg.patCtrl n)) = true → s.hub.patternSel n < 4 →
    (s.hub.lane n).chkLock = false → (prbsTaps (s.hub.patternSel n)).1 ≤ (s.hub.lane n).checker.window.length → 127 ≤ (s.hub.lane
    n).checker.run → true ∈ (s.hub.lane n).checker.window.take 30 → b = prbsNext (s.hub.patternSel n) (s.hub.lane
    n).checker.window → Completes (.checkerLock n [] [b]) s (fun h => (h.lane n).chkLock = true ∧ (h.lane n).state = (s.hub.lane
    n).state ∧ (h.lane n).errCount = (s.hub.lane n).errCount)) ∧
  (∀ (s : State) (n : Fin 5) (b : Bool), s.hub.live → bit 4 (s.hub.reg (Rg.patCtrl n)) = true → s.hub.patternSel n < 4 →
    (s.hub.lane n).chkLock = true → 15 ≤ ((s.hub.lane n).checker.recent.take 255).count true → b ≠ prbsNext (s.hub.patternSel n)
    (s.hub.lane n).checker.window → Completes (.checkerLock n [] [b]) s (fun h => (h.lane n).chkLock = false ∧ (h.lane
    n).errCount = min 0xFFFFFFFF ((s.hub.lane n).errCount + 1) ∧ (h.lane n).state = (s.hub.lane n).state))

/-- What good, early and bad groups, IDLE blocks, group close, REPLAY_TIMEOUT and a due acknowledgement leave on a link. On a
RUNNING link. A good group of SYSTEM cells with GROUP_SEQ RX_NEXT, none held and the word read being sound, advances RX_NEXT,
takes its tally's ACK_SEQ, and is the 16th unacknowledged group, for which an IDLE block with the acknowledgement leaves, or
is counted as one more. A good group 1 to 3 ahead, not held yet and no NAK having been sent, is held with its lane and cells
and RX_NEXT stays. A bad group, no NAK having gone out for RX_NEXT and no group being open, leaves RX_NEXT, awaits it, sends
a NAK in an IDLE block and sets GROUP_BAD's flag. An IDLE block gives ACK_SEQ, and every group up to it leaves the replay
buffer; in every link state, one of an unknown type is counted, and one with a wrong CRC is counted and sets CTRL_CRC.
Closing the open group of a lane sends its cells with a tally of its GROUP_SEQ and the acknowledgement due; the group stays
in the replay buffer. At REPLAY_TIMEOUT the one unacknowledged group, its words sound and REPLAY_LIMIT not reached, is sent
again on the first transmitting lane and counted as one more replay. ACK_DUE with a group unacknowledged or a NAK due sends
the IDLE block, and none is unacknowledged or due. -/
def Obligations.GroupsAreDeliveredAcknowledgedAndReplayed : Prop :=
  (∀ (s : State) (l : Fin 5) (cells : List Cell) (seq : BitVec 16) (ack : Ack), s.hub.live → (s.hub.link (lanePort l)).state =
    .running → (s.hub.link (lanePort l)).heldGroups = [] → s.hub.wordSound 3 0 → seq.toNat = (s.hub.link (lanePort l)).rxNext →
    ack.nak = false → (∀ c ∈ cells, c.index = 0 ∧ c.ctype = 1 ∧ c.len ≤ 28) → Completes (.tally l cells seq ack true true) s (fun
    h => (h.link (lanePort l)).rxNext = ((s.hub.link (lanePort l)).rxNext + 1) % 65536 ∧ (h.link (lanePort l)).acked =
    ack.ackSeq.toNat ∧ (h.link (lanePort l)).unacked = (if 15 ≤ (s.hub.link (lanePort l)).unacked then 0 else (s.hub.link
    (lanePort l)).unacked + 1) ∧ (15 ≤ (s.hub.link (lanePort l)).unacked → h.sentBlock s.hub (lanePort l) (idleBytes ⟨(s.hub.link
    (lanePort l)).nakDue, seq⟩)))) ∧
  (∀ (s : State) (l : Fin 5) (cells : List Cell) (seq : BitVec 16) (ack : Ack), s.hub.live → (s.hub.link (lanePort l)).state =
    .running → ack.nak = false → (s.hub.link (lanePort l)).awaiting = false → 0 < gap 16 seq.toNat (s.hub.link (lanePort
    l)).rxNext → gap 16 seq.toNat (s.hub.link (lanePort l)).rxNext ≤ 3 → (∀ g ∈ (s.hub.link (lanePort l)).heldGroups, g.seq ≠
    seq.toNat) → Completes (.tally l cells seq ack true true) s (fun h => (h.link (lanePort l)).rxNext = (s.hub.link (lanePort
    l)).rxNext ∧ (h.link (lanePort l)).heldGroups.map (fun g => (g.seq, g.lane, g.cells.map (·.cell))) = (s.hub.link (lanePort
    l)).heldGroups.map (fun g => (g.seq, g.lane, g.cells.map (·.cell))) ++ [(seq.toNat, l.val, cells)])) ∧
  (∀ (s : State) (l : Fin 5) (cells : List Cell) (seq : BitVec 16) (ack : Ack), s.hub.live → (s.hub.link (lanePort l)).state =
    .running → (s.hub.link (lanePort l)).nakAt = none → (s.hub.link (lanePort l)).openGroups = [] → s.hub.txLanes (lanePort l) ≠
    [] → Completes (.tally l cells seq ack false true) s (fun h => (h.link (lanePort l)).rxNext = (s.hub.link (lanePort
    l)).rxNext ∧ (h.link (lanePort l)).awaiting = true ∧ h.sentBlock s.hub (lanePort l) (idleBytes ⟨true, BitVec.ofNat 16 (gap 16
    (s.hub.link (lanePort l)).rxNext 1)⟩) ∧ bit 0 (h.reg (Rg.linkFlags (lanePort l))) = true)) ∧
  (∀ (s : State) (l : Fin 5) (ack : Ack), s.hub.live → (s.hub.link (lanePort l)).state = .running → ack.nak = false → Completes
    (.idle l (.idle ack) true) s (fun h => (h.link (lanePort l)).acked = ack.ackSeq.toNat ∧ (h.link (lanePort l)).replay =
    (s.hub.link (lanePort l)).replay.filter (fun g => decide (32768 ≤ gap 16 ack.ackSeq.toNat g.seq)))) ∧
  (∀ (s : State) (l : Fin 5) (code : Byte), s.hub.live → Completes (.idle l (.unknown code) true) s (fun h => (h.link (lanePort
    l)).ctrlUnknown = (s.hub.link (lanePort l)).ctrlUnknown + 1 ∧ (h.link (lanePort l)).acked = (s.hub.link (lanePort l)).acked)) ∧
  (∀ (s : State) (l : Fin 5) (b : IdleBlock), s.hub.live → Completes (.idle l b false) s (fun h => (h.link (lanePort l)).ctrlCrc
    = (s.hub.link (lanePort l)).ctrlCrc + 1 ∧ (h.link (lanePort l)).acked = (s.hub.link (lanePort l)).acked ∧ bit 6 (h.reg
    (Rg.linkFlags (lanePort l))) = true)) ∧
  (∀ (s : State) (l : Fin 5) (g : Group), s.hub.live → (s.hub.link (lanePort l)).openGroups.find? (fun g => decide (g.lane =
    l.val)) = some g → Completes (.groupClose l) s (fun h => ((∀ k ∈ (h.link (lanePort l)).openGroups, k.lane ≠ l.val) ∧ g ∈
    (h.link (lanePort l)).replay) ∧ h.gave s.hub (.group (lanePort l) l (g.cells.map (·.cell)) (tallyBytes (g.cells.map (·.cell))
    g.seq (s.hub.ackNow (lanePort l)))))) ∧
  (∀ (s : State) (p : Fin 3) (g : Group), s.hub.live → (s.hub.link p).state = .running → (s.hub.link p).replay = [g] →
    (s.hub.link p).openGroups = [] → g.replays < s.hub.val (Od.linkReplayLimit p) → (∀ b ∈ g.cells, b.damage = 0) → s.hub.txLanes
    p ≠ [] → Completes (.replayTimeout p) s (fun h => bit 2 (h.reg (Rg.linkFlags p)) = true ∧ (h.link p).replay = [⟨g.seq,
    (s.hub.txLanes p).getD 0 0, g.cells, g.replays + 1⟩] ∧ h.gave s.hub (.group p ((s.hub.txLanes p).getD 0 0) (g.cells.map
    (·.cell)) (tallyBytes (g.cells.map (·.cell)) g.seq (s.hub.ackNow p))))) ∧
  (∀ (s : State) (p : Fin 3), s.hub.live → (s.hub.link p).state = .running → 0 < (s.hub.link p).unacked ∨ (s.hub.link p).nakDue
    = true → Completes (.ackDue p) s (fun h => h.gave s.hub (.block p (s.hub.ctrlLane p) (idleBytes (s.hub.ackNow p))) ∧ (h.link
    p).unacked = 0 ∧ (h.link p).nakDue = false))

/-- What credits, the pages of bring-up, INIT_TIMEOUT, FOG_SEND and fog signals leave. An INIT credit in INIT notes its limits;
once ACCEPT has gone both ways, with a Tender in service and no retrain out of FOGHORN, the link is RUNNING and its SYSTEM
tunnel open. In RUNNING a class's limit advances by 1 to 2,047. CREDIT_SEND, outside an ECC sweep, sends the limits of every
class on every lane in service that is not Quiet and not joining. In INIT, page 1 gives the far SERIAL; a page 0 with REFUSE
takes the link to REFUSED with its reason, an upstream end's being noted as turned away; a leading end, its far SERIAL known,
refuses another mode with reason 4 where it is in BENCH, and at a single LIGHTHOUSE below depth 7 a LIGHTSHIP or BUOY with
reason 3 where its chain holds eight hubs. Page 0 goes out first, then page 1's turn comes. INIT_TIMEOUT at a leading end
takes the link DOWN with LAST_DOWN 2 and its port to STEPPING. FOG_SEND with a free cause and a running link ends with the
number of links. With no chain reset under way: a new fog signal of an allotted cause, not itself a chain reset's, sets
FOG_RCVD and goes on by every other RUNNING link; a duplicate changes no link, entry or Lamp; a reserved cause is counted.
FOG_SIGNAL_REPEAT sends the next copy on its link. -/
def Obligations.BringUpExchangesPagesCreditsAndFogSignals : Prop :=
  (∀ (s : State) (p : Fin 3) (limits : BitVec 96), s.hub.live → (s.hub.link p).state = .init → (s.hub.link p).acceptSent = false
    ∨ (s.hub.link p).acceptRcvd = false → Completes (.credit p true limits true) s (fun h => ((h.link p).state = .init ∧ (h.link
    p).initCredit = true ∧ ∀ c < 8, (h.link p).limit.get 0 c = creditField limits c))) ∧
  (∀ (s : State) (p : Fin 3) (limits : BitVec 96), s.hub.live → (s.hub.link p).state = .init → (s.hub.link p).acceptSent = true
    → (s.hub.link p).acceptRcvd = true → s.hub.serviceList ≠ [] → s.hub.mode.retrain = none → Completes (.credit p true limits
    true) s (fun h => (h.link p).state = .running ∧ s.hub.sysOpen p = false ∧ h.sysOpen p = true)) ∧
  (∀ (s : State) (p : Fin 3) (limits : BitVec 96) (c : Fin 8), s.hub.live → (s.hub.link p).state = .running → 1 ≤ gap 12
    (creditField limits c) ((s.hub.link p).limit.get 0 c) → gap 12 (creditField limits c) ((s.hub.link p).limit.get 0 c) ≤ 2047 →
    Completes (.credit p false limits true) s (fun h => (h.link p).limit.get 0 c = creditField limits c)) ∧
  (∀ (s : State) (p : Fin 3) (n : Fin 5), s.hub.live → (s.hub.link p).state = .running → s.hub.sw.sweep = false → n.val ∈
    s.hub.lanesIn p → (s.hub.lane n).txQuiet = false → n.val ∉ (s.hub.link p).joining → Completes (.creditSend p) s (fun h =>
    h.gave s.hub (.block p n (creditBytes false ((List.range 8).map (s.hub.limitOf p)))))) ∧
  (∀ (s : State) (p : Fin 3) (b : LinkInit) (serial : BitVec 64), s.hub.live → (s.hub.link p).state = .init → (s.hub.link
    p).farMode = none → b.page = .page1 serial → Completes (.linkInit p b true) s (fun h => (h.link p).farSerial = some serial ∧
    (h.link p).state = .init)) ∧
  (∀ (s : State) (p : Fin 3) (b : LinkInit) (mode depth chain reason : Byte) (sf : Word) (rx : BitVec 16), s.hub.live →
    (s.hub.link p).state = .init → b.page = .page0 mode depth chain reason sf rx → b.refuse = true → Completes (.linkInit p b
    true) s (fun h => (h.link p).state = .refused ∧ (h.link p).refuseReason = reason.toNat ∧ (h.link p).initTimer = false ∧
    (h.links.turnedAway = true ↔ s.hub.links.turnedAway = true ∨ s.hub.facesUp p = true))) ∧
  (∀ (s : State) (p : Fin 3) (b : LinkInit) (mode depth chain reason : Byte) (sf : Word) (rx : BitVec 16), s.hub.live →
    (s.hub.link p).state = .init → (s.hub.link p).farSerial ≠ none → (s.hub.link p).acceptSent = false → (s.hub.port p).leader =
    true → b.page = .page0 mode depth chain reason sf rx → b.refuse = false → b.accept = false → s.hub.role = .bench → mode ≠ 0 →
    Completes (.linkInit p b true) s (fun h => (h.link p).state = .refused ∧ (h.link p).refuseReason = 4)) ∧
  (∀ (s : State) (b : LinkInit) (mode depth chain reason : Byte) (sf : Word) (rx : BitVec 16), s.hub.live → (s.hub.link 0).state
    = .init → (s.hub.link 0).farSerial ≠ none → (s.hub.link 0).acceptSent = false → (s.hub.port 0).leader = true → b.page =
    .page0 mode depth chain reason sf rx → b.refuse = false → b.accept = false → s.hub.role = .lighthouse → s.hub.mode.pairConfig
    = false → mode = 3 ∨ mode = 4 → s.hub.links.hopDepth < 7 → 8 ≤ s.hub.links.chainCount → Completes (.linkInit 0 b true) s (fun
    h => (h.link 0).state = .refused ∧ (h.link 0).refuseReason = 3)) ∧
  (∀ (s : State) (p : Fin 3), s.hub.live → (s.hub.port p).state = .linked → (s.hub.link p).state = .init → (s.hub.link
    p).farMode = none ∨ (s.hub.link p).farSerial = none → (s.hub.link p).nextPage = 0 → Completes (.linkInitPageSend p) s (fun h
    => h.sentBlock s.hub p (linkInitBytes (s.hub.initPage0 p false false false 0)) ∧ (h.link p).nextPage = 1)) ∧
  (∀ (s : State) (p : Fin 3), s.hub.live → (s.hub.port p).state = .linked → (s.hub.port p).leader = true → (s.hub.link p).state
    = .init → s.hub.initWaits p = false → Completes (.initTimeout p) s (fun h => (h.link p).state = .down ∧ (h.link p).lastDown =
    2 ∧ (h.port p).state = .stepping)) ∧
  (∀ (s : State) (req : Path) (c : Fin 8) (tag : BitVec 16) (args : Bytes), s.hub.takes req c 0x0210 → args.length = 3 → 0x80 ≤
    field args 0 1 → s.hub.runningPorts ≠ [] → Completes (.fogSend req c tag args) s (fun h => h.ended c 0x0210 tag.toNat 0 (u8
    s.hub.runningPorts.length) ∧ h.links.fogSeq = (s.hub.links.fogSeq + 1) % 256)) ∧
  (∀ (s : State) (p : Fin 3) (f : FogSignal), s.hub.live → s.hub.pwr.chainReset = false → s.hub.resetsChain p f = false →
    fogAllotted f.cause.toNat = true → (f.origin, f.seq) ∉ s.hub.links.fogSeen → Completes (.fogSignal p f true) s (fun h => (bit
    7 (h.reg (Rg.linkFlags p)) = true ∧ ∀ q ∈ s.hub.runningPorts, q ≠ p.val → h.sentBlock s.hub q (fogBytes f)))) ∧
  (∀ (s : State) (p : Fin 3) (f : FogSignal), s.hub.live → s.hub.pwr.chainReset = false → fogAllotted f.cause.toNat = true →
    (f.origin, f.seq) ∈ s.hub.links.fogSeen → Completes (.fogSignal p f true) s (fun h => h.links = s.hub.links ∧ h.od = s.hub.od
    ∧ h.dm = s.hub.dm)) ∧
  (∀ (s : State) (p : Fin 3) (f : FogSignal), s.hub.live → s.hub.pwr.chainReset = false → fogAllotted f.cause.toNat = false →
    Completes (.fogSignal p f true) s (fun h => h.links.fogReserved = s.hub.links.fogReserved + 1 ∧ h.od = s.hub.od ∧ h.dm =
    s.hub.dm)) ∧
  (∀ (s : State) (p : Fin 3) (x : FogCopy), s.hub.live → s.hub.pwr.chainReset = false → s.hub.links.fogCopies.find? (fun k =>
    decide (k.link = p.val)) = some x → Completes (.fogSignalRepeat p) s (fun h => h.sentBlock s.hub p (fogBytes x.fog) ∧
    h.links.fogCopies = s.hub.links.fogCopies.erase x ++ (if x.copies ≤ 1 then [] else [{ x with copies := x.copies - 1 }])))

/-- What TUNNEL_CREATE, OPEN, CLOSE, DESTROY, MODIFY and the timers of a context leave. Each under the conditions its clause
names. CREATE with arguments that pass R173's checks, SWITCH not in FOGHORN's retention and the hub no STANDBY, makes the
lowest free context a CLOSED opener with the arguments' KIND, CLASS, TARGET, MAX_SEG and binding, and ends with its handle
where no mirror record must be acknowledged; with no free context it ends with NO_RESOURCE and no context changes. OPEN of an
unsealed tunnel that no state refuses, whose binding is valid and which the plans admit, enters OPENING with its timer, is
counted as admitted and runs on. CLOSE drains an OPEN end; any other opener is CLOSED and any other responder free. DESTROY
frees the context and its admission. MODIFY of a CLOSED opener sets CLASS, MAX_SEG and DRAIN_LIMIT where given, and TAG; of
an OPEN one that changes CLASS it takes the new class, awaits MODIFY_ACK with its timer and runs on. OPEN_TIMEOUT takes an
opener, no key exchange of its being open, to FAULTED with cause 2 and frees a responder or transit. A drain that is
complete, or at its limit, ends CLOSED at an opener and free elsewhere. RESP_FAULT_HOLD frees a faulted context.
TUNNEL_REOPEN of an unsealed FAULTED opener that may open enters OPENING with its timer. -/
def Obligations.TunnelCommandsOpenCloseAndFreeContexts : Prop :=
  (∀ (s : State) (req : Path) (c : Fin 8) (tag : BitVec 16) (args : Bytes) (i : Nat), s.hub.takes req c 0x0300 →
    s.hub.createArgs args = none → s.hub.inFog = false → s.hub.standby = false → s.hub.freeIndex = some i → Completes
    (.tunnelCreate req c tag args) s (fun h => (h.ctx i).state = .closed ∧ (h.ctx i).role = .opener ∧ (h.ctx i).kind = field args
    0 1 ∧ (h.ctx i).cls = field args 1 1 ∧ (h.ctx i).farTarget = field args 4 1 ∧ ((h.ctx i).maxSeg = field args 6 2 ∧ (h.ctx
    i).localBind = field args 8 4 ∧ (s.hub.mirroring = false → h.ended c 0x0300 tag.toNat 0 (u16 (h.handle i)))))) ∧
  (∀ (s : State) (req : Path) (c : Fin 8) (tag : BitVec 16) (args : Bytes), s.hub.takes req c 0x0300 → s.hub.createArgs args =
    none → s.hub.inFog = false → s.hub.standby = false → s.hub.freeIndex = none → Completes (.tunnelCreate req c tag args) s (fun
    h => h.ended c 0x0300 tag.toNat abNoResource [] ∧ h.tun = s.hub.tun)) ∧
  (∀ (s : State) (req : Path) (c : Fin 8) (tag : BitVec 16) (args : Bytes) (i : Nat), s.hub.takes req c 0x0301 → args.length = 2
    → i = field args 0 2 % 256 → s.hub.cmdLive (field args 0 2) = true → s.hub.openStates i = none → (s.hub.ctx i).isSealed =
    false → (s.hub.ctx i).portA = s.hub.targetPort (s.hub.ctx i).farTarget → s.hub.bindOk i (s.hub.ctx i).kind (s.hub.ctx
    i).localBind (s.hub.ctx i).maxSeg = true → s.hub.admits i (s.hub.ctx i) = true → Completes (.tunnelOpen req c tag args) s
    (fun h => (h.ctx i).state = .opening ∧ (h.ctx i).openTimer = true ∧ (h.ctx i).command = some c.val ∧ h.busyWith c 0x0301
    tag.toNat ∧ h.gave s.hub (.answer req 0 []) ∧ i ∈ h.plan.admitted)) ∧
  (∀ (s : State) (req : Path) (c : Fin 8) (tag : BitVec 16) (args : Bytes) (i : Nat), s.hub.takes req c 0x0302 → args.length = 2
    → i = field args 0 2 % 256 → s.hub.cmdLive (field args 0 2) = true → (s.hub.ctx i).role ≠ .transit → s.hub.closeStates i =
    none → Completes (.tunnelClose req c tag args) s (fun h => ((h.ctx i).state = if (s.hub.ctx i).state = .open then .draining
    else if (s.hub.ctx i).role = .opener then .closed else .free) ∧ h.gave s.hub (.answer req 0 []))) ∧
  (∀ (s : State) (req : Path) (c : Fin 8) (tag : BitVec 16) (args : Bytes) (i : Nat), s.hub.takes req c 0x0303 → args.length = 2
    → i = field args 0 2 % 256 → s.hub.cmdLive (field args 0 2) = true → (s.hub.ctx i).role ≠ .transit → s.hub.inFog = false →
    s.hub.standby = false → Completes (.tunnelDestroy req c tag args) s (fun h => (h.ctx i).state = .free ∧ h.gave s.hub (.answer
    req 0 []) ∧ i ∉ h.plan.admitted)) ∧
  (∀ (s : State) (req : Path) (c : Fin 8) (tag : BitVec 16) (args : Bytes) (i : Nat), s.hub.takes req c 0x0304 → args.length =
    12 → i = field args 0 2 % 256 → s.hub.cmdLive (field args 0 2) = true → (s.hub.ctx i).role = .opener → firstAbort
    (s.hub.modifyArgs args) = none → s.hub.inFog = false → s.hub.standby = false → s.hub.rootSwap = false → (s.hub.ctx i).state =
    .closed → (s.hub.ctx i).command = none → (s.hub.ctx i).newClass = none → Completes (.tunnelModify req c tag args) s (fun h =>
    ((h.ctx i).cls = if field args 2 1 = 0xFF then (s.hub.ctx i).cls else field args 2 1) ∧ ((h.ctx i).maxSeg = if field args 4 2
    = 0 then (s.hub.ctx i).maxSeg else field args 4 2) ∧ ((h.ctx i).drainLimit = if field args 6 2 = 0 then (s.hub.ctx
    i).drainLimit else field args 6 2) ∧ (h.ctx i).tag = field args 8 4 ∧ (h.ctx i).state = .closed ∧ h.gave s.hub (.answer req 0
    []))) ∧
  (∀ (s : State) (req : Path) (c : Fin 8) (tag : BitVec 16) (args : Bytes) (i : Nat), s.hub.takes req c 0x0304 → args.length =
    12 → i = field args 0 2 % 256 → s.hub.cmdLive (field args 0 2) = true → (s.hub.ctx i).role = .opener → firstAbort
    (s.hub.modifyArgs args) = none → s.hub.inFog = false → s.hub.standby = false → s.hub.rootSwap = false → (s.hub.ctx i).state =
    .open → (s.hub.ctx i).command = none → field args 2 1 ≠ 0xFF → field args 2 1 ≠ (s.hub.ctx i).clsNow → Completes
    (.tunnelModify req c tag args) s (fun h => (h.ctx i).modifying = true ∧ (h.ctx i).openTimer = true ∧ (h.ctx i).command = some
    c.val ∧ (h.ctx i).clsNow = field args 2 1 ∧ h.busyWith c 0x0304 tag.toNat)) ∧
  (∀ (s : State) (i : Byte), s.hub.live → (s.hub.ctx i.toNat).state = .opening → (s.hub.ctx i.toNat).openTimer = true → (∀ e ∈
    s.hub.sec.exchange, e.ctx ≠ i.toNat) → Completes (.openTimeout i) s (fun h => ((h.ctx i.toNat).state = if (s.hub.ctx
    i.toNat).role = .opener then .faulted else .free) ∧ ((s.hub.ctx i.toNat).role = .opener → (h.ctx i.toNat).faultCause = 2))) ∧
  (∀ (s : State) (i : Byte), s.hub.live → s.hub.drained i.toNat = true → Completes (.drainComplete i) s (fun h => ((h.ctx
    i.toNat).state = if (s.hub.ctx i.toNat).role = .opener then .closed else .free))) ∧
  (∀ (s : State) (i : Byte), s.hub.live → (s.hub.ctx i.toNat).state = .draining → (s.hub.ctx i.toNat).drainTimer = true →
    Completes (.drainLimitExpiry i) s (fun h => ((h.ctx i.toNat).state = if (s.hub.ctx i.toNat).role = .opener then .closed else
    .free))) ∧
  (∀ (s : State) (i : Byte), s.hub.live → (s.hub.ctx i.toNat).state = .faulted → (s.hub.ctx i.toNat).holdTimer = true →
    Completes (.respFaultHoldExpiry i) s (fun h => (h.ctx i.toNat).state = .free)) ∧
  (∀ (s : State) (i : Byte), s.hub.live → (s.hub.ctx i.toNat).state = .faulted → (s.hub.ctx i.toNat).role = .opener → (s.hub.ctx
    i.toNat).reopenTimer = true → (s.hub.ctx i.toNat).shadow = false → (s.hub.ctx i.toNat).command = none → s.hub.plan.pending =
    none → s.hub.inFog = false → (s.hub.ctx i.toNat).isSealed = false → (s.hub.ctx i.toNat).portA = s.hub.targetPort (s.hub.ctx
    i.toNat).farTarget → s.hub.sysOpen (s.hub.ctx i.toNat).portA = true → s.hub.bindOk i.toNat (s.hub.ctx i.toNat).kind
    (s.hub.ctx i.toNat).localBind (s.hub.ctx i.toNat).maxSeg = true → s.hub.admits i.toNat (s.hub.ctx i.toNat) = true → Completes
    (.tunnelReopen i) s (fun h => (h.ctx i.toNat).state = .opening ∧ (h.ctx i.toNat).openTimer = true ∧ (h.ctx
    i.toNat).reopenTimer = false))

/-- What the tunnel control messages do at relay, responder and opener. OPEN_REQ with hops left, whose checks pass, whose onward
port has its SYSTEM tunnel open and whose rates the relay admits, makes a transit context in OPENING and goes on with one hop
less and this hop's index; at its last hop, unsealed, its binding valid and its rates admitted, it makes a responder in
OPENING and OPEN_ACK goes back; one that a check refuses changes no context and is answered by OPEN_ACK with the status and
REFUSER_DEPTH. For the context that a message matches: OPEN_ACK with status 0 opens an OPENING opener, which sends
OPEN_CONFIRM; with another it is FAULTED with cause 1 and the status. OPEN_CONFIRM opens an OPENING responder or transit and
counts it. CLOSE_REQ takes an OPEN end to DRAINING with the far count, its CLOSE_ACK owed and DRAIN_LIMIT running; CLOSE_ACK
gives a draining end the far count. TEARDOWN faults an OPENING or OPEN end with its cause but frees a transit and an OPENING
responder; a DRAINING end ends CLOSED at an opener and free at a responder. MODIFY_REQ gives an OPEN responder the class and
MAX_SEG and is answered by MODIFY_ACK; MODIFY_ACK ends the opener's change, its old MAX_SEG gone. Fields that no rule states
are free values or log 56's. -/
def Obligations.TunnelMessagesMoveContextsAlongTheRoute : Prop :=
  (∀ (s : State) (p : Fin 3) (m : TunMsg) (q : OpenReq) (o i : Nat), s.hub.live → m.op = .openReq q.kind q.cls q.direction
    q.isSealed q.maxSeg q.farBind q.rates → 1 < m.hopsLeft → s.hub.openChecks true = none → s.hub.freeIndex = some i →
    s.hub.onward m.direction = some o → o < 3 → s.hub.sysOpen o = true → (s.hub.relayPlace p i (s.hub.relayCtx p o i m q)
    q).admits i (s.hub.relayCtx p o i m q) = true → Completes (.openReq p m) s (fun h => (h.ctx i).state = .opening ∧ (h.ctx
    i).role = .transit ∧ (h.ctx i).towardOpener = p.val ∧ (h.ctx i).towardResponder = o ∧ h.gave s.hub (.tun o
    { m with hopsLeft := m.hopsLeft - 1, hopIndex := BitVec.ofNat 8 i, peerIndex := 0 }))) ∧
  (∀ (s : State) (p : Fin 3) (m : TunMsg) (q : OpenReq) (i : Nat), s.hub.live → m.op = .openReq q.kind q.cls q.direction
    q.isSealed q.maxSeg q.farBind q.rates → m.hopsLeft ≤ 1 → s.hub.openChecks false = none → s.hub.freeIndex = some i →
    q.isSealed = false → s.hub.bindOk i q.kind q.farBind q.maxSeg = true → (s.hub.answerPlace i (s.hub.answerCtx p i m q)
    q).admits i (s.hub.answerCtx p i m q) = true → s.hub.sysOpen p = true → Completes (.openReq p m) s (fun h => (h.ctx i).state
    = .opening ∧ (h.ctx i).role = .responder ∧ (h.ctx i).localBind = q.farBind ∧ (h.ctx i).farHandle = m.openerHandle.toNat ∧
    h.gave s.hub (.tun p (h.tunMsg i false 0 .openAck)))) ∧
  (∀ (s : State) (p : Fin 3) (m : TunMsg) (q : OpenReq) (a : Abort), s.hub.live → m.op = .openReq q.kind q.cls q.direction
    q.isSealed q.maxSeg q.farBind q.rates → s.hub.openChecks (decide (1 < m.hopsLeft)) = some a → s.hub.sysOpen p = true →
    Completes (.openReq p m) s (fun h => h.tun = s.hub.tun ∧ h.gave s.hub (.tun p
    { m with hopsLeft := m.totalHops + 1 - m.hopsLeft, originDepth := BitVec.ofNat 8 s.hub.links.hopDepth, direction := s.hub.directionOf p, status := a, responderHandle := 0, hopIndex := 0, peerIndex := m.hopIndex, refuserDepth := BitVec.ofNat 8 s.hub.links.hopDepth, op := .openAck }))) ∧
  (∀ (s : State) (p : Fin 3) (m : TunMsg) (i : Nat), s.hub.live → s.hub.tunFind p m = some i → (s.hub.ctx i).state = .opening →
    (s.hub.ctx i).role = .opener → (s.hub.ctx i).towardResponder = p.val → m.status = 0 → s.hub.sysOpen p = true → Completes
    (.openAck p m) s (fun h => (h.ctx i).state = .open ∧ (h.ctx i).farHandle = m.responderHandle.toNat ∧ (h.ctx i).command = none
    ∧ (h.ctx i).openTimer = false ∧ h.gave s.hub (.tun p (h.tunMsg i true 0 .openConfirm)))) ∧
  (∀ (s : State) (p : Fin 3) (m : TunMsg) (i : Nat), s.hub.live → s.hub.tunFind p m = some i → (s.hub.ctx i).state = .opening →
    (s.hub.ctx i).role = .opener → (s.hub.ctx i).towardResponder = p.val → m.status ≠ 0 → Completes (.openAck p m) s (fun h =>
    (h.ctx i).state = .faulted ∧ (h.ctx i).faultCause = 1 ∧ (h.ctx i).faultStatus = m.status)) ∧
  (∀ (s : State) (p : Fin 3) (m : TunMsg) (i : Nat), s.hub.live → s.hub.tunFind p m = some i → (s.hub.ctx i).state = .opening →
    (s.hub.ctx i).role ≠ .opener → (s.hub.ctx i).towardOpener = p.val → Completes (.openConfirm p m) s (fun h => (h.ctx i).state
    = .open ∧ (h.ctx i).openTimer = false ∧ (h.ctx i).openCount = trunc 32 ((s.hub.ctx i).openCount + 1))) ∧
  (∀ (s : State) (p : Fin 3) (m : TunMsg) (i n : Nat), s.hub.live → m.op = .closeReq n → s.hub.tunFind p m = some i → (s.hub.ctx
    i).state = .open → (s.hub.ctx i).role ≠ .transit → Completes (.closeReq p m) s (fun h => (h.ctx i).state = .draining ∧ (h.ctx
    i).farSent = some n ∧ (h.ctx i).closeReply = true ∧ (h.ctx i).drainTimer = true)) ∧
  (∀ (s : State) (p : Fin 3) (m : TunMsg) (i n : Nat), s.hub.live → m.op = .closeAck n → s.hub.tunFind p m = some i → (s.hub.ctx
    i).state = .draining → (s.hub.ctx i).role ≠ .transit → Completes (.closeAck p m) s (fun h => (h.ctx i).state = .draining ∧
    (h.ctx i).farSent = some n)) ∧
  (∀ (s : State) (p : Fin 3) (m : TunMsg) (i cause : Nat), s.hub.live → m.op = .teardown cause → s.hub.tunFind p m = some i →
    (s.hub.ctx i).state = .opening ∨ (s.hub.ctx i).state = .open → Completes (.teardown p m) s (fun h => ((h.ctx i).state = if
    (s.hub.ctx i).role = .transit ∨ ((s.hub.ctx i).role = .responder ∧ (s.hub.ctx i).state = .opening) then .free else .faulted)
    ∧ ((h.ctx i).state = .faulted → (h.ctx i).faultCause = cause))) ∧
  (∀ (s : State) (p : Fin 3) (m : TunMsg) (i cause : Nat), s.hub.live → m.op = .teardown cause → s.hub.tunFind p m = some i →
    (s.hub.ctx i).state = .draining → (s.hub.ctx i).role ≠ .transit → Completes (.teardown p m) s (fun h => ((h.ctx i).state = if
    (s.hub.ctx i).role = .opener then .closed else .free))) ∧
  (∀ (s : State) (p : Fin 3) (m : TunMsg) (i cls seg : Nat), s.hub.live → m.op = .modifyReq cls seg → s.hub.tunFind p m = some i
    → (s.hub.ctx i).state = .open → (s.hub.ctx i).role = .responder → (s.hub.ctx i).towardOpener = p.val → s.hub.sysOpen p = true
    → Completes (.modifyReq p m) s (fun h => (h.ctx i).clsNow = cls ∧ (h.ctx i).maxSeg = seg ∧ (h.ctx i).maxSegOld = seg ∧ h.gave
    s.hub (.tun p (h.tunMsg i false 0 .modifyAck)))) ∧
  (∀ (s : State) (p : Fin 3) (m : TunMsg) (i : Nat), s.hub.live → s.hub.tunFind p m = some i → (s.hub.ctx i).state = .open →
    (s.hub.ctx i).role = .opener → (s.hub.ctx i).towardResponder = p.val → (s.hub.ctx i).modifying = true → Completes (.modifyAck
    p m) s (fun h => (h.ctx i).modifying = false ∧ (h.ctx i).openTimer = false ∧ (h.ctx i).maxSegOld = (s.hub.ctx i).maxSeg ∧
    (h.ctx i).command = none))

/-- What dispatch, start, end, commit, the red meter, steals and cell slots do to jobs and queues. Dispatch: the oldest waiting
segment of a direction that may go, no returned job standing before it, its context word sound and, for an encapsulation,
within MAX_SEG and no BLOCK tunnel's, becomes a PENDING job of its Tender with the next ticket, which counts on. JOB_START at
an idle Tender in service whose jobs are undamaged: the job that R215 and R220 put first is RUNNING. JOB_DONE: running jobs
of a tunnel that still stands are DONE, JOBS counts one. JOB_COMMIT of the DONE job whose ticket is due, its handle the
context's: COMMIT counts one for every decapsulation; an unsealed encapsulation that the meter finds GREEN, of another kind
than SAFETY's and with no injection armed, also puts its segment's cells at the end of its link's queue; a RED one is HELD
and COMMIT stays. METER_RELEASE of a HELD job with PIR above 0 and within PBS: CLOCK is at the instant at which Tp holds it,
and COMMIT counts one. STEAL by an idle general Tender in service, with no engine fence and no reload, from the victim that
R218 chooses among its cluster's other Tenders, or, with bit 0 of STEAL_ENABLE clear and bit 1 set, among other clusters',
its jobs sound or correctable: both are counted and the thief is busy. CELL_SLOT: the sound cell that the scheduler chooses
leaves its egress queue, where no group waits to be resent. -/
def Obligations.JobsRunInTicketOrderOnTenders : Prop :=
  (∀ (s : State) (k : JobTunnel) (i : Nat) (encap : Bool) (j : Job) (rest : List Job) (t : Nat), s.hub.live → i = tunnelNumber k
    → s.hub.tunnelRead 2 i = (s.hub, false) → s.hub.returned i encap = none → takeWaiting i encap s.hub.eng.waiting = (some j,
    rest) → encap = false ∨ j.seg.data.length + s.hub.safetyExtra i ≤ (s.hub.ctx i).maxSeg → encap = false ∨ portCode (s.hub.ctx
    i).localBind ≠ 0x30 → s.hub.targetOf j = some t → s.hub.mayDispatch j = true → Completes (.jobDispatch k encap) s (fun h =>
    h.eng.waiting = rest ∧ h.eng.issue.get 0 (dirKey i encap) = trunc 16 (s.hub.eng.issue.get 0 (dirKey i encap) + 1) ∧ (∃ x ∈
    (h.tender t).jobs, x.ctx = i ∧ x.encap = encap ∧ x.state = .pending ∧ x.ticket = s.hub.eng.issue.get 0 (dirKey i encap)))) ∧
  (∀ (s : State) (t : Fin 32) (k : Nat), s.hub.live → s.hub.inService t = true → (s.hub.tender t).busy = false → (∀ j ∈
    (s.hub.tender t).jobs, j.damage = 0) → nextJob (s.hub.tender t).jobs = some k → Completes (.jobStart t) s (fun h => (h.tender
    t).jobs = setJob (s.hub.tender t).jobs k (fun j => { j with state := .running }) ∧ (h.tender t).busy = true)) ∧
  (∀ (s : State) (t : Fin 32), s.hub.live → (s.hub.tender t).busy = true → (∀ j ∈ (s.hub.tender t).jobs, j.poisoned = false) →
    Completes (.jobDone t) s (fun h => ((h.tender t).jobs = (s.hub.tender t).jobs.map (fun j => if j.state = .running then
    { j with state := .done } else j)) ∧ (h.tender t).jobsRun = trunc 64 ((s.hub.tender t).jobsRun + 1) ∧ (h.tender t).busy =
    false)) ∧
  (∀ (s : State) (k : JobTunnel) (i t : Nat) (j : Job), s.hub.live → i = tunnelNumber k → s.hub.nextTicket i true .done = some
    (t, j) → j.handle = s.hub.handle i → (s.hub.ctx i).state ≠ .free → (s.hub.ctx i).isSealed = false → (s.hub.ctx i).kind ≠ 7 →
    s.hub.sw.inject = [] → (s.hub.meterSegment i (s.hub.wireLen i j.seg.data.length) j.seg.yellow).2 = .green → Completes
    (.jobCommit k true) s (fun h => h.eng.commit.get 0 (dirKey i true) = trunc 16 (s.hub.eng.commit.get 0 (dirKey i true) + 1) ∧
    (h.egress (s.hub.ctx i).portA).queue.map (fun b => (b.ctx, b.cell)) = (s.hub.egress (s.hub.ctx i).portA).queue.map (fun b =>
    (b.ctx, b.cell)) ++ (cutCells (s.hub.ctx i) false (j.seg.data.length + 1) j.tseq true j.seg.data).map (fun c => (i, c)))) ∧
  (∀ (s : State) (k : JobTunnel) (i t : Nat) (j : Job), s.hub.live → i = tunnelNumber k → s.hub.nextTicket i true .done = some
    (t, j) → j.handle = s.hub.handle i → (s.hub.ctx i).state ≠ .free → (s.hub.meterSegment i (s.hub.wireLen i j.seg.data.length)
    j.seg.yellow).2 = .red → Completes (.jobCommit k true) s (fun h => (h.eng.commit.get 0 (dirKey i true) = s.hub.eng.commit.get
    0 (dirKey i true) ∧ ∃ x ∈ (h.tender t).jobs, x.ticket = j.ticket ∧ x.state = .held))) ∧
  (∀ (s : State) (k : JobTunnel) (i t : Nat) (j : Job), s.hub.live → i = tunnelNumber k → s.hub.nextTicket i false .done = some
    (t, j) → j.handle = s.hub.handle i → (s.hub.ctx i).state ≠ .free → Completes (.jobCommit k false) s (fun h =>
    h.eng.commit.get 0 (dirKey i false) = trunc 16 (s.hub.eng.commit.get 0 (dirKey i false) + 1))) ∧
  (∀ (s : State) (i : Byte) (t : Nat) (j : Job) (pir : Nat), s.hub.live → s.hub.nextTicket i.toNat true .held = some (t, j) →
    pir = s.hub.inForce (Od.planPirSend s.hub.plan.activePlan i.toNat) → 0 < pir → (s.hub.meter i.toNat).tp ≤ charge
    (s.hub.wireLen i.toNat j.seg.data.length) * bucketByte → charge (s.hub.wireLen i.toNat j.seg.data.length) ≤ s.hub.inForce
    (Od.planPbsSend s.hub.plan.activePlan i.toNat) → Completes (.meterRelease i) s (fun h => h.clock = max s.hub.clock
    ((s.hub.meter i.toNat).last + (charge (s.hub.wireLen i.toNat j.seg.data.length) * bucketByte - (s.hub.meter i.toNat).tp + pir
    - 1) / pir) ∧ h.eng.commit.get 0 (dirKey i.toNat true) = trunc 16 (s.hub.eng.commit.get 0 (dirKey i.toNat true) + 1))) ∧
  (∀ (s : State) (t : Fin 32) (u : Nat), s.hub.live → s.hub.inService t = true → s.hub.pendingOf t = 0 → (s.hub.tender t).busy =
    false → s.hub.isPin t = false → s.hub.slotFree t false = true → s.hub.eng.fenceRaised = false → s.hub.eng.reloading = none →
    bit 0 (s.hub.val Od.engStealEnable) = true → s.hub.victim (((List.range 8).map (fun k => t.val / 8 * 8 + k)).filter (fun u =>
    decide (u ≠ t.val))) = some u → (∀ j ∈ (s.hub.tender u).jobs, j.damage ≤ 2) → Completes (.steal t false) s (fun h =>
    (h.tender t).stolenIn = trunc 32 ((s.hub.tender t).stolenIn + 1) ∧ (h.tender u).stolenOut = trunc 32 ((s.hub.tender
    u).stolenOut + 1) ∧ (h.tender t).busy = true)) ∧
  (∀ (s : State) (t : Fin 32) (u : Nat), s.hub.live → s.hub.inService t = true → s.hub.pendingOf t = 0 → (s.hub.tender t).busy =
    false → s.hub.isPin t = false → s.hub.slotFree t false = true → s.hub.eng.fenceRaised = false → s.hub.eng.reloading = none →
    bit 0 (s.hub.val Od.engStealEnable) = false → bit 1 (s.hub.val Od.engStealEnable) = true → s.hub.victim (otherClusters t) =
    some u → (∀ j ∈ (s.hub.tender u).jobs, j.damage ≤ 2) → Completes (.steal t true) s (fun h => (h.tender t).stolenIn = trunc 32
    ((s.hub.tender t).stolenIn + 1) ∧ (h.tender u).stolenOut = trunc 32 ((s.hub.tender u).stolenOut + 1) ∧ (h.tender t).busy =
    true)) ∧
  (∀ (s : State) (e : Fin 32) (k : Fin 2) (b : BufCell), s.hub.live → 3 ≤ e.val ∨ ((s.hub.link e).resend = [] ∧ (s.hub.slotLane
    e k).isSome = true) → (s.hub.chooseCell e).2.1 = some b → b.damage = 0 → b.descDamage = 0 → Completes (.cellSlot e k) s (fun
    h => (h.egress e).queue = dropHead b.ctx (s.hub.egress e).queue))

/-- What Tender faults, fences, restoring, barriers, the engine fence and the reload leave. A fault of a Tender in service fences
it with its cause, the watchdog a busy one with cause 2, each with its flag. Outside FOGHORN's retention: TENDER_FENCE fences
with cause 5, one in service only with more than two in service, and ends with R237's data. TENDER_RESTORE of a fenced Tender
whose domain is on and whose store has the loaded measurement returns it, its channel DONE, when the checks of microcode
pass; when they fail it stays fenced and the command ends with OPERATION_FAILED detail 1. ENGINE_BARRIER, no other one
waiting, joins the uses of Keeper's counter, armed at once when free, else in order (log 71), and runs on. ARM arms a free
register counter over the outstanding jobs; DONE stays. A counter with none left completes not before 5 cycles from arming:
the register's sets DONE and raises BARRIER_DONE where enabled; Keeper's ends the command with R237's data, runs the engine
fence's limit, or ends the reload with its image in use and in the stores of the clusters that are on. ENGINE_RELOAD, with no
reload, swap or plan switch under way, is answered and, its image passing R231, runs on behind the counter; otherwise it ends
with OPERATION_FAILED and the check's detail. ENGINE_FENCE raises the fence and runs on, or lifts it and is DONE; the fence's
limit lifts it, flags and raises. -/
def Obligations.TendersAreFencedAndBarriersComplete : Prop :=
  (∀ (s : State) (t : Fin 32) (cause : Fin 5), s.hub.live → s.hub.inService t = true → Completes (.tenderFault t cause) s (fun h
    => (h.tender t).fenced = true ∧ (h.tender t).fenceCause = cause.val ∧ bit 0 (h.reg Rg.engFlags) = true)) ∧
  (∀ (s : State) (t : Fin 32), s.hub.live → s.hub.inService t = true → (s.hub.tender t).busy = true → Completes (.tenderWatchdog
    t) s (fun h => (h.tender t).fenced = true ∧ (h.tender t).fenceCause = 2 ∧ bit 0 (h.reg Rg.engFlags) = true)) ∧
  (∀ (s : State) (req : Path) (c : Fin 8) (tag : BitVec 16) (args : Bytes), s.hub.takes req c 0x0500 → args.length = 1 → field
    args 0 1 < 32 → (s.hub.tender (field args 0 1)).fenced = false → (s.hub.inService (field args 0 1) = true → 2 <
    s.hub.serviceList.length) → s.hub.inFog = false → Completes (.tenderFence req c tag args) s (fun h => (h.tender (field args 0
    1)).fenced = true ∧ (h.tender (field args 0 1)).fenceCause = 5 ∧ h.ended c 0x0500 tag.toNat 0 h.serviceData)) ∧
  (∀ (s : State) (req : Path) (c : Fin 8) (tag : BitVec 16) (args : Bytes), s.hub.takes req c 0x0501 → args.length = 1 → field
    args 0 1 < 32 → (s.hub.tender (field args 0 1)).fenced = true → s.hub.domOn (3 + field args 0 1 / 8) = true → (s.hub.store
    (field args 0 1 / 8)).measure = s.hub.eng.mcMeasure → s.hub.inFog = false → Completes (.tenderRestore req c tag args true) s
    (fun h => (h.tender (field args 0 1)).fenced = false ∧ s.hub.inService (field args 0 1) = false ∧ (h.chan c).state = .done)) ∧
  (∀ (s : State) (req : Path) (c : Fin 8) (tag : BitVec 16) (args : Bytes), s.hub.takes req c 0x0501 → args.length = 1 → field
    args 0 1 < 32 → (s.hub.tender (field args 0 1)).fenced = true → s.hub.domOn (3 + field args 0 1 / 8) = true → s.hub.inFog =
    false → Completes (.tenderRestore req c tag args false) s (fun h => (h.tender (field args 0 1)).fenced = true ∧ h.ended c
    0x0501 tag.toNat (abFailed 1) [])) ∧
  (∀ (s : State) (req : Path) (c : Fin 8) (tag : BitVec 16), s.hub.takes req c 0x0502 → s.hub.inFog = false → (∀ u ∈
    s.hub.eng.keepUses, u = .fence ∨ u = .reload) → Completes (.engineBarrier req c tag []) s (fun h => h.eng.keepUses =
    s.hub.eng.keepUses ++ [.command c] ∧ h.busyWith c 0x0502 tag.toNat ∧ h.gave s.hub (.answer req 0 []) ∧ (h.eng.keepBarrier =
    if s.hub.eng.keepUses = [] then some s.hub.newBarrier else s.hub.eng.keepBarrier))) ∧
  (∀ (s : State), s.hub.live → s.hub.eng.regBarrier = none → Completes (.engBarrierArm) s (fun h => h.eng.regBarrier = some
    ⟨s.hub.outstanding, s.hub.outstanding.length, s.hub.clock⟩ ∧ h.eng.regDone = s.hub.eng.regDone)) ∧
  (∀ (s : State) (b : Barrier), s.hub.live → s.hub.eng.regBarrier = some b → b.waiting = [] → Completes (.barrierComplete 0) s
    (fun h => (h.eng.regBarrier = none ∧ h.eng.regDone = true ∧ h.clock = max s.hub.clock (b.armedAt + s.hub.cycles 5) ∧ (bit 3
    (s.hub.reg Rg.engBarrier) = true → h.raised Ev.barrierDone [])))) ∧
  (∀ (s : State) (b : Barrier) (c : Fin 8) (l : List BarrierUse), s.hub.live → s.hub.eng.keepBarrier = some b →
    s.hub.eng.keepUses = .command c :: l → b.waiting = [] → (s.hub.chan c).state = .running → Completes (.barrierComplete 1) s
    (fun h => h.eng.keepUses = l.filter (fun u => decide (u ≠ .command c)) ∧ h.clock = max s.hub.clock (b.armedAt + s.hub.cycles
    5) ∧ h.ended c (s.hub.chan c).code (s.hub.chan c).tag 0 (u32 b.jobs ++ u32 (s.hub.cyclesIn (h.clock - b.armedAt))))) ∧
  (∀ (s : State) (b : Barrier) (l : List BarrierUse), s.hub.live → s.hub.eng.keepBarrier = some b → s.hub.eng.keepUses = .fence
    :: l → b.waiting = [] → Completes (.barrierComplete 2) s (fun h => h.eng.keepUses = l.filter (fun u => decide (u ≠ .fence)) ∧
    h.eng.fenceTimer = true ∧ h.eng.fenceCommand = none ∧ h.eng.fenceRaised = s.hub.eng.fenceRaised)) ∧
  (∀ (s : State) (b : Barrier) (l : List BarrierUse) (c : Fin 8) (m : Image), s.hub.live → s.hub.eng.keepBarrier = some b →
    s.hub.eng.keepUses = .reload :: l → b.waiting = [] → s.hub.eng.reloading = some c.val → s.hub.eng.reloadImage = some m →
    (s.hub.chan c).state = .running → Completes (.barrierComplete 3) s (fun h => h.eng.reloading = none ∧ h.eng.reloadImage =
    none ∧ h.eng.mcVersion = m.version ∧ h.eng.mcMeasure = m.measure ∧ h.eng.verified = some m ∧ (h.ended c (s.hub.chan c).code
    (s.hub.chan c).tag 0 (u32 m.version) ∧ ∀ k < 4, s.hub.domOn (3 + k) = true → (h.store k).measure = m.measure))) ∧
  (∀ (s : State) (req : Path) (c : Fin 8) (tag : BitVec 16) (args : Bytes), s.hub.takes req c 0x0503 → args.length = 4 →
    s.hub.inFog = false → s.hub.pair.swap = none → s.hub.plan.pending = none → s.hub.eng.reloading = none → Completes
    (.engineReload req c tag args) s (fun h => (h.gave s.hub (.answer req 0 []) ∧ ∀ m ∈ (s.hub.imageCheck (field args 0
    4)).2.toOption.toList, h.eng.reloading = some c.val ∧ h.eng.reloadImage = some m ∧ h.eng.keepUses = s.hub.eng.keepUses ++
    [.reload] ∧ h.busyWith c 0x0503 tag.toNat))) ∧
  (∀ (s : State) (req : Path) (c : Fin 8) (tag : BitVec 16) (args : Bytes) (d : Nat), s.hub.takes req c 0x0503 → args.length = 4
    → s.hub.inFog = false → s.hub.pair.swap = none → s.hub.plan.pending = none → s.hub.eng.reloading = none → (s.hub.imageCheck
    (field args 0 4)).2 = .error d → Completes (.engineReload req c tag args) s (fun h => h.eng.reloading = none ∧ h.ended c
    0x0503 tag.toNat (abFailed d) [] ∧ h.gave s.hub (.answer req 0 []))) ∧
  (∀ (s : State) (req : Path) (c : Fin 8) (tag : BitVec 16), s.hub.takes req c 0x0504 → s.hub.inFog = false →
    s.hub.eng.fenceRaised = false → s.hub.eng.reloading = none → Completes (.engineFenceRaise req c tag) s (fun h =>
    h.eng.fenceRaised = true ∧ h.eng.fenceCommand = some c.val ∧ h.eng.keepUses = s.hub.eng.keepUses ++ [.fence] ∧ h.busyWith c
    0x0504 tag.toNat)) ∧
  (∀ (s : State) (req : Path) (c : Fin 8) (tag : BitVec 16), s.hub.takes req c 0x0504 → s.hub.inFog = false → Completes
    (.engineFenceLift req c tag) s (fun h => ((s.hub.eng.fenceRaised = true → h.eng.fenceRaised = false ∧ h.eng.fenceTimer =
    false ∧ .fence ∉ h.eng.keepUses) ∧ (h.chan c).state = .done ∧ h.gave s.hub (.answer req 0 [])))) ∧
  (∀ (s : State), s.hub.live → s.hub.eng.fenceRaised = true → s.hub.eng.fenceTimer = true → Completes (.fenceExpired) s (fun h
    => h.eng.fenceRaised = false ∧ h.eng.fenceTimer = false ∧ bit 4 (h.reg Rg.engFlags) = true ∧ h.raised Ev.fenceExpired []))

/-- What PLAN_SWITCH, METER_COLOUR, the plan blocks, a due switch and the ends of windows leave. PLAN_SWITCH, no state refusing
it: to another plan it is armed at the count plus LEAD (0: PLAN_LEAD) with the next SWITCH_SEQ and runs on; to the active
plan it ends at once with the plan, the count and 0. METER_COLOUR outside BENCH waits for the boundary with its action. A
good ANNOUNCE on the port followed, of a switch not armed and not the last armed, arms it, behind one that is pending (R201),
notes the root's ORIGIN and goes on to every downstream link. A good STATUS there arms a switch that it finds pending and
this hub has not; with none pending at the root it arms a missed one for the next superframe, or takes SWITCH_SEQ. A good ACK
at the root counts a new ORIGIN of the pending switch not yet due; elsewhere it goes on upstream and no plan state changes. A
good COUNT on a running downstream port sets its HUBS and CHAIN_COUNT; one with a wrong CRC is counted, sets CTRL_CRC and
changes neither. ANNOUNCE_REPEAT sends the announcement on every downstream link. A switch due and not late makes its plan
active, takes up the next armed one, notes the count, flags, and is raised where no command runs. STARTUP, SWAP or RETRAIN,
BLIND_HOLD superframes after its start, is closed and the reasons in force are judged. -/
def Obligations.PlansSwitchAtTheirSuperframe : Prop :=
  (∀ (s : State) (req : Path) (c : Fin 8) (tag : BitVec 16) (args : Bytes), s.hub.takes req c 0x0400 → args.length = 2 → field
    args 0 1 < 8 → field args 1 1 ≠ 1 → field args 1 1 ≤ 64 → s.hub.planStates = none → field args 0 1 ≠ s.hub.plan.activePlan →
    Completes (.planSwitch req c tag args) s (fun h => h.plan.pending = some (field args 0 1, (s.hub.links.sf + (if field args 1
    1 = 0 then s.hub.val Od.planPlanLead else field args 1 1)) % 2 ^ 32, (s.hub.plan.switchSeq + 1) % 256) ∧ h.plan.command =
    some c.val ∧ h.plan.activePlan = s.hub.plan.activePlan ∧ h.busyWith c 0x0400 tag.toNat)) ∧
  (∀ (s : State) (req : Path) (c : Fin 8) (tag : BitVec 16) (args : Bytes), s.hub.takes req c 0x0400 → args.length = 2 → field
    args 0 1 < 8 → field args 1 1 ≠ 1 → field args 1 1 ≤ 64 → s.hub.planStates = none → field args 0 1 = s.hub.plan.activePlan →
    Completes (.planSwitch req c tag args) s (fun h => h.plan = s.hub.plan ∧ h.ended c 0x0400 tag.toNat 0 (u8 (field args 0 1) ++
    u32 s.hub.links.sf ++ u8 0))) ∧
  (∀ (s : State) (req : Path) (c : Fin 8) (tag : BitVec 16), s.hub.takes req c 0x0401 → s.hub.mode.active ≠ .bench → Completes
    (.meterColourClear req c tag) s (fun h => h.plan.colourCommands = s.hub.plan.colourCommands ++ [(c.val, 0)] ∧ h.busyWith c
    0x0401 tag.toNat ∧ h.plan.force = s.hub.plan.force)) ∧
  (∀ (s : State) (req : Path) (c : Fin 8) (tag : BitVec 16), s.hub.takes req c 0x0401 → s.hub.mode.active ≠ .bench → Completes
    (.meterColourSet req c tag) s (fun h => h.plan.colourCommands = s.hub.plan.colourCommands ++ [(c.val, 1)] ∧ h.busyWith c
    0x0401 tag.toNat ∧ h.plan.force = s.hub.plan.force)) ∧
  (∀ (s : State) (req : Path) (c : Fin 8) (tag : BitVec 16), s.hub.takes req c 0x0401 → s.hub.mode.active ≠ .bench → Completes
    (.meterColourEnd req c tag) s (fun h => h.plan.colourCommands = s.hub.plan.colourCommands ++ [(c.val, 2)] ∧ h.busyWith c
    0x0401 tag.toNat ∧ h.plan.force = s.hub.plan.force)) ∧
  (∀ (s : State) (p : Fin 3) (active next : Fin 8) (seq : Byte) (eff : Word) (origin : BitVec 48), s.hub.live → s.hub.followPort
    = some p.val → s.hub.isArmed eff.toNat seq.toNat = false → s.hub.plan.lastArmed ≠ some (seq.toNat, eff.toNat) → Completes
    (.announce ⟨p, true⟩ active next seq eff origin) s (fun h => (s.hub.plan.pending = none → h.plan.pending = some (next.val,
    eff.toNat, seq.toNat) ∧ h.plan.switchSeq = seq.toNat) ∧ (s.hub.plan.pending ≠ none → h.plan.pending = s.hub.plan.pending ∧
    h.plan.armedNext = s.hub.plan.armedNext ++ [(next.val, eff.toNat, seq.toNat)]) ∧ (h.plan.rootOrigin = origin.toNat ∧ ∀ q ∈
    s.hub.downLinks, h.sentBlock s.hub q (planBytes pkAnnounce active next 1 0 seq.toNat eff.toNat origin.toNat)))) ∧
  (∀ (s : State) (p : Fin 3) (active next : Fin 8) (seq : Byte) (eff : Word) (origin : BitVec 48), s.hub.live → s.hub.followPort
    = some p.val → s.hub.plan.pending = none → s.hub.isArmed eff.toNat seq.toNat = false → s.hub.plan.lastArmed ≠ some
    (seq.toNat, eff.toNat) → Completes (.statusBlock ⟨p, true⟩ active next true seq eff origin) s (fun h => h.plan.pending = some
    (next.val, eff.toNat, seq.toNat) ∧ h.plan.switchSeq = seq.toNat ∧ h.plan.rootOrigin = origin.toNat)) ∧
  (∀ (s : State) (p : Fin 3) (active next : Fin 8) (seq : Byte) (eff : Word) (origin : BitVec 48), s.hub.live → s.hub.followPort
    = some p.val → s.hub.plan.pending = none → active.val ≠ s.hub.plan.activePlan → Completes (.statusBlock ⟨p, true⟩ active next
    false seq eff origin) s (fun h => h.plan.pending = some (active.val, (s.hub.links.sf + 1) % 2 ^ 32, seq.toNat) ∧
    h.plan.rootOrigin = origin.toNat)) ∧
  (∀ (s : State) (p : Fin 3) (active next : Fin 8) (seq : Byte) (eff : Word) (origin : BitVec 48), s.hub.live → s.hub.followPort
    = some p.val → s.hub.plan.pending = none → active.val = s.hub.plan.activePlan → Completes (.statusBlock ⟨p, true⟩ active next
    false seq eff origin) s (fun h => h.plan.pending = none ∧ h.plan.switchSeq = seq.toNat ∧ h.plan.activePlan =
    s.hub.plan.activePlan)) ∧
  (∀ (s : State) (p : Fin 3) (active next : Fin 8) (seq : Byte) (eff : Word) (origin : BitVec 48) (n e : Nat), s.hub.live →
    s.hub.upEnd p = true → s.hub.followPort = none → s.hub.plan.pending = some (n, e, seq.toNat) → sfAhead e s.hub.links.sf =
    true → origin ∉ s.hub.plan.acks → Completes (.ackBlock ⟨p, true⟩ active next seq eff origin) s (fun h => h.plan.acks =
    s.hub.plan.acks ++ [origin] ∧ h.plan.pending = s.hub.plan.pending)) ∧
  (∀ (s : State) (p : Fin 3) (active next : Fin 8) (seq : Byte) (eff : Word) (origin : BitVec 48) (q : Nat), s.hub.live →
    s.hub.upEnd p = true → s.hub.followPort = some q → s.hub.running q = true → Completes (.ackBlock ⟨p, true⟩ active next seq
    eff origin) s (fun h => h.plan = s.hub.plan ∧ h.sentBlock s.hub q (planBytes pkAck active next 1 0 seq.toNat eff.toNat
    origin.toNat))) ∧
  (∀ (s : State) (p : Fin 3) (hubs : Fin 16), s.hub.live → p.val < 2 → s.hub.upEnd p = true → s.hub.running p = true → Completes
    (.countBlock ⟨p, true⟩ hubs) s (fun h => (h.plan.hubs.get 0 p = hubs.val ∧ h.links.chainCount = if s.hub.isRoot then 1 + b2n
    (s.hub.running 2) + h.hubsBelow else 1))) ∧
  (∀ (s : State) (p : Fin 3) (hubs : Fin 16), s.hub.live → Completes (.countBlock ⟨p, false⟩ hubs) s (fun h => (h.link
    p).ctrlCrc = (s.hub.link p).ctrlCrc + 1 ∧ bit 6 (h.reg (Rg.linkFlags p)) = true ∧ h.plan = s.hub.plan ∧ h.links.chainCount =
    s.hub.links.chainCount)) ∧
  (∀ (s : State), s.hub.live → 0 < s.hub.plan.announceLeft → Completes (.announceRepeat) s (fun h => (h.plan.announceLeft =
    s.hub.plan.announceLeft - 1 ∧ ∀ q ∈ s.hub.downLinks, h.sentBlock s.hub q (s.hub.planBlockOf pkAnnounce ownOrigin)))) ∧
  (∀ (s : State) (n e q : Nat), s.hub.live → s.hub.plan.pending = some (n, e, q) → s.hub.plan.late = none → sfAhead e
    s.hub.links.sf = false → Completes (.planSwitched) s (fun h => h.plan.activePlan = n ∧ h.plan.pending =
    s.hub.plan.armedNext.head? ∧ h.plan.lastSwitchSf = s.hub.links.sf ∧ h.plan.acks = [] ∧ bit 0 (h.reg Rg.planFlags) = true ∧
    ((s.hub.plan.command = none → h.raised Ev.planSwitched (u8 s.hub.plan.activePlan ++ u8 n ++ u32 s.hub.links.sf))))) ∧
  (∀ (s : State) (f : Nat), s.hub.live → s.hub.plan.startup = true → s.hub.plan.startupFrom = some f → sfPassed f s.hub.links.sf
    (s.hub.val Od.planBlindHold) = true → Completes (.blindWindowEnd 0) s (fun h => h.plan.startup = false ∧ h.plan.startupFrom =
    none ∧ h.plan.reasonsInForce = h.blindReasons)) ∧
  (∀ (s : State) (f : Nat), s.hub.live → s.hub.plan.swapWindow = some f → sfPassed f s.hub.links.sf (s.hub.val Od.planBlindHold)
    = true → Completes (.blindWindowEnd 1) s (fun h => h.plan.swapWindow = none ∧ h.plan.reasonsInForce = h.blindReasons)) ∧
  (∀ (s : State) (w : Fin 5), s.hub.live → 2 ≤ w.val → s.hub.plan.retrain.get 0 (w.val - 2) ≠ 0 → sfPassed
    (s.hub.plan.retrain.get 0 (w.val - 2) - 1) s.hub.links.sf (s.hub.val Od.planBlindHold) = true → Completes (.blindWindowEnd w)
    s (fun h => h.plan.retrain.get 0 (w.val - 2) = 0 ∧ h.plan.reasonsInForce = h.blindReasons))

/-- What a superframe start and BEACON blocks do to the count, the epoch and the alignment. SUPERFRAME_START with no turn of a
dual-homed hub due: the count advances modulo 2^32, the epoch with it when the count comes to 0, lanes that wait for the
boundary join, and block 0 has not been decoded. A BEACON block with a good CRC, on any port and in any link state, aligns
its link. The first one of a superframe on the port followed, without a sample and with the count expected, is noted as
decoded and leaves the count; one on a port that the hub neither follows nor counts by, or with the count expected there,
leaves count and decoding. On the port it counts by but does not follow (a retrain out of FOGHORN), another count than
expected is taken, one less, with SF_SLIP's flag and event. One with a wrong CRC is counted, sets CTRL_CRC, and changes
neither alignment nor count. -/
def Obligations.SuperframesStartAndBeaconsAlignThem : Prop :=
  (∀ (s : State), s.hub.live → s.hub.pair.turnTo = none → Completes (.superframeStart) s (fun h => h.links.sf = (s.hub.links.sf
    + 1) % 2 ^ 32 ∧ h.bcn.decoded = false ∧ h.bcn.sample = none ∧ (h.link 0).joining = [] ∧ (h.link 1).joining = [] ∧ (h.link
    2).joining = [] ∧ (h.bcn.sfEpoch = if (s.hub.links.sf + 1) % 2 ^ 32 = 0 then (s.hub.bcn.sfEpoch + 1) % 2 ^ 32 else
    s.hub.bcn.sfEpoch))) ∧
  (∀ (s : State) (p : Fin 3) (sf : Word) (valid : Fin 8) (ground : Word) (shaft0 shaft1 : BitVec 18) (lapse : Word), s.hub.live
    → s.hub.followPort = some p.val → s.hub.bcn.decoded = false → sf.toNat = (s.hub.links.sf + 1) % 2 ^ 32 → Completes (.beacon p
    sf false valid ground shaft0 shaft1 true lapse) s (fun h => h.bcn.decoded = true ∧ h.bcn.undecoded = 0 ∧ (h.link p).aligned =
    true ∧ h.links.sf = s.hub.links.sf)) ∧
  (∀ (s : State) (p : Fin 3) (sf : Word) (sample : Bool) (valid : Fin 8) (ground : Word) (shaft0 shaft1 : BitVec 18) (lapse :
    Word), s.hub.live → s.hub.followPort ≠ some p.val → (s.hub.followPort = none → s.hub.countPort = some p.val → sf.toNat =
    (s.hub.links.sf + 1) % 2 ^ 32) → Completes (.beacon p sf sample valid ground shaft0 shaft1 true lapse) s (fun h => (h.link
    p).aligned = true ∧ h.links.sf = s.hub.links.sf ∧ h.bcn.decoded = s.hub.bcn.decoded)) ∧
  (∀ (s : State) (p : Fin 3) (sf : Word) (sample : Bool) (valid : Fin 8) (ground : Word) (shaft0 shaft1 : BitVec 18) (lapse :
    Word), s.hub.live → s.hub.followPort = none → s.hub.countPort = some p.val → sf.toNat ≠ (s.hub.links.sf + 1) % 2 ^ 32 →
    Completes (.beacon p sf sample valid ground shaft0 shaft1 true lapse) s (fun h => h.links.sf = gap 32 sf.toNat 1 ∧ bit 5
    (h.reg (Rg.linkFlags p)) = true ∧ h.raised Ev.sfSlip (u8 p))) ∧
  (∀ (s : State) (p : Fin 3) (sf : Word) (sample : Bool) (valid : Fin 8) (ground : Word) (shaft0 shaft1 : BitVec 18) (lapse :
    Word), s.hub.live → Completes (.beacon p sf sample valid ground shaft0 shaft1 false lapse) s (fun h => (h.link p).ctrlCrc =
    (s.hub.link p).ctrlCrc + 1 ∧ bit 6 (h.reg (Rg.linkFlags p)) = true ∧ (h.link p).aligned = (s.hub.link p).aligned ∧ h.links.sf
    = s.hub.links.sf))

/-- What PFC frames and timers, mirror frames, the sweep, the scrubber, and the CLS, ECC_INJECT and SCRUB commands leave. A PFC
frame on an ETH port with PFC_ENABLE sets each priority of its mask paused where its time is not 0 and resumed where it is,
the others as they were; with PFC_ENABLE 0 it is counted and pauses nothing. A refresh repeats the frame of the priorities
that the hub has paused, with none it does nothing. A pause that expires ends, of that priority alone. PFC_STUCK flags and
raises the paused priorities whose class an egress queue serves; with none, the lines standing, nothing changes. A mirror
frame that closes with a copy joins its queue with the session's DEST and the session's frame is empty. The end of the sweep
changes nothing else of the switch. Where one word alone is damaged: the scrubber corrects it with one or two bad bits and
counts it; beyond two it counts it as uncorrectable, flags it, keeps its address and raises it (R261). SCRUB_NOW, outside
FOGHORN's retention, ends with what it corrected. CLS_WRITE with arguments that pass writes each entry, with the tunnel's
class, and CLS_CLEAR leaves none valid in its range and every other entry as it was, each ending with a count; CLS_READ gives
the images and changes none. ECC_INJECT, in BENCH, arms the next write of a region in place of an injection armed there. -/
def Obligations.SwitchRowsFollowFlowControlAndClassification : Prop :=
  (∀ (s : State) (n : Fin 8) (mask : Byte) (times : List (BitVec 16)), s.hub.live → s.hub.val (Od.ingPfcEnable (n + 3)) ≠ 0 →
    Completes (.pfcFrame n mask times) s (fun h => (∀ p : Fin 8, bit p (h.sw.paused.get 0 n) = if bit p mask.toNat then decide
    (times.getD p 0 ≠ 0) else bit p (s.hub.sw.paused.get 0 n)) ∧ h.sw.pfcIgnored = s.hub.sw.pfcIgnored)) ∧
  (∀ (s : State) (n : Fin 8) (mask : Byte) (times : List (BitVec 16)), s.hub.live → s.hub.val (Od.ingPfcEnable (n + 3)) = 0 →
    Completes (.pfcFrame n mask times) s (fun h => h.sw.paused = s.hub.sw.paused ∧ h.sw.pfcIgnored.get 0 n =
    s.hub.sw.pfcIgnored.get 0 n + 1)) ∧
  (∀ (s : State) (n : Fin 8), s.hub.live → s.hub.sw.pfcSent.get 0 (n + 3) ≠ 0 → s.hub.val (Od.ingPfcEnable (n + 3)) ≠ 0 →
    Completes (.pfcRefresh n) s (fun h => h.gave s.hub (.frame (0x10 + n) (s.hub.pfcFrame (n + 3) (s.hub.sw.pfcSent.get 0 (n +
    3)) (s.hub.sw.pfcSent.get 0 (n + 3)))) ∧ h.sw = s.hub.sw)) ∧
  (∀ (s : State) (n : Fin 8), s.hub.live → s.hub.sw.pfcSent.get 0 (n + 3) = 0 → Completes (.pfcRefresh n) s (fun h => h.sw =
    s.hub.sw ∧ h.od = s.hub.od)) ∧
  (∀ (s : State) (n p : Fin 8), s.hub.live → Completes (.pfcPauseExpiry n p) s (fun h => (bit p (h.sw.paused.get 0 n) = false ∧
    ∀ q : Fin 8, q ≠ p → bit q (h.sw.paused.get 0 n) = bit q (s.hub.sw.paused.get 0 n)))) ∧
  (∀ (s : State) (n : Fin 8), s.hub.live → s.hub.pausing n ≠ 0 → Completes (.pfcStuck n) s (fun h => bit 7 (h.reg Rg.swFlags) =
    true ∧ h.raised Ev.pfcStuck (u8 n ++ u8 (s.hub.pausing n)) ∧ h.sw = s.hub.sw)) ∧
  (∀ (s : State) (n : Fin 8), s.hub.live → s.hub.pausing n = 0 → s.hub.linesStand → Completes (.pfcStuck n) s (fun h => h =
    s.hub)) ∧
  (∀ (s : State) (m : Fin 4), s.hub.live → (s.hub.mirror m).count ≠ 0 → Completes (.mirrorFrameClose m) s (fun h => (h.mirror
    m).count = 0 ∧ (h.mirror m).cells = [] ∧ (h.mirror m).yellow = false ∧ h.sw.mirrorQ = s.hub.sw.mirrorQ ++ [⟨s.hub.val
    (Od.mirDest m), m, s.hub.mirrorFrame m (s.hub.mirror m).cells (s.hub.mirror m).yellow (s.hub.mirror m).skipRun (s.hub.mirror
    m).count (s.hub.mirrorMax m), mirrorWords (32 * (s.hub.mirror m).count), (s.hub.mirror m).count⟩])) ∧
  (∀ (s : State), s.hub.live → Completes (.sweepComplete) s (fun h => h.sw = { s.hub.sw with sweep := false })) ∧
  (∀ (s : State) (d : Nat × Nat × Nat), s.hub.live → s.hub.sw.damaged = [d] → d.2.2 ≤ 2 → (∀ b ∈ s.hub.allCells, b.damage = 0 ∧
    b.descDamage = 0) → (∀ j ∈ s.hub.allJobs, j.damage = 0) → Completes (.scrubPass) s (fun h => h.sw.damaged = [] ∧ h.val
    Od.eccCeCount = trunc 32 (s.hub.val Od.eccCeCount + 1) ∧ h.val Od.eccUeCount = s.hub.val Od.eccUeCount)) ∧
  (∀ (s : State) (d : Nat × Nat × Nat), s.hub.live → s.hub.sw.damaged = [d] → 2 < d.2.2 → (∀ b ∈ s.hub.allCells, b.damage = 0 ∧
    b.descDamage = 0) → (∀ j ∈ s.hub.allJobs, j.damage = 0) → Completes (.scrubPass) s (fun h => h.sw.ueAddr = d.2.1 ∧
    h.sw.ueInfo = d.1 ∧ h.val Od.eccUeCount = trunc 32 (s.hub.val Od.eccUeCount + 1) ∧ bit 6 (h.reg Rg.swFlags) = true ∧ h.raised
    Ev.eccUncorrectable (u32 d.2.1 ++ u8 d.1 ++ u8 0))) ∧
  (∀ (s : State) (req : Path) (c : Fin 8) (tag : BitVec 16) (d : Nat × Nat × Nat), s.hub.takes req c 0x0604 → s.hub.inFog =
    false → s.hub.sw.damaged = [d] → d.2.2 ≤ 2 → (∀ b ∈ s.hub.allCells, b.damage = 0 ∧ b.descDamage = 0) → (∀ j ∈ s.hub.allJobs,
    j.damage = 0) → Completes (.scrubNow req c tag []) s (fun h => h.sw.damaged = [] ∧ h.ended c 0x0604 tag.toNat 0 (u32 1 ++ u32
    0))) ∧
  (∀ (s : State) (req : Path) (c : Fin 8) (tag : BitVec 16) (args : Bytes), s.hub.takes req c 0x0600 → s.hub.inFog = false →
    s.hub.clsWriteArgs args = none → Completes (.clsWrite req c tag args) s (fun h => h.ended c 0x0600 tag.toNat 0 (u16 (field
    args 2 1)) ∧ h.gave s.hub (.answer req 0 []) ∧ (∀ k < field args 2 1, h.sw.cls.get ClsEntry.init (field args 0 2 + k) = if
    bit 31 (field args (4 + 16 * k) 4) then ⟨true, clsBytes ((args.drop (4 + 16 * k)).take 16) (s.hub.ctx (field args (4 + 16 *
    k) 1)).clsNow⟩ else ClsEntry.init))) ∧
  (∀ (s : State) (req : Path) (c : Fin 8) (tag : BitVec 16) (args : Bytes), s.hub.takes req c 0x0601 → s.hub.inFog = false →
    args.length = 4 → field args 2 2 ≠ 0 → field args 0 2 + field args 2 2 ≤ 8192 → Completes (.clsClear req c tag args) s (fun h
    => h.clsValidIn (field args 0 2) (field args 2 2) = [] ∧ h.ended c 0x0601 tag.toNat 0 (u16 (s.hub.clsValidIn (field args 0 2)
    (field args 2 2)).length) ∧ (∀ k < 8192, k < field args 0 2 ∨ field args 0 2 + field args 2 2 ≤ k → h.sw.cls.get
    ClsEntry.init k = s.hub.sw.cls.get ClsEntry.init k))) ∧
  (∀ (s : State) (req : Path) (c : Fin 8) (tag : BitVec 16) (args : Bytes), s.hub.takes req c 0x0602 → s.hub.inFog = false →
    args.length = 3 → 1 ≤ field args 2 1 ∧ field args 2 1 ≤ 15 → field args 0 2 + field args 2 1 ≤ 8192 → s.hub.sw.damaged = [] →
    Completes (.clsRead req c tag args) s (fun h => h.sw = s.hub.sw ∧ h.ended c 0x0602 tag.toNat 0 ((List.range (field args 2
    1)).map (fun k => (s.hub.sw.cls.get ClsEntry.init (field args 0 2 + k)).image)).flatten)) ∧
  (∀ (s : State) (req : Path) (c : Fin 8) (tag : BitVec 16) (args : Bytes), s.hub.takes req c 0x0603 → s.hub.mode.active =
    .bench → args.length = 2 → field args 0 1 ≤ 5 → 1 ≤ field args 1 1 ∧ field args 1 1 ≤ 3 → Completes (.eccInject req c tag
    args) s (fun h => h.sw.inject = s.hub.sw.inject.filter (fun x => decide (x.1 ≠ field args 0 1)) ++ [(field args 0 1, field
    args 1 1)] ∧ h.ended c 0x0603 tag.toNat 0 []))

/-- What encoder edges, standstill, segment starts and CLOCK_LO reads leave. An edge report of an input that is not OFF. In
QUADRATURE two changed levels are a quadrature error and no count; one changed level counts one, forward where A leads B,
reversed by INVERT. In PULSE a rising edge of A counts one, back with INVERT. Unchanged A and B with no rising Z change
nothing but Z's level. In QUADRATURE a count of the running input that feeds GROUND moves GROUND's position by SCALE with the
count's sign. BCN_STANDSTILL of a bearing with a source that moves: V is 0, X_e stays (DEDUCED, logged: X is X_e at
standstill), the direction reads standstill, flag and event are set. A segment start takes the next superframe of CLOCK,
which stands no earlier than its start; a VALID bearing whose points for it are there, the first one valid, runs from the end
of the one before to the next point; with the next point missing, up to MAX_HOLDOVER, it is in HOLDOVER, flagged; a held one
beyond MAX_HOLDOVER is LOST, its segment flat, flagged away from the source. A read of CLOCK_LO gives the low word of CLOCK
in ns and latches CLOCK_HI and the three bearings of that instant. -/
def Obligations.EncodersCountAndBearingsMove : Prop :=
  (∀ (s : State) (n : Fin 8) (a b z : Bool) (lapse : Word), s.hub.live → (s.hub.encoder n).state ≠ .off → s.hub.val (Od.encMode
    n) = 1 → (s.hub.encoder n).levelA ≠ a → (s.hub.encoder n).levelB ≠ b → Completes (.encoderEdge n a b z lapse) s (fun h =>
    (h.encoder n).count = (s.hub.encoder n).count ∧ (h.encoder n).qerr = trunc 32 ((s.hub.encoder n).qerr + 1) ∧ (h.encoder
    n).levelA = a ∧ (h.encoder n).levelB = b ∧ (h.encoder n).levelZ = z)) ∧
  (∀ (s : State) (n : Fin 8) (a b z : Bool) (lapse : Word), s.hub.live → (s.hub.encoder n).state ≠ .off → s.hub.val (Od.encMode
    n) = 1 → (s.hub.encoder n).levelA ≠ a → (s.hub.encoder n).levelB = b → Completes (.encoderEdge n a b z lapse) s (fun h =>
    (h.encoder n).count = (s.hub.encoder n).count + (if (decide (a ≠ b) != decide (s.hub.val (Od.encInvert n) = 1)) = true then 1
    else -1) ∧ (h.encoder n).qerr = (s.hub.encoder n).qerr ∧ (h.encoder n).levelA = a ∧ (h.encoder n).levelB = b ∧ (h.encoder
    n).levelZ = z)) ∧
  (∀ (s : State) (n : Fin 8) (a b z : Bool) (lapse : Word), s.hub.live → (s.hub.encoder n).state ≠ .off → s.hub.val (Od.encMode
    n) = 1 → (s.hub.encoder n).levelA = a → (s.hub.encoder n).levelB ≠ b → Completes (.encoderEdge n a b z lapse) s (fun h =>
    (h.encoder n).count = (s.hub.encoder n).count + (if (decide (a = b) != decide (s.hub.val (Od.encInvert n) = 1)) = true then 1
    else -1) ∧ (h.encoder n).qerr = (s.hub.encoder n).qerr ∧ (h.encoder n).levelA = a ∧ (h.encoder n).levelB = b ∧ (h.encoder
    n).levelZ = z)) ∧
  (∀ (s : State) (n : Fin 8) (b z : Bool) (lapse : Word), s.hub.live → (s.hub.encoder n).state ≠ .off → s.hub.val (Od.encMode n)
    = 3 → (s.hub.encoder n).levelA = false → Completes (.encoderEdge n true b z lapse) s (fun h => (h.encoder n).count =
    (s.hub.encoder n).count + (if s.hub.val (Od.encInvert n) = 1 then -1 else 1) ∧ (h.encoder n).qerr = (s.hub.encoder n).qerr)) ∧
  (∀ (s : State) (n : Fin 8) (z : Bool) (lapse : Word), s.hub.live → (z = true → (s.hub.encoder n).levelZ = true) → Completes
    (.encoderEdge n (s.hub.encoder n).levelA (s.hub.encoder n).levelB z lapse) s (fun h => h.encoder n =
    { s.hub.encoder n with levelZ := z } ∧ h.bcn.bearings = s.hub.bcn.bearings)) ∧
  (∀ (s : State) (n : Fin 8) (a : Bool) (lapse : Word), s.hub.live → (s.hub.encoder n).state = .running → s.hub.val (Od.encMode
    n) = 1 → (s.hub.encoder n).levelA ≠ a → s.hub.feeds n = some 0 → s.hub.estimates = true → Completes (.encoderEdge n a
    (s.hub.encoder n).levelB false lapse) s (fun h => (h.bearing 0).pos = (s.hub.bearing 0).pos + (if (decide (a ≠ (s.hub.encoder
    n).levelB) != decide (s.hub.val (Od.encInvert n) = 1)) = true then 1 else -1) * (s.hub.val (Od.encScale n) : Int))) ∧
  (∀ (s : State) (b : Fin 3), s.hub.live → s.hub.estimates = true → (s.hub.bearing b).inputInUse.isSome = true → (s.hub.bearing
    b).still = false → Completes (.bcnStandstill b) s (fun h => (h.bearing b).vNum = 0 ∧ (h.bearing b).still = true ∧ (h.bearing
    b).xe = (s.hub.bearing b).xe ∧ h.bearingDir b = 0 ∧ bit 1 (h.reg Rg.bcnFlags) = true ∧ h.raised Ev.bcnStandstill (u8 b))) ∧
  (∀ (s : State) (f : Nat), s.hub.live → f + 2 = max (s.hub.bcn.seg + 1) (s.hub.clock / sfUnits) → Completes
    (.bearingSegmentStart) s (fun h => h.bcn.seg = f + 2 ∧ h.clock = max s.hub.clock ((f + 2) * sfUnits))) ∧
  (∀ (s : State) (f : Nat) (b : Fin 3) (p : Int) (q : Int × Bool), s.hub.live → f + 2 = max (s.hub.bcn.seg + 1) (s.hub.clock /
    sfUnits) → (s.hub.bearing b).state = .valid → pointOf f (s.hub.bearing b).points = some (p, true) → pointOf (f + 1)
    (s.hub.bearing b).points = some q → Completes (.bearingSegmentStart) s (fun h => (h.bearing b).from_ = (s.hub.bearing b).to_
    ∧ (h.bearing b).to_ = q.1 ∧ (h.bearing b).state = .valid ∧ (h.bearing b).missing = 0)) ∧
  (∀ (s : State) (f : Nat) (b : Fin 3) (p : Int), s.hub.live → f + 2 = max (s.hub.bcn.seg + 1) (s.hub.clock / sfUnits) →
    (s.hub.bearing b).state = .valid → pointOf f (s.hub.bearing b).points = some (p, true) → pointOf (f + 1) (s.hub.bearing
    b).points = none → (s.hub.bearing b).missing + 1 ≤ s.hub.val Od.bcnMaxHoldover → Completes (.bearingSegmentStart) s (fun h =>
    (h.bearing b).state = .holdover ∧ (h.bearing b).from_ = (s.hub.bearing b).to_ ∧ (h.bearing b).missing = (s.hub.bearing
    b).missing + 1 ∧ bit 4 (h.reg Rg.bcnFlags) = true)) ∧
  (∀ (s : State) (f : Nat) (b : Fin 3), s.hub.live → f + 2 = max (s.hub.bcn.seg + 1) (s.hub.clock / sfUnits) → (s.hub.bearing
    b).state = .holdover → pointOf (f + 1) (s.hub.bearing b).points = none → s.hub.val Od.bcnMaxHoldover < (s.hub.bearing
    b).missing + 1 → Completes (.bearingSegmentStart) s (fun h => (h.bearing b).state = .lost ∧ (h.bearing b).from_ =
    (s.hub.bearing b).to_ ∧ (h.bearing b).to_ = (s.hub.bearing b).to_ ∧ ((s.hub.isSource = false → bit 5 (h.reg Rg.bcnFlags) =
    true)))) ∧
  (∀ (s : State), s.hub.live → Completes (.clockLoRead) s (fun h => (h.gave s.hub (.value (trunc 32 s.hub.ns)) ∧ h.bcn.latchedHi
    = s.hub.ns / 2 ^ 32 % 2 ^ 32 ∧ ∀ b : Fin 3, h.bcn.latchedBearing.get 0 b = ofSigned 64 (s.hub.bearingAt b s.hub.clock))))

/-- What delay probes, TIMEBASE_LOCK, BEARING_RESTORE, BEACON_CAPTURE and PROBE_NOW leave. A good probe request on a RUNNING link
is answered with its sequence, UP_LOCKED and, downstream, S, by a block that leaves in this superframe where R124 still lets
one leave and is deferred otherwise (TURN is free; R124's limit: log 66). With no command waiting behind it, a good response
of the outstanding sequence ends the exchange, gives the round trip less TURN, OFFSET and UP_LOCKED; its value enters the
filter within 2 ns of the mean, or as the first; further off it is counted, flagged and kept apart, and the fourth in a row
starts the filter anew. One of another sequence changes no probe; one with a wrong CRC is counted. TIMEBASE_LOCK, R294's
conditions met: an error of 0 or more is added at once and the timebase is LOCKED and says so; a negative one is absorbed at
half rate first (log 35). Outside ACQUIRING it does nothing. BEARING_RESTORE at the hub of the encoders ends at once with the
bearing's state where its source is not lost, and else runs 10 ms, a fault of its primary input cleared. BEACON_CAPTURE from
1 us to 10 s ahead waits; at AT it ends with the values of that instant. PROBE_NOW sends one probe where R124 lets it and
runs on, or waits behind another; its timeout ends it with OPERATION_FAILED detail 1, the filter as it was, and the next one
goes on. -/
def Obligations.ProbesMeasureAndTheTimebaseLocks : Prop :=
  (∀ (s : State) (p : Fin 3) (seq : Fin 16), s.hub.live → s.hub.running p = true → (s.hub.link p).paced < s.hub.paceLimit p →
    Completes (.delayProbeRequest ⟨p, true⟩ seq) s (fun h => (∃ turn, h.sentBlock s.hub p (probeBytes true (s.hub.isRoot ||
    decide (s.hub.bcn.timebase = .locked)) seq turn (if s.hub.upEnd p then s.hub.offsetS else 0))) ∧ h.bcn = s.hub.bcn ∧ (h.link
    p).paced = (s.hub.link p).paced + 1)) ∧
  (∀ (s : State) (p : Fin 3) (seq : Fin 16), s.hub.live → s.hub.running p = true → s.hub.paceLimit p ≤ (s.hub.link p).paced →
    s.hub.linesStand → Completes (.delayProbeRequest ⟨p, true⟩ seq) s (fun h => (h.out = s.hub.out ∧ h.bcn = s.hub.bcn ∧ ∃ n
    turn, (h.link p).deferred = (s.hub.link p).deferred ++ [(n, probeBytes true (s.hub.isRoot || decide (s.hub.bcn.timebase =
    .locked)) seq turn (if s.hub.upEnd p then s.hub.offsetS else 0))]))) ∧
  (∀ (s : State) (p : Fin 3) (seq : Fin 16) (upLocked : Bool) (turn offset lapse : Word) (t1 : Nat), s.hub.live → (s.hub.probe
    p).out = some (seq.val, t1) → (s.hub.probe p).commands = [] → Completes (.delayProbeResponse ⟨p, true⟩ seq upLocked turn
    offset lapse) s (fun h => (h.probe p).out = none ∧ (h.probe p).command = none ∧ (h.probe p).lastRtt = ofSigned 32
    ((((s.hub.pass lapse.toNat).clock - t1 : Nat) : Int) - turn.toNat) ∧ (h.probe p).farOffset = offset.toNat ∧ (h.probe
    p).upLocked = upLocked)) ∧
  (∀ (s : State) (p : Fin 3) (seq : Fin 16) (upLocked : Bool) (turn offset lapse : Word) (t1 : Nat) (v : Int), s.hub.live →
    (s.hub.probe p).out = some (seq.val, t1) → (s.hub.probe p).commands = [] → v = 5 * ((((s.hub.pass lapse.toNat).clock - t1 :
    Nat) : Int) - turn.toNat) + toSigned 32 (s.hub.val (Od.prbAsymTrim p)) → (s.hub.probe p).values = [] ∨ (v - (s.hub.probe
    p).mean).natAbs ≤ 200 → Completes (.delayProbeResponse ⟨p, true⟩ seq upLocked turn offset lapse) s (fun h => (h.probe
    p).values = (v :: (s.hub.probe p).values).take (s.hub.val (Od.prbProbeAvg p)) ∧ (h.probe p).rejects = [])) ∧
  (∀ (s : State) (p : Fin 3) (seq : Fin 16) (upLocked : Bool) (turn offset lapse : Word) (t1 : Nat) (v : Int), s.hub.live →
    (s.hub.probe p).out = some (seq.val, t1) → (s.hub.probe p).commands = [] → v = 5 * ((((s.hub.pass lapse.toNat).clock - t1 :
    Nat) : Int) - turn.toNat) + toSigned 32 (s.hub.val (Od.prbAsymTrim p)) → (s.hub.probe p).values ≠ [] → 200 < (v -
    (s.hub.probe p).mean).natAbs → Completes (.delayProbeResponse ⟨p, true⟩ seq upLocked turn offset lapse) s (fun h => (if
    (s.hub.probe p).rejects.length < 3 then (h.probe p).values = (s.hub.probe p).values ∧ (h.probe p).rejects = v :: (s.hub.probe
    p).rejects else (h.probe p).values = v :: (s.hub.probe p).rejects ∧ (h.probe p).rejects = []) ∧ h.val (Od.prbProbesRejected
    p) = trunc 32 (s.hub.val (Od.prbProbesRejected p) + 1) ∧ bit 7 (h.reg Rg.bcnFlags) = true)) ∧
  (∀ (s : State) (p : Fin 3) (seq : Fin 16) (upLocked : Bool) (turn offset lapse : Word), s.hub.live → (∀ t ∈ (s.hub.probe
    p).out, t.1 ≠ seq.val) → Completes (.delayProbeResponse ⟨p, true⟩ seq upLocked turn offset lapse) s (fun h => h.bcn.probes =
    s.hub.bcn.probes ∧ h.ctl = s.hub.ctl)) ∧
  (∀ (s : State) (p : Fin 3) (seq : Fin 16) (upLocked : Bool) (turn offset lapse : Word), s.hub.live → Completes
    (.delayProbeResponse ⟨p, false⟩ seq upLocked turn offset lapse) s (fun h => (h.link p).ctrlCrc = (s.hub.link p).ctrlCrc + 1 ∧
    bit 6 (h.reg (Rg.linkFlags p)) = true ∧ h.bcn.probes = s.hub.bcn.probes)) ∧
  (∀ (s : State) (p : Nat) (e : Int), s.hub.live → s.hub.followPort = some p → s.hub.bcn.correction = some e →
    s.hub.bcn.timebase = .acquiring → 4 ≤ s.hub.bcn.acceptedRun → (s.hub.probe p).upLocked = true → s.hub.bcn.sampleFull = true →
    s.hub.bcn.slew = 0 → 0 ≤ e → Completes (.timebaseLock) s (fun h => (h.bcn.timebase = .locked ∧ h.bcn.correction = none ∧
    h.clock = s.hub.clock + e.toNat ∧ (e ≠ 0 → h.bcn.lastStep = Int.tdiv e 10 ∧ bit 6 (h.reg Rg.bcnFlags) = true)) ∧ h.raised
    Ev.bcnLocked (u8 p))) ∧
  (∀ (s : State) (p : Nat) (e : Int), s.hub.live → s.hub.followPort = some p → s.hub.bcn.correction = some e →
    s.hub.bcn.timebase = .acquiring → 4 ≤ s.hub.bcn.acceptedRun → (s.hub.probe p).upLocked = true → s.hub.bcn.sampleFull = true →
    s.hub.bcn.slew = 0 → e < 0 → Completes (.timebaseLock) s (fun h => h.bcn.timebase = .acquiring ∧ h.bcn.correction = some 0 ∧
    h.bcn.slew = 2 * e.natAbs ∧ h.clock = s.hub.clock ∧ h.bcn.lastStep = Int.tdiv e 10 ∧ bit 6 (h.reg Rg.bcnFlags) = true)) ∧
  (∀ (s : State), s.hub.live → s.hub.bcn.timebase ≠ .acquiring → Completes (.timebaseLock) s (fun h => h.bcn = s.hub.bcn ∧
    h.clock = s.hub.clock)) ∧
  (∀ (s : State) (req : Path) (c : Fin 8) (tag : BitVec 16) (b : Byte), s.hub.takes req c 0x0700 → b.toNat ≤ 2 → s.hub.isSource
    = true → s.hub.sourceLost b.toNat = false → Completes (.bearingRestore req c tag [b]) s (fun h => h.ended c 0x0700 tag.toNat
    0 (u8 (s.hub.bearingState b.toNat).code) ∧ h.bcn = s.hub.bcn)) ∧
  (∀ (s : State) (req : Path) (c : Fin 8) (tag : BitVec 16) (b : Byte), s.hub.takes req c 0x0700 → b.toNat ≤ 2 → s.hub.isSource
    = true → s.hub.sourceLost b.toNat = true → Completes (.bearingRestore req c tag [b]) s (fun h => h.busyWith c 0x0700
    tag.toNat ∧ h.bcn.restores = s.hub.bcn.restores ++ [(b.toNat, s.hub.clock + 100000000, c.val)] ∧ ((s.hub.val (Od.srcPrimary
    b.toNat) < 8 → (h.encoder (s.hub.val (Od.srcPrimary b.toNat))).state ≠ .faulted)))) ∧
  (∀ (s : State) (req : Path) (c : Fin 8) (tag : BitVec 16) (args : Bytes), s.hub.takes req c 0x0701 → args.length = 8 →
    s.hub.clock + 10000 ≤ field args 0 8 * 10 → field args 0 8 * 10 ≤ s.hub.clock + 100000000000 → Completes (.beaconCapture req
    c tag args) s (fun h => h.busyWith c 0x0701 tag.toNat ∧ h.bcn.captures = s.hub.bcn.captures ++ [⟨field args 0 8, c.val⟩])) ∧
  (∀ (s : State) (x : Capture), s.hub.live → s.hub.bcn.captures = [x] → x.channel < 8 → (s.hub.chan x.channel).state = .running
    → Completes (.beaconCaptureFire) s (fun h => h.clock = max s.hub.clock (x.at_ * 10) ∧ h.bcn.captures = [] ∧ h.ended x.channel
    (s.hub.chan x.channel).code (s.hub.chan x.channel).tag 0 (({ s.hub with clock := max s.hub.clock (x.at_ * 10) } :
    Hub).captureData x.at_))) ∧
  (∀ (s : State) (req : Path) (c : Fin 8) (tag : BitVec 16) (p : Fin 3), s.hub.takes req c 0x0702 → s.hub.running p = true →
    (s.hub.probe p).command = none → (s.hub.probe p).commands = [] → Completes (.probeNow req c tag [BitVec.ofNat 8 p]) s (fun h
    => (h.busyWith c 0x0702 tag.toNat ∧ (h.probe p).command = some c.val ∧ ((s.hub.link p).paced < s.hub.paceLimit p →
    h.sentBlock s.hub p (probeBytes false false (((s.hub.probe p).seq + 1) % 16) 0 0))))) ∧
  (∀ (s : State) (req : Path) (c : Fin 8) (tag : BitVec 16) (p : Fin 3) (other : Nat), s.hub.takes req c 0x0702 → s.hub.running
    p = true → (s.hub.probe p).command = some other → Completes (.probeNow req c tag [BitVec.ofNat 8 p]) s (fun h => h.busyWith c
    0x0702 tag.toNat ∧ h.probe p = { s.hub.probe p with commands := (s.hub.probe p).commands ++ [c.val] })) ∧
  (∀ (s : State) (p : Fin 3) (c : Nat), s.hub.live → (s.hub.probe p).command = some c → c < 8 → (s.hub.chan c).state = .running
    → Completes (.probeNowTimeout p) s (fun h => h.ended c (s.hub.chan c).code (s.hub.chan c).tag (abFailed 1) [] ∧ (h.probe
    p).command = (s.hub.probe p).commands.head? ∧ (h.probe p).commands = (s.hub.probe p).commands.tail ∧ (h.probe p).values =
    (s.hub.probe p).values))

/-- What DAYMARK_POST, the DM_POST window, LAMPCMD messages, DAYMARK_CANCEL and READ, and crossings do to the daymarks. Where no
state refuses, for one entry. An entry that passes the checks, whose crossing is ahead and not too near, is QUEUED in the
lowest free slot with a fresh handle, posted by command (which waits for its mirror record where one must be acknowledged),
by the DM_POST window or by a LAMPCMD message; a message of a tunnel that carries no answer counts it as unsent. One whose
position has passed is discarded, counted and flagged with LATE_DISCARD, and otherwise, as an EVENT, fires at once with LATE
and takes no slot. A check of R316 that fails refuses it with its code; no daymark changes; the window tells so in its
registers and raises DM_POST_DONE where enabled. A LAMPCMD message of a wrong length is counted and dropped. DAYMARK_CANCEL,
by command or message, frees a live handle's slot and clears the Lamp of a pulse that stands; too late it frees none; a stale
handle is refused. DAYMARK_READ gives the entry and whether its pulse stands. DAYMARK_FIRED of the first daymark: CLOCK is at
its instant and its slot free. An EVENT's record is raised, with HOLDOVER's flag; SET or CLEAR, no edge having gone ahead,
leaves an ACTIVE Lamp so from where its edge is placed on and is suppressed at another; late with LATE_DISCARD it is
discarded; an edge placed ahead of its crossing for a negative OFFSET keeps the slot (the order is logged). -/
def Obligations.DaymarksArePostedCancelledAndFired : Prop :=
  (∀ (s : State) (req : Path) (c : Fin 8) (tag : BitVec 16) (e : Bytes) (slot : Nat) (d : Daymark), s.hub.takes req c 0x0703 →
    e.length = 32 → s.hub.dmStates = none → s.hub.dmCheck e = none → dmReserved e = none → s.hub.slotFor = some slot → d = ⟨slot,
    0, e, false, none, none, 0, false, 0, none, none⟩ → s.hub.bearingNow d.bearing < d.target → (∀ i ∈ s.hub.crossingKnown
    d.bearing d.target, (s.hub.clock : Int) + 5000 ≤ (i : Int) + s.hub.lampOffset d) → Completes (.daymarkPost req c tag ([1, 0,
    0, 0] ++ e)) s (fun h => (∃ x ∈ h.dm.slots, x.slot = slot ∧ x.entry = e ∧ x.trailing = false ∧ x.source = none ∧ x.shadow =
    false ∧ if s.hub.mirroring = true ∧ s.hub.pair.inStep = true then h.busyWith c 0x0703 tag.toNat else h.ended c 0x0703
    tag.toNat 0 (dmItem x.handle 0 0)))) ∧
  (∀ (s : State) (req : Path) (c : Fin 8) (tag : BitVec 16) (e : Bytes) (slot : Nat) (d : Daymark), s.hub.takes req c 0x0703 →
    e.length = 32 → s.hub.mirroring = false → s.hub.dmStates = none → s.hub.dmCheck e = none → dmReserved e = none →
    s.hub.slotFor = some slot → d = ⟨slot, 0, e, false, none, none, 0, false, 0, none, none⟩ → d.target ≤ s.hub.bearingNow
    d.bearing → bit 0 d.flags = true → Completes (.daymarkPost req c tag ([1, 0, 0, 0] ++ e)) s (fun h => h.dm.slots =
    s.hub.dm.slots ∧ h.val Od.dmDmLateDiscarded = trunc 32 (s.hub.val Od.dmDmLateDiscarded + 1) ∧ bit 1 (h.reg Rg.dmFlags) = true
    ∧ h.ended c 0x0703 tag.toNat 0 (dmItem 0 2 0))) ∧
  (∀ (s : State) (req : Path) (c : Fin 8) (tag : BitVec 16) (e : Bytes) (slot : Nat) (d : Daymark), s.hub.takes req c 0x0703 →
    e.length = 32 → s.hub.mirroring = false → s.hub.dmStates = none → s.hub.dmCheck e = none → dmReserved e = none →
    s.hub.slotFor = some slot → d = ⟨slot, 0, e, false, none, none, 0, false, 0, none, none⟩ → d.target ≤ s.hub.bearingNow
    d.bearing → bit 0 d.flags = false → d.action = 7 → Completes (.daymarkPost req c tag ([1, 0, 0, 0] ++ e)) s (fun h =>
    h.dm.slots = s.hub.dm.slots ∧ h.val Od.dmDmLateFired = trunc 32 (s.hub.val Od.dmDmLateFired + 1) ∧ h.ended c 0x0703 tag.toNat
    0 (dmItem 0 1 0) ∧ (∃ g, h.raised Ev.daymarkFired (({ d with gen := g } : Daymark).record 1 s.hub.clock 0)))) ∧
  (∀ (s : State) (req : Path) (c : Fin 8) (tag : BitVec 16) (e : Bytes) (a : Abort), s.hub.takes req c 0x0703 → e.length = 32 →
    s.hub.mirroring = false → s.hub.dmStates = none → s.hub.dmCheck e = some a → Completes (.daymarkPost req c tag ([1, 0, 0, 0]
    ++ e)) s (fun h => h.dm = s.hub.dm ∧ h.ended c 0x0703 tag.toNat 0 (dmItem 0 3 a))) ∧
  (∀ (s : State) (req : Path) (c : Fin 8) (tag hd : BitVec 16) (d : Daymark), s.hub.takes req c 0x0704 → s.hub.dmStates = none →
    s.hub.daymark? hd.toNat = some d → s.hub.dmTooLate d = false → Completes (.daymarkCancel req c tag ([1, 0, 0, 0] ++ u16
    hd.toNat)) s (fun h => h.dm.slots = s.hub.dm.slots.filter (fun x => decide (x.slot ≠ d.slot)) ∧ (d.trailing = true → (∀ i ∈
    d.edgeAt, i ≤ s.hub.clock) → (s.hub.lamp d.lamp).state = .active → (h.lamp d.lamp).levelAt ((s.hub.lamp d.lamp).edgePlace
    s.hub.dm.calFault false s.hub.clock) = false) ∧ (if s.hub.mirroring = true ∧ s.hub.pair.inStep = true then h.busyWith c
    0x0704 tag.toNat else h.ended c 0x0704 tag.toNat 0 (dmItem hd.toNat 0 0)))) ∧
  (∀ (s : State) (req : Path) (c : Fin 8) (tag hd : BitVec 16) (d : Daymark), s.hub.takes req c 0x0704 → s.hub.dmStates = none →
    s.hub.mirroring = false → s.hub.daymark? hd.toNat = some d → s.hub.dmTooLate d = true → Completes (.daymarkCancel req c tag
    ([1, 0, 0, 0] ++ u16 hd.toNat)) s (fun h => h.dm = s.hub.dm ∧ h.ended c 0x0704 tag.toNat 0 (dmItem 0 1 0))) ∧
  (∀ (s : State) (req : Path) (c : Fin 8) (tag hd : BitVec 16), s.hub.takes req c 0x0704 → s.hub.dmStates = none →
    s.hub.mirroring = false → s.hub.daymark? hd.toNat = none → Completes (.daymarkCancel req c tag ([1, 0, 0, 0] ++ u16
    hd.toNat)) s (fun h => h.dm = s.hub.dm ∧ h.ended c 0x0704 tag.toNat 0 (dmItem 0 3 abStale))) ∧
  (∀ (s : State) (req : Path) (c : Fin 8) (tag hd : BitVec 16) (d : Daymark), s.hub.takes req c 0x0705 → s.hub.daymark? hd.toNat
    = some d → Completes (.daymarkRead req c tag (u16 hd.toNat)) s (fun h => h.dm = s.hub.dm ∧ h.ended c 0x0705 tag.toNat 0
    (d.entry ++ u8 (b2n d.trailing)))) ∧
  (∀ (s : State) (e : Bytes) (a : Abort), s.hub.live → s.hub.dmStates = none → e = ((List.range 8).map (fun k => u32 (s.hub.reg
    (Rg.dmPost k)))).flatten → s.hub.dmCheck e = some a → Completes (.dmPostGo) s (fun h => (h.dm =
    { s.hub.dm with postDone := true, postStatus := a, postOutcome := 3, postHandle := 0 } ∧ (s.hub.dm.postEvtEn = true →
    h.raised Ev.dmPostDone [])))) ∧
  (∀ (s : State) (e : Bytes) (slot : Nat) (d : Daymark), s.hub.live → s.hub.dmStates = none → e = ((List.range 8).map (fun k =>
    u32 (s.hub.reg (Rg.dmPost k)))).flatten → s.hub.dmCheck e = none → dmReserved e = none → s.hub.slotFor = some slot → d =
    ⟨slot, 0, e, false, none, none, 0, false, 0, none, none⟩ → s.hub.bearingNow d.bearing < d.target → (∀ i ∈ s.hub.crossingKnown
    d.bearing d.target, (s.hub.clock : Int) + 5000 ≤ (i : Int) + s.hub.lampOffset d) → Completes (.dmPostGo) s (fun h =>
    (h.dm.postDone = true ∧ h.dm.postStatus = 0 ∧ h.dm.postOutcome = 0 ∧ ∃ x ∈ h.dm.slots, x.slot = slot ∧ x.entry = e ∧ x.handle
    = h.dm.postHandle))) ∧
  (∀ (s : State) (x : OutSeg) (l : List OutSeg) (e : Bytes) (slot : Nat) (d : Daymark), s.hub.live → s.hub.outQ 30 = x :: l →
    e.length = 32 → x.data = [1, 1, 5, 0, 0, 0, 0, 0] ++ e → s.hub.producerWaits x.ctx 16 = false → s.hub.dmCheck e = none →
    dmReserved e = none → s.hub.slotFor = some slot → d = ⟨slot, 0, e, false, none, some (s.hub.handle x.ctx), 0, false, 0, none,
    none⟩ → s.hub.bearingNow d.bearing < d.target → (∀ i ∈ s.hub.crossingKnown d.bearing d.target, (s.hub.clock : Int) + 5000 ≤
    (i : Int) + s.hub.lampOffset d) → Completes (.lampcmdPost) s (fun h => (h.outQ 30 = l ∧ ∃ y ∈ h.dm.slots, y.slot = slot ∧
    y.entry = e ∧ y.source = some (s.hub.handle x.ctx)) ∧ ((s.hub.ctx x.ctx).direction = 2 → h.dm.unsent = s.hub.dm.unsent + 1))) ∧
  (∀ (s : State) (x : OutSeg) (l : List OutSeg), s.hub.live → s.hub.outQ 30 = x :: l → field x.data 0 1 = 1 → x.data.length ≠ 8
    + 32 * field x.data 1 1 → Completes (.lampcmdPost) s (fun h => h.outQ 30 = l ∧ h.dm =
    { s.hub.dm with badMessages := s.hub.dm.badMessages + 1 })) ∧
  (∀ (s : State) (x : OutSeg) (l : List OutSeg) (hd : BitVec 16) (d : Daymark), s.hub.live → s.hub.outQ 30 = x :: l → x.data =
    [2, 1, 5, 0, 0, 0, 0, 0] ++ u16 hd.toNat → s.hub.producerWaits x.ctx 16 = false → s.hub.daymark? hd.toNat = some d →
    s.hub.dmTooLate d = false → Completes (.lampcmdCancel) s (fun h => h.outQ 30 = l ∧ h.dm.slots = s.hub.dm.slots.filter (fun y
    => decide (y.slot ≠ d.slot)))) ∧
  (∀ (s : State) (d : Daymark) (i t : Nat), s.hub.live → s.hub.dmFirst false s.hub.dm.slots = some (d, i, t, false) →
    s.hub.crossingLate d = false → d.action = 7 → Completes (.daymarkFired) s (fun h => h.clock = max s.hub.clock t ∧ h.dm.slots
    = s.hub.dm.slots.filter (fun y => decide (y.slot ≠ d.slot)) ∧ h.raised Ev.daymarkFired (d.record (2 * b2n (decide
    (s.hub.bearingState d.bearing = .holdover))) i 0))) ∧
  (∀ (s : State) (d : Daymark) (i t : Nat), s.hub.live → s.hub.dmFirst false s.hub.dm.slots = some (d, i, t, false) →
    s.hub.crossingLate d = false → d.action = 1 ∨ d.action = 2 → d.early = none → Completes (.daymarkFired) s (fun h => h.clock =
    max s.hub.clock t ∧ h.dm.slots = s.hub.dm.slots.filter (fun y => decide (y.slot ≠ d.slot)) ∧ (if (s.hub.lamp d.lamp).state =
    .active then (h.lamp d.lamp).levelAt ((s.hub.lamp d.lamp).edgePlace s.hub.dm.calFault (decide (d.action = 1)) (max ((i : Int)
    + s.hub.lampOffset d).toNat (max s.hub.clock t))) = (decide (d.action = 1)) else h.lamp d.lamp = s.hub.lamp d.lamp) ∧
    ((s.hub.lamp d.lamp).state ≠ .active → ∃ f, bit 2 f = true ∧ h.raised Ev.daymarkFired (d.record f i 0)))) ∧
  (∀ (s : State) (d : Daymark) (i t : Nat), s.hub.live → s.hub.dmFirst false s.hub.dm.slots = some (d, i, t, false) →
    s.hub.crossingLate d = true → bit 0 d.flags = true → Completes (.daymarkFired) s (fun h => h.dm.slots = s.hub.dm.slots.filter
    (fun y => decide (y.slot ≠ d.slot)) ∧ h.val Od.dmDmLateDiscarded = trunc 32 (s.hub.val Od.dmDmLateDiscarded + 1) ∧ h.dm.lamps
    = s.hub.dm.lamps)) ∧
  (∀ (s : State) (d : Daymark) (i t : Nat), s.hub.live → s.hub.dmFirst false s.hub.dm.slots = some (d, i, t, true) → Completes
    (.daymarkFired) s (fun h => (h.clock = max s.hub.clock t ∧ h.dm.slots.map (·.slot) = s.hub.dm.slots.map (·.slot) ∧ (∀ y ∈
    h.dm.slots, y.slot = d.slot → y.early.isSome = true ∧ y.trailing = false)) ∧ ((s.hub.lamp d.lamp).state = .active → (h.lamp
    d.lamp).levelAt ((s.hub.lamp d.lamp).edgePlace s.hub.dm.calFault (decide (d.action ≠ 2)) (max s.hub.clock t)) = (decide
    (d.action ≠ 2)))))

/-- What pulse ends, PULSE_TIMEOUT, Lamp edges, calibration, fired messages, LAMP_SET_NOW and LAMP_CONTROL leave. The end of a
pulse's time, at its instant, leaves an ACTIVE Lamp low from where its edge is placed on; so do the trailing crossing of a
PULSE_BEARING, which frees the slot, and PULSE_TIMEOUT, which frees it, flags, and raises the record with TIMEOUT (and
SUPPRESSED where the edge could not act). A Lamp's first queued edge takes effect at its instant, 8 ns after the last at
least (where the level is already its, nothing comes of it): the level is its, and with the pads free an ACTIVE Lamp's ball
shows it as POLARITY says. Calibration's outcome is noted; a failure flags and raises. The gathered records of the oldest
tunnel, up to 80 and its producer not held, leave together, and are counted as unsent where the tunnel is gone. LAMP_SET_NOW,
outside FOGHORN's retention and at no STANDBY, leaves each ACTIVE Lamp of its mask at its level from where the edge due now
is placed on, and every other Lamp as it was, and ends with the Lamps that it changes, or waits behind mirror records.
LAMP_CONTROL with a mask of Lamps: release makes each SAFE Lamp of it whose triggers hold no more ACTIVE, low and without
triggers, and no other; safe makes each ACTIVE one SAFE with cause 5, its edges gone, flagged, and OFF or unnamed ones stay;
with CHAIN a fog signal of cause 0x31 also leaves on every running link; each ends with the Lamps in SAFE. -/
def Obligations.LampsAreDrivenMadeSafeAndReleased : Prop :=
  (∀ (s : State) (l : Fin 24) (t : Nat), s.hub.live → (s.hub.lamp l).pulseEnds.min? = some t → Completes (.pulseTimeEnd l) s
    (fun h => (h.clock = max s.hub.clock t ∧ (h.lamp l).pulseEnds = (s.hub.lamp l).pulseEnds.erase t ∧ ((s.hub.lamp l).state =
    .active → (h.lamp l).levelAt ((s.hub.lamp l).edgePlace s.hub.dm.calFault false (max s.hub.clock t)) = false)))) ∧
  (∀ (s : State) (d : Daymark) (i t : Nat), s.hub.live → s.hub.dmFirst true s.hub.dm.slots = some (d, i, t, false) → d.early =
    none → (s.hub.lamp d.lamp).state = .active → Completes (.pulseBearingEnd) s (fun h => h.clock = max s.hub.clock t ∧
    h.dm.slots = s.hub.dm.slots.filter (fun y => decide (y.slot ≠ d.slot)) ∧ (h.lamp d.lamp).levelAt ((s.hub.lamp
    d.lamp).edgePlace s.hub.dm.calFault false (max ((i : Int) + s.hub.lampOffset d).toNat (max s.hub.clock t))) = false)) ∧
  (∀ (s : State) (d : Daymark) (t : Nat), s.hub.live → firstTimeout (s.hub.dm.slots.filter (fun x => !x.shadow && x.trailing)) =
    some (d, t) → Completes (.pulseTimeout) s (fun h => h.clock = max s.hub.clock t ∧ h.dm.slots = s.hub.dm.slots.filter (fun y
    => decide (y.slot ≠ d.slot)) ∧ bit 5 (h.reg Rg.dmFlags) = true ∧ ((s.hub.lamp d.lamp).state = .active → (h.lamp
    d.lamp).levelAt ((s.hub.lamp d.lamp).edgePlace s.hub.dm.calFault false (max s.hub.clock t)) = false) ∧ h.raised
    Ev.daymarkFired (d.record 64 t 0) ∨ h.raised Ev.daymarkFired (d.record 72 t 0))) ∧
  (∀ (s : State) (l : Fin 24) (t : Nat) (v : Bool) (rest : List (Nat × Bool)), s.hub.live → (s.hub.lamp l).edges = (t, v) ::
    rest → v ≠ (s.hub.lamp l).level → Completes (.lampEdge l) s (fun h => h.clock = max s.hub.clock (spacedFrom (s.hub.lamp
    l).lastEdge t) ∧ (h.lamp l).level = v ∧ (h.lamp l).edges = rest ∧ (h.lamp l).lastEdge = some (spacedFrom (s.hub.lamp
    l).lastEdge t) ∧ ((s.hub.domain 17).padsHeld = false → (s.hub.lamp l).state = .active → (h.lamp l).ball = b2n (v !=
    (s.hub.lamp l).polarity)))) ∧
  (∀ (s : State) (l : Fin 24) (t : Nat) (v : Bool) (rest : List (Nat × Bool)), s.hub.live → (s.hub.lamp l).edges = (t, v) ::
    rest → v = (s.hub.lamp l).level → Completes (.lampEdge l) s (fun h => h.lamp l = { s.hub.lamp l with edges := rest } ∧ h.out
    = s.hub.out ∧ h.od = s.hub.od)) ∧
  (∀ (s : State) (ok : Bool), s.hub.live → Completes (.lampCalibration ok) s (fun h => (h.dm = { s.hub.dm with calFault := !ok }
    ∧ (ok = false → bit 7 (h.reg Rg.dmFlags) = true ∧ h.raised Ev.lampCalFault [])))) ∧
  (∀ (s : State) (hd : Nat) (r : Bytes) (l : List (Nat × Bytes)), s.hub.live → s.hub.dm.fired = (hd, r) :: l →
    (s.hub.dm.fired.filter (fun x => decide (x.1 = hd))).length ≤ 80 → (s.hub.cmdLive hd = true → s.hub.producerWaits (hd % 256)
    (8 + ((s.hub.dm.fired.filter (fun x => decide (x.1 = hd))).flatMap (·.2)).length) = false) → Completes (.firedMessageSend) s
    (fun h => (h.dm.fired = l.filter (fun x => decide (x.1 ≠ hd)) ∧ (s.hub.cmdLive hd = false → h.dm.unsent = s.hub.dm.unsent +
    (s.hub.dm.fired.filter (fun x => decide (x.1 = hd))).length)))) ∧
  (∀ (s : State) (req : Path) (c : Fin 8) (tag : BitVec 16) (mask levels : Fin 16777216), s.hub.takes req c 0x0706 → s.hub.inFog
    = false → s.hub.standby = false → Completes (.lampSetNow req c tag (u32 mask ++ u32 levels)) s (fun h => (∀ l : Fin 24, if
    bit l mask = true ∧ (s.hub.lamp l).state = .active then (h.lamp l).levelAt ((s.hub.lamp l).edgePlace s.hub.dm.calFault (bit l
    levels) s.hub.clock) = (bit l levels) else h.lamp l = s.hub.lamp l) ∧ (if s.hub.mirroring = true ∧ s.hub.pair.inStep = true ∧
    s.hub.pair.unacked ≠ [] then h.busyWith c 0x0706 tag.toNat else ∃ m, h.ended c 0x0706 tag.toNat 0 (u32 m) ∧ ∀ l : Fin 24, bit
    l m = (bit l mask && decide ((s.hub.lamp l).state = .active) && decide ((s.hub.lamp l).levelAt s.hub.clock ≠ bit l levels))))) ∧
  (∀ (s : State) (req : Path) (c : Fin 8) (tag : BitVec 16) (mask : Word), s.hub.takes req c 0x0707 → mask.toNat < 2 ^ 24 →
    Completes (.lampRelease req c tag mask) s (fun h => (∀ l : Fin 24, if bit l mask.toNat = true ∧ (s.hub.lamp l).state = .safe
    ∧ s.hub.lampHolds l = false then (h.lamp l).state = .active ∧ (h.lamp l).level = false ∧ (h.lamp l).triggers = 0 else h.lamp
    l = s.hub.lamp l) ∧ h.ended c 0x0707 tag.toNat 0 (u32 h.safeMask))) ∧
  (∀ (s : State) (req : Path) (c : Fin 8) (tag : BitVec 16) (mask : Word), s.hub.takes req c 0x0707 → mask.toNat < 2 ^ 24 →
    Completes (.lampSafe req c tag mask) s (fun h => (∀ l : Fin 24, bit l mask.toNat = true → (s.hub.lamp l).state = .active →
    (h.lamp l).state = .safe ∧ (h.lamp l).safeCause = 5 ∧ (h.lamp l).edges = [] ∧ bit 3 (h.reg Rg.dmFlags) = true) ∧ (∀ l : Fin
    24, (bit l mask.toNat = false ∨ (s.hub.lamp l).state = .off) → h.lamp l = s.hub.lamp l) ∧ h.ended c 0x0707 tag.toNat 0 (u32
    h.safeMask))) ∧
  (∀ (s : State) (req : Path) (c : Fin 8) (tag : BitVec 16) (mask : Word), s.hub.takes req c 0x0707 → mask.toNat < 2 ^ 24 →
    Completes (.lampSafeChain req c tag mask) s (fun h => (∀ l : Fin 24, bit l mask.toNat = true → (s.hub.lamp l).state = .active
    → (h.lamp l).state = .safe ∧ (h.lamp l).safeCause = 5 ∧ (h.lamp l).edges = []) ∧ h.ended c 0x0707 tag.toNat 0 (u32
    h.safeMask) ∧ (∀ p ∈ s.hub.runningPorts, h.sentBlock s.hub p (fogBytes ⟨0x31, BitVec.ofNat 48 Config.serial, BitVec.ofNat 8
    (h.links.fogSeq + 255), BitVec.ofNat 8 s.hub.links.hopDepth, 0⟩))))

/-- What received and sent Ethernet frames, a link change and ETH_TS_READ leave of an ETH port. On a port that is off, not
running or without link a received frame changes no port, job, buffer or entry; nor does, of ports, jobs and buffers, one
with a bad FCS, below 64 bytes or above MAX_FRAME. On a running port with link, without a mirror session or loop, a good
frame that is no MAC control frame goes to the tunnel of the entry that it matches (it stands bound, open and with room) as
one segment: the byte that says whether a trailer is there, the port, the frame, and the time stamp where the selector asks
for one, yellow where DEI_YELLOW is 1 and the tag's DEI is; one that matches none is counted in CLS_MISS; one that finds no
room in staging is counted in RX_OVERRUN, and the first raises the event. The oldest segment of an egress leaves as a frame,
with the tag that the selector asks for, padded to 60 bytes and with its FCS; a PTP event message leaves a time stamp record
while fewer than 16 stand. One longer than MAX_FRAME is removed and counted. A link change of a running port is kept and
raised; to no link, it empties the egress queue. ETH_TS_READ of at least one removes that many records, oldest first, and
ends with them. -/
def Obligations.EthernetFramesEnterAndLeaveTunnels : Prop :=
  (∀ (s : State) (n : Fin 8) (f : Bytes) (fcsOk : Bool), s.hub.live → s.hub.ethRuns n = false ∨ (s.hub.eth n).link = 0 →
    Completes (.ethFrameRx n f fcsOk) s (fun h => h.io = s.hub.io ∧ h.eng = s.hub.eng ∧ h.sw = s.hub.sw ∧ h.od = s.hub.od)) ∧
  (∀ (s : State) (n : Fin 8) (f : Bytes) (fcsOk : Bool), s.hub.live → fcsOk = false ∨ f.length + 4 < 64 ∨ s.hub.val
    (Od.ethMaxFrame n) < f.length + 4 → Completes (.ethFrameRx n f fcsOk) s (fun h => h.io = s.hub.io ∧ h.eng = s.hub.eng ∧ h.sw
    = s.hub.sw)) ∧
  (∀ (s : State) (n : Fin 8) (f : Bytes) (k i : Nat) (e : ClsEntry) (seg : Bytes) (yellow : Bool), s.hub.live → s.hub.ethRuns n
    = true → (s.hub.eth n).link ≠ 0 → 64 ≤ f.length + 4 → f.length + 4 ≤ s.hub.val (Od.ethMaxFrame n) → beField f 12 2 ≠ 0x8808 →
    s.hub.plainIn (n + 3) → clsWinner (0x10 + n) (.eth (beField f 0 6) (if ethTagged f then some (beField f 14 2 % 4096) else
    none)) s.hub.sw.cls.cells = some (k, e) → s.hub.live? e.handle = some i → seg = u8 (b2n (bit 18 (selector (s.hub.ctx
    i).localBind))) ++ u8 n ++ f ++ (if bit 18 (selector (s.hub.ctx i).localBind) then u64 (s.hub.stamp (s.hub.val
    (Od.ethTsIngressTrim n))) else []) → s.hub.stageRoom (n + 3) (f.length + 2) = true → s.hub.stageRoom (n + 3) seg.length =
    true → yellow = (decide (s.hub.val (Od.ethDeiYellow n) = 1) && (ethTagged f && bit 12 (beField f 14 2))) → s.hub.takesIn i →
    Completes (.ethFrameRx n f true) s (fun h => h.segOffered i seg yellow ∧ h.io = s.hub.io ∧ h.val (Od.ethClsMiss n) =
    s.hub.val (Od.ethClsMiss n))) ∧
  (∀ (s : State) (n : Fin 8) (f : Bytes), s.hub.live → s.hub.ethRuns n = true → (s.hub.eth n).link ≠ 0 → 64 ≤ f.length + 4 →
    f.length + 4 ≤ s.hub.val (Od.ethMaxFrame n) → beField f 12 2 ≠ 0x8808 → s.hub.plainIn (n + 3) → clsWinner (0x10 + n) (.eth
    (beField f 0 6) (if ethTagged f then some (beField f 14 2 % 4096) else none)) s.hub.sw.cls.cells = none → s.hub.stageRoom (n
    + 3) (f.length + 2) = true → Completes (.ethFrameRx n f true) s (fun h => h.val (Od.ethClsMiss n) = trunc 32 (s.hub.val
    (Od.ethClsMiss n) + 1) ∧ h.eng = s.hub.eng ∧ h.io = s.hub.io)) ∧
  (∀ (s : State) (n : Fin 8) (f : Bytes), s.hub.live → s.hub.ethRuns n = true → (s.hub.eth n).link ≠ 0 → 64 ≤ f.length + 4 →
    f.length + 4 ≤ s.hub.val (Od.ethMaxFrame n) → beField f 12 2 ≠ 0x8808 → s.hub.stageRoom (n + 3) (f.length + 2) = false →
    Completes (.ethFrameRx n f true) s (fun h => (h.val (Od.ethRxOverrun n) = trunc 32 (s.hub.val (Od.ethRxOverrun n) + 1) ∧
    h.eng = s.hub.eng ∧ ((s.hub.eth n).overrunAt = none → h.raised Ev.ethOverrun (u8 n))))) ∧
  (∀ (s : State) (n : Fin 8) (x : OutSeg) (l : List OutSeg) (t f : Bytes), s.hub.live → s.hub.outQ (n + 3) = x :: l →
    s.hub.loopOn (5 + n) = false → t = tagFrame (selector x.bind) (if bit 0 (field x.data 0 1) then (x.data.drop 2).take
    ((x.data.drop 2).length - 8) else x.data.drop 2) → f = t ++ List.replicate (60 - t.length) 0 → f.length + 4 ≤ s.hub.val
    (Od.ethMaxFrame n) → Completes (.ethFrameTx n) s (fun h => h.outQ (n + 3) = l ∧ h.gave s.hub (.frame (0x10 + n) (f ++ leBytes
    4 (crc32.of f))) ∧ (ptpEvent f = none → h.io.eth = s.hub.io.eth) ∧ (∀ m ∈ ptpEvent f, (s.hub.eth n).ts.length < 16 → (h.eth
    n).ts = (s.hub.eth n).ts ++ [u64 (s.hub.stamp (s.hub.val (Od.ethTsEgressTrim n))) ++ u8 n ++ u8 m.1 ++ u16 m.2.1 ++ u8 m.2.2
    ++ [0, 0, 0]]))) ∧
  (∀ (s : State) (n : Fin 8) (x : OutSeg) (l : List OutSeg) (t f : Bytes), s.hub.live → s.hub.outQ (n + 3) = x :: l → t =
    tagFrame (selector x.bind) (if bit 0 (field x.data 0 1) then (x.data.drop 2).take ((x.data.drop 2).length - 8) else
    x.data.drop 2) → f = t ++ List.replicate (60 - t.length) 0 → s.hub.val (Od.ethMaxFrame n) < f.length + 4 → Completes
    (.ethFrameTx n) s (fun h => h.outQ (n + 3) = l ∧ (h.eth n).oversize = (s.hub.eth n).oversize + 1 ∧ (h.eth n).ts = (s.hub.eth
    n).ts)) ∧
  (∀ (s : State) (n : Fin 8) (link : Fin 5), s.hub.live → s.hub.ethRuns n = true → link.val ≠ (s.hub.eth n).link → Completes
    (.ethLinkChange n link) s (fun h => ((h.eth n).link = link.val ∧ h.raised Ev.ethLinkChange (u8 n ++ u8 link) ∧ (link.val = 0
    → h.outQ (n + 3) = [])))) ∧
  (∀ (s : State) (req : Path) (c : Fin 8) (tag : BitVec 16) (n : Fin 8) (k : Fin 16), s.hub.takes req c 0x0800 → s.hub.inFog =
    false → k.val ≠ 0 → Completes (.ethTsRead req c tag (u8 n ++ u8 k)) s (fun h => (h.eth n).ts = (s.hub.eth n).ts.drop k ∧
    h.ended c 0x0800 tag.toNat 0 (u8 ((s.hub.eth n).ts.take k).length ++ ((s.hub.eth n).ts.take k).flatten)))

/-- What CAN frames, bus errors, bus-off, CAN_RESTART, J1939 address claims and ADDRESS_RECLAIM leave. A port off the bus takes
no frame. On the bus a remote frame is counted and enters no tunnel; a data frame with an 11-bit identifier goes as R347's
segment to the tunnel of the entry that it matches, staging with room, and the receive error count falls by 1 from at most
127; one that matches none is counted in CLS_MISS. An active or passive port that may send sends the frame of the winning
slot, its transmit error count falls by 1, and the slot is free where nothing waits behind it; LISTEN_ONLY or no filled slot
sends nothing. A bus error adds 1 or 8 to the receive count, up to 255, or 8 to the transmit count; a count of 128 or more is
passive, a transmit count above 255 bus-off with its event. BUS_OFF starts recovery where AUTO_RECOVER is 1; its end makes
the port active with both counts 0 and ends a CAN_RESTART that runs. CAN_RESTART of a port in bus-off starts recovery and
runs; else it ends with the port's state. A claim of another address is noted. A lower NAME for the hub's own address takes
it: where bit 63 of the NAME is set the next free address is claimed, else, or with none free, 'cannot claim' is sent; a lost
claimed address is raised and ends the port's transfers. A request is answered with the claim, or with 'cannot claim'. An
address becomes usable, and ends ADDRESS_RECLAIM, which starts with PREFERRED_ADDRESS anew. -/
def Obligations.CanFramesAndAddressClaimsFollowTheBus : Prop :=
  (∀ (s : State) (n : Fin 6) (f : CanFrame), s.hub.live → s.hub.canOnBus n = true → Completes (.canFrameRx n f true) s (fun h =>
    (h.can n).remoteFrames = (s.hub.can n).remoteFrames + 1 ∧ h.eng = s.hub.eng ∧ h.sw = s.hub.sw)) ∧
  (∀ (s : State) (n : Fin 6) (f : CanFrame) (remote : Bool), s.hub.live → s.hub.canOnBus n = false → Completes (.canFrameRx n f
    remote) s (fun h => h.io = s.hub.io ∧ h.eng = s.hub.eng ∧ h.sw = s.hub.sw ∧ h.od = s.hub.od)) ∧
  (∀ (s : State) (n : Fin 6) (f : CanFrame) (k i : Nat) (e : ClsEntry), s.hub.live → s.hub.canOnBus n = true → f.extended =
    false → s.hub.plainIn (17 + n) → s.hub.stageRoom (17 + n) (canSegment f).length = true → clsWinner (0x20 + n) (.can f.id
    f.extended f.fd) s.hub.sw.cls.cells = some (k, e) → s.hub.live? e.handle = some i → s.hub.takesIn i → Completes (.canFrameRx
    n f false) s (fun h => (h.segOffered i (canSegment f) false ∧ ((s.hub.can n).rec_ ≤ 127 → (h.can n).rec_ = (s.hub.can n).rec_
    - 1)))) ∧
  (∀ (s : State) (n : Fin 6) (f : CanFrame), s.hub.live → s.hub.canOnBus n = true → f.extended = false → s.hub.plainIn (17 + n)
    → s.hub.stageRoom (17 + n) (canSegment f).length = true → clsWinner (0x20 + n) (.can f.id f.extended f.fd) s.hub.sw.cls.cells
    = none → Completes (.canFrameRx n f false) s (fun h => h.val (Od.canClsMiss n) = trunc 32 (s.hub.val (Od.canClsMiss n) + 1) ∧
    h.eng = s.hub.eng)) ∧
  (∀ (s : State) (n : Fin 6) (x : Nat × CanFrame), s.hub.live → (s.hub.can n).bus = .active ∨ (s.hub.can n).bus = .passive →
    s.hub.val (Od.canListenOnly n) = 0 → s.hub.loopOn (13 + n) = false → canWinner (s.hub.can n).slots = some x → Completes
    (.canFrameTx n) s (fun h => (h.gave s.hub (.can n x.2) ∧ (h.can n).tec = (s.hub.can n).tec - 1 ∧ (h.can n).rec_ = (s.hub.can
    n).rec_ ∧ ((s.hub.can n).queue = [] → (h.can n).slots = (s.hub.can n).slots.erase x)))) ∧
  (∀ (s : State) (n : Fin 6), s.hub.live → s.hub.val (Od.canListenOnly n) = 1 ∨ (s.hub.can n).slots = [] → Completes
    (.canFrameTx n) s (fun h => h.io = s.hub.io ∧ h.sw = s.hub.sw ∧ h.od = s.hub.od)) ∧
  (∀ (s : State) (n : Fin 6), s.hub.live → (s.hub.can n).bus = .active ∨ (s.hub.can n).bus = .passive → Completes (.canBusOff n)
    s (fun h => (h.can n).bus = .busOff ∧ (h.can n).recovering = decide (s.hub.val (Od.canAutoRecover n) = 1) ∧ h.raised
    Ev.canBusOff (u8 n))) ∧
  (∀ (s : State) (n : Fin 6) (heavy : Bool), s.hub.live → (s.hub.can n).bus = .active ∨ (s.hub.can n).bus = .passive → Completes
    (.canBusError n false heavy) s (fun h => (h.can n).rec_ = min 255 ((s.hub.can n).rec_ + (if heavy then 8 else 1)) ∧ (h.can
    n).tec = (s.hub.can n).tec ∧ ((h.can n).bus = if 128 ≤ (h.can n).tec ∨ 128 ≤ (h.can n).rec_ then .passive else .active))) ∧
  (∀ (s : State) (n : Fin 6) (heavy : Bool), s.hub.live → (s.hub.can n).bus = .active ∨ (s.hub.can n).bus = .passive → Completes
    (.canBusError n true heavy) s (fun h => (if 255 < (s.hub.can n).tec + 8 then (h.can n).bus = .busOff ∧ h.raised Ev.canBusOff
    (u8 n) else (h.can n).tec = (s.hub.can n).tec + 8 ∧ (h.can n).rec_ = (s.hub.can n).rec_ ∧ (h.can n).bus = if 128 ≤ (h.can
    n).tec ∨ 128 ≤ (h.can n).rec_ then .passive else .active))) ∧
  (∀ (s : State) (n : Fin 6), s.hub.live → (s.hub.can n).bus = .busOff → (s.hub.can n).recovering = true → Completes
    (.busOffRecovery n) s (fun h => (h.can n).bus = .active ∧ (h.can n).tec = 0 ∧ (h.can n).rec_ = 0 ∧ (h.can n).recovering =
    false ∧ (h.can n).command = none ∧ (∀ c ∈ (s.hub.can n).command, c < 8 → (s.hub.chan c).state = .running → h.ended c
    (s.hub.chan c).code (s.hub.chan c).tag 0 (u8 1)))) ∧
  (∀ (s : State) (req : Path) (c : Fin 8) (tag : BitVec 16) (n : Fin 6), s.hub.takes req c 0x0801 → s.hub.canRuns n = true →
    (s.hub.can n).command = none → Completes (.canRestart req c tag (u8 n)) s (fun h => (if (s.hub.can n).bus = .busOff then
    (h.can n).recovering = true ∧ (h.can n).command = some c.val ∧ h.busyWith c 0x0801 tag.toNat else h.io = s.hub.io ∧ h.ended c
    0x0801 tag.toNat 0 (u8 (s.hub.can n).bus.code)))) ∧
  (∀ (s : State) (n : Fin 6) (src : Byte) (name : BitVec 64), s.hub.live → (s.hub.can n).claimed ≠ some src.toNat → (s.hub.can
    n).claiming ≠ some src.toNat → Completes (.addressClaimed n src name) s (fun h => (h.can n).taken = claimsHeld src.toNat
    name.toNat (s.hub.can n).taken ∧ (h.can n).claimed = (s.hub.can n).claimed ∧ (h.can n).claiming = (s.hub.can n).claiming ∧
    h.ctl = s.hub.ctl)) ∧
  (∀ (s : State) (n : Fin 6) (src : Byte) (name : BitVec 64), s.hub.live → (s.hub.can n).claimed = some src.toNat ∨ (s.hub.can
    n).claiming = some src.toNat → name.toNat < s.hub.isoName → Completes (.addressClaimed n src name) s (fun h => (h.can
    n).claimed = none ∧ (h.can n).claiming = (if bit 63 (s.hub.val Od.canNameTemplate) then freeAddress ((claimsHeld src.toNat
    name.toNat (s.hub.can n).taken).map (·.1)) else none) ∧ (∀ a ∈ (h.can n).claiming, h.claimSent n a) ∧ ((h.can n).claiming =
    none → h.claimSent n 254 ∧ (h.can n).cannotClaim = true) ∧ ((s.hub.can n).claimed = some src.toNat → h.raised
    Ev.canAddressLost (u8 n) ∧ ∀ t ∈ h.ctl.transfers, t.port ≠ n))) ∧
  (∀ (s : State) (n : Fin 6) (a : Nat), s.hub.live → (s.hub.can n).claimed = some a ∨ ((s.hub.can n).claimed = none ∧ (s.hub.can
    n).claiming = some a) ∨ ((s.hub.can n).claimed = none ∧ (s.hub.can n).claiming = none ∧ (s.hub.can n).cannotClaim = true ∧ a
    = 254) → Completes (.addressClaimRequest n) s (fun h => h.claimSent n a ∧ h.ctl = s.hub.ctl)) ∧
  (∀ (s : State) (n : Fin 6) (a : Nat), s.hub.live → (s.hub.can n).claiming = some a → Completes (.addressUsable n) s (fun h =>
    (h.can n).claimed = some a ∧ (h.can n).claiming = none ∧ (h.can n).reclaim = none ∧ (∀ c ∈ (s.hub.can n).reclaim, c < 8 →
    (s.hub.chan c).state = .running → h.ended c (s.hub.chan c).code (s.hub.chan c).tag 0 (u8 a)))) ∧
  (∀ (s : State) (req : Path) (c : Fin 8) (tag : BitVec 16) (n : Fin 6), s.hub.takes req c 0x0803 → s.hub.claimOn n = true →
    (s.hub.can n).reclaim = none → Completes (.addressReclaim req c tag (u8 n)) s (fun h => (h.can n).claimed = none ∧ (h.can
    n).claiming = some (s.hub.val (Od.canPreferredAddress n)) ∧ (h.can n).reclaim = some c.val ∧ h.busyWith c 0x0803 tag.toNat ∧
    h.claimSent n (s.hub.val (Od.canPreferredAddress n))))

/-- What EMMC_INIT and REINIT, BLOCK requests, the device's answers, and UART and serial transactions leave. A write of 1 to
EMMC_ENABLE at 0 (nothing waiting at Keeper) and EMMC_REINIT start the initialisation; its outcome is READY with the mode,
width and part registers found, or FAILED, raised, and ends one waiting command. With the device READY and no other request
waiting, a request that the region allows is taken from its egress: READ asks the device for up to 3 blocks where staging has
room for them, WRITE waits for its data, FLUSH and TRIM are passed on with the region's partition and base; INFO, its turn
come, is answered with the region; behind others it waits (R358: a tunnel's requests run one at a time, in order). DATA of
the right length and sequence adds its blocks to an open WRITE; one out of sequence ends it with BAD_ARGUMENT. Where the
tunnel takes segments: a READ's data goes back as DATA, the last of it with the RESPONSE of status 0; FLUSH, TRIM and the
last blocks of a WRITE give the RESPONSE; a CRC error is retried up to three times with the same command, then ends with
detail 0x10; error bits end with 0x12; silence is retried, then ends with 0x11 and a new initialisation. UART bytes enter the
bound tunnel as one segment of up to 256; without room and with FLOW 0 they are counted as overrun. A serial segment leaves
as bytes (held while CTS_N is high under FLOW), or as one SPI or I2C transaction, which keeps the port busy until its end
gives its data back. CTS_N's level is kept. -/
def Obligations.StorageRequestsAndSerialPortsRun : Prop :=
  (∀ (s : State) (req : Path), s.hub.live → s.hub.keeperUp = true → s.hub.val Od.emmcEnable = 0 → s.hub.domOn 15 = true →
    s.hub.odWriteBad req Od.emmcEnable.key (u8 1) = none → s.hub.mirroring = false → s.hub.ctl.keeperQ = [] → Completes
    (.emmcInit req) s (fun h => h.val Od.emmcEnable = 1 ∧ h.io.emmc.state = .initialising ∧ h.gave s.hub (.device 0x30 [0,
    s.hub.val Od.emmcBusMode, s.hub.val Od.emmcBusWidth, s.hub.val Od.emmcCache] []) ∧ h.gave s.hub (.answer req 0 []))) ∧
  (∀ (s : State) (mode : Fin 4) (width : Fin 9) (parts : List Word), s.hub.live → s.hub.io.emmc.state = .initialising →
    Completes (.emmcInitDone (some (mode, width)) parts) s (fun h => h.io.emmc.state = .ready ∧ h.io.emmc.modeInUse = mode.val ∧
    h.io.emmc.widthInUse = width.val ∧ h.io.emmc.parts = parts.map BitVec.toNat ∧ h.raised Ev.emmcReady (u8 0) ∧ (∀ c < 8,
    s.hub.io.emmc.commands = [c] → (s.hub.chan c).state = .running → h.ended c (s.hub.chan c).code (s.hub.chan c).tag 0 (u8 2 ++
    u16 (mode.val + 256 * width.val))))) ∧
  (∀ (s : State) (parts : List Word), s.hub.live → s.hub.io.emmc.state = .initialising → Completes (.emmcInitDone none parts) s
    (fun h => h.io.emmc.state = .failed ∧ h.raised Ev.emmcFailed (u8 0))) ∧
  (∀ (s : State) (req : Path) (c : Fin 8) (tag : BitVec 16), s.hub.takes req c 0x0802 → s.hub.val Od.emmcEnable ≠ 0 →
    s.hub.inFog = false → Completes (.emmcReinit req c tag [0]) s (fun h => h.io.emmc.state = .initialising ∧ h.io.emmc.commands
    = s.hub.io.emmc.commands ++ [c.val] ∧ h.busyWith c 0x0802 tag.toNat ∧ h.gave s.hub (.device 0x30 [0, s.hub.val
    Od.emmcBusMode, s.hub.val Od.emmcBusWidth, s.hub.val Od.emmcCache] []))) ∧
  (∀ (s : State) (i : Byte) (x : OutSeg) (r : BlockReq), s.hub.live → s.hub.headOf 16 i.toNat = some x → field x.data 0 1 = 1 →
    r = blockOf i.toNat 1 x.data → r.blocks ≠ 0 → s.hub.io.emmc.requests = [] → s.hub.io.emmc.state = .ready →
    s.hub.io.emmc.running = none → s.hub.io.emmc.chunk = 0 → s.hub.io.emmc.orphan = false → s.hub.blockBad r = none →
    s.hub.stageRoom 16 (4 + 512 * min 3 r.blocks) = true → Completes (.blockRead i) s (fun h => h.io.emmc.requests = [r] ∧
    h.io.emmc.running = some i.toNat ∧ h.io.emmc.chunk = min 3 r.blocks + 1 ∧ h.outQ 16 = (s.hub.outQ 16).erase x ∧ h.gave s.hub
    (.device 0x30 [1, s.hub.val (Od.regionPartition (selector (s.hub.ctx i.toNat).localBind % 8)), s.hub.val (Od.regionBaseLba
    (selector (s.hub.ctx i.toNat).localBind % 8)) + r.lba, min 3 r.blocks, 0] []))) ∧
  (∀ (s : State) (i : Byte) (x : OutSeg) (r : BlockReq), s.hub.live → s.hub.headOf 16 i.toNat = some x → field x.data 0 1 = 2 →
    r = blockOf i.toNat 2 x.data → r.blocks ≠ 0 → s.hub.io.emmc.requests = [] → s.hub.io.emmc.state = .ready →
    s.hub.io.emmc.running = none → s.hub.io.emmc.chunk = 0 → s.hub.io.emmc.orphan = false → s.hub.blockBad r = none → Completes
    (.blockWrite i) s (fun h => h.io.emmc.requests = [r] ∧ h.io.emmc.running = some i.toNat ∧ h.io.emmc.chunk = 0 ∧ h.outQ 16 =
    (s.hub.outQ 16).erase x)) ∧
  (∀ (s : State) (i : Byte) (x : OutSeg) (r : BlockReq), s.hub.live → s.hub.headOf 16 i.toNat = some x → field x.data 0 1 = 3 →
    r = blockOf i.toNat 3 x.data → s.hub.io.emmc.requests = [] → s.hub.io.emmc.state = .ready → s.hub.io.emmc.running = none →
    s.hub.io.emmc.chunk = 0 → s.hub.io.emmc.orphan = false → Completes (.blockFlush i) s (fun h => h.io.emmc.requests = [r] ∧
    h.io.emmc.running = some i.toNat ∧ h.io.emmc.chunk = 1 ∧ h.outQ 16 = (s.hub.outQ 16).erase x ∧ h.gave s.hub (.device 0x30 [3,
    s.hub.val (Od.regionPartition (selector (s.hub.ctx i.toNat).localBind % 8)), s.hub.val (Od.regionBaseLba (selector (s.hub.ctx
    i.toNat).localBind % 8)) + r.lba, 0, 0] []))) ∧
  (∀ (s : State) (i : Byte) (x : OutSeg) (r : BlockReq), s.hub.live → s.hub.headOf 16 i.toNat = some x → field x.data 0 1 = 4 →
    r = blockOf i.toNat 4 x.data → s.hub.io.emmc.requests = [] → s.hub.io.emmc.state = .ready → s.hub.io.emmc.running = none →
    s.hub.io.emmc.chunk = 0 → s.hub.io.emmc.orphan = false → s.hub.blockBad r = none → Completes (.blockTrim i) s (fun h =>
    h.io.emmc.requests = [r] ∧ h.io.emmc.running = some i.toNat ∧ h.io.emmc.chunk = r.blocks + 1 ∧ h.outQ 16 = (s.hub.outQ
    16).erase x ∧ h.gave s.hub (.device 0x30 [4, s.hub.val (Od.regionPartition (selector (s.hub.ctx i.toNat).localBind % 8)),
    s.hub.val (Od.regionBaseLba (selector (s.hub.ctx i.toNat).localBind % 8)) + r.lba, r.blocks, 0] []))) ∧
  (∀ (s : State) (i : Byte) (x : OutSeg) (g : Nat), s.hub.live → s.hub.headOf 16 i.toNat = some x → field x.data 0 1 = 5 →
    s.hub.openWrite i.toNat = none → g = selector (s.hub.ctx i.toNat).localBind % 8 → s.hub.io.emmc.requests = [] →
    s.hub.io.emmc.state = .ready → s.hub.io.emmc.running = none → s.hub.io.emmc.chunk = 0 → s.hub.io.emmc.orphan = false →
    s.hub.takesIn i.toNat → Completes (.blockInfo i) s (fun h => h.io.emmc.requests = [] ∧ h.io.emmc.running = none ∧
    h.io.emmc.lastServed = i.toNat ∧ h.outQ 16 = (s.hub.outQ 16).erase x ∧ h.segOffered i.toNat (u8 0x85 ++ u8 0 ++ u16 (field
    x.data 2 2) ++ u32 0 ++ u32 0 ++ u32 s.hub.io.emmc.lastR1 ++ (u32 (s.hub.val (Od.regionBlocks g)) ++ u8 (s.hub.val
    (Od.regionWritable g)) ++ u8 s.hub.io.emmc.modeInUse ++ u8 s.hub.io.emmc.widthInUse ++ u8 0)) false)) ∧
  (∀ (s : State) (i : Byte) (x : OutSeg), s.hub.live → s.hub.headOf 16 i.toNat = some x → field x.data 0 1 = 5 → s.hub.openWrite
    i.toNat = none → s.hub.io.emmc.chunk ≠ 0 → (s.hub.io.emmc.requests.filter (fun r => decide (r.ctx = i.toNat))).length < 16 →
    Completes (.blockInfo i) s (fun h => h.io.emmc.requests = s.hub.io.emmc.requests ++ [blockOf i.toNat 5 x.data] ∧
    h.io.emmc.running = s.hub.io.emmc.running ∧ h.outQ 16 = (s.hub.outQ 16).erase x)) ∧
  (∀ (s : State) (i : Byte) (x : OutSeg) (r : BlockReq), s.hub.live → s.hub.headOf 16 i.toNat = some x → field x.data 0 1 = 0x10
    → s.hub.openWrite i.toNat = some r → x.data.length = 516 ∨ x.data.length = 1028 ∨ x.data.length = 1540 → field x.data 1 1 =
    r.seq → r.got + (x.data.length - 4) / 512 ≤ r.blocks → s.hub.io.emmc.chunk ≠ 0 → Completes (.blockData i) s (fun h =>
    h.io.emmc.requests = replaceReq r
    { r with got := r.got + (x.data.length - 4) / 512, seq := (r.seq + 1) % 256, data := r.data ++ x.data.drop 4 }
    s.hub.io.emmc.requests ∧ h.outQ 16 = (s.hub.outQ 16).erase x)) ∧
  (∀ (s : State) (i : Byte) (x : OutSeg) (r : BlockReq), s.hub.live → s.hub.headOf 16 i.toNat = some x → field x.data 0 1 = 0x10
    → s.hub.openWrite i.toNat = some r → field x.data 1 1 ≠ r.seq → s.hub.takesIn i.toNat → Completes (.blockData i) s (fun h =>
    h.segOffered i.toNat (u8 0x82 ++ u8 0 ++ u16 r.tag ++ u32 (abArg 1) ++ u32 r.done ++ u32 s.hub.io.emmc.lastR1) false ∧ h.outQ
    16 = (s.hub.outQ 16).erase x)) ∧
  (∀ (s : State) (i : Nat) (r : BlockReq) (r1 : Word) (data : Bytes), s.hub.live → s.hub.io.emmc.running = some i →
    s.hub.io.emmc.first i = some r → s.hub.io.emmc.chunk ≠ 0 → s.hub.io.emmc.orphan = false → r.op = 1 → s.hub.takesIn i →
    Completes (.emmcCommandDone 0 r1 data) s (fun h => h.segOffered i (u8 0x10 ++ u8 r.seq ++ u16 r.tag ++ data.take (512 *
    (s.hub.io.emmc.chunk - 1))) false ∧ h.io.emmc.lastR1 = r1.toNat ∧ (r.done + (s.hub.io.emmc.chunk - 1) = r.blocks →
    h.segOffered i (u8 0x81 ++ u8 0 ++ u16 r.tag ++ u32 0 ++ u32 r.blocks ++ u32 r1.toNat) false))) ∧
  (∀ (s : State) (i : Nat) (r : BlockReq) (r1 : Word) (data : Bytes), s.hub.live → s.hub.io.emmc.running = some i →
    s.hub.io.emmc.first i = some r → s.hub.io.emmc.chunk ≠ 0 → s.hub.io.emmc.orphan = false → r.op = 3 ∨ r.op = 4 ∨ (r.op = 2 ∧
    r.done + (s.hub.io.emmc.chunk - 1) = r.blocks) → s.hub.takesIn i → Completes (.emmcCommandDone 0 r1 data) s (fun h =>
    h.segOffered i (u8 (r.op + 0x80) ++ u8 0 ++ u16 r.tag ++ u32 0 ++ u32 r.blocks ++ u32 r1.toNat) false)) ∧
  (∀ (s : State) (i : Nat) (r : BlockReq) (r1 : Word) (data : Bytes), s.hub.live → s.hub.io.emmc.running = some i →
    s.hub.io.emmc.first i = some r → s.hub.io.emmc.chunk ≠ 0 → s.hub.io.emmc.retries < 3 → Completes (.emmcCommandDone 1 r1 data)
    s (fun h => h.io.emmc =
    { s.hub.io.emmc with lastR1 := r1.toNat, lastError := r1.toNat, retries := s.hub.io.emmc.retries + 1 } ∧ h.gave s.hub
    (.device 0x30 [r.op, s.hub.val (Od.regionPartition (selector (s.hub.ctx r.ctx).localBind % 8)), s.hub.val (Od.regionBaseLba
    (selector (s.hub.ctx r.ctx).localBind % 8)) + r.lba + r.done, s.hub.io.emmc.chunk - 1, b2n r.fua] (if r.op = 2 then
    r.data.take (512 * (s.hub.io.emmc.chunk - 1)) else [])))) ∧
  (∀ (s : State) (i : Nat) (r : BlockReq) (res : Fin 3) (r1 : Word) (data : Bytes), s.hub.live → s.hub.io.emmc.running = some i
    → s.hub.io.emmc.first i = some r → s.hub.io.emmc.chunk ≠ 0 → s.hub.io.emmc.orphan = false → res = 2 ∨ (res = 1 ∧ 3 ≤
    s.hub.io.emmc.retries) → s.hub.takesIn i → Completes (.emmcCommandDone res r1 data) s (fun h => h.segOffered i (u8 (r.op +
    0x80) ++ u8 0 ++ u16 r.tag ++ u32 (abFailed (if res = 2 then 0x12 else 0x10)) ++ u32 r.done ++ u32 r1.toNat) false ∧
    h.io.emmc.lastError = r1.toNat)) ∧
  (∀ (s : State) (i : Nat) (r : BlockReq), s.hub.live → s.hub.io.emmc.running = some i → s.hub.io.emmc.first i = some r →
    s.hub.io.emmc.chunk ≠ 0 → s.hub.io.emmc.orphan = false → s.hub.takesIn i → Completes (.emmcDeviceTimeout) s (fun h => (if
    s.hub.io.emmc.retries < 3 then h.io.emmc = { s.hub.io.emmc with retries := s.hub.io.emmc.retries + 1 } else h.io.emmc.state =
    .initialising ∧ h.segOffered i (u8 (r.op + 0x80) ++ u8 0 ++ u16 r.tag ++ u32 (abFailed 0x11) ++ u32 r.done ++ u32
    s.hub.io.emmc.lastR1) false))) ∧
  (∀ (s : State) (n : Fin 6) (data : Bytes) (i : Nat), s.hub.live → s.hub.serRuns n = true → s.hub.val (Od.serMode n) = 0 → data
    ≠ [] → s.hub.val (Od.serFlow n) = 1 ∨ s.hub.stageRoom (23 + n) (data.take 256).length = true → s.hub.boundBy 0 (fun b =>
    decide (portCode b = 0x70 + n)) = some i → s.hub.plainIn (23 + n) → s.hub.takesIn i → Completes (.uartRxSegment n data) s
    (fun h => h.segOffered i (data.take 256) false)) ∧
  (∀ (s : State) (n : Fin 6) (data : Bytes), s.hub.live → s.hub.serRuns n = true → s.hub.val (Od.serMode n) = 0 → data ≠ [] →
    s.hub.val (Od.serFlow n) = 0 → s.hub.stageRoom (23 + n) (data.take 256).length = false → Completes (.uartRxSegment n data) s
    (fun h => h.val (Od.serRxOverrun n) = trunc 32 (s.hub.val (Od.serRxOverrun n) + (data.take 256).length) ∧ h.eng = s.hub.eng ∧
    h.sw = s.hub.sw)) ∧
  (∀ (s : State) (n : Fin 6) (x : OutSeg) (l : List OutSeg), s.hub.live → s.hub.outQ (23 + n) = x :: l → s.hub.serRuns n = true
    → s.hub.loopOn (19 + n) = false → (s.hub.ser n).busy = none → s.hub.val (Od.serMode n) ≤ 2 → Completes (.serSegment n) s (fun
    h => (if s.hub.val (Od.serMode n) = 0 then (if s.hub.val (Od.serFlow n) = 1 ∧ (s.hub.ser n).ctsHigh = true then h.io =
    s.hub.io ∧ h.sw = s.hub.sw else h.outQ (23 + n) = l ∧ h.gave s.hub (.frame (0x70 + n) x.data) ∧ h.ser n = s.hub.ser n) else
    h.outQ (23 + n) = l) ∧ (s.hub.val (Od.serMode n) = 1 → (h.ser n).busy = some (x.ctx, x.data.length) ∧ h.gave s.hub (.device
    (0x70 + n) [1] x.data)) ∧ (s.hub.val (Od.serMode n) = 2 → (h.ser n).busy = some (x.ctx, field x.data 1 1) ∧ h.gave s.hub
    (.device (0x70 + n) [2, selector x.bind % 128, field x.data 0 1, field x.data 1 1] ((x.data.drop 2).take (field x.data 0
    1)))))) ∧
  (∀ (s : State) (n : Fin 6) (status : Fin 5) (data d : Bytes) (i l : Nat), s.hub.live → (s.hub.ser n).busy = some (i, l) →
    portCode (s.hub.ctx i).localBind = 0x70 + n → (s.hub.ctx i).role ≠ .transit → s.hub.plainIn (23 + n) → s.hub.takesIn i → d =
    (if s.hub.val (Od.serMode n) = 2 then u8 status ++ data.take l else data.take l) → d ≠ [] → Completes (.serTransactionDone n
    status data) s (fun h => (h.ser n).busy = none ∧ h.segOffered i d false)) ∧
  (∀ (s : State) (n : Fin 6) (level : Bool), s.hub.live → Completes (.ctsNChange n level) s (fun h => h.ser n =
    { s.hub.ser n with ctsHigh := level } ∧ h.io.outQ = s.hub.io.outQ))

/-- What camera packets, DSI frame starts and lines, SHOW_SLOT and DSI_PACKET leave. On a running camera port. A frame start
opens a frame of its virtual channel at CLOCK; one still open ends, flagged BAD. A long packet with a header beyond
correction, of an unsupported type, or with no open frame is counted and starts no job. The first of a stream, nothing
damaged, takes the tunnel it matches with that tunnel's next frame number and gathers its pixels, or is counted in CLS_MISS.
Later pixels of a line as long as the first gather until a segment is full, which goes out where the tunnel stands and
staging has room. A frame end sends the last segment with EOF, counts the frame and closes it. Of DSI0: a frame start waits
for all lines and the shortest front porch; it shows the ready frame (the buffers swap in the double layout, a stall ends
with its event), or, none being ready at the longest porch, repeats the frame below STALL_FRAMES. A line moves the timing on:
in sync and back porch alone; an active one, nothing damaged, gives the bytes of the frame store, or the fill, and leaves
memory; in the porch it counts, and the porch's first line also sends a waiting DSI_PACKET, which ends. SHOW_SLOT, nothing
waiting at Keeper, is stored and discards the frame being written (and in the double layout the ready one). DSI_PACKET is
sent at once to its outputs that do not run; it ends where no other is named, and else waits for the front porch. -/
def Obligations.CameraFramesEnterAndDisplayFramesLeave : Prop :=
  (∀ (s : State) (n : Fin 2) (vc : Fin 4), s.hub.live → s.hub.csiRuns n = true → (∀ f ∈ (s.hub.csi n).frames, f.1 ≠ vc.val) →
    Completes (.csiFrameStart n vc) s (fun h => h.csi n =
    { s.hub.csi n with frames := (s.hub.csi n).frames ++ [(vc.val, s.hub.ns)] } ∧ h.od = s.hub.od)) ∧
  (∀ (s : State) (n : Fin 2) (vc : Fin 4), s.hub.live → s.hub.csiRuns n = true → (∃ f ∈ (s.hub.csi n).frames, f.1 = vc.val) →
    Completes (.csiFrameStart n vc) s (fun h => (h.csi n).frames = (s.hub.csi n).frames.filter (fun f => decide (f.1 ≠ vc.val))
    ++ [(vc.val, s.hub.ns)] ∧ bit (6 + n) (h.reg Rg.vidFlags) = true ∧ (∀ x ∈ (h.csi n).streams, x.vc ≠ vc.val))) ∧
  (∀ (s : State) (n : Fin 2) (vc : Fin 4) (dt : Fin 64) (hdr : Fin 3) (data : Bytes) (crcOk : Bool), s.hub.live → s.hub.csiRuns
    n = true → (hdr = 2 ∨ dtBits dt = 0 ∨ ∀ f ∈ (s.hub.csi n).frames, f.1 ≠ vc.val) → Completes (.csiLongPacket n vc dt hdr data
    crcOk) s (fun h => h.eng = s.hub.eng ∧ (h.csi n).streams = (s.hub.csi n).streams ∧ (if hdr = 2 then h.val (Od.csiHeaderErrors
    n) = trunc 32 (s.hub.val (Od.csiHeaderErrors n) + 1) else if dtBits dt = 0 then h.val (Od.csiUnsupportedDt n) = trunc 32
    (s.hub.val (Od.csiUnsupportedDt n) + 1) else h.val (Od.csiCrcErrors n) = trunc 32 (s.hub.val (Od.csiCrcErrors n) + 1)))) ∧
  (∀ (s : State) (n : Fin 2) (vc : Fin 4) (dt : Fin 64) (hdr : Fin 3) (data : Bytes) (start : Nat), s.hub.live → s.hub.csiRuns n
    = true → hdr ≠ 2 → dtBits dt ≠ 0 → (s.hub.csi n).frames.find? (fun f => decide (f.1 = vc.val)) = some (vc.val, start) →
    (s.hub.csi n).streams.find? (fun x => decide (x.vc = vc.val) && decide (x.dt = dt.val)) = none → s.hub.sw.damaged = [] →
    clsWinner (0x40 + n) (.csi vc dt) s.hub.sw.cls.cells = none → Completes (.csiLongPacket n vc dt hdr data true) s (fun h =>
    h.val (Od.csiClsMiss n) = trunc 32 (s.hub.val (Od.csiClsMiss n) + 1) ∧ h.eng = s.hub.eng ∧ (∃ x ∈ (h.csi n).streams, x.vc =
    vc.val ∧ x.dt = dt.val ∧ x.ctx = none))) ∧
  (∀ (s : State) (n : Fin 2) (vc : Fin 4) (dt : Fin 64) (hdr : Fin 3) (data : Bytes) (start k i : Nat) (e : ClsEntry),
    s.hub.live → s.hub.csiRuns n = true → hdr ≠ 2 → dtBits dt ≠ 0 → (s.hub.csi n).frames.find? (fun f => decide (f.1 = vc.val)) =
    some (vc.val, start) → (s.hub.csi n).streams.find? (fun x => decide (x.vc = vc.val) && decide (x.dt = dt.val)) = none →
    s.hub.sw.damaged = [] → clsWinner (0x40 + n) (.csi vc dt) s.hub.sw.cls.cells = some (k, e) → s.hub.live? e.handle = some i →
    data.length ≤ (s.hub.ctx i).maxSeg - 16 → Completes (.csiLongPacket n vc dt hdr data true) s (fun h => (∃ x ∈ (h.csi
    n).streams, x.vc = vc.val ∧ x.dt = dt.val ∧ x.ctx = some i ∧ x.frame = (s.hub.csi n).frameNos.get 0 i ∧ x.gathered = data ∧
    x.started = false) ∧ (h.csi n).frameNos.get 0 i = ((s.hub.csi n).frameNos.get 0 i + 1) % 65536 ∧ h.eng = s.hub.eng)) ∧
  (∀ (s : State) (n : Fin 2) (vc : Fin 4) (dt : Fin 64) (hdr : Fin 3) (data : Bytes) (start i r : Nat) (x : CsiStream),
    s.hub.live → s.hub.csiRuns n = true → hdr ≠ 2 → dtBits dt ≠ 0 → (s.hub.csi n).frames.find? (fun f => decide (f.1 = vc.val)) =
    some (vc.val, start) → (s.hub.csi n).streams.find? (fun x => decide (x.vc = vc.val) && decide (x.dt = dt.val)) = some x →
    x.ctx = some i → x.dropped = false → x.started = true → x.lineLen = data.length → vc.val ∉ (s.hub.csi n).badVcs → r =
    (s.hub.ctx i).maxSeg - 8 → r ≠ 0 → x.gathered.length + data.length ≤ r → Completes (.csiLongPacket n vc dt hdr data true) s
    (fun h => h.eng = s.hub.eng ∧ { x with gathered := x.gathered ++ data } ∈ (h.csi n).streams)) ∧
  (∀ (s : State) (n : Fin 2) (vc : Fin 4) (dt : Fin 64) (hdr : Fin 3) (data : Bytes) (start i r : Nat) (x : CsiStream),
    s.hub.live → s.hub.csiRuns n = true → hdr ≠ 2 → dtBits dt ≠ 0 → (s.hub.csi n).frames.find? (fun f => decide (f.1 = vc.val)) =
    some (vc.val, start) → (s.hub.csi n).streams.find? (fun x => decide (x.vc = vc.val) && decide (x.dt = dt.val)) = some x →
    x.ctx = some i → x.dropped = false → x.started = true → x.lineLen = data.length → vc.val ∉ (s.hub.csi n).badVcs → r =
    (s.hub.ctx i).maxSeg - 8 → r ≠ 0 → r < x.gathered.length + data.length → data ≠ [] → s.hub.stageRoom (12 + n) (videoSegment x
    start false false ((x.gathered ++ data).take r)).length = true → s.hub.plainIn (12 + n) → s.hub.takesIn i → (s.hub.ctx
    i).role ≠ .transit → portCode (s.hub.ctx i).localBind = 0x40 + n → Completes (.csiLongPacket n vc dt hdr data true) s (fun h
    => h.segOffered i (videoSegment x start false false ((x.gathered ++ data).take r)) false)) ∧
  (∀ (s : State) (n : Fin 2) (vc : Fin 4) (start i : Nat) (x : CsiStream), s.hub.live → s.hub.csiRuns n = true → (s.hub.csi
    n).frames.find? (fun f => decide (f.1 = vc.val)) = some (vc.val, start) → (s.hub.csi n).streams.filter (fun x => decide (x.vc
    = vc.val)) = [x] → x.ctx = some i → x.dropped = false → x.started = true → s.hub.stageRoom (12 + n) (videoSegment x start
    (decide (vc.val ∈ (s.hub.csi n).badVcs)) true x.gathered).length = true → s.hub.plainIn (12 + n) → s.hub.takesIn i →
    (s.hub.ctx i).role ≠ .transit → portCode (s.hub.ctx i).localBind = 0x40 + n → Completes (.csiFrameEnd n vc) s (fun h =>
    h.segOffered i (videoSegment x start (decide (vc.val ∈ (s.hub.csi n).badVcs)) true x.gathered) false ∧ h.val (Od.csiFramesIn
    n) = trunc 32 (s.hub.val (Od.csiFramesIn n) + 1) ∧ (h.csi n).frames = (s.hub.csi n).frames.filter (fun f => decide (f.1 ≠
    vc.val)) ∧ (h.csi n).streams = (s.hub.csi n).streams.filter (fun y => decide (y.vc ≠ vc.val)))) ∧
  (∀ (s : State) (w : WriteFrame), s.hub.live → s.hub.vid.dsi ≠ .off → s.hub.frameLines ≤ s.hub.vid.line → s.hub.val
    Od.dsiVfpMin ≤ s.hub.vid.porch → s.hub.shownCtx.isSome = true → s.hub.vid.ready = some w → Completes (.dsiFrameStart) s (fun
    h => h.vid.shown = some w ∧ h.vid.ready = none ∧ h.vid.dsi = .running ∧ h.vid.line = 0 ∧ h.vid.porch = 0 ∧ h.vid.repeats = 0
    ∧ h.vid.front = (if s.hub.val Od.fsLayout = 0 then 1 - s.hub.vid.front else s.hub.vid.front) ∧ (h.val Od.dsiFramesShown =
    trunc 64 (s.hub.val Od.dsiFramesShown + 1) ∧ (s.hub.vid.dsi = .stalled → h.raised Ev.videoResumed s.hub.stallData)))) ∧
  (∀ (s : State), s.hub.live → s.hub.vid.dsi = .running → s.hub.frameLines ≤ s.hub.vid.line → s.hub.val Od.dsiVfpMin ≤
    s.hub.vid.porch → s.hub.val Od.dsiVfpMax ≤ s.hub.vid.porch → s.hub.shownCtx.isSome = true → s.hub.vid.ready = none →
    s.hub.vid.writing = none → s.hub.vid.repeats < 65535 → s.hub.vid.inForce.stallFrames = s.hub.val Od.dsiStallFrames →
    s.hub.vid.inForce.stallFrames = 0 ∨ s.hub.vid.repeats + 1 < s.hub.vid.inForce.stallFrames → Completes (.dsiFrameStart) s (fun
    h => h.vid.shown = s.hub.vid.shown ∧ h.vid.dsi = .running ∧ h.vid.line = 0 ∧ h.vid.porch = 0 ∧ h.vid.repeats =
    s.hub.vid.repeats + 1 ∧ h.vid.front = s.hub.vid.front ∧ h.val Od.dsiFramesRepeated = trunc 32 (s.hub.val Od.dsiFramesRepeated
    + 1))) ∧
  (∀ (s : State), s.hub.live → s.hub.vid.dsi = .off ∨ s.hub.vid.line < s.hub.frameLines ∨ s.hub.vid.porch < s.hub.val
    Od.dsiVfpMin → Completes (.dsiFrameStart) s (fun h => h.vid = s.hub.vid ∧ h.od = s.hub.od)) ∧
  (∀ (s : State) (fill : Fin 33) (empty : Option (BitVec 11)), s.hub.live → s.hub.vid.dsi ≠ .off → s.hub.vid.line < s.hub.val
    Od.dsiVsync + s.hub.val Od.dsiVbp → Completes (.dsiLine fill empty) s (fun h => h.vid =
    { s.hub.vid with fill := fill.val, line := s.hub.vid.line + 1, porch := 0 } ∧ h.od = s.hub.od ∧ h.mem = s.hub.mem)) ∧
  (∀ (s : State) (fill : Fin 33) (dt bytes base : Nat), s.hub.live → s.hub.vid.dsi ≠ .off → s.hub.val Od.dsiVsync + s.hub.val
    Od.dsiVbp ≤ s.hub.vid.line → s.hub.vid.line < s.hub.frameLines → dt = (s.hub.vid.shown.map (·.dt)).getD 0x24 → bytes =
    s.hub.lineBytes dt → base = bufferBase (s.hub.val Od.fsLayout) s.hub.vid.front + (s.hub.vid.line - (s.hub.val Od.dsiVsync +
    s.hub.val Od.dsiVbp)) * bytes → s.hub.sw.damaged = [] → Completes (.dsiLine fill none) s (fun h => h.vid.line =
    s.hub.vid.line + 1 ∧ h.mem = s.hub.mem ∧ h.gave s.hub (.frame 0x48 (outLine dt s.hub.vid.inForce.colour 0 (if
    s.hub.vid.filling then List.replicate bytes none else (s.hub.memReadBytes base bytes).map some))))) ∧
  (∀ (s : State) (fill : Fin 33) (empty : Option (BitVec 11)), s.hub.live → s.hub.vid.dsi ≠ .off → s.hub.frameLines ≤
    s.hub.vid.line → s.hub.vid.porch ≠ 0 → Completes (.dsiLine fill empty) s (fun h => h.vid =
    { s.hub.vid with fill := fill.val, porch := s.hub.vid.porch + 1 })) ∧
  (∀ (s : State) (fill : Fin 33) (empty : Option (BitVec 11)) (b : Bytes) (outs sent c : Nat), s.hub.live → s.hub.vid.dsi ≠ .off
    → s.hub.frameLines ≤ s.hub.vid.line → s.hub.vid.porch = 0 → s.hub.vid.packets = [(b, outs, sent, c)] → (s.hub.chan c).state =
    .running → Completes (.dsiLine fill empty) s (fun h => h.vid.packets = [] ∧ h.vid.porch = 1 ∧ h.ended c (s.hub.chan c).code
    (s.hub.chan c).tag 0 (u8 (outs ||| sent)) ∧ (∀ o < 2, bit o outs = true → h.gave s.hub (.device (0x48 + o) [field b 1 1,
    field b 2 1] (b.drop 4))))) ∧
  (∀ (s : State) (req : Path) (slot : Fin 4), s.hub.live → s.hub.keeperUp = true → s.hub.odWriteBad req Od.dsiShowSlot.key (u8
    slot) = none → s.hub.mirroring = false → s.hub.ctl.keeperQ = [] → Completes (.showSlotWrite req slot) s (fun h => h.val
    Od.dsiShowSlot = slot.val ∧ h.vid.writing = none ∧ h.vid.ready = (if s.hub.val Od.fsLayout = 0 then none else
    s.hub.vid.ready) ∧ h.gave s.hub (.answer req 0 []))) ∧
  (∀ (s : State) (req : Path) (c : Fin 8) (tag : BitVec 16) (outs : Fin 4) (ty : Byte) (vc : Fin 4) (d b : Bytes) (now : Nat),
    s.hub.takes req c 0x0810 → s.hub.inFog = false → s.hub.domOn 13 = true → outs.val ≠ 0 → dsiLength ty.toNat = some (some
    d.length) ∨ (dsiLength ty.toNat = some none ∧ d.length ≤ 64) → b = u8 outs ++ [ty] ++ u8 vc ++ u8 d.length ++ d → (now = (if
    s.hub.vid.dsi = .off then outs.val else if s.hub.val Od.dsi1Enable = 1 then 0 else 2 * (outs.val / 2))) → Completes
    (.dsiPacket req c tag b) s (fun h => (∀ o < 2, bit o now = true → h.gave s.hub (.device (0x48 + o) [ty.toNat, vc.val] d)) ∧
    (if now = outs.val then h.vid = s.hub.vid ∧ h.ended c 0x0810 tag.toNat 0 (u8 outs) else h.vid.packets = s.hub.vid.packets ++
    [(b, outs.val - now, now, c.val)] ∧ h.busyWith c 0x0810 tag.toNat)))

/-- What connections, SETUP, the standard requests, port requests, tunnelled requests and their replies leave. A hub or function
whose conditions hold connects anew (the function's change bit set, one waiting USB_RECONNECT ended); a hub whose conditions
do not hold disconnects. A SETUP that reaches a device is acknowledged and stands as its transfer; else nothing changes. Of
the request that stands: SET_ADDRESS gives the address and state; SET_CONFIGURATION 0 or 1, the function allowed, clears
toggles, settings and IN queues, and another value stalls; SET_INTERFACE of a listed setting gives it and clears its toggles,
another stalls; GET_DESCRIPTOR, GET_STATUS, GET_CONFIGURATION and GET_INTERFACE answer with the device's bytes cut to
wLength, and qualifier and other-speed descriptors stall; halts are set and cleared with the toggle, of other endpoints
stalled; remote wakeup is stored; test mode is taken by a hub in BENCH only. Port requests reset, power, suspend or resume
the named function. TT requests succeed. A class or vendor IN request of a function without a control tunnel goes to Keeper
with the next CTRL_SEQ and waits; an unknown standard one stalls. The REPLY of that number completes or stalls it; one of
another number is counted; CTRL_TIMEOUT stalls, counts, flags and raises. With no transfer standing, each of twelve of these
commands completes and leaves the USB state as it was. -/
def Obligations.UsbDevicesAnswerTheirControlRequests : Prop :=
  (∀ (s : State) (n : Fin 2), s.hub.live → s.hub.hsicMay n = true → (s.hub.dev (5 * n)).state = .off ∨ (s.hub.dev (5 * n)).state
    = .disconnected → Completes (.hsicConnect n) s (fun h => (h.dev (5 * n) = { UsbDev.init with state := .default } ∧
    ((s.hub.domain 12).padsHeld = false → h.gave s.hub (.line (.hsic n) 1))))) ∧
  (∀ (s : State) (n : Fin 2), s.hub.live → s.hub.hsicMay n = false → (s.hub.dev (5 * n)).state ≠ .off → (s.hub.dev (5 *
    n)).state ≠ .disconnected → Completes (.hsicConnect n) s (fun h => (h.dev (5 * n) =
    { UsbDev.init with state := if s.hub.val (Od.hsicEnable n) = 1 then .disconnected else .off }) ∧ (∀ f : Fin 4, (h.dev (fnKey
    n f)).portPower = false))) ∧
  (∀ (s : State) (n : Fin 2) (f : Fin 4), s.hub.live → (s.hub.dev (fnKey n f)).state = .off ∨ (s.hub.dev (fnKey n f)).state =
    .disconnected → s.hub.fnMayConnect n f = true → Completes (.functionConnect n f) s (fun h => (h.dev (fnKey n f)).state =
    .powered ∧ bit 0 (h.dev (fnKey n f)).change = true ∧ (h.dev (fnKey n f)).reconnects = [] ∧ (∀ c < 8, (s.hub.dev (fnKey n
    f)).reconnects = [c] → (s.hub.chan c).state = .running → h.ended c (s.hub.chan c).code (s.hub.chan c).tag 0 (u8 1)))) ∧
  (∀ (s : State) (n : Fin 2) (k : Fin 5) (setup : BitVec 64), s.hub.live → Completes (.setup n k setup) s (fun h => (if
    s.hub.reaches (5 * n + k) = true then (h.dev (5 * n + k)).ctrl = some ⟨leBytes 8 setup.toNat, false⟩ ∧ h.gave s.hub (.usb (5
    * n + k) 0 0 []) else h.usb = s.hub.usb))) ∧
  (∀ (s : State) (n : Fin 2) (k : Fin 5) (b : Bytes), s.hub.live → s.hub.setupFor (5 * n + k) .setAddress = some b → Completes
    (.setAddress n k) s (fun h => (h.dev (5 * n + k)).address = field b 2 1 % 128 ∧ (h.dev (5 * n + k)).ctrl = none ∧ h.gave
    s.hub (.usb (5 * n + k) 0 0 []) ∧ ((h.dev (5 * n + k)).state = if (s.hub.dev (5 * n + k)).state = .configured then
    .configured else if field b 2 1 % 128 = 0 then .default else .addressed))) ∧
  (∀ (s : State) (n : Fin 2) (k : Fin 5) (b : Bytes), s.hub.live → s.hub.setupFor (5 * n + k) .setConfiguration = some b → field
    b 2 2 ≤ 1 → (s.hub.dev (5 * n + k)).state = .addressed ∨ (s.hub.dev (5 * n + k)).state = .configured → k.val = 0 ∨
    s.hub.fnMayConnect n (k.val - 1) = true → Completes (.setConfiguration n k) s (fun h => (h.dev (5 * n + k)).configuration =
    field b 2 2 ∧ (h.dev (5 * n + k)).state = (if field b 2 2 = 1 then .configured else .addressed) ∧ (h.dev (5 * n + k)).toggles
    = ⟨[]⟩ ∧ (h.dev (5 * n + k)).alts = ⟨[]⟩ ∧ (h.dev (5 * n + k)).ctrl = none ∧ ((k.val ≠ 0 → (h.dev (5 * n + k)).inQueue = [])
    ∧ h.gave s.hub (.usb (5 * n + k) 0 0 [])))) ∧
  (∀ (s : State) (n : Fin 2) (k : Fin 5) (b : Bytes), s.hub.live → s.hub.setupFor (5 * n + k) .setConfiguration = some b → 1 <
    field b 2 2 → Completes (.setConfiguration n k) s (fun h => h.dev (5 * n + k) = { s.hub.dev (5 * n + k) with ctrl := none } ∧
    h.gave s.hub (.usb (5 * n + k) 0 2 []))) ∧
  (∀ (s : State) (n : Fin 2) (k : Fin 5) (b : Bytes), s.hub.live → s.hub.setupFor (5 * n + k) .setInterface = some b → k.val ≠ 0
    → (s.hub.dev (5 * n + k)).state = .configured → (∃ d ∈ confIfaces (s.hub.confDesc n (k.val - 1)), d.1 = field b 4 2 ∧ d.2.1 =
    field b 2 2) → Completes (.setInterface n k) s (fun h => (h.dev (5 * n + k)).alts.get 0 (field b 4 2) = field b 2 2 ∧ (h.dev
    (5 * n + k)).ctrl = none ∧ h.gave s.hub (.usb (5 * n + k) 0 0 []) ∧ (∀ e ∈ confEndpoints (s.hub.confDesc n (k.val - 1)),
    e.iface = field b 4 2 → e.alt = field b 2 2 → (h.dev (5 * n + k)).toggles.get 0 e.addr = 0))) ∧
  (∀ (s : State) (n : Fin 2) (k : Fin 5) (b : Bytes), s.hub.live → s.hub.setupFor (5 * n + k) .setInterface = some b → k.val ≠ 0
    → (∀ d ∈ confIfaces (s.hub.confDesc n (k.val - 1)), ¬(d.1 = field b 4 2 ∧ d.2.1 = field b 2 2)) → Completes (.setInterface n
    k) s (fun h => h.dev (5 * n + k) = { s.hub.dev (5 * n + k) with ctrl := none } ∧ h.gave s.hub (.usb (5 * n + k) 0 2 []))) ∧
  (∀ (s : State) (n : Fin 2) (b : Bytes), s.hub.live → s.hub.setupFor (5 * n) .getDescriptor = some b → field b 3 1 = 1 ∨ (field
    b 3 1 = 2 ∧ field b 2 1 = 0) ∨ field b 3 1 = 0x29 → Completes (.getDescriptor n 0) s (fun h => (h.usbAnswered s.hub (5 * n)
    ((if field b 3 1 = 1 then s.hub.hubDevDesc n else if field b 3 1 = 2 then hubConfDesc else hubHubDesc).take (field b 6 2))))) ∧
  (∀ (s : State) (n : Fin 2) (k : Fin 5) (b d : Bytes), s.hub.live → s.hub.setupFor (5 * n + k) .getDescriptor = some b → k.val
    ≠ 0 → (d = (if field b 3 1 = 1 then s.hub.blobVal (Od.fnDevDesc (fnIx n (k.val - 1))) else if field b 3 1 = 2 then
    s.hub.confDesc n (k.val - 1) else s.hub.blobVal (Od.fnStringI (fnIx n (k.val - 1)) (field b 2 1)))) → field b 3 1 = 1 ∨
    (field b 3 1 = 2 ∧ field b 2 1 = 0) ∨ (field b 3 1 = 3 ∧ field b 2 1 < 16 ∧ d ≠ []) → Completes (.getDescriptor n k) s (fun h
    => h.usbAnswered s.hub (5 * n + k) (d.take (field b 6 2)) ∧ (h.dev (5 * n + k)).ctrl = none)) ∧
  (∀ (s : State) (n : Fin 2) (k : Fin 5) (b : Bytes), s.hub.live → s.hub.setupFor (5 * n + k) .getDescriptor = some b → k.val ≠
    0 → field b 3 1 = 6 ∨ field b 3 1 = 7 → Completes (.getDescriptor n k) s (fun h => h.gave s.hub (.usb (5 * n + k) 0 2 []) ∧
    (h.dev (5 * n + k)).ctrl = none)) ∧
  (∀ (s : State) (n : Fin 2) (k : Fin 5) (b : Bytes), s.hub.live → s.hub.setupFor (5 * n + k) .getStatus = some b → field b 0 1
    = 0x80 ∨ (field b 0 1 = 0xA3 ∧ k.val = 0 ∧ 1 ≤ field b 4 2 ∧ field b 4 2 ≤ 4) ∨ field b 0 1 = 0x81 → Completes (.getStatus n
    k) s (fun h => (h.usbAnswered s.hub (5 * n + k) ((if field b 0 1 = 0x80 then u16 (b2n (decide (k.val = 0) || bit 6 (field
    (s.hub.confDesc n (k.val - 1)) 7 1)) + 2 * b2n (s.hub.dev (5 * n + k)).rwake) else if field b 0 1 = 0xA3 then
    s.hub.portStatus n (field b 4 2 - 1) else [0, 0]).take (field b 6 2))))) ∧
  (∀ (s : State) (n : Fin 2) (k : Fin 5) (b : Bytes), s.hub.live → s.hub.setupFor (5 * n + k) .getConfiguration = some b →
    Completes (.getConfiguration n k) s (fun h => h.usbAnswered s.hub (5 * n + k) ((u8 (s.hub.dev (5 * n +
    k)).configuration).take (field b 6 2)) ∧ h.dev (5 * n + k) = { s.hub.dev (5 * n + k) with ctrl := none })) ∧
  (∀ (s : State) (n : Fin 2) (k : Fin 5) (b : Bytes), s.hub.live → s.hub.setupFor (5 * n + k) .getInterface = some b →
    (s.hub.dev (5 * n + k)).state = .configured → (if k.val = 0 then field b 4 2 = 0 else ∃ d ∈ confIfaces (s.hub.confDesc n
    (k.val - 1)), d.1 = field b 4 2) → Completes (.getInterface n k) s (fun h => h.usbAnswered s.hub (5 * n + k) ((u8 ((s.hub.dev
    (5 * n + k)).alts.get 0 (field b 4 2))).take (field b 6 2)))) ∧
  (∀ (s : State) (n : Fin 2) (k : Fin 5) (b : Bytes), s.hub.live → s.hub.setupFor (5 * n + k) .setHalt = some b → Completes
    (.setFeatureEndpointHalt n k) s (fun h => (if s.hub.haltable (5 * n + k) (field b 4 2) = true then (h.dev (5 * n +
    k)).halts.get 0 (field b 4 2) = 1 ∧ h.gave s.hub (.usb (5 * n + k) 0 0 []) else (h.dev (5 * n + k)).halts = (s.hub.dev (5 * n
    + k)).halts ∧ h.gave s.hub (.usb (5 * n + k) 0 2 [])))) ∧
  (∀ (s : State) (n : Fin 2) (k : Fin 5) (b : Bytes), s.hub.live → s.hub.setupFor (5 * n + k) .clearHalt = some b → Completes
    (.clearFeatureEndpointHalt n k) s (fun h => (if s.hub.haltable (5 * n + k) (field b 4 2) = true then (h.dev (5 * n +
    k)).halts.get 0 (field b 4 2) = 0 ∧ (h.dev (5 * n + k)).toggles.get 0 (field b 4 2) = 0 ∧ h.gave s.hub (.usb (5 * n + k) 0 0
    []) else (h.dev (5 * n + k)).halts = (s.hub.dev (5 * n + k)).halts ∧ h.gave s.hub (.usb (5 * n + k) 0 2 [])))) ∧
  (∀ (s : State) (n : Fin 2) (k : Fin 5) (b : Bytes), s.hub.live → s.hub.setupFor (5 * n + k) .remoteWakeup = some b → Completes
    (.setFeatureRemoteWakeup n k) s (fun h => h.dev (5 * n + k) =
    { s.hub.dev (5 * n + k) with ctrl := none, rwake := decide (field b 1 1 = 3) } ∧ h.gave s.hub (.usb (5 * n + k) 0 0 []))) ∧
  (∀ (s : State) (n : Fin 2) (k : Fin 5) (b : Bytes), s.hub.live → s.hub.setupFor (5 * n + k) .testMode = some b → Completes
    (.setFeatureTestMode n k) s (fun h => (if k.val = 0 ∧ s.hub.mode.active = .bench then h.dev (5 * n + k) =
    { s.hub.dev (5 * n + k) with ctrl := none, testMode := field b 5 1 } ∧ h.gave s.hub (.device (0x50 + n) [field b 5 1] [])
    else h.dev (5 * n + k) = { s.hub.dev (5 * n + k) with ctrl := none } ∧ h.gave s.hub (.usb (5 * n + k) 0 2 [])))) ∧
  (∀ (s : State) (n : Fin 2) (b : Bytes) (f : Nat), s.hub.live → s.hub.setupFor (5 * n) .portReset = some b → portOf b = some f
    → Completes (.setFeaturePortReset n) s (fun h => (h.dev (fnKey n f)).portReset = true ∧ (h.dev (fnKey n f)).portEnable =
    false ∧ (h.dev (fnKey n f)).address = 0 ∧ (h.dev (fnKey n f)).configuration = 0 ∧ (h.dev (fnKey n f)).halts = ⟨[]⟩ ∧ h.gave
    s.hub (.usb (5 * n) 0 0 []))) ∧
  (∀ (s : State) (n : Fin 2) (f : Fin 4), s.hub.live → Completes (.portResetDone n f) s (fun h => (if (s.hub.dev (fnKey n
    f)).portReset = true then h.dev (fnKey n f) =
    { s.hub.dev (fnKey n f) with portReset := false, portEnable := decide ((s.hub.dev (fnKey n f)).state ≠ .off) && decide ((s.hub.dev (fnKey n f)).state ≠ .disconnected), change := setBit 4 (s.hub.dev (fnKey n f)).change }
    else h.usb = s.hub.usb))) ∧
  (∀ (s : State) (n : Fin 2) (b : Bytes) (f : Nat), s.hub.live → s.hub.setupFor (5 * n) .portPower = some b → portOf b = some f
    → Completes (.portPower n) s (fun h => ((h.dev (fnKey n f)).portPower = decide (field b 1 1 = 3) ∧ (field b 1 1 ≠ 3 → (h.dev
    (fnKey n f)).portEnable = false) ∧ h.gave s.hub (.usb (5 * n) 0 0 [])))) ∧
  (∀ (s : State) (n : Fin 2) (b : Bytes) (f : Nat), s.hub.live → s.hub.setupFor (5 * n) .setPortSuspend = some b → portOf b =
    some f → Completes (.setFeaturePortSuspend n) s (fun h => (h.dev (fnKey n f)).suspended = ((s.hub.dev (fnKey n f)).suspended
    || (s.hub.dev (fnKey n f)).portEnable) ∧ h.gave s.hub (.usb (5 * n) 0 0 []))) ∧
  (∀ (s : State) (n : Fin 2) (b : Bytes) (f : Nat), s.hub.live → s.hub.setupFor (5 * n) .clearPortSuspend = some b → portOf b =
    some f → (s.hub.dev (fnKey n f)).suspended = true → Completes (.clearFeaturePortSuspend n) s (fun h => (h.dev (fnKey n
    f)).suspended = false ∧ (h.dev (fnKey n f)).resuming = true ∧ (h.dev (fnKey n f)).wakePending = false ∧ h.gave s.hub (.usb (5
    * n) 0 0 []))) ∧
  (∀ (s : State) (n : Fin 2) (b : Bytes), s.hub.live → s.hub.setupFor (5 * n) .tt = some b → Completes (.ttRequest n) s (fun h
    => h.dev (5 * n) = { s.hub.dev (5 * n) with ctrl := none } ∧ h.gave s.hub (.usb (5 * n) 0 0 []))) ∧
  (∀ (s : State) (n : Fin 2) (k : Fin 5) (data b : Bytes), s.hub.live → s.hub.setupFor (5 * n + k) .other = some b → k.val ≠ 0 →
    bits 6 5 (field b 0 1) ≠ 0 → bit 7 (field b 0 1) = true → s.hub.epCtx n (k.val - 1) 0 true = none → Completes
    (.controlRequest n k data) s (fun h => (h.dev (5 * n + k)).ctrl = some ⟨b, true⟩ ∧ (h.dev (5 * n + k)).ctrlSeq = ((s.hub.dev
    (5 * n + k)).ctrlSeq + 1) % 65536 ∧ h.gave s.hub (.deliver (0x90 * 2 ^ 24) (u8 1 ++ u8 (k.val - 1) ++ u16 (((s.hub.dev (5 * n
    + k)).ctrlSeq + 1) % 65536) ++ [0, 0, 0, 0] ++ b)))) ∧
  (∀ (s : State) (n : Fin 2) (k : Fin 5) (data b : Bytes), s.hub.live → s.hub.setupFor (5 * n + k) .other = some b → k.val ≠ 0 →
    bits 6 5 (field b 0 1) = 0 → field b 0 2 ≠ 0x0681 → Completes (.controlRequest n k data) s (fun h => h.dev (5 * n + k) =
    { s.hub.dev (5 * n + k) with ctrl := none } ∧ h.gave s.hub (.usb (5 * n + k) 0 2 []))) ∧
  (∀ (s : State) (n : Fin 2) (f : Fin 4) (d : Bytes) (c : CtrlXfer), s.hub.live → (s.hub.dev (fnKey n f)).ctrl = some c →
    c.waiting = true → field d 0 1 = 0x81 → field d 1 1 = f.val → field d 2 2 = (s.hub.dev (fnKey n f)).ctrlSeq → Completes
    (.controlReply n f (some d)) s (fun h => ((h.dev (fnKey n f)).ctrl = none ∧ if field d 4 1 = 1 then h.gave s.hub (.usb (fnKey
    n f) 0 2 []) else if bit 7 (field c.setup 0 1) then h.usbAnswered s.hub (fnKey n f) ((d.drop 16).take (field c.setup 6 2))
    else h.gave s.hub (.usb (fnKey n f) 0 0 [])))) ∧
  (∀ (s : State) (n : Fin 2) (f : Fin 4) (d : Bytes), s.hub.live → field d 2 2 ≠ (s.hub.dev (fnKey n f)).ctrlSeq → Completes
    (.controlReply n f (some d)) s (fun h => h.usb = { s.hub.usb with lateReplies := s.hub.usb.lateReplies + 1 })) ∧
  (∀ (s : State) (n : Fin 2) (f : Fin 4) (c : CtrlXfer), s.hub.live → (s.hub.dev (fnKey n f)).ctrl = some c → c.waiting = true →
    Completes (.ctrlTimeout n f) s (fun h => (h.dev (fnKey n f)).ctrl = none ∧ h.gave s.hub (.usb (fnKey n f) 0 2 []) ∧ h.val
    (Od.hsicCtrlTimeouts n) = trunc 32 (s.hub.val (Od.hsicCtrlTimeouts n) + 1) ∧ bit (8 * n + 5) (h.reg Rg.usbFlags) = true ∧
    h.raised Ev.usbCtrlTimeout (u8 n ++ u8 f))) ∧
  (∀ (s : State) (n : Fin 2) (k : Fin 5), s.hub.live → (s.hub.dev (5 * n + k)).ctrl = none → ∀ c ∈ ([.setAddress n k,
    .setConfiguration n k, .setInterface n k, .getDescriptor n k, .getStatus n k, .getConfiguration n k, .getInterface n k,
    .setFeatureEndpointHalt n k, .clearFeatureEndpointHalt n k, .setFeatureRemoteWakeup n k, .setFeatureTestMode n k,
    .controlRequest n k []] : List Instr), Completes c s (fun h => h.usb = s.hub.usb))

/-- What USB data packets, PING, bus reset, suspend, resume, remote wake and the USB commands leave. At an active endpoint that
tokens reach: an OUT packet with the wrong toggle is acknowledged and dropped, at a halted endpoint stalled, without room for
another segment answered with NAK, and then changes no job; a short one with the right toggle ends the segment, which goes
with its header to the tunnel that the classification names, where that tunnel takes it, turns the toggle, and is answered
with ACK or NYET. PING answers for the room or the halt. An IN token sends the next packet of the endpoint's oldest segment;
acknowledged, it turns the toggle and moves the segment on, its zero-length end included; unacknowledged, it stays; with none
it answers NAK, and halted it stalls. A bus reset of a connected hub returns it to the default state, is counted, and
unpowers and unconfigures its functions. Suspend flags and raises; resume flags, and configured functions start their resume,
whose end sets the change bit. Remote wake, enabled, ends the function's wait and commands; for a suspended hub it drives
resume no earlier than 5 ms after the suspend (CLOCK moves there). USB_WAKE ends at once with 0 where nothing is suspended,
with 2 where wake is not enabled, and else waits; USB_EP_HALT of an active endpoint halts it; USB_RECONNECT disconnects an
enabled function and runs until it connects or 1 s passes. -/
def Obligations.UsbDataMovesAndDevicesSleepAndWake : Prop :=
  (∀ (s : State) (n : Fin 2) (f : Fin 4) (ep : Fin 16) (toggle : Bool) (data : Bytes) (e : EpDesc), s.hub.live → s.hub.reaches
    (fnKey n f) = true → ep.val ≠ 0 → s.hub.activeEp n f ep = some e → data.length ≤ e.maxPkt → (s.hub.dev (fnKey n f)).halts.get
    0 ep = 1 ∨ b2n toggle ≠ (s.hub.dev (fnKey n f)).toggles.get 0 ep → Completes (.outPacket n f ep toggle data) s (fun h =>
    h.usb = s.hub.usb ∧ h.eng = s.hub.eng ∧ h.gave s.hub (.usb (fnKey n f) ep (if (s.hub.dev (fnKey n f)).halts.get 0 ep = 1 then
    2 else 0) []))) ∧
  (∀ (s : State) (n : Fin 2) (f : Fin 4) (ep : Fin 16) (toggle : Bool) (data : Bytes) (e : EpDesc) (i j k : Nat) (x : ClsEntry),
    s.hub.live → s.hub.reaches (fnKey n f) = true → ep.val ≠ 0 → s.hub.activeEp n f ep = some e → data.length < e.maxPkt →
    (s.hub.dev (fnKey n f)).halts.get 0 ep ≠ 1 → b2n toggle = (s.hub.dev (fnKey n f)).toggles.get 0 ep → s.hub.epCtx n f ep false
    = some i → s.hub.outRoom n i = true → s.hub.plainIn (14 + n) → clsWinner (0x50 + n) (.usb f ep) s.hub.sw.cls.cells = some (k,
    x) → s.hub.live? x.handle = some j → s.hub.takesIn j → (s.hub.ctx j).role ≠ .transit → portCode (s.hub.ctx j).localBind =
    0x50 + n → Completes (.outPacket n f ep toggle data) s (fun h => h.segOffered j ([1, 0, 0, 0] ++ ((s.hub.dev (fnKey n
    f)).outOpen.get [] ep ++ data)) false ∧ (h.dev (fnKey n f)).toggles.get 0 ep = 1 - b2n toggle ∧ (h.dev (fnKey n
    f)).outOpen.get [] ep = [] ∧ h.gave s.hub (.usb (fnKey n f) ep 0 []) ∨ h.gave s.hub (.usb (fnKey n f) ep 3 []))) ∧
  (∀ (s : State) (n : Fin 2) (f : Fin 4) (ep : Fin 16) (toggle : Bool) (data : Bytes) (e : EpDesc) (i : Nat), s.hub.live →
    s.hub.reaches (fnKey n f) = true → ep.val ≠ 0 → s.hub.activeEp n f ep = some e → data.length ≤ e.maxPkt → (s.hub.dev (fnKey n
    f)).halts.get 0 ep ≠ 1 → b2n toggle = (s.hub.dev (fnKey n f)).toggles.get 0 ep → s.hub.epCtx n f ep false = some i →
    s.hub.outRoom n i = false → Completes (.outPacket n f ep toggle data) s (fun h => h.usb = s.hub.usb ∧ h.eng = s.hub.eng ∧
    h.gave s.hub (.usb (fnKey n f) ep 1 []))) ∧
  (∀ (s : State) (n : Fin 2) (f : Fin 4) (ep : Fin 16) (e : EpDesc) (i : Nat), s.hub.live → s.hub.reaches (fnKey n f) = true →
    ep.val ≠ 0 → s.hub.activeEp n f ep = some e → s.hub.epCtx n f ep false = some i → Completes (.ping n f ep) s (fun h => (h.usb
    = s.hub.usb ∧ h.gave s.hub (.usb (fnKey n f) ep (if (s.hub.dev (fnKey n f)).halts.get 0 ep = 1 then 2 else if s.hub.outRoom n
    i = true then 0 else 1) [])))) ∧
  (∀ (s : State) (n : Fin 2) (f : Fin 4) (k : Fin 5) (ep : Fin 16) (acked : Bool) (e : EpDesc) (x : InSeg), s.hub.live → k.val =
    f.val + 1 → s.hub.reaches (fnKey n f) = true → ep.val ≠ 0 → s.hub.activeEp n f (ep + 0x80) = some e → (s.hub.dev (fnKey n
    f)).halts.get 0 (ep + 0x80) ≠ 1 → (s.hub.dev (fnKey n f)).inQueue.find? (fun y => decide (y.ep = ep.val)) = some x →
    Completes (.inToken n k ep acked) s (fun h => h.gave s.hub (.usb (fnKey n f) (ep + 0x80) 4 (x.left.take e.maxPkt)) ∧ ((h.dev
    (fnKey n f)).inQueue = updIn ep (fun q => if acked = false then some { q with unacked := some (x.left.take e.maxPkt) } else
    if x.left.drop e.maxPkt = [] ∧ ¬(x.zlp = true ∧ x.left ≠ []) then none else some
    { q with left := x.left.drop e.maxPkt, unacked := none }) (s.hub.dev (fnKey n f)).inQueue) ∧ (h.dev (fnKey n f)).toggles.get
    0 (ep + 0x80) = (if acked then 1 - (s.hub.dev (fnKey n f)).toggles.get 0 (ep + 0x80) else (s.hub.dev (fnKey n f)).toggles.get
    0 (ep + 0x80)))) ∧
  (∀ (s : State) (n : Fin 2) (f : Fin 4) (k : Fin 5) (ep : Fin 16) (acked : Bool) (e : EpDesc), s.hub.live → k.val = f.val + 1 →
    s.hub.reaches (fnKey n f) = true → ep.val ≠ 0 → s.hub.activeEp n f (ep + 0x80) = some e → ((s.hub.dev (fnKey n f)).halts.get
    0 (ep + 0x80) = 1 ∨ ∀ y ∈ (s.hub.dev (fnKey n f)).inQueue, y.ep ≠ ep.val) → Completes (.inToken n k ep acked) s (fun h =>
    h.usb = s.hub.usb ∧ h.gave s.hub (.usb (fnKey n f) (ep + 0x80) (if (s.hub.dev (fnKey n f)).halts.get 0 (ep + 0x80) = 1 then 2
    else 1) []))) ∧
  (∀ (s : State) (n : Fin 2), s.hub.live → (s.hub.dev (5 * n)).state ≠ .off → (s.hub.dev (5 * n)).state ≠ .disconnected →
    Completes (.usbBusReset n) s (fun h => (h.dev (5 * n)).state = .default ∧ (h.dev (5 * n)).address = 0 ∧ (h.dev (5 *
    n)).configuration = 0 ∧ (h.dev (5 * n)).suspended = false ∧ (h.dev (5 * n)).ctrl = none ∧ h.val (Od.hsicBusResets n) = trunc
    32 (s.hub.val (Od.hsicBusResets n) + 1) ∧ (∀ f : Fin 4, (h.dev (fnKey n f)).portPower = false ∧ (h.dev (fnKey n
    f)).portEnable = false ∧ (h.dev (fnKey n f)).address = 0 ∧ (h.dev (fnKey n f)).configuration = 0))) ∧
  (∀ (s : State) (n : Fin 2), s.hub.live → (s.hub.dev (5 * n)).state ≠ .off → (s.hub.dev (5 * n)).state ≠ .disconnected →
    (s.hub.dev (5 * n)).suspended = false → Completes (.usbSuspend n) s (fun h => (h.dev (5 * n)).suspended = true ∧ bit (8 * n +
    2) (h.reg Rg.usbFlags) = true ∧ h.raised Ev.usbSuspend (u8 n))) ∧
  (∀ (s : State) (n : Fin 2), s.hub.live → (s.hub.dev (5 * n)).suspended = true → Completes (.hostResume n) s (fun h => (h.dev
    (5 * n)).suspended = false ∧ bit (8 * n + 3) (h.reg Rg.usbFlags) = true ∧ (∀ f : Fin 4, (s.hub.dev (fnKey n f)).state =
    .configured → (s.hub.dev (fnKey n f)).suspended = false → (h.dev (fnKey n f)).resuming = true ∧ (h.dev (fnKey n
    f)).wakePending = false))) ∧
  (∀ (s : State) (n : Fin 2) (f : Fin 4), s.hub.live → (s.hub.dev (fnKey n f)).resuming = true → Completes (.resumeReady n f) s
    (fun h => h.dev (fnKey n f) =
    { s.hub.dev (fnKey n f) with resuming := false, change := setBit 2 (s.hub.dev (fnKey n f)).change })) ∧
  (∀ (s : State) (n : Fin 2) (f : Fin 4), s.hub.live → (s.hub.dev (fnKey n f)).wakePending = true → s.hub.wakeEnabled n f = true
    → s.hub.usbAsleep (fnKey n f) = true → (s.hub.dev (fnKey n f)).state ≠ .off → (s.hub.dev (fnKey n f)).state ≠ .disconnected →
    Completes (.remoteWake n f) s (fun h => (h.dev (fnKey n f)).wakePending = false ∧ (h.dev (fnKey n f)).resuming = true ∧
    (h.dev (fnKey n f)).suspended = false ∧ (h.dev (5 * n)).suspended = false ∧ ((s.hub.dev (5 * n)).suspended = true → h.gave
    s.hub (.line (.hsic n) 2) ∧ h.clock = max s.hub.clock (s.hub.usb.suspendedAt.get 0 n - 1 + 50000000)) ∧ (∀ c < 8, (s.hub.dev
    (fnKey n f)).wakeCommands = [c] → (s.hub.chan c).state = .running → h.ended c (s.hub.chan c).code (s.hub.chan c).tag 0 (u8
    0)))) ∧
  (∀ (s : State) (req : Path) (c : Fin 8) (tag : BitVec 16) (n : Fin 2) (f : Fin 4), s.hub.takes req c 0x0820 → s.hub.inFog =
    false → (s.hub.dev (fnKey n f)).state ≠ .off → (s.hub.dev (fnKey n f)).state ≠ .disconnected → Completes (.usbWake req c tag
    (u8 n ++ u8 f)) s (fun h => (if s.hub.usbAsleep (fnKey n f) = false then h.usb = s.hub.usb ∧ h.ended c 0x0820 tag.toNat 0 (u8
    0) else (h.dev (fnKey n f)).wakePending = true ∧ if s.hub.wakeEnabled n f = true then (h.dev (fnKey n f)).wakeCommands =
    (s.hub.dev (fnKey n f)).wakeCommands ++ [c.val] ∧ h.busyWith c 0x0820 tag.toNat else h.ended c 0x0820 tag.toNat 0 (u8 2)))) ∧
  (∀ (s : State) (req : Path) (c : Fin 8) (tag : BitVec 16) (n : Fin 2) (f : Fin 4) (a : Byte), s.hub.takes req c 0x0821 →
    s.hub.inFog = false → (s.hub.dev (fnKey n f)).state = .configured → (s.hub.activeEp n f a.toNat).isSome = true → Completes
    (.usbEpHalt req c tag (u8 n ++ u8 f ++ [a])) s (fun h => (h.dev (fnKey n f)).halts.get 0 a.toNat = 1 ∧ h.ended c 0x0821
    tag.toNat 0 [])) ∧
  (∀ (s : State) (req : Path) (c : Fin 8) (tag : BitVec 16) (n : Fin 2) (f : Fin 4), s.hub.takes req c 0x0822 → s.hub.inFog =
    false → s.hub.val (Od.fnEnable (fnIx n f)) ≠ 0 → (s.hub.dev (fnKey n f)).wakeCommands = [] → Completes (.usbReconnect req c
    tag (u8 n ++ u8 f)) s (fun h => (h.dev (fnKey n f)).state = (if (s.hub.dev (fnKey n f)).state = .off then .off else
    .disconnected) ∧ (h.dev (fnKey n f)).reconnects = (s.hub.dev (fnKey n f)).reconnects ++ [c.val] ∧ h.busyWith c 0x0822
    tag.toNat)) ∧
  (∀ (s : State) (n : Fin 2) (f : Fin 4) (c : Nat), s.hub.live → (s.hub.dev (fnKey n f)).reconnects = [c] → c < 8 → (s.hub.chan
    c).state = .running → Completes (.usbReconnectTimeout n f) s (fun h => (h.dev (fnKey n f)).reconnects = [] ∧ h.ended c
    (s.hub.chan c).code (s.hub.chan c).tag (abFailed 1) []))

/-- What BAR2 writes, reads, AtomicOps, window answers, limits and WINDOW_ENABLE leave. A poisoned write, or an access that no
enabled window covers, is counted and flagged, a read answered with Unsupported Request. Where nothing waits: with no open
tunnel a write is counted in WIN_DISCARD and a read ends as ERROR_MODE gives. With one, a write whose pieces the quota has
room for goes out as those pieces, with consecutive tags, and empties the prefetch buffer; while an AtomicOp runs, or behind
a write that waits (to BAR0 or BAR2), it waits. A read within one 256-byte piece, fewer than eight reading, sends one READ
and stands as a request; a read that the first held prefetch piece covers is answered from it. An AtomicOp outside BAR2, or
not of 4 or 8 bytes, is answered with Unsupported Request; another takes the semaphore and sends LOCK and READ. READ_DATA of
a request's only piece answers the host with its bytes; one with an error ends the request as ERROR_MODE gives, flagged and
raised. LOCK_ACK of the one AtomicOp whose data stand answers with the old value, sends UNLOCK and, where a value is written,
the WRITE. WIN_READ_LIMIT ends the oldest request, counted and flagged. PF_AGE empties the buffer and marks outstanding
prefetch as ignored. WINDOW_ENABLE on takes a window exactly where its base is aligned, it fits and overlaps no enabled one;
off, it ends the window's bound tunnel. -/
def Obligations.HostRequestsCrossWindows : Prop :=
  (∀ (s : State) (a : BitVec 26) (be : Byte) (d : Bytes), s.hub.live → Completes (.bar2Write a be d true) s (fun h => h.val
    Od.hostPoisoned = trunc 32 (s.hub.val Od.hostPoisoned + 1) ∧ bit 3 (h.reg Rg.hbFlags) = true ∧ h.hb = s.hub.hb ∧ h.eng =
    s.hub.eng)) ∧
  (∀ (s : State) (a : BitVec 26) (be : Byte) (d : Bytes), s.hub.live → s.hub.winAt a.toNat = none → s.hub.hb.posted = [] →
    Completes (.bar2Write a be d false) s (fun h => h.val Od.hostUnmapped = trunc 32 (s.hub.val Od.hostUnmapped + 1) ∧ bit 1
    (h.reg Rg.hbFlags) = true ∧ h.hb = s.hub.hb ∧ h.eng = s.hub.eng)) ∧
  (∀ (s : State) (a : BitVec 26) (be : Byte) (d : Bytes) (w : Nat), s.hub.live → s.hub.winAt a.toNat = some w → s.hub.winCtx w =
    none → s.hub.hb.posted = [] → Completes (.bar2Write a be d false) s (fun h => h.val Od.hostWinDiscard = trunc 32 (s.hub.val
    Od.hostWinDiscard + 1) ∧ h.eng = s.hub.eng)) ∧
  (∀ (s : State) (a : BitVec 26) (be : Byte) (d : Bytes) (w i : Nat), s.hub.live → bar2Wf a.toNat d.length 256 = true →
    s.hub.winAt a.toNat = some w → s.hub.winCtx w = some i → s.hub.endsAt i 0x60 → (s.hub.win w).semaphore = false →
    s.hub.hb.posted = [] → s.hub.eng.atProducer.all (fun j => decide (j.ingress ≠ 11)) = true → s.hub.sw.stageIn.get 0 11 +
    ((pieces (s.hub.winTo w a.toNat) d.length be.toNat).map (fun p => stageCharge (16 + p.2.1))).sum ≤ s.hub.quotaIn 11 →
    Completes (.bar2Write a be d false) s (fun h => (∀ p ∈ (pieces (s.hub.winTo w a.toNat) d.length be.toNat).zipIdx,
    h.segOffered i (winSegment 1 0 (((s.hub.win w).nextTag + p.2) % 65536) p.1.1 p.1.2.1 p.1.2.2 0 ((d.drop (p.1.1 - s.hub.winTo
    w a.toNat)).take p.1.2.1)) false) ∧ (h.win w).held = [] ∧ h.hb.posted = [])) ∧
  (∀ (s : State) (a : BitVec 26) (be : Byte) (d : Bytes) (w i : Nat), s.hub.live → s.hub.winAt a.toNat = some w → s.hub.winCtx w
    = some i → (s.hub.win w).semaphore = true → Completes (.bar2Write a be d false) s (fun h => h.hb =
    { s.hub.hb with posted := s.hub.hb.posted ++ [⟨true, a.toNat, be.toNat, d⟩] } ∧ h.eng = s.hub.eng)) ∧
  (∀ (s : State) (a : BitVec 26) (be : Byte) (d : Bytes), s.hub.live → s.hub.hb.posted ≠ [] → Completes (.bar2Write a be d
    false) s (fun h => h.hb = { s.hub.hb with posted := s.hub.hb.posted ++ [⟨true, a.toNat, be.toNat, d⟩] } ∧ h.eng = s.hub.eng ∧
    h.reg Rg.hbFlags = s.hub.reg Rg.hbFlags)) ∧
  (∀ (s : State) (a : BitVec 26) (be : Byte) (l : BitVec 13), s.hub.live → s.hub.winAt a.toNat = none → Completes (.bar2Read a
    be l) s (fun h => h.val Od.hostUnmapped = trunc 32 (s.hub.val Od.hostUnmapped + 1) ∧ bit 1 (h.reg Rg.hbFlags) = true ∧ h.gave
    s.hub (.pcie 3 a.toNat []))) ∧
  (∀ (s : State) (a : BitVec 26) (be : Byte) (l : BitVec 13) (w : Nat), s.hub.live → s.hub.winAt a.toNat = some w → s.hub.winCtx
    w = none → (s.hub.win w).waiting = [] → Completes (.bar2Read a be l) s (fun h => h.gave s.hub (if bit 4 (s.hub.reg (Rg.win w
    2)) = true then Out.pcie 4 a.toNat [] else Out.pcie 2 a.toNat (List.replicate l.toNat 0xFF)))) ∧
  (∀ (s : State) (a : BitVec 26) (be : Byte) (l : BitVec 13) (w i : Nat), s.hub.live → bar2Wf a.toNat l.toNat 4096 = true →
    s.hub.winAt a.toNat = some w → s.hub.winCtx w = some i → s.hub.endsAt i 0x60 → (s.hub.win w).requests = [] → (s.hub.win
    w).waiting = [] → (s.hub.win w).held = [] → s.hub.writeWaits w = false → (s.hub.win w).reading < 8 → s.hub.winTo w a.toNat %
    256 + l.toNat ≤ 256 → Completes (.bar2Read a be l) s (fun h => h.segOffered i (winSegment 2 0 (s.hub.win w).nextTag
    (s.hub.winTo w a.toNat) l.toNat (if l.toNat = 4 then be.toNat % 16 else be.toNat) 0 []) false ∧ (∃ r ∈ (h.win w).requests,
    r.addr = a.toNat ∧ r.left = l.toNat ∧ r.atomic = none))) ∧
  (∀ (s : State) (a : BitVec 26) (be : Byte) (l : BitVec 13) (w i : Nat) (p : PfPiece) (t : List PfPiece), s.hub.live → bar2Wf
    a.toNat l.toNat 4096 = true → s.hub.winAt a.toNat = some w → s.hub.winCtx w = some i → (s.hub.win w).semaphore = false →
    (s.hub.win w).waiting = [] → (s.hub.win w).held = p :: t → p.addr = s.hub.winTo w a.toNat → l.toNat ≤ p.data.length →
    s.hub.writeWaits w = false → Completes (.bar2Read a be l) s (fun h => h.gave s.hub (.pcie 2 a.toNat (p.data.take l.toNat)) ∧
    (h.win w).requests = (s.hub.win w).requests)) ∧
  (∀ (s : State) (bar2 : Bool) (a : BitVec 26) (op : Fin 3) (size : Fin 17) (x y : BitVec 64), s.hub.live → bar2 = false ∨
    (size.val ≠ 4 ∧ size.val ≠ 8) → Completes (.atomicOp bar2 a op size x y) s (fun h => h.gave s.hub (.pcie 3 a.toNat []) ∧ h.hb
    = s.hub.hb ∧ h.eng = s.hub.eng)) ∧
  (∀ (s : State) (a : BitVec 26) (op : Fin 3) (size : Fin 17) (x y : BitVec 64) (w i : Nat), s.hub.live → size.val = 4 ∨
    size.val = 8 → s.hub.winAt a.toNat = some w → s.hub.winCtx w = some i → s.hub.endsAt i 0x60 → (s.hub.win w).semaphore = false
    → (s.hub.win w).waiting = [] → s.hub.writeWaits w = false → Completes (.atomicOp true a op size x y) s (fun h => h.segOffered
    i (winSegment 3 0 (s.hub.win w).nextTag (s.hub.winTo w a.toNat) 0 0 0 []) false ∧ h.segOffered i (winSegment 2 0 (((s.hub.win
    w).nextTag + 1) % 65536) (s.hub.winTo w a.toNat) size (if size.val = 4 then 15 else 255) 0 []) false ∧ (h.win w).semaphore =
    true ∧ (h.win w).held = [])) ∧
  (∀ (s : State) (w : Fin 16) (s' : OutSeg) (r : WinReq) (p : Piece) (body : Bytes), s.hub.live → s.hub.winHead w = some s' →
    field s'.data 0 1 = 0x82 → field s'.data 12 4 = 0 → (s.hub.win w).owner (field s'.data 2 2) = some r → r.atomic = none →
    r.pieces = [p] → p.tag = field s'.data 2 2 → body = (s'.data.drop 16).take (field s'.data 8 2) → body ≠ [] → Completes
    (.readData w) s (fun h => h.gave s.hub (.pcie 2 r.addr body) ∧ h.outQ 11 = (s.hub.outQ 11).erase s')) ∧
  (∀ (s : State) (w : Fin 16) (s' : OutSeg) (r : WinReq), s.hub.live → s.hub.winHead w = some s' → field s'.data 0 1 = 0x82 →
    field s'.data 12 4 ≠ 0 → (s.hub.win w).owner (field s'.data 2 2) = some r → Completes (.readData w) s (fun h => h.gave s.hub
    (if bit 4 (s.hub.reg (Rg.win w 2)) = true then Out.pcie 4 r.addr [] else Out.pcie 2 r.addr (List.replicate r.left 0xFF)) ∧
    bit 0 (h.reg Rg.hbFlags) = true ∧ h.raised Ev.windowFault (u8 w ++ u32 (field s'.data 12 4)) ∧ h.outQ 11 = (s.hub.outQ
    11).erase s')) ∧
  (∀ (s : State) (w : Fin 16) (s' : OutSeg) (r : WinReq) (p : Piece) (d : Bytes) (op x y i : Nat), s.hub.live → s.hub.winHead w
    = some s' → field s'.data 0 1 = 0x83 → field s'.data 12 4 = 0 → (s.hub.win w).requests = [r] → r.ackTag = field s'.data 2 2 →
    r.atomic = some (op, x, y) → r.pieces = [p] → p.data = some d → d ≠ [] → s.hub.winCtx w = some i → s.hub.endsAt i 0x60 →
    Completes (.lockAck w) s (fun h => h.gave s.hub (.pcie 2 r.addr d) ∧ h.segOffered i (winSegment 4 0 r.ackTag (s.hub.winTo w
    r.addr) 0 0 0 []) false ∧ (∀ v ∈ atomicValue op r.left (leNat d) x y, h.segOffered i (winSegment 1 0 (s.hub.win w).nextTag
    (s.hub.winTo w r.addr) r.left (if r.left = 4 then 15 else 255) 0 (leBytes r.left v)) false))) ∧
  (∀ (s : State) (w : Fin 16) (r : WinReq) (t : List WinReq), s.hub.live → (s.hub.win w).requests = r :: t → Completes
    (.winReadLimitExpiry w) s (fun h => h.val Od.hostReadExpired = trunc 32 (s.hub.val Od.hostReadExpired + 1) ∧ bit 2 (h.reg
    Rg.hbFlags) = true ∧ bit 0 (h.reg Rg.hbFlags) = true ∧ h.gave s.hub (if bit 4 (s.hub.reg (Rg.win w 2)) = true then Out.pcie 4
    r.addr [] else Out.pcie 2 r.addr (List.replicate r.left 0xFF)))) ∧
  (∀ (s : State) (w : Fin 16), s.hub.live → Completes (.pfAgeExpiry w) s (fun h => ((h.win w).held = [] ∧ (h.win w).requests =
    (s.hub.win w).requests ∧ ((s.hub.win w).held ≠ [] → (h.win w).ignored = (s.hub.win w).ignored ++ (s.hub.win w).outstanding)))) ∧
  (∀ (s : State) (w : Fin 16) (v : Word), s.hub.live → s.hub.winOn w = false → bit 0 v.toNat = true → Completes (.windowEnable w
    v) s (fun h => (h.winOn w = true ↔ (s.hub.winBase w % s.hub.winPages w = 0 ∧ s.hub.winBase w + s.hub.winPages w ≤ 16384 ∧ ∀ u
    : Fin 16, u ≠ w → s.hub.winOn u = true → s.hub.winBase w + s.hub.winPages w ≤ s.hub.winBase u ∨ s.hub.winBase u +
    s.hub.winPages u ≤ s.hub.winBase w)) ∧ bit 1 (h.reg (Rg.win w 3)) = true ∨ h.winOn w = true)) ∧
  (∀ (s : State) (w : Fin 16) (v : Word) (i : Nat) (x : Ctx), s.hub.live → s.hub.winOn w = true → bit 0 v.toNat = false → (i, x)
    ∈ s.hub.ctxList → x.busy = true → x.role ≠ .transit → x.localBind = 0x60000000 + w → Completes (.windowEnable w v) s (fun h
    => h.winOn w = false ∧ (h.win w).held = [] ∧ ((h.ctx i).state = .faulted ∨ (h.ctx i).state = .free)))

/-- What WRITE, READ, LOCK and UNLOCK at the MEMORY end, host queue traffic, bridge reset and link changes leave. In AREA 1, its
lock free or its own and nothing damaged: a well-formed WRITE stores its enabled bytes, and no byte outside the request ever
changes; a READ is answered with the bytes that stand there. A faulty WRITE is counted in MEM_REFUSED; a faulty READ is
answered with its STATUS; another tunnel's request waits while one holds the lock. LOCK takes a free lock and answers;
outside AREA 1 it is refused; with no room for the answer it waits. UNLOCK releases the tunnel's own lock. The lock's limit
releases it, counts, raises, and lets that tunnel's next request pass. A TAIL of a running queue is stored modulo the ring
and starts a read of up to 8 descriptors. A completion with descriptors adds them; one with a segment's data offers that
segment and writes the descriptor back; an error or a timeout faults the queue with flag and event. MOD_TIME signals what
waited, by MSI-X or its pending bit. A reset of the bridge returns windows, queues, flags, the MSI-X table and the mailbox to
their reset values, and leaves the lock. A PCIe link change keeps speed and width and is raised; with the link gone every
window is off. -/
def Obligations.MemoryEndAndHostQueuesServeRequests : Prop :=
  (∀ (s : State) (i : Byte) (x : OutSeg) (far be : Nat), s.hub.live → s.hub.memHead i.toNat = some x → i.toNat ∉
    s.hub.hb.lockSkip → field x.data 0 1 = 1 → s.hub.memWaits i.toNat = false → s.hub.memFault i.toNat x.data = none →
    s.hub.areaOf i.toNat = 1 → s.hub.sw.damaged = [] → far = 0x20400000 + field x.data 4 4 → be = field x.data 10 1 → Completes
    (.memoryWrite i) s (fun h => (∀ a < field x.data 8 2, h.memRead (far + a) = if bit (a % 4) (if a < 4 then be % 16 else if
    field x.data 8 2 ≤ a + 4 then be / 16 else 15) = true then (x.data.drop (16 + a)).headD 0 else s.hub.memRead (far + a)) ∧
    h.outQ 31 = (s.hub.outQ 31).erase x)) ∧
  (∀ (s : State) (i : Byte) (x : OutSeg), s.hub.live → s.hub.memHead i.toNat = some x → s.hub.areaOf i.toNat = 1 →
    s.hub.sw.damaged = [] → Completes (.memoryWrite i) s (fun h => (∀ a, (a < 0x20400000 + field x.data 4 4 ∨ 0x20400000 + field
    x.data 4 4 + field x.data 8 2 ≤ a) → h.memRead a = s.hub.memRead a))) ∧
  (∀ (s : State) (i : Byte) (x : OutSeg), s.hub.live → s.hub.memHead i.toNat = some x → i.toNat ∉ s.hub.hb.lockSkip → field
    x.data 0 1 = 1 → s.hub.memWaits i.toNat = false → (s.hub.memFault i.toNat x.data).isSome = true → Completes (.memoryWrite i)
    s (fun h => h.val Od.hostMemRefused = trunc 32 (s.hub.val Od.hostMemRefused + 1) ∧ h.mem = s.hub.mem ∧ h.outQ 31 =
    (s.hub.outQ 31).erase x)) ∧
  (∀ (s : State) (i : Byte) (x : OutSeg), s.hub.live → s.hub.memHead i.toNat = some x → i.toNat ∉ s.hub.hb.lockSkip → field
    x.data 0 1 = 2 → s.hub.memWaits i.toNat = false → s.hub.memFault i.toNat x.data = none → s.hub.areaOf i.toNat = 1 →
    s.hub.sw.damaged = [] → s.hub.endsAt i.toNat 0xA0 → s.hub.producerWaits i.toNat (16 + field x.data 8 2) = false → Completes
    (.memoryRead i) s (fun h => h.segOffered i.toNat (winSegment 0x82 0 (field x.data 2 2) (field x.data 4 4) (field x.data 8 2)
    0 0 (s.hub.memReadBytes (0x20400000 + field x.data 4 4) (field x.data 8 2))) false ∧ h.outQ 31 = (s.hub.outQ 31).erase x ∧
    h.mem = s.hub.mem)) ∧
  (∀ (s : State) (i : Byte) (x : OutSeg), s.hub.live → s.hub.memHead i.toNat = some x → i.toNat ∉ s.hub.hb.lockSkip → field
    x.data 0 1 = 2 → s.hub.memWaits i.toNat = false → s.hub.endsAt i.toNat 0xA0 → s.hub.producerWaits i.toNat 16 = false →
    Completes (.memoryRead i) s (fun h => (∀ e ∈ s.hub.memFault i.toNat x.data, h.segOffered i.toNat (winSegment 0x82 0 (field
    x.data 2 2) (field x.data 4 4) 0 0 e []) false))) ∧
  (∀ (s : State) (i : Byte) (j : Nat), s.hub.live → i.toNat ∉ s.hub.hb.lockSkip → s.hub.areaOf i.toNat = 1 → s.hub.hb.lockHolder
    = some j → j ≠ i.toNat → Completes (.memoryWrite i) s (fun h => h.outQ 31 = s.hub.outQ 31 ∧ h.mem = s.hub.mem)) ∧
  (∀ (s : State) (i : Byte) (x : OutSeg), s.hub.live → s.hub.memHead i.toNat = some x → i.toNat ∉ s.hub.hb.lockSkip → field
    x.data 0 1 = 3 → s.hub.areaOf i.toNat = 1 → s.hub.hb.lockHolder = none → s.hub.endsAt i.toNat 0xA0 → s.hub.producerWaits
    i.toNat 16 = false → Completes (.lock i) s (fun h => h.hb = { s.hub.hb with lockHolder := some i.toNat } ∧ h.segOffered
    i.toNat (winSegment 0x83 0 (field x.data 2 2) (field x.data 4 4) 0 0 0 []) false)) ∧
  (∀ (s : State) (i : Byte) (x : OutSeg), s.hub.live → s.hub.memHead i.toNat = some x → i.toNat ∉ s.hub.hb.lockSkip → field
    x.data 0 1 = 3 → s.hub.areaOf i.toNat ≠ 1 → s.hub.endsAt i.toNat 0xA0 → s.hub.producerWaits i.toNat 16 = false → Completes
    (.lock i) s (fun h => h.hb = s.hub.hb ∧ h.segOffered i.toNat (winSegment 0x83 0 (field x.data 2 2) (field x.data 4 4) 0 0
    abDenied []) false)) ∧
  (∀ (s : State) (i : Byte) (x : OutSeg), s.hub.live → s.hub.memHead i.toNat = some x → i.toNat ∉ s.hub.hb.lockSkip →
    s.hub.producerWaits i.toNat 16 = true → Completes (.lock i) s (fun h => h.hb = s.hub.hb ∧ h.outQ 31 = s.hub.outQ 31 ∧ h.eng =
    s.hub.eng)) ∧
  (∀ (s : State) (i : Byte) (x : OutSeg), s.hub.live → s.hub.memHead i.toNat = some x → i.toNat ∉ s.hub.hb.lockSkip → field
    x.data 0 1 = 4 → Completes (.unlock i) s (fun h => (h.hb =
    { s.hub.hb with lockHolder := if s.hub.hb.lockHolder = some i.toNat then none else s.hub.hb.lockHolder } ∧ h.outQ 31 =
    (s.hub.outQ 31).erase x))) ∧
  (∀ (s : State) (i : Nat), s.hub.live → s.hub.hb.lockHolder = some i → Completes (.memLockExpired) s (fun h => h.hb =
    { s.hub.hb with lockHolder := none, lockSkip := i :: s.hub.hb.lockSkip } ∧ h.val Od.hostLockExpired = trunc 32 (s.hub.val
    Od.hostLockExpired + 1) ∧ h.raised Ev.memLockExpired (u16 (s.hub.handle i)))) ∧
  (∀ (s : State) (q : Fin 32) (v : Word) (n : Nat), s.hub.live → s.hub.qRuns q = true → (s.hub.hostQ q).tx = [] → (s.hub.hostQ
    q).reading = [] → n = min 8 (min (s.hub.qSize q false - (s.hub.hostQ q).txRead) ((v.toNat % 4096 % s.hub.qSize q false +
    s.hub.qSize q false - (s.hub.hostQ q).txRead) % s.hub.qSize q false)) → n ≠ 0 → Completes (.txTailWrite q v) s (fun h =>
    h.reg (Rg.queue q 0x14) = v.toNat % 4096 % s.hub.qSize q false ∧ h.gave s.hub (.pcie 0 (s.hub.qBase q false + 16 *
    (s.hub.hostQ q).txRead) (u16 (16 * n))) ∧ DmaRead.mk false true (s.hub.hostQ q).txRead n ∈ (h.hostQ q).reading)) ∧
  (∀ (s : State) (q : Fin 32) (v : Word) (n : Nat), s.hub.live → s.hub.qRuns q = true → (s.hub.hostQ q).rx = [] → (s.hub.hostQ
    q).reading = [] → n = min 8 (min (s.hub.qSize q true - (s.hub.hostQ q).rxRead) ((v.toNat % 4096 % s.hub.qSize q true +
    s.hub.qSize q true - (s.hub.hostQ q).rxRead) % s.hub.qSize q true)) → n ≠ 0 → Completes (.rxTailWrite q v) s (fun h => h.reg
    (Rg.queue q 0x1C) = v.toNat % 4096 % s.hub.qSize q true ∧ h.gave s.hub (.pcie 0 (s.hub.qBase q true + 16 * (s.hub.hostQ
    q).rxRead) (u16 (16 * n))) ∧ DmaRead.mk true true (s.hub.hostQ q).rxRead n ∈ (h.hostQ q).reading)) ∧
  (∀ (s : State) (q : Fin 32) (data : Bytes) (r : DmaRead) (t : List DmaRead), s.hub.live → (s.hub.hostQ q).reading = r :: t →
    Completes (.dmaCompletion q false data) s (fun h => (h.hostQ q).fault = true ∧ (h.hostQ q).reading = [] ∧ bit 5 (h.reg
    Rg.hbFlags) = true ∧ h.raised Ev.hostqFault (u8 q ++ u64 (s.hub.readAddr q r)))) ∧
  (∀ (s : State) (q : Fin 32) (data : Bytes) (r : DmaRead) (t : List DmaRead), s.hub.live → (s.hub.hostQ q).reading = r :: t →
    r.descriptors = true → r.rx = false → 0 < r.count → s.hub.qCtx q = none → Completes (.dmaCompletion q true data) s (fun h =>
    (h.hostQ q).tx = (s.hub.hostQ q).tx ++ parseDescs r.at_ r.count data ∧ (h.hostQ q).txRead = (r.at_ + r.count) % s.hub.qSize q
    false)) ∧
  (∀ (s : State) (q : Fin 32) (data : Bytes) (r : DmaRead) (t : List DmaRead) (d : QDesc) (i : Nat), s.hub.live → (s.hub.hostQ
    q).reading = r :: t → r.descriptors = false → (s.hub.hostQ q).tx = [d] → s.hub.qCtx q = some i → s.hub.endsAt i 0x61 →
    data.take d.len ≠ [] → Completes (.dmaCompletion q true data) s (fun h => h.segOffered i (data.take d.len) (bit 1 d.flags) ∧
    h.gave s.hub (.pcie 1 (s.hub.qBase q false + 16 * d.at_) (u64 d.addr ++ u16 d.len ++ u8 (1 + 2 * (d.flags / 2 % 2)) ++ u8 0
    ++ u32 d.cookie)) ∧ (h.hostQ q).txHead = (d.at_ + 1) % s.hub.qSize q false)) ∧
  (∀ (s : State) (q : Fin 32), s.hub.live → Completes (.modTimeExpiry q) s (fun h => ((h.hostQ q).irqPending = false ∧ ((h.hostQ
    q).modTimer = true → (s.hub.hostQ q).irqPending = true)) ∧ (if (s.hub.hostQ q).irqPending = true then (h.gave s.hub (.msix
    (bits 20 16 (s.hub.qCtrl q))) ∨ bit (bits 20 16 (s.hub.qCtrl q)) h.hb.msixPending = true) else h.hb.msixPending =
    s.hub.hb.msixPending))) ∧
  (∀ (s : State) (q : Fin 32) (r : DmaRead) (t : List DmaRead), s.hub.live → (s.hub.hostQ q).reading = r :: t → Completes
    (.completionTimeout q) s (fun h => (h.hostQ q).fault = true ∧ (h.hostQ q).reading = [] ∧ bit 5 (h.reg Rg.hbFlags) = true ∧
    h.raised Ev.hostqFault (u8 q ++ u64 (s.hub.readAddr q r)))) ∧
  (∀ (s : State), s.hub.live → Completes (.hostBridgeReset) s (fun h => ((∀ w : Fin 16, h.reg (Rg.win w 0) = 0 ∧ h.reg (Rg.win w
    1) = 0 ∧ h.reg (Rg.win w 2) = 0 ∧ h.reg (Rg.win w 3) = 0 ∧ h.win w = WinSt.init) ∧ h.reg Rg.hbFlags = 0) ∧ ((∀ q : Fin 32, (∀
    k : Fin 10, h.reg (Rg.queue q (4 * k)) = 0) ∧ h.hostQ q = HostQ.init) ∧ h.hb.msixTable = HbSt.init.msixTable ∧
    h.hb.msixPending = 0 ∧ h.ctl.mailbox = Mailbox.init ∧ h.hb.lockHolder = s.hub.hb.lockHolder))) ∧
  (∀ (s : State) (speed : Fin 4) (width : Fin 3), s.hub.live → min speed.val s.hub.hb.maxSpeed ≠ 0 → min speed.val
    s.hub.hb.maxSpeed ≠ s.hub.hb.speed ∨ min width.val s.hub.hb.maxWidth ≠ s.hub.hb.width → Completes (.pcieLinkChange speed
    width) s (fun h => h.hb.speed = min speed.val s.hub.hb.maxSpeed ∧ h.hb.width = min width.val s.hub.hb.maxWidth ∧ h.raised
    Ev.pcieLinkChange [])) ∧
  (∀ (s : State) (width : Fin 3), s.hub.live → s.hub.hb.speed ≠ 0 → Completes (.pcieLinkChange 0 width) s (fun h => (h.hb.speed
    = 0 ∧ h.hb.width = 0 ∧ h.raised Ev.pcieLinkChange [] ∧ (∀ w : Fin 16, h.winOn w = false))))

/-- What ROLE_ANNOUNCE, the SWAP messages, the commit point, PREP_LIMIT, losses of block 0 and the claim leave. Of a hub that is
no BUOY of a pair where a case says so. A member that is no LIGHTHOUSE and hears a primary takes the higher epoch and its
serial, and is not joining; a LIGHTHOUSE that is outranked (a higher epoch, or the same from strap 1) becomes STANDBY and
raises PAIR_DEMOTED; one at a higher epoch stays. SWAP_PREPARE at an epoch not above the hub's, or during a swap, is refused;
else the hub enters the swap, in a failover answering SWAP_READY at once, in a commanded swap when SWAP_HOLD_DRAINED finds
its holds drained. A SWAP_READY is noted; with the last one the candidate fixes COMMIT_SF and sends SWAP_COMMIT on its ready
links. SWAP_REFUSE, SWAP_ABORT and PREP_LIMIT before commitment end the swap at the old epoch with PAIR_SWAP_ABORTED, the
abort sent and a waiting command ended. SWAP_COMMIT of the hub's swap stores the superframe. At it the candidate becomes
LIGHTHOUSE, the other root STANDBY, and a BUOY takes the new primary port, each at the new epoch, counted. Loss of block 0 at
the BUOY's primary port clears HEARS after PAIR_LOSS superframes; at a STANDBY with a silent PLK it starts a failover where
every BUOY lost the primary, and marks a split, raised, where one still hears it and PAIR_LOSS has passed. The silence timer
of a joining STANDBY makes it claim with an epoch above all heard. -/
def Obligations.PairMessagesMoveSwapsAndEpochs : Prop :=
  (∀ (s : State) (p : Fin 3) (e : Word) (hears : Bool) (strap : Byte) (serial primary : BitVec 64), s.hub.live →
    s.hub.pairMember = true → s.hub.sysOpen p = true → s.hub.pairBuoy = false → s.hub.mode.active ≠ .lighthouse → Completes
    (.roleAnnounce p e 1 hears strap serial primary) s (fun h => h.pair.epoch = max s.hub.pair.epoch e.toNat ∧
    h.pair.primarySerial = serial.toNat ∧ h.pair.silenceTimer = false ∧ h.pair.state ≠ .joining ∧ h.mode.active =
    s.hub.mode.active)) ∧
  (∀ (s : State) (p : Fin 3) (e : Word) (hears : Bool) (strap : Byte) (serial primary : BitVec 64), s.hub.live →
    s.hub.pairMember = true → s.hub.sysOpen p = true → s.hub.pairBuoy = false → s.hub.mode.active = .lighthouse →
    s.hub.pair.epoch < e.toNat ∨ (s.hub.pair.epoch = e.toNat ∧ strap = 1 ∧ s.hub.mode.strap ≠ 1) → Completes (.roleAnnounce p e 1
    hears strap serial primary) s (fun h => h.mode.active = .standby ∧ h.pair.epoch = e.toNat ∧ h.pair.lastCause = 4 ∧
    h.pair.inStep = false ∧ h.raised Ev.pairDemoted (u32 e.toNat ++ u8 4))) ∧
  (∀ (s : State) (p : Fin 3) (e : Word) (hears : Bool) (strap : Byte) (serial primary : BitVec 64), s.hub.live → s.hub.pairBuoy
    = false → s.hub.mode.active = .lighthouse → e.toNat < s.hub.pair.epoch → Completes (.roleAnnounce p e 1 hears strap serial
    primary) s (fun h => h.mode.active = .lighthouse ∧ h.pair.epoch = s.hub.pair.epoch)) ∧
  (∀ (s : State) (p : Fin 3) (e : Word) (kind : Byte), s.hub.live → s.hub.pairMember = true → s.hub.sysOpen p = true → e.toNat ≤
    s.hub.pair.epoch ∨ s.hub.swapping = true → Completes (.swapPrepare p e kind) s (fun h => h.pair = s.hub.pair ∧ h.gave s.hub
    (.sysData p 0x33 (s.hub.pairData s.hub.pair.epoch 0 kind.toNat)))) ∧
  (∀ (s : State) (p : Fin 3) (e : Word) (kind : Byte), s.hub.live → s.hub.pairMember = true → s.hub.sysOpen p = true →
    s.hub.pair.epoch < e.toNat → s.hub.swapping = false → kind.toNat ≠ 1 → Completes (.swapPrepare p e kind) s (fun h => h.pair =
    { s.hub.pair with swap := some ⟨false, false, e.toNat, [], [], p, none, none, true⟩, prepTimer := true } ∧ h.gave s.hub
    (.sysData p 0x32 (s.hub.pairData e.toNat 0 kind.toNat)))) ∧
  (∀ (s : State) (p : Fin 3) (e : Word), s.hub.live → s.hub.pairMember = true → s.hub.sysOpen p = true → s.hub.pair.epoch <
    e.toNat → s.hub.swapping = false → Completes (.swapPrepare p e 1) s (fun h => (h.pair.epoch = s.hub.pair.epoch ∧
    h.pair.prepTimer = true ∧ h.swapping = true ∧ (∀ w ∈ h.pair.swap, w.epoch = e.toNat ∧ w.port = p.val ∧ w.commanded = true ∧
    w.candidate = false ∧ w.commitSf = none)))) ∧
  (∀ (s : State) (w : Swap), s.hub.live → s.hub.pair.swap = some w → w.candidate = false → w.drained = false → w.commitSf = none
    → Completes (.swapHoldDrained) s (fun h => (if s.hub.swapDrained = true then h.pair =
    { s.hub.pair with swap := some { w with drained := true } } ∧ (s.hub.sysOpen w.port = true → h.gave s.hub (.sysData w.port
    0x32 (s.hub.pairData w.epoch 0 1))) else h.pair = s.hub.pair))) ∧
  (∀ (s : State) (p : Fin 3) (e : Word) (w : Swap) (sf : Nat), s.hub.live → s.hub.pair.swap = some w → w.candidate = true →
    w.epoch = e.toNat → w.awaited = [p.val] → w.commitSf = none → sf = (s.hub.links.sf + s.hub.val Od.pairSwapLead) % 2 ^ 32 →
    Completes (.swapReady p e) s (fun h => h.pair.swap = some
    { w with awaited := [], ready := w.ready ++ [p.val], commitSf := some sf } ∧ h.pair.prepTimer = false ∧ (∀ q ∈ w.ready ++
    [p.val], s.hub.running q = true → s.hub.sysOpen q = true → h.gave s.hub (.sysData q 0x34 (s.hub.pairData w.epoch sf (if
    w.commanded then 1 else 2)))))) ∧
  (∀ (s : State) (p : Fin 3) (e : Word) (w : Swap), s.hub.live → s.hub.pair.swap = some w → w.candidate = true → w.epoch =
    e.toNat → p.val ∈ w.awaited → (∃ q ∈ w.awaited, q ≠ p.val) → Completes (.swapReady p e) s (fun h => h.pair =
    { s.hub.pair with swap := some { w with awaited := w.awaited.filter (fun q => decide (q ≠ p.val)), ready := w.ready ++ [p.val] } })) ∧
  (∀ (s : State) (p : Fin 3) (e : Word) (w : Swap), s.hub.live → s.hub.pair.swap = some w → w.candidate = true → w.commitSf =
    none → p.val ∈ w.awaited ++ w.ready → Completes (.swapRefuse p e) s (fun h => (h.pair.swap = none ∧ h.pair.epoch =
    s.hub.pair.epoch ∧ h.raised Ev.pairSwapAborted (u32 s.hub.pair.epoch ++ u8 s.hub.pair.lastCause) ∧ (∀ c ∈ w.command, c < 8 →
    (s.hub.chan c).state = .running → (h.chan c).state = .done)) ∧ (∀ q ∈ w.awaited ++ w.ready, s.hub.running q = true →
    s.hub.sysOpen q = true → h.gave s.hub (.sysData q 0x35 (s.hub.pairData w.epoch 0 (if w.commanded then 1 else 2)))))) ∧
  (∀ (s : State) (p : Fin 3) (e sf : Word), s.hub.live → Completes (.swapCommit p e sf) s (fun h => (h.pair = if s.hub.inSwap p
    e.toNat = true then
    { s.hub.pair with swap := s.hub.pair.swap.map (fun w => { w with commitSf := some sf.toNat }), prepTimer := false } else
    s.hub.pair))) ∧
  (∀ (s : State) (p : Fin 3) (e : Word) (w : Swap), s.hub.live → s.hub.inSwap p e.toNat = true → s.hub.pair.swap = some w →
    w.commitSf = none → Completes (.swapAbort p e) s (fun h => h.pair.swap = none ∧ h.pair.epoch = s.hub.pair.epoch ∧ h.raised
    Ev.pairSwapAborted (u32 s.hub.pair.epoch ++ u8 s.hub.pair.lastCause))) ∧
  (∀ (s : State) (w : Swap), s.hub.live → s.hub.pair.prepTimer = true → s.hub.pair.swap = some w → w.commitSf = none → Completes
    (.swapPrepLimitExpiry) s (fun h => (h.pair.swap = none ∧ h.pair.epoch = s.hub.pair.epoch ∧ h.raised Ev.pairSwapAborted (u32
    s.hub.pair.epoch ++ u8 s.hub.pair.lastCause) ∧ (∀ c ∈ w.command, c < 8 → (s.hub.chan c).state = .running → (h.chan c).state =
    .done)))) ∧
  (∀ (s : State) (w : Swap), s.hub.live → s.hub.pair.swap = some w → w.candidate = true → w.commitSf = some s.hub.links.sf →
    Completes (.commitPoint) s (fun h => h.mode.active = .lighthouse ∧ h.pair.epoch = w.epoch ∧ h.pair.swap = none ∧
    h.pair.primarySerial = Config.serial ∧ h.pair.swaps = trunc 32 (s.hub.pair.swaps + 1) ∧ h.pair.lastCommitSf = s.hub.links.sf
    ∧ h.pair.lastCause = (if w.commanded then 1 else 2) ∧ (h.raised Ev.pairSwapped (u32 w.epoch ++ u8 (if w.commanded then 1 else
    2)) ∧ (∀ c ∈ w.command, c < 8 → (s.hub.chan c).state = .running → (h.chan c).state = .done)))) ∧
  (∀ (s : State) (w : Swap), s.hub.live → s.hub.pairBuoy = false → s.hub.pair.swap = some w → w.candidate = false → w.commitSf =
    some s.hub.links.sf → Completes (.commitPoint) s (fun h => h.mode.active = .standby ∧ h.pair.epoch = w.epoch ∧ h.pair.swap =
    none ∧ h.pair.swaps = trunc 32 (s.hub.pair.swaps + 1) ∧ h.pair.lastCommitSf = s.hub.links.sf)) ∧
  (∀ (s : State) (w : Swap), s.hub.live → s.hub.pairBuoy = true → s.hub.pair.swap = some w → w.candidate = false → w.commitSf =
    some s.hub.links.sf → Completes (.commitPoint) s (fun h => h.pair.primaryPort = some w.port ∧ h.pair.epoch = w.epoch ∧
    h.pair.swap = none ∧ h.mode.active = s.hub.mode.active ∧ h.pair.swaps = trunc 32 (s.hub.pair.swaps + 1))) ∧
  (∀ (s : State) (p : Fin 3), s.hub.live → s.hub.pairBuoy = true → s.hub.pair.primaryPort = some p.val → Completes (.pairLoss p)
    s (fun h => (h.pair.ownHears = if s.hub.val Od.pairPairLoss ≤ s.hub.bcn.undecoded then false else s.hub.pair.ownHears))) ∧
  (∀ (s : State), s.hub.live → s.hub.pairBuoy = false → s.hub.standby = true → s.hub.pairMember = true → s.hub.swapping = false
    → s.hub.plkSilent = true → s.hub.buoyLinks ≠ [] → (∀ q ∈ s.hub.buoyLinks, s.hub.pair.lostBy.get 0 q = 1) → Completes
    (.pairLoss 2) s (fun h => (h.swapping = true ∧ (∀ w ∈ h.pair.swap, w.candidate = true ∧ w.commanded = false ∧ w.epoch =
    s.hub.pair.epoch + 1) ∧ h.pair.prepTimer = true))) ∧
  (∀ (s : State), s.hub.live → s.hub.pairBuoy = false → s.hub.standby = true → s.hub.pairMember = true → s.hub.swapping = false
    → s.hub.plkSilent = true → s.hub.val Od.pairPairLoss < s.hub.bcn.undecoded → s.hub.pair.split = false → (∃ q ∈
    s.hub.buoyLinks, s.hub.pair.hears.get 0 q = 2) → (∃ q ∈ s.hub.buoyLinks, s.hub.pair.lostBy.get 0 q ≠ 1) → Completes
    (.pairLoss 2) s (fun h => h.pair = { s.hub.pair with split := true } ∧ h.raised Ev.pairSplit (u32 s.hub.pair.epoch ++ u8
    s.hub.pair.lastCause))) ∧
  (∀ (s : State), s.hub.live → s.hub.pair.silenceTimer = true → s.hub.pair.state = .joining → s.hub.standby = true → Completes
    (.pairClaimed) s (fun h => h.mode.active = .lighthouse ∧ h.pair.epoch = 1 + max s.hub.pair.epoch s.hub.pair.heardMax ∧
    h.pair.primarySerial = Config.serial ∧ h.pair.lastCause = 3 ∧ h.pair.silenceTimer = false ∧ h.raised Ev.pairClaimed (u32 (1 +
    max s.hub.pair.epoch s.hub.pair.heardMax) ++ u8 3)))

/-- What MIRROR records, their acknowledgement and its timeout, PAIR_SWAP and PAIR_RESYNC leave. A STANDBY that is a member with
the SYSTEM tunnel of PLK open acknowledges every MIRROR record; a Lamp record sets that Lamp's mirrored level and no pair
state; the start of a full copy leaves the mirror out of step with no shadow context and no shadow daymark; its end puts it
in step, raised as MIRROR_IN_STEP. At the primary an acknowledgement of the only record that waits for one ends the command
that waited for it and, in a resync, puts the mirror in step, raised, and ends PAIR_RESYNC; one of the first of several with
nothing waiting on it only removes it. A timeout with records unacknowledged leaves the mirror stale, raised, no resync, none
waiting, and ends the commands that waited. PAIR_SWAP at a confirmed STANDBY of a pair with a running PLK: in step it starts
a commanded swap at epoch + 1, sends SWAP_PREPARE on each open link and runs; out of step it ends with OPERATION_FAILED
detail 1. PAIR_RESYNC at a LIGHTHOUSE that mirrors starts a full copy, its start record sent, and runs. -/
def Obligations.MirrorRecordsAreAppliedAndAcknowledged : Prop :=
  (∀ (s : State) (seq : BitVec 16) (r : MirrorRec), s.hub.live → s.hub.standby = true → s.hub.pairMember = true → s.hub.sysOpen
    2 = true → Completes (.mirror seq r) s (fun h => h.gave s.hub (.mirrorAck seq.toNat))) ∧
  (∀ (s : State) (seq : BitVec 16) (l : Nat) (v : Bool), s.hub.live → s.hub.standby = true → s.hub.pairMember = true →
    s.hub.sysOpen 2 = true → Completes (.mirror seq (.lamp l v)) s (fun h => h.lamp l = { s.hub.lamp l with mirrored := v } ∧
    h.pair = s.hub.pair)) ∧
  (∀ (s : State) (seq : BitVec 16), s.hub.live → s.hub.standby = true → s.hub.pairMember = true → s.hub.sysOpen 2 = true →
    Completes (.mirror seq .copyStart) s (fun h => (h.pair.inStep = false ∧ (∀ c ∈ h.ctxList, c.2.shadow = false) ∧ (∀ d ∈
    h.dm.slots, d.shadow = false)))) ∧
  (∀ (s : State) (seq : BitVec 16), s.hub.live → s.hub.standby = true → s.hub.pairMember = true → s.hub.sysOpen 2 = true →
    Completes (.mirror seq .copyDone) s (fun h => h.pair.inStep = true ∧ h.raised Ev.mirrorInStep (u32 s.hub.pair.epoch ++ u8
    s.hub.pair.lastCause))) ∧
  (∀ (s : State) (seq : BitVec 16) (c status : Nat) (data : Bytes) (n : Nat), s.hub.live → c < 8 → (s.hub.chan c).state =
    .running → s.hub.pair.unacked = [(seq.toNat, [.command c status data])] → s.hub.pair.resync = some n → Completes (.mirrorAck
    seq) s (fun h => ((h.chan c).state = .done ∧ h.pair.inStep = true ∧ h.pair.resync = none ∧ h.raised Ev.mirrorInStep (u32
    s.hub.pair.epoch ++ u8 s.hub.pair.lastCause) ∧ (∀ d ∈ s.hub.pair.resyncCommand, d < 8 → (s.hub.chan d).state = .running →
    (h.chan d).state = .done)))) ∧
  (∀ (s : State) (seq : BitVec 16) (l : List (Nat × List MirrorEnd)), s.hub.live → s.hub.pair.unacked = (seq.toNat, []) :: l → l
    ≠ [] → Completes (.mirrorAck seq) s (fun h => h.pair = { s.hub.pair with unacked := l })) ∧
  (∀ (s : State), s.hub.live → s.hub.pair.unacked ≠ [] → s.hub.pair.inStep = true ∨ s.hub.pair.resync ≠ none → Completes
    (.mirrorTimeout) s (fun h => (h.pair.inStep = false ∧ h.pair.resync = none ∧ h.pair.unacked = [] ∧ h.raised Ev.mirrorStale
    (u32 s.hub.pair.epoch ++ u8 s.hub.pair.lastCause) ∧ (∀ u ∈ s.hub.pair.unacked, ∀ e ∈ u.2, ∀ c < 8, e = .command c 0 [] →
    (s.hub.chan c).state = .running → (h.chan c).state = .done)))) ∧
  (∀ (s : State) (req : Path) (c : Fin 8) (tag : BitVec 16), s.hub.takes req c 0x0900 → s.hub.mode.confirmed = true →
    s.hub.standby = true → s.hub.mode.pairConfig = true → s.hub.swapping = false → s.hub.running 2 = true → s.hub.pair.inStep =
    true → Completes (.pairSwap req c tag []) s (fun h => (h.swapping = true ∧ h.busyWith c 0x0900 tag.toNat ∧ (∀ w ∈
    h.pair.swap, w.candidate = true ∧ w.commanded = true ∧ w.epoch = s.hub.pair.epoch + 1 ∧ w.command = some c.val)) ∧ (h.gave
    s.hub (.answer req 0 []) ∧ (∀ q ∈ [0, 1, 2], s.hub.running q = true → s.hub.sysOpen q = true → h.gave s.hub (.sysData q 0x31
    (s.hub.pairData (s.hub.pair.epoch + 1) 0 1)))))) ∧
  (∀ (s : State) (req : Path) (c : Fin 8) (tag : BitVec 16), s.hub.takes req c 0x0900 → s.hub.mode.confirmed = true →
    s.hub.standby = true → s.hub.mode.pairConfig = true → s.hub.swapping = false → s.hub.running 2 = true → s.hub.pair.inStep =
    false → Completes (.pairSwap req c tag []) s (fun h => h.ended c 0x0900 tag.toNat (abFailed 1) [] ∧ h.pair = s.hub.pair)) ∧
  (∀ (s : State) (req : Path) (c : Fin 8) (tag : BitVec 16), s.hub.takes req c 0x0901 → s.hub.mode.active = .lighthouse →
    s.hub.mode.pairConfig = true → s.hub.swapping = false → s.hub.mirroring = true → Completes (.pairResync req c tag []) s (fun
    h => h.busyWith c 0x0901 tag.toNat ∧ h.pair.resync = some s.hub.copyRecords.length ∧ h.pair.resyncCommand = some c.val ∧
    s.hub.copyRecords.length ≤ h.pair.unacked.length ∧ h.gave s.hub (.answer req 0 []) ∧ h.gave s.hub (.mirror
    (s.hub.pair.mirrorSeq) .copyStart)))

/-- What seating, check, ramp, trips, retries, feed changes and the stage's commands leave of the mooring stage. Out of FOGHORN,
the last seat input of a stage in SEATING confirmed takes it to CHECK, LOCKOUT, or to SEATING while the retry timer runs; its
release from any state but OFF leaves UNSEATED, the gate shut and killed where power was on or in check. SEATING_START leaves
UNSEATED. CHECK with its feed good, or on a LIGHTSHIP with mode 2 entered upstream, opens the gate for RAMP; a feed not good
changes nothing. CHECK_TIMEOUT trips with cause 5 or 6, RAMP_TIMEOUT with 4, TRANSITION_TIMEOUT and VOLTAGE_TRIP with 3.
RAMP_DONE is POWERED, every contract of the stage at profile 0 and 200 mA, with CAPS sent where limp mode is not entered.
FAST_TRIP and CURVE_TRIP of a live stage trip with causes 2 and 1, shut and kill the gate, end the contracts, raise
MOOR_TRIP, and leave TRIPPED, or LOCKOUT at TRIP_LIMIT trips within TRIP_WINDOW; a stage that is not live takes no trip. The
retry timer's end leads a TRIPPED stage to CHECK. LOCKOUT_CLEAR's time clears the lockout. A feed lost with the other good is
left break-before-make, flagged and raised; the end of the break selects the new one; FEED_RETURN goes back. MOOR_RESUME
leads LOCKOUT to CHECK; MOOR_HOLD_OFF kills a live stage and holds it in CHECK, and its release lets go. -/
def Obligations.TheStageMovesAsTheTableOfR476Says : Prop :=
  (∀ (s : State) (i : Fin 2), s.hub.live → s.hub.inFog = false → s.hub.seatIn i = false → s.hub.moor.stage = .seating → i.val ∈
    s.hub.stageInputs → (∀ j ∈ s.hub.stageInputs, j = i.val ∨ s.hub.seatIn j = true) → Completes (.seatConfirm i) s (fun h =>
    (h.seatIn i = true ∧ bit 0 (h.val Od.moorMoorFlags) = true ∧ h.moor.stage = (if s.hub.moor.lockout then .lockout else if
    s.hub.moor.retryTimer then .seating else .check)))) ∧
  (∀ (s : State) (i : Fin 2), s.hub.live → s.hub.seatIn i = true → i.val ∈ s.hub.stageInputs → s.hub.moor.stage ≠ .off →
    Completes (.seatRelease i) s (fun h => h.seatIn i = false ∧ h.moor.stage = .unseated ∧ bit 1 (h.val Od.moorMoorFlags) = true
    ∧ (s.hub.moor.stage ≠ .unseated → s.hub.moor.stage ≠ .seating → h.moor.gate = false ∧ h.moor.killed = true ∧ h.gave s.hub
    (.line .gateKillN 0)))) ∧
  (∀ (s : State), s.hub.live → s.hub.moor.stage = .unseated → s.hub.stageInputs ≠ [] → Completes (.seatingStart) s (fun h =>
    (h.moor.stage = (if s.hub.stageSeated = false then .seating else if s.hub.moor.lockout then .lockout else if
    s.hub.moor.retryTimer then .seating else .check) ∧ h.moor.unseatedTimer = false))) ∧
  (∀ (s : State) (good : Fin 4) (f : Nat), s.hub.live → s.hub.moor.stage = .check → s.hub.moor.holdOff = false →
    s.hub.moorSupply = true → s.hub.moor.feed = some f → Completes (.checkPass good) s (fun h => (if bit f good = true then
    h.moor.stage = .ramp ∧ h.moor.gate = true ∧ h.moor.killed = false ∧ h.moor.vset = 12 ∧ h.gave s.hub (.line .gateKillN 1) ∧
    h.gave s.hub (.line .gateCtl 1) else h.moor = s.hub.moor))) ∧
  (∀ (s : State) (good : Fin 4), s.hub.live → s.hub.moor.stage = .check → s.hub.moor.holdOff = false → s.hub.moorRole =
    .lightship → Completes (.checkPass good) s (fun h => (if bit 1 (s.hub.conn 0).modes = true then h.moor.stage = .ramp ∧
    h.moor.gate = true ∧ h.moor.vset = profileVolts (s.hub.conn 0).profile ∧ h.gave s.hub (.line .gateKillN 1) else h.moor =
    s.hub.moor))) ∧
  (∀ (s : State) (b : Bool), s.hub.live → s.hub.moor.stage = .check → s.hub.moor.holdOff = false → Completes (.checkTimeout b) s
    (fun h => h.trippedFrom s.hub (if b then 5 else 6))) ∧
  (∀ (s : State), s.hub.live → s.hub.moor.stage = .ramp → Completes (.rampDone) s (fun h => (h.moor.stage = .powered ∧ (∀ c ∈
    s.hub.stageConns, (h.conn c).profile = 0 ∧ (h.conn c).current = 200)) ∧ (∀ c ∈ s.hub.stageConns, bit 0 (s.hub.conn c).modes =
    false → h.moorQueued c 0x10 (u8 (h.offered c) ++ u8 1) ∧ (h.conn c).capsTimer = true))) ∧
  (∀ (s : State), s.hub.live → s.hub.moor.stage = .ramp → Completes (.rampTimeout) s (fun h => h.trippedFrom s.hub 4)) ∧
  (∀ (s : State), s.hub.live → s.hub.stageLive = true → Completes (.fastTrip) s (fun h => (h.trippedFrom s.hub 2 ∧ bit 2 (h.val
    Od.moorMoorFlags) = true ∧ h.gave s.hub (.line .gateKillN 0) ∧ h.gave s.hub (.line .gateCtl 0) ∧ (∀ c ∈ s.hub.stageConns,
    (h.conn c).profile = 0 ∧ (h.conn c).current = 0)) ∧ h.raised Ev.moorTrip (u8 s.hub.stageConn ++ u8 7 ++ u8 (h.conn
    s.hub.stageConn).profile ++ u16 2) ∧ h.moor.stage = (if ((s.hub.clock :: s.hub.moor.tripTimes).filter (fun t => decide
    (s.hub.clock - t ≤ s.hub.val Od.moorTripWindow * 10000000000))).length < s.hub.val Od.moorTripLimit then .tripped else
    .lockout))) ∧
  (∀ (s : State), s.hub.live → s.hub.stageLive = false → Completes (.fastTrip) s (fun h => h.moor = s.hub.moor)) ∧
  (∀ (s : State) (k : Fin 16), s.hub.live → s.hub.stageLive = true → Completes (.curveTrip k) s (fun h => h.trippedFrom s.hub (1
    + 256 * k.val) ∧ bit 3 (h.val Od.moorMoorFlags) = true)) ∧
  (∀ (s : State), s.hub.live → s.hub.stageLive = true → Completes (.voltageTrip) s (fun h => h.trippedFrom s.hub 3 ∧ bit 4
    (h.val Od.moorMoorFlags) = true)) ∧
  (∀ (s : State), s.hub.live → s.hub.moor.stage = .transition → Completes (.transitionTimeout) s (fun h => h.trippedFrom s.hub 3
    ∧ h.moor.transition = none)) ∧
  (∀ (s : State), s.hub.live → s.hub.moor.retryTimer = true → Completes (.retryTimerExpiry) s (fun h => (h.moor.retryTimer =
    false ∧ h.moor.stage = (if s.hub.moor.stage = .tripped then .check else if s.hub.moor.stage = .seating ∧ s.hub.stageSeated =
    true then (if s.hub.moor.lockout then .lockout else .check) else s.hub.moor.stage)))) ∧
  (∀ (s : State), s.hub.live → s.hub.moor.stage = .unseated → s.hub.moor.unseatedTimer = true → s.hub.val Od.moorLockoutClear ≠
    0 → Completes (.lockoutClearExpiry) s (fun h => h.moor = { s.hub.moor with lockout := false, unseatedTimer := false })) ∧
  (∀ (s : State) (good : Fin 4) (f : Nat), s.hub.live → s.hub.moor.feed = some f → bit f good = false → bit (1 - f) good = true
    → s.hub.feedAllowed (1 - f) = true → Completes (.moorFeedSwitch good) s (fun h => h.moor =
    { s.hub.moor with feed := none, bbm := some (1 - f), feedGood := good.val } ∧ h.gave s.hub (.line (.feedSel f) 0) ∧ bit 6
    (h.val Od.moorMoorFlags) = true ∧ h.raised Ev.moorFeedSwitch (u8 s.hub.stageConn ++ u8 s.hub.moor.stage.code ++ u8
    (s.hub.conn s.hub.stageConn).profile))) ∧
  (∀ (s : State) (f : Nat), s.hub.live → s.hub.moor.bbm = some f → Completes (.feedBbmEnd) s (fun h => h.moor.feed = some f ∧
    h.moor.bbm = none ∧ h.gave s.hub (.line (.feedSel f) 1))) ∧
  (∀ (s : State) (f : Nat), s.hub.live → s.hub.moor.feed = some f → f ≠ s.hub.preferredFeed → Completes (.feedReturn) s (fun h
    => h.moor.feed = none ∧ h.moor.bbm = some s.hub.preferredFeed ∧ h.gave s.hub (.line (.feedSel f) 0) ∧ bit s.hub.preferredFeed
    h.moor.feedGood = true)) ∧
  (∀ (s : State) (req : Path) (c : Fin 8) (tag : BitVec 16), s.hub.takes req c 0x0A03 → s.hub.moor.stage = .lockout → Completes
    (.moorResume req c tag []) s (fun h => h.moor.stage = .check ∧ h.moor.lockout = false ∧ h.moor.tripTimes = [] ∧ h.ended c
    0x0A03 tag.toNat 0 (u8 3) ∧ h.gave s.hub (.answer req 0 []))) ∧
  (∀ (s : State) (req : Path) (c : Fin 8) (tag : BitVec 16), s.hub.takes req c 0x0A05 → Completes (.moorHoldOff req c tag) s
    (fun h => h.moor.holdOff = true ∧ (h.chan c).state = .done ∧ h.gave s.hub (.answer req 0 []) ∧ h.moor.trips =
    s.hub.moor.trips ∧ h.moor.stage = (if s.hub.stageLive = true then .check else s.hub.moor.stage) ∧ (s.hub.stageLive = true →
    h.moor.gate = false ∧ h.moor.killed = true ∧ h.gave s.hub (.line .gateKillN 0)))) ∧
  (∀ (s : State) (req : Path) (c : Fin 8) (tag : BitVec 16), s.hub.takes req c 0x0A05 → Completes (.moorHoldRelease req c tag) s
    (fun h => h.moor = { s.hub.moor with holdOff := false } ∧ h.ended c 0x0A05 tag.toNat 0 (u8 s.hub.moor.stage.code) ∧ h.gave
    s.hub (.answer req 0 [])))

/-- What received mooring messages, their timers and the mooring commands leave of connectors, contracts and queued messages. A
good message is one with a right CRC. GOOD ends the message it names. A wrong CRC is counted, and at a running link flagged,
and does no more. A sink's unseated connector takes nothing. Every message taken is answered by GOOD, and a repeat does no
more. At a sink that is no LIGHTSHIP and has one connector CAPS leads to a REQUEST; ACCEPT awaits PS_READY, which takes the
contract and ends the command; REJECT leaves it and ends the command; HARD_RESET, and PS_READY's timeout, which sends one,
leave profile 0. At a powered supply GET_CAPS gives CAPS; a REQUEST that it offers is accepted, at once where the voltage is
the same or after a transition, whose start sets the voltage and whose end gives the contract with PS_READY; another is
refused with reason 1, 2 or, in transition, 3; HARD_RESET leads to CHECK, counting no trip. CAPS repeats up to CAPS_COUNT.
Discover Modes, Enter and Exit Mode are answered and move the mode bits; their answers are taken; a VDM of THIRD_SVID goes to
firmware, another gets NAK; Attention gets GOOD. An unanswered message is sent three times, then lost, flagged. In FOGHORN
with limp mode entered LIMP_ATTENTION sends the cause. On a seated connector MOOR_RENEGOTIATE, MOOR_REQUEST (profile 0, or
out of FOGHORN and confirmed), MOOR_HARD_RESET and MOOR_SEND_VDM send their messages. -/
def Obligations.MooringMessagesNegotiateContracts : Prop :=
  (∀ (s : State) (c : Fin 2) (id ack : Fin 16) (m : MoorMsg) (t : List MoorMsg), s.hub.live → (s.hub.conn c).outMsgs = m :: t →
    m.id = ack.val → m.sends ≠ 0 → Completes (.good ⟨c, true⟩ id ack) s (fun h => ((h.conn c).outMsgs.map (fun x => (x.kind,
    x.id, x.data)) = t.map (fun x => (x.kind, x.id, x.data)) ∧ (m.kind = 0x20 → field m.data 2 1 = 4 → ∀ k ∈ m.command, k < 8 →
    (s.hub.chan k).state = .running → (h.chan k).state = .done)))) ∧
  (∀ (s : State) (c : Fin 2) (id : Fin 16) (mode : Byte) (data : Bytes), s.hub.live → s.hub.supplies c = true ∨ s.hub.connSeated
    c = true → Completes (.vdmAttention ⟨c, true⟩ id mode data) s (fun h => h.moorGave s.hub c 1 (s.hub.conn c).msgId (u8 id) ∧
    (h.conn c).profile = (s.hub.conn c).profile ∧ (h.conn c).outMsgs = (s.hub.conn c).outMsgs)) ∧
  (∀ (s : State) (c : Fin 2) (id : Fin 16), s.hub.live → Completes (.getCaps ⟨c, false⟩ id) s (fun h => h.moor = s.hub.moor ∧
    (if s.hub.running c = true then bit 6 (h.reg (Rg.linkFlags c)) = true else h.val Od.moorLineErrors = (s.hub.val
    Od.moorLineErrors + 1) % 2 ^ 32))) ∧
  (∀ (s : State) (c : Fin 2) (id mask : Fin 16) (vendor : Bool), s.hub.live → s.hub.supplies c = false → s.hub.connSeated c =
    false → Completes (.caps ⟨c, true⟩ id mask vendor) s (fun h => h.moor = s.hub.moor ∧ h.od = s.hub.od)) ∧
  (∀ (s : State) (c : Fin 2) (id : Fin 16), s.hub.live → s.hub.supplies c = true ∨ s.hub.connSeated c = true → (s.hub.conn
    c).rxId = some id.val → Completes (.hardReset ⟨c, true⟩ id) s (fun h => h.conn c =
    { s.hub.conn c with msgId := ((s.hub.conn c).msgId + 1) % 16 } ∧ h.moor.stage = s.hub.moor.stage)) ∧
  (∀ (s : State) (c : Fin 2) (id mask : Fin 16) (vendor : Bool) (w : Nat × Nat), s.hub.live → s.hub.supplies c = false →
    s.hub.connSeated c = true → (s.hub.conn c).rxId ≠ some id.val → s.hub.dualHomed = false → s.hub.moorRole ≠ .lightship → w =
    s.hub.wanted c (mask.val ||| 1) → Completes (.caps ⟨c, true⟩ id mask vendor) s (fun h => (h.conn c).asked = some w ∧ (h.conn
    c).farCaps = some (mask.val ||| 1) ∧ (h.conn c).vendor = vendor ∧ h.moorQueued c 0x12 (u8 w.1 ++ u16 w.2) ∧ (h.conn
    c).profile = (s.hub.conn c).profile)) ∧
  (∀ (s : State) (c : Fin 2) (id : Fin 16), s.hub.live → s.hub.supplies c = true → (s.hub.conn c).rxId ≠ some id.val →
    s.hub.moor.stage = .powered → c.val ∈ s.hub.stageConns → bit 0 (s.hub.conn c).modes = false → Completes (.getCaps ⟨c, true⟩
    id) s (fun h => h.moorQueued c 0x10 (u8 (s.hub.offered c) ++ u8 1) ∧ (h.conn c).capsTimer = true ∧ (h.conn c).capsCount = 1)) ∧
  (∀ (s : State) (c : Fin 2) (id : Fin 16) (p : Byte) (a : BitVec 16), s.hub.live → s.hub.supplies c = true → (s.hub.conn
    c).rxId ≠ some id.val → s.hub.moorRole ≠ .lightship → s.hub.moor.stage = .powered → s.hub.moor.downReq = none → p.toNat ≤ 3 →
    bit p.toNat (s.hub.offered c) = true → a.toNat ≤ profileCurrent p.toNat → Completes (.request ⟨c, true⟩ id p a) s (fun h =>
    (if profileVolts p.toNat = profileVolts (s.hub.conn c).profile then h.moor.stage = .powered ∧ (h.conn c).profile = p.toNat ∧
    (h.conn c).current = a.toNat ∧ h.moorQueued c 0x15 (u8 p.toNat) else h.moor.stage = .transition ∧ h.moor.transition = some
    (c.val, p.toNat, a.toNat, false) ∧ (h.conn c).profile = (s.hub.conn c).profile ∧ h.moorQueued c 0x13 (u8 p.toNat)))) ∧
  (∀ (s : State) (c : Fin 2) (id : Fin 16) (p : Byte) (a : BitVec 16), s.hub.live → s.hub.supplies c = true → (s.hub.conn
    c).rxId ≠ some id.val → s.hub.moor.stage = .transition ∨ (s.hub.moor.stage = .powered ∧ s.hub.moor.downReq = none ∧ (3 <
    p.toNat ∨ bit p.toNat (s.hub.offered c) = false ∨ profileCurrent p.toNat < a.toNat)) → Completes (.request ⟨c, true⟩ id p a)
    s (fun h => (h.moorQueued c 0x14 (u8 (if s.hub.moor.stage = .transition then 3 else if 3 < p.toNat ∨ bit p.toNat
    (s.hub.offered c) = false then 1 else 2)) ∧ h.moor.stage = s.hub.moor.stage ∧ (h.conn c).profile = (s.hub.conn c).profile ∧
    (h.conn c).current = (s.hub.conn c).current))) ∧
  (∀ (s : State) (c : Fin 2) (id : Fin 16) (p : Byte), s.hub.live → s.hub.supplies c = false → s.hub.connSeated c = true →
    (s.hub.conn c).rxId ≠ some id.val → (s.hub.conn c).asked ≠ none → s.hub.moor.downReq = none → Completes (.accept ⟨c, true⟩ id
    p) s (fun h => (h.conn c).awaitPs = true ∧ (h.conn c).asked = (s.hub.conn c).asked ∧ (h.conn c).profile = (s.hub.conn
    c).profile)) ∧
  (∀ (s : State) (c : Fin 2) (id : Fin 16) (reason : Byte), s.hub.live → s.hub.supplies c = false → s.hub.connSeated c = true →
    (s.hub.conn c).rxId ≠ some id.val → Completes (.reject ⟨c, true⟩ id reason) s (fun h => ((h.conn c).asked = none ∧ (h.conn
    c).profile = (s.hub.conn c).profile ∧ (h.conn c).current = (s.hub.conn c).current ∧ (∀ k ∈ (s.hub.conn c).request, k < 8 →
    (s.hub.chan k).state = .running → (h.chan k).state = .done)))) ∧
  (∀ (s : State) (c : Fin 2) (id : Fin 16) (q : Byte) (p a : Nat), s.hub.live → s.hub.supplies c = false → s.hub.connSeated c =
    true → (s.hub.conn c).rxId ≠ some id.val → (s.hub.conn c).asked = some (p, a) → (s.hub.conn c).awaitPs = true → Completes
    (.psReady ⟨c, true⟩ id q) s (fun h => ((h.conn c).profile = p ∧ (h.conn c).current = a ∧ (h.conn c).asked = none ∧ (h.conn
    c).awaitPs = false ∧ (∀ k ∈ (s.hub.conn c).request, k < 8 → (s.hub.chan k).state = .running → (h.chan k).state = .done)))) ∧
  (∀ (s : State) (c : Fin 2) (id : Fin 16), s.hub.live → s.hub.supplies c = true → (s.hub.conn c).rxId ≠ some id.val →
    s.hub.moor.stage = .powered ∨ s.hub.moor.stage = .transition → Completes (.hardReset ⟨c, true⟩ id) s (fun h => (h.moor.stage
    = .check ∧ h.moor.gate = false ∧ h.moor.killed = true ∧ h.moor.vset = 12 ∧ h.moor.trips = s.hub.moor.trips ∧
    h.moor.retryTimer = s.hub.moor.retryTimer ∧ (∀ d ∈ s.hub.stageConns, (h.conn d).profile = 0)))) ∧
  (∀ (s : State) (c : Fin 2) (id : Fin 16), s.hub.live → s.hub.supplies c = false → s.hub.connSeated c = true → (s.hub.conn
    c).rxId ≠ some id.val → Completes (.hardReset ⟨c, true⟩ id) s (fun h => (h.conn c).profile = 0 ∧ (h.conn c).current = 0 ∧
    h.moor.stage = s.hub.moor.stage)) ∧
  (∀ (s : State) (c : Fin 2), s.hub.live → (s.hub.conn c).awaitPs = true → s.hub.supplies c = false → Completes (.psReadyTimeout
    c) s (fun h => (h.conn c).profile = 0 ∧ (h.conn c).asked = none ∧ h.moorQueued c 0x16 [])) ∧
  (∀ (s : State) (c : Fin 2), s.hub.live → (s.hub.conn c).capsTimer = true → s.hub.moor.stage = .powered → bit 0 (s.hub.conn
    c).modes = false → Completes (.capsRepeat c) s (fun h => (if (s.hub.conn c).capsCount < s.hub.val Od.moorCapsCount then
    (h.conn c).capsCount = (s.hub.conn c).capsCount + 1 ∧ h.moorQueued c 0x10 (u8 (s.hub.offered c) ++ u8 1) else h.conn c =
    { s.hub.conn c with capsTimer := false }))) ∧
  (∀ (s : State) (c p a : Nat), s.hub.live → s.hub.moor.transition = some (c, p, a, false) → Completes (.transitionStart) s (fun
    h => h.moor = { s.hub.moor with transition := some (c, p, a, true), vset := profileVolts p } ∧ h.gave s.hub (.line .moorVset
    (profileVolts p)))) ∧
  (∀ (s : State) (c p a : Nat), s.hub.live → s.hub.moorRole ≠ .lightship → s.hub.moor.stage = .transition →
    s.hub.moor.transition = some (c, p, a, true) → Completes (.transitionDone) s (fun h => (h.moor.stage = .powered ∧
    h.moor.transition = none ∧ (h.conn c).profile = p ∧ (h.conn c).current = a ∧ (∃ m ∈ (h.conn c).outMsgs, m.kind = 0x15 ∧
    m.data = u8 p)))) ∧
  (∀ (s : State) (c : Fin 2) (id : Fin 16) (mode : Byte) (data : Bytes), s.hub.live → s.hub.supplies c = true ∨ s.hub.connSeated
    c = true → (s.hub.conn c).rxId ≠ some id.val → Completes (.vdmDiscoverModes ⟨c, true⟩ id false mode data) s (fun h =>
    h.moorQueued c 0x20 (u16 0x544C ++ u8 129 ++ u8 0 ++ [1, 2, 3, 0, 0, 0]))) ∧
  (∀ (s : State) (c : Fin 2) (id : Fin 16) (mode : Byte) (data : Bytes) (m : Nat), s.hub.live → s.hub.supplies c = true ∨
    s.hub.connSeated c = true → (s.hub.conn c).rxId ≠ some id.val → (s.hub.conn c).vdmOut = some (1, m) → Completes
    (.vdmDiscoverModes ⟨c, true⟩ id true mode data) s (fun h => ((h.conn c).vdmOut = none ∧ (h.conn c).modes = (s.hub.conn
    c).modes ∧ (∀ k ∈ (s.hub.conn c).vdm, k < 8 → (s.hub.chan k).state = .running → (h.chan k).state = .done)))) ∧
  (∀ (s : State) (c : Fin 2) (id : Fin 16) (mode : Byte) (data : Bytes), s.hub.live → s.hub.supplies c = true → (s.hub.conn
    c).rxId ≠ some id.val → 1 ≤ mode.toNat → mode.toNat ≤ 3 → Completes (.vdmEnter ⟨c, true⟩ id false mode data) s (fun h => (bit
    (mode.toNat - 1) (h.conn c).modes = true ∧ (∃ m ∈ (h.conn c).outMsgs, m.kind = 0x20 ∧ m.data = u16 0x544C ++ u8 130 ++ u8 0
    ++ [0, 0, 0, 0, 0, 0]) ∧ (mode = 1 → (h.conn c).capsTimer = false)))) ∧
  (∀ (s : State) (c : Fin 2) (id : Fin 16) (mode : Byte) (data : Bytes), s.hub.live → s.hub.supplies c = true → (s.hub.conn
    c).rxId ≠ some id.val → mode.toNat = 0 ∨ 3 < mode.toNat → Completes (.vdmEnter ⟨c, true⟩ id false mode data) s (fun h =>
    (h.conn c).modes = (s.hub.conn c).modes ∧ h.moorQueued c 0x20 (u16 0x544C ++ u8 130 ++ u8 1 ++ [0, 0, 0, 0, 0, 0]))) ∧
  (∀ (s : State) (c : Fin 2) (id : Fin 16) (status : Byte) (data : Bytes) (m : Nat), s.hub.live → s.hub.supplies c = true ∨
    s.hub.connSeated c = true → (s.hub.conn c).rxId ≠ some id.val → (s.hub.conn c).vdmOut = some (2, m) → 1 ≤ m → m ≤ 3 →
    Completes (.vdmEnter ⟨c, true⟩ id true status data) s (fun h => (h.conn c).vdmOut = none ∧ (if status = 0 then bit (m - 1)
    (h.conn c).modes = true else (h.conn c).modes = (s.hub.conn c).modes))) ∧
  (∀ (s : State) (c : Fin 2) (id : Fin 16) (mode : Byte) (data : Bytes), s.hub.live → s.hub.supplies c = true → (s.hub.conn
    c).rxId ≠ some id.val → 1 ≤ mode.toNat → mode.toNat ≤ 3 → Completes (.vdmExit ⟨c, true⟩ id false mode data) s (fun h => (bit
    (mode.toNat - 1) (h.conn c).modes = false ∧ (∃ m ∈ (h.conn c).outMsgs, m.kind = 0x20 ∧ m.data = u16 0x544C ++ u8 131 ++ u8 0
    ++ [0, 0, 0, 0, 0, 0])))) ∧
  (∀ (s : State) (c : Fin 2) (id : Fin 16) (svid : BitVec 16) (command mode : Byte) (data : Bytes), s.hub.live → s.hub.supplies
    c = true ∨ s.hub.connSeated c = true → (s.hub.conn c).rxId ≠ some id.val → command.toNat < 128 → svid.toNat = s.hub.val
    Od.moorThirdSvid → svid ≠ 0 → Completes (.moorVdm ⟨c, true⟩ id svid command mode data) s (fun h => h.raised Ev.moorVdm (u8 c
    ++ u8 s.hub.moor.stage.code ++ u8 (s.hub.conn c).profile ++ (u16 svid.toNat ++ u8 command.toNat ++ u8 mode.toNat ++ data.take
    6)) ∧ bit 10 (h.val Od.moorMoorFlags) = true ∧ (h.conn c).outMsgs = (s.hub.conn c).outMsgs)) ∧
  (∀ (s : State) (c : Fin 2) (id : Fin 16) (svid : BitVec 16) (command mode : Byte) (data : Bytes), s.hub.live → s.hub.supplies
    c = true ∨ s.hub.connSeated c = true → (s.hub.conn c).rxId ≠ some id.val → command.toNat < 128 → command.toNat ≠ 4 →
    svid.toNat ≠ s.hub.val Od.moorThirdSvid ∨ svid = 0 → Completes (.moorVdm ⟨c, true⟩ id svid command mode data) s (fun h =>
    h.moorQueued c 0x20 (u16 svid.toNat ++ u8 (command.toNat + 128) ++ u8 1 ++ [0, 0, 0, 0, 0, 0]))) ∧
  (∀ (s : State) (c : Fin 2) (m : MoorMsg) (t : List MoorMsg), s.hub.live → (s.hub.conn c).outMsgs = m :: t → Completes
    (.mooringMsgRetry c) s (fun h => (m.sends < 3 → (h.conn c).outMsgs = { m with sends := m.sends + 1 } :: t ∧ h.moorGave s.hub
    c m.kind m.id m.data) ∧ (3 ≤ m.sends → bit 8 (h.val Od.moorMoorFlags) = true ∧ (m.kind = 0x10 → (h.conn c).outMsgs.length =
    t.length) ∧ (m.kind = 0x12 → (h.conn c).asked = none)))) ∧
  (∀ (s : State), s.hub.live → s.hub.inFog = true → bit 0 (s.hub.conn 0).modes = true → Completes (.limpAttention) s (fun h =>
    h.moorQueued 0 0x20 (u16 0x544C ++ u8 4 ++ u8 1 ++ (u8 s.hub.mode.fogCause ++ [0, 0, 0, 0, 0])))) ∧
  (∀ (s : State) (req : Path) (c : Fin 8) (tag : BitVec 16) (k : Fin 2), s.hub.takes req c 0x0A00 → s.hub.connSeated k = true →
    s.hub.moor.stage ≠ .transition → Completes (.moorRenegotiate req c tag (u8 k)) s (fun h => h.ended c 0x0A00 tag.toNat 0 (u8
    (s.hub.conn k).profile) ∧ h.gave s.hub (.answer req 0 []) ∧ (s.hub.supplies k = false → h.moorQueued k 0x11 []) ∧
    (s.hub.supplies k = true → s.hub.moor.stage = .powered → k.val ∈ s.hub.stageConns → bit 0 (s.hub.conn k).modes = false →
    h.moorQueued k 0x10 (u8 (s.hub.offered k) ++ u8 1)))) ∧
  (∀ (s : State) (req : Path) (c : Fin 8) (tag : BitVec 16) (p : Fin 4) (a : BitVec 16), s.hub.takes req c 0x0A01 →
    s.hub.moorSupply = false → s.hub.dualHomed = false → s.hub.connSeated 0 = true → s.hub.moor.stage ≠ .transition → (s.hub.conn
    0).awaitPs = false → a ≠ 0 → a.toNat ≤ profileCurrent p → p.val = 0 ∨ (s.hub.inFog = false ∧ s.hub.mode.confirmed = true) →
    Completes (.moorRequest req c tag (u8 p ++ u16 a.toNat)) s (fun h => h.busyWith c 0x0A01 tag.toNat ∧ h.gave s.hub (.answer
    req 0 []) ∧ (h.conn 0).asked = some (p.val, a.toNat) ∧ (h.conn 0).request = some c.val ∧ h.moorQueued 0 0x12 (u8 p ++ u16
    a.toNat))) ∧
  (∀ (s : State) (req : Path) (c : Fin 8) (tag : BitVec 16) (k : Fin 2), s.hub.takes req c 0x0A02 → s.hub.connSeated k = true →
    Completes (.moorHardReset req c tag (u8 k)) s (fun h => (h.chan c).state = .done ∧ h.gave s.hub (.answer req 0 []) ∧
    h.moorQueued k 0x16 [] ∧ (s.hub.supplies k = false → (h.conn k).profile = 0 ∧ (h.conn k).current = 0) ∧ (s.hub.supplies k =
    true → s.hub.moor.stage = .powered → h.moor.stage = .check ∧ h.moor.gate = false ∧ h.moor.trips = s.hub.moor.trips))) ∧
  (∀ (s : State) (req : Path) (c : Fin 8) (tag : BitVec 16) (k : Fin 2) (m : Bytes), s.hub.takes req c 0x0A04 → s.hub.connSeated
    k = true → m.length = 10 → Completes (.moorSendVdm req c tag (u8 k ++ m)) s (fun h => (h.busyWith c 0x0A04 tag.toNat ∧ h.gave
    s.hub (.answer req 0 []) ∧ h.moorQueued k 0x20 m ∧ (∀ x ∈ (h.conn k).outMsgs.getLast?, x.command = some c.val)) ∧ (field m 2
    1 ≠ 4 → (h.conn k).vdm = some c.val ∧ (h.conn k).vdmOut = some (field m 2 1, field m 3 1))))

/-- What KEY_DERIVE, GENERATE, LOAD_PUBLIC, ERASE, ATTEST, SIGN, FUSE_PROGRAM, PAIR_REKEY and the ECC engine leave. For arguments
that pass the checks of R527. KEY_DERIVE from a VALID slot of usage 4 with uses left, its check holding and random numbers
given out, fills the destination with usage, uses and EXPIRE (and, but for an ECC key, the KDF's output, ending at once) and
costs the source a use where the crypto block is free, and waits its turn in the queue where not, filling the slot when its
turn ends (R512); a failed check makes the source BAD, fills nothing and refuses; a source of another usage or without uses
is refused and no slot changes. KEY_GENERATE waits in the ECC queue. KEY_LOAD_PUBLIC fills the pair of slots where the point
is on the curve (a law of P-256 left uninterpreted, log 7), and else is refused. KEY_ERASE empties its slot, of an IMAGE key
both slots (log 87), and no other. ATTEST and SIGN, the check of their slot holding, wait in the ECC queue, SIGN costing a
use; else the slot is BAD and they are refused. FUSE_PROGRAM in BENCH only adds bits, to one field, and leaves the latched
values; a good read-back gives the union and ends with the number of bits added, a failed one ends with OPERATION_FAILED
detail 1. PAIR_REKEY leaves no pair key for its target and ends with their number. The ECC engine, its domain on, ends its
oldest operation: SIGN with the signature, ATTEST with the report, KEY_GENERATE with a VALID slot where the slot can be
written and with SLOT_BAD, the slot as it was, where not. -/
def Obligations.KeySlotsAndFusesFollowTheirCommands : Prop :=
  (∀ (s : State) (req : Path) (c : Fin 8) (tag : BitVec 16) (a : Bytes) (n src : Nat), s.hub.takes req c 0x0B00 → deriveArgs a =
    none → s.hub.slotStates [n] = none → n = field a 0 1 → src = field a 1 1 → (s.hub.slot src).state = .valid → (s.hub.slot
    src).usage = 4 → (s.hub.slot src).usesLeft ≠ 0 → s.hub.drawOk = true → s.hub.sec.ecc = [] → Completes (.keyDerive req c tag
    a) s (fun h => (if (s.hub.slot src).check = s.hub.slotCheck src (s.hub.slot src).key 4 (s.hub.slot src).expire then (h.slot
    n).state = .valid ∧ (h.slot n).usage = field a 2 1 ∧ (h.slot n).usesLeft = field a 4 4 ∧ (h.slot n).expire = decide (field a
    3 1 = 1) ∧ (h.slot src).usesLeft = (if (s.hub.slot src).usesLeft = 0xFFFFFFFF then 0xFFFFFFFF else (s.hub.slot src).usesLeft
    - 1) ∧ (h.chan c).state = .done ∧ (field a 2 1 ≠ 2 → (h.slot n).key = leNat (kdf (s.hub.slot src).key ((a.drop 10).take
    (field a 8 1)) (a.drop (10 + field a 8 1)) 256) ∧ h.ended c 0x0B00 tag.toNat 0 (u8 n)) else (h.slot src).state = .bad ∧
    (h.slot n).state = (s.hub.slot n).state ∧ h.gave s.hub (.answer req (abState stSlotBad) [])))) ∧
  (∀ (s : State) (req : Path) (c : Fin 8) (tag : BitVec 16) (a : Bytes) (n src : Nat), s.hub.takes req c 0x0B00 → deriveArgs a =
    none → s.hub.slotStates [n] = none → n = field a 0 1 → src = field a 1 1 → (s.hub.slot src).state = .valid → (s.hub.slot
    src).usage ≠ 4 ∨ (s.hub.slot src).usesLeft = 0 → Completes (.keyDerive req c tag a) s (fun h => h.gave s.hub (.answer req
    abDenied []) ∧ h.sec = s.hub.sec)) ∧
  (∀ (s : State) (req : Path) (c : Fin 8) (tag : BitVec 16) (a : Bytes), s.hub.takes req c 0x0B00 → deriveArgs a = none →
    s.hub.slotStates [field a 0 1] = none → (s.hub.slot (field a 1 1)).state = .valid → (s.hub.slot (field a 1 1)).usage = 4 →
    (s.hub.slot (field a 1 1)).usesLeft ≠ 0 → s.hub.sec.ecc ≠ [] → Completes (.keyDerive req c tag a) s (fun h => h.slot (field a
    0 1) = s.hub.slot (field a 0 1) ∧ (if (s.hub.slot (field a 1 1)).check = s.hub.slotCheck (field a 1 1) (s.hub.slot (field a 1
    1)).key 4 (s.hub.slot (field a 1 1)).expire then h.busyWith c 0x0B00 tag.toNat ∧ h.sec.ecc.length = s.hub.sec.ecc.length + 1
    else (h.slot (field a 1 1)).state = .bad ∧ h.sec.ecc = s.hub.sec.ecc))) ∧
  (∀ (s : State) (n usage uses key : Nat) (e : Bool) (pub : Bytes) (c : Fin 8) (rest : List (EccOp × Option Nat)), s.hub.live →
    s.hub.domOn 16 = true → s.hub.sec.ecc = (.derive_ n usage uses key e pub, some c.val) :: rest → (s.hub.chan c).state =
    .running → s.hub.slotWritable n = true → s.hub.drawOk = true → Completes (.eccEngineDone) s (fun h => h.sec.ecc = rest ∧
    (h.slot n).state = .valid ∧ (h.slot n).usage = usage ∧ (h.slot n).usesLeft = uses ∧ (h.slot n).expire = e ∧ h.ended c
    (s.hub.chan c).code (s.hub.chan c).tag 0 (u8 n ++ pub))) ∧
  (∀ (s : State) (req : Path) (c : Fin 8) (tag : BitVec 16) (n : Nat) (usage : Nat) (e : Bool) (uses : Word), s.hub.takes req c
    0x0B01 → 20 ≤ n → n ≤ 63 → usage = 2 ∨ usage = 5 → uses ≠ 0 → s.hub.slotStates [n] = none → Completes (.keyGenerate req c tag
    (u8 n ++ u8 usage ++ u8 (b2n e) ++ u8 0 ++ u32 uses.toNat)) s (fun h => h.sec =
    { s.hub.sec with ecc := s.hub.sec.ecc ++ [(.generate n usage uses.toNat e, some c.val)] } ∧ h.busyWith c 0x0B01 tag.toNat ∧
    h.gave s.hub (.answer req 0 []))) ∧
  (∀ (s : State) (req : Path) (c : Fin 8) (tag : BitVec 16) (n : Nat) (e : Bool) (uses : Word) (pub : Bytes), s.hub.takes req c
    0x0B02 → 20 ≤ n → n ≤ 62 → n % 2 = 0 → uses ≠ 0 → pub.length = 64 → s.hub.slotStates [n, n + 1] = none → s.hub.drawOk = true
    → Completes (.keyLoadPublic req c tag (u8 n ++ u8 (b2n e) ++ u16 0 ++ u32 uses.toNat ++ pub)) s (fun h => (if Config.onCurve
    pub = true then (∀ m ∈ [n, n + 1], (h.slot m).state = .valid ∧ (h.slot m).usage = 3 ∧ (h.slot m).usesLeft = uses.toNat ∧
    (h.slot m).expire = e ∧ (h.slot m).publicKey = pub) ∧ h.ended c 0x0B02 tag.toNat 0 [] ∧ h.gave s.hub (.answer req 0 []) else
    h.sec = s.hub.sec ∧ h.gave s.hub (.answer req (abArg 12) [])))) ∧
  (∀ (s : State) (req : Path) (c : Fin 8) (tag : BitVec 16) (n : Nat), s.hub.takes req c 0x0B03 → 20 ≤ n → n ≤ 63 → Completes
    (.keyErase req c tag (u8 n)) s (fun h => (h.slot n = Slot.init ∧ (∀ m : Fin 64, m.val ≠ n → if (s.hub.slot n).usage = 3 ∧
    m.val / 2 = n / 2 then h.slot m = Slot.init else h.slot m = s.hub.slot m) ∧ h.ended c 0x0B03 tag.toNat 0 [] ∧ h.gave s.hub
    (.answer req 0 [])))) ∧
  (∀ (s : State) (req : Path) (c : Fin 8) (tag : BitVec 16) (nonce : Bytes), s.hub.takes req c 0x0B04 → nonce.length = 32 →
    s.hub.sec.trng = .running → (s.hub.slot 2).state = .valid → (s.hub.slot 2).usage = 2 → (s.hub.slot 2).usesLeft = 0xFFFFFFFF →
    Completes (.attest req c tag nonce) s (fun h => (if (s.hub.slot 2).check = s.hub.slotCheck 2 (s.hub.slot 2).key 2 (s.hub.slot
    2).expire then h.sec = { s.hub.sec with ecc := s.hub.sec.ecc ++ [(.attest (s.hub.slot 2).key nonce, some c.val)] } ∧
    h.busyWith c 0x0B04 tag.toNat ∧ h.gave s.hub (.answer req 0 []) else (h.slot 2).state = .bad ∧ h.gave s.hub (.answer req
    (abState stSlotBad) [])))) ∧
  (∀ (s : State) (req : Path) (c : Fin 8) (tag : BitVec 16) (a : Bytes) (ok : Bool) (k : Nat), s.hub.takes req c 0x0B05 →
    s.hub.mode.active = .bench → s.hub.fuseArgs a = none → field a 0 1 ≠ 0 → (k = if field a 0 1 = 8 then 8 + field a 1 1 else
    field a 0 1) → Completes (.fuseProgram req c tag a ok) s (fun h => (h.sec.latched = s.hub.sec.latched ∧ h.gave s.hub (.answer
    req 0 []) ∧ s.hub.sec.fuses.get 0 k &&& h.sec.fuses.get 0 k = s.hub.sec.fuses.get 0 k ∧ (∀ j : Fin 24, j.val ≠ k →
    h.sec.fuses.get 0 j = s.hub.sec.fuses.get 0 j)) ∧ (ok = true → h.sec.fuses.get 0 k = s.hub.sec.fuses.get 0 k ||| leNat
    (a.drop 4) ∧ h.ended c 0x0B05 tag.toNat 0 (u16 (ones 256 (h.sec.fuses.get 0 k) - ones 256 (s.hub.sec.fuses.get 0 k)))) ∧ (ok
    = false → h.ended c 0x0B05 tag.toNat (abFailed 1) []))) ∧
  (∀ (s : State) (req : Path) (c : Fin 8) (tag : BitVec 16) (t : Nat), s.hub.takes req c 0x0B06 → t < 256 → (s.hub.route
    t).isSome = true → s.hub.inFog = false → Completes (.pairRekey req c tag (u8 t)) s (fun h => ((∀ k : Fin 8, (h.pairKey
    k).target ≠ t) ∧ h.ended c 0x0B06 tag.toNat 0 (u8 ((List.range 8).filter (fun k => decide ((s.hub.pairKey k).target =
    t))).length) ∧ h.gave s.hub (.answer req 0 [])))) ∧
  (∀ (s : State) (req : Path) (c : Fin 8) (tag : BitVec 16) (n : Nat) (d : Bytes), s.hub.takes req c 0x0B07 → s.hub.inFog =
    false → 20 ≤ n → n ≤ 63 → d.length = 32 → (s.hub.slot n).state = .valid → (s.hub.slot n).usage = 2 → (s.hub.slot n).usesLeft
    ≠ 0 → Completes (.sign req c tag (u8 n ++ d)) s (fun h => (if (s.hub.slot n).check = s.hub.slotCheck n (s.hub.slot n).key 2
    (s.hub.slot n).expire then h.sec.ecc = s.hub.sec.ecc ++ [(.sign (s.hub.slot n).key d, some c.val)] ∧ h.busyWith c 0x0B07
    tag.toNat ∧ h.gave s.hub (.answer req 0 []) ∧ (h.slot n).usesLeft = (if (s.hub.slot n).usesLeft = 0xFFFFFFFF then 0xFFFFFFFF
    else (s.hub.slot n).usesLeft - 1) else (h.slot n).state = .bad ∧ h.sec.ecc = s.hub.sec.ecc ∧ h.gave s.hub (.answer req
    (abState stSlotBad) [])))) ∧
  (∀ (s : State) (key : Nat) (d : Bytes) (c : Fin 8) (l : List (EccOp × Option Nat)), s.hub.live → s.hub.domOn 16 = true →
    s.hub.sec.ecc = (.sign key d, some c.val) :: l → (s.hub.chan c).state = .running → Completes (.eccEngineDone) s (fun h =>
    h.sec.ecc = l ∧ h.ended c (s.hub.chan c).code (s.hub.chan c).tag 0 (Config.ecdsaSign key d))) ∧
  (∀ (s : State) (key : Nat) (nonce : Bytes) (c : Fin 8) (l : List (EccOp × Option Nat)), s.hub.live → s.hub.domOn 16 = true →
    s.hub.sec.ecc = (.attest key nonce, some c.val) :: l → (s.hub.chan c).state = .running → Completes (.eccEngineDone) s (fun h
    => h.sec.ecc = l ∧ h.ended c (s.hub.chan c).code (s.hub.chan c).tag 0 (s.hub.reportBody nonce ++ Config.ecdsaSign key
    (Config.sha256 (s.hub.reportBody nonce))))) ∧
  (∀ (s : State) (n usage uses : Nat) (e : Bool) (c : Fin 8) (l : List (EccOp × Option Nat)), s.hub.live → s.hub.domOn 16 = true
    → s.hub.drawOk = true → s.hub.sec.ecc = (.generate n usage uses e, some c.val) :: l → (s.hub.chan c).state = .running →
    Completes (.eccEngineDone) s (fun h => (h.sec.ecc = l ∧ (h.chan c).state = .done ∧ (s.hub.slotWritable n = true → (h.slot
    n).state = .valid ∧ (h.slot n).usage = usage ∧ (h.slot n).usesLeft = uses ∧ (h.slot n).expire = e)) ∧ (s.hub.slotWritable n =
    false → h.slot n = s.hub.slot n ∧ h.ended c (s.hub.chan c).code (s.hub.chan c).tag (abState stSlotBad) [])))

/-- What REMASK, the TRNG's tests, check channels and the key agreement messages leave. REMASK, its domain on and random numbers
given out: with every VALID slot's check holding, no slot's key, state, usage or uses changes; a VALID slot whose check fails
is VALID no more, with KEY_SLOT_BAD raised; without numbers or domain nothing changes. The start-up test leaves the TRNG
running, or failed with TRNG_FAULT. A failed health test of a running TRNG leaves it failed, raised, and withholds numbers;
passing tests of one that had started up give them again. A write of 1, 2 or 4 bytes to a check channel feeds them low byte
first, and of another size feeds none; a dictionary write feeds its bytes (nothing waiting at Keeper); START loads INIT
within the width. A KEY_OFFER at its hub joins the ECC queue; before it, it passes on with one hop less over an open SYSTEM
tunnel. A KEY_ANSWER that matches an exchange on the target's port joins the ECC queue; one that matches none changes no key
and is counted. A matching KEY_REFUSE ends the exchange, raises KEY_AGREE_FAIL with its reason, and the tunnel that waited is
FAULTED or free. -/
def Obligations.MasksTheTrngCheckChannelsAndAgreement : Prop :=
  (∀ (s : State), s.hub.live → s.hub.drawOk = true → s.hub.domOn 16 = true → (∀ m : Fin 64, (s.hub.slot m).state = .valid →
    (s.hub.slot m).check = s.hub.slotCheck m (s.hub.slot m).key (s.hub.slot m).usage (s.hub.slot m).expire) → Completes (.remask)
    s (fun h => (∀ n : Fin 64, (h.slot n).key = (s.hub.slot n).key ∧ (h.slot n).state = (s.hub.slot n).state ∧ (h.slot n).usage =
    (s.hub.slot n).usage ∧ (h.slot n).usesLeft = (s.hub.slot n).usesLeft))) ∧
  (∀ (s : State) (n : Fin 64), s.hub.live → s.hub.drawOk = true → s.hub.domOn 16 = true → (s.hub.slot n).state = .valid → n.val
    < 4 ∨ 20 ≤ n.val → Completes (.remask) s (fun h => ((s.hub.slot n).check = s.hub.slotCheck n (s.hub.slot n).key (s.hub.slot
    n).usage (s.hub.slot n).expire ∨ ((h.slot n).state ≠ .valid ∧ (∃ d ∈ h.evt.details ++ h.evt.waiting, d.source =
    Ev.keySlotBad))))) ∧
  (∀ (s : State), s.hub.live → s.hub.drawOk = false ∨ s.hub.domOn 16 = false → Completes (.remask) s (fun h => h.sec = s.hub.sec
    ∧ h.draws = s.hub.draws)) ∧
  (∀ (s : State) (ok : Bool), s.hub.live → s.hub.sec.trng = .startup → Completes (.trngStartup ok) s (fun h => (h.sec.trng = (if
    ok then .running else .failed) ∧ (ok = true → h.sec.startedUp = true) ∧ (ok = false → h.raised Ev.trngFault [])))) ∧
  (∀ (s : State), s.hub.live → s.hub.sec.trng = .running → Completes (.trngHealthFail) s (fun h => h.sec =
    { s.hub.sec with trng := .failed } ∧ h.raised Ev.trngFault [] ∧ h.drawOk = false)) ∧
  (∀ (s : State), s.hub.live → s.hub.sec.trng = .failed → s.hub.sec.startedUp = true → Completes (.trngTestsPass) s (fun h =>
    h.sec = { s.hub.sec with trng := .running } ∧ h.drawOk = true)) ∧
  (∀ (s : State) (c : Fin 16) (size : Fin 9) (v : Word), s.hub.live → Completes (.crcDataWrite c size v) s (fun h => h.crcChan c
    = (if size.val = 1 ∨ size.val = 2 ∨ size.val = 4 then
    { s.hub.crcChan c with value := (s.hub.crcChan c).param.feedAll (s.hub.crcChan c).value (leBytes size v.toNat) } else
    s.hub.crcChan c))) ∧
  (∀ (s : State) (c : Fin 16), s.hub.live → Completes (.crcStart c) s (fun h => h.crcChan c =
    { s.hub.crcChan c with value := (s.hub.crcChan c).initial % 2 ^ (s.hub.crcChan c).param.width })) ∧
  (∀ (s : State) (req : Path) (c : Fin 16) (b : Bytes), s.hub.live → s.hub.keeperUp = true → s.hub.odWriteBad req (0x4C6006 +
    256 * c.val) b = none → s.hub.mirroring = false → s.hub.ctl.keeperQ = [] → Completes (.chFeed req c b) s (fun h => h.crcChan
    c = { s.hub.crcChan c with value := (s.hub.crcChan c).param.feedAll (s.hub.crcChan c).value b } ∧ h.gave s.hub (.answer req 0
    []))) ∧
  (∀ (s : State) (req : Path) (c : Fin 16) (v : Bool), s.hub.live → s.hub.keeperUp = true → s.hub.odWriteBad req (0x4C6007 + 256
    * c.val) (u8 (b2n v)) = none → s.hub.mirroring = false → s.hub.ctl.keeperQ = [] → Completes (.chStart req c v) s (fun h =>
    h.crcChan c = (if v then { s.hub.crcChan c with value := (s.hub.crcChan c).initial % 2 ^ (s.hub.crcChan c).param.width } else
    s.hub.crcChan c) ∧ h.gave s.hub (.answer req 0 []))) ∧
  (∀ (s : State) (p : Fin 3) (m : SysMsg), s.hub.live → m.hopsLeft ≤ 1 → Completes (.keyOffer p m) s (fun h => h.sec =
    { s.hub.sec with ecc := s.hub.sec.ecc ++ [(.reply p m, none)] })) ∧
  (∀ (s : State) (p : Fin 3) (m : SysMsg) (o : Nat), s.hub.live → 1 < m.hopsLeft → s.hub.onward m.direction = some o →
    s.hub.sysOpen o = true → Completes (.keyOffer p m) s (fun h => h.gave s.hub (.sys o { m with hopsLeft := m.hopsLeft - 1 }) ∧
    h.sec = s.hub.sec)) ∧
  (∀ (s : State) (p : Fin 3) (m : SysMsg) (e : Exchange), s.hub.live → m.hopsLeft ≤ 1 → s.hub.exchangeOf m = some e →
    s.hub.targetPort e.target = p.val → Completes (.keyAnswer p m) s (fun h => h.sec =
    { s.hub.sec with ecc := s.hub.sec.ecc ++ [(.agree e.ctx m.data, none)] })) ∧
  (∀ (s : State) (p : Fin 3) (m : SysMsg), s.hub.live → m.hopsLeft ≤ 1 → s.hub.exchangeOf m = none → Completes (.keyAnswer p m)
    s (fun h => h.sec = s.hub.sec ∧ h.tun = { s.hub.tun with unmatched := s.hub.tun.unmatched + 1 })) ∧
  (∀ (s : State) (p : Fin 3) (m : SysMsg) (e : Exchange), s.hub.live → m.hopsLeft ≤ 1 → s.hub.exchangeOf m = some e →
    s.hub.targetPort e.target = p.val → Completes (.keyRefuse p m) s (fun h => ((∀ x ∈ h.sec.exchange, x.target ≠ e.target) ∧
    h.raised Ev.keyAgreeFail (u8 e.target ++ u32 (field m.data 0 4)) ∧ ((h.ctx e.ctx).state = .faulted ∨ (h.ctx e.ctx).state =
    .free))))

/-- A ring's stack, its running priority, its active sources and the end of interrupt follow R533. The running priority is that
of the top entry, 0 on an empty stack, and a source is active exactly while it is on a stack. A winner that the ring takes is
pushed with its priority when its AUTO_EOI is 0, and never when it is 1; while the stack holds 8 entries no source with
AUTO_EOI at 0 wins. EVR_EOI pops the top entry when it names that entry's source, which then is active no more, unless it
stood on the stacks twice. Any other write to EVR_EOI changes no stack, sets EOI_MISMATCH and raises EVT_EOI_MISMATCH. -/
def Obligations.TheStackFollowsR533 : Prop :=
  (∀ (x : Ring), x.running = if x.stack = [] then 0 else (x.stack.headD (0, 0)).2) ∧
  (∀ (s : State) (a : Nat), s.hub.evtActive a = true ↔ ∃ c ∈ s.hub.evt.rings.cells, ∃ e ∈ c.2.stack, e.1 = a) ∧
  (∀ (s : State) (r a : Nat), (s.hub.ring r).stack.length = 8 → s.hub.evtWinner r s.hub.evt.details = some a → bit 6
    (s.hub.evtCfg a) = true) ∧
  (∀ (s : State) (r : Fin 4) (ok : Bool) (a : Nat) (d : Detail) (t : List Detail), s.hub.live → s.hub.ringRuns (s.hub.ring r) =
    true → s.hub.evtWinner r s.hub.evt.details = some a → takeOldest a s.hub.evt.details = (some d, t) → (s.hub.ring r).used + 1
    + d.ext < (s.hub.ring r).records → (s.hub.ring r).reaches (1 + d.ext) ok = true → Completes (.eventTake r ok) s (fun h =>
    (h.ring r).stack = (if bit 6 (s.hub.evtCfg a) = true then (s.hub.ring r).stack else (a, s.hub.evtPriority a) :: (s.hub.ring
    r).stack) ∧ (bit 6 (s.hub.evtCfg a) = false → h.evtActive a = true ∧ (h.ring r).running = s.hub.evtPriority a))) ∧
  (∀ (s : State) (r : Fin 4) (src : Byte) (p : Nat) (t : List (Nat × Nat)), s.hub.live → (s.hub.ring r).stack = (src.toNat, p)
    :: t → Completes (.eoi r src) s (fun h => ((h.ring r).stack = t ∧ (∀ q : Fin 4, q ≠ r → h.ring q = s.hub.ring q) ∧
    h.evt.details = s.hub.evt.details ∧ h.regs = s.hub.regs) ∧ ((∀ e ∈ t, e.1 ≠ src.toNat) → (∀ c ∈ s.hub.evt.rings.cells, c.2 =
    s.hub.ring r ∨ ∀ e ∈ c.2.stack, e.1 ≠ src.toNat) → (s.hub.evt.rings.cells.map (·.1)).Nodup → h.evtActive src.toNat = false))) ∧
  (∀ (s : State) (r : Fin 4) (src : Byte), s.hub.live → (∀ e ∈ (s.hub.ring r).stack.head?, e.1 ≠ src.toNat) → Completes (.eoi r
    src) s (fun h => h.evt.rings = s.hub.evt.rings ∧ bit 3 (h.reg Rg.evtFlags) = true ∧ h.raised Ev.evtEoiMismatch []))

/-- What events, ring takes, PENDING, MASK, holds, EVR_RD, ring ENABLE and EVENT_RAISE leave. A firing of a source that is not
reserved (of an AON source out of retention too) with room for its detail queues one with its time and data and counts one;
at DETAIL_LIMIT, or with 1,024 held, it is merged into the source's newest detail, marked LOST, with the DETAIL_LOST flag; a
reserved source's queues nothing. A running ring with a winner and room takes the winner's oldest detail: into Keeper RAM as
the record's bytes at its slot (nothing else waiting), into host memory as a write and, with NOTIFY 1 and the ring empty
before, an MSI-X; without room it is FULL, raised as it becomes so, and takes nothing; a failed write, or a slot outside
Keeper RAM (log 53), makes it FAULT, raised; a ring that does not run takes nothing. A source just ended goes ahead of others
of its priority. With no hold, PENDING 0 discards the word's details and a written 1 queues one soft detail where none
stands; a hold of another owner makes the write ignored, counted, flagged. MASK reads its word. A hold is given where none
stands and refused to others; its owner alone releases it; its limit ends it, flagged, raised. EVR_RD frees records and
announces what stays; ENABLE 1 starts the ring afresh, ENABLE 0 clears its fault. EVENT_RAISE of sources 0xD0 to 0xEF with 8
bytes queues a soft detail and ends; of another source it is refused at offset 4. -/
def Obligations.EventsAreQueuedTakenAndAnnounced : Prop :=
  (∀ (s : State) (src : Byte) (data : Bytes), s.hub.live → evtReserved src.toNat = false → aonSource src.toNat = false ∨
    (s.hub.domain 1).state ≠ .retention → s.hub.evt.held src.toNat < s.hub.val Od.evtDetailLimit → s.hub.evt.details.length <
    1024 → Completes (.eventFire src data) s (fun h => h.evt.details = s.hub.evt.details ++
    [{ source := src.toNat, clock := trunc 32 s.hub.ns, data := data.take 56, soft := false, wake := false, lost := false, count := 1 }]
    ∧ h.val (cntEntry src.toNat) = trunc 48 (s.hub.val (cntEntry src.toNat) + 1))) ∧
  (∀ (s : State) (src : Byte) (data : Bytes), s.hub.live → evtReserved src.toNat = false → src.toNat ≠ Ev.evtDetailLost →
    aonSource src.toNat = false ∨ (s.hub.domain 1).state ≠ .retention → s.hub.val Od.evtDetailLimit ≤ s.hub.evt.held src.toNat ∨
    1024 ≤ s.hub.evt.details.length → s.hub.evt.held src.toNat ≠ 0 → Completes (.eventFire src data) s (fun h => (h.evt.held
    src.toNat = s.hub.evt.held src.toNat ∧ (∃ d ∈ h.evt.details, d.source = src.toNat ∧ d.lost = true ∧ d.data = data.take 56 ∧
    d.clock = trunc 32 s.hub.ns ∧ 2 ≤ d.count + (if d.count = 255 then 2 else 0)) ∧ bit 2 (h.reg Rg.evtFlags) = true))) ∧
  (∀ (s : State) (src : Byte) (data : Bytes), s.hub.live → evtReserved src.toNat = true → aonSource src.toNat = false ∨
    (s.hub.domain 1).state ≠ .retention → Completes (.eventFire src data) s (fun h => h.evt.details = s.hub.evt.details ∧
    h.evt.waiting = s.hub.evt.waiting ∧ h.od = s.hub.od)) ∧
  (∀ (s : State) (r : Fin 4) (ok : Bool) (a : Nat) (d : Detail) (t : List Detail), s.hub.live → s.hub.ringRuns (s.hub.ring r) =
    true → s.hub.evtWinner r s.hub.evt.details = some a → takeOldest a s.hub.evt.details = (some d, t) → s.hub.evt.waiting = [] →
    (s.hub.ring r).used + 1 + d.ext < (s.hub.ring r).records → (s.hub.ring r).inHost = false → (s.hub.ring r).reaches (1 + d.ext)
    ok = true → (s.hub.ring r).wr < (s.hub.ring r).records → Completes (.eventTake r ok) s (fun h => h.evt.details = t ∧ (h.ring
    r).wr = ((s.hub.ring r).wr + 1 + d.ext) % (s.hub.ring r).records ∧ (h.ring r).rd = (s.hub.ring r).rd ∧ (∀ k < 16, h.kram.get
    0 ((s.hub.ring r).base + 16 * (s.hub.ring r).wr + k) = ((d.record (s.hub.evtPriority a) (s.hub.ring r).phase).getD k
    0).toNat))) ∧
  (∀ (s : State) (r : Fin 4) (a : Nat) (d : Detail) (t : List Detail), s.hub.live → s.hub.ringRuns (s.hub.ring r) = true →
    s.hub.evtWinner r s.hub.evt.details = some a → takeOldest a s.hub.evt.details = (some d, t) → (s.hub.ring r).used + 1 + d.ext
    < (s.hub.ring r).records → (s.hub.ring r).inHost = true → Completes (.eventTake r true) s (fun h => h.gave s.hub (.pcie 1
    ((s.hub.ring r).base + 16 * (s.hub.ring r).wr) (d.record (s.hub.evtPriority a) (s.hub.ring r).phase)) ∧ ((s.hub.ring
    r).notify = 1 → (s.hub.ring r).used = 0 → h.gave s.hub (.msix (s.hub.ring r).vector) ∨ bit (s.hub.ring r).vector
    h.hb.msixPending = true))) ∧
  (∀ (s : State) (r : Fin 4) (ok : Bool) (a : Nat) (d : Detail) (t : List Detail), s.hub.live → s.hub.ringRuns (s.hub.ring r) =
    true → s.hub.evtWinner r s.hub.evt.details = some a → takeOldest a s.hub.evt.details = (some d, t) → (s.hub.ring r).records ≤
    (s.hub.ring r).used + 1 + d.ext → Completes (.eventTake r ok) s (fun h => ((s.hub.ring r).full = true → h.evt.rings =
    s.hub.evt.rings ∧ h.evt.details = s.hub.evt.details ∧ h.regs = s.hub.regs) ∧ ((s.hub.ring r).full = false → h.ring r =
    { s.hub.ring r with full := true } ∧ bit 0 (h.reg Rg.evtFlags) = true ∧ h.evt.held a = s.hub.evt.held a + (if a =
    Ev.evtRingFull ∧ s.hub.evt.held a < s.hub.val Od.evtDetailLimit ∧ s.hub.evt.details.length < 1024 then 1 else 0)))) ∧
  (∀ (s : State) (r : Fin 4) (a : Nat) (d : Detail) (t : List Detail), s.hub.live → s.hub.ringRuns (s.hub.ring r) = true →
    s.hub.evtWinner r s.hub.evt.details = some a → takeOldest a s.hub.evt.details = (some d, t) → (s.hub.ring r).used + 1 + d.ext
    < (s.hub.ring r).records → (s.hub.ring r).inHost = true → Completes (.eventTake r false) s (fun h => h.ring r =
    { s.hub.ring r with fault := true } ∧ bit 1 (h.reg Rg.evtFlags) = true ∧ h.raised Ev.evtRingFault (u8 r))) ∧
  (∀ (s : State) (r : Fin 4) (ok : Bool) (a : Nat) (d : Detail) (t : List Detail), s.hub.live → s.hub.ringRuns (s.hub.ring r) =
    true → s.hub.evtWinner r s.hub.evt.details = some a → takeOldest a s.hub.evt.details = (some d, t) → (s.hub.ring r).used + 1
    + d.ext < (s.hub.ring r).records → (s.hub.ring r).inHost = false → inKram ((s.hub.ring r).base + 16 * ((s.hub.ring r).wr %
    (s.hub.ring r).records)) = false → Completes (.eventTake r ok) s (fun h => h.ring r = { s.hub.ring r with fault := true } ∧
    bit 1 (h.reg Rg.evtFlags) = true ∧ h.raised Ev.evtRingFault (u8 r))) ∧
  (∀ (s : State) (r : Fin 4) (ok : Bool), s.hub.live → s.hub.ringRuns (s.hub.ring r) = false → Completes (.eventTake r ok) s
    (fun h => h.evt.details = s.hub.evt.details ∧ h.evt.rings = s.hub.evt.rings)) ∧
  (∀ (s : State) (r a : Nat) (d : Detail), d ∈ s.hub.evt.details → d.source = a → s.hub.evtEligible r a = true → a ∈ (s.hub.ring
    r).ended → (∀ x ∈ s.hub.evt.details, s.hub.evtEligible r x.source = true → s.hub.evtPriority x.source ≤ s.hub.evtPriority a ∧
    (x.source = a ∨ x.source ∉ (s.hub.ring r).ended)) → s.hub.evtWinner r s.hub.evt.details = some a) ∧
  (∀ (s : State) (o : HoldOwner) (w : Fin 8), s.hub.live → s.hub.evt.hold = none → s.hub.evt.waiting = [] → Completes
    (.pendingWrite o w 0) s (fun h => h.evt.details = s.hub.evt.details.filter (fun d => decide (d.source / 32 ≠ w.val) ||
    evtReserved d.source) ∧ h.evt.rings = s.hub.evt.rings)) ∧
  (∀ (s : State) (o : HoldOwner) (w : Fin 8) (v : Word) (i : Fin 32), s.hub.live → s.hub.evt.hold = none → s.hub.evt.waiting =
    [] → s.hub.evt.details.length + 32 ≤ 1024 → s.hub.val Od.evtDetailLimit ≠ 0 → bit i v.toNat = true → evtReserved (32 * w + i)
    = false → Completes (.pendingWrite o w v) s (fun h => (if s.hub.evt.held (32 * w + i) = 0 then h.evt.held (32 * w + i) = 1 ∧
    (∃ d ∈ h.evt.details, d.source = 32 * w + i ∧ d.soft = true ∧ d.data = [] ∧ d.count = 1) else h.evt.held (32 * w + i) =
    s.hub.evt.held (32 * w + i)))) ∧
  (∀ (s : State) (o : HoldOwner) (w : Fin 8) (v : Word) (x : Hold), s.hub.live → s.hub.evt.hold = some x → x.word = w.val →
    x.owner ≠ o → Completes (.pendingWrite o w v) s (fun h => h.evt.details = s.hub.evt.details ∧ h.val Od.evtHoldIgnoredCount =
    trunc 32 (s.hub.val Od.evtHoldIgnoredCount + 1) ∧ bit 5 (h.reg Rg.evtFlags) = true)) ∧
  (∀ (s : State) (w : Fin 8), s.hub.live → Completes (.maskRead w) s (fun h => h.gave s.hub (.value (s.hub.val (Od.evtMaskWord
    w))))) ∧
  (∀ (s : State) (o : HoldOwner) (w : Fin 8), s.hub.live → Completes (.holdRequest o w) s (fun h => (s.hub.evt.hold = none →
    h.gave s.hub (.value 1) ∧ (∃ x ∈ h.evt.hold, x.owner = o ∧ x.word = w.val)) ∧ (∀ x ∈ s.hub.evt.hold, x.owner ≠ o → h.evt.hold
    = some x ∧ h.gave s.hub (.value 0)))) ∧
  (∀ (s : State) (o : HoldOwner) (x : Hold), s.hub.live → s.hub.evt.hold = some x → Completes (.holdRelease o) s (fun h =>
    (h.evt.hold = if x.owner = o then none else some x))) ∧
  (∀ (s : State) (x : Hold), s.hub.live → s.hub.evt.hold = some x → Completes (.holdExpired) s (fun h => h.evt.hold = none ∧ bit
    4 (h.reg Rg.evtFlags) = true ∧ h.raised Ev.evtHoldExpired [])) ∧
  (∀ (s : State) (r : Fin 4) (v : BitVec 12), s.hub.live → Completes (.evrRdWrite r v) s (fun h => h.ring r =
    { s.hub.ring r with rd := v.toNat % (s.hub.ring r).records, full := false } ∧ h.evt.details = s.hub.evt.details ∧
    ((s.hub.ring r).notify = 1 → (h.ring r).used ≠ 0 → h.gave s.hub (.msix (s.hub.ring r).vector) ∨ bit (s.hub.ring r).vector
    h.hb.msixPending = true))) ∧
  (∀ (s : State) (r : Fin 4), s.hub.live → Completes (.ringEnable r true) s (fun h => (h.ring r =
    { s.hub.ring r with enable := true, wr := 0, rd := 0, phase := true, stack := [], ended := [], full := false } ∧ (∀ q : Fin
    4, q ≠ r → h.ring q = s.hub.ring q)))) ∧
  (∀ (s : State) (r : Fin 4), s.hub.live → Completes (.ringEnable r false) s (fun h => h.ring r =
    { s.hub.ring r with enable := false, fault := false } ∧ h.evt.details = s.hub.evt.details)) ∧
  (∀ (s : State) (req : Path) (c : Fin 8) (tag : BitVec 16) (src : Nat) (data : Bytes), s.hub.takes req c 0x0C00 → 0xD0 ≤ src →
    src ≤ 0xEF → data.length = 8 → s.hub.evt.held src < s.hub.val Od.evtDetailLimit → s.hub.evt.details.length < 1024 → Completes
    (.eventRaise req c tag (u32 src ++ data)) s (fun h => h.evt.details = s.hub.evt.details ++
    [{ source := src, clock := trunc 32 s.hub.ns, data := data, soft := true, wake := false, lost := false, count := 1 }] ∧
    h.ended c 0x0C00 tag.toNat 0 [] ∧ h.gave s.hub (.answer req 0 []))) ∧
  (∀ (s : State) (req : Path) (c : Fin 8) (tag : BitVec 16) (src : Byte) (data : Bytes), s.hub.takes req c 0x0C00 → src.toNat <
    0xD0 ∨ 0xEF < src.toNat → data.length = 11 → Completes (.eventRaise req c tag (u8 src.toNat ++ data)) s (fun h =>
    h.evt.details = s.hub.evt.details ∧ h.gave s.hub (.answer req (abArg 4) []) ∧ h.chan c = s.hub.chan c))

/-- Feeding a byte, the result and the check values of every CRC follow R520. For every parameter set: a byte is fed bit by bit
from bit 7 down, reflected first where REFIN is set, by the step of R520; the result is the register, reflected over the
width where REFOUT is set, inverted over the width where XOROUT is set; the register starts at INIT within the width. The
four check values over the ASCII bytes 123456789 come out as the table says. -/
def Obligations.CrcUnitsFollowR520 : Prop :=
  (∀ (p : CrcParam) (v : Nat) (b : Byte) (t : Bytes), p.feedAll v (b :: t) = p.feedAll ([7, 6, 5, 4, 3, 2, 1, 0].foldl (fun v i
    => if bit (p.width - 1) v ≠ bit i (if p.refin = true then reflect 8 b.toNat else b.toNat) then (v * 2 % 2 ^ p.width) ^^^
    (p.poly % 2 ^ p.width) else v * 2 % 2 ^ p.width) v) t ∧ p.feedAll v [] = v) ∧
  (∀ (p : CrcParam) (v : Nat), p.start = p.initial % 2 ^ p.width ∧ p.result v = (if p.refout = true then reflect p.width v else
    v) ^^^ (if p.xorout = true then 2 ^ p.width - 1 else 0)) ∧
  (∀ (w v i : Nat), i < w → bit i (reflect w v) = bit (w - 1 - i) v) ∧
  (∀ (b : Bytes), b = [0x31, 0x32, 0x33, 0x34, 0x35, 0x36, 0x37, 0x38, 0x39] → (CrcParam.mk 8 0x1D 0xFF false false true).of b =
    0x4B ∧ crc16.of b = 0x29B1 ∧ crc32.of b = 0xCBF43926 ∧ (CrcParam.mk 64 0x42F0E1EBA9EA3693 (2 ^ 64 - 1) true true true).of b =
    0x995DC9BBDF1939FA)

/-- What SELECT, comparator writes and limits, counter and snapshot reads, captures and CNT_SNAPSHOT leave. Dictionary writes
find nothing waiting at Keeper and no mirroring. A SELECT that R33 and R582 accept is stored and zeroes its counter; one of
an instance that its item does not have is refused with INVALID_VALUE detail 3. A write of OCC, INSTANCE or N that passes its
checks is stored and zeroes the count. A count that first reaches LIMIT raises CMP_LIMIT, where the event can queue a detail;
LIMIT 0 and a second time change and raise nothing. CNT_LO gives bits 31:0 and latches 47:32; SNAP_CLOCK_LO and an entry's LO
do so with their HI. A capture due at its time copies every listed counter, adds 1 to SNAP_SEQ, records CLOCK, raises
SNAPSHOT_DONE where it can queue a detail, and ends the command that waits for it; CLOCK stands no earlier than that time
(the command itself brings the time about). CNT_SNAPSHOT on a bank with none pending: AT 0 captures at once (the first
capture, or one in another core cycle than the last), a later AT within 10 s waits, and an AT less than 1 us or more than 10
s ahead is refused at byte 8. -/
def Obligations.CountersSelectCompareAndCapture : Prop :=
  (∀ (s : State) (req : Path) (n : Fin 96) (v : Word), s.hub.live → s.hub.keeperUp = true → s.hub.odWriteBad req (Od.cntSelect
    n).key (u32 v.toNat) = none → s.hub.mirroring = false → s.hub.ctl.keeperQ = [] → Completes (.selectWrite req n v) s (fun h =>
    h.val (Od.cntSelect n) = v.toNat ∧ h.val (cntEntry (256 + n)) = 0 ∧ h.gave s.hub (.answer req 0 []))) ∧
  (∀ (s : State) (req : Path) (n : Fin 96) (v : Word), s.hub.live → s.hub.keeperUp = true → s.hub.pwr.bootPhase ≠ .romStay →
    s.hub.mode.active ≠ .strapFault → s.hub.locked (Od.cntSelect n).key = false → s.hub.pathDenied req true = false → v.toNat %
    65536 = 0x0206 ∧ 2 < v.toNat / 65536 ∨ v.toNat % 65536 = 0x0106 → s.hub.ctl.keeperQ = [] → Completes (.selectWrite req n v) s
    (fun h => h.od = s.hub.od ∧ h.gave s.hub (.answer req (abValue 3) []))) ∧
  (∀ (s : State) (req : Path) (k : Fin 32) (which : Fin 3) (v : Word), s.hub.live → s.hub.keeperUp = true → (which = 0 → v.toNat
    ≤ 11) → (which = 1 → v.toNat < 65536 ∧ occInstance (s.hub.val (Od.cmpOcc k)) v.toNat = true) → (s.hub.odWriteBad req (if
    which = 0 then Od.cmpOcc k else if which = 1 then Od.cmpInstance k else Od.cmpN k).key (leBytes (if which = 0 then 1 else if
    which = 1 then 2 else 4) v.toNat) = none) → s.hub.mirroring = false → s.hub.ctl.keeperQ = [] → Completes (.cmpConfigWrite req
    k which v) s (fun h => (h.val (if which = 0 then Od.cmpOcc k else if which = 1 then Od.cmpInstance k else Od.cmpN k) =
    v.toNat ∧ h.val (cntEntry (352 + k)) = 0 ∧ h.gave s.hub (.answer req 0 [])))) ∧
  (∀ (s : State) (k : Fin 32), s.hub.live → s.hub.val (Od.cmpLimit k) ≠ 0 → s.hub.obs.reached.get 0 k ≠ 1 → Completes (.cmpLimit
    k) s (fun h => h.obs.reached.get 0 k = 1 ∧ h.val (cntEntry (352 + k)) = max (s.hub.val (Od.cmpLimit k)) (s.hub.val (cntEntry
    (352 + k))) ∧ (evtReserved Ev.cmpLimit = false → s.hub.evt.held Ev.cmpLimit < s.hub.val Od.evtDetailLimit →
    s.hub.evt.details.length < 1024 → h.raised Ev.cmpLimit (u8 k)))) ∧
  (∀ (s : State) (k : Fin 32), s.hub.live → s.hub.val (Od.cmpLimit k) = 0 ∨ s.hub.obs.reached.get 0 k = 1 → Completes (.cmpLimit
    k) s (fun h => h.od = s.hub.od ∧ h.obs = s.hub.obs ∧ h.evt.details = s.hub.evt.details)) ∧
  (∀ (s : State) (n : Fin 384), s.hub.live → Completes (.cntLoRead n) s (fun h => h.gave s.hub (.value (s.hub.val (cntEntry n) %
    2 ^ 32)) ∧ h.obs.cntHi.get 0 n = s.hub.val (cntEntry n) / 2 ^ 32 ∧ h.od = s.hub.od)) ∧
  (∀ (s : State) (b : Fin 4), s.hub.live → Completes (.snapClockLoRead b none) s (fun h => h.gave s.hub (.value ((s.hub.bank
    b).clock / 10 % 2 ^ 32)) ∧ (h.bank b).latchedHi = (s.hub.bank b).clock / 10 / 2 ^ 32 ∧ (h.bank b).values = (s.hub.bank
    b).values)) ∧
  (∀ (s : State) (b : Fin 4) (e : Fin 64), s.hub.live → Completes (.snapClockLoRead b (some e)) s (fun h => h.gave s.hub (.value
    ((s.hub.bank b).values.getD e 0 % 2 ^ 32)) ∧ (h.bank b).entryHi.get 0 e = (s.hub.bank b).values.getD e 0 / 2 ^ 32 ∧ (h.bank
    b).values = (s.hub.bank b).values)) ∧
  (∀ (s : State) (b : Fin 4) (t : Nat), s.hub.live → (s.hub.bank b).pendingAt = some t → (s.hub.bank b).seq = 0 ∨ s.hub.cycleAt
    (s.hub.bank b).clock ≠ s.hub.cycleAt (max s.hub.clock t) → Completes (.snapshotCapture b) s (fun h => (h.bank b).seq =
    ((s.hub.bank b).seq + 1) % 2 ^ 32 ∧ (h.bank b).clock = max s.hub.clock t ∧ (h.bank b).pendingAt = none ∧ (h.bank b).command =
    none ∧ h.clock = max s.hub.clock t ∧ (h.bank b).values = (u16List (s.hub.blobVal (Od.snapSnapList b))).map (fun n =>
    s.hub.val (cntEntry n)) ∧ (∀ c ∈ (s.hub.bank b).command, (s.hub.chan c).state = .running → c < 8 → h.ended c (s.hub.chan
    c).code (s.hub.chan c).tag 0 (u32 (h.bank b).seq ++ u64 (max s.hub.clock t / 10))) ∧ (s.hub.evt.held Ev.snapshotDone <
    s.hub.val Od.evtDetailLimit → s.hub.evt.details.length < 1024 → h.raised Ev.snapshotDone (u8 b ++ u32 (h.bank b).seq)))) ∧
  (∀ (s : State) (req : Path) (c : Fin 8) (tag : BitVec 16) (b : Fin 4), s.hub.takes req c 0x0C10 → (s.hub.bank b).pendingAt =
    none → (s.hub.bank b).seq = 0 ∨ s.hub.cycleAt (s.hub.bank b).clock ≠ s.hub.cycleAt s.hub.clock → Completes (.cntSnapshot req
    c tag (u8 b ++ [0, 0, 0] ++ u64 0)) s (fun h => (h.bank b).seq = ((s.hub.bank b).seq + 1) % 2 ^ 32 ∧ (h.bank b).clock =
    s.hub.clock ∧ (h.bank b).values = (u16List (s.hub.blobVal (Od.snapSnapList b))).map (fun n => s.hub.val (cntEntry n)) ∧
    h.ended c 0x0C10 tag.toNat 0 (u32 (h.bank b).seq ++ u64 (s.hub.clock / 10)) ∧ h.gave s.hub (.answer req 0 []))) ∧
  (∀ (s : State) (req : Path) (c : Fin 8) (tag : BitVec 16) (b : Fin 4) (t : Nat), s.hub.takes req c 0x0C10 → (s.hub.bank
    b).pendingAt = none → t ≠ 0 → s.hub.clock / 10 + 1000 ≤ t → t ≤ s.hub.clock / 10 + 10000000000 → t < 2 ^ 64 → Completes
    (.cntSnapshot req c tag (u8 b ++ [0, 0, 0] ++ u64 t)) s (fun h => (h.bank b).pendingAt = some (10 * t) ∧ (h.bank b).command =
    some c.val ∧ (h.bank b).seq = (s.hub.bank b).seq ∧ h.busyWith c 0x0C10 tag.toNat ∧ h.gave s.hub (.answer req 0 []))) ∧
  (∀ (s : State) (req : Path) (c : Fin 8) (tag : BitVec 16) (b : Fin 4) (t : Nat), s.hub.takes req c 0x0C10 → (s.hub.bank
    b).pendingAt = none → t ≠ 0 → t < s.hub.clock / 10 + 1000 ∨ s.hub.clock / 10 + 10000000000 < t → t < 2 ^ 64 → Completes
    (.cntSnapshot req c tag (u8 b ++ [0, 0, 0] ++ u64 t)) s (fun h => h.obs = s.hub.obs ∧ h.chan c = s.hub.chan c ∧ h.gave s.hub
    (.answer req (abArg 8) [])))

/-- What OBS writes, debug commands, loopbacks, JTAG instructions, register writes and configuration requests leave. Dictionary
writes find nothing waiting at Keeper. OBS_ENABLE takes 1 only in BENCH or UNLOCKED, and a dictionary write elsewhere is
refused with STATE naming DEBUG_LOCKED; a change of OBS_GROUP is stored and raises OBS_CHANGED where it can queue a detail.
DEBUG_CHALLENGE, the TRNG running, gives and keeps a 32-byte NONCE, and is refused while UNLOCKED or within 1 s of a failure;
DEBUG_UNLOCK without a NONCE is refused, with one uses it up and waits for the ECC engine; NONCE_EXPIRY forgets it. LOOPBACK
takes a lane out of service in BENCH, and its end returns it, dropped; elsewhere a lane's write changes nothing. IDCODE
shifts out 0x16400A7F; the marked boundary-scan instructions act as BYPASS without the compliance condition. A whole-word
write of a stored register word sets its RW bits, clears the W1C bits written as 1 and keeps the rest, by host or MEMORY
window; PWR_FLAGS by Keeper clears its flags; a host write with no byte enabled, with HOST off or unaligned has no effect; a
poisoned one is counted and flagged. Bus Master Enable off and the MSI-X control bits are stored. A configuration read gives
R418's value, or Configuration Request Retry Status before Keeper runs and within 1 s of PCIE_PERST_N's rise, which is noted
(log 73). -/
def Obligations.ObservationDebugLoopbackJtagAndRegisterWrites : Prop :=
  (∀ (s : State) (req : Path) (v : Bool), s.hub.live → s.hub.keeperUp = true → s.hub.odWriteBad req Od.obsObsEnable.key (u8 (b2n
    v)) = none → (v = true → s.hub.mode.active = .bench ∨ s.hub.debugUnlocked = true) → s.hub.mirroring = false →
    s.hub.ctl.keeperQ = [] → Completes (.obsEnableWrite (some req) v) s (fun h => (h.val Od.obsObsEnable = b2n v ∧ h.gave s.hub
    (.answer req 0 []) ∧ (v = true → h.gave s.hub (.line .obs 1))))) ∧
  (∀ (s : State) (req : Path), s.hub.live → s.hub.keeperUp = true → s.hub.pwr.bootPhase ≠ .romStay → s.hub.mode.active ≠
    .strapFault → s.hub.mode.active ≠ .bench → s.hub.debugUnlocked = false → s.hub.locked Od.obsObsEnable.key = false →
    s.hub.pathDenied req true = false → s.hub.ctl.keeperQ = [] → Completes (.obsEnableWrite (some req) true) s (fun h => h.od =
    s.hub.od ∧ h.gave s.hub (.answer req (abState stDebugLocked) []))) ∧
  (∀ (s : State) (v : Bool), s.hub.live → (v = true → s.hub.mode.active = .bench ∨ s.hub.debugUnlocked = true) → Completes
    (.obsEnableWrite none v) s (fun h => h.val Od.obsObsEnable = b2n v)) ∧
  (∀ (s : State) (req : Path) (v : Byte), s.hub.live → s.hub.keeperUp = true → v.toNat ≤ 63 → s.hub.odWriteBad req
    Od.obsObsGroup.key (u8 v.toNat) = none → s.hub.mirroring = false → s.hub.ctl.keeperQ = [] → Completes (.obsGroupWrite (some
    req) v) s (fun h => h.val Od.obsObsGroup = v.toNat ∧ h.gave s.hub (.answer req 0 []) ∧ (v.toNat ≠ s.hub.val Od.obsObsGroup →
    s.hub.evt.held Ev.obsChanged < s.hub.val Od.evtDetailLimit → s.hub.evt.details.length < 1024 → h.raised Ev.obsChanged (u8
    v.toNat ++ u8 (s.hub.val Od.obsObsEnable))))) ∧
  (∀ (s : State) (v : Byte), s.hub.live → v.toNat ≤ 63 → Completes (.obsGroupWrite none v) s (fun h => h.val Od.obsObsGroup =
    v.toNat)) ∧
  (∀ (s : State) (req : Path) (c : Fin 8) (tag : BitVec 16), s.hub.takes req c 0x0C11 → s.hub.debugUnlocked = false →
    s.hub.obs.failedAt = none → s.hub.sec.trng = .running → Completes (.debugChallenge req c tag []) s (fun h => h.obs.nonce =
    some (leBytes 32 (Config.random s.hub.draws)) ∧ h.ended c 0x0C11 tag.toNat 0 (leBytes 32 (Config.random s.hub.draws)) ∧
    h.gave s.hub (.answer req 0 []))) ∧
  (∀ (s : State) (req : Path) (c : Fin 8) (tag : BitVec 16), s.hub.takes req c 0x0C11 → (s.hub.debugUnlocked = true ∨ ∃ t ∈
    s.hub.obs.failedAt, s.hub.clock < t + 10000000000) → Completes (.debugChallenge req c tag []) s (fun h => h.obs = s.hub.obs ∧
    h.chan c = s.hub.chan c ∧ h.gave s.hub (.answer req (abState stDebugLocked) []))) ∧
  (∀ (s : State) (req : Path) (c : Fin 8) (tag : BitVec 16) (n key sig : Bytes), s.hub.takes req c 0x0C12 → s.hub.obs.nonce =
    some n → key.length = 64 → sig.length = 64 → Completes (.debugUnlock req c tag (key ++ sig)) s (fun h => h.obs.nonce = none ∧
    h.sec.ecc = s.hub.sec.ecc ++ [(.debug key n sig, some c.val)] ∧ h.busyWith c 0x0C12 tag.toNat ∧ h.gave s.hub (.answer req 0
    []))) ∧
  (∀ (s : State) (req : Path) (c : Fin 8) (tag : BitVec 16) (args : Bytes), s.hub.takes req c 0x0C12 → s.hub.obs.nonce = none →
    args.length = 128 → Completes (.debugUnlock req c tag args) s (fun h => h.obs = s.hub.obs ∧ h.sec.ecc = s.hub.sec.ecc ∧
    h.chan c = s.hub.chan c ∧ h.gave s.hub (.answer req (abState stDebugLocked) []))) ∧
  (∀ (s : State), s.hub.live → Completes (.nonceExpiry) s (fun h => h.obs = { s.hub.obs with nonce := none })) ∧
  (∀ (s : State) (req : Path) (q : Fin 25) (v : Byte), s.hub.live → s.hub.keeperUp = true → s.hub.odWriteBad req (Od.obsLoopback
    q).key (u8 v.toNat) = none → s.hub.mirroring = false → s.hub.mode.active = .bench ∨ q.val < 5 ∨ v = 0 → s.hub.ctl.keeperQ =
    [] → Completes (.loopbackWrite req q v) s (fun h => (h.gave s.hub (.answer req 0 []) ∧ (s.hub.mode.active ≠ .bench → h.od =
    s.hub.od ∧ h.lanes = s.hub.lanes ∧ h.tun = s.hub.tun)) ∧ (s.hub.mode.active = .bench → q.val < 5 → v ≠ 0 → (h.lane q).state =
    .pattern) ∧ (s.hub.mode.active = .bench → q.val < 5 → v = 0 → (s.hub.lane q).state = .pattern → bits 4 3 (s.hub.reg
    (Rg.patCtrl q)) = 0 → (h.lane q).state = .dropped ∧ h.val (Od.obsLoopback q) = 0) ∧ (s.hub.mode.active = .bench → 5 ≤ q.val →
    v = 0 → h.val (Od.obsLoopback q) = 0 ∧ h.tun = s.hub.tun))) ∧
  (∀ (s : State), Completes (.bypass) s (fun h => h.obs = { s.hub.obs with jtag := .bypass })) ∧
  (∀ (s : State), Completes (.idcode) s (fun h => h.obs = { s.hub.obs with jtag := .idcode } ∧ h.gave s.hub (.value 0x16400A7F))) ∧
  (∀ (s : State) (bits : Bytes), Completes (.samplePreload bits) s (fun h => h.obs =
    { s.hub.obs with jtag := .samplePreload, boundary := bits })) ∧
  (∀ (s : State), Completes (.extest) s (fun h => (h.obs =
    { s.hub.obs with jtag := if s.hub.mode.strap = 0 then .extest else .bypass }))) ∧
  (∀ (s : State), Completes (.extestPulse) s (fun h => (h.obs =
    { s.hub.obs with jtag := if s.hub.mode.strap = 0 then .extestPulse else .bypass }))) ∧
  (∀ (s : State), Completes (.extestTrain) s (fun h => (h.obs =
    { s.hub.obs with jtag := if s.hub.mode.strap = 0 then .extestTrain else .bypass }))) ∧
  (∀ (s : State), Completes (.clamp) s (fun h => (h.obs =
    { s.hub.obs with jtag := if s.hub.mode.strap = 0 then .clamp else .bypass }))) ∧
  (∀ (s : State), Completes (.highz) s (fun h => (h.obs =
    { s.hub.obs with jtag := if s.hub.mode.strap = 0 then .highz else .bypass }))) ∧
  (∀ (s : State) (a v : Word) (r : RegRow), s.hub.live → s.hub.domOn 11 = true → a.toNat < 0x40000 → a.toNat % 4 = 0 → regStored
    a.toNat = true → regRow? a.toNat = some r → s.hub.hb.posted = [] → Completes (.registerWrite (.words .host a 15 (u32 v.toNat)
    false)) s (fun h => (∀ j : Fin 32, bit j (h.reg ⟨a.toNat, 0⟩) = if bit j r.rw then bit j v.toNat else bit j (s.hub.reg
    ⟨a.toNat, 0⟩) && !(bit j r.w1c && bit j v.toNat)))) ∧
  (∀ (s : State) (a v : Word) (r : RegRow) (poisoned : Bool), s.hub.live → 0x10000 ≤ a.toNat ∧ a.toNat < 0x1A000 ∨ 0x20000 ≤
    a.toNat ∧ a.toNat < 0x3E000 → a.toNat % 4 = 0 → regStored a.toNat = true → regRow? a.toNat = some r → Completes
    (.registerWrite (.words .memory a 15 (u32 v.toNat) poisoned)) s (fun h => (∀ j : Fin 32, bit j (h.reg ⟨a.toNat, 0⟩) = if bit
    j r.rw then bit j v.toNat else bit j (s.hub.reg ⟨a.toNat, 0⟩) && !(bit j r.w1c && bit j v.toNat)))) ∧
  (∀ (s : State) (v : Word) (poisoned : Bool), s.hub.live → s.hub.pwr.bootPhase ≠ .held → Completes (.registerWrite (.words
    .keeper 0x32000018 15 (u32 v.toNat) poisoned)) s (fun h => (∀ j : Fin 32, bit j (h.reg Rg.pwrFlags) = (bit j (s.hub.reg
    Rg.pwrFlags) && !(decide (j.val < 6) && bit j v.toNat))))) ∧
  (∀ (s : State) (a v : Word) (be : Byte), s.hub.live → be.toNat % 16 = 0 ∨ s.hub.domOn 11 = false ∨ a.toNat % 4 ≠ 0 →
    s.hub.hb.posted = [] → Completes (.registerWrite (.words .host a be (u32 v.toNat) false)) s (fun h => h.regs = s.hub.regs ∧
    h.ctl = s.hub.ctl ∧ h.hb = s.hub.hb ∧ h.evt.rings = s.hub.evt.rings)) ∧
  (∀ (s : State) (a : Word) (be : Byte) (d : Bytes), s.hub.live → s.hub.domOn 11 = true → Completes (.registerWrite (.words
    .host a be d true)) s (fun h => bit 3 (h.reg Rg.hbFlags) = true ∧ h.val Od.hostPoisoned = (s.hub.val Od.hostPoisoned + 1) % 2
    ^ 32 ∧ h.ctl = s.hub.ctl ∧ h.hb = s.hub.hb ∧ h.evt.details = s.hub.evt.details)) ∧
  (∀ (s : State), s.hub.live → s.hub.domOn 11 = true → Completes (.registerWrite (.busMaster false)) s (fun h => h.hb =
    { s.hub.hb with busMaster := false })) ∧
  (∀ (s : State) (en fm : Bool), s.hub.live → s.hub.domOn 11 = true → s.hub.hb.msixPending = 0 → Completes (.registerWrite
    (.msixControl en fm)) s (fun h => h.hb = { s.hub.hb with msixEnable := en, msixFunctionMask := fm })) ∧
  (∀ (s : State) (c : ConfigField), s.hub.live → s.hub.domOn 11 = true → s.hub.pwr.bootPhase = .keeper ∨ s.hub.hb.perstRose +
    10000000000 ≤ s.hub.clock → Completes (.registerWrite (.configRead c)) s (fun h => h.regs = s.hub.regs ∧ h.hb = s.hub.hb ∧ (∀
    x ∈ ([(.vendorId, 0x1FA9), (.deviceId, 0x6400), (.revision, 0xB0), (.classCode, 0x0B4000), (.subsystemVendor,
    s.hub.hb.subsys.1), (.subsystem, s.hub.hb.subsys.2), (.serial, Config.serial), (.noSoftReset, 0), (.capability 0, 0x01),
    (.capability 1, 0x11), (.capability 2, 0x10), (.extended 0, 0x0001), (.extended 1, 0x0003)] : List (ConfigField × Nat)), c =
    x.1 → h.gave s.hub (.value x.2)))) ∧
  (∀ (s : State) (c : ConfigField), s.hub.live → s.hub.domOn 11 = true → s.hub.pwr.bootPhase ≠ .keeper → s.hub.clock <
    s.hub.hb.perstRose + 10000000000 → Completes (.registerWrite (.configRead c)) s (fun h => h.gave s.hub (.pcie 5 0 []) ∧
    h.regs = s.hub.regs ∧ h.hb = s.hub.hb)) ∧
  (∀ (s : State), s.hub.live → Completes (.registerWrite (.perst true)) s (fun h => h.hb =
    { s.hub.hb with perstRose := s.hub.clock } ∧ h.regs = s.hub.regs)) ∧
  (∀ (s : State), s.hub.live → Completes (.registerWrite (.perst false)) s (fun h => h.hb.subsys = (s.hub.val Od.hostSubsysVid,
    s.hub.val Od.hostSubsysId) ∧ h.hb.maxSpeed = s.hub.val Od.hostMaxSpeed ∧ h.hb.maxWidth = s.hub.val Od.hostMaxWidth ∧
    h.hb.posted = [] ∧ h.hb.wins = ⟨[]⟩ ∧ h.hb.queues = ⟨[]⟩)) ∧
  (∀ (s : State) (a : Word) (be : Byte) (d : Bytes), s.hub.live → s.hub.domOn 11 = true → s.hub.hb.posted ≠ [] → Completes
    (.registerWrite (.words .host a be d false)) s (fun h => h.hb =
    { s.hub.hb with posted := s.hub.hb.posted ++ [⟨false, a.toNat, be.toNat, d⟩] } ∧ h.regs = s.hub.regs ∧ h.ctl = s.hub.ctl))

/-- Frames: what the commands of the roles, the dictionary service and the coupling lanes leave unchanged. For each of 37
commands, with every operand and in every state: whenever the command answers a next state, the queue is as it was and
nothing of the hub differs but the kinds of state that the statement names for it. The named kinds take in what follows from
the command by the rules: an event that it fires (details, counters, pool), the answer to its path, and the three lines that
the hub's state decides. -/
def Obligations.FramesOfServiceRolesAndLanes : Prop :=
  (Touches .fogRetry [.out, .mode, .lines, .links, .pwr]) ∧
  (∀ req c tag args, Touches (.modeResume req c tag args) [.out, .mode, .ctl, .lines, .links, .eng, .io, .pwr]) ∧
  (∀ req c tag args, Touches (.nop req c tag args) [.out, .od, .regs, .ctl, .evt, .lines, .eng, .dm, .io, .pwr]) ∧
  (∀ req c tag args, Touches (.configSave req c tag args) [.out, .ctl, .lines, .eng, .io]) ∧
  (∀ req c tag args, Touches (.configErase req c tag args) [.out, .ctl, .lines, .eng, .io]) ∧
  (∀ ok, Touches (.configFlashDone ok) [.draws, .out, .od, .regs, .ctl, .evt, .lines, .dm, .pwr]) ∧
  (∀ n client fd b, Touches (.initiateDownload n client fd b) [.out, .ctl, .lines, .io]) ∧
  (∀ n client fd b, Touches (.downloadSegment n client fd b) [.out, .ctl, .lines, .io]) ∧
  (∀ n client fd b, Touches (.initiateUpload n client fd b) [.out, .ctl, .lines, .io]) ∧
  (∀ n client fd b, Touches (.uploadSegmentRequest n client fd b) [.out, .ctl, .lines, .io]) ∧
  (∀ n client fd b, Touches (.odapAbort n client fd b) [.out, .ctl, .lines, .io]) ∧
  (∀ n client fd b, Touches (.odapReservedFrame n client fd b) [.out, .ctl, .lines, .io]) ∧
  (∀ n client, Touches (.odapTimeout n client) [.out, .ctl, .lines, .io]) ∧
  (∀ done evtEn, Touches (.mbxRead done evtEn) [.out, .ctl, .lines, .eng]) ∧
  (∀ done evtEn, Touches (.mbxWrite done evtEn) [.out, .ctl, .lines, .eng]) ∧
  (Touches .mbxComplete [.out, .od, .regs, .ctl, .evt, .lines, .pwr]) ∧
  (∀ p m, Touches (.systemRequest p m) [.out, .ctl, .lines, .eng]) ∧
  (∀ p m, Touches (.systemResponse p m) [.out, .od, .regs, .ctl, .evt, .lines, .eng, .bcn, .dm, .pwr]) ∧
  (∀ reqId, Touches (.remoteTimeout reqId) [.out, .od, .regs, .ctl, .evt, .lines, .eng, .bcn, .dm, .pwr]) ∧
  (∀ l silent, Touches (.signalDetect l silent) [.out, .lines, .lanes]) ∧
  (∀ l inverted, Touches (.blockAlignment l inverted) [.draws, .out, .lines, .lanes, .pwr]) ∧
  (∀ l ctle dfe width height, Touches (.equalisationDone l ctle dfe width height) [.out, .lines, .lanes]) ∧
  (∀ l, Touches (.coeffRequestRetry l) [.out, .lines, .lanes]) ∧
  (∀ p, Touches (.roundGapEnd p) [.out, .lines, .lanes]) ∧
  (∀ l height, Touches (.eyeMarginLow l height) [.out, .od, .regs, .evt, .lines, .lanes, .pwr]) ∧
  (∀ l, Touches (.quietEntry l) [.out, .lines, .lanes]) ∧
  (∀ l crcOk, Touches (.quietEntryBlock l crcOk) [.out, .regs, .lines, .lanes]) ∧
  (∀ l, Touches (.quietExit l) [.out, .lines, .lanes]) ∧
  (∀ l crcOk, Touches (.quietExitBlock l crcOk) [.out, .regs, .lines, .lanes]) ∧
  (∀ l, Touches (.laneRejoinAttempt l) [.out, .lines, .lanes]) ∧
  (∀ l, Touches (.rejoinHoldExpiry l) [.out, .od, .regs, .ctl, .evt, .lines, .lanes, .links, .plan, .dm, .pwr]) ∧
  (∀ p, Touches (.portRetry p) [.out, .lines, .lanes]) ∧
  (∀ req c tag args, Touches (.laneRejoin req c tag args) [.out, .od, .regs, .ctl, .evt, .lines, .lanes, .eng, .dm, .io, .pwr]) ∧
  (∀ n, Touches (.patInjectSingle n) [.out, .lines, .lanes]) ∧
  (∀ n, Touches (.patInjectBurst n) [.out, .lines, .lanes]) ∧
  (∀ n received, Touches (.patErrcntRead n received) [.out, .lines, .lanes]) ∧
  (∀ n before after, Touches (.checkerLock n before after) [.out, .lines, .lanes])

/-- Frames: what the commands of the links, the tunnels, the plans, the engine and the switch leave unchanged. For each of 42
commands, with every operand and in every state: whenever the command answers a next state, the queue is as it was and
nothing of the hub differs but the kinds of state that the statement names for it. The named kinds take in what follows from
the command by the rules: an event that it fires (details, counters, pool), the answer to its path, and the three lines that
the hub's state decides. -/
def Obligations.FramesOfLinksTunnelsPlansEngineAndSwitch : Prop :=
  (∀ l, Touches (.groupClose l) [.out, .od, .regs, .lines, .lanes, .links]) ∧
  (∀ p, Touches (.ackDue p) [.out, .regs, .lines, .lanes, .links]) ∧
  (∀ p, Touches (.creditSend p) [.out, .lines, .lanes, .links]) ∧
  (∀ req c tag args, Touches (.fogSend req c tag args) [.out, .ctl, .lines, .lanes, .links, .eng, .io]) ∧
  (∀ req c tag args, Touches (.tunnelCreate req c tag args) [.draws, .out, .od, .regs, .ctl, .evt, .lines, .tun, .plan, .eng, .dm, .io, .pair, .pwr]) ∧
  (∀ req c tag args, Touches (.tunnelModify req c tag args) [.draws, .out, .od, .regs, .ctl, .evt, .lines, .tun, .eng, .sw, .dm, .io, .pair, .pwr]) ∧
  (∀ p m, Touches (.openReq p m) [.draws, .out, .od, .lines, .tun, .plan, .eng, .sw, .pair]) ∧
  (∀ p m, Touches (.openConfirm p m) [.draws, .out, .od, .regs, .evt, .lines, .tun, .plan, .eng, .sw, .vid, .pair, .pwr]) ∧
  (∀ p m, Touches (.modifyReq p m) [.draws, .out, .od, .lines, .tun, .eng, .sw, .pair]) ∧
  (∀ p m, Touches (.modifyAck p m) [.out, .od, .regs, .ctl, .evt, .lines, .tun, .eng, .dm, .io, .pair, .pwr]) ∧
  (∀ ctx, Touches (.respFaultHoldExpiry ctx) [.draws, .out, .od, .regs, .evt, .lines, .tun, .plan, .eng, .sw, .pair, .sec, .pwr]) ∧
  (∀ t, Touches (.jobDone t) [.draws, .out, .od, .regs, .evt, .lines, .links, .tun, .eng, .sw, .pwr]) ∧
  (∀ req c tag args, Touches (.engineBarrier req c tag args) [.out, .ctl, .lines, .eng, .io]) ∧
  (Touches .engBarrierArm [.out, .lines, .eng]) ∧
  (∀ which, Touches (.barrierComplete which) [.clock, .out, .od, .regs, .ctl, .evt, .lines, .eng, .dm, .pwr]) ∧
  (∀ req c tag args, Touches (.engineReload req c tag args) [.out, .od, .regs, .ctl, .evt, .lines, .eng, .sw, .io, .sec, .pwr]) ∧
  (∀ req c tag, Touches (.engineFenceRaise req c tag) [.out, .od, .regs, .ctl, .evt, .lines, .eng, .dm, .io, .pwr]) ∧
  (∀ req c tag, Touches (.engineFenceLift req c tag) [.out, .od, .regs, .ctl, .evt, .lines, .eng, .dm, .io, .pwr]) ∧
  (Touches .fenceExpired [.out, .od, .regs, .ctl, .evt, .lines, .eng, .dm, .pwr]) ∧
  (∀ w, Touches (.blindWindowEnd w) [.out, .lines, .plan]) ∧
  (∀ req c tag args, Touches (.planSwitch req c tag args) [.out, .od, .regs, .ctl, .evt, .lines, .lanes, .plan, .eng, .dm, .io, .pwr]) ∧
  (∀ req c tag, Touches (.meterColourClear req c tag) [.out, .ctl, .lines, .plan, .eng, .io]) ∧
  (∀ req c tag, Touches (.meterColourSet req c tag) [.out, .ctl, .lines, .plan, .eng, .io]) ∧
  (∀ req c tag, Touches (.meterColourEnd req c tag) [.out, .ctl, .lines, .plan, .eng, .io]) ∧
  (∀ rx active next seq eff origin, Touches (.announce rx active next seq eff origin) [.out, .od, .regs, .evt, .lines, .lanes, .links, .plan, .pwr]) ∧
  (Touches .announceRepeat [.out, .lines, .lanes, .plan]) ∧
  (∀ rx active next pending seq eff origin, Touches (.statusBlock rx active next pending seq eff origin) [.out, .od, .regs, .evt, .lines, .lanes, .links, .plan, .pwr]) ∧
  (∀ rx active next seq eff origin, Touches (.ackBlock rx active next seq eff origin) [.out, .regs, .lines, .lanes, .links, .plan]) ∧
  (∀ rx hubs, Touches (.countBlock rx hubs) [.out, .regs, .lines, .lanes, .links, .plan]) ∧
  (Touches .planSwitched [.out, .od, .regs, .ctl, .evt, .lines, .plan, .dm, .pwr]) ∧
  (∀ n mask times, Touches (.pfcFrame n mask times) [.out, .od, .lines, .sw]) ∧
  (∀ n, Touches (.pfcRefresh n) [.out, .od, .lines]) ∧
  (∀ n p, Touches (.pfcPauseExpiry n p) [.out, .lines, .sw]) ∧
  (∀ n, Touches (.pfcStuck n) [.out, .od, .regs, .evt, .lines, .pwr]) ∧
  (∀ m, Touches (.mirrorFrameClose m) [.out, .lines, .sw]) ∧
  (Touches .sweepComplete [.out, .lines, .sw]) ∧
  (Touches .scrubPass [.draws, .out, .od, .regs, .evt, .lines, .links, .tun, .plan, .eng, .sw, .pwr]) ∧
  (∀ req c tag args, Touches (.clsWrite req c tag args) [.out, .ctl, .lines, .eng, .sw, .io]) ∧
  (∀ req c tag args, Touches (.clsClear req c tag args) [.out, .ctl, .lines, .eng, .sw, .io]) ∧
  (∀ req c tag args, Touches (.clsRead req c tag args) [.out, .od, .regs, .ctl, .evt, .lines, .eng, .sw, .io, .pwr]) ∧
  (∀ req c tag args, Touches (.eccInject req c tag args) [.out, .ctl, .lines, .eng, .sw, .io]) ∧
  (∀ req c tag args, Touches (.scrubNow req c tag args) [.draws, .out, .od, .regs, .ctl, .evt, .lines, .links, .tun, .plan, .eng, .sw, .io, .pwr])

/-- Frames: what the commands of the beacon, the daymarks, the Lamps and the network, CAN and storage ports leave unchanged. For
each of 51 commands, with every operand and in every state: whenever the command answers a next state, the queue is as it was
and nothing of the hub differs but the kinds of state that the statement names for it. The named kinds take in what follows
from the command by the rules: an event that it fires (details, counters, pool), the answer to its path, and the three lines
that the hub's state decides. -/
def Obligations.FramesOfBeaconDaymarksAndPorts : Prop :=
  (∀ n a b z lapse, Touches (.encoderEdge n a b z lapse) [.clock, .out, .od, .regs, .ctl, .evt, .lines, .bcn, .dm, .pwr]) ∧
  (∀ b, Touches (.bcnStandstill b) [.out, .od, .regs, .evt, .lines, .bcn, .pwr]) ∧
  (Touches .bearingSegmentStart [.clock, .draws, .out, .od, .regs, .evt, .lines, .lanes, .links, .eng, .bcn, .dm, .pair, .pwr]) ∧
  (∀ rx seq, Touches (.delayProbeRequest rx seq) [.draws, .out, .regs, .lines, .lanes, .links]) ∧
  (∀ rx seq upLocked turn offset lapse, Touches (.delayProbeResponse rx seq upLocked turn offset lapse) [.clock, .out, .od, .regs, .ctl, .evt, .lines, .lanes, .links, .bcn, .dm, .pwr]) ∧
  (Touches .timebaseLock [.clock, .draws, .out, .od, .regs, .evt, .lines, .lanes, .links, .eng, .bcn, .dm, .pair, .pwr]) ∧
  (∀ req c tag args, Touches (.bearingRestore req c tag args) [.out, .od, .regs, .ctl, .evt, .lines, .eng, .bcn, .dm, .io, .pwr]) ∧
  (∀ req c tag args, Touches (.beaconCapture req c tag args) [.out, .ctl, .lines, .eng, .bcn, .io]) ∧
  (Touches .beaconCaptureFire [.clock, .out, .od, .regs, .ctl, .evt, .lines, .bcn, .dm, .pwr]) ∧
  (∀ req c tag args, Touches (.probeNow req c tag args) [.out, .ctl, .lines, .lanes, .links, .eng, .bcn, .io]) ∧
  (∀ p, Touches (.probeNowTimeout p) [.out, .od, .regs, .ctl, .evt, .lines, .lanes, .links, .bcn, .dm, .pwr]) ∧
  (Touches .clockLoRead [.out, .lines, .bcn]) ∧
  (∀ req c tag args, Touches (.daymarkCancel req c tag args) [.draws, .out, .od, .regs, .ctl, .evt, .lines, .eng, .dm, .io, .pair, .pwr]) ∧
  (∀ req c tag args, Touches (.daymarkRead req c tag args) [.out, .od, .regs, .ctl, .evt, .lines, .eng, .dm, .io, .pwr]) ∧
  (∀ l, Touches (.pulseTimeEnd l) [.clock, .out, .od, .regs, .lines, .bcn, .dm]) ∧
  (Touches .pulseBearingEnd [.clock, .draws, .out, .od, .regs, .evt, .lines, .eng, .bcn, .dm, .pair, .pwr]) ∧
  (Touches .pulseTimeout [.clock, .draws, .out, .od, .regs, .evt, .lines, .eng, .bcn, .dm, .pair, .pwr]) ∧
  (∀ l, Touches (.lampEdge l) [.clock, .draws, .out, .od, .lines, .eng, .dm, .pair]) ∧
  (∀ ok, Touches (.lampCalibration ok) [.out, .od, .regs, .evt, .lines, .dm, .pwr]) ∧
  (Touches .firedMessageSend [.out, .od, .regs, .evt, .lines, .tun, .eng, .sw, .dm, .pwr]) ∧
  (∀ req c tag args, Touches (.lampSetNow req c tag args) [.out, .od, .regs, .ctl, .evt, .lines, .eng, .dm, .io, .pair, .pwr]) ∧
  (∀ req c tag mask, Touches (.lampRelease req c tag mask) [.draws, .out, .od, .regs, .ctl, .evt, .lines, .lanes, .links, .eng, .dm, .io, .pair, .pwr]) ∧
  (∀ req c tag mask, Touches (.lampSafe req c tag mask) [.draws, .out, .od, .regs, .ctl, .evt, .lines, .lanes, .links, .eng, .dm, .io, .pair, .pwr]) ∧
  (∀ req c tag mask, Touches (.lampSafeChain req c tag mask) [.draws, .out, .od, .regs, .ctl, .evt, .lines, .lanes, .links, .eng, .dm, .io, .pair, .pwr]) ∧
  (∀ n frame fcsOk, Touches (.ethFrameRx n frame fcsOk) [.out, .od, .regs, .evt, .lines, .tun, .eng, .sw, .io, .pwr]) ∧
  (∀ n, Touches (.ethFrameTx n) [.out, .od, .regs, .evt, .lines, .tun, .eng, .sw, .io, .pwr]) ∧
  (∀ n link, Touches (.ethLinkChange n link) [.out, .od, .regs, .evt, .lines, .plan, .sw, .io, .pwr]) ∧
  (∀ req c tag args, Touches (.ethTsRead req c tag args) [.out, .ctl, .lines, .eng, .io]) ∧
  (∀ n f remote, Touches (.canFrameRx n f remote) [.draws, .out, .od, .regs, .ctl, .evt, .lines, .tun, .eng, .sw, .dm, .io, .pwr]) ∧
  (∀ n, Touches (.canFrameTx n) [.draws, .out, .od, .regs, .ctl, .evt, .lines, .tun, .eng, .sw, .dm, .io, .pwr]) ∧
  (∀ n, Touches (.canBusOff n) [.out, .od, .regs, .evt, .lines, .io, .pwr]) ∧
  (∀ n, Touches (.busOffRecovery n) [.out, .od, .regs, .ctl, .evt, .lines, .dm, .io, .pwr]) ∧
  (∀ req c tag args, Touches (.canRestart req c tag args) [.out, .ctl, .lines, .eng, .io]) ∧
  (∀ n src name, Touches (.addressClaimed n src name) [.out, .od, .regs, .ctl, .evt, .lines, .dm, .io, .pwr]) ∧
  (∀ n, Touches (.addressClaimRequest n) [.out, .lines, .io]) ∧
  (∀ n, Touches (.addressUsable n) [.out, .od, .regs, .ctl, .evt, .lines, .dm, .io, .pwr]) ∧
  (∀ req c tag args, Touches (.addressReclaim req c tag args) [.out, .ctl, .lines, .eng, .io]) ∧
  (∀ req c tag args, Touches (.emmcReinit req c tag args) [.out, .od, .regs, .ctl, .evt, .lines, .tun, .eng, .sw, .io, .pwr]) ∧
  (∀ ctx, Touches (.blockRead ctx) [.out, .od, .regs, .evt, .lines, .tun, .eng, .sw, .io, .pwr]) ∧
  (∀ ctx, Touches (.blockWrite ctx) [.out, .od, .regs, .evt, .lines, .tun, .eng, .sw, .io, .pwr]) ∧
  (∀ ctx, Touches (.blockFlush ctx) [.out, .od, .regs, .evt, .lines, .tun, .eng, .sw, .io, .pwr]) ∧
  (∀ ctx, Touches (.blockTrim ctx) [.out, .od, .regs, .evt, .lines, .tun, .eng, .sw, .io, .pwr]) ∧
  (∀ ctx, Touches (.blockInfo ctx) [.out, .od, .regs, .evt, .lines, .tun, .eng, .sw, .io, .pwr]) ∧
  (∀ ctx, Touches (.blockData ctx) [.out, .od, .regs, .evt, .lines, .tun, .eng, .sw, .io, .pwr]) ∧
  (∀ res r1 data, Touches (.emmcCommandDone res r1 data) [.out, .od, .regs, .evt, .lines, .tun, .eng, .sw, .io, .pwr]) ∧
  (∀ n data, Touches (.uartRxSegment n data) [.out, .od, .regs, .evt, .lines, .tun, .eng, .sw, .pwr]) ∧
  (∀ n, Touches (.serSegment n) [.out, .od, .regs, .evt, .lines, .tun, .eng, .sw, .io, .pwr]) ∧
  (∀ n status data, Touches (.serTransactionDone n status data) [.out, .od, .regs, .evt, .lines, .tun, .eng, .sw, .io, .pwr]) ∧
  (Touches .emmcDeviceTimeout [.out, .od, .regs, .evt, .lines, .tun, .eng, .sw, .io, .pwr]) ∧
  (∀ n tx heavy, Touches (.canBusError n tx heavy) [.out, .od, .regs, .evt, .lines, .io, .pwr]) ∧
  (∀ n level, Touches (.ctsNChange n level) [.out, .lines, .io])

/-- Frames: what the commands of video, the USB function hub and the host bridge leave unchanged. For each of 54 commands, with
every operand and in every state: whenever the command answers a next state, the queue is as it was and nothing of the hub
differs but the kinds of state that the statement names for it. The named kinds take in what follows from the command by the
rules: an event that it fires (details, counters, pool), the answer to its path, and the three lines that the hub's state
decides. -/
def Obligations.FramesOfVideoUsbAndHost : Prop :=
  (∀ n vc, Touches (.csiFrameStart n vc) [.out, .od, .regs, .evt, .lines, .tun, .eng, .sw, .vid, .pwr]) ∧
  (∀ n vc dt hdr data crcOk, Touches (.csiLongPacket n vc dt hdr data crcOk) [.out, .od, .regs, .evt, .lines, .tun, .eng, .sw, .vid, .pwr]) ∧
  (∀ n vc, Touches (.csiFrameEnd n vc) [.out, .od, .regs, .evt, .lines, .tun, .eng, .sw, .vid, .pwr]) ∧
  (Touches .dsiFrameStart [.out, .od, .regs, .evt, .lines, .vid, .pwr]) ∧
  (∀ fill empty, Touches (.dsiLine fill empty) [.out, .od, .regs, .mem, .ctl, .evt, .lines, .sw, .vid, .pwr]) ∧
  (∀ req c tag args, Touches (.dsiPacket req c tag args) [.out, .ctl, .lines, .eng, .io, .vid]) ∧
  (∀ n, Touches (.hsicConnect n) [.out, .od, .regs, .ctl, .evt, .lines, .plan, .dm, .usb, .pwr]) ∧
  (∀ n f, Touches (.functionConnect n f) [.clock, .out, .od, .regs, .ctl, .evt, .lines, .dm, .usb, .pwr]) ∧
  (∀ n k setup, Touches (.setup n k setup) [.out, .od, .lines, .usb]) ∧
  (∀ n k, Touches (.setAddress n k) [.out, .od, .lines, .usb]) ∧
  (∀ n k, Touches (.setConfiguration n k) [.out, .od, .regs, .ctl, .evt, .lines, .sw, .dm, .usb, .pwr]) ∧
  (∀ n k, Touches (.setInterface n k) [.out, .od, .lines, .sw, .usb]) ∧
  (∀ n k, Touches (.getDescriptor n k) [.draws, .out, .od, .regs, .evt, .lines, .tun, .eng, .sw, .usb, .pwr]) ∧
  (∀ n k, Touches (.getStatus n k) [.out, .od, .lines, .usb]) ∧
  (∀ n k, Touches (.getConfiguration n k) [.out, .od, .lines, .usb]) ∧
  (∀ n k, Touches (.getInterface n k) [.out, .od, .lines, .usb]) ∧
  (∀ n k, Touches (.setFeatureEndpointHalt n k) [.out, .od, .lines, .usb]) ∧
  (∀ n k, Touches (.clearFeatureEndpointHalt n k) [.out, .od, .lines, .usb]) ∧
  (∀ n k, Touches (.setFeatureRemoteWakeup n k) [.out, .od, .lines, .usb]) ∧
  (∀ n k, Touches (.setFeatureTestMode n k) [.out, .od, .lines, .usb]) ∧
  (∀ n, Touches (.setFeaturePortReset n) [.out, .od, .regs, .ctl, .evt, .lines, .sw, .dm, .usb, .pwr]) ∧
  (∀ n f, Touches (.portResetDone n f) [.out, .lines, .usb]) ∧
  (∀ n, Touches (.portPower n) [.out, .od, .regs, .ctl, .evt, .lines, .sw, .dm, .usb, .pwr]) ∧
  (∀ n, Touches (.setFeaturePortSuspend n) [.out, .od, .lines, .usb]) ∧
  (∀ n, Touches (.clearFeaturePortSuspend n) [.out, .od, .regs, .ctl, .evt, .lines, .dm, .usb, .pwr]) ∧
  (∀ n, Touches (.ttRequest n) [.out, .od, .lines, .usb]) ∧
  (∀ n k data, Touches (.controlRequest n k data) [.out, .od, .regs, .evt, .lines, .tun, .eng, .sw, .usb, .pwr]) ∧
  (∀ n f own, Touches (.controlReply n f own) [.out, .od, .lines, .sw, .io, .usb]) ∧
  (∀ n f, Touches (.ctrlTimeout n f) [.out, .od, .regs, .evt, .lines, .usb, .pwr]) ∧
  (∀ n f ep toggle data, Touches (.outPacket n f ep toggle data) [.out, .od, .regs, .evt, .lines, .tun, .eng, .sw, .usb, .pwr]) ∧
  (∀ n f ep, Touches (.ping n f ep) [.out, .od, .lines]) ∧
  (∀ n k ep acked, Touches (.inToken n k ep acked) [.out, .od, .lines, .sw, .usb]) ∧
  (∀ n, Touches (.usbBusReset n) [.out, .od, .regs, .ctl, .evt, .lines, .sw, .dm, .usb, .pwr]) ∧
  (∀ n, Touches (.usbSuspend n) [.out, .od, .regs, .evt, .lines, .usb, .pwr]) ∧
  (∀ n, Touches (.hostResume n) [.out, .od, .regs, .ctl, .evt, .lines, .dm, .usb, .pwr]) ∧
  (∀ n f, Touches (.resumeReady n f) [.out, .lines, .usb]) ∧
  (∀ n f, Touches (.remoteWake n f) [.clock, .out, .od, .regs, .ctl, .evt, .lines, .dm, .usb, .pwr]) ∧
  (∀ req c tag args, Touches (.usbWake req c tag args) [.out, .ctl, .lines, .eng, .io, .usb]) ∧
  (∀ req c tag args, Touches (.usbEpHalt req c tag args) [.out, .ctl, .lines, .eng, .io, .usb]) ∧
  (∀ req c tag args, Touches (.usbReconnect req c tag args) [.out, .od, .regs, .ctl, .evt, .lines, .eng, .dm, .io, .usb, .pwr]) ∧
  (∀ addr be data poisoned, Touches (.bar2Write addr be data poisoned) [.out, .od, .regs, .evt, .lines, .tun, .eng, .sw, .hb, .pwr]) ∧
  (∀ addr be len, Touches (.bar2Read addr be len) [.out, .od, .regs, .evt, .lines, .tun, .eng, .sw, .hb, .pwr]) ∧
  (∀ bar2 addr op size operand compare, Touches (.atomicOp bar2 addr op size operand compare) [.out, .od, .regs, .evt, .lines, .tun, .eng, .sw, .hb, .pwr]) ∧
  (∀ w, Touches (.readData w) [.out, .od, .regs, .evt, .lines, .tun, .eng, .sw, .io, .hb, .pwr]) ∧
  (∀ w, Touches (.lockAck w) [.out, .od, .regs, .evt, .lines, .tun, .eng, .sw, .io, .hb, .pwr]) ∧
  (∀ w, Touches (.winReadLimitExpiry w) [.out, .od, .regs, .evt, .lines, .tun, .eng, .sw, .hb, .pwr]) ∧
  (∀ w, Touches (.pfAgeExpiry w) [.out, .od, .regs, .evt, .lines, .hb, .pwr]) ∧
  (∀ ctx, Touches (.lock ctx) [.out, .od, .regs, .evt, .lines, .tun, .eng, .sw, .io, .hb, .pwr]) ∧
  (∀ ctx, Touches (.unlock ctx) [.out, .lines, .sw, .io, .hb]) ∧
  (Touches .memLockExpired [.out, .od, .regs, .evt, .lines, .hb, .pwr]) ∧
  (∀ q v, Touches (.txTailWrite q v) [.out, .od, .regs, .lines, .sw, .io, .hb]) ∧
  (∀ q v, Touches (.rxTailWrite q v) [.out, .od, .regs, .lines, .sw, .io, .hb]) ∧
  (∀ q, Touches (.modTimeExpiry q) [.out, .lines, .hb]) ∧
  (∀ n f, Touches (.usbReconnectTimeout n f) [.out, .od, .regs, .ctl, .evt, .lines, .dm, .usb, .pwr])

/-- Frames: what the commands of the redundant pair and the mooring leave unchanged. For each of 52 commands, with every operand
and in every state: whenever the command answers a next state, the queue is as it was and nothing of the hub differs but the
kinds of state that the statement names for it. The named kinds take in what follows from the command by the rules: an event
that it fires (details, counters, pool), the answer to its path, and the three lines that the hub's state decides. -/
def Obligations.FramesOfPairAndMooring : Prop :=
  (∀ p epoch kind, Touches (.swapPrepare p epoch kind) [.draws, .out, .od, .lines, .eng, .pair]) ∧
  (Touches .swapHoldDrained [.draws, .out, .od, .lines, .eng, .pair]) ∧
  (∀ p epoch, Touches (.swapReady p epoch) [.draws, .out, .od, .lines, .eng, .pair]) ∧
  (∀ p epoch, Touches (.swapRefuse p epoch) [.draws, .out, .od, .regs, .ctl, .evt, .lines, .eng, .dm, .pair, .pwr]) ∧
  (∀ p epoch sf, Touches (.swapCommit p epoch sf) [.out, .lines, .pair]) ∧
  (∀ p epoch, Touches (.swapAbort p epoch) [.draws, .out, .od, .regs, .ctl, .evt, .lines, .eng, .dm, .pair, .pwr]) ∧
  (Touches .swapPrepLimitExpiry [.draws, .out, .od, .regs, .ctl, .evt, .lines, .eng, .dm, .pair, .pwr]) ∧
  (∀ seq, Touches (.mirrorAck seq) [.out, .od, .regs, .ctl, .evt, .lines, .eng, .dm, .io, .pair, .pwr]) ∧
  (Touches .mirrorTimeout [.out, .od, .regs, .ctl, .evt, .lines, .eng, .dm, .io, .pair, .pwr]) ∧
  (∀ p, Touches (.pairLoss p) [.draws, .out, .od, .regs, .evt, .lines, .lanes, .links, .eng, .pair, .pwr]) ∧
  (∀ req c tag args, Touches (.pairSwap req c tag args) [.draws, .out, .od, .regs, .ctl, .evt, .lines, .eng, .dm, .io, .pair, .pwr]) ∧
  (∀ req c tag args, Touches (.pairResync req c tag args) [.draws, .out, .od, .regs, .ctl, .evt, .lines, .eng, .dm, .io, .pair, .pwr]) ∧
  (Touches .seatingStart [.out, .lines, .moor]) ∧
  (∀ good, Touches (.checkPass good) [.out, .lines, .moor]) ∧
  (∀ backfeed, Touches (.checkTimeout backfeed) [.out, .od, .regs, .ctl, .evt, .lines, .lanes, .links, .dm, .moor, .pwr]) ∧
  (Touches .rampDone [.out, .od, .regs, .evt, .lines, .lanes, .links, .moor, .pwr]) ∧
  (Touches .rampTimeout [.out, .od, .regs, .ctl, .evt, .lines, .lanes, .links, .dm, .moor, .pwr]) ∧
  (Touches .fastTrip [.out, .od, .regs, .ctl, .evt, .lines, .lanes, .links, .dm, .moor, .pwr]) ∧
  (∀ k, Touches (.curveTrip k) [.out, .od, .regs, .ctl, .evt, .lines, .lanes, .links, .dm, .moor, .pwr]) ∧
  (Touches .voltageTrip [.out, .od, .regs, .ctl, .evt, .lines, .lanes, .links, .dm, .moor, .pwr]) ∧
  (Touches .transitionTimeout [.out, .od, .regs, .ctl, .evt, .lines, .lanes, .links, .dm, .moor, .pwr]) ∧
  (Touches .retryTimerExpiry [.out, .lines, .moor]) ∧
  (Touches .lockoutClearExpiry [.out, .lines, .moor]) ∧
  (∀ rx id ack, Touches (.good rx id ack) [.out, .od, .regs, .ctl, .evt, .lines, .lanes, .links, .dm, .moor, .pwr]) ∧
  (∀ rx id mask vendor, Touches (.caps rx id mask vendor) [.out, .od, .regs, .evt, .lines, .lanes, .links, .moor, .pwr]) ∧
  (∀ rx id, Touches (.getCaps rx id) [.out, .od, .regs, .lines, .lanes, .links, .moor]) ∧
  (∀ rx id profile current, Touches (.request rx id profile current) [.out, .od, .regs, .evt, .lines, .lanes, .links, .moor, .pwr]) ∧
  (∀ rx id profile, Touches (.accept rx id profile) [.out, .od, .regs, .evt, .lines, .lanes, .links, .moor, .pwr]) ∧
  (∀ rx id reason, Touches (.reject rx id reason) [.out, .od, .regs, .ctl, .evt, .lines, .lanes, .links, .dm, .moor, .pwr]) ∧
  (∀ rx id profile, Touches (.psReady rx id profile) [.out, .od, .regs, .ctl, .evt, .lines, .lanes, .links, .dm, .moor, .pwr]) ∧
  (∀ rx id, Touches (.hardReset rx id) [.out, .od, .regs, .ctl, .evt, .lines, .lanes, .links, .dm, .moor, .pwr]) ∧
  (∀ rx id response mode data, Touches (.vdmDiscoverModes rx id response mode data) [.out, .od, .regs, .ctl, .evt, .lines, .lanes, .links, .dm, .moor, .pwr]) ∧
  (∀ rx id response mode data, Touches (.vdmEnter rx id response mode data) [.out, .od, .regs, .ctl, .evt, .lines, .lanes, .links, .dm, .moor, .pwr]) ∧
  (∀ rx id response mode data, Touches (.vdmExit rx id response mode data) [.out, .od, .regs, .ctl, .evt, .lines, .lanes, .links, .dm, .moor, .pwr]) ∧
  (∀ rx id mode data, Touches (.vdmAttention rx id mode data) [.out, .od, .regs, .lines, .lanes, .links, .moor]) ∧
  (∀ rx id svid command mode data, Touches (.moorVdm rx id svid command mode data) [.out, .od, .regs, .ctl, .evt, .lines, .lanes, .links, .dm, .moor, .pwr]) ∧
  (∀ c, Touches (.mooringMsgRetry c) [.out, .od, .regs, .ctl, .evt, .lines, .lanes, .links, .dm, .moor, .pwr]) ∧
  (∀ c, Touches (.capsRepeat c) [.out, .od, .lines, .lanes, .links, .moor]) ∧
  (∀ c, Touches (.psReadyTimeout c) [.out, .od, .regs, .ctl, .evt, .lines, .lanes, .links, .dm, .moor, .pwr]) ∧
  (Touches .transitionStart [.out, .lines, .moor]) ∧
  (Touches .transitionDone [.out, .od, .regs, .evt, .lines, .lanes, .links, .moor, .pwr]) ∧
  (Touches .limpAttention [.out, .od, .lines, .lanes, .links, .moor]) ∧
  (∀ good, Touches (.moorFeedSwitch good) [.out, .od, .regs, .evt, .lines, .lanes, .links, .moor, .pwr]) ∧
  (Touches .feedBbmEnd [.out, .od, .lines, .lanes, .links, .moor]) ∧
  (Touches .feedReturn [.out, .od, .regs, .evt, .lines, .moor, .pwr]) ∧
  (∀ req c tag args, Touches (.moorRenegotiate req c tag args) [.out, .od, .regs, .ctl, .evt, .lines, .lanes, .links, .eng, .dm, .io, .moor, .pwr]) ∧
  (∀ req c tag args, Touches (.moorRequest req c tag args) [.out, .od, .regs, .ctl, .evt, .lines, .lanes, .links, .eng, .dm, .io, .moor, .pwr]) ∧
  (∀ req c tag args, Touches (.moorHardReset req c tag args) [.out, .od, .regs, .ctl, .evt, .lines, .lanes, .links, .eng, .dm, .io, .moor, .pwr]) ∧
  (∀ req c tag args, Touches (.moorResume req c tag args) [.out, .od, .regs, .ctl, .evt, .lines, .eng, .dm, .io, .moor, .pwr]) ∧
  (∀ req c tag args, Touches (.moorSendVdm req c tag args) [.out, .od, .ctl, .lines, .lanes, .links, .eng, .io, .moor]) ∧
  (∀ req c tag, Touches (.moorHoldOff req c tag) [.out, .od, .regs, .ctl, .evt, .lines, .eng, .dm, .io, .moor, .pwr]) ∧
  (∀ req c tag, Touches (.moorHoldRelease req c tag) [.out, .od, .regs, .ctl, .evt, .lines, .eng, .dm, .io, .moor, .pwr])

/-- Frames: what the commands of keys and checks, events, power and resets, and observation leave unchanged. For each of 55
commands, with every operand and in every state: whenever the command answers a next state, the queue is as it was and
nothing of the hub differs but the kinds of state that the statement names for it. The named kinds take in what follows from
the command by the rules: an event that it fires (details, counters, pool), the answer to its path, and the three lines that
the hub's state decides. -/
def Obligations.FramesOfKeysEventsPowerAndObservation : Prop :=
  (∀ p m, Touches (.keyOffer p m) [.out, .lines, .eng, .sec]) ∧
  (∀ p m, Touches (.keyAnswer p m) [.out, .lines, .tun, .eng, .sec]) ∧
  (Touches .trngHealthFail [.out, .od, .regs, .evt, .lines, .sec, .pwr]) ∧
  (∀ req c tag args, Touches (.keyDerive req c tag args) [.draws, .out, .od, .regs, .ctl, .evt, .lines, .eng, .dm, .io, .sec, .pwr]) ∧
  (∀ req c tag args, Touches (.keyGenerate req c tag args) [.out, .ctl, .lines, .eng, .io, .sec]) ∧
  (∀ req c tag args, Touches (.keyLoadPublic req c tag args) [.draws, .out, .od, .regs, .ctl, .evt, .lines, .eng, .dm, .io, .sec, .pwr]) ∧
  (∀ req c tag args, Touches (.keyErase req c tag args) [.out, .od, .regs, .ctl, .evt, .lines, .eng, .dm, .io, .sec, .pwr]) ∧
  (∀ req c tag args, Touches (.attest req c tag args) [.out, .ctl, .lines, .eng, .io, .sec]) ∧
  (∀ req c tag args ok, Touches (.fuseProgram req c tag args ok) [.draws, .out, .od, .regs, .ctl, .evt, .lines, .eng, .dm, .io, .sec, .pwr]) ∧
  (∀ req c tag args, Touches (.pairRekey req c tag args) [.out, .od, .regs, .ctl, .evt, .lines, .tun, .eng, .dm, .io, .sec, .pwr]) ∧
  (∀ req c tag args, Touches (.sign req c tag args) [.out, .ctl, .lines, .eng, .io, .sec]) ∧
  (∀ c size v, Touches (.crcDataWrite c size v) [.out, .lines, .sec]) ∧
  (∀ c, Touches (.crcStart c) [.out, .lines, .sec]) ∧
  (∀ src data, Touches (.eventFire src data) [.out, .od, .regs, .evt, .lines, .pwr]) ∧
  (∀ r ok, Touches (.eventTake r ok) [.out, .od, .regs, .kram, .evt, .lines, .hb, .pwr]) ∧
  (∀ r src, Touches (.eoi r src) [.out, .od, .regs, .evt, .lines, .pwr]) ∧
  (∀ o w v, Touches (.pendingWrite o w v) [.out, .od, .regs, .evt, .lines, .pwr]) ∧
  (∀ w, Touches (.maskRead w) [.out, .lines]) ∧
  (∀ o w, Touches (.holdRequest o w) [.out, .evt, .lines]) ∧
  (∀ o, Touches (.holdRelease o) [.out, .evt, .lines]) ∧
  (Touches .holdExpired [.out, .od, .regs, .evt, .lines, .pwr]) ∧
  (∀ r v, Touches (.evrRdWrite r v) [.out, .evt, .lines, .hb]) ∧
  (∀ r v, Touches (.ringEnable r v) [.out, .evt, .lines]) ∧
  (∀ req c tag args, Touches (.eventRaise req c tag args) [.out, .od, .regs, .ctl, .evt, .lines, .eng, .io, .pwr]) ∧
  (∀ d, Touches (.delayLimitExpiry d) [.out, .od, .regs, .ctl, .evt, .lines, .eng, .dm, .pwr]) ∧
  (∀ req c tag args, Touches (.padRelease req c tag args) [.draws, .out, .od, .regs, .ctl, .evt, .lines, .eng, .dm, .io, .pair, .pwr]) ∧
  (∀ v, Touches (.padHoldWrite v) [.draws, .out, .od, .lines, .eng, .dm, .pair, .pwr]) ∧
  (Touches .droopSlow [.out, .od, .regs, .evt, .lines, .pwr]) ∧
  (Touches .droopClear [.out, .od, .regs, .evt, .lines, .pwr]) ∧
  (Touches .droopLong [.clock, .out, .od, .regs, .evt, .lines, .pwr]) ∧
  (∀ key, Touches (.wdtKick key) [.out, .lines, .pwr]) ∧
  (Touches .wdtWarning [.out, .od, .regs, .evt, .lines, .pwr]) ∧
  (∀ req c tag args, Touches (.flashErase req c tag args) [.out, .ctl, .lines, .eng, .io, .pwr]) ∧
  (∀ req c tag args, Touches (.flashProgram req c tag args) [.out, .ctl, .lines, .eng, .io, .pwr]) ∧
  (∀ ppb, Touches (.freqLocked ppb) [.out, .od, .regs, .evt, .lines, .pwr]) ∧
  (∀ k, Touches (.cmpLimit k) [.out, .od, .regs, .evt, .lines, .pwr, .obs]) ∧
  (∀ n, Touches (.cntLoRead n) [.out, .lines, .obs]) ∧
  (∀ b e, Touches (.snapClockLoRead b e) [.out, .lines, .obs]) ∧
  (∀ req c tag args, Touches (.cntSnapshot req c tag args) [.out, .od, .regs, .ctl, .evt, .lines, .eng, .io, .pwr, .obs]) ∧
  (∀ b, Touches (.snapshotCapture b) [.clock, .out, .od, .regs, .ctl, .evt, .lines, .pwr, .obs]) ∧
  (∀ req c tag args, Touches (.debugChallenge req c tag args) [.draws, .out, .ctl, .lines, .eng, .io, .obs]) ∧
  (∀ req c tag args, Touches (.debugUnlock req c tag args) [.out, .ctl, .lines, .eng, .io, .sec, .obs]) ∧
  (Touches .nonceExpiry [.out, .lines, .obs]) ∧
  (Touches .bypass [.out, .lines, .obs]) ∧
  (Touches .idcode [.out, .lines, .obs]) ∧
  (∀ bits, Touches (.samplePreload bits) [.out, .lines, .obs]) ∧
  (Touches .extest [.out, .lines, .obs]) ∧
  (Touches .extestPulse [.out, .lines, .obs]) ∧
  (Touches .extestTrain [.out, .lines, .obs]) ∧
  (Touches .clamp [.out, .lines, .obs]) ∧
  (Touches .highz [.out, .lines, .obs]) ∧
  (∀ k, Touches (.pllUnlock k) [.out, .od, .regs, .evt, .lines, .pwr]) ∧
  (Touches .rstoutRelease [.out, .lines, .pwr]) ∧
  (Touches .trngTestsPass [.out, .lines, .sec]) ∧
  (∀ ok, Touches (.flashOperationDone ok) [.out, .od, .regs, .ctl, .evt, .lines, .dm, .pwr])

/-- Commands that can tear tunnels down spare CLOCK, the memories, the modes, video, the mooring and observation. For each of 46
commands whose effect passes through ports, tunnels and links, with every operand and in every state: whenever the command
answers a next state, the queue is as it was, and so are CLOCK, the strings of the dictionary, the SRAM, Keeper RAM, the
modes, video, the mooring, observation and every other kind of state that the statement names for it. -/
def Obligations.FarReachingCommandsSpareClockMemoryAndMooring : Prop :=
  (∀ own, Spares (.odRead own) [.clock, .blob, .mem, .kram, .mode, .bcn, .vid, .moor, .obs]) ∧
  (∀ path c, Spares (.resultRead path c) [.clock, .blob, .mem, .kram, .mode, .bcn, .vid, .moor, .obs]) ∧
  (∀ l b crcOk, Spares (.trainingBlock l b crcOk) [.clock, .blob, .mem, .kram, .mode, .vid, .moor, .obs]) ∧
  (∀ p, Spares (.trainLimitExpiry p) [.clock, .blob, .mem, .kram, .mode, .vid, .moor, .obs]) ∧
  (∀ l, Spares (.lossOfSignal l) [.clock, .blob, .mem, .kram, .mode, .vid, .moor, .obs]) ∧
  (∀ l, Spares (.lossOfLock l) [.clock, .blob, .mem, .kram, .mode, .vid, .moor, .obs]) ∧
  (∀ l count, Spares (.errorLimitBreach l count) [.clock, .blob, .mem, .kram, .mode, .vid, .moor, .obs]) ∧
  (∀ l step rateNext crcOk, Spares (.laneDropBlock l step rateNext crcOk) [.clock, .blob, .mem, .kram, .mode, .vid, .moor, .obs]) ∧
  (∀ l, Spares (.quietFault l) [.clock, .blob, .mem, .kram, .mode, .vid, .moor, .obs]) ∧
  (∀ p, Spares (.linkHoldExpiry p) [.clock, .blob, .mem, .kram, .mode, .vid, .moor, .obs]) ∧
  (∀ req c tag args, Spares (.portRetrain req c tag args) [.clock, .blob, .mem, .kram, .mode, .vid, .moor, .obs]) ∧
  (∀ req c tag args, Spares (.portRateStep req c tag args) [.clock, .blob, .mem, .kram, .mode, .vid, .moor, .obs]) ∧
  (∀ req c tag args, Spares (.laneDrop req c tag args) [.clock, .blob, .mem, .kram, .mode, .vid, .moor, .obs]) ∧
  (∀ n v, Spares (.genEn n v) [.clock, .blob, .mem, .kram, .mode, .vid, .moor, .obs]) ∧
  (∀ n v, Spares (.chkEn n v) [.clock, .blob, .mem, .kram, .mode, .vid, .moor, .obs]) ∧
  (∀ l cells seq ack crcOk framed, Spares (.tally l cells seq ack crcOk framed) [.clock, .blob, .mem, .kram, .mode, .vid, .moor, .obs]) ∧
  (∀ l block crcOk, Spares (.idle l block crcOk) [.clock, .blob, .mem, .kram, .mode, .vid, .moor, .obs]) ∧
  (∀ p, Spares (.replayTimeout p) [.clock, .blob, .mem, .kram, .mode, .vid, .moor, .obs]) ∧
  (∀ p, Spares (.initTimeout p) [.clock, .blob, .mem, .kram, .mode, .vid, .moor, .obs]) ∧
  (∀ req c tag args, Spares (.tunnelOpen req c tag args) [.clock, .blob, .mem, .kram, .mode, .bcn, .vid, .moor, .obs]) ∧
  (∀ req c tag args, Spares (.tunnelClose req c tag args) [.clock, .blob, .mem, .kram, .mode, .lanes, .links, .bcn, .vid, .moor, .obs]) ∧
  (∀ req c tag args, Spares (.tunnelDestroy req c tag args) [.clock, .blob, .mem, .kram, .mode, .lanes, .bcn, .vid, .moor, .obs]) ∧
  (∀ p m, Spares (.closeReq p m) [.clock, .blob, .mem, .kram, .mode, .lanes, .links, .bcn, .vid, .moor, .obs]) ∧
  (∀ p m, Spares (.closeAck p m) [.clock, .blob, .mem, .kram, .mode, .lanes, .links, .bcn, .vid, .moor, .obs]) ∧
  (∀ p m, Spares (.teardown p m) [.clock, .blob, .mem, .kram, .mode, .bcn, .vid, .moor, .obs]) ∧
  (∀ ctx, Spares (.openTimeout ctx) [.clock, .blob, .mem, .kram, .mode, .bcn, .vid, .moor, .obs]) ∧
  (∀ ctx, Spares (.drainComplete ctx) [.clock, .blob, .mem, .kram, .mode, .lanes, .links, .bcn, .vid, .usb, .hb, .moor, .obs]) ∧
  (∀ ctx, Spares (.drainLimitExpiry ctx) [.clock, .blob, .mem, .kram, .mode, .lanes, .bcn, .vid, .usb, .hb, .moor, .obs]) ∧
  (∀ ctx, Spares (.tunnelReopen ctx) [.clock, .blob, .mem, .kram, .mode, .bcn, .vid, .moor, .obs]) ∧
  (∀ ctx encap, Spares (.jobDispatch ctx encap) [.clock, .blob, .mem, .kram, .mode, .vid, .moor, .obs]) ∧
  (∀ t, Spares (.jobStart t) [.clock, .blob, .mem, .kram, .mode, .bcn, .vid, .moor, .obs]) ∧
  (∀ t remote, Spares (.steal t remote) [.clock, .blob, .mem, .kram, .mode, .bcn, .vid, .moor, .obs]) ∧
  (∀ t cause, Spares (.tenderFault t cause) [.clock, .blob, .mem, .kram, .mode, .bcn, .vid, .moor, .obs]) ∧
  (∀ t, Spares (.tenderWatchdog t) [.clock, .blob, .mem, .kram, .mode, .bcn, .vid, .moor, .obs]) ∧
  (∀ req c tag args, Spares (.tenderFence req c tag args) [.clock, .blob, .mem, .kram, .mode, .bcn, .vid, .moor, .obs]) ∧
  (∀ found parts, Spares (.emmcInitDone found parts) [.clock, .blob, .mem, .kram, .mode, .bcn, .vid, .moor, .obs]) ∧
  (Spares .hostBridgeReset [.clock, .blob, .mem, .kram, .mode, .bcn, .vid, .moor, .obs]) ∧
  (∀ speed width, Spares (.pcieLinkChange speed width) [.clock, .blob, .mem, .kram, .mode, .bcn, .vid, .moor, .obs]) ∧
  (∀ w v, Spares (.windowEnable w v) [.clock, .blob, .mem, .kram, .mode, .bcn, .vid, .moor, .obs]) ∧
  (∀ q ok data, Spares (.dmaCompletion q ok data) [.clock, .blob, .mem, .kram, .mode, .bcn, .vid, .moor, .obs]) ∧
  (∀ p m, Spares (.keyRefuse p m) [.clock, .blob, .mem, .kram, .mode, .bcn, .vid, .moor, .obs]) ∧
  (Spares .remask [.clock, .blob, .mem, .kram, .mode, .bcn, .vid, .moor, .obs]) ∧
  (∀ ok, Spares (.trngStartup ok) [.clock, .blob, .mem, .kram, .mode, .vid, .moor, .obs]) ∧
  (∀ e k, Spares (.cellSlot e k) [.clock, .blob, .mem, .kram, .mode, .bcn, .vid, .moor, .obs]) ∧
  (∀ p, Spares (.followerStep p) [.clock, .blob, .mem, .kram, .mode, .vid, .moor, .obs]) ∧
  (∀ q, Spares (.completionTimeout q) [.clock, .blob, .mem, .kram, .mode, .bcn, .vid, .moor, .obs])

/-- What the other far-reaching commands spare. For each of 36 commands whose effect passes through ports, tunnels and links,
with every operand and in every state: whenever the command answers a next state, the queue is as it was, and so is every
kind of state that the statement names for it. -/
def Obligations.OtherFarReachingCommandsSpareWhatIsNamed : Prop :=
  (Spares .keeperStart [.clock, .kram]) ∧
  (Spares .fogDeadlineExpiry [.clock, .blob, .kram]) ∧
  (Spares .foghornRetrainFail [.clock, .blob, .kram, .moor, .obs]) ∧
  (∀ req c tag args, Spares (.modeFog req c tag args) [.clock, .blob, .kram]) ∧
  (∀ p init limits crcOk, Spares (.credit p init limits crcOk) [.clock, .blob, .mem, .kram, .plan, .io, .vid, .usb, .hb, .sec, .obs]) ∧
  (Spares .superframeStart [.blob, .mem, .kram, .mode, .vid, .obs]) ∧
  (∀ p sf sample valid ground shaft0 shaft1 crcOk lapse, Spares (.beacon p sf sample valid ground shaft0 shaft1 crcOk lapse) [.blob, .mem, .kram, .mode, .tun, .sw, .io, .vid, .usb, .hb, .moor, .sec, .obs]) ∧
  (∀ p b crcOk, Spares (.linkInit p b crcOk) [.clock, .blob, .mem, .kram, .vid, .obs]) ∧
  (∀ p, Spares (.linkInitPageSend p) [.clock, .blob, .mem, .kram, .vid, .obs]) ∧
  (∀ p m, Spares (.openAck p m) [.clock, .blob, .mem, .kram, .mode, .bcn, .moor, .obs]) ∧
  (∀ ctx encap, Spares (.jobCommit ctx encap) [.clock, .blob, .kram, .mode, .bcn, .moor, .obs]) ∧
  (∀ ctx, Spares (.meterRelease ctx) [.blob, .mem, .kram, .mode, .bcn, .io, .vid, .usb, .hb, .moor, .obs]) ∧
  (∀ req c tag args ok, Spares (.tenderRestore req c tag args ok) [.clock, .blob, .mem, .kram, .vid, .obs]) ∧
  (∀ req c tag args, Spares (.daymarkPost req c tag args) [.clock, .blob, .mem, .kram, .mode, .bcn, .vid, .moor]) ∧
  (Spares .dmPostGo [.clock, .blob, .mem, .kram, .mode, .bcn, .vid, .moor]) ∧
  (Spares .lampcmdPost [.clock, .blob, .mem, .kram, .mode, .bcn, .vid, .moor]) ∧
  (Spares .lampcmdCancel [.clock, .blob, .mem, .kram, .mode, .bcn, .vid, .moor]) ∧
  (Spares .daymarkFired [.blob, .mem, .kram, .mode, .vid, .moor]) ∧
  (∀ ctx, Spares (.memoryWrite ctx) [.clock, .blob, .kram, .mode, .vid, .moor]) ∧
  (∀ ctx, Spares (.memoryRead ctx) [.clock, .blob, .mem, .kram, .mode, .ctl, .links, .plan, .dm, .vid, .usb, .pair, .moor, .sec]) ∧
  (∀ p epoch role hears strap serial primary, Spares (.roleAnnounce p epoch role hears strap serial primary) [.clock, .blob, .mem, .kram, .vid, .moor, .obs]) ∧
  (Spares .commitPoint [.clock, .blob, .mem, .kram, .vid, .obs]) ∧
  (∀ seq r, Spares (.mirror seq r) [.clock, .mem, .kram]) ∧
  (Spares .pairClaimed [.clock, .blob, .mem, .kram, .vid, .moor, .obs]) ∧
  (∀ ctx, Spares (.seatConfirm ctx) [.clock, .blob, .mem, .kram, .vid, .obs]) ∧
  (∀ ctx, Spares (.seatRelease ctx) [.clock, .blob, .kram, .obs]) ∧
  (∀ k rising, Spares (.wakeLatchSet k rising) [.clock, .blob, .mem, .kram, .obs]) ∧
  (∀ req c tag d force, Spares (.domainOn req c tag d force) [.clock, .blob, .kram, .mode, .moor, .obs]) ∧
  (∀ req c tag d force, Spares (.domainRetention req c tag d force) [.clock, .blob, .kram, .mode, .moor, .obs]) ∧
  (∀ req c tag d force, Spares (.domainOff req c tag d force) [.clock, .blob, .kram, .mode, .moor, .obs]) ∧
  (∀ d, Spares (.domainGrant d) [.clock, .blob, .kram, .mode, .moor, .obs]) ∧
  (∀ t, Spares (.registerWrite t) [.clock, .blob, .mem, .kram, .mode, .vid, .moor]) ∧
  (Spares .vddCoreRestored [.clock, .blob, .mem, .obs]) ∧
  (Spares .crystalReturn [.clock, .blob, .mem, .obs]) ∧
  (Spares .eccEngineDone [.clock, .blob, .mem, .kram, .mode, .bcn, .vid, .moor]) ∧
  (∀ d, Spares (.domainPowerUpDone d) [.clock, .blob, .mem, .kram, .obs])
end

