-- ==== Sys2Proof/Laws/State.lean ====
section
/-!
SUPPORT. One lemma for each field of the hub and each update that leaves it alone: no later proof unfolds a record update.
-/

namespace Sys2Proof.Machine

/-! `Hub.emit` writes nothing but `out`. -/

@[simp] theorem Hub.emit_clock (h : Hub) (x : Out) : (h.emit x).clock = h.clock := rfl
@[simp] theorem Hub.emit_draws (h : Hub) (x : Out) : (h.emit x).draws = h.draws := rfl
@[simp] theorem Hub.emit_od (h : Hub) (x : Out) : (h.emit x).od = h.od := rfl
@[simp] theorem Hub.emit_blob (h : Hub) (x : Out) : (h.emit x).blob = h.blob := rfl
@[simp] theorem Hub.emit_regs (h : Hub) (x : Out) : (h.emit x).regs = h.regs := rfl
@[simp] theorem Hub.emit_mem (h : Hub) (x : Out) : (h.emit x).mem = h.mem := rfl
@[simp] theorem Hub.emit_kram (h : Hub) (x : Out) : (h.emit x).kram = h.kram := rfl
@[simp] theorem Hub.emit_mode (h : Hub) (x : Out) : (h.emit x).mode = h.mode := rfl
@[simp] theorem Hub.emit_ctl (h : Hub) (x : Out) : (h.emit x).ctl = h.ctl := rfl
@[simp] theorem Hub.emit_evt (h : Hub) (x : Out) : (h.emit x).evt = h.evt := rfl
@[simp] theorem Hub.emit_lanes (h : Hub) (x : Out) : (h.emit x).lanes = h.lanes := rfl
@[simp] theorem Hub.emit_links (h : Hub) (x : Out) : (h.emit x).links = h.links := rfl
@[simp] theorem Hub.emit_tun (h : Hub) (x : Out) : (h.emit x).tun = h.tun := rfl
@[simp] theorem Hub.emit_plan (h : Hub) (x : Out) : (h.emit x).plan = h.plan := rfl
@[simp] theorem Hub.emit_eng (h : Hub) (x : Out) : (h.emit x).eng = h.eng := rfl
@[simp] theorem Hub.emit_sw (h : Hub) (x : Out) : (h.emit x).sw = h.sw := rfl
@[simp] theorem Hub.emit_bcn (h : Hub) (x : Out) : (h.emit x).bcn = h.bcn := rfl
@[simp] theorem Hub.emit_dm (h : Hub) (x : Out) : (h.emit x).dm = h.dm := rfl
@[simp] theorem Hub.emit_io (h : Hub) (x : Out) : (h.emit x).io = h.io := rfl
@[simp] theorem Hub.emit_vid (h : Hub) (x : Out) : (h.emit x).vid = h.vid := rfl
@[simp] theorem Hub.emit_usb (h : Hub) (x : Out) : (h.emit x).usb = h.usb := rfl
@[simp] theorem Hub.emit_hb (h : Hub) (x : Out) : (h.emit x).hb = h.hb := rfl
@[simp] theorem Hub.emit_pair (h : Hub) (x : Out) : (h.emit x).pair = h.pair := rfl
@[simp] theorem Hub.emit_moor (h : Hub) (x : Out) : (h.emit x).moor = h.moor := rfl
@[simp] theorem Hub.emit_sec (h : Hub) (x : Out) : (h.emit x).sec = h.sec := rfl
@[simp] theorem Hub.emit_pwr (h : Hub) (x : Out) : (h.emit x).pwr = h.pwr := rfl
@[simp] theorem Hub.emit_obs (h : Hub) (x : Out) : (h.emit x).obs = h.obs := rfl

/-! `Hub.put` writes nothing but `od`. -/

@[simp] theorem Hub.put_clock (h : Hub) (e : Entry) (v : Nat) : (h.put e v).clock = h.clock := rfl
@[simp] theorem Hub.put_draws (h : Hub) (e : Entry) (v : Nat) : (h.put e v).draws = h.draws := rfl
@[simp] theorem Hub.put_out (h : Hub) (e : Entry) (v : Nat) : (h.put e v).out = h.out := rfl
@[simp] theorem Hub.put_blob (h : Hub) (e : Entry) (v : Nat) : (h.put e v).blob = h.blob := rfl
@[simp] theorem Hub.put_regs (h : Hub) (e : Entry) (v : Nat) : (h.put e v).regs = h.regs := rfl
@[simp] theorem Hub.put_mem (h : Hub) (e : Entry) (v : Nat) : (h.put e v).mem = h.mem := rfl
@[simp] theorem Hub.put_kram (h : Hub) (e : Entry) (v : Nat) : (h.put e v).kram = h.kram := rfl
@[simp] theorem Hub.put_mode (h : Hub) (e : Entry) (v : Nat) : (h.put e v).mode = h.mode := rfl
@[simp] theorem Hub.put_ctl (h : Hub) (e : Entry) (v : Nat) : (h.put e v).ctl = h.ctl := rfl
@[simp] theorem Hub.put_evt (h : Hub) (e : Entry) (v : Nat) : (h.put e v).evt = h.evt := rfl
@[simp] theorem Hub.put_lanes (h : Hub) (e : Entry) (v : Nat) : (h.put e v).lanes = h.lanes := rfl
@[simp] theorem Hub.put_links (h : Hub) (e : Entry) (v : Nat) : (h.put e v).links = h.links := rfl
@[simp] theorem Hub.put_tun (h : Hub) (e : Entry) (v : Nat) : (h.put e v).tun = h.tun := rfl
@[simp] theorem Hub.put_plan (h : Hub) (e : Entry) (v : Nat) : (h.put e v).plan = h.plan := rfl
@[simp] theorem Hub.put_eng (h : Hub) (e : Entry) (v : Nat) : (h.put e v).eng = h.eng := rfl
@[simp] theorem Hub.put_sw (h : Hub) (e : Entry) (v : Nat) : (h.put e v).sw = h.sw := rfl
@[simp] theorem Hub.put_bcn (h : Hub) (e : Entry) (v : Nat) : (h.put e v).bcn = h.bcn := rfl
@[simp] theorem Hub.put_dm (h : Hub) (e : Entry) (v : Nat) : (h.put e v).dm = h.dm := rfl
@[simp] theorem Hub.put_io (h : Hub) (e : Entry) (v : Nat) : (h.put e v).io = h.io := rfl
@[simp] theorem Hub.put_vid (h : Hub) (e : Entry) (v : Nat) : (h.put e v).vid = h.vid := rfl
@[simp] theorem Hub.put_usb (h : Hub) (e : Entry) (v : Nat) : (h.put e v).usb = h.usb := rfl
@[simp] theorem Hub.put_hb (h : Hub) (e : Entry) (v : Nat) : (h.put e v).hb = h.hb := rfl
@[simp] theorem Hub.put_pair (h : Hub) (e : Entry) (v : Nat) : (h.put e v).pair = h.pair := rfl
@[simp] theorem Hub.put_moor (h : Hub) (e : Entry) (v : Nat) : (h.put e v).moor = h.moor := rfl
@[simp] theorem Hub.put_sec (h : Hub) (e : Entry) (v : Nat) : (h.put e v).sec = h.sec := rfl
@[simp] theorem Hub.put_pwr (h : Hub) (e : Entry) (v : Nat) : (h.put e v).pwr = h.pwr := rfl
@[simp] theorem Hub.put_obs (h : Hub) (e : Entry) (v : Nat) : (h.put e v).obs = h.obs := rfl

/-! `Hub.bump` writes nothing but `od`. -/

@[simp] theorem Hub.bump_clock (h : Hub) (e : Entry) (w n : Nat) : (h.bump e w n).clock = h.clock := rfl
@[simp] theorem Hub.bump_draws (h : Hub) (e : Entry) (w n : Nat) : (h.bump e w n).draws = h.draws := rfl
@[simp] theorem Hub.bump_out (h : Hub) (e : Entry) (w n : Nat) : (h.bump e w n).out = h.out := rfl
@[simp] theorem Hub.bump_blob (h : Hub) (e : Entry) (w n : Nat) : (h.bump e w n).blob = h.blob := rfl
@[simp] theorem Hub.bump_regs (h : Hub) (e : Entry) (w n : Nat) : (h.bump e w n).regs = h.regs := rfl
@[simp] theorem Hub.bump_mem (h : Hub) (e : Entry) (w n : Nat) : (h.bump e w n).mem = h.mem := rfl
@[simp] theorem Hub.bump_kram (h : Hub) (e : Entry) (w n : Nat) : (h.bump e w n).kram = h.kram := rfl
@[simp] theorem Hub.bump_mode (h : Hub) (e : Entry) (w n : Nat) : (h.bump e w n).mode = h.mode := rfl
@[simp] theorem Hub.bump_ctl (h : Hub) (e : Entry) (w n : Nat) : (h.bump e w n).ctl = h.ctl := rfl
@[simp] theorem Hub.bump_evt (h : Hub) (e : Entry) (w n : Nat) : (h.bump e w n).evt = h.evt := rfl
@[simp] theorem Hub.bump_lanes (h : Hub) (e : Entry) (w n : Nat) : (h.bump e w n).lanes = h.lanes := rfl
@[simp] theorem Hub.bump_links (h : Hub) (e : Entry) (w n : Nat) : (h.bump e w n).links = h.links := rfl
@[simp] theorem Hub.bump_tun (h : Hub) (e : Entry) (w n : Nat) : (h.bump e w n).tun = h.tun := rfl
@[simp] theorem Hub.bump_plan (h : Hub) (e : Entry) (w n : Nat) : (h.bump e w n).plan = h.plan := rfl
@[simp] theorem Hub.bump_eng (h : Hub) (e : Entry) (w n : Nat) : (h.bump e w n).eng = h.eng := rfl
@[simp] theorem Hub.bump_sw (h : Hub) (e : Entry) (w n : Nat) : (h.bump e w n).sw = h.sw := rfl
@[simp] theorem Hub.bump_bcn (h : Hub) (e : Entry) (w n : Nat) : (h.bump e w n).bcn = h.bcn := rfl
@[simp] theorem Hub.bump_dm (h : Hub) (e : Entry) (w n : Nat) : (h.bump e w n).dm = h.dm := rfl
@[simp] theorem Hub.bump_io (h : Hub) (e : Entry) (w n : Nat) : (h.bump e w n).io = h.io := rfl
@[simp] theorem Hub.bump_vid (h : Hub) (e : Entry) (w n : Nat) : (h.bump e w n).vid = h.vid := rfl
@[simp] theorem Hub.bump_usb (h : Hub) (e : Entry) (w n : Nat) : (h.bump e w n).usb = h.usb := rfl
@[simp] theorem Hub.bump_hb (h : Hub) (e : Entry) (w n : Nat) : (h.bump e w n).hb = h.hb := rfl
@[simp] theorem Hub.bump_pair (h : Hub) (e : Entry) (w n : Nat) : (h.bump e w n).pair = h.pair := rfl
@[simp] theorem Hub.bump_moor (h : Hub) (e : Entry) (w n : Nat) : (h.bump e w n).moor = h.moor := rfl
@[simp] theorem Hub.bump_sec (h : Hub) (e : Entry) (w n : Nat) : (h.bump e w n).sec = h.sec := rfl
@[simp] theorem Hub.bump_pwr (h : Hub) (e : Entry) (w n : Nat) : (h.bump e w n).pwr = h.pwr := rfl
@[simp] theorem Hub.bump_obs (h : Hub) (e : Entry) (w n : Nat) : (h.bump e w n).obs = h.obs := rfl

/-! `Hub.count` writes nothing but `od`. -/

@[simp] theorem Hub.count_clock (h : Hub) (n k : Nat) : (h.count n k).clock = h.clock := rfl
@[simp] theorem Hub.count_draws (h : Hub) (n k : Nat) : (h.count n k).draws = h.draws := rfl
@[simp] theorem Hub.count_out (h : Hub) (n k : Nat) : (h.count n k).out = h.out := rfl
@[simp] theorem Hub.count_blob (h : Hub) (n k : Nat) : (h.count n k).blob = h.blob := rfl
@[simp] theorem Hub.count_regs (h : Hub) (n k : Nat) : (h.count n k).regs = h.regs := rfl
@[simp] theorem Hub.count_mem (h : Hub) (n k : Nat) : (h.count n k).mem = h.mem := rfl
@[simp] theorem Hub.count_kram (h : Hub) (n k : Nat) : (h.count n k).kram = h.kram := rfl
@[simp] theorem Hub.count_mode (h : Hub) (n k : Nat) : (h.count n k).mode = h.mode := rfl
@[simp] theorem Hub.count_ctl (h : Hub) (n k : Nat) : (h.count n k).ctl = h.ctl := rfl
@[simp] theorem Hub.count_evt (h : Hub) (n k : Nat) : (h.count n k).evt = h.evt := rfl
@[simp] theorem Hub.count_lanes (h : Hub) (n k : Nat) : (h.count n k).lanes = h.lanes := rfl
@[simp] theorem Hub.count_links (h : Hub) (n k : Nat) : (h.count n k).links = h.links := rfl
@[simp] theorem Hub.count_tun (h : Hub) (n k : Nat) : (h.count n k).tun = h.tun := rfl
@[simp] theorem Hub.count_plan (h : Hub) (n k : Nat) : (h.count n k).plan = h.plan := rfl
@[simp] theorem Hub.count_eng (h : Hub) (n k : Nat) : (h.count n k).eng = h.eng := rfl
@[simp] theorem Hub.count_sw (h : Hub) (n k : Nat) : (h.count n k).sw = h.sw := rfl
@[simp] theorem Hub.count_bcn (h : Hub) (n k : Nat) : (h.count n k).bcn = h.bcn := rfl
@[simp] theorem Hub.count_dm (h : Hub) (n k : Nat) : (h.count n k).dm = h.dm := rfl
@[simp] theorem Hub.count_io (h : Hub) (n k : Nat) : (h.count n k).io = h.io := rfl
@[simp] theorem Hub.count_vid (h : Hub) (n k : Nat) : (h.count n k).vid = h.vid := rfl
@[simp] theorem Hub.count_usb (h : Hub) (n k : Nat) : (h.count n k).usb = h.usb := rfl
@[simp] theorem Hub.count_hb (h : Hub) (n k : Nat) : (h.count n k).hb = h.hb := rfl
@[simp] theorem Hub.count_pair (h : Hub) (n k : Nat) : (h.count n k).pair = h.pair := rfl
@[simp] theorem Hub.count_moor (h : Hub) (n k : Nat) : (h.count n k).moor = h.moor := rfl
@[simp] theorem Hub.count_sec (h : Hub) (n k : Nat) : (h.count n k).sec = h.sec := rfl
@[simp] theorem Hub.count_pwr (h : Hub) (n k : Nat) : (h.count n k).pwr = h.pwr := rfl
@[simp] theorem Hub.count_obs (h : Hub) (n k : Nat) : (h.count n k).obs = h.obs := rfl

/-! `Hub.putBlob` writes nothing but `blob`. -/

@[simp] theorem Hub.putBlob_clock (h : Hub) (e : Entry) (v : Bytes) : (h.putBlob e v).clock = h.clock := rfl
@[simp] theorem Hub.putBlob_draws (h : Hub) (e : Entry) (v : Bytes) : (h.putBlob e v).draws = h.draws := rfl
@[simp] theorem Hub.putBlob_out (h : Hub) (e : Entry) (v : Bytes) : (h.putBlob e v).out = h.out := rfl
@[simp] theorem Hub.putBlob_od (h : Hub) (e : Entry) (v : Bytes) : (h.putBlob e v).od = h.od := rfl
@[simp] theorem Hub.putBlob_regs (h : Hub) (e : Entry) (v : Bytes) : (h.putBlob e v).regs = h.regs := rfl
@[simp] theorem Hub.putBlob_mem (h : Hub) (e : Entry) (v : Bytes) : (h.putBlob e v).mem = h.mem := rfl
@[simp] theorem Hub.putBlob_kram (h : Hub) (e : Entry) (v : Bytes) : (h.putBlob e v).kram = h.kram := rfl
@[simp] theorem Hub.putBlob_mode (h : Hub) (e : Entry) (v : Bytes) : (h.putBlob e v).mode = h.mode := rfl
@[simp] theorem Hub.putBlob_ctl (h : Hub) (e : Entry) (v : Bytes) : (h.putBlob e v).ctl = h.ctl := rfl
@[simp] theorem Hub.putBlob_evt (h : Hub) (e : Entry) (v : Bytes) : (h.putBlob e v).evt = h.evt := rfl
@[simp] theorem Hub.putBlob_lanes (h : Hub) (e : Entry) (v : Bytes) : (h.putBlob e v).lanes = h.lanes := rfl
@[simp] theorem Hub.putBlob_links (h : Hub) (e : Entry) (v : Bytes) : (h.putBlob e v).links = h.links := rfl
@[simp] theorem Hub.putBlob_tun (h : Hub) (e : Entry) (v : Bytes) : (h.putBlob e v).tun = h.tun := rfl
@[simp] theorem Hub.putBlob_plan (h : Hub) (e : Entry) (v : Bytes) : (h.putBlob e v).plan = h.plan := rfl
@[simp] theorem Hub.putBlob_eng (h : Hub) (e : Entry) (v : Bytes) : (h.putBlob e v).eng = h.eng := rfl
@[simp] theorem Hub.putBlob_sw (h : Hub) (e : Entry) (v : Bytes) : (h.putBlob e v).sw = h.sw := rfl
@[simp] theorem Hub.putBlob_bcn (h : Hub) (e : Entry) (v : Bytes) : (h.putBlob e v).bcn = h.bcn := rfl
@[simp] theorem Hub.putBlob_dm (h : Hub) (e : Entry) (v : Bytes) : (h.putBlob e v).dm = h.dm := rfl
@[simp] theorem Hub.putBlob_io (h : Hub) (e : Entry) (v : Bytes) : (h.putBlob e v).io = h.io := rfl
@[simp] theorem Hub.putBlob_vid (h : Hub) (e : Entry) (v : Bytes) : (h.putBlob e v).vid = h.vid := rfl
@[simp] theorem Hub.putBlob_usb (h : Hub) (e : Entry) (v : Bytes) : (h.putBlob e v).usb = h.usb := rfl
@[simp] theorem Hub.putBlob_hb (h : Hub) (e : Entry) (v : Bytes) : (h.putBlob e v).hb = h.hb := rfl
@[simp] theorem Hub.putBlob_pair (h : Hub) (e : Entry) (v : Bytes) : (h.putBlob e v).pair = h.pair := rfl
@[simp] theorem Hub.putBlob_moor (h : Hub) (e : Entry) (v : Bytes) : (h.putBlob e v).moor = h.moor := rfl
@[simp] theorem Hub.putBlob_sec (h : Hub) (e : Entry) (v : Bytes) : (h.putBlob e v).sec = h.sec := rfl
@[simp] theorem Hub.putBlob_pwr (h : Hub) (e : Entry) (v : Bytes) : (h.putBlob e v).pwr = h.pwr := rfl
@[simp] theorem Hub.putBlob_obs (h : Hub) (e : Entry) (v : Bytes) : (h.putBlob e v).obs = h.obs := rfl

/-! `Hub.putReg` writes nothing but `regs`. -/

@[simp] theorem Hub.putReg_clock (h : Hub) (e : Entry) (v : Nat) : (h.putReg e v).clock = h.clock := rfl
@[simp] theorem Hub.putReg_draws (h : Hub) (e : Entry) (v : Nat) : (h.putReg e v).draws = h.draws := rfl
@[simp] theorem Hub.putReg_out (h : Hub) (e : Entry) (v : Nat) : (h.putReg e v).out = h.out := rfl
@[simp] theorem Hub.putReg_od (h : Hub) (e : Entry) (v : Nat) : (h.putReg e v).od = h.od := rfl
@[simp] theorem Hub.putReg_blob (h : Hub) (e : Entry) (v : Nat) : (h.putReg e v).blob = h.blob := rfl
@[simp] theorem Hub.putReg_mem (h : Hub) (e : Entry) (v : Nat) : (h.putReg e v).mem = h.mem := rfl
@[simp] theorem Hub.putReg_kram (h : Hub) (e : Entry) (v : Nat) : (h.putReg e v).kram = h.kram := rfl
@[simp] theorem Hub.putReg_mode (h : Hub) (e : Entry) (v : Nat) : (h.putReg e v).mode = h.mode := rfl
@[simp] theorem Hub.putReg_ctl (h : Hub) (e : Entry) (v : Nat) : (h.putReg e v).ctl = h.ctl := rfl
@[simp] theorem Hub.putReg_evt (h : Hub) (e : Entry) (v : Nat) : (h.putReg e v).evt = h.evt := rfl
@[simp] theorem Hub.putReg_lanes (h : Hub) (e : Entry) (v : Nat) : (h.putReg e v).lanes = h.lanes := rfl
@[simp] theorem Hub.putReg_links (h : Hub) (e : Entry) (v : Nat) : (h.putReg e v).links = h.links := rfl
@[simp] theorem Hub.putReg_tun (h : Hub) (e : Entry) (v : Nat) : (h.putReg e v).tun = h.tun := rfl
@[simp] theorem Hub.putReg_plan (h : Hub) (e : Entry) (v : Nat) : (h.putReg e v).plan = h.plan := rfl
@[simp] theorem Hub.putReg_eng (h : Hub) (e : Entry) (v : Nat) : (h.putReg e v).eng = h.eng := rfl
@[simp] theorem Hub.putReg_sw (h : Hub) (e : Entry) (v : Nat) : (h.putReg e v).sw = h.sw := rfl
@[simp] theorem Hub.putReg_bcn (h : Hub) (e : Entry) (v : Nat) : (h.putReg e v).bcn = h.bcn := rfl
@[simp] theorem Hub.putReg_dm (h : Hub) (e : Entry) (v : Nat) : (h.putReg e v).dm = h.dm := rfl
@[simp] theorem Hub.putReg_io (h : Hub) (e : Entry) (v : Nat) : (h.putReg e v).io = h.io := rfl
@[simp] theorem Hub.putReg_vid (h : Hub) (e : Entry) (v : Nat) : (h.putReg e v).vid = h.vid := rfl
@[simp] theorem Hub.putReg_usb (h : Hub) (e : Entry) (v : Nat) : (h.putReg e v).usb = h.usb := rfl
@[simp] theorem Hub.putReg_hb (h : Hub) (e : Entry) (v : Nat) : (h.putReg e v).hb = h.hb := rfl
@[simp] theorem Hub.putReg_pair (h : Hub) (e : Entry) (v : Nat) : (h.putReg e v).pair = h.pair := rfl
@[simp] theorem Hub.putReg_moor (h : Hub) (e : Entry) (v : Nat) : (h.putReg e v).moor = h.moor := rfl
@[simp] theorem Hub.putReg_sec (h : Hub) (e : Entry) (v : Nat) : (h.putReg e v).sec = h.sec := rfl
@[simp] theorem Hub.putReg_pwr (h : Hub) (e : Entry) (v : Nat) : (h.putReg e v).pwr = h.pwr := rfl
@[simp] theorem Hub.putReg_obs (h : Hub) (e : Entry) (v : Nat) : (h.putReg e v).obs = h.obs := rfl

/-! `Hub.flag` writes nothing but `regs`. -/

@[simp] theorem Hub.flag_clock (h : Hub) (e : Entry) (n : Nat) : (h.flag e n).clock = h.clock := rfl
@[simp] theorem Hub.flag_draws (h : Hub) (e : Entry) (n : Nat) : (h.flag e n).draws = h.draws := rfl
@[simp] theorem Hub.flag_out (h : Hub) (e : Entry) (n : Nat) : (h.flag e n).out = h.out := rfl
@[simp] theorem Hub.flag_od (h : Hub) (e : Entry) (n : Nat) : (h.flag e n).od = h.od := rfl
@[simp] theorem Hub.flag_blob (h : Hub) (e : Entry) (n : Nat) : (h.flag e n).blob = h.blob := rfl
@[simp] theorem Hub.flag_mem (h : Hub) (e : Entry) (n : Nat) : (h.flag e n).mem = h.mem := rfl
@[simp] theorem Hub.flag_kram (h : Hub) (e : Entry) (n : Nat) : (h.flag e n).kram = h.kram := rfl
@[simp] theorem Hub.flag_mode (h : Hub) (e : Entry) (n : Nat) : (h.flag e n).mode = h.mode := rfl
@[simp] theorem Hub.flag_ctl (h : Hub) (e : Entry) (n : Nat) : (h.flag e n).ctl = h.ctl := rfl
@[simp] theorem Hub.flag_evt (h : Hub) (e : Entry) (n : Nat) : (h.flag e n).evt = h.evt := rfl
@[simp] theorem Hub.flag_lanes (h : Hub) (e : Entry) (n : Nat) : (h.flag e n).lanes = h.lanes := rfl
@[simp] theorem Hub.flag_links (h : Hub) (e : Entry) (n : Nat) : (h.flag e n).links = h.links := rfl
@[simp] theorem Hub.flag_tun (h : Hub) (e : Entry) (n : Nat) : (h.flag e n).tun = h.tun := rfl
@[simp] theorem Hub.flag_plan (h : Hub) (e : Entry) (n : Nat) : (h.flag e n).plan = h.plan := rfl
@[simp] theorem Hub.flag_eng (h : Hub) (e : Entry) (n : Nat) : (h.flag e n).eng = h.eng := rfl
@[simp] theorem Hub.flag_sw (h : Hub) (e : Entry) (n : Nat) : (h.flag e n).sw = h.sw := rfl
@[simp] theorem Hub.flag_bcn (h : Hub) (e : Entry) (n : Nat) : (h.flag e n).bcn = h.bcn := rfl
@[simp] theorem Hub.flag_dm (h : Hub) (e : Entry) (n : Nat) : (h.flag e n).dm = h.dm := rfl
@[simp] theorem Hub.flag_io (h : Hub) (e : Entry) (n : Nat) : (h.flag e n).io = h.io := rfl
@[simp] theorem Hub.flag_vid (h : Hub) (e : Entry) (n : Nat) : (h.flag e n).vid = h.vid := rfl
@[simp] theorem Hub.flag_usb (h : Hub) (e : Entry) (n : Nat) : (h.flag e n).usb = h.usb := rfl
@[simp] theorem Hub.flag_hb (h : Hub) (e : Entry) (n : Nat) : (h.flag e n).hb = h.hb := rfl
@[simp] theorem Hub.flag_pair (h : Hub) (e : Entry) (n : Nat) : (h.flag e n).pair = h.pair := rfl
@[simp] theorem Hub.flag_moor (h : Hub) (e : Entry) (n : Nat) : (h.flag e n).moor = h.moor := rfl
@[simp] theorem Hub.flag_sec (h : Hub) (e : Entry) (n : Nat) : (h.flag e n).sec = h.sec := rfl
@[simp] theorem Hub.flag_pwr (h : Hub) (e : Entry) (n : Nat) : (h.flag e n).pwr = h.pwr := rfl
@[simp] theorem Hub.flag_obs (h : Hub) (e : Entry) (n : Nat) : (h.flag e n).obs = h.obs := rfl

/-! `Hub.memWrite` writes nothing but `mem`. -/

@[simp] theorem Hub.memWrite_clock (h : Hub) (a : Nat) (b : Byte) : (h.memWrite a b).clock = h.clock := rfl
@[simp] theorem Hub.memWrite_draws (h : Hub) (a : Nat) (b : Byte) : (h.memWrite a b).draws = h.draws := rfl
@[simp] theorem Hub.memWrite_out (h : Hub) (a : Nat) (b : Byte) : (h.memWrite a b).out = h.out := rfl
@[simp] theorem Hub.memWrite_od (h : Hub) (a : Nat) (b : Byte) : (h.memWrite a b).od = h.od := rfl
@[simp] theorem Hub.memWrite_blob (h : Hub) (a : Nat) (b : Byte) : (h.memWrite a b).blob = h.blob := rfl
@[simp] theorem Hub.memWrite_regs (h : Hub) (a : Nat) (b : Byte) : (h.memWrite a b).regs = h.regs := rfl
@[simp] theorem Hub.memWrite_kram (h : Hub) (a : Nat) (b : Byte) : (h.memWrite a b).kram = h.kram := rfl
@[simp] theorem Hub.memWrite_mode (h : Hub) (a : Nat) (b : Byte) : (h.memWrite a b).mode = h.mode := rfl
@[simp] theorem Hub.memWrite_ctl (h : Hub) (a : Nat) (b : Byte) : (h.memWrite a b).ctl = h.ctl := rfl
@[simp] theorem Hub.memWrite_evt (h : Hub) (a : Nat) (b : Byte) : (h.memWrite a b).evt = h.evt := rfl
@[simp] theorem Hub.memWrite_lanes (h : Hub) (a : Nat) (b : Byte) : (h.memWrite a b).lanes = h.lanes := rfl
@[simp] theorem Hub.memWrite_links (h : Hub) (a : Nat) (b : Byte) : (h.memWrite a b).links = h.links := rfl
@[simp] theorem Hub.memWrite_tun (h : Hub) (a : Nat) (b : Byte) : (h.memWrite a b).tun = h.tun := rfl
@[simp] theorem Hub.memWrite_plan (h : Hub) (a : Nat) (b : Byte) : (h.memWrite a b).plan = h.plan := rfl
@[simp] theorem Hub.memWrite_eng (h : Hub) (a : Nat) (b : Byte) : (h.memWrite a b).eng = h.eng := rfl
@[simp] theorem Hub.memWrite_sw (h : Hub) (a : Nat) (b : Byte) : (h.memWrite a b).sw = h.sw := rfl
@[simp] theorem Hub.memWrite_bcn (h : Hub) (a : Nat) (b : Byte) : (h.memWrite a b).bcn = h.bcn := rfl
@[simp] theorem Hub.memWrite_dm (h : Hub) (a : Nat) (b : Byte) : (h.memWrite a b).dm = h.dm := rfl
@[simp] theorem Hub.memWrite_io (h : Hub) (a : Nat) (b : Byte) : (h.memWrite a b).io = h.io := rfl
@[simp] theorem Hub.memWrite_vid (h : Hub) (a : Nat) (b : Byte) : (h.memWrite a b).vid = h.vid := rfl
@[simp] theorem Hub.memWrite_usb (h : Hub) (a : Nat) (b : Byte) : (h.memWrite a b).usb = h.usb := rfl
@[simp] theorem Hub.memWrite_hb (h : Hub) (a : Nat) (b : Byte) : (h.memWrite a b).hb = h.hb := rfl
@[simp] theorem Hub.memWrite_pair (h : Hub) (a : Nat) (b : Byte) : (h.memWrite a b).pair = h.pair := rfl
@[simp] theorem Hub.memWrite_moor (h : Hub) (a : Nat) (b : Byte) : (h.memWrite a b).moor = h.moor := rfl
@[simp] theorem Hub.memWrite_sec (h : Hub) (a : Nat) (b : Byte) : (h.memWrite a b).sec = h.sec := rfl
@[simp] theorem Hub.memWrite_pwr (h : Hub) (a : Nat) (b : Byte) : (h.memWrite a b).pwr = h.pwr := rfl
@[simp] theorem Hub.memWrite_obs (h : Hub) (a : Nat) (b : Byte) : (h.memWrite a b).obs = h.obs := rfl

/-! `Hub.setChan` writes nothing but `ctl`. -/

@[simp] theorem Hub.setChan_clock (h : Hub) (c : Nat) (x : Channel) : (h.setChan c x).clock = h.clock := rfl
@[simp] theorem Hub.setChan_draws (h : Hub) (c : Nat) (x : Channel) : (h.setChan c x).draws = h.draws := rfl
@[simp] theorem Hub.setChan_out (h : Hub) (c : Nat) (x : Channel) : (h.setChan c x).out = h.out := rfl
@[simp] theorem Hub.setChan_od (h : Hub) (c : Nat) (x : Channel) : (h.setChan c x).od = h.od := rfl
@[simp] theorem Hub.setChan_blob (h : Hub) (c : Nat) (x : Channel) : (h.setChan c x).blob = h.blob := rfl
@[simp] theorem Hub.setChan_regs (h : Hub) (c : Nat) (x : Channel) : (h.setChan c x).regs = h.regs := rfl
@[simp] theorem Hub.setChan_mem (h : Hub) (c : Nat) (x : Channel) : (h.setChan c x).mem = h.mem := rfl
@[simp] theorem Hub.setChan_kram (h : Hub) (c : Nat) (x : Channel) : (h.setChan c x).kram = h.kram := rfl
@[simp] theorem Hub.setChan_mode (h : Hub) (c : Nat) (x : Channel) : (h.setChan c x).mode = h.mode := rfl
@[simp] theorem Hub.setChan_evt (h : Hub) (c : Nat) (x : Channel) : (h.setChan c x).evt = h.evt := rfl
@[simp] theorem Hub.setChan_lanes (h : Hub) (c : Nat) (x : Channel) : (h.setChan c x).lanes = h.lanes := rfl
@[simp] theorem Hub.setChan_links (h : Hub) (c : Nat) (x : Channel) : (h.setChan c x).links = h.links := rfl
@[simp] theorem Hub.setChan_tun (h : Hub) (c : Nat) (x : Channel) : (h.setChan c x).tun = h.tun := rfl
@[simp] theorem Hub.setChan_plan (h : Hub) (c : Nat) (x : Channel) : (h.setChan c x).plan = h.plan := rfl
@[simp] theorem Hub.setChan_eng (h : Hub) (c : Nat) (x : Channel) : (h.setChan c x).eng = h.eng := rfl
@[simp] theorem Hub.setChan_sw (h : Hub) (c : Nat) (x : Channel) : (h.setChan c x).sw = h.sw := rfl
@[simp] theorem Hub.setChan_bcn (h : Hub) (c : Nat) (x : Channel) : (h.setChan c x).bcn = h.bcn := rfl
@[simp] theorem Hub.setChan_dm (h : Hub) (c : Nat) (x : Channel) : (h.setChan c x).dm = h.dm := rfl
@[simp] theorem Hub.setChan_io (h : Hub) (c : Nat) (x : Channel) : (h.setChan c x).io = h.io := rfl
@[simp] theorem Hub.setChan_vid (h : Hub) (c : Nat) (x : Channel) : (h.setChan c x).vid = h.vid := rfl
@[simp] theorem Hub.setChan_usb (h : Hub) (c : Nat) (x : Channel) : (h.setChan c x).usb = h.usb := rfl
@[simp] theorem Hub.setChan_hb (h : Hub) (c : Nat) (x : Channel) : (h.setChan c x).hb = h.hb := rfl
@[simp] theorem Hub.setChan_pair (h : Hub) (c : Nat) (x : Channel) : (h.setChan c x).pair = h.pair := rfl
@[simp] theorem Hub.setChan_moor (h : Hub) (c : Nat) (x : Channel) : (h.setChan c x).moor = h.moor := rfl
@[simp] theorem Hub.setChan_sec (h : Hub) (c : Nat) (x : Channel) : (h.setChan c x).sec = h.sec := rfl
@[simp] theorem Hub.setChan_pwr (h : Hub) (c : Nat) (x : Channel) : (h.setChan c x).pwr = h.pwr := rfl
@[simp] theorem Hub.setChan_obs (h : Hub) (c : Nat) (x : Channel) : (h.setChan c x).obs = h.obs := rfl

/-! `Hub.accept` writes nothing but `ctl`. -/

@[simp] theorem Hub.accept_clock (h : Hub) (c code tag : Nat) (b : Bytes) : (h.accept c code tag b).clock = h.clock := rfl
@[simp] theorem Hub.accept_draws (h : Hub) (c code tag : Nat) (b : Bytes) : (h.accept c code tag b).draws = h.draws := rfl
@[simp] theorem Hub.accept_out (h : Hub) (c code tag : Nat) (b : Bytes) : (h.accept c code tag b).out = h.out := rfl
@[simp] theorem Hub.accept_od (h : Hub) (c code tag : Nat) (b : Bytes) : (h.accept c code tag b).od = h.od := rfl
@[simp] theorem Hub.accept_blob (h : Hub) (c code tag : Nat) (b : Bytes) : (h.accept c code tag b).blob = h.blob := rfl
@[simp] theorem Hub.accept_regs (h : Hub) (c code tag : Nat) (b : Bytes) : (h.accept c code tag b).regs = h.regs := rfl
@[simp] theorem Hub.accept_mem (h : Hub) (c code tag : Nat) (b : Bytes) : (h.accept c code tag b).mem = h.mem := rfl
@[simp] theorem Hub.accept_kram (h : Hub) (c code tag : Nat) (b : Bytes) : (h.accept c code tag b).kram = h.kram := rfl
@[simp] theorem Hub.accept_mode (h : Hub) (c code tag : Nat) (b : Bytes) : (h.accept c code tag b).mode = h.mode := rfl
@[simp] theorem Hub.accept_evt (h : Hub) (c code tag : Nat) (b : Bytes) : (h.accept c code tag b).evt = h.evt := rfl
@[simp] theorem Hub.accept_lanes (h : Hub) (c code tag : Nat) (b : Bytes) : (h.accept c code tag b).lanes = h.lanes := rfl
@[simp] theorem Hub.accept_links (h : Hub) (c code tag : Nat) (b : Bytes) : (h.accept c code tag b).links = h.links := rfl
@[simp] theorem Hub.accept_tun (h : Hub) (c code tag : Nat) (b : Bytes) : (h.accept c code tag b).tun = h.tun := rfl
@[simp] theorem Hub.accept_plan (h : Hub) (c code tag : Nat) (b : Bytes) : (h.accept c code tag b).plan = h.plan := rfl
@[simp] theorem Hub.accept_eng (h : Hub) (c code tag : Nat) (b : Bytes) : (h.accept c code tag b).eng = h.eng := rfl
@[simp] theorem Hub.accept_sw (h : Hub) (c code tag : Nat) (b : Bytes) : (h.accept c code tag b).sw = h.sw := rfl
@[simp] theorem Hub.accept_bcn (h : Hub) (c code tag : Nat) (b : Bytes) : (h.accept c code tag b).bcn = h.bcn := rfl
@[simp] theorem Hub.accept_dm (h : Hub) (c code tag : Nat) (b : Bytes) : (h.accept c code tag b).dm = h.dm := rfl
@[simp] theorem Hub.accept_io (h : Hub) (c code tag : Nat) (b : Bytes) : (h.accept c code tag b).io = h.io := rfl
@[simp] theorem Hub.accept_vid (h : Hub) (c code tag : Nat) (b : Bytes) : (h.accept c code tag b).vid = h.vid := rfl
@[simp] theorem Hub.accept_usb (h : Hub) (c code tag : Nat) (b : Bytes) : (h.accept c code tag b).usb = h.usb := rfl
@[simp] theorem Hub.accept_hb (h : Hub) (c code tag : Nat) (b : Bytes) : (h.accept c code tag b).hb = h.hb := rfl
@[simp] theorem Hub.accept_pair (h : Hub) (c code tag : Nat) (b : Bytes) : (h.accept c code tag b).pair = h.pair := rfl
@[simp] theorem Hub.accept_moor (h : Hub) (c code tag : Nat) (b : Bytes) : (h.accept c code tag b).moor = h.moor := rfl
@[simp] theorem Hub.accept_sec (h : Hub) (c code tag : Nat) (b : Bytes) : (h.accept c code tag b).sec = h.sec := rfl
@[simp] theorem Hub.accept_pwr (h : Hub) (c code tag : Nat) (b : Bytes) : (h.accept c code tag b).pwr = h.pwr := rfl
@[simp] theorem Hub.accept_obs (h : Hub) (c code tag : Nat) (b : Bytes) : (h.accept c code tag b).obs = h.obs := rfl

/-! `Hub.setRing` writes nothing but `evt`. -/

@[simp] theorem Hub.setRing_clock (h : Hub) (r : Nat) (x : Ring) : (h.setRing r x).clock = h.clock := rfl
@[simp] theorem Hub.setRing_draws (h : Hub) (r : Nat) (x : Ring) : (h.setRing r x).draws = h.draws := rfl
@[simp] theorem Hub.setRing_out (h : Hub) (r : Nat) (x : Ring) : (h.setRing r x).out = h.out := rfl
@[simp] theorem Hub.setRing_od (h : Hub) (r : Nat) (x : Ring) : (h.setRing r x).od = h.od := rfl
@[simp] theorem Hub.setRing_blob (h : Hub) (r : Nat) (x : Ring) : (h.setRing r x).blob = h.blob := rfl
@[simp] theorem Hub.setRing_regs (h : Hub) (r : Nat) (x : Ring) : (h.setRing r x).regs = h.regs := rfl
@[simp] theorem Hub.setRing_mem (h : Hub) (r : Nat) (x : Ring) : (h.setRing r x).mem = h.mem := rfl
@[simp] theorem Hub.setRing_kram (h : Hub) (r : Nat) (x : Ring) : (h.setRing r x).kram = h.kram := rfl
@[simp] theorem Hub.setRing_mode (h : Hub) (r : Nat) (x : Ring) : (h.setRing r x).mode = h.mode := rfl
@[simp] theorem Hub.setRing_ctl (h : Hub) (r : Nat) (x : Ring) : (h.setRing r x).ctl = h.ctl := rfl
@[simp] theorem Hub.setRing_lanes (h : Hub) (r : Nat) (x : Ring) : (h.setRing r x).lanes = h.lanes := rfl
@[simp] theorem Hub.setRing_links (h : Hub) (r : Nat) (x : Ring) : (h.setRing r x).links = h.links := rfl
@[simp] theorem Hub.setRing_tun (h : Hub) (r : Nat) (x : Ring) : (h.setRing r x).tun = h.tun := rfl
@[simp] theorem Hub.setRing_plan (h : Hub) (r : Nat) (x : Ring) : (h.setRing r x).plan = h.plan := rfl
@[simp] theorem Hub.setRing_eng (h : Hub) (r : Nat) (x : Ring) : (h.setRing r x).eng = h.eng := rfl
@[simp] theorem Hub.setRing_sw (h : Hub) (r : Nat) (x : Ring) : (h.setRing r x).sw = h.sw := rfl
@[simp] theorem Hub.setRing_bcn (h : Hub) (r : Nat) (x : Ring) : (h.setRing r x).bcn = h.bcn := rfl
@[simp] theorem Hub.setRing_dm (h : Hub) (r : Nat) (x : Ring) : (h.setRing r x).dm = h.dm := rfl
@[simp] theorem Hub.setRing_io (h : Hub) (r : Nat) (x : Ring) : (h.setRing r x).io = h.io := rfl
@[simp] theorem Hub.setRing_vid (h : Hub) (r : Nat) (x : Ring) : (h.setRing r x).vid = h.vid := rfl
@[simp] theorem Hub.setRing_usb (h : Hub) (r : Nat) (x : Ring) : (h.setRing r x).usb = h.usb := rfl
@[simp] theorem Hub.setRing_hb (h : Hub) (r : Nat) (x : Ring) : (h.setRing r x).hb = h.hb := rfl
@[simp] theorem Hub.setRing_pair (h : Hub) (r : Nat) (x : Ring) : (h.setRing r x).pair = h.pair := rfl
@[simp] theorem Hub.setRing_moor (h : Hub) (r : Nat) (x : Ring) : (h.setRing r x).moor = h.moor := rfl
@[simp] theorem Hub.setRing_sec (h : Hub) (r : Nat) (x : Ring) : (h.setRing r x).sec = h.sec := rfl
@[simp] theorem Hub.setRing_pwr (h : Hub) (r : Nat) (x : Ring) : (h.setRing r x).pwr = h.pwr := rfl
@[simp] theorem Hub.setRing_obs (h : Hub) (r : Nat) (x : Ring) : (h.setRing r x).obs = h.obs := rfl

/-! `Hub.setDomain` writes nothing but `pwr`. -/

@[simp] theorem Hub.setDomain_clock (h : Hub) (d : Nat) (x : DomSt) : (h.setDomain d x).clock = h.clock := rfl
@[simp] theorem Hub.setDomain_draws (h : Hub) (d : Nat) (x : DomSt) : (h.setDomain d x).draws = h.draws := rfl
@[simp] theorem Hub.setDomain_out (h : Hub) (d : Nat) (x : DomSt) : (h.setDomain d x).out = h.out := rfl
@[simp] theorem Hub.setDomain_od (h : Hub) (d : Nat) (x : DomSt) : (h.setDomain d x).od = h.od := rfl
@[simp] theorem Hub.setDomain_blob (h : Hub) (d : Nat) (x : DomSt) : (h.setDomain d x).blob = h.blob := rfl
@[simp] theorem Hub.setDomain_regs (h : Hub) (d : Nat) (x : DomSt) : (h.setDomain d x).regs = h.regs := rfl
@[simp] theorem Hub.setDomain_mem (h : Hub) (d : Nat) (x : DomSt) : (h.setDomain d x).mem = h.mem := rfl
@[simp] theorem Hub.setDomain_kram (h : Hub) (d : Nat) (x : DomSt) : (h.setDomain d x).kram = h.kram := rfl
@[simp] theorem Hub.setDomain_mode (h : Hub) (d : Nat) (x : DomSt) : (h.setDomain d x).mode = h.mode := rfl
@[simp] theorem Hub.setDomain_ctl (h : Hub) (d : Nat) (x : DomSt) : (h.setDomain d x).ctl = h.ctl := rfl
@[simp] theorem Hub.setDomain_evt (h : Hub) (d : Nat) (x : DomSt) : (h.setDomain d x).evt = h.evt := rfl
@[simp] theorem Hub.setDomain_lanes (h : Hub) (d : Nat) (x : DomSt) : (h.setDomain d x).lanes = h.lanes := rfl
@[simp] theorem Hub.setDomain_links (h : Hub) (d : Nat) (x : DomSt) : (h.setDomain d x).links = h.links := rfl
@[simp] theorem Hub.setDomain_tun (h : Hub) (d : Nat) (x : DomSt) : (h.setDomain d x).tun = h.tun := rfl
@[simp] theorem Hub.setDomain_plan (h : Hub) (d : Nat) (x : DomSt) : (h.setDomain d x).plan = h.plan := rfl
@[simp] theorem Hub.setDomain_eng (h : Hub) (d : Nat) (x : DomSt) : (h.setDomain d x).eng = h.eng := rfl
@[simp] theorem Hub.setDomain_sw (h : Hub) (d : Nat) (x : DomSt) : (h.setDomain d x).sw = h.sw := rfl
@[simp] theorem Hub.setDomain_bcn (h : Hub) (d : Nat) (x : DomSt) : (h.setDomain d x).bcn = h.bcn := rfl
@[simp] theorem Hub.setDomain_dm (h : Hub) (d : Nat) (x : DomSt) : (h.setDomain d x).dm = h.dm := rfl
@[simp] theorem Hub.setDomain_io (h : Hub) (d : Nat) (x : DomSt) : (h.setDomain d x).io = h.io := rfl
@[simp] theorem Hub.setDomain_vid (h : Hub) (d : Nat) (x : DomSt) : (h.setDomain d x).vid = h.vid := rfl
@[simp] theorem Hub.setDomain_usb (h : Hub) (d : Nat) (x : DomSt) : (h.setDomain d x).usb = h.usb := rfl
@[simp] theorem Hub.setDomain_hb (h : Hub) (d : Nat) (x : DomSt) : (h.setDomain d x).hb = h.hb := rfl
@[simp] theorem Hub.setDomain_pair (h : Hub) (d : Nat) (x : DomSt) : (h.setDomain d x).pair = h.pair := rfl
@[simp] theorem Hub.setDomain_moor (h : Hub) (d : Nat) (x : DomSt) : (h.setDomain d x).moor = h.moor := rfl
@[simp] theorem Hub.setDomain_sec (h : Hub) (d : Nat) (x : DomSt) : (h.setDomain d x).sec = h.sec := rfl
@[simp] theorem Hub.setDomain_obs (h : Hub) (d : Nat) (x : DomSt) : (h.setDomain d x).obs = h.obs := rfl

/-! `Hub.setLink` writes nothing but `links`. -/

@[simp] theorem Hub.setLink_clock (h : Hub) (p : Nat) (x : LinkSt) : (h.setLink p x).clock = h.clock := rfl
@[simp] theorem Hub.setLink_draws (h : Hub) (p : Nat) (x : LinkSt) : (h.setLink p x).draws = h.draws := rfl
@[simp] theorem Hub.setLink_out (h : Hub) (p : Nat) (x : LinkSt) : (h.setLink p x).out = h.out := rfl
@[simp] theorem Hub.setLink_od (h : Hub) (p : Nat) (x : LinkSt) : (h.setLink p x).od = h.od := rfl
@[simp] theorem Hub.setLink_blob (h : Hub) (p : Nat) (x : LinkSt) : (h.setLink p x).blob = h.blob := rfl
@[simp] theorem Hub.setLink_regs (h : Hub) (p : Nat) (x : LinkSt) : (h.setLink p x).regs = h.regs := rfl
@[simp] theorem Hub.setLink_mem (h : Hub) (p : Nat) (x : LinkSt) : (h.setLink p x).mem = h.mem := rfl
@[simp] theorem Hub.setLink_kram (h : Hub) (p : Nat) (x : LinkSt) : (h.setLink p x).kram = h.kram := rfl
@[simp] theorem Hub.setLink_mode (h : Hub) (p : Nat) (x : LinkSt) : (h.setLink p x).mode = h.mode := rfl
@[simp] theorem Hub.setLink_ctl (h : Hub) (p : Nat) (x : LinkSt) : (h.setLink p x).ctl = h.ctl := rfl
@[simp] theorem Hub.setLink_evt (h : Hub) (p : Nat) (x : LinkSt) : (h.setLink p x).evt = h.evt := rfl
@[simp] theorem Hub.setLink_lanes (h : Hub) (p : Nat) (x : LinkSt) : (h.setLink p x).lanes = h.lanes := rfl
@[simp] theorem Hub.setLink_tun (h : Hub) (p : Nat) (x : LinkSt) : (h.setLink p x).tun = h.tun := rfl
@[simp] theorem Hub.setLink_plan (h : Hub) (p : Nat) (x : LinkSt) : (h.setLink p x).plan = h.plan := rfl
@[simp] theorem Hub.setLink_eng (h : Hub) (p : Nat) (x : LinkSt) : (h.setLink p x).eng = h.eng := rfl
@[simp] theorem Hub.setLink_sw (h : Hub) (p : Nat) (x : LinkSt) : (h.setLink p x).sw = h.sw := rfl
@[simp] theorem Hub.setLink_bcn (h : Hub) (p : Nat) (x : LinkSt) : (h.setLink p x).bcn = h.bcn := rfl
@[simp] theorem Hub.setLink_dm (h : Hub) (p : Nat) (x : LinkSt) : (h.setLink p x).dm = h.dm := rfl
@[simp] theorem Hub.setLink_io (h : Hub) (p : Nat) (x : LinkSt) : (h.setLink p x).io = h.io := rfl
@[simp] theorem Hub.setLink_vid (h : Hub) (p : Nat) (x : LinkSt) : (h.setLink p x).vid = h.vid := rfl
@[simp] theorem Hub.setLink_usb (h : Hub) (p : Nat) (x : LinkSt) : (h.setLink p x).usb = h.usb := rfl
@[simp] theorem Hub.setLink_hb (h : Hub) (p : Nat) (x : LinkSt) : (h.setLink p x).hb = h.hb := rfl
@[simp] theorem Hub.setLink_pair (h : Hub) (p : Nat) (x : LinkSt) : (h.setLink p x).pair = h.pair := rfl
@[simp] theorem Hub.setLink_moor (h : Hub) (p : Nat) (x : LinkSt) : (h.setLink p x).moor = h.moor := rfl
@[simp] theorem Hub.setLink_sec (h : Hub) (p : Nat) (x : LinkSt) : (h.setLink p x).sec = h.sec := rfl
@[simp] theorem Hub.setLink_pwr (h : Hub) (p : Nat) (x : LinkSt) : (h.setLink p x).pwr = h.pwr := rfl
@[simp] theorem Hub.setLink_obs (h : Hub) (p : Nat) (x : LinkSt) : (h.setLink p x).obs = h.obs := rfl

/-! `Hub.setCan` writes nothing but `io`. -/

@[simp] theorem Hub.setCan_clock (h : Hub) (n : Nat) (x : CanSt) : (h.setCan n x).clock = h.clock := rfl
@[simp] theorem Hub.setCan_draws (h : Hub) (n : Nat) (x : CanSt) : (h.setCan n x).draws = h.draws := rfl
@[simp] theorem Hub.setCan_out (h : Hub) (n : Nat) (x : CanSt) : (h.setCan n x).out = h.out := rfl
@[simp] theorem Hub.setCan_od (h : Hub) (n : Nat) (x : CanSt) : (h.setCan n x).od = h.od := rfl
@[simp] theorem Hub.setCan_blob (h : Hub) (n : Nat) (x : CanSt) : (h.setCan n x).blob = h.blob := rfl
@[simp] theorem Hub.setCan_regs (h : Hub) (n : Nat) (x : CanSt) : (h.setCan n x).regs = h.regs := rfl
@[simp] theorem Hub.setCan_mem (h : Hub) (n : Nat) (x : CanSt) : (h.setCan n x).mem = h.mem := rfl
@[simp] theorem Hub.setCan_kram (h : Hub) (n : Nat) (x : CanSt) : (h.setCan n x).kram = h.kram := rfl
@[simp] theorem Hub.setCan_mode (h : Hub) (n : Nat) (x : CanSt) : (h.setCan n x).mode = h.mode := rfl
@[simp] theorem Hub.setCan_ctl (h : Hub) (n : Nat) (x : CanSt) : (h.setCan n x).ctl = h.ctl := rfl
@[simp] theorem Hub.setCan_evt (h : Hub) (n : Nat) (x : CanSt) : (h.setCan n x).evt = h.evt := rfl
@[simp] theorem Hub.setCan_lanes (h : Hub) (n : Nat) (x : CanSt) : (h.setCan n x).lanes = h.lanes := rfl
@[simp] theorem Hub.setCan_links (h : Hub) (n : Nat) (x : CanSt) : (h.setCan n x).links = h.links := rfl
@[simp] theorem Hub.setCan_tun (h : Hub) (n : Nat) (x : CanSt) : (h.setCan n x).tun = h.tun := rfl
@[simp] theorem Hub.setCan_plan (h : Hub) (n : Nat) (x : CanSt) : (h.setCan n x).plan = h.plan := rfl
@[simp] theorem Hub.setCan_eng (h : Hub) (n : Nat) (x : CanSt) : (h.setCan n x).eng = h.eng := rfl
@[simp] theorem Hub.setCan_sw (h : Hub) (n : Nat) (x : CanSt) : (h.setCan n x).sw = h.sw := rfl
@[simp] theorem Hub.setCan_bcn (h : Hub) (n : Nat) (x : CanSt) : (h.setCan n x).bcn = h.bcn := rfl
@[simp] theorem Hub.setCan_dm (h : Hub) (n : Nat) (x : CanSt) : (h.setCan n x).dm = h.dm := rfl
@[simp] theorem Hub.setCan_vid (h : Hub) (n : Nat) (x : CanSt) : (h.setCan n x).vid = h.vid := rfl
@[simp] theorem Hub.setCan_usb (h : Hub) (n : Nat) (x : CanSt) : (h.setCan n x).usb = h.usb := rfl
@[simp] theorem Hub.setCan_hb (h : Hub) (n : Nat) (x : CanSt) : (h.setCan n x).hb = h.hb := rfl
@[simp] theorem Hub.setCan_pair (h : Hub) (n : Nat) (x : CanSt) : (h.setCan n x).pair = h.pair := rfl
@[simp] theorem Hub.setCan_moor (h : Hub) (n : Nat) (x : CanSt) : (h.setCan n x).moor = h.moor := rfl
@[simp] theorem Hub.setCan_sec (h : Hub) (n : Nat) (x : CanSt) : (h.setCan n x).sec = h.sec := rfl
@[simp] theorem Hub.setCan_pwr (h : Hub) (n : Nat) (x : CanSt) : (h.setCan n x).pwr = h.pwr := rfl
@[simp] theorem Hub.setCan_obs (h : Hub) (n : Nat) (x : CanSt) : (h.setCan n x).obs = h.obs := rfl

/-! `Hub.settle` writes nothing but `out`, `mode`, `evt`. -/

@[simp] theorem Hub.settle_clock (h : Hub) : (h.settle).clock = h.clock := rfl
@[simp] theorem Hub.settle_draws (h : Hub) : (h.settle).draws = h.draws := rfl
@[simp] theorem Hub.settle_od (h : Hub) : (h.settle).od = h.od := rfl
@[simp] theorem Hub.settle_blob (h : Hub) : (h.settle).blob = h.blob := rfl
@[simp] theorem Hub.settle_regs (h : Hub) : (h.settle).regs = h.regs := rfl
@[simp] theorem Hub.settle_mem (h : Hub) : (h.settle).mem = h.mem := rfl
@[simp] theorem Hub.settle_kram (h : Hub) : (h.settle).kram = h.kram := rfl
@[simp] theorem Hub.settle_ctl (h : Hub) : (h.settle).ctl = h.ctl := rfl
@[simp] theorem Hub.settle_lanes (h : Hub) : (h.settle).lanes = h.lanes := rfl
@[simp] theorem Hub.settle_links (h : Hub) : (h.settle).links = h.links := rfl
@[simp] theorem Hub.settle_tun (h : Hub) : (h.settle).tun = h.tun := rfl
@[simp] theorem Hub.settle_plan (h : Hub) : (h.settle).plan = h.plan := rfl
@[simp] theorem Hub.settle_eng (h : Hub) : (h.settle).eng = h.eng := rfl
@[simp] theorem Hub.settle_sw (h : Hub) : (h.settle).sw = h.sw := rfl
@[simp] theorem Hub.settle_bcn (h : Hub) : (h.settle).bcn = h.bcn := rfl
@[simp] theorem Hub.settle_dm (h : Hub) : (h.settle).dm = h.dm := rfl
@[simp] theorem Hub.settle_io (h : Hub) : (h.settle).io = h.io := rfl
@[simp] theorem Hub.settle_vid (h : Hub) : (h.settle).vid = h.vid := rfl
@[simp] theorem Hub.settle_usb (h : Hub) : (h.settle).usb = h.usb := rfl
@[simp] theorem Hub.settle_hb (h : Hub) : (h.settle).hb = h.hb := rfl
@[simp] theorem Hub.settle_pair (h : Hub) : (h.settle).pair = h.pair := rfl
@[simp] theorem Hub.settle_moor (h : Hub) : (h.settle).moor = h.moor := rfl
@[simp] theorem Hub.settle_sec (h : Hub) : (h.settle).sec = h.sec := rfl
@[simp] theorem Hub.settle_pwr (h : Hub) : (h.settle).pwr = h.pwr := rfl
@[simp] theorem Hub.settle_obs (h : Hub) : (h.settle).obs = h.obs := rfl

/-- Counting a selected item writes dictionary values only. -/
theorem countSelected_frame (want k : Nat) (l : List (Nat × Nat)) (h : Hub) :
    countSelected want k l h = { h with od := (countSelected want k l h).od } := by
  induction l generalizing h with
  | nil => rfl
  | cons c t ih =>
    show countSelected want k t _ = { h with od := (countSelected want k t _).od }
    rw [ih]
    split <;> rfl

/-! `Hub.tally` writes nothing but `od`. -/

@[simp] theorem Hub.tally_clock (h : Hub) (a b k : Nat) : (h.tally a b k).clock = h.clock := by
  unfold Hub.tally; rw [countSelected_frame]
@[simp] theorem Hub.tally_draws (h : Hub) (a b k : Nat) : (h.tally a b k).draws = h.draws := by
  unfold Hub.tally; rw [countSelected_frame]
@[simp] theorem Hub.tally_out (h : Hub) (a b k : Nat) : (h.tally a b k).out = h.out := by
  unfold Hub.tally; rw [countSelected_frame]
@[simp] theorem Hub.tally_blob (h : Hub) (a b k : Nat) : (h.tally a b k).blob = h.blob := by
  unfold Hub.tally; rw [countSelected_frame]
@[simp] theorem Hub.tally_regs (h : Hub) (a b k : Nat) : (h.tally a b k).regs = h.regs := by
  unfold Hub.tally; rw [countSelected_frame]
@[simp] theorem Hub.tally_mem (h : Hub) (a b k : Nat) : (h.tally a b k).mem = h.mem := by
  unfold Hub.tally; rw [countSelected_frame]
@[simp] theorem Hub.tally_kram (h : Hub) (a b k : Nat) : (h.tally a b k).kram = h.kram := by
  unfold Hub.tally; rw [countSelected_frame]
@[simp] theorem Hub.tally_mode (h : Hub) (a b k : Nat) : (h.tally a b k).mode = h.mode := by
  unfold Hub.tally; rw [countSelected_frame]
@[simp] theorem Hub.tally_ctl (h : Hub) (a b k : Nat) : (h.tally a b k).ctl = h.ctl := by
  unfold Hub.tally; rw [countSelected_frame]
@[simp] theorem Hub.tally_evt (h : Hub) (a b k : Nat) : (h.tally a b k).evt = h.evt := by
  unfold Hub.tally; rw [countSelected_frame]
@[simp] theorem Hub.tally_lanes (h : Hub) (a b k : Nat) : (h.tally a b k).lanes = h.lanes := by
  unfold Hub.tally; rw [countSelected_frame]
@[simp] theorem Hub.tally_links (h : Hub) (a b k : Nat) : (h.tally a b k).links = h.links := by
  unfold Hub.tally; rw [countSelected_frame]
@[simp] theorem Hub.tally_tun (h : Hub) (a b k : Nat) : (h.tally a b k).tun = h.tun := by
  unfold Hub.tally; rw [countSelected_frame]
@[simp] theorem Hub.tally_plan (h : Hub) (a b k : Nat) : (h.tally a b k).plan = h.plan := by
  unfold Hub.tally; rw [countSelected_frame]
@[simp] theorem Hub.tally_eng (h : Hub) (a b k : Nat) : (h.tally a b k).eng = h.eng := by
  unfold Hub.tally; rw [countSelected_frame]
@[simp] theorem Hub.tally_sw (h : Hub) (a b k : Nat) : (h.tally a b k).sw = h.sw := by
  unfold Hub.tally; rw [countSelected_frame]
@[simp] theorem Hub.tally_bcn (h : Hub) (a b k : Nat) : (h.tally a b k).bcn = h.bcn := by
  unfold Hub.tally; rw [countSelected_frame]
@[simp] theorem Hub.tally_dm (h : Hub) (a b k : Nat) : (h.tally a b k).dm = h.dm := by
  unfold Hub.tally; rw [countSelected_frame]
@[simp] theorem Hub.tally_io (h : Hub) (a b k : Nat) : (h.tally a b k).io = h.io := by
  unfold Hub.tally; rw [countSelected_frame]
@[simp] theorem Hub.tally_vid (h : Hub) (a b k : Nat) : (h.tally a b k).vid = h.vid := by
  unfold Hub.tally; rw [countSelected_frame]
@[simp] theorem Hub.tally_usb (h : Hub) (a b k : Nat) : (h.tally a b k).usb = h.usb := by
  unfold Hub.tally; rw [countSelected_frame]
@[simp] theorem Hub.tally_hb (h : Hub) (a b k : Nat) : (h.tally a b k).hb = h.hb := by
  unfold Hub.tally; rw [countSelected_frame]
@[simp] theorem Hub.tally_pair (h : Hub) (a b k : Nat) : (h.tally a b k).pair = h.pair := by
  unfold Hub.tally; rw [countSelected_frame]
@[simp] theorem Hub.tally_moor (h : Hub) (a b k : Nat) : (h.tally a b k).moor = h.moor := by
  unfold Hub.tally; rw [countSelected_frame]
@[simp] theorem Hub.tally_sec (h : Hub) (a b k : Nat) : (h.tally a b k).sec = h.sec := by
  unfold Hub.tally; rw [countSelected_frame]
@[simp] theorem Hub.tally_pwr (h : Hub) (a b k : Nat) : (h.tally a b k).pwr = h.pwr := by
  unfold Hub.tally; rw [countSelected_frame]
@[simp] theorem Hub.tally_obs (h : Hub) (a b k : Nat) : (h.tally a b k).obs = h.obs := by
  unfold Hub.tally; rw [countSelected_frame]

/-! `Hub.queueDetail` writes nothing but `evt`. -/

@[simp] theorem Hub.queueDetail_clock (h : Hub) (n : Nat) (d : Bytes) (a b : Bool) : ((h.queueDetail n d a b).1).clock = h.clock := by
  unfold Hub.queueDetail; dsimp only; split_ifs <;> rfl
@[simp] theorem Hub.queueDetail_draws (h : Hub) (n : Nat) (d : Bytes) (a b : Bool) : ((h.queueDetail n d a b).1).draws = h.draws := by
  unfold Hub.queueDetail; dsimp only; split_ifs <;> rfl
@[simp] theorem Hub.queueDetail_out (h : Hub) (n : Nat) (d : Bytes) (a b : Bool) : ((h.queueDetail n d a b).1).out = h.out := by
  unfold Hub.queueDetail; dsimp only; split_ifs <;> rfl
@[simp] theorem Hub.queueDetail_od (h : Hub) (n : Nat) (d : Bytes) (a b : Bool) : ((h.queueDetail n d a b).1).od = h.od := by
  unfold Hub.queueDetail; dsimp only; split_ifs <;> rfl
@[simp] theorem Hub.queueDetail_blob (h : Hub) (n : Nat) (d : Bytes) (a b : Bool) : ((h.queueDetail n d a b).1).blob = h.blob := by
  unfold Hub.queueDetail; dsimp only; split_ifs <;> rfl
@[simp] theorem Hub.queueDetail_regs (h : Hub) (n : Nat) (d : Bytes) (a b : Bool) : ((h.queueDetail n d a b).1).regs = h.regs := by
  unfold Hub.queueDetail; dsimp only; split_ifs <;> rfl
@[simp] theorem Hub.queueDetail_mem (h : Hub) (n : Nat) (d : Bytes) (a b : Bool) : ((h.queueDetail n d a b).1).mem = h.mem := by
  unfold Hub.queueDetail; dsimp only; split_ifs <;> rfl
@[simp] theorem Hub.queueDetail_kram (h : Hub) (n : Nat) (d : Bytes) (a b : Bool) : ((h.queueDetail n d a b).1).kram = h.kram := by
  unfold Hub.queueDetail; dsimp only; split_ifs <;> rfl
@[simp] theorem Hub.queueDetail_mode (h : Hub) (n : Nat) (d : Bytes) (a b : Bool) : ((h.queueDetail n d a b).1).mode = h.mode := by
  unfold Hub.queueDetail; dsimp only; split_ifs <;> rfl
@[simp] theorem Hub.queueDetail_ctl (h : Hub) (n : Nat) (d : Bytes) (a b : Bool) : ((h.queueDetail n d a b).1).ctl = h.ctl := by
  unfold Hub.queueDetail; dsimp only; split_ifs <;> rfl
@[simp] theorem Hub.queueDetail_lanes (h : Hub) (n : Nat) (d : Bytes) (a b : Bool) : ((h.queueDetail n d a b).1).lanes = h.lanes := by
  unfold Hub.queueDetail; dsimp only; split_ifs <;> rfl
@[simp] theorem Hub.queueDetail_links (h : Hub) (n : Nat) (d : Bytes) (a b : Bool) : ((h.queueDetail n d a b).1).links = h.links := by
  unfold Hub.queueDetail; dsimp only; split_ifs <;> rfl
@[simp] theorem Hub.queueDetail_tun (h : Hub) (n : Nat) (d : Bytes) (a b : Bool) : ((h.queueDetail n d a b).1).tun = h.tun := by
  unfold Hub.queueDetail; dsimp only; split_ifs <;> rfl
@[simp] theorem Hub.queueDetail_plan (h : Hub) (n : Nat) (d : Bytes) (a b : Bool) : ((h.queueDetail n d a b).1).plan = h.plan := by
  unfold Hub.queueDetail; dsimp only; split_ifs <;> rfl
@[simp] theorem Hub.queueDetail_eng (h : Hub) (n : Nat) (d : Bytes) (a b : Bool) : ((h.queueDetail n d a b).1).eng = h.eng := by
  unfold Hub.queueDetail; dsimp only; split_ifs <;> rfl
@[simp] theorem Hub.queueDetail_sw (h : Hub) (n : Nat) (d : Bytes) (a b : Bool) : ((h.queueDetail n d a b).1).sw = h.sw := by
  unfold Hub.queueDetail; dsimp only; split_ifs <;> rfl
@[simp] theorem Hub.queueDetail_bcn (h : Hub) (n : Nat) (d : Bytes) (a b : Bool) : ((h.queueDetail n d a b).1).bcn = h.bcn := by
  unfold Hub.queueDetail; dsimp only; split_ifs <;> rfl
@[simp] theorem Hub.queueDetail_dm (h : Hub) (n : Nat) (d : Bytes) (a b : Bool) : ((h.queueDetail n d a b).1).dm = h.dm := by
  unfold Hub.queueDetail; dsimp only; split_ifs <;> rfl
@[simp] theorem Hub.queueDetail_io (h : Hub) (n : Nat) (d : Bytes) (a b : Bool) : ((h.queueDetail n d a b).1).io = h.io := by
  unfold Hub.queueDetail; dsimp only; split_ifs <;> rfl
@[simp] theorem Hub.queueDetail_vid (h : Hub) (n : Nat) (d : Bytes) (a b : Bool) : ((h.queueDetail n d a b).1).vid = h.vid := by
  unfold Hub.queueDetail; dsimp only; split_ifs <;> rfl
@[simp] theorem Hub.queueDetail_usb (h : Hub) (n : Nat) (d : Bytes) (a b : Bool) : ((h.queueDetail n d a b).1).usb = h.usb := by
  unfold Hub.queueDetail; dsimp only; split_ifs <;> rfl
@[simp] theorem Hub.queueDetail_hb (h : Hub) (n : Nat) (d : Bytes) (a b : Bool) : ((h.queueDetail n d a b).1).hb = h.hb := by
  unfold Hub.queueDetail; dsimp only; split_ifs <;> rfl
@[simp] theorem Hub.queueDetail_pair (h : Hub) (n : Nat) (d : Bytes) (a b : Bool) : ((h.queueDetail n d a b).1).pair = h.pair := by
  unfold Hub.queueDetail; dsimp only; split_ifs <;> rfl
@[simp] theorem Hub.queueDetail_moor (h : Hub) (n : Nat) (d : Bytes) (a b : Bool) : ((h.queueDetail n d a b).1).moor = h.moor := by
  unfold Hub.queueDetail; dsimp only; split_ifs <;> rfl
@[simp] theorem Hub.queueDetail_sec (h : Hub) (n : Nat) (d : Bytes) (a b : Bool) : ((h.queueDetail n d a b).1).sec = h.sec := by
  unfold Hub.queueDetail; dsimp only; split_ifs <;> rfl
@[simp] theorem Hub.queueDetail_pwr (h : Hub) (n : Nat) (d : Bytes) (a b : Bool) : ((h.queueDetail n d a b).1).pwr = h.pwr := by
  unfold Hub.queueDetail; dsimp only; split_ifs <;> rfl
@[simp] theorem Hub.queueDetail_obs (h : Hub) (n : Nat) (d : Bytes) (a b : Bool) : ((h.queueDetail n d a b).1).obs = h.obs := by
  unfold Hub.queueDetail; dsimp only; split_ifs <;> rfl

/-! `Hub.fireWith` writes nothing but `evt`, `od`, `regs`, `pwr`. -/

@[simp] theorem Hub.fireWith_clock (h : Hub) (n : Nat) (d : Bytes) (a b : Bool) : (h.fireWith n d a b).clock = h.clock := by
  unfold Hub.fireWith; dsimp only; split_ifs <;> simp
@[simp] theorem Hub.fireWith_draws (h : Hub) (n : Nat) (d : Bytes) (a b : Bool) : (h.fireWith n d a b).draws = h.draws := by
  unfold Hub.fireWith; dsimp only; split_ifs <;> simp
@[simp] theorem Hub.fireWith_out (h : Hub) (n : Nat) (d : Bytes) (a b : Bool) : (h.fireWith n d a b).out = h.out := by
  unfold Hub.fireWith; dsimp only; split_ifs <;> simp
@[simp] theorem Hub.fireWith_blob (h : Hub) (n : Nat) (d : Bytes) (a b : Bool) : (h.fireWith n d a b).blob = h.blob := by
  unfold Hub.fireWith; dsimp only; split_ifs <;> simp
@[simp] theorem Hub.fireWith_mem (h : Hub) (n : Nat) (d : Bytes) (a b : Bool) : (h.fireWith n d a b).mem = h.mem := by
  unfold Hub.fireWith; dsimp only; split_ifs <;> simp
@[simp] theorem Hub.fireWith_kram (h : Hub) (n : Nat) (d : Bytes) (a b : Bool) : (h.fireWith n d a b).kram = h.kram := by
  unfold Hub.fireWith; dsimp only; split_ifs <;> simp
@[simp] theorem Hub.fireWith_mode (h : Hub) (n : Nat) (d : Bytes) (a b : Bool) : (h.fireWith n d a b).mode = h.mode := by
  unfold Hub.fireWith; dsimp only; split_ifs <;> simp
@[simp] theorem Hub.fireWith_ctl (h : Hub) (n : Nat) (d : Bytes) (a b : Bool) : (h.fireWith n d a b).ctl = h.ctl := by
  unfold Hub.fireWith; dsimp only; split_ifs <;> simp
@[simp] theorem Hub.fireWith_lanes (h : Hub) (n : Nat) (d : Bytes) (a b : Bool) : (h.fireWith n d a b).lanes = h.lanes := by
  unfold Hub.fireWith; dsimp only; split_ifs <;> simp
@[simp] theorem Hub.fireWith_links (h : Hub) (n : Nat) (d : Bytes) (a b : Bool) : (h.fireWith n d a b).links = h.links := by
  unfold Hub.fireWith; dsimp only; split_ifs <;> simp
@[simp] theorem Hub.fireWith_tun (h : Hub) (n : Nat) (d : Bytes) (a b : Bool) : (h.fireWith n d a b).tun = h.tun := by
  unfold Hub.fireWith; dsimp only; split_ifs <;> simp
@[simp] theorem Hub.fireWith_plan (h : Hub) (n : Nat) (d : Bytes) (a b : Bool) : (h.fireWith n d a b).plan = h.plan := by
  unfold Hub.fireWith; dsimp only; split_ifs <;> simp
@[simp] theorem Hub.fireWith_eng (h : Hub) (n : Nat) (d : Bytes) (a b : Bool) : (h.fireWith n d a b).eng = h.eng := by
  unfold Hub.fireWith; dsimp only; split_ifs <;> simp
@[simp] theorem Hub.fireWith_sw (h : Hub) (n : Nat) (d : Bytes) (a b : Bool) : (h.fireWith n d a b).sw = h.sw := by
  unfold Hub.fireWith; dsimp only; split_ifs <;> simp
@[simp] theorem Hub.fireWith_bcn (h : Hub) (n : Nat) (d : Bytes) (a b : Bool) : (h.fireWith n d a b).bcn = h.bcn := by
  unfold Hub.fireWith; dsimp only; split_ifs <;> simp
@[simp] theorem Hub.fireWith_dm (h : Hub) (n : Nat) (d : Bytes) (a b : Bool) : (h.fireWith n d a b).dm = h.dm := by
  unfold Hub.fireWith; dsimp only; split_ifs <;> simp
@[simp] theorem Hub.fireWith_io (h : Hub) (n : Nat) (d : Bytes) (a b : Bool) : (h.fireWith n d a b).io = h.io := by
  unfold Hub.fireWith; dsimp only; split_ifs <;> simp
@[simp] theorem Hub.fireWith_vid (h : Hub) (n : Nat) (d : Bytes) (a b : Bool) : (h.fireWith n d a b).vid = h.vid := by
  unfold Hub.fireWith; dsimp only; split_ifs <;> simp
@[simp] theorem Hub.fireWith_usb (h : Hub) (n : Nat) (d : Bytes) (a b : Bool) : (h.fireWith n d a b).usb = h.usb := by
  unfold Hub.fireWith; dsimp only; split_ifs <;> simp
@[simp] theorem Hub.fireWith_hb (h : Hub) (n : Nat) (d : Bytes) (a b : Bool) : (h.fireWith n d a b).hb = h.hb := by
  unfold Hub.fireWith; dsimp only; split_ifs <;> simp
@[simp] theorem Hub.fireWith_pair (h : Hub) (n : Nat) (d : Bytes) (a b : Bool) : (h.fireWith n d a b).pair = h.pair := by
  unfold Hub.fireWith; dsimp only; split_ifs <;> simp
@[simp] theorem Hub.fireWith_moor (h : Hub) (n : Nat) (d : Bytes) (a b : Bool) : (h.fireWith n d a b).moor = h.moor := by
  unfold Hub.fireWith; dsimp only; split_ifs <;> simp
@[simp] theorem Hub.fireWith_sec (h : Hub) (n : Nat) (d : Bytes) (a b : Bool) : (h.fireWith n d a b).sec = h.sec := by
  unfold Hub.fireWith; dsimp only; split_ifs <;> simp
@[simp] theorem Hub.fireWith_obs (h : Hub) (n : Nat) (d : Bytes) (a b : Bool) : (h.fireWith n d a b).obs = h.obs := by
  unfold Hub.fireWith; dsimp only; split_ifs <;> simp

/-! `Hub.fire` writes nothing but `evt`, `od`, `regs`, `pwr`. -/

@[simp] theorem Hub.fire_clock (h : Hub) (n : Nat) (d : Bytes) : (h.fire n d).clock = h.clock := by
  simp [Hub.fire]
@[simp] theorem Hub.fire_draws (h : Hub) (n : Nat) (d : Bytes) : (h.fire n d).draws = h.draws := by
  simp [Hub.fire]
@[simp] theorem Hub.fire_out (h : Hub) (n : Nat) (d : Bytes) : (h.fire n d).out = h.out := by
  simp [Hub.fire]
@[simp] theorem Hub.fire_blob (h : Hub) (n : Nat) (d : Bytes) : (h.fire n d).blob = h.blob := by
  simp [Hub.fire]
@[simp] theorem Hub.fire_mem (h : Hub) (n : Nat) (d : Bytes) : (h.fire n d).mem = h.mem := by
  simp [Hub.fire]
@[simp] theorem Hub.fire_kram (h : Hub) (n : Nat) (d : Bytes) : (h.fire n d).kram = h.kram := by
  simp [Hub.fire]
@[simp] theorem Hub.fire_mode (h : Hub) (n : Nat) (d : Bytes) : (h.fire n d).mode = h.mode := by
  simp [Hub.fire]
@[simp] theorem Hub.fire_ctl (h : Hub) (n : Nat) (d : Bytes) : (h.fire n d).ctl = h.ctl := by
  simp [Hub.fire]
@[simp] theorem Hub.fire_lanes (h : Hub) (n : Nat) (d : Bytes) : (h.fire n d).lanes = h.lanes := by
  simp [Hub.fire]
@[simp] theorem Hub.fire_links (h : Hub) (n : Nat) (d : Bytes) : (h.fire n d).links = h.links := by
  simp [Hub.fire]
@[simp] theorem Hub.fire_tun (h : Hub) (n : Nat) (d : Bytes) : (h.fire n d).tun = h.tun := by
  simp [Hub.fire]
@[simp] theorem Hub.fire_plan (h : Hub) (n : Nat) (d : Bytes) : (h.fire n d).plan = h.plan := by
  simp [Hub.fire]
@[simp] theorem Hub.fire_eng (h : Hub) (n : Nat) (d : Bytes) : (h.fire n d).eng = h.eng := by
  simp [Hub.fire]
@[simp] theorem Hub.fire_sw (h : Hub) (n : Nat) (d : Bytes) : (h.fire n d).sw = h.sw := by
  simp [Hub.fire]
@[simp] theorem Hub.fire_bcn (h : Hub) (n : Nat) (d : Bytes) : (h.fire n d).bcn = h.bcn := by
  simp [Hub.fire]
@[simp] theorem Hub.fire_dm (h : Hub) (n : Nat) (d : Bytes) : (h.fire n d).dm = h.dm := by
  simp [Hub.fire]
@[simp] theorem Hub.fire_io (h : Hub) (n : Nat) (d : Bytes) : (h.fire n d).io = h.io := by
  simp [Hub.fire]
@[simp] theorem Hub.fire_vid (h : Hub) (n : Nat) (d : Bytes) : (h.fire n d).vid = h.vid := by
  simp [Hub.fire]
@[simp] theorem Hub.fire_usb (h : Hub) (n : Nat) (d : Bytes) : (h.fire n d).usb = h.usb := by
  simp [Hub.fire]
@[simp] theorem Hub.fire_hb (h : Hub) (n : Nat) (d : Bytes) : (h.fire n d).hb = h.hb := by
  simp [Hub.fire]
@[simp] theorem Hub.fire_pair (h : Hub) (n : Nat) (d : Bytes) : (h.fire n d).pair = h.pair := by
  simp [Hub.fire]
@[simp] theorem Hub.fire_moor (h : Hub) (n : Nat) (d : Bytes) : (h.fire n d).moor = h.moor := by
  simp [Hub.fire]
@[simp] theorem Hub.fire_sec (h : Hub) (n : Nat) (d : Bytes) : (h.fire n d).sec = h.sec := by
  simp [Hub.fire]
@[simp] theorem Hub.fire_obs (h : Hub) (n : Nat) (d : Bytes) : (h.fire n d).obs = h.obs := by
  simp [Hub.fire]

/-! `Hub.finish` writes nothing but `ctl`. -/

@[simp] theorem Hub.finish_clock (h : Hub) (c st : Nat) (d : Bytes) : (h.finish c st d).clock = h.clock := by
  unfold Hub.finish; dsimp only; split_ifs <;> rfl
@[simp] theorem Hub.finish_draws (h : Hub) (c st : Nat) (d : Bytes) : (h.finish c st d).draws = h.draws := by
  unfold Hub.finish; dsimp only; split_ifs <;> rfl
@[simp] theorem Hub.finish_out (h : Hub) (c st : Nat) (d : Bytes) : (h.finish c st d).out = h.out := by
  unfold Hub.finish; dsimp only; split_ifs <;> rfl
@[simp] theorem Hub.finish_od (h : Hub) (c st : Nat) (d : Bytes) : (h.finish c st d).od = h.od := by
  unfold Hub.finish; dsimp only; split_ifs <;> rfl
@[simp] theorem Hub.finish_blob (h : Hub) (c st : Nat) (d : Bytes) : (h.finish c st d).blob = h.blob := by
  unfold Hub.finish; dsimp only; split_ifs <;> rfl
@[simp] theorem Hub.finish_regs (h : Hub) (c st : Nat) (d : Bytes) : (h.finish c st d).regs = h.regs := by
  unfold Hub.finish; dsimp only; split_ifs <;> rfl
@[simp] theorem Hub.finish_mem (h : Hub) (c st : Nat) (d : Bytes) : (h.finish c st d).mem = h.mem := by
  unfold Hub.finish; dsimp only; split_ifs <;> rfl
@[simp] theorem Hub.finish_kram (h : Hub) (c st : Nat) (d : Bytes) : (h.finish c st d).kram = h.kram := by
  unfold Hub.finish; dsimp only; split_ifs <;> rfl
@[simp] theorem Hub.finish_mode (h : Hub) (c st : Nat) (d : Bytes) : (h.finish c st d).mode = h.mode := by
  unfold Hub.finish; dsimp only; split_ifs <;> rfl
@[simp] theorem Hub.finish_evt (h : Hub) (c st : Nat) (d : Bytes) : (h.finish c st d).evt = h.evt := by
  unfold Hub.finish; dsimp only; split_ifs <;> rfl
@[simp] theorem Hub.finish_lanes (h : Hub) (c st : Nat) (d : Bytes) : (h.finish c st d).lanes = h.lanes := by
  unfold Hub.finish; dsimp only; split_ifs <;> rfl
@[simp] theorem Hub.finish_links (h : Hub) (c st : Nat) (d : Bytes) : (h.finish c st d).links = h.links := by
  unfold Hub.finish; dsimp only; split_ifs <;> rfl
@[simp] theorem Hub.finish_tun (h : Hub) (c st : Nat) (d : Bytes) : (h.finish c st d).tun = h.tun := by
  unfold Hub.finish; dsimp only; split_ifs <;> rfl
@[simp] theorem Hub.finish_plan (h : Hub) (c st : Nat) (d : Bytes) : (h.finish c st d).plan = h.plan := by
  unfold Hub.finish; dsimp only; split_ifs <;> rfl
@[simp] theorem Hub.finish_eng (h : Hub) (c st : Nat) (d : Bytes) : (h.finish c st d).eng = h.eng := by
  unfold Hub.finish; dsimp only; split_ifs <;> rfl
@[simp] theorem Hub.finish_sw (h : Hub) (c st : Nat) (d : Bytes) : (h.finish c st d).sw = h.sw := by
  unfold Hub.finish; dsimp only; split_ifs <;> rfl
@[simp] theorem Hub.finish_bcn (h : Hub) (c st : Nat) (d : Bytes) : (h.finish c st d).bcn = h.bcn := by
  unfold Hub.finish; dsimp only; split_ifs <;> rfl
@[simp] theorem Hub.finish_dm (h : Hub) (c st : Nat) (d : Bytes) : (h.finish c st d).dm = h.dm := by
  unfold Hub.finish; dsimp only; split_ifs <;> rfl
@[simp] theorem Hub.finish_io (h : Hub) (c st : Nat) (d : Bytes) : (h.finish c st d).io = h.io := by
  unfold Hub.finish; dsimp only; split_ifs <;> rfl
@[simp] theorem Hub.finish_vid (h : Hub) (c st : Nat) (d : Bytes) : (h.finish c st d).vid = h.vid := by
  unfold Hub.finish; dsimp only; split_ifs <;> rfl
@[simp] theorem Hub.finish_usb (h : Hub) (c st : Nat) (d : Bytes) : (h.finish c st d).usb = h.usb := by
  unfold Hub.finish; dsimp only; split_ifs <;> rfl
@[simp] theorem Hub.finish_hb (h : Hub) (c st : Nat) (d : Bytes) : (h.finish c st d).hb = h.hb := by
  unfold Hub.finish; dsimp only; split_ifs <;> rfl
@[simp] theorem Hub.finish_pair (h : Hub) (c st : Nat) (d : Bytes) : (h.finish c st d).pair = h.pair := by
  unfold Hub.finish; dsimp only; split_ifs <;> rfl
@[simp] theorem Hub.finish_moor (h : Hub) (c st : Nat) (d : Bytes) : (h.finish c st d).moor = h.moor := by
  unfold Hub.finish; dsimp only; split_ifs <;> rfl
@[simp] theorem Hub.finish_sec (h : Hub) (c st : Nat) (d : Bytes) : (h.finish c st d).sec = h.sec := by
  unfold Hub.finish; dsimp only; split_ifs <;> rfl
@[simp] theorem Hub.finish_pwr (h : Hub) (c st : Nat) (d : Bytes) : (h.finish c st d).pwr = h.pwr := by
  unfold Hub.finish; dsimp only; split_ifs <;> rfl
@[simp] theorem Hub.finish_obs (h : Hub) (c st : Nat) (d : Bytes) : (h.finish c st d).obs = h.obs := by
  unfold Hub.finish; dsimp only; split_ifs <;> rfl

/-! `Hub.finishOpt` writes nothing but `ctl`. -/

@[simp] theorem Hub.finishOpt_clock (h : Hub) (c : Option Nat) (st : Nat) (d : Bytes) : (h.finishOpt c st d).clock = h.clock := by
  unfold Hub.finishOpt; split <;> simp
@[simp] theorem Hub.finishOpt_draws (h : Hub) (c : Option Nat) (st : Nat) (d : Bytes) : (h.finishOpt c st d).draws = h.draws := by
  unfold Hub.finishOpt; split <;> simp
@[simp] theorem Hub.finishOpt_out (h : Hub) (c : Option Nat) (st : Nat) (d : Bytes) : (h.finishOpt c st d).out = h.out := by
  unfold Hub.finishOpt; split <;> simp
@[simp] theorem Hub.finishOpt_od (h : Hub) (c : Option Nat) (st : Nat) (d : Bytes) : (h.finishOpt c st d).od = h.od := by
  unfold Hub.finishOpt; split <;> simp
@[simp] theorem Hub.finishOpt_blob (h : Hub) (c : Option Nat) (st : Nat) (d : Bytes) : (h.finishOpt c st d).blob = h.blob := by
  unfold Hub.finishOpt; split <;> simp
@[simp] theorem Hub.finishOpt_regs (h : Hub) (c : Option Nat) (st : Nat) (d : Bytes) : (h.finishOpt c st d).regs = h.regs := by
  unfold Hub.finishOpt; split <;> simp
@[simp] theorem Hub.finishOpt_mem (h : Hub) (c : Option Nat) (st : Nat) (d : Bytes) : (h.finishOpt c st d).mem = h.mem := by
  unfold Hub.finishOpt; split <;> simp
@[simp] theorem Hub.finishOpt_kram (h : Hub) (c : Option Nat) (st : Nat) (d : Bytes) : (h.finishOpt c st d).kram = h.kram := by
  unfold Hub.finishOpt; split <;> simp
@[simp] theorem Hub.finishOpt_mode (h : Hub) (c : Option Nat) (st : Nat) (d : Bytes) : (h.finishOpt c st d).mode = h.mode := by
  unfold Hub.finishOpt; split <;> simp
@[simp] theorem Hub.finishOpt_evt (h : Hub) (c : Option Nat) (st : Nat) (d : Bytes) : (h.finishOpt c st d).evt = h.evt := by
  unfold Hub.finishOpt; split <;> simp
@[simp] theorem Hub.finishOpt_lanes (h : Hub) (c : Option Nat) (st : Nat) (d : Bytes) : (h.finishOpt c st d).lanes = h.lanes := by
  unfold Hub.finishOpt; split <;> simp
@[simp] theorem Hub.finishOpt_links (h : Hub) (c : Option Nat) (st : Nat) (d : Bytes) : (h.finishOpt c st d).links = h.links := by
  unfold Hub.finishOpt; split <;> simp
@[simp] theorem Hub.finishOpt_tun (h : Hub) (c : Option Nat) (st : Nat) (d : Bytes) : (h.finishOpt c st d).tun = h.tun := by
  unfold Hub.finishOpt; split <;> simp
@[simp] theorem Hub.finishOpt_plan (h : Hub) (c : Option Nat) (st : Nat) (d : Bytes) : (h.finishOpt c st d).plan = h.plan := by
  unfold Hub.finishOpt; split <;> simp
@[simp] theorem Hub.finishOpt_eng (h : Hub) (c : Option Nat) (st : Nat) (d : Bytes) : (h.finishOpt c st d).eng = h.eng := by
  unfold Hub.finishOpt; split <;> simp
@[simp] theorem Hub.finishOpt_sw (h : Hub) (c : Option Nat) (st : Nat) (d : Bytes) : (h.finishOpt c st d).sw = h.sw := by
  unfold Hub.finishOpt; split <;> simp
@[simp] theorem Hub.finishOpt_bcn (h : Hub) (c : Option Nat) (st : Nat) (d : Bytes) : (h.finishOpt c st d).bcn = h.bcn := by
  unfold Hub.finishOpt; split <;> simp
@[simp] theorem Hub.finishOpt_dm (h : Hub) (c : Option Nat) (st : Nat) (d : Bytes) : (h.finishOpt c st d).dm = h.dm := by
  unfold Hub.finishOpt; split <;> simp
@[simp] theorem Hub.finishOpt_io (h : Hub) (c : Option Nat) (st : Nat) (d : Bytes) : (h.finishOpt c st d).io = h.io := by
  unfold Hub.finishOpt; split <;> simp
@[simp] theorem Hub.finishOpt_vid (h : Hub) (c : Option Nat) (st : Nat) (d : Bytes) : (h.finishOpt c st d).vid = h.vid := by
  unfold Hub.finishOpt; split <;> simp
@[simp] theorem Hub.finishOpt_usb (h : Hub) (c : Option Nat) (st : Nat) (d : Bytes) : (h.finishOpt c st d).usb = h.usb := by
  unfold Hub.finishOpt; split <;> simp
@[simp] theorem Hub.finishOpt_hb (h : Hub) (c : Option Nat) (st : Nat) (d : Bytes) : (h.finishOpt c st d).hb = h.hb := by
  unfold Hub.finishOpt; split <;> simp
@[simp] theorem Hub.finishOpt_pair (h : Hub) (c : Option Nat) (st : Nat) (d : Bytes) : (h.finishOpt c st d).pair = h.pair := by
  unfold Hub.finishOpt; split <;> simp
@[simp] theorem Hub.finishOpt_moor (h : Hub) (c : Option Nat) (st : Nat) (d : Bytes) : (h.finishOpt c st d).moor = h.moor := by
  unfold Hub.finishOpt; split <;> simp
@[simp] theorem Hub.finishOpt_sec (h : Hub) (c : Option Nat) (st : Nat) (d : Bytes) : (h.finishOpt c st d).sec = h.sec := by
  unfold Hub.finishOpt; split <;> simp
@[simp] theorem Hub.finishOpt_pwr (h : Hub) (c : Option Nat) (st : Nat) (d : Bytes) : (h.finishOpt c st d).pwr = h.pwr := by
  unfold Hub.finishOpt; split <;> simp
@[simp] theorem Hub.finishOpt_obs (h : Hub) (c : Option Nat) (st : Nat) (d : Bytes) : (h.finishOpt c st d).obs = h.obs := by
  unfold Hub.finishOpt; split <;> simp

/-! `Hub.deliverRecord` writes nothing but `dm`, `evt`, `od`, `regs`, `pwr`. -/

@[simp] theorem Hub.deliverRecord_clock (h : Hub) (b : Bytes) (x : Option Nat) : (h.deliverRecord b x).clock = h.clock := by
  unfold Hub.deliverRecord; dsimp only; split <;> simp
@[simp] theorem Hub.deliverRecord_draws (h : Hub) (b : Bytes) (x : Option Nat) : (h.deliverRecord b x).draws = h.draws := by
  unfold Hub.deliverRecord; dsimp only; split <;> simp
@[simp] theorem Hub.deliverRecord_out (h : Hub) (b : Bytes) (x : Option Nat) : (h.deliverRecord b x).out = h.out := by
  unfold Hub.deliverRecord; dsimp only; split <;> simp
@[simp] theorem Hub.deliverRecord_blob (h : Hub) (b : Bytes) (x : Option Nat) : (h.deliverRecord b x).blob = h.blob := by
  unfold Hub.deliverRecord; dsimp only; split <;> simp
@[simp] theorem Hub.deliverRecord_mem (h : Hub) (b : Bytes) (x : Option Nat) : (h.deliverRecord b x).mem = h.mem := by
  unfold Hub.deliverRecord; dsimp only; split <;> simp
@[simp] theorem Hub.deliverRecord_kram (h : Hub) (b : Bytes) (x : Option Nat) : (h.deliverRecord b x).kram = h.kram := by
  unfold Hub.deliverRecord; dsimp only; split <;> simp
@[simp] theorem Hub.deliverRecord_mode (h : Hub) (b : Bytes) (x : Option Nat) : (h.deliverRecord b x).mode = h.mode := by
  unfold Hub.deliverRecord; dsimp only; split <;> simp
@[simp] theorem Hub.deliverRecord_ctl (h : Hub) (b : Bytes) (x : Option Nat) : (h.deliverRecord b x).ctl = h.ctl := by
  unfold Hub.deliverRecord; dsimp only; split <;> simp
@[simp] theorem Hub.deliverRecord_lanes (h : Hub) (b : Bytes) (x : Option Nat) : (h.deliverRecord b x).lanes = h.lanes := by
  unfold Hub.deliverRecord; dsimp only; split <;> simp
@[simp] theorem Hub.deliverRecord_links (h : Hub) (b : Bytes) (x : Option Nat) : (h.deliverRecord b x).links = h.links := by
  unfold Hub.deliverRecord; dsimp only; split <;> simp
@[simp] theorem Hub.deliverRecord_tun (h : Hub) (b : Bytes) (x : Option Nat) : (h.deliverRecord b x).tun = h.tun := by
  unfold Hub.deliverRecord; dsimp only; split <;> simp
@[simp] theorem Hub.deliverRecord_plan (h : Hub) (b : Bytes) (x : Option Nat) : (h.deliverRecord b x).plan = h.plan := by
  unfold Hub.deliverRecord; dsimp only; split <;> simp
@[simp] theorem Hub.deliverRecord_eng (h : Hub) (b : Bytes) (x : Option Nat) : (h.deliverRecord b x).eng = h.eng := by
  unfold Hub.deliverRecord; dsimp only; split <;> simp
@[simp] theorem Hub.deliverRecord_sw (h : Hub) (b : Bytes) (x : Option Nat) : (h.deliverRecord b x).sw = h.sw := by
  unfold Hub.deliverRecord; dsimp only; split <;> simp
@[simp] theorem Hub.deliverRecord_bcn (h : Hub) (b : Bytes) (x : Option Nat) : (h.deliverRecord b x).bcn = h.bcn := by
  unfold Hub.deliverRecord; dsimp only; split <;> simp
@[simp] theorem Hub.deliverRecord_io (h : Hub) (b : Bytes) (x : Option Nat) : (h.deliverRecord b x).io = h.io := by
  unfold Hub.deliverRecord; dsimp only; split <;> simp
@[simp] theorem Hub.deliverRecord_vid (h : Hub) (b : Bytes) (x : Option Nat) : (h.deliverRecord b x).vid = h.vid := by
  unfold Hub.deliverRecord; dsimp only; split <;> simp
@[simp] theorem Hub.deliverRecord_usb (h : Hub) (b : Bytes) (x : Option Nat) : (h.deliverRecord b x).usb = h.usb := by
  unfold Hub.deliverRecord; dsimp only; split <;> simp
@[simp] theorem Hub.deliverRecord_hb (h : Hub) (b : Bytes) (x : Option Nat) : (h.deliverRecord b x).hb = h.hb := by
  unfold Hub.deliverRecord; dsimp only; split <;> simp
@[simp] theorem Hub.deliverRecord_pair (h : Hub) (b : Bytes) (x : Option Nat) : (h.deliverRecord b x).pair = h.pair := by
  unfold Hub.deliverRecord; dsimp only; split <;> simp
@[simp] theorem Hub.deliverRecord_moor (h : Hub) (b : Bytes) (x : Option Nat) : (h.deliverRecord b x).moor = h.moor := by
  unfold Hub.deliverRecord; dsimp only; split <;> simp
@[simp] theorem Hub.deliverRecord_sec (h : Hub) (b : Bytes) (x : Option Nat) : (h.deliverRecord b x).sec = h.sec := by
  unfold Hub.deliverRecord; dsimp only; split <;> simp
@[simp] theorem Hub.deliverRecord_obs (h : Hub) (b : Bytes) (x : Option Nat) : (h.deliverRecord b x).obs = h.obs := by
  unfold Hub.deliverRecord; dsimp only; split <;> simp

/-! `Hub.completeAction` writes nothing but `dm`, `evt`, `od`, `regs`, `pwr`. -/

@[simp] theorem Hub.completeAction_clock (h : Hub) (c st : Nat) : (h.completeAction c st).clock = h.clock := by
  unfold Hub.completeAction; split <;> simp
@[simp] theorem Hub.completeAction_draws (h : Hub) (c st : Nat) : (h.completeAction c st).draws = h.draws := by
  unfold Hub.completeAction; split <;> simp
@[simp] theorem Hub.completeAction_out (h : Hub) (c st : Nat) : (h.completeAction c st).out = h.out := by
  unfold Hub.completeAction; split <;> simp
@[simp] theorem Hub.completeAction_blob (h : Hub) (c st : Nat) : (h.completeAction c st).blob = h.blob := by
  unfold Hub.completeAction; split <;> simp
@[simp] theorem Hub.completeAction_mem (h : Hub) (c st : Nat) : (h.completeAction c st).mem = h.mem := by
  unfold Hub.completeAction; split <;> simp
@[simp] theorem Hub.completeAction_kram (h : Hub) (c st : Nat) : (h.completeAction c st).kram = h.kram := by
  unfold Hub.completeAction; split <;> simp
@[simp] theorem Hub.completeAction_mode (h : Hub) (c st : Nat) : (h.completeAction c st).mode = h.mode := by
  unfold Hub.completeAction; split <;> simp
@[simp] theorem Hub.completeAction_ctl (h : Hub) (c st : Nat) : (h.completeAction c st).ctl = h.ctl := by
  unfold Hub.completeAction; split <;> simp
@[simp] theorem Hub.completeAction_lanes (h : Hub) (c st : Nat) : (h.completeAction c st).lanes = h.lanes := by
  unfold Hub.completeAction; split <;> simp
@[simp] theorem Hub.completeAction_links (h : Hub) (c st : Nat) : (h.completeAction c st).links = h.links := by
  unfold Hub.completeAction; split <;> simp
@[simp] theorem Hub.completeAction_tun (h : Hub) (c st : Nat) : (h.completeAction c st).tun = h.tun := by
  unfold Hub.completeAction; split <;> simp
@[simp] theorem Hub.completeAction_plan (h : Hub) (c st : Nat) : (h.completeAction c st).plan = h.plan := by
  unfold Hub.completeAction; split <;> simp
@[simp] theorem Hub.completeAction_eng (h : Hub) (c st : Nat) : (h.completeAction c st).eng = h.eng := by
  unfold Hub.completeAction; split <;> simp
@[simp] theorem Hub.completeAction_sw (h : Hub) (c st : Nat) : (h.completeAction c st).sw = h.sw := by
  unfold Hub.completeAction; split <;> simp
@[simp] theorem Hub.completeAction_bcn (h : Hub) (c st : Nat) : (h.completeAction c st).bcn = h.bcn := by
  unfold Hub.completeAction; split <;> simp
@[simp] theorem Hub.completeAction_io (h : Hub) (c st : Nat) : (h.completeAction c st).io = h.io := by
  unfold Hub.completeAction; split <;> simp
@[simp] theorem Hub.completeAction_vid (h : Hub) (c st : Nat) : (h.completeAction c st).vid = h.vid := by
  unfold Hub.completeAction; split <;> simp
@[simp] theorem Hub.completeAction_usb (h : Hub) (c st : Nat) : (h.completeAction c st).usb = h.usb := by
  unfold Hub.completeAction; split <;> simp
@[simp] theorem Hub.completeAction_hb (h : Hub) (c st : Nat) : (h.completeAction c st).hb = h.hb := by
  unfold Hub.completeAction; split <;> simp
@[simp] theorem Hub.completeAction_pair (h : Hub) (c st : Nat) : (h.completeAction c st).pair = h.pair := by
  unfold Hub.completeAction; split <;> simp
@[simp] theorem Hub.completeAction_moor (h : Hub) (c st : Nat) : (h.completeAction c st).moor = h.moor := by
  unfold Hub.completeAction; split <;> simp
@[simp] theorem Hub.completeAction_sec (h : Hub) (c st : Nat) : (h.completeAction c st).sec = h.sec := by
  unfold Hub.completeAction; split <;> simp
@[simp] theorem Hub.completeAction_obs (h : Hub) (c st : Nat) : (h.completeAction c st).obs = h.obs := by
  unfold Hub.completeAction; split <;> simp

/-! `Hub.done` writes nothing but `ctl`, `dm`, `evt`, `od`, `regs`, `pwr`. -/

@[simp] theorem Hub.done_clock (h : Hub) (c st : Nat) (d : Bytes) : (h.done c st d).clock = h.clock := by
  unfold Hub.done; split_ifs <;> simp
@[simp] theorem Hub.done_draws (h : Hub) (c st : Nat) (d : Bytes) : (h.done c st d).draws = h.draws := by
  unfold Hub.done; split_ifs <;> simp
@[simp] theorem Hub.done_out (h : Hub) (c st : Nat) (d : Bytes) : (h.done c st d).out = h.out := by
  unfold Hub.done; split_ifs <;> simp
@[simp] theorem Hub.done_blob (h : Hub) (c st : Nat) (d : Bytes) : (h.done c st d).blob = h.blob := by
  unfold Hub.done; split_ifs <;> simp
@[simp] theorem Hub.done_mem (h : Hub) (c st : Nat) (d : Bytes) : (h.done c st d).mem = h.mem := by
  unfold Hub.done; split_ifs <;> simp
@[simp] theorem Hub.done_kram (h : Hub) (c st : Nat) (d : Bytes) : (h.done c st d).kram = h.kram := by
  unfold Hub.done; split_ifs <;> simp
@[simp] theorem Hub.done_mode (h : Hub) (c st : Nat) (d : Bytes) : (h.done c st d).mode = h.mode := by
  unfold Hub.done; split_ifs <;> simp
@[simp] theorem Hub.done_lanes (h : Hub) (c st : Nat) (d : Bytes) : (h.done c st d).lanes = h.lanes := by
  unfold Hub.done; split_ifs <;> simp
@[simp] theorem Hub.done_links (h : Hub) (c st : Nat) (d : Bytes) : (h.done c st d).links = h.links := by
  unfold Hub.done; split_ifs <;> simp
@[simp] theorem Hub.done_tun (h : Hub) (c st : Nat) (d : Bytes) : (h.done c st d).tun = h.tun := by
  unfold Hub.done; split_ifs <;> simp
@[simp] theorem Hub.done_plan (h : Hub) (c st : Nat) (d : Bytes) : (h.done c st d).plan = h.plan := by
  unfold Hub.done; split_ifs <;> simp
@[simp] theorem Hub.done_eng (h : Hub) (c st : Nat) (d : Bytes) : (h.done c st d).eng = h.eng := by
  unfold Hub.done; split_ifs <;> simp
@[simp] theorem Hub.done_sw (h : Hub) (c st : Nat) (d : Bytes) : (h.done c st d).sw = h.sw := by
  unfold Hub.done; split_ifs <;> simp
@[simp] theorem Hub.done_bcn (h : Hub) (c st : Nat) (d : Bytes) : (h.done c st d).bcn = h.bcn := by
  unfold Hub.done; split_ifs <;> simp
@[simp] theorem Hub.done_io (h : Hub) (c st : Nat) (d : Bytes) : (h.done c st d).io = h.io := by
  unfold Hub.done; split_ifs <;> simp
@[simp] theorem Hub.done_vid (h : Hub) (c st : Nat) (d : Bytes) : (h.done c st d).vid = h.vid := by
  unfold Hub.done; split_ifs <;> simp
@[simp] theorem Hub.done_usb (h : Hub) (c st : Nat) (d : Bytes) : (h.done c st d).usb = h.usb := by
  unfold Hub.done; split_ifs <;> simp
@[simp] theorem Hub.done_hb (h : Hub) (c st : Nat) (d : Bytes) : (h.done c st d).hb = h.hb := by
  unfold Hub.done; split_ifs <;> simp
@[simp] theorem Hub.done_pair (h : Hub) (c st : Nat) (d : Bytes) : (h.done c st d).pair = h.pair := by
  unfold Hub.done; split_ifs <;> simp
@[simp] theorem Hub.done_moor (h : Hub) (c st : Nat) (d : Bytes) : (h.done c st d).moor = h.moor := by
  unfold Hub.done; split_ifs <;> simp
@[simp] theorem Hub.done_sec (h : Hub) (c st : Nat) (d : Bytes) : (h.done c st d).sec = h.sec := by
  unfold Hub.done; split_ifs <;> simp
@[simp] theorem Hub.done_obs (h : Hub) (c st : Nat) (d : Bytes) : (h.done c st d).obs = h.obs := by
  unfold Hub.done; split_ifs <;> simp

/-! `Hub.doneOpt` writes nothing but `ctl`, `dm`, `evt`, `od`, `regs`, `pwr`. -/

@[simp] theorem Hub.doneOpt_clock (h : Hub) (c : Option Nat) (st : Nat) (d : Bytes) : (h.doneOpt c st d).clock = h.clock := by
  unfold Hub.doneOpt; split <;> simp
@[simp] theorem Hub.doneOpt_draws (h : Hub) (c : Option Nat) (st : Nat) (d : Bytes) : (h.doneOpt c st d).draws = h.draws := by
  unfold Hub.doneOpt; split <;> simp
@[simp] theorem Hub.doneOpt_out (h : Hub) (c : Option Nat) (st : Nat) (d : Bytes) : (h.doneOpt c st d).out = h.out := by
  unfold Hub.doneOpt; split <;> simp
@[simp] theorem Hub.doneOpt_blob (h : Hub) (c : Option Nat) (st : Nat) (d : Bytes) : (h.doneOpt c st d).blob = h.blob := by
  unfold Hub.doneOpt; split <;> simp
@[simp] theorem Hub.doneOpt_mem (h : Hub) (c : Option Nat) (st : Nat) (d : Bytes) : (h.doneOpt c st d).mem = h.mem := by
  unfold Hub.doneOpt; split <;> simp
@[simp] theorem Hub.doneOpt_kram (h : Hub) (c : Option Nat) (st : Nat) (d : Bytes) : (h.doneOpt c st d).kram = h.kram := by
  unfold Hub.doneOpt; split <;> simp
@[simp] theorem Hub.doneOpt_mode (h : Hub) (c : Option Nat) (st : Nat) (d : Bytes) : (h.doneOpt c st d).mode = h.mode := by
  unfold Hub.doneOpt; split <;> simp
@[simp] theorem Hub.doneOpt_lanes (h : Hub) (c : Option Nat) (st : Nat) (d : Bytes) : (h.doneOpt c st d).lanes = h.lanes := by
  unfold Hub.doneOpt; split <;> simp
@[simp] theorem Hub.doneOpt_links (h : Hub) (c : Option Nat) (st : Nat) (d : Bytes) : (h.doneOpt c st d).links = h.links := by
  unfold Hub.doneOpt; split <;> simp
@[simp] theorem Hub.doneOpt_tun (h : Hub) (c : Option Nat) (st : Nat) (d : Bytes) : (h.doneOpt c st d).tun = h.tun := by
  unfold Hub.doneOpt; split <;> simp
@[simp] theorem Hub.doneOpt_plan (h : Hub) (c : Option Nat) (st : Nat) (d : Bytes) : (h.doneOpt c st d).plan = h.plan := by
  unfold Hub.doneOpt; split <;> simp
@[simp] theorem Hub.doneOpt_eng (h : Hub) (c : Option Nat) (st : Nat) (d : Bytes) : (h.doneOpt c st d).eng = h.eng := by
  unfold Hub.doneOpt; split <;> simp
@[simp] theorem Hub.doneOpt_sw (h : Hub) (c : Option Nat) (st : Nat) (d : Bytes) : (h.doneOpt c st d).sw = h.sw := by
  unfold Hub.doneOpt; split <;> simp
@[simp] theorem Hub.doneOpt_bcn (h : Hub) (c : Option Nat) (st : Nat) (d : Bytes) : (h.doneOpt c st d).bcn = h.bcn := by
  unfold Hub.doneOpt; split <;> simp
@[simp] theorem Hub.doneOpt_io (h : Hub) (c : Option Nat) (st : Nat) (d : Bytes) : (h.doneOpt c st d).io = h.io := by
  unfold Hub.doneOpt; split <;> simp
@[simp] theorem Hub.doneOpt_vid (h : Hub) (c : Option Nat) (st : Nat) (d : Bytes) : (h.doneOpt c st d).vid = h.vid := by
  unfold Hub.doneOpt; split <;> simp
@[simp] theorem Hub.doneOpt_usb (h : Hub) (c : Option Nat) (st : Nat) (d : Bytes) : (h.doneOpt c st d).usb = h.usb := by
  unfold Hub.doneOpt; split <;> simp
@[simp] theorem Hub.doneOpt_hb (h : Hub) (c : Option Nat) (st : Nat) (d : Bytes) : (h.doneOpt c st d).hb = h.hb := by
  unfold Hub.doneOpt; split <;> simp
@[simp] theorem Hub.doneOpt_pair (h : Hub) (c : Option Nat) (st : Nat) (d : Bytes) : (h.doneOpt c st d).pair = h.pair := by
  unfold Hub.doneOpt; split <;> simp
@[simp] theorem Hub.doneOpt_moor (h : Hub) (c : Option Nat) (st : Nat) (d : Bytes) : (h.doneOpt c st d).moor = h.moor := by
  unfold Hub.doneOpt; split <;> simp
@[simp] theorem Hub.doneOpt_sec (h : Hub) (c : Option Nat) (st : Nat) (d : Bytes) : (h.doneOpt c st d).sec = h.sec := by
  unfold Hub.doneOpt; split <;> simp
@[simp] theorem Hub.doneOpt_obs (h : Hub) (c : Option Nat) (st : Nat) (d : Bytes) : (h.doneOpt c st d).obs = h.obs := by
  unfold Hub.doneOpt; split <;> simp

/-! `Hub.msix` writes nothing but `out`, `hb`. -/

@[simp] theorem Hub.msix_clock (h : Hub) (v : Nat) : (h.msix v).clock = h.clock := by
  unfold Hub.msix; dsimp only; split_ifs <;> rfl
@[simp] theorem Hub.msix_draws (h : Hub) (v : Nat) : (h.msix v).draws = h.draws := by
  unfold Hub.msix; dsimp only; split_ifs <;> rfl
@[simp] theorem Hub.msix_od (h : Hub) (v : Nat) : (h.msix v).od = h.od := by
  unfold Hub.msix; dsimp only; split_ifs <;> rfl
@[simp] theorem Hub.msix_blob (h : Hub) (v : Nat) : (h.msix v).blob = h.blob := by
  unfold Hub.msix; dsimp only; split_ifs <;> rfl
@[simp] theorem Hub.msix_regs (h : Hub) (v : Nat) : (h.msix v).regs = h.regs := by
  unfold Hub.msix; dsimp only; split_ifs <;> rfl
@[simp] theorem Hub.msix_mem (h : Hub) (v : Nat) : (h.msix v).mem = h.mem := by
  unfold Hub.msix; dsimp only; split_ifs <;> rfl
@[simp] theorem Hub.msix_kram (h : Hub) (v : Nat) : (h.msix v).kram = h.kram := by
  unfold Hub.msix; dsimp only; split_ifs <;> rfl
@[simp] theorem Hub.msix_mode (h : Hub) (v : Nat) : (h.msix v).mode = h.mode := by
  unfold Hub.msix; dsimp only; split_ifs <;> rfl
@[simp] theorem Hub.msix_ctl (h : Hub) (v : Nat) : (h.msix v).ctl = h.ctl := by
  unfold Hub.msix; dsimp only; split_ifs <;> rfl
@[simp] theorem Hub.msix_evt (h : Hub) (v : Nat) : (h.msix v).evt = h.evt := by
  unfold Hub.msix; dsimp only; split_ifs <;> rfl
@[simp] theorem Hub.msix_lanes (h : Hub) (v : Nat) : (h.msix v).lanes = h.lanes := by
  unfold Hub.msix; dsimp only; split_ifs <;> rfl
@[simp] theorem Hub.msix_links (h : Hub) (v : Nat) : (h.msix v).links = h.links := by
  unfold Hub.msix; dsimp only; split_ifs <;> rfl
@[simp] theorem Hub.msix_tun (h : Hub) (v : Nat) : (h.msix v).tun = h.tun := by
  unfold Hub.msix; dsimp only; split_ifs <;> rfl
@[simp] theorem Hub.msix_plan (h : Hub) (v : Nat) : (h.msix v).plan = h.plan := by
  unfold Hub.msix; dsimp only; split_ifs <;> rfl
@[simp] theorem Hub.msix_eng (h : Hub) (v : Nat) : (h.msix v).eng = h.eng := by
  unfold Hub.msix; dsimp only; split_ifs <;> rfl
@[simp] theorem Hub.msix_sw (h : Hub) (v : Nat) : (h.msix v).sw = h.sw := by
  unfold Hub.msix; dsimp only; split_ifs <;> rfl
@[simp] theorem Hub.msix_bcn (h : Hub) (v : Nat) : (h.msix v).bcn = h.bcn := by
  unfold Hub.msix; dsimp only; split_ifs <;> rfl
@[simp] theorem Hub.msix_dm (h : Hub) (v : Nat) : (h.msix v).dm = h.dm := by
  unfold Hub.msix; dsimp only; split_ifs <;> rfl
@[simp] theorem Hub.msix_io (h : Hub) (v : Nat) : (h.msix v).io = h.io := by
  unfold Hub.msix; dsimp only; split_ifs <;> rfl
@[simp] theorem Hub.msix_vid (h : Hub) (v : Nat) : (h.msix v).vid = h.vid := by
  unfold Hub.msix; dsimp only; split_ifs <;> rfl
@[simp] theorem Hub.msix_usb (h : Hub) (v : Nat) : (h.msix v).usb = h.usb := by
  unfold Hub.msix; dsimp only; split_ifs <;> rfl
@[simp] theorem Hub.msix_pair (h : Hub) (v : Nat) : (h.msix v).pair = h.pair := by
  unfold Hub.msix; dsimp only; split_ifs <;> rfl
@[simp] theorem Hub.msix_moor (h : Hub) (v : Nat) : (h.msix v).moor = h.moor := by
  unfold Hub.msix; dsimp only; split_ifs <;> rfl
@[simp] theorem Hub.msix_sec (h : Hub) (v : Nat) : (h.msix v).sec = h.sec := by
  unfold Hub.msix; dsimp only; split_ifs <;> rfl
@[simp] theorem Hub.msix_pwr (h : Hub) (v : Nat) : (h.msix v).pwr = h.pwr := by
  unfold Hub.msix; dsimp only; split_ifs <;> rfl
@[simp] theorem Hub.msix_obs (h : Hub) (v : Nat) : (h.msix v).obs = h.obs := by
  unfold Hub.msix; dsimp only; split_ifs <;> rfl

/-! `Hub.canQueue` writes nothing but `io`. -/

@[simp] theorem Hub.canQueue_clock (h : Hub) (n q : Nat) (f : CanFrame) : (h.canQueue n q f).clock = h.clock := by
  simp [Hub.canQueue]
@[simp] theorem Hub.canQueue_draws (h : Hub) (n q : Nat) (f : CanFrame) : (h.canQueue n q f).draws = h.draws := by
  simp [Hub.canQueue]
@[simp] theorem Hub.canQueue_out (h : Hub) (n q : Nat) (f : CanFrame) : (h.canQueue n q f).out = h.out := by
  simp [Hub.canQueue]
@[simp] theorem Hub.canQueue_od (h : Hub) (n q : Nat) (f : CanFrame) : (h.canQueue n q f).od = h.od := by
  simp [Hub.canQueue]
@[simp] theorem Hub.canQueue_blob (h : Hub) (n q : Nat) (f : CanFrame) : (h.canQueue n q f).blob = h.blob := by
  simp [Hub.canQueue]
@[simp] theorem Hub.canQueue_regs (h : Hub) (n q : Nat) (f : CanFrame) : (h.canQueue n q f).regs = h.regs := by
  simp [Hub.canQueue]
@[simp] theorem Hub.canQueue_mem (h : Hub) (n q : Nat) (f : CanFrame) : (h.canQueue n q f).mem = h.mem := by
  simp [Hub.canQueue]
@[simp] theorem Hub.canQueue_kram (h : Hub) (n q : Nat) (f : CanFrame) : (h.canQueue n q f).kram = h.kram := by
  simp [Hub.canQueue]
@[simp] theorem Hub.canQueue_mode (h : Hub) (n q : Nat) (f : CanFrame) : (h.canQueue n q f).mode = h.mode := by
  simp [Hub.canQueue]
@[simp] theorem Hub.canQueue_ctl (h : Hub) (n q : Nat) (f : CanFrame) : (h.canQueue n q f).ctl = h.ctl := by
  simp [Hub.canQueue]
@[simp] theorem Hub.canQueue_evt (h : Hub) (n q : Nat) (f : CanFrame) : (h.canQueue n q f).evt = h.evt := by
  simp [Hub.canQueue]
@[simp] theorem Hub.canQueue_lanes (h : Hub) (n q : Nat) (f : CanFrame) : (h.canQueue n q f).lanes = h.lanes := by
  simp [Hub.canQueue]
@[simp] theorem Hub.canQueue_links (h : Hub) (n q : Nat) (f : CanFrame) : (h.canQueue n q f).links = h.links := by
  simp [Hub.canQueue]
@[simp] theorem Hub.canQueue_tun (h : Hub) (n q : Nat) (f : CanFrame) : (h.canQueue n q f).tun = h.tun := by
  simp [Hub.canQueue]
@[simp] theorem Hub.canQueue_plan (h : Hub) (n q : Nat) (f : CanFrame) : (h.canQueue n q f).plan = h.plan := by
  simp [Hub.canQueue]
@[simp] theorem Hub.canQueue_eng (h : Hub) (n q : Nat) (f : CanFrame) : (h.canQueue n q f).eng = h.eng := by
  simp [Hub.canQueue]
@[simp] theorem Hub.canQueue_sw (h : Hub) (n q : Nat) (f : CanFrame) : (h.canQueue n q f).sw = h.sw := by
  simp [Hub.canQueue]
@[simp] theorem Hub.canQueue_bcn (h : Hub) (n q : Nat) (f : CanFrame) : (h.canQueue n q f).bcn = h.bcn := by
  simp [Hub.canQueue]
@[simp] theorem Hub.canQueue_dm (h : Hub) (n q : Nat) (f : CanFrame) : (h.canQueue n q f).dm = h.dm := by
  simp [Hub.canQueue]
@[simp] theorem Hub.canQueue_vid (h : Hub) (n q : Nat) (f : CanFrame) : (h.canQueue n q f).vid = h.vid := by
  simp [Hub.canQueue]
@[simp] theorem Hub.canQueue_usb (h : Hub) (n q : Nat) (f : CanFrame) : (h.canQueue n q f).usb = h.usb := by
  simp [Hub.canQueue]
@[simp] theorem Hub.canQueue_hb (h : Hub) (n q : Nat) (f : CanFrame) : (h.canQueue n q f).hb = h.hb := by
  simp [Hub.canQueue]
@[simp] theorem Hub.canQueue_pair (h : Hub) (n q : Nat) (f : CanFrame) : (h.canQueue n q f).pair = h.pair := by
  simp [Hub.canQueue]
@[simp] theorem Hub.canQueue_moor (h : Hub) (n q : Nat) (f : CanFrame) : (h.canQueue n q f).moor = h.moor := by
  simp [Hub.canQueue]
@[simp] theorem Hub.canQueue_sec (h : Hub) (n q : Nat) (f : CanFrame) : (h.canQueue n q f).sec = h.sec := by
  simp [Hub.canQueue]
@[simp] theorem Hub.canQueue_pwr (h : Hub) (n q : Nat) (f : CanFrame) : (h.canQueue n q f).pwr = h.pwr := by
  simp [Hub.canQueue]
@[simp] theorem Hub.canQueue_obs (h : Hub) (n q : Nat) (f : CanFrame) : (h.canQueue n q f).obs = h.obs := by
  simp [Hub.canQueue]

/-! `Hub.odapSend` writes nothing but `io`. -/

@[simp] theorem Hub.odapSend_clock (h : Hub) (n c : Nat) (d : Bytes) : (h.odapSend n c d).clock = h.clock := by
  unfold Hub.odapSend; dsimp only; split_ifs <;> simp
@[simp] theorem Hub.odapSend_draws (h : Hub) (n c : Nat) (d : Bytes) : (h.odapSend n c d).draws = h.draws := by
  unfold Hub.odapSend; dsimp only; split_ifs <;> simp
@[simp] theorem Hub.odapSend_out (h : Hub) (n c : Nat) (d : Bytes) : (h.odapSend n c d).out = h.out := by
  unfold Hub.odapSend; dsimp only; split_ifs <;> simp
@[simp] theorem Hub.odapSend_od (h : Hub) (n c : Nat) (d : Bytes) : (h.odapSend n c d).od = h.od := by
  unfold Hub.odapSend; dsimp only; split_ifs <;> simp
@[simp] theorem Hub.odapSend_blob (h : Hub) (n c : Nat) (d : Bytes) : (h.odapSend n c d).blob = h.blob := by
  unfold Hub.odapSend; dsimp only; split_ifs <;> simp
@[simp] theorem Hub.odapSend_regs (h : Hub) (n c : Nat) (d : Bytes) : (h.odapSend n c d).regs = h.regs := by
  unfold Hub.odapSend; dsimp only; split_ifs <;> simp
@[simp] theorem Hub.odapSend_mem (h : Hub) (n c : Nat) (d : Bytes) : (h.odapSend n c d).mem = h.mem := by
  unfold Hub.odapSend; dsimp only; split_ifs <;> simp
@[simp] theorem Hub.odapSend_kram (h : Hub) (n c : Nat) (d : Bytes) : (h.odapSend n c d).kram = h.kram := by
  unfold Hub.odapSend; dsimp only; split_ifs <;> simp
@[simp] theorem Hub.odapSend_mode (h : Hub) (n c : Nat) (d : Bytes) : (h.odapSend n c d).mode = h.mode := by
  unfold Hub.odapSend; dsimp only; split_ifs <;> simp
@[simp] theorem Hub.odapSend_ctl (h : Hub) (n c : Nat) (d : Bytes) : (h.odapSend n c d).ctl = h.ctl := by
  unfold Hub.odapSend; dsimp only; split_ifs <;> simp
@[simp] theorem Hub.odapSend_evt (h : Hub) (n c : Nat) (d : Bytes) : (h.odapSend n c d).evt = h.evt := by
  unfold Hub.odapSend; dsimp only; split_ifs <;> simp
@[simp] theorem Hub.odapSend_lanes (h : Hub) (n c : Nat) (d : Bytes) : (h.odapSend n c d).lanes = h.lanes := by
  unfold Hub.odapSend; dsimp only; split_ifs <;> simp
@[simp] theorem Hub.odapSend_links (h : Hub) (n c : Nat) (d : Bytes) : (h.odapSend n c d).links = h.links := by
  unfold Hub.odapSend; dsimp only; split_ifs <;> simp
@[simp] theorem Hub.odapSend_tun (h : Hub) (n c : Nat) (d : Bytes) : (h.odapSend n c d).tun = h.tun := by
  unfold Hub.odapSend; dsimp only; split_ifs <;> simp
@[simp] theorem Hub.odapSend_plan (h : Hub) (n c : Nat) (d : Bytes) : (h.odapSend n c d).plan = h.plan := by
  unfold Hub.odapSend; dsimp only; split_ifs <;> simp
@[simp] theorem Hub.odapSend_eng (h : Hub) (n c : Nat) (d : Bytes) : (h.odapSend n c d).eng = h.eng := by
  unfold Hub.odapSend; dsimp only; split_ifs <;> simp
@[simp] theorem Hub.odapSend_sw (h : Hub) (n c : Nat) (d : Bytes) : (h.odapSend n c d).sw = h.sw := by
  unfold Hub.odapSend; dsimp only; split_ifs <;> simp
@[simp] theorem Hub.odapSend_bcn (h : Hub) (n c : Nat) (d : Bytes) : (h.odapSend n c d).bcn = h.bcn := by
  unfold Hub.odapSend; dsimp only; split_ifs <;> simp
@[simp] theorem Hub.odapSend_dm (h : Hub) (n c : Nat) (d : Bytes) : (h.odapSend n c d).dm = h.dm := by
  unfold Hub.odapSend; dsimp only; split_ifs <;> simp
@[simp] theorem Hub.odapSend_vid (h : Hub) (n c : Nat) (d : Bytes) : (h.odapSend n c d).vid = h.vid := by
  unfold Hub.odapSend; dsimp only; split_ifs <;> simp
@[simp] theorem Hub.odapSend_usb (h : Hub) (n c : Nat) (d : Bytes) : (h.odapSend n c d).usb = h.usb := by
  unfold Hub.odapSend; dsimp only; split_ifs <;> simp
@[simp] theorem Hub.odapSend_hb (h : Hub) (n c : Nat) (d : Bytes) : (h.odapSend n c d).hb = h.hb := by
  unfold Hub.odapSend; dsimp only; split_ifs <;> simp
@[simp] theorem Hub.odapSend_pair (h : Hub) (n c : Nat) (d : Bytes) : (h.odapSend n c d).pair = h.pair := by
  unfold Hub.odapSend; dsimp only; split_ifs <;> simp
@[simp] theorem Hub.odapSend_moor (h : Hub) (n c : Nat) (d : Bytes) : (h.odapSend n c d).moor = h.moor := by
  unfold Hub.odapSend; dsimp only; split_ifs <;> simp
@[simp] theorem Hub.odapSend_sec (h : Hub) (n c : Nat) (d : Bytes) : (h.odapSend n c d).sec = h.sec := by
  unfold Hub.odapSend; dsimp only; split_ifs <;> simp
@[simp] theorem Hub.odapSend_pwr (h : Hub) (n c : Nat) (d : Bytes) : (h.odapSend n c d).pwr = h.pwr := by
  unfold Hub.odapSend; dsimp only; split_ifs <;> simp
@[simp] theorem Hub.odapSend_obs (h : Hub) (n c : Nat) (d : Bytes) : (h.odapSend n c d).obs = h.obs := by
  unfold Hub.odapSend; dsimp only; split_ifs <;> simp

/-! `Hub.odapAbort` writes nothing but `ctl`, `io`. -/

@[simp] theorem Hub.odapAbort_clock (h : Hub) (n c i s : Nat) (a : Abort) : (h.odapAbort n c i s a).clock = h.clock := by
  unfold Hub.odapAbort; simp [Hub.dropTransfer]
@[simp] theorem Hub.odapAbort_draws (h : Hub) (n c i s : Nat) (a : Abort) : (h.odapAbort n c i s a).draws = h.draws := by
  unfold Hub.odapAbort; simp [Hub.dropTransfer]
@[simp] theorem Hub.odapAbort_out (h : Hub) (n c i s : Nat) (a : Abort) : (h.odapAbort n c i s a).out = h.out := by
  unfold Hub.odapAbort; simp [Hub.dropTransfer]
@[simp] theorem Hub.odapAbort_od (h : Hub) (n c i s : Nat) (a : Abort) : (h.odapAbort n c i s a).od = h.od := by
  unfold Hub.odapAbort; simp [Hub.dropTransfer]
@[simp] theorem Hub.odapAbort_blob (h : Hub) (n c i s : Nat) (a : Abort) : (h.odapAbort n c i s a).blob = h.blob := by
  unfold Hub.odapAbort; simp [Hub.dropTransfer]
@[simp] theorem Hub.odapAbort_regs (h : Hub) (n c i s : Nat) (a : Abort) : (h.odapAbort n c i s a).regs = h.regs := by
  unfold Hub.odapAbort; simp [Hub.dropTransfer]
@[simp] theorem Hub.odapAbort_mem (h : Hub) (n c i s : Nat) (a : Abort) : (h.odapAbort n c i s a).mem = h.mem := by
  unfold Hub.odapAbort; simp [Hub.dropTransfer]
@[simp] theorem Hub.odapAbort_kram (h : Hub) (n c i s : Nat) (a : Abort) : (h.odapAbort n c i s a).kram = h.kram := by
  unfold Hub.odapAbort; simp [Hub.dropTransfer]
@[simp] theorem Hub.odapAbort_mode (h : Hub) (n c i s : Nat) (a : Abort) : (h.odapAbort n c i s a).mode = h.mode := by
  unfold Hub.odapAbort; simp [Hub.dropTransfer]
@[simp] theorem Hub.odapAbort_evt (h : Hub) (n c i s : Nat) (a : Abort) : (h.odapAbort n c i s a).evt = h.evt := by
  unfold Hub.odapAbort; simp [Hub.dropTransfer]
@[simp] theorem Hub.odapAbort_lanes (h : Hub) (n c i s : Nat) (a : Abort) : (h.odapAbort n c i s a).lanes = h.lanes := by
  unfold Hub.odapAbort; simp [Hub.dropTransfer]
@[simp] theorem Hub.odapAbort_links (h : Hub) (n c i s : Nat) (a : Abort) : (h.odapAbort n c i s a).links = h.links := by
  unfold Hub.odapAbort; simp [Hub.dropTransfer]
@[simp] theorem Hub.odapAbort_tun (h : Hub) (n c i s : Nat) (a : Abort) : (h.odapAbort n c i s a).tun = h.tun := by
  unfold Hub.odapAbort; simp [Hub.dropTransfer]
@[simp] theorem Hub.odapAbort_plan (h : Hub) (n c i s : Nat) (a : Abort) : (h.odapAbort n c i s a).plan = h.plan := by
  unfold Hub.odapAbort; simp [Hub.dropTransfer]
@[simp] theorem Hub.odapAbort_eng (h : Hub) (n c i s : Nat) (a : Abort) : (h.odapAbort n c i s a).eng = h.eng := by
  unfold Hub.odapAbort; simp [Hub.dropTransfer]
@[simp] theorem Hub.odapAbort_sw (h : Hub) (n c i s : Nat) (a : Abort) : (h.odapAbort n c i s a).sw = h.sw := by
  unfold Hub.odapAbort; simp [Hub.dropTransfer]
@[simp] theorem Hub.odapAbort_bcn (h : Hub) (n c i s : Nat) (a : Abort) : (h.odapAbort n c i s a).bcn = h.bcn := by
  unfold Hub.odapAbort; simp [Hub.dropTransfer]
@[simp] theorem Hub.odapAbort_dm (h : Hub) (n c i s : Nat) (a : Abort) : (h.odapAbort n c i s a).dm = h.dm := by
  unfold Hub.odapAbort; simp [Hub.dropTransfer]
@[simp] theorem Hub.odapAbort_vid (h : Hub) (n c i s : Nat) (a : Abort) : (h.odapAbort n c i s a).vid = h.vid := by
  unfold Hub.odapAbort; simp [Hub.dropTransfer]
@[simp] theorem Hub.odapAbort_usb (h : Hub) (n c i s : Nat) (a : Abort) : (h.odapAbort n c i s a).usb = h.usb := by
  unfold Hub.odapAbort; simp [Hub.dropTransfer]
@[simp] theorem Hub.odapAbort_hb (h : Hub) (n c i s : Nat) (a : Abort) : (h.odapAbort n c i s a).hb = h.hb := by
  unfold Hub.odapAbort; simp [Hub.dropTransfer]
@[simp] theorem Hub.odapAbort_pair (h : Hub) (n c i s : Nat) (a : Abort) : (h.odapAbort n c i s a).pair = h.pair := by
  unfold Hub.odapAbort; simp [Hub.dropTransfer]
@[simp] theorem Hub.odapAbort_moor (h : Hub) (n c i s : Nat) (a : Abort) : (h.odapAbort n c i s a).moor = h.moor := by
  unfold Hub.odapAbort; simp [Hub.dropTransfer]
@[simp] theorem Hub.odapAbort_sec (h : Hub) (n c i s : Nat) (a : Abort) : (h.odapAbort n c i s a).sec = h.sec := by
  unfold Hub.odapAbort; simp [Hub.dropTransfer]
@[simp] theorem Hub.odapAbort_pwr (h : Hub) (n c i s : Nat) (a : Abort) : (h.odapAbort n c i s a).pwr = h.pwr := by
  unfold Hub.odapAbort; simp [Hub.dropTransfer]
@[simp] theorem Hub.odapAbort_obs (h : Hub) (n c i s : Nat) (a : Abort) : (h.odapAbort n c i s a).obs = h.obs := by
  unfold Hub.odapAbort; simp [Hub.dropTransfer]

/-! `Hub.odapAnswer` writes nothing but `ctl`, `io`. -/

@[simp] theorem Hub.odapAnswer_clock (h : Hub) (t : OdapTransfer) (st : Abort) (d : Bytes) : (h.odapAnswer t st d).clock = h.clock := by
  unfold Hub.odapAnswer; dsimp only; split_ifs <;> simp [Hub.dropTransfer, Hub.putTransfer]
@[simp] theorem Hub.odapAnswer_draws (h : Hub) (t : OdapTransfer) (st : Abort) (d : Bytes) : (h.odapAnswer t st d).draws = h.draws := by
  unfold Hub.odapAnswer; dsimp only; split_ifs <;> simp [Hub.dropTransfer, Hub.putTransfer]
@[simp] theorem Hub.odapAnswer_out (h : Hub) (t : OdapTransfer) (st : Abort) (d : Bytes) : (h.odapAnswer t st d).out = h.out := by
  unfold Hub.odapAnswer; dsimp only; split_ifs <;> simp [Hub.dropTransfer, Hub.putTransfer]
@[simp] theorem Hub.odapAnswer_od (h : Hub) (t : OdapTransfer) (st : Abort) (d : Bytes) : (h.odapAnswer t st d).od = h.od := by
  unfold Hub.odapAnswer; dsimp only; split_ifs <;> simp [Hub.dropTransfer, Hub.putTransfer]
@[simp] theorem Hub.odapAnswer_blob (h : Hub) (t : OdapTransfer) (st : Abort) (d : Bytes) : (h.odapAnswer t st d).blob = h.blob := by
  unfold Hub.odapAnswer; dsimp only; split_ifs <;> simp [Hub.dropTransfer, Hub.putTransfer]
@[simp] theorem Hub.odapAnswer_regs (h : Hub) (t : OdapTransfer) (st : Abort) (d : Bytes) : (h.odapAnswer t st d).regs = h.regs := by
  unfold Hub.odapAnswer; dsimp only; split_ifs <;> simp [Hub.dropTransfer, Hub.putTransfer]
@[simp] theorem Hub.odapAnswer_mem (h : Hub) (t : OdapTransfer) (st : Abort) (d : Bytes) : (h.odapAnswer t st d).mem = h.mem := by
  unfold Hub.odapAnswer; dsimp only; split_ifs <;> simp [Hub.dropTransfer, Hub.putTransfer]
@[simp] theorem Hub.odapAnswer_kram (h : Hub) (t : OdapTransfer) (st : Abort) (d : Bytes) : (h.odapAnswer t st d).kram = h.kram := by
  unfold Hub.odapAnswer; dsimp only; split_ifs <;> simp [Hub.dropTransfer, Hub.putTransfer]
@[simp] theorem Hub.odapAnswer_mode (h : Hub) (t : OdapTransfer) (st : Abort) (d : Bytes) : (h.odapAnswer t st d).mode = h.mode := by
  unfold Hub.odapAnswer; dsimp only; split_ifs <;> simp [Hub.dropTransfer, Hub.putTransfer]
@[simp] theorem Hub.odapAnswer_evt (h : Hub) (t : OdapTransfer) (st : Abort) (d : Bytes) : (h.odapAnswer t st d).evt = h.evt := by
  unfold Hub.odapAnswer; dsimp only; split_ifs <;> simp [Hub.dropTransfer, Hub.putTransfer]
@[simp] theorem Hub.odapAnswer_lanes (h : Hub) (t : OdapTransfer) (st : Abort) (d : Bytes) : (h.odapAnswer t st d).lanes = h.lanes := by
  unfold Hub.odapAnswer; dsimp only; split_ifs <;> simp [Hub.dropTransfer, Hub.putTransfer]
@[simp] theorem Hub.odapAnswer_links (h : Hub) (t : OdapTransfer) (st : Abort) (d : Bytes) : (h.odapAnswer t st d).links = h.links := by
  unfold Hub.odapAnswer; dsimp only; split_ifs <;> simp [Hub.dropTransfer, Hub.putTransfer]
@[simp] theorem Hub.odapAnswer_tun (h : Hub) (t : OdapTransfer) (st : Abort) (d : Bytes) : (h.odapAnswer t st d).tun = h.tun := by
  unfold Hub.odapAnswer; dsimp only; split_ifs <;> simp [Hub.dropTransfer, Hub.putTransfer]
@[simp] theorem Hub.odapAnswer_plan (h : Hub) (t : OdapTransfer) (st : Abort) (d : Bytes) : (h.odapAnswer t st d).plan = h.plan := by
  unfold Hub.odapAnswer; dsimp only; split_ifs <;> simp [Hub.dropTransfer, Hub.putTransfer]
@[simp] theorem Hub.odapAnswer_eng (h : Hub) (t : OdapTransfer) (st : Abort) (d : Bytes) : (h.odapAnswer t st d).eng = h.eng := by
  unfold Hub.odapAnswer; dsimp only; split_ifs <;> simp [Hub.dropTransfer, Hub.putTransfer]
@[simp] theorem Hub.odapAnswer_sw (h : Hub) (t : OdapTransfer) (st : Abort) (d : Bytes) : (h.odapAnswer t st d).sw = h.sw := by
  unfold Hub.odapAnswer; dsimp only; split_ifs <;> simp [Hub.dropTransfer, Hub.putTransfer]
@[simp] theorem Hub.odapAnswer_bcn (h : Hub) (t : OdapTransfer) (st : Abort) (d : Bytes) : (h.odapAnswer t st d).bcn = h.bcn := by
  unfold Hub.odapAnswer; dsimp only; split_ifs <;> simp [Hub.dropTransfer, Hub.putTransfer]
@[simp] theorem Hub.odapAnswer_dm (h : Hub) (t : OdapTransfer) (st : Abort) (d : Bytes) : (h.odapAnswer t st d).dm = h.dm := by
  unfold Hub.odapAnswer; dsimp only; split_ifs <;> simp [Hub.dropTransfer, Hub.putTransfer]
@[simp] theorem Hub.odapAnswer_vid (h : Hub) (t : OdapTransfer) (st : Abort) (d : Bytes) : (h.odapAnswer t st d).vid = h.vid := by
  unfold Hub.odapAnswer; dsimp only; split_ifs <;> simp [Hub.dropTransfer, Hub.putTransfer]
@[simp] theorem Hub.odapAnswer_usb (h : Hub) (t : OdapTransfer) (st : Abort) (d : Bytes) : (h.odapAnswer t st d).usb = h.usb := by
  unfold Hub.odapAnswer; dsimp only; split_ifs <;> simp [Hub.dropTransfer, Hub.putTransfer]
@[simp] theorem Hub.odapAnswer_hb (h : Hub) (t : OdapTransfer) (st : Abort) (d : Bytes) : (h.odapAnswer t st d).hb = h.hb := by
  unfold Hub.odapAnswer; dsimp only; split_ifs <;> simp [Hub.dropTransfer, Hub.putTransfer]
@[simp] theorem Hub.odapAnswer_pair (h : Hub) (t : OdapTransfer) (st : Abort) (d : Bytes) : (h.odapAnswer t st d).pair = h.pair := by
  unfold Hub.odapAnswer; dsimp only; split_ifs <;> simp [Hub.dropTransfer, Hub.putTransfer]
@[simp] theorem Hub.odapAnswer_moor (h : Hub) (t : OdapTransfer) (st : Abort) (d : Bytes) : (h.odapAnswer t st d).moor = h.moor := by
  unfold Hub.odapAnswer; dsimp only; split_ifs <;> simp [Hub.dropTransfer, Hub.putTransfer]
@[simp] theorem Hub.odapAnswer_sec (h : Hub) (t : OdapTransfer) (st : Abort) (d : Bytes) : (h.odapAnswer t st d).sec = h.sec := by
  unfold Hub.odapAnswer; dsimp only; split_ifs <;> simp [Hub.dropTransfer, Hub.putTransfer]
@[simp] theorem Hub.odapAnswer_pwr (h : Hub) (t : OdapTransfer) (st : Abort) (d : Bytes) : (h.odapAnswer t st d).pwr = h.pwr := by
  unfold Hub.odapAnswer; dsimp only; split_ifs <;> simp [Hub.dropTransfer, Hub.putTransfer]
@[simp] theorem Hub.odapAnswer_obs (h : Hub) (t : OdapTransfer) (st : Abort) (d : Bytes) : (h.odapAnswer t st d).obs = h.obs := by
  unfold Hub.odapAnswer; dsimp only; split_ifs <;> simp [Hub.dropTransfer, Hub.putTransfer]

/-! `Hub.sysPut` writes nothing but `eng`. -/

@[simp] theorem Hub.sysPut_clock (h : Hub) (p : Nat) (d : Bytes) : (h.sysPut p d).clock = h.clock := rfl
@[simp] theorem Hub.sysPut_draws (h : Hub) (p : Nat) (d : Bytes) : (h.sysPut p d).draws = h.draws := rfl
@[simp] theorem Hub.sysPut_out (h : Hub) (p : Nat) (d : Bytes) : (h.sysPut p d).out = h.out := rfl
@[simp] theorem Hub.sysPut_od (h : Hub) (p : Nat) (d : Bytes) : (h.sysPut p d).od = h.od := rfl
@[simp] theorem Hub.sysPut_blob (h : Hub) (p : Nat) (d : Bytes) : (h.sysPut p d).blob = h.blob := rfl
@[simp] theorem Hub.sysPut_regs (h : Hub) (p : Nat) (d : Bytes) : (h.sysPut p d).regs = h.regs := rfl
@[simp] theorem Hub.sysPut_mem (h : Hub) (p : Nat) (d : Bytes) : (h.sysPut p d).mem = h.mem := rfl
@[simp] theorem Hub.sysPut_kram (h : Hub) (p : Nat) (d : Bytes) : (h.sysPut p d).kram = h.kram := rfl
@[simp] theorem Hub.sysPut_mode (h : Hub) (p : Nat) (d : Bytes) : (h.sysPut p d).mode = h.mode := rfl
@[simp] theorem Hub.sysPut_ctl (h : Hub) (p : Nat) (d : Bytes) : (h.sysPut p d).ctl = h.ctl := rfl
@[simp] theorem Hub.sysPut_evt (h : Hub) (p : Nat) (d : Bytes) : (h.sysPut p d).evt = h.evt := rfl
@[simp] theorem Hub.sysPut_lanes (h : Hub) (p : Nat) (d : Bytes) : (h.sysPut p d).lanes = h.lanes := rfl
@[simp] theorem Hub.sysPut_links (h : Hub) (p : Nat) (d : Bytes) : (h.sysPut p d).links = h.links := rfl
@[simp] theorem Hub.sysPut_tun (h : Hub) (p : Nat) (d : Bytes) : (h.sysPut p d).tun = h.tun := rfl
@[simp] theorem Hub.sysPut_plan (h : Hub) (p : Nat) (d : Bytes) : (h.sysPut p d).plan = h.plan := rfl
@[simp] theorem Hub.sysPut_sw (h : Hub) (p : Nat) (d : Bytes) : (h.sysPut p d).sw = h.sw := rfl
@[simp] theorem Hub.sysPut_bcn (h : Hub) (p : Nat) (d : Bytes) : (h.sysPut p d).bcn = h.bcn := rfl
@[simp] theorem Hub.sysPut_dm (h : Hub) (p : Nat) (d : Bytes) : (h.sysPut p d).dm = h.dm := rfl
@[simp] theorem Hub.sysPut_io (h : Hub) (p : Nat) (d : Bytes) : (h.sysPut p d).io = h.io := rfl
@[simp] theorem Hub.sysPut_vid (h : Hub) (p : Nat) (d : Bytes) : (h.sysPut p d).vid = h.vid := rfl
@[simp] theorem Hub.sysPut_usb (h : Hub) (p : Nat) (d : Bytes) : (h.sysPut p d).usb = h.usb := rfl
@[simp] theorem Hub.sysPut_hb (h : Hub) (p : Nat) (d : Bytes) : (h.sysPut p d).hb = h.hb := rfl
@[simp] theorem Hub.sysPut_pair (h : Hub) (p : Nat) (d : Bytes) : (h.sysPut p d).pair = h.pair := rfl
@[simp] theorem Hub.sysPut_moor (h : Hub) (p : Nat) (d : Bytes) : (h.sysPut p d).moor = h.moor := rfl
@[simp] theorem Hub.sysPut_sec (h : Hub) (p : Nat) (d : Bytes) : (h.sysPut p d).sec = h.sec := rfl
@[simp] theorem Hub.sysPut_pwr (h : Hub) (p : Nat) (d : Bytes) : (h.sysPut p d).pwr = h.pwr := rfl
@[simp] theorem Hub.sysPut_obs (h : Hub) (p : Nat) (d : Bytes) : (h.sysPut p d).obs = h.obs := rfl

/-! `Hub.sysOut` writes nothing but `out`, `eng`. -/

@[simp] theorem Hub.sysOut_clock (h : Hub) (p : Nat) (m : SysMsg) : (h.sysOut p m).clock = h.clock := by
  unfold Hub.sysOut; split_ifs <;> rfl
@[simp] theorem Hub.sysOut_draws (h : Hub) (p : Nat) (m : SysMsg) : (h.sysOut p m).draws = h.draws := by
  unfold Hub.sysOut; split_ifs <;> rfl
@[simp] theorem Hub.sysOut_od (h : Hub) (p : Nat) (m : SysMsg) : (h.sysOut p m).od = h.od := by
  unfold Hub.sysOut; split_ifs <;> rfl
@[simp] theorem Hub.sysOut_blob (h : Hub) (p : Nat) (m : SysMsg) : (h.sysOut p m).blob = h.blob := by
  unfold Hub.sysOut; split_ifs <;> rfl
@[simp] theorem Hub.sysOut_regs (h : Hub) (p : Nat) (m : SysMsg) : (h.sysOut p m).regs = h.regs := by
  unfold Hub.sysOut; split_ifs <;> rfl
@[simp] theorem Hub.sysOut_mem (h : Hub) (p : Nat) (m : SysMsg) : (h.sysOut p m).mem = h.mem := by
  unfold Hub.sysOut; split_ifs <;> rfl
@[simp] theorem Hub.sysOut_kram (h : Hub) (p : Nat) (m : SysMsg) : (h.sysOut p m).kram = h.kram := by
  unfold Hub.sysOut; split_ifs <;> rfl
@[simp] theorem Hub.sysOut_mode (h : Hub) (p : Nat) (m : SysMsg) : (h.sysOut p m).mode = h.mode := by
  unfold Hub.sysOut; split_ifs <;> rfl
@[simp] theorem Hub.sysOut_ctl (h : Hub) (p : Nat) (m : SysMsg) : (h.sysOut p m).ctl = h.ctl := by
  unfold Hub.sysOut; split_ifs <;> rfl
@[simp] theorem Hub.sysOut_evt (h : Hub) (p : Nat) (m : SysMsg) : (h.sysOut p m).evt = h.evt := by
  unfold Hub.sysOut; split_ifs <;> rfl
@[simp] theorem Hub.sysOut_lanes (h : Hub) (p : Nat) (m : SysMsg) : (h.sysOut p m).lanes = h.lanes := by
  unfold Hub.sysOut; split_ifs <;> rfl
@[simp] theorem Hub.sysOut_links (h : Hub) (p : Nat) (m : SysMsg) : (h.sysOut p m).links = h.links := by
  unfold Hub.sysOut; split_ifs <;> rfl
@[simp] theorem Hub.sysOut_tun (h : Hub) (p : Nat) (m : SysMsg) : (h.sysOut p m).tun = h.tun := by
  unfold Hub.sysOut; split_ifs <;> rfl
@[simp] theorem Hub.sysOut_plan (h : Hub) (p : Nat) (m : SysMsg) : (h.sysOut p m).plan = h.plan := by
  unfold Hub.sysOut; split_ifs <;> rfl
@[simp] theorem Hub.sysOut_sw (h : Hub) (p : Nat) (m : SysMsg) : (h.sysOut p m).sw = h.sw := by
  unfold Hub.sysOut; split_ifs <;> rfl
@[simp] theorem Hub.sysOut_bcn (h : Hub) (p : Nat) (m : SysMsg) : (h.sysOut p m).bcn = h.bcn := by
  unfold Hub.sysOut; split_ifs <;> rfl
@[simp] theorem Hub.sysOut_dm (h : Hub) (p : Nat) (m : SysMsg) : (h.sysOut p m).dm = h.dm := by
  unfold Hub.sysOut; split_ifs <;> rfl
@[simp] theorem Hub.sysOut_io (h : Hub) (p : Nat) (m : SysMsg) : (h.sysOut p m).io = h.io := by
  unfold Hub.sysOut; split_ifs <;> rfl
@[simp] theorem Hub.sysOut_vid (h : Hub) (p : Nat) (m : SysMsg) : (h.sysOut p m).vid = h.vid := by
  unfold Hub.sysOut; split_ifs <;> rfl
@[simp] theorem Hub.sysOut_usb (h : Hub) (p : Nat) (m : SysMsg) : (h.sysOut p m).usb = h.usb := by
  unfold Hub.sysOut; split_ifs <;> rfl
@[simp] theorem Hub.sysOut_hb (h : Hub) (p : Nat) (m : SysMsg) : (h.sysOut p m).hb = h.hb := by
  unfold Hub.sysOut; split_ifs <;> rfl
@[simp] theorem Hub.sysOut_pair (h : Hub) (p : Nat) (m : SysMsg) : (h.sysOut p m).pair = h.pair := by
  unfold Hub.sysOut; split_ifs <;> rfl
@[simp] theorem Hub.sysOut_moor (h : Hub) (p : Nat) (m : SysMsg) : (h.sysOut p m).moor = h.moor := by
  unfold Hub.sysOut; split_ifs <;> rfl
@[simp] theorem Hub.sysOut_sec (h : Hub) (p : Nat) (m : SysMsg) : (h.sysOut p m).sec = h.sec := by
  unfold Hub.sysOut; split_ifs <;> rfl
@[simp] theorem Hub.sysOut_pwr (h : Hub) (p : Nat) (m : SysMsg) : (h.sysOut p m).pwr = h.pwr := by
  unfold Hub.sysOut; split_ifs <;> rfl
@[simp] theorem Hub.sysOut_obs (h : Hub) (p : Nat) (m : SysMsg) : (h.sysOut p m).obs = h.obs := by
  unfold Hub.sysOut; split_ifs <;> rfl

/-! `Hub.answer` writes nothing but `out`, `ctl`, `eng`, `io`. -/

@[simp] theorem Hub.answer_clock (h : Hub) (r : Path) (st : Abort) (d : Bytes) : (h.answer r st d).clock = h.clock := by
  unfold Hub.answer; dsimp only; repeat' split
  all_goals simp [Hub.sysRespond]
@[simp] theorem Hub.answer_draws (h : Hub) (r : Path) (st : Abort) (d : Bytes) : (h.answer r st d).draws = h.draws := by
  unfold Hub.answer; dsimp only; repeat' split
  all_goals simp [Hub.sysRespond]
@[simp] theorem Hub.answer_od (h : Hub) (r : Path) (st : Abort) (d : Bytes) : (h.answer r st d).od = h.od := by
  unfold Hub.answer; dsimp only; repeat' split
  all_goals simp [Hub.sysRespond]
@[simp] theorem Hub.answer_blob (h : Hub) (r : Path) (st : Abort) (d : Bytes) : (h.answer r st d).blob = h.blob := by
  unfold Hub.answer; dsimp only; repeat' split
  all_goals simp [Hub.sysRespond]
@[simp] theorem Hub.answer_regs (h : Hub) (r : Path) (st : Abort) (d : Bytes) : (h.answer r st d).regs = h.regs := by
  unfold Hub.answer; dsimp only; repeat' split
  all_goals simp [Hub.sysRespond]
@[simp] theorem Hub.answer_mem (h : Hub) (r : Path) (st : Abort) (d : Bytes) : (h.answer r st d).mem = h.mem := by
  unfold Hub.answer; dsimp only; repeat' split
  all_goals simp [Hub.sysRespond]
@[simp] theorem Hub.answer_kram (h : Hub) (r : Path) (st : Abort) (d : Bytes) : (h.answer r st d).kram = h.kram := by
  unfold Hub.answer; dsimp only; repeat' split
  all_goals simp [Hub.sysRespond]
@[simp] theorem Hub.answer_mode (h : Hub) (r : Path) (st : Abort) (d : Bytes) : (h.answer r st d).mode = h.mode := by
  unfold Hub.answer; dsimp only; repeat' split
  all_goals simp [Hub.sysRespond]
@[simp] theorem Hub.answer_evt (h : Hub) (r : Path) (st : Abort) (d : Bytes) : (h.answer r st d).evt = h.evt := by
  unfold Hub.answer; dsimp only; repeat' split
  all_goals simp [Hub.sysRespond]
@[simp] theorem Hub.answer_lanes (h : Hub) (r : Path) (st : Abort) (d : Bytes) : (h.answer r st d).lanes = h.lanes := by
  unfold Hub.answer; dsimp only; repeat' split
  all_goals simp [Hub.sysRespond]
@[simp] theorem Hub.answer_links (h : Hub) (r : Path) (st : Abort) (d : Bytes) : (h.answer r st d).links = h.links := by
  unfold Hub.answer; dsimp only; repeat' split
  all_goals simp [Hub.sysRespond]
@[simp] theorem Hub.answer_tun (h : Hub) (r : Path) (st : Abort) (d : Bytes) : (h.answer r st d).tun = h.tun := by
  unfold Hub.answer; dsimp only; repeat' split
  all_goals simp [Hub.sysRespond]
@[simp] theorem Hub.answer_plan (h : Hub) (r : Path) (st : Abort) (d : Bytes) : (h.answer r st d).plan = h.plan := by
  unfold Hub.answer; dsimp only; repeat' split
  all_goals simp [Hub.sysRespond]
@[simp] theorem Hub.answer_sw (h : Hub) (r : Path) (st : Abort) (d : Bytes) : (h.answer r st d).sw = h.sw := by
  unfold Hub.answer; dsimp only; repeat' split
  all_goals simp [Hub.sysRespond]
@[simp] theorem Hub.answer_bcn (h : Hub) (r : Path) (st : Abort) (d : Bytes) : (h.answer r st d).bcn = h.bcn := by
  unfold Hub.answer; dsimp only; repeat' split
  all_goals simp [Hub.sysRespond]
@[simp] theorem Hub.answer_dm (h : Hub) (r : Path) (st : Abort) (d : Bytes) : (h.answer r st d).dm = h.dm := by
  unfold Hub.answer; dsimp only; repeat' split
  all_goals simp [Hub.sysRespond]
@[simp] theorem Hub.answer_vid (h : Hub) (r : Path) (st : Abort) (d : Bytes) : (h.answer r st d).vid = h.vid := by
  unfold Hub.answer; dsimp only; repeat' split
  all_goals simp [Hub.sysRespond]
@[simp] theorem Hub.answer_usb (h : Hub) (r : Path) (st : Abort) (d : Bytes) : (h.answer r st d).usb = h.usb := by
  unfold Hub.answer; dsimp only; repeat' split
  all_goals simp [Hub.sysRespond]
@[simp] theorem Hub.answer_hb (h : Hub) (r : Path) (st : Abort) (d : Bytes) : (h.answer r st d).hb = h.hb := by
  unfold Hub.answer; dsimp only; repeat' split
  all_goals simp [Hub.sysRespond]
@[simp] theorem Hub.answer_pair (h : Hub) (r : Path) (st : Abort) (d : Bytes) : (h.answer r st d).pair = h.pair := by
  unfold Hub.answer; dsimp only; repeat' split
  all_goals simp [Hub.sysRespond]
@[simp] theorem Hub.answer_moor (h : Hub) (r : Path) (st : Abort) (d : Bytes) : (h.answer r st d).moor = h.moor := by
  unfold Hub.answer; dsimp only; repeat' split
  all_goals simp [Hub.sysRespond]
@[simp] theorem Hub.answer_sec (h : Hub) (r : Path) (st : Abort) (d : Bytes) : (h.answer r st d).sec = h.sec := by
  unfold Hub.answer; dsimp only; repeat' split
  all_goals simp [Hub.sysRespond]
@[simp] theorem Hub.answer_pwr (h : Hub) (r : Path) (st : Abort) (d : Bytes) : (h.answer r st d).pwr = h.pwr := by
  unfold Hub.answer; dsimp only; repeat' split
  all_goals simp [Hub.sysRespond]
@[simp] theorem Hub.answer_obs (h : Hub) (r : Path) (st : Abort) (d : Bytes) : (h.answer r st d).obs = h.obs := by
  unfold Hub.answer; dsimp only; repeat' split
  all_goals simp [Hub.sysRespond]

/-! Within the parts of the hub that an update touches. -/

@[simp] theorem Hub.settle_evt_details (h : Hub) : (h.settle).evt.details = h.evt.details := rfl
@[simp] theorem Hub.settle_evt_waiting (h : Hub) : (h.settle).evt.waiting = h.evt.waiting := rfl
@[simp] theorem Hub.settle_evt_rings (h : Hub) : (h.settle).evt.rings = h.evt.rings := rfl
@[simp] theorem Hub.settle_evt_hold (h : Hub) : (h.settle).evt.hold = h.evt.hold := rfl
@[simp] theorem Hub.settle_evt_wakeLatch (h : Hub) : (h.settle).evt.wakeLatch = h.evt.wakeLatch := rfl
@[simp] theorem Hub.settle_mode_strap (h : Hub) : (h.settle).mode.strap = h.mode.strap := rfl
@[simp] theorem Hub.settle_mode_active (h : Hub) : (h.settle).mode.active = h.mode.active := rfl
@[simp] theorem Hub.settle_mode_confirmed (h : Hub) : (h.settle).mode.confirmed = h.mode.confirmed := rfl
@[simp] theorem Hub.settle_mode_fogCause (h : Hub) : (h.settle).mode.fogCause = h.mode.fogCause := rfl
@[simp] theorem Hub.settle_mode_before (h : Hub) : (h.settle).mode.before = h.mode.before := rfl
@[simp] theorem Hub.settle_mode_deadlineRunning (h : Hub) : (h.settle).mode.deadlineRunning = h.mode.deadlineRunning := rfl
@[simp] theorem Hub.settle_mode_retryRunning (h : Hub) : (h.settle).mode.retryRunning = h.mode.retryRunning := rfl
@[simp] theorem Hub.settle_mode_retrain (h : Hub) : (h.settle).mode.retrain = h.mode.retrain := rfl
@[simp] theorem Hub.settle_mode_pairConfig (h : Hub) : (h.settle).mode.pairConfig = h.mode.pairConfig := rfl
@[simp] theorem Hub.settle_mode_reseat (h : Hub) : (h.settle).mode.reseat = h.mode.reseat := rfl
@[simp] theorem Hub.setChan_ctl_mailbox (h : Hub) (c : Nat) (x : Channel) : (h.setChan c x).ctl.mailbox = h.ctl.mailbox := rfl
@[simp] theorem Hub.setChan_ctl_keeperQ (h : Hub) (c : Nat) (x : Channel) : (h.setChan c x).ctl.keeperQ = h.ctl.keeperQ := rfl
@[simp] theorem Hub.setChan_ctl_transfers (h : Hub) (c : Nat) (x : Channel) : (h.setChan c x).ctl.transfers = h.ctl.transfers := rfl
@[simp] theorem Hub.setChan_ctl_requests (h : Hub) (c : Nat) (x : Channel) : (h.setChan c x).ctl.requests = h.ctl.requests := rfl
@[simp] theorem Hub.setChan_ctl_relays (h : Hub) (c : Nat) (x : Channel) : (h.setChan c x).ctl.relays = h.ctl.relays := rfl
@[simp] theorem Hub.setChan_ctl_nextReqId (h : Hub) (c : Nat) (x : Channel) : (h.setChan c x).ctl.nextReqId = h.ctl.nextReqId := rfl
@[simp] theorem Hub.setChan_ctl_remote (h : Hub) (c : Nat) (x : Channel) : (h.setChan c x).ctl.remote = h.ctl.remote := rfl
@[simp] theorem Hub.setChan_ctl_odapIgnored (h : Hub) (c : Nat) (x : Channel) : (h.setChan c x).ctl.odapIgnored = h.ctl.odapIgnored := rfl
@[simp] theorem Hub.setChan_ctl_lateResponses (h : Hub) (c : Nat) (x : Channel) : (h.setChan c x).ctl.lateResponses = h.ctl.lateResponses := rfl
@[simp] theorem Hub.setChan_ctl_stored (h : Hub) (c : Nat) (x : Channel) : (h.setChan c x).ctl.stored = h.ctl.stored := rfl
@[simp] theorem Hub.setChan_ctl_configMeasure (h : Hub) (c : Nat) (x : Channel) : (h.setChan c x).ctl.configMeasure = h.ctl.configMeasure := rfl
@[simp] theorem Hub.setChan_ctl_configOp (h : Hub) (c : Nat) (x : Channel) : (h.setChan c x).ctl.configOp = h.ctl.configOp := rfl
@[simp] theorem Hub.setChan_ctl_configWritten (h : Hub) (c : Nat) (x : Channel) : (h.setChan c x).ctl.configWritten = h.ctl.configWritten := rfl
@[simp] theorem Hub.accept_ctl_mailbox (h : Hub) (c code tag : Nat) (b : Bytes) : (h.accept c code tag b).ctl.mailbox = h.ctl.mailbox := rfl
@[simp] theorem Hub.accept_ctl_keeperQ (h : Hub) (c code tag : Nat) (b : Bytes) : (h.accept c code tag b).ctl.keeperQ = h.ctl.keeperQ := rfl
@[simp] theorem Hub.accept_ctl_transfers (h : Hub) (c code tag : Nat) (b : Bytes) : (h.accept c code tag b).ctl.transfers = h.ctl.transfers := rfl
@[simp] theorem Hub.accept_ctl_requests (h : Hub) (c code tag : Nat) (b : Bytes) : (h.accept c code tag b).ctl.requests = h.ctl.requests := rfl
@[simp] theorem Hub.accept_ctl_relays (h : Hub) (c code tag : Nat) (b : Bytes) : (h.accept c code tag b).ctl.relays = h.ctl.relays := rfl
@[simp] theorem Hub.accept_ctl_nextReqId (h : Hub) (c code tag : Nat) (b : Bytes) : (h.accept c code tag b).ctl.nextReqId = h.ctl.nextReqId := rfl
@[simp] theorem Hub.accept_ctl_remote (h : Hub) (c code tag : Nat) (b : Bytes) : (h.accept c code tag b).ctl.remote = h.ctl.remote := rfl
@[simp] theorem Hub.accept_ctl_odapIgnored (h : Hub) (c code tag : Nat) (b : Bytes) : (h.accept c code tag b).ctl.odapIgnored = h.ctl.odapIgnored := rfl
@[simp] theorem Hub.accept_ctl_lateResponses (h : Hub) (c code tag : Nat) (b : Bytes) : (h.accept c code tag b).ctl.lateResponses = h.ctl.lateResponses := rfl
@[simp] theorem Hub.accept_ctl_stored (h : Hub) (c code tag : Nat) (b : Bytes) : (h.accept c code tag b).ctl.stored = h.ctl.stored := rfl
@[simp] theorem Hub.accept_ctl_configMeasure (h : Hub) (c code tag : Nat) (b : Bytes) : (h.accept c code tag b).ctl.configMeasure = h.ctl.configMeasure := rfl
@[simp] theorem Hub.accept_ctl_configOp (h : Hub) (c code tag : Nat) (b : Bytes) : (h.accept c code tag b).ctl.configOp = h.ctl.configOp := rfl
@[simp] theorem Hub.accept_ctl_configWritten (h : Hub) (c code tag : Nat) (b : Bytes) : (h.accept c code tag b).ctl.configWritten = h.ctl.configWritten := rfl
@[simp] theorem Hub.finish_ctl_mailbox (h : Hub) (c st : Nat) (d : Bytes) : (h.finish c st d).ctl.mailbox = h.ctl.mailbox := by
  unfold Hub.finish; dsimp only; split_ifs <;> rfl
@[simp] theorem Hub.finish_ctl_keeperQ (h : Hub) (c st : Nat) (d : Bytes) : (h.finish c st d).ctl.keeperQ = h.ctl.keeperQ := by
  unfold Hub.finish; dsimp only; split_ifs <;> rfl
@[simp] theorem Hub.finish_ctl_transfers (h : Hub) (c st : Nat) (d : Bytes) : (h.finish c st d).ctl.transfers = h.ctl.transfers := by
  unfold Hub.finish; dsimp only; split_ifs <;> rfl
@[simp] theorem Hub.finish_ctl_requests (h : Hub) (c st : Nat) (d : Bytes) : (h.finish c st d).ctl.requests = h.ctl.requests := by
  unfold Hub.finish; dsimp only; split_ifs <;> rfl
@[simp] theorem Hub.finish_ctl_relays (h : Hub) (c st : Nat) (d : Bytes) : (h.finish c st d).ctl.relays = h.ctl.relays := by
  unfold Hub.finish; dsimp only; split_ifs <;> rfl
@[simp] theorem Hub.finish_ctl_nextReqId (h : Hub) (c st : Nat) (d : Bytes) : (h.finish c st d).ctl.nextReqId = h.ctl.nextReqId := by
  unfold Hub.finish; dsimp only; split_ifs <;> rfl
@[simp] theorem Hub.finish_ctl_remote (h : Hub) (c st : Nat) (d : Bytes) : (h.finish c st d).ctl.remote = h.ctl.remote := by
  unfold Hub.finish; dsimp only; split_ifs <;> rfl
@[simp] theorem Hub.finish_ctl_odapIgnored (h : Hub) (c st : Nat) (d : Bytes) : (h.finish c st d).ctl.odapIgnored = h.ctl.odapIgnored := by
  unfold Hub.finish; dsimp only; split_ifs <;> rfl
@[simp] theorem Hub.finish_ctl_lateResponses (h : Hub) (c st : Nat) (d : Bytes) : (h.finish c st d).ctl.lateResponses = h.ctl.lateResponses := by
  unfold Hub.finish; dsimp only; split_ifs <;> rfl
@[simp] theorem Hub.finish_ctl_stored (h : Hub) (c st : Nat) (d : Bytes) : (h.finish c st d).ctl.stored = h.ctl.stored := by
  unfold Hub.finish; dsimp only; split_ifs <;> rfl
@[simp] theorem Hub.finish_ctl_configMeasure (h : Hub) (c st : Nat) (d : Bytes) : (h.finish c st d).ctl.configMeasure = h.ctl.configMeasure := by
  unfold Hub.finish; dsimp only; split_ifs <;> rfl
@[simp] theorem Hub.finish_ctl_configOp (h : Hub) (c st : Nat) (d : Bytes) : (h.finish c st d).ctl.configOp = h.ctl.configOp := by
  unfold Hub.finish; dsimp only; split_ifs <;> rfl
@[simp] theorem Hub.finish_ctl_configWritten (h : Hub) (c st : Nat) (d : Bytes) : (h.finish c st d).ctl.configWritten = h.ctl.configWritten := by
  unfold Hub.finish; dsimp only; split_ifs <;> rfl
@[simp] theorem Hub.finishOpt_ctl_mailbox (h : Hub) (c : Option Nat) (st : Nat) (d : Bytes) : (h.finishOpt c st d).ctl.mailbox = h.ctl.mailbox := by
  unfold Hub.finishOpt; split <;> simp
@[simp] theorem Hub.finishOpt_ctl_keeperQ (h : Hub) (c : Option Nat) (st : Nat) (d : Bytes) : (h.finishOpt c st d).ctl.keeperQ = h.ctl.keeperQ := by
  unfold Hub.finishOpt; split <;> simp
@[simp] theorem Hub.finishOpt_ctl_transfers (h : Hub) (c : Option Nat) (st : Nat) (d : Bytes) : (h.finishOpt c st d).ctl.transfers = h.ctl.transfers := by
  unfold Hub.finishOpt; split <;> simp
@[simp] theorem Hub.finishOpt_ctl_requests (h : Hub) (c : Option Nat) (st : Nat) (d : Bytes) : (h.finishOpt c st d).ctl.requests = h.ctl.requests := by
  unfold Hub.finishOpt; split <;> simp
@[simp] theorem Hub.finishOpt_ctl_relays (h : Hub) (c : Option Nat) (st : Nat) (d : Bytes) : (h.finishOpt c st d).ctl.relays = h.ctl.relays := by
  unfold Hub.finishOpt; split <;> simp
@[simp] theorem Hub.finishOpt_ctl_nextReqId (h : Hub) (c : Option Nat) (st : Nat) (d : Bytes) : (h.finishOpt c st d).ctl.nextReqId = h.ctl.nextReqId := by
  unfold Hub.finishOpt; split <;> simp
@[simp] theorem Hub.finishOpt_ctl_remote (h : Hub) (c : Option Nat) (st : Nat) (d : Bytes) : (h.finishOpt c st d).ctl.remote = h.ctl.remote := by
  unfold Hub.finishOpt; split <;> simp
@[simp] theorem Hub.finishOpt_ctl_odapIgnored (h : Hub) (c : Option Nat) (st : Nat) (d : Bytes) : (h.finishOpt c st d).ctl.odapIgnored = h.ctl.odapIgnored := by
  unfold Hub.finishOpt; split <;> simp
@[simp] theorem Hub.finishOpt_ctl_lateResponses (h : Hub) (c : Option Nat) (st : Nat) (d : Bytes) : (h.finishOpt c st d).ctl.lateResponses = h.ctl.lateResponses := by
  unfold Hub.finishOpt; split <;> simp
@[simp] theorem Hub.finishOpt_ctl_stored (h : Hub) (c : Option Nat) (st : Nat) (d : Bytes) : (h.finishOpt c st d).ctl.stored = h.ctl.stored := by
  unfold Hub.finishOpt; split <;> simp
@[simp] theorem Hub.finishOpt_ctl_configMeasure (h : Hub) (c : Option Nat) (st : Nat) (d : Bytes) : (h.finishOpt c st d).ctl.configMeasure = h.ctl.configMeasure := by
  unfold Hub.finishOpt; split <;> simp
@[simp] theorem Hub.finishOpt_ctl_configOp (h : Hub) (c : Option Nat) (st : Nat) (d : Bytes) : (h.finishOpt c st d).ctl.configOp = h.ctl.configOp := by
  unfold Hub.finishOpt; split <;> simp
@[simp] theorem Hub.finishOpt_ctl_configWritten (h : Hub) (c : Option Nat) (st : Nat) (d : Bytes) : (h.finishOpt c st d).ctl.configWritten = h.ctl.configWritten := by
  unfold Hub.finishOpt; split <;> simp
@[simp] theorem Hub.done_ctl_mailbox (h : Hub) (c st : Nat) (d : Bytes) : (h.done c st d).ctl.mailbox = h.ctl.mailbox := by
  unfold Hub.done Hub.completeAction Hub.deliverRecord; split_ifs <;> (try split) <;> simp; split <;> simp
@[simp] theorem Hub.done_ctl_keeperQ (h : Hub) (c st : Nat) (d : Bytes) : (h.done c st d).ctl.keeperQ = h.ctl.keeperQ := by
  unfold Hub.done Hub.completeAction Hub.deliverRecord; split_ifs <;> (try split) <;> simp; split <;> simp
@[simp] theorem Hub.done_ctl_transfers (h : Hub) (c st : Nat) (d : Bytes) : (h.done c st d).ctl.transfers = h.ctl.transfers := by
  unfold Hub.done Hub.completeAction Hub.deliverRecord; split_ifs <;> (try split) <;> simp; split <;> simp
@[simp] theorem Hub.done_ctl_requests (h : Hub) (c st : Nat) (d : Bytes) : (h.done c st d).ctl.requests = h.ctl.requests := by
  unfold Hub.done Hub.completeAction Hub.deliverRecord; split_ifs <;> (try split) <;> simp; split <;> simp
@[simp] theorem Hub.done_ctl_relays (h : Hub) (c st : Nat) (d : Bytes) : (h.done c st d).ctl.relays = h.ctl.relays := by
  unfold Hub.done Hub.completeAction Hub.deliverRecord; split_ifs <;> (try split) <;> simp; split <;> simp
@[simp] theorem Hub.done_ctl_nextReqId (h : Hub) (c st : Nat) (d : Bytes) : (h.done c st d).ctl.nextReqId = h.ctl.nextReqId := by
  unfold Hub.done Hub.completeAction Hub.deliverRecord; split_ifs <;> (try split) <;> simp; split <;> simp
@[simp] theorem Hub.done_ctl_remote (h : Hub) (c st : Nat) (d : Bytes) : (h.done c st d).ctl.remote = h.ctl.remote := by
  unfold Hub.done Hub.completeAction Hub.deliverRecord; split_ifs <;> (try split) <;> simp; split <;> simp
@[simp] theorem Hub.done_ctl_odapIgnored (h : Hub) (c st : Nat) (d : Bytes) : (h.done c st d).ctl.odapIgnored = h.ctl.odapIgnored := by
  unfold Hub.done Hub.completeAction Hub.deliverRecord; split_ifs <;> (try split) <;> simp; split <;> simp
@[simp] theorem Hub.done_ctl_lateResponses (h : Hub) (c st : Nat) (d : Bytes) : (h.done c st d).ctl.lateResponses = h.ctl.lateResponses := by
  unfold Hub.done Hub.completeAction Hub.deliverRecord; split_ifs <;> (try split) <;> simp; split <;> simp
@[simp] theorem Hub.done_ctl_stored (h : Hub) (c st : Nat) (d : Bytes) : (h.done c st d).ctl.stored = h.ctl.stored := by
  unfold Hub.done Hub.completeAction Hub.deliverRecord; split_ifs <;> (try split) <;> simp; split <;> simp
@[simp] theorem Hub.done_ctl_configMeasure (h : Hub) (c st : Nat) (d : Bytes) : (h.done c st d).ctl.configMeasure = h.ctl.configMeasure := by
  unfold Hub.done Hub.completeAction Hub.deliverRecord; split_ifs <;> (try split) <;> simp; split <;> simp
@[simp] theorem Hub.done_ctl_configOp (h : Hub) (c st : Nat) (d : Bytes) : (h.done c st d).ctl.configOp = h.ctl.configOp := by
  unfold Hub.done Hub.completeAction Hub.deliverRecord; split_ifs <;> (try split) <;> simp; split <;> simp
@[simp] theorem Hub.done_ctl_configWritten (h : Hub) (c st : Nat) (d : Bytes) : (h.done c st d).ctl.configWritten = h.ctl.configWritten := by
  unfold Hub.done Hub.completeAction Hub.deliverRecord; split_ifs <;> (try split) <;> simp; split <;> simp
@[simp] theorem Hub.doneOpt_ctl_mailbox (h : Hub) (c : Option Nat) (st : Nat) (d : Bytes) : (h.doneOpt c st d).ctl.mailbox = h.ctl.mailbox := by
  unfold Hub.doneOpt; split <;> simp
@[simp] theorem Hub.doneOpt_ctl_keeperQ (h : Hub) (c : Option Nat) (st : Nat) (d : Bytes) : (h.doneOpt c st d).ctl.keeperQ = h.ctl.keeperQ := by
  unfold Hub.doneOpt; split <;> simp
@[simp] theorem Hub.doneOpt_ctl_transfers (h : Hub) (c : Option Nat) (st : Nat) (d : Bytes) : (h.doneOpt c st d).ctl.transfers = h.ctl.transfers := by
  unfold Hub.doneOpt; split <;> simp
@[simp] theorem Hub.doneOpt_ctl_requests (h : Hub) (c : Option Nat) (st : Nat) (d : Bytes) : (h.doneOpt c st d).ctl.requests = h.ctl.requests := by
  unfold Hub.doneOpt; split <;> simp
@[simp] theorem Hub.doneOpt_ctl_relays (h : Hub) (c : Option Nat) (st : Nat) (d : Bytes) : (h.doneOpt c st d).ctl.relays = h.ctl.relays := by
  unfold Hub.doneOpt; split <;> simp
@[simp] theorem Hub.doneOpt_ctl_nextReqId (h : Hub) (c : Option Nat) (st : Nat) (d : Bytes) : (h.doneOpt c st d).ctl.nextReqId = h.ctl.nextReqId := by
  unfold Hub.doneOpt; split <;> simp
@[simp] theorem Hub.doneOpt_ctl_remote (h : Hub) (c : Option Nat) (st : Nat) (d : Bytes) : (h.doneOpt c st d).ctl.remote = h.ctl.remote := by
  unfold Hub.doneOpt; split <;> simp
@[simp] theorem Hub.doneOpt_ctl_odapIgnored (h : Hub) (c : Option Nat) (st : Nat) (d : Bytes) : (h.doneOpt c st d).ctl.odapIgnored = h.ctl.odapIgnored := by
  unfold Hub.doneOpt; split <;> simp
@[simp] theorem Hub.doneOpt_ctl_lateResponses (h : Hub) (c : Option Nat) (st : Nat) (d : Bytes) : (h.doneOpt c st d).ctl.lateResponses = h.ctl.lateResponses := by
  unfold Hub.doneOpt; split <;> simp
@[simp] theorem Hub.doneOpt_ctl_stored (h : Hub) (c : Option Nat) (st : Nat) (d : Bytes) : (h.doneOpt c st d).ctl.stored = h.ctl.stored := by
  unfold Hub.doneOpt; split <;> simp
@[simp] theorem Hub.doneOpt_ctl_configMeasure (h : Hub) (c : Option Nat) (st : Nat) (d : Bytes) : (h.doneOpt c st d).ctl.configMeasure = h.ctl.configMeasure := by
  unfold Hub.doneOpt; split <;> simp
@[simp] theorem Hub.doneOpt_ctl_configOp (h : Hub) (c : Option Nat) (st : Nat) (d : Bytes) : (h.doneOpt c st d).ctl.configOp = h.ctl.configOp := by
  unfold Hub.doneOpt; split <;> simp
@[simp] theorem Hub.doneOpt_ctl_configWritten (h : Hub) (c : Option Nat) (st : Nat) (d : Bytes) : (h.doneOpt c st d).ctl.configWritten = h.ctl.configWritten := by
  unfold Hub.doneOpt; split <;> simp
@[simp] theorem Hub.odapSend_ctl_channels (h : Hub) (n c : Nat) (d : Bytes) : (h.odapSend n c d).ctl.channels = h.ctl.channels := by
  simp
@[simp] theorem Hub.odapSend_ctl_mailbox (h : Hub) (n c : Nat) (d : Bytes) : (h.odapSend n c d).ctl.mailbox = h.ctl.mailbox := by
  simp
@[simp] theorem Hub.odapSend_ctl_keeperQ (h : Hub) (n c : Nat) (d : Bytes) : (h.odapSend n c d).ctl.keeperQ = h.ctl.keeperQ := by
  simp
@[simp] theorem Hub.odapSend_ctl_transfers (h : Hub) (n c : Nat) (d : Bytes) : (h.odapSend n c d).ctl.transfers = h.ctl.transfers := by
  simp
@[simp] theorem Hub.odapSend_ctl_requests (h : Hub) (n c : Nat) (d : Bytes) : (h.odapSend n c d).ctl.requests = h.ctl.requests := by
  simp
@[simp] theorem Hub.odapSend_ctl_relays (h : Hub) (n c : Nat) (d : Bytes) : (h.odapSend n c d).ctl.relays = h.ctl.relays := by
  simp
@[simp] theorem Hub.odapSend_ctl_nextReqId (h : Hub) (n c : Nat) (d : Bytes) : (h.odapSend n c d).ctl.nextReqId = h.ctl.nextReqId := by
  simp
@[simp] theorem Hub.odapSend_ctl_remote (h : Hub) (n c : Nat) (d : Bytes) : (h.odapSend n c d).ctl.remote = h.ctl.remote := by
  simp
@[simp] theorem Hub.odapSend_ctl_odapIgnored (h : Hub) (n c : Nat) (d : Bytes) : (h.odapSend n c d).ctl.odapIgnored = h.ctl.odapIgnored := by
  simp
@[simp] theorem Hub.odapSend_ctl_lateResponses (h : Hub) (n c : Nat) (d : Bytes) : (h.odapSend n c d).ctl.lateResponses = h.ctl.lateResponses := by
  simp
@[simp] theorem Hub.odapSend_ctl_stored (h : Hub) (n c : Nat) (d : Bytes) : (h.odapSend n c d).ctl.stored = h.ctl.stored := by
  simp
@[simp] theorem Hub.odapSend_ctl_configMeasure (h : Hub) (n c : Nat) (d : Bytes) : (h.odapSend n c d).ctl.configMeasure = h.ctl.configMeasure := by
  simp
@[simp] theorem Hub.odapSend_ctl_configOp (h : Hub) (n c : Nat) (d : Bytes) : (h.odapSend n c d).ctl.configOp = h.ctl.configOp := by
  simp
@[simp] theorem Hub.odapSend_ctl_configWritten (h : Hub) (n c : Nat) (d : Bytes) : (h.odapSend n c d).ctl.configWritten = h.ctl.configWritten := by
  simp
@[simp] theorem Hub.odapAbort_ctl_channels (h : Hub) (n c i s : Nat) (a : Abort) : (h.odapAbort n c i s a).ctl.channels = h.ctl.channels := by
  unfold Hub.odapAbort; simp [Hub.dropTransfer]
@[simp] theorem Hub.odapAbort_ctl_mailbox (h : Hub) (n c i s : Nat) (a : Abort) : (h.odapAbort n c i s a).ctl.mailbox = h.ctl.mailbox := by
  unfold Hub.odapAbort; simp [Hub.dropTransfer]
@[simp] theorem Hub.odapAbort_ctl_keeperQ (h : Hub) (n c i s : Nat) (a : Abort) : (h.odapAbort n c i s a).ctl.keeperQ = h.ctl.keeperQ := by
  unfold Hub.odapAbort; simp [Hub.dropTransfer]
@[simp] theorem Hub.odapAbort_ctl_requests (h : Hub) (n c i s : Nat) (a : Abort) : (h.odapAbort n c i s a).ctl.requests = h.ctl.requests := by
  unfold Hub.odapAbort; simp [Hub.dropTransfer]
@[simp] theorem Hub.odapAbort_ctl_relays (h : Hub) (n c i s : Nat) (a : Abort) : (h.odapAbort n c i s a).ctl.relays = h.ctl.relays := by
  unfold Hub.odapAbort; simp [Hub.dropTransfer]
@[simp] theorem Hub.odapAbort_ctl_nextReqId (h : Hub) (n c i s : Nat) (a : Abort) : (h.odapAbort n c i s a).ctl.nextReqId = h.ctl.nextReqId := by
  unfold Hub.odapAbort; simp [Hub.dropTransfer]
@[simp] theorem Hub.odapAbort_ctl_remote (h : Hub) (n c i s : Nat) (a : Abort) : (h.odapAbort n c i s a).ctl.remote = h.ctl.remote := by
  unfold Hub.odapAbort; simp [Hub.dropTransfer]
@[simp] theorem Hub.odapAbort_ctl_odapIgnored (h : Hub) (n c i s : Nat) (a : Abort) : (h.odapAbort n c i s a).ctl.odapIgnored = h.ctl.odapIgnored := by
  unfold Hub.odapAbort; simp [Hub.dropTransfer]
@[simp] theorem Hub.odapAbort_ctl_lateResponses (h : Hub) (n c i s : Nat) (a : Abort) : (h.odapAbort n c i s a).ctl.lateResponses = h.ctl.lateResponses := by
  unfold Hub.odapAbort; simp [Hub.dropTransfer]
@[simp] theorem Hub.odapAbort_ctl_stored (h : Hub) (n c i s : Nat) (a : Abort) : (h.odapAbort n c i s a).ctl.stored = h.ctl.stored := by
  unfold Hub.odapAbort; simp [Hub.dropTransfer]
@[simp] theorem Hub.odapAbort_ctl_configMeasure (h : Hub) (n c i s : Nat) (a : Abort) : (h.odapAbort n c i s a).ctl.configMeasure = h.ctl.configMeasure := by
  unfold Hub.odapAbort; simp [Hub.dropTransfer]
@[simp] theorem Hub.odapAbort_ctl_configOp (h : Hub) (n c i s : Nat) (a : Abort) : (h.odapAbort n c i s a).ctl.configOp = h.ctl.configOp := by
  unfold Hub.odapAbort; simp [Hub.dropTransfer]
@[simp] theorem Hub.odapAbort_ctl_configWritten (h : Hub) (n c i s : Nat) (a : Abort) : (h.odapAbort n c i s a).ctl.configWritten = h.ctl.configWritten := by
  unfold Hub.odapAbort; simp [Hub.dropTransfer]
@[simp] theorem Hub.odapAnswer_ctl_channels (h : Hub) (t : OdapTransfer) (st : Abort) (d : Bytes) : (h.odapAnswer t st d).ctl.channels = h.ctl.channels := by
  unfold Hub.odapAnswer; dsimp only; split_ifs <;> simp [Hub.dropTransfer, Hub.putTransfer]
@[simp] theorem Hub.odapAnswer_ctl_mailbox (h : Hub) (t : OdapTransfer) (st : Abort) (d : Bytes) : (h.odapAnswer t st d).ctl.mailbox = h.ctl.mailbox := by
  unfold Hub.odapAnswer; dsimp only; split_ifs <;> simp [Hub.dropTransfer, Hub.putTransfer]
@[simp] theorem Hub.odapAnswer_ctl_keeperQ (h : Hub) (t : OdapTransfer) (st : Abort) (d : Bytes) : (h.odapAnswer t st d).ctl.keeperQ = h.ctl.keeperQ := by
  unfold Hub.odapAnswer; dsimp only; split_ifs <;> simp [Hub.dropTransfer, Hub.putTransfer]
@[simp] theorem Hub.odapAnswer_ctl_requests (h : Hub) (t : OdapTransfer) (st : Abort) (d : Bytes) : (h.odapAnswer t st d).ctl.requests = h.ctl.requests := by
  unfold Hub.odapAnswer; dsimp only; split_ifs <;> simp [Hub.dropTransfer, Hub.putTransfer]
@[simp] theorem Hub.odapAnswer_ctl_relays (h : Hub) (t : OdapTransfer) (st : Abort) (d : Bytes) : (h.odapAnswer t st d).ctl.relays = h.ctl.relays := by
  unfold Hub.odapAnswer; dsimp only; split_ifs <;> simp [Hub.dropTransfer, Hub.putTransfer]
@[simp] theorem Hub.odapAnswer_ctl_nextReqId (h : Hub) (t : OdapTransfer) (st : Abort) (d : Bytes) : (h.odapAnswer t st d).ctl.nextReqId = h.ctl.nextReqId := by
  unfold Hub.odapAnswer; dsimp only; split_ifs <;> simp [Hub.dropTransfer, Hub.putTransfer]
@[simp] theorem Hub.odapAnswer_ctl_remote (h : Hub) (t : OdapTransfer) (st : Abort) (d : Bytes) : (h.odapAnswer t st d).ctl.remote = h.ctl.remote := by
  unfold Hub.odapAnswer; dsimp only; split_ifs <;> simp [Hub.dropTransfer, Hub.putTransfer]
@[simp] theorem Hub.odapAnswer_ctl_odapIgnored (h : Hub) (t : OdapTransfer) (st : Abort) (d : Bytes) : (h.odapAnswer t st d).ctl.odapIgnored = h.ctl.odapIgnored := by
  unfold Hub.odapAnswer; dsimp only; split_ifs <;> simp [Hub.dropTransfer, Hub.putTransfer]
@[simp] theorem Hub.odapAnswer_ctl_lateResponses (h : Hub) (t : OdapTransfer) (st : Abort) (d : Bytes) : (h.odapAnswer t st d).ctl.lateResponses = h.ctl.lateResponses := by
  unfold Hub.odapAnswer; dsimp only; split_ifs <;> simp [Hub.dropTransfer, Hub.putTransfer]
@[simp] theorem Hub.odapAnswer_ctl_stored (h : Hub) (t : OdapTransfer) (st : Abort) (d : Bytes) : (h.odapAnswer t st d).ctl.stored = h.ctl.stored := by
  unfold Hub.odapAnswer; dsimp only; split_ifs <;> simp [Hub.dropTransfer, Hub.putTransfer]
@[simp] theorem Hub.odapAnswer_ctl_configMeasure (h : Hub) (t : OdapTransfer) (st : Abort) (d : Bytes) : (h.odapAnswer t st d).ctl.configMeasure = h.ctl.configMeasure := by
  unfold Hub.odapAnswer; dsimp only; split_ifs <;> simp [Hub.dropTransfer, Hub.putTransfer]
@[simp] theorem Hub.odapAnswer_ctl_configOp (h : Hub) (t : OdapTransfer) (st : Abort) (d : Bytes) : (h.odapAnswer t st d).ctl.configOp = h.ctl.configOp := by
  unfold Hub.odapAnswer; dsimp only; split_ifs <;> simp [Hub.dropTransfer, Hub.putTransfer]
@[simp] theorem Hub.odapAnswer_ctl_configWritten (h : Hub) (t : OdapTransfer) (st : Abort) (d : Bytes) : (h.odapAnswer t st d).ctl.configWritten = h.ctl.configWritten := by
  unfold Hub.odapAnswer; dsimp only; split_ifs <;> simp [Hub.dropTransfer, Hub.putTransfer]
@[simp] theorem Hub.answer_ctl_channels (h : Hub) (r : Path) (st : Abort) (d : Bytes) : (h.answer r st d).ctl.channels = h.ctl.channels := by
  unfold Hub.answer; dsimp only; repeat' split
  all_goals simp [Hub.sysRespond]
@[simp] theorem Hub.answer_ctl_keeperQ (h : Hub) (r : Path) (st : Abort) (d : Bytes) : (h.answer r st d).ctl.keeperQ = h.ctl.keeperQ := by
  unfold Hub.answer; dsimp only; repeat' split
  all_goals simp [Hub.sysRespond]
@[simp] theorem Hub.answer_ctl_requests (h : Hub) (r : Path) (st : Abort) (d : Bytes) : (h.answer r st d).ctl.requests = h.ctl.requests := by
  unfold Hub.answer; dsimp only; repeat' split
  all_goals simp [Hub.sysRespond]
@[simp] theorem Hub.answer_ctl_relays (h : Hub) (r : Path) (st : Abort) (d : Bytes) : (h.answer r st d).ctl.relays = h.ctl.relays := by
  unfold Hub.answer; dsimp only; repeat' split
  all_goals simp [Hub.sysRespond]
@[simp] theorem Hub.answer_ctl_nextReqId (h : Hub) (r : Path) (st : Abort) (d : Bytes) : (h.answer r st d).ctl.nextReqId = h.ctl.nextReqId := by
  unfold Hub.answer; dsimp only; repeat' split
  all_goals simp [Hub.sysRespond]
@[simp] theorem Hub.answer_ctl_remote (h : Hub) (r : Path) (st : Abort) (d : Bytes) : (h.answer r st d).ctl.remote = h.ctl.remote := by
  unfold Hub.answer; dsimp only; repeat' split
  all_goals simp [Hub.sysRespond]
@[simp] theorem Hub.answer_ctl_odapIgnored (h : Hub) (r : Path) (st : Abort) (d : Bytes) : (h.answer r st d).ctl.odapIgnored = h.ctl.odapIgnored := by
  unfold Hub.answer; dsimp only; repeat' split
  all_goals simp [Hub.sysRespond]
@[simp] theorem Hub.answer_ctl_lateResponses (h : Hub) (r : Path) (st : Abort) (d : Bytes) : (h.answer r st d).ctl.lateResponses = h.ctl.lateResponses := by
  unfold Hub.answer; dsimp only; repeat' split
  all_goals simp [Hub.sysRespond]
@[simp] theorem Hub.answer_ctl_stored (h : Hub) (r : Path) (st : Abort) (d : Bytes) : (h.answer r st d).ctl.stored = h.ctl.stored := by
  unfold Hub.answer; dsimp only; repeat' split
  all_goals simp [Hub.sysRespond]
@[simp] theorem Hub.answer_ctl_configMeasure (h : Hub) (r : Path) (st : Abort) (d : Bytes) : (h.answer r st d).ctl.configMeasure = h.ctl.configMeasure := by
  unfold Hub.answer; dsimp only; repeat' split
  all_goals simp [Hub.sysRespond]
@[simp] theorem Hub.answer_ctl_configOp (h : Hub) (r : Path) (st : Abort) (d : Bytes) : (h.answer r st d).ctl.configOp = h.ctl.configOp := by
  unfold Hub.answer; dsimp only; repeat' split
  all_goals simp [Hub.sysRespond]
@[simp] theorem Hub.answer_ctl_configWritten (h : Hub) (r : Path) (st : Abort) (d : Bytes) : (h.answer r st d).ctl.configWritten = h.ctl.configWritten := by
  unfold Hub.answer; dsimp only; repeat' split
  all_goals simp [Hub.sysRespond]
@[simp] theorem Hub.setDomain_pwr_powerUps (h : Hub) (d : Nat) (x : DomSt) : (h.setDomain d x).pwr.powerUps = h.pwr.powerUps := rfl
@[simp] theorem Hub.setDomain_pwr_slow (h : Hub) (d : Nat) (x : DomSt) : (h.setDomain d x).pwr.slow = h.pwr.slow := rfl
@[simp] theorem Hub.setDomain_pwr_slowSince (h : Hub) (d : Nat) (x : DomSt) : (h.setDomain d x).pwr.slowSince = h.pwr.slowSince := rfl
@[simp] theorem Hub.setDomain_pwr_droop (h : Hub) (d : Nat) (x : DomSt) : (h.setDomain d x).pwr.droop = h.pwr.droop := rfl
@[simp] theorem Hub.setDomain_pwr_droopTimer (h : Hub) (d : Nat) (x : DomSt) : (h.setDomain d x).pwr.droopTimer = h.pwr.droopTimer := rfl
@[simp] theorem Hub.setDomain_pwr_lastReturn (h : Hub) (d : Nat) (x : DomSt) : (h.setDomain d x).pwr.lastReturn = h.pwr.lastReturn := rfl
@[simp] theorem Hub.setDomain_pwr_droopCount (h : Hub) (d : Nat) (x : DomSt) : (h.setDomain d x).pwr.droopCount = h.pwr.droopCount := rfl
@[simp] theorem Hub.setDomain_pwr_freq (h : Hub) (d : Nat) (x : DomSt) : (h.setDomain d x).pwr.freq = h.pwr.freq := rfl
@[simp] theorem Hub.setDomain_pwr_freqOffset (h : Hub) (d : Nat) (x : DomSt) : (h.setDomain d x).pwr.freqOffset = h.pwr.freqOffset := rfl
@[simp] theorem Hub.setDomain_pwr_pllLocked (h : Hub) (d : Nat) (x : DomSt) : (h.setDomain d x).pwr.pllLocked = h.pwr.pllLocked := rfl
@[simp] theorem Hub.setDomain_pwr_resetCause (h : Hub) (d : Nat) (x : DomSt) : (h.setDomain d x).pwr.resetCause = h.pwr.resetCause := rfl
@[simp] theorem Hub.setDomain_pwr_resetCount (h : Hub) (d : Nat) (x : DomSt) : (h.setDomain d x).pwr.resetCount = h.pwr.resetCount := rfl
@[simp] theorem Hub.setDomain_pwr_bootEntry (h : Hub) (d : Nat) (x : DomSt) : (h.setDomain d x).pwr.bootEntry = h.pwr.bootEntry := rfl
@[simp] theorem Hub.setDomain_pwr_keeperMeasure (h : Hub) (d : Nat) (x : DomSt) : (h.setDomain d x).pwr.keeperMeasure = h.pwr.keeperMeasure := rfl
@[simp] theorem Hub.setDomain_pwr_bootPhase (h : Hub) (d : Nat) (x : DomSt) : (h.setDomain d x).pwr.bootPhase = h.pwr.bootPhase := rfl
@[simp] theorem Hub.setDomain_pwr_fallback (h : Hub) (d : Nat) (x : DomSt) : (h.setDomain d x).pwr.fallback = h.pwr.fallback := rfl
@[simp] theorem Hub.setDomain_pwr_wdtHalf (h : Hub) (d : Nat) (x : DomSt) : (h.setDomain d x).pwr.wdtHalf = h.pwr.wdtHalf := rfl
@[simp] theorem Hub.setDomain_pwr_rstoutN (h : Hub) (d : Nat) (x : DomSt) : (h.setDomain d x).pwr.rstoutN = h.pwr.rstoutN := rfl
@[simp] theorem Hub.setDomain_pwr_xtalStopped (h : Hub) (d : Nat) (x : DomSt) : (h.setDomain d x).pwr.xtalStopped = h.pwr.xtalStopped := rfl
@[simp] theorem Hub.setDomain_pwr_coreLow (h : Hub) (d : Nat) (x : DomSt) : (h.setDomain d x).pwr.coreLow = h.pwr.coreLow := rfl
@[simp] theorem Hub.setDomain_pwr_chainReset (h : Hub) (d : Nat) (x : DomSt) : (h.setDomain d x).pwr.chainReset = h.pwr.chainReset := rfl
@[simp] theorem Hub.setDomain_pwr_flash (h : Hub) (d : Nat) (x : DomSt) : (h.setDomain d x).pwr.flash = h.pwr.flash := rfl
@[simp] theorem Hub.setDomain_pwr_flashOps (h : Hub) (d : Nat) (x : DomSt) : (h.setDomain d x).pwr.flashOps = h.pwr.flashOps := rfl
@[simp] theorem Hub.fireWith_pwr_powerUps (h : Hub) (n : Nat) (d : Bytes) (a b : Bool) : (h.fireWith n d a b).pwr.powerUps = h.pwr.powerUps := by
  unfold Hub.fireWith; dsimp only; split_ifs <;> simp
@[simp] theorem Hub.fireWith_pwr_slow (h : Hub) (n : Nat) (d : Bytes) (a b : Bool) : (h.fireWith n d a b).pwr.slow = h.pwr.slow := by
  unfold Hub.fireWith; dsimp only; split_ifs <;> simp
@[simp] theorem Hub.fireWith_pwr_slowSince (h : Hub) (n : Nat) (d : Bytes) (a b : Bool) : (h.fireWith n d a b).pwr.slowSince = h.pwr.slowSince := by
  unfold Hub.fireWith; dsimp only; split_ifs <;> simp
@[simp] theorem Hub.fireWith_pwr_droop (h : Hub) (n : Nat) (d : Bytes) (a b : Bool) : (h.fireWith n d a b).pwr.droop = h.pwr.droop := by
  unfold Hub.fireWith; dsimp only; split_ifs <;> simp
@[simp] theorem Hub.fireWith_pwr_droopTimer (h : Hub) (n : Nat) (d : Bytes) (a b : Bool) : (h.fireWith n d a b).pwr.droopTimer = h.pwr.droopTimer := by
  unfold Hub.fireWith; dsimp only; split_ifs <;> simp
@[simp] theorem Hub.fireWith_pwr_lastReturn (h : Hub) (n : Nat) (d : Bytes) (a b : Bool) : (h.fireWith n d a b).pwr.lastReturn = h.pwr.lastReturn := by
  unfold Hub.fireWith; dsimp only; split_ifs <;> simp
@[simp] theorem Hub.fireWith_pwr_droopCount (h : Hub) (n : Nat) (d : Bytes) (a b : Bool) : (h.fireWith n d a b).pwr.droopCount = h.pwr.droopCount := by
  unfold Hub.fireWith; dsimp only; split_ifs <;> simp
@[simp] theorem Hub.fireWith_pwr_freq (h : Hub) (n : Nat) (d : Bytes) (a b : Bool) : (h.fireWith n d a b).pwr.freq = h.pwr.freq := by
  unfold Hub.fireWith; dsimp only; split_ifs <;> simp
@[simp] theorem Hub.fireWith_pwr_freqOffset (h : Hub) (n : Nat) (d : Bytes) (a b : Bool) : (h.fireWith n d a b).pwr.freqOffset = h.pwr.freqOffset := by
  unfold Hub.fireWith; dsimp only; split_ifs <;> simp
@[simp] theorem Hub.fireWith_pwr_pllLocked (h : Hub) (n : Nat) (d : Bytes) (a b : Bool) : (h.fireWith n d a b).pwr.pllLocked = h.pwr.pllLocked := by
  unfold Hub.fireWith; dsimp only; split_ifs <;> simp
@[simp] theorem Hub.fireWith_pwr_resetCause (h : Hub) (n : Nat) (d : Bytes) (a b : Bool) : (h.fireWith n d a b).pwr.resetCause = h.pwr.resetCause := by
  unfold Hub.fireWith; dsimp only; split_ifs <;> simp
@[simp] theorem Hub.fireWith_pwr_resetCount (h : Hub) (n : Nat) (d : Bytes) (a b : Bool) : (h.fireWith n d a b).pwr.resetCount = h.pwr.resetCount := by
  unfold Hub.fireWith; dsimp only; split_ifs <;> simp
@[simp] theorem Hub.fireWith_pwr_bootEntry (h : Hub) (n : Nat) (d : Bytes) (a b : Bool) : (h.fireWith n d a b).pwr.bootEntry = h.pwr.bootEntry := by
  unfold Hub.fireWith; dsimp only; split_ifs <;> simp
@[simp] theorem Hub.fireWith_pwr_keeperMeasure (h : Hub) (n : Nat) (d : Bytes) (a b : Bool) : (h.fireWith n d a b).pwr.keeperMeasure = h.pwr.keeperMeasure := by
  unfold Hub.fireWith; dsimp only; split_ifs <;> simp
@[simp] theorem Hub.fireWith_pwr_bootPhase (h : Hub) (n : Nat) (d : Bytes) (a b : Bool) : (h.fireWith n d a b).pwr.bootPhase = h.pwr.bootPhase := by
  unfold Hub.fireWith; dsimp only; split_ifs <;> simp
@[simp] theorem Hub.fireWith_pwr_fallback (h : Hub) (n : Nat) (d : Bytes) (a b : Bool) : (h.fireWith n d a b).pwr.fallback = h.pwr.fallback := by
  unfold Hub.fireWith; dsimp only; split_ifs <;> simp
@[simp] theorem Hub.fireWith_pwr_wdtHalf (h : Hub) (n : Nat) (d : Bytes) (a b : Bool) : (h.fireWith n d a b).pwr.wdtHalf = h.pwr.wdtHalf := by
  unfold Hub.fireWith; dsimp only; split_ifs <;> simp
@[simp] theorem Hub.fireWith_pwr_rstoutN (h : Hub) (n : Nat) (d : Bytes) (a b : Bool) : (h.fireWith n d a b).pwr.rstoutN = h.pwr.rstoutN := by
  unfold Hub.fireWith; dsimp only; split_ifs <;> simp
@[simp] theorem Hub.fireWith_pwr_xtalStopped (h : Hub) (n : Nat) (d : Bytes) (a b : Bool) : (h.fireWith n d a b).pwr.xtalStopped = h.pwr.xtalStopped := by
  unfold Hub.fireWith; dsimp only; split_ifs <;> simp
@[simp] theorem Hub.fireWith_pwr_coreLow (h : Hub) (n : Nat) (d : Bytes) (a b : Bool) : (h.fireWith n d a b).pwr.coreLow = h.pwr.coreLow := by
  unfold Hub.fireWith; dsimp only; split_ifs <;> simp
@[simp] theorem Hub.fireWith_pwr_chainReset (h : Hub) (n : Nat) (d : Bytes) (a b : Bool) : (h.fireWith n d a b).pwr.chainReset = h.pwr.chainReset := by
  unfold Hub.fireWith; dsimp only; split_ifs <;> simp
@[simp] theorem Hub.fireWith_pwr_flash (h : Hub) (n : Nat) (d : Bytes) (a b : Bool) : (h.fireWith n d a b).pwr.flash = h.pwr.flash := by
  unfold Hub.fireWith; dsimp only; split_ifs <;> simp
@[simp] theorem Hub.fireWith_pwr_flashOps (h : Hub) (n : Nat) (d : Bytes) (a b : Bool) : (h.fireWith n d a b).pwr.flashOps = h.pwr.flashOps := by
  unfold Hub.fireWith; dsimp only; split_ifs <;> simp
@[simp] theorem Hub.fire_pwr_powerUps (h : Hub) (n : Nat) (d : Bytes) : (h.fire n d).pwr.powerUps = h.pwr.powerUps := by
  simp [Hub.fire]
@[simp] theorem Hub.fire_pwr_slow (h : Hub) (n : Nat) (d : Bytes) : (h.fire n d).pwr.slow = h.pwr.slow := by
  simp [Hub.fire]
@[simp] theorem Hub.fire_pwr_slowSince (h : Hub) (n : Nat) (d : Bytes) : (h.fire n d).pwr.slowSince = h.pwr.slowSince := by
  simp [Hub.fire]
@[simp] theorem Hub.fire_pwr_droop (h : Hub) (n : Nat) (d : Bytes) : (h.fire n d).pwr.droop = h.pwr.droop := by
  simp [Hub.fire]
@[simp] theorem Hub.fire_pwr_droopTimer (h : Hub) (n : Nat) (d : Bytes) : (h.fire n d).pwr.droopTimer = h.pwr.droopTimer := by
  simp [Hub.fire]
@[simp] theorem Hub.fire_pwr_lastReturn (h : Hub) (n : Nat) (d : Bytes) : (h.fire n d).pwr.lastReturn = h.pwr.lastReturn := by
  simp [Hub.fire]
@[simp] theorem Hub.fire_pwr_droopCount (h : Hub) (n : Nat) (d : Bytes) : (h.fire n d).pwr.droopCount = h.pwr.droopCount := by
  simp [Hub.fire]
@[simp] theorem Hub.fire_pwr_freq (h : Hub) (n : Nat) (d : Bytes) : (h.fire n d).pwr.freq = h.pwr.freq := by
  simp [Hub.fire]
@[simp] theorem Hub.fire_pwr_freqOffset (h : Hub) (n : Nat) (d : Bytes) : (h.fire n d).pwr.freqOffset = h.pwr.freqOffset := by
  simp [Hub.fire]
@[simp] theorem Hub.fire_pwr_pllLocked (h : Hub) (n : Nat) (d : Bytes) : (h.fire n d).pwr.pllLocked = h.pwr.pllLocked := by
  simp [Hub.fire]
@[simp] theorem Hub.fire_pwr_resetCause (h : Hub) (n : Nat) (d : Bytes) : (h.fire n d).pwr.resetCause = h.pwr.resetCause := by
  simp [Hub.fire]
@[simp] theorem Hub.fire_pwr_resetCount (h : Hub) (n : Nat) (d : Bytes) : (h.fire n d).pwr.resetCount = h.pwr.resetCount := by
  simp [Hub.fire]
@[simp] theorem Hub.fire_pwr_bootEntry (h : Hub) (n : Nat) (d : Bytes) : (h.fire n d).pwr.bootEntry = h.pwr.bootEntry := by
  simp [Hub.fire]
@[simp] theorem Hub.fire_pwr_keeperMeasure (h : Hub) (n : Nat) (d : Bytes) : (h.fire n d).pwr.keeperMeasure = h.pwr.keeperMeasure := by
  simp [Hub.fire]
@[simp] theorem Hub.fire_pwr_bootPhase (h : Hub) (n : Nat) (d : Bytes) : (h.fire n d).pwr.bootPhase = h.pwr.bootPhase := by
  simp [Hub.fire]
@[simp] theorem Hub.fire_pwr_fallback (h : Hub) (n : Nat) (d : Bytes) : (h.fire n d).pwr.fallback = h.pwr.fallback := by
  simp [Hub.fire]
@[simp] theorem Hub.fire_pwr_wdtHalf (h : Hub) (n : Nat) (d : Bytes) : (h.fire n d).pwr.wdtHalf = h.pwr.wdtHalf := by
  simp [Hub.fire]
@[simp] theorem Hub.fire_pwr_rstoutN (h : Hub) (n : Nat) (d : Bytes) : (h.fire n d).pwr.rstoutN = h.pwr.rstoutN := by
  simp [Hub.fire]
@[simp] theorem Hub.fire_pwr_xtalStopped (h : Hub) (n : Nat) (d : Bytes) : (h.fire n d).pwr.xtalStopped = h.pwr.xtalStopped := by
  simp [Hub.fire]
@[simp] theorem Hub.fire_pwr_coreLow (h : Hub) (n : Nat) (d : Bytes) : (h.fire n d).pwr.coreLow = h.pwr.coreLow := by
  simp [Hub.fire]
@[simp] theorem Hub.fire_pwr_chainReset (h : Hub) (n : Nat) (d : Bytes) : (h.fire n d).pwr.chainReset = h.pwr.chainReset := by
  simp [Hub.fire]
@[simp] theorem Hub.fire_pwr_flash (h : Hub) (n : Nat) (d : Bytes) : (h.fire n d).pwr.flash = h.pwr.flash := by
  simp [Hub.fire]
@[simp] theorem Hub.fire_pwr_flashOps (h : Hub) (n : Nat) (d : Bytes) : (h.fire n d).pwr.flashOps = h.pwr.flashOps := by
  simp [Hub.fire]
@[simp] theorem Hub.queueDetail_evt_rings (h : Hub) (n : Nat) (d : Bytes) (a b : Bool) : ((h.queueDetail n d a b).1).evt.rings = h.evt.rings := by
  unfold Hub.queueDetail; dsimp only; split_ifs <;> rfl
@[simp] theorem Hub.queueDetail_evt_hold (h : Hub) (n : Nat) (d : Bytes) (a b : Bool) : ((h.queueDetail n d a b).1).evt.hold = h.evt.hold := by
  unfold Hub.queueDetail; dsimp only; split_ifs <;> rfl
@[simp] theorem Hub.queueDetail_evt_wakeLatch (h : Hub) (n : Nat) (d : Bytes) (a b : Bool) : ((h.queueDetail n d a b).1).evt.wakeLatch = h.evt.wakeLatch := by
  unfold Hub.queueDetail; dsimp only; split_ifs <;> rfl
@[simp] theorem Hub.queueDetail_evt_evtN (h : Hub) (n : Nat) (d : Bytes) (a b : Bool) : ((h.queueDetail n d a b).1).evt.evtN = h.evt.evtN := by
  unfold Hub.queueDetail; dsimp only; split_ifs <;> rfl
@[simp] theorem Hub.queueDetail_evt_keeperIrq (h : Hub) (n : Nat) (d : Bytes) (a b : Bool) : ((h.queueDetail n d a b).1).evt.keeperIrq = h.evt.keeperIrq := by
  unfold Hub.queueDetail; dsimp only; split_ifs <;> rfl
@[simp] theorem Hub.fireWith_evt_rings (h : Hub) (n : Nat) (d : Bytes) (a b : Bool) : (h.fireWith n d a b).evt.rings = h.evt.rings := by
  unfold Hub.fireWith; dsimp only; split_ifs <;> simp
@[simp] theorem Hub.fireWith_evt_hold (h : Hub) (n : Nat) (d : Bytes) (a b : Bool) : (h.fireWith n d a b).evt.hold = h.evt.hold := by
  unfold Hub.fireWith; dsimp only; split_ifs <;> simp
@[simp] theorem Hub.fireWith_evt_wakeLatch (h : Hub) (n : Nat) (d : Bytes) (a b : Bool) : (h.fireWith n d a b).evt.wakeLatch = h.evt.wakeLatch := by
  unfold Hub.fireWith; dsimp only; split_ifs <;> simp
@[simp] theorem Hub.fireWith_evt_evtN (h : Hub) (n : Nat) (d : Bytes) (a b : Bool) : (h.fireWith n d a b).evt.evtN = h.evt.evtN := by
  unfold Hub.fireWith; dsimp only; split_ifs <;> simp
@[simp] theorem Hub.fireWith_evt_keeperIrq (h : Hub) (n : Nat) (d : Bytes) (a b : Bool) : (h.fireWith n d a b).evt.keeperIrq = h.evt.keeperIrq := by
  unfold Hub.fireWith; dsimp only; split_ifs <;> simp
@[simp] theorem Hub.fire_evt_rings (h : Hub) (n : Nat) (d : Bytes) : (h.fire n d).evt.rings = h.evt.rings := by
  simp [Hub.fire]
@[simp] theorem Hub.fire_evt_hold (h : Hub) (n : Nat) (d : Bytes) : (h.fire n d).evt.hold = h.evt.hold := by
  simp [Hub.fire]
@[simp] theorem Hub.fire_evt_wakeLatch (h : Hub) (n : Nat) (d : Bytes) : (h.fire n d).evt.wakeLatch = h.evt.wakeLatch := by
  simp [Hub.fire]
@[simp] theorem Hub.fire_evt_evtN (h : Hub) (n : Nat) (d : Bytes) : (h.fire n d).evt.evtN = h.evt.evtN := by
  simp [Hub.fire]
@[simp] theorem Hub.fire_evt_keeperIrq (h : Hub) (n : Nat) (d : Bytes) : (h.fire n d).evt.keeperIrq = h.evt.keeperIrq := by
  simp [Hub.fire]

end Sys2Proof.Machine
end

