-- ==== Sys2Proof/Laws/Ops.lean ====
section
/-!
SUPPORT. The laws of the shared operations: tables in canonical form, memory, the acceptance of a command, the settling of lines.
-/

namespace Sys2Proof.Machine

/-! ### Tables -/

theorem cellsGet_erase {α : Type} (d : α) (l : List (Nat × α)) (k k' : Nat) :
    cellsGet d (cellsErase l k) k' = if k' = k then d else cellsGet d l k' := by
  induction l with
  | nil => simp [cellsErase, cellsGet]
  | cons c t ih =>
    obtain ⟨a, v⟩ := c
    by_cases h2 : k' = k
    · subst h2
      rw [if_pos rfl] at ih ⊢
      by_cases h1 : a = k' <;> simp [cellsErase, cellsGet, h1, ih]
    · rw [if_neg h2] at ih ⊢
      by_cases h1 : a = k
      · subst h1; simp [cellsErase, cellsGet, Ne.symm h2, ih]
      · simp [cellsErase, cellsGet, h1, ih]

theorem cellsGet_insert {α : Type} (d : α) (l : List (Nat × α)) (k k' : Nat) (v : α) (hk : ∀ c ∈ l, c.1 ≠ k) :
    cellsGet d (cellsInsert l k v) k' = if k' = k then v else cellsGet d l k' := by
  induction l with
  | nil => simp [cellsInsert, cellsGet, eq_comm]
  | cons c t ih =>
    obtain ⟨a, w⟩ := c
    have ha : a ≠ k := hk (a, w) (by simp)
    have ht := ih (fun c hc => hk c (by simp [hc]))
    simp only [cellsInsert]
    split_ifs with h1 h2 h2
    · subst h2; simp [cellsGet]
    · simp [cellsGet, Ne.symm h2]
    · subst h2; simp [cellsGet, ha, ht]
    · simp only [cellsGet, ht, if_neg h2]

theorem cellsErase_ne {α : Type} (l : List (Nat × α)) (k : Nat) : ∀ c ∈ cellsErase l k, c.1 ≠ k := by
  induction l with
  | nil => simp [cellsErase]
  | cons c t ih =>
    obtain ⟨a, v⟩ := c
    simp only [cellsErase]
    split_ifs with h1
    · exact ih
    · intro c hc
      rcases List.mem_cons.1 hc with rfl | hc
      · exact h1
      · exact ih c hc

/-- What a cell holds after a write. -/
theorem cellsGet_set {α : Type} [DecidableEq α] (d : α) (l : List (Nat × α)) (k k' : Nat) (v : α) :
    cellsGet d (cellsSet d l k v) k' = if k' = k then v else cellsGet d l k' := by
  unfold cellsSet
  split_ifs with h1 h2 h2
  · rw [cellsGet_erase, if_pos h2, h1]
  · rw [cellsGet_erase, if_neg h2]
  · rw [cellsGet_insert _ _ _ _ _ (cellsErase_ne l k), if_pos h2]
  · rw [cellsGet_insert _ _ _ _ _ (cellsErase_ne l k), if_neg h2, cellsGet_erase, if_neg h2]

@[simp] theorem Tab.get_set {α : Type} [DecidableEq α] (d : α) (t : Tab α) (k : Nat) (v : α) : (t.set d k v).get d k = v := by
  simp [Tab.get, Tab.set, cellsGet_set]

theorem Tab.get_set_ne {α : Type} [DecidableEq α] (d : α) (t : Tab α) (k k' : Nat) (v : α) (hk : k' ≠ k) :
    (t.set d k v).get d k' = t.get d k' := by
  simp [Tab.get, Tab.set, cellsGet_set, hk]

/-- Tables of which each read names its own default (the dictionary, the registers): a write leaves every other key alone. -/
theorem Tab.get_set_other {α : Type} [DecidableEq α] (d d' : α) (t : Tab α) (k k' : Nat) (v : α) (hk : k' ≠ k) :
    (t.set d k v).get d' k' = t.get d' k' := by
  simp only [Tab.get, Tab.set, cellsSet]
  split_ifs
  · rw [cellsGet_erase, if_neg hk]
  · rw [cellsGet_insert _ _ _ _ _ (cellsErase_ne _ k), if_neg hk, cellsGet_erase, if_neg hk]

theorem cellsErase_all {α : Type} (p : Nat × α → Bool) (l : List (Nat × α)) (k : Nat) (hl : l.all p = true) :
    (cellsErase l k).all p = true := by
  induction l with
  | nil => simp [cellsErase]
  | cons c t ih =>
    obtain ⟨a, v⟩ := c
    simp only [List.all_cons, Bool.and_eq_true] at hl
    simp only [cellsErase]
    split_ifs <;> simp [ih hl.2, hl.1]

theorem cellsErase_wf {α : Type} [DecidableEq α] (d : α) (l : List (Nat × α)) (k : Nat) (hl : cellsWf d l = true) :
    cellsWf d (cellsErase l k) = true := by
  induction l with
  | nil => rfl
  | cons c t ih =>
    obtain ⟨a, v⟩ := c
    simp only [cellsWf, Bool.and_eq_true] at hl
    simp only [cellsErase]
    split_ifs
    · exact ih hl.2
    · simp only [cellsWf, Bool.and_eq_true]
      exact ⟨⟨hl.1.1, cellsErase_all _ _ _ hl.1.2⟩, ih hl.2⟩

theorem cellsInsert_all {α : Type} (p : Nat × α → Bool) (l : List (Nat × α)) (k : Nat) (v : α) (hl : l.all p = true) (hv : p (k, v) = true) :
    (cellsInsert l k v).all p = true := by
  induction l with
  | nil => simp [cellsInsert, hv]
  | cons c t ih =>
    obtain ⟨a, w⟩ := c
    simp only [List.all_cons, Bool.and_eq_true] at hl
    simp only [cellsInsert]
    split_ifs <;> simp [hv, hl.1, hl.2, ih hl.2]

theorem cellsInsert_wf {α : Type} [DecidableEq α] (d : α) (l : List (Nat × α)) (k : Nat) (v : α) (hl : cellsWf d l = true)
    (hk : ∀ c ∈ l, c.1 ≠ k) (hv : v ≠ d) : cellsWf d (cellsInsert l k v) = true := by
  induction l with
  | nil => simp [cellsInsert, cellsWf, hv]
  | cons c t ih =>
    obtain ⟨a, w⟩ := c
    have ha : a ≠ k := hk (a, w) (by simp)
    simp only [cellsWf, Bool.and_eq_true] at hl
    simp only [cellsInsert]
    split_ifs with h1
    · rw [cellsWf, List.all_cons, Bool.and_eq_true, Bool.and_eq_true, Bool.and_eq_true, decide_eq_true_eq]
      refine ⟨⟨hv, by simpa using h1, ?_⟩, by rw [cellsWf, Bool.and_eq_true, Bool.and_eq_true]; exact hl⟩
      rw [List.all_eq_true] at hl ⊢
      intro c hc
      have := hl.1.2 c hc
      simp only [decide_eq_true_eq] at this ⊢
      omega
    · simp only [cellsWf, Bool.and_eq_true]
      refine ⟨⟨hl.1.1, cellsInsert_all _ _ _ _ hl.1.2 ?_⟩, ih hl.2 (fun c hc => hk c (by simp [hc]))⟩
      simp only [decide_eq_true_eq]
      omega

/-- Every table operation keeps the canonical form. -/
theorem cellsSet_wf {α : Type} [DecidableEq α] (d : α) (l : List (Nat × α)) (k : Nat) (v : α) (hl : cellsWf d l = true) :
    cellsWf d (cellsSet d l k v) = true := by
  unfold cellsSet
  split_ifs with h1
  · exact cellsErase_wf d l k hl
  · exact cellsInsert_wf d _ k v (cellsErase_wf d l k hl) (cellsErase_ne l k) h1

theorem Tab.set_wf {α : Type} [DecidableEq α] (d : α) (t : Tab α) (k : Nat) (v : α) (ht : t.wf d = true) : (t.set d k v).wf d = true :=
  cellsSet_wf d t.cells k v ht

/-! ### Memory -/

/-- A read after a write. -/
theorem Hub.memRead_memWrite (h : Hub) (a b : Nat) (v : Byte) : (h.memWrite a v).memRead b = if b = a then v else h.memRead b :=
  cellsGet_set 0 h.mem a b v

/-- A write keeps the memory's canonical form. -/
theorem Hub.memWrite_wf (h : Hub) (a : Nat) (v : Byte) (hm : Memory.wf h.mem = true) : Memory.wf (h.memWrite a v).mem = true :=
  cellsSet_wf 0 h.mem a v hm

/-- So does a write of bytes. -/
theorem Hub.memWriteBytes_wf (b : Bytes) (h : Hub) (a : Nat) (hm : Memory.wf h.mem = true) : Memory.wf (h.memWriteBytes a b).mem = true := by
  induction b generalizing h a with
  | nil => exact hm
  | cons x t ih => exact ih (h.memWrite a x) (a + 1) (h.memWrite_wf a x hm)

/-- A byte outside the bytes written reads as before. -/
theorem Hub.memWriteBytes_other (b : Bytes) (h : Hub) (a x : Nat) (hx : x < a ∨ a + b.length ≤ x) :
    (h.memWriteBytes a b).memRead x = h.memRead x := by
  induction b generalizing h a with
  | nil => rfl
  | cons c t ih =>
    simp only [List.length_cons] at hx
    show Hub.memRead (Hub.memWriteBytes (h.memWrite a c) (a + 1) t) x = _
    rw [ih (h.memWrite a c) (a + 1) (by omega), Hub.memRead_memWrite, if_neg (by omega)]

/-! ### Dictionary values and registers -/

@[simp] theorem Hub.val_put (h : Hub) (e : Entry) (v : Nat) : (h.put e v).val e = v := by simp [Hub.val, Hub.put]
theorem Hub.val_put_ne (h : Hub) (e e' : Entry) (v : Nat) (hk : e'.key ≠ e.key) : (h.put e v).val e' = h.val e' :=
  Tab.get_set_other _ _ _ _ _ _ hk
@[simp] theorem Hub.val_bump (h : Hub) (e : Entry) (w n : Nat) : (h.bump e w n).val e = trunc w (h.val e + n) := by simp [Hub.bump]
theorem Hub.val_bump_ne (h : Hub) (e e' : Entry) (w n : Nat) (hk : e'.key ≠ e.key) : (h.bump e w n).val e' = h.val e' :=
  Hub.val_put_ne _ _ _ _ hk
@[simp] theorem Hub.reg_putReg (h : Hub) (e : Entry) (v : Nat) : (h.putReg e v).reg e = v := by simp [Hub.reg, Hub.putReg]
theorem Hub.reg_putReg_ne (h : Hub) (e e' : Entry) (v : Nat) (hk : e'.key ≠ e.key) : (h.putReg e v).reg e' = h.reg e' :=
  Tab.get_set_other _ _ _ _ _ _ hk
@[simp] theorem Hub.reg_flag (h : Hub) (e : Entry) (n : Nat) : (h.flag e n).reg e = setBit n (h.reg e) := by simp [Hub.flag]
theorem Hub.reg_flag_ne (h : Hub) (e e' : Entry) (n : Nat) (hk : e'.key ≠ e.key) : (h.flag e n).reg e' = h.reg e' :=
  Hub.reg_putReg_ne _ _ _ _ hk
/-- A bit that has been set is set. -/
theorem bit_setBit (i n : Nat) : bit i (setBit i n) = true := by
  have h : (n ||| 2 ^ i).testBit i = true := by simp [Nat.testBit_or]
  simp only [bit, setBit, beq_iff_eq]
  simpa [Nat.testBit, Nat.shiftRight_eq_div_pow, Nat.one_and_eq_mod_two] using h

/-- A value is read from the dictionary alone, a register from the registers alone. -/
theorem Hub.val_congr {h h' : Hub} (hh : h'.od = h.od) (e : Entry) : h'.val e = h.val e := by simp [Hub.val, hh]
theorem Hub.reg_congr {h h' : Hub} (hh : h'.regs = h.regs) (e : Entry) : h'.reg e = h.reg e := by simp [Hub.reg, hh]
theorem Hub.chan_congr {h h' : Hub} (hh : h'.ctl.channels = h.ctl.channels) (c : Nat) : h'.chan c = h.chan c := by simp [Hub.chan, hh]

/-! ### Channels and commands -/

@[simp] theorem Hub.chan_setChan (h : Hub) (c : Nat) (x : Channel) : (h.setChan c x).chan c = x := by simp [Hub.chan, Hub.setChan]
theorem Hub.chan_setChan_ne (h : Hub) (c c' : Nat) (x : Channel) (hc : c' ≠ c) : (h.setChan c x).chan c' = h.chan c' := by
  simp [Hub.chan, Hub.setChan, Tab.get_set_ne _ _ _ _ _ hc]

/-- A command that nothing prevents, its arguments within the 256 bytes of COMMAND: the channel takes it, the access is answered, and
its effect follows (R57, R59, R60). -/
theorem Hub.issue_takes (h : Hub) (req : Path) (c code tag : Nat) (args : Bytes) (start : Hub → Hub) (ht : h.takes req c code)
    (hl : args.length ≤ 252) :
    h.issue req c code tag args none none start = start ((h.accept c code tag args).answer req 0 []) := by
  obtain ⟨_, hk, _, hr, hc⟩ := ht
  have h1 : lengthOr args none = none := by
    rw [lengthOr, if_neg (by omega), if_neg (by omega)]
  simp [Hub.issue, Hub.withCode, hk, hr, hc, h1]

/-- The channel right after acceptance. -/
theorem Hub.accept_chan (h : Hub) (req : Path) (c code tag : Nat) (args : Bytes) :
    ((h.accept c code tag args).answer req 0 []).chan c = ⟨.running, tag, code, args, []⟩ := by
  rw [Hub.chan_congr (Hub.answer_ctl_channels _ _ _ _)]
  simp [Hub.accept]

/-- The end of a running command. -/
theorem Hub.finish_ended (h : Hub) (c status : Nat) (data : Bytes) (hr : (h.chan c).state = .running) :
    (h.finish c status data).ended c (h.chan c).code (h.chan c).tag status data := by
  simp [Hub.finish, hr, Hub.ended]

/-! ### Meanings -/

/-- A meaning over a live hub. -/
theorem onHub_live (f : Hub → Hub) (s : State) (hl : s.hub.live) : onHub f s = .next { s with hub := (f s.hub).settle } := by
  simp [onHub, onPins, hl]

/-- While PORST_N is low, a meaning that needs the hub leaves everything as it is (R564). -/
theorem onHub_porst (f : Hub → Hub) (s : State) (hp : s.hub.inPorst = true) : onHub f s = .next s := by simp [onHub, hp]

/-- The lines stand after settling. -/
theorem Hub.settle_linesStand (h : Hub) : h.settle.linesStand := by
  refine ⟨?_, ?_, ?_⟩
  · simp [Hub.settle, Hub.ringNotifies, Ring.nonEmpty]
  · simp [Hub.settle, Hub.ringNotifies, Ring.nonEmpty]
  · simp [Hub.settle, Hub.faultLow, or_assoc]

end Sys2Proof.Machine
end

