-- ==== Sys2Proof/Laws/Updates.lean ====
section
/-!
SUPPORT. The updates of one table or record each: what is read back from the place written and from every other place, and one lemma for
each field of the hub that an update leaves alone.
-/

namespace Sys2Proof.Machine

/-! `Hub.setCtx` writes nothing but `tun`. -/

@[simp] theorem Hub.setCtx_ctx (h : Hub) (i : Nat) (x : Ctx) : (h.setCtx i x).ctx i = x := by simp [Hub.setCtx, Hub.ctx]
theorem Hub.setCtx_ctx_ne (h : Hub) (i j : Nat) (x : Ctx) (hj : j ≠ i) : (h.setCtx i x).ctx j = h.ctx j := by
  simp [Hub.setCtx, Hub.ctx, Tab.get_set_other _ _ _ _ _ _ hj]
@[simp] theorem Hub.setCtx_clock (h : Hub) (i : Nat) (x : Ctx) : (h.setCtx i x).clock = h.clock := rfl
@[simp] theorem Hub.setCtx_draws (h : Hub) (i : Nat) (x : Ctx) : (h.setCtx i x).draws = h.draws := rfl
@[simp] theorem Hub.setCtx_out (h : Hub) (i : Nat) (x : Ctx) : (h.setCtx i x).out = h.out := rfl
@[simp] theorem Hub.setCtx_od (h : Hub) (i : Nat) (x : Ctx) : (h.setCtx i x).od = h.od := rfl
@[simp] theorem Hub.setCtx_blob (h : Hub) (i : Nat) (x : Ctx) : (h.setCtx i x).blob = h.blob := rfl
@[simp] theorem Hub.setCtx_regs (h : Hub) (i : Nat) (x : Ctx) : (h.setCtx i x).regs = h.regs := rfl
@[simp] theorem Hub.setCtx_mem (h : Hub) (i : Nat) (x : Ctx) : (h.setCtx i x).mem = h.mem := rfl
@[simp] theorem Hub.setCtx_kram (h : Hub) (i : Nat) (x : Ctx) : (h.setCtx i x).kram = h.kram := rfl
@[simp] theorem Hub.setCtx_mode (h : Hub) (i : Nat) (x : Ctx) : (h.setCtx i x).mode = h.mode := rfl
@[simp] theorem Hub.setCtx_ctl (h : Hub) (i : Nat) (x : Ctx) : (h.setCtx i x).ctl = h.ctl := rfl
@[simp] theorem Hub.setCtx_evt (h : Hub) (i : Nat) (x : Ctx) : (h.setCtx i x).evt = h.evt := rfl
@[simp] theorem Hub.setCtx_lanes (h : Hub) (i : Nat) (x : Ctx) : (h.setCtx i x).lanes = h.lanes := rfl
@[simp] theorem Hub.setCtx_links (h : Hub) (i : Nat) (x : Ctx) : (h.setCtx i x).links = h.links := rfl
@[simp] theorem Hub.setCtx_plan (h : Hub) (i : Nat) (x : Ctx) : (h.setCtx i x).plan = h.plan := rfl
@[simp] theorem Hub.setCtx_eng (h : Hub) (i : Nat) (x : Ctx) : (h.setCtx i x).eng = h.eng := rfl
@[simp] theorem Hub.setCtx_sw (h : Hub) (i : Nat) (x : Ctx) : (h.setCtx i x).sw = h.sw := rfl
@[simp] theorem Hub.setCtx_bcn (h : Hub) (i : Nat) (x : Ctx) : (h.setCtx i x).bcn = h.bcn := rfl
@[simp] theorem Hub.setCtx_dm (h : Hub) (i : Nat) (x : Ctx) : (h.setCtx i x).dm = h.dm := rfl
@[simp] theorem Hub.setCtx_io (h : Hub) (i : Nat) (x : Ctx) : (h.setCtx i x).io = h.io := rfl
@[simp] theorem Hub.setCtx_vid (h : Hub) (i : Nat) (x : Ctx) : (h.setCtx i x).vid = h.vid := rfl
@[simp] theorem Hub.setCtx_usb (h : Hub) (i : Nat) (x : Ctx) : (h.setCtx i x).usb = h.usb := rfl
@[simp] theorem Hub.setCtx_hb (h : Hub) (i : Nat) (x : Ctx) : (h.setCtx i x).hb = h.hb := rfl
@[simp] theorem Hub.setCtx_pair (h : Hub) (i : Nat) (x : Ctx) : (h.setCtx i x).pair = h.pair := rfl
@[simp] theorem Hub.setCtx_moor (h : Hub) (i : Nat) (x : Ctx) : (h.setCtx i x).moor = h.moor := rfl
@[simp] theorem Hub.setCtx_sec (h : Hub) (i : Nat) (x : Ctx) : (h.setCtx i x).sec = h.sec := rfl
@[simp] theorem Hub.setCtx_pwr (h : Hub) (i : Nat) (x : Ctx) : (h.setCtx i x).pwr = h.pwr := rfl
@[simp] theorem Hub.setCtx_obs (h : Hub) (i : Nat) (x : Ctx) : (h.setCtx i x).obs = h.obs := rfl

/-! `Hub.setBearing` writes nothing but `bcn`. -/

@[simp] theorem Hub.setBearing_bearing (h : Hub) (b : Nat) (x : BearingSt) : (h.setBearing b x).bearing b = x := by simp [Hub.setBearing, Hub.bearing]
theorem Hub.setBearing_bearing_ne (h : Hub) (b j : Nat) (x : BearingSt) (hj : j ≠ b) : (h.setBearing b x).bearing j = h.bearing j := by
  simp [Hub.setBearing, Hub.bearing, Tab.get_set_other _ _ _ _ _ _ hj]
@[simp] theorem Hub.setBearing_clock (h : Hub) (b : Nat) (x : BearingSt) : (h.setBearing b x).clock = h.clock := rfl
@[simp] theorem Hub.setBearing_draws (h : Hub) (b : Nat) (x : BearingSt) : (h.setBearing b x).draws = h.draws := rfl
@[simp] theorem Hub.setBearing_out (h : Hub) (b : Nat) (x : BearingSt) : (h.setBearing b x).out = h.out := rfl
@[simp] theorem Hub.setBearing_od (h : Hub) (b : Nat) (x : BearingSt) : (h.setBearing b x).od = h.od := rfl
@[simp] theorem Hub.setBearing_blob (h : Hub) (b : Nat) (x : BearingSt) : (h.setBearing b x).blob = h.blob := rfl
@[simp] theorem Hub.setBearing_regs (h : Hub) (b : Nat) (x : BearingSt) : (h.setBearing b x).regs = h.regs := rfl
@[simp] theorem Hub.setBearing_mem (h : Hub) (b : Nat) (x : BearingSt) : (h.setBearing b x).mem = h.mem := rfl
@[simp] theorem Hub.setBearing_kram (h : Hub) (b : Nat) (x : BearingSt) : (h.setBearing b x).kram = h.kram := rfl
@[simp] theorem Hub.setBearing_mode (h : Hub) (b : Nat) (x : BearingSt) : (h.setBearing b x).mode = h.mode := rfl
@[simp] theorem Hub.setBearing_ctl (h : Hub) (b : Nat) (x : BearingSt) : (h.setBearing b x).ctl = h.ctl := rfl
@[simp] theorem Hub.setBearing_evt (h : Hub) (b : Nat) (x : BearingSt) : (h.setBearing b x).evt = h.evt := rfl
@[simp] theorem Hub.setBearing_lanes (h : Hub) (b : Nat) (x : BearingSt) : (h.setBearing b x).lanes = h.lanes := rfl
@[simp] theorem Hub.setBearing_links (h : Hub) (b : Nat) (x : BearingSt) : (h.setBearing b x).links = h.links := rfl
@[simp] theorem Hub.setBearing_tun (h : Hub) (b : Nat) (x : BearingSt) : (h.setBearing b x).tun = h.tun := rfl
@[simp] theorem Hub.setBearing_plan (h : Hub) (b : Nat) (x : BearingSt) : (h.setBearing b x).plan = h.plan := rfl
@[simp] theorem Hub.setBearing_eng (h : Hub) (b : Nat) (x : BearingSt) : (h.setBearing b x).eng = h.eng := rfl
@[simp] theorem Hub.setBearing_sw (h : Hub) (b : Nat) (x : BearingSt) : (h.setBearing b x).sw = h.sw := rfl
@[simp] theorem Hub.setBearing_dm (h : Hub) (b : Nat) (x : BearingSt) : (h.setBearing b x).dm = h.dm := rfl
@[simp] theorem Hub.setBearing_io (h : Hub) (b : Nat) (x : BearingSt) : (h.setBearing b x).io = h.io := rfl
@[simp] theorem Hub.setBearing_vid (h : Hub) (b : Nat) (x : BearingSt) : (h.setBearing b x).vid = h.vid := rfl
@[simp] theorem Hub.setBearing_usb (h : Hub) (b : Nat) (x : BearingSt) : (h.setBearing b x).usb = h.usb := rfl
@[simp] theorem Hub.setBearing_hb (h : Hub) (b : Nat) (x : BearingSt) : (h.setBearing b x).hb = h.hb := rfl
@[simp] theorem Hub.setBearing_pair (h : Hub) (b : Nat) (x : BearingSt) : (h.setBearing b x).pair = h.pair := rfl
@[simp] theorem Hub.setBearing_moor (h : Hub) (b : Nat) (x : BearingSt) : (h.setBearing b x).moor = h.moor := rfl
@[simp] theorem Hub.setBearing_sec (h : Hub) (b : Nat) (x : BearingSt) : (h.setBearing b x).sec = h.sec := rfl
@[simp] theorem Hub.setBearing_pwr (h : Hub) (b : Nat) (x : BearingSt) : (h.setBearing b x).pwr = h.pwr := rfl
@[simp] theorem Hub.setBearing_obs (h : Hub) (b : Nat) (x : BearingSt) : (h.setBearing b x).obs = h.obs := rfl

/-! `Hub.setEncoder` writes nothing but `bcn`. -/

@[simp] theorem Hub.setEncoder_encoder (h : Hub) (n : Nat) (x : EncSt) : (h.setEncoder n x).encoder n = x := by simp [Hub.setEncoder, Hub.encoder]
theorem Hub.setEncoder_encoder_ne (h : Hub) (n j : Nat) (x : EncSt) (hj : j ≠ n) : (h.setEncoder n x).encoder j = h.encoder j := by
  simp [Hub.setEncoder, Hub.encoder, Tab.get_set_other _ _ _ _ _ _ hj]
@[simp] theorem Hub.setEncoder_clock (h : Hub) (n : Nat) (x : EncSt) : (h.setEncoder n x).clock = h.clock := rfl
@[simp] theorem Hub.setEncoder_draws (h : Hub) (n : Nat) (x : EncSt) : (h.setEncoder n x).draws = h.draws := rfl
@[simp] theorem Hub.setEncoder_out (h : Hub) (n : Nat) (x : EncSt) : (h.setEncoder n x).out = h.out := rfl
@[simp] theorem Hub.setEncoder_od (h : Hub) (n : Nat) (x : EncSt) : (h.setEncoder n x).od = h.od := rfl
@[simp] theorem Hub.setEncoder_blob (h : Hub) (n : Nat) (x : EncSt) : (h.setEncoder n x).blob = h.blob := rfl
@[simp] theorem Hub.setEncoder_regs (h : Hub) (n : Nat) (x : EncSt) : (h.setEncoder n x).regs = h.regs := rfl
@[simp] theorem Hub.setEncoder_mem (h : Hub) (n : Nat) (x : EncSt) : (h.setEncoder n x).mem = h.mem := rfl
@[simp] theorem Hub.setEncoder_kram (h : Hub) (n : Nat) (x : EncSt) : (h.setEncoder n x).kram = h.kram := rfl
@[simp] theorem Hub.setEncoder_mode (h : Hub) (n : Nat) (x : EncSt) : (h.setEncoder n x).mode = h.mode := rfl
@[simp] theorem Hub.setEncoder_ctl (h : Hub) (n : Nat) (x : EncSt) : (h.setEncoder n x).ctl = h.ctl := rfl
@[simp] theorem Hub.setEncoder_evt (h : Hub) (n : Nat) (x : EncSt) : (h.setEncoder n x).evt = h.evt := rfl
@[simp] theorem Hub.setEncoder_lanes (h : Hub) (n : Nat) (x : EncSt) : (h.setEncoder n x).lanes = h.lanes := rfl
@[simp] theorem Hub.setEncoder_links (h : Hub) (n : Nat) (x : EncSt) : (h.setEncoder n x).links = h.links := rfl
@[simp] theorem Hub.setEncoder_tun (h : Hub) (n : Nat) (x : EncSt) : (h.setEncoder n x).tun = h.tun := rfl
@[simp] theorem Hub.setEncoder_plan (h : Hub) (n : Nat) (x : EncSt) : (h.setEncoder n x).plan = h.plan := rfl
@[simp] theorem Hub.setEncoder_eng (h : Hub) (n : Nat) (x : EncSt) : (h.setEncoder n x).eng = h.eng := rfl
@[simp] theorem Hub.setEncoder_sw (h : Hub) (n : Nat) (x : EncSt) : (h.setEncoder n x).sw = h.sw := rfl
@[simp] theorem Hub.setEncoder_dm (h : Hub) (n : Nat) (x : EncSt) : (h.setEncoder n x).dm = h.dm := rfl
@[simp] theorem Hub.setEncoder_io (h : Hub) (n : Nat) (x : EncSt) : (h.setEncoder n x).io = h.io := rfl
@[simp] theorem Hub.setEncoder_vid (h : Hub) (n : Nat) (x : EncSt) : (h.setEncoder n x).vid = h.vid := rfl
@[simp] theorem Hub.setEncoder_usb (h : Hub) (n : Nat) (x : EncSt) : (h.setEncoder n x).usb = h.usb := rfl
@[simp] theorem Hub.setEncoder_hb (h : Hub) (n : Nat) (x : EncSt) : (h.setEncoder n x).hb = h.hb := rfl
@[simp] theorem Hub.setEncoder_pair (h : Hub) (n : Nat) (x : EncSt) : (h.setEncoder n x).pair = h.pair := rfl
@[simp] theorem Hub.setEncoder_moor (h : Hub) (n : Nat) (x : EncSt) : (h.setEncoder n x).moor = h.moor := rfl
@[simp] theorem Hub.setEncoder_sec (h : Hub) (n : Nat) (x : EncSt) : (h.setEncoder n x).sec = h.sec := rfl
@[simp] theorem Hub.setEncoder_pwr (h : Hub) (n : Nat) (x : EncSt) : (h.setEncoder n x).pwr = h.pwr := rfl
@[simp] theorem Hub.setEncoder_obs (h : Hub) (n : Nat) (x : EncSt) : (h.setEncoder n x).obs = h.obs := rfl

/-! `Hub.setHostQ` writes nothing but `hb`. -/

@[simp] theorem Hub.setHostQ_hostQ (h : Hub) (q : Nat) (x : HostQ) : (h.setHostQ q x).hostQ q = x := by simp [Hub.setHostQ, Hub.hostQ]
theorem Hub.setHostQ_hostQ_ne (h : Hub) (q j : Nat) (x : HostQ) (hj : j ≠ q) : (h.setHostQ q x).hostQ j = h.hostQ j := by
  simp [Hub.setHostQ, Hub.hostQ, Tab.get_set_other _ _ _ _ _ _ hj]
@[simp] theorem Hub.setHostQ_clock (h : Hub) (q : Nat) (x : HostQ) : (h.setHostQ q x).clock = h.clock := rfl
@[simp] theorem Hub.setHostQ_draws (h : Hub) (q : Nat) (x : HostQ) : (h.setHostQ q x).draws = h.draws := rfl
@[simp] theorem Hub.setHostQ_out (h : Hub) (q : Nat) (x : HostQ) : (h.setHostQ q x).out = h.out := rfl
@[simp] theorem Hub.setHostQ_od (h : Hub) (q : Nat) (x : HostQ) : (h.setHostQ q x).od = h.od := rfl
@[simp] theorem Hub.setHostQ_blob (h : Hub) (q : Nat) (x : HostQ) : (h.setHostQ q x).blob = h.blob := rfl
@[simp] theorem Hub.setHostQ_regs (h : Hub) (q : Nat) (x : HostQ) : (h.setHostQ q x).regs = h.regs := rfl
@[simp] theorem Hub.setHostQ_mem (h : Hub) (q : Nat) (x : HostQ) : (h.setHostQ q x).mem = h.mem := rfl
@[simp] theorem Hub.setHostQ_kram (h : Hub) (q : Nat) (x : HostQ) : (h.setHostQ q x).kram = h.kram := rfl
@[simp] theorem Hub.setHostQ_mode (h : Hub) (q : Nat) (x : HostQ) : (h.setHostQ q x).mode = h.mode := rfl
@[simp] theorem Hub.setHostQ_ctl (h : Hub) (q : Nat) (x : HostQ) : (h.setHostQ q x).ctl = h.ctl := rfl
@[simp] theorem Hub.setHostQ_evt (h : Hub) (q : Nat) (x : HostQ) : (h.setHostQ q x).evt = h.evt := rfl
@[simp] theorem Hub.setHostQ_lanes (h : Hub) (q : Nat) (x : HostQ) : (h.setHostQ q x).lanes = h.lanes := rfl
@[simp] theorem Hub.setHostQ_links (h : Hub) (q : Nat) (x : HostQ) : (h.setHostQ q x).links = h.links := rfl
@[simp] theorem Hub.setHostQ_tun (h : Hub) (q : Nat) (x : HostQ) : (h.setHostQ q x).tun = h.tun := rfl
@[simp] theorem Hub.setHostQ_plan (h : Hub) (q : Nat) (x : HostQ) : (h.setHostQ q x).plan = h.plan := rfl
@[simp] theorem Hub.setHostQ_eng (h : Hub) (q : Nat) (x : HostQ) : (h.setHostQ q x).eng = h.eng := rfl
@[simp] theorem Hub.setHostQ_sw (h : Hub) (q : Nat) (x : HostQ) : (h.setHostQ q x).sw = h.sw := rfl
@[simp] theorem Hub.setHostQ_bcn (h : Hub) (q : Nat) (x : HostQ) : (h.setHostQ q x).bcn = h.bcn := rfl
@[simp] theorem Hub.setHostQ_dm (h : Hub) (q : Nat) (x : HostQ) : (h.setHostQ q x).dm = h.dm := rfl
@[simp] theorem Hub.setHostQ_io (h : Hub) (q : Nat) (x : HostQ) : (h.setHostQ q x).io = h.io := rfl
@[simp] theorem Hub.setHostQ_vid (h : Hub) (q : Nat) (x : HostQ) : (h.setHostQ q x).vid = h.vid := rfl
@[simp] theorem Hub.setHostQ_usb (h : Hub) (q : Nat) (x : HostQ) : (h.setHostQ q x).usb = h.usb := rfl
@[simp] theorem Hub.setHostQ_pair (h : Hub) (q : Nat) (x : HostQ) : (h.setHostQ q x).pair = h.pair := rfl
@[simp] theorem Hub.setHostQ_moor (h : Hub) (q : Nat) (x : HostQ) : (h.setHostQ q x).moor = h.moor := rfl
@[simp] theorem Hub.setHostQ_sec (h : Hub) (q : Nat) (x : HostQ) : (h.setHostQ q x).sec = h.sec := rfl
@[simp] theorem Hub.setHostQ_pwr (h : Hub) (q : Nat) (x : HostQ) : (h.setHostQ q x).pwr = h.pwr := rfl
@[simp] theorem Hub.setHostQ_obs (h : Hub) (q : Nat) (x : HostQ) : (h.setHostQ q x).obs = h.obs := rfl

/-! `Hub.setSlot` writes nothing but `sec`. -/

@[simp] theorem Hub.setSlot_slot (h : Hub) (n : Nat) (x : Slot) : (h.setSlot n x).slot n = x := by simp [Hub.setSlot, Hub.slot]
theorem Hub.setSlot_slot_ne (h : Hub) (n j : Nat) (x : Slot) (hj : j ≠ n) : (h.setSlot n x).slot j = h.slot j := by
  simp [Hub.setSlot, Hub.slot, Tab.get_set_other _ _ _ _ _ _ hj]
@[simp] theorem Hub.setSlot_clock (h : Hub) (n : Nat) (x : Slot) : (h.setSlot n x).clock = h.clock := rfl
@[simp] theorem Hub.setSlot_draws (h : Hub) (n : Nat) (x : Slot) : (h.setSlot n x).draws = h.draws := rfl
@[simp] theorem Hub.setSlot_out (h : Hub) (n : Nat) (x : Slot) : (h.setSlot n x).out = h.out := rfl
@[simp] theorem Hub.setSlot_od (h : Hub) (n : Nat) (x : Slot) : (h.setSlot n x).od = h.od := rfl
@[simp] theorem Hub.setSlot_blob (h : Hub) (n : Nat) (x : Slot) : (h.setSlot n x).blob = h.blob := rfl
@[simp] theorem Hub.setSlot_regs (h : Hub) (n : Nat) (x : Slot) : (h.setSlot n x).regs = h.regs := rfl
@[simp] theorem Hub.setSlot_mem (h : Hub) (n : Nat) (x : Slot) : (h.setSlot n x).mem = h.mem := rfl
@[simp] theorem Hub.setSlot_kram (h : Hub) (n : Nat) (x : Slot) : (h.setSlot n x).kram = h.kram := rfl
@[simp] theorem Hub.setSlot_mode (h : Hub) (n : Nat) (x : Slot) : (h.setSlot n x).mode = h.mode := rfl
@[simp] theorem Hub.setSlot_ctl (h : Hub) (n : Nat) (x : Slot) : (h.setSlot n x).ctl = h.ctl := rfl
@[simp] theorem Hub.setSlot_evt (h : Hub) (n : Nat) (x : Slot) : (h.setSlot n x).evt = h.evt := rfl
@[simp] theorem Hub.setSlot_lanes (h : Hub) (n : Nat) (x : Slot) : (h.setSlot n x).lanes = h.lanes := rfl
@[simp] theorem Hub.setSlot_links (h : Hub) (n : Nat) (x : Slot) : (h.setSlot n x).links = h.links := rfl
@[simp] theorem Hub.setSlot_tun (h : Hub) (n : Nat) (x : Slot) : (h.setSlot n x).tun = h.tun := rfl
@[simp] theorem Hub.setSlot_plan (h : Hub) (n : Nat) (x : Slot) : (h.setSlot n x).plan = h.plan := rfl
@[simp] theorem Hub.setSlot_eng (h : Hub) (n : Nat) (x : Slot) : (h.setSlot n x).eng = h.eng := rfl
@[simp] theorem Hub.setSlot_sw (h : Hub) (n : Nat) (x : Slot) : (h.setSlot n x).sw = h.sw := rfl
@[simp] theorem Hub.setSlot_bcn (h : Hub) (n : Nat) (x : Slot) : (h.setSlot n x).bcn = h.bcn := rfl
@[simp] theorem Hub.setSlot_dm (h : Hub) (n : Nat) (x : Slot) : (h.setSlot n x).dm = h.dm := rfl
@[simp] theorem Hub.setSlot_io (h : Hub) (n : Nat) (x : Slot) : (h.setSlot n x).io = h.io := rfl
@[simp] theorem Hub.setSlot_vid (h : Hub) (n : Nat) (x : Slot) : (h.setSlot n x).vid = h.vid := rfl
@[simp] theorem Hub.setSlot_usb (h : Hub) (n : Nat) (x : Slot) : (h.setSlot n x).usb = h.usb := rfl
@[simp] theorem Hub.setSlot_hb (h : Hub) (n : Nat) (x : Slot) : (h.setSlot n x).hb = h.hb := rfl
@[simp] theorem Hub.setSlot_pair (h : Hub) (n : Nat) (x : Slot) : (h.setSlot n x).pair = h.pair := rfl
@[simp] theorem Hub.setSlot_moor (h : Hub) (n : Nat) (x : Slot) : (h.setSlot n x).moor = h.moor := rfl
@[simp] theorem Hub.setSlot_pwr (h : Hub) (n : Nat) (x : Slot) : (h.setSlot n x).pwr = h.pwr := rfl
@[simp] theorem Hub.setSlot_obs (h : Hub) (n : Nat) (x : Slot) : (h.setSlot n x).obs = h.obs := rfl

/-! `Hub.setPairKey` writes nothing but `sec`. -/

@[simp] theorem Hub.setPairKey_pairKey (h : Hub) (k : Nat) (x : PairKey) : (h.setPairKey k x).pairKey k = x := by simp [Hub.setPairKey, Hub.pairKey]
theorem Hub.setPairKey_pairKey_ne (h : Hub) (k j : Nat) (x : PairKey) (hj : j ≠ k) : (h.setPairKey k x).pairKey j = h.pairKey j := by
  simp [Hub.setPairKey, Hub.pairKey, Tab.get_set_other _ _ _ _ _ _ hj]
@[simp] theorem Hub.setPairKey_clock (h : Hub) (k : Nat) (x : PairKey) : (h.setPairKey k x).clock = h.clock := rfl
@[simp] theorem Hub.setPairKey_draws (h : Hub) (k : Nat) (x : PairKey) : (h.setPairKey k x).draws = h.draws := rfl
@[simp] theorem Hub.setPairKey_out (h : Hub) (k : Nat) (x : PairKey) : (h.setPairKey k x).out = h.out := rfl
@[simp] theorem Hub.setPairKey_od (h : Hub) (k : Nat) (x : PairKey) : (h.setPairKey k x).od = h.od := rfl
@[simp] theorem Hub.setPairKey_blob (h : Hub) (k : Nat) (x : PairKey) : (h.setPairKey k x).blob = h.blob := rfl
@[simp] theorem Hub.setPairKey_regs (h : Hub) (k : Nat) (x : PairKey) : (h.setPairKey k x).regs = h.regs := rfl
@[simp] theorem Hub.setPairKey_mem (h : Hub) (k : Nat) (x : PairKey) : (h.setPairKey k x).mem = h.mem := rfl
@[simp] theorem Hub.setPairKey_kram (h : Hub) (k : Nat) (x : PairKey) : (h.setPairKey k x).kram = h.kram := rfl
@[simp] theorem Hub.setPairKey_mode (h : Hub) (k : Nat) (x : PairKey) : (h.setPairKey k x).mode = h.mode := rfl
@[simp] theorem Hub.setPairKey_ctl (h : Hub) (k : Nat) (x : PairKey) : (h.setPairKey k x).ctl = h.ctl := rfl
@[simp] theorem Hub.setPairKey_evt (h : Hub) (k : Nat) (x : PairKey) : (h.setPairKey k x).evt = h.evt := rfl
@[simp] theorem Hub.setPairKey_lanes (h : Hub) (k : Nat) (x : PairKey) : (h.setPairKey k x).lanes = h.lanes := rfl
@[simp] theorem Hub.setPairKey_links (h : Hub) (k : Nat) (x : PairKey) : (h.setPairKey k x).links = h.links := rfl
@[simp] theorem Hub.setPairKey_tun (h : Hub) (k : Nat) (x : PairKey) : (h.setPairKey k x).tun = h.tun := rfl
@[simp] theorem Hub.setPairKey_plan (h : Hub) (k : Nat) (x : PairKey) : (h.setPairKey k x).plan = h.plan := rfl
@[simp] theorem Hub.setPairKey_eng (h : Hub) (k : Nat) (x : PairKey) : (h.setPairKey k x).eng = h.eng := rfl
@[simp] theorem Hub.setPairKey_sw (h : Hub) (k : Nat) (x : PairKey) : (h.setPairKey k x).sw = h.sw := rfl
@[simp] theorem Hub.setPairKey_bcn (h : Hub) (k : Nat) (x : PairKey) : (h.setPairKey k x).bcn = h.bcn := rfl
@[simp] theorem Hub.setPairKey_dm (h : Hub) (k : Nat) (x : PairKey) : (h.setPairKey k x).dm = h.dm := rfl
@[simp] theorem Hub.setPairKey_io (h : Hub) (k : Nat) (x : PairKey) : (h.setPairKey k x).io = h.io := rfl
@[simp] theorem Hub.setPairKey_vid (h : Hub) (k : Nat) (x : PairKey) : (h.setPairKey k x).vid = h.vid := rfl
@[simp] theorem Hub.setPairKey_usb (h : Hub) (k : Nat) (x : PairKey) : (h.setPairKey k x).usb = h.usb := rfl
@[simp] theorem Hub.setPairKey_hb (h : Hub) (k : Nat) (x : PairKey) : (h.setPairKey k x).hb = h.hb := rfl
@[simp] theorem Hub.setPairKey_pair (h : Hub) (k : Nat) (x : PairKey) : (h.setPairKey k x).pair = h.pair := rfl
@[simp] theorem Hub.setPairKey_moor (h : Hub) (k : Nat) (x : PairKey) : (h.setPairKey k x).moor = h.moor := rfl
@[simp] theorem Hub.setPairKey_pwr (h : Hub) (k : Nat) (x : PairKey) : (h.setPairKey k x).pwr = h.pwr := rfl
@[simp] theorem Hub.setPairKey_obs (h : Hub) (k : Nat) (x : PairKey) : (h.setPairKey k x).obs = h.obs := rfl

/-! `Hub.setLamp` writes nothing but `dm`. -/

@[simp] theorem Hub.setLamp_lamp (h : Hub) (l : Nat) (x : LampSt) : (h.setLamp l x).lamp l = x := by simp [Hub.setLamp, Hub.lamp]
theorem Hub.setLamp_lamp_ne (h : Hub) (l j : Nat) (x : LampSt) (hj : j ≠ l) : (h.setLamp l x).lamp j = h.lamp j := by
  simp [Hub.setLamp, Hub.lamp, Tab.get_set_other _ _ _ _ _ _ hj]
@[simp] theorem Hub.setLamp_clock (h : Hub) (l : Nat) (x : LampSt) : (h.setLamp l x).clock = h.clock := rfl
@[simp] theorem Hub.setLamp_draws (h : Hub) (l : Nat) (x : LampSt) : (h.setLamp l x).draws = h.draws := rfl
@[simp] theorem Hub.setLamp_out (h : Hub) (l : Nat) (x : LampSt) : (h.setLamp l x).out = h.out := rfl
@[simp] theorem Hub.setLamp_od (h : Hub) (l : Nat) (x : LampSt) : (h.setLamp l x).od = h.od := rfl
@[simp] theorem Hub.setLamp_blob (h : Hub) (l : Nat) (x : LampSt) : (h.setLamp l x).blob = h.blob := rfl
@[simp] theorem Hub.setLamp_regs (h : Hub) (l : Nat) (x : LampSt) : (h.setLamp l x).regs = h.regs := rfl
@[simp] theorem Hub.setLamp_mem (h : Hub) (l : Nat) (x : LampSt) : (h.setLamp l x).mem = h.mem := rfl
@[simp] theorem Hub.setLamp_kram (h : Hub) (l : Nat) (x : LampSt) : (h.setLamp l x).kram = h.kram := rfl
@[simp] theorem Hub.setLamp_mode (h : Hub) (l : Nat) (x : LampSt) : (h.setLamp l x).mode = h.mode := rfl
@[simp] theorem Hub.setLamp_ctl (h : Hub) (l : Nat) (x : LampSt) : (h.setLamp l x).ctl = h.ctl := rfl
@[simp] theorem Hub.setLamp_evt (h : Hub) (l : Nat) (x : LampSt) : (h.setLamp l x).evt = h.evt := rfl
@[simp] theorem Hub.setLamp_lanes (h : Hub) (l : Nat) (x : LampSt) : (h.setLamp l x).lanes = h.lanes := rfl
@[simp] theorem Hub.setLamp_links (h : Hub) (l : Nat) (x : LampSt) : (h.setLamp l x).links = h.links := rfl
@[simp] theorem Hub.setLamp_tun (h : Hub) (l : Nat) (x : LampSt) : (h.setLamp l x).tun = h.tun := rfl
@[simp] theorem Hub.setLamp_plan (h : Hub) (l : Nat) (x : LampSt) : (h.setLamp l x).plan = h.plan := rfl
@[simp] theorem Hub.setLamp_eng (h : Hub) (l : Nat) (x : LampSt) : (h.setLamp l x).eng = h.eng := rfl
@[simp] theorem Hub.setLamp_sw (h : Hub) (l : Nat) (x : LampSt) : (h.setLamp l x).sw = h.sw := rfl
@[simp] theorem Hub.setLamp_bcn (h : Hub) (l : Nat) (x : LampSt) : (h.setLamp l x).bcn = h.bcn := rfl
@[simp] theorem Hub.setLamp_io (h : Hub) (l : Nat) (x : LampSt) : (h.setLamp l x).io = h.io := rfl
@[simp] theorem Hub.setLamp_vid (h : Hub) (l : Nat) (x : LampSt) : (h.setLamp l x).vid = h.vid := rfl
@[simp] theorem Hub.setLamp_usb (h : Hub) (l : Nat) (x : LampSt) : (h.setLamp l x).usb = h.usb := rfl
@[simp] theorem Hub.setLamp_hb (h : Hub) (l : Nat) (x : LampSt) : (h.setLamp l x).hb = h.hb := rfl
@[simp] theorem Hub.setLamp_pair (h : Hub) (l : Nat) (x : LampSt) : (h.setLamp l x).pair = h.pair := rfl
@[simp] theorem Hub.setLamp_moor (h : Hub) (l : Nat) (x : LampSt) : (h.setLamp l x).moor = h.moor := rfl
@[simp] theorem Hub.setLamp_sec (h : Hub) (l : Nat) (x : LampSt) : (h.setLamp l x).sec = h.sec := rfl
@[simp] theorem Hub.setLamp_pwr (h : Hub) (l : Nat) (x : LampSt) : (h.setLamp l x).pwr = h.pwr := rfl
@[simp] theorem Hub.setLamp_obs (h : Hub) (l : Nat) (x : LampSt) : (h.setLamp l x).obs = h.obs := rfl

/-! `Hub.setPort` writes nothing but `lanes`. -/

@[simp] theorem Hub.setPort_port (h : Hub) (p : Nat) (x : PortSt) : (h.setPort p x).port p = x := by simp [Hub.setPort, Hub.port]
theorem Hub.setPort_port_ne (h : Hub) (p j : Nat) (x : PortSt) (hj : j ≠ p) : (h.setPort p x).port j = h.port j := by
  simp [Hub.setPort, Hub.port, Tab.get_set_other _ _ _ _ _ _ hj]
@[simp] theorem Hub.setPort_clock (h : Hub) (p : Nat) (x : PortSt) : (h.setPort p x).clock = h.clock := rfl
@[simp] theorem Hub.setPort_draws (h : Hub) (p : Nat) (x : PortSt) : (h.setPort p x).draws = h.draws := rfl
@[simp] theorem Hub.setPort_out (h : Hub) (p : Nat) (x : PortSt) : (h.setPort p x).out = h.out := rfl
@[simp] theorem Hub.setPort_od (h : Hub) (p : Nat) (x : PortSt) : (h.setPort p x).od = h.od := rfl
@[simp] theorem Hub.setPort_blob (h : Hub) (p : Nat) (x : PortSt) : (h.setPort p x).blob = h.blob := rfl
@[simp] theorem Hub.setPort_regs (h : Hub) (p : Nat) (x : PortSt) : (h.setPort p x).regs = h.regs := rfl
@[simp] theorem Hub.setPort_mem (h : Hub) (p : Nat) (x : PortSt) : (h.setPort p x).mem = h.mem := rfl
@[simp] theorem Hub.setPort_kram (h : Hub) (p : Nat) (x : PortSt) : (h.setPort p x).kram = h.kram := rfl
@[simp] theorem Hub.setPort_mode (h : Hub) (p : Nat) (x : PortSt) : (h.setPort p x).mode = h.mode := rfl
@[simp] theorem Hub.setPort_ctl (h : Hub) (p : Nat) (x : PortSt) : (h.setPort p x).ctl = h.ctl := rfl
@[simp] theorem Hub.setPort_evt (h : Hub) (p : Nat) (x : PortSt) : (h.setPort p x).evt = h.evt := rfl
@[simp] theorem Hub.setPort_links (h : Hub) (p : Nat) (x : PortSt) : (h.setPort p x).links = h.links := rfl
@[simp] theorem Hub.setPort_tun (h : Hub) (p : Nat) (x : PortSt) : (h.setPort p x).tun = h.tun := rfl
@[simp] theorem Hub.setPort_plan (h : Hub) (p : Nat) (x : PortSt) : (h.setPort p x).plan = h.plan := rfl
@[simp] theorem Hub.setPort_eng (h : Hub) (p : Nat) (x : PortSt) : (h.setPort p x).eng = h.eng := rfl
@[simp] theorem Hub.setPort_sw (h : Hub) (p : Nat) (x : PortSt) : (h.setPort p x).sw = h.sw := rfl
@[simp] theorem Hub.setPort_bcn (h : Hub) (p : Nat) (x : PortSt) : (h.setPort p x).bcn = h.bcn := rfl
@[simp] theorem Hub.setPort_dm (h : Hub) (p : Nat) (x : PortSt) : (h.setPort p x).dm = h.dm := rfl
@[simp] theorem Hub.setPort_io (h : Hub) (p : Nat) (x : PortSt) : (h.setPort p x).io = h.io := rfl
@[simp] theorem Hub.setPort_vid (h : Hub) (p : Nat) (x : PortSt) : (h.setPort p x).vid = h.vid := rfl
@[simp] theorem Hub.setPort_usb (h : Hub) (p : Nat) (x : PortSt) : (h.setPort p x).usb = h.usb := rfl
@[simp] theorem Hub.setPort_hb (h : Hub) (p : Nat) (x : PortSt) : (h.setPort p x).hb = h.hb := rfl
@[simp] theorem Hub.setPort_pair (h : Hub) (p : Nat) (x : PortSt) : (h.setPort p x).pair = h.pair := rfl
@[simp] theorem Hub.setPort_moor (h : Hub) (p : Nat) (x : PortSt) : (h.setPort p x).moor = h.moor := rfl
@[simp] theorem Hub.setPort_sec (h : Hub) (p : Nat) (x : PortSt) : (h.setPort p x).sec = h.sec := rfl
@[simp] theorem Hub.setPort_pwr (h : Hub) (p : Nat) (x : PortSt) : (h.setPort p x).pwr = h.pwr := rfl
@[simp] theorem Hub.setPort_obs (h : Hub) (p : Nat) (x : PortSt) : (h.setPort p x).obs = h.obs := rfl

/-! `Hub.setLane` writes nothing but `lanes`. -/

@[simp] theorem Hub.setLane_lane (h : Hub) (n : Nat) (x : LaneSt) : (h.setLane n x).lane n = x := by simp [Hub.setLane, Hub.lane]
theorem Hub.setLane_lane_ne (h : Hub) (n j : Nat) (x : LaneSt) (hj : j ≠ n) : (h.setLane n x).lane j = h.lane j := by
  simp [Hub.setLane, Hub.lane, Tab.get_set_other _ _ _ _ _ _ hj]
@[simp] theorem Hub.setLane_clock (h : Hub) (n : Nat) (x : LaneSt) : (h.setLane n x).clock = h.clock := rfl
@[simp] theorem Hub.setLane_draws (h : Hub) (n : Nat) (x : LaneSt) : (h.setLane n x).draws = h.draws := rfl
@[simp] theorem Hub.setLane_out (h : Hub) (n : Nat) (x : LaneSt) : (h.setLane n x).out = h.out := rfl
@[simp] theorem Hub.setLane_od (h : Hub) (n : Nat) (x : LaneSt) : (h.setLane n x).od = h.od := rfl
@[simp] theorem Hub.setLane_blob (h : Hub) (n : Nat) (x : LaneSt) : (h.setLane n x).blob = h.blob := rfl
@[simp] theorem Hub.setLane_regs (h : Hub) (n : Nat) (x : LaneSt) : (h.setLane n x).regs = h.regs := rfl
@[simp] theorem Hub.setLane_mem (h : Hub) (n : Nat) (x : LaneSt) : (h.setLane n x).mem = h.mem := rfl
@[simp] theorem Hub.setLane_kram (h : Hub) (n : Nat) (x : LaneSt) : (h.setLane n x).kram = h.kram := rfl
@[simp] theorem Hub.setLane_mode (h : Hub) (n : Nat) (x : LaneSt) : (h.setLane n x).mode = h.mode := rfl
@[simp] theorem Hub.setLane_ctl (h : Hub) (n : Nat) (x : LaneSt) : (h.setLane n x).ctl = h.ctl := rfl
@[simp] theorem Hub.setLane_evt (h : Hub) (n : Nat) (x : LaneSt) : (h.setLane n x).evt = h.evt := rfl
@[simp] theorem Hub.setLane_links (h : Hub) (n : Nat) (x : LaneSt) : (h.setLane n x).links = h.links := rfl
@[simp] theorem Hub.setLane_tun (h : Hub) (n : Nat) (x : LaneSt) : (h.setLane n x).tun = h.tun := rfl
@[simp] theorem Hub.setLane_plan (h : Hub) (n : Nat) (x : LaneSt) : (h.setLane n x).plan = h.plan := rfl
@[simp] theorem Hub.setLane_eng (h : Hub) (n : Nat) (x : LaneSt) : (h.setLane n x).eng = h.eng := rfl
@[simp] theorem Hub.setLane_sw (h : Hub) (n : Nat) (x : LaneSt) : (h.setLane n x).sw = h.sw := rfl
@[simp] theorem Hub.setLane_bcn (h : Hub) (n : Nat) (x : LaneSt) : (h.setLane n x).bcn = h.bcn := rfl
@[simp] theorem Hub.setLane_dm (h : Hub) (n : Nat) (x : LaneSt) : (h.setLane n x).dm = h.dm := rfl
@[simp] theorem Hub.setLane_io (h : Hub) (n : Nat) (x : LaneSt) : (h.setLane n x).io = h.io := rfl
@[simp] theorem Hub.setLane_vid (h : Hub) (n : Nat) (x : LaneSt) : (h.setLane n x).vid = h.vid := rfl
@[simp] theorem Hub.setLane_usb (h : Hub) (n : Nat) (x : LaneSt) : (h.setLane n x).usb = h.usb := rfl
@[simp] theorem Hub.setLane_hb (h : Hub) (n : Nat) (x : LaneSt) : (h.setLane n x).hb = h.hb := rfl
@[simp] theorem Hub.setLane_pair (h : Hub) (n : Nat) (x : LaneSt) : (h.setLane n x).pair = h.pair := rfl
@[simp] theorem Hub.setLane_moor (h : Hub) (n : Nat) (x : LaneSt) : (h.setLane n x).moor = h.moor := rfl
@[simp] theorem Hub.setLane_sec (h : Hub) (n : Nat) (x : LaneSt) : (h.setLane n x).sec = h.sec := rfl
@[simp] theorem Hub.setLane_pwr (h : Hub) (n : Nat) (x : LaneSt) : (h.setLane n x).pwr = h.pwr := rfl
@[simp] theorem Hub.setLane_obs (h : Hub) (n : Nat) (x : LaneSt) : (h.setLane n x).obs = h.obs := rfl

/-! `Hub.setConn` writes nothing but `moor`. -/

@[simp] theorem Hub.setConn_conn (h : Hub) (c : Nat) (x : ConnSt) : (h.setConn c x).conn c = x := by simp [Hub.setConn, Hub.conn]
theorem Hub.setConn_conn_ne (h : Hub) (c j : Nat) (x : ConnSt) (hj : j ≠ c) : (h.setConn c x).conn j = h.conn j := by
  simp [Hub.setConn, Hub.conn, Tab.get_set_other _ _ _ _ _ _ hj]
@[simp] theorem Hub.setConn_clock (h : Hub) (c : Nat) (x : ConnSt) : (h.setConn c x).clock = h.clock := rfl
@[simp] theorem Hub.setConn_draws (h : Hub) (c : Nat) (x : ConnSt) : (h.setConn c x).draws = h.draws := rfl
@[simp] theorem Hub.setConn_out (h : Hub) (c : Nat) (x : ConnSt) : (h.setConn c x).out = h.out := rfl
@[simp] theorem Hub.setConn_od (h : Hub) (c : Nat) (x : ConnSt) : (h.setConn c x).od = h.od := rfl
@[simp] theorem Hub.setConn_blob (h : Hub) (c : Nat) (x : ConnSt) : (h.setConn c x).blob = h.blob := rfl
@[simp] theorem Hub.setConn_regs (h : Hub) (c : Nat) (x : ConnSt) : (h.setConn c x).regs = h.regs := rfl
@[simp] theorem Hub.setConn_mem (h : Hub) (c : Nat) (x : ConnSt) : (h.setConn c x).mem = h.mem := rfl
@[simp] theorem Hub.setConn_kram (h : Hub) (c : Nat) (x : ConnSt) : (h.setConn c x).kram = h.kram := rfl
@[simp] theorem Hub.setConn_mode (h : Hub) (c : Nat) (x : ConnSt) : (h.setConn c x).mode = h.mode := rfl
@[simp] theorem Hub.setConn_ctl (h : Hub) (c : Nat) (x : ConnSt) : (h.setConn c x).ctl = h.ctl := rfl
@[simp] theorem Hub.setConn_evt (h : Hub) (c : Nat) (x : ConnSt) : (h.setConn c x).evt = h.evt := rfl
@[simp] theorem Hub.setConn_lanes (h : Hub) (c : Nat) (x : ConnSt) : (h.setConn c x).lanes = h.lanes := rfl
@[simp] theorem Hub.setConn_links (h : Hub) (c : Nat) (x : ConnSt) : (h.setConn c x).links = h.links := rfl
@[simp] theorem Hub.setConn_tun (h : Hub) (c : Nat) (x : ConnSt) : (h.setConn c x).tun = h.tun := rfl
@[simp] theorem Hub.setConn_plan (h : Hub) (c : Nat) (x : ConnSt) : (h.setConn c x).plan = h.plan := rfl
@[simp] theorem Hub.setConn_eng (h : Hub) (c : Nat) (x : ConnSt) : (h.setConn c x).eng = h.eng := rfl
@[simp] theorem Hub.setConn_sw (h : Hub) (c : Nat) (x : ConnSt) : (h.setConn c x).sw = h.sw := rfl
@[simp] theorem Hub.setConn_bcn (h : Hub) (c : Nat) (x : ConnSt) : (h.setConn c x).bcn = h.bcn := rfl
@[simp] theorem Hub.setConn_dm (h : Hub) (c : Nat) (x : ConnSt) : (h.setConn c x).dm = h.dm := rfl
@[simp] theorem Hub.setConn_io (h : Hub) (c : Nat) (x : ConnSt) : (h.setConn c x).io = h.io := rfl
@[simp] theorem Hub.setConn_vid (h : Hub) (c : Nat) (x : ConnSt) : (h.setConn c x).vid = h.vid := rfl
@[simp] theorem Hub.setConn_usb (h : Hub) (c : Nat) (x : ConnSt) : (h.setConn c x).usb = h.usb := rfl
@[simp] theorem Hub.setConn_hb (h : Hub) (c : Nat) (x : ConnSt) : (h.setConn c x).hb = h.hb := rfl
@[simp] theorem Hub.setConn_pair (h : Hub) (c : Nat) (x : ConnSt) : (h.setConn c x).pair = h.pair := rfl
@[simp] theorem Hub.setConn_sec (h : Hub) (c : Nat) (x : ConnSt) : (h.setConn c x).sec = h.sec := rfl
@[simp] theorem Hub.setConn_pwr (h : Hub) (c : Nat) (x : ConnSt) : (h.setConn c x).pwr = h.pwr := rfl
@[simp] theorem Hub.setConn_obs (h : Hub) (c : Nat) (x : ConnSt) : (h.setConn c x).obs = h.obs := rfl

/-! `Hub.setEth` writes nothing but `io`. -/

@[simp] theorem Hub.setEth_eth (h : Hub) (n : Nat) (x : EthSt) : (h.setEth n x).eth n = x := by simp [Hub.setEth, Hub.eth]
theorem Hub.setEth_eth_ne (h : Hub) (n j : Nat) (x : EthSt) (hj : j ≠ n) : (h.setEth n x).eth j = h.eth j := by
  simp [Hub.setEth, Hub.eth, Tab.get_set_other _ _ _ _ _ _ hj]
@[simp] theorem Hub.setEth_clock (h : Hub) (n : Nat) (x : EthSt) : (h.setEth n x).clock = h.clock := rfl
@[simp] theorem Hub.setEth_draws (h : Hub) (n : Nat) (x : EthSt) : (h.setEth n x).draws = h.draws := rfl
@[simp] theorem Hub.setEth_out (h : Hub) (n : Nat) (x : EthSt) : (h.setEth n x).out = h.out := rfl
@[simp] theorem Hub.setEth_od (h : Hub) (n : Nat) (x : EthSt) : (h.setEth n x).od = h.od := rfl
@[simp] theorem Hub.setEth_blob (h : Hub) (n : Nat) (x : EthSt) : (h.setEth n x).blob = h.blob := rfl
@[simp] theorem Hub.setEth_regs (h : Hub) (n : Nat) (x : EthSt) : (h.setEth n x).regs = h.regs := rfl
@[simp] theorem Hub.setEth_mem (h : Hub) (n : Nat) (x : EthSt) : (h.setEth n x).mem = h.mem := rfl
@[simp] theorem Hub.setEth_kram (h : Hub) (n : Nat) (x : EthSt) : (h.setEth n x).kram = h.kram := rfl
@[simp] theorem Hub.setEth_mode (h : Hub) (n : Nat) (x : EthSt) : (h.setEth n x).mode = h.mode := rfl
@[simp] theorem Hub.setEth_ctl (h : Hub) (n : Nat) (x : EthSt) : (h.setEth n x).ctl = h.ctl := rfl
@[simp] theorem Hub.setEth_evt (h : Hub) (n : Nat) (x : EthSt) : (h.setEth n x).evt = h.evt := rfl
@[simp] theorem Hub.setEth_lanes (h : Hub) (n : Nat) (x : EthSt) : (h.setEth n x).lanes = h.lanes := rfl
@[simp] theorem Hub.setEth_links (h : Hub) (n : Nat) (x : EthSt) : (h.setEth n x).links = h.links := rfl
@[simp] theorem Hub.setEth_tun (h : Hub) (n : Nat) (x : EthSt) : (h.setEth n x).tun = h.tun := rfl
@[simp] theorem Hub.setEth_plan (h : Hub) (n : Nat) (x : EthSt) : (h.setEth n x).plan = h.plan := rfl
@[simp] theorem Hub.setEth_eng (h : Hub) (n : Nat) (x : EthSt) : (h.setEth n x).eng = h.eng := rfl
@[simp] theorem Hub.setEth_sw (h : Hub) (n : Nat) (x : EthSt) : (h.setEth n x).sw = h.sw := rfl
@[simp] theorem Hub.setEth_bcn (h : Hub) (n : Nat) (x : EthSt) : (h.setEth n x).bcn = h.bcn := rfl
@[simp] theorem Hub.setEth_dm (h : Hub) (n : Nat) (x : EthSt) : (h.setEth n x).dm = h.dm := rfl
@[simp] theorem Hub.setEth_vid (h : Hub) (n : Nat) (x : EthSt) : (h.setEth n x).vid = h.vid := rfl
@[simp] theorem Hub.setEth_usb (h : Hub) (n : Nat) (x : EthSt) : (h.setEth n x).usb = h.usb := rfl
@[simp] theorem Hub.setEth_hb (h : Hub) (n : Nat) (x : EthSt) : (h.setEth n x).hb = h.hb := rfl
@[simp] theorem Hub.setEth_pair (h : Hub) (n : Nat) (x : EthSt) : (h.setEth n x).pair = h.pair := rfl
@[simp] theorem Hub.setEth_moor (h : Hub) (n : Nat) (x : EthSt) : (h.setEth n x).moor = h.moor := rfl
@[simp] theorem Hub.setEth_sec (h : Hub) (n : Nat) (x : EthSt) : (h.setEth n x).sec = h.sec := rfl
@[simp] theorem Hub.setEth_pwr (h : Hub) (n : Nat) (x : EthSt) : (h.setEth n x).pwr = h.pwr := rfl
@[simp] theorem Hub.setEth_obs (h : Hub) (n : Nat) (x : EthSt) : (h.setEth n x).obs = h.obs := rfl

/-! `Hub.setBank` writes nothing but `obs`. -/

@[simp] theorem Hub.setBank_bank (h : Hub) (b : Nat) (x : SnapBank) : (h.setBank b x).bank b = x := by simp [Hub.setBank, Hub.bank]
theorem Hub.setBank_bank_ne (h : Hub) (b j : Nat) (x : SnapBank) (hj : j ≠ b) : (h.setBank b x).bank j = h.bank j := by
  simp [Hub.setBank, Hub.bank, Tab.get_set_other _ _ _ _ _ _ hj]
@[simp] theorem Hub.setBank_clock (h : Hub) (b : Nat) (x : SnapBank) : (h.setBank b x).clock = h.clock := rfl
@[simp] theorem Hub.setBank_draws (h : Hub) (b : Nat) (x : SnapBank) : (h.setBank b x).draws = h.draws := rfl
@[simp] theorem Hub.setBank_out (h : Hub) (b : Nat) (x : SnapBank) : (h.setBank b x).out = h.out := rfl
@[simp] theorem Hub.setBank_od (h : Hub) (b : Nat) (x : SnapBank) : (h.setBank b x).od = h.od := rfl
@[simp] theorem Hub.setBank_blob (h : Hub) (b : Nat) (x : SnapBank) : (h.setBank b x).blob = h.blob := rfl
@[simp] theorem Hub.setBank_regs (h : Hub) (b : Nat) (x : SnapBank) : (h.setBank b x).regs = h.regs := rfl
@[simp] theorem Hub.setBank_mem (h : Hub) (b : Nat) (x : SnapBank) : (h.setBank b x).mem = h.mem := rfl
@[simp] theorem Hub.setBank_kram (h : Hub) (b : Nat) (x : SnapBank) : (h.setBank b x).kram = h.kram := rfl
@[simp] theorem Hub.setBank_mode (h : Hub) (b : Nat) (x : SnapBank) : (h.setBank b x).mode = h.mode := rfl
@[simp] theorem Hub.setBank_ctl (h : Hub) (b : Nat) (x : SnapBank) : (h.setBank b x).ctl = h.ctl := rfl
@[simp] theorem Hub.setBank_evt (h : Hub) (b : Nat) (x : SnapBank) : (h.setBank b x).evt = h.evt := rfl
@[simp] theorem Hub.setBank_lanes (h : Hub) (b : Nat) (x : SnapBank) : (h.setBank b x).lanes = h.lanes := rfl
@[simp] theorem Hub.setBank_links (h : Hub) (b : Nat) (x : SnapBank) : (h.setBank b x).links = h.links := rfl
@[simp] theorem Hub.setBank_tun (h : Hub) (b : Nat) (x : SnapBank) : (h.setBank b x).tun = h.tun := rfl
@[simp] theorem Hub.setBank_plan (h : Hub) (b : Nat) (x : SnapBank) : (h.setBank b x).plan = h.plan := rfl
@[simp] theorem Hub.setBank_eng (h : Hub) (b : Nat) (x : SnapBank) : (h.setBank b x).eng = h.eng := rfl
@[simp] theorem Hub.setBank_sw (h : Hub) (b : Nat) (x : SnapBank) : (h.setBank b x).sw = h.sw := rfl
@[simp] theorem Hub.setBank_bcn (h : Hub) (b : Nat) (x : SnapBank) : (h.setBank b x).bcn = h.bcn := rfl
@[simp] theorem Hub.setBank_dm (h : Hub) (b : Nat) (x : SnapBank) : (h.setBank b x).dm = h.dm := rfl
@[simp] theorem Hub.setBank_io (h : Hub) (b : Nat) (x : SnapBank) : (h.setBank b x).io = h.io := rfl
@[simp] theorem Hub.setBank_vid (h : Hub) (b : Nat) (x : SnapBank) : (h.setBank b x).vid = h.vid := rfl
@[simp] theorem Hub.setBank_usb (h : Hub) (b : Nat) (x : SnapBank) : (h.setBank b x).usb = h.usb := rfl
@[simp] theorem Hub.setBank_hb (h : Hub) (b : Nat) (x : SnapBank) : (h.setBank b x).hb = h.hb := rfl
@[simp] theorem Hub.setBank_pair (h : Hub) (b : Nat) (x : SnapBank) : (h.setBank b x).pair = h.pair := rfl
@[simp] theorem Hub.setBank_moor (h : Hub) (b : Nat) (x : SnapBank) : (h.setBank b x).moor = h.moor := rfl
@[simp] theorem Hub.setBank_sec (h : Hub) (b : Nat) (x : SnapBank) : (h.setBank b x).sec = h.sec := rfl
@[simp] theorem Hub.setBank_pwr (h : Hub) (b : Nat) (x : SnapBank) : (h.setBank b x).pwr = h.pwr := rfl

/-! `Hub.setOutQ` writes nothing but `io`. -/

@[simp] theorem Hub.setOutQ_outQ (h : Hub) (e : Nat) (l : List OutSeg) : (h.setOutQ e l).outQ e = l := by simp [Hub.setOutQ, Hub.outQ]
theorem Hub.setOutQ_outQ_ne (h : Hub) (e j : Nat) (l : List OutSeg) (hj : j ≠ e) : (h.setOutQ e l).outQ j = h.outQ j := by
  simp [Hub.setOutQ, Hub.outQ, Tab.get_set_other _ _ _ _ _ _ hj]
@[simp] theorem Hub.setOutQ_clock (h : Hub) (e : Nat) (l : List OutSeg) : (h.setOutQ e l).clock = h.clock := rfl
@[simp] theorem Hub.setOutQ_draws (h : Hub) (e : Nat) (l : List OutSeg) : (h.setOutQ e l).draws = h.draws := rfl
@[simp] theorem Hub.setOutQ_out (h : Hub) (e : Nat) (l : List OutSeg) : (h.setOutQ e l).out = h.out := rfl
@[simp] theorem Hub.setOutQ_od (h : Hub) (e : Nat) (l : List OutSeg) : (h.setOutQ e l).od = h.od := rfl
@[simp] theorem Hub.setOutQ_blob (h : Hub) (e : Nat) (l : List OutSeg) : (h.setOutQ e l).blob = h.blob := rfl
@[simp] theorem Hub.setOutQ_regs (h : Hub) (e : Nat) (l : List OutSeg) : (h.setOutQ e l).regs = h.regs := rfl
@[simp] theorem Hub.setOutQ_mem (h : Hub) (e : Nat) (l : List OutSeg) : (h.setOutQ e l).mem = h.mem := rfl
@[simp] theorem Hub.setOutQ_kram (h : Hub) (e : Nat) (l : List OutSeg) : (h.setOutQ e l).kram = h.kram := rfl
@[simp] theorem Hub.setOutQ_mode (h : Hub) (e : Nat) (l : List OutSeg) : (h.setOutQ e l).mode = h.mode := rfl
@[simp] theorem Hub.setOutQ_ctl (h : Hub) (e : Nat) (l : List OutSeg) : (h.setOutQ e l).ctl = h.ctl := rfl
@[simp] theorem Hub.setOutQ_evt (h : Hub) (e : Nat) (l : List OutSeg) : (h.setOutQ e l).evt = h.evt := rfl
@[simp] theorem Hub.setOutQ_lanes (h : Hub) (e : Nat) (l : List OutSeg) : (h.setOutQ e l).lanes = h.lanes := rfl
@[simp] theorem Hub.setOutQ_links (h : Hub) (e : Nat) (l : List OutSeg) : (h.setOutQ e l).links = h.links := rfl
@[simp] theorem Hub.setOutQ_tun (h : Hub) (e : Nat) (l : List OutSeg) : (h.setOutQ e l).tun = h.tun := rfl
@[simp] theorem Hub.setOutQ_plan (h : Hub) (e : Nat) (l : List OutSeg) : (h.setOutQ e l).plan = h.plan := rfl
@[simp] theorem Hub.setOutQ_eng (h : Hub) (e : Nat) (l : List OutSeg) : (h.setOutQ e l).eng = h.eng := rfl
@[simp] theorem Hub.setOutQ_sw (h : Hub) (e : Nat) (l : List OutSeg) : (h.setOutQ e l).sw = h.sw := rfl
@[simp] theorem Hub.setOutQ_bcn (h : Hub) (e : Nat) (l : List OutSeg) : (h.setOutQ e l).bcn = h.bcn := rfl
@[simp] theorem Hub.setOutQ_dm (h : Hub) (e : Nat) (l : List OutSeg) : (h.setOutQ e l).dm = h.dm := rfl
@[simp] theorem Hub.setOutQ_vid (h : Hub) (e : Nat) (l : List OutSeg) : (h.setOutQ e l).vid = h.vid := rfl
@[simp] theorem Hub.setOutQ_usb (h : Hub) (e : Nat) (l : List OutSeg) : (h.setOutQ e l).usb = h.usb := rfl
@[simp] theorem Hub.setOutQ_hb (h : Hub) (e : Nat) (l : List OutSeg) : (h.setOutQ e l).hb = h.hb := rfl
@[simp] theorem Hub.setOutQ_pair (h : Hub) (e : Nat) (l : List OutSeg) : (h.setOutQ e l).pair = h.pair := rfl
@[simp] theorem Hub.setOutQ_moor (h : Hub) (e : Nat) (l : List OutSeg) : (h.setOutQ e l).moor = h.moor := rfl
@[simp] theorem Hub.setOutQ_sec (h : Hub) (e : Nat) (l : List OutSeg) : (h.setOutQ e l).sec = h.sec := rfl
@[simp] theorem Hub.setOutQ_pwr (h : Hub) (e : Nat) (l : List OutSeg) : (h.setOutQ e l).pwr = h.pwr := rfl
@[simp] theorem Hub.setOutQ_obs (h : Hub) (e : Nat) (l : List OutSeg) : (h.setOutQ e l).obs = h.obs := rfl

/-! `Hub.setDev` writes nothing but `usb`. -/

@[simp] theorem Hub.setDev_dev (h : Hub) (k : Nat) (x : UsbDev) : (h.setDev k x).dev k = x := by simp [Hub.setDev, Hub.dev]
theorem Hub.setDev_dev_ne (h : Hub) (k j : Nat) (x : UsbDev) (hj : j ≠ k) : (h.setDev k x).dev j = h.dev j := by
  simp [Hub.setDev, Hub.dev, Tab.get_set_other _ _ _ _ _ _ hj]
@[simp] theorem Hub.setDev_clock (h : Hub) (k : Nat) (x : UsbDev) : (h.setDev k x).clock = h.clock := rfl
@[simp] theorem Hub.setDev_draws (h : Hub) (k : Nat) (x : UsbDev) : (h.setDev k x).draws = h.draws := rfl
@[simp] theorem Hub.setDev_out (h : Hub) (k : Nat) (x : UsbDev) : (h.setDev k x).out = h.out := rfl
@[simp] theorem Hub.setDev_od (h : Hub) (k : Nat) (x : UsbDev) : (h.setDev k x).od = h.od := rfl
@[simp] theorem Hub.setDev_blob (h : Hub) (k : Nat) (x : UsbDev) : (h.setDev k x).blob = h.blob := rfl
@[simp] theorem Hub.setDev_regs (h : Hub) (k : Nat) (x : UsbDev) : (h.setDev k x).regs = h.regs := rfl
@[simp] theorem Hub.setDev_mem (h : Hub) (k : Nat) (x : UsbDev) : (h.setDev k x).mem = h.mem := rfl
@[simp] theorem Hub.setDev_kram (h : Hub) (k : Nat) (x : UsbDev) : (h.setDev k x).kram = h.kram := rfl
@[simp] theorem Hub.setDev_mode (h : Hub) (k : Nat) (x : UsbDev) : (h.setDev k x).mode = h.mode := rfl
@[simp] theorem Hub.setDev_ctl (h : Hub) (k : Nat) (x : UsbDev) : (h.setDev k x).ctl = h.ctl := rfl
@[simp] theorem Hub.setDev_evt (h : Hub) (k : Nat) (x : UsbDev) : (h.setDev k x).evt = h.evt := rfl
@[simp] theorem Hub.setDev_lanes (h : Hub) (k : Nat) (x : UsbDev) : (h.setDev k x).lanes = h.lanes := rfl
@[simp] theorem Hub.setDev_links (h : Hub) (k : Nat) (x : UsbDev) : (h.setDev k x).links = h.links := rfl
@[simp] theorem Hub.setDev_tun (h : Hub) (k : Nat) (x : UsbDev) : (h.setDev k x).tun = h.tun := rfl
@[simp] theorem Hub.setDev_plan (h : Hub) (k : Nat) (x : UsbDev) : (h.setDev k x).plan = h.plan := rfl
@[simp] theorem Hub.setDev_eng (h : Hub) (k : Nat) (x : UsbDev) : (h.setDev k x).eng = h.eng := rfl
@[simp] theorem Hub.setDev_sw (h : Hub) (k : Nat) (x : UsbDev) : (h.setDev k x).sw = h.sw := rfl
@[simp] theorem Hub.setDev_bcn (h : Hub) (k : Nat) (x : UsbDev) : (h.setDev k x).bcn = h.bcn := rfl
@[simp] theorem Hub.setDev_dm (h : Hub) (k : Nat) (x : UsbDev) : (h.setDev k x).dm = h.dm := rfl
@[simp] theorem Hub.setDev_io (h : Hub) (k : Nat) (x : UsbDev) : (h.setDev k x).io = h.io := rfl
@[simp] theorem Hub.setDev_vid (h : Hub) (k : Nat) (x : UsbDev) : (h.setDev k x).vid = h.vid := rfl
@[simp] theorem Hub.setDev_hb (h : Hub) (k : Nat) (x : UsbDev) : (h.setDev k x).hb = h.hb := rfl
@[simp] theorem Hub.setDev_pair (h : Hub) (k : Nat) (x : UsbDev) : (h.setDev k x).pair = h.pair := rfl
@[simp] theorem Hub.setDev_moor (h : Hub) (k : Nat) (x : UsbDev) : (h.setDev k x).moor = h.moor := rfl
@[simp] theorem Hub.setDev_sec (h : Hub) (k : Nat) (x : UsbDev) : (h.setDev k x).sec = h.sec := rfl
@[simp] theorem Hub.setDev_pwr (h : Hub) (k : Nat) (x : UsbDev) : (h.setDev k x).pwr = h.pwr := rfl
@[simp] theorem Hub.setDev_obs (h : Hub) (k : Nat) (x : UsbDev) : (h.setDev k x).obs = h.obs := rfl

/-! `Hub.setWin` writes nothing but `hb`. -/

@[simp] theorem Hub.setWin_win (h : Hub) (w : Nat) (x : WinSt) : (h.setWin w x).win w = x := by simp [Hub.setWin, Hub.win]
theorem Hub.setWin_win_ne (h : Hub) (w j : Nat) (x : WinSt) (hj : j ≠ w) : (h.setWin w x).win j = h.win j := by
  simp [Hub.setWin, Hub.win, Tab.get_set_other _ _ _ _ _ _ hj]
@[simp] theorem Hub.setWin_clock (h : Hub) (w : Nat) (x : WinSt) : (h.setWin w x).clock = h.clock := rfl
@[simp] theorem Hub.setWin_draws (h : Hub) (w : Nat) (x : WinSt) : (h.setWin w x).draws = h.draws := rfl
@[simp] theorem Hub.setWin_out (h : Hub) (w : Nat) (x : WinSt) : (h.setWin w x).out = h.out := rfl
@[simp] theorem Hub.setWin_od (h : Hub) (w : Nat) (x : WinSt) : (h.setWin w x).od = h.od := rfl
@[simp] theorem Hub.setWin_blob (h : Hub) (w : Nat) (x : WinSt) : (h.setWin w x).blob = h.blob := rfl
@[simp] theorem Hub.setWin_regs (h : Hub) (w : Nat) (x : WinSt) : (h.setWin w x).regs = h.regs := rfl
@[simp] theorem Hub.setWin_mem (h : Hub) (w : Nat) (x : WinSt) : (h.setWin w x).mem = h.mem := rfl
@[simp] theorem Hub.setWin_kram (h : Hub) (w : Nat) (x : WinSt) : (h.setWin w x).kram = h.kram := rfl
@[simp] theorem Hub.setWin_mode (h : Hub) (w : Nat) (x : WinSt) : (h.setWin w x).mode = h.mode := rfl
@[simp] theorem Hub.setWin_ctl (h : Hub) (w : Nat) (x : WinSt) : (h.setWin w x).ctl = h.ctl := rfl
@[simp] theorem Hub.setWin_evt (h : Hub) (w : Nat) (x : WinSt) : (h.setWin w x).evt = h.evt := rfl
@[simp] theorem Hub.setWin_lanes (h : Hub) (w : Nat) (x : WinSt) : (h.setWin w x).lanes = h.lanes := rfl
@[simp] theorem Hub.setWin_links (h : Hub) (w : Nat) (x : WinSt) : (h.setWin w x).links = h.links := rfl
@[simp] theorem Hub.setWin_tun (h : Hub) (w : Nat) (x : WinSt) : (h.setWin w x).tun = h.tun := rfl
@[simp] theorem Hub.setWin_plan (h : Hub) (w : Nat) (x : WinSt) : (h.setWin w x).plan = h.plan := rfl
@[simp] theorem Hub.setWin_eng (h : Hub) (w : Nat) (x : WinSt) : (h.setWin w x).eng = h.eng := rfl
@[simp] theorem Hub.setWin_sw (h : Hub) (w : Nat) (x : WinSt) : (h.setWin w x).sw = h.sw := rfl
@[simp] theorem Hub.setWin_bcn (h : Hub) (w : Nat) (x : WinSt) : (h.setWin w x).bcn = h.bcn := rfl
@[simp] theorem Hub.setWin_dm (h : Hub) (w : Nat) (x : WinSt) : (h.setWin w x).dm = h.dm := rfl
@[simp] theorem Hub.setWin_io (h : Hub) (w : Nat) (x : WinSt) : (h.setWin w x).io = h.io := rfl
@[simp] theorem Hub.setWin_vid (h : Hub) (w : Nat) (x : WinSt) : (h.setWin w x).vid = h.vid := rfl
@[simp] theorem Hub.setWin_usb (h : Hub) (w : Nat) (x : WinSt) : (h.setWin w x).usb = h.usb := rfl
@[simp] theorem Hub.setWin_pair (h : Hub) (w : Nat) (x : WinSt) : (h.setWin w x).pair = h.pair := rfl
@[simp] theorem Hub.setWin_moor (h : Hub) (w : Nat) (x : WinSt) : (h.setWin w x).moor = h.moor := rfl
@[simp] theorem Hub.setWin_sec (h : Hub) (w : Nat) (x : WinSt) : (h.setWin w x).sec = h.sec := rfl
@[simp] theorem Hub.setWin_pwr (h : Hub) (w : Nat) (x : WinSt) : (h.setWin w x).pwr = h.pwr := rfl
@[simp] theorem Hub.setWin_obs (h : Hub) (w : Nat) (x : WinSt) : (h.setWin w x).obs = h.obs := rfl

/-! `Hub.setSer` writes nothing but `io`. -/

@[simp] theorem Hub.setSer_ser (h : Hub) (n : Nat) (x : SerSt) : (h.setSer n x).ser n = x := by simp [Hub.setSer, Hub.ser]
theorem Hub.setSer_ser_ne (h : Hub) (n j : Nat) (x : SerSt) (hj : j ≠ n) : (h.setSer n x).ser j = h.ser j := by
  simp [Hub.setSer, Hub.ser, Tab.get_set_other _ _ _ _ _ _ hj]
@[simp] theorem Hub.setSer_clock (h : Hub) (n : Nat) (x : SerSt) : (h.setSer n x).clock = h.clock := rfl
@[simp] theorem Hub.setSer_draws (h : Hub) (n : Nat) (x : SerSt) : (h.setSer n x).draws = h.draws := rfl
@[simp] theorem Hub.setSer_out (h : Hub) (n : Nat) (x : SerSt) : (h.setSer n x).out = h.out := rfl
@[simp] theorem Hub.setSer_od (h : Hub) (n : Nat) (x : SerSt) : (h.setSer n x).od = h.od := rfl
@[simp] theorem Hub.setSer_blob (h : Hub) (n : Nat) (x : SerSt) : (h.setSer n x).blob = h.blob := rfl
@[simp] theorem Hub.setSer_regs (h : Hub) (n : Nat) (x : SerSt) : (h.setSer n x).regs = h.regs := rfl
@[simp] theorem Hub.setSer_mem (h : Hub) (n : Nat) (x : SerSt) : (h.setSer n x).mem = h.mem := rfl
@[simp] theorem Hub.setSer_kram (h : Hub) (n : Nat) (x : SerSt) : (h.setSer n x).kram = h.kram := rfl
@[simp] theorem Hub.setSer_mode (h : Hub) (n : Nat) (x : SerSt) : (h.setSer n x).mode = h.mode := rfl
@[simp] theorem Hub.setSer_ctl (h : Hub) (n : Nat) (x : SerSt) : (h.setSer n x).ctl = h.ctl := rfl
@[simp] theorem Hub.setSer_evt (h : Hub) (n : Nat) (x : SerSt) : (h.setSer n x).evt = h.evt := rfl
@[simp] theorem Hub.setSer_lanes (h : Hub) (n : Nat) (x : SerSt) : (h.setSer n x).lanes = h.lanes := rfl
@[simp] theorem Hub.setSer_links (h : Hub) (n : Nat) (x : SerSt) : (h.setSer n x).links = h.links := rfl
@[simp] theorem Hub.setSer_tun (h : Hub) (n : Nat) (x : SerSt) : (h.setSer n x).tun = h.tun := rfl
@[simp] theorem Hub.setSer_plan (h : Hub) (n : Nat) (x : SerSt) : (h.setSer n x).plan = h.plan := rfl
@[simp] theorem Hub.setSer_eng (h : Hub) (n : Nat) (x : SerSt) : (h.setSer n x).eng = h.eng := rfl
@[simp] theorem Hub.setSer_sw (h : Hub) (n : Nat) (x : SerSt) : (h.setSer n x).sw = h.sw := rfl
@[simp] theorem Hub.setSer_bcn (h : Hub) (n : Nat) (x : SerSt) : (h.setSer n x).bcn = h.bcn := rfl
@[simp] theorem Hub.setSer_dm (h : Hub) (n : Nat) (x : SerSt) : (h.setSer n x).dm = h.dm := rfl
@[simp] theorem Hub.setSer_vid (h : Hub) (n : Nat) (x : SerSt) : (h.setSer n x).vid = h.vid := rfl
@[simp] theorem Hub.setSer_usb (h : Hub) (n : Nat) (x : SerSt) : (h.setSer n x).usb = h.usb := rfl
@[simp] theorem Hub.setSer_hb (h : Hub) (n : Nat) (x : SerSt) : (h.setSer n x).hb = h.hb := rfl
@[simp] theorem Hub.setSer_pair (h : Hub) (n : Nat) (x : SerSt) : (h.setSer n x).pair = h.pair := rfl
@[simp] theorem Hub.setSer_moor (h : Hub) (n : Nat) (x : SerSt) : (h.setSer n x).moor = h.moor := rfl
@[simp] theorem Hub.setSer_sec (h : Hub) (n : Nat) (x : SerSt) : (h.setSer n x).sec = h.sec := rfl
@[simp] theorem Hub.setSer_pwr (h : Hub) (n : Nat) (x : SerSt) : (h.setSer n x).pwr = h.pwr := rfl
@[simp] theorem Hub.setSer_obs (h : Hub) (n : Nat) (x : SerSt) : (h.setSer n x).obs = h.obs := rfl

/-! `Hub.setEmmc` writes nothing but `io`. -/

@[simp] theorem Hub.setEmmc_clock (h : Hub) (x : EmmcSt) : (h.setEmmc x).clock = h.clock := rfl
@[simp] theorem Hub.setEmmc_draws (h : Hub) (x : EmmcSt) : (h.setEmmc x).draws = h.draws := rfl
@[simp] theorem Hub.setEmmc_out (h : Hub) (x : EmmcSt) : (h.setEmmc x).out = h.out := rfl
@[simp] theorem Hub.setEmmc_od (h : Hub) (x : EmmcSt) : (h.setEmmc x).od = h.od := rfl
@[simp] theorem Hub.setEmmc_blob (h : Hub) (x : EmmcSt) : (h.setEmmc x).blob = h.blob := rfl
@[simp] theorem Hub.setEmmc_regs (h : Hub) (x : EmmcSt) : (h.setEmmc x).regs = h.regs := rfl
@[simp] theorem Hub.setEmmc_mem (h : Hub) (x : EmmcSt) : (h.setEmmc x).mem = h.mem := rfl
@[simp] theorem Hub.setEmmc_kram (h : Hub) (x : EmmcSt) : (h.setEmmc x).kram = h.kram := rfl
@[simp] theorem Hub.setEmmc_mode (h : Hub) (x : EmmcSt) : (h.setEmmc x).mode = h.mode := rfl
@[simp] theorem Hub.setEmmc_ctl (h : Hub) (x : EmmcSt) : (h.setEmmc x).ctl = h.ctl := rfl
@[simp] theorem Hub.setEmmc_evt (h : Hub) (x : EmmcSt) : (h.setEmmc x).evt = h.evt := rfl
@[simp] theorem Hub.setEmmc_lanes (h : Hub) (x : EmmcSt) : (h.setEmmc x).lanes = h.lanes := rfl
@[simp] theorem Hub.setEmmc_links (h : Hub) (x : EmmcSt) : (h.setEmmc x).links = h.links := rfl
@[simp] theorem Hub.setEmmc_tun (h : Hub) (x : EmmcSt) : (h.setEmmc x).tun = h.tun := rfl
@[simp] theorem Hub.setEmmc_plan (h : Hub) (x : EmmcSt) : (h.setEmmc x).plan = h.plan := rfl
@[simp] theorem Hub.setEmmc_eng (h : Hub) (x : EmmcSt) : (h.setEmmc x).eng = h.eng := rfl
@[simp] theorem Hub.setEmmc_sw (h : Hub) (x : EmmcSt) : (h.setEmmc x).sw = h.sw := rfl
@[simp] theorem Hub.setEmmc_bcn (h : Hub) (x : EmmcSt) : (h.setEmmc x).bcn = h.bcn := rfl
@[simp] theorem Hub.setEmmc_dm (h : Hub) (x : EmmcSt) : (h.setEmmc x).dm = h.dm := rfl
@[simp] theorem Hub.setEmmc_vid (h : Hub) (x : EmmcSt) : (h.setEmmc x).vid = h.vid := rfl
@[simp] theorem Hub.setEmmc_usb (h : Hub) (x : EmmcSt) : (h.setEmmc x).usb = h.usb := rfl
@[simp] theorem Hub.setEmmc_hb (h : Hub) (x : EmmcSt) : (h.setEmmc x).hb = h.hb := rfl
@[simp] theorem Hub.setEmmc_pair (h : Hub) (x : EmmcSt) : (h.setEmmc x).pair = h.pair := rfl
@[simp] theorem Hub.setEmmc_moor (h : Hub) (x : EmmcSt) : (h.setEmmc x).moor = h.moor := rfl
@[simp] theorem Hub.setEmmc_sec (h : Hub) (x : EmmcSt) : (h.setEmmc x).sec = h.sec := rfl
@[simp] theorem Hub.setEmmc_pwr (h : Hub) (x : EmmcSt) : (h.setEmmc x).pwr = h.pwr := rfl
@[simp] theorem Hub.setEmmc_obs (h : Hub) (x : EmmcSt) : (h.setEmmc x).obs = h.obs := rfl

/-! `Hub.setAcct` writes nothing but `sw`. -/

@[simp] theorem Hub.setAcct_clock (h : Hub) (a n : Nat) : (h.setAcct a n).clock = h.clock := rfl
@[simp] theorem Hub.setAcct_draws (h : Hub) (a n : Nat) : (h.setAcct a n).draws = h.draws := rfl
@[simp] theorem Hub.setAcct_out (h : Hub) (a n : Nat) : (h.setAcct a n).out = h.out := rfl
@[simp] theorem Hub.setAcct_od (h : Hub) (a n : Nat) : (h.setAcct a n).od = h.od := rfl
@[simp] theorem Hub.setAcct_blob (h : Hub) (a n : Nat) : (h.setAcct a n).blob = h.blob := rfl
@[simp] theorem Hub.setAcct_regs (h : Hub) (a n : Nat) : (h.setAcct a n).regs = h.regs := rfl
@[simp] theorem Hub.setAcct_mem (h : Hub) (a n : Nat) : (h.setAcct a n).mem = h.mem := rfl
@[simp] theorem Hub.setAcct_kram (h : Hub) (a n : Nat) : (h.setAcct a n).kram = h.kram := rfl
@[simp] theorem Hub.setAcct_mode (h : Hub) (a n : Nat) : (h.setAcct a n).mode = h.mode := rfl
@[simp] theorem Hub.setAcct_ctl (h : Hub) (a n : Nat) : (h.setAcct a n).ctl = h.ctl := rfl
@[simp] theorem Hub.setAcct_evt (h : Hub) (a n : Nat) : (h.setAcct a n).evt = h.evt := rfl
@[simp] theorem Hub.setAcct_lanes (h : Hub) (a n : Nat) : (h.setAcct a n).lanes = h.lanes := rfl
@[simp] theorem Hub.setAcct_links (h : Hub) (a n : Nat) : (h.setAcct a n).links = h.links := rfl
@[simp] theorem Hub.setAcct_tun (h : Hub) (a n : Nat) : (h.setAcct a n).tun = h.tun := rfl
@[simp] theorem Hub.setAcct_plan (h : Hub) (a n : Nat) : (h.setAcct a n).plan = h.plan := rfl
@[simp] theorem Hub.setAcct_eng (h : Hub) (a n : Nat) : (h.setAcct a n).eng = h.eng := rfl
@[simp] theorem Hub.setAcct_bcn (h : Hub) (a n : Nat) : (h.setAcct a n).bcn = h.bcn := rfl
@[simp] theorem Hub.setAcct_dm (h : Hub) (a n : Nat) : (h.setAcct a n).dm = h.dm := rfl
@[simp] theorem Hub.setAcct_io (h : Hub) (a n : Nat) : (h.setAcct a n).io = h.io := rfl
@[simp] theorem Hub.setAcct_vid (h : Hub) (a n : Nat) : (h.setAcct a n).vid = h.vid := rfl
@[simp] theorem Hub.setAcct_usb (h : Hub) (a n : Nat) : (h.setAcct a n).usb = h.usb := rfl
@[simp] theorem Hub.setAcct_hb (h : Hub) (a n : Nat) : (h.setAcct a n).hb = h.hb := rfl
@[simp] theorem Hub.setAcct_pair (h : Hub) (a n : Nat) : (h.setAcct a n).pair = h.pair := rfl
@[simp] theorem Hub.setAcct_moor (h : Hub) (a n : Nat) : (h.setAcct a n).moor = h.moor := rfl
@[simp] theorem Hub.setAcct_sec (h : Hub) (a n : Nat) : (h.setAcct a n).sec = h.sec := rfl
@[simp] theorem Hub.setAcct_pwr (h : Hub) (a n : Nat) : (h.setAcct a n).pwr = h.pwr := rfl
@[simp] theorem Hub.setAcct_obs (h : Hub) (a n : Nat) : (h.setAcct a n).obs = h.obs := rfl

/-! `Hub.setCls` writes nothing but `sw`. -/

@[simp] theorem Hub.setCls_clock (h : Hub) (n : Nat) (e : ClsEntry) : (h.setCls n e).clock = h.clock := rfl
@[simp] theorem Hub.setCls_draws (h : Hub) (n : Nat) (e : ClsEntry) : (h.setCls n e).draws = h.draws := rfl
@[simp] theorem Hub.setCls_out (h : Hub) (n : Nat) (e : ClsEntry) : (h.setCls n e).out = h.out := rfl
@[simp] theorem Hub.setCls_od (h : Hub) (n : Nat) (e : ClsEntry) : (h.setCls n e).od = h.od := rfl
@[simp] theorem Hub.setCls_blob (h : Hub) (n : Nat) (e : ClsEntry) : (h.setCls n e).blob = h.blob := rfl
@[simp] theorem Hub.setCls_regs (h : Hub) (n : Nat) (e : ClsEntry) : (h.setCls n e).regs = h.regs := rfl
@[simp] theorem Hub.setCls_mem (h : Hub) (n : Nat) (e : ClsEntry) : (h.setCls n e).mem = h.mem := rfl
@[simp] theorem Hub.setCls_kram (h : Hub) (n : Nat) (e : ClsEntry) : (h.setCls n e).kram = h.kram := rfl
@[simp] theorem Hub.setCls_mode (h : Hub) (n : Nat) (e : ClsEntry) : (h.setCls n e).mode = h.mode := rfl
@[simp] theorem Hub.setCls_ctl (h : Hub) (n : Nat) (e : ClsEntry) : (h.setCls n e).ctl = h.ctl := rfl
@[simp] theorem Hub.setCls_evt (h : Hub) (n : Nat) (e : ClsEntry) : (h.setCls n e).evt = h.evt := rfl
@[simp] theorem Hub.setCls_lanes (h : Hub) (n : Nat) (e : ClsEntry) : (h.setCls n e).lanes = h.lanes := rfl
@[simp] theorem Hub.setCls_links (h : Hub) (n : Nat) (e : ClsEntry) : (h.setCls n e).links = h.links := rfl
@[simp] theorem Hub.setCls_tun (h : Hub) (n : Nat) (e : ClsEntry) : (h.setCls n e).tun = h.tun := rfl
@[simp] theorem Hub.setCls_plan (h : Hub) (n : Nat) (e : ClsEntry) : (h.setCls n e).plan = h.plan := rfl
@[simp] theorem Hub.setCls_eng (h : Hub) (n : Nat) (e : ClsEntry) : (h.setCls n e).eng = h.eng := rfl
@[simp] theorem Hub.setCls_bcn (h : Hub) (n : Nat) (e : ClsEntry) : (h.setCls n e).bcn = h.bcn := rfl
@[simp] theorem Hub.setCls_dm (h : Hub) (n : Nat) (e : ClsEntry) : (h.setCls n e).dm = h.dm := rfl
@[simp] theorem Hub.setCls_io (h : Hub) (n : Nat) (e : ClsEntry) : (h.setCls n e).io = h.io := rfl
@[simp] theorem Hub.setCls_vid (h : Hub) (n : Nat) (e : ClsEntry) : (h.setCls n e).vid = h.vid := rfl
@[simp] theorem Hub.setCls_usb (h : Hub) (n : Nat) (e : ClsEntry) : (h.setCls n e).usb = h.usb := rfl
@[simp] theorem Hub.setCls_hb (h : Hub) (n : Nat) (e : ClsEntry) : (h.setCls n e).hb = h.hb := rfl
@[simp] theorem Hub.setCls_pair (h : Hub) (n : Nat) (e : ClsEntry) : (h.setCls n e).pair = h.pair := rfl
@[simp] theorem Hub.setCls_moor (h : Hub) (n : Nat) (e : ClsEntry) : (h.setCls n e).moor = h.moor := rfl
@[simp] theorem Hub.setCls_sec (h : Hub) (n : Nat) (e : ClsEntry) : (h.setCls n e).sec = h.sec := rfl
@[simp] theorem Hub.setCls_pwr (h : Hub) (n : Nat) (e : ClsEntry) : (h.setCls n e).pwr = h.pwr := rfl
@[simp] theorem Hub.setCls_obs (h : Hub) (n : Nat) (e : ClsEntry) : (h.setCls n e).obs = h.obs := rfl

/-! `Hub.setMirror` writes nothing but `sw`. -/

@[simp] theorem Hub.setMirror_mirror (h : Hub) (s : Nat) (x : MirrorSt) : (h.setMirror s x).mirror s = x := by simp [Hub.setMirror, Hub.mirror]
theorem Hub.setMirror_mirror_ne (h : Hub) (s j : Nat) (x : MirrorSt) (hj : j ≠ s) : (h.setMirror s x).mirror j = h.mirror j := by
  simp [Hub.setMirror, Hub.mirror, Tab.get_set_other _ _ _ _ _ _ hj]
@[simp] theorem Hub.setMirror_clock (h : Hub) (s : Nat) (x : MirrorSt) : (h.setMirror s x).clock = h.clock := rfl
@[simp] theorem Hub.setMirror_draws (h : Hub) (s : Nat) (x : MirrorSt) : (h.setMirror s x).draws = h.draws := rfl
@[simp] theorem Hub.setMirror_out (h : Hub) (s : Nat) (x : MirrorSt) : (h.setMirror s x).out = h.out := rfl
@[simp] theorem Hub.setMirror_od (h : Hub) (s : Nat) (x : MirrorSt) : (h.setMirror s x).od = h.od := rfl
@[simp] theorem Hub.setMirror_blob (h : Hub) (s : Nat) (x : MirrorSt) : (h.setMirror s x).blob = h.blob := rfl
@[simp] theorem Hub.setMirror_regs (h : Hub) (s : Nat) (x : MirrorSt) : (h.setMirror s x).regs = h.regs := rfl
@[simp] theorem Hub.setMirror_mem (h : Hub) (s : Nat) (x : MirrorSt) : (h.setMirror s x).mem = h.mem := rfl
@[simp] theorem Hub.setMirror_kram (h : Hub) (s : Nat) (x : MirrorSt) : (h.setMirror s x).kram = h.kram := rfl
@[simp] theorem Hub.setMirror_mode (h : Hub) (s : Nat) (x : MirrorSt) : (h.setMirror s x).mode = h.mode := rfl
@[simp] theorem Hub.setMirror_ctl (h : Hub) (s : Nat) (x : MirrorSt) : (h.setMirror s x).ctl = h.ctl := rfl
@[simp] theorem Hub.setMirror_evt (h : Hub) (s : Nat) (x : MirrorSt) : (h.setMirror s x).evt = h.evt := rfl
@[simp] theorem Hub.setMirror_lanes (h : Hub) (s : Nat) (x : MirrorSt) : (h.setMirror s x).lanes = h.lanes := rfl
@[simp] theorem Hub.setMirror_links (h : Hub) (s : Nat) (x : MirrorSt) : (h.setMirror s x).links = h.links := rfl
@[simp] theorem Hub.setMirror_tun (h : Hub) (s : Nat) (x : MirrorSt) : (h.setMirror s x).tun = h.tun := rfl
@[simp] theorem Hub.setMirror_plan (h : Hub) (s : Nat) (x : MirrorSt) : (h.setMirror s x).plan = h.plan := rfl
@[simp] theorem Hub.setMirror_eng (h : Hub) (s : Nat) (x : MirrorSt) : (h.setMirror s x).eng = h.eng := rfl
@[simp] theorem Hub.setMirror_bcn (h : Hub) (s : Nat) (x : MirrorSt) : (h.setMirror s x).bcn = h.bcn := rfl
@[simp] theorem Hub.setMirror_dm (h : Hub) (s : Nat) (x : MirrorSt) : (h.setMirror s x).dm = h.dm := rfl
@[simp] theorem Hub.setMirror_io (h : Hub) (s : Nat) (x : MirrorSt) : (h.setMirror s x).io = h.io := rfl
@[simp] theorem Hub.setMirror_vid (h : Hub) (s : Nat) (x : MirrorSt) : (h.setMirror s x).vid = h.vid := rfl
@[simp] theorem Hub.setMirror_usb (h : Hub) (s : Nat) (x : MirrorSt) : (h.setMirror s x).usb = h.usb := rfl
@[simp] theorem Hub.setMirror_hb (h : Hub) (s : Nat) (x : MirrorSt) : (h.setMirror s x).hb = h.hb := rfl
@[simp] theorem Hub.setMirror_pair (h : Hub) (s : Nat) (x : MirrorSt) : (h.setMirror s x).pair = h.pair := rfl
@[simp] theorem Hub.setMirror_moor (h : Hub) (s : Nat) (x : MirrorSt) : (h.setMirror s x).moor = h.moor := rfl
@[simp] theorem Hub.setMirror_sec (h : Hub) (s : Nat) (x : MirrorSt) : (h.setMirror s x).sec = h.sec := rfl
@[simp] theorem Hub.setMirror_pwr (h : Hub) (s : Nat) (x : MirrorSt) : (h.setMirror s x).pwr = h.pwr := rfl
@[simp] theorem Hub.setMirror_obs (h : Hub) (s : Nat) (x : MirrorSt) : (h.setMirror s x).obs = h.obs := rfl

/-! `Hub.setTender` writes nothing but `eng`. -/

@[simp] theorem Hub.setTender_tender (h : Hub) (t : Nat) (x : Tender) : (h.setTender t x).tender t = x := by simp [Hub.setTender, Hub.tender]
theorem Hub.setTender_tender_ne (h : Hub) (t j : Nat) (x : Tender) (hj : j ≠ t) : (h.setTender t x).tender j = h.tender j := by
  simp [Hub.setTender, Hub.tender, Tab.get_set_other _ _ _ _ _ _ hj]
@[simp] theorem Hub.setTender_clock (h : Hub) (t : Nat) (x : Tender) : (h.setTender t x).clock = h.clock := rfl
@[simp] theorem Hub.setTender_draws (h : Hub) (t : Nat) (x : Tender) : (h.setTender t x).draws = h.draws := rfl
@[simp] theorem Hub.setTender_out (h : Hub) (t : Nat) (x : Tender) : (h.setTender t x).out = h.out := rfl
@[simp] theorem Hub.setTender_od (h : Hub) (t : Nat) (x : Tender) : (h.setTender t x).od = h.od := rfl
@[simp] theorem Hub.setTender_blob (h : Hub) (t : Nat) (x : Tender) : (h.setTender t x).blob = h.blob := rfl
@[simp] theorem Hub.setTender_regs (h : Hub) (t : Nat) (x : Tender) : (h.setTender t x).regs = h.regs := rfl
@[simp] theorem Hub.setTender_mem (h : Hub) (t : Nat) (x : Tender) : (h.setTender t x).mem = h.mem := rfl
@[simp] theorem Hub.setTender_kram (h : Hub) (t : Nat) (x : Tender) : (h.setTender t x).kram = h.kram := rfl
@[simp] theorem Hub.setTender_mode (h : Hub) (t : Nat) (x : Tender) : (h.setTender t x).mode = h.mode := rfl
@[simp] theorem Hub.setTender_ctl (h : Hub) (t : Nat) (x : Tender) : (h.setTender t x).ctl = h.ctl := rfl
@[simp] theorem Hub.setTender_evt (h : Hub) (t : Nat) (x : Tender) : (h.setTender t x).evt = h.evt := rfl
@[simp] theorem Hub.setTender_lanes (h : Hub) (t : Nat) (x : Tender) : (h.setTender t x).lanes = h.lanes := rfl
@[simp] theorem Hub.setTender_links (h : Hub) (t : Nat) (x : Tender) : (h.setTender t x).links = h.links := rfl
@[simp] theorem Hub.setTender_tun (h : Hub) (t : Nat) (x : Tender) : (h.setTender t x).tun = h.tun := rfl
@[simp] theorem Hub.setTender_plan (h : Hub) (t : Nat) (x : Tender) : (h.setTender t x).plan = h.plan := rfl
@[simp] theorem Hub.setTender_sw (h : Hub) (t : Nat) (x : Tender) : (h.setTender t x).sw = h.sw := rfl
@[simp] theorem Hub.setTender_bcn (h : Hub) (t : Nat) (x : Tender) : (h.setTender t x).bcn = h.bcn := rfl
@[simp] theorem Hub.setTender_dm (h : Hub) (t : Nat) (x : Tender) : (h.setTender t x).dm = h.dm := rfl
@[simp] theorem Hub.setTender_io (h : Hub) (t : Nat) (x : Tender) : (h.setTender t x).io = h.io := rfl
@[simp] theorem Hub.setTender_vid (h : Hub) (t : Nat) (x : Tender) : (h.setTender t x).vid = h.vid := rfl
@[simp] theorem Hub.setTender_usb (h : Hub) (t : Nat) (x : Tender) : (h.setTender t x).usb = h.usb := rfl
@[simp] theorem Hub.setTender_hb (h : Hub) (t : Nat) (x : Tender) : (h.setTender t x).hb = h.hb := rfl
@[simp] theorem Hub.setTender_pair (h : Hub) (t : Nat) (x : Tender) : (h.setTender t x).pair = h.pair := rfl
@[simp] theorem Hub.setTender_moor (h : Hub) (t : Nat) (x : Tender) : (h.setTender t x).moor = h.moor := rfl
@[simp] theorem Hub.setTender_sec (h : Hub) (t : Nat) (x : Tender) : (h.setTender t x).sec = h.sec := rfl
@[simp] theorem Hub.setTender_pwr (h : Hub) (t : Nat) (x : Tender) : (h.setTender t x).pwr = h.pwr := rfl
@[simp] theorem Hub.setTender_obs (h : Hub) (t : Nat) (x : Tender) : (h.setTender t x).obs = h.obs := rfl

/-! `Hub.setProbe` writes nothing but `bcn`. -/

@[simp] theorem Hub.setProbe_probe (h : Hub) (p : Nat) (x : ProbeSt) : (h.setProbe p x).probe p = x := by simp [Hub.setProbe, Hub.probe]
theorem Hub.setProbe_probe_ne (h : Hub) (p j : Nat) (x : ProbeSt) (hj : j ≠ p) : (h.setProbe p x).probe j = h.probe j := by
  simp [Hub.setProbe, Hub.probe, Tab.get_set_other _ _ _ _ _ _ hj]
@[simp] theorem Hub.setProbe_clock (h : Hub) (p : Nat) (x : ProbeSt) : (h.setProbe p x).clock = h.clock := rfl
@[simp] theorem Hub.setProbe_draws (h : Hub) (p : Nat) (x : ProbeSt) : (h.setProbe p x).draws = h.draws := rfl
@[simp] theorem Hub.setProbe_out (h : Hub) (p : Nat) (x : ProbeSt) : (h.setProbe p x).out = h.out := rfl
@[simp] theorem Hub.setProbe_od (h : Hub) (p : Nat) (x : ProbeSt) : (h.setProbe p x).od = h.od := rfl
@[simp] theorem Hub.setProbe_blob (h : Hub) (p : Nat) (x : ProbeSt) : (h.setProbe p x).blob = h.blob := rfl
@[simp] theorem Hub.setProbe_regs (h : Hub) (p : Nat) (x : ProbeSt) : (h.setProbe p x).regs = h.regs := rfl
@[simp] theorem Hub.setProbe_mem (h : Hub) (p : Nat) (x : ProbeSt) : (h.setProbe p x).mem = h.mem := rfl
@[simp] theorem Hub.setProbe_kram (h : Hub) (p : Nat) (x : ProbeSt) : (h.setProbe p x).kram = h.kram := rfl
@[simp] theorem Hub.setProbe_mode (h : Hub) (p : Nat) (x : ProbeSt) : (h.setProbe p x).mode = h.mode := rfl
@[simp] theorem Hub.setProbe_ctl (h : Hub) (p : Nat) (x : ProbeSt) : (h.setProbe p x).ctl = h.ctl := rfl
@[simp] theorem Hub.setProbe_evt (h : Hub) (p : Nat) (x : ProbeSt) : (h.setProbe p x).evt = h.evt := rfl
@[simp] theorem Hub.setProbe_lanes (h : Hub) (p : Nat) (x : ProbeSt) : (h.setProbe p x).lanes = h.lanes := rfl
@[simp] theorem Hub.setProbe_links (h : Hub) (p : Nat) (x : ProbeSt) : (h.setProbe p x).links = h.links := rfl
@[simp] theorem Hub.setProbe_tun (h : Hub) (p : Nat) (x : ProbeSt) : (h.setProbe p x).tun = h.tun := rfl
@[simp] theorem Hub.setProbe_plan (h : Hub) (p : Nat) (x : ProbeSt) : (h.setProbe p x).plan = h.plan := rfl
@[simp] theorem Hub.setProbe_eng (h : Hub) (p : Nat) (x : ProbeSt) : (h.setProbe p x).eng = h.eng := rfl
@[simp] theorem Hub.setProbe_sw (h : Hub) (p : Nat) (x : ProbeSt) : (h.setProbe p x).sw = h.sw := rfl
@[simp] theorem Hub.setProbe_dm (h : Hub) (p : Nat) (x : ProbeSt) : (h.setProbe p x).dm = h.dm := rfl
@[simp] theorem Hub.setProbe_io (h : Hub) (p : Nat) (x : ProbeSt) : (h.setProbe p x).io = h.io := rfl
@[simp] theorem Hub.setProbe_vid (h : Hub) (p : Nat) (x : ProbeSt) : (h.setProbe p x).vid = h.vid := rfl
@[simp] theorem Hub.setProbe_usb (h : Hub) (p : Nat) (x : ProbeSt) : (h.setProbe p x).usb = h.usb := rfl
@[simp] theorem Hub.setProbe_hb (h : Hub) (p : Nat) (x : ProbeSt) : (h.setProbe p x).hb = h.hb := rfl
@[simp] theorem Hub.setProbe_pair (h : Hub) (p : Nat) (x : ProbeSt) : (h.setProbe p x).pair = h.pair := rfl
@[simp] theorem Hub.setProbe_moor (h : Hub) (p : Nat) (x : ProbeSt) : (h.setProbe p x).moor = h.moor := rfl
@[simp] theorem Hub.setProbe_sec (h : Hub) (p : Nat) (x : ProbeSt) : (h.setProbe p x).sec = h.sec := rfl
@[simp] theorem Hub.setProbe_pwr (h : Hub) (p : Nat) (x : ProbeSt) : (h.setProbe p x).pwr = h.pwr := rfl
@[simp] theorem Hub.setProbe_obs (h : Hub) (p : Nat) (x : ProbeSt) : (h.setProbe p x).obs = h.obs := rfl

/-! `Hub.setEgress` writes nothing but `plan`. -/

@[simp] theorem Hub.setEgress_egress (h : Hub) (e : Nat) (x : Egress) : (h.setEgress e x).egress e = x := by simp [Hub.setEgress, Hub.egress]
theorem Hub.setEgress_egress_ne (h : Hub) (e j : Nat) (x : Egress) (hj : j ≠ e) : (h.setEgress e x).egress j = h.egress j := by
  simp [Hub.setEgress, Hub.egress, Tab.get_set_other _ _ _ _ _ _ hj]
@[simp] theorem Hub.setEgress_clock (h : Hub) (e : Nat) (x : Egress) : (h.setEgress e x).clock = h.clock := rfl
@[simp] theorem Hub.setEgress_draws (h : Hub) (e : Nat) (x : Egress) : (h.setEgress e x).draws = h.draws := rfl
@[simp] theorem Hub.setEgress_out (h : Hub) (e : Nat) (x : Egress) : (h.setEgress e x).out = h.out := rfl
@[simp] theorem Hub.setEgress_od (h : Hub) (e : Nat) (x : Egress) : (h.setEgress e x).od = h.od := rfl
@[simp] theorem Hub.setEgress_blob (h : Hub) (e : Nat) (x : Egress) : (h.setEgress e x).blob = h.blob := rfl
@[simp] theorem Hub.setEgress_regs (h : Hub) (e : Nat) (x : Egress) : (h.setEgress e x).regs = h.regs := rfl
@[simp] theorem Hub.setEgress_mem (h : Hub) (e : Nat) (x : Egress) : (h.setEgress e x).mem = h.mem := rfl
@[simp] theorem Hub.setEgress_kram (h : Hub) (e : Nat) (x : Egress) : (h.setEgress e x).kram = h.kram := rfl
@[simp] theorem Hub.setEgress_mode (h : Hub) (e : Nat) (x : Egress) : (h.setEgress e x).mode = h.mode := rfl
@[simp] theorem Hub.setEgress_ctl (h : Hub) (e : Nat) (x : Egress) : (h.setEgress e x).ctl = h.ctl := rfl
@[simp] theorem Hub.setEgress_evt (h : Hub) (e : Nat) (x : Egress) : (h.setEgress e x).evt = h.evt := rfl
@[simp] theorem Hub.setEgress_lanes (h : Hub) (e : Nat) (x : Egress) : (h.setEgress e x).lanes = h.lanes := rfl
@[simp] theorem Hub.setEgress_links (h : Hub) (e : Nat) (x : Egress) : (h.setEgress e x).links = h.links := rfl
@[simp] theorem Hub.setEgress_tun (h : Hub) (e : Nat) (x : Egress) : (h.setEgress e x).tun = h.tun := rfl
@[simp] theorem Hub.setEgress_eng (h : Hub) (e : Nat) (x : Egress) : (h.setEgress e x).eng = h.eng := rfl
@[simp] theorem Hub.setEgress_sw (h : Hub) (e : Nat) (x : Egress) : (h.setEgress e x).sw = h.sw := rfl
@[simp] theorem Hub.setEgress_bcn (h : Hub) (e : Nat) (x : Egress) : (h.setEgress e x).bcn = h.bcn := rfl
@[simp] theorem Hub.setEgress_dm (h : Hub) (e : Nat) (x : Egress) : (h.setEgress e x).dm = h.dm := rfl
@[simp] theorem Hub.setEgress_io (h : Hub) (e : Nat) (x : Egress) : (h.setEgress e x).io = h.io := rfl
@[simp] theorem Hub.setEgress_vid (h : Hub) (e : Nat) (x : Egress) : (h.setEgress e x).vid = h.vid := rfl
@[simp] theorem Hub.setEgress_usb (h : Hub) (e : Nat) (x : Egress) : (h.setEgress e x).usb = h.usb := rfl
@[simp] theorem Hub.setEgress_hb (h : Hub) (e : Nat) (x : Egress) : (h.setEgress e x).hb = h.hb := rfl
@[simp] theorem Hub.setEgress_pair (h : Hub) (e : Nat) (x : Egress) : (h.setEgress e x).pair = h.pair := rfl
@[simp] theorem Hub.setEgress_moor (h : Hub) (e : Nat) (x : Egress) : (h.setEgress e x).moor = h.moor := rfl
@[simp] theorem Hub.setEgress_sec (h : Hub) (e : Nat) (x : Egress) : (h.setEgress e x).sec = h.sec := rfl
@[simp] theorem Hub.setEgress_pwr (h : Hub) (e : Nat) (x : Egress) : (h.setEgress e x).pwr = h.pwr := rfl
@[simp] theorem Hub.setEgress_obs (h : Hub) (e : Nat) (x : Egress) : (h.setEgress e x).obs = h.obs := rfl

/-! `Hub.setCsi` writes nothing but `vid`. -/

@[simp] theorem Hub.setCsi_csi (h : Hub) (n : Nat) (x : CsiSt) : (h.setCsi n x).csi n = x := by simp [Hub.setCsi, Hub.csi]
theorem Hub.setCsi_csi_ne (h : Hub) (n j : Nat) (x : CsiSt) (hj : j ≠ n) : (h.setCsi n x).csi j = h.csi j := by
  simp [Hub.setCsi, Hub.csi, Tab.get_set_other _ _ _ _ _ _ hj]
@[simp] theorem Hub.setCsi_clock (h : Hub) (n : Nat) (x : CsiSt) : (h.setCsi n x).clock = h.clock := rfl
@[simp] theorem Hub.setCsi_draws (h : Hub) (n : Nat) (x : CsiSt) : (h.setCsi n x).draws = h.draws := rfl
@[simp] theorem Hub.setCsi_out (h : Hub) (n : Nat) (x : CsiSt) : (h.setCsi n x).out = h.out := rfl
@[simp] theorem Hub.setCsi_od (h : Hub) (n : Nat) (x : CsiSt) : (h.setCsi n x).od = h.od := rfl
@[simp] theorem Hub.setCsi_blob (h : Hub) (n : Nat) (x : CsiSt) : (h.setCsi n x).blob = h.blob := rfl
@[simp] theorem Hub.setCsi_regs (h : Hub) (n : Nat) (x : CsiSt) : (h.setCsi n x).regs = h.regs := rfl
@[simp] theorem Hub.setCsi_mem (h : Hub) (n : Nat) (x : CsiSt) : (h.setCsi n x).mem = h.mem := rfl
@[simp] theorem Hub.setCsi_kram (h : Hub) (n : Nat) (x : CsiSt) : (h.setCsi n x).kram = h.kram := rfl
@[simp] theorem Hub.setCsi_mode (h : Hub) (n : Nat) (x : CsiSt) : (h.setCsi n x).mode = h.mode := rfl
@[simp] theorem Hub.setCsi_ctl (h : Hub) (n : Nat) (x : CsiSt) : (h.setCsi n x).ctl = h.ctl := rfl
@[simp] theorem Hub.setCsi_evt (h : Hub) (n : Nat) (x : CsiSt) : (h.setCsi n x).evt = h.evt := rfl
@[simp] theorem Hub.setCsi_lanes (h : Hub) (n : Nat) (x : CsiSt) : (h.setCsi n x).lanes = h.lanes := rfl
@[simp] theorem Hub.setCsi_links (h : Hub) (n : Nat) (x : CsiSt) : (h.setCsi n x).links = h.links := rfl
@[simp] theorem Hub.setCsi_tun (h : Hub) (n : Nat) (x : CsiSt) : (h.setCsi n x).tun = h.tun := rfl
@[simp] theorem Hub.setCsi_plan (h : Hub) (n : Nat) (x : CsiSt) : (h.setCsi n x).plan = h.plan := rfl
@[simp] theorem Hub.setCsi_eng (h : Hub) (n : Nat) (x : CsiSt) : (h.setCsi n x).eng = h.eng := rfl
@[simp] theorem Hub.setCsi_sw (h : Hub) (n : Nat) (x : CsiSt) : (h.setCsi n x).sw = h.sw := rfl
@[simp] theorem Hub.setCsi_bcn (h : Hub) (n : Nat) (x : CsiSt) : (h.setCsi n x).bcn = h.bcn := rfl
@[simp] theorem Hub.setCsi_dm (h : Hub) (n : Nat) (x : CsiSt) : (h.setCsi n x).dm = h.dm := rfl
@[simp] theorem Hub.setCsi_io (h : Hub) (n : Nat) (x : CsiSt) : (h.setCsi n x).io = h.io := rfl
@[simp] theorem Hub.setCsi_usb (h : Hub) (n : Nat) (x : CsiSt) : (h.setCsi n x).usb = h.usb := rfl
@[simp] theorem Hub.setCsi_hb (h : Hub) (n : Nat) (x : CsiSt) : (h.setCsi n x).hb = h.hb := rfl
@[simp] theorem Hub.setCsi_pair (h : Hub) (n : Nat) (x : CsiSt) : (h.setCsi n x).pair = h.pair := rfl
@[simp] theorem Hub.setCsi_moor (h : Hub) (n : Nat) (x : CsiSt) : (h.setCsi n x).moor = h.moor := rfl
@[simp] theorem Hub.setCsi_sec (h : Hub) (n : Nat) (x : CsiSt) : (h.setCsi n x).sec = h.sec := rfl
@[simp] theorem Hub.setCsi_pwr (h : Hub) (n : Nat) (x : CsiSt) : (h.setCsi n x).pwr = h.pwr := rfl
@[simp] theorem Hub.setCsi_obs (h : Hub) (n : Nat) (x : CsiSt) : (h.setCsi n x).obs = h.obs := rfl

/-! `Hub.setCrcChan` writes nothing but `sec`. -/

@[simp] theorem Hub.setCrcChan_crcChan (h : Hub) (c : Nat) (x : CrcChan) : (h.setCrcChan c x).crcChan c = x := by simp [Hub.setCrcChan, Hub.crcChan]
theorem Hub.setCrcChan_crcChan_ne (h : Hub) (c j : Nat) (x : CrcChan) (hj : j ≠ c) : (h.setCrcChan c x).crcChan j = h.crcChan j := by
  simp [Hub.setCrcChan, Hub.crcChan, Tab.get_set_other _ _ _ _ _ _ hj]
@[simp] theorem Hub.setCrcChan_clock (h : Hub) (c : Nat) (x : CrcChan) : (h.setCrcChan c x).clock = h.clock := rfl
@[simp] theorem Hub.setCrcChan_draws (h : Hub) (c : Nat) (x : CrcChan) : (h.setCrcChan c x).draws = h.draws := rfl
@[simp] theorem Hub.setCrcChan_out (h : Hub) (c : Nat) (x : CrcChan) : (h.setCrcChan c x).out = h.out := rfl
@[simp] theorem Hub.setCrcChan_od (h : Hub) (c : Nat) (x : CrcChan) : (h.setCrcChan c x).od = h.od := rfl
@[simp] theorem Hub.setCrcChan_blob (h : Hub) (c : Nat) (x : CrcChan) : (h.setCrcChan c x).blob = h.blob := rfl
@[simp] theorem Hub.setCrcChan_regs (h : Hub) (c : Nat) (x : CrcChan) : (h.setCrcChan c x).regs = h.regs := rfl
@[simp] theorem Hub.setCrcChan_mem (h : Hub) (c : Nat) (x : CrcChan) : (h.setCrcChan c x).mem = h.mem := rfl
@[simp] theorem Hub.setCrcChan_kram (h : Hub) (c : Nat) (x : CrcChan) : (h.setCrcChan c x).kram = h.kram := rfl
@[simp] theorem Hub.setCrcChan_mode (h : Hub) (c : Nat) (x : CrcChan) : (h.setCrcChan c x).mode = h.mode := rfl
@[simp] theorem Hub.setCrcChan_ctl (h : Hub) (c : Nat) (x : CrcChan) : (h.setCrcChan c x).ctl = h.ctl := rfl
@[simp] theorem Hub.setCrcChan_evt (h : Hub) (c : Nat) (x : CrcChan) : (h.setCrcChan c x).evt = h.evt := rfl
@[simp] theorem Hub.setCrcChan_lanes (h : Hub) (c : Nat) (x : CrcChan) : (h.setCrcChan c x).lanes = h.lanes := rfl
@[simp] theorem Hub.setCrcChan_links (h : Hub) (c : Nat) (x : CrcChan) : (h.setCrcChan c x).links = h.links := rfl
@[simp] theorem Hub.setCrcChan_tun (h : Hub) (c : Nat) (x : CrcChan) : (h.setCrcChan c x).tun = h.tun := rfl
@[simp] theorem Hub.setCrcChan_plan (h : Hub) (c : Nat) (x : CrcChan) : (h.setCrcChan c x).plan = h.plan := rfl
@[simp] theorem Hub.setCrcChan_eng (h : Hub) (c : Nat) (x : CrcChan) : (h.setCrcChan c x).eng = h.eng := rfl
@[simp] theorem Hub.setCrcChan_sw (h : Hub) (c : Nat) (x : CrcChan) : (h.setCrcChan c x).sw = h.sw := rfl
@[simp] theorem Hub.setCrcChan_bcn (h : Hub) (c : Nat) (x : CrcChan) : (h.setCrcChan c x).bcn = h.bcn := rfl
@[simp] theorem Hub.setCrcChan_dm (h : Hub) (c : Nat) (x : CrcChan) : (h.setCrcChan c x).dm = h.dm := rfl
@[simp] theorem Hub.setCrcChan_io (h : Hub) (c : Nat) (x : CrcChan) : (h.setCrcChan c x).io = h.io := rfl
@[simp] theorem Hub.setCrcChan_vid (h : Hub) (c : Nat) (x : CrcChan) : (h.setCrcChan c x).vid = h.vid := rfl
@[simp] theorem Hub.setCrcChan_usb (h : Hub) (c : Nat) (x : CrcChan) : (h.setCrcChan c x).usb = h.usb := rfl
@[simp] theorem Hub.setCrcChan_hb (h : Hub) (c : Nat) (x : CrcChan) : (h.setCrcChan c x).hb = h.hb := rfl
@[simp] theorem Hub.setCrcChan_pair (h : Hub) (c : Nat) (x : CrcChan) : (h.setCrcChan c x).pair = h.pair := rfl
@[simp] theorem Hub.setCrcChan_moor (h : Hub) (c : Nat) (x : CrcChan) : (h.setCrcChan c x).moor = h.moor := rfl
@[simp] theorem Hub.setCrcChan_pwr (h : Hub) (c : Nat) (x : CrcChan) : (h.setCrcChan c x).pwr = h.pwr := rfl
@[simp] theorem Hub.setCrcChan_obs (h : Hub) (c : Nat) (x : CrcChan) : (h.setCrcChan c x).obs = h.obs := rfl

end Sys2Proof.Machine
end

