-- ==== Sys2Proof/Tests/Slice0.lean ====
section
/-!
SUPPORT. Tests of our own: small hubs, for every statement with hypotheses a state and operands that meet them, ill-formed commands
that the checks refuse, and values that the spec works out.
-/

namespace Sys2Proof.Tests

open Sys2Proof Sys2Proof.Machine

set_option Elab.async false

/-! ### Small hubs -/

/-- Keeper runs in BENCH, every domain on. -/
def up : Hub := { Hub.init with pwr := { Hub.init.pwr with bootPhase := .keeper, domains := ⟨(List.range 16).map (fun d => (d + 2, { DomSt.start 2 with state := .on }))⟩ }, sec := { Hub.init.sec with startedUp := true, trng := .running }, tun := { Hub.init.tun with gens := ⟨[(1, 3), (2, 3), (3, 3), (4, 3), (5, 3), (6, 3), (7, 3)]⟩ } }

/-- A training block with every field at 0. -/
def blk : TrainingBlock :=
  { leader := false, rxReady := false, unusable := false, go := false, rate := 0, lane := 0, reqKind := 0, preset := 0, reqToggle := false, preReq := 0, postReq := 0,
    ackToggle := false, preStatus := 0, postStatus := 0, pre := 0, post := 0, portId := 0, serialLow := 0 }

/-- The hub as a LIGHTHOUSE. -/
def lighthouse (h : Hub) : Hub := { h with mode := { h.mode with active := .lighthouse, confirmed := true } }

/-- CPA LINKED and led by the hub, both its lanes in service. -/
def serving (h : Hub) : Hub :=
  ((h.setPort 0 { PortSt.init with state := .linked, leader := true }).setLane 0 { LaneSt.init with state := .inService, los := false }).setLane 1
    { LaneSt.init with state := .inService, los := false }

/-- PLK FAILED with its retry timer running, and all that training needs. -/
def ready (h : Hub) : Hub :=
  { h.setPort 2 { PortSt.init with state := .failed, retryTimer := true } with eng := { h.eng with verified := some ⟨1, [], []⟩ } }

/-- CPA serves and its link runs. -/
def linked (h : Hub) : Hub := (serving h).setLink 0 { LinkSt.init with state := .running, sysOpen := true }

/-- A full cell of the SYSTEM tunnel. -/
def sysCell : Cell := { index := 0, ctype := 1, tseq := 0, len := 0, sos := true, eos := true, yellow := false, payload := [] }

/-- The same cell in the switch buffer. -/
def bufSys : BufCell := ⟨256, 0, none, sysCell, 0, 0⟩

/-- CAN0 holds an address, and takes ODAP. -/
def odapUp : Hub := (up.setCan 0 { CanSt.init with bus := .active, claimed := some 0x80 }).put Od.odapOdapPorts 1

/-- A segmented download of 20 bytes, and a segmented upload of 10. -/
def segDown : OdapTransfer := ⟨0, 0x80, 0x5000, 0, true, 20, [], false, true, false⟩
def segUp : OdapTransfer := ⟨0, 0x80, 0x5080, 1, false, 10, [1, 2, 3, 4, 5, 6, 7, 8, 9, 10], false, true, false⟩

/-- A SYSTEM request. -/
def msg : SysMsg := { reqId := 9, op := 1, hopsLeft := 1, index := 0x2000, sub := 5, direction := 1, originDepth := 0, status := 0, data := [] }

/-- The mailbox waits for a response over CPA. -/
def asking : Hub := { linked up with ctl := { (linked up).ctl with requests := [⟨5, 0x11, true, 0x2000, 5, none, true⟩], mailbox := { Mailbox.init with phase := .remote 5 } } }

/-- The hub of a tractor with CPA linked and CAN0 enabled. -/
def canHub : Hub := (((linked (lighthouse up)).put (Od.canEnable 0) 1).setNominal 0 20000000).setNominal 1 20000000

/-- A CAN tunnel of the hub toward the first hub beyond CPA. -/
def tunCtx : Ctx :=
  { Ctx.init with
    state := .closed, role := .opener, kind := 3, cls := 1, maxSeg := 72, maxSegOld := 72, localBind := 0x20000000, farBind := 0x21000000,
    farTarget := 0x11, openerHandle := 0x305, portA := 0, towardResponder := 0, hopsResponder := 1, totalHops := 1, drainLimit := 100,
    openTimeout := 100 }

/-- Context 5 of the hub, with GEN 3. -/
def withTun (h : Hub) (x : Ctx) : Hub := { h with tun := { h.tun with gens := h.tun.gens.set 0 5 3 } }.setCtx 5 x

/-- The same tunnel as its responder and as a relay sees it. -/
def respCtx : Ctx := { tunCtx with role := .responder, farHandle := 0x305, responderHandle := 0x305, towardOpener := 0, peerOpener := 9 }
def relayCtx : Ctx := { tunCtx with role := .transit, portB := 1, towardOpener := 1, towardResponder := 0 }

/-- A message about context 5. -/
def tmsg (op : TunOp) : TunMsg :=
  { reqId := 0, hopsLeft := 1, originDepth := 1, direction := 4, status := 0, openerHandle := 0x305, responderHandle := 0x407, hopIndex := 7, totalHops := 1,
    peerIndex := 5, refuserDepth := 0, op := op }

/-- An OPEN_REQ for a CAN tunnel. -/
def reqOp : TunOp := .openReq 3 1 0 false 72 0x20000000 []

/-- Arguments of TUNNEL_CREATE, and of TUNNEL_MODIFY to CLASS 2. -/
def createBytes : Bytes := [3, 1, 0, 0, 0x11, 0, 72, 0, 0, 0, 0, 0x20, 0, 0, 0, 0x21, 100, 0, 100, 0, 1, 0, 0, 0]
def modifyBytes : Bytes := [5, 3, 2, 0xFF, 0, 0, 0, 0, 1, 0, 0, 0]

/-- A pending encapsulation job of context 5 for 100 bytes, unpinned. -/
def tjob (st : JobState) (ticket : Nat) : Job :=
  { ctx := 5, cls := 1, handle := 0x305, encap := true, ticket := ticket, tseq := 0, cells := [], skipped := [], words := 1, seg := ⟨[1, 2, 3], false⟩, ingress := 17, state := st,
    pinned := false, fences := 0, poisoned := false, damage := 0 }

/-- Context 5 is open, and Tender 1 is its home. -/
def openTun : Hub :=
  let h := (withTun canHub { tunCtx with state := .open }).fillMeter 5
  { h with eng := { h.eng with home := (h.eng.home.set 0 10 2).set 0 11 2 } }

/-- Tender 1 holds jobs. -/
def withJobs (l : List Job) : Hub := openTun.setTender 1 { Tender.init with jobs := l }

/-- A cell of context 5 waits at egress e. -/
def queuedCell (e : Nat) : Hub := openTun.setEgress e { Egress.init with queue := [⟨5, 1, some (256 + 17), { sysCell with index := 5 }, 0, 0⟩] }

/-- A relay with both its links running. -/
def relay : Hub :=
  ({ linked up with mode := { up.mode with active := .lightship, confirmed := true } }).setLink 1 { LinkSt.init with state := .running, sysOpen := true }

/-- A daymark entry on CLOCK or GROUND, and its queued daymark in slot 0. -/
def dmBytes (target arg bearing action flags lamp : Nat) : Bytes :=
  u64 target ++ u64 arg ++ u8 bearing ++ u8 action ++ u8 flags ++ u8 lamp ++ u32 0x77 ++ u32 0 ++ u32 0
def mark (e : Bytes) (trailing : Bool) : Daymark := ⟨0, 6, e, trailing, none, none, 0, false, 0, none, none⟩
def marks (h : Hub) (l : List Daymark) : Hub := { h with dm := { h.dm with slots := l, gens := ⟨[(0, 5)]⟩ } }
def lampOn (h : Hub) (l : Nat) (x : LampSt) : Hub := h.setLamp l { x with state := .active }

/-- ETH2 enabled with its link at 1 Gbit/s; an untagged frame of 60 bytes; an entry that sends it to context 5, which is open. -/
def ethOn (h : Hub) : Hub := (h.put (Od.ethEnable 2) 1).setEth 2 { EthSt.init with link := 3 }
def frame60 : Bytes := [1, 2, 3, 4, 5, 6, 7, 8, 9, 10, 11, 12, 8, 1] ++ List.replicate 46 0x55
def ethKey : ClsEntry := ⟨true, [5, 3, 0x12, 0x80, 2, 1, 0, 0, 6, 5, 4, 3, 0, 0, 0, 0]⟩
def openAt (bind : Nat) : Hub := withTun canHub { tunCtx with state := .open, localBind := bind }
/-- CAN0 is error active; a classic frame. -/
def canOn (h : Hub) : Hub := h.setCan 0 { CanSt.init with bus := .active }
def canF : CanFrame := { id := 0x123, extended := false, fd := false, brs := false, esi := false, data := [1, 2] }
def canKey : ClsEntry := ⟨true, [5, 3, 0x20, 0xB0, 0, 0, 0, 0, 0xFF, 7, 0, 0, 0, 0, 0, 0]⟩
/-- The eMMC host READY with region 0 of 100 blocks; a READ of 2 blocks from block 8 on; BLOCK tunnel 5. -/
def emmcHub : Hub :=
  let h := (((openAt 0x30000000).put Od.emmcEnable 1).put (Od.regionBlocks 0) 100).put (Od.regionWritable 0) 1
  { h with io := { h.io with emmc := { EmmcSt.init with state := .ready, modeInUse := 1, widthInUse := 8 } } }
def readSeg (op : Byte) : OutSeg := ⟨5, 1, 0x30000000, false, [op, 0, 7, 0, 0, 0, 0, 0, 8, 0, 0, 0, 2, 0, 0, 0] ++ List.replicate 16 0⟩
def onDevice (op : Nat) (chunk retries : Nat) : Hub :=
  let r : BlockReq := { ctx := 5, op := op, tag := 7, fua := false, lba := 8, blocks := 2, done := 0, got := 2, seq := 0, data := List.replicate 1024 3 }
  { emmcHub with io := { emmcHub.io with emmc := { emmcHub.io.emmc with requests := [r], running := some 5, chunk := chunk, retries := retries } } }
/-- Serial port 1 enabled in a mode, with a segment of tunnel 5 waiting. -/
def serHub (mode : Nat) (data : Bytes) : Hub :=
  (((openAt 0x71000000).put (Od.serEnable 1) 1).put (Od.serMode 1) mode).setOutQ 24 [⟨5, 1, 0x71000000, false, data⟩]

/-- CSI0 enabled with an open frame of virtual channel 1 and a stream of RAW8 in tunnel 5. -/
def csiStream : CsiStream :=
  { vc := 1, dt := 0x2A, ctx := some 5, frame := 3, lineLen := 4, dropped := false, gathered := [1, 2, 3, 4], offset := 0, started := false }
def csiHub (streams : List CsiStream) : Hub := ((openAt 0x40000000).put (Od.csiEnable 0) 1).setCsi 0 { CsiSt.init with frames := [(1, 77)], streams := streams }
/-- DSI0 running, 4 pixels to a line, with a tunnel open to the slot on show. -/
def dsiHub (f : VidSt → VidSt) : Hub :=
  let h := (openAt 0x48000000).put Od.dsiHactive 4
  { h with vid := f { VidSt.init with dsi := .running } }
def wFrame : WriteFrame := { next := 0, dt := 0x24, frame := 9, lead := false }
/-- HSIC0 with its hub configured, and function 0 configured with endpoints 1 and 0x81. -/
def confBytes : Bytes := [9, 2, 32, 0, 1, 1, 0, 0xA0, 50, 9, 4, 0, 0, 2, 0xFF, 0, 0, 0, 7, 5, 1, 2, 0, 2, 0, 7, 5, 0x81, 2, 0, 2, 0]
def usbWith (f : UsbDev → UsbDev) (g : UsbDev → UsbDev) : Hub :=
  let h := (((openAt 0x500000C4).put (Od.hsicEnable 0) 1).put (Od.fnEnable 0) 1).put (Od.fnConnectGate 0) 0
  ((h.putBlob (Od.fnConfDesc 0) confBytes).setDev 0 (f { UsbDev.init with state := .configured, address := 3, configuration := 1 })).setDev 1
    (g { UsbDev.init with state := .configured, address := 4, configuration := 1, portPower := true, portEnable := true })
def usbUp : Hub := usbWith id id
/-- A setup pending at the hub or at function 0, and a class request that waits for its REPLY. -/
def askHub (b : Bytes) : Hub := usbWith (fun x => { x with ctrl := some ⟨b, false⟩ }) id
def askFn (b : Bytes) : Hub := usbWith id (fun x => { x with ctrl := some ⟨b, false⟩ })
def waitFn (b : Bytes) : Hub := usbWith id (fun x => { x with ctrl := some ⟨b, true⟩, ctrlSeq := 7 })
def usbKey : ClsEntry := ⟨true, [5, 3, 0x50, 0xD0, 4, 0, 0, 0, 0, 0, 0, 0, 0, 0, 0, 0]⟩
/-- Window 3 of R426's worked example, bound to tunnel 5; tunnel 5 at the MEMORY end; host queue 2 with rings of 16, bound to it. -/
def winHub (ctrl : Nat) (x : WinSt) : Hub :=
  ((((openAt 0x60000003).putReg (Rg.win 3 0) 0x80000300).putReg (Rg.win 3 1) 0x100000).putReg (Rg.win 3 2) ctrl).setWin 3 x
def memHub (area : Nat) (data : Bytes) : Hub :=
  (openAt (0xA0080000 + area * 2 ^ 20)).setOutQ 31 [⟨5, 1, 0xA0080000 + area * 2 ^ 20, false, data⟩]
def qHub (ctrl : Nat) (x : HostQ) : Hub :=
  let h := (((openAt 0x61000002).putReg (Rg.queue 2 0x10) ctrl).putReg (Rg.queue 2 0) 0x40000).setHostQ 2 x
  { h with hb := { h.hb with busMaster := true, msixEnable := true } }
def desc1 : QDesc := ⟨0, 0x9000, 4, 2, 0xABCD⟩
/-- A root of a pair in a mode, with PLK RUNNING toward its partner; a swap of it as candidate, and as receiver. -/
def pairHub (m : Mode) : Hub :=
  let h := (((linked up).setChan 3 { Channel.init with state := .running, code := 0x0900 }).setLink 2 { LinkSt.init with state := .running, sysOpen := true, farMode := some (if m = .lighthouse then 2 else 1) }).updLink 0
    (fun x => { x with farMode := some 4 })
  { h with mode := { h.mode with active := m, pairConfig := true, confirmed := true, strap := 1 }, pair := { h.pair with epoch := 6, inStep := true, state := .standby } }
def swapIn (h : Hub) (w : Swap) : Hub := { h with pair := { h.pair with swap := some w, prepTimer := true } }
def asCandidate : Swap := ⟨true, true, 7, [2], [0], 2, none, some 3, true⟩
def asReceiver : Swap := ⟨true, false, 7, [], [], 2, none, none, false⟩
def pairBuoyHub : Hub :=
  let h := ((linked up).setLink 1 { LinkSt.init with state := .running, sysOpen := true })
  { h with mode := { h.mode with active := .buoy, confirmed := true }, moor := { h.moor with wiring := some 1 }, pair := { h.pair with epoch := 6, primaryPort := some 0, ownHears := true } }
/-- A single-rooted LIGHTHOUSE with both seating inputs confirmed, its stage in a state and feed 0 selected; a confirmed BUOY with one cable. -/
def moorHub (st : StageState) (f : MoorSt → MoorSt) : Hub :=
  let h := lighthouse up
  { h with moor := f { h.moor with wiring := some 0, stage := st, seatLow := ⟨[(0, 1), (1, 1)]⟩, seatConfirmed := ⟨[(0, 1), (1, 1)]⟩, feed := some 0, feedGood := 1 } }
def conn0 (f : ConnSt → ConnSt) (m : MoorSt) : MoorSt := { m with conns := m.conns.set ConnSt.init 0 (f (m.conns.get ConnSt.init 0)) }
def sinkHub (f : ConnSt → ConnSt) : Hub :=
  let h := moorHub .off (conn0 f)
  { h with mode := { h.mode with active := .buoy } }
def asMode (m : Mode) (h : Hub) : Hub := { h with mode := { h.mode with active := m, before := .buoy, fogCause := 2 } }
/-- User slot 20 holds a key of a USAGE; an exchange for tunnel 5. -/
def keyHub (n usage uses : Nat) (h : Hub) : Hub := h.setSlot n { Slot.init with state := .valid, usage := usage, usesLeft := uses, masked := 77, mask := 33 }
def exch : Exchange := ⟨0x11, 5, 9, 4, [1]⟩
def exchHub : Hub := { withTun canHub { tunCtx with state := .closed } with sec := { canHub.sec with exchange := [exch] } }
def eccHub (op : EccOp) : Hub :=
  let h := up.setChan 3 { Channel.init with state := .running, tag := 7, code := 0x0B07 }
  { h with sec := { h.sec with ecc := [(op, some 3)] } }
/-- Ring 0 of the hub enabled, at the start of Keeper RAM; a detail; a source with AUTO_EOI at 0 and priority 12. -/
def evHub (x : Ring → Ring) (l : List Detail) : Hub :=
  let h := up.setRing 0 (x { Ring.init with enable := true, base := 0x10000000 })
  { h with evt := { h.evt with details := l } }
def det (s : Nat) (data : Bytes) : Detail := { source := s, clock := 5, data := data, soft := false, wake := false, lost := false, count := 1 }
def noAuto (s : Nat) (h : Hub) : Hub := h.put (Od.evtEvtCfg (s / 128) (s % 128)) 12
def holdBy (o : HoldOwner) (w : Nat) (h : Hub) : Hub := { h with evt := { h.evt with hold := some ⟨o, w, ⟨[]⟩⟩ } }

/-- The hub with every domain off but AON and KEEPER, so that these may rest. -/
def aloneHub : Hub := (List.range 16).foldl (fun h k => h.updDomain (k + 2) (fun x => { x with state := .off })) up

/-! ### The hypotheses of the statements can be met, clause by clause -/

theorem witness_modeCommandsFollowTheModeRules :
    (∃ (s : State) (req : Path) (v : Byte), (s.hub.live) ∧ (s.hub.keeperUp = true) ∧ (s.hub.ctl.keeperQ = []) ∧
      (s.hub.pwr.bootPhase ≠ .romStay) ∧ (s.hub.mode.active ≠ .strapFault) ∧ (s.hub.locked Od.modeModeConfirm.key = false) ∧
      (s.hub.pathDenied req true = false) ∧ (v.toNat = s.hub.mode.strap.toNat) ∧ (v.toNat < 6)) ∧
    (∃ (s : State), (s.hub.live) ∧ (s.hub.mode.deadlineRunning = true) ∧ (s.hub.mode.retrain = none) ∧ (s.hub.mode.active ≠
      .foghorn) ∧ (s.hub.usableLink = false)) ∧
    (∃ (s : State), (s.hub.live) ∧ (s.hub.mode.deadlineRunning = true) ∧ (s.hub.mode.retrain = none) ∧ (s.hub.mode.active ≠
      .foghorn) ∧ (s.hub.usableLink = true)) ∧
    (∃ (s : State), (s.hub.live) ∧ (s.hub.mode.active = .foghorn) ∧ (s.hub.mode.retryRunning = true) ∧ (s.hub.mode.retrain = none)
      ∧ (s.hub.mode.fogCause ≠ 1) ∧ (s.hub.val Od.modeFogRetryPeriod ≠ 0) ∧ (s.hub.watchedSeated = true)) ∧
    (∃ (s : State) (r : RetrainBy), (s.hub.live) ∧ (s.hub.mode.active = .foghorn) ∧ (s.hub.mode.retrain = some r)) ∧
    (∃ (s : State) (req : Path) (c : Fin 8), (s.hub.takes req c 0x0101) ∧ (s.hub.mode.active ≠ .foghorn) ∧ (s.hub.mode.active ≠
      .bench) ∧ (s.hub.pair.swap = none) ∧ (s.hub.mode.active ≠ .strapFault)) ∧
    (∃ (s : State) (req : Path) (c : Fin 8), (s.hub.takes req c 0x0102) ∧ (s.hub.mode.active = .foghorn) ∧ (s.hub.mode.retrain =
      none) ∧ (s.hub.mode.fogCause ≠ 1)) ∧
    (∃ (s : State) (req : Path) (c : Fin 8), (s.hub.takes req c 0x0100)) :=
  ⟨
    ⟨⟨{ up with mode := { up.mode with strap := 3, active := .lightship } }, []⟩, .mailbox, 3, by decide +kernel⟩,
    ⟨⟨{ lighthouse up with mode := { (lighthouse up).mode with deadlineRunning := true } }, []⟩, by decide +kernel⟩,
    ⟨⟨{ linked (lighthouse up) with mode := { (lighthouse up).mode with deadlineRunning := true } }, []⟩, by decide +kernel⟩,
    ⟨⟨{ up with mode := { up.mode with active := .foghorn, fogCause := 2, before := .lightship, retryRunning := true }, moor := { up.moor with seatConfirmed := ⟨[(0, 1), (1, 1)]⟩ } }, []⟩, by decide +kernel⟩,
    ⟨⟨{ up with mode := { up.mode with active := .foghorn, fogCause := 2, before := .lightship, retrain := some .timer } }, []⟩, .timer, by decide +kernel⟩,
    ⟨⟨lighthouse up, []⟩, .keeper, 0, by decide +kernel⟩,
    ⟨⟨{ up with mode := { up.mode with active := .foghorn, fogCause := 2, before := .lightship } }, []⟩, .keeper, 0, by decide +kernel⟩,
    ⟨⟨up, []⟩, .keeper, 0, by decide +kernel⟩⟩

theorem witness_resetsKeepWhatTheirRulesKeep_1 :
    (∃ (s : State), (s.hub.live) ∧ (s.hub.pwr.bootPhase = .rom)) ∧
    (∃ (s : State), (s.hub.live)) ∧
    (∃ (s : State), (s.hub.live) ∧ (s.hub.pwr.coreLow = true) ∧ (s.hub.pwr.xtalStopped = false) ∧ (s.hub.pwr.bootPhase = .held)) ∧
    (∃ (s : State), (s.hub.live) ∧ (s.hub.pwr.xtalStopped = false)) ∧
    (∃ (s : State), (s.hub.live) ∧ (s.hub.pwr.xtalStopped = true) ∧ (s.hub.pwr.coreLow = false) ∧ (s.hub.pwr.bootPhase = .held)) ∧
    (∃ (s : State), (s.hub.live) ∧ (s.hub.pwr.bootPhase ≠ .held)) ∧
    (∃ (s : State) (req : Path) (c : Fin 8), (s.hub.takes req c 0x0112)) ∧
    (∃ (s : State) (req : Path) (c : Fin 8), (s.hub.takes req c 0x0112) ∧ (s.hub.val Od.rstResetFogCause ≠ 0) ∧
      (s.hub.runningPorts ≠ [])) :=
  ⟨
    ⟨⟨{ Hub.init with pwr := { Hub.init.pwr with bootPhase := .rom, resetCause := 1 } }, []⟩, by decide +kernel⟩,
    ⟨⟨up, []⟩, by decide +kernel⟩,
    ⟨⟨{ up with pwr := { up.pwr with coreLow := true, bootPhase := .held, resetCause := 4 } }, []⟩, by decide +kernel⟩,
    ⟨⟨up, []⟩, by decide +kernel⟩,
    ⟨⟨{ up with pwr := { up.pwr with xtalStopped := true, bootPhase := .held, resetCause := 8 } }, []⟩, by decide +kernel⟩,
    ⟨⟨up, []⟩, by decide +kernel⟩,
    ⟨⟨up, []⟩, .keeper, 0, by decide +kernel⟩,
    ⟨⟨(linked up).put Od.rstResetFogCause 0x90, []⟩, .keeper, 0, by decide +kernel⟩⟩

theorem witness_resetsKeepWhatTheirRulesKeep_2 :
    (∃ (s : State) (req : Path) (c : Fin 8), (s.hub.takes req c 0x0112) ∧ (s.hub.val Od.rstResetFogCause ≠ 0) ∧
      (s.hub.runningPorts = []) ∧ (s.hub.links.fogCopies = [])) ∧
    (∃ (s : State), (s.hub.live) ∧ (s.hub.pwr.bootPhase ≠ .held) ∧ (s.hub.pwr.rstoutN = false)) :=
  ⟨
    ⟨⟨up.put Od.rstResetFogCause 0x90, []⟩, .keeper, 0, by decide +kernel⟩,
    ⟨⟨up, []⟩, by decide +kernel⟩⟩

theorem witness_domainsAndClocksFollowTheirRules_1 :
    (∃ (s : State) (req : Path) (c : Fin 8) (d : Byte) (force : Byte), (s.hub.takes req c 0x0110) ∧ (2 ≤ d.toNat) ∧ (d.toNat < 18)
      ∧ (force.toNat ≤ 1) ∧ (s.hub.domAllowed d.toNat = true) ∧ ((s.hub.domain d.toNat).state = .off) ∧ ((s.hub.domain
      d.toNat).target = none)) ∧
    (∃ (s : State) (req : Path) (c : Fin 8) (d : Byte) (force : Byte), (s.hub.takes req c 0x0110) ∧ (d.toNat < 18) ∧ (d.toNat = 0
      → req = .keeper) ∧ (d.toNat < 2 → (s.hub.domain d.toNat).command = none) ∧ (force.toNat ≤ 1) ∧ ((s.hub.domain d.toNat).state
      = .on) ∧ ((s.hub.domain d.toNat).target = none) ∧ (s.hub.domRefuses d.toNat .retention = false) ∧ (s.hub.domDelays d.toNat =
      false)) ∧
    (∃ (s : State) (req : Path) (c : Fin 8) (d : Byte) (force : Byte), (s.hub.takes req c 0x0110) ∧ (d.toNat < 18) ∧ (d.toNat = 0
      → req = .keeper) ∧ (d.toNat < 2 → (s.hub.domain d.toNat).command = none) ∧ (force.toNat ≤ 1) ∧ ((s.hub.domain d.toNat).state
      = .on) ∧ ((s.hub.domain d.toNat).target = none) ∧ (s.hub.domRefuses d.toNat .retention = false) ∧ (s.hub.domDelays d.toNat =
      false)) ∧
    (∃ (s : State) (req : Path) (c : Fin 8) (d : Byte) (force : Byte), (s.hub.takes req c 0x0110) ∧ (d.toNat < 18) ∧ (d.toNat = 0
      → req = .keeper) ∧ (d.toNat < 2 → (s.hub.domain d.toNat).command = none) ∧ (force.toNat ≤ 1) ∧ ((s.hub.domain d.toNat).state
      = .on) ∧ ((s.hub.domain d.toNat).target = none) ∧ (s.hub.domRefuses d.toNat .retention = false) ∧ (s.hub.domDelays d.toNat =
      false)) ∧
    (∃ (s : State) (req : Path) (c : Fin 8) (d : Byte) (force : Byte), (s.hub.takes req c 0x0110) ∧ (d.toNat < 18) ∧ (d.toNat = 0
      → req = .keeper) ∧ (d.toNat < 2 → (s.hub.domain d.toNat).command = none) ∧ (force.toNat ≤ 1) ∧ ((s.hub.domain d.toNat).state
      = .on) ∧ ((s.hub.domain d.toNat).target = none) ∧ (s.hub.domRefuses d.toNat .retention = false) ∧ (s.hub.domDelays d.toNat =
      false)) ∧
    (∃ (s : State) (req : Path) (c : Fin 8) (d : Byte) (force : Byte), (s.hub.takes req c 0x0110) ∧ (2 ≤ d.toNat) ∧ (d.toNat < 18)
      ∧ (force.toNat ≤ 1) ∧ ((s.hub.domain d.toNat).state = .on) ∧ ((s.hub.domain d.toNat).target = none) ∧ (s.hub.domRefuses
      d.toNat .off = false) ∧ (s.hub.domDelays d.toNat = false)) ∧
    (∃ (s : State) (req : Path) (c : Fin 8) (d : Byte) (force : Byte), (s.hub.takes req c 0x0110) ∧ (2 ≤ d.toNat) ∧ (d.toNat < 18)
      ∧ (force.toNat ≤ 1) ∧ ((s.hub.domain d.toNat).state = .on) ∧ ((s.hub.domain d.toNat).target = none) ∧ (s.hub.domRefuses
      d.toNat .off = false) ∧ (s.hub.domDelays d.toNat = false)) ∧
    (∃ (s : State) (d : Fin 18) (t : DomState), (s.hub.live) ∧ ((s.hub.domain d).target = some t) ∧ (s.hub.domRefuses d t = false)
      ∧ (s.hub.domDelays d = false) ∧ (∀ c ∈ (s.hub.domain d).command, c < 8)) :=
  ⟨
    ⟨⟨up.setDomain 12 (DomSt.start 12), []⟩, .keeper, 0, 12, 0, by decide +kernel⟩,
    ⟨⟨up, []⟩, .keeper, 0, 12, 0, by decide +kernel⟩,
    ⟨⟨up, []⟩, .keeper, 0, 5, 0, by decide +kernel⟩,
    ⟨⟨aloneHub, []⟩, .keeper, 0, 1, 0, by decide +kernel⟩,
    ⟨⟨aloneHub, []⟩, .keeper, 0, 0, 0, by decide +kernel⟩,
    ⟨⟨up, []⟩, .keeper, 0, 13, 0, by decide +kernel⟩,
    ⟨⟨up, []⟩, .keeper, 0, 5, 0, by decide +kernel⟩,
    ⟨⟨up.updDomain 12 (fun x => { x with target := some .off, command := some 0 }), []⟩, 12, .off, by decide +kernel⟩⟩

theorem witness_domainsAndClocksFollowTheirRules_2 :
    (∃ (s : State) (d : Fin 18) (t : DomState), (s.hub.live) ∧ ((s.hub.domain d).target = some t)) ∧
    (∃ (s : State) (d : Fin 18), (s.hub.live) ∧ ((s.hub.domain d).state = .transition) ∧ (d.val ∉ s.hub.pwr.powerUps ∨
      s.hub.pwr.powerUps.head? = some d.val)) ∧
    (∃ (s : State) (req : Path) (c : Fin 8) (args : Bytes), (s.hub.takes req c 0x0111) ∧ (args.length = 4)) ∧
    (∃ (s : State), (s.hub.live)) ∧
    (∃ (s : State), (s.hub.live) ∧ (s.hub.pwr.droop = false)) ∧
    (∃ (s : State), (s.hub.live) ∧ (s.hub.pwr.droop = true)) ∧
    (∃ (s : State), (s.hub.live) ∧ (s.hub.pwr.droop = true) ∧ (s.hub.pwr.droopTimer = true)) ∧
    (∃ (s : State), (s.hub.live) ∧ (s.hub.pwr.wdtHalf = false) ∧ (s.hub.pwr.bootPhase = .keeper ∨ s.hub.pwr.bootPhase = .rom ∨
      s.hub.pwr.bootPhase = .romStay)) :=
  ⟨
    ⟨⟨up.updDomain 12 (fun x => { x with target := some .off, command := some 0 }), []⟩, 12, .off, by decide +kernel⟩,
    ⟨⟨{ up.updDomain 12 (fun x => { x with state := .transition, command := some 0 }) with pwr := { (up.updDomain 12 (fun x => { x with state := .transition, command := some 0 })).pwr with powerUps := [12] } }, []⟩, 12, by decide +kernel⟩,
    ⟨⟨up.updDomain 10 (fun x => { x with padsHeld := true }), []⟩, .keeper, 0, [0, 0xFF, 0, 0], by decide +kernel⟩,
    ⟨⟨up.updDomain 10 (fun x => { x with padsHeld := true }), []⟩, by decide +kernel⟩,
    ⟨⟨up, []⟩, by decide +kernel⟩,
    ⟨⟨{ up with pwr := { up.pwr with droop := true, slow := true } }, []⟩, by decide +kernel⟩,
    ⟨⟨{ up with pwr := { up.pwr with droop := true, slow := true, droopTimer := true } }, []⟩, by decide +kernel⟩,
    ⟨⟨up, []⟩, by decide +kernel⟩⟩

theorem witness_domainsAndClocksFollowTheirRules_3 :
    (∃ (s : State) (req : Path) (c : Fin 8) (args : Bytes), (s.hub.takes req c 0x0113) ∧ (args.length = 4) ∧ (field args 0 4 %
      4096 = 0) ∧ (s.hub.configBusy = false)) ∧
    (∃ (s : State) (req : Path) (c : Fin 8) (args : Bytes), (s.hub.takes req c 0x0114) ∧ (args.length = 6 + field args 4 2) ∧ (1 ≤
      field args 4 2) ∧ (field args 4 2 ≤ 240) ∧ (s.hub.configBusy = false)) ∧
    (∃ (s : State) (off : Nat) (c : Fin 8) (l : List (Nat × Nat × Nat × Bytes)), (s.hub.live) ∧ (s.hub.pwr.flashOps = (0, off,
      c.val, []) :: l)) ∧
    (∃ (s : State) (off : Nat) (c : Fin 8) (data : Bytes) (l : List (Nat × Nat × Nat × Bytes)), (s.hub.live) ∧ (s.hub.pwr.flashOps
      = (1, off, c.val, data) :: l)) ∧
    (∃ (s : State) (off : Nat) (c : Fin 8) (kind : Nat) (data : Bytes) (l : List (Nat × Nat × Nat × Bytes)), (s.hub.live) ∧
      (s.hub.pwr.flashOps = (kind, off, c.val, data) :: l) ∧ ((s.hub.chan c).state = .running)) ∧
    (∃ (s : State) (ppb : Int), (s.hub.live) ∧ (s.hub.pwr.freq = .acquiring) ∧ (-150000 ≤ ppb) ∧ (ppb ≤ 150000)) ∧
    (∃ (s : State) (ppb : Int), (s.hub.live) ∧ (s.hub.pwr.freq = .acquiring) ∧ (ppb < -150000 ∨ 150000 < ppb)) ∧
    (∃ (s : State) (k : Fin 16) (rising : Bool), (s.hub.live) ∧ (if k.val ∈ [9, 10, 12, 13, 14] then rising = true else s.hub.val
      Od.wakeWakeEdge / 4 ^ k.val % 4 = 2 ∨ s.hub.val Od.wakeWakeEdge / 4 ^ k.val % 4 = b2n rising) ∧ (bit k (s.hub.val
      Od.wakeWakeEn) = true) ∧ (s.hub.evt.wakeLatch.getLsbD k = false)) :=
  ⟨
    ⟨⟨up, []⟩, .keeper, 0, [0, 0x10, 2, 0], by decide +kernel⟩,
    ⟨⟨up, []⟩, .keeper, 0, [0, 0x10, 2, 0, 1, 0, 0xA5], by decide +kernel⟩,
    ⟨⟨{ up with pwr := { up.pwr with flashOps := [(0, 4096, 0, [])] } }, []⟩, 4096, 0, [], by decide +kernel⟩,
    ⟨⟨{ up with pwr := { up.pwr with flashOps := [(1, 4096, 0, [0x0F, 0xF0])] } }, []⟩, 4096, 0, [0x0F, 0xF0], [], by decide +kernel⟩,
    ⟨⟨{ up.accept 0 0x0113 7 [] with pwr := { up.pwr with flashOps := [(0, 4096, 0, [])] } }, []⟩, 4096, 0, 0, [], [], by decide +kernel⟩,
    ⟨⟨{ up with pwr := { up.pwr with freq := .acquiring } }, []⟩, -150000, by decide +kernel⟩,
    ⟨⟨{ up with pwr := { up.pwr with freq := .acquiring } }, []⟩, -150001, by decide +kernel⟩,
    ⟨⟨up.put Od.wakeWakeEn 0xFFFF, []⟩, 12, true, by decide +kernel⟩⟩

theorem witness_resultReadsByChannelState :
    (∃ (s : State) (path : Path), (s.hub.live) ∧ (s.hub.keeperUp = true) ∧ (s.hub.mode.active = .strapFault → path = .keeper) ∧
      (s.hub.pathDenied path false = false) ∧ (s.hub.ctl.keeperQ = [])) ∧
    (∃ (s : State) (path : Path), (s.hub.live) ∧ (s.hub.keeperUp = true) ∧ (s.hub.mode.active = .strapFault → path = .keeper) ∧
      (s.hub.pathDenied path false = false) ∧ (s.hub.ctl.keeperQ = [])) ∧
    (∃ (s : State) (path : Path), (s.hub.live) ∧ (s.hub.keeperUp = true) ∧ (s.hub.mode.active = .strapFault → path = .keeper) ∧
      (s.hub.pathDenied path false = false) ∧ (s.hub.ctl.keeperQ = [])) ∧
    (∃ (s : State), (s.hub.live) ∧ (s.hub.keeperUp = true) ∧ (s.hub.ctl.keeperQ = [])) :=
  ⟨
    ⟨⟨up, []⟩, .mailbox, by decide +kernel⟩,
    ⟨⟨up.accept 3 0x0100 9 [], []⟩, .mailbox, by decide +kernel⟩,
    ⟨⟨(up.accept 3 0x0100 9 []).finish 3 0 [1, 2], []⟩, .mailbox, by decide +kernel⟩,
    ⟨⟨up.accept 3 0x0100 9 [], []⟩, by decide +kernel⟩⟩

theorem witness_dictionaryAccessesAreCheckedAndServedInOrder_1 :
    (∃ (s : State) (v : Word), (s.hub.live) ∧ (s.hub.keeperUp = true) ∧ (s.hub.pwr.bootPhase ≠ .romStay) ∧ (s.hub.ctl.keeperQ =
      []) ∧ (s.hub.locked Od.modeFogDeadline.key = false) ∧ (200 ≤ v.toNat) ∧ (v.toNat ≤ 10000)) ∧
    (∃ (s : State) (v : Word), (s.hub.live) ∧ (s.hub.keeperUp = true) ∧ (s.hub.pwr.bootPhase ≠ .romStay) ∧ (s.hub.ctl.keeperQ =
      []) ∧ (s.hub.locked Od.modeFogDeadline.key = false) ∧ (v.toNat < 200 ∨ 10000 < v.toNat)) ∧
    (∃ (s : State) (v : Word), (s.hub.live) ∧ (s.hub.keeperUp = true) ∧ (s.hub.pwr.bootPhase ≠ .romStay) ∧ (s.hub.ctl.keeperQ =
      []) ∧ (s.hub.locked Od.modeFogDeadline.key = false) ∧ (v.toNat < 200 ∨ 10000 < v.toNat)) ∧
    (∃ (s : State) (b : Bytes), (s.hub.live) ∧ (s.hub.keeperUp = true) ∧ (s.hub.pwr.bootPhase ≠ .romStay) ∧ (s.hub.ctl.keeperQ =
      []) ∧ (s.hub.locked Od.modeFogDeadline.key = false) ∧ (b.length ≠ 4)) ∧
    (∃ (s : State), (s.hub.live) ∧ (s.hub.keeperUp = true) ∧ (s.hub.pwr.bootPhase ≠ .romStay) ∧ (s.hub.ctl.keeperQ = [])) ∧
    (∃ (s : State) (index : BitVec 16), (s.hub.live) ∧ (s.hub.keeperUp = true) ∧ (s.hub.ctl.keeperQ = []) ∧ (odHigh index.toNat =
      none)) ∧
    (∃ (s : State) (a : Access) (t : List Access) (b : Bytes) (code : Abort), (s.hub.live) ∧ (s.hub.keeperUp = true) ∧
      (s.hub.ctl.keeperQ = a :: t) ∧ (a.served = false) ∧ (a.write = some b) ∧ (s.hub.odWriteBad a.path (256 * a.index + a.sub) b =
      some code)) ∧
    (∃ (s : State) (a : Access) (t : List Access), (s.hub.live) ∧ (s.hub.keeperUp = true) ∧ (s.hub.pwr.bootPhase = .keeper) ∧
      (s.hub.ctl.keeperQ = a :: t) ∧ (a.served = false) ∧ (a.write = none) ∧ (a.path = .mailbox) ∧ (a.index = 0x2000) ∧ (a.sub = 5)
      ∧ (s.hub.mode.active ≠ .strapFault)) :=
  ⟨
    ⟨⟨up, []⟩, 10000, by decide +kernel⟩,
    ⟨⟨up, []⟩, 199, by decide +kernel⟩,
    ⟨⟨up, []⟩, 10001, by decide +kernel⟩,
    ⟨⟨up, []⟩, [1, 2, 3], by decide +kernel⟩,
    ⟨⟨up, []⟩, by decide +kernel⟩,
    ⟨⟨up, []⟩, 0x1234, by decide +kernel⟩,
    ⟨⟨up.keeperTake .mailbox 0x2000 2 (some [1]), []⟩, ⟨.mailbox, 0x2000, 2, some [1], false, false⟩, [], [1], abReadOnly, by decide +kernel⟩,
    ⟨⟨up.keeperTake .mailbox 0x2000 5 none, []⟩, ⟨.mailbox, 0x2000, 5, none, false, false⟩, [], by decide +kernel⟩⟩

theorem witness_dictionaryAccessesAreCheckedAndServedInOrder_2 :
    (∃ (s : State) (req : Path) (c : Fin 8), (s.hub.takes req c 0x0103) ∧ (s.hub.configBusy = false)) ∧
    (∃ (s : State) (req : Path) (c : Fin 8), (s.hub.takes req c 0x0104) ∧ (s.hub.configBusy = false)) ∧
    (∃ (s : State) (c : Fin 8), (s.hub.live) ∧ (s.hub.ctl.configOp = some (.configSave, c.val)) ∧ ((s.hub.chan c).state =
      .running)) ∧
    (∃ (s : State) (c : Fin 8), (s.hub.live) ∧ (s.hub.ctl.configOp = some (.configErase, c.val)) ∧ ((s.hub.chan c).state =
      .running)) ∧
    (∃ (s : State) (c : Fin 8) (op : FlashOp), (s.hub.live) ∧ (s.hub.ctl.configOp = some (op, c.val)) ∧ ((s.hub.chan c).state =
      .running)) :=
  ⟨
    ⟨⟨up, []⟩, .keeper, 0, by decide +kernel⟩,
    ⟨⟨up, []⟩, .keeper, 0, by decide +kernel⟩,
    ⟨⟨{ up.accept 0 0x0103 7 [] with ctl := { (up.accept 0 0x0103 7 []).ctl with configOp := some (.configSave, 0) } }, []⟩, 0, by decide +kernel⟩,
    ⟨⟨{ up.accept 0 0x0104 7 [] with ctl := { (up.accept 0 0x0104 7 []).ctl with configOp := some (.configErase, 0) } }, []⟩, 0, by decide +kernel⟩,
    ⟨⟨{ up.accept 0 0x0104 7 [] with ctl := { (up.accept 0 0x0104 7 []).ctl with configOp := some (.configErase, 0) } }, []⟩, 0, .configErase, by decide +kernel⟩⟩

theorem witness_odapAndTheMailboxCarryAccesses_1 :
    (∃ (s : State) (n : Fin 6) (fd : Bool) (b : Bytes) (d : Bytes), (s.hub.live) ∧ (s.hub.odapOn n = true) ∧ (fd = s.hub.odapFd n)
      ∧ (b.length = if fd then 64 else 8) ∧ (odapMalformed fd (withKind 1 b) = false) ∧ (odapExpedited fd (withKind 1 b) = some d)) ∧
    (∃ (s : State) (n : Fin 6) (fd : Bool) (b : Bytes), (s.hub.live) ∧ (s.hub.odapOn n = true) ∧ (fd = s.hub.odapFd n) ∧ (b.length
      = if fd then 64 else 8) ∧ (odapMalformed fd (withKind 1 b) = false) ∧ (odapExpedited fd (withKind 1 b) = none)) ∧
    (∃ (s : State) (n : Fin 6) (client : Byte) (fd : Bool) (b : Bytes) (t : OdapTransfer), (s.hub.live) ∧ (s.hub.odapOn n = true)
      ∧ (fd = s.hub.odapFd n) ∧ (b.length = if fd then 64 else 8) ∧ (s.hub.transfer? n client.toNat = some t) ∧ (t.download = true)
      ∧ (t.segmented = true) ∧ (t.complete = false) ∧ (bit 4 (field (withKind 0 b) 0 1) = t.toggle) ∧ (bit 3 (field (withKind 0 b)
      0 1) = false) ∧ ((if fd then 63 else 7) < t.size - t.data.length) ∧ (field (withKind 0 b) 0 1 % 8 = 0)) ∧
    (∃ (s : State) (n : Fin 6) (client : Byte) (fd : Bool) (b : Bytes) (t : OdapTransfer), (s.hub.live) ∧ (s.hub.odapOn n = true)
      ∧ (fd = s.hub.odapFd n) ∧ (b.length = if fd then 64 else 8) ∧ (s.hub.transfer? n client.toNat = some t) ∧ (t.download = true)
      ∧ (t.segmented = true) ∧ (t.complete = false) ∧ (bit 4 (field (withKind 0 b) 0 1) = t.toggle) ∧ (bit 3 (field (withKind 0 b)
      0 1) = true) ∧ (t.size - t.data.length ≤ (if fd then 63 else 7)) ∧ (field (withKind 0 b) 0 1 % 8 = 0)) ∧
    (∃ (s : State) (n : Fin 6) (client : Byte) (fd : Bool) (b : Bytes) (t : OdapTransfer), (s.hub.live) ∧ (s.hub.odapOn n = true)
      ∧ (fd = s.hub.odapFd n) ∧ (b.length = if fd then 64 else 8) ∧ (s.hub.transfer? n client.toNat = some t) ∧ (t.download = true)
      ∧ (t.segmented = true) ∧ (t.complete = false) ∧ (bit 4 (field (withKind 0 b) 0 1) ≠ t.toggle) ∧ (field (withKind 0 b) 0 1 % 8
      = 0)) ∧
    (∃ (s : State) (n : Fin 6) (fd : Bool) (b : Bytes), (s.hub.live) ∧ (s.hub.odapOn n = false ∨ fd ≠ s.hub.odapFd n ∨ b.length ≠
      (if fd then 64 else 8) ∨ field (withKind 0 b) 0 1 % 8 ≠ 0)) ∧
    (∃ (s : State) (n : Fin 6) (fd : Bool) (b : Bytes), (s.hub.live) ∧ (s.hub.odapOn n = false ∨ fd ≠ s.hub.odapFd n ∨ b.length ≠
      (if fd then 64 else 8) ∨ field (withKind 0 b) 0 1 % 8 ≠ 0)) ∧
    (∃ (s : State) (n : Fin 6) (fd : Bool) (b : Bytes), (s.hub.live) ∧ (s.hub.odapOn n = true) ∧ (fd = s.hub.odapFd n) ∧ (b.length
      = if fd then 64 else 8) ∧ (odapHeadBad fd (withKind 2 b) = false)) :=
  ⟨
    ⟨⟨odapUp, []⟩, 0, false, [0x0A, 0, 0x20, 5, 0x34, 0x12, 0, 0], [0x34, 0x12], by decide +kernel⟩,
    ⟨⟨odapUp, []⟩, 0, false, [0, 0, 0x20, 5, 10, 0, 0, 0], by decide +kernel⟩,
    ⟨⟨odapUp.putTransfer segDown, []⟩, 0, 0x80, false, [0, 1, 2, 3, 4, 5, 6, 7], segDown, by decide +kernel⟩,
    ⟨⟨odapUp.putTransfer { segDown with size := 7 }, []⟩, 0, 0x80, false, [8, 1, 2, 3, 4, 5, 6, 7], { segDown with size := 7 }, by decide +kernel⟩,
    ⟨⟨odapUp.putTransfer segDown, []⟩, 0, 0x80, false, [16, 1, 2, 3, 4, 5, 6, 7], segDown, by decide +kernel⟩,
    ⟨⟨up, []⟩, 0, false, [0, 1, 2, 3, 4, 5, 6, 7], by decide +kernel⟩,
    ⟨⟨odapUp, []⟩, 0, false, [1, 1, 2, 3, 4, 5, 6, 7], by decide +kernel⟩,
    ⟨⟨odapUp, []⟩, 0, false, [0, 0, 0x20, 5, 0, 0, 0, 0], by decide +kernel⟩⟩

theorem witness_odapAndTheMailboxCarryAccesses_2 :
    (∃ (s : State) (n : Fin 6) (client : Byte) (fd : Bool) (b : Bytes) (t : OdapTransfer), (s.hub.live) ∧ (s.hub.odapOn n = true)
      ∧ (fd = s.hub.odapFd n) ∧ (b.length = if fd then 64 else 8) ∧ (s.hub.transfer? n client.toNat = some t) ∧ (t.download =
      false) ∧ (t.segmented = true) ∧ (bit 4 (field (withKind 3 b) 0 1) = t.toggle) ∧ (field (withKind 3 b) 0 1 % 8 = 0)) ∧
    (∃ (s : State) (n : Fin 6) (fd : Bool) (b : Bytes), (s.hub.live) ∧ (s.hub.odapOn n = true) ∧ (fd = s.hub.odapFd n) ∧ (b.length
      = if fd then 64 else 8) ∧ (odapHeadBad fd (withKind 4 b) = false) ∧ (bit 3 (field (withKind 4 b) 0 1) = false)) ∧
    (∃ (s : State) (n : Fin 6) (client : Byte) (fd : Bool) (b : Bytes) (t : OdapTransfer), (s.hub.live) ∧ (s.hub.odapOn n = true)
      ∧ (fd = s.hub.odapFd n) ∧ (b.length = if fd then 64 else 8) ∧ (s.hub.transfer? n client.toNat = some t)) ∧
    (∃ (s : State) (n : Fin 6) (client : Byte) (t : OdapTransfer), (s.hub.live) ∧ (s.hub.claimed n ≠ 254) ∧ (s.hub.transfer? n
      client.toNat = some t) ∧ (t.segmented = true) ∧ (t.complete = false)) ∧
    (∃ (s : State) (done : Bool), (s.hub.live) ∧ (s.hub.domOn 11 = true) ∧ (s.hub.ctl.mailbox.phase = .idle) ∧
      (s.hub.ctl.mailbox.done = false ∨ done = true) ∧ (s.hub.ctl.mailbox.len ≤ 1024) ∧ (s.hub.ctl.mailbox.target = 0)) ∧
    (∃ (s : State) (done : Bool), (s.hub.live) ∧ (s.hub.domOn 11 = true) ∧ (s.hub.ctl.mailbox.phase = .idle) ∧
      (s.hub.ctl.mailbox.done = false ∨ done = true) ∧ (s.hub.ctl.mailbox.len ≤ s.hub.ctl.mailbox.data.length) ∧
      (s.hub.ctl.mailbox.len ≤ 1024) ∧ (s.hub.ctl.mailbox.target = 0)) ∧
    (∃ (s : State) (status : Nat) (data : Bytes), (s.hub.live) ∧ (s.hub.ctl.mailbox.phase = .outcome status data)) ∧
    (∃ (s : State) (p : Fin 3) (m : SysMsg) (q : Nat), (s.hub.live) ∧ (s.hub.sysOpen p = true) ∧ (1 < m.hopsLeft) ∧ (s.hub.onward
      m.direction = some q) ∧ (s.hub.sysOpen q = true) ∧ (q ≠ p.val)) :=
  ⟨
    ⟨⟨odapUp.putTransfer segUp, []⟩, 0, 0x80, false, [0, 0, 0, 0, 0, 0, 0, 0], segUp, by decide +kernel⟩,
    ⟨⟨odapUp.putTransfer segUp, []⟩, 0, false, [0, 0, 0, 0, 0, 0, 0, 0], by decide +kernel⟩,
    ⟨⟨odapUp.putTransfer segUp, []⟩, 0, 0x80, false, [0, 0, 0, 0, 0, 0, 0, 0], segUp, by decide +kernel⟩,
    ⟨⟨odapUp.putTransfer segUp, []⟩, 0, 0x80, segUp, by decide +kernel⟩,
    ⟨⟨up, []⟩, false, by decide +kernel⟩,
    ⟨⟨up, []⟩, true, by decide +kernel⟩,
    ⟨⟨{ up with ctl := { up.ctl with mailbox := { up.ctl.mailbox with phase := .outcome 0 [1, 2], doneEvtEn := true } } }, []⟩, 0, [1, 2], by decide +kernel⟩,
    ⟨⟨(linked up).setLink 1 { LinkSt.init with state := .running, sysOpen := true }, []⟩, 0, { msg with hopsLeft := 2, direction := 1 }, 1, by decide +kernel⟩⟩

theorem witness_odapAndTheMailboxCarryAccesses_3 :
    (∃ (s : State) (p : Fin 3) (m : SysMsg), (s.hub.live) ∧ (s.hub.sysOpen p = true) ∧ (1 < m.hopsLeft) ∧ (s.hub.onward
      m.direction = none)) ∧
    (∃ (s : State) (p : Fin 3) (m : SysMsg), (s.hub.live) ∧ (s.hub.sysOpen p = true) ∧ (m.hopsLeft ≤ 1) ∧ (s.hub.fromOrigin p
      m.originDepth < 8)) ∧
    (∃ (s : State) (p : Fin 3) (m : SysMsg) (r : SysRequest), (s.hub.live) ∧ (s.hub.sysOpen p = true) ∧ (s.hub.ctl.relays = []) ∧
      (s.hub.ctl.requests.find? (fun r => decide (r.reqId = m.reqId.toNat) && r.sent) = some r) ∧ (r.byMailbox = true) ∧
      (s.hub.ctl.mailbox.phase = .remote r.reqId)) ∧
    (∃ (s : State) (p : Fin 3), (s.hub.live) ∧ (s.hub.sysOpen p = true) ∧ (s.hub.ctl.relays = []) ∧ (s.hub.ctl.requests = [])) ∧
    (∃ (s : State) (reqId : BitVec 16) (r : SysRequest), (s.hub.live) ∧ (s.hub.ctl.requests.find? (fun r => decide (r.reqId =
      reqId.toNat) && r.sent) = some r) ∧ (r.byMailbox = true) ∧ (s.hub.ctl.mailbox.phase = .remote r.reqId)) :=
  ⟨
    ⟨⟨linked up, []⟩, 0, { msg with hopsLeft := 2, direction := 4 }, by decide +kernel⟩,
    ⟨⟨linked up, []⟩, 0, msg, by decide +kernel⟩,
    ⟨⟨asking, []⟩, 0, { msg with reqId := 5 }, ⟨5, 0x11, true, 0x2000, 5, none, true⟩, by decide +kernel⟩,
    ⟨⟨linked up, []⟩, 0, by decide +kernel⟩,
    ⟨⟨asking, []⟩, 5, ⟨5, 0x11, true, 0x2000, 5, none, true⟩, by decide +kernel⟩⟩

theorem witness_trainingStepsMoveALaneAndItsPort_1 :
    (∃ (s : State) (l : Fin 5), (s.hub.live) ∧ ((s.hub.port (lanePort l)).trains = true) ∧ ((s.hub.port (lanePort l)).inGap =
      false)) ∧
    (∃ (s : State) (l : Fin 5), (s.hub.live) ∧ ((s.hub.lane l).state = .locking)) ∧
    (∃ (s : State) (l : Fin 5) (height : Fin 1024), (s.hub.live) ∧ ((s.hub.lane l).state = .equalising) ∧ (s.hub.val
      (Od.portEyeMin (lanePort l)) ≤ height.val)) ∧
    (∃ (s : State) (l : Fin 5) (height : Fin 1024), (s.hub.live) ∧ ((s.hub.lane l).state = .equalising) ∧ (height.val < s.hub.val
      (Od.portEyeMin (lanePort l)))) ∧
    (∃ (s : State) (l : Fin 5) (k : Nat) (r : Nat), (s.hub.live) ∧ ((s.hub.lane l).request = some (k, r)) ∧ (r < 8)) ∧
    (∃ (s : State) (l : Fin 5) (k : Nat) (r : Nat), (s.hub.live) ∧ ((s.hub.lane l).request = some (k, r)) ∧ (8 ≤ r)) ∧
    (∃ (s : State), (s.hub.live)) ∧
    (∃ (s : State) (l : Fin 5) (b : TrainingBlock), (s.hub.live) ∧ (l.val < 4) ∧ ((s.hub.port (lanePort l)).trains = true) ∧
      ((s.hub.port (lanePort l)).inGap = false) ∧ ((s.hub.lane l).state ∈ [.equalising, .ready, .unusable]) ∧ ((s.hub.lane
      l).rejoining = false) ∧ (b.leader = false ∨ (s.hub.port (lanePort l)).leader = false) ∧ (s.hub.pairingClash l b = false) ∧
      (b.go = false) ∧ (∀ n ∈ portLanes (lanePort l), (s.hub.lane n).goReceived < 16)) :=
  ⟨
    ⟨⟨up.setPort 2 { PortSt.init with state := .training }, []⟩, 4, by decide +kernel⟩,
    ⟨⟨up.setLane 0 { LaneSt.init with state := .locking }, []⟩, 0, by decide +kernel⟩,
    ⟨⟨up.setLane 3 { LaneSt.init with state := .equalising }, []⟩, 3, 40, by decide +kernel⟩,
    ⟨⟨up.setLane 3 { LaneSt.init with state := .equalising }, []⟩, 3, 39, by decide +kernel⟩,
    ⟨⟨up.setLane 0 { LaneSt.init with state := .equalising, request := some (5, 7) }, []⟩, 0, 5, 7, by decide +kernel⟩,
    ⟨⟨up.setLane 0 { LaneSt.init with state := .equalising, request := some (5, 8) }, []⟩, 0, 5, 8, by decide +kernel⟩,
    ⟨⟨up, []⟩, by decide +kernel⟩,
    ⟨⟨(up.setPort 0 { PortSt.init with state := .training }).setLane 1 { LaneSt.init with state := .equalising }, []⟩, 1, { blk with reqKind := 1, reqToggle := true }, by decide +kernel⟩⟩

theorem witness_trainingStepsMoveALaneAndItsPort_2 :
    (∃ (s : State) (l : Fin 5) (b : TrainingBlock), (s.hub.live) ∧ (l.val < 4) ∧ ((s.hub.port (lanePort l)).trains = true) ∧
      ((s.hub.port (lanePort l)).inGap = false) ∧ ((s.hub.lane l).state ∈ [.equalising, .ready, .unusable]) ∧ ((s.hub.lane
      l).rejoining = false) ∧ (b.leader = false ∨ (s.hub.port (lanePort l)).leader = false) ∧ (s.hub.pairingClash l b = false) ∧
      (b.go = false) ∧ (∀ n ∈ portLanes (lanePort l), (s.hub.lane n).goReceived < 16)) ∧
    (∃ (s : State) (b : TrainingBlock), (s.hub.live) ∧ (s.hub.role ≠ .bench) ∧ ((s.hub.port 2).trains = true) ∧ ((s.hub.port
      2).inGap = false) ∧ ((s.hub.lane 4).state = .ready) ∧ ((s.hub.lane 4).goSent = true) ∧ ((s.hub.lane 4).goReceived = 15) ∧
      (b.go = true) ∧ ((s.hub.lane 4).rejoining = false)) ∧
    (∃ (s : State) (p : Fin 3), (s.hub.live) ∧ ((s.hub.port p).inGap = true)) ∧
    (∃ (s : State) (p : Fin 3), (s.hub.live) ∧ ((s.hub.port p).trains = true) ∧ ((s.hub.port p).roundTimer = true) ∧ ((s.hub.port
      p).inGap = false) ∧ ((s.hub.port p).leader = true) ∧ ((s.hub.port p).rate < 2) ∧ (∀ n ∈ portLanes p, (s.hub.lane n).usable =
      false)) ∧
    (∃ (s : State) (p : Fin 3), (s.hub.live) ∧ ((s.hub.port p).trains = true) ∧ ((s.hub.port p).roundTimer = true) ∧ ((s.hub.port
      p).inGap = false) ∧ (2 ≤ (s.hub.port p).rate) ∧ (∀ n ∈ portLanes p, (s.hub.lane n).usable = false)) ∧
    (∃ (s : State) (p : Fin 3), (s.hub.live) ∧ ((s.hub.port p).trains = true) ∧ ((s.hub.port p).leader = false) ∧ ((s.hub.port
      p).signalSeen = true) ∧ (s.hub.portSignal p = false) ∧ ((s.hub.port p).inGap = false) ∧ ((s.hub.port p).rate < 2)) :=
  ⟨
    ⟨⟨(((lighthouse up).setPort 0 { PortSt.init with state := .training, leader := true }).setLane 1 { LaneSt.init with state := .ready, rxReady := true, farReady := true, goReceived := 15, request := some (5, 1) }).setLane 0 { LaneSt.init with state := .ready, rxReady := true, farReady := true }, []⟩, 1, { blk with rxReady := true, reqKind := 2, preset := 3, ackToggle := true }, by decide +kernel⟩,
    ⟨⟨((lighthouse up).setPort 2 { PortSt.init with state := .training }).setLane 4 { LaneSt.init with state := .ready, goSent := true, goReceived := 15 }, []⟩, { blk with go := true }, by decide +kernel⟩,
    ⟨⟨up.setPort 1 { PortSt.init with state := .stepping, inGap := true, rate := 1, floorInForce := 1 }, []⟩, 1, by decide +kernel⟩,
    ⟨⟨up.setPort 0 { PortSt.init with state := .training, roundTimer := true, leader := true, rate := 1 }, []⟩, 0, by decide +kernel⟩,
    ⟨⟨up.setPort 0 { PortSt.init with state := .training, roundTimer := true, rate := 2 }, []⟩, 0, by decide +kernel⟩,
    ⟨⟨up.setPort 0 { PortSt.init with state := .training, signalSeen := true, rate := 1 }, []⟩, 0, by decide +kernel⟩⟩

theorem witness_laneFailuresDropALaneInService :
    (∃ (s : State) (l : Fin 5), (s.hub.live) ∧ ((s.hub.port (lanePort l)).state = .linked) ∧ ((s.hub.lane l).state = .inService) ∧
      ((s.hub.lane l).rxQuiet = false) ∧ (2 ≤ (s.hub.lanesIn (lanePort l)).length)) ∧
    (∃ (s : State) (l : Fin 5), (s.hub.live) ∧ ((s.hub.port (lanePort l)).state = .linked) ∧ ((s.hub.lane l).state = .inService) ∧
      ((s.hub.lane l).rxQuiet = false) ∧ (2 ≤ (s.hub.lanesIn (lanePort l)).length)) ∧
    (∃ (s : State) (l : Fin 5) (count : BitVec 32), (s.hub.live) ∧ ((s.hub.port (lanePort l)).state = .linked) ∧ ((s.hub.lane
      l).state = .inService) ∧ ((s.hub.lane l).rxQuiet = false) ∧ (2 ≤ (s.hub.lanesIn (lanePort l)).length) ∧ (s.hub.val
      (Od.portLaneErrLimit (lanePort l)) < count.toNat)) ∧
    (∃ (s : State) (l : Fin 5), (s.hub.live) ∧ ((s.hub.port (lanePort l)).state = .linked) ∧ ((s.hub.lane l).state = .inService) ∧
      (2 ≤ (s.hub.lanesIn (lanePort l)).length)) ∧
    (∃ (s : State) (l : Fin 5), (s.hub.live) ∧ ((s.hub.port (lanePort l)).state = .linked)) ∧
    (∃ (s : State) (l : Fin 5), (s.hub.live) ∧ ((s.hub.port (lanePort l)).state = .linked) ∧ ((s.hub.lane l).state = .inService) ∧
      ((s.hub.lane l).rxQuiet = false) ∧ ((s.hub.lanesIn (lanePort l)).length = 1)) ∧
    (∃ (s : State) (l : Fin 5), (s.hub.live) ∧ ((s.hub.port (lanePort l)).state = .linked) ∧ ((s.hub.lane l).state = .inService) ∧
      ((s.hub.lane l).rxQuiet = true) ∧ (2 ≤ (s.hub.lanesIn (lanePort l)).length)) ∧
    (∃ (s : State) (l : Fin 5) (height : Fin 1024), (s.hub.live) ∧ ((s.hub.lane l).state = .inService) ∧ (2 * height.val <
      s.hub.val (Od.portEyeMin (lanePort l)))) :=
  ⟨
    ⟨⟨serving up, []⟩, 0, by decide +kernel⟩,
    ⟨⟨serving up, []⟩, 1, by decide +kernel⟩,
    ⟨⟨serving up, []⟩, 1, 101, by decide +kernel⟩,
    ⟨⟨serving up, []⟩, 1, by decide +kernel⟩,
    ⟨⟨serving up, []⟩, 1, by decide +kernel⟩,
    ⟨⟨(up.setPort 2 { PortSt.init with state := .linked }).setLane 4 { LaneSt.init with state := .inService }, []⟩, 4, by decide +kernel⟩,
    ⟨⟨(serving up).updLane 1 (fun x => { x with rxQuiet := true }), []⟩, 1, by decide +kernel⟩,
    ⟨⟨serving up, []⟩, 0, 19, by decide +kernel⟩⟩

theorem witness_quietRejoinAndPortCommands_1 :
    (∃ (s : State) (l : Fin 5), (s.hub.live) ∧ ((s.hub.lane l).state = .inService) ∧ ((s.hub.lane l).txQuiet = false) ∧ (bit
      (s.hub.laneLogical l) (s.hub.val (Od.portQuietEnable (lanePort l))) = true) ∧ (s.hub.quietOk l = true)) ∧
    (∃ (s : State) (l : Fin 5), (s.hub.live) ∧ ((s.hub.lane l).state = .inService)) ∧
    (∃ (s : State) (l : Fin 5), (s.hub.live) ∧ ((s.hub.lane l).txQuiet = true)) ∧
    (∃ (s : State), (s.hub.live)) ∧
    (∃ (s : State) (l : Fin 5), (s.hub.live) ∧ ((s.hub.port (lanePort l)).state = .linked) ∧ ((s.hub.port (lanePort l)).leader =
      true) ∧ ((s.hub.lane l).state = .dropped) ∧ ((s.hub.lane l).rejoinTimer = true)) ∧
    (∃ (s : State) (l : Fin 5), (s.hub.live) ∧ ((s.hub.port (lanePort l)).state = .linked) ∧ ((s.hub.lane l).rejoining = true) ∧
      ((s.hub.lane l).rejoinHold = true) ∧ ((s.hub.lane l).usable = true) ∧ ((s.hub.lane l).goReceived < 16)) ∧
    (∃ (s : State) (p : Fin 3), (s.hub.live) ∧ ((s.hub.port p).state = .failed) ∧ ((s.hub.port p).retryTimer = true) ∧ (s.hub.val
      (Od.portPortRetryPeriod p) ≠ 0) ∧ (s.hub.trainReady p = true)) ∧
    (∃ (s : State) (p : Fin 3), (s.hub.live) ∧ ((s.hub.port p).state = .stepping) ∧ ((s.hub.port p).holdTimer = true) ∧
      (s.hub.portGoes p = false) ∧ (∀ n ∈ portLanes p, (s.hub.lane n).usable = false)) :=
  ⟨
    ⟨⟨(serving up).put (Od.portQuietEnable 0) 3, []⟩, 1, by decide +kernel⟩,
    ⟨⟨serving up, []⟩, 0, by decide +kernel⟩,
    ⟨⟨up.setLane 4 { LaneSt.init with state := .inService, txQuiet := true }, []⟩, 4, by decide +kernel⟩,
    ⟨⟨up, []⟩, by decide +kernel⟩,
    ⟨⟨(up.setPort 1 { PortSt.init with state := .linked, leader := true }).setLane 2 { LaneSt.init with state := .dropped, rejoinTimer := true }, []⟩, 2, by decide +kernel⟩,
    ⟨⟨(up.setPort 1 { PortSt.init with state := .linked, leader := true }).setLane 2 { LaneSt.init with state := .ready, rejoining := true, rejoinHold := true, rxReady := true, farReady := true, goReceived := 15 }, []⟩, 2, by decide +kernel⟩,
    ⟨⟨ready up, []⟩, 2, by decide +kernel⟩,
    ⟨⟨up.setPort 0 { PortSt.init with state := .stepping, holdTimer := true }, []⟩, 0, by decide +kernel⟩⟩

theorem witness_quietRejoinAndPortCommands_2 :
    (∃ (s : State) (req : Path) (c : Fin 8) (p : Fin 3), (s.hub.takes req c 0x0200) ∧ ((s.hub.port p).state = .linked) ∧
      ((s.hub.port p).leader = true)) ∧
    (∃ (s : State) (req : Path) (c : Fin 8) (p : Fin 3), (s.hub.takes req c 0x0201) ∧ ((s.hub.port p).state = .linked) ∧
      ((s.hub.port p).leader = true) ∧ ((s.hub.port p).rate < 2) ∧ ((s.hub.port p).rate < s.hub.val (Od.portRateFloor p))) ∧
    (∃ (s : State) (req : Path) (c : Fin 8) (p : Fin 2) (k : Fin 2) (n : Nat), (s.hub.takes req c 0x0202) ∧ ((s.hub.port p).state
      = .linked) ∧ ((s.hub.port p).leader = true) ∧ (s.hub.laneOf p k = some n) ∧ ((s.hub.lane n).state = .inService) ∧
      ((s.hub.lanesIn p).length = 2)) ∧
    (∃ (s : State) (req : Path) (c : Fin 8) (p : Fin 2) (k : Fin 2) (n : Nat), (s.hub.takes req c 0x0203) ∧ ((s.hub.port p).state
      = .linked) ∧ ((s.hub.port p).leader = true) ∧ (s.hub.laneOf p k = some n) ∧ ((s.hub.lane n).state = .dropped) ∧ ((s.hub.lane
      n).rejoining = false)) :=
  ⟨
    ⟨⟨serving up, []⟩, .keeper, 0, 0, by decide +kernel⟩,
    ⟨⟨(serving up).updPort 0 (fun x => { x with rate := 1 }), []⟩, .keeper, 0, 0, by decide +kernel⟩,
    ⟨⟨serving up, []⟩, .keeper, 0, 0, 1, 1, by decide +kernel⟩,
    ⟨⟨(serving up).updLane 1 (fun x => { x with state := .dropped }), []⟩, .keeper, 0, 0, 1, 1, by decide +kernel⟩⟩

theorem witness_patternTestActsInBenchOnly_1 :
    (∃ (s : State), (s.hub.live) ∧ (s.hub.mode.active = .bench)) ∧
    (∃ (s : State) (n : Fin 5), (s.hub.live) ∧ (s.hub.mode.active = .bench) ∧ ((s.hub.lane n).state = .pattern) ∧ (bit 4
      (s.hub.reg (Rg.patCtrl n)) = false) ∧ (s.hub.loopOn n = false)) ∧
    (∃ (s : State), (s.hub.live) ∧ (s.hub.mode.active ≠ .bench)) ∧
    (∃ (s : State) (n : Fin 5), (s.hub.live) ∧ (s.hub.mode.active = .bench) ∧ ((s.hub.lane n).inject = 0 ∨ (s.hub.lane
      n).injectEnd ≤ s.hub.clock) ∧ (bit 3 (s.hub.reg (Rg.patCtrl n)) = true ∨ (s.hub.lane n).state = .inService)) ∧
    (∃ (s : State) (n : Fin 5), (s.hub.live) ∧ (s.hub.mode.active = .bench) ∧ ((s.hub.lane n).inject = 0 ∨ (s.hub.lane
      n).injectEnd ≤ s.hub.clock) ∧ (bit 3 (s.hub.reg (Rg.patCtrl n)) = true ∨ (s.hub.lane n).state = .inService)) ∧
    (∃ (s : State) (n : Fin 5), (s.hub.live) ∧ (s.hub.mode.active = .bench) ∧ ((s.hub.lane n).inject = 0 ∨ (s.hub.lane
      n).injectEnd ≤ s.hub.clock) ∧ (bit 3 (s.hub.reg (Rg.patCtrl n)) = true ∨ (s.hub.lane n).state = .inService)) ∧
    (∃ (s : State) (n : Fin 5), (s.hub.live) ∧ (s.hub.mode.active ≠ .bench ∨ ((s.hub.lane n).inject ≠ 0 ∧ s.hub.clock <
      (s.hub.lane n).injectEnd)) ∧ (s.hub.linesStand)) ∧
    (∃ (s : State) (n : Fin 5), (s.hub.live) ∧ (s.hub.mode.active ≠ .bench ∨ ((s.hub.lane n).inject ≠ 0 ∧ s.hub.clock <
      (s.hub.lane n).injectEnd)) ∧ (s.hub.linesStand)) :=
  ⟨
    ⟨⟨serving up, []⟩, by decide +kernel⟩,
    ⟨⟨up.setLane 2 { LaneSt.init with state := .pattern }, []⟩, 2, by decide +kernel⟩,
    ⟨⟨lighthouse up, []⟩, by decide +kernel⟩,
    ⟨⟨up.putReg (Rg.patCtrl 0) 11, []⟩, 0, by decide +kernel⟩,
    ⟨⟨serving up, []⟩, 1, by decide +kernel⟩,
    ⟨⟨up.putReg (Rg.patCtrl 0) 0x3F0B, []⟩, 0, by decide +kernel⟩,
    ⟨⟨lighthouse up, []⟩, 0, by decide +kernel⟩,
    ⟨⟨up.updLane 0 (fun x => { x with inject := 1, injectEnd := 5 }), []⟩, 0, by decide +kernel⟩⟩

theorem witness_patternTestActsInBenchOnly_2 :
    (∃ (s : State), (s.hub.live)) ∧
    (∃ (s : State) (n : Fin 5), (s.hub.live) ∧ (bit 4 (s.hub.reg (Rg.patCtrl n)) = false)) ∧
    (∃ (s : State) (n : Fin 5) (b : Bool), (s.hub.live) ∧ (bit 4 (s.hub.reg (Rg.patCtrl n)) = true) ∧ (s.hub.patternSel n < 4) ∧
      ((s.hub.lane n).chkLock = false) ∧ ((prbsTaps (s.hub.patternSel n)).1 ≤ (s.hub.lane n).checker.window.length) ∧ (127 ≤
      (s.hub.lane n).checker.run) ∧ (true ∈ (s.hub.lane n).checker.window.take 30) ∧ (b = prbsNext (s.hub.patternSel n) (s.hub.lane
      n).checker.window)) ∧
    (∃ (s : State) (n : Fin 5) (b : Bool), (s.hub.live) ∧ (bit 4 (s.hub.reg (Rg.patCtrl n)) = true) ∧ (s.hub.patternSel n < 4) ∧
      ((s.hub.lane n).chkLock = true) ∧ (15 ≤ ((s.hub.lane n).checker.recent.take 255).count true) ∧ (b ≠ prbsNext
      (s.hub.patternSel n) (s.hub.lane n).checker.window)) :=
  ⟨
    ⟨⟨(up.setLane 0 { LaneSt.init with state := .pattern, chkLock := true, errCount := 4294967295 }).putReg (Rg.patCtrl 0) 19, []⟩, by decide +kernel⟩,
    ⟨⟨up, []⟩, 0, by decide +kernel⟩,
    ⟨⟨(up.updLane 0 (fun x => { x with checker := { Checker.init with window := List.replicate 7 true, run := 127 } })).putReg (Rg.patCtrl 0) 16, []⟩, 0, false, by decide +kernel⟩,
    ⟨⟨(up.updLane 0 (fun x => { x with chkLock := true, checker := { Checker.init with window := List.replicate 31 true, recent := List.replicate 15 true } })).putReg (Rg.patCtrl 0) 16, []⟩, 0, true, by decide +kernel⟩⟩

theorem witness_groupsAreDeliveredAcknowledgedAndReplayed_1 :
    (∃ (s : State) (l : Fin 5) (cells : List Cell) (seq : BitVec 16) (ack : Ack), (s.hub.live) ∧ ((s.hub.link (lanePort l)).state
      = .running) ∧ ((s.hub.link (lanePort l)).heldGroups = []) ∧ (s.hub.wordSound 3 0) ∧ (seq.toNat = (s.hub.link (lanePort
      l)).rxNext) ∧ (ack.nak = false) ∧ (∀ c ∈ cells, c.index = 0 ∧ c.ctype = 1 ∧ c.len ≤ 28)) ∧
    (∃ (s : State) (l : Fin 5) (cells : List Cell) (seq : BitVec 16) (ack : Ack), (s.hub.live) ∧ ((s.hub.link (lanePort l)).state
      = .running) ∧ ((s.hub.link (lanePort l)).heldGroups = []) ∧ (s.hub.wordSound 3 0) ∧ (seq.toNat = (s.hub.link (lanePort
      l)).rxNext) ∧ (ack.nak = false) ∧ (∀ c ∈ cells, c.index = 0 ∧ c.ctype = 1 ∧ c.len ≤ 28)) ∧
    (∃ (s : State) (l : Fin 5) (seq : BitVec 16) (ack : Ack), (s.hub.live) ∧ ((s.hub.link (lanePort l)).state = .running) ∧
      (ack.nak = false) ∧ ((s.hub.link (lanePort l)).awaiting = false) ∧ (0 < gap 16 seq.toNat (s.hub.link (lanePort l)).rxNext) ∧
      (gap 16 seq.toNat (s.hub.link (lanePort l)).rxNext ≤ 3) ∧ (∀ g ∈ (s.hub.link (lanePort l)).heldGroups, g.seq ≠ seq.toNat)) ∧
    (∃ (s : State) (l : Fin 5), (s.hub.live) ∧ ((s.hub.link (lanePort l)).state = .running) ∧ ((s.hub.link (lanePort l)).nakAt =
      none) ∧ ((s.hub.link (lanePort l)).openGroups = []) ∧ (s.hub.txLanes (lanePort l) ≠ [])) ∧
    (∃ (s : State) (l : Fin 5) (ack : Ack), (s.hub.live) ∧ ((s.hub.link (lanePort l)).state = .running) ∧ (ack.nak = false)) ∧
    (∃ (s : State), (s.hub.live)) ∧
    (∃ (s : State) (l : Fin 5) (g : Group), (s.hub.live) ∧ ((s.hub.link (lanePort l)).openGroups.find? (fun g => decide (g.lane =
      l.val)) = some g)) ∧
    (∃ (s : State) (p : Fin 3) (g : Group), (s.hub.live) ∧ ((s.hub.link p).state = .running) ∧ ((s.hub.link p).replay = [g]) ∧
      ((s.hub.link p).openGroups = []) ∧ (g.replays < s.hub.val (Od.linkReplayLimit p)) ∧ (∀ b ∈ g.cells, b.damage = 0) ∧
      (s.hub.txLanes p ≠ [])) :=
  ⟨
    ⟨⟨(linked up).updLink 0 (fun x => { x with rxNext := 65535 }), []⟩, 1, [sysCell], 65535, ⟨false, 3⟩, by decide +kernel⟩,
    ⟨⟨(linked up).updLink 0 (fun x => { x with rxNext := 65535, unacked := 15 }), []⟩, 1, [sysCell], 65535, ⟨false, 3⟩, by decide +kernel⟩,
    ⟨⟨(linked up).updLink 0 (fun x => { x with rxNext := 65534 }), []⟩, 1, 1, ⟨false, 3⟩, by decide +kernel⟩,
    ⟨⟨linked up, []⟩, 0, by decide +kernel⟩,
    ⟨⟨(linked up).updLink 0 (fun x => { x with replay := [⟨3, 0, [], 0⟩, ⟨4, 0, [], 0⟩] }), []⟩, 0, ⟨false, 3⟩, by decide +kernel⟩,
    ⟨⟨up, []⟩, by decide +kernel⟩,
    ⟨⟨(linked up).updLink 0 (fun x => { x with openGroups := [⟨9, 1, [bufSys], 0⟩] }), []⟩, 1, ⟨9, 1, [bufSys], 0⟩, by decide +kernel⟩,
    ⟨⟨(linked up).updLink 0 (fun x => { x with replay := [⟨9, 1, [bufSys], 3⟩] }), []⟩, 0, ⟨9, 1, [bufSys], 3⟩, by decide +kernel⟩⟩

theorem witness_groupsAreDeliveredAcknowledgedAndReplayed_2 :
    (∃ (s : State) (p : Fin 3), (s.hub.live) ∧ ((s.hub.link p).state = .running) ∧ (0 < (s.hub.link p).unacked ∨ (s.hub.link
      p).nakDue = true)) :=
    ⟨⟨(linked up).updLink 0 (fun x => { x with unacked := 1 }), []⟩, 0, by decide +kernel⟩

theorem witness_bringUpExchangesPagesCreditsAndFogSignals_1 :
    (∃ (s : State) (p : Fin 3), (s.hub.live) ∧ ((s.hub.link p).state = .init) ∧ ((s.hub.link p).acceptSent = false ∨ (s.hub.link
      p).acceptRcvd = false)) ∧
    (∃ (s : State) (p : Fin 3), (s.hub.live) ∧ ((s.hub.link p).state = .init) ∧ ((s.hub.link p).acceptSent = true) ∧ ((s.hub.link
      p).acceptRcvd = true) ∧ (s.hub.serviceList ≠ []) ∧ (s.hub.mode.retrain = none)) ∧
    (∃ (s : State) (p : Fin 3) (limits : BitVec 96) (c : Fin 8), (s.hub.live) ∧ ((s.hub.link p).state = .running) ∧ (1 ≤ gap 12
      (creditField limits c) ((s.hub.link p).limit.get 0 c)) ∧ (gap 12 (creditField limits c) ((s.hub.link p).limit.get 0 c) ≤
      2047)) ∧
    (∃ (s : State) (p : Fin 3) (n : Fin 5), (s.hub.live) ∧ ((s.hub.link p).state = .running) ∧ (s.hub.sw.sweep = false) ∧ (n.val ∈
      s.hub.lanesIn p) ∧ ((s.hub.lane n).txQuiet = false) ∧ (n.val ∉ (s.hub.link p).joining)) ∧
    (∃ (s : State) (p : Fin 3) (b : LinkInit) (serial : BitVec 64), (s.hub.live) ∧ ((s.hub.link p).state = .init) ∧ ((s.hub.link
      p).farMode = none) ∧ (b.page = .page1 serial)) ∧
    (∃ (s : State) (p : Fin 3) (b : LinkInit) (mode : Byte) (depth : Byte) (chain : Byte) (reason : Byte) (sf : Word) (rx : BitVec
      16), (s.hub.live) ∧ ((s.hub.link p).state = .init) ∧ (b.page = .page0 mode depth chain reason sf rx) ∧ (b.refuse = true)) ∧
    (∃ (s : State) (p : Fin 3) (b : LinkInit) (mode : Byte) (depth : Byte) (chain : Byte) (reason : Byte) (sf : Word) (rx : BitVec
      16), (s.hub.live) ∧ ((s.hub.link p).state = .init) ∧ ((s.hub.link p).farSerial ≠ none) ∧ ((s.hub.link p).acceptSent = false)
      ∧ ((s.hub.port p).leader = true) ∧ (b.page = .page0 mode depth chain reason sf rx) ∧ (b.refuse = false) ∧ (b.accept = false)
      ∧ (s.hub.role = .bench) ∧ (mode ≠ 0)) ∧
    (∃ (s : State) (b : LinkInit) (mode : Byte) (depth : Byte) (chain : Byte) (reason : Byte) (sf : Word) (rx : BitVec 16),
      (s.hub.live) ∧ ((s.hub.link 0).state = .init) ∧ ((s.hub.link 0).farSerial ≠ none) ∧ ((s.hub.link 0).acceptSent = false) ∧
      ((s.hub.port 0).leader = true) ∧ (b.page = .page0 mode depth chain reason sf rx) ∧ (b.refuse = false) ∧ (b.accept = false) ∧
      (s.hub.role = .lighthouse) ∧ (s.hub.mode.pairConfig = false) ∧ (mode = 3 ∨ mode = 4) ∧ (s.hub.links.hopDepth < 7) ∧ (8 ≤
      s.hub.links.chainCount)) :=
  ⟨
    ⟨⟨up.setLink 1 { LinkSt.init with state := .init }, []⟩, 1, by decide +kernel⟩,
    ⟨⟨up.setLink 1 { LinkSt.init with state := .init, acceptSent := true, acceptRcvd := true }, []⟩, 1, by decide +kernel⟩,
    ⟨⟨linked up, []⟩, 0, 0x7FF, 0, by decide +kernel⟩,
    ⟨⟨linked up, []⟩, 0, 1, by decide +kernel⟩,
    ⟨⟨up.setLink 1 { LinkSt.init with state := .init }, []⟩, 1, ⟨false, false, false, .page1 77⟩, 77, by decide +kernel⟩,
    ⟨⟨up.setLink 1 { LinkSt.init with state := .init }, []⟩, 1, ⟨false, true, false, .page0 1 0 8 3 0 0⟩, 1, 0, 8, 3, 0, 0, by decide +kernel⟩,
    ⟨⟨(up.setPort 1 { PortSt.init with state := .linked, leader := true }).setLink 1 { LinkSt.init with state := .init, farSerial := some 5 }, []⟩, 1, ⟨false, false, false, .page0 1 0 8 3 0 0⟩, 1, 0, 8, 3, 0, 0, by decide +kernel⟩,
    ⟨⟨({ lighthouse up with links := { up.links with chainCount := 8 } }.setPort 0 { PortSt.init with state := .linked, leader := true }).setLink 0 { LinkSt.init with state := .init, farSerial := some 5 }, []⟩, ⟨false, false, false, .page0 3 0 8 3 0 0⟩, 3, 0, 8, 3, 0, 0, by decide +kernel⟩⟩

theorem witness_bringUpExchangesPagesCreditsAndFogSignals_2 :
    (∃ (s : State) (p : Fin 3), (s.hub.live) ∧ ((s.hub.port p).state = .linked) ∧ ((s.hub.link p).state = .init) ∧ ((s.hub.link
      p).farMode = none ∨ (s.hub.link p).farSerial = none) ∧ ((s.hub.link p).nextPage = 0)) ∧
    (∃ (s : State) (p : Fin 3), (s.hub.live) ∧ ((s.hub.port p).state = .linked) ∧ ((s.hub.port p).leader = true) ∧ ((s.hub.link
      p).state = .init) ∧ (s.hub.initWaits p = false)) ∧
    (∃ (s : State) (req : Path) (c : Fin 8) (args : Bytes), (s.hub.takes req c 0x0210) ∧ (args.length = 3) ∧ (0x80 ≤ field args 0
      1) ∧ (s.hub.runningPorts ≠ [])) ∧
    (∃ (s : State) (p : Fin 3) (f : FogSignal), (s.hub.live) ∧ (s.hub.pwr.chainReset = false) ∧ (s.hub.resetsChain p f = false) ∧
      (fogAllotted f.cause.toNat = true) ∧ ((f.origin, f.seq) ∉ s.hub.links.fogSeen)) ∧
    (∃ (s : State) (f : FogSignal), (s.hub.live) ∧ (s.hub.pwr.chainReset = false) ∧ (fogAllotted f.cause.toNat = true) ∧
      ((f.origin, f.seq) ∈ s.hub.links.fogSeen)) ∧
    (∃ (s : State) (f : FogSignal), (s.hub.live) ∧ (s.hub.pwr.chainReset = false) ∧ (fogAllotted f.cause.toNat = false)) ∧
    (∃ (s : State) (p : Fin 3) (x : FogCopy), (s.hub.live) ∧ (s.hub.pwr.chainReset = false) ∧ (s.hub.links.fogCopies.find? (fun k
      => decide (k.link = p.val)) = some x)) :=
  ⟨
    ⟨⟨(up.setPort 1 { PortSt.init with state := .linked, leader := true }).setLink 1 { LinkSt.init with state := .init }, []⟩, 1, by decide +kernel⟩,
    ⟨⟨(up.setPort 1 { PortSt.init with state := .linked, leader := true }).setLink 1 { LinkSt.init with state := .init }, []⟩, 1, by decide +kernel⟩,
    ⟨⟨linked up, []⟩, .keeper, 0, [0x80, 1, 2], by decide +kernel⟩,
    ⟨⟨linked up, []⟩, 1, ⟨0x10, 5, 1, 2, 0⟩, by decide +kernel⟩,
    ⟨⟨{ up with links := { up.links with fogSeen := [(5, 1)] } }, []⟩, ⟨0x10, 5, 1, 2, 0⟩, by decide +kernel⟩,
    ⟨⟨up, []⟩, ⟨0x40, 5, 1, 2, 0⟩, by decide +kernel⟩,
    ⟨⟨{ up with links := { up.links with fogCopies := [⟨⟨0x10, 5, 1, 2, 0⟩, 1, 2⟩] } }, []⟩, 1, ⟨⟨0x10, 5, 1, 2, 0⟩, 1, 2⟩, by decide +kernel⟩⟩

theorem witness_tunnelCommandsOpenCloseAndFreeContexts_1 :
    (∃ (s : State) (req : Path) (c : Fin 8) (args : Bytes) (i : Nat), (s.hub.takes req c 0x0300) ∧ (s.hub.createArgs args = none)
      ∧ (s.hub.inFog = false) ∧ (s.hub.standby = false) ∧ (s.hub.freeIndex = some i)) ∧
    (∃ (s : State) (req : Path) (c : Fin 8) (args : Bytes), (s.hub.takes req c 0x0300) ∧ (s.hub.createArgs args = none) ∧
      (s.hub.inFog = false) ∧ (s.hub.standby = false) ∧ (s.hub.freeIndex = none)) ∧
    (∃ (s : State) (req : Path) (c : Fin 8) (args : Bytes) (i : Nat), (s.hub.takes req c 0x0301) ∧ (args.length = 2) ∧ (i = field
      args 0 2 % 256) ∧ (s.hub.cmdLive (field args 0 2) = true) ∧ (s.hub.openStates i = none) ∧ ((s.hub.ctx i).isSealed = false) ∧
      ((s.hub.ctx i).portA = s.hub.targetPort (s.hub.ctx i).farTarget) ∧ (s.hub.bindOk i (s.hub.ctx i).kind (s.hub.ctx i).localBind
      (s.hub.ctx i).maxSeg = true) ∧ (s.hub.admits i (s.hub.ctx i) = true)) ∧
    (∃ (s : State) (req : Path) (c : Fin 8) (args : Bytes) (i : Nat), (s.hub.takes req c 0x0302) ∧ (args.length = 2) ∧ (i = field
      args 0 2 % 256) ∧ (s.hub.cmdLive (field args 0 2) = true) ∧ ((s.hub.ctx i).role ≠ .transit) ∧ (s.hub.closeStates i = none)) ∧
    (∃ (s : State) (req : Path) (c : Fin 8) (args : Bytes) (i : Nat), (s.hub.takes req c 0x0302) ∧ (args.length = 2) ∧ (i = field
      args 0 2 % 256) ∧ (s.hub.cmdLive (field args 0 2) = true) ∧ ((s.hub.ctx i).role ≠ .transit) ∧ (s.hub.closeStates i = none)) ∧
    (∃ (s : State) (req : Path) (c : Fin 8) (args : Bytes) (i : Nat), (s.hub.takes req c 0x0303) ∧ (args.length = 2) ∧ (i = field
      args 0 2 % 256) ∧ (s.hub.cmdLive (field args 0 2) = true) ∧ ((s.hub.ctx i).role ≠ .transit) ∧ (s.hub.inFog = false) ∧
      (s.hub.standby = false)) ∧
    (∃ (s : State) (req : Path) (c : Fin 8) (args : Bytes) (i : Nat), (s.hub.takes req c 0x0304) ∧ (args.length = 12) ∧ (i = field
      args 0 2 % 256) ∧ (s.hub.cmdLive (field args 0 2) = true) ∧ ((s.hub.ctx i).role = .opener) ∧ (firstAbort (s.hub.modifyArgs
      args) = none) ∧ (s.hub.inFog = false) ∧ (s.hub.standby = false) ∧ (s.hub.rootSwap = false) ∧ ((s.hub.ctx i).state = .closed)
      ∧ ((s.hub.ctx i).command = none) ∧ ((s.hub.ctx i).newClass = none)) ∧
    (∃ (s : State) (req : Path) (c : Fin 8) (args : Bytes) (i : Nat), (s.hub.takes req c 0x0304) ∧ (args.length = 12) ∧ (i = field
      args 0 2 % 256) ∧ (s.hub.cmdLive (field args 0 2) = true) ∧ ((s.hub.ctx i).role = .opener) ∧ (firstAbort (s.hub.modifyArgs
      args) = none) ∧ (s.hub.inFog = false) ∧ (s.hub.standby = false) ∧ (s.hub.rootSwap = false) ∧ ((s.hub.ctx i).state = .open) ∧
      ((s.hub.ctx i).command = none) ∧ (field args 2 1 ≠ 0xFF) ∧ (field args 2 1 ≠ (s.hub.ctx i).clsNow)) :=
  ⟨
    ⟨⟨canHub, []⟩, .keeper, 0, createBytes, 1, by decide +kernel⟩,
    ⟨⟨{ canHub with tun := { canHub.tun with ctxs := ⟨(List.range 255).map (fun i => (i + 1, tunCtx))⟩ } }, []⟩, .keeper, 0, createBytes, by decide +kernel⟩,
    ⟨⟨withTun canHub tunCtx, []⟩, .keeper, 0, [5, 3], 5, by decide +kernel⟩,
    ⟨⟨withTun canHub { tunCtx with state := .open }, []⟩, .keeper, 0, [5, 3], 5, by decide +kernel⟩,
    ⟨⟨withTun canHub { tunCtx with state := .faulted }, []⟩, .keeper, 0, [5, 3], 5, by decide +kernel⟩,
    ⟨⟨withTun canHub { tunCtx with state := .open }, []⟩, .keeper, 0, [5, 3], 5, by decide +kernel⟩,
    ⟨⟨withTun canHub tunCtx, []⟩, .keeper, 0, modifyBytes, 5, by decide +kernel⟩,
    ⟨⟨withTun canHub { tunCtx with state := .open }, []⟩, .keeper, 0, modifyBytes, 5, by decide +kernel⟩⟩

theorem witness_tunnelCommandsOpenCloseAndFreeContexts_2 :
    (∃ (s : State) (i : Byte), (s.hub.live) ∧ ((s.hub.ctx i.toNat).state = .opening) ∧ ((s.hub.ctx i.toNat).openTimer = true) ∧ (∀
      e ∈ s.hub.sec.exchange, e.ctx ≠ i.toNat)) ∧
    (∃ (s : State) (i : Byte), (s.hub.live) ∧ ((s.hub.ctx i.toNat).state = .opening) ∧ ((s.hub.ctx i.toNat).openTimer = true) ∧ (∀
      e ∈ s.hub.sec.exchange, e.ctx ≠ i.toNat)) ∧
    (∃ (s : State) (i : Byte), (s.hub.live) ∧ (s.hub.drained i.toNat = true)) ∧
    (∃ (s : State) (i : Byte), (s.hub.live) ∧ ((s.hub.ctx i.toNat).state = .draining) ∧ ((s.hub.ctx i.toNat).drainTimer = true)) ∧
    (∃ (s : State) (i : Byte), (s.hub.live) ∧ ((s.hub.ctx i.toNat).state = .faulted) ∧ ((s.hub.ctx i.toNat).holdTimer = true)) ∧
    (∃ (s : State) (i : Byte), (s.hub.live) ∧ ((s.hub.ctx i.toNat).state = .faulted) ∧ ((s.hub.ctx i.toNat).role = .opener) ∧
      ((s.hub.ctx i.toNat).reopenTimer = true) ∧ ((s.hub.ctx i.toNat).shadow = false) ∧ ((s.hub.ctx i.toNat).command = none) ∧
      (s.hub.plan.pending = none) ∧ (s.hub.inFog = false) ∧ ((s.hub.ctx i.toNat).isSealed = false) ∧ ((s.hub.ctx i.toNat).portA =
      s.hub.targetPort (s.hub.ctx i.toNat).farTarget) ∧ (s.hub.sysOpen (s.hub.ctx i.toNat).portA = true) ∧ (s.hub.bindOk i.toNat
      (s.hub.ctx i.toNat).kind (s.hub.ctx i.toNat).localBind (s.hub.ctx i.toNat).maxSeg = true) ∧ (s.hub.admits i.toNat (s.hub.ctx
      i.toNat) = true)) :=
  ⟨
    ⟨⟨withTun canHub { tunCtx with state := .opening, openTimer := true }, []⟩, 5, by decide +kernel⟩,
    ⟨⟨withTun canHub { respCtx with state := .opening, openTimer := true }, []⟩, 5, by decide +kernel⟩,
    ⟨⟨withTun canHub { tunCtx with state := .draining, closeSent := true, farSent := some 0 }, []⟩, 5, by decide +kernel⟩,
    ⟨⟨withTun canHub { tunCtx with state := .draining, drainTimer := true }, []⟩, 5, by decide +kernel⟩,
    ⟨⟨withTun canHub { respCtx with state := .faulted, holdTimer := true }, []⟩, 5, by decide +kernel⟩,
    ⟨⟨withTun canHub { tunCtx with state := .faulted, reopenTimer := true }, []⟩, 5, by decide +kernel⟩⟩

theorem witness_tunnelMessagesMoveContextsAlongTheRoute_1 :
    (∃ (s : State) (p : Fin 3) (m : TunMsg) (q : OpenReq) (o : Nat) (i : Nat), (s.hub.live) ∧ (m.op = .openReq q.kind q.cls
      q.direction q.isSealed q.maxSeg q.farBind q.rates) ∧ (1 < m.hopsLeft) ∧ (s.hub.openChecks true = none) ∧ (s.hub.freeIndex =
      some i) ∧ (s.hub.onward m.direction = some o) ∧ (o < 3) ∧ (s.hub.sysOpen o = true) ∧ ((s.hub.relayPlace p i (s.hub.relayCtx p
      o i m q) q).admits i (s.hub.relayCtx p o i m q) = true)) ∧
    (∃ (s : State) (p : Fin 3) (m : TunMsg) (q : OpenReq) (i : Nat), (s.hub.live) ∧ (m.op = .openReq q.kind q.cls q.direction
      q.isSealed q.maxSeg q.farBind q.rates) ∧ (m.hopsLeft ≤ 1) ∧ (s.hub.openChecks false = none) ∧ (s.hub.freeIndex = some i) ∧
      (q.isSealed = false) ∧ (s.hub.bindOk i q.kind q.farBind q.maxSeg = true) ∧ ((s.hub.answerPlace i (s.hub.answerCtx p i m q)
      q).admits i (s.hub.answerCtx p i m q) = true) ∧ (s.hub.sysOpen p = true)) ∧
    (∃ (s : State) (p : Fin 3) (m : TunMsg) (q : OpenReq) (a : Abort), (s.hub.live) ∧ (m.op = .openReq q.kind q.cls q.direction
      q.isSealed q.maxSeg q.farBind q.rates) ∧ (s.hub.openChecks (decide (1 < m.hopsLeft)) = some a) ∧ (s.hub.sysOpen p = true)) ∧
    (∃ (s : State) (p : Fin 3) (m : TunMsg) (i : Nat), (s.hub.live) ∧ (s.hub.tunFind p m = some i) ∧ ((s.hub.ctx i).state =
      .opening) ∧ ((s.hub.ctx i).role = .opener) ∧ ((s.hub.ctx i).towardResponder = p.val) ∧ (m.status = 0) ∧ (s.hub.sysOpen p =
      true)) ∧
    (∃ (s : State) (p : Fin 3) (m : TunMsg) (i : Nat), (s.hub.live) ∧ (s.hub.tunFind p m = some i) ∧ ((s.hub.ctx i).state =
      .opening) ∧ ((s.hub.ctx i).role = .opener) ∧ ((s.hub.ctx i).towardResponder = p.val) ∧ (m.status ≠ 0)) ∧
    (∃ (s : State) (p : Fin 3) (m : TunMsg) (i : Nat), (s.hub.live) ∧ (s.hub.tunFind p m = some i) ∧ ((s.hub.ctx i).state =
      .opening) ∧ ((s.hub.ctx i).role ≠ .opener) ∧ ((s.hub.ctx i).towardOpener = p.val)) ∧
    (∃ (s : State) (p : Fin 3) (m : TunMsg) (i : Nat) (n : Nat), (s.hub.live) ∧ (m.op = .closeReq n) ∧ (s.hub.tunFind p m = some
      i) ∧ ((s.hub.ctx i).state = .open) ∧ ((s.hub.ctx i).role ≠ .transit)) ∧
    (∃ (s : State) (p : Fin 3) (m : TunMsg) (i : Nat) (n : Nat), (s.hub.live) ∧ (m.op = .closeAck n) ∧ (s.hub.tunFind p m = some
      i) ∧ ((s.hub.ctx i).state = .draining) ∧ ((s.hub.ctx i).role ≠ .transit)) :=
  ⟨
    ⟨⟨canHub.setLink 1 { LinkSt.init with state := .running, sysOpen := true }, []⟩, 0, { tmsg reqOp with hopsLeft := 2, totalHops := 2, direction := 1, peerIndex := 0 }, ⟨3, 1, 0, false, 72, 0x20000000, []⟩, 1, 1, by decide +kernel⟩,
    ⟨⟨canHub, []⟩, 0, { tmsg reqOp with peerIndex := 0 }, ⟨3, 1, 0, false, 72, 0x20000000, []⟩, 1, by decide +kernel⟩,
    ⟨⟨linked up, []⟩, 0, { tmsg reqOp with peerIndex := 0 }, ⟨3, 1, 0, false, 72, 0x20000000, []⟩, abState stUnconfirmed, by decide +kernel⟩,
    ⟨⟨withTun canHub { tunCtx with state := .opening, openTimer := true, command := some 0 }, []⟩, 0, tmsg .openAck, 5, by decide +kernel⟩,
    ⟨⟨withTun canHub { tunCtx with state := .opening, openTimer := true, command := some 0 }, []⟩, 0, { tmsg .openAck with status := abAdmission }, 5, by decide +kernel⟩,
    ⟨⟨withTun canHub { respCtx with state := .opening, openTimer := true }, []⟩, 0, tmsg .openConfirm, 5, by decide +kernel⟩,
    ⟨⟨withTun canHub { tunCtx with state := .open }, []⟩, 0, tmsg (.closeReq 7), 5, 7, by decide +kernel⟩,
    ⟨⟨withTun canHub { tunCtx with state := .draining }, []⟩, 0, tmsg (.closeAck 7), 5, 7, by decide +kernel⟩⟩

theorem witness_tunnelMessagesMoveContextsAlongTheRoute_2 :
    (∃ (s : State) (p : Fin 3) (m : TunMsg) (i : Nat) (cause : Nat), (s.hub.live) ∧ (m.op = .teardown cause) ∧ (s.hub.tunFind p m
      = some i) ∧ ((s.hub.ctx i).state = .opening ∨ (s.hub.ctx i).state = .open)) ∧
    (∃ (s : State) (p : Fin 3) (m : TunMsg) (i : Nat) (cause : Nat), (s.hub.live) ∧ (m.op = .teardown cause) ∧ (s.hub.tunFind p m
      = some i) ∧ ((s.hub.ctx i).state = .opening ∨ (s.hub.ctx i).state = .open)) ∧
    (∃ (s : State) (p : Fin 3) (m : TunMsg) (i : Nat) (cause : Nat), (s.hub.live) ∧ (m.op = .teardown cause) ∧ (s.hub.tunFind p m
      = some i) ∧ ((s.hub.ctx i).state = .draining) ∧ ((s.hub.ctx i).role ≠ .transit)) ∧
    (∃ (s : State) (p : Fin 3) (m : TunMsg) (i : Nat) (cls : Nat) (seg : Nat), (s.hub.live) ∧ (m.op = .modifyReq cls seg) ∧
      (s.hub.tunFind p m = some i) ∧ ((s.hub.ctx i).state = .open) ∧ ((s.hub.ctx i).role = .responder) ∧ ((s.hub.ctx
      i).towardOpener = p.val) ∧ (s.hub.sysOpen p = true)) ∧
    (∃ (s : State) (p : Fin 3) (m : TunMsg) (i : Nat), (s.hub.live) ∧ (s.hub.tunFind p m = some i) ∧ ((s.hub.ctx i).state = .open)
      ∧ ((s.hub.ctx i).role = .opener) ∧ ((s.hub.ctx i).towardResponder = p.val) ∧ ((s.hub.ctx i).modifying = true)) :=
  ⟨
    ⟨⟨withTun canHub { tunCtx with state := .open }, []⟩, 0, tmsg (.teardown 4), 5, 4, by decide +kernel⟩,
    ⟨⟨withTun canHub { relayCtx with state := .open }, []⟩, 0, tmsg (.teardown 4), 5, 4, by decide +kernel⟩,
    ⟨⟨withTun canHub { tunCtx with state := .draining }, []⟩, 0, tmsg (.teardown 4), 5, 4, by decide +kernel⟩,
    ⟨⟨withTun canHub { respCtx with state := .open }, []⟩, 0, tmsg (.modifyReq 2 100), 5, 2, 100, by decide +kernel⟩,
    ⟨⟨withTun canHub { tunCtx with state := .open, modifying := true, openTimer := true, command := some 0, maxSegOld := 100 }, []⟩, 0, tmsg .modifyAck, 5, by decide +kernel⟩⟩

theorem witness_jobsRunInTicketOrderOnTenders_1 :
    (∃ (s : State) (k : JobTunnel) (i : Nat) (encap : Bool) (j : Job) (rest : List Job) (t : Nat), (s.hub.live) ∧ (i =
      tunnelNumber k) ∧ (s.hub.tunnelRead 2 i = (s.hub, false)) ∧ (s.hub.returned i encap = none) ∧ (takeWaiting i encap
      s.hub.eng.waiting = (some j, rest)) ∧ (encap = false ∨ j.seg.data.length + s.hub.safetyExtra i ≤ (s.hub.ctx i).maxSeg) ∧
      (encap = false ∨ portCode (s.hub.ctx i).localBind ≠ 0x30) ∧ (s.hub.targetOf j = some t) ∧ (s.hub.mayDispatch j = true)) ∧
    (∃ (s : State) (t : Fin 32) (k : Nat), (s.hub.live) ∧ (s.hub.inService t = true) ∧ ((s.hub.tender t).busy = false) ∧ (∀ j ∈
      (s.hub.tender t).jobs, j.damage = 0) ∧ (nextJob (s.hub.tender t).jobs = some k)) ∧
    (∃ (s : State) (t : Fin 32), (s.hub.live) ∧ ((s.hub.tender t).busy = true) ∧ (∀ j ∈ (s.hub.tender t).jobs, j.poisoned = false)) ∧
    (∃ (s : State) (k : JobTunnel) (i : Nat) (t : Nat) (j : Job), (s.hub.live) ∧ (i = tunnelNumber k) ∧ (s.hub.nextTicket i true
      .done = some (t, j)) ∧ (j.handle = s.hub.handle i) ∧ ((s.hub.ctx i).state ≠ .free) ∧ ((s.hub.ctx i).isSealed = false) ∧
      ((s.hub.ctx i).kind ≠ 7) ∧ (s.hub.sw.inject = []) ∧ ((s.hub.meterSegment i (s.hub.wireLen i j.seg.data.length)
      j.seg.yellow).2 = .green)) ∧
    (∃ (s : State) (k : JobTunnel) (i : Nat) (t : Nat) (j : Job), (s.hub.live) ∧ (i = tunnelNumber k) ∧ (s.hub.nextTicket i true
      .done = some (t, j)) ∧ (j.handle = s.hub.handle i) ∧ ((s.hub.ctx i).state ≠ .free) ∧ ((s.hub.meterSegment i (s.hub.wireLen i
      j.seg.data.length) j.seg.yellow).2 = .red)) ∧
    (∃ (s : State) (k : JobTunnel) (i : Nat) (t : Nat) (j : Job), (s.hub.live) ∧ (i = tunnelNumber k) ∧ (s.hub.nextTicket i false
      .done = some (t, j)) ∧ (j.handle = s.hub.handle i) ∧ ((s.hub.ctx i).state ≠ .free)) ∧
    (∃ (s : State) (i : Byte) (t : Nat) (j : Job) (pir : Nat), (s.hub.live) ∧ (s.hub.nextTicket i.toNat true .held = some (t, j))
      ∧ (pir = s.hub.inForce (Od.planPirSend s.hub.plan.activePlan i.toNat)) ∧ (0 < pir) ∧ ((s.hub.meter i.toNat).tp ≤ charge
      (s.hub.wireLen i.toNat j.seg.data.length) * bucketByte) ∧ (charge (s.hub.wireLen i.toNat j.seg.data.length) ≤ s.hub.inForce
      (Od.planPbsSend s.hub.plan.activePlan i.toNat))) ∧
    (∃ (s : State) (t : Fin 32) (u : Nat), (s.hub.live) ∧ (s.hub.inService t = true) ∧ (s.hub.pendingOf t = 0) ∧ ((s.hub.tender
      t).busy = false) ∧ (s.hub.isPin t = false) ∧ (s.hub.slotFree t false = true) ∧ (s.hub.eng.fenceRaised = false) ∧
      (s.hub.eng.reloading = none) ∧ (bit 0 (s.hub.val Od.engStealEnable) = true) ∧ (s.hub.victim (((List.range 8).map (fun k =>
      t.val / 8 * 8 + k)).filter (fun u => decide (u ≠ t.val))) = some u) ∧ (∀ j ∈ (s.hub.tender u).jobs, j.damage ≤ 2)) :=
  ⟨
    ⟨⟨{ openTun with eng := { openTun.eng with waiting := [tjob .pending 0] } }, []⟩, .ctx 5, 5, true, tjob .pending 0, [], 1, by decide +kernel⟩,
    ⟨⟨withJobs [tjob .done 0, tjob .pending 1], []⟩, 1, 1, by decide +kernel⟩,
    ⟨⟨withJobs [tjob .running 0], []⟩, 1, by decide +kernel⟩,
    ⟨⟨withJobs [tjob .done 0], []⟩, .ctx 5, 5, 1, tjob .done 0, by decide +kernel⟩,
    ⟨⟨(withJobs [tjob .done 0]).setEgress 0 Egress.init |>.updCtx 5 (fun x => x) |> (fun h => { h with plan := { h.plan with meters := ⟨[]⟩ } }), []⟩, .ctx 5, 5, 1, tjob .done 0, by decide +kernel⟩,
    ⟨⟨withJobs [{ tjob .done 0 with encap := false, cells := [{ bufSys with ctx := 5, cell := { sysCell with index := 5, len := 3, payload := [1, 2, 3] } }] }], []⟩, .ctx 5, 5, 1, { tjob .done 0 with encap := false, cells := [{ bufSys with ctx := 5, cell := { sysCell with index := 5, len := 3, payload := [1, 2, 3] } }] }, by decide +kernel⟩,
    ⟨⟨{ (withJobs [tjob .held 0]).put (Od.planPirSend 0 5) 1000 |>.put (Od.planPbsSend 0 5) 65536 with plan := { (withJobs []).plan with meters := ⟨[]⟩ } }, []⟩, 5, 1, tjob .held 0, 1000, by decide +kernel⟩,
    ⟨⟨withJobs [tjob .pending 0, tjob .pending 1], []⟩, 2, 1, by decide +kernel⟩⟩

theorem witness_jobsRunInTicketOrderOnTenders_2 :
    (∃ (s : State) (t : Fin 32) (u : Nat), (s.hub.live) ∧ (s.hub.inService t = true) ∧ (s.hub.pendingOf t = 0) ∧ ((s.hub.tender
      t).busy = false) ∧ (s.hub.isPin t = false) ∧ (s.hub.slotFree t false = true) ∧ (s.hub.eng.fenceRaised = false) ∧
      (s.hub.eng.reloading = none) ∧ (bit 0 (s.hub.val Od.engStealEnable) = false) ∧ (bit 1 (s.hub.val Od.engStealEnable) = true) ∧
      (s.hub.victim (otherClusters t) = some u) ∧ (∀ j ∈ (s.hub.tender u).jobs, j.damage ≤ 2)) ∧
    (∃ (s : State) (e : Fin 32) (k : Fin 2) (b : BufCell), (s.hub.live) ∧ (3 ≤ e.val ∨ ((s.hub.link e).resend = [] ∧
      (s.hub.slotLane e k).isSome = true)) ∧ ((s.hub.chooseCell e).2.1 = some b) ∧ (b.damage = 0) ∧ (b.descDamage = 0)) :=
  ⟨
    ⟨⟨(withJobs [tjob .pending 0, tjob .pending 1]).put Od.engStealEnable 2, []⟩, 9, 1, by decide +kernel⟩,
    ⟨⟨queuedCell 17, []⟩, 17, 0, ⟨5, 1, some (256 + 17), { sysCell with index := 5 }, 0, 0⟩, by decide +kernel⟩⟩

theorem witness_tendersAreFencedAndBarriersComplete_1 :
    (∃ (s : State) (t : Fin 32), (s.hub.live) ∧ (s.hub.inService t = true)) ∧
    (∃ (s : State) (t : Fin 32), (s.hub.live) ∧ (s.hub.inService t = true) ∧ ((s.hub.tender t).busy = true)) ∧
    (∃ (s : State) (req : Path) (c : Fin 8) (args : Bytes), (s.hub.takes req c 0x0500) ∧ (args.length = 1) ∧ (field args 0 1 < 32)
      ∧ ((s.hub.tender (field args 0 1)).fenced = false) ∧ (s.hub.inService (field args 0 1) = true → 2 < s.hub.serviceList.length)
      ∧ (s.hub.inFog = false)) ∧
    (∃ (s : State) (req : Path) (c : Fin 8) (args : Bytes), (s.hub.takes req c 0x0501) ∧ (args.length = 1) ∧ (field args 0 1 < 32)
      ∧ ((s.hub.tender (field args 0 1)).fenced = true) ∧ (s.hub.domOn (3 + field args 0 1 / 8) = true) ∧ ((s.hub.store (field args
      0 1 / 8)).measure = s.hub.eng.mcMeasure) ∧ (s.hub.inFog = false)) ∧
    (∃ (s : State) (req : Path) (c : Fin 8) (args : Bytes), (s.hub.takes req c 0x0501) ∧ (args.length = 1) ∧ (field args 0 1 < 32)
      ∧ ((s.hub.tender (field args 0 1)).fenced = true) ∧ (s.hub.domOn (3 + field args 0 1 / 8) = true) ∧ (s.hub.inFog = false)) ∧
    (∃ (s : State) (req : Path) (c : Fin 8), (s.hub.takes req c 0x0502) ∧ (s.hub.inFog = false) ∧ (∀ u ∈ s.hub.eng.keepUses, u =
      .fence ∨ u = .reload)) ∧
    (∃ (s : State), (s.hub.live) ∧ (s.hub.eng.regBarrier = none)) ∧
    (∃ (s : State) (b : Barrier), (s.hub.live) ∧ (s.hub.eng.regBarrier = some b) ∧ (b.waiting = [])) :=
  ⟨
    ⟨⟨withJobs [tjob .running 0, tjob .pending 1], []⟩, 1, by decide +kernel⟩,
    ⟨⟨withJobs [tjob .running 0], []⟩, 1, by decide +kernel⟩,
    ⟨⟨openTun, []⟩, .keeper, 0, [3], by decide +kernel⟩,
    ⟨⟨openTun.setTender 3 { Tender.init with fenced := true, fenceCause := 5 }, []⟩, .keeper, 0, [3], by decide +kernel⟩,
    ⟨⟨openTun.setTender 3 { Tender.init with fenced := true, fenceCause := 5 }, []⟩, .keeper, 0, [3], by decide +kernel⟩,
    ⟨⟨withJobs [tjob .done 0], []⟩, .keeper, 0, by decide +kernel⟩,
    ⟨⟨withJobs [tjob .done 0], []⟩, by decide +kernel⟩,
    ⟨⟨{ up with eng := { up.eng with regBarrier := some ⟨[], 2, 10⟩ } }, []⟩, ⟨[], 2, 10⟩, by decide +kernel⟩⟩

theorem witness_tendersAreFencedAndBarriersComplete_2 :
    (∃ (s : State) (b : Barrier) (c : Fin 8) (l : List BarrierUse), (s.hub.live) ∧ (s.hub.eng.keepBarrier = some b) ∧
      (s.hub.eng.keepUses = .command c :: l) ∧ (b.waiting = []) ∧ ((s.hub.chan c).state = .running)) ∧
    (∃ (s : State) (b : Barrier) (l : List BarrierUse), (s.hub.live) ∧ (s.hub.eng.keepBarrier = some b) ∧ (s.hub.eng.keepUses =
      .fence :: l) ∧ (b.waiting = [])) ∧
    (∃ (s : State) (b : Barrier) (l : List BarrierUse) (c : Fin 8) (m : Image), (s.hub.live) ∧ (s.hub.eng.keepBarrier = some b) ∧
      (s.hub.eng.keepUses = .reload :: l) ∧ (b.waiting = []) ∧ (s.hub.eng.reloading = some c.val) ∧ (s.hub.eng.reloadImage = some
      m) ∧ ((s.hub.chan c).state = .running)) ∧
    (∃ (s : State) (req : Path) (c : Fin 8) (args : Bytes), (s.hub.takes req c 0x0503) ∧ (args.length = 4) ∧ (s.hub.inFog = false)
      ∧ (s.hub.pair.swap = none) ∧ (s.hub.plan.pending = none) ∧ (s.hub.eng.reloading = none)) ∧
    (∃ (s : State) (req : Path) (c : Fin 8) (args : Bytes) (d : Nat), (s.hub.takes req c 0x0503) ∧ (args.length = 4) ∧
      (s.hub.inFog = false) ∧ (s.hub.pair.swap = none) ∧ (s.hub.plan.pending = none) ∧ (s.hub.eng.reloading = none) ∧
      ((s.hub.imageCheck (field args 0 4)).2 = .error d)) ∧
    (∃ (s : State) (req : Path) (c : Fin 8), (s.hub.takes req c 0x0504) ∧ (s.hub.inFog = false) ∧ (s.hub.eng.fenceRaised = false)
      ∧ (s.hub.eng.reloading = none)) ∧
    (∃ (s : State) (req : Path) (c : Fin 8), (s.hub.takes req c 0x0504) ∧ (s.hub.inFog = false)) ∧
    (∃ (s : State), (s.hub.live) ∧ (s.hub.eng.fenceRaised = true) ∧ (s.hub.eng.fenceTimer = true)) :=
  ⟨
    ⟨⟨{ up.accept 0 0x0502 7 [] with eng := { up.eng with keepBarrier := some ⟨[], 2, 10⟩, keepUses := [.command 0, .fence] } }, []⟩, ⟨[], 2, 10⟩, 0, [.fence], by decide +kernel⟩,
    ⟨⟨{ up with eng := { up.eng with fenceRaised := true, keepBarrier := some ⟨[], 2, 10⟩, keepUses := [.fence] } }, []⟩, ⟨[], 2, 10⟩, [], by decide +kernel⟩,
    ⟨⟨{ up.accept 0 0x0503 7 [] with eng := { up.eng with keepBarrier := some ⟨[], 2, 10⟩, keepUses := [.reload], reloading := some 0, reloadImage := some ⟨3, [1], [2]⟩ } }, []⟩, ⟨[], 2, 10⟩, [], 0, ⟨3, [1], [2]⟩, by decide +kernel⟩,
    ⟨⟨up, []⟩, .keeper, 0, [0, 0x10, 0, 0], by decide +kernel⟩,
    ⟨⟨up, []⟩, .keeper, 0, [0, 0x10, 0, 0], 3, by decide +kernel⟩,
    ⟨⟨up, []⟩, .keeper, 0, by decide +kernel⟩,
    ⟨⟨{ up with eng := { up.eng with fenceRaised := true, fenceTimer := true } }, []⟩, .keeper, 0, by decide +kernel⟩,
    ⟨⟨{ up with eng := { up.eng with fenceRaised := true, fenceTimer := true } }, []⟩, by decide +kernel⟩⟩

theorem witness_plansSwitchAtTheirSuperframe_1 :
    (∃ (s : State) (req : Path) (c : Fin 8) (args : Bytes), (s.hub.takes req c 0x0400) ∧ (args.length = 2) ∧ (field args 0 1 < 8)
      ∧ (field args 1 1 ≠ 1) ∧ (field args 1 1 ≤ 64) ∧ (s.hub.planStates = none) ∧ (field args 0 1 ≠ s.hub.plan.activePlan)) ∧
    (∃ (s : State) (req : Path) (c : Fin 8) (args : Bytes), (s.hub.takes req c 0x0400) ∧ (args.length = 2) ∧ (field args 0 1 < 8)
      ∧ (field args 1 1 ≠ 1) ∧ (field args 1 1 ≤ 64) ∧ (s.hub.planStates = none) ∧ (field args 0 1 = s.hub.plan.activePlan)) ∧
    (∃ (s : State) (req : Path) (c : Fin 8), (s.hub.takes req c 0x0401) ∧ (s.hub.mode.active ≠ .bench)) ∧
    (∃ (s : State) (p : Fin 3) (seq : Byte) (eff : Word), (s.hub.live) ∧ (s.hub.followPort = some p.val) ∧ (s.hub.isArmed
      eff.toNat seq.toNat = false) ∧ (s.hub.plan.lastArmed ≠ some (seq.toNat, eff.toNat))) ∧
    (∃ (s : State) (p : Fin 3) (seq : Byte) (eff : Word), (s.hub.live) ∧ (s.hub.followPort = some p.val) ∧ (s.hub.isArmed
      eff.toNat seq.toNat = false) ∧ (s.hub.plan.lastArmed ≠ some (seq.toNat, eff.toNat))) ∧
    (∃ (s : State) (p : Fin 3) (seq : Byte) (eff : Word), (s.hub.live) ∧ (s.hub.followPort = some p.val) ∧ (s.hub.plan.pending =
      none) ∧ (s.hub.isArmed eff.toNat seq.toNat = false) ∧ (s.hub.plan.lastArmed ≠ some (seq.toNat, eff.toNat))) ∧
    (∃ (s : State) (p : Fin 3) (active : Fin 8), (s.hub.live) ∧ (s.hub.followPort = some p.val) ∧ (s.hub.plan.pending = none) ∧
      (active.val ≠ s.hub.plan.activePlan)) ∧
    (∃ (s : State) (p : Fin 3) (active : Fin 8), (s.hub.live) ∧ (s.hub.followPort = some p.val) ∧ (s.hub.plan.pending = none) ∧
      (active.val = s.hub.plan.activePlan)) :=
  ⟨
    ⟨⟨linked (lighthouse up), []⟩, .keeper, 0, [3, 8], by decide +kernel⟩,
    ⟨⟨linked (lighthouse up), []⟩, .keeper, 0, [0, 8], by decide +kernel⟩,
    ⟨⟨lighthouse up, []⟩, .keeper, 0, by decide +kernel⟩,
    ⟨⟨relay, []⟩, 0, 9, 40, by decide +kernel⟩,
    ⟨⟨{ relay with plan := { relay.plan with pending := some (2, 20, 8) } }, []⟩, 0, 9, 40, by decide +kernel⟩,
    ⟨⟨relay, []⟩, 0, 9, 40, by decide +kernel⟩,
    ⟨⟨relay, []⟩, 0, 2, by decide +kernel⟩,
    ⟨⟨relay, []⟩, 0, 0, by decide +kernel⟩⟩

theorem witness_plansSwitchAtTheirSuperframe_2 :
    (∃ (s : State) (p : Fin 3) (seq : Byte) (origin : BitVec 48) (n : Nat) (e : Nat), (s.hub.live) ∧ (s.hub.upEnd p = true) ∧
      (s.hub.followPort = none) ∧ (s.hub.plan.pending = some (n, e, seq.toNat)) ∧ (sfAhead e s.hub.links.sf = true) ∧ (origin ∉
      s.hub.plan.acks)) ∧
    (∃ (s : State) (p : Fin 3) (q : Nat), (s.hub.live) ∧ (s.hub.upEnd p = true) ∧ (s.hub.followPort = some q) ∧ (s.hub.running q =
      true)) ∧
    (∃ (s : State) (p : Fin 3), (s.hub.live) ∧ (p.val < 2) ∧ (s.hub.upEnd p = true) ∧ (s.hub.running p = true)) ∧
    (∃ (s : State), (s.hub.live)) ∧
    (∃ (s : State), (s.hub.live) ∧ (0 < s.hub.plan.announceLeft)) ∧
    (∃ (s : State) (n : Nat) (e : Nat) (q : Nat), (s.hub.live) ∧ (s.hub.plan.pending = some (n, e, q)) ∧ (s.hub.plan.late = none)
      ∧ (sfAhead e s.hub.links.sf = false)) ∧
    (∃ (s : State) (f : Nat), (s.hub.live) ∧ (s.hub.plan.startup = true) ∧ (s.hub.plan.startupFrom = some f) ∧ (sfPassed f
      s.hub.links.sf (s.hub.val Od.planBlindHold) = true)) ∧
    (∃ (s : State) (f : Nat), (s.hub.live) ∧ (s.hub.plan.swapWindow = some f) ∧ (sfPassed f s.hub.links.sf (s.hub.val
      Od.planBlindHold) = true)) :=
  ⟨
    ⟨⟨{ linked (lighthouse up) with plan := { up.plan with pending := some (3, 40, 9) } }, []⟩, 0, 9, 77, 3, 40, by decide +kernel⟩,
    ⟨⟨relay, []⟩, 1, 0, by decide +kernel⟩,
    ⟨⟨linked (lighthouse up), []⟩, 0, by decide +kernel⟩,
    ⟨⟨linked (lighthouse up), []⟩, by decide +kernel⟩,
    ⟨⟨{ linked (lighthouse up) with plan := { up.plan with pending := some (3, 40, 9), announceLeft := 2 } }, []⟩, by decide +kernel⟩,
    ⟨⟨{ linked (lighthouse up) with plan := { up.plan with pending := some (3, 0, 9) } }, []⟩, 3, 0, 9, by decide +kernel⟩,
    ⟨⟨{ up with plan := { up.plan with startup := true, startupFrom := some 0 }, links := { up.links with sf := 100000 } }, []⟩, 0, by decide +kernel⟩,
    ⟨⟨{ up with plan := { up.plan with swapWindow := some 0 }, links := { up.links with sf := 100000 } }, []⟩, 0, by decide +kernel⟩⟩

theorem witness_plansSwitchAtTheirSuperframe_3 :
    (∃ (s : State) (w : Fin 5), (s.hub.live) ∧ (2 ≤ w.val) ∧ (s.hub.plan.retrain.get 0 (w.val - 2) ≠ 0) ∧ (sfPassed
      (s.hub.plan.retrain.get 0 (w.val - 2) - 1) s.hub.links.sf (s.hub.val Od.planBlindHold) = true)) :=
    ⟨⟨{ up with plan := { up.plan with retrain := up.plan.retrain.set 0 1 1 }, links := { up.links with sf := 100000 } }, []⟩, 3, by decide +kernel⟩

theorem witness_superframesStartAndBeaconsAlignThem :
    (∃ (s : State), (s.hub.live) ∧ (s.hub.pair.turnTo = none)) ∧
    (∃ (s : State) (p : Fin 3) (sf : Word), (s.hub.live) ∧ (s.hub.followPort = some p.val) ∧ (s.hub.bcn.decoded = false) ∧
      (sf.toNat = (s.hub.links.sf + 1) % 2 ^ 32)) ∧
    (∃ (s : State) (p : Fin 3) (sf : Word), (s.hub.live) ∧ (s.hub.followPort ≠ some p.val) ∧ (s.hub.followPort = none →
      s.hub.countPort = some p.val → sf.toNat = (s.hub.links.sf + 1) % 2 ^ 32)) ∧
    (∃ (s : State) (p : Fin 3) (sf : Word), (s.hub.live) ∧ (s.hub.followPort = none) ∧ (s.hub.countPort = some p.val) ∧ (sf.toNat
      ≠ (s.hub.links.sf + 1) % 2 ^ 32)) ∧
    (∃ (s : State), (s.hub.live)) :=
  ⟨
    ⟨⟨(linked (lighthouse up)).updLink 0 (fun x => { x with joining := [1] }), []⟩, by decide +kernel⟩,
    ⟨⟨relay, []⟩, 0, 1, by decide +kernel⟩,
    ⟨⟨linked (lighthouse up), []⟩, 0, 9, by decide +kernel⟩,
    ⟨⟨{ linked up with mode := { up.mode with active := .foghorn, before := .lightship, fogCause := 2, retrain := some .timer } }, []⟩, 0, 9, by decide +kernel⟩,
    ⟨⟨linked (lighthouse up), []⟩, by decide +kernel⟩⟩

theorem witness_switchRowsFollowFlowControlAndClassification_1 :
    (∃ (s : State) (n : Fin 8), (s.hub.live) ∧ (s.hub.val (Od.ingPfcEnable (n + 3)) ≠ 0)) ∧
    (∃ (s : State) (n : Fin 8), (s.hub.live) ∧ (s.hub.val (Od.ingPfcEnable (n + 3)) = 0)) ∧
    (∃ (s : State) (n : Fin 8), (s.hub.live) ∧ (s.hub.sw.pfcSent.get 0 (n + 3) ≠ 0) ∧ (s.hub.val (Od.ingPfcEnable (n + 3)) ≠ 0)) ∧
    (∃ (s : State) (n : Fin 8), (s.hub.live) ∧ (s.hub.sw.pfcSent.get 0 (n + 3) = 0)) ∧
    (∃ (s : State), (s.hub.live)) ∧
    (∃ (s : State) (n : Fin 8), (s.hub.live) ∧ (s.hub.pausing n ≠ 0)) ∧
    (∃ (s : State) (n : Fin 8), (s.hub.live) ∧ (s.hub.pausing n = 0) ∧ (s.hub.linesStand)) ∧
    (∃ (s : State) (m : Fin 4), (s.hub.live) ∧ ((s.hub.mirror m).count ≠ 0)) :=
  ⟨
    ⟨⟨up.put (Od.ingPfcEnable 5) 1, []⟩, 2, by decide +kernel⟩,
    ⟨⟨up, []⟩, 2, by decide +kernel⟩,
    ⟨⟨{ up.put (Od.ingPfcEnable 5) 1 with sw := { up.sw with pfcSent := up.sw.pfcSent.set 0 5 3 } }, []⟩, 2, by decide +kernel⟩,
    ⟨⟨up, []⟩, 2, by decide +kernel⟩,
    ⟨⟨{ up with sw := { up.sw with paused := up.sw.paused.set 0 2 6 } }, []⟩, by decide +kernel⟩,
    ⟨⟨{ up with sw := { up.sw with paused := up.sw.paused.set 0 2 6 } }, []⟩, 2, by decide +kernel⟩,
    ⟨⟨up, []⟩, 2, by decide +kernel⟩,
    ⟨⟨{ up with sw := { up.sw with mirrors := up.sw.mirrors.set MirrorSt.init 1 { MirrorSt.init with count := 1, cells := cellBytes sysCell } } }, []⟩, 1, by decide +kernel⟩⟩

theorem witness_switchRowsFollowFlowControlAndClassification_2 :
    (∃ (s : State) (d : Nat × Nat × Nat), (s.hub.live) ∧ (s.hub.sw.damaged = [d]) ∧ (d.2.2 ≤ 2) ∧ (∀ b ∈ s.hub.allCells, b.damage
      = 0 ∧ b.descDamage = 0) ∧ (∀ j ∈ s.hub.allJobs, j.damage = 0)) ∧
    (∃ (s : State) (d : Nat × Nat × Nat), (s.hub.live) ∧ (s.hub.sw.damaged = [d]) ∧ (2 < d.2.2) ∧ (∀ b ∈ s.hub.allCells, b.damage
      = 0 ∧ b.descDamage = 0) ∧ (∀ j ∈ s.hub.allJobs, j.damage = 0)) ∧
    (∃ (s : State) (req : Path) (c : Fin 8) (d : Nat × Nat × Nat), (s.hub.takes req c 0x0604) ∧ (s.hub.inFog = false) ∧
      (s.hub.sw.damaged = [d]) ∧ (d.2.2 ≤ 2) ∧ (∀ b ∈ s.hub.allCells, b.damage = 0 ∧ b.descDamage = 0) ∧ (∀ j ∈ s.hub.allJobs,
      j.damage = 0)) ∧
    (∃ (s : State) (req : Path) (c : Fin 8) (args : Bytes), (s.hub.takes req c 0x0600) ∧ (s.hub.inFog = false) ∧
      (s.hub.clsWriteArgs args = none)) ∧
    (∃ (s : State) (req : Path) (c : Fin 8) (args : Bytes), (s.hub.takes req c 0x0600) ∧ (s.hub.inFog = false) ∧
      (s.hub.clsWriteArgs args = none)) ∧
    (∃ (s : State) (req : Path) (c : Fin 8) (args : Bytes), (s.hub.takes req c 0x0601) ∧ (s.hub.inFog = false) ∧ (args.length = 4)
      ∧ (field args 2 2 ≠ 0) ∧ (field args 0 2 + field args 2 2 ≤ 8192)) ∧
    (∃ (s : State) (req : Path) (c : Fin 8) (args : Bytes), (s.hub.takes req c 0x0602) ∧ (s.hub.inFog = false) ∧ (args.length = 3)
      ∧ (1 ≤ field args 2 1 ∧ field args 2 1 ≤ 15) ∧ (field args 0 2 + field args 2 1 ≤ 8192) ∧ (s.hub.sw.damaged = [])) ∧
    (∃ (s : State) (req : Path) (c : Fin 8) (args : Bytes), (s.hub.takes req c 0x0603) ∧ (s.hub.mode.active = .bench) ∧
      (args.length = 2) ∧ (field args 0 1 ≤ 5) ∧ (1 ≤ field args 1 1 ∧ field args 1 1 ≤ 3)) :=
  ⟨
    ⟨⟨{ up with sw := { up.sw with damaged := [(5, 7, 1)] } }, []⟩, (5, 7, 1), by decide +kernel⟩,
    ⟨⟨{ up with sw := { up.sw with damaged := [(5, 7, 3)] } }, []⟩, (5, 7, 3), by decide +kernel⟩,
    ⟨⟨{ up with sw := { up.sw with damaged := [(5, 7, 1)] } }, []⟩, .keeper, 0, (5, 7, 1), by decide +kernel⟩,
    ⟨⟨withTun canHub { tunCtx with state := .open }, []⟩, .keeper, 0, [4, 0, 1, 0, 5, 3, 0x20, 0xB0, 1, 0, 0, 0, 9, 0, 0, 0, 0, 0, 0, 0], by decide +kernel⟩,
    ⟨⟨up, []⟩, .keeper, 0, [4, 0, 1, 0, 5, 3, 0x20, 0x30, 1, 0, 0, 0, 9, 0, 0, 0, 0, 0, 0, 0], by decide +kernel⟩,
    ⟨⟨(up.setCls 4 ⟨true, []⟩).setCls 9 ⟨true, []⟩, []⟩, .keeper, 0, [3, 0, 2, 0], by decide +kernel⟩,
    ⟨⟨up.setCls 4 ⟨true, [5, 3, 0x20, 0x30]⟩, []⟩, .keeper, 0, [3, 0, 2], by decide +kernel⟩,
    ⟨⟨up, []⟩, .keeper, 0, [5, 2], by decide +kernel⟩⟩

theorem witness_encodersCountAndBearingsMove_1 :
    (∃ (s : State) (n : Fin 8) (a : Bool) (b : Bool), (s.hub.live) ∧ ((s.hub.encoder n).state ≠ .off) ∧ (s.hub.val (Od.encMode n)
      = 1) ∧ ((s.hub.encoder n).levelA ≠ a) ∧ ((s.hub.encoder n).levelB ≠ b)) ∧
    (∃ (s : State) (n : Fin 8) (a : Bool) (b : Bool), (s.hub.live) ∧ ((s.hub.encoder n).state ≠ .off) ∧ (s.hub.val (Od.encMode n)
      = 1) ∧ ((s.hub.encoder n).levelA ≠ a) ∧ ((s.hub.encoder n).levelB = b)) ∧
    (∃ (s : State) (n : Fin 8) (a : Bool) (b : Bool), (s.hub.live) ∧ ((s.hub.encoder n).state ≠ .off) ∧ (s.hub.val (Od.encMode n)
      = 1) ∧ ((s.hub.encoder n).levelA ≠ a) ∧ ((s.hub.encoder n).levelB = b)) ∧
    (∃ (s : State) (n : Fin 8) (a : Bool) (b : Bool), (s.hub.live) ∧ ((s.hub.encoder n).state ≠ .off) ∧ (s.hub.val (Od.encMode n)
      = 1) ∧ ((s.hub.encoder n).levelA = a) ∧ ((s.hub.encoder n).levelB ≠ b)) ∧
    (∃ (s : State) (n : Fin 8), (s.hub.live) ∧ ((s.hub.encoder n).state ≠ .off) ∧ (s.hub.val (Od.encMode n) = 3) ∧ ((s.hub.encoder
      n).levelA = false)) ∧
    (∃ (s : State) (n : Fin 8) (z : Bool), (s.hub.live) ∧ (z = true → (s.hub.encoder n).levelZ = true)) ∧
    (∃ (s : State) (n : Fin 8) (a : Bool), (s.hub.live) ∧ ((s.hub.encoder n).state = .running) ∧ (s.hub.val (Od.encMode n) = 1) ∧
      ((s.hub.encoder n).levelA ≠ a) ∧ (s.hub.feeds n = some 0) ∧ (s.hub.estimates = true)) ∧
    (∃ (s : State) (b : Fin 3), (s.hub.live) ∧ (s.hub.estimates = true) ∧ ((s.hub.bearing b).inputInUse.isSome = true) ∧
      ((s.hub.bearing b).still = false)) :=
  ⟨
    ⟨⟨(up.put (Od.encMode 2) 1).setEncoder 2 { EncSt.init with state := .running }, []⟩, 2, true, true, by decide +kernel⟩,
    ⟨⟨(up.put (Od.encMode 2) 1).setEncoder 2 { EncSt.init with state := .running }, []⟩, 2, true, false, by decide +kernel⟩,
    ⟨⟨((up.put (Od.encMode 2) 1).put (Od.encInvert 2) 1).setEncoder 2 { EncSt.init with state := .faulted }, []⟩, 2, true, false, by decide +kernel⟩,
    ⟨⟨(up.put (Od.encMode 2) 1).setEncoder 2 { EncSt.init with state := .running }, []⟩, 2, false, true, by decide +kernel⟩,
    ⟨⟨(up.put (Od.encMode 2) 3).setEncoder 2 { EncSt.init with state := .running }, []⟩, 2, by decide +kernel⟩,
    ⟨⟨(up.put (Od.encMode 2) 3).setEncoder 2 { EncSt.init with state := .running }, []⟩, 2, false, by decide +kernel⟩,
    ⟨⟨((up.put (Od.encMode 2) 1).setEncoder 2 { EncSt.init with state := .running }).setBearing 0 { BearingSt.init with inputInUse := some 2 }, []⟩, 2, true, by decide +kernel⟩,
    ⟨⟨up.setBearing 1 { BearingSt.init with inputInUse := some 2, still := false }, []⟩, 1, by decide +kernel⟩⟩

theorem witness_encodersCountAndBearingsMove_2 :
    (∃ (s : State) (f : Nat), (s.hub.live) ∧ (f + 2 = max (s.hub.bcn.seg + 1) (s.hub.clock / sfUnits))) ∧
    (∃ (s : State) (f : Nat) (b : Fin 3) (p : Int) (q : Int × Bool), (s.hub.live) ∧ (f + 2 = max (s.hub.bcn.seg + 1) (s.hub.clock
      / sfUnits)) ∧ ((s.hub.bearing b).state = .valid) ∧ (pointOf f (s.hub.bearing b).points = some (p, true)) ∧ (pointOf (f + 1)
      (s.hub.bearing b).points = some q)) ∧
    (∃ (s : State) (f : Nat) (b : Fin 3) (p : Int), (s.hub.live) ∧ (f + 2 = max (s.hub.bcn.seg + 1) (s.hub.clock / sfUnits)) ∧
      ((s.hub.bearing b).state = .valid) ∧ (pointOf f (s.hub.bearing b).points = some (p, true)) ∧ (pointOf (f + 1) (s.hub.bearing
      b).points = none) ∧ ((s.hub.bearing b).missing + 1 ≤ s.hub.val Od.bcnMaxHoldover)) ∧
    (∃ (s : State) (f : Nat) (b : Fin 3), (s.hub.live) ∧ (f + 2 = max (s.hub.bcn.seg + 1) (s.hub.clock / sfUnits)) ∧
      ((s.hub.bearing b).state = .holdover) ∧ (pointOf (f + 1) (s.hub.bearing b).points = none) ∧ (s.hub.val Od.bcnMaxHoldover <
      (s.hub.bearing b).missing + 1)) ∧
    (∃ (s : State), (s.hub.live)) :=
  ⟨
    ⟨⟨{ up with bcn := { up.bcn with seg := 1 } }, []⟩, 0, by decide +kernel⟩,
    ⟨⟨({ up with bcn := { up.bcn with seg := 1 } }).setBearing 1 { BearingSt.init with state := .valid, to_ := 4, points := [(1, 9, true), (0, 4, true)] }, []⟩, 0, 1, 4, (9, true), by decide +kernel⟩,
    ⟨⟨({ up with bcn := { up.bcn with seg := 1 } }).setBearing 1 { BearingSt.init with state := .valid, to_ := 4, points := [(0, 4, true)] }, []⟩, 0, 1, 4, by decide +kernel⟩,
    ⟨⟨({ up with bcn := { up.bcn with seg := 1 } }).setBearing 1 { BearingSt.init with state := .holdover, to_ := 4, missing := 1000000 }, []⟩, 0, 1, by decide +kernel⟩,
    ⟨⟨{ up with clock := 99 }, []⟩, by decide +kernel⟩⟩

theorem witness_probesMeasureAndTheTimebaseLocks_1 :
    (∃ (s : State) (p : Fin 3), (s.hub.live) ∧ (s.hub.running p = true) ∧ ((s.hub.link p).paced < s.hub.paceLimit p)) ∧
    (∃ (s : State) (p : Fin 3), (s.hub.live) ∧ (s.hub.running p = true) ∧ (s.hub.paceLimit p ≤ (s.hub.link p).paced) ∧
      (s.hub.linesStand)) ∧
    (∃ (s : State) (p : Fin 3) (seq : Fin 16) (t1 : Nat), (s.hub.live) ∧ ((s.hub.probe p).out = some (seq.val, t1)) ∧
      ((s.hub.probe p).commands = [])) ∧
    (∃ (s : State) (p : Fin 3) (seq : Fin 16) (turn : Word) (lapse : Word) (t1 : Nat) (v : Int), (s.hub.live) ∧ ((s.hub.probe
      p).out = some (seq.val, t1)) ∧ ((s.hub.probe p).commands = []) ∧ (v = 5 * ((((s.hub.pass lapse.toNat).clock - t1 : Nat) :
      Int) - turn.toNat) + toSigned 32 (s.hub.val (Od.prbAsymTrim p))) ∧ ((s.hub.probe p).values = [] ∨ (v - (s.hub.probe
      p).mean).natAbs ≤ 200)) ∧
    (∃ (s : State) (p : Fin 3) (seq : Fin 16) (turn : Word) (lapse : Word) (t1 : Nat) (v : Int), (s.hub.live) ∧ ((s.hub.probe
      p).out = some (seq.val, t1)) ∧ ((s.hub.probe p).commands = []) ∧ (v = 5 * ((((s.hub.pass lapse.toNat).clock - t1 : Nat) :
      Int) - turn.toNat) + toSigned 32 (s.hub.val (Od.prbAsymTrim p))) ∧ ((s.hub.probe p).values ≠ []) ∧ (200 < (v - (s.hub.probe
      p).mean).natAbs)) ∧
    (∃ (s : State) (p : Fin 3) (seq : Fin 16), (s.hub.live) ∧ (∀ t ∈ (s.hub.probe p).out, t.1 ≠ seq.val)) ∧
    (∃ (s : State), (s.hub.live)) ∧
    (∃ (s : State) (p : Nat) (e : Int), (s.hub.live) ∧ (s.hub.followPort = some p) ∧ (s.hub.bcn.correction = some e) ∧
      (s.hub.bcn.timebase = .acquiring) ∧ (4 ≤ s.hub.bcn.acceptedRun) ∧ ((s.hub.probe p).upLocked = true) ∧ (s.hub.bcn.sampleFull =
      true) ∧ (s.hub.bcn.slew = 0) ∧ (0 ≤ e)) :=
  ⟨
    ⟨⟨linked (lighthouse up), []⟩, 0, by decide +kernel⟩,
    ⟨⟨(linked (lighthouse up)).updLink 0 (fun x => { x with paced := 7 }), []⟩, 0, by decide +kernel⟩,
    ⟨⟨{ (linked up).setProbe 0 { ProbeSt.init with out := some (5, 10) } with clock := 900 }, []⟩, 0, 5, 10, by decide +kernel⟩,
    ⟨⟨{ (linked up).setProbe 0 { ProbeSt.init with out := some (5, 10) } with clock := 900 }, []⟩, 0, 5, 20, 3, 10, 4365, by decide +kernel⟩,
    ⟨⟨{ (linked up).setProbe 0 { ProbeSt.init with out := some (5, 10), values := [9] } with clock := 900 }, []⟩, 0, 5, 20, 3, 10, 4365, by decide +kernel⟩,
    ⟨⟨(linked up).setProbe 0 { ProbeSt.init with out := some (5, 10) }, []⟩, 0, 6, by decide +kernel⟩,
    ⟨⟨linked up, []⟩, by decide +kernel⟩,
    ⟨⟨{ relay.setProbe 0 { ProbeSt.init with upLocked := true } with bcn := { (relay.setProbe 0 { ProbeSt.init with upLocked := true }).bcn with timebase := .acquiring, acceptedRun := 4, sampleFull := true, correction := some 70 } }, []⟩, 0, 70, by decide +kernel⟩⟩

theorem witness_probesMeasureAndTheTimebaseLocks_2 :
    (∃ (s : State) (p : Nat) (e : Int), (s.hub.live) ∧ (s.hub.followPort = some p) ∧ (s.hub.bcn.correction = some e) ∧
      (s.hub.bcn.timebase = .acquiring) ∧ (4 ≤ s.hub.bcn.acceptedRun) ∧ ((s.hub.probe p).upLocked = true) ∧ (s.hub.bcn.sampleFull =
      true) ∧ (s.hub.bcn.slew = 0) ∧ (e < 0)) ∧
    (∃ (s : State), (s.hub.live) ∧ (s.hub.bcn.timebase ≠ .acquiring)) ∧
    (∃ (s : State) (req : Path) (c : Fin 8) (b : Byte), (s.hub.takes req c 0x0700) ∧ (b.toNat ≤ 2) ∧ (s.hub.isSource = true) ∧
      (s.hub.sourceLost b.toNat = false)) ∧
    (∃ (s : State) (req : Path) (c : Fin 8) (b : Byte), (s.hub.takes req c 0x0700) ∧ (b.toNat ≤ 2) ∧ (s.hub.isSource = true) ∧
      (s.hub.sourceLost b.toNat = true)) ∧
    (∃ (s : State) (req : Path) (c : Fin 8) (args : Bytes), (s.hub.takes req c 0x0701) ∧ (args.length = 8) ∧ (s.hub.clock + 10000
      ≤ field args 0 8 * 10) ∧ (field args 0 8 * 10 ≤ s.hub.clock + 100000000000)) ∧
    (∃ (s : State) (x : Capture), (s.hub.live) ∧ (s.hub.bcn.captures = [x]) ∧ (x.channel < 8) ∧ ((s.hub.chan x.channel).state =
      .running)) ∧
    (∃ (s : State) (req : Path) (c : Fin 8) (p : Fin 3), (s.hub.takes req c 0x0702) ∧ (s.hub.running p = true) ∧ ((s.hub.probe
      p).command = none) ∧ ((s.hub.probe p).commands = [])) ∧
    (∃ (s : State) (req : Path) (c : Fin 8) (p : Fin 3) (other : Nat), (s.hub.takes req c 0x0702) ∧ (s.hub.running p = true) ∧
      ((s.hub.probe p).command = some other)) :=
  ⟨
    ⟨⟨{ relay.setProbe 0 { ProbeSt.init with upLocked := true } with bcn := { (relay.setProbe 0 { ProbeSt.init with upLocked := true }).bcn with timebase := .acquiring, acceptedRun := 4, sampleFull := true, correction := some (-70) } }, []⟩, 0, -70, by decide +kernel⟩,
    ⟨⟨linked (lighthouse up), []⟩, by decide +kernel⟩,
    ⟨⟨lighthouse up, []⟩, .keeper, 0, 1, by decide +kernel⟩,
    ⟨⟨((lighthouse up).put (Od.srcPrimary 1) 2).setEncoder 2 { EncSt.init with state := .faulted }, []⟩, .keeper, 0, 1, by decide +kernel⟩,
    ⟨⟨up, []⟩, .keeper, 0, [0, 16, 0, 0, 0, 0, 0, 0], by decide +kernel⟩,
    ⟨⟨{ up.accept 3 0x0701 9 [] with bcn := { up.bcn with captures := [⟨4096, 3⟩] } }, []⟩, ⟨4096, 3⟩, by decide +kernel⟩,
    ⟨⟨linked (lighthouse up), []⟩, .keeper, 0, 0, by decide +kernel⟩,
    ⟨⟨(linked (lighthouse up)).setProbe 0 { ProbeSt.init with command := some 3 }, []⟩, .keeper, 0, 0, 3, by decide +kernel⟩⟩

theorem witness_probesMeasureAndTheTimebaseLocks_3 :
    (∃ (s : State) (p : Fin 3) (c : Nat), (s.hub.live) ∧ ((s.hub.probe p).command = some c) ∧ (c < 8) ∧ ((s.hub.chan c).state =
      .running)) :=
    ⟨⟨(up.accept 3 0x0702 9 []).setProbe 0 { ProbeSt.init with command := some 3 }, []⟩, 0, 3, by decide +kernel⟩

theorem witness_daymarksArePostedCancelledAndFired_1 :
    (∃ (s : State) (req : Path) (c : Fin 8) (e : Bytes) (slot : Nat) (d : Daymark), (s.hub.takes req c 0x0703) ∧ (e.length = 32) ∧
      (s.hub.dmStates = none) ∧ (s.hub.dmCheck e = none) ∧ (dmReserved e = none) ∧ (s.hub.slotFor = some slot) ∧ (d = ⟨slot, 0, e,
      false, none, none, 0, false, 0, none, none⟩) ∧ (s.hub.bearingNow d.bearing < d.target) ∧ (∀ i ∈ s.hub.crossingKnown d.bearing
      d.target, (s.hub.clock : Int) + 5000 ≤ (i : Int) + s.hub.lampOffset d)) ∧
    (∃ (s : State) (req : Path) (c : Fin 8) (e : Bytes) (slot : Nat) (d : Daymark), (s.hub.takes req c 0x0703) ∧ (e.length = 32) ∧
      (s.hub.mirroring = false) ∧ (s.hub.dmStates = none) ∧ (s.hub.dmCheck e = none) ∧ (dmReserved e = none) ∧ (s.hub.slotFor =
      some slot) ∧ (d = ⟨slot, 0, e, false, none, none, 0, false, 0, none, none⟩) ∧ (d.target ≤ s.hub.bearingNow d.bearing) ∧ (bit
      0 d.flags = true)) ∧
    (∃ (s : State) (req : Path) (c : Fin 8) (e : Bytes) (slot : Nat) (d : Daymark), (s.hub.takes req c 0x0703) ∧ (e.length = 32) ∧
      (s.hub.mirroring = false) ∧ (s.hub.dmStates = none) ∧ (s.hub.dmCheck e = none) ∧ (dmReserved e = none) ∧ (s.hub.slotFor =
      some slot) ∧ (d = ⟨slot, 0, e, false, none, none, 0, false, 0, none, none⟩) ∧ (d.target ≤ s.hub.bearingNow d.bearing) ∧ (bit
      0 d.flags = false) ∧ (d.action = 7)) ∧
    (∃ (s : State) (req : Path) (c : Fin 8) (e : Bytes) (a : Abort), (s.hub.takes req c 0x0703) ∧ (e.length = 32) ∧
      (s.hub.mirroring = false) ∧ (s.hub.dmStates = none) ∧ (s.hub.dmCheck e = some a)) ∧
    (∃ (s : State) (req : Path) (c : Fin 8) (hd : BitVec 16) (d : Daymark), (s.hub.takes req c 0x0704) ∧ (s.hub.dmStates = none) ∧
      (s.hub.daymark? hd.toNat = some d) ∧ (s.hub.dmTooLate d = false)) ∧
    (∃ (s : State) (req : Path) (c : Fin 8) (hd : BitVec 16) (d : Daymark), (s.hub.takes req c 0x0704) ∧ (s.hub.dmStates = none) ∧
      (s.hub.mirroring = false) ∧ (s.hub.daymark? hd.toNat = some d) ∧ (s.hub.dmTooLate d = true)) ∧
    (∃ (s : State) (req : Path) (c : Fin 8) (hd : BitVec 16), (s.hub.takes req c 0x0704) ∧ (s.hub.dmStates = none) ∧
      (s.hub.mirroring = false) ∧ (s.hub.daymark? hd.toNat = none)) ∧
    (∃ (s : State) (req : Path) (c : Fin 8) (hd : BitVec 16) (d : Daymark), (s.hub.takes req c 0x0705) ∧ (s.hub.daymark? hd.toNat
      = some d)) :=
  ⟨
    ⟨⟨marks (lighthouse up) [], []⟩, .keeper, 0, dmBytes 5000 0 3 7 0 0xFF, 0, ⟨0, 0, dmBytes 5000 0 3 7 0 0xFF, false, none, none, 0, false, 0, none, none⟩, by decide +kernel⟩,
    ⟨⟨{ marks (lighthouse up) [] with clock := 100000 }, []⟩, .keeper, 0, dmBytes 5000 0 3 7 1 0xFF, 0, ⟨0, 0, dmBytes 5000 0 3 7 1 0xFF, false, none, none, 0, false, 0, none, none⟩, by decide +kernel⟩,
    ⟨⟨{ marks (lighthouse up) [] with clock := 100000 }, []⟩, .keeper, 0, dmBytes 5000 0 3 7 0 0xFF, 0, ⟨0, 0, dmBytes 5000 0 3 7 0 0xFF, false, none, none, 0, false, 0, none, none⟩, by decide +kernel⟩,
    ⟨⟨marks up [], []⟩, .keeper, 0, dmBytes 5000 0 3 10 0 0xFF, abArg 17, by decide +kernel⟩,
    ⟨⟨marks up [mark (dmBytes 5000 0 3 7 0 0xFF) false], []⟩, .keeper, 0, 6144, mark (dmBytes 5000 0 3 7 0 0xFF) false, by decide +kernel⟩,
    ⟨⟨{ marks up [mark (dmBytes 5000 0 3 7 0 0xFF) false] with clock := 49000 }, []⟩, .keeper, 0, 6144, mark (dmBytes 5000 0 3 7 0 0xFF) false, by decide +kernel⟩,
    ⟨⟨marks up [], []⟩, .keeper, 0, 6144, by decide +kernel⟩,
    ⟨⟨marks up [mark (dmBytes 5000 0 3 7 0 0xFF) false], []⟩, .keeper, 0, 6144, mark (dmBytes 5000 0 3 7 0 0xFF) false, by decide +kernel⟩⟩

theorem witness_daymarksArePostedCancelledAndFired_2 :
    (∃ (s : State) (e : Bytes) (a : Abort), (s.hub.live) ∧ (s.hub.dmStates = none) ∧ (e = ((List.range 8).map (fun k => u32
      (s.hub.reg (Rg.dmPost k)))).flatten) ∧ (s.hub.dmCheck e = some a)) ∧
    (∃ (s : State) (e : Bytes) (slot : Nat) (d : Daymark), (s.hub.live) ∧ (s.hub.dmStates = none) ∧ (e = ((List.range 8).map (fun
      k => u32 (s.hub.reg (Rg.dmPost k)))).flatten) ∧ (s.hub.dmCheck e = none) ∧ (dmReserved e = none) ∧ (s.hub.slotFor = some
      slot) ∧ (d = ⟨slot, 0, e, false, none, none, 0, false, 0, none, none⟩) ∧ (s.hub.bearingNow d.bearing < d.target) ∧ (∀ i ∈
      s.hub.crossingKnown d.bearing d.target, (s.hub.clock : Int) + 5000 ≤ (i : Int) + s.hub.lampOffset d)) ∧
    (∃ (s : State) (x : OutSeg) (l : List OutSeg) (e : Bytes) (slot : Nat) (d : Daymark), (s.hub.live) ∧ (s.hub.outQ 30 = x :: l)
      ∧ (e.length = 32) ∧ (x.data = [1, 1, 5, 0, 0, 0, 0, 0] ++ e) ∧ (s.hub.producerWaits x.ctx 16 = false) ∧ (s.hub.dmCheck e =
      none) ∧ (dmReserved e = none) ∧ (s.hub.slotFor = some slot) ∧ (d = ⟨slot, 0, e, false, none, some (s.hub.handle x.ctx), 0,
      false, 0, none, none⟩) ∧ (s.hub.bearingNow d.bearing < d.target) ∧ (∀ i ∈ s.hub.crossingKnown d.bearing d.target,
      (s.hub.clock : Int) + 5000 ≤ (i : Int) + s.hub.lampOffset d)) ∧
    (∃ (s : State) (x : OutSeg) (l : List OutSeg), (s.hub.live) ∧ (s.hub.outQ 30 = x :: l) ∧ (field x.data 0 1 = 1) ∧
      (x.data.length ≠ 8 + 32 * field x.data 1 1)) ∧
    (∃ (s : State) (x : OutSeg) (l : List OutSeg) (hd : BitVec 16) (d : Daymark), (s.hub.live) ∧ (s.hub.outQ 30 = x :: l) ∧
      (x.data = [2, 1, 5, 0, 0, 0, 0, 0] ++ u16 hd.toNat) ∧ (s.hub.producerWaits x.ctx 16 = false) ∧ (s.hub.daymark? hd.toNat =
      some d) ∧ (s.hub.dmTooLate d = false)) ∧
    (∃ (s : State) (d : Daymark) (i : Nat) (t : Nat), (s.hub.live) ∧ (s.hub.dmFirst false s.hub.dm.slots = some (d, i, t, false))
      ∧ (s.hub.crossingLate d = false) ∧ (d.action = 7)) ∧
    (∃ (s : State) (d : Daymark) (i : Nat) (t : Nat), (s.hub.live) ∧ (s.hub.dmFirst false s.hub.dm.slots = some (d, i, t, false))
      ∧ (s.hub.crossingLate d = false) ∧ (d.action = 1 ∨ d.action = 2) ∧ (d.early = none)) ∧
    (∃ (s : State) (d : Daymark) (i : Nat) (t : Nat), (s.hub.live) ∧ (s.hub.dmFirst false s.hub.dm.slots = some (d, i, t, false))
      ∧ (s.hub.crossingLate d = false) ∧ (d.action = 1 ∨ d.action = 2) ∧ (d.early = none)) :=
  ⟨
    ⟨⟨{ up with dm := { up.dm with postEvtEn := true } }, []⟩, List.replicate 32 0, abArg 16, by decide +kernel⟩,
    ⟨⟨((marks (lighthouse up) []).putReg (Rg.dmPost 0) 5000).putReg (Rg.dmPost 4) 0xFF000703, []⟩, (dmBytes 5000 0 3 7 0 0xFF).take 20 ++ u32 0 ++ u32 0 ++ u32 0, 0, ⟨0, 0, (dmBytes 5000 0 3 7 0 0xFF).take 20 ++ u32 0 ++ u32 0 ++ u32 0, false, none, none, 0, false, 0, none, none⟩, by decide +kernel⟩,
    ⟨⟨(marks (lighthouse up) []).setOutQ 30 [⟨5, 1, 0x80000000, false, [1, 1, 5, 0, 0, 0, 0, 0] ++ dmBytes 5000 0 3 7 0 0xFF⟩], []⟩, ⟨5, 1, 0x80000000, false, [1, 1, 5, 0, 0, 0, 0, 0] ++ dmBytes 5000 0 3 7 0 0xFF⟩, [], dmBytes 5000 0 3 7 0 0xFF, 0, ⟨0, 0, dmBytes 5000 0 3 7 0 0xFF, false, none, some (up.handle 5), 0, false, 0, none, none⟩, by decide +kernel⟩,
    ⟨⟨up.setOutQ 30 [⟨5, 1, 0x80000000, false, [1, 1, 5, 0, 0, 0, 0, 0]⟩], []⟩, ⟨5, 1, 0x80000000, false, [1, 1, 5, 0, 0, 0, 0, 0]⟩, [], by decide +kernel⟩,
    ⟨⟨(marks up [mark (dmBytes 5000 0 3 7 0 0xFF) false]).setOutQ 30 [⟨5, 1, 0x80000000, false, [2, 1, 5, 0, 0, 0, 0, 0] ++ u16 6144⟩], []⟩, ⟨5, 1, 0x80000000, false, [2, 1, 5, 0, 0, 0, 0, 0] ++ u16 6144⟩, [], 6144, mark (dmBytes 5000 0 3 7 0 0xFF) false, by decide +kernel⟩,
    ⟨⟨marks (lighthouse up) [mark (dmBytes 5000 0 3 7 0 0xFF) false], []⟩, mark (dmBytes 5000 0 3 7 0 0xFF) false, 50000, 50000, by decide +kernel⟩,
    ⟨⟨marks (lampOn (lighthouse up) 3 LampSt.init) [mark (dmBytes 5000 0 3 1 0 3) false], []⟩, mark (dmBytes 5000 0 3 1 0 3) false, 50000, 50000, by decide +kernel⟩,
    ⟨⟨marks (lighthouse up) [mark (dmBytes 5000 0 3 2 0 3) false], []⟩, mark (dmBytes 5000 0 3 2 0 3) false, 50000, 50000, by decide +kernel⟩⟩

theorem witness_daymarksArePostedCancelledAndFired_3 :
    (∃ (s : State) (d : Daymark) (i : Nat) (t : Nat), (s.hub.live) ∧ (s.hub.dmFirst false s.hub.dm.slots = some (d, i, t, false))
      ∧ (s.hub.crossingLate d = true) ∧ (bit 0 d.flags = true)) ∧
    (∃ (s : State) (d : Daymark) (i : Nat) (t : Nat), (s.hub.live) ∧ (s.hub.dmFirst false s.hub.dm.slots = some (d, i, t, true))) :=
  ⟨
    ⟨⟨marks up [mark (dmBytes 5000 0 3 7 1 0xFF) false], []⟩, mark (dmBytes 5000 0 3 7 1 0xFF) false, 50000, 50000, by decide +kernel⟩,
    ⟨⟨(marks (lampOn (lighthouse up) 3 LampSt.init) [mark (dmBytes 5000 0 3 1 0 3) false]).put (Od.lampOffset 3) 0xFFFFFC18, []⟩, mark (dmBytes 5000 0 3 1 0 3) false, 50000, 40000, by decide +kernel⟩⟩

theorem witness_lampsAreDrivenMadeSafeAndReleased_1 :
    (∃ (s : State) (l : Fin 24) (t : Nat), (s.hub.live) ∧ ((s.hub.lamp l).pulseEnds.min? = some t)) ∧
    (∃ (s : State) (d : Daymark) (i : Nat) (t : Nat), (s.hub.live) ∧ (s.hub.dmFirst true s.hub.dm.slots = some (d, i, t, false)) ∧
      (d.early = none) ∧ ((s.hub.lamp d.lamp).state = .active)) ∧
    (∃ (s : State) (d : Daymark) (t : Nat), (s.hub.live) ∧ (firstTimeout (s.hub.dm.slots.filter (fun x => !x.shadow &&
      x.trailing)) = some (d, t))) ∧
    (∃ (s : State) (l : Fin 24) (t : Nat) (v : Bool) (rest : List (Nat × Bool)), (s.hub.live) ∧ ((s.hub.lamp l).edges = (t, v) ::
      rest) ∧ (v ≠ (s.hub.lamp l).level)) ∧
    (∃ (s : State) (l : Fin 24) (t : Nat) (v : Bool) (rest : List (Nat × Bool)), (s.hub.live) ∧ ((s.hub.lamp l).edges = (t, v) ::
      rest) ∧ (v ≠ (s.hub.lamp l).level)) ∧
    (∃ (s : State) (l : Fin 24) (t : Nat) (v : Bool) (rest : List (Nat × Bool)), (s.hub.live) ∧ ((s.hub.lamp l).edges = (t, v) ::
      rest) ∧ (v = (s.hub.lamp l).level)) ∧
    (∃ (s : State), (s.hub.live)) ∧
    (∃ (s : State) (hd : Nat) (r : Bytes) (l : List (Nat × Bytes)), (s.hub.live) ∧ (s.hub.dm.fired = (hd, r) :: l) ∧
      ((s.hub.dm.fired.filter (fun x => decide (x.1 = hd))).length ≤ 80) ∧ (s.hub.cmdLive hd = true → s.hub.producerWaits (hd %
      256) (8 + ((s.hub.dm.fired.filter (fun x => decide (x.1 = hd))).flatMap (·.2)).length) = false)) :=
  ⟨
    ⟨⟨lampOn up 3 { LampSt.init with level := true, pulseEnds := [70, 50] }, []⟩, 3, 50, by decide +kernel⟩,
    ⟨⟨(marks (lampOn (lighthouse up) 3 { LampSt.init with level := true }) [mark (dmBytes 500 100 0 4 0 3) true]).setBearing 0 { BearingSt.init with state := .valid, from_ := 550, to_ := 700 }, []⟩, mark (dmBytes 500 100 0 4 0 3) true, 993963, 993963, by decide +kernel⟩,
    ⟨⟨marks (lampOn (lighthouse up) 3 { LampSt.init with level := true }) [{ mark (dmBytes 500 100 0 4 0 3) true with timeoutAt := some 90 }], []⟩, { mark (dmBytes 500 100 0 4 0 3) true with timeoutAt := some 90 }, 90, by decide +kernel⟩,
    ⟨⟨lampOn up 3 { LampSt.init with edges := [(60, true)] }, []⟩, 3, 60, true, [], by decide +kernel⟩,
    ⟨⟨lampOn up 3 { LampSt.init with edges := [(60, true)], lastEdge := some 10 }, []⟩, 3, 60, true, [], by decide +kernel⟩,
    ⟨⟨lampOn up 3 { LampSt.init with edges := [(60, false)] }, []⟩, 3, 60, false, [], by decide +kernel⟩,
    ⟨⟨up, []⟩, by decide +kernel⟩,
    ⟨⟨{ up with dm := { up.dm with fired := [(0x305, [1]), (9, [3]), (0x305, [2])] } }, []⟩, 0x305, [1], [(9, [3]), (0x305, [2])], by decide +kernel⟩⟩

theorem witness_lampsAreDrivenMadeSafeAndReleased_2 :
    (∃ (s : State) (req : Path) (c : Fin 8), (s.hub.takes req c 0x0706) ∧ (s.hub.inFog = false) ∧ (s.hub.standby = false)) ∧
    (∃ (s : State) (req : Path) (c : Fin 8) (mask : Word), (s.hub.takes req c 0x0707) ∧ (mask.toNat < 2 ^ 24)) ∧
    (∃ (s : State) (req : Path) (c : Fin 8) (mask : Word), (s.hub.takes req c 0x0707) ∧ (mask.toNat < 2 ^ 24)) ∧
    (∃ (s : State) (req : Path) (c : Fin 8) (mask : Word), (s.hub.takes req c 0x0707) ∧ (mask.toNat < 2 ^ 24)) :=
  ⟨
    ⟨⟨lampOn up 3 LampSt.init, []⟩, .keeper, 0, by decide +kernel⟩,
    ⟨⟨up.setLamp 3 { LampSt.init with state := .safe, safeCause := 0 }, []⟩, .keeper, 0, 24, by decide +kernel⟩,
    ⟨⟨lampOn up 3 { LampSt.init with level := true, edges := [(60, false)] }, []⟩, .keeper, 0, 24, by decide +kernel⟩,
    ⟨⟨lampOn (linked up) 3 { LampSt.init with level := true, edges := [(60, false)] }, []⟩, .keeper, 0, 24, by decide +kernel⟩⟩

theorem witness_ethernetFramesEnterAndLeaveTunnels_1 :
    (∃ (s : State) (n : Fin 8), (s.hub.live) ∧ (s.hub.ethRuns n = false ∨ (s.hub.eth n).link = 0)) ∧
    (∃ (s : State) (n : Fin 8) (f : Bytes) (fcsOk : Bool), (s.hub.live) ∧ (fcsOk = false ∨ f.length + 4 < 64 ∨ s.hub.val
      (Od.ethMaxFrame n) < f.length + 4)) ∧
    (∃ (s : State) (n : Fin 8) (f : Bytes) (fcsOk : Bool), (s.hub.live) ∧ (fcsOk = false ∨ f.length + 4 < 64 ∨ s.hub.val
      (Od.ethMaxFrame n) < f.length + 4)) ∧
    (∃ (s : State) (n : Fin 8) (f : Bytes) (fcsOk : Bool), (s.hub.live) ∧ (fcsOk = false ∨ f.length + 4 < 64 ∨ s.hub.val
      (Od.ethMaxFrame n) < f.length + 4)) ∧
    (∃ (s : State) (n : Fin 8) (f : Bytes) (k : Nat) (i : Nat) (e : ClsEntry) (seg : Bytes) (yellow : Bool), (s.hub.live) ∧
      (s.hub.ethRuns n = true) ∧ ((s.hub.eth n).link ≠ 0) ∧ (64 ≤ f.length + 4) ∧ (f.length + 4 ≤ s.hub.val (Od.ethMaxFrame n)) ∧
      (beField f 12 2 ≠ 0x8808) ∧ (s.hub.plainIn (n + 3)) ∧ (clsWinner (0x10 + n) (.eth (beField f 0 6) (if ethTagged f then some
      (beField f 14 2 % 4096) else none)) s.hub.sw.cls.cells = some (k, e)) ∧ (s.hub.live? e.handle = some i) ∧ (seg = u8 (b2n (bit
      18 (selector (s.hub.ctx i).localBind))) ++ u8 n ++ f ++ (if bit 18 (selector (s.hub.ctx i).localBind) then u64 (s.hub.stamp
      (s.hub.val (Od.ethTsIngressTrim n))) else [])) ∧ (s.hub.stageRoom (n + 3) (f.length + 2) = true) ∧ (s.hub.stageRoom (n + 3)
      seg.length = true) ∧ (yellow = (decide (s.hub.val (Od.ethDeiYellow n) = 1) && (ethTagged f && bit 12 (beField f 14 2)))) ∧
      (s.hub.takesIn i)) ∧
    (∃ (s : State) (n : Fin 8) (f : Bytes) (k : Nat) (i : Nat) (e : ClsEntry) (seg : Bytes) (yellow : Bool), (s.hub.live) ∧
      (s.hub.ethRuns n = true) ∧ ((s.hub.eth n).link ≠ 0) ∧ (64 ≤ f.length + 4) ∧ (f.length + 4 ≤ s.hub.val (Od.ethMaxFrame n)) ∧
      (beField f 12 2 ≠ 0x8808) ∧ (s.hub.plainIn (n + 3)) ∧ (clsWinner (0x10 + n) (.eth (beField f 0 6) (if ethTagged f then some
      (beField f 14 2 % 4096) else none)) s.hub.sw.cls.cells = some (k, e)) ∧ (s.hub.live? e.handle = some i) ∧ (seg = u8 (b2n (bit
      18 (selector (s.hub.ctx i).localBind))) ++ u8 n ++ f ++ (if bit 18 (selector (s.hub.ctx i).localBind) then u64 (s.hub.stamp
      (s.hub.val (Od.ethTsIngressTrim n))) else [])) ∧ (s.hub.stageRoom (n + 3) (f.length + 2) = true) ∧ (s.hub.stageRoom (n + 3)
      seg.length = true) ∧ (yellow = (decide (s.hub.val (Od.ethDeiYellow n) = 1) && (ethTagged f && bit 12 (beField f 14 2)))) ∧
      (s.hub.takesIn i)) ∧
    (∃ (s : State) (n : Fin 8) (f : Bytes), (s.hub.live) ∧ (s.hub.ethRuns n = true) ∧ ((s.hub.eth n).link ≠ 0) ∧ (64 ≤ f.length +
      4) ∧ (f.length + 4 ≤ s.hub.val (Od.ethMaxFrame n)) ∧ (beField f 12 2 ≠ 0x8808) ∧ (s.hub.plainIn (n + 3)) ∧ (clsWinner (0x10 +
      n) (.eth (beField f 0 6) (if ethTagged f then some (beField f 14 2 % 4096) else none)) s.hub.sw.cls.cells = none) ∧
      (s.hub.stageRoom (n + 3) (f.length + 2) = true)) ∧
    (∃ (s : State) (n : Fin 8) (f : Bytes), (s.hub.live) ∧ (s.hub.ethRuns n = true) ∧ ((s.hub.eth n).link ≠ 0) ∧ (64 ≤ f.length +
      4) ∧ (f.length + 4 ≤ s.hub.val (Od.ethMaxFrame n)) ∧ (beField f 12 2 ≠ 0x8808) ∧ (s.hub.stageRoom (n + 3) (f.length + 2) =
      false)) :=
  ⟨
    ⟨⟨up, []⟩, 2, by decide +kernel⟩,
    ⟨⟨ethOn up, []⟩, 2, frame60, false, by decide +kernel⟩,
    ⟨⟨ethOn up, []⟩, 2, frame60.drop 1, true, by decide +kernel⟩,
    ⟨⟨ethOn up, []⟩, 2, frame60 ++ List.replicate 1459 0, true, by decide +kernel⟩,
    ⟨⟨ethOn ((openAt 0x12000000).setCls 9 ethKey), []⟩, 2, frame60, 9, 5, ethKey, [0, 2] ++ frame60, false, by decide +kernel⟩,
    ⟨⟨{ ethOn ((openAt 0x12040000).setCls 9 ethKey) with clock := 70000 }, []⟩, 2, frame60, 9, 5, ethKey, [1, 2] ++ frame60 ++ u64 7000, false, by decide +kernel⟩,
    ⟨⟨ethOn up, []⟩, 2, frame60, by decide +kernel⟩,
    ⟨⟨{ ethOn up with sw := { up.sw with stageIn := up.sw.stageIn.set 0 5 10000000 } }, []⟩, 2, frame60, by decide +kernel⟩⟩

theorem witness_ethernetFramesEnterAndLeaveTunnels_2 :
    (∃ (s : State) (n : Fin 8) (x : OutSeg) (l : List OutSeg) (t : Bytes) (f : Bytes), (s.hub.live) ∧ (s.hub.outQ (n + 3) = x ::
      l) ∧ (s.hub.loopOn (5 + n) = false) ∧ (t = tagFrame (selector x.bind) (if bit 0 (field x.data 0 1) then (x.data.drop 2).take
      ((x.data.drop 2).length - 8) else x.data.drop 2)) ∧ (f = t ++ List.replicate (60 - t.length) 0) ∧ (f.length + 4 ≤ s.hub.val
      (Od.ethMaxFrame n))) ∧
    (∃ (s : State) (n : Fin 8) (x : OutSeg) (l : List OutSeg) (t : Bytes) (f : Bytes), (s.hub.live) ∧ (s.hub.outQ (n + 3) = x ::
      l) ∧ (s.hub.loopOn (5 + n) = false) ∧ (t = tagFrame (selector x.bind) (if bit 0 (field x.data 0 1) then (x.data.drop 2).take
      ((x.data.drop 2).length - 8) else x.data.drop 2)) ∧ (f = t ++ List.replicate (60 - t.length) 0) ∧ (f.length + 4 ≤ s.hub.val
      (Od.ethMaxFrame n))) ∧
    (∃ (s : State) (n : Fin 8) (x : OutSeg) (l : List OutSeg) (t : Bytes) (f : Bytes), (s.hub.live) ∧ (s.hub.outQ (n + 3) = x ::
      l) ∧ (t = tagFrame (selector x.bind) (if bit 0 (field x.data 0 1) then (x.data.drop 2).take ((x.data.drop 2).length - 8) else
      x.data.drop 2)) ∧ (f = t ++ List.replicate (60 - t.length) 0) ∧ (s.hub.val (Od.ethMaxFrame n) < f.length + 4)) ∧
    (∃ (s : State) (n : Fin 8) (link : Fin 5), (s.hub.live) ∧ (s.hub.ethRuns n = true) ∧ (link.val ≠ (s.hub.eth n).link)) ∧
    (∃ (s : State) (req : Path) (c : Fin 8) (k : Fin 16), (s.hub.takes req c 0x0800) ∧ (s.hub.inFog = false) ∧ (k.val ≠ 0)) :=
  ⟨
    ⟨⟨up.setOutQ 5 [⟨5, 1, 0x12000000, false, [0, 2] ++ frame60.take 20⟩], []⟩, 2, ⟨5, 1, 0x12000000, false, [0, 2] ++ frame60.take 20⟩, [], frame60.take 20, frame60.take 20 ++ List.replicate 40 0, by decide +kernel⟩,
    ⟨⟨up.setOutQ 5 [⟨5, 1, 0x12000000, false, [0, 2] ++ frame60.take 12 ++ [0x88, 0xF7] ++ List.replicate 46 2⟩], []⟩, 2, ⟨5, 1, 0x12000000, false, [0, 2] ++ frame60.take 12 ++ [0x88, 0xF7] ++ List.replicate 46 2⟩, [], frame60.take 12 ++ [0x88, 0xF7] ++ List.replicate 46 2, frame60.take 12 ++ [0x88, 0xF7] ++ List.replicate 46 2, by decide +kernel⟩,
    ⟨⟨(up.setOutQ 5 [⟨5, 1, 0x12020007, false, [0, 2] ++ frame60⟩]).put (Od.ethMaxFrame 2) 64, []⟩, 2, ⟨5, 1, 0x12020007, false, [0, 2] ++ frame60⟩, [], frame60.take 12 ++ [0x81, 0, 0, 7] ++ frame60.drop 12, frame60.take 12 ++ [0x81, 0, 0, 7] ++ frame60.drop 12, by decide +kernel⟩,
    ⟨⟨ethOn (up.setOutQ 5 [⟨5, 1, 0x12000000, false, [0, 2]⟩]), []⟩, 2, 0, by decide +kernel⟩,
    ⟨⟨up.setEth 2 { EthSt.init with ts := [u64 1 ++ u64 2, u64 3 ++ u64 4] }, []⟩, .keeper, 0, 1, by decide +kernel⟩⟩

theorem witness_canFramesAndAddressClaimsFollowTheBus_1 :
    (∃ (s : State) (n : Fin 6), (s.hub.live) ∧ (s.hub.canOnBus n = true)) ∧
    (∃ (s : State) (n : Fin 6), (s.hub.live) ∧ (s.hub.canOnBus n = false)) ∧
    (∃ (s : State) (n : Fin 6) (f : CanFrame) (k : Nat) (i : Nat) (e : ClsEntry), (s.hub.live) ∧ (s.hub.canOnBus n = true) ∧
      (f.extended = false) ∧ (s.hub.plainIn (17 + n)) ∧ (s.hub.stageRoom (17 + n) (canSegment f).length = true) ∧ (clsWinner (0x20
      + n) (.can f.id f.extended f.fd) s.hub.sw.cls.cells = some (k, e)) ∧ (s.hub.live? e.handle = some i) ∧ (s.hub.takesIn i)) ∧
    (∃ (s : State) (n : Fin 6) (f : CanFrame), (s.hub.live) ∧ (s.hub.canOnBus n = true) ∧ (f.extended = false) ∧ (s.hub.plainIn
      (17 + n)) ∧ (s.hub.stageRoom (17 + n) (canSegment f).length = true) ∧ (clsWinner (0x20 + n) (.can f.id f.extended f.fd)
      s.hub.sw.cls.cells = none)) ∧
    (∃ (s : State) (n : Fin 6) (x : Nat × CanFrame), (s.hub.live) ∧ ((s.hub.can n).bus = .active ∨ (s.hub.can n).bus = .passive) ∧
      (s.hub.val (Od.canListenOnly n) = 0) ∧ (s.hub.loopOn (13 + n) = false) ∧ (canWinner (s.hub.can n).slots = some x)) ∧
    (∃ (s : State) (n : Fin 6), (s.hub.live) ∧ (s.hub.val (Od.canListenOnly n) = 1 ∨ (s.hub.can n).slots = [])) ∧
    (∃ (s : State) (n : Fin 6), (s.hub.live) ∧ ((s.hub.can n).bus = .active ∨ (s.hub.can n).bus = .passive)) ∧
    (∃ (s : State) (n : Fin 6), (s.hub.live) ∧ ((s.hub.can n).bus = .active ∨ (s.hub.can n).bus = .passive)) :=
  ⟨
    ⟨⟨canOn up, []⟩, 0, by decide +kernel⟩,
    ⟨⟨up, []⟩, 1, by decide +kernel⟩,
    ⟨⟨canOn ((openAt 0x20000000).setCls 9 canKey), []⟩, 0, canF, 9, 5, canKey, by decide +kernel⟩,
    ⟨⟨canOn up, []⟩, 0, canF, by decide +kernel⟩,
    ⟨⟨up.setCan 0 { CanSt.init with bus := .active, tec := 9, slots := [(0, { canF with id := 0x200 }), (5, canF)] }, []⟩, 0, (5, canF), by decide +kernel⟩,
    ⟨⟨up, []⟩, 0, by decide +kernel⟩,
    ⟨⟨canOn up, []⟩, 0, by decide +kernel⟩,
    ⟨⟨up.setCan 0 { CanSt.init with bus := .active, rec_ := 120 }, []⟩, 0, by decide +kernel⟩⟩

theorem witness_canFramesAndAddressClaimsFollowTheBus_2 :
    (∃ (s : State) (n : Fin 6), (s.hub.live) ∧ ((s.hub.can n).bus = .active ∨ (s.hub.can n).bus = .passive)) ∧
    (∃ (s : State) (n : Fin 6), (s.hub.live) ∧ ((s.hub.can n).bus = .active ∨ (s.hub.can n).bus = .passive)) ∧
    (∃ (s : State) (n : Fin 6), (s.hub.live) ∧ ((s.hub.can n).bus = .busOff) ∧ ((s.hub.can n).recovering = true)) ∧
    (∃ (s : State) (req : Path) (c : Fin 8) (n : Fin 6), (s.hub.takes req c 0x0801) ∧ (s.hub.canRuns n = true) ∧ ((s.hub.can
      n).command = none)) ∧
    (∃ (s : State) (req : Path) (c : Fin 8) (n : Fin 6), (s.hub.takes req c 0x0801) ∧ (s.hub.canRuns n = true) ∧ ((s.hub.can
      n).command = none)) ∧
    (∃ (s : State) (n : Fin 6) (src : Byte), (s.hub.live) ∧ ((s.hub.can n).claimed ≠ some src.toNat) ∧ ((s.hub.can n).claiming ≠
      some src.toNat)) ∧
    (∃ (s : State) (n : Fin 6) (a : Nat), (s.hub.live) ∧ ((s.hub.can n).claimed = some a ∨ ((s.hub.can n).claimed = none ∧
      (s.hub.can n).claiming = some a) ∨ ((s.hub.can n).claimed = none ∧ (s.hub.can n).claiming = none ∧ (s.hub.can n).cannotClaim
      = true ∧ a = 254))) ∧
    (∃ (s : State) (n : Fin 6) (a : Nat), (s.hub.live) ∧ ((s.hub.can n).claimed = some a ∨ ((s.hub.can n).claimed = none ∧
      (s.hub.can n).claiming = some a) ∨ ((s.hub.can n).claimed = none ∧ (s.hub.can n).claiming = none ∧ (s.hub.can n).cannotClaim
      = true ∧ a = 254))) :=
  ⟨
    ⟨⟨up.setCan 0 { CanSt.init with bus := .passive, tec := 248 }, []⟩, 0, by decide +kernel⟩,
    ⟨⟨up.setCan 0 { CanSt.init with bus := .active, tec := 119 }, []⟩, 0, by decide +kernel⟩,
    ⟨⟨(up.accept 3 0x0801 9 []).setCan 0 { CanSt.init with bus := .busOff, recovering := true, command := some 3 }, []⟩, 0, by decide +kernel⟩,
    ⟨⟨canOn up, []⟩, .keeper, 3, 0, by decide +kernel⟩,
    ⟨⟨up.setCan 0 { CanSt.init with bus := .busOff }, []⟩, .keeper, 3, 0, by decide +kernel⟩,
    ⟨⟨up.setCan 0 { CanSt.init with claimed := some 0x80 }, []⟩, 0, 0x81, by decide +kernel⟩,
    ⟨⟨up.setCan 0 { CanSt.init with claimed := some 0x80 }, []⟩, 0, 0x80, by decide +kernel⟩,
    ⟨⟨up.setCan 0 { CanSt.init with cannotClaim := true }, []⟩, 0, 254, by decide +kernel⟩⟩

theorem witness_canFramesAndAddressClaimsFollowTheBus_3 :
    (∃ (s : State) (n : Fin 6) (a : Nat), (s.hub.live) ∧ ((s.hub.can n).claiming = some a)) ∧
    (∃ (s : State) (req : Path) (c : Fin 8) (n : Fin 6), (s.hub.takes req c 0x0803) ∧ (s.hub.claimOn n = true) ∧ ((s.hub.can
      n).reclaim = none)) :=
  ⟨
    ⟨⟨(up.accept 3 0x0803 9 []).setCan 0 { CanSt.init with claiming := some 0x80, reclaim := some 3 }, []⟩, 0, 0x80, by decide +kernel⟩,
    ⟨⟨canOn up, []⟩, .keeper, 3, 0, by decide +kernel⟩⟩

theorem witness_storageRequestsAndSerialPortsRun_1 :
    (∃ (s : State) (req : Path), (s.hub.live) ∧ (s.hub.keeperUp = true) ∧ (s.hub.val Od.emmcEnable = 0) ∧ (s.hub.domOn 15 = true)
      ∧ (s.hub.odWriteBad req Od.emmcEnable.key (u8 1) = none) ∧ (s.hub.mirroring = false) ∧ (s.hub.ctl.keeperQ = [])) ∧
    (∃ (s : State), (s.hub.live) ∧ (s.hub.io.emmc.state = .initialising)) ∧
    (∃ (s : State), (s.hub.live) ∧ (s.hub.io.emmc.state = .initialising)) ∧
    (∃ (s : State) (req : Path) (c : Fin 8), (s.hub.takes req c 0x0802) ∧ (s.hub.val Od.emmcEnable ≠ 0) ∧ (s.hub.inFog = false)) ∧
    (∃ (s : State) (i : Byte) (x : OutSeg) (r : BlockReq), (s.hub.live) ∧ (s.hub.headOf 16 i.toNat = some x) ∧ (field x.data 0 1 =
      1) ∧ (r = blockOf i.toNat 1 x.data) ∧ (r.blocks ≠ 0) ∧ (s.hub.io.emmc.requests = []) ∧ (s.hub.io.emmc.state = .ready) ∧
      (s.hub.io.emmc.running = none) ∧ (s.hub.io.emmc.chunk = 0) ∧ (s.hub.io.emmc.orphan = false) ∧ (s.hub.blockBad r = none) ∧
      (s.hub.stageRoom 16 (4 + 512 * min 3 r.blocks) = true)) ∧
    (∃ (s : State) (i : Byte) (x : OutSeg) (r : BlockReq), (s.hub.live) ∧ (s.hub.headOf 16 i.toNat = some x) ∧ (field x.data 0 1 =
      2) ∧ (r = blockOf i.toNat 2 x.data) ∧ (r.blocks ≠ 0) ∧ (s.hub.io.emmc.requests = []) ∧ (s.hub.io.emmc.state = .ready) ∧
      (s.hub.io.emmc.running = none) ∧ (s.hub.io.emmc.chunk = 0) ∧ (s.hub.io.emmc.orphan = false) ∧ (s.hub.blockBad r = none)) ∧
    (∃ (s : State) (i : Byte) (x : OutSeg) (r : BlockReq), (s.hub.live) ∧ (s.hub.headOf 16 i.toNat = some x) ∧ (field x.data 0 1 =
      3) ∧ (r = blockOf i.toNat 3 x.data) ∧ (s.hub.io.emmc.requests = []) ∧ (s.hub.io.emmc.state = .ready) ∧ (s.hub.io.emmc.running
      = none) ∧ (s.hub.io.emmc.chunk = 0) ∧ (s.hub.io.emmc.orphan = false)) ∧
    (∃ (s : State) (i : Byte) (x : OutSeg) (r : BlockReq), (s.hub.live) ∧ (s.hub.headOf 16 i.toNat = some x) ∧ (field x.data 0 1 =
      4) ∧ (r = blockOf i.toNat 4 x.data) ∧ (s.hub.io.emmc.requests = []) ∧ (s.hub.io.emmc.state = .ready) ∧ (s.hub.io.emmc.running
      = none) ∧ (s.hub.io.emmc.chunk = 0) ∧ (s.hub.io.emmc.orphan = false) ∧ (s.hub.blockBad r = none)) :=
  ⟨
    ⟨⟨up, []⟩, .keeper, by decide +kernel⟩,
    ⟨⟨{ up.accept 3 0x0802 9 [] with io := { up.io with emmc := { EmmcSt.init with state := .initialising, commands := [3] } } }, []⟩, by decide +kernel⟩,
    ⟨⟨{ up with io := { up.io with emmc := { EmmcSt.init with state := .initialising } } }, []⟩, by decide +kernel⟩,
    ⟨⟨emmcHub, []⟩, .keeper, 3, by decide +kernel⟩,
    ⟨⟨emmcHub.setOutQ 16 [readSeg 1], []⟩, 5, readSeg 1, blockOf 5 1 (readSeg 1).data, by decide +kernel⟩,
    ⟨⟨emmcHub.setOutQ 16 [readSeg 2], []⟩, 5, readSeg 2, blockOf 5 2 (readSeg 2).data, by decide +kernel⟩,
    ⟨⟨emmcHub.setOutQ 16 [readSeg 3], []⟩, 5, readSeg 3, blockOf 5 3 (readSeg 3).data, by decide +kernel⟩,
    ⟨⟨emmcHub.setOutQ 16 [readSeg 4], []⟩, 5, readSeg 4, blockOf 5 4 (readSeg 4).data, by decide +kernel⟩⟩

theorem witness_storageRequestsAndSerialPortsRun_2 :
    (∃ (s : State) (i : Byte) (x : OutSeg) (g : Nat), (s.hub.live) ∧ (s.hub.headOf 16 i.toNat = some x) ∧ (field x.data 0 1 = 5) ∧
      (s.hub.openWrite i.toNat = none) ∧ (g = selector (s.hub.ctx i.toNat).localBind % 8) ∧ (s.hub.io.emmc.requests = []) ∧
      (s.hub.io.emmc.state = .ready) ∧ (s.hub.io.emmc.running = none) ∧ (s.hub.io.emmc.chunk = 0) ∧ (s.hub.io.emmc.orphan = false)
      ∧ (s.hub.takesIn i.toNat)) ∧
    (∃ (s : State) (i : Byte) (x : OutSeg), (s.hub.live) ∧ (s.hub.headOf 16 i.toNat = some x) ∧ (field x.data 0 1 = 5) ∧
      (s.hub.openWrite i.toNat = none) ∧ (s.hub.io.emmc.chunk ≠ 0) ∧ ((s.hub.io.emmc.requests.filter (fun r => decide (r.ctx =
      i.toNat))).length < 16)) ∧
    (∃ (s : State) (i : Byte) (x : OutSeg) (r : BlockReq), (s.hub.live) ∧ (s.hub.headOf 16 i.toNat = some x) ∧ (field x.data 0 1 =
      0x10) ∧ (s.hub.openWrite i.toNat = some r) ∧ (x.data.length = 516 ∨ x.data.length = 1028 ∨ x.data.length = 1540) ∧ (field
      x.data 1 1 = r.seq) ∧ (r.got + (x.data.length - 4) / 512 ≤ r.blocks) ∧ (s.hub.io.emmc.chunk ≠ 0)) ∧
    (∃ (s : State) (i : Byte) (x : OutSeg) (r : BlockReq), (s.hub.live) ∧ (s.hub.headOf 16 i.toNat = some x) ∧ (field x.data 0 1 =
      0x10) ∧ (s.hub.openWrite i.toNat = some r) ∧ (field x.data 1 1 ≠ r.seq) ∧ (s.hub.takesIn i.toNat)) ∧
    (∃ (s : State) (i : Nat) (r : BlockReq), (s.hub.live) ∧ (s.hub.io.emmc.running = some i) ∧ (s.hub.io.emmc.first i = some r) ∧
      (s.hub.io.emmc.chunk ≠ 0) ∧ (s.hub.io.emmc.orphan = false) ∧ (r.op = 1) ∧ (s.hub.takesIn i)) ∧
    (∃ (s : State) (i : Nat) (r : BlockReq), (s.hub.live) ∧ (s.hub.io.emmc.running = some i) ∧ (s.hub.io.emmc.first i = some r) ∧
      (s.hub.io.emmc.chunk ≠ 0) ∧ (s.hub.io.emmc.orphan = false) ∧ (r.op = 3 ∨ r.op = 4 ∨ (r.op = 2 ∧ r.done + (s.hub.io.emmc.chunk
      - 1) = r.blocks)) ∧ (s.hub.takesIn i)) ∧
    (∃ (s : State) (i : Nat) (r : BlockReq), (s.hub.live) ∧ (s.hub.io.emmc.running = some i) ∧ (s.hub.io.emmc.first i = some r) ∧
      (s.hub.io.emmc.chunk ≠ 0) ∧ (s.hub.io.emmc.orphan = false) ∧ (r.op = 3 ∨ r.op = 4 ∨ (r.op = 2 ∧ r.done + (s.hub.io.emmc.chunk
      - 1) = r.blocks)) ∧ (s.hub.takesIn i)) ∧
    (∃ (s : State) (i : Nat) (r : BlockReq), (s.hub.live) ∧ (s.hub.io.emmc.running = some i) ∧ (s.hub.io.emmc.first i = some r) ∧
      (s.hub.io.emmc.chunk ≠ 0) ∧ (s.hub.io.emmc.retries < 3)) :=
  ⟨
    ⟨⟨emmcHub.setOutQ 16 [readSeg 5], []⟩, 5, readSeg 5, 0, by decide +kernel⟩,
    ⟨⟨(onDevice 1 4 0).setOutQ 16 [readSeg 5], []⟩, 5, readSeg 5, by decide +kernel⟩,
    ⟨⟨{ onDevice 2 2 0 with io := { (onDevice 2 2 0).io with outQ := (emmcHub.setOutQ 16 [⟨5, 1, 0x30000000, false, [0x10, 0, 7, 0] ++ List.replicate 512 9⟩]).io.outQ, emmc := { (onDevice 2 2 0).io.emmc with requests := [⟨5, 2, 7, false, 8, 2, 0, 1, 0, [4]⟩] } } }, []⟩, 5, ⟨5, 1, 0x30000000, false, [0x10, 0, 7, 0] ++ List.replicate 512 9⟩, ⟨5, 2, 7, false, 8, 2, 0, 1, 0, [4]⟩, by decide +kernel⟩,
    ⟨⟨{ emmcHub with io := { emmcHub.io with outQ := (emmcHub.setOutQ 16 [⟨5, 1, 0x30000000, false, [0x10, 3, 7, 0]⟩]).io.outQ, emmc := { emmcHub.io.emmc with requests := [⟨5, 2, 7, false, 8, 2, 0, 1, 0, [4]⟩] } } }, []⟩, 5, ⟨5, 1, 0x30000000, false, [0x10, 3, 7, 0]⟩, ⟨5, 2, 7, false, 8, 2, 0, 1, 0, [4]⟩, by decide +kernel⟩,
    ⟨⟨onDevice 1 3 0, []⟩, 5, ⟨5, 1, 7, false, 8, 2, 0, 2, 0, List.replicate 1024 3⟩, by decide +kernel⟩,
    ⟨⟨onDevice 2 3 0, []⟩, 5, ⟨5, 2, 7, false, 8, 2, 0, 2, 0, List.replicate 1024 3⟩, by decide +kernel⟩,
    ⟨⟨onDevice 4 3 0, []⟩, 5, ⟨5, 4, 7, false, 8, 2, 0, 2, 0, List.replicate 1024 3⟩, by decide +kernel⟩,
    ⟨⟨onDevice 2 3 0, []⟩, 5, ⟨5, 2, 7, false, 8, 2, 0, 2, 0, List.replicate 1024 3⟩, by decide +kernel⟩⟩

theorem witness_storageRequestsAndSerialPortsRun_3 :
    (∃ (s : State) (i : Nat) (r : BlockReq) (res : Fin 3), (s.hub.live) ∧ (s.hub.io.emmc.running = some i) ∧ (s.hub.io.emmc.first
      i = some r) ∧ (s.hub.io.emmc.chunk ≠ 0) ∧ (s.hub.io.emmc.orphan = false) ∧ (res = 2 ∨ (res = 1 ∧ 3 ≤ s.hub.io.emmc.retries))
      ∧ (s.hub.takesIn i)) ∧
    (∃ (s : State) (i : Nat) (r : BlockReq) (res : Fin 3), (s.hub.live) ∧ (s.hub.io.emmc.running = some i) ∧ (s.hub.io.emmc.first
      i = some r) ∧ (s.hub.io.emmc.chunk ≠ 0) ∧ (s.hub.io.emmc.orphan = false) ∧ (res = 2 ∨ (res = 1 ∧ 3 ≤ s.hub.io.emmc.retries))
      ∧ (s.hub.takesIn i)) ∧
    (∃ (s : State) (i : Nat) (r : BlockReq), (s.hub.live) ∧ (s.hub.io.emmc.running = some i) ∧ (s.hub.io.emmc.first i = some r) ∧
      (s.hub.io.emmc.chunk ≠ 0) ∧ (s.hub.io.emmc.orphan = false) ∧ (s.hub.takesIn i)) ∧
    (∃ (s : State) (i : Nat) (r : BlockReq), (s.hub.live) ∧ (s.hub.io.emmc.running = some i) ∧ (s.hub.io.emmc.first i = some r) ∧
      (s.hub.io.emmc.chunk ≠ 0) ∧ (s.hub.io.emmc.orphan = false) ∧ (s.hub.takesIn i)) ∧
    (∃ (s : State) (n : Fin 6) (data : Bytes) (i : Nat), (s.hub.live) ∧ (s.hub.serRuns n = true) ∧ (s.hub.val (Od.serMode n) = 0)
      ∧ (data ≠ []) ∧ (s.hub.val (Od.serFlow n) = 1 ∨ s.hub.stageRoom (23 + n) (data.take 256).length = true) ∧ (s.hub.boundBy 0
      (fun b => decide (portCode b = 0x70 + n)) = some i) ∧ (s.hub.plainIn (23 + n)) ∧ (s.hub.takesIn i)) ∧
    (∃ (s : State) (n : Fin 6) (data : Bytes), (s.hub.live) ∧ (s.hub.serRuns n = true) ∧ (s.hub.val (Od.serMode n) = 0) ∧ (data ≠
      []) ∧ (s.hub.val (Od.serFlow n) = 0) ∧ (s.hub.stageRoom (23 + n) (data.take 256).length = false)) ∧
    (∃ (s : State) (n : Fin 6) (x : OutSeg) (l : List OutSeg), (s.hub.live) ∧ (s.hub.outQ (23 + n) = x :: l) ∧ (s.hub.serRuns n =
      true) ∧ (s.hub.loopOn (19 + n) = false) ∧ ((s.hub.ser n).busy = none) ∧ (s.hub.val (Od.serMode n) ≤ 2)) ∧
    (∃ (s : State) (n : Fin 6) (x : OutSeg) (l : List OutSeg), (s.hub.live) ∧ (s.hub.outQ (23 + n) = x :: l) ∧ (s.hub.serRuns n =
      true) ∧ (s.hub.loopOn (19 + n) = false) ∧ ((s.hub.ser n).busy = none) ∧ (s.hub.val (Od.serMode n) ≤ 2)) :=
  ⟨
    ⟨⟨onDevice 2 3 3, []⟩, 5, ⟨5, 2, 7, false, 8, 2, 0, 2, 0, List.replicate 1024 3⟩, 1, by decide +kernel⟩,
    ⟨⟨onDevice 2 3 0, []⟩, 5, ⟨5, 2, 7, false, 8, 2, 0, 2, 0, List.replicate 1024 3⟩, 2, by decide +kernel⟩,
    ⟨⟨onDevice 2 3 0, []⟩, 5, ⟨5, 2, 7, false, 8, 2, 0, 2, 0, List.replicate 1024 3⟩, by decide +kernel⟩,
    ⟨⟨onDevice 2 3 3, []⟩, 5, ⟨5, 2, 7, false, 8, 2, 0, 2, 0, List.replicate 1024 3⟩, by decide +kernel⟩,
    ⟨⟨serHub 0 [], []⟩, 1, [7, 8], 5, by decide +kernel⟩,
    ⟨⟨{ serHub 0 [] with sw := { up.sw with stageIn := up.sw.stageIn.set 0 24 10000000 } }, []⟩, 1, [7, 8], by decide +kernel⟩,
    ⟨⟨serHub 0 [4, 5], []⟩, 1, ⟨5, 1, 0x71000000, false, [4, 5]⟩, [], by decide +kernel⟩,
    ⟨⟨serHub 1 [4, 5], []⟩, 1, ⟨5, 1, 0x71000000, false, [4, 5]⟩, [], by decide +kernel⟩⟩

theorem witness_storageRequestsAndSerialPortsRun_4 :
    (∃ (s : State) (n : Fin 6) (x : OutSeg) (l : List OutSeg), (s.hub.live) ∧ (s.hub.outQ (23 + n) = x :: l) ∧ (s.hub.serRuns n =
      true) ∧ (s.hub.loopOn (19 + n) = false) ∧ ((s.hub.ser n).busy = none) ∧ (s.hub.val (Od.serMode n) ≤ 2)) ∧
    (∃ (s : State) (n : Fin 6) (status : Fin 5) (data : Bytes) (d : Bytes) (i : Nat) (l : Nat), (s.hub.live) ∧ ((s.hub.ser n).busy
      = some (i, l)) ∧ (portCode (s.hub.ctx i).localBind = 0x70 + n) ∧ ((s.hub.ctx i).role ≠ .transit) ∧ (s.hub.plainIn (23 + n)) ∧
      (s.hub.takesIn i) ∧ (d = (if s.hub.val (Od.serMode n) = 2 then u8 status ++ data.take l else data.take l)) ∧ (d ≠ [])) ∧
    (∃ (s : State), (s.hub.live)) :=
  ⟨
    ⟨⟨serHub 2 [1, 0, 5], []⟩, 1, ⟨5, 1, 0x71000000, false, [1, 0, 5]⟩, [], by decide +kernel⟩,
    ⟨⟨(serHub 2 []).setSer 1 { SerSt.init with busy := some (5, 1) }, []⟩, 1, 0, [9, 9], [0, 9], 5, 1, by decide +kernel⟩,
    ⟨⟨up, []⟩, by decide +kernel⟩⟩

theorem witness_cameraFramesEnterAndDisplayFramesLeave_1 :
    (∃ (s : State) (n : Fin 2) (vc : Fin 4), (s.hub.live) ∧ (s.hub.csiRuns n = true) ∧ (∀ f ∈ (s.hub.csi n).frames, f.1 ≠ vc.val)) ∧
    (∃ (s : State) (n : Fin 2) (vc : Fin 4), (s.hub.live) ∧ (s.hub.csiRuns n = true) ∧ (∃ f ∈ (s.hub.csi n).frames, f.1 = vc.val)) ∧
    (∃ (s : State) (n : Fin 2) (vc : Fin 4) (dt : Fin 64) (hdr : Fin 3), (s.hub.live) ∧ (s.hub.csiRuns n = true) ∧ (hdr = 2 ∨
      dtBits dt = 0 ∨ ∀ f ∈ (s.hub.csi n).frames, f.1 ≠ vc.val)) ∧
    (∃ (s : State) (n : Fin 2) (vc : Fin 4) (dt : Fin 64) (hdr : Fin 3), (s.hub.live) ∧ (s.hub.csiRuns n = true) ∧ (hdr = 2 ∨
      dtBits dt = 0 ∨ ∀ f ∈ (s.hub.csi n).frames, f.1 ≠ vc.val)) ∧
    (∃ (s : State) (n : Fin 2) (vc : Fin 4) (dt : Fin 64) (hdr : Fin 3), (s.hub.live) ∧ (s.hub.csiRuns n = true) ∧ (hdr = 2 ∨
      dtBits dt = 0 ∨ ∀ f ∈ (s.hub.csi n).frames, f.1 ≠ vc.val)) ∧
    (∃ (s : State) (n : Fin 2) (vc : Fin 4) (dt : Fin 64) (hdr : Fin 3) (start : Nat), (s.hub.live) ∧ (s.hub.csiRuns n = true) ∧
      (hdr ≠ 2) ∧ (dtBits dt ≠ 0) ∧ ((s.hub.csi n).frames.find? (fun f => decide (f.1 = vc.val)) = some (vc.val, start)) ∧
      ((s.hub.csi n).streams.find? (fun x => decide (x.vc = vc.val) && decide (x.dt = dt.val)) = none) ∧ (s.hub.sw.damaged = []) ∧
      (clsWinner (0x40 + n) (.csi vc dt) s.hub.sw.cls.cells = none)) ∧
    (∃ (s : State) (n : Fin 2) (vc : Fin 4) (dt : Fin 64) (hdr : Fin 3) (data : Bytes) (start : Nat) (k : Nat) (i : Nat) (e :
      ClsEntry), (s.hub.live) ∧ (s.hub.csiRuns n = true) ∧ (hdr ≠ 2) ∧ (dtBits dt ≠ 0) ∧ ((s.hub.csi n).frames.find? (fun f =>
      decide (f.1 = vc.val)) = some (vc.val, start)) ∧ ((s.hub.csi n).streams.find? (fun x => decide (x.vc = vc.val) && decide
      (x.dt = dt.val)) = none) ∧ (s.hub.sw.damaged = []) ∧ (clsWinner (0x40 + n) (.csi vc dt) s.hub.sw.cls.cells = some (k, e)) ∧
      (s.hub.live? e.handle = some i) ∧ (data.length ≤ (s.hub.ctx i).maxSeg - 16)) ∧
    (∃ (s : State) (n : Fin 2) (vc : Fin 4) (dt : Fin 64) (hdr : Fin 3) (data : Bytes) (start : Nat) (i : Nat) (r : Nat) (x :
      CsiStream), (s.hub.live) ∧ (s.hub.csiRuns n = true) ∧ (hdr ≠ 2) ∧ (dtBits dt ≠ 0) ∧ ((s.hub.csi n).frames.find? (fun f =>
      decide (f.1 = vc.val)) = some (vc.val, start)) ∧ ((s.hub.csi n).streams.find? (fun x => decide (x.vc = vc.val) && decide
      (x.dt = dt.val)) = some x) ∧ (x.ctx = some i) ∧ (x.dropped = false) ∧ (x.started = true) ∧ (x.lineLen = data.length) ∧
      (vc.val ∉ (s.hub.csi n).badVcs) ∧ (r = (s.hub.ctx i).maxSeg - 8) ∧ (r ≠ 0) ∧ (x.gathered.length + data.length ≤ r)) :=
  ⟨
    ⟨⟨csiHub [], []⟩, 0, 2, by decide +kernel⟩,
    ⟨⟨csiHub [csiStream], []⟩, 0, 1, by decide +kernel⟩,
    ⟨⟨csiHub [], []⟩, 0, 1, 0x2A, 2, by decide +kernel⟩,
    ⟨⟨csiHub [], []⟩, 0, 1, 0x12, 0, by decide +kernel⟩,
    ⟨⟨csiHub [], []⟩, 0, 2, 0x2A, 0, by decide +kernel⟩,
    ⟨⟨csiHub [], []⟩, 0, 1, 0x2A, 0, 77, by decide +kernel⟩,
    ⟨⟨(csiHub []).setCls 9 ⟨true, [5, 3, 0x40, 0xC0, 0xA1, 2, 0, 0, 0, 0, 0, 0, 0, 0, 0, 0]⟩, []⟩, 0, 1, 0x2A, 0, [1, 2], 77, 9, 5, ⟨true, [5, 3, 0x40, 0xC0, 0xA1, 2, 0, 0, 0, 0, 0, 0, 0, 0, 0, 0]⟩, by decide +kernel⟩,
    ⟨⟨csiHub [{ csiStream with started := true, offset := 8 }], []⟩, 0, 1, 0x2A, 0, [9, 9, 9, 9], 77, 5, 64, { csiStream with started := true, offset := 8 }, by decide +kernel⟩⟩

theorem witness_cameraFramesEnterAndDisplayFramesLeave_2 :
    (∃ (s : State) (n : Fin 2) (vc : Fin 4) (dt : Fin 64) (hdr : Fin 3) (data : Bytes) (start : Nat) (i : Nat) (r : Nat) (x :
      CsiStream), (s.hub.live) ∧ (s.hub.csiRuns n = true) ∧ (hdr ≠ 2) ∧ (dtBits dt ≠ 0) ∧ ((s.hub.csi n).frames.find? (fun f =>
      decide (f.1 = vc.val)) = some (vc.val, start)) ∧ ((s.hub.csi n).streams.find? (fun x => decide (x.vc = vc.val) && decide
      (x.dt = dt.val)) = some x) ∧ (x.ctx = some i) ∧ (x.dropped = false) ∧ (x.started = true) ∧ (x.lineLen = data.length) ∧
      (vc.val ∉ (s.hub.csi n).badVcs) ∧ (r = (s.hub.ctx i).maxSeg - 8) ∧ (r ≠ 0) ∧ (r < x.gathered.length + data.length) ∧ (data ≠
      []) ∧ (s.hub.stageRoom (12 + n) (videoSegment x start false false ((x.gathered ++ data).take r)).length = true) ∧
      (s.hub.plainIn (12 + n)) ∧ (s.hub.takesIn i) ∧ ((s.hub.ctx i).role ≠ .transit) ∧ (portCode (s.hub.ctx i).localBind = 0x40 +
      n)) ∧
    (∃ (s : State) (n : Fin 2) (vc : Fin 4) (start : Nat) (i : Nat) (x : CsiStream), (s.hub.live) ∧ (s.hub.csiRuns n = true) ∧
      ((s.hub.csi n).frames.find? (fun f => decide (f.1 = vc.val)) = some (vc.val, start)) ∧ ((s.hub.csi n).streams.filter (fun x
      => decide (x.vc = vc.val)) = [x]) ∧ (x.ctx = some i) ∧ (x.dropped = false) ∧ (x.started = true) ∧ (s.hub.stageRoom (12 + n)
      (videoSegment x start (decide (vc.val ∈ (s.hub.csi n).badVcs)) true x.gathered).length = true) ∧ (s.hub.plainIn (12 + n)) ∧
      (s.hub.takesIn i) ∧ ((s.hub.ctx i).role ≠ .transit) ∧ (portCode (s.hub.ctx i).localBind = 0x40 + n)) ∧
    (∃ (s : State) (w : WriteFrame), (s.hub.live) ∧ (s.hub.vid.dsi ≠ .off) ∧ (s.hub.frameLines ≤ s.hub.vid.line) ∧ (s.hub.val
      Od.dsiVfpMin ≤ s.hub.vid.porch) ∧ (s.hub.shownCtx.isSome = true) ∧ (s.hub.vid.ready = some w)) ∧
    (∃ (s : State), (s.hub.live) ∧ (s.hub.vid.dsi = .running) ∧ (s.hub.frameLines ≤ s.hub.vid.line) ∧ (s.hub.val Od.dsiVfpMin ≤
      s.hub.vid.porch) ∧ (s.hub.val Od.dsiVfpMax ≤ s.hub.vid.porch) ∧ (s.hub.shownCtx.isSome = true) ∧ (s.hub.vid.ready = none) ∧
      (s.hub.vid.writing = none) ∧ (s.hub.vid.repeats < 65535) ∧ (s.hub.vid.inForce.stallFrames = s.hub.val Od.dsiStallFrames) ∧
      (s.hub.vid.inForce.stallFrames = 0 ∨ s.hub.vid.repeats + 1 < s.hub.vid.inForce.stallFrames)) ∧
    (∃ (s : State), (s.hub.live) ∧ (s.hub.vid.dsi = .off ∨ s.hub.vid.line < s.hub.frameLines ∨ s.hub.vid.porch < s.hub.val
      Od.dsiVfpMin)) ∧
    (∃ (s : State), (s.hub.live) ∧ (s.hub.vid.dsi ≠ .off) ∧ (s.hub.vid.line < s.hub.val Od.dsiVsync + s.hub.val Od.dsiVbp)) ∧
    (∃ (s : State) (dt : Nat) (bytes : Nat) (base : Nat), (s.hub.live) ∧ (s.hub.vid.dsi ≠ .off) ∧ (s.hub.val Od.dsiVsync +
      s.hub.val Od.dsiVbp ≤ s.hub.vid.line) ∧ (s.hub.vid.line < s.hub.frameLines) ∧ (dt = (s.hub.vid.shown.map (·.dt)).getD 0x24) ∧
      (bytes = s.hub.lineBytes dt) ∧ (base = bufferBase (s.hub.val Od.fsLayout) s.hub.vid.front + (s.hub.vid.line - (s.hub.val
      Od.dsiVsync + s.hub.val Od.dsiVbp)) * bytes) ∧ (s.hub.sw.damaged = [])) ∧
    (∃ (s : State) (dt : Nat) (bytes : Nat) (base : Nat), (s.hub.live) ∧ (s.hub.vid.dsi ≠ .off) ∧ (s.hub.val Od.dsiVsync +
      s.hub.val Od.dsiVbp ≤ s.hub.vid.line) ∧ (s.hub.vid.line < s.hub.frameLines) ∧ (dt = (s.hub.vid.shown.map (·.dt)).getD 0x24) ∧
      (bytes = s.hub.lineBytes dt) ∧ (base = bufferBase (s.hub.val Od.fsLayout) s.hub.vid.front + (s.hub.vid.line - (s.hub.val
      Od.dsiVsync + s.hub.val Od.dsiVbp)) * bytes) ∧ (s.hub.sw.damaged = [])) :=
  ⟨
    ⟨⟨csiHub [{ csiStream with started := true, offset := 8, gathered := List.replicate 63 8 }], []⟩, 0, 1, 0x2A, 0, [9, 9, 9, 9], 77, 5, 64, { csiStream with started := true, offset := 8, gathered := List.replicate 63 8 }, by decide +kernel⟩,
    ⟨⟨csiHub [{ csiStream with started := true }], []⟩, 0, 1, 77, 5, { csiStream with started := true }, by decide +kernel⟩,
    ⟨⟨dsiHub (fun v => { v with line := 900, porch := 5, ready := some wFrame, dsi := .stalled }), []⟩, wFrame, by decide +kernel⟩,
    ⟨⟨dsiHub (fun v => { v with line := 900, porch := 2600 }), []⟩, by decide +kernel⟩,
    ⟨⟨dsiHub (fun v => { v with line := 3 }), []⟩, by decide +kernel⟩,
    ⟨⟨dsiHub (fun v => { v with line := 3 }), []⟩, by decide +kernel⟩,
    ⟨⟨(dsiHub (fun v => { v with line := 21 })).memWriteBytes 0x2040000C [1, 2, 3, 4], []⟩, 0x24, 12, 0x2040000C, by decide +kernel⟩,
    ⟨⟨dsiHub (fun v => { v with line := 21, filling := true }), []⟩, 0x24, 12, 0x2040000C, by decide +kernel⟩⟩

theorem witness_cameraFramesEnterAndDisplayFramesLeave_3 :
    (∃ (s : State), (s.hub.live) ∧ (s.hub.vid.dsi ≠ .off) ∧ (s.hub.frameLines ≤ s.hub.vid.line) ∧ (s.hub.vid.porch ≠ 0)) ∧
    (∃ (s : State) (b : Bytes) (outs : Nat) (sent : Nat) (c : Nat), (s.hub.live) ∧ (s.hub.vid.dsi ≠ .off) ∧ (s.hub.frameLines ≤
      s.hub.vid.line) ∧ (s.hub.vid.porch = 0) ∧ (s.hub.vid.packets = [(b, outs, sent, c)]) ∧ ((s.hub.chan c).state = .running)) ∧
    (∃ (s : State) (req : Path) (slot : Fin 4), (s.hub.live) ∧ (s.hub.keeperUp = true) ∧ (s.hub.odWriteBad req Od.dsiShowSlot.key
      (u8 slot) = none) ∧ (s.hub.mirroring = false) ∧ (s.hub.ctl.keeperQ = [])) ∧
    (∃ (s : State) (req : Path) (c : Fin 8) (outs : Fin 4) (ty : Byte) (vc : Fin 4) (d : Bytes) (b : Bytes) (now : Nat),
      (s.hub.takes req c 0x0810) ∧ (s.hub.inFog = false) ∧ (s.hub.domOn 13 = true) ∧ (outs.val ≠ 0) ∧ (dsiLength ty.toNat = some
      (some d.length) ∨ (dsiLength ty.toNat = some none ∧ d.length ≤ 64)) ∧ (b = u8 outs ++ [ty] ++ u8 vc ++ u8 d.length ++ d) ∧
      (now = (if s.hub.vid.dsi = .off then outs.val else if s.hub.val Od.dsi1Enable = 1 then 0 else 2 * (outs.val / 2)))) ∧
    (∃ (s : State) (req : Path) (c : Fin 8) (outs : Fin 4) (ty : Byte) (vc : Fin 4) (d : Bytes) (b : Bytes) (now : Nat),
      (s.hub.takes req c 0x0810) ∧ (s.hub.inFog = false) ∧ (s.hub.domOn 13 = true) ∧ (outs.val ≠ 0) ∧ (dsiLength ty.toNat = some
      (some d.length) ∨ (dsiLength ty.toNat = some none ∧ d.length ≤ 64)) ∧ (b = u8 outs ++ [ty] ++ u8 vc ++ u8 d.length ++ d) ∧
      (now = (if s.hub.vid.dsi = .off then outs.val else if s.hub.val Od.dsi1Enable = 1 then 0 else 2 * (outs.val / 2)))) ∧
    (∃ (s : State) (req : Path) (c : Fin 8) (outs : Fin 4) (ty : Byte) (vc : Fin 4) (d : Bytes) (b : Bytes) (now : Nat),
      (s.hub.takes req c 0x0810) ∧ (s.hub.inFog = false) ∧ (s.hub.domOn 13 = true) ∧ (outs.val ≠ 0) ∧ (dsiLength ty.toNat = some
      (some d.length) ∨ (dsiLength ty.toNat = some none ∧ d.length ≤ 64)) ∧ (b = u8 outs ++ [ty] ++ u8 vc ++ u8 d.length ++ d) ∧
      (now = (if s.hub.vid.dsi = .off then outs.val else if s.hub.val Od.dsi1Enable = 1 then 0 else 2 * (outs.val / 2)))) :=
  ⟨
    ⟨⟨dsiHub (fun v => { v with line := 900, porch := 4 }), []⟩, by decide +kernel⟩,
    ⟨⟨{ dsiHub (fun v => { v with line := 900, packets := [([1, 0x15, 0, 1, 9], 1, 0, 3)] }) with ctl := (up.accept 3 0x0810 9 []).ctl }, []⟩, [1, 0x15, 0, 1, 9], 1, 0, 3, by decide +kernel⟩,
    ⟨⟨dsiHub (fun v => { v with writing := some wFrame, ready := some wFrame }), []⟩, .keeper, 2, by decide +kernel⟩,
    ⟨⟨dsiHub id, []⟩, .keeper, 0, 1, 0x15, 0, [7], [1, 0x15, 0, 1, 7], 0, by decide +kernel⟩,
    ⟨⟨dsiHub id, []⟩, .keeper, 0, 3, 0x29, 2, [7, 8], [3, 0x29, 2, 2, 7, 8], 2, by decide +kernel⟩,
    ⟨⟨up, []⟩, .keeper, 0, 3, 0x05, 3, [], [3, 0x05, 3, 0], 3, by decide +kernel⟩⟩

theorem witness_usbDevicesAnswerTheirControlRequests_1 :
    (∃ (s : State) (n : Fin 2), (s.hub.live) ∧ (s.hub.hsicMay n = true) ∧ ((s.hub.dev (5 * n)).state = .off ∨ (s.hub.dev (5 *
      n)).state = .disconnected)) ∧
    (∃ (s : State) (n : Fin 2), (s.hub.live) ∧ (s.hub.hsicMay n = false) ∧ ((s.hub.dev (5 * n)).state ≠ .off) ∧ ((s.hub.dev (5 *
      n)).state ≠ .disconnected)) ∧
    (∃ (s : State) (n : Fin 2) (f : Fin 4), (s.hub.live) ∧ ((s.hub.dev (fnKey n f)).state = .off ∨ (s.hub.dev (fnKey n f)).state =
      .disconnected) ∧ (s.hub.fnMayConnect n f = true)) ∧
    (∃ (s : State), (s.hub.live)) ∧
    (∃ (s : State) (n : Fin 2) (k : Fin 5) (b : Bytes), (s.hub.live) ∧ (s.hub.setupFor (5 * n + k) .setAddress = some b)) ∧
    (∃ (s : State) (n : Fin 2) (k : Fin 5) (b : Bytes), (s.hub.live) ∧ (s.hub.setupFor (5 * n + k) .setConfiguration = some b) ∧
      (field b 2 2 ≤ 1) ∧ ((s.hub.dev (5 * n + k)).state = .addressed ∨ (s.hub.dev (5 * n + k)).state = .configured) ∧ (k.val = 0 ∨
      s.hub.fnMayConnect n (k.val - 1) = true)) ∧
    (∃ (s : State) (n : Fin 2) (k : Fin 5) (b : Bytes), (s.hub.live) ∧ (s.hub.setupFor (5 * n + k) .setConfiguration = some b) ∧
      (1 < field b 2 2)) ∧
    (∃ (s : State) (n : Fin 2) (k : Fin 5) (b : Bytes), (s.hub.live) ∧ (s.hub.setupFor (5 * n + k) .setInterface = some b) ∧
      (k.val ≠ 0) ∧ ((s.hub.dev (5 * n + k)).state = .configured) ∧ (∃ d ∈ confIfaces (s.hub.confDesc n (k.val - 1)), d.1 = field b
      4 2 ∧ d.2.1 = field b 2 2)) :=
  ⟨
    ⟨⟨{ ((up.put (Od.hsicEnable 1) 1).put (Od.hsicHubVid 1) 7) with mode := { up.mode with confirmed := true } }, []⟩, 1, by decide +kernel⟩,
    ⟨⟨usbUp, []⟩, 0, by decide +kernel⟩,
    ⟨⟨{ usbWith id (fun x => { x with state := .disconnected, reconnects := [3] }) with ctl := (up.accept 3 0x0822 9 []).ctl }, []⟩, 0, 0, by decide +kernel⟩,
    ⟨⟨usbUp, []⟩, by decide +kernel⟩,
    ⟨⟨askFn [0, 5, 9, 0, 0, 0, 0, 0], []⟩, 0, 1, [0, 5, 9, 0, 0, 0, 0, 0], by decide +kernel⟩,
    ⟨⟨usbWith id (fun x => { x with ctrl := some ⟨[0, 9, 1, 0, 0, 0, 0, 0], false⟩, toggles := ⟨[(1, 1)]⟩ }), []⟩, 0, 1, [0, 9, 1, 0, 0, 0, 0, 0], by decide +kernel⟩,
    ⟨⟨askFn [0, 9, 2, 0, 0, 0, 0, 0], []⟩, 0, 1, [0, 9, 2, 0, 0, 0, 0, 0], by decide +kernel⟩,
    ⟨⟨askFn [1, 11, 0, 0, 0, 0, 0, 0], []⟩, 0, 1, [1, 11, 0, 0, 0, 0, 0, 0], by decide +kernel⟩⟩

theorem witness_usbDevicesAnswerTheirControlRequests_2 :
    (∃ (s : State) (n : Fin 2) (k : Fin 5) (b : Bytes), (s.hub.live) ∧ (s.hub.setupFor (5 * n + k) .setInterface = some b) ∧
      (k.val ≠ 0) ∧ (∀ d ∈ confIfaces (s.hub.confDesc n (k.val - 1)), ¬(d.1 = field b 4 2 ∧ d.2.1 = field b 2 2))) ∧
    (∃ (s : State) (n : Fin 2) (b : Bytes), (s.hub.live) ∧ (s.hub.setupFor (5 * n) .getDescriptor = some b) ∧ (field b 3 1 = 1 ∨
      (field b 3 1 = 2 ∧ field b 2 1 = 0) ∨ field b 3 1 = 0x29)) ∧
    (∃ (s : State) (n : Fin 2) (k : Fin 5) (b : Bytes) (d : Bytes), (s.hub.live) ∧ (s.hub.setupFor (5 * n + k) .getDescriptor =
      some b) ∧ (k.val ≠ 0) ∧ (d = (if field b 3 1 = 1 then s.hub.blobVal (Od.fnDevDesc (fnIx n (k.val - 1))) else if field b 3 1 =
      2 then s.hub.confDesc n (k.val - 1) else s.hub.blobVal (Od.fnStringI (fnIx n (k.val - 1)) (field b 2 1)))) ∧ (field b 3 1 = 1
      ∨ (field b 3 1 = 2 ∧ field b 2 1 = 0) ∨ (field b 3 1 = 3 ∧ field b 2 1 < 16 ∧ d ≠ []))) ∧
    (∃ (s : State) (n : Fin 2) (k : Fin 5) (b : Bytes), (s.hub.live) ∧ (s.hub.setupFor (5 * n + k) .getDescriptor = some b) ∧
      (k.val ≠ 0) ∧ (field b 3 1 = 6 ∨ field b 3 1 = 7)) ∧
    (∃ (s : State) (n : Fin 2) (k : Fin 5) (b : Bytes), (s.hub.live) ∧ (s.hub.setupFor (5 * n + k) .getStatus = some b) ∧ (field b
      0 1 = 0x80 ∨ (field b 0 1 = 0xA3 ∧ k.val = 0 ∧ 1 ≤ field b 4 2 ∧ field b 4 2 ≤ 4) ∨ field b 0 1 = 0x81)) ∧
    (∃ (s : State) (n : Fin 2) (k : Fin 5) (b : Bytes), (s.hub.live) ∧ (s.hub.setupFor (5 * n + k) .getStatus = some b) ∧ (field b
      0 1 = 0x80 ∨ (field b 0 1 = 0xA3 ∧ k.val = 0 ∧ 1 ≤ field b 4 2 ∧ field b 4 2 ≤ 4) ∨ field b 0 1 = 0x81)) ∧
    (∃ (s : State) (n : Fin 2) (k : Fin 5) (b : Bytes), (s.hub.live) ∧ (s.hub.setupFor (5 * n + k) .getConfiguration = some b)) ∧
    (∃ (s : State) (n : Fin 2) (k : Fin 5) (b : Bytes), (s.hub.live) ∧ (s.hub.setupFor (5 * n + k) .getInterface = some b) ∧
      ((s.hub.dev (5 * n + k)).state = .configured) ∧ (if k.val = 0 then field b 4 2 = 0 else ∃ d ∈ confIfaces (s.hub.confDesc n
      (k.val - 1)), d.1 = field b 4 2)) :=
  ⟨
    ⟨⟨askFn [1, 11, 3, 0, 0, 0, 0, 0], []⟩, 0, 1, [1, 11, 3, 0, 0, 0, 0, 0], by decide +kernel⟩,
    ⟨⟨askHub [0x80, 6, 0, 1, 0, 0, 18, 0], []⟩, 0, [0x80, 6, 0, 1, 0, 0, 18, 0], by decide +kernel⟩,
    ⟨⟨askFn [0x80, 6, 0, 2, 0, 0, 9, 0], []⟩, 0, 1, [0x80, 6, 0, 2, 0, 0, 9, 0], confBytes, by decide +kernel⟩,
    ⟨⟨askFn [0x80, 6, 0, 6, 0, 0, 9, 0], []⟩, 0, 1, [0x80, 6, 0, 6, 0, 0, 9, 0], by decide +kernel⟩,
    ⟨⟨askHub [0xA3, 0, 0, 0, 1, 0, 4, 0], []⟩, 0, 0, [0xA3, 0, 0, 0, 1, 0, 4, 0], by decide +kernel⟩,
    ⟨⟨askFn [0x80, 0, 0, 0, 0, 0, 2, 0], []⟩, 0, 1, [0x80, 0, 0, 0, 0, 0, 2, 0], by decide +kernel⟩,
    ⟨⟨askFn [0x80, 8, 0, 0, 0, 0, 1, 0], []⟩, 0, 1, [0x80, 8, 0, 0, 0, 0, 1, 0], by decide +kernel⟩,
    ⟨⟨askFn [0x81, 10, 0, 0, 0, 0, 1, 0], []⟩, 0, 1, [0x81, 10, 0, 0, 0, 0, 1, 0], by decide +kernel⟩⟩

theorem witness_usbDevicesAnswerTheirControlRequests_3 :
    (∃ (s : State) (n : Fin 2) (k : Fin 5) (b : Bytes), (s.hub.live) ∧ (s.hub.setupFor (5 * n + k) .setHalt = some b)) ∧
    (∃ (s : State) (n : Fin 2) (k : Fin 5) (b : Bytes), (s.hub.live) ∧ (s.hub.setupFor (5 * n + k) .setHalt = some b)) ∧
    (∃ (s : State) (n : Fin 2) (k : Fin 5) (b : Bytes), (s.hub.live) ∧ (s.hub.setupFor (5 * n + k) .clearHalt = some b)) ∧
    (∃ (s : State) (n : Fin 2) (k : Fin 5) (b : Bytes), (s.hub.live) ∧ (s.hub.setupFor (5 * n + k) .remoteWakeup = some b)) ∧
    (∃ (s : State) (n : Fin 2) (k : Fin 5) (b : Bytes), (s.hub.live) ∧ (s.hub.setupFor (5 * n + k) .testMode = some b)) ∧
    (∃ (s : State) (n : Fin 2) (k : Fin 5) (b : Bytes), (s.hub.live) ∧ (s.hub.setupFor (5 * n + k) .testMode = some b)) ∧
    (∃ (s : State) (n : Fin 2) (b : Bytes) (f : Nat), (s.hub.live) ∧ (s.hub.setupFor (5 * n) .portReset = some b) ∧ (portOf b =
      some f)) ∧
    (∃ (s : State) (n : Fin 2) (b : Bytes) (f : Nat), (s.hub.live) ∧ (s.hub.setupFor (5 * n) .portPower = some b) ∧ (portOf b =
      some f)) :=
  ⟨
    ⟨⟨askFn [2, 3, 0, 0, 0x81, 0, 0, 0], []⟩, 0, 1, [2, 3, 0, 0, 0x81, 0, 0, 0], by decide +kernel⟩,
    ⟨⟨askFn [2, 3, 0, 0, 0x82, 0, 0, 0], []⟩, 0, 1, [2, 3, 0, 0, 0x82, 0, 0, 0], by decide +kernel⟩,
    ⟨⟨usbWith id (fun x => { x with ctrl := some ⟨[2, 1, 0, 0, 0x81, 0, 0, 0], false⟩, halts := ⟨[(0x81, 1)]⟩, toggles := ⟨[(0x81, 1)]⟩ }), []⟩, 0, 1, [2, 1, 0, 0, 0x81, 0, 0, 0], by decide +kernel⟩,
    ⟨⟨askFn [0, 3, 1, 0, 0, 0, 0, 0], []⟩, 0, 1, [0, 3, 1, 0, 0, 0, 0, 0], by decide +kernel⟩,
    ⟨⟨{ askHub [0, 3, 2, 0, 0, 4, 0, 0] with mode := up.mode }, []⟩, 0, 0, [0, 3, 2, 0, 0, 4, 0, 0], by decide +kernel⟩,
    ⟨⟨askFn [0, 3, 2, 0, 0, 4, 0, 0], []⟩, 0, 1, [0, 3, 2, 0, 0, 4, 0, 0], by decide +kernel⟩,
    ⟨⟨askHub [0x23, 3, 4, 0, 1, 0, 0, 0], []⟩, 0, [0x23, 3, 4, 0, 1, 0, 0, 0], 0, by decide +kernel⟩,
    ⟨⟨askHub [0x23, 3, 8, 0, 1, 0, 0, 0], []⟩, 0, [0x23, 3, 8, 0, 1, 0, 0, 0], 0, by decide +kernel⟩⟩

theorem witness_usbDevicesAnswerTheirControlRequests_4 :
    (∃ (s : State) (n : Fin 2) (b : Bytes) (f : Nat), (s.hub.live) ∧ (s.hub.setupFor (5 * n) .portPower = some b) ∧ (portOf b =
      some f)) ∧
    (∃ (s : State) (n : Fin 2) (b : Bytes) (f : Nat), (s.hub.live) ∧ (s.hub.setupFor (5 * n) .setPortSuspend = some b) ∧ (portOf b
      = some f)) ∧
    (∃ (s : State) (n : Fin 2) (b : Bytes) (f : Nat), (s.hub.live) ∧ (s.hub.setupFor (5 * n) .clearPortSuspend = some b) ∧ (portOf
      b = some f) ∧ ((s.hub.dev (fnKey n f)).suspended = true)) ∧
    (∃ (s : State) (n : Fin 2) (b : Bytes), (s.hub.live) ∧ (s.hub.setupFor (5 * n) .tt = some b)) ∧
    (∃ (s : State) (n : Fin 2) (k : Fin 5) (b : Bytes), (s.hub.live) ∧ (s.hub.setupFor (5 * n + k) .other = some b) ∧ (k.val ≠ 0)
      ∧ (bits 6 5 (field b 0 1) ≠ 0) ∧ (bit 7 (field b 0 1) = true) ∧ (s.hub.epCtx n (k.val - 1) 0 true = none)) ∧
    (∃ (s : State) (n : Fin 2) (k : Fin 5) (b : Bytes), (s.hub.live) ∧ (s.hub.setupFor (5 * n + k) .other = some b) ∧ (k.val ≠ 0)
      ∧ (bits 6 5 (field b 0 1) = 0) ∧ (field b 0 2 ≠ 0x0681)) ∧
    (∃ (s : State) (n : Fin 2) (f : Fin 4) (d : Bytes) (c : CtrlXfer), (s.hub.live) ∧ ((s.hub.dev (fnKey n f)).ctrl = some c) ∧
      (c.waiting = true) ∧ (field d 0 1 = 0x81) ∧ (field d 1 1 = f.val) ∧ (field d 2 2 = (s.hub.dev (fnKey n f)).ctrlSeq)) ∧
    (∃ (s : State) (n : Fin 2) (f : Fin 4) (d : Bytes) (c : CtrlXfer), (s.hub.live) ∧ ((s.hub.dev (fnKey n f)).ctrl = some c) ∧
      (c.waiting = true) ∧ (field d 0 1 = 0x81) ∧ (field d 1 1 = f.val) ∧ (field d 2 2 = (s.hub.dev (fnKey n f)).ctrlSeq)) :=
  ⟨
    ⟨⟨askHub [0x23, 1, 8, 0, 1, 0, 0, 0], []⟩, 0, [0x23, 1, 8, 0, 1, 0, 0, 0], 0, by decide +kernel⟩,
    ⟨⟨askHub [0x23, 3, 2, 0, 1, 0, 0, 0], []⟩, 0, [0x23, 3, 2, 0, 1, 0, 0, 0], 0, by decide +kernel⟩,
    ⟨⟨usbWith (fun x => { x with ctrl := some ⟨[0x23, 1, 2, 0, 1, 0, 0, 0], false⟩ }) (fun x => { x with suspended := true }), []⟩, 0, [0x23, 1, 2, 0, 1, 0, 0, 0], 0, by decide +kernel⟩,
    ⟨⟨askHub [0x23, 9, 0, 0, 1, 0, 0, 0], []⟩, 0, [0x23, 9, 0, 0, 1, 0, 0, 0], by decide +kernel⟩,
    ⟨⟨askFn [0xC0, 1, 0, 0, 0, 0, 4, 0], []⟩, 0, 1, [0xC0, 1, 0, 0, 0, 0, 4, 0], by decide +kernel⟩,
    ⟨⟨askFn [0, 7, 0, 0, 0, 0, 4, 0], []⟩, 0, 1, [0, 7, 0, 0, 0, 0, 4, 0], by decide +kernel⟩,
    ⟨⟨waitFn [0xC0, 1, 0, 0, 0, 0, 4, 0], []⟩, 0, 0, [0x81, 0, 7, 0, 0, 0, 0, 0, 0, 0, 0, 0, 0, 0, 0, 0, 5, 6], ⟨[0xC0, 1, 0, 0, 0, 0, 4, 0], true⟩, by decide +kernel⟩,
    ⟨⟨waitFn [0xC0, 1, 0, 0, 0, 0, 4, 0], []⟩, 0, 0, [0x81, 0, 7, 0, 1, 0, 0, 0, 0, 0, 0, 0, 0, 0, 0, 0, 5, 6], ⟨[0xC0, 1, 0, 0, 0, 0, 4, 0], true⟩, by decide +kernel⟩⟩

theorem witness_usbDevicesAnswerTheirControlRequests_5 :
    (∃ (s : State) (n : Fin 2) (f : Fin 4) (d : Bytes), (s.hub.live) ∧ (field d 2 2 ≠ (s.hub.dev (fnKey n f)).ctrlSeq)) ∧
    (∃ (s : State) (n : Fin 2) (f : Fin 4) (c : CtrlXfer), (s.hub.live) ∧ ((s.hub.dev (fnKey n f)).ctrl = some c) ∧ (c.waiting =
      true)) ∧
    (∃ (s : State) (n : Fin 2) (k : Fin 5), (s.hub.live) ∧ ((s.hub.dev (5 * n + k)).ctrl = none)) :=
  ⟨
    ⟨⟨waitFn [0xC0, 1, 0, 0, 0, 0, 4, 0], []⟩, 0, 0, [0x81, 0, 6, 0], by decide +kernel⟩,
    ⟨⟨waitFn [0xC0, 1, 0, 0, 0, 0, 4, 0], []⟩, 0, 0, ⟨[0xC0, 1, 0, 0, 0, 0, 4, 0], true⟩, by decide +kernel⟩,
    ⟨⟨usbUp, []⟩, 0, 1, by decide +kernel⟩⟩

theorem witness_usbDataMovesAndDevicesSleepAndWake_1 :
    (∃ (s : State) (n : Fin 2) (f : Fin 4) (ep : Fin 16) (toggle : Bool) (data : Bytes) (e : EpDesc), (s.hub.live) ∧
      (s.hub.reaches (fnKey n f) = true) ∧ (ep.val ≠ 0) ∧ (s.hub.activeEp n f ep = some e) ∧ (data.length ≤ e.maxPkt) ∧ ((s.hub.dev
      (fnKey n f)).halts.get 0 ep = 1 ∨ b2n toggle ≠ (s.hub.dev (fnKey n f)).toggles.get 0 ep)) ∧
    (∃ (s : State) (n : Fin 2) (f : Fin 4) (ep : Fin 16) (toggle : Bool) (data : Bytes) (e : EpDesc), (s.hub.live) ∧
      (s.hub.reaches (fnKey n f) = true) ∧ (ep.val ≠ 0) ∧ (s.hub.activeEp n f ep = some e) ∧ (data.length ≤ e.maxPkt) ∧ ((s.hub.dev
      (fnKey n f)).halts.get 0 ep = 1 ∨ b2n toggle ≠ (s.hub.dev (fnKey n f)).toggles.get 0 ep)) ∧
    (∃ (s : State) (n : Fin 2) (f : Fin 4) (ep : Fin 16) (toggle : Bool) (data : Bytes) (e : EpDesc) (i : Nat) (j : Nat) (k : Nat)
      (x : ClsEntry), (s.hub.live) ∧ (s.hub.reaches (fnKey n f) = true) ∧ (ep.val ≠ 0) ∧ (s.hub.activeEp n f ep = some e) ∧
      (data.length < e.maxPkt) ∧ ((s.hub.dev (fnKey n f)).halts.get 0 ep ≠ 1) ∧ (b2n toggle = (s.hub.dev (fnKey n f)).toggles.get 0
      ep) ∧ (s.hub.epCtx n f ep false = some i) ∧ (s.hub.outRoom n i = true) ∧ (s.hub.plainIn (14 + n)) ∧ (clsWinner (0x50 + n)
      (.usb f ep) s.hub.sw.cls.cells = some (k, x)) ∧ (s.hub.live? x.handle = some j) ∧ (s.hub.takesIn j) ∧ ((s.hub.ctx j).role ≠
      .transit) ∧ (portCode (s.hub.ctx j).localBind = 0x50 + n)) ∧
    (∃ (s : State) (n : Fin 2) (f : Fin 4) (ep : Fin 16) (toggle : Bool) (data : Bytes) (e : EpDesc) (i : Nat), (s.hub.live) ∧
      (s.hub.reaches (fnKey n f) = true) ∧ (ep.val ≠ 0) ∧ (s.hub.activeEp n f ep = some e) ∧ (data.length ≤ e.maxPkt) ∧ ((s.hub.dev
      (fnKey n f)).halts.get 0 ep ≠ 1) ∧ (b2n toggle = (s.hub.dev (fnKey n f)).toggles.get 0 ep) ∧ (s.hub.epCtx n f ep false = some
      i) ∧ (s.hub.outRoom n i = false)) ∧
    (∃ (s : State) (n : Fin 2) (f : Fin 4) (ep : Fin 16) (e : EpDesc) (i : Nat), (s.hub.live) ∧ (s.hub.reaches (fnKey n f) = true)
      ∧ (ep.val ≠ 0) ∧ (s.hub.activeEp n f ep = some e) ∧ (s.hub.epCtx n f ep false = some i)) ∧
    (∃ (s : State) (n : Fin 2) (f : Fin 4) (k : Fin 5) (ep : Fin 16) (e : EpDesc) (x : InSeg), (s.hub.live) ∧ (k.val = f.val + 1)
      ∧ (s.hub.reaches (fnKey n f) = true) ∧ (ep.val ≠ 0) ∧ (s.hub.activeEp n f (ep + 0x80) = some e) ∧ ((s.hub.dev (fnKey n
      f)).halts.get 0 (ep + 0x80) ≠ 1) ∧ ((s.hub.dev (fnKey n f)).inQueue.find? (fun y => decide (y.ep = ep.val)) = some x)) ∧
    (∃ (s : State) (n : Fin 2) (f : Fin 4) (k : Fin 5) (ep : Fin 16) (e : EpDesc) (x : InSeg), (s.hub.live) ∧ (k.val = f.val + 1)
      ∧ (s.hub.reaches (fnKey n f) = true) ∧ (ep.val ≠ 0) ∧ (s.hub.activeEp n f (ep + 0x80) = some e) ∧ ((s.hub.dev (fnKey n
      f)).halts.get 0 (ep + 0x80) ≠ 1) ∧ ((s.hub.dev (fnKey n f)).inQueue.find? (fun y => decide (y.ep = ep.val)) = some x)) ∧
    (∃ (s : State) (n : Fin 2) (f : Fin 4) (k : Fin 5) (ep : Fin 16) (e : EpDesc), (s.hub.live) ∧ (k.val = f.val + 1) ∧
      (s.hub.reaches (fnKey n f) = true) ∧ (ep.val ≠ 0) ∧ (s.hub.activeEp n f (ep + 0x80) = some e) ∧ ((s.hub.dev (fnKey n
      f)).halts.get 0 (ep + 0x80) = 1 ∨ ∀ y ∈ (s.hub.dev (fnKey n f)).inQueue, y.ep ≠ ep.val)) :=
  ⟨
    ⟨⟨usbUp, []⟩, 0, 0, 1, true, [7], ⟨0, 0, 1, 2, 512⟩, by decide +kernel⟩,
    ⟨⟨usbWith id (fun x => { x with halts := ⟨[(1, 1)]⟩ }), []⟩, 0, 0, 1, false, [7], ⟨0, 0, 1, 2, 512⟩, by decide +kernel⟩,
    ⟨⟨usbUp.setCls 9 usbKey, []⟩, 0, 0, 1, false, [7, 8], ⟨0, 0, 1, 2, 512⟩, 5, 5, 9, usbKey, by decide +kernel⟩,
    ⟨⟨{ usbUp with sw := { up.sw with stageIn := up.sw.stageIn.set 0 14 10000000 } }, []⟩, 0, 0, 1, false, [7], ⟨0, 0, 1, 2, 512⟩, 5, by decide +kernel⟩,
    ⟨⟨usbUp, []⟩, 0, 0, 1, ⟨0, 0, 1, 2, 512⟩, 5, by decide +kernel⟩,
    ⟨⟨usbWith id (fun x => { x with inQueue := [⟨1, 5, List.replicate 600 4, false, 600, none⟩] }), []⟩, 0, 0, 1, 1, ⟨0, 0, 0x81, 2, 512⟩, ⟨1, 5, List.replicate 600 4, false, 600, none⟩, by decide +kernel⟩,
    ⟨⟨usbWith id (fun x => { x with inQueue := [⟨1, 5, List.replicate 100 4, false, 100, none⟩] }), []⟩, 0, 0, 1, 1, ⟨0, 0, 0x81, 2, 512⟩, ⟨1, 5, List.replicate 100 4, false, 100, none⟩, by decide +kernel⟩,
    ⟨⟨usbUp, []⟩, 0, 0, 1, 1, ⟨0, 0, 0x81, 2, 512⟩, by decide +kernel⟩⟩

theorem witness_usbDataMovesAndDevicesSleepAndWake_2 :
    (∃ (s : State) (n : Fin 2), (s.hub.live) ∧ ((s.hub.dev (5 * n)).state ≠ .off) ∧ ((s.hub.dev (5 * n)).state ≠ .disconnected)) ∧
    (∃ (s : State) (n : Fin 2), (s.hub.live) ∧ ((s.hub.dev (5 * n)).state ≠ .off) ∧ ((s.hub.dev (5 * n)).state ≠ .disconnected) ∧
      ((s.hub.dev (5 * n)).suspended = false)) ∧
    (∃ (s : State) (n : Fin 2), (s.hub.live) ∧ ((s.hub.dev (5 * n)).suspended = true)) ∧
    (∃ (s : State) (n : Fin 2) (f : Fin 4), (s.hub.live) ∧ ((s.hub.dev (fnKey n f)).resuming = true)) ∧
    (∃ (s : State) (n : Fin 2) (f : Fin 4), (s.hub.live) ∧ ((s.hub.dev (fnKey n f)).wakePending = true) ∧ (s.hub.wakeEnabled n f =
      true) ∧ (s.hub.usbAsleep (fnKey n f) = true) ∧ ((s.hub.dev (fnKey n f)).state ≠ .off) ∧ ((s.hub.dev (fnKey n f)).state ≠
      .disconnected)) ∧
    (∃ (s : State) (req : Path) (c : Fin 8) (n : Fin 2) (f : Fin 4), (s.hub.takes req c 0x0820) ∧ (s.hub.inFog = false) ∧
      ((s.hub.dev (fnKey n f)).state ≠ .off) ∧ ((s.hub.dev (fnKey n f)).state ≠ .disconnected)) ∧
    (∃ (s : State) (req : Path) (c : Fin 8) (n : Fin 2) (f : Fin 4), (s.hub.takes req c 0x0820) ∧ (s.hub.inFog = false) ∧
      ((s.hub.dev (fnKey n f)).state ≠ .off) ∧ ((s.hub.dev (fnKey n f)).state ≠ .disconnected)) ∧
    (∃ (s : State) (req : Path) (c : Fin 8) (n : Fin 2) (f : Fin 4), (s.hub.takes req c 0x0820) ∧ (s.hub.inFog = false) ∧
      ((s.hub.dev (fnKey n f)).state ≠ .off) ∧ ((s.hub.dev (fnKey n f)).state ≠ .disconnected)) :=
  ⟨
    ⟨⟨usbUp, []⟩, 0, by decide +kernel⟩,
    ⟨⟨usbUp, []⟩, 0, by decide +kernel⟩,
    ⟨⟨usbWith (fun x => { x with suspended := true }) id, []⟩, 0, by decide +kernel⟩,
    ⟨⟨usbWith id (fun x => { x with resuming := true }), []⟩, 0, 0, by decide +kernel⟩,
    ⟨⟨{ usbWith (fun x => { x with suspended := true, rwake := true }) (fun x => { x with rwake := true, wakePending := true, wakeCommands := [3] }) with ctl := (up.accept 3 0x0820 9 []).ctl }, []⟩, 0, 0, by decide +kernel⟩,
    ⟨⟨usbUp, []⟩, .keeper, 0, 0, 0, by decide +kernel⟩,
    ⟨⟨usbWith id (fun x => { x with suspended := true, rwake := true }), []⟩, .keeper, 0, 0, 0, by decide +kernel⟩,
    ⟨⟨usbWith id (fun x => { x with suspended := true }), []⟩, .keeper, 0, 0, 0, by decide +kernel⟩⟩

theorem witness_usbDataMovesAndDevicesSleepAndWake_3 :
    (∃ (s : State) (req : Path) (c : Fin 8) (n : Fin 2) (f : Fin 4) (a : Byte), (s.hub.takes req c 0x0821) ∧ (s.hub.inFog = false)
      ∧ ((s.hub.dev (fnKey n f)).state = .configured) ∧ ((s.hub.activeEp n f a.toNat).isSome = true)) ∧
    (∃ (s : State) (req : Path) (c : Fin 8) (n : Fin 2) (f : Fin 4), (s.hub.takes req c 0x0822) ∧ (s.hub.inFog = false) ∧
      (s.hub.val (Od.fnEnable (fnIx n f)) ≠ 0) ∧ ((s.hub.dev (fnKey n f)).wakeCommands = [])) ∧
    (∃ (s : State) (n : Fin 2) (f : Fin 4) (c : Nat), (s.hub.live) ∧ ((s.hub.dev (fnKey n f)).reconnects = [c]) ∧ (c < 8) ∧
      ((s.hub.chan c).state = .running)) :=
  ⟨
    ⟨⟨usbUp, []⟩, .keeper, 0, 0, 0, 0x81, by decide +kernel⟩,
    ⟨⟨usbUp, []⟩, .keeper, 0, 0, 0, by decide +kernel⟩,
    ⟨⟨{ usbWith id (fun x => { x with reconnects := [3] }) with ctl := (up.accept 3 0x0822 9 []).ctl }, []⟩, 0, 0, 3, by decide +kernel⟩⟩

theorem witness_hostRequestsCrossWindows_1 :
    (∃ (s : State), (s.hub.live)) ∧
    (∃ (s : State) (a : BitVec 26), (s.hub.live) ∧ (s.hub.winAt a.toNat = none) ∧ (s.hub.hb.posted = [])) ∧
    (∃ (s : State) (a : BitVec 26) (w : Nat), (s.hub.live) ∧ (s.hub.winAt a.toNat = some w) ∧ (s.hub.winCtx w = none) ∧
      (s.hub.hb.posted = [])) ∧
    (∃ (s : State) (a : BitVec 26) (be : Byte) (d : Bytes) (w : Nat) (i : Nat), (s.hub.live) ∧ (bar2Wf a.toNat d.length 256 =
      true) ∧ (s.hub.winAt a.toNat = some w) ∧ (s.hub.winCtx w = some i) ∧ (s.hub.endsAt i 0x60) ∧ ((s.hub.win w).semaphore =
      false) ∧ (s.hub.hb.posted = []) ∧ (s.hub.eng.atProducer.all (fun j => decide (j.ingress ≠ 11)) = true) ∧
      (s.hub.sw.stageIn.get 0 11 + ((pieces (s.hub.winTo w a.toNat) d.length be.toNat).map (fun p => stageCharge (16 + p.2.1))).sum
      ≤ s.hub.quotaIn 11)) ∧
    (∃ (s : State) (a : BitVec 26) (be : Byte) (d : Bytes) (w : Nat) (i : Nat), (s.hub.live) ∧ (bar2Wf a.toNat d.length 256 =
      true) ∧ (s.hub.winAt a.toNat = some w) ∧ (s.hub.winCtx w = some i) ∧ (s.hub.endsAt i 0x60) ∧ ((s.hub.win w).semaphore =
      false) ∧ (s.hub.hb.posted = []) ∧ (s.hub.eng.atProducer.all (fun j => decide (j.ingress ≠ 11)) = true) ∧
      (s.hub.sw.stageIn.get 0 11 + ((pieces (s.hub.winTo w a.toNat) d.length be.toNat).map (fun p => stageCharge (16 + p.2.1))).sum
      ≤ s.hub.quotaIn 11)) ∧
    (∃ (s : State) (a : BitVec 26) (w : Nat) (i : Nat), (s.hub.live) ∧ (s.hub.winAt a.toNat = some w) ∧ (s.hub.winCtx w = some i)
      ∧ ((s.hub.win w).semaphore = true)) ∧
    (∃ (s : State), (s.hub.live) ∧ (s.hub.hb.posted ≠ [])) ∧
    (∃ (s : State) (a : BitVec 26), (s.hub.live) ∧ (s.hub.winAt a.toNat = none)) :=
  ⟨
    ⟨⟨winHub 1 WinSt.init, []⟩, by decide +kernel⟩,
    ⟨⟨winHub 1 WinSt.init, []⟩, 0x2FFFFC, by decide +kernel⟩,
    ⟨⟨(winHub 1 WinSt.init).setCtx 5 Ctx.init, []⟩, 0x300A40, 3, by decide +kernel⟩,
    ⟨⟨winHub 1 { WinSt.init with nextTag := 7 }, []⟩, 0x300A40, 255, List.replicate 256 3, 3, 5, by decide +kernel⟩,
    ⟨⟨winHub 1 { WinSt.init with nextTag := 65535 }, []⟩, 0x3FFFFC, 3, [1, 2, 3, 4], 3, 5, by decide +kernel⟩,
    ⟨⟨winHub 1 { WinSt.init with requests := [⟨0x300000, 4, some (0, 1, 0), 9, false, []⟩] }, []⟩, 0x300A40, 3, 5, by decide +kernel⟩,
    ⟨⟨{ winHub 1 WinSt.init with hb := { (winHub 1 WinSt.init).hb with posted := [⟨false, 0x20064, 15, [1, 2, 3, 4]⟩] } }, []⟩, by decide +kernel⟩,
    ⟨⟨winHub 1 WinSt.init, []⟩, 0x400000, by decide +kernel⟩⟩

theorem witness_hostRequestsCrossWindows_2 :
    (∃ (s : State) (a : BitVec 26) (w : Nat), (s.hub.live) ∧ (s.hub.winAt a.toNat = some w) ∧ (s.hub.winCtx w = none) ∧
      ((s.hub.win w).waiting = [])) ∧
    (∃ (s : State) (a : BitVec 26) (w : Nat), (s.hub.live) ∧ (s.hub.winAt a.toNat = some w) ∧ (s.hub.winCtx w = none) ∧
      ((s.hub.win w).waiting = [])) ∧
    (∃ (s : State) (a : BitVec 26) (l : BitVec 13) (w : Nat) (i : Nat), (s.hub.live) ∧ (bar2Wf a.toNat l.toNat 4096 = true) ∧
      (s.hub.winAt a.toNat = some w) ∧ (s.hub.winCtx w = some i) ∧ (s.hub.endsAt i 0x60) ∧ ((s.hub.win w).requests = []) ∧
      ((s.hub.win w).waiting = []) ∧ ((s.hub.win w).held = []) ∧ (s.hub.writeWaits w = false) ∧ ((s.hub.win w).reading < 8) ∧
      (s.hub.winTo w a.toNat % 256 + l.toNat ≤ 256)) ∧
    (∃ (s : State) (a : BitVec 26) (l : BitVec 13) (w : Nat) (i : Nat), (s.hub.live) ∧ (bar2Wf a.toNat l.toNat 4096 = true) ∧
      (s.hub.winAt a.toNat = some w) ∧ (s.hub.winCtx w = some i) ∧ (s.hub.endsAt i 0x60) ∧ ((s.hub.win w).requests = []) ∧
      ((s.hub.win w).waiting = []) ∧ ((s.hub.win w).held = []) ∧ (s.hub.writeWaits w = false) ∧ ((s.hub.win w).reading < 8) ∧
      (s.hub.winTo w a.toNat % 256 + l.toNat ≤ 256)) ∧
    (∃ (s : State) (a : BitVec 26) (l : BitVec 13) (w : Nat) (i : Nat) (p : PfPiece) (t : List PfPiece), (s.hub.live) ∧ (bar2Wf
      a.toNat l.toNat 4096 = true) ∧ (s.hub.winAt a.toNat = some w) ∧ (s.hub.winCtx w = some i) ∧ ((s.hub.win w).semaphore = false)
      ∧ ((s.hub.win w).waiting = []) ∧ ((s.hub.win w).held = p :: t) ∧ (p.addr = s.hub.winTo w a.toNat) ∧ (l.toNat ≤ p.data.length)
      ∧ (s.hub.writeWaits w = false)) ∧
    (∃ (s : State) (bar2 : Bool) (size : Fin 17), (s.hub.live) ∧ (bar2 = false ∨ (size.val ≠ 4 ∧ size.val ≠ 8))) ∧
    (∃ (s : State) (bar2 : Bool) (size : Fin 17), (s.hub.live) ∧ (bar2 = false ∨ (size.val ≠ 4 ∧ size.val ≠ 8))) ∧
    (∃ (s : State) (a : BitVec 26) (size : Fin 17) (w : Nat) (i : Nat), (s.hub.live) ∧ (size.val = 4 ∨ size.val = 8) ∧
      (s.hub.winAt a.toNat = some w) ∧ (s.hub.winCtx w = some i) ∧ (s.hub.endsAt i 0x60) ∧ ((s.hub.win w).semaphore = false) ∧
      ((s.hub.win w).waiting = []) ∧ (s.hub.writeWaits w = false)) :=
  ⟨
    ⟨⟨(winHub 1 WinSt.init).setCtx 5 Ctx.init, []⟩, 0x300A40, 3, by decide +kernel⟩,
    ⟨⟨(winHub 17 WinSt.init).setCtx 5 Ctx.init, []⟩, 0x300A40, 3, by decide +kernel⟩,
    ⟨⟨winHub 1 WinSt.init, []⟩, 0x300A40, 64, 3, 5, by decide +kernel⟩,
    ⟨⟨winHub 3 WinSt.init, []⟩, 0x3FFFFC, 4, 3, 5, by decide +kernel⟩,
    ⟨⟨winHub 3 { WinSt.init with held := [⟨0x100A40, List.replicate 256 9, false⟩] }, []⟩, 0x300A40, 64, 3, 5, ⟨0x100A40, List.replicate 256 9, false⟩, [], by decide +kernel⟩,
    ⟨⟨winHub 1 WinSt.init, []⟩, true, 16, by decide +kernel⟩,
    ⟨⟨winHub 1 WinSt.init, []⟩, false, 4, by decide +kernel⟩,
    ⟨⟨winHub 1 WinSt.init, []⟩, 0x300A40, 8, 3, 5, by decide +kernel⟩⟩

theorem witness_hostRequestsCrossWindows_3 :
    (∃ (s : State) (w : Fin 16) (s' : OutSeg) (r : WinReq) (p : Piece) (body : Bytes), (s.hub.live) ∧ (s.hub.winHead w = some s')
      ∧ (field s'.data 0 1 = 0x82) ∧ (field s'.data 12 4 = 0) ∧ ((s.hub.win w).owner (field s'.data 2 2) = some r) ∧ (r.atomic =
      none) ∧ (r.pieces = [p]) ∧ (p.tag = field s'.data 2 2) ∧ (body = (s'.data.drop 16).take (field s'.data 8 2)) ∧ (body ≠ [])) ∧
    (∃ (s : State) (w : Fin 16) (s' : OutSeg) (r : WinReq), (s.hub.live) ∧ (s.hub.winHead w = some s') ∧ (field s'.data 0 1 =
      0x82) ∧ (field s'.data 12 4 ≠ 0) ∧ ((s.hub.win w).owner (field s'.data 2 2) = some r)) ∧
    (∃ (s : State) (w : Fin 16) (s' : OutSeg) (r : WinReq) (p : Piece) (d : Bytes) (op : Nat) (x : Nat) (y : Nat) (i : Nat),
      (s.hub.live) ∧ (s.hub.winHead w = some s') ∧ (field s'.data 0 1 = 0x83) ∧ (field s'.data 12 4 = 0) ∧ ((s.hub.win w).requests
      = [r]) ∧ (r.ackTag = field s'.data 2 2) ∧ (r.atomic = some (op, x, y)) ∧ (r.pieces = [p]) ∧ (p.data = some d) ∧ (d ≠ []) ∧
      (s.hub.winCtx w = some i) ∧ (s.hub.endsAt i 0x60)) ∧
    (∃ (s : State) (w : Fin 16) (r : WinReq) (t : List WinReq), (s.hub.live) ∧ ((s.hub.win w).requests = r :: t)) ∧
    (∃ (s : State) (w : Fin 16) (v : Word), (s.hub.live) ∧ (s.hub.winOn w = false) ∧ (bit 0 v.toNat = true)) ∧
    (∃ (s : State) (w : Fin 16) (v : Word), (s.hub.live) ∧ (s.hub.winOn w = false) ∧ (bit 0 v.toNat = true)) ∧
    (∃ (s : State) (w : Fin 16) (v : Word) (i : Nat) (x : Ctx), (s.hub.live) ∧ (s.hub.winOn w = true) ∧ (bit 0 v.toNat = false) ∧
      ((i, x) ∈ s.hub.ctxList) ∧ (x.busy = true) ∧ (x.role ≠ .transit) ∧ (x.localBind = 0x60000000 + w)) :=
  ⟨
    ⟨⟨(winHub 1 { WinSt.init with requests := [⟨0x300A40, 4, none, 0, false, [⟨9, 0x100A40, 4, 15, true, none⟩]⟩] }).setOutQ 11 [⟨5, 1, 0x60000003, false, winSegment 0x82 0 9 0x100A40 4 0 0 [1, 2, 3, 4]⟩], []⟩, 3, ⟨5, 1, 0x60000003, false, winSegment 0x82 0 9 0x100A40 4 0 0 [1, 2, 3, 4]⟩, ⟨0x300A40, 4, none, 0, false, [⟨9, 0x100A40, 4, 15, true, none⟩]⟩, ⟨9, 0x100A40, 4, 15, true, none⟩, [1, 2, 3, 4], by decide +kernel⟩,
    ⟨⟨(winHub 1 { WinSt.init with requests := [⟨0x300A40, 4, none, 0, false, [⟨9, 0x100A40, 4, 15, true, none⟩]⟩] }).setOutQ 11 [⟨5, 1, 0x60000003, false, winSegment 0x82 0 9 0x100A40 0 0 abDenied []⟩], []⟩, 3, ⟨5, 1, 0x60000003, false, winSegment 0x82 0 9 0x100A40 0 0 abDenied []⟩, ⟨0x300A40, 4, none, 0, false, [⟨9, 0x100A40, 4, 15, true, none⟩]⟩, by decide +kernel⟩,
    ⟨⟨(winHub 1 { WinSt.init with requests := [⟨0x300A40, 4, some (0, 5, 0), 9, false, [⟨10, 0x100A40, 4, 15, true, some [3, 0, 0, 0]⟩]⟩] }).setOutQ 11 [⟨5, 1, 0x60000003, false, winSegment 0x83 0 9 0x100A40 0 0 0 []⟩], []⟩, 3, ⟨5, 1, 0x60000003, false, winSegment 0x83 0 9 0x100A40 0 0 0 []⟩, ⟨0x300A40, 4, some (0, 5, 0), 9, false, [⟨10, 0x100A40, 4, 15, true, some [3, 0, 0, 0]⟩]⟩, ⟨10, 0x100A40, 4, 15, true, some [3, 0, 0, 0]⟩, [3, 0, 0, 0], 0, 5, 0, 5, by decide +kernel⟩,
    ⟨⟨winHub 17 { WinSt.init with requests := [⟨0x300A40, 4, none, 0, false, [⟨9, 0x100A40, 4, 15, true, none⟩]⟩] }, []⟩, 3, ⟨0x300A40, 4, none, 0, false, [⟨9, 0x100A40, 4, 15, true, none⟩]⟩, [], by decide +kernel⟩,
    ⟨⟨winHub 0 WinSt.init, []⟩, 3, 1, by decide +kernel⟩,
    ⟨⟨((winHub 1 WinSt.init).putReg (Rg.win 4 0) 0x3FF), []⟩, 4, 1, by decide +kernel⟩,
    ⟨⟨winHub 3 { WinSt.init with held := [⟨0x100A40, List.replicate 256 9, true⟩] }, []⟩, 3, 2, 5, (winHub 3 WinSt.init).ctx 5, by decide +kernel⟩⟩

theorem witness_memoryEndAndHostQueuesServeRequests_1 :
    (∃ (s : State) (i : Byte) (x : OutSeg) (far : Nat) (be : Nat), (s.hub.live) ∧ (s.hub.memHead i.toNat = some x) ∧ (i.toNat ∉
      s.hub.hb.lockSkip) ∧ (field x.data 0 1 = 1) ∧ (s.hub.memWaits i.toNat = false) ∧ (s.hub.memFault i.toNat x.data = none) ∧
      (s.hub.areaOf i.toNat = 1) ∧ (s.hub.sw.damaged = []) ∧ (far = 0x20400000 + field x.data 4 4) ∧ (be = field x.data 10 1)) ∧
    (∃ (s : State) (i : Byte) (x : OutSeg), (s.hub.live) ∧ (s.hub.memHead i.toNat = some x) ∧ (s.hub.areaOf i.toNat = 1) ∧
      (s.hub.sw.damaged = [])) ∧
    (∃ (s : State) (i : Byte) (x : OutSeg), (s.hub.live) ∧ (s.hub.memHead i.toNat = some x) ∧ (i.toNat ∉ s.hub.hb.lockSkip) ∧
      (field x.data 0 1 = 1) ∧ (s.hub.memWaits i.toNat = false) ∧ ((s.hub.memFault i.toNat x.data).isSome = true)) ∧
    (∃ (s : State) (i : Byte) (x : OutSeg), (s.hub.live) ∧ (s.hub.memHead i.toNat = some x) ∧ (i.toNat ∉ s.hub.hb.lockSkip) ∧
      (field x.data 0 1 = 2) ∧ (s.hub.memWaits i.toNat = false) ∧ (s.hub.memFault i.toNat x.data = none) ∧ (s.hub.areaOf i.toNat =
      1) ∧ (s.hub.sw.damaged = []) ∧ (s.hub.endsAt i.toNat 0xA0) ∧ (s.hub.producerWaits i.toNat (16 + field x.data 8 2) = false)) ∧
    (∃ (s : State) (i : Byte) (x : OutSeg), (s.hub.live) ∧ (s.hub.memHead i.toNat = some x) ∧ (i.toNat ∉ s.hub.hb.lockSkip) ∧
      (field x.data 0 1 = 2) ∧ (s.hub.memWaits i.toNat = false) ∧ (s.hub.endsAt i.toNat 0xA0) ∧ (s.hub.producerWaits i.toNat 16 =
      false)) ∧
    (∃ (s : State) (i : Byte) (j : Nat), (s.hub.live) ∧ (i.toNat ∉ s.hub.hb.lockSkip) ∧ (s.hub.areaOf i.toNat = 1) ∧
      (s.hub.hb.lockHolder = some j) ∧ (j ≠ i.toNat)) ∧
    (∃ (s : State) (i : Byte) (x : OutSeg), (s.hub.live) ∧ (s.hub.memHead i.toNat = some x) ∧ (i.toNat ∉ s.hub.hb.lockSkip) ∧
      (field x.data 0 1 = 3) ∧ (s.hub.areaOf i.toNat = 1) ∧ (s.hub.hb.lockHolder = none) ∧ (s.hub.endsAt i.toNat 0xA0) ∧
      (s.hub.producerWaits i.toNat 16 = false)) ∧
    (∃ (s : State) (i : Byte) (x : OutSeg), (s.hub.live) ∧ (s.hub.memHead i.toNat = some x) ∧ (i.toNat ∉ s.hub.hb.lockSkip) ∧
      (field x.data 0 1 = 3) ∧ (s.hub.areaOf i.toNat ≠ 1) ∧ (s.hub.endsAt i.toNat 0xA0) ∧ (s.hub.producerWaits i.toNat 16 = false)) :=
  ⟨
    ⟨⟨memHub 1 (winSegment 1 0 9 0x1044 8 0xC3 0 [1, 2, 3, 4, 5, 6, 7, 8]), []⟩, 5, ⟨5, 1, 0xA0180000, false, winSegment 1 0 9 0x1044 8 0xC3 0 [1, 2, 3, 4, 5, 6, 7, 8]⟩, 0x20401044, 0xC3, by decide +kernel⟩,
    ⟨⟨memHub 1 (winSegment 1 0 9 0x1044 8 0xC3 0 [1, 2, 3, 4, 5, 6, 7, 8]), []⟩, 5, ⟨5, 1, 0xA0180000, false, winSegment 1 0 9 0x1044 8 0xC3 0 [1, 2, 3, 4, 5, 6, 7, 8]⟩, by decide +kernel⟩,
    ⟨⟨memHub 1 (winSegment 1 0 9 0x1042 8 0xC3 0 [1, 2, 3, 4, 5, 6, 7, 8]), []⟩, 5, ⟨5, 1, 0xA0180000, false, winSegment 1 0 9 0x1042 8 0xC3 0 [1, 2, 3, 4, 5, 6, 7, 8]⟩, by decide +kernel⟩,
    ⟨⟨(memHub 1 (winSegment 2 0 9 0x1044 8 0xFF 0 [])).memWrite 0x20401048 7, []⟩, 5, ⟨5, 1, 0xA0180000, false, winSegment 2 0 9 0x1044 8 0xFF 0 []⟩, by decide +kernel⟩,
    ⟨⟨memHub 1 (winSegment 2 0 9 0x600000 8 0xFF 0 []), []⟩, 5, ⟨5, 1, 0xA0180000, false, winSegment 2 0 9 0x600000 8 0xFF 0 []⟩, by decide +kernel⟩,
    ⟨⟨{ memHub 1 (winSegment 1 0 9 0x1044 8 0xC3 0 [1, 2, 3, 4, 5, 6, 7, 8]) with hb := { HbSt.init with lockHolder := some 9 } }, []⟩, 5, 9, by decide +kernel⟩,
    ⟨⟨memHub 1 (winSegment 3 0 9 0x1044 0 0 0 []), []⟩, 5, ⟨5, 1, 0xA0180000, false, winSegment 3 0 9 0x1044 0 0 0 []⟩, by decide +kernel⟩,
    ⟨⟨memHub 0 (winSegment 3 0 9 0x1044 0 0 0 []), []⟩, 5, ⟨5, 1, 0xA0080000, false, winSegment 3 0 9 0x1044 0 0 0 []⟩, by decide +kernel⟩⟩

theorem witness_memoryEndAndHostQueuesServeRequests_2 :
    (∃ (s : State) (i : Byte) (x : OutSeg), (s.hub.live) ∧ (s.hub.memHead i.toNat = some x) ∧ (i.toNat ∉ s.hub.hb.lockSkip) ∧
      (s.hub.producerWaits i.toNat 16 = true)) ∧
    (∃ (s : State) (i : Byte) (x : OutSeg), (s.hub.live) ∧ (s.hub.memHead i.toNat = some x) ∧ (i.toNat ∉ s.hub.hb.lockSkip) ∧
      (field x.data 0 1 = 4)) ∧
    (∃ (s : State) (i : Nat), (s.hub.live) ∧ (s.hub.hb.lockHolder = some i)) ∧
    (∃ (s : State) (q : Fin 32) (v : Word) (n : Nat), (s.hub.live) ∧ (s.hub.qRuns q = true) ∧ ((s.hub.hostQ q).tx = []) ∧
      ((s.hub.hostQ q).reading = []) ∧ (n = min 8 (min (s.hub.qSize q false - (s.hub.hostQ q).txRead) ((v.toNat % 4096 %
      s.hub.qSize q false + s.hub.qSize q false - (s.hub.hostQ q).txRead) % s.hub.qSize q false))) ∧ (n ≠ 0)) ∧
    (∃ (s : State) (q : Fin 32) (v : Word) (n : Nat), (s.hub.live) ∧ (s.hub.qRuns q = true) ∧ ((s.hub.hostQ q).rx = []) ∧
      ((s.hub.hostQ q).reading = []) ∧ (n = min 8 (min (s.hub.qSize q true - (s.hub.hostQ q).rxRead) ((v.toNat % 4096 % s.hub.qSize
      q true + s.hub.qSize q true - (s.hub.hostQ q).rxRead) % s.hub.qSize q true))) ∧ (n ≠ 0)) ∧
    (∃ (s : State) (q : Fin 32) (r : DmaRead) (t : List DmaRead), (s.hub.live) ∧ ((s.hub.hostQ q).reading = r :: t)) ∧
    (∃ (s : State) (q : Fin 32) (r : DmaRead) (t : List DmaRead), (s.hub.live) ∧ ((s.hub.hostQ q).reading = r :: t) ∧
      (r.descriptors = true) ∧ (r.rx = false) ∧ (0 < r.count) ∧ (s.hub.qCtx q = none)) ∧
    (∃ (s : State) (q : Fin 32) (data : Bytes) (r : DmaRead) (t : List DmaRead) (d : QDesc) (i : Nat), (s.hub.live) ∧
      ((s.hub.hostQ q).reading = r :: t) ∧ (r.descriptors = false) ∧ ((s.hub.hostQ q).tx = [d]) ∧ (s.hub.qCtx q = some i) ∧
      (s.hub.endsAt i 0x61) ∧ (data.take d.len ≠ [])) :=
  ⟨
    ⟨⟨{ memHub 1 (winSegment 3 0 9 0x1044 0 0 0 []) with sw := { SwSt.init with poolLow := true } }, []⟩, 5, ⟨5, 1, 0xA0180000, false, winSegment 3 0 9 0x1044 0 0 0 []⟩, by decide +kernel⟩,
    ⟨⟨{ memHub 1 (winSegment 4 0 9 0x1044 0 0 0 []) with hb := { HbSt.init with lockHolder := some 5 } }, []⟩, 5, ⟨5, 1, 0xA0180000, false, winSegment 4 0 9 0x1044 0 0 0 []⟩, by decide +kernel⟩,
    ⟨⟨{ memHub 1 (winSegment 4 0 9 0x1044 0 0 0 []) with hb := { HbSt.init with lockHolder := some 5 } }, []⟩, 5, by decide +kernel⟩,
    ⟨⟨qHub 1 { HostQ.init with txRead := 14 }, []⟩, 2, 0x18, 2, by decide +kernel⟩,
    ⟨⟨qHub 0x1001 HostQ.init, []⟩, 2, 31, 8, by decide +kernel⟩,
    ⟨⟨qHub 1 { HostQ.init with reading := [⟨false, true, 4, 2⟩] }, []⟩, 2, ⟨false, true, 4, 2⟩, [], by decide +kernel⟩,
    ⟨⟨(qHub 1 { HostQ.init with reading := [⟨false, true, 15, 1⟩] }).setCtx 5 Ctx.init, []⟩, 2, ⟨false, true, 15, 1⟩, [], by decide +kernel⟩,
    ⟨⟨qHub 1 { HostQ.init with tx := [desc1], reading := [⟨false, false, 0, 4⟩] }, []⟩, 2, [1, 2, 3, 4], ⟨false, false, 0, 4⟩, [], desc1, 5, by decide +kernel⟩⟩

theorem witness_memoryEndAndHostQueuesServeRequests_3 :
    (∃ (s : State), (s.hub.live)) ∧
    (∃ (s : State) (q : Fin 32) (r : DmaRead) (t : List DmaRead), (s.hub.live) ∧ ((s.hub.hostQ q).reading = r :: t)) ∧
    (∃ (s : State) (speed : Fin 4) (width : Fin 3), (s.hub.live) ∧ (min speed.val s.hub.hb.maxSpeed ≠ 0) ∧ (min speed.val
      s.hub.hb.maxSpeed ≠ s.hub.hb.speed ∨ min width.val s.hub.hb.maxWidth ≠ s.hub.hb.width)) ∧
    (∃ (s : State), (s.hub.live) ∧ (s.hub.hb.speed ≠ 0)) :=
  ⟨
    ⟨⟨qHub 0x10030001 { HostQ.init with modTimer := true, irqPending := true }, []⟩, by decide +kernel⟩,
    ⟨⟨qHub 1 { HostQ.init with reading := [⟨true, true, 4, 2⟩] }, []⟩, 2, ⟨true, true, 4, 2⟩, [], by decide +kernel⟩,
    ⟨⟨winHub 3 WinSt.init, []⟩, 3, 2, by decide +kernel⟩,
    ⟨⟨{ winHub 3 WinSt.init with hb := { HbSt.init with speed := 3, width := 2 } }, []⟩, by decide +kernel⟩⟩

theorem witness_pairMessagesMoveSwapsAndEpochs_1 :
    (∃ (s : State) (p : Fin 3), (s.hub.live) ∧ (s.hub.pairMember = true) ∧ (s.hub.sysOpen p = true) ∧ (s.hub.pairBuoy = false) ∧
      (s.hub.mode.active ≠ .lighthouse)) ∧
    (∃ (s : State) (p : Fin 3) (e : Word) (strap : Byte), (s.hub.live) ∧ (s.hub.pairMember = true) ∧ (s.hub.sysOpen p = true) ∧
      (s.hub.pairBuoy = false) ∧ (s.hub.mode.active = .lighthouse) ∧ (s.hub.pair.epoch < e.toNat ∨ (s.hub.pair.epoch = e.toNat ∧
      strap = 1 ∧ s.hub.mode.strap ≠ 1))) ∧
    (∃ (s : State) (p : Fin 3) (e : Word) (strap : Byte), (s.hub.live) ∧ (s.hub.pairMember = true) ∧ (s.hub.sysOpen p = true) ∧
      (s.hub.pairBuoy = false) ∧ (s.hub.mode.active = .lighthouse) ∧ (s.hub.pair.epoch < e.toNat ∨ (s.hub.pair.epoch = e.toNat ∧
      strap = 1 ∧ s.hub.mode.strap ≠ 1))) ∧
    (∃ (s : State) (e : Word), (s.hub.live) ∧ (s.hub.pairBuoy = false) ∧ (s.hub.mode.active = .lighthouse) ∧ (e.toNat <
      s.hub.pair.epoch)) ∧
    (∃ (s : State) (p : Fin 3) (e : Word), (s.hub.live) ∧ (s.hub.pairMember = true) ∧ (s.hub.sysOpen p = true) ∧ (e.toNat ≤
      s.hub.pair.epoch ∨ s.hub.swapping = true)) ∧
    (∃ (s : State) (p : Fin 3) (e : Word), (s.hub.live) ∧ (s.hub.pairMember = true) ∧ (s.hub.sysOpen p = true) ∧ (e.toNat ≤
      s.hub.pair.epoch ∨ s.hub.swapping = true)) ∧
    (∃ (s : State) (p : Fin 3) (e : Word) (kind : Byte), (s.hub.live) ∧ (s.hub.pairMember = true) ∧ (s.hub.sysOpen p = true) ∧
      (s.hub.pair.epoch < e.toNat) ∧ (s.hub.swapping = false) ∧ (kind.toNat ≠ 1)) ∧
    (∃ (s : State) (p : Fin 3) (e : Word), (s.hub.live) ∧ (s.hub.pairMember = true) ∧ (s.hub.sysOpen p = true) ∧ (s.hub.pair.epoch
      < e.toNat) ∧ (s.hub.swapping = false)) :=
  ⟨
    ⟨⟨{ pairHub .standby with pair := { (pairHub .standby).pair with state := .joining, silenceTimer := true, epoch := 0 } }, []⟩, 2, by decide +kernel⟩,
    ⟨⟨pairHub .lighthouse, []⟩, 2, 7, 2, by decide +kernel⟩,
    ⟨⟨{ pairHub .lighthouse with mode := { (pairHub .lighthouse).mode with strap := 2 } }, []⟩, 2, 6, 1, by decide +kernel⟩,
    ⟨⟨pairHub .lighthouse, []⟩, 5, by decide +kernel⟩,
    ⟨⟨pairHub .lighthouse, []⟩, 2, 6, by decide +kernel⟩,
    ⟨⟨swapIn (pairHub .lighthouse) asReceiver, []⟩, 0, 9, by decide +kernel⟩,
    ⟨⟨pairHub .lighthouse, []⟩, 2, 7, 2, by decide +kernel⟩,
    ⟨⟨pairHub .lighthouse, []⟩, 2, 7, by decide +kernel⟩⟩

theorem witness_pairMessagesMoveSwapsAndEpochs_2 :
    (∃ (s : State) (w : Swap), (s.hub.live) ∧ (s.hub.pair.swap = some w) ∧ (w.candidate = false) ∧ (w.drained = false) ∧
      (w.commitSf = none)) ∧
    (∃ (s : State) (p : Fin 3) (e : Word) (w : Swap) (sf : Nat), (s.hub.live) ∧ (s.hub.pair.swap = some w) ∧ (w.candidate = true)
      ∧ (w.epoch = e.toNat) ∧ (w.awaited = [p.val]) ∧ (w.commitSf = none) ∧ (sf = (s.hub.links.sf + s.hub.val Od.pairSwapLead) % 2
      ^ 32)) ∧
    (∃ (s : State) (p : Fin 3) (e : Word) (w : Swap), (s.hub.live) ∧ (s.hub.pair.swap = some w) ∧ (w.candidate = true) ∧ (w.epoch
      = e.toNat) ∧ (p.val ∈ w.awaited) ∧ (∃ q ∈ w.awaited, q ≠ p.val)) ∧
    (∃ (s : State) (p : Fin 3) (w : Swap), (s.hub.live) ∧ (s.hub.pair.swap = some w) ∧ (w.candidate = true) ∧ (w.commitSf = none)
      ∧ (p.val ∈ w.awaited ++ w.ready)) ∧
    (∃ (s : State), (s.hub.live)) ∧
    (∃ (s : State) (p : Fin 3) (e : Word) (w : Swap), (s.hub.live) ∧ (s.hub.inSwap p e.toNat = true) ∧ (s.hub.pair.swap = some w)
      ∧ (w.commitSf = none)) ∧
    (∃ (s : State) (w : Swap), (s.hub.live) ∧ (s.hub.pair.prepTimer = true) ∧ (s.hub.pair.swap = some w) ∧ (w.commitSf = none)) ∧
    (∃ (s : State) (w : Swap), (s.hub.live) ∧ (s.hub.pair.prepTimer = true) ∧ (s.hub.pair.swap = some w) ∧ (w.commitSf = none)) :=
  ⟨
    ⟨⟨swapIn (pairHub .lighthouse) asReceiver, []⟩, asReceiver, by decide +kernel⟩,
    ⟨⟨swapIn (pairHub .standby) asCandidate, []⟩, 2, 7, asCandidate, 2, by decide +kernel⟩,
    ⟨⟨swapIn (pairHub .standby) { asCandidate with awaited := [2, 1] }, []⟩, 2, 7, { asCandidate with awaited := [2, 1] }, by decide +kernel⟩,
    ⟨⟨swapIn (pairHub .standby) asCandidate, []⟩, 2, asCandidate, by decide +kernel⟩,
    ⟨⟨swapIn (pairHub .lighthouse) asReceiver, []⟩, by decide +kernel⟩,
    ⟨⟨swapIn (pairHub .lighthouse) asReceiver, []⟩, 2, 7, asReceiver, by decide +kernel⟩,
    ⟨⟨swapIn (pairHub .standby) asCandidate, []⟩, asCandidate, by decide +kernel⟩,
    ⟨⟨swapIn (pairHub .lighthouse) asReceiver, []⟩, asReceiver, by decide +kernel⟩⟩

theorem witness_pairMessagesMoveSwapsAndEpochs_3 :
    (∃ (s : State) (w : Swap), (s.hub.live) ∧ (s.hub.pair.swap = some w) ∧ (w.candidate = true) ∧ (w.commitSf = some
      s.hub.links.sf)) ∧
    (∃ (s : State) (w : Swap), (s.hub.live) ∧ (s.hub.pairBuoy = false) ∧ (s.hub.pair.swap = some w) ∧ (w.candidate = false) ∧
      (w.commitSf = some s.hub.links.sf)) ∧
    (∃ (s : State) (w : Swap), (s.hub.live) ∧ (s.hub.pairBuoy = true) ∧ (s.hub.pair.swap = some w) ∧ (w.candidate = false) ∧
      (w.commitSf = some s.hub.links.sf)) ∧
    (∃ (s : State) (p : Fin 3), (s.hub.live) ∧ (s.hub.pairBuoy = true) ∧ (s.hub.pair.primaryPort = some p.val)) ∧
    (∃ (s : State), (s.hub.live) ∧ (s.hub.pairBuoy = false) ∧ (s.hub.standby = true) ∧ (s.hub.pairMember = true) ∧ (s.hub.swapping
      = false) ∧ (s.hub.plkSilent = true) ∧ (s.hub.buoyLinks ≠ []) ∧ (∀ q ∈ s.hub.buoyLinks, s.hub.pair.lostBy.get 0 q = 1)) ∧
    (∃ (s : State), (s.hub.live) ∧ (s.hub.pairBuoy = false) ∧ (s.hub.standby = true) ∧ (s.hub.pairMember = true) ∧ (s.hub.swapping
      = false) ∧ (s.hub.plkSilent = true) ∧ (s.hub.val Od.pairPairLoss < s.hub.bcn.undecoded) ∧ (s.hub.pair.split = false) ∧ (∃ q ∈
      s.hub.buoyLinks, s.hub.pair.hears.get 0 q = 2) ∧ (∃ q ∈ s.hub.buoyLinks, s.hub.pair.lostBy.get 0 q ≠ 1)) ∧
    (∃ (s : State), (s.hub.live) ∧ (s.hub.pair.silenceTimer = true) ∧ (s.hub.pair.state = .joining) ∧ (s.hub.standby = true)) :=
  ⟨
    ⟨⟨swapIn (pairHub .standby) { asCandidate with commitSf := some 0 }, []⟩, { asCandidate with commitSf := some 0 }, by decide +kernel⟩,
    ⟨⟨swapIn (pairHub .lighthouse) { asReceiver with commitSf := some 0 }, []⟩, { asReceiver with commitSf := some 0 }, by decide +kernel⟩,
    ⟨⟨swapIn pairBuoyHub { asReceiver with port := 1, commitSf := some 0 }, []⟩, { asReceiver with port := 1, commitSf := some 0 }, by decide +kernel⟩,
    ⟨⟨{ pairBuoyHub with bcn := { pairBuoyHub.bcn with undecoded := 4 } }, []⟩, 0, by decide +kernel⟩,
    ⟨⟨{ pairHub .standby with bcn := { up.bcn with undecoded := 5 }, pair := { (pairHub .standby).pair with lostBy := ⟨[(0, 1)]⟩ } }, []⟩, by decide +kernel⟩,
    ⟨⟨{ pairHub .standby with bcn := { up.bcn with undecoded := 5 }, pair := { (pairHub .standby).pair with hears := ⟨[(0, 2)]⟩ } }, []⟩, by decide +kernel⟩,
    ⟨⟨{ pairHub .standby with pair := { (pairHub .standby).pair with state := .joining, silenceTimer := true, heardMax := 8 } }, []⟩, by decide +kernel⟩⟩

theorem witness_mirrorRecordsAreAppliedAndAcknowledged :
    (∃ (s : State), (s.hub.live) ∧ (s.hub.standby = true) ∧ (s.hub.pairMember = true) ∧ (s.hub.sysOpen 2 = true)) ∧
    (∃ (s : State), (s.hub.live) ∧ (s.hub.standby = true) ∧ (s.hub.pairMember = true) ∧ (s.hub.sysOpen 2 = true)) ∧
    (∃ (s : State) (seq : BitVec 16) (c : Nat) (status : Nat) (data : Bytes) (n : Nat), (s.hub.live) ∧ (c < 8) ∧ ((s.hub.chan
      c).state = .running) ∧ (s.hub.pair.unacked = [(seq.toNat, [.command c status data])]) ∧ (s.hub.pair.resync = some n)) ∧
    (∃ (s : State) (seq : BitVec 16) (l : List (Nat × List MirrorEnd)), (s.hub.live) ∧ (s.hub.pair.unacked = (seq.toNat, []) :: l)
      ∧ (l ≠ [])) ∧
    (∃ (s : State), (s.hub.live) ∧ (s.hub.pair.unacked ≠ []) ∧ (s.hub.pair.inStep = true ∨ s.hub.pair.resync ≠ none)) ∧
    (∃ (s : State) (req : Path) (c : Fin 8), (s.hub.takes req c 0x0900) ∧ (s.hub.mode.confirmed = true) ∧ (s.hub.standby = true) ∧
      (s.hub.mode.pairConfig = true) ∧ (s.hub.swapping = false) ∧ (s.hub.running 2 = true) ∧ (s.hub.pair.inStep = true)) ∧
    (∃ (s : State) (req : Path) (c : Fin 8), (s.hub.takes req c 0x0900) ∧ (s.hub.mode.confirmed = true) ∧ (s.hub.standby = true) ∧
      (s.hub.mode.pairConfig = true) ∧ (s.hub.swapping = false) ∧ (s.hub.running 2 = true) ∧ (s.hub.pair.inStep = false)) ∧
    (∃ (s : State) (req : Path) (c : Fin 8), (s.hub.takes req c 0x0901) ∧ (s.hub.mode.active = .lighthouse) ∧
      (s.hub.mode.pairConfig = true) ∧ (s.hub.swapping = false) ∧ (s.hub.mirroring = true)) :=
  ⟨
    ⟨⟨pairHub .standby, []⟩, by decide +kernel⟩,
    ⟨⟨{ pairHub .standby with pair := { (pairHub .standby).pair with inStep := false } }, []⟩, by decide +kernel⟩,
    ⟨⟨{ pairHub .lighthouse with pair := { (pairHub .lighthouse).pair with unacked := [(9, [.command 3 0 []])], resync := some 4, resyncCommand := some 2, inStep := false } }, []⟩, 9, 3, 0, [], 4, by decide +kernel⟩,
    ⟨⟨{ pairHub .lighthouse with pair := { (pairHub .lighthouse).pair with unacked := [(9, []), (10, [])], resync := some 4 } }, []⟩, 9, [(10, [])], by decide +kernel⟩,
    ⟨⟨{ pairHub .lighthouse with pair := { (pairHub .lighthouse).pair with unacked := [(9, [.command 3 0 []]), (10, [])] } }, []⟩, by decide +kernel⟩,
    ⟨⟨pairHub .standby, []⟩, .keeper, 4, by decide +kernel⟩,
    ⟨⟨{ pairHub .standby with pair := { (pairHub .standby).pair with inStep := false } }, []⟩, .keeper, 4, by decide +kernel⟩,
    ⟨⟨pairHub .lighthouse, []⟩, .keeper, 4, by decide +kernel⟩⟩

theorem witness_theStageMovesAsTheTableOfR476Says_1 :
    (∃ (s : State) (i : Fin 2), (s.hub.live) ∧ (s.hub.inFog = false) ∧ (s.hub.seatIn i = false) ∧ (s.hub.moor.stage = .seating) ∧
      (i.val ∈ s.hub.stageInputs) ∧ (∀ j ∈ s.hub.stageInputs, j = i.val ∨ s.hub.seatIn j = true)) ∧
    (∃ (s : State) (i : Fin 2), (s.hub.live) ∧ (s.hub.seatIn i = true) ∧ (i.val ∈ s.hub.stageInputs) ∧ (s.hub.moor.stage ≠ .off)) ∧
    (∃ (s : State) (i : Fin 2), (s.hub.live) ∧ (s.hub.seatIn i = true) ∧ (i.val ∈ s.hub.stageInputs) ∧ (s.hub.moor.stage ≠ .off)) ∧
    (∃ (s : State), (s.hub.live) ∧ (s.hub.moor.stage = .unseated) ∧ (s.hub.stageInputs ≠ [])) ∧
    (∃ (s : State) (f : Nat), (s.hub.live) ∧ (s.hub.moor.stage = .check) ∧ (s.hub.moor.holdOff = false) ∧ (s.hub.moorSupply =
      true) ∧ (s.hub.moor.feed = some f)) ∧
    (∃ (s : State), (s.hub.live) ∧ (s.hub.moor.stage = .check) ∧ (s.hub.moor.holdOff = false) ∧ (s.hub.moorRole = .lightship)) ∧
    (∃ (s : State), (s.hub.live) ∧ (s.hub.moor.stage = .check) ∧ (s.hub.moor.holdOff = false)) ∧
    (∃ (s : State), (s.hub.live) ∧ (s.hub.moor.stage = .ramp)) :=
  ⟨
    ⟨⟨moorHub .seating (fun m => { m with seatConfirmed := ⟨[(0, 1)]⟩ }), []⟩, 1, by decide +kernel⟩,
    ⟨⟨moorHub .powered (fun m => { m with gate := true }), []⟩, 0, by decide +kernel⟩,
    ⟨⟨moorHub .unseated id, []⟩, 0, by decide +kernel⟩,
    ⟨⟨moorHub .unseated (fun m => { m with seatConfirmed := ⟨[]⟩ }), []⟩, by decide +kernel⟩,
    ⟨⟨moorHub .check id, []⟩, 0, by decide +kernel⟩,
    ⟨⟨asMode .lightship (moorHub .check (conn0 (fun x => { x with modes := 2, profile := 2 }))), []⟩, by decide +kernel⟩,
    ⟨⟨moorHub .check id, []⟩, by decide +kernel⟩,
    ⟨⟨moorHub .ramp (fun m => { m with wiring := some 1 }), []⟩, by decide +kernel⟩⟩

theorem witness_theStageMovesAsTheTableOfR476Says_2 :
    (∃ (s : State), (s.hub.live) ∧ (s.hub.moor.stage = .ramp)) ∧
    (∃ (s : State), (s.hub.live) ∧ (s.hub.stageLive = true)) ∧
    (∃ (s : State), (s.hub.live) ∧ (s.hub.stageLive = true)) ∧
    (∃ (s : State), (s.hub.live) ∧ (s.hub.stageLive = false)) ∧
    (∃ (s : State), (s.hub.live) ∧ (s.hub.stageLive = true)) ∧
    (∃ (s : State), (s.hub.live) ∧ (s.hub.stageLive = true)) ∧
    (∃ (s : State), (s.hub.live) ∧ (s.hub.moor.stage = .transition)) ∧
    (∃ (s : State), (s.hub.live) ∧ (s.hub.moor.retryTimer = true)) :=
  ⟨
    ⟨⟨moorHub .ramp (fun m => { m with gate := true }), []⟩, by decide +kernel⟩,
    ⟨⟨moorHub .powered (fun m => { m with gate := true }), []⟩, by decide +kernel⟩,
    ⟨⟨{ moorHub .powered (fun m => { m with tripTimes := [1, 1, 1, 1, 1, 1, 1, 1, 1, 1] }) with clock := 5 }, []⟩, by decide +kernel⟩,
    ⟨⟨moorHub .check id, []⟩, by decide +kernel⟩,
    ⟨⟨moorHub .transition id, []⟩, by decide +kernel⟩,
    ⟨⟨moorHub .ramp id, []⟩, by decide +kernel⟩,
    ⟨⟨moorHub .transition (fun m => { m with transition := some (0, 2, 600, true) }), []⟩, by decide +kernel⟩,
    ⟨⟨moorHub .tripped (fun m => { m with retryTimer := true }), []⟩, by decide +kernel⟩⟩

theorem witness_theStageMovesAsTheTableOfR476Says_3 :
    (∃ (s : State), (s.hub.live) ∧ (s.hub.moor.retryTimer = true)) ∧
    (∃ (s : State), (s.hub.live) ∧ (s.hub.moor.stage = .unseated) ∧ (s.hub.moor.unseatedTimer = true) ∧ (s.hub.val
      Od.moorLockoutClear ≠ 0)) ∧
    (∃ (s : State) (good : Fin 4) (f : Nat), (s.hub.live) ∧ (s.hub.moor.feed = some f) ∧ (bit f good = false) ∧ (bit (1 - f) good
      = true) ∧ (s.hub.feedAllowed (1 - f) = true)) ∧
    (∃ (s : State) (f : Nat), (s.hub.live) ∧ (s.hub.moor.bbm = some f)) ∧
    (∃ (s : State) (f : Nat), (s.hub.live) ∧ (s.hub.moor.feed = some f) ∧ (f ≠ s.hub.preferredFeed)) ∧
    (∃ (s : State) (req : Path) (c : Fin 8), (s.hub.takes req c 0x0A03) ∧ (s.hub.moor.stage = .lockout)) ∧
    (∃ (s : State) (req : Path) (c : Fin 8), (s.hub.takes req c 0x0A05)) ∧
    (∃ (s : State) (req : Path) (c : Fin 8), (s.hub.takes req c 0x0A05)) :=
  ⟨
    ⟨⟨moorHub .seating (fun m => { m with retryTimer := true }), []⟩, by decide +kernel⟩,
    ⟨⟨(moorHub .unseated (fun m => { m with unseatedTimer := true, lockout := true })).put Od.moorLockoutClear 5, []⟩, by decide +kernel⟩,
    ⟨⟨moorHub .powered id, []⟩, 2, 0, by decide +kernel⟩,
    ⟨⟨moorHub .powered (fun m => { m with feed := none, bbm := some 1 }), []⟩, 1, by decide +kernel⟩,
    ⟨⟨moorHub .powered (fun m => { m with feed := some 1 }), []⟩, 1, by decide +kernel⟩,
    ⟨⟨moorHub .lockout (fun m => { m with lockout := true, tripTimes := [1] }), []⟩, .keeper, 1, by decide +kernel⟩,
    ⟨⟨moorHub .powered (fun m => { m with gate := true }), []⟩, .keeper, 1, by decide +kernel⟩,
    ⟨⟨moorHub .check (fun m => { m with holdOff := true }), []⟩, .keeper, 1, by decide +kernel⟩⟩

theorem witness_mooringMessagesNegotiateContracts_1 :
    (∃ (s : State) (c : Fin 2) (ack : Fin 16) (m : MoorMsg) (t : List MoorMsg), (s.hub.live) ∧ ((s.hub.conn c).outMsgs = m :: t) ∧
      (m.id = ack.val) ∧ (m.sends ≠ 0)) ∧
    (∃ (s : State) (c : Fin 2), (s.hub.live) ∧ (s.hub.supplies c = true ∨ s.hub.connSeated c = true)) ∧
    (∃ (s : State) (c : Fin 2), (s.hub.live) ∧ (s.hub.supplies c = true ∨ s.hub.connSeated c = true)) ∧
    (∃ (s : State), (s.hub.live)) ∧
    (∃ (s : State) (c : Fin 2), (s.hub.live) ∧ (s.hub.supplies c = false) ∧ (s.hub.connSeated c = false)) ∧
    (∃ (s : State) (c : Fin 2) (id : Fin 16), (s.hub.live) ∧ (s.hub.supplies c = true ∨ s.hub.connSeated c = true) ∧ ((s.hub.conn
      c).rxId = some id.val)) ∧
    (∃ (s : State) (c : Fin 2) (id : Fin 16) (mask : Fin 16) (w : Nat × Nat), (s.hub.live) ∧ (s.hub.supplies c = false) ∧
      (s.hub.connSeated c = true) ∧ ((s.hub.conn c).rxId ≠ some id.val) ∧ (s.hub.dualHomed = false) ∧ (s.hub.moorRole ≠ .lightship)
      ∧ (w = s.hub.wanted c (mask.val ||| 1))) ∧
    (∃ (s : State) (c : Fin 2) (id : Fin 16), (s.hub.live) ∧ (s.hub.supplies c = true) ∧ ((s.hub.conn c).rxId ≠ some id.val) ∧
      (s.hub.moor.stage = .powered) ∧ (c.val ∈ s.hub.stageConns) ∧ (bit 0 (s.hub.conn c).modes = false)) :=
  ⟨
    ⟨⟨moorHub .powered (conn0 (fun x => { x with outMsgs := [⟨0x20, 3, [0x4C, 0x54, 4, 1], 1, some 2⟩, ⟨0x11, 4, [], 0, none⟩] })), []⟩, 0, 3, ⟨0x20, 3, [0x4C, 0x54, 4, 1], 1, some 2⟩, [⟨0x11, 4, [], 0, none⟩], by decide +kernel⟩,
    ⟨⟨moorHub .powered id, []⟩, 0, by decide +kernel⟩,
    ⟨⟨(moorHub .powered id).updLink 1 (fun x => { x with state := .running }), []⟩, 1, by decide +kernel⟩,
    ⟨⟨moorHub .powered id, []⟩, by decide +kernel⟩,
    ⟨⟨{ sinkHub id with moor := { (sinkHub id).moor with seatConfirmed := ⟨[]⟩ } }, []⟩, 0, by decide +kernel⟩,
    ⟨⟨moorHub .powered (conn0 (fun x => { x with rxId := some 3, profile := 2 })), []⟩, 0, 3, by decide +kernel⟩,
    ⟨⟨sinkHub id, []⟩, 0, 3, 15, ((sinkHub id).wanted 0 15), by decide +kernel⟩,
    ⟨⟨moorHub .powered id, []⟩, 0, 3, by decide +kernel⟩⟩

theorem witness_mooringMessagesNegotiateContracts_2 :
    (∃ (s : State) (c : Fin 2) (id : Fin 16) (p : Byte) (a : BitVec 16), (s.hub.live) ∧ (s.hub.supplies c = true) ∧ ((s.hub.conn
      c).rxId ≠ some id.val) ∧ (s.hub.moorRole ≠ .lightship) ∧ (s.hub.moor.stage = .powered) ∧ (s.hub.moor.downReq = none) ∧
      (p.toNat ≤ 3) ∧ (bit p.toNat (s.hub.offered c) = true) ∧ (a.toNat ≤ profileCurrent p.toNat)) ∧
    (∃ (s : State) (c : Fin 2) (id : Fin 16) (p : Byte) (a : BitVec 16), (s.hub.live) ∧ (s.hub.supplies c = true) ∧ ((s.hub.conn
      c).rxId ≠ some id.val) ∧ (s.hub.moorRole ≠ .lightship) ∧ (s.hub.moor.stage = .powered) ∧ (s.hub.moor.downReq = none) ∧
      (p.toNat ≤ 3) ∧ (bit p.toNat (s.hub.offered c) = true) ∧ (a.toNat ≤ profileCurrent p.toNat)) ∧
    (∃ (s : State) (c : Fin 2) (id : Fin 16) (p : Byte) (a : BitVec 16), (s.hub.live) ∧ (s.hub.supplies c = true) ∧ ((s.hub.conn
      c).rxId ≠ some id.val) ∧ (s.hub.moor.stage = .transition ∨ (s.hub.moor.stage = .powered ∧ s.hub.moor.downReq = none ∧ (3 <
      p.toNat ∨ bit p.toNat (s.hub.offered c) = false ∨ profileCurrent p.toNat < a.toNat)))) ∧
    (∃ (s : State) (c : Fin 2) (id : Fin 16) (p : Byte) (a : BitVec 16), (s.hub.live) ∧ (s.hub.supplies c = true) ∧ ((s.hub.conn
      c).rxId ≠ some id.val) ∧ (s.hub.moor.stage = .transition ∨ (s.hub.moor.stage = .powered ∧ s.hub.moor.downReq = none ∧ (3 <
      p.toNat ∨ bit p.toNat (s.hub.offered c) = false ∨ profileCurrent p.toNat < a.toNat)))) ∧
    (∃ (s : State) (c : Fin 2) (id : Fin 16) (p : Byte) (a : BitVec 16), (s.hub.live) ∧ (s.hub.supplies c = true) ∧ ((s.hub.conn
      c).rxId ≠ some id.val) ∧ (s.hub.moor.stage = .transition ∨ (s.hub.moor.stage = .powered ∧ s.hub.moor.downReq = none ∧ (3 <
      p.toNat ∨ bit p.toNat (s.hub.offered c) = false ∨ profileCurrent p.toNat < a.toNat)))) ∧
    (∃ (s : State) (c : Fin 2) (id : Fin 16), (s.hub.live) ∧ (s.hub.supplies c = false) ∧ (s.hub.connSeated c = true) ∧
      ((s.hub.conn c).rxId ≠ some id.val) ∧ ((s.hub.conn c).asked ≠ none) ∧ (s.hub.moor.downReq = none)) ∧
    (∃ (s : State) (c : Fin 2) (id : Fin 16), (s.hub.live) ∧ (s.hub.supplies c = false) ∧ (s.hub.connSeated c = true) ∧
      ((s.hub.conn c).rxId ≠ some id.val)) ∧
    (∃ (s : State) (c : Fin 2) (id : Fin 16) (p : Nat) (a : Nat), (s.hub.live) ∧ (s.hub.supplies c = false) ∧ (s.hub.connSeated c
      = true) ∧ ((s.hub.conn c).rxId ≠ some id.val) ∧ ((s.hub.conn c).asked = some (p, a)) ∧ ((s.hub.conn c).awaitPs = true)) :=
  ⟨
    ⟨⟨(moorHub .powered (conn0 (fun x => { x with current := 200 }))).put Od.moorSupplyProfiles 15, []⟩, 0, 3, 1, 700, by decide +kernel⟩,
    ⟨⟨(moorHub .powered (conn0 (fun x => { x with current := 200 }))).put Od.moorSupplyProfiles 15, []⟩, 0, 3, 2, 800, by decide +kernel⟩,
    ⟨⟨moorHub .transition (fun m => { m with transition := some (0, 2, 600, true) }), []⟩, 0, 3, 1, 700, by decide +kernel⟩,
    ⟨⟨moorHub .powered id, []⟩, 0, 3, 4, 700, by decide +kernel⟩,
    ⟨⟨(moorHub .powered id).put Od.moorSupplyProfiles 15, []⟩, 0, 3, 1, 801, by decide +kernel⟩,
    ⟨⟨sinkHub (fun x => { x with asked := some (2, 600) }), []⟩, 0, 3, by decide +kernel⟩,
    ⟨⟨sinkHub (fun x => { x with asked := some (2, 600), request := some 1 }), []⟩, 0, 3, by decide +kernel⟩,
    ⟨⟨sinkHub (fun x => { x with asked := some (2, 600), awaitPs := true }), []⟩, 0, 3, 2, 600, by decide +kernel⟩⟩

theorem witness_mooringMessagesNegotiateContracts_3 :
    (∃ (s : State) (c : Fin 2) (id : Fin 16), (s.hub.live) ∧ (s.hub.supplies c = true) ∧ ((s.hub.conn c).rxId ≠ some id.val) ∧
      (s.hub.moor.stage = .powered ∨ s.hub.moor.stage = .transition)) ∧
    (∃ (s : State) (c : Fin 2) (id : Fin 16), (s.hub.live) ∧ (s.hub.supplies c = false) ∧ (s.hub.connSeated c = true) ∧
      ((s.hub.conn c).rxId ≠ some id.val)) ∧
    (∃ (s : State) (c : Fin 2), (s.hub.live) ∧ ((s.hub.conn c).awaitPs = true) ∧ (s.hub.supplies c = false)) ∧
    (∃ (s : State) (c : Fin 2), (s.hub.live) ∧ ((s.hub.conn c).capsTimer = true) ∧ (s.hub.moor.stage = .powered) ∧ (bit 0
      (s.hub.conn c).modes = false)) ∧
    (∃ (s : State) (c : Fin 2), (s.hub.live) ∧ ((s.hub.conn c).capsTimer = true) ∧ (s.hub.moor.stage = .powered) ∧ (bit 0
      (s.hub.conn c).modes = false)) ∧
    (∃ (s : State) (c : Nat) (p : Nat) (a : Nat), (s.hub.live) ∧ (s.hub.moor.transition = some (c, p, a, false))) ∧
    (∃ (s : State) (c : Nat) (p : Nat) (a : Nat), (s.hub.live) ∧ (s.hub.moorRole ≠ .lightship) ∧ (s.hub.moor.stage = .transition)
      ∧ (s.hub.moor.transition = some (c, p, a, true))) ∧
    (∃ (s : State) (c : Fin 2) (id : Fin 16), (s.hub.live) ∧ (s.hub.supplies c = true ∨ s.hub.connSeated c = true) ∧ ((s.hub.conn
      c).rxId ≠ some id.val)) :=
  ⟨
    ⟨⟨moorHub .powered (conn0 (fun x => { x with profile := 2 })), []⟩, 0, 3, by decide +kernel⟩,
    ⟨⟨sinkHub (fun x => { x with profile := 2, current := 600 }), []⟩, 0, 3, by decide +kernel⟩,
    ⟨⟨sinkHub (fun x => { x with asked := some (2, 600), awaitPs := true, profile := 1 }), []⟩, 0, by decide +kernel⟩,
    ⟨⟨moorHub .powered (conn0 (fun x => { x with capsTimer := true, capsCount := 1 })), []⟩, 0, by decide +kernel⟩,
    ⟨⟨moorHub .powered (conn0 (fun x => { x with capsTimer := true, capsCount := 100000 })), []⟩, 0, by decide +kernel⟩,
    ⟨⟨moorHub .transition (fun m => { m with transition := some (0, 2, 600, false) }), []⟩, 0, 2, 600, by decide +kernel⟩,
    ⟨⟨moorHub .transition (fun m => { m with transition := some (0, 2, 600, true) }), []⟩, 0, 2, 600, by decide +kernel⟩,
    ⟨⟨moorHub .powered id, []⟩, 0, 3, by decide +kernel⟩⟩

theorem witness_mooringMessagesNegotiateContracts_4 :
    (∃ (s : State) (c : Fin 2) (id : Fin 16) (m : Nat), (s.hub.live) ∧ (s.hub.supplies c = true ∨ s.hub.connSeated c = true) ∧
      ((s.hub.conn c).rxId ≠ some id.val) ∧ ((s.hub.conn c).vdmOut = some (1, m))) ∧
    (∃ (s : State) (c : Fin 2) (id : Fin 16) (mode : Byte), (s.hub.live) ∧ (s.hub.supplies c = true) ∧ ((s.hub.conn c).rxId ≠ some
      id.val) ∧ (1 ≤ mode.toNat) ∧ (mode.toNat ≤ 3)) ∧
    (∃ (s : State) (c : Fin 2) (id : Fin 16) (mode : Byte), (s.hub.live) ∧ (s.hub.supplies c = true) ∧ ((s.hub.conn c).rxId ≠ some
      id.val) ∧ (mode.toNat = 0 ∨ 3 < mode.toNat)) ∧
    (∃ (s : State) (c : Fin 2) (id : Fin 16) (m : Nat), (s.hub.live) ∧ (s.hub.supplies c = true ∨ s.hub.connSeated c = true) ∧
      ((s.hub.conn c).rxId ≠ some id.val) ∧ ((s.hub.conn c).vdmOut = some (2, m)) ∧ (1 ≤ m) ∧ (m ≤ 3)) ∧
    (∃ (s : State) (c : Fin 2) (id : Fin 16) (mode : Byte), (s.hub.live) ∧ (s.hub.supplies c = true) ∧ ((s.hub.conn c).rxId ≠ some
      id.val) ∧ (1 ≤ mode.toNat) ∧ (mode.toNat ≤ 3)) ∧
    (∃ (s : State) (c : Fin 2) (id : Fin 16) (svid : BitVec 16) (command : Byte), (s.hub.live) ∧ (s.hub.supplies c = true ∨
      s.hub.connSeated c = true) ∧ ((s.hub.conn c).rxId ≠ some id.val) ∧ (command.toNat < 128) ∧ (svid.toNat = s.hub.val
      Od.moorThirdSvid) ∧ (svid ≠ 0)) ∧
    (∃ (s : State) (c : Fin 2) (id : Fin 16) (svid : BitVec 16) (command : Byte), (s.hub.live) ∧ (s.hub.supplies c = true ∨
      s.hub.connSeated c = true) ∧ ((s.hub.conn c).rxId ≠ some id.val) ∧ (command.toNat < 128) ∧ (command.toNat ≠ 4) ∧ (svid.toNat
      ≠ s.hub.val Od.moorThirdSvid ∨ svid = 0)) ∧
    (∃ (s : State) (c : Fin 2) (m : MoorMsg) (t : List MoorMsg), (s.hub.live) ∧ ((s.hub.conn c).outMsgs = m :: t)) :=
  ⟨
    ⟨⟨moorHub .powered (conn0 (fun x => { x with vdmOut := some (1, 0), vdm := some 2 })), []⟩, 0, 3, 0, by decide +kernel⟩,
    ⟨⟨moorHub .powered (conn0 (fun x => { x with capsTimer := true })), []⟩, 0, 3, 1, by decide +kernel⟩,
    ⟨⟨moorHub .powered id, []⟩, 0, 3, 4, by decide +kernel⟩,
    ⟨⟨sinkHub (fun x => { x with vdmOut := some (2, 3) }), []⟩, 0, 3, 3, by decide +kernel⟩,
    ⟨⟨moorHub .powered (conn0 (fun x => { x with modes := 7 })), []⟩, 0, 3, 1, by decide +kernel⟩,
    ⟨⟨(moorHub .powered id).put Od.moorThirdSvid 0x1234, []⟩, 0, 3, 0x1234, 2, by decide +kernel⟩,
    ⟨⟨moorHub .powered id, []⟩, 0, 3, 0x1234, 2, by decide +kernel⟩,
    ⟨⟨(moorHub .powered (conn0 (fun x => { x with outMsgs := [⟨0x10, 3, [1, 1], 2, none⟩] }))).updLink 0 (fun x => { x with state := .running }), []⟩, 0, ⟨0x10, 3, [1, 1], 2, none⟩, [], by decide +kernel⟩⟩

theorem witness_mooringMessagesNegotiateContracts_5 :
    (∃ (s : State) (c : Fin 2) (m : MoorMsg) (t : List MoorMsg), (s.hub.live) ∧ ((s.hub.conn c).outMsgs = m :: t)) ∧
    (∃ (s : State) (c : Fin 2) (m : MoorMsg) (t : List MoorMsg), (s.hub.live) ∧ ((s.hub.conn c).outMsgs = m :: t)) ∧
    (∃ (s : State), (s.hub.live) ∧ (s.hub.inFog = true) ∧ (bit 0 (s.hub.conn 0).modes = true)) ∧
    (∃ (s : State) (req : Path) (c : Fin 8) (k : Fin 2), (s.hub.takes req c 0x0A00) ∧ (s.hub.connSeated k = true) ∧
      (s.hub.moor.stage ≠ .transition)) ∧
    (∃ (s : State) (req : Path) (c : Fin 8) (k : Fin 2), (s.hub.takes req c 0x0A00) ∧ (s.hub.connSeated k = true) ∧
      (s.hub.moor.stage ≠ .transition)) ∧
    (∃ (s : State) (req : Path) (c : Fin 8) (p : Fin 4) (a : BitVec 16), (s.hub.takes req c 0x0A01) ∧ (s.hub.moorSupply = false) ∧
      (s.hub.dualHomed = false) ∧ (s.hub.connSeated 0 = true) ∧ (s.hub.moor.stage ≠ .transition) ∧ ((s.hub.conn 0).awaitPs = false)
      ∧ (a ≠ 0) ∧ (a.toNat ≤ profileCurrent p) ∧ (p.val = 0 ∨ (s.hub.inFog = false ∧ s.hub.mode.confirmed = true))) ∧
    (∃ (s : State) (req : Path) (c : Fin 8) (k : Fin 2), (s.hub.takes req c 0x0A02) ∧ (s.hub.connSeated k = true)) ∧
    (∃ (s : State) (req : Path) (c : Fin 8) (k : Fin 2) (m : Bytes), (s.hub.takes req c 0x0A04) ∧ (s.hub.connSeated k = true) ∧
      (m.length = 10)) :=
  ⟨
    ⟨⟨moorHub .powered (conn0 (fun x => { x with outMsgs := [⟨0x10, 3, [1, 1], 3, none⟩, ⟨0x13, 4, [1], 0, none⟩] })), []⟩, 0, ⟨0x10, 3, [1, 1], 3, none⟩, [⟨0x13, 4, [1], 0, none⟩], by decide +kernel⟩,
    ⟨⟨sinkHub (fun x => { x with asked := some (2, 600), outMsgs := [⟨0x12, 3, [2, 88, 2], 3, none⟩] }), []⟩, 0, ⟨0x12, 3, [2, 88, 2], 3, none⟩, [], by decide +kernel⟩,
    ⟨⟨asMode .foghorn (sinkHub (fun x => { x with modes := 1 })), []⟩, by decide +kernel⟩,
    ⟨⟨moorHub .powered id, []⟩, .keeper, 1, 0, by decide +kernel⟩,
    ⟨⟨sinkHub id, []⟩, .keeper, 1, 0, by decide +kernel⟩,
    ⟨⟨sinkHub id, []⟩, .keeper, 1, 3, 1000, by decide +kernel⟩,
    ⟨⟨moorHub .powered id, []⟩, .keeper, 1, 0, by decide +kernel⟩,
    ⟨⟨moorHub .powered id, []⟩, .keeper, 1, 0, [0x4C, 0x54, 1, 0, 0, 0, 0, 0, 0, 0], by decide +kernel⟩⟩

theorem witness_keySlotsAndFusesFollowTheirCommands_1 :
    (∃ (s : State) (req : Path) (c : Fin 8) (a : Bytes) (n : Nat) (src : Nat), (s.hub.takes req c 0x0B00) ∧ (deriveArgs a = none)
      ∧ (s.hub.slotStates [n] = none) ∧ (n = field a 0 1) ∧ (src = field a 1 1) ∧ ((s.hub.slot src).state = .valid) ∧ ((s.hub.slot
      src).usage = 4) ∧ ((s.hub.slot src).usesLeft ≠ 0) ∧ (s.hub.drawOk = true) ∧ (s.hub.sec.ecc = [])) ∧
    (∃ (s : State) (req : Path) (c : Fin 8) (a : Bytes) (n : Nat) (src : Nat), (s.hub.takes req c 0x0B00) ∧ (deriveArgs a = none)
      ∧ (s.hub.slotStates [n] = none) ∧ (n = field a 0 1) ∧ (src = field a 1 1) ∧ ((s.hub.slot src).state = .valid) ∧ ((s.hub.slot
      src).usage ≠ 4 ∨ (s.hub.slot src).usesLeft = 0)) ∧
    (∃ (s : State) (req : Path) (c : Fin 8) (a : Bytes) (n : Nat) (src : Nat), (s.hub.takes req c 0x0B00) ∧ (deriveArgs a = none)
      ∧ (s.hub.slotStates [n] = none) ∧ (n = field a 0 1) ∧ (src = field a 1 1) ∧ ((s.hub.slot src).state = .valid) ∧ ((s.hub.slot
      src).usage ≠ 4 ∨ (s.hub.slot src).usesLeft = 0)) ∧
    (∃ (s : State) (req : Path) (c : Fin 8) (a : Bytes), (s.hub.takes req c 0x0B00) ∧ (deriveArgs a = none) ∧ (s.hub.slotStates
      [field a 0 1] = none) ∧ ((s.hub.slot (field a 1 1)).state = .valid) ∧ ((s.hub.slot (field a 1 1)).usage = 4) ∧ ((s.hub.slot
      (field a 1 1)).usesLeft ≠ 0) ∧ (s.hub.sec.ecc ≠ [])) ∧
    (∃ (s : State) (n : Nat) (usage : Nat) (uses : Nat) (key : Nat) (e : Bool) (pub : Bytes) (c : Fin 8) (rest : List (EccOp ×
      Option Nat)), (s.hub.live) ∧ (s.hub.domOn 16 = true) ∧ (s.hub.sec.ecc = (.derive_ n usage uses key e pub, some c.val) ::
      rest) ∧ ((s.hub.chan c).state = .running) ∧ (s.hub.slotWritable n = true) ∧ (s.hub.drawOk = true)) ∧
    (∃ (s : State) (req : Path) (c : Fin 8) (n : Nat) (usage : Nat) (uses : Word), (s.hub.takes req c 0x0B01) ∧ (20 ≤ n) ∧ (n ≤
      63) ∧ (usage = 2 ∨ usage = 5) ∧ (uses ≠ 0) ∧ (s.hub.slotStates [n] = none)) ∧
    (∃ (s : State) (req : Path) (c : Fin 8) (n : Nat) (uses : Word) (pub : Bytes), (s.hub.takes req c 0x0B02) ∧ (20 ≤ n) ∧ (n ≤
      62) ∧ (n % 2 = 0) ∧ (uses ≠ 0) ∧ (pub.length = 64) ∧ (s.hub.slotStates [n, n + 1] = none) ∧ (s.hub.drawOk = true)) ∧
    (∃ (s : State) (req : Path) (c : Fin 8) (n : Nat), (s.hub.takes req c 0x0B03) ∧ (20 ≤ n) ∧ (n ≤ 63)) :=
  ⟨
    ⟨⟨keyHub 21 4 2 up, []⟩, .keeper, 1, [20, 21, 4, 0, 9, 0, 0, 0, 1, 0, 65], 20, 21, by decide +kernel⟩,
    ⟨⟨keyHub 21 1 2 up, []⟩, .keeper, 1, [20, 21, 4, 0, 9, 0, 0, 0, 1, 0, 65], 20, 21, by decide +kernel⟩,
    ⟨⟨keyHub 21 4 0 up, []⟩, .keeper, 1, [20, 21, 4, 0, 9, 0, 0, 0, 1, 0, 65], 20, 21, by decide +kernel⟩,
    ⟨⟨keyHub 21 4 2 (eccHub (.sign 5 [1])), []⟩, .keeper, 1, [20, 21, 4, 0, 9, 0, 0, 0, 1, 0, 65], by decide +kernel⟩,
    ⟨⟨eccHub (.derive_ 20 1 9 5 false []), []⟩, 20, 1, 9, 5, false, [], 3, [], by decide +kernel⟩,
    ⟨⟨up, []⟩, .keeper, 1, 63, 5, 9, by decide +kernel⟩,
    ⟨⟨up, []⟩, .keeper, 1, 62, 9, List.replicate 64 3, by decide +kernel⟩,
    ⟨⟨keyHub 20 4 2 up, []⟩, .keeper, 1, 20, by decide +kernel⟩⟩

theorem witness_keySlotsAndFusesFollowTheirCommands_2 :
    (∃ (s : State) (req : Path) (c : Fin 8) (nonce : Bytes), (s.hub.takes req c 0x0B04) ∧ (nonce.length = 32) ∧ (s.hub.sec.trng =
      .running) ∧ ((s.hub.slot 2).state = .valid) ∧ ((s.hub.slot 2).usage = 2) ∧ ((s.hub.slot 2).usesLeft = 0xFFFFFFFF)) ∧
    (∃ (s : State) (req : Path) (c : Fin 8) (a : Bytes) (k : Nat), (s.hub.takes req c 0x0B05) ∧ (s.hub.mode.active = .bench) ∧
      (s.hub.fuseArgs a = none) ∧ (field a 0 1 ≠ 0) ∧ (k = if field a 0 1 = 8 then 8 + field a 1 1 else field a 0 1)) ∧
    (∃ (s : State) (req : Path) (c : Fin 8) (a : Bytes) (k : Nat), (s.hub.takes req c 0x0B05) ∧ (s.hub.mode.active = .bench) ∧
      (s.hub.fuseArgs a = none) ∧ (field a 0 1 ≠ 0) ∧ (k = if field a 0 1 = 8 then 8 + field a 1 1 else field a 0 1)) ∧
    (∃ (s : State) (req : Path) (c : Fin 8) (a : Bytes) (k : Nat), (s.hub.takes req c 0x0B05) ∧ (s.hub.mode.active = .bench) ∧
      (s.hub.fuseArgs a = none) ∧ (field a 0 1 ≠ 0) ∧ (k = if field a 0 1 = 8 then 8 + field a 1 1 else field a 0 1)) ∧
    (∃ (s : State) (req : Path) (c : Fin 8) (t : Nat), (s.hub.takes req c 0x0B06) ∧ (t < 256) ∧ ((s.hub.route t).isSome = true) ∧
      (s.hub.inFog = false)) ∧
    (∃ (s : State) (req : Path) (c : Fin 8) (n : Nat) (d : Bytes), (s.hub.takes req c 0x0B07) ∧ (s.hub.inFog = false) ∧ (20 ≤ n) ∧
      (n ≤ 63) ∧ (d.length = 32) ∧ ((s.hub.slot n).state = .valid) ∧ ((s.hub.slot n).usage = 2) ∧ ((s.hub.slot n).usesLeft ≠ 0)) ∧
    (∃ (s : State) (key : Nat) (d : Bytes) (c : Fin 8) (l : List (EccOp × Option Nat)), (s.hub.live) ∧ (s.hub.domOn 16 = true) ∧
      (s.hub.sec.ecc = (.sign key d, some c.val) :: l) ∧ ((s.hub.chan c).state = .running)) ∧
    (∃ (s : State) (key : Nat) (nonce : Bytes) (c : Fin 8) (l : List (EccOp × Option Nat)), (s.hub.live) ∧ (s.hub.domOn 16 = true)
      ∧ (s.hub.sec.ecc = (.attest key nonce, some c.val) :: l) ∧ ((s.hub.chan c).state = .running)) :=
  ⟨
    ⟨⟨keyHub 2 2 0xFFFFFFFF up, []⟩, .keeper, 1, List.replicate 32 5, by decide +kernel⟩,
    ⟨⟨up, []⟩, .keeper, 1, [3, 0, 0, 0, 7, 0, 0, 0, 0, 0, 0, 0], 3, by decide +kernel⟩,
    ⟨⟨up, []⟩, .keeper, 1, [8, 15, 0, 0, 1, 32, 5, 1, 9, 0, 0, 0], 23, by decide +kernel⟩,
    ⟨⟨up, []⟩, .keeper, 1, [5, 0, 0, 0, 15], 5, by decide +kernel⟩,
    ⟨⟨canHub.setPairKey 2 { PairKey.init with target := 0x11, txSlot := 4, rxSlot := 5 }, []⟩, .keeper, 1, 0x11, by decide +kernel⟩,
    ⟨⟨keyHub 20 2 1 up, []⟩, .keeper, 1, 20, List.replicate 32 5, by decide +kernel⟩,
    ⟨⟨eccHub (.sign 5 [1]), []⟩, 5, [1], 3, [], by decide +kernel⟩,
    ⟨⟨eccHub (.attest 5 [1]), []⟩, 5, [1], 3, [], by decide +kernel⟩⟩

theorem witness_keySlotsAndFusesFollowTheirCommands_3 :
    (∃ (s : State) (n : Nat) (usage : Nat) (uses : Nat) (e : Bool) (c : Fin 8) (l : List (EccOp × Option Nat)), (s.hub.live) ∧
      (s.hub.domOn 16 = true) ∧ (s.hub.drawOk = true) ∧ (s.hub.sec.ecc = (.generate n usage uses e, some c.val) :: l) ∧
      ((s.hub.chan c).state = .running)) ∧
    (∃ (s : State) (n : Nat) (usage : Nat) (uses : Nat) (e : Bool) (c : Fin 8) (l : List (EccOp × Option Nat)), (s.hub.live) ∧
      (s.hub.domOn 16 = true) ∧ (s.hub.drawOk = true) ∧ (s.hub.sec.ecc = (.generate n usage uses e, some c.val) :: l) ∧
      ((s.hub.chan c).state = .running)) :=
  ⟨
    ⟨⟨eccHub (.generate 20 2 7 true), []⟩, 20, 2, 7, true, 3, [], by decide +kernel⟩,
    ⟨⟨keyHub 20 2 7 (eccHub (.generate 20 2 7 true)), []⟩, 20, 2, 7, true, 3, [], by decide +kernel⟩⟩

theorem witness_masksTheTrngCheckChannelsAndAgreement_1 :
    (∃ (s : State) (n : Fin 64), (s.hub.live) ∧ (s.hub.drawOk = true) ∧ (s.hub.domOn 16 = true) ∧ ((s.hub.slot n).state = .valid)
      ∧ (n.val < 4 ∨ 20 ≤ n.val)) ∧
    (∃ (s : State), (s.hub.live) ∧ (s.hub.drawOk = false ∨ s.hub.domOn 16 = false)) ∧
    (∃ (s : State), (s.hub.live) ∧ (s.hub.sec.trng = .startup)) ∧
    (∃ (s : State), (s.hub.live) ∧ (s.hub.sec.trng = .running)) ∧
    (∃ (s : State), (s.hub.live) ∧ (s.hub.sec.trng = .failed) ∧ (s.hub.sec.startedUp = true)) ∧
    (∃ (s : State), (s.hub.live)) ∧
    (∃ (s : State) (req : Path) (c : Fin 16) (b : Bytes), (s.hub.live) ∧ (s.hub.keeperUp = true) ∧ (s.hub.odWriteBad req (0x4C6006
      + 256 * c.val) b = none) ∧ (s.hub.mirroring = false) ∧ (s.hub.ctl.keeperQ = [])) ∧
    (∃ (s : State) (req : Path) (c : Fin 16) (v : Bool), (s.hub.live) ∧ (s.hub.keeperUp = true) ∧ (s.hub.odWriteBad req (0x4C6007
      + 256 * c.val) (u8 (b2n v)) = none) ∧ (s.hub.mirroring = false) ∧ (s.hub.ctl.keeperQ = [])) :=
  ⟨
    ⟨⟨keyHub 20 4 2 up, []⟩, 20, by decide +kernel⟩,
    ⟨⟨{ keyHub 20 4 2 up with sec := { (keyHub 20 4 2 up).sec with trng := .failed } }, []⟩, by decide +kernel⟩,
    ⟨⟨{ up with sec := { up.sec with trng := .startup, startedUp := false } }, []⟩, by decide +kernel⟩,
    ⟨⟨up, []⟩, by decide +kernel⟩,
    ⟨⟨{ up with sec := { up.sec with trng := .failed } }, []⟩, by decide +kernel⟩,
    ⟨⟨up.setCrcChan 15 { CrcChan.init with cfg := 0x720, poly := 0x04C11DB7, initial := 0xFFFFFFFF, value := 0xFFFFFFFF }, []⟩, by decide +kernel⟩,
    ⟨⟨up.setCrcChan 15 { CrcChan.init with cfg := 0x720, poly := 0x04C11DB7, initial := 0xFFFFFFFF, value := 0xFFFFFFFF }, []⟩, .keeper, 15, [1, 2, 3, 4, 5], by decide +kernel⟩,
    ⟨⟨up.setCrcChan 15 { CrcChan.init with initial := 9 }, []⟩, .keeper, 15, true, by decide +kernel⟩⟩

theorem witness_masksTheTrngCheckChannelsAndAgreement_2 :
    (∃ (s : State) (req : Path) (c : Fin 16) (v : Bool), (s.hub.live) ∧ (s.hub.keeperUp = true) ∧ (s.hub.odWriteBad req (0x4C6007
      + 256 * c.val) (u8 (b2n v)) = none) ∧ (s.hub.mirroring = false) ∧ (s.hub.ctl.keeperQ = [])) ∧
    (∃ (s : State) (m : SysMsg), (s.hub.live) ∧ (m.hopsLeft ≤ 1)) ∧
    (∃ (s : State) (m : SysMsg) (o : Nat), (s.hub.live) ∧ (1 < m.hopsLeft) ∧ (s.hub.onward m.direction = some o) ∧ (s.hub.sysOpen
      o = true)) ∧
    (∃ (s : State) (p : Fin 3) (m : SysMsg) (e : Exchange), (s.hub.live) ∧ (m.hopsLeft ≤ 1) ∧ (s.hub.exchangeOf m = some e) ∧
      (s.hub.targetPort e.target = p.val)) ∧
    (∃ (s : State) (m : SysMsg), (s.hub.live) ∧ (m.hopsLeft ≤ 1) ∧ (s.hub.exchangeOf m = none)) ∧
    (∃ (s : State) (p : Fin 3) (m : SysMsg) (e : Exchange), (s.hub.live) ∧ (m.hopsLeft ≤ 1) ∧ (s.hub.exchangeOf m = some e) ∧
      (s.hub.targetPort e.target = p.val)) :=
  ⟨
    ⟨⟨up.setCrcChan 15 { CrcChan.init with initial := 9 }, []⟩, .keeper, 15, false, by decide +kernel⟩,
    ⟨⟨up, []⟩, { msg with op := 0x40 }, by decide +kernel⟩,
    ⟨⟨relay.updLink 1 (fun x => { x with sysOpen := true }), []⟩, { msg with op := 0x40, hopsLeft := 2 }, 1, by decide +kernel⟩,
    ⟨⟨exchHub, []⟩, 0, { msg with op := 0x41 }, exch, by decide +kernel⟩,
    ⟨⟨up, []⟩, { msg with op := 0x41 }, by decide +kernel⟩,
    ⟨⟨exchHub, []⟩, 0, { msg with op := 0x42, data := [3, 0, 8, 6] }, exch, by decide +kernel⟩⟩

theorem witness_theStackFollowsR533 :
    (∃ (s : State) (r : Nat) (a : Nat), ((s.hub.ring r).stack.length = 8) ∧ (s.hub.evtWinner r s.hub.evt.details = some a)) ∧
    (∃ (s : State) (r : Fin 4) (ok : Bool) (a : Nat) (d : Detail) (t : List Detail), (s.hub.live) ∧ (s.hub.ringRuns (s.hub.ring r)
      = true) ∧ (s.hub.evtWinner r s.hub.evt.details = some a) ∧ (takeOldest a s.hub.evt.details = (some d, t)) ∧ ((s.hub.ring
      r).used + 1 + d.ext < (s.hub.ring r).records) ∧ ((s.hub.ring r).reaches (1 + d.ext) ok = true)) ∧
    (∃ (s : State) (r : Fin 4) (ok : Bool) (a : Nat) (d : Detail) (t : List Detail), (s.hub.live) ∧ (s.hub.ringRuns (s.hub.ring r)
      = true) ∧ (s.hub.evtWinner r s.hub.evt.details = some a) ∧ (takeOldest a s.hub.evt.details = (some d, t)) ∧ ((s.hub.ring
      r).used + 1 + d.ext < (s.hub.ring r).records) ∧ ((s.hub.ring r).reaches (1 + d.ext) ok = true)) ∧
    (∃ (s : State) (r : Fin 4) (src : Byte) (p : Nat) (t : List (Nat × Nat)), (s.hub.live) ∧ ((s.hub.ring r).stack = (src.toNat,
      p) :: t)) ∧
    (∃ (s : State) (r : Fin 4) (src : Byte), (s.hub.live) ∧ (∀ e ∈ (s.hub.ring r).stack.head?, e.1 ≠ src.toNat)) ∧
    (∃ (s : State) (r : Fin 4) (src : Byte), (s.hub.live) ∧ (∀ e ∈ (s.hub.ring r).stack.head?, e.1 ≠ src.toNat)) :=
  ⟨
    ⟨⟨evHub (fun x => { x with stack := List.replicate 8 (0x20, 1) }) [det 0x42 [7]], []⟩, 0, 0x42, by decide +kernel⟩,
    ⟨⟨noAuto 0x1E (evHub id [det 0x1E [7]]), []⟩, 0, true, 0x1E, det 0x1E [7], [], by decide +kernel⟩,
    ⟨⟨evHub id [det 0x42 [7]], []⟩, 0, true, 0x42, det 0x42 [7], [], by decide +kernel⟩,
    ⟨⟨evHub (fun x => { x with stack := [(0x3F, 15), (0x1E, 12)] }) [], []⟩, 0, 0x3F, 15, [(0x1E, 12)], by decide +kernel⟩,
    ⟨⟨evHub (fun x => { x with stack := [(0x3F, 15), (0x1E, 12)] }) [], []⟩, 0, 0x1E, by decide +kernel⟩,
    ⟨⟨evHub id [], []⟩, 0, 0x1E, by decide +kernel⟩⟩

theorem witness_eventsAreQueuedTakenAndAnnounced_1 :
    (∃ (s : State) (src : Byte), (s.hub.live) ∧ (evtReserved src.toNat = false) ∧ (aonSource src.toNat = false ∨ (s.hub.domain
      1).state ≠ .retention) ∧ (s.hub.evt.held src.toNat < s.hub.val Od.evtDetailLimit) ∧ (s.hub.evt.details.length < 1024)) ∧
    (∃ (s : State) (src : Byte), (s.hub.live) ∧ (evtReserved src.toNat = false) ∧ (src.toNat ≠ Ev.evtDetailLost) ∧ (aonSource
      src.toNat = false ∨ (s.hub.domain 1).state ≠ .retention) ∧ (s.hub.val Od.evtDetailLimit ≤ s.hub.evt.held src.toNat ∨ 1024 ≤
      s.hub.evt.details.length) ∧ (s.hub.evt.held src.toNat ≠ 0)) ∧
    (∃ (s : State) (src : Byte), (s.hub.live) ∧ (evtReserved src.toNat = true) ∧ (aonSource src.toNat = false ∨ (s.hub.domain
      1).state ≠ .retention)) ∧
    (∃ (s : State) (r : Fin 4) (ok : Bool) (a : Nat) (d : Detail) (t : List Detail), (s.hub.live) ∧ (s.hub.ringRuns (s.hub.ring r)
      = true) ∧ (s.hub.evtWinner r s.hub.evt.details = some a) ∧ (takeOldest a s.hub.evt.details = (some d, t)) ∧
      (s.hub.evt.waiting = []) ∧ ((s.hub.ring r).used + 1 + d.ext < (s.hub.ring r).records) ∧ ((s.hub.ring r).inHost = false) ∧
      ((s.hub.ring r).reaches (1 + d.ext) ok = true) ∧ ((s.hub.ring r).wr < (s.hub.ring r).records)) ∧
    (∃ (s : State) (r : Fin 4) (ok : Bool) (a : Nat) (d : Detail) (t : List Detail), (s.hub.live) ∧ (s.hub.ringRuns (s.hub.ring r)
      = true) ∧ (s.hub.evtWinner r s.hub.evt.details = some a) ∧ (takeOldest a s.hub.evt.details = (some d, t)) ∧
      (s.hub.evt.waiting = []) ∧ ((s.hub.ring r).used + 1 + d.ext < (s.hub.ring r).records) ∧ ((s.hub.ring r).inHost = false) ∧
      ((s.hub.ring r).reaches (1 + d.ext) ok = true) ∧ ((s.hub.ring r).wr < (s.hub.ring r).records)) ∧
    (∃ (s : State) (r : Fin 4) (a : Nat) (d : Detail) (t : List Detail), (s.hub.live) ∧ (s.hub.ringRuns (s.hub.ring r) = true) ∧
      (s.hub.evtWinner r s.hub.evt.details = some a) ∧ (takeOldest a s.hub.evt.details = (some d, t)) ∧ ((s.hub.ring r).used + 1 +
      d.ext < (s.hub.ring r).records) ∧ ((s.hub.ring r).inHost = true)) ∧
    (∃ (s : State) (r : Fin 4) (a : Nat) (d : Detail) (t : List Detail), (s.hub.live) ∧ (s.hub.ringRuns (s.hub.ring r) = true) ∧
      (s.hub.evtWinner r s.hub.evt.details = some a) ∧ (takeOldest a s.hub.evt.details = (some d, t)) ∧ ((s.hub.ring r).records ≤
      (s.hub.ring r).used + 1 + d.ext)) ∧
    (∃ (s : State) (r : Fin 4) (a : Nat) (d : Detail) (t : List Detail), (s.hub.live) ∧ (s.hub.ringRuns (s.hub.ring r) = true) ∧
      (s.hub.evtWinner r s.hub.evt.details = some a) ∧ (takeOldest a s.hub.evt.details = (some d, t)) ∧ ((s.hub.ring r).records ≤
      (s.hub.ring r).used + 1 + d.ext)) :=
  ⟨
    ⟨⟨{ up with clock := 70 }, []⟩, 0x42, by decide +kernel⟩,
    ⟨⟨{ (up.put Od.evtDetailLimit 2) with evt := { up.evt with details := [det 0x42 [1], det 0x41 [1], det 0x42 [2]] } }, []⟩, 0x42, by decide +kernel⟩,
    ⟨⟨up, []⟩, 0x07, by decide +kernel⟩,
    ⟨⟨evHub (fun x => { x with wr := 15, rd := 15 }) [det 0x42 [7, 8, 9], det 0x42 [1]], []⟩, 0, true, 0x42, det 0x42 [7, 8, 9], [det 0x42 [1]], by decide +kernel⟩,
    ⟨⟨evHub id [det 0x42 (List.replicate 30 7)], []⟩, 0, false, 0x42, det 0x42 (List.replicate 30 7), [], by decide +kernel⟩,
    ⟨⟨{ evHub (fun x => { x with inHost := true, notify := 1, vector := 9 }) [det 0x42 [7]] with hb := { HbSt.init with busMaster := true, msixEnable := true } }, []⟩, 0, 0x42, det 0x42 [7], [], by decide +kernel⟩,
    ⟨⟨evHub (fun x => { x with wr := 15 }) [det 0x42 [7]], []⟩, 0, 0x42, det 0x42 [7], [], by decide +kernel⟩,
    ⟨⟨evHub (fun x => { x with wr := 15, full := true }) [det 0x42 [7]], []⟩, 0, 0x42, det 0x42 [7], [], by decide +kernel⟩⟩

theorem witness_eventsAreQueuedTakenAndAnnounced_2 :
    (∃ (s : State) (r : Fin 4) (a : Nat) (d : Detail) (t : List Detail), (s.hub.live) ∧ (s.hub.ringRuns (s.hub.ring r) = true) ∧
      (s.hub.evtWinner r s.hub.evt.details = some a) ∧ (takeOldest a s.hub.evt.details = (some d, t)) ∧ ((s.hub.ring r).used + 1 +
      d.ext < (s.hub.ring r).records) ∧ ((s.hub.ring r).inHost = true)) ∧
    (∃ (s : State) (r : Fin 4) (a : Nat) (d : Detail) (t : List Detail), (s.hub.live) ∧ (s.hub.ringRuns (s.hub.ring r) = true) ∧
      (s.hub.evtWinner r s.hub.evt.details = some a) ∧ (takeOldest a s.hub.evt.details = (some d, t)) ∧ ((s.hub.ring r).used + 1 +
      d.ext < (s.hub.ring r).records) ∧ ((s.hub.ring r).inHost = false) ∧ (inKram ((s.hub.ring r).base + 16 * ((s.hub.ring r).wr %
      (s.hub.ring r).records)) = false)) ∧
    (∃ (s : State) (r : Fin 4), (s.hub.live) ∧ (s.hub.ringRuns (s.hub.ring r) = false)) ∧
    (∃ (s : State) (r : Nat) (a : Nat) (d : Detail), (d ∈ s.hub.evt.details) ∧ (d.source = a) ∧ (s.hub.evtEligible r a = true) ∧
      (a ∈ (s.hub.ring r).ended) ∧ (∀ x ∈ s.hub.evt.details, s.hub.evtEligible r x.source = true → s.hub.evtPriority x.source ≤
      s.hub.evtPriority a ∧ (x.source = a ∨ x.source ∉ (s.hub.ring r).ended))) ∧
    (∃ (s : State), (s.hub.live) ∧ (s.hub.evt.hold = none) ∧ (s.hub.evt.waiting = [])) ∧
    (∃ (s : State) (w : Fin 8) (v : Word) (i : Fin 32), (s.hub.live) ∧ (s.hub.evt.hold = none) ∧ (s.hub.evt.waiting = []) ∧
      (s.hub.evt.details.length + 32 ≤ 1024) ∧ (s.hub.val Od.evtDetailLimit ≠ 0) ∧ (bit i v.toNat = true) ∧ (evtReserved (32 * w +
      i) = false)) ∧
    (∃ (s : State) (w : Fin 8) (v : Word) (i : Fin 32), (s.hub.live) ∧ (s.hub.evt.hold = none) ∧ (s.hub.evt.waiting = []) ∧
      (s.hub.evt.details.length + 32 ≤ 1024) ∧ (s.hub.val Od.evtDetailLimit ≠ 0) ∧ (bit i v.toNat = true) ∧ (evtReserved (32 * w +
      i) = false)) ∧
    (∃ (s : State) (o : HoldOwner) (w : Fin 8) (x : Hold), (s.hub.live) ∧ (s.hub.evt.hold = some x) ∧ (x.word = w.val) ∧ (x.owner
      ≠ o)) :=
  ⟨
    ⟨⟨{ evHub (fun x => { x with inHost := true }) [det 0x42 [7]] with hb := { HbSt.init with busMaster := true } }, []⟩, 0, 0x42, det 0x42 [7], [], by decide +kernel⟩,
    ⟨⟨evHub (fun x => { x with base := 0x1000 }) [det 0x42 [7]], []⟩, 0, 0x42, det 0x42 [7], [], by decide +kernel⟩,
    ⟨⟨evHub (fun x => { x with enable := false }) [det 0x42 [7]], []⟩, 0, by decide +kernel⟩,
    ⟨⟨evHub (fun x => { x with ended := [0x49] }) [det 0x42 [7], det 0x49 [1]], []⟩, 0, 0x49, det 0x49 [1], by decide +kernel⟩,
    ⟨⟨evHub id [det 0x42 [7], det 0x49 [1], det 0x42 [1], det 0x20 [1]], []⟩, by decide +kernel⟩,
    ⟨⟨evHub id [det 0x42 [7], det 0x20 [1]], []⟩, 2, 3, 1, by decide +kernel⟩,
    ⟨⟨evHub id [det 0x42 [7], det 0x20 [1]], []⟩, 2, 6, 2, by decide +kernel⟩,
    ⟨⟨holdBy .host 2 (evHub id [det 0x42 [7]]), []⟩, .keeper, 2, ⟨.host, 2, ⟨[]⟩⟩, by decide +kernel⟩⟩

theorem witness_eventsAreQueuedTakenAndAnnounced_3 :
    (∃ (s : State), (s.hub.live)) ∧
    (∃ (s : State) (x : Hold), (s.hub.live) ∧ (s.hub.evt.hold = some x)) ∧
    (∃ (s : State) (req : Path) (c : Fin 8) (src : Nat) (data : Bytes), (s.hub.takes req c 0x0C00) ∧ (0xD0 ≤ src) ∧ (src ≤ 0xEF) ∧
      (data.length = 8) ∧ (s.hub.evt.held src < s.hub.val Od.evtDetailLimit) ∧ (s.hub.evt.details.length < 1024)) ∧
    (∃ (s : State) (req : Path) (c : Fin 8) (src : Byte) (data : Bytes), (s.hub.takes req c 0x0C00) ∧ (src.toNat < 0xD0 ∨ 0xEF <
      src.toNat) ∧ (data.length = 11)) :=
  ⟨
    ⟨⟨up.put (Od.evtMaskWord 7) 5, []⟩, by decide +kernel⟩,
    ⟨⟨holdBy .host 2 up, []⟩, ⟨.host, 2, ⟨[]⟩⟩, by decide +kernel⟩,
    ⟨⟨up, []⟩, .keeper, 1, 0xEF, [1, 2, 3, 4, 5, 6, 7, 8], by decide +kernel⟩,
    ⟨⟨up, []⟩, .keeper, 1, 0xF0, [0, 0, 0, 1, 2, 3, 4, 5, 6, 7, 8], by decide +kernel⟩⟩

theorem witness_crcUnitsFollowR520 :
    (∃ (w : Nat) (i : Nat), (i < w)) ∧
    (∃ (b : Bytes), (b = [0x31, 0x32, 0x33, 0x34, 0x35, 0x36, 0x37, 0x38, 0x39])) :=
  ⟨
    ⟨8, 7, by decide +kernel⟩,
    ⟨[0x31, 0x32, 0x33, 0x34, 0x35, 0x36, 0x37, 0x38, 0x39], by decide +kernel⟩⟩

theorem witness_countersSelectCompareAndCapture_1 :
    (∃ (s : State) (req : Path) (n : Fin 96) (v : Word), (s.hub.live) ∧ (s.hub.keeperUp = true) ∧ (s.hub.odWriteBad req
      (Od.cntSelect n).key (u32 v.toNat) = none) ∧ (s.hub.mirroring = false) ∧ (s.hub.ctl.keeperQ = [])) ∧
    (∃ (s : State) (req : Path) (n : Fin 96) (v : Word), (s.hub.live) ∧ (s.hub.keeperUp = true) ∧ (s.hub.odWriteBad req
      (Od.cntSelect n).key (u32 v.toNat) = none) ∧ (s.hub.mirroring = false) ∧ (s.hub.ctl.keeperQ = [])) ∧
    (∃ (s : State) (req : Path) (n : Fin 96) (v : Word), (s.hub.live) ∧ (s.hub.keeperUp = true) ∧ (s.hub.odWriteBad req
      (Od.cntSelect n).key (u32 v.toNat) = none) ∧ (s.hub.mirroring = false) ∧ (s.hub.ctl.keeperQ = [])) ∧
    (∃ (s : State) (req : Path) (n : Fin 96) (v : Word), (s.hub.live) ∧ (s.hub.keeperUp = true) ∧ (s.hub.pwr.bootPhase ≠ .romStay)
      ∧ (s.hub.mode.active ≠ .strapFault) ∧ (s.hub.locked (Od.cntSelect n).key = false) ∧ (s.hub.pathDenied req true = false) ∧
      (v.toNat % 65536 = 0x0206 ∧ 2 < v.toNat / 65536 ∨ v.toNat % 65536 = 0x0106) ∧ (s.hub.ctl.keeperQ = [])) ∧
    (∃ (s : State) (req : Path) (n : Fin 96) (v : Word), (s.hub.live) ∧ (s.hub.keeperUp = true) ∧ (s.hub.pwr.bootPhase ≠ .romStay)
      ∧ (s.hub.mode.active ≠ .strapFault) ∧ (s.hub.locked (Od.cntSelect n).key = false) ∧ (s.hub.pathDenied req true = false) ∧
      (v.toNat % 65536 = 0x0206 ∧ 2 < v.toNat / 65536 ∨ v.toNat % 65536 = 0x0106) ∧ (s.hub.ctl.keeperQ = [])) ∧
    (∃ (s : State) (req : Path) (k : Fin 32) (which : Fin 3) (v : Word), (s.hub.live) ∧ (s.hub.keeperUp = true) ∧ (which = 0 →
      v.toNat ≤ 11) ∧ (which = 1 → v.toNat < 65536 ∧ occInstance (s.hub.val (Od.cmpOcc k)) v.toNat = true) ∧ (s.hub.odWriteBad req
      (if which = 0 then Od.cmpOcc k else if which = 1 then Od.cmpInstance k else Od.cmpN k).key (leBytes (if which = 0 then 1 else
      if which = 1 then 2 else 4) v.toNat) = none) ∧ (s.hub.mirroring = false) ∧ (s.hub.ctl.keeperQ = [])) ∧
    (∃ (s : State) (req : Path) (k : Fin 32) (which : Fin 3) (v : Word), (s.hub.live) ∧ (s.hub.keeperUp = true) ∧ (which = 0 →
      v.toNat ≤ 11) ∧ (which = 1 → v.toNat < 65536 ∧ occInstance (s.hub.val (Od.cmpOcc k)) v.toNat = true) ∧ (s.hub.odWriteBad req
      (if which = 0 then Od.cmpOcc k else if which = 1 then Od.cmpInstance k else Od.cmpN k).key (leBytes (if which = 0 then 1 else
      if which = 1 then 2 else 4) v.toNat) = none) ∧ (s.hub.mirroring = false) ∧ (s.hub.ctl.keeperQ = [])) ∧
    (∃ (s : State) (req : Path) (k : Fin 32) (which : Fin 3) (v : Word), (s.hub.live) ∧ (s.hub.keeperUp = true) ∧ (which = 0 →
      v.toNat ≤ 11) ∧ (which = 1 → v.toNat < 65536 ∧ occInstance (s.hub.val (Od.cmpOcc k)) v.toNat = true) ∧ (s.hub.odWriteBad req
      (if which = 0 then Od.cmpOcc k else if which = 1 then Od.cmpInstance k else Od.cmpN k).key (leBytes (if which = 0 then 1 else
      if which = 1 then 2 else 4) v.toNat) = none) ∧ (s.hub.mirroring = false) ∧ (s.hub.ctl.keeperQ = [])) :=
  ⟨
    ⟨⟨(up.put (cntEntry 256) 99), []⟩, .keeper, 0, 0x00000207, by decide +kernel⟩,
    ⟨⟨(up.put (cntEntry 351) 99), []⟩, .mailbox, 95, 0xFFFF0404, by decide +kernel⟩,
    ⟨⟨(up.put (cntEntry 351) 99), []⟩, .mailbox, 95, 0, by decide +kernel⟩,
    ⟨⟨up, []⟩, .keeper, 0, 0x00030206, by decide +kernel⟩,
    ⟨⟨up, []⟩, .keeper, 95, 0x00000106, by decide +kernel⟩,
    ⟨⟨up.put (cntEntry 352) 9, []⟩, .keeper, 0, 0, 11, by decide +kernel⟩,
    ⟨⟨(up.put (cntEntry 383) 9).put (Od.cmpOcc 31) 5, []⟩, .keeper, 31, 1, 3, by decide +kernel⟩,
    ⟨⟨up.put (cntEntry 352) 9, []⟩, .keeper, 0, 2, 0xFFFFFFFF, by decide +kernel⟩⟩

theorem witness_countersSelectCompareAndCapture_2 :
    (∃ (s : State) (k : Fin 32), (s.hub.live) ∧ (s.hub.val (Od.cmpLimit k) ≠ 0) ∧ (s.hub.obs.reached.get 0 k ≠ 1)) ∧
    (∃ (s : State) (k : Fin 32), (s.hub.live) ∧ (s.hub.val (Od.cmpLimit k) = 0 ∨ s.hub.obs.reached.get 0 k = 1)) ∧
    (∃ (s : State) (k : Fin 32), (s.hub.live) ∧ (s.hub.val (Od.cmpLimit k) = 0 ∨ s.hub.obs.reached.get 0 k = 1)) ∧
    (∃ (s : State), (s.hub.live)) ∧
    (∃ (s : State) (b : Fin 4) (t : Nat), (s.hub.live) ∧ ((s.hub.bank b).pendingAt = some t) ∧ ((s.hub.bank b).seq = 0 ∨
      s.hub.cycleAt (s.hub.bank b).clock ≠ s.hub.cycleAt (max s.hub.clock t))) ∧
    (∃ (s : State) (req : Path) (c : Fin 8) (b : Fin 4), (s.hub.takes req c 0x0C10) ∧ ((s.hub.bank b).pendingAt = none) ∧
      ((s.hub.bank b).seq = 0 ∨ s.hub.cycleAt (s.hub.bank b).clock ≠ s.hub.cycleAt s.hub.clock)) ∧
    (∃ (s : State) (req : Path) (c : Fin 8) (b : Fin 4) (t : Nat), (s.hub.takes req c 0x0C10) ∧ ((s.hub.bank b).pendingAt = none)
      ∧ (t ≠ 0) ∧ (s.hub.clock / 10 + 1000 ≤ t) ∧ (t ≤ s.hub.clock / 10 + 10000000000) ∧ (t < 2 ^ 64)) ∧
    (∃ (s : State) (req : Path) (c : Fin 8) (b : Fin 4) (t : Nat), (s.hub.takes req c 0x0C10) ∧ ((s.hub.bank b).pendingAt = none)
      ∧ (t ≠ 0) ∧ (t < s.hub.clock / 10 + 1000 ∨ s.hub.clock / 10 + 10000000000 < t) ∧ (t < 2 ^ 64)) :=
  ⟨
    ⟨⟨up.put (Od.cmpLimit 31) 100, []⟩, 31, by decide +kernel⟩,
    ⟨⟨up, []⟩, 0, by decide +kernel⟩,
    ⟨⟨{ up.put (Od.cmpLimit 31) 100 with obs := { up.obs with reached := ⟨[(31, 1)]⟩ } }, []⟩, 31, by decide +kernel⟩,
    ⟨⟨up.put (cntEntry 383) 0xABCD12345678, []⟩, by decide +kernel⟩,
    ⟨⟨((up.accept 3 0x0C10 9 []).putBlob (Od.snapSnapList 2) [0, 0, 1, 1]).setBank 2 { SnapBank.init with pendingAt := some 5000, command := some 3 }, []⟩, 2, 5000, by decide +kernel⟩,
    ⟨⟨up.putBlob (Od.snapSnapList 3) [0, 0, 1, 1], []⟩, .keeper, 1, 3, by decide +kernel⟩,
    ⟨⟨up, []⟩, .keeper, 1, 3, 1000, by decide +kernel⟩,
    ⟨⟨up, []⟩, .keeper, 1, 3, 999, by decide +kernel⟩⟩

theorem witness_countersSelectCompareAndCapture_3 :
    (∃ (s : State) (req : Path) (c : Fin 8) (b : Fin 4) (t : Nat), (s.hub.takes req c 0x0C10) ∧ ((s.hub.bank b).pendingAt = none)
      ∧ (t ≠ 0) ∧ (t < s.hub.clock / 10 + 1000 ∨ s.hub.clock / 10 + 10000000000 < t) ∧ (t < 2 ^ 64)) :=
    ⟨⟨up, []⟩, .keeper, 1, 3, 10000000001, by decide +kernel⟩

theorem witness_observationDebugLoopbackJtagAndRegisterWrites_1 :
    (∃ (s : State) (req : Path) (v : Bool), (s.hub.live) ∧ (s.hub.keeperUp = true) ∧ (s.hub.odWriteBad req Od.obsObsEnable.key (u8
      (b2n v)) = none) ∧ (v = true → s.hub.mode.active = .bench ∨ s.hub.debugUnlocked = true) ∧ (s.hub.mirroring = false) ∧
      (s.hub.ctl.keeperQ = [])) ∧
    (∃ (s : State) (req : Path) (v : Bool), (s.hub.live) ∧ (s.hub.keeperUp = true) ∧ (s.hub.odWriteBad req Od.obsObsEnable.key (u8
      (b2n v)) = none) ∧ (v = true → s.hub.mode.active = .bench ∨ s.hub.debugUnlocked = true) ∧ (s.hub.mirroring = false) ∧
      (s.hub.ctl.keeperQ = [])) ∧
    (∃ (s : State) (req : Path), (s.hub.live) ∧ (s.hub.keeperUp = true) ∧ (s.hub.pwr.bootPhase ≠ .romStay) ∧ (s.hub.mode.active ≠
      .strapFault) ∧ (s.hub.mode.active ≠ .bench) ∧ (s.hub.debugUnlocked = false) ∧ (s.hub.locked Od.obsObsEnable.key = false) ∧
      (s.hub.pathDenied req true = false) ∧ (s.hub.ctl.keeperQ = [])) ∧
    (∃ (s : State) (v : Bool), (s.hub.live) ∧ (v = true → s.hub.mode.active = .bench ∨ s.hub.debugUnlocked = true)) ∧
    (∃ (s : State) (v : Bool), (s.hub.live) ∧ (v = true → s.hub.mode.active = .bench ∨ s.hub.debugUnlocked = true)) ∧
    (∃ (s : State) (req : Path) (v : Byte), (s.hub.live) ∧ (s.hub.keeperUp = true) ∧ (v.toNat ≤ 63) ∧ (s.hub.odWriteBad req
      Od.obsObsGroup.key (u8 v.toNat) = none) ∧ (s.hub.mirroring = false) ∧ (s.hub.ctl.keeperQ = [])) ∧
    (∃ (s : State) (req : Path) (v : Byte), (s.hub.live) ∧ (s.hub.keeperUp = true) ∧ (v.toNat ≤ 63) ∧ (s.hub.odWriteBad req
      Od.obsObsGroup.key (u8 v.toNat) = none) ∧ (s.hub.mirroring = false) ∧ (s.hub.ctl.keeperQ = [])) ∧
    (∃ (s : State) (v : Byte), (s.hub.live) ∧ (v.toNat ≤ 63)) :=
  ⟨
    ⟨⟨up, []⟩, .keeper, true, by decide +kernel⟩,
    ⟨⟨up.put Od.obsObsEnable 1, []⟩, .keeper, false, by decide +kernel⟩,
    ⟨⟨lighthouse { up with sec := { up.sec with latched := ⟨[(6, 1)]⟩ } }, []⟩, .keeper, by decide +kernel⟩,
    ⟨⟨up, []⟩, true, by decide +kernel⟩,
    ⟨⟨up.put Od.obsObsEnable 1, []⟩, false, by decide +kernel⟩,
    ⟨⟨up, []⟩, .keeper, 63, by decide +kernel⟩,
    ⟨⟨up, []⟩, .keeper, 0, by decide +kernel⟩,
    ⟨⟨up, []⟩, 31, by decide +kernel⟩⟩

theorem witness_observationDebugLoopbackJtagAndRegisterWrites_2 :
    (∃ (s : State) (req : Path) (c : Fin 8), (s.hub.takes req c 0x0C11) ∧ (s.hub.debugUnlocked = false) ∧ (s.hub.obs.failedAt =
      none) ∧ (s.hub.sec.trng = .running)) ∧
    (∃ (s : State) (req : Path) (c : Fin 8), (s.hub.takes req c 0x0C11) ∧ (s.hub.debugUnlocked = true ∨ ∃ t ∈ s.hub.obs.failedAt,
      s.hub.clock < t + 10000000000)) ∧
    (∃ (s : State) (req : Path) (c : Fin 8), (s.hub.takes req c 0x0C11) ∧ (s.hub.debugUnlocked = true ∨ ∃ t ∈ s.hub.obs.failedAt,
      s.hub.clock < t + 10000000000)) ∧
    (∃ (s : State) (req : Path) (c : Fin 8) (n : Bytes) (key : Bytes) (sig : Bytes), (s.hub.takes req c 0x0C12) ∧ (s.hub.obs.nonce
      = some n) ∧ (key.length = 64) ∧ (sig.length = 64)) ∧
    (∃ (s : State) (req : Path) (c : Fin 8) (args : Bytes), (s.hub.takes req c 0x0C12) ∧ (s.hub.obs.nonce = none) ∧ (args.length =
      128)) ∧
    (∃ (s : State), (s.hub.live)) ∧
    (∃ (s : State) (req : Path) (q : Fin 25) (v : Byte), (s.hub.live) ∧ (s.hub.keeperUp = true) ∧ (s.hub.odWriteBad req
      (Od.obsLoopback q).key (u8 v.toNat) = none) ∧ (s.hub.mirroring = false) ∧ (s.hub.mode.active = .bench ∨ q.val < 5 ∨ v = 0) ∧
      (s.hub.ctl.keeperQ = [])) ∧
    (∃ (s : State) (req : Path) (q : Fin 25) (v : Byte), (s.hub.live) ∧ (s.hub.keeperUp = true) ∧ (s.hub.odWriteBad req
      (Od.obsLoopback q).key (u8 v.toNat) = none) ∧ (s.hub.mirroring = false) ∧ (s.hub.mode.active = .bench ∨ q.val < 5 ∨ v = 0) ∧
      (s.hub.ctl.keeperQ = [])) :=
  ⟨
    ⟨⟨{ up with sec := { up.sec with latched := ⟨[(6, 1)]⟩ } }, []⟩, .keeper, 1, by decide +kernel⟩,
    ⟨⟨up, []⟩, .keeper, 1, by decide +kernel⟩,
    ⟨⟨{ up with clock := 50, sec := { up.sec with latched := ⟨[(6, 1)]⟩ }, obs := { up.obs with failedAt := some 40 } }, []⟩, .keeper, 1, by decide +kernel⟩,
    ⟨⟨{ up with obs := { up.obs with nonce := some [1, 2] } }, []⟩, .keeper, 1, [1, 2], List.replicate 64 3, List.replicate 64 4, by decide +kernel⟩,
    ⟨⟨up, []⟩, .keeper, 1, List.replicate 128 3, by decide +kernel⟩,
    ⟨⟨{ up with obs := { up.obs with nonce := some [1, 2] } }, []⟩, by decide +kernel⟩,
    ⟨⟨serving up, []⟩, .keeper, 0, 2, by decide +kernel⟩,
    ⟨⟨(up.setLane 4 { LaneSt.init with state := .pattern }).put (Od.obsLoopback 4) 1, []⟩, .keeper, 4, 0, by decide +kernel⟩⟩

theorem witness_observationDebugLoopbackJtagAndRegisterWrites_3 :
    (∃ (s : State) (req : Path) (q : Fin 25) (v : Byte), (s.hub.live) ∧ (s.hub.keeperUp = true) ∧ (s.hub.odWriteBad req
      (Od.obsLoopback q).key (u8 v.toNat) = none) ∧ (s.hub.mirroring = false) ∧ (s.hub.mode.active = .bench ∨ q.val < 5 ∨ v = 0) ∧
      (s.hub.ctl.keeperQ = [])) ∧
    (∃ (s : State) (req : Path) (q : Fin 25) (v : Byte), (s.hub.live) ∧ (s.hub.keeperUp = true) ∧ (s.hub.odWriteBad req
      (Od.obsLoopback q).key (u8 v.toNat) = none) ∧ (s.hub.mirroring = false) ∧ (s.hub.mode.active = .bench ∨ q.val < 5 ∨ v = 0) ∧
      (s.hub.ctl.keeperQ = [])) ∧
    (∃ (s : State) (req : Path) (q : Fin 25) (v : Byte), (s.hub.live) ∧ (s.hub.keeperUp = true) ∧ (s.hub.odWriteBad req
      (Od.obsLoopback q).key (u8 v.toNat) = none) ∧ (s.hub.mirroring = false) ∧ (s.hub.mode.active = .bench ∨ q.val < 5 ∨ v = 0) ∧
      (s.hub.ctl.keeperQ = [])) ∧
    (∃ (s : State) (a : Word) (r : RegRow), (s.hub.live) ∧ (s.hub.domOn 11 = true) ∧ (a.toNat < 0x40000) ∧ (a.toNat % 4 = 0) ∧
      (regStored a.toNat = true) ∧ (regRow? a.toNat = some r) ∧ (s.hub.hb.posted = [])) ∧
    (∃ (s : State) (a : Word) (r : RegRow), (s.hub.live) ∧ (s.hub.domOn 11 = true) ∧ (a.toNat < 0x40000) ∧ (a.toNat % 4 = 0) ∧
      (regStored a.toNat = true) ∧ (regRow? a.toNat = some r) ∧ (s.hub.hb.posted = [])) ∧
    (∃ (s : State) (a : Word) (r : RegRow), (s.hub.live) ∧ (0x10000 ≤ a.toNat ∧ a.toNat < 0x1A000 ∨ 0x20000 ≤ a.toNat ∧ a.toNat <
      0x3E000) ∧ (a.toNat % 4 = 0) ∧ (regStored a.toNat = true) ∧ (regRow? a.toNat = some r)) ∧
    (∃ (s : State), (s.hub.live) ∧ (s.hub.pwr.bootPhase ≠ .held)) ∧
    (∃ (s : State) (a : Word) (be : Byte), (s.hub.live) ∧ (be.toNat % 16 = 0 ∨ s.hub.domOn 11 = false ∨ a.toNat % 4 ≠ 0) ∧
      (s.hub.hb.posted = [])) :=
  ⟨
    ⟨⟨up.put (Od.obsLoopback 24) 1, []⟩, .keeper, 24, 0, by decide +kernel⟩,
    ⟨⟨up, []⟩, .keeper, 5, 1, by decide +kernel⟩,
    ⟨⟨lighthouse up, []⟩, .keeper, 3, 1, by decide +kernel⟩,
    ⟨⟨up.putReg Rg.evtFlags 0x2A, []⟩, 0x20064, ⟨0x20064, 4, 1, 0, 0x3F⟩, by decide +kernel⟩,
    ⟨⟨up.putReg (Rg.patUser 4 0) 7, []⟩, 0x10424, ⟨0x10024, 256, 5, 0xFFFFFFFF, 0⟩, by decide +kernel⟩,
    ⟨⟨up.putReg Rg.evtFlags 0x2A, []⟩, 0x20064, ⟨0x20064, 4, 1, 0, 0x3F⟩, by decide +kernel⟩,
    ⟨⟨up.putReg Rg.pwrFlags 0x2A, []⟩, by decide +kernel⟩,
    ⟨⟨up, []⟩, 0x20064, 0xF0, by decide +kernel⟩⟩

theorem witness_observationDebugLoopbackJtagAndRegisterWrites_4 :
    (∃ (s : State) (a : Word) (be : Byte), (s.hub.live) ∧ (be.toNat % 16 = 0 ∨ s.hub.domOn 11 = false ∨ a.toNat % 4 ≠ 0) ∧
      (s.hub.hb.posted = [])) ∧
    (∃ (s : State) (a : Word) (be : Byte), (s.hub.live) ∧ (be.toNat % 16 = 0 ∨ s.hub.domOn 11 = false ∨ a.toNat % 4 ≠ 0) ∧
      (s.hub.hb.posted = [])) ∧
    (∃ (s : State), (s.hub.live) ∧ (s.hub.domOn 11 = true)) ∧
    (∃ (s : State), (s.hub.live) ∧ (s.hub.domOn 11 = true) ∧ (s.hub.hb.msixPending = 0)) ∧
    (∃ (s : State), (s.hub.live) ∧ (s.hub.domOn 11 = true) ∧ (s.hub.pwr.bootPhase = .keeper ∨ s.hub.hb.perstRose + 10000000000 ≤
      s.hub.clock)) ∧
    (∃ (s : State), (s.hub.live) ∧ (s.hub.domOn 11 = true) ∧ (s.hub.pwr.bootPhase ≠ .keeper) ∧ (s.hub.clock < s.hub.hb.perstRose +
      10000000000)) ∧
    (∃ (s : State), (s.hub.live) ∧ (s.hub.domOn 11 = true) ∧ (s.hub.hb.posted ≠ [])) :=
  ⟨
    ⟨⟨up.setDomain 11 { DomSt.start 2 with state := .off }, []⟩, 0x20064, 15, by decide +kernel⟩,
    ⟨⟨up, []⟩, 0x20065, 15, by decide +kernel⟩,
    ⟨⟨up, []⟩, by decide +kernel⟩,
    ⟨⟨up, []⟩, by decide +kernel⟩,
    ⟨⟨up, []⟩, by decide +kernel⟩,
    ⟨⟨{ up with pwr := { up.pwr with bootPhase := .rom } }, []⟩, by decide +kernel⟩,
    ⟨⟨{ up with hb := { up.hb with posted := [⟨true, 0x300A40, 15, [1, 2, 3, 4]⟩] } }, []⟩, by decide +kernel⟩⟩

/-! ### The witnesses whose hypotheses name an opaque value -/

/-- Port 0 holds 0x80 and NAME 0 arrives, where the hub's own NAME is not 0: R348's template at its lowest value above the serial number. -/
theorem witness_canFramesAndAddressClaims_name :
    ∃ (s : State) (n : Fin 6) (src : Byte) (name : BitVec 64), s.hub.live ∧
      ((s.hub.can n).claimed = some src.toNat ∨ (s.hub.can n).claiming = some src.toNat) ∧ name.toNat < s.hub.isoName := by
  refine ⟨⟨(up.put Od.canNameTemplate (2 ^ 21)).setCan 0 { CanSt.init with claimed := some 0x80 }, []⟩, 0, 0x80, 0, by decide +kernel,
    by decide +kernel, ?_⟩
  have h : (((up.put Od.canNameTemplate (2 ^ 21)).setCan 0 { CanSt.init with claimed := some 0x80 }).val Od.canNameTemplate) = 2 ^ 21 := by
    decide +kernel
  show 0 < Hub.isoName _
  simp only [Hub.isoName, h]
  omega

/-- Slot 20 holds a key whose check holds; no other slot is VALID. -/
def checkedSlot : Slot := { Slot.init with state := .valid, usage := 4, usesLeft := 2, masked := 77, mask := 33, check := up.slotCheck 20 (77 ^^^ 33) 4 false }
def checkedHub : Hub := { up with sec := { up.sec with slots := ⟨[(20, checkedSlot)]⟩ } }

theorem witness_masks_remask :
    ∃ s : State, s.hub.live ∧ s.hub.drawOk = true ∧ s.hub.domOn 16 = true ∧ (s.hub.slot 20).state = .valid ∧
      ∀ m : Fin 64, (s.hub.slot m).state = .valid →
        (s.hub.slot m).check = s.hub.slotCheck m (s.hub.slot m).key (s.hub.slot m).usage (s.hub.slot m).expire := by
  refine ⟨⟨checkedHub, []⟩, rfl, rfl, rfl, rfl, ?_⟩
  intro m hm
  have hs : checkedHub.slot m.val = if 20 = m.val then checkedSlot else Slot.init := rfl
  by_cases h : 20 = m.val
  · show (checkedHub.slot m.val).check = checkedHub.slotCheck m.val (checkedHub.slot m.val).key (checkedHub.slot m.val).usage (checkedHub.slot m.val).expire
    rw [hs, if_pos h, ← h]
    rfl
  · have hm' : (checkedHub.slot m.val).state = .valid := hm
    rw [hs, if_neg h] at hm'
    cases hm'

/-! ### Ill-formed commands are refused by the checks -/

/-- INDEX has 8 bits (R109). -/
theorem test_wf_tally_index :
    (Instr.tally 0 [{ sysCell with index := 256, payload := [] }] 0 ⟨false, 0⟩ true true).wf = false := by decide +kernel
/-- A tally group holds at most 16 cells (R112). -/
theorem test_wf_tally_cells : (Instr.tally 0 (List.replicate 17 sysCell) 0 ⟨false, 0⟩ true true).wf = false := by decide +kernel
theorem test_wf_tally_good : (Instr.tally 0 [sysCell] 0 ⟨false, 0⟩ true true).wf = true := by decide +kernel
theorem test_wf_trainingBlock : (Instr.trainingBlock 0 { blk with rate := 3 } true).wf = false := by decide +kernel
theorem test_wf_laneDropBlock : (Instr.laneDropBlock 0 true 3 true).wf = false := by decide +kernel
theorem test_wf_equalisationDone : (Instr.equalisationDone 0 0 [64, 0, 0, 0, 0, 0, 0, 0] 0 0).wf = false := by decide +kernel
theorem test_wf_idle_known_code : (Instr.idle 0 (.unknown 0x20) true).wf = false := by decide +kernel
theorem test_wf_vdmDiscoverModes : (Instr.vdmDiscoverModes ⟨0, true⟩ 0 false 0 (List.replicate 7 0)).wf = false := by decide +kernel
theorem test_wf_vdmEnter : (Instr.vdmEnter ⟨0, true⟩ 0 false 0 (List.replicate 7 0)).wf = false := by decide +kernel
theorem test_wf_vdmExit : (Instr.vdmExit ⟨0, true⟩ 0 false 0 (List.replicate 7 0)).wf = false := by decide +kernel
theorem test_wf_vdmAttention : (Instr.vdmAttention ⟨0, true⟩ 0 0 (List.replicate 7 0)).wf = false := by decide +kernel
theorem test_wf_moorVdm : (Instr.moorVdm ⟨0, true⟩ 0 0 0 0 (List.replicate 7 0)).wf = false := by decide +kernel
theorem test_wf_countBlock : (Instr.countBlock ⟨0, true⟩ 9).wf = false := by decide +kernel
theorem test_wf_tenderFault : (Instr.tenderFault 0 2).wf = false := by decide +kernel
theorem test_wf_pfcFrame : (Instr.pfcFrame 0 1 [7]).wf = false := by decide +kernel
theorem test_wf_ethFrameRx : (Instr.ethFrameRx 0 [1, 2, 3] true).wf = false := by decide +kernel
/-- An 11-bit identifier of a CAN frame (R349). -/
theorem test_wf_canFrameRx_id : (Instr.canFrameRx 0 { canF with id := 0x800 } false).wf = false := by decide +kernel
theorem test_wf_canFrameRx_length : (Instr.canFrameRx 0 { canF with fd := true, data := List.replicate 13 0 } false).wf = false := by
  decide +kernel
theorem test_wf_initiateDownload : (Instr.initiateDownload 0 0x80 true (List.replicate 8 0)).wf = false := by decide +kernel
theorem test_wf_downloadSegment : (Instr.downloadSegment 0 0x80 false [1]).wf = false := by decide +kernel
theorem test_wf_initiateUpload : (Instr.initiateUpload 0 0x80 false [1]).wf = false := by decide +kernel
theorem test_wf_uploadSegmentRequest : (Instr.uploadSegmentRequest 0 0x80 false [1]).wf = false := by decide +kernel
theorem test_wf_odapAbort : (Instr.odapAbort 0 0x80 false [1]).wf = false := by decide +kernel
theorem test_wf_odapReservedFrame : (Instr.odapReservedFrame 0 0x80 false [1]).wf = false := by decide +kernel
theorem test_wf_emmcInitDone : (Instr.emmcInitDone (some (0, 5)) []).wf = false := by decide +kernel
theorem test_wf_uartRxSegment : (Instr.uartRxSegment 0 []).wf = false := by decide +kernel
theorem test_wf_outPacket : (Instr.outPacket 0 0 0 false [1]).wf = false := by decide +kernel
theorem test_wf_ping : (Instr.ping 0 0 0).wf = false := by decide +kernel
/-- A request that would cross 4 KiB (R426), and one that is no whole DW (R417). -/
theorem test_wf_bar2Write : (Instr.bar2Write 0xFFC 0xFF [1, 2, 3, 4, 5, 6, 7, 8] false).wf = false := by decide +kernel
theorem test_wf_bar2Read : (Instr.bar2Read 2 0xF 4).wf = false := by decide +kernel
theorem test_wf_atomicOp : (Instr.atomicOp true 4 0 8 0 0).wf = false := by decide +kernel
theorem test_wf_registerWrite : (Instr.registerWrite (.words .host 0x20064 15 [1, 2] false)).wf = false := by decide +kernel

/-! ### Values that the spec works out -/

/-- The pieces of the worked example of R426: 192 bytes at 0x00100A40 and 64 bytes at 0x00100B00. -/
theorem test_pieces_worked_example : (pieces 0x100A40 256 0xFF).map (fun p => (p.1, p.2.1)) = [(0x100A40, 192), (0x100B00, 64)] := by
  decide +kernel

/-- The check value of CRC-32 over the ASCII bytes 123456789 (R520). -/
theorem test_crc32_check_value : crc32.of [0x31, 0x32, 0x33, 0x34, 0x35, 0x36, 0x37, 0x38, 0x39] = 0xCBF43926 := by decide +kernel

/-- A worked form of R582: item 0x0207 is known for link 2 and not for link 3; 0x0404 takes 0xFFFF for all Tenders. -/
theorem test_select_ranges : selectOk 0x00020207 = true ∧ selectOk 0x00030207 = false ∧ selectOk 0xFFFF0404 = true ∧ selectOk 0x00000106 = false := by
  decide +kernel

/-- No row of the opcode table gives bits, so no word spells a command. -/
theorem test_no_word_is_a_command : decodeTableWord 32 0 = none := by decide +kernel

/-- The front command runs first: IDCODE is in force after one step, and the second command still waits. -/
theorem test_queue_first_in_first_out :
    (match step ⟨up, [.idcode, .bypass]⟩ with
      | .next t => decide (t.hub.obs.jtag = .idcode) && decide (t.pending = [.bypass])
      | _ => false) = true := by decide +kernel

end Sys2Proof.Tests
end

/-!
SUPPORT. Frames as a calculus over the hub's operations. `Hub.keeps` is reflexive and composes, so that the frame of an operation is read
off its definition: `x_keeps.after y` is the frame of operation x after what y is the frame of, and `ite_keeps` follows a choice. There is
one lemma for each operation, and the frame of a command is that of the operation it runs, with the lines that settle after it.

The many small decisions on lists of kinds would start more threads than the memory limit of the check allows: `Elab.async` is off, as it is
in the tests.
-/

namespace Sys2Proof.Machine.Hub

set_option Elab.async false

/-! ### The frame composes -/

theorem agrees_refl (h : Hub) (q : Part) : h.agrees h q := by
  cases q
  case lines => exact ⟨rfl, rfl, rfl⟩
  all_goals rfl

theorem agrees_trans {a b c : Hub} {q : Part} (hab : a.agrees b q) (hbc : b.agrees c q) : a.agrees c q := by
  cases q
  case lines =>
    obtain ⟨evtN, irq, faultN⟩ := hab
    obtain ⟨evtN', irq', faultN'⟩ := hbc
    exact ⟨evtN.trans evtN', irq.trans irq', faultN.trans faultN'⟩
  all_goals exact Eq.trans hab hbc

theorem keeps.refl {h : Hub} {l : List Part} : h.keeps h l := fun q _ => h.agrees_refl q

/-- A frame stays true when more kinds are named. -/
theorem keeps.within {a b : Hub} {l l' : List Part} (hab : a.keeps b l) (hl : l ⊆ l' := by decide) : a.keeps b l' :=
  fun q hq => hab q (fun h => hq (hl h))

theorem keeps.trans {a b c : Hub} {l : List Part} (hab : a.keeps b l) (hbc : b.keeps c l) : a.keeps c l :=
  fun q hq => agrees_trans (hab q hq) (hbc q hq)

/-- An operation of a smaller frame after others. -/
theorem keeps.after {a b c : Hub} {l l' : List Part} (hab : a.keeps b l) (hbc : b.keeps c l') (hl : l ⊆ l' := by decide) :
    a.keeps c l' :=
  (hab.within hl).trans hbc

/-- A choice keeps what both its branches keep. -/
theorem ite_keeps {a a' b : Hub} {l : List Part} {P : Prop} [Decidable P] (ht : a.keeps b l) (hf : a'.keeps b l) :
    (if P then a else a').keeps b l := by
  split
  · exact ht
  · exact hf

/-- A fold keeps what each of its steps keeps. -/
theorem foldl_keeps {α : Type} {f : Hub → α → Hub} {a b : Hub} {l : List Part} (hf : ∀ h x, (f h x).keeps h l) (xs : List α)
    (hab : a.keeps b l) : (xs.foldl f a).keeps b l := by
  induction xs generalizing a with
  | nil => exact hab
  | cons x xs ih => exact ih ((hf a x).trans hab)

section Operations

variable {h : Hub} {l : List Part} {p n c k e : Nat}

/-! ### One field of the hub replaced -/

theorem withOut_keeps {x : List Out} : ({ h with out := x } : Hub).keeps h [.out] := by intro q; cases q <;> simp [agrees]
theorem withRegs_keeps {x : Tab Nat} : ({ h with regs := x } : Hub).keeps h [.regs] := by intro q; cases q <;> simp [agrees]
theorem withDraws_keeps {x : Nat} : ({ h with draws := x } : Hub).keeps h [.draws] := by intro q; cases q <;> simp [agrees]
theorem withMode_keeps {x : ModeSt} : ({ h with mode := x } : Hub).keeps h [.mode, .lines] := by intro q; cases q <;> simp [agrees]
theorem withCtl_keeps {x : CtlSt} : ({ h with ctl := x } : Hub).keeps h [.ctl] := by intro q; cases q <;> simp [agrees]
theorem withLanes_keeps {x : LanesSt} : ({ h with lanes := x } : Hub).keeps h [.lanes] := by intro q; cases q <;> simp [agrees]
theorem withLinks_keeps {x : LinksSt} : ({ h with links := x } : Hub).keeps h [.links] := by intro q; cases q <;> simp [agrees]
theorem withPlan_keeps {x : PlanSt} : ({ h with plan := x } : Hub).keeps h [.plan] := by intro q; cases q <;> simp [agrees]
theorem withEng_keeps {x : EngSt} : ({ h with eng := x } : Hub).keeps h [.eng] := by intro q; cases q <;> simp [agrees]
theorem withBcn_keeps {x : BcnSt} : ({ h with bcn := x } : Hub).keeps h [.bcn] := by intro q; cases q <;> simp [agrees]
theorem withDm_keeps {x : DmSt} : ({ h with dm := x } : Hub).keeps h [.dm] := by intro q; cases q <;> simp [agrees]
theorem withPwr_keeps {x : PwrSt} : ({ h with pwr := x } : Hub).keeps h [.pwr] := by intro q; cases q <;> simp [agrees]

/-! ### Outputs, registers, free values -/

theorem emit_keeps {x : Out} : (h.emit x).keeps h [.out] := withOut_keeps
theorem flag_keeps {r : Entry} : (h.flag r n).keeps h [.regs] := withRegs_keeps
theorem open_keeps {w : Nat} : (h.open_ w).1.keeps h [.draws] := withDraws_keeps
theorem settle_keeps : h.settle.keeps h [.out, .lines] := by intro q; cases q <;> simp [agrees, settle]

/-! ### Events and the ends of commands -/

theorem fire_keeps {d : Bytes} : (h.fire n d).keeps h [.od, .regs, .evt, .pwr] := by intro q; cases q <;> simp [agrees]

theorem finish_keeps {status : Nat} {d : Bytes} : (h.finish c status d).keeps h [.ctl] := by intro q; cases q <;> simp [agrees]

theorem deliverRecord_keeps {d : Bytes} {source : Option Nat} :
    (h.deliverRecord d source).keeps h [.od, .regs, .evt, .dm, .pwr] := by
  dsimp only [deliverRecord]
  split
  · exact withDm_keeps.after fire_keeps.within
  · exact fire_keeps.within

theorem completeAction_keeps {status : Nat} : (h.completeAction c status).keeps h [.od, .regs, .evt, .dm, .pwr] := by
  dsimp only [completeAction]
  split
  · exact deliverRecord_keeps.after withDm_keeps.within
  · exact .refl

theorem done_keeps {status : Nat} {d : Bytes} : (h.done c status d).keeps h [.od, .regs, .ctl, .evt, .dm, .pwr] :=
  ite_keeps finish_keeps.within completeAction_keeps.within

theorem doneOpt_keeps {o : Option Nat} {status : Nat} {d : Bytes} :
    (h.doneOpt o status d).keeps h [.od, .regs, .ctl, .evt, .dm, .pwr] := by
  cases o
  · exact .refl
  · exact done_keeps

/-! ### Messages of the SYSTEM tunnels -/

theorem sysPut_keeps {d : Bytes} : (h.sysPut p d).keeps h [.eng] := withEng_keeps

theorem sysOut_keeps {m : SysMsg} : (h.sysOut p m).keeps h [.out, .eng] :=
  ite_keeps (sysPut_keeps.after emit_keeps.within) .refl

theorem sysRespond_keeps {depth op sub : Byte} {reqId index : BitVec 16} {status : Abort} {d : Bytes} :
    (h.sysRespond p depth reqId op index sub status d).keeps h [.out, .eng] := sysOut_keeps

theorem sysSend_keeps {r : SysRequest} {direction hops : Nat} : (h.sysSend r p direction hops).keeps h [.out, .ctl, .eng] :=
  Hub.keeps.after (b := { h with ctl := _ }) sysOut_keeps withCtl_keeps.within

theorem sysAsk_keeps {target ix sub : Nat} {mbx : Bool} {w : Option Bytes} :
    (h.sysAsk target mbx ix sub w).1.keeps h [.out, .ctl, .eng] := by
  unfold sysAsk
  split
  · exact .refl
  · split
    · exact .refl
    · exact ite_keeps withCtl_keeps.within (sysSend_keeps.after withCtl_keeps.within)

theorem sysAsk_keeps_of_eq {a : Hub} {target ix sub : Nat} {mbx : Bool} {w : Option Bytes} {o : Option Abort}
    (heq : h.sysAsk target mbx ix sub w = (a, o)) : a.keeps h [.out, .ctl, .eng] := by
  have := h.sysAsk_keeps (target := target) (ix := ix) (sub := sub) (mbx := mbx) (w := w)
  rwa [heq] at this

/-! ### Answers and Keeper's queue -/

theorem answer_keeps {r : Path} {st : Abort} {d : Bytes} : (h.answer r st d).keeps h [.out, .ctl, .eng, .io] := by
  intro q; cases q <;> simp [agrees]

theorem odapSend_keeps {client : Nat} {d : Bytes} : (h.odapSend n client d).keeps h [.io] := by intro q; cases q <;> simp [agrees]

theorem dropTransfer_keeps {client : Nat} : (h.dropTransfer n client).keeps h [.ctl] := withCtl_keeps

theorem putTransfer_keeps {t : OdapTransfer} : (h.putTransfer t).keeps h [.ctl] := withCtl_keeps.after dropTransfer_keeps

theorem odapAbort_keeps {client ix sub : Nat} {code : Abort} : (h.odapAbort n client ix sub code).keeps h [.ctl, .io] :=
  odapSend_keeps.after dropTransfer_keeps.within

theorem keeperJoin_keeps {a : Access} : (h.keeperJoin a).keeps h [.ctl] := withCtl_keeps

theorem keeperTake_keeps {r : Path} {ix sub : Nat} {w : Option Bytes} : (h.keeperTake r ix sub w).keeps h [.ctl] := keeperJoin_keeps

theorem keeperLeave_keeps {a : Access} : (h.keeperLeave a).keeps h [.ctl] := withCtl_keeps

theorem odapReplace_keeps {client : Nat} : (h.odapReplace n client).keeps h [.ctl] := by
  dsimp only [odapReplace]
  split
  · exact .refl
  · exact withCtl_keeps.after dropTransfer_keeps

/-- Beyond what serving the access does, Keeper's queue and an ODAP transfer that gives way are all that changes (R36, R37). -/
theorem turn_keeps {a : Access} {serve : Hub → Hub} (hs : ∀ h, (serve h).keeps h l) (hl : [.ctl] ⊆ l) :
    (h.turn a serve).keeps h l := by
  refine ite_keeps ?_ .refl
  extract_lets h0
  have h0k : h0.keeps h l := by
    unfold h0
    split
    · exact odapReplace_keeps.within hl
    · exact .refl
  exact ite_keeps (keeperLeave_keeps.after ((hs _).trans (keeperJoin_keeps.after h0k hl)) hl)
    (keeperJoin_keeps.after h0k hl)

theorem withCode_keeps {go : Hub} {r : Path} {code : Nat} (hgo : go.keeps h l) (hl : [.out, .ctl, .eng, .io] ⊆ l) :
    (h.withCode r code go).keeps h l := by
  refine ite_keeps ?_ .refl
  split
  · exact answer_keeps.within hl
  · exact hgo

theorem accept_keeps {code tag : Nat} {b : Bytes} : (h.accept c code tag b).keeps h [.ctl] := withCtl_keeps

/-- A refused command answers and no more; an accepted one takes its channel, answers, and starts (R59, R60). -/
theorem issue_keeps {r : Path} {code tag : Nat} {args : Bytes} {arg : Option Abort} {st : Option Nat} {start : Hub → Hub}
    (hs : ∀ h, (start h).keeps h l) (hl : [.out, .ctl, .eng, .io] ⊆ l := by decide) :
    (h.issue r c code tag args arg st start).keeps h l := by
  refine withCode_keeps ?_ hl
  split
  · exact answer_keeps.within hl
  · refine ite_keeps (answer_keeps.within hl) ?_
    split
    · exact answer_keeps.within hl
    · exact (hs _).trans (answer_keeps.after (accept_keeps.within (List.Subset.trans (by decide) hl)) hl)

/-! ### Modes and the stored configuration (R28, R65) -/

theorem setDomain_keeps {d : Nat} {x : DomSt} : (h.setDomain d x).keeps h [.pwr] := withPwr_keeps

theorem powerQueue_keeps {d : Nat} : (h.powerQueue d).keeps h [.pwr] :=
  ite_keeps (ite_keeps (withPwr_keeps.after setDomain_keeps) setDomain_keeps) .refl

theorem retrainStart_keeps {b : RetrainBy} : (h.retrainStart b).keeps h [.mode, .lines, .links, .pwr] := by
  have start {m : ModeSt} {x : LinksSt} : ({ h with mode := m, links := x } : Hub).keeps h [.mode, .lines, .links, .pwr] :=
    withLinks_keeps.after (b := { h with mode := m }) withMode_keeps.within
  exact foldl_keeps (fun _ _ => powerQueue_keeps.within) _ start

theorem fogRetry_keeps : h.fogRetry.keeps h [.mode, .lines, .links, .pwr] :=
  ite_keeps retrainStart_keeps .refl

theorem cmdModeResume_keeps {r : Path} {tag : Nat} {args : Bytes} :
    (h.cmdModeResume r c tag args).keeps h [.out, .mode, .ctl, .lines, .links, .eng, .io, .pwr] :=
  issue_keeps fun _ => retrainStart_keeps.within

theorem cmdNop_keeps {r : Path} {tag : Nat} {args : Bytes} :
    (h.cmdNop r c tag args).keeps h [.out, .od, .regs, .ctl, .evt, .eng, .dm, .io, .pwr] :=
  issue_keeps fun _ => done_keeps.within

theorem cmdConfig_keeps {op : FlashOp} {code : Nat} {r : Path} {tag : Nat} {args : Bytes} :
    (h.cmdConfig op code r c tag args).keeps h [.out, .ctl, .eng, .io] :=
  issue_keeps fun _ => withCtl_keeps.within

theorem configDone_keeps {ok : Bool} : (h.configDone ok).keeps h [.od, .regs, .ctl, .evt, .dm, .pwr] := by
  unfold configDone
  split
  · exact .refl
  · exact ite_keeps (done_keeps.after withCtl_keeps.within)
      (ite_keeps (done_keeps.after (withCtl_keeps.after withCtl_keeps.within)) (done_keeps.after withCtl_keeps.within))

/-! ### ODAP (R43 to R49) -/

theorem odapIgnore_keeps : h.odapIgnore.keeps h [.ctl] := withCtl_keeps

theorem odapFail_keeps {i : Fin 6} {client : Byte} {code : Abort} : (h.odapFail i client code).keeps h [.ctl, .io] := by
  unfold odapFail
  split
  · exact odapAbort_keeps.after odapReplace_keeps.within
  · exact odapAbort_keeps

theorem odapDownload_keeps {i : Fin 6} {client : Byte} {b : Bytes} : (h.odapDownload i client b).keeps h [.ctl, .io] := by
  refine ite_keeps odapIgnore_keeps.within ?_
  dsimp only
  split
  · exact keeperTake_keeps.after (putTransfer_keeps.after odapReplace_keeps.within)
  · exact odapSend_keeps.after (putTransfer_keeps.after odapReplace_keeps.within)

theorem odapSegment_keeps {i : Fin 6} {client : Byte} {b : Bytes} : (h.odapSegment i client b).keeps h [.ctl, .io] := by
  refine ite_keeps odapIgnore_keeps.within ?_
  split
  · exact odapFail_keeps
  · exact ite_keeps odapFail_keeps (ite_keeps odapFail_keeps (ite_keeps odapFail_keeps
      (ite_keeps (keeperTake_keeps.after putTransfer_keeps.within) (odapSend_keeps.after putTransfer_keeps.within))))

theorem odapUpload_keeps {i : Fin 6} {client : Byte} {b : Bytes} : (h.odapUpload i client b).keeps h [.ctl, .io] :=
  ite_keeps odapIgnore_keeps.within (keeperTake_keeps.after (putTransfer_keeps.after odapReplace_keeps.within))

theorem odapSegmentRequest_keeps {i : Fin 6} {client : Byte} {b : Bytes} : (h.odapSegmentRequest i client b).keeps h [.ctl, .io] := by
  refine ite_keeps odapIgnore_keeps.within ?_
  split
  · exact odapFail_keeps
  · exact ite_keeps odapFail_keeps (ite_keeps odapFail_keeps
      (odapSend_keeps.after (ite_keeps dropTransfer_keeps.within putTransfer_keeps.within)))

theorem odapClientAbort_keeps {i : Fin 6} {client : Byte} {b : Bytes} : (h.odapClientAbort i client b).keeps h [.ctl] :=
  ite_keeps odapIgnore_keeps odapReplace_keeps

theorem odapFrame_keeps {i : Fin 6} {client : Byte} {fd : Bool} {b : Bytes} : (h.odapFrame i client fd b).keeps h [.ctl, .io] := by
  refine ite_keeps odapIgnore_keeps.within ?_
  split
  · exact odapSegment_keeps
  · exact odapDownload_keeps
  · exact odapUpload_keeps
  · exact odapSegmentRequest_keeps
  · exact odapClientAbort_keeps.within
  · exact odapFail_keeps
  · exact odapIgnore_keeps.within

theorem odapTimeout_keeps {i : Fin 6} {client : Byte} : (h.odapTimeout i client).keeps h [.ctl, .io] := by
  unfold odapTimeout
  split
  · exact ite_keeps odapAbort_keeps .refl
  · exact .refl

/-! ### The host mailbox (R50 to R52) -/

theorem mbxStart_keeps : h.mbxStart.keeps h [.out, .ctl, .eng] := by
  refine ite_keeps withCtl_keeps.within (ite_keeps withCtl_keeps.within (ite_keeps (keeperTake_keeps.after withCtl_keeps.within) ?_))
  split
  next heq => exact withCtl_keeps.after (sysAsk_keeps_of_eq heq)
  next heq => exact withCtl_keeps.after (sysAsk_keeps_of_eq heq)

theorem mbxCtrl_keeps {v : Nat} : (h.mbxCtrl v).keeps h [.out, .ctl, .eng] :=
  ite_keeps .refl (ite_keeps (mbxStart_keeps.after withCtl_keeps.within) withCtl_keeps.within)

theorem mbxComplete_keeps : h.mbxComplete.keeps h [.od, .regs, .ctl, .evt, .pwr] := by
  dsimp only [mbxComplete]
  split
  · exact ite_keeps (fire_keeps.after withCtl_keeps.within) withCtl_keeps.within
  · exact .refl

/-! ### SYSTEM-tunnel requests (R53 to R56) -/

theorem sysRequest_keeps {i : Fin 3} {m : SysMsg} : (h.sysRequest i m).keeps h [.out, .ctl, .eng] := by
  refine ite_keeps .refl (ite_keeps ?_ (ite_keeps sysRespond_keeps.within keeperTake_keeps.within))
  split
  · exact ite_keeps (sysOut_keeps.after withCtl_keeps.within) sysRespond_keeps.within
  · exact sysRespond_keeps.within

/-- The command has ended, or RESULT is asked for again; both begin with the entry of the command out of the list (R107, R467). -/
theorem remoteStep_keeps {r : RemoteCmd} {write : Bool} {status : Nat} {d : Bytes} :
    (h.remoteStep r write status d).keeps h [.out, .od, .regs, .ctl, .evt, .eng, .dm, .pwr] := by
  unfold remoteStep
  extract_lets _ out again
  have hout : out.keeps h [.out, .od, .regs, .ctl, .evt, .eng, .dm, .pwr] := withCtl_keeps.within
  have hagain : again.keeps h [.out, .od, .regs, .ctl, .evt, .eng, .dm, .pwr] := by
    unfold again
    split
    next heq => exact withCtl_keeps.after ((sysAsk_keeps_of_eq heq).after hout)
    next heq => exact done_keeps.after ((sysAsk_keeps_of_eq heq).after hout)
  exact ite_keeps (ite_keeps hagain (done_keeps.after hout))
    (ite_keeps hagain (ite_keeps (done_keeps.after hout) (done_keeps.after hout)))

theorem setBearing_keeps {b : Nat} {x : BearingSt} : (h.setBearing b x).keeps h [.bcn] := withBcn_keeps

theorem learnEpoch_keeps {f : Nat} : (h.learnEpoch f).keeps h [.bcn] :=
  ite_keeps .refl withBcn_keeps

theorem takeSampleFull_keeps {d : Bytes} : (h.takeSampleFull d).keeps h [.bcn] :=
  ite_keeps .refl (withBcn_keeps.after (learnEpoch_keeps.after (setBearing_keeps.after (setBearing_keeps.after setBearing_keeps))))

theorem requestOut_keeps {r : SysRequest} {status : Nat} {d : Bytes} :
    (h.requestOut r status d).keeps h [.out, .od, .regs, .ctl, .evt, .eng, .bcn, .dm, .pwr] := by
  refine ite_keeps (ite_keeps (withCtl_keeps.after withCtl_keeps.within) withCtl_keeps.within) ?_
  split
  · exact remoteStep_keeps.after withCtl_keeps.within
  · exact ite_keeps (takeSampleFull_keeps.after withCtl_keeps.within) withCtl_keeps.within

/-- Each request that waits is sent, or ends as one without a route; the induction is on how many may still leave (R37, R55). -/
theorem sysPump_keeps {target : Nat} (k : Nat) :
    ∀ h, (sysPump target k h).keeps h [.out, .od, .regs, .ctl, .evt, .eng, .bcn, .dm, .pwr] := by
  induction k with
  | zero => exact fun _ => .refl
  | succ k ih =>
    refine fun h => ite_keeps .refl ?_
    split
    · exact .refl
    · refine (ih _).after ?_
      split
      · exact sysSend_keeps.within
      · exact requestOut_keeps

theorem requestEnds_keeps {r : SysRequest} {status : Nat} {d : Bytes} :
    (h.requestEnds r status d).keeps h [.out, .od, .regs, .ctl, .evt, .eng, .bcn, .dm, .pwr] :=
  (sysPump_keeps _ _).after requestOut_keeps

theorem sysResponse_keeps {i : Fin 3} {m : SysMsg} :
    (h.sysResponse i m).keeps h [.out, .od, .regs, .ctl, .evt, .eng, .bcn, .dm, .pwr] := by
  refine ite_keeps .refl ?_
  split
  · exact sysOut_keeps.after withCtl_keeps.within
  · split
    · exact requestEnds_keeps
    · exact withCtl_keeps.within

theorem remoteTimeout_keeps {reqId : Nat} :
    (h.remoteTimeout reqId).keeps h [.out, .od, .regs, .ctl, .evt, .eng, .bcn, .dm, .pwr] := by
  unfold remoteTimeout
  split
  · exact requestEnds_keeps
  · exact .refl

/-! ### Lanes and ports -/

theorem setLane_keeps {x : LaneSt} : (h.setLane n x).keeps h [.lanes] := withLanes_keeps
theorem updLane_keeps {f : LaneSt → LaneSt} : (h.updLane n f).keeps h [.lanes] := withLanes_keeps
theorem setPort_keeps {x : PortSt} : (h.setPort p x).keeps h [.lanes] := withLanes_keeps
theorem updPort_keeps {f : PortSt → PortSt} : (h.updPort p f).keeps h [.lanes] := withLanes_keeps
theorem updLink_keeps {f : LinkSt → LinkSt} : (h.updLink p f).keeps h [.links] := withLinks_keeps

theorem forLanes_keeps {a : Hub} {f : Hub → Nat → Hub} (hf : ∀ h n, (f h n).keeps h l) (ha : a.keeps h l) :
    (a.forLanes p f).keeps h l :=
  foldl_keeps hf _ ha

theorem laneBlocks_keeps {code o times : Nat} : (h.laneBlocks n code o times).keeps h [.out] := emit_keeps
theorem laneSend_keeps : (h.laneSend n).keeps h [.out] := emit_keeps

theorem wakeLane_keeps : (h.wakeLane n).keeps h [.out, .lanes] :=
  ite_keeps (laneBlocks_keeps.after updLane_keeps.within) .refl

theorem laneCrcBad_keeps : (h.laneCrcBad n).keeps h [.regs, .lanes] := flag_keeps.after updLane_keeps.within

theorem freqLaneFound_keeps : (h.freqLaneFound n).keeps h [.pwr] :=
  ite_keeps withPwr_keeps .refl

/-! ### Rounds of training (R77 to R83) -/

theorem startRound_keeps : (h.startRound p).keeps h [.out, .lanes] :=
  forLanes_keeps (fun _ _ => ite_keeps .refl (laneSend_keeps.after updLane_keeps.within)) setPort_keeps.within

theorem roundSignal_keeps : (h.roundSignal p).keeps h [.lanes] :=
  ite_keeps setPort_keeps .refl

theorem trainingBegin_keeps {stepped : Bool} {o : Option Nat} : (h.trainingBegin p stepped o).keeps h [.out, .lanes] :=
  roundSignal_keeps.after (startRound_keeps.after (updPort_keeps.after (ite_keeps .refl updPort_keeps.within)))

theorem newRequest_keeps : (h.newRequest n).keeps h [.draws, .lanes] :=
  ite_keeps (setLane_keeps.after open_keeps.within) .refl

theorem goSet_keeps : (h.goSet p n).keeps h [.lanes] :=
  ite_keeps .refl (ite_keeps (ite_keeps (forLanes_keeps (fun _ _ => updLane_keeps) .refl) .refl) (ite_keeps updLane_keeps .refl))

theorem signalAgain_keeps : (h.signalAgain p).keeps h [.out, .lanes] :=
  ite_keeps trainingBegin_keeps (ite_keeps trainingBegin_keeps roundSignal_keeps.within)

theorem signalDetect_keeps {silent : Bool} : (h.signalDetect n silent).keeps h [.out, .lanes] :=
  ite_keeps (signalAgain_keeps.after updLane_keeps.within) (roundSignal_keeps.after updLane_keeps.within)

theorem blockAlignment_keeps {inverted : Bool} : (h.blockAlignment n inverted).keeps h [.draws, .lanes, .pwr] :=
  freqLaneFound_keeps.after (newRequest_keeps.after updLane_keeps.within)

theorem equalised_keeps {ctle : Nat} {dfe : List Int} {width height : Nat} :
    (h.equalised n ctle dfe width height).keeps h [.out, .lanes] :=
  ite_keeps .refl (laneSend_keeps.after (goSet_keeps.after setLane_keeps.within))

theorem requestRetry_keeps : (h.requestRetry n).keeps h [.out, .lanes] := by
  dsimp only [requestRetry]
  split
  · exact ite_keeps (laneSend_keeps.after setLane_keeps.within) (laneSend_keeps.after setLane_keeps.within)
  · exact .refl

theorem roundGapEnd_keeps : (h.roundGapEnd p).keeps h [.out, .lanes] :=
  ite_keeps (roundSignal_keeps.after startRound_keeps) .refl

theorem portRetry_keeps : (h.portRetry p).keeps h [.out, .lanes] :=
  ite_keeps trainingBegin_keeps .refl

theorem quietEntry_keeps : (h.quietEntry n).keeps h [.out, .lanes] :=
  ite_keeps (updLane_keeps.after laneBlocks_keeps.within) .refl

/-! ### The end of training and of a rejoin (R83, R96, R193) -/

theorem demote_keeps {i : Nat} : (h.demote e k i).keeps h [.od, .regs, .evt, .plan, .pwr] :=
  ite_keeps (fire_keeps.after (flag_keeps.after withPlan_keeps.within)) withPlan_keeps.within

theorem shedPlan_keeps (i : Nat) : ∀ h : Hub, (h.shedPlan e k i).keeps h [.od, .regs, .evt, .plan, .pwr] := by
  induction i with
  | zero => exact fun _ => .refl
  | succ i ih =>
    refine fun h => ite_keeps .refl ?_
    split
    · exact .refl
    · exact (ih _).after demote_keeps

theorem shed_keeps (k : Nat) : (h.shed e k).keeps h [.od, .regs, .evt, .plan, .pwr] := by
  induction k with
  | zero => exact .refl
  | succ k ih => exact (shedPlan_keeps _ _).after ih

theorem setNominal_keeps {kbit : Nat} : (h.setNominal e kbit).keeps h [.od, .regs, .evt, .plan, .pwr] :=
  ite_keeps ((shed_keeps _).after withPlan_keeps.within)
    (ite_keeps (withPlan_keeps.after withPlan_keeps.within) withPlan_keeps.within)

theorem portNominal_keeps : (h.portNominal p).keeps h [.od, .regs, .evt, .plan, .pwr] := setNominal_keeps

theorem linkPortLinked_keeps : (h.linkPortLinked p).keeps h [.links] :=
  ite_keeps updLink_keeps updLink_keeps

theorem retrainWindow_keeps : (h.retrainWindow p).keeps h [.plan] := withPlan_keeps

theorem laneIn_keeps : (h.laneIn n).keeps h [.lanes] := updLane_keeps

theorem trainingEnd_keeps :
    (h.trainingEnd p).keeps h [.od, .regs, .ctl, .evt, .lanes, .links, .plan, .dm, .pwr] := by
  unfold trainingEnd
  extract_lets x h1 h2 result h3 h4
  have h3k : h3.keeps h [.od, .regs, .ctl, .evt, .lanes, .links, .plan, .dm, .pwr] :=
    portNominal_keeps.after (setPort_keeps.after (updLink_keeps.after
      (forLanes_keeps (fun _ _ => ite_keeps laneIn_keeps.within updLane_keeps.within) .refl)))
  have h4k : h4.keeps h [.od, .regs, .ctl, .evt, .lanes, .links, .plan, .dm, .pwr] :=
    ite_keeps (retrainWindow_keeps.after (fire_keeps.after h3k)) h3k
  exact doneOpt_keeps.after (linkPortLinked_keeps.after h4k)

theorem rejoinEnd_keeps : (h.rejoinEnd n).keeps h [.od, .regs, .evt, .lanes, .links, .plan, .pwr] :=
  updLink_keeps.after (portNominal_keeps.after (fire_keeps.after laneIn_keeps.within))

theorem goCheck_keeps : (h.goCheck p n).keeps h [.od, .regs, .ctl, .evt, .lanes, .links, .plan, .dm, .pwr] :=
  ite_keeps (ite_keeps trainingEnd_keeps .refl) (ite_keeps rejoinEnd_keeps.within .refl)

theorem rejoinStart_keeps : (h.rejoinStart n).keeps h [.out, .lanes] :=
  ite_keeps (laneSend_keeps.after updLane_keeps.within) .refl

theorem rejoinHoldEnd_keeps :
    (h.rejoinHoldEnd n).keeps h [.out, .od, .regs, .ctl, .evt, .lanes, .links, .plan, .dm, .pwr] :=
  ite_keeps (goCheck_keeps.after (laneSend_keeps.after setLane_keeps.within)) .refl

/-! ### Lane commands and the pattern test (R99 to R107) -/

theorem passOn_keeps {target : Nat} : (h.passOn c target).keeps h [.out, .od, .regs, .ctl, .evt, .eng, .dm, .pwr] := by
  dsimp only [passOn]
  split
  · exact done_keeps.within
  · exact withCtl_keeps.after sysAsk_keeps.within

theorem atLeader_keeps {f : Hub → Hub} (hf : (f h).keeps h l) (hl : [.out, .od, .regs, .ctl, .evt, .eng, .dm, .pwr] ⊆ l := by decide) :
    (h.atLeader p c f).keeps h l :=
  ite_keeps (passOn_keeps.within hl) hf

theorem cmdLaneRejoin_keeps {r : Path} {tag : Nat} {args : Bytes} :
    (h.cmdLaneRejoin r c tag args).keeps h [.out, .od, .regs, .ctl, .evt, .lanes, .eng, .dm, .io, .pwr] := by
  refine issue_keeps fun h => atLeader_keeps (done_keeps.after ?_)
  split
  · exact rejoinStart_keeps.within
  · exact .refl

theorem patternInject_keeps {count : Nat} : (h.patternInject n count).keeps h [.out, .lanes] :=
  ite_keeps (emit_keeps.after setLane_keeps.within) .refl

theorem checkBits_keeps {received : List Bool} : (h.checkBits n received).keeps h [.lanes] :=
  ite_keeps setLane_keeps .refl

end Operations
end Sys2Proof.Machine.Hub

namespace Sys2Proof.Machine

set_option Elab.async false

/-! ### From the frame of a meaning to the frame of its command -/

/-- A meaning over the live hub: the lines take their levels besides. -/
theorem touches_of_onHub {c : Instr} {f : Hub → Hub} {l : List Part} (hc : ∀ s, exec c s = onHub f s)
    (hf : ∀ h : Hub, (f h).keeps h l) (hl : [.out, .lines] ⊆ l := by decide) : Touches c l := by
  intro s t ht
  rw [hc] at ht
  by_cases hp : s.hub.inPorst = true
  · rw [onHub_porst f s hp] at ht
    cases ht
    exact ⟨rfl, .refl⟩
  · rw [onHub_live f s (by simpa using hp)] at ht
    cases ht
    exact ⟨rfl, Hub.settle_keeps.after (hf _) hl⟩

/-- A command of the dictionary, which Keeper serves in its turn. -/
theorem touches_of_onCommand {c : Instr} {code ch tag : Nat} {req : Path} {args : Bytes} {f : Hub → Hub} {l : List Part}
    (hc : ∀ s, exec c s = onCommand code req ch tag args f s) (hf : ∀ h : Hub, (f h).keeps h l)
    (hl : [.out, .ctl, .lines] ⊆ l := by decide) : Touches c l :=
  touches_of_onHub hc (fun _ => Hub.turn_keeps hf (List.Subset.trans (by decide) hl)) (List.Subset.trans (by decide) hl)

/-- Settles O1: the step matches on the queue, whose front is the command. -/
theorem frontCommandRunsWithTheQueuesRest : Obligations.FrontCommandRunsWithTheQueuesRest := by
  intro c rest s
  rfl

/-- Settles O51: each command runs one operation of the hub, alone or as a command that Keeper serves, and has that operation's frame. -/
theorem framesOfServiceRolesAndLanes : Obligations.FramesOfServiceRolesAndLanes := by
  refine ⟨?fogRetry, ?modeResume, ?nop, ?configSave, ?configErase, ?configFlashDone, ?initiateDownload, ?downloadSegment, ?initiateUpload,
    ?uploadSegmentRequest, ?odapAbort, ?odapReservedFrame, ?odapTimeout, ?mbxRead, ?mbxWrite, ?mbxComplete, ?systemRequest, ?systemResponse,
    ?remoteTimeout, ?signalDetect, ?blockAlignment, ?equalisationDone, ?coeffRequestRetry, ?roundGapEnd, ?eyeMarginLow, ?quietEntry,
    ?quietEntryBlock, ?quietExit, ?quietExitBlock, ?laneRejoinAttempt, ?rejoinHoldExpiry, ?portRetry, ?laneRejoin, ?patInjectSingle,
    ?patInjectBurst, ?patErrcntRead, ?checkerLock⟩
  case fogRetry => exact touches_of_onHub (fun _ => rfl) fun _ => Hub.fogRetry_keeps.within
  case modeResume => exact fun _ _ _ _ => touches_of_onCommand (fun _ => rfl) fun _ => Hub.cmdModeResume_keeps
  case nop => exact fun _ _ _ _ => touches_of_onCommand (fun _ => rfl) fun _ => Hub.cmdNop_keeps.within
  case configSave | configErase =>
    exact fun _ _ _ _ => touches_of_onCommand (fun _ => rfl) fun _ => Hub.cmdConfig_keeps.within
  case configFlashDone => exact fun _ => touches_of_onHub (fun _ => rfl) fun _ => Hub.configDone_keeps.within
  case initiateDownload | downloadSegment | initiateUpload | uploadSegmentRequest | odapAbort | odapReservedFrame =>
    exact fun _ _ _ _ => touches_of_onHub (fun _ => rfl) fun _ => Hub.odapFrame_keeps.within
  case odapTimeout => exact fun _ _ => touches_of_onHub (fun _ => rfl) fun _ => Hub.odapTimeout_keeps.within
  case mbxRead | mbxWrite =>
    exact fun _ _ => touches_of_onHub (fun _ => rfl) fun _ => Hub.mbxCtrl_keeps.within
  case mbxComplete => exact touches_of_onHub (fun _ => rfl) fun _ => Hub.mbxComplete_keeps.within
  case systemRequest => exact fun _ _ => touches_of_onHub (fun _ => rfl) fun _ => Hub.sysRequest_keeps.within
  case systemResponse => exact fun _ _ => touches_of_onHub (fun _ => rfl) fun _ => Hub.sysResponse_keeps.within
  case remoteTimeout => exact fun _ => touches_of_onHub (fun _ => rfl) fun _ => Hub.remoteTimeout_keeps.within
  case signalDetect => exact fun _ _ => touches_of_onHub (fun _ => rfl) fun _ => Hub.signalDetect_keeps.within
  case blockAlignment => exact fun _ _ => touches_of_onHub (fun _ => rfl) fun _ => Hub.blockAlignment_keeps.within
  case equalisationDone => exact fun _ _ _ _ _ => touches_of_onHub (fun _ => rfl) fun _ => Hub.equalised_keeps.within
  case coeffRequestRetry => exact fun _ => touches_of_onHub (fun _ => rfl) fun _ => Hub.requestRetry_keeps.within
  case roundGapEnd => exact fun _ => touches_of_onHub (fun _ => rfl) fun _ => Hub.roundGapEnd_keeps.within
  case eyeMarginLow =>
    refine fun _ _ => touches_of_onHub (fun _ => rfl) fun _ => ?_
    exact Hub.ite_keeps (Hub.fire_keeps.after (Hub.flag_keeps.after Hub.updLane_keeps.within)) Hub.updLane_keeps.within
  case quietEntry => exact fun _ => touches_of_onHub (fun _ => rfl) fun _ => Hub.quietEntry_keeps.within
  case quietEntryBlock =>
    refine fun _ _ => touches_of_onHub (fun _ => rfl) fun _ => ?_
    exact Hub.ite_keeps Hub.laneCrcBad_keeps.within (Hub.ite_keeps Hub.updLane_keeps.within .refl)
  case quietExit => exact fun _ => touches_of_onHub (fun _ => rfl) fun _ => Hub.wakeLane_keeps.within
  case quietExitBlock =>
    refine fun _ _ => touches_of_onHub (fun _ => rfl) fun _ => ?_
    exact Hub.ite_keeps Hub.laneCrcBad_keeps.within Hub.updLane_keeps.within
  case laneRejoinAttempt =>
    refine fun _ => touches_of_onHub (fun _ => rfl) fun _ => ?_
    exact Hub.ite_keeps Hub.rejoinStart_keeps.within .refl
  case rejoinHoldExpiry => exact fun _ => touches_of_onHub (fun _ => rfl) fun _ => Hub.rejoinHoldEnd_keeps.within
  case portRetry => exact fun _ => touches_of_onHub (fun _ => rfl) fun _ => Hub.portRetry_keeps.within
  case laneRejoin => exact fun _ _ _ _ => touches_of_onCommand (fun _ => rfl) fun _ => Hub.cmdLaneRejoin_keeps.within
  case patInjectSingle | patInjectBurst =>
    exact fun _ => touches_of_onHub (fun _ => rfl) fun _ => Hub.patternInject_keeps.within
  case patErrcntRead =>
    exact fun _ _ => touches_of_onHub (fun _ => rfl) fun _ => Hub.emit_keeps.after (Hub.updLane_keeps.after Hub.checkBits_keeps.within)
  case checkerLock => exact fun _ _ _ => touches_of_onHub (fun _ => rfl) fun _ => Hub.checkBits_keeps.within

end Sys2Proof.Machine

/-!
SUPPORT. Calm operations. Entry to FOGHORN, the end of a retrain and confirmation run through nearly every unit of the hub: ports and
links go down, tunnels fault, domains stop, commands end. None of that writes the mode record, takes back an output or makes a channel idle.
`Hub.calm` says this of an operation and composes as the frames do: `x_calm.trans y` is operation x after what y is calm of, and there is
one lemma for each operation, read off its definition. The mode commands then have only the writes of the mode record itself left.

`Elab.async` is off for the reason the frames give.
-/

namespace Sys2Proof.Machine

set_option Elab.async false

/-- The mode record as entry to FOGHORN with a cause leaves it (R22, R26, R28). -/
def ModeSt.fogged (m : ModeSt) (cause : Nat) : ModeSt :=
  { m with
    active := .foghorn, before := m.active, fogCause := cause, deadlineRunning := false, retryRunning := true, retrain := none,
    reseat := false }

namespace Hub

/-! ### Calm operations -/

/-- `a` comes after `b`: what the hub had given to the outside it has given, and no channel that had a command is idle again. -/
structure grows (a b : Hub) : Prop where
  out : b.out <:+ a.out
  chan : ∀ c, (b.chan c).state ≠ .idle → (a.chan c).state ≠ .idle

/-- `a` comes after `b` by operations beneath the modes: besides, the mode record stands as it did. -/
structure calm (a b : Hub) : Prop extends toGrows : grows a b where
  mode : a.mode = b.mode

theorem grows.trans {a b c : Hub} (hab : a.grows b) (hbc : b.grows c) : a.grows c :=
  ⟨hbc.out.trans hab.out, fun n hn => hab.chan n (hbc.chan n hn)⟩

theorem calm.refl {a : Hub} : a.calm a := ⟨⟨List.suffix_refl _, fun _ => id⟩, rfl⟩

theorem calm.trans {a b c : Hub} (hab : a.calm b) (hbc : b.calm c) : a.calm c :=
  ⟨hab.toGrows.trans hbc.toGrows, hab.mode.trans hbc.mode⟩

/-- An operation that writes neither the mode record, nor the outputs, nor the channels. -/
theorem calm_of_eq {a b : Hub} (hm : a.mode = b.mode := by rfl) (ho : a.out = b.out := by rfl)
    (hc : a.ctl.channels = b.ctl.channels := by rfl) : a.calm b :=
  ⟨⟨ho ▸ List.suffix_refl _, fun n hn => by rwa [chan_congr hc]⟩, hm⟩

/-- The frame of an operation says so too, where it names none of the four. -/
theorem keeps.calm {a b : Hub} {l : List Part} (hab : a.keeps b l) (hl : ∀ q ∈ [Part.mode, .lines, .out, .ctl], q ∉ l := by decide) :
    a.calm b := by
  have hm := hab .mode (hl _ (by simp))
  obtain ⟨-, -, hf⟩ := hab .lines (hl _ (by simp))
  have ho : a.out = b.out := hab .out (hl _ (by simp))
  have hc : a.ctl = b.ctl := hab .ctl (hl _ (by simp))
  refine calm_of_eq ?_ ho (congrArg CtlSt.channels hc)
  calc a.mode = { ({ a.mode with faultN := false } : ModeSt) with faultN := a.mode.faultN } := rfl
    _ = { ({ b.mode with faultN := false } : ModeSt) with faultN := b.mode.faultN } := by rw [show _ = _ from hm, hf]
    _ = b.mode := rfl

/-- A choice between calm operations is calm. -/
theorem ite_calm {a a' b : Hub} {P : Prop} [Decidable P] (ht : a.calm b) (hf : a'.calm b) : (if P then a else a').calm b := by
  split
  · exact ht
  · exact hf

/-- A fold of calm steps is calm. -/
theorem foldl_calm {α : Type} {f : Hub → α → Hub} {a b : Hub} (hf : ∀ h x, (f h x).calm h) (xs : List α) (hab : a.calm b) :
    (xs.foldl f a).calm b := by
  induction xs generalizing a with
  | nil => exact hab
  | cons x xs ih => exact ih ((hf a x).trans hab)

section Operations

variable {h : Hub} {p n c k e i t d w l s : Nat}

/-! ### One field of the hub replaced, one cell of a table set -/

theorem withLinks_calm {x : LinksSt} : ({ h with links := x } : Hub).calm h := calm_of_eq
theorem withTun_calm {x : TunSt} : ({ h with tun := x } : Hub).calm h := calm_of_eq
theorem withPlan_calm {x : PlanSt} : ({ h with plan := x } : Hub).calm h := calm_of_eq
theorem withEng_calm {x : EngSt} : ({ h with eng := x } : Hub).calm h := calm_of_eq
theorem withSw_calm {x : SwSt} : ({ h with sw := x } : Hub).calm h := calm_of_eq
theorem withIo_calm {x : IoSt} : ({ h with io := x } : Hub).calm h := calm_of_eq
theorem withVid_calm {x : VidSt} : ({ h with vid := x } : Hub).calm h := calm_of_eq
theorem withUsb_calm {x : UsbSt} : ({ h with usb := x } : Hub).calm h := calm_of_eq
theorem withHb_calm {x : HbSt} : ({ h with hb := x } : Hub).calm h := calm_of_eq
theorem withPair_calm {x : PairSt} : ({ h with pair := x } : Hub).calm h := calm_of_eq
theorem withMoor_calm {x : MoorSt} : ({ h with moor := x } : Hub).calm h := calm_of_eq
theorem withSec_calm {x : SecSt} : ({ h with sec := x } : Hub).calm h := calm_of_eq
theorem withPwr_calm {x : PwrSt} : ({ h with pwr := x } : Hub).calm h := calm_of_eq
theorem put_calm {m : Entry} {v : Nat} : (h.put m v).calm h := calm_of_eq
theorem flag_calm {m : Entry} : (h.flag m n).calm h := calm_of_eq
theorem updLane_calm {f : LaneSt → LaneSt} : (h.updLane n f).calm h := calm_of_eq
theorem setPort_calm {x : PortSt} : (h.setPort p x).calm h := calm_of_eq
theorem updPort_calm {f : PortSt → PortSt} : (h.updPort p f).calm h := calm_of_eq
theorem updLink_calm {f : LinkSt → LinkSt} : (h.updLink p f).calm h := calm_of_eq
theorem setCtx_calm {x : Ctx} : (h.setCtx i x).calm h := calm_of_eq
theorem updCtx_calm {f : Ctx → Ctx} : (h.updCtx i f).calm h := calm_of_eq
theorem setDomain_calm {x : DomSt} : (h.setDomain d x).calm h := calm_of_eq
theorem updDomain_calm {f : DomSt → DomSt} : (h.updDomain d f).calm h := calm_of_eq
theorem setBearing_calm {x : BearingSt} : (h.setBearing n x).calm h := calm_of_eq
theorem dropOut_calm {x : OutSeg} : (h.dropOut e x).calm h := calm_of_eq
theorem setSer_calm {x : SerSt} : (h.setSer n x).calm h := calm_of_eq
theorem setCsi_calm {x : CsiSt} : (h.setCsi n x).calm h := calm_of_eq
theorem setEmmc_calm {x : EmmcSt} : (h.setEmmc x).calm h := calm_of_eq
theorem setConn_calm {x : ConnSt} : (h.setConn c x).calm h := calm_of_eq
theorem updConn_calm {f : ConnSt → ConnSt} : (h.updConn c f).calm h := calm_of_eq
theorem setBank_calm {x : SnapBank} : (h.setBank k x).calm h := calm_of_eq
theorem setAcct_calm : (h.setAcct i n).calm h := calm_of_eq
theorem charge_calm : (h.charge i n).calm h := calm_of_eq
theorem setSlot_calm {x : Slot} : (h.setSlot n x).calm h := calm_of_eq
theorem setPairKey_calm {x : PairKey} : (h.setPairKey k x).calm h := calm_of_eq
theorem prunePairs_calm : h.prunePairs.calm h := calm_of_eq
theorem dropHomes_calm : (h.dropHomes i).calm h := calm_of_eq
theorem unadmit_calm : (h.unadmit i).calm h := calm_of_eq
theorem clearMap_calm : (h.clearMap i).calm h := calm_of_eq
theorem sysPut_calm {b : Bytes} : (h.sysPut p b).calm h := calm_of_eq
theorem openValue_calm : (h.open_ w).1.calm h := calm_of_eq
theorem barrierOff_calm {j : Job} : (h.barrierOff j).calm h := calm_of_eq
theorem stageOutBy_calm {enter : Bool} : (h.stageOutBy e l enter).calm h := calm_of_eq
theorem keepDrop_calm {keep : BarrierUse → Bool} : (h.keepDrop keep).calm h := calm_of_eq
theorem loadStore_calm {m : Option Image} : (h.loadStore k m).calm h := calm_of_eq
theorem latchEntries_calm : (h.latchEntries p).calm h := calm_of_eq
theorem clearDaymarks_calm : h.clearDaymarks.calm h := calm_of_eq

/-! ### Outputs, events and the ends of commands -/

theorem emit_calm {x : Out} : (h.emit x).calm h := ⟨⟨List.suffix_cons _ _, fun _ => id⟩, rfl⟩

theorem fire_calm {b : Bytes} : (h.fire n b).calm h := fire_keeps.calm
theorem tally_calm {item inst : Nat} : (h.tally item inst k).calm h := calm_of_eq (by simp) (by simp) (by simp)

theorem finish_calm {status : Nat} {b : Bytes} : (h.finish c status b).calm h := by
  refine ⟨⟨by simp, fun n hn => ?_⟩, by simp⟩
  rw [finish]
  split
  · by_cases hc : n = c
    · subst hc; simp
    · rwa [chan_setChan_ne _ _ _ _ hc]
  · exact hn

theorem done_calm {status : Nat} {b : Bytes} : (h.done c status b).calm h := ite_calm finish_calm completeAction_keeps.calm

theorem doneOpt_calm {o : Option Nat} {status : Nat} {b : Bytes} : (h.doneOpt o status b).calm h := by
  cases o
  · exact .refl
  · exact done_calm

/-! ### Blocks, SYSTEM messages and answers -/

theorem wakeLane_calm : (h.wakeLane n).calm h := ite_calm (emit_calm.trans calm_of_eq) .refl
theorem blockOn_calm {b : Bytes} : (h.blockOn p n b).calm h := emit_calm.trans wakeLane_calm
theorem blockOut_calm {b : Bytes} : (h.blockOut p b).calm h := blockOn_calm
theorem pacedOut_calm {b : Bytes} : (h.pacedOut p n b).calm h := ite_calm (blockOn_calm.trans calm_of_eq) calm_of_eq
theorem sysOut_calm {m : SysMsg} : (h.sysOut p m).calm h := ite_calm (sysPut_calm.trans emit_calm) .refl
theorem pairPut_calm {op : Byte} {b : Bytes} : (h.pairPut p op b).calm h := calm_of_eq

/-- An answer is given to the outside before anything else that it does. -/
theorem answer_calm_emit {r : Path} {status : Abort} {b : Bytes} : (h.answer r status b).calm (h.emit (.answer r status b)) := by
  cases r with
  | keeper => exact .refl
  | mailbox => exact ite_calm calm_of_eq .refl
  | odap q client =>
    dsimp only [answer]
    split
    · exact ite_calm .refl (calm_of_eq (by simp) (by simp) (by simp))
    · exact calm_of_eq (by simp) (by simp) (by simp)
    · exact .refl
  | system q depth reqId =>
    dsimp only [answer]
    split
    · exact sysOut_calm
    · exact .refl

theorem answer_calm {r : Path} {status : Abort} {b : Bytes} : (h.answer r status b).calm h := answer_calm_emit.trans emit_calm

theorem fogSend_calm {f : FogSignal} (ps : List Nat) : ∀ {h : Hub}, (h.fogSend f ps).calm h := by
  induction ps with
  | nil => exact .refl
  | cons p ps ih => exact ih.trans (withLinks_calm.trans blockOut_calm)

theorem fogOriginate_calm {cause detail : Nat} : (h.fogOriginate cause detail).calm h := (fogSend_calm _).trans calm_of_eq

/-! ### The mirror toward a STANDBY (R450, R451) -/

theorem runEnd_calm {x : MirrorEnd} : (h.runEnd x).calm h := by
  cases x with
  | command c status b => exact done_calm
  | write r => exact .trans calm_of_eq answer_calm

theorem mirrorNote_calm {r : MirrorRec} : (h.mirrorNote r).calm h :=
  ite_calm .refl (tally_calm.trans (pairPut_calm.trans (emit_calm.trans calm_of_eq)))

theorem endMirrored_calm {x : MirrorEnd} : (h.endMirrored x).calm h := ite_calm calm_of_eq runEnd_calm

theorem doneMirrored_calm {o : Option Nat} {status : Nat} {b : Bytes} : (h.doneMirrored o status b).calm h := by
  cases o
  · exact .refl
  · exact endMirrored_calm

theorem mirrorLost_calm : h.mirrorLost.calm h :=
  ite_calm .refl (fire_calm.trans (doneOpt_calm.trans (foldl_calm (fun _ _ => runEnd_calm) _ calm_of_eq)))

theorem mirrorCtx_calm : (h.mirrorCtx i).calm h := mirrorNote_calm

/-! ### The Beacon's bearings and the Lamps -/

theorem loseSource_calm : (h.loseSource n).calm h := fire_calm.trans (flag_calm.trans calm_of_eq)

theorem resource_calm : (h.resource n).calm h :=
  ite_calm .refl (fire_calm.trans (flag_calm.trans (setBearing_calm.trans (ite_calm loseSource_calm .refl))))

theorem resources_calm : h.resources.calm h := resource_calm.trans (resource_calm.trans resource_calm)

theorem driveLamp_calm {x : LampSt} : (h.driveLamp l x).calm h := by
  unfold driveLamp
  extract_lets ball h0 h1
  have h1c : h1.calm h := ite_calm calm_of_eq (mirrorNote_calm.trans calm_of_eq)
  exact ite_calm h1c (emit_calm.trans h1c)

theorem lampTrigger_calm {cause : Nat} {tunnel : List Nat} : (h.lampTrigger l cause tunnel).calm h := by
  unfold lampTrigger
  extract_lets x on y h1
  have h1c : h1.calm h := fire_calm.trans (flag_calm.trans driveLamp_calm)
  exact ite_calm .refl (ite_calm calm_of_eq (ite_calm .refl (ite_calm (fogOriginate_calm.trans h1c) h1c)))

theorem lampsTrigger_calm {cause : Nat} {tunnel : List Nat} {pick : Nat → Bool} (ls : List Nat) :
    ∀ {h : Hub}, (h.lampsTrigger cause tunnel pick ls).calm h := by
  induction ls with
  | nil => exact .refl
  | cons l ls ih => exact ih.trans (ite_calm lampTrigger_calm .refl)

theorem lampsLinkDown_calm : (h.lampsLinkDown p).calm h := ite_calm (lampsTrigger_calm _) .refl
theorem lampsGuard_calm : (h.lampsGuard n).calm h := lampsTrigger_calm _
theorem lampsTunnel_calm : (h.lampsTunnel n).calm h := lampsTrigger_calm _
theorem lampsDark_calm : h.lampsDark.calm h := lampsTrigger_calm _

theorem lampsAuto_calm (ls : List Nat) : ∀ {h : Hub}, (h.lampsAuto ls).calm h := by
  induction ls with
  | nil => exact .refl
  | cons l ls ih => exact ih.trans (ite_calm (fire_calm.trans driveLamp_calm) .refl)

theorem probesFail_calm : (h.probesFail p).calm h := ite_calm .refl (foldl_calm (fun _ _ => done_calm) _ calm_of_eq)

theorem bearingsMoved_calm {before : Hub} : (h.bearingsMoved before).calm h := by
  have lost {xs : List Nat} : (xs.foldl (fun h b => h.lampsGuard b) h).calm h := foldl_calm (fun _ _ => lampsGuard_calm) _ .refl
  exact ite_calm ((lampsAuto_calm _).trans lost) lost

theorem acquire_calm : h.acquire.calm h := bearingsMoved_calm.trans calm_of_eq

theorem followDown_calm {down : Bool} : (h.followDown p down).calm h :=
  ite_calm (acquire_calm.trans probesFail_calm) probesFail_calm

/-! ### The switch: accounts, holds and damaged words -/

theorem pfcUpdate_calm {before : Hub} : (before.pfcUpdate h i).calm h :=
  ite_calm .refl (ite_calm .refl (tally_calm.trans (emit_calm.trans calm_of_eq)))

theorem rtsUpdate_calm {before : Hub} : (before.rtsUpdate h i).calm h := ite_calm emit_calm .refl

theorem tallyHolds_calm {before : Hub} : (before.tallyHolds h i).calm h :=
  foldl_calm (fun _ _ => ite_calm tally_calm .refl) _ rtsUpdate_calm

theorem recheck_calm : (h.recheck i c).calm h := ite_calm .refl (pfcUpdate_calm.trans (tallyHolds_calm.trans calm_of_eq))

theorem recheckPool_calm : h.recheckPool.calm h := by
  unfold recheckPool
  extract_lets low sw h1 h2
  have h2c : h2.calm h := foldl_calm (fun _ _ => pfcUpdate_calm.trans tallyHolds_calm) _ calm_of_eq
  exact ite_calm .refl (ite_calm (fire_calm.trans (flag_calm.trans h2c)) h2c)

theorem credited_calm : (h.credited i n).calm h := ite_calm updLink_calm .refl

theorem acctJudge_calm : (h.acctJudge i).calm h := ite_calm (recheckPool_calm.trans recheck_calm) .refl

theorem acctBy_calm {enter : Bool} : (h.acctBy i n enter).calm h :=
  acctJudge_calm.trans (ite_calm charge_calm (credited_calm.trans setAcct_calm))

theorem stageInBy_calm {enter : Bool} : (h.stageInBy i c l enter).calm h := recheck_calm.trans calm_of_eq

theorem eccWrite_calm {region addr : Nat} : (h.eccWrite region addr).calm h := by
  dsimp only [eccWrite]
  split
  · exact calm_of_eq
  · exact ite_calm .refl calm_of_eq

theorem freeDamaged_calm {region addr : Nat} : (h.freeDamaged region addr n).calm h := ite_calm .refl calm_of_eq

theorem wordAddr_calm {region : Nat} : (h.wordAddr region).1.calm h := calm_of_eq

theorem freeWords_calm {cells : List BufCell} : (h.freeWords cells).calm h := by
  refine foldl_calm (fun h x => ?_) _ .refl
  extract_lets h1
  have h1c : h1.calm h := by
    unfold h1
    split
    · exact acctBy_calm
    · exact .refl
  exact ite_calm h1c (freeDamaged_calm.trans (wordAddr_calm.trans h1c))

theorem mirrorStale_calm {hd : Nat} : (h.mirrorStale hd).calm h :=
  foldl_calm (fun _ _ => ite_calm (fire_calm.trans (flag_calm.trans calm_of_eq)) .refl) _ .refl

theorem mirrorSkip_calm : (h.mirrorSkip s).calm h := by
  have skip {x : MirrorSt} {m : Entry} {r : Entry} : (((h.setMirror s x).bump m 32 1).flag r 3).calm h := calm_of_eq
  exact ite_calm skip (fire_calm.trans skip)

theorem mirrorCopy_calm {kind : Nat} {b : Bytes} {yellow : Bool} : (h.mirrorCopy s kind b yellow).calm h :=
  ite_calm calm_of_eq mirrorSkip_calm

theorem mirrorSegment_calm {kind source : Nat} {b : Bytes} {yellow : Bool} : (h.mirrorSegment kind source b yellow).calm h :=
  foldl_calm (fun _ _ => ite_calm mirrorCopy_calm .refl) _ .refl

/-! ### Jobs and contexts -/

theorem stageLeave_calm {j : Job} : (h.stageLeave j).calm h := by
  unfold stageLeave
  extract_lets h1
  have h1c : h1.calm h := ite_calm .refl stageInBy_calm
  exact ite_calm h1c (freeDamaged_calm.trans (wordAddr_calm.trans h1c))

theorem freeJob_calm {j : Job} {committed : Bool} : (h.freeJob j committed).calm h :=
  ite_calm (ite_calm stageLeave_calm (acctBy_calm.trans stageLeave_calm)) (ite_calm freeWords_calm (stageOutBy_calm.trans freeWords_calm))

theorem drainCount_calm {j : Job} : (h.drainCount j).calm h := ite_calm calm_of_eq .refl

theorem discardJob_calm {j : Job} : (h.discardJob j).calm h := drainCount_calm.trans (barrierOff_calm.trans freeJob_calm)

theorem discardOn_calm : (h.discardOn i t).calm h := ite_calm .refl (foldl_calm (fun _ _ => discardJob_calm) _ calm_of_eq)

theorem discardJobs_calm : (h.discardJobs i).calm h :=
  foldl_calm (fun _ _ => drainCount_calm.trans (ite_calm stageLeave_calm freeWords_calm)) _
    (withEng_calm.trans (foldl_calm (fun _ _ => discardOn_calm) _ .refl))

theorem removeCells_calm : (h.removeCells i e).calm h := ite_calm .refl (freeWords_calm.trans calm_of_eq)

theorem purge_calm : (h.purge i).1.calm h := by
  unfold purge
  extract_lets before n h1 h2 h3
  have h1c : h1.calm h := foldl_calm (fun _ _ => removeCells_calm) _ .refl
  change h3.calm h
  exact updCtx_calm.trans (discardJobs_calm.trans (updCtx_calm.trans (freeWords_calm.trans h1c)))

theorem setTunState_calm {st : TunState} : (h.setTunState i st).calm h := eccWrite_calm.trans (eccWrite_calm.trans calm_of_eq)

theorem freeCtx_calm : (h.freeCtx i).calm h :=
  mirrorCtx_calm.trans (mirrorStale_calm.trans (prunePairs_calm.trans (eccWrite_calm.trans (setCtx_calm.trans
    (withSec_calm.trans (dropHomes_calm.trans (unadmit_calm.trans (clearMap_calm.trans (ite_calm .refl fire_calm)))))))))

theorem tunOut_calm {m : TunMsg} : (h.tunOut p m).calm h := ite_calm (sysPut_calm.trans emit_calm) .refl

theorem tunSend_calm {toResp : Bool} {op : TunOp} : (h.tunSend i toResp op).calm h := tunOut_calm.trans calm_of_eq

/-! ### What a tunnel leaves at its local port -/

theorem fnDisconnect_calm {f : Nat} : (h.fnDisconnect n f).calm h :=
  ite_calm .refl (foldl_calm (fun _ _ => done_calm) _ (fire_calm.trans (flag_calm.trans calm_of_eq)))

theorem usbJudge_calm : h.usbJudge.calm h := foldl_calm (fun _ _ => ite_calm fnDisconnect_calm .refl) _ .refl

theorem pfDiscard_calm {x : PfPiece} : (h.pfDiscard w x).calm h := ite_calm (fire_calm.trans (flag_calm.trans calm_of_eq)) calm_of_eq

theorem pfEmpty_calm : (h.pfEmpty w).calm h := foldl_calm (fun _ _ => pfDiscard_calm) _ calm_of_eq

theorem blockLeave_calm : (h.blockLeave i).calm h := by
  unfold blockLeave
  exact foldl_calm (fun _ _ => dropOut_calm) _ withIo_calm

theorem portLeave_calm : (h.portLeave i).calm h := by
  unfold portLeave
  exact ite_calm blockLeave_calm (ite_calm pfEmpty_calm (ite_calm withHb_calm (ite_calm usbJudge_calm .refl)))

/-! ### Tunnels that fault -/

theorem enterFault_calm {cause faultStatus status : Nat} {b : Bytes} : (h.enterFault i cause faultStatus status b).calm h := by
  unfold enterFault
  extract_lets x h1 h2 tun h3 h4 h5 h6 h7 h8
  have h5c : h5.calm h := mirrorCtx_calm.trans (fire_calm.trans (prunePairs_calm.trans (dropHomes_calm.trans (unadmit_calm.trans
    (setTunState_calm.trans (withTun_calm.trans (updCtx_calm.trans purge_calm)))))))
  have h6c : h6.calm h := ite_calm (portLeave_calm.trans h5c) h5c
  have h7c : h7.calm h := ite_calm (lampsTunnel_calm.trans h6c) h6c
  have h8c : h8.calm h := doneMirrored_calm.trans h7c
  exact ite_calm (freeCtx_calm.trans h8c) h8c

theorem faultSend_calm {cause : Nat} : (h.faultSend i cause).calm h :=
  ite_calm .refl (enterFault_calm.trans (ite_calm .refl (ite_calm (tunSend_calm.trans tunSend_calm) tunSend_calm)))

theorem loseBindings_calm {pick : Nat → Bool} : (h.loseBindings pick).calm h := foldl_calm (fun _ _ => faultSend_calm) _ .refl

theorem tunLinkDown_calm : (h.tunLinkDown p).calm h := by
  refine foldl_calm (fun h c => ?_) _ .refl
  extract_lets x other h1
  have h1c : h1.calm h := ite_calm .refl (ite_calm tunSend_calm .refl)
  exact enterFault_calm.trans h1c

theorem systemClose_calm : (h.systemClose p).calm h := ite_calm .refl (dropHomes_calm.trans (updCtx_calm.trans (updLink_calm.trans purge_calm)))

theorem discardPair_calm : (h.discardPair k).calm h := by
  unfold discardPair
  extract_lets x users h1
  have h1c : h1.calm h := setPairKey_calm.trans (setSlot_calm.trans setSlot_calm)
  refine ite_calm .refl (ite_calm (prunePairs_calm.trans h1c) ?_)
  split
  · exact foldl_calm (fun _ _ => updCtx_calm) _ (setPairKey_calm.trans h1c)
  · exact h1c

theorem discardPairsOn_calm : (h.discardPairsOn p).calm h := foldl_calm (fun _ _ => ite_calm discardPair_calm .refl) _ .refl

/-! ### Links and ports that go down -/

theorem planSend_calm {b : Bytes} {zero : Bool} (ps : List Nat) : ∀ {h : Hub}, (h.planSend b zero ps).calm h := by
  induction ps with
  | nil => exact .refl
  | cons p ps ih => exact ih.trans blockOn_calm

theorem sendCount_calm : h.sendCount.calm h := ite_calm .refl (planSend_calm _)

theorem countJudge_calm {before : Hub} : (h.countJudge before).calm h := ite_calm calm_of_eq (sendCount_calm.trans calm_of_eq)

theorem pairSend_calm {op epoch sf kind : Nat} : (h.pairSend p op epoch sf kind).calm h :=
  ite_calm (tally_calm.trans (pairPut_calm.trans emit_calm)) .refl

theorem swapTell_calm {ports : List Nat} {op epoch sf kind : Nat} : (h.swapTell ports op epoch sf kind).calm h :=
  foldl_calm (fun _ _ => ite_calm pairSend_calm .refl) _ .refl

theorem swapDecide_calm : h.swapDecide.calm h := by
  unfold swapDecide
  split
  · exact ite_calm (swapTell_calm.trans calm_of_eq) .refl
  · exact .refl

theorem swapLose_calm : (h.swapLose p).calm h := by
  unfold swapLose
  split
  · exact ite_calm (swapDecide_calm.trans calm_of_eq) .refl
  · exact .refl

theorem linkDrop_calm {cause : Nat} : (h.linkDrop p cause).calm h := by
  unfold linkDrop
  extract_lets x was cells h1 plan h2 h3 words h4 h5 h6 h7
  have h3c : h3.calm h := countJudge_calm.trans (fire_calm.trans calm_of_eq)
  have h4c : h4.calm h := lampsLinkDown_calm.trans (discardPairsOn_calm.trans (tunLinkDown_calm.trans (tally_calm.trans
    (systemClose_calm.trans (freeWords_calm.trans h3c)))))
  have h6c : h6.calm h := swapLose_calm.trans (followDown_calm.trans (fogOriginate_calm.trans h4c))
  have h7c : h7.calm h := ite_calm (mirrorLost_calm.trans h6c) h6c
  exact ite_calm .refl (ite_calm h3c (ite_calm (withPair_calm.trans h7c) h7c))

theorem linkAgain_calm : (h.linkAgain p).calm h := ite_calm calm_of_eq .refl

theorem linkDown_calm {cause : Nat} : (h.linkDown p cause).calm h := by
  unfold linkDown
  extract_lets h1 h2
  have h2c : h2.calm h := ite_calm (linkAgain_calm.trans (linkDrop_calm.trans linkDrop_calm)) linkDrop_calm
  exact ite_calm h2c (linkAgain_calm.trans h2c)

theorem linkPortGone_calm : (h.linkPortGone p).calm h := ite_calm .refl linkDown_calm

theorem setNominal_calm {kbit : Nat} : (h.setNominal e kbit).calm h := setNominal_keeps.calm

theorem openSigned_foldl_calm (ws : List Nat) : ∀ r : Hub × List Int,
    (ws.foldl (fun r w => ((r.1.openSigned w).1, r.2 ++ [(r.1.openSigned w).2])) r).1.calm r.1 := by
  induction ws with
  | nil => exact fun _ => .refl
  | cons w ws ih => exact fun r => (ih _).trans calm_of_eq

theorem laneAdapt_calm : (h.laneAdapt n).calm h := by
  unfold laneAdapt
  extract_lets cfg taps h1
  have h1c : h1.calm h := ite_calm .refl (updLane_calm.trans (openSigned_foldl_calm _ (h, [])))
  exact ite_calm .refl (ite_calm (updLane_calm.trans (openValue_calm.trans h1c)) h1c)

theorem portRest_calm {st : PortState} {status : Nat} : (h.portRest p st status).calm h :=
  doneOpt_calm.trans (setNominal_calm.trans (linkPortGone_calm.trans
    (foldl_calm (fun _ _ => updLane_calm.trans laneAdapt_calm) _ calm_of_eq)))

theorem startRound_calm : (h.startRound p).calm h :=
  foldl_calm (fun _ _ => ite_calm .refl (emit_calm.trans updLane_calm)) _ setPort_calm

theorem roundSignal_calm : (h.roundSignal p).calm h := ite_calm setPort_calm .refl

theorem trainingBegin_calm {stepped : Bool} {o : Option Nat} : (h.trainingBegin p stepped o).calm h :=
  roundSignal_calm.trans (startRound_calm.trans (updPort_calm.trans (ite_calm .refl latchEntries_calm)))

theorem portJudge_calm : (h.portJudge p).calm h := by
  unfold portJudge
  extract_lets st h1 h2
  have h1c : h1.calm h := ite_calm calm_of_eq .refl
  have h2c : h2.calm h := ite_calm (portRest_calm.trans h1c) h1c
  exact ite_calm (ite_calm .refl portRest_calm) (ite_calm (trainingBegin_calm.trans h2c) h2c)

theorem portsJudge_calm : h.portsJudge.calm h := foldl_calm (fun _ _ => portJudge_calm) _ .refl

/-! ### Domains that stop (R549, R550) -/

theorem domChanged_calm {st : DomState} : (h.domChanged d st).calm h := fire_calm.trans (tally_calm.trans calm_of_eq)

theorem switchLost_calm : h.switchLost.calm h :=
  .trans calm_of_eq (foldl_calm (fun _ _ => freeCtx_calm.trans purge_calm) _ .refl)

theorem judgeShort_calm : h.judgeShort.calm h := ite_calm (fire_calm.trans (flag_calm.trans calm_of_eq)) calm_of_eq

theorem rehome_calm : (h.rehome t).calm h := foldl_calm (fun _ _ => calm_of_eq) _ .refl

theorem clusterDiscard_calm : (h.clusterDiscard k).calm h :=
  foldl_calm (fun _ _ => foldl_calm (fun _ _ => discardJob_calm) _ calm_of_eq) _ .refl

theorem clusterStop_calm {st : DomState} : (h.clusterStop k st).calm h := by
  have h1c : ((List.range 8).foldl (fun h n => h.rehome (8 * k + n)) (h.clusterDiscard k)).calm h :=
    foldl_calm (fun _ _ => rehome_calm) _ clusterDiscard_calm
  exact judgeShort_calm.trans (ite_calm (foldl_calm (fun _ _ => calm_of_eq) _ (loadStore_calm.trans h1c)) h1c)

theorem ethDrop_calm : (h.ethDrop n).calm h := foldl_calm (fun _ _ => tally_calm.trans calm_of_eq) _ .refl

theorem ethLink_calm {link : Nat} : (h.ethLink n link).calm h := by
  unfold ethLink
  extract_lets x h1
  have h1c : h1.calm h := fire_calm.trans (setNominal_calm.trans calm_of_eq)
  exact ite_calm .refl (ite_calm (ethDrop_calm.trans h1c) h1c)

theorem hostReset_calm : h.hostReset.calm h :=
  .trans calm_of_eq (foldl_calm (fun _ _ => ite_calm calm_of_eq calm_of_eq) _ loseBindings_calm)

theorem pcieLink_calm {speed width : Nat} : (h.pcieLink speed width).calm h := by
  unfold pcieLink
  extract_lets speed width hb h1 h2
  have h2c : h2.calm h := fire_calm.trans (setNominal_calm.trans calm_of_eq)
  exact ite_calm .refl (ite_calm (hostReset_calm.trans h2c) h2c)

theorem hsicLine_calm {level : Nat} : (h.hsicLine n level).calm h := ite_calm .refl emit_calm

theorem hsicJudge_calm : (h.hsicJudge n).calm h :=
  ite_calm (ite_calm .refl (setNominal_calm.trans (hsicLine_calm.trans calm_of_eq)))
    (ite_calm (setNominal_calm.trans (usbJudge_calm.trans (withUsb_calm.trans
      (foldl_calm (fun _ _ => calm_of_eq) _ (hsicLine_calm.trans calm_of_eq))))) calm_of_eq)

theorem porchPackets_calm : h.porchPackets.calm h := by
  have send {P : Prop} [Decidable P] {h : Hub} {x : Out} : (if P then h.emit x else h).calm h := ite_calm emit_calm .refl
  exact foldl_calm (fun _ _ => finish_calm.trans (send.trans send)) _ calm_of_eq

theorem dsiEnable_calm {on : Bool} : (h.dsiEnable on).calm h :=
  ite_calm (setNominal_calm.trans calm_of_eq)
    (ite_calm (setNominal_calm.trans (withVid_calm.trans (porchPackets_calm.trans (loseBindings_calm.trans put_calm)))) calm_of_eq)

theorem dsiHalt_calm : h.dsiHalt.calm h := put_calm.trans dsiEnable_calm

theorem csiStop_calm : (h.csiStop n).calm h := setCsi_calm.trans loseBindings_calm

theorem takeInject_calm {region : Nat} : (h.takeInject region).1.calm h := by
  unfold takeInject
  split
  · exact withSw_calm
  · exact .refl

theorem stageSegment_calm {j : Job} : (h.stageSegment j).calm h := by
  unfold stageSegment
  extract_lets b ingress h1 w
  have h1c : h1.calm h := ite_calm .refl mirrorSegment_calm
  exact stageInBy_calm.trans (withEng_calm.trans (takeInject_calm.trans h1c))

theorem offer_calm {seg : Segment} : (h.offer i seg).calm h :=
  ite_calm updCtx_calm (ite_calm stageSegment_calm withEng_calm)

theorem blockRespond_calm {op tag status bytes : Nat} {more : Bytes} : (h.blockRespond i op tag status bytes more).calm h :=
  ite_calm .refl offer_calm

theorem emmcIdle_calm : h.emmcIdle.calm h := setEmmc_calm

theorem emmcEnd_calm {status : Nat} : (h.emmcEnd i status).calm h := by
  unfold emmcEnd
  split
  · exact emmcIdle_calm
  · exact emmcIdle_calm.trans (ite_calm setEmmc_calm (blockRespond_calm.trans setEmmc_calm))

theorem emmcStart_calm : h.emmcStart.calm h := by
  unfold emmcStart
  extract_lets h1
  have h1c : h1.calm h := by
    unfold h1
    split
    · exact emmcEnd_calm
    · exact .refl
  exact emit_calm.trans (setEmmc_calm.trans h1c)

theorem emmcEnable_calm {on : Bool} : (h.emmcEnable on).calm h :=
  ite_calm (ite_calm (emmcStart_calm.trans put_calm) put_calm)
    (ite_calm (setEmmc_calm.trans (loseBindings_calm.trans put_calm)) put_calm)

theorem emmcHalt_calm : h.emmcHalt.calm h := put_calm.trans emmcEnable_calm

theorem cryptoLost_calm : h.cryptoLost.calm h := foldl_calm (fun _ _ => doneOpt_calm) _ calm_of_eq

theorem lampStop_calm {st : DomState} : (h.lampStop st).calm h := ite_calm (foldl_calm (fun _ _ => calm_of_eq) _ calm_of_eq) calm_of_eq

theorem domStop_calm {st : DomState} : (h.domStop d st).calm h := by
  unfold domStop
  extract_lets h1
  have h1c : h1.calm h := loseBindings_calm
  clear_value h1
  refine ite_calm (ite_calm (switchLost_calm.trans h1c) h1c) (ite_calm h1c (ite_calm (clusterStop_calm.trans h1c)
    (ite_calm (portsJudge_calm.trans h1c) (ite_calm ?eth (ite_calm ?host (ite_calm ?hsic (ite_calm ?dsi (ite_calm ?csi
    (ite_calm ?emmc (ite_calm (ite_calm (cryptoLost_calm.trans h1c) h1c) (lampStop_calm.trans h1c)))))))))))
  case eth => exact foldl_calm (fun _ _ => ethLink_calm) _ h1c
  case host => exact hostReset_calm.trans (pcieLink_calm.trans h1c)
  case hsic => exact hsicJudge_calm.trans (hsicJudge_calm.trans h1c)
  case dsi => exact dsiHalt_calm.trans h1c
  case csi => exact csiStop_calm.trans (csiStop_calm.trans h1c)
  case emmc => exact foldl_calm (fun _ _ => setSer_calm) _ (emmcHalt_calm.trans h1c)

theorem domLeave_calm {st : DomState} : (h.domLeave d st).calm h := by
  have setPll {g : Hub} {o : Option Nat} : (g.setPll o false).calm g := by
    cases o
    · exact .refl
    · exact withPwr_calm
  exact domChanged_calm.trans (domStop_calm.trans (setPll.trans (withPwr_calm.trans setDomain_calm)))

theorem domReplace_calm : (h.domReplace d).calm h := ite_calm .refl (doneOpt_calm.trans (withPwr_calm.trans setDomain_calm))

theorem domDrop_calm {st : DomState} : (h.domDrop d st).calm h := by
  unfold domDrop
  extract_lets h1 now
  have h1c : h1.calm h := domReplace_calm
  exact ite_calm h1c (ite_calm (domLeave_calm.trans h1c) (ite_calm (domChanged_calm.trans (domStop_calm.trans h1c)) h1c))

/-! ### The mooring -/

theorem moorFrame_calm {kind id : Nat} {b : Bytes} : (h.moorFrame c kind id b).calm h :=
  ite_calm (tally_calm.trans pacedOut_calm) (ite_calm (tally_calm.trans emit_calm) .refl)

theorem moorSend_calm {kind : Nat} {b : Bytes} {o : Option Nat} : (h.moorSend c kind b o).calm h := by
  have transmit {g : Hub} : (g.moorTransmit c).calm g := by
    unfold moorTransmit
    split
    · exact .refl
    · exact moorFrame_calm.trans updConn_calm
  exact ite_calm (transmit.trans setConn_calm) setConn_calm

theorem offerChanged_calm {before : Hub} : (h.offerChanged before).calm h :=
  foldl_calm (fun _ _ => ite_calm (ite_calm (moorSend_calm.trans updConn_calm) .refl) .refl) _ .refl

theorem contract_calm {profile current : Nat} : (h.contract c profile current).calm h :=
  ite_calm .refl (offerChanged_calm.trans (fire_calm.trans (put_calm.trans setConn_calm)))

theorem renegotiate_calm {before : Hub} : (h.renegotiate before).calm h := by
  have askCaps {g : Hub} {c : Nat} : (g.askCaps c).calm g := ite_calm moorSend_calm .refl
  exact offerChanged_calm.trans (askCaps.trans askCaps)

theorem stageDefault_calm : h.stageDefault.calm h := by
  unfold stageDefault
  split
  · exact ite_calm (ite_calm (foldl_calm (fun _ _ => moorSend_calm.trans contract_calm) _ .refl) withMoor_calm) .refl
  · exact .refl

theorem moorFog_calm : h.moorFog.calm h := by
  unfold moorFog
  extract_lets a h1
  have ha : a.calm h := ite_calm .refl (ite_calm (moorSend_calm.trans updConn_calm) .refl)
  have h1c : h1.calm h := stageDefault_calm.trans (ite_calm (contract_calm.trans ha) ha)
  exact ite_calm (moorSend_calm.trans (ite_calm h1c (updConn_calm.trans h1c))) h1c

/-! ### Entry to FOGHORN and its end -/

theorem cancelCommands_calm {but : Option Nat} : (h.cancelCommands but).calm h := by
  have parts {g : Hub} : g.forgetParts.calm g :=
    foldl_calm (fun _ _ => updDomain_calm) _ (foldl_calm (fun _ _ => setBank_calm) _ (foldl_calm (fun _ _ => updConn_calm) _ .refl))
  have units {g : Hub} : g.forgetUnits.calm g := calm_of_eq
  exact units.trans (parts.trans (foldl_calm (fun _ _ => ite_calm .refl finish_calm) _ .refl))

theorem portsOff_calm : h.portsOff.calm h := foldl_calm (fun _ _ => ite_calm .refl portRest_calm) _ .refl

theorem freqLost_calm : h.freqLost.calm h := ite_calm (fire_calm.trans (flag_calm.trans withPwr_calm)) .refl

theorem fogDomains_calm : h.fogDomains.calm h :=
  foldl_calm (fun _ _ => domDrop_calm) _ (domDrop_calm.trans (foldl_calm (fun _ _ => domDrop_calm) _ .refl))

theorem fogTunnels_calm : h.fogTunnels.calm h :=
  withEng_calm.trans (keepDrop_calm.trans (foldl_calm (fun _ _ => ite_calm purge_calm (freeCtx_calm.trans purge_calm)) _ .refl))

theorem obsOff_calm : h.obsOff.calm h := ite_calm .refl (emit_calm.trans put_calm)

theorem linksFailed_calm : h.linksFailed.calm h := foldl_calm (fun _ _ => ite_calm fire_calm .refl) _ .refl

/-! ### The mode record after entry to FOGHORN, a retrain and confirmation -/

theorem withMode_grows {m : ModeSt} : ({ h with mode := m } : Hub).grows h := ⟨List.suffix_refl _, fun _ => id⟩

/-- Entry to FOGHORN writes the mode record once amid operations that are calm before it and after it, and starts the retry timer. -/
theorem enterFog_fogs {cause : Nat} {but : Option Nat} :
    (h.enterFog cause but).mode = h.mode.fogged cause ∧ (h.enterFog cause but).grows h := by
  unfold enterFog
  extract_lets g mode links h1
  have hg : g.calm h := freqLost_calm.trans (portsOff_calm.trans (cancelCommands_calm.trans lampsDark_calm))
  clear_value g
  have h1m : ({ h1.mode with retryRunning := true } : ModeSt) = g.mode.fogged cause := rfl
  have h1g : h1.grows g := ⟨List.suffix_refl _, fun _ => id⟩
  clear_value h1
  have swept : (h1.swapClear.fogTunnels.fogDomains.obsOff.clearDaymarks.moorFog).calm h1 :=
    moorFog_calm.trans (clearDaymarks_calm.trans (obsOff_calm.trans (fogDomains_calm.trans (fogTunnels_calm.trans withPair_calm))))
  constructor
  · rw [resources_calm.mode, ← hg.mode, ← h1m, ← swept.mode, fogRetryStart]
  · exact resources_calm.toGrows.trans (withMode_grows.trans (swept.toGrows.trans (h1g.trans hg.toGrows)))

theorem retrainStart_mode {b : RetrainBy} :
    (h.retrainStart b).mode = { h.mode with retrain := some b, deadlineRunning := true, retryRunning := false } := by
  have queued : (h.retrainStart b).calm _ := foldl_calm (fun _ _ => powerQueue_keeps.calm) _ .refl
  exact queued.mode

theorem retrainFail_mode {b : RetrainBy} (ha : h.mode.active = .foghorn) (hb : h.mode.retrain = some b) :
    h.retrainFail.mode = { h.mode with retrain := none, deadlineRunning := false, retryRunning := true } := by
  have stop : (h.retrainStop (abFailed 0)).mode = { h.mode with retrain := none, deadlineRunning := false } := by
    unfold retrainStop
    rw [hb]
    extract_lets h1 mode links h2 h3
    have h3m : h3.mode = { h.mode with retrain := none, deadlineRunning := false } := by
      rw [(fogDomains_calm.trans fogTunnels_calm : h3.calm h2).mode, ← (portsOff_calm : h1.calm h).mode]
    cases b with
    | timer => exact h3m
    | command c => exact done_calm.mode.trans h3m
  rw [retrainFail, if_pos ⟨by simp [inFog, ha], by simp [hb]⟩, fogRetryStart, stop]

theorem confirm_mode : h.confirm.mode = { h.mode with confirmed := true } ∧ h.confirm.grows h := by
  unfold confirm
  split
  · next hc => exact ⟨by rw [← hc], ⟨List.suffix_refl _, fun _ => id⟩⟩
  · extract_lets mode h1
    have counts : h1.startupCounts.calm h1 := ite_calm withPlan_calm .refl
    have rest := (hsicJudge_calm (n := 1)).trans ((hsicJudge_calm (n := 0)).trans ((renegotiate_calm (before := h)).trans counts))
    exact ⟨rest.mode, rest.toGrows.trans withMode_grows⟩

/-! ### What has been given to the outside -/

theorem gave_answer {r : Path} {status : Abort} {b : Bytes} : (h.answer r status b).gave h (.answer r status b) := by
  obtain ⟨l, hl⟩ := (answer_calm_emit (h := h) (r := r) (status := status) (b := b)).out
  exact ⟨l, [], hl.symm⟩

/-- What has been given stays given, also since an earlier time. -/
theorem gave.mono {a b g g' : Hub} {x : Out} (hx : b.gave g x) (hab : b.out <:+ a.out) (hg : g'.out <:+ g.out) : a.gave g' x := by
  obtain ⟨l, m, hb⟩ := hx
  obtain ⟨l', ha⟩ := hab
  obtain ⟨m', hm⟩ := hg
  exact ⟨l' ++ l, m ++ m', by simp [← ha, hb, ← hm]⟩

theorem lineChange_suffix (x : Line) (was is : Bool) (out : List Out) : out <:+ lineChange x was is out := by
  unfold lineChange
  split
  · exact List.suffix_refl _
  · exact List.suffix_cons _ _

theorem settle_grows : h.settle.grows h :=
  ⟨((lineChange_suffix _ _ _ _).trans (lineChange_suffix _ _ _ _)).trans (lineChange_suffix _ _ _ _), fun _ => id⟩

/-! ### Commands that Keeper takes -/

/-- A channel that has a command is done once its command ends. -/
theorem done_chan {status : Nat} {b : Bytes} (hc : c < 8) (hs : (h.chan c).state ≠ .idle) : ((h.done c status b).chan c).state = .done := by
  rw [done, if_pos hc, finish]
  split
  · simp
  · next hr =>
    cases hst : (h.chan c).state with
    | idle => exact absurd hst hs
    | running => exact absurd hst hr
    | done => rfl

end Operations

theorem odapReplace_alone (h : Hub) (n client : Nat) (hq : h.ctl.keeperQ = []) :
    ∃ x : CtlSt, x.channels = h.ctl.channels ∧ x.keeperQ = [] ∧ h.odapReplace n client = { h with ctl := x } := by
  unfold odapReplace
  split
  · exact ⟨h.ctl, rfl, hq, rfl⟩
  · refine ⟨_, ?_, ?_, rfl⟩
    · rfl
    · simp [dropTransfer, hq]

/-- With nothing waiting at Keeper an access is served at once (R36); before that only the control state has changed. -/
theorem turn_alone (h : Hub) (a : Access) (serve : Hub → Hub) (hk : h.keeperUp = true) (hq : h.ctl.keeperQ = []) :
    ∃ x : CtlSt, x.channels = h.ctl.channels ∧ h.turn a serve = (serve { h with ctl := x }).keeperLeave a := by
  have served {g : Hub} {x : CtlSt} (hx : x.channels = h.ctl.channels) (hn : x.keeperQ = []) (hg : g = { h with ctl := x }) :
      ∃ y : CtlSt, y.channels = h.ctl.channels ∧
        (if g.ctl.keeperQ = [] then (serve (g.keeperJoin a)).keeperLeave a else g.keeperJoin a) =
          (serve { h with ctl := y }).keeperLeave a := by
    subst hg
    exact ⟨{ x with keeperQ := x.keeperQ ++ [a] }, hx, if_pos hn⟩
  rw [turn, if_pos hk]
  obtain ⟨path, ix, sub, write, wasServed, silent⟩ := a
  cases path with
  | odap n c =>
    obtain ⟨x, hx, hn, hg⟩ := odapReplace_alone h n.val c.toNat hq
    exact served hx hn hg
  | _ => exact served (g := h) (x := h.ctl) rfl hq rfl

/-- The hub stands as it does right after a command was accepted: its channel runs it and the acceptance is answered (R59, R60). -/
structure accepted (g h : Hub) (req : Path) (c code tag : Nat) (args : Bytes) : Prop where
  mode : g.mode = h.mode
  od : g.od = h.od
  chan : g.chan c = ⟨.running, tag, code, args, []⟩
  gave : g.gave h (.answer req 0 [])

end Hub

/-- A command that nothing prevents is accepted, and its effect follows before Keeper and the lines are done (R36, R59, R60). -/
theorem onCommand_taken {s : State} {req : Path} {c code tag : Nat} {args : Bytes} {f start : Hub → Hub} (ht : s.hub.takes req c code)
    (hl : args.length ≤ 252)
    (hf : ∀ x : CtlSt, f { s.hub with ctl := x } = ({ s.hub with ctl := x } : Hub).issue req c code tag args none none start) :
    ∃ (g : Hub) (a : Access), g.accepted s.hub req c code tag args ∧
      onCommand code req c tag args f s = .next { s with hub := ((start g).keeperLeave a).settle } := by
  obtain ⟨live, up, alone, known, free⟩ := ht
  obtain ⟨x, hx, hturn⟩ := s.hub.turn_alone (accessOf req (Od.cmdCommand c).key (some (u16 code ++ u16 tag ++ args))) f up alone
  let g0 : Hub := { s.hub with ctl := x }
  have short : lengthOr args none = none := by rw [lengthOr, if_neg (by omega), if_neg (by omega)]
  have free0 : (g0.chan c).state ≠ .running := by rwa [Hub.chan_congr (h := s.hub) hx]
  have issued : f g0 = start ((g0.accept c code tag args).answer req 0 []) := by
    rw [hf, Hub.issue, Hub.withCode, if_pos (show g0.keeperUp = true from up), show g0.codeRefused req code = none from known, short]
    simp only
    rw [if_neg free0]
  refine ⟨(g0.accept c code tag args).answer req 0 [], accessOf req (Od.cmdCommand c).key (some (u16 code ++ u16 tag ++ args)),
    ⟨by simp [g0], by simp [g0], Hub.accept_chan .., ?_⟩, ?_⟩
  · exact Hub.gave_answer.mono (List.suffix_refl _) (by simp [g0])
  · rw [onCommand, onHub_live _ _ live, hturn, issued]

/-! ### MODE_CONFIRM is a write of an entry (R16, R33) -/

theorem odRowOf_modeConfirm : odRowOf Od.modeModeConfirm.key = some ⟨0x200003, [], .u8, .rw, [(0, 255)]⟩ := by decide +kernel

theorem leNat_u8 (v : Byte) : leNat (u8 v.toNat) = v.toNat := by simp [u8, leBytes, leNat]

namespace Hub

variable {h : Hub} {req : Path} {v : Byte}

theorem modeConfirm_exists (hrom : h.pwr.bootPhase ≠ .romStay) (hfault : h.mode.active ≠ .strapFault) :
    h.odExists req Od.modeModeConfirm.key = none := by
  obtain ⟨n, hn⟩ : ∃ n, odHigh (Od.modeModeConfirm.key / 256) = some n := Option.isSome_iff_exists.1 (by decide +kernel)
  simp [odExists, hrom, hfault, hn, odRowOf_modeConfirm]

theorem modeConfirm_writeState (n : Nat) : h.writeState Od.modeModeConfirm.key n = none := by
  simp [writeState, firstView, mirroredKey, planOfKey, portLocks, tunnelLocks, within, Od.modeModeConfirm, Od.obsObsEnable]

theorem modeConfirm_admitted (hrom : h.pwr.bootPhase ≠ .romStay) (hfault : h.mode.active ≠ .strapFault)
    (hopen : h.locked Od.modeModeConfirm.key = false) (hpath : h.pathDenied req true = false) (hstrap : v.toNat = h.mode.strap.toNat)
    (hcode : v.toNat < 6) : h.odWriteBad req Od.modeModeConfirm.key (u8 v.toNat) = none := by
  have row : OdRow.bad ⟨0x200003, [], .u8, .rw, [(0, 255)]⟩ (u8 v.toNat) = none := by
    have := v.isLt
    simp [OdRow.bad, OdType.size, leNat_u8, rangeBad, show (u8 v.toNat).length = 1 from rfl]
    omega
  have value : h.valueBad Od.modeModeConfirm.key (leNat (u8 v.toNat)) (u8 v.toNat) = none := by
    rw [valueBad, if_pos rfl, leNat_u8, confirmBad, if_pos ⟨hstrap, hcode⟩]
  have writable : odReadOnly Od.modeModeConfirm.key = false := by decide +kernel
  simp [odWriteBad, modeConfirm_exists hrom hfault, writable, hopen, hpath, odRowOf_modeConfirm, odRefuse, row, value, modeConfirm_writeState]

theorem odApply_modeConfirm : h.odApply Od.modeModeConfirm.key (u8 v.toNat) = h.confirm := by
  rw [odApply, odRowOf_modeConfirm]
  simp [odNoted, mirroredKey, odPut, OdType.size, odEntry, putCore, firstHub, Od.modeModeConfirm]

theorem serveWrite_modeConfirm {a : Access} (ha : a = accessOf req Od.modeModeConfirm.key (some (u8 v.toNat)))
    (hb : h.odWriteBad req Od.modeModeConfirm.key (u8 v.toNat) = none) :
    h.serveWrite a (u8 v.toNat) = (h.confirm.answer req 0 []).keeperLeave a := by
  have key : 256 * a.index + a.sub = Od.modeModeConfirm.key := by subst ha; rfl
  have path : a.path = req := by subst ha; rfl
  have notCommand : within a.index 0x5000 8 = none := by subst ha; rfl
  simp only [serveWrite, key, path, hb, notCommand, odApply_modeConfirm]
  rw [if_neg (by simp [mirrorHolds, mirroredKey, Od.modeModeConfirm])]

end Hub

/-! ### The clauses of the mode commands -/

/-- A meaning over a live hub completes where its operation and the lines after it leave what is claimed. -/
theorem completes_onHub (f : Hub → Hub) {c : Instr} {s : State} {P : Hub → Prop} (hl : s.hub.live) (hP : P (f s.hub).settle)
    (hc : exec c s = onHub f s := by rfl) : Completes c s P :=
  ⟨_, hc.trans (onHub_live f s hl), hP⟩

/-- A command that Keeper takes completes where its effect, after the acceptance and before the lines, leaves what is claimed. -/
theorem completes_onCommand {i : Instr} {s : State} {req : Path} {c code tag : Nat} {args : Bytes} {f : Hub → Hub} {P : Hub → Prop}
    (start : Hub → Hub) (ht : s.hub.takes req c code) (hl : args.length ≤ 252)
    (hf : ∀ x : CtlSt, f { s.hub with ctl := x } = ({ s.hub with ctl := x } : Hub).issue req c code tag args none none start)
    (hP : ∀ (g : Hub) (a : Access), g.accepted s.hub req c code tag args → P ((start g).keeperLeave a).settle)
    (hc : exec i s = onCommand code req c tag args f s := by rfl) : Completes i s P := by
  obtain ⟨g, a, hg, he⟩ := onCommand_taken ht hl hf
  exact ⟨_, hc.trans he, hP g a hg⟩

/-- R16. -/
theorem modeConfirm_completes {s : State} {req : Path} {v : Byte} (live : s.hub.live) (up : s.hub.keeperUp = true)
    (alone : s.hub.ctl.keeperQ = []) (rom : s.hub.pwr.bootPhase ≠ .romStay) (fault : s.hub.mode.active ≠ .strapFault)
    (unlocked : s.hub.locked Od.modeModeConfirm.key = false) (path : s.hub.pathDenied req true = false)
    (strap : v.toNat = s.hub.mode.strap.toNat) (code : v.toNat < 6) :
    Completes (.modeConfirm req v) s fun h =>
      h.mode.confirmed = true ∧ h.mode.active = s.hub.mode.active ∧ h.gave s.hub (.answer req 0 []) := by
  obtain ⟨x, -, hturn⟩ := s.hub.turn_alone (accessOf req Od.modeModeConfirm.key (some (u8 v.toNat)))
    (fun h => h.serveWrite (accessOf req Od.modeModeConfirm.key (some (u8 v.toNat))) (u8 v.toNat)) up alone
  let g : Hub := { s.hub with ctl := x }
  have admitted : g.odWriteBad req Od.modeModeConfirm.key (u8 v.toNat) = none :=
    Hub.modeConfirm_admitted rom fault unlocked path strap code
  have served := Hub.serveWrite_modeConfirm rfl admitted
  obtain ⟨hm, hg⟩ := g.confirm_mode
  have confirmed : (g.confirm.answer req 0 []).mode.confirmed = true := by rw [Hub.answer_mode, hm]
  have active : (g.confirm.answer req 0 []).mode.active = s.hub.mode.active := by rw [Hub.answer_mode, hm]
  have gave : (g.confirm.answer req 0 []).gave s.hub (.answer req 0 []) := Hub.gave_answer.mono (List.suffix_refl _) hg.out
  refine completes_onHub (fun h => h.odWriteBy req Od.modeModeConfirm.key (u8 v.toNat)) live ?_
  rw [Hub.odWriteBy, hturn, served]
  exact ⟨confirmed, active, gave.mono Hub.settle_grows.out (List.suffix_refl _)⟩

/-- R27, with no usable link. -/
theorem fogDeadlineExpiry_enters {s : State} (live : s.hub.live) (runs : s.hub.mode.deadlineRunning = true)
    (settled : s.hub.mode.retrain = none) (outside : s.hub.mode.active ≠ .foghorn) (unusable : s.hub.usableLink = false) :
    Completes .fogDeadlineExpiry s fun h =>
      h.mode.active = .foghorn ∧ h.mode.before = s.hub.mode.active ∧ h.mode.fogCause = (if s.hub.links.turnedAway then 4 else 2) ∧
        h.mode.deadlineRunning = false := by
  let h1 : Hub := { s.hub with mode := { s.hub.mode with deadlineRunning := false } }
  have expired : s.hub.deadlineExpired = h1.enterFog (if s.hub.links.turnedAway then 4 else 2) none := by
    rw [Hub.deadlineExpired, if_neg (by simp [runs, settled, Hub.inFog, outside])]
    exact if_neg (Bool.not_eq_true _ ▸ unusable)
  have mode := h1.enterFog_fogs (cause := if s.hub.links.turnedAway then 4 else 2) (but := none) |>.1
  exact completes_onHub Hub.deadlineExpired live (by simp [expired, mode, ModeSt.fogged, h1])

/-- R27, with a usable link. -/
theorem fogDeadlineExpiry_stays {s : State} (live : s.hub.live) (runs : s.hub.mode.deadlineRunning = true)
    (settled : s.hub.mode.retrain = none) (outside : s.hub.mode.active ≠ .foghorn) (usable : s.hub.usableLink = true) :
    Completes .fogDeadlineExpiry s fun h =>
      h.mode.active = s.hub.mode.active ∧ h.mode.fogCause = s.hub.mode.fogCause ∧ h.mode.deadlineRunning = false := by
  let h1 : Hub := { s.hub with mode := { s.hub.mode with deadlineRunning := false } }
  have expired : s.hub.deadlineExpired = if h1.isRoot then h1.linksFailed else h1 := by
    rw [Hub.deadlineExpired, if_neg (by simp [runs, settled, Hub.inFog, outside])]
    exact if_pos usable
  have calm : s.hub.deadlineExpired.calm h1 := by
    rw [expired]
    exact Hub.ite_calm Hub.linksFailed_calm .refl
  exact completes_onHub Hub.deadlineExpired live (by simp [calm.mode, h1])

/-- R28, the timer. -/
theorem fogRetry_completes {s : State} (live : s.hub.live) (fog : s.hub.mode.active = .foghorn) (runs : s.hub.mode.retryRunning = true)
    (settled : s.hub.mode.retrain = none) (cause : s.hub.mode.fogCause ≠ 1) (period : s.hub.val Od.modeFogRetryPeriod ≠ 0)
    (seated : s.hub.watchedSeated = true) :
    Completes .fogRetry s fun h =>
      h.mode.retrain = some .timer ∧ h.mode.active = .foghorn ∧ h.mode.deadlineRunning = true ∧ h.mode.retryRunning = false := by
  have starts : s.hub.fogRetry = s.hub.retrainStart .timer :=
    if_pos ⟨by simp [Hub.inFog, fog], runs, settled, cause, period, seated⟩
  exact completes_onHub Hub.fogRetry live (by simp [starts, Hub.retrainStart_mode, fog])

/-- R28, a retrain that fails. -/
theorem foghornRetrainFail_completes {s : State} {r : RetrainBy} (live : s.hub.live) (fog : s.hub.mode.active = .foghorn)
    (running : s.hub.mode.retrain = some r) :
    Completes .foghornRetrainFail s fun h =>
      h.mode.retrain = none ∧ h.mode.active = .foghorn ∧ h.mode.fogCause = s.hub.mode.fogCause ∧ h.mode.deadlineRunning = false :=
  completes_onHub Hub.retrainFail live (by simp [Hub.retrainFail_mode fog running, fog])

/-- R26: the command's own channel is spared by the entry, and ends with it. -/
theorem modeFog_completes {s : State} {req : Path} {c : Fin 8} {tag : BitVec 16} (ht : s.hub.takes req c 0x0101)
    (outside : s.hub.mode.active ≠ .foghorn) (bench : s.hub.mode.active ≠ .bench) (swap : s.hub.pair.swap = none)
    (fault : s.hub.mode.active ≠ .strapFault) :
    Completes (.modeFog req c tag []) s fun h =>
      h.mode.active = .foghorn ∧ h.mode.before = s.hub.mode.active ∧ h.mode.fogCause = 3 ∧ (h.chan c).state = .done ∧
        h.gave s.hub (.answer req 0 []) := by
  refine completes_onCommand (fun h => (h.enterFog 3 (some c.val)).done c.val 0 []) ht (Nat.zero_le _) (fun x => ?_) fun g a hg => ?_
  · simp [Hub.cmdModeFog, firstAbort, firstState, argLen, Hub.inFog, Hub.swapping, outside, bench, swap, fault]
  · obtain ⟨hm, grows⟩ := g.enterFog_fogs (cause := 3) (but := some c.val)
    have mode : ((g.enterFog 3 (some c.val)).done c.val 0 []).mode = s.hub.mode.fogged 3 := by rw [Hub.done_mode, hm, hg.mode]
    have ended := Hub.done_chan (status := 0) (b := []) c.isLt (grows.chan c.val (by simp [hg.chan]))
    exact ⟨congrArg ModeSt.active mode, congrArg ModeSt.before mode, congrArg ModeSt.fogCause mode, ended,
      hg.gave.mono (grows.out.trans (Hub.done_calm.out.trans Hub.settle_grows.out)) (List.suffix_refl _)⟩

/-- R65, MODE_RESUME. -/
theorem modeResume_completes {s : State} {req : Path} {c : Fin 8} {tag : BitVec 16} (ht : s.hub.takes req c 0x0102)
    (fog : s.hub.mode.active = .foghorn) (settled : s.hub.mode.retrain = none) (cause : s.hub.mode.fogCause ≠ 1) :
    Completes (.modeResume req c tag []) s fun h =>
      h.mode.retrain = some (.command c) ∧ h.mode.deadlineRunning = true ∧ h.mode.active = .foghorn ∧ h.busyWith c 0x0102 tag.toNat ∧
        h.gave s.hub (.answer req 0 []) := by
  refine completes_onCommand (fun h => h.retrainStart (.command c.val)) ht (Nat.zero_le _) (fun x => ?_) fun g a hg => ?_
  · simp [Hub.cmdModeResume, firstAbort, firstState, argLen, Hub.inFog, fog, settled, cause]
  · have mode := g.retrainStart_mode (b := .command c.val)
    rw [hg.mode] at mode
    have kept := Hub.retrainStart_keeps (h := g) (b := .command c.val)
    have out : (g.retrainStart (.command c.val)).out = g.out := kept .out (by decide)
    have ctl : (g.retrainStart (.command c.val)).ctl = g.ctl := kept .ctl (by decide)
    have chan : (g.retrainStart (.command c.val)).chan c.val = ⟨.running, tag.toNat, 0x0102, [], []⟩ :=
      (Hub.chan_congr (congrArg CtlSt.channels ctl) c.val).trans hg.chan
    generalize g.retrainStart (.command c.val) = k at mode out chan ⊢
    exact ⟨congrArg ModeSt.retrain mode, congrArg ModeSt.deadlineRunning mode, (congrArg ModeSt.active mode).trans fog,
      ⟨congrArg Channel.state chan, congrArg Channel.tag chan, congrArg Channel.code chan⟩,
      hg.gave.mono (out ▸ Hub.settle_grows.out) (List.suffix_refl _)⟩

/-- R65, NOP. -/
theorem nop_completes {s : State} {req : Path} {c : Fin 8} {tag : BitVec 16} (ht : s.hub.takes req c 0x0100) :
    Completes (.nop req c tag []) s fun h =>
      h.ended c 0x0100 tag.toNat 0 [] ∧ h.gave s.hub (.answer req 0 []) ∧ h.mode.active = s.hub.mode.active ∧ h.od = s.hub.od := by
  refine completes_onCommand (fun h => h.done c.val 0 []) ht (Nat.zero_le _) (fun x => ?_) fun g a hg => ?_
  · simp [Hub.cmdNop, firstAbort, argLen]
  · have finishes : g.done c.val 0 [] = g.finish c.val 0 [] := if_pos c.isLt
    have ended := g.finish_ended c.val 0 [] (by simp [hg.chan])
    have active : (g.finish c.val 0 []).mode.active = s.hub.mode.active := by rw [Hub.finish_mode, hg.mode]
    simp only [hg.chan] at ended
    simp only [finishes]
    exact ⟨ended, hg.gave.mono (Hub.finish_calm.out.trans Hub.settle_grows.out) (List.suffix_refl _), active,
      (g.finish_od _ _ _).trans hg.od⟩

/-- Settles O9: each clause is what its operation leaves of the mode record, which nothing beneath the modes writes. -/
theorem modeCommandsFollowTheModeRules : Obligations.ModeCommandsFollowTheModeRules := by
  refine ⟨?modeConfirm, ?deadlineUnusable, ?deadlineUsable, ?fogRetry, ?retrainFail, ?modeFog, ?modeResume, ?nop⟩
  case modeConfirm =>
    intro s req v live up alone rom fault unlocked path strap code
    exact modeConfirm_completes live up alone rom fault unlocked path strap code
  case deadlineUnusable => exact fun _ => fogDeadlineExpiry_enters
  case deadlineUsable => exact fun _ => fogDeadlineExpiry_stays
  case fogRetry => exact fun _ => fogRetry_completes
  case retrainFail => exact fun _ _ => foghornRetrainFail_completes
  case modeFog => exact fun _ _ _ _ => modeFog_completes
  case modeResume => exact fun _ _ _ _ => modeResume_completes
  case nop => exact fun _ _ _ _ => nop_completes

/-- Settles O4: at reset no ring is listed, so both event lines rest, and FAULT_N has none of its three causes. -/
theorem theLinesStandAtReset : Obligations.TheLinesStandAtReset := by
  have rings : State.reset.hub.evt.rings.cells = [] := rfl
  refine ⟨?evtN, ?keeperIrq, ?faultN⟩
  case evtN => exact iff_of_true rfl (by simp [rings])
  case keeperIrq => exact iff_of_false (by decide) (by simp [rings])
  case faultN => exact iff_of_false (by decide) (by decide)

end Sys2Proof.Machine

/-!
SUPPORT. The dictionary as Keeper serves it (chapter 2): accesses at the head of the queue and their answers, the checks of R33, a channel's
entries, FOG_DEADLINE, the stored configuration, and the one address for which ODAP's answers miss their client.
-/

namespace Sys2Proof.Machine

theorem Completes.mono {c : Instr} {s : State} {P Q : Hub → Prop} (hc : Completes c s P) (hPQ : ∀ h, P h → Q h) : Completes c s Q := by
  obtain ⟨h, hx, hP⟩ := hc
  exact ⟨h, hx, hPQ h hP⟩

/-- A command has one outcome: over a live hub, what it completes with holds of its operation's hub after the lines. -/
theorem Completes.holds {f : Hub → Hub} {c : Instr} {s : State} {P : Hub → Prop} (hc : Completes c s P) (hl : s.hub.live)
    (he : exec c s = onHub f s := by rfl) : P (f s.hub).settle := by
  obtain ⟨h, hx, hP⟩ := hc
  rw [he, onHub_live f s hl] at hx
  cases hx
  exact hP

namespace Hub

variable {h g k : Hub} {a : Access} {t : List Access} {path : Path} {status : Abort} {b : Bytes} {key : Nat}

/-! ### Accesses at the head of the queue, and their answers (R36) -/

@[simp] theorem keeperLeave_od : (h.keeperLeave a).od = h.od := rfl
@[simp] theorem keeperLeave_blob : (h.keeperLeave a).blob = h.blob := rfl
@[simp] theorem keeperLeave_mode : (h.keeperLeave a).mode = h.mode := rfl
@[simp] theorem keeperLeave_channels : (h.keeperLeave a).ctl.channels = h.ctl.channels := rfl

theorem keeperLeave_front (front : h.ctl.keeperQ = a :: t) : (h.keeperLeave a).ctl.keeperQ = t := by
  simp [keeperLeave, front]

theorem keeperTake_front {index sub : Nat} {w : Option Bytes} (alone : h.ctl.keeperQ = []) :
    (h.keeperTake path index sub w).ctl.keeperQ = [⟨path, index, sub, w, false, false⟩] := by
  simp [keeperTake, keeperJoin, alone]

theorem keeperHead_front (up : h.keeperUp = true) (front : h.ctl.keeperQ = a :: t) (fresh : a.served = false) :
    h.keeperHead = some a := by
  simp [keeperHead, up, front, fresh]

theorem keeperRead_front (up : h.keeperUp = true) (front : h.ctl.keeperQ = a :: t) (fresh : a.served = false) (read : a.write = none) :
    h.keeperRead = h.serveRead a := by
  simp [keeperRead, keeperHead_front up front fresh, read]

theorem keeperWrite_front (up : h.keeperUp = true) (front : h.ctl.keeperQ = a :: t) (fresh : a.served = false) (write : a.write = some b) :
    h.keeperWrite = h.serveWrite a b := by
  simp [keeperWrite, keeperHead_front up front fresh, write]

theorem accessOf_key {w : Option Bytes} : 256 * (accessOf path key w).index + (accessOf path key w).sub = key :=
  Nat.div_add_mod key 256

/-- Whatever leaves the outputs as an answer left them has given the answer. -/
theorem gave_of_answer_out (hk : k.out = (g.answer path status b).out) (hg : g.out = h.out) :
    k.settle.gave h (.answer path status b) :=
  (gave_answer (h := g)).mono (hk ▸ settle_grows.out) (hg ▸ List.suffix_refl _)

theorem serveRead_of_odRead (read : h.odRead a.path (256 * a.index + a.sub) = (h, status, b)) :
    h.serveRead a = (h.answer a.path status b).keeperLeave a := by
  rw [serveRead, read]

theorem serveWrite_of_bad {code : Abort} (bad : h.odWriteBad a.path (256 * a.index + a.sub) b = some code) :
    h.serveWrite a b = (h.answer a.path code []).keeperLeave a := by
  simp only [serveWrite, bad]

theorem serveWrite_of_good (good : h.odWriteBad a.path (256 * a.index + a.sub) b = none) (noCommand : within a.index 0x5000 8 = none)
    (notMirrored : mirroredKey (256 * a.index + a.sub) = false) :
    h.serveWrite a b = ((h.odApply (256 * a.index + a.sub) b).answer a.path 0 []).keeperLeave a := by
  simp only [serveWrite, good, noCommand]
  exact if_neg (by simp [mirrorHolds, notMirrored])

/-! ### The checks of R33 -/

theorem odExists_of_noIndex (noIndex : odHigh (key / 256) = none) : h.odExists path key = some abNoObject := by
  rw [odExists, noIndex]
  split <;> rfl

theorem odRead_of_missing {code : Abort} (missing : h.odExists path key = some code) : h.odRead path key = (h, code, []) := by
  simp [odRead, missing, refuse]

theorem odRead_of_row {r : OdRow} (ex : h.odExists path key = none) (row : odRowOf key = some r) (acc : r.acc ≠ .wo)
    (may : h.pathDenied path false = false) : h.odRead path key = h.odFetch r key := by
  simp [odRead, ex, row, acc, may]

theorem odWriteBad_of_row {r : OdRow} (ex : h.odExists path key = none) (writable : odReadOnly key = false) (unlocked : h.locked key = false)
    (may : h.pathDenied path true = false) (row : odRowOf key = some r) : h.odWriteBad path key b = h.odRefuse r key b := by
  simp [odWriteBad, ex, writable, unlocked, may, row]

/-- An entry that only its row restrains. -/
theorem odRefuse_of_row {r : OdRow} (value : h.valueBad key (leNat b) b = none) (state : h.writeState key (leNat b) = none) :
    h.odRefuse r key b = r.bad b := by
  rw [odRefuse]
  cases r.bad b <;> simp [value, state]

/-- An entry of a fixed size outside the senses of the mooring is read as its number stands. -/
theorem odValue_of_size {r : OdRow} {n : Nat} (size : r.ty.size = some n) (status : key ≠ 0x480101)
    (senses : ¬(0x480103 ≤ key ∧ key ≤ 0x480107)) : h.odValue r key = (h, leBytes n (h.number key)) := by
  simp only [odValue, size, if_neg status, if_neg senses]

end Hub

/-- The refusal of a value outside the one interval of a row (R66). -/
theorem rangeBad_interval {low high v : Int} (ordered : low ≤ high) :
    rangeBad [(low, high)] v = if v < low then some (abValue 2) else if high < v then some (abValue 1) else none := by
  by_cases below : v < low
  · have : ¬high < v := by omega
    simp [rangeBad, below, this]
  · by_cases above : high < v <;> simp [rangeBad, below, above, Int.not_lt.1 below]

theorem leNat_u32 (v : Word) : leNat (u32 v.toNat) = v.toNat := by
  have := v.isLt
  simp [u32, leBytes, leNat]
  omega

/-! ### Accesses of Keeper's own firmware, with nothing waiting -/

/-- Such a read that leaves the hub as it was is answered at once. -/
theorem ownRead_completes {s : State} {index : BitVec 16} {sub : Byte} {status : Abort} {b : Bytes} (live : s.hub.live)
    (up : s.hub.keeperUp = true) (alone : s.hub.ctl.keeperQ = [])
    (read : ∀ x : CtlSt, x.channels = s.hub.ctl.channels → ({ s.hub with ctl := x } : Hub).odRead .keeper (256 * index.toNat + sub.toNat) =
      ({ s.hub with ctl := x }, status, b)) :
    Completes (.odRead (some (index, sub))) s fun h =>
      h.gave s.hub (.answer .keeper status b) ∧ h.ctl.keeperQ = [] ∧ h.od = s.hub.od ∧ ∀ c, h.chan c = s.hub.chan c := by
  let a : Access := ⟨.keeper, index.toNat, sub.toNat, none, false, false⟩
  let g : Hub := s.hub.keeperTake .keeper index.toNat sub.toNat none
  have front : g.ctl.keeperQ = [a] := Hub.keeperTake_front alone
  have served : g.keeperRead = (g.answer .keeper status b).keeperLeave a := by
    rw [Hub.keeperRead_front (h := g) (a := a) up front rfl rfl]
    exact Hub.serveRead_of_odRead (read g.ctl rfl)
  refine completes_onHub (fun h => (h.keeperTake .keeper index.toNat sub.toNat none).keeperRead) live ?_
  refine served ▸ ?_
  exact ⟨Hub.gave_of_answer_out (g := g) rfl rfl, Hub.keeperLeave_front (by simp [front]), by simp [g, Hub.keeperTake, Hub.keeperJoin],
    fun c => Hub.chan_congr (by simp [g, Hub.keeperTake, Hub.keeperJoin]) c⟩

theorem ownWrite_completes {s : State} {index : BitVec 16} {sub : Byte} {b : Bytes} {P : Hub → Prop} (live : s.hub.live)
    (up : s.hub.keeperUp = true) (alone : s.hub.ctl.keeperQ = [])
    (hP : ∀ x : CtlSt, x.keeperQ = [⟨.keeper, index.toNat, sub.toNat, some b, false, false⟩] →
      P (({ s.hub with ctl := x } : Hub).serveWrite ⟨.keeper, index.toNat, sub.toNat, some b, false, false⟩ b).settle) :
    Completes (.odWrite (some (index, sub, b))) s P := by
  let g : Hub := s.hub.keeperTake .keeper index.toNat sub.toNat (some b)
  have front : g.ctl.keeperQ = [⟨.keeper, index.toNat, sub.toNat, some b, false, false⟩] := Hub.keeperTake_front alone
  have served : g.keeperWrite = g.serveWrite ⟨.keeper, index.toNat, sub.toNat, some b, false, false⟩ b :=
    Hub.keeperWrite_front (h := g) up front rfl rfl
  refine completes_onHub (fun h => (h.keeperTake .keeper index.toNat sub.toNat (some b)).keeperWrite) live ?_
  exact served ▸ hP g.ctl front

/-- Such a write that a check refuses is answered with that check's code, and no entry changes. -/
theorem ownWrite_refused {s : State} {index : BitVec 16} {sub : Byte} {b : Bytes} {code : Abort} (live : s.hub.live)
    (up : s.hub.keeperUp = true) (alone : s.hub.ctl.keeperQ = [])
    (bad : ∀ x : CtlSt, ({ s.hub with ctl := x } : Hub).odWriteBad .keeper (256 * index.toNat + sub.toNat) b = some code) :
    Completes (.odWrite (some (index, sub, b))) s fun h =>
      h.od = s.hub.od ∧ h.ctl.keeperQ = [] ∧ h.mode.active = s.hub.mode.active ∧ h.gave s.hub (.answer .keeper code []) := by
  refine ownWrite_completes live up alone fun x front => ?_
  rw [Hub.serveWrite_of_bad (a := ⟨.keeper, index.toNat, sub.toNat, some b, false, false⟩) (bad x)]
  exact ⟨by simp, Hub.keeperLeave_front (by simp [front]), by simp, Hub.gave_of_answer_out (g := { s.hub with ctl := x }) rfl rfl⟩

/-! ### Reads of a channel's entries (R57, R60, R61) -/

theorem odRowOf_cmdResult (c : Fin 8) : odRowOf (Od.cmdResult c).key = some ⟨0x508001, [(256, 8)], .domain, .ro, [(0, 1024)]⟩ := by
  revert c; decide +kernel

theorem odRowOf_cmdResultTag (c : Fin 8) : odRowOf (Od.cmdResultTag c).key = some ⟨0x508002, [(256, 8)], .u16, .ro, [(0, 65535)]⟩ := by
  revert c; decide +kernel

theorem odRowOf_cmdChannelState (c : Fin 8) : odRowOf (Od.cmdChannelState c).key = some ⟨0x508003, [(256, 8)], .u8, .ro, [(0, 255)]⟩ := by
  revert c; decide +kernel

theorem odHigh_channel (c : Fin 8) : odHigh (0x5080 + c.val) = some 3 := by
  revert c; decide +kernel

theorem within_channel (c : Fin 8) : within (0x5080 + c.val) 0x5080 8 = some c.val := by
  rw [within, if_pos (by omega), Nat.add_sub_cancel_left]

/-- The answer to a read of RESULT (R61). -/
def Channel.resultAnswer (x : Channel) : Abort × Bytes :=
  match x.state with
  | .running => (abBusy, [])
  | .idle => (abState stChannelIdle, [])
  | .done => (0, x.result)

namespace Hub

variable {h : Hub} {path : Path}

/-- A channel's entries exist, in the boot ROM too; in strap fault only Keeper's own path reaches them (R30, R571). -/
theorem channel_exists (c : Fin 8) {key : Nat} {r : OdRow} (ix : key / 256 = 0x5080 + c.val) (row : odRowOf key = some r)
    (fault : h.mode.active = .strapFault → path = .keeper) : h.odExists path key = none := by
  have rom : romKey key = true := by simp [romKey, ix, show 0x5080 + c.val < 0x5088 by omega]
  by_cases hf : h.mode.active = .strapFault
  · simp [odExists, rom, ix, odHigh_channel, row, fault hf]
  · simp [odExists, rom, ix, odHigh_channel, row, hf]

theorem odFetch_cmdResult (r : OdRow) (c : Fin 8) : h.odFetch r (Od.cmdResult c).key = (h, (h.chan c).resultAnswer) := by
  have ix : (Od.cmdResult c).key / 256 = 0x5080 + c.val := by simp [Od.cmdResult]; omega
  have sub : (Od.cmdResult c).key % 256 = 1 := by simp [Od.cmdResult]
  simp only [odFetch, ix, sub, within_channel, Channel.resultAnswer]
  cases (h.chan c).state <;> rfl

theorem odRead_cmdResult (c : Fin 8) (fault : h.mode.active = .strapFault → path = .keeper) (may : h.pathDenied path false = false) :
    h.odRead path (Od.cmdResult c).key = (h, (h.chan c).resultAnswer) := by
  have ix : (Od.cmdResult c).key / 256 = 0x5080 + c.val := by simp [Od.cmdResult]; omega
  rw [odRead_of_row (channel_exists c ix (odRowOf_cmdResult c) fault) (odRowOf_cmdResult c) (by simp) may, odFetch_cmdResult]

/-- The other entries of a channel are read as the views show them. -/
theorem odRead_channelNumber (c : Fin 8) {key n : Nat} {r : OdRow} (row : odRowOf key = some r) (ix : key / 256 = 0x5080 + c.val)
    (sub : key % 256 ≠ 1) (acc : r.acc ≠ .wo) (size : r.ty.size = some n) :
    h.odRead .keeper key = (h, 0, leBytes n (h.number key)) := by
  have fetch : h.odFetch r key = (h, 0, (h.odValue r key).2) := by simp [odFetch, ix, sub, within_channel]
  rw [odRead_of_row (channel_exists c ix row fun _ => rfl) row acc rfl, fetch, odValue_of_size size (by omega) (by omega)]

theorem number_cmdResultTag (c : Fin 8) : h.number (Od.cmdResultTag c).key = (h.chan c).tag := by
  fin_cases c <;> rfl

theorem number_cmdChannelState (c : Fin 8) :
    h.number (Od.cmdChannelState c).key = if (h.chan c).state = .idle then 0 else if (h.chan c).state = .running then 1 else 2 := by
  have shown : h.number (Od.cmdChannelState c).key = (match (h.chan c).state with
      | .idle => 0 | .running => 1 | .done => 2) := by
    fin_cases c <;> rfl
  rw [shown]
  cases (h.chan c).state <;> rfl

theorem odRead_cmdResultTag (c : Fin 8) : h.odRead .keeper (Od.cmdResultTag c).key = (h, 0, u16 (h.chan c).tag) := by
  rw [odRead_channelNumber c (odRowOf_cmdResultTag c) (by simp [Od.cmdResultTag]; omega) (by simp [Od.cmdResultTag]) (by simp) rfl,
    number_cmdResultTag, u16]

theorem odRead_cmdChannelState (c : Fin 8) : h.odRead .keeper (Od.cmdChannelState c).key =
    (h, 0, u8 (if (h.chan c).state = .idle then 0 else if (h.chan c).state = .running then 1 else 2)) := by
  rw [odRead_channelNumber c (odRowOf_cmdChannelState c) (by simp [Od.cmdChannelState]; omega) (by simp [Od.cmdChannelState]) (by simp) rfl,
    number_cmdChannelState, u8]

end Hub

/-- RESULT_READ (R61). -/
theorem resultRead_completes {s : State} {path : Path} {c : Fin 8} (live : s.hub.live) (up : s.hub.keeperUp = true)
    (fault : s.hub.mode.active = .strapFault → path = .keeper) (may : s.hub.pathDenied path false = false) (alone : s.hub.ctl.keeperQ = []) :
    Completes (.resultRead path c) s fun h =>
      h.chan c = s.hub.chan c ∧ h.gave s.hub (.answer path (s.hub.chan c).resultAnswer.1 (s.hub.chan c).resultAnswer.2) := by
  let a := accessOf path (Od.cmdResult c).key none
  obtain ⟨x, hx, hturn⟩ := s.hub.turn_alone a (fun h => h.serveRead a) up alone
  let g : Hub := { s.hub with ctl := x }
  have read : g.odRead a.path (256 * a.index + a.sub) = (g, (g.chan c).resultAnswer) := by
    rw [Hub.accessOf_key]
    exact Hub.odRead_cmdResult c fault may
  have served := Hub.serveRead_of_odRead read
  have chan : g.chan c = s.hub.chan c := Hub.chan_congr hx c
  refine completes_onHub (fun h => h.odReadBy path (Od.cmdResult c).key) live ?_
  rw [Hub.odReadBy, hturn, served, ← chan]
  exact ⟨Hub.chan_congr (by simp) c, Hub.gave_of_answer_out (g := g) rfl rfl⟩

/-- Settles O12: a read of a channel's entries leaves the hub as it was, so only the answer depends on the channel. -/
theorem resultReadsByChannelState : Obligations.ResultReadsByChannelState := by
  refine ⟨?result, ?tag, ?state⟩
  case result =>
    intro s path c live up fault may alone
    refine (resultRead_completes live up fault may alone).mono fun h ⟨chan, gave⟩ => ⟨⟨chan, fun running => ?_, fun idle => ?_⟩, fun done => ?_⟩
    · simpa [Channel.resultAnswer, running] using gave
    · simpa [Channel.resultAnswer, idle] using gave
    · simpa [Channel.resultAnswer, done] using gave
  case tag =>
    intro s c live up alone
    have key : 256 * (BitVec.ofNat 16 (0x5080 + c.val)).toNat + (2 : Byte).toNat = (Od.cmdResultTag c).key := by
      revert c; decide
    refine (ownRead_completes live up alone fun x hx => ?_).mono fun h ⟨gave, _, _, chan⟩ => ⟨gave, chan c⟩
    rw [key, Hub.odRead_cmdResultTag, Hub.chan_congr (h := s.hub) hx]
  case state =>
    intro s c live up alone
    have key : 256 * (BitVec.ofNat 16 (0x5080 + c.val)).toNat + (3 : Byte).toNat = (Od.cmdChannelState c).key := by
      revert c; decide
    refine (ownRead_completes live up alone fun x hx => ?_).mono fun h ⟨gave, _, _, chan⟩ => ⟨gave, chan c⟩
    rw [key, Hub.odRead_cmdChannelState, Hub.chan_congr (h := s.hub) hx]

/-! ### FOG_DEADLINE, 0x2000.05 (R27), and ACTIVE_MODE, 0x2000.02 -/

theorem odRowOf_fogDeadline : odRowOf Od.modeFogDeadline.key = some ⟨0x200005, [], .u32, .rw, [(200, 10000)]⟩ := by decide +kernel

namespace Hub

variable {h : Hub} {path : Path} {b : Bytes}

theorem fogDeadline_exists (rom : h.pwr.bootPhase ≠ .romStay) (fault : h.mode.active = .strapFault → path = .keeper) :
    h.odExists path Od.modeFogDeadline.key = none := by
  obtain ⟨n, hn⟩ : ∃ n, odHigh (Od.modeFogDeadline.key / 256) = some n := Option.isSome_iff_exists.1 (by decide +kernel)
  by_cases hf : h.mode.active = .strapFault
  · simp [odExists, rom, hn, odRowOf_fogDeadline, fault hf]
  · simp [odExists, rom, hn, odRowOf_fogDeadline, hf]

theorem fogDeadline_valueBad (n : Nat) : h.valueBad Od.modeFogDeadline.key n b = none := rfl

theorem fogDeadline_writeState (n : Nat) : h.writeState Od.modeFogDeadline.key n = none := by
  simp [writeState, firstView, mirroredKey, planOfKey, portLocks, tunnelLocks, within, Od.modeFogDeadline, Od.obsObsEnable]

/-- Only the length and the range of FOG_DEADLINE can be wrong. -/
theorem odWriteBad_fogDeadline (rom : h.pwr.bootPhase ≠ .romStay) (unlocked : h.locked Od.modeFogDeadline.key = false) :
    h.odWriteBad .keeper Od.modeFogDeadline.key b = if b.length ≠ 4 then some abLength else rangeBad [(200, 10000)] (leNat b : Nat) := by
  have writable : odReadOnly Od.modeFogDeadline.key = false := by decide +kernel
  rw [odWriteBad_of_row (fogDeadline_exists rom fun _ => rfl) writable unlocked rfl odRowOf_fogDeadline,
    odRefuse_of_row (fogDeadline_valueBad _) (fogDeadline_writeState _)]
  rfl

/-- Of the values that a word can hold, the range alone decides (R66). -/
theorem odWriteBad_fogDeadline_u32 (rom : h.pwr.bootPhase ≠ .romStay) (unlocked : h.locked Od.modeFogDeadline.key = false) (v : Word) :
    h.odWriteBad .keeper Od.modeFogDeadline.key (u32 v.toNat) =
      if v.toNat < 200 then some (abValue 2) else if 10000 < v.toNat then some (abValue 1) else none := by
  have len : ¬(u32 v.toNat).length ≠ 4 := fun hn => hn rfl
  rw [odWriteBad_fogDeadline rom unlocked, if_neg len, leNat_u32, rangeBad_interval (by decide)]
  norm_cast

theorem odApply_fogDeadline : h.odApply Od.modeFogDeadline.key b = h.put Od.modeFogDeadline (leNat b) := by
  have entry : odEntry Od.modeFogDeadline.key = Od.modeFogDeadline := by decide +kernel
  rw [odApply, odRowOf_fogDeadline]
  simp only [odNoted, odPut, OdType.size, entry]
  rfl

theorem serveWrite_fogDeadline {a : Access} {v : Word} (path : a.path = .keeper) (index : a.index = 0x2000) (sub : a.sub = 5)
    (rom : h.pwr.bootPhase ≠ .romStay) (unlocked : h.locked Od.modeFogDeadline.key = false) (low : 200 ≤ v.toNat) (high : v.toNat ≤ 10000) :
    h.serveWrite a (u32 v.toNat) = ((h.put Od.modeFogDeadline v.toNat).answer .keeper 0 []).keeperLeave a := by
  have key : 256 * a.index + a.sub = Od.modeFogDeadline.key := by rw [index, sub, Od.modeFogDeadline]
  have good : h.odWriteBad a.path (256 * a.index + a.sub) (u32 v.toNat) = none := by
    rw [path, key, odWriteBad_fogDeadline_u32 rom unlocked, if_neg (by omega), if_neg (by omega)]
  rw [serveWrite_of_good good (by rw [index]; rfl) (by rw [key]; rfl), key, odApply_fogDeadline, leNat_u32, path]

/-- No view stands before the stored value. -/
theorem number_fogDeadline : h.number Od.modeFogDeadline.key = h.val Od.modeFogDeadline := rfl

theorem odRead_fogDeadline (rom : h.pwr.bootPhase ≠ .romStay) (fault : h.mode.active ≠ .strapFault) :
    h.odRead .mailbox Od.modeFogDeadline.key = (h, 0, u32 (h.val Od.modeFogDeadline)) := by
  have fetch (r : OdRow) : h.odFetch r Od.modeFogDeadline.key =
      ((h.odValue r Od.modeFogDeadline.key).1, 0, (h.odValue r Od.modeFogDeadline.key).2) := rfl
  rw [odRead_of_row (fogDeadline_exists rom fun hf => absurd hf fault) odRowOf_fogDeadline (by simp) rfl, fetch,
    odValue_of_size rfl (by decide) (by decide), number_fogDeadline, u32]

/-- ACTIVE_MODE is an identity object, so it exists in the boot ROM too (R39, R571). -/
theorem odWriteBad_activeMode : h.odWriteBad .keeper Od.modeActiveMode.key b = some abReadOnly := by
  have row : (odRowOf Od.modeActiveMode.key).isSome := by decide +kernel
  have readOnly : odReadOnly Od.modeActiveMode.key = true := by decide +kernel
  have rom : romKey Od.modeActiveMode.key = true := by decide
  obtain ⟨n, hn⟩ : ∃ n, odHigh (Od.modeActiveMode.key / 256) = some n := Option.isSome_iff_exists.1 (by decide +kernel)
  have ex : h.odExists .keeper Od.modeActiveMode.key = none := by
    simp [odExists, rom, hn, Option.isSome_iff_ne_none.1 row]
  simp [odWriteBad, ex, readOnly]

end Hub

theorem fogDeadline_stored {s : State} {v : Word} (live : s.hub.live) (up : s.hub.keeperUp = true) (rom : s.hub.pwr.bootPhase ≠ .romStay)
    (alone : s.hub.ctl.keeperQ = []) (unlocked : s.hub.locked Od.modeFogDeadline.key = false) (low : 200 ≤ v.toNat) (high : v.toNat ≤ 10000) :
    Completes (.odWrite (some (0x2000, 5, u32 v.toNat))) s fun h =>
      h.val Od.modeFogDeadline = v.toNat ∧ h.ctl.keeperQ = [] ∧ h.gave s.hub (.answer .keeper 0 []) := by
  refine ownWrite_completes live up alone fun x front => ?_
  let g : Hub := { s.hub with ctl := x }
  let a : Access := ⟨.keeper, (0x2000 : BitVec 16).toNat, (5 : Byte).toNat, some (u32 v.toNat), false, false⟩
  have served : g.serveWrite a (u32 v.toNat) = ((g.put Od.modeFogDeadline v.toNat).answer .keeper 0 []).keeperLeave a :=
    Hub.serveWrite_fogDeadline rfl rfl rfl rom unlocked low high
  have stored : ((g.put Od.modeFogDeadline v.toNat).answer .keeper 0 []).val Od.modeFogDeadline = v.toNat := by
    rw [Hub.val_congr (Hub.answer_od _ _ _ _), Hub.val_put]
  have queue : ((g.put Od.modeFogDeadline v.toNat).answer .keeper 0 []).ctl.keeperQ = [a] := (Hub.answer_ctl_keeperQ _ _ _ _).trans front
  rw [served]
  exact ⟨stored, Hub.keeperLeave_front queue, Hub.gave_of_answer_out (g := g.put Od.modeFogDeadline v.toNat) rfl rfl⟩

/-! ### The stored configuration (R65) -/

/-- What stands before a command's effect keeps the flash work of the configuration, so that an effect may look at it. -/
theorem Hub.turn_congr {h : Hub} {a : Access} {serve serve' : Hub → Hub}
    (same : ∀ x : CtlSt, x.configOp = h.ctl.configOp → serve { h with ctl := x } = serve' { h with ctl := x }) :
    h.turn a serve = h.turn a serve' := by
  have joined (g : Hub) (hg : ∃ x : CtlSt, x.configOp = h.ctl.configOp ∧ g = { h with ctl := x }) :
      serve (g.keeperJoin a) = serve' (g.keeperJoin a) := by
    obtain ⟨x, hx, rfl⟩ := hg
    exact same { x with keeperQ := x.keeperQ ++ [a] } hx
  have replaced (n client : Nat) : ∃ x : CtlSt, x.configOp = h.ctl.configOp ∧ h.odapReplace n client = { h with ctl := x } := by
    unfold odapReplace
    split
    · exact ⟨h.ctl, rfl, rfl⟩
    · refine ⟨_, ?_, rfl⟩
      rfl
  unfold turn
  cases a.path with
  | odap n client => simp only [joined _ (replaced n.val client.toNat)]
  | _ => simp only [joined h ⟨h.ctl, rfl, rfl⟩]

/-- The flash work of the configuration is under way for a channel. -/
def Hub.startConfig (h : Hub) (op : FlashOp) (c : Nat) : Hub := { h with ctl := { h.ctl with configOp := some (op, c) } }

theorem Hub.cmdConfig_idle {h : Hub} {op : FlashOp} {code : Nat} {req : Path} {c tag : Nat} (idle : h.configBusy = false) :
    h.cmdConfig op code req c tag [] = h.issue req c code tag [] none none fun h => h.startConfig op c := by
  simp [Hub.cmdConfig, firstAbort, firstState, argLen, idle, startConfig]

/-- CONFIG_SAVE and CONFIG_ERASE start the flash work of the configuration and run on. -/
theorem config_starts {i : Instr} {s : State} {op : FlashOp} {req : Path} {c : Fin 8} {code : Nat} {tag : BitVec 16}
    (ht : s.hub.takes req c code) (idle : s.hub.configBusy = false)
    (hc : exec i s = onCommand code req c tag.toNat [] (fun h => h.cmdConfig op code req c tag.toNat []) s) :
    Completes i s fun h =>
      h.ctl.configOp = some (op, c.val) ∧ h.busyWith c code tag.toNat ∧ h.gave s.hub (.answer req 0 []) := by
  have free : onCommand code req c tag.toNat [] (fun h => h.cmdConfig op code req c tag.toNat []) s =
      onCommand code req c tag.toNat [] (fun h => h.issue req c code tag.toNat [] none none fun h => h.startConfig op c) s := by
    rw [onCommand, onCommand, onHub_live _ _ ht.1, onHub_live _ _ ht.1,
      Hub.turn_congr (serve' := fun h => h.issue req c code tag.toNat [] none none fun h => h.startConfig op c) fun x hx =>
        Hub.cmdConfig_idle (h := { s.hub with ctl := x }) ((congrArg Option.isSome hx).trans idle)]
  refine completes_onCommand (fun h => h.startConfig op c) ht (Nat.zero_le _) (fun _ => rfl) (fun g a hg => ?_) (hc.trans free)
  have chan : (g.startConfig op c).chan c = ⟨.running, tag.toNat, code, [], []⟩ := hg.chan
  exact ⟨rfl, ⟨congrArg Channel.state chan, congrArg Channel.tag chan, congrArg Channel.code chan⟩,
    hg.gave.mono (Hub.settle_grows (h := (g.startConfig op c).keeperLeave a)).out (List.suffix_refl _)⟩

/-- CONFIG_FLASH_DONE ends the command with what it stored, its status and the data of RESULT. -/
theorem configFlashDone_ends {s : State} {c : Fin 8} {ok : Bool} {stored : Option (List (Nat × Bytes))} {status : Nat} {b : Bytes}
    (live : s.hub.live) (running : (s.hub.chan c).state = .running)
    (ends : s.hub.configDone ok =
      ({ s.hub with ctl := { s.hub.ctl with configOp := none, stored := stored, configWritten := true } } : Hub).done c status b) :
    Completes (.configFlashDone ok) s fun h =>
      h.ctl.configOp = none ∧ h.ctl.stored = stored ∧ h.ended c (s.hub.chan c).code (s.hub.chan c).tag status b := by
  let g : Hub := { s.hub with ctl := { s.hub.ctl with configOp := none, stored := stored, configWritten := true } }
  have finishes : g.done c.val status b = g.finish c.val status b := if_pos c.isLt
  have ended := g.finish_ended c.val status b running
  refine completes_onHub (fun h => h.configDone ok) live ?_
  rw [ends.trans finishes]
  exact ⟨by simp [g], by simp [g], ended⟩

/-- Settles O13: each access stands at the head of the queue, where the checks of R33 on its entry decide it; the flash work of the
configuration is what its two commands and its end leave of the control state. -/
theorem dictionaryAccessesAreCheckedAndServedInOrder : Obligations.DictionaryAccessesAreCheckedAndServedInOrder := by
  refine ⟨?stores, ?range, ?length, ?readOnly, ?noObject, ?refusedInTurn, ?readInTurn, ?save, ?erase, ?saved, ?erased, ?failed⟩
  case stores => exact fun _ _ => fogDeadline_stored
  case range =>
    intro s v live up rom alone unlocked out
    refine (ownWrite_refused live up alone fun x => ?_).mono fun h ⟨od, queue, _, gave⟩ => ⟨od, queue, gave⟩
    refine (Hub.odWriteBad_fogDeadline_u32 (h := { s.hub with ctl := x }) rom unlocked v).trans ?_
    by_cases low : v.toNat < 200
    · rw [if_pos low, if_pos low]
    · rw [if_neg low, if_neg low, if_pos (out.resolve_left low)]
  case length =>
    intro s b live up rom alone unlocked len
    refine (ownWrite_refused live up alone fun x => ?_).mono fun h ⟨od, _, _, gave⟩ => ⟨od, gave⟩
    exact (Hub.odWriteBad_fogDeadline (h := { s.hub with ctl := x }) rom unlocked).trans (if_pos len)
  case readOnly =>
    intro s b live up _ alone
    exact (ownWrite_refused live up alone fun _ => Hub.odWriteBad_activeMode).mono fun h ⟨od, _, active, gave⟩ => ⟨od, active, gave⟩
  case noObject =>
    intro s index sub live up alone noIndex
    have high : (256 * index.toNat + sub.toNat) / 256 = index.toNat := by have := sub.isLt; omega
    refine (ownRead_completes live up alone fun x _ => ?_).mono fun h ⟨gave, queue, od, _⟩ => ⟨gave, queue, od⟩
    exact Hub.odRead_of_missing (Hub.odExists_of_noIndex (by rw [high, noIndex]))
  case refusedInTurn =>
    intro s a t b code live up front fresh write bad
    refine completes_onHub Hub.keeperWrite live ?_
    rw [Hub.keeperWrite_front up front fresh write, Hub.serveWrite_of_bad bad]
    exact ⟨Hub.gave_of_answer_out (g := s.hub) rfl rfl, Hub.keeperLeave_front (by simp [front]), by simp, by simp⟩
  case readInTurn =>
    intro s a t live up phase front fresh read path index sub fault
    refine completes_onHub Hub.keeperRead live ?_
    have fetched : s.hub.odRead a.path (256 * a.index + a.sub) = (s.hub, 0, u32 (s.hub.val Od.modeFogDeadline)) := by
      rw [path, index, sub]
      exact Hub.odRead_fogDeadline (by simp [phase]) fault
    rw [Hub.keeperRead_front up front fresh read, Hub.serveRead_of_odRead fetched, path]
    exact ⟨Hub.gave_of_answer_out (g := s.hub) rfl rfl, Hub.keeperLeave_front (by simp [front])⟩
  case save | erase => exact fun _ _ _ _ ht idle => config_starts ht idle rfl
  case saved | erased => exact fun _ _ live runs running => configFlashDone_ends live running (by simp [Hub.configDone, runs])
  case failed => exact fun _ _ _ live runs running => configFlashDone_ends live running (by simp [Hub.configDone, runs])

/-! ### Reset (R60, R564, R580) -/

/-- Settles O6: at reset every table lists no cell, so each of its reads gives the default. -/
theorem resetLeavesEveryTableAtItsDefault : Obligations.ResetLeavesEveryTableAtItsDefault := by
  refine ⟨?queue, ?porst, ?clock, ?entries, ?counters, ?memory, ?channels, ?contexts, ?rings, ?hold, ?nonce, ?jtag, ?stored⟩
  case entries => exact fun _ => ⟨rfl, rfl⟩
  case counters | memory | channels | contexts => exact fun _ => rfl
  case rings => exact fun _ => ⟨rfl, rfl⟩
  case queue | porst | clock | hold | nonce | jtag | stored => rfl

/-! ### An address of more than 8 bits (R43, R44) -/

/-- A segmented download of client 0x20 on CAN port 0, of which nothing has arrived. -/
def openDownload : OdapTransfer :=
  { port := 0, client := 0x20, index := 0x5000, sub := 0, download := true, size := 20, data := [], toggle := false, segmented := true,
    complete := false }

/-- A hub out of reset with that download open, whose CAN port 0 holds 256 as its source address. The statement admits every number but
254, though the addresses of R352 have 8 bits: the state lies outside what the rules speak of. -/
def wideAddressHub : Hub :=
  { Hub.init with
    pwr := { Hub.init.pwr with bootPhase := .keeper }
    ctl := { Hub.init.ctl with transfers := [openDownload] }
    io := { Hub.init.io with can := ⟨[(0, { CanSt.init with claimed := some 256 })]⟩ } }

/-- CAN port 0 of that hub after ODAP_TIMEOUT. -/
def wideAddressPort : CanSt := (wideAddressHub.odapTimeout 0 0x20).settle.can 0

/-- The abort goes to client 0x21: the ninth bit of the address carries into the identifier's destination byte. -/
theorem wideAddressPort_destination : ∀ f ∈ wideAddressPort.slots ++ wideAddressPort.queue, f.2.id / 256 % 256 = 0x21 := by
  decide +kernel

/-- Refutes O14: ODAP_TIMEOUT at `wideAddressHub` sends the client no abort. The frames' clauses need the source address within 8 bits,
and their hypotheses only keep it from being 254. -/
theorem not_odapAndTheMailboxCarryAccesses : ¬Obligations.OdapAndTheMailboxCarryAccesses := by
  intro h
  obtain ⟨-, -, -, -, -, -, -, -, -, -, timeout, -⟩ := h
  have ends := timeout ⟨wideAddressHub, []⟩ 0 0x20 openDownload rfl (by decide) rfl rfl rfl
  obtain ⟨-, f, waits, -, destination, -⟩ := Completes.holds (f := fun h => h.odapTimeout 0 0x20) ends rfl
  exact absurd ((wideAddressPort_destination f waits).symm.trans destination) (by decide)

end Sys2Proof.Machine

/-!
SUPPORT. Operations beneath the ports (chapter 3). A port that steps or fails takes its link down, and with the link go tunnels, SYSTEM
messages, the mirror, the Beacon's source and the Lamps' guards. `Hub.calm` says that none of this takes back an output; `Hub.beneath` says
that none of it writes a port, or PAT_CTRL of a lane. It composes in the same way: `x_beneath.trans y` is operation x after what y says it of.

`Elab.async` is off for the reason the frames give.
-/

namespace Sys2Proof.Machine.Hub

set_option Elab.async false

/-! ### Operations beneath the ports -/

/-- `a` comes after `b` by operations that write neither a port nor PAT_CTRL of a lane. -/
structure beneath (a b : Hub) : Prop where
  ports : a.lanes.ports = b.lanes.ports
  patCtrl : ∀ n, a.reg (Rg.patCtrl n) = b.reg (Rg.patCtrl n)

theorem beneath.refl {a : Hub} : a.beneath a := ⟨rfl, fun _ => rfl⟩

theorem beneath.trans {a b c : Hub} (hab : a.beneath b) (hbc : b.beneath c) : a.beneath c :=
  ⟨hab.ports.trans hbc.ports, fun n => (hab.patCtrl n).trans (hbc.patCtrl n)⟩

theorem beneath.port {a b : Hub} (hab : a.beneath b) (p : Nat) : a.port p = b.port p :=
  congrArg (fun t : Tab PortSt => t.get PortSt.init p) hab.ports

/-- An operation that writes neither the ports nor the registers. -/
theorem beneath_of_eq {a b : Hub} (hp : a.lanes.ports = b.lanes.ports := by rfl) (hr : a.regs = b.regs := by rfl) : a.beneath b :=
  ⟨hp, fun _ => reg_congr hr _⟩

/-- The frame of an operation says so too, where it names neither the lanes nor the registers. -/
theorem keeps.beneath {a b : Hub} {l : List Part} (hab : a.keeps b l) (hl : ∀ q ∈ [Part.lanes, .regs], q ∉ l := by decide) :
    a.beneath b :=
  beneath_of_eq (congrArg LanesSt.ports (hab .lanes (hl _ (by simp)))) (hab .regs (hl _ (by simp)))

/-- A choice between operations beneath the ports is one. -/
theorem ite_beneath {a a' b : Hub} {P : Prop} [Decidable P] (ht : a.beneath b) (hf : a'.beneath b) : (if P then a else a').beneath b := by
  split
  · exact ht
  · exact hf

/-- A fold of steps beneath the ports is one. -/
theorem foldl_beneath {α : Type} {f : Hub → α → Hub} {a b : Hub} (hf : ∀ h x, (f h x).beneath h) (xs : List α) (hab : a.beneath b) :
    (xs.foldl f a).beneath b := by
  induction xs generalizing a with
  | nil => exact hab
  | cons x xs ih => exact ih ((hf a x).trans hab)

/-- A flag of a register that is no PAT_CTRL: the words of a lane lie 256 bytes apart, PAT_CTRL at 0x20 (R108). -/
theorem flag_beneath {h : Hub} {m : Entry} {n : Nat} (hm : m.key % 256 ≠ 0x20 := by decide) : (h.flag m n).beneath h := by
  refine ⟨rfl, fun j => reg_flag_ne _ _ _ _ fun hj => hm ?_⟩
  simp only [← hj, Rg.patCtrl]
  omega

section Operations

variable {h : Hub} {p n c k e i t d w l s : Nat}

/-! ### One field of the hub replaced, one cell of a table set -/

theorem withLinks_beneath {x : LinksSt} : ({ h with links := x } : Hub).beneath h := beneath_of_eq
theorem withTun_beneath {x : TunSt} : ({ h with tun := x } : Hub).beneath h := beneath_of_eq
theorem withDm_beneath {x : DmSt} : ({ h with dm := x } : Hub).beneath h := beneath_of_eq
theorem withEng_beneath {x : EngSt} : ({ h with eng := x } : Hub).beneath h := beneath_of_eq
theorem withIo_beneath {x : IoSt} : ({ h with io := x } : Hub).beneath h := beneath_of_eq
theorem withHb_beneath {x : HbSt} : ({ h with hb := x } : Hub).beneath h := beneath_of_eq
theorem withPair_beneath {x : PairSt} : ({ h with pair := x } : Hub).beneath h := beneath_of_eq
theorem withSec_beneath {x : SecSt} : ({ h with sec := x } : Hub).beneath h := beneath_of_eq
theorem updLink_beneath {f : LinkSt → LinkSt} : (h.updLink p f).beneath h := beneath_of_eq
theorem setCtx_beneath {x : Ctx} : (h.setCtx i x).beneath h := beneath_of_eq
theorem updCtx_beneath {f : Ctx → Ctx} : (h.updCtx i f).beneath h := beneath_of_eq
theorem dropOut_beneath {x : OutSeg} : (h.dropOut e x).beneath h := beneath_of_eq
theorem setAcct_beneath : (h.setAcct i n).beneath h := beneath_of_eq
theorem charge_beneath : (h.charge i n).beneath h := beneath_of_eq
theorem setSlot_beneath {x : Slot} : (h.setSlot n x).beneath h := beneath_of_eq
theorem setPairKey_beneath {x : PairKey} : (h.setPairKey k x).beneath h := beneath_of_eq
theorem prunePairs_beneath : h.prunePairs.beneath h := beneath_of_eq
theorem dropHomes_beneath : (h.dropHomes i).beneath h := beneath_of_eq
theorem unadmit_beneath : (h.unadmit i).beneath h := beneath_of_eq
theorem clearMap_beneath : (h.clearMap i).beneath h := beneath_of_eq
theorem sysPut_beneath {b : Bytes} : (h.sysPut p b).beneath h := beneath_of_eq
theorem barrierOff_beneath {j : Job} : (h.barrierOff j).beneath h := beneath_of_eq
theorem stageOutBy_beneath {enter : Bool} : (h.stageOutBy e l enter).beneath h := beneath_of_eq

/-! ### Outputs, events and the ends of commands -/

theorem emit_beneath {x : Out} : (h.emit x).beneath h := beneath_of_eq
theorem tally_beneath {item inst : Nat} : (h.tally item inst k).beneath h := beneath_of_eq (by simp) (by simp)

/-- Of the registers, the firing of an event writes EVT_FLAGS alone (R535, R546). -/
theorem fire_beneath {b : Bytes} : (h.fire n b).beneath h := by
  refine ⟨by simp, fun m => ?_⟩
  have evtFlags : (Rg.patCtrl m).key ≠ Rg.evtFlags.key := by simp only [Rg.patCtrl, Rg.evtFlags]; omega
  simp only [fire, fireWith]
  split_ifs <;> simp [reg_congr (queueDetail_regs _ _ _ _ _), reg_congr (count_regs _ _ _), reg_flag_ne _ _ _ _ evtFlags,
    reg_congr (tally_regs _ _ _ _), reg_congr (setDomain_regs _ _ _)]

theorem completeAction_beneath {status : Nat} : (h.completeAction c status).beneath h := by
  dsimp only [completeAction, deliverRecord]
  split
  · split
    · exact withDm_beneath.trans (fire_beneath.trans withDm_beneath)
    · exact fire_beneath.trans withDm_beneath
  · exact .refl

theorem done_beneath {status : Nat} {b : Bytes} : (h.done c status b).beneath h :=
  ite_beneath (beneath_of_eq (by simp) (by simp)) completeAction_beneath

theorem doneOpt_beneath {o : Option Nat} {status : Nat} {b : Bytes} : (h.doneOpt o status b).beneath h := by
  cases o
  · exact .refl
  · exact done_beneath

/-! ### Blocks, SYSTEM messages and answers -/

theorem wakeLane_beneath : (h.wakeLane n).beneath h := ite_beneath (emit_beneath.trans beneath_of_eq) .refl

theorem blockOn_beneath {b : Bytes} : (h.blockOn p n b).beneath h := emit_beneath.trans wakeLane_beneath

theorem blockOut_beneath {b : Bytes} : (h.blockOut p b).beneath h := blockOn_beneath

theorem pairPut_beneath {op : Byte} {b : Bytes} : (h.pairPut p op b).beneath h := beneath_of_eq
theorem answer_beneath {r : Path} {status : Abort} {b : Bytes} : (h.answer r status b).beneath h := beneath_of_eq (by simp) (by simp)

theorem fogSend_beneath {f : FogSignal} (ps : List Nat) : ∀ {h : Hub}, (h.fogSend f ps).beneath h := by
  induction ps with
  | nil => exact .refl
  | cons p ps ih => exact ih.trans (withLinks_beneath.trans blockOut_beneath)

theorem fogOriginate_beneath {cause detail : Nat} : (h.fogOriginate cause detail).beneath h := (fogSend_beneath _).trans beneath_of_eq

/-! ### The mirror toward a STANDBY (R450, R451) -/

theorem runEnd_beneath {x : MirrorEnd} : (h.runEnd x).beneath h := by
  cases x with
  | command c status b => exact done_beneath
  | write r => exact .trans beneath_of_eq answer_beneath

theorem mirrorNote_beneath {r : MirrorRec} : (h.mirrorNote r).beneath h :=
  ite_beneath .refl (tally_beneath.trans (pairPut_beneath.trans (emit_beneath.trans beneath_of_eq)))

theorem endMirrored_beneath {x : MirrorEnd} : (h.endMirrored x).beneath h := ite_beneath beneath_of_eq runEnd_beneath

theorem doneMirrored_beneath {o : Option Nat} {status : Nat} {b : Bytes} : (h.doneMirrored o status b).beneath h := by
  cases o
  · exact .refl
  · exact endMirrored_beneath

theorem mirrorLost_beneath : h.mirrorLost.beneath h :=
  ite_beneath .refl (fire_beneath.trans (doneOpt_beneath.trans (foldl_beneath (fun _ _ => runEnd_beneath) _ beneath_of_eq)))

theorem mirrorCtx_beneath : (h.mirrorCtx i).beneath h := mirrorNote_beneath

/-! ### The Beacon's bearings and the Lamps -/

theorem driveLamp_beneath {x : LampSt} : (h.driveLamp l x).beneath h := by
  unfold driveLamp
  extract_lets ball h0 h1
  have h1c : h1.beneath h := ite_beneath beneath_of_eq (mirrorNote_beneath.trans beneath_of_eq)
  exact ite_beneath h1c (emit_beneath.trans h1c)

theorem lampTrigger_beneath {cause : Nat} {tunnel : List Nat} : (h.lampTrigger l cause tunnel).beneath h := by
  unfold lampTrigger
  extract_lets x on y h1
  have h1c : h1.beneath h := fire_beneath.trans ((flag_beneath).trans driveLamp_beneath)
  exact ite_beneath .refl (ite_beneath beneath_of_eq (ite_beneath .refl (ite_beneath (fogOriginate_beneath.trans h1c) h1c)))

theorem lampsTrigger_beneath {cause : Nat} {tunnel : List Nat} {pick : Nat → Bool} (ls : List Nat) :
    ∀ {h : Hub}, (h.lampsTrigger cause tunnel pick ls).beneath h := by
  induction ls with
  | nil => exact .refl
  | cons l ls ih => exact ih.trans (ite_beneath lampTrigger_beneath .refl)

theorem lampsLinkDown_beneath : (h.lampsLinkDown p).beneath h := ite_beneath (lampsTrigger_beneath _) .refl

theorem lampsGuard_beneath : (h.lampsGuard n).beneath h := lampsTrigger_beneath _

theorem lampsTunnel_beneath : (h.lampsTunnel n).beneath h := lampsTrigger_beneath _

theorem lampsAuto_beneath (ls : List Nat) : ∀ {h : Hub}, (h.lampsAuto ls).beneath h := by
  induction ls with
  | nil => exact .refl
  | cons l ls ih => exact ih.trans (ite_beneath (fire_beneath.trans driveLamp_beneath) .refl)

theorem probesFail_beneath : (h.probesFail p).beneath h := ite_beneath .refl (foldl_beneath (fun _ _ => done_beneath) _ beneath_of_eq)

theorem bearingsMoved_beneath {before : Hub} : (h.bearingsMoved before).beneath h := by
  have lost {xs : List Nat} : (xs.foldl (fun h b => h.lampsGuard b) h).beneath h := foldl_beneath (fun _ _ => lampsGuard_beneath) _ .refl
  exact ite_beneath ((lampsAuto_beneath _).trans lost) lost

theorem acquire_beneath : h.acquire.beneath h := bearingsMoved_beneath.trans beneath_of_eq

theorem followDown_beneath {down : Bool} : (h.followDown p down).beneath h :=
  ite_beneath (acquire_beneath.trans probesFail_beneath) probesFail_beneath

/-! ### The switch: accounts, holds and damaged words -/

theorem pfcUpdate_beneath {before : Hub} : (before.pfcUpdate h i).beneath h :=
  ite_beneath .refl (ite_beneath .refl (tally_beneath.trans (emit_beneath.trans beneath_of_eq)))

theorem rtsUpdate_beneath {before : Hub} : (before.rtsUpdate h i).beneath h := ite_beneath emit_beneath .refl

theorem tallyHolds_beneath {before : Hub} : (before.tallyHolds h i).beneath h :=
  foldl_beneath (fun _ _ => ite_beneath tally_beneath .refl) _ rtsUpdate_beneath

theorem recheck_beneath : (h.recheck i c).beneath h := ite_beneath .refl (pfcUpdate_beneath.trans (tallyHolds_beneath.trans beneath_of_eq))

theorem recheckPool_beneath : h.recheckPool.beneath h := by
  unfold recheckPool
  extract_lets low sw h1 h2
  have h2c : h2.beneath h := foldl_beneath (fun _ _ => pfcUpdate_beneath.trans tallyHolds_beneath) _ beneath_of_eq
  exact ite_beneath .refl (ite_beneath (fire_beneath.trans ((flag_beneath).trans h2c)) h2c)

theorem credited_beneath : (h.credited i n).beneath h := ite_beneath updLink_beneath .refl

theorem acctJudge_beneath : (h.acctJudge i).beneath h := ite_beneath (recheckPool_beneath.trans recheck_beneath) .refl

theorem acctBy_beneath {enter : Bool} : (h.acctBy i n enter).beneath h :=
  acctJudge_beneath.trans (ite_beneath charge_beneath (credited_beneath.trans setAcct_beneath))

theorem stageInBy_beneath {enter : Bool} : (h.stageInBy i c l enter).beneath h := recheck_beneath.trans beneath_of_eq

theorem eccWrite_beneath {region addr : Nat} : (h.eccWrite region addr).beneath h := by
  dsimp only [eccWrite]
  split
  · exact beneath_of_eq
  · exact ite_beneath .refl beneath_of_eq

theorem freeDamaged_beneath {region addr : Nat} : (h.freeDamaged region addr n).beneath h := ite_beneath .refl beneath_of_eq

theorem wordAddr_beneath {region : Nat} : (h.wordAddr region).1.beneath h := beneath_of_eq

theorem freeWords_beneath {cells : List BufCell} : (h.freeWords cells).beneath h := by
  refine foldl_beneath (fun h x => ?_) _ .refl
  extract_lets h1
  have h1c : h1.beneath h := by
    unfold h1
    split
    · exact acctBy_beneath
    · exact .refl
  exact ite_beneath h1c (freeDamaged_beneath.trans (wordAddr_beneath.trans h1c))

theorem mirrorStale_beneath {hd : Nat} : (h.mirrorStale hd).beneath h :=
  foldl_beneath (fun _ _ => ite_beneath (fire_beneath.trans ((flag_beneath).trans beneath_of_eq)) .refl) _ .refl

/-! ### Jobs and contexts -/

theorem stageLeave_beneath {j : Job} : (h.stageLeave j).beneath h := by
  unfold stageLeave
  extract_lets h1
  have h1c : h1.beneath h := ite_beneath .refl stageInBy_beneath
  exact ite_beneath h1c (freeDamaged_beneath.trans (wordAddr_beneath.trans h1c))

theorem freeJob_beneath {j : Job} {committed : Bool} : (h.freeJob j committed).beneath h :=
  ite_beneath (ite_beneath stageLeave_beneath (acctBy_beneath.trans stageLeave_beneath))
    (ite_beneath freeWords_beneath (stageOutBy_beneath.trans freeWords_beneath))

theorem drainCount_beneath {j : Job} : (h.drainCount j).beneath h := ite_beneath beneath_of_eq .refl

theorem discardJob_beneath {j : Job} : (h.discardJob j).beneath h := drainCount_beneath.trans (barrierOff_beneath.trans freeJob_beneath)

theorem discardOn_beneath : (h.discardOn i t).beneath h := ite_beneath .refl (foldl_beneath (fun _ _ => discardJob_beneath) _ beneath_of_eq)

theorem discardJobs_beneath : (h.discardJobs i).beneath h :=
  foldl_beneath (fun _ _ => drainCount_beneath.trans (ite_beneath stageLeave_beneath freeWords_beneath)) _
    (withEng_beneath.trans (foldl_beneath (fun _ _ => discardOn_beneath) _ .refl))

theorem removeCells_beneath : (h.removeCells i e).beneath h := ite_beneath .refl (freeWords_beneath.trans beneath_of_eq)

theorem purge_beneath : (h.purge i).1.beneath h := by
  unfold purge
  extract_lets before n h1 h2 h3
  have h1c : h1.beneath h := foldl_beneath (fun _ _ => removeCells_beneath) _ .refl
  change h3.beneath h
  exact updCtx_beneath.trans (discardJobs_beneath.trans (updCtx_beneath.trans (freeWords_beneath.trans h1c)))

theorem setTunState_beneath {st : TunState} : (h.setTunState i st).beneath h :=
  eccWrite_beneath.trans (eccWrite_beneath.trans beneath_of_eq)

theorem freeCtx_beneath : (h.freeCtx i).beneath h :=
  mirrorCtx_beneath.trans (mirrorStale_beneath.trans (prunePairs_beneath.trans (eccWrite_beneath.trans (setCtx_beneath.trans
    (withSec_beneath.trans (dropHomes_beneath.trans (unadmit_beneath.trans (clearMap_beneath.trans (ite_beneath .refl fire_beneath)))))))))

theorem tunOut_beneath {m : TunMsg} : (h.tunOut p m).beneath h := ite_beneath (sysPut_beneath.trans emit_beneath) .refl

theorem tunSend_beneath {toResp : Bool} {op : TunOp} : (h.tunSend i toResp op).beneath h := tunOut_beneath.trans beneath_of_eq

/-! ### What a tunnel leaves at its local port -/

theorem fnDisconnect_beneath {f : Nat} : (h.fnDisconnect n f).beneath h :=
  ite_beneath .refl (foldl_beneath (fun _ _ => done_beneath) _ (fire_beneath.trans ((flag_beneath).trans beneath_of_eq)))

theorem usbJudge_beneath : h.usbJudge.beneath h := foldl_beneath (fun _ _ => ite_beneath fnDisconnect_beneath .refl) _ .refl

theorem pfDiscard_beneath {x : PfPiece} : (h.pfDiscard w x).beneath h :=
  ite_beneath (fire_beneath.trans ((flag_beneath).trans beneath_of_eq)) beneath_of_eq

theorem pfEmpty_beneath : (h.pfEmpty w).beneath h := foldl_beneath (fun _ _ => pfDiscard_beneath) _ beneath_of_eq

theorem blockLeave_beneath : (h.blockLeave i).beneath h := by
  unfold blockLeave
  exact foldl_beneath (fun _ _ => dropOut_beneath) _ withIo_beneath

theorem portLeave_beneath : (h.portLeave i).beneath h := by
  unfold portLeave
  exact ite_beneath blockLeave_beneath (ite_beneath pfEmpty_beneath (ite_beneath withHb_beneath (ite_beneath usbJudge_beneath .refl)))

/-! ### Tunnels that fault -/

theorem enterFault_beneath {cause faultStatus status : Nat} {b : Bytes} : (h.enterFault i cause faultStatus status b).beneath h := by
  unfold enterFault
  extract_lets x h1 h2 tun h3 h4 h5 h6 h7 h8
  have h5c : h5.beneath h := mirrorCtx_beneath.trans (fire_beneath.trans (prunePairs_beneath.trans (dropHomes_beneath.trans
    (unadmit_beneath.trans (setTunState_beneath.trans (withTun_beneath.trans (updCtx_beneath.trans purge_beneath)))))))
  have h6c : h6.beneath h := ite_beneath (portLeave_beneath.trans h5c) h5c
  have h7c : h7.beneath h := ite_beneath (lampsTunnel_beneath.trans h6c) h6c
  have h8c : h8.beneath h := doneMirrored_beneath.trans h7c
  exact ite_beneath (freeCtx_beneath.trans h8c) h8c

theorem tunLinkDown_beneath : (h.tunLinkDown p).beneath h := by
  refine foldl_beneath (fun h c => ?_) _ .refl
  extract_lets x other h1
  have h1c : h1.beneath h := ite_beneath .refl (ite_beneath tunSend_beneath .refl)
  exact enterFault_beneath.trans h1c

theorem systemClose_beneath : (h.systemClose p).beneath h :=
  ite_beneath .refl (dropHomes_beneath.trans (updCtx_beneath.trans (updLink_beneath.trans purge_beneath)))

theorem discardPair_beneath : (h.discardPair k).beneath h := by
  unfold discardPair
  extract_lets x users h1
  have h1c : h1.beneath h := setPairKey_beneath.trans (setSlot_beneath.trans setSlot_beneath)
  refine ite_beneath .refl (ite_beneath (prunePairs_beneath.trans h1c) ?_)
  split
  · exact foldl_beneath (fun _ _ => updCtx_beneath) _ (setPairKey_beneath.trans h1c)
  · exact h1c

theorem discardPairsOn_beneath : (h.discardPairsOn p).beneath h := foldl_beneath (fun _ _ => ite_beneath discardPair_beneath .refl) _ .refl

/-! ### Links and ports that go down -/

theorem planSend_beneath {b : Bytes} {zero : Bool} (ps : List Nat) : ∀ {h : Hub}, (h.planSend b zero ps).beneath h := by
  induction ps with
  | nil => exact .refl
  | cons p ps ih => exact ih.trans blockOn_beneath

theorem sendCount_beneath : h.sendCount.beneath h := ite_beneath .refl (planSend_beneath _)

theorem countJudge_beneath {before : Hub} : (h.countJudge before).beneath h :=
  ite_beneath beneath_of_eq (sendCount_beneath.trans beneath_of_eq)

theorem pairSend_beneath {op epoch sf kind : Nat} : (h.pairSend p op epoch sf kind).beneath h :=
  ite_beneath (tally_beneath.trans (pairPut_beneath.trans emit_beneath)) .refl

theorem swapTell_beneath {ports : List Nat} {op epoch sf kind : Nat} : (h.swapTell ports op epoch sf kind).beneath h :=
  foldl_beneath (fun _ _ => ite_beneath pairSend_beneath .refl) _ .refl

theorem swapDecide_beneath : h.swapDecide.beneath h := by
  unfold swapDecide
  split
  · exact ite_beneath (swapTell_beneath.trans beneath_of_eq) .refl
  · exact .refl

theorem swapLose_beneath : (h.swapLose p).beneath h := by
  unfold swapLose
  split
  · exact ite_beneath (swapDecide_beneath.trans beneath_of_eq) .refl
  · exact .refl

theorem linkDrop_beneath {cause : Nat} : (h.linkDrop p cause).beneath h := by
  unfold linkDrop
  extract_lets x was cells h1 plan h2 h3 words h4 h5 h6 h7
  have h3c : h3.beneath h := countJudge_beneath.trans (fire_beneath.trans beneath_of_eq)
  have h4c : h4.beneath h := lampsLinkDown_beneath.trans (discardPairsOn_beneath.trans (tunLinkDown_beneath.trans (tally_beneath.trans
    (systemClose_beneath.trans (freeWords_beneath.trans h3c)))))
  have h6c : h6.beneath h := swapLose_beneath.trans (followDown_beneath.trans (fogOriginate_beneath.trans h4c))
  have h7c : h7.beneath h := ite_beneath (mirrorLost_beneath.trans h6c) h6c
  exact ite_beneath .refl (ite_beneath h3c (ite_beneath (withPair_beneath.trans h7c) h7c))

theorem linkAgain_beneath : (h.linkAgain p).beneath h := ite_beneath beneath_of_eq .refl

theorem linkDown_beneath {cause : Nat} : (h.linkDown p cause).beneath h := by
  unfold linkDown
  extract_lets h1 h2
  have h2c : h2.beneath h := ite_beneath (linkAgain_beneath.trans (linkDrop_beneath.trans linkDrop_beneath)) linkDrop_beneath
  exact ite_beneath h2c (linkAgain_beneath.trans h2c)

theorem linkPortGone_beneath : (h.linkPortGone p).beneath h := ite_beneath .refl linkDown_beneath

/-! ### The link of a port that steps (R133) -/

theorem fogCancel_beneath : (h.fogCancel p).beneath h := withLinks_beneath

theorem linkHold_beneath : (h.linkHold p).beneath h := by
  unfold linkHold
  extract_lets h1 h2
  have h1c : h1.beneath h := fire_beneath.trans updLink_beneath
  have h2c : h2.beneath h := swapLose_beneath.trans (followDown_beneath.trans (countJudge_beneath.trans (fogCancel_beneath.trans h1c)))
  exact ite_beneath (mirrorLost_beneath.trans h2c) h2c

theorem linkPortStepping_beneath : (h.linkPortStepping p).beneath h := by
  unfold linkPortStepping
  split
  · exact linkHold_beneath
  · exact linkDown_beneath
  · exact linkDown_beneath
  · exact .refl

end Operations
end Sys2Proof.Machine.Hub

/-!
SUPPORT. Ports and lanes (chapter 3): what an update of a lane or a port leaves to read, and what the shared operations do to them. A round
that fails, a step, a failure and a drop are read here once; the clauses of the statements then cite them.
-/

namespace Sys2Proof.Machine.Hub

set_option Elab.async false

section Operations

variable {h g : Hub} {p n m i : Nat} {own : Bool}

/-! ### Reading a port or a lane -/

theorem port_congr (hl : g.lanes = h.lanes) : g.port p = h.port p := by rw [port, hl, port]
theorem lane_congr (hl : g.lanes = h.lanes) : g.lane n = h.lane n := by rw [lane, hl, lane]

@[simp] theorem setLane_port {x : LaneSt} : (h.setLane n x).port p = h.port p := rfl
@[simp] theorem setPort_lane {x : PortSt} : (h.setPort p x).lane n = h.lane n := rfl
@[simp] theorem updLane_lane {f : LaneSt → LaneSt} : (h.updLane n f).lane n = f (h.lane n) := setLane_lane ..
@[simp] theorem updLane_port {f : LaneSt → LaneSt} : (h.updLane n f).port p = h.port p := rfl
@[simp] theorem updPort_port {f : PortSt → PortSt} : (h.updPort p f).port p = f (h.port p) := setPort_port ..
@[simp] theorem updPort_lane {f : PortSt → PortSt} : (h.updPort p f).lane n = h.lane n := rfl
@[simp] theorem emit_port {x : Out} : (h.emit x).port p = h.port p := rfl
@[simp] theorem emit_lane {x : Out} : (h.emit x).lane n = h.lane n := rfl
@[simp] theorem settle_port : h.settle.port p = h.port p := rfl
@[simp] theorem settle_lane : h.settle.lane n = h.lane n := rfl
@[simp] theorem keeperLeave_port {a : Access} : (h.keeperLeave a).port p = h.port p := rfl
@[simp] theorem keeperLeave_lane {a : Access} : (h.keeperLeave a).lane n = h.lane n := rfl

theorem lanePort_of_mem (hn : n ∈ portLanes p) (hp : p < 3) : lanePort n = p := by
  rcases show p = 0 ∨ p = 1 ∨ p = 2 by omega with rfl | rfl | rfl <;> fin_cases hn <;> rfl

/-! ### What is given to the outside -/

theorem gave_emit {x : Out} : (h.emit x).gave h x := ⟨[], [], rfl⟩

/-- The lines that settle take nothing back. -/
theorem gave.settled {x : Out} (hx : h.gave g x) : h.settle.gave g x := hx.mono settle_grows.out (List.suffix_refl _)

theorem laneSend_gave : (h.laneSend n).gave h (.laneBlock n (trainingBytes ((h.laneSend n).trainingBlock n)) 1) := gave_emit

/-- Where the three lines stand as the rules say, settling gives nothing out. -/
theorem settle_out_of_linesStand (hs : h.linesStand) : h.settle.out = h.out := by
  obtain ⟨evtN, irq, fault⟩ := hs
  have rings (k : Nat) : h.ringNotifies k = true ↔ ∃ c ∈ h.evt.rings.cells, c.2.notify = k ∧ c.2.used ≠ 0 := by
    simp [ringNotifies, Ring.nonEmpty]
  have evtNow : h.evt.evtN = !h.ringNotifies 2 := by
    rw [Bool.eq_iff_iff, evtN, Bool.not_eq_true', ← Bool.not_eq_true, rings]
    push Not
    rfl
  have irqNow : h.evt.keeperIrq = h.ringNotifies 3 := by rw [Bool.eq_iff_iff, irq, rings]
  have faultNow : h.mode.faultN = h.faultLow := by rw [Bool.eq_iff_iff, fault]; simp [faultLow, or_assoc]
  simp [settle, lineChange, ← evtNow, ← irqNow, ← faultNow]

/-! ### Operations beneath the ports -/

theorem updLane_beneath {f : LaneSt → LaneSt} : (h.updLane n f).beneath h := beneath_of_eq
theorem withPlan_beneath {x : PlanSt} : ({ h with plan := x } : Hub).beneath h := beneath_of_eq

theorem openSigned_foldl_keeps (ws : List Nat) : ∀ r : Hub × List Int,
    (ws.foldl (fun r w => ((r.1.openSigned w).1, r.2 ++ [(r.1.openSigned w).2])) r).1.keeps r.1 [.draws] := by
  induction ws with
  | nil => exact fun _ => .refl
  | cons w ws ih => exact fun r => (ih _).after (open_keeps (w := w))

theorem laneAdapt_beneath : (h.laneAdapt n).beneath h := by
  unfold laneAdapt
  extract_lets cfg taps h1
  have h1c : h1.beneath h := ite_beneath .refl (updLane_beneath.trans (openSigned_foldl_keeps _ (h, [])).beneath)
  exact ite_beneath .refl (ite_beneath (updLane_beneath.trans ((open_keeps (w := 4)).beneath.trans h1c)) h1c)

theorem dropBlocks_beneath {step : Bool} {next : Nat} : (h.dropBlocks n step next).beneath h := emit_beneath.trans wakeLane_beneath
theorem dropBlocks_calm {step : Bool} {next : Nat} : (h.dropBlocks n step next).calm h := emit_calm.trans wakeLane_calm

/-- The lanes of a port adapt and then rest (R86, R98). -/
theorem adaptRest_beneath : (h.forLanes p (fun h n => (h.laneAdapt n).updLane n (fun y => y.rest .idle))).beneath h :=
  foldl_beneath (fun _ _ => updLane_beneath.trans laneAdapt_beneath) _ .refl

theorem adaptRest_calm : (h.forLanes p (fun h n => (h.laneAdapt n).updLane n (fun y => y.rest .idle))).calm h :=
  foldl_calm (fun _ _ => updLane_calm.trans laneAdapt_calm) _ .refl

theorem demote_beneath {e k : Nat} : (h.demote e k i).beneath h :=
  ite_beneath (fire_beneath.trans ((flag_beneath).trans withPlan_beneath)) withPlan_beneath

theorem shedPlan_beneath {e k : Nat} (i : Nat) : ∀ h : Hub, (h.shedPlan e k i).beneath h := by
  induction i with
  | zero => exact fun _ => .refl
  | succ i ih =>
    refine fun h => ite_beneath .refl ?_
    split
    · exact .refl
    · exact (ih _).trans demote_beneath

theorem shed_beneath {e : Nat} (k : Nat) : (h.shed e k).beneath h := by
  induction k with
  | zero => exact .refl
  | succ k ih => exact (shedPlan_beneath _ _).trans ih

theorem setNominal_beneath {e kbit : Nat} : (h.setNominal e kbit).beneath h :=
  ite_beneath ((shed_beneath _).trans withPlan_beneath) (ite_beneath (withPlan_beneath.trans withPlan_beneath) withPlan_beneath)

theorem nakRaise_keeps : (h.nakRaise p).keeps h [.links] := ite_keeps .refl updLink_keeps

theorem linkLaneDrop_keeps : (h.linkLaneDrop p n).keeps h [.links] :=
  ite_keeps updLink_keeps (updLink_keeps.after (nakRaise_keeps.after updLink_keeps))

/-! ### A port steps (R98) -/

theorem linkHold_calm : (h.linkHold p).calm h := by
  unfold linkHold
  extract_lets h1 h2
  have h1c : h1.calm h := fire_calm.trans updLink_calm
  have h2c : h2.calm h := swapLose_calm.trans (followDown_calm.trans (countJudge_calm.trans (Hub.calm.trans withLinks_calm h1c)))
  exact ite_calm (mirrorLost_calm.trans h2c) h2c

theorem linkPortStepping_calm : (h.linkPortStepping p).calm h := by
  unfold linkPortStepping
  split
  · exact linkHold_calm
  · exact linkDown_calm
  · exact linkDown_calm
  · exact .refl

theorem stepInto_calm {rate : Nat} : (h.stepInto p rate).calm h :=
  linkPortStepping_calm.trans (adaptRest_calm.trans (updPort_calm.trans latchEntries_calm))

theorem stepOwn_calm {rate : Nat} {o : Option Nat} : (h.stepOwn p rate o).calm h :=
  stepInto_calm.trans (updPort_calm.trans (foldl_calm (fun _ _ => dropBlocks_calm) _ .refl))

/-- A port as it enters STEPPING, with the entries of R104 that come into force. -/
def steppingPort (h : Hub) (p rate : Nat) : PortSt :=
  { h.port p with
    leader := h.leaderAt p, floorInForce := h.val (Od.portRateFloor p), presetInForce := h.val (Od.portTxPresetInit p),
    leadInForce := h.val (Od.portLeadOverride p), state := .stepping, rate := min rate 2, inGap := true, roundTimer := false,
    firstRound := false, stepped := true, holdTimer := true }

theorem stepInto_port {rate : Nat} : (h.stepInto p rate).port p = h.steppingPort p rate := by
  rw [stepInto, (linkPortStepping_beneath.trans adaptRest_beneath).port, updPort_port, latchEntries, updPort_port, steppingPort]

theorem stepInto_patCtrl {rate : Nat} : (h.stepInto p rate).reg (Rg.patCtrl n) = h.reg (Rg.patCtrl n) :=
  (linkPortStepping_beneath.trans adaptRest_beneath).patCtrl n

/-- An end that steps on its own account: the port steps for the command that asks for it. -/
theorem stepOwn_port {rate : Nat} {o : Option Nat} (hr : rate < 3) :
    ((h.stepOwn p rate o).port p).state = .stepping ∧ ((h.stepOwn p rate o).port p).rate = rate ∧
      ((h.stepOwn p rate o).port p).command = o := by
  rw [stepOwn, stepInto_port, steppingPort, updPort_port]
  exact ⟨rfl, by simp; omega, rfl⟩

/-! ### A port fails (R86) -/

/-- What a port out of use is left with. -/
theorem portRest_port {st : PortState} {status : Nat} : (h.portRest p st status).port p =
    { h.port p with state := st, roundTimer := false, inGap := false, holdTimer := false, firstRound := false, stepped := false,
                    retryTimer := false, command := none } := by
  unfold portRest
  extract_lets x h1 h2
  have beneath : ((h2.setNominal p 0).doneOpt x.command status []).beneath h1 :=
    doneOpt_beneath.trans (setNominal_beneath.trans (linkPortGone_beneath.trans adaptRest_beneath))
  rw [beneath.port, setPort_port]

theorem portFail_port {cause : Nat} : (h.portFail p cause).port p =
    { h.port p with state := .failed, roundTimer := false, inGap := false, holdTimer := false, firstRound := false, stepped := false,
                    retryTimer := true, command := none, lastFail := cause } := by
  rw [portFail, fire_beneath.port, updPort_port, portRest_port]

/-! ### Rounds (R77, R78, R83) -/

theorem roundOver_of_unusable {fails : Hub → Hub} (none_ : ∀ n ∈ portLanes p, (h.lane n).usable = false) :
    h.roundOver p fails = fails h := by
  have usable : (portLanes p).filter (fun n => (h.lane n).usable) = [] := List.filter_eq_nil_iff.2 fun n hn => by simp [none_ n hn]
  rw [roundOver, usable]

theorem startRound_port : (h.startRound p).port p =
    { h.port p with inGap := false, signalSeen := false, roundFail := 0, roundTimer := !(h.port p).firstRound } := by
  unfold startRound
  extract_lets x h1
  have lanes : ∀ (g : Hub) (n : Nat), (if (g.lane n).state = .pattern then g
      else (g.updLane n (fun y => y.begin_ x.presetInForce (decide (x.floorInForce < x.rate)))).laneSend n).beneath g :=
    fun _ _ => ite_beneath .refl (emit_beneath.trans updLane_beneath)
  rw [forLanes, (foldl_beneath lanes _ (.refl (a := h1))).port, setPort_port]

/-- Signal starts the first round's timer and moves nothing else of the port (R77). -/
theorem roundSignal_port : (h.roundSignal p).port p = h.port p ∨
    (h.roundSignal p).port p = { h.port p with signalSeen := true, roundTimer := true, firstRound := false } := by
  unfold roundSignal
  extract_lets x
  split
  · exact .inr (setPort_port ..)
  · exact .inl rfl

theorem trainingBegin_port {stepped : Bool} {o : Option Nat} :
    ((h.trainingBegin p stepped o).port p).state = .training ∧ ((h.trainingBegin p stepped o).port p).rate = 0 ∧
      ((h.trainingBegin p stepped o).port p).retryTimer = false := by
  unfold trainingBegin
  extract_lets h0 h1
  obtain signal | signal := roundSignal_port (h := h1.startRound p) (p := p) <;>
    rw [signal, startRound_port, updPort_port] <;> exact ⟨rfl, rfl, rfl⟩

/-- In STEPPING no round follows once LINK_HOLD has ended (R98). -/
theorem roundFails_of_unheld (steps : (h.port p).state = .stepping) (unheld : (h.port p).holdTimer = false)
    (noGap : (h.port p).inGap = false) : h.roundFails p = h.portFail p 2 := by
  simp [roundFails, PortSt.trains, steps, unheld, noGap]

theorem trainLimit_of_unheld (steps : (h.port p).state = .stepping) (unheld : (h.port p).holdTimer = false)
    (noGap : (h.port p).inGap = false) (runs : (h.port p).roundTimer = true) (none_ : ∀ n ∈ portLanes p, (h.lane n).usable = false) :
    h.trainLimit p = h.portFail p 2 := by
  rw [trainLimit, if_pos ⟨by simp [PortSt.trains, steps], runs⟩, roundOver_of_unusable none_, roundFails_of_unheld steps unheld noGap]

/-! ### A lane is dropped (R95) -/

/-- An update of one lane that leaves its state alone leaves every lane's. -/
theorem updLane_state (f : LaneSt → LaneSt) (hf : ∀ x, (f x).state = x.state) : ((h.updLane n f).lane m).state = (h.lane m).state := by
  by_cases hm : m = n
  · subst hm
    rw [updLane_lane, hf]
  · rw [updLane, setLane_lane_ne _ _ _ _ hm]

theorem laneAdapt_state : ((h.laneAdapt n).lane m).state = (h.lane m).state := by
  unfold laneAdapt
  extract_lets cfg taps h1
  have drawn : taps.1.lanes = h.lanes := openSigned_foldl_keeps _ (h, []) .lanes (by decide)
  have adapted : (h1.lane m).state = (h.lane m).state := by
    unfold h1
    split
    · rfl
    · rw [updLane_state (fun x => { x with dfe := taps.2 }) fun _ => rfl, lane_congr drawn]
  generalize h1 = g at adapted ⊢
  split_ifs
  · rfl
  · rw [updLane_state (fun x => { x with ctle := (g.open_ 4).2 }) fun _ => rfl]
    exact adapted
  · exact adapted

theorem wakeLane_state : ((h.wakeLane n).lane m).state = (h.lane m).state := by
  rw [wakeLane]
  split
  · rw [laneBlocks, emit_lane, updLane_state (fun x => { x with txQuiet := false }) fun _ => rfl]
  · rfl

theorem dropBlocks_state {step : Bool} {next : Nat} : ((h.dropBlocks n step next).lane m).state = (h.lane m).state := by
  rw [dropBlocks, laneBlocks, emit_lane, wakeLane_state]

/-- A lane as its drop finds it: adapted, and the far end told where this end drops it. -/
def dropTold (h : Hub) (n : Nat) (own last : Bool) : Hub :=
  if own then (h.laneAdapt n).dropBlocks n last (if last then min ((h.port (lanePort n)).rate + 1) 2 else 0) else h.laneAdapt n

/-- What a drop says of the lane: a flag, a count, an event, the link's NAK. -/
def dropNoted (h : Hub) (n : Nat) : Hub :=
  (((h.flag (Rg.laneFlags n) 3).tally 0x0105 n 1).fire Ev.laneDropped (u8 n)).linkLaneDrop (lanePort n) n

/-- The drop of a lane but for what its port then does. -/
def dropAlone (h : Hub) (n : Nat) (own last : Bool) : Hub :=
  ((h.dropTold n own last).updLane n
    (fun x => { x.rest .dropped with rejoinTimer := (h.port (lanePort n)).leader && !last })).dropNoted n

/-- On the last lane in service the port steps, otherwise it loses a lane's rate (R95, R98). -/
theorem dropLane_eq (serves : (h.lane n).state = .inService) (linked : (h.port (lanePort n)).state = .linked) {last : Bool}
    (hl : decide ((h.lanesIn (lanePort n)).length ≤ 1) = last) : h.dropLane n own =
      if last then (h.dropAlone n own last).stepInto (lanePort n) (min ((h.port (lanePort n)).rate + 1) 2)
      else (h.dropAlone n own last).portNominal (lanePort n) := by
  subst hl
  rw [dropLane, if_neg (by simp [serves, linked])]
  rfl

theorem dropTold_state {last : Bool} : ((h.dropTold n own last).lane m).state = (h.lane m).state := by
  rw [dropTold]
  split
  · rw [dropBlocks_state, laneAdapt_state]
  · exact laneAdapt_state

theorem dropNoted_lanes : (h.dropNoted n).lanes = h.lanes := by
  have linkLane {g : Hub} : (g.linkLaneDrop (lanePort n) n).lanes = g.lanes := linkLaneDrop_keeps .lanes (by decide)
  rw [dropNoted, linkLane, fire_lanes, tally_lanes, flag_lanes]

theorem dropNoted_beneath : (h.dropNoted n).beneath h := by
  have flagged : (h.flag (Rg.laneFlags n) 3).beneath h := flag_beneath (by simp only [Rg.laneFlags]; omega)
  rw [dropNoted]
  exact linkLaneDrop_keeps.beneath.trans (fire_beneath.trans (tally_beneath.trans flagged))

theorem dropNoted_calm : (h.dropNoted n).calm h := by
  have flagged : (h.flag (Rg.laneFlags n) 3).calm h := flag_calm
  rw [dropNoted]
  exact linkLaneDrop_keeps.calm.trans (fire_calm.trans (tally_calm.trans flagged))

theorem dropAlone_state {last : Bool} (serves : (h.lane n).state = .inService) :
    ((h.dropAlone n own last).lane n).state = .dropped := by
  rw [dropAlone, lane_congr dropNoted_lanes, updLane_lane]
  simp [LaneSt.rest, dropTold_state, serves]

theorem dropAlone_beneath {last : Bool} : (h.dropAlone n own last).beneath h := by
  have told : (h.dropTold n own last).beneath h := ite_beneath (dropBlocks_beneath.trans laneAdapt_beneath) laneAdapt_beneath
  exact dropNoted_beneath.trans (updLane_beneath.trans told)

theorem dropAlone_calm {last : Bool} : (h.dropAlone n own last).calm h := by
  have told : (h.dropTold n own last).calm h := ite_calm (dropBlocks_calm.trans laneAdapt_calm) laneAdapt_calm
  exact dropNoted_calm.trans (updLane_calm.trans told)

/-- A lane in service of a LINKED port that has another one is DROPPED. -/
theorem dropLane_state (serves : (h.lane n).state = .inService) (linked : (h.port (lanePort n)).state = .linked)
    (two : 2 ≤ (h.lanesIn (lanePort n)).length) : ((h.dropLane n own).lane n).state = .dropped := by
  rw [dropLane_eq serves linked (decide_eq_false (by omega)), if_neg (by simp), lane_congr (portNominal_keeps .lanes (by decide))]
  exact dropAlone_state serves

theorem dropLane_calm : (h.dropLane n own).calm h := by
  by_cases acts : (h.lane n).state = .inService ∧ (h.port (lanePort n)).state = .linked
  · rw [dropLane_eq acts.1 acts.2 rfl]
    exact ite_calm (stepInto_calm.trans dropAlone_calm) (setNominal_calm.trans dropAlone_calm)
  · rw [dropLane, if_pos (by tauto)]
    exact .refl

theorem dropLane_patCtrl : (h.dropLane n own).reg (Rg.patCtrl m) = h.reg (Rg.patCtrl m) := by
  by_cases acts : (h.lane n).state = .inService ∧ (h.port (lanePort n)).state = .linked
  · rw [dropLane_eq acts.1 acts.2 rfl]
    split
    · exact stepInto_patCtrl.trans (dropAlone_beneath.patCtrl m)
    · exact (setNominal_beneath.trans dropAlone_beneath).patCtrl m
  · rw [dropLane, if_pos (by tauto)]

end Operations
end Sys2Proof.Machine.Hub

/-!
SUPPORT. Quiet, the retrain of a dropped lane, the port timers and the port commands (R86 to R98, R106), clause by clause: each command runs
one operation, and the operation's own lemma says what it leaves.
-/

namespace Sys2Proof.Machine

set_option Elab.async false

/-! ### The port commands as Keeper takes them -/

/-- A command that Keeper takes, as `completes_onCommand` has it; its checks and its effect find the lanes and the ports as they were. -/
theorem completes_onPortCommand {i : Instr} {s : State} {req : Path} {c code tag : Nat} {args : Bytes} {f : Hub → Hub} {P : Hub → Prop}
    (start : Hub → Hub) (ht : s.hub.takes req c code)
    (hf : ∀ g : Hub, g.lanes = s.hub.lanes → f g = g.issue req c code tag args none none start)
    (hP : ∀ (g : Hub) (a : Access), g.accepted s.hub req c code tag args → g.lanes = s.hub.lanes → P ((start g).keeperLeave a).settle)
    (hc : exec i s = onCommand code req c tag args f s := by rfl) (hl : args.length ≤ 252 := by simp) : Completes i s P := by
  obtain ⟨live, up, alone, known, free⟩ := ht
  obtain ⟨x, hx, served⟩ := s.hub.turn_alone (accessOf req (Od.cmdCommand c).key (some (u16 code ++ u16 tag ++ args))) f up alone
  let g0 : Hub := { s.hub with ctl := x }
  have short : lengthOr args none = none := by rw [lengthOr, if_neg (by omega), if_neg (by omega)]
  have free0 : (g0.chan c).state ≠ .running := by rwa [Hub.chan_congr (h := s.hub) hx]
  have started : f g0 = start ((g0.accept c code tag args).answer req 0 []) := by
    rw [hf g0 rfl, Hub.issue, Hub.withCode, if_pos (show g0.keeperUp = true from up), show g0.codeRefused req code = none from known, short]
    exact if_neg free0
  have accepted : ((g0.accept c code tag args).answer req 0 []).accepted s.hub req c code tag args :=
    ⟨by simp [g0], by simp [g0], Hub.accept_chan .., Hub.gave_answer.mono (List.suffix_refl _) (by simp [g0])⟩
  refine ⟨_, hc.trans (onHub_live _ _ live), ?_⟩
  rw [served, started]
  exact hP _ _ accepted (by simp [g0])

/-- Byte 4 of a port command names its port, byte 5 its lane (R106). -/
theorem field_port {p : Nat} {t : Bytes} (hp : p < 256) : field (BitVec.ofNat 8 p :: t) 0 1 = p := by
  simp [field, leNat]
  omega

theorem field_lane {k : Nat} {b : Byte} (hk : k < 256) : field [b, BitVec.ofNat 8 k] 1 1 = k := by
  simp [field, leNat]
  omega

namespace Hub

variable {h : Hub} {req : Path} {p k c tag n : Nat}

theorem lanesIn_congr {g : Hub} (hl : g.lanes = h.lanes) : g.lanesIn p = h.lanesIn p := by
  simp only [lanesIn, lane_congr hl]

theorem laneOf_congr {g : Hub} (hl : g.lanes = h.lanes) : g.laneOf p k = h.laneOf p k := by
  have logical (n : Nat) : g.laneLogical n = h.laneLogical n := by rw [laneLogical, lane_congr hl, laneLogical]
  simp only [laneOf, logical]

theorem atLeader_leads {f : Hub → Hub} (leads : (h.port p).leader = true) : h.atLeader p c f = f h := if_neg (by simp [leads])

theorem portStates_linked {alsoFailed : Bool} (linked : (h.port p).state = .linked) : firstState (h.portStates p alsoFailed) = none := by
  simp [firstState, portStates, PortSt.trains, linked]

/-- What PORT_RATE_STEP does at the leader (R106). -/
def rateStep (h : Hub) (p c : Nat) : Hub :=
  if 2 ≤ (h.port p).rate ∨ h.val (Od.portRateFloor p) ≤ (h.port p).rate then h.done c (abFailed 1) []
  else h.stepOwn p ((h.port p).rate + 1) (some c)

theorem cmdPortRetrain_linked {p : Fin 3} (linked : (h.port p).state = .linked) :
    h.cmdPortRetrain req c tag [BitVec.ofNat 8 p] = h.issue req c 0x0200 tag [BitVec.ofNat 8 p] none none
      (fun h => h.atLeader p c (fun h => h.portRetrain p (some c))) := by
  have named : ¬2 < p.val := by omega
  rw [cmdPortRetrain, field_port (by omega), portStates_linked linked]
  simp [firstAbort, argLen, named]

theorem cmdPortRateStep_linked {p : Fin 3} (linked : (h.port p).state = .linked) :
    h.cmdPortRateStep req c tag [BitVec.ofNat 8 p] = h.issue req c 0x0201 tag [BitVec.ofNat 8 p] none none
      (fun h => h.atLeader p c (fun h => h.rateStep p c)) := by
  have named : ¬2 < p.val := by omega
  rw [cmdPortRateStep, field_port (by omega), portStates_linked linked]
  simp [firstAbort, argLen, named, rateStep]

/-- A lane of a coupling port passes the argument checks of LANE_DROP and LANE_REJOIN. -/
theorem laneArgs_ok {p k : Fin 2} {t : List (Bool × Abort)} :
    firstAbort (laneArgs [BitVec.ofNat 8 p, BitVec.ofNat 8 k] ++ t) = firstAbort t := by
  have port : ¬2 < p.val := by omega
  have notPlk : p.val ≠ 2 := by omega
  have lane : ¬1 < k.val := by omega
  rw [laneArgs, field_port (by omega), field_lane (by omega)]
  simp [firstAbort, argLen, port, notPlk, lane]

theorem cmdLaneDrop_linked {p k : Fin 2} (linked : (h.port p).state = .linked) (lane : h.laneOf p k = some n)
    (two : (h.lanesIn p).length = 2) : h.cmdLaneDrop req c tag [BitVec.ofNat 8 p, BitVec.ofNat 8 k] =
      h.issue req c 0x0202 tag [BitVec.ofNat 8 p, BitVec.ofNat 8 k] none none
        (fun h => h.atLeader p c (fun h => (h.dropLane n true).done c 0 [])) := by
  have another : h.lanesIn p ≠ [n] := fun hn => by simp [hn] at two
  rw [cmdLaneDrop, field_port (by omega), field_lane (by omega), laneArgs_ok, lane]
  simp [firstAbort, firstState, linked, another]

theorem cmdLaneRejoin_linked {p k : Fin 2} (linked : (h.port p).state = .linked) (leads : (h.port p).leader = true)
    (lane : h.laneOf p k = some n) (still : (h.lane n).rejoining = false) :
    h.cmdLaneRejoin req c tag [BitVec.ofNat 8 p, BitVec.ofNat 8 k] =
      h.issue req c 0x0203 tag [BitVec.ofNat 8 p, BitVec.ofNat 8 k] none none
        (fun h => h.atLeader p c (fun h => (h.rejoinStart n).done c 0 [])) := by
  have args := laneArgs_ok (p := p) (k := k) (t := [])
  rw [List.append_nil] at args
  rw [cmdLaneRejoin, field_port (by omega), field_lane (by omega), args, lane]
  simp [firstAbort, firstState, linked, leads, still]

end Hub

section Clauses

variable {s : State} {l : Fin 5} {p : Fin 3} {req : Path} {c : Fin 8} {tag : BitVec 16}

/-! ### Quiet (R92, R93) -/

theorem quietEntry_completes (live : s.hub.live) (serves : (s.hub.lane l).state = .inService) (awake : (s.hub.lane l).txQuiet = false)
    (enabled : bit (s.hub.laneLogical l) (s.hub.val (Od.portQuietEnable (lanePort l))) = true) (ok : s.hub.quietOk l = true) :
    Completes (.quietEntry l) s fun h =>
      (h.lane l).txQuiet = true ∧ (h.lane l).state = .inService ∧
        h.gave s.hub (.laneBlock l (ctrlBlock 0xF1 (u8 (s.hub.laneLogical l) ++ u8 0)) 4) := by
  have enters : s.hub.quietEntry l = (s.hub.laneBlocks l 0xF1 0 4).updLane l (fun y => { y with txQuiet := true }) :=
    if_pos (by simp [serves, awake, enabled, ok])
  refine completes_onHub (fun h => h.quietEntry l) live ?_
  rw [enters]
  exact ⟨by simp, by simpa [Hub.laneBlocks] using serves, Hub.gave.settled Hub.gave_emit⟩

theorem quietEntryBlock_completes (live : s.hub.live) (serves : (s.hub.lane l).state = .inService) :
    Completes (.quietEntryBlock l true) s fun h => (h.lane l).rxQuiet = true ∧ (h.lane l).state = .inService :=
  completes_onHub (fun h => if !true then h.laneCrcBad l
    else if (h.lane l).state = .inService then h.updLane l (fun x => { x with rxQuiet := true }) else h) live (by simp [serves])

theorem quietExit_completes (live : s.hub.live) (quiet : (s.hub.lane l).txQuiet = true) :
    Completes (.quietExit l) s fun h => (h.lane l).txQuiet = false ∧
      h.gave s.hub (.laneBlock l (ctrlBlock 0xF2 (u8 (s.hub.laneLogical l) ++ u8 0)) (96 / 2 ^ (s.hub.port (lanePort l)).rate)) := by
  let woken := s.hub.updLane l (fun x => { x with txQuiet := false })
  have exits : s.hub.wakeLane l = woken.laneBlocks l 0xF2 0 (96 / 2 ^ (s.hub.port (lanePort l)).rate) := if_pos quiet
  have logical : woken.laneLogical l = s.hub.laneLogical l := by simp [Hub.laneLogical, woken]
  refine completes_onHub (fun h => h.wakeLane l) live ?_
  rw [exits, Hub.laneBlocks, logical]
  exact ⟨by simp [woken], Hub.gave.settled Hub.gave_emit⟩

theorem quietExitBlock_completes (live : s.hub.live) : Completes (.quietExitBlock l true) s fun h => (h.lane l).rxQuiet = false :=
  completes_onHub (fun h => if !true then h.laneCrcBad l else h.updLane l (fun x => { x with rxQuiet := false })) live (by simp)

/-! ### Rejoin (R96) -/

theorem Hub.rejoinStart_of_dropped {h : Hub} {n : Nat} (linked : (h.port (lanePort n)).state = .linked)
    (leads : (h.port (lanePort n)).leader = true) (dropped : (h.lane n).state = .dropped) : ∃ x : LaneSt,
      x.state = .locking ∧ x.rejoining = true ∧ h.rejoinStart n = (h.setLane n x).laneSend n :=
  ⟨{ (h.lane n).begin_ (h.port (lanePort n)).presetInForce false with rejoining := true }, rfl, rfl, if_pos ⟨linked, leads, dropped⟩⟩

theorem laneRejoinAttempt_completes (live : s.hub.live) (linked : (s.hub.port (lanePort l)).state = .linked)
    (leads : (s.hub.port (lanePort l)).leader = true) (dropped : (s.hub.lane l).state = .dropped)
    (timer : (s.hub.lane l).rejoinTimer = true) : Completes (.laneRejoinAttempt l) s fun h =>
      (h.lane l).state = .locking ∧ (h.lane l).rejoining = true ∧
        h.gave s.hub (.laneBlock l (trainingBytes (h.trainingBlock l)) 1) := by
  obtain ⟨x, locks, rejoins, starts⟩ := Hub.rejoinStart_of_dropped linked leads dropped
  refine completes_onHub _ live ?_
  simp only [timer, if_true, starts]
  exact ⟨by simpa [Hub.laneSend] using locks, by simpa [Hub.laneSend] using rejoins, Hub.laneSend_gave.settled⟩

theorem rejoinHoldExpiry_completes (live : s.hub.live) (linked : (s.hub.port (lanePort l)).state = .linked)
    (rejoins : (s.hub.lane l).rejoining = true) (hold : (s.hub.lane l).rejoinHold = true) (usable : (s.hub.lane l).usable = true)
    (few : (s.hub.lane l).goReceived < 16) : Completes (.rejoinHoldExpiry l) s fun h =>
      (h.lane l).goSent = true ∧ (h.lane l).rejoinHold = false ∧ (h.lane l).rejoining = true := by
  let g := (s.hub.setLane l { s.hub.lane l with rejoinHold := false, goSent := true }).laneSend l
  have lane : g.lane l = { s.hub.lane l with rejoinHold := false, goSent := true } := Hub.setLane_lane ..
  have waits : g.goCheck (lanePort l) l = g := by
    rw [Hub.goCheck, if_neg (by simp [g, Hub.laneSend, PortSt.trains, linked]), if_neg (by simp [lane]; omega)]
  have ends : s.hub.rejoinHoldEnd l = g := (if_pos ⟨rejoins, hold, usable⟩).trans waits
  refine completes_onHub (fun h => h.rejoinHoldEnd l) live ?_
  rw [ends, Hub.settle_lane, lane]
  exact ⟨rfl, rfl, rejoins⟩

/-! ### The timers of a port (R86, R98) -/

theorem portRetry_completes (live : s.hub.live) (failed : (s.hub.port p).state = .failed) (timer : (s.hub.port p).retryTimer = true)
    (period : s.hub.val (Od.portPortRetryPeriod p) ≠ 0) (ready : s.hub.trainReady p = true) : Completes (.portRetry p) s fun h =>
      (h.port p).state = .training ∧ (h.port p).rate = 0 ∧ (h.port p).retryTimer = false := by
  have retries : s.hub.portRetry p = s.hub.trainingBegin p false none := if_pos ⟨failed, timer, period, ready⟩
  refine completes_onHub (fun h => h.portRetry p) live ?_
  rw [retries]
  exact Hub.trainingBegin_port

theorem linkHoldExpiry_completes (live : s.hub.live) (steps : (s.hub.port p).state = .stepping) (hold : (s.hub.port p).holdTimer = true)
    (noGo : s.hub.portGoes p = false) (unusable : ∀ n ∈ portLanes p, (s.hub.lane n).usable = false) :
    Completes (.linkHoldExpiry p) s fun h =>
      (h.port p).state = .failed ∧ (h.port p).lastFail = 2 ∧ (h.port p).holdTimer = false := by
  let g := s.hub.updPort p (fun x => { x with holdTimer := false })
  have fails : s.hub.linkHoldEnd p = g.portFail p 2 := by
    rw [Hub.linkHoldEnd, if_neg (by simp [steps, hold])]
    exact (if_neg (show ¬g.portGoes p = true by rw [show g.portGoes p = false from noGo]; simp)).trans
      (Hub.roundOver_of_unusable (h := g) unusable)
  refine completes_onHub (fun h => h.linkHoldEnd p) live ?_
  rw [fails, Hub.settle_port, Hub.portFail_port]
  exact ⟨rfl, rfl, rfl⟩

/-! ### The port commands (R106, R107) -/

theorem portRetrain_completes (ht : s.hub.takes req c 0x0200) (linked : (s.hub.port p).state = .linked)
    (leads : (s.hub.port p).leader = true) : Completes (.portRetrain req c tag [BitVec.ofNat 8 p]) s fun h =>
      h.gave s.hub (.answer req 0 []) ∧ (h.port p).state = .stepping ∧ (h.port p).rate = 0 ∧ (h.port p).command = some c.val := by
  refine completes_onPortCommand (fun h => h.atLeader p c (fun h => h.portRetrain p (some c))) ht
    (fun _ same => Hub.cmdPortRetrain_linked (Hub.port_congr same ▸ linked)) fun g a accepted lanes => ?_
  have port : g.port p = s.hub.port p := Hub.port_congr lanes
  have steps : g.portRetrain p (some c) = g.stepOwn p 0 (some c) := by rw [Hub.portRetrain, port, linked]
  rw [Hub.atLeader_leads (port ▸ leads), steps]
  exact ⟨(accepted.gave.mono Hub.stepOwn_calm.out (List.suffix_refl _)).settled, Hub.stepOwn_port (by omega)⟩

theorem portRateStep_completes (ht : s.hub.takes req c 0x0201) (linked : (s.hub.port p).state = .linked)
    (leads : (s.hub.port p).leader = true) (fast : (s.hub.port p).rate < 2)
    (allowed : (s.hub.port p).rate < s.hub.val (Od.portRateFloor p)) : Completes (.portRateStep req c tag [BitVec.ofNat 8 p]) s fun h =>
      h.gave s.hub (.answer req 0 []) ∧ (h.port p).state = .stepping ∧ (h.port p).rate = (s.hub.port p).rate + 1 ∧
        (h.port p).command = some c.val := by
  refine completes_onPortCommand (fun h => h.atLeader p c (fun h => h.rateStep p c)) ht
    (fun _ same => Hub.cmdPortRateStep_linked (Hub.port_congr same ▸ linked)) fun g a accepted lanes => ?_
  have port : g.port p = s.hub.port p := Hub.port_congr lanes
  have steps : g.rateStep p c = g.stepOwn p ((s.hub.port p).rate + 1) (some c) := by
    rw [Hub.rateStep, port, Hub.val_congr accepted.od, if_neg (by omega)]
  rw [Hub.atLeader_leads (port ▸ leads), steps]
  exact ⟨(accepted.gave.mono Hub.stepOwn_calm.out (List.suffix_refl _)).settled, Hub.stepOwn_port (by omega)⟩

theorem laneDrop_completes {p k : Fin 2} {n : Nat} (ht : s.hub.takes req c 0x0202) (linked : (s.hub.port p).state = .linked)
    (leads : (s.hub.port p).leader = true) (lane : s.hub.laneOf p k = some n) (serves : (s.hub.lane n).state = .inService)
    (two : (s.hub.lanesIn p).length = 2) : Completes (.laneDrop req c tag [BitVec.ofNat 8 p, BitVec.ofNat 8 k]) s fun h =>
      h.gave s.hub (.answer req 0 []) ∧ (h.lane n).state = .dropped ∧ (h.chan c).state = .done := by
  have onPort : lanePort n = p := Hub.lanePort_of_mem (List.mem_of_find?_eq_some lane) (by omega)
  refine completes_onPortCommand (fun h => h.atLeader p c (fun h => (h.dropLane n true).done c 0 [])) ht
    (fun _ same => Hub.cmdLaneDrop_linked (Hub.port_congr same ▸ linked) (Hub.laneOf_congr same ▸ lane)
      (Hub.lanesIn_congr same ▸ two)) fun g a accepted lanes => ?_
  have port : g.port p = s.hub.port p := Hub.port_congr lanes
  have dropped : ((g.dropLane n true).lane n).state = .dropped := Hub.dropLane_state (by rwa [Hub.lane_congr lanes])
    (by rwa [onPort, port]) (by rw [onPort, Hub.lanesIn_congr lanes, two])
  have running : ((g.dropLane n true).chan c).state ≠ .idle := Hub.dropLane_calm.chan c (by simp [accepted.chan])
  have grows := Hub.dropLane_calm.out.trans (Hub.done_calm (h := g.dropLane n true) (c := c) (status := 0) (b := [])).out
  rw [Hub.atLeader_leads (port ▸ leads)]
  refine ⟨(accepted.gave.mono grows (List.suffix_refl _)).settled, ?_, Hub.done_chan c.isLt running⟩
  rw [Hub.settle_lane, Hub.keeperLeave_lane, Hub.lane_congr (Hub.done_lanes ..), dropped]

theorem laneRejoin_completes {p k : Fin 2} {n : Nat} (ht : s.hub.takes req c 0x0203) (linked : (s.hub.port p).state = .linked)
    (leads : (s.hub.port p).leader = true) (lane : s.hub.laneOf p k = some n) (dropped : (s.hub.lane n).state = .dropped)
    (still : (s.hub.lane n).rejoining = false) : Completes (.laneRejoin req c tag [BitVec.ofNat 8 p, BitVec.ofNat 8 k]) s fun h =>
      h.ended c 0x0203 tag.toNat 0 [] ∧ (h.lane n).state = .locking ∧ (h.lane n).rejoining = true := by
  have onPort : lanePort n = p := Hub.lanePort_of_mem (List.mem_of_find?_eq_some lane) (by omega)
  refine completes_onPortCommand (fun h => h.atLeader p c (fun h => (h.rejoinStart n).done c 0 [])) ht
    (fun _ same => Hub.cmdLaneRejoin_linked (Hub.port_congr same ▸ linked) (Hub.port_congr same ▸ leads)
      (Hub.laneOf_congr same ▸ lane) (Hub.lane_congr same ▸ still)) fun g a accepted lanes => ?_
  have port : g.port p = s.hub.port p := Hub.port_congr lanes
  obtain ⟨x, locks, rejoins, starts⟩ := Hub.rejoinStart_of_dropped (h := g) (n := n) (by rwa [onPort, port]) (by rwa [onPort, port])
    (by rwa [Hub.lane_congr lanes])
  have chan : ((g.setLane n x).laneSend n).chan c = ⟨.running, tag.toNat, 0x0203, _, []⟩ := accepted.chan
  have ended := ((g.setLane n x).laneSend n).finish_ended c 0 [] (by rw [chan])
  rw [chan] at ended
  rw [Hub.atLeader_leads (port ▸ leads), starts, Hub.done, if_pos c.isLt]
  refine ⟨ended, ?_⟩
  rw [Hub.settle_lane, Hub.keeperLeave_lane, Hub.lane_congr (Hub.finish_lanes ..), Hub.laneSend, Hub.emit_lane, Hub.setLane_lane]
  exact ⟨locks, rejoins⟩

end Clauses

/-- Settles O17: each clause runs one operation of a lane or a port; what a port that steps or fails does to its link writes no port. -/
theorem quietRejoinAndPortCommands : Obligations.QuietRejoinAndPortCommands := by
  refine ⟨?quietEntry, ?quietEntryBlock, ?quietExit, ?quietExitBlock, ?rejoinAttempt, ?rejoinHold, ?portRetry, ?linkHold, ?portRetrain,
    ?portRateStep, ?laneDrop, ?laneRejoin⟩
  case quietEntry => exact fun _ _ => quietEntry_completes
  case quietEntryBlock => exact fun _ _ => quietEntryBlock_completes
  case quietExit => exact fun _ _ => quietExit_completes
  case quietExitBlock => exact fun _ _ => quietExitBlock_completes
  case rejoinAttempt => exact fun _ _ => laneRejoinAttempt_completes
  case rejoinHold => exact fun _ _ => rejoinHoldExpiry_completes
  case portRetry => exact fun _ _ => portRetry_completes
  case linkHold => exact fun _ _ => linkHoldExpiry_completes
  case portRetrain => exact fun _ _ _ _ _ => portRetrain_completes
  case portRateStep => exact fun _ _ _ _ _ => portRateStep_completes
  case laneDrop => exact fun _ _ _ _ _ _ _ => laneDrop_completes
  case laneRejoin => exact fun _ _ _ _ _ _ _ => laneRejoin_completes

end Sys2Proof.Machine

/-!
SUPPORT. The pattern test (R99 to R102), clause by clause: PAT_CTRL, the lane that enters and leaves the test, the injection of errors, and
the checker's next bit.
-/

namespace Sys2Proof.Machine

set_option Elab.async false

/-! ### The bits of PAT_CTRL (R108) -/

/-- GEN_EN and CHK_EN lie side by side. -/
theorem bits_enables (w : Nat) : bits 4 3 w = 0 ↔ bit 3 w = false ∧ bit 4 w = false := by
  simp only [bits, bit, beq_eq_false_iff_ne]
  omega

theorem bit_clearBit_genEn (w : Nat) : bit 3 (clearBit 3 w) = false ∧ bit 4 (clearBit 3 w) = bit 4 w := by
  by_cases set : bit 3 w = true
  · rw [clearBit, if_pos set]
    simp only [bit, beq_iff_eq] at set
    refine ⟨?_, ?_⟩
    · simp only [bit, beq_eq_false_iff_ne]
      omega
    · simp only [bit, show (w - 2 ^ 3) / 2 ^ 4 = w / 2 ^ 4 by omega]
  · rw [clearBit, if_neg set]
    exact ⟨by simpa using set, rfl⟩

namespace Hub

variable {h : Hub} {n b : Nat} {v : Bool}

/-! ### Into the pattern test and out of it (R101) -/

/-- GEN_EN or CHK_EN of a lane written. -/
def putEnable (h : Hub) (n b : Nat) (v : Bool) : Hub :=
  h.putReg (Rg.patCtrl n) (if v then setBit b (h.reg (Rg.patCtrl n)) else clearBit b (h.reg (Rg.patCtrl n)))

theorem putEnable_patCtrl : (h.putEnable n b v).reg (Rg.patCtrl n) =
    if v then setBit b (h.reg (Rg.patCtrl n)) else clearBit b (h.reg (Rg.patCtrl n)) := reg_putReg ..

theorem patternEnable_outside (outside : h.mode.active ≠ .bench) : h.patternEnable n b v = h := if_pos outside

/-- In BENCH the write stands, and the lane follows it; the pattern given out changes neither. -/
theorem patternEnable_bench (bench : h.mode.active = .bench) :
    (h.patternEnable n b v).lane n = ((h.putEnable n b v).patternJudge n).lane n ∧
      (h.patternEnable n b v).reg (Rg.patCtrl n) = ((h.putEnable n b v).patternJudge n).reg (Rg.patCtrl n) := by
  rw [patternEnable, if_neg (by simp [bench])]
  extract_lets w h1
  have given : ∀ g : Hub, g = h1 ∨ g = h1.emit (.pattern n v (h1.patternSel n)) →
      g.lane n = h1.lane n ∧ g.reg (Rg.patCtrl n) = h1.reg (Rg.patCtrl n) := by
    rintro g (rfl | rfl) <;> exact ⟨rfl, rfl⟩
  exact given _ (by split <;> simp)

theorem patternJudge_patCtrl : (h.patternJudge n).reg (Rg.patCtrl n) = h.reg (Rg.patCtrl n) := by
  unfold patternJudge
  extract_lets on st
  split_ifs
  · exact dropLane_patCtrl
  · rfl
  · rfl

theorem patternJudge_on (on : bit 3 (h.reg (Rg.patCtrl n)) = true ∨ bit 4 (h.reg (Rg.patCtrl n)) = true) :
    ((h.patternJudge n).lane n).state = .pattern := by
  have enabled : bits 4 3 (h.reg (Rg.patCtrl n)) ≠ 0 := fun hz => by
    obtain ⟨gen, chk⟩ := (bits_enables _).1 hz
    simp [gen, chk] at on
  unfold patternJudge
  by_cases tests : (h.lane n).state = .pattern
  · simp [enabled, tests]
  · simp [enabled, tests]

theorem patternJudge_off (gen : bit 3 (h.reg (Rg.patCtrl n)) = false) (chk : bit 4 (h.reg (Rg.patCtrl n)) = false)
    (loop : h.loopOn n = false) (tests : (h.lane n).state = .pattern) :
    ((h.patternJudge n).lane n).state = .dropped ∧ ((h.patternJudge n).lane n).chkLock = false := by
  simp [patternJudge, (bits_enables _).2 ⟨gen, chk⟩, loop, tests]

/-! ### Injection (R102) -/

theorem patternInject_acts {count : Nat} (bench : h.mode.active = .bench)
    (free : (h.lane n).inject = 0 ∨ (h.lane n).injectEnd ≤ h.clock)
    (sends : bit 3 (h.reg (Rg.patCtrl n)) = true ∨ (h.lane n).state = .inService) : h.patternInject n count =
      (h.setLane n { h.lane n with inject := count, injectEnd := h.clock + bitTime (h.port (lanePort n)).rate count }).emit
        (.inverted n count) := if_pos ⟨bench, free, sends⟩

theorem patternInject_ignored {count : Nat}
    (idle : h.mode.active ≠ .bench ∨ ((h.lane n).inject ≠ 0 ∧ h.clock < (h.lane n).injectEnd)) : h.patternInject n count = h := by
  refine if_neg fun ⟨bench, free, _⟩ => ?_
  rcases idle with outside | ⟨some_, early⟩
  · exact outside bench
  · exact free.elim some_ (Nat.not_le.2 early)

/-! ### The checker (R100) -/

theorem checkBits_off {received : List Bool} (off : bit 4 (h.reg (Rg.patCtrl n)) = false) : h.checkBits n received = h :=
  if_neg (by simp [off])

theorem checkBits_one {x : Bool} (on : bit 4 (h.reg (Rg.patCtrl n)) = true) : (h.checkBits n [x]).lane n =
    if (h.lane n).chkLock then h.checkLocked n (h.lane n) x else h.checkSearch n (h.lane n) x := by
  rw [checkBits, if_pos on, setLane_lane]
  rfl

/-- The 128th right bit in a row of a PRBS locks the checker, unless the line has never changed. -/
theorem checkSearch_locks {x : LaneSt} {y : Bool} (prbs : h.patternSel n < 4)
    (filled : (prbsTaps (h.patternSel n)).1 ≤ x.checker.window.length) (run : 127 ≤ x.checker.run)
    (moves : true ∈ x.checker.window.take 30) (right : y = prbsNext (h.patternSel n) x.checker.window) :
    h.checkSearch n x y = { x with chkLock := true, checker := { Checker.init with window := (y :: x.checker.window).take 31 } } := by
  have changed : ((y :: x.checker.window).take 31).any id = true :=
    List.any_eq_true.2 ⟨true, by rw [List.take_succ_cons]; exact List.mem_cons_of_mem _ moves, rfl⟩
  unfold checkSearch
  extract_lets c sel user fits start r w
  rw [if_neg (by omega)]
  have counted : r = x.checker.run + 1 := if_pos ⟨filled, right⟩
  exact if_pos ⟨by omega, changed⟩

/-- The 16th error among the last 256 bits ends the lock; it counts. -/
theorem checkLocked_loses {x : LaneSt} {y : Bool} (prbs : h.patternSel n < 4) (many : 15 ≤ (x.checker.recent.take 255).count true)
    (wrong : y ≠ prbsNext (h.patternSel n) x.checker.window) :
    h.checkLocked n x y = { x.addErrors 1 with chkLock := false, checker := Checker.init } := by
  unfold checkLocked
  extract_lets c want recent z
  have pattern : want = prbsNext (h.patternSel n) x.checker.window := if_neg (by omega)
  have sixteen : 16 ≤ recent.count true := by
    have newest : recent = true :: x.checker.recent.take 255 := by simp [recent, pattern, wrong, c]
    rw [newest, List.count_cons_self]
    omega
  rw [if_pos sixteen, show z = x.addErrors 1 from if_neg (by rwa [pattern])]

end Hub

section Clauses

variable {s : State} {n : Fin 5}

theorem genEn_on_completes (live : s.hub.live) (bench : s.hub.mode.active = .bench) :
    Completes (.genEn n true) s fun h => (h.lane n).state = .pattern ∧ bit 3 (h.reg (Rg.patCtrl n)) = true := by
  obtain ⟨lane, reg⟩ := s.hub.patternEnable_bench (n := n) (b := 3) (v := true) bench
  have set : bit 3 ((s.hub.putEnable n 3 true).reg (Rg.patCtrl n)) = true := by rw [Hub.putEnable_patCtrl]; exact bit_setBit ..
  refine completes_onHub (fun h => h.patternEnable n 3 true) live ?_
  rw [Hub.settle_lane, lane, Hub.reg_congr (Hub.settle_regs _), reg, Hub.patternJudge_patCtrl]
  exact ⟨Hub.patternJudge_on (.inl set), set⟩

theorem chkEn_on_completes (live : s.hub.live) (bench : s.hub.mode.active = .bench) :
    Completes (.chkEn n true) s fun h => (h.lane n).state = .pattern ∧ bit 4 (h.reg (Rg.patCtrl n)) = true := by
  obtain ⟨lane, reg⟩ := s.hub.patternEnable_bench (n := n) (b := 4) (v := true) bench
  have set : bit 4 ((s.hub.putEnable n 4 true).reg (Rg.patCtrl n)) = true := by rw [Hub.putEnable_patCtrl]; exact bit_setBit ..
  refine completes_onHub (fun h => h.patternEnable n 4 true) live ?_
  rw [Hub.settle_lane, lane, Hub.reg_congr (Hub.settle_regs _), reg, Hub.patternJudge_patCtrl]
  exact ⟨Hub.patternJudge_on (.inr set), set⟩

theorem genEn_off_completes (live : s.hub.live) (bench : s.hub.mode.active = .bench) (tests : (s.hub.lane n).state = .pattern)
    (chk : bit 4 (s.hub.reg (Rg.patCtrl n)) = false) (loop : s.hub.loopOn n = false) : Completes (.genEn n false) s fun h =>
      (h.lane n).state = .dropped ∧ bit 3 (h.reg (Rg.patCtrl n)) = false ∧ (h.lane n).chkLock = false := by
  obtain ⟨lane, reg⟩ := s.hub.patternEnable_bench (n := n) (b := 3) (v := false) bench
  obtain ⟨cleared, kept⟩ := bit_clearBit_genEn (s.hub.reg (Rg.patCtrl n))
  have gen0 : bit 3 ((s.hub.putEnable n 3 false).reg (Rg.patCtrl n)) = false := by rw [Hub.putEnable_patCtrl]; exact cleared
  have chk0 : bit 4 ((s.hub.putEnable n 3 false).reg (Rg.patCtrl n)) = false := by rw [Hub.putEnable_patCtrl]; exact kept.trans chk
  obtain ⟨dropped, unlocked⟩ := Hub.patternJudge_off gen0 chk0 loop tests
  refine completes_onHub (fun h => h.patternEnable n 3 false) live ?_
  rw [Hub.settle_lane, lane, Hub.reg_congr (Hub.settle_regs _), reg, Hub.patternJudge_patCtrl]
  exact ⟨dropped, gen0, unlocked⟩

theorem genEn_outside_completes {v : Bool} (live : s.hub.live) (outside : s.hub.mode.active ≠ .bench) :
    Completes (.genEn n v) s fun h => h.lanes = s.hub.lanes ∧ h.regs = s.hub.regs :=
  completes_onHub (fun h => h.patternEnable n 3 v) live (by simp [Hub.patternEnable_outside outside])

theorem chkEn_outside_completes {v : Bool} (live : s.hub.live) (outside : s.hub.mode.active ≠ .bench) :
    Completes (.chkEn n v) s fun h => h.lanes = s.hub.lanes ∧ h.regs = s.hub.regs :=
  completes_onHub (fun h => h.patternEnable n 4 v) live (by simp [Hub.patternEnable_outside outside])

theorem patInject_completes {c : Instr} (count : Nat) (live : s.hub.live) (bench : s.hub.mode.active = .bench)
    (free : (s.hub.lane n).inject = 0 ∨ (s.hub.lane n).injectEnd ≤ s.hub.clock)
    (sends : bit 3 (s.hub.reg (Rg.patCtrl n)) = true ∨ (s.hub.lane n).state = .inService)
    (hc : exec c s = onHub (fun h => h.patternInject n count) s) : Completes c s fun h =>
      (h.lane n).inject = count ∧ (h.lane n).injectEnd = s.hub.clock + bitTime (s.hub.port (lanePort n)).rate count ∧
        h.regs = s.hub.regs ∧ h.gave s.hub (.inverted n count) := by
  refine completes_onHub (fun h => h.patternInject n count) live ?_ hc
  rw [Hub.patternInject_acts bench free sends]
  exact ⟨by simp, by simp, by simp, Hub.gave.settled Hub.gave_emit⟩

theorem patInjectBurst_ignored (live : s.hub.live)
    (idle : s.hub.mode.active ≠ .bench ∨ ((s.hub.lane n).inject ≠ 0 ∧ s.hub.clock < (s.hub.lane n).injectEnd))
    (stand : s.hub.linesStand) : Completes (.patInjectBurst n) s fun h =>
      h.lanes = s.hub.lanes ∧ h.regs = s.hub.regs ∧ h.out = s.hub.out := by
  refine completes_onHub (fun h => h.patternInject n (bits 13 8 (h.reg (Rg.patCtrl n)) + 1)) live ?_
  rw [Hub.patternInject_ignored idle]
  exact ⟨rfl, rfl, Hub.settle_out_of_linesStand stand⟩

theorem patErrcntRead_completes {received : List Bool} (live : s.hub.live) : Completes (.patErrcntRead n received) s fun h =>
    h.gave s.hub (.value ((s.hub.checkBits n received).lane n).errCount) ∧ (h.lane n).errCount = 0 ∧ (h.lane n).chkSat = false ∧
      (h.lane n).chkLock = ((s.hub.checkBits n received).lane n).chkLock := by
  have out : (s.hub.checkBits n received).out = s.hub.out := Hub.checkBits_keeps .out (by decide)
  refine completes_onHub (fun h => ((h.checkBits n received).updLane n (fun x => { x with errCount := 0, chkSat := false })).emit
    (.value ((h.checkBits n received).lane n).errCount)) live ⟨?_, by simp, by simp, by simp⟩
  exact (Hub.gave_emit.mono (List.suffix_refl _) (show s.hub.out <:+ Hub.out _ from out ▸ List.suffix_refl _)).settled

theorem patErrcntRead_off_completes {received : List Bool} (live : s.hub.live) (off : bit 4 (s.hub.reg (Rg.patCtrl n)) = false) :
    Completes (.patErrcntRead n received) s fun h =>
      h.gave s.hub (.value (s.hub.lane n).errCount) ∧ (h.lane n).errCount = 0 ∧ (h.lane n).chkLock = (s.hub.lane n).chkLock := by
  refine (patErrcntRead_completes live).mono fun h ⟨gave, zero, _, lock⟩ => ?_
  rw [Hub.checkBits_off off] at gave lock
  exact ⟨gave, zero, lock⟩

theorem checkerLock_completes {x : Bool} {y : LaneSt} {P : Hub → Prop} (live : s.hub.live) (on : bit 4 (s.hub.reg (Rg.patCtrl n)) = true)
    (next : (if (s.hub.lane n).chkLock then s.hub.checkLocked n (s.hub.lane n) x else s.hub.checkSearch n (s.hub.lane n) x) = y)
    (hP : ∀ h : Hub, h.lane n = y → P h) : Completes (.checkerLock n [] [x]) s P :=
  completes_onHub (fun h => h.checkBits n [x]) live (hP _ ((Hub.checkBits_one on).trans next))

end Clauses

/-- Settles O18: in BENCH the enables stand in PAT_CTRL, which no drop of a lane and no step of its port writes, and the lane follows
them. -/
theorem patternTestActsInBenchOnly : Obligations.PatternTestActsInBenchOnly := by
  refine ⟨?genOn, ?chkOn, ?genOff, ?genOutside, ?chkOutside, ?single, ?burst, ?burstIgnored, ?read, ?readOff, ?locks, ?loses⟩
  case genOn => exact fun _ _ => genEn_on_completes
  case chkOn => exact fun _ _ => chkEn_on_completes
  case genOff => exact fun _ _ => genEn_off_completes
  case genOutside => exact fun _ _ _ => genEn_outside_completes
  case chkOutside => exact fun _ _ _ => chkEn_outside_completes
  case single => exact fun _ _ live bench free sends => patInject_completes 1 live bench free sends rfl
  case burst =>
    intro s n live bench free sends
    refine (patInject_completes (bits 13 8 (s.hub.reg (Rg.patCtrl n)) + 1) live bench free sends ?_).mono
      fun h ⟨count, _, regs, gave⟩ => ⟨count, regs, gave⟩
    rw [onHub_live _ _ live]
    exact onHub_live (fun h => h.patternInject n (bits 13 8 (h.reg (Rg.patCtrl n)) + 1)) s live
  case burstIgnored => exact fun _ _ => patInjectBurst_ignored
  case read => exact fun _ _ _ => patErrcntRead_completes
  case readOff => exact fun _ _ _ => patErrcntRead_off_completes
  case locks =>
    intro s n x live on prbs unlocked filled run moves right
    refine checkerLock_completes live on (if_neg (by simp [unlocked])) fun h lane => ?_
    rw [lane, Hub.checkSearch_locks prbs filled run moves right]
    exact ⟨rfl, rfl, rfl⟩
  case loses =>
    intro s n x live on prbs locked many wrong
    refine checkerLock_completes live on (if_pos locked) fun h lane => ?_
    rw [lane, Hub.checkLocked_loses prbs many wrong, LaneSt.addErrors, if_pos locked]
    exact ⟨rfl, rfl, rfl⟩

end Sys2Proof.Machine

/-!
SUPPORT. Two states that the statements admit and their clauses miss: a port in STEPPING whose LINK_HOLD has ended (R98), and a lane in
service that still carries the mark of a retrain attempt (R96).
-/

namespace Sys2Proof.Machine

set_option Elab.async false

/-! ### STEPPING after LINK_HOLD (R83, R98) -/

/-- CPA in STEPPING at 12.5 Gbaud, which this hub leads, in a round whose timer runs; LINK_HOLD has ended, and no lane is usable. -/
def unheldPort : PortSt := { PortSt.init with state := .stepping, leader := true, roundTimer := true, holdTimer := false }

/-- A hub out of reset with that port. -/
def unheldHub : Hub :=
  { Hub.init with
    pwr := { Hub.init.pwr with bootPhase := .keeper }
    lanes := { ports := ⟨[(0, unheldPort)]⟩, lanes := ⟨[]⟩ } }

/-- Refutes O15: TRAIN_LIMIT at `unheldHub` fails the port, for no round follows once LINK_HOLD has ended (R98). The clause of the leader
asks only that the port is in training, which STEPPING without LINK_HOLD is. -/
theorem not_trainingStepsMoveALaneAndItsPort : ¬Obligations.TrainingStepsMoveALaneAndItsPort := by
  intro h
  obtain ⟨-, -, -, -, -, -, -, -, -, -, leaderSteps, -⟩ := h
  have unusable : ∀ n ∈ portLanes 0, (unheldHub.lane n).usable = false := by decide
  have failed : ((unheldHub.trainLimit 0).settle.port 0).state = .failed := by
    rw [Hub.settle_port, Hub.trainLimit_of_unheld rfl rfl rfl rfl unusable, Hub.portFail_port]
  have ends := leaderSteps ⟨unheldHub, []⟩ 0 rfl rfl rfl rfl rfl (by decide) unusable
  obtain ⟨-, -, -, steps⟩ := Completes.holds (f := fun h => h.trainLimit 0) ends rfl
  exact absurd (failed.symm.trans steps) (by decide)

/-! ### A lane in service that is marked as rejoining (R91, R96) -/

/-- A lane in service on which a retrain attempt runs and that is usable. No lane comes to this: a lane that goes into service ends its
attempt. The statement admits it, as it asks of the lane only that it is in service. -/
def rejoiningLane : LaneSt := { LaneSt.init with state := .inService, los := false, rejoining := true, rxReady := true, farReady := true }

/-- A hub out of reset whose CPA is LINKED on that lane and another one. -/
def rejoiningHub : Hub :=
  { Hub.init with
    pwr := { Hub.init.pwr with bootPhase := .keeper }
    lanes := { ports := ⟨[(0, { PortSt.init with state := .linked })]⟩
               lanes := ⟨[(0, rejoiningLane), (1, { LaneSt.init with state := .inService, los := false })]⟩ } }

/-- Loss of signal ends the attempt there, and LOS_SEEN stays clear. -/
theorem rejoiningHub_losSeen : bit 0 ((rejoiningHub.lossOfSignal 0).settle.reg (Rg.laneFlags 0)) = false := by decide +kernel

/-- Refutes O16: at `rejoiningHub` loss of signal makes the lane DROPPED as a failed retrain attempt (R96), without the flags of a drop. -/
theorem not_laneFailuresDropALaneInService : ¬Obligations.LaneFailuresDropALaneInService := by
  intro h
  obtain ⟨lossOfSignal, -⟩ := h
  have ends := lossOfSignal ⟨rejoiningHub, []⟩ 0 rfl rfl rfl rfl (by decide)
  obtain ⟨-, -, losSeen, -⟩ := Completes.holds (f := fun h => h.lossOfSignal 0) ends rfl
  exact Bool.false_ne_true (rejoiningHub_losSeen.symm.trans losSeen)

end Sys2Proof.Machine

/-!
SUPPORT. A state that the statement on bring-up admits and one of its clauses misses: a link in INIT whose SYSTEM tunnel is marked open
(R139).
-/

namespace Sys2Proof.Machine

set_option Elab.async false

/-! ### INIT with an open SYSTEM tunnel (R126, R139) -/

/-- A link in INIT with ACCEPT gone both ways, its SYSTEM tunnel marked open. No link comes to this: LINK_DOWN closes the tunnel, and only
RUNNING opens it. The statement admits it, as it asks nothing of the mark before the credit. -/
def openInitLink : LinkSt := { LinkSt.init with state := .init, acceptSent := true, acceptRcvd := true, sysOpen := true }

/-- A hub out of reset with that link and with domain 3, of Tenders 0 to 7, on. -/
def openInitHub : Hub :=
  { Hub.init with
    pwr := { Hub.init.pwr with bootPhase := .keeper, domains := ⟨[(3, { DomSt.init with state := .on })]⟩ }
    links := { Hub.init.links with links := ⟨[(0, openInitLink)]⟩ } }

/-- Refutes O20: at `openInitHub` the clause of the INIT credit says of the state before the credit that its SYSTEM tunnel is closed, and
no hypothesis of the clause gives that. -/
theorem not_bringUpExchangesPagesCreditsAndFogSignals : ¬Obligations.BringUpExchangesPagesCreditsAndFogSignals := by
  intro h
  obtain ⟨-, initCredit, -⟩ := h
  obtain ⟨-, -, -, closed, -⟩ := initCredit ⟨openInitHub, []⟩ 0 0 rfl rfl rfl rfl (by decide) rfl
  exact absurd closed (by decide)

end Sys2Proof.Machine

/-!
SUPPORT. Frames of the links, the tunnels, the plans, the engine and the switch: one lemma for each operation that the commands of O52
run, read off its definition, in the calculus of `Hub.keeps`.

`Elab.async` is off for the reason the frames give.
-/

namespace Sys2Proof.Machine.Hub

set_option Elab.async false

section Operations

variable {h : Hub} {l : List Part} {p n c i k e a : Nat}

/-! ### Fields of the hub replaced -/

theorem withClock_keeps {x : Nat} : ({ h with clock := x } : Hub).keeps h [.clock] := by intro q; cases q <;> simp [agrees]
theorem withOd_keeps {x : Tab Nat} : ({ h with od := x } : Hub).keeps h [.od] := by intro q; cases q <;> simp [agrees]
theorem withTun_keeps {x : TunSt} : ({ h with tun := x } : Hub).keeps h [.tun] := by intro q; cases q <;> simp [agrees]
theorem withSw_keeps {x : SwSt} : ({ h with sw := x } : Hub).keeps h [.sw] := by intro q; cases q <;> simp [agrees]
theorem withVid_keeps {x : VidSt} : ({ h with vid := x } : Hub).keeps h [.vid] := by intro q; cases q <;> simp [agrees]
theorem withPair_keeps {x : PairSt} : ({ h with pair := x } : Hub).keeps h [.pair] := by intro q; cases q <;> simp [agrees]
theorem withSec_keeps {x : SecSt} : ({ h with sec := x } : Hub).keeps h [.sec] := by intro q; cases q <;> simp [agrees]

theorem put_keeps {r : Entry} {v : Nat} : (h.put r v).keeps h [.od] := withOd_keeps
theorem bump_keeps {r : Entry} {w : Nat} : (h.bump r w n).keeps h [.od] := put_keeps
theorem tally_keeps {item inst : Nat} : (h.tally item inst k).keeps h [.od] := by intro q; cases q <;> simp [agrees]
theorem updCtx_keeps {f : Ctx → Ctx} : (h.updCtx i f).keeps h [.tun] := withTun_keeps
theorem setTender_keeps {x : Tender} : (h.setTender n x).keeps h [.eng] := withEng_keeps

/-! ### Groups, credits and fog signals (R114 to R119, R125, R132) -/

theorem takeAck_keeps : (h.takeAck p).1.keeps h [.regs, .links] :=
  ite_keeps (flag_keeps.after updLink_keeps.within) updLink_keeps.within

theorem groupOut_keeps {g : Group} : (h.groupOut p g).keeps h [.out, .regs, .lanes, .links] :=
  emit_keeps.after (takeAck_keeps.after wakeLane_keeps.within)

theorem groupClose_keeps : (h.groupClose p n).keeps h [.out, .od, .regs, .lanes, .links] := by
  unfold groupClose
  split
  · exact .refl
  · exact tally_keeps.after (groupOut_keeps.after updLink_keeps.within)

theorem blockOn_keeps {b : Bytes} : (h.blockOn p n b).keeps h [.out, .lanes] := emit_keeps.after wakeLane_keeps

theorem blockOut_keeps {b : Bytes} : (h.blockOut p b).keeps h [.out, .lanes] := blockOn_keeps

theorem idleSend_keeps : (h.idleSend p).keeps h [.out, .regs, .lanes, .links] := blockOut_keeps.after takeAck_keeps.within

theorem creditSend_keeps {init : Bool} : (h.creditSend p n init).keeps h [.out, .lanes, .links] :=
  blockOn_keeps.after updLink_keeps.within

theorem creditTurn_keeps : (h.creditTurn p).keeps h [.out, .lanes, .links] :=
  ite_keeps .refl (ite_keeps (ite_keeps creditSend_keeps .refl) (foldl_keeps (fun _ _ => creditSend_keeps) _ .refl))

theorem fogSend_keeps {f : FogSignal} (ports : List Nat) : ∀ h : Hub, (h.fogSend f ports).keeps h [.out, .lanes, .links] := by
  induction ports with
  | nil => exact fun _ => .refl
  | cons p t ih => exact fun h => (ih _).trans (withLinks_keeps.after (b := h.blockOut p _) blockOut_keeps.within)

theorem fogOriginate_keeps {cause detail : Nat} : (h.fogOriginate cause detail).keeps h [.out, .lanes, .links] :=
  (fogSend_keeps _ _).trans (withLinks_keeps.after (b := { h with links := _ }) withLinks_keeps.within)

theorem cmdFogSend_keeps {r : Path} {tag : Nat} {args : Bytes} :
    (h.cmdFogSend r c tag args).keeps h [.out, .ctl, .lanes, .links, .eng, .io] :=
  issue_keeps fun _ => finish_keeps.after fogOriginate_keeps.within

/-! ### Control blocks that arrive (R122) -/

theorem checked_keeps {crcOk : Bool} {f : Hub → Hub} (hf : (f h).keeps h l) (hl : [.regs, .links] ⊆ l := by decide) :
    (h.checked p crcOk f).keeps h l :=
  ite_keeps hf (flag_keeps.after (updLink_keeps.within (List.Subset.trans (by decide) hl)) (List.Subset.trans (by decide) hl))

theorem rxWake_keeps : (h.rxWake n).keeps h [.lanes] := ite_keeps updLane_keeps .refl

theorem rxWakeOn_keeps : (h.rxWakeOn p).keeps h [.lanes] := by
  refine ite_keeps ?_ .refl
  split
  · exact rxWake_keeps
  · exact .refl

theorem heard_keeps {crcOk : Bool} {f : Hub → Hub} (hf : ∀ h, (f h).keeps h l) (hl : [.regs, .lanes, .links] ⊆ l := by decide) :
    (h.heard p crcOk f).keeps h l :=
  checked_keeps ((hf _).trans (rxWakeOn_keeps.within (List.Subset.trans (by decide) hl))) (List.Subset.trans (by decide) hl)

/-! ### Plan blocks and plan switches (R196 to R205) -/

theorem planSend_keeps {b : Bytes} {zero : Bool} (ports : List Nat) : ∀ h : Hub, (h.planSend b zero ports).keeps h [.out, .lanes] := by
  induction ports with
  | nil => exact fun _ => .refl
  | cons p t ih => exact fun h => (ih _).trans blockOn_keeps

theorem planLate_keeps : h.planLate.keeps h [.od, .regs, .evt, .plan, .pwr] :=
  fire_keeps.after (flag_keeps.after withPlan_keeps.within)

theorem planArm_keeps {plan eff seq : Nat} : (h.planArm plan eff seq).keeps h [.od, .regs, .evt, .plan, .pwr] :=
  ite_keeps withPlan_keeps.within (planLate_keeps.after withPlan_keeps.within)

theorem planQueue_keeps {plan eff seq : Nat} : (h.planQueue plan eff seq).keeps h [.od, .regs, .evt, .plan, .pwr] :=
  ite_keeps planArm_keeps withPlan_keeps.within

theorem planAck_keeps {plan eff seq : Nat} : (h.planAck plan eff seq).keeps h [.out, .lanes] := by
  unfold planAck
  split
  · exact planSend_keeps _ _
  · exact .refl

theorem planBlock_keeps {kind active next pending seq eff origin : Nat} :
    (h.planBlock p kind active next pending seq eff origin).keeps h [.out, .od, .regs, .evt, .lanes, .plan, .pwr] := by
  unfold planBlock
  refine ite_keeps .refl ?_
  extract_lets before h1 fresh h2
  have h1k : h1.keeps h [.out, .od, .regs, .evt, .lanes, .plan, .pwr] := withPlan_keeps.within
  have h2k : h2.keeps h [.out, .od, .regs, .evt, .lanes, .plan, .pwr] :=
    ite_keeps (planAck_keeps.after (planQueue_keeps.after h1k)) h1k
  exact ite_keeps (ite_keeps ((planSend_keeps _ _).after h2k) h2k)
    (ite_keeps (ite_keeps (planAck_keeps.after (planArm_keeps.after h1k)) (withPlan_keeps.after h1k)) h1k)

theorem ackBlock_keeps {active next seq eff origin : Nat} : (h.ackBlock p active next seq eff origin).keeps h [.out, .lanes, .plan] := by
  refine ite_keeps .refl ?_
  split
  · exact (planSend_keeps _ _).within
  · split
    · exact ite_keeps withPlan_keeps.within .refl
    · exact .refl

theorem sendCount_keeps : h.sendCount.keeps h [.out, .lanes] := ite_keeps .refl (planSend_keeps _ _)

theorem countJudge_keeps {before : Hub} : (h.countJudge before).keeps h [.out, .lanes, .links] :=
  ite_keeps withLinks_keeps.within (sendCount_keeps.after withLinks_keeps.within)

theorem countBlock_keeps {hubs : Nat} : (h.countBlock p hubs).keeps h [.out, .lanes, .links, .plan] :=
  ite_keeps (countJudge_keeps.after withPlan_keeps.within) .refl

theorem announceRepeat_keeps : h.announceRepeat.keeps h [.out, .lanes, .plan] :=
  ite_keeps .refl ((planSend_keeps _ _).after withPlan_keeps.within)

theorem switchDemotions_keeps {old new : Nat} : (h.switchDemotions old new e).keeps h [.od, .regs, .evt, .pwr] :=
  foldl_keeps (fun _ _ => fire_keeps.after flag_keeps.within) _ (foldl_keeps (fun _ _ => fire_keeps.after flag_keeps.within) _ .refl)

theorem planEnter_keeps {new : Nat} : (h.planEnter new).keeps h [.od, .regs, .evt, .plan, .pwr] :=
  ite_keeps withPlan_keeps.within (foldl_keeps (fun _ _ => switchDemotions_keeps.within) _ withPlan_keeps.within)

theorem planNext_keeps : h.planNext.keeps h [.od, .regs, .evt, .plan, .pwr] := by
  unfold planNext
  split
  · exact withPlan_keeps.after (planArm_keeps.after withPlan_keeps.within)
  · exact .refl

theorem planSwitched_keeps : h.planSwitched.keeps h [.od, .regs, .ctl, .evt, .plan, .dm, .pwr] := by
  unfold planSwitched
  split
  · exact .refl
  · refine ite_keeps .refl ?_
    extract_lets old h1 acks bench short pl heard h2 h3
    have h1k : h1.keeps h [.od, .regs, .ctl, .evt, .plan, .dm, .pwr] := flag_keeps.after planEnter_keeps.within
    have h3k : h3.keeps h [.od, .regs, .ctl, .evt, .plan, .dm, .pwr] :=
      planNext_keeps.after (fire_keeps.after (withPlan_keeps.after h1k))
    split
    · exact h3k
    · exact done_keeps.after (ite_keeps (flag_keeps.after h3k) h3k)

theorem planStart_keeps {plan lead : Nat} :
    (h.planStart plan lead c).keeps h [.out, .od, .regs, .ctl, .evt, .lanes, .plan, .dm, .pwr] := by
  have armed {eff seq : Nat} {x : PlanSt} : ({ h.planArm plan eff seq with plan := x } : Hub).keeps h
      [.out, .od, .regs, .ctl, .evt, .lanes, .plan, .dm, .pwr] := withPlan_keeps.after (b := h.planArm plan eff seq) planArm_keeps.within
  exact ite_keeps done_keeps.within (ite_keeps armed ((planSend_keeps _ _).after armed))

theorem cmdPlanSwitch_keeps {r : Path} {tag : Nat} {args : Bytes} :
    (h.cmdPlanSwitch r c tag args).keeps h [.out, .od, .regs, .ctl, .evt, .lanes, .plan, .eng, .dm, .io, .pwr] :=
  issue_keeps fun _ => planStart_keeps.within

theorem cmdMeterColour_keeps {r : Path} {tag : Nat} {args : Bytes} :
    (h.cmdMeterColour r c tag args).keeps h [.out, .ctl, .plan, .eng, .io] :=
  issue_keeps fun _ => withPlan_keeps.within

theorem colourInForce_keeps : h.colourInForce.keeps h [.plan] := withPlan_keeps

theorem blindEnd_keeps {w : Nat} : (h.blindEnd w).keeps h [.plan] := by
  have ended {x : PlanSt} : ({ h with plan := x } : Hub).colourInForce.keeps h [.plan] := colourInForce_keeps.after withPlan_keeps
  refine ite_keeps ?_ (ite_keeps ?_ (ite_keeps ended .refl))
  · split
    · exact ite_keeps ended .refl
    · exact .refl
  · split
    · exact ite_keeps ended .refl
    · exact .refl

/-! ### Holds and accounts of the switch (R240 to R254) -/

theorem rtsUpdate_keeps {before : Hub} : (before.rtsUpdate h i).keeps h [.out] := ite_keeps emit_keeps .refl

theorem tallyHolds_keeps {before : Hub} : (before.tallyHolds h i).keeps h [.out, .od] :=
  foldl_keeps (fun _ _ => ite_keeps tally_keeps.within .refl) _ rtsUpdate_keeps.within

theorem pfcUpdate_keeps {before : Hub} : (before.pfcUpdate h i).keeps h [.out, .od, .sw] :=
  ite_keeps .refl (ite_keeps .refl (tally_keeps.after (emit_keeps.after withSw_keeps.within)))

theorem recheck_keeps : (h.recheck i c).keeps h [.out, .od, .sw] :=
  ite_keeps .refl (pfcUpdate_keeps.after (tallyHolds_keeps.after withSw_keeps.within))

theorem recheckPool_keeps : h.recheckPool.keeps h [.out, .od, .regs, .evt, .sw, .pwr] := by
  unfold recheckPool
  extract_lets low sw h1 h2
  have h2k : h2.keeps h [.out, .od, .regs, .evt, .sw, .pwr] :=
    foldl_keeps (fun _ _ => pfcUpdate_keeps.after tallyHolds_keeps.within) _ withSw_keeps.within
  exact ite_keeps .refl (ite_keeps (fire_keeps.after (flag_keeps.after h2k)) h2k)

theorem credited_keeps : (h.credited a n).keeps h [.links] := ite_keeps updLink_keeps .refl

theorem acctJudge_keeps : (h.acctJudge a).keeps h [.out, .od, .regs, .evt, .sw, .pwr] :=
  ite_keeps (recheckPool_keeps.after recheck_keeps.within) .refl

theorem uncharge_keeps : (h.uncharge a n).keeps h [.links, .sw] := credited_keeps.after withSw_keeps.within

theorem acctBy_keeps {enter : Bool} : (h.acctBy a n enter).keeps h [.out, .od, .regs, .evt, .links, .sw, .pwr] :=
  acctJudge_keeps.after (ite_keeps withSw_keeps.within uncharge_keeps.within)

theorem stageInBy_keeps {len : Nat} {enter : Bool} : (h.stageInBy i c len enter).keeps h [.out, .od, .sw] :=
  recheck_keeps.after withSw_keeps.within

theorem stageOutBy_keeps {len : Nat} {enter : Bool} : (h.stageOutBy e len enter).keeps h [.sw] := withSw_keeps

/-! ### Words of the protected memories (R259 to R264) -/

theorem eccWrite_keeps {region addr : Nat} : (h.eccWrite region addr).keeps h [.sw] := by
  dsimp only [eccWrite]
  split
  · exact withSw_keeps
  · exact ite_keeps .refl withSw_keeps

theorem takeInject_keeps {region : Nat} : (h.takeInject region).1.keeps h [.sw] := by
  unfold takeInject
  split
  · exact withSw_keeps
  · exact .refl

theorem freeDamaged_keeps {region addr : Nat} : (h.freeDamaged region addr n).keeps h [.sw] := ite_keeps .refl withSw_keeps

theorem wordAddr_keeps {region : Nat} : (h.wordAddr region).1.keeps h [.draws] := open_keeps (w := 32)

/-- A word freed with an error in it lies at an address that the model leaves free. -/
theorem freeDamaged_wordAddr_keeps {region : Nat} :
    ((h.wordAddr region).1.freeDamaged region (h.wordAddr region).2 n).keeps h [.draws, .sw] :=
  freeDamaged_keeps.after wordAddr_keeps.within

theorem eccCorrected_keeps {region : Nat} : (h.eccCorrected region).keeps h [.od, .regs, .evt, .sw, .pwr] := by
  dsimp only [eccCorrected]
  have counted {x : SwSt} {r : Entry} {w : Nat} : ((({ h with sw := x } : Hub).bump r w 1).tally 0x0507 region 1).keeps h
      [.od, .regs, .evt, .sw, .pwr] := tally_keeps.after (bump_keeps.after withSw_keeps.within)
  exact ite_keeps (fire_keeps.after (flag_keeps.after counted)) counted

theorem eccBad_keeps {reader region addr : Nat} : (h.eccBad reader region addr).keeps h [.od, .regs, .evt, .sw, .pwr] :=
  fire_keeps.after (flag_keeps.after (tally_keeps.after (bump_keeps.after withSw_keeps.within)))

theorem eccBad_wordAddr_keeps {reader region : Nat} :
    ((h.wordAddr region).1.eccBad reader region (h.wordAddr region).2).keeps h [.draws, .od, .regs, .evt, .sw, .pwr] :=
  eccBad_keeps.after wordAddr_keeps.within

theorem eccRead_keeps {reader region addr : Nat} : (h.eccRead reader region addr).1.keeps h [.od, .regs, .evt, .sw, .pwr] := by
  unfold eccRead
  split
  · exact .refl
  · dsimp only
    split
    · dsimp only
      exact eccCorrected_keeps.after withSw_keeps.within
    · dsimp only
      exact eccBad_keeps

theorem freeWords_keeps {cells : List BufCell} :
    (h.freeWords cells).keeps h [.draws, .out, .od, .regs, .evt, .links, .sw, .pwr] := by
  refine foldl_keeps (fun h x => ?_) _ .refl
  extract_lets h1
  have h1k : h1.keeps h [.draws, .out, .od, .regs, .evt, .links, .sw, .pwr] := by
    unfold h1
    split
    · exact acctBy_keeps.within
    · exact .refl
  exact ite_keeps h1k (freeDamaged_wordAddr_keeps.after h1k)

/-! ### Jobs (R214 to R224) -/

theorem stageLeave_keeps {j : Job} : (h.stageLeave j).keeps h [.draws, .out, .od, .sw] := by
  unfold stageLeave
  extract_lets h1
  have h1k : h1.keeps h [.draws, .out, .od, .sw] := ite_keeps .refl stageInBy_keeps.within
  exact ite_keeps h1k (freeDamaged_wordAddr_keeps.after h1k)

theorem freeJob_keeps {j : Job} {committed : Bool} :
    (h.freeJob j committed).keeps h [.draws, .out, .od, .regs, .evt, .links, .sw, .pwr] :=
  ite_keeps (ite_keeps stageLeave_keeps.within (acctBy_keeps.after stageLeave_keeps.within))
    (ite_keeps freeWords_keeps (stageOutBy_keeps.after freeWords_keeps))

theorem discardJob_keeps {j : Job} :
    (h.discardJob j).keeps h [.draws, .out, .od, .regs, .evt, .links, .tun, .eng, .sw, .pwr] := by
  have off : ((h.freeJob j false).barrierOff j).keeps h [.draws, .out, .od, .regs, .evt, .links, .tun, .eng, .sw, .pwr] :=
    withEng_keeps.after (b := h.freeJob j false) freeJob_keeps.within
  exact ite_keeps (updCtx_keeps.after off) off

theorem finishJob_keeps : (h.finishJob n).keeps h [.draws, .out, .od, .regs, .evt, .links, .tun, .eng, .sw, .pwr] := by
  dsimp only [finishJob]
  split
  · exact .refl
  · exact ite_keeps (discardJob_keeps.after setTender_keeps.within) setTender_keeps.within

/-! ### The mirror of the pair (R450) -/

theorem pairPut_keeps {op : Byte} {b : Bytes} : (h.pairPut p op b).keeps h [.draws, .eng] := sysPut_keeps.after open_keeps.within

theorem mirrorNote_keeps {r : MirrorRec} : (h.mirrorNote r).keeps h [.draws, .out, .od, .eng, .pair] :=
  ite_keeps .refl (tally_keeps.after (pairPut_keeps.after (emit_keeps.after withPair_keeps.within)))

theorem mirrorCtx_keeps : (h.mirrorCtx i).keeps h [.draws, .out, .od, .eng, .pair] := mirrorNote_keeps

theorem doneMirrored_keeps {o : Option Nat} {status : Nat} {b : Bytes} :
    (h.doneMirrored o status b).keeps h [.od, .regs, .ctl, .evt, .dm, .pair, .pwr] := by
  cases o
  · exact .refl
  · exact ite_keeps withPair_keeps.within done_keeps.within

/-! ### Tunnel messages and contexts (R142 to R175) -/

theorem tunOut_keeps {m : TunMsg} : (h.tunOut p m).keeps h [.out, .eng] := ite_keeps (sysPut_keeps.after emit_keeps.within) .refl

theorem tunSend_keeps {toResp : Bool} {op : TunOp} : (h.tunSend i toResp op).keeps h [.draws, .out, .eng] :=
  tunOut_keeps.after open_keeps.within

theorem tunForward_keeps {toResp : Bool} {m : TunMsg} : (h.tunForward i toResp m).keeps h [.out, .eng] := tunOut_keeps

theorem tunUnmatched_keeps : h.tunUnmatched.keeps h [.tun] := withTun_keeps

theorem tunEvent_keeps {src : Nat} {st : TunState} : (h.tunEvent src i st).keeps h [.od, .regs, .evt, .pwr] := fire_keeps

theorem setTunState_keeps {st : TunState} : (h.setTunState i st).keeps h [.tun, .sw] :=
  eccWrite_keeps.after (eccWrite_keeps.after updCtx_keeps.within)

theorem advanceGen_keeps : (h.advanceGen i).keeps h [.tun] := withTun_keeps

theorem writeMap_keeps {far : Nat} : (h.writeMap p far i).keeps h [.tun] := ite_keeps withTun_keeps .refl

theorem takeRates_keeps {responder send recv : Bool} (rates : List (Nat × Nat)) :
    ∀ (k : Nat) (h : Hub), (h.takeRates i responder send recv k rates).keeps h [.od] := by
  induction rates with
  | nil => exact fun _ _ => .refl
  | cons r t ih =>
    exact fun k h => (ih _ _).trans (ite_keeps (put_keeps.trans (put_keeps.trans (put_keeps.trans (put_keeps.trans put_keeps))))
      (put_keeps.trans put_keeps))

theorem openerPlan_keeps (k : Nat) : (h.openerPlan i k).keeps h [.od] := by
  induction k with
  | zero => exact .refl
  | succ k ih => exact put_keeps.trans (put_keeps.trans (put_keeps.trans (put_keeps.trans (put_keeps.trans ih))))

theorem placed_keeps {x : Ctx} : (((h.advanceGen i).setCtx i x).dropDeferred i).keeps h [.tun, .plan] :=
  withPlan_keeps.after (b := (h.advanceGen i).setCtx i x) (withTun_keeps.after (b := h.advanceGen i) advanceGen_keeps.within)

theorem createCtx_keeps {args : Bytes} : (h.createCtx i args).keeps h [.draws, .out, .od, .tun, .plan, .eng, .pair] :=
  mirrorCtx_keeps.after ((openerPlan_keeps _).after placed_keeps.within)

theorem cmdTunnelCreate_keeps {r : Path} {tag : Nat} {args : Bytes} :
    (h.cmdTunnelCreate r c tag args).keeps h [.draws, .out, .od, .regs, .ctl, .evt, .tun, .plan, .eng, .dm, .io, .pair, .pwr] := by
  refine issue_keeps fun h => ?_
  split
  · exact finish_keeps.within
  · exact doneMirrored_keeps.after createCtx_keeps.within

theorem clsReclass_keeps {hd cls : Nat} (entries : List (Nat × ClsEntry)) : ∀ h : Hub, (h.clsReclass hd cls entries).keeps h [.sw] := by
  induction entries with
  | nil => exact fun _ => .refl
  | cons x t ih => exact fun h => (ih _).trans (ite_keeps withSw_keeps .refl)

theorem settleClass_keeps : (h.settleClass i).keeps h [.draws, .out, .od, .tun, .eng, .sw, .pair] := by
  unfold settleClass
  extract_lets x
  split
  · exact .refl
  · exact ite_keeps (mirrorCtx_keeps.after ((clsReclass_keeps _ _).after updCtx_keeps.within)) .refl

theorem applyModify_keeps {cls seg : Nat} : (h.applyModify i cls seg).keeps h [.draws, .out, .od, .tun, .eng, .sw, .pair] :=
  settleClass_keeps.after updCtx_keeps.within

theorem modifyStart_keeps {args : Bytes} :
    (h.modifyStart i args c).keeps h [.draws, .out, .od, .regs, .ctl, .evt, .tun, .eng, .sw, .dm, .pair, .pwr] := by
  unfold modifyStart
  extract_lets x cls seg h1 h2 h3
  have h1k : h1.keeps h [.draws, .out, .od, .regs, .ctl, .evt, .tun, .eng, .sw, .dm, .pair, .pwr] := updCtx_keeps.within
  have h2k : h2.keeps h [.draws, .out, .od, .regs, .ctl, .evt, .tun, .eng, .sw, .dm, .pair, .pwr] :=
    (clsReclass_keeps _ _).after (updCtx_keeps.after h1k)
  have h3k : h3.keeps h [.draws, .out, .od, .regs, .ctl, .evt, .tun, .eng, .sw, .dm, .pair, .pwr] := updCtx_keeps.after h1k
  exact ite_keeps (doneMirrored_keeps.after (mirrorCtx_keeps.after h1k)) (ite_keeps (doneMirrored_keeps.after (mirrorCtx_keeps.after h2k))
    (mirrorCtx_keeps.after (tunSend_keeps.after (applyModify_keeps.after h3k))))

theorem cmdTunnelModify_keeps {r : Path} {tag : Nat} {args : Bytes} :
    (h.cmdTunnelModify r c tag args).keeps h [.draws, .out, .od, .regs, .ctl, .evt, .tun, .eng, .sw, .dm, .io, .pair, .pwr] :=
  issue_keeps fun _ => modifyStart_keeps.within

theorem openRefuse_keeps {m : TunMsg} {status : Nat} : (h.openRefuse p m status).keeps h [.out, .eng] := tunOut_keeps

theorem startTunnel_keeps : (h.startTunnel i).keeps h [.tun, .sw] := setTunState_keeps.after updCtx_keeps.within

theorem admitted_keeps : (h.admitted i).keeps h [.plan] := withPlan_keeps

theorem giveHome_keeps {key but : Nat} : (h.giveHome key but).keeps h [.eng] := withEng_keeps

theorem startDirections_keeps : (h.startDirections i).keeps h [.eng] :=
  ite_keeps withEng_keeps (giveHome_keeps.trans (giveHome_keeps.trans withEng_keeps))

theorem relayPlace_keeps {x : Ctx} {q : OpenReq} : (h.relayPlace p i x q).keeps h [.od, .tun, .plan] :=
  ite_keeps ((takeRates_keeps _ _ _).after placed_keeps.within) ((takeRates_keeps _ _ _).after placed_keeps.within)

theorem answerPlace_keeps {x : Ctx} {q : OpenReq} : (h.answerPlace i x q).keeps h [.od, .tun, .plan] :=
  (takeRates_keeps _ _ _).after placed_keeps.within

theorem openRelay_keeps {m : TunMsg} {q : OpenReq} :
    (h.openRelay p m q).keeps h [.draws, .out, .od, .tun, .plan, .eng, .sw, .pair] := by
  unfold openRelay
  split
  · exact openRefuse_keeps.within
  · exact openRefuse_keeps.within
  · exact openRefuse_keeps.within
  · exact ite_keeps openRefuse_keeps.within (ite_keeps openRefuse_keeps.within (tunForward_keeps.after (mirrorCtx_keeps.after
      (writeMap_keeps.after (admitted_keeps.after (startTunnel_keeps.after relayPlace_keeps.within))))))

theorem openAnswer_keeps {m : TunMsg} {q : OpenReq} :
    (h.openAnswer p m q).keeps h [.draws, .out, .od, .tun, .plan, .eng, .sw, .pair] := by
  unfold openAnswer
  split
  · exact openRefuse_keeps.within
  · exact openRefuse_keeps.within
  next i _ _ =>
    refine ite_keeps openRefuse_keeps.within (ite_keeps openRefuse_keeps.within ?_)
    extract_lets h2 h3 h4 h5
    have h4k : h4.keeps h [.draws, .out, .od, .tun, .plan, .eng, .sw, .pair] :=
      writeMap_keeps.after (admitted_keeps.after (startDirections_keeps.after (updCtx_keeps.after
        (startTunnel_keeps.after answerPlace_keeps.within))))
    exact ite_keeps openRefuse_keeps.within (mirrorCtx_keeps.after (tunSend_keeps.after (ite_keeps (put_keeps.after h4k) h4k)))

theorem openReq_keeps {m : TunMsg} : (h.openReq p m).keeps h [.draws, .out, .od, .tun, .plan, .eng, .sw, .pair] := by
  unfold openReq
  split
  · exact ite_keeps openRelay_keeps openAnswer_keeps
  · exact tunUnmatched_keeps.within

theorem safetyRestart_keeps : (h.safetyRestart i).keeps h [.od, .tun] :=
  updCtx_keeps.after (put_keeps.after (put_keeps.after put_keeps.within))

theorem csiRestart_keeps : (h.csiRestart i).keeps h [.vid] := ite_keeps withVid_keeps .refl

theorem fillMeter_keeps : (h.fillMeter i).keeps h [.plan] := withPlan_keeps

theorem enterOpen_keeps :
    (h.enterOpen i).keeps h [.draws, .out, .od, .regs, .evt, .tun, .plan, .eng, .sw, .vid, .pair, .pwr] := by
  unfold enterOpen
  extract_lets x h1 h2 h3
  have h1k : h1.keeps h [.draws, .out, .od, .regs, .evt, .tun, .plan, .eng, .sw, .vid, .pair, .pwr] :=
    setTunState_keeps.after updCtx_keeps.within
  have h2k : h2.keeps h [.draws, .out, .od, .regs, .evt, .tun, .plan, .eng, .sw, .vid, .pair, .pwr] :=
    ite_keeps h1k (fillMeter_keeps.after h1k)
  have h3k : h3.keeps h [.draws, .out, .od, .regs, .evt, .tun, .plan, .eng, .sw, .vid, .pair, .pwr] :=
    ite_keeps (safetyRestart_keeps.after h2k) (ite_keeps (csiRestart_keeps.after h2k) h2k)
  exact mirrorCtx_keeps.after (tunEvent_keeps.after h3k)

theorem openConfirm_keeps {m : TunMsg} :
    (h.openConfirm p m).keeps h [.draws, .out, .od, .regs, .evt, .tun, .plan, .eng, .sw, .vid, .pair, .pwr] := by
  unfold openConfirm
  split
  · exact tunUnmatched_keeps.within
  · exact ite_keeps tunUnmatched_keeps.within (ite_keeps (tunForward_keeps.after enterOpen_keeps) enterOpen_keeps)

theorem modifyReq_keeps {m : TunMsg} {cls seg : Nat} :
    (h.modifyReq p m cls seg).keeps h [.draws, .out, .od, .tun, .eng, .sw, .pair] := by
  unfold modifyReq
  split
  · exact tunUnmatched_keeps.within
  next i _ =>
    have modified : ((h.applyModify i cls seg).mirrorCtx i).keeps h [.draws, .out, .od, .tun, .eng, .sw, .pair] :=
      mirrorCtx_keeps.after applyModify_keeps
    exact ite_keeps tunUnmatched_keeps.within
      (ite_keeps (tunForward_keeps.after modified) (tunSend_keeps.after (updCtx_keeps.after modified)))

theorem modifyAck_keeps {m : TunMsg} :
    (h.modifyAck p m).keeps h [.out, .od, .regs, .ctl, .evt, .tun, .eng, .dm, .pair, .pwr] := by
  unfold modifyAck
  split
  · exact tunUnmatched_keeps.within
  · exact ite_keeps tunUnmatched_keeps.within (ite_keeps (tunForward_keeps.after updCtx_keeps.within)
      (ite_keeps tunUnmatched_keeps.within (doneMirrored_keeps.after (updCtx_keeps.after updCtx_keeps.within))))

theorem mirrorStale_keeps {hd : Nat} : (h.mirrorStale hd).keeps h [.od, .regs, .evt, .pwr] :=
  foldl_keeps (fun _ _ => ite_keeps (fire_keeps.after (flag_keeps.after put_keeps.within)) .refl) _ .refl

theorem unadmit_keeps : (h.unadmit i).keeps h [.plan] := withPlan_keeps

theorem clearMap_keeps : (h.clearMap i).keeps h [.tun] := withTun_keeps

theorem dropHomes_keeps : (h.dropHomes i).keeps h [.eng] := withEng_keeps

theorem freeCtx_keeps :
    (h.freeCtx i).keeps h [.draws, .out, .od, .regs, .evt, .tun, .plan, .eng, .sw, .pair, .sec, .pwr] := by
  unfold freeCtx
  extract_lets x h1 h2 hd sec h3
  have h1k : h1.keeps h [.draws, .out, .od, .regs, .evt, .tun, .plan, .eng, .sw, .pair, .sec, .pwr] :=
    ite_keeps .refl tunEvent_keeps.within
  have h3k : h3.keeps h [.draws, .out, .od, .regs, .evt, .tun, .plan, .eng, .sw, .pair, .sec, .pwr] :=
    withSec_keeps.after (b := h2) (dropHomes_keeps.after (unadmit_keeps.after (clearMap_keeps.after h1k)))
  have pruned : ((h3.setCtx i Ctx.init).eccWrite 3 i).prunePairs.keeps h
      [.draws, .out, .od, .regs, .evt, .tun, .plan, .eng, .sw, .pair, .sec, .pwr] :=
    withSec_keeps.after (b := (h3.setCtx i Ctx.init).eccWrite 3 i) (eccWrite_keeps.after (withTun_keeps.after h3k))
  exact mirrorCtx_keeps.after (mirrorStale_keeps.after pruned)

/-! ### Barriers, the fence and the reload (R226 to R232) -/

theorem keepUse_keeps {u : BarrierUse} : (h.keepUse u).keeps h [.eng] := withEng_keeps

theorem keepDrop_keeps {keep : BarrierUse → Bool} : (h.keepDrop keep).keeps h [.eng] := withEng_keeps

theorem armBarrier_keeps : h.armBarrier.keeps h [.eng] := ite_keeps .refl withEng_keeps

theorem cmdEngineBarrier_keeps {r : Path} {tag : Nat} {args : Bytes} :
    (h.cmdEngineBarrier r c tag args).keeps h [.out, .ctl, .eng, .io] :=
  issue_keeps fun _ => keepUse_keeps.within

theorem fenceRaise_keeps : (h.fenceRaise c).keeps h [.ctl, .eng] :=
  ite_keeps finish_keeps.within (keepUse_keeps.after withEng_keeps.within)

theorem fenceDown_keeps {status : Nat} : (h.fenceDown status).keeps h [.od, .regs, .ctl, .evt, .eng, .dm, .pwr] :=
  doneOpt_keeps.after (keepDrop_keeps.after withEng_keeps.within)

theorem cmdEngineFence_keeps {r : Path} {tag : Nat} {args : Bytes} :
    (h.cmdEngineFence r c tag args).keeps h [.out, .od, .regs, .ctl, .evt, .eng, .dm, .io, .pwr] :=
  issue_keeps fun _ => ite_keeps fenceRaise_keeps.within (finish_keeps.after (ite_keeps fenceDown_keeps.within .refl))

theorem fenceExpired_keeps : h.fenceExpired.keeps h [.od, .regs, .ctl, .evt, .eng, .dm, .pwr] :=
  ite_keeps (fire_keeps.after (flag_keeps.after fenceDown_keeps)) .refl

theorem rehome_keeps : (h.rehome n).keeps h [.eng] := foldl_keeps (fun _ _ => giveHome_keeps) _ .refl

theorem movePins_keeps : h.movePins.keeps h [.od, .regs, .evt, .eng, .pwr] := by
  unfold movePins
  extract_lets a b now eng h1 h2
  have h2k : h2.keeps h [.od, .regs, .evt, .eng, .pwr] := fire_keeps.after (flag_keeps.after withEng_keeps.within)
  exact ite_keeps .refl (ite_keeps (rehome_keeps.after (rehome_keeps.after h2k)) h2k)

theorem homeless_keeps : h.homeless.keeps h [.eng] :=
  foldl_keeps (fun _ _ => foldl_keeps (fun _ _ => ite_keeps giveHome_keeps .refl) _ .refl) _ .refl

theorem judgeShort_keeps : h.judgeShort.keeps h [.od, .regs, .evt, .eng, .pwr] :=
  ite_keeps (fire_keeps.after (flag_keeps.after withEng_keeps.within)) withEng_keeps.within

theorem loadStore_keeps {m : Option Image} : (h.loadStore k m).keeps h [.eng] := withEng_keeps

theorem imageIn_keeps {m : Image} : (h.imageIn m).keeps h [.od, .regs, .evt, .eng, .pwr] := by
  unfold imageIn
  extract_lets h0 h1
  have h0k : h0.keeps h [.eng] := foldl_keeps (fun _ _ => loadStore_keeps) _ .refl
  exact judgeShort_keeps.after (homeless_keeps.after (movePins_keeps.after (withEng_keeps.after (b := h0) h0k.within)))

theorem reloadEnd_keeps : h.reloadEnd.keeps h [.od, .regs, .ctl, .evt, .eng, .dm, .pwr] := by
  unfold reloadEnd
  extract_lets h1 h2
  have h1k : h1.keeps h [.od, .regs, .ctl, .evt, .eng, .dm, .pwr] := by
    unfold h1
    split
    · exact imageIn_keeps.within
    · exact .refl
  exact doneOpt_keeps.after (fire_keeps.after (flag_keeps.after (withEng_keeps.after (b := h1) h1k)))

theorem keepDone_keeps {b : Barrier} {u : BarrierUse} : (h.keepDone b u).keeps h [.od, .regs, .ctl, .evt, .eng, .dm, .pwr] := by
  cases u
  case command => exact finish_keeps.after keepDrop_keeps.within
  case fence => exact doneOpt_keeps.after (withEng_keeps.after keepDrop_keeps.within)
  case reload => exact reloadEnd_keeps.after keepDrop_keeps.within

theorem barrierComplete_keeps : (h.barrierComplete n).keeps h [.clock, .od, .regs, .ctl, .evt, .eng, .dm, .pwr] := by
  unfold barrierComplete
  extract_lets reach
  have reached {b : Barrier} : (reach b).keeps h [.clock] := withClock_keeps
  split
  · split
    · refine ite_keeps .refl ?_
      extract_lets eng h1
      have h1k : h1.keeps h [.clock, .od, .regs, .ctl, .evt, .eng, .dm, .pwr] := withEng_keeps.after reached.within
      exact ite_keeps (fire_keeps.after h1k) h1k
    · exact .refl
  · split
    · exact ite_keeps .refl (keepDone_keeps.after reached.within)
    · exact .refl

theorem setSlot_keeps {x : Slot} : (h.setSlot n x).keeps h [.sec] := withSec_keeps

theorem useSlot_keeps {usage off : Nat} : (h.useSlot n usage off).1.keeps h [.sec] := by
  unfold useSlot
  extract_lets x
  split
  · exact .refl
  · exact .refl
  · split
    · exact .refl
    · split
      · exact .refl
      · split
        · exact foldl_keeps (fun _ _ => setSlot_keeps) _ .refl
        · split
          · exact .refl
          · exact setSlot_keeps

theorem imageCheck_keeps {off : Nat} : (h.imageCheck off).1.keeps h [.od, .regs, .evt, .sw, .sec, .pwr] := by
  unfold imageCheck
  extract_lets head len ver image hash inj h0
  have injected : inj.1.keeps h [.sw] := takeInject_keeps
  have h0k : h0.keeps h [.od, .regs, .evt, .sw, .sec, .pwr] := by
    unfold h0
    split
    · exact injected.within
    · exact eccCorrected_keeps.after injected.within
  clear_value h0 inj hash image ver len head
  split
  · exact .refl
  · split
    · dsimp only
      exact eccBad_keeps.after injected.within
    · split
      · exact h0k
      · have used := (h0.useSlot_keeps (n := 0) (usage := 3) (off := 0)).after h0k
        split
        next heq => exact (congrArg Prod.fst heq) ▸ used
        next heq =>
          have used := (congrArg Prod.fst heq) ▸ used
          split
          · exact used
          · split
            · exact used
            · exact used

theorem reloadStart_keeps {off : Nat} : (h.reloadStart c off).keeps h [.od, .regs, .ctl, .evt, .eng, .sw, .sec, .pwr] := by
  have checked := h.imageCheck_keeps (off := off)
  unfold reloadStart
  split
  next heq => exact keepUse_keeps.after (withEng_keeps.after (((congrArg Prod.fst heq) ▸ checked).within))
  next heq => exact finish_keeps.after (((congrArg Prod.fst heq) ▸ checked).within)

theorem cmdEngineReload_keeps {r : Path} {tag : Nat} {args : Bytes} :
    (h.cmdEngineReload r c tag args).keeps h [.out, .od, .regs, .ctl, .evt, .eng, .sw, .io, .sec, .pwr] :=
  issue_keeps fun _ => reloadStart_keeps.within

/-! ### Pauses, mirror frames, the scrub and the classifier (R249 to R264) -/

theorem pfcReceive_keeps {mask : Nat} {times : List Nat} : (h.pfcReceive n mask times).keeps h [.od, .sw] :=
  ite_keeps (withSw_keeps.after tally_keeps.within) (withSw_keeps.after tally_keeps.within)

theorem pfcRefresh_keeps : (h.pfcRefresh n).keeps h [.out, .od] :=
  ite_keeps .refl (tally_keeps.after emit_keeps.within)

theorem mirrorPut_keeps {b : Bytes} {words copies : Nat} : (h.mirrorPut n b words copies).keeps h [.sw] :=
  withSw_keeps.after (b := h.setMirror n _) withSw_keeps

theorem mirrorClose_keeps : (h.mirrorClose n).keeps h [.sw] :=
  ite_keeps .refl (mirrorPut_keeps.trans withSw_keeps)

theorem scrubWord_keeps {r : Hub × Nat × Nat} {d : Nat × Nat × Nat} :
    (scrubWord r d).1.keeps r.1 [.od, .regs, .evt, .sw, .pwr] := by
  unfold scrubWord
  extract_lets gone h1
  have gone_keeps {h : Hub} : (gone h).keeps h [.sw] := withSw_keeps
  split
  · dsimp only
    exact eccCorrected_keeps.after gone_keeps.within
  · exact ite_keeps eccBad_keeps (gone_keeps.after eccBad_keeps)

theorem scrubHeld_keeps {region : Nat} {r : Hub × Nat × Nat} :
    (scrubHeld region r n).1.keeps r.1 [.draws, .od, .regs, .evt, .sw, .pwr] := by
  unfold scrubHeld
  split
  · exact .refl
  · split
    · dsimp only
      exact eccCorrected_keeps.within
    · dsimp only
      exact eccBad_wordAddr_keeps

/-- A fold over a hub and what it counts keeps what each of its steps keeps. -/
theorem foldl_fst_keeps {α β : Type} {f : Hub × β → α → Hub × β} (hf : ∀ r x, (f r x).1.keeps r.1 l) (xs : List α) :
    ∀ r : Hub × β, (xs.foldl f r).1.keeps r.1 l := by
  induction xs with
  | nil => exact fun _ => .refl
  | cons x xs ih => exact fun r => (ih _).trans (hf r x)

theorem scrubState_keeps : h.scrubState.keeps h [.links, .tun, .plan, .eng] := by intro q; cases q <;> simp [agrees, scrubState]

theorem scrub_keeps : h.scrub.1.keeps h [.draws, .od, .regs, .evt, .links, .tun, .plan, .eng, .sw, .pwr] := by
  unfold scrub
  extract_lets r1 r2 r3 r4
  have r1k : r1.1.keeps h [.draws, .od, .regs, .evt, .sw, .pwr] := by
    unfold r1
    exact foldl_fst_keeps (fun _ _ => scrubWord_keeps.within) _ _
  have r2k : r2.1.keeps r1.1 [.draws, .od, .regs, .evt, .sw, .pwr] := foldl_fst_keeps (fun _ _ => scrubHeld_keeps) _ _
  have r3k : r3.1.keeps r2.1 [.draws, .od, .regs, .evt, .sw, .pwr] := foldl_fst_keeps (fun _ _ => scrubHeld_keeps) _ _
  have r4k : r4.1.keeps r3.1 [.draws, .od, .regs, .evt, .sw, .pwr] := foldl_fst_keeps (fun _ _ => scrubHeld_keeps) _ _
  clear_value r4 r3 r2 r1
  exact scrubState_keeps.after ((r4k.trans (r3k.trans (r2k.trans r1k))).within)

theorem cmdScrubNow_keeps {r : Path} {tag : Nat} {args : Bytes} :
    (h.cmdScrubNow r c tag args).keeps h [.draws, .out, .od, .regs, .ctl, .evt, .links, .tun, .plan, .eng, .sw, .io, .pwr] :=
  issue_keeps fun _ => finish_keeps.after scrub_keeps.within

theorem setCls_keeps {x : ClsEntry} : (h.setCls n x).keeps h [.sw] := withSw_keeps

theorem clsPut_keeps {args : Bytes} : (h.clsPut args k).keeps h [.sw] := eccWrite_keeps.trans setCls_keeps

theorem clsCleared_keeps : ((h.setCls k ClsEntry.init).eccWrite 5 k).keeps h [.sw] := eccWrite_keeps.trans setCls_keeps

theorem cmdClsWrite_keeps {r : Path} {tag : Nat} {args : Bytes} :
    (h.cmdClsWrite r c tag args).keeps h [.out, .ctl, .eng, .sw, .io] :=
  issue_keeps fun _ => finish_keeps.after (foldl_keeps (fun _ _ => clsPut_keeps.within) _ .refl)

theorem cmdClsClear_keeps {r : Path} {tag : Nat} {args : Bytes} :
    (h.cmdClsClear r c tag args).keeps h [.out, .ctl, .eng, .sw, .io] := by
  unfold cmdClsClear
  extract_lets first n
  refine issue_keeps fun h => ?_
  extract_lets l
  have cleared : (l.foldl (fun h k => (h.setCls k ClsEntry.init).eccWrite 5 k) h).keeps h [.sw] :=
    foldl_keeps (fun _ _ => clsCleared_keeps) _ .refl
  exact finish_keeps.after cleared.within

theorem cmdClsRead_keeps {r : Path} {tag : Nat} {args : Bytes} :
    (h.cmdClsRead r c tag args).keeps h [.out, .od, .regs, .ctl, .evt, .eng, .sw, .io, .pwr] := by
  refine issue_keeps fun h => ?_
  extract_lets x
  have xk : x.1.keeps h [.out, .od, .regs, .ctl, .evt, .eng, .sw, .io, .pwr] := by
    unfold x
    refine foldl_fst_keeps (fun _ _ => ?_) _ _
    dsimp only
    exact eccRead_keeps.within
  exact ite_keeps (finish_keeps.after xk) (finish_keeps.after xk)

theorem cmdEccInject_keeps {r : Path} {tag : Nat} {args : Bytes} :
    (h.cmdEccInject r c tag args).keeps h [.out, .ctl, .eng, .sw, .io] :=
  issue_keeps fun _ => finish_keeps.after withSw_keeps.within

end Operations
end Sys2Proof.Machine.Hub

namespace Sys2Proof.Machine

set_option Elab.async false

/-- Settles O52: each command runs one operation of the hub, alone or as a command that Keeper serves, and has that operation's frame. -/
theorem framesOfLinksTunnelsPlansEngineAndSwitch : Obligations.FramesOfLinksTunnelsPlansEngineAndSwitch := by
  refine ⟨?groupClose, ?ackDue, ?creditSend, ?fogSend, ?tunnelCreate, ?tunnelModify, ?openReq, ?openConfirm, ?modifyReq, ?modifyAck,
    ?respFaultHoldExpiry, ?jobDone, ?engineBarrier, ?engBarrierArm, ?barrierComplete, ?engineReload, ?engineFenceRaise, ?engineFenceLift,
    ?fenceExpired, ?blindWindowEnd, ?planSwitch, ?meterColourClear, ?meterColourSet, ?meterColourEnd, ?announce, ?announceRepeat,
    ?statusBlock, ?ackBlock, ?countBlock, ?planSwitched, ?pfcFrame, ?pfcRefresh, ?pfcPauseExpiry, ?pfcStuck, ?mirrorFrameClose,
    ?sweepComplete, ?scrubPass, ?clsWrite, ?clsClear, ?clsRead, ?eccInject, ?scrubNow⟩
  case groupClose => exact fun _ => touches_of_onHub (fun _ => rfl) fun _ => Hub.groupClose_keeps.within
  case ackDue => exact fun _ => touches_of_onHub (fun _ => rfl) fun _ => Hub.ite_keeps .refl Hub.idleSend_keeps.within
  case creditSend => exact fun _ => touches_of_onHub (fun _ => rfl) fun _ => Hub.creditTurn_keeps.within
  case fogSend => exact fun _ _ _ _ => touches_of_onCommand (fun _ => rfl) fun _ => Hub.cmdFogSend_keeps.within
  case tunnelCreate => exact fun _ _ _ _ => touches_of_onCommand (fun _ => rfl) fun _ => Hub.cmdTunnelCreate_keeps.within
  case tunnelModify => exact fun _ _ _ _ => touches_of_onCommand (fun _ => rfl) fun _ => Hub.cmdTunnelModify_keeps.within
  case openReq => exact fun _ _ => touches_of_onHub (fun _ => rfl) fun _ => Hub.openReq_keeps.within
  case openConfirm => exact fun _ _ => touches_of_onHub (fun _ => rfl) fun _ => Hub.openConfirm_keeps.within
  case modifyReq =>
    refine fun _ m => touches_of_onHub (fun _ => rfl) fun _ => ?_
    split
    · exact Hub.modifyReq_keeps.within
    · exact Hub.tunUnmatched_keeps.within
  case modifyAck => exact fun _ _ => touches_of_onHub (fun _ => rfl) fun _ => Hub.modifyAck_keeps.within
  case respFaultHoldExpiry =>
    exact fun _ => touches_of_onHub (fun _ => rfl) fun _ => Hub.ite_keeps Hub.freeCtx_keeps.within .refl
  case jobDone => exact fun _ => touches_of_onHub (fun _ => rfl) fun _ => Hub.finishJob_keeps.within
  case engineBarrier => exact fun _ _ _ _ => touches_of_onCommand (fun _ => rfl) fun _ => Hub.cmdEngineBarrier_keeps.within
  case engBarrierArm => exact touches_of_onHub (fun _ => rfl) fun _ => Hub.armBarrier_keeps.within
  case barrierComplete => exact fun _ => touches_of_onHub (fun _ => rfl) fun _ => Hub.barrierComplete_keeps.within
  case engineReload => exact fun _ _ _ _ => touches_of_onCommand (fun _ => rfl) fun _ => Hub.cmdEngineReload_keeps.within
  case engineFenceRaise | engineFenceLift =>
    exact fun _ _ _ => touches_of_onCommand (fun _ => rfl) fun _ => Hub.cmdEngineFence_keeps.within
  case fenceExpired => exact touches_of_onHub (fun _ => rfl) fun _ => Hub.fenceExpired_keeps.within
  case blindWindowEnd => exact fun _ => touches_of_onHub (fun _ => rfl) fun _ => Hub.blindEnd_keeps.within
  case planSwitch => exact fun _ _ _ _ => touches_of_onCommand (fun _ => rfl) fun _ => Hub.cmdPlanSwitch_keeps.within
  case meterColourClear | meterColourSet | meterColourEnd =>
    exact fun _ _ _ => touches_of_onCommand (fun _ => rfl) fun _ => Hub.cmdMeterColour_keeps.within
  case announce => exact fun _ _ _ _ _ _ => touches_of_onHub (fun _ => rfl) fun _ => Hub.heard_keeps fun _ => Hub.planBlock_keeps.within
  case announceRepeat => exact touches_of_onHub (fun _ => rfl) fun _ => Hub.announceRepeat_keeps.within
  case statusBlock =>
    exact fun _ _ _ _ _ _ _ => touches_of_onHub (fun _ => rfl) fun _ => Hub.heard_keeps fun _ => Hub.planBlock_keeps.within
  case ackBlock => exact fun _ _ _ _ _ _ => touches_of_onHub (fun _ => rfl) fun _ => Hub.heard_keeps fun _ => Hub.ackBlock_keeps.within
  case countBlock => exact fun _ _ => touches_of_onHub (fun _ => rfl) fun _ => Hub.heard_keeps fun _ => Hub.countBlock_keeps.within
  case planSwitched => exact touches_of_onHub (fun _ => rfl) fun _ => Hub.planSwitched_keeps.within
  case pfcFrame => exact fun _ _ _ => touches_of_onHub (fun _ => rfl) fun _ => Hub.pfcReceive_keeps.within
  case pfcRefresh => exact fun _ => touches_of_onHub (fun _ => rfl) fun _ => Hub.pfcRefresh_keeps.within
  case pfcPauseExpiry => exact fun _ _ => touches_of_onHub (fun _ => rfl) fun _ => Hub.withSw_keeps.within
  case pfcStuck =>
    exact fun _ => touches_of_onHub (fun _ => rfl) fun _ => Hub.ite_keeps .refl (Hub.fire_keeps.after Hub.flag_keeps.within)
  case mirrorFrameClose => exact fun _ => touches_of_onHub (fun _ => rfl) fun _ => Hub.mirrorClose_keeps.within
  case sweepComplete => exact touches_of_onHub (fun _ => rfl) fun _ => Hub.withSw_keeps.within
  case scrubPass => exact touches_of_onHub (fun _ => rfl) fun _ => Hub.scrub_keeps.within
  case clsWrite => exact fun _ _ _ _ => touches_of_onCommand (fun _ => rfl) fun _ => Hub.cmdClsWrite_keeps.within
  case clsClear => exact fun _ _ _ _ => touches_of_onCommand (fun _ => rfl) fun _ => Hub.cmdClsClear_keeps.within
  case clsRead => exact fun _ _ _ _ => touches_of_onCommand (fun _ => rfl) fun _ => Hub.cmdClsRead_keeps.within
  case eccInject => exact fun _ _ _ _ => touches_of_onCommand (fun _ => rfl) fun _ => Hub.cmdEccInject_keeps.within
  case scrubNow => exact fun _ _ _ _ => touches_of_onCommand (fun _ => rfl) fun _ => Hub.cmdScrubNow_keeps.within

end Sys2Proof.Machine

/-!
SUPPORT. The superframe. `Hub.sameBeat` says of an operation that it leaves what the superframe clauses speak of: the count and the epoch,
whether block 0 has been decoded, the superframes without one, the turn of a dual-homed hub, and of each link its alignment and the lanes
that wait for the boundary. It composes as the frames do, and most operations have it from their frame.

`Elab.async` is off for the reason the frames give.
-/

namespace Sys2Proof.Machine.Hub

set_option Elab.async false

/-! ### The beat of the superframe -/

/-- `a` comes after `b` by operations that leave the superframe's count, block 0 and what waits for the boundary. -/
structure sameBeat (a b : Hub) : Prop where
  sf : a.links.sf = b.links.sf
  epoch : a.bcn.sfEpoch = b.bcn.sfEpoch
  decoded : a.bcn.decoded = b.bcn.decoded
  undecoded : a.bcn.undecoded = b.bcn.undecoded
  turnTo : a.pair.turnTo = b.pair.turnTo
  aligned : ∀ p, (a.link p).aligned = (b.link p).aligned
  joining : ∀ p, (a.link p).joining = (b.link p).joining

theorem sameBeat.refl {a : Hub} : a.sameBeat a := ⟨rfl, rfl, rfl, rfl, rfl, fun _ => rfl, fun _ => rfl⟩

theorem sameBeat.trans {a b c : Hub} (hab : a.sameBeat b) (hbc : b.sameBeat c) : a.sameBeat c :=
  ⟨hab.sf.trans hbc.sf, hab.epoch.trans hbc.epoch, hab.decoded.trans hbc.decoded, hab.undecoded.trans hbc.undecoded,
    hab.turnTo.trans hbc.turnTo, fun p => (hab.aligned p).trans (hbc.aligned p), fun p => (hab.joining p).trans (hbc.joining p)⟩

/-- An operation that leaves the numbers of the beat and the links themselves. -/
theorem sameBeat_of_eq {a b : Hub} (hl : a.links.links = b.links.links := by rfl) (hs : a.links.sf = b.links.sf := by rfl)
    (he : a.bcn.sfEpoch = b.bcn.sfEpoch := by rfl) (hd : a.bcn.decoded = b.bcn.decoded := by rfl)
    (hu : a.bcn.undecoded = b.bcn.undecoded := by rfl) (ht : a.pair.turnTo = b.pair.turnTo := by rfl) : a.sameBeat b :=
  ⟨hs, he, hd, hu, ht, fun p => by rw [link, hl, link], fun p => by rw [link, hl, link]⟩

/-- The frame of an operation says so, where it names neither the links, the beacon nor the pair. -/
theorem keeps.sameBeat {a b : Hub} {l : List Part} (hab : a.keeps b l) (hl : ∀ q ∈ [Part.links, .bcn, .pair], q ∉ l := by decide) :
    a.sameBeat b := by
  have links : a.links = b.links := hab .links (hl _ (by simp))
  have bcn : a.bcn = b.bcn := hab .bcn (hl _ (by simp))
  have pair : a.pair = b.pair := hab .pair (hl _ (by simp))
  exact sameBeat_of_eq (by rw [links]) (by rw [links]) (by rw [bcn]) (by rw [bcn]) (by rw [bcn]) (by rw [pair])

theorem ite_sameBeat {a a' b : Hub} {P : Prop} [Decidable P] (ht : a.sameBeat b) (hf : a'.sameBeat b) :
    (if P then a else a').sameBeat b := by
  split
  · exact ht
  · exact hf

theorem foldl_sameBeat {α : Type} {f : Hub → α → Hub} {a b : Hub} (hf : ∀ h x, (f h x).sameBeat h) (xs : List α)
    (hab : a.sameBeat b) : (xs.foldl f a).sameBeat b := by
  induction xs generalizing a with
  | nil => exact hab
  | cons x xs ih => exact ih ((hf a x).trans hab)

section Operations

variable {h : Hub} {l : List Part} {p n i k e : Nat}

@[simp] theorem updLink_link_same {f : LinkSt → LinkSt} : (h.updLink p f).link p = f (h.link p) := Tab.get_set ..

theorem updLink_link_ne {f : LinkSt → LinkSt} {q : Nat} (hq : q ≠ p) : (h.updLink p f).link q = h.link q :=
  Tab.get_set_other _ _ _ _ _ _ hq

/-- A change of a link that leaves its alignment and the lanes that wait. -/
theorem updLink_sameBeat {f : LinkSt → LinkSt} (ha : (f (h.link p)).aligned = (h.link p).aligned)
    (hj : (f (h.link p)).joining = (h.link p).joining) : (h.updLink p f).sameBeat h := by
  refine ⟨rfl, rfl, rfl, rfl, rfl, fun q => ?_, fun q => ?_⟩
  all_goals
    by_cases hq : q = p
    · subst hq
      simp [ha, hj]
    · rw [updLink_link_ne hq]

theorem updLink_aligned : ((h.updLink p (fun x => { x with aligned := true })).link p).aligned = true :=
  congrArg LinkSt.aligned updLink_link_same

theorem updLink_ctrlCrc :
    ((h.updLink p (fun x => { x with ctrlCrc := x.ctrlCrc + 1 })).link p).ctrlCrc = (h.link p).ctrlCrc + 1 :=
  congrArg LinkSt.ctrlCrc updLink_link_same

/-! ### Lamps and bearings (R299 to R322) -/

theorem fogSend_sameBeat {f : FogSignal} (ports : List Nat) : ∀ h : Hub, (h.fogSend f ports).sameBeat h := by
  induction ports with
  | nil => exact fun _ => .refl
  | cons p t ih =>
    have copied {x : List FogCopy} (h : Hub) : ({ h with links := { h.links with fogCopies := x } } : Hub).sameBeat h := sameBeat_of_eq
    exact fun h => (ih _).trans ((copied _).trans blockOut_keeps.sameBeat)

theorem fogOriginate_sameBeat {cause detail : Nat} : (h.fogOriginate cause detail).sameBeat h :=
  (fogSend_sameBeat _ _).trans sameBeat_of_eq

theorem mirrorNote_sameBeat {r : MirrorRec} : (h.mirrorNote r).sameBeat h := by
  exact ite_sameBeat .refl (tally_keeps.sameBeat.trans (pairPut_keeps.sameBeat.trans (emit_keeps.sameBeat.trans sameBeat_of_eq)))

theorem driveLamp_sameBeat {x : LampSt} : (h.driveLamp n x).sameBeat h := by
  unfold driveLamp
  extract_lets ball h0 h1
  have h0s : h0.sameBeat h := withDm_keeps.sameBeat
  have h1s : h1.sameBeat h := ite_sameBeat h0s (mirrorNote_sameBeat.trans h0s)
  exact ite_sameBeat h1s (emit_keeps.sameBeat.trans h1s)

theorem lampTrigger_sameBeat {cause : Nat} {tunnel : List Nat} : (h.lampTrigger n cause tunnel).sameBeat h := by
  unfold lampTrigger
  extract_lets x on y h1
  have h1s : h1.sameBeat h := fire_keeps.sameBeat.trans (flag_keeps.sameBeat.trans driveLamp_sameBeat)
  exact ite_sameBeat .refl (ite_sameBeat withDm_keeps.sameBeat (ite_sameBeat .refl (ite_sameBeat (fogOriginate_sameBeat.trans h1s) h1s)))

theorem lampsTrigger_sameBeat {cause : Nat} {tunnel : List Nat} {pick : Nat → Bool} (ls : List Nat) :
    ∀ h : Hub, (h.lampsTrigger cause tunnel pick ls).sameBeat h := by
  induction ls with
  | nil => exact fun _ => .refl
  | cons l ls ih => exact fun h => (ih _).trans (ite_sameBeat lampTrigger_sameBeat .refl)

theorem lampsGuard_sameBeat : (h.lampsGuard n).sameBeat h := lampsTrigger_sameBeat _ _

theorem lampRelease_sameBeat : (h.lampRelease n).sameBeat h := fire_keeps.sameBeat.trans driveLamp_sameBeat

theorem lampsAuto_sameBeat (ls : List Nat) : ∀ h : Hub, (h.lampsAuto ls).sameBeat h := by
  induction ls with
  | nil => exact fun _ => .refl
  | cons l ls ih => exact fun h => (ih _).trans (ite_sameBeat lampRelease_sameBeat .refl)

theorem bearingsMoved_sameBeat {before : Hub} : (h.bearingsMoved before).sameBeat h := by
  have lost {xs : List Nat} : (xs.foldl (fun h b => h.lampsGuard b) h).sameBeat h := foldl_sameBeat (fun _ _ => lampsGuard_sameBeat) _ .refl
  exact ite_sameBeat ((lampsAuto_sameBeat _ _).trans lost) lost

/-! ### The timebase (R291) -/

theorem pass_sameBeat : (h.pass n).sameBeat h := sameBeat_of_eq

theorem reach_sameBeat : (h.reach n).sameBeat h := sameBeat_of_eq

theorem acquire_sameBeat : h.acquire.sameBeat h := bearingsMoved_sameBeat.trans sameBeat_of_eq

theorem askSample_keeps : h.askSample.keeps h [.out, .ctl, .eng] := by
  refine ite_keeps .refl ?_
  split
  · exact sysAsk_keeps
  · exact .refl

theorem reacquire_sameBeat : h.acquire.askSample.sameBeat h := askSample_keeps.sameBeat.trans acquire_sameBeat

theorem enterHoldover_sameBeat : h.enterHoldover.sameBeat h :=
  bearingsMoved_sameBeat.trans (fire_keeps.sameBeat.trans (flag_keeps.sameBeat.trans sameBeat_of_eq))

/-- Entry to LOCKED ends the count of superframes without block 0. -/
theorem enterLocked_sameBeat (hu : h.bcn.undecoded = 0) : (h.enterLocked p).sameBeat h :=
  bearingsMoved_sameBeat.trans (fire_keeps.sameBeat.trans (sameBeat_of_eq (hu := hu.symm)))

theorem servo_sameBeat {d : Int} (hu : h.bcn.undecoded = 0) : (h.servo p d).sameBeat h := by
  unfold servo
  split
  · exact ite_sameBeat reacquire_sameBeat sameBeat_of_eq
  · exact ite_sameBeat (enterLocked_sameBeat hu) .refl
  · exact ite_sameBeat sameBeat_of_eq .refl
  · exact .refl

theorem followTurn_sameBeat : (h.followTurn p).sameBeat h := ite_sameBeat reacquire_sameBeat .refl

theorem sfReach_sameBeat : h.sfReach.sameBeat h := ite_sameBeat reach_sameBeat .refl

/-- The hub with another number of superframes without block 0. -/
def undecodedAs (h : Hub) (n : Nat) : Hub := { h with bcn := { h.bcn with undecoded := n } }

theorem sameBeat.undecodedAs {a b : Hub} (hab : a.sameBeat b) : a.sameBeat (b.undecodedAs a.bcn.undecoded) :=
  ⟨hab.sf, hab.epoch, hab.decoded, rfl, hab.turnTo, hab.aligned, hab.joining⟩

/-- A superframe that starts counts one without block 0 where none was decoded, and leaves the rest of the beat. -/
theorem sfFollow_sameBeat : ∃ n, (h.sfFollow p).sameBeat (h.undecodedAs n) := by
  unfold sfFollow
  extract_lets h1 bcn h2 n bcn' h3
  have h1s : h1.sameBeat h := followTurn_sameBeat
  have h2s : ∃ n, h2.sameBeat (h.undecodedAs n) := by
    unfold h2
    split
    · exact ⟨_, h1s.undecodedAs⟩
    · exact ⟨h1.bcn.undecoded + 1, h1s.sf, h1s.epoch, h1s.decoded, rfl, h1s.turnTo, h1s.aligned, h1s.joining⟩
  obtain ⟨n, h2s⟩ := h2s
  refine ⟨n, ite_sameBeat (enterHoldover_sameBeat.trans h2s) (ite_sameBeat ?_ (ite_sameBeat (askSample_keeps.sameBeat.trans h2s) h2s))⟩
  exact bearingsMoved_sameBeat.trans (sameBeat.trans (sameBeat_of_eq (b := h2)) h2s)

/-! ### The duties of a superframe start (R124, R128, R194, R201, R287, R293) -/

theorem beaconSend_keeps {sample : Option (Nat × Nat × Nat × Nat)} : (h.beaconSend sample p).keeps h [.out, .lanes] :=
  foldl_keeps (fun _ _ => blockOn_keeps) _ .refl

theorem beaconsOut_keeps : h.beaconsOut.keeps h [.out, .lanes] :=
  (planSend_keeps _ _).trans (foldl_keeps (fun _ _ => beaconSend_keeps) _ .refl)

theorem deferredOut_sameBeat : (h.deferredOut p).sameBeat h :=
  ite_sameBeat .refl (foldl_sameBeat (fun _ _ => blockOn_keeps.sameBeat) _ (updLink_sameBeat rfl rfl))

theorem setBearing_sameBeat {x : BearingSt} : (h.setBearing n x).sameBeat h := sameBeat_of_eq

theorem formPoint_sameBeat {f : Nat} : (h.formPoint f n).sameBeat h := by
  unfold formPoint
  extract_lets x prev
  split
  · exact setBearing_sameBeat
  · exact setBearing_sameBeat

theorem pointsForm_sameBeat : h.pointsForm.sameBeat h :=
  ite_sameBeat (foldl_sameBeat (fun _ _ => formPoint_sameBeat) _ .refl)
    (ite_sameBeat (foldl_sameBeat (fun _ _ => setBearing_sameBeat) _ .refl) .refl)

theorem restorePlan_keeps (n : Nat) : ∀ h : Hub, (h.restorePlan e k n).keeps h [.od, .regs, .evt, .plan, .pwr] := by
  induction n with
  | zero => exact fun _ => .refl
  | succ n ih =>
    intro h
    unfold restorePlan
    split
    · exact .refl
    · extract_lets plan h1
      have h1k : h1.keeps h [.od, .regs, .evt, .plan, .pwr] := withPlan_keeps.within
      exact ite_keeps ((ih _).trans (ite_keeps (fire_keeps.after (flag_keeps.after h1k)) h1k)) .refl

theorem restoreEgress_keeps (n : Nat) : (h.restoreEgress e n).keeps h [.od, .regs, .evt, .plan, .pwr] := by
  induction n with
  | zero => exact .refl
  | succ n ih => exact (restorePlan_keeps _ _).trans ih

theorem restoreRisen_keeps : h.restoreRisen.keeps h [.od, .regs, .evt, .plan, .pwr] :=
  foldl_keeps (fun _ _ => restoreEgress_keeps _) _ withPlan_keeps.within

theorem colourCommand_keeps {x : Nat × Nat} : (h.colourCommand x).keeps h [.od, .regs, .ctl, .evt, .plan, .dm, .pwr] :=
  done_keeps.after (ite_keeps withPlan_keeps.within withPlan_keeps.within)

theorem planBoundary_keeps : h.planBoundary.keeps h [.od, .regs, .ctl, .evt, .plan, .dm, .pwr] := by
  unfold planBoundary
  extract_lets plan h1 plan' h2
  have h1k : h1.keeps h [.od, .regs, .ctl, .evt, .plan, .dm, .pwr] := foldl_keeps (fun _ _ => colourCommand_keeps) _ withPlan_keeps.within
  have h2k : h2.keeps h [.od, .regs, .ctl, .evt, .plan, .dm, .pwr] := withPlan_keeps.after (b := h1) h1k
  exact restoreRisen_keeps.after (colourInForce_keeps.after h2k)

theorem pacedOut_sameBeat {b : Bytes} : (h.pacedOut p n b).sameBeat h :=
  ite_sameBeat (blockOn_keeps.sameBeat.trans (updLink_sameBeat rfl rfl)) (updLink_sameBeat rfl rfl)

theorem probeSend_sameBeat : (h.probeSend p).sameBeat h :=
  ite_sameBeat .refl (pacedOut_sameBeat.trans sameBeat_of_eq)

theorem probesRun_sameBeat : h.probesRun.sameBeat h :=
  foldl_sameBeat (fun _ _ => ite_sameBeat probeSend_sameBeat .refl) _ .refl

theorem sfPair_sameBeat (ht : h.pair.turnTo = none) : h.sfPair.sameBeat h := by
  unfold sfPair
  extract_lets x h1
  have h1s : h1.sameBeat h := sameBeat_of_eq
  split
  next q hq => exact absurd (hq.symm.trans ht) (by simp)
  · exact h1s

/-! ### The lanes that wait for the boundary join (R122) -/

/-- The lanes of link p that wait for the boundary join at it. -/
def lanesJoin (h : Hub) (p : Nat) : Hub := if (h.link p).joining = [] then h else h.updLink p (fun x => { x with joining := [] })

theorem lanesJoin_joining {q : Nat} : ((h.lanesJoin p).link q).joining = if q = p then [] else (h.link q).joining := by
  unfold lanesJoin
  by_cases hq : q = p
  · subst hq
    split
    · simpa
    · simp
  · rw [if_neg hq]
    split
    · rfl
    · rw [updLink_link_ne hq]

theorem lanesJoin_links_sf : (h.lanesJoin p).links.sf = h.links.sf := by
  unfold lanesJoin
  split <;> rfl

theorem lanesJoin_bcn : (h.lanesJoin p).bcn = h.bcn := by
  unfold lanesJoin
  split <;> rfl

theorem lanesJoin_pair : (h.lanesJoin p).pair = h.pair := by
  unfold lanesJoin
  split <;> rfl

/-! ### SUPERFRAME_START -/

/-- Block 0 is to come, and its sample. -/
def beaconToCome (h : Hub) : Hub := { h with bcn := { h.bcn with decoded := false, sample := none } }

/-- What a superframe start leaves of the beat: the count and the epoch have advanced, the lanes have joined, block 0 is to come. -/
theorem superframeStart_beat (ht : h.pair.turnTo = none) :
    ∃ g : Hub, h.superframeStart = g.beaconToCome ∧ g.links.sf = (h.links.sf + 1) % 2 ^ 32 ∧ (∀ p < 3, (g.link p).joining = []) ∧
      g.bcn.sfEpoch = if (h.links.sf + 1) % 2 ^ 32 = 0 then (h.bcn.sfEpoch + 1) % 2 ^ 32 else h.bcn.sfEpoch := by
  unfold superframeStart
  extract_lets sf links bcn h1 h2 h3 h4 h5 h6 h7
  have h2s : h2.sameBeat h1 := sfReach_sameBeat
  have h3s : ∃ n, h3.sameBeat (h1.undecodedAs n) := by
    unfold h3
    split
    next p _ =>
      obtain ⟨n, hn⟩ := h2.sfFollow_sameBeat (p := p)
      exact ⟨n, hn.sf.trans h2s.sf, hn.epoch.trans h2s.epoch, hn.decoded.trans h2s.decoded, hn.undecoded, hn.turnTo.trans h2s.turnTo,
        fun q => (hn.aligned q).trans (h2s.aligned q), fun q => (hn.joining q).trans (h2s.joining q)⟩
    · exact ⟨_, h2s.undecodedAs⟩
  obtain ⟨n, h3s⟩ := h3s
  let hj := [0, 1, 2].foldl lanesJoin h3
  have joined : ∀ p < 3, (hj.link p).joining = [] := by
    intro p hp
    simp only [hj, List.foldl_cons, List.foldl_nil, lanesJoin_joining]
    grind
  have turn : hj.pair.turnTo = none := by
    simp only [hj, List.foldl_cons, List.foldl_nil, lanesJoin_pair]
    exact h3s.turnTo.trans ht
  have h4s : h4.sameBeat hj := sfPair_sameBeat turn
  have h5s : h5.sameBeat h4 := planBoundary_keeps.sameBeat.trans (pointsForm_sameBeat.trans
    (foldl_sameBeat (fun _ _ => deferredOut_sameBeat) _ beaconsOut_keeps.sameBeat))
  have h6s : h6.sameBeat h5 := ite_sameBeat sendCount_keeps.sameBeat .refl
  have h7s : h7.sameBeat hj := probesRun_sameBeat.trans (h6s.trans (h5s.trans h4s))
  refine ⟨h7, rfl, h7s.sf.trans ?_, fun p hp => (h7s.joining p).trans (joined p hp), h7s.epoch.trans ?_⟩
  · simp only [hj, List.foldl_cons, List.foldl_nil, lanesJoin_links_sf]
    exact h3s.sf
  · simp only [hj, List.foldl_cons, List.foldl_nil, lanesJoin_bcn]
    exact h3s.epoch

/-! ### BEACON (R129, R290) -/

theorem announce_keeps : (h.announce p).keeps h [.draws, .out, .od, .eng] :=
  ite_keeps (ite_keeps (tally_keeps.after (pairPut_keeps.after emit_keeps.within)) .refl) .refl

theorem setHears_sameBeat {v : Bool} : (h.setHears v).sameBeat h :=
  ite_sameBeat (foldl_sameBeat (fun _ _ => announce_keeps.sameBeat) _ sameBeat_of_eq) .refl

theorem planSlip_keeps {old : Nat} : (h.planSlip old).keeps h [.od, .regs, .evt, .plan, .pwr] := by
  unfold planSlip
  split
  · exact ite_keeps planLate_keeps .refl
  · exact .refl

/-- A receiver that wakes changes its lane alone (R93). -/
theorem rxWakeOn_eq : ∃ x : LanesSt, h.rxWakeOn p = { h with lanes := x } := by
  unfold rxWakeOn rxWake
  split
  · split
    · split
      · exact ⟨_, rfl⟩
      · exact ⟨h.lanes, rfl⟩
    · exact ⟨h.lanes, rfl⟩
  · exact ⟨h.lanes, rfl⟩

/-- The first BEACON block of a superframe on the port followed, with the count expected and no sample. -/
theorem beaconRx_of_first {sf : Nat} (hf : h.followPort = some p) (hd : h.bcn.decoded = false) (hs : sf = (h.links.sf + 1) % 2 ^ 32) :
    (h.beaconRx p sf none).bcn.decoded = true ∧ (h.beaconRx p sf none).bcn.undecoded = 0 ∧
      ((h.beaconRx p sf none).link p).aligned = true ∧ (h.beaconRx p sf none).links.sf = h.links.sf := by
  unfold beaconRx
  extract_lets g links want bcn pair g1 links' bcn' gs gs1 g2 full g3 g4
  have first : ¬(g.followPort ≠ some p ∨ g.bcn.decoded = true) := by
    rintro (hn | hn)
    · exact hn hf
    · exact Bool.false_ne_true (hd.symm.trans hn)
  rw [if_neg first]
  have g2e : g2 = g1 := if_pos hs
  have g1a : (g1.link p).aligned = true := h.updLink_aligned
  have g3s : g3.sameBeat g1 := g2e ▸ servo_sameBeat (h := g2) (by rw [g2e])
  have end_ : (g4.setHears true).sameBeat g1 := setHears_sameBeat.trans g3s
  exact ⟨end_.decoded, end_.undecoded, (end_.aligned p).trans g1a, end_.sf⟩

/-- A BEACON block that neither counts nor slips the count aligns its link and does no more (R129). -/
theorem beaconRx_of_other {sf : Nat} {sample : Option (Nat × Nat × Nat × Nat)} (hf : h.followPort ≠ some p)
    (hs : h.followPort = none → h.countPort = some p → sf = (h.links.sf + 1) % 2 ^ 32) :
    h.beaconRx p sf sample = h.updLink p (fun x => { x with aligned := true }) := by
  refine (if_pos (Or.inl hf)).trans (if_neg ?_)
  rintro ⟨none_, count, other⟩
  exact other (hs (Option.isNone_iff_eq_none.1 none_) count)

/-- A count that differs on the port the hub counts by is taken, with SF_SLIP (R290). -/
theorem beaconRx_of_slip {sf : Nat} {sample : Option (Nat × Nat × Nat × Nat)} (hf : h.followPort = none) (hc : h.countPort = some p)
    (hs : sf ≠ (h.links.sf + 1) % 2 ^ 32) :
    ∃ g : Hub, g.links.sf = gap 32 sf 1 ∧ h.beaconRx p sf sample = (g.flag (Rg.linkFlags p) 5).fire Ev.sfSlip (u8 p) := by
  have other : h.followPort ≠ some p := by simp [hf]
  exact ⟨_, planSlip_keeps.sameBeat.sf, (if_pos (Or.inl other)).trans (if_pos ⟨Option.isNone_iff_eq_none.2 hf, hc, hs⟩)⟩

/-! ### What an event leaves (R534, R535) -/

/-- A merge writes no detail of another source. -/
theorem mem_mergeNewest_of_ne {src clk : Nat} {data : Bytes} {d : Detail} (hd : d.source ≠ src) {ds : List Detail} (hm : d ∈ ds) :
    d ∈ mergeNewest src clk data ds := by
  induction ds with
  | nil => exact hm
  | cons x xs ih =>
    unfold mergeNewest
    rcases List.mem_cons.1 hm with rfl | hx
    · simp [hd]
    · split
      · exact List.mem_cons_of_mem _ hx
      · exact List.mem_cons_of_mem _ (ih hx)

/-- A merge gives its data to the newest detail of the source. -/
theorem exists_mem_mergeNewest {src clk : Nat} {data : Bytes} {ds : List Detail} (hs : ∃ d ∈ ds, d.source = src) :
    ∃ d ∈ mergeNewest src clk data ds, d.source = src ∧ d.data = data := by
  induction ds with
  | nil => simp at hs
  | cons x xs ih =>
    unfold mergeNewest
    split
    next hx => exact ⟨_, List.mem_cons_self, hx.1, rfl⟩
    next hx =>
      have later : ∃ d ∈ xs, d.source = src := by
        by_contra hn
        obtain ⟨d, hm, hd⟩ := hs
        rcases List.mem_cons.1 hm with rfl | hm
        · exact hx ⟨hd, by simpa using hn⟩
        · exact hn ⟨d, hm, hd⟩
      obtain ⟨d, hm, hd⟩ := ih later
      exact ⟨d, List.mem_cons_of_mem _ hm, hd⟩

/-- A firing is queued, waits for an entry of the pool, or is merged into the source's newest detail. -/
theorem queueDetail_raised {src : Nat} {data : Bytes} {soft wake : Bool} : (h.queueDetail src data soft wake).1.raised src data := by
  unfold queueDetail
  extract_lets clk d
  split
  · exact ⟨d, by simp, rfl, rfl⟩
  · split
    · exact ⟨d, by simp, rfl, rfl⟩
    next hn =>
      have some_ : ∃ d ∈ h.evt.details, d.source = src := by
        obtain ⟨d, hd⟩ := List.exists_mem_of_length_pos (Nat.pos_of_ne_zero hn)
        exact ⟨d, by simpa using hd⟩
      obtain ⟨d, hm, hd⟩ := exists_mem_mergeNewest (clk := clk) (data := data.take 56) some_
      exact ⟨d, List.mem_append_left _ hm, hd⟩

/-- What another source has raised stays raised. -/
theorem raised.queueDetail {src other : Nat} {data data' : Bytes} {soft wake : Bool} (hr : h.raised src data) (hs : src ≠ other) :
    (h.queueDetail other data' soft wake).1.raised src data := by
  obtain ⟨d, hm, hd, hdata⟩ := hr
  have stays : d ∈ (h.queueDetail other data' soft wake).1.evt.details ++ (h.queueDetail other data' soft wake).1.evt.waiting := by
    unfold Hub.queueDetail
    rcases List.mem_append.1 hm with hm | hm
    · split_ifs
      · simp [hm]
      · simp [hm]
      · exact List.mem_append_left _ (mem_mergeNewest_of_ne (by rwa [hd]) hm)
    · split_ifs
      all_goals simp [hm]
  exact ⟨d, stays, hd, hdata⟩

/-- An event that its source may fire is raised with its data (R534). -/
theorem fire_raised {src : Nat} {data : Bytes} (hr : evtReserved src = false) (hl : src ≠ Ev.evtDetailLost) :
    (h.fire src data).raised src data := by
  unfold fire fireWith
  extract_lets dom h0 q h2
  rw [if_neg (by simp [hr])]
  have queued : q.1.raised src data := queueDetail_raised
  split
  · exact raised.queueDetail (h := h2.count Ev.evtDetailLost 1) queued hl
  · exact queued

/-- A flag that is set reads as set. -/
theorem bit_flag {m : Entry} : bit n ((h.flag m n).settle.reg m) = true := by
  rw [reg_congr (settle_regs _), reg_flag]
  exact bit_setBit _ _

/-- Of the registers, an event writes EVT_FLAGS alone (R535, R546). -/
theorem fire_reg {src : Nat} {data : Bytes} {m : Entry} (hm : m.key ≠ Rg.evtFlags.key) : (h.fire src data).reg m = h.reg m := by
  simp only [fire, fireWith]
  split_ifs <;> simp [reg_congr (queueDetail_regs _ _ _ _ _), reg_congr (count_regs _ _ _), reg_flag_ne _ _ _ _ hm,
    reg_congr (tally_regs _ _ _ _), reg_congr (setDomain_regs _ _ _)]

end Operations
end Sys2Proof.Machine.Hub

namespace Sys2Proof.Machine

set_option Elab.async false

/-- The hub at a block that arrives `n` units of 0.1 ns after the command before, with its lanes as the block finds them. -/
def Hub.blockAt (h : Hub) (n : Nat) (x : LanesSt) : Hub := { h.pass n with lanes := x }

/-- A BEACON block with a good CRC: the clock passes, a receiver may wake, and the block is acted on. -/
theorem beacon_completes {s : State} {p : Fin 3} {sf : Word} {sample : Bool} {valid : Fin 8} {ground : Word} {shaft0 shaft1 : BitVec 18}
    {lapse : Word} {P : Hub → Prop} (hl : s.hub.live)
    (hP : ∀ (x : LanesSt) (o : Option (Nat × Nat × Nat × Nat)), (sample = false → o = none) →
      P ((s.hub.blockAt lapse.toNat x).beaconRx p sf.toNat o).settle) :
    Completes (.beacon p sf sample valid ground shaft0 shaft1 true lapse) s P := by
  refine completes_onHub (fun h => (h.pass lapse.toNat).heard p true (fun h => h.beaconRx p sf.toNat
    (if sample then some (valid.val, ground.toNat, shaft0.toNat, shaft1.toNat) else none))) hl ?_
  obtain ⟨x, hx⟩ := (s.hub.pass lapse.toNat).rxWakeOn_eq (p := p)
  change P ((((s.hub.pass lapse.toNat).rxWakeOn p).beaconRx p sf.toNat _).settle)
  rw [hx]
  exact hP x _ (fun hs => by simp [hs])

/-- Settles O26: the duties of a superframe start leave the beat that the start sets; a BEACON block acts by the port it comes on and the
count it carries. -/
theorem superframesStartAndBeaconsAlignThem : Obligations.SuperframesStartAndBeaconsAlignThem := by
  refine ⟨?starts, ?first, ?other, ?slips, ?badCrc⟩
  case starts =>
    intro s live turn
    obtain ⟨g, heq, sf, joined, epoch⟩ := s.hub.superframeStart_beat turn
    refine completes_onHub Hub.superframeStart live ?_
    rw [heq]
    exact ⟨sf, rfl, rfl, joined 0 (by decide), joined 1 (by decide), joined 2 (by decide), epoch⟩
  case first =>
    intro s p sf valid ground shaft0 shaft1 lapse live follows decoded count
    refine beacon_completes live fun x o ho => ?_
    rw [ho rfl]
    exact Hub.beaconRx_of_first follows decoded count
  case other =>
    intro s p sf sample valid ground shaft0 shaft1 lapse live follows count
    refine beacon_completes live fun x o _ => ?_
    rw [Hub.beaconRx_of_other (h := s.hub.blockAt lapse.toNat x) follows count]
    exact ⟨Hub.updLink_aligned, rfl, rfl⟩
  case slips =>
    intro s p sf sample valid ground shaft0 shaft1 lapse live follows counts other
    refine beacon_completes live fun x o _ => ?_
    obtain ⟨g, count, heq⟩ := Hub.beaconRx_of_slip (h := s.hub.blockAt lapse.toNat x) (sample := o) follows counts other
    rw [heq]
    have flags : (Rg.linkFlags p).key ≠ Rg.evtFlags.key := by simp only [Rg.linkFlags, Rg.evtFlags]; omega
    refine ⟨?_, ?_, Hub.fire_raised (by decide) (by decide)⟩
    · simpa using count
    · rw [Hub.reg_congr (Hub.settle_regs _), Hub.fire_reg flags]
      exact Hub.bit_flag
  case badCrc =>
    intro s p sf sample valid ground shaft0 shaft1 lapse live
    refine completes_onHub (fun h => (h.pass lapse.toNat).heard p false (fun h => h.beaconRx p sf.toNat
      (if sample then some (valid.val, ground.toNat, shaft0.toNat, shaft1.toNat) else none))) live ?_
    have beat : ((s.hub.pass lapse.toNat).updLink p (fun x => { x with ctrlCrc := x.ctrlCrc + 1 })).sameBeat s.hub :=
      (Hub.updLink_sameBeat rfl rfl).trans Hub.pass_sameBeat
    exact ⟨(s.hub.pass lapse.toNat).updLink_ctrlCrc, Hub.bit_flag, beat.aligned p, rfl⟩

end Sys2Proof.Machine

/-!
SUPPORT. Groups, acknowledgement and replay. `Hub.conveys` says of an operation of the switch core that it leaves every link but the count
of its freed slots, takes back no output, and damages no word that the SYSTEM tunnels' contexts are read by. It composes as the frames do.
Around it stand the equations of the transport: what an acknowledgement taken or received, a group delivered, closed or replayed leaves of
a link, and the block that leaves.

`Elab.async` is off for the reason the frames give.
-/

namespace Sys2Proof.Machine

set_option Elab.async false

/-- Another bit than the one that is set reads as before. -/
theorem bit_setBit_ne {i j : Nat} (n : Nat) (hij : i ≠ j) : bit i (setBit j n) = bit i n := by
  have h : (n ||| 2 ^ j).testBit i = n.testBit i := by simp [Nat.testBit_or, Nat.testBit_two_pow_of_ne hij.symm]
  have spelt (m : Nat) : bit i m = m.testBit i := by
    rw [Bool.eq_iff_iff]
    simp [bit, Nat.testBit, Nat.shiftRight_eq_div_pow, Nat.one_and_eq_mod_two]
  rw [spelt, spelt]
  exact h

/-- A group stands in a list that it has been put into at its place. -/
theorem mem_insertGroup {key : Group → Nat} {g : Group} {gs : List Group} : g ∈ insertGroup key g gs := by
  induction gs with
  | nil => exact List.mem_singleton_self _
  | cons x xs ih =>
    unfold insertGroup
    split
    · exact List.mem_cons_self
    · exact List.mem_cons_of_mem _ ih

/-- A link that has freed other slots. -/
def LinkSt.freedAs (x : LinkSt) (t : Tab Nat) : LinkSt := { x with freed := t }

theorem gap_self (w a : Nat) : gap w a a = 0 := by simp [gap]

theorem gap_succ_one (n : BitVec 16) : BitVec.ofNat 16 (gap 16 ((n.toNat + 1) % 65536) 1) = n := by
  have small := n.isLt
  have less : gap 16 ((n.toNat + 1) % 65536) 1 = n.toNat := by
    unfold gap
    omega
  rw [less]
  simp

end Sys2Proof.Machine

namespace Sys2Proof.Machine.Hub

set_option Elab.async false

/-! ### Operations of the switch core -/

/-- `a` comes after `b` by operations that leave the links but what they have freed, the outputs given, and the words of region 3 sound. -/
structure conveys (a b : Hub) : Prop where
  link : ∀ p, ∃ x, a.link p = (b.link p).freedAs x
  sound : b.wordSound 3 0 → a.wordSound 3 0
  out : b.out <:+ a.out

theorem link_congr {a b : Hub} {p : Nat} (hl : a.links = b.links) : a.link p = b.link p := by rw [link, hl, link]

theorem conveys.refl {a : Hub} : a.conveys a := ⟨fun p => ⟨(a.link p).freed, rfl⟩, id, List.suffix_refl _⟩

theorem conveys.trans {a b c : Hub} (hab : a.conveys b) (hbc : b.conveys c) : a.conveys c := by
  refine ⟨fun p => ?_, fun hs => hab.sound (hbc.sound hs), hbc.out.trans hab.out⟩
  obtain ⟨x, hx⟩ := hab.link p
  obtain ⟨y, hy⟩ := hbc.link p
  exact ⟨x, by rw [hx, hy]; rfl⟩

/-- An operation that leaves the links, the damaged words and the outputs. -/
theorem conveys_of_eq {a b : Hub} (hl : a.links = b.links := by rfl) (hd : a.sw.damaged = b.sw.damaged := by rfl)
    (ho : a.out = b.out := by rfl) : a.conveys b :=
  ⟨fun p => ⟨(b.link p).freed, link_congr hl⟩, fun hs => by rwa [wordSound, hd], ho ▸ List.suffix_refl _⟩

/-- The frame of an operation that takes no output back says so, where it names neither the links nor the switch. -/
theorem keeps.conveys {a b : Hub} {l : List Part} (hab : a.keeps b l) (hc : a.calm b)
    (hl : ∀ q ∈ [Part.links, .sw], q ∉ l := by decide) : a.conveys b := by
  have links : a.links = b.links := hab .links (hl _ (by simp))
  have sw : a.sw = b.sw := hab .sw (hl _ (by simp))
  exact ⟨fun p => ⟨(b.link p).freed, link_congr links⟩, fun hs => by rwa [wordSound, sw], hc.out⟩

theorem ite_conveys {a a' b : Hub} {P : Prop} [Decidable P] (ht : a.conveys b) (hf : a'.conveys b) : (if P then a else a').conveys b := by
  split
  · exact ht
  · exact hf

theorem foldl_conveys {α : Type} {f : Hub → α → Hub} {a b : Hub} (hf : ∀ h x, (f h x).conveys h) (xs : List α)
    (hab : a.conveys b) : (xs.foldl f a).conveys b := by
  induction xs generalizing a with
  | nil => exact hab
  | cons x xs ih => exact ih ((hf a x).trans hab)

section Operations

variable {h : Hub} {p n i c e a k : Nat}

theorem emit_conveys {x : Out} : (h.emit x).conveys h := emit_keeps.conveys emit_calm
theorem flag_conveys {m : Entry} : (h.flag m n).conveys h := flag_keeps.conveys flag_calm
theorem fire_conveys {b : Bytes} : (h.fire n b).conveys h := fire_keeps.conveys fire_calm
theorem tally_conveys {item inst : Nat} : (h.tally item inst k).conveys h := tally_keeps.conveys tally_calm
theorem wakeLane_conveys : (h.wakeLane n).conveys h := wakeLane_keeps.conveys wakeLane_calm
theorem updCtx_conveys {f : Ctx → Ctx} : (h.updCtx i f).conveys h := updCtx_keeps.conveys updCtx_calm
theorem charge_conveys : (h.charge a n).conveys h := conveys_of_eq
theorem setMirror_conveys {x : MirrorSt} : (h.setMirror n x).conveys h := conveys_of_eq

/-- A change of what a link has freed. -/
theorem freed_conveys {f : LinkSt → Tab Nat} : (h.updLink p (fun x => { x with freed := f x })).conveys h := by
  refine ⟨fun q => ?_, id, List.suffix_refl _⟩
  by_cases hq : q = p
  · subst hq
    exact ⟨f (h.link q), updLink_link_same⟩
  · exact ⟨(h.link q).freed, updLink_link_ne hq⟩

/-! ### Accounts and holds (R240 to R254) -/

theorem rtsUpdate_conveys {before : Hub} : (before.rtsUpdate h i).conveys h := ite_conveys emit_conveys .refl

theorem tallyHolds_conveys {before : Hub} : (before.tallyHolds h i).conveys h :=
  foldl_conveys (fun _ _ => ite_conveys tally_conveys .refl) _ rtsUpdate_conveys

theorem pfcUpdate_conveys {before : Hub} : (before.pfcUpdate h i).conveys h :=
  ite_conveys .refl (ite_conveys .refl (tally_conveys.trans (emit_conveys.trans conveys_of_eq)))

theorem recheck_conveys : (h.recheck i c).conveys h :=
  ite_conveys .refl (pfcUpdate_conveys.trans (tallyHolds_conveys.trans conveys_of_eq))

theorem recheckPool_conveys : h.recheckPool.conveys h := by
  unfold recheckPool
  extract_lets low sw h1 h2
  have h2c : h2.conveys h := foldl_conveys (fun _ _ => pfcUpdate_conveys.trans tallyHolds_conveys) _ conveys_of_eq
  exact ite_conveys .refl (ite_conveys (fire_conveys.trans (flag_conveys.trans h2c)) h2c)

theorem credited_conveys : (h.credited a n).conveys h := ite_conveys freed_conveys .refl

theorem acctBy_conveys {enter : Bool} : (h.acctBy a n enter).conveys h := by
  have judged {g : Hub} : (g.acctJudge a).conveys g := ite_conveys (recheckPool_conveys.trans recheck_conveys) .refl
  exact judged.trans (ite_conveys charge_conveys (credited_conveys.trans conveys_of_eq))

/-- A word of the switch buffer freed with an error in it is none of region 3. -/
theorem freeDamaged_conveys {addr : Nat} : (h.freeDamaged 0 addr n).conveys h := by
  refine ite_conveys .refl ⟨fun p => ⟨(h.link p).freed, rfl⟩, fun hs d hd => ?_, List.suffix_refl _⟩
  rcases List.mem_append.1 hd with hd | hd
  · exact hs d hd
  · rw [List.mem_singleton.1 hd]
    simp

theorem freeWords_conveys {cells : List BufCell} : (h.freeWords cells).conveys h := by
  refine foldl_conveys (fun h x => ?_) _ .refl
  extract_lets h1 w
  have h1c : h1.conveys h := by
    unfold h1
    split
    · exact acctBy_conveys
    · exact .refl
  have wc : w.1.conveys h1 := wordAddr_keeps.conveys wordAddr_calm
  exact ite_conveys h1c (freeDamaged_conveys.trans (wc.trans h1c))

/-! ### Cells into the switch buffer and on to their queues (R150, R181, R256) -/

theorem takeInject_conveys {region : Nat} : (h.takeInject region).1.conveys h := by
  unfold takeInject
  split
  · exact conveys_of_eq
  · exact .refl

theorem writeCell_conveys {o : Option Nat} {x : Cell} : (h.writeCell i c o x).1.conveys h := takeInject_conveys.trans takeInject_conveys

theorem receiveCell_conveys {x : Cell} : (h.receiveCell p x).1.conveys h := by
  unfold receiveCell
  extract_lets i y w
  split
  · exact charge_conveys.trans writeCell_conveys
  · exact writeCell_conveys

theorem receiveCell_cell {x : Cell} : (h.receiveCell p x).2.cell = x := by
  unfold receiveCell
  extract_lets i y w
  split
  · rfl
  · rfl

/-- The cells of a group are received one after the other, and stay as they came. -/
theorem receiveCells_conveys {cells : List Cell} :
    (h.receiveCells p cells).1.conveys h ∧ (h.receiveCells p cells).2.map (·.cell) = cells := by
  have step (cells : List Cell) : ∀ r : Hub × List BufCell,
      (cells.foldl (fun r x => ((r.1.receiveCell p x).1, r.2 ++ [(r.1.receiveCell p x).2])) r).1.conveys r.1 ∧
      (cells.foldl (fun r x => ((r.1.receiveCell p x).1, r.2 ++ [(r.1.receiveCell p x).2])) r).2.map (·.cell) =
        r.2.map (·.cell) ++ cells := by
    induction cells with
    | nil => exact fun r => ⟨.refl, by simp⟩
    | cons x xs ih =>
      intro r
      obtain ⟨conveys, same⟩ := ih ((r.1.receiveCell p x).1, r.2 ++ [(r.1.receiveCell p x).2])
      exact ⟨conveys.trans receiveCell_conveys, by simpa [receiveCell_cell] using same⟩
  exact step cells (h, [])

theorem mirrorSkip_conveys : (h.mirrorSkip n).conveys h := by
  have skip {x : MirrorSt} {m r : Entry} : (((h.setMirror n x).bump m 32 1).flag r 3).conveys h := conveys_of_eq
  exact ite_conveys skip (fire_conveys.trans skip)

theorem mirrorClose_conveys : (h.mirrorClose n).conveys h := ite_conveys .refl conveys_of_eq

theorem mirrorCell_conveys {x : Cell} : (h.mirrorCell k p x).conveys h := by
  refine foldl_conveys (fun h s => ite_conveys (ite_conveys mirrorSkip_conveys ?_) .refl) _ .refl
  exact ite_conveys (mirrorClose_conveys.trans (setMirror_conveys.trans charge_conveys)) (setMirror_conveys.trans charge_conveys)

theorem eccCorrected_conveys {region : Nat} : (h.eccCorrected region).conveys h := by
  unfold eccCorrected
  extract_lets sec m sw h1
  have h1c : h1.conveys h := tally_conveys.trans conveys_of_eq
  exact ite_conveys (fire_conveys.trans (flag_conveys.trans h1c)) h1c

/-- A sound word is read: it is as it was, or corrected (R262). -/
theorem eccRead_of_sound {reader : Nat} (hs : h.wordSound 3 0) :
    (h.eccRead reader 3 0).1.conveys h ∧ (h.eccRead reader 3 0).2 = false := by
  unfold eccRead
  split
  · exact ⟨.refl, rfl⟩
  next d hd =>
    have found := List.find?_some hd
    simp only [Bool.and_eq_true, decide_eq_true_eq] at found
    obtain ⟨region, addr⟩ := found
    have few : d.2.2 ≤ 2 := hs d (List.mem_of_find?_eq_some hd) region addr
    have gone {x : SwSt} (hx : x.damaged = h.sw.damaged.filter (fun y => decide (y ≠ d))) : ({ h with sw := x } : Hub).conveys h := by
      refine ⟨fun p => ⟨(h.link p).freed, rfl⟩, fun hs y hy => ?_, List.suffix_refl _⟩
      exact hs y (List.mem_of_mem_filter (hx ▸ hy))
    dsimp only
    rw [if_pos few]
    exact ⟨eccCorrected_conveys.trans (gone rfl), rfl⟩

/-- The context of a SYSTEM tunnel is read from a sound word. -/
theorem tunnelRead_of_sound {reader : Nat} (hs : h.wordSound 3 0) : (h.tunnelRead reader (sysCtx p)).1.conveys h := by
  obtain ⟨conveys, sound⟩ := h.eccRead_of_sound (reader := reader) hs
  have system : ¬(sysCtx p ≠ 0 ∧ sysCtx p < 256) := by unfold sysCtx; omega
  unfold tunnelRead
  rw [if_neg system]
  extract_lets r u
  have sound : ¬r.2 = true := by simp [r, sound]
  rw [if_neg sound]
  exact conveys

theorem doneOpt_conveys {o : Option Nat} {status : Nat} {b : Bytes} : (h.doneOpt o status b).conveys h :=
  doneOpt_keeps.conveys doneOpt_calm

theorem domStays_conveys {why : Nat} : (h.domStays n why).conveys h :=
  fire_conveys.trans (flag_conveys.trans (setDomain_keeps.conveys setDomain_calm))

theorem linkTraffic_conveys : (h.linkTraffic p).conveys h := ite_conveys (doneOpt_conveys.trans domStays_conveys) .refl

theorem widen_conveys : (h.widen e).conveys h := ite_conveys (foldl_conveys (fun _ _ => wakeLane_conveys) _ .refl) .refl

theorem queueCell_conveys {b : BufCell} : (h.queueCell e b).conveys h :=
  linkTraffic_conveys.trans (widen_conveys.trans conveys_of_eq)

theorem cellRoute_conveys {b : BufCell} : (h.cellRoute p i b).conveys h :=
  ite_conveys queueCell_conveys (queueCell_conveys.trans updCtx_conveys)

theorem cellFree_conveys {b : BufCell} : (h.cellFree p b).conveys h := by
  unfold cellFree
  split
  · exact freeWords_conveys
  · exact freed_conveys.trans (open_keeps.conveys calm_of_eq)

/-- A cell of a SYSTEM tunnel with a right TYPE and LEN (R111). -/
def systemCell (c : Cell) : Prop := c.index = 0 ∧ c.ctype = 1 ∧ c.len ≤ 28

theorem cellIn_conveys {b : BufCell} (hb : systemCell b.cell) (hs : h.wordSound 3 0) : (h.cellIn p b).conveys h := by
  obtain ⟨index, ctype, len⟩ := hb
  unfold cellIn
  extract_lets c h1 h2
  have h1c : h1.conveys h := mirrorCell_conveys.trans tally_conveys
  have h2c : h2.conveys h := (tunnelRead_of_sound (h1c.sound hs)).trans h1c
  have formed : ¬((c.ctype ≠ 1 ∧ c.ctype ≠ 2) ∨ 28 < c.len) := by simp only [c, ctype]; omega
  rw [if_neg formed, if_pos index]
  exact ite_conveys (cellRoute_conveys.trans h2c) (cellFree_conveys.trans h2c)

theorem cellsIn_conveys (cells : List BufCell) :
    ∀ h : Hub, (∀ b ∈ cells, systemCell b.cell) → h.wordSound 3 0 → (cells.foldl (fun h b => h.cellIn p b) h).conveys h := by
  induction cells with
  | nil => exact fun _ _ _ => .refl
  | cons b bs ih =>
    intro h hb hs
    have first : (h.cellIn p b).conveys h := cellIn_conveys (hb b List.mem_cons_self) hs
    exact (ih _ (fun x hx => hb x (List.mem_cons_of_mem _ hx)) (first.sound hs)).trans first

end Operations
end Sys2Proof.Machine.Hub

/-! ### The acknowledgement a link sends (R117, R120, R122) -/

namespace Sys2Proof.Machine

set_option Elab.async false

/-- The link once its acknowledgement has been taken up at time `t`. -/
def LinkSt.ackTaken (x : LinkSt) (t : Nat) : LinkSt :=
  { x with nakDue := false, unacked := 0, awaiting := x.awaiting || x.nakDue, nakAt := if x.nakDue then some t else x.nakAt }

/-- The link once ACK_SEQ `q` has been taken (R117, R118). -/
def LinkSt.ackedTo (x : LinkSt) (q : Nat) : LinkSt :=
  { x with
    acked := q, replay := x.replay.filter (fun g => !decide (gap 16 q g.seq < 32768)),
    resend := x.resend.filter (fun s => decide (32768 ≤ gap 16 q s)) }

/-- The link with its next group accepted (R116). -/
def LinkSt.accepted (x : LinkSt) : LinkSt :=
  { x with rxNext := (x.rxNext + 1) % 65536, awaiting := false, nakAt := none, unacked := x.unacked + 1 }

end Sys2Proof.Machine

namespace Sys2Proof.Machine.Hub

set_option Elab.async false

section Operations

variable {h : Hub} {p n q : Nat}

theorem keeps.link {a b : Hub} {l : List Part} (hab : a.keeps b l) (hl : Part.links ∉ l := by decide) : a.link p = b.link p :=
  link_congr (hab .links hl)

theorem laneLogical_congr {a b : Hub} (hl : a.lanes = b.lanes) : a.laneLogical n = b.laneLogical n := by
  rw [laneLogical, lane_congr hl, laneLogical]

theorem lanesUp_congr {a b : Hub} (hl : a.lanes = b.lanes) : a.lanesUp p = b.lanesUp p := by
  simp only [lanesUp, lanesIn_congr hl, laneLogical_congr hl]

/-- The lane of control blocks and those of groups are found by the lanes and by which of them wait for the boundary. -/
theorem ctrlLane_congr {a b : Hub} (hl : a.lanes = b.lanes) (hj : (a.link p).joining = (b.link p).joining) :
    a.ctrlLane p = b.ctrlLane p := by
  unfold ctrlLane
  rw [hj, lanesUp_congr hl]
  simp only [lane_congr hl]

theorem txLanes_congr {a b : Hub} (hl : a.lanes = b.lanes) (hj : (a.link p).joining = (b.link p).joining) :
    a.txLanes p = b.txLanes p := by
  unfold txLanes
  rw [hj, lanesIn_congr hl]
  simp only [lane_congr hl, laneLogical_congr hl]

theorem takeAck_link : (h.takeAck p).1.link p = (h.link p).ackTaken h.clock := by
  have links : (h.takeAck p).1.links = (h.updLink p (·.ackTaken h.clock)).links := by
    dsimp only [takeAck]
    split
    · rfl
    · rfl
  exact (link_congr links).trans updLink_link_same

theorem takeAck_joining : ((h.takeAck p).1.link p).joining = (h.link p).joining := by
  rw [takeAck_link]
  rfl

theorem takeAck_lanes : (h.takeAck p).1.lanes = h.lanes := takeAck_keeps .lanes (by decide)

theorem takeAck_out : (h.takeAck p).1.out = h.out := takeAck_keeps .out (by decide)

theorem takeAck_ctrlLane : (h.takeAck p).1.ctrlLane p = h.ctrlLane p := ctrlLane_congr takeAck_lanes takeAck_joining

theorem blockOn_gave {b : Bytes} : (h.blockOn p n b).gave h (.block p n b) :=
  gave_emit.mono (List.suffix_refl _) wakeLane_calm.out

theorem idleSend_gave : (h.idleSend p).gave h (.block p (h.ctrlLane p) (idleBytes (h.ackNow p))) := by
  have sent : (h.idleSend p).gave (h.takeAck p).1 (.block p ((h.takeAck p).1.ctrlLane p) (idleBytes (h.ackNow p))) := blockOn_gave
  rw [takeAck_ctrlLane] at sent
  exact sent.mono (List.suffix_refl _) (by rw [takeAck_out])

theorem idleSend_link : (h.idleSend p).link p = (h.link p).ackTaken h.clock := blockOut_keeps.link.trans takeAck_link

/-- A NAK that leaves sets GROUP_BAD (R139). -/
theorem idleSend_groupBad (hn : (h.link p).nakDue = true) : bit 0 ((h.idleSend p).reg (Rg.linkFlags p)) = true := by
  have block : (h.idleSend p).regs = (h.takeAck p).1.regs := blockOut_keeps (h := (h.takeAck p).1) .regs (by decide)
  have taken : (h.takeAck p).1 = (h.updLink p (·.ackTaken h.clock)).flag (Rg.linkFlags p) 0 := if_pos hn
  rw [reg_congr block, taken, reg_flag]
  exact bit_setBit _ _

/-! ### Acknowledgements received (R117, R118) -/

/-- An acknowledgement without NAK: what it covers leaves the replay buffer and its account. -/
theorem ackRx_of_ack {k : Ack} (hr : (h.link p).state = .running) (hn : k.nak = false) :
    ∃ m, h.ackRx p k = (h.setAcct (acReplay p) m).updLink p (·.ackedTo k.ackSeq.toNat) := by
  have link (m : Nat) : h.uncharge (acReplay p) m = h.setAcct (acReplay p) (h.acct (acReplay p) - m) :=
    if_neg (by unfold acReplay; omega)
  have running : ¬(h.link p).state ≠ .running := not_not.2 hr
  unfold ackRx
  extract_lets x q' gone m h1
  rw [if_neg running, if_neg (by simp [hn])]
  refine ⟨h.acct (acReplay p) - m, ?_⟩
  unfold h1
  rw [link]
  rfl

/-! ### Groups received (R116) -/

theorem heldDeliver_of_none (hh : (h.link p).heldGroups = []) : h.heldDeliver p n = h := by
  cases n with
  | zero => rfl
  | succ n => simp [heldDeliver, hh]

/-- A group of SYSTEM cells delivered: the link has accepted it, and the sixteenth is acknowledged at once. -/
theorem groupDeliver_of_system {cells : List BufCell} (hc : ∀ b ∈ cells, systemCell b.cell) (hs : h.wordSound 3 0) :
    ∃ g : Hub, (∃ x, g.link p = (h.link p).accepted.freedAs x) ∧ h.out <:+ g.out ∧
      h.groupDeliver p cells = if 15 ≤ (h.link p).unacked then g.idleSend p else g := by
  unfold groupDeliver
  extract_lets h1 h2
  have h1l : h1.link p = (h.link p).accepted := updLink_link_same
  have h2c : h2.conveys h1 := cellsIn_conveys cells h1 hc hs
  obtain ⟨x, hx⟩ := h2c.link p
  have count : 16 ≤ (h2.link p).unacked ↔ 15 ≤ (h.link p).unacked := by
    rw [hx, h1l]
    simp [LinkSt.accepted, LinkSt.freedAs]
  exact ⟨h2, ⟨x, by rw [hx, h1l]⟩, h2c.out, if_congr count rfl rfl⟩

end Operations
end Sys2Proof.Machine.Hub

namespace Sys2Proof.Machine

set_option Elab.async false

/-- A link that owes a NAK (R117). -/
def LinkSt.nakOwed (x : LinkSt) : LinkSt := { x with nakDue := true }

/-- A link that holds one more early group (R116). -/
def LinkSt.holding (x : LinkSt) (g : Group) : LinkSt := { x with heldGroups := x.heldGroups ++ [g] }

/-- A link whose open group on a lane is closed (R114). -/
def LinkSt.closing (x : LinkSt) (g : Group) (n : Nat) : LinkSt :=
  { x.keepGroup g with openGroups := x.openGroups.filter (fun k => decide (k.lane ≠ n)) }

/-- A link that sends these groups again. -/
def LinkSt.resending (x : LinkSt) (seqs : List Nat) : LinkSt := { x with resend := seqs }

/-- A link that keeps a group as it is sent again (R118). -/
def LinkSt.replaying (x : LinkSt) (g : Group) : LinkSt := { x with replay := x.replay.map (fun k => if k.seq = g.seq then g else k) }

/-- A group as it is sent once more on a lane (R118). -/
def Group.again (g : Group) (n : Nat) : Group := { g with lane := n, replays := g.replays + 1 }

end Sys2Proof.Machine

namespace Sys2Proof.Machine.Hub

set_option Elab.async false

section Operations

variable {h : Hub} {p n seq : Nat} {cells : List Cell} {g : Group} {k : Ack}

@[simp] theorem updLink_reg {f : LinkSt → LinkSt} {m : Entry} : (h.updLink p f).reg m = h.reg m := rfl
@[simp] theorem updLink_out {f : LinkSt → LinkSt} : (h.updLink p f).out = h.out := rfl
@[simp] theorem settle_link : h.settle.link p = h.link p := rfl

/-- A tally or IDLE block with an acknowledgement wakes its receiver, and the link is acknowledged to its ACK_SEQ. -/
theorem wakeAck_of_ack (hr : (h.link p).state = .running) (hn : k.nak = false) :
    (((h.rxWake n).ackRx p k).link p = (h.link p).ackedTo k.ackSeq.toNat) ∧ ((h.rxWake n).ackRx p k).out = h.out ∧
      ((h.rxWake n).ackRx p k).sw.damaged = h.sw.damaged := by
  have woken : (h.rxWake n).link p = h.link p := rxWake_keeps.link
  have out : (h.rxWake n).out = h.out := rxWake_keeps .out (by decide)
  have sw : (h.rxWake n).sw = h.sw := rxWake_keeps .sw (by decide)
  obtain ⟨m, hm⟩ := (h.rxWake n).ackRx_of_ack (by rwa [woken]) hn
  rw [hm]
  have damaged : (h.rxWake n).sw.damaged = h.sw.damaged := congrArg SwSt.damaged sw
  exact ⟨updLink_link_same.trans (congrArg (·.ackedTo k.ackSeq.toNat) woken), out, damaged⟩

/-! ### A group that ends with its tally (R116) -/

/-- The next group, of SYSTEM cells, with none held: it is delivered, and the sixteenth is acknowledged at once. -/
theorem groupRx_of_next (hr : (h.link p).state = .running) (hh : (h.link p).heldGroups = []) (hs : h.wordSound 3 0)
    (hseq : seq = (h.link p).rxNext) (hc : ∀ c ∈ cells, systemCell c) :
    ∃ b : Hub, (∃ x, b.link p = (h.link p).accepted.freedAs x) ∧ h.out <:+ b.out ∧
      h.groupRx p n cells seq true = if 15 ≤ (h.link p).unacked then b.idleSend p else b := by
  obtain ⟨conveys, same⟩ := (h.linkTraffic p).receiveCells_conveys (p := p) (cells := cells)
  have conveyed := conveys.trans linkTraffic_conveys
  obtain ⟨y, hy⟩ := conveyed.link p
  have system : ∀ b ∈ ((h.linkTraffic p).receiveCells p cells).2, systemCell b.cell :=
    fun b hb => hc _ (same ▸ List.mem_map_of_mem hb)
  obtain ⟨b, ⟨x, hx⟩, hout, hb⟩ := groupDeliver_of_system (p := p) system (conveyed.sound hs)
  have linked : b.link p = (h.link p).accepted.freedAs x := by rw [hx, hy]; rfl
  refine ⟨b, ⟨x, linked⟩, conveyed.out.trans hout, ?_⟩
  have held : ((if 15 ≤ (h.link p).unacked then b.idleSend p else b).link p).heldGroups = [] := by
    split
    · rw [idleSend_link, linked]
      exact hh
    · rw [linked]
      exact hh
  have delivered : h.groupRx p n cells seq true =
      (((h.linkTraffic p).receiveCells p cells).1.groupDeliver p ((h.linkTraffic p).receiveCells p cells).2).heldDeliver p 3 := by
    unfold groupRx
    extract_lets x d r
    have next : d = 0 := by simp [d, x, hseq, gap_self]
    rw [if_neg (not_not.2 hr), if_neg (by simp), if_pos next]
  rw [delivered, hb, hy]
  exact heldDeliver_of_none held

/-- What the delivery of the next group leaves: the link has accepted it, and the sixteenth has drawn an IDLE block. -/
theorem groupRx_next_leaves (hr : (h.link p).state = .running) (hh : (h.link p).heldGroups = []) (hs : h.wordSound 3 0)
    (hseq : seq = (h.link p).rxNext) (hc : ∀ c ∈ cells, systemCell c) :
    ((h.groupRx p n cells seq true).link p).rxNext = ((h.link p).rxNext + 1) % 65536 ∧
      ((h.groupRx p n cells seq true).link p).acked = (h.link p).acked ∧
      ((h.groupRx p n cells seq true).link p).unacked = (if 15 ≤ (h.link p).unacked then 0 else (h.link p).unacked + 1) ∧
      (15 ≤ (h.link p).unacked → (h.groupRx p n cells seq true).sentBlock h p
        (idleBytes ⟨(h.link p).nakDue, BitVec.ofNat 16 (gap 16 (((h.link p).rxNext + 1) % 65536) 1)⟩)) := by
  obtain ⟨b, ⟨x, hx⟩, grown, heq⟩ := groupRx_of_next (n := n) hr hh hs hseq hc
  rw [heq]
  split
  next sixteenth =>
    rw [idleSend_link, hx]
    have gave := (b.idleSend_gave (p := p)).mono (List.suffix_refl _) grown
    rw [ackNow, hx] at gave
    exact ⟨rfl, rfl, rfl, fun _ => ⟨_, gave⟩⟩
  next fewer =>
    rw [hx]
    exact ⟨rfl, rfl, rfl, fun h => absurd h fewer⟩

/-- An early group is held with its cells as they came. -/
theorem groupRx_of_early (hr : (h.link p).state = .running) (ha : (h.link p).awaiting = false) (h0 : 0 < gap 16 seq (h.link p).rxNext)
    (h3 : gap 16 seq (h.link p).rxNext ≤ 3) (hh : ∀ g ∈ (h.link p).heldGroups, g.seq ≠ seq) :
    ∃ (x : Tab Nat) (b : List BufCell), b.map (·.cell) = cells ∧
      (h.groupRx p n cells seq true).link p = ((h.link p).freedAs x).holding ⟨seq, n, b, 0⟩ := by
  obtain ⟨conveys, same⟩ := h.receiveCells_conveys (p := p) (cells := cells)
  obtain ⟨x, hx⟩ := conveys.link p
  refine ⟨x, (h.receiveCells p cells).2, same, ?_⟩
  have none_ : ¬(h.link p).heldGroups.any (fun g => decide (g.seq = seq)) = true := by simpa using hh
  have held : h.groupRx p n cells seq true =
      (h.receiveCells p cells).1.updLink p (·.holding ⟨seq, n, (h.receiveCells p cells).2, 0⟩) := by
    unfold groupRx
    extract_lets y d r r'
    have later : d ≠ 0 := by simp only [d, y]; omega
    have ahead : ¬32768 ≤ d := by simp only [d, y]; omega
    have near : ¬3 < d := by simp only [d, y]; omega
    rw [if_neg (not_not.2 hr), if_neg (by simp), if_neg later, if_neg ahead, if_neg (by simp [y, ha]), if_neg near, if_neg none_]
    rfl
  rw [held, updLink_link_same, hx]

/-- A bad group, no NAK having left for RX_NEXT and no group being open, draws a NAK in an IDLE block (R117, R139). -/
theorem groupRx_of_bad (hr : (h.link p).state = .running) (hn : (h.link p).nakAt = none) (ho : (h.link p).openGroups = [])
    (ht : h.txLanes p ≠ []) :
    ∃ b : Hub, b.link p = (h.link p).nakOwed ∧ b.out = h.out ∧ h.groupRx p n cells seq false = b.idleSend p := by
  have counted : ∃ c : Hub, c.links = h.links ∧ c.out = h.out ∧ c.lanes = h.lanes ∧
      h.groupRx p n cells seq false = (c.nakRaise p).ackFlush p := by
    unfold groupRx
    extract_lets x
    rw [if_neg (not_not.2 hr), if_pos (by simp)]
    split
    · exact ⟨_, tally_keeps .links (by decide), tally_keeps .out (by decide), tally_keeps .lanes (by decide), rfl⟩
    · exact ⟨h, rfl, rfl, rfl, rfl⟩
  obtain ⟨c, links, out, lanes, heq⟩ := counted
  have same : c.link p = h.link p := link_congr links
  have raised : c.nakRaise p = c.updLink p LinkSt.nakOwed := by
    unfold nakRaise
    rw [same, hn]
    rfl
  have owed : (c.updLink p LinkSt.nakOwed).link p = (h.link p).nakOwed := by rw [updLink_link_same, same]
  have flushes : ((c.updLink p LinkSt.nakOwed).link p).nakDue = true ∧ ((c.updLink p LinkSt.nakOwed).link p).openGroups = [] ∧
      (c.updLink p LinkSt.nakOwed).txLanes p ≠ [] := by
    rw [txLanes_congr (a := c.updLink p LinkSt.nakOwed) (b := h) lanes (by rw [owed]; rfl), owed]
    exact ⟨rfl, ho, ht⟩
  refine ⟨c.updLink p LinkSt.nakOwed, owed, out, ?_⟩
  rw [heq, raised]
  exact if_pos flushes

/-! ### Groups sent, and sent again (R114, R118, R119) -/

theorem groupOut_link : (h.groupOut p g).link p = (h.link p).ackTaken h.clock := by
  have clock : (h.wakeLane g.lane).clock = h.clock := wakeLane_keeps .clock (by decide)
  have taken : (h.groupOut p g).link p = ((h.wakeLane g.lane).link p).ackTaken (h.wakeLane g.lane).clock := takeAck_link
  rw [taken, clock, wakeLane_keeps.link]

theorem groupOut_gave :
    (h.groupOut p g).gave h (.group p g.lane (g.cells.map (·.cell)) (tallyBytes (g.cells.map (·.cell)) g.seq (h.ackNow p))) := by
  have woken : (h.wakeLane g.lane).link p = h.link p := wakeLane_keeps.link
  have ack : (h.wakeLane g.lane).ackNow p = h.ackNow p := by rw [ackNow, woken]
  rw [← ack]
  refine (gave_emit (h := ((h.wakeLane g.lane).takeAck p).1)).mono (List.suffix_refl _) ?_
  rw [takeAck_out]
  exact wakeLane_calm.out

/-- Of LINK_FLAGS, a group that leaves sets GROUP_BAD at most. -/
theorem groupOut_flag {i : Nat} (hi : i ≠ 0) : bit i ((h.groupOut p g).reg (Rg.linkFlags p)) = bit i (h.reg (Rg.linkFlags p)) := by
  have woken : (h.wakeLane g.lane).regs = h.regs := wakeLane_keeps .regs (by decide)
  change bit i (((h.wakeLane g.lane).takeAck p).1.reg (Rg.linkFlags p)) = _
  dsimp only [takeAck]
  split
  · rw [reg_flag, bit_setBit_ne _ hi]
    exact congrArg (bit i) (reg_congr woken _)
  · exact congrArg (bit i) (reg_congr woken _)

/-- A group that leaves and is counted: the link's acknowledgement is taken up, LINK_FLAGS keeps what it had but GROUP_BAD. -/
theorem groupOut_counted {item : Nat} :
    ((h.groupOut p g).tally item p 1).link p = (h.link p).ackTaken h.clock ∧
      (∀ i, i ≠ 0 → bit i (((h.groupOut p g).tally item p 1).reg (Rg.linkFlags p)) = bit i (h.reg (Rg.linkFlags p))) ∧
      ((h.groupOut p g).tally item p 1).gave h
        (.group p g.lane (g.cells.map (·.cell)) (tallyBytes (g.cells.map (·.cell)) g.seq (h.ackNow p))) := by
  refine ⟨tally_keeps.link.trans groupOut_link, fun i hi => ?_, groupOut_gave.mono tally_calm.out (List.suffix_refl _)⟩
  rw [reg_congr (tally_regs _ _ _ _), groupOut_flag hi]

/-- A group that is closed leaves its lane and stands in the replay buffer. -/
theorem groupClose_of_open (hg : (h.link p).openGroups.find? (fun g => decide (g.lane = n)) = some g) :
    (∀ k ∈ ((h.groupClose p n).link p).openGroups, k.lane ≠ n) ∧ g ∈ ((h.groupClose p n).link p).replay ∧
      (h.groupClose p n).gave h (.group p n (g.cells.map (·.cell)) (tallyBytes (g.cells.map (·.cell)) g.seq (h.ackNow p))) := by
  obtain rfl : g.lane = n := by simpa using List.find?_some hg
  have heq : h.groupClose p g.lane = ((h.updLink p (·.closing g g.lane)).groupOut p g).tally 0x0201 p 1 := by
    unfold groupClose
    rw [hg]
    rfl
  obtain ⟨linked, -, gave⟩ := (h.updLink p (·.closing g g.lane)).groupOut_counted (p := p) (g := g) (item := 0x0201)
  rw [updLink_link_same] at linked
  have ack : (h.updLink p (·.closing g g.lane)).ackNow p = h.ackNow p := by
    rw [ackNow, updLink_link_same]
    rfl
  rw [heq, linked]
  refine ⟨fun k hk => ?_, mem_insertGroup, ?_⟩
  · simpa using (List.mem_filter.1 hk).2
  · rw [← ack]
    exact gave

theorem groupClose_of_none (ho : (h.link p).openGroups = []) : h.groupClose p n = h := by
  unfold groupClose
  rw [ho]
  rfl

/-- Sound words are read as they stand. -/
theorem replayRead_of_sound (hs : ∀ b ∈ g.cells, b.damage = 0) : h.replayRead g = (h, g) := by
  unfold replayRead
  extract_lets one r
  have step (bs : List BufCell) : ∀ r : Hub × List BufCell, (∀ b ∈ bs, b.damage = 0) → bs.foldl one r = (r.1, r.2 ++ bs) := by
    induction bs with
    | nil => exact fun r _ => by simp
    | cons b bs ih =>
      intro r hb
      have first : one r b = (r.1, r.2 ++ [b]) := if_pos (hb b List.mem_cons_self)
      rw [List.foldl_cons, first, ih _ fun x hx => hb x (List.mem_cons_of_mem _ hx)]
      simp
  have all : r = (h, g.cells) := by simpa [r] using step g.cells (h, []) hs
  rw [all]

/-- A group of sound words is sent again: the link keeps it as it went out. -/
theorem replayGroup_of_sound (hs : ∀ b ∈ g.cells, b.damage = 0) :
    h.replayGroup p g = ((h.updLink p (·.replaying g)).groupOut p g).tally 0x0202 p 1 := by
  unfold replayGroup
  rw [replayRead_of_sound hs]
  rfl

/-- The one group that is due goes out on the first transmitting lane, once more. -/
theorem resendRun_of_one (hr : (h.link p).state = .running) (hp : (h.link p).replay = [g]) (hd : (h.link p).resend = [g.seq])
    (ht : h.txLanes p ≠ []) :
    h.resendRun p = (h.updLink p (·.resending [])).replayGroup p (g.again ((h.txLanes p).getD 0 0)) := by
  unfold resendRun
  extract_lets x lanes due
  have goes : ¬(x.resend = [] ∨ lanes = [] ∨ x.state ≠ .running) := by simp [x, lanes, hr, hd, ht]
  have one : due = [g.again (lanes.getD 0 0)] := by simp [due, x, hp, hd, Group.again]
  rw [if_neg goes, one]
  rfl

/-- The replay of the one group that a link keeps, no group being open and its limit not reached. -/
theorem replayAll_of_one (hr : (h.link p).state = .running) (hp : (h.link p).replay = [g]) (ho : (h.link p).openGroups = [])
    (hl : g.replays < h.val (Od.linkReplayLimit p)) (ht : h.txLanes p ≠ []) :
    h.replayAll p =
      ((h.updLink p (·.resending [g.seq])).updLink p (·.resending [])).replayGroup p (g.again ((h.txLanes p).getD 0 0)) := by
  unfold replayAll
  extract_lets h1 h2 worn
  have h1e : h1 = h := List.foldl_fixed' (fun _ => groupClose_of_none ho) _
  have h2e : h2 = h.updLink p (·.resending [g.seq]) := by
    unfold h2
    rw [h1e]
    change h.setLink p ((h.link p).resending ((h.link p).replay.map (·.seq))) = _
    rw [hp]
    rfl
  have due : h2.link p = (h.link p).resending [g.seq] := by rw [h2e, updLink_link_same]
  have kept : (h2.link p).replay = [g] := by rw [due]; exact hp
  have wornNone : worn = [] := by
    have limit : h2.val (Od.linkReplayLimit p) = h.val (Od.linkReplayLimit p) := by rw [h2e]; rfl
    simp [worn, kept, limit, hl]
  have lanes : h2.txLanes p = h.txLanes p := txLanes_congr (by rw [h2e]; rfl) (by rw [due]; rfl)
  rw [wornNone, List.foldl_nil, resendRun_of_one (by rw [due]; exact hr) kept (by rw [due]; rfl) (by rwa [lanes]), lanes, h2e]

/-- What the replay of that group leaves: it stands in the buffer as it went out, and LINK_FLAGS keeps what it had but GROUP_BAD. -/
theorem replayAll_leaves (hr : (h.link p).state = .running) (hp : (h.link p).replay = [g]) (ho : (h.link p).openGroups = [])
    (hl : g.replays < h.val (Od.linkReplayLimit p)) (ht : h.txLanes p ≠ []) (hs : ∀ b ∈ g.cells, b.damage = 0) :
    ((h.replayAll p).link p).replay = [⟨g.seq, (h.txLanes p).getD 0 0, g.cells, g.replays + 1⟩] ∧
      (∀ i, i ≠ 0 → bit i ((h.replayAll p).reg (Rg.linkFlags p)) = bit i (h.reg (Rg.linkFlags p))) ∧
      (h.replayAll p).gave h (.group p ((h.txLanes p).getD 0 0) (g.cells.map (·.cell))
        (tallyBytes (g.cells.map (·.cell)) g.seq (h.ackNow p))) := by
  rw [replayAll_of_one hr hp ho hl ht, replayGroup_of_sound (g := g.again _) hs]
  generalize (h.txLanes p).getD 0 0 = n
  generalize hb : ((h.updLink p (·.resending [g.seq])).updLink p (·.resending [])).updLink p (·.replaying (g.again n)) = b
  have linked : b.link p = (((h.link p).resending [g.seq]).resending []).replaying (g.again n) := by
    simp only [← hb, updLink_link_same]
  have ack : b.ackNow p = h.ackNow p := by
    rw [ackNow, linked]
    rfl
  have flagged : b.reg (Rg.linkFlags p) = h.reg (Rg.linkFlags p) := by simp only [← hb, updLink_reg]
  have out : b.out = h.out := by simp only [← hb, updLink_out]
  obtain ⟨taken, flags, gave⟩ := b.groupOut_counted (p := p) (g := g.again n) (item := 0x0202)
  rw [linked] at taken
  rw [ack] at gave
  refine ⟨?_, fun i hi => by rw [flags i hi, flagged], gave.mono (List.suffix_refl _) (by rw [out])⟩
  rw [taken]
  change (h.link p).replay.map (fun k => if k.seq = g.seq then g.again n else k) = _
  rw [hp]
  simp [Group.again]

end Operations
end Sys2Proof.Machine.Hub

namespace Sys2Proof.Machine

set_option Elab.async false

/-- Settles O19: each clause is one operation of the transport, whose equation says what the link is left with and what leaves. -/
theorem groupsAreDeliveredAcknowledgedAndReplayed : Obligations.GroupsAreDeliveredAcknowledgedAndReplayed := by
  refine ⟨?next, ?early, ?bad, ?idle, ?unknown, ?badCrc, ?closed, ?replayed, ?due⟩
  case next =>
    intro s l cells seq ack live running none_ sound count noNak system
    obtain ⟨linked, out, damaged⟩ := s.hub.wakeAck_of_ack (n := l.val) running noNak
    refine completes_onHub
      (fun h => ((h.rxWake l.val).ackRx (lanePort l.val) ack).groupRx (lanePort l.val) l.val cells seq.toNat true) live ?_
    generalize (s.hub.rxWake l.val).ackRx (lanePort l.val) ack = h at linked out damaged
    obtain ⟨rxNext, acked, unacked, idle⟩ := Hub.groupRx_next_leaves (h := h) (p := lanePort l.val) (n := l.val) (cells := cells)
      (seq := seq.toNat) (by rw [linked]; exact running) (by rw [linked]; exact none_) (by rwa [Hub.wordSound, damaged])
      (by rw [linked]; exact count) system
    rw [linked] at rxNext acked unacked idle
    refine ⟨rxNext, acked, unacked, fun sixteenth => ?_⟩
    obtain ⟨n, gave⟩ := idle sixteenth
    have named : BitVec.ofNat 16 (gap 16 ((((s.hub.link (lanePort l.val)).ackedTo ack.ackSeq.toNat).rxNext + 1) % 65536) 1) = seq := by
      change BitVec.ofNat 16 (gap 16 (((s.hub.link (lanePort l.val)).rxNext + 1) % 65536) 1) = seq
      rw [← count]
      exact gap_succ_one seq
    rw [named] at gave
    exact ⟨n, (gave.mono (List.suffix_refl _) (by rw [out] : s.hub.out <:+ h.out)).settled⟩
  case early =>
    intro s l cells seq ack live running noNak noAwait ahead near fresh
    obtain ⟨linked, -, -⟩ := s.hub.wakeAck_of_ack (n := l.val) running noNak
    refine completes_onHub
      (fun h => ((h.rxWake l.val).ackRx (lanePort l.val) ack).groupRx (lanePort l.val) l.val cells seq.toNat true) live ?_
    generalize (s.hub.rxWake l.val).ackRx (lanePort l.val) ack = h at linked
    obtain ⟨x, b, cells_, held⟩ := Hub.groupRx_of_early (h := h) (p := lanePort l.val) (n := l.val) (cells := cells) (seq := seq.toNat)
      (by rw [linked]; exact running) (by rw [linked]; exact noAwait) (by rw [linked]; exact ahead) (by rw [linked]; exact near)
      (by rw [linked]; exact fresh)
    rw [linked] at held
    refine ⟨(congrArg LinkSt.rxNext held :), ?_⟩
    rw [Hub.settle_link, held, ← cells_]
    exact List.map_append
  case bad =>
    intro s l cells seq ack live running noNak closed lanes
    refine completes_onHub (fun h => h.groupRx (lanePort l.val) l.val cells seq.toNat false) live ?_
    obtain ⟨b, linked, out, heq⟩ := Hub.groupRx_of_bad (n := l.val) (cells := cells) (seq := seq.toNat) running noNak closed lanes
    rw [heq]
    have taken := b.idleSend_link (p := lanePort l.val)
    rw [linked] at taken
    have gave := (b.idleSend_gave (p := lanePort l.val)).mono (List.suffix_refl _) (by rw [out] : s.hub.out <:+ b.out)
    have block : b.ackNow (lanePort l.val) = ⟨true, BitVec.ofNat 16 (gap 16 (s.hub.link (lanePort l.val)).rxNext 1)⟩ := by
      rw [Hub.ackNow, linked]
      rfl
    rw [block] at gave
    refine ⟨(congrArg LinkSt.rxNext taken :), (congrArg LinkSt.awaiting taken).trans (Bool.or_true _), ⟨_, gave.settled⟩, ?_⟩
    exact Hub.idleSend_groupBad (by rw [linked]; rfl)
  case idle =>
    intro s l ack live running noNak
    refine completes_onHub (fun h => (h.rxWake l.val).ackRx (lanePort l.val) ack) live ?_
    obtain ⟨linked, -, -⟩ := s.hub.wakeAck_of_ack (n := l.val) running noNak
    refine ⟨(congrArg LinkSt.acked linked :), (congrArg LinkSt.replay linked).trans ?_⟩
    exact List.filter_congr fun g _ => by rw [Bool.eq_iff_iff]; simp
  case unknown =>
    intro s l code live
    refine completes_onHub
      (fun h => (h.rxWake l.val).updLink (lanePort l.val) (fun x => { x with ctrlUnknown := x.ctrlUnknown + 1 })) live ?_
    have woken : (s.hub.rxWake l.val).link (lanePort l.val) = s.hub.link (lanePort l.val) := Hub.rxWake_keeps.link
    rw [Hub.settle_link, Hub.updLink_link_same, woken]
    exact ⟨rfl, rfl⟩
  case badCrc =>
    intro s l b live
    refine completes_onHub
      (fun h => (h.updLink (lanePort l.val) (fun x => { x with ctrlCrc := x.ctrlCrc + 1 })).flag (Rg.linkFlags (lanePort l.val)) 6) live ?_
    have counted (f : LinkSt → LinkSt) :
        ((s.hub.updLink (lanePort l.val) f).flag (Rg.linkFlags (lanePort l.val)) 6).link (lanePort l.val) =
          f (s.hub.link (lanePort l.val)) := Hub.updLink_link_same
    rw [Hub.settle_link, counted]
    exact ⟨rfl, rfl, Hub.bit_flag⟩
  case closed =>
    intro s l g live opened
    refine completes_onHub (fun h => h.groupClose (lanePort l.val) l.val) live ?_
    obtain ⟨left_, kept, gave⟩ := Hub.groupClose_of_open opened
    exact ⟨⟨left_, kept⟩, gave.settled⟩
  case replayed =>
    intro s p g live running one closed limit sound lanes
    have goes : s.hub.running p ∧ (s.hub.link p).replay ≠ [] := ⟨by simp [Hub.running, running], by simp [one]⟩
    refine completes_onHub
      (fun h => if h.running p ∧ (h.link p).replay ≠ [] then (h.flag (Rg.linkFlags p) 2).replayAll p else h) live ?_
    obtain ⟨kept, flags, gave⟩ := Hub.replayAll_leaves (h := s.hub.flag (Rg.linkFlags p) 2) running one closed limit lanes sound
    rw [if_pos goes]
    have same : (s.hub.flag (Rg.linkFlags p) 2).txLanes p = s.hub.txLanes p := Hub.txLanes_congr rfl rfl
    rw [same] at kept gave
    refine ⟨?_, by rw [Hub.settle_link, kept], gave.settled⟩
    rw [Hub.reg_congr (Hub.settle_regs _), flags 2 (by decide), Hub.reg_flag]
    exact bit_setBit _ _
  case due =>
    intro s p live running owed
    have goes : ¬(!s.hub.running p ∨ ((s.hub.link p).unacked = 0 ∧ !(s.hub.link p).nakDue)) := by
      rintro (stopped | ⟨none_, noNak⟩)
      · simp [Hub.running, running] at stopped
      · rcases owed with some_ | nak
        · omega
        · simp [nak] at noNak
    refine completes_onHub
      (fun h => if !h.running p ∨ ((h.link p).unacked = 0 ∧ !(h.link p).nakDue) then h else h.idleSend p) live ?_
    rw [if_neg goes]
    have taken := s.hub.idleSend_link (p := p.val)
    exact ⟨s.hub.idleSend_gave.settled, (congrArg LinkSt.unacked taken :), (congrArg LinkSt.nakDue taken :)⟩

end Sys2Proof.Machine

/-!
SUPPORT. What far-reaching operations spare. A port that fails takes its link down, with the link go tunnels and what stands at their ends,
and a domain that stops takes more: such an operation writes nearly every kind of state, and what it leaves alone is the shorter list.
`Hub.spares` names that list. It composes as the frames do: `x_spares.after y` and `x_keeps.past y` are what operation x spares after what
y spares, and `x_keeps.sparing` reads it off a frame. There is one lemma for each operation, read off its definition: its frame where it
writes few kinds of state, and what it spares where it writes many.

`Elab.async` is off for the reason the frames give.
-/

namespace Sys2Proof.Machine.Hub

set_option Elab.async false

/-- `a` has of `b` every kind of state that the list names. -/
def spares (a b : Hub) (l : List Part) : Prop := ∀ q ∈ l, a.agrees b q

/-- What the fault of a tunnel spares. -/
abbrev tunnelSpared : List Part := [.clock, .blob, .mem, .kram, .mode, .bcn, .vid, .moor, .obs]

/-- What a port that fails spares: with its link the Beacon may lose its source. -/
abbrev portSpared : List Part := [.clock, .blob, .mem, .kram, .mode, .vid, .moor, .obs]

/-- What the action of a daymark spares: it opens and closes tunnels, and captures snapshots. -/
abbrev daymarkSpared : List Part := [.clock, .blob, .mem, .kram, .mode, .bcn, .vid, .moor]

/-- What a write of a register spares. -/
abbrev registerSpared : List Part := [.clock, .blob, .mem, .kram, .mode, .vid, .moor]

/-- What a write of an entry of the dictionary spares. -/
abbrev entrySpared : List Part := [.clock, .mem, .kram]

/-- What a domain that stops spares. -/
abbrev domainSpared : List Part := [.clock, .blob, .kram, .mode, .moor, .obs]

/-- What a domain that returns to on spares. -/
abbrev bootSpared : List Part := [.clock, .blob, .mem, .kram, .obs]

theorem spares.refl {h : Hub} {l : List Part} : h.spares h l := fun q _ => h.agrees_refl q

theorem spares.trans {a b c : Hub} {l : List Part} (hab : a.spares b l) (hbc : b.spares c l) : a.spares c l :=
  fun q hq => agrees_trans (hab q hq) (hbc q hq)

/-- Of what is spared, less may be named. -/
theorem spares.fewer {a b : Hub} {l l' : List Part} (hab : a.spares b l') (hl : l ⊆ l' := by decide) : a.spares b l :=
  fun q hq => hab q (hl hq)

/-- An operation that spares more after others. -/
theorem spares.after {a b c : Hub} {l l' : List Part} (hab : a.spares b l') (hbc : b.spares c l) (hl : l ⊆ l' := by decide) : a.spares c l :=
  (hab.fewer hl).trans hbc

/-- A frame spares what it does not name. -/
theorem keeps.sparing {a b : Hub} {l l' : List Part} (hab : a.keeps b l') (hl : ∀ q ∈ l, q ∉ l' := by decide) : a.spares b l :=
  fun q hq => hab q (hl q hq)

/-- An operation with a frame after others. -/
theorem keeps.past {a b c : Hub} {l l' : List Part} (hab : a.keeps b l') (hbc : b.spares c l) (hl : ∀ q ∈ l, q ∉ l' := by decide) :
    a.spares c l :=
  (hab.sparing hl).trans hbc

/-- A choice spares what both its branches spare. -/
theorem ite_spares {a a' b : Hub} {l : List Part} {P : Prop} [Decidable P] (ht : a.spares b l) (hf : a'.spares b l) :
    (if P then a else a').spares b l := by
  split
  · exact ht
  · exact hf

/-- So does a choice between hubs that come with something besides. -/
theorem ite_fst_spares {α : Type} {x y : Hub × α} {b : Hub} {l : List Part} {P : Prop} [Decidable P] (ht : x.1.spares b l)
    (hf : y.1.spares b l) : (if P then x else y).1.spares b l := by
  split
  · exact ht
  · exact hf

/-- What a choice keeps, where the hubs come with something besides. -/
theorem ite_fst_keeps {α : Type} {x y : Hub × α} {b : Hub} {l : List Part} {P : Prop} [Decidable P] (ht : x.1.keeps b l)
    (hf : y.1.keeps b l) : (if P then x else y).1.keeps b l := by
  split
  · exact ht
  · exact hf

/-- A fold spares what each of its steps spares. -/
theorem foldl_spares {α : Type} {f : Hub → α → Hub} {a b : Hub} {l : List Part} (hf : ∀ h x, (f h x).spares h l) (xs : List α)
    (hab : a.spares b l) : (xs.foldl f a).spares b l := by
  induction xs generalizing a with
  | nil => exact hab
  | cons x xs ih => exact ih ((hf a x).trans hab)

/-- So does a fold over a hub and what it gathers. -/
theorem foldl_fst_spares {α β : Type} {l : List Part} {f : Hub × β → α → Hub × β} (hf : ∀ r x, (f r x).1.spares r.1 l) (xs : List α) :
    ∀ r : Hub × β, (xs.foldl f r).1.spares r.1 l := by
  induction xs with
  | nil => exact fun _ => .refl
  | cons x xs ih => exact fun r => (ih _).trans (hf r x)

/-- The hub that an answer holds, where it holds one, spares what the list names. -/
def sparesAll (o : Option Hub) (b : Hub) (l : List Part) : Prop := ∀ a ∈ o, a.spares b l

theorem some_sparesAll {a b : Hub} {l : List Part} (hab : a.spares b l) : sparesAll (some a) b l := by
  rintro g ⟨⟩
  exact hab

theorem none_sparesAll {b : Hub} {l : List Part} : sparesAll none b l := by simp [sparesAll]

theorem ite_sparesAll {o o' : Option Hub} {b : Hub} {l : List Part} {P : Prop} [Decidable P] (ht : sparesAll o b l)
    (hf : sparesAll o' b l) : sparesAll (if P then o else o') b l := by
  split
  · exact ht
  · exact hf

theorem sparesAll.fewer {o : Option Hub} {b : Hub} {l l' : List Part} (ho : sparesAll o b l') (hl : l ⊆ l' := by decide) :
    sparesAll o b l :=
  fun a ha => (ho a ha).fewer hl

/-- The first of several answers that holds a hub, or else a hub of its own. -/
theorem firstHub_spares {os : List (Option Hub)} {a b : Hub} {l : List Part} (ho : ∀ o ∈ os, sparesAll o b l) (ha : a.spares b l) :
    ((firstHub os).getD a).spares b l := by
  induction os with
  | nil => exact ha
  | cons o os ih =>
    cases o with
    | none => exact ih fun o hm => ho o (List.mem_cons_of_mem _ hm)
    | some g => exact ho (some g) List.mem_cons_self g rfl

section Operations

variable {h : Hub} {l : List Part}

/-! ### Accesses, commands and control blocks -/

theorem turn_spares {a : Access} {serve : Hub → Hub} (hs : ∀ h, (serve h).spares h l) (hl : ∀ q ∈ l, q ∉ [Part.ctl] := by decide) :
    (h.turn a serve).spares h l := by
  refine ite_spares ?_ .refl
  extract_lets h0
  have h0k : h0.spares h l := by
    unfold h0
    split
    · exact odapReplace_keeps.sparing hl
    · exact .refl
  exact ite_spares (keeperLeave_keeps.past ((hs _).trans (keeperJoin_keeps.past h0k hl)) hl) (keeperJoin_keeps.past h0k hl)

theorem issue_spares {r : Path} {c code tag : Nat} {args : Bytes} {arg : Option Abort} {st : Option Nat} {start : Hub → Hub}
    (hs : ∀ h, (start h).spares h l) (hl : ∀ q ∈ l, q ∉ [Part.out, .ctl, .eng, .io] := by decide) :
    (h.issue r c code tag args arg st start).spares h l := by
  have hc : ∀ q ∈ l, q ∉ [Part.ctl] := fun q hq hm => hl q hq (List.subset_def.1 (by decide) hm)
  have refused {g : Hub} {status : Abort} : (g.answer r status []).spares g l := answer_keeps.sparing hl
  refine ite_spares ?_ .refl
  split
  · exact refused
  · split
    · exact refused
    · refine ite_spares refused ?_
      split
      · exact refused
      · exact (hs _).trans (refused.trans (accept_keeps.sparing hc))

theorem checked_spares {p : Nat} {crcOk : Bool} {f : Hub → Hub} (hf : ∀ h, (f h).spares h l)
    (hl : ∀ q ∈ l, q ∉ [Part.regs, .links] := by decide) : (h.checked p crcOk f).spares h l := by
  have bad : (h.checked p false f).keeps h [.regs, .links] := flag_keeps.after updLink_keeps.within
  cases crcOk
  · exact bad.sparing hl
  · exact hf h

theorem heard_spares {p : Nat} {crcOk : Bool} {f : Hub → Hub} (hf : ∀ h, (f h).spares h l)
    (hl : ∀ q ∈ l, q ∉ [Part.regs, .lanes, .links] := by decide) : (h.heard p crcOk f).spares h l :=
  checked_spares (fun _ => (hf _).trans (rxWakeOn_keeps.sparing fun q hq hm => hl q hq (List.subset_def.1 (by decide) hm)))
    fun q hq hm => hl q hq (List.subset_def.1 (by decide) hm)

theorem atLeader_spares {p c : Nat} {f : Hub → Hub} (hf : (f h).spares h l)
    (hl : ∀ q ∈ l, q ∉ [Part.out, .od, .regs, .ctl, .evt, .eng, .dm, .pwr] := by decide) : (h.atLeader p c f).spares h l :=
  ite_spares (passOn_keeps.sparing hl) hf

theorem forLanes_spares {a : Hub} {p : Nat} {f : Hub → Nat → Hub} (hf : ∀ h n, (f h n).spares h l) (ha : a.spares h l) :
    (a.forLanes p f).spares h l :=
  foldl_spares hf _ ha

theorem roundOver_spares {p : Nat} {fails : Hub → Hub} (hf : ∀ h, (fails h).spares h l)
    (hl : ∀ q ∈ l, q ∉ [Part.out, .od, .regs, .ctl, .evt, .lanes, .links, .plan, .dm, .pwr] := by decide) :
    (h.roundOver p fails).spares h l := by
  have go {n : Nat} : (((h.updLane n (fun y => { y with goSent := true })).laneSend n).goCheck p n).keeps h
      [.out, .od, .regs, .ctl, .evt, .lanes, .links, .plan, .dm, .pwr] :=
    goCheck_keeps.after (laneSend_keeps.after updLane_keeps.within)
  unfold roundOver
  split
  · exact ite_spares (go.sparing hl) (hf h)
  · exact hf h

/-! ### Fields of the hub replaced -/

theorem withBlob_keeps {x : Tab Bytes} : ({ h with blob := x } : Hub).keeps h [.blob] := by intro q; cases q <;> simp [agrees]
theorem withMem_keeps {x : List Host.Cell} : ({ h with mem := x } : Hub).keeps h [.mem] := by intro q; cases q <;> simp [agrees]
theorem withKram_keeps {x : Tab Nat} : ({ h with kram := x } : Hub).keeps h [.kram] := by intro q; cases q <;> simp [agrees]
theorem withEvt_keeps {x : EvtSt} : ({ h with evt := x } : Hub).keeps h [.evt, .lines] := by intro q; cases q <;> simp [agrees]
theorem withIo_keeps {x : IoSt} : ({ h with io := x } : Hub).keeps h [.io] := by intro q; cases q <;> simp [agrees]
theorem withUsb_keeps {x : UsbSt} : ({ h with usb := x } : Hub).keeps h [.usb] := by intro q; cases q <;> simp [agrees]
theorem withHb_keeps {x : HbSt} : ({ h with hb := x } : Hub).keeps h [.hb] := by intro q; cases q <;> simp [agrees]
theorem withMoor_keeps {x : MoorSt} : ({ h with moor := x } : Hub).keeps h [.moor] := by intro q; cases q <;> simp [agrees]
theorem withObs_keeps {x : ObsSt} : ({ h with obs := x } : Hub).keeps h [.obs] := by intro q; cases q <;> simp [agrees]
/-! ### Several fields of the hub replaced at once -/

theorem withBcnPair_keeps {x : BcnSt} {y : PairSt} : ({ h with bcn := x, pair := y } : Hub).keeps h [.bcn, .pair] := by
  intro q
  cases q <;> simp [agrees]

theorem withClockBcn_keeps {x : Nat} {y : BcnSt} : ({ h with clock := x, bcn := y } : Hub).keeps h [.clock, .bcn] := by
  intro q
  cases q <;> simp [agrees]

theorem withCtlPlanEngBcnPairSecPwr_keeps {x : CtlSt} {y : PlanSt} {z : EngSt} {u : BcnSt} {v : PairSt} {w : SecSt} {a : PwrSt} :
    ({ h with ctl := x, plan := y, eng := z, bcn := u, pair := v, sec := w, pwr := a } : Hub).keeps h [.ctl, .plan, .eng, .bcn, .pair, .sec,
        .pwr] := by
  intro q
  cases q <;> simp [agrees]

theorem withCtlSec_keeps {x : CtlSt} {y : SecSt} : ({ h with ctl := x, sec := y } : Hub).keeps h [.ctl, .sec] := by
  intro q
  cases q <;> simp [agrees]

theorem withLinksBcn_keeps {x : LinksSt} {y : BcnSt} : ({ h with links := x, bcn := y } : Hub).keeps h [.links, .bcn] := by
  intro q
  cases q <;> simp [agrees]

theorem withMemPlanEngSwVid_keeps {x : List Host.Cell} {y : PlanSt} {z : EngSt} {u : SwSt} {v : VidSt} :
    ({ h with mem := x, plan := y, eng := z, sw := u, vid := v } : Hub).keeps h [.mem, .plan, .eng, .sw, .vid] := by
  intro q
  cases q <;> simp [agrees]

theorem withModeLinks_keeps {x : ModeSt} {y : LinksSt} : ({ h with mode := x, links := y } : Hub).keeps h [.mode, .lines, .links] := by
  intro q
  cases q <;> simp [agrees]

theorem withModePair_keeps {x : ModeSt} {y : PairSt} : ({ h with mode := x, pair := y } : Hub).keeps h [.mode, .lines, .pair] := by
  intro q
  cases q <;> simp [agrees]

theorem withModePlanBcnPairPwr_keeps {x : ModeSt} {y : PlanSt} {z : BcnSt} {u : PairSt} {v : PwrSt} :
    ({ h with mode := x, plan := y, bcn := z, pair := u, pwr := v } : Hub).keeps h [.mode, .lines, .plan, .bcn, .pair, .pwr] := by
  intro q
  cases q <;> simp [agrees]

theorem withModePlanDmPair_keeps {x : ModeSt} {y : PlanSt} {z : DmSt} {u : PairSt} :
    ({ h with mode := x, plan := y, dm := z, pair := u } : Hub).keeps h [.mode, .lines, .plan, .dm, .pair] := by
  intro q
  cases q <;> simp [agrees]

theorem withOdTunDmPair_keeps {x : Tab Nat} {y : TunSt} {z : DmSt} {u : PairSt} :
    ({ h with od := x, tun := y, dm := z, pair := u } : Hub).keeps h [.od, .tun, .dm, .pair] := by
  intro q
  cases q <;> simp [agrees]

theorem withPlanPair_keeps {x : PlanSt} {y : PairSt} : ({ h with plan := x, pair := y } : Hub).keeps h [.plan, .pair] := by
  intro q
  cases q <;> simp [agrees]

theorem withRegsCtlHb_keeps {x : Tab Nat} {y : CtlSt} {z : HbSt} :
    ({ h with regs := x, ctl := y, hb := z } : Hub).keeps h [.regs, .ctl, .hb] := by
  intro q
  cases q <;> simp [agrees]

theorem withTunPair_keeps {x : TunSt} {y : PairSt} : ({ h with tun := x, pair := y } : Hub).keeps h [.tun, .pair] := by
  intro q
  cases q <;> simp [agrees]
/-! ### Memory (R240): 12 MiB of SRAM from 0x2000_0000; an unlisted byte reads 0 (log 9) -/

theorem memWrite_keeps {a : Nat} {b : Byte} : (h.memWrite a b).keeps h [.mem] := withMem_keeps

theorem memWriteBytes_keeps {a : Nat} {b : Bytes} : (h.memWriteBytes a b).keeps h [.mem] := by
  induction b generalizing h a with
  | nil => exact .refl
  | cons x b ih => exact ih.trans memWrite_keeps

/-! ### Dictionary values, registers, outputs, free values -/

theorem putBlob_keeps {e : Entry} {v : Bytes} : (h.putBlob e v).keeps h [.blob] := withBlob_keeps

theorem putReg_keeps {e : Entry} {v : Nat} : (h.putReg e v).keeps h [.regs] := withRegs_keeps

theorem draw_keeps : h.draw.1.keeps h [.draws] := withDraws_keeps

/-! ### Roles (R5, R18, R28, R448) -/

theorem powerBoot_keeps : h.powerBoot.keeps h [.pwr] := foldl_keeps (fun _ _ => ite_keeps powerQueue_keeps .refl) _ .refl

/-! ### Control blocks sent (R93, R123, R130, R131) -/

theorem pacedOut_keeps {p n : Nat} {b : Bytes} : (h.pacedOut p n b).keeps h [.out, .lanes, .links] :=
  ite_keeps (blockOn_keeps.after updLink_keeps.within) updLink_keeps.within

/-! ### CAN frames of the hub itself (R43, R351) -/

theorem setCan_keeps {n : Nat} {x : CanSt} : (h.setCan n x).keeps h [.io] := withIo_keeps

theorem canQueue_keeps {n queue : Nat} {f : CanFrame} : (h.canQueue n queue f).keeps h [.io] := by
  unfold canQueue
  extract_lets
  exact setCan_keeps

/-! ### Counters (R580 to R583) -/

theorem count_keeps {n k : Nat} : (h.count n k).keeps h [.od] := bump_keeps

/-! ### Firing (R531, R535) -/

theorem queueDetail_keeps {src : Nat} {data : Bytes} {soft wake : Bool} : (h.queueDetail src data soft wake).1.keeps h [.evt, .lines] := by
  unfold queueDetail
  extract_lets
  exact ite_fst_keeps withEvt_keeps (ite_fst_keeps withEvt_keeps withEvt_keeps)

theorem fireWith_keeps {src : Nat} {data : Bytes} {soft wake : Bool} :
    (h.fireWith src data soft wake).keeps h [.od, .regs, .evt, .lines, .pwr] := by
  unfold fireWith
  extract_lets _ g q
  have gk : g.keeps h [.od, .regs, .evt, .lines, .pwr] :=
    ite_keeps (queueDetail_keeps.after (count_keeps.after (tally_keeps.after setDomain_keeps.within))) .refl
  have qk : q.1.keeps h [.od, .regs, .evt, .lines, .pwr] := queueDetail_keeps.after (count_keeps.after gk)
  exact ite_keeps gk (ite_keeps (queueDetail_keeps.after (count_keeps.after (flag_keeps.after qk))) qk)

theorem msix_keeps {v : Nat} : (h.msix v).keeps h [.out, .hb] := by
  unfold msix
  extract_lets
  exact ite_keeps withHb_keeps.within emit_keeps.within

/-! ### Command channels (R57 to R62) -/

theorem finishOpt_keeps {c : Option Nat} {status : Nat} {data : Bytes} : (h.finishOpt c status data).keeps h [.ctl] := by
  unfold finishOpt
  split
  · exact finish_keeps
  · exact .refl

/-! ### The mirror toward a STANDBY (R450, R451) -/

theorem runEnd_keeps {y : MirrorEnd} : (h.runEnd y).keeps h [.out, .od, .regs, .ctl, .evt, .eng, .dm, .io, .pwr] := by
  unfold runEnd
  split
  · exact done_keeps.within
  · extract_lets
    exact withCtl_keeps.after answer_keeps.within

theorem endMirrored_keeps {e : MirrorEnd} : (h.endMirrored e).keeps h [.out, .od, .regs, .ctl, .evt, .eng, .dm, .io, .pair, .pwr] :=
  ite_keeps withPair_keeps.within runEnd_keeps.within

/-! ### SELECT and the comparators (R582, R583) -/

theorem selectWrite_keeps {n v : Nat} : (h.selectWrite n v).keeps h [.od] := ite_keeps (put_keeps.trans put_keeps) .refl

theorem cmpWrite_keeps {k which v : Nat} : (h.cmpWrite k which v).keeps h [.od] := by
  unfold cmpWrite
  extract_lets
  exact ite_keeps (put_keeps.trans put_keeps) .refl

/-! ### Snapshots (R584, R585) -/

theorem setBank_keeps {b : Nat} {x : SnapBank} : (h.setBank b x).keeps h [.obs] := withObs_keeps

theorem snapEnds_keeps {b : Nat} : (h.snapEnds b).keeps h [.ctl, .obs] := by
  unfold snapEnds
  extract_lets
  exact ite_keeps (finishOpt_keeps.after setBank_keeps.within) .refl

theorem snapCapture_keeps {b : Nat} : (h.snapCapture b).keeps h [.od, .regs, .ctl, .evt, .pwr, .obs] := by
  unfold snapCapture
  extract_lets
  exact ite_keeps snapEnds_keeps.within (snapEnds_keeps.after (fire_keeps.after setBank_keeps.within))

/-! ### Observation and debug (R586, R587) -/

theorem obsOff_keeps : h.obsOff.keeps h [.out, .od] := ite_keeps .refl (emit_keeps.after put_keeps.within)

theorem obsEnable_keeps {v : Bool} : (h.obsEnable v).keeps h [.out, .od] :=
  ite_keeps obsOff_keeps (ite_keeps (emit_keeps.after put_keeps.within) .refl)

theorem obsGroup_keeps {v : Nat} : (h.obsGroup v).keeps h [.od, .regs, .evt, .pwr] := ite_keeps .refl (fire_keeps.trans put_keeps.within)

theorem debugVerdict_keeps {c : Nat} {publicKey nonce signature : Bytes} :
    (h.debugVerdict c publicKey nonce signature).keeps h [.od, .regs, .ctl, .evt, .pwr, .obs] :=
  ite_keeps (finish_keeps.after (fire_keeps.after withObs_keeps.within)) (finish_keeps.after (fire_keeps.after withObs_keeps.within))

/-! ### Bandwidth -/

theorem setCtx_keeps {i : Nat} {x : Ctx} : (h.setCtx i x).keeps h [.tun] := withTun_keeps

/-! ### Meters (R184 to R190) -/

theorem meterSegment_keeps {i l : Nat} {preYellow : Bool} : (h.meterSegment i l preYellow).1.keeps h [.plan] := by
  unfold meterSegment
  refine ite_fst_keeps .refl ?_
  extract_lets
  exact withPlan_keeps

/-! ### Bearing -/

theorem setEncoder_keeps {n : Nat} {x : EncSt} : (h.setEncoder n x).keeps h [.bcn] := withBcn_keeps

/-! ### Inputs and sources (R275, R278, R282, R283) -/

theorem loseSource_keeps {b : Nat} : (h.loseSource b).keeps h [.od, .regs, .evt, .bcn, .pwr] := by
  unfold loseSource
  extract_lets
  exact fire_keeps.after (flag_keeps.after setBearing_keeps.within)

theorem resource_keeps {b : Nat} : (h.resource b).keeps h [.od, .regs, .evt, .bcn, .pwr] := by
  unfold resource
  extract_lets
  exact ite_keeps .refl (fire_keeps.after (flag_keeps.after (setBearing_keeps.after (ite_keeps loseSource_keeps .refl))))

theorem resources_keeps : h.resources.keeps h [.od, .regs, .evt, .bcn, .pwr] := resource_keeps.trans (resource_keeps.trans resource_keeps)

theorem encModeSet_keeps {n mode : Nat} : (h.encModeSet n mode).keeps h [.od, .regs, .evt, .bcn, .pwr] := by
  unfold encModeSet
  extract_lets
  exact resources_keeps.trans setEncoder_keeps.within

/-! ### Points (R284, R288) -/

theorem formPoint_keeps {f b : Nat} : (h.formPoint f b).keeps h [.bcn] := by
  unfold formPoint
  extract_lets
  split
  · exact setBearing_keeps
  · exact setBearing_keeps

theorem takePoint_keeps {f b low : Nat} {valid : Bool} : (h.takePoint f b low valid).1.keeps h [.od, .regs, .evt, .bcn, .pwr] := by
  unfold takePoint
  extract_lets
  split
  · exact .refl
  · extract_lets
    refine ite_fst_keeps ?_ ?_
    · dsimp only
      exact setBearing_keeps.within
    · dsimp only
      exact fire_keeps.after (flag_keeps.after setBearing_keeps.within)

/-! ### Lamps -/

theorem setLamp_keeps {l : Nat} {x : LampSt} : (h.setLamp l x).keeps h [.dm] := withDm_keeps

theorem driveLamp_keeps {l : Nat} {x : LampSt} : (h.driveLamp l x).keeps h [.draws, .out, .od, .eng, .dm, .pair] := by
  unfold driveLamp
  extract_lets _ _ h1
  have h1k : h1.keeps h [.draws, .out, .od, .eng, .dm, .pair] :=
    ite_keeps setLamp_keeps.within (mirrorNote_keeps.after setLamp_keeps.within)
  exact ite_keeps h1k (emit_keeps.after h1k)

theorem lampEdge_keeps {l : Nat} {level : Bool} {at_ : Nat} : (h.lampEdge l level at_).1.keeps h [.od, .regs, .dm] := by
  unfold lampEdge
  extract_lets
  exact ite_fst_keeps .refl (ite_fst_keeps (tally_keeps.after (flag_keeps.after setLamp_keeps.within)) setLamp_keeps.within)

/-! ### Safe states (R327 to R329) -/

theorem lampTrigger_keeps {l cause : Nat} {tunnel : List Nat} :
    (h.lampTrigger l cause tunnel).keeps h [.draws, .out, .od, .regs, .evt, .lanes, .links, .eng, .dm, .pair, .pwr] := by
  unfold lampTrigger
  extract_lets _ _ _ h1
  have h1k : h1.keeps h [.draws, .out, .od, .regs, .evt, .lanes, .links, .eng, .dm, .pair, .pwr] :=
    fire_keeps.after (flag_keeps.after driveLamp_keeps.within)
  exact ite_keeps .refl (ite_keeps setLamp_keeps.within (ite_keeps .refl (ite_keeps (fogOriginate_keeps.after h1k) h1k)))

theorem lampsTrigger_keeps {cause : Nat} {tunnel : List Nat} {pick : Nat → Bool} {ls : List Nat} :
    (h.lampsTrigger cause tunnel pick ls).keeps h [.draws, .out, .od, .regs, .evt, .lanes, .links, .eng, .dm, .pair, .pwr] := by
  induction ls generalizing h with
  | nil => exact .refl
  | cons n ls ih => exact ih.trans (ite_keeps lampTrigger_keeps .refl)

theorem lampsLinkDown_keeps {p : Nat} :
    (h.lampsLinkDown p).keeps h [.draws, .out, .od, .regs, .evt, .lanes, .links, .eng, .dm, .pair, .pwr] :=
  ite_keeps lampsTrigger_keeps .refl

theorem lampsGuard_keeps {b : Nat} : (h.lampsGuard b).keeps h [.draws, .out, .od, .regs, .evt, .lanes, .links, .eng, .dm, .pair, .pwr] :=
  lampsTrigger_keeps

theorem lampsTunnel_keeps {handle : Nat} :
    (h.lampsTunnel handle).keeps h [.draws, .out, .od, .regs, .evt, .lanes, .links, .eng, .dm, .pair, .pwr] :=
  lampsTrigger_keeps

theorem lampsDark_keeps : h.lampsDark.keeps h [.draws, .out, .od, .regs, .evt, .lanes, .links, .eng, .dm, .pair, .pwr] := lampsTrigger_keeps

theorem lampRelease_keeps {l : Nat} : (h.lampRelease l).keeps h [.draws, .out, .od, .regs, .evt, .eng, .dm, .pair, .pwr] := by
  unfold lampRelease
  extract_lets
  exact fire_keeps.after driveLamp_keeps.within

theorem lampsAuto_keeps {ls : List Nat} :
    (h.lampsAuto ls).keeps h [.draws, .out, .od, .regs, .evt, .eng, .dm, .pair, .pwr] := by
  induction ls generalizing h with
  | nil => exact .refl
  | cons n ls ih => exact ih.trans (ite_keeps lampRelease_keeps .refl)

theorem lampsAutoAll_keeps : h.lampsAutoAll.keeps h [.draws, .out, .od, .regs, .evt, .eng, .dm, .pair, .pwr] := lampsAuto_keeps

theorem lampEnable_keeps {l : Nat} {v : Bool} : (h.lampEnable l v).keeps h [.draws, .out, .od, .eng, .dm, .pair] := by
  unfold lampEnable
  extract_lets
  exact ite_keeps driveLamp_keeps (ite_keeps driveLamp_keeps .refl)

/-! ### Daymark slots (R310, R311) -/

theorem freeSlot_keeps {slot : Nat} : (h.freeSlot slot).keeps h [.dm] := withDm_keeps

theorem clearDaymarks_keeps : h.clearDaymarks.keeps h [.dm] := withDm_keeps

theorem reportDaymark_keeps {d : Daymark} {flags instant status : Nat} :
    (h.reportDaymark d flags instant status).keeps h [.od, .regs, .evt, .dm, .pwr] :=
  ite_keeps deliverRecord_keeps .refl

/-! ### Accounts (R244, R245) -/

theorem setAcct_keeps {a n : Nat} : (h.setAcct a n).keeps h [.sw] := withSw_keeps

theorem charge_keeps {a n : Nat} : (h.charge a n).keeps h [.sw] := setAcct_keeps

/-! ### Mirror sessions (R256 to R259) -/

theorem setMirror_keeps {s : Nat} {x : MirrorSt} : (h.setMirror s x).keeps h [.sw] := withSw_keeps

theorem mirrorSkip_keeps {s : Nat} : (h.mirrorSkip s).keeps h [.od, .regs, .evt, .sw, .pwr] := by
  unfold mirrorSkip
  extract_lets _ h1
  have h1k : h1.keeps h [.od, .regs, .evt, .sw, .pwr] := flag_keeps.after (bump_keeps.after setMirror_keeps.within)
  exact ite_keeps h1k (fire_keeps.after h1k)

theorem mirrorCopy_keeps {s kind : Nat} {body : Bytes} {yellow : Bool} :
    (h.mirrorCopy s kind body yellow).keeps h [.od, .regs, .evt, .sw, .pwr] := by
  unfold mirrorCopy
  extract_lets
  exact ite_keeps (mirrorPut_keeps.after charge_keeps.within) mirrorSkip_keeps

theorem mirrorSegment_keeps {kind source : Nat} {data : Bytes} {yellow : Bool} :
    (h.mirrorSegment kind source data yellow).keeps h [.od, .regs, .evt, .sw, .pwr] :=
  foldl_keeps (fun _ _ => ite_keeps mirrorCopy_keeps .refl) _ .refl

theorem mirrorCell_keeps {kind link : Nat} {c : Cell} : (h.mirrorCell kind link c).keeps h [.od, .regs, .evt, .sw, .pwr] := by
  refine foldl_keeps (fun h x => ?_) _ .refl
  refine ite_keeps ?_ .refl
  extract_lets _ _ h1
  have h1k : h1.keeps h [.od, .regs, .evt, .sw, .pwr] := setMirror_keeps.after charge_keeps.within
  exact ite_keeps mirrorSkip_keeps (ite_keeps (mirrorClose_keeps.after h1k) h1k)

/-! ### Tenders -/

theorem enqueueJob_keeps {t : Nat} {j : Job} : (h.enqueueJob t j).keeps h [.eng] := by
  unfold enqueueJob
  extract_lets
  exact setTender_keeps

/-! ### Dispatch (R216, R217, R246) -/

theorem segDiscard_keeps {i : Nat} : (h.segDiscard i).keeps h [.tun] := updCtx_keeps

theorem dispatchEncap_keeps {t : Nat} {j : Job} :
    (h.dispatchEncap t j).keeps h [.out, .od, .regs, .evt, .links, .tun, .eng, .sw, .pwr] := by
  unfold dispatchEncap
  extract_lets
  exact enqueueJob_keeps.after (updCtx_keeps.after (acctBy_keeps.after (ite_keeps .refl (stageInBy_keeps.after stageInBy_keeps.within))))

theorem dispatchDecap_keeps {t : Nat} {j : Job} : (h.dispatchDecap t j).keeps h [.eng, .sw] := by
  unfold dispatchDecap
  extract_lets
  exact enqueueJob_keeps.after (ite_keeps .refl stageOutBy_keeps.within)

theorem dispatch_keeps {i : Nat} {encap : Bool} :
    (h.dispatch i encap).keeps h [.draws, .out, .od, .regs, .evt, .links, .tun, .eng, .sw, .pwr] := by
  unfold dispatch
  split
  · exact .refl
  · extract_lets _ _ _ _ _ _ g
    have gk : g.keeps h [.draws, .out, .od, .regs, .evt, .links, .tun, .eng, .sw, .pwr] := withEng_keeps.after withEng_keeps.within
    refine ite_keeps (segDiscard_keeps.after (stageLeave_keeps.after withEng_keeps.within)) ?_
    split
    · exact .refl
    · exact ite_keeps .refl (ite_keeps (dispatchEncap_keeps.after gk) (dispatchDecap_keeps.after gk))

/-! ### A Tender's work (R214, R215, R220) -/

theorem startJob_keeps {t : Nat} : (h.startJob t).keeps h [.eng] := by
  unfold startJob
  extract_lets
  refine ite_keeps .refl ?_
  split
  · exact setTender_keeps
  · exact .refl

/-! ### Discard (R227) and barriers (R228) -/

theorem barrierOff_keeps {j : Job} : (h.barrierOff j).keeps h [.eng] := by
  unfold barrierOff
  extract_lets
  exact withEng_keeps

theorem drainCount_keeps {j : Job} : (h.drainCount j).keeps h [.tun] := ite_keeps updCtx_keeps .refl

theorem discardOn_keeps {i t : Nat} : (h.discardOn i t).keeps h [.draws, .out, .od, .regs, .evt, .links, .tun, .eng, .sw, .pwr] := by
  unfold discardOn
  extract_lets
  exact ite_keeps .refl (foldl_keeps (fun _ _ => discardJob_keeps) _ setTender_keeps.within)

theorem discardJobs_keeps {i : Nat} : (h.discardJobs i).keeps h [.draws, .out, .od, .regs, .evt, .links, .tun, .eng, .sw, .pwr] := by
  unfold discardJobs
  extract_lets
  exact foldl_keeps (fun _ _ => drainCount_keeps.after (ite_keeps stageLeave_keeps.within freeWords_keeps.within)) _ (withEng_keeps.after
      (foldl_keeps (fun _ _ => discardOn_keeps) _ .refl))

/-! ### Stealing (R218, R219) -/

theorem steal_keeps {t : Nat} {remote : Bool} : (h.steal t remote).keeps h [.od, .eng] := by
  unfold steal
  extract_lets _ _ _ _ v
  refine ite_keeps .refl ?_
  clear_value v
  split
  · exact .refl
  · extract_lets
    split
    · exact .refl
    · extract_lets
      exact tally_keeps.after (tally_keeps.after (setTender_keeps.after setTender_keeps.within))

/-! ### Offering a segment (R156, R214, R241) -/

theorem ingressDiscard_keeps {i : Nat} : (h.ingressDiscard i).keeps h [.tun] := updCtx_keeps

theorem stageSegment_keeps {j : Job} : (h.stageSegment j).keeps h [.out, .od, .regs, .evt, .eng, .sw, .pwr] := by
  unfold stageSegment
  extract_lets
  exact stageInBy_keeps.after (withEng_keeps.after (takeInject_keeps.after (ite_keeps .refl mirrorSegment_keeps.within)))

theorem offer_keeps {i : Nat} {seg : Segment} : (h.offer i seg).keeps h [.out, .od, .regs, .evt, .tun, .eng, .sw, .pwr] := by
  unfold offer
  extract_lets
  exact ite_keeps ingressDiscard_keeps.within (ite_keeps stageSegment_keeps.within withEng_keeps.within)

/-! ### Segments waiting at an egress (R246) -/

theorem setOutQ_keeps {e : Nat} {l : List OutSeg} : (h.setOutQ e l).keeps h [.io] := withIo_keeps

theorem pushOut_keeps {e : Nat} {x : OutSeg} : (h.pushOut e x).keeps h [.io] := setOutQ_keeps

theorem dropOut_keeps {e : Nat} {x : OutSeg} : (h.dropOut e x).keeps h [.sw, .io] := stageOutBy_keeps.after setOutQ_keeps.within

/-! ### Function connection (R395) -/

theorem setDev_keeps {k : Nat} {x : UsbDev} : (h.setDev k x).keeps h [.usb] := withUsb_keeps

theorem fnDisconnect_keeps {n f : Nat} : (h.fnDisconnect n f).keeps h [.od, .regs, .ctl, .evt, .dm, .usb, .pwr] := by
  unfold fnDisconnect
  extract_lets
  exact ite_keeps .refl (foldl_keeps (fun _ _ => done_keeps.within) _ (fire_keeps.after (flag_keeps.after setDev_keeps.within)))

theorem usbJudge_keeps : h.usbJudge.keeps h [.od, .regs, .ctl, .evt, .dm, .usb, .pwr] := by
  refine foldl_keeps (fun h x => ?_) _ .refl
  extract_lets
  exact ite_keeps fnDisconnect_keeps .refl

/-! ### Prefetch (R433, R434) -/

theorem setWin_keeps {w : Nat} {x : WinSt} : (h.setWin w x).keeps h [.hb] := withHb_keeps

theorem pfDiscard_keeps {w : Nat} {p : PfPiece} : (h.pfDiscard w p).keeps h [.od, .regs, .evt, .pwr] :=
  ite_keeps (fire_keeps.trans (flag_keeps.after bump_keeps.within)) bump_keeps.within

theorem pfEmpty_keeps {w : Nat} : (h.pfEmpty w).keeps h [.od, .regs, .evt, .hb, .pwr] := by
  unfold pfEmpty
  extract_lets
  exact foldl_keeps (fun _ _ => pfDiscard_keeps.within) _ setWin_keeps.within

/-! ### A tunnel leaves OPEN -/

theorem blockLeave_keeps {i : Nat} : (h.blockLeave i).keeps h [.sw, .io] := by
  unfold blockLeave
  extract_lets
  exact foldl_keeps (fun _ _ => dropOut_keeps) _ withIo_keeps.within

theorem portLeave_keeps {i : Nat} : (h.portLeave i).keeps h [.od, .regs, .ctl, .evt, .sw, .dm, .io, .usb, .hb, .pwr] := by
  unfold portLeave
  extract_lets
  exact ite_keeps blockLeave_keeps.within (ite_keeps pfEmpty_keeps.within (ite_keeps withHb_keeps.within (ite_keeps usbJudge_keeps.within
      .refl)))

/-! ### Slots (R505 to R511) -/

theorem writeSlot_keeps {n usage uses key : Nat} {expire : Bool} {publicKey : Bytes} :
    (h.writeSlot n usage uses key expire publicKey).keeps h [.draws, .sec] := by
  unfold writeSlot
  extract_lets
  exact setSlot_keeps.after draw_keeps.within

/-! ### Pair keys (R514 to R518) -/

theorem setPairKey_keeps {k : Nat} {x : PairKey} : (h.setPairKey k x).keeps h [.sec] := withSec_keeps

theorem prunePairs_keeps : h.prunePairs.keeps h [.sec] := withSec_keeps

theorem discardPair_keeps {k : Nat} : (h.discardPair k).keeps h [.tun, .sec] := by
  unfold discardPair
  extract_lets _ _ h1
  have h1k : h1.keeps h [.tun, .sec] := setPairKey_keeps.after (setSlot_keeps.after setSlot_keeps.within)
  refine ite_keeps .refl ?_
  refine ite_keeps (prunePairs_keeps.after h1k) ?_
  split
  · exact foldl_keeps (fun _ _ => updCtx_keeps.within) _ (setPairKey_keeps.after h1k)
  · exact h1k

theorem discardPairs_keeps {pick : Nat → Bool} : (h.discardPairs pick).keeps h [.tun, .sec] :=
  foldl_keeps (fun _ _ => ite_keeps discardPair_keeps .refl) _ .refl

theorem discardPairsOn_keeps {p : Nat} : (h.discardPairsOn p).keeps h [.tun, .sec] := discardPairs_keeps

theorem installPair_keeps {target : Nat} {offerer : Bool} {out : Bytes} :
    (h.installPair target offerer out).keeps h [.draws, .od, .tun, .sec] := by
  unfold installPair
  extract_lets h0
  have h0k : h0.keeps h [.draws, .od, .tun, .sec] := discardPairs_keeps.within
  split
  · extract_lets h1 d e
    have h1k : h1.keeps h [.draws, .od, .tun, .sec] := writeSlot_keeps.after (writeSlot_keeps.after h0k)
    have dk : d.1.keeps h [.draws, .od, .tun, .sec] := draw_keeps.after h1k
    have ek : e.1.keeps h [.draws, .od, .tun, .sec] := draw_keeps.after dk
    exact setPairKey_keeps.after (tally_keeps.after ek)
  · exact h0k

/-! ### Control messages (R157 to R159) -/

theorem tunToFar_keeps {i : Nat} {op : TunOp} : (h.tunToFar i op).keeps h [.draws, .out, .eng] := tunSend_keeps

/-! ### Queued cells (R166, R167, R244) -/

theorem setEgress_keeps {e : Nat} {x : Egress} : (h.setEgress e x).keeps h [.plan] := withPlan_keeps

theorem removeCells_keeps {i e : Nat} : (h.removeCells i e).keeps h [.draws, .out, .od, .regs, .evt, .links, .plan, .sw, .pwr] := by
  unfold removeCells
  extract_lets
  exact ite_keeps .refl (freeWords_keeps.after setEgress_keeps.within)

theorem purge_keeps {i : Nat} : (h.purge i).1.keeps h [.draws, .out, .od, .regs, .evt, .links, .tun, .plan, .eng, .sw, .pwr] := by
  unfold purge
  extract_lets _ _ h1 h2 h3
  have h1k : h1.keeps h [.draws, .out, .od, .regs, .evt, .links, .tun, .plan, .eng, .sw, .pwr] :=
    foldl_keeps (fun _ _ => removeCells_keeps.within) _ .refl
  have h2k : h2.keeps h [.draws, .out, .od, .regs, .evt, .links, .tun, .plan, .eng, .sw, .pwr] :=
    discardJobs_keeps.after (updCtx_keeps.after (freeWords_keeps.after h1k))
  have h3k : h3.keeps h [.draws, .out, .od, .regs, .evt, .links, .tun, .plan, .eng, .sw, .pwr] := updCtx_keeps.after h2k
  exact h3k

/-! ### Leaving and entering states (R155) -/

theorem enterClosed_keeps {i : Nat} :
    (h.enterClosed i).keeps h [.draws, .out, .od, .regs, .evt, .tun, .plan, .eng, .sw, .pair, .sec, .pwr] := by
  unfold enterClosed
  extract_lets
  exact mirrorCtx_keeps.after (tunEvent_keeps.after (prunePairs_keeps.after (dropHomes_keeps.after (unadmit_keeps.after
      (setTunState_keeps.after updCtx_keeps.within)))))

theorem leaveDraining_keeps {i : Nat} :
    (h.leaveDraining i).keeps h [.draws, .out, .od, .regs, .evt, .tun, .plan, .eng, .sw, .pair, .sec, .pwr] :=
  ite_keeps enterClosed_keeps freeCtx_keeps

theorem endTunCommand_keeps {c : Option Nat} {status : Nat} {data : Bytes} :
    (h.endTunCommand c status data).keeps h [.od, .regs, .ctl, .evt, .dm, .pair, .pwr] :=
  doneMirrored_keeps

theorem enterFault_spares {i cause faultStatus status : Nat} {data : Bytes} :
    (h.enterFault i cause faultStatus status data).spares h tunnelSpared := by
  unfold enterFault
  extract_lets _ h1 h2 _ h3 h4 h5 h6 h7 h8
  have h1k : h1.spares h tunnelSpared := purge_keeps.sparing
  have h2k : h2.spares h tunnelSpared := updCtx_keeps.past h1k
  have h3k : h3.spares h tunnelSpared := withTun_keeps.past h2k
  have h4k : h4.spares h tunnelSpared := unadmit_keeps.past (setTunState_keeps.past h3k)
  have h5k : h5.spares h tunnelSpared := mirrorCtx_keeps.past (tunEvent_keeps.past (prunePairs_keeps.past (dropHomes_keeps.past h4k)))
  have h6k : h6.spares h tunnelSpared := ite_spares (portLeave_keeps.past h5k) h5k
  have h7k : h7.spares h tunnelSpared := ite_spares (lampsTunnel_keeps.past h6k) h6k
  have h8k : h8.spares h tunnelSpared := endTunCommand_keeps.past h7k
  exact ite_spares (freeCtx_keeps.past h8k) h8k

theorem faultSend_spares {i cause : Nat} : (h.faultSend i cause).spares h tunnelSpared := by
  refine ite_spares .refl ?_
  extract_lets
  exact enterFault_spares.trans (ite_spares .refl (ite_spares (tunSend_keeps.past tunSend_keeps.sparing) tunToFar_keeps.sparing))

theorem ctxRead_spares {reader i : Nat} : (h.ctxRead reader i).1.spares h tunnelSpared := by
  unfold ctxRead
  extract_lets
  exact ite_fst_spares (faultSend_spares.trans eccRead_keeps.sparing) eccRead_keeps.sparing

theorem loseBindings_spares {pick : Nat → Bool} : (h.loseBindings pick).spares h tunnelSpared :=
  foldl_spares (fun _ _ => faultSend_spares) _ .refl

theorem tunLinkDown_spares {p : Nat} : (h.tunLinkDown p).spares h tunnelSpared := by
  refine foldl_spares (fun h x => ?_) _ .refl
  extract_lets
  exact enterFault_spares.trans (ite_spares .refl (ite_spares tunSend_keeps.sparing .refl))

theorem slotBad_spares {n : Nat} : (h.slotBad n).spares h tunnelSpared := by
  unfold slotBad
  extract_lets h1
  have h1k : h1.spares h tunnelSpared := fire_keeps.past (foldl_spares (fun _ _ => setSlot_keeps.sparing) _ .refl)
  split
  · extract_lets
    exact foldl_spares (fun _ _ => faultSend_spares) _ (setSlot_keeps.past (discardPair_keeps.past h1k))
  · exact h1k

theorem systemOpen_keeps {p : Nat} : (h.systemOpen p).keeps h [.links, .tun, .eng] := by
  unfold systemOpen
  extract_lets
  exact startDirections_keeps.after (setCtx_keeps.after updLink_keeps.within)

theorem systemClose_keeps {p : Nat} : (h.systemClose p).keeps h [.draws, .out, .od, .regs, .evt, .links, .tun, .plan, .eng, .sw, .pwr] := by
  unfold systemClose
  extract_lets
  exact ite_keeps .refl (dropHomes_keeps.after (updCtx_keeps.after (updLink_keeps.after purge_keeps)))

theorem enterDraining_spares {i : Nat} :
    (h.enterDraining i).spares h [.clock, .blob, .mem, .kram, .mode, .lanes, .links, .plan, .bcn, .vid, .moor, .sec, .obs] := by
  unfold enterDraining
  extract_lets _ h1
  have h1k : h1.spares h [.clock, .blob, .mem, .kram, .mode, .lanes, .links, .plan, .bcn, .vid, .moor, .sec, .obs] :=
    setTunState_keeps.past updCtx_keeps.sparing
  exact portLeave_keeps.past (mirrorCtx_keeps.past (ite_spares (endTunCommand_keeps.past (updCtx_keeps.past h1k)) h1k))

theorem drainProgress_keeps {i : Nat} : (h.drainProgress i).keeps h [.draws, .out, .tun, .eng] := by
  unfold drainProgress
  extract_lets
  exact ite_keeps (tunToFar_keeps.after updCtx_keeps.within) .refl

theorem transitDrained_keeps {i : Nat} :
    (h.transitDrained i).keeps h [.draws, .out, .od, .regs, .evt, .tun, .plan, .eng, .sw, .pair, .sec, .pwr] := by
  unfold transitDrained
  extract_lets
  exact ite_keeps freeCtx_keeps .refl

/-! ### Network -/

theorem keepOut_keeps {e : Nat} {x : OutSeg} : (h.keepOut e x).keeps h [.sw, .io] := stageOutBy_keeps.after pushOut_keeps.within

/-! ### Ethernet (R336 to R344) -/

theorem setEth_keeps {n : Nat} {x : EthSt} : (h.setEth n x).keeps h [.io] := withIo_keeps

theorem ethDrop_keeps {n : Nat} : (h.ethDrop n).keeps h [.od, .sw, .io] :=
  foldl_keeps (fun _ _ => tally_keeps.after (bump_keeps.after dropOut_keeps.within)) _ .refl

theorem ethLink_keeps {n link : Nat} : (h.ethLink n link).keeps h [.od, .regs, .evt, .plan, .sw, .io, .pwr] := by
  unfold ethLink
  extract_lets _ h1
  have h1k : h1.keeps h [.od, .regs, .evt, .plan, .sw, .io, .pwr] := fire_keeps.after (setNominal_keeps.after setEth_keeps.within)
  exact ite_keeps .refl (ite_keeps (ethDrop_keeps.after h1k) h1k)

theorem ethDeliver_keeps {n : Nat} {s : OutSeg} : (h.ethDeliver n s).keeps h [.od, .sw, .io] :=
  ite_keeps (tally_keeps.after bump_keeps.within) keepOut_keeps.within

/-! ### CAN FD (R346 to R351) -/

theorem canDeliver_keeps {n i : Nat} {b : Bytes} : (h.canDeliver n i b).keeps h [.od, .sw, .io] := by
  unfold canDeliver
  split
  · exact tally_keeps.after bump_keeps.within
  · exact ite_keeps (tally_keeps.after bump_keeps.within) (ite_keeps (tally_keeps.after bump_keeps.within) (stageOutBy_keeps.after
      canQueue_keeps.within))

theorem canStop_keeps {n : Nat} : (h.canStop n).keeps h [.od, .regs, .ctl, .evt, .sw, .dm, .io, .pwr] := by
  unfold canStop
  extract_lets
  exact doneOpt_keeps.after (foldl_keeps (fun _ _ => stageOutBy_keeps.within) _ setCan_keeps.within)

/-! ### ISO 11783 address claim (R352) -/

theorem sendClaim_keeps {n src : Nat} : (h.sendClaim n src).keeps h [.io] := canQueue_keeps

theorem claimAddress_keeps {n a : Nat} : (h.claimAddress n a).keeps h [.io] := by
  unfold claimAddress
  extract_lets
  exact sendClaim_keeps.trans setCan_keeps

theorem claimStart_keeps {n : Nat} : (h.claimStart n).keeps h [.io] := ite_keeps claimAddress_keeps .refl

/-! ### Initialisation (R354, R355) -/

theorem setEmmc_keeps {x : EmmcSt} : (h.setEmmc x).keeps h [.io] := withIo_keeps

theorem blockOffer_keeps {i : Nat} {seg : Bytes} : (h.blockOffer i seg).keeps h [.out, .od, .regs, .evt, .tun, .eng, .sw, .pwr] :=
  ite_keeps .refl offer_keeps

theorem blockRespond_keeps {i op tag status done : Nat} {more : Bytes} :
    (h.blockRespond i op tag status done more).keeps h [.out, .od, .regs, .evt, .tun, .eng, .sw, .pwr] :=
  blockOffer_keeps

theorem emmcIdle_keeps : h.emmcIdle.keeps h [.io] := by
  unfold emmcIdle
  extract_lets
  exact setEmmc_keeps

theorem updReq_keeps {i : Nat} {f : BlockReq → Option BlockReq} : (h.updReq i f).keeps h [.io] := setEmmc_keeps

theorem emmcEnd_keeps {i status : Nat} : (h.emmcEnd i status).keeps h [.out, .od, .regs, .evt, .tun, .eng, .sw, .io, .pwr] := by
  unfold emmcEnd
  split
  · exact emmcIdle_keeps.within
  · extract_lets
    exact emmcIdle_keeps.after (ite_keeps updReq_keeps.within (blockRespond_keeps.after updReq_keeps.within))

theorem emmcStart_keeps : h.emmcStart.keeps h [.out, .od, .regs, .evt, .tun, .eng, .sw, .io, .pwr] := by
  unfold emmcStart
  extract_lets h1
  have h1k : h1.keeps h [.out, .od, .regs, .evt, .tun, .eng, .sw, .io, .pwr] := by
    unfold h1
    split
    · exact emmcEnd_keeps
    · exact .refl
  exact emit_keeps.after (setEmmc_keeps.after h1k)

theorem emmcEnable_spares {on : Bool} : (h.emmcEnable on).spares h tunnelSpared := by
  unfold emmcEnable
  extract_lets _ h1
  have h1k : h1.spares h tunnelSpared := put_keeps.sparing
  exact ite_spares (ite_spares (emmcStart_keeps.past h1k) h1k) (ite_spares (setEmmc_keeps.past (loseBindings_spares.trans h1k)) h1k)

/-! ### Requests on the device (R358, R359) -/

theorem emmcIssue_keeps {r : BlockReq} : (h.emmcIssue r).keeps h [.out, .od, .io] := by
  unfold emmcIssue
  extract_lets
  exact ite_keeps (tally_keeps.after (emit_keeps.after setEmmc_keeps.within)) .refl

theorem emmcNext_keeps {i : Nat} : (h.emmcNext i).keeps h [.out, .od, .regs, .evt, .tun, .eng, .sw, .io, .pwr] := by
  unfold emmcNext
  split
  · exact emmcIdle_keeps.within
  · exact ite_keeps emmcEnd_keeps (ite_keeps emmcEnd_keeps emmcIssue_keeps.within)

theorem emmcPump_keeps {n : Nat} : (h.emmcPump n).keeps h [.out, .od, .regs, .evt, .tun, .eng, .sw, .io, .pwr] := by
  induction n generalizing h with
  | zero => exact .refl
  | succ n ih =>
    have again {g : Hub} (hg : g.keeps h [.out, .od, .regs, .evt, .tun, .eng, .sw, .io, .pwr]) :
        (if g.io.emmc.running = none then g.emmcPump n else g).keeps h [.out, .od, .regs, .evt, .tun, .eng, .sw, .io, .pwr] :=
      ite_keeps (ih.trans hg) hg
    refine ite_keeps .refl ?_
    split
    · exact again emmcNext_keeps
    · split
      · exact .refl
      · extract_lets h1
        split
        · exact .refl
        · split
          · exact ih.trans (emmcEnd_keeps.after setEmmc_keeps.within)
          · exact again (emmcNext_keeps.after setEmmc_keeps.within)

theorem emmcRun_keeps : h.emmcRun.keeps h [.out, .od, .regs, .evt, .tun, .eng, .sw, .io, .pwr] := emmcPump_keeps

theorem emmcDone_spares {found : Option (Nat × Nat)} {parts : List Nat} : (h.emmcDone found parts).spares h tunnelSpared := by
  unfold emmcDone
  extract_lets _ h1
  have h1k : h1.spares h tunnelSpared := loseBindings_spares.trans (fire_keeps.past setEmmc_keeps.sparing)
  refine ite_spares .refl ?_
  split
  · extract_lets h1
    have h1k : h1.spares h tunnelSpared := setNominal_keeps.past setEmmc_keeps.sparing
    exact emmcRun_keeps.past (foldl_spares (fun _ _ => done_keeps.sparing) _ (fire_keeps.past (ite_spares h1k (fire_keeps.past h1k))))
  · exact foldl_spares (fun _ _ => done_keeps.sparing) _ h1k

/-! ### Serial ports (R362, R363) -/

theorem setSer_keeps {n : Nat} {x : SerSt} : (h.setSer n x).keeps h [.io] := withIo_keeps

/-! ### Video -/

theorem offerTo_keeps {i port : Nat} {data : Bytes} {yellow : Bool} :
    (h.offerTo i port data yellow).keeps h [.out, .od, .regs, .evt, .tun, .eng, .sw, .pwr] := by
  unfold offerTo
  extract_lets
  exact ite_keeps offer_keeps .refl

/-! ### Cameras (R366 to R371) -/

theorem setCsi_keeps {n : Nat} {x : CsiSt} : (h.setCsi n x).keeps h [.vid] := withVid_keeps

theorem csiStop_spares {n : Nat} : (h.csiStop n).spares h [.clock, .blob, .mem, .kram, .mode, .bcn, .moor, .obs] := by
  unfold csiStop
  extract_lets
  exact setCsi_keeps.past loseBindings_spares.fewer

/-! ### The frame store (R372 to R376) -/

theorem fsEcc_keeps : h.fsEcc.keeps h [.od, .regs] := flag_keeps.after bump_keeps.within

theorem fsMerge_keeps {a : Nat} {whole : Bool} : (h.fsMerge a whole).keeps h [.od, .regs, .mem, .evt, .sw, .pwr] := by
  unfold fsMerge
  extract_lets r
  have rk : r.1.keeps h [.od, .regs, .mem, .evt, .sw, .pwr] := ite_fst_keeps .refl eccRead_keeps.within
  exact eccWrite_keeps.after (ite_keeps (fsEcc_keeps.after (memWriteBytes_keeps.after rk)) rk)

theorem fsWrite_keeps {a : Nat} {d : Bytes} : (h.fsWrite a d).keeps h [.od, .regs, .mem, .evt, .sw, .pwr] := by
  refine ite_keeps .refl ?_
  extract_lets _ _ h1
  have h1k : h1.keeps h [.od, .regs, .mem, .evt, .sw, .pwr] := by
    unfold h1
    refine foldl_keeps (fun h x => ?_) _ .refl
    extract_lets
    exact fsMerge_keeps
  exact memWriteBytes_keeps.after h1k

theorem frameBad_keeps : h.frameBad.keeps h [.od, .regs, .evt, .vid, .pwr] := by
  unfold frameBad
  extract_lets _ h1
  have h1k : h1.keeps h [.od, .regs, .evt, .vid, .pwr] := flag_keeps.after (bump_keeps.after withVid_keeps.within)
  exact ite_keeps (fire_keeps.after (withVid_keeps.after h1k)) h1k

theorem frameSegment_keeps {w : WriteFrame} {flags dt off : Nat} {pixels : Bytes} {slot : Nat} :
    (h.frameSegment w flags dt off pixels slot).keeps h [.od, .regs, .mem, .evt, .sw, .vid, .pwr] := by
  unfold frameSegment
  extract_lets _ _ _ _ _ _ h2 h3
  have h2k : h2.keeps h [.od, .regs, .mem, .evt, .sw, .vid, .pwr] := tally_keeps.after (tally_keeps.after fsWrite_keeps.within)
  have h3k : h3.keeps h [.od, .regs, .mem, .evt, .sw, .vid, .pwr] := ite_keeps (tally_keeps.after h2k) h2k
  exact ite_keeps frameBad_keeps.within (ite_keeps (withVid_keeps.after h3k) (withVid_keeps.after h3k))

theorem dsiDeliver_keeps {bind : Nat} {d : Bytes} : (h.dsiDeliver bind d).keeps h [.od, .regs, .mem, .evt, .sw, .vid, .pwr] := by
  unfold dsiDeliver
  extract_lets _ _ _ _ h1
  have h1k : h1.keeps h [.od, .regs, .mem, .evt, .sw, .vid, .pwr] := ite_keeps frameBad_keeps.within .refl
  refine ite_keeps .refl ?_
  refine ite_keeps (frameSegment_keeps.trans (ite_keeps (bump_keeps.after (withVid_keeps.after h1k)) h1k)) ?_
  split
  · exact frameSegment_keeps
  · exact .refl

theorem showSlot_keeps {slot : Nat} : (h.showSlot slot).keeps h [.od, .vid] := by
  unfold showSlot
  extract_lets
  exact withVid_keeps.after put_keeps.within

/-! ### Scan-out (R377 to R382) -/

theorem porchPackets_keeps : h.porchPackets.keeps h [.out, .ctl, .vid] := by
  unfold porchPackets
  extract_lets
  refine foldl_keeps (fun h x => ?_) _ withVid_keeps.within
  extract_lets send
  exact finish_keeps.after (ite_keeps (emit_keeps.after (ite_keeps emit_keeps.within .refl)) (ite_keeps emit_keeps.within .refl))

theorem latchDsi_keeps : h.latchDsi.keeps h [.vid] := withVid_keeps

theorem dsiEnable_spares {on : Bool} : (h.dsiEnable on).spares h [.clock, .blob, .mem, .kram, .mode, .bcn, .moor, .obs] := by
  unfold dsiEnable
  extract_lets _ h1
  have h1k : h1.spares h [.clock, .blob, .mem, .kram, .mode, .bcn, .moor, .obs] := put_keeps.sparing
  exact ite_spares (setNominal_keeps.past (withVid_keeps.past (latchDsi_keeps.past h1k))) (ite_spares (setNominal_keeps.past
      (withVid_keeps.past (porchPackets_keeps.past (loseBindings_spares.after h1k)))) h1k)

/-! ### Connecting (R394, R395) -/

theorem hsicLine_keeps {n level : Nat} : (h.hsicLine n level).keeps h [.out] := ite_keeps .refl emit_keeps

theorem hsicJudge_keeps {n : Nat} : (h.hsicJudge n).keeps h [.out, .od, .regs, .ctl, .evt, .plan, .dm, .usb, .pwr] := by
  unfold hsicJudge
  extract_lets
  exact ite_keeps (ite_keeps .refl (setNominal_keeps.after (hsicLine_keeps.after setDev_keeps.within))) (ite_keeps (setNominal_keeps.after
      (usbJudge_keeps.after (withUsb_keeps.after (foldl_keeps (fun _ _ => setDev_keeps.within) _ (hsicLine_keeps.after
      setDev_keeps.within))))) setDev_keeps.within)

theorem hsicSet_spares {n : Nat} {on : Bool} : (h.hsicSet n on).spares h tunnelSpared := by
  unfold hsicSet
  extract_lets
  exact hsicJudge_keeps.past (ite_spares put_keeps.sparing (loseBindings_spares.trans put_keeps.sparing))

theorem fnSet_spares {n f : Nat} {on : Bool} : (h.fnSet n f on).spares h tunnelSpared := by
  unfold fnSet
  extract_lets
  exact usbJudge_keeps.past (ite_spares put_keeps.sparing (loseBindings_spares.trans put_keeps.sparing))

/-! ### Data (R401 to R406) -/

theorem usbDeliver_keeps {n : Nat} {s : OutSeg} : (h.usbDeliver n s).keeps h [.od, .sw, .io, .usb] := by
  unfold usbDeliver
  extract_lets
  refine ite_keeps keepOut_keeps.within ?_
  split
  · exact bump_keeps.within
  · extract_lets _ h1
    have h1k : h1.keeps h [.od, .sw, .io, .usb] := ite_keeps bump_keeps.within .refl
    exact ite_keeps (setDev_keeps.after h1k) (stageOutBy_keeps.after (setDev_keeps.after (setDev_keeps.after h1k)))

/-! ### Windows (R422, R423) -/

theorem winCtrl_spares {w v : Nat} : (h.winCtrl w v).spares h tunnelSpared := by
  unfold winCtrl
  extract_lets _ _ _ _ _ _ h2
  have h2k : h2.spares h tunnelSpared := ite_spares (putReg_keeps.past putReg_keeps.sparing) putReg_keeps.sparing
  exact ite_spares (pfEmpty_keeps.past (loseBindings_spares.trans h2k)) h2k

/-! ### Requests of the host (R426, R428, R431) -/

theorem postWait_keeps {p : Posted} : (h.postWait p).keeps h [.hb] := withHb_keeps

/-! ### Answers of the MEMORY end (R428, R431) -/

theorem winTake_keeps {s : OutSeg} : (h.winTake s).keeps h [.io] := setOutQ_keeps

/-! ### The lock of the MEMORY end (R427, R432) -/

theorem memSkip_keeps {i : Nat} {s : OutSeg} : (h.memSkip i s).keeps h [.sw, .io, .hb] := by
  unfold memSkip
  extract_lets
  exact ite_keeps (withHb_keeps.after dropOut_keeps.within) dropOut_keeps.within

theorem memAnswer_keeps {i op flags tag far len status : Nat} {data : Bytes} :
    (h.memAnswer i op flags tag far len status data).keeps h [.out, .od, .regs, .evt, .tun, .eng, .sw, .pwr] :=
  offerTo_keeps

/-! ### Host queues (R435 to R439) -/

theorem setHostQ_keeps {q : Nat} {x : HostQ} : (h.setHostQ q x).keeps h [.hb] := withHb_keeps

theorem qIrq_keeps {q : Nat} : (h.qIrq q).keeps h [.out, .hb] := by
  unfold qIrq
  extract_lets
  exact ite_keeps setHostQ_keeps.within (ite_keeps msix_keeps (msix_keeps.trans setHostQ_keeps.within))

theorem qWriteBack_keeps {q : Nat} {rx : Bool} {d : QDesc} {len flags : Nat} :
    (h.qWriteBack q rx d len flags).keeps h [.out, .od, .hb] := by
  unfold qWriteBack
  extract_lets h1
  have h1k : h1.keeps h [.out, .od, .hb] := tally_keeps.after emit_keeps.within
  exact ite_keeps (qIrq_keeps.after (setHostQ_keeps.after h1k)) (setHostQ_keeps.after h1k)

theorem qFetch_keeps {q : Nat} {rx : Bool} : (h.qFetch q rx).keeps h [.out, .od, .hb] := by
  unfold qFetch
  extract_lets
  exact ite_keeps .refl (tally_keeps.after (emit_keeps.after setHostQ_keeps.within))

theorem qTransmit_keeps {q n : Nat} : (qTransmit q n h).keeps h [.out, .od, .hb] := by
  induction n generalizing h with
  | zero => exact .refl
  | succ n ih =>
    unfold qTransmit
    extract_lets x
    split
    · exact ite_keeps .refl (ite_keeps (ih.trans (bump_keeps.after qWriteBack_keeps.within))
        (ite_keeps .refl (tally_keeps.after (emit_keeps.after setHostQ_keeps.within))))
    · exact .refl

theorem qReceive_keeps {q n : Nat} : (qReceive q n h).keeps h [.out, .od, .sw, .io, .hb] := by
  induction n generalizing h with
  | zero => exact .refl
  | succ n ih =>
    unfold qReceive
    extract_lets x
    split
    · exact ite_keeps .refl (ite_keeps (ih.trans (bump_keeps.after (qWriteBack_keeps.after dropOut_keeps.within)))
        (ih.trans (qWriteBack_keeps.after (tally_keeps.after (emit_keeps.after dropOut_keeps.within)))))
    · exact .refl

theorem qRun_keeps {q : Nat} : (h.qRun q).keeps h [.out, .od, .sw, .io, .hb] :=
  qTransmit_keeps.after (qFetch_keeps.after (qFetch_keeps.after qReceive_keeps))

theorem hostqDeliver_keeps {q : Nat} {s : OutSeg} : (h.hostqDeliver q s).keeps h [.out, .od, .sw, .io, .hb] :=
  qRun_keeps.trans keepOut_keeps.within

theorem dropBound_keeps {bind : Nat} : (h.dropBound bind).keeps h [.sw, .io] := foldl_keeps (fun _ _ => dropOut_keeps) _ .refl

theorem qFault_spares {q addr : Nat} : (h.qFault q addr).spares h tunnelSpared := by
  unfold qFault
  extract_lets
  exact fire_keeps.past (flag_keeps.past (dropBound_keeps.past (loseBindings_spares.trans setHostQ_keeps.sparing)))

theorem dmaDone_spares {q : Nat} {ok : Bool} {data : Bytes} : (h.dmaDone q ok data).spares h tunnelSpared := by
  unfold dmaDone
  extract_lets _ h0
  have h0k : h0.spares h tunnelSpared := tally_keeps.sparing
  split
  · exact .refl
  · refine ite_spares (qFault_spares.trans h0k) ?_
    refine ite_spares ?_ ?_
    · extract_lets
      exact qRun_keeps.past (setHostQ_keeps.past h0k)
    · split
      · exact setHostQ_keeps.past h0k
      · extract_lets h1 h2
        have h1k : h1.spares h tunnelSpared := setHostQ_keeps.past h0k
        have h2k : h2.spares h tunnelSpared := by
          unfold h2
          split
          · exact offerTo_keeps.past h1k
          · exact h1k
        exact qRun_keeps.past (qWriteBack_keeps.past h2k)

theorem dmaTimeout_spares {q : Nat} : (h.dmaTimeout q).spares h tunnelSpared := by
  unfold dmaTimeout
  split
  · exact .refl
  · exact qFault_spares

theorem qTailWrite_keeps {q : Nat} {rx : Bool} {v : Nat} : (h.qTailWrite q rx v).keeps h [.out, .od, .regs, .sw, .io, .hb] :=
  qRun_keeps.after putReg_keeps.within

theorem qCtrlWrite_spares {q v : Nat} : (h.qCtrlWrite q v).spares h tunnelSpared := by
  unfold qCtrlWrite
  extract_lets _ _ h1
  have h1k : h1.spares h tunnelSpared := putReg_keeps.sparing
  exact ite_spares (qRun_keeps.past h1k) (ite_spares (dropBound_keeps.past (loseBindings_spares.trans (setHostQ_keeps.past h1k)))
      (setHostQ_keeps.past h1k))

theorem msixPump_keeps : h.msixPump.keeps h [.out, .hb] :=
  foldl_keeps (fun _ _ => ite_keeps (msix_keeps.trans withHb_keeps.within) .refl) _ .refl

theorem setBme_keeps {on : Bool} : (h.setBme on).keeps h [.out, .od, .sw, .io, .hb] := by
  unfold setBme
  extract_lets
  exact ite_keeps (foldl_keeps (fun _ _ => qRun_keeps) _ (msixPump_keeps.after withHb_keeps.within)) withHb_keeps.within

/-! ### Reset and link (R419, R421) -/

theorem hostReset_spares : h.hostReset.spares h tunnelSpared := by
  unfold hostReset
  extract_lets
  exact withRegsCtlHb_keeps.past (foldl_spares (fun _ _ => ite_spares dropOut_keeps.sparing winTake_keeps.sparing) _ loseBindings_spares)

theorem hostLatch_keeps : h.hostLatch.keeps h [.hb] := withHb_keeps

theorem perst_spares {high : Bool} : (h.perst high).spares h tunnelSpared :=
  ite_spares withHb_keeps.sparing (hostReset_spares.trans hostLatch_keeps.sparing)

/-! ### The configuration space (R418) -/

theorem configRead_keeps {f : ConfigField} : (h.configRead f).keeps h [.out] := ite_keeps emit_keeps emit_keeps

theorem pcieLink_spares {speed0 width0 : Nat} : (h.pcieLink speed0 width0).spares h tunnelSpared := by
  unfold pcieLink
  extract_lets _ _ _ _ h2
  have h2k : h2.spares h tunnelSpared := fire_keeps.past (setNominal_keeps.past withHb_keeps.sparing)
  exact ite_spares .refl (ite_spares (hostReset_spares.trans h2k) h2k)

/-! ### Colour (R189, R190) -/

theorem startupCounts_keeps : h.startupCounts.keeps h [.plan] := ite_keeps withPlan_keeps .refl

/-! ### Sealing (R516, R517) -/

theorem sealSegment_keeps {i : Nat} {d : Bytes} : (h.sealSegment i d).1.keeps h [.od, .sec] := by
  unfold sealSegment
  extract_lets
  exact tally_keeps.after setPairKey_keeps.within

theorem sealFailed_spares {i : Nat} : (h.sealFailed i).spares h tunnelSpared := by
  unfold sealFailed
  extract_lets _ h1
  have h1k : h1.spares h tunnelSpared := updCtx_keeps.past bump_keeps.sparing
  exact ite_spares (fire_keeps.past (faultSend_spares.trans h1k)) h1k

theorem unsealSegment_spares {i : Nat} {d : Bytes} : (h.unsealSegment i d).1.spares h tunnelSpared := by
  unfold unsealSegment
  extract_lets _ _ _ _ plain
  clear_value plain
  split
  · exact ite_fst_spares (tally_keeps.past updCtx_keeps.sparing) sealFailed_spares
  · exact sealFailed_spares

/-! ### The SAFETY path (R521, R522) -/

theorem safetyInsert_keeps {i : Nat} {d : Bytes} : (h.safetyInsert i d).1.keeps h [.od] := by
  unfold safetyInsert
  refine ite_fst_keeps .refl ?_
  extract_lets
  exact put_keeps.trans put_keeps

theorem safetyEvent_keeps {ev i d : Nat} : (h.safetyEvent ev i d).keeps h [.od, .regs, .evt, .pwr] := fire_keeps

theorem safetyCheck_keeps {i : Nat} {d : Bytes} : (h.safetyCheck i d).1.keeps h [.od, .regs, .evt, .tun, .pwr] := by
  unfold safetyCheck
  refine ite_fst_keeps .refl (ite_fst_keeps .refl ?_)
  extract_lets _ _ _ _ _ _ _ _ _ _ h1 took
  have h1k : h1.keeps h [.od, .regs, .evt, .tun, .pwr] := put_keeps.within
  have tookk : (took h1).keeps h [.od, .regs, .evt, .tun, .pwr] := updCtx_keeps.after (put_keeps.after h1k)
  refine ite_fst_keeps ?_ ?_
  · dsimp only
    exact safetyEvent_keeps.after (tally_keeps.after bump_keeps.within)
  · split
    · extract_lets h2
      have h2k : h2.keeps h [.od, .regs, .evt, .tun, .pwr] := tally_keeps.after (bump_keeps.after tookk)
      exact ite_keeps (safetyEvent_keeps.after h2k) h2k
    · dsimp only
      exact safetyEvent_keeps.after (tally_keeps.after (bump_keeps.after h1k))
    · dsimp only
      exact safetyEvent_keeps.after (tally_keeps.after (bump_keeps.after tookk))

/-! ### Delivery to a binding -/

theorem portDeliver_keeps {e : Nat} {s : OutSeg} :
    (h.portDeliver e s).keeps h [.out, .od, .regs, .mem, .evt, .sw, .io, .vid, .usb, .hb, .pwr] := by
  unfold portDeliver
  extract_lets
  exact ite_keeps ethDeliver_keeps.within (ite_keeps canDeliver_keeps.within (ite_keeps dsiDeliver_keeps.within (ite_keeps
      usbDeliver_keeps.within (ite_keeps pushOut_keeps.within (ite_keeps hostqDeliver_keeps.within (ite_keeps .refl
      keepOut_keeps.within))))))

theorem deliver_spares {i : Nat} {d : Bytes} {yellow : Bool} :
    (h.deliver i d yellow).spares h [.clock, .blob, .kram, .mode, .bcn, .moor, .obs] := by
  unfold deliver
  extract_lets _ _ _ inj
  have injk : inj.1.spares h [.clock, .blob, .kram, .mode, .bcn, .moor, .obs] := ite_fst_spares .refl takeInject_keeps.sparing
  exact ite_spares (faultSend_spares.after (segDiscard_keeps.past (eccBad_keeps.past (freeDamaged_keeps.past (wordAddr_keeps.past injk)))))
      (portDeliver_keeps.past (emit_keeps.past (mirrorSegment_keeps.past (mirrorSegment_keeps.past (updCtx_keeps.past (ite_spares injk
      (eccCorrected_keeps.past injk)))))))

/-! ### Decapsulation commit (R153, R154, R217) -/

theorem seqCheck_keeps {i tseq : Nat} : (h.seqCheck i tseq).1.keeps h [.od, .regs, .evt, .tun, .pwr] := by
  unfold seqCheck
  extract_lets
  refine ite_fst_keeps updCtx_keeps.within ?_
  dsimp only
  exact tunEvent_keeps.after (updCtx_keeps.after updCtx_keeps.within)

theorem takeCell_keeps {i : Nat} {r : Hub × Option Bytes} {b : BufCell} :
    (takeCell i r b).1.keeps r.1 [.od, .regs, .evt, .tun, .pwr] := by
  unfold takeCell
  extract_lets c s g
  have gk : g.keeps r.1 [.od, .regs, .evt, .tun, .pwr] := ite_keeps (segDiscard_keeps.after seqCheck_keeps.within) seqCheck_keeps
  split
  · exact gk
  · split
    · exact gk
    · exact segDiscard_keeps.after gk

theorem takeCells_keeps {i : Nat} {skipped : List Nat} {cells : List BufCell} :
    (h.takeCells i skipped cells).1.keeps h [.od, .regs, .evt, .tun, .pwr] :=
  (foldl_fst_keeps (fun _ _ => takeCell_keeps) _ _).trans (foldl_keeps (fun _ _ => seqCheck_keeps) _ .refl)

theorem commitDecap_spares {i : Nat} {j : Job} :
    (h.commitDecap i j).spares h [.clock, .blob, .kram, .mode, .bcn, .moor, .obs] := by
  unfold commitDecap
  have taken := h.takeCells_keeps (i := i) (skipped := j.skipped) (cells := j.cells)
  generalize h.takeCells i j.skipped j.cells = r at taken
  obtain ⟨h1, _ | s⟩ := r
  · exact taken.sparing
  · refine ite_spares (updCtx_keeps.past taken.sparing) ?_
    have opened : (if (h1.ctx i).isSealed then h1.unsealSegment i s else (h1, some s)).1.spares h
        [.clock, .blob, .kram, .mode, .bcn, .moor, .obs] := by
      split
      · exact unsealSegment_spares.after taken.sparing
      · exact taken.sparing
    dsimp only
    generalize (if (h1.ctx i).isSealed then h1.unsealSegment i s else (h1, some s)) = r at opened
    obtain ⟨h2, _ | d⟩ := r
    · exact opened
    · have checked := h2.safetyCheck_keeps (i := i) (d := d)
      dsimp only
      generalize h2.safetyCheck i d = r at checked
      obtain ⟨h3, _ | out⟩ := r
      · exact checked.past opened
      · exact deliver_spares.trans (checked.past opened)

/-! ### Encapsulation commit (R152, R185, R217) -/

theorem widen_keeps {e : Nat} : (h.widen e).keeps h [.out, .lanes] := ite_keeps (foldl_keeps (fun _ _ => wakeLane_keeps) _ .refl) .refl

theorem writeCell_keeps {i cls : Nat} {account : Option Nat} {c : Cell} : (h.writeCell i cls account c).1.keeps h [.sw] := by
  unfold writeCell
  extract_lets
  exact takeInject_keeps.trans takeInject_keeps

/-! ### A request for a domain that fails (R552 to R554) -/

theorem domStays_keeps {d why : Nat} : (h.domStays d why).keeps h [.od, .regs, .evt, .pwr] := by
  unfold domStays
  extract_lets
  exact fire_keeps.trans (flag_keeps.after setDomain_keeps.within)

theorem linkTraffic_keeps {p : Nat} : (h.linkTraffic p).keeps h [.od, .regs, .ctl, .evt, .dm, .pwr] := by
  unfold linkTraffic
  extract_lets
  exact ite_keeps (doneOpt_keeps.trans domStays_keeps.within) .refl

theorem queueCell_keeps {e : Nat} {b : BufCell} : (h.queueCell e b).keeps h [.out, .od, .regs, .ctl, .evt, .lanes, .plan, .dm, .pwr] := by
  unfold queueCell
  extract_lets
  exact linkTraffic_keeps.after (widen_keeps.after setEgress_keeps.within)

theorem commitEncap_keeps {i : Nat} {j : Job} {yellow : Bool} :
    (h.commitEncap i j yellow).keeps h [.out, .od, .regs, .ctl, .evt, .lanes, .plan, .sw, .dm, .sec, .pwr] := by
  unfold commitEncap
  extract_lets
  refine foldl_keeps (fun h x => ?_) _ (mirrorSegment_keeps.after (tally_keeps.after (ite_fst_keeps (sealSegment_keeps.after
      safetyInsert_keeps.within) safetyInsert_keeps.within)))
  extract_lets
  exact queueCell_keeps.after writeCell_keeps.within

/-! ### The commit stage -/

theorem freeTicket_keeps {t : Nat} {j : Job} : (h.freeTicket t j).keeps h [.eng] := by
  unfold freeTicket
  extract_lets
  exact withEng_keeps.trans setTender_keeps

theorem afterCommit_keeps {i : Nat} : (h.afterCommit i).keeps h [.draws, .out, .od, .tun, .eng, .sw, .pair] :=
  settleClass_keeps.trans drainProgress_keeps.within

theorem commitMetered_spares {t : Nat} {j : Job} :
    (h.commitMetered t j).spares h [.clock, .blob, .mem, .kram, .mode, .bcn, .io, .vid, .usb, .hb, .moor, .obs] := by
  unfold commitMetered
  extract_lets _ m
  have mk : m.1.spares h [.clock, .blob, .mem, .kram, .mode, .bcn, .io, .vid, .usb, .hb, .moor, .obs] := meterSegment_keeps.sparing
  split
  · exact ite_spares mk (tally_keeps.past (setTender_keeps.past mk))
  · exact afterCommit_keeps.past (commitEncap_keeps.past (barrierOff_keeps.past (freeJob_keeps.past (freeTicket_keeps.past mk))))

theorem jobCommit_spares {i : Nat} {encap : Bool} : (h.jobCommit i encap).spares h [.clock, .blob, .kram, .mode, .bcn, .moor, .obs] := by
  unfold jobCommit
  split
  · exact .refl
  · exact ite_spares (discardJob_keeps.past freeTicket_keeps.sparing) (ite_spares commitMetered_spares.fewer (afterCommit_keeps.past
      (commitDecap_spares.trans (barrierOff_keeps.past (freeJob_keeps.past freeTicket_keeps.sparing)))))

theorem meterRelease_spares {i : Nat} :
    (h.meterRelease i).spares h [.blob, .mem, .kram, .mode, .bcn, .io, .vid, .usb, .hb, .moor, .obs] := by
  unfold meterRelease
  split
  · exact .refl
  · extract_lets
    exact ite_spares .refl (commitMetered_spares.after withClock_keeps.sparing)

/-! ### Fences (R223 to R225) -/

theorem redispatch_keeps {t : Nat} {j : Job} : (h.redispatch t j).keeps h [.eng] := by
  unfold redispatch
  split
  · exact .refl
  · extract_lets
    exact enqueueJob_keeps.trans setTender_keeps

theorem redispatchAll_keeps {t : Nat} : (h.redispatchAll t).keeps h [.eng] := foldl_keeps (fun _ _ => redispatch_keeps) _ .refl

theorem poison_spares {t : Nat} {j : Job} : (h.poison t j).spares h tunnelSpared := by
  unfold poison
  extract_lets
  exact fire_keeps.past (flag_keeps.past (faultSend_spares.trans (withEng_keeps.past (discardJob_keeps.past setTender_keeps.sparing))))

theorem fence_spares {t cause : Nat} : (h.fence t cause).spares h tunnelSpared := by
  unfold fence
  extract_lets _ run _ _ _ _ _ _ h3 h4
  have h3k : h3.spares h tunnelSpared :=
    rehome_keeps.past (movePins_keeps.past (fire_keeps.past (flag_keeps.past (tally_keeps.past (tally_keeps.past (foldl_spares (fun _ _ =>
      discardJob_keeps.sparing) _ setTender_keeps.sparing))))))
  have h4k : h4.spares h tunnelSpared := by
    unfold h4
    clear_value run
    split
    · exact ite_spares (poison_spares.trans h3k) h3k
    · exact h3k
  exact ite_spares .refl (judgeShort_keeps.past (redispatchAll_keeps.past h4k))

theorem readStaging_spares {t : Nat} : (h.readStaging t).spares h tunnelSpared := by
  unfold readStaging
  extract_lets
  split
  · exact .refl
  · extract_lets
    exact ite_spares (eccCorrected_keeps.past setTender_keeps.sparing) (fence_spares.trans (eccBad_keeps.past (freeDamaged_keeps.past
        (wordAddr_keeps.past setTender_keeps.sparing))))

theorem jobStart_spares {t : Nat} : (h.jobStart t).spares h tunnelSpared := readStaging_spares.trans startJob_keeps.sparing

theorem stealRun_spares {t : Nat} {remote : Bool} : (h.stealRun t remote).spares h tunnelSpared :=
  readStaging_spares.trans steal_keeps.sparing

theorem tenderFault_spares {t cause : Nat} : (h.tenderFault t cause).spares h tunnelSpared := ite_spares fence_spares .refl

/-! ### TENDER_FENCE (R237, R238) -/

theorem cmdTenderFence_spares {req : Path} {c tag : Nat} {args : Bytes} : (h.cmdTenderFence req c tag args).spares h tunnelSpared := by
  unfold cmdTenderFence
  extract_lets
  refine issue_spares fun h => ?_
  extract_lets
  exact finish_keeps.past fence_spares

/-! ### Sides, connectors, seating (R470, R473, R475) -/

theorem setConn_keeps {c : Nat} {x : ConnSt} : (h.setConn c x).keeps h [.moor] := withMoor_keeps

theorem updConn_keeps {c : Nat} {f : ConnSt → ConnSt} : (h.updConn c f).keeps h [.moor] := setConn_keeps

theorem moorFlag_keeps {b : Nat} : (h.moorFlag b).keeps h [.od] := put_keeps

theorem moorEvent_keeps {ev c : Nat} {more : Bytes} : (h.moorEvent ev c more).keeps h [.od, .regs, .evt, .pwr] := fire_keeps

/-! ### Messages (R481 to R483) -/

theorem moorFrame_keeps {c kind id : Nat} {data : Bytes} : (h.moorFrame c kind id data).keeps h [.out, .od, .lanes, .links] := by
  unfold moorFrame
  extract_lets
  exact ite_keeps (tally_keeps.after pacedOut_keeps.within) (ite_keeps (tally_keeps.after emit_keeps.within) .refl)

theorem moorTransmit_keeps {c : Nat} : (h.moorTransmit c).keeps h [.out, .od, .lanes, .links, .moor] := by
  unfold moorTransmit
  split
  · exact .refl
  · exact moorFrame_keeps.after updConn_keeps.within

theorem moorSend_keeps {c kind : Nat} {data : Bytes} {command : Option Nat} :
    (h.moorSend c kind data command).keeps h [.out, .od, .lanes, .links, .moor] := by
  unfold moorSend
  extract_lets
  exact ite_keeps (moorTransmit_keeps.trans setConn_keeps.within) setConn_keeps.within

/-! ### Offers and contracts (R478, R479, R484) -/

theorem sendCaps_keeps {c : Nat} : (h.sendCaps c).keeps h [.out, .od, .lanes, .links, .moor] := moorSend_keeps

theorem startCaps_keeps {c : Nat} : (h.startCaps c).keeps h [.out, .od, .lanes, .links, .moor] :=
  ite_keeps (sendCaps_keeps.trans updConn_keeps.within) .refl

theorem offerChanged_keeps {before : Hub} : (h.offerChanged before).keeps h [.out, .od, .lanes, .links, .moor] :=
  foldl_keeps (fun _ _ => ite_keeps startCaps_keeps .refl) _ .refl

theorem contract_keeps {c profile current : Nat} :
    (h.contract c profile current).keeps h [.out, .od, .regs, .evt, .lanes, .links, .moor, .pwr] := by
  unfold contract
  extract_lets
  exact ite_keeps .refl (offerChanged_keeps.after (moorEvent_keeps.after (moorFlag_keeps.after setConn_keeps.within)))

theorem dropContract_keeps {c : Nat} : (h.dropContract c).keeps h [.od, .regs, .ctl, .evt, .dm, .moor, .pwr] := by
  unfold dropContract
  extract_lets
  exact doneOpt_keeps.after setConn_keeps.within

/-! ### The stage (R476, R477, R489, R494) -/

theorem killStage_keeps : h.killStage.keeps h [.out, .od, .regs, .ctl, .evt, .dm, .moor, .pwr] := by
  unfold killStage
  extract_lets _ _ h2
  have h2k : h2.keeps h [.out, .od, .regs, .ctl, .evt, .dm, .moor, .pwr] :=
    emit_keeps.after (emit_keeps.after (emit_keeps.after withMoor_keeps.within))
  exact foldl_keeps (fun _ _ => dropContract_keeps.within) _ (ite_keeps (emit_keeps.after h2k) h2k)

theorem setStage_keeps {s : StageState} : (h.setStage s).keeps h [.moor] := withMoor_keeps

theorem selectFeed_keeps {f : Option Nat} : (h.selectFeed f).keeps h [.out, .moor] := by
  unfold selectFeed
  extract_lets h1 _ h2
  have h1k : h1.keeps h [.out, .moor] := by
    unfold h1
    split
    · exact ite_keeps .refl emit_keeps.within
    · exact .refl
  have h2k : h2.keeps h [.out, .moor] := withMoor_keeps.after h1k
  split
  · exact emit_keeps.after h2k
  · exact h2k

theorem toCheck_keeps : h.toCheck.keeps h [.out, .moor] := by
  unfold toCheck
  extract_lets
  exact ite_keeps (selectFeed_keeps.trans withMoor_keeps.within) withMoor_keeps.within

theorem seatingDone_keeps : h.seatingDone.keeps h [.out, .moor] :=
  ite_keeps .refl (ite_keeps setStage_keeps.within (ite_keeps .refl toCheck_keeps))

/-! ### Negotiation at the supply (R484, R485, R493) -/

theorem sendRequest_keeps {c profile current : Nat} {command : Option Nat} :
    (h.sendRequest c profile current command).keeps h [.out, .od, .lanes, .links, .moor] :=
  moorSend_keeps.trans updConn_keeps.within

/-! ### Negotiation at the sink (R484, R492, R493) -/

theorem ownVdm_keeps {c command mode : Nat} {data : Bytes} : (h.ownVdm c command mode data).keeps h [.out, .od, .lanes, .links, .moor] := by
  unfold ownVdm
  extract_lets
  exact moorSend_keeps.trans (ite_keeps .refl updConn_keeps.within)

theorem feedTo_keeps {f : Nat} : (h.feedTo f).keeps h [.out, .od, .regs, .evt, .moor, .pwr] := by
  unfold feedTo
  extract_lets
  exact moorEvent_keeps.after (moorFlag_keeps.after (withMoor_keeps.after selectFeed_keeps.within))

theorem askCaps_keeps {c : Nat} : (h.askCaps c).keeps h [.out, .od, .lanes, .links, .moor] := ite_keeps moorSend_keeps .refl

theorem renegotiate_keeps {before : Hub} : (h.renegotiate before).keeps h [.out, .od, .lanes, .links, .moor] :=
  offerChanged_keeps.trans (askCaps_keeps.trans askCaps_keeps)

/-! ### Vendor messages (R492) -/

theorem setMode_keeps {c mode : Nat} {on : Bool} : (h.setMode c mode on).keeps h [.moor] := updConn_keeps

/-! ### FOGHORN (R22, R492, R493) -/

theorem stageDefault_keeps : h.stageDefault.keeps h [.out, .od, .regs, .evt, .lanes, .links, .moor, .pwr] := by
  unfold stageDefault
  split
  · exact ite_keeps (ite_keeps (foldl_keeps (fun _ _ => moorSend_keeps.after contract_keeps) _ .refl) withMoor_keeps.within) .refl
  · exact .refl

theorem moorFog_keeps : h.moorFog.keeps h [.out, .od, .regs, .evt, .lanes, .links, .moor, .pwr] := by
  unfold moorFog
  extract_lets a h1
  have ak : a.keeps h [.out, .od, .regs, .evt, .lanes, .links, .moor, .pwr] := ite_keeps .refl (ite_keeps sendRequest_keeps.within .refl)
  have h1k : h1.keeps h [.out, .od, .regs, .evt, .lanes, .links, .moor, .pwr] :=
    stageDefault_keeps.trans (ite_keeps (contract_keeps.trans ak) ak)
  exact ite_keeps (ownVdm_keeps.after h1k) h1k

theorem moorFogEnd_keeps {before : Hub} : (h.moorFogEnd before).keeps h [.out, .od, .lanes, .links, .moor] := by
  unfold moorFogEnd
  extract_lets
  exact renegotiate_keeps.trans (ite_keeps (ownVdm_keeps.trans setMode_keeps.within) .refl)

/-! ### CLOCK (R290, R294) -/

theorem pass_keeps {n : Nat} : (h.pass n).keeps h [.clock, .bcn] := by
  unfold pass
  extract_lets
  exact withClockBcn_keeps

theorem reach_keeps {t : Nat} : (h.reach t).keeps h [.clock, .bcn] := by
  unfold reach
  extract_lets
  exact withClockBcn_keeps

/-! ### Delay probes (R292, R293, R296) -/

theorem setProbe_keeps {p : Nat} {x : ProbeSt} : (h.setProbe p x).keeps h [.bcn] := withBcn_keeps

theorem probeSend_keeps {p : Nat} : (h.probeSend p).keeps h [.out, .lanes, .links, .bcn] := by
  unfold probeSend
  extract_lets
  exact ite_keeps .refl (pacedOut_keeps.after setProbe_keeps.within)

theorem probesRun_keeps : h.probesRun.keeps h [.out, .lanes, .links, .bcn] :=
  foldl_keeps (fun _ _ => ite_keeps probeSend_keeps .refl) _ .refl

theorem probesFail_keeps {p : Nat} : (h.probesFail p).keeps h [.od, .regs, .ctl, .evt, .bcn, .dm, .pwr] := by
  unfold probesFail
  extract_lets
  exact ite_keeps .refl (foldl_keeps (fun _ _ => done_keeps.within) _ setProbe_keeps.within)

/-! ### Timebase states (R291) -/

theorem bearingsMoved_keeps {before : Hub} :
    (h.bearingsMoved before).keeps h [.draws, .out, .od, .regs, .evt, .lanes, .links, .eng, .dm, .pair, .pwr] := by
  unfold bearingsMoved
  extract_lets _ _ h1
  have h1k : h1.keeps h [.draws, .out, .od, .regs, .evt, .lanes, .links, .eng, .dm, .pair, .pwr] :=
    foldl_keeps (fun _ _ => lampsGuard_keeps) _ .refl
  exact ite_keeps (lampsAutoAll_keeps.after h1k) h1k

theorem acquire_keeps : h.acquire.keeps h [.draws, .out, .od, .regs, .evt, .lanes, .links, .eng, .bcn, .dm, .pair, .pwr] := by
  unfold acquire
  extract_lets
  exact bearingsMoved_keeps.after withBcn_keeps.within

theorem followUp_keeps {p : Nat} :
    (h.followUp p).keeps h [.draws, .out, .od, .regs, .ctl, .evt, .lanes, .links, .eng, .bcn, .dm, .pair, .pwr] := by
  unfold followUp
  extract_lets
  exact ite_keeps (askSample_keeps.after (acquire_keeps.after setProbe_keeps.within)) setProbe_keeps.within

theorem followDown_keeps {p : Nat} {down : Bool} :
    (h.followDown p down).keeps h [.draws, .out, .od, .regs, .ctl, .evt, .lanes, .links, .eng, .bcn, .dm, .pair, .pwr] := by
  unfold followDown
  extract_lets
  exact ite_keeps (acquire_keeps.after probesFail_keeps.within) probesFail_keeps.within

theorem followTurn_keeps {p : Nat} :
    (h.followTurn p).keeps h [.draws, .out, .od, .regs, .ctl, .evt, .lanes, .links, .eng, .bcn, .dm, .pair, .pwr] :=
  ite_keeps (askSample_keeps.after acquire_keeps.within) .refl

theorem enterLocked_keeps {p : Nat} :
    (h.enterLocked p).keeps h [.draws, .out, .od, .regs, .evt, .lanes, .links, .eng, .bcn, .dm, .pair, .pwr] := by
  unfold enterLocked
  extract_lets
  exact bearingsMoved_keeps.after (fire_keeps.after withBcn_keeps.within)

theorem enterHoldover_keeps : h.enterHoldover.keeps h [.draws, .out, .od, .regs, .evt, .lanes, .links, .eng, .bcn, .dm, .pair, .pwr] := by
  unfold enterHoldover
  extract_lets
  exact bearingsMoved_keeps.after (fire_keeps.after (flag_keeps.after withBcn_keeps.within))

/-! ### PairBase -/

theorem pairEvent_keeps {src : Nat} : (h.pairEvent src).keeps h [.od, .regs, .evt, .pwr] := fire_keeps

/-! ### Messages (R449) -/

theorem pairSend_keeps {p op epoch sf kind : Nat} : (h.pairSend p op epoch sf kind).keeps h [.draws, .out, .od, .eng] := by
  unfold pairSend
  extract_lets
  exact ite_keeps (tally_keeps.after (pairPut_keeps.after emit_keeps.within)) .refl

theorem announceAll_keeps : h.announceAll.keeps h [.draws, .out, .od, .eng] := foldl_keeps (fun _ _ => announce_keeps) _ .refl

theorem setHears_keeps {v : Bool} : (h.setHears v).keeps h [.draws, .out, .od, .eng, .pair] :=
  ite_keeps (announceAll_keeps.after withPair_keeps.within) .refl

/-! ### The mirror (R450, R451) -/

theorem mirrorLost_keeps : h.mirrorLost.keeps h [.out, .od, .regs, .ctl, .evt, .eng, .dm, .io, .pair, .pwr] := by
  refine ite_keeps .refl ?_
  extract_lets
  exact pairEvent_keeps.after (doneOpt_keeps.after (foldl_keeps (fun _ _ => runEnd_keeps.within) _ withPair_keeps.within))

theorem fullCopy_keeps {command : Option Nat} : (h.fullCopy command).keeps h [.draws, .out, .od, .eng, .pair] := by
  refine ite_keeps .refl ?_
  extract_lets
  exact tally_keeps.after (foldl_keeps (fun _ _ => mirrorNote_keeps) _ withPair_keeps.within)

/-! ### The primary upstream port of a BUOY (R448) -/

theorem choosePrimary_keeps {p : Nat} : (h.choosePrimary p).keeps h [.pair] := ite_keeps withPair_keeps .refl

/-! ### A swap in progress (R454) -/

theorem swapClear_keeps : h.swapClear.keeps h [.pair] := withPair_keeps

theorem swapTell_keeps {ports : List Nat} {op epoch sf kind : Nat} :
    (h.swapTell ports op epoch sf kind).keeps h [.draws, .out, .od, .eng] :=
  foldl_keeps (fun _ _ => ite_keeps pairSend_keeps .refl) _ .refl

theorem swapAbandon_keeps {status : Nat} :
    (h.swapAbandon status).keeps h [.draws, .out, .od, .regs, .ctl, .evt, .eng, .dm, .pair, .pwr] := by
  unfold swapAbandon
  split
  · exact .refl
  · refine ite_keeps .refl ?_
    extract_lets
    exact pairEvent_keeps.after (doneOpt_keeps.after (swapClear_keeps.after (ite_keeps swapTell_keeps.within .refl)))

theorem swapDecide_keeps : h.swapDecide.keeps h [.draws, .out, .od, .eng, .pair] := by
  unfold swapDecide
  split
  · refine ite_keeps ?_ .refl
    extract_lets
    exact swapTell_keeps.after withPair_keeps.within
  · exact .refl

theorem swapLose_keeps {p : Nat} : (h.swapLose p).keeps h [.draws, .out, .od, .eng, .pair] := by
  unfold swapLose
  split
  · refine ite_keeps ?_ .refl
    extract_lets
    exact swapDecide_keeps.trans withPair_keeps.within
  · exact .refl

/-! ### EventUnit -/

theorem setRing_keeps {r : Nat} {x : Ring} : (h.setRing r x).keeps h [.evt, .lines] := withEvt_keeps

theorem kramWrite_keeps {a : Nat} {b : Bytes} : (h.kramWrite a b).keeps h [.kram] := by
  induction b generalizing h a with
  | nil => exact .refl
  | cons x b ih => exact ih.trans (ite_keeps withKram_keeps .refl)

theorem eventEoi_keeps {r s : Nat} : (h.eventEoi r s).keeps h [.od, .regs, .evt, .lines, .pwr] := by
  unfold eventEoi
  extract_lets
  split
  · exact ite_keeps setRing_keeps.within (fire_keeps.after flag_keeps.within)
  · exact fire_keeps.after flag_keeps.within

theorem holdIgnored_keeps : h.holdIgnored.keeps h [.od, .regs] := flag_keeps.after bump_keeps.within

theorem pendingBit_keeps {s : Nat} {v : Bool} : (h.pendingBit s v).keeps h [.od, .regs, .evt, .lines, .pwr] := by
  refine ite_keeps .refl ?_
  extract_lets
  exact ite_keeps fireWith_keeps (ite_keeps (bump_keeps.after (withEvt_keeps.after withEvt_keeps.within)) .refl)

theorem pendingBits_keeps {w v n : Nat} : (h.pendingBits w v n).keeps h [.od, .regs, .evt, .lines, .pwr] := by
  induction n with
  | zero => exact .refl
  | succ n ih => exact pendingBit_keeps.trans ih

theorem pendingWrite_keeps {o : HoldOwner} {w v : Nat} : (h.pendingWrite o w v).keeps h [.od, .regs, .evt, .lines, .pwr] :=
  ite_keeps holdIgnored_keeps.within pendingBits_keeps

theorem maskWrite_keeps {o : HoldOwner} {w v : Nat} : (h.maskWrite o w v).keeps h [.od, .regs] :=
  ite_keeps holdIgnored_keeps put_keeps.within

theorem holdTake_keeps {o : HoldOwner} {w : Nat} : (h.holdTake o w).keeps h [.evt, .lines] := ite_keeps .refl withEvt_keeps

theorem holdLeave_keeps {o : HoldOwner} : (h.holdLeave o).keeps h [.evt, .lines] := by
  unfold holdLeave
  split
  · exact ite_keeps withEvt_keeps .refl
  · exact .refl

theorem ringEnable_keeps {r : Nat} {v : Bool} : (h.ringEnable r v).keeps h [.evt, .lines] := by
  unfold ringEnable
  extract_lets
  exact ite_keeps setRing_keeps setRing_keeps

theorem ringRd_keeps {r v : Nat} : (h.ringRd r v).keeps h [.out, .evt, .lines, .hb] := by
  unfold ringRd
  extract_lets
  exact ite_keeps (msix_keeps.after setRing_keeps.within) setRing_keeps.within

/-! ### Entry to RUNNING, HELD and DOWN -/

theorem retrainDone_keeps :
    h.retrainDone.keeps h [.out, .od, .regs, .mode, .ctl, .evt, .lines, .lanes, .links, .bcn, .dm, .moor, .pwr] := by
  unfold retrainDone
  split
  · exact .refl
  · extract_lets _ _ _ h2
    have h2k : h2.keeps h [.out, .od, .regs, .mode, .ctl, .evt, .lines, .lanes, .links, .bcn, .dm, .moor, .pwr] :=
      resources_keeps.after (powerBoot_keeps.after (moorFogEnd_keeps.after withModeLinks_keeps.within))
    split
    · exact done_keeps.after h2k
    · exact h2k

theorem takeAllot_keeps {p : Nat} : (h.takeAllot p).keeps h [.out, .od, .regs, .evt, .sw, .pwr] := by
  unfold takeAllot
  extract_lets
  exact recheckPool_keeps.trans withSw_keeps.within

theorem systemUp_spares {p : Nat} :
    (h.systemUp p).spares h [.clock, .blob, .mem, .kram, .plan, .sw, .io, .vid, .usb, .hb, .pair, .sec, .obs] := by
  unfold systemUp
  extract_lets h1
  have h1k : h1.spares h [.clock, .blob, .mem, .kram, .plan, .sw, .io, .vid, .usb, .hb, .pair, .sec, .obs] :=
    ite_spares (announce_keeps.past systemOpen_keeps.sparing) .refl
  exact ite_spares (retrainDone_keeps.past h1k) h1k

theorem linkUp_spares {p : Nat} : (h.linkUp p).spares h [.clock, .blob, .mem, .kram, .plan, .sw, .io, .vid, .usb, .hb, .sec, .obs] := by
  unfold linkUp
  extract_lets _ h2 h3
  have h2k : h2.spares h [.clock, .blob, .mem, .kram, .plan, .sw, .io, .vid, .usb, .hb, .sec, .obs] :=
    followUp_keeps.past (countJudge_keeps.past (choosePrimary_keeps.past (fire_keeps.past updLink_keeps.sparing)))
  have h3k : h3.spares h [.clock, .blob, .mem, .kram, .plan, .sw, .io, .vid, .usb, .hb, .sec, .obs] :=
    ite_spares (sendCount_keeps.past h2k) h2k
  exact ite_spares (fullCopy_keeps.past (systemUp_spares.after h3k)) (systemUp_spares.after h3k)

theorem fogCancel_keeps {p : Nat} : (h.fogCancel p).keeps h [.links] := withLinks_keeps

theorem linkHold_spares {p : Nat} :
    (h.linkHold p).spares h [.clock, .blob, .mem, .kram, .mode, .tun, .plan, .sw, .vid, .usb, .hb, .moor, .sec, .obs] := by
  unfold linkHold
  extract_lets _ h2
  have h2k : h2.spares h [.clock, .blob, .mem, .kram, .mode, .tun, .plan, .sw, .vid, .usb, .hb, .moor, .sec, .obs] :=
    swapLose_keeps.past (followDown_keeps.past (countJudge_keeps.past (fogCancel_keeps.past (fire_keeps.past updLink_keeps.sparing))))
  exact ite_spares (mirrorLost_keeps.past h2k) h2k

theorem linkInit_keeps {p : Nat} : (h.linkInit p).keeps h [.links] := updLink_keeps

theorem linkDrop_spares {p cause : Nat} : (h.linkDrop p cause).spares h portSpared := by
  unfold linkDrop
  extract_lets _ _ _ _ _ _ h3 _ _ _ h6 h7
  have h3k : h3.spares h portSpared :=
    countJudge_keeps.past (fire_keeps.past (fogCancel_keeps.past (withPlan_keeps.past updLink_keeps.sparing)))
  have h6k : h6.spares h portSpared :=
    swapLose_keeps.past (followDown_keeps.past (fogOriginate_keeps.past (lampsLinkDown_keeps.past (discardPairsOn_keeps.past
      (tunLinkDown_spares.after (tally_keeps.past (systemClose_keeps.past (freeWords_keeps.past h3k))))))))
  have h7k : h7.spares h portSpared := ite_spares (mirrorLost_keeps.past h6k) h6k
  exact ite_spares .refl (ite_spares h3k (ite_spares (withPair_keeps.past h7k) h7k))

theorem linkAgain_keeps {p : Nat} : (h.linkAgain p).keeps h [.links] := ite_keeps linkInit_keeps .refl

theorem linkDown_spares {p cause : Nat} : (h.linkDown p cause).spares h portSpared := by
  unfold linkDown
  extract_lets _ h2
  have h2k : h2.spares h portSpared := ite_spares (linkAgain_keeps.past (linkDrop_spares.trans linkDrop_spares)) linkDrop_spares
  exact ite_spares h2k (linkAgain_keeps.past h2k)

theorem tunnelRead_spares {reader i : Nat} : (h.tunnelRead reader i).1.spares h portSpared := by
  unfold tunnelRead
  refine ite_fst_spares ctxRead_spares.fewer ?_
  extract_lets
  exact ite_spares (foldl_spares (fun _ _ => linkAgain_keeps.sparing) _ (foldl_spares (fun _ _ => linkDrop_spares) _ (open_keeps.past
      (eccWrite_keeps.past eccRead_keeps.sparing)))) eccRead_keeps.sparing

/-! ### Bring-up (R21, R132, R134) -/

theorem initDone_spares {p : Nat} : (h.initDone p).spares h [.clock, .blob, .mem, .kram, .plan, .sw, .io, .vid, .usb, .hb, .sec, .obs] := by
  unfold initDone
  extract_lets
  exact ite_spares (linkUp_spares.trans updLink_keeps.sparing) .refl

theorem initAccept_spares {p : Nat} : (h.initAccept p).spares h [.clock, .blob, .mem, .kram, .plan, .io, .vid, .usb, .hb, .sec, .obs] := by
  unfold initAccept
  extract_lets
  exact initDone_spares.after (creditSend_keeps.past (blockOut_keeps.past (takeAllot_keeps.past updLink_keeps.sparing)))

theorem initCheck_spares {p : Nat} : (h.initCheck p).spares h [.clock, .blob, .mem, .kram, .plan, .io, .vid, .usb, .hb, .sec, .obs] := by
  unfold initCheck
  extract_lets
  split
  · refine ite_spares .refl ?_
    extract_lets
    exact ite_spares initAccept_spares (fogOriginate_keeps.past (fire_keeps.past (blockOut_keeps.past updLink_keeps.sparing)))
  · exact .refl

theorem linkReady_spares {p : Nat} : (h.linkReady p).spares h [.clock, .blob, .mem, .kram, .plan, .io, .vid, .usb, .hb, .sec, .obs] :=
  ite_spares initCheck_spares .refl

theorem adoptCount_keeps {p sf : Nat} : (h.adoptCount p sf).keeps h [.od, .regs, .evt, .links, .plan, .pwr] := by
  refine ite_keeps ?_ .refl
  extract_lets
  exact planSlip_keeps.after withLinks_keeps.within

theorem initAccepted_spares {p depth sf : Nat} :
    (h.initAccepted p depth sf).spares h [.clock, .blob, .mem, .kram, .io, .vid, .usb, .hb, .sec, .obs] := by
  unfold initAccepted
  extract_lets h1
  have h1k : h1.spares h [.clock, .blob, .mem, .kram, .io, .vid, .usb, .hb, .sec, .obs] := choosePrimary_keeps.past updLink_keeps.sparing
  exact initAccept_spares.after (adoptCount_keeps.past (ite_spares h1k (withLinks_keeps.past h1k)))

theorem resumeDone_spares {p : Nat} : (h.resumeDone p).spares h [.clock, .blob, .mem, .kram, .plan, .io, .vid, .usb, .hb, .sec, .obs] := by
  unfold resumeDone
  extract_lets
  exact ite_spares (linkReady_spares.trans linkUp_spares.fewer) .refl

theorem initPage0Rx_spares {p : Nat} {b : LinkInit} {mode depth chain reason sf : Nat} :
    (h.initPage0Rx p b mode depth chain reason sf).spares h [.clock, .blob, .mem, .kram, .io, .vid, .usb, .hb, .sec, .obs] := by
  unfold initPage0Rx
  extract_lets _ _ h2
  have h2k : h2.spares h [.clock, .blob, .mem, .kram, .io, .vid, .usb, .hb, .sec, .obs] :=
    ite_spares (withPair_keeps.past updLink_keeps.sparing) updLink_keeps.sparing
  exact ite_spares (withLinks_keeps.past (updLink_keeps.past h2k)) (ite_spares (ite_spares (linkReady_spares.after (initDone_spares.after
      (updLink_keeps.past h2k))) (linkReady_spares.after (initAccepted_spares.trans h2k))) (initCheck_spares.after h2k))

theorem linkInitRx_spares {p : Nat} {b : LinkInit} : (h.linkInitRx p b).spares h [.clock, .blob, .mem, .kram, .vid, .obs] := by
  unfold linkInitRx
  extract_lets
  split
  · exact ite_spares (initCheck_spares.after updLink_keeps.sparing) (ite_spares .refl (ite_spares linkDown_spares.fewer
      (resumeDone_spares.after updLink_keeps.sparing)))
  · extract_lets
    exact ite_spares initPage0Rx_spares.fewer (ite_spares (ite_spares (resumeDone_spares.after (updLink_keeps.past uncharge_keeps.sparing))
        linkDown_spares.fewer) (ite_spares (initPage0Rx_spares.after linkDown_spares.fewer) (ite_spares withPair_keeps.sparing .refl)))

theorem linkPageSend_spares {p : Nat} :
    (h.linkPageSend p).spares h [.clock, .blob, .mem, .kram, .plan, .io, .vid, .usb, .hb, .sec, .obs] := by
  unfold linkPageSend
  extract_lets _ _ turn
  have turnk : turn.spares h [.clock, .blob, .mem, .kram, .plan, .io, .vid, .usb, .hb, .sec, .obs] := updLink_keeps.sparing
  exact ite_spares .refl (ite_spares (blockOut_keeps.past turnk) (ite_spares (ite_spares (resumeDone_spares.trans (blockOut_keeps.past
      (updLink_keeps.past turnk))) (blockOut_keeps.past turnk)) .refl))

/-! ### What the port's state does to the link (R133) -/

theorem linkPortStepping_spares {p : Nat} : (h.linkPortStepping p).spares h portSpared := by
  unfold linkPortStepping
  split
  · exact linkHold_spares.fewer
  · exact linkDown_spares
  · exact linkDown_spares
  · exact .refl

theorem linkPortGone_spares {p : Nat} : (h.linkPortGone p).spares h portSpared := ite_spares .refl linkDown_spares

/-! ### Frequency (R563) -/

theorem freqLost_keeps : h.freqLost.keeps h [.od, .regs, .evt, .pwr] :=
  ite_keeps (fire_keeps.trans (flag_keeps.after withPwr_keeps.within)) .refl

theorem freqLaneLost_keeps {n : Nat} : (h.freqLaneLost n).keeps h [.od, .regs, .evt, .pwr] := ite_keeps freqLost_keeps .refl

/-! ### Training blocks sent (R76) -/

theorem dropBlocks_keeps {n : Nat} {step : Bool} {rateNext : Nat} : (h.dropBlocks n step rateNext).keeps h [.out, .lanes] :=
  laneBlocks_keeps.after wakeLane_keeps

theorem laneAdapt_keeps {n : Nat} : (h.laneAdapt n).keeps h [.draws, .lanes] := by
  unfold laneAdapt
  extract_lets _ taps h1
  refine ite_keeps .refl ?_
  have tapsk : taps.1.keeps h [.draws] := by
    unfold taps
    refine foldl_fst_keeps (fun _ _ => ?_) _ (h, [])
    exact withDraws_keeps
  have h1k : h1.keeps h [.draws, .lanes] := ite_keeps .refl (updLane_keeps.after tapsk.within)
  exact ite_keeps (updLane_keeps.after (open_keeps.after h1k)) h1k

/-! ### Rounds (R77 to R79) -/

theorem latchEntries_keeps {p : Nat} : (h.latchEntries p).keeps h [.lanes] := updPort_keeps

theorem portRest_spares {p : Nat} {st : PortState} {status : Nat} : (h.portRest p st status).spares h portSpared := by
  unfold portRest
  extract_lets
  exact doneOpt_keeps.past (setNominal_keeps.past (linkPortGone_spares.trans (forLanes_spares (fun _ _ => updLane_keeps.past
      laneAdapt_keeps.sparing) setPort_keeps.sparing)))

theorem portFail_spares {p cause : Nat} : (h.portFail p cause).spares h portSpared := by
  unfold portFail
  extract_lets
  exact fire_keeps.past (updPort_keeps.past portRest_spares)

theorem roundFails_spares {p : Nat} : (h.roundFails p).spares h portSpared := by
  unfold roundFails
  extract_lets
  exact ite_spares .refl (ite_spares portFail_spares (ite_spares portFail_spares (ite_spares (forLanes_spares (fun _ _ =>
      updLane_keeps.sparing) (updPort_keeps.past setPort_keeps.sparing)) (startRound_keeps.past setPort_keeps.sparing))))

theorem roundFault_spares {p cause ev : Nat} : (h.roundFault p cause ev).spares h portSpared :=
  roundFails_spares.trans (fire_keeps.past updPort_keeps.sparing)

/-! ### STEPPING (R98) -/

theorem stepInto_spares {p rate : Nat} : (h.stepInto p rate).spares h portSpared := by
  unfold stepInto
  extract_lets
  exact linkPortStepping_spares.trans (forLanes_spares (fun _ _ => updLane_keeps.past laneAdapt_keeps.sparing) (updPort_keeps.past
      latchEntries_keeps.sparing))

theorem stepOwn_spares {p rate : Nat} {command : Option Nat} : (h.stepOwn p rate command).spares h portSpared := by
  unfold stepOwn
  extract_lets
  exact stepInto_spares.trans (updPort_keeps.past (foldl_spares (fun _ _ => dropBlocks_keeps.sparing) _ .refl))

/-! ### Drop (R95) -/

theorem dropLane_spares {n : Nat} {own : Bool} : (h.dropLane n own).spares h portSpared := by
  unfold dropLane
  extract_lets _ _ _ _ _ _ h3
  have h3k : h3.spares h portSpared :=
    linkLaneDrop_keeps.past (fire_keeps.past (tally_keeps.past (flag_keeps.past (updLane_keeps.past (ite_spares (dropBlocks_keeps.past
      laneAdapt_keeps.sparing) laneAdapt_keeps.sparing)))))
  exact ite_spares .refl (ite_spares (stepInto_spares.trans h3k) (portNominal_keeps.past h3k))

theorem rejoinFail_keeps {n : Nat} : (h.rejoinFail n).keeps h [.lanes] := ite_keeps updLane_keeps .refl

theorem laneFails_spares {n : Nat} : (h.laneFails n).spares h portSpared := ite_spares dropLane_spares .refl

/-! ### A training block arrives (R76, R80, R82) -/

theorem settleLeader_keeps {b : TrainingBlock} : (h.settleLeader b).keeps h [.lanes] := by
  unfold settleLeader
  extract_lets
  exact ite_keeps (ite_keeps setPort_keeps .refl) (ite_keeps setPort_keeps .refl)

theorem trainingTake_keeps {n : Nat} {b : TrainingBlock} :
    (h.trainingTake n b).keeps h [.draws, .out, .od, .regs, .ctl, .evt, .lanes, .links, .plan, .dm, .pwr] := by
  unfold trainingTake
  extract_lets
  exact ite_keeps (rejoinFail_keeps.after setLane_keeps.within) (goCheck_keeps.after (laneSend_keeps.after (goSet_keeps.after
      (newRequest_keeps.after setLane_keeps.within))))

theorem trainingRx_spares {n : Nat} {b : TrainingBlock} {crcOk : Bool} : (h.trainingRx n b crcOk).spares h portSpared := by
  unfold trainingRx
  extract_lets _ _ _ h1
  have h1k : h1.spares h portSpared := ite_spares settleLeader_keeps.sparing .refl
  exact ite_spares (tally_keeps.past laneCrcBad_keeps.sparing) (ite_spares (ite_spares .refl (ite_spares (roundFault_spares.trans h1k)
      (ite_spares (roundFault_spares.trans h1k) (trainingTake_keeps.past h1k)))) (ite_spares (ite_spares stepInto_spares (ite_spares
      (ite_spares .refl (laneSend_keeps.past updLane_keeps.sparing)) (ite_spares trainingTake_keeps.sparing .refl))) .refl))

/-! ### Detectors and receivers (R80, R84, R88 to R90) -/

theorem lossOfSignal_spares {n : Nat} : (h.lossOfSignal n).spares h portSpared := by
  unfold lossOfSignal
  extract_lets _ _ h1 h2
  have h1k : h1.spares h portSpared := tally_keeps.past setLane_keeps.sparing
  have h2k : h2.spares h portSpared := ite_spares h1k (freqLaneLost_keeps.past h1k)
  exact ite_spares (rejoinFail_keeps.past h2k) (ite_spares (laneFails_spares.trans (flag_keeps.past h2k)) h2k)

theorem lossOfLock_spares {n : Nat} : (h.lossOfLock n).spares h portSpared := by
  unfold lossOfLock
  extract_lets _ _ h1 h2
  have h1k : h1.spares h portSpared := tally_keeps.past setLane_keeps.sparing
  have h2k : h2.spares h portSpared := ite_spares h1k (freqLaneLost_keeps.past h1k)
  exact ite_spares (rejoinFail_keeps.past h2k) (ite_spares (laneFails_spares.trans (flag_keeps.past h2k)) h2k)

theorem trainLimit_spares {p : Nat} : (h.trainLimit p).spares h portSpared := by
  unfold trainLimit
  extract_lets
  exact ite_spares (roundOver_spares fun _ => roundFails_spares) (ite_spares (forLanes_spares (fun _ _ => ite_spares
      rejoinFail_keeps.sparing .refl) .refl) .refl)

theorem followerStep_spares {p : Nat} : (h.followerStep p).spares h portSpared := by
  unfold followerStep
  extract_lets
  exact ite_spares roundFails_spares .refl

/-! ### Quiet (R92 to R94, R130) -/

theorem quietFault_spares {n : Nat} : (h.quietFault n).spares h portSpared :=
  ite_spares (laneFails_spares.trans (fire_keeps.past (flag_keeps.past updLane_keeps.sparing))) .refl

theorem laneDropRx_spares {n : Nat} {step : Bool} {rateNext : Nat} {crcOk : Bool} :
    (h.laneDropRx n step rateNext crcOk).spares h portSpared := by
  unfold laneDropRx
  extract_lets
  exact ite_spares laneCrcBad_keeps.sparing (ite_spares .refl (ite_spares (ite_spares (stepInto_spares.trans (fire_keeps.past
      (tally_keeps.past flag_keeps.sparing))) stepInto_spares) (dropLane_spares.trans rxWake_keeps.sparing)))

/-! ### Ports and their surroundings (R86) -/

theorem portJudge_spares {p : Nat} : (h.portJudge p).spares h portSpared := by
  unfold portJudge
  extract_lets _ h1 h2
  have h1k : h1.spares h portSpared := ite_spares updPort_keeps.sparing .refl
  have h2k : h2.spares h portSpared := ite_spares (portRest_spares.trans h1k) h1k
  exact ite_spares (ite_spares .refl portRest_spares) (ite_spares (trainingBegin_keeps.past h2k) h2k)

theorem portsJudge_spares : h.portsJudge.spares h portSpared := foldl_spares (fun _ _ => portJudge_spares) _ .refl

theorem portRetrain_spares {p : Nat} {command : Option Nat} : (h.portRetrain p command).spares h portSpared := by
  unfold portRetrain
  split
  · exact stepOwn_spares
  · exact ite_spares trainingBegin_keeps.sparing doneOpt_keeps.sparing
  · exact .refl

theorem linkHoldEnd_spares {p : Nat} : (h.linkHoldEnd p).spares h portSpared := by
  refine ite_spares .refl ?_
  extract_lets
  exact ite_spares updPort_keeps.sparing (spares.trans (roundOver_spares fun _ => portFail_spares) updPort_keeps.sparing)

/-! ### Pattern test (R99 to R102) -/

theorem patternJudge_spares {n : Nat} : (h.patternJudge n).spares h portSpared := by
  unfold patternJudge
  extract_lets
  exact ite_spares (updLane_keeps.past dropLane_spares) (ite_spares updLane_keeps.sparing .refl)

theorem patternEnable_spares {n b : Nat} {v : Bool} : (h.patternEnable n b v).spares h portSpared := by
  refine ite_spares .refl ?_
  extract_lets _ h1
  have h1k : h1.spares h portSpared := patternJudge_spares.trans putReg_keeps.sparing
  exact ite_spares (emit_keeps.past h1k) h1k

/-! ### Commands (R106, R107) -/

theorem cmdPortRetrain_spares {req : Path} {c tag : Nat} {args : Bytes} : (h.cmdPortRetrain req c tag args).spares h portSpared := by
  unfold cmdPortRetrain
  extract_lets
  exact issue_spares fun _ => atLeader_spares portRetrain_spares

theorem cmdPortRateStep_spares {req : Path} {c tag : Nat} {args : Bytes} : (h.cmdPortRateStep req c tag args).spares h portSpared := by
  unfold cmdPortRateStep
  extract_lets
  exact issue_spares fun _ => atLeader_spares (ite_spares done_keeps.sparing stepOwn_spares)

theorem cmdLaneDrop_spares {req : Path} {c tag : Nat} {args : Bytes} : (h.cmdLaneDrop req c tag args).spares h portSpared := by
  unfold cmdLaneDrop
  extract_lets _ n
  refine issue_spares fun h => ?_
  refine atLeader_spares ?_
  refine done_keeps.past ?_
  clear_value n
  split
  · exact dropLane_spares
  · exact .refl

/-! ### Sending groups (R114, R117, R118) -/

theorem ackFlush_keeps {p : Nat} : (h.ackFlush p).keeps h [.out, .regs, .lanes, .links] := ite_keeps idleSend_keeps .refl

theorem replayRead_spares {g : Group} : (h.replayRead g).1.spares h tunnelSpared := by
  refine foldl_fst_spares (fun r b => ?_) _ (h, [])
  split
  · exact .refl
  · split
    · exact eccCorrected_keeps.sparing
    · exact faultSend_spares.trans (eccBad_keeps.past (ite_spares (segDiscard_keeps.past wordAddr_keeps.sparing) wordAddr_keeps.sparing))

theorem replayGroup_spares {p : Nat} {g : Group} : (h.replayGroup p g).spares h tunnelSpared := by
  unfold replayGroup
  extract_lets
  exact tally_keeps.past (groupOut_keeps.past (updLink_keeps.past replayRead_spares))

theorem resendRun_spares {p : Nat} : (h.resendRun p).spares h tunnelSpared := by
  unfold resendRun
  extract_lets
  exact ite_spares .refl (foldl_spares (fun _ _ => replayGroup_spares) _ updLink_keeps.sparing)

theorem exhaust_spares {p : Nat} {g : Group} : (h.exhaust p g).spares h portSpared := by
  unfold exhaust
  extract_lets
  exact dropLane_spares.trans (fire_keeps.past (flag_keeps.past updLink_keeps.sparing))

theorem replayAll_spares {p : Nat} : (h.replayAll p).spares h portSpared := by
  unfold replayAll
  extract_lets
  exact resendRun_spares.after (foldl_spares (fun _ _ => exhaust_spares) _ (updLink_keeps.past (foldl_spares (fun _ _ =>
      groupClose_keeps.sparing) _ .refl)))

theorem ackRx_spares {p : Nat} {a : Ack} : (h.ackRx p a).spares h portSpared := by
  unfold ackRx
  extract_lets _ _ _ _ h1
  have h1k : h1.spares h portSpared := updLink_keeps.past uncharge_keeps.sparing
  exact ite_spares .refl (ite_spares (replayAll_spares.trans (flag_keeps.past h1k)) h1k)

/-! ### Cells received (R111, R137, R150, R458) -/

theorem creditFree_keeps {p c n : Nat} : (h.creditFree p c n).keeps h [.links] := updLink_keeps

theorem cellFree_keeps {p : Nat} {b : BufCell} : (h.cellFree p b).keeps h [.draws, .out, .od, .regs, .evt, .links, .sw, .pwr] := by
  unfold cellFree
  split
  · exact freeWords_keeps
  · extract_lets
    exact creditFree_keeps.after open_keeps.within

theorem cellFault_keeps {p : Nat} {b : BufCell} : (h.cellFault p b).keeps h [.draws, .out, .od, .regs, .evt, .links, .sw, .pwr] :=
  fire_keeps.after (tally_keeps.after (flag_keeps.after cellFree_keeps))

theorem staleTear_keeps {p index : Nat} : (h.staleTear p index).keeps h [.draws, .out, .eng, .pair] := by
  unfold staleTear
  extract_lets
  exact ite_keeps .refl (tunOut_keeps.after (withPair_keeps.after open_keeps.within))

theorem receiveCell_keeps {p : Nat} {c : Cell} : (h.receiveCell p c).1.keeps h [.sw] := by
  unfold receiveCell
  extract_lets
  exact ite_fst_keeps (charge_keeps.trans writeCell_keeps) writeCell_keeps

theorem cellRoute_keeps {p i : Nat} {b : BufCell} :
    (h.cellRoute p i b).keeps h [.out, .od, .regs, .ctl, .evt, .lanes, .tun, .plan, .dm, .pwr] := by
  unfold cellRoute
  extract_lets
  exact ite_keeps queueCell_keeps.within (queueCell_keeps.after updCtx_keeps.within)

theorem cellIn_spares {p : Nat} {b : BufCell} : (h.cellIn p b).spares h portSpared := by
  unfold cellIn
  extract_lets _ h1 _ _ h2'
  have h1k : h1.spares h portSpared := mirrorCell_keeps.past tally_keeps.sparing
  have h2'k : h2'.spares h portSpared := tunnelRead_spares.trans h1k
  refine ite_spares (cellFault_keeps.past h1k) ?_
  refine ite_spares (ite_spares (cellRoute_keeps.past (tunnelRead_spares.trans h1k)) (cellFree_keeps.past (tunnelRead_spares.trans h1k))) ?_
  refine ite_spares (tally_keeps.past (cellFree_keeps.past (withPair_keeps.past h1k))) ?_
  split
  · exact ite_spares (cellFault_keeps.past h2'k) (cellRoute_keeps.past h2'k)
  · exact staleTear_keeps.past (cellFault_keeps.past h2'k)

theorem groupDeliver_spares {p : Nat} {cells : List BufCell} : (h.groupDeliver p cells).spares h portSpared := by
  unfold groupDeliver
  extract_lets _ h2
  have h2k : h2.spares h portSpared := foldl_spares (fun _ _ => cellIn_spares) _ updLink_keeps.sparing
  exact ite_spares (idleSend_keeps.past h2k) h2k

theorem receiveCells_keeps {p : Nat} {cells : List Cell} : (h.receiveCells p cells).1.keeps h [.sw] := by
  unfold receiveCells
  refine foldl_fst_keeps (fun _ _ => ?_) cells (h, [])
  exact receiveCell_keeps

theorem heldDeliver_spares {p n : Nat} : (h.heldDeliver p n).spares h portSpared := by
  induction n generalizing h with
  | zero => exact .refl
  | succ n ih =>
    unfold heldDeliver
    split
    · exact .refl
    · exact ih.trans (groupDeliver_spares.trans updLink_keeps.sparing)

theorem groupRx_spares {p n : Nat} {cells : List Cell} {seq : Nat} {good : Bool} : (h.groupRx p n cells seq good).spares h portSpared := by
  unfold groupRx
  extract_lets
  exact ite_spares .refl (ite_spares (ackFlush_keeps.past (nakRaise_keeps.past (ite_spares tally_keeps.sparing .refl))) (ite_spares
      (heldDeliver_spares.trans (groupDeliver_spares.trans (receiveCells_keeps.past linkTraffic_keeps.sparing))) (ite_spares
      tally_keeps.sparing (ite_spares (ackFlush_keeps.past (nakRaise_keeps.past tally_keeps.sparing)) (ite_spares (ackFlush_keeps.past
      nakRaise_keeps.sparing) (ite_spares tally_keeps.sparing (updLink_keeps.past receiveCells_keeps.sparing)))))))

/-! ### Credits (R125) -/

theorem creditRx_spares {p : Nat} {init : Bool} {f : BitVec 96} :
    (h.creditRx p init f).spares h [.clock, .blob, .mem, .kram, .plan, .io, .vid, .usb, .hb, .sec, .obs] := by
  unfold creditRx
  extract_lets
  exact ite_spares (ite_spares .refl (linkReady_spares.trans (initDone_spares.after updLink_keeps.sparing))) (ite_spares
      updLink_keeps.sparing .refl)

/-! ### Cell slots (R181 to R183) -/

theorem chooseCell_keeps {e : Nat} : (h.chooseCell e).1.keeps h [.plan] := by
  unfold chooseCell
  extract_lets _ go
  refine ite_fst_keeps ?_ ?_
  · unfold go
    extract_lets
    exact setEgress_keeps
  · refine ite_fst_keeps ?_ .refl
    unfold go
    extract_lets
    exact setEgress_keeps

theorem popHead_keeps {e i : Nat} : (h.popHead e i).keeps h [.plan] := by
  unfold popHead
  extract_lets
  exact setEgress_keeps

theorem loseCell_keeps {reader e : Nat} {b : BufCell} :
    (h.loseCell reader e b).keeps h [.draws, .out, .od, .regs, .evt, .links, .plan, .sw, .pwr] := by
  unfold loseCell
  extract_lets
  exact freeWords_keeps.after setEgress_keeps.within

theorem readCell_spares {reader e : Nat} {b : BufCell} : (h.readCell reader e b).1.spares h tunnelSpared := by
  unfold readCell
  extract_lets lost h1 _ h1'
  have h1k : h1.spares h tunnelSpared := by
    unfold h1
    unfold lost
    extract_lets a h1
    have ak : a.1.spares h tunnelSpared := wordAddr_keeps.past loseCell_keeps.sparing
    have h1k : h1.spares h tunnelSpared := eccBad_keeps.past (ite_spares (freeDamaged_keeps.past ak) ak)
    exact faultSend_spares.trans (ite_spares (segDiscard_keeps.past h1k) h1k)
  have h1'k : h1'.spares h tunnelSpared := ite_spares .refl eccCorrected_keeps.sparing
  refine ite_fst_spares (withSw_keeps.past h1k) ?_
  refine ite_fst_spares ?_ (ite_spares h1'k (eccCorrected_keeps.past h1'k))
  unfold lost
  extract_lets a h1
  have ak : a.1.spares h tunnelSpared := wordAddr_keeps.past loseCell_keeps.sparing
  have h1k : h1.spares h tunnelSpared := eccBad_keeps.past (ite_spares (freeDamaged_keeps.past ak) ak)
  exact faultSend_spares.trans (ite_spares (segDiscard_keeps.past h1k) h1k)

theorem afterCells_keeps {i : Nat} : (h.afterCells i).keeps h [.draws, .out, .od, .regs, .evt, .tun, .plan, .eng, .sw, .pair, .sec, .pwr] :=
  settleClass_keeps.after (transitDrained_keeps.trans drainProgress_keeps.within)

theorem groupCell_keeps {p n : Nat} {c : BufCell} : (h.groupCell p n c).keeps h [.out, .od, .regs, .lanes, .links] := by
  unfold groupCell
  extract_lets
  split
  · exact ite_keeps (groupClose_keeps.trans updLink_keeps.within) updLink_keeps.within
  · exact updLink_keeps.within

theorem cellSend_spares {p n : Nat} {b : BufCell} :
    (h.cellSend p n b).spares h [.clock, .blob, .mem, .kram, .mode, .ctl, .bcn, .dm, .io, .vid, .usb, .hb, .moor, .obs] := by
  unfold cellSend
  extract_lets
  exact afterCells_keeps.past (groupCell_keeps.past (mirrorCell_keeps.past (tally_keeps.past (updCtx_keeps.past (updLink_keeps.past
      (charge_keeps.past (freeWords_keeps.past popHead_keeps.sparing)))))))

theorem gathered_keeps {i : Nat} {cells : List BufCell} : (h.gathered i cells).keeps h [.tun, .eng] := by
  unfold gathered
  extract_lets
  exact withEng_keeps.after updCtx_keeps.within

theorem gatherDiscard_keeps {i : Nat} {cells : List BufCell} :
    (h.gatherDiscard i cells).keeps h [.draws, .out, .od, .regs, .evt, .links, .tun, .sw, .pwr] :=
  segDiscard_keeps.after (updCtx_keeps.after freeWords_keeps.within)

theorem gatherCell_keeps {e : Nat} {b0 : BufCell} :
    (h.gatherCell e b0).keeps h [.draws, .out, .od, .regs, .evt, .links, .tun, .plan, .eng, .sw, .pwr] := by
  unfold gatherCell
  extract_lets _ _ _ h0 _ h1
  have h0k : h0.keeps h [.draws, .out, .od, .regs, .evt, .links, .tun, .plan, .eng, .sw, .pwr] := popHead_keeps.within
  have h1k : h1.keeps h [.draws, .out, .od, .regs, .evt, .links, .tun, .plan, .eng, .sw, .pwr] :=
    ite_keeps (gatherDiscard_keeps.after h0k) h0k
  exact ite_keeps (segDiscard_keeps.after (updCtx_keeps.after (freeWords_keeps.after h0k))) (ite_keeps (gatherDiscard_keeps.after h1k)
      (ite_keeps (gatherDiscard_keeps.after h1k) (ite_keeps (gathered_keeps.after h1k) (updCtx_keeps.after h1k))))

theorem copySend_keeps {e : Nat} : (h.copySend e).keeps h [.out, .od, .links, .sw, .io, .hb] := by
  unfold copySend
  split
  · exact .refl
  · extract_lets _ _ _ h2
    have h2k : h2.keeps h [.out, .od, .links, .sw, .io, .hb] := bump_keeps.after (uncharge_keeps.after withSw_keeps.within)
    exact ite_keeps .refl (ite_keeps (hostqDeliver_keeps.after h2k) (tally_keeps.after (emit_keeps.after h2k)))

theorem cellSlot_spares {e k : Nat} : (h.cellSlot e k).spares h tunnelSpared := by
  have chosen := h.chooseCell_keeps (e := e)
  unfold cellSlot
  generalize h.chooseCell e = r at chosen ⊢
  obtain ⟨h1, _ | q, excess⟩ := r
  · refine ite_spares (ite_spares resendRun_spares ?_) (copySend_keeps.past chosen.sparing)
    split
    · exact .refl
    · exact chosen.sparing
  · have read {reader : Nat} : (h1.readCell reader e q).1.spares h tunnelSpared := readCell_spares.trans chosen.sparing
    refine ite_spares (ite_spares resendRun_spares ?_) ?_
    · split
      · exact .refl
      · exact ite_spares read (ite_spares (tally_keeps.past (cellSend_spares.after read)) (cellSend_spares.after read))
    · exact ite_spares read (afterCells_keeps.past
        (ite_spares (tally_keeps.past (gatherCell_keeps.past read)) (gatherCell_keeps.past read)))

/-! ### Dispatch, and Tenders that come into service (R216, R226, R232) -/

theorem jobDispatch_spares {i : Nat} {encap : Bool} : (h.jobDispatch i encap).spares h portSpared := by
  unfold jobDispatch
  extract_lets g
  have gk : g.spares h portSpared := tunnelRead_spares
  split
  · exact redispatch_keeps.past gk
  · exact ite_spares (emmcRun_keeps.past (dispatch_keeps.past gk)) (dispatch_keeps.past gk)

theorem tendersUp_spares : h.tendersUp.spares h [.clock, .blob, .mem, .kram, .vid, .obs] :=
  portsJudge_spares.after (foldl_spares (fun _ _ => systemUp_spares.fewer) _ (judgeShort_keeps.past (homeless_keeps.past
      movePins_keeps.sparing)))

theorem cmdTenderRestore_spares {req : Path} {c tag : Nat} {args : Bytes} {ok : Bool} :
    (h.cmdTenderRestore req c tag args ok).spares h [.clock, .blob, .mem, .kram, .vid, .obs] := by
  unfold cmdTenderRestore
  extract_lets
  refine issue_spares fun h => ?_
  extract_lets
  exact ite_spares finish_keeps.sparing (ite_spares finish_keeps.sparing (ite_spares (finish_keeps.past setTender_keeps.sparing)
      (finish_keeps.past (tendersUp_spares.trans setTender_keeps.sparing))))

/-! ### States of a domain (R548 to R550) -/

theorem updDomain_keeps {d : Nat} {f : DomSt → DomSt} : (h.updDomain d f).keeps h [.pwr] := setDomain_keeps

theorem setPll_keeps {k : Option Nat} {v : Bool} : (h.setPll k v).keeps h [.pwr] := by
  unfold setPll
  split
  · exact .refl
  · exact withPwr_keeps

theorem domChanged_keeps {d : Nat} {st : DomState} : (h.domChanged d st).keeps h [.od, .regs, .evt, .pwr] :=
  fire_keeps.trans (tally_keeps.after updDomain_keeps.within)

/-! ### What leaving does (R552) -/

theorem switchLost_spares : h.switchLost.spares h [.clock, .blob, .kram, .mode, .ctl, .lanes, .bcn, .dm, .io, .usb, .hb, .moor, .obs] := by
  unfold switchLost
  extract_lets
  exact withMemPlanEngSwVid_keeps.past (foldl_spares (fun _ _ => freeCtx_keeps.past purge_keeps.sparing) _ .refl)

theorem clusterDiscard_keeps {k : Nat} : (h.clusterDiscard k).keeps h [.draws, .out, .od, .regs, .evt, .links, .tun, .eng, .sw, .pwr] := by
  refine foldl_keeps (fun h x => ?_) _ .refl
  extract_lets
  exact foldl_keeps (fun _ _ => discardJob_keeps) _ setTender_keeps.within

theorem clusterStop_keeps {k : Nat} {t : DomState} :
    (h.clusterStop k t).keeps h [.draws, .out, .od, .regs, .evt, .links, .tun, .eng, .sw, .pwr] := by
  unfold clusterStop
  extract_lets h1 lost
  have h1k : h1.keeps h [.draws, .out, .od, .regs, .evt, .links, .tun, .eng, .sw, .pwr] :=
    foldl_keeps (fun _ _ => rehome_keeps.within) _ clusterDiscard_keeps
  exact judgeShort_keeps.after (ite_keeps (foldl_keeps (fun _ _ => setTender_keeps.within) _ (loadStore_keeps.after h1k)) h1k)

theorem clusterStart_spares {k : Nat} {cold : Bool} : (h.clusterStart k cold).spares h [.clock, .blob, .mem, .kram, .vid, .obs] :=
  tendersUp_spares.trans (ite_spares loadStore_keeps.sparing .refl)

theorem dsiHalt_spares : h.dsiHalt.spares h [.clock, .blob, .mem, .kram, .mode, .bcn, .moor, .obs] := put_keeps.past dsiEnable_spares

theorem emmcHalt_spares : h.emmcHalt.spares h tunnelSpared := put_keeps.past emmcEnable_spares

theorem cryptoLost_keeps : h.cryptoLost.keeps h [.od, .regs, .ctl, .evt, .dm, .sec, .pwr] := by
  unfold cryptoLost
  extract_lets
  exact foldl_keeps (fun _ _ => doneOpt_keeps.within) _ withSec_keeps.within

theorem lampStop_keeps {t : DomState} : (h.lampStop t).keeps h [.dm] := by
  unfold lampStop
  extract_lets
  exact ite_keeps (foldl_keeps (fun _ _ => setLamp_keeps) _ clearDaymarks_keeps) clearDaymarks_keeps

theorem domStop_spares {d : Nat} {t : DomState} : (h.domStop d t).spares h domainSpared := by
  unfold domStop
  extract_lets h1
  have h1k : h1.spares h domainSpared := loseBindings_spares.fewer
  exact ite_spares (ite_spares (switchLost_spares.after h1k) h1k) (ite_spares h1k (ite_spares (clusterStop_keeps.past h1k) (ite_spares
      (portsJudge_spares.after h1k) (ite_spares (foldl_spares (fun _ _ => ethLink_keeps.sparing) _ h1k) (ite_spares (hostReset_spares.after
      (pcieLink_spares.after h1k)) (ite_spares (hsicJudge_keeps.past (hsicJudge_keeps.past h1k)) (ite_spares (dsiHalt_spares.after h1k)
      (ite_spares (csiStop_spares.after (csiStop_spares.after h1k)) (ite_spares (foldl_spares (fun _ _ => setSer_keeps.sparing) _
      (emmcHalt_spares.after h1k)) (ite_spares (ite_spares (cryptoLost_keeps.past h1k) h1k) (lampStop_keeps.past h1k)))))))))))

theorem domLeave_spares {d : Nat} {t : DomState} : (h.domLeave d t).spares h domainSpared := by
  unfold domLeave
  extract_lets
  exact domChanged_keeps.past (domStop_spares.trans (setPll_keeps.past (withPwr_keeps.past setDomain_keeps.sparing)))

/-! ### The Tender image (R231, R232) -/

theorem imageFirst_keeps {es : List Nat} : (h.imageFirst es).1.keeps h [.od, .regs, .evt, .sw, .sec, .pwr] := by
  induction es generalizing h with
  | nil => exact .refl
  | cons e es ih =>
    unfold imageFirst
    have checked := h.imageCheck_keeps (off := (h.dirEntry e).2.1)
    generalize h.imageCheck (h.dirEntry e).2.1 = r at checked
    obtain ⟨h1, _ | m⟩ := r
    · exact ih.trans checked
    · exact checked

theorem imageStart_keeps : h.imageStart.keeps h [.od, .regs, .evt, .eng, .sw, .sec, .pwr] := by
  unfold imageStart
  extract_lets _ h0
  have first := (imageFirst_keeps (h := h0) (es := (List.range 16).filter (fun e => decide ((h0.dirEntry e).1 = 2) && h0.domOn 2))).after
    (c := h) (l' := [.od, .regs, .evt, .eng, .sw, .sec, .pwr]) withEng_keeps.within
  generalize h0.imageFirst _ = r at first
  obtain ⟨h1, _ | m⟩ := r
  · exact fire_keeps.after (flag_keeps.after first)
  · exact imageIn_keeps.after first

/-! ### What returning does (R549, R556) -/

theorem domStart_spares {d : Nat} {cold : Bool} : (h.domStart d cold).spares h bootSpared :=
  ite_spares .refl (ite_spares (ite_spares (tendersUp_spares.after imageStart_keeps.sparing) .refl) (ite_spares clusterStart_spares.fewer
      (ite_spares portsJudge_spares.fewer (ite_spares (hsicJudge_keeps.past hsicJudge_keeps.sparing) (ite_spares (ite_spares
      dsiEnable_spares.fewer .refl) (ite_spares (ite_spares emmcStart_keeps.sparing .refl) (ite_spares (foldl_spares (fun _ _ => ite_spares
      lampEnable_keeps.sparing .refl) _ .refl) .refl)))))))

theorem domUp_spares {d : Nat} : (h.domUp d).spares h bootSpared := by
  unfold domUp
  extract_lets
  exact doneOpt_keeps.past (domStart_spares.trans (domChanged_keeps.past (setPll_keeps.past (withPwr_keeps.past setDomain_keeps.sparing))))

theorem powerUpDone_spares {d : Nat} : (h.powerUpDone d).spares h bootSpared := ite_spares domUp_spares .refl

/-! ### The handshake (R551 to R554) -/

theorem domFail_keeps {d why : Nat} : (h.domFail d why).keeps h [.od, .regs, .ctl, .evt, .eng, .dm, .pwr] := by
  unfold domFail
  extract_lets
  exact doneOpt_keeps.after (ite_keeps (judgeShort_keeps.after (homeless_keeps.after domStays_keeps.within)) domStays_keeps.within)

theorem domGo_spares {d : Nat} {t : DomState} : (h.domGo d t).spares h domainSpared := by
  unfold domGo
  extract_lets
  exact ite_spares (updDomain_keeps.past (domLeave_spares.trans domLeave_spares)) (doneOpt_keeps.past (domLeave_spares.trans
      updDomain_keeps.sparing))

theorem domJudge_spares {d : Nat} : (h.domJudge d).spares h domainSpared := by
  unfold domJudge
  extract_lets
  split
  · extract_lets _ h1
    have h1k : h1.spares h domainSpared := ite_spares fire_keeps.sparing .refl
    exact ite_spares domFail_keeps.sparing (ite_spares .refl (domGo_spares.trans (ite_spares (lampsDark_keeps.past h1k) h1k)))
  · exact .refl

theorem domReplace_keeps {d : Nat} : (h.domReplace d).keeps h [.od, .regs, .ctl, .evt, .dm, .pwr] := by
  unfold domReplace
  extract_lets
  exact ite_keeps .refl (doneOpt_keeps.trans (withPwr_keeps.after setDomain_keeps.within))

theorem domRequest_spares {d : Nat} {t : DomState} {force : Bool} {c : Option Nat} : (h.domRequest d t force c).spares h domainSpared := by
  unfold domRequest
  extract_lets g
  have gk : g.spares h domainSpared := domReplace_keeps.sparing
  exact ite_spares (doneOpt_keeps.past gk) (ite_spares (ite_spares (withPwr_keeps.past (setDomain_keeps.past gk)) (setDomain_keeps.past gk))
      (ite_spares (doneOpt_keeps.past gk) (ite_spares (doneOpt_keeps.past (domChanged_keeps.past (domStop_spares.trans gk)))
      (domJudge_spares.trans (ite_spares (judgeShort_keeps.past (foldl_spares (fun _ _ => rehome_keeps.sparing) _ (setDomain_keeps.past
      gk))) (setDomain_keeps.past gk))))))

theorem cmdDomainSet_spares {req : Path} {c tag : Nat} {args : Bytes} : (h.cmdDomainSet req c tag args).spares h domainSpared := by
  unfold cmdDomainSet
  extract_lets
  exact spares.trans (issue_spares fun _ => domRequest_spares) (ite_spares updDomain_keeps.sparing .refl)

/-! ### Pad holds (R555) -/

theorem padRelease_keeps {d : Nat} : (h.padRelease d).keeps h [.draws, .out, .od, .eng, .dm, .pair, .pwr] := by
  unfold padRelease
  extract_lets h1
  have h1k : h1.keeps h [.draws, .out, .od, .eng, .dm, .pair, .pwr] := updDomain_keeps.within
  exact ite_keeps (foldl_keeps (fun _ _ => driveLamp_keeps.within) _ h1k) (ite_keeps (foldl_keeps (fun _ _ => emit_keeps.within) _ h1k)
      (ite_keeps (foldl_keeps (fun _ _ => ite_keeps emit_keeps.within .refl) _ h1k) h1k))

theorem padsRelease_keeps {mask : Nat} : (h.padsRelease mask).keeps h [.draws, .out, .od, .eng, .dm, .pair, .pwr] :=
  foldl_keeps (fun _ _ => padRelease_keeps) _ .refl

/-! ### Wake (R540, R557 to R559) -/

theorem wakeDomain_spares {d : Nat} : (h.wakeDomain d).spares h bootSpared :=
  ite_spares domFail_keeps.sparing (ite_spares (ite_spares .refl domUp_spares) powerQueue_keeps.sparing)

theorem wakeEdge_spares {k : Nat} {rising : Bool} : (h.wakeEdge k rising).spares h bootSpared := by
  unfold wakeEdge
  extract_lets
  exact ite_spares .refl (fireWith_keeps.past (foldl_spares (fun _ _ => wakeDomain_spares) _ withEvt_keeps.sparing))

/-! ### Droop, PLLs, frequency, watchdog (R560 to R563, R567) -/

theorem clockCap_keeps {v : Bool} : (h.clockCap v).keeps h [.od, .pwr] := by
  unfold clockCap
  extract_lets
  exact withPwr_keeps.after put_keeps.within

theorem wdtKick_keeps {key : Nat} : (h.wdtKick key).keeps h [.pwr] := ite_keeps withPwr_keeps .refl

/-! ### Commands that end with CANCELLED (R62, R63) -/

theorem forgetParts_keeps : h.forgetParts.keeps h [.moor, .pwr, .obs] := by
  unfold forgetParts
  extract_lets
  exact foldl_keeps (fun _ _ => updDomain_keeps.within) _ (foldl_keeps (fun _ _ => setBank_keeps.within) _ (foldl_keeps (fun _ _ =>
      updConn_keeps.within) _ .refl))

theorem forgetUnits_keeps : h.forgetUnits.keeps h [.ctl, .plan, .eng, .bcn, .pair, .sec, .pwr] := withCtlPlanEngBcnPairSecPwr_keeps

theorem forgetCommands_keeps : h.forgetCommands.keeps h [.ctl, .plan, .eng, .bcn, .pair, .moor, .sec, .pwr, .obs] :=
  forgetUnits_keeps.after forgetParts_keeps.within

theorem cancelCommands_keeps {but : Option Nat} :
    (h.cancelCommands but).keeps h [.ctl, .plan, .eng, .bcn, .pair, .moor, .sec, .pwr, .obs] :=
  forgetCommands_keeps.trans (foldl_keeps (fun _ _ => ite_keeps .refl finish_keeps.within) _ .refl)

/-! ### Entry to FOGHORN (R22 to R25) -/

theorem domDrop_spares {d : Nat} {t : DomState} : (h.domDrop d t).spares h domainSpared := by
  unfold domDrop
  extract_lets g
  have gk : g.spares h domainSpared := domReplace_keeps.sparing
  exact ite_spares gk (ite_spares (domLeave_spares.trans gk) (ite_spares (domChanged_keeps.past (domStop_spares.trans gk)) gk))

theorem portsOff_spares : h.portsOff.spares h portSpared := foldl_spares (fun _ _ => ite_spares .refl portRest_spares) _ .refl

theorem fogDomains_spares : h.fogDomains.spares h domainSpared := by
  unfold fogDomains
  extract_lets
  exact foldl_spares (fun _ _ => domDrop_spares) _ (domDrop_spares.trans (foldl_spares (fun _ _ => domDrop_spares) _ .refl))

theorem fogTunnels_keeps : h.fogTunnels.keeps h [.draws, .out, .od, .regs, .evt, .links, .tun, .plan, .eng, .sw, .pair, .sec, .pwr] := by
  unfold fogTunnels
  extract_lets
  exact withEng_keeps.after (keepDrop_keeps.after (foldl_keeps (fun _ _ => ite_keeps purge_keeps.within (freeCtx_keeps.after
      purge_keeps.within)) _ .refl))

theorem fogRetryStart_keeps : h.fogRetryStart.keeps h [.mode, .lines] := withMode_keeps

theorem enterFog_spares {cause : Nat} {but : Option Nat} : (h.enterFog cause but).spares h [.clock, .blob, .kram] := by
  unfold enterFog
  extract_lets g _ _ h1
  have gk : g.spares h [.clock, .blob, .kram] :=
    freqLost_keeps.past (portsOff_spares.after (cancelCommands_keeps.past lampsDark_keeps.sparing))
  have h1k : h1.spares h [.clock, .blob, .kram] := withModeLinks_keeps.past gk
  exact resources_keeps.past (fogRetryStart_keeps.past (moorFog_keeps.past (clearDaymarks_keeps.past (obsOff_keeps.past
      (fogDomains_spares.after (fogTunnels_keeps.past (swapClear_keeps.past h1k)))))))

theorem linksFailed_keeps : h.linksFailed.keeps h [.od, .regs, .evt, .pwr] := foldl_keeps (fun _ _ => ite_keeps fire_keeps .refl) _ .refl

theorem deadlineStart_keeps : h.deadlineStart.keeps h [.mode, .lines, .links] := ite_keeps withModeLinks_keeps .refl

theorem deadlineExpired_spares : h.deadlineExpired.spares h [.clock, .blob, .kram] := by
  refine ite_spares .refl ?_
  extract_lets _ h1
  have h1k : h1.spares h [.clock, .blob, .kram] := withMode_keeps.sparing
  exact ite_spares (ite_spares (linksFailed_keeps.past h1k) h1k) (enterFog_spares.trans h1k)

/-! ### Retrain (R28) -/

theorem retrainStop_spares {status : Nat} : (h.retrainStop status).spares h [.clock, .blob, .kram, .moor, .obs] := by
  unfold retrainStop
  split
  · exact .refl
  · extract_lets h1 _ _ h2 h3
    have h1k : h1.spares h [.clock, .blob, .kram, .moor, .obs] := portsOff_spares.fewer
    have h2k : h2.spares h [.clock, .blob, .kram, .moor, .obs] := withModeLinks_keeps.past h1k
    have h3k : h3.spares h [.clock, .blob, .kram, .moor, .obs] := fogDomains_spares.after (fogTunnels_keeps.past h2k)
    split
    · exact done_keeps.past h3k
    · exact h3k

theorem retrainFail_spares : h.retrainFail.spares h [.clock, .blob, .kram, .moor, .obs] :=
  ite_spares (fogRetryStart_keeps.past retrainStop_spares) .refl

theorem cmdModeFog_spares {req : Path} {c tag : Nat} {args : Bytes} : (h.cmdModeFog req c tag args).spares h [.clock, .blob, .kram] :=
  issue_spares fun _ => done_keeps.past enterFog_spares

/-! ### Confirmation (R15, R16) -/

theorem confirm_spares :
    h.confirm.spares h [.clock, .draws, .blob, .mem, .kram, .tun, .eng, .sw, .bcn, .io, .vid, .hb, .pair, .sec, .obs] := by
  refine ite_spares .refl ?_
  extract_lets
  exact hsicJudge_keeps.past (hsicJudge_keeps.past (renegotiate_keeps.past (startupCounts_keeps.past withMode_keeps.sparing)))

/-! ### Seating (R29, R473 to R476) -/

theorem connLost_keeps {c : Nat} : (h.connLost c).keeps h [.od, .regs, .ctl, .evt, .dm, .moor, .pwr] := by
  unfold connLost
  extract_lets
  exact foldl_keeps (fun _ _ => doneOpt_keeps.within) _ setConn_keeps.within

theorem seatedAfresh_keeps : h.seatedAfresh.keeps h [.out, .od, .mode, .lines, .lanes, .links, .moor, .pwr] := by
  refine ite_keeps ?_ .refl
  extract_lets
  exact powerBoot_keeps.after (moorFogEnd_keeps.after withMode_keeps.within)

theorem seatConfirm_spares {i : Nat} : (h.seatConfirm i).spares h [.clock, .blob, .mem, .kram, .vid, .obs] := by
  refine ite_spares .refl ?_
  extract_lets _ _ _ h2 _ h3
  have h2k : h2.spares h [.clock, .blob, .mem, .kram, .vid, .obs] :=
    seatingDone_keeps.past (moorEvent_keeps.past (moorFlag_keeps.past withMoor_keeps.sparing))
  have h3k : h3.spares h [.clock, .blob, .mem, .kram, .vid, .obs] := ite_spares (seatedAfresh_keeps.past h2k) h2k
  exact portsJudge_spares.after (ite_spares (deadlineStart_keeps.past h3k) h3k)

theorem stageUnseat_keeps {i : Nat} : (h.stageUnseat i).keeps h [.out, .od, .regs, .ctl, .evt, .dm, .moor, .pwr] := by
  unfold stageUnseat
  extract_lets
  exact ite_keeps .refl (withMoor_keeps.after (ite_keeps .refl killStage_keeps))

theorem seatRelease_spares {i : Nat} : (h.seatRelease i).spares h [.clock, .blob, .kram, .obs] := by
  refine ite_spares .refl ?_
  extract_lets _ _ _ _ _ _ _ h3 h4 _ h5
  have h3k : h3.spares h [.clock, .blob, .kram, .obs] :=
    moorEvent_keeps.past (moorFlag_keeps.past (stageUnseat_keeps.past (ite_spares (selectFeed_keeps.past withMoor_keeps.sparing)
      withMoor_keeps.sparing)))
  have h4k : h4.spares h [.clock, .blob, .kram, .obs] :=
    ite_spares (ite_spares (fogOriginate_keeps.past (connLost_keeps.past h3k)) (connLost_keeps.past h3k)) h3k
  have h5k : h5.spares h [.clock, .blob, .kram, .obs] := ite_spares (withMode_keeps.past h4k) h4k
  exact portsJudge_spares.after (ite_spares (withMode_keeps.past (retrainStop_spares.after h5k)) h5k)

/-! ### Views (one function a chapter): the number that an entry shows, `none` where it shows its stored value -/

theorem setCrcChan_keeps {c : Nat} {x : CrcChan} : (h.setCrcChan c x).keeps h [.sec] := withSec_keeps

theorem odValue_keeps {r : OdRow} {key : Nat} : (h.odValue r key).1.keeps h [.draws] := by
  unfold odValue
  split
  · exact .refl
  · rename_i n _
    exact ite_fst_keeps (open_keeps (w := 1)) (ite_fst_keeps (open_keeps (w := 8 * n)) .refl)

/-! ### What a write does -/

theorem putDeferred_keeps {e : Entry} {v : Nat} {defer : Bool} : (h.putDeferred e v defer).keeps h [.od, .plan] := by
  unfold putDeferred
  extract_lets
  exact put_keeps.after (ite_keeps withPlan_keeps.within .refl)

theorem ringCtrlWrite_keeps {r v : Nat} : (h.ringCtrlWrite r v).keeps h [.evt, .lines] := by
  unfold ringCtrlWrite
  extract_lets
  exact ite_keeps setRing_keeps (ringEnable_keeps.trans setRing_keeps)

theorem ringBaseWrite_keeps {r v : Nat} : (h.ringBaseWrite r v).keeps h [.evt, .lines] := ite_keeps .refl setRing_keeps

theorem loopback_spares {q v : Nat} : (h.loopback q v).spares h portSpared := by
  refine ite_spares .refl ?_
  extract_lets h1
  have h1k : h1.spares h portSpared := put_keeps.sparing
  exact ite_spares (patternJudge_spares.trans h1k) (ite_spares h1k (loseBindings_spares.after h1k))

theorem putCore_spares {e : Entry} {ix sub v : Nat} :
    sparesAll (h.putCore e ix sub v) h [.clock, .draws, .blob, .mem, .kram, .tun, .bcn, .io, .vid, .hb, .pair, .sec, .obs] := by
  refine ite_sparesAll (some_sparesAll confirm_spares.fewer) (ite_sparesAll (some_sparesAll (judgeShort_keeps.past put_keeps.sparing))
    (ite_sparesAll (some_sparesAll put_keeps.sparing) (ite_sparesAll (some_sparesAll (withPwr_keeps.past (b := h.put e v)
        put_keeps.sparing))
    (ite_sparesAll (some_sparesAll clockCap_keeps.sparing) (ite_sparesAll (some_sparesAll (recheckPool_keeps.past put_keeps.sparing))
        ?_)))))
  split
  · exact some_sparesAll (ite_spares (recheck_keeps.past put_keeps.sparing)
      (ite_spares (foldl_spares (fun _ _ => recheck_keeps.sparing) _ put_keeps.sparing)
        (ite_spares (pfcUpdate_keeps.past put_keeps.sparing) put_keeps.sparing)))
  · exact none_sparesAll

theorem putLinks_spares {e : Entry} {ix sub v : Nat} : sparesAll (h.putLinks e ix sub v) h portSpared := by
  refine ite_sparesAll (some_sparesAll putDeferred_keeps.sparing) ?_
  split
  · exact some_sparesAll putDeferred_keeps.sparing
  · split
    · exact some_sparesAll (ite_spares (portJudge_spares.trans put_keeps.sparing)
        (ite_spares (foldl_spares (fun _ _ => ite_spares .refl wakeLane_keeps.sparing) _ put_keeps.sparing) put_keeps.sparing))
    · exact some_sparesAll (ite_spares (resource_keeps.past put_keeps.sparing) put_keeps.sparing)
    · exact some_sparesAll (ite_spares (encModeSet_keeps.past put_keeps.sparing) put_keeps.sparing)
    · exact some_sparesAll (ite_spares (lampEnable_keeps.past put_keeps.sparing)
        (ite_spares (driveLamp_keeps.past put_keeps.sparing) (ite_spares (lampsAutoAll_keeps.past put_keeps.sparing) put_keeps.sparing)))
    · exact none_sparesAll

theorem canNominal_keeps {n : Nat} : (h.canNominal n).keeps h [.od, .regs, .evt, .plan, .pwr] := setNominal_keeps

theorem putNetwork_spares {e : Entry} {ix sub v : Nat} : sparesAll (h.putNetwork e ix sub v) h tunnelSpared := by
  refine ite_sparesAll (some_sparesAll emmcEnable_spares) ?_
  split
  · exact some_sparesAll (ite_spares (ethLink_keeps.past (loseBindings_spares.trans put_keeps.sparing)) put_keeps.sparing)
  · exact some_sparesAll (ite_spares
      (ite_spares (claimStart_keeps.past (setCan_keeps.past put_keeps.sparing))
        (ite_spares put_keeps.sparing (canStop_keeps.past (loseBindings_spares.trans put_keeps.sparing))))
      (ite_spares (canNominal_keeps.past put_keeps.sparing) (ite_spares (claimStart_keeps.past put_keeps.sparing) put_keeps.sparing)))
  · exact some_sparesAll (ite_spares (loseBindings_spares.trans put_keeps.sparing)
      (ite_spares (setNominal_keeps.past put_keeps.sparing) put_keeps.sparing))
  · exact none_sparesAll

theorem putMedia_spares {e : Entry} {ix sub v : Nat} :
    sparesAll (h.putMedia e ix sub v) h [.clock, .blob, .mem, .kram, .mode, .bcn, .moor, .obs] := by
  refine ite_sparesAll (some_sparesAll (setNominal_keeps.past dsiEnable_spares))
    (ite_sparesAll (some_sparesAll showSlot_keeps.sparing) ?_)
  split
  · exact some_sparesAll (ite_spares (csiStop_spares.trans put_keeps.sparing) put_keeps.sparing)
  · exact some_sparesAll (ite_spares hsicSet_spares.fewer (ite_spares (hsicJudge_keeps.past put_keeps.sparing) put_keeps.sparing))
  · exact some_sparesAll (ite_spares fnSet_spares.fewer (ite_spares (usbJudge_keeps.past put_keeps.sparing) put_keeps.sparing))
  · exact none_sparesAll

theorem putMooring_spares {e : Entry} {ix sub v : Nat} :
    sparesAll (h.putMooring e ix sub v) h [.clock, .blob, .mem, .kram, .mode, .bcn, .vid, .obs] := by
  refine ite_sparesAll (some_sparesAll (updCtx_keeps.past put_keeps.sparing)) (ite_sparesAll (some_sparesAll put_keeps.sparing)
    (ite_sparesAll (some_sparesAll (offerChanged_keeps.past put_keeps.sparing)) ?_))
  split
  · exact some_sparesAll setCrcChan_keeps.sparing
  · exact none_sparesAll

theorem putEvents_spares {e : Entry} {ix sub v : Nat} : sparesAll (h.putEvents e ix sub v) h registerSpared := by
  refine ite_sparesAll (some_sparesAll maskWrite_keeps.sparing) (ite_sparesAll (some_sparesAll pendingWrite_keeps.sparing)
    (ite_sparesAll (some_sparesAll selectWrite_keeps.sparing) (ite_sparesAll
      (some_sparesAll (ite_spares obsEnable_keeps.sparing obsGroup_keeps.sparing))
      (ite_sparesAll (some_sparesAll loopback_spares.fewer) ?_))))
  split
  · exact some_sparesAll (ite_spares ringCtrlWrite_keeps.sparing (ite_spares ringBaseWrite_keeps.sparing ringRd_keeps.sparing))
  · exact some_sparesAll (ite_spares cmpWrite_keeps.sparing (withObs_keeps.past (b := h.put e v) put_keeps.sparing))
  · exact none_sparesAll

theorem odPut_spares {r : OdRow} {key : Nat} {b : Bytes} : (h.odPut r key b).spares h entrySpared := by
  unfold odPut
  extract_lets e
  split
  · split
    · exact setCrcChan_keeps.sparing
    · exact putBlob_keeps.sparing
  · refine firstHub_spares ?_ put_keeps.sparing
    simp only [List.mem_cons, List.not_mem_nil, or_false]
    rintro o (rfl | rfl | rfl | rfl | rfl | rfl)
    · exact putCore_spares.fewer
    · exact putLinks_spares.fewer
    · exact putNetwork_spares.fewer
    · exact putMedia_spares.fewer
    · exact putMooring_spares.fewer
    · exact putEvents_spares.fewer

theorem odNoted_keeps {key v : Nat} : (h.odNoted key v).keeps h [.draws, .out, .od, .eng, .pair] := ite_keeps mirrorNote_keeps .refl

theorem odMirrored_spares {key v : Nat} : (h.odMirrored key v).spares h entrySpared := by
  unfold odMirrored
  split
  · split
    · exact ite_spares odPut_spares .refl
    · exact .refl
  · exact .refl

/-! ### Contexts and Lamps that change sides (R457, R460, R465) -/

theorem swapDiscard_keeps {n : Nat} : (h.swapDiscard n).keeps h [.od, .pair] := ite_keeps .refl (tally_keeps.after withPair_keeps.within)

theorem toShadow_spares {i : Nat} : (h.toShadow i).spares h [.clock, .blob, .mem, .kram, .mode, .lanes, .bcn, .vid, .moor, .obs] := by
  unfold toShadow
  extract_lets _ _ _ h2
  have h2k : h2.spares h [.clock, .blob, .mem, .kram, .mode, .lanes, .bcn, .vid, .moor, .obs] :=
    prunePairs_keeps.past (dropHomes_keeps.past (unadmit_keeps.past (swapDiscard_keeps.past (updCtx_keeps.past purge_keeps.sparing))))
  exact endTunCommand_keeps.past (ite_spares (portLeave_keeps.past h2k) h2k)

theorem lampsLevel_keeps {level : LampSt → Bool} : (h.lampsLevel level).keeps h [.draws, .out, .od, .eng, .dm, .pair] := by
  refine foldl_keeps (fun h x => ?_) _ .refl
  extract_lets
  exact ite_keeps driveLamp_keeps .refl

theorem plkRoles_keeps {primary : Bool} : (h.plkRoles primary).keeps h [.lanes, .links] := updLink_keeps.after updPort_keeps.within

theorem becomeStandby_spares {epoch : Nat} {sf : Option Nat} :
    (h.becomeStandby epoch sf).spares h [.clock, .blob, .mem, .kram, .vid, .moor, .obs] := by
  unfold becomeStandby
  extract_lets _ _ _ _ _ _ _ h3 h4
  have h3k : h3.spares h [.clock, .blob, .mem, .kram, .vid, .moor, .obs] :=
    plkRoles_keeps.past (foldl_spares (fun _ _ => runEnd_keeps.sparing) _ (withModePlanDmPair_keeps.past (lampsLevel_keeps.past
      (foldl_spares (fun _ _ => toShadow_spares.fewer) _ .refl))))
  have h4k : h4.spares h [.clock, .blob, .mem, .kram, .vid, .moor, .obs] := by
    unfold h4
    split
    · exact ite_spares (askSample_keeps.past (acquire_keeps.past (freqLaneFound_keeps.past h3k))) h3k
    · exact h3k
  exact bearingsMoved_keeps.past (ite_spares h4k (withBcn_keeps.past h4k))

theorem shadowLive_spares {i : Nat} : (h.shadowLive i).spares h tunnelSpared := by
  unfold shadowLive
  extract_lets _ h1 _ h3
  have h1k : h1.spares h tunnelSpared := startDirections_keeps.past updCtx_keeps.sparing
  have h3k : h3.spares h tunnelSpared := ite_spares (safetyRestart_keeps.past (fillMeter_keeps.past h1k)) (fillMeter_keeps.past h1k)
  exact ite_spares (ite_spares (admitted_keeps.past h3k) (faultSend_spares.trans h3k)) (clearMap_keeps.past setCtx_keeps.sparing)

theorem daymarkLive_keeps {d : Daymark} : (h.daymarkLive d).keeps h [.od, .regs, .evt, .dm, .pair, .pwr] := by
  unfold daymarkLive
  extract_lets _ _ put _ _ h1
  have h1k : h1.keeps h [.od, .regs, .evt, .dm, .pair, .pwr] := withPair_keeps.after freeSlot_keeps.within
  exact ite_keeps (ite_keeps (reportDaymark_keeps.after h1k) (ite_keeps withDm_keeps.within withDm_keeps.within)) (ite_keeps
      (reportDaymark_keeps.after h1k) withDm_keeps.within)

theorem takeBearing_keeps {f b : Nat} : (h.takeBearing f b).keeps h [.bcn] := by
  unfold takeBearing
  extract_lets
  exact formPoint_keeps.trans setBearing_keeps

theorem becomePrimary_spares {epoch cause : Nat} {commit : Option Nat} :
    (h.becomePrimary epoch cause commit).spares h [.clock, .blob, .mem, .kram, .vid, .moor, .obs] := by
  unfold becomePrimary
  extract_lets
  exact bearingsMoved_keeps.past (foldl_spares (fun _ _ => ite_spares takeBearing_keeps.sparing .refl) _ (plkRoles_keeps.past
      (lampsLevel_keeps.past (foldl_spares (fun _ _ => daymarkLive_keeps.sparing) _ (foldl_spares (fun _ _ => (shed_keeps _).sparing) _
      (foldl_spares (fun _ _ => shadowLive_spares.fewer) _ withModePlanBcnPairPwr_keeps.sparing))))))

/-! ### A BUOY moves its tunnels (R458, R465) -/

theorem mapJobs_keeps {i : Nat} {encap : Bool} {f : Job → Job} : (h.mapJobs i encap f).keeps h [.eng] := by
  unfold mapJobs
  extract_lets
  exact withEng_keeps.trans (foldl_keeps (fun _ _ => ite_keeps .refl setTender_keeps) _ .refl)

theorem moveRx_keeps {i : Nat} : (h.moveRx i).keeps h [.draws, .out, .od, .regs, .evt, .links, .tun, .plan, .eng, .sw, .pwr] := by
  unfold moveRx
  extract_lets _ _ _ _ _ _ _ _ _ h1
  have h1k : h1.keeps h [.draws, .out, .od, .regs, .evt, .links, .tun, .plan, .eng, .sw, .pwr] := updCtx_keeps.after mapJobs_keeps.within
  exact freeWords_keeps.after (ite_keeps h1k (setEgress_keeps.after h1k))

theorem moveTx_keeps {o q i : Nat} : (h.moveTx o q i).keeps h [.tun, .plan, .eng] := by
  unfold moveTx
  extract_lets
  exact updCtx_keeps.after (setEgress_keeps.after (setEgress_keeps.after mapJobs_keeps.within))

theorem moveTunnel_spares {o q i : Nat} : (h.moveTunnel o q i).spares h tunnelSpared := by
  unfold moveTunnel
  extract_lets _ _ _ _ _ _ h2
  have h2k : h2.spares h tunnelSpared := withTunPair_keeps.past (moveRx_keeps.past moveTx_keeps.sparing)
  exact ite_spares enterFault_spares (ite_spares (safetyRestart_keeps.past (updCtx_keeps.past h2k)) (updCtx_keeps.past h2k))

theorem buoyTurn_spares {q epoch : Nat} {sf : Option Nat} :
    (h.buoyTurn q epoch sf).spares h [.clock, .blob, .mem, .kram, .mode, .vid, .obs] := by
  unfold buoyTurn
  extract_lets h1 _ _ _ h3
  have h1k : h1.spares h [.clock, .blob, .mem, .kram, .mode, .vid, .obs] := by
    unfold h1
    split
    · exact ite_spares .refl (foldl_spares (fun _ _ => moveTunnel_spares.fewer) _ .refl)
    · exact .refl
  have h3k : h3.spares h [.clock, .blob, .mem, .kram, .mode, .vid, .obs] :=
    updLink_keeps.past (updLink_keeps.past (withPlanPair_keeps.past h1k))
  exact setHears_keeps.past (followTurn_keeps.past (ite_spares (feedTo_keeps.past h3k) h3k))

/-! ### Announcements, demotion, failover (R446 to R449, R456, R465) -/

theorem demoteRoot_spares {epoch serial : Nat} : (h.demoteRoot epoch serial).spares h [.clock, .blob, .mem, .kram, .vid, .moor, .obs] := by
  unfold demoteRoot
  extract_lets
  exact pairEvent_keeps.past (withPair_keeps.past (becomeStandby_spares.trans swapAbandon_keeps.sparing))

theorem heardPrimary_keeps {epoch serial : Nat} : (h.heardPrimary epoch serial).keeps h [.pair] := withPair_keeps

theorem swapStart_keeps {commanded : Bool} {command : Option Nat} :
    (h.swapStart commanded command).keeps h [.draws, .out, .od, .eng, .pair] := by
  unfold swapStart
  extract_lets
  exact swapDecide_keeps.trans (swapTell_keeps.after withPair_keeps.within)

theorem failoverCheck_keeps : h.failoverCheck.keeps h [.draws, .out, .od, .lanes, .links, .eng, .pair] := by
  unfold failoverCheck
  extract_lets
  exact ite_keeps (swapStart_keeps.after fogOriginate_keeps.within) .refl

theorem roleAnnounce_spares {p epoch role : Nat} {hears : Bool} {strap serial primary : Nat} :
    (h.roleAnnounce p epoch role hears strap serial primary).spares h [.clock, .blob, .mem, .kram, .vid, .moor, .obs] := by
  refine ite_spares .refl ?_
  extract_lets _ _ h2 _ _ h3 _ h3''
  have h2k : h2.spares h [.clock, .blob, .mem, .kram, .vid, .moor, .obs] := withPair_keeps.past updLink_keeps.sparing
  have h3k : h3.spares h [.clock, .blob, .mem, .kram, .vid, .moor, .obs] := heardPrimary_keeps.past (withPair_keeps.past h2k)
  have h3''k : h3''.spares h [.clock, .blob, .mem, .kram, .vid, .moor, .obs] := withPair_keeps.past h2k
  exact ite_spares (ite_spares h2k (ite_spares (ite_spares (followTurn_keeps.past h3k) h3k) (ite_spares (withPair_keeps.past h2k) h2k)))
      (ite_spares (failoverCheck_keeps.past (ite_spares (withPair_keeps.past h3''k) h3''k)) (ite_spares (ite_spares (ite_spares
      (demoteRoot_spares.trans h2k) h2k) (heardPrimary_keeps.past h2k)) h2k))

/-! ### The phases of a swap (R454, R455) -/

theorem commitPoint_spares : h.commitPoint.spares h [.clock, .blob, .mem, .kram, .vid, .obs] := by
  unfold commitPoint
  split
  · refine ite_spares .refl ?_
    extract_lets h0 _ count
    have h0k : h0.spares h [.clock, .blob, .mem, .kram, .vid, .obs] := swapClear_keeps.sparing
    exact ite_spares (doneOpt_keeps.past (pairEvent_keeps.past (fogOriginate_keeps.past (announceAll_keeps.past (withPair_keeps.past
        (becomePrimary_spares.after h0k)))))) (ite_spares (announceAll_keeps.past (withPair_keeps.past (buoyTurn_spares.after h0k)))
        (announceAll_keeps.past (withPair_keeps.past (withPair_keeps.past (becomeStandby_spares.after h0k)))))
  · exact .refl

theorem claim_spares : h.claim.spares h [.clock, .blob, .mem, .kram, .vid, .moor, .obs] := by
  refine ite_spares .refl ?_
  extract_lets _ h1
  have h1k : h1.spares h [.clock, .blob, .mem, .kram, .vid, .moor, .obs] := planEnter_keeps.past becomePrimary_spares
  exact fogOriginate_keeps.past (pairEvent_keeps.past (announceAll_keeps.past (ite_spares (portRetrain_spares.after h1k) h1k)))

/-! ### The mirror (R450, R451) -/

theorem mirrorClear_keeps : h.mirrorClear.keeps h [.od, .tun, .dm, .pair] := withOdTunDmPair_keeps

theorem mirrorTake_spares {r : MirrorRec} : (h.mirrorTake r).spares h entrySpared := by
  unfold mirrorTake
  split
  · exact ite_spares setCtx_keeps.sparing .refl
  · extract_lets
    exact withTun_keeps.past setCtx_keeps.sparing
  · exact odMirrored_spares
  · exact freeSlot_keeps.sparing
  · extract_lets
    exact withDm_keeps.past freeSlot_keeps.sparing
  · exact setLamp_keeps.sparing
  · exact mirrorClear_keeps.sparing
  · extract_lets
    exact pairEvent_keeps.past (withPair_keeps.past (foldl_spares (fun _ _ => encModeSet_keeps.sparing) _ .refl))

theorem mirrorRx_spares {seq : Nat} {r : MirrorRec} : (h.mirrorRx seq r).spares h entrySpared :=
  ite_spares (pairPut_keeps.past (emit_keeps.past (tally_keeps.past mirrorTake_spares))) .refl

/-! ### The BEACON block sent (R128, R286, R287) -/

theorem deferredOut_keeps {p : Nat} : (h.deferredOut p).keeps h [.out, .lanes, .links] := by
  unfold deferredOut
  extract_lets
  exact ite_keeps .refl (foldl_keeps (fun _ _ => blockOn_keeps.within) _ updLink_keeps.within)

/-! ### Points (R284, R297) -/

theorem shadowPoint_keeps {f b : Nat} : (h.shadowPoint f b).keeps h [.bcn] := by
  unfold shadowPoint
  extract_lets
  exact setBearing_keeps

theorem pointsForm_keeps : h.pointsForm.keeps h [.bcn] := by
  unfold pointsForm
  extract_lets
  exact ite_keeps (foldl_keeps (fun _ _ => formPoint_keeps) _ .refl) (ite_keeps (foldl_keeps (fun _ _ => shadowPoint_keeps) _ .refl) .refl)

/-! ### The timebase at a superframe start (R291) -/

theorem sfFollow_keeps {p : Nat} :
    (h.sfFollow p).keeps h [.draws, .out, .od, .regs, .ctl, .evt, .lanes, .links, .eng, .bcn, .dm, .pair, .pwr] := by
  unfold sfFollow
  extract_lets _ _ h2
  have h2k : h2.keeps h [.draws, .out, .od, .regs, .ctl, .evt, .lanes, .links, .eng, .bcn, .dm, .pair, .pwr] :=
    ite_keeps followTurn_keeps (withBcn_keeps.after followTurn_keeps)
  exact ite_keeps (enterHoldover_keeps.after h2k) (ite_keeps (bearingsMoved_keeps.after (withBcn_keeps.after h2k)) (ite_keeps
      (askSample_keeps.after h2k) h2k))

theorem sfReach_keeps : h.sfReach.keeps h [.clock, .bcn] := ite_keeps reach_keeps .refl

theorem sfPair_spares : h.sfPair.spares h [.clock, .blob, .mem, .kram, .mode, .vid, .obs] := by
  unfold sfPair
  extract_lets _ h1
  have h1k : h1.spares h [.clock, .blob, .mem, .kram, .mode, .vid, .obs] := withPair_keeps.sparing
  split
  · exact ite_spares (buoyTurn_spares.trans h1k) (withPair_keeps.past h1k)
  · exact h1k

theorem superframeStart_spares : h.superframeStart.spares h [.blob, .mem, .kram, .mode, .vid, .obs] := by
  unfold superframeStart
  extract_lets _ _ _ h1 _ h3 _ h5
  have h1k : h1.spares h [.blob, .mem, .kram, .mode, .vid, .obs] := withLinksBcn_keeps.sparing
  have h3k : h3.spares h [.blob, .mem, .kram, .mode, .vid, .obs] := by
    unfold h3
    split
    · exact sfFollow_keeps.past (sfReach_keeps.past h1k)
    · exact sfReach_keeps.past h1k
  have h5k : h5.spares h [.blob, .mem, .kram, .mode, .vid, .obs] :=
    planBoundary_keeps.past (pointsForm_keeps.past (foldl_spares (fun _ _ => deferredOut_keeps.sparing) _ (beaconsOut_keeps.past
      (sfPair_spares.after (foldl_spares (fun _ _ => ite_spares .refl updLink_keeps.sparing) _ h3k)))))
  exact withBcn_keeps.past (probesRun_keeps.past (ite_spares (sendCount_keeps.past h5k) h5k))

/-! ### The BEACON block received (R128, R129, R286 to R289, R291, R294) -/

theorem servo_keeps {p : Nat} {e : ℤ} :
    (h.servo p e).keeps h [.draws, .out, .od, .regs, .ctl, .evt, .lanes, .links, .eng, .bcn, .dm, .pair, .pwr] := by
  unfold servo
  split
  · exact ite_keeps (askSample_keeps.after acquire_keeps.within) withBcn_keeps.within
  · exact ite_keeps enterLocked_keeps.within .refl
  · exact ite_keeps withBcn_keeps.within .refl
  · exact .refl

theorem shadowJudge_keeps {f : Nat} : (h.shadowJudge f).keeps h [.od, .regs, .evt, .bcn, .pwr] := by
  unfold shadowJudge
  extract_lets
  split
  · extract_lets
    exact ite_keeps (fire_keeps.after (flag_keeps.after withBcn_keeps.within)) withBcn_keeps.within
  · exact .refl

theorem pointsTake_keeps {f : Nat} {y : Option (Nat × Nat × Nat × Nat)} :
    (h.pointsTake f y).keeps h [.out, .od, .regs, .ctl, .evt, .eng, .bcn, .pwr] := by
  unfold pointsTake
  split
  · exact .refl
  · extract_lets _ _ _ h1
    have h1k : h1.keeps h [.out, .od, .regs, .ctl, .evt, .eng, .bcn, .pwr] :=
      ite_keeps (askSample_keeps.after (takePoint_keeps.after (takePoint_keeps.after takePoint_keeps.within))) (takePoint_keeps.after
        (takePoint_keeps.after takePoint_keeps.within))
    exact ite_keeps (shadowJudge_keeps.after h1k) h1k

theorem beaconRx_spares {p sf : Nat} {sample : Option (Nat × Nat × Nat × Nat)} :
    (h.beaconRx p sf sample).spares h [.clock, .blob, .mem, .kram, .mode, .tun, .sw, .io, .vid, .usb, .hb, .moor, .sec, .obs] := by
  unfold beaconRx
  extract_lets g _ _ _ _ h1 _ _ _ g1
  have gk : g.spares h [.clock, .blob, .mem, .kram, .mode, .tun, .sw, .io, .vid, .usb, .hb, .moor, .sec, .obs] := updLink_keeps.sparing
  have h1k : h1.spares h [.clock, .blob, .mem, .kram, .mode, .tun, .sw, .io, .vid, .usb, .hb, .moor, .sec, .obs] :=
    withBcnPair_keeps.past gk
  have g1k : g1.spares h [.clock, .blob, .mem, .kram, .mode, .tun, .sw, .io, .vid, .usb, .hb, .moor, .sec, .obs] :=
    fire_keeps.past (flag_keeps.past (planSlip_keeps.past (withLinksBcn_keeps.past h1k)))
  exact ite_spares (ite_spares (fire_keeps.past (flag_keeps.past (planSlip_keeps.past (withLinks_keeps.past gk)))) gk) (setHears_keeps.past
      (pointsTake_keeps.past (servo_keeps.past (ite_spares h1k (ite_spares (askSample_keeps.past (acquire_keeps.past g1k)) g1k)))))

/-! ### Opening at the opener (R160, R515) -/

theorem openFail_spares {i status faultStatus : Nat} : (h.openFail i status faultStatus).spares h tunnelSpared := enterFault_spares

theorem openSend_keeps {i : Nat} : (h.openSend i).keeps h [.draws, .out, .od, .tun, .eng, .sw, .pair] := by
  unfold openSend
  extract_lets
  exact mirrorCtx_keeps.after (tunSend_keeps.after (startDirections_keeps.after (updCtx_keeps.after startTunnel_keeps.within)))

theorem openStart_spares {i : Nat} {c : Option Nat} : (h.openStart i c).spares h tunnelSpared := by
  unfold openStart
  extract_lets _ _ _ h0
  have h0k : h0.spares h tunnelSpared := updCtx_keeps.sparing
  exact ite_spares (openFail_spares.trans h0k) (ite_spares (openFail_spares.trans h0k) (ite_spares (withSec_keeps.past (updCtx_keeps.past
      (admitted_keeps.past h0k))) (openSend_keeps.past (admitted_keeps.past h0k))))

theorem agreeFail_spares {target code : Nat} : (h.agreeFail target code).spares h tunnelSpared := by
  unfold agreeFail
  extract_lets
  exact foldl_spares (fun _ _ => openFail_spares) _ (fire_keeps.past withSec_keeps.sparing)

theorem agreeDone_keeps {target : Nat} : (h.agreeDone target).keeps h [.draws, .out, .od, .tun, .eng, .sw, .pair, .sec] := by
  unfold agreeDone
  extract_lets
  exact foldl_keeps (fun _ _ => openSend_keeps.within) _ withSec_keeps.within

/-! ### Commands (R173, R174) -/

theorem cmdTunnelOpen_spares {req : Path} {c tag : Nat} {args : Bytes} : (h.cmdTunnelOpen req c tag args).spares h tunnelSpared := by
  unfold cmdTunnelOpen
  extract_lets
  exact issue_spares fun _ => openStart_spares

theorem closeStart_spares {i : Nat} {c : Option Nat} :
    (h.closeStart i c).spares h [.clock, .blob, .mem, .kram, .mode, .lanes, .links, .bcn, .vid, .moor, .obs] :=
  ite_spares (doneMirrored_keeps.past leaveDraining_keeps.sparing) (drainProgress_keeps.past (updCtx_keeps.past enterDraining_spares.fewer))

theorem cmdTunnelClose_spares {req : Path} {c tag : Nat} {args : Bytes} :
    (h.cmdTunnelClose req c tag args).spares h [.clock, .blob, .mem, .kram, .mode, .lanes, .links, .bcn, .vid, .moor, .obs] := by
  unfold cmdTunnelClose
  extract_lets
  exact issue_spares fun _ => closeStart_spares

theorem destroyCtx_spares {i : Nat} : (h.destroyCtx i).1.spares h [.clock, .blob, .mem, .kram, .mode, .lanes, .bcn, .vid, .moor, .obs] := by
  unfold destroyCtx
  extract_lets
  exact ite_fst_spares (endTunCommand_keeps.past freeCtx_keeps.sparing) (endTunCommand_keeps.past (freeCtx_keeps.past (ite_spares
      (portLeave_keeps.past (tunToFar_keeps.past purge_keeps.sparing)) (tunToFar_keeps.past purge_keeps.sparing))))

theorem cmdTunnelDestroy_spares {req : Path} {c tag : Nat} {args : Bytes} :
    (h.cmdTunnelDestroy req c tag args).spares h [.clock, .blob, .mem, .kram, .mode, .lanes, .bcn, .vid, .moor, .obs] := by
  unfold cmdTunnelDestroy
  extract_lets
  refine issue_spares fun h => ?_
  extract_lets
  exact doneMirrored_keeps.past destroyCtx_spares

/-! ### OPEN_REQ (R161, R162) -/

theorem pairStale_keeps {status target : Nat} : (h.pairStale status target).keeps h [.tun, .sec] := ite_keeps discardPairs_keeps .refl

theorem openAck_spares {p : Nat} {m : TunMsg} : (h.openAck p m).spares h [.clock, .blob, .mem, .kram, .mode, .bcn, .moor, .obs] := by
  unfold openAck
  split
  · exact tunUnmatched_keeps.sparing
  · extract_lets
    exact ite_spares tunUnmatched_keeps.sparing (ite_spares (ite_spares (freeCtx_keeps.past tunForward_keeps.sparing) (tunForward_keeps.past
        (writeMap_keeps.past updCtx_keeps.sparing))) (ite_spares tunUnmatched_keeps.sparing (ite_spares (enterFault_spares.after
        pairStale_keeps.sparing) (doneMirrored_keeps.past (tunSend_keeps.past (enterOpen_keeps.past (writeMap_keeps.past
        updCtx_keeps.sparing)))))))

theorem closeMsg_spares {p : Nat} {m : TunMsg} {sent : Nat} {isReq : Bool} :
    (h.closeMsg p m sent isReq).spares h [.clock, .blob, .mem, .kram, .mode, .lanes, .links, .bcn, .vid, .moor, .obs] := by
  unfold closeMsg
  split
  · exact tunUnmatched_keeps.sparing
  · extract_lets
    exact ite_spares tunUnmatched_keeps.sparing (ite_spares (transitDrained_keeps.past (tunForward_keeps.past (updCtx_keeps.past (ite_spares
        enterDraining_spares.fewer .refl)))) (ite_spares updCtx_keeps.sparing (ite_spares tunUnmatched_keeps.sparing
        (drainProgress_keeps.past (updCtx_keeps.past enterDraining_spares.fewer)))))

theorem teardown_spares {p : Nat} {m : TunMsg} {cause : Nat} : (h.teardown p m cause).spares h tunnelSpared := by
  unfold teardown
  split
  · exact tunUnmatched_keeps.sparing
  · extract_lets
    exact ite_spares (enterFault_spares.trans (tunForward_keeps.past purge_keeps.sparing)) (ite_spares (doneMirrored_keeps.past
        (leaveDraining_keeps.past (updCtx_keeps.past purge_keeps.sparing))) enterFault_spares)

/-! ### Timers -/

theorem openTimeout_spares {i : Nat} : (h.openTimeout i).spares h tunnelSpared := by
  unfold openTimeout
  extract_lets
  exact ite_spares .refl (ite_spares (openFail_spares.trans (fire_keeps.past withSec_keeps.sparing)) (ite_spares (ite_spares
      (enterFault_spares.trans tunSend_keeps.sparing) (freeCtx_keeps.past purge_keeps.sparing)) (ite_spares (enterFault_spares.trans
      tunSend_keeps.sparing) .refl)))

theorem drainComplete_spares {i : Nat} :
    (h.drainComplete i).spares h [.clock, .blob, .mem, .kram, .mode, .lanes, .links, .bcn, .io, .vid, .usb, .hb, .moor, .obs] :=
  ite_spares (doneMirrored_keeps.past (leaveDraining_keeps.past updCtx_keeps.sparing)) .refl

theorem drainLimit_spares {i : Nat} :
    (h.drainLimit i).spares h [.clock, .blob, .mem, .kram, .mode, .lanes, .bcn, .io, .vid, .usb, .hb, .moor, .obs] := by
  unfold drainLimit
  extract_lets
  exact ite_spares .refl (doneMirrored_keeps.past (leaveDraining_keeps.past (updCtx_keeps.past (tunToFar_keeps.past purge_keeps.sparing))))

theorem tunnelReopen_spares {i : Nat} : (h.tunnelReopen i).spares h tunnelSpared := by
  unfold tunnelReopen
  extract_lets
  exact ite_spares (openStart_spares.trans tunEvent_keeps.sparing) .refl

/-! ### The key agreement (R515, R516) -/

theorem offerMade_spares {i : Nat} : (h.offerMade i).spares h tunnelSpared := by
  unfold offerMade
  extract_lets target
  refine ite_spares .refl (ite_spares agreeFail_spares ?_)
  have used := h.useSlot_keeps (n := 2) (usage := 2) (off := 0)
  generalize h.useSlot 2 2 0 = r at used
  obtain ⟨h0, _ | a⟩ := r
  · have offered {c : CtlSt} {s : SecSt} : ({ h0.draw.1.draw.1 with ctl := c, sec := s } : Hub).spares h tunnelSpared :=
      withCtlSec_keeps.past (draw_keeps.past (draw_keeps.past used.sparing))
    dsimp only
    split
    · exact sysOut_keeps.past offered
    · exact offered
  · exact agreeFail_spares.trans used.sparing

theorem keyReply_keeps {p : Nat} {m : SysMsg} {op : Byte} {data : Bytes} : (h.keyReply p m op data).keeps h [.out, .eng] := sysOut_keeps

theorem offerAnswered_keeps {p : Nat} {m : SysMsg} :
    (h.offerAnswered p m).keeps h [.draws, .out, .od, .tun, .eng, .sec] := by
  unfold offerAnswered
  extract_lets target room
  refine ite_keeps keyReply_keeps.within (ite_keeps keyReply_keeps.within (ite_keeps keyReply_keeps.within ?_))
  have used := h.useSlot_keeps (n := 2) (usage := 2) (off := 0)
  generalize h.useSlot 2 2 0 = r at used
  obtain ⟨h0, _ | a⟩ := r
  · exact keyReply_keeps.after (installPair_keeps.after (draw_keeps.after (draw_keeps.after used.within)))
  · exact keyReply_keeps.after used.within

theorem answerTaken_spares {i : Nat} {data : Bytes} : (h.answerTaken i data).spares h tunnelSpared := by
  unfold answerTaken
  split
  · exact .refl
  · exact ite_spares agreeFail_spares (ite_spares agreeFail_spares (ite_spares agreeFail_spares (agreeDone_keeps.past
      installPair_keeps.sparing)))

theorem keyRelay_keeps {p : Nat} {m : SysMsg} : (h.keyRelay p m).keeps h [.out, .eng] := by
  unfold keyRelay
  extract_lets stop
  have stopk : stop.keeps h [.out, .eng] := ite_keeps keyReply_keeps .refl
  split
  · exact ite_keeps sysOut_keeps stopk
  · exact stopk

/-! ### Slots (R310, R311, R450) -/

theorem noteSlot_keeps {slot : Nat} : (h.noteSlot slot).keeps h [.draws, .out, .od, .eng, .pair] := mirrorNote_keeps

theorem releaseSlot_keeps {slot : Nat} : (h.releaseSlot slot).keeps h [.draws, .out, .od, .eng, .dm, .pair] :=
  noteSlot_keeps.after freeSlot_keeps.within

theorem allocDaymark_keeps {slot : Nat} {e : Bytes} {source : Option Nat} : (h.allocDaymark slot e source).1.keeps h [.draws, .dm] := by
  unfold allocDaymark
  extract_lets
  exact withDm_keeps.after (ite_fst_keeps draw_keeps.within .refl)

/-! ### Actions (R309, R321) -/

theorem dmAct_spares {d : Daymark} {record : Bytes} : (h.dmAct d record).1.spares h daymarkSpared := by
  unfold dmAct
  extract_lets _ _ _ start h1
  have h1k : h1.spares h daymarkSpared := withDm_keeps.sparing
  refine ite_fst_spares ?_ ?_
  · split
    · exact .refl
    · exact planStart_keeps.sparing
  · refine ite_fst_spares snapCapture_keeps.sparing ?_
    refine ite_fst_spares ?_ .refl
    refine ite_fst_spares .refl ?_
    split
    · exact .refl
    · exact ite_spares (openStart_spares.after h1k) (closeStart_spares.after h1k)

theorem dmEdge_keeps {d : Daymark} {level : Bool} {due : Nat} : (h.dmEdge d level due).1.keeps h [.od, .regs, .dm] := by
  unfold dmEdge
  extract_lets
  exact ite_fst_keeps tally_keeps.within lampEdge_keeps

theorem dmLead_keeps {d : Daymark} {due : Nat} : (h.dmLead d due).1.keeps h [.od, .regs, .dm] := by
  unfold dmLead
  extract_lets
  exact ite_keeps (setLamp_keeps.after dmEdge_keeps) dmEdge_keeps

theorem putDaymark_keeps {d : Daymark} : (h.putDaymark d).keeps h [.dm] := withDm_keeps

theorem dmAhead_keeps {d : Daymark} {due : Nat} : (h.dmAhead d due).keeps h [.od, .regs, .dm] := by
  refine ite_keeps ?_ ?_
  · extract_lets
    exact putDaymark_keeps.after dmEdge_keeps
  · extract_lets
    exact putDaymark_keeps.after dmLead_keeps

theorem dmFire_spares {d : Daymark} {instant edge flags : Nat} : (h.dmFire d instant edge flags).spares h daymarkSpared := by
  unfold dmFire
  extract_lets h0 r _ r'
  have h0k : h0.spares h daymarkSpared := tally_keeps.sparing
  have rk : r.1.spares h daymarkSpared := by
    unfold r
    split
    · exact h0k
    · exact dmLead_keeps.past h0k
  have r'k : r'.1.spares h daymarkSpared := dmAct_spares.trans (releaseSlot_keeps.past h0k)
  exact ite_spares (reportDaymark_keeps.past (ite_spares (noteSlot_keeps.past (putDaymark_keeps.past rk)) (releaseSlot_keeps.past rk)))
      (reportDaymark_keeps.past (ite_spares r'k (flag_keeps.past r'k)))

theorem dmDiscardLate_keeps : h.dmDiscardLate.keeps h [.od, .regs] := flag_keeps.after bump_keeps.within

theorem dmLate_keeps : h.dmLate.keeps h [.od, .regs] := flag_keeps.after bump_keeps.within

theorem dmCross_spares : h.dmCross.spares h [.blob, .mem, .kram, .mode, .vid, .moor] := by
  unfold dmCross
  split
  · exact .refl
  · extract_lets h1
    have h1k : h1.spares h [.blob, .mem, .kram, .mode, .vid, .moor] := reach_keeps.sparing
    exact ite_spares (dmAhead_keeps.past h1k) (ite_spares (releaseSlot_keeps.past (dmDiscardLate_keeps.past h1k)) (dmFire_spares.after
        (ite_spares (dmLate_keeps.past h1k) h1k)))

/-! ### Posting (R313 to R316) -/

theorem dmPost_spares {e : Bytes} {source : Option Nat} : (h.dmPost e source).1.spares h daymarkSpared := by
  unfold dmPost
  split
  · exact .refl
  · split
    · exact flag_keeps.sparing
    · split
      · exact .refl
      · extract_lets _ _ _ r _ post h1
        have rk : r.1.spares h daymarkSpared := allocDaymark_keeps.sparing
        have postk : post.spares h daymarkSpared := by
          unfold post
          split
          · exact ite_spares rk (setLamp_keeps.past rk)
          · exact rk
        have h1k : h1.spares h daymarkSpared := tally_keeps.past (noteSlot_keeps.past postk)
        exact ite_fst_spares dmDiscardLate_keeps.sparing (ite_fst_spares (dmFire_spares.trans (dmLate_keeps.past h1k)) h1k)

theorem dmPostAll_spares {source : Option Nat} {entries : Bytes} {n : Nat} :
    (h.dmPostAll source entries n).1.spares h daymarkSpared := by
  induction n with
  | zero => exact .refl
  | succ n ih => exact dmPost_spares.trans ih

/-! ### Cancelling (R323) -/

theorem dmCancel_keeps {hd : Nat} : (h.dmCancel hd).1.keeps h [.draws, .out, .od, .regs, .eng, .dm, .pair] := by
  unfold dmCancel
  split
  · exact .refl
  · refine ite_fst_keeps .refl ?_
    extract_lets h1
    have h1k : h1.keeps h [.draws, .out, .od, .regs, .eng, .dm, .pair] := tally_keeps.after releaseSlot_keeps.within
    exact ite_keeps (setLamp_keeps.after h1k) (ite_keeps (lampEdge_keeps.after h1k) h1k)

theorem dmCancelAll_keeps {handles : Bytes} {n : Nat} :
    (h.dmCancelAll handles n).1.keeps h [.draws, .out, .od, .regs, .eng, .dm, .pair] := by
  induction n with
  | zero => exact .refl
  | succ n ih => exact dmCancel_keeps.trans ih

/-! ### LAMPCMD messages (R314, R322) -/

theorem lampReply_keeps {i n : Nat} {m : Bytes} : (h.lampReply i n m).keeps h [.out, .od, .regs, .evt, .tun, .eng, .sw, .dm, .pwr] := by
  unfold lampReply
  extract_lets
  exact ite_keeps withDm_keeps.within offer_keeps.within

theorem lampMessage_spares {msg : Nat} : (h.lampMessage msg).spares h daymarkSpared := by
  unfold lampMessage
  split
  · exact .refl
  · extract_lets _ _ _ _ _ h1
    have h1k : h1.spares h daymarkSpared := dropOut_keeps.sparing
    exact ite_spares .refl (ite_spares (withDm_keeps.past h1k) (lampReply_keeps.past (ite_fst_spares (dmPostAll_spares.trans h1k)
        (dmCancelAll_keeps.past h1k))))

/-! ### The post window and the commands (R332 to R334) -/

theorem dmGo_spares : h.dmGo.spares h daymarkSpared := by
  unfold dmGo
  extract_lets _ r _ _ h1
  have rk : r.1.spares h daymarkSpared := by
    unfold r
    split
    · exact .refl
    · exact dmPost_spares
  have h1k : h1.spares h daymarkSpared := withDm_keeps.past rk
  exact ite_spares (fire_keeps.past h1k) h1k

theorem cmdDaymarkPost_spares {req : Path} {c tag : Nat} {args : Bytes} : (h.cmdDaymarkPost req c tag args).spares h daymarkSpared := by
  unfold cmdDaymarkPost
  extract_lets
  refine issue_spares fun h => ?_
  extract_lets
  exact endMirrored_keeps.past dmPostAll_spares

/-! ### Masks and the TRNG (R509, R510, R514) -/

theorem remaskSlot_spares {n : Nat} : (h.remaskSlot n).spares h tunnelSpared := by
  unfold remaskSlot
  extract_lets
  exact ite_spares .refl (ite_spares slotBad_spares (setSlot_keeps.past draw_keeps.sparing))

theorem remaskPair_keeps {k : Nat} : (h.remaskPair k).keeps h [.draws, .sec] := by
  unfold remaskPair
  extract_lets
  exact setPairKey_keeps.after (draw_keeps.after draw_keeps.within)

theorem remask_spares : h.remask.spares h tunnelSpared := by
  refine ite_spares .refl ?_
  extract_lets
  exact tally_keeps.past (foldl_spares (fun _ _ => remaskPair_keeps.sparing) _ (foldl_spares (fun _ _ => remaskSlot_spares) _ .refl))

theorem trngStartup_spares {ok : Bool} : (h.trngStartup ok).spares h portSpared := by
  refine ite_spares .refl ?_
  refine ite_spares ?_ (fire_keeps.past withSec_keeps.sparing)
  extract_lets
  exact portsJudge_spares.trans (withSec_keeps.past withSec_keeps.sparing)

/-! ### Commands (R506 to R508, R527) -/

theorem derived_keeps {n usage uses key : Nat} {expire : Bool} {pub : Bytes} {c : Option Nat} :
    (h.derived n usage uses key expire pub c).keeps h [.draws, .od, .regs, .ctl, .evt, .dm, .sec, .pwr] :=
  ite_keeps doneOpt_keeps.within (ite_keeps doneOpt_keeps.within (doneOpt_keeps.after writeSlot_keeps.within))

/-! ### The ECC engine (R512) and the report of ATTEST (R519) -/

theorem eccEnd_spares {op : EccOp} {c : Option Nat} : (h.eccEnd op c).spares h daymarkSpared := by
  unfold eccEnd
  split
  · exact doneOpt_keeps.sparing
  · extract_lets
    exact doneOpt_keeps.sparing
  · refine ite_spares doneOpt_keeps.sparing ?_
    refine ite_spares doneOpt_keeps.sparing ?_
    extract_lets
    exact doneOpt_keeps.past (writeSlot_keeps.past draw_keeps.sparing)
  · exact derived_keeps.sparing
  · split
    · exact debugVerdict_keeps.sparing
    · exact .refl
  · exact offerMade_spares.fewer
  · exact offerAnswered_keeps.sparing
  · exact answerTaken_spares.fewer

theorem eccDone_spares : h.eccDone.spares h daymarkSpared := by
  unfold eccDone
  split
  · exact .refl
  · exact ite_spares .refl (eccEnd_spares.trans withSec_keeps.sparing)

/-! ### Check channels (R524 to R526) -/

theorem crcFeed_keeps {c : Nat} {b : Bytes} : (h.crcFeed c b).keeps h [.sec] := by
  unfold crcFeed
  extract_lets
  exact setCrcChan_keeps

theorem crcStart_keeps {c : Nat} : (h.crcStart c).keeps h [.sec] := by
  unfold crcStart
  extract_lets
  exact setCrcChan_keeps

/-! ### Lock records (R503) -/

theorem lockDefault_keeps {r : Nat} : (h.lockDefault r).keeps h [.od, .regs, .evt, .pwr] := by
  unfold lockDefault
  split
  · split
    · exact put_keeps.within
    · exact fire_keeps
  · exact .refl

/-! ### The directory and the Keeper images (R569, R570) -/

theorem keeperCheck_keeps {e : Nat} : (h.keeperCheck e).1.keeps h [.sec] := by
  unfold keeperCheck
  extract_lets
  refine ite_fst_keeps .refl (ite_fst_keeps .refl ?_)
  have used := h.useSlot_keeps (n := 0) (usage := 3) (off := 0)
  generalize h.useSlot 0 3 0 = r at used
  obtain ⟨h1, _ | a⟩ := r
  · exact ite_fst_keeps used used
  · exact used

theorem keeperPick_keeps {es : List Nat} : (h.keeperPick es).1.keeps h [.sec] := by
  induction es generalizing h with
  | nil => exact .refl
  | cons e es ih =>
    unfold keeperPick
    have checked := h.keeperCheck_keeps (e := e)
    generalize h.keeperCheck e = r at checked
    obtain ⟨h1, _ | m⟩ := r
    · exact ih.trans checked
    · exact checked

theorem canUp_keeps {n : Nat} : (h.canUp n).keeps h [.io] := ite_keeps (claimStart_keeps.trans setCan_keeps) .refl

theorem romStays_keeps : h.romStays.keeps h [.io, .pwr] := canUp_keeps.after withPwr_keeps.within

theorem romSlots_keeps : h.romSlots.keeps h [.draws, .sec] := by
  unfold romSlots
  extract_lets
  exact writeSlot_keeps.trans (writeSlot_keeps.trans (ite_keeps .refl (writeSlot_keeps.trans writeSlot_keeps)))

theorem bootRom_spares : h.bootRom.spares h [.clock, .blob, .mem, .obs] := by
  unfold bootRom
  extract_lets _ h1 h2 h3 l
  have h1k : h1.spares h bootSpared := foldl_spares (fun _ _ => lockDefault_keeps.sparing) _ withPwr_keeps.sparing
  have h2k : h2.spares h bootSpared := domUp_spares.trans h1k
  have h3k : h3.spares h bootSpared := tally_keeps.past (romSlots_keeps.past (ite_spares h2k (domUp_spares.trans h2k)))
  have picked := (h3.keeperPick_keeps (es := l)).past (l := [.clock, .blob, .mem, .obs]) h3k.fewer
  generalize h3.keeperPick l = r at picked
  obtain ⟨h4, _ | ⟨e, m⟩⟩ := r
  · exact romStays_keeps.past picked
  · exact withPwr_keeps.past (kramWrite_keeps.past picked)

theorem bootWhenGood_spares : h.bootWhenGood.spares h [.clock, .blob, .mem, .obs] := ite_spares .refl bootRom_spares

/-! ### The checks of R33 -/

theorem odFetch_spares {r : OdRow} {key : Nat} : (h.odFetch r key).1.spares h tunnelSpared := by
  unfold odFetch
  extract_lets _ d g
  have dk : d.1.spares h tunnelSpared := by
    unfold d
    split
    · exact ctxRead_spares
    · exact .refl
  have gk : g.spares h tunnelSpared := by
    unfold g
    split
    · exact ite_spares (laneAdapt_keeps.past dk) dk
    · exact dk
  split
  · refine ite_fst_spares ?_ .refl
    split
    · exact .refl
    · exact .refl
    · exact .refl
  · exact ite_fst_spares .refl (ite_fst_spares dk (odValue_keeps.past gk))

theorem odRead_spares {path : Path} {key : Nat} : (h.odRead path key).1.spares h tunnelSpared := by
  unfold odRead
  split
  · exact .refl
  · split
    · exact ite_fst_spares .refl .refl
    · exact ite_fst_spares .refl (ite_fst_spares .refl odFetch_spares)

theorem odApply_spares {key : Nat} {b : Bytes} : (h.odApply key b).spares h entrySpared := by
  unfold odApply
  split
  · exact odNoted_keeps.past odPut_spares
  · exact .refl

/-! ### Keeper serves accesses one at a time (R36) -/

theorem serveRead_spares {a : Access} : (h.serveRead a).spares h tunnelSpared := by
  unfold serveRead
  extract_lets
  exact keeperLeave_keeps.past (answer_keeps.past odRead_spares)

theorem keeperRead_spares : h.keeperRead.spares h tunnelSpared := by
  unfold keeperRead
  split
  · exact ite_spares serveRead_spares .refl
  · exact .refl

theorem odReadBy_spares {path : Path} {key : Nat} : (h.odReadBy path key).spares h tunnelSpared := turn_spares fun _ => serveRead_spares

/-! ### What a read does -/

theorem clockLatch_keeps : h.clockLatch.keeps h [.bcn] := by
  unfold clockLatch
  extract_lets
  exact withBcn_keeps

theorem regFetch_keeps {o : HoldOwner} {a : Nat} : (h.regFetch o a).1.keeps h [.draws, .lanes, .bcn, .obs] := by
  unfold regFetch
  extract_lets
  split
  · refine ite_fst_keeps ?_ (ite_fst_keeps laneAdapt_keeps.within .refl)
    extract_lets
    exact setLane_keeps.after (ite_fst_keeps open_keeps.within .refl)
  · exact ite_keeps withObs_keeps.within .refl
  · exact ite_keeps setBank_keeps.within .refl
  · extract_lets
    exact ite_keeps setBank_keeps.within .refl
  · exact ite_fst_keeps clockLatch_keeps.within (ite_fst_keeps (open_keeps (w := 2)).within .refl)

/-! ### What a write does, block by block -/

theorem lanePut_spares {n o x w : Nat} : (h.lanePut n o x w).spares h portSpared := by
  refine ite_spares ?_ (ite_spares (ite_spares patternInject_keeps.sparing (ite_spares patternInject_keeps.sparing .refl)) .refl)
  extract_lets _ _ h2
  have h2k : h2.spares h portSpared := ite_spares putReg_keeps.sparing (patternEnable_spares.trans putReg_keeps.sparing)
  exact ite_spares h2k (patternEnable_spares.trans h2k)

theorem faultedPut_keeps {k w : Nat} : (h.faultedPut k w).keeps h [.tun] := by
  unfold faultedPut
  extract_lets
  exact withTun_keeps

theorem barrierPut_keeps {x w : Nat} : (h.barrierPut x w).keeps h [.regs, .eng] := by
  unfold barrierPut
  extract_lets _ _ h2
  have h2k : h2.keeps h [.regs, .eng] := ite_keeps (withEng_keeps.after putReg_keeps.within) putReg_keeps.within
  exact ite_keeps (armBarrier_keeps.after h2k) h2k

theorem postPut_spares {x w : Nat} : (h.postPut x w).spares h daymarkSpared := by
  unfold postPut
  extract_lets
  exact ite_spares (dmGo_spares.trans withDm_keeps.sparing) withDm_keeps.sparing

theorem winPut_spares {win k x w : Nat} : (h.winPut win k x w).spares h tunnelSpared :=
  ite_spares winCtrl_spares (ite_spares putReg_keeps.sparing (ite_spares .refl putReg_keeps.sparing))

theorem queuePut_spares {q o x : Nat} : (h.queuePut q o x).spares h tunnelSpared :=
  ite_spares qCtrlWrite_spares (ite_spares qTailWrite_keeps.sparing (ite_spares qTailWrite_keeps.sparing (ite_spares .refl
      putReg_keeps.sparing)))

theorem mbxPut_keeps {a x w : Nat} : (h.mbxPut a x w).keeps h [.out, .ctl, .eng] := by
  unfold mbxPut
  extract_lets _ _ store
  exact ite_keeps mbxCtrl_keeps (ite_keeps .refl (ite_keeps withCtl_keeps.within (ite_keeps withCtl_keeps.within (ite_keeps
      withCtl_keeps.within .refl))))

theorem msixPut_keeps {k x : Nat} : (h.msixPut k x).keeps h [.out, .hb] := by
  unfold msixPut
  extract_lets
  exact msixPump_keeps.trans withHb_keeps.within

theorem evtPut_keeps {o : HoldOwner} {a x w m : Nat} : (h.evtPut o a x w m).keeps h [.out, .od, .regs, .evt, .lines, .hb, .pwr] := by
  refine ite_keeps pendingWrite_keeps.within ?_
  refine ite_keeps maskWrite_keeps.within ?_
  refine ite_keeps (ite_keeps holdTake_keeps.within holdLeave_keeps.within) ?_
  refine ite_keeps put_keeps.within ?_
  refine ite_keeps withEvt_keeps.within ?_
  refine ite_keeps put_keeps.within ?_
  split
  · split
    · exact ringBaseWrite_keeps.within
    · exact ringBaseWrite_keeps.within
    · exact ringCtrlWrite_keeps.within
    · exact ringRd_keeps.within
    · exact ite_keeps eventEoi_keeps.within .refl
    · exact .refl
  · exact put_keeps.within
  · exact .refl

theorem obsPut_keeps {x : Nat} : (h.obsPut x).keeps h [.out, .od, .regs, .evt, .pwr] := by
  unfold obsPut
  extract_lets
  exact ite_keeps obsGroup_keeps.within (obsEnable_keeps.after obsGroup_keeps.within)

theorem crcPut_keeps {c o x w be : Nat} : (h.crcPut c o x w be).keeps h [.sec] := by
  unfold crcPut
  extract_lets
  split
  · exact setCrcChan_keeps
  · exact setCrcChan_keeps
  · exact setCrcChan_keeps
  · exact setCrcChan_keeps
  · exact setCrcChan_keeps
  · exact setCrcChan_keeps
  · exact setCrcChan_keeps
  · exact ite_keeps crcFeed_keeps .refl
  · exact ite_keeps crcStart_keeps .refl
  · exact .refl

theorem keeperPut_keeps {a x w be : Nat} : (h.keeperPut a x w be).keeps h [.draws, .out, .od, .eng, .dm, .pair, .sec, .pwr] := by
  unfold keeperPut
  split
  · exact crcPut_keeps.within
  · exact ite_keeps padsRelease_keeps.within (ite_keeps (ite_keeps wdtKick_keeps.within .refl) .refl)

theorem barPut_spares {o : HoldOwner} {a x w m : Nat} : (h.barPut o a x w m).spares h registerSpared := by
  refine ite_spares (ite_spares mbxPut_keeps.sparing .refl) ?_
  refine ite_spares ?_ ?_
  · split
    · exact lanePut_spares.fewer
    · exact .refl
  · refine ite_spares faultedPut_keeps.sparing ?_
    refine ite_spares barrierPut_keeps.sparing ?_
    refine ite_spares postPut_spares.fewer ?_
    refine ite_spares evtPut_keeps.sparing ?_
    refine ite_spares obsPut_keeps.sparing ?_
    split
    · exact winPut_spares.fewer
    · exact queuePut_spares.fewer
    · exact msixPut_keeps.sparing
    · exact .refl

theorem storedPut_keeps {a v m : Nat} : (h.storedPut a v m).keeps h [.draws, .regs, .lanes] := by
  unfold storedPut
  split
  · extract_lets _ h1
    have h1k : h1.keeps h [.draws, .regs, .lanes] := by
      unfold h1
      split
      · exact laneAdapt_keeps.within
      · exact .refl
    exact putReg_keeps.after h1k
  · exact .refl

theorem regWrite_spares {o : HoldOwner} {addr be v : Nat} : (h.regWrite o addr be v).spares h registerSpared := by
  unfold regWrite
  split
  · exact .refl
  · extract_lets
    exact ite_spares .refl (ite_spares storedPut_keeps.sparing (ite_spares barPut_spares keeperPut_keeps.sparing))

theorem regWrites_spares {o : HoldOwner} {l : List (Nat × Nat × Nat)} : (h.regWrites o l).spares h registerSpared :=
  foldl_spares (fun _ _ => regWrite_spares) _ .refl

theorem bar0Write_spares {a be : Nat} {d : Bytes} : (h.bar0Write a be d).spares h registerSpared := ite_spares regWrites_spares .refl

theorem regTarget_spares {y : RegTarget} : (h.regTarget y).spares h registerSpared := by
  unfold regTarget
  split
  · refine ite_spares .refl ?_
    extract_lets h0
    have h0k : h0.spares h registerSpared := tally_keeps.sparing
    exact ite_spares (flag_keeps.past (bump_keeps.past h0k)) (ite_spares (postWait_keeps.past h0k) (bar0Write_spares.trans h0k))
  · exact ite_spares regWrites_spares .refl
  · exact ite_spares .refl regWrites_spares
  · exact ite_spares setBme_keeps.sparing .refl
  · exact ite_spares (msixPump_keeps.past withHb_keeps.sparing) .refl
  · exact ite_spares configRead_keeps.sparing .refl
  · exact perst_spares.fewer
  · exact ite_spares tally_keeps.sparing .refl

/-! ### The MEMORY end (R427) -/

theorem memRefused_keeps {i : Nat} : (h.memRefused i).keeps h [.od, .regs, .evt, .hb, .pwr] := by
  unfold memRefused
  extract_lets
  exact ite_keeps (fire_keeps.after (withHb_keeps.after bump_keeps.within)) bump_keeps.within

theorem fsPut_keeps {far be : Nat} {data : Bytes} : (h.fsPut far be data).keeps h [.od, .regs, .mem, .evt, .sw, .pwr] := by
  unfold fsPut
  extract_lets
  exact foldl_keeps (fun _ _ => foldl_keeps (fun _ _ => ite_keeps memWrite_keeps.within .refl) _ .refl) _ (foldl_keeps (fun _ _ =>
      fsMerge_keeps) _ .refl)

theorem fsFetch_keeps {w : Nat} : (h.fsFetch w).1.keeps h [.draws, .od, .regs, .evt, .sw, .pwr] := by
  unfold fsFetch
  extract_lets
  exact ite_fst_keeps (withSw_keeps.after (open_keeps.after eccRead_keeps.within)) eccRead_keeps.within

theorem fsRead_keeps {ws : List Nat} : (h.fsRead ws).1.keeps h [.draws, .od, .regs, .evt, .sw, .pwr] := by
  induction ws generalizing h with
  | nil => exact .refl
  | cons w ws ih => exact ih.trans fsFetch_keeps

theorem regFetches_keeps {xs : List (Nat × Nat × Nat)} : (h.regFetches xs).1.keeps h [.draws, .lanes, .bcn, .obs] := by
  induction xs generalizing h with
  | nil => exact .refl
  | cons x xs ih =>
    refine ih.trans ?_
    split
    · split
      · exact .refl
      · exact regFetch_keeps
    · exact .refl

theorem memServeWrite_spares {i : Nat} : (h.memServeWrite i).spares h [.clock, .blob, .kram, .mode, .vid, .moor] := by
  unfold memServeWrite
  split
  · exact .refl
  · extract_lets _ h1
    have h1k : h1.spares h [.clock, .blob, .kram, .mode, .vid, .moor] := dropOut_keeps.sparing
    exact ite_spares memSkip_keeps.sparing (ite_spares .refl (ite_spares (memRefused_keeps.past h1k) (ite_spares (regWrites_spares.after
        h1k) (fsPut_keeps.past h1k))))

theorem memServeRead_spares {i : Nat} :
    (h.memServeRead i).spares h [.clock, .blob, .mem, .kram, .mode, .ctl, .links, .plan, .dm, .vid, .usb, .pair, .moor, .sec] := by
  unfold memServeRead
  split
  · exact .refl
  · extract_lets _ _ _ h1
    have h1k : h1.spares h [.clock, .blob, .mem, .kram, .mode, .ctl, .links, .plan, .dm, .vid, .usb, .pair, .moor, .sec] :=
      dropOut_keeps.sparing
    refine ite_spares memSkip_keeps.sparing ?_
    refine ite_spares .refl ?_
    split
    · exact memAnswer_keeps.past h1k
    · exact ite_spares (memAnswer_keeps.past (regFetches_keeps.past h1k)) (memAnswer_keeps.past (fsRead_keeps.past h1k))

/-! ### The configuration (R34, R503, R565) -/

theorem odNumber_spares {key v : Nat} : (h.odNumber key v).spares h entrySpared := by
  unfold odNumber
  split
  · exact odPut_spares
  · exact .refl

theorem locksApply_spares : h.locksApply.spares h entrySpared := by
  refine foldl_spares (fun h x => ?_) _ .refl
  split
  · exact ite_spares odNumber_spares .refl
  · exact .refl

theorem settingsBack_spares {stored : List (Nat × Bytes)} : (h.settingsBack stored).spares h entrySpared :=
  foldl_spares (fun _ _ => odNumber_spares) _ .refl

theorem applyEntry_spares {c : Nat × Bytes} : (h.applyEntry c).spares h entrySpared := by
  unfold applyEntry
  split
  · exact fire_keeps.sparing
  · split
    · exact ite_spares .refl odApply_spares
    · exact .refl

theorem configApply_spares : h.configApply.spares h entrySpared := by
  unfold configApply
  extract_lets _ _ h1
  have h1k : h1.spares h entrySpared := foldl_spares (fun _ _ => applyEntry_spares) _ (settingsBack_spares.trans locksApply_spares)
  exact ite_spares (withCtl_keeps.past (open_keeps.past h1k)) h1k

/-! ### What the configuration fixes -/

theorem pairStart_keeps : h.pairStart.keeps h [.mode, .lines, .pair] := ite_keeps withModePair_keeps .refl

theorem mooringStart_keeps : h.mooringStart.keeps h [.moor] := ite_keeps withMoor_keeps .refl

theorem baseStart_keeps : h.baseStart.keeps h [.bcn] := ite_keeps .refl withBcn_keeps

theorem configured_keeps : h.configured.keeps h [.od, .regs, .mode, .evt, .lines, .links, .plan, .bcn, .io, .hb, .pair, .moor, .pwr] := by
  unfold configured
  extract_lets h1 h2 h3
  have h1k : h1.keeps h [.od, .regs, .mode, .evt, .lines, .links, .plan, .bcn, .io, .hb, .pair, .moor, .pwr] :=
    baseStart_keeps.after (mooringStart_keeps.after pairStart_keeps.within)
  have h2k : h2.keeps h [.od, .regs, .mode, .evt, .lines, .links, .plan, .bcn, .io, .hb, .pair, .moor, .pwr] :=
    ite_keeps (planEnter_keeps.after h1k) h1k
  have h3k : h3.keeps h [.od, .regs, .mode, .evt, .lines, .links, .plan, .bcn, .io, .hb, .pair, .moor, .pwr] :=
    ite_keeps (startupCounts_keeps.after h2k) h2k
  exact foldl_keeps (fun _ _ => canUp_keeps.within) _ (hostLatch_keeps.after (resources_keeps.after (ite_keeps (deadlineStart_keeps.after
      h3k) h3k)))

/-! ### The order of R572 -/

theorem domBoot_spares {d : Nat} : (h.domBoot d).spares h bootSpared := ite_spares domUp_spares .refl

theorem domsBoot_spares {l : List Nat} : (h.domsBoot l).spares h bootSpared := foldl_spares (fun _ _ => domBoot_spares) _ .refl

theorem keeperStart_spares : h.keeperStart.spares h [.clock, .kram] := by
  refine ite_spares .refl ?_
  extract_lets _ _ _ h2 h3 _ h6
  have h2k : h2.spares h [.clock, .kram] :=
    configured_keeps.past (configApply_spares.after (ite_spares (fire_keeps.past withPwr_keeps.sparing) withPwr_keeps.sparing))
  have h3k : h3.spares h [.clock, .kram] := ite_spares (domDrop_spares.after h2k) h2k
  have h6k : h6.spares h [.clock, .kram] :=
    portsJudge_spares.after (domsBoot_spares.after (ite_spares (domsBoot_spares.after h3k) (imageStart_keeps.past (domsBoot_spares.after
      h3k))))
  exact fire_keeps.past (ite_spares (fire_keeps.past h6k) h6k)


end Operations
end Sys2Proof.Machine.Hub

namespace Sys2Proof.Machine

set_option Elab.async false

/-! ### From what a meaning spares to what its command spares -/

/-- A meaning over the live hub: the lines take their levels besides. -/
theorem spares_of_onHub {c : Instr} {f : Hub → Hub} {l : List Part} (hc : ∀ s, exec c s = onHub f s)
    (hf : ∀ h : Hub, (f h).spares h l) (hl : ∀ q ∈ l, q ∉ [Part.out, .lines] := by decide) : Spares c l := by
  intro s t ht
  rw [hc] at ht
  by_cases hp : s.hub.inPorst = true
  · rw [onHub_porst f s hp] at ht
    cases ht
    exact ⟨rfl, Hub.spares.refl⟩
  · rw [onHub_live f s (by simpa using hp)] at ht
    cases ht
    exact ⟨rfl, Hub.settle_keeps.past (hf _) hl⟩

/-- A command of the dictionary, which Keeper serves in its turn. -/
theorem spares_of_onCommand {c : Instr} {code ch tag : Nat} {req : Path} {args : Bytes} {f : Hub → Hub} {l : List Part}
    (hc : ∀ s, exec c s = onCommand code req ch tag args f s) (hf : ∀ h : Hub, (f h).spares h l)
    (hl : ∀ q ∈ l, q ∉ [Part.out, .ctl, .lines] := by decide) : Spares c l :=
  spares_of_onHub hc (fun _ => Hub.turn_spares hf fun q hq hm => hl q hq (List.subset_def.1 (by decide) hm))
    fun q hq hm => hl q hq (List.subset_def.1 (by decide) hm)

section Settled

open Hub

/-- Settles O57: each command runs one operation of the hub, alone or as a command that Keeper serves in its turn, and spares what that
operation spares. -/
theorem farReachingCommandsSpareClockMemoryAndMooring : Obligations.FarReachingCommandsSpareClockMemoryAndMooring := by
  refine ⟨?odRead, ?resultRead, ?trainingBlock, ?trainLimitExpiry, ?lossOfSignal, ?lossOfLock, ?errorLimitBreach, ?laneDropBlock,
      ?quietFault, ?linkHoldExpiry, ?portRetrain, ?portRateStep, ?laneDrop, ?genEn, ?chkEn, ?tally, ?idle, ?replayTimeout, ?initTimeout,
      ?tunnelOpen, ?tunnelClose, ?tunnelDestroy, ?closeReq, ?closeAck, ?teardown, ?openTimeout, ?drainComplete, ?drainLimitExpiry,
      ?tunnelReopen, ?jobDispatch, ?jobStart, ?steal, ?tenderFault, ?tenderWatchdog, ?tenderFence, ?emmcInitDone, ?hostBridgeReset,
      ?pcieLinkChange, ?windowEnable, ?dmaCompletion, ?keyRefuse, ?remask, ?trngStartup, ?cellSlot, ?followerStep, ?completionTimeout⟩
  case odRead =>
    refine fun _ => spares_of_onHub (fun _ => rfl) fun h => ?_
    split
    · exact keeperRead_spares.trans keeperTake_keeps.sparing
    · exact keeperRead_spares
  case resultRead => exact fun _ _ => spares_of_onHub (fun _ => rfl) fun _ => odReadBy_spares
  case trainingBlock => exact fun _ _ _ => spares_of_onHub (fun _ => rfl) fun _ => trainingRx_spares
  case trainLimitExpiry => exact fun _ => spares_of_onHub (fun _ => rfl) fun _ => trainLimit_spares
  case lossOfSignal => exact fun _ => spares_of_onHub (fun _ => rfl) fun _ => lossOfSignal_spares
  case lossOfLock => exact fun _ => spares_of_onHub (fun _ => rfl) fun _ => lossOfLock_spares
  case errorLimitBreach =>
    refine fun _ _ => spares_of_onHub (fun _ => rfl) fun h => ?_
    extract_lets h1
    have h1k : h1.spares h portSpared := tally_keeps.sparing
    exact ite_spares (laneFails_spares.trans (flag_keeps.past h1k)) (ite_spares (rejoinFail_keeps.past h1k) h1k)
  case laneDropBlock => exact fun _ _ _ _ => spares_of_onHub (fun _ => rfl) fun _ => laneDropRx_spares
  case quietFault => exact fun _ => spares_of_onHub (fun _ => rfl) fun _ => quietFault_spares
  case linkHoldExpiry => exact fun _ => spares_of_onHub (fun _ => rfl) fun _ => linkHoldEnd_spares
  case portRetrain => exact fun _ _ _ _ => spares_of_onCommand (fun _ => rfl) fun _ => cmdPortRetrain_spares
  case portRateStep => exact fun _ _ _ _ => spares_of_onCommand (fun _ => rfl) fun _ => cmdPortRateStep_spares
  case laneDrop => exact fun _ _ _ _ => spares_of_onCommand (fun _ => rfl) fun _ => cmdLaneDrop_spares
  case genEn => exact fun _ _ => spares_of_onHub (fun _ => rfl) fun _ => patternEnable_spares
  case chkEn => exact fun _ _ => spares_of_onHub (fun _ => rfl) fun _ => patternEnable_spares
  case tally =>
    refine fun _ _ _ _ _ _ => spares_of_onHub (fun _ => rfl) fun h => ?_
    extract_lets
    exact groupRx_spares.trans (ite_spares (ackRx_spares.trans rxWake_keeps.sparing) .refl)
  case idle =>
    refine fun _ _ _ => spares_of_onHub (fun _ => rfl) fun h => ?_
    extract_lets
    refine checked_spares fun h => ?_
    extract_lets
    split
    · exact ackRx_spares.trans rxWake_keeps.sparing
    · exact updLink_keeps.past rxWake_keeps.sparing
  case replayTimeout => exact fun _ => spares_of_onHub (fun _ => rfl) fun _ => ite_spares (replayAll_spares.trans flag_keeps.sparing) .refl
  case initTimeout => exact fun _ => spares_of_onHub (fun _ => rfl) fun _ => ite_spares (portRetrain_spares.trans linkDown_spares) .refl
  case tunnelOpen => exact fun _ _ _ _ => spares_of_onCommand (fun _ => rfl) fun _ => cmdTunnelOpen_spares
  case tunnelClose => exact fun _ _ _ _ => spares_of_onCommand (fun _ => rfl) fun _ => cmdTunnelClose_spares
  case tunnelDestroy => exact fun _ _ _ _ => spares_of_onCommand (fun _ => rfl) fun _ => cmdTunnelDestroy_spares
  case closeReq =>
    refine fun _ _ => spares_of_onHub (fun _ => rfl) fun h => ?_
    split
    · exact closeMsg_spares
    · exact tunUnmatched_keeps.sparing
  case closeAck =>
    refine fun _ _ => spares_of_onHub (fun _ => rfl) fun h => ?_
    split
    · exact closeMsg_spares
    · exact tunUnmatched_keeps.sparing
  case teardown =>
    refine fun _ _ => spares_of_onHub (fun _ => rfl) fun h => ?_
    split
    · exact teardown_spares
    · exact tunUnmatched_keeps.sparing
  case openTimeout => exact fun _ => spares_of_onHub (fun _ => rfl) fun _ => openTimeout_spares
  case drainComplete => exact fun _ => spares_of_onHub (fun _ => rfl) fun _ => drainComplete_spares.fewer
  case drainLimitExpiry => exact fun _ => spares_of_onHub (fun _ => rfl) fun _ => drainLimit_spares.fewer
  case tunnelReopen => exact fun _ => spares_of_onHub (fun _ => rfl) fun _ => tunnelReopen_spares
  case jobDispatch => exact fun _ _ => spares_of_onHub (fun _ => rfl) fun _ => jobDispatch_spares
  case jobStart => exact fun _ => spares_of_onHub (fun _ => rfl) fun _ => jobStart_spares
  case steal => exact fun _ _ => spares_of_onHub (fun _ => rfl) fun _ => stealRun_spares
  case tenderFault => exact fun _ _ => spares_of_onHub (fun _ => rfl) fun _ => tenderFault_spares
  case tenderWatchdog => exact fun _ => spares_of_onHub (fun _ => rfl) fun _ => ite_spares tenderFault_spares .refl
  case tenderFence => exact fun _ _ _ _ => spares_of_onCommand (fun _ => rfl) fun _ => cmdTenderFence_spares
  case emmcInitDone => exact fun _ _ => spares_of_onHub (fun _ => rfl) fun _ => emmcDone_spares
  case hostBridgeReset => exact spares_of_onHub (fun _ => rfl) fun _ => hostReset_spares
  case pcieLinkChange => exact fun _ _ => spares_of_onHub (fun _ => rfl) fun _ => pcieLink_spares
  case windowEnable => exact fun _ _ => spares_of_onHub (fun _ => rfl) fun _ => winCtrl_spares
  case dmaCompletion => exact fun _ _ _ => spares_of_onHub (fun _ => rfl) fun _ => dmaDone_spares
  case keyRefuse =>
    refine fun _ _ => spares_of_onHub (fun _ => rfl) fun h => ?_
    refine ite_spares keyRelay_keeps.sparing ?_
    split
    · exact ite_spares agreeFail_spares tunUnmatched_keeps.sparing
    · exact tunUnmatched_keeps.sparing
  case remask => exact spares_of_onHub (fun _ => rfl) fun _ => remask_spares
  case trngStartup => exact fun _ => spares_of_onHub (fun _ => rfl) fun _ => trngStartup_spares
  case cellSlot => exact fun _ _ => spares_of_onHub (fun _ => rfl) fun _ => cellSlot_spares
  case followerStep => exact fun _ => spares_of_onHub (fun _ => rfl) fun _ => followerStep_spares
  case completionTimeout => exact fun _ => spares_of_onHub (fun _ => rfl) fun _ => dmaTimeout_spares

/-- Settles O58: as O57, by what each operation spares. -/
theorem otherFarReachingCommandsSpareWhatIsNamed : Obligations.OtherFarReachingCommandsSpareWhatIsNamed := by
  refine ⟨?keeperStart, ?fogDeadlineExpiry, ?foghornRetrainFail, ?modeFog, ?credit, ?superframeStart, ?beacon, ?linkInit, ?linkInitPageSend,
      ?openAck, ?jobCommit, ?meterRelease, ?tenderRestore, ?daymarkPost, ?dmPostGo, ?lampcmdPost, ?lampcmdCancel, ?daymarkFired,
      ?memoryWrite, ?memoryRead, ?roleAnnounce, ?commitPoint, ?mirror, ?pairClaimed, ?seatConfirm, ?seatRelease, ?wakeLatchSet, ?domainOn,
      ?domainRetention, ?domainOff, ?domainGrant, ?registerWrite, ?vddCoreRestored, ?crystalReturn, ?eccEngineDone, ?domainPowerUpDone⟩
  case keeperStart => exact spares_of_onHub (fun _ => rfl) fun _ => keeperStart_spares
  case fogDeadlineExpiry => exact spares_of_onHub (fun _ => rfl) fun _ => deadlineExpired_spares
  case foghornRetrainFail => exact spares_of_onHub (fun _ => rfl) fun _ => retrainFail_spares
  case modeFog => exact fun _ _ _ _ => spares_of_onCommand (fun _ => rfl) fun _ => cmdModeFog_spares
  case credit => exact fun _ _ _ _ => spares_of_onHub (fun _ => rfl) fun _ => heard_spares fun _ => creditRx_spares
  case superframeStart => exact spares_of_onHub (fun _ => rfl) fun _ => superframeStart_spares
  case beacon => exact fun _ _ _ _ _ _ _ _ _ => spares_of_onHub (fun _ => rfl) fun _ => spares.trans (heard_spares fun _ =>
      beaconRx_spares.fewer) pass_keeps.sparing
  case linkInit => exact fun _ _ _ => spares_of_onHub (fun _ => rfl) fun _ => heard_spares fun _ => resendRun_spares.after linkInitRx_spares
  case linkInitPageSend => exact fun _ => spares_of_onHub (fun _ => rfl) fun _ => resendRun_spares.after linkPageSend_spares.fewer
  case openAck => exact fun _ _ => spares_of_onHub (fun _ => rfl) fun _ => openAck_spares
  case jobCommit => exact fun _ _ => spares_of_onHub (fun _ => rfl) fun _ => jobCommit_spares
  case meterRelease => exact fun _ => spares_of_onHub (fun _ => rfl) fun _ => meterRelease_spares
  case tenderRestore => exact fun _ _ _ _ _ => spares_of_onCommand (fun _ => rfl) fun _ => cmdTenderRestore_spares
  case daymarkPost => exact fun _ _ _ _ => spares_of_onCommand (fun _ => rfl) fun _ => cmdDaymarkPost_spares
  case dmPostGo => exact spares_of_onHub (fun _ => rfl) fun _ => dmGo_spares
  case lampcmdPost => exact spares_of_onHub (fun _ => rfl) fun _ => lampMessage_spares
  case lampcmdCancel => exact spares_of_onHub (fun _ => rfl) fun _ => lampMessage_spares
  case daymarkFired => exact spares_of_onHub (fun _ => rfl) fun _ => dmCross_spares
  case memoryWrite => exact fun _ => spares_of_onHub (fun _ => rfl) fun _ => memServeWrite_spares
  case memoryRead => exact fun _ => spares_of_onHub (fun _ => rfl) fun _ => memServeRead_spares
  case roleAnnounce => exact fun _ _ _ _ _ _ _ => spares_of_onHub (fun _ => rfl) fun _ => roleAnnounce_spares
  case commitPoint => exact spares_of_onHub (fun _ => rfl) fun _ => commitPoint_spares
  case mirror => exact fun _ _ => spares_of_onHub (fun _ => rfl) fun _ => mirrorRx_spares
  case pairClaimed => exact spares_of_onHub (fun _ => rfl) fun _ => claim_spares
  case seatConfirm => exact fun _ => spares_of_onHub (fun _ => rfl) fun _ => seatConfirm_spares
  case seatRelease => exact fun _ => spares_of_onHub (fun _ => rfl) fun _ => seatRelease_spares
  case wakeLatchSet => exact fun _ _ => spares_of_onHub (fun _ => rfl) fun _ => wakeEdge_spares
  case domainOn => exact fun _ _ _ _ _ => spares_of_onCommand (fun _ => rfl) fun _ => cmdDomainSet_spares
  case domainRetention => exact fun _ _ _ _ _ => spares_of_onCommand (fun _ => rfl) fun _ => cmdDomainSet_spares
  case domainOff => exact fun _ _ _ _ _ => spares_of_onCommand (fun _ => rfl) fun _ => cmdDomainSet_spares
  case domainGrant => exact fun _ => spares_of_onHub (fun _ => rfl) fun _ => domJudge_spares
  case registerWrite => exact fun _ => spares_of_onHub (fun _ => rfl) fun _ => regTarget_spares
  case vddCoreRestored =>
    refine spares_of_onHub (fun _ => rfl) fun h => ?_
    refine ite_spares ?_ .refl
    extract_lets
    exact ite_spares (bootWhenGood_spares.trans withPwr_keeps.sparing) withPwr_keeps.sparing
  case crystalReturn =>
    refine spares_of_onHub (fun _ => rfl) fun h => ?_
    refine ite_spares ?_ .refl
    extract_lets
    exact ite_spares (bootWhenGood_spares.trans withPwr_keeps.sparing) withPwr_keeps.sparing
  case eccEngineDone => exact spares_of_onHub (fun _ => rfl) fun _ => eccDone_spares
  case domainPowerUpDone => exact fun _ => spares_of_onHub (fun _ => rfl) fun _ => powerUpDone_spares

end Settled

end Sys2Proof.Machine

/-!
SUPPORT. The contexts of tunnels (chapter 05): what an operation on a context leaves of its record, what it leaves of the outputs and the
channels, and what the checks of an opening read (R148, R192).

`Elab.async` is off for the reason the frames give.
-/

namespace Sys2Proof.Machine.Hub

set_option Elab.async false

section Operations

variable {h a b : Hub} {i : Nat}

/-! ### The record of a context -/

theorem ctx_congr (ht : a.tun = b.tun) : a.ctx i = b.ctx i := by rw [ctx, ctx, ht]

/-- An operation whose frame leaves the tunnels alone leaves every context as it is. -/
theorem keeps.ctx {l : List Part} (hab : a.keeps b l) (hl : Part.tun ∉ l := by decide) : a.ctx i = b.ctx i := ctx_congr (hab .tun hl)

@[simp] theorem updCtx_ctx {f : Ctx → Ctx} : (h.updCtx i f).ctx i = f (h.ctx i) := setCtx_ctx ..

theorem setTunState_ctx {st : TunState} : (h.setTunState i st).ctx i = { h.ctx i with state := st, lastChange := h.links.sf } := by
  rw [setTunState, eccWrite_keeps.ctx, eccWrite_keeps.ctx, updCtx_ctx]

theorem freeCtx_ctx : (h.freeCtx i).ctx i = Ctx.init := by
  rw [freeCtx, mirrorCtx_keeps.ctx, mirrorStale_keeps.ctx, prunePairs_keeps.ctx, eccWrite_keeps.ctx, setCtx_ctx]

theorem enterClosed_state : ((h.enterClosed i).ctx i).state = .closed := by
  rw [enterClosed, mirrorCtx_keeps.ctx, tunEvent_keeps.ctx, prunePairs_keeps.ctx, dropHomes_keeps.ctx, unadmit_keeps.ctx, setTunState_ctx]

/-- The end of a drain (R155). -/
theorem leaveDraining_state :
    ((h.leaveDraining i).ctx i).state = if (h.ctx i).role = .opener then .closed else .free := by
  rw [leaveDraining]
  split
  · exact enterClosed_state
  · rw [freeCtx_ctx]
    rfl

/-- A drain starts (R164). -/
theorem enterDraining_state : ((h.enterDraining i).ctx i).state = .draining := by
  rw [enterDraining, portLeave_keeps.ctx, mirrorCtx_keeps.ctx]
  split
  · rw [endTunCommand_keeps.ctx, updCtx_ctx, setTunState_ctx]
  · rw [setTunState_ctx]

theorem drainProgress_state : ((h.drainProgress i).ctx i).state = (h.ctx i).state := by
  rw [drainProgress]
  split
  · rw [tunToFar_keeps.ctx, updCtx_ctx]
  · rfl

/-- TUNNEL_CLOSE drains, but a faulted tunnel leaves at once (R164). -/
theorem closeStart_state {c : Option Nat} : ((h.closeStart i c).ctx i).state =
    if (h.ctx i).state = .faulted then (if (h.ctx i).role = .opener then .closed else .free) else .draining := by
  rw [closeStart]
  split
  · rw [doneMirrored_keeps.ctx, leaveDraining_state]
  · rw [drainProgress_state, updCtx_ctx, enterDraining_state]

theorem destroyCtx_ctx : (h.destroyCtx i).1.ctx i = Ctx.init := by
  unfold destroyCtx
  extract_lets x r h1 h2
  split
  · exact endTunCommand_keeps.ctx.trans freeCtx_ctx
  · exact endTunCommand_keeps.ctx.trans freeCtx_ctx

theorem withFaulted_ctx {x : Tab Nat} : ({ h with tun := { h.tun with faulted := x } } : Hub).ctx i = h.ctx i := rfl

/-- The fault of an opener (R155, R169). -/
theorem enterFault_opener {cause faultStatus status : Nat} {d : Bytes} (hr : (h.ctx i).role = .opener) :
    ((h.enterFault i cause faultStatus status d).ctx i).state = .faulted ∧
      ((h.enterFault i cause faultStatus status d).ctx i).faultCause = cause := by
  unfold enterFault
  extract_lets x h1 h2 tun h3 h4 h5 h6 h7 h8
  have kept : h8.ctx i = (h3.setTunState i .faulted).ctx i := by
    have h5c : h5.ctx i = h4.ctx i := by
      unfold h5
      rw [mirrorCtx_keeps.ctx, tunEvent_keeps.ctx, prunePairs_keeps.ctx, dropHomes_keeps.ctx]
    have h6c : h6.ctx i = h5.ctx i := (ite_keeps portLeave_keeps .refl).ctx
    have h7c : h7.ctx i = h6.ctx i := (ite_keeps lampsTunnel_keeps .refl).ctx
    calc h8.ctx i = h7.ctx i := endTunCommand_keeps.ctx
      _ = h4.ctx i := by rw [h7c, h6c, h5c]
      _ = _ := unadmit_keeps.ctx
  have h3c : h3.ctx i = h2.ctx i := withFaulted_ctx
  rw [if_neg (by simp [x, hr]), kept, setTunState_ctx, h3c]
  unfold h2
  rw [updCtx_ctx]
  exact ⟨rfl, rfl⟩

/-! ### The role of a context outlives the discard of its cells and jobs -/

/-- Every context has the role it had. -/
def sameRoles (a b : Hub) : Prop := ∀ k, (a.ctx k).role = (b.ctx k).role

theorem sameRoles.refl : h.sameRoles h := fun _ => rfl

theorem sameRoles.trans {c : Hub} (hab : a.sameRoles b) (hbc : b.sameRoles c) : a.sameRoles c := fun k => (hab k).trans (hbc k)

theorem keeps.sameRoles {l : List Part} (hab : a.keeps b l) (hl : Part.tun ∉ l := by decide) : a.sameRoles b :=
  fun _ => congrArg Ctx.role (hab.ctx hl)

theorem ite_sameRoles {a' : Hub} {P : Prop} [Decidable P] (ht : a.sameRoles b) (hf : a'.sameRoles b) :
    (if P then a else a').sameRoles b := by
  split
  · exact ht
  · exact hf

theorem foldl_sameRoles {α : Type} {f : Hub → α → Hub} (hf : ∀ h x, (f h x).sameRoles h) (xs : List α) (hab : a.sameRoles b) :
    (xs.foldl f a).sameRoles b := by
  induction xs generalizing a with
  | nil => exact hab
  | cons x xs ih => exact ih ((hf a x).trans hab)

theorem updCtx_sameRoles {f : Ctx → Ctx} (hf : ∀ x, (f x).role = x.role) : (h.updCtx i f).sameRoles h := by
  intro k
  by_cases hk : k = i
  · subst hk
    rw [updCtx_ctx, hf]
  · rw [updCtx, setCtx_ctx_ne _ _ _ _ hk]

theorem drainCount_sameRoles {j : Job} : (h.drainCount j).sameRoles h := ite_sameRoles (updCtx_sameRoles fun _ => rfl) .refl

theorem discardJob_sameRoles {j : Job} : (h.discardJob j).sameRoles h :=
  drainCount_sameRoles.trans (barrierOff_keeps.sameRoles.trans freeJob_keeps.sameRoles)

theorem discardOn_sameRoles {t : Nat} : (h.discardOn i t).sameRoles h :=
  ite_sameRoles .refl (foldl_sameRoles (fun _ _ => discardJob_sameRoles) _ setTender_keeps.sameRoles)

theorem discardJobs_sameRoles : (h.discardJobs i).sameRoles h :=
  foldl_sameRoles (fun _ _ => drainCount_sameRoles.trans (ite_sameRoles stageLeave_keeps.sameRoles freeWords_keeps.sameRoles)) _
    (withEng_keeps.sameRoles.trans (foldl_sameRoles (fun _ _ => discardOn_sameRoles) _ .refl))

theorem purge_sameRoles : (h.purge i).1.sameRoles h := by
  unfold purge
  extract_lets before n h1 h2 h3
  have h1r : h1.sameRoles h := foldl_sameRoles (fun _ _ => removeCells_keeps.sameRoles) _ .refl
  have h2r : h2.sameRoles h1 :=
    discardJobs_sameRoles.trans (sameRoles.trans (updCtx_sameRoles fun _ => rfl) freeWords_keeps.sameRoles)
  have h3r : h3.sameRoles h2 := updCtx_sameRoles fun _ => rfl
  change h3.sameRoles h
  exact h3r.trans (h2r.trans h1r)

/-! ### A context is no longer counted -/

theorem unadmit_admitted : i ∉ (h.unadmit i).plan.admitted := by simp [unadmit]

theorem freeCtx_admitted : i ∉ (h.freeCtx i).plan.admitted := by
  have after {g : Hub} : (((((g.setCtx i Ctx.init).eccWrite 3 i).prunePairs).mirrorStale (g.handle i)).mirrorCtx i).keeps g
      [.draws, .out, .od, .regs, .evt, .tun, .eng, .sw, .pair, .sec, .pwr] :=
    mirrorCtx_keeps.after (mirrorStale_keeps.after (prunePairs_keeps.after (eccWrite_keeps.after setCtx_keeps.within)))
  have kept : (h.freeCtx i).plan = (((if (h.ctx i).state = .closed then h else h.tunEvent Ev.tunnelClosed i .free).clearMap i).unadmit i).plan :=
    after .plan (by decide)
  rw [kept]
  exact unadmit_admitted

theorem destroyCtx_admitted : i ∉ (h.destroyCtx i).1.plan.admitted := by
  unfold destroyCtx
  extract_lets x r h1 h2
  have ended {g : Hub} {c : Option Nat} {d : Bytes} : ((g.freeCtx i).endTunCommand c abCancelled d).plan = (g.freeCtx i).plan :=
    endTunCommand_keeps .plan (by decide)
  split
  · rw [ended]
    exact freeCtx_admitted
  · rw [ended]
    exact freeCtx_admitted

/-! ### What has been given to the outside stays given -/

theorem tunToFar_calm {op : TunOp} : (h.tunToFar i op).calm h := tunSend_calm

theorem endTunCommand_calm {c : Option Nat} {status : Nat} {d : Bytes} : (h.endTunCommand c status d).calm h := doneMirrored_calm

theorem enterClosed_calm : (h.enterClosed i).calm h :=
  mirrorCtx_calm.trans (fire_calm.trans (prunePairs_calm.trans (dropHomes_calm.trans (unadmit_calm.trans
    (setTunState_calm.trans updCtx_calm)))))

theorem leaveDraining_calm : (h.leaveDraining i).calm h := ite_calm enterClosed_calm freeCtx_calm

theorem enterDraining_calm : (h.enterDraining i).calm h := by
  have drains {f : Ctx → Ctx} {st : TunState} : ((h.updCtx i f).setTunState i st).calm h := setTunState_calm.trans updCtx_calm
  exact portLeave_calm.trans (mirrorCtx_calm.trans (ite_calm (endTunCommand_calm.trans (updCtx_calm.trans drains)) drains))

theorem drainProgress_calm : (h.drainProgress i).calm h := ite_calm (tunToFar_calm.trans updCtx_calm) .refl

theorem closeStart_calm {c : Option Nat} : (h.closeStart i c).calm h :=
  ite_calm (doneMirrored_calm.trans leaveDraining_calm) (drainProgress_calm.trans (updCtx_calm.trans enterDraining_calm))

theorem destroyCtx_calm : (h.destroyCtx i).1.calm h := by
  unfold destroyCtx
  extract_lets x r h1 h2
  split
  · exact endTunCommand_calm.trans freeCtx_calm
  · exact endTunCommand_calm.trans (freeCtx_calm.trans ((ite_calm portLeave_calm .refl).trans (tunToFar_calm.trans purge_calm)))

end Operations
end Sys2Proof.Machine.Hub

/-!
SUPPORT. What the checks of an opening read: the binding of R148 and the admission of R192 give the same answer at two hubs that differ in
other things alone.
-/

namespace Sys2Proof.Machine

/-! ### Cells of other keys -/

theorem cellsErase_filter {α : Type} (l : List (Nat × α)) (k : Nat) :
    (cellsErase l k).filter (fun c => decide (c.1 ≠ k)) = l.filter (fun c => decide (c.1 ≠ k)) := by
  induction l with
  | nil => rfl
  | cons c l ih =>
    obtain ⟨k', v⟩ := c
    by_cases hk : k' = k <;> simp_all [cellsErase]

theorem cellsInsert_filter {α : Type} (l : List (Nat × α)) (k : Nat) (v : α) :
    (cellsInsert l k v).filter (fun c => decide (c.1 ≠ k)) = l.filter (fun c => decide (c.1 ≠ k)) := by
  induction l with
  | nil => simp [cellsInsert]
  | cons c l ih =>
    obtain ⟨k', v'⟩ := c
    rw [cellsInsert]
    split
    · simp
    · simp only [List.filter_cons, ih]

/-- A cell set leaves those of the other keys as they are. -/
theorem cellsSet_filter {α : Type} [DecidableEq α] (d : α) (l : List (Nat × α)) (k : Nat) (v : α) :
    (cellsSet d l k v).filter (fun c => decide (c.1 ≠ k)) = l.filter (fun c => decide (c.1 ≠ k)) := by
  rw [cellsSet]
  split
  · exact cellsErase_filter l k
  · rw [cellsInsert_filter, cellsErase_filter]

namespace Hub

set_option Elab.async false

section Operations

variable {h a b : Hub} {i : Nat}

/-! ### Two hubs at which an opening of context i finds the same -/

/-- The listed contexts other than i. -/
def othersThan (h : Hub) (i : Nat) : List (Nat × Ctx) := h.ctxList.filter (fun c => decide (c.1 ≠ i))

/-- What the checks of an opening of context i read is the same at two hubs: entries below the counters', registers other than EVT_FLAGS,
the other contexts. -/
structure opensAlike (i : Nat) (a b : Hub) : Prop where
  mode : a.mode = b.mode
  val : ∀ e : Entry, e.key < 0x600000 → a.val e = b.val e
  reg : ∀ e : Entry, e.key ≠ Rg.evtFlags.key → a.reg e = b.reg e
  blob : a.blob = b.blob
  others : a.othersThan i = b.othersThan i
  admitted : a.plan.admitted = b.plan.admitted
  nominal : a.plan.nominal = b.plan.nominal
  emmc : a.io.emmc = b.io.emmc
  phase : a.pwr.bootPhase = b.pwr.bootPhase

theorem opensAlike.trans {c : Hub} (hab : opensAlike i a b) (hbc : opensAlike i b c) : opensAlike i a c where
  mode := hab.mode.trans hbc.mode
  val e he := (hab.val e he).trans (hbc.val e he)
  reg e he := (hab.reg e he).trans (hbc.reg e he)
  blob := hab.blob.trans hbc.blob
  others := hab.others.trans hbc.others
  admitted := hab.admitted.trans hbc.admitted
  nominal := hab.nominal.trans hbc.nominal
  emmc := hab.emmc.trans hbc.emmc
  phase := hab.phase.trans hbc.phase

theorem setCtx_othersThan {x : Ctx} : (h.setCtx i x).othersThan i = h.othersThan i := by
  simp only [othersThan, ctxList, List.filter_filter]
  have swap (l : List (Nat × Ctx)) : l.filter (fun c => decide (c.1 ≠ i) && decide (c.1 < 256)) =
      (l.filter (fun c => decide (c.1 ≠ i))).filter (fun c => decide (c.1 < 256)) := by
    simp only [List.filter_filter, Bool.and_comm]
  rw [swap, swap, show (h.setCtx i x).tun.ctxs.cells = cellsSet Ctx.init h.tun.ctxs.cells i x from rfl, cellsSet_filter]

/-- The record of context i itself is not among what the checks read elsewhere. -/
theorem updCtx_opensAlike {f : Ctx → Ctx} : opensAlike i (h.updCtx i f) h :=
  ⟨rfl, fun _ _ => rfl, fun _ _ => rfl, rfl, setCtx_othersThan, rfl, rfl, rfl, rfl⟩

/-- An event of a source that does not wake AON counts, and may raise EVT_FLAGS. -/
theorem fire_val {src : Nat} {d : Bytes} (hs : aonSource src = false) {e : Entry} (he : e.key < 0x600000) :
    (h.fire src d).val e = h.val e := by
  have counted {g : Hub} {n : Nat} : (g.count n 1).val e = g.val e :=
    val_bump_ne _ _ _ _ _ (by simp only [cntEntry, Od.cntCount]; omega)
  have detailed {g : Hub} {n : Nat} {x : Bytes} : (g.queueDetail n x false false).1.val e = g.val e :=
    val_congr (queueDetail_od ..) e
  have flagged {g : Hub} : (g.flag Rg.evtFlags 2).val e = g.val e := rfl
  simp only [fire, fireWith, hs, Bool.false_eq_true, false_and, if_false]
  split_ifs
  · rfl
  · rw [detailed, counted, flagged, detailed, counted]
  · rw [detailed, counted]

theorem fire_opensAlike {src : Nat} {d : Bytes} (hs : aonSource src = false) : opensAlike i (h.fire src d) h where
  mode := fire_mode ..
  val _ he := fire_val hs he
  reg _ he := fire_reg he
  blob := fire_blob ..
  others := by rw [othersThan, ctxList, fire_tun, othersThan, ctxList]
  admitted := by rw [fire_plan]
  nominal := by rw [fire_plan]
  emmc := by rw [fire_io]
  phase := by
    have fired : (h.fire src d).pwr = h.pwr := by
      simp only [fire, fireWith, hs, Bool.false_eq_true, false_and, if_false]
      split_ifs <;> simp
    rw [fired]

theorem boundBy_alike (hab : opensAlike i a b) (pick : Nat → Bool) : a.boundBy i pick = b.boundBy i pick := by
  have among (h : Hub) : h.boundBy i pick =
      ((h.othersThan i).find? (fun c => c.2.busy && decide (c.2.role ≠ .transit) && pick c.2.localBind)).map (·.1) := by
    simp only [boundBy, othersThan, List.find?_filter, Bool.and_assoc, Bool.decide_and, Bool.decide_eq_true]
  rw [among, among, hab.others]

theorem portRuns_alike (hab : opensAlike i a b) (c : Nat) : a.portRuns c = b.portRuns c := by rw [portRuns, portRuns, hab.mode]

theorem service_alike (hab : opensAlike i a b) (n : Nat) : a.service n = b.service n := by rw [service, service, hab.phase]

theorem confDesc_alike (hab : opensAlike i a b) (n f : Nat) : a.confDesc n f = b.confDesc n f := by
  rw [confDesc, confDesc, blobVal, blobVal, hab.blob]

theorem of_isEth {c : Nat} (hc : isEth c = true) : 0x10 ≤ c ∧ c ≤ 0x17 := by simpa [isEth] using hc

/-- R148. -/
theorem bindOk_alike (hab : opensAlike i a b) (kind bind maxSeg : Nat) : a.bindOk i kind bind maxSeg = b.bindOk i kind bind maxSeg := by
  simp only [bindOk, portRuns_alike hab, boundBy_alike hab, service_alike hab, confDesc_alike hab, hab.emmc]
  congr 1
  refine ite_congr rfl (fun hc => ?_) fun _ => ite_congr rfl (fun hc => ?_) fun _ => ite_congr rfl (fun hc => ?_) fun _ =>
    ite_congr rfl (fun hc => ?_) fun _ => ite_congr rfl (fun hc => ?_) fun _ => ite_congr rfl (fun hc => ?_) fun _ =>
    ite_congr rfl (fun hc => ?_) fun _ => ite_congr rfl (fun hc => ?_) fun _ => ite_congr rfl (fun hc => ?_) fun _ => rfl
  · have := (of_isEth hc).2
    rw [hab.val (Od.ethEnable _) (by simp only [Od.ethEnable]; omega), hab.val (Od.ethMaxFrame _) (by simp only [Od.ethMaxFrame]; omega)]
  · have : portCode bind ≤ 0x25 := by simp [isCan] at hc; omega
    rw [hab.val (Od.canEnable _) (by simp only [Od.canEnable]; omega)]
  · by_cases hs : selector bind < 8
    · have region {n : Nat} (hn : n ≤ 3) : 0x444800 + n + 256 * selector bind < 0x600000 := by omega
      rw [hab.val Od.emmcEnable (by decide), hab.val (Od.regionBlocks _) (region (n := 3) (by decide)),
        hab.val (Od.regionBaseLba _) (region (n := 2) (by decide)), hab.val (Od.regionPartition _) (region (n := 1) (by decide))]
    · simp [hs]
  · have : portCode bind ≤ 0x41 := by simp [isCsi] at hc; omega
    rw [hab.val (Od.csiEnable _) (by simp only [Od.csiEnable]; omega)]
  · rw [hab.val Od.dsiEnable (by decide)]
  · have : portCode bind ≤ 0x51 := by simp [isHsic] at hc; omega
    have : fnIx (portCode bind - 0x50) (selector bind % 4) < 8 := by simp only [fnIx]; omega
    rw [hab.val (Od.hsicEnable _) (by simp only [Od.hsicEnable]; omega), hab.val (Od.fnEnable _) (by simp only [Od.fnEnable]; omega)]
  · rw [hab.reg (Rg.win _ _) (by simp only [Rg.win, Rg.evtFlags]; omega)]
  · rw [hab.reg (Rg.queue _ _) (by simp only [Rg.queue, Rg.evtFlags]; omega)]
  · have : portCode bind ≤ 0x75 := by simp [isSer] at hc; omega
    rw [hab.val (Od.serEnable _) (by simp only [Od.serEnable]; omega), hab.val (Od.serMode _) (by simp only [Od.serMode]; omega)]

/-! ### The admission check -/

/-- Contexts that count alike on every egress. -/
structure countsAs (x y : Ctx) : Prop where
  role : x.role = y.role
  cls : x.cls = y.cls
  direction : x.direction = y.direction
  localBind : x.localBind = y.localBind
  portA : x.portA = y.portA
  portB : x.portB = y.portB

theorem committedOf_alike {x y : Ctx} {e k j : Nat} (hab : opensAlike i a b) (hxy : countsAs x y) (hk : k < 8) (hj : j < 256) :
    a.committedOf e k j x = b.committedOf e k j y := by
  simp only [committedOf, hxy.role, hxy.direction, hxy.localBind, hxy.portA, hxy.portB,
    hab.val (Od.planCirSend k j) (by simp only [Od.planCirSend]; omega),
    hab.val (Od.planCirRecv k j) (by simp only [Od.planCirRecv]; omega)]

/-- The sum over the contexts that a test picks, never i, is one over the others. -/
theorem sumOver_others {e k : Nat} {pick : Nat → Ctx → Bool} (hi : ∀ x, pick i x = false) (l : List (Nat × Ctx)) :
    h.sumOver e k pick l = h.sumOver e k pick (l.filter (fun c => decide (c.1 ≠ i))) := by
  induction l with
  | nil => rfl
  | cons c l ih =>
    obtain ⟨j, x⟩ := c
    by_cases hj : j = i
    · subst hj
      simp [sumOver, hi, ih]
    · simp [sumOver, hj, ih]

theorem sumOver_alike {e k : Nat} {pick : Nat → Ctx → Bool} (hab : opensAlike i a b) (hk : k < 8) {l : List (Nat × Ctx)}
    (hl : ∀ c ∈ l, c.1 < 256) : a.sumOver e k pick l = b.sumOver e k pick l := by
  induction l with
  | nil => rfl
  | cons c l ih =>
    obtain ⟨j, x⟩ := c
    rw [sumOver, sumOver, ih fun c hc => hl c (List.mem_cons_of_mem _ hc), counted, counted, hab.admitted,
      committedOf_alike hab ⟨rfl, rfl, rfl, rfl, rfl, rfl⟩ hk (hl (j, x) List.mem_cons_self)]

theorem sumOver_ctxList_alike {e k : Nat} {pick : Nat → Ctx → Bool} (hab : opensAlike i a b) (hi : ∀ x, pick i x = false) (hk : k < 8) :
    a.sumOver e k pick a.ctxList = b.sumOver e k pick b.ctxList := by
  have listed : ∀ c ∈ b.othersThan i, c.1 < 256 := by
    intro c hc
    simp only [othersThan, ctxList, List.mem_filter, decide_eq_true_eq] at hc
    exact hc.1.2
  calc a.sumOver e k pick a.ctxList = a.sumOver e k pick (a.othersThan i) := sumOver_others hi _
    _ = b.sumOver e k pick (b.othersThan i) := by rw [hab.others, sumOver_alike hab hk listed]
    _ = b.sumOver e k pick b.ctxList := (sumOver_others hi _).symm

theorem admitPlans_alike {x y : Ctx} {e n : Nat} (hab : opensAlike i a b) (hxy : countsAs x y) (hi : i < 256) (hn : n ≤ 8) :
    a.admitPlans e i x n = b.admitPlans e i y n := by
  induction n with
  | zero => rfl
  | succ k ih =>
    have nominal : a.guaranteed e = b.guaranteed e := by rw [guaranteed, guaranteed, Hub.nominal, Hub.nominal, hab.nominal]
    rw [admitPlans, admitPlans, ih (by omega), nominal, hxy.cls, committedOf_alike hab hxy (by omega) hi,
      sumOver_ctxList_alike hab (by simp) (by omega), sumOver_ctxList_alike hab (by simp) (by omega)]

/-- R192. -/
theorem admits_alike {x y : Ctx} (hab : opensAlike i a b) (hxy : countsAs x y) (hi : i < 256) : a.admits i x = b.admits i y := by
  have plans (e : Nat) : a.admitPlans e i x 8 = b.admitPlans e i y 8 := admitPlans_alike hab hxy hi le_rfl
  simp only [admits, Ctx.egresses, hxy.role, hxy.portA, hxy.portB, hxy.localBind, plans]

end Operations
end Hub
end Sys2Proof.Machine

/-!
SUPPORT. The clauses of the tunnel commands and of the timers of a context (O21).
-/

namespace Sys2Proof.Machine
namespace Hub

set_option Elab.async false

section Operations

variable {h a b : Hub} {i : Nat}

/-! ### The hub right after a command was accepted -/

theorem odapSend_emmc {n c : Nat} {d : Bytes} : (h.odapSend n c d).io.emmc = h.io.emmc := by
  rw [odapSend]
  split
  · rfl
  · rfl

theorem answer_emmc {r : Path} {status : Abort} {d : Bytes} : (h.answer r status d).io.emmc = h.io.emmc := by
  have odap {t : OdapTransfer} {g : Hub} : (g.odapAnswer t status d).io.emmc = g.io.emmc := by
    simp only [odapAnswer, odapAbort]
    split_ifs <;> exact odapSend_emmc
  unfold answer
  extract_lets h1
  split
  · rfl
  · split <;> rfl
  · split
    · split
      · rfl
      · exact odap
    · exact odap
    · rfl
  · split
    · exact congrArg IoSt.emmc (sysOut_keeps .io (by decide))
    · rfl

/-- The hub stands as it does right after a command was accepted: its channel runs it, the acceptance is answered, and beside the channels
and the answer all is as it was. -/
structure issued (g h : Hub) (req : Path) (c code tag : Nat) (args : Bytes) : Prop where
  chan : g.chan c = ⟨.running, tag, code, args, []⟩
  gave : g.gave h (.answer req 0 [])
  kept : g.keeps h [.out, .ctl, .eng, .io]
  emmc : g.io.emmc = h.io.emmc

variable {g : Hub} {req : Path} {c code tag : Nat} {args : Bytes}

theorem issued.tun (hg : g.issued h req c code tag args) : g.tun = h.tun := hg.kept .tun (by decide)

theorem issued.ctx (hg : g.issued h req c code tag args) : g.ctx i = h.ctx i := hg.kept.ctx

theorem keeps.mode {l : List Part} (hab : a.keeps b l) (hl : ∀ q ∈ [Part.mode, .lines], q ∉ l := by decide) : a.mode = b.mode := by
  have hm := hab .mode (hl _ (by simp))
  obtain ⟨-, -, hf⟩ := hab .lines (hl _ (by simp))
  calc a.mode = { ({ a.mode with faultN := false } : ModeSt) with faultN := a.mode.faultN } := rfl
    _ = { ({ b.mode with faultN := false } : ModeSt) with faultN := b.mode.faultN } := by rw [show _ = _ from hm, hf]
    _ = b.mode := rfl

theorem othersThan_congr (ht : a.tun = b.tun) : a.othersThan i = b.othersThan i := by rw [othersThan, ctxList, ht, othersThan, ctxList]

/-- An opening finds what it would have found before the command was accepted. -/
theorem issued.alike (hg : g.issued h req c code tag args) : opensAlike i g h where
  mode := hg.kept.mode
  val _ _ := val_congr (hg.kept .od (by decide)) _
  reg _ _ := reg_congr (hg.kept .regs (by decide)) _
  blob := hg.kept .blob (by decide)
  others := othersThan_congr hg.tun
  admitted := congrArg PlanSt.admitted (hg.kept .plan (by decide))
  nominal := congrArg PlanSt.nominal (hg.kept .plan (by decide))
  emmc := hg.emmc
  phase := congrArg PwrSt.bootPhase (hg.kept .pwr (by decide))

end Operations
end Hub

/-- As `completes_onCommand`, with all that acceptance leaves. -/
theorem completes_onIssued {x : Instr} {s : State} {req : Path} {c code tag : Nat} {args : Bytes} {f : Hub → Hub} {P : Hub → Prop}
    (start : Hub → Hub) (ht : s.hub.takes req c code) (hl : args.length ≤ 252)
    (hf : ∀ x : CtlSt, f { s.hub with ctl := x } = ({ s.hub with ctl := x } : Hub).issue req c code tag args none none start)
    (hP : ∀ (g : Hub) (a : Access), g.issued s.hub req c code tag args → P ((start g).keeperLeave a).settle)
    (hc : exec x s = onCommand code req c tag args f s := by rfl) : Completes x s P := by
  obtain ⟨live, up, alone, known, free⟩ := ht
  let a := accessOf req (Od.cmdCommand c).key (some (u16 code ++ u16 tag ++ args))
  obtain ⟨y, hy, turned⟩ := s.hub.turn_alone a f up alone
  let g0 : Hub := { s.hub with ctl := y }
  have free0 : (g0.chan c).state ≠ .running := by rwa [Hub.chan_congr (h := s.hub) hy]
  have short : lengthOr args none = none := by rw [lengthOr, if_neg (by omega), if_neg (by omega)]
  have started : f g0 = start ((g0.accept c code tag args).answer req 0 []) := by
    rw [hf, Hub.issue, Hub.withCode, if_pos (show g0.keeperUp = true from up), show g0.codeRefused req code = none from known, short]
    exact if_neg free0
  have accepted : ((g0.accept c code tag args).answer req 0 []).issued s.hub req c code tag args :=
    { chan := Hub.accept_chan ..
      gave := Hub.gave_answer.mono (List.suffix_refl _) (by simp [g0])
      kept := Hub.answer_keeps.trans (Hub.accept_keeps.after (Hub.withCtl_keeps.within))
      emmc := Hub.answer_emmc }
  refine ⟨_, ?_, hP _ a accepted⟩
  rw [hc, onCommand, onHub_live _ _ live, turned, started]

end Sys2Proof.Machine

namespace Sys2Proof.Machine

/-! ### The checks of a command -/

theorem firstAbort_none {l : List (Bool × Abort)} : firstAbort l = none ↔ ∀ c ∈ l, c.1 = false := by
  induction l with
  | nil => simp [firstAbort]
  | cons c l ih =>
    obtain ⟨bad, a⟩ := c
    cases bad <;> simp [firstAbort, ih]

theorem firstState_none {l : List (Bool × Nat)} : firstState l = none ↔ ∀ c ∈ l, c.1 = false := by
  induction l with
  | nil => simp [firstState]
  | cons c l ih =>
    obtain ⟨holds, a⟩ := c
    cases holds <;> simp [firstState, ih]

namespace Hub

set_option Elab.async false

section Operations

variable {h a b g : Hub} {i : Nat} {req : Path} {c code tag : Nat} {args : Bytes}

/-- A HANDLE that is live, of no transit, passes (R173). -/
theorem handleArg_passes {hd n : Nat} {between : List (Bool × Abort)} (hn : args.length = n) (live : h.cmdLive hd = true)
    (role : (h.ctx (hd % 256)).role ≠ .transit) (hb : firstAbort between = none) :
    firstAbort (argLen args n :: h.handleArg hd between) = none := by
  have given : hd ≠ 0 := by
    rintro rfl
    simp [cmdLive] at live
  rw [firstAbort_none] at hb ⊢
  simp only [handleArg, argLen, List.mem_cons, List.mem_append, List.not_mem_nil, or_false]
  rintro x (rfl | (rfl | hx) | rfl)
  · simp [hn]
  · simp [given, role]
  · exact hb x hx
  · simp [live]

theorem fogKeeps_of_inFog (hf : h.inFog = false) : h.fogKeeps = false := by simp [fogKeeps, hf]

/-! ### What Keeper and the lines do after a command leaves the tunnels alone -/

theorem settled_tun {x : Access} : (h.keeperLeave x).settle.tun = h.tun := rfl

theorem settled_ctx {x : Access} : (h.keeperLeave x).settle.ctx i = h.ctx i := ctx_congr settled_tun

theorem settled_plan {x : Access} : (h.keeperLeave x).settle.plan = h.plan := rfl

theorem settled_chan {x : Access} : (h.keeperLeave x).settle.chan c = h.chan c := rfl

theorem settled_ended {x : Access} {status : Nat} {d : Bytes} (he : h.ended c code tag status d) :
    (h.keeperLeave x).settle.ended c code tag status d := he

theorem issue_unrefused {arg : Option Abort} {st : Option Nat} {start : Hub → Hub} (ha : arg = none) (hs : st = none) :
    h.issue req c code tag args arg st start = h.issue req c code tag args none none start := by rw [ha, hs]

/-- What the acceptance gave is still given after an effect beneath the modes. -/
theorem issued.answered {x : Access} (hg : g.issued h req c code tag args) (hc : a.calm g) :
    (a.keeperLeave x).settle.gave h (.answer req 0 []) :=
  hg.gave.mono (hc.out.trans settle_grows.out) (List.suffix_refl _)

/-- A channel that the effect leaves alone runs the command. -/
theorem issued.busy {x : Access} {l : List Part} (hg : g.issued h req c code tag args) (hk : a.keeps g l)
    (hl : Part.ctl ∉ l := by decide) : (a.keeperLeave x).settle.busyWith c code tag := by
  have kept : (a.keeperLeave x).settle.chan c = ⟨.running, tag, code, args, []⟩ := by
    rw [settled_chan, chan_congr (congrArg CtlSt.channels (hk .ctl hl)), hg.chan]
  exact ⟨congrArg Channel.state kept, congrArg Channel.tag kept, congrArg Channel.code kept⟩

/-! ### TUNNEL_CREATE -/

theorem freeIndex_congr (ht : a.tun = b.tun) : a.freeIndex = b.freeIndex := by
  have same : a.ctx = b.ctx := funext fun _ => ctx_congr ht
  rw [freeIndex, same, freeIndex]

theorem handle_congr (ht : a.tun = b.tun) : a.handle i = b.handle i := by simp only [handle, gen, ht]

theorem mirroring_congr (hm : a.mode = b.mode) (hl : a.links = b.links) : a.mirroring = b.mirroring := by
  rw [mirroring, mirroring, running, running, link_congr hl, hm]

theorem dropDeferred_keeps : (h.dropDeferred i).keeps h [.plan] := withPlan_keeps

/-- What the record of a new context says (R155, R173). -/
theorem createCtx_ctx : ((h.createCtx i args).ctx i).state = .closed ∧ ((h.createCtx i args).ctx i).role = .opener ∧
    ((h.createCtx i args).ctx i).kind = field args 0 1 ∧ ((h.createCtx i args).ctx i).cls = field args 1 1 ∧
    ((h.createCtx i args).ctx i).farTarget = field args 4 1 ∧ ((h.createCtx i args).ctx i).maxSeg = field args 6 2 ∧
    ((h.createCtx i args).ctx i).localBind = field args 8 4 := by
  rw [createCtx, mirrorCtx_keeps.ctx, (openerPlan_keeps 8).ctx, dropDeferred_keeps.ctx, setCtx_ctx]
  exact ⟨rfl, rfl, rfl, rfl, rfl, rfl, rfl⟩

/-- A command on mirrored state ends at once where no mirror runs (R451). -/
theorem doneMirrored_ended {status : Nat} {d : Bytes} (hm : h.mirroring = false) (hc : c < 8)
    (hr : h.chan c = ⟨.running, tag, code, args, []⟩) : (h.doneMirrored (some c) status d).ended c code tag status d := by
  have finishes : h.doneMirrored (some c) status d = h.finish c status d := by
    simp [doneMirrored, endMirrored, hm, runEnd, done, hc]
  have ended := h.finish_ended c status d (by rw [hr])
  rw [hr] at ended
  rwa [finishes]

/-! ### TUNNEL_OPEN -/

theorem targetPort_congr {t : Nat} (hm : a.mode = b.mode) (hw : a.moor = b.moor) (hp : a.pair = b.pair) :
    a.targetPort t = b.targetPort t := by
  have role : a.role = b.role := by rw [Hub.role, hm, Hub.role]
  have up : a.upPort = b.upPort := by rw [upPort, upPort, pairBuoy, pairBuoy, role, hw, hp]
  have route : a.route t = b.route t := by rw [Hub.route, up, Hub.route]
  rw [targetPort, route, targetPort]

/-- The record of an opener as TUNNEL_OPEN aims it at its target: the command, the port and the hops (R160). -/
def aimed (x : Ctx) (o : Option Nat) (p n : Nat) : Ctx :=
  { x with command := o, portA := p, towardResponder := p, hopsOpener := 0, hopsResponder := n, totalHops := n, reopenTimer := false }

/-- An unsealed tunnel that the checks of an opening let pass goes on to step 2 of R160. -/
theorem openStart_admitted {o : Option Nat} (hi : i < 256) (plain : (h.ctx i).isSealed = false)
    (port : (h.ctx i).portA = h.targetPort (h.ctx i).farTarget)
    (bound : h.bindOk i (h.ctx i).kind (h.ctx i).localBind (h.ctx i).maxSeg = true) (fits : h.admits i (h.ctx i) = true) :
    ∃ g : Hub, h.openStart i o = (g.admitted i).openSend i ∧ (g.ctx i).command = o ∧ g.keeps h [.tun] := by
  unfold openStart
  extract_lets x p n h0 h1 busy h2
  have h0x : h0.ctx i = aimed x o p n := updCtx_ctx
  have alike : opensAlike i h0 h := updCtx_opensAlike
  have bound0 : h0.bindOk i x.kind x.localBind x.maxSeg = true := (bindOk_alike alike ..).trans bound
  have counts : countsAs (h0.ctx i) (h.ctx i) := by
    rw [h0x]
    exact ⟨rfl, rfl, rfl, rfl, port.symm, rfl⟩
  have fits0 : h0.admits i (h0.ctx i) = true := (admits_alike alike counts hi).trans fits
  refine ⟨h0, ?_, congrArg Ctx.command h0x, updCtx_keeps⟩
  rw [if_neg (by simp [bound0]), if_neg (by simp [fits0]), if_neg (by simp [x, plain])]

theorem startTunnel_ctx : ((h.startTunnel i).ctx i).state = .opening ∧ ((h.startTunnel i).ctx i).openTimer = true ∧
    ((h.startTunnel i).ctx i).reopenTimer = false ∧ ((h.startTunnel i).ctx i).command = (h.ctx i).command := by
  rw [startTunnel, setTunState_ctx, updCtx_ctx]
  exact ⟨rfl, rfl, rfl, rfl⟩

/-- Step 2 of R160. -/
theorem openSend_ctx : ((h.openSend i).ctx i).state = .opening ∧ ((h.openSend i).ctx i).openTimer = true ∧
    ((h.openSend i).ctx i).reopenTimer = false ∧ ((h.openSend i).ctx i).command = (h.ctx i).command := by
  rw [openSend, mirrorCtx_keeps.ctx, tunSend_keeps.ctx, startDirections_keeps.ctx, updCtx_ctx]
  exact startTunnel_ctx

theorem openSend_calm : (h.openSend i).calm h :=
  mirrorCtx_calm.trans (tunSend_calm.trans (startDirections_keeps.calm.trans (updCtx_calm.trans (setTunState_calm.trans updCtx_calm))))

theorem admitted_admitted : i ∈ (h.admitted i).plan.admitted := by simp [admitted]

theorem openSend_admitted : i ∈ ((h.admitted i).openSend i).plan.admitted := by
  rw [show ((h.admitted i).openSend i).plan = (h.admitted i).plan from openSend_keeps .plan (by decide)]
  exact admitted_admitted

/-! ### TUNNEL_MODIFY -/

theorem settleClass_clsNow : ((h.settleClass i).ctx i).clsNow = (h.ctx i).clsNow ∧
    ((h.settleClass i).ctx i).modifying = (h.ctx i).modifying ∧ ((h.settleClass i).ctx i).openTimer = (h.ctx i).openTimer ∧
    ((h.settleClass i).ctx i).command = (h.ctx i).command := by
  unfold settleClass
  extract_lets x
  split
  · exact ⟨rfl, rfl, rfl, rfl⟩
  · next cls hcls =>
    split
    · rw [mirrorCtx_keeps.ctx, (clsReclass_keeps _ _).ctx, updCtx_ctx]
      exact ⟨by simp only [Ctx.clsNow, show (h.ctx i).newClass = some cls from hcls, Option.getD_some, Option.getD_none], rfl, rfl, rfl⟩
    · exact ⟨rfl, rfl, rfl, rfl⟩

/-- R171. -/
theorem applyModify_ctx {cls seg : Nat} : ((h.applyModify i cls seg).ctx i).clsNow = cls ∧
    ((h.applyModify i cls seg).ctx i).modifying = (h.ctx i).modifying ∧
    ((h.applyModify i cls seg).ctx i).openTimer = (h.ctx i).openTimer ∧
    ((h.applyModify i cls seg).ctx i).command = (h.ctx i).command := by
  obtain ⟨cls', modifying, timer, command⟩ := settleClass_clsNow (i := i) (h := h.updCtx i (fun x =>
    { x with maxSeg := seg, maxSegOld := max x.maxSegOld (max x.maxSeg seg), newClass := if cls = x.cls then none else some cls }))
  rw [updCtx_ctx] at cls' modifying timer command
  refine ⟨cls'.trans ?_, modifying, timer, command⟩
  by_cases same : cls = (h.ctx i).cls
  · simp [Ctx.clsNow, same]
  · simp [Ctx.clsNow, same]

/-- An OPEN tunnel that changes CLASS runs on until MODIFY_ACK (R171). -/
theorem modifyStart_open (state : (h.ctx i).state = .open) (given : field args 2 1 ≠ 0xFF) (other : field args 2 1 ≠ (h.ctx i).clsNow) :
    ((h.modifyStart i args c).ctx i).modifying = true ∧ ((h.modifyStart i args c).ctx i).openTimer = true ∧
      ((h.modifyStart i args c).ctx i).command = some c ∧ ((h.modifyStart i args c).ctx i).clsNow = field args 2 1 ∧
      (h.modifyStart i args c).keeps h [.draws, .out, .od, .tun, .eng, .sw, .pair] := by
  unfold modifyStart
  extract_lets x cls seg h1 h2 h2'
  have chosen : cls = field args 2 1 := if_neg given
  rw [if_neg (by simp [chosen, x, other]), if_neg (by simp [x, state])]
  obtain ⟨now, modifying, timer, command⟩ := applyModify_ctx (h := h2') (i := i) (cls := cls) (seg := seg)
  have h2x : h2'.ctx i = { h1.ctx i with modifying := true, openTimer := true, command := some c } := updCtx_ctx
  have kept : (((h2'.applyModify i cls seg).tunSend i true (.modifyReq cls seg)).mirrorCtx i).keeps h
      [.draws, .out, .od, .tun, .eng, .sw, .pair] :=
    mirrorCtx_keeps.after (tunSend_keeps.after (applyModify_keeps.after (updCtx_keeps.after updCtx_keeps.within)))
  refine ⟨?_, ?_, ?_, ?_, kept⟩ <;> rw [mirrorCtx_keeps.ctx, tunSend_keeps.ctx]
  · rw [modifying, h2x]
  · rw [timer, h2x]
  · rw [command, h2x]
  · rw [now, chosen]

/-- The record of a CLOSED opener takes CLASS, MAX_SEG and DRAIN_LIMIT where given, and TAG (R174). -/
structure modified (x y : Ctx) (args : Bytes) : Prop where
  cls : x.cls = if field args 2 1 = 0xFF then y.cls else field args 2 1
  maxSeg : x.maxSeg = if field args 4 2 = 0 then y.maxSeg else field args 4 2
  drainLimit : x.drainLimit = if field args 6 2 = 0 then y.drainLimit else field args 6 2
  tag : x.tag = field args 8 4
  state : x.state = .closed

theorem modifyStart_closed (state : (h.ctx i).state = .closed) (steady : (h.ctx i).newClass = none) :
    modified ((h.modifyStart i args c).ctx i) (h.ctx i) args ∧ (h.modifyStart i args c).calm h := by
  unfold modifyStart
  extract_lets x cls seg h1 h2
  have now : x.clsNow = x.cls := by simp [Ctx.clsNow, x, steady]
  have chosen : cls = if field args 2 1 = 0xFF then x.cls else field args 2 1 := by
    unfold cls
    rw [now]
  have h1x : h1.ctx i = _ := updCtx_ctx
  split
  · next same =>
    obtain ⟨hcls, hseg⟩ := same
    refine ⟨?_, doneMirrored_calm.trans (mirrorCtx_calm.trans updCtx_calm)⟩
    rw [doneMirrored_keeps.ctx, mirrorCtx_keeps.ctx, h1x]
    exact ⟨(hcls.trans now).symm.trans chosen, hseg.symm, rfl, rfl, state⟩
  · refine ⟨?_, doneMirrored_calm.trans (mirrorCtx_calm.trans ((clsReclass_keeps _ _).calm.trans (updCtx_calm.trans updCtx_calm)))⟩
    rw [doneMirrored_keeps.ctx, mirrorCtx_keeps.ctx, (clsReclass_keeps _ _).ctx, updCtx_ctx, h1x]
    exact ⟨chosen, rfl, rfl, rfl, state⟩

end Operations
end Hub
end Sys2Proof.Machine

namespace Sys2Proof.Machine

section Clauses

open Hub

set_option Elab.async false

variable {s : State} {req : Path} {c : Fin 8} {tag : BitVec 16} {args : Bytes} {i : Nat}

/-! ### The commands of chapter 05 (R173, R174) -/

/-- TUNNEL_CREATE that R173's checks let pass starts. -/
theorem tunnelCreate_issued {P : Hub → Prop} (ht : s.hub.takes req c 0x0300) (valid : s.hub.createArgs args = none)
    (fog : s.hub.inFog = false) (primary : s.hub.standby = false)
    (hP : ∀ (g : Hub) (a : Access), g.issued s.hub req c 0x0300 tag.toNat args → P (((match g.freeIndex with
      | none => g.finish c abNoResource []
      | some i => (g.createCtx i args).doneMirrored (some c.val) 0 (u16 ((g.createCtx i args).handle i))).keeperLeave a).settle)) :
    Completes (.tunnelCreate req c tag args) s P := by
  have length : args.length = 24 := by
    have := (firstAbort_none.1 valid) (argLen args 24) (by simp)
    simpa [argLen] using this
  have states : firstState [(s.hub.fogKeeps, stFoghorn), (s.hub.standby, stNotRoot)] = none := by
    simp [firstState_none, fogKeeps_of_inFog fog, primary]
  exact completes_onIssued (tag := tag.toNat) (f := fun h => h.cmdTunnelCreate req c tag.toNat args) (fun h => match h.freeIndex with
    | none => h.finish c abNoResource []
    | some i => (h.createCtx i args).doneMirrored (some c.val) 0 (u16 ((h.createCtx i args).handle i))) ht (length.trans_le (by decide))
    (fun _ => issue_unrefused valid states) hP

theorem tunnelCreate_completes (ht : s.hub.takes req c 0x0300) (valid : s.hub.createArgs args = none)
    (fog : s.hub.inFog = false) (primary : s.hub.standby = false) (free : s.hub.freeIndex = some i) :
    Completes (.tunnelCreate req c tag args) s fun h => (h.ctx i).state = .closed ∧ (h.ctx i).role = .opener ∧
      (h.ctx i).kind = field args 0 1 ∧ (h.ctx i).cls = field args 1 1 ∧ (h.ctx i).farTarget = field args 4 1 ∧
      ((h.ctx i).maxSeg = field args 6 2 ∧ (h.ctx i).localBind = field args 8 4 ∧
        (s.hub.mirroring = false → h.ended c 0x0300 tag.toNat 0 (u16 (h.handle i)))) := by
  refine tunnelCreate_issued ht valid fog primary fun g a hg => ?_
  rw [(freeIndex_congr hg.tun).trans free]
  have tun : ((g.createCtx i args).doneMirrored (some c.val) 0 (u16 ((g.createCtx i args).handle i))).tun =
      (g.createCtx i args).tun := doneMirrored_keeps .tun (by decide)
  obtain ⟨state, role, kind, cls, target, seg, bind⟩ := createCtx_ctx (h := g) (i := i) (args := args)
  dsimp only
  rw [settled_ctx, ctx_congr tun]
  refine ⟨state, role, kind, cls, target, seg, bind, fun alone => ?_⟩
  have handle : (((g.createCtx i args).doneMirrored (some c.val) 0 (u16 ((g.createCtx i args).handle i))).keeperLeave a).settle.handle i =
      (g.createCtx i args).handle i := handle_congr (settled_tun.trans tun)
  have silent : (g.createCtx i args).mirroring = false :=
    (mirroring_congr (createCtx_keeps.mode.trans hg.kept.mode)
      ((createCtx_keeps .links (by decide)).trans (hg.kept .links (by decide)))).trans alone
  have running : (g.createCtx i args).chan c = ⟨.running, tag.toNat, 0x0300, args, []⟩ :=
    (chan_congr (congrArg CtlSt.channels (createCtx_keeps .ctl (by decide))) c).trans hg.chan
  rw [handle]
  exact settled_ended (doneMirrored_ended silent c.isLt running)

theorem tunnelCreate_full (ht : s.hub.takes req c 0x0300) (valid : s.hub.createArgs args = none)
    (fog : s.hub.inFog = false) (primary : s.hub.standby = false) (full : s.hub.freeIndex = none) :
    Completes (.tunnelCreate req c tag args) s fun h => h.ended c 0x0300 tag.toNat abNoResource [] ∧ h.tun = s.hub.tun := by
  refine tunnelCreate_issued ht valid fog primary fun g a hg => ?_
  rw [(freeIndex_congr hg.tun).trans full]
  have ended := g.finish_ended c.val abNoResource [] (by rw [hg.chan])
  rw [hg.chan] at ended
  exact ⟨settled_ended ended, (finish_keeps .tun (by decide)).trans hg.tun⟩

theorem tunnelOpen_completes (ht : s.hub.takes req c 0x0301) (length : args.length = 2) (hi : i = field args 0 2 % 256)
    (live : s.hub.cmdLive (field args 0 2) = true) (states : s.hub.openStates i = none) (plain : (s.hub.ctx i).isSealed = false)
    (port : (s.hub.ctx i).portA = s.hub.targetPort (s.hub.ctx i).farTarget)
    (bound : s.hub.bindOk i (s.hub.ctx i).kind (s.hub.ctx i).localBind (s.hub.ctx i).maxSeg = true)
    (fits : s.hub.admits i (s.hub.ctx i) = true) :
    Completes (.tunnelOpen req c tag args) s fun h => (h.ctx i).state = .opening ∧ (h.ctx i).openTimer = true ∧
      (h.ctx i).command = some c.val ∧ h.busyWith c 0x0301 tag.toNat ∧ h.gave s.hub (.answer req 0 []) ∧ i ∈ h.plan.admitted := by
  subst hi
  have role : (s.hub.ctx (field args 0 2 % 256)).role ≠ .transit := by
    intro transit
    simp [openStates, firstState_none, transit] at states
  have valid := handleArg_passes length live role (between := []) rfl
  refine completes_onIssued (tag := tag.toNat) (f := fun h => h.cmdTunnelOpen req c tag.toNat args)
      (fun h => h.openStart (field args 0 2 % 256) (some c.val)) ht (length.trans_le (by decide))
    (fun _ => by
      unfold Hub.cmdTunnelOpen
      exact issue_unrefused valid states) fun g a hg => ?_
  have ctx : g.ctx (field args 0 2 % 256) = s.hub.ctx (field args 0 2 % 256) := hg.ctx
  have target : g.targetPort (s.hub.ctx (field args 0 2 % 256)).farTarget = s.hub.targetPort (s.hub.ctx (field args 0 2 % 256)).farTarget :=
    targetPort_congr hg.kept.mode (hg.kept .moor (by decide)) (hg.kept .pair (by decide))
  obtain ⟨g1, opens, command, kept⟩ := g.openStart_admitted (o := some c.val) (i := field args 0 2 % 256) (by omega) (by rw [ctx, plain])
    (by rw [ctx, port, target]) (by rw [ctx, bindOk_alike hg.alike, bound])
    (by rw [ctx, admits_alike hg.alike ⟨rfl, rfl, rfl, rfl, rfl, rfl⟩ (by omega), fits])
  obtain ⟨state, timer, -, running⟩ := (g1.admitted (field args 0 2 % 256)).openSend_ctx (i := field args 0 2 % 256)
  have frame : ((g1.admitted (field args 0 2 % 256)).openSend (field args 0 2 % 256)).keeps g
      [.draws, .out, .od, .tun, .plan, .eng, .sw, .pair] :=
    openSend_keeps.after (admitted_keeps.after kept.within)
  rw [opens, settled_ctx]
  exact ⟨state, timer, running.trans ((congrArg Ctx.command admitted_keeps.ctx).trans command), hg.busy frame,
    hg.answered (openSend_calm.trans (admitted_keeps.calm.trans kept.calm)), openSend_admitted⟩

theorem tunnelClose_completes (ht : s.hub.takes req c 0x0302) (length : args.length = 2) (hi : i = field args 0 2 % 256)
    (live : s.hub.cmdLive (field args 0 2) = true) (role : (s.hub.ctx i).role ≠ .transit) (states : s.hub.closeStates i = none) :
    Completes (.tunnelClose req c tag args) s fun h =>
      ((h.ctx i).state = if (s.hub.ctx i).state = .open then .draining else if (s.hub.ctx i).role = .opener then .closed else .free) ∧
        h.gave s.hub (.answer req 0 []) := by
  subst hi
  have valid := handleArg_passes length live role (between := []) rfl
  refine completes_onIssued (tag := tag.toNat) (f := fun h => h.cmdTunnelClose req c tag.toNat args)
      (fun h => h.closeStart (field args 0 2 % 256) (some c.val)) ht (length.trans_le (by decide))
    (fun _ => by
      unfold Hub.cmdTunnelClose
      exact issue_unrefused valid states) fun g a hg => ?_
  have stands : (s.hub.ctx (field args 0 2 % 256)).state = .open ∨ (s.hub.ctx (field args 0 2 % 256)).state = .faulted := by
    by_contra neither
    rw [not_or] at neither
    simp [closeStates, firstState_none, neither] at states
  refine ⟨?_, hg.answered closeStart_calm⟩
  rw [settled_ctx, closeStart_state, hg.ctx]
  obtain opened | faulted := stands
  · simp [opened]
  · simp [faulted]

theorem tunnelDestroy_completes (ht : s.hub.takes req c 0x0303) (length : args.length = 2) (hi : i = field args 0 2 % 256)
    (live : s.hub.cmdLive (field args 0 2) = true) (role : (s.hub.ctx i).role ≠ .transit) (fog : s.hub.inFog = false)
    (primary : s.hub.standby = false) :
    Completes (.tunnelDestroy req c tag args) s fun h =>
      (h.ctx i).state = .free ∧ h.gave s.hub (.answer req 0 []) ∧ i ∉ h.plan.admitted := by
  subst hi
  have valid := handleArg_passes length live role (between := []) rfl
  have states : firstState [(s.hub.fogKeeps, stFoghorn), (s.hub.standby, stNotRoot)] = none := by
    simp [firstState_none, fogKeeps_of_inFog fog, primary]
  refine completes_onIssued (tag := tag.toNat) (f := fun h => h.cmdTunnelDestroy req c tag.toNat args)
      (fun h => (h.destroyCtx (field args 0 2 % 256)).1.doneMirrored (some c.val) 0
      (u32 (h.destroyCtx (field args 0 2 % 256)).2)) ht (length.trans_le (by decide))
    (fun _ => by
      unfold Hub.cmdTunnelDestroy
      exact issue_unrefused valid states) fun g a hg => ?_
  refine ⟨?_, hg.answered (doneMirrored_calm.trans destroyCtx_calm), ?_⟩
  · rw [settled_ctx, doneMirrored_keeps.ctx, destroyCtx_ctx]
    rfl
  · rw [settled_plan, doneMirrored_keeps .plan (by decide)]
    exact destroyCtx_admitted

/-- TUNNEL_MODIFY of an opener whose state takes it starts. -/
theorem tunnelModify_issued {P : Hub → Prop} (ht : s.hub.takes req c 0x0304) (length : args.length = 12) (hi : i = field args 0 2 % 256)
    (live : s.hub.cmdLive (field args 0 2) = true) (role : (s.hub.ctx i).role = .opener)
    (given : firstAbort (s.hub.modifyArgs args) = none) (fog : s.hub.inFog = false) (primary : s.hub.standby = false)
    (stays : s.hub.rootSwap = false) (state : (s.hub.ctx i).state = .open ∨ (s.hub.ctx i).state = .closed)
    (alone : (s.hub.ctx i).command = none)
    (hP : ∀ (g : Hub) (a : Access), g.issued s.hub req c 0x0304 tag.toNat args → P (((g.modifyStart i args c).keeperLeave a).settle)) :
    Completes (.tunnelModify req c tag args) s P := by
  subst hi
  have valid := handleArg_passes length live (by simp [role]) given
  have states : firstState [(s.hub.fogKeeps, stFoghorn), (s.hub.standby, stNotRoot), (s.hub.rootSwap, stSwap),
      (decide ((s.hub.ctx (field args 0 2 % 256)).state ≠ .open ∧ (s.hub.ctx (field args 0 2 % 256)).state ≠ .closed) ||
        (s.hub.ctx (field args 0 2 % 256)).command.isSome, (s.hub.ctx (field args 0 2 % 256)).state.named)] = none := by
    obtain h | h := state <;> simp [firstState_none, fogKeeps_of_inFog fog, primary, stays, alone, h]
  exact completes_onIssued (tag := tag.toNat) (f := fun h => h.cmdTunnelModify req c tag.toNat args)
      (fun h => h.modifyStart (field args 0 2 % 256) args c.val) ht (length.trans_le (by decide))
    (fun _ => by
      unfold Hub.cmdTunnelModify
      exact issue_unrefused valid states) hP

/-! ### The timers of a context -/

theorem openTimeout_completes {i : Byte} (live : s.hub.live) (state : (s.hub.ctx i.toNat).state = .opening)
    (timer : (s.hub.ctx i.toNat).openTimer = true) (settled : ∀ e ∈ s.hub.sec.exchange, e.ctx ≠ i.toNat) :
    Completes (.openTimeout i) s fun h =>
      ((h.ctx i.toNat).state = if (s.hub.ctx i.toNat).role = .opener then .faulted else .free) ∧
        ((s.hub.ctx i.toNat).role = .opener → (h.ctx i.toNat).faultCause = 2) := by
  have unasked : s.hub.sec.exchange.any (fun e => decide (e.ctx = i.toNat)) = false := by simpa using settled
  refine completes_onHub (fun h => h.openTimeout i.toNat) live ?_
  rw [settle_keeps.ctx]
  unfold openTimeout
  extract_lets x h1
  rw [if_neg (by simp [x, timer]), if_neg (by simp [unasked]), if_pos (show x.state = .opening from state)]
  by_cases opener : (s.hub.ctx i.toNat).role = .opener
  · obtain ⟨faulted, cause⟩ := (s.hub.tunSend i.toNat true (.teardown 2)).enterFault_opener (i := i.toNat) (cause := 2) (faultStatus := 0)
      (status := abRemoteTimeout) (d := openData 0 x.portA 0) (by rw [tunSend_keeps.ctx, opener])
    rw [if_pos (show x.role = .opener from opener), if_pos opener]
    exact ⟨faulted, fun _ => cause⟩
  · rw [if_neg (show ¬x.role = .opener from opener), if_neg opener, freeCtx_ctx]
    exact ⟨rfl, fun h => absurd h opener⟩

theorem drainComplete_completes {i : Byte} (live : s.hub.live) (drained : s.hub.drained i.toNat = true) :
    Completes (.drainComplete i) s fun h => (h.ctx i.toNat).state = if (s.hub.ctx i.toNat).role = .opener then .closed else .free := by
  refine completes_onHub (fun h => h.drainComplete i.toNat) live ?_
  rw [settle_keeps.ctx, drainComplete, if_pos drained, doneMirrored_keeps.ctx, leaveDraining_state, updCtx_ctx]

theorem drainLimit_completes {i : Byte} (live : s.hub.live) (state : (s.hub.ctx i.toNat).state = .draining)
    (timer : (s.hub.ctx i.toNat).drainTimer = true) :
    Completes (.drainLimitExpiry i) s fun h =>
      (h.ctx i.toNat).state = if (s.hub.ctx i.toNat).role = .opener then .closed else .free := by
  refine completes_onHub (fun h => h.drainLimit i.toNat) live ?_
  rw [settle_keeps.ctx, drainLimit, if_neg (by simp [state, timer]), doneMirrored_keeps.ctx, leaveDraining_state, updCtx_ctx,
    tunToFar_keeps.ctx]
  rw [show (((s.hub.purge i.toNat).1).ctx i.toNat).role = (s.hub.ctx i.toNat).role from purge_sameRoles _]

theorem respFaultHold_completes {i : Byte} (live : s.hub.live) (state : (s.hub.ctx i.toNat).state = .faulted)
    (timer : (s.hub.ctx i.toNat).holdTimer = true) : Completes (.respFaultHoldExpiry i) s fun h => (h.ctx i.toNat).state = .free := by
  refine completes_onHub (fun h => if (h.ctx i.toNat).state = .faulted ∧ (h.ctx i.toNat).holdTimer then h.freeCtx i.toNat else h) live ?_
  rw [settle_keeps.ctx, if_pos ⟨state, timer⟩, freeCtx_ctx]
  rfl

theorem tunnelReopen_completes {i : Byte} (live : s.hub.live) (state : (s.hub.ctx i.toNat).state = .faulted)
    (role : (s.hub.ctx i.toNat).role = .opener) (timer : (s.hub.ctx i.toNat).reopenTimer = true)
    (own : (s.hub.ctx i.toNat).shadow = false) (alone : (s.hub.ctx i.toNat).command = none) (steady : s.hub.plan.pending = none)
    (fog : s.hub.inFog = false) (plain : (s.hub.ctx i.toNat).isSealed = false)
    (port : (s.hub.ctx i.toNat).portA = s.hub.targetPort (s.hub.ctx i.toNat).farTarget)
    (sys : s.hub.sysOpen (s.hub.ctx i.toNat).portA = true)
    (bound : s.hub.bindOk i.toNat (s.hub.ctx i.toNat).kind (s.hub.ctx i.toNat).localBind (s.hub.ctx i.toNat).maxSeg = true)
    (fits : s.hub.admits i.toNat (s.hub.ctx i.toNat) = true) :
    Completes (.tunnelReopen i) s fun h =>
      (h.ctx i.toNat).state = .opening ∧ (h.ctx i.toNat).openTimer = true ∧ (h.ctx i.toNat).reopenTimer = false := by
  let g := s.hub.tunEvent Ev.tunnelReopen i.toNat .faulted
  have alike : opensAlike i.toNat g s.hub := fire_opensAlike (by decide)
  have ctx : g.ctx i.toNat = s.hub.ctx i.toNat := tunEvent_keeps.ctx
  have target : g.targetPort (s.hub.ctx i.toNat).farTarget = s.hub.targetPort (s.hub.ctx i.toNat).farTarget :=
    targetPort_congr alike.mode (tunEvent_keeps .moor (by decide)) (tunEvent_keeps .pair (by decide))
  obtain ⟨g1, opens, -, -⟩ := g.openStart_admitted (o := none) i.isLt (by rw [ctx, plain]) (by rw [ctx, port, target])
    (by rw [ctx, bindOk_alike alike, bound]) (by rw [ctx, admits_alike alike ⟨rfl, rfl, rfl, rfl, rfl, rfl⟩ i.isLt, fits])
  obtain ⟨opening, runs, done, -⟩ := (g1.admitted i.toNat).openSend_ctx (i := i.toNat)
  refine completes_onHub (fun h => h.tunnelReopen i.toNat) live ?_
  have due : s.hub.tunnelReopen i.toNat = (g1.admitted i.toNat).openSend i.toNat :=
    (if_pos ⟨state, role, timer, by simp [own], by simp [alone], by simp [steady], by simp [fog], by rw [← port, sys]⟩).trans opens
  rw [due, settle_keeps.ctx]
  exact ⟨opening, runs, done⟩

/-- Settles O21: each command passes its checks by the hypotheses of its clause; what its operation and each timer's leave of the context
is read off the operation, and the checks of an opening find after the acceptance, or after the event, what they would have found before. -/
theorem tunnelCommandsOpenCloseAndFreeContexts : Obligations.TunnelCommandsOpenCloseAndFreeContexts := by
  refine ⟨?create, ?full, ?opens, ?close, ?destroy, ?modifyClosed, ?modifyOpen, ?openTimeout, ?drainComplete, ?drainLimit, ?hold, ?reopen⟩
  case create => exact fun s req c tag args i => tunnelCreate_completes
  case full => exact fun s req c tag args => tunnelCreate_full
  case opens => exact fun s req c tag args i => tunnelOpen_completes
  case close => exact fun s req c tag args i => tunnelClose_completes
  case destroy => exact fun s req c tag args i => tunnelDestroy_completes
  case modifyClosed =>
    intro s req c tag args i ht length hi live role given fog primary stays state alone steady
    refine tunnelModify_issued ht length hi live role given fog primary stays (.inr state) alone fun g a hg => ?_
    obtain ⟨⟨cls, seg, limit, tags, closed⟩, calm⟩ := g.modifyStart_closed (i := i) (args := args) (c := c.val) (by rw [hg.ctx, state])
      (by rw [hg.ctx, steady])
    rw [hg.ctx] at cls seg limit
    exact ⟨cls, seg, limit, tags, closed, hg.answered calm⟩
  case modifyOpen =>
    intro s req c tag args i ht length hi live role given fog primary stays state alone named other
    refine tunnelModify_issued ht length hi live role given fog primary stays (.inl state) alone fun g a hg => ?_
    obtain ⟨modifying, timer, command, cls, kept⟩ := g.modifyStart_open (i := i) (args := args) (c := c.val) (by rw [hg.ctx, state]) named
      (by rwa [hg.ctx])
    exact ⟨modifying, timer, command, cls, hg.busy kept⟩
  case openTimeout => exact fun s i => openTimeout_completes
  case drainComplete => exact fun s i => drainComplete_completes
  case drainLimit => exact fun s i => drainLimit_completes
  case hold => exact fun s i => respFaultHold_completes
  case reopen => exact fun s i => tunnelReopen_completes

end Clauses

end Sys2Proof.Machine

/-!
SUPPORT. Plans (chapter 6): what arming a switch, a plan block that arrives, a switch that takes effect and the end of a window leave of the
plan state, and which control blocks leave with them.

`Elab.async` is off for the reason the frames give.
-/

namespace Sys2Proof.Machine.Hub

set_option Elab.async false

section Operations

variable {h a b g : Hub} {p q n plan eff seq kind active next origin : Nat} {block : Bytes}

/-! ### Links by their direction (R18, R201) -/

theorem keeps.running {l : List Part} (hab : a.keeps b l) (hl : Part.links ∉ l := by decide) : a.running p = b.running p := by
  rw [Hub.running, link_congr (hab .links hl), Hub.running]

theorem role_congr (hm : a.mode = b.mode) : a.role = b.role := by rw [role, hm, role]

/-- Which links lead downstream, the modes and the links alone decide. -/
theorem keeps.downLinks {l : List Part} (hab : a.keeps b l) (hl : ∀ x ∈ [Part.mode, .lines, .links], x ∉ l := by decide) :
    a.downLinks = b.downLinks := by
  have mode : a.mode = b.mode := hab.mode fun x hx => hl x (by simp only [List.mem_cons] at hx ⊢; tauto)
  have upEnd : a.upEnd = b.upEnd := funext fun p => by simp only [Hub.upEnd, facesUp, role_congr mode]
  have running : a.running = b.running := funext fun p => hab.running (hl _ (by simp))
  rw [Hub.downLinks, runningPorts, upEnd, running, Hub.downLinks, runningPorts]

theorem hubsBelow_congr (hd : a.downLinks = b.downLinks) (hp : a.plan = b.plan) : a.hubsBelow = b.hubsBelow := by
  rw [hubsBelow, hd, hp, hubsBelow]

/-! ### Plan blocks that leave (R200) -/

theorem sentBlock.mono (hs : b.sentBlock g p block) (hab : b.out <:+ a.out) (hg : h.out <:+ g.out) : a.sentBlock h p block := by
  obtain ⟨n, sent⟩ := hs
  exact ⟨n, sent.mono hab hg⟩

theorem planSend_sentBlock {zero : Bool} {ports : List Nat} (hq : q ∈ ports) :
    ∀ {h : Hub}, (h.planSend block zero ports).sentBlock h q block := by
  induction ports with
  | nil => simp at hq
  | cons p t ih =>
    intro h
    rcases List.mem_cons.1 hq with rfl | later
    · exact ⟨_, blockOn_gave.mono (planSend_calm t).out (List.suffix_refl _)⟩
    · exact (ih later).mono (List.suffix_refl _) blockOn_calm.out

theorem planSend_plan {zero : Bool} {ports : List Nat} : (h.planSend block zero ports).plan = h.plan :=
  planSend_keeps ports h .plan (by decide)

/-! ### Arming (R201, R203) -/

/-- A switch armed is the pending one; it is late where its superframe is not ahead. -/
theorem planArm_plan : (h.planArm plan eff seq).plan =
    { h.plan with
      pending := some (plan, eff, seq), switchSeq := seq, lastArmed := some (seq, eff)
      late := if sfAhead eff h.links.sf then none else some h.links.sf } := by
  unfold planArm
  split <;> simp [planLate]

theorem planQueue_idle (idle : h.plan.pending = none) : h.planQueue plan eff seq = h.planArm plan eff seq := if_pos (by simp [idle])

theorem planQueue_behind (armed : h.plan.pending ≠ none) : (h.planQueue plan eff seq).plan =
    { h.plan with armedNext := h.plan.armedNext ++ [(plan, eff, seq)], lastArmed := some (seq, eff) } := by
  rw [planQueue, if_neg (by simpa using armed)]

theorem planQueue_rootOrigin : (h.planQueue plan eff seq).plan.rootOrigin = h.plan.rootOrigin := by
  by_cases idle : h.plan.pending = none
  · rw [planQueue_idle idle, planArm_plan]
  · rw [planQueue_behind idle]

theorem planQueue_isArmed : (h.planQueue plan eff seq).isArmed eff seq = true := by
  by_cases idle : h.plan.pending = none
  · simp [isArmed, planQueue_idle idle, planArm_plan]
  · simp [isArmed, planQueue_behind idle]

theorem planAck_plan : (h.planAck plan eff seq).plan = h.plan := planAck_keeps .plan (by decide)

/-- The next switch that waits is the pending one (R201). -/
theorem planNext_plan : h.planNext.plan.pending = (h.plan.armedNext.head?.or h.plan.pending) ∧
    h.planNext.plan.activePlan = h.plan.activePlan ∧ h.planNext.plan.lastSwitchSf = h.plan.lastSwitchSf ∧
      h.planNext.plan.acks = h.plan.acks := by
  unfold planNext
  split
  next w t waits => simp [planArm_plan, waits]
  next none_ => simp [none_]

/-! ### PLAN_SWITCH (R199) -/

/-- The hub once PLAN_SWITCH has armed its switch, before it is announced. -/
def planOrdered (h : Hub) (plan lead c : Nat) : Hub :=
  let g := h.planArm plan ((h.links.sf + (if lead = 0 then h.val Od.planPlanLead else lead)) % 2 ^ 32) ((h.plan.switchSeq + 1) % 256)
  { g with plan := { g.plan with command := some c, acks := [], announceLeft := if h.mode.active = .bench then 0 else 2 } }

/-- Beyond arming the switch, PLAN_SWITCH to another plan only announces it. -/
theorem planStart_keeps_planOrdered {lead c : Nat} (other : plan ≠ h.plan.activePlan) :
    (h.planStart plan lead c).keeps (h.planOrdered plan lead c) [.out, .lanes] := by
  rw [planStart, if_neg other]
  simp only [decide_eq_true_eq]
  exact ite_keeps .refl (planSend_keeps _ _)

theorem planOrdered_keeps {lead c : Nat} : (h.planOrdered plan lead c).keeps h [.od, .regs, .evt, .plan, .pwr] :=
  withPlan_keeps.after (b := h.planArm plan _ _) planArm_keeps

theorem planOrdered_plan {lead c : Nat} : (h.planOrdered plan lead c).plan.pending =
      some (plan, (h.links.sf + (if lead = 0 then h.val Od.planPlanLead else lead)) % 2 ^ 32, (h.plan.switchSeq + 1) % 256) ∧
    (h.planOrdered plan lead c).plan.command = some c ∧ (h.planOrdered plan lead c).plan.activePlan = h.plan.activePlan := by
  simp only [planOrdered, planArm_plan, and_self]

/-! ### STATUS and ANNOUNCE on the port followed (R201) -/

/-- The hub with the root's ORIGIN as a plan block gives it. -/
def withRoot (h : Hub) (origin : Nat) : Hub := { h with plan := { h.plan with rootOrigin := origin } }

/-- The hub once it has armed and acknowledged a switch that a plan block announces. -/
def armedBy (h : Hub) (origin next eff seq : Nat) : Hub := ((h.withRoot origin).planQueue next eff seq).planAck next eff seq

theorem armedBy_keeps : (h.armedBy origin next eff seq).keeps h [.out, .od, .regs, .evt, .lanes, .plan, .pwr] :=
  planAck_keeps.after (planQueue_keeps.after (withPlan_keeps.within))

/-- Arming by a block takes back nothing that was given to the outside. -/
theorem armedBy_calm : (h.armedBy origin next eff seq).calm h := by
  have acks {g : Hub} : (g.planAck next eff seq).calm g := by
    unfold planAck
    split
    · exact planSend_calm _
    · exact .refl
  exact acks.trans (planQueue_keeps.calm.trans withPlan_calm)

theorem armedBy_plan : (h.armedBy origin next eff seq).plan = ((h.withRoot origin).planQueue next eff seq).plan := planAck_plan

/-- With none pending the switch is armed at once. -/
theorem armedBy_idle (idle : h.plan.pending = none) :
    (h.armedBy origin next eff seq).plan.pending = some (next, eff, seq) ∧ (h.armedBy origin next eff seq).plan.switchSeq = seq := by
  rw [armedBy_plan, planQueue_idle (show (h.withRoot origin).plan.pending = none from idle), planArm_plan]
  exact ⟨rfl, rfl⟩

/-- Behind a pending switch it waits. -/
theorem armedBy_behind (armed : h.plan.pending ≠ none) : (h.armedBy origin next eff seq).plan.pending = h.plan.pending ∧
    (h.armedBy origin next eff seq).plan.armedNext = h.plan.armedNext ++ [(next, eff, seq)] := by
  rw [armedBy_plan, planQueue_behind (show (h.withRoot origin).plan.pending ≠ none from armed)]
  exact ⟨rfl, rfl⟩

theorem armedBy_rootOrigin : (h.armedBy origin next eff seq).plan.rootOrigin = origin := by
  rw [armedBy_plan, planQueue_rootOrigin, withRoot]

theorem armedBy_isArmed : (h.armedBy origin next eff seq).isArmed eff seq = true := by
  rw [isArmed, armedBy_plan]
  exact planQueue_isArmed

/-- A switch that a block finds pending, and that the hub has neither armed nor armed last, is armed; ANNOUNCE goes on. -/
theorem planBlock_of_fresh (follows : h.followPort = some p) (fresh : h.isArmed eff seq = false)
    (last : h.plan.lastArmed ≠ some (seq, eff)) : h.planBlock p kind active next 1 seq eff origin =
      if kind = pkAnnounce then (h.armedBy origin next eff seq).planSend (planBytes pkAnnounce active next 1 0 seq eff origin) false h.downLinks
      else h.armedBy origin next eff seq := by
  have isFresh : (!(h.withRoot origin).isArmed eff seq && decide ((h.withRoot origin).plan.lastArmed ≠ some (seq, eff))) = true := by
    simp only [Bool.and_eq_true, Bool.not_eq_true', decide_eq_true_eq]
    exact ⟨fresh, last⟩
  rw [planBlock, if_neg (not_not.2 follows)]
  extract_lets before h1 isNew h2
  rw [if_pos rfl]
  have armed : h2 = h.armedBy origin next eff seq := if_pos isFresh
  rw [armed, armedBy_isArmed, armedBy_keeps.downLinks]
  simp

/-- STATUS that finds none pending at the root, none being pending here (R201). -/
theorem planBlock_of_none (follows : h.followPort = some p) (idle : h.plan.pending = none) :
    h.planBlock p pkStatus active next 0 seq eff origin =
      if active ≠ h.plan.activePlan then
        ((h.withRoot origin).planArm active ((h.links.sf + 1) % 2 ^ 32) seq).planAck active ((h.links.sf + 1) % 2 ^ 32) seq
      else { h with plan := { h.plan with rootOrigin := origin, switchSeq := seq } } := by
  rw [planBlock, if_neg (not_not.2 follows), if_neg (by decide)]
  exact if_pos ⟨rfl, by simp [idle]⟩

/-! ### ACK (R201) -/

theorem ackBlock_of_root {o : BitVec 48} {e : Nat} (up : h.upEnd p = true) (root : h.followPort = none)
    (pending : h.plan.pending = some (n, e, seq)) (ahead : sfAhead e h.links.sf = true) (new : o ∉ h.plan.acks) :
    h.ackBlock p active next seq eff o.toNat = { h with plan := { h.plan with acks := h.plan.acks ++ [o] } } := by
  have same : BitVec.ofNat 48 o.toNat = o := by simp
  rw [ackBlock, if_neg (by simp [up]), root, pending]
  dsimp only
  rw [same]
  exact if_pos ⟨rfl, ahead, new⟩

theorem ackBlock_of_other (up : h.upEnd p = true) (follows : h.followPort = some q) (running : h.running q = true) :
    h.ackBlock p active next seq eff origin = h.planSend (planBytes pkAck active next 1 0 seq eff origin) false [q] := by
  rw [ackBlock, if_neg (by simp [up]), follows]
  simp [running]

/-! ### COUNT (R17, R201) -/

/-- The hub with HUBS of port p as a COUNT block gives it. -/
def withHubs (h : Hub) (p hubs : Nat) : Hub := { h with plan := { h.plan with hubs := h.plan.hubs.set 0 p hubs } }

/-- The hub with CHAIN_COUNT by the links that run and the hubs below (R17). -/
def chainCounted (h : Hub) : Hub :=
  { h with links := { h.links with chainCount := if h.isRoot then 1 + b2n (h.running 2) + h.hubsBelow else 1 } }

/-- Beyond CHAIN_COUNT, a change of the hubs below only sends COUNT to the links above. -/
theorem countJudge_keeps_chainCounted : (h.countJudge b).keeps h.chainCounted [.out, .lanes] := ite_keeps .refl sendCount_keeps

theorem countBlock_of_down {hubs : Nat} (port : p < 2) (up : h.upEnd p = true) (running : h.running p = true) :
    (h.countBlock p hubs).plan.hubs.get 0 p = hubs ∧ (h.countBlock p hubs).links.chainCount =
      if h.isRoot then 1 + b2n (h.running 2) + (h.countBlock p hubs).hubsBelow else 1 := by
  have counted : (h.countBlock p hubs).keeps (h.withHubs p hubs).chainCounted [.out, .lanes] := by
    rw [countBlock, if_pos ⟨port, up, running⟩]
    exact countJudge_keeps_chainCounted
  have plan : (h.countBlock p hubs).plan = (h.withHubs p hubs).plan := counted .plan (by decide)
  have links : (h.countBlock p hubs).links = (h.withHubs p hubs).chainCounted.links := counted .links (by decide)
  rw [hubsBelow_congr counted.downLinks plan, plan, links]
  exact ⟨Tab.get_set .., rfl⟩

/-! ### What later events and flags leave (R9, R534, R535) -/

/-- A flag that is set stays set when another is. -/
theorem bit_flag_of_bit {m : Entry} {i j : Nat} (set : bit i (h.reg m) = true) : bit i ((h.flag m j).reg m) = true := by
  rw [reg_flag]
  by_cases same : i = j
  · rw [same]
    exact bit_setBit _ _
  · rwa [bit_setBit_ne _ same]

/-- What one source has raised stays raised when another fires. -/
theorem raised.fire {src other : Nat} {data data' : Bytes} (hr : h.raised src data) (hs : src ≠ other) (hl : src ≠ Ev.evtDetailLost)
    (hd : src ≠ Ev.domainChanged) : (h.fire other data').raised src data := by
  unfold Hub.fire fireWith
  extract_lets dom h0 k h2
  have before : h0.raised src data := by
    unfold h0
    split
    · exact raised.queueDetail (h := Hub.count _ _ _) (by simpa [Hub.raised] using hr) hd
    · exact hr
  have queued : k.1.raised src data := raised.queueDetail (h := h0.count other 1) before hs
  split
  · exact before
  · split
    · exact raised.queueDetail (h := h2.count Ev.evtDetailLost 1) queued hl
    · exact queued

/-- The end of a command writes none of the registers but EVT_FLAGS. -/
theorem done_reg {m : Entry} {c status : Nat} {d : Bytes} (hm : m.key ≠ Rg.evtFlags.key) : (h.done c status d).reg m = h.reg m := by
  rw [done]
  split
  · exact reg_congr (finish_regs ..)  _
  · unfold completeAction deliverRecord
    split
    · dsimp only
      split
      · exact fire_reg (h := { h with dm := _ }) hm
      · exact fire_reg (h := { h with dm := _ }) hm
    · rfl

theorem planFlags_ne_evtFlags : Rg.planFlags.key ≠ Rg.evtFlags.key := by decide

/-! ### A switch takes effect (R198, R202, R203) -/

/-- Beyond the plan, its meters and the values deferred, the entry of a plan changes nothing of the plan state (R198). -/
theorem planEnter_plan : ∃ m : Tab Meter, (h.planEnter n).plan = { h.plan with activePlan := n, meters := m, deferred := [] } := by
  unfold planEnter
  extract_lets old meters plan h1
  have demoted : (if n = old then h1 else (List.range 32).foldl (fun h e => h.switchDemotions old n e) h1).keeps h1
      [.od, .regs, .evt, .pwr] := ite_keeps .refl (foldl_keeps (fun _ _ => switchDemotions_keeps) _ .refl)
  exact ⟨h1.plan.meters, demoted .plan (by decide)⟩

/-- The hub once the plan has been entered, before the event (R202). -/
def switchTaken (h : Hub) (n : Nat) : Hub :=
  let g := (h.planEnter n).flag Rg.planFlags 0
  { g with
    plan :=
      { g.plan with
        pending := none, late := none, lastSwitchSf := h.links.sf, announceLeft := 0, acks := [], command := none
        lastAcks := if h.plan.command.isSome then h.plan.acks.length else h.plan.lastAcks } }

/-- The hub once the switch has been raised and the next one has been taken up (R201, R202). -/
def switchRaised (h : Hub) (n : Nat) : Hub :=
  ((h.switchTaken n).fire Ev.planSwitched (u8 h.plan.activePlan ++ u8 n ++ u32 h.links.sf)).planNext

theorem switchRaised_plan : (h.switchRaised n).plan.activePlan = n ∧ (h.switchRaised n).plan.pending = h.plan.armedNext.head? ∧
    (h.switchRaised n).plan.lastSwitchSf = h.links.sf ∧ (h.switchRaised n).plan.acks = [] := by
  obtain ⟨m, entered⟩ := h.planEnter_plan (n := n)
  obtain ⟨pending, active, lastSf, acks⟩ :=
    planNext_plan (h := (h.switchTaken n).fire Ev.planSwitched (u8 h.plan.activePlan ++ u8 n ++ u32 h.links.sf))
  rw [switchRaised, pending, active, lastSf, acks]
  simp [switchTaken, entered]

theorem planNext_planFlags {i : Nat} (set : bit i (h.reg Rg.planFlags) = true) : bit i (h.planNext.reg Rg.planFlags) = true := by
  unfold planNext
  split
  · unfold planArm
    split
    · exact set
    · exact (fire_reg planFlags_ne_evtFlags).symm ▸ bit_flag_of_bit set
  · exact set

theorem switchRaised_planFlags : bit 0 ((h.switchRaised n).reg Rg.planFlags) = true := by
  refine planNext_planFlags ?_
  rw [fire_reg planFlags_ne_evtFlags]
  have flagged : bit 0 (((h.planEnter n).flag Rg.planFlags 0).reg Rg.planFlags) = true := by
    rw [reg_flag]
    exact bit_setBit _ _
  exact flagged

/-- What another source than PLAN_LATE has raised stays raised when the next switch is taken up. -/
theorem raised.planNext {src : Nat} {data : Bytes} (hr : h.raised src data) (hs : src ≠ Ev.planLate) (hl : src ≠ Ev.evtDetailLost)
    (hd : src ≠ Ev.domainChanged) : h.planNext.raised src data := by
  unfold Hub.planNext
  split
  · unfold planArm
    split
    · exact hr
    · exact raised.fire (h := Hub.flag _ _ _) hr hs hl hd
  · exact hr

/-- The event of the switch stands, whatever the next one raises. -/
theorem switchRaised_raised : (h.switchRaised n).raised Ev.planSwitched (u8 h.plan.activePlan ++ u8 n ++ u32 h.links.sf) :=
  raised.planNext (fire_raised (by decide) (by decide)) (by decide) (by decide) (by decide)

/-- Fewer hubs acknowledged the switch than the chain has (R202). -/
def switchShort (h : Hub) : Bool := !decide (h.mode.active = .bench) && decide (h.plan.acks.length < h.links.chainCount - 1)

/-- The hub once the command that armed the switch has ended, where one runs (R202). -/
def switchEnded (h : Hub) (n e : Nat) : Option Nat → Hub
  | none => h.switchRaised n
  | some c => (if h.switchShort then (h.switchRaised n).flag Rg.planFlags 2 else h.switchRaised n).done c
      (if h.switchShort then abFailed 1 else 0) (u8 n ++ u32 e ++ u8 h.plan.acks.length)

theorem planSwitched_of_due {e : Nat} (pending : h.plan.pending = some (n, e, q)) (onTime : h.plan.late = none)
    (due : sfAhead e h.links.sf = false) : h.planSwitched = h.switchEnded n e h.plan.command := by
  rw [planSwitched, pending]
  exact if_neg (by simp [onTime, due])

/-- The end of the command leaves the plan state, and flags at most the acknowledgements that are missing. -/
theorem switchEnded_kept {e : Nat} {command : Option Nat} : (h.switchEnded n e command).plan = (h.switchRaised n).plan ∧
    bit 0 ((h.switchEnded n e command).reg Rg.planFlags) = true := by
  cases command with
  | none => exact ⟨rfl, switchRaised_planFlags⟩
  | some c =>
    rw [switchEnded, done_plan, done_reg planFlags_ne_evtFlags]
    split
    · exact ⟨flag_plan .., bit_flag_of_bit switchRaised_planFlags⟩
    · exact ⟨rfl, switchRaised_planFlags⟩

/-! ### The ends of windows (R189) -/

theorem blindEnd_startup {f : Nat} (on : h.plan.startup = true) (since : h.plan.startupFrom = some f)
    (passed : sfPassed f h.links.sf (h.val Od.planBlindHold) = true) :
    h.blindEnd 0 = ({ h with plan := { h.plan with startup := false, startupFrom := none } } : Hub).colourInForce := by
  rw [blindEnd, if_pos rfl, since]
  exact if_pos ⟨on, passed⟩

theorem blindEnd_swap {f : Nat} (since : h.plan.swapWindow = some f) (passed : sfPassed f h.links.sf (h.val Od.planBlindHold) = true) :
    h.blindEnd 1 = ({ h with plan := { h.plan with swapWindow := none } } : Hub).colourInForce := by
  rw [blindEnd, if_neg (by decide), if_pos rfl, since]
  exact if_pos passed

theorem blindEnd_retrain (port : 2 ≤ n) (on : h.plan.retrain.get 0 (n - 2) ≠ 0)
    (passed : sfPassed (h.plan.retrain.get 0 (n - 2) - 1) h.links.sf (h.val Od.planBlindHold) = true) :
    h.blindEnd n = ({ h with plan := { h.plan with retrain := h.plan.retrain.set 0 (n - 2) 0 } } : Hub).colourInForce := by
  rw [blindEnd, if_neg (by omega), if_neg (by omega)]
  exact if_pos ⟨on, passed⟩

end Operations
end Sys2Proof.Machine.Hub

/-!
SUPPORT. The clauses of the plans (O25): the commands PLAN_SWITCH and METER_COLOUR, the plan blocks, a switch that takes effect, and the ends
of windows.
-/

namespace Sys2Proof.Machine

section Clauses

open Hub

set_option Elab.async false

variable {s : State} {req : Path} {c : Fin 8} {tag : BitVec 16} {args : Bytes} {p : Fin 3} {active next : Fin 8} {seq : Byte} {eff : Word}
  {origin : BitVec 48}

/-! ### PLAN_SWITCH and METER_COLOUR (R199, R209) -/

/-- PLAN_SWITCH that its checks let pass starts. -/
theorem planSwitch_issued {P : Hub → Prop} (ht : s.hub.takes req c 0x0400) (length : args.length = 2) (plan : field args 0 1 < 8)
    (notOne : field args 1 1 ≠ 1) (lead : field args 1 1 ≤ 64) (states : s.hub.planStates = none)
    (hP : ∀ (g : Hub) (a : Access), g.issued s.hub req c 0x0400 tag.toNat args →
      P ((g.planStart (field args 0 1) (field args 1 1) c).keeperLeave a).settle) : Completes (.planSwitch req c tag args) s P := by
  have valid : firstAbort [argLen args 2, (decide (7 < field args 0 1), abArg 4),
      (decide (field args 1 1 = 1 ∨ 64 < field args 1 1), abArg 5)] = none := by
    simp [firstAbort_none, argLen, length, notOne]
    omega
  exact completes_onIssued (tag := tag.toNat) (f := fun h => h.cmdPlanSwitch req c tag.toNat args)
    (fun h => h.planStart (field args 0 1) (field args 1 1) c) ht (length.trans_le (by decide))
    (fun _ => by rw [cmdPlanSwitch]; exact issue_unrefused valid states) hP

theorem planSwitch_arms (ht : s.hub.takes req c 0x0400) (length : args.length = 2) (plan : field args 0 1 < 8)
    (notOne : field args 1 1 ≠ 1) (lead : field args 1 1 ≤ 64) (states : s.hub.planStates = none)
    (other : field args 0 1 ≠ s.hub.plan.activePlan) : Completes (.planSwitch req c tag args) s fun h =>
      h.plan.pending = some (field args 0 1, (s.hub.links.sf + (if field args 1 1 = 0 then s.hub.val Od.planPlanLead else field args 1 1))
        % 2 ^ 32, (s.hub.plan.switchSeq + 1) % 256) ∧ h.plan.command = some c.val ∧ h.plan.activePlan = s.hub.plan.activePlan ∧
        h.busyWith c 0x0400 tag.toNat := by
  refine planSwitch_issued ht length plan notOne lead states fun g a hg => ?_
  have samePlan : g.plan = s.hub.plan := hg.kept .plan (by decide)
  have sameLinks : g.links = s.hub.links := hg.kept .links (by decide)
  have announces := planStart_keeps_planOrdered (h := g) (lead := field args 1 1) (c := c.val) (samePlan ▸ other)
  have armed : (g.planStart (field args 0 1) (field args 1 1) c).plan = _ := announces .plan (by decide)
  obtain ⟨pending, command, active⟩ := planOrdered_plan (h := g) (plan := field args 0 1) (lead := field args 1 1) (c := c.val)
  rw [samePlan, sameLinks, val_congr (hg.kept .od (by decide))] at pending
  have busy := hg.busy (x := a) (l := [.out, .od, .regs, .evt, .lanes, .plan, .pwr]) (announces.after planOrdered_keeps.within)
  rw [settled_plan, armed]
  exact ⟨pending, command, active.trans (congrArg PlanSt.activePlan samePlan), busy⟩

theorem planSwitch_ends (ht : s.hub.takes req c 0x0400) (length : args.length = 2) (plan : field args 0 1 < 8)
    (notOne : field args 1 1 ≠ 1) (lead : field args 1 1 ≤ 64) (states : s.hub.planStates = none)
    (same : field args 0 1 = s.hub.plan.activePlan) : Completes (.planSwitch req c tag args) s fun h =>
      h.plan = s.hub.plan ∧ h.ended c 0x0400 tag.toNat 0 (u8 (field args 0 1) ++ u32 s.hub.links.sf ++ u8 0) := by
  refine planSwitch_issued ht length plan notOne lead states fun g a hg => ?_
  have samePlan : g.plan = s.hub.plan := hg.kept .plan (by decide)
  have sameLinks : g.links = s.hub.links := hg.kept .links (by decide)
  have finishes : g.planStart (field args 0 1) (field args 1 1) c =
      g.finish c 0 (u8 (field args 0 1) ++ u32 s.hub.links.sf ++ u8 0) := by
    rw [planStart, if_pos (samePlan ▸ same), done, if_pos c.isLt, sameLinks]
  have ended := g.finish_ended c 0 (u8 (field args 0 1) ++ u32 s.hub.links.sf ++ u8 0) (by rw [hg.chan])
  rw [hg.chan] at ended
  rw [finishes]
  exact ⟨(finish_plan ..).trans samePlan, settled_ended ended⟩

/-- METER_COLOUR of any of its three actions waits for the boundary. -/
theorem meterColour_waits {i : Instr} {action : Nat} (ht : s.hub.takes req c 0x0401) (outside : s.hub.mode.active ≠ .bench)
    (known : action ≤ 2)
    (hc : exec i s = onCommand 0x0401 req c tag.toNat (u8 action) (fun h => h.cmdMeterColour req c tag.toNat (u8 action)) s) :
    Completes i s fun h => h.plan.colourCommands = s.hub.plan.colourCommands ++ [(c.val, action)] ∧ h.busyWith c 0x0401 tag.toNat ∧
      h.plan.force = s.hub.plan.force := by
  have act : field (u8 action) 0 1 = action := field_port (t := []) (by omega)
  have valid : firstAbort [argLen (u8 action) 1, (decide (2 < action), abArg 4)] = none := by
    simp [firstAbort_none, argLen, u8, leBytes, known]
  have states : firstState [(decide (s.hub.mode.active = .bench), stBench)] = none := by simp [firstState_none, outside]
  refine completes_onIssued (args := u8 action)
    (fun h => { h with plan := { h.plan with colourCommands := h.plan.colourCommands ++ [(c.val, action)] } }) ht
    (show (u8 action).length ≤ 252 by simp [u8, leBytes])
    (fun _ => by rw [cmdMeterColour, act]; exact issue_unrefused valid states) (fun g a hg => ?_) hc
  have samePlan : g.plan = s.hub.plan := hg.kept .plan (by decide)
  have colours : g.plan.colourCommands ++ [(c.val, action)] = s.hub.plan.colourCommands ++ [(c.val, action)] := by rw [samePlan]
  have force : g.plan.force = s.hub.plan.force := by rw [samePlan]
  exact ⟨colours, hg.busy withPlan_keeps, force⟩

/-! ### Plan blocks (R201) -/

/-- A plan block with a good CRC may wake a receiver, and is acted on (R93, R122). -/
theorem completes_onHeard {i : Instr} {port : Nat} {P : Hub → Prop} (f : Hub → Hub) (live : s.hub.live)
    (hP : ∀ x : LanesSt, P (f { s.hub with lanes := x }).settle) (hc : exec i s = onHub (fun h => h.heard port true f) s := by rfl) :
    Completes i s P := by
  refine completes_onHub (fun h => h.heard port true f) live ?_ hc
  obtain ⟨x, woken⟩ := s.hub.rxWakeOn_eq (p := port)
  change P (f (s.hub.rxWakeOn port)).settle
  rw [woken]
  exact hP x

theorem announce_completes (live : s.hub.live) (follows : s.hub.followPort = some p.val)
    (fresh : s.hub.isArmed eff.toNat seq.toNat = false) (last : s.hub.plan.lastArmed ≠ some (seq.toNat, eff.toNat)) :
    Completes (.announce ⟨p, true⟩ active next seq eff origin) s fun h =>
      (s.hub.plan.pending = none → h.plan.pending = some (next.val, eff.toNat, seq.toNat) ∧ h.plan.switchSeq = seq.toNat) ∧
        (s.hub.plan.pending ≠ none → h.plan.pending = s.hub.plan.pending ∧
          h.plan.armedNext = s.hub.plan.armedNext ++ [(next.val, eff.toNat, seq.toNat)]) ∧
        (h.plan.rootOrigin = origin.toNat ∧ ∀ q ∈ s.hub.downLinks,
          h.sentBlock s.hub q (planBytes pkAnnounce active next 1 0 seq.toNat eff.toNat origin.toNat)) := by
  refine completes_onHeard (fun h => h.planBlock p pkAnnounce active next 1 seq.toNat eff.toNat origin.toNat) live fun x => ?_
  let g : Hub := { s.hub with lanes := x }
  have announced := planBlock_of_fresh (h := g) (kind := pkAnnounce) (active := active) (next := next) (origin := origin.toNat) follows
    fresh last
  rw [announced, if_pos rfl]
  refine ⟨?_, ?_, ?_, fun q below => ?_⟩
  · rw [settle_plan, planSend_plan]
    exact armedBy_idle (h := g)
  · rw [settle_plan, planSend_plan]
    exact armedBy_behind (h := g)
  · rw [settle_plan, planSend_plan]
    exact armedBy_rootOrigin
  · exact (planSend_sentBlock below).mono settle_grows.out (armedBy_calm (h := g)).out

theorem status_arms (live : s.hub.live) (follows : s.hub.followPort = some p.val) (idle : s.hub.plan.pending = none)
    (fresh : s.hub.isArmed eff.toNat seq.toNat = false) (last : s.hub.plan.lastArmed ≠ some (seq.toNat, eff.toNat)) :
    Completes (.statusBlock ⟨p, true⟩ active next true seq eff origin) s fun h =>
      h.plan.pending = some (next.val, eff.toNat, seq.toNat) ∧ h.plan.switchSeq = seq.toNat ∧ h.plan.rootOrigin = origin.toNat := by
  refine completes_onHeard (fun h => h.planBlock p pkStatus active next 1 seq.toNat eff.toNat origin.toNat) live fun x => ?_
  let g : Hub := { s.hub with lanes := x }
  rw [planBlock_of_fresh (h := g) follows fresh last, if_neg (by decide), settle_plan]
  obtain ⟨pending, switchSeq⟩ := armedBy_idle (h := g) (origin := origin.toNat) (next := next) (eff := eff.toNat) (seq := seq.toNat) idle
  exact ⟨pending, switchSeq, armedBy_rootOrigin⟩

theorem status_missed (live : s.hub.live) (follows : s.hub.followPort = some p.val) (idle : s.hub.plan.pending = none)
    (other : active.val ≠ s.hub.plan.activePlan) : Completes (.statusBlock ⟨p, true⟩ active next false seq eff origin) s fun h =>
      h.plan.pending = some (active.val, (s.hub.links.sf + 1) % 2 ^ 32, seq.toNat) ∧ h.plan.rootOrigin = origin.toNat := by
  refine completes_onHeard (fun h => h.planBlock p pkStatus active next 0 seq.toNat eff.toNat origin.toNat) live fun x => ?_
  rw [planBlock_of_none (h := { s.hub with lanes := x }) follows idle, if_pos other, settle_plan, planAck_plan, planArm_plan]
  exact ⟨rfl, rfl⟩

theorem status_current (live : s.hub.live) (follows : s.hub.followPort = some p.val) (idle : s.hub.plan.pending = none)
    (same : active.val = s.hub.plan.activePlan) : Completes (.statusBlock ⟨p, true⟩ active next false seq eff origin) s fun h =>
      h.plan.pending = none ∧ h.plan.switchSeq = seq.toNat ∧ h.plan.activePlan = s.hub.plan.activePlan := by
  refine completes_onHeard (fun h => h.planBlock p pkStatus active next 0 seq.toNat eff.toNat origin.toNat) live fun x => ?_
  rw [planBlock_of_none (h := { s.hub with lanes := x }) follows idle, if_neg (not_not.2 same)]
  exact ⟨idle, rfl, rfl⟩

theorem ack_counted {n e : Nat} (live : s.hub.live) (up : s.hub.upEnd p = true) (root : s.hub.followPort = none)
    (pending : s.hub.plan.pending = some (n, e, seq.toNat)) (ahead : sfAhead e s.hub.links.sf = true) (new : origin ∉ s.hub.plan.acks) :
    Completes (.ackBlock ⟨p, true⟩ active next seq eff origin) s fun h =>
      h.plan.acks = s.hub.plan.acks ++ [origin] ∧ h.plan.pending = s.hub.plan.pending := by
  refine completes_onHeard (fun h => h.ackBlock p active next seq.toNat eff.toNat origin.toNat) live fun x => ?_
  rw [ackBlock_of_root (h := { s.hub with lanes := x }) up root pending ahead new]
  exact ⟨rfl, rfl⟩

theorem ack_forwarded {q : Nat} (live : s.hub.live) (up : s.hub.upEnd p = true) (follows : s.hub.followPort = some q)
    (running : s.hub.running q = true) : Completes (.ackBlock ⟨p, true⟩ active next seq eff origin) s fun h =>
      h.plan = s.hub.plan ∧ h.sentBlock s.hub q (planBytes pkAck active next 1 0 seq.toNat eff.toNat origin.toNat) := by
  refine completes_onHeard (fun h => h.ackBlock p active next seq.toNat eff.toNat origin.toNat) live fun x => ?_
  let g : Hub := { s.hub with lanes := x }
  rw [ackBlock_of_other (h := g) up follows running]
  exact ⟨planSend_plan, (planSend_sentBlock (List.mem_singleton_self q)).mono settle_grows.out (List.suffix_refl g.out)⟩

theorem count_completes {hubs : Fin 16} (live : s.hub.live) (port : p.val < 2) (up : s.hub.upEnd p = true)
    (running : s.hub.running p = true) : Completes (.countBlock ⟨p, true⟩ hubs) s fun h =>
      h.plan.hubs.get 0 p = hubs.val ∧ h.links.chainCount = if s.hub.isRoot then 1 + b2n (s.hub.running 2) + h.hubsBelow else 1 := by
  refine completes_onHeard (fun h => h.countBlock p hubs) live fun x => ?_
  exact countBlock_of_down (h := { s.hub with lanes := x }) port up running

theorem count_badCrc {hubs : Fin 16} (live : s.hub.live) : Completes (.countBlock ⟨p, false⟩ hubs) s fun h =>
    (h.link p).ctrlCrc = (s.hub.link p).ctrlCrc + 1 ∧ bit 6 (h.reg (Rg.linkFlags p)) = true ∧ h.plan = s.hub.plan ∧
      h.links.chainCount = s.hub.links.chainCount :=
  completes_onHub (fun h => h.heard p false (fun h => h.countBlock p hubs)) live ⟨s.hub.updLink_ctrlCrc, bit_flag, rfl, rfl⟩

theorem announceRepeat_completes (live : s.hub.live) (left : 0 < s.hub.plan.announceLeft) : Completes .announceRepeat s fun h =>
    h.plan.announceLeft = s.hub.plan.announceLeft - 1 ∧
      ∀ q ∈ s.hub.downLinks, h.sentBlock s.hub q (s.hub.planBlockOf pkAnnounce ownOrigin) := by
  let g : Hub := { s.hub with plan := { s.hub.plan with announceLeft := s.hub.plan.announceLeft - 1 } }
  have repeats : s.hub.announceRepeat = g.planSend (s.hub.planBlockOf pkAnnounce ownOrigin) false s.hub.downLinks := if_neg (by omega)
  refine completes_onHub Hub.announceRepeat live ?_
  rw [repeats]
  refine ⟨?_, fun q below => (planSend_sentBlock below).mono settle_grows.out (List.suffix_refl g.out)⟩
  rw [settle_plan, planSend_plan]

/-! ### A switch takes effect, a window ends (R189, R202) -/

theorem planSwitched_completes {n e q : Nat} (live : s.hub.live) (pending : s.hub.plan.pending = some (n, e, q))
    (onTime : s.hub.plan.late = none) (due : sfAhead e s.hub.links.sf = false) : Completes .planSwitched s fun h =>
      h.plan.activePlan = n ∧ h.plan.pending = s.hub.plan.armedNext.head? ∧ h.plan.lastSwitchSf = s.hub.links.sf ∧ h.plan.acks = [] ∧
        bit 0 (h.reg Rg.planFlags) = true ∧
        (s.hub.plan.command = none → h.raised Ev.planSwitched (u8 s.hub.plan.activePlan ++ u8 n ++ u32 s.hub.links.sf)) := by
  refine completes_onHub Hub.planSwitched live ?_
  obtain ⟨plan, flagged⟩ := switchEnded_kept (h := s.hub) (n := n) (e := e) (command := s.hub.plan.command)
  obtain ⟨active, next, lastSf, acks⟩ := s.hub.switchRaised_plan (n := n)
  rw [planSwitched_of_due pending onTime due, settle_plan, plan]
  refine ⟨active, next, lastSf, acks, flagged, fun none_ => ?_⟩
  rw [none_]
  exact switchRaised_raised

theorem startup_ends {f : Nat} (live : s.hub.live) (on : s.hub.plan.startup = true) (since : s.hub.plan.startupFrom = some f)
    (passed : sfPassed f s.hub.links.sf (s.hub.val Od.planBlindHold) = true) : Completes (.blindWindowEnd 0) s fun h =>
      h.plan.startup = false ∧ h.plan.startupFrom = none ∧ h.plan.reasonsInForce = h.blindReasons := by
  refine completes_onHub (fun h => h.blindEnd 0) live ?_
  rw [blindEnd_startup on since passed]
  exact ⟨rfl, rfl, rfl⟩

theorem swapWindow_ends {f : Nat} (live : s.hub.live) (since : s.hub.plan.swapWindow = some f)
    (passed : sfPassed f s.hub.links.sf (s.hub.val Od.planBlindHold) = true) : Completes (.blindWindowEnd 1) s fun h =>
      h.plan.swapWindow = none ∧ h.plan.reasonsInForce = h.blindReasons := by
  refine completes_onHub (fun h => h.blindEnd 1) live ?_
  rw [blindEnd_swap since passed]
  exact ⟨rfl, rfl⟩

theorem retrainWindow_ends {w : Fin 5} (live : s.hub.live) (port : 2 ≤ w.val) (on : s.hub.plan.retrain.get 0 (w.val - 2) ≠ 0)
    (passed : sfPassed (s.hub.plan.retrain.get 0 (w.val - 2) - 1) s.hub.links.sf (s.hub.val Od.planBlindHold) = true) :
    Completes (.blindWindowEnd w) s fun h => h.plan.retrain.get 0 (w.val - 2) = 0 ∧ h.plan.reasonsInForce = h.blindReasons := by
  refine completes_onHub (fun h => h.blindEnd w) live ?_
  rw [blindEnd_retrain port on passed]
  exact ⟨Tab.get_set .., rfl⟩

/-- Settles O25: each command passes its checks by the hypotheses of its clause, each plan block acts by the port it comes on, and what is
left of the plan state is read off the operations that arm a switch, let it take effect, or close a window. -/
theorem plansSwitchAtTheirSuperframe : Obligations.PlansSwitchAtTheirSuperframe := by
  refine ⟨?arms, ?ends, ?colourClear, ?colourSet, ?colourEnd, ?announce, ?statusArms, ?statusMissed, ?statusCurrent, ?ackCounted,
    ?ackForwarded, ?count, ?countBadCrc, ?announceRepeat, ?switched, ?startup, ?swap, ?retrain⟩
  case arms => exact fun _ _ _ _ _ => planSwitch_arms
  case ends => exact fun _ _ _ _ _ => planSwitch_ends
  case colourClear | colourSet | colourEnd => exact fun _ _ _ _ ht outside => meterColour_waits ht outside (by decide) rfl
  case announce => exact fun _ _ _ _ _ _ _ => announce_completes
  case statusArms => exact fun _ _ _ _ _ _ _ => status_arms
  case statusMissed => exact fun _ _ _ _ _ _ _ => status_missed
  case statusCurrent => exact fun _ _ _ _ _ _ _ => status_current
  case ackCounted => exact fun _ _ _ _ _ _ _ _ _ => ack_counted
  case ackForwarded => exact fun _ _ _ _ _ _ _ _ => ack_forwarded
  case count => exact fun _ _ _ => count_completes
  case countBadCrc => exact fun _ _ _ => count_badCrc
  case announceRepeat => exact fun _ => announceRepeat_completes
  case switched => exact fun _ _ _ _ => planSwitched_completes
  case startup => exact fun _ _ => startup_ends
  case swap => exact fun _ _ => swapWindow_ends
  case retrain => exact fun _ _ => retrainWindow_ends

end Clauses

end Sys2Proof.Machine

/-!
SUPPORT. Tenders (chapter 7). Faults of tunnels, links that go down and ports that step reach the engine: they discard jobs, drop homes and
send messages of the SYSTEM tunnels. None of that fences a Tender, returns one to service, commits a job or clears TENDER_FENCED of
ENG_FLAGS. `Hub.steady` says this of an operation and composes as the frames do: `x_steady.trans y` is operation x after what y says it of,
and there is one lemma for each operation, read off its definition. `Hub.fencedAs` says the first two of it alone.

`Elab.async` is off for the reason the frames give.
-/

namespace Sys2Proof.Machine.Hub

set_option Elab.async false

/-! ### Operations that leave the fences -/

/-- `a` comes after `b` by operations that fence no Tender and return none. -/
structure fencedAs (a b : Hub) : Prop where
  fenced : ∀ t, (a.tender t).fenced = (b.tender t).fenced
  cause : ∀ t, (a.tender t).fenceCause = (b.tender t).fenceCause

/-- Besides, no job is committed, and TENDER_FENCED stays where it is set. -/
structure steady (a b : Hub) : Prop extends toFencedAs : fencedAs a b where
  flagged : bit 0 (b.reg Rg.engFlags) = true → bit 0 (a.reg Rg.engFlags) = true
  commit : a.eng.commit = b.eng.commit

theorem fencedAs.trans {a b c : Hub} (hab : a.fencedAs b) (hbc : b.fencedAs c) : a.fencedAs c :=
  ⟨fun t => (hab.fenced t).trans (hbc.fenced t), fun t => (hab.cause t).trans (hbc.cause t)⟩

theorem steady.refl {a : Hub} : a.steady a := ⟨⟨fun _ => rfl, fun _ => rfl⟩, id, rfl⟩

theorem steady.trans {a b c : Hub} (hab : a.steady b) (hbc : b.steady c) : a.steady c :=
  ⟨hab.toFencedAs.trans hbc.toFencedAs, hab.flagged ∘ hbc.flagged, hab.commit.trans hbc.commit⟩

theorem tender_congr {a b : Hub} {t : Nat} (he : a.eng.tenders = b.eng.tenders) : a.tender t = b.tender t := by rw [tender, he, tender]

/-- An operation that writes neither the Tenders, nor the commits, nor the registers. -/
theorem steady_of_eq {a b : Hub} (ht : a.eng.tenders = b.eng.tenders := by rfl) (hc : a.eng.commit = b.eng.commit := by rfl)
    (hr : a.regs = b.regs := by rfl) : a.steady b where
  fenced _ := congrArg Tender.fenced (tender_congr ht)
  cause _ := congrArg Tender.fenceCause (tender_congr ht)
  flagged := by rw [reg_congr hr]; exact id
  commit := hc

/-- The frame of an operation says so too, where it names neither the engine nor the registers. -/
theorem keeps.steady {a b : Hub} {l : List Part} (hab : a.keeps b l) (hl : ∀ q ∈ [Part.eng, .regs], q ∉ l := by decide) : a.steady b := by
  have eng : a.eng = b.eng := hab .eng (hl _ (by simp))
  exact steady_of_eq (congrArg EngSt.tenders eng) (congrArg EngSt.commit eng) (hab .regs (hl _ (by simp)))

theorem ite_steady {a a' b : Hub} {P : Prop} [Decidable P] (ht : a.steady b) (hf : a'.steady b) : (if P then a else a').steady b := by
  split
  · exact ht
  · exact hf

theorem foldl_steady {α : Type} {f : Hub → α → Hub} {a b : Hub} (hf : ∀ h x, (f h x).steady h) (xs : List α) (hab : a.steady b) :
    (xs.foldl f a).steady b := by
  induction xs generalizing a with
  | nil => exact hab
  | cons x xs ih => exact ih ((hf a x).trans hab)

section Operations

variable {h : Hub} {p n c k e i t w l : Nat}

/-! ### One field of the hub replaced, one cell of a table set -/

/-- A flag of another register. -/
theorem flag_steady {m : Entry} (hm : Rg.engFlags.key ≠ m.key := by decide) : (h.flag m n).steady h :=
  ⟨⟨fun _ => rfl, fun _ => rfl⟩, fun set => by rwa [reg_flag_ne _ _ _ _ hm], rfl⟩

/-- No flag that is set clears one. -/
theorem engFlag_steady : (h.flag Rg.engFlags n).steady h := ⟨⟨fun _ => rfl, fun _ => rfl⟩, bit_flag_of_bit, rfl⟩

/-- A Tender's jobs and counts change, its fence stays. -/
theorem setTender_steady {x : Tender} (hf : x.fenced = (h.tender t).fenced) (hc : x.fenceCause = (h.tender t).fenceCause) :
    (h.setTender t x).steady h where
  fenced u := by
    by_cases same : u = t
    · rw [same, setTender_tender, hf]
    · rw [setTender_tender_ne _ _ _ _ same]
  cause u := by
    by_cases same : u = t
    · rw [same, setTender_tender, hc]
    · rw [setTender_tender_ne _ _ _ _ same]
  flagged := id
  commit := rfl

theorem withWaiting_steady {x : List Job} : ({ h with eng := { h.eng with waiting := x } } : Hub).steady h := steady_of_eq
theorem barrierOff_steady {j : Job} : (h.barrierOff j).steady h := steady_of_eq
theorem dropHomes_steady : (h.dropHomes i).steady h := steady_of_eq
theorem giveHome_steady : (h.giveHome k t).steady h := steady_of_eq

/-! ### Outputs, events and the ends of commands -/

theorem fire_steady {b : Bytes} : (h.fire n b).steady h where
  fenced _ := congrArg Tender.fenced (tender_congr (by rw [fire_eng]))
  cause _ := congrArg Tender.fenceCause (tender_congr (by rw [fire_eng]))
  flagged := by rw [fire_reg (by decide)]; exact id
  commit := by rw [fire_eng]

theorem completeAction_steady {status : Nat} : (h.completeAction c status).steady h := by
  dsimp only [completeAction, deliverRecord]
  split
  · split
    · exact withDm_keeps.steady.trans (fire_steady.trans withDm_keeps.steady)
    · exact fire_steady.trans withDm_keeps.steady
  · exact .refl

theorem done_steady {status : Nat} {b : Bytes} : (h.done c status b).steady h := ite_steady finish_keeps.steady completeAction_steady

theorem doneOpt_steady {o : Option Nat} {status : Nat} {b : Bytes} : (h.doneOpt o status b).steady h := by
  cases o
  · exact .refl
  · exact done_steady

/-! ### SYSTEM messages and answers -/

theorem sysPut_steady {b : Bytes} : (h.sysPut p b).steady h := steady_of_eq
theorem sysOut_steady {m : SysMsg} : (h.sysOut p m).steady h := ite_steady (sysPut_steady.trans emit_keeps.steady) .refl
theorem pairPut_steady {op : Byte} {b : Bytes} : (h.pairPut p op b).steady h := steady_of_eq

theorem answer_steady {r : Path} {status : Abort} {b : Bytes} : (h.answer r status b).steady h := by
  cases r with
  | keeper => exact emit_keeps.steady
  | mailbox => exact (ite_steady withCtl_keeps.steady .refl).trans emit_keeps.steady
  | odap q client =>
    dsimp only [answer]
    split
    · exact ite_steady emit_keeps.steady (steady_of_eq (by simp) (by simp) (by simp))
    · exact steady_of_eq (by simp) (by simp) (by simp)
    · exact emit_keeps.steady
  | system q depth reqId =>
    dsimp only [answer]
    split
    · exact sysOut_steady.trans emit_keeps.steady
    · exact emit_keeps.steady

theorem tunOut_steady {m : TunMsg} : (h.tunOut p m).steady h := ite_steady (sysPut_steady.trans emit_keeps.steady) .refl

theorem tunSend_steady {toResp : Bool} {op : TunOp} : (h.tunSend i toResp op).steady h := tunOut_steady.trans open_keeps.steady

/-! ### The mirror toward a STANDBY (R450, R451) -/

theorem runEnd_steady {x : MirrorEnd} : (h.runEnd x).steady h := by
  cases x with
  | command c status b => exact done_steady
  | write r => exact .trans steady_of_eq answer_steady

theorem mirrorNote_steady {r : MirrorRec} : (h.mirrorNote r).steady h :=
  ite_steady .refl (tally_keeps.steady.trans (pairPut_steady.trans (emit_keeps.steady.trans withPair_keeps.steady)))

theorem mirrorCtx_steady : (h.mirrorCtx i).steady h := mirrorNote_steady

theorem doneMirrored_steady {o : Option Nat} {status : Nat} {b : Bytes} : (h.doneMirrored o status b).steady h := by
  cases o
  · exact .refl
  · exact ite_steady withPair_keeps.steady runEnd_steady

theorem mirrorLost_steady : h.mirrorLost.steady h :=
  ite_steady .refl (fire_steady.trans (doneOpt_steady.trans (foldl_steady (fun _ _ => runEnd_steady) _ withPair_keeps.steady)))

/-! ### The Beacon's bearings and the Lamps -/

theorem driveLamp_steady {x : LampSt} : (h.driveLamp l x).steady h := by
  unfold driveLamp
  extract_lets ball h0 h1
  have h1s : h1.steady h := ite_steady withDm_keeps.steady (mirrorNote_steady.trans withDm_keeps.steady)
  exact ite_steady h1s (emit_keeps.steady.trans h1s)

theorem lampTrigger_steady {cause : Nat} {tunnel : List Nat} : (h.lampTrigger l cause tunnel).steady h := by
  unfold lampTrigger
  extract_lets x on y h1
  have h1s : h1.steady h := fire_steady.trans ((flag_steady).trans driveLamp_steady)
  exact ite_steady .refl (ite_steady withDm_keeps.steady (ite_steady .refl (ite_steady (fogOriginate_keeps.steady.trans h1s) h1s)))

theorem lampsTrigger_steady {cause : Nat} {tunnel : List Nat} {pick : Nat → Bool} (ls : List Nat) :
    ∀ {h : Hub}, (h.lampsTrigger cause tunnel pick ls).steady h := by
  induction ls with
  | nil => exact .refl
  | cons l ls ih => exact ih.trans (ite_steady lampTrigger_steady .refl)

theorem lampsAuto_steady (ls : List Nat) : ∀ {h : Hub}, (h.lampsAuto ls).steady h := by
  induction ls with
  | nil => exact .refl
  | cons l ls ih => exact ih.trans (ite_steady (fire_steady.trans driveLamp_steady) .refl)

theorem probesFail_steady : (h.probesFail p).steady h := ite_steady .refl (foldl_steady (fun _ _ => done_steady) _ withBcn_keeps.steady)

theorem bearingsMoved_steady {before : Hub} : (h.bearingsMoved before).steady h := by
  have lost {xs : List Nat} : (xs.foldl (fun h b => h.lampsGuard b) h).steady h :=
    foldl_steady (fun _ _ => lampsTrigger_steady _) _ .refl
  exact ite_steady ((lampsAuto_steady _).trans lost) lost

theorem followDown_steady {down : Bool} : (h.followDown p down).steady h :=
  ite_steady ((bearingsMoved_steady.trans withBcn_keeps.steady).trans probesFail_steady) probesFail_steady

/-! ### The switch and the tunnels' contexts -/

theorem recheckPool_steady : h.recheckPool.steady h := by
  unfold recheckPool
  extract_lets low sw h1 h2
  have h2s : h2.steady h := foldl_steady (fun _ _ => pfcUpdate_keeps.steady.trans tallyHolds_keeps.steady) _ withSw_keeps.steady
  exact ite_steady .refl (ite_steady (fire_steady.trans ((flag_steady).trans h2s)) h2s)

theorem acctBy_steady {enter : Bool} : (h.acctBy i n enter).steady h :=
  .trans (ite_steady (recheckPool_steady.trans recheck_keeps.steady) .refl)
    (ite_steady charge_keeps.steady (credited_keeps.steady.trans setAcct_keeps.steady))

theorem freeWords_steady {cells : List BufCell} : (h.freeWords cells).steady h := by
  refine foldl_steady (fun h x => ?_) _ .refl
  extract_lets h1
  have h1s : h1.steady h := by
    unfold h1
    split
    · exact acctBy_steady
    · exact .refl
  exact ite_steady h1s (freeDamaged_keeps.steady.trans (wordAddr_keeps.steady.trans h1s))

theorem mirrorStale_steady {hd : Nat} : (h.mirrorStale hd).steady h :=
  foldl_steady (fun _ _ => ite_steady (fire_steady.trans ((flag_steady).trans steady_of_eq)) .refl) _ .refl

theorem freeJob_steady {j : Job} {committed : Bool} : (h.freeJob j committed).steady h :=
  ite_steady (ite_steady stageLeave_keeps.steady (acctBy_steady.trans stageLeave_keeps.steady))
    (ite_steady freeWords_steady (stageOutBy_keeps.steady.trans freeWords_steady))

theorem discardJob_steady {j : Job} : (h.discardJob j).steady h := drainCount_keeps.steady.trans (barrierOff_steady.trans freeJob_steady)

theorem discardOn_steady : (h.discardOn i t).steady h :=
  ite_steady .refl (foldl_steady (fun _ _ => discardJob_steady) _ (setTender_steady rfl rfl))

theorem discardJobs_steady : (h.discardJobs i).steady h :=
  foldl_steady (fun _ _ => drainCount_keeps.steady.trans (ite_steady stageLeave_keeps.steady freeWords_steady)) _
    (withWaiting_steady.trans (foldl_steady (fun _ _ => discardOn_steady) _ .refl))

theorem removeCells_steady : (h.removeCells i e).steady h := ite_steady .refl (freeWords_steady.trans setEgress_keeps.steady)

theorem purge_steady : (h.purge i).1.steady h := by
  unfold purge
  extract_lets before n h1 h2 h3
  have h1s : h1.steady h := foldl_steady (fun _ _ => removeCells_steady) _ .refl
  change h3.steady h
  exact updCtx_keeps.steady.trans (discardJobs_steady.trans (updCtx_keeps.steady.trans (freeWords_steady.trans h1s)))

theorem setTunState_steady {st : TunState} : (h.setTunState i st).steady h :=
  eccWrite_keeps.steady.trans (eccWrite_keeps.steady.trans updCtx_keeps.steady)

theorem freeCtx_steady : (h.freeCtx i).steady h :=
  mirrorCtx_steady.trans (mirrorStale_steady.trans (prunePairs_keeps.steady.trans (eccWrite_keeps.steady.trans (setCtx_keeps.steady.trans
    (withSec_keeps.steady.trans (dropHomes_steady.trans (unadmit_keeps.steady.trans (clearMap_keeps.steady.trans
      (ite_steady .refl fire_steady)))))))))

/-! ### What a tunnel leaves at its local port -/

theorem fnDisconnect_steady {f : Nat} : (h.fnDisconnect n f).steady h :=
  ite_steady .refl (foldl_steady (fun _ _ => done_steady) _ (fire_steady.trans ((flag_steady).trans steady_of_eq)))

theorem usbJudge_steady : h.usbJudge.steady h := foldl_steady (fun _ _ => ite_steady fnDisconnect_steady .refl) _ .refl

theorem pfDiscard_steady {x : PfPiece} : (h.pfDiscard w x).steady h :=
  ite_steady (fire_steady.trans ((flag_steady).trans steady_of_eq)) steady_of_eq

theorem pfEmpty_steady : (h.pfEmpty w).steady h := foldl_steady (fun _ _ => pfDiscard_steady) _ steady_of_eq

theorem portLeave_steady : (h.portLeave i).steady h := by
  unfold portLeave
  exact ite_steady blockLeave_keeps.steady (ite_steady pfEmpty_steady (ite_steady withHb_keeps.steady (ite_steady usbJudge_steady .refl)))

/-! ### Tunnels that fault -/

theorem enterFault_steady {cause faultStatus status : Nat} {b : Bytes} : (h.enterFault i cause faultStatus status b).steady h := by
  unfold enterFault
  extract_lets x h1 h2 tun h3 h4 h5 h6 h7 h8
  have h5s : h5.steady h := mirrorCtx_steady.trans (fire_steady.trans (prunePairs_keeps.steady.trans (dropHomes_steady.trans
    (unadmit_keeps.steady.trans (setTunState_steady.trans (withTun_keeps.steady.trans (updCtx_keeps.steady.trans purge_steady)))))))
  have h6s : h6.steady h := ite_steady (portLeave_steady.trans h5s) h5s
  have h7s : h7.steady h := ite_steady ((lampsTrigger_steady _).trans h6s) h6s
  have h8s : h8.steady h := doneMirrored_steady.trans h7s
  exact ite_steady (freeCtx_steady.trans h8s) h8s

theorem faultSend_steady {cause : Nat} : (h.faultSend i cause).steady h :=
  ite_steady .refl (enterFault_steady.trans (ite_steady .refl (ite_steady (tunSend_steady.trans tunSend_steady) tunSend_steady)))

theorem tunLinkDown_steady : (h.tunLinkDown p).steady h := by
  refine foldl_steady (fun h c => ?_) _ .refl
  extract_lets x other h1
  have h1s : h1.steady h := ite_steady .refl (ite_steady tunSend_steady .refl)
  exact enterFault_steady.trans h1s

theorem systemClose_steady : (h.systemClose p).steady h :=
  ite_steady .refl (dropHomes_steady.trans (updCtx_keeps.steady.trans (updLink_keeps.steady.trans purge_steady)))

/-! ### Links and ports that go down -/

theorem swapTell_steady {ports : List Nat} {op epoch sf kind : Nat} : (h.swapTell ports op epoch sf kind).steady h :=
  foldl_steady (fun _ _ => ite_steady (ite_steady (tally_keeps.steady.trans (pairPut_steady.trans emit_keeps.steady)) .refl) .refl) _ .refl

theorem swapDecide_steady : h.swapDecide.steady h := by
  unfold swapDecide
  split
  · exact ite_steady (swapTell_steady.trans withPair_keeps.steady) .refl
  · exact .refl

theorem swapLose_steady : (h.swapLose p).steady h := by
  unfold swapLose
  split
  · exact ite_steady (swapDecide_steady.trans withPair_keeps.steady) .refl
  · exact .refl

theorem linkDrop_steady {cause : Nat} : (h.linkDrop p cause).steady h := by
  unfold linkDrop
  extract_lets x was cells h1 plan h2 h3 words h4 h5 h6 h7
  have h3s : h3.steady h := countJudge_keeps.steady.trans (fire_steady.trans steady_of_eq)
  have h4s : h4.steady h := (ite_steady (lampsTrigger_steady _) .refl).trans (discardPairsOn_keeps.steady.trans
    (tunLinkDown_steady.trans (tally_keeps.steady.trans (systemClose_steady.trans (freeWords_steady.trans h3s)))))
  have h6s : h6.steady h := swapLose_steady.trans (followDown_steady.trans (fogOriginate_keeps.steady.trans h4s))
  have h7s : h7.steady h := ite_steady (mirrorLost_steady.trans h6s) h6s
  exact ite_steady .refl (ite_steady h3s (ite_steady (withPair_keeps.steady.trans h7s) h7s))

theorem linkDown_steady {cause : Nat} : (h.linkDown p cause).steady h := by
  unfold linkDown
  extract_lets h1 h2
  have h2s : h2.steady h := ite_steady (linkAgain_keeps.steady.trans (linkDrop_steady.trans linkDrop_steady)) linkDrop_steady
  exact ite_steady h2s (linkAgain_keeps.steady.trans h2s)

end Operations
end Sys2Proof.Machine.Hub

/-!
SUPPORT. Jobs on Tenders and cells in their slots (chapters 6 and 7): what dispatch, start, end, steal, commit and the scheduler leave of the
Tenders, of the commits and of the queues of an egress.

`Elab.async` is off for the reason the frames give.
-/

namespace Sys2Proof.Machine

set_option Elab.async false
namespace Hub

section Operations

variable {h a : Hub} {t : Nat} {j x : Job}

/-! ### Dispatch (R216, R217) -/

/-- `g` has of `h` what waits and the tickets issued, and job j with its ticket PENDING on Tender t besides. -/
structure queued (g h : Hub) (t : Nat) (j : Job) : Prop where
  waiting : g.eng.waiting = h.eng.waiting
  issue : g.eng.issue = h.eng.issue
  job : ∃ x ∈ (g.tender t).jobs, x.ctx = j.ctx ∧ x.encap = j.encap ∧ x.state = .pending ∧ x.ticket = j.ticket

theorem enqueueJob_queued (he : a.eng = h.eng) (hc : x.ctx = j.ctx) (hd : x.encap = j.encap) (hk : x.ticket = j.ticket) :
    (a.enqueueJob t x).queued h t j where
  waiting := show a.eng.waiting = _ by rw [he]
  issue := show a.eng.issue = _ by rw [he]
  job := ⟨{ x with state := .pending }, by simp [enqueueJob], hc, hd, rfl, hk⟩

theorem dispatchEncap_queued : (h.dispatchEncap t j).queued h t j := by
  unfold dispatchEncap
  extract_lets i x l n h1
  have staged : h1.keeps h [.out, .od, .sw] := ite_keeps .refl (stageInBy_keeps.trans stageInBy_keeps)
  have kept : ((h1.acctBy (encapAccount j.ingress x.cls) n true).updCtx i fun y => { y with txTseq := (y.txTseq + n) % 4096 }).keeps h
      [.out, .od, .regs, .evt, .links, .tun, .sw, .pwr] := updCtx_keeps.after (acctBy_keeps.after staged.within)
  exact enqueueJob_queued (kept .eng (by decide)) rfl rfl rfl

theorem dispatchDecap_queued : (h.dispatchDecap t j).queued h t j := by
  unfold dispatchDecap
  extract_lets e
  have charged : (if e = 32 then h else h.stageOutBy e j.seg.data.length true).keeps h [.sw] := ite_keeps .refl stageOutBy_keeps
  exact enqueueJob_queued (charged .eng (by decide)) rfl rfl rfl

end Operations
end Hub

theorem takeWaiting_direction {i : Nat} {encap : Bool} {j : Job} {l : List Job} (ht : (takeWaiting i encap l).1 = some j) :
    j.ctx = i ∧ j.encap = encap := by
  induction l with
  | nil => simp [takeWaiting] at ht
  | cons x l ih =>
    rw [takeWaiting] at ht
    split at ht
    next taken =>
      cases ht
      exact taken
    next => exact ih ht

namespace Hub

section Operations

variable {h : Hub} {t i : Nat} {j : Job} {encap : Bool} {rest : List Job}

/-- The oldest waiting segment of a direction goes: the tickets of the direction count on, and its job has the one that was next. -/
theorem dispatch_goes (oldest : takeWaiting i encap h.eng.waiting = (some j, rest))
    (fits : encap = false ∨ j.seg.data.length + h.safetyExtra i ≤ (h.ctx i).maxSeg) (target : h.targetOf j = some t)
    (may : h.mayDispatch j = true) :
    (h.dispatch i encap).queued
      { h with
        eng := { h.eng with
          waiting := rest, issue := h.eng.issue.set 0 (dirKey i encap) (trunc 16 (h.eng.issue.get 0 (dirKey i encap) + 1)) } }
      t { j with ticket := h.eng.issue.get 0 (dirKey i encap) } := by
  have short : ¬(encap = true ∧ (h.ctx i).maxSeg < j.seg.data.length + h.safetyExtra i) := by
    rintro ⟨rfl, long⟩
    exact absurd (fits.resolve_left Bool.noConfusion) (by omega)
  simp only [dispatch, oldest, target, may, if_neg short]
  cases encap
  · exact dispatchDecap_queued
  · exact dispatchEncap_queued

end Operations
end Hub

section Jobs

variable {l : List Job} {k : Nat} {f : Job → Job} {j : Job}

/-! ### The jobs of a queue -/

theorem nextJob_lt (hn : nextJob l = some k) : k < l.length := by
  unfold nextJob at hn
  split at hn
  next pinned =>
    cases hn
    exact (List.findIdx?_eq_some_iff_getElem.1 pinned).1
  next => exact (List.findIdx?_eq_some_iff_getElem.1 hn).1

theorem mem_setJob (hj : j ∈ setJob l k f) : ∃ x ∈ l, j = f x ∨ j = x := by
  obtain ⟨n, hn, rfl⟩ := List.mem_mapIdx.1 hj
  refine ⟨l[n], List.getElem_mem hn, ?_⟩
  by_cases at_ : n = k
  · exact .inl (if_pos at_)
  · exact .inr (if_neg at_)

theorem setJob_mem (hk : k < l.length) : f l[k] ∈ setJob l k f := List.mem_mapIdx.2 ⟨k, hk, if_pos rfl⟩

theorem busy_iff {x : Tender} : x.busy = true ↔ ∃ j ∈ x.jobs, j.state = .running := by simp [Tender.busy]

end Jobs

namespace Hub

section Operations

variable {h : Hub} {t k : Nat}

/-! ### The running job reads its segment in staging (R263) -/

theorem readStaging_sound (sound : ∀ j ∈ (h.tender t).jobs, j.state = .running → j.damage = 0) : h.readStaging t = h := by
  have noneDamaged : (h.tender t).jobs.find? (fun j => decide (j.state = .running) && decide (j.damage ≠ 0)) = none := by
    simp only [List.find?_eq_none, Bool.and_eq_true, decide_eq_true_eq, not_and, not_not]
    exact sound
  simp only [readStaging, noneDamaged]

/-- A word that can be corrected changes no job but by its damage. -/
theorem readStaging_corrects (light : ∀ j ∈ (h.tender t).jobs, j.state = .running → j.damage ≤ 2) :
    ((h.readStaging t).tender t).stolenIn = (h.tender t).stolenIn ∧ ((h.readStaging t).tender t).busy = (h.tender t).busy ∧
      ∀ u, u ≠ t → (h.readStaging t).tender u = h.tender u := by
  unfold readStaging
  extract_lets x
  split
  next => exact ⟨rfl, rfl, fun _ _ => rfl⟩
  next j found =>
    have running := List.find?_some found
    simp only [Bool.and_eq_true, decide_eq_true_eq] at running
    extract_lets h1
    rw [if_pos (light j (List.mem_of_find?_eq_some found) running.1)]
    have corrected (u : Nat) : (h1.eccCorrected 2).tender u = h1.tender u :=
      tender_congr (congrArg EngSt.tenders (eccCorrected_keeps (h := h1) .eng (by decide)))
    refine ⟨by rw [corrected, setTender_tender], ?_, fun u hu => by rw [corrected, setTender_tender_ne _ _ _ _ hu]⟩
    rw [corrected, setTender_tender, Tender.busy, Tender.busy, List.any_map]
    congr 1
    funext y
    by_cases same : y = j
    · simp [same]
    · simp [same]

/-! ### Start and end of a job (R214, R215) -/

theorem startJob_starts (idle : (h.tender t).busy = false) (service : h.inService t = true) (next : nextJob (h.tender t).jobs = some k) :
    h.startJob t = h.setTender t { h.tender t with jobs := setJob (h.tender t).jobs k fun j => { j with state := .running } } := by
  simp [startJob, idle, service, next]

theorem finishJob_ends (busy : (h.tender t).busy = true) (stands : ∀ j ∈ (h.tender t).jobs, j.poisoned = false) :
    (h.finishJob t).tender t =
      { h.tender t with
        jobsRun := trunc 64 ((h.tender t).jobsRun + 1)
        jobs := (h.tender t).jobs.map fun k => if k.state = .running then { k with state := .done } else k } := by
  obtain ⟨j, on, running⟩ := busy_iff.1 busy
  obtain ⟨x, found⟩ := Option.isSome_iff_exists.1
    (List.find?_isSome (p := fun j : Job => decide (j.state = .running)) |>.2 ⟨j, on, decide_eq_true running⟩)
  simp [finishJob, found, stands x (List.mem_of_find?_eq_some found)]

end Operations
end Hub

theorem leastBy_mem {m : Nat → Nat} {l : List Nat} {u : Nat} (hl : leastBy m l = some u) : u ∈ l := by
  induction l generalizing u with
  | nil => cases hl
  | cons t l ih =>
    rw [leastBy] at hl
    split at hl
    next => cases hl; exact List.mem_cons_self
    next v later =>
      split at hl
      · cases hl
        exact List.mem_cons_of_mem _ (ih later)
      · cases hl
        exact List.mem_cons_self

theorem otherClusters_ne {t u : Nat} (hu : u ∈ otherClusters t) : u ≠ t := by
  simp only [otherClusters, List.mem_flatMap, List.mem_map, List.mem_range, List.mem_cons, List.not_mem_nil, or_false] at hu
  obtain ⟨d, hd, k, hk, rfl⟩ := hu
  omega

namespace Hub

section Operations

variable {h : Hub} {t u : Nat} {j : Job} {l : List Nat} {remote : Bool}

/-! ### Stealing (R218) -/

/-- The state in which Tender t may steal (R218, R229). -/
abbrev idleThief (h : Hub) (t : Nat) : Prop :=
  h.inService t = true ∧ h.pendingOf t = 0 ∧ (h.tender t).busy = false ∧ h.isPin t = false ∧ h.slotFree t false = true ∧
    h.eng.fenceRaised = false ∧ h.eng.reloading = none

/-- The victim of Tender t within its cluster. -/
def neighbour (h : Hub) (t : Nat) : Option Nat :=
  h.victim (((List.range 8).map (fun k => t / 8 * 8 + k)).filter fun u => decide (u ≠ t))

/-- The victim that STEAL_ENABLE lets Tender t choose. -/
def prey (h : Hub) (t : Nat) (remote : Bool) : Option Nat :=
  if !remote then (if bit 0 (h.val Od.engStealEnable) then h.neighbour t else none)
  else if !bit 1 (h.val Od.engStealEnable) then none
  else if bit 0 (h.val Od.engStealEnable) ∧ h.neighbour t ≠ none then h.neighbour t else h.victim (otherClusters t)

/-- The Tenders once t has taken job j from u. -/
def stolen (h : Hub) (t u : Nat) (j : Job) : Hub :=
  (h.setTender u
      { h.tender u with
        jobs := (h.tender u).jobs.filter fun k => decide (k ≠ j)
        stolenOut := trunc 32 ((h.tender u).stolenOut + 1) }).setTender t
    { h.tender t with jobs := (h.tender t).jobs ++ [{ j with state := .running }], stolenIn := trunc 32 ((h.tender t).stolenIn + 1) }

theorem victim_mem (hv : h.victim l = some u) : u ∈ l ∧ 2 ≤ h.stealable u := by
  simpa using leastBy_mem hv

/-- A victim has a job to steal. -/
theorem victim_job (hv : h.victim l = some u) :
    ∃ j, (h.tender u).jobs.reverse.find? (fun j => decide (j.state = .pending) && !j.pinned) = some j := by
  obtain ⟨-, two⟩ := victim_mem hv
  rw [← Option.isSome_iff_exists, List.find?_isSome]
  obtain ⟨j, on⟩ := List.exists_mem_of_length_pos (show 0 < ((h.tender u).jobs.filter _).length from lt_of_lt_of_le (by decide) two)
  rw [List.mem_filter] at on
  exact ⟨j, List.mem_reverse.2 on.1, on.2⟩

theorem steal_eng (idle : h.idleThief t) (prey : h.prey t remote = some u)
    (job : (h.tender u).jobs.reverse.find? (fun j => decide (j.state = .pending) && !j.pinned) = some j) :
    (h.steal t remote).eng = (h.stolen t u j).eng := by
  obtain ⟨service, nothing, notBusy, notPin, slot, unfenced, noReload⟩ := idle
  have chosen := prey
  unfold Hub.prey neighbour at chosen
  unfold steal
  extract_lets x idle own near v
  have may : idle = true := by simp [idle, x, service, nothing, notBusy, notPin, slot, unfenced, noReload]
  rw [if_neg (by simp [may]), show v = some u from chosen]
  simp only [job]
  rw [tally_eng, tally_eng]
  rfl

/-- STEAL from a victim whose jobs are sound or correctable (R218, R263). -/
theorem stealRun_counts (idle : h.idleThief t) (prey : h.prey t remote = some u) (from_ : h.victim l = some u) (ne : u ≠ t)
    (light : ∀ j ∈ (h.tender u).jobs, j.damage ≤ 2) :
    ((h.stealRun t remote).tender t).stolenIn = trunc 32 ((h.tender t).stolenIn + 1) ∧
      ((h.stealRun t remote).tender u).stolenOut = trunc 32 ((h.tender u).stolenOut + 1) ∧
      ((h.stealRun t remote).tender t).busy = true := by
  obtain ⟨j, job⟩ := victim_job from_
  have eng := congrArg EngSt.tenders (steal_eng idle prey job)
  obtain ⟨-, -, notBusy, -⟩ := idle
  have thief : (h.steal t remote).tender t = (h.stolen t u j).tender t := tender_congr eng
  have robbed : (h.steal t remote).tender u = (h.stolen t u j).tender u := tender_congr eng
  rw [stolen, setTender_tender] at thief
  rw [stolen, setTender_tender_ne _ _ _ _ ne, setTender_tender] at robbed
  have lone : ∀ x ∈ ((h.steal t remote).tender t).jobs, x.state = .running → x.damage ≤ 2 := by
    intro x on running
    rw [thief, List.mem_append, List.mem_singleton] at on
    rcases on with own | rfl
    · exact absurd (busy_iff.2 ⟨x, own, running⟩) (by simp [notBusy])
    · exact light j (List.mem_reverse.1 (List.mem_of_find?_eq_some job))
  obtain ⟨count, busy, others⟩ := readStaging_corrects lone
  refine ⟨?_, ?_, ?_⟩
  · rw [stealRun, count, thief]
  · rw [stealRun, others u ne, robbed]
  · rw [stealRun, busy, thief, busy_iff]
    exact ⟨_, List.mem_append_right _ List.mem_cons_self, rfl⟩

end Operations
end Hub

theorem Meter.decide_passes {m : Meter} {now cir pir cbs pbs b : Nat} {aware preYellow : Bool}
    (filled : b * bucketByte ≤ min (pbs * bucketByte) (m.tp + pir * (now - m.last))) :
    (m.decide now cir pir cbs pbs b aware preYellow).2 ≠ .red := by
  simp only [Meter.decide, if_pos filled, if_neg (Nat.not_lt.2 filled)]
  split_ifs <;> simp

/-- At that instant a bucket that fills at a rate has what a segment still needs (R186). -/
theorem filled_of_release {tp pir last need now : Nat} (rate : 0 < pir) (at_ : last + (need - tp + pir - 1) / pir ≤ now) :
    need ≤ tp + pir * (now - last) := by
  have whole : need - tp ≤ pir * ((need - tp + pir - 1) / pir) := by
    have := Nat.lt_mul_div_succ (need - tp + pir - 1) rate
    rw [Nat.mul_add] at this
    omega
  have later : pir * ((need - tp + pir - 1) / pir) ≤ pir * (now - last) := Nat.mul_le_mul_left _ (by omega)
  omega

namespace Hub

section Operations

variable {h a b : Hub} {t i e : Nat} {j : Job} {encap yellow : Bool} {st : JobState} {d : Bytes} {cells : List Cell}

/-! ### What a commit leaves of the commits (R217) -/

theorem keeps.commit {l : List Part} (hab : a.keeps b l) (hl : Part.eng ∉ l := by decide) : a.eng.commit = b.eng.commit :=
  congrArg EngSt.commit (hab .eng hl)

theorem drainProgress_steady : (h.drainProgress i).steady h :=
  ite_steady (tunSend_steady.trans updCtx_keeps.steady) .refl

theorem settleClass_steady : (h.settleClass i).steady h := by
  unfold settleClass
  extract_lets x
  split
  · exact .refl
  · exact ite_steady (mirrorCtx_steady.trans ((clsReclass_keeps _ _).steady.trans updCtx_keeps.steady)) .refl

theorem afterCommit_steady : (h.afterCommit i).steady h := settleClass_steady.trans drainProgress_steady

theorem unsealSegment_commit : (h.unsealSegment i d).1.eng.commit = h.eng.commit := by
  have failed : (h.sealFailed i).eng.commit = h.eng.commit := by
    unfold sealFailed
    extract_lets n h1
    have h1c : h1.eng.commit = h.eng.commit := (updCtx_keeps.after (bump_keeps.within (l' := [.od, .tun]))).commit
    split
    · exact (fire_steady.commit.trans faultSend_steady.commit).trans h1c
    · exact h1c
  unfold unsealSegment
  extract_lets _ _ _ _ plain
  clear_value plain
  split
  · split
    · exact (tally_keeps.after updCtx_keeps.within : Hub.keeps _ h [.od, .tun]).commit
    · exact failed
  · exact failed

theorem deliver_commit : (h.deliver i d yellow).eng.commit = h.eng.commit := by
  unfold deliver
  extract_lets x e n inj a h0 h1 h2
  have injk : inj.1.keeps h [.sw] := ite_fst_keeps .refl takeInject_keeps
  have h0k : h0.keeps h [.od, .regs, .evt, .sw, .pwr] := ite_keeps injk.within (eccCorrected_keeps.after injk.within)
  have h2k : h2.keeps h [.out, .od, .regs, .tun, .evt, .sw, .pwr] := emit_keeps.after (mirrorSegment_keeps.after (mirrorSegment_keeps.after
    (updCtx_keeps.after h0k.within)))
  split
  · have lost := faultSend_steady (h := ((a.1.freeDamaged 2 a.2 inj.2).eccBad 3 2 a.2).segDiscard i) (i := i) (cause := 6)
    have read : (((a.1.freeDamaged 2 a.2 inj.2).eccBad 3 2 a.2).segDiscard i).keeps h [.draws, .od, .regs, .evt, .tun, .sw, .pwr] :=
      segDiscard_keeps.after (eccBad_keeps.after (freeDamaged_keeps.after (wordAddr_keeps.after injk.within)))
    exact lost.commit.trans read.commit
  · exact portDeliver_keeps.commit.trans h2k.commit

theorem commitDecap_commit : (h.commitDecap i j).eng.commit = h.eng.commit := by
  unfold commitDecap
  have taken := (h.takeCells_keeps (i := i) (skipped := j.skipped) (cells := j.cells)).commit
  generalize h.takeCells i j.skipped j.cells = r at taken
  obtain ⟨h1, _ | s⟩ := r
  · exact taken
  · dsimp only
    split
    · exact taken
    · have opened : (if (h1.ctx i).isSealed then h1.unsealSegment i s else (h1, some s)).1.eng.commit = h.eng.commit := by
        split
        · exact unsealSegment_commit.trans taken
        · exact taken
      generalize (if (h1.ctx i).isSealed then h1.unsealSegment i s else (h1, some s)) = r at opened
      obtain ⟨h2, _ | d⟩ := r
      · exact opened
      · have checked := (h2.safetyCheck_keeps (i := i) (d := d)).commit
        dsimp only
        generalize h2.safetyCheck i d = r at checked
        obtain ⟨h3, _ | out⟩ := r
        · exact checked.trans opened
        · exact deliver_commit.trans (checked.trans opened)

/-- The job of a direction in a state with the next ticket is what it is named for. -/
theorem nextTicket_job (hn : h.nextTicket i encap st = some (t, j)) :
    j ∈ (h.tender t).jobs ∧ j.ctx = i ∧ j.encap = encap ∧ j.state = st := by
  obtain ⟨t', -, found⟩ := List.exists_of_findSome?_eq_some hn
  obtain ⟨j', found, same⟩ := Option.map_eq_some_iff.1 found
  cases same
  have is := List.find?_some found
  simp only [Bool.and_eq_true, decide_eq_true_eq] at is
  obtain ⟨⟨⟨⟨ctx, dir⟩, state⟩, -⟩, -⟩ := is
  exact ⟨List.mem_of_find?_eq_some found, ctx, dir, state⟩

theorem freeTicket_commit : (h.freeTicket t j).eng.commit.get 0 (dirKey j.ctx j.encap) =
    trunc 16 (h.eng.commit.get 0 (dirKey j.ctx j.encap) + 1) := Tab.get_set ..

/-! ### The commit of an encapsulation (R185, R186, R217) -/

/-- The decision of the meter for a job in its turn. -/
abbrev metered (h : Hub) (j : Job) : Hub × Colour := h.meterSegment j.ctx (h.wireLen j.ctx j.seg.data.length) j.seg.yellow

theorem commitMetered_passes (passes : (h.metered j).2 ≠ .red) :
    h.commitMetered t j =
      (((((h.metered j).1.freeTicket t j).freeJob j true).barrierOff j).commitEncap j.ctx j (decide ((h.metered j).2 = .yellow))).afterCommit
        j.ctx := by
  unfold commitMetered
  extract_lets i m
  split
  next red => exact absurd red passes
  next => rfl

/-- A segment that the meter lets pass has left its slot: the direction's next ticket is due. -/
theorem commitMetered_commit (passes : (h.metered j).2 ≠ .red) :
    (h.commitMetered t j).eng.commit.get 0 (dirKey j.ctx j.encap) = trunc 16 (h.eng.commit.get 0 (dirKey j.ctx j.encap) + 1) := by
  have before : (h.metered j).1.eng.commit = h.eng.commit := meterSegment_keeps.commit
  rw [commitMetered_passes passes, afterCommit_steady.commit, commitEncap_keeps.commit, barrierOff_steady.commit, freeJob_keeps.commit,
    freeTicket_commit, before]

/-- A segment that the meter holds keeps its slot. -/
theorem commitMetered_holds (due : j.state ≠ .held) (red : (h.metered j).2 = .red)
    (on : j ∈ (h.tender t).jobs) : (h.commitMetered t j).eng.commit = h.eng.commit ∧
      ∃ x ∈ ((h.commitMetered t j).tender t).jobs, x.ticket = j.ticket ∧ x.state = .held := by
  have before : (h.metered j).1.eng = h.eng := meterSegment_keeps .eng (by decide)
  unfold commitMetered
  extract_lets i m
  rw [show m.2 = .red from red]
  simp only [if_neg due]
  have listed : j ∈ (m.1.tender t).jobs := (tender_congr (congrArg EngSt.tenders before) : m.1.tender t = h.tender t) ▸ on
  refine ⟨tally_keeps.commit.trans (congrArg EngSt.commit before :), { j with state := .held }, ?_, rfl, rfl⟩
  rw [tender_congr (congrArg EngSt.tenders (tally_eng ..)), setTender_tender]
  exact List.mem_map.2 ⟨j, listed, if_pos rfl⟩

/-- The DONE job whose ticket is due, of a context that stands, goes to the meter. -/
theorem jobCommit_metered (due : h.nextTicket i true .done = some (t, j)) (handle : j.handle = h.handle i)
    (stands : (h.ctx i).state ≠ .free) : h.jobCommit i true = h.commitMetered t j := by simp [jobCommit, due, handle, stands]

/-! ### The cells of a committed segment -/

theorem egress_congr (he : a.plan.egresses = b.plan.egresses) : a.egress e = b.egress e := by rw [egress, he, egress]

theorem keeps.egress {l : List Part} (hab : a.keeps b l) (hl : Part.plan ∉ l := by decide) : a.egress e = b.egress e :=
  egress_congr (congrArg PlanSt.egresses (hab .plan hl))

theorem meterSegment_egress {l : Nat} {preYellow : Bool} : (h.meterSegment i l preYellow).1.egress e = h.egress e := by
  unfold meterSegment
  split <;> rfl

/-- The cells that wait at an egress, each with its context. -/
def waits (h : Hub) (e : Nat) : List (Nat × Cell) := (h.egress e).queue.map fun b => (b.ctx, b.cell)

theorem keeps.waits {l : List Part} (hab : a.keeps b l) (hl : Part.plan ∉ l := by decide) : a.waits e = b.waits e := by
  rw [Hub.waits, hab.egress hl, Hub.waits]

theorem queueCell_waits {x : BufCell} : (h.queueCell e x).waits e = h.waits e ++ [(x.ctx, x.cell)] := by
  rw [queueCell, linkTraffic_keeps.waits, widen_keeps.waits, waits, setEgress_egress, List.map_append]
  rfl

theorem writeCell_cell {cls : Nat} {account : Option Nat} {c : Cell} :
    (h.writeCell i cls account c).2.ctx = i ∧ (h.writeCell i cls account c).2.cell = c := ⟨rfl, rfl⟩

theorem queueCells_waits {cls : Nat} {account : Option Nat} : ∀ {h : Hub}, (cells.foldl (fun h c =>
      (h.writeCell i cls account c).1.queueCell e (h.writeCell i cls account c).2) h).waits e = h.waits e ++ cells.map fun c => (i, c) := by
  induction cells with
  | nil => simp
  | cons c cells ih =>
    intro h
    obtain ⟨ctx, cell⟩ := writeCell_cell (h := h) (i := i) (cls := cls) (account := account) (c := c)
    rw [List.foldl_cons, ih, queueCell_waits, writeCell_keeps.waits, ctx, cell, List.map_cons, List.append_assoc, List.singleton_append]

/-- Of a segment that is neither sealed nor of a SAFETY tunnel, the cells are cut from the segment itself. -/
theorem commitEncap_waits (notSealed : (h.ctx i).isSealed = false) (kind : (h.ctx i).kind ≠ 7) :
    (h.commitEncap i j yellow).waits (h.ctx i).portA =
      h.waits (h.ctx i).portA ++ (cutCells (h.ctx i) yellow (j.seg.data.length + 1) j.tseq true j.seg.data).map fun c => (i, c) := by
  have inserted : h.safetyInsert i j.seg.data = (h, j.seg.data) := if_pos (.inl kind)
  unfold commitEncap
  extract_lets ins sealed_ x cells h1
  have plain : sealed_ = (h, j.seg.data) := by simp [sealed_, ins, inserted, notSealed]
  have h1k : h1.keeps h [.od, .regs, .evt, .sw, .pwr] := by
    unfold h1
    rw [plain]
    exact mirrorSegment_keeps.after tally_keeps.within
  have cut : cells = cutCells x yellow (j.seg.data.length + 1) j.tseq true j.seg.data := by simp only [cells, plain]
  rw [queueCells_waits, h1k.waits, cut]

/-- A segment that the meter finds green leaves its cells at the end of its link's queue. -/
theorem commitMetered_waits (green : (h.metered j).2 = .green)
    (notSealed : (h.ctx j.ctx).isSealed = false) (kind : (h.ctx j.ctx).kind ≠ 7) :
    (h.commitMetered t j).waits (h.ctx j.ctx).portA = h.waits (h.ctx j.ctx).portA ++
      (cutCells (h.ctx j.ctx) false (j.seg.data.length + 1) j.tseq true j.seg.data).map fun c => (j.ctx, c) := by
  have green' : decide ((h.metered j).2 = .yellow) = false := by simp [green]
  rw [commitMetered_passes (by simp [green]), green', afterCommit_keeps.waits]
  have before (e : Nat) : (h.metered j).1.waits e = h.waits e := by
    rw [waits, meterSegment_egress, waits]
  have record : (h.metered j).1.ctx j.ctx = h.ctx j.ctx := meterSegment_keeps.ctx
  generalize (h.metered j).1 = m at before record
  have kept : (((m.freeTicket t j).freeJob j true).barrierOff j).keeps m [.draws, .out, .od, .regs, .evt, .links, .eng, .sw, .pwr] :=
    barrierOff_keeps.after (freeJob_keeps.after freeTicket_keeps.within)
  generalize ((m.freeTicket t j).freeJob j true).barrierOff j = g at kept
  have ctx : g.ctx j.ctx = h.ctx j.ctx := kept.ctx.trans record
  rw [← ctx] at notSealed kind ⊢
  rw [← before, ← kept.waits]
  exact commitEncap_waits notSealed kind

end Operations
end Hub

namespace Hub

section Operations

variable {h : Hub} {e n p i k round reader : Nat} {b : BufCell}

/-! ### Cell slots (R181 to R183) -/

/-- The scheduler changes what it counts, and no queue. -/
theorem serve_queue : ∀ {n c : Nat} {x : Egress}, (h.serve e round n c x).1.queue = x.queue := by
  intro n
  induction n with
  | zero => exact rfl
  | succ n ih =>
    intro c x
    unfold serve
    extract_lets key l d1 c1 key1
    split
    · rfl
    · exact ih

theorem chooseCell_queue : ((h.chooseCell e).1.egress e).queue = (h.egress e).queue := by
  have served (round n c : Nat) : ((h.setEgress e (h.serve e round n c (h.egress e)).1).egress e).queue = (h.egress e).queue := by
    rw [setEgress_egress, serve_queue]
  unfold chooseCell
  split_ifs
  · exact served 0 _ _
  · exact served 1 _ _
  · rfl

theorem popHead_queue : ((h.popHead e i).egress e).queue = dropHead i (h.egress e).queue := by rw [popHead, setEgress_egress]

/-- A sound word is read without a trace (R262). -/
theorem readCell_sound (cell : b.damage = 0) (desc : b.descDamage = 0) : h.readCell reader e b = (h, false) := by
  simp [readCell, cell, desc]

/-- A context that is freed leaves the queues as they are. -/
theorem freeCtx_egress : (h.freeCtx i).egress e = h.egress e := by
  unfold freeCtx
  extract_lets x h1 h2 hd h3
  have h1k : h1.keeps h [.od, .regs, .evt, .pwr] := ite_keeps .refl fire_keeps
  have h2k : h2.egress e = (h1.clearMap i).egress e := (dropHomes_keeps.egress).trans rfl
  rw [mirrorCtx_keeps.egress, mirrorStale_keeps.egress, prunePairs_keeps.egress, eccWrite_keeps.egress, setCtx_keeps.egress,
    withSec_keeps.egress, h2k, clearMap_keeps.egress, h1k.egress]

theorem afterCells_egress : (h.afterCells i).egress e = h.egress e := by
  have transit : ((h.drainProgress i).transitDrained i).egress e = (h.drainProgress i).egress e := by
    unfold transitDrained
    extract_lets x
    split
    · exact freeCtx_egress
    · rfl
  rw [afterCells, settleClass_keeps.egress, transit, drainProgress_keeps.egress]

theorem cellSend_queue : ((h.cellSend p n b).egress p).queue = dropHead b.ctx (h.egress p).queue := by
  unfold cellSend
  extract_lets k sound h1 h2
  have h2k : h2.keeps (h.popHead p b.ctx) [.draws, .out, .od, .regs, .evt, .links, .tun, .sw, .pwr] :=
    mirrorCell_keeps.after (tally_keeps.after (updCtx_keeps.after (updLink_keeps.after (charge_keeps.after
      freeWords_keeps.within))))
  rw [afterCells_egress, groupCell_keeps.egress, h2k.egress, popHead_queue]

theorem gatherCell_keeps_popHead : (h.gatherCell e b).keeps (h.popHead e b.ctx)
    [.draws, .out, .od, .regs, .evt, .links, .tun, .eng, .sw, .pwr] := by
  unfold gatherCell
  extract_lets i b' c h0 before h1 cells total
  have h1k : h1.keeps h0 [.draws, .out, .od, .regs, .evt, .links, .tun, .eng, .sw, .pwr] := ite_keeps gatherDiscard_keeps.within .refl
  exact ite_keeps (segDiscard_keeps.after (updCtx_keeps.after freeWords_keeps.within)) (ite_keeps (gatherDiscard_keeps.after h1k)
    (ite_keeps (gatherDiscard_keeps.after h1k) (ite_keeps (gathered_keeps.after h1k) (updCtx_keeps.after h1k))))

theorem gatherCell_queue : ((h.gatherCell e b).egress e).queue = dropHead b.ctx (h.egress e).queue := by
  rw [gatherCell_keeps_popHead.egress, popHead_queue]

/-- The sound cell that the scheduler chooses leaves, by a link's lane or to be gathered (R182, R214). -/
theorem cellSlot_queue (free : 3 ≤ e ∨ ((h.link e).resend = [] ∧ (h.slotLane e k).isSome = true)) (chosen : (h.chooseCell e).2.1 = some b)
    (cell : b.damage = 0) (desc : b.descDamage = 0) : ((h.cellSlot e k).egress e).queue = dropHead b.ctx (h.egress e).queue := by
  have still := chooseCell_queue (h := h) (e := e)
  unfold cellSlot
  generalize h.chooseCell e = r at chosen still
  obtain ⟨h1, q, excess⟩ := r
  obtain rfl : q = some b := chosen
  rw [← still]
  by_cases link : e < 3
  · obtain ⟨noResend, lane⟩ := free.resolve_left (by omega)
    obtain ⟨n, lane⟩ := Option.isSome_iff_exists.1 lane
    have counted : (if excess then (h1.cellSend e n b).tally 0x0304 e 1 else h1.cellSend e n b).keeps (h1.cellSend e n b) [.od] :=
      ite_keeps tally_keeps .refl
    simp only [if_pos link, if_neg (not_not.2 noResend), lane, readCell_sound cell desc]
    rw [if_neg (by simp), counted.egress, cellSend_queue]
  · have counted : (if excess then (h1.gatherCell e b).tally 0x0304 e 1 else h1.gatherCell e b).keeps (h1.gatherCell e b) [.od] :=
      ite_keeps tally_keeps .refl
    simp only [if_neg link, readCell_sound cell desc]
    rw [if_neg (by simp), afterCells_egress, counted.egress, gatherCell_queue]

end Operations
end Hub

end Sys2Proof.Machine

/-!
SUPPORT. The clauses of jobs and cell slots (O23).

`Elab.async` is off for the reason the frames give.
-/

namespace Sys2Proof.Machine

set_option Elab.async false

section Clauses

open Hub

section Dispatch

variable {s : State} {i t : Nat} {j : Job}

theorem jobDispatch_completes {k : JobTunnel} {encap : Bool} {rest : List Job} (live : s.hub.live) (hi : i = tunnelNumber k)
    (sound : s.hub.tunnelRead 2 i = (s.hub, false)) (first : s.hub.returned i encap = none)
    (oldest : takeWaiting i encap s.hub.eng.waiting = (some j, rest))
    (fits : encap = false ∨ j.seg.data.length + s.hub.safetyExtra i ≤ (s.hub.ctx i).maxSeg)
    (noBlock : encap = false ∨ portCode (s.hub.ctx i).localBind ≠ 0x30) (target : s.hub.targetOf j = some t)
    (may : s.hub.mayDispatch j = true) : Completes (.jobDispatch k encap) s fun h =>
      h.eng.waiting = rest ∧ h.eng.issue.get 0 (dirKey i encap) = trunc 16 (s.hub.eng.issue.get 0 (dirKey i encap) + 1) ∧
      ∃ x ∈ (h.tender t).jobs, x.ctx = i ∧ x.encap = encap ∧ x.state = .pending ∧ x.ticket = s.hub.eng.issue.get 0 (dirKey i encap) := by
  subst hi
  have noCommand : ¬(portCode (s.hub.ctx (tunnelNumber k)).localBind = 0x30 ∧ encap = true) := by
    rintro ⟨block, rfl⟩
    exact noBlock.resolve_left Bool.noConfusion block
  have goes : s.hub.jobDispatch (tunnelNumber k) encap = s.hub.dispatch (tunnelNumber k) encap := by
    simp only [jobDispatch, sound, first, if_neg noCommand]
  obtain ⟨ctx, dir⟩ := takeWaiting_direction (congrArg Prod.fst oldest)
  obtain ⟨waiting, issue, x, on, xctx, xdir, pending, ticket⟩ := dispatch_goes oldest fits target may
  refine completes_onHub (fun h => h.jobDispatch (tunnelNumber k) encap) live ?_
  rw [goes]
  exact ⟨waiting, (congrArg (Tab.get 0 · _) issue).trans (Tab.get_set ..), x, on, xctx.trans ctx, xdir.trans dir, pending, ticket⟩

end Dispatch

section Tenders

variable {s : State} {t : Fin 32} {u : Nat}

theorem jobStart_completes {k : Nat} (live : s.hub.live) (service : s.hub.inService t = true) (idle : (s.hub.tender t).busy = false)
    (sound : ∀ j ∈ (s.hub.tender t).jobs, j.damage = 0) (next : nextJob (s.hub.tender t).jobs = some k) :
    Completes (.jobStart t) s fun h =>
      (h.tender t).jobs = setJob (s.hub.tender t).jobs k (fun j => { j with state := .running }) ∧ (h.tender t).busy = true := by
  have started := startJob_starts idle service next
  have jobs : ((s.hub.startJob t).tender t).jobs = setJob (s.hub.tender t).jobs k fun j => { j with state := .running } := by
    rw [started, setTender_tender]
  have still : s.hub.jobStart t = s.hub.startJob t := by
    refine readStaging_sound fun j on _ => ?_
    rw [jobs] at on
    obtain ⟨x, was, rfl | rfl⟩ := mem_setJob on
    · exact sound x was
    · exact sound _ was
  refine completes_onHub (fun h => h.jobStart t) live ?_
  rw [still]
  have on := setJob_mem (f := fun j => { j with state := .running }) (nextJob_lt next)
  exact ⟨jobs, busy_iff.2 ⟨_, jobs ▸ on, rfl⟩⟩

theorem jobDone_completes (live : s.hub.live) (busy : (s.hub.tender t).busy = true)
    (stands : ∀ j ∈ (s.hub.tender t).jobs, j.poisoned = false) : Completes (.jobDone t) s fun h =>
      ((h.tender t).jobs = (s.hub.tender t).jobs.map fun j => if j.state = .running then { j with state := .done } else j) ∧
      (h.tender t).jobsRun = trunc 64 ((s.hub.tender t).jobsRun + 1) ∧ (h.tender t).busy = false := by
  have ended := finishJob_ends busy stands
  refine completes_onHub (fun h => h.finishJob t) live ?_
  refine ⟨congrArg Tender.jobs ended, congrArg Tender.jobsRun ended, (congrArg Tender.busy ended).trans ?_⟩
  rw [← Bool.not_eq_true, busy_iff]
  rintro ⟨x, on, running⟩
  obtain ⟨y, -, rfl⟩ := List.mem_map.1 on
  split at running
  · cases running
  · contradiction

theorem steal_near_completes (live : s.hub.live) (idle : s.hub.idleThief t) (near : bit 0 (s.hub.val Od.engStealEnable) = true)
    (victim : s.hub.neighbour t = some u) (light : ∀ j ∈ (s.hub.tender u).jobs, j.damage ≤ 2) :
    Completes (.steal t false) s fun h =>
      (h.tender t).stolenIn = trunc 32 ((s.hub.tender t).stolenIn + 1) ∧
      (h.tender u).stolenOut = trunc 32 ((s.hub.tender u).stolenOut + 1) ∧ (h.tender t).busy = true := by
  have prey : s.hub.prey t false = some u := by simp [prey, near, victim]
  obtain ⟨among, -⟩ := victim_mem victim
  have ne : u ≠ t := by simpa using (List.mem_filter.1 among).2
  exact completes_onHub (fun h => h.stealRun t false) live (stealRun_counts idle prey victim ne light)

theorem steal_far_completes (live : s.hub.live) (idle : s.hub.idleThief t) (near : bit 0 (s.hub.val Od.engStealEnable) = false)
    (far : bit 1 (s.hub.val Od.engStealEnable) = true) (victim : s.hub.victim (otherClusters t) = some u)
    (light : ∀ j ∈ (s.hub.tender u).jobs, j.damage ≤ 2) :
    Completes (.steal t true) s fun h =>
      (h.tender t).stolenIn = trunc 32 ((s.hub.tender t).stolenIn + 1) ∧
      (h.tender u).stolenOut = trunc 32 ((s.hub.tender u).stolenOut + 1) ∧ (h.tender t).busy = true := by
  have prey : s.hub.prey t true = some u := by simp [prey, near, far, victim]
  obtain ⟨among, -⟩ := victim_mem victim
  exact completes_onHub (fun h => h.stealRun t true) live (stealRun_counts idle prey victim (otherClusters_ne among) light)

end Tenders

section Commits

variable {s : State} {k : JobTunnel} {i t : Nat} {j : Job}

theorem jobCommit_green_completes (live : s.hub.live) (hi : i = tunnelNumber k) (due : s.hub.nextTicket i true .done = some (t, j))
    (handle : j.handle = s.hub.handle i) (stands : (s.hub.ctx i).state ≠ .free) (notSealed : (s.hub.ctx i).isSealed = false)
    (kind : (s.hub.ctx i).kind ≠ 7)
    (green : (s.hub.meterSegment i (s.hub.wireLen i j.seg.data.length) j.seg.yellow).2 = .green) :
    Completes (.jobCommit k true) s fun h =>
      h.eng.commit.get 0 (dirKey i true) = trunc 16 (s.hub.eng.commit.get 0 (dirKey i true) + 1) ∧
      (h.egress (s.hub.ctx i).portA).queue.map (fun b => (b.ctx, b.cell)) =
        (s.hub.egress (s.hub.ctx i).portA).queue.map (fun b => (b.ctx, b.cell)) ++
          (cutCells (s.hub.ctx i) false (j.seg.data.length + 1) j.tseq true j.seg.data).map fun c => (i, c) := by
  obtain ⟨-, rfl, dir, -⟩ := nextTicket_job due
  have passes : (s.hub.metered j).2 ≠ .red := by simp [green]
  have committed := commitMetered_commit (t := t) passes
  rw [dir] at committed
  refine completes_onHub (fun h => h.jobCommit (tunnelNumber k) true) live ?_
  rw [← hi, jobCommit_metered due handle stands]
  exact ⟨committed, commitMetered_waits green notSealed kind⟩

theorem jobCommit_red_completes (live : s.hub.live) (hi : i = tunnelNumber k) (due : s.hub.nextTicket i true .done = some (t, j))
    (handle : j.handle = s.hub.handle i) (stands : (s.hub.ctx i).state ≠ .free)
    (red : (s.hub.meterSegment i (s.hub.wireLen i j.seg.data.length) j.seg.yellow).2 = .red) :
    Completes (.jobCommit k true) s fun h => h.eng.commit.get 0 (dirKey i true) = s.hub.eng.commit.get 0 (dirKey i true) ∧
      ∃ x ∈ (h.tender t).jobs, x.ticket = j.ticket ∧ x.state = .held := by
  obtain ⟨on, rfl, -, done⟩ := nextTicket_job due
  obtain ⟨commit, held⟩ := commitMetered_holds (by simp [done]) red on
  refine completes_onHub (fun h => h.jobCommit (tunnelNumber k) true) live ?_
  rw [← hi, jobCommit_metered due handle stands]
  exact ⟨congrArg (Tab.get 0 · _) commit, held⟩

theorem jobCommit_decap_completes (live : s.hub.live) (hi : i = tunnelNumber k) (due : s.hub.nextTicket i false .done = some (t, j))
    (handle : j.handle = s.hub.handle i) (stands : (s.hub.ctx i).state ≠ .free) : Completes (.jobCommit k false) s fun h =>
      h.eng.commit.get 0 (dirKey i false) = trunc 16 (s.hub.eng.commit.get 0 (dirKey i false) + 1) := by
  obtain ⟨-, rfl, dir, -⟩ := nextTicket_job due
  have committed := freeTicket_commit (h := s.hub) (t := t) (j := j)
  rw [dir] at committed
  have taken : s.hub.jobCommit j.ctx false =
      ((((s.hub.freeTicket t j).freeJob j false).barrierOff j).commitDecap j.ctx j).afterCommit j.ctx := by
    simp [jobCommit, due, handle, stands]
  have kept : (s.hub.jobCommit j.ctx false).eng.commit = (s.hub.freeTicket t j).eng.commit := by
    rw [taken, afterCommit_steady.commit, commitDecap_commit, barrierOff_steady.commit, freeJob_keeps.commit]
  refine completes_onHub (fun h => h.jobCommit (tunnelNumber k) false) live ?_
  rw [← hi]
  exact (congrArg (Tab.get 0 · _) kept).trans committed

theorem meterRelease_completes {i : Byte} {pir : Nat} (live : s.hub.live) (due : s.hub.nextTicket i.toNat true .held = some (t, j))
    (rate : pir = s.hub.inForce (Od.planPirSend s.hub.plan.activePlan i.toNat)) (positive : 0 < pir)
    (within : charge (s.hub.wireLen i.toNat j.seg.data.length) ≤ s.hub.inForce (Od.planPbsSend s.hub.plan.activePlan i.toNat)) :
    Completes (.meterRelease i) s fun h =>
      h.clock = max s.hub.clock ((s.hub.meter i.toNat).last + (charge (s.hub.wireLen i.toNat j.seg.data.length) * bucketByte -
        (s.hub.meter i.toNat).tp + pir - 1) / pir) ∧
      h.eng.commit.get 0 (dirKey i.toNat true) = trunc 16 (s.hub.eng.commit.get 0 (dirKey i.toNat true) + 1) := by
  obtain ⟨-, ctx, dir, -⟩ := nextTicket_job due
  let g : Hub :=
    { s.hub with
      clock := max s.hub.clock ((s.hub.meter i.toNat).last + (charge (s.hub.wireLen i.toNat j.seg.data.length) * bucketByte -
        (s.hub.meter i.toNat).tp + pir - 1) / pir) }
  have released : s.hub.meterRelease i.toNat = g.commitMetered t j := by
    simp only [meterRelease, due, ← rate, if_neg (Nat.ne_of_gt positive)]
    rfl
  have passes : (g.metered j).2 ≠ .red := by
    have ofTunnel : ¬256 ≤ j.ctx := by have := i.isLt; omega
    rw [metered, meterSegment, if_neg ofTunnel, ctx]
    refine Meter.decide_passes (le_min (Nat.mul_le_mul_right _ within) ?_)
    exact rate ▸ filled_of_release positive (le_max_right ..)
  have committed := commitMetered_commit (t := t) passes
  rw [ctx, dir] at committed
  have clock : (g.commitMetered t j).clock = g.clock := commitMetered_spares .clock (by decide)
  refine completes_onHub (fun h => h.meterRelease i.toNat) live ?_
  rw [released]
  exact ⟨clock, committed⟩

end Commits

theorem cellSlot_completes {s : State} {e : Fin 32} {k : Fin 2} {b : BufCell} (live : s.hub.live)
    (free : 3 ≤ e.val ∨ ((s.hub.link e).resend = [] ∧ (s.hub.slotLane e k).isSome = true)) (chosen : (s.hub.chooseCell e).2.1 = some b)
    (cell : b.damage = 0) (desc : b.descDamage = 0) :
    Completes (.cellSlot e k) s fun h => (h.egress e).queue = dropHead b.ctx (s.hub.egress e).queue :=
  completes_onHub (fun h => h.cellSlot e.val k.val) live (cellSlot_queue free chosen cell desc)

/-- Settles O23: each clause runs one operation of the engine or the switch; what goes on after it, at commit or once a cell has left, neither
commits a job nor writes a queue. -/
theorem jobsRunInTicketOrderOnTenders : Obligations.JobsRunInTicketOrderOnTenders := by
  unfold Obligations.JobsRunInTicketOrderOnTenders
  refine ⟨?dispatch, ?start, ?done, ?green, ?red, ?decap, ?release, ?near, ?far, ?slot⟩
  case dispatch =>
    exact fun _ _ _ _ _ _ _ live hi sound first oldest fits noBlock target may =>
      jobDispatch_completes live hi sound first oldest fits noBlock target may
  case start => exact fun _ _ _ live service idle sound next => jobStart_completes live service idle sound next
  case done => exact fun _ _ live busy stands => jobDone_completes live busy stands
  case green =>
    exact fun _ _ _ _ _ live hi due handle stands notSealed kind _ green =>
      jobCommit_green_completes live hi due handle stands notSealed kind green
  case red => exact fun _ _ _ _ _ live hi due handle stands red => jobCommit_red_completes live hi due handle stands red
  case decap => exact fun _ _ _ _ _ live hi due handle stands => jobCommit_decap_completes live hi due handle stands
  case release => exact fun _ _ _ _ _ live due rate positive _ within => meterRelease_completes live due rate positive within
  case near =>
    exact fun _ _ _ live service nothing idle pin slot fence reload near victim light =>
      steal_near_completes live ⟨service, nothing, idle, pin, slot, fence, reload⟩ near victim light
  case far =>
    exact fun _ _ _ live service nothing idle pin slot fence reload near far victim light =>
      steal_far_completes live ⟨service, nothing, idle, pin, slot, fence, reload⟩ near far victim light
  case slot => exact fun _ _ _ _ live free chosen cell desc => cellSlot_completes live free chosen cell desc

end Clauses

end Sys2Proof.Machine

/-!
SUPPORT. Fences, Tenders that come back, barriers and images (chapter 7): what a fence leaves of the Tenders and of ENG_FLAGS, what brings
Tenders into service, what a barrier that has completed goes on with, and what the check of an image reads.

`Elab.async` is off for the reason the frames give.
-/

namespace Sys2Proof.Machine

set_option Elab.async false

namespace Hub

section Operations

variable {h : Hub} {t cause : Nat} {j : Job}

/-! ### Fences (R223 to R225) -/

theorem enqueueJob_steady : (h.enqueueJob t j).steady h := setTender_steady rfl rfl

theorem redispatch_steady : (h.redispatch t j).steady h := by
  unfold redispatch
  split
  · exact .refl
  · exact enqueueJob_steady.trans (setTender_steady rfl rfl)

theorem redispatchAll_steady : (h.redispatchAll t).steady h := foldl_steady (fun _ _ => redispatch_steady) _ .refl

theorem rehome_steady : (h.rehome t).steady h := foldl_steady (fun _ _ => giveHome_steady) _ .refl

theorem movePins_steady : h.movePins.steady h := by
  unfold movePins
  extract_lets a b now eng h1 h2
  have h2s : h2.steady h := fire_steady.trans (engFlag_steady.trans steady_of_eq)
  exact ite_steady .refl (ite_steady (rehome_steady.trans (rehome_steady.trans h2s)) h2s)

theorem homeless_steady : h.homeless.steady h :=
  foldl_steady (fun _ _ => foldl_steady (fun _ _ => ite_steady giveHome_steady .refl) _ .refl) _ .refl

theorem judgeShort_steady : h.judgeShort.steady h := ite_steady (fire_steady.trans (engFlag_steady.trans steady_of_eq)) steady_of_eq

theorem withCommit_fencedAs {x : Tab Nat} : ({ h with eng := { h.eng with commit := x } } : Hub).fencedAs h := ⟨fun _ => rfl, fun _ => rfl⟩

/-- The discard of a job that cannot be processed commits its ticket; it changes no fence. -/
theorem poison_leaves : (h.poison t j).fencedAs h ∧
    (bit 0 (h.reg Rg.engFlags) = true → bit 0 ((h.poison t j).reg Rg.engFlags) = true) := by
  unfold poison
  extract_lets x k h1 eng h2
  have h1s : h1.steady h := discardJob_steady.trans (setTender_steady rfl rfl)
  have last : (((h2.faultSend j.ctx 6).flag Rg.engFlags 3).fire Ev.jobPoison (u16 j.handle)).steady h2 :=
    fire_steady.trans (engFlag_steady.trans faultSend_steady)
  exact ⟨last.toFencedAs.trans (withCommit_fencedAs.trans h1s.toFencedAs), fun set => last.flagged (h1s.flagged set)⟩

/-- A Tender that is not fenced yet is, with its cause and TENDER_FENCED; what becomes of its jobs changes no fence. -/
theorem fence_fences (was : (h.tender t).fenced = false) : ((h.fence t cause).tender t).fenced = true ∧
    ((h.fence t cause).tender t).fenceCause = cause ∧ bit 0 ((h.fence t cause).reg Rg.engFlags) = true := by
  unfold fence
  extract_lets x run hd back stay n h1 h2 h3 h4
  rw [if_neg (by simp [x, was])]
  let y : Tender := { x with jobs := stay.map back, fenced := true, fenceCause := cause, fenceHandle := hd }
  have h2s : h2.steady (h.setTender t y) := engFlag_steady.trans (tally_keeps.steady.trans (tally_keeps.steady.trans
    (foldl_steady (fun _ _ => discardJob_steady) _ .refl)))
  have h2f : bit 0 (h2.reg Rg.engFlags) = true := bit_flag (n := 0)
  clear_value run
  have h3s : h3.steady h2 := rehome_steady.trans (movePins_steady.trans fire_steady)
  have h4f : h4.fencedAs h2 ∧ bit 0 (h4.reg Rg.engFlags) = true := by
    have kept : h3.fencedAs h2 ∧ bit 0 (h3.reg Rg.engFlags) = true := ⟨h3s.toFencedAs, h3s.flagged h2f⟩
    unfold h4
    cases run with
    | none => exact kept
    | some j =>
      dsimp only
      split
      · obtain ⟨fences, flagged⟩ := poison_leaves (h := h3) (t := t) (j := back j)
        exact ⟨fences.trans kept.1, flagged kept.2⟩
      · exact kept
  have last : (h4.redispatchAll t).judgeShort.steady h4 := judgeShort_steady.trans redispatchAll_steady
  have all : (h4.redispatchAll t).judgeShort.fencedAs (h.setTender t y) := last.toFencedAs.trans (h4f.1.trans h2s.toFencedAs)
  exact ⟨by rw [all.fenced, setTender_tender], by rw [all.cause, setTender_tender], last.flagged h4f.2⟩

theorem notFenced_of_inService (service : h.inService t = true) : (h.tender t).fenced = false := by
  simp only [inService, Bool.and_eq_true, Bool.not_eq_true'] at service
  exact service.1

theorem tenderFault_fences (service : h.inService t = true) : ((h.tenderFault t cause).tender t).fenced = true ∧
    ((h.tenderFault t cause).tender t).fenceCause = cause ∧ bit 0 ((h.tenderFault t cause).reg Rg.engFlags) = true := by
  rw [tenderFault, if_pos service]
  exact fence_fences (notFenced_of_inService service)

end Operations
end Hub

namespace Hub

section Operations

variable {h a b g : Hub} {t c code tag n st : Nat} {args d : Bytes} {req : Path}

/-! ### The engine right after a command was accepted -/

/-- An answer writes no more of the engine than a message that waits to leave. -/
theorem answer_eng {status : Abort} : (h.answer req status d).eng = { h.eng with waiting := (h.answer req status d).eng.waiting } := by
  cases req with
  | keeper => rfl
  | mailbox =>
    dsimp only [answer]
    split <;> rfl
  | odap q client =>
    dsimp only [answer]
    split
    · split
      · rfl
      · simp
    · simp
    · rfl
  | system q depth reqId =>
    dsimp only [answer]
    split
    · unfold sysRespond sysOut
      extract_lets hops
      split <;> rfl
    · rfl

/-- The hub with the engine of another but for what waits. -/
def engineOf (g h : Hub) : Hub := { g with eng := { h.eng with waiting := g.eng.waiting } }

theorem issued.engineOf (hg : g.issued h req c code tag args) : (g.engineOf h).issued h req c code tag args where
  chan := hg.chan
  gave := hg.gave
  kept := withEng_keeps.after hg.kept
  emmc := hg.emmc

theorem engineOf_same (he : g.eng = { h.eng with waiting := g.eng.waiting }) : g.engineOf h = g := by rw [engineOf, ← he]

/-- What a command starts with is the engine as it stood, but for what waits. -/
theorem issue_engineOf {x : CtlSt} {start : Hub → Hub} :
    ({ h with ctl := x } : Hub).issue req c code tag args none none start =
      ({ h with ctl := x } : Hub).issue req c code tag args none none fun g => start (g.engineOf h) := by
  have accepted : ((({ h with ctl := x } : Hub).accept c code tag args).answer req 0 []).engineOf h =
      (({ h with ctl := x } : Hub).accept c code tag args).answer req 0 [] := engineOf_same answer_eng
  simp only [issue, accepted]

theorem keeps.tender {l : List Part} (hab : a.keeps b l) (hl : Part.eng ∉ l := by decide) : a.tender t = b.tender t :=
  tender_congr (congrArg EngSt.tenders (hab .eng hl))

theorem settled_tender {x : Access} : (h.keeperLeave x).settle.tender t = h.tender t := rfl

theorem settled_serviceData {x : Access} : (h.keeperLeave x).settle.serviceData = h.serviceData := rfl

theorem domOn_congr (hp : a.pwr = b.pwr) : a.domOn n = b.domOn n := by
  have same : a.domain n = b.domain n := by rw [domain, hp, domain]
  rw [domOn, same, domOn]

theorem serviceData_congr (ht : a.eng.tenders = b.eng.tenders) (hp : a.pwr = b.pwr) : a.serviceData = b.serviceData := by
  have same : a.inService = b.inService := funext fun t => by rw [inService, tender_congr ht, domOn_congr hp, inService]
  rw [serviceData, serviceList, same, serviceData, serviceList]

/-- A channel that ran a command, or has ended it, has ended it once Keeper ends it. -/
theorem finish_done (hc : c < 8) (busy : (h.chan c).state ≠ .idle) : ((h.finish c st d).chan c).state = .done := by
  have done := done_chan (status := st) (b := d) hc busy
  rwa [Hub.done, if_pos hc] at done

theorem issued.ends {status : Nat} (hg : g.issued h req c code tag args) (hk : a.chan c = g.chan c) :
    (a.finish c status d).ended c code tag status d := by
  have chan := hk.trans hg.chan
  have ended := a.finish_ended c status d (by rw [chan])
  rwa [chan] at ended

end Operations
end Hub

open Hub in
/-- As `completes_onIssued`, with the engine as it stood but for what waits. -/
theorem completes_onServed {x : Instr} {s : State} {req : Path} {c code tag : Nat} {args : Bytes} {f : Hub → Hub} {P : Hub → Prop}
    (start : Hub → Hub) (ht : s.hub.takes req c code) (hl : args.length ≤ 252)
    (hf : ∀ x : CtlSt, f { s.hub with ctl := x } = ({ s.hub with ctl := x } : Hub).issue req c code tag args none none start)
    (hP : ∀ (g : Hub) (a : Access), g.issued s.hub req c code tag args → g.eng = { s.hub.eng with waiting := g.eng.waiting } →
      P ((start g).keeperLeave a).settle)
    (hc : exec x s = onCommand code req c tag args f s := by rfl) : Completes x s P :=
  completes_onIssued (fun g => start (g.engineOf s.hub)) ht hl (fun y => (hf y).trans issue_engineOf)
    (fun _ a hg => hP _ a hg.engineOf rfl) hc

namespace Hub

section Operations

variable {h a b g : Hub} {t c st p : Nat}

/-! ### TENDER_FENCE (R237, R238) -/

/-- A fence by command runs no discard of a job that cannot be processed: it ends no command. -/
theorem fence_keeps_commanded : (h.fence t 5).keeps h [.draws, .out, .od, .regs, .evt, .links, .tun, .eng, .sw, .pwr] := by
  unfold fence
  extract_lets x run hd back stay n h1 h2 h3 h4
  have h1k : h1.keeps h [.draws, .out, .od, .regs, .evt, .links, .tun, .eng, .sw, .pwr] :=
    foldl_keeps (fun _ _ => discardJob_keeps.within) _ setTender_keeps.within
  have h3k : h3.keeps h [.draws, .out, .od, .regs, .evt, .links, .tun, .eng, .sw, .pwr] :=
    rehome_keeps.after (movePins_keeps.after (fire_keeps.after (flag_keeps.after (tally_keeps.after (tally_keeps.after h1k)))))
  have h4k : h4 = h3 := by
    unfold h4
    clear_value run
    cases run with
    | none => rfl
    | some j => exact if_neg (by omega)
  rw [h4k]
  exact ite_keeps .refl (judgeShort_keeps.after (redispatchAll_keeps.after h3k))

/-! ### Tenders that come into service (R216, R226, R232) -/

theorem fencedAs_of_eq (ht : a.eng.tenders = b.eng.tenders := by rfl) : a.fencedAs b :=
  ⟨fun _ => congrArg Tender.fenced (tender_congr ht), fun _ => congrArg Tender.fenceCause (tender_congr ht)⟩

theorem fencedAs.refl : h.fencedAs h := fencedAs_of_eq

theorem keeps.fencedAs {l : List Part} (hab : a.keeps b l) (hl : Part.eng ∉ l := by decide) : a.fencedAs b :=
  fencedAs_of_eq (congrArg EngSt.tenders (hab .eng hl))

theorem ite_fencedAs {P : Prop} [Decidable P] (ht : a.fencedAs g) (hf : b.fencedAs g) : (if P then a else b).fencedAs g := by
  split
  · exact ht
  · exact hf

theorem foldl_fencedAs {α : Type} {f : Hub → α → Hub} (hf : ∀ h x, (f h x).fencedAs h) (xs : List α) (hab : a.fencedAs b) :
    (xs.foldl f a).fencedAs b := by
  induction xs generalizing a with
  | nil => exact hab
  | cons x xs ih => exact ih ((hf a x).trans hab)

theorem portRest_fencedAs {x : PortState} : (h.portRest p x st).fencedAs h := by
  unfold portRest
  extract_lets x h1 h2
  have h1k : (h1.forLanes p fun h n => (h.laneAdapt n).updLane n fun y => y.rest .idle).keeps h [.draws, .lanes] :=
    forLanes_keeps (fun _ _ => updLane_keeps.after laneAdapt_keeps) setPort_keeps.within
  have h2f : h2.fencedAs h := (ite_steady .refl linkDown_steady).toFencedAs.trans h1k.fencedAs
  exact doneOpt_keeps.fencedAs.trans (setNominal_keeps.fencedAs.trans h2f)

theorem portJudge_fencedAs : (h.portJudge p).fencedAs h := by
  unfold portJudge
  extract_lets st h1 h2
  have h1f : h1.fencedAs h := ite_fencedAs updPort_keeps.fencedAs .refl
  have h2f : h2.fencedAs h := ite_fencedAs (portRest_fencedAs.trans h1f) h1f
  exact ite_fencedAs (ite_fencedAs .refl portRest_fencedAs) (ite_fencedAs (trainingBegin_keeps.fencedAs.trans h2f) h2f)

theorem systemOpen_fencedAs : (h.systemOpen p).fencedAs h := by
  unfold systemOpen
  extract_lets i x h1
  have started {g : Hub} : (g.startDirections i).fencedAs g :=
    ite_fencedAs fencedAs_of_eq (giveHome_steady.toFencedAs.trans (giveHome_steady.toFencedAs.trans fencedAs_of_eq))
  exact started.trans fencedAs_of_eq

theorem systemUp_fencedAs : (h.systemUp p).fencedAs h := by
  unfold systemUp
  extract_lets h1
  have announced {g : Hub} : (g.announce p).steady g :=
    ite_steady (ite_steady (tally_keeps.steady.trans (pairPut_steady.trans emit_keeps.steady)) .refl) .refl
  have h1f : h1.fencedAs h := ite_fencedAs (announced.toFencedAs.trans systemOpen_fencedAs) .refl
  exact ite_fencedAs (retrainDone_keeps.fencedAs.trans h1f) h1f

/-- Tenders that come into service return no other. -/
theorem tendersUp_fencedAs : h.tendersUp.fencedAs h := by
  have homes : h.movePins.homeless.judgeShort.fencedAs h := (judgeShort_steady.trans (homeless_steady.trans movePins_steady)).toFencedAs
  exact (foldl_fencedAs (fun _ _ => portJudge_fencedAs) _ .refl).trans (foldl_fencedAs (fun _ _ => systemUp_fencedAs) _ homes)

theorem retrainDone_stays (busy : (h.chan c).state ≠ .idle) : (h.retrainDone.chan c).state ≠ .idle := by
  unfold retrainDone
  split
  · exact busy
  · extract_lets mode links h1 h2
    have channels : h2.ctl.channels = h.ctl.channels :=
      congrArg CtlSt.channels ((resources_keeps.after (powerBoot_keeps.after moorFogEnd_keeps.within) :
        h2.keeps h1 [.out, .od, .regs, .evt, .lanes, .links, .bcn, .moor, .pwr]) .ctl (by decide))
    have kept : (h2.chan c).state ≠ .idle := by rwa [chan_congr channels]
    split
    · exact done_calm.chan c kept
    · exact kept

theorem systemUp_stays (busy : (h.chan c).state ≠ .idle) : ((h.systemUp p).chan c).state ≠ .idle := by
  unfold systemUp
  extract_lets h1
  have announced {g : Hub} : (g.announce p).calm g := ite_calm pairSend_calm .refl
  have h1c : h1.calm h := ite_calm (announced.trans systemOpen_keeps.calm) .refl
  split
  · exact retrainDone_stays (h1c.chan c busy)
  · exact h1c.chan c busy

/-- A command that runs, or has ended, does so once Tenders have come into service. -/
theorem tendersUp_stays (busy : (h.chan c).state ≠ .idle) : (h.tendersUp.chan c).state ≠ .idle := by
  have homes : h.movePins.homeless.judgeShort.calm h := judgeShort_calm.trans (homeless_keeps.calm.trans movePins_keeps.calm)
  rw [tendersUp]
  refine portsJudge_calm.chan c ?_
  rw [List.foldl_cons, List.foldl_cons, List.foldl_cons, List.foldl_nil]
  exact systemUp_stays (systemUp_stays (systemUp_stays (homes.chan c busy)))

end Operations
end Hub

namespace Hub

section Operations

variable {h a b : Hub} {t c tag n k : Nat} {args : Bytes} {req : Path} {u : BarrierUse} {x : Barrier} {m : Image}

/-! ### TENDER_RESTORE (R226, R237) -/

/-- What TENDER_RESTORE does once it is accepted. -/
def restore (h : Hub) (c t : Nat) (ok : Bool) : Hub :=
  if !(h.tender t).fenced then h.finish c 0 h.serviceData
  else if !h.domOn (3 + t / 8) then h.finish c (abFailed 2) []
  else if !h.restoreOk t ok then (h.setTender t { h.tender t with ram := ⟨[]⟩ }).finish c (abFailed 1) []
  else
    let h1 := (h.setTender t { h.tender t with ram := ⟨[]⟩, fenced := false, fenceCause := 0 }).tendersUp
    h1.finish c 0 h1.serviceData

theorem cmdTenderRestore_eq {ok : Bool} : h.cmdTenderRestore req c tag args ok =
    h.issue req c 0x0501 tag args (firstAbort [argLen args 1, (decide (31 < field args 0 1), abArg 4)]) (firstState [(h.inFog, stFoghorn)])
      fun h => h.restore c (field args 0 1) ok := rfl

/-- A Tender whose checks pass comes back, and the command has ended. -/
theorem restore_returns (hc : c < 8) (busy : (h.chan c).state ≠ .idle) (fenced : (h.tender t).fenced = true)
    (on : h.domOn (3 + t / 8) = true) (loaded : (h.store (t / 8)).measure = h.eng.mcMeasure) :
    ((h.restore c t true).tender t).fenced = false ∧ ((h.restore c t true).chan c).state = .done := by
  have sound : h.restoreOk t true = true := by simp [restoreOk, loaded]
  rw [restore, if_neg (by simp [fenced]), if_neg (by simp [on]), if_neg (by simp [sound])]
  extract_lets h1
  have back := (tendersUp_fencedAs (h := h.setTender t { h.tender t with ram := ⟨[]⟩, fenced := false, fenceCause := 0 })).fenced t
  rw [setTender_tender] at back
  exact ⟨(congrArg Tender.fenced finish_keeps.tender).trans back, finish_done hc (tendersUp_stays busy)⟩

theorem restore_refused (fenced : (h.tender t).fenced = true) (on : h.domOn (3 + t / 8) = true) :
    h.restore c t false = (h.setTender t { h.tender t with ram := ⟨[]⟩ }).finish c (abFailed 1) [] := by
  simp [restore, fenced, on, restoreOk]

/-! ### Barriers and the engine fence (R228, R229) -/

theorem newBarrier_congr (ht : a.eng.tenders = b.eng.tenders) (hc : a.clock = b.clock) : a.newBarrier = b.newBarrier := by
  have jobs : a.outstanding = b.outstanding := by
    have same : a.tender = b.tender := funext fun t => tender_congr ht
    rw [outstanding, same, outstanding]
  rw [newBarrier, jobs, hc, newBarrier]

/-- The hub once at least 5 cycles have passed since a barrier was armed. -/
def past (h : Hub) (x : Barrier) : Hub := { h with clock := max h.clock (x.armedAt + h.cycles 5) }

/-- A barrier of the register that waits for nothing (R228, R236). -/
theorem barrierComplete_register (armed : h.eng.regBarrier = some x) (empty : x.waiting = []) : h.barrierComplete 0 =
    if bit 3 (h.reg Rg.engBarrier) then
      ({ h.past x with eng := { h.eng with regBarrier := none, regDone := true } } : Hub).fire Ev.barrierDone []
    else { h.past x with eng := { h.eng with regBarrier := none, regDone := true } } := by
  simp only [barrierComplete, armed, empty]
  rfl

/-- Keeper's barrier that waits for nothing goes on with the use that it was armed for (R228). -/
theorem barrierComplete_keeper {l : List BarrierUse} (armed : h.eng.keepBarrier = some x) (uses : h.eng.keepUses = u :: l)
    (empty : x.waiting = []) : h.barrierComplete u.number = (h.past x).keepDone x u := by
  have number : u.number ≠ 0 := by cases u <;> simp [BarrierUse.number]
  simp only [barrierComplete, armed, uses, empty, if_neg number]
  exact if_neg (by simp)

/-- Once a use has gone, the others wait on. -/
theorem keepDrop_uses {l : List BarrierUse} (uses : h.eng.keepUses = u :: l) :
    (h.keepDrop fun v => decide (v ≠ u)).eng.keepUses = l.filter fun v => decide (v ≠ u) := by
  rw [keepDrop]
  simp [uses]

theorem keepDrop_notMem : u ∉ (h.keepDrop fun v => decide (v ≠ u)).eng.keepUses := by
  rw [keepDrop]
  simp

/-! ### Images (R230 to R234, R238) -/

/-- What of the engine an image in force determines. -/
def loaded (h : Hub) : Nat × Bytes × Option Image × Tab Store := (h.eng.mcVersion, h.eng.mcMeasure, h.eng.verified, h.eng.stores)

theorem loaded_congr (he : a.eng = b.eng) : a.loaded = b.loaded := by rw [loaded, he, loaded]

theorem foldl_loaded {α : Type} {f : Hub → α → Hub} (hf : ∀ h x, (f h x).loaded = h.loaded) (xs : List α) :
    ∀ {h : Hub}, (xs.foldl f h).loaded = h.loaded := by
  induction xs with
  | nil => exact rfl
  | cons x xs ih => exact (ih).trans (hf _ x)

theorem giveHome_loaded : (h.giveHome k t).loaded = h.loaded := rfl

theorem rehome_loaded : (h.rehome t).loaded = h.loaded := foldl_loaded (fun _ _ => giveHome_loaded) _

theorem movePins_loaded : h.movePins.loaded = h.loaded := by
  unfold movePins
  extract_lets a b now eng h1 h2
  have h2l : h2.loaded = h.loaded := (loaded_congr (fire_keeps .eng (by decide))).trans rfl
  split_ifs
  · rfl
  · rw [rehome_loaded, rehome_loaded, h2l]
  · exact h2l

theorem homeless_loaded : h.homeless.loaded = h.loaded :=
  foldl_loaded (fun _ _ => foldl_loaded (fun _ _ => by split; exacts [giveHome_loaded, rfl]) _) _

theorem judgeShort_loaded : h.judgeShort.loaded = h.loaded := by
  unfold judgeShort
  extract_lets s eng h1
  split_ifs
  · exact (loaded_congr (fire_keeps .eng (by decide))).trans rfl
  · rfl

theorem loadStore_store {i : Option Image} : (h.loadStore n i).store k = if k = n then
    (match i with | some m => ⟨m.body, m.measure⟩ | none => Store.init) else h.store k := by
  unfold loadStore
  extract_lets v eng
  split_ifs with same
  · subst same
    exact Tab.get_set ..
  · exact Tab.get_set_ne _ _ _ _ _ same

/-- Every store that an image is loaded into has its measurement. -/
theorem loadStores_measure {ns : List Nat} (hk : k ∈ ns ∨ (h.store k).measure = m.measure) :
    ((ns.foldl (fun h k => h.loadStore k (some m)) h).store k).measure = m.measure := by
  induction ns generalizing h with
  | nil => simpa using hk
  | cons n ns ih =>
    refine ih ?_
    by_cases same : k = n
    · exact .inr (by rw [loadStore_store, if_pos same])
    · rw [loadStore_store, if_neg same]
      simpa [same] using hk

end Operations
end Hub

namespace Hub

section Operations

variable {h a b : Hub} {n off usage : Nat}

/-! ### The check of an image reads the flash, the key slots and an injection (R231) -/

theorem flashBytes_congr (hf : a.pwr.flash = b.pwr.flash) (off n : Nat) : a.flashBytes off n = b.flashBytes off n := by
  induction n generalizing off with
  | zero => rfl
  | succ n ih => rw [flashBytes, hf, ih, flashBytes]

theorem slot_congr (hs : a.sec = b.sec) : a.slot n = b.slot n := by rw [slot, hs, slot]

theorem badSlots_sec (hs : a.sec = b.sec) (ks : List Nat) :
    (ks.foldl (fun h k => h.setSlot k { h.slot k with state := .bad }) a).sec =
      (ks.foldl (fun h k => h.setSlot k { h.slot k with state := .bad }) b).sec := by
  induction ks generalizing a b with
  | nil => exact hs
  | cons k ks ih => exact ih (by simp only [setSlot, slot, hs])

theorem useSlot_congr (hs : a.sec = b.sec) :
    (a.useSlot n usage off).2 = (b.useSlot n usage off).2 ∧ (a.useSlot n usage off).1.sec = (b.useSlot n usage off).1.sec := by
  have check (key usage : Nat) (expire : Bool) : a.slotCheck n key usage expire = b.slotCheck n key usage expire := by
    simp only [slotCheck, fuse, hs]
  have halves : a.slotHalves n = b.slotHalves n := by simp only [slotHalves, slot_congr hs]
  simp only [useSlot, slot_congr hs, check, halves]
  split
  · exact ⟨rfl, hs⟩
  · exact ⟨rfl, hs⟩
  · split_ifs
    · exact ⟨rfl, hs⟩
    · exact ⟨rfl, hs⟩
    · exact ⟨rfl, badSlots_sec hs _⟩
    · exact ⟨rfl, hs⟩
    · exact ⟨rfl, by simp only [setSlot, hs]⟩

theorem takeInject_congr {region : Nat} (hs : a.sw.inject = b.sw.inject) : (a.takeInject region).2 = (b.takeInject region).2 := by
  simp only [takeInject, hs]
  split <;> rfl

theorem eccCorrected_flash {region : Nat} : (h.eccCorrected region).pwr.flash = h.pwr.flash := by
  unfold eccCorrected
  extract_lets sec n sw h1
  have h1k : h1.keeps h [.od, .sw] := tally_keeps.after (bump_keeps.after withSw_keeps.within)
  have h1f : h1.pwr.flash = h.pwr.flash := congrArg PwrSt.flash (h1k .pwr (by decide))
  split
  · rw [fire_pwr_flash]
    exact h1f
  · exact h1f

/-- The signature and the version of an image whose measurement is right (R231). -/
def signedImage (h : Hub) (off len ver : Nat) (image hash : Bytes) : Hub × Except Nat Image :=
  match h.useSlot 0 3 0 with
  | (h1, some _) => (h1, .error 4)
  | (h1, none) =>
    if !Config.ecdsaVerify (h1.slot 0).publicKey (Config.sha256 image) (h1.flashBytes (off + 64 + len) 64) then (h1, .error 4)
    else if ver / 2 ^ 24 < ones 64 (h1.fuse 3) then (h1, .error 5)
    else (h1, .ok ⟨ver, hash, image.drop 64⟩)

theorem signedImage_congr {len ver : Nat} {image hash : Bytes} (hf : a.pwr.flash = b.pwr.flash) (hs : a.sec = b.sec) :
    (a.signedImage off len ver image hash).2 = (b.signedImage off len ver image hash).2 := by
  obtain ⟨verdict, sec⟩ := useSlot_congr (n := 0) (usage := 3) (off := 0) hs
  have flash : (a.useSlot 0 3 0).1.pwr.flash = (b.useSlot 0 3 0).1.pwr.flash := by
    rw [useSlot_keeps .pwr (by decide), useSlot_keeps .pwr (by decide), hf]
  unfold signedImage
  generalize a.useSlot 0 3 0 = r at verdict sec flash
  generalize b.useSlot 0 3 0 = r' at verdict sec flash
  obtain ⟨h1, v⟩ := r
  obtain ⟨h1', v'⟩ := r'
  obtain rfl : v = v' := verdict
  dsimp only at sec flash
  cases v with
  | some e => rfl
  | none =>
    have fuses : h1.fuse 3 = h1'.fuse 3 := by rw [fuse, sec, fuse]
    dsimp only
    rw [slot_congr sec, flashBytes_congr flash, fuses]
    split_ifs <;> dsimp only

theorem imageCheck_congr (hf : a.pwr.flash = b.pwr.flash) (hs : a.sec = b.sec) (hi : a.sw.inject = b.sw.inject) :
    (a.imageCheck off).2 = (b.imageCheck off).2 := by
  have flash (g : Hub) : (g.takeInject 2).1.pwr.flash = g.pwr.flash := congrArg PwrSt.flash (takeInject_keeps .pwr (by decide))
  have sec (g : Hub) : (g.takeInject 2).1.sec = g.sec := takeInject_keeps .sec (by decide)
  have mended (g : Hub) : (g.eccCorrected 2).sec = g.sec := eccCorrected_keeps .sec (by decide)
  simp only [imageCheck, flashBytes_congr hf, takeInject_congr hi]
  split_ifs
  · rfl
  · rfl
  · rfl
  · rfl
  · exact signedImage_congr (by rw [flash, flash, hf]) (by rw [sec, sec, hs])
  · exact signedImage_congr (by rw [eccCorrected_flash, eccCorrected_flash, flash, flash, hf]) (by rw [mended, mended, sec, sec, hs])

end Operations
end Hub

namespace Hub

section Operations

variable {h a g : Hub} {c off status : Nat} {m : Image} {r : Access}

/-- The lines take back no event. -/
theorem settle_raised {src : Nat} {d : Bytes} (hr : h.raised src d) : h.settle.raised src d := hr

theorem settled_eng : (h.keeperLeave r).settle.eng = h.eng := rfl

/-- The check writes no part of the engine, and gives nothing to the outside. -/
theorem imageCheck_leaves {v : Except Nat Image} (hv : g.imageCheck off = (a, v)) :
    a.keeps g [.od, .regs, .evt, .sw, .sec, .pwr] := by
  have kept := g.imageCheck_keeps (off := off)
  rwa [hv] at kept

/-! ### The end of a reload (R234, R238) -/

/-- The engine with an image in force: it is what the stores of the clusters that are on hold. -/
theorem imageIn_loads : (h.imageIn m).eng.mcVersion = m.version ∧ (h.imageIn m).eng.mcMeasure = m.measure ∧
    (h.imageIn m).eng.verified = some m ∧ ∀ k < 4, h.domOn (3 + k) = true → ((h.imageIn m).store k).measure = m.measure := by
  unfold imageIn
  extract_lets h0 eng h1
  have kept : h1.movePins.homeless.judgeShort.loaded = h1.loaded := by rw [judgeShort_loaded, homeless_loaded, movePins_loaded]
  simp only [loaded, Prod.mk.injEq] at kept
  obtain ⟨version, measure, verified, stores⟩ := kept
  refine ⟨version, measure, verified, fun k hk on => ?_⟩
  have store : h1.movePins.homeless.judgeShort.store k = h0.store k := congrArg (Tab.get Store.init · k) stores
  rw [store]
  exact loadStores_measure (.inl (List.mem_filter.2 ⟨List.mem_range.2 hk, on⟩))

/-- The reload of a checked image ends: the engine has it, and the command reports its version. -/
theorem reloadEnd_loads (hc : c < 8) (image : h.eng.reloadImage = some m) (by_ : h.eng.reloading = some c)
    (runs : (h.chan c).state = .running) :
    h.reloadEnd.eng.reloading = none ∧ h.reloadEnd.eng.reloadImage = none ∧ h.reloadEnd.eng.mcVersion = m.version ∧
      h.reloadEnd.eng.mcMeasure = m.measure ∧ h.reloadEnd.eng.verified = some m ∧
      h.reloadEnd.ended c (h.chan c).code (h.chan c).tag 0 (u32 m.version) ∧
      ∀ k < 4, h.domOn (3 + k) = true → (h.reloadEnd.store k).measure = m.measure := by
  obtain ⟨version, measure, verified, stores⟩ := imageIn_loads (h := h) (m := m)
  let h2 : Hub := { h.imageIn m with eng := { (h.imageIn m).eng with reloading := none, reloadImage := none } }
  have ends : h.reloadEnd = ((h2.flag Rg.engFlags 5).fire Ev.reloaded []).done c 0 (u32 m.version) := by
    rw [← version]
    simp only [reloadEnd, image, by_, doneOpt, h2]
  have eng : h.reloadEnd.eng = h2.eng := by rw [ends, done_eng, fire_eng, flag_eng]
  have kept : ((h2.flag Rg.engFlags 5).fire Ev.reloaded []).keeps h [.od, .regs, .evt, .eng, .pwr] :=
    fire_keeps.after (flag_keeps.after (withEng_keeps.after imageIn_keeps))
  have channel : ((h2.flag Rg.engFlags 5).fire Ev.reloaded []).chan c = h.chan c :=
    chan_congr (congrArg CtlSt.channels (kept .ctl (by decide))) c
  have ended := finish_ended ((h2.flag Rg.engFlags 5).fire Ev.reloaded []) c 0 (u32 m.version) (by rw [channel, runs])
  rw [channel] at ended
  refine ⟨by rw [eng], by rw [eng], by rw [eng, ← version], by rw [eng, ← measure], by rw [eng, ← verified], ?_, fun k hk on => ?_⟩
  · rw [ends, Hub.done, if_pos hc]
    exact ended
  · rw [← stores k hk on, store, eng, store]

/-! ### The engine fence (R229) -/

theorem fenceDown_eng : (h.fenceDown status).eng = (({ h with eng := { h.eng with
      fenceRaised := false, fenceTimer := false, fenceCommand := none } } : Hub).keepDrop fun u => decide (u ≠ .fence)).eng := by
  rw [fenceDown]
  exact doneOpt_keeps .eng (by decide)

/-- A fence that is lifted neither stands nor waits for the counter. -/
theorem fenceDown_lifts : (h.fenceDown status).eng.fenceRaised = false ∧ (h.fenceDown status).eng.fenceTimer = false ∧
    .fence ∉ (h.fenceDown status).eng.keepUses := by
  rw [fenceDown_eng]
  exact ⟨rfl, rfl, keepDrop_notMem⟩

theorem fenceDown_calm : (h.fenceDown status).calm h := doneOpt_calm.trans (keepDrop_calm.trans withEng_calm)

end Operations
end Hub

end Sys2Proof.Machine

/-!
SUPPORT. The clauses of fences, barriers and images (O24).

`Elab.async` is off for the reason the frames give.
-/

namespace Sys2Proof.Machine

set_option Elab.async false

section Clauses

open Hub

section Fences

variable {s : State} {t : Fin 32}

theorem tenderFault_completes {cause : Fin 5} (live : s.hub.live) (service : s.hub.inService t = true) :
    Completes (.tenderFault t cause) s fun h =>
      (h.tender t).fenced = true ∧ (h.tender t).fenceCause = cause.val ∧ bit 0 (h.reg Rg.engFlags) = true :=
  completes_onHub (fun h => h.tenderFault t cause) live (tenderFault_fences service)

theorem tenderWatchdog_completes (live : s.hub.live) (service : s.hub.inService t = true) (busy : (s.hub.tender t).busy = true) :
    Completes (.tenderWatchdog t) s fun h =>
      (h.tender t).fenced = true ∧ (h.tender t).fenceCause = 2 ∧ bit 0 (h.reg Rg.engFlags) = true := by
  refine completes_onHub (fun h => if (h.tender t).busy then h.tenderFault t 2 else h) live ?_
  rw [if_pos busy]
  exact tenderFault_fences service

end Fences

variable {s : State} {req : Path} {c : Fin 8} {tag : BitVec 16} {args : Bytes} {b : Barrier} {l : List BarrierUse}

/-! ### TENDER_FENCE -/

theorem tenderFence_completes (ht : s.hub.takes req c 0x0500) (length : args.length = 1) (tender : field args 0 1 < 32)
    (was : (s.hub.tender (field args 0 1)).fenced = false)
    (enough : s.hub.inService (field args 0 1) = true → 2 < s.hub.serviceList.length) (noFog : s.hub.inFog = false) :
    Completes (.tenderFence req c tag args) s fun h => (h.tender (field args 0 1)).fenced = true ∧
      (h.tender (field args 0 1)).fenceCause = 5 ∧ h.ended c 0x0500 tag.toNat 0 h.serviceData := by
  have valid : firstAbort [argLen args 1,
      (decide (31 < field args 0 1) || (s.hub.inService (field args 0 1) && decide (s.hub.serviceList.length ≤ 2)), abArg 4)] = none := by
    simp only [firstAbort_none, argLen, List.mem_cons, List.not_mem_nil, or_false, forall_eq_or_imp, forall_eq, length]
    refine ⟨by simp, ?_⟩
    simpa [tender] using ⟨by omega, enough⟩
  have states : firstState [(s.hub.inFog, stFoghorn)] = none := by simp [firstState_none, noFog]
  refine completes_onServed (tag := tag.toNat) (f := fun h => h.cmdTenderFence req c tag.toNat args)
    (fun h => (h.fence (field args 0 1) 5).finish c 0 (h.fence (field args 0 1) 5).serviceData) ht (length.trans_le (by decide))
    (fun _ => by rw [cmdTenderFence]; exact issue_unrefused valid states) fun g a hg eng => ?_
  have notYet : (g.tender (field args 0 1)).fenced = false := by rw [tender_congr (b := s.hub) (by rw [eng]), was]
  obtain ⟨fenced, cause, -⟩ := fence_fences (cause := 5) notYet
  let h1 := g.fence (field args 0 1) 5
  have finished : (h1.finish c 0 h1.serviceData).keeps h1 [.ctl] := finish_keeps
  have runs : h1.chan c = g.chan c := chan_congr (congrArg CtlSt.channels (fence_keeps_commanded .ctl (by decide))) _
  have data : (h1.finish c 0 h1.serviceData).serviceData = h1.serviceData :=
    serviceData_congr (congrArg EngSt.tenders (finished .eng (by decide))) (finished .pwr (by decide))
  refine ⟨?_, ?_, ?_⟩
  · rw [settled_tender, finished.tender, fenced]
  · rw [settled_tender, finished.tender, cause]
  · rw [settled_serviceData, data]
    exact settled_ended (hg.ends runs)

/-! ### TENDER_RESTORE -/

theorem tenderRestore_issued {ok : Bool} {P : Hub → Prop} (ht : s.hub.takes req c 0x0501) (length : args.length = 1)
    (tender : field args 0 1 < 32) (noFog : s.hub.inFog = false)
    (hP : ∀ (g : Hub) (a : Access), g.issued s.hub req c 0x0501 tag.toNat args → g.eng = { s.hub.eng with waiting := g.eng.waiting } →
      P ((g.restore c (field args 0 1) ok).keeperLeave a).settle) : Completes (.tenderRestore req c tag args ok) s P := by
  have valid : firstAbort [argLen args 1, (decide (31 < field args 0 1), abArg 4)] = none := by
    simp [firstAbort_none, argLen, length]
    omega
  have states : firstState [(s.hub.inFog, stFoghorn)] = none := by simp [firstState_none, noFog]
  exact completes_onServed (tag := tag.toNat) (f := fun h => h.cmdTenderRestore req c tag.toNat args ok)
    (fun h => h.restore c (field args 0 1) ok) ht (length.trans_le (by decide))
    (fun _ => by rw [cmdTenderRestore_eq]; exact issue_unrefused valid states) hP

theorem tenderRestore_returns_completes (ht : s.hub.takes req c 0x0501) (length : args.length = 1) (tender : field args 0 1 < 32)
    (fenced : (s.hub.tender (field args 0 1)).fenced = true) (on : s.hub.domOn (3 + field args 0 1 / 8) = true)
    (measure : (s.hub.store (field args 0 1 / 8)).measure = s.hub.eng.mcMeasure) (noFog : s.hub.inFog = false) :
    Completes (.tenderRestore req c tag args true) s fun h =>
      (h.tender (field args 0 1)).fenced = false ∧ s.hub.inService (field args 0 1) = false ∧ (h.chan c).state = .done := by
  refine tenderRestore_issued ht length tender noFog fun g a hg eng => ?_
  have same : g.tender (field args 0 1) = s.hub.tender (field args 0 1) := tender_congr (by rw [eng])
  obtain ⟨back, done⟩ := restore_returns (h := g) (c := c) (t := field args 0 1) c.isLt (by rw [hg.chan]; simp) (by rw [same, fenced])
    (by rw [domOn_congr (hg.kept .pwr (by decide)), on]) (by rw [store, eng]; exact measure)
  refine ⟨?_, by simp [inService, fenced], ?_⟩
  · rw [settled_tender, back]
  · rw [settled_chan, done]

theorem tenderRestore_refused_completes (ht : s.hub.takes req c 0x0501) (length : args.length = 1) (tender : field args 0 1 < 32)
    (fenced : (s.hub.tender (field args 0 1)).fenced = true) (on : s.hub.domOn (3 + field args 0 1 / 8) = true)
    (noFog : s.hub.inFog = false) : Completes (.tenderRestore req c tag args false) s fun h =>
      (h.tender (field args 0 1)).fenced = true ∧ h.ended c 0x0501 tag.toNat (abFailed 1) [] := by
  refine tenderRestore_issued ht length tender noFog fun g a hg eng => ?_
  have same : g.tender (field args 0 1) = s.hub.tender (field args 0 1) := tender_congr (by rw [eng])
  rw [restore_refused (by rw [same, fenced]) (by rw [domOn_congr (hg.kept .pwr (by decide)), on])]
  refine ⟨?_, settled_ended (hg.ends rfl)⟩
  rw [settled_tender, finish_keeps.tender, setTender_tender]
  exact same ▸ fenced

/-! ### Barriers -/

theorem engineBarrier_completes (ht : s.hub.takes req c 0x0502) (noFog : s.hub.inFog = false)
    (alone : ∀ u ∈ s.hub.eng.keepUses, u = .fence ∨ u = .reload) : Completes (.engineBarrier req c tag []) s fun h =>
      h.eng.keepUses = s.hub.eng.keepUses ++ [.command c] ∧ h.busyWith c 0x0502 tag.toNat ∧ h.gave s.hub (.answer req 0 []) ∧
      h.eng.keepBarrier = if s.hub.eng.keepUses = [] then some s.hub.newBarrier else s.hub.eng.keepBarrier := by
  have noCommand : s.hub.eng.keepUses.any (fun u => decide (u ≠ .fence) && decide (u ≠ .reload)) = false := by
    simp only [List.any_eq_false, Bool.and_eq_true, decide_eq_true_eq]
    rintro u on ⟨notFence, notReload⟩
    exact (alone u on).elim notFence notReload
  have states : firstState [(s.hub.inFog, stFoghorn),
      (s.hub.eng.keepUses.any (fun u => decide (u ≠ .fence) && decide (u ≠ .reload)), stChannelBusy)] = none := by
    rw [noFog, noCommand]
    rfl
  refine completes_onServed (tag := tag.toNat) (args := []) (f := fun h => h.cmdEngineBarrier req c tag.toNat [])
    (fun h => h.keepUse (.command c)) ht (by simp) (fun _ => by rw [cmdEngineBarrier]; exact issue_unrefused rfl states)
    fun g a hg eng => ?_
  have uses : g.eng.keepUses = s.hub.eng.keepUses := by rw [eng]
  have counter : g.eng.keepBarrier = s.hub.eng.keepBarrier := by rw [eng]
  have armed : g.newBarrier = s.hub.newBarrier := newBarrier_congr (by rw [eng]) (hg.kept .clock (by decide))
  refine ⟨?_, hg.busy keepUse_keeps, hg.answered withEng_calm, ?_⟩
  · rw [settled_eng, keepUse, uses]
  · rw [settled_eng, keepUse, uses, counter, armed]

theorem engBarrierArm_completes (live : s.hub.live) (free : s.hub.eng.regBarrier = none) : Completes (.engBarrierArm) s fun h =>
    h.eng.regBarrier = some ⟨s.hub.outstanding, s.hub.outstanding.length, s.hub.clock⟩ ∧ h.eng.regDone = s.hub.eng.regDone := by
  have arms : s.hub.armBarrier = { s.hub with eng := { s.hub.eng with regBarrier := some s.hub.newBarrier } } := if_neg (by simp [free])
  refine completes_onHub armBarrier live ?_
  rw [arms]
  exact ⟨rfl, rfl⟩

theorem barrierComplete_register_completes (live : s.hub.live) (armed : s.hub.eng.regBarrier = some b) (empty : b.waiting = []) :
    Completes (.barrierComplete 0) s fun h => h.eng.regBarrier = none ∧ h.eng.regDone = true ∧
      h.clock = max s.hub.clock (b.armedAt + s.hub.cycles 5) ∧ (bit 3 (s.hub.reg Rg.engBarrier) = true → h.raised Ev.barrierDone []) := by
  refine completes_onHub (fun h => h.barrierComplete 0) live ?_
  rw [barrierComplete_register armed empty]
  split
  next enabled =>
    refine ⟨?_, ?_, ?_, fun _ => settle_raised (fire_raised (by decide) (by decide))⟩
    · rw [settle_eng, fire_eng]
    · rw [settle_eng, fire_eng]
    · rw [settle_clock, fire_clock, past]
  next disabled => exact ⟨rfl, rfl, rfl, fun enabled => absurd enabled disabled⟩

theorem barrierComplete_command_completes (live : s.hub.live) (armed : s.hub.eng.keepBarrier = some b)
    (uses : s.hub.eng.keepUses = .command c :: l) (empty : b.waiting = []) (runs : (s.hub.chan c).state = .running) :
    Completes (.barrierComplete 1) s fun h => h.eng.keepUses = l.filter (fun u => decide (u ≠ .command c)) ∧
      h.clock = max s.hub.clock (b.armedAt + s.hub.cycles 5) ∧
      h.ended c (s.hub.chan c).code (s.hub.chan c).tag 0 (u32 b.jobs ++ u32 (s.hub.cyclesIn (h.clock - b.armedAt))) := by
  let g : Hub := (s.hub.past b).keepDrop fun u => decide (u ≠ .command c)
  let data : Bytes := u32 b.jobs ++ u32 (s.hub.cyclesIn ((s.hub.past b).clock - b.armedAt))
  have kept : (g.finish c 0 data).keeps g [.ctl] := finish_keeps
  have clock : (g.finish c 0 data).clock = (s.hub.past b).clock := kept .clock (by decide)
  refine completes_onHub (fun h => h.barrierComplete 1) live ?_
  have goes : s.hub.barrierComplete 1 = g.finish c 0 data := barrierComplete_keeper armed uses empty
  rw [goes]
  refine ⟨(congrArg EngSt.keepUses (kept .eng (by decide))).trans (keepDrop_uses uses), clock, ?_⟩
  change (g.finish c 0 data).ended c _ _ 0 (u32 b.jobs ++ u32 (s.hub.cyclesIn ((g.finish c 0 data).clock - b.armedAt)))
  rw [clock]
  exact g.finish_ended c 0 data runs

theorem barrierComplete_fence_completes (live : s.hub.live) (armed : s.hub.eng.keepBarrier = some b)
    (uses : s.hub.eng.keepUses = .fence :: l) (empty : b.waiting = []) : Completes (.barrierComplete 2) s fun h =>
      h.eng.keepUses = l.filter (fun u => decide (u ≠ .fence)) ∧ h.eng.fenceTimer = true ∧ h.eng.fenceCommand = none ∧
      h.eng.fenceRaised = s.hub.eng.fenceRaised := by
  let g : Hub := (s.hub.past b).keepDrop fun u => decide (u ≠ .fence)
  let g' : Hub := { g with eng := { g.eng with fenceTimer := true, fenceCommand := none } }
  have goes : s.hub.barrierComplete 2 = g'.doneOpt s.hub.eng.fenceCommand 0 [] := barrierComplete_keeper armed uses empty
  have eng : (g'.doneOpt s.hub.eng.fenceCommand 0 []).eng = g'.eng := doneOpt_keeps .eng (by decide)
  refine completes_onHub (fun h => h.barrierComplete 2) live ?_
  rw [goes]
  exact ⟨(congrArg EngSt.keepUses eng).trans (keepDrop_uses uses), congrArg EngSt.fenceTimer eng, congrArg EngSt.fenceCommand eng,
    (congrArg EngSt.fenceRaised eng).trans rfl⟩

theorem barrierComplete_reload_completes {m : Image} (live : s.hub.live) (armed : s.hub.eng.keepBarrier = some b)
    (uses : s.hub.eng.keepUses = .reload :: l) (empty : b.waiting = []) (by_ : s.hub.eng.reloading = some c.val)
    (image : s.hub.eng.reloadImage = some m) (runs : (s.hub.chan c).state = .running) : Completes (.barrierComplete 3) s fun h =>
      h.eng.reloading = none ∧ h.eng.reloadImage = none ∧ h.eng.mcVersion = m.version ∧ h.eng.mcMeasure = m.measure ∧
      h.eng.verified = some m ∧ (h.ended c (s.hub.chan c).code (s.hub.chan c).tag 0 (u32 m.version) ∧
        ∀ k < 4, s.hub.domOn (3 + k) = true → (h.store k).measure = m.measure) := by
  let g : Hub := (s.hub.past b).keepDrop fun u => decide (u ≠ .reload)
  have goes : s.hub.barrierComplete 3 = g.reloadEnd := barrierComplete_keeper armed uses empty
  refine completes_onHub (fun h => h.barrierComplete 3) live ?_
  rw [goes]
  exact reloadEnd_loads (h := g) c.isLt image by_ runs

/-! ### ENGINE_RELOAD -/

theorem engineReload_issued {P : Hub → Prop} (ht : s.hub.takes req c 0x0503) (length : args.length = 4) (noFog : s.hub.inFog = false)
    (noSwap : s.hub.pair.swap = none) (noSwitch : s.hub.plan.pending = none) (noReload : s.hub.eng.reloading = none)
    (hP : ∀ (g : Hub) (a : Access), g.issued s.hub req c 0x0503 tag.toNat args → g.eng = { s.hub.eng with waiting := g.eng.waiting } →
      (g.imageCheck (field args 0 4)).2 = (s.hub.imageCheck (field args 0 4)).2 →
      P ((g.reloadStart c (field args 0 4)).keeperLeave a).settle) : Completes (.engineReload req c tag args) s P := by
  have states : firstState [(s.hub.inFog, stFoghorn), (s.hub.swapping, stSwap), (s.hub.plan.pending.isSome, stPlanSwitch),
      (s.hub.eng.reloading.isSome, stChannelBusy)] = none := by
    simp [firstState_none, noFog, swapping, noSwap, noSwitch, noReload]
  refine completes_onServed (tag := tag.toNat) (f := fun h => h.cmdEngineReload req c tag.toNat args)
    (fun h => h.reloadStart c (field args 0 4)) ht (length.trans_le (by decide))
    (fun _ => by rw [cmdEngineReload]; exact issue_unrefused (by simp [firstAbort_none, argLen, length]) states)
    fun g a hg eng => hP g a hg eng (imageCheck_congr ?_ (hg.kept .sec (by decide)) ?_)
  · exact congrArg PwrSt.flash (hg.kept .pwr (by decide))
  · exact congrArg SwSt.inject (hg.kept .sw (by decide))

theorem engineReload_checked_completes (ht : s.hub.takes req c 0x0503) (length : args.length = 4) (noFog : s.hub.inFog = false)
    (noSwap : s.hub.pair.swap = none) (noSwitch : s.hub.plan.pending = none) (noReload : s.hub.eng.reloading = none) :
    Completes (.engineReload req c tag args) s fun h => h.gave s.hub (.answer req 0 []) ∧
      ∀ m ∈ (s.hub.imageCheck (field args 0 4)).2.toOption.toList, h.eng.reloading = some c.val ∧ h.eng.reloadImage = some m ∧
        h.eng.keepUses = s.hub.eng.keepUses ++ [.reload] ∧ h.busyWith c 0x0503 tag.toNat := by
  refine engineReload_issued ht length noFog noSwap noSwitch noReload fun g a hg eng verdict => ?_
  rw [← verdict, reloadStart]
  split
  next h1 m hv =>
    have kept := imageCheck_leaves hv
    refine ⟨hg.answered (withEng_calm.trans (withEng_calm.trans kept.calm)), fun m' on => ?_⟩
    obtain rfl : m' = m := by simpa [hv, Except.toOption] using on
    have uses : h1.eng.keepUses = s.hub.eng.keepUses := by rw [kept .eng (by decide), eng]
    refine ⟨rfl, rfl, ?_, hg.busy (l := [.od, .regs, .evt, .eng, .sw, .sec, .pwr]) (keepUse_keeps.after (withEng_keeps.after kept.within))⟩
    rw [settled_eng, keepUse, uses]
  next h1 d hv =>
    have kept := imageCheck_leaves hv
    exact ⟨hg.answered (finish_calm.trans kept.calm), by simp [hv, Except.toOption]⟩

theorem engineReload_refused_completes {d : Nat} (ht : s.hub.takes req c 0x0503) (length : args.length = 4) (noFog : s.hub.inFog = false)
    (noSwap : s.hub.pair.swap = none) (noSwitch : s.hub.plan.pending = none) (noReload : s.hub.eng.reloading = none)
    (bad : (s.hub.imageCheck (field args 0 4)).2 = .error d) : Completes (.engineReload req c tag args) s fun h =>
      h.eng.reloading = none ∧ h.ended c 0x0503 tag.toNat (abFailed d) [] ∧ h.gave s.hub (.answer req 0 []) := by
  refine engineReload_issued ht length noFog noSwap noSwitch noReload fun g a hg eng verdict => ?_
  rw [bad] at verdict
  rw [reloadStart]
  split
  next h1 m hv => simp [hv] at verdict
  next h1 d' hv =>
    obtain rfl : d' = d := by simpa [hv] using verdict
    have kept := imageCheck_leaves hv
    have engine : (h1.finish c (abFailed d') []).eng = g.eng := (finish_keeps .eng (by decide)).trans (kept .eng (by decide))
    have runs : h1.chan c = g.chan c := chan_congr (congrArg CtlSt.channels (kept .ctl (by decide))) _
    refine ⟨?_, settled_ended (hg.ends runs), hg.answered (finish_calm.trans kept.calm)⟩
    rw [settled_eng, engine, eng, ← noReload]

/-! ### ENGINE_FENCE -/

theorem engineFence_issued {i : Instr} {P : Hub → Prop} {action : Nat} (known : action ≤ 1) (ht : s.hub.takes req c 0x0504)
    (noFog : s.hub.inFog = false) (hP : ∀ (g : Hub) (a : Access), g.issued s.hub req c 0x0504 tag.toNat (u8 action) →
      g.eng = { s.hub.eng with waiting := g.eng.waiting } →
      P ((if action = 1 then g.fenceRaise c else (if g.eng.fenceRaised then g.fenceDown abCancelled else g).finish c 0 []).keeperLeave a).settle)
    (hc : exec i s = onCommand 0x0504 req c tag.toNat (u8 action) (fun h => h.cmdEngineFence req c tag.toNat (u8 action)) s) :
    Completes i s P := by
  have act : field (u8 action) 0 1 = action := field_port (t := []) (by omega)
  have valid : firstAbort [argLen (u8 action) 1, (decide (1 < action), abArg 4)] = none := by
    simp [firstAbort_none, argLen, u8, leBytes, known]
  have states : firstState [(s.hub.inFog, stFoghorn)] = none := by simp [firstState_none, noFog]
  exact completes_onServed (args := u8 action)
    (fun g => if action = 1 then g.fenceRaise c else (if g.eng.fenceRaised then g.fenceDown abCancelled else g).finish c 0 []) ht
    (show (u8 action).length ≤ 252 by simp [u8, leBytes])
    (fun _ => by rw [cmdEngineFence, act]; exact issue_unrefused valid states) hP hc

theorem engineFenceRaise_completes (ht : s.hub.takes req c 0x0504) (noFog : s.hub.inFog = false) (down : s.hub.eng.fenceRaised = false)
    (noReload : s.hub.eng.reloading = none) : Completes (.engineFenceRaise req c tag) s fun h =>
      h.eng.fenceRaised = true ∧ h.eng.fenceCommand = some c.val ∧ h.eng.keepUses = s.hub.eng.keepUses ++ [.fence] ∧
      h.busyWith c 0x0504 tag.toNat := by
  refine engineFence_issued (action := 1) (by decide) ht noFog (fun g a hg eng => ?_) rfl
  have stillDown : g.eng.fenceRaised = false := by rw [eng]; exact down
  have stillNone : g.eng.reloading = none := by rw [eng]; exact noReload
  have may : ¬(g.eng.fenceRaised = true ∨ g.eng.reloading.isSome = true) := by simp [stillDown, stillNone]
  have uses : g.eng.keepUses = s.hub.eng.keepUses := by rw [eng]
  rw [if_pos rfl, fenceRaise, if_neg may]
  refine ⟨rfl, rfl, ?_, hg.busy (keepUse_keeps.trans withEng_keeps)⟩
  rw [settled_eng, keepUse, uses]

theorem engineFenceLift_completes (ht : s.hub.takes req c 0x0504) (noFog : s.hub.inFog = false) :
    Completes (.engineFenceLift req c tag) s fun h =>
      ((s.hub.eng.fenceRaised = true → h.eng.fenceRaised = false ∧ h.eng.fenceTimer = false ∧ .fence ∉ h.eng.keepUses) ∧
        (h.chan c).state = .done ∧ h.gave s.hub (.answer req 0 [])) := by
  refine engineFence_issued (action := 0) (by decide) ht noFog (fun g a hg eng => ?_) rfl
  rw [if_neg (by decide)]
  let g' : Hub := if g.eng.fenceRaised then g.fenceDown abCancelled else g
  have lifted : g'.calm g := ite_calm fenceDown_calm .refl
  have engine : (g'.finish c 0 []).eng = g'.eng := finish_keeps .eng (by decide)
  have busy : (g'.chan c).state ≠ .idle := lifted.chan c (by rw [hg.chan]; simp)
  refine ⟨fun raised => ?_, ?_, hg.answered (finish_calm.trans lifted)⟩
  · have down : g' = g.fenceDown abCancelled := if_pos (by rw [eng]; exact raised)
    rw [settled_eng, engine, down]
    exact fenceDown_lifts
  · rw [settled_chan]
    exact finish_done c.isLt busy

theorem fenceExpired_completes (live : s.hub.live) (raised : s.hub.eng.fenceRaised = true) (timer : s.hub.eng.fenceTimer = true) :
    Completes (.fenceExpired) s fun h => h.eng.fenceRaised = false ∧ h.eng.fenceTimer = false ∧ bit 4 (h.reg Rg.engFlags) = true ∧
      h.raised Ev.fenceExpired [] := by
  have expires : s.hub.fenceExpired = ((s.hub.fenceDown 0).flag Rg.engFlags 4).fire Ev.fenceExpired [] := if_pos ⟨raised, timer⟩
  obtain ⟨down, stopped, -⟩ := fenceDown_lifts (h := s.hub) (status := 0)
  have eng : (((s.hub.fenceDown 0).flag Rg.engFlags 4).fire Ev.fenceExpired []).eng = (s.hub.fenceDown 0).eng := fire_eng ..
  refine completes_onHub fenceExpired live ?_
  rw [expires]
  refine ⟨?_, ?_, ?_, settle_raised (fire_raised (by decide) (by decide))⟩
  · rw [settle_eng, eng, down]
  · rw [settle_eng, eng, stopped]
  · rw [reg_congr (settle_regs _), fire_reg (by decide)]
    exact bit_flag (n := 4)

/-- Settles O24: each clause runs one operation of the engine, alone or as a command that Keeper serves; what a fence and a Tender that comes
back set off through the hub changes no fence. -/
theorem tendersAreFencedAndBarriersComplete : Obligations.TendersAreFencedAndBarriersComplete := by
  unfold Obligations.TendersAreFencedAndBarriersComplete
  refine ⟨?fault, ?watchdog, ?fence, ?returns, ?refused, ?barrier, ?arm, ?register, ?command, ?limit, ?reload, ?checked, ?bad, ?raise, ?lift,
    ?expired⟩
  case fault => exact fun _ _ _ live service => tenderFault_completes live service
  case watchdog => exact fun _ _ live service busy => tenderWatchdog_completes live service busy
  case fence =>
    exact fun _ _ _ _ _ ht length tender was enough noFog => tenderFence_completes ht length tender was enough noFog
  case returns =>
    exact fun _ _ _ _ _ ht length tender fenced on measure noFog => tenderRestore_returns_completes ht length tender fenced on measure noFog
  case refused =>
    exact fun _ _ _ _ _ ht length tender fenced on noFog => tenderRestore_refused_completes ht length tender fenced on noFog
  case barrier => exact fun _ _ _ _ ht noFog alone => engineBarrier_completes ht noFog alone
  case arm => exact fun _ live free => engBarrierArm_completes live free
  case register => exact fun _ _ live armed empty => barrierComplete_register_completes live armed empty
  case command => exact fun _ _ _ _ live armed uses empty runs => barrierComplete_command_completes live armed uses empty runs
  case limit => exact fun _ _ _ live armed uses empty => barrierComplete_fence_completes live armed uses empty
  case reload =>
    exact fun _ _ _ _ _ live armed uses empty by_ image runs => barrierComplete_reload_completes live armed uses empty by_ image runs
  case checked =>
    exact fun _ _ _ _ _ ht length noFog noSwap noSwitch noReload =>
      engineReload_checked_completes ht length noFog noSwap noSwitch noReload
  case bad =>
    exact fun _ _ _ _ _ _ ht length noFog noSwap noSwitch noReload bad =>
      engineReload_refused_completes ht length noFog noSwap noSwitch noReload bad
  case raise => exact fun _ _ _ _ ht noFog down noReload => engineFenceRaise_completes ht noFog down noReload
  case lift => exact fun _ _ _ _ ht noFog => engineFenceLift_completes ht noFog
  case expired => exact fun _ live raised timer => fenceExpired_completes live raised timer

end Clauses

end Sys2Proof.Machine

/-!
SUPPORT. The canonical form of the memory (R240, log 9). The frame store is written byte by byte, and each write of a byte keeps the form;
a power-on reset leaves no byte listed, and the boot ROM writes none (R564, R570).

`Elab.async` is off for the reason the frames give.
-/

namespace Sys2Proof.Machine.Hub

set_option Elab.async false

theorem keeps.mem {a b : Hub} {l : List Part} (hab : a.keeps b l) (hl : Part.mem ∉ l := by decide) : a.mem = b.mem := hab .mem hl

/-- An operation whose frame does not name the memory leaves it in canonical form. -/
theorem keeps.memWf {a b : Hub} {l : List Part} (hab : a.keeps b l) (hm : Memory.wf b.mem = true) (hl : Part.mem ∉ l := by decide) :
    Memory.wf a.mem = true := by
  rw [hab.mem hl]
  exact hm

/-- A fold keeps the memory in canonical form where each of its steps does. -/
theorem foldl_memWf {α : Type} {f : Hub → α → Hub} (hf : ∀ h x, Memory.wf h.mem = true → Memory.wf (f h x).mem = true) (xs : List α)
    {a : Hub} (ha : Memory.wf a.mem = true) : Memory.wf (xs.foldl f a).mem = true := by
  induction xs generalizing a with
  | nil => exact ha
  | cons x xs ih => exact ih (hf a x ha)

section Operations

variable {h : Hub}

/-! ### The MEMORY end writes the frame store (R376, R427) -/

/-- A word that is not to be corrected is filled with zeros, byte by byte; the rest of the check writes no byte (R376). -/
theorem fsMerge_memWf {a : Nat} {whole : Bool} (hm : Memory.wf h.mem = true) : Memory.wf (h.fsMerge a whole).mem = true := by
  unfold fsMerge
  extract_lets r h1
  have read : r.1.keeps h [.od, .regs, .evt, .sw, .pwr] := ite_fst_keeps .refl eccRead_keeps
  have sound : Memory.wf r.1.mem = true := read.memWf hm
  have filled : Memory.wf h1.mem = true := by
    unfold h1
    split
    · exact fsEcc_keeps.memWf (memWriteBytes_wf _ _ _ sound)
    · exact sound
  exact eccWrite_keeps.memWf filled

theorem fsPut_memWf {far be : Nat} {data : Bytes} (hm : Memory.wf h.mem = true) : Memory.wf (h.fsPut far be data).mem = true := by
  unfold fsPut
  extract_lets
  refine foldl_memWf (fun _ x hg => foldl_memWf (fun g j hg => ?_) _ hg) _ (foldl_memWf (fun _ _ => fsMerge_memWf) _ hm)
  split
  · exact memWrite_wf _ _ _ hg
  · exact hg

/-- A request of AREA 1 that is carried out writes the frame store; one that waits, is skipped or refused writes no byte. -/
theorem memServeWrite_memWf {i : Nat} (area : h.areaOf i = 1) (hm : Memory.wf h.mem = true) :
    Memory.wf (h.memServeWrite i).mem = true := by
  unfold memServeWrite
  split
  case h_1 => exact hm
  case h_2 x _ =>
    have taken : Memory.wf (h.dropOut 31 x).mem = true := dropOut_keeps.memWf hm
    extract_lets d h1
    rw [if_neg (show ¬h.areaOf i = 0 by omega)]
    split
    · exact memSkip_keeps.memWf hm
    · split
      · exact hm
      · split
        · exact memRefused_keeps.memWf taken
        · exact fsPut_memWf taken

/-! ### Power-on reset (R564, R570) -/

theorem resetLines_keeps {was : Hub} : (h.resetLines was).keeps h [.out] := foldl_keeps (fun _ _ => emit_keeps) _ emit_keeps

/-- While PORST_N is low no byte is listed. -/
theorem powerOff_mem : h.powerOff.mem = [] := by
  unfold powerOff
  extract_lets h' h1
  split
  · rfl
  · exact resetLines_keeps.mem

theorem powerOn_mem {strap cause : Nat} : (h.powerOn strap cause).mem = [] :=
  Eq.trans (bootRom_spares .mem (by decide)) powerOff_mem

end Operations
end Sys2Proof.Machine.Hub

namespace Sys2Proof.Machine

set_option Elab.async false

/-- A meaning over the live hub keeps the memory in canonical form where its operation does. -/
theorem onHub_memWf {f : Hub → Hub} {s t : State} (hf : Memory.wf (f s.hub).mem = true) (hm : Memory.wf s.hub.mem = true)
    (ht : onHub f s = .next t) : Memory.wf t.hub.mem = true := by
  by_cases hp : s.hub.inPorst = true
  · rw [onHub_porst f s hp] at ht
    cases ht
    exact hm
  · rw [onHub_live f s (by simpa using hp)] at ht
    cases ht
    exact hf

/-- A meaning that leaves no byte listed leaves the memory in canonical form. -/
theorem onPins_memWf {f : Hub → Hub} {s t : State} (hf : (f s.hub).mem = []) (ht : onPins f s = .next t) : Memory.wf t.hub.mem = true := by
  cases ht
  rw [Hub.settle_mem, hf]
  rfl

/-- Settles O8: the frame store is written byte by byte, and both power-on resets leave the empty memory. -/
theorem memoryCommandsKeepTheCanonicalForm : Obligations.MemoryCommandsKeepTheCanonicalForm := by
  unfold Obligations.MemoryCommandsKeepTheCanonicalForm
  refine ⟨rfl, ?write, ?porst, ?powerOn⟩
  case write => exact fun i _ _ area hm ht => onHub_memWf (f := fun h => h.memServeWrite i.toNat) (Hub.memServeWrite_memWf area hm) hm ht
  case porst => exact fun _ _ ht => onPins_memWf (f := Hub.powerOff) Hub.powerOff_mem ht
  case powerOn =>
    exact fun strap b _ _ ht => onPins_memWf (f := fun h => h.powerOn strap.val (if b then 2 else 1)) Hub.powerOn_mem ht

end Sys2Proof.Machine

/-!
SUPPORT. The switch's rows (chapter 08): what PFC frames, mirror frames, the scrubber and the classification commands leave of the switch's
own record, and what a word found damaged leaves of the counts, the flags and the events.

`Elab.async` is off for the reason the frames give.
-/

namespace Sys2Proof.Machine

set_option Elab.async false

/-! ### The bits of a mask (R250) -/

theorem bit_eq_testBit (i n : Nat) : bit i n = n.testBit i := by
  rw [Bool.eq_iff_iff]
  simp [bit, Nat.testBit, Nat.shiftRight_eq_div_pow, Nat.one_and_eq_mod_two]

/-- A number is its bits above i, bit i and the bits below. -/
theorem eq_bits_at (i n : Nat) : n = 2 ^ i * (2 * (n / 2 ^ (i + 1)) + n / 2 ^ i % 2) + n % 2 ^ i := by
  have above : n / 2 ^ (i + 1) = n / 2 ^ i / 2 := by rw [pow_succ, Nat.div_div_eq_div_mul]
  rw [above, Nat.div_add_mod, Nat.div_add_mod]

theorem clearBit_eq (i n : Nat) : clearBit i n = 2 ^ i * (2 * (n / 2 ^ (i + 1))) + n % 2 ^ i := by
  have parts := eq_bits_at i n
  unfold clearBit
  split
  next set =>
    rw [bit, beq_iff_eq] at set
    rw [set, Nat.mul_add, Nat.mul_one] at parts
    omega
  next clear =>
    rw [bit, beq_iff_eq] at clear
    rwa [show n / 2 ^ i % 2 = 0 by omega, Nat.add_zero] at parts

theorem bit_clearBit (i n : Nat) : bit i (clearBit i n) = false := by
  rw [bit_eq_testBit, clearBit_eq, Nat.testBit_two_pow_mul_add _ (Nat.mod_lt _ (Nat.two_pow_pos i))]
  simp

/-- Another bit than the one that is cleared reads as before. -/
theorem bit_clearBit_ne {i j : Nat} (n : Nat) (hij : i ≠ j) : bit i (clearBit j n) = bit i n := by
  have low : n % 2 ^ j < 2 ^ j := Nat.mod_lt _ (Nat.two_pow_pos j)
  have before : n.testBit i = _ := congrArg (·.testBit i) (eq_bits_at j n)
  rw [bit_eq_testBit, bit_eq_testBit, before, clearBit_eq, Nat.testBit_two_pow_mul_add _ low, Nat.testBit_two_pow_mul_add _ low]
  split
  · rfl
  · obtain ⟨k, hk⟩ : ∃ k, i - j = k + 1 := ⟨i - j - 1, by omega⟩
    rw [hk, Nat.testBit_add_one, Nat.testBit_add_one]
    congr 1
    omega

/-- A PFC frame's word on priority p: one of its mask is paused where its time is not 0 and resumed where it is. -/
def pfcMark (mask : Nat) (times : List Nat) (m p : Nat) : Nat :=
  if bit p mask then (if times.getD p 0 = 0 then clearBit p m else setBit p m) else m

theorem bit_pfcMark {mask m p q : Nat} {times : List Nat} :
    bit q (pfcMark mask times m p) = if q = p ∧ bit q mask = true then decide (times.getD q 0 ≠ 0) else bit q m := by
  unfold pfcMark
  by_cases here : q = p
  · subst here
    by_cases named : bit q mask = true
    · by_cases zero : times.getD q 0 = 0
      · rw [if_pos named, if_pos zero, if_pos ⟨rfl, named⟩, bit_clearBit, decide_eq_false (not_not.2 zero)]
      · rw [if_pos named, if_neg zero, if_pos ⟨rfl, named⟩, bit_setBit, decide_eq_true zero]
    · rw [if_neg named, if_neg fun both => named both.2]
  · rw [if_neg (c := q = p ∧ _) fun both => here both.1]
    split_ifs
    · exact bit_clearBit_ne m here
    · exact bit_setBit_ne m here
    · rfl

theorem bit_pfcMarks {mask q : Nat} {times : List Nat} (ps : List Nat) : ∀ m, bit q (ps.foldl (pfcMark mask times) m) =
    if q ∈ ps ∧ bit q mask = true then decide (times.getD q 0 ≠ 0) else bit q m := by
  induction ps with
  | nil => simp
  | cons p ps ih =>
    intro m
    rw [List.foldl_cons, ih, bit_pfcMark]
    by_cases later : q ∈ ps ∧ bit q mask = true
    · rw [if_pos later, if_pos ⟨List.mem_cons_of_mem _ later.1, later.2⟩]
    · have first : (q ∈ p :: ps ∧ bit q mask = true) ↔ (q = p ∧ bit q mask = true) := by
        rw [List.mem_cons, or_and_right, or_iff_left later]
      rw [if_neg later, if_congr first rfl rfl]

namespace Hub

section Operations

variable {h : Hub} {n m k i : Nat}

/-! ### Priority flow control (R250) -/

theorem pfcReceive_honoured {mask : Nat} {times : List Nat} (on : h.val (Od.ingPfcEnable (n + 3)) ≠ 0) :
    (h.pfcReceive n mask times).sw =
      { h.sw with paused := h.sw.paused.set 0 n ((List.range 8).foldl (pfcMark mask times) (h.sw.paused.get 0 n)) } := by
  rw [pfcReceive, if_neg on, tally_sw]
  rfl

theorem pfcReceive_ignored {mask : Nat} {times : List Nat} (off : h.val (Od.ingPfcEnable (n + 3)) = 0) :
    (h.pfcReceive n mask times).sw = { h.sw with pfcIgnored := h.sw.pfcIgnored.set 0 n (h.sw.pfcIgnored.get 0 n + 1) } := by
  rw [pfcReceive, if_pos off, tally_sw]

/-! ### The open frame of a mirror session (R258) -/

theorem mirror_setMirror {x : MirrorSt} : (h.setMirror m x).mirror m = x := Tab.get_set ..

theorem mirrorPut_mirror {frame : Bytes} {words copies : Nat} :
    (h.mirrorPut m frame words copies).mirror m = { h.mirror m with skipRun := false } := mirror_setMirror

theorem mirrorPut_queue {frame : Bytes} {words copies : Nat} :
    (h.mirrorPut m frame words copies).sw.mirrorQ = h.sw.mirrorQ ++ [⟨h.val (Od.mirDest m), m, frame, words, copies⟩] := rfl

/-! ### Damaged words (R261 to R264) -/

/-- Counters are no entries below theirs. -/
theorem countSelected_val {want : Nat} {e : Entry} (he : e.key < 0x600000) (l : List (Nat × Nat)) :
    ∀ h : Hub, (countSelected want k l h).val e = h.val e := by
  induction l with
  | nil => exact fun _ => rfl
  | cons c l ih =>
    intro h
    obtain ⟨key, v⟩ := c
    rw [countSelected, ih]
    split
    · exact val_bump_ne _ _ _ _ _ (by simp only [cntEntry, Od.cntCount]; omega)
    · rfl

theorem tally_val {item inst : Nat} {e : Entry} (he : e.key < 0x600000) : (h.tally item inst k).val e = h.val e :=
  countSelected_val he _ h

theorem eccCorrected_damaged {region : Nat} : (h.eccCorrected region).sw.damaged = h.sw.damaged := by
  unfold eccCorrected
  extract_lets sec c sw h1
  have same : h1.sw = { h.sw with ceThisSecond := c, ceSecond := sec } := tally_sw ..
  split
  · rw [fire_sw, flag_sw, same]
  · rw [same]

theorem eccCorrected_val {region : Nat} {e : Entry} (he : e.key < 0x600000) :
    (h.eccCorrected region).val e = (h.bump Od.eccCeCount 32 1).val e := by
  unfold eccCorrected
  extract_lets sec c sw h1
  have counted : h1.val e = (h.bump Od.eccCeCount 32 1).val e := tally_val he
  split
  · exact (fire_val (by decide) he).trans counted
  · exact counted

/-- What a word that cannot be corrected leaves: its address and region, a count, a flag and an event (R263). -/
structure records (g h : Hub) (region addr : Nat) : Prop where
  place : g.sw.ueAddr = addr
  info : g.sw.ueInfo = region
  count : g.val Od.eccUeCount = trunc 32 (h.val Od.eccUeCount + 1)
  flag : bit 6 (g.reg Rg.swFlags) = true
  raised : g.raised Ev.eccUncorrectable (u32 addr ++ u8 region ++ u8 0)

theorem eccBad_records {region addr : Nat} : (h.eccBad 0 region addr).records h region addr := by
  unfold eccBad
  extract_lets sw h1
  have counted : (h1.bump Od.eccUeCount 32 1).val Od.eccUeCount = trunc 32 (h.val Od.eccUeCount + 1) := val_bump ..
  refine ⟨?_, ?_, ?_, ?_, fire_raised (src := Ev.eccUncorrectable) (by decide) (by decide)⟩
  · rw [fire_sw, flag_sw, tally_sw, bump_sw]
  · rw [fire_sw, flag_sw, tally_sw, bump_sw]
    simp [h1]
  · rw [fire_val (by decide) (by decide)]
    exact (tally_val (by decide)).trans counted
  · rw [fire_reg (by decide), reg_flag]
    exact bit_setBit _ _

/-- A word leaves the list of the damaged ones. -/
def mended (h : Hub) (d : Nat × Nat × Nat) : Hub :=
  { h with sw := { h.sw with damaged := h.sw.damaged.filter (fun x => decide (x ≠ d)) } }

/-- The list of the damaged words is no part of what is recorded. -/
theorem records.mended {g : Hub} {region addr : Nat} {d : Nat × Nat × Nat} (hg : g.records h region addr) :
    (g.mended d).records h region addr := ⟨hg.place, hg.info, hg.count, hg.flag, hg.raised⟩

theorem scrubWord_corrects {d : Nat × Nat × Nat} {r : Hub × Nat × Nat} (few : d.2.2 ≤ 2) :
    scrubWord r d = ((r.1.mended d).eccCorrected d.1, r.2.1 + 1, r.2.2) := if_pos few

theorem scrubWord_records {d : Nat × Nat × Nat} {r : Hub × Nat × Nat} (many : 2 < d.2.2) :
    (scrubWord r d).1.records r.1 d.1 d.2.1 := by
  have bad := r.1.eccBad_records (region := d.1) (addr := d.2.1)
  unfold scrubWord
  rw [if_neg (by omega)]
  dsimp only
  split
  · exact bad
  · exact bad.mended

/-- No word that carries its damaged bits with it is damaged. -/
structure unharmed (h : Hub) : Prop where
  cells : ∀ b ∈ h.allCells, b.damage = 0 ∧ b.descDamage = 0
  jobs : ∀ j ∈ h.allJobs, j.damage = 0

/-- The scrubber passes over sound words (R264). -/
theorem scrubHeld_sound {region : Nat} {r : Hub × Nat × Nat} {l : List Nat} (sound : ∀ x ∈ l, x = 0) :
    l.foldl (scrubHeld region) r = r := by
  induction l with
  | nil => rfl
  | cons x l ih =>
    rw [List.foldl_cons, scrubHeld, if_pos (sound x List.mem_cons_self)]
    exact ih fun y hy => sound y (List.mem_cons_of_mem _ hy)

/-- Where one word alone is damaged, a scrub is that word's. -/
theorem scrub_one {d : Nat × Nat × Nat} (one : h.sw.damaged = [d]) (others : h.unharmed) :
    h.scrub = ((scrubWord (h, 0, 0) d).1.scrubState, (scrubWord (h, 0, 0) d).2) := by
  have damage : ∀ x ∈ h.allCells.map (·.damage), x = 0 := by simpa using fun b hb => (others.cells b hb).1
  have descDamage : ∀ x ∈ h.allCells.map (·.descDamage), x = 0 := by simpa using fun b hb => (others.cells b hb).2
  have jobs : ∀ x ∈ h.allJobs.map (·.damage), x = 0 := by simpa using others.jobs
  simp only [scrub, one, List.foldl_cons, List.foldl_nil, scrubHeld_sound damage, scrubHeld_sound descDamage, scrubHeld_sound jobs]

theorem scrub_corrects {d : Nat × Nat × Nat} (one : h.sw.damaged = [d]) (few : d.2.2 ≤ 2) (others : h.unharmed) :
    h.scrub = (((h.mended d).eccCorrected d.1).scrubState, 1, 0) := by rw [scrub_one one others, scrubWord_corrects few]

theorem mended_one {d : Nat × Nat × Nat} (one : h.sw.damaged = [d]) : (h.mended d).sw.damaged = [] := by simp [mended, one]

/-! ### The words of the classifier (R255, R263, R271) -/

theorem eccWrite_cls {region addr : Nat} : (h.eccWrite region addr).sw.cls = h.sw.cls := by
  dsimp only [eccWrite]
  split
  · rfl
  · split <;> rfl

theorem eccRead_undamaged {reader region addr : Nat} (none : h.sw.damaged = []) : h.eccRead reader region addr = (h, false) := by
  simp [eccRead, none]

/-- An injection is armed for a region in place of the one armed there (R271). -/
def armed (h : Hub) (region bits : Nat) : Hub :=
  { h with sw := { h.sw with inject := h.sw.inject.filter (fun x => decide (x.1 ≠ region)) ++ [(region, bits)] } }

/-- Entries of the classifier are read, n of them from the first on: the hub, and whether one cannot be corrected. -/
def clsReads (h : Hub) (first n : Nat) : Hub × Bool :=
  (List.range n).foldl (fun r k => ((r.1.eccRead 5 5 (first + k)).1, r.2 || (r.1.eccRead 5 5 (first + k)).2)) (h, false)

theorem clsReads_undamaged {first : Nat} (none : h.sw.damaged = []) : h.clsReads first n = (h, false) :=
  List.foldl_fixed' (fun _ => by rw [eccRead_undamaged none, Bool.or_self]) _

/-- The images of these entries. -/
def clsImages (h : Hub) (first n : Nat) : Bytes :=
  ((List.range n).map (fun k => (h.sw.cls.get ClsEntry.init (first + k)).image)).flatten

/-- Entry k of a CLS_WRITE as the hub stores it. -/
def clsGiven (h : Hub) (args : Bytes) (k : Nat) : ClsEntry :=
  if bit 31 (field args (4 + 16 * k) 4) then ⟨true, clsBytes ((args.drop (4 + 16 * k)).take 16) (h.ctx (field args (4 + 16 * k) 1)).clsNow⟩
  else ClsEntry.init

theorem clsPut_cls {args : Bytes} :
    (h.clsPut args k).sw.cls = h.sw.cls.set ClsEntry.init (field args 0 2 + k) (h.clsGiven args k) := by
  have head {w : Nat} (hw : w ≤ 16) : field ((args.drop (4 + 16 * k)).take 16) 0 w = field args (4 + 16 * k) w := by
    simp [field, List.take_take, hw]
  unfold clsPut
  rw [eccWrite_cls, head (by omega), head (by omega)]
  rfl

/-- The first n entries of a CLS_WRITE are written. -/
def clsPuts (h : Hub) (args : Bytes) (n : Nat) : Hub := (List.range n).foldl (fun g k => g.clsPut args k) h

theorem clsPuts_keeps {args : Bytes} : (h.clsPuts args n).keeps h [.sw] := foldl_keeps (fun _ _ => clsPut_keeps) _ .refl

theorem clsPuts_cls {args : Bytes} (n : Nat) : ∀ k < n,
    (h.clsPuts args n).sw.cls.get ClsEntry.init (field args 0 2 + k) = h.clsGiven args k := by
  induction n with
  | zero => simp
  | succ n ih =>
    intro k hk
    have next : h.clsPuts args (n + 1) = (h.clsPuts args n).clsPut args n := by
      rw [clsPuts, List.range_succ, List.foldl_append]
      rfl
    rw [next, clsPut_cls]
    by_cases last : k = n
    · rw [last, Tab.get_set, clsGiven, clsPuts_keeps.ctx, clsGiven]
    · rw [Tab.get_set_ne _ _ _ _ _ (by omega)]
      exact ih k (by omega)

/-- A CLS_WRITE whose arguments pass holds its entries and no more, at most 15. -/
theorem clsWriteArgs_length {args : Bytes} (passes : h.clsWriteArgs args = none) :
    args.length = 4 + 16 * field args 2 1 ∧ field args 2 1 ≤ 15 := by
  unfold clsWriteArgs at passes
  extract_lets n entries base at passes
  have first : base = none := by
    cases hb : base with
    | none => rfl
    | some a => simp [hb] at passes
  have checks := firstAbort_none.1 first
  simp only [List.mem_cons, List.not_mem_nil, or_false, forall_eq_or_imp, forall_eq, argLen, decide_eq_false_iff_not] at checks
  obtain ⟨-, -, few, -, length⟩ := checks
  exact ⟨not_not.1 length, by omega⟩

/-- The entries of a list are cleared. -/
def clsClears (h : Hub) (l : List Nat) : Hub := l.foldl (fun g k => (g.setCls k ClsEntry.init).eccWrite 5 k) h

theorem clsClears_keeps {l : List Nat} : (h.clsClears l).keeps h [.sw] := foldl_keeps (fun _ _ => clsCleared_keeps) _ .refl

theorem cleared_cells : ((h.setCls k ClsEntry.init).eccWrite 5 k).sw.cls.cells = cellsErase h.sw.cls.cells k := by
  rw [eccWrite_cls]
  exact congrArg Tab.cells (show (⟨cellsSet _ _ _ _⟩ : Tab ClsEntry) = ⟨_⟩ from congrArg _ (if_pos rfl))

/-- What is listed once entries are cleared was listed before, and is none of them. -/
theorem clsClears_cells (l : List Nat) : ∀ h : Hub, ∀ x ∈ (h.clsClears l).sw.cls.cells, x ∈ h.sw.cls.cells ∧ x.1 ∉ l := by
  induction l with
  | nil => exact fun _ _ hx => ⟨hx, List.not_mem_nil⟩
  | cons k l ih =>
    intro h x hx
    obtain ⟨stays, other⟩ := ih _ x hx
    rw [cleared_cells] at stays
    have listed : x ∈ h.sw.cls.cells := by
      have all := cellsErase_all (fun c => decide (c ∈ h.sw.cls.cells)) h.sw.cls.cells k (by simp)
      simpa using List.all_eq_true.1 all x stays
    exact ⟨listed, by simp [other, cellsErase_ne _ _ x stays]⟩

theorem clsClears_get (l : List Nat) : ∀ h : Hub, i ∉ l → (h.clsClears l).sw.cls.get ClsEntry.init i = h.sw.cls.get ClsEntry.init i := by
  induction l with
  | nil => exact fun _ _ => rfl
  | cons k l ih =>
    intro h hi
    obtain ⟨first, later⟩ := not_or.1 (List.mem_cons.not.1 hi)
    refine (ih _ later).trans ?_
    rw [eccWrite_cls]
    exact Tab.get_set_ne _ _ _ _ _ first

theorem mem_clsValidIn : k ∈ h.clsValidIn m n ↔ ∃ e : ClsEntry, (k, e) ∈ h.sw.cls.cells ∧ (m ≤ k ∧ k < m + n) ∧ e.valid = true := by
  simp [clsValidIn]

theorem clsValidIn_clsClears : (h.clsClears (h.clsValidIn m n)).clsValidIn m n = [] := by
  refine List.eq_nil_iff_forall_not_mem.2 fun k hk => ?_
  obtain ⟨e, he, within, valid⟩ := mem_clsValidIn.1 hk
  obtain ⟨listed, cleared⟩ := clsClears_cells _ _ _ he
  exact cleared (mem_clsValidIn.2 ⟨e, listed, within, valid⟩)

theorem clsValidIn_congr {a b : Hub} (hs : a.sw.cls = b.sw.cls) : a.clsValidIn m n = b.clsValidIn m n := by rw [clsValidIn, hs, clsValidIn]

end Operations
end Hub
end Sys2Proof.Machine

/-!
SUPPORT. The clauses of the switch's rows (O27). SCRUB_NOW reads every job that waits; the answer to the command itself may be one of them,
and it is sound.

`Elab.async` is off for the reason the frames give.
-/

namespace Sys2Proof.Machine

set_option Elab.async false

namespace Hub

section Operations

variable {h g : Hub} {req : Path} {c code tag : Nat} {args : Bytes}

theorem settled_sw {x : Access} : (h.keeperLeave x).settle.sw = h.sw := rfl

/-- Where the three lines stand as the rules say, settling changes nothing. -/
theorem settle_of_linesStand (hs : h.linesStand) : h.settle = h := by
  obtain ⟨evtN, irq, fault⟩ := hs
  obtain ⟨evtN', irq', fault'⟩ := h.settle_linesStand
  have evtN_same : h.settle.evt.evtN = h.evt.evtN := Bool.eq_iff_iff.2 (evtN'.trans evtN.symm)
  have irq_same : h.settle.evt.keeperIrq = h.evt.keeperIrq := Bool.eq_iff_iff.2 (irq'.trans irq.symm)
  have fault_same : h.settle.mode.faultN = h.mode.faultN := Bool.eq_iff_iff.2 (fault'.trans fault.symm)
  calc h.settle = { h with
          out := h.settle.out
          mode := { h.mode with faultN := h.settle.mode.faultN }
          evt := { h.evt with evtN := h.settle.evt.evtN, keeperIrq := h.settle.evt.keeperIrq } } := rfl
    _ = h := by rw [settle_out_of_linesStand ⟨evtN, irq, fault⟩, evtN_same, irq_same, fault_same]

/-! ### The commands, with their effects by name (R270, R271) -/

theorem cmdClsClear_eq : h.cmdClsClear req c tag args =
    h.issue req c 0x0601 tag args (firstAbort [argLen args 4, (decide (8192 < field args 0 2 + field args 2 2), abArg 4),
      (decide (field args 2 2 = 0 ∨ 8192 < field args 2 2), abArg 6)]) (firstState [(h.inFog, stFoghorn)])
      fun h => (h.clsClears (h.clsValidIn (field args 0 2) (field args 2 2))).finish c 0
        (u16 (h.clsValidIn (field args 0 2) (field args 2 2)).length) := rfl

theorem cmdClsRead_eq : h.cmdClsRead req c tag args =
    h.issue req c 0x0602 tag args (firstAbort [argLen args 3, (decide (8192 < field args 0 2 + field args 2 1), abArg 4),
      (decide (field args 2 1 = 0 ∨ 15 < field args 2 1), abArg 6)]) (firstState [(h.inFog, stFoghorn)])
      fun h =>
        let r := h.clsReads (field args 0 2) (field args 2 1)
        if r.2 then r.1.finish c (abHardware Ev.eccUncorrectable) []
        else r.1.finish c 0 (r.1.clsImages (field args 0 2) (field args 2 1)) := rfl

theorem cmdEccInject_eq : h.cmdEccInject req c tag args =
    h.issue req c 0x0603 tag args (firstAbort [argLen args 2, (decide (5 < field args 0 1), abArg 4),
      (decide (field args 1 1 = 0 ∨ 3 < field args 1 1), abArg 5)])
      (firstState [(decide (h.mode.active ≠ .bench) && !h.debugUnlocked, stDebugLocked)])
      fun h => (h.armed (field args 0 1) (field args 1 1)).finish c 0 [] := rfl

/-! ### What waits after an answer (R53) -/

/-- What an answer leaves to wait is a message, which holds no cell and is sound. -/
theorem answer_waiting {status : Abort} {d : Bytes} :
    ∀ j ∈ (h.answer req status d).eng.waiting, j ∈ h.eng.waiting ∨ (j.cells = [] ∧ j.damage = 0) := by
  cases req with
  | keeper => exact fun _ => .inl
  | mailbox =>
    dsimp only [answer]
    split <;> exact fun _ => .inl
  | odap q client =>
    dsimp only [answer]
    split
    · split
      · exact fun _ => .inl
      · simpa using fun _ => .inl
    · simpa using fun _ => .inl
    · exact fun _ => .inl
  | system q depth reqId =>
    dsimp only [answer]
    split
    · unfold sysRespond sysOut
      extract_lets hops
      split
      · intro j hj
        refine (List.mem_append.1 hj).imp id fun message => ?_
        rw [List.mem_singleton.1 message]
        exact ⟨rfl, rfl⟩
      · exact fun _ => .inl
    · exact fun _ => .inl

/-- Of the jobs that wait, those that waited at another hub, or are sound and hold no cell. -/
def soundWaiting (g h : Hub) : List Job :=
  g.eng.waiting.filter (fun j => decide (j ∈ h.eng.waiting) || (decide (j.cells = []) && decide (j.damage = 0)))

theorem mem_soundWaiting {j : Job} : j ∈ g.soundWaiting h ↔
    j ∈ g.eng.waiting ∧ (j ∈ h.eng.waiting ∨ (j.cells = [] ∧ j.damage = 0)) := by simp [soundWaiting]

/-- The hub with these alone waiting. -/
def soundBeside (g h : Hub) : Hub := { g with eng := { g.eng with waiting := g.soundWaiting h } }

theorem issued.soundBeside (hg : g.issued h req c code tag args) : (g.soundBeside h).issued h req c code tag args where
  chan := hg.chan
  gave := hg.gave
  kept := withEng_keeps.after hg.kept
  emmc := hg.emmc

/-- What a command starts with has no more waiting than that. -/
theorem issue_soundBeside {x : CtlSt} {start : Hub → Hub} :
    ({ h with ctl := x } : Hub).issue req c code tag args none none start =
      ({ h with ctl := x } : Hub).issue req c code tag args none none fun g => start (g.soundBeside h) := by
  let g0 := (({ h with ctl := x } : Hub).accept c code tag args).answer req 0 []
  have all : g0.soundWaiting h = g0.eng.waiting := List.filter_eq_self.2 fun j hj => by simpa using answer_waiting j hj
  have accepted : g0.soundBeside h = g0 := by rw [Hub.soundBeside, all]
  simp only [issue, g0] at accepted ⊢
  rw [accepted]

theorem soundBeside_unharmed (hg : g.issued h req c code tag args) (eng : g.eng = { h.eng with waiting := g.eng.waiting })
    (sound : h.unharmed) : (g.soundBeside h).unharmed := by
  have job {j : Job} (hj : j ∈ (g.soundBeside h).allJobs) : j ∈ h.allJobs ∨ (j.cells = [] ∧ j.damage = 0) := by
    have tenders : (g.soundBeside h).eng.tenders = h.eng.tenders := show g.eng.tenders = _ by rw [eng]
    rw [allJobs, tenders] at hj
    rcases List.mem_append.1 hj with waits | dispatched
    · exact (mem_soundWaiting.1 waits).2.imp (List.mem_append_left _) id
    · exact .inl (List.mem_append_right _ dispatched)
  refine ⟨fun b hb => ?_, fun j hj => (job hj).elim (sound.jobs j) And.right⟩
  have kept := hg.soundBeside.kept
  rw [allCells, show (g.soundBeside h).plan = h.plan from kept .plan (by decide), show (g.soundBeside h).tun = h.tun from
    kept .tun (by decide), show (g.soundBeside h).links = h.links from kept .links (by decide)] at hb
  refine sound.cells b ?_
  simp only [List.mem_append, allCells] at hb ⊢
  refine hb.imp (Or.imp id fun inJob => ?_) id
  obtain ⟨cells, hcells, hb⟩ := List.mem_flatten.1 inJob
  obtain ⟨j, hj, rfl⟩ := List.mem_map.1 hcells
  rcases job hj with was | ⟨empty, -⟩
  · exact List.mem_flatten.2 ⟨_, List.mem_map_of_mem was, hb⟩
  · simp [empty] at hb

end Operations
end Hub

section Clauses

open Hub

variable {s : State} {n : Fin 8} {d : Nat × Nat × Nat}

/-! ### Priority flow control (R250) -/

theorem pfcFrame_pauses {mask : Byte} {times : List (BitVec 16)} (live : s.hub.live) (on : s.hub.val (Od.ingPfcEnable (n + 3)) ≠ 0) :
    Completes (.pfcFrame n mask times) s fun h => (∀ p : Fin 8, bit p (h.sw.paused.get 0 n) =
      if bit p mask.toNat then decide (times.getD p 0 ≠ 0) else bit p (s.hub.sw.paused.get 0 n)) ∧
        h.sw.pfcIgnored = s.hub.sw.pfcIgnored := by
  refine completes_onHub (fun h => h.pfcReceive n mask.toNat (times.map (·.toNat))) live ?_
  rw [settle_sw, pfcReceive_honoured on]
  refine ⟨fun p => ?_, rfl⟩
  have time : (times.map (·.toNat)).getD p 0 = (times.getD p 0).toNat := List.getD_map times 0 BitVec.toNat
  have zero : (times.getD p 0).toNat = 0 ↔ times.getD p 0 = 0 := by rw [← BitVec.toNat_inj]; rfl
  rw [Tab.get_set, bit_pfcMarks, time]
  simp only [ne_eq, zero, List.mem_range, p.isLt, true_and]

theorem pfcFrame_ignored {mask : Byte} {times : List (BitVec 16)} (live : s.hub.live) (off : s.hub.val (Od.ingPfcEnable (n + 3)) = 0) :
    Completes (.pfcFrame n mask times) s fun h => h.sw.paused = s.hub.sw.paused ∧
      h.sw.pfcIgnored.get 0 n = s.hub.sw.pfcIgnored.get 0 n + 1 := by
  refine completes_onHub (fun h => h.pfcReceive n mask.toNat (times.map (·.toNat))) live ?_
  rw [settle_sw, pfcReceive_ignored off]
  exact ⟨rfl, Tab.get_set ..⟩

theorem pfcRefresh_repeats (live : s.hub.live) (paused : s.hub.sw.pfcSent.get 0 (n + 3) ≠ 0)
    (on : s.hub.val (Od.ingPfcEnable (n + 3)) ≠ 0) : Completes (.pfcRefresh n) s fun h =>
      h.gave s.hub (.frame (0x10 + n) (s.hub.pfcFrame (n + 3) (s.hub.sw.pfcSent.get 0 (n + 3)) (s.hub.sw.pfcSent.get 0 (n + 3)))) ∧
        h.sw = s.hub.sw := by
  have sends : s.hub.pfcRefresh n = _ := if_neg (not_or.2 ⟨paused, on⟩)
  refine completes_onHub (fun h => h.pfcRefresh n) live ?_
  rw [sends]
  exact ⟨(gave_emit.mono (tally_calm.out) (List.suffix_refl _)).settled, tally_sw ..⟩

theorem pfcRefresh_silent (live : s.hub.live) (none : s.hub.sw.pfcSent.get 0 (n + 3) = 0) :
    Completes (.pfcRefresh n) s fun h => h.sw = s.hub.sw ∧ h.od = s.hub.od := by
  have silent : s.hub.pfcRefresh n = s.hub := if_pos (.inl none)
  refine completes_onHub (fun h => h.pfcRefresh n) live ?_
  rw [silent]
  exact ⟨rfl, rfl⟩

theorem pfcPauseExpiry_completes {p : Fin 8} (live : s.hub.live) : Completes (.pfcPauseExpiry n p) s fun h =>
    bit p (h.sw.paused.get 0 n) = false ∧ ∀ q : Fin 8, q ≠ p → bit q (h.sw.paused.get 0 n) = bit q (s.hub.sw.paused.get 0 n) := by
  have paused : (s.hub.sw.paused.set 0 n (clearBit p (s.hub.sw.paused.get 0 n))).get 0 n = clearBit p (s.hub.sw.paused.get 0 n) :=
    Tab.get_set ..
  refine completes_onHub (fun h => { h with sw := { h.sw with paused := h.sw.paused.set 0 n (clearBit p (h.sw.paused.get 0 n)) } }) live ?_
  rw [settle_sw, paused]
  exact ⟨bit_clearBit _ _, fun q hq => bit_clearBit_ne _ (Fin.val_ne_of_ne hq)⟩

theorem pfcStuck_raises (live : s.hub.live) (pauses : s.hub.pausing n ≠ 0) : Completes (.pfcStuck n) s fun h =>
    bit 7 (h.reg Rg.swFlags) = true ∧ h.raised Ev.pfcStuck (u8 n ++ u8 (s.hub.pausing n)) ∧ h.sw = s.hub.sw := by
  refine completes_onHub (fun h => if h.pausing n = 0 then h else (h.flag Rg.swFlags 7).fire Ev.pfcStuck (u8 n ++ u8 (h.pausing n))) live ?_
  rw [if_neg pauses]
  refine ⟨?_, settle_raised (fire_raised (by decide) (by decide)), fire_sw ..⟩
  rw [reg_congr (settle_regs _), fire_reg (by decide)]
  exact bit_flag (n := 7)

theorem pfcStuck_idle (live : s.hub.live) (none : s.hub.pausing n = 0) (stand : s.hub.linesStand) :
    Completes (.pfcStuck n) s fun h => h = s.hub := by
  refine completes_onHub (fun h => if h.pausing n = 0 then h else (h.flag Rg.swFlags 7).fire Ev.pfcStuck (u8 n ++ u8 (h.pausing n))) live ?_
  rw [if_pos none]
  exact settle_of_linesStand stand

/-! ### Mirror frames and the sweep (R258, R263) -/

theorem mirrorFrameClose_completes {m : Fin 4} (live : s.hub.live) (holds : (s.hub.mirror m).count ≠ 0) :
    Completes (.mirrorFrameClose m) s fun h => (h.mirror m).count = 0 ∧ (h.mirror m).cells = [] ∧ (h.mirror m).yellow = false ∧
      h.sw.mirrorQ = s.hub.sw.mirrorQ ++ [⟨s.hub.val (Od.mirDest m), m, s.hub.mirrorFrame m (s.hub.mirror m).cells (s.hub.mirror m).yellow
        (s.hub.mirror m).skipRun (s.hub.mirror m).count (s.hub.mirrorMax m), mirrorWords (32 * (s.hub.mirror m).count),
        (s.hub.mirror m).count⟩] := by
  have closes : s.hub.mirrorClose m = _ := if_neg holds
  refine completes_onHub (fun h => h.mirrorClose m) live ?_
  have session (h : Hub) : h.settle.mirror m = h.mirror m := rfl
  rw [closes, settle_sw, mirrorPut_queue, session, mirrorPut_mirror, mirror_setMirror]
  exact ⟨rfl, rfl, rfl, rfl⟩

theorem sweepComplete_completes (live : s.hub.live) : Completes .sweepComplete s fun h => h.sw = { s.hub.sw with sweep := false } :=
  completes_onHub (fun h => { h with sw := { h.sw with sweep := false } }) live rfl

/-! ### The scrubber (R264) -/

theorem scrubPass_corrects (live : s.hub.live) (one : s.hub.sw.damaged = [d]) (few : d.2.2 ≤ 2) (others : s.hub.unharmed) :
    Completes .scrubPass s fun h => h.sw.damaged = [] ∧ h.val Od.eccCeCount = trunc 32 (s.hub.val Od.eccCeCount + 1) ∧
      h.val Od.eccUeCount = s.hub.val Od.eccUeCount := by
  refine completes_onHub (fun h => h.scrub.1) live ?_
  rw [scrub_corrects one few others]
  refine ⟨eccCorrected_damaged.trans (mended_one one), ?_, ?_⟩
  · exact (eccCorrected_val (by decide)).trans (val_bump ..)
  · exact (eccCorrected_val (by decide)).trans (val_bump_ne _ _ _ _ _ (by decide))

theorem scrubPass_records (live : s.hub.live) (one : s.hub.sw.damaged = [d]) (many : 2 < d.2.2) (others : s.hub.unharmed) :
    Completes .scrubPass s fun h => h.sw.ueAddr = d.2.1 ∧ h.sw.ueInfo = d.1 ∧
      h.val Od.eccUeCount = trunc 32 (s.hub.val Od.eccUeCount + 1) ∧ bit 6 (h.reg Rg.swFlags) = true ∧
        h.raised Ev.eccUncorrectable (u32 d.2.1 ++ u8 d.1 ++ u8 0) := by
  have word := scrubWord_records (r := (s.hub, 0, 0)) many
  refine completes_onHub (fun h => h.scrub.1) live ?_
  rw [scrub_one one others]
  exact ⟨word.place, word.info, word.count, word.flag, word.raised⟩

/-! ### The classification and ECC commands (R270, R271) -/

variable {req : Path} {c : Fin 8} {tag : BitVec 16} {args : Bytes}

theorem firstState_of_notInFog (noFog : s.hub.inFog = false) : firstState [(s.hub.inFog, stFoghorn)] = none := by simp [firstState_none, noFog]

theorem scrubNow_completes (ht : s.hub.takes req c 0x0604) (noFog : s.hub.inFog = false) (one : s.hub.sw.damaged = [d]) (few : d.2.2 ≤ 2)
    (others : s.hub.unharmed) : Completes (.scrubNow req c tag []) s fun h =>
      h.sw.damaged = [] ∧ h.ended c 0x0604 tag.toNat 0 (u32 1 ++ u32 0) := by
  let scrubs (g : Hub) : Hub := g.scrub.1.finish c 0 (u32 g.scrub.2.1 ++ u32 g.scrub.2.2)
  refine completes_onServed (tag := tag.toNat) (f := fun h => h.cmdScrubNow req c tag.toNat []) (fun g => scrubs (g.soundBeside s.hub)) ht
    (by simp) (fun _ => (issue_unrefused (by decide) (firstState_of_notInFog noFog)).trans issue_soundBeside) fun g a hg eng => ?_
  let g1 := g.soundBeside s.hub
  have one1 : g1.sw.damaged = [d] := (congrArg SwSt.damaged (hg.kept .sw (by decide))).trans one
  have corrected : scrubs g1 = (((g1.mended d).eccCorrected d.1).scrubState).finish c 0 (u32 1 ++ u32 0) := by
    simp only [scrubs, scrub_corrects one1 few (soundBeside_unharmed hg eng others)]
  have runs : (((g1.mended d).eccCorrected d.1).scrubState).chan c = g1.chan c :=
    chan_congr (congrArg CtlSt.channels (eccCorrected_keeps (h := g1.mended d) .ctl (by decide))) _
  rw [show scrubs (g.soundBeside s.hub) = _ from corrected]
  refine ⟨?_, settled_ended (hg.soundBeside.ends runs)⟩
  rw [settled_sw, finish_sw]
  exact eccCorrected_damaged.trans (mended_one one1)

theorem clsWrite_completes (ht : s.hub.takes req c 0x0600) (noFog : s.hub.inFog = false) (passes : s.hub.clsWriteArgs args = none) :
    Completes (.clsWrite req c tag args) s fun h => h.ended c 0x0600 tag.toNat 0 (u16 (field args 2 1)) ∧
      h.gave s.hub (.answer req 0 []) ∧
      ∀ k < field args 2 1, h.sw.cls.get ClsEntry.init (field args 0 2 + k) = s.hub.clsGiven args k := by
  obtain ⟨length, few⟩ := clsWriteArgs_length passes
  refine completes_onIssued (tag := tag.toNat) (f := fun h => h.cmdClsWrite req c tag.toNat args)
    (fun h => (h.clsPuts args (field args 2 1)).finish c 0 (u16 (field args 2 1))) ht (by omega)
    (fun _ => issue_unrefused passes (firstState_of_notInFog noFog)) fun g a hg => ?_
  have runs : (g.clsPuts args (field args 2 1)).chan c = g.chan c :=
    chan_congr (congrArg CtlSt.channels (clsPuts_keeps .ctl (by decide))) _
  refine ⟨settled_ended (hg.ends runs), hg.answered (finish_calm.trans clsPuts_keeps.calm), fun k hk => ?_⟩
  rw [settled_sw, finish_sw, clsPuts_cls _ k hk, clsGiven, hg.ctx, clsGiven]

theorem clsClear_completes (ht : s.hub.takes req c 0x0601) (noFog : s.hub.inFog = false) (length : args.length = 4)
    (some_ : field args 2 2 ≠ 0) (range : field args 0 2 + field args 2 2 ≤ 8192) :
    Completes (.clsClear req c tag args) s fun h => h.clsValidIn (field args 0 2) (field args 2 2) = [] ∧
      h.ended c 0x0601 tag.toNat 0 (u16 (s.hub.clsValidIn (field args 0 2) (field args 2 2)).length) ∧
      ∀ k < 8192, k < field args 0 2 ∨ field args 0 2 + field args 2 2 ≤ k →
        h.sw.cls.get ClsEntry.init k = s.hub.sw.cls.get ClsEntry.init k := by
  have valid : firstAbort [argLen args 4, (decide (8192 < field args 0 2 + field args 2 2), abArg 4),
      (decide (field args 2 2 = 0 ∨ 8192 < field args 2 2), abArg 6)] = none := by
    simp [firstAbort_none, argLen, length, some_]
    omega
  refine completes_onIssued (tag := tag.toNat) (f := fun h => h.cmdClsClear req c tag.toNat args)
    (fun h => (h.clsClears (h.clsValidIn (field args 0 2) (field args 2 2))).finish c 0
      (u16 (h.clsValidIn (field args 0 2) (field args 2 2)).length)) ht (length.trans_le (by decide))
    (fun _ => by rw [cmdClsClear_eq]; exact issue_unrefused valid (firstState_of_notInFog noFog)) fun g a hg => ?_
  have sameSw : g.sw = s.hub.sw := hg.kept .sw (by decide)
  have same : g.clsValidIn (field args 0 2) (field args 2 2) = s.hub.clsValidIn (field args 0 2) (field args 2 2) :=
    clsValidIn_congr (congrArg SwSt.cls sameSw)
  have runs : (g.clsClears (g.clsValidIn (field args 0 2) (field args 2 2))).chan c = g.chan c :=
    chan_congr (congrArg CtlSt.channels (clsClears_keeps .ctl (by decide))) _
  refine ⟨?_, ?_, fun k _ outside => ?_⟩
  · rw [clsValidIn_congr (congrArg SwSt.cls (settled_sw.trans (finish_sw ..)))]
    exact clsValidIn_clsClears
  · rw [← same]
    exact settled_ended (hg.ends runs)
  · have kept : k ∉ g.clsValidIn (field args 0 2) (field args 2 2) := fun hk => by
      obtain ⟨_, _, within, _⟩ := mem_clsValidIn.1 hk
      omega
    rw [settled_sw, finish_sw, clsClears_get _ _ kept, sameSw]

theorem clsRead_completes (ht : s.hub.takes req c 0x0602) (noFog : s.hub.inFog = false) (length : args.length = 3)
    (few : 1 ≤ field args 2 1 ∧ field args 2 1 ≤ 15) (range : field args 0 2 + field args 2 1 ≤ 8192) (sound : s.hub.sw.damaged = []) :
    Completes (.clsRead req c tag args) s fun h => h.sw = s.hub.sw ∧ h.ended c 0x0602 tag.toNat 0
      ((List.range (field args 2 1)).map (fun k => (s.hub.sw.cls.get ClsEntry.init (field args 0 2 + k)).image)).flatten := by
  have valid : firstAbort [argLen args 3, (decide (8192 < field args 0 2 + field args 2 1), abArg 4),
      (decide (field args 2 1 = 0 ∨ 15 < field args 2 1), abArg 6)] = none := by
    simp [firstAbort_none, argLen, length]
    omega
  refine completes_onIssued (tag := tag.toNat) (f := fun h => h.cmdClsRead req c tag.toNat args)
    (fun h =>
      let r := h.clsReads (field args 0 2) (field args 2 1)
      if r.2 then r.1.finish c (abHardware Ev.eccUncorrectable) [] else r.1.finish c 0 (r.1.clsImages (field args 0 2) (field args 2 1)))
    ht (length.trans_le (by decide)) (fun _ => by rw [cmdClsRead_eq]; exact issue_unrefused valid (firstState_of_notInFog noFog)) fun g a hg => ?_
  have same : g.sw = s.hub.sw := hg.kept .sw (by decide)
  have data : g.clsImages (field args 0 2) (field args 2 1) = s.hub.clsImages (field args 0 2) (field args 2 1) := by
    rw [clsImages, same, clsImages]
  dsimp only
  rw [clsReads_undamaged (by rw [same, sound]), if_neg (by simp), data]
  exact ⟨(finish_sw ..).trans same, settled_ended (hg.ends rfl)⟩

theorem eccInject_completes (ht : s.hub.takes req c 0x0603) (bench : s.hub.mode.active = .bench) (length : args.length = 2)
    (region : field args 0 1 ≤ 5) (few : 1 ≤ field args 1 1 ∧ field args 1 1 ≤ 3) :
    Completes (.eccInject req c tag args) s fun h =>
      h.sw.inject = s.hub.sw.inject.filter (fun x => decide (x.1 ≠ field args 0 1)) ++ [(field args 0 1, field args 1 1)] ∧
        h.ended c 0x0603 tag.toNat 0 [] := by
  have valid : firstAbort [argLen args 2, (decide (5 < field args 0 1), abArg 4),
      (decide (field args 1 1 = 0 ∨ 3 < field args 1 1), abArg 5)] = none := by
    simp [firstAbort_none, argLen, length]
    omega
  have states : firstState [(decide (s.hub.mode.active ≠ .bench) && !s.hub.debugUnlocked, stDebugLocked)] = none := by
    simp [firstState_none, bench]
  refine completes_onIssued (tag := tag.toNat) (f := fun h => h.cmdEccInject req c tag.toNat args)
    (fun h => (h.armed (field args 0 1) (field args 1 1)).finish c 0 []) ht (length.trans_le (by decide))
    (fun _ => by rw [cmdEccInject_eq]; exact issue_unrefused valid states) fun g a hg => ?_
  have same : g.sw = s.hub.sw := hg.kept .sw (by decide)
  refine ⟨?_, settled_ended (hg.ends rfl)⟩
  rw [settled_sw, finish_sw, ← same]
  rfl

/-- Settles O27: each clause runs one operation of the switch, alone or as a command that Keeper serves. -/
theorem switchRowsFollowFlowControlAndClassification : Obligations.SwitchRowsFollowFlowControlAndClassification := by
  unfold Obligations.SwitchRowsFollowFlowControlAndClassification
  refine ⟨?pauses, ?ignored, ?repeats, ?silent, ?expiry, ?stuck, ?notStuck, ?mirror, ?sweep, ?corrects, ?records, ?scrub, ?write, ?clear,
    ?read, ?inject⟩
  case pauses => exact fun _ _ _ _ live on => pfcFrame_pauses live on
  case ignored => exact fun _ _ _ _ live off => pfcFrame_ignored live off
  case repeats => exact fun _ _ live paused on => pfcRefresh_repeats live paused on
  case silent => exact fun _ _ live none => pfcRefresh_silent live none
  case expiry => exact fun _ _ _ live => pfcPauseExpiry_completes live
  case stuck => exact fun _ _ live pauses => pfcStuck_raises live pauses
  case notStuck => exact fun _ _ live none stand => pfcStuck_idle live none stand
  case mirror => exact fun _ _ live holds => mirrorFrameClose_completes live holds
  case sweep => exact fun _ live => sweepComplete_completes live
  case corrects => exact fun _ _ live one few cells jobs => scrubPass_corrects live one few ⟨cells, jobs⟩
  case records => exact fun _ _ live one many cells jobs => scrubPass_records live one many ⟨cells, jobs⟩
  case scrub => exact fun _ _ _ _ _ ht noFog one few cells jobs => scrubNow_completes ht noFog one few ⟨cells, jobs⟩
  case write => exact fun _ _ _ _ _ ht noFog passes => clsWrite_completes ht noFog passes
  case clear => exact fun _ _ _ _ _ ht noFog length some_ range => clsClear_completes ht noFog length some_ range
  case read => exact fun _ _ _ _ _ ht noFog length few range sound => clsRead_completes ht noFog length few range sound
  case inject => exact fun _ _ _ _ _ ht bench length region few => eccInject_completes ht bench length region few

end Clauses

end Sys2Proof.Machine

/-!
SUPPORT. Frames of the Beacon's inputs, probes and segments, of the daymarks and Lamps, and of the Ethernet, CAN, storage and serial ports:
one lemma for each operation that had none, read off its definition, and from them the frames of the commands.

`Elab.async` is off for the reason the frames give.
-/

namespace Sys2Proof.Machine.Hub

set_option Elab.async false

section Operations

variable {h : Hub} {l : List Part} {p n c k e b : Nat}

/-! ### Inputs of the Beacon (R273 to R283) -/

theorem restoreEnds_keeps : h.restoreEnds.keeps h [.od, .regs, .ctl, .evt, .bcn, .dm, .pwr] := by
  unfold restoreEnds
  extract_lets due bcn h1
  exact ite_keeps .refl (foldl_keeps (fun _ _ => done_keeps.within) _ withBcn_keeps.within)

theorem restoreFails_keeps : (h.restoreFails b).keeps h [.od, .regs, .ctl, .evt, .bcn, .dm, .pwr] := by
  unfold restoreFails
  extract_lets mine bcn h1
  exact foldl_keeps (fun _ _ => done_keeps.within) _ withBcn_keeps.within

theorem encFault_keeps {cause : Nat} : (h.encFault n cause).keeps h [.od, .regs, .ctl, .evt, .bcn, .dm, .pwr] := by
  unfold encFault
  extract_lets x h0 h1
  have h1k : h1.keeps h [.od, .regs, .ctl, .evt, .bcn, .dm, .pwr] :=
    fire_keeps.after (flag_keeps.after (setEncoder_keeps.after restoreEnds_keeps))
  refine ite_keeps .refl ?_
  split
  · exact h1k
  · exact restoreFails_keeps.after (resource_keeps.after h1k)

theorem stallCheck_keeps : (h.stallCheck n).keeps h [.od, .regs, .ctl, .evt, .bcn, .dm, .pwr] := by
  unfold stallCheck
  extract_lets x p
  exact ite_keeps encFault_keeps .refl

theorem bearingCount_keeps {d turned : Int} {te : Nat} :
    (h.bearingCount n d turned te).keeps h [.od, .regs, .ctl, .evt, .bcn, .dm, .pwr] := by
  unfold bearingCount
  split
  · exact stallCheck_keeps
  · refine ite_keeps .refl ?_
    extract_lets x step pos r joined y h1
    have h1k : h1.keeps h [.od, .regs, .ctl, .evt, .bcn, .dm, .pwr] := setBearing_keeps.within
    exact ite_keeps (fire_keeps.after (flag_keeps.after h1k)) h1k

theorem zEdge_keeps : (h.zEdge n).keeps h [.od, .regs, .ctl, .evt, .bcn, .dm, .pwr] := by
  unfold zEdge
  extract_lets x m want cpr diff missed found h2
  have missedk : missed.keeps h [.od, .regs, .ctl, .evt, .bcn, .dm, .pwr] := setEncoder_keeps.within
  have foundk : found.keeps h [.od, .regs, .ctl, .evt, .bcn, .dm, .pwr] := setEncoder_keeps.within
  have h2k : h2.keeps h [.od, .regs, .ctl, .evt, .bcn, .dm, .pwr] := fire_keeps.after (flag_keeps.after foundk)
  refine ite_keeps .refl (ite_keeps (ite_keeps (encFault_keeps.trans missedk) missedk) (ite_keeps ?_ foundk))
  split
  · exact ite_keeps (setBearing_keeps.after h2k) h2k
  · exact h2k

theorem encoderEdge_keeps {a z y : Bool} : (h.encoderEdge n a z y).keeps h [.od, .regs, .ctl, .evt, .bcn, .dm, .pwr] := by
  unfold encoderEdge
  extract_lets x te mode r d zRise levels h1 times bad w counted h2
  have h1k : h1.keeps h [.od, .regs, .ctl, .evt, .bcn, .dm, .pwr] := setEncoder_keeps.within
  have badk : bad.keeps h [.od, .regs, .ctl, .evt, .bcn, .dm, .pwr] := tally_keeps.after (setEncoder_keeps.after h1k)
  have countedk : counted.keeps h [.od, .regs, .ctl, .evt, .bcn, .dm, .pwr] := tally_keeps.after (setEncoder_keeps.after h1k)
  have h2k : h2.keeps h [.od, .regs, .ctl, .evt, .bcn, .dm, .pwr] :=
    ite_keeps (ite_keeps (encFault_keeps.trans badk) badk) (ite_keeps h1k (ite_keeps (bearingCount_keeps.trans countedk) countedk))
  exact ite_keeps h1k (ite_keeps (zEdge_keeps.trans h2k) h2k)

theorem standstill_keeps : (h.standstill b).keeps h [.od, .regs, .evt, .bcn, .pwr] := by
  unfold standstill
  extract_lets x
  exact ite_keeps .refl (fire_keeps.after (flag_keeps.after setBearing_keeps.within))

/-! ### Segments of the bearings (R285, R289) -/

theorem segmentStart_keeps {f : Nat} : (h.segmentStart f b).keeps h [.od, .regs, .evt, .bcn, .pwr] := by
  unfold segmentStart
  extract_lets x r moved y h1 h2
  have h1k : h1.keeps h [.od, .regs, .evt, .bcn, .pwr] := setBearing_keeps.within
  have h2k : h2.keeps h [.od, .regs, .evt, .bcn, .pwr] := ite_keeps (tally_keeps.after h1k) h1k
  exact ite_keeps (fire_keeps.after (tally_keeps.after (flag_keeps.after h2k)))
    (ite_keeps (fire_keeps.after (flag_keeps.after h2k)) h2k)

theorem segmentNext_keeps :
    h.segmentNext.keeps h [.clock, .draws, .out, .od, .regs, .evt, .lanes, .links, .eng, .bcn, .dm, .pair, .pwr] := by
  unfold segmentNext
  extract_lets s h1 bcn h2
  have h2k : h2.keeps h [.clock, .od, .regs, .evt, .bcn, .pwr] := withBcn_keeps.after (b := h1) reach_keeps.within
  exact bearingsMoved_keeps.after ((foldl_keeps (fun _ _ => segmentStart_keeps.within) _ h2k).within)

/-! ### Delay probes (R292, R293, R306) -/

theorem probeRequest_keeps {seq : Nat} : (h.probeRequest p seq).keeps h [.draws, .out, .lanes, .links] := by
  unfold probeRequest
  extract_lets o locked
  exact ite_keeps (pacedOut_keeps.after open_keeps.within) .refl

theorem probeValue_keeps {v : Int} : (h.probeValue p v).keeps h [.od, .regs, .evt, .bcn, .pwr] := by
  unfold probeValue
  extract_lets x rejects y h1 bcn
  have h1k : h1.keeps h [.od, .regs, .evt, .bcn, .pwr] := setProbe_keeps.within
  exact ite_keeps (fire_keeps.after (flag_keeps.after (bump_keeps.after setProbe_keeps.within))) (ite_keeps (withBcn_keeps.after h1k) h1k)

theorem probeNext_keeps : (h.probeNext p).keeps h [.out, .lanes, .links, .bcn] := by
  unfold probeNext
  extract_lets x
  split
  · exact probeSend_keeps.trans setProbe_keeps.within
  · exact .refl

theorem probeResponse_keeps {seq turn offset : Nat} {upLocked : Bool} :
    (h.probeResponse p seq upLocked turn offset).keeps h [.out, .od, .regs, .ctl, .evt, .lanes, .links, .bcn, .dm, .pwr] := by
  unfold probeResponse
  extract_lets x
  split
  · exact .refl
  · extract_lets rtt v y h1
    exact ite_keeps .refl (probeNext_keeps.after (doneOpt_keeps.after (probeValue_keeps.after (tally_keeps.after setProbe_keeps.within))))

theorem probeFail_keeps : (h.probeFail p).keeps h [.out, .od, .regs, .ctl, .evt, .lanes, .links, .bcn, .dm, .pwr] := by
  unfold probeFail
  extract_lets x
  split
  · exact probeNext_keeps.after (done_keeps.after setProbe_keeps.within)
  · exact .refl

/-! ### The timebase locks (R294) -/

theorem correctClock_keeps {d : Int} : (h.correctClock p d).keeps h [.clock, .od, .regs, .evt, .bcn, .pwr] := by
  unfold correctClock
  extract_lets x bcn h1
  have h1k : h1.keeps h [.clock, .od, .regs, .evt, .bcn, .pwr] := ite_keeps withClockBcn_keeps.within withBcn_keeps.within
  exact ite_keeps .refl (fire_keeps.after (flag_keeps.after h1k))

theorem timebaseLock_keeps :
    h.timebaseLock.keeps h [.clock, .draws, .out, .od, .regs, .evt, .lanes, .links, .eng, .bcn, .dm, .pair, .pwr] := by
  unfold timebaseLock
  split
  next p d _ _ =>
    extract_lets h1 bcn
    have h1k : h1.keeps h [.clock, .od, .regs, .evt, .bcn, .pwr] := correctClock_keeps
    exact ite_keeps (ite_keeps (withBcn_keeps.after h1k.within) (enterLocked_keeps.after (withBcn_keeps.after h1k.within))) .refl
  · exact .refl

/-! ### The commands of the Beacon (R305, R306) -/

theorem encClear_keeps : (h.encClear n).keeps h [.bcn] := by
  unfold encClear
  extract_lets x
  exact ite_keeps setEncoder_keeps .refl

theorem restoreStart_keeps : (h.restoreStart b c).keeps h [.od, .regs, .ctl, .evt, .bcn, .dm, .pwr] := by
  unfold restoreStart
  extract_lets h1 h2 bcn
  have h1k : h1.keeps h [.od, .regs, .ctl, .evt, .bcn, .dm, .pwr] := encClear_keeps.within
  have h2k : h2.keeps h [.od, .regs, .ctl, .evt, .bcn, .dm, .pwr] := resource_keeps.after (ite_keeps (encClear_keeps.after h1k) h1k)
  exact ite_keeps done_keeps.within (withBcn_keeps.after (b := h2) h2k)

theorem captureFire_keeps : h.captureFire.keeps h [.clock, .od, .regs, .ctl, .evt, .bcn, .dm, .pwr] := by
  unfold captureFire
  split
  · exact .refl
  · extract_lets h1 bcn h2
    have h2k : h2.keeps h [.clock, .bcn] := withBcn_keeps.after (b := h1) reach_keeps
    exact done_keeps.after h2k.within

theorem cmdBearingRestore_keeps {r : Path} {tag : Nat} {args : Bytes} :
    (h.cmdBearingRestore r c tag args).keeps h [.out, .od, .regs, .ctl, .evt, .eng, .bcn, .dm, .io, .pwr] :=
  issue_keeps fun _ => restoreStart_keeps.within

theorem cmdBeaconCapture_keeps {r : Path} {tag : Nat} {args : Bytes} :
    (h.cmdBeaconCapture r c tag args).keeps h [.out, .ctl, .eng, .bcn, .io] :=
  issue_keeps fun _ => withBcn_keeps.within

theorem cmdProbeNow_keeps {r : Path} {tag : Nat} {args : Bytes} :
    (h.cmdProbeNow r c tag args).keeps h [.out, .ctl, .lanes, .links, .eng, .bcn, .io] :=
  issue_keeps fun _ => probeNext_keeps.after setProbe_keeps.within

/-! ### Daymarks (R320 to R323, R333) -/

theorem dmTrail_keeps : h.dmTrail.keeps h [.clock, .draws, .out, .od, .regs, .evt, .eng, .bcn, .dm, .pair, .pwr] := by
  unfold dmTrail
  split
  · exact .refl
  next d _ t ahead _ =>
    extract_lets h1 r
    have h1k : h1.keeps h [.clock, .od, .regs, .bcn, .dm] := reach_keeps.within
    have rk : r.1.keeps h [.clock, .od, .regs, .bcn, .dm] := by
      unfold r
      split
      · exact h1k
      · exact dmEdge_keeps.after h1k
    exact ite_keeps (dmAhead_keeps.after h1k.within) (reportDaymark_keeps.after (releaseSlot_keeps.after rk.within))

theorem dmTimeout_keeps : h.dmTimeout.keeps h [.clock, .draws, .out, .od, .regs, .evt, .eng, .bcn, .dm, .pair, .pwr] := by
  unfold dmTimeout
  split
  · exact .refl
  · extract_lets h1 r
    have rk : r.1.keeps h [.clock, .od, .regs, .bcn, .dm] := lampEdge_keeps.after (flag_keeps.after reach_keeps.within)
    exact reportDaymark_keeps.after (releaseSlot_keeps.after rk.within)

theorem pulseEnd_keeps : (h.pulseEnd n).keeps h [.clock, .od, .regs, .bcn, .dm] := by
  unfold pulseEnd
  extract_lets x
  split
  · exact .refl
  · extract_lets h1
    exact lampEdge_keeps.after (setLamp_keeps.after reach_keeps.within)

theorem cmdDaymarkCancel_keeps {r : Path} {tag : Nat} {args : Bytes} :
    (h.cmdDaymarkCancel r c tag args).keeps h [.draws, .out, .od, .regs, .ctl, .evt, .eng, .dm, .io, .pair, .pwr] :=
  issue_keeps fun _ => endMirrored_keeps.after dmCancelAll_keeps.within

theorem cmdDaymarkRead_keeps {r : Path} {tag : Nat} {args : Bytes} :
    (h.cmdDaymarkRead r c tag args).keeps h [.out, .od, .regs, .ctl, .evt, .eng, .dm, .io, .pwr] := by
  refine issue_keeps fun h => ?_
  split
  · exact done_keeps.within
  · exact .refl

theorem firedSend_keeps : h.firedSend.keeps h [.out, .od, .regs, .evt, .tun, .eng, .sw, .dm, .pwr] := by
  unfold firedSend
  split
  · exact .refl
  · extract_lets mine rest dm h1 count
    have h1k : h1.keeps h [.out, .od, .regs, .evt, .tun, .eng, .sw, .dm, .pwr] := withDm_keeps.within
    exact ite_keeps .refl (ite_keeps (lampReply_keeps.trans h1k) (withDm_keeps.after (b := h1) h1k))

/-! ### Lamps (R324 to R329) -/

theorem placeEdge_keeps : (h.placeEdge n).keeps h [.clock, .draws, .out, .od, .eng, .dm, .pair] := by
  unfold placeEdge
  extract_lets x
  split
  · exact .refl
  · extract_lets u h1
    have h1k : h1.keeps h [.clock] := withClock_keeps
    exact ite_keeps (setLamp_keeps.after withClock_keeps.within) (tally_keeps.after (driveLamp_keeps.after h1k.within))

theorem lampCalibration_keeps {ok : Bool} : (h.lampCalibration ok).keeps h [.regs, .od, .evt, .dm, .pwr] :=
  ite_keeps withDm_keeps.within (fire_keeps.after (flag_keeps.after withDm_keeps.within))

theorem cmdLampSetNow_keeps {r : Path} {tag : Nat} {args : Bytes} :
    (h.cmdLampSetNow r c tag args).keeps h [.out, .od, .regs, .ctl, .evt, .eng, .dm, .io, .pair, .pwr] :=
  issue_keeps fun _ => endMirrored_keeps.after (foldl_keeps (fun _ _ => lampEdge_keeps.within) _ .refl)

theorem lampTryRelease_keeps : (h.lampTryRelease n).keeps h [.draws, .out, .od, .regs, .evt, .eng, .dm, .pair, .pwr] :=
  ite_keeps lampRelease_keeps .refl

theorem cmdLampControl_keeps {r : Path} {tag : Nat} {args : Bytes} :
    (h.cmdLampControl r c tag args).keeps h
      [.draws, .out, .od, .regs, .ctl, .evt, .lanes, .links, .eng, .dm, .io, .pair, .pwr] := by
  refine issue_keeps fun h => ?_
  extract_lets h1 h2
  have h1k : h1.keeps h [.draws, .out, .od, .regs, .ctl, .evt, .lanes, .links, .eng, .dm, .io, .pair, .pwr] :=
    foldl_keeps (fun _ _ => ite_keeps lampTryRelease_keeps.within lampTrigger_keeps.within) _ .refl
  exact done_keeps.after (ite_keeps (fogOriginate_keeps.after h1k) h1k)

/-! ### A lookup of the classifier (R253, R254, R263) -/

theorem clsReadOne_keeps : (h.clsReadOne n).keeps h [.od, .regs, .evt, .sw, .pwr] := by
  unfold clsReadOne
  extract_lets r
  exact ite_keeps (fire_keeps.after (flag_keeps.after (setCls_keeps.after eccRead_keeps))) eccRead_keeps

theorem clsReadDamaged_keeps : (h.clsReadDamaged p).keeps h [.od, .regs, .evt, .sw, .pwr] :=
  foldl_keeps (fun _ _ => clsReadOne_keeps) _ .refl

theorem lookup_keeps {key : LookupKey} : (h.lookup p key).1.keeps h [.od, .regs, .evt, .sw, .pwr] := by
  unfold lookup
  extract_lets i h1
  have h1k : h1.keeps h [.od, .regs, .evt, .sw, .pwr] := clsReadDamaged_keeps.trans tally_keeps.within
  split
  · exact tally_keeps.after h1k
  · split
    · exact h1k
    · exact tally_keeps.after (fire_keeps.after (flag_keeps.after (setCls_keeps.after h1k)))

theorem lookup_keeps_of_eq {a : Hub} {key : LookupKey} {o : Option Nat} (heq : h.lookup p key = (a, o)) :
    a.keeps h [.od, .regs, .evt, .sw, .pwr] := by
  have := h.lookup_keeps (p := p) (key := key)
  rwa [heq] at this

/-! ### Ethernet (R337 to R344, R364) -/

theorem ethOverrun_keeps : (h.ethOverrun n).keeps h [.od, .regs, .evt, .io, .pwr] := by
  unfold ethOverrun
  extract_lets h1 x
  have h1k : h1.keeps h [.od, .regs, .evt, .io, .pwr] := tally_keeps.after bump_keeps.within
  split
  · exact ite_keeps h1k (fire_keeps.after (setEth_keeps.after h1k))
  · exact fire_keeps.after (setEth_keeps.after h1k)

theorem ethFrameRx_keeps {frame : Bytes} {fcsOk : Bool} :
    (h.ethFrameRx n frame fcsOk).keeps h [.out, .od, .regs, .evt, .tun, .eng, .sw, .io, .pwr] := by
  unfold ethFrameRx
  extract_lets p h0 dei yellow h1
  have h0k : h0.keeps h [.out, .od, .regs, .evt, .tun, .eng, .sw, .io, .pwr] := tally_keeps.within
  have h1k : h1.keeps h [.out, .od, .regs, .evt, .tun, .eng, .sw, .io, .pwr] := mirrorSegment_keeps.after h0k
  refine ite_keeps .refl (ite_keeps (tally_keeps.after h0k) (ite_keeps (ite_keeps (pfcReceive_keeps.after h0k) (tally_keeps.after h0k))
    (ite_keeps (ethOverrun_keeps.after h0k) ?_)))
  split
  next heq => exact tally_keeps.after (bump_keeps.after ((lookup_keeps_of_eq heq).after h1k))
  next heq =>
    extract_lets ts seg
    exact ite_keeps (ethOverrun_keeps.after ((lookup_keeps_of_eq heq).after h1k)) (offer_keeps.after ((lookup_keeps_of_eq heq).after h1k))

theorem ethStamp_keeps {m : Nat × Nat × Nat} : (h.ethStamp n m).keeps h [.od, .io] := by
  unfold ethStamp
  extract_lets x entry
  exact ite_keeps (bump_keeps.after setEth_keeps.within) setEth_keeps.within

theorem ethFrameTx_keeps : (h.ethFrameTx n).keeps h [.out, .od, .regs, .evt, .tun, .eng, .sw, .io, .pwr] := by
  unfold ethFrameTx
  split
  · exact .refl
  · extract_lets h1 body bare tagged f x h2
    have h1k : h1.keeps h [.out, .od, .regs, .evt, .tun, .eng, .sw, .io, .pwr] := dropOut_keeps.within
    have h2k : h2.keeps h [.out, .od, .regs, .evt, .tun, .eng, .sw, .io, .pwr] :=
      tally_keeps.after (ite_keeps (ethFrameRx_keeps.trans h1k) (emit_keeps.after h1k))
    refine ite_keeps (tally_keeps.after (setEth_keeps.after h1k)) ?_
    split
    · exact ethStamp_keeps.after h2k
    · exact h2k

theorem cmdEthTsRead_keeps {r : Path} {tag : Nat} {args : Bytes} :
    (h.cmdEthTsRead r c tag args).keeps h [.out, .ctl, .eng, .io] :=
  issue_keeps fun _ => finish_keeps.after setEth_keeps.within

/-! ### CAN FD (R346 to R351, R364) -/

theorem canBusOff_keeps : (h.canBusOff n).keeps h [.od, .regs, .evt, .io, .pwr] := by
  unfold canBusOff
  extract_lets x
  exact ite_keeps .refl (fire_keeps.after setCan_keeps.within)

theorem canBusError_keeps {tx heavy : Bool} : (h.canBusError n tx heavy).keeps h [.od, .regs, .evt, .io, .pwr] := by
  unfold canBusError
  extract_lets x more
  exact ite_keeps .refl (ite_keeps canBusOff_keeps setCan_keeps.within)

theorem canClassify_keeps {f : CanFrame} : (h.canClassify n f).keeps h [.out, .od, .regs, .evt, .tun, .eng, .sw, .pwr] := by
  unfold canClassify
  extract_lets p seg
  refine ite_keeps (tally_keeps.after bump_keeps.within) ?_
  split
  next heq => exact tally_keeps.after (bump_keeps.after ((lookup_keeps_of_eq heq).after mirrorSegment_keeps.within))
  next heq => exact offer_keeps.after ((lookup_keeps_of_eq heq).after mirrorSegment_keeps.within)

theorem canReceived_keeps : (h.canReceived n).keeps h [.draws, .io] := by
  unfold canReceived
  extract_lets x v
  exact ite_keeps (setCan_keeps.after open_keeps.within) setCan_keeps.within

theorem canFrameTx_keeps : (h.canFrameTx n).keeps h [.out, .od, .sw, .io] := by
  unfold canFrameTx
  extract_lets x
  refine ite_keeps .refl (ite_keeps .refl ?_)
  split
  · exact .refl
  · extract_lets y h0 h1
    have h0k : h0.keeps h [.out, .od, .sw, .io] := setCan_keeps.within
    have h1k : h1.keeps h [.out, .od, .sw, .io] := tally_keeps.after (ite_keeps h0k (emit_keeps.after h0k))
    exact ite_keeps h1k (stageOutBy_keeps.after h1k)

theorem canRecovered_keeps : (h.canRecovered n).keeps h [.od, .regs, .ctl, .evt, .dm, .io, .pwr] := by
  unfold canRecovered
  extract_lets x
  exact ite_keeps (doneOpt_keeps.after setCan_keeps.within) .refl

theorem cmdCanRestart_keeps {r : Path} {tag : Nat} {args : Bytes} :
    (h.cmdCanRestart r c tag args).keeps h [.out, .ctl, .eng, .io] :=
  issue_keeps fun _ => ite_keeps finish_keeps.within setCan_keeps.within

/-! ### ISO 11783 address claim (R352, R364) -/

theorem addressLost_keeps : (h.addressLost n).keeps h [.od, .regs, .ctl, .evt, .pwr] := by
  unfold addressLost
  extract_lets keep ctl h1
  exact fire_keeps.after (b := h1) withCtl_keeps.within

theorem addressClaimed_keeps {src name : Nat} : (h.addressClaimed n src name).keeps h [.od, .regs, .ctl, .evt, .dm, .io, .pwr] := by
  unfold addressClaimed
  extract_lets x h0 h1 y h2
  have h0k : h0.keeps h [.od, .regs, .ctl, .evt, .dm, .io, .pwr] := setCan_keeps.within
  have h1k : h1.keeps h [.od, .regs, .ctl, .evt, .dm, .io, .pwr] := ite_keeps (addressLost_keeps.after h0k) h0k
  have h2k : h2.keeps h [.od, .regs, .ctl, .evt, .dm, .io, .pwr] := doneOpt_keeps.after (setCan_keeps.after h1k)
  refine ite_keeps ?_ h0k
  split
  · exact claimAddress_keeps.after h2k
  · exact sendClaim_keeps.after (setCan_keeps.after h2k)

theorem claimRequest_keeps : (h.claimRequest n).keeps h [.io] := by
  unfold claimRequest
  extract_lets x
  split
  · exact sendClaim_keeps
  · exact sendClaim_keeps
  · exact ite_keeps sendClaim_keeps .refl

theorem addressUsable_keeps : (h.addressUsable n).keeps h [.od, .regs, .ctl, .evt, .dm, .io, .pwr] := by
  unfold addressUsable
  extract_lets x
  split
  · exact doneOpt_keeps.after setCan_keeps.within
  · exact .refl

theorem cmdAddressReclaim_keeps {r : Path} {tag : Nat} {args : Bytes} :
    (h.cmdAddressReclaim r c tag args).keeps h [.out, .ctl, .eng, .io] :=
  issue_keeps fun _ => setCan_keeps.after claimAddress_keeps.within

/-! ### Frames from a CAN bus (R350 to R352) -/

theorem canOwn_keeps {i : Fin 6} {f : CanFrame} : (h.canOwn i f).keeps h [.od, .regs, .ctl, .evt, .dm, .io, .pwr] := by
  unfold canOwn
  extract_lets src ps pf x mine
  exact ite_keeps .refl (ite_keeps (ite_keeps odapFrame_keeps.within .refl) (ite_keeps addressClaimed_keeps
    (ite_keeps claimRequest_keeps.within (ite_keeps setCan_keeps.within .refl))))

theorem canFrameRx_keeps {i : Fin 6} {f : CanFrame} :
    (h.canFrameRx i f).keeps h [.draws, .out, .od, .regs, .ctl, .evt, .tun, .eng, .sw, .dm, .io, .pwr] :=
  canClassify_keeps.after (canOwn_keeps.after (canReceived_keeps.after tally_keeps.within))

theorem canRemote_keeps : (h.canRemote n).keeps h [.draws, .od, .io] := by
  unfold canRemote
  extract_lets h1
  exact setCan_keeps.after (canReceived_keeps.after tally_keeps.within)

theorem canSend_keeps {i : Fin 6} :
    (h.canSend i).keeps h [.draws, .out, .od, .regs, .ctl, .evt, .tun, .eng, .sw, .dm, .io, .pwr] := by
  unfold canSend
  extract_lets h1
  have h1k : h1.keeps h [.draws, .out, .od, .regs, .ctl, .evt, .tun, .eng, .sw, .dm, .io, .pwr] := canFrameTx_keeps.within
  refine ite_keeps ?_ h1k
  split
  · exact canFrameRx_keeps.trans h1k
  · exact h1k

/-! ### The eMMC host (R355 to R360, R364) -/

theorem cmdEmmcReinit_keeps {r : Path} {tag : Nat} {args : Bytes} :
    (h.cmdEmmcReinit r c tag args).keeps h [.out, .od, .regs, .ctl, .evt, .tun, .eng, .sw, .io, .pwr] :=
  issue_keeps fun _ => emmcStart_keeps.after setEmmc_keeps.within

theorem blockDrop_keeps {i : Nat} {on : Bool} : (h.blockDrop i on).keeps h [.io] := by
  unfold blockDrop
  extract_lets x others
  exact setEmmc_keeps

theorem writeFault_keeps {r : BlockReq} : (h.writeFault r).keeps h [.out, .od, .regs, .evt, .tun, .eng, .sw, .io, .pwr] := by
  unfold writeFault
  extract_lets x h1
  have h1k : h1.keeps h [.out, .od, .regs, .evt, .tun, .eng, .sw, .io, .pwr] := blockDrop_keeps.after blockRespond_keeps.within
  exact ite_keeps (ite_keeps (emmcIdle_keeps.after (updReq_keeps.after h1k)) (setEmmc_keeps.after (updReq_keeps.after h1k)))
    (setEmmc_keeps.after h1k)

theorem blockTake_keeps {x : OutSeg} : (h.blockTake x).keeps h [.sw, .io] := dropOut_keeps

theorem blockRequest_keeps {i op : Nat} : (h.blockRequest i op).keeps h [.out, .od, .regs, .evt, .tun, .eng, .sw, .io, .pwr] := by
  unfold blockRequest
  split
  · exact .refl
  · extract_lets o known h0 h1 tag h2
    have h0k : h0.keeps h [.out, .od, .regs, .evt, .tun, .eng, .sw, .io, .pwr] := blockTake_keeps.within
    have h1k : h1.keeps h [.out, .od, .regs, .evt, .tun, .eng, .sw, .io, .pwr] := by
      unfold h1
      split
      · exact writeFault_keeps.trans h0k
      · exact h0k
    have h2k : h2.keeps h [.out, .od, .regs, .evt, .tun, .eng, .sw, .io, .pwr] := blockDrop_keeps.after h1k
    exact ite_keeps .refl (ite_keeps (emmcRun_keeps.trans (blockRespond_keeps.after h1k))
      (ite_keeps (blockDrop_keeps.after (blockRespond_keeps.after h1k)) (emmcRun_keeps.trans (setEmmc_keeps.after h2k))))

theorem blockData_keeps {i : Nat} : (h.blockData i).keeps h [.out, .od, .regs, .evt, .tun, .eng, .sw, .io, .pwr] := by
  unfold blockData
  split
  · exact .refl
  · refine ite_keeps .refl ?_
    extract_lets h1 d blocks
    have h1k : h1.keeps h [.out, .od, .regs, .evt, .tun, .eng, .sw, .io, .pwr] := blockTake_keeps.within
    have fault {r : BlockReq} : ((h1.writeFault r).emmcRun).keeps h [.out, .od, .regs, .evt, .tun, .eng, .sw, .io, .pwr] :=
      emmcRun_keeps.trans (writeFault_keeps.trans h1k)
    split
    · exact ite_keeps fault (emmcRun_keeps.trans (setEmmc_keeps.after h1k))
    · split
      · exact ite_keeps fault h1k
      · exact h1k

theorem emmcOk_keeps {i blocks : Nat} {r : BlockReq} {d : Bytes} :
    (h.emmcOk i blocks r d).keeps h [.out, .od, .regs, .evt, .tun, .eng, .sw, .io, .pwr] := by
  unfold emmcOk
  extract_lets emmc h0 h1
  have h1k : h1.keeps h [.out, .od, .regs, .evt, .tun, .eng, .sw, .io, .pwr] := updReq_keeps.after setEmmc_keeps.within
  exact ite_keeps (emmcNext_keeps.trans (ite_keeps h1k (blockOffer_keeps.after h1k)))
    (ite_keeps (emmcNext_keeps.trans (updReq_keeps.after setEmmc_keeps.within)) (emmcEnd_keeps.trans (updReq_keeps.after setEmmc_keeps.within)))

theorem emmcRetry_keeps {r : BlockReq} {blocks : Nat} : (h.emmcRetry r blocks).keeps h [.out, .od, .io] := by
  unfold emmcRetry
  extract_lets x g
  exact tally_keeps.after (tally_keeps.after (emit_keeps.after setEmmc_keeps.within))

theorem emmcCommandDone_keeps {res r1 : Nat} {d : Bytes} :
    (h.emmcCommandDone res r1 d).keeps h [.out, .od, .regs, .evt, .tun, .eng, .sw, .io, .pwr] := by
  unfold emmcCommandDone
  extract_lets x blocks h1
  split
  · have h1k : h1.keeps h [.out, .od, .regs, .evt, .tun, .eng, .sw, .io, .pwr] := setEmmc_keeps.within
    exact ite_keeps emmcRun_keeps (ite_keeps (emmcRun_keeps.trans (emmcOk_keeps.trans h1k))
      (ite_keeps (emmcRun_keeps.trans (emmcEnd_keeps.trans h1k))
        (ite_keeps (emmcRetry_keeps.after h1k) (emmcRun_keeps.trans (emmcEnd_keeps.trans h1k)))))
  · exact emmcRun_keeps

theorem emmcTimeout_keeps : h.emmcTimeout.keeps h [.out, .od, .regs, .evt, .tun, .eng, .sw, .io, .pwr] := by
  unfold emmcTimeout
  extract_lets x
  split
  · exact ite_keeps .refl (ite_keeps emmcRetry_keeps.within emmcStart_keeps)
  · exact .refl

/-! ### Serial ports (R362, R363) -/

theorem uartRx_keeps {d : Bytes} : (h.uartRx n d).keeps h [.out, .od, .regs, .evt, .tun, .eng, .sw, .pwr] := by
  unfold uartRx
  extract_lets taken
  refine ite_keeps .refl (ite_keeps bump_keeps.within ?_)
  split
  · exact offer_keeps
  · exact .refl

theorem serDone_keeps {status : Nat} {d : Bytes} : (h.serDone n status d).keeps h [.out, .od, .regs, .evt, .tun, .eng, .sw, .io, .pwr] := by
  unfold serDone
  extract_lets x h1
  split
  · exact .refl
  · extract_lets reply
    have h1k : h1.keeps h [.out, .od, .regs, .evt, .tun, .eng, .sw, .io, .pwr] := setSer_keeps.within
    exact ite_keeps (offer_keeps.after h1k) h1k

theorem serSegment_keeps : (h.serSegment n).keeps h [.out, .od, .regs, .evt, .tun, .eng, .sw, .io, .pwr] := by
  unfold serSegment
  extract_lets x mode
  split
  · exact .refl
  next s _ _ =>
    have taken : (h.dropOut (23 + n) s).keeps h [.out, .od, .regs, .evt, .tun, .eng, .sw, .io, .pwr] := dropOut_keeps.within
    exact ite_keeps .refl (ite_keeps (ite_keeps .refl (ite_keeps (foldl_keeps (fun _ _ => uartRx_keeps.within) _ taken)
      (emit_keeps.after taken))) (ite_keeps .refl (ite_keeps (serDone_keeps.trans (setSer_keeps.after taken))
      (ite_keeps (emit_keeps.after (setSer_keeps.after taken)) (emit_keeps.after (setSer_keeps.after taken))))))

end Operations
end Sys2Proof.Machine.Hub

namespace Sys2Proof.Machine

set_option Elab.async false

/-- Settles O53: each command runs one operation of the hub, alone or as a command that Keeper serves, and has that operation's frame. -/
theorem framesOfBeaconDaymarksAndPorts : Obligations.FramesOfBeaconDaymarksAndPorts := by
  refine ⟨?encoderEdge, ?bcnStandstill, ?bearingSegmentStart, ?delayProbeRequest, ?delayProbeResponse, ?timebaseLock, ?bearingRestore,
    ?beaconCapture, ?beaconCaptureFire, ?probeNow, ?probeNowTimeout, ?clockLoRead, ?daymarkCancel, ?daymarkRead, ?pulseTimeEnd,
    ?pulseBearingEnd, ?pulseTimeout, ?lampEdge, ?lampCalibration, ?firedMessageSend, ?lampSetNow, ?lampRelease, ?lampSafe, ?lampSafeChain,
    ?ethFrameRx, ?ethFrameTx, ?ethLinkChange, ?ethTsRead, ?canFrameRx, ?canFrameTx, ?canBusOff, ?busOffRecovery, ?canRestart,
    ?addressClaimed, ?addressClaimRequest, ?addressUsable, ?addressReclaim, ?emmcReinit, ?blockRead, ?blockWrite, ?blockFlush, ?blockTrim,
    ?blockInfo, ?blockData, ?emmcCommandDone, ?uartRxSegment, ?serSegment, ?serTransactionDone, ?emmcDeviceTimeout, ?canBusError,
    ?ctsNChange⟩
  case encoderEdge =>
    exact fun _ _ _ _ _ => touches_of_onHub (fun _ => rfl) fun _ => Hub.encoderEdge_keeps.after Hub.pass_keeps.within
  case bcnStandstill => exact fun _ => touches_of_onHub (fun _ => rfl) fun _ => Hub.standstill_keeps.within
  case bearingSegmentStart => exact touches_of_onHub (fun _ => rfl) fun _ => Hub.segmentNext_keeps.within
  case delayProbeRequest =>
    exact fun _ _ => touches_of_onHub (fun _ => rfl) fun _ => Hub.heard_keeps fun _ => Hub.probeRequest_keeps.within
  case delayProbeResponse =>
    exact fun _ _ _ _ _ _ => touches_of_onHub (fun _ => rfl) fun _ =>
      (Hub.heard_keeps fun _ => Hub.probeResponse_keeps.within).trans Hub.pass_keeps.within
  case timebaseLock => exact touches_of_onHub (fun _ => rfl) fun _ => Hub.timebaseLock_keeps.within
  case bearingRestore => exact fun _ _ _ _ => touches_of_onCommand (fun _ => rfl) fun _ => Hub.cmdBearingRestore_keeps.within
  case beaconCapture => exact fun _ _ _ _ => touches_of_onCommand (fun _ => rfl) fun _ => Hub.cmdBeaconCapture_keeps.within
  case beaconCaptureFire => exact touches_of_onHub (fun _ => rfl) fun _ => Hub.captureFire_keeps.within
  case probeNow => exact fun _ _ _ _ => touches_of_onCommand (fun _ => rfl) fun _ => Hub.cmdProbeNow_keeps.within
  case probeNowTimeout => exact fun _ => touches_of_onHub (fun _ => rfl) fun _ => Hub.probeFail_keeps.within
  case clockLoRead => exact touches_of_onHub (fun _ => rfl) fun _ => Hub.emit_keeps.after Hub.withBcn_keeps.within
  case daymarkCancel => exact fun _ _ _ _ => touches_of_onCommand (fun _ => rfl) fun _ => Hub.cmdDaymarkCancel_keeps.within
  case daymarkRead => exact fun _ _ _ _ => touches_of_onCommand (fun _ => rfl) fun _ => Hub.cmdDaymarkRead_keeps.within
  case pulseTimeEnd => exact fun _ => touches_of_onHub (fun _ => rfl) fun _ => Hub.pulseEnd_keeps.within
  case pulseBearingEnd => exact touches_of_onHub (fun _ => rfl) fun _ => Hub.dmTrail_keeps.within
  case pulseTimeout => exact touches_of_onHub (fun _ => rfl) fun _ => Hub.dmTimeout_keeps.within
  case lampEdge => exact fun _ => touches_of_onHub (fun _ => rfl) fun _ => Hub.placeEdge_keeps.within
  case lampCalibration => exact fun _ => touches_of_onHub (fun _ => rfl) fun _ => Hub.lampCalibration_keeps.within
  case firedMessageSend => exact touches_of_onHub (fun _ => rfl) fun _ => Hub.firedSend_keeps.within
  case lampSetNow => exact fun _ _ _ _ => touches_of_onCommand (fun _ => rfl) fun _ => Hub.cmdLampSetNow_keeps.within
  case lampRelease | lampSafe | lampSafeChain =>
    exact fun _ _ _ _ => touches_of_onCommand (fun _ => rfl) fun _ => Hub.cmdLampControl_keeps.within
  case ethFrameRx => exact fun _ _ _ => touches_of_onHub (fun _ => rfl) fun _ => Hub.ethFrameRx_keeps.within
  case ethFrameTx => exact fun _ => touches_of_onHub (fun _ => rfl) fun _ => Hub.ethFrameTx_keeps.within
  case ethLinkChange => exact fun _ _ => touches_of_onHub (fun _ => rfl) fun _ => Hub.ite_keeps Hub.ethLink_keeps.within .refl
  case ethTsRead => exact fun _ _ _ _ => touches_of_onCommand (fun _ => rfl) fun _ => Hub.cmdEthTsRead_keeps.within
  case canFrameRx =>
    exact fun _ _ _ => touches_of_onHub (fun _ => rfl) fun _ =>
      Hub.ite_keeps (Hub.ite_keeps Hub.canRemote_keeps.within Hub.canFrameRx_keeps.within) .refl
  case canFrameTx => exact fun _ => touches_of_onHub (fun _ => rfl) fun _ => Hub.canSend_keeps.within
  case canBusOff => exact fun _ => touches_of_onHub (fun _ => rfl) fun _ => Hub.canBusOff_keeps.within
  case busOffRecovery => exact fun _ => touches_of_onHub (fun _ => rfl) fun _ => Hub.canRecovered_keeps.within
  case canRestart => exact fun _ _ _ _ => touches_of_onCommand (fun _ => rfl) fun _ => Hub.cmdCanRestart_keeps.within
  case addressClaimed => exact fun _ _ _ => touches_of_onHub (fun _ => rfl) fun _ => Hub.addressClaimed_keeps.within
  case addressClaimRequest => exact fun _ => touches_of_onHub (fun _ => rfl) fun _ => Hub.claimRequest_keeps.within
  case addressUsable => exact fun _ => touches_of_onHub (fun _ => rfl) fun _ => Hub.addressUsable_keeps.within
  case addressReclaim => exact fun _ _ _ _ => touches_of_onCommand (fun _ => rfl) fun _ => Hub.cmdAddressReclaim_keeps.within
  case emmcReinit => exact fun _ _ _ _ => touches_of_onCommand (fun _ => rfl) fun _ => Hub.cmdEmmcReinit_keeps.within
  case blockRead | blockWrite | blockFlush | blockTrim | blockInfo =>
    exact fun _ => touches_of_onHub (fun _ => rfl) fun _ => Hub.blockRequest_keeps.within
  case blockData => exact fun _ => touches_of_onHub (fun _ => rfl) fun _ => Hub.blockData_keeps.within
  case emmcCommandDone => exact fun _ _ _ => touches_of_onHub (fun _ => rfl) fun _ => Hub.emmcCommandDone_keeps.within
  case uartRxSegment => exact fun _ _ => touches_of_onHub (fun _ => rfl) fun _ => Hub.uartRx_keeps.within
  case serSegment => exact fun _ => touches_of_onHub (fun _ => rfl) fun _ => Hub.serSegment_keeps.within
  case serTransactionDone => exact fun _ _ _ => touches_of_onHub (fun _ => rfl) fun _ => Hub.serDone_keeps.within
  case emmcDeviceTimeout => exact touches_of_onHub (fun _ => rfl) fun _ => Hub.emmcTimeout_keeps.within
  case canBusError => exact fun _ _ _ => touches_of_onHub (fun _ => rfl) fun _ => Hub.canBusError_keeps.within
  case ctsNChange => exact fun _ _ => touches_of_onHub (fun _ => rfl) fun _ => Hub.setSer_keeps.within

end Sys2Proof.Machine

/-!
SUPPORT. The idle step (log 8). Time is all that passes: what waits at the producers, at the host bridge and at the eMMC host may go on, and
a chain reset that has sent its last copy resets the hub, but none of it writes CLOCK, which advances by the least step alone.

`Elab.async` is off for the reason the frames give.
-/

namespace Sys2Proof.Machine.Hub

set_option Elab.async false

section Operations

variable {h : Hub} {l : List Part} {p n c k w i : Nat}

/-! ### A core cycle (R239, R583) -/

theorem cmpLimit_keeps : (h.cmpLimit k).keeps h [.od, .regs, .evt, .pwr, .obs] := by
  unfold cmpLimit
  extract_lets lim h1 obs
  exact ite_keeps .refl (fire_keeps.after (withObs_keeps.after (b := h1) put_keeps.within))

theorem cmpSample_keeps : (h.cmpSample k).keeps h [.od, .regs, .evt, .pwr, .obs] := by
  unfold cmpSample
  extract_lets occ h1
  have h1k : h1.keeps h [.od, .regs, .evt, .pwr, .obs] := bump_keeps.within
  exact ite_keeps .refl (ite_keeps (cmpLimit_keeps.trans h1k) h1k)

theorem ticketCycle_keeps : h.ticketCycle.keeps h [.od] := by
  unfold ticketCycle
  extract_lets waiting
  exact ite_keeps .refl (tally_keeps.trans (foldl_keeps (fun _ _ => tally_keeps) _ .refl))

theorem coreCycle_keeps : h.coreCycle.keeps h [.od, .regs, .evt, .pwr, .obs] :=
  ticketCycle_keeps.after (foldl_keeps (fun _ _ => cmpSample_keeps) _ .refl)

/-! ### Segments that wait at their producers (R156, R248) -/

theorem producerGo_keeps : (h.producerGo i).keeps h [.out, .od, .regs, .evt, .tun, .eng, .sw, .pwr] := by
  unfold producerGo
  split
  · exact .refl
  · extract_lets eng h1
    have h1k : h1.keeps h [.out, .od, .regs, .evt, .tun, .eng, .sw, .pwr] := withEng_keeps.within
    exact ite_keeps h1k (ite_keeps (ingressDiscard_keeps.after h1k) (ite_keeps (stageSegment_keeps.after h1k) .refl))

theorem producersGo_keeps : h.producersGo.keeps h [.out, .od, .regs, .evt, .tun, .eng, .sw, .pwr] :=
  ite_keeps .refl (foldl_keeps (fun _ _ => producerGo_keeps) _ .refl)

/-! ### Requests that wait at the host bridge (R426 to R433) -/

/-- What a request of the host to a window writes. -/
abbrev windowParts : List Part := [.out, .od, .regs, .evt, .tun, .eng, .sw, .hb, .pwr]

theorem winSend_keeps {seg : Bytes} : (h.winSend w i seg).keeps h windowParts := tally_keeps.after offerTo_keeps.within

theorem winTag_keeps : (h.winTag w).1.keeps h [.hb] := setWin_keeps

theorem complete_keeps {a : Nat} {d : Bytes} : (h.complete a d).keeps h [.out] := ite_keeps .refl emit_keeps

theorem winAbort_keeps {a left : Nat} : (h.winAbort w a left).keeps h [.out] := ite_keeps emit_keeps emit_keeps

theorem unmapped_keeps : h.unmapped.keeps h [.od, .regs] := flag_keeps.after bump_keeps.within

theorem sendPieces_keeps : (sendPieces w i n h).keeps h windowParts := by
  induction n generalizing h with
  | zero => exact .refl
  | succ n ih =>
    unfold sendPieces
    extract_lets x
    refine ite_keeps .refl ?_
    split
    · exact .refl
    · exact ih.trans (winSend_keeps.trans setWin_keeps.within)

theorem tagPieces_keeps {xs : List (Nat × Nat × Nat)} : (tagPieces w xs h).1.keeps h [.hb] := by
  induction xs generalizing h with
  | nil => exact .refl
  | cons x xs ih => exact ih.trans winTag_keeps

theorem sendPrefetch_keeps {xs : List (Nat × Nat × Nat)} : (sendPrefetch w i xs h).keeps h windowParts := by
  induction xs generalizing h with
  | nil => exact .refl
  | cons x xs ih => exact ite_keeps .refl (ih.trans (winSend_keeps.trans (setWin_keeps.after winTag_keeps.within)))

theorem prefetch_keeps {e : Nat} : (h.prefetch w i e).keeps h windowParts := ite_keeps sendPrefetch_keeps .refl

/-- A request that a window carries out writes what a window writes. -/
theorem winTry_keeps {r : HostReq} : ∀ a ∈ h.winTry w r, a.keeps h windowParts := by
  intro a ha
  unfold winTry at ha
  split at ha
  · split at ha
    all_goals obtain rfl := Option.some.inj ha
    · exact bump_keeps.within
    · exact winAbort_keeps.within
    · exact winAbort_keeps.within
  · split at ha
    · cases ha
    · split at ha
      · extract_lets ps need h1 at ha
        split at ha
        · cases ha
        · obtain rfl := Option.some.inj ha
          exact foldl_keeps (fun _ _ => winSend_keeps.trans winTag_keeps.within) _ pfEmpty_keeps.within
      · split at ha
        · cases ha
        · extract_lets far x hit h1 got y h2 m h3 at ha
          obtain rfl := Option.some.inj ha
          have h1k : h1.keeps h windowParts := ite_keeps .refl (ite_keeps .refl pfEmpty_keeps.within)
          have h2k : h2.keeps h windowParts := complete_keeps.after (setWin_keeps.after h1k)
          exact prefetch_keeps.trans (ite_keeps h2k (sendPieces_keeps.trans (setWin_keeps.after (tagPieces_keeps.after h2k))))
      · split at ha
        · cases ha
        · obtain rfl := Option.some.inj ha
          exact winSend_keeps.trans (winSend_keeps.trans (setWin_keeps.after (winTag_keeps.after (winTag_keeps.after pfEmpty_keeps.within))))

theorem winPump_keeps : (winPump w n h).keeps h windowParts := by
  induction n generalizing h with
  | zero => exact .refl
  | succ n ih =>
    unfold winPump
    split
    · exact .refl
    · split
      next heq => exact ih.trans (setWin_keeps.after (winTry_keeps _ heq))
      · exact .refl

theorem winGo_keeps : (h.winGo w).keeps h windowParts := ite_keeps .refl winPump_keeps

theorem bar2Try_keeps {a be : Nat} {d : Bytes} : ∀ g ∈ h.bar2Try a be d, g.keeps h windowParts := by
  intro g hg
  unfold bar2Try at hg
  split at hg
  · obtain rfl := Option.some.inj hg
    exact unmapped_keeps.within
  · exact winTry_keeps _ hg

theorem postedPump_spares : (postedPump n h).spares h registerSpared := by
  induction n generalizing h with
  | zero => exact .refl
  | succ n ih =>
    unfold postedPump
    split
    · exact .refl
    · extract_lets rest
      refine ite_spares ?_ (ih.trans (bar0Write_spares.trans withHb_keeps.sparing))
      split
      next heq => exact ih.trans (withHb_keeps.past ((bar2Try_keeps _ heq).sparing))
      · exact .refl

theorem queueGo_keeps : (h.queueGo n).keeps h [.out, .od, .sw, .io, .hb] := ite_keeps qRun_keeps .refl

theorem hostGo_spares : h.hostGo.spares h registerSpared := by
  unfold hostGo
  extract_lets h1
  have h1s : h1.spares h registerSpared := ite_spares
    (foldl_spares (fun _ _ => queueGo_keeps.sparing) _ (foldl_spares (fun _ _ => winGo_keeps.sparing) _ postedPump_spares)) .refl
  exact ite_spares h1s (emmcRun_keeps.past h1s)

/-! ### A chain reset that acts (R565, R568) -/

theorem flashPut_keeps {d : Bytes} : (h.flashPut n d).keeps h [.pwr] := by
  induction d generalizing h n with
  | nil => exact .refl
  | cons b d ih => exact ih.trans withPwr_keeps

theorem flashErase_keeps : (h.flashErase n).keeps h [.pwr] := withPwr_keeps

theorem configTouched_keeps : (h.configTouched n k).keeps h [.ctl] := ite_keeps withCtl_keeps .refl

theorem flashCut_keeps : h.flashCut.keeps h [.draws, .ctl, .pwr] := by
  unfold flashCut
  extract_lets v g ctl a u
  have ak : a.keeps h [.draws, .ctl, .pwr] := ite_keeps
    (ite_keeps (withCtl_keeps.after (b := v.1) open_keeps.within) open_keeps.within) .refl
  split
  · exact ak
  · have uk : u.1.keeps h [.draws, .ctl, .pwr] := open_keeps.after ak
    exact ite_keeps uk (ite_keeps (flashErase_keeps.after (configTouched_keeps.after uk))
      (flashPut_keeps.after (configTouched_keeps.after uk)))

/-- A hub reset keeps CLOCK (log 44). -/
theorem afterReset_clock {cause : Nat} : (h.afterReset cause).clock = h.clock :=
  (flashCut_keeps .clock (by simp)).trans (forgetCommands_keeps .clock (by simp))

theorem bootWhenGood_clock : h.bootWhenGood.clock = h.clock := by
  unfold bootWhenGood
  split
  · rfl
  · exact bootRom_spares .clock (by simp)

theorem hubReset_clock {cause : Nat} : (h.hubReset cause).clock = h.clock := by
  unfold hubReset
  split
  · rfl
  · exact bootWhenGood_clock.trans ((resetLines_keeps .clock (by simp)).trans afterReset_clock)

theorem chainJudge_clock : h.chainJudge.clock = h.clock := by
  unfold chainJudge
  split
  · exact hubReset_clock
  · rfl

/-! ### The least step of CLOCK (R290, R557) -/

/-- With no correction absorbed or added, CLOCK advances by what passes (R294). -/
theorem pass_clock (slew : h.bcn.slew = 0) (servo : h.bcn.servo = 0 ∨ h.bcn.servoRun = sfUnits) :
    (h.pass n).clock = h.clock + n := by
  have added : h.bcn.slewed (min sfUnits (h.bcn.servoRun + n)) - h.bcn.slewed h.bcn.servoRun = 0 := by
    rcases servo with servo | run
    · simp [BcnSt.slewed, servo]
    · simp [run]
  simp only [pass, slew, added]
  omega

theorem tick_of_still (still : h.still = true) : h.tick = h := if_pos still

theorem tick_clock_of_retention (still : h.still = false) (retention : (h.domain 0).state = .retention) :
    h.tick.clock = (h.pass 400).clock := by
  unfold tick
  rw [if_neg (by simp [still]), if_pos retention]

/-- What waits goes on without CLOCK. -/
theorem tick_clock_of_on (still : h.still = false) (on : (h.domain 0).state ≠ .retention) : h.tick.clock = (h.pass 1).clock := by
  unfold tick
  rw [if_neg (by simp [still]), if_neg on]
  extract_lets h1 h2 h3
  have h2s : h2.spares h1 [.clock] := ite_spares .refl coreCycle_keeps.sparing
  have h3s : h3.spares h1 [.clock] := foldl_spares (fun _ _ => ite_spares .refl setLane_keeps.sparing) _ h2s
  have ends : (h3.producersGo.hostGo.restoreEnds).spares h1 [.clock] :=
    restoreEnds_keeps.past ((hostGo_spares (h := h3.producersGo)).fewer.trans (producersGo_keeps.past h3s))
  exact chainJudge_clock.trans (ends .clock (by simp))

end Operations
end Sys2Proof.Machine.Hub

namespace Sys2Proof.Machine

set_option Elab.async false

theorem step_of_empty {s : State} (empty : s.pending = []) : step s = .next { s with hub := s.hub.tick.settle } := by
  obtain ⟨hub, pending⟩ := s
  obtain rfl : pending = [] := empty
  rfl

/-- Settles O2: on an empty queue the step is the least step of CLOCK, which nothing else that goes on writes. -/
theorem idleStepLetsTimePass : Obligations.IdleStepLetsTimePass := by
  refine ⟨?answers, ?stands, ?advances⟩
  case answers => exact fun s empty => ⟨_, step_of_empty empty⟩
  case stands =>
    intro s empty held
    have still : s.hub.still = true := by simpa [Hub.still] using held
    refine ⟨_, step_of_empty empty, ?_⟩
    rw [Hub.tick_of_still still]
    exact ⟨rfl, rfl, rfl, rfl⟩
  case advances =>
    intro s empty live runs slew servo _
    have still : s.hub.still = false := by simp [Hub.still, live, runs]
    refine ⟨_, step_of_empty empty, ?_⟩
    change s.hub.tick.clock = _
    split
    next retention => rw [Hub.tick_clock_of_retention still retention, Hub.pass_clock slew servo]
    next on => rw [Hub.tick_clock_of_on still on, Hub.pass_clock slew servo]

end Sys2Proof.Machine

/-!
SUPPORT. Encoder inputs, bearings and their segments. `Hub.sameReads` says of an operation that it leaves what the encoder inputs have
counted and the levels they stand at; `Hub.besideBeacon` of one that it leaves the flags of the Beacon and the entry to LOCKED that has
been raised, and `Hub.besideBearing b` of one that it leaves bearing b, what its segment is judged by, and the flags that stand. They compose
as the frames do. Around them stand the equations of an edge and of a segment's start.

`Elab.async` is off for the reason the frames give.
-/

namespace Sys2Proof.Machine

set_option Elab.async false

/-! ### What an input has counted (R273, R275) -/

/-- Count, quadrature errors and levels of an encoder input. -/
def EncSt.reads (x : EncSt) : Int × Nat × Bool × Bool × Bool := (x.count, x.qerr, x.levelA, x.levelB, x.levelZ)

/-- A count moves c and REV of a shaft input, none of its readings. -/
theorem EncSt.turn_reads {x : EncSt} {cpr : Nat} {d : Int} : (x.turn cpr d).reads = x.reads := by
  unfold turn
  split_ifs <;> rfl

/-- Levels that stand as before are no edge, in every MODE. -/
theorem decodeEdge_of_still {m : Nat} {x : EncSt} : decodeEdge m x x.levelA x.levelB = (0, false) := by simp [decodeEdge]

/-- Every count of a bearing takes the position it is given (R279, R281). -/
theorem BearingSt.count_pos {x : BearingSt} {d pos : Int} {step te maxN maxT hyst : Nat} {four : Bool} :
    (x.count d pos step te maxN maxT hyst four).1.pos = pos := by
  have edge_pos {y : BearingSt} : (y.edge d step te maxN maxT four).pos = y.pos := by
    unfold edge
    extract_lets edges w z
    split <;> rfl
  unfold count
  extract_lets y
  split_ifs
  · exact edge_pos
  · rfl
  · exact edge_pos
  · rfl

namespace Hub

/-- `a` comes after `b` by operations that leave the readings of every encoder input. -/
def sameReads (a b : Hub) : Prop := ∀ n, (a.encoder n).reads = (b.encoder n).reads

theorem sameReads.refl {a : Hub} : a.sameReads a := fun _ => rfl

theorem sameReads.trans {a b c : Hub} (hab : a.sameReads b) (hbc : b.sameReads c) : a.sameReads c := fun n => (hab n).trans (hbc n)

theorem encoder_congr {a b : Hub} {n : Nat} (he : a.bcn.encs = b.bcn.encs) : a.encoder n = b.encoder n := by rw [encoder, he, encoder]

theorem bearing_congr {a b : Hub} {n : Nat} (hb : a.bcn.bearings = b.bcn.bearings) : a.bearing n = b.bearing n := by rw [bearing, hb, bearing]

/-- An operation that does not write the inputs. -/
theorem sameReads_of_eq {a b : Hub} (he : a.bcn.encs = b.bcn.encs := by rfl) : a.sameReads b :=
  fun _ => congrArg EncSt.reads (encoder_congr he)

/-- The frame of an operation says so too, where it does not name the Beacon. -/
theorem keeps.sameReads {a b : Hub} {l : List Part} (hab : a.keeps b l) (hl : Part.bcn ∉ l := by decide) : a.sameReads b :=
  sameReads_of_eq (congrArg BcnSt.encs (hab .bcn hl))

theorem ite_sameReads {a a' b : Hub} {P : Prop} [Decidable P] (ht : a.sameReads b) (hf : a'.sameReads b) :
    (if P then a else a').sameReads b := by
  split
  · exact ht
  · exact hf

theorem foldl_sameReads {α : Type} {f : Hub → α → Hub} {a b : Hub} (hf : ∀ h x, (f h x).sameReads h) (xs : List α)
    (hab : a.sameReads b) : (xs.foldl f a).sameReads b := by
  induction xs generalizing a with
  | nil => exact hab
  | cons x xs ih => exact ih ((hf a x).trans hab)

section Operations

variable {h : Hub} {n b k : Nat}

/-- An input is replaced by one with its readings. -/
theorem setEncoder_sameReads {x : EncSt} (hx : x.reads = (h.encoder n).reads) : (h.setEncoder n x).sameReads h := by
  intro m
  by_cases same : m = n
  · rw [same, setEncoder_encoder, hx]
  · rw [setEncoder_encoder_ne _ _ _ _ same]

theorem setBearing_sameReads {x : BearingSt} : (h.setBearing n x).sameReads h := sameReads_of_eq

theorem tally_encoder {item inst : Nat} : (h.tally item inst k).encoder n = h.encoder n := encoder_congr (by rw [tally_bcn])

/-- A flag and an event of the Beacon. -/
theorem flagFire_sameReads {src : Nat} {d : Bytes} : ((h.flag Rg.bcnFlags k).fire src d).sameReads h :=
  sameReads_of_eq (by rw [fire_bcn, flag_bcn])

theorem done_sameReads {status : Nat} {d : Bytes} : (h.done k status d).sameReads h := sameReads_of_eq (by rw [done_bcn])

theorem resource_sameReads : (h.resource b).sameReads h := by
  unfold resource
  extract_lets x w h1 y
  have h1r : h1.sameReads h := ite_sameReads (flagFire_sameReads.trans setBearing_sameReads) .refl
  exact ite_sameReads .refl (flagFire_sameReads.trans (setBearing_sameReads.trans h1r))

theorem restoreEnds_sameReads : h.restoreEnds.sameReads h := by
  unfold restoreEnds
  extract_lets due bcn h1
  exact ite_sameReads .refl (foldl_sameReads (fun _ _ => done_sameReads) _ sameReads_of_eq)

theorem restoreFails_sameReads : (h.restoreFails b).sameReads h := by
  unfold restoreFails
  extract_lets mine bcn h1
  exact foldl_sameReads (fun _ _ => done_sameReads) _ sameReads_of_eq

theorem encFault_sameReads {cause : Nat} : (h.encFault n cause).sameReads h := by
  unfold encFault
  extract_lets x h0 h1
  have h0r : h0.sameReads h := restoreEnds_sameReads
  have h1r : h1.sameReads h := flagFire_sameReads.trans
    ((setEncoder_sameReads (x := { x with state := .faulted, faultCause := cause }) (h0r n).symm).trans h0r)
  refine ite_sameReads .refl ?_
  split
  · exact h1r
  · exact restoreFails_sameReads.trans (resource_sameReads.trans h1r)

theorem bearingCount_sameReads {d turned : Int} {te : Nat} : (h.bearingCount n d turned te).sameReads h := by
  unfold bearingCount
  split
  · exact ite_sameReads encFault_sameReads .refl
  · exact ite_sameReads .refl (ite_sameReads (flagFire_sameReads.trans setBearing_sameReads) setBearing_sameReads)

theorem zEdge_sameReads : (h.zEdge n).sameReads h := by
  unfold zEdge
  extract_lets x m want cpr diff missed found h2
  have missedr : missed.sameReads h := setEncoder_sameReads rfl
  have foundr : found.sameReads h := setEncoder_sameReads rfl
  have h2r : h2.sameReads h := flagFire_sameReads.trans foundr
  refine ite_sameReads .refl (ite_sameReads (ite_sameReads (encFault_sameReads.trans missedr) missedr) (ite_sameReads ?_ foundr))
  split
  · exact ite_sameReads (setBearing_sameReads.trans h2r) h2r
  · exact h2r

/-! ### An edge report (R273, R275, R278) -/

variable {a l z : Bool} {d : Int}

/-- Two changed levels of an input that is not OFF: a quadrature error, and no count (R275). -/
theorem encoderEdge_reads_of_error (on : (h.encoder n).state ≠ .off)
    (decoded : decodeEdge (h.val (Od.encMode n)) (h.encoder n) a l = (d, true)) :
    ((h.encoderEdge n a l z).encoder n).reads = ((h.encoder n).count, trunc 32 ((h.encoder n).qerr + 1), a, l, z) := by
  unfold encoderEdge
  extract_lets x te mode r d zRise levels h1 times bad w counted h2
  have error : r.2 = true := congrArg Prod.snd decoded
  have badr : (bad.encoder n).reads = (x.count, trunc 32 (x.qerr + 1), a, l, z) := by
    rw [tally_encoder, setEncoder_encoder]
    rfl
  have h2r : (h2.encoder n).reads = (x.count, trunc 32 (x.qerr + 1), a, l, z) := by
    unfold h2
    rw [if_pos error]
    exact (ite_sameReads encFault_sameReads .refl n).trans badr
  rw [if_neg on]
  exact (ite_sameReads zEdge_sameReads .refl n).trans h2r

/-- A count of an input that is not OFF, or none, INVERT applied (R273). -/
theorem encoderEdge_reads_of_count (on : (h.encoder n).state ≠ .off)
    (decoded : decodeEdge (h.val (Od.encMode n)) (h.encoder n) a l = (d, false)) :
    ((h.encoderEdge n a l z).encoder n).reads =
      ((h.encoder n).count + (if h.val (Od.encInvert n) = 1 then -d else d), (h.encoder n).qerr, a, l, z) := by
  unfold encoderEdge
  extract_lets x te mode r signed zRise levels h1 times bad w counted h2
  have right : ¬ r.2 = true := by simp [r, mode, x, decoded]
  have value : signed = if h.val (Od.encInvert n) = 1 then -d else d := by simp [signed, r, mode, x, decoded]
  have wr : w.reads = levels.reads := by
    unfold w
    split
    · exact EncSt.turn_reads
    · rfl
  have countedr : (counted.encoder n).reads = (x.count + signed, x.qerr, a, l, z) := by
    rw [tally_encoder, setEncoder_encoder]
    exact congrArg (Prod.mk _) (congrArg Prod.snd wr)
  have h2r : (h2.encoder n).reads = (x.count + signed, x.qerr, a, l, z) := by
    unfold h2
    rw [if_neg right]
    split
    next none =>
      rw [none, setEncoder_encoder, add_zero]
      rfl
    · exact (ite_sameReads bearingCount_sameReads .refl n).trans countedr
  rw [if_neg on, ← value]
  exact (ite_sameReads zEdge_sameReads .refl n).trans h2r

/-- Unchanged A and B and no rising Z: Z's level alone is taken. -/
theorem encoderEdge_of_still (noRise : z = true → (h.encoder n).levelZ = true) :
    h.encoderEdge n (h.encoder n).levelA (h.encoder n).levelB z = h.setEncoder n { h.encoder n with levelZ := z } := by
  have flat : (!(h.encoder n).levelZ && z) = false := by
    cases z
    · simp
    · simp [noRise]
  simp [encoderEdge, decodeEdge_of_still, flat]

theorem feeds_congr {g : Hub} (hb : g.bcn.bearings = h.bcn.bearings) : g.feeds n = h.feeds n := by
  simp only [feeds, bearing_congr hb]

/-- A count of the input that feeds GROUND moves its position by SCALE (R278). -/
theorem bearingCount_pos {turned : Int} {te : Nat} (feeds : h.feeds n = some 0) (estimates : h.estimates = true) :
    ((h.bearingCount n d turned te).bearing 0).pos = (h.bearing 0).pos + d * (h.val (Od.encScale n) : Int) := by
  unfold bearingCount
  split
  next none => exact absurd (feeds.symm.trans none) (by simp)
  next b fed =>
    obtain rfl : 0 = b := Option.some.inj (feeds.symm.trans fed)
    rw [if_neg (by simp [estimates])]
    extract_lets x step pos r joined y h1
    have moved : y.pos = x.pos + d * (h.val (Od.encScale n) : Int) := BearingSt.count_pos
    split
    · rw [bearing_congr (b := h1) (by rw [fire_bcn, flag_bcn]), setBearing_bearing, moved]
    · rw [setBearing_bearing, moved]

/-- A count of the running input that feeds GROUND, with no rising Z, moves GROUND's position by SCALE (R278). -/
theorem encoderEdge_pos (input : n < 8) (runs : (h.encoder n).state = .running) (feeds : h.feeds n = some 0) (estimates : h.estimates = true)
    (decoded : decodeEdge (h.val (Od.encMode n)) (h.encoder n) a l = (d, false)) (counts : d ≠ 0) :
    ((h.encoderEdge n a l false).bearing 0).pos =
      (h.bearing 0).pos + (if h.val (Od.encInvert n) = 1 then -d else d) * (h.val (Od.encScale n) : Int) := by
  unfold encoderEdge
  extract_lets x te mode r signed zRise levels h1 times bad w counted h2
  have right : ¬ r.2 = true := by simp [r, mode, x, decoded]
  have value : signed = if h.val (Od.encInvert n) = 1 then -d else d := by simp [signed, r, mode, x, decoded]
  have counts' : signed ≠ 0 := by
    rw [value]
    split <;> omega
  have bearings : counted.bcn.bearings = h.bcn.bearings := by rw [tally_bcn]; rfl
  have countedEstimates : counted.estimates = true := by
    rw [Hub.estimates, isSource, tally_mode]
    exact estimates
  have scale : counted.val (Od.encScale n) = h.val (Od.encScale n) := tally_val (by simp only [Od.encScale]; omega)
  rw [if_neg (by rw [runs]; decide), if_neg (by simp [zRise])]
  unfold h2
  rw [if_neg right, if_neg counts', if_pos runs, bearingCount_pos ((feeds_congr bearings).trans feeds) countedEstimates, scale,
    bearing_congr bearings, value]

/-! ### Events that wake AON, and the entries below the counters' (R531, R558) -/

theorem fire_leaves_val {src : Nat} {data : Bytes} {e : Entry} (he : e.key < 0x600000) : (h.fire src data).val e = h.val e := by
  have counted {g : Hub} {m : Nat} : (g.count m 1).val e = g.val e :=
    val_bump_ne _ _ _ _ _ (by simp only [cntEntry, Od.cntCount]; omega)
  have detailed {g : Hub} {m : Nat} {x : Bytes} : (g.queueDetail m x false false).1.val e = g.val e := val_congr (queueDetail_od ..) e
  have flagged {g : Hub} : (g.flag Rg.evtFlags 2).val e = g.val e := rfl
  have woken {g : Hub} {x : DomSt} : (g.setDomain 1 x).val e = g.val e := val_congr (setDomain_od ..) e
  unfold fire fireWith
  extract_lets wakes h0 q h2
  have h0v : h0.val e = h.val e := by
    unfold h0
    split
    · rw [detailed, counted, tally_val he, woken]
    · rfl
  have qv : q.1.val e = h.val e := by rw [detailed, counted, h0v]
  split_ifs
  · exact h0v
  · rw [detailed, counted]
    exact flagged.trans qv
  · exact qv

/-! ### What the Lamps leave of the Beacon -/

/-- `a` comes after `b` by operations that leave the flags of the Beacon as they are and the entry to LOCKED raised. -/
structure besideBeacon (a b : Hub) : Prop where
  flags : a.reg Rg.bcnFlags = b.reg Rg.bcnFlags
  locked : ∀ data, b.raised Ev.bcnLocked data → a.raised Ev.bcnLocked data

theorem besideBeacon.refl {a : Hub} : a.besideBeacon a := ⟨rfl, fun _ => id⟩

theorem besideBeacon.trans {a b c : Hub} (hab : a.besideBeacon b) (hbc : b.besideBeacon c) : a.besideBeacon c :=
  ⟨hab.flags.trans hbc.flags, fun data => hab.locked data ∘ hbc.locked data⟩

/-- Neither the flags nor the details of events. -/
theorem besideBeacon_of_eq {a b : Hub} (hr : a.reg Rg.bcnFlags = b.reg Rg.bcnFlags) (hd : a.evt.details = b.evt.details)
    (hw : a.evt.waiting = b.evt.waiting) : a.besideBeacon b :=
  ⟨hr, fun _ ⟨d, hm, said⟩ => ⟨d, by rwa [hd, hw], said⟩⟩

/-- The frame of an operation says so too, where it names neither the registers nor the event unit. -/
theorem keeps.besideBeacon {a b : Hub} {l : List Part} (hab : a.keeps b l) (hl : ∀ q ∈ [Part.regs, .evt], q ∉ l := by decide) :
    a.besideBeacon b := by
  have evt := hab .evt (hl _ (by simp))
  exact besideBeacon_of_eq (reg_congr (hab .regs (hl _ (by simp))) _) (congrArg (·.details) evt) (congrArg (·.waiting) evt)

theorem ite_besideBeacon {a a' b : Hub} {P : Prop} [Decidable P] (ht : a.besideBeacon b) (hf : a'.besideBeacon b) :
    (if P then a else a').besideBeacon b := by
  split
  · exact ht
  · exact hf

/-- Another source than the timebase fires. -/
theorem fire_besideBeacon {src : Nat} {data : Bytes} (hs : Ev.bcnLocked ≠ src) : (h.fire src data).besideBeacon h :=
  ⟨fire_reg (by decide), fun _ locked => locked.fire hs (by decide) (by decide)⟩

theorem lampTrigger_besideBeacon {cause : Nat} {tunnel : List Nat} : (h.lampTrigger n cause tunnel).besideBeacon h := by
  unfold lampTrigger
  extract_lets x on y h1
  have flagged {g : Hub} : (g.flag Rg.dmFlags 3).besideBeacon g := besideBeacon_of_eq (reg_flag_ne _ _ _ _ (by decide)) rfl rfl
  have h1b : h1.besideBeacon h := (fire_besideBeacon (by decide)).trans (flagged.trans driveLamp_keeps.besideBeacon)
  exact ite_besideBeacon .refl (ite_besideBeacon setLamp_keeps.besideBeacon
    (ite_besideBeacon .refl (ite_besideBeacon (fogOriginate_keeps.besideBeacon.trans h1b) h1b)))

theorem lampsTrigger_besideBeacon {cause : Nat} {tunnel : List Nat} {pick : Nat → Bool} (ls : List Nat) :
    ∀ {h : Hub}, (h.lampsTrigger cause tunnel pick ls).besideBeacon h := by
  induction ls with
  | nil => exact .refl
  | cons l ls ih => exact ih.trans (ite_besideBeacon lampTrigger_besideBeacon .refl)

theorem lampsAuto_besideBeacon (ls : List Nat) : ∀ {h : Hub}, (h.lampsAuto ls).besideBeacon h := by
  induction ls with
  | nil => exact .refl
  | cons l ls ih =>
    exact ih.trans (ite_besideBeacon ((fire_besideBeacon (by decide)).trans driveLamp_keeps.besideBeacon) .refl)

theorem bearingsMoved_besideBeacon {before : Hub} : (h.bearingsMoved before).besideBeacon h := by
  have lost (bs : List Nat) : ∀ {g : Hub}, (bs.foldl (fun h b => h.lampsGuard b) g).besideBeacon g := by
    induction bs with
    | nil => exact .refl
    | cons b bs ih => exact ih.trans (lampsTrigger_besideBeacon _)
  exact ite_besideBeacon ((lampsAuto_besideBeacon _).trans (lost _)) (lost _)

end Operations

/-! ### The segment of one bearing among the others (R285, R289) -/

/-- `a` comes after `c` by operations that leave bearing b, what its segment is judged by, and the flags of the Beacon that stand. -/
structure besideBearing (b : Nat) (a c : Hub) : Prop where
  bearing : a.bearing b = c.bearing b
  maxHold : a.val Od.bcnMaxHoldover = c.val Od.bcnMaxHoldover
  isSource : a.isSource = c.isSource
  flags : ∀ i, bit i (c.reg Rg.bcnFlags) = true → bit i (a.reg Rg.bcnFlags) = true

theorem besideBearing.refl {b : Nat} {a : Hub} : besideBearing b a a := ⟨rfl, rfl, rfl, fun _ => id⟩

theorem besideBearing.trans {b : Nat} {a c d : Hub} (hac : besideBearing b a c) (hcd : besideBearing b c d) : besideBearing b a d :=
  ⟨hac.bearing.trans hcd.bearing, hac.maxHold.trans hcd.maxHold, hac.isSource.trans hcd.isSource, fun i => hac.flags i ∘ hcd.flags i⟩

section Operations

variable {h : Hub} {n b k f : Nat}

theorem keeps.isSource {a c : Hub} {l : List Part} (hac : a.keeps c l) (hl : ∀ q ∈ [Part.mode, .lines], q ∉ l := by decide) :
    a.isSource = c.isSource := by
  rw [Hub.isSource, hac.mode hl, Hub.isSource]

/-- A flag of the Beacon, a count and an event that its segments raise. -/
theorem flag_besideBearing : besideBearing b (h.flag Rg.bcnFlags k) h := ⟨rfl, rfl, rfl, fun _ => bit_flag_of_bit⟩

theorem tally_besideBearing {item inst : Nat} : besideBearing b (h.tally item inst k) h :=
  ⟨bearing_congr (by rw [tally_bcn]), tally_val (by decide), tally_keeps.isSource, fun i => by rw [reg_congr (tally_regs ..)]; exact id⟩

theorem fire_besideBearing {src : Nat} {data : Bytes} : besideBearing b (h.fire src data) h :=
  ⟨bearing_congr (by rw [fire_bcn]), fire_leaves_val (by decide), fire_keeps.isSource, fun i => by rw [fire_reg (by decide)]; exact id⟩

theorem setBearing_besideBearing {x : BearingSt} (other : b ≠ n) : besideBearing b (h.setBearing n x) h :=
  ⟨setBearing_bearing_ne _ _ _ _ other, rfl, rfl, fun _ => id⟩

theorem withBcn_besideBearing {x : BcnSt} (same : x.bearings = h.bcn.bearings := by rfl) :
    besideBearing b ({ h with bcn := x } : Hub) h :=
  ⟨bearing_congr same, rfl, rfl, fun _ => id⟩

theorem reach_besideBearing : besideBearing b (h.reach n) h := ⟨rfl, rfl, rfl, fun _ => id⟩

theorem ite_besideBearing {a a' c : Hub} {P : Prop} [Decidable P] (ht : besideBearing b a c) (hf : besideBearing b a' c) :
    besideBearing b (if P then a else a') c := by
  split
  · exact ht
  · exact hf

/-- The hub when bearing b has its next segment, before the flags and events that say so. -/
def segmentSet (h : Hub) (f b : Nat) : Hub :=
  let r := (h.bearing b).segment f (h.val Od.bcnMaxHoldover)
  h.setBearing b (if h.estimates then { r.1 with dir := (h.bearing b).dir } else r.1)

theorem segmentStart_besideSet : besideBearing n (h.segmentStart f b) (h.segmentSet f b) := by
  unfold segmentStart
  extract_lets x r moved y h1 h2
  have h2b : besideBearing n h2 h1 := ite_besideBearing tally_besideBearing .refl
  exact ite_besideBearing (fire_besideBearing.trans (tally_besideBearing.trans (flag_besideBearing.trans h2b)))
    (ite_besideBearing (fire_besideBearing.trans (flag_besideBearing.trans h2b)) h2b)

/-- The segment of one bearing leaves the others. -/
theorem segmentStart_besideBearing (other : n ≠ b) : besideBearing n (h.segmentStart f b) h :=
  segmentStart_besideSet.trans (setBearing_besideBearing other)

/-- The three segments of a start in turn: bearing b begins its own with what it had, and the others leave it as it begins. -/
theorem segments_around (hb : b < 3) :
    ∃ g, besideBearing b g h ∧ besideBearing b ([0, 1, 2].foldl (fun h b => h.segmentStart f b) h) (g.segmentStart f b) := by
  simp only [List.foldl_cons, List.foldl_nil]
  obtain rfl | rfl | rfl : b = 0 ∨ b = 1 ∨ b = 2 := by omega
  · exact ⟨h, .refl, (segmentStart_besideBearing (by decide)).trans (segmentStart_besideBearing (by decide))⟩
  · exact ⟨_, segmentStart_besideBearing (by decide), segmentStart_besideBearing (by decide)⟩
  · exact ⟨_, (segmentStart_besideBearing (by decide)).trans (segmentStart_besideBearing (by decide)), .refl⟩

/-- At the next start of segments bearing b begins its own with what it had, and keeps it. -/
theorem segmentNext_around (turn : f + 2 = max (h.bcn.seg + 1) (h.clock / sfUnits)) (b : Fin 3) :
    ∃ g, besideBearing b g h ∧ h.segmentNext.bearing b = (g.segmentStart f b).bearing b ∧
      ∀ i, bit i ((g.segmentStart f b).reg Rg.bcnFlags) = true → bit i (h.segmentNext.reg Rg.bcnFlags) = true := by
  unfold segmentNext
  extract_lets s h1 bcn h2
  obtain rfl : s - 2 = f := by omega
  obtain ⟨g, before, after⟩ := h2.segments_around (f := s - 2) b.isLt
  have h2b : besideBearing b h2 h := (withBcn_besideBearing (h := h1) (x := { h1.bcn with seg := s }) rfl).trans reach_besideBearing
  have moved {g : Hub} : (g.bearingsMoved h).bearing b = g.bearing b :=
    bearing_congr (congrArg BcnSt.bearings (bearingsMoved_keeps .bcn (by decide)))
  rw [moved, bearingsMoved_besideBeacon.flags]
  exact ⟨g, before.trans h2b, after.bearing, after.flags⟩

theorem segmentStart_seg : (h.segmentStart f b).bcn.seg = h.bcn.seg := by
  unfold segmentStart
  extract_lets x r moved y h1 h2
  have h2s : h2.bcn.seg = h.bcn.seg := by
    unfold h2
    split
    · rw [tally_bcn]
      rfl
    · rfl
  split_ifs
  · rw [fire_bcn, tally_bcn, flag_bcn, h2s]
  · rw [fire_bcn, flag_bcn, h2s]
  · exact h2s

/-- The superframe of the segments that begin, and CLOCK at their start. -/
theorem segmentNext_seg (turn : f + 2 = max (h.bcn.seg + 1) (h.clock / sfUnits)) :
    h.segmentNext.bcn.seg = f + 2 ∧ h.segmentNext.clock = max h.clock ((f + 2) * sfUnits) := by
  unfold segmentNext
  extract_lets s h1 bcn h2
  rw [turn]
  have moved {g : Hub} : (g.bearingsMoved h).bcn = g.bcn ∧ (g.bearingsMoved h).clock = g.clock :=
    ⟨bearingsMoved_keeps .bcn (by decide), bearingsMoved_keeps .clock (by decide)⟩
  have segs : ([0, 1, 2].foldl (fun h b => h.segmentStart (s - 2) b) h2).keeps h2 [.od, .regs, .evt, .bcn, .pwr] :=
    foldl_keeps (fun _ _ => segmentStart_keeps) _ .refl
  rw [moved.1, moved.2]
  refine ⟨?_, segs .clock (by decide)⟩
  simp only [List.foldl_cons, List.foldl_nil, segmentStart_seg]
  rfl

/-- What the segment's own bearing takes from R289. -/
theorem segmentStart_bearing :
    ((h.segmentStart f b).bearing b).state = ((h.bearing b).segment f (h.val Od.bcnMaxHoldover)).1.state ∧
    ((h.segmentStart f b).bearing b).from_ = ((h.bearing b).segment f (h.val Od.bcnMaxHoldover)).1.from_ ∧
    ((h.segmentStart f b).bearing b).to_ = ((h.bearing b).segment f (h.val Od.bcnMaxHoldover)).1.to_ ∧
    ((h.segmentStart f b).bearing b).missing = ((h.bearing b).segment f (h.val Od.bcnMaxHoldover)).1.missing := by
  rw [segmentStart_besideSet.bearing, segmentSet, setBearing_bearing]
  split <;> exact ⟨rfl, rfl, rfl, rfl⟩

/-- A bearing that moves to HOLDOVER is flagged. -/
theorem segmentStart_heldOver (held : ((h.bearing b).segment f (h.val Od.bcnMaxHoldover)).2 = 1) :
    bit 4 ((h.segmentStart f b).reg Rg.bcnFlags) = true := by
  unfold segmentStart
  extract_lets x r moved y h1 h2
  rw [if_pos (show r.2 = 1 from held), fire_reg (by decide), reg_congr (tally_regs ..), reg_flag]
  exact bit_setBit _ _

/-- A bearing that becomes LOST is flagged away from the source. -/
theorem segmentStart_lost (lost : ((h.bearing b).segment f (h.val Od.bcnMaxHoldover)).2 = 2) (follows : h.isSource = false) :
    bit 5 ((h.segmentStart f b).reg Rg.bcnFlags) = true := by
  unfold segmentStart
  extract_lets x r moved y h1 h2
  have code : r.2 = 2 := lost
  rw [if_neg (by omega), if_pos ⟨code, by simp [follows]⟩, fire_reg (by decide), reg_flag]
  exact bit_setBit _ _

end Operations

end Hub

/-! ### What R289 makes of a bearing -/

section Segments

variable {x : BearingSt} {f maxHold : Nat} {p : Int}

/-- A VALID bearing whose points are there runs from the end of its segment to the next point. -/
theorem BearingSt.segment_of_points {q : Int × Bool} (valid : x.state = .valid) (point : pointOf f x.points = some (p, true))
    (next : pointOf (f + 1) x.points = some q) :
    (x.segment f maxHold).1.from_ = x.to_ ∧ (x.segment f maxHold).1.to_ = q.1 ∧ (x.segment f maxHold).1.state = .valid ∧
      (x.segment f maxHold).1.missing = 0 := by
  simp [segment, valid, point, next]

/-- With the next point missing, up to MAX_HOLDOVER, it is in HOLDOVER. -/
theorem BearingSt.segment_of_missing (valid : x.state = .valid) (point : pointOf f x.points = some (p, true))
    (next : pointOf (f + 1) x.points = none) (room : x.missing + 1 ≤ maxHold) :
    (x.segment f maxHold).1.state = .holdover ∧ (x.segment f maxHold).1.from_ = x.to_ ∧
      (x.segment f maxHold).1.missing = x.missing + 1 ∧ (x.segment f maxHold).2 = 1 := by
  simp [segment, valid, point, next, Nat.not_lt.2 room]

/-- A held one beyond MAX_HOLDOVER is LOST, its segment flat. -/
theorem BearingSt.segment_of_tooMany (held : x.state = .holdover) (next : pointOf (f + 1) x.points = none)
    (beyond : maxHold < x.missing + 1) :
    (x.segment f maxHold).1.state = .lost ∧ (x.segment f maxHold).1.from_ = x.to_ ∧ (x.segment f maxHold).1.to_ = x.to_ ∧
      (x.segment f maxHold).2 = 2 := by
  simp [segment, held, next, beyond]

end Segments
/-! ### The clauses -/

namespace Hub

section Operations

variable {h : Hub} {b : Nat}

/-- At standstill V is 0 and X_e stays, and the direction, a flag and an event say so (R280). -/
theorem standstill_stands (estimates : h.estimates = true) (fed : (h.bearing b).inputInUse.isSome = true)
    (moves : (h.bearing b).still = false) :
    (h.standstill b).bearing b = { h.bearing b with vNum := 0, vDen := 1, still := true, edges := [] } ∧
      (h.standstill b).bearingDir b = 0 ∧ bit 1 ((h.standstill b).reg Rg.bcnFlags) = true ∧
      (h.standstill b).raised Ev.bcnStandstill (u8 b) := by
  have acts : (!h.estimates || (h.bearing b).inputInUse.isNone || (h.bearing b).still) = false := by
    simp [estimates, moves, Option.isNone_eq_false_iff.2 fed]
  unfold standstill
  extract_lets x
  rw [if_neg (by rw [acts]; decide)]
  have bearing {g : Hub} {d : Bytes} {y : BearingSt} : (((g.setBearing b y).flag Rg.bcnFlags 1).fire Ev.bcnStandstill d).bearing b = y := by
    rw [bearing_congr (b := g.setBearing b y) (by rw [fire_bcn, flag_bcn]), setBearing_bearing]
  have source {g : Hub} {d : Bytes} : ((g.flag Rg.bcnFlags 1).fire Ev.bcnStandstill d).estimates = g.estimates := by
    rw [Hub.estimates, isSource, fire_mode, flag_mode, Hub.estimates, isSource]
  refine ⟨bearing, ?_, ?_, fire_raised (by decide) (by decide)⟩
  · rw [bearingDir, bearing, source]
    exact if_pos (by rw [show (h.setBearing b _).estimates = true from estimates]; rfl)
  · rw [fire_reg (by decide), reg_flag]
    exact bit_setBit _ _

end Operations
end Hub

section Edges

variable {s : State} {n : Fin 8} {a b z : Bool} {lapse : Word} {d : Int}

/-- An edge report that is a quadrature error. -/
theorem encoderEdge_errs (live : s.hub.live) (on : (s.hub.encoder n).state ≠ .off)
    (decoded : decodeEdge (s.hub.val (Od.encMode n)) (s.hub.encoder n) a b = (d, true)) :
    Completes (.encoderEdge n a b z lapse) s fun h => (h.encoder n).count = (s.hub.encoder n).count ∧
      (h.encoder n).qerr = trunc 32 ((s.hub.encoder n).qerr + 1) ∧ (h.encoder n).levelA = a ∧ (h.encoder n).levelB = b ∧
      (h.encoder n).levelZ = z := by
  refine completes_onHub (fun h => (h.pass lapse.toNat).encoderEdge n a b z) live ?_
  have reads := Hub.encoderEdge_reads_of_error (h := s.hub.pass lapse.toNat) (z := z) on decoded
  simp only [EncSt.reads, Prod.mk.injEq] at reads
  exact reads

/-- An edge report that is a count, or none. -/
theorem encoderEdge_counts (live : s.hub.live) (on : (s.hub.encoder n).state ≠ .off)
    (decoded : decodeEdge (s.hub.val (Od.encMode n)) (s.hub.encoder n) a b = (d, false)) :
    Completes (.encoderEdge n a b z lapse) s fun h =>
      (h.encoder n).count = (s.hub.encoder n).count + (if s.hub.val (Od.encInvert n) = 1 then -d else d) ∧
      (h.encoder n).qerr = (s.hub.encoder n).qerr ∧ (h.encoder n).levelA = a ∧ (h.encoder n).levelB = b ∧
      (h.encoder n).levelZ = z := by
  refine completes_onHub (fun h => (h.pass lapse.toNat).encoderEdge n a b z) live ?_
  have reads := Hub.encoderEdge_reads_of_count (h := s.hub.pass lapse.toNat) (z := z) on decoded
  simp only [EncSt.reads, Prod.mk.injEq] at reads
  exact reads

end Edges

/-- A direction reversed by INVERT (R273). -/
theorem signed_eq {P Q : Prop} [Decidable P] [Decidable Q] :
    (if Q then -(if P then (1 : Int) else -1) else if P then 1 else -1) = if (decide P != decide Q) = true then 1 else -1 := by
  by_cases P <;> by_cases Q <;> simp [*]

/-- In QUADRATURE a changed A counts forward where A then differs from B. -/
theorem decodeEdge_of_changedA {x : EncSt} {a b : Bool} (changed : x.levelA ≠ a) (stands : x.levelB = b) :
    decodeEdge 1 x a b = (if a ≠ b then 1 else -1, false) := by
  simp [decodeEdge, changed, stands]

/-- In QUADRATURE a changed B counts forward where it then equals A. -/
theorem decodeEdge_of_changedB {x : EncSt} {a b : Bool} (stands : x.levelA = a) (changed : x.levelB ≠ b) :
    decodeEdge 1 x a b = (if a = b then 1 else -1, false) := by
  simp [decodeEdge, changed, stands]

/-- In QUADRATURE two changed levels are an error. -/
theorem decodeEdge_of_changedBoth {x : EncSt} {a b : Bool} (changedA : x.levelA ≠ a) (changedB : x.levelB ≠ b) :
    decodeEdge 1 x a b = (0, true) := by
  simp [decodeEdge, changedA, changedB]

/-- In PULSE a rising edge of A counts. -/
theorem decodeEdge_of_pulse {x : EncSt} {b : Bool} (low : x.levelA = false) : decodeEdge 3 x true b = (1, false) := by
  simp [decodeEdge, low]

/-- A start of segments, by what bearing b's own segment makes of it. -/
theorem segmentStart_completes {s : State} {f : Nat} {b : Fin 3} {P : Hub → Prop} (live : s.hub.live)
    (turn : f + 2 = max (s.hub.bcn.seg + 1) (s.hub.clock / sfUnits))
    (hP : ∀ g h : Hub, g.besideBearing b s.hub → h.bearing b = (g.segmentStart f b).bearing b →
      (∀ i, bit i ((g.segmentStart f b).reg Rg.bcnFlags) = true → bit i (h.reg Rg.bcnFlags) = true) → P h) :
    Completes .bearingSegmentStart s P := by
  obtain ⟨g, before, after, flags⟩ := Hub.segmentNext_around turn b
  refine completes_onHub (fun h => h.segmentNext) live (hP g _ before ?_ fun i set => ?_)
  · rw [← after]
    exact Hub.bearing_congr (by rw [Hub.settle_bcn])
  · rw [Hub.reg_congr (Hub.settle_regs _)]
    exact flags i set

/-- Settles O28: an edge leaves of the input's readings what its levels mean, for nothing that follows from a count writes them; and a start of
segments leaves each bearing what R289 makes of it, for the other two and the Lamps leave it so. -/
theorem encodersCountAndBearingsMove : Obligations.EncodersCountAndBearingsMove := by
  refine ⟨?both, ?changedA, ?changedB, ?pulse, ?still, ?ground, ?standstill, ?starts, ?valid, ?missing, ?lost, ?read⟩
  case both =>
    intro s n a b z lapse live on quadrature changedA changedB
    exact encoderEdge_errs live on (by rw [quadrature, decodeEdge_of_changedBoth changedA changedB])
  case changedA =>
    intro s n a b z lapse live on quadrature changed stands
    have counts := encoderEdge_counts (z := z) (lapse := lapse) live on (by rw [quadrature, decodeEdge_of_changedA changed stands])
    rwa [signed_eq] at counts
  case changedB =>
    intro s n a b z lapse live on quadrature stands changed
    have counts := encoderEdge_counts (z := z) (lapse := lapse) live on (by rw [quadrature, decodeEdge_of_changedB stands changed])
    rwa [signed_eq] at counts
  case pulse =>
    intro s n b z lapse live on pulse low
    obtain ⟨h, runs, count, qerr, -⟩ :=
      encoderEdge_counts (z := z) (lapse := lapse) live on (by rw [pulse, decodeEdge_of_pulse (b := b) low])
    exact ⟨h, runs, count, qerr⟩
  case still =>
    intro s n z lapse live noRise
    have same : (s.hub.pass lapse.toNat).encoderEdge n (s.hub.encoder n).levelA (s.hub.encoder n).levelB z =
        (s.hub.pass lapse.toNat).setEncoder n { s.hub.encoder n with levelZ := z } := Hub.encoderEdge_of_still noRise
    refine completes_onHub (fun h => (h.pass lapse.toNat).encoderEdge n (s.hub.encoder n).levelA (s.hub.encoder n).levelB z) live ?_
    dsimp only
    rw [same]
    exact ⟨Hub.setEncoder_encoder .., rfl⟩
  case ground =>
    intro s n a lapse live runs quadrature changed feeds estimates
    refine completes_onHub (fun h => (h.pass lapse.toNat).encoderEdge n a (s.hub.encoder n).levelB false) live ?_
    have decoded := decodeEdge_of_changedA (x := s.hub.encoder n) changed rfl
    rw [← quadrature] at decoded
    have moved := Hub.encoderEdge_pos (h := s.hub.pass lapse.toNat) n.isLt runs feeds estimates decoded (by split <;> decide)
    exact moved.trans (by rw [signed_eq]; rfl)
  case standstill =>
    intro s b live estimates fed moves
    refine completes_onHub (fun h => h.standstill b) live ?_
    obtain ⟨bearing, dir, flag, event⟩ := Hub.standstill_stands estimates fed moves
    have settled : (s.hub.standstill b).settle.bearing b = _ := bearing
    refine ⟨?_, ?_, ?_, dir, flag, event⟩ <;> rw [settled]
  case starts =>
    intro s f live turn
    have started := Hub.segmentNext_seg turn
    refine completes_onHub (fun h => h.segmentNext) live ?_
    rw [Hub.settle_bcn, Hub.settle_clock]
    exact started
  case valid =>
    intro s f b p q live turn valid point next
    refine segmentStart_completes (b := b) live turn fun g h before after _ => ?_
    obtain ⟨state, start, end_, missing⟩ := g.segmentStart_bearing (f := f) (b := b)
    rw [after, state, start, end_, missing, before.bearing]
    obtain ⟨start, end_, state, missing⟩ := BearingSt.segment_of_points valid point next
    exact ⟨start, end_, state, missing⟩
  case missing =>
    intro s f b p live turn valid point next room
    refine segmentStart_completes (b := b) live turn fun g h before after flags => ?_
    obtain ⟨state, start, end_, missing⟩ := g.segmentStart_bearing (f := f) (b := b)
    obtain ⟨heldOver, from_, counted, code⟩ := BearingSt.segment_of_missing valid point next room
    rw [after, state, start, missing, before.bearing, before.maxHold]
    refine ⟨heldOver, from_, counted, flags 4 (Hub.segmentStart_heldOver ?_)⟩
    rw [before.bearing, before.maxHold, code]
  case lost =>
    intro s f b live turn held next beyond
    refine segmentStart_completes (b := b) live turn fun g h before after flags => ?_
    obtain ⟨state, start, end_, missing⟩ := g.segmentStart_bearing (f := f) (b := b)
    obtain ⟨lost, from_, to_, code⟩ := BearingSt.segment_of_tooMany held next beyond
    rw [after, state, start, end_, before.bearing, before.maxHold]
    refine ⟨lost, from_, to_, fun follows => flags 5 (Hub.segmentStart_lost ?_ (before.isSource.trans follows))⟩
    rw [before.bearing, before.maxHold, code]
  case read =>
    intro s live
    refine completes_onHub (fun h => _) live ⟨?_, rfl, fun b => ?_⟩
    · exact Hub.gave_emit.settled
    · obtain ⟨b, hb⟩ := b
      obtain rfl | rfl | rfl : b = 0 ∨ b = 1 ∨ b = 2 := by omega
      · exact (Tab.get_set_other _ _ _ _ _ _ (by simp)).trans ((Tab.get_set_other _ _ _ _ _ _ (by simp)).trans (Tab.get_set ..))
      · exact (Tab.get_set_other _ _ _ _ _ _ (by simp)).trans (Tab.get_set ..)
      · exact Tab.get_set ..

end Sys2Proof.Machine

/-!
SUPPORT. Delay probes, the lock of the timebase and the Beacon's commands: what a paced block leaves of its link, what a delay value makes of
the filter, what a response that ends an exchange leaves of its link's measurement, what a correction of CLOCK and the entry to LOCKED leave,
and what BEARING_RESTORE, BEACON_CAPTURE and PROBE_NOW start and end.

`Elab.async` is off for the reason the frames give.
-/

namespace Sys2Proof.Machine

set_option Elab.async false

/-- The measurement of a link whose exchange a response has ended: the round trip less TURN, and what the far end says (R293). -/
def ProbeSt.answered (x : ProbeSt) (rtt : Int) (offset : Nat) (upLocked : Bool) : ProbeSt :=
  { x with out := none, command := none, lastRtt := ofSigned 32 rtt, farOffset := offset, upLocked := upLocked }

/-- The filter of a link once a delay value has met it (R293): a value too far from the mean is kept apart, and the fourth in a row starts
the filter anew. -/
def ProbeSt.filtered (x : ProbeSt) (v : Int) (avg : Nat) : ProbeSt :=
  if x.values ≠ [] ∧ 200 < (v - x.mean).natAbs then
    if 4 ≤ (v :: x.rejects).length then { x with values := v :: x.rejects, rejects := [] } else { x with rejects := v :: x.rejects }
  else { x with values := (v :: x.values).take avg, rejects := [] }

section Filter

variable {x : ProbeSt} {v : Int} {avg : Nat}

/-- A value changes the filter alone. -/
theorem ProbeSt.filtered_eq : ∃ values rejects, x.filtered v avg = { x with values := values, rejects := rejects } := by
  unfold filtered
  split_ifs <;> exact ⟨_, _, rfl⟩

/-- The first value, and one near the mean, enters. -/
theorem ProbeSt.filtered_of_near (near : x.values = [] ∨ (v - x.mean).natAbs ≤ 200) :
    (x.filtered v avg).values = (v :: x.values).take avg ∧ (x.filtered v avg).rejects = [] := by
  have enters : ¬ (x.values ≠ [] ∧ 200 < (v - x.mean).natAbs) := by
    rintro ⟨some_, far⟩
    rcases near with none | near
    · exact some_ none
    · omega
  rw [filtered, if_neg enters]
  exact ⟨rfl, rfl⟩

/-- One far off is kept apart, and the fourth in a row starts anew. -/
theorem ProbeSt.filtered_of_far (some_ : x.values ≠ []) (far : 200 < (v - x.mean).natAbs) :
    if x.rejects.length < 3 then (x.filtered v avg).values = x.values ∧ (x.filtered v avg).rejects = v :: x.rejects
    else (x.filtered v avg).values = v :: x.rejects ∧ (x.filtered v avg).rejects = [] := by
  have apart : x.values ≠ [] ∧ 200 < (v - x.mean).natAbs := ⟨some_, far⟩
  rw [filtered, if_pos apart, List.length_cons]
  by_cases few : x.rejects.length < 3
  · rw [if_pos few, if_neg (by omega)]
    exact ⟨rfl, rfl⟩
  · rw [if_neg few, if_pos (by omega)]
    exact ⟨rfl, rfl⟩

end Filter

namespace Hub

section Operations

variable {h : Hub} {p n c k : Nat} {b : Bytes}

/-! ### A paced block (R123, R124) -/

theorem paceLimit_congr {a : Hub} (ports : a.lanes.ports = h.lanes.ports) : a.paceLimit p = h.paceLimit p := by
  simp only [paceLimit, port, ports]

theorem pacedOut_gave (room : (h.link p).paced < h.paceLimit p) : (h.pacedOut p n b).gave h (.block p n b) := by
  rw [pacedOut, if_pos room]
  exact blockOn_gave.mono (List.suffix_refl _) (List.suffix_refl _)

theorem pacedOut_paced (room : (h.link p).paced < h.paceLimit p) : ((h.pacedOut p n b).link p).paced = (h.link p).paced + 1 := by
  rw [pacedOut, if_pos room, blockOn_keeps.link, updLink_link_same]

theorem pacedOut_of_full (full : h.paceLimit p ≤ (h.link p).paced) :
    h.pacedOut p n b = h.updLink p (fun x => { x with deferred := x.deferred ++ [(n, b)] }) := if_neg (Nat.not_lt.2 full)

/-- What was out before is out still. -/
theorem gave.suffix {g : Hub} {o : Out} (hg : h.gave g o) : g.out <:+ h.out := by
  obtain ⟨l, m, out⟩ := hg
  exact ⟨l ++ o :: m, by rw [out, List.append_assoc, List.cons_append]⟩

/-- A receiver that wakes changes no port. -/
theorem rxWakeOn_ports : ∃ x : LanesSt, x.ports = h.lanes.ports ∧ h.rxWakeOn p = { h with lanes := x } := by
  obtain ⟨x, woken⟩ := h.rxWakeOn_eq (p := p)
  have ports : (h.rxWakeOn p).lanes.ports = h.lanes.ports := by
    have woke {m : Nat} : (h.rxWake m).lanes.ports = h.lanes.ports := by
      unfold rxWake
      split <;> rfl
    unfold rxWakeOn
    split
    · split
      · exact woke
      · rfl
    · rfl
  exact ⟨x, by rw [← ports, woken], woken⟩

/-! ### A delay value, a response (R292, R293) -/

theorem probe_congr {a b : Hub} (hb : a.bcn = b.bcn) : a.probe p = b.probe p := by rw [probe, hb, probe]

theorem probeValue_probe {v : Int} : (h.probeValue p v).probe p = (h.probe p).filtered v (h.val (Od.prbProbeAvg p)) := by
  unfold probeValue ProbeSt.filtered
  extract_lets x rejects y h1 bcn
  split
  · rw [probe_congr (b := (h.setProbe p y)) (by rw [fire_bcn, flag_bcn, bump_bcn]), setProbe_probe]
  · have h1p : h1.probe p = { x with values := (v :: x.values).take (h.val (Od.prbProbeAvg p)), rejects := [] } := setProbe_probe ..
    split
    · exact h1p
    · exact h1p

/-- A value too far off is counted and flagged. -/
theorem probeValue_rejects {v : Int} (hp : p < 3) (some_ : (h.probe p).values ≠ []) (far : 200 < (v - (h.probe p).mean).natAbs) :
    (h.probeValue p v).val (Od.prbProbesRejected p) = trunc 32 (h.val (Od.prbProbesRejected p) + 1) ∧
      bit 7 ((h.probeValue p v).reg Rg.bcnFlags) = true := by
  unfold probeValue
  extract_lets x rejects y h1 bcn
  rw [if_pos ⟨some_, far⟩, fire_leaves_val (by simp only [Od.prbProbesRejected]; omega), fire_reg (by decide), reg_flag,
    val_congr (flag_od ..), val_bump, val_congr (h := h) (h' := h.setProbe p y) rfl]
  exact ⟨rfl, bit_setBit _ _⟩

theorem deliverRecord_val {o : Option Nat} {e : Entry} (he : e.key < 0x600000) : (h.deliverRecord b o).val e = h.val e := by
  unfold deliverRecord
  extract_lets h1
  have h1v : h1.val e = h.val e := fire_leaves_val he
  cases o
  · exact h1v
  · refine (val_congr (h := h1) ?_ e).trans h1v
    rfl

/-- The end of a command writes no entry below the counters'. -/
theorem done_val {status : Nat} {e : Entry} (he : e.key < 0x600000) : (h.done c status b).val e = h.val e := by
  unfold done
  split
  · exact val_congr (finish_od ..) e
  · unfold completeAction
    split
    · refine (deliverRecord_val he).trans (val_congr (h := h) ?_ e)
      rfl
    · rfl

theorem doneOpt_val {o : Option Nat} {status : Nat} {e : Entry} (he : e.key < 0x600000) : (h.doneOpt o status b).val e = h.val e := by
  cases o
  · rfl
  · exact done_val he

theorem doneOpt_reg {o : Option Nat} {status : Nat} {m : Entry} (hm : m.key ≠ Rg.evtFlags.key) :
    (h.doneOpt o status b).reg m = h.reg m := by
  cases o
  · rfl
  · exact done_reg hm

/-- With none waiting, nothing begins. -/
theorem probeNext_of_none (none : (h.probe p).commands = []) : h.probeNext p = h := by
  unfold probeNext
  extract_lets x
  split
  next rest _ waits => exact absurd (none.symm.trans waits) (by simp)
  · rfl

/-- While one is under way, nothing begins. -/
theorem probeNext_of_busy (busy : (h.probe p).command = some c) : h.probeNext p = h := by
  unfold probeNext
  extract_lets x
  split
  next idle _ => exact absurd (busy.symm.trans idle) (by simp)
  · rfl


section Response

variable {seq turn offset t1 : Nat} {upLocked : Bool}

/-- The delay value of a response that arrives now (R293). -/
def probeDelay (h : Hub) (p t1 turn : Nat) : Int := 5 * (((h.clock - t1 : Nat) : Int) - turn) + toSigned 32 (h.val (Od.prbAsymTrim p))

/-- The hub when the response of the outstanding sequence has ended the exchange and its value has met the filter (R293). -/
def probeEnded (h : Hub) (p t1 turn offset : Nat) (upLocked : Bool) : Hub :=
  ((h.setProbe p ((h.probe p).answered (((h.clock - t1 : Nat) : Int) - turn) offset upLocked)).tally 0x0605 p 1).probeValue p
    (h.probeDelay p t1 turn)

/-- The measurement of the link then. -/
theorem probeEnded_probe (hp : p < 3) : (h.probeEnded p t1 turn offset upLocked).probe p =
    ((h.probe p).answered (((h.clock - t1 : Nat) : Int) - turn) offset upLocked).filtered (h.probeDelay p t1 turn)
      (h.val (Od.prbProbeAvg p)) := by
  rw [probeEnded, probeValue_probe, tally_val (by simp only [Od.prbProbeAvg]; omega), probe_congr (tally_bcn ..), setProbe_probe]
  rfl

/-- A value too far off is counted and flagged there. -/
theorem probeEnded_rejects (hp : p < 3) (some_ : (h.probe p).values ≠ [])
    (far : 200 < (h.probeDelay p t1 turn - (h.probe p).mean).natAbs) :
    (h.probeEnded p t1 turn offset upLocked).val (Od.prbProbesRejected p) = trunc 32 (h.val (Od.prbProbesRejected p) + 1) ∧
      bit 7 ((h.probeEnded p t1 turn offset upLocked).reg Rg.bcnFlags) = true := by
  unfold probeEnded
  have probe {x : ProbeSt} : ((h.setProbe p x).tally 0x0605 p 1).probe p = x := (probe_congr (tally_bcn ..)).trans (setProbe_probe ..)
  obtain ⟨count, flag⟩ := probeValue_rejects (v := h.probeDelay p t1 turn) 
    (h := (h.setProbe p ((h.probe p).answered (((h.clock - t1 : Nat) : Int) - turn) offset upLocked)).tally 0x0605 p 1) hp
    (by rw [probe]; exact some_) (by rw [probe]; exact far)
  refine ⟨count.trans ?_, flag⟩
  rw [tally_val (by simp only [Od.prbProbesRejected]; omega)]
  rfl

/-- A response of the outstanding sequence, with no command waiting behind it, leaves that hub with the command ended. -/
theorem probeResponse_of_match (hp : p < 3) (sent : (h.probe p).out = some (seq, t1)) (alone : (h.probe p).commands = []) :
    ∃ d, h.probeResponse p seq upLocked turn offset =
      (h.probeEnded p t1 turn offset upLocked).doneOpt (h.probe p).command 0 d := by
  refine ⟨u32 (ofSigned 32 (((h.clock - t1 : Nat) : Int) - turn)) ++ u32 (tenths (h.probeDelay p t1 turn)), ?_⟩
  unfold probeResponse
  extract_lets x
  split
  next none => exact absurd (sent.symm.trans none) (by simp)
  next q t sent' =>
    obtain ⟨rfl, rfl⟩ : seq = q ∧ t1 = t := by simpa using sent.symm.trans sent'
    extract_lets rtt v y h1
    rw [if_neg (by simp)]
    refine probeNext_of_none ?_
    obtain ⟨values, rejects, filtered⟩ := ProbeSt.filtered_eq (x := y) (v := v) (avg := h.val (Od.prbProbeAvg p))
    have probe : h1.probe p = y.filtered v (h.val (Od.prbProbeAvg p)) := probeEnded_probe hp
    rw [probe_congr (doneOpt_bcn ..), probe, filtered]
    exact alone

/-- One of another sequence changes nothing. -/
theorem probeResponse_of_other (other : ∀ t ∈ (h.probe p).out, t.1 ≠ seq) : h.probeResponse p seq upLocked turn offset = h := by
  unfold probeResponse
  extract_lets x
  split
  · rfl
  next q t sent => exact if_pos (other (q, t) sent)

end Response

/-! ### The timebase locks (R291, R294) -/

section Lock

variable {e : Int}

/-- A correction forward is made at once. -/
theorem correctClock_clock (forward : 0 ≤ e) : (h.correctClock p e).clock = h.clock + e.toNat := by
  unfold correctClock
  extract_lets x bcn h1
  split
  next none => simp [none]
  next some_ =>
    have h1c : h1.clock = h.clock + e.toNat := by rw [show h1 = _ from if_pos (by omega)]
    exact (fire_keeps .clock (by decide)).trans h1c

/-- A correction backward is left to be absorbed at half rate, CLOCK as it was. -/
theorem correctClock_backward (backward : e < 0) : (h.correctClock p e).clock = h.clock ∧
    (h.correctClock p e).bcn = { h.bcn with lastStep := Int.tdiv e 10, slew := 2 * e.natAbs } := by
  unfold correctClock
  extract_lets x bcn h1
  have h1e : h1 = { h with bcn := { bcn with slew := 2 * e.natAbs } } := if_neg (by omega)
  rw [if_neg (by omega)]
  constructor
  · refine (fire_keeps .clock (by decide)).trans ?_
    rw [h1e]
    rfl
  · rw [fire_bcn, flag_bcn, h1e]

/-- A correction that is not 0 is said. -/
theorem correctClock_says (some_ : e ≠ 0) :
    (h.correctClock p e).bcn.lastStep = Int.tdiv e 10 ∧ bit 6 ((h.correctClock p e).reg Rg.bcnFlags) = true := by
  unfold correctClock
  extract_lets x bcn h1
  have h1s : h1.bcn.lastStep = Int.tdiv e 10 := by
    unfold h1
    split <;> rfl
  rw [if_neg some_, fire_bcn, flag_bcn, fire_reg (by decide), reg_flag]
  exact ⟨h1s, bit_setBit _ _⟩

/-- Once no correction is left the entry to LOCKED says so, and beyond the timebase's own state leaves the Beacon, its flags and CLOCK. -/
theorem enterLocked_leaves : ∃ g, ({ h with bcn := { h.bcn with correction := none } } : Hub).enterLocked p = g ∧ g.clock = h.clock ∧
    g.reg Rg.bcnFlags = h.reg Rg.bcnFlags ∧
    g.bcn = { h.bcn with correction := none, timebase := .locked, undecoded := 0, shadowRef := h.bcn.shadowDiff } ∧
    g.raised Ev.bcnLocked (u8 p) := by
  refine ⟨_, rfl, ?_⟩
  unfold enterLocked
  extract_lets x h1
  refine ⟨?_, ?_, ?_, bearingsMoved_besideBeacon.locked _ (fire_raised (by decide) (by decide))⟩
  · exact (bearingsMoved_keeps .clock (by decide)).trans (fire_keeps .clock (by decide))
  · rw [bearingsMoved_besideBeacon.flags, fire_reg (by decide)]
    rfl
  · exact (bearingsMoved_keeps .bcn (by decide)).trans (fire_bcn ..)

/-- Outside ACQUIRING the lock does nothing. -/
theorem timebaseLock_of_other (other : h.bcn.timebase ≠ .acquiring) : h.timebaseLock = h := by
  unfold timebaseLock
  split
  · exact if_neg fun ⟨acquiring, _⟩ => other acquiring
  · rfl

/-- R294's conditions but for the correction itself. -/
structure locks (h : Hub) (p : Nat) (e : Int) : Prop where
  follows : h.followPort = some p
  measured : h.bcn.correction = some e
  acquiring : h.bcn.timebase = .acquiring
  accepted : 4 ≤ h.bcn.acceptedRun
  upLocked : (h.probe p).upLocked = true
  sampled : h.bcn.sampleFull = true
  absorbed : h.bcn.slew = 0

theorem timebaseLock_of_locks (hl : h.locks p e) : h.timebaseLock =
    if e < 0 then { h.correctClock p e with bcn := { (h.correctClock p e).bcn with correction := some 0 } }
    else ({ h.correctClock p e with bcn := { (h.correctClock p e).bcn with correction := none } } : Hub).enterLocked p := by
  simp [timebaseLock, hl.follows, hl.measured, hl.acquiring, hl.accepted, hl.upLocked, hl.sampled, hl.absorbed]

end Lock

theorem settled_bcn {x : Access} : (h.keeperLeave x).settle.bcn = h.bcn := rfl

/-! ### BEARING_RESTORE (R283, R306) -/

section Restore

variable {l : Nat}

/-- The input in use of a bearing is looked at: the inputs themselves stay, and so do the restorations that run. -/
theorem resource_inputs : (h.resource l).bcn.encs = h.bcn.encs ∧ (h.resource l).bcn.restores = h.bcn.restores := by
  unfold resource
  extract_lets x w h1 y
  have h1b : h1.bcn.encs = h.bcn.encs ∧ h1.bcn.restores = h.bcn.restores := by
    unfold h1
    split
    · rw [loseSource, fire_bcn, flag_bcn]
      exact ⟨rfl, rfl⟩
    · exact ⟨rfl, rfl⟩
  split
  · exact ⟨rfl, rfl⟩
  · rw [fire_bcn, flag_bcn]
    exact h1b

theorem encClear_restores : (h.encClear n).bcn.restores = h.bcn.restores := by
  unfold encClear
  extract_lets x
  split <;> rfl

/-- The input whose fault is cleared has none. -/
theorem encClear_unfaulted (input : n < 8) : ((h.encClear n).encoder n).state ≠ .faulted := by
  unfold encClear
  extract_lets x
  split
  · rw [setEncoder_encoder]
    dsimp only
    split <;> decide
  next sound => exact fun faulted => sound ⟨input, faulted⟩

/-- No clearing makes a fault. -/
theorem encClear_unfaulted_other (sound : (h.encoder n).state ≠ .faulted) : ((h.encClear k).encoder n).state ≠ .faulted := by
  by_cases same : n = k ∧ k < 8
  · obtain ⟨rfl, input⟩ := same
    exact encClear_unfaulted input
  · unfold encClear
    extract_lets x
    split
    next clears => rwa [setEncoder_encoder_ne _ _ _ _ fun hk => same ⟨hk, clears.1⟩]
    · exact sound

/-- The hub with the faults of a bearing's inputs cleared (R306). -/
def sourceCleared (h : Hub) (l : Nat) : Hub :=
  if l = 0 then (h.encClear (h.val (Od.srcPrimary l))).encClear (h.val (Od.srcSecondary 0)) else h.encClear (h.val (Od.srcPrimary l))

theorem sourceCleared_keeps : (h.sourceCleared l).keeps h [.bcn] := ite_keeps (encClear_keeps.trans encClear_keeps) encClear_keeps

theorem sourceCleared_restores : (h.sourceCleared l).bcn.restores = h.bcn.restores := by
  unfold sourceCleared
  split
  · exact encClear_restores.trans encClear_restores
  · exact encClear_restores

theorem sourceCleared_unfaulted (input : h.val (Od.srcPrimary l) < 8) :
    ((h.sourceCleared l).encoder (h.val (Od.srcPrimary l))).state ≠ .faulted := by
  unfold sourceCleared
  split
  · exact encClear_unfaulted_other (encClear_unfaulted input)
  · exact encClear_unfaulted input

theorem sourceLost_congr {a b : Hub} (hb : a.bcn = b.bcn) (ho : a.od = b.od) : a.sourceLost l = b.sourceLost l := by
  have input (m : Nat) : a.encoder m = b.encoder m := encoder_congr (by rw [hb])
  have wanted : a.wantedInput l = b.wantedInput l := by simp only [wantedInput, val_congr ho, input]
  simp only [sourceLost, val_congr ho, wanted]

theorem bearingState_congr {a b : Hub} (hb : a.bcn = b.bcn) (hm : a.mode = b.mode) : a.bearingState l = b.bearingState l := by
  have clock : a.clockState = b.clockState := by rw [clockState, hm, hb, clockState]
  have source : a.isSource = b.isSource := by rw [Hub.isSource, hm, Hub.isSource]
  have bearing : a.bearing l = b.bearing l := bearing_congr (by rw [hb])
  rw [bearingState, clock, source, bearing, hb, bearingState]

/-- With its source lost, the bearing's inputs are tried for 10 ms, a fault of its primary input cleared. -/
theorem restoreStart_of_lost (lost : h.sourceLost l = true) :
    (h.restoreStart l c).bcn.restores = h.bcn.restores ++ [(l, h.clock + 100000000, c)] ∧
      (h.restoreStart l c).keeps h [.od, .regs, .evt, .bcn, .pwr] ∧
      (h.val (Od.srcPrimary l) < 8 → ((h.restoreStart l c).encoder (h.val (Od.srcPrimary l))).state ≠ .faulted) := by
  unfold restoreStart
  rw [if_neg (by simp [lost])]
  extract_lets h1 h2
  have h2k : h2.keeps h [.od, .regs, .evt, .bcn, .pwr] := resource_keeps.trans sourceCleared_keeps.within
  obtain ⟨encs, restores⟩ : h2.bcn.encs = (h.sourceCleared l).bcn.encs ∧ h2.bcn.restores = (h.sourceCleared l).bcn.restores :=
    resource_inputs
  refine ⟨?_, withBcn_keeps.after (b := h2) h2k, fun input => ?_⟩
  · rw [show h2.clock = h.clock from h2k .clock (by decide), restores, sourceCleared_restores]
  · have same : h2.encoder (h.val (Od.srcPrimary l)) = (h.sourceCleared l).encoder (h.val (Od.srcPrimary l)) := encoder_congr encs
    have sound := sourceCleared_unfaulted input
    rwa [← same] at sound

end Restore

/-! ### BEACON_CAPTURE (R305) -/

/-- The one capture that waits fires: CLOCK is at its instant, and the values are of that instant. -/
theorem captureFire_of_one {x : Capture} (one : h.bcn.captures = [x]) (command : x.channel < 8) :
    h.captureFire.clock = max h.clock (x.at_ * 10) ∧ h.captureFire.bcn.captures = [] ∧
      ∃ g : Hub, g.keeps h [.clock, .bcn] ∧
        h.captureFire = g.finish x.channel 0 (({ h with clock := max h.clock (x.at_ * 10) } : Hub).captureData x.at_) := by
  have fired : h.captureFire = ({ h.reach (x.at_ * 10) with bcn := { (h.reach (x.at_ * 10)).bcn with captures := [] } } : Hub).finish
      x.channel 0 (({ h with clock := max h.clock (x.at_ * 10) } : Hub).captureData x.at_) := by
    unfold captureFire
    rw [one]
    dsimp only [firstCapture]
    rw [done, if_pos command, show (h.reach (x.at_ * 10)).bcn.captures = [x] from one, List.filter_cons_of_neg (by simp),
      List.filter_nil]
    rfl
  rw [fired]
  exact ⟨finish_keeps .clock (by decide), by rw [finish_bcn], _, withBcn_keeps.after (b := h.reach (x.at_ * 10)) reach_keeps, rfl⟩

/-! ### PROBE_NOW (R306) -/

/-- The exchange of a PROBE_NOW begins, where none is under way: its request leaves where R124 lets it. -/
theorem probeNext_of_waiting {rest : List Nat} (idle : (h.probe p).command = none) (waits : (h.probe p).commands = c :: rest) :
    h.probeNext p = (h.setProbe p { h.probe p with out := none, command := some c, commands := rest }).probeSend p := by
  unfold probeNext
  extract_lets x
  split
  next c' rest' _ waits' =>
    obtain ⟨rfl, rfl⟩ : c = c' ∧ rest = rest' := by simpa using waits.symm.trans waits'
    rfl
  next none => exact (none _ _ idle waits).elim

/-- A request that leaves changes its own sequence of the link's measurement, and what is outstanding. -/
theorem probeSend_probe : ∃ out seq, (h.probeSend p).probe p = { h.probe p with out := out, seq := seq } := by
  unfold probeSend
  extract_lets x q
  split
  · exact ⟨_, _, rfl⟩
  · exact ⟨some (q, h.clock), q, (probe_congr (pacedOut_keeps .bcn (by decide))).trans (setProbe_probe ..)⟩

theorem probeSend_gave (runs : h.running p = true) (room : (h.link p).paced < h.paceLimit p) :
    (h.probeSend p).gave h (.block p (h.zeroLane p) (probeBytes false false (((h.probe p).seq + 1) % 16) 0 0)) := by
  unfold probeSend
  extract_lets x q
  rw [if_neg (by simp [runs, room])]
  exact (pacedOut_gave (h := h.setProbe p _) room).mono (List.suffix_refl _) (List.suffix_refl _)

/-- The PROBE_NOW under way fails: its channel ends, and the next one begins, with the filter as it was. -/
theorem probeFail_of_command (under : (h.probe p).command = some c) (command : c < 8) (runs : (h.chan c).state = .running) :
    (h.probeFail p).ended c (h.chan c).code (h.chan c).tag (abFailed 1) [] ∧
      ((h.probeFail p).probe p).command = (h.probe p).commands.head? ∧
      ((h.probeFail p).probe p).commands = (h.probe p).commands.tail ∧ ((h.probeFail p).probe p).values = (h.probe p).values := by
  unfold probeFail
  extract_lets x
  split
  next c' under' =>
    obtain rfl : c = c' := Option.some.inj (under.symm.trans under')
    rw [done, if_pos command]
    let y : ProbeSt := { x with out := none, command := none }
    let g := (h.setProbe p y).finish c (abFailed 1) []
    change (g.probeNext p).ended _ _ _ _ _ ∧ ((g.probeNext p).probe p).command = _ ∧ ((g.probeNext p).probe p).commands = _ ∧
      ((g.probeNext p).probe p).values = _
    have gp : g.probe p = y := (probe_congr (finish_bcn ..)).trans (setProbe_probe ..)
    have ended : g.ended c (h.chan c).code (h.chan c).tag (abFailed 1) [] := (h.setProbe p y).finish_ended c (abFailed 1) [] runs
    constructor
    · rwa [Hub.ended, chan_congr (congrArg CtlSt.channels (probeNext_keeps .ctl (by decide)))]
    cases waiting : x.commands with
    | nil =>
      rw [probeNext_of_none (by rw [gp]; exact waiting), gp]
      exact ⟨rfl, waiting, rfl⟩
    | cons next rest =>
      rw [probeNext_of_waiting (by rw [gp]) (by rw [gp]; exact waiting)]
      obtain ⟨out, seq, sent⟩ := probeSend_probe (p := p)
        (h := g.setProbe p { g.probe p with out := none, command := some next, commands := rest })
      rw [sent, setProbe_probe, gp]
      exact ⟨rfl, rfl, rfl⟩
  next none => exact absurd (under.symm.trans none) (by simp)

end Operations
end Hub
/-! ### The clauses -/

section Clauses

open Hub

variable {s : State} {p : Fin 3} {seq : Fin 16} {P : Hub → Prop}

/-- The answer to a delay probe request, with its TURN (R292). -/
def Hub.probeReply (h : Hub) (p seq turn : Nat) : Bytes :=
  probeBytes true (h.isRoot || decide (h.bcn.timebase = .locked)) seq turn (if h.upEnd p then h.offsetS else 0)

/-- A good request on a RUNNING link is answered by a paced block. -/
theorem probeRequest_completes (live : s.hub.live) (runs : s.hub.running p = true)
    (hP : ∀ (d : Nat) (x : LanesSt) (n turn : Nat), x.ports = s.hub.lanes.ports →
      P (({ s.hub with draws := d, lanes := x } : Hub).pacedOut p n (s.hub.probeReply p seq turn)).settle) :
    Completes (.delayProbeRequest ⟨p, true⟩ seq) s P := by
  refine completes_onHub (fun h => h.heard p true (fun h => h.probeRequest p seq)) live ?_
  obtain ⟨x, ports, woken⟩ := s.hub.rxWakeOn_ports (p := p)
  change P ((s.hub.rxWakeOn p).probeRequest p seq).settle
  rw [woken]
  unfold probeRequest
  extract_lets o locked
  rw [if_pos (show Hub.running { s.hub with lanes := x } p = true from runs)]
  exact hP _ x _ o.2 ports

/-- A good response, `lapse` after the command before. -/
theorem probeResponse_completes {upLocked : Bool} {turn offset lapse : Word} (live : s.hub.live)
    (hP : ∀ x : LanesSt, P ((s.hub.blockAt lapse.toNat x).probeResponse p seq upLocked turn.toNat offset.toNat).settle) :
    Completes (.delayProbeResponse ⟨p, true⟩ seq upLocked turn offset lapse) s P := by
  refine completes_onHub
    (fun h => (h.pass lapse.toNat).heard p true (fun h => h.probeResponse p seq upLocked turn.toNat offset.toNat)) live ?_
  obtain ⟨x, woken⟩ := (s.hub.pass lapse.toNat).rxWakeOn_eq (p := p)
  change P (((s.hub.pass lapse.toNat).rxWakeOn p).probeResponse p seq upLocked turn.toNat offset.toNat).settle
  rw [woken]
  exact hP x

/-- One of the outstanding sequence, with no command waiting behind it. -/
theorem probeResponse_completes_of_match {upLocked : Bool} {turn offset lapse : Word} {t1 : Nat} (live : s.hub.live)
    (sent : (s.hub.probe p).out = some (seq.val, t1)) (alone : (s.hub.probe p).commands = [])
    (hP : ∀ (x : LanesSt) (g h : Hub), g = (s.hub.blockAt lapse.toNat x).probeEnded p t1 turn.toNat offset.toNat upLocked →
      h.bcn = g.bcn → (∀ e : Entry, e.key < 0x600000 → h.val e = g.val e) → h.reg Rg.bcnFlags = g.reg Rg.bcnFlags → P h) :
    Completes (.delayProbeResponse ⟨p, true⟩ seq upLocked turn offset lapse) s P := by
  refine probeResponse_completes live fun x => ?_
  obtain ⟨d, ends⟩ := probeResponse_of_match (h := s.hub.blockAt lapse.toNat x) (turn := turn.toNat) (offset := offset.toNat)
    (upLocked := upLocked) p.isLt sent alone
  rw [ends]
  refine hP x _ _ rfl ?_ (fun e he => ?_) ?_
  · rw [settle_bcn, doneOpt_bcn]
  · rw [val_congr (settle_od _), doneOpt_val he]
  · rw [reg_congr (settle_regs _), doneOpt_reg (by decide)]

/-- BEARING_RESTORE that Keeper takes and no check refuses. -/
theorem bearingRestore_completes {req : Path} {c : Fin 8} {tag : BitVec 16} {b : Byte} (ht : s.hub.takes req c 0x0700)
    (range : b.toNat ≤ 2) (source : s.hub.isSource = true)
    (hP : ∀ (g : Hub) (a : Access), g.issued s.hub req c 0x0700 tag.toNat [b] → P ((g.restoreStart b.toNat c).keeperLeave a).settle) :
    Completes (.bearingRestore req c tag [b]) s P := by
  have named : field [b] 0 1 = b.toNat := by simp [field, leNat]
  refine completes_onIssued (tag := tag.toNat) (f := fun h => h.cmdBearingRestore req c tag.toNat [b])
    (fun h => h.restoreStart b.toNat c) ht (by simp) (fun y => ?_) hP
  rw [cmdBearingRestore, named]
  exact issue_unrefused (firstAbort_none.2 (by simp [argLen, range])) (firstState_none.2 (by simpa using! source))

/-- BEACON_CAPTURE that Keeper takes, of an instant that no check refuses. -/
theorem beaconCapture_completes {req : Path} {c : Fin 8} {tag : BitVec 16} {args : Bytes} (ht : s.hub.takes req c 0x0701)
    (length : args.length = 8) (soon : s.hub.clock + 10000 ≤ field args 0 8 * 10)
    (late : field args 0 8 * 10 ≤ s.hub.clock + 100000000000) :
    Completes (.beaconCapture req c tag args) s fun h =>
      h.busyWith c 0x0701 tag.toNat ∧ h.bcn.captures = s.hub.bcn.captures ++ [⟨field args 0 8, c.val⟩] := by
  refine completes_onIssued (args := args) (tag := tag.toNat) (f := fun h => h.cmdBeaconCapture req c tag.toNat args)
    (fun h => { h with bcn := { h.bcn with captures := h.bcn.captures ++ [⟨field args 0 8, c.val⟩] } }) ht (by omega) (fun y => ?_)
    fun g a hg => ?_
  · rw [cmdBeaconCapture]
    refine issue_unrefused (firstAbort_none.2 ?_) rfl
    simp only [argLen, List.mem_cons, List.not_mem_nil, or_false]
    rintro x (rfl | rfl)
    · simp [length]
    · simp [soon, late]
  · have bcn : g.bcn = s.hub.bcn := hg.kept .bcn (by decide)
    exact ⟨hg.busy withBcn_keeps, by rw [← bcn]; rfl⟩

/-- PROBE_NOW that Keeper takes, on a RUNNING link. -/
theorem probeNow_completes {req : Path} {c : Fin 8} {tag : BitVec 16} (ht : s.hub.takes req c 0x0702) (runs : s.hub.running p = true)
    (hP : ∀ (g : Hub) (a : Access), g.issued s.hub req c 0x0702 tag.toNat [BitVec.ofNat 8 p] →
      P ((((g.setProbe p { g.probe p with commands := (g.probe p).commands ++ [c.val] }).probeNext p).keeperLeave a).settle)) :
    Completes (.probeNow req c tag [BitVec.ofNat 8 p]) s P := by
  have named : field [BitVec.ofNat 8 p] 0 1 = p := field_port (by omega)
  refine completes_onIssued (tag := tag.toNat) (f := fun h => h.cmdProbeNow req c tag.toNat [BitVec.ofNat 8 p])
    (fun h => (h.setProbe p { h.probe p with commands := (h.probe p).commands ++ [c.val] }).probeNext p) ht (by simp)
    (fun y => ?_) hP
  rw [cmdProbeNow, named]
  exact issue_unrefused (firstAbort_none.2 (by simp [argLen]; omega)) (firstState_none.2 (by simpa using! runs))

end Clauses

/-- Settles O29: a block to send is paced alone, a response leaves the measurement that its value filters, the lock corrects CLOCK before the
entry to LOCKED says so, and each command leaves of the Beacon the one list or measurement that its exchange or wait is kept in. -/
theorem probesMeasureAndTheTimebaseLocks : Obligations.ProbesMeasureAndTheTimebaseLocks := by
  refine ⟨?answers, ?defers, ?ends, ?near, ?far, ?other, ?badCrc, ?locks, ?absorbs, ?idle, ?stands, ?restores, ?waits, ?fires, ?probes,
    ?queues, ?fails⟩
  case answers =>
    intro s p seq live runs room
    refine probeRequest_completes live runs fun d x n turn ports => ?_
    rw [← Hub.paceLimit_congr (a := { s.hub with draws := d, lanes := x }) ports] at room
    exact ⟨⟨turn, n, (Hub.pacedOut_gave room).mono Hub.settle_grows.out (List.suffix_refl _)⟩, Hub.pacedOut_keeps .bcn (by decide),
      Hub.pacedOut_paced room⟩
  case defers =>
    intro s p seq live runs full stand
    refine probeRequest_completes live runs fun d x n turn ports => ?_
    rw [← Hub.paceLimit_congr (a := { s.hub with draws := d, lanes := x }) ports] at full
    rw [Hub.pacedOut_of_full full, Hub.settle_of_linesStand (by exact stand)]
    exact ⟨rfl, rfl, n, turn, congrArg LinkSt.deferred Hub.updLink_link_same⟩
  case ends =>
    intro s p seq upLocked turn offset lapse t1 live sent alone
    refine probeResponse_completes_of_match live sent alone fun x g h ended bcn _ _ => ?_
    rw [Hub.probe_congr bcn, ended, Hub.probeEnded_probe p.isLt]
    obtain ⟨values, rejects, filtered⟩ := ProbeSt.filtered_eq
    rw [filtered]
    exact ⟨rfl, rfl, rfl, rfl, rfl⟩
  case near =>
    intro s p seq upLocked turn offset lapse t1 v live sent alone value near
    refine probeResponse_completes_of_match live sent alone fun x g h ended bcn _ _ => ?_
    rw [Hub.probe_congr bcn, ended, Hub.probeEnded_probe p.isLt, value]
    rw [value] at near
    exact ProbeSt.filtered_of_near (x := (s.hub.probe p).answered _ _ _) near
  case far =>
    intro s p seq upLocked turn offset lapse t1 v live sent alone value some_ far
    refine probeResponse_completes_of_match live sent alone fun x g h ended bcn vals flags => ?_
    rw [Hub.probe_congr bcn, vals _ (by simp only [Od.prbProbesRejected]; omega), flags, ended, Hub.probeEnded_probe p.isLt, value]
    rw [value] at far
    exact ⟨ProbeSt.filtered_of_far (x := (s.hub.probe p).answered _ _ _) some_ far, Hub.probeEnded_rejects p.isLt some_ far⟩
  case other =>
    intro s p seq upLocked turn offset lapse live other
    refine probeResponse_completes live fun x => ?_
    rw [Hub.probeResponse_of_other (h := s.hub.blockAt lapse.toNat x) other]
    exact ⟨rfl, rfl⟩
  case badCrc =>
    intro s p seq upLocked turn offset lapse live
    exact completes_onHub (fun h => (h.pass lapse.toNat).heard p false
      (fun h => h.probeResponse p seq upLocked turn.toNat offset.toNat)) live
      ⟨(s.hub.pass lapse.toNat).updLink_ctrlCrc, Hub.bit_flag, rfl⟩
  case locks =>
    intro s p e live follows measured acquiring accepted upLocked sampled absorbed forward
    have locks : s.hub.locks p e := ⟨follows, measured, acquiring, accepted, upLocked, sampled, absorbed⟩
    refine completes_onHub (fun h => h.timebaseLock) live ?_
    obtain ⟨g, entered, clock, flags, bcn, event⟩ := (s.hub.correctClock p e).enterLocked_leaves (p := p)
    rw [Hub.timebaseLock_of_locks locks, if_neg (by omega), entered, Hub.settle_bcn, Hub.settle_clock,
      Hub.reg_congr (Hub.settle_regs _), clock, flags, bcn]
    exact ⟨⟨rfl, rfl, Hub.correctClock_clock forward, Hub.correctClock_says⟩, Hub.settle_raised event⟩
  case absorbs =>
    intro s p e live follows measured acquiring accepted upLocked sampled absorbed backward
    have locks : s.hub.locks p e := ⟨follows, measured, acquiring, accepted, upLocked, sampled, absorbed⟩
    refine completes_onHub (fun h => h.timebaseLock) live ?_
    rw [Hub.timebaseLock_of_locks locks, if_pos backward, Hub.settle_bcn, Hub.settle_clock, Hub.reg_congr (Hub.settle_regs _)]
    obtain ⟨clock, bcn⟩ := s.hub.correctClock_backward (p := p) backward
    obtain ⟨step, flag⟩ := s.hub.correctClock_says (p := p) (show e ≠ 0 by omega)
    refine ⟨?_, rfl, ?_, clock, step, flag⟩
    · exact (congrArg BcnSt.timebase bcn).trans acquiring
    · exact congrArg BcnSt.slew bcn
  case idle =>
    intro s live other
    refine completes_onHub (fun h => h.timebaseLock) live ?_
    rw [Hub.timebaseLock_of_other other]
    exact ⟨rfl, rfl⟩
  case stands =>
    intro s req c tag b ht range source found
    refine bearingRestore_completes ht range source fun g a hg => ?_
    have bcn : g.bcn = s.hub.bcn := hg.kept .bcn (by decide)
    have stands : g.restoreStart b.toNat c = g.finish c 0 (u8 (s.hub.bearingState b.toNat).code) := by
      rw [← Hub.bearingState_congr bcn hg.kept.mode]
      rw [← Hub.sourceLost_congr bcn (hg.kept .od (by decide))] at found
      rw [Hub.restoreStart, if_pos (by simp [found]), Hub.done, if_pos c.isLt]
    rw [stands]
    exact ⟨Hub.settled_ended (hg.ends rfl), by rw [Hub.settled_bcn, Hub.finish_bcn, bcn]⟩
  case restores =>
    intro s req c tag b ht range source lost
    refine bearingRestore_completes ht range source fun g a hg => ?_
    have bcn : g.bcn = s.hub.bcn := hg.kept .bcn (by decide)
    rw [← Hub.sourceLost_congr bcn (hg.kept .od (by decide))] at lost
    obtain ⟨restores, keeps, sound⟩ := Hub.restoreStart_of_lost (c := c) lost
    rw [bcn, show g.clock = s.hub.clock from hg.kept .clock (by decide)] at restores
    rw [Hub.val_congr (hg.kept .od (by decide))] at sound
    exact ⟨hg.busy keeps, restores, sound⟩
  case waits => exact fun _ _ _ _ _ ht length soon late => beaconCapture_completes ht length soon late
  case fires =>
    intro s x live one command runs
    obtain ⟨clock, none, g, keeps, fired⟩ := Hub.captureFire_of_one one command
    refine completes_onHub (fun h => h.captureFire) live ⟨clock, none, ?_⟩
    dsimp only
    have chan : g.chan x.channel = s.hub.chan x.channel := Hub.chan_congr (congrArg CtlSt.channels (keeps .ctl (by decide))) _
    have ended := g.finish_ended x.channel 0 (({ s.hub with clock := max s.hub.clock (x.at_ * 10) } : Hub).captureData x.at_)
      (by rwa [chan])
    rw [fired]
    rwa [chan] at ended
  case probes =>
    intro s req c tag p ht runs idle alone
    refine probeNow_completes ht runs fun g a hg => ?_
    have probe : g.probe p = s.hub.probe p := Hub.probe_congr (hg.kept .bcn (by decide))
    refine ⟨hg.busy (l := [.out, .lanes, .links, .bcn]) (Hub.probeNext_keeps.trans Hub.setProbe_keeps.within), ?_⟩
    let g1 := g.setProbe p { g.probe p with commands := (g.probe p).commands ++ [c.val] }
    let x : ProbeSt := { s.hub.probe p with out := none, command := some c.val, commands := [] }
    have g1p : g1.probe p = { s.hub.probe p with commands := [c.val] } := by
      rw [Hub.setProbe_probe, probe, alone, List.nil_append]
    have begins : g1.probeNext p = (g1.setProbe p x).probeSend p := by
      rw [Hub.probeNext_of_waiting (by rw [g1p]; exact idle) (by rw [g1p]), g1p]
    change ((g1.probeNext p).probe p).command = _ ∧ (_ → Hub.sentBlock (Hub.settle (Hub.keeperLeave (g1.probeNext p) a)) _ _ _)
    rw [begins]
    obtain ⟨out, seq, sent⟩ := (g1.setProbe p x).probeSend_probe (p := p)
    refine ⟨by rw [sent, Hub.setProbe_probe], fun room => ?_⟩
    have kept : (g1.setProbe p x).keeps s.hub [.out, .ctl, .eng, .io, .bcn] :=
      Hub.setProbe_keeps.after (Hub.setProbe_keeps.after hg.kept.within)
    have gave := Hub.probeSend_gave (h := g1.setProbe p x) (p := p) ((kept.running).trans runs)
      (by rwa [kept.link, Hub.paceLimit_congr (congrArg LanesSt.ports (kept .lanes (by decide)))])
    rw [Hub.setProbe_probe] at gave
    exact ⟨_, gave.mono Hub.settle_grows.out hg.gave.suffix⟩
  case queues =>
    intro s req c tag p other ht runs busy
    refine probeNow_completes ht runs fun g a hg => ?_
    have probe : g.probe p = s.hub.probe p := Hub.probe_congr (hg.kept .bcn (by decide))
    rw [probe, Hub.probeNext_of_busy (by rw [Hub.setProbe_probe]; exact busy)]
    exact ⟨hg.busy Hub.setProbe_keeps, Hub.setProbe_probe ..⟩
  case fails =>
    intro s p c live under command runs
    obtain ⟨ended, next, rest, values⟩ := Hub.probeFail_of_command under command runs
    exact completes_onHub (fun h => h.probeFail p) live ⟨ended, next, rest, values⟩

end Sys2Proof.Machine
